-- ==== Sys2Proof/Word.lean ====
section
/-! DEFINITION. Words, bytes and the small index types of the GY880 package (00 Conventions, 01 R18). -/

namespace Sys2Proof

/-- One byte. -/
abbrev Byte := BitVec 8
/-- A register word: every register access is 32 bits (19 R670). -/
abbrev Word := BitVec 32
/-- A 64-bit word: masks of a cairn, GTIME, counters of a link. -/
abbrev DWord := BitVec 64

/-- The compute dies CD0–CD7 (R18). -/
abbrev CDie := Fin 8
/-- The port dies PD0 and PD1 (R18). -/
abbrev PDie := Fin 2
/-- Every die by its D field value: CDn is n, PD0 is 8 and PD1 is 9 (R18). -/
abbrev Die := Fin 10
/-- The 24 ports: E0–E17 are 0–17, O0–O5 are 18–23 (R266). -/
abbrev Port := Fin 24
/-- The six optical ports O0–O5 (R266). -/
abbrev OptPort := Fin 6
/-- The 36 mailbox channels (R599). -/
abbrev Chan := Fin 36
/-- A partition number, the PART tag (R522). -/
abbrev Part := Fin 64
/-- A context of a partition (R194). -/
abbrev Ctx := Fin 8
/-- A queue of a context (R194). -/
abbrev QIx := Fin 16

/-- A compute die as a die. -/
def CDie.die (c : CDie) : Die := ⟨c.val, by omega⟩
/-- A port die as a die. -/
def PDie.die (k : PDie) : Die := ⟨8 + k.val, by omega⟩
/-- The die PD0. -/
def pd0 : Die := 8
/-- The die PD1. -/
def pd1 : Die := 9
/-- The compute die of a D value, none for a port die. -/
def Die.cd? (d : Die) : Option CDie := if h : d.val < 8 then some ⟨d.val, h⟩ else none
/-- The port die of a D value, none for a compute die. -/
def Die.pd? (d : Die) : Option PDie := if d.val < 8 then none else some (if d.val = 8 then 0 else 1)

/-- All compute dies in order. -/
def allCDies : List CDie := [0, 1, 2, 3, 4, 5, 6, 7]
/-- All dies in order. -/
def allDies : List Die := [0, 1, 2, 3, 4, 5, 6, 7, 8, 9]

/-- Optical? Ports O0–O5 (R266). -/
def Port.isOpt (p : Port) : Bool := 18 ≤ p.val
/-- The port die a port lies on: E0–E8 and O0–O2 on PD0, the rest on PD1 (R322, R675). -/
def Port.pdie (p : Port) : PDie := if p.val < 9 then 0 else if p.val < 18 then 1 else if p.val < 21 then 0 else 1
/-- The local index i of a port on its die (R322): i < 9 is E(9k + i), 9 ≤ i is O(3k + i − 9). -/
def Port.local (p : Port) : Nat :=
  if p.val < 9 then p.val else if p.val < 18 then p.val - 9 else if p.val < 21 then p.val - 18 + 9 else p.val - 21 + 9
/-- The optical port of a port number. -/
def Port.opt? (p : Port) : Option OptPort := if h : 18 ≤ p.val then some ⟨p.val - 18, by omega⟩ else none
/-- The port number of an optical port. -/
def OptPort.port (j : OptPort) : Port := ⟨18 + j.val, by omega⟩

/-- The sum of two counts, stopping at `top`. -/
def satAdd (top a b : Nat) : Nat := if a + b ≤ top then a + b else top

/-- A value clamped into [lo, hi]. -/
def clamp (lo hi v : Nat) : Nat := if v < lo then lo else if hi < v then hi else v

/-- A signed value clamped into [lo, hi]. -/
def clampInt (lo hi v : Int) : Int := if v < lo then lo else if hi < v then hi else v

/-- Division rounding up. -/
def ceilDiv (a b : Nat) : Nat := (a + b - 1) / b

end Sys2Proof
end

