-- ==== Sys2Proof/Config.lean ====
section
/-! DEFINITION. What an implementation fixes and the spec does not state: opaque constants with no body, so that no proof
can rest on a value of theirs (NOTES.md, '## Assumptions', log entries 6 and 9). -/

namespace Sys2Proof

/-- A free value: the n-th value the spec leaves open, read and advanced through `State.freeCtr` (log entry 6). -/
opaque Config.freeValue : Nat → BitVec 64

/-- What silicon fixes of the built-in function table of ACT code `act` at word `w` (03 R122); the spec gives the tables' form and not their words, so a
table's words are these put into that form (`builtinWord`). -/
opaque Config.builtinTable : Nat → Nat → BitVec 32

/-- SHA-512 of a byte string (14, 15: plan, firmware and content digests). -/
opaque Config.sha512 : List Byte → BitVec 512

/-- AES-256-GCM: the tag under a key and a 96-bit IV of associated data and plaintext (07 R275, 10 R377). -/
opaque Config.gcmTag : BitVec 256 → BitVec 96 → List Byte → List Byte → BitVec 128

/-- AES-256-GCM: a text under a key and an IV, encrypted or decrypted (14 R542, R544, R545). -/
opaque Config.gcmCrypt : BitVec 256 → BitVec 96 → List Byte → List Byte

/-- HKDF-SHA-512: input keying material, salt, info and length in bytes (14 R531, R541–R544). -/
opaque Config.hkdf : List Byte → List Byte → List Byte → Nat → List Byte

/-- X25519 of a private value and a public key (14 R541, R544). -/
opaque Config.x25519 : BitVec 256 → BitVec 256 → BitVec 256

/-- Ed25519: the public key of a seed, and a signature under it (14 R531). -/
opaque Config.ed25519Public : BitVec 256 → BitVec 256
opaque Config.ed25519Sign : BitVec 256 → List Byte → BitVec 512

/-- The byte of a named status of a message or command: its TYPE or CMD, and the place of the name in the rule's list (14 R546, R550, 15 R566: names
without numbers). -/
opaque Config.statusCode : Nat → Nat → BitVec 8

/-- The SHA-512 digest of the boot ROM (14 R534). -/
opaque Config.romDigest : BitVec 512

/-- The vendor identifier of every PCI function: the PCI-SIG identifier of the maker, whose number the spec does not give (16 R586). -/
opaque Config.vendorId : BitVec 16

end Sys2Proof
end

