-- ==== Sys2Proof/Machine/Packet.lean ====
section
/-! DEFINITION. Fabric coordinates, packets, their header layout and their CRC (08 R305–R313), and the CRC-64 of KV4
pages and partial records (04 R152). -/

namespace Sys2Proof.Machine

/-- Byte `i` of a natural number, little-endian. -/
def byteOf (v i : Nat) : Byte := BitVec.ofNat 8 (v >>> (8 * i))

/-- The low `n` bytes of a natural number, little-endian. -/
def leBytes (v : Nat) : Nat → List Byte
  | 0 => []
  | n + 1 => BitVec.ofNat 8 v :: leBytes (v >>> 8) n

/-- The number a list of bytes spells, little-endian. -/
def leNat : List Byte → Nat
  | [] => 0
  | b :: r => b.toNat + 256 * leNat r

/-- Bits [hi:lo] of a number. -/
def bits (v hi lo : Nat) : Nat := (v >>> lo) % 2 ^ (hi + 1 - lo)

/-- A fabric coordinate (R305). -/
abbrev Coord := BitVec 32

def Coord.cube (c : Coord) : Nat := bits c.toNat 29 24
def Coord.x (c : Coord) : Nat := bits c.toNat 23 20
def Coord.y (c : Coord) : Nat := bits c.toNat 19 16
def Coord.p (c : Coord) : Nat := bits c.toNat 15 12
def Coord.d (c : Coord) : Nat := bits c.toNat 11 8
def Coord.e (c : Coord) : Nat := bits c.toNat 7 4
/-- The package part of a coordinate: CUBE, X, Y and P. -/
def Coord.pkg (c : Coord) : Nat := c.toNat >>> 12
/-- The die part of a coordinate: E is ignored (R342). -/
def Coord.die (c : Coord) : Nat := c.toNat >>> 8

/-- A coordinate from its package part, D and E. -/
def Coord.mk (pkg d e : Nat) : Coord := BitVec.ofNat 32 (pkg <<< 12 + (d % 16) <<< 8 + (e % 16) <<< 4)

/-- The checks of R307: zero bits, no reserved D or E, the switch form with E = 1, X, Y and P within the rack. -/
def Coord.ok (c : Coord) : Bool :=
  bits c.toNat 31 30 == 0 && bits c.toNat 3 0 == 0 && decide (c.e ≤ 4) &&
  (if c.d = 15 then c.x == 15 && c.y == 15 && c.e == 1
   else decide (c.d ≤ 9) && decide (c.x ≤ 3) && decide (c.y ≤ 3) && decide (c.p ≤ 3))

/-- A packet: the header of R309 and the bytes from byte 32 to its end. -/
structure Packet where
  ver : BitVec 4 := 1
  cls : Bool := false
  mc : BitVec 2 := 0
  vch : Bool := false
  epo : Bool := false
  fnc : Bool := false
  ce : Bool := false
  ece : Bool := false
  hops : BitVec 5 := 0
  drt : Bool := false
  len : BitVec 6 := 0
  op : BitVec 8 := 0
  dst : Coord := 0
  src : Coord := 0
  part : BitVec 8 := 0
  md : BitVec 8 := 0
  seq : BitVec 16 := 0
  xid : BitVec 32 := 0
  addr : BitVec 64 := 0
  crc : BitVec 32 := 0
  body : List Byte := []
  deriving DecidableEq, Repr

/-- Bytes 0–27 of a packet (R309). -/
def Packet.head (p : Packet) : List Byte :=
  leBytes (p.ver.toNat + p.cls.toNat <<< 4 + p.mc.toNat <<< 5 + p.vch.toNat <<< 7 + p.epo.toNat <<< 8 +
    p.fnc.toNat <<< 9 + p.ce.toNat <<< 10 + p.ece.toNat <<< 11 + p.hops.toNat <<< 12 + p.drt.toNat <<< 17 +
    p.len.toNat <<< 18 + p.op.toNat <<< 24) 4 ++
  leBytes p.dst.toNat 4 ++ leBytes p.src.toNat 4 ++
  leBytes (p.part.toNat + p.md.toNat <<< 8 + p.seq.toNat <<< 16) 4 ++
  leBytes p.xid.toNat 4 ++ leBytes p.addr.toNat 8

/-- One bit of a reflected CRC-32 step. -/
def crc32Bit (c : Nat) : Nat := if c % 2 = 1 then (c >>> 1) ^^^ 0xEDB88320 else c >>> 1

/-- One byte into a reflected CRC-32. -/
def crc32Byte (c : Nat) (b : Byte) : Nat :=
  crc32Bit (crc32Bit (crc32Bit (crc32Bit (crc32Bit (crc32Bit (crc32Bit (crc32Bit (c ^^^ b.toNat))))))))

/-- The CRC-32 of IEEE 802.3 (R310). -/
def crc32 (bs : List Byte) : BitVec 32 := BitVec.ofNat 32 ((bs.foldl crc32Byte 0xFFFFFFFF) ^^^ 0xFFFFFFFF)

/-- The packet with the fields the CRC takes as zero cleared (R310). -/
def Packet.crcView (p : Packet) : Packet :=
  let q := { p with vch := false, ce := false, hops := 0 }
  if p.drt then { q with md := 0, body := p.body.take 16 ++ List.replicate (min 15 (p.body.length - 16)) 0 ++ p.body.drop 31 }
  else q

/-- The CRC field the packet should carry: over bytes 0–27 and from byte 32 to the end (R310). -/
def Packet.crcOf (p : Packet) : BitVec 32 := crc32 (p.crcView.head ++ p.crcView.body)

/-- The packet's CRC holds (R310). -/
def Packet.crcOk (p : Packet) : Bool := p.crc == p.crcOf

/-- The packet with its CRC filled in by its source (R310). -/
def Packet.seal (p : Packet) : Packet := { p with crc := p.crcOf }

/-- The payload: the area of a control packet, the bytes after the 64-byte header of a data packet (R308). -/
def Packet.payload (p : Packet) : List Byte := if p.cls then p.body.drop 32 else p.body

/-- Flits of 64 bytes a packet occupies (R308, R317). -/
def Packet.flits (p : Packet) : Nat := if p.cls then 1 + p.len.toNat else 1

/-- Bytes of the whole packet. -/
def Packet.size (p : Packet) : Nat := 64 * p.flits

/-- The virtual channel class number: 0 MGT, 1 REQ, 2 RSP (R314). -/
def Packet.vcClass (p : Packet) : Nat := p.mc.toNat

/-- The bytes of a packet as it travels (R308, R309). -/
def Packet.bytes (p : Packet) : List Byte := p.head ++ leBytes p.crc.toNat 4 ++ p.body

/-- The packet a run of bytes spells (R309). -/
def Packet.ofBytes (b : List Byte) : Packet :=
  let w := leNat (b.take 4)
  { ver := BitVec.ofNat 4 w, cls := w.testBit 4, mc := BitVec.ofNat 2 (w >>> 5), vch := w.testBit 7, epo := w.testBit 8
    fnc := w.testBit 9, ce := w.testBit 10, ece := w.testBit 11, hops := BitVec.ofNat 5 (w >>> 12), drt := w.testBit 17
    len := BitVec.ofNat 6 (w >>> 18), op := BitVec.ofNat 8 (w >>> 24)
    dst := BitVec.ofNat 32 (leNat ((b.drop 4).take 4)), src := BitVec.ofNat 32 (leNat ((b.drop 8).take 4))
    part := BitVec.ofNat 8 (leNat ((b.drop 12).take 1)), md := BitVec.ofNat 8 (leNat ((b.drop 13).take 1))
    seq := BitVec.ofNat 16 (leNat ((b.drop 14).take 2)), xid := BitVec.ofNat 32 (leNat ((b.drop 16).take 4))
    addr := BitVec.ofNat 64 (leNat ((b.drop 20).take 8)), crc := BitVec.ofNat 32 (leNat ((b.drop 28).take 4)), body := b.drop 32 }

/-- The whole packet's length in flits, from its first flit (R274, R308). -/
def flitsOf (b : List Byte) : Nat :=
  let w := leNat (b.take 4)
  if w.testBit 4 then 1 + bits w 23 18 else 1

/-- A packet as flits of 64 bytes. -/
def flitList (b : List Byte) : Nat → List (List Byte)
  | 0 => []
  | n + 1 => b.take 64 :: flitList (b.drop 64) n

/-- The operation codes of REQ and RSP packets (R311). -/
def opWRITE : BitVec 8 := 0x01
def opWRITE_MASKED : BitVec 8 := 0x02
def opREAD : BitVec 8 := 0x03
def opAMO : BitVec 8 := 0x04
def opSIGNAL : BitVec 8 := 0x05
def opCAIRN_ABORT : BitVec 8 := 0x06
def opACK : BitVec 8 := 0x41
def opREAD_DATA : BitVec 8 := 0x42
def opREAD_ERR : BitVec 8 := 0x43
def opAMO_RESP : BitVec 8 := 0x44
def opLINK_CREDIT : BitVec 8 := 0x7F

/-- OP, MC and CLS match a row of R311. -/
def Packet.opOk (p : Packet) : Bool :=
  match p.op.toNat with
  | 0x01 => p.mc == 1 && p.cls
  | 0x02 | 0x03 | 0x04 | 0x05 | 0x06 => p.mc == 1 && !p.cls
  | 0x41 | 0x43 | 0x44 => p.mc == 2 && !p.cls
  | 0x42 => p.mc == 2 && p.cls
  | 0x7F => p.mc == 0 && !p.cls
  | n => p.mc == 0 && decide (0x80 ≤ n)

/-- LEN and the length of the bytes match CLS (R308). -/
def Packet.lenOk (p : Packet) : Bool :=
  if p.cls then decide (1 ≤ p.len.toNat) && decide (p.len.toNat ≤ 32) && p.body.length == 32 + 64 * p.len.toNat
  else p.len == 0 && p.body.length == 32

/-- PART matches the class: 0–63 in REQ and RSP, 0xFF in MGT (R309). -/
def Packet.partOk (p : Packet) : Bool := if p.mc == 0 then p.part == 0xFF else decide (p.part.toNat < 64)

/-- Reserved header bits are zero: MOD as R312 and R330 use it, bytes 32–63 of an undirected data packet, bytes 32–47 and 63 of a directed one, byte 63 of a
directed control packet (R309). -/
def Packet.rsvOk (p : Packet) : Bool :=
  (if p.drt then p.body.getD 31 0 == 0 else true) &&
  (if p.cls then (p.body.take (if p.drt then 16 else 32)).all (· == 0) else true) &&
  (if p.drt then decide (p.md.toNat < 32)
   else match p.op.toNat with
    | 0x02 | 0x03 => decide (p.md.toNat < 64)
    | 0x04 => decide (p.md.toNat < 32)
    | 0x01 | 0x05 | 0x06 | 0x42 => p.md == 0
    | _ => true)

/-- No cause FORMAT of R347 applies to the packet's own fields. -/
def Packet.fmtOk (p : Packet) : Bool :=
  (p.mc != 3) && p.lenOk && p.partOk && (!p.drt || p.mc == 0) && p.opOk && p.rsvOk

/-- The partition a REQ or RSP packet carries. -/
def Packet.partNo (p : Packet) : Part := ⟨p.part.toNat % 64, Nat.mod_lt _ (by decide)⟩

/-- Cairn fields of a SIGNAL or CAIRN_ABORT (R309). -/
def Packet.sigCairn (p : Packet) : Nat := bits p.addr.toNat 15 0
def Packet.sigGen (p : Packet) : BitVec 16 := BitVec.ofNat 16 (bits p.addr.toNat 31 16)
def Packet.sigBit (p : Packet) : Nat := bits p.addr.toNat 37 32
/-- The reserved bits of the cairn fields are zero (R309). -/
def Packet.sigRsvOk (p : Packet) : Bool := bits p.addr.toNat 15 13 == 0 && bits p.addr.toNat 63 38 == 0

/-- ADDR of a SIGNAL or CAIRN_ABORT (R309). -/
def sigAddr (cairn : Nat) (gen : BitVec 16) (bit : Nat) : BitVec 64 :=
  BitVec.ofNat 64 (cairn % 8192 + gen.toNat <<< 16 + (bit % 64) <<< 32)

/-- Response status codes (R313). -/
inductive RespStatus where
  | ok | range | memUe | tarnUe | unsupported
  deriving DecidableEq, Repr

def RespStatus.code : RespStatus → BitVec 8
  | .ok => 0 | .range => 1 | .memUe => 2 | .tarnUe => 3 | .unsupported => 4

/-- The status a response's MOD carries; a reserved code is treated as UNSUPPORTED. -/
def RespStatus.ofCode (m : BitVec 8) : RespStatus :=
  if m = 0 then .ok else if m = 1 then .range else if m = 2 then .memUe else if m = 3 then .tarnUe else .unsupported

/-- A response: XID, SEQ and PART are the request's, DST its SRC (R312). A CE of the request returns as ECE of an ACK or
AMO_RESP (R345). -/
def Packet.reply (q : Packet) (src : Coord) (op : BitVec 8) (md : BitVec 8) (data : List Byte) : Packet :=
  Packet.seal
    { mc := 2, op := op, cls := op == opREAD_DATA, len := if op == opREAD_DATA then BitVec.ofNat 6 (data.length / 64) else 0
      ece := q.ce && (op == opACK || op == opAMO_RESP)
      dst := q.src, src := src, part := q.part, md := md, seq := q.seq, xid := q.xid
      body := if op == opREAD_DATA then List.replicate 32 0 ++ data else data ++ List.replicate (32 - data.length) 0 }

/-- One bit of the reflected CRC-64 of R152. -/
def crc64Bit (c : Nat) : Nat := if c % 2 = 1 then (c >>> 1) ^^^ 0xC96C5795D7870F42 else c >>> 1

/-- One byte into the CRC-64. -/
def crc64Byte (c : Nat) (b : Byte) : Nat :=
  crc64Bit (crc64Bit (crc64Bit (crc64Bit (crc64Bit (crc64Bit (crc64Bit (crc64Bit (c ^^^ b.toNat))))))))

/-- The CRC-64 of KV4 pages and partial records (R152). -/
def crc64 (bs : List Byte) : BitVec 64 :=
  BitVec.ofNat 64 ((bs.foldl crc64Byte 0xFFFFFFFFFFFFFFFF) ^^^ 0xFFFFFFFFFFFFFFFF)

end Sys2Proof.Machine
end

