-- ==== Sys2Proof/Machine/Formats.lean ====
section
/-! DEFINITION. Number formats: exact values, element and scale decoding, rounding, output conversion, binary32 arithmetic
and stochastic rounding (02 R45–R84). -/

namespace Sys2Proof.Machine

/-- An exact rational value `num / den`. -/
structure Ex where
  num : Int
  den : Nat := 1
  deriving DecidableEq, Repr

/-- The value times 2^k. -/
def Ex.shl (x : Ex) (k : Int) : Ex :=
  if 0 ≤ k then ⟨x.num * 2 ^ k.toNat, x.den⟩ else ⟨x.num, x.den * 2 ^ (-k).toNat⟩

/-- m × 2^e. -/
def Ex.dy (m e : Int) : Ex := Ex.shl ⟨m, 1⟩ e

def Ex.add (x y : Ex) : Ex := ⟨x.num * y.den + y.num * x.den, x.den * y.den⟩
def Ex.mul (x y : Ex) : Ex := ⟨x.num * y.num, x.den * y.den⟩
/-- The quotient by a positive value. -/
def Ex.div (x y : Ex) : Ex := ⟨x.num * y.den, x.den * y.num.toNat⟩
def Ex.neg? (x : Ex) : Bool := decide (x.num < 0)
def Ex.isZero (x : Ex) : Bool := x.num == 0
/-- x ≤ y for positive denominators. -/
def Ex.le (x y : Ex) : Bool := decide (x.num * y.den ≤ y.num * x.den)
def Ex.lt (x y : Ex) : Bool := decide (x.num * y.den < y.num * x.den)
def Ex.eq (x y : Ex) : Bool := decide (x.num * y.den = y.num * x.den)
def Ex.abs (x : Ex) : Ex := ⟨x.num.natAbs, x.den⟩

/-- floor(log2 |x|) of a non-zero value. -/
def Ex.log2 (x : Ex) : Int :=
  let a := x.num.natAbs
  let e : Int := (Nat.log2 a : Int) - (Nat.log2 x.den : Int)
  if Ex.le (Ex.dy 1 e) ⟨a, x.den⟩ then e else e - 1

/-- floor(x). -/
def Ex.floor (x : Ex) : Int := Int.fdiv x.num x.den

/-- x truncated toward zero. -/
def Ex.trunc (x : Ex) : Int := Int.tdiv x.num x.den

/-- Rounding of a magnitude (R77, R83): nearest even, or stochastic with a 16-bit draw. -/
inductive Rnd where
  | rne
  | sr (draw : Nat)
  deriving DecidableEq, Repr

/-- A magnitude a/b to an integer, and whether it was exact (R77, R83). -/
def roundMag (r : Rnd) (a b : Nat) : Nat × Bool :=
  let q := a / b
  let m := a % b
  let up := match r with
    | .rne => decide (b < 2 * m) || (decide (b = 2 * m) && q % 2 == 1)
    | .sr u => decide (65536 - m * 65536 / b ≤ u)
  (if up then q + 1 else q, m == 0)

/-- An element or scale of a block: a finite integer multiple of the format's unit, ±Inf or NaN. -/
inductive El where
  | fin (m : Int)
  | inf (neg : Bool)
  | nan
  deriving DecidableEq, Repr

/-- A value with specials: a finite exact value with the sign of a zero, ±Inf or NaN. -/
inductive CV where
  | fin (x : Ex) (negZero : Bool)
  | inf (neg : Bool)
  | nan
  deriving DecidableEq, Repr

/-- A floating-point element of `eb` exponent and `mb` mantissa bits as an integer multiple of 2^(1 − bias − mb) (R47). -/
def floatMag (eb mb code : Nat) : Int :=
  let s := (code >>> (eb + mb)) % 2
  let e := (code >>> mb) % 2 ^ eb
  let m := code % 2 ^ mb
  let v : Int := if e = 0 then m else ((2 ^ mb + m) * 2 ^ (e - 1) : Nat)
  if s = 1 then -v else v

/-- The element and scale formats, by code (R45). -/
inductive Fmt where
  | none | fp32 | fp16 | bf16 | e4m3 | e5m2 | e2m3 | e3m2 | mxfp4 | mxint8 | int8b | int4b | sb4 | t2 | a128 | a64 | kv4
  deriving DecidableEq, Repr

/-- The format of a code; none for reserved codes (R45). -/
def Fmt.ofCode (c : Nat) : Option Fmt :=
  match c with
  | 0x00 => some .none | 0x01 => some .fp32 | 0x02 => some .fp16 | 0x03 => some .bf16
  | 0x08 => some .e4m3 | 0x09 => some .e5m2 | 0x0A => some .e2m3 | 0x0B => some .e3m2 | 0x0C => some .mxfp4
  | 0x0D => some .mxint8 | 0x10 => some .int8b | 0x11 => some .int4b | 0x18 => some .sb4 | 0x19 => some .t2
  | 0x20 => some .a128 | 0x21 => some .a64 | 0x28 => some .kv4
  | _ => Option.none

/-- Bits of one stored element. -/
def Fmt.width : Fmt → Nat
  | .fp32 => 32 | .fp16 => 16 | .bf16 => 16 | .e4m3 => 8 | .e5m2 => 8 | .e2m3 => 6 | .e3m2 => 6 | .mxfp4 => 4
  | .mxint8 => 8 | .int8b => 8 | .int4b => 4 | .sb4 => 4 | .t2 => 2 | .a128 => 128 | .a64 => 64 | .kv4 => 4 | .none => 0

/-- Block size L of a block-scaled format, 0 for others (R51). -/
def Fmt.blockL : Fmt → Nat
  | .e4m3 | .e5m2 | .e2m3 | .e3m2 | .mxfp4 | .mxint8 | .int8b | .int4b => 32
  | .sb4 | .kv4 => 16
  | .t2 => 64
  | _ => 0

/-- A block format with an E8M0 scale (R51). -/
def Fmt.isE8 : Fmt → Bool
  | .e4m3 | .e5m2 | .e2m3 | .e3m2 | .mxfp4 | .mxint8 | .int8b | .int4b => true
  | _ => false

/-- The unit exponent of a format's elements: every element is an integer times 2^unit (R47, R48). -/
def Fmt.unit : Fmt → Int
  | .e4m3 => -9 | .e5m2 => -16 | .e2m3 => -3 | .e3m2 => -4 | .mxfp4 => -1 | .sb4 => -1 | .kv4 => -1
  | .mxint8 => -6 | .fp32 => -149 | .fp16 => -24 | .bf16 => -133
  | _ => 0

/-- A two's-complement code of `w` bits. -/
def twos (w code : Nat) : Int := if code % 2 ^ w < 2 ^ (w - 1) then (code % 2 ^ w : Nat) else (code % 2 ^ w : Nat) - (2 ^ w : Nat)

/-- An element code, and whether it is an INVALID T2 code (R47, R48). -/
def Fmt.decode (f : Fmt) (code : Nat) : El × Bool :=
  match f with
  | .fp32 => (if bits code 30 23 = 255 then (if bits code 22 0 = 0 then .inf (bits code 31 31 == 1) else .nan) else .fin (floatMag 8 23 code), false)
  | .fp16 => (if bits code 14 10 = 31 then (if bits code 9 0 = 0 then .inf (bits code 15 15 == 1) else .nan) else .fin (floatMag 5 10 code), false)
  | .bf16 => (if bits code 14 7 = 255 then (if bits code 6 0 = 0 then .inf (bits code 15 15 == 1) else .nan) else .fin (floatMag 8 7 code), false)
  | .e4m3 => (if code % 128 = 127 then .nan else .fin (floatMag 4 3 code), false)
  | .e5m2 => (if bits code 6 2 = 31 then (if bits code 1 0 = 0 then .inf (bits code 7 7 == 1) else .nan) else .fin (floatMag 5 2 code), false)
  | .e2m3 => (.fin (floatMag 2 3 code), false)
  | .e3m2 => (.fin (floatMag 3 2 code), false)
  | .mxfp4 | .sb4 | .kv4 => (.fin (floatMag 2 1 code), false)
  | .mxint8 | .int8b => (.fin (twos 8 code), false)
  | .int4b => (.fin (twos 4 code), false)
  | .t2 => (match code % 4 with
      | 1 => (.fin 1, false) | 3 => (.fin (-1), false) | 2 => (.fin 0, true) | _ => (.fin 0, false))
  | _ => (.fin 0, false)

/-- A decoded block scale: NaN, or mant × 2^exp; and whether INV is set (R47, R49). -/
structure ScaleV where
  nan : Bool
  mant : Nat
  exp : Int
  inv : Bool
  deriving DecidableEq, Repr

/-- A block scale code of a format (R47, R49). -/
def Fmt.scale (f : Fmt) (code : Nat) : ScaleV :=
  if f.isE8 then ⟨code == 255, 1, (code : Int) - 127, false⟩
  else if 128 ≤ code then ⟨true, 0, 0, code != 255⟩
  else if code = 127 then ⟨true, 0, 0, false⟩
  else ⟨false, (floatMag 4 3 code).toNat, -9, false⟩

/-- scale_exp of R67: none for a zero or NaN scale. -/
def Fmt.scaleExp (f : Fmt) (code : Nat) : Option Int :=
  let s := f.scale code
  if s.nan || s.mant == 0 then Option.none
  else if f.isE8 then some s.exp else some ((Nat.log2 s.mant : Int) + s.exp + 1)

/-- The element bound m of R67. -/
def Fmt.boundM : Fmt → Int
  | .mxfp4 | .sb4 | .e2m3 | .int4b | .kv4 => 3
  | .e3m2 => 5 | .e4m3 => 9 | .e5m2 => 16 | .mxint8 => 1 | .int8b => 7 | _ => 0

/-- The value of a binary32, binary16 or bfloat16 code (R47). -/
def Fmt.value (f : Fmt) (code : Nat) : CV :=
  match (f.decode code).1 with
  | .nan => .nan
  | .inf n => .inf n
  | .fin m => .fin (Ex.dy m f.unit) (m == 0 && (code >>> (f.width - 1)) % 2 == 1)

/-- A finite value to a floating format with infinities: code, and whether it was exact; overflow gives ±Inf (R78). -/
def roundIEEE (eb mb : Nat) (r : Rnd) (x : Ex) (negZero : Bool) : Nat × Bool :=
  let sgn := 2 ^ (eb + mb)
  if x.num = 0 then (if negZero then sgn else 0, true) else
  let bias : Int := 2 ^ (eb - 1) - 1
  let e := max x.log2 (1 - bias)
  let g := e - mb
  let y := Ex.shl x.abs (-g)
  let (q, exact) := roundMag r y.num.natAbs y.den
  let c := if q < 2 ^ mb then q else (e + bias - 1).toNat * 2 ^ mb + q
  let top := (2 ^ eb - 1) * 2 ^ mb
  ((if c < top then c else top) + (if x.neg? then sgn else 0), exact && decide (c < top))

/-- binary32 codes as naturals. -/
def f32Nan : Nat := 0x7FC00000
def f32Round (x : Ex) (negZero : Bool) : Nat := (roundIEEE 8 23 .rne x negZero).1
def f32Inf (neg : Bool) : Nat := if neg then 0xFF800000 else 0x7F800000

/-- A value to binary32 with RNE (R123, R161). -/
def CV.toF32 : CV → Nat
  | .nan => f32Nan
  | .inf n => f32Inf n
  | .fin x z => f32Round x z

/-- The binary32 product (R74). -/
def f32Mul (a b : Nat) : Nat :=
  let s := (a >>> 31) ^^^ (b >>> 31) == 1
  match Fmt.fp32.value a, Fmt.fp32.value b with
  | .nan, _ => f32Nan
  | _, .nan => f32Nan
  | .inf _, .fin y _ => if y.isZero then f32Nan else f32Inf s
  | .fin x _, .inf _ => if x.isZero then f32Nan else f32Inf s
  | .inf _, .inf _ => f32Inf s
  | .fin x _, .fin y _ => f32Round (x.mul y) s

/-- The binary32 sum (R75). -/
def f32Add (a b : Nat) : Nat :=
  match Fmt.fp32.value a, Fmt.fp32.value b with
  | .nan, _ => f32Nan
  | _, .nan => f32Nan
  | .inf m, .inf n => if m == n then f32Inf m else f32Nan
  | .inf m, .fin _ _ => f32Inf m
  | .fin _ _, .inf n => f32Inf n
  | .fin x zx, .fin y zy => f32Round (x.add y) (zx && zy)

/-- The binary32 difference. -/
def f32Sub (a b : Nat) : Nat := f32Add a (if b < 0x80000000 then b + 0x80000000 else b - 0x80000000)

/-- π in units of 2^−256. -/
def piFix : Nat := 0x3243F6A8885A308D313198A2E03707344A4093822299F31D0082EFA98EC4E6C89

/-- The alternating series of a sine or a cosine in units of 2^−256: `x2` the square of the angle, `t` the term of degree `k`. -/
def trigSeries (x2 : Nat) : Nat → Nat → Nat → Int
  | 0, _, _ => 0
  | n + 1, k, t => (t : Int) - trigSeries x2 n (k + 2) (t * x2 / 2 ^ 256 / ((k + 1) * (k + 2)))

/-- sin(2π r / 2^32) for r up to a quarter turn, in units of 2^−256: the series at the angle, or at its complement, whichever is at most π/4. -/
def sinQuarter (r : Nat) : Int :=
  let x (r : Nat) : Nat := piFix * r / 2 ^ 31
  if r ≤ 2 ^ 29 then trigSeries (x r * x r / 2 ^ 256) 40 1 (x r)
  else trigSeries (x (2 ^ 30 - r) * x (2 ^ 30 - r) / 2 ^ 256) 40 0 (2 ^ 256)

/-- The binary32 nearest to sin(2π t / 2^32), ties to even (R160): 256 fraction bits leave an error far below the distance of any of the 2^32 values from a
rounding boundary. -/
def sinTurn (t : BitVec 32) : Nat :=
  let n := t.toNat
  let r := n % 2 ^ 30
  let m := if n / 2 ^ 30 % 2 = 0 then sinQuarter r else sinQuarter (2 ^ 30 - r)
  f32Round ⟨if n < 2 ^ 31 then m else -m, 2 ^ 256⟩ false

/-- The binary32 nearest to cos(2π t / 2^32) (R160): the sine a quarter turn on. -/
def cosTurn (t : BitVec 32) : Nat := sinTurn (t + 0x40000000)

/-- The mixing function of R82, modulo 2^64. -/
def srMix (x : Nat) : Nat :=
  let x := x ^^^ (x >>> 31)
  let x := x * 0xD6E8FEB86659FD93 % 2 ^ 64
  let x := x ^^^ (x >>> 29)
  let x := x * 0x9F1B3A55C0D12E47 % 2 ^ 64
  x ^^^ (x >>> 32)

/-- The 16-bit draw of R82. -/
def srDraw (seed tid index : Nat) : Nat :=
  srMix (index % 2 ^ 64 ^^^ srMix (seed ^^^ (tid <<< 32) ^^^ tid)) >>> 48

/-- The largest finite A128 and A64 magnitudes (R55, R56). -/
def a128Max : Int := 2 ^ 127 - 1
def a64Max : Int := 2 ^ 63 - 1

/-- An A128 value: none is the NaN marker (R55). -/
abbrev A128 := Option Int

def A128.ofNat (v : Nat) : A128 := if v % 2 ^ 128 = 2 ^ 127 then none else some (twos 128 v)
def A64.ofNat (v : Nat) : A128 := if v % 2 ^ 64 = 2 ^ 63 then none else some (twos 64 v)
/-- The 16-byte code of an A128 value. -/
def A128.code : A128 → Nat
  | none => 2 ^ 127
  | some q => (q % (2 ^ 128 : Int)).toNat

/-- Saturation to the A128 range and whether it saturated (R64). -/
def sat128 (q : Int) : Int × Bool := if a128Max < q then (a128Max, true) else if q < -a128Max then (-a128Max, true) else (q, false)

/-- A128 to A64: code and whether SAT is set (R56). -/
def A128.toA64 : A128 → Nat × Bool
  | none => (2 ^ 63, false)
  | some q => if a64Max < q then (a64Max.toNat, true) else if q < -a64Max then ((2 ^ 64 - a64Max).toNat, true)
    else ((q % (2 ^ 64 : Int)).toNat, false)

/-- The sum of two A128 values: exact, then saturated; a NaN marker wins; and whether it saturated (R57). -/
def A128.add : A128 → A128 → A128 × Bool
  | some a, some b => (some (sat128 (a + b)).1, (sat128 (a + b)).2)
  | _, _ => (none, false)

/-- The sticky flags of R84. -/
structure Flags where
  inx : Bool := false
  ovf : Bool := false
  sat : Bool := false
  nan : Bool := false
  inv : Bool := false
  rndInx : Bool := false
  deriving DecidableEq, Repr

/-- Flags in bits 0–5 (R84, R99). -/
def Flags.code (f : Flags) : Nat :=
  f.inx.toNat + 2 * f.ovf.toNat + 4 * f.sat.toNat + 8 * f.nan.toNat + 16 * f.inv.toNat + 32 * f.rndInx.toNat

def Flags.ofCode (c : Nat) : Flags := ⟨c % 2 == 1, c / 2 % 2 == 1, c / 4 % 2 == 1, c / 8 % 2 == 1, c / 16 % 2 == 1, c / 32 % 2 == 1⟩

/-- Sticky union. -/
def Flags.or (a b : Flags) : Flags :=
  ⟨a.inx || b.inx, a.ovf || b.ovf, a.sat || b.sat, a.nan || b.nan, a.inv || b.inv, a.rndInx || b.rndInx⟩

/-- emax of R79. -/
def Fmt.emax : Fmt → Int
  | .mxfp4 | .e2m3 => 2 | .e3m2 => 4 | .e4m3 => 8 | .e5m2 => 15 | .mxint8 => 0 | .int8b => 6 | .int4b => 2 | _ => 0

/-- The largest element magnitude of a narrow format in its units, positive and negative (R47, R48). -/
def Fmt.maxMag (f : Fmt) (neg : Bool) : Nat :=
  match f with
  | .mxfp4 | .sb4 | .kv4 => 12
  | .e2m3 => 60 | .e3m2 => 448
  | .e4m3 => 229376
  | .e5m2 => 3758096384
  | .mxint8 | .int8b => if neg then 128 else 127
  | .int4b => if neg then 8 else 7
  | _ => 0

/-- Exponent bits, mantissa bits and bias of a narrow floating element (R47). -/
def Fmt.efields : Fmt → Nat × Nat × Int
  | .e4m3 => (4, 3, 7) | .e5m2 => (5, 2, 15) | .e2m3 => (2, 3, 1) | .e3m2 => (3, 2, 3) | _ => (2, 1, 1)

/-- A value to a narrow element: code, whether it was clamped, whether it was exact (R77–R80). A zero is written as the
code for +0. -/
def narrow (f : Fmt) (r : Rnd) (x : Ex) : Nat × Bool × Bool :=
  let neg := x.neg?
  let isInt := match f with | .mxint8 | .int8b | .int4b => true | _ => false
  let (eb, mb, bias) := f.efields
  if isInt then
    let y := Ex.shl x.abs (-f.unit)
    let (q, exact) := roundMag r y.num.natAbs y.den
    let top := f.maxMag neg
    let m := min q top
    ((if neg then (2 ^ f.width - m) % 2 ^ f.width else m), decide (top < q), exact && decide (q ≤ top))
  else if x.num = 0 then (0, false, true)
  else
    let e := max x.log2 (1 - bias)
    let g := e - mb
    let y := Ex.shl x.abs (-g)
    let (q, exact) := roundMag r y.num.natAbs y.den
    let c := if q < 2 ^ mb then q else (e + bias - 1).toNat * 2 ^ mb + q
    let topC := match f with | .e4m3 => 126 | .e5m2 => 123 | _ => 2 ^ (eb + mb) - 1
    let m := min c topC
    (if m = 0 then 0 else m + (if neg then 2 ^ (eb + mb) else 0), decide (topC < c), exact && decide (c ≤ topC))

/-- The largest magnitude among the finite values of a block, zero when none is finite. -/
def amaxOf : List CV → Ex
  | [] => ⟨0, 1⟩
  | .fin x _ :: r => let a := amaxOf r; if Ex.lt a x.abs then x.abs else a
  | _ :: r => amaxOf r

/-- Whether any value of a block is finite. -/
def anyFin (b : List CV) : Bool := b.any (fun v => match v with | .fin _ _ => true | _ => false)
def anyNan (b : List CV) : Bool := b.any (fun v => match v with | .nan => true | _ => false)

/-- The E8M0 scale code of a block and whether its exponent exceeded 127 (R79, R73). -/
def e8Scale (f : Fmt) (b : List CV) : Nat × Bool :=
  if !(anyFin b) then (0x7F, false) else
  let a := amaxOf b
  if a.num = 0 then (0, false) else
  let e := a.log2 - f.emax
  if e < -127 then (0, false) else if 127 < e then (0xFE, true) else ((e + 127).toNat, false)

/-- The smallest positive E4M3 scale code s with amax ≤ 6 s T (R80): codes 1–126 rise with their values. -/
def sb4ScaleFrom (a t : Ex) : Nat → Nat → Nat
  | 0, c => c
  | n + 1, c => if Ex.le a ((Ex.dy (6 * floatMag 4 3 c) (-9)).mul t) then c else sb4ScaleFrom a t n (c + 1)

/-- The SB4 or KV4 scale code of a block and whether it saturated (R80, R73). -/
def sb4Scale (t : Ex) (b : List CV) : Nat × Bool :=
  if !(anyFin b) then (0x38, false) else
  let a := amaxOf b
  if a.num = 0 then (0, false)
  else if Ex.lt ((Ex.dy (6 * 448) 0).mul t) a then (126, true)
  else (sb4ScaleFrom a t 125 1, false)

/-- One element of a block under the scale value `s` (zero when every finite value is zero): its code and flags (R72, R79–R81).
`satd`: the block's scale saturated. -/
def blockElem (f : Fmt) (s : Ex) (satd : Bool) (r : Rnd) (v : CV) : Nat × Flags :=
  match v with
  | .nan => (0, { nan := true })
  | .inf n =>
    match f with
    | .e5m2 => (if n then 0xFC else 0x7C, {})
    | .mxint8 | .int8b | .int4b => (if n then 2 ^ f.width - f.maxMag false else f.maxMag false, { sat := true })
    | _ => ((narrow f .rne ⟨if n then -(2 ^ 64) else 2 ^ 64, 1⟩).1, { sat := true })
  | .fin x _ =>
    if x.num = 0 then (0, {}) else if s.num = 0 then (0, { rndInx := true }) else
    let (c, clamped, exact) := narrow f r (x.div s)
    (c, { rndInx := !exact && !(clamped && satd) })

/-- One block of outputs: scale code, element codes and flags (R72, R73, R79–R81). `rs` gives each element's rounding. -/
def convBlock (f : Fmt) (t : Ex) (b : List (CV × Rnd)) : Nat × List Nat × Flags :=
  let vs := b.map (·.1)
  let sc := if f.isE8 then e8Scale f vs else sb4Scale t vs
  let s : Ex := if f.isE8 then Ex.dy 1 ((sc.1 : Int) - 127) else (Ex.dy (floatMag 4 3 sc.1) (-9)).mul t
  let es := b.map (fun e => blockElem f s sc.2 e.2 e.1)
  let fl := es.foldl (fun a e => a.or e.2) { sat := sc.2 }
  let code := if anyNan vs then (if f.isE8 then 0xFF else 0x7F) else sc.1
  (code, es.map (·.1), fl)

/-- One element to FP32, FP16 or BF16 (R72, R78). -/
def convFloat (f : Fmt) (r : Rnd) (v : CV) : Nat × Flags :=
  let (eb, mb) := match f with | .fp32 => (8, 23) | .fp16 => (5, 10) | _ => (8, 7)
  match v with
  | .nan => (match f with | .fp32 => 0x7FC00000 | .fp16 => 0x7E00 | _ => 0x7FC0, { nan := true })
  | .inf n => ((2 ^ eb - 1) * 2 ^ mb + (if n then 2 ^ (eb + mb) else 0), {})
  | .fin x z => let (c, exact) := roundIEEE eb mb r x z; (c, { rndInx := !exact })

/-- Elements packed into bytes, little-endian from bit 0 upward (R50). -/
def packElems (w : Nat) (es : List Nat) : List Byte :=
  leBytes (es.foldr (fun e acc => e % 2 ^ w + acc * 2 ^ w) 0) ((es.length * w + 7) / 8)

/-- Element `i` of a packed stream (R50). -/
def elemAt (w : Nat) (bs : List Byte) (i : Nat) : Nat :=
  (leNat ((bs.drop (i * w / 8)).take ((i * w % 8 + w + 7) / 8)) >>> (i * w % 8)) % 2 ^ w

end Sys2Proof.Machine
end

