-- ==== Sys2Proof/Machine/Page.lean ====
section
/-! DEFINITION. The register pages of a package: slots, block indices and BAR0 offsets (19 R663–R675). -/

namespace Sys2Proof.Machine

/-- The block types that own register pages, by their TYPE code (R675). -/
inductive PType where
  | clk | pwr | rtr | msf | trn | vcx | crn | dma | mem | d2d | agt | lnk | opt | flt | sec | pci | smt | rst | tim | mbx
  deriving DecidableEq, Repr

/-- BLK_ID.TYPE of a block type (R675). -/
def PType.code : PType → Nat
  | .clk => 0x10 | .pwr => 0x0B | .rtr => 0x08 | .msf => 0x01 | .trn => 0x02 | .vcx => 0x03 | .crn => 0x04
  | .dma => 0x05 | .mem => 0x06 | .d2d => 0x14 | .agt => 0x09 | .lnk => 0x07 | .opt => 0x13 | .flt => 0x0C
  | .sec => 0x0D | .pci => 0x0E | .smt => 0x0A | .rst => 0x11 | .tim => 0x12 | .mbx => 0x0F

/-- The four die-to-die links of a compute die, in page order (R675). -/
inductive Face where
  | toPd0 | toPd1 | ringPlus | ringMinus
  deriving DecidableEq, Repr

def Face.ix : Face → Nat
  | .toPd0 => 0 | .toPd1 => 1 | .ringPlus => 2 | .ringMinus => 3

/-- One page of the package (R675). -/
inductive Page where
  | clk (d : Die) | pwr (d : Die) | rtr (d : Die)
  | msf (c : CDie) | trn (c : CDie) | vcx (c : CDie) | crn (c : CDie) | dma (c : CDie) | mem (c : CDie)
  | d2dC (c : CDie) (f : Face) | d2dP (k : PDie) (n : CDie)
  | agt (k : PDie) | lnk (p : Port) | opt (j : OptPort)
  | flt | sec | pci | smt | rst | tim | mbx (ch : Chan)
  deriving DecidableEq, Repr

def Page.ptype : Page → PType
  | .clk _ => .clk | .pwr _ => .pwr | .rtr _ => .rtr | .msf _ => .msf | .trn _ => .trn | .vcx _ => .vcx
  | .crn _ => .crn | .dma _ => .dma | .mem _ => .mem | .d2dC _ _ => .d2d | .d2dP _ _ => .d2d | .agt _ => .agt
  | .lnk _ => .lnk | .opt _ => .opt | .flt => .flt | .sec => .sec | .pci => .pci | .smt => .smt
  | .rst => .rst | .tim => .tim | .mbx _ => .mbx

/-- The die a page lies on. -/
def Page.die : Page → Die
  | .clk d => d | .pwr d => d | .rtr d => d
  | .msf c => CDie.die c | .trn c => CDie.die c | .vcx c => CDie.die c | .crn c => CDie.die c
  | .dma c => CDie.die c | .mem c => CDie.die c | .d2dC c _ => CDie.die c | .d2dP k _ => PDie.die k
  | .agt k => PDie.die k | .lnk p => PDie.die (Port.pdie p) | .opt j => PDie.die (Port.pdie (OptPort.port j))
  | .flt => pd0 | .sec => pd0 | .pci => pd0 | .smt => pd0 | .rst => pd0 | .tim => pd0 | .mbx _ => pd0

/-- The slot of a die: PD0 0, PD1 1, CDn n + 2 (R663). -/
def Die.slot (d : Die) : Nat := if d.val < 8 then d.val + 2 else d.val - 8

/-- The block index of a page in its slot (R675). -/
def Page.idx : Page → Nat
  | .clk _ => 0x000 | .pwr _ => 0x001 | .rtr _ => 0x002
  | .msf _ => 0x010 | .trn _ => 0x011 | .vcx _ => 0x012 | .crn _ => 0x013 | .dma _ => 0x014 | .mem _ => 0x015
  | .d2dC _ f => 0x020 + f.ix | .d2dP _ n => 0x040 + n.val
  | .agt _ => 0x010 | .lnk p => 0x020 + Port.local p | .opt j => 0x030 + j.val % 3
  | .flt => 0x080 | .sec => 0x081 | .pci => 0x082 | .smt => 0x083 | .rst => 0x084 | .tim => 0x085
  | .mbx ch => 0x100 + ch.val

/-- BLK_ID.INSTANCE of a page (R675). -/
def Page.instanceNo : Page → Nat
  | .d2dC _ .toPd0 => 8
  | .d2dC _ .toPd1 => 9
  | .d2dC c .ringPlus => (c.val + 1) % 8
  | .d2dC c .ringMinus => (c.val + 7) % 8
  | .d2dP _ n => n.val
  | .lnk p => p.val
  | .opt j => j.val
  | .mbx ch => ch.val
  | p => p.die.val

/-- The BAR0 offset of a page in the package's own 256 MiB (R664). -/
def Page.base (p : Page) : Nat := (Die.slot p.die) * 0x1000000 + p.idx * 0x1000

/-- The page at a block index of a die's slot, none where no page stands (R665, R675). -/
def Page.at? (d : Die) (idx : Nat) : Option Page :=
  if idx = 0 then some (.clk d) else if idx = 1 then some (.pwr d) else if idx = 2 then some (.rtr d) else
  match Die.cd? d with
  | some c =>
    if idx = 0x10 then some (.msf c) else if idx = 0x11 then some (.trn c) else if idx = 0x12 then some (.vcx c)
    else if idx = 0x13 then some (.crn c) else if idx = 0x14 then some (.dma c) else if idx = 0x15 then some (.mem c)
    else if idx = 0x20 then some (.d2dC c .toPd0) else if idx = 0x21 then some (.d2dC c .toPd1)
    else if idx = 0x22 then some (.d2dC c .ringPlus) else if idx = 0x23 then some (.d2dC c .ringMinus)
    else none
  | none =>
    let k : PDie := if d.val = 8 then 0 else 1
    if idx = 0x10 then some (.agt k)
    else if h : 0x20 ≤ idx ∧ idx < 0x29 then some (.lnk ⟨9 * k.val + (idx - 0x20), by omega⟩)
    else if h : 0x29 ≤ idx ∧ idx < 0x2C then some (.lnk ⟨18 + 3 * k.val + (idx - 0x29), by omega⟩)
    else if h : 0x30 ≤ idx ∧ idx < 0x33 then some (.opt ⟨3 * k.val + (idx - 0x30), by omega⟩)
    else if h : 0x40 ≤ idx ∧ idx < 0x48 then some (.d2dP k ⟨idx - 0x40, by omega⟩)
    else if k.val = 1 then none
    else if idx = 0x80 then some .flt else if idx = 0x81 then some .sec else if idx = 0x82 then some .pci
    else if idx = 0x83 then some .smt else if idx = 0x84 then some .rst else if idx = 0x85 then some .tim
    else if h : 0x100 ≤ idx ∧ idx < 0x124 then some (.mbx ⟨idx - 0x100, by omega⟩)
    else none

/-- The die of a slot, none for the reserved slots 10–15 (R663). -/
def dieOfSlot (slot : Nat) : Option Die :=
  if slot = 0 then some 8 else if slot = 1 then some 9 else if h : slot < 10 then some ⟨slot - 2, by omega⟩ else none

/-- The page a BAR0 offset of this package lies in (R663, R664). -/
def pageOf (a : Nat) : Option Page :=
  match dieOfSlot (a / 0x1000000) with
  | some d => Page.at? d (a / 0x1000 % 0x1000)
  | none => none

/-- NEVT: event lines of a page (R669). -/
def Page.nevt (p : Page) : Nat :=
  match p.ptype with
  | .msf => 2 | .trn => 2 | .vcx => 3 | .crn => 2 | .dma => 2 | .mem => 4 | .lnk => 4 | .opt => 2 | .d2d => 2
  | .rtr => 1 | .agt => 2 | .smt => 3 | .pwr => if p.die = pd0 then 5 else 4 | .flt => 5 | .sec => 2 | .pci => 3
  | .mbx => 3 | .clk => 2 | .rst => 2 | .tim => 3

/-- NINST: pages of this type on this die (R675). -/
def Page.ninst : Page → Nat
  | .d2dC _ _ => 4 | .d2dP _ _ => 8 | .lnk _ => 12 | .opt _ => 3 | .mbx _ => 36 | _ => 1

/-- BLK_CAP.INJ: the page has checkers other than CHECKER 15 (R514). -/
def Page.hasInj (p : Page) : Bool :=
  match p.ptype with
  | .mem | .trn | .msf | .lnk | .rtr | .d2d => true
  | _ => false

end Sys2Proof.Machine
end

