-- ==== Sys2Proof/Machine/Store.lean ====
section
/-! DEFINITION. One sparse store for memories, register pages and tables: a list of keys and values, keys strictly
rising, no entry equal to what an unlisted key reads as. -/

namespace Sys2Proof.Machine

/-- A sparse store. -/
abbrev Store (α : Type) := List (Nat × α)

/-- What key `k` reads as; an unlisted key reads `d k`. -/
def Store.get {α : Type} (d : Nat → α) : Store α → Nat → α
  | [], k => d k
  | (a, v) :: r, k => if a = k then v else Store.get d r k

/-- The list with an entry for `k` placed in order, replacing one that stands there. -/
def Store.insert {α : Type} (m : Store α) (k : Nat) (v : α) : Store α :=
  match m with
  | [] => [(k, v)]
  | (a, w) :: r => if k < a then (k, v) :: (a, w) :: r else if k = a then (k, v) :: r else (a, w) :: Store.insert r k v

/-- The list without an entry for `k`. -/
def Store.erase {α : Type} (m : Store α) (k : Nat) : Store α :=
  match m with
  | [] => []
  | (a, w) :: r => if a = k then Store.erase r k else (a, w) :: Store.erase r k

/-- Write `v` at `k`; writing what an unlisted key reads as removes the entry. -/
def Store.set {α : Type} [DecidableEq α] (d : Nat → α) (m : Store α) (k : Nat) (v : α) : Store α :=
  if v = d k then Store.erase m k else Store.insert m k v

/-- Keys strictly rising. -/
def Store.sorted {α : Type} : Store α → Bool
  | [] => true
  | [_] => true
  | (a, _) :: (b, w) :: r => decide (a < b) && Store.sorted ((b, w) :: r)

/-- The canonical form: keys strictly rising, no entry equal to what an unlisted key reads as. -/
def Store.wf {α : Type} [DecidableEq α] (d : Nat → α) (m : Store α) : Bool :=
  m.sorted && m.all (fun e => decide (e.2 ≠ d e.1))

/-- Write a list of values at rising keys from `k`. -/
def Store.setList {α : Type} [DecidableEq α] (d : Nat → α) (m : Store α) (k : Nat) : List α → Store α
  | [] => m
  | v :: vs => Store.setList d (Store.set d m k v) (k + 1) vs

/-- Read `n` values from rising keys from `k`. -/
def Store.getList {α : Type} (d : Nat → α) (m : Store α) (k : Nat) : Nat → List α
  | 0 => []
  | n + 1 => Store.get d m k :: Store.getList d m (k + 1) n

/-- Keep only the entries whose key passes; the others read as unlisted. -/
def Store.keep {α : Type} (p : Nat → Bool) (m : Store α) : Store α := m.filter (fun e => p e.1)

/-- Every listed value through `f` of its key and value; a result equal to what an unlisted key reads as is dropped. -/
def Store.mapVals {α : Type} [DecidableEq α] (d : Nat → α) (f : Nat → α → α) (m : Store α) : Store α :=
  (m.map (fun e => (e.1, f e.1 e.2))).filter (fun e => decide (e.2 ≠ d e.1))

end Sys2Proof.Machine
end

