-- ==== Sys2Proof/Machine/SummitTypes.lean ====
section
/-! DEFINITION. The pieces of state of the Summit manager: the graph it finds, ports and packages as it records them, requests and their answers, mirror
records, slices, operator commands (11 R413–R447). -/

namespace Sys2Proof.Machine

/-- The class of a port (R420). -/
inductive PortClass where
  | unclassed | ok | swap | cross | extra | missing | version | profile | plan | absent
  deriving DecidableEq, Repr

/-- A PORT_LIST record (10 R384): port, LNK state, cause, negotiated version, and of a valid partner its role, port number, profile, serial, and
the first 8 bytes of its plan digest. -/
structure PortRep where
  port : Nat
  state : Nat := 0
  cause : Nat := 0
  negVer : Nat := 0
  valid : Bool := false
  pRole : Nat := 0
  pPort : Nat := 0
  pProfile : Nat := 0
  pSerial : BitVec 128 := 0
  pPlan : BitVec 64 := 0
  deriving DecidableEq, Repr

/-- A port as the manager records it: its last report, its class, whether it has been admitted, the slot of its transmit key, the times of its
retrains, and when it failed (R418–R421). -/
structure PortRec where
  rep : PortRep
  cls : PortClass := .unclassed
  admitted : Bool := false
  txSlot : Nat := 0
  retrains : List (BitVec 64) := []
  deriving DecidableEq, Repr

/-- A die or switch the manager has found: its serial; its role, 0 PD0, 1 PD1, 2 switch (07 R292); its route list; whether its IDENTIFY has come;
what that says: variant, safe state, plan digest; its ports. -/
structure FoundDie where
  serial : BitVec 128
  role : Nat
  route : List Nat := []
  known : Bool := false
  safe : Bool := false
  variant : Nat := 1
  planDig : BitVec 128 := 0
  ports : List PortRec := []
  deriving DecidableEq, Repr

/-- A package record (R438): state 0 ABSENT, 1 HEALTHY, 2 DEGRADED, 3 QUARANTINED, 4 FAILED, 5 RECOVERED_IDLE; CUT; SLICE_ID; with its serial and its
index cube × 64 + X × 16 + Y × 4 + P. -/
structure PkgRec where
  ix : Nat
  serial : BitVec 128
  state : Nat := 1
  cut : Nat := 0
  slice : Nat := 0
  deriving DecidableEq, Repr

/-- A switch as the manager records it. -/
structure SwRec where
  cube : Nat
  j : Nat
  serial : BitVec 128
  live : Bool := true
  deriving DecidableEq, Repr

/-- A slice (R430, R437): its descriptor's fields, its state 0 CREATING, 1 ACTIVE, 2 STOPPED, 3 FREEING, the join fields of 14 R525, its members in rank
order by index, those that have joined, those that have reported their scrub, those whose partition a readmission has ended (R441, R449), why it stopped and the
element that failed, and the command that waits for it with its code. -/
structure SliceRec where
  id : Nat
  part : Nat
  kind : Nat
  count : Nat := 1
  c0 : Nat := 0
  cmask : Nat := 0
  x0 : Nat := 0
  y0 : Nat := 0
  a : Nat := 1
  b : Nat := 1
  p0 : Nat := 0
  state : Nat := 0
  join : List Byte := []
  members : List Nat := []
  joined : List Nat := []
  scrubbed : List Nat := []
  lost : List Nat := []
  cause : Nat := 0
  el : Nat := 0
  asked : Option (BitVec 32 × BitVec 64) := none
  askCode : Nat := 0x0201
  deriving DecidableEq, Repr

/-- A tracked arrival of WS_CONFIG (12 R480): the package, die and cairn, the bit of the member, and the tracking slot given to it. -/
structure WsPoint where
  pkg : Nat
  die : Fin 8
  cairn : BitVec 13
  bit : Fin 64 := 0
  slot : Nat := 0
  deriving DecidableEq, Repr

/-- Watershed balancing of a slice (R480–R483): dead band in µs, lowest cap, the root, the members' points in rank order, the caps at enable by member,
and the root's generation at the previous round. -/
structure WsRec where
  slice : Nat
  dead : Nat
  minW : Nat
  root : WsPoint
  points : List WsPoint
  caps0 : List Nat := []
  gen : Option (BitVec 16) := none
  /-- Disabled: its members' caps return to `caps0` (R483). -/
  off : Bool := false
  deriving DecidableEq, Repr

/-- A member's power settings as mirrored in POWER records (R479): cap, mode, step. -/
structure CapRec where
  ix : Nat
  cap : Nat
  mode : Nat
  step : Nat
  deriving DecidableEq, Repr

/-- A target set of FW_DISTRIBUTE and FW_ACTIVATE (15 R580). -/
inductive TargetSet where
  | all | cube (c : Nat) | coords (l : List (BitVec 32))
  deriving DecidableEq, Repr

/-- The request of WS_CONFIG (R480). -/
structure WsReq where
  slice : Nat
  enable : Bool
  dead : Nat
  minW : Nat
  root : WsPoint
  points : List WsPoint
  deriving DecidableEq, Repr

/-- An operator command (R438, 12 R479, R480, 15 R580, 17 R638, R639). -/
inductive OpCmd where
  | sliceAlloc (kind count a b cmask partIdx : Nat) (join : List Byte)
  | sliceFree (id : Nat)
  | shapeRead (cube : Nat)
  | planUpdate (image : List Byte) (sigOk : Bool)
  | readmit (co : BitVec 32)
  | logRead (seq : Nat)
  | powerSet (co : BitVec 32) (slice : Nat) (body : List Byte)
  | wsConfig (r : WsReq)
  | fwDistribute (type : Nat) (t : TargetSet) (content : List Byte)
  | fwActivate (id : BitVec 32) (t : TargetSet) (flags : Byte)
  | ridgeStop (cube : Nat)
  | ridgeWake (cube : Nat) (mask : BitVec 64)
  | deviceReset (co : BitVec 32)
  | other (code : BitVec 16)
  deriving DecidableEq, Repr

/-- The code of an operator command. -/
def OpCmd.code : OpCmd → Nat
  | .sliceAlloc .. => 0x0201 | .sliceFree _ => 0x0202 | .shapeRead _ => 0x0203 | .planUpdate .. => 0x0204 | .readmit _ => 0x0205
  | .logRead _ => 0x0206 | .powerSet .. => 0x0207 | .wsConfig _ => 0x0208 | .fwDistribute .. => 0x0209 | .fwActivate .. => 0x020A
  | .ridgeStop _ => 0x020B | .ridgeWake .. => 0x020C | .deviceReset _ => 0x020D | .other c => c.toNat

/-- The status of an answer to an operator command (R438): names without numbers. -/
inductive OpStatus where
  | ok | noShape | noPartition | policy | memberFail | inUse | busy | notPrimary
  deriving DecidableEq, Repr

/-- Who sends an operator command: its credential, its counter, and whether its signature verifies (01 R37, 14 R539; log entry 1). -/
structure OpHdr where
  cred : BitVec 32
  ctr : BitVec 64
  sigOk : Bool := true
  deriving DecidableEq, Repr

/-- The body of a mirror record (R442, 12 R479). A SHAPE record `told` is followed by its SHAPE_EVENT: the last of a route change, or one that calls for none
(R439, R440). KEYSTATE: a slot of a port's receiver or transmitter is empty 0, loaded 1, in use 2 (R419). -/
inductive MirBody where
  | plan (seq : Nat) (digest : BitVec 512)
  | shape (ps : List PkgRec) (ws : List SwRec) (told : Bool)
  | port (serial : BitVec 128) (role : Nat) (p : PortRec)
  | routeBegin (epoch shapeSeq : Nat) (digest : BitVec 512)
  | routeEnd (epoch : Nat)
  | slice (x : SliceRec) (gone : Bool)
  | opcmd (h : OpHdr) (c : OpCmd)
  | keyState (serial : BitVec 128) (role port : Nat) (rx : Bool) (slot st : Nat)
  | log (serial : BitVec 128) (role port : Nat) (cls : PortClass)
  | failed (cmd : Nat) (ix : Nat)
  | failure (serial : BitVec 128) (role port : Nat)
  | term (term : BitVec 32) (serial : BitVec 128)
  | power (x : CapRec) (body : List Byte)
  deriving DecidableEq, Repr

/-- The TYPE of a record (R442). `failed` is a LOG record of a command a target did not complete (01 R38). -/
def MirBody.type : MirBody → Nat
  | .plan .. => 1 | .shape .. => 2 | .port .. => 3 | .routeBegin .. => 4 | .routeEnd _ => 5 | .slice .. => 6 | .opcmd .. => 7
  | .keyState .. => 8 | .log .. => 9 | .failed .. => 9 | .failure .. => 10 | .term .. => 11 | .power .. => 12

/-- A mirror record (R442). -/
structure MirRec where
  seq : Nat
  term : BitVec 32
  body : MirBody
  deriving DecidableEq, Repr

/-- Whom a request of the manager goes to: the agent of a die or switch by serial and role, or the Summit endpoint of its partner. -/
inductive MgrTarget where
  | ag (serial : BitVec 128) (role : Nat)
  | peer
  deriving DecidableEq, Repr

/-- A request of the manager (10 R381, 11 R444). -/
inductive MgrOp where
  | identify
  | portList (first count : Nat)
  | sessionOpen
  | coordSet (co prim stby : BitVec 32)
  | portAttr (port attr : Nat)
  | portCmd (port code : Nat)
  | tableWrite (kind die epoch first count : Nat)
  | tableCommit (kind die epoch : Nat)
  | epochSet (epoch mask : Nat)
  | inflightRead
  | keyLoad (port : Nat) (rx : Bool) (slot keyId : Nat)
  | keyClear (port : Nat) (rx : Bool) (slot : Nat)
  | keySwitch (port slot : Nat)
  | mc (cmd : Nat) (body : List Byte)
  | distData (id : BitVec 32) (chunk frag : Nat)
  | pairOpen
  | heartbeat (term : BitVec 32) (isolated solo : Bool) (seq : Nat) (gtime : BitVec 64)
  | mirror (recs : List MirRec)
  | syncRead (off : Nat)
  /-- The request that a package reset itself (17 R639); no rule gives its CMD (log entry 63). -/
  | deviceReset
  | termNotice (term : BitVec 32) (serial : BitVec 128)
  deriving DecidableEq, Repr

/-- The way a request takes: a route list, the routed fabric, the management network (R415, R416, 01 R37). -/
inductive MgrPath where
  | directed (route : List Nat) | routed | net
  deriving DecidableEq, Repr

/-- What a request belongs to. -/
inductive JobTag where
  | explore | claim | assign | write | epoch | cutoff | admitPort | key | relist | probe | join (id : Nat) | stop | leave (id : Nat) | power (ix : Nat) | halt (id : Nat)
  | sweep | rewrite | align
  | readmit (ix : Nat) | fw (ix : Nat) | act (ix : Nat) | op (ix : Nat) (h : OpHdr) | pair | hb (fab : Bool) | mirror | sync | notice | takeover
  deriving DecidableEq, Repr

/-- Requests of the manager that follow one another (10 R400): the first of `steps` is outstanding once it is sent, under its XID; the resends
left; the tries of a KEY_SWITCH. -/
structure Job where
  tag : JobTag
  steps : List (MgrTarget × MgrOp)
  xid : Nat := 0
  sent : Bool := false
  left : Nat := 3
  tries : Nat := 0
  path : MgrPath := .net
  deriving DecidableEq, Repr

/-- What a response says beyond its status. -/
inductive AnsBody where
  | plain
  | ident (serial : BitVec 128) (variant : Nat) (safe idle : Bool) (planDig : BitVec 128)
  | ports (l : List PortRep)
  | mc (status : Nat) (data : List Byte)
  | inflight (idle0 idle1 : Bool)
  | beat (term : BitVec 32) (serial : BitVec 128) (standby : Bool) (applied : Nat)
  | applied (term : BitVec 32) (seq : Nat) (lacks : Option Nat)
  | image (recs : List MirRec) (last : Bool)
  deriving DecidableEq, Repr

/-- A response that reaches the manager: the XID of its request, its status (10 R375), what it says, and whether it verifies (log entry 1). -/
structure MgrAns where
  xid : Nat
  status : Nat := 0
  body : AnsBody := .plain
  valid : Bool := true
  deriving DecidableEq, Repr

/-- A claim of a term: the packages that have granted it (R445). -/
structure Claim where
  term : BitVec 32
  grants : List (BitVec 128) := []
  deriving DecidableEq, Repr

/-- A distribution the manager makes (15 R582): content, targets by index, the round of each and the results: state 3 VERIFIED, 4 FAILED, else
chunks missing; with its cause. -/
structure FwJob where
  id : BitVec 32
  type : Nat
  content : List Byte
  targets : List Nat
  rounds : Store Nat := []
  results : List (Nat × Nat × Nat) := []
  asked : Option OpHdr := none
  deriving DecidableEq, Repr

/-- An answered operator command (16 R610): the last of a credential, its status and body. -/
structure OpAnswer where
  cred : BitVec 32
  ctr : BitVec 64
  code : Nat
  status : OpStatus
  body : List Byte
  recs : List MirRec := []
  deriving DecidableEq, Repr

/-- An operator command whose targets have not all answered: its code, the packages left, whether one failed, what they answered. -/
structure OpWait where
  h : OpHdr
  code : Nat
  left : List Nat
  bad : Bool := false
  body : List Byte := []
  deriving DecidableEq, Repr

/-- The Summit manager (R406–R449): the dies found; the agents whose sessions are open; the shape; the epoch installed, the change under way as its
epoch and stage (0 waits for its record, 1 writes, 2 moves the epoch, 3 cuts off what failed), whether another is due; requests; the mirror records,
the SEQ the standby has acknowledged and the SEQ acted on; the claim; periods since the last retry of a claim; whether heartbeats or answers of the
present period have come on each path; operators' counters and last answers; slices; watershed; mirrored caps; distribution; what FW_ACTIVATE has
still to do; ridge masters by rack; the plan image being committed, who sent it, and the packages it has still to go to; operator commands that wait for their
targets; packages whose SHAPE_EVENT is due; packages that join the shape when a port of theirs is admitted (R441); the INFLIGHT_READ sweep under way, 1 the first,
2 the second, and whether a record of it was not idle (R427). -/
structure SummitSt where
  found : List FoundDie := []
  open_ : List (BitVec 128 × Nat) := []
  pkgs : List PkgRec := []
  sws : List SwRec := []
  cur : Nat := 0
  changing : Option (Nat × Nat) := none
  changeDue : Bool := false
  jobs : List Job := []
  nextXid : Nat := 0
  nextKey : Nat := 0
  recs : List MirRec := []
  acked : Nat := 0
  acting : Nat := 0
  claim : Option Claim := none
  isoRetry : Nat := 0
  fabSeen : Bool := false
  mgnSeen : Bool := false
  opCtrs : Store Nat := []
  answers : List OpAnswer := []
  slices : List SliceRec := []
  ws : List WsRec := []
  caps : List CapRec := []
  /-- Each member's cap before the last POWER record, which stands again when the command fails (01 R38). -/
  capsWas : List CapRec := []
  fw : Option FwJob := none
  toActivate : List Nat := []
  fwHdr : Option (BitVec 32 × Byte) := none
  masters : List (Nat × Nat) := []
  planSeen : List Byte := []
  planAsk : Option OpHdr := none
  planDue : List Nat := []
  waits : List OpWait := []
  shapeDue : List Nat := []
  joining : List Nat := []
  sweep : Nat := 0
  sweepBad : Bool := false
  deriving DecidableEq, Repr

end Sys2Proof.Machine
end

