-- ==== Sys2Proof/Machine/Types.lean ====
section
/-! DEFINITION. The pieces of state of the data path: queues, cairns, cores, dispatches, DMA runs, requests, windows
and memory findings. -/

namespace Sys2Proof.Machine

/-- The partition and context a fault, an operation or a queue belongs to (13 R491). -/
structure Scope where
  part : Option Part := none
  ctx : Option Ctx := none
  deriving DecidableEq, Repr

/-- One queue of a context on a compute die (05 R194). -/
structure QRef where
  die : CDie
  part : Part
  ctx : Ctx
  q : QIx
  deriving DecidableEq, Repr

/-- The key of a queue in the queue store. -/
def QRef.key (r : QRef) : Nat := ((r.die.val * 64 + r.part.val) * 8 + r.ctx.val) * 16 + r.q.val

/-- The kind of a queue: 0 sweep, 1–7 vector dispatch, 8–15 DMA (R194). -/
inductive QKind where
  | sweep | vector | dma
  deriving DecidableEq, Repr

def QRef.kind (r : QRef) : QKind := if r.q.val = 0 then .sweep else if r.q.val < 8 then .vector else .dma

/-- Entry size in bytes by kind (R195). -/
def QRef.entrySize (r : QRef) : Nat := if r.q.val = 0 then 256 else 64

/-- A pending gate (R198): none for the cairn of an ungated doorbell appended behind gates. -/
structure Gate where
  cairn : Option (BitVec 13)
  gen : BitVec 16
  tail : BitVec 24
  /-- A CAIRN_CFG has failed it; it fails when it becomes the oldest (R222). -/
  dead : Bool := false
  deriving DecidableEq, Repr

/-- An entry that has been fetched and checked and has not started (R682). -/
structure Entry where
  index : BitVec 24
  bytes : List Byte
  deriving DecidableEq, Repr

/-- A queue's parameters and state (R195–R200). -/
structure QueueSt where
  enable : Bool := false
  base : Nat := 0
  log2 : Nat := 4
  gateTo : Nat := 0
  head : BitVec 24 := 0
  tail : BitVec 24 := 0
  err : Bool := false
  gateCairn : BitVec 13 := 0
  gateGen : BitVec 16 := 0
  gates : List Gate := []
  fetched : List Entry := []
  /-- Released entries that a gate's failure or timeout has completed and that are yet to be passed over (R199): first and one past
  the last. -/
  skips : List (BitVec 24 × BitVec 24) := []
  deriving DecidableEq, Repr

/-- The state QSTATE.STATE shows: 0 DISABLED, 1 ACTIVE, 2 GATED, 3 ERROR (R224); FLUSHING is never seen between commands. -/
def QueueSt.stateCode (q : QueueSt) : Nat :=
  if !q.enable then 0 else if q.err then 3 else if q.gates.isEmpty then 1 else 2

/-- A cairn (R218). The wait list is the gates of the die's queues that name it. -/
structure Cairn where
  mask : BitVec 64 := 0
  next : BitVec 64 := 0
  target : BitVec 64 := 0
  gen : BitVec 16 := 0
  first : BitVec 64 := 0
  nfirst : BitVec 64 := 0
  last : BitVec 64 := 0
  failed : Bool := false
  fwdDst : Coord := 0
  fwdCairn : BitVec 13 := 0
  fwdBit : BitVec 6 := 0
  fwdEn : Bool := false
  deriving DecidableEq, Repr

/-- A tracking slot's arrival times: of the next generation, of the generation being collected, and of the last release with its LAST (R223). -/
structure Track where
  nxt : List (Nat × BitVec 32) := []
  cur : List (Nat × BitVec 32) := []
  arr : List (Nat × BitVec 32) := []
  last : BitVec 64 := 0
  deriving DecidableEq, Repr

/-- A vector core (R185–R193). `v` holds byte i of vector register r at 128 r + i. `csr` holds the standard CSRs of RISC-V by number, fcsr as 0x003 and vcsr as
0x00F with their parts, but for vl, vtype and the counters. -/
structure CoreSt where
  prev : Option (Part × Ctx) := none
  run : Option Nat := none
  x : Store (BitVec 64) := []
  f : Store (BitVec 64) := []
  v : Store Byte := []
  vl : Nat := 0
  vtype : BitVec 64 := 0
  csr : Store (BitVec 64) := []
  instret : BitVec 64 := 0
  /-- The reservation of the last LR on the scratch: offset and bytes (R189). -/
  resv : Option (Nat × Nat) := none
  scratch : Store Byte := []
  seed : BitVec 64 := 0
  tid : BitVec 32 := 0
  index : BitVec 64 := 0
  fmt : BitVec 8 := 0
  rnd : BitVec 2 := 0
  anchor : BitVec 10 := 0
  flags : BitVec 6 := 0
  pc : BitVec 64 := 0
  /-- A FENCE or the SIGNAL service waits for the core's earlier stores (R188); the signal that then goes out: destination, cairn,
  generation, bit, abort. -/
  fencing : Bool := false
  sigWait : Option (Coord × Nat × BitVec 16 × Nat × Bool) := none
  deriving DecidableEq, Repr

/-- What the ordinary RISC-V instructions of a core's program have done to its registers since its last modelled operation
(R185, R191, R192; log entry 11). -/
inductive CoreWrite where
  | x (r : Fin 32) (v : BitVec 64)
  | f (r : Fin 32) (v : BitVec 64)
  | v (r : Fin 32) (i : Fin 128) (b : Byte)
  | scratch (off : Fin 524288) (b : Byte)
  /-- A vset instruction: the element count asked for and the vtype asked for. -/
  | vset (avl : Nat) (vt : BitVec 64)
  /-- A CSR instruction: what it writes into a CSR, and what it reads into an integer register. -/
  | csr (n : BitVec 12) (v : BitVec 64)
  | csrr (rd : Fin 32) (n : BitVec 12)
  | pc (a : BitVec 64)
  /-- Instructions retired. -/
  | retire (n : Nat)
  deriving DecidableEq, Repr

/-- Where the bytes of a load go. -/
inductive LoadDst where
  | x (r : Fin 32) (signed : Bool)
  | f (r : Fin 32)
  | v (r : Fin 32) (i : Fin 128)
  deriving DecidableEq, Repr

/-- A data access of a vector core (R187–R189, R236): of a store, which bytes from its address on it writes. -/
inductive RemoteOp where
  | load (dst : LoadDst) (addr : BitVec 64) (len : Nat)
  | store (addr : BitVec 64) (data : List (Option Byte))
  | lr (w64 : Bool) (addr : BitVec 64) (rd : Fin 32)
  | sc (w64 : Bool) (addr : BitVec 64) (operand : BitVec 64) (rd : Fin 32)
  | amo (func : Fin 9) (w64 : Bool) (addr : BitVec 64) (operand : BitVec 64) (rd : Fin 32)
  deriving DecidableEq, Repr

/-- Why a core traps (R190): an exception, an access outside the partition's ranges, an uncorrectable read of memory or of Tarn. -/
inductive TrapKind where
  | exception | range | memUe | tarnUe
  deriving DecidableEq, Repr

/-- How a core ended its part of a dispatch. -/
structure CoreExit where
  core : Nat
  code : BitVec 8
  deriving DecidableEq, Repr

/-- The first trap of a dispatch (R190, R207). -/
structure TrapRec where
  core : Nat
  status : BitVec 8
  cause : BitVec 8
  epc : BitVec 64
  deriving DecidableEq, Repr

/-- A vector dispatch that has started (R205–R207). -/
structure Dispatch where
  id : Nat
  ref : QRef
  index : BitVec 24
  desc : List Byte
  start : BitVec 64
  exits : List CoreExit := []
  status : BitVec 8 := 0
  trap : Option TrapRec := none
  lastExit : BitVec 64 := 0
  /-- The limit it started with, in units of 1,024 FCLK cycles (R205, R206). -/
  limit : Nat := 0
  stopped : Bool := false
  deriving DecidableEq, Repr

/-- What an outstanding request belongs to. -/
inductive Owner where
  /-- Chunk `chunk` of destination `dest` of a DMA run. -/
  | dma (run dest chunk : Nat)
  /-- A GET of a DMA run: chunk, and the byte offset of the packet in the transfer. -/
  | dmaGet (run chunk off : Nat)
  /-- A core's load of `len` bytes at `off` of the line read, its store, its AMO; `disp` the dispatch that issued it. -/
  | load (die : CDie) (core disp : Nat) (dst : LoadDst) (off len : Nat)
  | store (die : CDie) (core disp : Nat)
  | amo (die : CDie) (core disp : Nat) (rd : Fin 32) (w64 : Bool)
  /-- The SIGNAL monitor service of a core. -/
  | coreSig (die : CDie) (core disp : Nat)
  /-- A completion's cairn signal or abort; nothing waits for it. A DMA engine's own packets count at its page (R225). -/
  | signal (dma : Bool)
  /-- A cairn's forward (R221). -/
  | forward (die : CDie) (cairn : Nat)
  /-- A BAR2 write or read of a function's access `id` (16 R590); a read's byte offset in the access. -/
  | bar2w (id : Nat)
  | bar2r (id off : Nat)
  deriving DecidableEq, Repr

/-- A REQ packet of a compute die: waiting to be sent, or outstanding (08 R337). -/
structure Req where
  die : CDie
  pkt : Packet
  owner : Owner
  sent : Bool := false
  left : Nat := 0
  deriving DecidableEq, Repr

/-- An end-to-end window (R337) with its rate (R346), in units of 0.25 GB/s. -/
structure Window where
  die : CDie
  dest : Nat
  pkts : Nat := 0
  bytes : Nat := 0
  rate : Nat := 0
  echo : Bool := false
  /-- What the token bucket holds, in quarter bytes: 64 KiB when full (R346). -/
  tokens : Nat := 0x40000
  deriving DecidableEq, Repr

/-- One destination of a DMA run. -/
structure DmaDest where
  coord : Coord
  addr : BitVec 64
  sig : Option (BitVec 16 × Nat) := none
  failed : Bool := false
  bad : Bool := false
  signalled : Bool := false
  deriving DecidableEq, Repr

/-- A descriptor an engine has taken (R208–R216). `todo` counts packets of each chunk not yet acknowledged. -/
structure DmaRun where
  id : Nat
  ref : QRef
  engine : Nat
  index : BitVec 24
  desc : List Byte
  nchunk : Nat := 0
  dests : List DmaDest := []
  failed : List Nat := []
  resent : Nat := 0
  status : BitVec 8 := 0
  aborted : Bool := false
  /-- DMA_CTRL.RETRIES or RETRY as the descriptor began (R31, R225). -/
  retries : Nat := 0
  /-- The chunks that have failed, each with its destination (R212). -/
  lost : List (Nat × Nat) := []
  /-- A FANOUT: FAIL marks destinations, not chunks (R215). -/
  fan : Bool := false
  deriving DecidableEq, Repr

/-- What the check of one 32-byte sector of LPDDR6 found (06 R234, R244): where it stands, and the corrected symbol or none for an uncorrectable error. -/
structure EccFind where
  stack : Fin 3
  ch : Fin 12
  row : BitVec 22
  sym : Option (Fin 36)
  deriving DecidableEq, Repr

/-- What is wrong with a stored sector: its physical row, which no rule ties to its address (06 R234), the stored symbols that are in error, and whether the
syndrome locates an address symbol (06 R244; log entry 1). -/
structure SectorErr where
  row : BitVec 22
  syms : List (Fin 36)
  virt : Bool := false
  deriving DecidableEq, Repr

/-- An uncorrectable sector of the package's memory that nothing has written whole since, with its row (06 R247, R249). -/
structure BadSector where
  sector : Nat
  row : Fin 8 × Fin 3 × Fin 12 × BitVec 22
  deriving DecidableEq, Repr

/-- How an access of an engine to memory or Tarn ended. -/
inductive AccStatus where
  | ok | range | memUe | tarnUe | timeout
  deriving DecidableEq, Repr

/-- What stands behind memory accesses of one command: bytes of other packages of the board by board address, the statuses
their accesses end with, findings of ECC by sector of the package's memory and by word of its Tarn (log entry 1). -/
structure Obs where
  far : Store Byte := []
  farBad : List (Nat × AccStatus) := []
  ecc : List (Nat × SectorErr) := []
  tarnEcc : List (Nat × Bool) := []
  deriving DecidableEq, Repr

/-- Why a core traps (R190): an exception with its RISC-V cause and the pc it meets, or a data access that fails. -/
inductive TrapWhy where
  | exception (cause : BitVec 8) (epc : BitVec 64)
  | access (op : RemoteOp)
  deriving DecidableEq, Repr

/-- An access of a core, with what the environment finds at it. -/
structure CoreTry where
  op : RemoteOp
  o : Obs := {}
  deriving DecidableEq, Repr

/-- What the training of a stack ends with: passed or not, and the logged rows that hard repair covers (06 R250, R257). -/
structure StackTrained where
  pass : Bool
  fixed : List (Fin 12 × BitVec 22) := []
  deriving DecidableEq, Repr

/-- The sector that patrol reads and what ECC finds in it (06 R253). -/
structure PatrolFind where
  sec : Fin 0x180000000
  err : Option SectorErr := none
  deriving DecidableEq, Repr

/-- A port on whose lanes signal is detected, and the received power of an optical port's lanes (07 R283, R303). -/
structure SignalFind where
  port : Port
  power : List (BitVec 16) := []
  deriving DecidableEq, Repr

/-- A remap entry: a physical row of a channel sent to a spare target (R248); source as MEM_REMAP_ENTRY.SOURCE. -/
structure Remap where
  die : CDie
  stack : Fin 3
  ch : Fin 12
  row : BitVec 22
  source : Nat
  deriving DecidableEq, Repr

/-- An entry of the repair log (R250). -/
structure RepairEntry where
  die : CDie
  stack : Fin 3
  ch : Fin 12
  row : BitVec 22
  deriving DecidableEq, Repr

/-- An entry of the fault log (13 R502, R520). -/
structure LogEntry where
  gtime : BitVec 64
  source : BitVec 12
  block : Nat
  slot : Nat
  cls : Nat
  raw : Nat
  escalated : Bool
  injected : Bool
  scope : Scope
  deriving DecidableEq, Repr

/-- The variant and other fused values of a package (00 R1, 12 R453, 14 R531–R537, 15 R564). -/
structure Fuses where
  variant : Nat := 1
  serial : BitVec 128 := 1
  lifecycle : Nat := 1
  ownerDigest : BitVec 512 := 0
  minSvn : Nat := 0
  /-- The 256-bit unique secret (14 R531). -/
  secret : BitVec 256 := 0
  /-- Fused voltage offset of each compute die in 5 mV units, 0–5 (R453). -/
  voff : List Nat := []
  /-- Fused PWR_CAL.GAIN in units of 2^-14 (R489). -/
  gain : Nat := 0x4000
  /-- Array lines the fuse store names as failed: die, column?, physical index (03 R87). -/
  badLines : List (Nat × Bool × Nat) := []
  deriving DecidableEq, Repr

/-- The highest step k of a variant: ACLK maximum / 150 MHz (00 R1, 12 R452). -/
def Fuses.kMax (f : Fuses) : Nat := if f.variant = 1 then 16 else if f.variant = 2 then 14 else 12

/-- The package power limit of a variant in watts (00 R1). -/
def Fuses.pkgLimit (f : Fuses) : Nat := if f.variant = 1 then 3200 else if f.variant = 2 then 2600 else 2000

/-- A tile in the array: its place and its raw bytes (03 R103, R110). -/
structure Tile where
  kt : Nat
  nt : Nat
  w : List Byte
  ws : List Byte
  deriving DecidableEq, Repr

/-- An accumulator entry of one column and row: exact anchored sum with the column state, or a binary32 sum (R62, R71, R75); beside them the value modulo 7
and the parity bit that the residue checker keeps (R126). -/
structure AccEntry where
  q : Int := 0
  posInf : Bool := false
  negInf : Bool := false
  nan : Bool := false
  f32 : Nat := 0
  m7 : Nat := 0
  par : Bool := false
  deriving DecidableEq, Repr

/-- A physical fault of an array cell at a tile load: physical row and column, and the bits of the stored code that differ from those sent (R127; log entry
1). -/
structure CellUpset where
  row : Fin 1040
  col : Fin 1056
  xor : Nat
  deriving DecidableEq, Repr

/-- A physical fault of a product: physical row and column of the cell, the row of the sweep, and what is added to the product's integer significand (R128,
R129; log entry 1). -/
structure ProdUpset where
  row : Fin 1040
  col : Fin 1056
  m : Nat
  delta : Int
  deriving DecidableEq, Repr

/-- A physical fault of an accumulator entry: physical column, row of the sweep, and the bit that flips before the entry drains (R126; log entry 1). -/
structure AccUpset where
  col : Fin 1056
  m : Nat
  bit : Fin 152
  deriving DecidableEq, Repr

/-- The physical faults of one tile load; `tie`: its errors were detected in one cycle (R101; log entry 1). -/
structure LoadUpset where
  cells : List CellUpset := []
  tie : Bool := false
  deriving DecidableEq, Repr

/-- The physical faults of one pass (log entry 1). -/
structure PassUpset where
  prods : List ProdUpset := []
  accs : List AccUpset := []
  deriving DecidableEq, Repr

/-- The tier state of one attention row (04 R171): none while empty. -/
structure TierRow where
  nan : Bool := false
  top : Option Int := none
  tiers : List (List Int) := []
  deriving DecidableEq, Repr

/-- A sweep the array holds. -/
structure RunSweep where
  ref : QRef
  index : BitVec 24
  desc : List Byte
  /-- Progress through the loop of its kind: row group, output tile, reduction tile (R105, R106); for ATTEND row group and span. -/
  g : Nat := 0
  nt : Nat := 0
  kt : Nat := 0
  /-- The active plane and the shadow plane (R110); of each, the physical rows whose checksum differs at its swap, and whether an injection made them so
  (R127). -/
  tile : Option Tile := none
  shadow : Option Tile := none
  badRows : List (Nat × Bool) := []
  badNext : List (Nat × Bool) := []
  acc : Store AccEntry := []
  tiers : Store TierRow := []
  table : List Byte := []
  anchor : Int := 0
  flags : Flags := {}
  lastRow : Bool := false
  done : Bool := false
  status : Nat := 0
  line : Nat := 0
  lineCol : Bool := false
  /-- ACLK cycles since the first tile load, and those in LOAD, STREAM and DRAIN, held cycles excluded (R99, R137). -/
  cycles : Nat := 0
  counted : Nat := 0
  /-- MSF_SWEEP_LIMIT as it stood when the sweep's first row entered (R31, R138, R142); none before. -/
  limit : Option Nat := none
  /-- Extents of the outputs committed so far: in Tarn?, address, length (R100). -/
  committed : List (Bool × Nat × Nat) := []
  /-- KV4 pages and headers read, as they were: in Tarn?, address, bytes (R165, R181). -/
  seen : List (Bool × Nat × List Byte) := []
  deriving DecidableEq, Repr

/-- The Massif array of one die (R86–R139). -/
structure ArraySt where
  /-- Failed physical lines mapped out at the last self-test: column?, index (R87). -/
  failed : List (Bool × Nat) := []
  owner : Option (Part × Ctx) := none
  run : Option RunSweep := none
  /-- The sweeps still draining while a successor streams, oldest first (R114). -/
  drain : List RunSweep := []
  /-- The next sweep of the queue whose first tile has loaded (R114). -/
  next : Option RunSweep := none
  /-- Mismatch counts of lines in the power-on epoch (R89). -/
  mism : List ((Bool × Nat) × Nat) := []
  /-- The epoch's suspect lines, kept by the management complex across a core reset (R139). -/
  suspects : List (Bool × Nat) := []
  /-- The last (partition, context) granted, and the grants of cores and of DMA engines (R133, R201). -/
  grantArr : Nat := 511
  grantVec : Nat := 511
  grantDma : Nat := 511
  deriving DecidableEq, Repr

/-- A PCIe function: PF0–PF3, or the VF of a partition (16 R586–R589). -/
inductive Fn where
  | pf (n : Fin 4)
  | vf (p : Part)
  deriving DecidableEq, Repr

/-- What the host side of a function holds of its configuration: MSI-X and bus-master enables, the vectors that are not masked and
those pending (16 R593); a VF's MSI-X table words, ACCESS_ERR and mailbox vector (R589, R614). -/
structure FnCfg where
  msixEn : Bool := false
  busMaster : Bool := false
  unmasked : List Nat := []
  pend : List Nat := []
  table : Store Word := []
  accessErr : Bool := false
  mbxVec : Nat := 0
  deriving DecidableEq, Repr

/-- What the configuration space of a function says of it (16 R586, R587): vendor and device ID, class code, revision, and the TotalVFs of a PF. -/
structure FnIdent where
  fn : Fn
  vendor : BitVec 16
  device : BitVec 16
  cls : BitVec 24
  revision : BitVec 8
  totalVfs : Nat
  deriving DecidableEq, Repr

/-- The key of a function. -/
def Fn.key : Fn → Nat
  | .pf n => n.val
  | .vf p => 4 + p.val

/-- MSI-X vectors of a function (R593). -/
def Fn.vectors : Fn → Nat
  | .pf n => if n.val = 0 then 2048 else 512
  | .vf _ => 256

/-- Where a doorbell comes from: a function's window or page, or a core's own region (05 R187, R197, 16 R589). -/
inductive DoorSrc where
  | host (f : Fn)
  | core
  deriving DecidableEq, Repr

/-- A BAR2 access of a VF (16 R590–R592): in order of arrival; a read collects its data. -/
structure Bar2 where
  id : Nat
  part : Part
  write : Bool
  addr : Nat
  len : Nat
  data : List Byte
  issued : Bool := false
  failed : Bool := false
  /-- An FLR of the VF came while it waited: its result is not reported (16 R612). -/
  quiet : Bool := false
  deriving DecidableEq, Repr

/-- Who makes a register access (19 R672): a PCIe function, position 0 for the host (16 R597), the management complex, the security processor, the
debug port. -/
inductive Requester where
  | fn (f : Fn) | relay | mc | sec | debug
  deriving DecidableEq, Repr

/-- The number of a requester's latches. -/
def Requester.key : Requester → Nat
  | .fn f => f.key | .relay => 68 | .mc => 69 | .sec => 70 | .debug => 71

/-- A host write that waits for earlier BAR2 writes of its VF (16 R591): a doorbell, or a DWORD of the VF window. -/
inductive HostWrite where
  | door (r : QRef) (v : Word)
  | win (off : Nat) (v : Word)
  deriving DecidableEq, Repr

/-- A held write: its VF, and the BAR2 accesses before it: those below `upTo`. -/
structure HeldWrite where
  part : Part
  upTo : Nat
  what : HostWrite
  deriving DecidableEq, Repr

/-- An SPDM request (14 R533, R534); its message formats are the DMTF's. -/
inductive SpdmReq where
  | version | capabilities | algorithms
  | digests
  | certificate (slot : Fin 8) (off len : Fin 65536)
  | challenge (slot : Fin 8) (nonce : BitVec 256)
  | measurements (ix : BitVec 8) (nonce : BitVec 256) (signed : Bool)
  | other
  deriving DecidableEq, Repr

/-- An SPDM response. A measurement is its index, whether it is a digest, and its content. -/
inductive SpdmRsp where
  | version | capabilities | algorithms
  | digests (bs : List Byte)
  | certificate (bs : List Byte)
  | challengeAuth (sig : List Byte)
  | measurements (count : Nat) (blocks : List (Nat × Bool × List Byte)) (nonce : BitVec 256) (sig : List Byte)
  | error
  deriving DecidableEq, Repr

/-- A way into the security processor and the management complex other than registers: a mailbox channel (0–35 with MBX pages, 36 + p the VF
channel of partition p), or MCTP over the side-band or the management network from an endpoint (16 R599, R607, R610). -/
inductive Via where
  | mbx (k : Fin 100)
  | mctp (net : Bool) (eid : BitVec 8)
  | doe
  deriving DecidableEq, Repr

/-- What an MCTP message carries (16 R607). -/
inductive MctpMsg where
  | setEid (eid : BitVec 8) | getEid | getVersion | getTypes | getVdm
  | pldmBase
  | pldmSensor (id : BitVec 16)
  | pldmPdr
  | spdm (r : SpdmReq)
  | seliesel (bs : List Byte)
  | other
  deriving DecidableEq, Repr

/-- What an MCTP endpoint answers or sends of itself (16 R607, R608). -/
inductive MctpOut where
  | eid (v : BitVec 8) | version | types | vdm
  | pldmBase | pldmSensor (id reading : Nat) | pldmPdr (ids : List Nat) | pldmError
  | spdm (r : SpdmRsp)
  | seliesel (bs : List Byte)
  /-- A PlatformEventMessage: sensor, reading (R608). -/
  | platformEvent (id reading : Nat)
  deriving DecidableEq, Repr

/-- A placement of a model in this package (04 R182–R184): DIE_OFFSET and GRAN of the three regions, its mode, and the board positions that hold it. -/
structure Placement where
  board : Bool
  offsets : List Nat
  grans : List Nat
  positions : Nat := 0
  deriving DecidableEq, Repr

/-- A partition created by SLICE_JOIN (14 R525–R528). -/
structure PartSt where
  sliceDesc : List Byte
  contexts : Nat
  queueLog2 : Nat
  tarnGran : Nat
  cairns : Nat
  conf : Bool
  devset : List Byte
  dies : List CDie
  placement : Option Placement := none
  stopped : Bool := false
  /-- SLICE_LEAVE has come (R527), and the scrub is complete but for its quiet period (13 R505). -/
  leaving : Bool := false
  scrubbed : Bool := false
  deriving DecidableEq, Repr

/-- An agent event (10 R397). -/
structure AgentEvent where
  gtime : BitVec 64
  code : Nat
  port : Nat
  state : Nat
  cause : Nat
  serial : BitVec 128 := 0
  deriving DecidableEq, Repr

/-- A session of an agent (10 R376–R379): signer, replay window as the highest counter and a bit for each of the counters at
and below it, cached responses by counter, and the event counter. -/
structure Session where
  serial : BitVec 128
  primary : Bool
  key : BitVec 256 := 0
  salt : BitVec 32 := 0
  top : Nat := 0
  window : Nat := 0
  cache : List (Nat × List Byte) := []
  evCtr : Nat := 0
  deriving DecidableEq, Repr

/-- A fabric agent (10 R376–R399): its sessions, its event queue, and the slot, counter and sends of the oldest event. -/
structure AgentSt where
  sess0 : Option Session := none
  sess1 : Option Session := none
  evq : List AgentEvent := []
  lostDue : Bool := false
  sends : Nat := 0
  cur : Option (Nat × Nat) := none
  deriving DecidableEq, Repr

/-- An MGT packet that reaches an agent or the Summit endpoint: the port die, the packet, whether it came over the management network, and
whether its tag or its signature and certificates verify (10 R373–R379; log entry 1). -/
structure MgtIn where
  k : PDie
  pkt : Packet
  net : Bool := false
  valid : Bool := true
  deriving DecidableEq, Repr

/-- One access of a relay frame (16 R598, R610); a doorbell or gate register of a VF's queue block carries the VF's partition (R589; log entry
54). -/
structure RelayAcc where
  off : BitVec 28
  write : Bool
  data : Word := 0
  vf : Option Part := none
  deriving DecidableEq, Repr

/-- Where a packet leaves a die. -/
inductive Egress where
  | port (q : Port)
  | die (d : Die)
  | endpoint (e : Nat)
  deriving DecidableEq, Repr

/-- The core rails in the order of step 5 (15 R560, 18 R649). -/
inductive Rail where
  | pd0 | pd1 | ser | cd (n : CDie) | vdd2 | vddq | opt
  deriving DecidableEq, Repr

/-- What the package sends or shows outward (log entry 7). -/
inductive Output where
  /-- A packet leaves an endpoint of a die into the fabric. -/
  | packet (d : Die) (p : Packet)
  /-- An engine's write to memory of another package of the board. -/
  | farWrite (p : Part) (a : Nat) (bs : List Byte)
  /-- An engine's read of memory of another package of the board: its address and length. -/
  | farRead (p : Part) (a len : Nat)
  /-- An MSI-X message of a function (16 R593). -/
  | msix (f : Fn) (vec : Nat)
  /-- The hub's interrupt to the management complex (13 R502). -/
  | hubIrq
  /-- Completion data of a host read (16 R592). -/
  | hostData (f : Fn) (bs : List Byte)
  /-- Every PCIe function sends ERR_FATAL (16 R595). -/
  | errFatal
  /-- A link frame leaves a port: its header, its flit slots up to the last that is not idle, its tag, and the bytes that each lane carries (07 R272–R276). -/
  | frame (q : Port) (header : BitVec 128) (flits : List (List Byte)) (tag : BitVec 128) (lanes : List (List Byte))
  /-- The packet data of a die-to-die flit that has passed its CRC, at the receiving end (07 R298, R299). -/
  | d2dData (p : Page) (data : List Byte)
  /-- A packet that a verified frame has carried is released to the router of its port (07 R277). -/
  | released (q : Port) (p : Packet)
  /-- A link-management record that a verified frame has carried reaches the port's link layer (07 R292). -/
  | record (q : Port) (bs : List Byte)
  /-- A link-management record is sent (07 R292, R293). -/
  | sendRecord (q : Port) (bs : List Byte)
  /-- A port's training word: the STATUS it replies on a lane (07 R285). -/
  | trainStatus (q : Port) (lane status : Nat)
  /-- A packet leaves a router through an output on a virtual channel (08 R314, R321). -/
  | forwarded (d : Die) (o : Egress) (vc : Nat) (p : Packet)
  /-- An MGT packet leaves over the management network (10 R374, 16 R610). -/
  | mgtNet (p : Packet)
  /-- The management complex reports to the Summit manager that a partition's scrub is complete (14 R527). -/
  | scrubReport (p : Part) (sliceId : Nat)
  /-- A BOARD placement goes to another member's management complex under the board session: its release, or the first granule and the granules of each region;
  and a member's answer (04 R183, R184; log entry 82). -/
  | boardPlace (pos : Nat) (p : Part) (release : Bool) (base : Nat) (grans : List Nat)
  | boardAnswer (pos : Nat) (p : Part) (granted : Bool)
  /-- A response of the management complex to a command (11 R436, 12 R478, 15 R580, 17 R638). -/
  | mcResponse (bs : List Byte)
  /-- A ridge frame leaves in both directions: its code, and its body (17 R629). -/
  | ridge (code : Nat) (body : List Byte)
  /-- A frame of the management network leaves, broadcast: its source MAC address, and its payload from the header on (16 R609, R610). -/
  | netFrame (mac payload : List Byte)
  /-- A relay frame leaves position 0 for another position, or is answered (16 R597, R598). -/
  | relay (pos ctr : Nat) (accs : List RelayAcc)
  | relayAnswer (ctr : Nat) (data : List Word)
  /-- A voltage request on an AVSBus: the bus, the rail select, and mV (12 R454, 18 R650). -/
  | avs (bus sel mv : Nat)
  /-- An EN output changes (18 R649). -/
  | enable (r : Rail) (on : Bool)
  /-- Completion data of a register read (19 R670, R672). -/
  | regData (who : Requester) (ws : List Word)
  /-- A request that R670 does not perform: a read's Completer Abort, or a discarded write's AER record. -/
  | completerAbort (f : Fn) (read : Bool)
  /-- An MCTP message leaves: over the management network or I3C, to an endpoint (16 R607, R610). -/
  | mctp (net : Bool) (eid : BitVec 8) (m : MctpOut)
  /-- An in-band interrupt of the I3C target (16 R607). -/
  | ibi
  /-- A data object of the DOE mailbox: the Discovery answer, or SPDM (16 R594). -/
  | doe (r : Option SpdmRsp)
  /-- A request of the Summit manager leaves: its target, its path, its XID, and the words a TABLE_WRITE, TABLE_COMMIT or DIST_DATA carries (10 R381,
  11 R415, R428, R444). -/
  | mgr (t : MgrTarget) (path : MgrPath) (xid : Nat) (op : MgrOp) (data : List Byte)
  /-- The manager answers an agent's EVENT (10 R397, R398). -/
  | eventOk (serial : BitVec 128) (role : Nat)
  /-- An answer to an operator command, signed (11 R438, 16 R610). -/
  | operator (a : OpAnswer)
  /-- SLICE_EVENT: SLICE_ID, STATE, cause, the failed element's index (11 R438). -/
  | sliceEvent (id state cause el : Nat)
  /-- SHAPE_EVENT: a rack and its changed package records (11 R438). -/
  | shapeEvent (cube : Nat) (ps : List PkgRec)
  /-- The primary asks a package to track a cairn in a slot (12 R480; log entry 64). -/
  | wsTrack (ix : Nat) (p : WsPoint) (on : Bool)
  /-- A notification of a port's class (11 R420). -/
  | portNotice (serial : BitVec 128) (role port : Nat) (cls : PortClass)
  /-- The functions that answer configuration requests, with their identities (16 R586, R587, 15 R574). -/
  | functions (l : List FnIdent)
  /-- A die-to-die flit is replayed (07 R299). -/
  | replay (d : Die) (peer : Die)
  deriving DecidableEq, Repr

end Sys2Proof.Machine
end

