-- ==== Sys2Proof/Machine/LinkTypes.lean ====
section
/-! DEFINITION. The pieces of state of ports, lanes, routers and bring-up (07, 08, 10 R394, 15 R560–R575). -/

namespace Sys2Proof.Machine

/-- A transmit key slot: key, salt and FCNT (07 R275, R276). -/
structure TxKey where
  key : BitVec 256
  salt : BitVec 32
  fcnt : Nat := 0
  deriving DecidableEq, Repr

/-- A receive key slot: key, salt, the last accepted FCNT and when it was accepted (R277, R280, R392). -/
structure RxKey where
  key : BitVec 256
  salt : BitVec 32
  last : Option Nat := none
  seenAt : BitVec 64 := 0
  deriving DecidableEq, Repr

/-- A lane in training (R285): its transmitter's preset, tap steps against that preset and the STATUS it reports; the partner's RX_READY and its
STATUS, the reply to the own last request. -/
structure LaneTx where
  preset : Nat := 3
  tapM2 : Int := 0
  tapM1 : Int := 0
  tapP1 : Int := 0
  status : Nat := 0
  ready : Bool := false
  reply : Nat := 0
  deriving DecidableEq, Repr

/-- A codeword as it stands before the decoder of its lane: symbols in error, and the wrong bits in them (R270, R271). -/
structure Codeword where
  syms : Nat := 0
  bits : Nat := 0
  deriving DecidableEq, Repr

/-- What a lane's decoder has counted: codewords, corrected symbols, the bits those corrected, uncorrectable codewords (R271). -/
structure LaneFec where
  cw : Nat := 0
  sym : Nat := 0
  corr : Nat := 0
  unc : Nat := 0
  deriving DecidableEq, Repr

/-- A flit that arrives at a die-to-die end: its 200 bytes of packet data, and whether its CRC is good (R298, R299). -/
structure D2dFlit where
  crcOk : Bool
  data : List Byte := []
  deriving DecidableEq, Repr

/-- A reading of an optical port's laser input, and the received power of its lanes (R295, R303). -/
structure LaserFind where
  supply : BitVec 16
  rx : List (BitVec 16) := []
  deriving DecidableEq, Repr

/-- The seven credit counts of a link: VC0–VC5 reserved, then shared (R317, R319). -/
structure Credits where
  r0 : Nat := 0
  r1 : Nat := 0
  r2 : Nat := 0
  r3 : Nat := 0
  r4 : Nat := 0
  r5 : Nat := 0
  sh : Nat := 0
  deriving DecidableEq, Repr

/-- The credit count of a VC, and of the shared pool. -/
def Credits.get (c : Credits) (vc : Nat) : Nat :=
  match vc with | 0 => c.r0 | 1 => c.r1 | 2 => c.r2 | 3 => c.r3 | 4 => c.r4 | 5 => c.r5 | _ => c.sh
def Credits.set (c : Credits) (vc v : Nat) : Credits :=
  match vc with
  | 0 => { c with r0 := v } | 1 => { c with r1 := v } | 2 => { c with r2 := v } | 3 => { c with r3 := v }
  | 4 => { c with r4 := v } | 5 => { c with r5 := v } | _ => { c with sh := v }
def Credits.add (c : Credits) (vc n : Nat) : Credits := c.set vc (c.get vc + n)

/-- Telemetry counters of one port (10 R394): packets and bytes, discards by cause, CE marks, ECE sent, stalls, largest depths, histogram bins. -/
structure PortTel where
  pktTx : Nat := 0
  pktRx : Nat := 0
  byteTx : Nat := 0
  byteRx : Nat := 0
  disc : Store Nat := []
  ce : Nat := 0
  ece : Nat := 0
  stall : Store Nat := []
  depth : Store Nat := []
  bins : Store Nat := []
  deriving DecidableEq, Repr

/-- The arbitration of one output (08 R320): packets since the last REQ, the VC bit served last in each class, the input served last
in each VC. -/
structure OutArb where
  sinceReq : Nat := 0
  lastBit : Store Nat := []
  lastIn : Store Nat := []
  deriving DecidableEq, Repr

/-- One external port (07). -/
structure PortSt where
  tx0 : Option TxKey := none
  tx1 : Option TxKey := none
  rx0 : Option RxKey := none
  rx1 : Option RxKey := none
  /-- The unkeyed counters: next to send, last accepted (R276, R277). -/
  txPlain : Nat := 0
  rxPlain : Option Nat := none
  /-- KEY_READY records received for the transmit slots (R279). -/
  ready0 : Bool := false
  ready1 : Bool := false
  /-- A commanded slot change that waits for its frame boundary (R279). -/
  switchTo : Option Nat := none
  /-- Attempts left of the last TRAIN (R283). -/
  attempts : Nat := 0
  /-- Consecutive frames failing R277 (R288). -/
  tagRun : Nat := 0
  localRes : Option Bool := none
  peerRes : Option Bool := none
  worst : Nat := 0
  /-- Records to be sent again, with the sends left (R293). -/
  repeats : List (List Byte × Nat) := []
  /-- Receive stream: whether it stands at a known boundary, and the flits of a packet that is not yet whole (R274, R277). -/
  synced : Bool := true
  partial_ : List Byte := []
  /-- Every frame that has carried a flit of that packet was keyed (R278). -/
  partKeyed : Bool := true
  planDigest : List Byte := []
  fwDigest : List Byte := []
  serial : BitVec 128 := 0
  hadIdent : Bool := false
  lanes : Store LaneTx := []
  /-- The decoders' counts by lane (R271): all, those of the qualification dwell (R287), and the corrected bits of the 1 s window (R289). -/
  fec : Store LaneFec := []
  dwell : Store LaneFec := []
  win : Store Nat := []
  /-- Good frames received since the port entered ALIGN, to 64 (R283). -/
  good : Nat := 0
  /-- The time of entry to SAFE while idle frames still leave (R297). -/
  safeAt : Option (BitVec 64) := none
  /-- The slot of the last KEY_ACK received (R280). -/
  acked : Option Nat := none
  /-- Times and counts of uncorrectable codewords within the last 1 ms (R288). -/
  uncs : List (BitVec 64 × Nat) := []
  /-- Flits that wait to be sent in frames, each with whether it stands at a packet boundary (R273, R274). -/
  txq : List (Bool × List Byte) := []
  /-- Credits held as transmitter, the partner's cumulative counts last seen, and the receiver's own cumulative counts. -/
  cred : Credits := {}
  seen : Credits := {}
  freed : Credits := {}
  /-- Packets sent whose credit has not come back: flits and epoch, oldest first; and flits returned beyond the last whole packet (08 R334). -/
  away : List (Nat × Bool) := []
  back : Nat := 0
  out : OutArb := {}
  tel : PortTel := {}
  deriving DecidableEq, Repr

/-- Where a packet entered a die (08 R321, R326, R331). -/
inductive Came where
  /-- From a source endpoint of the die itself: E of it. -/
  | inject (e : Fin 5)
  | port (q : Port)
  /-- Over the die-to-die link from another die, with the bit of the link's virtual channel (R314, R315); the input port at the far port die when it is a
  crossing. -/
  | die (d : Die) (bit : Bool) (crossed : Option Port)
  deriving DecidableEq, Repr

/-- A packet held by a router: as it arrived and as it is to leave, its input's reserved and shared flits, and the output and virtual channel it waits for. -/
structure Transit where
  die : Die
  came : Came
  inp : Packet
  pkt : Packet
  res : Nat
  shr : Nat
  out : Egress
  vc : Nat
  deriving DecidableEq, Repr

/-- The sending end of a die-to-die link: credits of its six virtual channels, the packets sent whose credit has not come back, oldest first, each with its
VC bit, and the arbitration of the output (07 R298, R314, R320, R334; log entry 31). -/
structure D2dSt where
  cred : Credits := ⟨33, 33, 33, 33, 33, 33, 0⟩
  away : List (Bool × Packet) := []
  out : OutArb := {}
  deriving DecidableEq, Repr

/-- Space reserved for a packet in the other port die's transit queue of an egress port or endpoint (R328). -/
structure CrossRes where
  far : Die
  out : Egress
  pkt : Packet
  deriving DecidableEq, Repr

/-- A received frame: its header (R273), its flit slots up to the last that is not idle, as the key its header names decrypts them, its tag, and each lane's
codewords (R270, R272; log entry 17). -/
structure RxFrame where
  header : BitVec 128
  slots : List (List Byte)
  tag : BitVec 128
  lanes : List (List Codeword)
  deriving DecidableEq, Repr

/-- An IDENT record (07 R292). -/
structure Ident where
  pn : BitVec 8
  verMin : BitVec 4
  verMax : BitVec 4
  role : BitVec 8
  profile : BitVec 8
  serial : BitVec 128
  planDig : BitVec 128
  fwDig : BitVec 128
  deriving DecidableEq, Repr

/-- A training word (07 R285): PRESET [2:0], TAP [4:3], REQ [6:5], RX_READY [7], STATUS [9:8], and zero. -/
abbrev TrainWord := BitVec 16

def TrainWord.preset (w : TrainWord) : Nat := (BitVec.toNat w) % 8
def TrainWord.tap (w : TrainWord) : Nat := (BitVec.toNat w) / 8 % 4
def TrainWord.req (w : TrainWord) : Nat := (BitVec.toNat w) / 32 % 4
def TrainWord.rxReady (w : TrainWord) : Bool := BitVec.getLsbD w 7
def TrainWord.status (w : TrainWord) : Nat := (BitVec.toNat w) / 256 % 4

/-- Phases of bring-up (15 R575). -/
def phROM : Nat := 0
def phRECOVERY : Nat := 1
def phMGMT : Nat := 2
def phWAIT_REFCLK : Nat := 3
def phRAILS : Nat := 4
def phCLOCKS : Nat := 5
def phSRAM_TEST : Nat := 6
def phARRAY_TEST : Nat := 7
def phFABRIC_MEMORY : Nat := 8
def phREADY : Nat := 9
def phHALTED : Nat := 10

/-- Bring-up and what it found (15). -/
structure BootSt where
  phase : Nat := 0
  t0 : BitVec 64 := 0
  refPresent : Bool := false
  planVerified : Bool := false
  pkgSettled : Bool := false
  boardSettled : Bool := false
  fallback : Bool := false
  fastTest : Bool := false
  rounds : Nat := 0
  /-- The rail of step 5 that waits for its power-good (R560). -/
  rail : Nat := 0
  /-- Presentation in force: 0 1×8, 1 2×4, 2 4×2; board-unified or independent (00 R6–R12). -/
  pkgPres : Nat := 0
  boardPres : Bool := false
  /-- Cores and DMA engines that are holes: die × 32 + core, die × 16 + engine (R569, R576). -/
  coreHoles : List Nat := []
  dmaHoles : List Nat := []
  /-- Stacks that have completed training and repair: number 3c + k. -/
  eligible : List Nat := []
  deriving DecidableEq, Repr

/-- The straps sampled at bring-up (00 R11, 18 R658). -/
structure Straps where
  hostPresEn : Bool := false
  brdPos : Fin 4 := 0
  deriving DecidableEq, Repr

end Sys2Proof.Machine
end

