-- ==== Sys2Proof/Machine/MgmtTypes.lean ====
section
/-! DEFINITION. The pieces of state of the management side: mailbox channels, content keys (14 R546–R548, 16 R599–R603). -/

namespace Sys2Proof.Machine

/-- One direction of a mailbox channel (16 R600, R601, R615). -/
structure MbxDir where
  slot : Store Byte := []
  full : Bool := false
  lost : Bool := false
  blocked : Bool := false
  msgEpoch : BitVec 8 := 0
  sendEpoch : BitVec 8 := 0
  deriving DecidableEq, Repr

/-- A mailbox channel: both directions, the requests taken and not yet answered in order, the responses and notifications that wait for the
D2H slot, and MBX_CFG of a VF channel (16 R599–R605, R614). -/
structure ChanSt where
  h2d : MbxDir := {}
  d2h : MbxDir := {}
  resps : List (List Byte) := []
  notes : List (List Byte) := []
  cfg : Word := 0
  deriving DecidableEq, Repr

/-- A content key of a partition's import engines (14 R547). -/
structure WKey where
  image : BitVec 64
  epoch : BitVec 16
  key : BitVec 256
  deriving DecidableEq, Repr

/-- What the training of the links and the self-tests of steps 6–8 find (15 R569; log entry 1): links that fail, dies with an unrepairable
unit, cores and DMA engines that are holes, array lines that fail, and the lanes of a link's end that redundant lanes replace (07 R299, R304). -/
structure SelfTest where
  badLinks : List Page := []
  badDies : List Die := []
  badCores : List (CDie × Fin 32) := []
  badEngines : List (CDie × Fin 16) := []
  badLines : List (CDie × Bool × Nat) := []
  repaired : List (Page × Nat) := []
  deriving DecidableEq, Repr

/-- What a power-on or device reset finds (15 R560–R564; log entry 1): the straps, whether the security processor's self-test and the
certificate chain pass, whether the firmware image's certificate and its signature verify, whether the plan in flash verifies under the owner record, and whether
the reference is present. -/
structure BootFind where
  straps : Straps := {}
  spOk : Bool := true
  chainOk : Bool := true
  imageCert : Bool := true
  imageSig : Bool := true
  planSig : Bool := true
  refPresent : Bool := false
  deriving DecidableEq, Repr

/-- The latest frame transfer timestamps of an optical port: FCNT and time in 1/48 tick, sent and received (17 R635). -/
structure XferSt where
  txF : BitVec 64 := 0
  txT : BitVec 64 := 0
  rxF : BitVec 64 := 0
  rxT : BitVec 64 := 0
  deriving DecidableEq, Repr

/-- The ridge line and GTIME corrections (17 R629–R634): D of the previous MARKER, whether a MARKER has been applied and whether the master has
sent one, ticks still to hold, ticks still to withhold (positive) or to add (negative), and the ticks counted towards the next of them. -/
structure RidgeSt where
  prevD : Option (BitVec 32) := none
  applied : Bool := false
  sent : Bool := false
  hold : Nat := 0
  slew : Int := 0
  phase : Nat := 0
  deriving DecidableEq, Repr

/-- One pair of the calibration window (12 R459): the sum and the number of the raw estimates of 100 µs, the measurement, whether it is valid. -/
structure MeasPair where
  raw : Nat
  count : Nat
  meas : Nat
  ok : Bool
  deriving DecidableEq, Repr

/-- The loop and the calibration of a compute die, or the calibration of the uncore (12 R456–R470): the ten latest calibrated estimates; the sum
and the number of the estimates of the present 100 µs; the pairs of the calibration window; the
step that waits for its voltage; the ACLK change that waits for a droop, and whether its 1 µs runs; periods at risk; measurements in a row within
the limit and past 1.05 times it; energy below 1 mJ in units of 0.125 µJ. -/
structure PowerSt where
  last : List Nat := []
  rawSum : Nat := 0
  count : Nat := 0
  pairs : List MeasPair := []
  raise : Option Nat := none
  deferred : Option Nat := none
  settling : Bool := false
  risk : Nat := 0
  within : Nat := 0
  breach : Nat := 0
  energy : Nat := 0
  deriving DecidableEq, Repr

/-- The package's part (12 R461, R463, R473): PKG_ROOM, the largest uncore estimate of the present 10 ms and of the windows of the last second, and
measurements in a row within the cap and past 1.05 times it. -/
structure PkgPower where
  room : Bool := false
  uncNow : Nat := 0
  uncMax : List Nat := []
  within : Nat := 0
  breach : Nat := 0
  deriving DecidableEq, Repr

/-- What the other members of the board say to a BOARD placement (04 R183, R184; log entry 1): whether the slice has another there, their positions,
the dies that hold it, whether one holds a placement, and the granules free on every one of their dies. -/
structure BoardMembers where
  any : Bool := false
  positions : Nat := 0
  dies : Nat := 0
  held : Bool := false
  freeGran : List Nat := []
  deriving DecidableEq, Repr

/-- What a quiet period belongs to: a block's record or a partition (13 R500, R505). -/
inductive QuietOf where
  | page (p : Page) | part (p : Part)
  deriving DecidableEq, Repr

/-- The commands of a port (07 R301, 10 R386). -/
inductive PortCmd where
  | train | disable | admitPort | quarantine | release | memberOn | memberOff | darkOn | darkOff
  deriving DecidableEq, Repr

/-- Where a port command comes from: a write of LNK_CMD, or PORT_CMD of the fabric agent (R386, 07 R302). -/
inductive CmdSrc where
  | lnkCmd (q : Port)
  | agent (m : MgtIn)
  deriving DecidableEq, Repr

/-- A BOARD placement or its release that another member's management complex asks of this package (04 R183, R184; log entry 82). -/
structure BoardOrder where
  src : Fin 4
  part : Part
  release : Bool
  base : Nat
  grans : List Nat
  deriving DecidableEq, Repr

/-- What stands behind a message (log entry 1): the other members of the board, the wrap keys that the certificates give for the serials of a device set (14 R546), what
memory accesses meet, whether an operator's and a token's signatures verify, and what a restart of bring-up finds. -/
structure MsgEnv where
  board : BoardMembers := {}
  /-- The message is a BOARD order of another member, and no request of this package's own software. -/
  member : Option BoardOrder := none
  wrapKeys : List (BitVec 128 × BitVec 256) := []
  obs : Obs := {}
  opSig : Bool := false
  tokenSigs : Bool := false
  find : BootFind := {}
  deriving DecidableEq, Repr

/-- A distribution a package holds (15 R578–R581): its fragments that have arrived by index, and the die it stages on. -/
structure DistSt where
  id : BitVec 32
  type : Nat
  length : Nat
  nchunk : Nat
  digest : BitVec 512
  got : Store Bool := []
  state : Nat := 1
  cause : Nat := 0
  die : CDie
  gran : Nat
  deriving DecidableEq, Repr

/-- What the verification of a received content finds (15 R581; log entry 1): whether its signature verifies, with the certificate of a firmware image. -/
structure DistFind where
  sigOk : Bool := false
  deriving DecidableEq, Repr

/-- An EVENT packet (10 R397, R398): one that reaches the manager, with its sender, whether it verifies, and what the manager finds of a fault (a fenced
compute die or a die's memory fenced, the partition of a C3; log entry 1); or the answer that reaches the agent. -/
inductive EventIn where
  | atManager (serial : BitVec 128) (role : Nat) (e : AgentEvent) (valid fenced : Bool) (part : Option Part)
  | answered (m : MgtIn)
  deriving DecidableEq, Repr

/-- What an MGT frame brings (16 R610): a request to the PD0 agent or the Summit endpoint, with what stands behind it (the blob of a KEY_LOAD
verifies, the records of a MIRROR); an answer to a request of the manager; a member's report of its scrub. -/
inductive MgtFrame where
  | request (m : MgtIn) (blobOk : Bool) (recs : List MirRec)
  | answer (a : MgrAns)
  | scrubbed (serial : BitVec 128) (slice : Nat)
  | event (x : EventIn)
  deriving DecidableEq, Repr

/-- A tracked reading of WS_READ (12 R481). -/
structure WsReading where
  gen : BitVec 16
  failed : Bool
  last : BitVec 64
  arr : BitVec 32
  deriving DecidableEq, Repr

/-- The readings of one slice's round: of the root, and of each member in rank order, none where a package does not answer (12 R482). -/
structure WsRound where
  slice : Nat
  root : Option WsReading
  members : List (Option WsReading)
  deriving DecidableEq, Repr

/-- The timestamps of both ends of the link between a rack and its parent (17 R636): a transmission of the parent and its reception, a transmission of the
child and its reception; each with its FCNT. -/
structure CubeXfer where
  rack : Fin 64
  fcntA : BitVec 64
  t1 : BitVec 64
  t2 : BitVec 64
  fcntB : BitVec 64
  t3 : BitVec 64
  t4 : BitVec 64
  deriving DecidableEq, Repr

/-- A relay frame of position 0 (16 R598): its position, the host function it is for, counter, accesses, the resends left, and whether it has been
sent. -/
structure RelayOut where
  pos : Nat
  who : Fn := .pf 0
  ctr : Nat := 0
  accs : List RelayAcc
  left : Nat := 3
  sent : Bool := false
  deriving DecidableEq, Repr

/-- A RELAY frame (16 R597, R598): of accesses, at a position that is not 0, or of their answers, at position 0; its counter, and whether its tag
verifies. -/
inductive RelayIn where
  | frame (ctr : BitVec 64) (valid : Bool) (accs : List RelayAcc)
  | answer (pos : Fin 4) (ctr : BitVec 64) (valid : Bool) (data : List Word)
  deriving DecidableEq, Repr

/-- A request that goes unanswered for 1 ms (10 R400, 16 R598): of the manager, by its XID; or the relay frame to a position. -/
inductive RetryOf where
  | mgr (xid : Nat)
  | relay (pos : Fin 4)
  deriving DecidableEq, Repr

/-- What the host asks of the DOE mailbox (16 R594): Discovery, or an SPDM exchange. -/
inductive DoeReq where
  | discovery
  | spdm (r : SpdmReq)
  deriving DecidableEq, Repr

/-- Where a register access goes (19 R664, 16 R588, R589): an offset of BAR0, or of a VF's window. -/
inductive RegAddr where
  | bar0 (a : BitVec 30)
  | window (off : BitVec 16)
  deriving DecidableEq, Repr

/-- A write of a function's PCIe configuration (16 R585, R587, R593): MSI-X and bus-master enables, the mask of a vector, and the VFs a PF
enables. -/
inductive PciCfg where
  | msix (on : Bool)
  | busMaster (on : Bool)
  | mask (vec : Fin 2048) (on : Bool)
  | numVfs (n : Fin 65)
  deriving DecidableEq, Repr

/-- What a register write addresses: up to 16 DWORDs from an address, each with whether all its byte enables are set (19 R670), or a function's
configuration. -/
inductive RegWrite where
  | words (a : RegAddr) (ws : List (Word × Bool))
  | cfg (c : PciCfg)
  deriving DecidableEq, Repr

end Sys2Proof.Machine
end

