-- ==== Sys2Proof/Syntax.lean ====
section
/-! DEFINITION. The commands of the GY880 block: one constructor for each row of spec/opcode_table.json, with the row's operands. Operands that say what
stands outside the package (the verdict of a cryptographic check, what a sensor or a self-test finds) are the environment's (log entry 1). -/

namespace Sys2Proof

open Machine

/-- The commands. -/
inductive Instr where
  -- Commands of bring-up and of power (15, 17 R639, 18 R649)
  /-- MGMT_POWER_ON. The management domain powers on through input B or A, the other input in its window or not (12 R484, 15 R560). -/
  | mgmtPowerOn (b other : Bool) (f : BootFind)
  /-- RESET_N. The RESET_N land resets the device as at power-on (17 R639). -/
  | resetN (f : BootFind)
  /-- REFCLK_PRESENT. REFCLK_RACK first appears after step 3 (15 R560, R567). -/
  | refclkPresent
  /-- RAIL_POWER_GOOD. The enabled core rail reports power-good and the next is enabled (18 R649). -/
  | railPowerGood
  /-- RAIL_PG_TIMEOUT. The enabled core rail reports no power-good within its bound (15 R568). -/
  | railPgTimeout
  /-- BRINGUP_BRANCHES_START. Steps 6–8 end with what the self-tests find, and both branches start (15 R561, R569). -/
  | bringupBranchesStart (t : SelfTest)
  /-- STACK_TRAINING_REPAIR_DONE. A stack finishes training and hard repair; `fixed`: the logged rows that its repair resources cover (06 R250, 15 R571). -/
  | stackTrainingRepairDone (c : CDie) (k : Fin 3) (r : StackTrained)
  /-- STACK_TEST_DONE. A stack's memory test completes, with the rows it remaps (06 R259, R263). -/
  | stackTestDone (c : CDie) (k : Fin 3) (pass : Bool) (rows : List (Fin 12 × BitVec 22))
  /-- BOARD_PRES_CONFIRM. Board-unified presentation is confirmed or falls back (15 R570). -/
  | boardPresConfirm
  -- Commands of the queues and of the Massif array (03, 04, 05 R194–R204)
  /-- DOORBELL. A doorbell with a new TAIL (05 R197). -/
  | doorbell (src : DoorSrc) (q : QRef) (t : BitVec 24)
  /-- DOORBELL_GATED. A GATED doorbell (05 R198). -/
  | doorbellGated (src : DoorSrc) (q : QRef) (t : BitVec 24)
  /-- DOORBELL_FLUSH. A FLUSH doorbell (05 R200). -/
  | doorbellFlush (src : DoorSrc) (q : QRef)
  /-- DESCRIPTOR_FETCH. The queue engine fetches and checks a released entry (01 R35, 05 R202). -/
  | descriptorFetch (q : QRef) (o : Obs)
  /-- GATE_TIMEOUT. A gate stays closed for its GATE_TO period (05 R199). -/
  | gateTimeout (q : QRef)
  /-- SWEEP_SELECT. The arbiter selects the next sweep at a boundary (03 R133). -/
  | sweepSelect (c : CDie)
  /-- SWITCH_COMPLETE. A context switch ends (03 R135). -/
  | switchComplete (c : CDie)
  /-- TILE_LOAD_DONE. A tile has loaded into the shadow plane; `cells`: what its cells store otherwise than sent; `tie`: the load's errors are detected in one
  cycle (03 R101, R110, R127). -/
  | tileLoadDone (c : CDie) (u : LoadUpset) (o : Obs)
  /-- SWEEP_PASS_END. A pass ends and its checks are compared; `u`: what its cells and accumulators get wrong; `tie`: its errors are detected in one cycle (03
  R101, R126–R130). -/
  | sweepPassEnd (c : CDie) (prods : List ProdUpset) (accs : List AccUpset) (tie : Bool) (o : Obs)
  /-- SWEEP_LAST_ROW. The last row of a sweep enters the array (03 R114). -/
  | sweepLastRow (c : CDie)
  /-- SWEEP_COMPLETE. A sweep's outputs are committed and it completes (01 R35, 03 R99–R102). -/
  | sweepComplete (c : CDie)
  /-- SWEEP_LIMIT. A sweep reaches its limit (03 R137). -/
  | sweepLimit (c : CDie)
  /-- ABORT_COMPLETE. An abort has cleared the array (03 R136). -/
  | abortComplete (c : CDie)
  /-- TRN_ZERO_GO. A write of TRN_ZERO_CTRL (03 R95, R143, R144). -/
  | trnZeroGo (c : CDie) (v : Word)
  /-- TRN_ZERO_DONE. A Tarn zeroing order completes (03 R143). -/
  | trnZeroDone (c : CDie)
  /-- TRN_PART_WRITE. A write of a partition's Tarn allocation (03 R144). -/
  | trnPartWrite (c : CDie) (p : Part) (v : Word)
  -- Commands of the vector cores (05 R185–R193, R205–R207)
  /-- DISPATCH_START. A vector dispatch starts its cores (05 R206). -/
  | dispatchStart (c : CDie)
  /-- ECALL_EXIT. The EXIT monitor service (05 R186). -/
  | ecallExit (c : CDie) (k : Fin 32) (pre : List CoreWrite)
  /-- ECALL_SIGNAL. The SIGNAL monitor service (05 R186). -/
  | ecallSignal (c : CDie) (k : Fin 32) (pre : List CoreWrite)
  /-- CORE_TRAP. A core traps (05 R190). -/
  | coreTrap (c : CDie) (k : Fin 32) (pre : List CoreWrite) (t : TrapWhy) (o : Obs)
  /-- DISPATCH_COMPLETE. A dispatch whose cores have all stopped completes (05 R207). -/
  | dispatchComplete (c : CDie)
  /-- DISPATCH_LIMIT. A core exceeds the dispatch LIMIT (05 R206). -/
  | dispatchLimit (c : CDie) (k : Fin 32)
  /-- VSLY_ADDA128. vsly.adda128 (05 R191, 02 R57). -/
  | vslyAdda128 (c : CDie) (k : Fin 32) (pre : List CoreWrite) (vd vs1 vs2 : Fin 32)
  /-- VSLY_ADDA64. vsly.adda64 (05 R191, 02 R56). -/
  | vslyAdda64 (c : CDie) (k : Fin 32) (pre : List CoreWrite) (vd vs1 vs2 : Fin 32)
  /-- VSLY_CVT. vsly.cvt (05 R191). -/
  | vslyCvt (c : CDie) (k : Fin 32) (pre : List CoreWrite) (vd vs1 vs2 : Fin 32)
  /-- VSLY_UNPACK. vsly.unpack (05 R191). -/
  | vslyUnpack (c : CDie) (k : Fin 32) (pre : List CoreWrite) (vd vs1 vs2 : Fin 32)
  /-- CORE_FENCE. A FENCE with W in its predecessor set (05 R188). -/
  | coreFence (c : CDie) (k : Fin 32) (pre : List CoreWrite)
  /-- CORE_REMOTE_ACCESS. A load, store or AMO to another die or package (06 R236). -/
  | coreRemoteAccess (c : CDie) (k : Fin 32) (pre : List CoreWrite) (a : CoreTry)
  -- Commands of the DMA engines and of the end-to-end transport (05 R208–R217, 08 R337–R348)
  /-- DMA_COPY. An engine takes a COPY (05 R211). -/
  | dmaCopy (c : CDie) (o : Obs)
  /-- DMA_GET. An engine takes a GET (05 R213). -/
  | dmaGet (c : CDie)
  /-- DMA_FANOUT. An engine takes a FANOUT (05 R214). -/
  | dmaFanout (c : CDie) (o : Obs)
  /-- DMA_SIGNAL. An engine takes a SIGNAL descriptor (05 R210). -/
  | dmaSignal (c : CDie)
  /-- CAIRN_CFG. An engine takes a CAIRN_CFG (05 R222). -/
  | cairnCfg (c : CDie)
  /-- DMA_COMPLETE. A transfer whose packets are all over completes (05 R215). -/
  | dmaComplete (c : CDie)
  /-- REQUEST_TIMEOUT. A request's completion timeout (08 R340). -/
  | requestTimeout (c : CDie) (xid : BitVec 32) (seq : BitVec 16)
  /-- ACK_RECEIVE. An ACK arrives (08 R338). -/
  | ackReceive (c : CDie) (p : Packet)
  /-- READ_DATA_RECEIVE. READ_DATA arrives (08 R339). -/
  | readDataReceive (c : CDie) (p : Packet) (o : Obs)
  /-- READ_ERR_RECEIVE. READ_ERR arrives (08 R312). -/
  | readErrReceive (c : CDie) (p : Packet)
  /-- AMO_RESP_RECEIVE. AMO_RESP arrives (08 R312). -/
  | amoRespReceive (c : CDie) (p : Packet)
  /-- WINDOW_RELEASE. A window with nothing outstanding is released (08 R337). -/
  | windowRelease (c : CDie) (dest : BitVec 24)
  /-- CC_PERIOD. The end of a rate period (08 R346). -/
  | ccPeriod (c : CDie) (dest : BitVec 24)
  -- Commands of the cairns and of memory (05 R218–R226, 06)
  /-- CAIRN_SIGNAL. A SIGNAL arrives at a cairn unit (05 R219). -/
  | cairnSignal (c : CDie) (p : Packet)
  /-- CAIRN_ABORT. A CAIRN_ABORT arrives (05 R219). -/
  | cairnAbort (c : CDie) (p : Packet)
  /-- CRN_INSP_SEL_WRITE. A write of CRN_INSP_SEL (05 R226). -/
  | crnInspSelWrite (c : CDie) (v : Word)
  /-- CRN_TRK_SEL_WRITE. A write of CRN_TRK_SEL (05 R226). -/
  | crnTrkSelWrite (c : CDie) (v : Word)
  /-- CRN_PART_WRITE. A write of a partition's cairn range (05 R226). -/
  | crnPartWrite (c : CDie) (p : Part) (v : Word)
  /-- MEM_WRITE. A WRITE at the memory controller (08 R312, R338). -/
  | memWrite (c : CDie) (p : Packet) (o : Obs)
  /-- MEM_WRITE_MASKED. A WRITE_MASKED at the memory controller (06 R247). -/
  | memWriteMasked (c : CDie) (p : Packet) (o : Obs)
  /-- MEM_READ. A READ at the memory controller (06 R246). -/
  | memRead (c : CDie) (p : Packet) (o : Obs)
  /-- MEM_AMO. An AMO at the memory controller (06 R239). -/
  | memAmo (c : CDie) (p : Packet) (o : Obs)
  /-- REFRESH_POLL. Each stack's refresh-rate indication and temperature (06 R251, R252). -/
  | refreshPoll (c : CDie) (rd : List (BitVec 3 × BitVec 8))
  /-- PATROL_READ. A patrol read and what it finds (06 R253). -/
  | patrolRead (c : CDie) (p : PatrolFind)
  /-- MEM_ZERO_GO. A write of MEM_ZERO_CTRL (06 R255). -/
  | memZeroGo (c : CDie) (v : Word)
  /-- MEM_ZERO_DONE. A zeroing order completes (06 R255). -/
  | memZeroDone (c : CDie)
  /-- MEM_RANGE_WRITE. A write of a partition range (06 R243). -/
  | memRangeWrite (c : CDie) (p : Part) (r : Fin 4) (v : Word)
  /-- STACK_FAIL. A stack fails in service (06 R260). -/
  | stackFail (c : CDie) (k : Fin 3)
  -- Commands of the ports, lanes, links and routers (07, 08 R317–R336, 10 R386)
  /-- SIGNAL_DETECT. Signal on every lane; of an optical port the lanes' received power (07 R283, R303). -/
  | signalDetect (f : SignalFind)
  /-- TRAINING_WORD. A training word is received (07 R285). -/
  | trainingWord (q : Port) (lane : Fin 8) (w : TrainWord) (limit refused : Bool)
  /-- TRAIN_COMPLETE. Every lane has locked (07 R283). -/
  | trainComplete (q : Port) (presets : List (Fin 8))
  /-- ALIGN_COMPLETE. Alignment and deskew complete; each lane's physical lane and polarity (07 R286). -/
  | alignComplete (q : Port) (lanes : List (Fin 8 × Bool))
  /-- TRAIN_ATTEMPT_TIMEOUT. An attempt exceeds its bound (07 R283). -/
  | trainAttemptTimeout (q : Port)
  /-- QUAL_DWELL_END. The dwell ends (07 R287). -/
  | qualDwellEnd (q : Port) (more : List LaneFec)
  /-- QUAL_RESULT_TIMEOUT. No partner result within 100 ms (07 R287). -/
  | qualResultTimeout (q : Port)
  /-- FRAME_RECEIVE. A link frame is received (07 R277). -/
  | frameReceive (q : Port) (f : RxFrame)
  /-- FRAME_TRANSMIT. A link frame is sent (07 R276). -/
  | frameTransmit (q : Port)
  /-- IDENT. An IDENT record is received (07 R293). -/
  | ident (q : Port) (x : Ident)
  /-- KEY_READY. A KEY_READY record (07 R279). -/
  | keyReady (q : Port) (slot : Fin 2)
  /-- KEY_ACK. A KEY_ACK record (07 R280). -/
  | keyAck (q : Port) (slot : Fin 2)
  /-- QUAL_RESULT. The partner's QUAL_RESULT record (07 R287). -/
  | qualResult (q : Port) (pass : Bool)
  /-- IDENT_SEND. The timer sends an IDENT record (07 R293). -/
  | identSend (q : Port)
  /-- LINK_RECORD_REPEAT. Records are sent again (07 R293). -/
  | linkRecordRepeat (q : Port)
  /-- LANE_LOSS_OF_LOCK. A lane loses lock (07 R288). -/
  | laneLossOfLock (q : Port) (lane : Fin 8)
  /-- LASER_LOSS. The laser input falls below its threshold; the lanes' received power (07 R288, R295, R303). -/
  | laserLoss (j : OptPort) (f : LaserFind)
  /-- LASER_OK_CHANGE. The laser input crosses +15 dBm; the lanes' received power (07 R295, R303). -/
  | laserOkChange (j : OptPort) (f : LaserFind)
  /-- LANE_BER_WINDOW. A 1 s window of the lanes' corrected bits ends (07 R289). -/
  | laneBerWindow (q : Port) (more : List LaneFec)
  /-- TRAIN. TRAIN (07 R283, 10 R386). -/
  | train (src : CmdSrc)
  /-- DISABLE. DISABLE (07 R283, 10 R386). -/
  | disable (src : CmdSrc)
  /-- ADMIT. ADMIT (10 R386). -/
  | admitPort (src : CmdSrc)
  /-- QUARANTINE. QUARANTINE (10 R386). -/
  | quarantine (src : CmdSrc)
  /-- RELEASE. RELEASE (10 R386). -/
  | release (src : CmdSrc)
  /-- MEMBER_ON. MEMBER_ON (10 R386). -/
  | memberOn (m : MgtIn)
  /-- MEMBER_OFF. MEMBER_OFF (10 R386). -/
  | memberOff (m : MgtIn)
  /-- DARK_ON. DARK_ON (10 R386). -/
  | darkOn (m : MgtIn)
  /-- DARK_OFF. DARK_OFF (10 R386). -/
  | darkOff (m : MgtIn)
  /-- ENGINE_TEMP. An optical engine's temperature crosses a limit (12 R477). -/
  | engineTemp (j : OptPort) (t : BitVec 8)
  /-- D2D_FLIT_RECEIVE. A die-to-die flit is received and checked; its packet data (07 R298, R299). -/
  | d2dFlitReceive (p : Page) (f : D2dFlit)
  /-- D2D_PORT_FAIL. A die-to-die port fails (07 R299). -/
  | d2dPortFail (p : Page) (inSwitch : Bool)
  /-- PACKET_FORWARD. A routed packet arrives at a die's router (08 R321). -/
  | packetForward (d : Die) (came : Came) (p : Packet)
  /-- DIRECTED_FORWARD. A directed packet arrives at a die's router (08 R331). -/
  | directedForward (d : Die) (came : Came) (p : Packet)
  /-- PACKET_LIFETIME_EXPIRE. The n-th packet held has waited 2 µs (08 R335). -/
  | packetLifetimeExpire (n : Nat)
  /-- LINK_CREDIT. A LINK_CREDIT packet arrives (08 R319). -/
  | linkCredit (q : Port) (p : Packet)
  /-- LINK_CREDIT_SEND. LINK_CREDIT is sent (08 R319). -/
  | linkCreditSend (q : Port)
  -- Commands of the fabric agent (10)
  /-- IDENTIFY. IDENTIFY (10 R383). -/
  | identify (m : MgtIn)
  /-- PORT_LIST. PORT_LIST (10 R384). -/
  | portList (m : MgtIn)
  /-- SESSION_OPEN. SESSION_OPEN (10 R376, 14 R541). -/
  | sessionOpen (m : MgtIn)
  /-- SESSION_CLOSE. SESSION_CLOSE (10 R381). -/
  | sessionClose (m : MgtIn)
  /-- COORD_SET. COORD_SET (10 R385). -/
  | coordSet (m : MgtIn)
  /-- PORT_ATTR. PORT_ATTR (10 R382). -/
  | portAttr (m : MgtIn)
  /-- TABLE_WRITE. TABLE_WRITE (10 R387). -/
  | tableWrite (m : MgtIn)
  /-- TABLE_COMMIT. TABLE_COMMIT (10 R388). -/
  | tableCommit (m : MgtIn)
  /-- EPOCH_SET. EPOCH_SET (10 R390). -/
  | epochSet (m : MgtIn)
  /-- INFLIGHT_READ. INFLIGHT_READ (10 R391). -/
  | inflightRead (m : MgtIn)
  /-- KEY_LOAD. KEY_LOAD; `blobOk`: the blob's tag verifies (10 R392). -/
  | keyLoad (m : MgtIn) (blobOk : Bool)
  /-- KEY_CLEAR. KEY_CLEAR (10 R393). -/
  | keyClear (m : MgtIn)
  /-- KEY_SWITCH. KEY_SWITCH (10 R393). -/
  | keySwitch (m : MgtIn)
  /-- TELE_READ. TELE_READ (10 R396). -/
  | teleRead (m : MgtIn)
  /-- TELE_CLEAR. TELE_CLEAR (10 R396). -/
  | teleClear (m : MgtIn)
  /-- MC_COMMAND. MC_COMMAND (10 R381, R399). -/
  | mcCommand (m : MgtIn)
  /-- EVENT. An EVENT reaches the manager, or its answer the agent (10 R397, R398). -/
  | event (x : EventIn)
  /-- EVENT_RESEND. The resend period of an agent's oldest event (10 R398). -/
  | eventResend (k : PDie)
  /-- TELE_SAMPLE. A sample of a port's waiting flits (10 R395). -/
  | teleSample (q : Port)
  /-- MGT_REQUEST_RETRY. A request goes unanswered for 1 ms (10 R400). -/
  | mgtRequestRetry (x : RetryOf)
  -- Commands of the Summit manager (11, 12 R480–R482, 17 R636)
  /-- PAIR_OPEN. PAIR_OPEN (11 R444). -/
  | pairOpen (m : MgtIn)
  /-- HEARTBEAT. HEARTBEAT (11 R447). -/
  | heartbeat (m : MgtIn)
  /-- MIRROR. MIRROR, with the records of its payload (11 R443). -/
  | mirror (m : MgtIn) (recs : List MirRec)
  /-- SYNC_READ. SYNC_READ (11 R444). -/
  | syncRead (m : MgtIn)
  /-- TERM_NOTICE. TERM_NOTICE (11 R446). -/
  | termNotice (m : MgtIn)
  /-- HEARTBEAT_PERIOD. The end of a heartbeat period (11 R447). -/
  | heartbeatPeriod
  /-- SMT_EN. A write of SMT_CTRL (11 R414). -/
  | smtEn (v : Word)
  /-- PAIR_WAIT_EXPIRE. PAIR_WAIT passes (11 R414). -/
  | pairWaitExpire
  /-- DISCOVERY_POLL. The 100 ms poll (11 R415). -/
  | discoveryPoll
  /-- EXPLORE_END. Exploration ends, `settled`: SETTLE has passed unchanged (11 R415). -/
  | exploreEnd (settled : Bool)
  /-- MGR_CLAIM. MGR_CLAIM by its body (11 R445). -/
  | mgrClaim (b : List Byte)
  /-- CLAIM_TIMEOUT. A claim is not granted in time (11 R445). -/
  | claimTimeout
  /-- SMT_GEN_GO. A write of SMT_GEN (11 R426). -/
  | smtGenGo (v : Word)
  /-- ROUTE_GEN_DONE. A route generation completes (11 R426). -/
  | routeGenDone (us : BitVec 32) (unreadable : Bool)
  /-- ROUTE_CHANGE. The inactive epoch is reusable, and the change goes on (11 R427, R428). -/
  | routeChange
  /-- KEY_ROTATION. A link direction's key is rotated (11 R419). -/
  | keyRotation (ser : BitVec 128) (role port : Nat)
  /-- PORT_RETRAIN. A planned-present port that failed is retrained (11 R421). -/
  | portRetrain (ser : BitVec 128) (role port : Nat)
  /-- SLICE_JOIN_TIMEOUT. Members fail to answer SLICE_JOIN (11 R434). -/
  | sliceJoinTimeout (id : Nat)
  /-- WATERSHED_ROUND. A watershed round with its readings (12 R482). -/
  | watershedRound (rounds : List WsRound)
  /-- CUBE_TIME_ALIGN. Racks are aligned to their parents (17 R636). -/
  | cubeTimeAlign (xs : List CubeXfer)
  -- Operator commands at the primary (11 R438, 12 R479, R480, 14 R539, 15 R580, 17 R638, R639)
  /-- SLICE_ALLOC. SLICE_ALLOC (11 R433). -/
  | sliceAlloc (h : OpHdr) (kind count a b cmask partIdx : Nat) (join : List Byte)
  /-- SLICE_FREE. SLICE_FREE (11 R434). -/
  | sliceFree (h : OpHdr) (id : Nat)
  /-- SHAPE_READ. SHAPE_READ (11 R438). -/
  | shapeRead (h : OpHdr) (cube : Nat)
  /-- PLAN_UPDATE. PLAN_UPDATE (11 R412). -/
  | planUpdate (h : OpHdr) (image : List Byte) (sigOk : Bool)
  /-- READMIT. READMIT (11 R441). -/
  | readmit (h : OpHdr) (co : BitVec 32)
  /-- LOG_READ. LOG_READ (11 R438). -/
  | logRead (h : OpHdr) (seq : Nat)
  /-- POWER_SET. POWER_SET (12 R479). -/
  | powerSet (h : OpHdr) (co : BitVec 32) (slice : Nat) (body : List Byte)
  /-- WS_CONFIG. WS_CONFIG (12 R480). -/
  | wsConfig (h : OpHdr) (r : WsReq)
  /-- FW_DISTRIBUTE. FW_DISTRIBUTE (15 R582). -/
  | fwDistribute (h : OpHdr) (type : Nat) (t : TargetSet) (content : List Byte)
  /-- FW_ACTIVATE. FW_ACTIVATE (15 R583). -/
  | fwActivate (h : OpHdr) (id : BitVec 32) (t : TargetSet) (flags : Byte)
  /-- RIDGE_STOP. RIDGE_STOP (17 R638). -/
  | ridgeStop (h : OpHdr) (cube : Nat)
  /-- RIDGE_WAKE. RIDGE_WAKE (17 R638). -/
  | ridgeWake (h : OpHdr) (cube : Nat) (mask : BitVec 64)
  /-- DEVICE_RESET. DEVICE_RESET; `f`: what the reset finds when the package resets itself (17 R639). -/
  | deviceReset (h : OpHdr) (co : BitVec 32) (f : BootFind)
  /-- OPCMD. A signed OPCMD frame of any code (14 R539, 16 R610). -/
  | opcmd (h : OpHdr) (c : OpCmd) (f : BootFind)
  -- Commands of the manager at a member's management complex (11 R436, 12 R478, R481, 14 R526, R527, 15 R580–R583, 17 R638)
  /-- SLICE_JOIN. SLICE_JOIN (14 R526). -/
  | sliceJoin (b : List Byte)
  /-- SLICE_LEAVE. SLICE_LEAVE (14 R527). -/
  | sliceLeave (b : List Byte)
  /-- SLICE_STOP. SLICE_STOP (11 R435). -/
  | sliceStop (b : List Byte)
  /-- SLICE_QUERY. SLICE_QUERY (11 R436). -/
  | sliceQuery
  /-- READMIT_MC. READMIT (11 R436, R440). -/
  | readmitMc
  /-- PWR_SET. PWR_SET (12 R478). -/
  | pwrSet (b : List Byte)
  /-- WS_READ. WS_READ (12 R481). -/
  | wsRead (b : List Byte)
  /-- DIST_OPEN. DIST_OPEN (15 R580). -/
  | distOpen (b : List Byte)
  /-- DIST_DATA. DIST_DATA (15 R581). -/
  | distData (b : List Byte)
  /-- DIST_STATUS. DIST_STATUS (15 R580). -/
  | distStatus (b : List Byte)
  /-- DIST_ACTIVATE. DIST_ACTIVATE (15 R583). -/
  | distActivate (b : List Byte)
  /-- DIST_ABORT. DIST_ABORT (15 R580). -/
  | distAbort (b : List Byte)
  /-- DIST_VERIFY_DONE. The verification of a received content ends (15 R581). -/
  | distVerifyDone (f : DistFind)
  /-- SET_MASTER. TIM_CMD SET_MASTER (17 R638). -/
  | setMaster (b : List Byte)
  /-- READ_XFER. TIM_CMD READ_XFER (17 R638). -/
  | readXfer (b : List Byte)
  /-- TIM_ADJ. TIM_CMD TIM_ADJ (17 R636). -/
  | timAdj (b : List Byte)
  /-- TIM_STOP. TIM_CMD STOP (17 R638). -/
  | timStop (b : List Byte)
  /-- TIM_WAKE. TIM_CMD WAKE (17 R638). -/
  | timWake (b : List Byte)
  -- Commands of power, voltage and temperature (12, 18)
  /-- POWER_ESTIMATE. The 1 µs estimates of the dies and the uncore (12 R456). -/
  | powerEstimate (raw : List (BitVec 16)) (uncore : BitVec 16)
  /-- POWER_MEASURE. The output currents of the 14 rails as the PMBus buses give them, the buses whose read failed, and the port dies' hottest sensors (12 R458,
  R475, 18 R652). -/
  | powerMeasure (iout : List (BitVec 16)) (bad : BitVec 6) (temps : List (BitVec 8))
  /-- LIMIT_LOOP. The 10 µs loop of a die at a temperature (12 R462). -/
  | limitLoop (c : CDie) (t : BitVec 8) (stretched : Bool)
  /-- VOLTAGE_SETTLED. VDone (12 R454). -/
  | voltageSettled (c : CDie)
  /-- AVS_RETRY. 1 ms without VDone (18 R651). -/
  | avsRetry (c : CDie)
  /-- DROOP_TRIP. A droop detector trips (12 R465). -/
  | droopTrip (c : CDie) (det : Fin 8)
  /-- DROOP_RELEASE. The droop is over (12 R466). -/
  | droopRelease (c : CDie)
  /-- DEFERRAL_END. A deferred ACLK change takes effect (12 R467). -/
  | deferralEnd (c : CDie)
  /-- DROOP_LONG. A droop response lasts 1 ms (12 R468). -/
  | droopLong (c : CDie)
  /-- PD_OVER. A port die's estimate stays above its limit (12 R464). -/
  | pdOver (k : PDie)
  /-- CAP_UNATTAINABLE. A limit or the cap is exceeded for 500 ms (12 R473). -/
  | capUnattainable (c : Option CDie)
  /-- THERMAL_TRIP. A sensor reaches 120 °C (12 R476). -/
  | thermalTrip (d : Die)
  /-- MGMT_SUPPLY_SWITCHOVER. The switch selects the other management input (12 R484). -/
  | mgmtSupplySwitchover
  /-- MGMT_SUPPLY_LOSS. Both management inputs leave their windows (12 R485). -/
  | mgmtSupplyLoss
  /-- VMG_INPUT_WINDOW_CHANGE. The other management input leaves or re-enters its window (12 R485). -/
  | vmgInputWindowChange (inWindow : Bool)
  /-- RAIL_LOST. A core rail is lost (12 R486). -/
  | railLost (r : Rail)
  -- Commands of the fault hub and of partitions (13, 14 R553)
  /-- FLT_ACK. A write of FLT_ACK (13 R499). -/
  | fltAck (p : Page) (v : Word)
  /-- QUIET_EXPIRE. The quiet period of a record or a partition passes (13 R500, R505). -/
  | quietExpire (q : QuietOf)
  /-- SCRUB_START. A fenced partition's scrub begins (13 R505). -/
  | scrubStart (p : Part)
  /-- SCRUB_COMPLETE. A scrub's last clearing completes (14 R553). -/
  | scrubComplete (p : Part)
  /-- RECOVERY_START. The quiet period of the safe state passes, `active`: a C4 source is still active (13 R509). -/
  | recoveryStart (active : Bool)
  /-- RECOVERY_COMPLETE. The recovery sequence completes (13 R510). -/
  | recoveryComplete (t : SelfTest)
  /-- WATCHDOG_KICK. A write of FLT_KICK (13 R512). -/
  | watchdogKick (v : Word)
  /-- LOG_POP. A write of FLT_LOG_POP (13 R520). -/
  | logPop (v : Word)
  /-- INJ_CTRL_WRITE. A write of INJ_CTRL (13 R513). -/
  | injCtrlWrite (p : Page) (v : Word)
  -- Messages, debug and measurements (14 R533, R534, R546–R550, 16 R602–R606)
  /-- WKEY_IMPORT. WKEY_IMPORT (14 R547). -/
  | wkeyImport (v : Via) (b : List Byte) (env : MsgEnv)
  /-- WIMPORT. WIMPORT (14 R548). -/
  | wimport (v : Via) (b : List Byte) (env : MsgEnv)
  /-- WKEY_RETIRE. WKEY_RETIRE (14 R547). -/
  | wkeyRetire (v : Via) (b : List Byte) (env : MsgEnv)
  /-- MDL_PLACE. MDL_PLACE (04 R182, R183). -/
  | mdlPlace (v : Via) (b : List Byte) (env : MsgEnv)
  /-- VF_INFO. VF_INFO (16 R606). -/
  | vfInfo (v : Via) (b : List Byte) (env : MsgEnv)
  /-- BOOT_STATUS. BOOT_STATUS (15 R575). -/
  | bootStatus (v : Via) (b : List Byte) (env : MsgEnv)
  /-- RCV_BEGIN. RCV_BEGIN (15 R566). -/
  | rcvBegin (v : Via) (b : List Byte) (env : MsgEnv)
  /-- RCV_DATA. RCV_DATA (15 R566). -/
  | rcvData (v : Via) (b : List Byte) (env : MsgEnv)
  /-- RCV_END. RCV_END (15 R566). -/
  | rcvEnd (v : Via) (b : List Byte) (env : MsgEnv)
  /-- DBG_CHALLENGE. DBG_CHALLENGE (14 R549). -/
  | dbgChallenge (v : Via) (b : List Byte) (env : MsgEnv)
  /-- DBG_TOKEN. DBG_TOKEN (14 R550). -/
  | dbgToken (v : Via) (b : List Byte) (env : MsgEnv)
  /-- SEC_DBG_NEW. SEC_DBG_CTRL.NEW (14 R549). -/
  | secDbgNew
  /-- SEC_DBG_LOCK. SEC_DBG_CTRL.LOCK (14 R550). -/
  | secDbgLock
  /-- GET_MEASUREMENTS. GET_MEASUREMENTS over MCTP or the DOE mailbox (14 R533, R534). -/
  | getMeasurements (v : Via) (ix : BitVec 8) (nonce : BitVec 256) (signed : Bool)
  -- Commands of the host, the side-band and the management network (16)
  /-- BAR2_WRITE. A host write to a VF's BAR2 (16 R590). -/
  | bar2Write (p : Part) (a : BitVec 43) (bs : List Byte)
  /-- BAR2_READ. A host read of a VF's BAR2 (16 R590, R592). -/
  | bar2Read (p : Part) (a : BitVec 43) (n : Fin 4097)
  /-- PF_FLR. An FLR of a PF (16 R596). -/
  | pfFlr (n : Fin 4)
  /-- VF_FLR. An FLR of a VF (16 R596). -/
  | vfFlr (p : Part)
  /-- MBX_H2D_SEND. The host posts a channel's H2D slot (16 R600). -/
  | mbxH2dSend (k : Fin 100)
  /-- MBX_D2H_SEND. The device posts a channel's D2H slot (16 R600). -/
  | mbxD2hSend (k : Fin 100)
  /-- MBX_H2D_DONE. A read of H2D DONE from the device's side, or the host's (16 R600). -/
  | mbxH2dDone (host : Bool) (k : Fin 100) (env : MsgEnv)
  /-- MBX_D2H_DONE. The host's read of D2H DONE (16 R600). -/
  | mbxD2hDone (k : Fin 100)
  /-- RELAY. A RELAY frame or its answer (16 R598). -/
  | relay (x : RelayIn)
  /-- MGT_FRAME. An MGT frame (16 R610). -/
  | mgtFrame (x : MgtFrame)
  /-- MCTP_PACKET. An MCTP message over the management network or I3C (16 R607). -/
  | mctpPacket (net : Bool) (src dst : BitVec 8) (m : MctpMsg) (env : MsgEnv)
  /-- DOE_REQUEST. A DOE data object (16 R594). -/
  | doeRequest (r : DoeReq)
  /-- I3C_ENTDAA. ENTDAA gives the target its address (16 R607). -/
  | i3cEntdaa (a : BitVec 7)
  /-- PCIE_LINK_TRAINED. The PCIe link trains (15 R574). -/
  | pcieLinkTrained (rate : Fin 7) (width : Fin 3)
  -- Commands of clocks, events, the ridge line and resets (17)
  /-- PLL_UNLOCK. A die's root PLL loses lock (17 R641). -/
  | pllUnlock (d : Die)
  /-- EVENT_LINE_CROSS. An event arrives on a line, `early`: before the one before it was taken (17 R623). -/
  | eventLineCross (p : Page) (j : Fin 32) (early : Bool)
  /-- EVT_COUNT_TAKE. A write of EVT_COUNT (17 R624). -/
  | evtCountTake (p : Page) (v : Word)
  /-- BLK_CTRL_WRITE. A write of BLK_CTRL (17 R625). -/
  | blkCtrlWrite (p : Page) (v : Word)
  /-- GTIME_DIE_ALIGN. A die aligns its GTIME (17 R627). -/
  | gtimeDieAlign (d : Die)
  /-- MARKER_EMIT. The master emits a MARKER (17 R630). -/
  | markerEmit (delay : BitVec 32)
  /-- MARKER. A MARKER arrives from both directions (17 R631). -/
  | marker (t : BitVec 64) (d : BitVec 32) (cw ccw : Nat) (crcOk : Bool)
  /-- STOP. A STOP frame (17 R634). -/
  | stop (crcOk : Bool)
  /-- WAKE. A WAKE frame (17 R634). -/
  | wake (mask : BitVec 64) (crcOk : Bool)
  /-- RST_CTRL_CORE. RST_CTRL.CORE (17 R640). -/
  | rstCtrlCore (mask : BitVec 10)
  /-- RST_CTRL_DEVICE. A write of RST_CTRL with DEVICE (17 R639). -/
  | rstCtrlDevice (v : Word) (f : BootFind)
  /-- CORE_RESET_DONE. A die completes its core reset (17 R640). -/
  | coreResetDone (t : SelfTest) (d : Die)
  /-- CORE_RESET_FAIL. A core reset exceeds its bound (17 R641). -/
  | coreResetFail (d : Die)
  /-- CORE_RESET_MEMORY_READY. Memory is ready again after a core reset (06 R263). -/
  | coreResetMemoryReady (c : CDie)
  /-- LO_READ_LATCH. A read of n register words; a _LO word latches its _HI (19 R672). -/
  | loReadLatch (w : Requester) (a : RegAddr) (n : Fin 1025)
  /-- COUNTER_OVF_CLEAR. A write of 1 to a counter's OVF (03 R141). -/
  | counterOvfClear (w : Requester) (p : Page) (lo : Nat)
  /-- REGISTER_WRITE. A register write, or a function's configuration (19 R671). -/
  | registerWrite (w : Requester) (x : RegWrite) (f : BootFind)
  -- Rows above that have no operands, last, so that the compiler's limit on the number of constructors with fields is kept
  /-- CALIBRATION. The 10 ms fit (12 R459). -/
  | calibration
  /-- PKG_CAP_COMPARE. The 10 µs comparison with the cap (12 R461). -/
  | pkgCapCompare
  /-- WATCHDOG_EXPIRE. The watchdog period passes (13 R512). -/
  | watchdogExpire
  /-- PERST_N. PERST_N, hot reset or link down (16 R596). -/
  | perstN
  /-- ANNOUNCE. The ANNOUNCE frame is broadcast (16 R610). -/
  | announce
  /-- PLDM_SENSOR_UPDATE. The 100 ms update of the PLDM sensors (16 R608). -/
  | pldmSensorUpdate
  /-- REFCLK_LOSS. The reference is lost (17 R621). -/
  | refclkLoss
  /-- REFCLK_RETURN. The reference returns (17 R621). -/
  | refclkReturn
  /-- HOLDOVER_EXPIRED. Holdover passes 100 ms (17 R621). -/
  | holdoverExpired
  /-- GTIME_SLEW_DONE. A slew or hold reaches its target (17 R632). -/
  | gtimeSlewDone
  /-- MARKER_LOST. No MARKER is applied for 3 × 2^20 ticks (17 R634). -/
  | markerLost
  /-- RST_CTRL_MGMT. RST_CTRL.MGMT (17 R678). -/
  | rstCtrlMgmt
  /-- MGMT_RESET_DONE. Firmware runs again after a management reset (17 R678). -/
  | mgmtResetDone
  deriving DecidableEq, Repr

end Sys2Proof
end

