-- ==== Sys2Proof/Machine/Plan.lean ====
section
/-! DEFINITION. The Lerviron plan: its layout, its checks but for the signature, and what it says of a package's ports and
presentation (11 R408–R411, 07 R290, R291, 00 R8–R12). -/

namespace Sys2Proof.Machine

/-- A little-endian field of an image. -/
def imgNat (b : List Byte) (off n : Nat) : Nat := leNat ((b.drop off).take n)

/-- A section: type, offset, size (R408). -/
structure Sect where
  type : Nat
  off : Nat
  size : Nat
  deriving DecidableEq, Repr

/-- The section table (R408). -/
def planSects (b : List Byte) : List Sect :=
  (List.range (imgNat b 0x14 4)).map (fun i => ⟨imgNat b (0x40 + 16 * i) 4, imgNat b (0x44 + 16 * i) 4, imgNat b (0x48 + 16 * i) 4⟩)

/-- The bytes of a section, empty where the plan lacks it. -/
def planSect (b : List Byte) (t : Nat) : List Byte :=
  match (planSects b).find? (fun x => x.type == t) with
  | some x => (b.drop x.off).take x.size
  | none => []

def planSeq (b : List Byte) : Nat := imgNat b 8 8
def planCubeDim (b : List Byte) : Nat := imgNat (planSect b 1) 0 1
def planProfile (b : List Byte) : Nat := imgNat (planSect b 1) 1 1
def planPkgPres (b : List Byte) : Nat := imgNat (planSect b 1) 2 1
def planBoardPres (b : List Byte) : Bool := imgNat (planSect b 1) 3 1 == 1
def planFast (b : List Byte) : Bool := imgNat (planSect b 1) 4 1 == 1
def planSwThresh (b : List Byte) : Nat := imgNat (planSect b 1) 5 1
def planSettle (b : List Byte) : Nat := imgNat (planSect b 1) 6 1
def planRackMask (b : List Byte) : Nat := imgNat (planSect b 1) 8 8
def planPkgMask (b : List Byte) (c : Nat) : Nat := imgNat (planSect b 1) (0x40 + 8 * c) 8
/-- The index of a package in its rack's PKG_MASK (R409). -/
def rackIx (x y p : Nat) : Nat := x * 16 + y * 4 + p
def planHasPkg (b : List Byte) (c x y p : Nat) : Bool := decide (c < 64) && (planPkgMask b c).testBit (rackIx x y p)
/-- The PACKAGES entries: serial and coordinate (R409). -/
def planPackages (b : List Byte) : List (BitVec 128 × Coord) :=
  let s := planSect b 2
  (List.range (s.length / 20)).map (fun i => (BitVec.ofNat 128 (imgNat s (20 * i) 16), BitVec.ofNat 32 (imgNat s (20 * i + 16) 4)))
/-- A SWITCHES entry (R409). -/
structure PlanSwitch where
  cube : Nat
  j : Nat
  serial : BitVec 128
  map : List Nat
  deriving DecidableEq, Repr

def planSwitches (b : List Byte) : List PlanSwitch :=
  let s := planSect b 3
  (List.range (s.length / 148)).map (fun i =>
    ⟨imgNat s (148 * i) 1, imgNat s (148 * i + 1) 1, BitVec.ofNat 128 (imgNat s (148 * i + 4) 16),
     ((s.drop (148 * i + 20)).take 128).map (·.toNat)⟩)
def planPrimary (b : List Byte) : BitVec 128 := BitVec.ofNat 128 (imgNat (planSect b 4) 0 16)
def planStandby (b : List Byte) : BitVec 128 := BitVec.ofNat 128 (imgNat (planSect b 4) 0x10 16)
/-- PAIR_WAIT in seconds; 0 acts as 120 (R409). -/
def planPairWait (b : List Byte) : Nat := let v := imgNat (planSect b 4) 0x20 2; if v = 0 then 120 else v
def planPartPool (b : List Byte) : Nat := imgNat (planSect b 5) 0 8
def planSliceFlags (b : List Byte) : Nat := imgNat (planSect b 5) 8 4
def planMaxSlices (b : List Byte) : Nat := imgNat (planSect b 5) 0xC 2
def planRotateH (b : List Byte) : Nat := imgNat (planSect b 6) 0 1

/-- Switch chips of a rack under a profile (R410). -/
def profileSwitches (prof : Nat) : Nat := if prof = 1 then 5 else if prof = 2 then 3 else 4

/-- A run of an image is zero. -/
def imgZero (b : List Byte) (off n : Nat) : Bool := ((b.drop off).take n).all (· == 0)

/-- Coordinates in ascending order without repeats. -/
def risingCoords : List Coord → Bool
  | [] => true
  | [_] => true
  | a :: b :: r => decide (a.toNat < b.toNat) && risingCoords (b :: r)

/-- The zero fields of a KEY_POLICY section, where the plan has one (14 R538). -/
def keyPolicyForm (k : List Byte) : Bool :=
  imgZero k 6 0x3A && (List.range (imgNat k 4 1)).all (fun i => imgZero k (0x40 + 48 * i + 40) 8 && decide (imgNat k (0x40 + 48 * i + 4) 4 < 64))

/-- The checks of R410 but for the signature and PLAN_SEQ. -/
def planFormOk (b : List Byte) : Bool :=
  let secs := planSects b
  let dim := planCubeDim b
  let racks := planRackMask b
  let pkgs := planPackages b
  let sws := planSwitches b
  let sers := (pkgs.map (·.1)).filter (· != 0)
  let len := b.length
  imgNat b 0 4 == 0x5056524C && imgNat b 4 4 == 1 && imgNat b 0x10 4 == len && len % 64 == 0 && decide (len ≤ 0x400000) &&
  decide (4 ≤ secs.length) && decide (secs.length ≤ 6) && imgZero b 0x28 0x18 &&
  secs.all (fun x => decide (1 ≤ x.type) && decide (x.type ≤ 6) && x.off % 64 == 0 &&
    decide (0x40 + 16 * secs.length ≤ x.off) && decide (x.off + x.size ≤ len - 64)) &&
  (secs.map (·.type)).eraseDups.length == secs.length &&
  secs.all (fun x => secs.all (fun y => x.type == y.type || decide (x.off + x.size ≤ y.off) || decide (y.off + y.size ≤ x.off))) &&
  [1, 2, 3, 4].all (fun t => secs.any (fun x => x.type == t)) &&
  (List.range secs.length).all (fun i => imgZero b (0x4C + 16 * i) 4) &&
  imgZero (planSect b 1) 7 1 && imgZero (planSect b 1) 0x10 0x30 && imgZero (planSect b 4) 0x22 0x1E && imgZero (planSect b 5) 0xE 0x32 && decide (planSliceFlags b < 32) &&
  sws.length * 148 == (planSect b 3).length && pkgs.length * 20 == (planSect b 2).length &&
  (List.range sws.length).all (fun i => imgZero (planSect b 3) (148 * i + 2) 2) && keyPolicyForm (planSect b 6) &&
  decide (dim ≤ 6) && decide (planProfile b ≤ 2) && decide (planPkgPres b ≤ 2) && decide (imgNat (planSect b 1) 3 1 ≤ 1) &&
  decide (imgNat (planSect b 1) 4 1 ≤ 1) && decide (planSwThresh b ≤ 5) && decide (1 ≤ planSettle b) && decide (planSettle b ≤ 60) &&
  decide (racks < 2 ^ (2 ^ dim)) && (List.range 64).all (fun c => racks.testBit c || planPkgMask b c == 0) &&
  risingCoords (pkgs.map (·.2)) &&
  pkgs.all (fun e => e.2.d == 0 && e.2.e == 0 && bits e.2.toNat 3 0 == 0 && bits e.2.toNat 31 30 == 0 && decide (e.2.x ≤ 3) &&
    decide (e.2.y ≤ 3) && decide (e.2.p ≤ 3) && planHasPkg b e.2.cube e.2.x e.2.y e.2.p) &&
  ((List.range 64).map (fun c => (List.range 64).countP (fun i => (planPkgMask b c).testBit i))).sum == pkgs.length &&
  sers.eraseDups.length == sers.length &&
  sws.length == ((List.range 64).countP (fun c => racks.testBit c)) * profileSwitches (planProfile b) &&
  ((List.range 64).all (fun c => !racks.testBit c || (List.range (profileSwitches (planProfile b))).all (fun j =>
    (sws.filter (fun w => w.cube == c && w.j == j)).length == 1))) &&
  sws.all (fun w => (List.range 64).all (fun i => w.map.count i == (if (planPkgMask b w.cube).testBit i then 1 else 0))) &&
  planPrimary b != 0 && planStandby b != 0 && planPrimary b != planStandby b && sers.contains (planPrimary b) && sers.contains (planStandby b)

/-- The role of a port (R290): Nk, X+, X−, Y+, Y−, Sj; Od for optical ports. -/
inductive Role where
  | n (k : Nat) | xp | xm | yp | ym | s (j : Nat) | o (d : Nat)
  deriving DecidableEq, Repr

/-- The roles of E0–E17 under profiles A, B and C (R290). -/
def rolesA : List Role := [.n 1, .n 2, .n 3, .xp, .xm, .yp, .ym, .s 0, .s 1, .n 1, .n 2, .n 3, .xp, .xm, .yp, .ym, .s 2, .s 3]
def rolesB : List Role := [.n 1, .n 2, .n 3, .n 1, .xp, .yp, .s 0, .s 1, .s 2, .n 1, .n 2, .n 3, .n 2, .n 3, .xm, .ym, .s 3, .s 4]
def rolesC : List Role := [.n 1, .n 2, .xp, .xp, .xm, .yp, .yp, .ym, .s 0, .n 3, .xp, .xm, .xm, .yp, .ym, .ym, .s 1, .s 2]

/-- The role of a port under a profile (R290, R291). -/
def portRole (prof : Nat) (q : Port) : Role :=
  if 18 ≤ q.val then .o (q.val - 18)
  else ((if prof = 1 then rolesB else if prof = 2 then rolesC else rolesA)[q.val]?).getD (.n 1)

/-- The reach class a role gives: 1 B, 2 K, 3 O (R291, R301). -/
def Role.reach : Role → Nat
  | .n _ => 1 | .o _ => 3 | _ => 2

/-- The package a role faces, from the package at (c, x, y, p); none for a switch (R290, R291). -/
def Role.neighbour (r : Role) (c x y p : Nat) : Option (Nat × Nat × Nat × Nat) :=
  match r with
  | .n k => some (c, x, y, p ^^^ k)
  | .xp => some (c, (x + 1) % 4, y, p)
  | .xm => some (c, (x + 3) % 4, y, p)
  | .yp => some (c, x, (y + 1) % 4, p)
  | .ym => some (c, x, (y + 3) % 4, p)
  | .s _ => none
  | .o d => some (c ^^^ 2 ^ d, x, y, p)

/-- A port is planned present for the package at a coordinate (R411). -/
def plannedPresent (b : List Byte) (prof : Nat) (co : Coord) (q : Port) : Bool :=
  let r := portRole prof q
  match r with
  | .s j => (planSwitches b).any (fun w => w.cube == co.cube && w.j == j)
  | .o d => decide (d < planCubeDim b) && planHasPkg b (co.cube ^^^ 2 ^ d) co.x co.y co.p
  | _ => match r.neighbour co.cube co.x co.y co.p with
    | some (c, x, y, p) => planHasPkg b c x y p
    | none => false

/-- The coordinate a plan gives a serial, none where no entry names it (R409). -/
def planCoordOf (b : List Byte) (ser : BitVec 128) : Option Coord :=
  if ser = 0 then none else ((planPackages b).find? (fun e => e.1 == ser)).map (·.2)

end Sys2Proof.Machine
end

