-- ==== Sys2Proof/Machine/RegTable.lean ====
section
/-! DEFINITION. The register map: every register of every page type with its fields, their access codes and reset
values (19 R666, R667, R675 and the register tables of the chapters R675 names). -/

namespace Sys2Proof.Machine

/-- The access codes of R14; `w1cv` is a multi-bit W1C field that holds a value and is cleared whole. -/
inductive Acc where
  | ro | rw | w1c | w1cv | wo | rw1s
  deriving DecidableEq, Repr

/-- One field of a register word. -/
structure FieldDef where
  lsb : Nat
  width : Nat
  acc : Acc
  reset : Nat
  deriving DecidableEq, Repr

/-- One register, or an array of `count` registers `stride` bytes apart. -/
structure RegDef where
  off : Nat
  count : Nat
  stride : Nat
  fields : List FieldDef
  deriving DecidableEq, Repr

/-- Where a field stands in its page: the register's offset, its least significant bit and its width. -/
structure Field where
  off : Nat
  lsb : Nat
  width : Nat
  deriving DecidableEq, Repr

/-- FLT_FIRST.SOURCE (R519). -/
def F.FLT_FIRST_SOURCE : Field := ⟨0x20, 0, 12⟩
/-- FLT_FIRST.TLOW (R519). -/
def F.FLT_FIRST_TLOW : Field := ⟨0x20, 12, 20⟩
/-- FLT_FLAGS.CLASS (R519). -/
def F.FLT_FLAGS_CLASS : Field := ⟨0x24, 0, 3⟩
/-- FLT_FLAGS.RAW_CLASS (R519). -/
def F.FLT_FLAGS_RAW_CLASS : Field := ⟨0x24, 3, 3⟩
/-- FLT_FLAGS.VALID (R519). -/
def F.FLT_FLAGS_VALID : Field := ⟨0x24, 6, 1⟩
/-- FLT_FLAGS.OVERFLOW (R519). -/
def F.FLT_FLAGS_OVERFLOW : Field := ⟨0x24, 7, 1⟩
/-- FLT_FLAGS.ACKED (R519). -/
def F.FLT_FLAGS_ACKED : Field := ⟨0x24, 8, 1⟩
/-- FLT_FLAGS.ESCALATED (R519). -/
def F.FLT_FLAGS_ESCALATED : Field := ⟨0x24, 9, 1⟩
/-- FLT_FLAGS.INJECTED (R519). -/
def F.FLT_FLAGS_INJECTED : Field := ⟨0x24, 10, 1⟩
/-- FLT_FLAGS.PART (R519). -/
def F.FLT_FLAGS_PART : Field := ⟨0x24, 11, 6⟩
/-- FLT_FLAGS.PART_VALID (R519). -/
def F.FLT_FLAGS_PART_VALID : Field := ⟨0x24, 17, 1⟩
/-- FLT_FLAGS.CTX (R519). -/
def F.FLT_FLAGS_CTX : Field := ⟨0x24, 18, 3⟩
/-- FLT_FLAGS.CTX_VALID (R519). -/
def F.FLT_FLAGS_CTX_VALID : Field := ⟨0x24, 21, 1⟩
/-- FLT_ACK.ACK (R519). -/
def F.FLT_ACK_ACK : Field := ⟨0x28, 0, 1⟩
/-- INJ_CTRL.CHECKER (R519). -/
def F.INJ_CTRL_CHECKER : Field := ⟨0x2c, 0, 4⟩
/-- INJ_CTRL.MODE (R519). -/
def F.INJ_CTRL_MODE : Field := ⟨0x2c, 4, 2⟩
/-- INJ_CTRL.WEIGHT (R519). -/
def F.INJ_CTRL_WEIGHT : Field := ⟨0x2c, 6, 2⟩
/-- INJ_CTRL.ARMED (R519). -/
def F.INJ_CTRL_ARMED : Field := ⟨0x2c, 8, 1⟩
/-- INJ_CTRL.FIRED (R519). -/
def F.INJ_CTRL_FIRED : Field := ⟨0x2c, 9, 1⟩
/-- INJ_CTRL.REFUSED (R519). -/
def F.INJ_CTRL_REFUSED : Field := ⟨0x2c, 10, 1⟩
/-- EVT_COUNT.COUNT (R624). -/
def F.EVT_COUNT_COUNT : Field := ⟨0x1c, 0, 16⟩
/-- EVT_COUNT.TAKE (R624). -/
def F.EVT_COUNT_TAKE : Field := ⟨0x1c, 16, 16⟩
/-- BLK_ID.INSTANCE (R667). -/
def F.BLK_ID_INSTANCE : Field := ⟨0x0, 0, 8⟩
/-- BLK_ID.MINOR (R667). -/
def F.BLK_ID_MINOR : Field := ⟨0x0, 8, 8⟩
/-- BLK_ID.MAJOR (R667). -/
def F.BLK_ID_MAJOR : Field := ⟨0x0, 16, 8⟩
/-- BLK_ID.TYPE (R667). -/
def F.BLK_ID_TYPE : Field := ⟨0x0, 24, 8⟩
/-- BLK_CAP.NEVT (R667). -/
def F.BLK_CAP_NEVT : Field := ⟨0x4, 0, 5⟩
/-- BLK_CAP.INJ (R667). -/
def F.BLK_CAP_INJ : Field := ⟨0x4, 5, 1⟩
/-- BLK_CAP.VF_PART (R667). -/
def F.BLK_CAP_VF_PART : Field := ⟨0x4, 6, 1⟩
/-- BLK_CAP.CONF_ZERO (R667). -/
def F.BLK_CAP_CONF_ZERO : Field := ⟨0x4, 7, 1⟩
/-- BLK_CAP.NINST (R667). -/
def F.BLK_CAP_NINST : Field := ⟨0x4, 8, 8⟩
/-- BLK_CTRL.ENABLE (R667). -/
def F.BLK_CTRL_ENABLE : Field := ⟨0x8, 0, 1⟩
/-- BLK_CTRL.EVT_XMODE (R667). -/
def F.BLK_CTRL_EVT_XMODE : Field := ⟨0x8, 1, 1⟩
/-- BLK_STATUS.READY (R667). -/
def F.BLK_STATUS_READY : Field := ⟨0xc, 0, 1⟩
/-- BLK_STATUS.BUSY (R667). -/
def F.BLK_STATUS_BUSY : Field := ⟨0xc, 1, 1⟩
/-- BLK_STATUS.FAULTED (R667). -/
def F.BLK_STATUS_FAULTED : Field := ⟨0xc, 2, 1⟩
/-- BLK_STATUS.SCRUBBING (R667). -/
def F.BLK_STATUS_SCRUBBING : Field := ⟨0xc, 3, 1⟩
/-- BLK_STATUS.STATE (R667). -/
def F.BLK_STATUS_STATE : Field := ⟨0xc, 4, 4⟩
/-- EVT_STATUS.EVT (R667). -/
def F.EVT_STATUS_EVT : Field := ⟨0x10, 0, 32⟩
/-- EVT_ENABLE.EN (R667). -/
def F.EVT_ENABLE_EN : Field := ⟨0x14, 0, 32⟩
/-- EVT_OVERRUN.OVR (R667). -/
def F.EVT_OVERRUN_OVR : Field := ⟨0x18, 0, 32⟩
/-- CLK_STATUS.LOCK (R643). -/
def F.CLK_STATUS_LOCK : Field := ⟨0x100, 0, 1⟩
/-- CLK_STATUS.REF_PRESENT (R643). -/
def F.CLK_STATUS_REF_PRESENT : Field := ⟨0x100, 1, 1⟩
/-- CLK_STATUS.HOLDOVER (R643). -/
def F.CLK_STATUS_HOLDOVER : Field := ⟨0x100, 2, 1⟩
/-- CLK_STATUS.REFLOST_MODE (R643). -/
def F.CLK_STATUS_REFLOST_MODE : Field := ⟨0x100, 3, 1⟩
/-- CLK_STATUS.ACLK_K (R643). -/
def F.CLK_STATUS_ACLK_K : Field := ⟨0x100, 4, 5⟩
/-- PWR_CTRL.MODE (R489). -/
def F.PWR_CTRL_MODE : Field := ⟨0x100, 0, 1⟩
/-- PWR_CTRL.PLAT_K (R489). -/
def F.PWR_CTRL_PLAT_K : Field := ⟨0x100, 1, 5⟩
/-- PWR_CTRL.STEP_MAX (R489). -/
def F.PWR_CTRL_STEP_MAX : Field := ⟨0x100, 8, 5⟩
/-- PWR_CTRL.DUTY_MAX (R489). -/
def F.PWR_CTRL_DUTY_MAX : Field := ⟨0x100, 16, 4⟩
/-- PWR_LIMIT.WATTS (R489). -/
def F.PWR_LIMIT_WATTS : Field := ⟨0x104, 0, 12⟩
/-- PWR_LIMIT.RAIL_A (R489). -/
def F.PWR_LIMIT_RAIL_A : Field := ⟨0x104, 12, 12⟩
/-- PWR_STATUS.STEP (R489). -/
def F.PWR_STATUS_STEP : Field := ⟨0x108, 0, 5⟩
/-- PWR_STATUS.DUTY (R489). -/
def F.PWR_STATUS_DUTY : Field := ⟨0x108, 8, 4⟩
/-- PWR_STATUS.AT_RISK (R489). -/
def F.PWR_STATUS_AT_RISK : Field := ⟨0x108, 12, 1⟩
/-- PWR_STATUS.PLAT_LOST (R489). -/
def F.PWR_STATUS_PLAT_LOST : Field := ⟨0x108, 13, 1⟩
/-- PWR_STATUS.CAP_FLOOR (R489). -/
def F.PWR_STATUS_CAP_FLOOR : Field := ⟨0x108, 14, 1⟩
/-- PWR_STATUS.THERMAL (R489). -/
def F.PWR_STATUS_THERMAL : Field := ⟨0x108, 15, 1⟩
/-- PWR_STATUS.DROOP (R489). -/
def F.PWR_STATUS_DROOP : Field := ⟨0x108, 16, 1⟩
/-- PWR_STATUS.DEFERRED (R489). -/
def F.PWR_STATUS_DEFERRED : Field := ⟨0x108, 17, 1⟩
/-- PWR_STATUS.CLAMPED (R489). -/
def F.PWR_STATUS_CLAMPED : Field := ⟨0x108, 18, 1⟩
/-- PWR_STATUS.PKG_OVER (R489). -/
def F.PWR_STATUS_PKG_OVER : Field := ⟨0x108, 19, 1⟩
/-- PWR_STATUS.UNATTAINABLE (R489). -/
def F.PWR_STATUS_UNATTAINABLE : Field := ⟨0x108, 20, 1⟩
/-- PWR_STATUS.LOST_CAUSE (R489). -/
def F.PWR_STATUS_LOST_CAUSE : Field := ⟨0x108, 21, 2⟩
/-- PWR_EST.CAL (R489). -/
def F.PWR_EST_CAL : Field := ⟨0x10c, 0, 16⟩
/-- PWR_EST.RAW (R489). -/
def F.PWR_EST_RAW : Field := ⟨0x10c, 16, 16⟩
/-- PWR_MEAS.MEAS (R489). -/
def F.PWR_MEAS_MEAS : Field := ⟨0x110, 0, 16⟩
/-- PWR_MEAS.TEMP (R489). -/
def F.PWR_MEAS_TEMP : Field := ⟨0x110, 16, 8⟩
/-- PWR_CAL.GAIN (R489). -/
def F.PWR_CAL_GAIN : Field := ⟨0x114, 0, 16⟩
/-- PWR_CAL.OFFSET (R489). -/
def F.PWR_CAL_OFFSET : Field := ⟨0x114, 16, 16⟩
/-- PWR_CONF.CONF (R489). -/
def F.PWR_CONF_CONF : Field := ⟨0x118, 0, 8⟩
/-- PWR_CONF.AGE (R489). -/
def F.PWR_CONF_AGE : Field := ⟨0x118, 8, 8⟩
/-- PWR_CONF.FREEZE (R489). -/
def F.PWR_CONF_FREEZE : Field := ⟨0x118, 16, 1⟩
/-- PWR_DROOP.THRESH (R489). -/
def F.PWR_DROOP_THRESH : Field := ⟨0x11c, 0, 7⟩
/-- PWR_DROOP.REL (R489). -/
def F.PWR_DROOP_REL : Field := ⟨0x11c, 8, 8⟩
/-- PWR_DROOP.DET_EN (R489). -/
def F.PWR_DROOP_DET_EN : Field := ⟨0x11c, 16, 8⟩
/-- PKG_CAP.WATTS (R489). -/
def F.PKG_CAP_WATTS : Field := ⟨0x200, 0, 13⟩
/-- PKG_STATUS.OVER (R489). -/
def F.PKG_STATUS_OVER : Field := ⟨0x204, 0, 1⟩
/-- PKG_STATUS.CAP_FLOOR (R489). -/
def F.PKG_STATUS_CAP_FLOOR : Field := ⟨0x204, 1, 1⟩
/-- PKG_STATUS.UNATTAINABLE (R489). -/
def F.PKG_STATUS_UNATTAINABLE : Field := ⟨0x204, 2, 1⟩
/-- PKG_STATUS.CLAMPED (R489). -/
def F.PKG_STATUS_CLAMPED : Field := ⟨0x204, 3, 1⟩
/-- PKG_STATUS.PLAT_LOST (R489). -/
def F.PKG_STATUS_PLAT_LOST : Field := ⟨0x204, 4, 1⟩
/-- PKG_EST.TOTAL (R489). -/
def F.PKG_EST_TOTAL : Field := ⟨0x208, 0, 16⟩
/-- PKG_EST.UNCORE (R489). -/
def F.PKG_EST_UNCORE : Field := ⟨0x208, 16, 16⟩
/-- PKG_MEAS.TOTAL (R489). -/
def F.PKG_MEAS_TOTAL : Field := ⟨0x20c, 0, 16⟩
/-- PKG_MEAS.UNCORE (R489). -/
def F.PKG_MEAS_UNCORE : Field := ⟨0x20c, 16, 16⟩
/-- PWR_MGS.A_OK (R489). -/
def F.PWR_MGS_A_OK : Field := ⟨0x210, 0, 1⟩
/-- PWR_MGS.B_OK (R489). -/
def F.PWR_MGS_B_OK : Field := ⟨0x210, 1, 1⟩
/-- PWR_MGS.ACTIVE (R489). -/
def F.PWR_MGS_ACTIVE : Field := ⟨0x210, 2, 1⟩
/-- PWR_MGS.SWITCHES (R489). -/
def F.PWR_MGS_SWITCHES : Field := ⟨0x210, 8, 8⟩
/-- RTR_CFG.CE_THRESH (R350). -/
def F.RTR_CFG_CE_THRESH : Field := ⟨0x100, 0, 8⟩
/-- RTR_CFG.REQ_SHARE (R350). -/
def F.RTR_CFG_REQ_SHARE : Field := ⟨0x100, 8, 4⟩
/-- RTR_EPOCH.CUR (R350). -/
def F.RTR_EPOCH_CUR : Field := ⟨0x104, 0, 1⟩
/-- RTR_EPOCH.VALID0 (R350). -/
def F.RTR_EPOCH_VALID0 : Field := ⟨0x104, 1, 1⟩
/-- RTR_EPOCH.VALID1 (R350). -/
def F.RTR_EPOCH_VALID1 : Field := ⟨0x104, 2, 1⟩
/-- RTR_INFLIGHT.COUNT of entry i (R350). -/
def F.RTR_INFLIGHT_COUNT (i : Nat) : Field := ⟨0x108 + 4 * i, 0, 24⟩
/-- RTR_INFLIGHT.ACTIVITY of entry i (R350). -/
def F.RTR_INFLIGHT_ACTIVITY (i : Nat) : Field := ⟨0x108 + 4 * i, 31, 1⟩
/-- RTR_TBL_SEL.INDEX (R350). -/
def F.RTR_TBL_SEL_INDEX : Field := ⟨0x110, 0, 12⟩
/-- RTR_TBL_SEL.EPOCH (R350). -/
def F.RTR_TBL_SEL_EPOCH : Field := ⟨0x110, 12, 1⟩
/-- RTR_TBL_SEL.EGRESS (R350). -/
def F.RTR_TBL_SEL_EGRESS : Field := ⟨0x110, 13, 1⟩
/-- RTR_TBL_DATA.ENTRY (R350). -/
def F.RTR_TBL_DATA_ENTRY : Field := ⟨0x114, 0, 32⟩
/-- RTR_PORT.DIM of entry i (R350). -/
def F.RTR_PORT_DIM (i : Nat) : Field := ⟨0x120 + 4 * i, 0, 3⟩
/-- RTR_PORT.DIR of entry i (R350). -/
def F.RTR_PORT_DIR (i : Nat) : Field := ⟨0x120 + 4 * i, 3, 1⟩
/-- RTR_PORT.DATELINE of entry i (R350). -/
def F.RTR_PORT_DATELINE (i : Nat) : Field := ⟨0x120 + 4 * i, 4, 1⟩
/-- RTR_PORT.CUBE_D of entry i (R350). -/
def F.RTR_PORT_CUBE_D (i : Nat) : Field := ⟨0x120 + 4 * i, 5, 3⟩
/-- RTR_PORT.MEMBER of entry i (R350). -/
def F.RTR_PORT_MEMBER (i : Nat) : Field := ⟨0x120 + 4 * i, 8, 1⟩
/-- RTR_CC.MD (R350). -/
def F.RTR_CC_MD : Field := ⟨0x200, 0, 4⟩
/-- RTR_CC.PERIOD (R350). -/
def F.RTR_CC_PERIOD : Field := ⟨0x200, 4, 8⟩
/-- RTR_CC.AI (R350). -/
def F.RTR_CC_AI : Field := ⟨0x200, 12, 12⟩
/-- RTR_RATE.R_MAX (R350). -/
def F.RTR_RATE_R_MAX : Field := ⟨0x204, 0, 16⟩
/-- RTR_RATE.R_MIN (R350). -/
def F.RTR_RATE_R_MIN : Field := ⟨0x204, 16, 16⟩
/-- RTR_WIN.PKTS (R350). -/
def F.RTR_WIN_PKTS : Field := ⟨0x208, 0, 9⟩
/-- RTR_WIN.KIB (R350). -/
def F.RTR_WIN_KIB : Field := ⟨0x208, 9, 10⟩
/-- RTR_WIN_USE.ENTRIES (R350). -/
def F.RTR_WIN_USE_ENTRIES : Field := ⟨0x20c, 0, 11⟩
/-- MSF_ROW_REPAIR.GROUP (R141). -/
def F.MSF_ROW_REPAIR_GROUP : Field := ⟨0x100, 0, 16⟩
/-- MSF_COL_REPAIR.GROUP (R141). -/
def F.MSF_COL_REPAIR_GROUP : Field := ⟨0x104, 0, 32⟩
/-- MSF_ARRAY.UNAVAILABLE (R141). -/
def F.MSF_ARRAY_UNAVAILABLE : Field := ⟨0x108, 0, 1⟩
/-- MSF_ARRAY.SUSPECTS (R141). -/
def F.MSF_ARRAY_SUSPECTS : Field := ⟨0x108, 8, 8⟩
/-- MSF_SUSPECT.LINE (R141). -/
def F.MSF_SUSPECT_LINE : Field := ⟨0x10c, 0, 11⟩
/-- MSF_SUSPECT.IS_COL (R141). -/
def F.MSF_SUSPECT_IS_COL : Field := ⟨0x10c, 11, 1⟩
/-- MSF_SUSPECT.VALID (R141). -/
def F.MSF_SUSPECT_VALID : Field := ⟨0x10c, 12, 1⟩
/-- MSF_SWEEP_LIMIT.LIMIT (R141). -/
def F.MSF_SWEEP_LIMIT_LIMIT : Field := ⟨0x110, 0, 32⟩
/-- MSF_CURRENT.PART (R141). -/
def F.MSF_CURRENT_PART : Field := ⟨0x114, 0, 6⟩
/-- MSF_CURRENT.CTX (R141). -/
def F.MSF_CURRENT_CTX : Field := ⟨0x114, 6, 3⟩
/-- MSF_CURRENT.KIND (R141). -/
def F.MSF_CURRENT_KIND : Field := ⟨0x114, 12, 4⟩
/-- MSF_CURRENT.TAG (R141). -/
def F.MSF_CURRENT_TAG : Field := ⟨0x114, 16, 16⟩
/-- MSF_HOLD.HOLD (R141). -/
def F.MSF_HOLD_HOLD : Field := ⟨0x118, 0, 1⟩
/-- MSF_HOLD.DUTY (R141). -/
def F.MSF_HOLD_DUTY : Field := ⟨0x118, 1, 1⟩
/-- MSF_HOLD.DUTY_N (R141). -/
def F.MSF_HOLD_DUTY_N : Field := ⟨0x118, 4, 4⟩
/-- MSF_TBL_SEL.TABLE (R141). -/
def F.MSF_TBL_SEL_TABLE : Field := ⟨0x150, 0, 4⟩
/-- MSF_TBL_SEL.WORD (R141). -/
def F.MSF_TBL_SEL_WORD : Field := ⟨0x150, 4, 9⟩
/-- MSF_TBL_DATA.VALUE (R141). -/
def F.MSF_TBL_DATA_VALUE : Field := ⟨0x154, 0, 32⟩
/-- TRN_PART.BASE of entry i (R143). -/
def F.TRN_PART_BASE (i : Nat) : Field := ⟨0x100 + 4 * i, 0, 12⟩
/-- TRN_PART.SIZE of entry i (R143). -/
def F.TRN_PART_SIZE (i : Nat) : Field := ⟨0x100 + 4 * i, 12, 13⟩
/-- TRN_ZERO_CTRL.BASE (R143). -/
def F.TRN_ZERO_CTRL_BASE : Field := ⟨0x200, 0, 12⟩
/-- TRN_ZERO_CTRL.SIZE (R143). -/
def F.TRN_ZERO_CTRL_SIZE : Field := ⟨0x200, 12, 13⟩
/-- TRN_ZERO_CTRL.GO (R143). -/
def F.TRN_ZERO_CTRL_GO : Field := ⟨0x200, 31, 1⟩
/-- TRN_ZERO_STATUS.BUSY (R143). -/
def F.TRN_ZERO_STATUS_BUSY : Field := ⟨0x204, 0, 1⟩
/-- TRN_ZERO_STATUS.DONE (R143). -/
def F.TRN_ZERO_STATUS_DONE : Field := ⟨0x204, 1, 1⟩
/-- TRN_ECC_LAST.WORD (R143). -/
def F.TRN_ECC_LAST_WORD : Field := ⟨0x218, 0, 25⟩
/-- TRN_ECC_LAST.UE (R143). -/
def F.TRN_ECC_LAST_UE : Field := ⟨0x218, 31, 1⟩
/-- VCX_CORE_BUSY.BUSY (R224). -/
def F.VCX_CORE_BUSY_BUSY : Field := ⟨0x100, 0, 32⟩
/-- VCX_DB_PART.PART (R224). -/
def F.VCX_DB_PART_PART : Field := ⟨0x104, 0, 6⟩
/-- VCX_DISPATCH_LIMIT.LIMIT (R224). -/
def F.VCX_DISPATCH_LIMIT_LIMIT : Field := ⟨0x108, 0, 32⟩
/-- DB.TAIL of entry i (R224). -/
def F.DB_TAIL (i : Nat) : Field := ⟨0x800 + 4 * i, 0, 24⟩
/-- DB.GATED of entry i (R224). -/
def F.DB_GATED (i : Nat) : Field := ⟨0x800 + 4 * i, 24, 1⟩
/-- DB.FLUSH of entry i (R224). -/
def F.DB_FLUSH (i : Nat) : Field := ⟨0x800 + 4 * i, 31, 1⟩
/-- QSTATE.HEAD of entry i (R224). -/
def F.QSTATE_HEAD (i : Nat) : Field := ⟨0xa00 + 4 * i, 0, 24⟩
/-- QSTATE.STATE of entry i (R224). -/
def F.QSTATE_STATE (i : Nat) : Field := ⟨0xa00 + 4 * i, 24, 3⟩
/-- QSTATE.GATES of entry i (R224). -/
def F.QSTATE_GATES (i : Nat) : Field := ⟨0xa00 + 4 * i, 27, 4⟩
/-- GATE.CAIRN of entry i (R224). -/
def F.GATE_CAIRN (i : Nat) : Field := ⟨0xc00 + 4 * i, 0, 13⟩
/-- GATE.GEN of entry i (R224). -/
def F.GATE_GEN (i : Nat) : Field := ⟨0xc00 + 4 * i, 16, 16⟩
/-- CRN_PART.BASE of entry i (R226). -/
def F.CRN_PART_BASE (i : Nat) : Field := ⟨0x100 + 4 * i, 0, 13⟩
/-- CRN_PART.SIZE of entry i (R226). -/
def F.CRN_PART_SIZE (i : Nat) : Field := ⟨0x100 + 4 * i, 13, 14⟩
/-- CRN_TRACK.CAIRN of entry i (R226). -/
def F.CRN_TRACK_CAIRN (i : Nat) : Field := ⟨0x200 + 4 * i, 0, 13⟩
/-- CRN_TRACK.EN of entry i (R226). -/
def F.CRN_TRACK_EN (i : Nat) : Field := ⟨0x200 + 4 * i, 31, 1⟩
/-- CRN_INSP_SEL.CAIRN (R226). -/
def F.CRN_INSP_SEL_CAIRN : Field := ⟨0x240, 0, 13⟩
/-- CRN_INSP_GEN.GEN (R226). -/
def F.CRN_INSP_GEN_GEN : Field := ⟨0x244, 0, 16⟩
/-- CRN_INSP_GEN.FAILED (R226). -/
def F.CRN_INSP_GEN_FAILED : Field := ⟨0x244, 16, 1⟩
/-- CRN_INSP_GEN.FWD_EN (R226). -/
def F.CRN_INSP_GEN_FWD_EN : Field := ⟨0x244, 17, 1⟩
/-- CRN_INSP_GEN.WAITERS (R226). -/
def F.CRN_INSP_GEN_WAITERS : Field := ⟨0x244, 18, 8⟩
/-- CRN_INSP.VALUE of entry i (R226). -/
def F.CRN_INSP_VALUE (i : Nat) : Field := ⟨0x248 + 4 * i, 0, 32⟩
/-- CRN_TRK_SEL.SLOT (R226). -/
def F.CRN_TRK_SEL_SLOT : Field := ⟨0x260, 0, 4⟩
/-- CRN_TRK_SEL.BIT (R226). -/
def F.CRN_TRK_SEL_BIT : Field := ⟨0x260, 8, 6⟩
/-- CRN_TRK_ARR.ARR (R226). -/
def F.CRN_TRK_ARR_ARR : Field := ⟨0x264, 0, 32⟩
/-- DMA_CTRL.TIMEOUT (R225). -/
def F.DMA_CTRL_TIMEOUT : Field := ⟨0x100, 0, 16⟩
/-- DMA_CTRL.RETRIES (R225). -/
def F.DMA_CTRL_RETRIES : Field := ⟨0x100, 16, 3⟩
/-- DMA_ENG_BUSY.BUSY (R225). -/
def F.DMA_ENG_BUSY_BUSY : Field := ⟨0x104, 0, 16⟩
/-- MEM_CFG.CE_THRESH (R264). -/
def F.MEM_CFG_CE_THRESH : Field := ⟨0x100, 0, 4⟩
/-- MEM_CFG.PATROL_EN (R264). -/
def F.MEM_CFG_PATROL_EN : Field := ⟨0x100, 4, 1⟩
/-- MEM_CFG.PATROL_PERIOD (R264). -/
def F.MEM_CFG_PATROL_PERIOD : Field := ⟨0x100, 8, 8⟩
/-- MEM_CFG.TEST_MODE (R264). -/
def F.MEM_CFG_TEST_MODE : Field := ⟨0x100, 16, 2⟩
/-- MEM_STACK.STATE of entry i (R264). -/
def F.MEM_STACK_STATE (i : Nat) : Field := ⟨0x104 + 4 * i, 0, 3⟩
/-- MEM_STACK.TEMP of entry i (R264). -/
def F.MEM_STACK_TEMP (i : Nat) : Field := ⟨0x104 + 4 * i, 4, 8⟩
/-- MEM_STACK.REFRESH of entry i (R264). -/
def F.MEM_STACK_REFRESH (i : Nat) : Field := ⟨0x104 + 4 * i, 12, 3⟩
/-- MEM_STACK.THROTTLE of entry i (R264). -/
def F.MEM_STACK_THROTTLE (i : Nat) : Field := ⟨0x104 + 4 * i, 15, 1⟩
/-- MEM_STACK.TEST_ROWS of entry i (R264). -/
def F.MEM_STACK_TEST_ROWS (i : Nat) : Field := ⟨0x104 + 4 * i, 16, 16⟩
/-- MEM_ZERO_CTRL.BASE (R264). -/
def F.MEM_ZERO_CTRL_BASE : Field := ⟨0x110, 0, 10⟩
/-- MEM_ZERO_CTRL.SIZE (R264). -/
def F.MEM_ZERO_CTRL_SIZE : Field := ⟨0x110, 10, 10⟩
/-- MEM_ZERO_CTRL.GO (R264). -/
def F.MEM_ZERO_CTRL_GO : Field := ⟨0x110, 31, 1⟩
/-- MEM_ZERO_STATUS.BUSY (R264). -/
def F.MEM_ZERO_STATUS_BUSY : Field := ⟨0x114, 0, 1⟩
/-- MEM_ZERO_STATUS.DONE (R264). -/
def F.MEM_ZERO_STATUS_DONE : Field := ⟨0x114, 1, 1⟩
/-- MEM_ZERO_STATUS.PROGRESS (R264). -/
def F.MEM_ZERO_STATUS_PROGRESS : Field := ⟨0x114, 16, 10⟩
/-- MEM_ERR_LOC.STACK (R264). -/
def F.MEM_ERR_LOC_STACK : Field := ⟨0x150, 0, 2⟩
/-- MEM_ERR_LOC.CHANNEL (R264). -/
def F.MEM_ERR_LOC_CHANNEL : Field := ⟨0x150, 2, 4⟩
/-- MEM_ERR_LOC.SYMBOL (R264). -/
def F.MEM_ERR_LOC_SYMBOL : Field := ⟨0x150, 6, 6⟩
/-- MEM_ERR_LOC.UE (R264). -/
def F.MEM_ERR_LOC_UE : Field := ⟨0x150, 12, 1⟩
/-- MEM_ERR_LOC.PATROL (R264). -/
def F.MEM_ERR_LOC_PATROL : Field := ⟨0x150, 13, 1⟩
/-- MEM_ERR_ROW.ROW (R264). -/
def F.MEM_ERR_ROW_ROW : Field := ⟨0x154, 0, 22⟩
/-- MEM_REFUSE_PART.PART (R264). -/
def F.MEM_REFUSE_PART_PART : Field := ⟨0x158, 0, 6⟩
/-- MEM_REFUSE_PART.WRITE (R264). -/
def F.MEM_REFUSE_PART_WRITE : Field := ⟨0x158, 6, 1⟩
/-- MEM_REFUSE_PART.VALID (R264). -/
def F.MEM_REFUSE_PART_VALID : Field := ⟨0x158, 31, 1⟩
/-- MEM_REFUSE_ADDR.ADDR of entry i (R264). -/
def F.MEM_REFUSE_ADDR_ADDR (i : Nat) : Field := ⟨0x15c + 4 * i, 0, 32⟩
/-- MEM_REMAP_SEL.STACK (R264). -/
def F.MEM_REMAP_SEL_STACK : Field := ⟨0x170, 0, 2⟩
/-- MEM_REMAP_SEL.CHANNEL (R264). -/
def F.MEM_REMAP_SEL_CHANNEL : Field := ⟨0x170, 2, 4⟩
/-- MEM_REMAP_SEL.ENTRY (R264). -/
def F.MEM_REMAP_SEL_ENTRY : Field := ⟨0x170, 6, 8⟩
/-- MEM_REMAP_ENTRY.ROW (R264). -/
def F.MEM_REMAP_ENTRY_ROW : Field := ⟨0x174, 0, 22⟩
/-- MEM_REMAP_ENTRY.SOURCE (R264). -/
def F.MEM_REMAP_ENTRY_SOURCE : Field := ⟨0x174, 29, 2⟩
/-- MEM_REMAP_ENTRY.VALID (R264). -/
def F.MEM_REMAP_ENTRY_VALID : Field := ⟨0x174, 31, 1⟩
/-- MEM_REMAP_COUNT.COUNT (R264). -/
def F.MEM_REMAP_COUNT_COUNT : Field := ⟨0x178, 0, 9⟩
/-- MEM_RANGE.BASE of entry i (R264). -/
def F.MEM_RANGE_BASE (i : Nat) : Field := ⟨0x400 + 4 * i, 0, 10⟩
/-- MEM_RANGE.SIZE of entry i (R264). -/
def F.MEM_RANGE_SIZE (i : Nat) : Field := ⟨0x400 + 4 * i, 10, 10⟩
/-- D2D_STATE.STATE (R304). -/
def F.D2D_STATE_STATE : Field := ⟨0x100, 0, 2⟩
/-- D2D_STATE.PEER (R304). -/
def F.D2D_STATE_PEER : Field := ⟨0x100, 4, 4⟩
/-- D2D_STATE.REPAIRED (R304). -/
def F.D2D_STATE_REPAIRED : Field := ⟨0x100, 8, 8⟩
/-- AGT_CFG.BIN_LOG2 (R405). -/
def F.AGT_CFG_BIN_LOG2 : Field := ⟨0x100, 0, 4⟩
/-- AGT_CFG.EV_PERIOD (R405). -/
def F.AGT_CFG_EV_PERIOD : Field := ⟨0x100, 4, 12⟩
/-- AGT_STATE.ASSIGNED (R405). -/
def F.AGT_STATE_ASSIGNED : Field := ⟨0x104, 0, 1⟩
/-- AGT_STATE.SESS0 (R405). -/
def F.AGT_STATE_SESS0 : Field := ⟨0x104, 1, 1⟩
/-- AGT_STATE.SESS1 (R405). -/
def F.AGT_STATE_SESS1 : Field := ⟨0x104, 2, 1⟩
/-- AGT_STATE.VER_MIN (R405). -/
def F.AGT_STATE_VER_MIN : Field := ⟨0x104, 8, 4⟩
/-- AGT_STATE.VER_MAX (R405). -/
def F.AGT_STATE_VER_MAX : Field := ⟨0x104, 12, 4⟩
/-- AGT_COORD.COORD (R405). -/
def F.AGT_COORD_COORD : Field := ⟨0x108, 0, 32⟩
/-- AGT_MGR.COORD of entry i (R405). -/
def F.AGT_MGR_COORD (i : Nat) : Field := ⟨0x10c + 4 * i, 0, 32⟩
/-- AGT_STORE.USED (R405). -/
def F.AGT_STORE_USED : Field := ⟨0x114, 0, 7⟩
/-- AGT_STORE.HWM (R405). -/
def F.AGT_STORE_HWM : Field := ⟨0x114, 8, 7⟩
/-- AGT_EVQ.PENDING (R405). -/
def F.AGT_EVQ_PENDING : Field := ⟨0x118, 0, 7⟩
/-- AGT_EVQ.LOST (R405). -/
def F.AGT_EVQ_LOST : Field := ⟨0x118, 8, 8⟩
/-- AGT_TEL_SEL.PORT (R405). -/
def F.AGT_TEL_SEL_PORT : Field := ⟨0x180, 0, 5⟩
/-- AGT_TEL_SEL.WORD (R405). -/
def F.AGT_TEL_SEL_WORD : Field := ⟨0x180, 8, 6⟩
/-- AGT_TEL_DATA.VALUE of entry i (R405). -/
def F.AGT_TEL_DATA_VALUE (i : Nat) : Field := ⟨0x184 + 4 * i, 0, 32⟩
/-- LNK_CMD.CMD (R301). -/
def F.LNK_CMD_CMD : Field := ⟨0x100, 0, 3⟩
/-- LNK_STATE.STATE (R301). -/
def F.LNK_STATE_STATE : Field := ⟨0x104, 0, 4⟩
/-- LNK_STATE.CAUSE (R301). -/
def F.LNK_STATE_CAUSE : Field := ⟨0x104, 4, 4⟩
/-- LNK_STATE.KEYED_TX (R301). -/
def F.LNK_STATE_KEYED_TX : Field := ⟨0x104, 8, 1⟩
/-- LNK_STATE.KEYED_RX (R301). -/
def F.LNK_STATE_KEYED_RX : Field := ⟨0x104, 9, 1⟩
/-- LNK_STATE.KIDX_TX (R301). -/
def F.LNK_STATE_KIDX_TX : Field := ⟨0x104, 10, 1⟩
/-- LNK_STATE.KIDX_RX (R301). -/
def F.LNK_STATE_KIDX_RX : Field := ⟨0x104, 11, 1⟩
/-- LNK_STATE.NEG_VER (R301). -/
def F.LNK_STATE_NEG_VER : Field := ⟨0x104, 12, 4⟩
/-- LNK_STATE.REACH (R301). -/
def F.LNK_STATE_REACH : Field := ⟨0x104, 16, 2⟩
/-- LNK_STATE.PN (R301). -/
def F.LNK_STATE_PN : Field := ⟨0x104, 18, 5⟩
/-- LNK_STATE.KEY_DUE (R301). -/
def F.LNK_STATE_KEY_DUE : Field := ⟨0x104, 23, 1⟩
/-- LNK_QUAL.LOCAL_PASS (R301). -/
def F.LNK_QUAL_LOCAL_PASS : Field := ⟨0x108, 0, 1⟩
/-- LNK_QUAL.PEER_PASS (R301). -/
def F.LNK_QUAL_PEER_PASS : Field := ⟨0x108, 1, 1⟩
/-- LNK_QUAL.DONE (R301). -/
def F.LNK_QUAL_DONE : Field := ⟨0x108, 2, 1⟩
/-- LNK_PARTNER.PN (R301). -/
def F.LNK_PARTNER_PN : Field := ⟨0x10c, 0, 5⟩
/-- LNK_PARTNER.ROLE (R301). -/
def F.LNK_PARTNER_ROLE : Field := ⟨0x10c, 5, 2⟩
/-- LNK_PARTNER.VALID (R301). -/
def F.LNK_PARTNER_VALID : Field := ⟨0x10c, 7, 1⟩
/-- LNK_PARTNER.VER_MIN (R301). -/
def F.LNK_PARTNER_VER_MIN : Field := ⟨0x10c, 8, 4⟩
/-- LNK_PARTNER.VER_MAX (R301). -/
def F.LNK_PARTNER_VER_MAX : Field := ⟨0x10c, 12, 4⟩
/-- LNK_PARTNER.PROFILE (R301). -/
def F.LNK_PARTNER_PROFILE : Field := ⟨0x10c, 16, 4⟩
/-- LNK_PARTNER_SER.SERIAL of entry i (R301). -/
def F.LNK_PARTNER_SER_SERIAL (i : Nat) : Field := ⟨0x110 + 4 * i, 0, 32⟩
/-- LNK_LANE.LOCK of entry i (R301). -/
def F.LNK_LANE_LOCK (i : Nat) : Field := ⟨0x120 + 4 * i, 0, 1⟩
/-- LNK_LANE.POL_INV of entry i (R301). -/
def F.LNK_LANE_POL_INV (i : Nat) : Field := ⟨0x120 + 4 * i, 1, 1⟩
/-- LNK_LANE.PHYS of entry i (R301). -/
def F.LNK_LANE_PHYS (i : Nat) : Field := ⟨0x120 + 4 * i, 2, 3⟩
/-- LNK_LANE.PRESET of entry i (R301). -/
def F.LNK_LANE_PRESET (i : Nat) : Field := ⟨0x120 + 4 * i, 5, 3⟩
/-- LNK_LANE.QUAL_ERR of entry i (R301). -/
def F.LNK_LANE_QUAL_ERR (i : Nat) : Field := ⟨0x120 + 4 * i, 8, 24⟩
/-- LNK_FCNT.VALUE of entry i (R301). -/
def F.LNK_FCNT_VALUE (i : Nat) : Field := ⟨0x140 + 4 * i, 0, 32⟩
/-- OPT_CTRL.DARK (R303). -/
def F.OPT_CTRL_DARK : Field := ⟨0x100, 0, 1⟩
/-- OPT_STATUS.LASER_OK (R303). -/
def F.OPT_STATUS_LASER_OK : Field := ⟨0x104, 0, 1⟩
/-- OPT_STATUS.DARK_ACTIVE (R303). -/
def F.OPT_STATUS_DARK_ACTIVE : Field := ⟨0x104, 1, 1⟩
/-- OPT_STATUS.TEMP (R303). -/
def F.OPT_STATUS_TEMP : Field := ⟨0x104, 8, 8⟩
/-- OPT_LASER_PWR.PWR (R303). -/
def F.OPT_LASER_PWR_PWR : Field := ⟨0x108, 0, 16⟩
/-- OPT_RX_PWR.PWR of entry i (R303). -/
def F.OPT_RX_PWR_PWR (i : Nat) : Field := ⟨0x10c + 4 * i, 0, 16⟩
/-- FLT_CFG.QUIET (R520). -/
def F.FLT_CFG_QUIET : Field := ⟨0x100, 0, 16⟩
/-- FLT_CFG.INJ_C4_EN (R520). -/
def F.FLT_CFG_INJ_C4_EN : Field := ⟨0x100, 16, 1⟩
/-- FLT_STATE.STATE (R520). -/
def F.FLT_STATE_STATE : Field := ⟨0x104, 0, 3⟩
/-- FLT_STATE.RECOVERIES (R520). -/
def F.FLT_STATE_RECOVERIES : Field := ⟨0x104, 8, 8⟩
/-- FLT_STATE.RECENT (R520). -/
def F.FLT_STATE_RECENT : Field := ⟨0x104, 16, 2⟩
/-- FLT_FATAL.SOURCE (R520). -/
def F.FLT_FATAL_SOURCE : Field := ⟨0x108, 0, 12⟩
/-- FLT_FATAL.BLOCK (R520). -/
def F.FLT_FATAL_BLOCK : Field := ⟨0x108, 12, 8⟩
/-- FLT_FATAL.SLOT (R520). -/
def F.FLT_FATAL_SLOT : Field := ⟨0x108, 20, 4⟩
/-- FLT_FATAL.VALID (R520). -/
def F.FLT_FATAL_VALID : Field := ⟨0x108, 24, 1⟩
/-- FLT_FATAL_TIME.VALUE of entry i (R520). -/
def F.FLT_FATAL_TIME_VALUE (i : Nat) : Field := ⟨0x10c + 4 * i, 0, 32⟩
/-- FLT_WDOG.PERIOD (R520). -/
def F.FLT_WDOG_PERIOD : Field := ⟨0x114, 0, 10⟩
/-- FLT_WDOG.EN (R520). -/
def F.FLT_WDOG_EN : Field := ⟨0x114, 10, 1⟩
/-- FLT_WDOG.MISSES (R520). -/
def F.FLT_WDOG_MISSES : Field := ⟨0x114, 11, 3⟩
/-- FLT_KICK.KEY (R520). -/
def F.FLT_KICK_KEY : Field := ⟨0x118, 0, 8⟩
/-- FLT_LOG_STATUS.COUNT (R520). -/
def F.FLT_LOG_STATUS_COUNT : Field := ⟨0x11c, 0, 9⟩
/-- FLT_LOG_POP.POP (R520). -/
def F.FLT_LOG_POP_POP : Field := ⟨0x120, 0, 1⟩
/-- FLT_LOG_HEAD01.GTIME of entry i (R520). -/
def F.FLT_LOG_HEAD01_GTIME (i : Nat) : Field := ⟨0x124 + 4 * i, 0, 32⟩
/-- FLT_LOG_HEAD2.SOURCE (R520). -/
def F.FLT_LOG_HEAD2_SOURCE : Field := ⟨0x12c, 0, 12⟩
/-- FLT_LOG_HEAD2.BLOCK (R520). -/
def F.FLT_LOG_HEAD2_BLOCK : Field := ⟨0x12c, 12, 8⟩
/-- FLT_LOG_HEAD2.SLOT (R520). -/
def F.FLT_LOG_HEAD2_SLOT : Field := ⟨0x12c, 20, 4⟩
/-- FLT_LOG_HEAD2.CLASS (R520). -/
def F.FLT_LOG_HEAD2_CLASS : Field := ⟨0x12c, 24, 3⟩
/-- FLT_LOG_HEAD2.RAW_CLASS (R520). -/
def F.FLT_LOG_HEAD2_RAW_CLASS : Field := ⟨0x12c, 27, 3⟩
/-- FLT_LOG_HEAD2.ESCALATED (R520). -/
def F.FLT_LOG_HEAD2_ESCALATED : Field := ⟨0x12c, 30, 1⟩
/-- FLT_LOG_HEAD2.INJECTED (R520). -/
def F.FLT_LOG_HEAD2_INJECTED : Field := ⟨0x12c, 31, 1⟩
/-- FLT_LOG_HEAD3.PART (R520). -/
def F.FLT_LOG_HEAD3_PART : Field := ⟨0x130, 0, 6⟩
/-- FLT_LOG_HEAD3.PART_VALID (R520). -/
def F.FLT_LOG_HEAD3_PART_VALID : Field := ⟨0x130, 6, 1⟩
/-- FLT_LOG_HEAD3.CTX (R520). -/
def F.FLT_LOG_HEAD3_CTX : Field := ⟨0x130, 7, 3⟩
/-- FLT_LOG_HEAD3.CTX_VALID (R520). -/
def F.FLT_LOG_HEAD3_CTX_VALID : Field := ⟨0x130, 10, 1⟩
/-- SEC_STATUS.LIFECYCLE (R556). -/
def F.SEC_STATUS_LIFECYCLE : Field := ⟨0x100, 0, 2⟩
/-- SEC_STATUS.DEBUG (R556). -/
def F.SEC_STATUS_DEBUG : Field := ⟨0x100, 2, 2⟩
/-- SEC_STATUS.EVER_UNLOCKED (R556). -/
def F.SEC_STATUS_EVER_UNLOCKED : Field := ⟨0x100, 4, 1⟩
/-- SEC_STATUS.IDENTITY_OK (R556). -/
def F.SEC_STATUS_IDENTITY_OK : Field := ⟨0x100, 5, 1⟩
/-- SEC_STATUS.PLAN_OK (R556). -/
def F.SEC_STATUS_PLAN_OK : Field := ⟨0x100, 6, 1⟩
/-- SEC_STATUS.NCONF (R556). -/
def F.SEC_STATUS_NCONF : Field := ⟨0x100, 8, 7⟩
/-- SEC_CONF.MASK of entry i (R556). -/
def F.SEC_CONF_MASK (i : Nat) : Field := ⟨0x104 + 4 * i, 0, 32⟩
/-- SEC_DBG_CTRL.NEW (R556). -/
def F.SEC_DBG_CTRL_NEW : Field := ⟨0x10c, 0, 1⟩
/-- SEC_DBG_CTRL.LOCK (R556). -/
def F.SEC_DBG_CTRL_LOCK : Field := ⟨0x10c, 1, 1⟩
/-- SEC_DBG_CHAL.CHAL of entry i (R556). -/
def F.SEC_DBG_CHAL_CHAL (i : Nat) : Field := ⟨0x110 + 4 * i, 0, 32⟩
/-- SEC_WKEY.CUR_EPOCH of entry i (R556). -/
def F.SEC_WKEY_CUR_EPOCH (i : Nat) : Field := ⟨0x200 + 4 * i, 0, 16⟩
/-- SEC_WKEY.CUR_VALID of entry i (R556). -/
def F.SEC_WKEY_CUR_VALID (i : Nat) : Field := ⟨0x200 + 4 * i, 16, 1⟩
/-- SEC_WKEY.PREV_VALID of entry i (R556). -/
def F.SEC_WKEY_PREV_VALID (i : Nat) : Field := ⟨0x200 + 4 * i, 17, 1⟩
/-- PCI_STATUS.LINK_UP (R613). -/
def F.PCI_STATUS_LINK_UP : Field := ⟨0x100, 0, 1⟩
/-- PCI_STATUS.RATE (R613). -/
def F.PCI_STATUS_RATE : Field := ⟨0x100, 1, 3⟩
/-- PCI_STATUS.WIDTH (R613). -/
def F.PCI_STATUS_WIDTH : Field := ⟨0x100, 4, 3⟩
/-- PCI_STATUS.INIT (R613). -/
def F.PCI_STATUS_INIT : Field := ⟨0x100, 7, 1⟩
/-- PCI_STATUS.FATAL (R613). -/
def F.PCI_STATUS_FATAL : Field := ⟨0x100, 8, 1⟩
/-- PCI_STATUS.PKG_PRES (R613). -/
def F.PCI_STATUS_PKG_PRES : Field := ⟨0x100, 9, 2⟩
/-- PCI_STATUS.BOARD_UNIFIED (R613). -/
def F.PCI_STATUS_BOARD_UNIFIED : Field := ⟨0x100, 11, 1⟩
/-- PCI_STATUS.REFLOST (R613). -/
def F.PCI_STATUS_REFLOST : Field := ⟨0x100, 12, 1⟩
/-- PCI_STATUS.RECOVERY (R613). -/
def F.PCI_STATUS_RECOVERY : Field := ⟨0x100, 13, 1⟩
/-- PCI_PROXY.DIE (R613). -/
def F.PCI_PROXY_DIE : Field := ⟨0x104, 0, 16⟩
/-- PCI_VF.ENABLED of entry i (R613). -/
def F.PCI_VF_ENABLED (i : Nat) : Field := ⟨0x110 + 4 * i, 0, 1⟩
/-- PCI_VF.ACTIVE of entry i (R613). -/
def F.PCI_VF_ACTIVE (i : Nat) : Field := ⟨0x110 + 4 * i, 1, 1⟩
/-- PCI_VF.SCRUBBING of entry i (R613). -/
def F.PCI_VF_SCRUBBING (i : Nat) : Field := ⟨0x110 + 4 * i, 2, 1⟩
/-- PCI_VF.CONFIDENTIAL of entry i (R613). -/
def F.PCI_VF_CONFIDENTIAL (i : Nat) : Field := ⟨0x110 + 4 * i, 3, 1⟩
/-- SMT_CTRL.ROLE (R450). -/
def F.SMT_CTRL_ROLE : Field := ⟨0x100, 0, 2⟩
/-- SMT_CTRL.EN (R450). -/
def F.SMT_CTRL_EN : Field := ⟨0x100, 2, 1⟩
/-- SMT_STATE.DISC (R450). -/
def F.SMT_STATE_DISC : Field := ⟨0x104, 0, 4⟩
/-- SMT_STATE.PAIR (R450). -/
def F.SMT_STATE_PAIR : Field := ⟨0x104, 4, 3⟩
/-- SMT_TERM.TERM (R450). -/
def F.SMT_TERM_TERM : Field := ⟨0x108, 0, 32⟩
/-- SMT_HB.MISS_FAB (R450). -/
def F.SMT_HB_MISS_FAB : Field := ⟨0x10c, 0, 4⟩
/-- SMT_HB.MISS_MGN (R450). -/
def F.SMT_HB_MISS_MGN : Field := ⟨0x10c, 4, 4⟩
/-- SMT_GEN.GO (R450). -/
def F.SMT_GEN_GO : Field := ⟨0x110, 0, 1⟩
/-- SMT_GEN.BUSY (R450). -/
def F.SMT_GEN_BUSY : Field := ⟨0x110, 1, 1⟩
/-- SMT_GEN.DONE (R450). -/
def F.SMT_GEN_DONE : Field := ⟨0x110, 2, 1⟩
/-- SMT_GEN.ERR (R450). -/
def F.SMT_GEN_ERR : Field := ⟨0x110, 3, 1⟩
/-- SMT_GEN_TIME.US (R450). -/
def F.SMT_GEN_TIME_US : Field := ⟨0x114, 0, 32⟩
/-- SMT_CFG.INJECT (R450). -/
def F.SMT_CFG_INJECT : Field := ⟨0x118, 0, 12⟩
/-- SMT_CFG.OUTSTANDING (R450). -/
def F.SMT_CFG_OUTSTANDING : Field := ⟨0x118, 12, 12⟩
/-- SMT_SEQ.SEQ of entry i (R450). -/
def F.SMT_SEQ_SEQ (i : Nat) : Field := ⟨0x120 + 4 * i, 0, 32⟩
/-- RST_CTRL.CORE (R643). -/
def F.RST_CTRL_CORE : Field := ⟨0x100, 0, 10⟩
/-- RST_CTRL.MGMT (R643). -/
def F.RST_CTRL_MGMT : Field := ⟨0x100, 16, 1⟩
/-- RST_CTRL.DEVICE (R643). -/
def F.RST_CTRL_DEVICE : Field := ⟨0x100, 17, 1⟩
/-- RST_CTRL.KEY (R643). -/
def F.RST_CTRL_KEY : Field := ⟨0x100, 24, 8⟩
/-- RST_STATUS.IN_RESET (R643). -/
def F.RST_STATUS_IN_RESET : Field := ⟨0x104, 0, 10⟩
/-- RST_CAUSE.DEVICE (R643). -/
def F.RST_CAUSE_DEVICE : Field := ⟨0x108, 0, 2⟩
/-- RST_CAUSE.MGMT (R643). -/
def F.RST_CAUSE_MGMT : Field := ⟨0x108, 2, 2⟩
/-- TIM_STATUS.MASTER (R643). -/
def F.TIM_STATUS_MASTER : Field := ⟨0x100, 0, 1⟩
/-- TIM_STATUS.ALIGNED (R643). -/
def F.TIM_STATUS_ALIGNED : Field := ⟨0x100, 1, 1⟩
/-- TIM_STATUS.SLEWING (R643). -/
def F.TIM_STATUS_SLEWING : Field := ⟨0x100, 2, 1⟩
/-- TIM_STATUS.WAKE (R643). -/
def F.TIM_STATUS_WAKE : Field := ⟨0x100, 3, 1⟩
/-- TIM_OFF.OFF (R643). -/
def F.TIM_OFF_OFF : Field := ⟨0x104, 0, 32⟩
/-- TIM_GTIME.VALUE of entry i (R643). -/
def F.TIM_GTIME_VALUE (i : Nat) : Field := ⟨0x108 + 4 * i, 0, 32⟩
/-- MBX_CFG.KIND (R615). -/
def F.MBX_CFG_KIND : Field := ⟨0x100, 0, 2⟩
/-- MBX_CFG.PF (R615). -/
def F.MBX_CFG_PF : Field := ⟨0x100, 2, 2⟩
/-- MBX_CFG.ENABLED (R615). -/
def F.MBX_CFG_ENABLED : Field := ⟨0x100, 4, 1⟩
/-- MBX_CFG.VEC (R615). -/
def F.MBX_CFG_VEC : Field := ⟨0x100, 8, 11⟩
/-- MBX_CFG.IE_MSG (R615). -/
def F.MBX_CFG_IE_MSG : Field := ⟨0x100, 19, 1⟩
/-- MBX_CFG.IE_SPACE (R615). -/
def F.MBX_CFG_IE_SPACE : Field := ⟨0x100, 20, 1⟩
/-- MBX_CFG.NOTIFY_LOST (R615). -/
def F.MBX_CFG_NOTIFY_LOST : Field := ⟨0x100, 24, 8⟩
/-- MBX_STATUS.FULL of entry i (R615). -/
def F.MBX_STATUS_FULL (i : Nat) : Field := ⟨0x104 + 12 * i, 0, 1⟩
/-- MBX_STATUS.LOST of entry i (R615). -/
def F.MBX_STATUS_LOST (i : Nat) : Field := ⟨0x104 + 12 * i, 1, 1⟩
/-- MBX_STATUS.BLOCKED of entry i (R615). -/
def F.MBX_STATUS_BLOCKED (i : Nat) : Field := ⟨0x104 + 12 * i, 2, 1⟩
/-- MBX_STATUS.MSG_EPOCH of entry i (R615). -/
def F.MBX_STATUS_MSG_EPOCH (i : Nat) : Field := ⟨0x104 + 12 * i, 8, 8⟩
/-- MBX_STATUS.SENDER_EPOCH of entry i (R615). -/
def F.MBX_STATUS_SENDER_EPOCH (i : Nat) : Field := ⟨0x104 + 12 * i, 16, 8⟩
/-- MBX_SEND.GO of entry i (R615). -/
def F.MBX_SEND_GO (i : Nat) : Field := ⟨0x108 + 12 * i, 0, 1⟩
/-- MBX_DONE.FULL of entry i (R615). -/
def F.MBX_DONE_FULL (i : Nat) : Field := ⟨0x10c + 12 * i, 0, 1⟩

/-- Offset of the counter CLK_REF_LOST_LO, _HI (R141). -/
def C.CLK_REF_LOST : Nat := 0x108
/-- Offset of the counter PWR_ENERGY_LO, _HI (R141). -/
def C.PWR_ENERGY : Nat := 0x120
/-- Offset of the counter PWR_DROOPS_LO, _HI (R141). -/
def C.PWR_DROOPS : Nat := 0x128
/-- Offset of the counter PWR_DROOP_CYC_LO, _HI (R141). -/
def C.PWR_DROOP_CYC : Nat := 0x130
/-- Offset of the counter PWR_STEP_CHANGES_LO, _HI (R141). -/
def C.PWR_STEP_CHANGES : Nat := 0x138
/-- Offset of the counter PWR_DEFERRALS_LO, _HI (R141). -/
def C.PWR_DEFERRALS : Nat := 0x140
/-- Offset of the counter RTR_CRC_LO, _HI (R141). -/
def C.RTR_CRC : Nat := 0x180
/-- Offset of the counter RTR_FORMAT_LO, _HI (R141). -/
def C.RTR_FORMAT : Nat := 0x188
/-- Offset of the counter RTR_HOPS_LO, _HI (R141). -/
def C.RTR_HOPS : Nat := 0x190
/-- Offset of the counter RTR_LIFETIME_LO, _HI (R141). -/
def C.RTR_LIFETIME : Nat := 0x198
/-- Offset of the counter RTR_NO_ROUTE_LO, _HI (R141). -/
def C.RTR_NO_ROUTE : Nat := 0x1a0
/-- Offset of the counter RTR_MISADDR_LO, _HI (R141). -/
def C.RTR_MISADDR : Nat := 0x1a8
/-- Offset of the counter RTR_FENCED_LO, _HI (R141). -/
def C.RTR_FENCED : Nat := 0x1b0
/-- Offset of the counter RTR_LATE_LO, _HI (R141). -/
def C.RTR_LATE : Nat := 0x1b8
/-- Offset of the counter RTR_ECHO_LO, _HI (R141). -/
def C.RTR_ECHO : Nat := 0x210
/-- Offset of the counter RTR_WIN_STALL_LO, _HI (R141). -/
def C.RTR_WIN_STALL : Nat := 0x218
/-- Offset of the counter RTR_WIN_FULL_LO, _HI (R141). -/
def C.RTR_WIN_FULL : Nat := 0x220
/-- Offset of the counter MSF_BUSY_CYC_LO, _HI (R141). -/
def C.MSF_BUSY_CYC : Nat := 0x120
/-- Offset of the counter MSF_HOLD_CYC_LO, _HI (R141). -/
def C.MSF_HOLD_CYC : Nat := 0x128
/-- Offset of the counter MSF_LOADWAIT_CYC_LO, _HI (R141). -/
def C.MSF_LOADWAIT_CYC : Nat := 0x130
/-- Offset of the counter MSF_SWEEPS_LO, _HI (R141). -/
def C.MSF_SWEEPS : Nat := 0x138
/-- Offset of the counter MSF_CKSUM_FAIL_LO, _HI (R141). -/
def C.MSF_CKSUM_FAIL : Nat := 0x140
/-- Offset of the counter TRN_ECC_CE_LO, _HI (R141). -/
def C.TRN_ECC_CE : Nat := 0x208
/-- Offset of the counter TRN_ECC_UE_LO, _HI (R141). -/
def C.TRN_ECC_UE : Nat := 0x210
/-- Offset of the counter VCX_DISPATCHES_LO, _HI (R141). -/
def C.VCX_DISPATCHES : Nat := 0x110
/-- Offset of the counter VCX_TRAPS_LO, _HI (R141). -/
def C.VCX_TRAPS : Nat := 0x118
/-- Offset of the counter CRN_STALE_LO, _HI (R141). -/
def C.CRN_STALE : Nat := 0x280
/-- Offset of the counter CRN_EARLY_LO, _HI (R141). -/
def C.CRN_EARLY : Nat := 0x288
/-- Offset of the counter CRN_DUP_LO, _HI (R141). -/
def C.CRN_DUP : Nat := 0x290
/-- Offset of the counter CRN_STRAY_LO, _HI (R141). -/
def C.CRN_STRAY : Nat := 0x298
/-- Offset of the counter CRN_RANGE_LO, _HI (R141). -/
def C.CRN_RANGE : Nat := 0x2a0
/-- Offset of the counter CRN_RELEASES_LO, _HI (R141). -/
def C.CRN_RELEASES : Nat := 0x2a8
/-- Offset of the counter DMA_PKTS_LO, _HI (R141). -/
def C.DMA_PKTS : Nat := 0x110
/-- Offset of the counter DMA_RESENT_LO, _HI (R141). -/
def C.DMA_RESENT : Nat := 0x118
/-- Offset of the counter DMA_CHUNK_FAIL_LO, _HI (R141). -/
def C.DMA_CHUNK_FAIL : Nat := 0x120
/-- Offset of the counter DMA_LATE_ACK_LO, _HI (R141). -/
def C.DMA_LATE_ACK : Nat := 0x128
/-- Offset of the counter MEM_CE_LO, _HI (R141). -/
def C.MEM_CE : Nat := 0x120
/-- Offset of the counter MEM_UE_LO, _HI (R141). -/
def C.MEM_UE : Nat := 0x128
/-- Offset of the counter MEM_PATROL_UE_LO, _HI (R141). -/
def C.MEM_PATROL_UE : Nat := 0x130
/-- Offset of the counter MEM_REMAP_LO, _HI (R141). -/
def C.MEM_REMAP : Nat := 0x138
/-- Offset of the counter MEM_REFUSED_LO, _HI (R141). -/
def C.MEM_REFUSED : Nat := 0x140
/-- Offset of the counter D2D_CRC_LO, _HI (R141). -/
def C.D2D_CRC : Nat := 0x110
/-- Offset of the counter D2D_REPLAY_LO, _HI (R141). -/
def C.D2D_REPLAY : Nat := 0x118
/-- Offset of the counter AGT_REQ_LO, _HI (R141). -/
def C.AGT_REQ : Nat := 0x120
/-- Offset of the counter AGT_AUTH_FAIL_LO, _HI (R141). -/
def C.AGT_AUTH_FAIL : Nat := 0x128
/-- Offset of the counter AGT_STALE_LO, _HI (R141). -/
def C.AGT_STALE : Nat := 0x130
/-- Offset of the counter AGT_REPLAY_LO, _HI (R141). -/
def C.AGT_REPLAY : Nat := 0x138
/-- Offset of the counter AGT_DROP_STORE_LO, _HI (R141). -/
def C.AGT_DROP_STORE : Nat := 0x140
/-- Offset of the counter AGT_UNSUPPORTED_LO, _HI (R141). -/
def C.AGT_UNSUPPORTED : Nat := 0x148
/-- Offset of the counter LNK_FEC_CW_LO, _HI (R141). -/
def C.LNK_FEC_CW : Nat := 0x150
/-- Offset of the counter LNK_FEC_CORR_LO, _HI (R141). -/
def C.LNK_FEC_CORR : Nat := 0x158
/-- Offset of the counter LNK_FEC_UNCORR_LO, _HI (R141). -/
def C.LNK_FEC_UNCORR : Nat := 0x160
/-- Offset of the counter LNK_TAG_FAIL_LO, _HI (R141). -/
def C.LNK_TAG_FAIL : Nat := 0x168
/-- Offset of the counter LNK_FRAMES_RX_LO, _HI (R141). -/
def C.LNK_FRAMES_RX : Nat := 0x170
/-- Offset of the counter LNK_FRAMING_LO, _HI (R141). -/
def C.LNK_FRAMING : Nat := 0x178
/-- Offset of the counter FLT_LOG_LOST_LO, _HI (R141). -/
def C.FLT_LOG_LOST : Nat := 0x134
/-- Offset of the counter FLT_PART_CLR_LO, _HI (R141). -/
def C.FLT_PART_CLR : Nat := 0x13c
/-- Offset of the counter SEC_UNWRAP_FAIL_LO, _HI (R141). -/
def C.SEC_UNWRAP_FAIL : Nat := 0x300
/-- Offset of the counter SEC_IMPORT_AUTH_FAIL_LO, _HI (R141). -/
def C.SEC_IMPORT_AUTH_FAIL : Nat := 0x308
/-- Offset of the counter SEC_DEBUG_REFUSED_LO, _HI (R141). -/
def C.SEC_DEBUG_REFUSED : Nat := 0x310
/-- Offset of the counter PCI_BAR2_REFUSED_LO, _HI (R141). -/
def C.PCI_BAR2_REFUSED : Nat := 0x300
/-- Offset of the counter PCI_BAR2_FAILED_LO, _HI (R141). -/
def C.PCI_BAR2_FAILED : Nat := 0x308
/-- Offset of the counter PCI_MSIX_DROPPED_LO, _HI (R141). -/
def C.PCI_MSIX_DROPPED : Nat := 0x310
/-- Offset of the counter PCI_RELAY_FAIL_LO, _HI (R141). -/
def C.PCI_RELAY_FAIL : Nat := 0x318
/-- Offset of the counter SMT_HB_MISS_LO, _HI (R141). -/
def C.SMT_HB_MISS : Nat := 0x128
/-- Offset of the counter SMT_MIRROR_RETRY_LO, _HI (R141). -/
def C.SMT_MIRROR_RETRY : Nat := 0x130
/-- Offset of the counter SMT_TAKEOVER_LO, _HI (R141). -/
def C.SMT_TAKEOVER : Nat := 0x138
/-- Offset of the counter SMT_ROUTE_CHANGES_LO, _HI (R141). -/
def C.SMT_ROUTE_CHANGES : Nat := 0x140
/-- Offset of the counter SMT_DIRECTED_LO, _HI (R141). -/
def C.SMT_DIRECTED : Nat := 0x148

/-- The registers of the common header. -/
def regsHdr : List RegDef :=
  [
   ⟨0x20, 1, 4, [⟨0, 12, .ro, 0⟩, ⟨12, 20, .ro, 0⟩]⟩, -- FLT_FIRST
   ⟨0x24, 1, 4, [⟨0, 3, .ro, 0⟩, ⟨3, 3, .ro, 0⟩, ⟨6, 1, .ro, 0⟩, ⟨7, 1, .ro, 0⟩, ⟨8, 1, .ro, 0⟩, ⟨9, 1, .ro, 0⟩, ⟨10, 1, .ro, 0⟩, ⟨11, 6, .ro, 0⟩, ⟨17, 1, .ro, 0⟩, ⟨18, 3, .ro, 0⟩, ⟨21, 1, .ro, 0⟩]⟩, -- FLT_FLAGS
   ⟨0x28, 1, 4, [⟨0, 1, .wo, 0⟩]⟩, -- FLT_ACK
   ⟨0x2c, 1, 4, [⟨0, 4, .rw, 0⟩, ⟨4, 2, .rw, 0⟩, ⟨6, 2, .rw, 1⟩, ⟨8, 1, .ro, 0⟩, ⟨9, 1, .w1c, 0⟩, ⟨10, 1, .w1c, 0⟩]⟩, -- INJ_CTRL
   ⟨0x1c, 1, 4, [⟨0, 16, .ro, 0⟩, ⟨16, 16, .wo, 0⟩]⟩, -- EVT_COUNT
   ⟨0x0, 1, 4, [⟨0, 8, .ro, 0⟩, ⟨8, 8, .ro, 0⟩, ⟨16, 8, .ro, 1⟩, ⟨24, 8, .ro, 0⟩]⟩, -- BLK_ID
   ⟨0x4, 1, 4, [⟨0, 5, .ro, 0⟩, ⟨5, 1, .ro, 0⟩, ⟨6, 1, .ro, 0⟩, ⟨7, 1, .ro, 0⟩, ⟨8, 8, .ro, 0⟩]⟩, -- BLK_CAP
   ⟨0x8, 1, 4, [⟨0, 1, .rw, 1⟩, ⟨1, 1, .rw, 0⟩]⟩, -- BLK_CTRL
   ⟨0xc, 1, 4, [⟨0, 1, .ro, 0⟩, ⟨1, 1, .ro, 0⟩, ⟨2, 1, .ro, 0⟩, ⟨3, 1, .ro, 0⟩, ⟨4, 4, .ro, 0⟩]⟩, -- BLK_STATUS
   ⟨0x10, 1, 4, [⟨0, 32, .w1c, 0⟩]⟩, -- EVT_STATUS
   ⟨0x14, 1, 4, [⟨0, 32, .rw, 0⟩]⟩, -- EVT_ENABLE
   ⟨0x18, 1, 4, [⟨0, 32, .w1c, 0⟩]⟩ -- EVT_OVERRUN
  ]

/-- The registers of a CLK page. -/
def regsClk : List RegDef :=
  [
   ⟨0x100, 1, 4, [⟨0, 1, .ro, 0⟩, ⟨1, 1, .ro, 0⟩, ⟨2, 1, .ro, 0⟩, ⟨3, 1, .ro, 1⟩, ⟨4, 5, .ro, 6⟩]⟩, -- CLK_STATUS
   ⟨0x108, 1, 4, [⟨0, 32, .ro, 0⟩]⟩, -- REF_LOST_LO
   ⟨0x10c, 1, 4, [⟨0, 16, .ro, 0⟩, ⟨31, 1, .w1c, 0⟩]⟩ -- REF_LOST_HI
  ]

/-- The registers of a PWR page. -/
def regsPwr : List RegDef :=
  [
   ⟨0x100, 1, 4, [⟨0, 1, .rw, 0⟩, ⟨1, 5, .rw, 0⟩, ⟨8, 5, .rw, 0⟩, ⟨16, 4, .rw, 15⟩]⟩, -- PWR_CTRL
   ⟨0x104, 1, 4, [⟨0, 12, .rw, 400⟩, ⟨12, 12, .rw, 0⟩]⟩, -- PWR_LIMIT
   ⟨0x108, 1, 4, [⟨0, 5, .ro, 0⟩, ⟨8, 4, .ro, 0⟩, ⟨12, 1, .ro, 0⟩, ⟨13, 1, .w1c, 0⟩, ⟨14, 1, .ro, 0⟩, ⟨15, 1, .ro, 0⟩, ⟨16, 1, .ro, 0⟩, ⟨17, 1, .ro, 0⟩, ⟨18, 1, .w1c, 0⟩, ⟨19, 1, .ro, 0⟩, ⟨20, 1, .ro, 0⟩, ⟨21, 2, .ro, 0⟩]⟩, -- PWR_STATUS
   ⟨0x10c, 1, 4, [⟨0, 16, .ro, 0⟩, ⟨16, 16, .ro, 0⟩]⟩, -- PWR_EST
   ⟨0x110, 1, 4, [⟨0, 16, .ro, 0⟩, ⟨16, 8, .ro, 0⟩]⟩, -- PWR_MEAS
   ⟨0x114, 1, 4, [⟨0, 16, .rw, 0⟩, ⟨16, 16, .rw, 0⟩]⟩, -- PWR_CAL
   ⟨0x118, 1, 4, [⟨0, 8, .rw, 255⟩, ⟨8, 8, .rw, 0⟩, ⟨16, 1, .rw, 0⟩]⟩, -- PWR_CONF
   ⟨0x11c, 1, 4, [⟨0, 7, .rw, 40⟩, ⟨8, 8, .rw, 20⟩, ⟨16, 8, .rw, 255⟩]⟩, -- PWR_DROOP
   ⟨0x200, 1, 4, [⟨0, 13, .rw, 0⟩]⟩, -- PKG_CAP
   ⟨0x204, 1, 4, [⟨0, 1, .ro, 0⟩, ⟨1, 1, .ro, 0⟩, ⟨2, 1, .ro, 0⟩, ⟨3, 1, .w1c, 0⟩, ⟨4, 1, .w1c, 0⟩]⟩, -- PKG_STATUS
   ⟨0x208, 1, 4, [⟨0, 16, .ro, 0⟩, ⟨16, 16, .ro, 0⟩]⟩, -- PKG_EST
   ⟨0x20c, 1, 4, [⟨0, 16, .ro, 0⟩, ⟨16, 16, .ro, 0⟩]⟩, -- PKG_MEAS
   ⟨0x210, 1, 4, [⟨0, 1, .ro, 0⟩, ⟨1, 1, .ro, 0⟩, ⟨2, 1, .ro, 0⟩, ⟨8, 8, .ro, 0⟩]⟩, -- PWR_MGS
   ⟨0x120, 1, 4, [⟨0, 32, .ro, 0⟩]⟩, -- PWR_ENERGY_LO
   ⟨0x124, 1, 4, [⟨0, 16, .ro, 0⟩, ⟨31, 1, .w1c, 0⟩]⟩, -- PWR_ENERGY_HI
   ⟨0x128, 1, 4, [⟨0, 32, .ro, 0⟩]⟩, -- DROOPS_LO
   ⟨0x12c, 1, 4, [⟨0, 16, .ro, 0⟩, ⟨31, 1, .w1c, 0⟩]⟩, -- DROOPS_HI
   ⟨0x130, 1, 4, [⟨0, 32, .ro, 0⟩]⟩, -- DROOP_CYC_LO
   ⟨0x134, 1, 4, [⟨0, 16, .ro, 0⟩, ⟨31, 1, .w1c, 0⟩]⟩, -- DROOP_CYC_HI
   ⟨0x138, 1, 4, [⟨0, 32, .ro, 0⟩]⟩ -- STEP_CHANGES_LO
  ] ++
  [
   ⟨0x13c, 1, 4, [⟨0, 16, .ro, 0⟩, ⟨31, 1, .w1c, 0⟩]⟩, -- STEP_CHANGES_HI
   ⟨0x140, 1, 4, [⟨0, 32, .ro, 0⟩]⟩, -- DEFERRALS_LO
   ⟨0x144, 1, 4, [⟨0, 16, .ro, 0⟩, ⟨31, 1, .w1c, 0⟩]⟩ -- DEFERRALS_HI
  ]

/-- The registers of a RTR page. -/
def regsRtr : List RegDef :=
  [
   ⟨0x100, 1, 4, [⟨0, 8, .rw, 24⟩, ⟨8, 4, .rw, 8⟩]⟩, -- RTR_CFG
   ⟨0x104, 1, 4, [⟨0, 1, .rw, 0⟩, ⟨1, 1, .ro, 0⟩, ⟨2, 1, .ro, 0⟩]⟩, -- RTR_EPOCH
   ⟨0x108, 2, 4, [⟨0, 24, .ro, 0⟩, ⟨31, 1, .w1c, 0⟩]⟩, -- RTR_INFLIGHT
   ⟨0x110, 1, 4, [⟨0, 12, .rw, 0⟩, ⟨12, 1, .rw, 0⟩, ⟨13, 1, .rw, 0⟩]⟩, -- RTR_TBL_SEL
   ⟨0x114, 1, 4, [⟨0, 32, .ro, 0⟩]⟩, -- RTR_TBL_DATA
   ⟨0x120, 12, 4, [⟨0, 3, .rw, 0⟩, ⟨3, 1, .rw, 0⟩, ⟨4, 1, .rw, 0⟩, ⟨5, 3, .rw, 0⟩, ⟨8, 1, .rw, 0⟩]⟩, -- RTR_PORT
   ⟨0x200, 1, 4, [⟨0, 4, .rw, 4⟩, ⟨4, 8, .rw, 5⟩, ⟨12, 12, .rw, 50⟩]⟩, -- RTR_CC
   ⟨0x204, 1, 4, [⟨0, 16, .rw, 4800⟩, ⟨16, 16, .rw, 5⟩]⟩, -- RTR_RATE
   ⟨0x208, 1, 4, [⟨0, 9, .rw, 256⟩, ⟨9, 10, .rw, 512⟩]⟩, -- RTR_WIN
   ⟨0x20c, 1, 4, [⟨0, 11, .ro, 0⟩]⟩, -- RTR_WIN_USE
   ⟨0x180, 1, 4, [⟨0, 32, .ro, 0⟩]⟩, -- CRC_LO
   ⟨0x184, 1, 4, [⟨0, 16, .ro, 0⟩, ⟨31, 1, .w1c, 0⟩]⟩, -- CRC_HI
   ⟨0x188, 1, 4, [⟨0, 32, .ro, 0⟩]⟩, -- FORMAT_LO
   ⟨0x18c, 1, 4, [⟨0, 16, .ro, 0⟩, ⟨31, 1, .w1c, 0⟩]⟩, -- FORMAT_HI
   ⟨0x190, 1, 4, [⟨0, 32, .ro, 0⟩]⟩, -- HOPS_LO
   ⟨0x194, 1, 4, [⟨0, 16, .ro, 0⟩, ⟨31, 1, .w1c, 0⟩]⟩, -- HOPS_HI
   ⟨0x198, 1, 4, [⟨0, 32, .ro, 0⟩]⟩, -- LIFETIME_LO
   ⟨0x19c, 1, 4, [⟨0, 16, .ro, 0⟩, ⟨31, 1, .w1c, 0⟩]⟩, -- LIFETIME_HI
   ⟨0x1a0, 1, 4, [⟨0, 32, .ro, 0⟩]⟩, -- NO_ROUTE_LO
   ⟨0x1a4, 1, 4, [⟨0, 16, .ro, 0⟩, ⟨31, 1, .w1c, 0⟩]⟩ -- NO_ROUTE_HI
  ] ++
  [
   ⟨0x1a8, 1, 4, [⟨0, 32, .ro, 0⟩]⟩, -- MISADDR_LO
   ⟨0x1ac, 1, 4, [⟨0, 16, .ro, 0⟩, ⟨31, 1, .w1c, 0⟩]⟩, -- MISADDR_HI
   ⟨0x1b0, 1, 4, [⟨0, 32, .ro, 0⟩]⟩, -- FENCED_LO
   ⟨0x1b4, 1, 4, [⟨0, 16, .ro, 0⟩, ⟨31, 1, .w1c, 0⟩]⟩, -- FENCED_HI
   ⟨0x1b8, 1, 4, [⟨0, 32, .ro, 0⟩]⟩, -- LATE_LO
   ⟨0x1bc, 1, 4, [⟨0, 16, .ro, 0⟩, ⟨31, 1, .w1c, 0⟩]⟩, -- LATE_HI
   ⟨0x210, 1, 4, [⟨0, 32, .ro, 0⟩]⟩, -- RTR_ECHO_LO
   ⟨0x214, 1, 4, [⟨0, 16, .ro, 0⟩, ⟨31, 1, .w1c, 0⟩]⟩, -- RTR_ECHO_HI
   ⟨0x218, 1, 4, [⟨0, 32, .ro, 0⟩]⟩, -- RTR_WIN_STALL_LO
   ⟨0x21c, 1, 4, [⟨0, 16, .ro, 0⟩, ⟨31, 1, .w1c, 0⟩]⟩, -- RTR_WIN_STALL_HI
   ⟨0x220, 1, 4, [⟨0, 32, .ro, 0⟩]⟩, -- RTR_WIN_FULL_LO
   ⟨0x224, 1, 4, [⟨0, 16, .ro, 0⟩, ⟨31, 1, .w1c, 0⟩]⟩ -- RTR_WIN_FULL_HI
  ]

/-- The registers of a MSF page. -/
def regsMsf : List RegDef :=
  [
   ⟨0x100, 1, 4, [⟨0, 16, .ro, 0⟩]⟩, -- MSF_ROW_REPAIR
   ⟨0x104, 1, 4, [⟨0, 32, .ro, 0⟩]⟩, -- MSF_COL_REPAIR
   ⟨0x108, 1, 4, [⟨0, 1, .ro, 0⟩, ⟨8, 8, .ro, 0⟩]⟩, -- MSF_ARRAY
   ⟨0x10c, 1, 4, [⟨0, 11, .ro, 0⟩, ⟨11, 1, .ro, 0⟩, ⟨12, 1, .w1c, 0⟩]⟩, -- MSF_SUSPECT
   ⟨0x110, 1, 4, [⟨0, 32, .rw, 1048576⟩]⟩, -- MSF_SWEEP_LIMIT
   ⟨0x114, 1, 4, [⟨0, 6, .ro, 0⟩, ⟨6, 3, .ro, 0⟩, ⟨12, 4, .ro, 0⟩, ⟨16, 16, .ro, 0⟩]⟩, -- MSF_CURRENT
   ⟨0x118, 1, 4, [⟨0, 1, .ro, 0⟩, ⟨1, 1, .ro, 0⟩, ⟨4, 4, .ro, 0⟩]⟩, -- MSF_HOLD
   ⟨0x150, 1, 4, [⟨0, 4, .rw, 0⟩, ⟨4, 9, .rw, 0⟩]⟩, -- MSF_TBL_SEL
   ⟨0x154, 1, 4, [⟨0, 32, .ro, 0⟩]⟩, -- MSF_TBL_DATA
   ⟨0x120, 1, 4, [⟨0, 32, .ro, 0⟩]⟩, -- MSF_BUSY_CYC_LO
   ⟨0x124, 1, 4, [⟨0, 16, .ro, 0⟩, ⟨31, 1, .w1c, 0⟩]⟩, -- MSF_BUSY_CYC_HI
   ⟨0x128, 1, 4, [⟨0, 32, .ro, 0⟩]⟩, -- MSF_HOLD_CYC_LO
   ⟨0x12c, 1, 4, [⟨0, 16, .ro, 0⟩, ⟨31, 1, .w1c, 0⟩]⟩, -- MSF_HOLD_CYC_HI
   ⟨0x130, 1, 4, [⟨0, 32, .ro, 0⟩]⟩, -- MSF_LOADWAIT_CYC_LO
   ⟨0x134, 1, 4, [⟨0, 16, .ro, 0⟩, ⟨31, 1, .w1c, 0⟩]⟩, -- MSF_LOADWAIT_CYC_HI
   ⟨0x138, 1, 4, [⟨0, 32, .ro, 0⟩]⟩, -- MSF_SWEEPS_LO
   ⟨0x13c, 1, 4, [⟨0, 16, .ro, 0⟩, ⟨31, 1, .w1c, 0⟩]⟩, -- MSF_SWEEPS_HI
   ⟨0x140, 1, 4, [⟨0, 32, .ro, 0⟩]⟩, -- MSF_CKSUM_FAIL_LO
   ⟨0x144, 1, 4, [⟨0, 16, .ro, 0⟩, ⟨31, 1, .w1c, 0⟩]⟩ -- MSF_CKSUM_FAIL_HI
  ]

/-- The registers of a TRN page. -/
def regsTrn : List RegDef :=
  [
   ⟨0x100, 64, 4, [⟨0, 12, .rw, 0⟩, ⟨12, 13, .rw, 0⟩]⟩, -- TRN_PART
   ⟨0x200, 1, 4, [⟨0, 12, .rw, 0⟩, ⟨12, 13, .rw, 0⟩, ⟨31, 1, .rw1s, 0⟩]⟩, -- TRN_ZERO_CTRL
   ⟨0x204, 1, 4, [⟨0, 1, .ro, 0⟩, ⟨1, 1, .w1c, 0⟩]⟩, -- TRN_ZERO_STATUS
   ⟨0x218, 1, 4, [⟨0, 25, .ro, 0⟩, ⟨31, 1, .ro, 0⟩]⟩, -- TRN_ECC_LAST
   ⟨0x208, 1, 4, [⟨0, 32, .ro, 0⟩]⟩, -- TRN_ECC_CE_LO
   ⟨0x20c, 1, 4, [⟨0, 16, .ro, 0⟩, ⟨31, 1, .w1c, 0⟩]⟩, -- TRN_ECC_CE_HI
   ⟨0x210, 1, 4, [⟨0, 32, .ro, 0⟩]⟩, -- TRN_ECC_UE_LO
   ⟨0x214, 1, 4, [⟨0, 16, .ro, 0⟩, ⟨31, 1, .w1c, 0⟩]⟩ -- TRN_ECC_UE_HI
  ]

/-- The registers of a VCX page. -/
def regsVcx : List RegDef :=
  [
   ⟨0x100, 1, 4, [⟨0, 32, .ro, 0⟩]⟩, -- VCX_CORE_BUSY
   ⟨0x104, 1, 4, [⟨0, 6, .rw, 0⟩]⟩, -- VCX_DB_PART
   ⟨0x108, 1, 4, [⟨0, 32, .rw, 1048576⟩]⟩, -- VCX_DISPATCH_LIMIT
   ⟨0x800, 128, 4, [⟨0, 24, .wo, 0⟩, ⟨24, 1, .wo, 0⟩, ⟨31, 1, .wo, 0⟩]⟩, -- DB
   ⟨0xa00, 128, 4, [⟨0, 24, .ro, 0⟩, ⟨24, 3, .ro, 0⟩, ⟨27, 4, .ro, 0⟩]⟩, -- QSTATE
   ⟨0xc00, 128, 4, [⟨0, 13, .rw, 0⟩, ⟨16, 16, .rw, 0⟩]⟩, -- GATE
   ⟨0x110, 1, 4, [⟨0, 32, .ro, 0⟩]⟩, -- VCX_DISPATCHES_LO
   ⟨0x114, 1, 4, [⟨0, 16, .ro, 0⟩, ⟨31, 1, .w1c, 0⟩]⟩, -- VCX_DISPATCHES_HI
   ⟨0x118, 1, 4, [⟨0, 32, .ro, 0⟩]⟩, -- VCX_TRAPS_LO
   ⟨0x11c, 1, 4, [⟨0, 16, .ro, 0⟩, ⟨31, 1, .w1c, 0⟩]⟩ -- VCX_TRAPS_HI
  ]

/-- The registers of a CRN page. -/
def regsCrn : List RegDef :=
  [
   ⟨0x100, 64, 4, [⟨0, 13, .rw, 0⟩, ⟨13, 14, .rw, 0⟩]⟩, -- CRN_PART
   ⟨0x200, 16, 4, [⟨0, 13, .rw, 0⟩, ⟨31, 1, .rw, 0⟩]⟩, -- CRN_TRACK
   ⟨0x240, 1, 4, [⟨0, 13, .rw, 0⟩]⟩, -- CRN_INSP_SEL
   ⟨0x244, 1, 4, [⟨0, 16, .ro, 0⟩, ⟨16, 1, .ro, 0⟩, ⟨17, 1, .ro, 0⟩, ⟨18, 8, .ro, 0⟩]⟩, -- CRN_INSP_GEN
   ⟨0x248, 6, 4, [⟨0, 32, .ro, 0⟩]⟩, -- CRN_INSP
   ⟨0x260, 1, 4, [⟨0, 4, .rw, 0⟩, ⟨8, 6, .rw, 0⟩]⟩, -- CRN_TRK_SEL
   ⟨0x264, 1, 4, [⟨0, 32, .ro, 0⟩]⟩, -- CRN_TRK_ARR
   ⟨0x280, 1, 4, [⟨0, 32, .ro, 0⟩]⟩, -- STALE_LO
   ⟨0x284, 1, 4, [⟨0, 16, .ro, 0⟩, ⟨31, 1, .w1c, 0⟩]⟩, -- STALE_HI
   ⟨0x288, 1, 4, [⟨0, 32, .ro, 0⟩]⟩, -- EARLY_LO
   ⟨0x28c, 1, 4, [⟨0, 16, .ro, 0⟩, ⟨31, 1, .w1c, 0⟩]⟩, -- EARLY_HI
   ⟨0x290, 1, 4, [⟨0, 32, .ro, 0⟩]⟩, -- DUP_LO
   ⟨0x294, 1, 4, [⟨0, 16, .ro, 0⟩, ⟨31, 1, .w1c, 0⟩]⟩, -- DUP_HI
   ⟨0x298, 1, 4, [⟨0, 32, .ro, 0⟩]⟩, -- STRAY_LO
   ⟨0x29c, 1, 4, [⟨0, 16, .ro, 0⟩, ⟨31, 1, .w1c, 0⟩]⟩, -- STRAY_HI
   ⟨0x2a0, 1, 4, [⟨0, 32, .ro, 0⟩]⟩, -- RANGE_LO
   ⟨0x2a4, 1, 4, [⟨0, 16, .ro, 0⟩, ⟨31, 1, .w1c, 0⟩]⟩, -- RANGE_HI
   ⟨0x2a8, 1, 4, [⟨0, 32, .ro, 0⟩]⟩, -- RELEASES_LO
   ⟨0x2ac, 1, 4, [⟨0, 16, .ro, 0⟩, ⟨31, 1, .w1c, 0⟩]⟩ -- RELEASES_HI
  ]

/-- The registers of a DMA page. -/
def regsDma : List RegDef :=
  [
   ⟨0x100, 1, 4, [⟨0, 16, .rw, 1000⟩, ⟨16, 3, .rw, 2⟩]⟩, -- DMA_CTRL
   ⟨0x104, 1, 4, [⟨0, 16, .ro, 0⟩]⟩, -- DMA_ENG_BUSY
   ⟨0x110, 1, 4, [⟨0, 32, .ro, 0⟩]⟩, -- DMA_PKTS_LO
   ⟨0x114, 1, 4, [⟨0, 16, .ro, 0⟩, ⟨31, 1, .w1c, 0⟩]⟩, -- DMA_PKTS_HI
   ⟨0x118, 1, 4, [⟨0, 32, .ro, 0⟩]⟩, -- DMA_RESENT_LO
   ⟨0x11c, 1, 4, [⟨0, 16, .ro, 0⟩, ⟨31, 1, .w1c, 0⟩]⟩, -- DMA_RESENT_HI
   ⟨0x120, 1, 4, [⟨0, 32, .ro, 0⟩]⟩, -- DMA_CHUNK_FAIL_LO
   ⟨0x124, 1, 4, [⟨0, 16, .ro, 0⟩, ⟨31, 1, .w1c, 0⟩]⟩, -- DMA_CHUNK_FAIL_HI
   ⟨0x128, 1, 4, [⟨0, 32, .ro, 0⟩]⟩, -- DMA_LATE_ACK_LO
   ⟨0x12c, 1, 4, [⟨0, 16, .ro, 0⟩, ⟨31, 1, .w1c, 0⟩]⟩ -- DMA_LATE_ACK_HI
  ]

/-- The registers of a MEM page. -/
def regsMem : List RegDef :=
  [
   ⟨0x100, 1, 4, [⟨0, 4, .rw, 4⟩, ⟨4, 1, .rw, 1⟩, ⟨8, 8, .rw, 24⟩, ⟨16, 2, .ro, 0⟩]⟩, -- MEM_CFG
   ⟨0x104, 3, 4, [⟨0, 3, .ro, 0⟩, ⟨4, 8, .ro, 0⟩, ⟨12, 3, .ro, 0⟩, ⟨15, 1, .ro, 0⟩, ⟨16, 16, .ro, 0⟩]⟩, -- MEM_STACK
   ⟨0x110, 1, 4, [⟨0, 10, .rw, 0⟩, ⟨10, 10, .rw, 0⟩, ⟨31, 1, .rw1s, 0⟩]⟩, -- MEM_ZERO_CTRL
   ⟨0x114, 1, 4, [⟨0, 1, .ro, 0⟩, ⟨1, 1, .w1c, 0⟩, ⟨16, 10, .ro, 0⟩]⟩, -- MEM_ZERO_STATUS
   ⟨0x150, 1, 4, [⟨0, 2, .ro, 0⟩, ⟨2, 4, .ro, 0⟩, ⟨6, 6, .ro, 0⟩, ⟨12, 1, .ro, 0⟩, ⟨13, 1, .ro, 0⟩]⟩, -- MEM_ERR_LOC
   ⟨0x154, 1, 4, [⟨0, 22, .ro, 0⟩]⟩, -- MEM_ERR_ROW
   ⟨0x158, 1, 4, [⟨0, 6, .ro, 0⟩, ⟨6, 1, .ro, 0⟩, ⟨31, 1, .w1c, 0⟩]⟩, -- MEM_REFUSE_PART
   ⟨0x15c, 2, 4, [⟨0, 32, .ro, 0⟩]⟩, -- MEM_REFUSE_ADDR
   ⟨0x170, 1, 4, [⟨0, 2, .rw, 0⟩, ⟨2, 4, .rw, 0⟩, ⟨6, 8, .rw, 0⟩]⟩, -- MEM_REMAP_SEL
   ⟨0x174, 1, 4, [⟨0, 22, .ro, 0⟩, ⟨29, 2, .ro, 0⟩, ⟨31, 1, .ro, 0⟩]⟩, -- MEM_REMAP_ENTRY
   ⟨0x178, 1, 4, [⟨0, 9, .ro, 0⟩]⟩, -- MEM_REMAP_COUNT
   ⟨0x400, 256, 4, [⟨0, 10, .rw, 0⟩, ⟨10, 10, .rw, 0⟩]⟩, -- MEM_RANGE
   ⟨0x120, 1, 4, [⟨0, 32, .ro, 0⟩]⟩, -- MEM_CE_LO
   ⟨0x124, 1, 4, [⟨0, 16, .ro, 0⟩, ⟨31, 1, .w1c, 0⟩]⟩, -- MEM_CE_HI
   ⟨0x128, 1, 4, [⟨0, 32, .ro, 0⟩]⟩, -- MEM_UE_LO
   ⟨0x12c, 1, 4, [⟨0, 16, .ro, 0⟩, ⟨31, 1, .w1c, 0⟩]⟩, -- MEM_UE_HI
   ⟨0x130, 1, 4, [⟨0, 32, .ro, 0⟩]⟩, -- MEM_PATROL_UE_LO
   ⟨0x134, 1, 4, [⟨0, 16, .ro, 0⟩, ⟨31, 1, .w1c, 0⟩]⟩, -- MEM_PATROL_UE_HI
   ⟨0x138, 1, 4, [⟨0, 32, .ro, 0⟩]⟩, -- MEM_REMAP_LO
   ⟨0x13c, 1, 4, [⟨0, 16, .ro, 0⟩, ⟨31, 1, .w1c, 0⟩]⟩ -- MEM_REMAP_HI
  ] ++
  [
   ⟨0x140, 1, 4, [⟨0, 32, .ro, 0⟩]⟩, -- MEM_REFUSED_LO
   ⟨0x144, 1, 4, [⟨0, 16, .ro, 0⟩, ⟨31, 1, .w1c, 0⟩]⟩ -- MEM_REFUSED_HI
  ]

/-- The registers of a D2D page. -/
def regsD2d : List RegDef :=
  [
   ⟨0x100, 1, 4, [⟨0, 2, .ro, 0⟩, ⟨4, 4, .ro, 0⟩, ⟨8, 8, .ro, 0⟩]⟩, -- D2D_STATE
   ⟨0x110, 1, 4, [⟨0, 32, .ro, 0⟩]⟩, -- D2D_CRC_LO
   ⟨0x114, 1, 4, [⟨0, 16, .ro, 0⟩, ⟨31, 1, .w1c, 0⟩]⟩, -- D2D_CRC_HI
   ⟨0x118, 1, 4, [⟨0, 32, .ro, 0⟩]⟩, -- D2D_REPLAY_LO
   ⟨0x11c, 1, 4, [⟨0, 16, .ro, 0⟩, ⟨31, 1, .w1c, 0⟩]⟩ -- D2D_REPLAY_HI
  ]

/-- The registers of a AGT page. -/
def regsAgt : List RegDef :=
  [
   ⟨0x100, 1, 4, [⟨0, 4, .rw, 6⟩, ⟨4, 12, .rw, 1000⟩]⟩, -- AGT_CFG
   ⟨0x104, 1, 4, [⟨0, 1, .ro, 0⟩, ⟨1, 1, .ro, 0⟩, ⟨2, 1, .ro, 0⟩, ⟨8, 4, .ro, 1⟩, ⟨12, 4, .ro, 1⟩]⟩, -- AGT_STATE
   ⟨0x108, 1, 4, [⟨0, 32, .ro, 0⟩]⟩, -- AGT_COORD
   ⟨0x10c, 2, 4, [⟨0, 32, .ro, 0⟩]⟩, -- AGT_MGR
   ⟨0x114, 1, 4, [⟨0, 7, .ro, 0⟩, ⟨8, 7, .w1cv, 0⟩]⟩, -- AGT_STORE
   ⟨0x118, 1, 4, [⟨0, 7, .ro, 0⟩, ⟨8, 8, .ro, 0⟩]⟩, -- AGT_EVQ
   ⟨0x180, 1, 4, [⟨0, 5, .rw, 0⟩, ⟨8, 6, .rw, 0⟩]⟩, -- AGT_TEL_SEL
   ⟨0x184, 2, 4, [⟨0, 32, .ro, 0⟩]⟩, -- AGT_TEL_DATA
   ⟨0x120, 1, 4, [⟨0, 32, .ro, 0⟩]⟩, -- REQ_LO
   ⟨0x124, 1, 4, [⟨0, 16, .ro, 0⟩, ⟨31, 1, .w1c, 0⟩]⟩, -- REQ_HI
   ⟨0x128, 1, 4, [⟨0, 32, .ro, 0⟩]⟩, -- AUTH_FAIL_LO
   ⟨0x12c, 1, 4, [⟨0, 16, .ro, 0⟩, ⟨31, 1, .w1c, 0⟩]⟩, -- AUTH_FAIL_HI
   ⟨0x130, 1, 4, [⟨0, 32, .ro, 0⟩]⟩, -- STALE_LO
   ⟨0x134, 1, 4, [⟨0, 16, .ro, 0⟩, ⟨31, 1, .w1c, 0⟩]⟩, -- STALE_HI
   ⟨0x138, 1, 4, [⟨0, 32, .ro, 0⟩]⟩, -- REPLAY_LO
   ⟨0x13c, 1, 4, [⟨0, 16, .ro, 0⟩, ⟨31, 1, .w1c, 0⟩]⟩, -- REPLAY_HI
   ⟨0x140, 1, 4, [⟨0, 32, .ro, 0⟩]⟩, -- DROP_STORE_LO
   ⟨0x144, 1, 4, [⟨0, 16, .ro, 0⟩, ⟨31, 1, .w1c, 0⟩]⟩, -- DROP_STORE_HI
   ⟨0x148, 1, 4, [⟨0, 32, .ro, 0⟩]⟩, -- UNSUPPORTED_LO
   ⟨0x14c, 1, 4, [⟨0, 16, .ro, 0⟩, ⟨31, 1, .w1c, 0⟩]⟩ -- UNSUPPORTED_HI
  ]

/-- The registers of a LNK page. -/
def regsLnk : List RegDef :=
  [
   ⟨0x100, 1, 4, [⟨0, 3, .wo, 0⟩]⟩, -- LNK_CMD
   ⟨0x104, 1, 4, [⟨0, 4, .ro, 0⟩, ⟨4, 4, .ro, 0⟩, ⟨8, 1, .ro, 0⟩, ⟨9, 1, .ro, 0⟩, ⟨10, 1, .ro, 0⟩, ⟨11, 1, .ro, 0⟩, ⟨12, 4, .ro, 0⟩, ⟨16, 2, .ro, 0⟩, ⟨18, 5, .ro, 0⟩, ⟨23, 1, .ro, 0⟩]⟩, -- LNK_STATE
   ⟨0x108, 1, 4, [⟨0, 1, .ro, 0⟩, ⟨1, 1, .ro, 0⟩, ⟨2, 1, .ro, 0⟩]⟩, -- LNK_QUAL
   ⟨0x10c, 1, 4, [⟨0, 5, .ro, 0⟩, ⟨5, 2, .ro, 0⟩, ⟨7, 1, .ro, 0⟩, ⟨8, 4, .ro, 0⟩, ⟨12, 4, .ro, 0⟩, ⟨16, 4, .ro, 0⟩]⟩, -- LNK_PARTNER
   ⟨0x110, 4, 4, [⟨0, 32, .ro, 0⟩]⟩, -- LNK_PARTNER_SER
   ⟨0x120, 8, 4, [⟨0, 1, .ro, 0⟩, ⟨1, 1, .ro, 0⟩, ⟨2, 3, .ro, 0⟩, ⟨5, 3, .ro, 0⟩, ⟨8, 24, .ro, 0⟩]⟩, -- LNK_LANE
   ⟨0x140, 4, 4, [⟨0, 32, .ro, 0⟩]⟩, -- LNK_FCNT
   ⟨0x150, 1, 4, [⟨0, 32, .ro, 0⟩]⟩, -- LNK_FEC_CW_LO
   ⟨0x154, 1, 4, [⟨0, 16, .ro, 0⟩, ⟨31, 1, .w1c, 0⟩]⟩, -- LNK_FEC_CW_HI
   ⟨0x158, 1, 4, [⟨0, 32, .ro, 0⟩]⟩, -- LNK_FEC_CORR_LO
   ⟨0x15c, 1, 4, [⟨0, 16, .ro, 0⟩, ⟨31, 1, .w1c, 0⟩]⟩, -- LNK_FEC_CORR_HI
   ⟨0x160, 1, 4, [⟨0, 32, .ro, 0⟩]⟩, -- LNK_FEC_UNCORR_LO
   ⟨0x164, 1, 4, [⟨0, 16, .ro, 0⟩, ⟨31, 1, .w1c, 0⟩]⟩, -- LNK_FEC_UNCORR_HI
   ⟨0x168, 1, 4, [⟨0, 32, .ro, 0⟩]⟩, -- LNK_TAG_FAIL_LO
   ⟨0x16c, 1, 4, [⟨0, 16, .ro, 0⟩, ⟨31, 1, .w1c, 0⟩]⟩, -- LNK_TAG_FAIL_HI
   ⟨0x170, 1, 4, [⟨0, 32, .ro, 0⟩]⟩, -- LNK_FRAMES_RX_LO
   ⟨0x174, 1, 4, [⟨0, 16, .ro, 0⟩, ⟨31, 1, .w1c, 0⟩]⟩, -- LNK_FRAMES_RX_HI
   ⟨0x178, 1, 4, [⟨0, 32, .ro, 0⟩]⟩, -- LNK_FRAMING_LO
   ⟨0x17c, 1, 4, [⟨0, 16, .ro, 0⟩, ⟨31, 1, .w1c, 0⟩]⟩ -- LNK_FRAMING_HI
  ]

/-- The registers of a OPT page. -/
def regsOpt : List RegDef :=
  [
   ⟨0x100, 1, 4, [⟨0, 1, .rw, 1⟩]⟩, -- OPT_CTRL
   ⟨0x104, 1, 4, [⟨0, 1, .ro, 0⟩, ⟨1, 1, .ro, 1⟩, ⟨8, 8, .ro, 0⟩]⟩, -- OPT_STATUS
   ⟨0x108, 1, 4, [⟨0, 16, .ro, 0⟩]⟩, -- OPT_LASER_PWR
   ⟨0x10c, 4, 4, [⟨0, 16, .ro, 0⟩]⟩ -- OPT_RX_PWR
  ]

/-- The registers of a FLT page. -/
def regsFlt : List RegDef :=
  [
   ⟨0x100, 1, 4, [⟨0, 16, .rw, 1000⟩, ⟨16, 1, .rw, 0⟩]⟩, -- FLT_CFG
   ⟨0x104, 1, 4, [⟨0, 3, .ro, 0⟩, ⟨8, 8, .ro, 0⟩, ⟨16, 2, .ro, 0⟩]⟩, -- FLT_STATE
   ⟨0x108, 1, 4, [⟨0, 12, .ro, 0⟩, ⟨12, 8, .ro, 0⟩, ⟨20, 4, .ro, 0⟩, ⟨24, 1, .ro, 0⟩]⟩, -- FLT_FATAL
   ⟨0x10c, 2, 4, [⟨0, 32, .ro, 0⟩]⟩, -- FLT_FATAL_TIME
   ⟨0x114, 1, 4, [⟨0, 10, .rw, 100⟩, ⟨10, 1, .rw, 1⟩, ⟨11, 3, .ro, 0⟩]⟩, -- FLT_WDOG
   ⟨0x118, 1, 4, [⟨0, 8, .wo, 0⟩]⟩, -- FLT_KICK
   ⟨0x11c, 1, 4, [⟨0, 9, .ro, 0⟩]⟩, -- FLT_LOG_STATUS
   ⟨0x120, 1, 4, [⟨0, 1, .wo, 0⟩]⟩, -- FLT_LOG_POP
   ⟨0x124, 2, 4, [⟨0, 32, .ro, 0⟩]⟩, -- FLT_LOG_HEAD01
   ⟨0x12c, 1, 4, [⟨0, 12, .ro, 0⟩, ⟨12, 8, .ro, 0⟩, ⟨20, 4, .ro, 0⟩, ⟨24, 3, .ro, 0⟩, ⟨27, 3, .ro, 0⟩, ⟨30, 1, .ro, 0⟩, ⟨31, 1, .ro, 0⟩]⟩, -- FLT_LOG_HEAD2
   ⟨0x130, 1, 4, [⟨0, 6, .ro, 0⟩, ⟨6, 1, .ro, 0⟩, ⟨7, 3, .ro, 0⟩, ⟨10, 1, .ro, 0⟩]⟩, -- FLT_LOG_HEAD3
   ⟨0x150, 4, 4, [⟨0, 2, .ro, 0⟩, ⟨2, 2, .ro, 0⟩, ⟨4, 2, .ro, 0⟩, ⟨6, 2, .ro, 0⟩, ⟨8, 2, .ro, 0⟩, ⟨10, 2, .ro, 0⟩, ⟨12, 2, .ro, 0⟩, ⟨14, 2, .ro, 0⟩, ⟨16, 2, .ro, 0⟩, ⟨18, 2, .ro, 0⟩, ⟨20, 2, .ro, 0⟩, ⟨22, 2, .ro, 0⟩, ⟨24, 2, .ro, 0⟩, ⟨26, 2, .ro, 0⟩, ⟨28, 2, .ro, 0⟩, ⟨30, 2, .ro, 0⟩]⟩, -- FLT_PART
   ⟨0x134, 1, 4, [⟨0, 32, .ro, 0⟩]⟩, -- FLT_LOG_LOST_LO
   ⟨0x138, 1, 4, [⟨0, 16, .ro, 0⟩, ⟨31, 1, .w1c, 0⟩]⟩, -- FLT_LOG_LOST_HI
   ⟨0x13c, 1, 4, [⟨0, 32, .ro, 0⟩]⟩, -- FLT_PART_CLR_LO
   ⟨0x140, 1, 4, [⟨0, 16, .ro, 0⟩, ⟨31, 1, .w1c, 0⟩]⟩ -- FLT_PART_CLR_HI
  ]

/-- The registers of a SEC page. -/
def regsSec : List RegDef :=
  [
   ⟨0x100, 1, 4, [⟨0, 2, .ro, 0⟩, ⟨2, 2, .ro, 0⟩, ⟨4, 1, .ro, 0⟩, ⟨5, 1, .ro, 0⟩, ⟨6, 1, .ro, 0⟩, ⟨8, 7, .ro, 0⟩]⟩, -- SEC_STATUS
   ⟨0x104, 2, 4, [⟨0, 32, .ro, 0⟩]⟩, -- SEC_CONF
   ⟨0x10c, 1, 4, [⟨0, 1, .rw1s, 0⟩, ⟨1, 1, .rw1s, 0⟩]⟩, -- SEC_DBG_CTRL
   ⟨0x110, 8, 4, [⟨0, 32, .ro, 0⟩]⟩, -- SEC_DBG_CHAL
   ⟨0x200, 64, 4, [⟨0, 16, .ro, 0⟩, ⟨16, 1, .ro, 0⟩, ⟨17, 1, .ro, 0⟩]⟩, -- SEC_WKEY
   ⟨0x300, 1, 4, [⟨0, 32, .ro, 0⟩]⟩, -- UNWRAP_FAIL_LO
   ⟨0x304, 1, 4, [⟨0, 16, .ro, 0⟩, ⟨31, 1, .w1c, 0⟩]⟩, -- UNWRAP_FAIL_HI
   ⟨0x308, 1, 4, [⟨0, 32, .ro, 0⟩]⟩, -- IMPORT_AUTH_FAIL_LO
   ⟨0x30c, 1, 4, [⟨0, 16, .ro, 0⟩, ⟨31, 1, .w1c, 0⟩]⟩, -- IMPORT_AUTH_FAIL_HI
   ⟨0x310, 1, 4, [⟨0, 32, .ro, 0⟩]⟩, -- DEBUG_REFUSED_LO
   ⟨0x314, 1, 4, [⟨0, 16, .ro, 0⟩, ⟨31, 1, .w1c, 0⟩]⟩ -- DEBUG_REFUSED_HI
  ]

/-- The registers of a PCI page. -/
def regsPci : List RegDef :=
  [
   ⟨0x100, 1, 4, [⟨0, 1, .ro, 0⟩, ⟨1, 3, .ro, 0⟩, ⟨4, 3, .ro, 0⟩, ⟨7, 1, .ro, 1⟩, ⟨8, 1, .ro, 0⟩, ⟨9, 2, .ro, 0⟩, ⟨11, 1, .ro, 0⟩, ⟨12, 1, .ro, 1⟩, ⟨13, 1, .ro, 0⟩]⟩, -- PCI_STATUS
   ⟨0x104, 1, 4, [⟨0, 16, .ro, 0⟩]⟩, -- PCI_PROXY
   ⟨0x110, 64, 4, [⟨0, 1, .ro, 0⟩, ⟨1, 1, .ro, 0⟩, ⟨2, 1, .ro, 0⟩, ⟨3, 1, .ro, 0⟩]⟩, -- PCI_VF
   ⟨0x300, 1, 4, [⟨0, 32, .ro, 0⟩]⟩, -- BAR2_REFUSED_LO
   ⟨0x304, 1, 4, [⟨0, 16, .ro, 0⟩, ⟨31, 1, .w1c, 0⟩]⟩, -- BAR2_REFUSED_HI
   ⟨0x308, 1, 4, [⟨0, 32, .ro, 0⟩]⟩, -- BAR2_FAILED_LO
   ⟨0x30c, 1, 4, [⟨0, 16, .ro, 0⟩, ⟨31, 1, .w1c, 0⟩]⟩, -- BAR2_FAILED_HI
   ⟨0x310, 1, 4, [⟨0, 32, .ro, 0⟩]⟩, -- MSIX_DROPPED_LO
   ⟨0x314, 1, 4, [⟨0, 16, .ro, 0⟩, ⟨31, 1, .w1c, 0⟩]⟩, -- MSIX_DROPPED_HI
   ⟨0x318, 1, 4, [⟨0, 32, .ro, 0⟩]⟩, -- RELAY_FAIL_LO
   ⟨0x31c, 1, 4, [⟨0, 16, .ro, 0⟩, ⟨31, 1, .w1c, 0⟩]⟩ -- RELAY_FAIL_HI
  ]

/-- The registers of a SMT page. -/
def regsSmt : List RegDef :=
  [
   ⟨0x100, 1, 4, [⟨0, 2, .ro, 0⟩, ⟨2, 1, .rw, 0⟩]⟩, -- SMT_CTRL
   ⟨0x104, 1, 4, [⟨0, 4, .ro, 0⟩, ⟨4, 3, .ro, 0⟩]⟩, -- SMT_STATE
   ⟨0x108, 1, 4, [⟨0, 32, .ro, 0⟩]⟩, -- SMT_TERM
   ⟨0x10c, 1, 4, [⟨0, 4, .ro, 0⟩, ⟨4, 4, .ro, 0⟩]⟩, -- SMT_HB
   ⟨0x110, 1, 4, [⟨0, 1, .rw1s, 0⟩, ⟨1, 1, .ro, 0⟩, ⟨2, 1, .w1c, 0⟩, ⟨3, 1, .ro, 0⟩]⟩, -- SMT_GEN
   ⟨0x114, 1, 4, [⟨0, 32, .ro, 0⟩]⟩, -- SMT_GEN_TIME
   ⟨0x118, 1, 4, [⟨0, 12, .rw, 100⟩, ⟨12, 12, .rw, 2048⟩]⟩, -- SMT_CFG
   ⟨0x120, 2, 4, [⟨0, 32, .ro, 0⟩]⟩, -- SMT_SEQ
   ⟨0x128, 1, 4, [⟨0, 32, .ro, 0⟩]⟩, -- HB_MISS_LO
   ⟨0x12c, 1, 4, [⟨0, 16, .ro, 0⟩, ⟨31, 1, .w1c, 0⟩]⟩, -- HB_MISS_HI
   ⟨0x130, 1, 4, [⟨0, 32, .ro, 0⟩]⟩, -- MIRROR_RETRY_LO
   ⟨0x134, 1, 4, [⟨0, 16, .ro, 0⟩, ⟨31, 1, .w1c, 0⟩]⟩, -- MIRROR_RETRY_HI
   ⟨0x138, 1, 4, [⟨0, 32, .ro, 0⟩]⟩, -- TAKEOVER_LO
   ⟨0x13c, 1, 4, [⟨0, 16, .ro, 0⟩, ⟨31, 1, .w1c, 0⟩]⟩, -- TAKEOVER_HI
   ⟨0x140, 1, 4, [⟨0, 32, .ro, 0⟩]⟩, -- ROUTE_CHANGES_LO
   ⟨0x144, 1, 4, [⟨0, 16, .ro, 0⟩, ⟨31, 1, .w1c, 0⟩]⟩, -- ROUTE_CHANGES_HI
   ⟨0x148, 1, 4, [⟨0, 32, .ro, 0⟩]⟩, -- DIRECTED_LO
   ⟨0x14c, 1, 4, [⟨0, 16, .ro, 0⟩, ⟨31, 1, .w1c, 0⟩]⟩ -- DIRECTED_HI
  ]

/-- The registers of a RST page. -/
def regsRst : List RegDef :=
  [
   ⟨0x100, 1, 4, [⟨0, 10, .rw1s, 0⟩, ⟨16, 1, .rw1s, 0⟩, ⟨17, 1, .rw1s, 0⟩, ⟨24, 8, .wo, 0⟩]⟩, -- RST_CTRL
   ⟨0x104, 1, 4, [⟨0, 10, .ro, 0⟩]⟩, -- RST_STATUS
   ⟨0x108, 1, 4, [⟨0, 2, .ro, 0⟩, ⟨2, 2, .ro, 0⟩]⟩ -- RST_CAUSE
  ]

/-- The registers of a TIM page. -/
def regsTim : List RegDef :=
  [
   ⟨0x100, 1, 4, [⟨0, 1, .ro, 0⟩, ⟨1, 1, .ro, 0⟩, ⟨2, 1, .ro, 0⟩, ⟨3, 1, .w1c, 0⟩]⟩, -- TIM_STATUS
   ⟨0x104, 1, 4, [⟨0, 32, .ro, 0⟩]⟩, -- TIM_OFF
   ⟨0x108, 2, 4, [⟨0, 32, .ro, 0⟩]⟩ -- TIM_GTIME
  ]

/-- The registers of a MBX page. -/
def regsMbx : List RegDef :=
  [
   ⟨0x100, 1, 4, [⟨0, 2, .ro, 0⟩, ⟨2, 2, .ro, 0⟩, ⟨4, 1, .ro, 0⟩, ⟨8, 11, .rw, 0⟩, ⟨19, 1, .rw, 0⟩, ⟨20, 1, .rw, 0⟩, ⟨24, 8, .ro, 0⟩]⟩, -- MBX_CFG
   ⟨0x104, 2, 12, [⟨0, 1, .ro, 0⟩, ⟨1, 1, .w1c, 0⟩, ⟨2, 1, .w1c, 0⟩, ⟨8, 8, .ro, 0⟩, ⟨16, 8, .ro, 0⟩]⟩, -- MBX_STATUS
   ⟨0x108, 2, 12, [⟨0, 1, .wo, 0⟩]⟩, -- MBX_SEND
   ⟨0x10c, 2, 12, [⟨0, 1, .ro, 0⟩]⟩ -- MBX_DONE
  ]

/-- The block-specific registers of a page type. -/
def PType.regs : PType → List RegDef
  | .clk => regsClk
  | .pwr => regsPwr
  | .rtr => regsRtr
  | .msf => regsMsf
  | .trn => regsTrn
  | .vcx => regsVcx
  | .crn => regsCrn
  | .dma => regsDma
  | .mem => regsMem
  | .d2d => regsD2d
  | .agt => regsAgt
  | .lnk => regsLnk
  | .opt => regsOpt
  | .flt => regsFlt
  | .sec => regsSec
  | .pci => regsPci
  | .smt => regsSmt
  | .rst => regsRst
  | .tim => regsTim
  | .mbx => regsMbx

/-- Registers of the PWR page that only PD0 has (R489): offsets 0x200 and above. -/
def Page.hasOff (p : Page) (off : Nat) : Bool :=
  match p.ptype with
  | .pwr => decide (off < 0x200) || decide (p.die = pd0)
  | .rtr => decide (off < 0x200) || decide (p.die.val < 8)
  | _ => true

/-- The register a page offset lies on, none where no register table defines it (R665). -/
def Page.reg? (p : Page) (off : Nat) : Option RegDef :=
  if !(p.hasOff off) then none else
  ((if off < 0x100 then regsHdr else p.ptype.regs).find?
    (fun r => decide (r.off ≤ off) && decide ((off - r.off) % r.stride = 0) && decide ((off - r.off) / r.stride < r.count)))

end Sys2Proof.Machine
end

