-- ==== Sys2Proof/Machine/State.lean ====
section
/-! DEFINITION. The state of one GY880 package as plain data, the reasons a command can stop, and the state at reset. Every collection is a list in canonical
form (Store): keys strictly rising, no entry equal to what an unlisted key reads as. -/

namespace Sys2Proof.Machine

/-- No command ends in a fault: every fault of the part is state (13 R491), and every failed access has an outcome the
spec states (NOTES.md, '## Stops'). -/
inductive Fault where
  deriving DecidableEq, Repr

/-- Refusals. -/
inductive Refusal where
  /-- Raised by an arm of `exec` that has no meaning yet, with the row's mnemonic. Safe: the model stops. -/
  | notModelled (mnemonic : String)
  deriving DecidableEq, Repr

/-- One package. -/
structure State where
  /-- Commands that wait, first in, first out. -/
  pending : List Instr
  /-- What the package has sent or shown outward, newest first (log entry 7). -/
  out : List Output := []
  /-- The model's own: the number of free values taken (log entry 6). -/
  freeCtr : Nat := 0
  /-- The management domain is powered (15 R560, 12 R484). -/
  mgmtOn : Bool := false
  /-- Fuses: variant, serial, lifecycle, secrets, trims (00 R1, 12 R453, 14 R531–R537; log entry 4). -/
  fuses : Fuses := {}
  /-- Straps as sampled at bring-up (00 R11, 18 R658). -/
  straps : Straps := {}
  /-- The position of the package on its board (00 R5). -/
  pos : Nat := 0
  /-- Every register word of the 200 pages that does not read at its reset value, by BAR0 offset (19 R663–R675). -/
  regs : Store Word := []
  /-- _HI latches by requester and pair (19 R672). -/
  latches : Store Word := []
  /-- GTIME of each die (17 R626). -/
  gtime : Store (BitVec 64) := []
  /-- FCLK cycles of each compute die, by die (05 R185). -/
  fclk : Store (BitVec 64) := []
  /-- LPDDR6 bytes of the eight dies and Tarn bytes (06 R229–R231, 03 R94). -/
  mem : Store Byte := []
  tarn : Store Byte := []
  /-- Corrected errors by physical row (06 R248). -/
  rowErrs : Store Nat := []
  /-- Remap entries in order of use; those the management complex keeps across a core reset; the repair log in flash (06 R248–R250, R263). -/
  remaps : List Remap := []
  savedRemaps : List Remap := []
  repairLog : List RepairEntry := []
  /-- Sectors that a read has found uncorrectable and that nothing has written whole since (06 R246, R249). -/
  badSectors : List BadSector := []
  /-- Dies whose memory is fenced (06 R260). -/
  memFenced : List CDie := []
  /-- Granules of memory that have READY stacks behind them (06 R232, 15 R571). -/
  mappedGran : Store Nat := []
  /-- Zeroing orders in progress: memory by die, Tarn by 8 + die (06 R255, 03 R95). -/
  zeroOrders : Store (Nat × Nat) := []
  /-- The Massif arrays: sweeps held, planes, accumulators, tiers, repair (03, 04). -/
  arrays : Store ArraySt := []
  /-- Suspect array lines in the repair data that firmware carries into the next bring-up: die, column?, physical index (03 R89). -/
  repairLines : List (CDie × Bool × Nat) := []
  /-- Command queues (05 R194–R204). -/
  queues : Store QueueSt := []
  /-- Cairns, and tracking slots of arrival times (05 R218, R223). -/
  cairns : Store Cairn := []
  tracks : Store Track := []
  /-- Vector cores, and dispatches that run (05 R185–R193, R205–R207). -/
  cores : Store CoreSt := []
  dispatches : List Dispatch := []
  /-- Descriptors the DMA engines hold (05 R208–R216). -/
  dmaRuns : List DmaRun := []
  /-- Requests waiting or outstanding, windows, response space in use, next XIDs (08 R337–R346). -/
  requests : List Req := []
  windows : List Window := []
  respUse : Store Nat := []
  nextXid : Store Nat := []
  /-- The model's own numbering of runs and BAR2 accesses. -/
  nextId : Nat := 0
  /-- Partitions (14 R522–R528), their content keys CURRENT and PREVIOUS (14 R547). -/
  parts : Store (Option PartSt) := []
  wkeys : Store (Option WKey) := []
  /-- The granule a distribution is staged in (15 R579). -/
  staging : Option (CDie × Nat) := none
  /-- The fault log, oldest first; times of recoveries in the last hour; records and partitions that wait out their quiet period (13 R500–R509, R520). -/
  fltLog : List LogEntry := []
  recoveryTimes : List (BitVec 64) := []
  quietPages : List Nat := []
  quietParts : List Part := []
  /-- Dies that are fenced; dies whose core rail is lost (01 R44, 12 R486). -/
  fencedDies : List Die := []
  lostRails : List Die := []
  /-- THERMTRIP_N is asserted (18 R657). -/
  thermtrip : Bool := false
  /-- Mailbox channels (16 R599–R605). -/
  chans : Store ChanSt := []
  /-- PCIe functions, BAR2 accesses, host writes held behind them (16 R587–R593). -/
  fns : Store FnCfg := []
  bar2 : List Bar2 := []
  held : List HeldWrite := []
  /-- Relay frames of position 0, their counters, board sessions by position (16 R597, R598). -/
  relayOut : List RelayOut := []
  relayCtr : Store Nat := []
  boardSess : Store (Option Session) := []
  /-- The I3C address, the EID, the PLDM sensors' last readings (16 R607, R608). -/
  i3c : Option (BitVec 7) := none
  eid : BitVec 8 := 0
  sensors : Store Nat := []
  /-- Fabric agents: sessions, events (10 R376–R398). -/
  agents : Store AgentSt := []
  /-- Ports, packets held by the routers, routing tables by die and epoch, replays by die-to-die link, transfer timestamps (07, 08, 17 R635). -/
  ports : Store PortSt := []
  transits : List Transit := []
  /-- The sending ends of the die-to-die links, by sender × 16 + receiver; space reserved for packets that cross between the port dies (07 R298, 08 R314,
  R328). -/
  d2d : Store D2dSt := []
  reserved : List CrossRes := []
  tables : Store Word := []
  d2dRuns : Store Nat := []
  xfers : Store XferSt := []
  /-- Optical engines at 95 °C (12 R477). -/
  hotEngines : List OptPort := []
  /-- Bring-up, the plan in use and the plan it came up with, the largest plan sequence seen, the firmware digest and components (15, 00 R9). -/
  boot : BootSt := {}
  plan : List Byte := []
  bootPlan : List Byte := []
  maxPlanSeq : Nat := 0
  fwDigest : BitVec 512 := 0
  fwComps : List (BitVec 512) := []
  /-- The flash: the image at 0, the plan at 16 MiB (15 R564, R565). -/
  flash : Store Byte := []
  /-- Firmware is staged; the core code the management complex holds and the code staged for it; the recovery loader's image length; the distribution
  held (15 R566, R578–R583, 17 R640). -/
  fwStaged : Bool := false
  codeHeld : BitVec 512 := 0
  codeStaged : Option (BitVec 512) := none
  rcv : Option Nat := none
  dist : Option DistSt := none
  /-- The management complex is in reset (17 R678). -/
  mcReset : Bool := false
  /-- Counters of debug tokens by credential, and unlocks since power-on (14 R550, 16 R606). -/
  dbgCounters : Store Nat := []
  unlocks : Nat := 0
  /-- Limit loops and calibration by die, and the package's (12 R456–R473). -/
  power : Store PowerSt := []
  pkgPower : PkgPower := {}
  /-- The ridge line and GTIME corrections (17 R629–R634). -/
  ridge : RidgeSt := {}
  /-- The Summit manager, the session of the Summit endpoint, the term granted to a claimant and whom (11). -/
  smt : SummitSt := {}
  pairSess : Option Session := none
  heldTerm : BitVec 32 := 0
  heldBy : BitVec 128 := 0
  deriving DecidableEq, Repr

/-- The machine at reset: nothing is powered, every register at its reset value (`regReset`), every store empty, no command waiting. MGMT_POWER_ON starts it
(15 R560; log entry 13). -/
def State.reset : State := { pending := [] }

end Sys2Proof.Machine
end

