-- ==== Sys2Proof/Machine/Regs.lean ====
section
/-! DEFINITION. Reading and writing register words and fields, the access codes and the counters (00 R14, 03 R141, 19 R666–R672). -/

namespace Sys2Proof.Machine

/-- BLK_CAP.VF_PART: the doorbell, state and gate registers of VCX appear in VF windows; a VF's mailbox channel has no
page of its own (16 R589, R599, 19 R676). -/
def Page.vfPart (p : Page) : Bool :=
  match p.ptype with | .vcx => true | _ => false

/-- BLK_CAP.CONF_ZERO: pages with registers that read zero under confidential mode (14 R529, 19 R667). -/
def Page.confZero (p : Page) : Bool :=
  match p.ptype with
  | .msf | .vcx | .dma | .crn | .mem => true
  | .rtr => decide (p.die.val < 8)
  | _ => false

/-- Resets that depend on the page or on the fuses (R667 "as the page index states", 12 R489, 17 R643 and so on). -/
def pageReset (fz : Fuses) (p : Page) (off : Nat) : Nat :=
  let cd := decide (p.die.val < 8)
  match p.ptype, off with
  | _, 0x000 => p.instanceNo + 0x010000 + p.ptype.code <<< 24
  | _, 0x004 => p.nevt + p.hasInj.toNat <<< 5 + p.vfPart.toNat <<< 6 + p.confZero.toNat <<< 7 + p.ninst <<< 8
  | .clk, 0x100 => (if cd then 6 <<< 4 else 0) + (if p.die = pd0 then 8 else 0)
  | .pwr, 0x100 => if cd then fz.kMax <<< 1 + fz.kMax <<< 8 + 15 <<< 16 else 0
  | .pwr, 0x104 => if cd then 400 + 420 <<< 12 else 180 <<< 12
  | .pwr, 0x11C => if cd then 40 + 20 <<< 8 + 0xFF <<< 16 else 0
  | .pwr, 0x108 => if cd then 6 else 0
  | .pwr, 0x114 => fz.gain
  | .pwr, 0x200 => if p.die = pd0 then fz.pkgLimit else 0
  | .sec, 0x100 => fz.lifecycle
  | .lnk, 0x104 => match p with | .lnk q => q.val <<< 18 | _ => 0
  | .d2d, 0x100 => p.instanceNo <<< 4
  | _, _ => 0

/-- The offsets whose reset `pageReset` gives whole. -/
def pageResetAt (p : Page) (off : Nat) : Bool :=
  match p.ptype, off with
  | _, 0x000 | _, 0x004 | .clk, 0x100 | .pwr, 0x100 | .pwr, 0x104 | .pwr, 0x108 | .pwr, 0x114 | .pwr, 0x11C | .pwr, 0x200
  | .sec, 0x100 | .lnk, 0x104 | .d2d, 0x100 => true
  | _, _ => false

/-- The word a register definition resets to. -/
def RegDef.reset (r : RegDef) : Nat := r.fields.foldl (fun a f => a + f.reset <<< f.lsb) 0

/-- What the register word at a BAR0 offset holds at reset; zero where no register stands. -/
def regReset (fz : Fuses) (a : Nat) : Word :=
  match pageOf a with
  | none => 0
  | some p =>
    let off := a % 0x1000
    match p.reg? off with
    | none => 0
    | some r => BitVec.ofNat 32 (if pageResetAt p off then pageReset fz p off else r.reset)

/-- The register word at a BAR0 offset. -/
def State.rd (s : State) (a : Nat) : Word := Store.get (regReset s.fuses) s.regs a

/-- The state with the register word at a BAR0 offset replaced. -/
def State.wr (s : State) (a : Nat) (v : Word) : State := { s with regs := Store.set (regReset s.fuses) s.regs a v }

/-- The mask of a field. -/
def Field.mask (f : Field) : Word := BitVec.ofNat 32 ((2 ^ f.width - 1) <<< f.lsb)

/-- The value of a field of a word. -/
def getF (w : Word) (f : Field) : Nat := (w.toNat >>> f.lsb) % 2 ^ f.width

/-- A word with one field replaced. -/
def setF (w : Word) (f : Field) (v : Nat) : Word := (w &&& ~~~f.mask) ||| (BitVec.ofNat 32 (v <<< f.lsb) &&& f.mask)

/-- A field of a page. -/
def State.fld (s : State) (p : Page) (f : Field) : Nat := getF (s.rd (p.base + f.off)) f

/-- A one-bit field of a page. -/
def State.flag (s : State) (p : Page) (f : Field) : Bool := s.fld p f != 0

/-- The state with a field of a page replaced. -/
def State.setFld (s : State) (p : Page) (f : Field) (v : Nat) : State :=
  s.wr (p.base + f.off) (setF (s.rd (p.base + f.off)) f v)

/-- A count field raised by n, stopping at its largest value. -/
def State.incFld (s : State) (p : Page) (f : Field) (n : Nat) : State :=
  s.setFld p f (satAdd (2 ^ f.width - 1) (s.fld p f) n)

/-- The 48-bit count of the counter at `off` (R141). -/
def State.counter (s : State) (p : Page) (off : Nat) : Nat :=
  (s.rd (p.base + off)).toNat + ((s.rd (p.base + off + 4)).toNat % 0x10000) <<< 32

/-- The OVF bit of the counter at `off` (R141). -/
def State.counterOvf (s : State) (p : Page) (off : Nat) : Bool := (s.rd (p.base + off + 4)).toNat >>> 31 == 1

/-- Raise a counter by n: at all ones it stays and OVF is set (R141). -/
def State.bump (s : State) (p : Page) (off n : Nat) : State :=
  let c := satAdd 0xFFFFFFFFFFFF (s.counter p off) n
  let ovf := decide (c = 0xFFFFFFFFFFFF) || s.counterOvf p off
  (s.wr (p.base + off) (BitVec.ofNat 32 c)).wr (p.base + off + 4)
    (BitVec.ofNat 32 (c >>> 32 + (if ovf then 0x80000000 else 0)))

/-- Write a 64-bit value into a pair of plain words. -/
def State.wr64 (s : State) (p : Page) (off : Nat) (v : BitVec 64) : State :=
  (s.wr (p.base + off) (BitVec.ofNat 32 v.toNat)).wr (p.base + off + 4) (BitVec.ofNat 32 (v.toNat >>> 32))

/-- A pair of plain words as 64 bits. -/
def State.rd64 (s : State) (p : Page) (off : Nat) : Nat :=
  (s.rd (p.base + off)).toNat + (s.rd (p.base + off + 4)).toNat <<< 32

/-- One field under a write of `new` (R14, R671). -/
def FieldDef.write (f : FieldDef) (old new : Word) : Word :=
  let m : Word := BitVec.ofNat 32 ((2 ^ f.width - 1) <<< f.lsb)
  match f.acc with
  | .rw => (old &&& ~~~m) ||| (new &&& m)
  | .w1c => old &&& ~~~(new &&& m)
  | .w1cv => if new &&& m = 0 then old else old &&& ~~~m
  | .rw1s => old ||| (new &&& m)
  | .ro | .wo => old

/-- A register word under a write: each field by its access code, reserved bits ignored (R671). -/
def RegDef.write (r : RegDef) (old new : Word) : Word := r.fields.foldl (fun w f => f.write w new) old

/-- GTIME of a die. -/
def State.now (s : State) (d : Die) : BitVec 64 := Store.get (fun _ => 0) s.gtime d.val

/-- An output, newest first (log entry 7). -/
def State.emit (s : State) (o : Output) : State := { s with out := o :: s.out }

/-- The loop and calibration state of a die, or of the uncore (12 R456–R470). -/
def State.pwrSt (s : State) (c : Nat) : PowerSt := Store.get (fun _ => {}) s.power c
def State.setPwr (s : State) (c : Nat) (x : PowerSt) : State := { s with power := Store.set (fun _ => {}) s.power c x }

/-- A die is in core reset (17 R640). -/
def State.inReset (s : State) (d : Die) : Bool := (s.rd (Page.rst.base + F.RST_STATUS_IN_RESET.off)).getLsbD d.val

/-- FLT_STATE.STATE (13 R508). -/
def hubNORMAL : Nat := 0
def hubSAFE : Nat := 1
def hubRECOVERING : Nat := 2
def hubRECOVERED_IDLE : Nat := 3
def hubLOCKED : Nat := 4

/-- Pages of PD0's router, ports and agent data path (13 R510). -/
def Page.inPath (p : Page) : Bool :=
  p.die == pd0 && (match p.ptype with | .rtr | .lnk | .opt | .agt => true | _ => false)

/-- PD0's router, ports and agent data path are held while a recovery runs; its management domain is not (13 R510; log entry 46). -/
def State.pathHeld (s : State) (d : Die) : Bool := d == pd0 && s.fld .flt F.FLT_STATE_STATE == hubRECOVERING

/-- A page's block is held in core reset (17 R640, 13 R510). -/
def State.pageHeld (s : State) (p : Page) : Bool := s.inReset p.die || (p.inPath && s.pathHeld p.die)

/-- A free value: the next opaque constant (log entry 6). -/
def State.free (s : State) : BitVec 64 × State := (Config.freeValue s.freeCtr, { s with freeCtr := s.freeCtr + 1 })

/-- n free bytes. -/
def State.freeBytes (s : State) : Nat → List Byte × State
  | 0 => ([], s)
  | n + 1 => let (v, s1) := s.free; let (bs, s2) := s1.freeBytes n; (BitVec.ofNat 8 v.toNat :: bs, s2)

end Sys2Proof.Machine
end

