-- ==== Sys2Proof/Machine/Flags.lean ====
section
/-! DEFINITION. The event flags of a block page and its interrupt (17 R623–R625, 19 R668). -/

namespace Sys2Proof.Machine

/-- An event on line `j` of a page that has been taken before the next one (R623, R624, R668): nothing while ENABLE is 0;
with EVT_XMODE 1 an enabled event counts, and one that finds COUNT saturated sets its overrun bit. -/
def State.fireEvent (s : State) (p : Page) (j : Nat) : State :=
  if s.fld p F.BLK_CTRL_ENABLE = 0 then s else
  let bit : Field := ⟨F.EVT_STATUS_EVT.off, j, 1⟩
  let s1 := s.setFld p bit 1
  if s.fld p F.BLK_CTRL_EVT_XMODE = 1 && s.flag p ⟨F.EVT_ENABLE_EN.off, j, 1⟩ then
    if s.fld p F.EVT_COUNT_COUNT = 0xFFFF then s1.setFld p ⟨F.EVT_OVERRUN_OVR.off, j, 1⟩ 1
    else s1.setFld p F.EVT_COUNT_COUNT (s.fld p F.EVT_COUNT_COUNT + 1)
  else s1

/-- The pages interrupting the management complex: an enabled line whose EVT_STATUS bit is set (R668). -/
def State.irq (s : State) (p : Page) : Bool :=
  s.rd (p.base + F.EVT_STATUS_EVT.off) &&& s.rd (p.base + F.EVT_ENABLE_EN.off) != 0

end Sys2Proof.Machine
end

