-- ==== Sys2Proof/Machine/Transport.lean ====
section
/-! DEFINITION. Sources of REQ packets: requests, end-to-end windows, response space, fences and retirement (08 R333–R346). -/

namespace Sys2Proof.Machine

/-- RTR_WIN.PKTS as it acts (R350). -/
def winPkts (s : State) (c : CDie) : Nat :=
  let v := s.fld (.rtr (CDie.die c)) F.RTR_WIN_PKTS
  if v = 0 || 256 < v then 256 else v

/-- RTR_WIN.KIB in bytes as it acts (R350). -/
def winBytes (s : State) (c : CDie) : Nat :=
  let v := s.fld (.rtr (CDie.die c)) F.RTR_WIN_KIB
  1024 * (if v = 0 || 512 < v then 512 else v)

/-- Bytes a request reserves in its die's response buffer (R339). -/
def respNeed (p : Packet) : Nat :=
  if p.op = opREAD then 64 + 64 * (p.md.toNat % 64) else if p.op = opAMO then 64 else 0

/-- The size of a response buffer: 2 MiB (R339). -/
def respCap : Nat := 0x200000

/-- Bytes a request counts for in its window's rate: a READ for those it requests (R346). -/
def Packet.rateCost (p : Packet) : Nat := if p.op = opREAD then 64 * (p.md.toNat % 64) else p.size

/-- Sources run: not in the C4 safe state, its recovery, or locked (R349, 13 R507). -/
def State.sourcesRun (s : State) : Bool :=
  let h := s.fld .flt F.FLT_STATE_STATE
  h != hubSAFE && h != hubRECOVERING && h != hubLOCKED

/-- The window of a die for a destination die, none when it holds none. -/
def State.window? (s : State) (c : CDie) (dest : Nat) : Option Window :=
  s.windows.find? (fun w => w.die == c && w.dest == dest)

/-- Windows a die holds. -/
def State.winCount (s : State) (c : CDie) : Nat := (s.windows.filter (fun w => w.die == c)).length

/-- The state with one window changed. -/
def State.updWindow (s : State) (c : CDie) (dest : Nat) (f : Window → Window) : State :=
  { s with windows := s.windows.map (fun w => if w.die == c && w.dest == dest then f w else w) }

/-- RTR_WIN_USE follows the windows in use (R350). -/
def State.showWinUse (s : State) (c : CDie) : State :=
  s.setFld (.rtr (CDie.die c)) F.RTR_WIN_USE_ENTRIES (s.winCount c)

/-- A packet stamped by a die's source: EPO is the die's CUR, the CRC is filled in, ACTIVITY of that epoch sets (R333, R334,
R310), and the packet leaves the endpoint. -/
def State.sendFrom (s : State) (d : Die) (p : Packet) : State :=
  let e := s.fld (.rtr d) F.RTR_EPOCH_CUR
  (s.setFld (.rtr d) (F.RTR_INFLIGHT_ACTIVITY e) 1).emit (.packet d (Packet.seal { p with epo := e == 1, vch := false }))

/-- Whether an owner counts in the DMA page's packet counters: packets of the DMA engines, signals among them (R225). -/
def Owner.isDma : Owner → Bool
  | .dma _ _ _ => true | .dmaGet _ _ _ => true | .signal b => b | _ => false

/-- A request leaves: it takes window and response space and tokens of the window's rate, and is outstanding (R337, R339, R346). -/
def State.launch (s : State) (r : Req) : State :=
  let dest := Coord.die r.pkt.dst
  let s := if (s.window? r.die dest).isSome then s
    else State.showWinUse { s with windows := s.windows ++ [{ die := r.die, dest := dest, rate := s.fld (.rtr (CDie.die r.die)) F.RTR_RATE_R_MAX }] } r.die
  let s := s.updWindow r.die dest (fun w => { w with pkts := w.pkts + 1, bytes := w.bytes + r.pkt.size, tokens := w.tokens - 4 * r.pkt.rateCost })
  let s := { s with respUse := Store.set (fun _ => 0) s.respUse r.die.val (Store.get (fun _ => 0) s.respUse r.die.val + respNeed r.pkt) }
  let s := if r.owner.isDma then s.bump (.dma r.die) C.DMA_PKTS 1 else s
  s.sendFrom (CDie.die r.die) r.pkt

/-- Why a waiting request cannot leave now. -/
inductive Wait where
  | fence | window | rate | full | resp
  deriving DecidableEq, Repr

/-- The reason a request waits, given the requests before it: an earlier one to the same destination die under a fence
(R342), the window limits (R337) and its rate (R346), no free window, or response space (R339). -/
def State.waitOf (s : State) (before : List Req) (r : Req) : Option Wait :=
  let dest := Coord.die r.pkt.dst
  if r.pkt.fnc && before.any (fun q => q.die == r.die && Coord.die q.pkt.dst == dest) then some .fence
  else match s.window? r.die dest with
    | none => if 1024 ≤ s.winCount r.die then some .full
              else if respCap < Store.get (fun _ => 0) s.respUse r.die.val + respNeed r.pkt then some .resp else none
    | some w =>
      if winPkts s r.die < w.pkts + 1 || winBytes s r.die < w.bytes + r.pkt.size then some .window
      else if w.tokens < 4 * r.pkt.rateCost then some .rate
      else if respCap < Store.get (fun _ => 0) s.respUse r.die.val + respNeed r.pkt then some .resp else none

/-- Send every waiting request that may leave, in order of issue. -/
def State.pumpList (s : State) (before : List Req) : List Req → State × List Req
  | [] => (s, before)
  | r :: rest =>
    if r.sent then s.pumpList (before ++ [r]) rest
    else match s.waitOf before r with
      | some _ => s.pumpList (before ++ [r]) rest
      | none => (s.launch r).pumpList (before ++ [{ r with sent := true }]) rest

/-- Send what may leave; nothing does in the safe state (R349). -/
def State.pump (s : State) : State :=
  if !s.sourcesRun then s else
  let (s', rs) := s.pumpList [] s.requests
  { s' with requests := rs }

/-- Issue new requests of a die behind the earlier ones, and send what may leave. A packet that waits on a window limit or for
a free window counts (R337, R350). -/
def State.issue (s : State) (rs : List Req) : State :=
  let s1 := State.pump { s with requests := s.requests ++ rs }
  rs.foldl (fun t r =>
    match t.waitOf (t.requests.takeWhile (· != r)) r with
    | some .window => if t.requests.any (· == r) then t.bump (.rtr (CDie.die r.die)) C.RTR_WIN_STALL 1 else t
    | some .full => if t.requests.any (· == r) then t.bump (.rtr (CDie.die r.die)) C.RTR_WIN_FULL 1 else t
    | _ => t) s1

/-- A request is over: its window and response space are released (R337, R339). -/
def State.retire (s : State) (r : Req) : State :=
  let s := { s with requests := s.requests.filter (· != r) }
  if r.sent then
    let s := s.updWindow r.die (Coord.die r.pkt.dst) (fun w => { w with pkts := w.pkts - 1, bytes := w.bytes - r.pkt.size })
    { s with respUse := Store.set (fun _ => 0) s.respUse r.die.val (Store.get (fun _ => 0) s.respUse r.die.val - respNeed r.pkt) }
  else s

/-- Retire every request that passes. -/
def State.retireAll (s : State) (p : Req → Bool) : State := (s.requests.filter p).foldl State.retire s

/-- A new XID of a die's sources: the next of its count that no outstanding request holds (R341). -/
def State.newXid (s : State) (c : CDie) : BitVec 32 × State :=
  let n0 := Store.get (fun _ => 0) s.nextXid c.val
  let n := (((List.range (s.requests.length + 1)).map (fun i => (n0 + i) % 2 ^ 32)).find? (fun n =>
    !(s.requests.any (fun r => r.die == c && r.pkt.xid == BitVec.ofNat 32 n)))).getD n0
  (BitVec.ofNat 32 n, { s with nextXid := Store.set (fun _ => 0) s.nextXid c.val ((n + 1) % 2 ^ 32) })

/-- The package part of this package's coordinate: AGT_COORD of PD0 (10 R385, R405). -/
def State.pkg (s : State) : Nat := (s.rd (Page.base (.agt 0) + F.AGT_COORD_COORD.off)).toNat >>> 12

/-- A coordinate in this package. -/
def State.coord (s : State) (d : Die) (e : Nat) : Coord := Coord.mk s.pkg d.val e

/-- DMA_CTRL.RETRIES of a die (R225). -/
def State.retries (s : State) (c : CDie) : Nat := s.fld (.dma c) F.DMA_CTRL_RETRIES

/-- A SIGNAL or CAIRN_ABORT as a REQ packet (R312, R309). -/
def sigPacket (abort : Bool) (src dst : Coord) (part : Part) (cairn : Nat) (gen : BitVec 16) (bit : Nat) (fnc : Bool) (xid : BitVec 32) : Packet :=
  { mc := 1, op := if abort then opCAIRN_ABORT else opSIGNAL, fnc := fnc, dst := dst, src := src
    part := BitVec.ofNat 8 part.val, xid := xid, addr := sigAddr cairn gen bit, body := List.replicate 32 0 }

/-- Issue a cairn signal or abort from a compute die (R102, R207, R215, R221). -/
def State.issueSignal (s : State) (c : CDie) (e : Nat) (abort : Bool) (part : Part) (dst : Coord) (cairn : Nat) (gen : BitVec 16)
    (bit : Nat) (fnc : Bool) (own : Owner) (retries : Nat) : State :=
  let (xid, s1) := s.newXid c
  s1.issue [{ die := c, pkt := sigPacket abort (s.coord (CDie.die c) e) dst part cairn gen bit fnc xid, owner := own, left := retries }]

end Sys2Proof.Machine
end

