-- ==== Sys2Proof/Machine/Fault.lean ====
section
/-! DEFINITION. The fault hub: latching, escalation, the log, and the reactions of the classes (13 R491–R511). -/

namespace Sys2Proof.Machine

/-- MSF states (03 R131). -/
def msfOFF : Nat := 0
def msfSELFTEST : Nat := 1
def msfIDLE : Nat := 2
def msfLOAD : Nat := 3
def msfSTREAM : Nat := 4
def msfDRAIN : Nat := 5
def msfSWITCH : Nat := 6
def msfABORT : Nat := 7
def msfHALTED : Nat := 8
def msfUNAVAILABLE : Nat := 9

/-- Completion statuses (03 R100, 05 R203). -/
def stOK : Nat := 0x00
def stDESC_INVALID : Nat := 0x01
def stRANGE : Nat := 0x02
def stCHECKSUM : Nat := 0x03
def stRESIDUE : Nat := 0x04
def stMEM_UE : Nat := 0x05
def stTARN_UE : Nat := 0x06
def stTIMEOUT : Nat := 0x07
def stABORTED : Nat := 0x08
def stLIMIT : Nat := 0x09
def stNO_ARRAY : Nat := 0x0A
def stDIGEST : Nat := 0x0B
def stCHUNK_FAIL : Nat := 0x10
def stCORE_TRAP : Nat := 0x11
def stFLUSHED : Nat := 0x12
def stCAIRN_TIMEOUT : Nat := 0x13
def stCAIRN_FAILED : Nat := 0x14

/-- Partition states of FLT_PART (13 R505, R520). -/
def ptNORMAL : Nat := 0
def ptFENCED : Nat := 1
def ptSCRUBBING : Nat := 2
def ptCLEARED : Nat := 3

/-- The array of a die. -/
def State.array (s : State) (c : CDie) : ArraySt := Store.get (fun _ => {}) s.arrays c.val
def State.setArray (s : State) (c : CDie) (a : ArraySt) : State := { s with arrays := Store.set (fun _ => {}) s.arrays c.val a }

/-- MSF.BLK_STATUS.STATE of a die, and BUSY with it: 1 in LOAD, STREAM, DRAIN, SWITCH and ABORT (R131). -/
def State.msfState (s : State) (c : CDie) : Nat := s.fld (.msf c) F.BLK_STATUS_STATE
def State.setMsf (s : State) (c : CDie) (v : Nat) : State :=
  (s.setFld (.msf c) F.BLK_STATUS_STATE v).setFld (.msf c) F.BLK_STATUS_BUSY (if 3 ≤ v && v ≤ 7 then 1 else 0)

/-- A queue. -/
def State.queue (s : State) (r : QRef) : QueueSt := Store.get (fun _ => {}) s.queues r.key
def State.setQueue (s : State) (r : QRef) (q : QueueSt) : State := { s with queues := Store.set (fun _ => {}) s.queues r.key q }

/-- The reference a queue key stands for. -/
def QRef.ofKey (k : Nat) : QRef :=
  ⟨⟨k / 8192 % 8, Nat.mod_lt _ (by decide)⟩, ⟨k / 128 % 64, Nat.mod_lt _ (by decide)⟩, ⟨k / 16 % 8, Nat.mod_lt _ (by decide)⟩,
   ⟨k % 16, Nat.mod_lt _ (by decide)⟩⟩

/-- The field of FLT_PART that holds a partition's state (R520). -/
def partField (p : Part) : Field := ⟨0x150 + 4 * (p.val / 16), 2 * (p.val % 16), 2⟩
def State.partState (s : State) (p : Part) : Nat := s.fld .flt (partField p)
def State.setPartState (s : State) (p : Part) (v : Nat) : State := s.setFld .flt (partField p) v
def State.part? (s : State) (p : Part) : Option PartSt := Store.get (fun _ => none) s.parts p.val
def State.setPart (s : State) (p : Part) (x : Option PartSt) : State := { s with parts := Store.set (fun _ => none) s.parts p.val x }
/-- Whether a partition is confidential (14 R528, R556). -/
def State.isConf (s : State) (p : Part) : Bool := match s.part? p with | some x => x.conf | none => false

/-- The mailbox channels (16 R599): 0–35 have MBX pages, 36 + p is the VF channel of partition p. -/
def State.chan (s : State) (k : Nat) : ChanSt := Store.get (fun _ => {}) s.chans k
def State.setChan (s : State) (k : Nat) (x : ChanSt) : State := { s with chans := Store.set (fun _ => {}) s.chans k x }

/-- A message of the device: framing and body (R602). -/
def mbxMsg (type tag flags status : Nat) (arg : BitVec 64) (body : List Byte) : List Byte :=
  leBytes type 2 ++ leBytes body.length 2 ++ leBytes tag 2 ++ [BitVec.ofNat 8 flags, BitVec.ofNat 8 status] ++ leBytes arg.toNat 8 ++ body

/-- A notification enters the channel's store, or is dropped and counted when 32 wait (16 R603, R615). -/
def State.notify (s : State) (k : Nat) (type : Nat) (body : List Byte) : State :=
  let x := s.chan k
  if x.notes.length < 32 then s.setChan k { x with notes := x.notes ++ [mbxMsg type 0 2 0 0 body] }
  else if h : k < 36 then
    let pg : Page := .mbx ⟨k, h⟩
    s.setFld pg F.MBX_CFG_NOTIFY_LOST (min 255 (s.fld pg F.MBX_CFG_NOTIFY_LOST + 1))
  else s

/-- Parts of the package presentation in force (00 R8): 1, 2 or 4. -/
def State.nparts (s : State) : Nat := 2 ^ s.boot.pkgPres
/-- The part a partition number lies in (11 R432), and its compute dies. -/
def State.partOf (s : State) (p : Part) : Nat := p.val / (64 / s.nparts)
def State.partDies (s : State) (q : Nat) : List CDie := allCDies.filter (fun c => c.val / (8 / s.nparts) == q)

/-- The proxy die of each function's part: the lowest not fenced (16 R590, R613). -/
def State.proxy (s : State) (q : Nat) : Option CDie := (s.partDies q).find? (fun c => !(s.fencedDies.contains (CDie.die c)))
def State.showProxy (s : State) : State :=
  s.setFld .pci F.PCI_PROXY_DIE ((List.range s.nparts).foldl (fun a q => a + (match s.proxy q with | some c => c.val | none => 0) <<< (4 * q)) 0)

/-- NOTIFY_PART to the first channel of the partition's PF (16 R606; log entry 40). -/
def State.notifyPart (s : State) (p : Part) : State :=
  s.notify (4 + 8 * s.partOf p) 0x0100 [BitVec.ofNat 8 p.val, BitVec.ofNat 8 (s.partState p)]

/-- Whether a partition is fenced or being scrubbed: its tag is refused, its doorbells ignored (R505). -/
def State.partFenced (s : State) (p : Part) : Bool := s.partState p = ptFENCED || s.partState p = ptSCRUBBING

/-- A sweep ends with the first error it detects (R101). -/
def RunSweep.fail (r : RunSweep) (st : Nat) : RunSweep := if r.status = 0 then { r with status := st } else r

/-- Abort the sweeps of a die's array that pass (R132, R136): the array enters ABORT, from SWITCH when the switch completes. -/
def State.abortSweeps (s : State) (c : CDie) (p : QRef → Bool) (st : Nat) : State :=
  let a := s.array c
  let hit (o : Option RunSweep) : Bool := match o with | some r => p r.ref | none => false
  let act (o : Option RunSweep) : Option RunSweep := o.map (fun r => if p r.ref then r.fail st else r)
  let gone : ArraySt := { a with run := act a.run, drain := a.drain.map (fun r => if p r.ref then r.fail st else r), next := none }
  if !(hit a.run || a.drain.any (fun r => p r.ref)) then s
  else if s.msfState c = msfLOAD || s.msfState c = msfSTREAM || s.msfState c = msfDRAIN then (s.setArray c gone).setMsf c msfABORT
  else if s.msfState c = msfSWITCH then s.setArray c gone else s

/-- Abort the dispatches that pass: their cores stop (R504, R190). -/
def State.abortDispatches (s : State) (p : QRef → Bool) (st : Nat) : State :=
  { s with dispatches := s.dispatches.map (fun d =>
      if p d.ref && !d.stopped then { d with stopped := true, status := if d.status = 0 then BitVec.ofNat 8 st else d.status } else d) }

/-- The bit of a run's FAIL map that a request of it marks: its destination in a FANOUT, its chunk otherwise (R215). -/
def Owner.markOf (run : DmaRun) : Owner → Option Nat
  | .dma r d c => if r = run.id then some (if run.fan then d else c) else none
  | .dmaGet r c _ => if r = run.id then some c else none
  | _ => none

/-- Abort the DMA runs that pass: nothing further is sent, unacknowledged chunks are marked (R216, R504). -/
def State.abortDma (s : State) (p : QRef → Bool) (st : Nat) : State :=
  let ids := (s.dmaRuns.filter (fun r => p r.ref && !r.aborted)).map (·.id)
  let lost (r : DmaRun) : List Nat := (s.requests.filterMap (fun q => q.owner.markOf r)).eraseDups
  let s1 : State := { s with dmaRuns := s.dmaRuns.map (fun r =>
      if ids.contains r.id then
        { r with aborted := true, status := if r.status = 0 then BitVec.ofNat 8 st else r.status, failed := (r.failed ++ lost r).eraseDups }
      else r) }
  s1.retireAll (fun q => match q.owner with | .dma r _ _ => ids.contains r | .dmaGet r _ _ => ids.contains r | _ => false)

/-- The C2 reaction: every running entry of the named context on the reporting die is aborted (R504). -/
def State.c2React (s : State) (c : CDie) (part : Part) (ctx : Ctx) : State :=
  let p (r : QRef) : Bool := r.die == c && r.part == part && r.ctx == ctx
  ((s.abortSweeps c p stABORTED).abortDispatches p stABORTED).abortDma p stABORTED

/-- Queues of a partition lose their gates and their entries that have not started, without records (R204, R505). -/
def State.discardQueues (s : State) (p : QRef → Bool) : State :=
  { s with queues := Store.mapVals (fun _ => {}) (fun k q =>
      if p (QRef.ofKey k) then { q with gates := [], fetched := [], head := q.tail } else q) s.queues }

/-- PCI_VF of a partition shows it ACTIVE, or fenced or scrubbed, and confidential (R505, 16 R613). -/
def State.showVf (s : State) (p : Part) : State :=
  ((s.setFld .pci (F.PCI_VF_SCRUBBING p.val) (s.partFenced p).toNat).setFld .pci (F.PCI_VF_ACTIVE p.val)
    (decide (s.partState p = ptNORMAL) && (s.part? p).isSome).toNat).setFld .pci (F.PCI_VF_CONFIDENTIAL p.val) (s.isConf p).toNat

/-- Every gate and entry not started of a partition goes, and every running entry is aborted (R505, 14 R527). -/
def State.killPart (s : State) (part : Part) : State :=
  let p (r : QRef) : Bool := r.part == part
  let s := s.discardQueues p
  let s := allCDies.foldl (fun t c => t.abortSweeps c p stABORTED) s
  (s.abortDispatches p stABORTED).abortDma p stABORTED

/-- The C3 reaction: fence the partition on every die of the package, remove gates and entries not started, abort every
running entry (R505); a partition already FENCED or SCRUBBING only restarts its quiet period (R506). -/
def State.c3React (s : State) (part : Part) : State :=
  let s := { s with quietParts := if s.quietParts.contains part then s.quietParts else s.quietParts ++ [part] }
  if s.partFenced part then s else
  State.killPart (((s.setPartState part ptFENCED).showVf part).notifyPart part) part

/-- LNK states (07 R282). -/
def lkDISABLED : Nat := 0
def lkDETECT : Nat := 1
def lkTRAIN : Nat := 2
def lkALIGN : Nat := 3
def lkQUALIFY : Nat := 4
def lkHELD : Nat := 5
def lkACTIVE : Nat := 6
def lkQUARANTINE : Nat := 7
def lkFAILED : Nat := 8
def lkSAFE : Nat := 9

def allPorts : List Port := List.finRange 24
def allOpts : List OptPort := [0, 1, 2, 3, 4, 5]

/-- An agent of a port die (10 R376). -/
def State.agent (s : State) (k : PDie) : AgentSt := Store.get (fun _ => {}) s.agents k.val
def State.setAgent (s : State) (k : PDie) (a : AgentSt) : State := { s with agents := Store.set (fun _ => {}) s.agents k.val a }

/-- Queue an event at an agent: up to 64; a new one when full is dropped, LOST advances and EVQ_LOST is owed (10 R397, R398). -/
def State.agentEvent (s : State) (k : PDie) (code port st cause : Nat) (serial : BitVec 128 := 0) : State :=
  let a := s.agent k
  if a.evq.length < 64 then
    let q := a.evq ++ [⟨s.now (PDie.die k), code, port, st, cause, serial⟩]
    ((s.setAgent k { a with evq := q }).setFld (.agt k) F.AGT_EVQ_PENDING q.length).fireEvent (.agt k) 1
  else (s.setAgent k { a with lostDue := true }).incFld (.agt k) F.AGT_EVQ_LOST 1

/-- A port. -/
def State.port (s : State) (q : Port) : PortSt := Store.get (fun _ => {}) s.ports q.val
def State.setPort (s : State) (q : Port) (x : PortSt) : State := { s with ports := Store.set (fun _ => {}) s.ports q.val x }
def State.updPort (s : State) (q : Port) (f : PortSt → PortSt) : State := s.setPort q (f (s.port q))

/-- States in which a port sends frames (07 R282). -/
def sendsFrames (st : Nat) : Bool := 3 ≤ st && st ≤ 7

/-- An optical port's engine goes dark (07 R296). -/
def State.goDark (s : State) (q : Port) : State :=
  match Port.opt? q with | some j => s.setFld (.opt j) F.OPT_STATUS_DARK_ACTIVE 1 | none => s

/-- A port changes LNK state: the page's STATE_CHANGE event, the agent's PORT_STATE event unless a command of the agent did it, and
MEMBER clears when the port leaves ACTIVE (07 R301, 10 R386, R397). DISABLED, FAILED and the end of SAFE are dark: a port that enters SAFE from a state that
sends frames goes on with idle frames (07 R296, R297). -/
def State.setLnk (s : State) (q : Port) (st : Nat) (byAgent : Bool := false) : State :=
  let pg : Page := .lnk q
  let old := s.fld pg F.LNK_STATE_STATE
  if old = st then s else
  let s := (s.setFld pg F.LNK_STATE_STATE st).fireEvent pg 1
  let s := if old = lkACTIVE then s.setFld (.rtr (PDie.die (Port.pdie q))) (F.RTR_PORT_MEMBER (Port.local q)) 0 else s
  let runsOn := decide (st = lkSAFE) && sendsFrames old
  let s := s.updPort q (fun x => { x with safeAt := if runsOn then some (s.now (PDie.die (Port.pdie q))) else none })
  let s := if st = lkDISABLED || st = lkFAILED || (st = lkSAFE && !runsOn) then s.goDark q else s
  if byAgent then s else s.agentEvent (Port.pdie q) 0x01 q.val st (s.fld pg F.LNK_STATE_CAUSE)

/-- Halt a die's array and cores (R503, R507 step 3, R138): sweeps get no record. -/
def State.haltDie (s : State) (c : CDie) : State :=
  let s := if s.msfState c = msfOFF then s else s.setMsf c msfHALTED
  { s with dispatches := s.dispatches.map (fun d => if d.ref.die == c then { d with stopped := true } else d) }

def cdPwr (c : CDie) : Page := .pwr (CDie.die c)

/-- The step in effect of a compute die. -/
def State.stepK (s : State) (c : CDie) : Nat := s.fld (cdPwr c) F.PWR_STATUS_STEP
def State.setStep (s : State) (c : CDie) (k : Nat) : State :=
  if s.stepK c = k then s
  else ((s.setFld (cdPwr c) F.PWR_STATUS_STEP k).setFld (.clk (CDie.die c)) F.CLK_STATUS_ACLK_K k).bump (cdPwr c) C.PWR_STEP_CHANGES 1

/-- The management complex moves every die to CAPPED when one has lost plateau; it does not while it resets (R471, R487). -/
def State.followPlateau (s : State) : State :=
  if s.mcReset || !(allCDies.any (fun e => s.flag (cdPwr e) F.PWR_STATUS_PLAT_LOST && !(s.flag (cdPwr e) F.PWR_CTRL_MODE))) then s else
  (allCDies.foldl (fun t e => t.setFld (cdPwr e) F.PWR_CTRL_MODE 0) s).setFld (.pwr pd0) F.PKG_STATUS_PLAT_LOST 1

/-- A die asks its AVSBus for a voltage in mV (12 R454): CD2b and CD2b+1 are the rail selects 0 and 1 of bus AVSb (18 R650). -/
def State.askVoltage (s : State) (c : CDie) (mv : Nat) : State := s.emit (.avs (c.val / 2) (c.val % 2) mv)

/-- The level of FAULT_N, low in SAFE, RECOVERING and LOCKED (18 R657). -/
def State.faultN (s : State) : Bool :=
  let h := s.fld .flt F.FLT_STATE_STATE
  h != hubSAFE && h != hubRECOVERING && h != hubLOCKED

/-- In the safe state a die's loop stops: it goes to k = 6 at 0.600 V, and no step change waits (12 R487). -/
def State.stopLoop (s : State) (c : CDie) : State :=
  let s := s.setPwr c.val { s.pwrSt c.val with raise := none, deferred := none, settling := false, risk := 0 }
  ((s.setStep c 6).setFld (cdPwr c) F.PWR_STATUS_DEFERRED 0).askVoltage c 600

/-- The C4 safe state (R507, 07 R297, 12 R487, 16 R595): arrays and cores halt, ports go idle and dark, PCIe reports fatal,
each compute die goes to k = 6 with its loop stopped. -/
def State.safeState (s : State) : State :=
  let s := s.setFld .flt F.FLT_STATE_STATE hubSAFE
  let s := allCDies.foldl (fun t c => t.haltDie c) s
  let s := allPorts.foldl (fun t q => (t.setLnk q lkSAFE).wr (Page.base (.lnk q) + F.LNK_QUAL_LOCAL_PASS.off) 0) s
  let s : State := { s with ports := Store.mapVals (fun _ => {}) (fun _ (x : PortSt) =>
    { x with txq := [], repeats := [], partial_ := [], synced := true, localRes := none, peerRes := none, worst := 0, dwell := [] }) s.ports }
  let s := (s.setFld .pci F.PCI_STATUS_FATAL 1).emit .errFatal
  allCDies.foldl State.stopLoop s

/-- A C4 fault: FLT_FATAL latches the first since the last reset or recovery (R503); NORMAL, SAFE, RECOVERING and RECOVERED_IDLE
go to SAFE with the quiet period restarted, LOCKED stays (R509). -/
def State.c4React (s : State) (p : Page) (code : Nat) : State :=
  let s := if s.flag .flt F.FLT_FATAL_VALID then s else
    let w := code % 0x1000 + (p.idx % 256) <<< 12 + (Die.slot p.die) <<< 20 + 1 <<< 24
    (s.wr (Page.base .flt + F.FLT_FATAL_VALID.off) (BitVec.ofNat 32 w)).wr64 .flt 0x10C (s.now p.die)
  match s.fld .flt F.FLT_STATE_STATE with
  | 4 => s
  | 1 => s
  | _ => s.safeState

/-- An entry finds a place in the hub's log (R502). -/
def State.logTakes (s : State) (cls : Nat) : Bool := decide (s.fltLog.length < 256) || (decide (1 ≤ cls) && s.fltLog.any (fun x => x.cls == 0))

/-- Put an entry into the hub's log: when full a C0 entry is dropped; a higher one overwrites the oldest C0 entry or is dropped;
each drop counts (R502). -/
def State.logEntry (s : State) (e : LogEntry) : State :=
  if s.fltLog.length < 256 then { s with fltLog := s.fltLog ++ [e] }
  else if e.cls = 0 then s.bump .flt C.FLT_LOG_LOST 1
  else match s.fltLog.findIdx? (fun x => x.cls == 0) with
    | some i => State.bump { s with fltLog := s.fltLog.eraseIdx i ++ [e] } .flt C.FLT_LOG_LOST 1
    | none => s.bump .flt C.FLT_LOG_LOST 1

/-- The four words of a log entry as FLT_LOG_HEAD shows them (R520). -/
def LogEntry.words (e : LogEntry) : List Word :=
  [BitVec.ofNat 32 e.gtime.toNat, BitVec.ofNat 32 (e.gtime.toNat >>> 32),
   BitVec.ofNat 32 (e.source.toNat + (e.block % 256) <<< 12 + (e.slot % 16) <<< 20 + (e.cls % 8) <<< 24 + (e.raw % 8) <<< 27 +
     e.escalated.toNat <<< 30 + e.injected.toNat <<< 31),
   BitVec.ofNat 32 ((match e.scope.part with | some p => p.val + 1 <<< 6 | none => 0) +
     (match e.scope.ctx with | some c => c.val <<< 7 + 1 <<< 10 | none => 0))]

/-- NOTIFY_FAULT for a C1 or higher entry; for a confidential partition only what NOTIFY_PART says (14 R530, 16 R606). -/
def State.notifyFault (s : State) (e : LogEntry) : State :=
  match e.scope.part with
  | some p => if s.isConf p then s.notifyPart p else s.notify 4 0x0102 (e.words.flatMap (fun w => leBytes w.toNat 4))
  | none => s.notify 4 0x0102 (e.words.flatMap (fun w => leBytes w.toNat 4))

/-- The FLT_FLAGS word of a record (R519). -/
def fltFlags (cls raw : Nat) (ovf acked esc inj : Bool) (sc : Scope) : Word :=
  BitVec.ofNat 32 (cls + raw <<< 3 + 1 <<< 6 + ovf.toNat <<< 7 + acked.toNat <<< 8 + esc.toNat <<< 9 + inj.toNat <<< 10 +
    (match sc.part with | some p => p.val <<< 11 + 1 <<< 17 | none => 0) +
    (match sc.ctx with | some c => c.val <<< 18 + 1 <<< 21 | none => 0))

/-- The scope an FLT_FLAGS word holds. -/
def scopeOf (w : Word) : Scope :=
  { part := if w.getLsbD 17 then some ⟨bits w.toNat 16 11 % 64, Nat.mod_lt _ (by decide)⟩ else none
    ctx := if w.getLsbD 21 then some ⟨bits w.toNat 20 18 % 8, Nat.mod_lt _ (by decide)⟩ else none }

/-- What a fault does to its block's record (R495, R496): the new FLT_FIRST and FLT_FLAGS words, the effective class, and whether a
record latched, escalated or only overflowed. -/
inductive Latch where
  | latched | escalated | overflow
  deriving DecidableEq, Repr

structure LatchResult where
  first : Word
  flags : Word
  cls : Nat
  how : Latch
  scope : Scope
  deriving DecidableEq, Repr

/-- The latching and escalation rule of R495–R497. -/
def latchRule (first flags : Word) (now : BitVec 64) (code cls : Nat) (sc : Scope) (inj : Bool) : LatchResult :=
  let valid := flags.getLsbD 6
  let acked := flags.getLsbD 8
  let esc := flags.getLsbD 9
  let raw := bits flags.toNat 5 3
  if !valid || acked then
    ⟨BitVec.ofNat 32 (code % 0x1000 + (now.toNat % 0x100000) <<< 12), fltFlags cls cls false false false inj sc, cls, .latched, sc⟩
  else if cls = raw && !esc then
    let c := min 4 (raw + 1)
    ⟨first, setF (setF (setF flags F.FLT_FLAGS_CLASS c) F.FLT_FLAGS_ESCALATED 1) F.FLT_FLAGS_OVERFLOW 1, c, .escalated,
      if sc.part.isSome then sc else scopeOf flags⟩
  else ⟨first, setF flags F.FLT_FLAGS_OVERFLOW 1, cls, .overflow, sc⟩

/-- The reaction of a class (R497, R498, R504–R507, R511): C0 and C1 none beyond the log, C2 when a context is named, C3 when a
partition is named, C4 always; in SAFE and RECOVERING only C4 reacts. -/
def State.react (s : State) (p : Page) (code cls : Nat) (sc : Scope) : State :=
  let hub := s.fld .flt F.FLT_STATE_STATE
  if cls = 4 then s.c4React p code
  else if hub = hubSAFE || hub = hubRECOVERING || hub = hubLOCKED then s
  else if cls = 2 then
    match Die.cd? p.die, sc.part, sc.ctx with
    | some c, some pt, some cx => s.c2React c pt cx
    | _, _, _ => s
  else if cls = 3 then
    match sc.part with
    | some pt => s.c3React pt
    | none => s
  else s

/-- The reaction of C1, which every higher class includes, whether or not the fault latches (R497, R504): the management complex is interrupted, the agent's FAULT
event is queued, and the EVT_STATUS bit of the class sets, which a log entry has set already (R521); C2 or C3 without a partition counts as C1 (R498). -/
def State.interrupts (s : State) (p : Page) (cls : Nat) (sc : Scope) (unlogged : Bool) : State :=
  let s := if unlogged then s.fireEvent .flt (if sc.part.isNone && cls != 4 then 1 else cls) else s
  (s.emit .hubIrq).agentEvent (if p.die = pd1 then 1 else 0) 0x05 0xFF 0 cls

/-- The recoveries that began within the last hour of GTIME (R509). -/
def State.recentRecoveries (s : State) : List (BitVec 64) := s.recoveryTimes.filter (fun t => decide ((s.now pd0 - t).toNat ≤ 720000000000))

/-- Raise a fault at a page (R495–R507): latch or escalate its record, log and interrupt, fire its event line, and apply the
reaction of the effective class. Blocks held in core reset report nothing (R511). -/
def State.raise (s : State) (p : Page) (code cls : Nat) (sc : Scope) (inj : Bool := false) : State :=
  if s.pageHeld p then s else
  let r := latchRule (s.rd (p.base + 0x20)) (s.rd (p.base + 0x24)) (s.now p.die) code cls sc inj
  let s := ((s.wr (p.base + 0x20) r.first).wr (p.base + 0x24) r.flags).setFld p F.BLK_STATUS_FAULTED 1
  let s := { s with quietPages := if s.quietPages.contains p.base then s.quietPages else s.quietPages ++ [p.base] }
  let s := match sc.part with
    | some pt => { s with quietParts := if s.quietParts.contains pt then s.quietParts else s.quietParts ++ [pt] }
    | none => s
  let s := if r.how = .overflow then s else
    let s := if p = .flt then s else s.fireEvent p 0
    let ent : LogEntry := ⟨s.now p.die, BitVec.ofNat 12 code, p.idx, Die.slot p.die, r.cls, bits r.flags.toNat 5 3, r.how = .escalated, inj, r.scope⟩
    let kept := s.logTakes r.cls
    let s := s.logEntry ent
    let s := if kept then s.fireEvent .flt r.cls else s
    if 1 ≤ r.cls then s.notifyFault ent else s
  let s := if 1 ≤ r.cls then s.interrupts p r.cls r.scope (r.how == .overflow) else s
  s.react p code r.cls r.scope

/-- The injection a checker of a page meets (R513–R515): none, or the number of inverted symbols. -/
def State.injection (s : State) (p : Page) (checker : Nat) : Option Nat :=
  if s.flag p F.INJ_CTRL_ARMED && s.fld p F.INJ_CTRL_CHECKER = checker then
    some (if s.fld p F.INJ_CTRL_WEIGHT = 2 then 2 else 1)
  else none

/-- A one-shot injection that has fired sets FIRED and clears ARMED (R517). -/
def State.injFired (s : State) (p : Page) : State :=
  if s.fld p F.INJ_CTRL_MODE = 1 then (s.setFld p F.INJ_CTRL_FIRED 1).setFld p F.INJ_CTRL_ARMED 0 else s

end Sys2Proof.Machine
end

