-- ==== Sys2Proof/Machine/Access.lean ====
section
/-! DEFINITION. Memory and Tarn: where a board address lands, the checks of a partition's ranges, ECC findings, and the reads
and writes of engines (03 R91–R95, 06 R231–R250). -/

namespace Sys2Proof.Machine

/-- Bytes of one die's memory: 192 GiB, and of its Tarn: 256 MiB (R231). -/
def memSpan : Nat := 0x3000000000
def tarnSpan : Nat := 0x10000000
/-- Bytes of one position's window (R231). -/
def posSpan : Nat := 0x20000000000
/-- Window offset of the Tarn windows (R231). -/
def tarnBase : Nat := 0x1F000000000
/-- A memory granule and a Tarn granule in bytes (R240, R94). -/
def memGran : Nat := 0x10000000
def tarnGran : Nat := 0x10000

/-- What a board address names (R231). -/
inductive Place where
  | mem (pos : Nat) (c : CDie) (off : Nat)
  | tarn (pos : Nat) (c : CDie) (off : Nat)
  | unmapped
  deriving DecidableEq, Repr

/-- Where a board address lands (R231). -/
def placeOf (a : Nat) : Place :=
  let pos := a / posSpan
  let o := a % posSpan
  if 4 ≤ pos then .unmapped
  else if h : o / memSpan < 8 then .mem pos ⟨o / memSpan, h⟩ (o % memSpan)
  else if o < tarnBase then .unmapped
  else if h : (o - tarnBase) / tarnSpan < 8 then .tarn pos ⟨(o - tarnBase) / tarnSpan, h⟩ ((o - tarnBase) % tarnSpan)
  else .unmapped

/-- A whole extent is mapped: its first and last byte lie in the memory windows, or both in the Tarn windows, of one position (R231, R233). -/
def extentMapped (a len : Nat) : Bool :=
  match placeOf a, placeOf (a + len - 1) with
  | .mem p _ _, .mem q _ _ => p == q
  | .tarn p _ _, .tarn q _ _ => p == q
  | _, _ => false

/-- The key of a byte of the package's memory, and of its Tarn. -/
def memKey (c : CDie) (off : Nat) : Nat := c.val * memSpan + off
def tarnKey (c : CDie) (off : Nat) : Nat := c.val * tarnSpan + off

/-- What memory and Tarn bytes that nothing has written read as (log entry 5). -/
def memDefault : Nat → Byte := fun _ => 0

/-- The one read of a byte of memory and of Tarn. -/
def State.memByte (s : State) (c : CDie) (off : Nat) : Byte := Store.get memDefault s.mem (memKey c off)
def State.tarnByte (s : State) (c : CDie) (off : Nat) : Byte := Store.get memDefault s.tarn (tarnKey c off)

/-- Write bytes of memory, of Tarn. -/
def State.memPut (s : State) (c : CDie) (off : Nat) (bs : List Byte) : State :=
  { s with mem := Store.setList memDefault s.mem (memKey c off) bs }
def State.tarnPut (s : State) (c : CDie) (off : Nat) (bs : List Byte) : State :=
  { s with tarn := Store.setList memDefault s.tarn (tarnKey c off) bs }

/-- Read bytes of memory, of Tarn. -/
def State.memGet (s : State) (c : CDie) (off n : Nat) : List Byte := Store.getList memDefault s.mem (memKey c off) n
def State.tarnGet (s : State) (c : CDie) (off n : Nat) : List Byte := Store.getList memDefault s.tarn (tarnKey c off) n

/-- A sector that is written whole holds good data again (R246, R254). -/
def State.heal (s : State) (c : CDie) (off len : Nat) : State :=
  { s with badSectors := s.badSectors.filter (fun b => !(memKey c off ≤ 32 * b.sector && 32 * b.sector + 32 ≤ memKey c off + len)) }

/-- Zero a span: its entries are removed, since an unlisted byte reads zero (R254, R95). -/
def State.memZero (s : State) (c : CDie) (off n : Nat) : State :=
  State.heal { s with mem := Store.keep (fun k => !(memKey c off ≤ k && k < memKey c off + n)) s.mem } c off n
def State.tarnZero (s : State) (c : CDie) (off n : Nat) : State :=
  { s with tarn := Store.keep (fun k => !(tarnKey c off ≤ k && k < tarnKey c off + n)) s.tarn }

/-- Range i of a partition on a die: base and size in granules (R240). -/
def State.memRange (s : State) (c : CDie) (p : Part) (i : Nat) : Nat × Nat :=
  (s.fld (.mem c) (F.MEM_RANGE_BASE (4 * p.val + i)), s.fld (.mem c) (F.MEM_RANGE_SIZE (4 * p.val + i)))

/-- An extent lies within one range of a partition (R240). -/
def inRange (off len : Nat) (r : Nat × Nat) : Bool :=
  r.2 != 0 && r.1 * memGran ≤ off && off + len ≤ (r.1 + r.2) * memGran

/-- The memory of a die accepts an access of a partition (R240, R259, R260, R505). -/
def State.memOk (s : State) (c : CDie) (p : Part) (off len : Nat) : Bool :=
  !(s.memFenced.contains c) && s.flag (.mem c) F.BLK_STATUS_READY && !(s.partFenced p) &&
    [0, 1, 2, 3].any (fun i => inRange off len (s.memRange c p i))

/-- A partition's Tarn allocation on a die in bytes: base and size (R94). -/
def State.tarnAlloc (s : State) (c : CDie) (p : Part) : Nat × Nat :=
  (s.fld (.trn c) (F.TRN_PART_BASE p.val) * tarnGran, s.fld (.trn c) (F.TRN_PART_SIZE p.val) * tarnGran)

/-- The Tarn of a die accepts an access at a physical offset (R232, R505). -/
def State.tarnOk (s : State) (c : CDie) (p : Part) (off len : Nat) : Bool :=
  let a := s.tarnAlloc c p
  !(s.partFenced p) && a.2 != 0 && a.1 ≤ off && off + len ≤ a.1 + a.2

/-- A range refusal at a memory controller: counted, the first since clearing recorded, a C0 fault (R241). -/
def State.refuse (s : State) (c : CDie) (p : Part) (write : Bool) (addr : Nat) : State :=
  let s := s.bump (.mem c) C.MEM_REFUSED 1
  let s := if s.flag (.mem c) F.MEM_REFUSE_PART_VALID then s else
    (s.wr (Page.base (.mem c) + 0x158) (BitVec.ofNat 32 (p.val + write.toNat <<< 6 + 1 <<< 31))).wr64 (.mem c) 0x15C (BitVec.ofNat 64 addr)
  s.raise (.mem c) 0x102 0 { part := some p }

/-- Whether a die's array, Tarn, cores and memory can answer: not fenced whole and not in core reset (R680). -/
def State.dieDown (s : State) (c : CDie) : Bool := s.inReset (CDie.die c) || s.fencedDies.contains (CDie.die c)

/-- MEM_STACK STATE codes (R264). -/
def skOFF : Nat := 0
def skTRAINING : Nat := 1
def skREPAIR : Nat := 2
def skTESTING : Nat := 3
def skREADY : Nat := 4
def skFAILED : Nat := 5
def skFENCED : Nat := 6

/-- The stacks a die's memory interleaves over: all but those that have failed (R234, R258). -/
def State.liveStacks (s : State) (c : CDie) : List (Fin 3) := (List.finRange 3).filter (fun k => s.fld (.mem c) (F.MEM_STACK_STATE k.val) != skFAILED)

/-- Where a die offset lands: stack, channel and granule within the channel (R234, R258). -/
def stackPlace (lives : List (Fin 3)) (x : Nat) : Fin 3 × Fin 12 × Nat :=
  let g := x / 256
  let n := lives.length
  (lives.getD (g % n) 0, ⟨g / n % 12, Nat.mod_lt _ (by decide)⟩, g / n / 12)

/-- The check of a sector: one stored symbol in error is corrected; two, or an address symbol, make it uncorrectable (R244). Three and more are taken as
uncorrectable, which the code does not promise: PRESUMED (log entry 78). -/
def SectorErr.check (e : SectorErr) : Option (Fin 36) := match e.virt, e.syms.eraseDups with | false, [k] => some k | _, _ => none

/-- What a read of the sector at a die offset finds. -/
def State.eccFind (s : State) (c : CDie) (off : Nat) (e : SectorErr) : EccFind :=
  let p := stackPlace (s.liveStacks c) off
  ⟨p.1, p.2.1, e.row, e.check⟩

/-- The die switch that discards a request of die c for die d: the last on the shorter way round the ring (R21, R680). -/
def lastSwitch (c d : CDie) : CDie := if (d - c).val ≤ 4 then d + 7 else d + 1

/-- Requests of die c's engines for a die that is down get no response: each is discarded and counted with cause FENCED, the first and its retries (R680). -/
def State.fencedDrop (s : State) (c d : CDie) : State :=
  s.bump (.rtr (CDie.die (lastSwitch c d))) (C.RTR_CRC + 48) (1 + s.fld (.dma c) F.DMA_CTRL_RETRIES)

/-- The key of a row for corrected-error counts. -/
def rowKey (c : CDie) (e : EccFind) : Nat := ((c.val * 3 + e.stack.val) * 12 + e.ch.val) * 2 ^ 22 + e.row.toNat

/-- A row of a channel is already remapped (R248). -/
def State.isRemapped (s : State) (c : CDie) (e : EccFind) : Bool :=
  s.remaps.any (fun r => r.die == c && r.stack == e.stack && r.ch == e.ch && r.row == e.row)

/-- Entries used in a channel (R248). -/
def State.remapCount (s : State) (c : CDie) (st : Fin 3) (ch : Fin 12) : Nat :=
  (s.remaps.filter (fun r => r.die == c && r.stack == st && r.ch == ch)).length

/-- Put a row into the repair log once (R250). -/
def State.logRepair (s : State) (c : CDie) (e : EccFind) : State :=
  let x : RepairEntry := ⟨c, e.stack, e.ch, e.row⟩
  if s.repairLog.contains x then s else { s with repairLog := s.repairLog ++ [x] }

/-- A row that reaches CE_THRESH corrected errors is remapped, or logged when its channel is full; a row that holds an uncorrectable
sector is not remapped (R248, R249). -/
def State.rowRemap (s : State) (c : CDie) (e : EccFind) : State :=
  if s.isRemapped c e || s.badSectors.any (fun b => b.row == (c, e.stack, e.ch, e.row)) then s
  else if 256 ≤ s.remapCount c e.stack e.ch then
    if s.repairLog.contains ⟨c, e.stack, e.ch, e.row⟩ then s else (s.logRepair c e).raise (.mem c) 0x104 1 {}
  else
    let s : State := { s with remaps := s.remaps ++ [⟨c, e.stack, e.ch, e.row, 1⟩] }
    (((s.logRepair c e).bump (.mem c) C.MEM_REMAP 1).fireEvent (.mem c) 2).raise (.mem c) 0x103 0 {}

/-- Where an ECC error stands: MEM_ERR_LOC and MEM_ERR_ROW (R245, R246). -/
def State.errLoc (s : State) (c : CDie) (e : EccFind) (patrol : Bool) : State :=
  let sym := match e.sym with | some k => k.val | none => 63
  (s.wr (Page.base (.mem c) + 0x150) (BitVec.ofNat 32 (e.stack.val + e.ch.val <<< 2 + sym <<< 6 + (e.sym.isNone).toNat <<< 12 + patrol.toNat <<< 13))).wr
    (Page.base (.mem c) + 0x154) (BitVec.ofNat 32 e.row.toNat)

/-- One corrected sector: counted, located, and counted against its row, which is remapped at the threshold (R245, R248). -/
def State.eccCorrected (s : State) (c : CDie) (e : EccFind) (patrol : Bool) : State :=
  let s := (s.bump (.mem c) C.MEM_CE 1).errLoc c e patrol
  let n := Store.get (fun _ => 0) s.rowErrs (rowKey c e) + 1
  let s : State := { s with rowErrs := Store.set (fun _ => 0) s.rowErrs (rowKey c e) n }
  let th := s.fld (.mem c) F.MEM_CFG_CE_THRESH
  if th != 0 && th ≤ n then s.rowRemap c e else s

/-- What the reads of one request's sectors find, by sector: every corrected sector handled, one C0 fault for them; every uncorrectable one
counted, the first located, one C2 fault (R245, R246). A row with an uncorrectable sector is known before its corrected ones are counted (R249). An injected
error counts toward no threshold (R515). -/
def State.eccApply (s : State) (c : CDie) (found : List (Nat × EccFind)) (sc : Scope) : State × Bool :=
  let inj := s.injection (.mem c) 0
  let s := if inj.isSome then s.injFired (.mem c) else s
  let fs := found.map (·.2)
  let ces := fs.filter (fun e => e.sym.isSome)
  let ues := fs.filter (fun e => e.sym.isNone)
  let new := (found.filter (fun f => f.2.sym.isNone)).map (fun f => (⟨f.1, c, f.2.stack, f.2.ch, f.2.row⟩ : BadSector))
  let s : State := { s with badSectors := s.badSectors ++ new.filter (fun b => !(s.badSectors.contains b)) }
  let s := ces.foldl (fun t e => t.eccCorrected c e false) s
  let s := if inj = some 1 then s.bump (.mem c) C.MEM_CE 1 else s
  let s := if ces.isEmpty && inj != some 1 then s else s.raise (.mem c) 0x100 0 sc (inj = some 1)
  let nue := ues.length + (if inj = some 2 then 1 else 0)
  if nue = 0 then (s, false)
  else
    let s := s.bump (.mem c) C.MEM_UE nue
    let s := match ues.head? with | some e => s.errLoc c e false | none => s
    let s := ues.foldl (fun t e => t.logRepair c e) s
    (s.raise (.mem c) 0x101 2 sc (inj = some 2), true)

/-- Sectors of 32 bytes an extent touches. -/
def sectorsOf (off len : Nat) : List Nat := if len = 0 then [] else (List.range ((off + len - 1) / 32 - off / 32 + 1)).map (· + off / 32)

/-- The findings of an extent of a die's memory, by sector of the package's memory. -/
def State.findings (s : State) (o : Obs) (c : CDie) (off len : Nat) : List (Nat × EccFind) :=
  o.ecc.filterMap (fun e =>
    if (memKey c off) / 32 ≤ e.1 && e.1 ≤ (memKey c off + len - 1) / 32 && len != 0 && (e.2.virt || !e.2.syms.isEmpty) then
      some (e.1, s.eccFind c (32 * e.1 - memKey c 0) e.2) else none)

/-- The findings of an extent of a die's Tarn: word index and whether uncorrectable. -/
def Obs.tarnFindings (o : Obs) (c : CDie) (off len : Nat) : List (Nat × Bool) :=
  o.tarnEcc.filter (fun e => (tarnKey c off) / 8 ≤ e.1 && e.1 ≤ (tarnKey c off + len - 1) / 8 && len != 0)

/-- What the reads of one request's Tarn words find (R93). An injected error shows at a word of the injection's choice, a free value (13 R513). -/
def State.tarnEccApply (s : State) (c : CDie) (fs : List (Nat × Bool)) (sc : Scope) : State × Bool :=
  let inj := s.injection (.trn c) 0
  let s := if inj.isSome then s.injFired (.trn c) else s
  let last (t : State) (e : Nat × Bool) : State :=
    t.wr (Page.base (.trn c) + 0x218) (BitVec.ofNat 32 (e.1 % 0x2000000 + (e.2.toNat) <<< 31))
  let s := fs.foldl last s
  let s := match inj with | some k => let (w, s) := s.free; last s (w.toNat, k == 2) | none => s
  let nce := (fs.filter (fun e => !e.2)).length + (if inj = some 1 then 1 else 0)
  let nue := (fs.filter (fun e => e.2)).length + (if inj = some 2 then 1 else 0)
  let s := if nce = 0 then s else (s.bump (.trn c) C.TRN_ECC_CE nce).raise (.trn c) 0x100 0 sc (inj = some 1)
  if nue = 0 then (s, false) else ((s.bump (.trn c) C.TRN_ECC_UE nue).raise (.trn c) 0x101 2 sc (inj = some 2), true)

/-- Bytes of other packages as the environment supplies them. -/
def Obs.farGet (o : Obs) (a n : Nat) : List Byte := Store.getList memDefault o.far a n

/-- The first failing status the environment gives for an extent of other packages' memory. -/
def Obs.farStatus (o : Obs) (a n : Nat) : AccStatus :=
  match o.farBad.find? (fun e => a ≤ e.1 && e.1 < a + n) with
  | some e => e.2
  | none => .ok

/-- An engine's read at a physical Tarn offset of its own die (R93, R232). -/
def State.readTarn (s : State) (c : CDie) (sc : Scope) (p : Part) (off len : Nat) (o : Obs) : State × AccStatus × List Byte :=
  if !(s.tarnOk c p off len) then (s, .range, [])
  else
    let (s, ue) := s.tarnEccApply c (o.tarnFindings c off len) sc
    if ue then (s, .tarnUe, []) else (s, .ok, s.tarnGet c off len)

/-- A read of a board address by an engine of die `c` under a partition's tag (R233, R235, R240, R244–R246). An access to another die or package is one step with
its outcome (log entry 79). `wr`: the read is that of an AMO, refused as a write. -/
def State.readBoard (s : State) (c : CDie) (sc : Scope) (p : Part) (a len : Nat) (o : Obs) (wr : Bool := false) : State × AccStatus × List Byte :=
  if !(extentMapped a len) then (s.refuse c p wr a, .range, []) else
  match placeOf a with
  | .unmapped => (s.refuse c p wr a, .range, [])
  | .mem pos d off =>
    if pos != s.pos then (s.emit (.farRead p a len), o.farStatus a len, o.farGet a len)
    else if s.dieDown d then (s.fencedDrop c d, .timeout, [])
    else if !(s.memOk d p off len) then (s.refuse d p wr a, .range, [])
    else
      let (s, ue) := s.eccApply d (s.findings o d off len) sc
      if ue then (s, .memUe, []) else (s, .ok, s.memGet d off len)
  | .tarn pos d off =>
    if pos != s.pos then (s.emit (.farRead p a len), o.farStatus a len, o.farGet a len)
    else if s.dieDown d then (s.fencedDrop c d, .timeout, [])
    else s.readTarn d sc p off len o

/-- Whether a write of an extent is all whole sectors; a partial sector is a read-modify-write (R247). -/
def wholeSectors (off len : Nat) : Bool := off % 32 == 0 && len % 32 == 0

/-- A sector is written in part by an extent (R247). -/
def partSector (c : CDie) (off len sec : Nat) : Bool :=
  (sec * 32 < memKey c off && memKey c off < sec * 32 + 32) || (sec * 32 < memKey c off + len && memKey c off + len < sec * 32 + 32)

/-- The management complex's own accesses of its package's memory: privileged, not range-checked, and no fabric packet (R242). -/
def State.mcPut (s : State) (c : CDie) (off : Nat) (bs : List Byte) : State := (s.heal c off bs.length).memPut c off bs
def State.mcGet (s : State) (c : CDie) (off n : Nat) : List Byte := s.memGet c off n

/-- Write bytes leaving alone every byte of the 64-byte units named (R239, R247). -/
def State.memPutExcept (s : State) (bad : List Nat) (k : Nat) : List Byte → State
  | [] => s
  | b :: r =>
    (if bad.contains (k / 64) then s else { s with mem := Store.set memDefault s.mem k b }).memPutExcept bad (k + 1) r

/-- A write of a die's memory after its checks: partial sectors are read first; a 64-byte unit whose partial sector is uncorrectable is left
unchanged and the write reports MEM_UE with one C2 fault (R239, R247). An injected error is one of the first partial sector (13 R513). -/
def State.commitMem (s : State) (c : CDie) (sc : Scope) (off : Nat) (bs : List Byte) (o : Obs) : State × AccStatus :=
  if wholeSectors off bs.length then ((s.heal c off bs.length).memPut c off bs, .ok)
  else
    let found := (s.findings o c off bs.length).filter (fun f => partSector c off bs.length f.1)
    let ues := (found.filter (fun f => f.2.sym.isNone)).map (·.1)
    let inj := if s.injection (.mem c) 0 = some 2 then [if off % 32 != 0 then memKey c off / 32 else (memKey c off + bs.length) / 32] else []
    let (s, ue) := s.eccApply c found sc
    if ue then (s.memPutExcept (((ues ++ inj).map (· / 2)).eraseDups) (memKey c off) bs, .memUe)
    else ((s.heal c off bs.length).memPut c off bs, .ok)

/-- A write of a board address by an engine of die `c` (R233, R240, R247); another package's bytes leave as packets of the engine (log entry 79). -/
def State.writeBoard (s : State) (c : CDie) (sc : Scope) (p : Part) (a : Nat) (bs : List Byte) (o : Obs) : State × AccStatus :=
  if !(extentMapped a bs.length) then (s.refuse c p true a, .range) else
  match placeOf a with
  | .unmapped => (s.refuse c p true a, .range)
  | .mem pos d off =>
    if pos != s.pos then (s.emit (.farWrite p a bs), o.farStatus a bs.length)
    else if s.dieDown d then (s.fencedDrop c d, .timeout)
    else if !(s.memOk d p off bs.length) then (s.refuse d p true a, .range)
    else s.commitMem d sc off bs o
  | .tarn pos d off =>
    if pos != s.pos then (s.emit (.farWrite p a bs), o.farStatus a bs.length)
    else if s.dieDown d then (s.fencedDrop c d, .timeout)
    else if s.tarnOk d p off bs.length then (s.tarnPut d off bs, .ok) else (s, .range)

/-- An operand of an engine: a board address, or an offset in the partition's Tarn allocation on the die (R94, R96). -/
def State.readOp (s : State) (c : CDie) (sc : Scope) (p : Part) (inTarn : Bool) (a len : Nat) (o : Obs) : State × AccStatus × List Byte :=
  if inTarn then
    let al := s.tarnAlloc c p
    if al.2 < a + len then (s, .range, []) else s.readTarn c sc p (al.1 + a) len o
  else s.readBoard c sc p a len o

def State.writeOp (s : State) (c : CDie) (sc : Scope) (p : Part) (inTarn : Bool) (a : Nat) (bs : List Byte) (o : Obs) : State × AccStatus :=
  if inTarn then
    let al := s.tarnAlloc c p
    if al.2 < a + bs.length || s.partFenced p then (s, .range) else (s.tarnPut c (al.1 + a) bs, .ok)
  else s.writeBoard c sc p a bs o

/-- The completion status an access status gives (R100, R203). -/
def AccStatus.code : AccStatus → Nat
  | .ok => stOK | .range => stRANGE | .memUe => stMEM_UE | .tarnUe => stTARN_UE | .timeout => stTIMEOUT

/-- The response status of an access at its controller (R313). -/
def AccStatus.resp : AccStatus → RespStatus
  | .ok => .ok | .range => .range | .memUe => .memUe | .tarnUe => .tarnUe | .timeout => .range

end Sys2Proof.Machine
end

