-- ==== Sys2Proof/Machine/Operands.lean ====
section
/-! DEFINITION. Descriptors and their checks: sweeps (03 R96–R109, 04 R146–R148), dispatches (05 R205) and DMA (05 R209,
R683), and the layouts of their operands (03 R103). -/

namespace Sys2Proof.Machine

/-- Bits [hi:lo] of 32-bit word `i` of a descriptor. -/
def dw (d : List Byte) (i hi lo : Nat) : Nat := bits (leNat ((d.drop (4 * i)).take 4)) hi lo
/-- The 64-bit field whose low word is word `i`. -/
def dw64 (d : List Byte) (i : Nat) : Nat := leNat ((d.drop (4 * i)).take 8)
/-- Whole word `i`. -/
def dwd (d : List Byte) (i : Nat) : Nat := leNat ((d.drop (4 * i)).take 4)

def dVER (d : List Byte) : Nat := dw d 0 3 0
def dKIND (d : List Byte) : Nat := dw d 0 7 4
def dSPARSE (d : List Byte) : Bool := dw d 0 8 8 == 1
def dSIG_EN (d : List Byte) : Bool := dw d 0 9 9 == 1
def dMSI_EN (d : List Byte) : Bool := dw d 0 10 10 == 1
def dWAIT_PRIOR (d : List Byte) : Bool := dw d 0 11 11 == 1

/-- Sweep fields (R96). -/
def swRND (d : List Byte) : Nat := dw d 0 15 14
def swANCHOR_MODE (d : List Byte) : Nat := dw d 0 17 16
def swANCHOR (d : List Byte) : Int := twos 10 (dw d 0 27 18)
def swACT (d : List Byte) : Nat := dw d 0 31 28
def swFMT_W (d : List Byte) : Nat := dw d 1 7 0
def swFMT_A (d : List Byte) : Nat := dw d 1 15 8
def swFMT_OUT (d : List Byte) : Nat := dw d 1 23 16
def swFMT_ACC (d : List Byte) : Nat := dw d 1 31 24
def swM (d : List Byte) : Nat := dw d 2 23 0
def swK (d : List Byte) : Nat := dwd d 3
def swN (d : List Byte) : Nat := dw d 4 16 0
def swLocW (d : List Byte) : Bool := dw d 4 24 24 == 1
def swLocA (d : List Byte) : Bool := dw d 4 25 25 == 1
def swLocOut (d : List Byte) : Bool := dw d 4 26 26 == 1
def swLocAcc (d : List Byte) : Bool := dw d 4 27 27 == 1
def swLocAux (d : List Byte) : Bool := dw d 4 28 28 == 1
def swMASK_MODE (d : List Byte) : Nat := dw d 5 1 0
def swMASK_FILL (d : List Byte) : Nat := dw d 5 3 2
def swWINDOW (d : List Byte) : Nat := dw d 6 23 0
def swPOS_ROW (d : List Byte) : Nat := dw d 7 23 0
def swPOS_COL (d : List Byte) : Nat := dw d 8 23 0
def swA_STRIDE (d : List Byte) : Nat := dwd d 9
def swOUT_STRIDE (d : List Byte) : Nat := dwd d 10
def swACC_STRIDE (d : List Byte) : Nat := dwd d 11
def swT_W (d : List Byte) : Nat := dwd d 12
def swT_A (d : List Byte) : Nat := dwd d 13
def swT_OUT (d : List Byte) : Nat := dwd d 14
def swTID (d : List Byte) : Nat := dwd d 15
def swSEED (d : List Byte) : Nat := dw64 d 16
def swW_ADDR (d : List Byte) : Nat := dw64 d 18
def swWS_ADDR (d : List Byte) : Nat := dw64 d 20
def swA_ADDR (d : List Byte) : Nat := dw64 d 22
def swAS_ADDR (d : List Byte) : Nat := dw64 d 24
def swOUT_ADDR (d : List Byte) : Nat := dw64 d 26
def swOUTS_ADDR (d : List Byte) : Nat := dw64 d 28
def swACC_ADDR (d : List Byte) : Nat := dw64 d 30
def swAUX_ADDR (d : List Byte) : Nat := dw64 d 32
def swCOMPL (d : List Byte) : Nat := dw64 d 34
def swTAG (d : List Byte) : Nat := dw d 39 15 0

/-- Kinds (R97). -/
def kGEMM_WS : Nat := 0
def kGEMM_OS : Nat := 1
def kATTN : Nat := 2
def kTILE_LOAD : Nat := 3
def kTILE_STORE : Nat := 4
def kTRANSPOSE : Nat := 5

/-- Attention extension fields (04 R146). -/
def atOP (d : List Byte) : Nat := dw d 48 3 0
def atPOUT (d : List Byte) : Bool := dw d 48 4 4 == 1
def atROPE (d : List Byte) : Nat := dw d 48 6 5
def atPT_LOC (d : List Byte) : Bool := dw d 48 7 7 == 1
def atPAIRS (d : List Byte) : Nat := dw d 48 15 8
def atGROUP (d : List Byte) : Nat := dw d 48 22 16
def atSCALE (d : List Byte) : Nat := dwd d 49
def atQ_POS (d : List Byte) : Nat := dwd d 50
def atKV_POS (d : List Byte) : Nat := dwd d 51
def atPAGES (d : List Byte) : Nat := dw d 52 18 0
def atSEQ (d : List Byte) : Nat := dwd d 53
def atLAYER (d : List Byte) : Nat := dw d 54 7 0
def atHEAD (d : List Byte) : Nat := dw d 54 15 8
def atSHARDS (d : List Byte) : Nat := dw d 54 24 16
def atPT_ADDR (d : List Byte) : Nat := dw64 d 56
def atPART_ADDR (d : List Byte) : Nat := dw64 d 58
def atV_ADDR (d : List Byte) : Nat := dw64 d 60

/-- Rounded up to a multiple of 64. -/
def pad64 (n : Nat) : Nat := (n + 63) / 64 * 64

/-- A 16-bit format (R58). -/
def Fmt.is16 : Fmt → Bool | .fp16 => true | .bf16 => true | _ => false
/-- A block-scaled format (R51). -/
def Fmt.isBlock (f : Fmt) : Bool := f.blockL != 0 && f != .kv4
/-- A 4-bit element format other than T2 (R58). -/
def Fmt.is4 : Fmt → Bool | .mxfp4 => true | .sb4 => true | .int4b => true | _ => false

/-- The pair is summed in the binary32 fixed tree (R58). -/
def fixedTree (w : Fmt) : Bool := w.is16

/-- The operand pairs the array accepts (R58). -/
def pairOk (w a : Fmt) : Bool :=
  (w == .t2 && a.isBlock && a != .t2) || (w.isBlock && w != .t2 && a.isBlock && a != .t2) || (w.is16 && a.is16)

/-- Tile K of a weight format (R90). R90 names operand pairs; for a FP32 operand of a tile-major TRANSPOSE, whose format is in no pair, it is 1,024: DESIGN
CHOICE (log entry 76). -/
def tileK (w : Fmt) (sparse : Bool) : Nat := if w == .t2 then 2048 else if sparse then 2048 else 1024


/-- Bytes of one weight tile (R103). -/
def tileBytes (w : Fmt) (sparse : Bool) : Nat :=
  if sparse then 1024 * (tileK w sparse / 2) * (w.width + 2) / 8 else 1024 * tileK w sparse * w.width / 8

/-- Bytes of one tile's weight scales, padded (R103). -/
def tileScaleBytes (w : Fmt) (sparse : Bool) : Nat := if w.isBlock then pad64 (1024 * (tileK w sparse / w.blockL)) else 0

/-- Bytes of a row of n elements padded to whole blocks (R53, R103). -/
def rowBytes (f : Fmt) (n : Nat) : Nat :=
  let m := if f.blockL = 0 then n else ceilDiv n f.blockL * f.blockL
  (m * f.width + 7) / 8

/-- Bytes of a row's scales, padded (R103). -/
def scaleRowBytes (f : Fmt) (n : Nat) : Nat := if f.isBlock then pad64 (ceilDiv n f.blockL) else 0

/-- A per-tensor scale is positive, finite and normal (R54). -/
def normalPos (c : Nat) : Bool := c >>> 31 == 0 && bits c 30 23 != 0 && bits c 30 23 != 255

/-- Words and fields that are reserved in every sweep descriptor (R96). -/
def swReservedZero (d : List Byte) : Bool :=
  dw d 0 13 12 == 0 && dw d 4 23 17 == 0 && dw d 4 31 29 == 0 && dw d 5 31 4 == 0 && dw d 6 31 24 == 0 && dw d 7 31 24 == 0 &&
  dw d 8 31 24 == 0 && dw d 38 15 6 == 0 && dw d 38 31 27 == 0 && dw d 39 31 16 == 0 &&
  ((d.drop 160).take 32).all (· == 0) && (dKIND d == kATTN || (d.drop 192).all (· == 0))

/-- Words `is` are all zero. -/
def zeroWords (d : List Byte) (is : List Nat) : Bool := is.all (fun i => dwd d i == 0)

def aligned (n a : Nat) : Bool := a % n == 0

/-- The anchored output formats and the fixed-tree ones (R60). -/
def outOkAnchored (f : Fmt) : Bool := f != .none && f != .t2 && f != .kv4
def outOkTree (f : Fmt) : Bool := outOkAnchored f && f != .a128 && f != .a64

/-- The accumulation block size of a pair (R59). -/
def accL (w a : Fmt) : Nat := min w.blockL a.blockL

/-- ACT names an output function (R121). -/
def actOk (d : List Byte) : Bool := swACT d ≤ 5 || swACT d == 15

/-- The mask fields (R98, R118). -/
def maskOk (d : List Byte) (o : Fmt) : Bool :=
  swMASK_MODE d != 3 && (swMASK_MODE d == 0 || decide (swPOS_ROW d + swM d - 1 < 2 ^ 24 ∧ swPOS_COL d + swN d - 1 < 2 ^ 24)) &&
  (swMASK_MODE d != 2 || swWINDOW d != 0) &&
  decide (swMASK_FILL d < 2) && (swMASK_FILL d == 0 || o == .fp32 || o == .fp16 || o == .bf16)

/-- The check of GEMM_WS and GEMM_OS descriptors (R98). A SCAN_ONLY sweep meets the same checks, its output fields included: DESIGN CHOICE (log entry 76). -/
def gemmOk (d : List Byte) (w a o : Fmt) (acc : Fmt) : Bool :=
  let tree := fixedTree w
  let sp := dSPARSE d
  let k := swK d
  let n := swN d
  let m := swM d
  pairOk w a && !(sp && w == .t2) &&
  (if tree then outOkTree o && (acc == .none || acc == .fp32) && swANCHOR_MODE d == 0 && dw d 0 27 18 == 0
   else outOkAnchored o && (acc == .none || acc == .a128 || acc == .a64 || acc == .fp32) && swANCHOR_MODE d != 3 &&
     (acc == .none || swANCHOR_MODE d == 0) &&
     decide (ceilDiv k (accL w a) + (if acc == .none then 0 else 1) ≤ 2 ^ 24)) &&
  (dKIND d != kGEMM_WS || decide (k ≤ tileK w sp)) &&
  actOk d && (!(o == .a128 || o == .a64) || swACT d ≤ 1) && maskOk d o &&
  (if w == .sb4 then normalPos (swT_W d) else swT_W d == 0) && (if a == .sb4 then normalPos (swT_A d) else swT_A d == 0) &&
  (if o == .sb4 then normalPos (swT_OUT d) else swT_OUT d == 0) &&
  (w.isBlock || swWS_ADDR d == 0) && (a.isBlock || swAS_ADDR d == 0) && (o.isBlock || swOUTS_ADDR d == 0) &&
  (acc != .none || (swACC_ADDR d == 0 && swACC_STRIDE d == 0)) && (swACT d == 15 || swAUX_ADDR d == 0) &&
  decide (rowBytes a k ≤ swA_STRIDE d) && decide (rowBytes o n ≤ swOUT_STRIDE d) &&
  (acc == .none || decide (n * acc.width / 8 ≤ swACC_STRIDE d))

/-- The check of TILE_LOAD and TILE_STORE (R108): the operand, format, stride and scale fields they do not use are zero; RND, TID, SEED and a mask that R98
accepts have no effect. -/
def tileCopyOk (d : List Byte) (w a o acc : Fmt) : Bool :=
  (w.isBlock || w.is16) && a == .none && o == .none && acc == .none && !(dSPARSE d && w == .t2) &&
  swANCHOR_MODE d == 0 && dw d 0 27 18 == 0 && actOk d && maskOk d o && !(swLocW d) && swLocOut d && !(swLocA d) &&
  !(swLocAcc d) && !(swLocAux d) && zeroWords d [9, 10, 11, 12, 13, 14, 22, 23, 24, 25, 30, 31, 32, 33] &&
  (w.isBlock || (swWS_ADDR d == 0 && swOUTS_ADDR d == 0))

/-- The check of TRANSPOSE (R109). -/
def transposeOk (d : List Byte) (w a o acc : Fmt) : Bool :=
  (a == .fp32 || a == .fp16 || a == .bf16) && o != .t2 && o != .kv4 && o != .a128 && o != .a64 && o != .none && acc == .none &&
  (w == .none || w == o) && !(dSPARSE d) && swANCHOR_MODE d == 0 && dw d 0 27 18 == 0 && swACT d == 0 &&
  zeroWords d [5, 6, 7, 8, 11, 12, 13, 18, 19, 20, 21, 24, 25, 30, 31, 32, 33] &&
  (if o == .sb4 then normalPos (swT_OUT d) else swT_OUT d == 0) && (o.isBlock || swOUTS_ADDR d == 0) &&
  decide (rowBytes a (swK d) ≤ swA_STRIDE d) &&
  (if w == .none then decide (rowBytes o (swM d) ≤ swOUT_STRIDE d) else swOUT_STRIDE d == 0)

/-- d of an attention sweep is 64, 128 or 256 and N = K (04 R147). -/
def headDimOk (d : List Byte) : Bool := (swK d == 64 || swK d == 128 || swK d == 256) && swN d == swK d

/-- Outputs of ATTEND and COMBINE (R147). -/
def attnOutOk (d : List Byte) (o : Fmt) : Bool :=
  if atPOUT d then o == .none && zeroWords d [10, 14, 26, 27, 28, 29]
  else (o == .fp32 || o == .fp16 || o == .bf16 || (o.isBlock && o != .t2)) &&
    (if o == .sb4 then normalPos (swT_OUT d) else swT_OUT d == 0) && (o.isBlock || swOUTS_ADDR d == 0) &&
    decide (rowBytes o (swK d) ≤ swOUT_STRIDE d)

/-- The check of ATTN descriptors (R146–R148). -/
def attnOk (d : List Byte) (w a o acc : Fmt) : Bool :=
  let dd := swK d
  let op := atOP d
  let ropeOk := if atROPE d = 0 then atPAIRS d == 0 && swAUX_ADDR d == 0 else atROPE d != 3 && atPAIRS d != 0 && decide (atPAIRS d ≤ dd / 2)
  dw d 48 31 23 == 0 && dw d 52 31 19 == 0 && dw d 54 31 25 == 0 && zeroWords d [7, 8, 11, 12, 13, 18, 19, 20, 21, 30, 31, 55, 62, 63] &&
  !(dSPARSE d) && swACT d == 0 && acc == .none && !(swLocW d) && swMASK_FILL d == 0 && headDimOk d &&
  aligned 64 (atPT_ADDR d) && aligned 64 (atPART_ADDR d) && aligned 64 (atV_ADDR d) &&
  (if op = 0 then
    w == .kv4 && (a == .fp16 || a == .bf16 || a == .e4m3) && attnOutOk d o && swANCHOR_MODE d != 3 && swMASK_MODE d != 3 &&
    (swMASK_MODE d != 2 || swWINDOW d != 0) && decide (1 ≤ atGROUP d ∧ atGROUP d ≤ 64) && swM d % atGROUP d == 0 && ropeOk &&
    normalPos (atSCALE d) && decide (1 ≤ atPAGES d ∧ atPAGES d ≤ 262144) && decide (atKV_POS d + 64 * atPAGES d ≤ 2 ^ 32) &&
    decide (atQ_POS d + swM d / atGROUP d ≤ 2 ^ 32) && atSHARDS d == 0 && (atPOUT d || atPART_ADDR d == 0) && atV_ADDR d == 0 &&
    (a.isBlock || swAS_ADDR d == 0) && decide (rowBytes a dd ≤ swA_STRIDE d)
  else if op = 1 then
    w == .none && a == .none && attnOutOk d o && swANCHOR_MODE d == 0 && dw d 0 27 18 == 0 && swMASK_MODE d == 0 && swWINDOW d == 0 &&
    atROPE d == 0 && atPAIRS d == 0 && atGROUP d == 0 && zeroWords d [9, 22, 23, 24, 25, 32, 33, 49, 50, 51, 52, 53, 56, 57, 60, 61] &&
    atLAYER d == 0 && atHEAD d == 0 && !(atPT_LOC d) && decide (1 ≤ atSHARDS d ∧ atSHARDS d ≤ 256)
  else if op = 2 then
    w == .kv4 && (a == .fp32 || a == .fp16 || a == .bf16) && o == .none && !(atPOUT d) && swANCHOR_MODE d == 0 && dw d 0 27 18 == 0 &&
    swMASK_MODE d == 0 && swWINDOW d == 0 && atGROUP d == 0 && ropeOk && atSCALE d == 0 && atSHARDS d == 0 && atPART_ADDR d == 0 &&
    zeroWords d [10, 14, 24, 25, 26, 27, 28, 29] && decide (1 ≤ atPAGES d ∧ atPAGES d ≤ 262144) &&
    decide (atKV_POS d + 64 * atPAGES d ≤ 2 ^ 32) && decide (atKV_POS d ≤ atQ_POS d) &&
    decide (atQ_POS d + swM d ≤ atKV_POS d + 64 * atPAGES d) && decide (rowBytes a dd ≤ swA_STRIDE d)
  else false)

/-- Alignment of R104. -/
def swAligned (d : List Byte) : Bool :=
  [swW_ADDR d, swWS_ADDR d, swA_ADDR d, swAS_ADDR d, swOUT_ADDR d, swOUTS_ADDR d, swACC_ADDR d, swAUX_ADDR d,
   swA_STRIDE d, swOUT_STRIDE d, swACC_STRIDE d].all (aligned 64) && aligned 32 (swCOMPL d)

/-- The descriptor check of a sweep (R98, R148) but for Tarn extents. -/
def sweepDescOk (d : List Byte) : Bool :=
  dVER d == 1 && decide (dKIND d ≤ 5) && decide (swRND d < 2) && swReservedZero d && decide (1 ≤ swM d) && decide (1 ≤ swK d) &&
  decide (1 ≤ swN d ∧ swN d ≤ 65536) && swAligned d &&
  match Fmt.ofCode (swFMT_W d), Fmt.ofCode (swFMT_A d), Fmt.ofCode (swFMT_OUT d), Fmt.ofCode (swFMT_ACC d) with
  | some w, some a, some o, some acc =>
    if dKIND d ≤ 1 then gemmOk d w a o acc
    else if dKIND d = kATTN then attnOk d w a o acc
    else if dKIND d ≤ 4 then tileCopyOk d w a o acc
    else transposeOk d w a o acc
  | _, _, _, _ => false

/-- A format code that the check has accepted. -/
def fmtOf (c : Nat) : Fmt := (Fmt.ofCode c).getD .none

/-- ACLK cycles between successive rows entering the array (R90, R109, 04 R168–R170); 0 for the kinds and operations that place nothing in it (R130). -/
def rowRate (d : List Byte) : Nat :=
  let w := fmtOf (swFMT_W d)
  let a := fmtOf (swFMT_A d)
  if dKIND d ≤ 1 then (if w.is16 then 4 else if w == .t2 then (if a.is4 then 1 else 4) else if w.is4 && a.is4 then 1 else 2)
  else if dKIND d = kATTN then (if atOP d = 0 then 2 else 0)
  else if dKIND d = kTRANSPOSE then 4 else 0

/-- Tiles along K and along N (R103, R108). -/
def tilesK (d : List Byte) : Nat := ceilDiv (swK d) (tileK (fmtOf (swFMT_W d)) (dSPARSE d))
def tilesN (d : List Byte) : Nat := ceilDiv (swN d) 1024

/-- The partial record size (R176). -/
def partRecBytes (dd : Nat) : Nat := pad64 (64 + 48 * (dd + 1))

/-- The Tarn extents of LOC = 1 operands: offset and length (R98). -/
def tarnExtents (d : List Byte) : List (Nat × Nat) :=
  let w := fmtOf (swFMT_W d)
  let a := fmtOf (swFMT_A d)
  let o := fmtOf (swFMT_OUT d)
  let acc := fmtOf (swFMT_ACC d)
  let m := swM d
  let k := swK d
  let n := swN d
  let tiles := tilesK d * tilesN d
  let wb := tiles * tileBytes w (dSPARSE d)
  let wsb := tiles * tileScaleBytes w (dSPARSE d)
  let rows (stride row : Nat) : Nat := (m - 1) * stride + row
  let on (b : Bool) (e : List (Nat × Nat)) : List (Nat × Nat) := if b then e else []
  if dKIND d ≤ 1 then
    on (swLocW d) [(swW_ADDR d, wb), (swWS_ADDR d, wsb)] ++
    on (swLocA d) [(swA_ADDR d, rows (swA_STRIDE d) (rowBytes a k)), (swAS_ADDR d, m * scaleRowBytes a k)] ++
    (if swANCHOR_MODE d = 2 then [] else
      on (swLocOut d) [(swOUT_ADDR d, rows (swOUT_STRIDE d) (rowBytes o n)), (swOUTS_ADDR d, m * scaleRowBytes o n)]) ++
    on (swLocAcc d && acc != .none) [(swACC_ADDR d, rows (swACC_STRIDE d) (n * acc.width / 8))] ++
    on (swLocAux d && swACT d == 15) [(swAUX_ADDR d, 1296)]
  else if dKIND d = kATTN then
    let rs := if atOP d = 1 then (atSHARDS d + (if atPOUT d then 1 else 0)) * m * partRecBytes k else m * partRecBytes k
    on (swLocA d && atOP d != 1) ([(swA_ADDR d, rows (swA_STRIDE d) (rowBytes a k)), (swAS_ADDR d, m * scaleRowBytes a k)] ++
      (if atOP d = 2 then [(atV_ADDR d, rows (swA_STRIDE d) (rowBytes a k))] else [])) ++
    on (swLocOut d && !(atPOUT d) && atOP d != 2) [(swOUT_ADDR d, rows (swOUT_STRIDE d) (rowBytes o k)), (swOUTS_ADDR d, m * scaleRowBytes o k)] ++
    on (swLocAcc d && (atPOUT d || atOP d == 1)) [(atPART_ADDR d, rs)] ++
    on (swLocAux d && atROPE d != 0) [(swAUX_ADDR d, pad64 (8 * atPAIRS d))] ++
    on (atPT_LOC d && atOP d != 1) [(atPT_ADDR d, 8 * atPAGES d)]
  else if dKIND d ≤ 4 then [(swOUT_ADDR d, wb), (swOUTS_ADDR d, wsb)]
  else
    on (swLocA d) [(swA_ADDR d, rows (swA_STRIDE d) (rowBytes a k))] ++
    on (swLocOut d) (if w = .none then [(swOUT_ADDR d, (k - 1) * swOUT_STRIDE d + rowBytes o m), (swOUTS_ADDR d, k * scaleRowBytes o m)]
      else [(swOUT_ADDR d, ceilDiv k (tileK o false) * ceilDiv m 1024 * tileBytes o false),
            (swOUTS_ADDR d, ceilDiv k (tileK o false) * ceilDiv m 1024 * tileScaleBytes o false)])

/-- The check of a vector dispatch descriptor (05 R202, R205). -/
def dispatchDescOk (d : List Byte) : Bool :=
  dVER d == 1 && dKIND d == 0 && dw d 0 8 8 == 0 && dw d 0 31 12 == 0 && dwd d 1 != 0 && aligned 4 (dw64 d 2) && aligned 32 (dw64 d 6) &&
  dw d 10 15 6 == 0 && dw d 10 31 27 == 0 && dw d 11 31 16 == 0 && zeroWords d [13, 14, 15]

/-- DMA fields (05 R209). -/
def dmABORT (d : List Byte) : Bool := dw d 0 12 12 == 1
def dmREMOTE (d : List Byte) : Bool := dw d 0 13 13 == 1
def dmRETRY (d : List Byte) : Nat := dw d 0 19 16
def dmCHUNK (d : List Byte) : Nat := 0x10000 <<< dw d 0 23 20
def dmSRC_TARN (d : List Byte) : Bool := dw d 0 24 24 == 1
def dmDST_TARN (d : List Byte) : Bool := dw d 0 25 25 == 1
def dmDST_COORD (d : List Byte) : Coord := BitVec.ofNat 32 (dwd d 1)
def dmLEN (d : List Byte) : Nat := dwd d 2
def dmTAG (d : List Byte) : Nat := dw d 3 15 0
def dmFAN_N (d : List Byte) : Nat := dw d 3 22 16
def dmSRC (d : List Byte) : Nat := dw64 d 4
def dmDST (d : List Byte) : Nat := dw64 d 6
def dmCOMPL (d : List Byte) : Nat := dw64 d 12
/-- Signal fields of dispatch and DMA descriptors (R205, R209). -/
def qSIG_DST (d : List Byte) : Coord := BitVec.ofNat 32 (dwd d 8)
def qSIG_CAIRN (d : List Byte) : Nat := dw d 9 15 0
def qSIG_GEN (d : List Byte) : BitVec 16 := BitVec.ofNat 16 (dw d 9 31 16)
def qSIG_BIT (d : List Byte) : Nat := dw d 10 5 0
def qMSI_VEC (d : List Byte) : Nat := dw d 10 26 16
/-- Chunks of a transfer (R211). -/
def dmChunks (d : List Byte) : Nat := ceilDiv (dmLEN d) (dmCHUNK d)

/-- The check of a DMA descriptor (R202, R209, R683). -/
def dmaDescOk (d : List Byte) : Bool :=
  let k := dKIND d
  let sigZero := zeroWords d [8, 9] && dw d 10 5 0 == 0
  let common := dVER d == 1 && dw d 0 8 8 == 0 && dw d 0 15 14 == 0 && dw d 0 31 26 == 0 && dw d 3 31 23 == 0 && dw d 10 15 6 == 0 &&
    dw d 10 31 27 == 0 && zeroWords d [11, 14, 15] && aligned 64 (dmCOMPL d) && (decide (dmRETRY d < 8) || dmRETRY d == 15)
  let lenOk := dmLEN d % 64 == 0 && decide (64 ≤ dmLEN d) && decide (dw d 0 23 20 ≤ 8) && decide (dmChunks d ≤ 256)
  let xfer := lenOk && aligned 64 (dmSRC d) && aligned 64 (dmDST d) && (dSIG_EN d || dmABORT d || sigZero)
  common &&
  (if k = 0 then xfer && dmFAN_N d == 0 && (if dmREMOTE d then !(dmDST_TARN d) else dmDST_COORD d == 0)
   else if k = 1 then xfer && dmFAN_N d == 0 && dmREMOTE d && !(dmSRC_TARN d)
   else if k = 2 then xfer && decide (1 ≤ dmFAN_N d ∧ dmFAN_N d ≤ 64) && !(dmREMOTE d) && dmDST_COORD d == 0
   else if k = 3 then dSIG_EN d && !(dmABORT d) && !(dmREMOTE d) && dw d 0 23 20 == 0 && !(dmSRC_TARN d) && !(dmDST_TARN d) &&
     zeroWords d [1, 2, 4, 5, 6, 7] && dmFAN_N d == 0
   else if k = 4 then !(dSIG_EN d) && !(dmABORT d) && dmRETRY d == 0 && dw d 0 23 20 == 0 && !(dmSRC_TARN d) && !(dmDST_TARN d) && dmLEN d == 0 &&
     dmFAN_N d == 0 && dwd d 8 == 0 && dw d 10 5 0 == 0 && decide (dmDST d < 2 ^ 19) && (dmREMOTE d || (dmDST d == 0 && dmDST_COORD d == 0))
   else false)

end Sys2Proof.Machine
end

