-- ==== Sys2Proof/Machine/Accum.lean ====
section
/-! DEFINITION. Anchored accumulation, the fixed tree, output functions, masks and the writing of output rows (02 R59–R83, 03
R103–R129). -/

namespace Sys2Proof.Machine

/-- The group of a physical line: rows in groups of 65, columns of 33 (R86). -/
def groupSize (col : Bool) : Nat := if col then 33 else 65
def lineGroup (l : Bool × Nat) : Bool × Nat := (l.1, l.2 / groupSize l.1)

/-- The line a group leaves unused: its failed line, else its highest (R87). -/
def ArraySt.unused (a : ArraySt) (col : Bool) (g : Nat) : Nat :=
  match a.failed.find? (fun l => lineGroup l == (col, g)) with
  | some l => l.2
  | none => g * groupSize col + (groupSize col - 1)

/-- The physical line of logical line n: the lines of a group map in ascending order onto those that are used (R87). -/
def ArraySt.phys (a : ArraySt) (col : Bool) (n : Nat) : Nat :=
  let g := n / (groupSize col - 1)
  let p := g * groupSize col + n % (groupSize col - 1)
  if p < a.unused col g then p else p + 1

/-- The logical line a physical line presents; none for an unused one (R87). -/
def ArraySt.logical (a : ArraySt) (col : Bool) (p : Nat) : Option Nat :=
  let g := p / groupSize col
  let u := a.unused col g
  if p = u then none else some (g * (groupSize col - 1) + p % groupSize col - (if u < p then 1 else 0))

/-- The lowest of two statuses, 0 meaning none (R101). -/
def errMin (a b : Nat) : Nat := if a = 0 then b else if b = 0 then a else min a b

/-- The running result of reading and computing within one pass: the state with its findings, the sticky flags, and the status of the
first error, which ends the work of the pass; with `tie` its errors are detected in one cycle and the lowest status wins (R101). -/
structure PassRes where
  s : State
  flags : Flags := {}
  err : Nat := 0
  tie : Bool := false
  /-- Every status detected, for the fault hub (R101). -/
  errs : List Nat := []
  /-- Extents committed, and KV4 pages read (R100, R165). -/
  wrote : List (Bool × Nat × Nat) := []
  seen : List (Bool × Nat × List Byte) := []
  /-- The physical faults of the pass (log entry 1). -/
  ups : PassUpset := {}
  /-- The checksum row, by reduction index of the tile, and the sums the columns produced (R128). -/
  rowSum : List Int := []
  colSum : List Int := []
  /-- Findings: the physical row, where named, and column of a product or column mismatch; columns of a residue mismatch (R126, R128, R129). -/
  prodBad : List (Option Nat × Nat) := []
  resBad : List Nat := []

def PassRes.flag (r : PassRes) (f : Flags) : PassRes := { r with flags := r.flags.or f }
def PassRes.fail (r : PassRes) (st : Nat) : PassRes :=
  if st = 0 then r else
  { r with err := if r.tie then errMin r.err st else if r.err = 0 then st else r.err, errs := if r.errs.contains st then r.errs else r.errs ++ [st] }
/-- The pass has met its first error and nothing further is done in it. -/
def PassRes.past (r : PassRes) : Bool := r.err != 0 && !r.tie

/-- Read an operand within a pass: none where the read fails, with its status. -/
def PassRes.readOk (r : PassRes) (c : CDie) (q : QRef) (loc : Bool) (a len : Nat) (o : Obs) : PassRes × Option (List Byte) :=
  if len = 0 then (r, some []) else if r.past then (r, none) else
  let (s, st, bs) := r.s.readOp c ⟨some q.part, some q.ctx⟩ q.part loc a len o
  (PassRes.fail { r with s := s } st.code, if st = .ok then some bs else none)

/-- The same with zero bytes for a failed read. -/
def PassRes.read (r : PassRes) (c : CDie) (q : QRef) (loc : Bool) (a len : Nat) (o : Obs) : PassRes × List Byte :=
  let (r, b) := r.readOk c q loc a len o
  (r, b.getD (List.replicate len 0))

/-- Commit bytes within a pass. -/
def PassRes.write (r : PassRes) (c : CDie) (q : QRef) (loc : Bool) (a : Nat) (bs : List Byte) (o : Obs) : PassRes :=
  if bs.isEmpty || r.past then r else
  let (s, st) := r.s.writeOp c ⟨some q.part, some q.ctx⟩ q.part loc a bs o
  PassRes.fail { r with s := s, wrote := if st = .ok then r.wrote ++ [(loc, a, bs.length)] else r.wrote } st.code

/-- One element product in units of the two formats (R71): none where no product is formed. -/
inductive Prod where
  | fin (m : Int) | inf (neg : Bool) | nan
  deriving DecidableEq, Repr

def elNeg : El → Bool | .fin m => decide (m < 0) | .inf n => n | .nan => false

def mulEl (a b : El) : Prod :=
  match a, b with
  | .nan, _ => .nan
  | _, .nan => .nan
  | .fin x, .fin y => .fin (x * y)
  | .inf n, .fin y => if y = 0 then .nan else .inf (n != decide (y < 0))
  | .fin x, .inf n => if x = 0 then .nan else .inf (n != decide (x < 0))
  | .inf m, .inf n => .inf (m != n)

/-- The sum of a block's products with the special states met. -/
structure BlockSum where
  m : Int := 0
  posInf : Bool := false
  negInf : Bool := false
  nan : Bool := false
  deriving DecidableEq, Repr

def BlockSum.add (b : BlockSum) : Prod → BlockSum
  | .fin m => { b with m := b.m + m }
  | .inf true => { b with negInf := true }
  | .inf false => { b with posInf := true }
  | .nan => { b with nan := true }

/-- Truncation of m × 2^e to the grid 2^anchor with saturation (R62): q, INX, OVF. -/
def quantise (m e anchor : Int) : Int × Bool × Bool :=
  let (q, inx) := if anchor ≤ e then (m * 2 ^ (e - anchor).toNat, false)
    else (Int.tdiv m (2 ^ (anchor - e).toNat), decide (Int.tmod m (2 ^ (anchor - e).toNat) ≠ 0))
  ((sat128 q).1, inx, (sat128 q).2)

/-- The parity bit of a fixed-tree entry (R126). -/
def parity32 (n : Nat) : Bool := (List.range 32).foldl (fun b i => b != n.testBit i) false

/-- A fixed-tree entry with its parity bit (R75, R126). -/
def AccEntry.tree (a : AccEntry) (v : Nat) : AccEntry := { a with f32 := v, par := parity32 v }

/-- The sum of a value into an anchored entry, with the entry's value modulo 7 (R62, R126). -/
def AccEntry.plus (a : AccEntry) (q : Int) : AccEntry := { a with q := a.q + q, m7 := (a.m7 + (q % 7).toNat) % 7 }

/-- An entry agrees with its residue or parity bit (R126). -/
def AccEntry.sound (isTree : Bool) (a : AccEntry) : Bool := if isTree then parity32 a.f32 == a.par else a.q % 7 == a.m7

/-- A bit of an entry flips: of 152 bits of an anchored one, of 32 of a fixed-tree one (R63, R75; log entry 1). -/
def AccEntry.flip (isTree : Bool) (a : AccEntry) (b : Nat) : AccEntry :=
  if isTree then { a with f32 := a.f32 ^^^ 2 ^ (b % 32) } else { a with q := twos 152 ((a.q % 2 ^ 152).toNat ^^^ 2 ^ b) }

/-- One accumulation block enters a column (R61, R62, R71). -/
def AccEntry.addBlock (a : AccEntry) (b : BlockSum) (mant : Nat) (e anchor : Int) : AccEntry × Flags :=
  if b.nan then ({ a with nan := true }, {})
  else if b.posInf || b.negInf then ({ a with posInf := a.posInf || b.posInf, negInf := a.negInf || b.negInf }, {})
  else
    let (q, inx, ovf) := quantise (b.m * mant) e anchor
    (a.plus q, { inx := inx, ovf := ovf })

/-- A weight tile's element of column j at tile-relative index i: the element, no product, and INV (R103, R116, R117). -/
def tileElem (w : Fmt) (sparse : Bool) (t : List Byte) (j i : Nat) : Option El × Bool :=
  let tk := tileK w sparse
  if !sparse then
    let (x, inv) := w.decode (elemAt w.width t (j * tk + i))
    (some x, inv)
  else
    let half := tk / 2
    let base := j * half + (i / 4) * 2
    let plane := t.drop (1024 * half * w.width / 8)
    let i0 := elemAt 2 plane base
    let i1 := elemAt 2 plane (base + 1)
    if i0 = i % 4 then ((some (w.decode (elemAt w.width t base)).1), i0 == i1)
    else if i1 = i % 4 then ((some (w.decode (elemAt w.width t (base + 1))).1), false)
    else (none, i0 == i1)

/-- Significand and exponent of a positive normal binary32 per-tensor scale; 1 for a format without one (R51, R61). -/
def tensorScale (f : Fmt) (t : Nat) : Nat × Int := if f == .sb4 then ((floatMag 8 23 t).toNat, -149) else (1, 0)

/-- An element as the column checksum sees it: its integer, nothing for a special (R128). -/
def elInt : El → Int | .fin m => m | _ => 0

/-- The first reduction index that logical row k of a tile serves (R90, R117). -/
def cellIndex (w : Fmt) (sparse : Bool) (k : Nat) : Nat := if w == .t2 then 2 * k else if sparse then k / 2 * 4 else k

/-- The contributions of one tile to one column for one row, and the sum of the unscaled products for R128: blocks in ascending order (R59, R61, R71). `row`
holds the row's elements from the tile's first reduction index, `rs` its scales from the tile's first block; `n` the reduction indices below K; `dl` what
physical faults add to products, by reduction index. -/
def tileColumn (d : List Byte) (anchor : Int) (t : Tile) (row rs : List Byte) (n j : Nat) (dl : List (Nat × Int)) (a0 : AccEntry) : AccEntry × Flags × Int :=
  let w := fmtOf (swFMT_W d)
  let a := fmtOf (swFMT_A d)
  let sp := dSPARSE d
  let l := accL w a
  let (tw, twe) := tensorScale w (swT_W d)
  let (ta, tae) := tensorScale a (swT_A d)
  (List.range (ceilDiv n l)).foldl (fun (acc : AccEntry × Flags × Int) b =>
    let sw := w.scale (t.ws.getD (j * (tileK w sp / w.blockL) + b * l / w.blockL) 0).toNat
    let sa := a.scale (rs.getD (b * l / a.blockL) 0).toNat
    let idx := (List.range l).map (· + b * l) |>.filter (· < n)
    let elems := idx.map (fun i => (tileElem w sp t.w j i, (a.decode (elemAt a.width row i)).1))
    let inv := elems.any (fun e => e.1.2) || sw.inv || sa.inv
    let zeroed (sc : ScaleV) (x : El) : El := if sc.mant = 0 && !sc.nan then .fin 0 else x
    let prod (x y : El) : Prod := match x, y with | .fin p, .fin q => .fin (p * q) | _, _ => mulEl (zeroed sw x) (zeroed sa y)
    let sum := elems.foldl (fun (bs : BlockSum) e => match e.1.1 with
      | some x => bs.add (prod x e.2) | none => bs) {}
    let sum := { sum with m := sum.m + ((dl.filter (fun u => u.1 / l == b)).map (·.2)).sum }
    let sum := if sw.nan || sa.nan then { sum with nan := true } else sum
    let r := acc.1.addBlock sum (sw.mant * sa.mant * tw * ta) (w.unit + a.unit + sw.exp + sa.exp + twe + tae) anchor
    (r.1, (acc.2.1.or r.2).or { inv := inv }, acc.2.2 + sum.m)) (a0, {}, 0)

/-- The checksum row's result for column j (R128). -/
def checksumOf (d : List Byte) (t : Tile) (rowSum : List Int) (j : Nat) : Int :=
  let w := fmtOf (swFMT_W d)
  ((List.range rowSum.length).map (fun i => match (tileElem w (dSPARSE d) t.w j i).1 with | some x => elInt x * rowSum.getD i 0 | none => 0)).sum

/-- Pairwise sums, `n` levels (R75). -/
def treeSum : Nat → List Nat → Nat
  | 0, xs => xs.headD 0
  | n + 1, xs => f32Add (treeSum n (xs.take (2 ^ n))) (treeSum n (xs.drop (2 ^ n)))

/-- Signed significand and exponent of a finite FP16 or BF16 code (R47, R129). -/
def sigOf (f : Fmt) (code : Nat) : Option (Int × Int) :=
  let (eb, mb) := if f == .fp16 then (5, 10) else (8, 7)
  let e := (code >>> mb) % 2 ^ eb
  if e = 2 ^ eb - 1 then none else
  let m : Nat := code % 2 ^ mb + (if e = 0 then 0 else 2 ^ mb)
  some (if (code >>> (eb + mb)) % 2 = 1 then -(m : Int) else m, ((max e 1 - 1 : Nat) : Int) + f.unit)

/-- A product of the fixed tree, with what a physical fault adds to its integer significand, and whether the cell's residue check modulo 3 finds it
(R74, R129). -/
def treeProd (w a : Fmt) (kw ka : Nat) (delta : Int) : Nat × Bool :=
  match sigOf w kw, sigOf a ka, decide (delta = 0) with
  | some x, some y, false =>
    let p := x.1 * y.1 + delta
    (f32Round (Ex.dy p (x.2 + y.2)) false, p % 3 != (x.1 % 3) * (y.1 % 3) % 3)
  | _, _, _ => (f32Mul (w.value kw).toF32 (a.value ka).toF32, false)

/-- The fixed-tree sum of one tile for one row and column: groups of 32 in ascending order (R74, R75); `dl` as in tileColumn but by logical row; the logical
rows whose product fails its residue check (R129). -/
def tileColumnTree (d : List Byte) (t : Tile) (row : List Byte) (n j : Nat) (dl : List (Nat × Int)) (acc : Nat) : Nat × Flags × List Nat :=
  let w := fmtOf (swFMT_W d)
  let a := fmtOf (swFMT_A d)
  let sp := dSPARSE d
  let tk := tileK w sp
  let half := tk / 2
  (List.range (ceilDiv n 32)).foldl (fun (st : Nat × Flags × List Nat) g =>
    let prods : List (Nat × Bool × Option Nat) := (List.range 32).map (fun x =>
      let i := g * 32 + x
      if n ≤ i then (0, false, none) else
      let (code, inv) : Option (Nat × Nat) × Bool :=
        if !sp then (some (elemAt 16 t.w (j * tk + i), i), false)
        else
          let base := j * half + (i / 4) * 2
          let plane := t.w.drop (1024 * half * 2)
          let i0 := elemAt 2 plane base
          let i1 := elemAt 2 plane (base + 1)
          if i0 = i % 4 then (some (elemAt 16 t.w base, i / 4 * 2), i0 == i1)
          else if i1 = i % 4 then (some (elemAt 16 t.w (base + 1), i / 4 * 2 + 1), false) else (none, i0 == i1)
      match code with
      | some k =>
        let p := treeProd w a k.1 (elemAt 16 row i) (((dl.filter (fun u => u.1 == k.2)).map (·.2)).sum)
        (p.1, inv, if p.2 then some k.2 else none)
      | none => (0, inv, none))
    (f32Add st.1 (treeSum 5 (prods.map (·.1))), st.2.1.or { inv := prods.any (·.2.1) }, st.2.2 ++ prods.filterMap (·.2.2))) (acc, {}, [])

/-- The accumulate-in start of a column (R63, R69, R75). -/
def accStart (d : List Byte) (anchor : Int) (code : Nat) : AccEntry × Flags :=
  match fmtOf (swFMT_ACC d) with
  | .a128 => (match A128.ofNat code with | some q => AccEntry.plus {} q | none => { nan := true }, {})
  | .a64 => (match A64.ofNat code with | some q => AccEntry.plus {} q | none => { nan := true }, {})
  | .fp32 =>
    if fixedTree (fmtOf (swFMT_W d)) then (AccEntry.tree {} code, {})
    else match (Fmt.fp32.decode code).1 with
      | .nan => ({ nan := true }, {})
      | .inf true => ({ negInf := true }, {})
      | .inf false => ({ posInf := true }, {})
      | .fin m => let (q, inx, ovf) := quantise m (-149) anchor; (AccEntry.plus {} q, { inx := inx, ovf := ovf })
  | _ => ({}, {})

/-- The value of a drained column and the flags of the drain (R64, R71, R77). -/
def drainValue (d : List Byte) (anchor : Int) (a : AccEntry) : CV × Flags :=
  if fixedTree (fmtOf (swFMT_W d)) then (Fmt.fp32.value a.f32, {})
  else if a.nan || (a.posInf && a.negInf) then (.nan, {})
  else if a.posInf then (.inf false, {})
  else if a.negInf then (.inf true, {})
  else (.fin (Ex.dy (sat128 a.q).1 anchor) false, { ovf := (sat128 a.q).2 })

/-- The finite binary32 codes by ascending value, one zero among them. -/
def f32Ranks : Nat := 0xFEFFFFFF
def f32OfRank (k : Nat) : Nat := if k < 0x7F7FFFFF then 0xFF7FFFFF - k else k - 0x7F7FFFFF

/-- The rank of breakpoint i + 1 of a built-in table: strictly ascending, each free within what that leaves (R122; log entry 9). -/
def breakRank (act : Nat) : Nat → Nat
  | 0 => (Config.builtinTable act 5).toNat % (f32Ranks - 62)
  | i + 1 =>
    let p := breakRank act i + 1
    p + (Config.builtinTable act (6 + i)).toNat % (f32Ranks - p - (61 - i))

/-- Word `w` of a built-in table, in the form of R122: two zero words, b[0], the breakpoints, and values that the spec does not publish (log entry 9). -/
def builtinWord (act w : Nat) : Word :=
  if w = 2 || w = 3 then 0 else if w = 4 then 0xFF800000
  else if 5 ≤ w && w < 68 then BitVec.ofNat 32 (f32OfRank (breakRank act (w - 5)))
  else Config.builtinTable act w

/-- Word `w` of a table: a built-in one of ACT, or the user table's bytes (R122). -/
def tableWord (act : Nat) (tbl : List Byte) (w : Nat) : Nat :=
  if act = 15 then leNat ((tbl.drop (4 * w)).take 4) else (builtinWord act w).toNat

/-- The table function of R123. Its value goes to conversion as it is, a zero with its sign. -/
def tableFn (act : Nat) (tbl : List Byte) (v : CV) : CV :=
  let word := tableWord act tbl
  let x := v.toF32
  match Fmt.fp32.value x with
  | .nan => .nan
  | .inf true => Fmt.fp32.value (word 0)
  | .inf false => Fmt.fp32.value (word 1)
  | .fin ex _ =>
    let below (i : Nat) : Bool := match Fmt.fp32.value (word (4 + i)) with
      | .fin b _ => Ex.le b ex | .inf true => true | _ => false
    let s := ((List.range 64).filter below).getLastD 0
    let t := if s = 0 then x else f32Sub x (word (4 + s))
    let c (i : Nat) : Nat := word (0x110 / 4 + 4 * s + i)
    Fmt.fp32.value (f32Add (f32Mul (f32Add (f32Mul (f32Add (f32Mul (c 3) t) (c 2)) t) (c 1)) t) (c 0))

/-- A user table is well formed (R124). -/
def tableOk (tbl : List Byte) : Bool :=
  let word := tableWord 15 tbl
  word 2 == 0 && word 3 == 0 && word 4 == 0xFF800000 &&
  (List.range 63).all (fun i => match Fmt.fp32.value (word (5 + i)) with | .fin _ _ => true | _ => false) &&
  (List.range 62).all (fun i => match Fmt.fp32.value (word (5 + i)), Fmt.fp32.value (word (6 + i)) with
    | .fin a _, .fin b _ => Ex.lt a b | _, _ => false)

/-- The output function (R121). -/
def actFn (act : Nat) (tbl : List Byte) (v : CV) : CV :=
  if act = 0 then v
  else if act = 1 then
    match v with
    | .nan => .nan
    | .inf true => .fin ⟨0, 1⟩ false
    | .inf false => .inf false
    | .fin x _ => if x.num ≤ 0 then .fin ⟨0, 1⟩ false else v
  else tableFn act tbl v

/-- The mask of R118 over unbounded integers. -/
def maskKeeps (mode window pr pc : Nat) : Bool :=
  if mode = 0 then true
  else if mode = 1 then decide (pc ≤ pr)
  else decide ((pr : Int) - window < pc) && decide (pc ≤ pr)

/-- The rounding of an output element (R77, R82). Codes 2 and 3, which only vsly.cvt can carry in SLY_CFG.RND, round to nearest even: DESIGN CHOICE (log
entry 76). -/
def elemRnd (rnd seed tid index : Nat) : Rnd := if rnd = 1 then .sr (srDraw seed tid index) else .rne

/-- A run of output elements of one row as element bytes and scale bytes (R72, R77–R80, R103): each element its value, its rounding, and
whether it is masked to −Inf. The last block's scale comes from the elements the row has, and its padding is zero codes (R73, R79, R103; log entry 72). -/
def convRun (o : Fmt) (t : Nat) (es : List (CV × Rnd × Bool)) : List Byte × List Byte × Flags :=
  match o with
  | .a128 =>
    let r := es.map (fun e => match e.1 with
      | .nan => (A128.code none, ({ nan := true } : Flags))
      | .inf n => (A128.code (some (if n then -a128Max else a128Max)), { ovf := true })
      | .fin x _ => (A128.code (some x.num), {}))
    (packElems 128 (r.map (·.1)), [], r.foldl (fun f e => f.or e.2) {})
  | .a64 =>
    let r := es.map (fun e => match e.1 with
      | .nan => (2 ^ 63, ({ nan := true } : Flags))
      | .inf n => ((A128.toA64 (some (if n then -a64Max else a64Max))).1, { ovf := true })
      | .fin x _ => ((A128.toA64 (some x.num)).1, { sat := (A128.toA64 (some x.num)).2 }))
    (packElems 64 (r.map (·.1)), [], r.foldl (fun f e => f.or e.2) {})
  | _ =>
    if o.isBlock then
      let l := o.blockL
      let n := ceilDiv es.length l
      let tx := (Ex.dy (tensorScale o t).1 (tensorScale o t).2)
      let r := (List.range n).map (fun b =>
        let blk := (es.drop (b * l)).take l
        let (sc, cs, fl) := convBlock o tx (blk.map (fun e => (e.1, e.2.1)))
        (sc, cs ++ List.replicate (l - cs.length) 0, fl))
      (packElems o.width (r.flatMap (fun x => x.2.1)), r.map (fun x => BitVec.ofNat 8 x.1), r.foldl (fun f x => f.or x.2.2) {})
    else
      let r := es.map (fun e => if e.2.2 then ((convFloat o .rne (.inf true)).1, ({} : Flags)) else convFloat o e.2.1 e.1)
      (packElems o.width (r.map (·.1)), [], r.foldl (fun f e => f.or e.2) {})

/-- The entry of logical column j as it drains, with the bits that physical faults flip, and whether it disagrees with its residue (R126). -/
def PassRes.drained (r : PassRes) (c : CDie) (isTree : Bool) (m j : Nat) (e : AccEntry) : AccEntry × Bool :=
  let a := r.s.array c
  let e := (r.ups.accs.filter (fun u => u.m == m && a.logical true u.col.val == some j)).foldl (fun e u => e.flip isTree u.bit.val) e
  (e, !(e.sound isTree))

/-- Drain one row of an output tile: residues, function, mask, conversion, and the commit of its bytes (R105, R106, R118, R121, R126). In anchored mode a zero
is written as +0; in fixed-tree mode it keeps its sign, from a table function too (R77). A masked element counts as a finite zero where its block's scale is
computed: DESIGN CHOICE (log entry 76). -/
def drainRow (r : PassRes) (c : CDie) (rs : RunSweep) (m nt : Nat) (o : Obs) (acc : Nat → AccEntry) : PassRes :=
  let d := rs.desc
  let f := fmtOf (swFMT_OUT d)
  let n0 := nt * 1024
  let cols := List.range (min 1024 (swN d - n0))
  let isTree := fixedTree (fmtOf (swFMT_W d))
  let r := { r with resBad := r.resBad ++ (cols.filter (fun j => (r.drained c isTree m j (acc j)).2)).map ((r.s.array c).phys true) }
  let xs := cols.map (fun j =>
    let n := n0 + j
    let dv := drainValue d rs.anchor (r.drained c isTree m j (acc j)).1
    let keep := maskKeeps (swMASK_MODE d) (swWINDOW d) (swPOS_ROW d + m) (swPOS_COL d + n)
    let rnd := elemRnd (swRND d) (swSEED d) (swTID d) (m * swN d + n)
    let v := if f = .a128 || f = .a64 then
        (match actFn (swACT d) rs.table dv.1 with
          | .fin x _ => CV.fin ⟨(Ex.shl x (-rs.anchor)).trunc, 1⟩ false
          | v => v)
      else match isTree, actFn (swACT d) rs.table dv.1 with
        | false, .fin x _ => .fin x false
        | _, v => v
    ((if keep then v else CV.fin ⟨0, 1⟩ false, rnd, !keep && swMASK_FILL d == 1), dv.2))
  let (eb, sb, fl) := convRun f (swT_OUT d) (xs.map (·.1))
  let r := r.flag ((xs.foldl (fun (a : Flags) x => a.or x.2) {}).or fl)
  let r := r.write c rs.ref (swLocOut d) (swOUT_ADDR d + m * swOUT_STRIDE d + n0 * f.width / 8) eb o
  if f.isBlock then r.write c rs.ref (swLocOut d) (swOUTS_ADDR d + m * scaleRowBytes f (swN d) + n0 / f.blockL) sb o else r

/-- Rows of a row group: first row and count (R105, R106). -/
def groupRows (d : List Byte) (g : Nat) : Nat × Nat :=
  if dKIND d = kGEMM_OS then (256 * g, min 256 (swM d - 256 * g)) else (0, swM d)
def groups (d : List Byte) : Nat := if dKIND d = kGEMM_OS then ceilDiv (swM d) 256 else 1

/-- One row of a GEMM pass through the tile in the active plane (R105, R106, R116). -/
def gemmRow (c : CDie) (t : Tile) (o : Obs) (st : PassRes × RunSweep) (m : Nat) : PassRes × RunSweep :=
  let (r, rs) := st
  let d := rs.desc
  let w := fmtOf (swFMT_W d)
  let a := fmtOf (swFMT_A d)
  let tk := tileK w (dSPARSE d)
  let k0 := rs.kt * tk
  let n := min tk (swK d - k0)
  let (r, row) := r.read c rs.ref (swLocA d) (swA_ADDR d + m * swA_STRIDE d + k0 * a.width / 8) ((n * a.width + 7) / 8) o
  let (r, sc) := if a.isBlock then r.read c rs.ref (swLocA d) (swAS_ADDR d + m * scaleRowBytes a (swK d) + k0 / a.blockL) (ceilDiv n a.blockL) o
    else (r, [])
  let accF := fmtOf (swFMT_ACC d)
  let n0 := rs.nt * 1024
  let cols := min 1024 (swN d - n0)
  let (r, accIn) := if rs.kt = 0 && accF != .none then
      r.read c rs.ref (swLocAcc d) (swACC_ADDR d + m * swACC_STRIDE d + n0 * accF.width / 8) (cols * accF.width / 8) o
    else (r, [])
  let ar := r.s.array c
  let ups := (r.ups.prods.filter (fun u => u.m == m)).filterMap (fun u => match ar.logical true u.col.val, ar.logical false u.row.val with
    | some j, some k => some (j, k, u.delta) | _, _ => none)
  let ents : List (AccEntry × Flags × Int × List Nat) := (List.range cols).map (fun j =>
    let (e0, f0) := if rs.kt = 0 then (if accF != .none then accStart d rs.anchor (elemAt accF.width accIn j) else ({}, {}))
      else (Store.get (fun _ => {}) rs.acc (m * 1024 + j), {})
    let mine := (ups.filter (fun u => u.1 == j)).map (·.2)
    if fixedTree w then let (v, f, bad) := tileColumnTree d t row n j mine e0.f32; (e0.tree v, f0.or f, 0, bad)
    else let (e, f, sum) := tileColumn d rs.anchor t row sc n j (mine.map (fun u => (cellIndex w (dSPARSE d) u.1, u.2))) e0; (e, f0.or f, sum, []))
  let r := r.flag (ents.foldl (fun f e => f.or e.2.1) {})
  let r := { r with
    rowSum := if fixedTree w then [] else List.zipWith (· + ·) ((List.range n).map (fun i => elInt (a.decode (elemAt a.width row i)).1)) (if r.rowSum = [] then List.replicate n 0 else r.rowSum)
    colSum := if fixedTree w then [] else List.zipWith (· + ·) (ents.map (·.2.2.1)) (if r.colSum = [] then List.replicate cols 0 else r.colSum)
    prodBad := r.prodBad ++ (List.range cols).flatMap (fun j => ((ents.getD j ({}, {}, 0, [])).2.2.2).map (fun k => (some (ar.phys false k), ar.phys true j))) }
  if rs.kt + 1 = tilesK d then (drainRow r c rs m rs.nt o (fun j => (ents.getD j ({}, {}, 0, [])).1), rs)
  else (r, { rs with acc := Store.setList (fun _ => {}) rs.acc (m * 1024) (ents.map (·.1)) })

/-- The scale exponents of one operand's blocks that R67 reads, and their maximum. -/
def maxExp (f : Fmt) (codes : List Nat) : Option Int :=
  codes.foldl (fun (m : Option Int) k => match f.scaleExp k, m with
    | some e, some x => some (max e x) | some e, none => some e | none, m => m) none

def maxOpt (a b : Option Int) : Option Int :=
  match a, b with | some x, some y => some (max x y) | some x, none => some x | none, y => y

/-- ceil(log2 n) of a positive number. -/
def ceilLog2 (n : Nat) : Nat := if n ≤ 1 then 0 else Nat.log2 (n - 1) + 1

/-- floor(log2 T) + 1 of an SB4 per-tensor scale, 0 otherwise (R67). -/
def tensorExp (f : Fmt) (t : Nat) : Int := if f == .sb4 then (bits t 30 23 : Int) - 127 + 1 else 0

/-- The auto-anchor value (R67). -/
def anchorRule (ew ea : Option Int) (tw ta mw ma : Int) (l n : Nat) : Int :=
  match ew, ea with
  | some x, some y => clampInt (-512) 511 (x + y + tw + ta + mw + ma + (Nat.log2 l : Int) + (ceilLog2 n : Int) - 126)
  | _, _ => 0

/-- The auto-anchor scan of a GEMM sweep over its scale streams: only the scales of columns below N, rows below M and blocks that hold an index below K are
read (R67). The scan sets no flag; INV of a SCAN_ONLY sweep stays clear: DESIGN CHOICE (log entry 76). -/
def gemmAnchor (r : PassRes) (c : CDie) (rs : RunSweep) (o : Obs) : PassRes × Int :=
  let d := rs.desc
  let w := fmtOf (swFMT_W d)
  let a := fmtOf (swFMT_A d)
  let sp := dSPARSE d
  let tk := tileK w sp
  let per := tk / w.blockL
  let (r, ew) := (List.range (tilesN d * tilesK d)).foldl (fun (st : PassRes × Option Int) t =>
    let nt := t / tilesK d
    let kt := t % tilesK d
    let nb := ceilDiv (min tk (swK d - kt * tk)) w.blockL
    let cols := min 1024 (swN d - nt * 1024)
    let at0 := swWS_ADDR d + t * tileScaleBytes w sp
    let (r, bs) := if nb = per then st.1.read c rs.ref (swLocW d) at0 (cols * per) o
      else (List.range cols).foldl (fun (x : PassRes × List Byte) j =>
        let (r, b) := x.1.read c rs.ref (swLocW d) (at0 + j * per) nb o
        (r, x.2 ++ b)) (st.1, [])
    (r, maxOpt st.2 (maxExp w (bs.map (·.toNat))))) (r, none)
  let (r, ea) := (List.range (swM d)).foldl (fun (st : PassRes × Option Int) m =>
    let (r, bs) := st.1.read c rs.ref (swLocA d) (swAS_ADDR d + m * scaleRowBytes a (swK d)) (ceilDiv (swK d) a.blockL) o
    (r, maxOpt st.2 (maxExp a (bs.map (·.toNat))))) (r, none)
  (r, anchorRule ew ea (tensorExp w (swT_W d)) (tensorExp a (swT_A d)) w.boundM a.boundM (accL w a) (ceilDiv (swK d) (accL w a)))

/-- Copy `n` bytes between memory and Tarn within a pass, in pieces of 64 KiB. -/
def copyRun (r : PassRes) (c : CDie) (q : QRef) (srcLoc : Bool) (src : Nat) (dstLoc : Bool) (dst n : Nat) (o : Obs) : PassRes :=
  (List.range (ceilDiv n 0x10000)).foldl (fun r i =>
    if r.err != 0 then r else
    let len := min 0x10000 (n - i * 0x10000)
    let (r, bs) := r.read c q srcLoc (src + i * 0x10000) len o
    if r.err != 0 then r else r.write c q dstLoc (dst + i * 0x10000) bs o) r

/-- TILE_LOAD and TILE_STORE (R108). -/
def tileCopy (r : PassRes) (c : CDie) (rs : RunSweep) (o : Obs) : PassRes :=
  let d := rs.desc
  let w := fmtOf (swFMT_W d)
  let n := tilesK d * tilesN d
  let wb := n * tileBytes w (dSPARSE d)
  let sb := n * tileScaleBytes w (dSPARSE d)
  if dKIND d = kTILE_LOAD then
    copyRun (copyRun r c rs.ref false (swW_ADDR d) true (swOUT_ADDR d) wb o) c rs.ref false (swWS_ADDR d) true (swOUTS_ADDR d) sb o
  else
    copyRun (copyRun r c rs.ref true (swOUT_ADDR d) false (swW_ADDR d) wb o) c rs.ref true (swOUTS_ADDR d) false (swWS_ADDR d) sb o

/-- TRANSPOSE: row k of the transpose is column k of the source. As weights of K reduction rows and M columns, column m is row m of the source
(R103, R109). -/
def transpose (r : PassRes) (c : CDie) (rs : RunSweep) (o : Obs) : PassRes :=
  let d := rs.desc
  let a := fmtOf (swFMT_A d)
  let f := fmtOf (swFMT_OUT d)
  let m := swM d
  let k := swK d
  let (r, rows) := (List.range m).foldl (fun (st : PassRes × List (List Byte)) i =>
    let (r, bs) := st.1.read c rs.ref (swLocA d) (swA_ADDR d + i * swA_STRIDE d) (rowBytes a k) o
    (r, st.2 ++ [bs])) (r, [])
  if r.err != 0 then r else
  let run (j : Nat) : List Byte × List Byte × Flags :=
    convRun f (swT_OUT d) ((List.range m).map (fun i =>
      (a.value (elemAt a.width (rows.getD i []) j), elemRnd (swRND d) (swSEED d) (swTID d) (j * m + i), false)))
  if fmtOf (swFMT_W d) = .none then
    (List.range k).foldl (fun r j =>
      let (eb, sb, fl) := run j
      let r := (r.flag fl).write c rs.ref (swLocOut d) (swOUT_ADDR d + j * swOUT_STRIDE d) eb o
      if f.isBlock then r.write c rs.ref (swLocOut d) (swOUTS_ADDR d + j * scaleRowBytes f m) sb o else r) r
  else
    let tk := tileK f false
    let kt := ceilDiv k tk
    let tb := tileBytes f false
    let sb0 := tileScaleBytes f false
    (List.range (ceilDiv m 1024)).foldl (fun r nt => (List.range kt).foldl (fun r t =>
      let cols := (List.range 1024).map (fun j =>
        if nt * 1024 + j < m then
          let n := min tk (k - t * tk)
          let (eb, sb, fl) := convRun f (swT_OUT d) ((List.range n).map (fun i =>
            (a.value (elemAt a.width (rows.getD (nt * 1024 + j) []) (t * tk + i)),
             elemRnd (swRND d) (swSEED d) (swTID d) ((t * tk + i) * m + nt * 1024 + j), false)))
          (eb ++ List.replicate (tk * f.width / 8 - eb.length) 0,
           sb ++ List.replicate ((if f.isBlock then tk / f.blockL else 0) - sb.length) 0, fl)
        else (List.replicate (tk * f.width / 8) 0, List.replicate (if f.isBlock then tk / f.blockL else 0) 0, {}))
      let r := cols.foldl (fun r x => r.flag x.2.2) r
      let r := r.write c rs.ref (swLocOut d) (swOUT_ADDR d + (nt * kt + t) * tb) (cols.flatMap (·.1)) o
      if f.isBlock then r.write c rs.ref (swLocOut d) (swOUTS_ADDR d + (nt * kt + t) * sb0) (cols.flatMap (fun x => x.2.1)) o else r) r) r

end Sys2Proof.Machine
end

