-- ==== Sys2Proof/Machine/Attention.lean ====
section
/-! DEFINITION. Attention sweeps: KV4 pages, page tables, rotary phases, scores, slot weights, base tiers, partial records and
the writing of keys and values (04 R145–R181). -/

namespace Sys2Proof.Machine

/-- Bytes of a KV4 page (R150). -/
def pageBytes (d : Nat) : Nat := 64 + 72 * d

/-- A page-table entry (R154). -/
structure PTEntry where
  valid : Bool
  tarn : Bool
  addr : Nat
  rsvOk : Bool
  deriving DecidableEq, Repr

def ptEntry (v : Nat) : PTEntry := ⟨v % 2 == 1, v / 2 % 2 == 1, v / 64 * 64, bits v 5 2 == 0⟩

/-- Entry i of a sweep's page table (R154, R155, R157): a reserved bit set is status DIGEST. -/
def PassRes.entry (r : PassRes) (c : CDie) (q : QRef) (d : List Byte) (i : Nat) (o : Obs) : PassRes × PTEntry :=
  let (r, bs) := r.read c q (atPT_LOC d) (atPT_ADDR d + 8 * i) 8 o
  let e := ptEntry (leNat bs)
  if e.rsvOk then (r, e) else (r.fail stDIGEST, { e with valid := false })

/-- Rotated pair elements of a row (R161): the partner of an element and whether it is the second of its pair. -/
def ropePair (mode pairs i : Nat) : Option (Nat × Nat × Bool) :=
  if mode = 1 then (if i / 2 < pairs then some (i / 2, if i % 2 = 0 then i + 1 else i - 1, i % 2 == 1) else none)
  else if mode = 2 then
    (if i < pairs then some (i, i + pairs, false) else if i < 2 * pairs then some (i - pairs, i - pairs, true) else none)
  else none

/-- The phase of pair j at a position (R158, R159); `tbl` holds the frequency words. Positions have 32 bits here, as R149 and R159 give them, though R119 speaks
of 24: DEDUCED (log entry 76). -/
def ropePhase (tbl : List Byte) (j p : Nat) : BitVec 32 := BitVec.ofNat 32 ((p * leNat ((tbl.drop (8 * j)).take 8)) % 2 ^ 64 / 2 ^ 32)

/-- A row of binary32 values rotated at a position (R159–R161). -/
def ropeRow (mode pairs : Nat) (tbl : List Byte) (p : Nat) (x : List Nat) : List Nat :=
  (List.range x.length).map (fun i =>
    let v := x.getD i 0
    match ropePair mode pairs i with
    | none => v
    | some (j, k, second) =>
      let ph := ropePhase tbl j p
      let cs := cosTurn ph
      let sn := sinTurn ph
      let w := x.getD k 0
      if second then f32Add (f32Mul w sn) (f32Mul v cs) else f32Sub (f32Mul v cs) (f32Mul w sn))

/-- The value of element i of a block row: element times scale. -/
def blockValue (f : Fmt) (bs sc : List Byte) (i : Nat) : CV :=
  let s := f.scale (sc.getD (i / f.blockL) 0).toNat
  if s.nan then .nan else
  match (f.decode (elemAt f.width bs i)).1 with
  | .nan => .nan
  | .inf n => .inf n
  | .fin m => .fin (Ex.dy (m * s.mant) (f.unit + s.exp)) false

/-- The value of element i of a row in any operand format. -/
def rowValue (f : Fmt) (bs sc : List Byte) (i : Nat) : CV := if f.isBlock then blockValue f bs sc i else f.value (elemAt f.width bs i)

/-- A query row in MXFP8_E4M3: element codes and scale codes (R166). -/
structure QRow where
  els : List Nat
  scs : List Nat
  deriving DecidableEq, Repr

/-- Read, rotate and convert query row m (R149, R166). -/
def queryRow (r : PassRes) (c : CDie) (rs : RunSweep) (m : Nat) (o : Obs) : PassRes × QRow :=
  let d := rs.desc
  let a := fmtOf (swFMT_A d)
  let dd := swK d
  let (r, bs) := r.read c rs.ref (swLocA d) (swA_ADDR d + m * swA_STRIDE d) (rowBytes a dd) o
  let (r, sc) := if a.isBlock then r.read c rs.ref (swLocA d) (swAS_ADDR d + m * scaleRowBytes a dd) (ceilDiv dd a.blockL) o else (r, [])
  if a == .e4m3 && atROPE d = 0 then (r, ⟨(List.range dd).map (fun i => elemAt 8 bs i), sc.map (·.toNat)⟩)
  else
    let x := (List.range dd).map (fun i => (rowValue a bs sc i).toF32)
    let y := ropeRow (atROPE d) (atPAIRS d) rs.table (atQ_POS d + m / atGROUP d) x
    let blocks := (List.range (ceilDiv dd 32)).map (fun b =>
      let vs := ((y.drop (32 * b)).take 32).map (fun k => Fmt.fp32.value k)
      let (sc, es, _) := convBlock .e4m3 ⟨1, 1⟩ (vs.map (fun v => (v, Rnd.rne)))
      let special := vs.any (fun v => match v with | .fin _ _ => false | _ => true)
      (if special then 0xFF else sc, es))
    (r, ⟨blocks.flatMap (·.2), blocks.map (·.1)⟩)

/-- Parts of a page at hand (R150). -/
def pgKeys (pg : List Byte) (d t : Nat) : List Byte := (pg.drop (64 + t * d / 2)).take (d / 2)
def pgKeyScales (pg : List Byte) (d t : Nat) : List Byte := (pg.drop (64 + 32 * d + t * d / 16)).take (d / 16)
def pgVals (pg : List Byte) (d t : Nat) : List Byte := (pg.drop (64 + 36 * d + t * d / 2)).take (d / 2)
def pgValScales (pg : List Byte) (d t : Nat) : List Byte := (pg.drop (64 + 68 * d + t * d / 16)).take (d / 16)

/-- Header fields of a page (R151). -/
def pgCOUNT (pg : List Byte) : Nat := bits (leNat (pg.take 4)) 14 8
def pgDIGEST (pg : List Byte) : Nat := leNat ((pg.drop 0x38).take 8)

/-- The header fields the descriptor fixes for entry i: VER, DCODE, POS_BASE, SEQ_TAG, LAYER and HEAD (R151, R153, R164). -/
def pgFieldsOk (d pg : List Byte) (i : Nat) : Bool :=
  bits (leNat (pg.take 4)) 3 0 == 1 && bits (leNat (pg.take 4)) 7 4 == swK d / 64 &&
  leNat ((pg.drop 4).take 4) == atKV_POS d + 64 * i && leNat ((pg.drop 8).take 4) == atSEQ d &&
  (pg.getD 12 0).toNat == atLAYER d && (pg.getD 13 0).toNat == atHEAD d

/-- The page check (R153). -/
def pageOk (d pg : List Byte) (i : Nat) : Bool :=
  pgFieldsOk d pg i && decide (pgCOUNT pg ≤ 64) && bits (leNat (pg.take 4)) 31 15 == 0 && ((pg.drop 14).take 42).all (· == 0) &&
  (crc64 (pg.take 56 ++ (pg.drop 64).take (72 * swK d))).toNat == pgDIGEST pg

/-- The score of a query row against one key (R61–R64, R167). -/
def score (anchor : Int) (dd : Nat) (q : QRow) (ks kscl : List Byte) : CV × Flags :=
  let r := (List.range (dd / 16)).foldl (fun (acc : AccEntry × Flags) b =>
    let sk := Fmt.kv4.scale (kscl.getD b 0).toNat
    let sq := Fmt.e4m3.scale (q.scs.getD (b / 2) 0)
    let bs := (List.range 16).foldl (fun (x : BlockSum) j =>
      let i := 16 * b + j
      let kel := if sk.mant = 0 && !sk.nan then El.fin 0 else (Fmt.kv4.decode (elemAt 4 ks i)).1
      x.add (mulEl kel (Fmt.e4m3.decode (q.els.getD i 0)).1)) {}
    let bs := if sk.nan || sq.nan then { bs with nan := true } else bs
    let (e, f) := acc.1.addBlock bs (sk.mant * sq.mant) (Fmt.kv4.unit + Fmt.e4m3.unit + sk.exp + sq.exp) anchor
    (e, (acc.2.or f).or { inv := sk.inv })) ({}, {})
  let a := r.1
  if a.nan || (a.posInf && a.negInf) then (.nan, r.2)
  else if a.posInf then (.inf false, r.2)
  else if a.negInf then (.inf true, r.2)
  else (.fin (Ex.dy (sat128 a.q).1 anchor) false, r.2.or { ovf := (sat128 a.q).2 })

/-- x of R168: none when it is NaN or infinite; and whether it was clamped. -/
def scoreX (scale : Nat) (v : CV) : Option Ex × Bool :=
  match Fmt.fp32.value (f32Mul v.toF32 scale) with
  | .fin x _ => if Ex.lt x ⟨-(2 ^ 24), 1⟩ then (some ⟨-(2 ^ 24), 1⟩, true)
      else if Ex.lt ⟨2 ^ 24 - 1, 1⟩ x then (some ⟨2 ^ 24 - 1, 1⟩, true) else (some x, false)
  | _ => (none, false)

/-- One bit of a binary logarithm by squaring a mantissa of 128 fraction bits. -/
def logStep (st : Nat × Nat) : Nat × Nat :=
  let m := st.1 * st.1 / 2 ^ 128
  if 2 ^ 129 ≤ m then (m / 2, 2 * st.2 + 1) else (m, 2 * st.2)

/-- floor(2^64 × log2 a) of a positive number. -/
def log2Fix (a : Nat) : Nat :=
  ((List.range 64).foldl (fun st _ => logStep st) (a * 2 ^ 128 / 2 ^ Nat.log2 a, Nat.log2 a)).2

/-- The largest n of [lo, lo + 2^k) for which n = lo or log2(2n − 1) < y + 1 (y in units of 1/den). -/
def weightSearch (ynum : Int) (den : Nat) : Nat → Nat → Nat
  | 0, lo => lo
  | k + 1, lo =>
    let mid := lo + 2 ^ k
    if (log2Fix (2 * mid - 1) : Int) * den < (ynum + den) * 2 ^ 64 then weightSearch ynum den k mid else weightSearch ynum den k lo

/-- The integer nearest, ties to even, to 2^y for y ≤ 11 (R169). 2^y is n + 1/2 only for y = −1, whose tie goes to 0; every other
y lies strictly between the logarithms of two half-integers. -/
def exp2Weight (y : Ex) : Nat := if y.num ≤ -(y.den : Int) then 0 else weightSearch y.num y.den 12 0

/-- A kept slot's x, or none for a slot that is not kept. -/
abbrev SlotX := Option Ex

/-- The base and the weights of a slot group; none without a kept slot (R169). -/
def groupWeights (xs : List SlotX) : Option (Int × List Nat) :=
  match xs.filterMap id with
  | [] => none
  | x :: r =>
    let mx := r.foldl (fun a b => if Ex.lt a b then b else a) x
    let e := mx.floor + 1
    some (e, xs.map (fun o => match o with
      | some v => exp2Weight ⟨v.num + (11 - e) * v.den, v.den⟩
      | none => 0))

/-- The tier base of a group base (R170). -/
def tierOf (e : Int) : Int := 32 * (-(Int.fdiv (-e) 32))

/-- One contribution into the tiers of a row (R171). -/
def TierRow.add (row : TierRow) (dd : Nat) (t : Int) (q : List Int) : TierRow :=
  let zero := List.replicate (dd + 1) (0 : Int)
  let row : TierRow := match row.top with
    | none => { row with top := some t, tiers := [zero, zero, zero] }
    | some top =>
      if top < t then
        let n := ((t - top) / 32).toNat
        { row with top := some t, tiers := ((List.replicate (min n 3) zero) ++ row.tiers).take 3 }
      else row
  match row.top with
  | none => row
  | some top =>
    if top - 64 ≤ t then
      let k := ((top - t) / 32).toNat
      { row with tiers := row.tiers.set k (List.zipWith (· + ·) (row.tiers.getD k zero) q) }
    else row

/-- The contribution of a slot group to columns 0 to d (R170). A NaN value on a kept slot is met separately (R174). -/
def groupContrib (dd : Nat) (pg : List Byte) (g : Nat) (e : Int) (us : List Nat) : List Int :=
  let sh := e - tierOf e + 59
  let vals := (List.range 16).map (fun j => (us.getD j 0, pgVals pg dd (16 * g + j), pgValScales pg dd (16 * g + j)))
  let col (j : Nat) : Int := vals.foldl (fun (a : Int) x =>
    let s := Fmt.kv4.scale (x.2.2.getD (j / 16) 0).toNat
    let m : Int := if s.nan then 0 else match (Fmt.kv4.decode (elemAt 4 x.2.1 j)).1 with | .fin m => m * s.mant | _ => 0
    a + x.1 * m) 0
  (List.range dd).map (fun j => col j * 2 ^ sh.toNat) ++ [((us.foldl (· + ·) 0 : Nat) : Int) * 2 ^ (sh + 10).toNat]

/-- One page against one row: scores, softmax weights and contributions (R167–R171). -/
def rowPage (d : List Byte) (anchor : Int) (q : QRow) (m i : Nat) (pg : List Byte) (row : TierRow) : TierRow × Flags :=
  let dd := swK d
  let cnt := min 64 (pgCOUNT pg)
  let pr := atQ_POS d + m / atGROUP d
  let one (t : Nat) : SlotX × Bool × Flags :=
    if cnt ≤ t then (none, false, {}) else
    let (v, f) := score anchor dd q (pgKeys pg dd t) (pgKeyScales pg dd t)
    let vinv := (pgValScales pg dd t).any (fun b => (Fmt.kv4.scale b.toNat).inv)
    let vnan := (pgValScales pg dd t).any (fun b => (Fmt.kv4.scale b.toNat).nan)
    let f := f.or { inv := vinv }
    if maskKeeps (swMASK_MODE d) (swWINDOW d) pr (atKV_POS d + 64 * i + t) then
      match scoreX (atSCALE d) v with
      | (none, _) => (none, true, f)
      | (some x, cl) => (some x, vnan, f.or { sat := cl })
    else (none, false, f)
  let xs := (List.range 64).map one
  let row := { row with nan := row.nan || xs.any (fun x => x.2.1) }
  let row := (List.range 4).foldl (fun (row : TierRow) g =>
    match groupWeights (((xs.drop (16 * g)).take 16).map (·.1)) with
    | none => row
    | some (e, us) => row.add dd (tierOf e) (groupContrib dd pg g e us)) row
  (row, xs.foldl (fun f x => f.or x.2.2) {})

/-- Read and check the page of entry i; none for an invalid entry and for a page that could not be read (R153, R155). -/
def PassRes.page (r : PassRes) (c : CDie) (rs : RunSweep) (i : Nat) (o : Obs) : PassRes × Option (List Byte) :=
  let d := rs.desc
  let (r, e) := r.entry c rs.ref d i o
  if !e.valid || r.past then (r, none) else
  match r.readOk c rs.ref e.tarn e.addr (pageBytes (swK d)) o with
  | (r, none) => (r, none)
  | (r, some pg) =>
    let r := { r with seen := r.seen ++ [(e.tarn, e.addr, pg)] }
    if pageOk d pg i then (r, some pg) else (r.fail stDIGEST, some pg)

/-- Rows of an ATTEND row group: first row and count (R179). -/
def attnRows (d : List Byte) (g : Nat) : Nat × Nat := (64 * g, min 64 (swM d - 64 * g))
/-- Spans of 16 entries, and groups of 64 rows (R179). -/
def attnSpans (d : List Byte) : Nat := ceilDiv (atPAGES d) 16
def attnGroups (d : List Byte) : Nat := ceilDiv (swM d) 64

/-- The score and value work of one row group and one span (R179). -/
def attendSpan (r : PassRes) (c : CDie) (rs : RunSweep) (o : Obs) : PassRes × RunSweep :=
  let d := rs.desc
  let (m0, n) := attnRows d rs.g
  let (r, pages) := (List.range (min 16 (atPAGES d - 16 * rs.kt))).foldl (fun (st : PassRes × List (Nat × List Byte)) k =>
    let i := 16 * rs.kt + k
    match st.1.page c rs i o with
    | (r, some pg) => (r, st.2 ++ [(i, pg)])
    | (r, none) => (r, st.2)) (r, [])
  (List.range n).foldl (fun (st : PassRes × RunSweep) k =>
    let m := m0 + k
    let (r, q) := queryRow st.1 c st.2 m o
    let row0 := if rs.kt = 0 then {} else Store.get (fun _ => {}) st.2.tiers m
    let (row, fl) := pages.foldl (fun (a : TierRow × Flags) p =>
      let (row, f) := rowPage d st.2.anchor q m p.1 p.2 a.1
      (row, a.2.or f)) (row0, {})
    (r.flag fl, { st.2 with tiers := Store.set (fun _ => {}) st.2.tiers m row })) (r, rs)

/-- N_j and D of R173 as one integer. -/
def tierTotal (row : TierRow) (j : Nat) : Int :=
  let t (k : Nat) : Int := (row.tiers.getD k []).getD j 0
  t 0 * 2 ^ 64 + t 1 * 2 ^ 32 + t 2

/-- The output value of column j (R173, R174). -/
def attnValue (row : TierRow) (dd j : Nat) : CV :=
  if row.nan then .nan else
  let dn := tierTotal row dd
  if dn = 0 then .fin ⟨0, 1⟩ false
  else .fin ⟨if dn < 0 then -(tierTotal row j) else tierTotal row j, dn.natAbs⟩ false

/-- Write one output row (R173, R177). -/
def attnOut (r : PassRes) (c : CDie) (rs : RunSweep) (m : Nat) (row : TierRow) (o : Obs) : PassRes :=
  let d := rs.desc
  let f := fmtOf (swFMT_OUT d)
  let dd := swK d
  let (eb, sb, fl) := convRun f (swT_OUT d) ((List.range dd).map (fun j =>
    (attnValue row dd j, elemRnd (swRND d) (swSEED d) (swTID d) (m * dd + j), false)))
  let r := (r.flag fl).write c rs.ref (swLocOut d) (swOUT_ADDR d + m * swOUT_STRIDE d) eb o
  if f.isBlock then r.write c rs.ref (swLocOut d) (swOUTS_ADDR d + m * scaleRowBytes f dd) sb o else r

/-- No slot was kept: D is zero (R173, R176; log entry 71). -/
def TierRow.isEmpty (row : TierRow) (dd : Nat) : Bool := row.top.isNone || tierTotal row dd == 0

/-- A partial record (R176). TOP and TIERS of a record with NAN or EMPTY set are free: no rule states them. -/
def partRecord (s : State) (row : TierRow) (dd : Nat) : List Byte × State :=
  let head := leBytes (1 + row.nan.toNat <<< 4 + (!row.nan && row.isEmpty dd).toNat <<< 5) 4
  let tail := partRecBytes dd - (64 + 48 * (dd + 1))
  match row.nan || row.isEmpty dd, row.top with
  | false, some top =>
    (head ++ leBytes (top % 2 ^ 32).toNat 4 ++ List.replicate 56 0 ++
      (row.tiers.flatMap (fun t => t.flatMap (fun q => leBytes (q % 2 ^ 128).toNat 16))) ++ List.replicate tail 0, s)
  | _, _ =>
    let (a, s) := s.freeBytes 4
    let (b, s) := s.freeBytes (48 * (dd + 1))
    (head ++ a ++ List.replicate 56 0 ++ b ++ List.replicate tail 0, s)

/-- Write the partial record of shard sh and row m (R176). -/
def partWrite (r : PassRes) (c : CDie) (rs : RunSweep) (sh m : Nat) (row : TierRow) (o : Obs) : PassRes :=
  let d := rs.desc
  let (bs, s) := partRecord r.s row (swK d)
  PassRes.write (PassRes.flag { r with s := s } { nan := row.nan }) c rs.ref (swLocAcc d)
    (atPART_ADDR d + (sh * swM d + m) * partRecBytes (swK d)) bs o

/-- Drain the rows of an ATTEND row group (R173, R176, R179). -/
def attendDrain (r : PassRes) (c : CDie) (rs : RunSweep) (o : Obs) : PassRes :=
  let d := rs.desc
  let (m0, n) := attnRows d rs.g
  (List.range n).foldl (fun r k =>
    let m := m0 + k
    let row := Store.get (fun _ => {}) rs.tiers m
    if atPOUT d then partWrite r c rs 0 m row o else attnOut r c rs m row o) r

/-- One partial record as read (R177): none fails the record check; an EMPTY record is ignored with its tiers (log entry 71). -/
def partParse (bs : List Byte) (dd : Nat) : Option TierRow :=
  let h := leNat (bs.take 4)
  let nan := bits h 4 4 == 1
  let empty := bits h 5 5 == 1
  let top := twos 32 (leNat ((bs.drop 4).take 4))
  let tier (k : Nat) : List A128 := (List.range (dd + 1)).map (fun j => A128.ofNat (leNat ((bs.drop (64 + 16 * (k * (dd + 1) + j))).take 16)))
  let ts := [tier 0, tier 1, tier 2]
  let rsv := bits h 31 6 == 0 && ((bs.drop 8).take 56).all (· == 0)
  if !rsv || bits h 3 0 != 1 || (!nan && !empty && top % 32 != 0) then none
  else if nan then some { nan := true }
  else if empty then some {}
  else if ts.any (fun t => t.any (·.isNone)) then some { nan := true }
  else some { top := some top, tiers := ts.map (fun t => t.map (fun q => q.getD 0)) }

/-- The combination of records into one tier state (R177). -/
def combineRows (dd : Nat) (rows : List TierRow) : TierRow :=
  if rows.any (·.nan) then { nan := true } else
  let live := rows.filterMap (fun r => r.top.map (fun t => (t, r)))
  match live with
  | [] => {}
  | x :: rest =>
    let top := rest.foldl (fun a y => max a y.1) x.1
    let tier (k : Nat) : List Int := (List.range (dd + 1)).map (fun j =>
      (sat128 (live.foldl (fun (a : Int) y =>
        let k' : Int := k - (top - y.1) / 32
        if k' < 0 then a else match (y.2.tiers.getD k'.toNat []).getD j 0, decide (k' < 3) with
          | q, true => a + q | _, false => a) 0)).1)
    { top := some top, tiers := [tier 0, tier 1, tier 2] }

/-- COMBINE (R177). -/
def combine (r : PassRes) (c : CDie) (rs : RunSweep) (o : Obs) : PassRes :=
  let d := rs.desc
  let dd := swK d
  let sz := partRecBytes dd
  (List.range (swM d)).foldl (fun r m =>
    if r.past then r else
    let (r, rows) := (List.range (atSHARDS d)).foldl (fun (st : PassRes × List TierRow) sh =>
      let (r, bs) := st.1.read c rs.ref (swLocAcc d) (atPART_ADDR d + (sh * swM d + m) * sz) sz o
      if r.past then (r, st.2) else
      match partParse bs dd with | some row => (r, st.2 ++ [row]) | none => (r.fail stDIGEST, st.2)) (r, [])
    if r.err != 0 then r else
    let row := combineRows dd rows
    if atPOUT d then partWrite r c rs (atSHARDS d) m row o else attnOut r c rs m row o) r

/-- One token's KV4 bytes: elements and scales of a row of values (R163). `kv` is 0 for a key and 1 for a value. -/
def kv4Row (d : List Byte) (p kv : Nat) (vs : List CV) : List Byte × List Byte × Flags :=
  let dd := swK d
  let bl := (List.range (dd / 16)).map (fun b => convBlock .kv4 ⟨1, 1⟩ ((List.range 16).map (fun j =>
    (vs.getD (16 * b + j) .nan, elemRnd (swRND d) (swSEED d) (swTID d) ((2 * p + kv) * dd + 16 * b + j)))))
  (packElems 4 (bl.flatMap (fun x => x.2.1)), bl.map (fun x => BitVec.ofNat 8 x.1), bl.foldl (fun f x => f.or x.2.2) {})

/-- A token in KV4: key elements, key scales, value elements, value scales. -/
structure Token where
  ke : List Byte
  ks : List Byte
  ve : List Byte
  vs : List Byte
  deriving DecidableEq, Repr

/-- Read, rotate and convert token t (R162, R163). -/
def token (r : PassRes) (c : CDie) (rs : RunSweep) (t : Nat) (o : Obs) : PassRes × Token :=
  let d := rs.desc
  let a := fmtOf (swFMT_A d)
  let dd := swK d
  let p := atQ_POS d + t
  let (r, kb) := r.read c rs.ref (swLocA d) (swA_ADDR d + t * swA_STRIDE d) (rowBytes a dd) o
  let (r, vb) := r.read c rs.ref (swLocA d) (atV_ADDR d + t * swA_STRIDE d) (rowBytes a dd) o
  let kx := ropeRow (atROPE d) (atPAIRS d) rs.table p ((List.range dd).map (fun i => (a.value (elemAt a.width kb i)).toF32))
  let key := if atROPE d = 0 then (List.range dd).map (fun i => a.value (elemAt a.width kb i)) else kx.map (fun k => Fmt.fp32.value k)
  let val := (List.range dd).map (fun i => a.value (elemAt a.width vb i))
  let (ke, ks, f1) := kv4Row d p 0 key
  let (ve, vs, f2) := kv4Row d p 1 val
  (r.flag (f1.or f2), ⟨ke, ks, ve, vs⟩)

/-- A page body holding tokens from slot s0, zero elsewhere (R150, R164). -/
def pageBody (dd s0 : Nat) (ts : List Token) : List Byte :=
  let pad (f : Token → List Byte) (n : Nat) : List Byte :=
    List.replicate (s0 * n) 0 ++ ts.flatMap f ++ List.replicate ((64 - s0 - ts.length) * n) 0
  pad (·.ke) (dd / 2) ++ pad (·.ks) (dd / 16) ++ pad (·.ve) (dd / 2) ++ pad (·.vs) (dd / 16)

/-- The first 56 bytes of a header with a given COUNT (R151). -/
def pageHeader (d : List Byte) (i count : Nat) : List Byte :=
  leBytes (1 + (swK d / 64) <<< 4 + count <<< 8) 4 ++ leBytes (atKV_POS d + 64 * i) 4 ++ leBytes (atSEQ d) 4 ++
  [BitVec.ofNat 8 (atLAYER d), BitVec.ofNat 8 (atHEAD d)] ++ List.replicate 42 0

def xorBytes (a b : List Byte) : List Byte := List.zipWith (· ^^^ ·) a b

/-- The tokens of one page of a KV_WRITE: entry e, the i-th, tokens t0 to t0 + n − 1 from slot s0 (R164). -/
def kvPage (r : PassRes) (c : CDie) (rs : RunSweep) (e : PTEntry) (i t0 s0 n : Nat) (o : Obs) : PassRes :=
  let d := rs.desc
  let dd := swK d
  if r.err != 0 then r else if !e.valid then r.fail stDIGEST else
  let (r, old) := if s0 = 0 then (r, []) else r.read c rs.ref e.tarn e.addr 64 o
  if r.err != 0 then r else
  if s0 != 0 && !(pgFieldsOk d old i && pgCOUNT old == s0) then r.fail stDIGEST else
  let (r, ts) := (List.range n).foldl (fun (st : PassRes × List Token) k =>
    let (r, t) := token st.1 c rs (t0 + k) o
    (r, if r.past then st.2 else st.2 ++ [t])) (r, [])
  if r.err != 0 then r else
  let body := pageBody dd s0 ts
  if s0 = 0 then
    let h := pageHeader d i n
    r.write c rs.ref e.tarn e.addr (h ++ leBytes (crc64 (h ++ body)).toNat 8 ++ body) o
  else
    let h := leBytes (leNat (old.take 4) - pgCOUNT old <<< 8 + (s0 + n) <<< 8) 4 ++ (old.drop 4).take 52
    let delta := xorBytes h (old.take 56) ++ body
    let dg := pgDIGEST old ^^^ (crc64 delta).toNat ^^^ (crc64 (List.replicate delta.length 0)).toNat
    let put (r : PassRes) (k : Nat) (off n : Nat) (f : Token → List Byte) : PassRes :=
      r.write c rs.ref e.tarn (e.addr + off + (s0 + k) * n) (f (ts.getD k ⟨[], [], [], []⟩)) o
    let r := (List.range n).foldl (fun r k =>
      put (put (put (put r k 64 (dd / 2) (·.ke)) k (64 + 32 * dd) (dd / 16) (·.ks)) k (64 + 36 * dd) (dd / 2) (·.ve))
        k (64 + 68 * dd) (dd / 16) (·.vs)) r
    r.write c rs.ref e.tarn e.addr (h ++ leBytes dg 8) o

/-- Tokens of a KV_WRITE page by page: `fuel` pages at most (R162, R164). -/
def kvPages (c : CDie) (rs : RunSweep) (es : List PTEntry) (o : Obs) : Nat → Nat → PassRes → PassRes
  | 0, _, r => r
  | fuel + 1, t, r =>
    let d := rs.desc
    if swM d ≤ t || r.err != 0 then r else
    let x := atQ_POS d + t - atKV_POS d
    let n := min (64 - x % 64) (swM d - t)
    kvPages c rs es o fuel (t + n) (kvPage r c rs (es.getD (x / 64) ⟨false, false, 0, true⟩) (x / 64) t (x % 64) n o)

/-- KV_WRITE reads its PAGES entries (R154), then writes its tokens page by page (R162–R164). An entry that cannot be read, or with a reserved bit set, ends it
before the first token: DESIGN CHOICE (log entry 77). -/
def kvWrite (r : PassRes) (c : CDie) (rs : RunSweep) (o : Obs) : PassRes :=
  let (r, es) := (List.range (atPAGES rs.desc)).foldl (fun (st : PassRes × List PTEntry) i =>
    let (r, e) := st.1.entry c rs.ref rs.desc i o
    (r, st.2 ++ [e])) (r, [])
  kvPages c rs es o (atPAGES rs.desc + 1) 0 r

/-- The auto-anchor value of an ATTEND sweep (R167). -/
def attnAnchor (r : PassRes) (c : CDie) (rs : RunSweep) (o : Obs) : PassRes × Int :=
  let d := rs.desc
  let dd := swK d
  let (r, ea) := (List.range (swM d)).foldl (fun (st : PassRes × Option Int) m =>
    let (r, q) := queryRow st.1 c rs m o
    (r, maxOpt st.2 (maxExp .e4m3 q.scs))) (r, none)
  let (r, ew) := (List.range (atPAGES d)).foldl (fun (st : PassRes × Option Int) i =>
    let (r, e) := st.1.entry c rs.ref d i o
    if !e.valid || r.past then (r, st.2) else
    let (r, h) := r.read c rs.ref e.tarn e.addr 64 o
    let r := { r with seen := r.seen ++ [(e.tarn, e.addr, h)] }
    let n := min 64 (pgCOUNT h)
    let (r, ks) := r.read c rs.ref e.tarn (e.addr + 64 + 32 * dd) (n * (dd / 16)) o
    (r, maxOpt st.2 (maxExp .kv4 (ks.map (·.toNat))))) (r, none)
  (r, anchorRule ew ea 0 0 3 9 16 (dd / 16))

end Sys2Proof.Machine
end

