-- ==== Sys2Proof/Machine/Records.lean ====
section
/-! DEFINITION. Completion: records, cairn signals and MSI-X messages, in the order of R35 (03 R99–R102, 05 R207, R215, 16 R593). -/

namespace Sys2Proof.Machine

/-- The host side of a function. -/
def State.fn (s : State) (f : Fn) : FnCfg := Store.get (fun _ => {}) s.fns f.key
def State.setFn (s : State) (f : Fn) (c : FnCfg) : State := { s with fns := Store.set (fun _ => {}) s.fns f.key c }

/-- An MSI-X message of a function: dropped and counted beyond the table or with MSI-X or bus mastering disabled, pending when its
vector is masked, else sent (R593). -/
def State.msixSend (s : State) (f : Fn) (v : Nat) : State :=
  let c := s.fn f
  if f.vectors ≤ v || !c.msixEn || !c.busMaster then s.bump .pci C.PCI_MSIX_DROPPED 1
  else if c.unmasked.contains v then s.emit (.msix f v)
  else s.setFn f { c with pend := if c.pend.contains v then c.pend else c.pend ++ [v] }

/-- Write a completion record at a board address under its partition's tag. A refused record is refused as any write is (R241). -/
def State.putRecord (s : State) (q : QRef) (addr : Nat) (bs : List Byte) : State :=
  (s.writeBoard q.die ⟨some q.part, some q.ctx⟩ q.part addr bs {}).1

/-- The 32 bytes of a sweep completion record (R99). -/
def sweepRecord (d : List Byte) (status : Nat) (flags : Flags) (anchor : Int) (now : BitVec 64) (cycles line : Nat) (isCol : Bool) : List Byte :=
  leBytes (1 + dKIND d <<< 4 + status <<< 8 + swTAG d <<< 16) 4 ++ leBytes (flags.code + (anchor % 1024).toNat <<< 16) 4 ++
  leBytes now.toNat 8 ++ leBytes cycles 8 ++ leBytes (line + isCol.toNat <<< 11) 4 ++ leBytes 0 4

/-- The signal of words 8–10 of a dispatch or DMA descriptor, or of words 36–38 of a sweep descriptor (R96, R205, R209). A DMA engine's has FNC set
and counts as its packet (R225). -/
def State.sendSignal (s : State) (q : QRef) (abort : Bool) (dst : Coord) (cairn : Nat) (gen : BitVec 16) (bit retries : Nat)
    (dma : Bool := false) : State :=
  s.issueSignal q.die 0 abort q.part dst cairn gen bit dma (.signal dma) retries

/-- Complete a sweep: its record, its signal when OK, its MSI-X message (R35, R102, R141). -/
def State.completeSweep (s : State) (q : QRef) (d : List Byte) (status : Nat) (flags : Flags) (anchor : Int) (cycles line : Nat) (isCol : Bool) : State :=
  let s := s.putRecord q (swCOMPL d) (sweepRecord d status flags anchor (s.now (CDie.die q.die)) cycles line isCol)
  let s := s.bump (.msf q.die) C.MSF_SWEEPS 1
  let s := if status = stOK && dSIG_EN d then
      s.sendSignal q false (BitVec.ofNat 32 (dwd d 36)) (dw d 37 15 0) (BitVec.ofNat 16 (dw d 37 31 16)) (dw d 38 5 0) (s.retries q.die)
    else s
  if dMSI_EN d then s.msixSend (.vf q.part) (dw d 38 26 16) else s

/-- Complete a vector dispatch: record, signal when OK, MSI-X (R207). -/
def State.completeDispatch (s : State) (q : QRef) (d : List Byte) (status : Nat) (exit core cause : Nat) (epc : BitVec 64) (cycles : Nat) : State :=
  let s := s.putRecord q (dw64 d 6)
    (leBytes (1 + status <<< 8 + dw d 11 15 0 <<< 16) 4 ++ leBytes (exit + core <<< 8 + cause <<< 16) 4 ++
      leBytes (s.now (CDie.die q.die)).toNat 8 ++ leBytes epc.toNat 8 ++ leBytes cycles 8)
  let s := s.bump (.vcx q.die) C.VCX_DISPATCHES 1
  let s := if status = stOK && dSIG_EN d then s.sendSignal q false (qSIG_DST d) (qSIG_CAIRN d) (qSIG_GEN d) (qSIG_BIT d) (s.retries q.die) else s
  if dMSI_EN d then s.msixSend (.vf q.part) (qMSI_VEC d) else s

/-- Retries of a DMA descriptor's packets (R209). -/
def State.dmaRetries (s : State) (c : CDie) (d : List Byte) : Nat := if dmRETRY d = 15 then s.retries c else dmRETRY d

/-- The FAIL map of a DMA record (R215). -/
def failMap (fs : List Nat) : Nat := fs.eraseDups.foldl (fun a i => a + 2 ^ (i % 256)) 0

/-- Complete a DMA descriptor: record, signal or abort, MSI-X (R215). Every status but OK sends the abort of ABORT_ON_FAIL, except those of a gate that failed or
timed out, which issue no signals (R199, R209). -/
def State.completeDma (s : State) (q : QRef) (d : List Byte) (status nchunk resent : Nat) (fails : List Nat) (rt : Nat) : State :=
  let s := s.putRecord q (dmCOMPL d)
    (leBytes (1 + dKIND d <<< 4 + status <<< 8 + dmTAG d <<< 16) 4 ++ leBytes (nchunk + min resent 0xFFFF <<< 16) 4 ++
      leBytes (s.now (CDie.die q.die)).toNat 8 ++ leBytes 0 16 ++ leBytes (failMap fails) 32)
  let s := if status = stCAIRN_FAILED || status = stCAIRN_TIMEOUT then s
    else if status = stOK then
      (if dSIG_EN d then s.sendSignal q false (qSIG_DST d) (qSIG_CAIRN d) (qSIG_GEN d) (qSIG_BIT d) rt true else s)
    else if dmABORT d then s.sendSignal q true (qSIG_DST d) (qSIG_CAIRN d) (qSIG_GEN d) (qSIG_BIT d) rt true else s
  if dMSI_EN d then s.msixSend (.vf q.part) (qMSI_VEC d) else s

/-- Complete an entry that is not executed, with a status of R203 (R199, R200, R202). A sweep that never ran has no anchor: its record's ANCHOR is 0, for EXPLICIT
too (DESIGN CHOICE, log entry 15). -/
def State.completeUnrun (s : State) (q : QRef) (d : List Byte) (status : Nat) : State :=
  match q.kind with
  | .sweep => s.completeSweep q d status {} 0 0 0 false
  | .vector => s.completeDispatch q d status 0 0 0 0 0
  | .dma => s.completeDma q d status 0 0 [] (s.dmaRetries q.die d)

end Sys2Proof.Machine
end

