-- ==== Sys2Proof/Machine/Sweep.lean ====
section
/-! DEFINITION. The Massif array's sweep machine: selection, context switch, tile loads, passes, completion, limit and abort
(03 R86–R89, R105–R139, R681, R682). -/

namespace Sys2Proof.Machine

/-- The queue of the sweeps of a context on a die. -/
def sweepQueue (c : CDie) (k : Nat) : QRef :=
  ⟨c, ⟨k / 8 % 64, Nat.mod_lt _ (by decide)⟩, ⟨k % 8, Nat.mod_lt _ (by decide)⟩, 0⟩

/-- A queue has an entry that has been fetched and has not started, and its partition is not fenced. -/
def State.readyQueue (s : State) (q : QRef) : Bool :=
  (s.queue q).enable && !(s.queue q).fetched.isEmpty && !(s.partFenced q.part)

/-- The next (partition, context) after the last granted, in round-robin order (R133, R201): key 8 × partition + context. -/
def roundRobin (last : Nat) (ready : Nat → Bool) : Option Nat :=
  ((List.range 512).map (fun i => (last + 1 + i) % 512)).find? ready

/-- Take the oldest fetched entry of a queue. -/
def State.takeEntry (s : State) (q : QRef) : Option (Entry × State) :=
  match (s.queue q).fetched with
  | [] => none
  | e :: r => some (e, s.setQueue q { s.queue q with fetched := r })

/-- MSF_CURRENT follows the owner and the running sweep; with no sweep running it keeps what it showed: DESIGN CHOICE (log entry 76) (R141). -/
def State.showCurrent (s : State) (c : CDie) : State :=
  let a := s.array c
  let s := match a.owner with
    | some (p, x) => (s.setFld (.msf c) F.MSF_CURRENT_PART p.val).setFld (.msf c) F.MSF_CURRENT_CTX x.val
    | none => s
  match a.run with
  | some r => (s.setFld (.msf c) F.MSF_CURRENT_KIND (dKIND r.desc)).setFld (.msf c) F.MSF_CURRENT_TAG (swTAG r.desc)
  | none => s

/-- SWEEP_SELECT: in IDLE the arbiter takes the next ready sweep: LOAD for the owning context, SWITCH for another; an UNAVAILABLE array
completes it with NO_ARRAY (R88, R132, R133, R681, R682). -/
def sweepSelect (c : CDie) (s : State) : State :=
  let st := s.msfState c
  if st != msfIDLE && st != msfUNAVAILABLE then s else
  match roundRobin (s.array c).grantArr (fun k => s.readyQueue (sweepQueue c k)) with
  | none => s
  | some k =>
    let q := sweepQueue c k
    match s.takeEntry q with
    | none => s
    | some (e, s) =>
      if st = msfUNAVAILABLE then s.completeSweep q e.bytes stNO_ARRAY {} 0 0 0 false
      else
        let a := s.array c
        let run : RunSweep := { ref := q, index := e.index, desc := e.bytes }
        let s := s.setArray c { a with run := some run, grantArr := k }
        if a.owner = some (q.part, q.ctx) then (s.setMsf c msfLOAD).showCurrent c else s.setMsf c msfSWITCH

/-- SWITCH_COMPLETE: the array's state is cleared, the incoming context owns it, and its sweep enters LOAD, and from it ABORT where a reaction has come during
the switch (R132, R135). -/
def switchComplete (c : CDie) (s : State) : State :=
  if s.msfState c != msfSWITCH then s else
  let a := s.array c
  match a.run with
  | none => s
  | some r =>
    let s := s.setArray c { a with owner := some (r.ref.part, r.ref.ctx), drain := [], next := none }
    if r.status = 0 then (s.setMsf c msfLOAD).showCurrent c else s.setMsf c msfABORT

/-- MSF fault source of a completion status (13 R494): none for statuses another block reports. -/
def msfSource (st : Nat) : Option Nat :=
  if st = stDESC_INVALID then some 0x100 else if st = stRANGE then some 0x101 else if st = stCHECKSUM then some 0x102
  else if st = stRESIDUE then some 0x103 else if st = stLIMIT then some 0x104 else if st = stDIGEST then some 0x105
  else if st = stTIMEOUT then some 0x106 else none

/-- Raise the sources of the statuses a sweep detected (R101). -/
def State.raiseSweep (s : State) (q : QRef) (sts : List Nat) (inj : Bool) : State :=
  sts.foldl (fun t st => match msfSource st with
    | some code => t.raise (.msf q.die) code 2 ⟨some q.part, some q.ctx⟩ inj
    | none => t) s

/-- A checksum mismatch names a physical line: the third of a line in the epoch makes it suspect with a C1 fault and an event, and puts it into the repair data
of the next bring-up (R89). -/
def State.nameLine (s : State) (c : CDie) (l : Bool × Nat) : State :=
  let a := s.array c
  let n := ((a.mism.find? (fun e => e.1 == l)).map (·.2)).getD 0 + 1
  let s := s.setArray c { a with mism := (l, n) :: a.mism.filter (fun e => e.1 != l) }
  if n != 3 || a.suspects.contains l then s else
  let s := State.setArray { s with repairLines := s.repairLines ++ [(c, l)] } c { s.array c with suspects := a.suspects ++ [l] }
  let s := s.incFld (.msf c) F.MSF_ARRAY_SUSPECTS 1
  let s := if s.flag (.msf c) F.MSF_SUSPECT_VALID then s else
    s.wr (Page.base (.msf c) + F.MSF_SUSPECT_LINE.off) (BitVec.ofNat 32 (l.2 + l.1.toNat <<< 11 + 1 <<< 12))
  (s.fireEvent (.msf c) 1).raise (.msf c) 0x107 1 {}

/-- One checksum or residue mismatch: counted; a checksum mismatch counts against the lines it names, an injected one against none (R89, R515). -/
def State.mismatch (s : State) (c : CDie) (lines : List (Bool × Nat)) (residue inj : Bool) : State :=
  let s := s.bump (.msf c) C.MSF_CKSUM_FAIL 1
  if residue || inj then s else lines.foldl (fun t l => t.nameLine c l) s

/-- Which sweep of an array a step works on. -/
inductive Slot where
  | run | drain (i : Nat)
  deriving DecidableEq, Repr

def ArraySt.get (a : ArraySt) : Slot → Option RunSweep | .run => a.run | .drain i => a.drain[i]?
def ArraySt.put (a : ArraySt) (k : Slot) (r : RunSweep) : ArraySt :=
  match k with | .run => { a with run := some r } | .drain i => { a with drain := a.drain.set i r }

/-- The outcome of a pass or load goes back to the array. An error ends the sweep with its own status, the array enters ABORT, and the
fault hub receives every source detected (R101, R132). -/
def State.endStep (s : State) (c : CDie) (k : Slot) (r : RunSweep) (res : PassRes) (inj : Bool) : State :=
  let r := { r with flags := r.flags.or res.flags, committed := r.committed ++ res.wrote, seen := r.seen ++ res.seen }
  if res.err = 0 then s.setArray c ((s.array c).put k r)
  else
    let s := s.setArray c ((s.array c).put k { r with status := res.err })
    let live := 3 ≤ s.msfState c && s.msfState c ≤ 7
    let s := if live then s.setMsf c msfABORT else s
    s.raiseSweep r.ref res.errs inj

/-- The kinds and operations that place operands in array cells (R130). -/
def inCells (d : List Byte) : Bool := dKIND d ≤ 1 || dKIND d = kTRANSPOSE || (dKIND d = kATTN && atOP d = 0)

/-- A SCAN_ONLY sweep computes nothing but its anchor (R66). -/
def scanOnly (d : List Byte) : Bool := swANCHOR_MODE d == 2

/-- The sweep has more than one pass: GEMM and ATTEND but for SCAN_ONLY. -/
def multiPass (d : List Byte) : Bool := !(scanOnly d) && (dKIND d ≤ 1 || (dKIND d = kATTN && atOP d = 0))

/-- The pass in the active plane is the last of the sweep (R105, R106, R179). -/
def RunSweep.lastPass (r : RunSweep) : Bool :=
  let d := r.desc
  if !(multiPass d) then true
  else if dKIND d ≤ 1 then r.kt + 1 == tilesK d && r.nt + 1 == tilesN d && r.g + 1 == groups d
  else r.kt + 1 == attnSpans d && r.g + 1 == attnGroups d

/-- The place of the next pass; the planes swap (R105, R106, R110, R179). -/
def RunSweep.advance (r : RunSweep) : RunSweep :=
  let d := r.desc
  let r := { r with tile := r.shadow, badRows := r.badNext, shadow := none, badNext := [] }
  if dKIND d ≤ 1 then
    if r.kt + 1 < tilesK d then { r with kt := r.kt + 1 }
    else if r.nt + 1 < tilesN d then { r with kt := 0, nt := r.nt + 1 }
    else { r with kt := 0, nt := 0, g := r.g + 1 }
  else if r.kt + 1 < attnSpans d then { r with kt := r.kt + 1 } else { r with kt := 0, g := r.g + 1 }

/-- The limit a sweep runs under is the register's value when its first row enters (R31, R138, R142). -/
def RunSweep.enter (r : RunSweep) (live : Nat) : RunSweep := { r with limit := some (r.limit.getD live) }
def State.sweepLimitReg (s : State) (c : CDie) : Nat := s.fld (.msf c) F.MSF_SWEEP_LIMIT_LIMIT

/-- An issue hold removes every issue slot of a die's array (R134, 12 R465). -/
def State.issueHold (s : State) (c : CDie) : Bool := s.flag (.pwr (CDie.die c)) F.PWR_STATUS_DROOP

/-- The bytes of a stored tile with the bits of cell (k, j) flipped: one stored code, two ternary codes of a T2 cell, and above the code of a sparse cell its
index (R103, R117, R127). -/
def flipCell (w : Fmt) (sparse : Bool) (t : List Byte) (k j x : Nat) : List Byte :=
  let put (t : List Byte) (bit v : Nat) : List Byte :=
    [0, 1, 2].foldl (fun t i => t.modify (bit / 8 + i) (· ^^^ BitVec.ofNat 8 ((v <<< (bit % 8)) >>> (8 * i)))) t
  let wd := if w == .t2 then 4 else w.width
  let t := put t ((j * 1024 + k) * wd) (x % 2 ^ wd)
  if sparse then put t (1024 * 1024 * wd + (j * 1024 + k) * 2) (x / 2 ^ wd % 4) else t

/-- The sum modulo 2^32 of the raw element and index codes of logical row k of a tile (R127). -/
def rowCodes (w : Fmt) (sparse : Bool) (t : List Byte) (k : Nat) : Nat :=
  let plane := t.drop (1024 * 1024 * w.width / 8)
  ((List.range 1024).map (fun j =>
    if w == .t2 then elemAt 2 t (j * 2048 + 2 * k) + elemAt 2 t (j * 2048 + 2 * k + 1)
    else elemAt w.width t (j * 1024 + k) + (if sparse then elemAt 2 plane (j * 1024 + k) else 0))).sum % 2 ^ 32

/-- Load the tile of a GEMM pass and store it in the cells: the tile as stored, and the physical rows whose sums of codes sent and stored differ (R103, R127).
Other kinds load nothing that a later step reads here; a cell of theirs that stores another code is a row that differs (log entry 77). -/
def loadTile (r : PassRes) (c : CDie) (rs : RunSweep) (cells : List CellUpset) (o : Obs) : PassRes × Tile × List Nat :=
  let d := rs.desc
  let a := r.s.array c
  let ups := cells.filterMap (fun u => match a.logical false u.row.val, a.logical true u.col.val with
    | some k, some j => some (k, j, u.xor) | _, _ => none)
  if scanOnly d || !(inCells d) then (r, ⟨rs.kt, rs.nt, [], []⟩, [])
  else if 1 < dKIND d then (r, ⟨rs.kt, rs.nt, [], []⟩, ((ups.filter (fun u => u.2.2 != 0)).map (fun u => a.phys false u.1)).eraseDups)
  else
    let w := fmtOf (swFMT_W d)
    let i := rs.nt * tilesK d + rs.kt
    let (r, wb) := r.read c rs.ref (swLocW d) (swW_ADDR d + i * tileBytes w (dSPARSE d)) (tileBytes w (dSPARSE d)) o
    let (r, sb) := r.read c rs.ref (swLocW d) (swWS_ADDR d + i * tileScaleBytes w (dSPARSE d)) (tileScaleBytes w (dSPARSE d)) o
    let stored := ups.foldl (fun t u => flipCell w (dSPARSE d) t u.1 u.2.1 u.2.2) wb
    let bad := (ups.map (·.1)).eraseDups.filter (fun k => rowCodes w (dSPARSE d) wb k != rowCodes w (dSPARSE d) stored k)
    (r, ⟨rs.kt, rs.nt, stored, sb⟩, bad.map (a.phys false))

/-- What a sweep does once at its start: the user table or frequency table is read and checked, and the anchor is set (R66, R67, R124,
R158, R167). -/
def startSweep (r : PassRes) (c : CDie) (rs : RunSweep) (o : Obs) : PassRes × RunSweep :=
  let d := rs.desc
  let (r, rs) : PassRes × RunSweep :=
    if dKIND d ≤ 1 && swACT d = 15 then
      let (r, tb) := r.read c rs.ref (swLocAux d) (swAUX_ADDR d) 1296 o
      (if r.past || tableOk tb then r else r.fail stDESC_INVALID, { rs with table := tb })
    else if dKIND d = kATTN && atROPE d != 0 then
      let (r, tb) := r.read c rs.ref (swLocAux d) (swAUX_ADDR d) (8 * atPAIRS d) o
      (r, { rs with table := tb })
    else (r, rs)
  if swANCHOR_MODE d = 0 then (r, { rs with anchor := swANCHOR d })
  else if dKIND d ≤ 1 then let (r, a) := gemmAnchor r c rs o; (r, { rs with anchor := a })
  else let (r, a) := attnAnchor r c rs o; (r, { rs with anchor := a })

/-- A line that an injection makes a checker name: any line in use (13 R514, R515; log entry 6). -/
def State.freeLine (s : State) (c : CDie) (isCol : Bool) : State × Nat :=
  let (v, s) := s.free
  (s, (s.array c).phys isCol (v.toNat % 1024))

/-- One tile load: the work of a sweep's start where it is the first, the tile as stored, and the rows that will mismatch at the plane swap, found or injected
(R110, R127, R514). `tie`: the load's errors were detected in one cycle (R101). -/
def loadStep (c : CDie) (rs : RunSweep) (start : Bool) (cells : List CellUpset) (tie : Bool) (o : Obs) (s : State) :
    PassRes × RunSweep × Tile × List (Nat × Bool) :=
  let (r, rs) := if start then startSweep { s := s, tie := tie } c rs o else ({ s := s, tie := tie }, rs)
  let (r, t, bad) := loadTile r c rs cells o
  let found := bad.map (fun l => (l, false))
  match if inCells rs.desc && r.err = 0 then r.s.injection (.msf c) 0 else none with
  | some _ => let (s, l) := (r.s.injFired (.msf c)).freeLine c false; ({ r with s := s }, rs, t, (l, true) :: found)
  | none => (r, rs, t, found)

/-- TILE_LOAD_DONE: the first tile of a sweep, with its start work; a later tile into the empty active plane, or into the shadow plane while the active one
streams; during the last pass, the first tile of the next sweep of the queue (R110, R112, R114, R127, R132). -/
def tileLoadDone (c : CDie) (cells : List CellUpset) (tie : Bool) (o : Obs) (s : State) : State :=
  let a := s.array c
  match a.run with
  | none => s
  | some r =>
    if s.msfState c = msfLOAD then
      let (res, r, t, bad) := loadStep c r true cells tie o s
      let s := res.s.endStep c .run { r with tile := some t, badRows := bad } res false
      if res.err = 0 then s.setMsf c msfSTREAM else s
    else if s.msfState c != msfSTREAM then s
    else if r.tile.isNone then
      let (res, r, t, bad) := loadStep c r false cells tie o s
      res.s.endStep c .run { r with tile := some t, badRows := bad } res false
    else if !r.lastPass then
      if r.shadow.isSome then s else
      let (res, _, t, bad) := loadStep c r.advance false cells tie o s
      res.s.endStep c .run { r with shadow := some t, badNext := bad } res false
    else if a.next.isNone then
      match (s.queue r.ref).fetched with
      | [] => s
      | e :: _ =>
        if dWAIT_PRIOR e.bytes || s.partFenced r.ref.part then s else
        let (res, n, t, bad) := loadStep c { ref := r.ref, index := e.index, desc := e.bytes } true cells tie o s
        let s := res.s
        if res.err = 0 then s.setArray c { s.array c with next := some { n with flags := res.flags, seen := res.seen, tile := some t, badRows := bad } }
        else
          match s.takeEntry r.ref with
          | none => s
          | some (_, s) =>
            let s := s.completeSweep r.ref e.bytes res.err res.flags n.anchor 0 n.line false
            s.raiseSweep r.ref res.errs false
    else s

/-- SWEEP_LAST_ROW: the array overlaps into the next sweep of the queue when its first tile has loaded, or enters DRAIN; under an issue hold the row waits (R114,
R132, R134, R138). -/
def sweepLastRow (c : CDie) (s : State) : State :=
  let a := s.array c
  match a.run with
  | none => s
  | some r =>
    if s.msfState c != msfSTREAM || r.tile.isNone || !r.lastPass || r.lastRow || s.issueHold c then s else
    let r := { r.enter (s.sweepLimitReg c) with lastRow := true }
    match a.next, (s.queue r.ref).fetched with
    | some n, e :: rest =>
      if n.index = e.index && n.desc = e.bytes then
        let s := s.setQueue r.ref { s.queue r.ref with fetched := rest }
        (s.setArray c { a with drain := a.drain ++ [r], run := some n, next := none }).showCurrent c
      else (s.setArray c { a with run := some r, next := none }).setMsf c msfDRAIN
    | _, _ => (s.setArray c { a with run := some r, next := none }).setMsf c msfDRAIN

/-- The sweep is an anchored one with the column comparison of R128: GEMM, or ATTEND (R130). -/
def columnChecked (d : List Byte) : Bool :=
  !(scanOnly d) && ((dKIND d ≤ 1 && !(fixedTree (fmtOf (swFMT_W d)))) || (dKIND d = kATTN && atOP d = 0))

/-- The sweep's entries carry residues (R126). -/
def residueChecked (d : List Byte) : Bool := !(scanOnly d) && (dKIND d ≤ 1 || (dKIND d = kATTN && atOP d = 0))

/-- Physical columns of an ATTEND pass whose product sums differ from the checksum row's result: what the faults add does not cancel (R128, R130). -/
def netColumns (a : ArraySt) (us : List ProdUpset) : List Nat :=
  let used := us.filter (fun u => (a.logical true u.col.val).isSome && (a.logical false u.row.val).isSome)
  (used.map (·.col.val)).eraseDups.filter (fun k => ((used.filter (fun u => u.col.val == k)).map (·.delta)).sum != 0)

/-- The work of one pass (R105–R109, R145, R179), with the column comparison at its end (R128). -/
def passWork (r : PassRes) (c : CDie) (rs : RunSweep) (o : Obs) : PassRes × RunSweep :=
  let d := rs.desc
  let a := r.s.array c
  if scanOnly d then (r, rs)
  else if dKIND d ≤ 1 then
    match rs.tile with
    | none => (r, rs)
    | some t =>
      let (m0, n) := groupRows d rs.g
      let (r, rs) := (List.range n).foldl (fun st i => gemmRow c t o st (m0 + i)) (r, rs)
      let bad := (List.range r.colSum.length).filter (fun j => r.colSum.getD j 0 != checksumOf d t r.rowSum j)
      ({ r with prodBad := r.prodBad ++ bad.map (fun j => (none, a.phys true j)) }, rs)
  else if dKIND d = kATTN then
    if atOP d = 0 then
      let (r, rs) := attendSpan r c rs o
      let r := { r with prodBad := (netColumns a r.ups.prods).map (fun k => (none, k)) }
      if rs.kt + 1 = attnSpans d then
        let r := attendDrain r c rs o
        ({ r with resBad := ((r.ups.accs.filter (fun u => (a.logical true u.col.val).isSome)).map (·.col.val)).eraseDups }, rs)
      else (r, rs)
    else if atOP d = 1 then (combine r c rs o, rs)
    else (kvWrite r c rs o, rs)
  else if dKIND d ≤ 4 then (tileCopy r c rs o, rs)
  else (transpose r c rs o, rs)

/-- One mismatch into a pass: its status, and the line the record names when it is the sweep's first error (R99, R101, R130). -/
def PassRes.finding (r : PassRes) (c : CDie) (rs : RunSweep) (lines : List (Bool × Nat)) (line : Bool × Nat) (st : Nat) (inj : Bool) : PassRes × RunSweep :=
  let first := r.err = 0 || (r.tie && st < r.err)
  (PassRes.fail { r with s := r.s.mismatch c lines (st = stRESIDUE) inj } st, if first then { rs with line := line.2, lineCol := line.1 } else rs)

/-- An injected column mismatch of a checker (13 R514, R515). -/
def PassRes.injected (r : PassRes) (c : CDie) (rs : RunSweep) (checker st : Nat) (on : Bool) : PassRes × RunSweep × Bool :=
  match if on then r.s.injection (.msf c) checker else none with
  | some _ =>
    let (s, l) := (r.s.injFired (.msf c)).freeLine c true
    let (r, rs) := PassRes.finding { r with s := s } c rs [(true, l)] (true, l) st true
    (r, rs, true)
  | none => (r, rs, false)

/-- The pass drains entries (R105, R106, R179). -/
def RunSweep.drains (r : RunSweep) : Bool := r.kt + 1 == (if dKIND r.desc ≤ 1 then tilesK r.desc else attnSpans r.desc)

/-- The checks at the end of a pass: columns and products, then residues (R126, R128–R130). -/
def passChecks (r : PassRes) (c : CDie) (rs : RunSweep) : PassRes × RunSweep × Bool :=
  let d := rs.desc
  let (p, rs, i1) := r.injected c rs 1 stCHECKSUM (columnChecked d)
  let (p, rs) := r.prodBad.eraseDups.foldl (fun (x : PassRes × RunSweep) b =>
    x.1.finding c x.2 ((b.1.map (fun k => (false, k))).toList ++ [(true, b.2)]) (true, b.2) stCHECKSUM false) (p, rs)
  let (p, rs, i2) := p.injected c rs 2 stRESIDUE (residueChecked d && rs.drains)
  let (p, rs) := r.resBad.foldl (fun (x : PassRes × RunSweep) l => x.1.finding c x.2 [] (true, l) stRESIDUE false) (p, rs)
  (p, rs, i1 || i2)

/-- The work and checks of one pass. A row that mismatched at the plane swap ends the sweep here, before the pass's outputs (R127, R130). -/
def passStep (r : PassRes) (c : CDie) (rs : RunSweep) (o : Obs) : PassRes × RunSweep × Bool :=
  if rs.badRows = [] then
    let (r, rs) := passWork r c rs o
    passChecks r c rs
  else
    let (r, rs) := rs.badRows.foldl (fun (x : PassRes × RunSweep) b => x.1.finding c x.2 [(false, b.1)] (false, b.1) stCHECKSUM b.2) (r, rs)
    (r, rs, rs.badRows.any (·.2))

/-- The sweep after a pass without an error. -/
def RunSweep.pass (r : RunSweep) : RunSweep :=
  if r.lastPass then { r with done := true, tile := none, acc := [], tiers := [] }
  else if r.drains then { r.advance with acc := [], tiers := [] } else r.advance

/-- The sweep whose pass is next to end: the oldest that drains, else the running one. -/
def ArraySt.passSlot (a : ArraySt) : Slot := match a.drain.findIdx? (fun r => !r.done) with | some i => .drain i | none => .run

/-- A pass of a sweep can end: its rows have entered, which an issue hold delays (R134, R138). -/
def RunSweep.passReady (r : RunSweep) (hold : Bool) : Bool := r.tile.isSome && !r.done && r.status == 0 && (if r.lastPass then r.lastRow else !hold)

/-- SWEEP_PASS_END: the pass's rows are computed, drained rows committed, the checks made, and the planes swap (R105, R106, R110, R126–R130,
R153). `tie`: the pass's errors were detected in one cycle (R101). -/
def sweepPassEnd (c : CDie) (u : PassUpset) (tie : Bool) (o : Obs) (s : State) : State :=
  let st := s.msfState c
  let slot := (s.array c).passSlot
  match (s.array c).get slot with
  | none => s
  | some r =>
    if (st != msfSTREAM && st != msfDRAIN) || !(r.passReady (s.issueHold c)) then s else
    let (p, r, inj) := passStep { s := s, tie := tie, ups := u } c (r.enter (s.sweepLimitReg c)) o
    p.s.endStep c slot (if p.err = 0 then r.pass else r) p inj

/-- The extents of a sweep's outputs: in Tarn?, address, length. -/
def outExtents (d : List Byte) : List (Bool × Nat × Nat) :=
  let o := fmtOf (swFMT_OUT d)
  let rows (n row stride sc : Nat) : List (Bool × Nat × Nat) :=
    (List.range n).map (fun m => (swLocOut d, swOUT_ADDR d + m * stride, row)) ++ (if o.isBlock then [(swLocOut d, swOUTS_ADDR d, n * sc)] else [])
  if scanOnly d then []
  else if dKIND d ≤ 1 then rows (swM d) (rowBytes o (swN d)) (swOUT_STRIDE d) (scaleRowBytes o (swN d))
  else if dKIND d = kATTN then
    if atOP d = 2 then []
    else if atPOUT d then
      let sh := if atOP d = 1 then atSHARDS d else 0
      [(swLocAcc d, atPART_ADDR d + sh * swM d * partRecBytes (swK d), swM d * partRecBytes (swK d))]
    else rows (swM d) (rowBytes o (swK d)) (swOUT_STRIDE d) (scaleRowBytes o (swK d))
  else if dKIND d ≤ 4 then
    let n := tilesK d * tilesN d
    let w := fmtOf (swFMT_W d)
    if dKIND d = kTILE_LOAD then [(true, swOUT_ADDR d, n * tileBytes w (dSPARSE d)), (true, swOUTS_ADDR d, n * tileScaleBytes w (dSPARSE d))]
    else [(false, swW_ADDR d, n * tileBytes w (dSPARSE d)), (false, swWS_ADDR d, n * tileScaleBytes w (dSPARSE d))]
  else if fmtOf (swFMT_W d) = .none then rows (swK d) (rowBytes o (swM d)) (swOUT_STRIDE d) (scaleRowBytes o (swM d))
  else
    let n := ceilDiv (swM d) (tileK o false) * ceilDiv (swK d) 1024
    [(swLocOut d, swOUT_ADDR d, n * tileBytes o false), (swLocOut d, swOUTS_ADDR d, n * tileScaleBytes o false)]

/-- Bytes of the package as they stand, where a partition's operand address reaches this package: none elsewhere. -/
def State.peek (s : State) (q : QRef) (loc : Bool) (a len : Nat) : Option (List Byte) :=
  if loc then some (s.tarnGet q.die ((s.tarnAlloc q.die q.part).1 + a) len)
  else match placeOf a with
    | .mem pos c off => if pos = s.pos then some (s.memGet c off len) else none
    | .tarn pos c off => if pos = s.pos then some (s.tarnGet c off len) else none
    | .unmapped => none

/-- What a KV_WRITE would write: of each page its tokens fall in, the whole page where they start it, else the header and the tokens' bytes, as the page table
in this package names them (R164). -/
def State.kvExtents (s : State) (q : QRef) (d : List Byte) : List (Bool × Nat × Nat) :=
  if !(dKIND d = kATTN && atOP d = 2) then [] else
  let dd := swK d
  let x0 := atQ_POS d - atKV_POS d
  let x1 := x0 + swM d
  (List.range (atPAGES d)).flatMap (fun i =>
    let lo := max x0 (64 * i)
    let hi := min x1 (64 * (i + 1))
    if hi ≤ lo then [] else
    match s.peek q (atPT_LOC d) (atPT_ADDR d + 8 * i) 8 with
    | none => []
    | some bs =>
      let e := ptEntry (leNat bs)
      let s0 := lo - 64 * i
      let n := hi - lo
      if !e.valid || !e.rsvOk then []
      else if s0 = 0 then [(e.tarn, e.addr, pageBytes dd)]
      else [(e.tarn, e.addr, 64), (e.tarn, e.addr + 64 + s0 * (dd / 2), n * (dd / 2)), (e.tarn, e.addr + 64 + 32 * dd + s0 * (dd / 16), n * (dd / 16)),
        (e.tarn, e.addr + 64 + 36 * dd + s0 * (dd / 2), n * (dd / 2)), (e.tarn, e.addr + 64 + 68 * dd + s0 * (dd / 16), n * (dd / 16))])

/-- What of an extent no committed extent covers (R100). -/
def uncovered (done : List (Bool × Nat × Nat)) (e : Bool × Nat × Nat) : List (Bool × Nat × Nat) :=
  done.foldl (fun es k => es.flatMap (fun e =>
    if e.1 != k.1 || e.2.1 + e.2.2 ≤ k.2.1 || k.2.1 + k.2.2 ≤ e.2.1 then [e]
    else (if e.2.1 < k.2.1 then [(e.1, e.2.1, k.2.1 - e.2.1)] else []) ++
      (if k.2.1 + k.2.2 < e.2.1 + e.2.2 then [(e.1, k.2.1 + k.2.2, e.2.1 + e.2.2 - (k.2.1 + k.2.2))] else []))) [e]

/-- Bytes whose value the spec leaves undefined: free values, within what the partition may write (R100, log entry 6). -/
def State.scramble (s : State) (q : QRef) (loc : Bool) (a len : Nat) : State :=
  if len = 0 then s else
  let put (s : State) (f : State → List Byte → State) : State := let (bs, s) := s.freeBytes len; f s bs
  if loc then
    let al := s.tarnAlloc q.die q.part
    if al.2 < a + len || s.partFenced q.part then s else put s (fun s bs => s.tarnPut q.die (al.1 + a) bs)
  else match placeOf a with
    | .mem pos c off => if pos = s.pos && !(s.dieDown c) && s.memOk c q.part off len then put s (fun s bs => s.memPut c off bs) else s
    | .tarn pos c off => if pos = s.pos && !(s.dieDown c) && s.tarnOk c q.part off len then put s (fun s bs => s.tarnPut c off bs) else s
    | .unmapped => s

/-- A KV4 page that an ATTEND sweep has read, or its header, has changed since (R165, R181). -/
def State.pageChanged (s : State) (r : RunSweep) : Bool :=
  r.seen.any (fun e => match s.peek r.ref e.1 e.2.1 e.2.2.length with | some bs => bs != e.2.2 | none => false)

/-- The undefined outputs of a sweep that has started: those not committed of one that did not end OK; all of an ATTEND whose pages were written while it ran
(R100, R165, R181). -/
def State.undefOutputs (s : State) (r : RunSweep) : State :=
  let outs := outExtents r.desc ++ s.kvExtents r.ref r.desc
  let undef := if r.status != stOK then outs.flatMap (uncovered r.committed) else if s.pageChanged r then outs else []
  undef.foldl (fun s e => s.scramble r.ref e.1 e.2.1 e.2.2) s

/-- Complete a sweep the array holds. -/
def State.finishSweep (s : State) (r : RunSweep) : State :=
  let s := s.undefOutputs r
  s.completeSweep r.ref r.desc r.status r.flags r.anchor r.cycles r.line r.lineCol

/-- SWEEP_COMPLETE: the record of a sweep whose outputs have committed, then its signal and MSI-X; a sweep in DRAIN leaves the array IDLE
(R35, R114, R132). Sweeps complete in order. -/
def sweepComplete (c : CDie) (s : State) : State :=
  let a := s.array c
  let st := s.msfState c
  match a.drain with
  | r :: rest =>
    if (st = msfSTREAM || st = msfDRAIN) && r.done then (s.setArray c { a with drain := rest }).finishSweep r else s
  | [] =>
    match a.run with
    | some r => if st = msfDRAIN && r.done then ((s.setArray c { a with run := none }).setMsf c msfIDLE).finishSweep r else s
    | none => s

/-- A sweep has spent its limit: 1,024 ACLK cycles a unit, 0 for none (R137). -/
def RunSweep.overLimit (live : Nat) (r : RunSweep) : Bool :=
  let l := r.limit.getD live
  l != 0 && r.status == 0 && decide (l * 1024 ≤ r.counted)

/-- SWEEP_LIMIT: a sweep that has spent its limit in LOAD, STREAM and DRAIN is aborted with status LIMIT and a C2 fault; with none that has, nothing happens
(R137). -/
def sweepLimit (c : CDie) (s : State) : State :=
  let a := s.array c
  let st := s.msfState c
  let live := s.sweepLimitReg c
  if !(st = msfLOAD || st = msfSTREAM || st = msfDRAIN) then s else
  let slot : Option Slot := match a.drain.findIdx? (RunSweep.overLimit live) with
    | some i => some (.drain i)
    | none => if a.run.any (RunSweep.overLimit live) then some .run else none
  match slot.bind (fun k => (a.get k).map (fun r => (k, r))) with
  | none => s
  | some (k, r) => ((s.setArray c { a.put k (r.fail stLIMIT) with next := none }).setMsf c msfABORT).raiseSweep r.ref [stLIMIT] false

/-- ABORT_COMPLETE: the array's state is cleared, the records of the aborted sweeps are written, and the array is IDLE (R132, R136). -/
def abortComplete (c : CDie) (s : State) : State :=
  if s.msfState c != msfABORT then s else
  let a := s.array c
  let s := (s.setArray c { a with run := none, drain := [], next := none }).setMsf c msfIDLE
  (a.drain ++ a.run.toList).foldl (fun s r => s.finishSweep (if r.done then r else r.fail stABORTED)) s

end Sys2Proof.Machine
end

