-- ==== Sys2Proof/Machine/Queues.lean ====
section
/-! DEFINITION. Command queues: doorbells, gates, flushing and descriptor fetch (05 R194–R204). -/

namespace Sys2Proof.Machine

/-- A cairn of a die. -/
def State.cairn (s : State) (c : CDie) (n : Nat) : Cairn := Store.get (fun _ => {}) s.cairns (c.val * 8192 + n)
def State.setCairn (s : State) (c : CDie) (n : Nat) (x : Cairn) : State := { s with cairns := Store.set (fun _ => {}) s.cairns (c.val * 8192 + n) x }

/-- Distance between queue indices modulo 2^24 (R196). -/
def ixDist (a b : BitVec 24) : Nat := (a - b).toNat

/-- The board address of entry i of a queue (R196). -/
def entryAddr (r : QRef) (q : QueueSt) (i : BitVec 24) : Nat := q.base + (i.toNat % 2 ^ q.log2) * r.entrySize

/-- A new TAIL passes the test of R197 against an old one. -/
def tailOk (q : QueueSt) (old t : BitVec 24) : Bool :=
  decide (ixDist t old < 2 ^ 23) && decide (ixDist t q.head ≤ 2 ^ q.log2)

/-- The newest pending TAIL (R198). -/
def newestTail (q : QueueSt) : BitVec 24 := (q.gates.getLast?.map (·.tail)).getD q.tail

/-- Stop a queue in ERROR with the C2 fault of R197 and R198. -/
def State.queueError (s : State) (r : QRef) : State :=
  let s := s.setQueue r { s.queue r with err := true }
  (s.fireEvent (.vcx r.die) 1).raise (.vcx r.die) 0x104 2 ⟨some r.part, some r.ctx⟩

/-- Complete `n` entries of a ring that are not executed, from index i (R199, R200); an entry that cannot be read gets no record. -/
def State.completeRing (s : State) (r : QRef) (st : Nat) : Nat → BitVec 24 → State
  | 0, _ => s
  | n + 1, i =>
    let (s, st', bs) := s.readBoard r.die ⟨some r.part, some r.ctx⟩ r.part (entryAddr r (s.queue r) i) r.entrySize {}
    let s := if st' = .ok then s.completeUnrun r bs st else s
    s.completeRing r st n (i + 1)

/-- Entries `a` to `b` of a ring are already completed and are passed over: HEAD, the next entry to be fetched, is never one of them (R196, R199). -/
def QueueSt.pass (q : QueueSt) (a b : BitVec 24) : QueueSt :=
  if a = b then q
  else if q.head = a then { q with head := b }
  else match q.skips.getLast? with
    | some k => if k.2 = a then { q with skips := q.skips.dropLast ++ [(k.1, b)] } else { q with skips := q.skips ++ [(a, b)] }
    | none => { q with skips := [(a, b)] }

/-- HEAD after the entry at HEAD is fetched (R196). -/
def QueueSt.advance (q : QueueSt) : QueueSt :=
  match q.skips with
  | k :: rest => if k.1 = q.head + 1 then { q with head := k.2, skips := rest } else { q with head := q.head + 1 }
  | [] => { q with head := q.head + 1 }

/-- Entries from TAIL to `t` complete unexecuted with a status, and TAIL moves to `t` (R199). -/
def State.failEntries (s : State) (r : QRef) (t : BitVec 24) (st : Nat) : State :=
  let q := s.queue r
  let s := s.setQueue r ({ q with tail := t }.pass q.tail t)
  s.completeRing r st (ixDist t q.tail) q.tail

/-- How a gate stands: waiting, open, or failed (R198). -/
inductive GateNow where
  | wait | opens | fails
  deriving DecidableEq, Repr

def State.gateNow (s : State) (c : CDie) (g : Gate) : GateNow :=
  if g.dead then .fails else match g.cairn with
  | none => .opens
  | some n =>
    let x := s.cairn c n.toNat
    let d := (x.gen - g.gen).toNat
    if d = 0 || 2 ^ 15 ≤ d then .wait else if d = 1 && x.failed then .fails else .opens

/-- Open or fail the oldest gates of a queue as far as they go, at most `fuel` of them (R198, R199). -/
def State.settleGates (s : State) (r : QRef) : Nat → State
  | 0 => s
  | fuel + 1 =>
    let q := s.queue r
    if q.err then s else
    match q.gates with
    | [] => s
    | g :: rest =>
      match s.gateNow r.die g with
      | .wait => s
      | .opens => (s.setQueue r { q with gates := rest, tail := g.tail }).settleGates r fuel
      | .fails => ((s.setQueue r { q with gates := rest }).failEntries r g.tail stCAIRN_FAILED).settleGates r fuel

/-- Whether a partition is stopped (14 R527). -/
def State.partStopped (s : State) (p : Part) : Bool :=
  match Store.get (fun _ => none) s.parts p.val with | some x => x.stopped | none => false

/-- The queue a doorbell addresses: through a PF the partition is VCX_DB_PART's (R224). -/
def doorQueue (src : DoorSrc) (q : QRef) (s : State) : QRef :=
  match src with
  | .host (.pf _) => { q with part := ⟨s.fld (.vcx q.die) F.VCX_DB_PART_PART % 64, Nat.mod_lt _ (by decide)⟩ }
  | .host (.vf p) => { q with part := p }
  | .core => q

/-- A doorbell reaches a queue that takes doorbells: enabled, its partition neither fenced nor stopped, its die up and the package not
in the safe state (R195, R505, 14 R527, 16 R595). -/
def State.doorOpen (s : State) (r : QRef) : Bool :=
  (s.queue r).enable && !(s.partFenced r.part) && !(s.partStopped r.part) && !(s.dieDown r.die) && !(s.flag .pci F.PCI_STATUS_FATAL)

/-- A doorbell without GATED or FLUSH (R197, R198). -/
def doorbell (r : QRef) (t : BitVec 24) (s : State) : State :=
  let q := s.queue r
  if !(s.doorOpen r) || q.err then s
  else if q.gates.isEmpty then
    if t = q.tail then s else if tailOk q q.tail t then s.setQueue r { q with tail := t } else s.queueError r
  else if t = newestTail q then s
  else if !(tailOk q (newestTail q) t) || 8 ≤ q.gates.length then s.queueError r
  else (s.setQueue r { q with gates := q.gates ++ [⟨none, 0, t, false⟩] }).settleGates r 9

/-- A GATED doorbell (R198). -/
def doorbellGated (r : QRef) (t : BitVec 24) (s : State) : State :=
  let q := s.queue r
  if !(s.doorOpen r) || q.err then s
  else if t = newestTail q then s
  else if !(tailOk q (newestTail q) t) || 8 ≤ q.gates.length then s.queueError r
  else (s.setQueue r { q with gates := q.gates ++ [⟨some q.gateCairn, q.gateGen, t, false⟩] }).settleGates r 9

/-- Entries from i to TAIL that are neither fetched nor passed over: each as index, at most `fuel`. -/
def unfetched (q : QueueSt) : Nat → BitVec 24 → List (BitVec 24)
  | 0, _ => []
  | fuel + 1, i =>
    if i = q.tail then []
    else match q.skips.find? (fun k => k.1 == i && k.2 != i) with
      | some k => unfetched q fuel k.2
      | none => i :: unfetched q fuel (i + 1)

/-- Complete every released entry that has not started (R200, R682), and empty the queue up to TAIL. -/
def State.flushQueue (s : State) (r : QRef) (st : Nat) : State :=
  let q := s.queue r
  let rest := unfetched q (2 ^ q.log2 + q.skips.length) q.head
  let s := s.setQueue r { q with gates := [], fetched := [], skips := [], head := q.tail }
  let s := if r.q = 0 && ((s.array r.die).next.map (·.ref)) = some r then s.setArray r.die { s.array r.die with next := none } else s
  let s := q.fetched.foldl (fun s e => s.completeUnrun r e.bytes st) s
  rest.foldl (fun s i => s.completeRing r st 1 i) s

/-- A FLUSH doorbell (R200). -/
def doorbellFlush (r : QRef) (s : State) : State :=
  if !(s.doorOpen r) then s else
  let s := s.flushQueue r stFLUSHED
  s.setQueue r { s.queue r with err := false }

/-- A die's engines send and fetch nothing in the safe state (13 R507). -/
def State.enginesRun (s : State) (c : CDie) : Bool :=
  !(s.dieDown c) && s.sourcesRun

/-- The page that reports a queue's descriptor faults. -/
def QRef.page (r : QRef) : Page := match r.kind with | .sweep => .msf r.die | .vector => .vcx r.die | .dma => .dma r.die

/-- The status of the check of a fetched descriptor: 0, DESC_INVALID, or RANGE for a Tarn extent (R98, R202). -/
def State.checkDesc (s : State) (r : QRef) (bs : List Byte) : Nat :=
  match r.kind with
  | .sweep =>
    if !(sweepDescOk bs) then stDESC_INVALID
    else if (tarnExtents bs).any (fun e => (s.tarnAlloc r.die r.part).2 < e.1 + e.2) then stRANGE else stOK
  | .vector => if dispatchDescOk bs then stOK else stDESC_INVALID
  | .dma => if dmaDescOk bs then stOK else stDESC_INVALID

/-- DESCRIPTOR_FETCH: the next released entry is read and checked; a failed check completes it and raises a C2 fault; an entry that
cannot be read stops the queue in ERROR (log entry 10) (R35, R98, R196, R201, R202). The check comes before the array's availability: a sweep that
fails it on an UNAVAILABLE array ends DESC_INVALID or RANGE with its fault, not NO_ARRAY (R88; DESIGN CHOICE, log entry 16). -/
def descriptorFetch (r : QRef) (o : Obs) (s : State) : State :=
  let q := s.queue r
  let halted := r.q = 0 && (s.msfState r.die = msfHALTED || s.msfState r.die = msfOFF || s.msfState r.die = msfSELFTEST)
  if !q.enable || q.err || s.partFenced r.part || !(s.enginesRun r.die) || halted then s
  else if q.head = q.tail then s else
  let i := q.head
  let (s, st, bs) := s.readBoard r.die ⟨some r.part, some r.ctx⟩ r.part (entryAddr r q i) r.entrySize o
  if s.partFenced r.part then s
  else if st != .ok then s.setQueue r { s.queue r with err := true }
  else
    let q := q.advance
    match s.checkDesc r bs with
    | 0 => s.setQueue r { q with fetched := q.fetched ++ [⟨i, bs⟩] }
    | n => ((s.setQueue r q).completeUnrun r bs n).raise r.page (if n = stRANGE then 0x101 else 0x100) 2 ⟨some r.part, some r.ctx⟩

/-- GATE_TIMEOUT: the oldest gate has stayed closed for GATE_TO: its entries complete with CAIRN_TIMEOUT, the gate is removed and the queue
raises a C1 fault; later gates proceed (R199). -/
def gateTimeout (r : QRef) (s : State) : State :=
  let q := s.queue r
  match q.gates with
  | [] => s
  | g :: rest =>
    if q.gateTo = 0 || q.err || s.gateNow r.die g != .wait || !(s.enginesRun r.die) then s else
    let s := (s.setQueue r { q with gates := rest }).failEntries r g.tail stCAIRN_TIMEOUT
    let s := (s.fireEvent (.vcx r.die) 2).raise (.vcx r.die) 0x105 1 ⟨some r.part, some r.ctx⟩
    s.settleGates r 9

end Sys2Proof.Machine
end

