-- ==== Sys2Proof/Machine/Cores.lean ====
section
/-! DEFINITION. Vector cores: dispatches, monitor services, traps, the Xsly operations, fences and remote accesses (05 R185–R193,
R205–R207, 06 R236–R239). -/

namespace Sys2Proof.Machine

/-- A core of a die: 32 per die (R185). -/
abbrev Core := Fin 32

def State.core (s : State) (c : CDie) (k : Core) : CoreSt := Store.get (fun _ => {}) s.cores (c.val * 32 + k.val)
def State.setCore (s : State) (c : CDie) (k : Core) (x : CoreSt) : State := { s with cores := Store.set (fun _ => {}) s.cores (c.val * 32 + k.val) x }

def allCores : List Core := List.finRange 32

/-- VCX_CORE_BUSY follows the cores (R224). -/
def State.showCores (s : State) (c : CDie) : State :=
  s.setFld (.vcx c) F.VCX_CORE_BUSY_BUSY (allCores.foldl (fun a k => if (s.core c k).run.isSome then a + 2 ^ k.val else a) 0)

/-- CORE_MASK, and whether a core is in it. -/
def dpMASK (d : List Byte) : Nat := dwd d 1
def inMask (d : List Byte) (k : Core) : Bool := (dpMASK d).testBit k.val

/-- A queue of a die by its grant key and number. -/
def vecQueue (c : CDie) (k : Nat) (q : QIx) : QRef := { sweepQueue c k with q := q }

/-- The oldest entry of a dispatch queue can start: its cores are free, and with WAIT_PRIOR no earlier dispatch of the queue is still
to complete (R201, R206). -/
def State.canDispatch (s : State) (r : QRef) : Bool :=
  s.readyQueue r && !(s.partStopped r.part) &&
  match (s.queue r).fetched with
  | [] => false
  | e :: _ =>
    allCores.all (fun k => !(inMask e.bytes k) || (s.core r.die k).run.isNone) &&
    (!(dWAIT_PRIOR e.bytes) || !(s.dispatches.any (fun x => x.ref == r)))

/-- The lowest-numbered of a context's queues that passes. -/
def lowestQueue (qs : List QIx) (ok : QIx → Bool) : Option QIx := qs.find? ok
def vecQueues : List QIx := [1, 2, 3, 4, 5, 6, 7]
def dmaQueues : List QIx := [8, 9, 10, 11, 12, 13, 14, 15]

/-- A core as it starts a dispatch: cleared for a different context, its user CSRs too, its RW Seliesel CSRs cleared, ENTRY, a0, a1 and a2 set (R192, R193, R206). -/
def startCore (x : CoreSt) (r : QRef) (id : Nat) (d : List Byte) (k : Core) : CoreSt :=
  let x : CoreSt := if x.prev = some (r.part, r.ctx) then x else { csr := Store.keep (fun n => decide (0x300 ≤ n)) x.csr, instret := x.instret }
  let below := (allCores.filter (fun j => j.val < k.val && inMask d j)).length
  let total := (allCores.filter (inMask d)).length
  { x with
    prev := some (r.part, r.ctx), run := some id, seed := 0, tid := 0, index := 0, fmt := 0, rnd := 0, anchor := 0, flags := 0
    pc := BitVec.ofNat 64 (dw64 d 2), resv := none, fencing := false, sigWait := none
    x := Store.set (fun _ => 0) (Store.set (fun _ => 0) (Store.set (fun _ => 0) x.x 10 (BitVec.ofNat 64 (dw64 d 4))) 11 (BitVec.ofNat 64 below)) 12
      (BitVec.ofNat 64 total) }

/-- DISPATCH_START: the next ready dispatch in round-robin order starts all its cores (R193, R201, R206). -/
def dispatchStart (c : CDie) (s : State) : State :=
  if !(s.enginesRun c) then s else
  let pick (k : Nat) : Option QIx := lowestQueue vecQueues (fun q => s.canDispatch (vecQueue c k q))
  match roundRobin (s.array c).grantVec (fun k => (pick k).isSome) with
  | none => s
  | some k =>
    match pick k with
    | none => s
    | some q =>
      let r := vecQueue c k q
      match s.takeEntry r with
      | none => s
      | some (e, s) =>
        let id := s.nextId
        let lim := if dwd e.bytes 12 = 0 then s.fld (.vcx c) F.VCX_DISPATCH_LIMIT_LIMIT else dwd e.bytes 12
        let s : State := { s with nextId := id + 1, dispatches := s.dispatches ++
          [{ id := id, ref := r, index := e.index, desc := e.bytes, start := s.now (CDie.die c), limit := lim }] }
        let s := s.setArray c { s.array c with grantVec := k }
        let s := allCores.foldl (fun t j => if inMask e.bytes j then t.setCore c j (startCore (t.core c j) r id e.bytes j) else t) s
        s.showCores c

/-- The running dispatch of a core, none when it runs none or its dispatch has stopped. -/
def State.coreRun (s : State) (c : CDie) (k : Core) : Option Dispatch :=
  match (s.core c k).run with
  | none => none
  | some id => s.dispatches.find? (fun d => d.id == id && !d.stopped)

/-- The state with one dispatch changed. -/
def State.updDispatch (s : State) (id : Nat) (f : Dispatch → Dispatch) : State :=
  { s with dispatches := s.dispatches.map (fun d => if d.id == id then f d else d) }

/-- SEW in bits, LMUL in eighths, VLMAX and vill of vtype (V 1.0, R185: VLEN 1,024, ELEN 64; log entry 11). -/
def CoreSt.sew (x : CoreSt) : Nat := 8 * 2 ^ bits x.vtype.toNat 5 3
def lmul8 (vt : BitVec 64) : Nat := match bits vt.toNat 2 0 with | 0 => 8 | 1 => 16 | 2 => 32 | 3 => 64 | 5 => 1 | 6 => 2 | 7 => 4 | _ => 0
def vlMax (vt : BitVec 64) : Nat := 128 * lmul8 vt / (8 * 2 ^ bits vt.toNat 5 3)
def CoreSt.vill (x : CoreSt) : Bool := x.vtype.getLsbD 63
/-- A vtype that is supported: no reserved bit, SEW of at most 64 bits, and at most 64 times LMUL. -/
def vtypeOk (vt : BitVec 64) : Bool :=
  vt.toNat < 256 && bits vt.toNat 5 3 < 4 && 0 < lmul8 vt && 8 * 2 ^ bits vt.toNat 5 3 ≤ 8 * lmul8 vt

/-- A standard CSR that CoreSt holds by number. -/
def CoreSt.csrAt (x : CoreSt) (n : Nat) : BitVec 64 := Store.get (fun _ => 0) x.csr n
def CoreSt.setCsr (x : CoreSt) (n : Nat) (v : BitVec 64) : CoreSt := { x with csr := Store.set (fun _ => 0) x.csr n v }

/-- A write of a CSR: the RW Seliesel CSRs, the parts of fcsr and vcsr, vstart, minstret; a read-only CSR keeps its value (R185, R192; log entry 11). -/
def CoreSt.writeCsr (x : CoreSt) (n : Nat) (v : BitVec 64) : CoreSt :=
  if n = 0x800 then { x with seed := v }
  else if n = 0x801 then { x with tid := BitVec.ofNat 32 v.toNat }
  else if n = 0x802 then { x with index := v }
  else if n = 0x803 then { x with fmt := BitVec.ofNat 8 v.toNat, rnd := BitVec.ofNat 2 (v.toNat >>> 8), anchor := BitVec.ofNat 10 (v.toNat >>> 10) }
  else if n = 0x804 then { x with flags := BitVec.ofNat 6 v.toNat }
  else if 0xC00 ≤ n then x
  else if n = 1 then x.setCsr 3 ((x.csrAt 3 &&& 0xE0) ||| (v &&& 0x1F))
  else if n = 2 then x.setCsr 3 ((x.csrAt 3 &&& 0x1F) ||| ((v &&& 7) <<< 5))
  else if n = 3 then x.setCsr 3 (v &&& 0xFF)
  else if n = 8 then x.setCsr 8 (v &&& 0x3FF)
  else if n = 9 then x.setCsr 15 ((x.csrAt 15 &&& 6) ||| (v &&& 1))
  else if n = 10 then x.setCsr 15 ((x.csrAt 15 &&& 1) ||| ((v &&& 3) <<< 1))
  else if n = 15 then x.setCsr 15 (v &&& 7)
  else if n = 0xB02 then { x with instret := v }
  else x.setCsr n v

/-- What a core reads from a CSR: cycle counts FCLK cycles, time reads GTIME (R185), SLY_CTX and SLY_TAG name its dispatch (R192). -/
def State.csrRead (s : State) (c : CDie) (k : Core) (x : CoreSt) (d : Dispatch) (n : Nat) : BitVec 64 :=
  if n = 0x800 then x.seed
  else if n = 0x801 then BitVec.ofNat 64 x.tid.toNat
  else if n = 0x802 then x.index
  else if n = 0x803 then BitVec.ofNat 64 (x.fmt.toNat + x.rnd.toNat <<< 8 + x.anchor.toNat <<< 10)
  else if n = 0x804 then BitVec.ofNat 64 x.flags.toNat
  else if n = 0xCC0 then BitVec.ofNat 64 (d.ref.part.val + d.ref.ctx.val <<< 6 + k.val <<< 9 + c.val <<< 14)
  else if n = 0xCC1 then BitVec.ofNat 64 (dw d.desc 11 15 0)
  else if n = 0xC00 || n = 0xB00 then Store.get (fun _ => 0) s.fclk c.val
  else if n = 0xC01 then s.now (CDie.die c)
  else if n = 0xC02 || n = 0xB02 then x.instret
  else if n = 0xC20 then BitVec.ofNat 64 x.vl
  else if n = 0xC21 then x.vtype
  else if n = 0xC22 then 128
  else if n = 1 then x.csrAt 3 &&& 0x1F
  else if n = 2 then x.csrAt 3 >>> 5
  else if n = 9 then x.csrAt 15 &&& 1
  else if n = 10 then x.csrAt 15 >>> 1
  else x.csrAt n

/-- A value into an integer register. x0 stays zero. -/
def CoreSt.setX (x : CoreSt) (r : Fin 32) (v : BitVec 64) : CoreSt :=
  if r.val = 0 then x else { x with x := Store.set (fun _ => 0) x.x r.val v }

/-- One register effect of the program. -/
def State.coreWrite (s : State) (c : CDie) (k : Core) (d : Dispatch) (x : CoreSt) : CoreWrite → CoreSt
  | .x r v => x.setX r v
  | .f r v => { x with f := Store.set (fun _ => 0) x.f r.val v }
  | .v r i b => { x with v := Store.set (fun _ => 0) x.v (128 * r.val + i.val) b }
  | .scratch o b => { x with scratch := Store.set (fun _ => 0) x.scratch o.val b }
  | .vset avl vt =>
    if vtypeOk vt then { x with vl := min avl (vlMax vt), vtype := vt }.setCsr 8 0 else { x with vl := 0, vtype := 0x8000000000000000 }.setCsr 8 0
  | .csr n v => x.writeCsr n.toNat v
  | .csrr rd n => x.setX rd (s.csrRead c k x d n.toNat)
  | .pc a => { x with pc := a }
  | .retire n => { x with instret := x.instret + BitVec.ofNat 64 n }

/-- A core that runs a dispatch and waits for nothing, after the effects of its program: none when it cannot go on. -/
def State.coreReady (s : State) (c : CDie) (k : Core) (pre : List CoreWrite) : Option (CoreSt × Dispatch) :=
  match s.coreRun c k with
  | none => none
  | some d =>
    let x := s.core c k
    if x.fencing || !(s.enginesRun c) then none else some (pre.foldl (s.coreWrite c k d) x, d)

/-- The value of an integer register. -/
def CoreSt.xr (x : CoreSt) (r : Nat) : BitVec 64 := Store.get (fun _ => 0) x.x r

/-- The stores of a core that have not completed (R188). -/
def State.storesOpen (s : State) (c : CDie) (k : Core) : Bool :=
  s.requests.any (fun r => match r.owner with | .store d j _ => d == c && j == k.val | _ => false)

/-- A core whose earlier stores have completed goes on: its waiting signal is issued (R186, R188). -/
def State.unfence (s : State) (c : CDie) (k : Core) : State :=
  let x := s.core c k
  if !x.fencing || s.storesOpen c k then s else
  match x.sigWait with
  | none => s.setCore c k { x with fencing := false }
  | some (dst, cairn, gen, bit, abort) =>
    match s.coreRun c k with
    | none => s.setCore c k { x with fencing := false, sigWait := none }
    | some d =>
      let s := s.setCore c k { x with sigWait := none }
      s.issueSignal c 4 abort d.ref.part dst cairn gen bit false (.coreSig c k.val d.id) (s.retries c)

/-- CORE_FENCE: the core waits until every earlier store has completed (R188). -/
def coreFence (c : CDie) (k : Core) (pre : List CoreWrite) (s : State) : State :=
  match s.coreReady c k pre with
  | none => s
  | some (x, _) => (s.setCore c k { x with fencing := true, sigWait := none }).unfence c k

/-- Status and VCX source of a trap (R190, 13 R494). -/
def TrapKind.status : TrapKind → Nat
  | .exception => stCORE_TRAP | .range => stRANGE | .memUe => stMEM_UE | .tarnUe => stTARN_UE
def TrapKind.source : TrapKind → Nat
  | .range => 0x102 | _ => 0x101

/-- A dispatch ends early: its first trap is recorded, its cores stop, mepc and mcause of the core show it (log entry 11), a trap counts, and the VCX page reports a C2 fault (R190, R224). -/
def State.trapDispatch (s : State) (c : CDie) (k : Core) (d : Dispatch) (t : TrapKind) (cause : BitVec 8) (epc : BitVec 64) : State :=
  let s := s.updDispatch d.id (fun d => { d with
    stopped := true, status := BitVec.ofNat 8 t.status, trap := some ⟨k.val, BitVec.ofNat 8 t.status, cause, epc⟩ })
  let s := s.setCore c k (((s.core c k).setCsr 0x341 epc).setCsr 0x342 (BitVec.ofNat 64 cause.toNat))
  let s := s.bump (.vcx c) C.VCX_TRAPS 1
  s.raise (.vcx c) t.source 2 ⟨some d.ref.part, some d.ref.ctx⟩

/-- The EXIT service: the core stops with exit code a0[7:0] (R186). -/
def State.coreExit (s : State) (c : CDie) (k : Core) (x : CoreSt) (d : Dispatch) : State :=
  let s := s.setCore c k { x with run := none }
  let s := s.updDispatch d.id (fun d => { d with
    exits := d.exits ++ [⟨k.val, BitVec.ofNat 8 (x.xr 10).toNat⟩], lastExit := s.now (CDie.die c) })
  s.showCores c

/-- The SIGNAL service: after the core's earlier stores, the signal or abort of a0, a1 and a2 is issued; the core waits for its outcome (R186, R188). -/
def State.coreSignal (s : State) (c : CDie) (k : Core) (x : CoreSt) : State :=
  let a1 := (x.xr 11).toNat
  let sig := (BitVec.ofNat 32 (x.xr 10).toNat, bits a1 15 0, BitVec.ofNat 16 (bits a1 31 16), bits a1 37 32, (x.xr 12).getLsbD 0)
  (s.setCore c k { x with fencing := true, sigWait := some sig }).unfence c k

/-- An ECALL from user mode: a7 selects the service, and any other value ends the dispatch with CORE_TRAP (R186). Cause 8 is the RISC-V number (log entry 11). -/
def State.ecall (s : State) (c : CDie) (k : Core) (pre : List CoreWrite) : State :=
  match s.coreReady c k pre with
  | none => s
  | some (x, d) =>
    if x.xr 17 = 0 then s.coreExit c k x d
    else if x.xr 17 = 1 then s.coreSignal c k x
    else (s.setCore c k x).trapDispatch c k d .exception 8 x.pc

/-- ECALL_EXIT (R186). -/
def ecallExit (c : CDie) (k : Core) (pre : List CoreWrite) (s : State) : State := s.ecall c k pre
/-- ECALL_SIGNAL (R186, R188). -/
def ecallSignal (c : CDie) (k : Core) (pre : List CoreWrite) (s : State) : State := s.ecall c k pre

/-- DISPATCH_LIMIT: a core exceeds its dispatch's limit: all its cores stop with status LIMIT and a C2 fault (R206). -/
def dispatchLimit (c : CDie) (k : Core) (s : State) : State :=
  match s.coreRun c k with
  | none => s
  | some d =>
    if d.limit = 0 then s else
    let s := s.updDispatch d.id (fun d => { d with stopped := true, status := BitVec.ofNat 8 stLIMIT })
    s.raise (.vcx c) 0x103 2 ⟨some d.ref.part, some d.ref.ctx⟩

/-- Every core of a dispatch has exited, or it has been stopped. -/
def dispatchDone (d : Dispatch) : Bool :=
  d.stopped || allCores.all (fun k => !(inMask d.desc k) || d.exits.any (fun e => e.core == k.val))

/-- FCLK cycles in a GTIME span: 1.6 GHz against 200 MHz (R185, R207). -/
def fclkOf (a b : BitVec 64) : Nat := 8 * (b - a).toNat

/-- DISPATCH_COMPLETE: the oldest finished dispatch of the die: its record, its signal, its MSI-X message; its cores are free (R207). -/
def dispatchComplete (c : CDie) (s : State) : State :=
  if !(s.enginesRun c) then s else
  match s.dispatches.find? (fun d => d.ref.die == c && dispatchDone d) with
  | none => s
  | some d =>
    let s : State := { s with dispatches := s.dispatches.filter (fun x => x.id != d.id) }
    let s := allCores.foldl (fun t k =>
      if (t.core c k).run = some d.id then t.setCore c k { t.core c k with run := none, fencing := false, sigWait := none } else t) s
    let s := s.showCores c
    let tr := match d.trap with | some t => if t.status = d.status then some t else none | none => none
    let exit := d.exits.foldl (fun a e => max a e.code.toNat) 0
    s.completeDispatch d.ref d.desc d.status.toNat exit ((tr.map (·.core)).getD 0) ((tr.map (fun t => t.cause.toNat)).getD 0)
      ((tr.map (·.epc)).getD 0) (if d.exits.isEmpty then 0 else fclkOf d.start d.lastExit)

/-- Bytes of a vector register group from register r; a write past v31 is lost. -/
def CoreSt.vbytes (x : CoreSt) (r : Fin 32) (n : Nat) : List Byte := Store.getList (fun _ => 0) x.v (128 * r.val) n
def CoreSt.setV (x : CoreSt) (r : Fin 32) (bs : List Byte) (off : Nat := 0) : CoreSt :=
  { x with v := Store.setList (fun _ => 0) x.v (128 * r.val + off) (bs.take (4096 - 128 * r.val - off)) }

/-- Flags accumulate in SLY_FLAGS (R191). -/
def CoreSt.addFlags (x : CoreSt) (f : Flags) : CoreSt := { x with flags := x.flags ||| BitVec.ofNat 6 f.code }

/-- The first element a vector instruction works on (V 1.0). -/
def CoreSt.vstart (x : CoreSt) : Nat := (x.csrAt 8).toNat

/-- A register group's first register is a multiple of LMUL (V 1.0). -/
def CoreSt.aligned (x : CoreSt) (rs : List (Fin 32)) : Bool := rs.all (fun r => r.val % max 1 (lmul8 x.vtype / 8) == 0)

/-- What an Xsly operation leaves: none for an illegal instruction, one under vill or another SEW than it works on (R191; log entry 12). -/
abbrev VslyRes := Option (CoreSt × State)

/-- vsly.adda128: pairs of 64-bit elements (R57, R191). -/
def adda128 (x : CoreSt) (vd vs1 vs2 : Fin 32) (s : State) : VslyRes :=
  if x.vill || x.sew != 64 || !(x.aligned [vd, vs1, vs2]) then none else
  let n := x.vl / 2
  let n0 := min n (x.vstart / 2)
  let a := x.vbytes vs1 (16 * n)
  let b := x.vbytes vs2 (16 * n)
  let rs := (List.range (n - n0)).map (fun i =>
    A128.add (A128.ofNat (leNat ((a.drop (16 * (n0 + i))).take 16))) (A128.ofNat (leNat ((b.drop (16 * (n0 + i))).take 16))))
  some ((x.setV vd (rs.flatMap (fun r => leBytes (A128.code r.1) 16)) (16 * n0)).addFlags { ovf := rs.any (·.2), nan := rs.any (·.1.isNone) }, s)

/-- vsly.adda64 (R56, R57, R191). -/
def adda64 (x : CoreSt) (vd vs1 vs2 : Fin 32) (s : State) : VslyRes :=
  if x.vill || x.sew != 64 || !(x.aligned [vd, vs1, vs2]) then none else
  let n := x.vl
  let n0 := min n x.vstart
  let a := x.vbytes vs1 (8 * n)
  let b := x.vbytes vs2 (8 * n)
  let rs := (List.range (n - n0)).map (fun i =>
    let r := (A128.add (A64.ofNat (leNat ((a.drop (8 * (n0 + i))).take 8))) (A64.ofNat (leNat ((b.drop (8 * (n0 + i))).take 8)))).1
    (r.toA64, r.isNone))
  some ((x.setV vd (rs.flatMap (fun r => leBytes r.1.1 8)) (8 * n0)).addFlags { sat := rs.any (·.1.2), nan := rs.any (·.2) }, s)

/-- SLY_CFG.ANCHOR as a number. -/
def CoreSt.anchorI (x : CoreSt) : Int := twos 10 x.anchor.toNat

/-- The source elements of vsly.cvt: binary32 at SEW 32, A128 pairs at SEW 64 (log entry 12). -/
def cvtSource (x : CoreSt) (vs2 : Fin 32) : List CV :=
  if x.sew = 64 then
    let n := x.vl / 2
    let b := x.vbytes vs2 (16 * n)
    (List.range n).map (fun i => match A128.ofNat (leNat ((b.drop (16 * i)).take 16)) with
      | none => .nan | some q => .fin (Ex.dy q x.anchorI) false)
  else
    let b := x.vbytes vs2 (4 * x.vl)
    (List.range x.vl).map (fun i => Fmt.fp32.value (leNat ((b.drop (4 * i)).take 4)))

/-- A value on the grid of an anchor: truncated toward zero with INX as a contribution is (R62; log entry 12). -/
def toGrid (anchor : Int) (v : CV) : CV × Bool :=
  match v with
  | .fin e _ => let q := Ex.shl e (-anchor); (.fin ⟨q.trunc, 1⟩ false, !(Ex.eq ⟨q.trunc, 1⟩ q))
  | v => (v, false)

/-- Element codes of width `w` in packed bytes, the first `n0` as they were. -/
def keepFirst (w n0 n : Nat) (old new : List Byte) : List Byte :=
  if n0 = 0 then new else packElems w ((List.range n).map (fun i => if i < n0 then elemAt w old i else elemAt w new i))

/-- vsly.cvt: element codes into vd from bit 0 upward, block scale codes into the register group vs1, one byte a block (R77–R82, R191; log
entry 12). For a format no rule converts to, the elements written are free. -/
def vslyConvert (x : CoreSt) (vd vs1 vs2 : Fin 32) (s : State) : VslyRes :=
  if x.vill || !(x.sew = 32 || x.sew = 64) || !(x.aligned [vs2]) then none else
  let src := cvtSource x vs2
  let n := src.length
  let n0 := min n (if x.sew = 64 then x.vstart / 2 else x.vstart)
  let es := (List.range n).map (fun i =>
    (src.getD i .nan, elemRnd x.rnd.toNat x.seed.toNat x.tid.toNat ((x.index.toNat + i) % 2 ^ 64), false))
  let put (w : Nat) (r : List Byte × List Byte × Flags) : CoreSt :=
    ((x.setV vd (keepFirst w n0 n (x.vbytes vd ((n * w + 7) / 8)) r.1)).setV vs1 r.2.1).addFlags r.2.2
  let anchored (f : Fmt) : CoreSt :=
    let gs := (es.drop n0).map (fun e => toGrid x.anchorI e.1)
    let pad := (es.take n0).map (fun e => (CV.fin ⟨0, 1⟩ false, e.2))
    let r := convRun f 0 (pad ++ (gs.zip (es.drop n0)).map (fun e => (e.1.1, e.2.2)))
    put f.width (r.1, r.2.1, { r.2.2 with inx := gs.any (·.2) })
  let free : VslyRes := let (bs, s) := s.freeBytes (4 * n); some (x.setV vd bs, s)
  match Fmt.ofCode x.fmt.toNat with
  | some .a128 => some (anchored .a128, s)
  | some .a64 => some (anchored .a64, s)
  | some .none => free
  | some .t2 => free
  | none => free
  | some f => some (put f.width (convRun f 0x3F800000 es), s)

/-- vsly.unpack: elements of vs2 and block scales of vs1 into binary32 elements of vd (R47–R50, R191; log entry 12). -/
def vslyUnpack (x : CoreSt) (vd vs1 vs2 : Fin 32) (s : State) : VslyRes :=
  if x.vill || x.sew != 32 || !(x.aligned [vd]) then none else
  let n := x.vl
  let n0 := min n x.vstart
  let free : VslyRes := let (bs, s) := s.freeBytes (4 * (n - n0)); some (x.setV vd bs (4 * n0), s)
  match Fmt.ofCode x.fmt.toNat with
  | none => free
  | some .none => free
  | some f =>
    let els := x.vbytes vs2 ((n * f.width + 7) / 8)
    let scs := x.vbytes vs1 (if f.blockL = 0 then 0 else ceilDiv n f.blockL)
    let val (i : Nat) : CV := match f with
      | .a128 => (match A128.ofNat (elemAt 128 els i) with | none => .nan | some q => .fin (Ex.dy q x.anchorI) false)
      | .a64 => (match A64.ofNat (elemAt 64 els i) with | none => .nan | some q => .fin (Ex.dy q x.anchorI) false)
      | _ => if f.blockL = 0 then f.value (elemAt f.width els i) else blockValue f els scs i
    let is := (List.range (n - n0)).map (· + n0)
    let inv := is.any (fun i => (f.decode (elemAt f.width els i)).2) || (f.blockL != 0 && scs.any (fun b => (f.scale b.toNat).inv))
    let vs := is.map val
    some ((x.setV vd (vs.flatMap (fun v => leBytes v.toF32 4)) (4 * n0)).addFlags
      { inv := inv, nan := vs.any (fun v => match v with | .nan => true | _ => false) }, s)

/-- An Xsly operation of a core; vstart is 0 after it, and an illegal one is an exception, of RISC-V cause 2 (R190, R191; log entries 11, 12). -/
def State.vsly (s : State) (c : CDie) (k : Core) (pre : List CoreWrite) (f : CoreSt → State → VslyRes) : State :=
  match s.coreReady c k pre with
  | none => s
  | some (x, d) =>
    match f x s with
    | some (y, s) => s.setCore c k (y.setCsr 8 0)
    | none => (s.setCore c k x).trapDispatch c k d .exception 2 x.pc

/-- The coordinate of an endpoint of a die at a position of this board (R231, R305). -/
def State.boardCoord (s : State) (pos : Nat) (c : CDie) (e : Nat) : Coord := Coord.mk (s.pkg / 16 * 16 + pos) c.val e

/-- The place of a byte `n` past a vector load's first; none past v31. -/
def LoadDst.shift (d : LoadDst) (n : Nat) : Option LoadDst :=
  match d with
  | .v r i => if h : (128 * r.val + i.val + n) / 128 < 32 then some (.v ⟨_, h⟩ ⟨(128 * r.val + i.val + n) % 128, Nat.mod_lt _ (by decide)⟩) else none
  | d => if n = 0 then some d else none

/-- The bytes of a load reach the core (R236). -/
def CoreSt.loaded (x : CoreSt) (dst : LoadDst) (bs : List Byte) : CoreSt :=
  let v := leNat bs
  match dst with
  | .x r sg =>
    let w := 8 * bs.length
    x.setX r (if sg && decide (w < 64) && v.testBit (w - 1) then BitVec.ofInt 64 (twos w v) else BitVec.ofNat 64 v)
  | .f r => { x with f := Store.set (fun _ => 0) x.f r.val (BitVec.ofNat 64 (v + if bs.length < 8 then 2 ^ 64 - 2 ^ (8 * bs.length) else 0)) }
  | .v r i => x.setV r bs i.val

end Sys2Proof.Machine
end

