-- ==== Sys2Proof/Machine/Cairns.lean ====
section
/-! DEFINITION. Arrival of packets at endpoints, and the cairn unit: signals, aborts, releases, forwards, configuration and
inspection (05 R217–R223, R226, 08 R310, R347). -/

namespace Sys2Proof.Machine

/-- A packet's first flit reaches a die: ACTIVITY of its epoch sets (R334). -/
def State.arrived (s : State) (d : Die) (p : Packet) : State := s.setFld (.rtr d) (F.RTR_INFLIGHT_ACTIVITY p.epo.toNat) 1

/-- A packet for a die that is down is discarded by the die switch or router that would deliver it, and counted there with cause FENCED: of a packet of this
package's compute dies the last switch of the ring, else PD0 (R347, R680; log entry 79). -/
def State.dropFenced (s : State) (d : Die) (p : Packet) : State :=
  match Die.cd? d with
  | none => s
  | some c =>
    let by_ : Die := if h : p.src.d < 8 then (if p.src.pkg = s.pkg then CDie.die (lastSwitch ⟨p.src.d, h⟩ c) else pd0) else pd0
    s.bump (.rtr by_) (C.RTR_CRC + 48) 1

/-- A destination takes a packet: nothing reaches a die that is down (R680); a failed CRC or a FORMAT fault discards and counts it
(R310, R347). -/
def State.accept (s : State) (d : Die) (p : Packet) : State × Bool :=
  if s.inReset d || s.fencedDies.contains d then (s.dropFenced d p, false) else
  let s := s.arrived d p
  match s.injection (.rtr d) 0 with
  | some _ => ((s.injFired (.rtr d)).bump (.rtr d) C.RTR_CRC 1, false)
  | none =>
    if !p.crcOk then (s.bump (.rtr d) C.RTR_CRC 1, false)
    else if !(p.fmtOk && p.dst.ok && p.src.ok) then (s.bump (.rtr d) C.RTR_FORMAT 1, false)
    else (s, true)

/-- Answer a request from an endpoint of a die (R312). -/
def State.answer (s : State) (d : Die) (e : Nat) (q : Packet) (op : BitVec 8) (st : RespStatus) (data : List Byte) : State :=
  s.sendFrom d (q.reply (s.coord d e) op st.code data)

/-- The response that carries a request's failure (R312). -/
def errOp (op : BitVec 8) : BitVec 8 := if op = opREAD then opREAD_ERR else if op = opAMO then opAMO_RESP else opACK

/-- A request of one operation at endpoint `e` of a compute die passes the destination's checks. A request whose operation the endpoint does not serve is
answered UNSUPPORTED (R313); one that it serves, but that is not this operation, is no business of this command. -/
def State.atEndpoint (s : State) (c : CDie) (e : Nat) (serves : List (BitVec 8)) (op : BitVec 8) (p : Packet) : State × Bool :=
  let (s, ok) := s.accept (CDie.die c) p
  if !ok || p.dst.d != c.val || p.dst.e != e || p.mc != 1 then (s, false)
  else if !(serves.contains p.op) then (s.answer (CDie.die c) e p (errOp p.op) .unsupported [], false)
  else (s, p.op == op)

/-- The cairn range of a partition: base and size (R217). -/
def State.cairnRange (s : State) (c : CDie) (p : Part) : Nat × Nat :=
  (s.fld (.crn c) (F.CRN_PART_BASE p.val), s.fld (.crn c) (F.CRN_PART_SIZE p.val))
def State.ownsCairn (s : State) (c : CDie) (p : Part) (n : Nat) : Bool :=
  let r := s.cairnRange c p
  r.1 ≤ n && n < r.1 + r.2

/-- The tracking slots of a die that follow a cairn (R223). -/
def State.trackSlots (s : State) (c : CDie) (n : Nat) : List Nat :=
  (List.range 16).filter (fun k => s.flag (.crn c) (F.CRN_TRACK_EN k) && s.fld (.crn c) (F.CRN_TRACK_CAIRN k) == n)

def State.track (s : State) (c : CDie) (k : Nat) : Track := Store.get (fun _ => {}) s.tracks (c.val * 16 + k)
def State.updTracks (s : State) (c : CDie) (n : Nat) (f : Track → Track) : State :=
  (s.trackSlots c n).foldl (fun t k => { t with tracks := Store.set (fun _ => {}) t.tracks (c.val * 16 + k) (f (t.track c k)) }) s

/-- Settle the gates of every queue of a die (R198). -/
def State.settleDie (s : State) (c : CDie) : State :=
  (s.queues.map (fun e => QRef.ofKey e.1)).foldl (fun t r => if r.die = c then t.settleGates r 9 else t) s

/-- One release (R220, R221): the outcome and time are kept, the generation advances, early arrivals become current, gates are
judged, and the forward goes out. -/
def State.release (s : State) (c : CDie) (p : Part) (n : Nat) (failed : Bool) : State :=
  let x := s.cairn c n
  let now := s.now (CDie.die c)
  let s := s.setCairn c n { x with last := now, failed := failed, gen := x.gen + 1, mask := x.next, first := x.nfirst, next := 0 }
  let s := s.updTracks c n (fun t => { nxt := [], cur := t.nxt, arr := t.cur, last := now })
  let s := s.bump (.crn c) C.CRN_RELEASES 1
  let s := s.settleDie c
  if x.fwdEn && s.enginesRun c then
    s.issueSignal c 3 failed p x.fwdDst x.fwdCairn.toNat x.gen x.fwdBit.toNat false (.forward c n) (s.retries c)
  else s

/-- Release a complete generation, and the one after it when early arrivals complete it too (R220). -/
def State.releaseAll (s : State) (c : CDie) (p : Part) (n : Nat) (failed : Bool) : State :=
  let s := s.release c p n failed
  let x := s.cairn c n
  if x.target != 0 && x.mask == x.target then s.release c p n false else s

/-- The judgement of a signal or abort (R219). -/
def State.judge (s : State) (c : CDie) (p : Part) (n : Nat) (gen : BitVec 16) (bit : Nat) (abort : Bool) : State :=
  let x := s.cairn c n
  let d := (gen - x.gen).toNat
  let b : BitVec 64 := BitVec.ofNat 64 (2 ^ bit)
  let now := s.now (CDie.die c)
  let low : BitVec 32 := BitVec.ofNat 32 now.toNat
  if x.target = 0 || x.target &&& b = 0 then s.bump (.crn c) C.CRN_STRAY 1
  else if 2 ^ 15 ≤ d then s.bump (.crn c) C.CRN_STALE 1
  else if 2 ≤ d then s.bump (.crn c) C.CRN_EARLY 1
  else if abort then (if d = 0 then s.releaseAll c p n true else s.bump (.crn c) C.CRN_EARLY 1)
  else if d = 1 then
    if x.next &&& b != 0 then s.bump (.crn c) C.CRN_DUP 1
    else
      let s := s.updTracks c n (fun t => { t with nxt := t.nxt ++ [(bit, low)] })
      s.setCairn c n { x with next := x.next ||| b, nfirst := if x.next = 0 then now else x.nfirst }
  else if x.mask &&& b != 0 then s.bump (.crn c) C.CRN_DUP 1
  else
    let s := s.updTracks c n (fun t => { t with cur := t.cur ++ [(bit, low)] })
    let s := s.setCairn c n { x with mask := x.mask ||| b, first := if x.mask = 0 then now else x.first }
    if x.mask ||| b = x.target then s.releaseAll c p n false else s

/-- A SIGNAL or CAIRN_ABORT packet at a cairn unit (R217, R219, R313, R338). -/
def State.cairnPacket (s : State) (c : CDie) (abort : Bool) (p : Packet) : State :=
  let (s, ok) := s.atEndpoint c 3 [opSIGNAL, opCAIRN_ABORT] (if abort then opCAIRN_ABORT else opSIGNAL) p
  if !ok then s
  else if !p.sigRsvOk then s.bump (.rtr (CDie.die c)) C.RTR_FORMAT 1
  else if !(s.ownsCairn c p.partNo p.sigCairn) then
    (s.bump (.crn c) C.CRN_RANGE 1).answer (CDie.die c) 3 p opACK .range []
  else (s.judge c p.partNo p.sigCairn p.sigGen p.sigBit abort).answer (CDie.die c) 3 p opACK .ok []

/-- CAIRN_SIGNAL (R219). -/
def cairnSignal (c : CDie) (p : Packet) (s : State) : State := s.cairnPacket c false p
/-- CAIRN_ABORT (R219). -/
def cairnAbort (c : CDie) (p : Packet) (s : State) : State := s.cairnPacket c true p

/-- A cairn lies in the range of a confidential partition (R226). -/
def State.cairnConf (s : State) (c : CDie) (n : Nat) : Bool :=
  (List.finRange 64).any (fun p => s.ownsCairn c p n && s.isConf p)

/-- Pending gates of a die's queues on a cairn (R226). -/
def State.waiters (s : State) (c : CDie) (n : Nat) : Nat :=
  s.queues.foldl (fun a e => if (QRef.ofKey e.1).die = c then a + (e.2.gates.filter (fun g => g.cairn.map (·.toNat) == some n)).length else a) 0

/-- CRN_INSP_SEL_WRITE: the selected cairn's state is copied; zeros for a confidential partition's (R226). -/
def crnInspSelWrite (c : CDie) (v : Word) (s : State) : State :=
  if s.dieDown c then s else
  let pg : Page := .crn c
  let n := bits v.toNat 12 0
  let s := s.setFld pg F.CRN_INSP_SEL_CAIRN n
  if s.cairnConf c n then
    ((((s.wr (pg.base + 0x244) 0).wr64 pg 0x248 0).wr64 pg 0x250 0).wr64 pg 0x258 0)
  else
    let x := s.cairn c n
    let w := x.gen.toNat + x.failed.toNat <<< 16 + x.fwdEn.toNat <<< 17 + (min 255 (s.waiters c n)) <<< 18
    (((s.wr (pg.base + 0x244) (BitVec.ofNat 32 w)).wr64 pg 0x248 x.mask).wr64 pg 0x250 x.target).wr64 pg 0x258 x.last

/-- CRN_TRK_SEL_WRITE: the arrival time of a tracked slot's bit in the last release (R223, R226). -/
def crnTrkSelWrite (c : CDie) (v : Word) (s : State) : State :=
  if s.dieDown c then s else
  let pg : Page := .crn c
  let k := bits v.toNat 3 0
  let b := bits v.toNat 13 8
  let s := (s.setFld pg F.CRN_TRK_SEL_SLOT k).setFld pg F.CRN_TRK_SEL_BIT b
  let t := if s.cairnConf c (s.fld pg (F.CRN_TRACK_CAIRN k)) then 0
    else (((s.track c k).arr.find? (fun e => e.1 == b)).map (·.2)).getD 0
  s.wr (pg.base + 0x264) t

/-- A write of CRN_TRACK[k]: a slot that changes its cairn or its enable has recorded nothing yet (R223). -/
def State.crnTrackWrite (s : State) (c : CDie) (k : Nat) (v : Word) : State :=
  let pg : Page := .crn c
  let n := bits v.toNat 12 0
  let en := v.getLsbD 31
  let s := if s.fld pg (F.CRN_TRACK_CAIRN k) = n && s.flag pg (F.CRN_TRACK_EN k) = en then s
    else { s with tracks := Store.set (fun _ => {}) s.tracks (c.val * 16 + k) {} }
  (s.setFld pg (F.CRN_TRACK_CAIRN k) n).setFld pg (F.CRN_TRACK_EN k) en.toNat

/-- CRN_PART_WRITE: a partition's cairn range is applied, or refused with ALLOC_REFUSED when it overlaps another's or passes 8,192
(R226). -/
def crnPartWrite (c : CDie) (p : Part) (v : Word) (s : State) : State :=
  if s.dieDown c then s else
  let base := bits v.toNat 12 0
  let size := bits v.toNat 26 13
  let past := (List.finRange 64).any (fun q =>
    let r := s.cairnRange c q
    q != p && r.2 != 0 && size != 0 && base < r.1 + r.2 && r.1 < base + size)
  if past || 8192 < base + size then s.raise (.crn c) 0x101 1 {}
  else (s.setFld (.crn c) (F.CRN_PART_BASE p.val) base).setFld (.crn c) (F.CRN_PART_SIZE p.val) size

/-- The effect of a CAIRN_CFG descriptor: TARGET, GEN and the forward are set, everything else clears, and gates that wait on the cairn fail
(R218, R222). -/
def State.configCairn (s : State) (c : CDie) (n : Nat) (target : BitVec 64) (gen : BitVec 16) (fdst : Coord) (fcairn : BitVec 13)
    (fbit : BitVec 6) (fen : Bool) : State :=
  let dead (k : Nat) (q : QueueSt) : QueueSt :=
    if (QRef.ofKey k).die = c then
      { q with gates := q.gates.map (fun g => if g.cairn.map (·.toNat) = some n && s.gateNow c g = .wait then { g with dead := true } else g) }
    else q
  let s : State := { s with queues := Store.mapVals (fun _ => {}) dead s.queues }
  let s := s.setCairn c n { target := target, gen := gen, fwdDst := fdst, fwdCairn := fcairn, fwdBit := fbit, fwdEn := fen }
  (s.updTracks c n (fun _ => {})).settleDie c

end Sys2Proof.Machine
end

