-- ==== Sys2Proof/Machine/Dma.lean ====
section
/-! DEFINITION. DMA engines: COPY, GET, FANOUT, SIGNAL and CAIRN_CFG descriptors and their completion (05 R208–R216, R222, R683). -/

namespace Sys2Proof.Machine

/-- DMA_ENG_BUSY follows the engines (R225). -/
def State.showEngines (s : State) (c : CDie) : State :=
  s.setFld (.dma c) F.DMA_ENG_BUSY_BUSY ((s.dmaRuns.filter (fun r => r.ref.die == c)).foldl (fun a r => a + 2 ^ r.engine) 0)

/-- The lowest free engine of a die, of 16 (R208). -/
def State.freeEngine (s : State) (c : CDie) : Option Nat :=
  (List.range 16).find? (fun e => !(s.dmaRuns.any (fun r => r.ref.die == c && r.engine == e)))

/-- The oldest entry of a DMA queue can be taken: at most 4 of the queue in flight, none before it with WAIT_PRIOR (R201). -/
def State.canDma (s : State) (r : QRef) : Bool :=
  let n := (s.dmaRuns.filter (fun x => x.ref == r)).length
  s.readyQueue r && !(s.partStopped r.part) && n < 4 &&
  match (s.queue r).fetched with
  | [] => false
  | e :: _ => !(dWAIT_PRIOR e.bytes) || n == 0

/-- The descriptor an engine of a die takes next, in round-robin order (R201): its queue and grant key. -/
def State.nextDma (s : State) (c : CDie) : Option (Nat × QRef) :=
  let pick (k : Nat) : Option QIx := lowestQueue dmaQueues (fun q => s.canDma (vecQueue c k q))
  match roundRobin (s.array c).grantDma (fun k => (pick k).isSome) with
  | none => none
  | some k => (pick k).map (fun q => (k, vecQueue c k q))

/-- An engine takes the next descriptor when it is of kind `kind`, and `f` works on it; the run it leaves stays with the engine until
DMA_COMPLETE. -/
def State.engine (s : State) (c : CDie) (kind : Nat) (f : DmaRun → State → State × DmaRun) : State :=
  if !(s.enginesRun c) then s else
  match s.nextDma c, s.freeEngine c with
  | some (k, r), some e =>
    match s.takeEntry r with
    | none => s
    | some (en, s') =>
      if dKIND en.bytes != kind then s else
      let id := s'.nextId
      let s' : State := (State.setArray { s' with nextId := id + 1 } c { s'.array c with grantDma := k })
      let (s', run) := f { id := id, ref := r, engine := e, index := en.index, desc := en.bytes, retries := s.dmaRetries c en.bytes } s'
      State.showEngines { s' with dmaRuns := s'.dmaRuns ++ [run] } c
  | _, _ => s

/-- A range check of the owner of an address, made before anything is sent: a refusal is counted by the controller, or by the source
for a range that is not mapped throughout (R211, R233, R235, R241). Ranges of another package are not checked here, and a die that is down refuses
nothing: what is sent to it is lost (R680). -/
def State.checkRange (s : State) (q : QRef) (write tarn : Bool) (a len : Nat) : State × Bool :=
  if tarn then (s, a + len ≤ (s.tarnAlloc q.die q.part).2 && !(s.partFenced q.part)) else
  if !(extentMapped a len) then (s.refuse q.die q.part write a, false) else
  match placeOf a with
  | .unmapped => (s.refuse q.die q.part write a, false)
  | .mem pos d off => if pos != s.pos || s.dieDown d || s.memOk d q.part off len then (s, true) else (s.refuse d q.part write a, false)
  | .tarn pos d off => (s, pos != s.pos || s.dieDown d || s.tarnOk d q.part off len)

/-- The far range of a REMOTE transfer, a range of the destination's board: refused at the source when it is not mapped throughout (R211, R233). -/
def State.checkFar (s : State) (q : QRef) (write : Bool) (a len : Nat) : State × Bool :=
  if extentMapped a len then (s, true) else (s.refuse q.die q.part write a, false)

/-- A chunk of a run has failed: counted with its event (R212, R225). -/
def State.chunkFailed (s : State) (c : CDie) : State := (s.bump (.dma c) C.DMA_CHUNK_FAIL 1).fireEvent (.dma c) 1

/-- Offset and length of a chunk (R211). -/
def chunkSpan (d : List Byte) (i : Nat) : Nat × Nat := (i * dmCHUNK d, min (dmCHUNK d) (dmLEN d - i * dmCHUNK d))

/-- The packets of up to 2,048 bytes of a span: offset and length of each (R211). -/
def packetSpans (len : Nat) : List (Nat × Nat) := (List.range (ceilDiv len 2048)).map (fun i => (2048 * i, min 2048 (len - 2048 * i)))

/-- The requests that carry bytes `bs` to `addr` of a destination as chunk `ch` of a run (R211, R341). -/
def writeReqs (s : State) (c : CDie) (p : Part) (dst : Nat → Coord) (addr : Nat) (bs : List Byte) (xid : BitVec 32) (own : Owner) (left : Nat) :
    List Req :=
  let spans := packetSpans bs.length
  (List.range spans.length).map (fun i =>
    let (o, n) := spans.getD i (0, 0)
    { die := c
      pkt := { cls := true, mc := 1, op := opWRITE, len := BitVec.ofNat 6 (n / 64), dst := dst (addr + o), src := s.coord (CDie.die c) 0
               part := BitVec.ofNat 8 p.val, seq := BitVec.ofNat 16 i, xid := xid, addr := BitVec.ofNat 64 (addr + o)
               body := List.replicate 32 0 ++ (bs.drop o).take n }
      owner := own, left := left })

/-- The destination coordinate of a board address under REMOTE = 0 (R231, R235). -/
def State.addrCoord (s : State) (a : Nat) : Coord :=
  match placeOf a with | .mem pos t _ => s.boardCoord pos t 0 | .tarn pos t _ => s.boardCoord pos t 0 | .unmapped => 0

/-- The address lies in this package: such a destination is local (R211). -/
def State.isLocal (s : State) (a : Nat) : Bool :=
  match placeOf a with | .mem pos _ _ => pos == s.pos | .tarn pos _ _ => pos == s.pos | .unmapped => false
/-- The address lies on this die. -/
def State.onDie (s : State) (c : CDie) (a : Nat) : Bool :=
  match placeOf a with | .mem pos t _ => pos == s.pos && t == c | .tarn pos t _ => pos == s.pos && t == c | .unmapped => false

/-- One chunk of a COPY: its source is read, and its bytes are written on this die or leave as packets (R211, R212). On this die too they are data packets of
up to 2,048 bytes, and count (R225; log entry 74). -/
def copyChunk (o : Obs) (st : State × DmaRun) (i : Nat) : State × DmaRun :=
  let (s, run) := st
  let d := run.desc
  let q := run.ref
  let (off, len) := chunkSpan d i
  let sc : Scope := ⟨some q.part, some q.ctx⟩
  let (s, rs, bs) := s.readOp q.die sc q.part (dmSRC_TARN d) (dmSRC d + off) len o
  let bad (s : State) : State × DmaRun := (s.chunkFailed q.die, { run with failed := run.failed ++ [i], lost := run.lost ++ [(0, i)] })
  if rs != .ok then bad s
  else if dmDST_TARN d || (!(dmREMOTE d) && s.onDie q.die (dmDST d + off)) then
    let (s, ws) := (s.bump (.dma q.die) C.DMA_PKTS ((len + 2047) / 2048)).writeOp q.die sc q.part (dmDST_TARN d) (dmDST d + off) bs o
    if ws = .ok then (s, run) else bad s
  else
    let (xid, s) := s.newXid q.die
    (s.issue (writeReqs s q.die q.part (fun a => if dmREMOTE d then dmDST_COORD d else s.addrCoord a) (dmDST d + off) bs xid
      (.dma run.id 0 i) run.retries), run)

/-- DMA_COPY (R210–R212). -/
def dmaCopy (c : CDie) (o : Obs) (s : State) : State :=
  s.engine c 0 (fun run s =>
    let d := run.desc
    let run := { run with nchunk := dmChunks d }
    let (s, ok1) := s.checkRange run.ref false (dmSRC_TARN d) (dmSRC d) (dmLEN d)
    let (s, ok2) := if !ok1 then (s, false)
      else if dmREMOTE d then s.checkFar run.ref true (dmDST d) (dmLEN d)
      else s.checkRange run.ref true (dmDST_TARN d) (dmDST d) (dmLEN d)
    if !ok2 then (s, { run with status := BitVec.ofNat 8 stRANGE })
    else (List.range (dmChunks d)).foldl (copyChunk o) (s, run))

/-- The read requests of a GET (R213). -/
def getReqs (s : State) (run : DmaRun) (i : Nat) (xid : BitVec 32) : List Req :=
  let d := run.desc
  let (off, len) := chunkSpan d i
  let spans := packetSpans len
  (List.range spans.length).map (fun k =>
    let (o, n) := spans.getD k (0, 0)
    { die := run.ref.die
      pkt := { mc := 1, op := opREAD, dst := dmDST_COORD d, src := s.coord (CDie.die run.ref.die) 0, part := BitVec.ofNat 8 run.ref.part.val
               md := BitVec.ofNat 8 (n / 64), seq := BitVec.ofNat 16 k, xid := xid, addr := BitVec.ofNat 64 (dmSRC d + off + o)
               body := List.replicate 32 0 }
      owner := .dmaGet run.id i (off + o), left := run.retries })

/-- DMA_GET (R210, R213). -/
def dmaGet (c : CDie) (s : State) : State :=
  s.engine c 1 (fun run s =>
    let d := run.desc
    let run := { run with nchunk := dmChunks d }
    let (s, ok1) := s.checkFar run.ref false (dmSRC d) (dmLEN d)
    let (s, ok2) := if !ok1 then (s, false) else s.checkRange run.ref true (dmDST_TARN d) (dmDST d) (dmLEN d)
    if !ok2 then (s, { run with status := BitVec.ofNat 8 stRANGE })
    else ((List.range (dmChunks d)).foldl (fun s i => let (xid, s) := s.newXid c; s.issue (getReqs s run i xid)) s, run))

/-- An entry of a FANOUT list (R214). -/
def fanEntry (bs : List Byte) (_gen : BitVec 16) : DmaDest :=
  let co : Coord := BitVec.ofNat 32 (leNat (bs.take 4))
  let w := leNat ((bs.drop 4).take 4)
  let bad := !co.ok || co.e != 0 || 7 < co.d || bits w 30 22 != 0
  { coord := co, addr := BitVec.ofNat 64 (leNat ((bs.drop 8).take 8))
    sig := if bits w 31 31 = 1 then some (BitVec.ofNat 16 (bits w 15 0), bits w 21 16) else none, bad := bad, failed := bad }

/-- The cairn unit of a coordinate's die. -/
def Coord.crn (c : Coord) : Coord := Coord.mk c.pkg c.d 3

/-- Send the signal, or the abort under ABORT_ON_FAIL, of a FANOUT destination whose transfer is over (R214). -/
def State.destSignal (s : State) (run : DmaRun) (k : Nat) : State × DmaRun :=
  match run.dests[k]? with
  | none => (s, run)
  | some x =>
    if x.signalled || x.bad then (s, run) else
    let run := { run with dests := run.dests.set k { x with signalled := true } }
    match x.sig with
    | none => (s, run)
    | some (cairn, bit) =>
      if x.failed && !(dmABORT run.desc) then (s, run)
      else (s.sendSignal run.ref x.failed x.coord.crn cairn.toNat (qSIG_GEN run.desc) bit run.retries true, run)

/-- Destinations that have failed, or with nothing outstanding, and unsignalled are settled. -/
def State.settleDests (s : State) (run : DmaRun) : State × DmaRun :=
  (List.range run.dests.length).foldl (fun (st : State × DmaRun) k =>
    if !((st.2.dests[k]?.map (·.failed)).getD false) && st.1.requests.any (fun r => match r.owner with | .dma i d _ => i == run.id && d == k | _ => false) then st
    else st.1.destSignal st.2 k) (s, run)

/-- A chunk of a FANOUT fails at its source for one destination, which fails with it; its other chunks go on (R212, R214). -/
def DmaRun.lose (run : DmaRun) (k i : Nat) : DmaRun :=
  match run.dests[k]? with
  | none => run
  | some x => if x.bad then run else
    { run with failed := if run.failed.contains k then run.failed else run.failed ++ [k], lost := run.lost ++ [(k, i)]
               dests := run.dests.set k { x with failed := true } }

/-- One chunk of a FANOUT to one destination. -/
def fanChunk (bs : List Byte) (i : Nat) (st : State × DmaRun) (k : Nat) : State × DmaRun :=
  let (s, run) := st
  match run.dests[k]? with
  | none => st
  | some x =>
    if x.bad then st else
    let d := run.desc
    let a := x.addr.toNat + (chunkSpan d i).1
    if !(extentMapped a bs.length) then
      ((s.refuse run.ref.die run.ref.part true a).chunkFailed run.ref.die, run.lose k i)
    else
      let (xid, s) := s.newXid run.ref.die
      (s.issue (writeReqs s run.ref.die run.ref.part (fun _ => x.coord) a bs xid (.dma run.id k i) run.retries), run)

/-- DMA_FANOUT (R214). -/
def dmaFanout (c : CDie) (o : Obs) (s : State) : State :=
  s.engine c 2 (fun run s =>
    let d := run.desc
    let q := run.ref
    let sc : Scope := ⟨some q.part, some q.ctx⟩
    let run : DmaRun := { run with nchunk := dmChunks d, fan := true }
    let (s, ls, list) := s.readOp c sc q.part (dmDST_TARN d) (dmDST d) (16 * dmFAN_N d) o
    if ls != .ok then (s, { run with status := BitVec.ofNat 8 ls.code }) else
    let (s, ok) := s.checkRange q false (dmSRC_TARN d) (dmSRC d) (dmLEN d)
    if !ok then (s, { run with status := BitVec.ofNat 8 stRANGE }) else
    let dests := (List.range (dmFAN_N d)).map (fun i => fanEntry ((list.drop (16 * i)).take 16) (qSIG_GEN d))
    let run := { run with dests := dests, failed := (List.range dests.length).filter (fun k => (dests[k]?.map (·.bad)).getD false) }
    let (s, run) := (List.range (dmChunks d)).foldl (fun (st : State × DmaRun) i =>
      let (off, len) := chunkSpan d i
      let (s, rs, bs) := st.1.readOp c sc q.part (dmSRC_TARN d) (dmSRC d + off) len o
      if rs != .ok then
        (s.chunkFailed c, (List.range st.2.dests.length).foldl (fun u k => u.lose k i) st.2)
      else (List.range st.2.dests.length).foldl (fanChunk bs i) (s, st.2)) (s, run)
    s.settleDests run)

/-- DMA_SIGNAL: nothing but the descriptor's own signal, which its completion sends (R210, R215). -/
def dmaSignal (c : CDie) (s : State) : State := s.engine c 3 (fun run s => (s, run))

/-- CAIRN_CFG (R222). -/
def cairnCfg (c : CDie) (s : State) : State :=
  s.engine c 4 (fun run s =>
    let d := run.desc
    let n := qSIG_CAIRN d
    if !(s.ownsCairn c run.ref.part n) then (s, { run with status := BitVec.ofNat 8 stRANGE })
    else (s.configCairn c n (BitVec.ofNat 64 (dmSRC d)) (qSIG_GEN d) (dmDST_COORD d) (BitVec.ofNat 13 (bits (dmDST d) 12 0))
      (BitVec.ofNat 6 (bits (dmDST d) 18 13)) (dmREMOTE d), run))

/-- A run has requests waiting or outstanding. -/
def State.runOpen (s : State) (id : Nat) : Bool :=
  s.requests.any (fun r => match r.owner with | .dma i _ _ => i == id | .dmaGet i _ _ => i == id | _ => false)

/-- The status of a run that is over (R212, R214). -/
def runStatus (r : DmaRun) : Nat :=
  if r.status != 0 then r.status.toNat else if r.failed.isEmpty then stOK else stCHUNK_FAIL

/-- The destination bytes of a failed chunk are undefined (R212): those that lie in this package. -/
def State.undefChunks (s : State) (r : DmaRun) : State :=
  let d := r.desc
  r.lost.eraseDups.foldl (fun s e =>
    let (off, len) := chunkSpan d e.2
    if r.fan then
      match r.dests[e.1]? with
      | some x => if Coord.pkg x.coord = s.pkg then s.scramble r.ref false (x.addr.toNat + off) len else s
      | none => s
    else if dKIND d = 0 && dmREMOTE d && Coord.pkg (dmDST_COORD d) != s.pkg then s
    else s.scramble r.ref (dmDST_TARN d) (dmDST d + off) len) s

/-- DMA_COMPLETE: the oldest run of the die with nothing outstanding: destinations left over are settled, the record is written, then the
signal or abort, then MSI-X; then the fault hub hears of a failure (R212, R214–R216). -/
def dmaComplete (c : CDie) (s : State) : State :=
  if !(s.enginesRun c) then s else
  match s.dmaRuns.find? (fun r => r.ref.die == c && !(s.runOpen r.id)) with
  | none => s
  | some r =>
    let s : State := { s with dmaRuns := s.dmaRuns.filter (fun x => x.id != r.id) }
    let r := if r.aborted then { r with dests := r.dests.map (fun x => if x.signalled then x else { x with failed := true }) } else r
    let (s, r) := (List.range r.dests.length).foldl (fun (st : State × DmaRun) k => st.1.destSignal st.2 k) (s, r)
    let s := s.undefChunks r
    let st := runStatus r
    let s := s.showEngines c
    let s := s.completeDma r.ref r.desc st r.nchunk r.resent (if st = stCHUNK_FAIL || r.aborted then r.failed else []) r.retries
    let sc : Scope := ⟨some r.ref.part, some r.ref.ctx⟩
    if st = stRANGE then s.raise (.dma c) 0x101 2 sc else if st = stCHUNK_FAIL then s.raise (.dma c) 0x102 2 sc else s

end Sys2Proof.Machine
end

