-- ==== Sys2Proof/Machine/MemCtl.lean ====
section
/-! DEFINITION. Memory controllers and Tarn: requests, zeroing orders, ranges, patrol, refresh and stack failure (03 R93–R95, R143, R144,
06 R239–R260, R264). -/

namespace Sys2Proof.Machine

/-- What a request at a die's MEM endpoint addresses: memory or Tarn of this die, or neither (R312). -/
inductive Target where
  | mem (off : Nat) | tarn (off : Nat) | other
  deriving DecidableEq, Repr

def State.target (s : State) (c : CDie) (a : Nat) : Target :=
  match placeOf a with
  | .mem pos d off => if pos = s.pos && d = c then .mem off else .other
  | .tarn pos d off => if pos = s.pos && d = c then .tarn off else .other
  | .unmapped => .other

/-- A request of one operation at a die's memory endpoint passes the destination's checks. -/
def State.atMem (s : State) (c : CDie) (p : Packet) (op : BitVec 8) : State × Bool :=
  s.atEndpoint c 0 [opWRITE, opWRITE_MASKED, opREAD, opAMO] op p

/-- A write of an extent at its controller: refused outside the partition's ranges, else committed (R232, R240, R241, R247). -/
def State.ctlWrite (s : State) (c : CDie) (p : Part) (a : Nat) (bs : List Byte) (o : Obs) : State × RespStatus :=
  match s.target c a with
  | .other => (s.refuse c p true a, .range)
  | .mem off =>
    if !(s.memOk c p off bs.length) then (s.refuse c p true a, .range)
    else let (s, st) := s.commitMem c { part := some p } off bs o; (s, st.resp)
  | .tarn off => if s.tarnOk c p off bs.length then (s.tarnPut c off bs, .ok) else (s, .range)

/-- A read of an extent at its controller (R93, R232, R240, R245, R246). -/
def State.ctlRead (s : State) (c : CDie) (p : Part) (a len : Nat) (o : Obs) (write : Bool := false) : State × RespStatus × List Byte :=
  match s.target c a with
  | .other => (s.refuse c p write a, .range, [])
  | .mem off =>
    if !(s.memOk c p off len) then (s.refuse c p write a, .range, [])
    else
      let (s, ue) := s.eccApply c (s.findings o c off len) { part := some p }
      if ue then (s, .memUe, []) else (s, .ok, s.memGet c off len)
  | .tarn off =>
    if !(s.tarnOk c p off len) then (s, .range, [])
    else
      let (s, ue) := s.tarnEccApply c (o.tarnFindings c off len) { part := some p }
      if ue then (s, .tarnUe, []) else (s, .ok, s.tarnGet c off len)

/-- MEM_WRITE (R312, R338). -/
def memWrite (c : CDie) (p : Packet) (o : Obs) (s : State) : State :=
  let (s, ok) := s.atMem c p opWRITE
  if !ok then s
  else if p.addr.toNat % 64 != 0 then s.answer (CDie.die c) 0 p opACK .unsupported []
  else
    let (s, st) := s.ctlWrite c p.partNo p.addr.toNat p.payload o
    s.answer (CDie.die c) 0 p opACK st []

/-- MEM_WRITE_MASKED: a run of 1–32 bytes within one 32-byte half-line (R247, R312). -/
def memWriteMasked (c : CDie) (p : Packet) (o : Obs) (s : State) : State :=
  let (s, ok) := s.atMem c p opWRITE_MASKED
  if !ok then s else
  let n := p.md.toNat
  let lo := p.addr.toNat % 32
  if n = 0 || 32 < n || 32 < lo + n then s.answer (CDie.die c) 0 p opACK .unsupported []
  else
    let (s, st) := s.ctlWrite c p.partNo p.addr.toNat ((p.body.drop lo).take n) o
    s.answer (CDie.die c) 0 p opACK st []

/-- MEM_READ (R246, R312). -/
def memRead (c : CDie) (p : Packet) (o : Obs) (s : State) : State :=
  let (s, ok) := s.atMem c p opREAD
  if !ok then s else
  let n := p.md.toNat
  if p.addr.toNat % 64 != 0 || n = 0 || 32 < n then s.answer (CDie.die c) 0 p opREAD_ERR .unsupported []
  else
    let (s, st, bs) := s.ctlRead c p.partNo p.addr.toNat (64 * n) o
    if st = .ok then s.answer (CDie.die c) 0 p opREAD_DATA .ok bs else s.answer (CDie.die c) 0 p opREAD_ERR st []

/-- The result of an atomic function on values of w bits (R312). -/
def amoFn (f w old v : Nat) : Nat :=
  let sg (x : Nat) : Int := twos w x
  match f with
  | 0 => v
  | 1 => (old + v) % 2 ^ w
  | 2 => old &&& v
  | 3 => old ||| v
  | 4 => old ^^^ v
  | 5 => if sg v < sg old then v else old
  | 6 => if sg old < sg v then v else old
  | 7 => min old v
  | _ => max old v

/-- MEM_AMO (R239, R312). -/
def memAmo (c : CDie) (p : Packet) (o : Obs) (s : State) : State :=
  let (s, ok) := s.atMem c p opAMO
  if !ok then s else
  let f := p.md.toNat % 16
  let w := if p.md.getLsbD 4 then 8 else 4
  let a := p.addr.toNat
  if 8 < f || a % w != 0 then s.answer (CDie.die c) 0 p opAMO_RESP .unsupported []
  else
    let (s, st, bs) := s.ctlRead c p.partNo a w o true
    if st != .ok then s.answer (CDie.die c) 0 p opAMO_RESP st []
    else
      let old := leNat bs
      let v := leNat (p.body.take 8) % 2 ^ (8 * w)
      let (s, st) := s.ctlWrite c p.partNo a (leBytes (amoFn f (8 * w) old v) w) {}
      s.answer (CDie.die c) 0 p opAMO_RESP st (leBytes old 8)

/-- REFRESH_POLL: each stack's refresh indication and temperature; throttling starts at 105 °C with a C1 fault and ends below 100 °C
(R251, R252). -/
def refreshPoll (c : CDie) (rd : List (BitVec 3 × BitVec 8)) (s : State) : State :=
  if s.dieDown c then s else
  (List.range 3).foldl (fun s k =>
    match rd[k]? with
    | none => s
    | some (rf, temp) =>
      let st := s.fld (.mem c) (F.MEM_STACK_STATE k)
      if st = skOFF || st = skFAILED then s else
      let s := (s.setFld (.mem c) (F.MEM_STACK_REFRESH k) rf.toNat).setFld (.mem c) (F.MEM_STACK_TEMP k) temp.toNat
      if 105 ≤ temp.toNat then
        if s.flag (.mem c) (F.MEM_STACK_THROTTLE k) then s
        else ((s.setFld (.mem c) (F.MEM_STACK_THROTTLE k) 1).fireEvent (.mem c) 3).raise (.mem c) 0x106 1 {}
      else if temp.toNat < 100 then s.setFld (.mem c) (F.MEM_STACK_THROTTLE k) 0 else s) s

/-- The granules of the zeroing order in progress on a die: base and size. -/
def State.zeroing (s : State) (c : CDie) : Nat × Nat :=
  if s.flag (.mem c) F.MEM_ZERO_STATUS_BUSY then Store.get (fun _ => (0, 0)) s.zeroOrders c.val else (0, 0)

/-- PATROL_READ of a sector of a die, which skips granules being zeroed: a correctable finding as any corrected read; an uncorrectable one counts and raises a C1
fault (R253). -/
def patrolRead (c : CDie) (sec : Nat) (f : Option SectorErr) (s : State) : State :=
  let z := s.zeroing c
  let g := 32 * sec / memGran
  if s.dieDown c || !(s.flag (.mem c) F.MEM_CFG_PATROL_EN) || !(s.flag (.mem c) F.BLK_STATUS_READY) || (z.1 ≤ g && g < z.1 + z.2) then s else
  match f with
  | none => s
  | some x =>
    let e := s.eccFind c (32 * sec) x
    if e.sym.isSome then (s.eccCorrected c e true).raise (.mem c) 0x100 0 {}
    else
      let b : BadSector := ⟨memKey c (32 * sec) / 32, c, e.stack, e.ch, e.row⟩
      let s : State := { s with badSectors := if s.badSectors.contains b then s.badSectors else s.badSectors ++ [b] }
      (((s.bump (.mem c) C.MEM_PATROL_UE 1).errLoc c e true).logRepair c e).raise (.mem c) 0x105 1 {}

/-- Two spans of granules share one. -/
def overlaps (a b : Nat × Nat) : Bool := a.2 != 0 && b.2 != 0 && a.1 < b.1 + b.2 && b.1 < a.1 + a.2

/-- Every assigned range on a die's memory. -/
def State.allRanges (s : State) (c : CDie) : List (Part × Nat × Nat × Nat) :=
  (List.finRange 64).flatMap (fun p => [0, 1, 2, 3].map (fun i => (p, i, s.memRange c p i)))

/-- MEM_ZERO_GO: a write of MEM_ZERO_CTRL with GO set starts an order, fails with a C1 fault when a granule is within an assigned range, and
has no effect while one runs (R254, R255, R264). An order past the die's 768 granules fails in the same way: DESIGN CHOICE (log entry 78). -/
def memZeroGo (c : CDie) (v : Word) (s : State) : State :=
  if s.dieDown c || (v.getLsbD 31 && s.flag (.mem c) F.MEM_ZERO_STATUS_BUSY) then s else
  let pg : Page := .mem c
  let span := (bits v.toNat 9 0, bits v.toNat 19 10)
  let s := (s.setFld pg F.MEM_ZERO_CTRL_BASE span.1).setFld pg F.MEM_ZERO_CTRL_SIZE span.2
  if !(v.getLsbD 31) then s
  else if 768 < span.1 + span.2 || (s.allRanges c).any (fun r => overlaps r.2.2 span) then s.raise pg 0x107 1 {}
  else
    let s := ((s.setFld pg F.MEM_ZERO_CTRL_GO 1).setFld pg F.MEM_ZERO_STATUS_BUSY 1).setFld pg F.MEM_ZERO_STATUS_PROGRESS 0
    State.setFld { s with zeroOrders := Store.set (fun _ => (0, 0)) s.zeroOrders c.val span } pg F.BLK_STATUS_BUSY 1

/-- MEM_ZERO_DONE: the order's last sector is written: GO and BUSY clear, DONE sets (R255). -/
def memZeroDone (c : CDie) (s : State) : State :=
  let pg : Page := .mem c
  if s.dieDown c || !(s.flag pg F.MEM_ZERO_STATUS_BUSY) then s else
  let (b, n) := s.zeroing c
  let s := s.memZero c (b * memGran) (n * memGran)
  let s := ((s.setFld pg F.MEM_ZERO_CTRL_GO 0).setFld pg F.MEM_ZERO_STATUS_BUSY 0).setFld pg F.MEM_ZERO_STATUS_DONE 1
  let s := (s.setFld pg F.MEM_ZERO_STATUS_PROGRESS n).setFld pg F.BLK_STATUS_BUSY 0
  State.fireEvent { s with zeroOrders := Store.set (fun _ => (0, 0)) s.zeroOrders c.val (0, 0) } pg 1

/-- Granules of a die's mapped memory: 768, 512 or 256 after failed stacks (R258). -/
def State.mapped (s : State) (c : CDie) : Nat := Store.get (fun _ => 768) s.mappedGran c.val

/-- A write of a partition range follows R243. -/
def State.rangeWriteOk (s : State) (c : CDie) (p : Part) (span : Nat × Nat) : Bool :=
  span.2 = 0 ||
  (s.flag (.mem c) F.BLK_STATUS_READY && span.1 + span.2 ≤ s.mapped c && !(overlaps (s.zeroing c) span) &&
    !((s.allRanges c).any (fun r => r.1 != p && overlaps r.2.2 span)))

/-- MEM_RANGE_WRITE: applied, or ignored with a C1 fault (R243). -/
def memRangeWrite (c : CDie) (p : Part) (i : Fin 4) (v : Word) (s : State) : State :=
  if s.dieDown c then s else
  let span := (bits v.toNat 9 0, bits v.toNat 19 10)
  if s.rangeWriteOk c p span then
    (s.setFld (.mem c) (F.MEM_RANGE_BASE (4 * p.val + i.val)) span.1).setFld (.mem c) (F.MEM_RANGE_SIZE (4 * p.val + i.val)) span.2
  else s.raise (.mem c) 0x107 1 {}

/-- STACK_FAIL: the stack shows FAILED and the others FENCED, the die's memory is fenced, a C1 fault is raised, and every partition with a
range on the die takes the partition-fatal reaction (R44, R260). -/
def stackFail (c : CDie) (k : Fin 3) (s : State) : State :=
  if s.dieDown c then s else
  let s := (List.range 3).foldl (fun s j =>
    if j = k.val then s.setFld (.mem c) (F.MEM_STACK_STATE j) skFAILED
    else if s.fld (.mem c) (F.MEM_STACK_STATE j) = skFAILED then s
    else s.setFld (.mem c) (F.MEM_STACK_STATE j) skFENCED) s
  let s := s.setFld (.mem c) F.BLK_STATUS_READY 0
  let s : State := { s with memFenced := if s.memFenced.contains c then s.memFenced else s.memFenced ++ [c] }
  let s := s.raise (.mem c) 0x108 1 {}
  (List.finRange 64).foldl (fun s p =>
    if [0, 1, 2, 3].any (fun i => (s.memRange c p i).2 != 0) then s.c3React p else s) s

/-- TRN_ZERO_GO: zeroing of a span of Tarn granules starts; a write with GO while BUSY changes nothing (R95, R143, R144). -/
def trnZeroGo (c : CDie) (v : Word) (s : State) : State :=
  if s.dieDown c || (v.getLsbD 31 && s.flag (.trn c) F.TRN_ZERO_STATUS_BUSY) then s else
  let pg : Page := .trn c
  let span := (bits v.toNat 11 0, bits v.toNat 24 12)
  let s := (s.setFld pg F.TRN_ZERO_CTRL_BASE span.1).setFld pg F.TRN_ZERO_CTRL_SIZE span.2
  if !(v.getLsbD 31) then s
  else
    let s := ((s.setFld pg F.TRN_ZERO_CTRL_GO 1).setFld pg F.TRN_ZERO_STATUS_BUSY 1).setFld pg F.BLK_STATUS_BUSY 1
    { s with zeroOrders := Store.set (fun _ => (0, 0)) s.zeroOrders (8 + c.val) span }

/-- TRN_ZERO_DONE: the span, as far as the die's 4,096 granules go (log entry 78), reads zero, GO clears and DONE sets (R143). -/
def trnZeroDone (c : CDie) (s : State) : State :=
  let pg : Page := .trn c
  if s.dieDown c || !(s.flag pg F.TRN_ZERO_STATUS_BUSY) then s else
  let (b, n) := Store.get (fun _ => (0, 0)) s.zeroOrders (8 + c.val)
  let s := s.tarnZero c (b * tarnGran) (min n (4096 - b) * tarnGran)
  let s := ((s.setFld pg F.TRN_ZERO_CTRL_GO 0).setFld pg F.TRN_ZERO_STATUS_BUSY 0).setFld pg F.TRN_ZERO_STATUS_DONE 1
  State.fireEvent { s.setFld pg F.BLK_STATUS_BUSY 0 with zeroOrders := Store.set (fun _ => (0, 0)) s.zeroOrders (8 + c.val) (0, 0) } pg 1

/-- TRN_PART_WRITE: a partition's Tarn allocation is applied, or refused with ALLOC_REFUSED when it overlaps another's or passes 4,096
granules (R144). -/
def trnPartWrite (c : CDie) (p : Part) (v : Word) (s : State) : State :=
  if s.dieDown c then s else
  let span := (bits v.toNat 11 0, bits v.toNat 24 12)
  let past := (List.finRange 64).any (fun q =>
    q != p && overlaps (s.fld (.trn c) (F.TRN_PART_BASE q.val), s.fld (.trn c) (F.TRN_PART_SIZE q.val)) span)
  if past || 4096 < span.1 + span.2 then s.raise (.trn c) 0x102 1 {}
  else (s.setFld (.trn c) (F.TRN_PART_BASE p.val) span.1).setFld (.trn c) (F.TRN_PART_SIZE p.val) span.2

end Sys2Proof.Machine
end

