-- ==== Sys2Proof/Machine/Requests.lean ====
section
/-! DEFINITION. Responses, timeouts, windows and rates at the sources of requests (05 R189, R212–R214, 06 R237, 08 R337–R346). -/

namespace Sys2Proof.Machine

/-- How a request failed. -/
inductive ReqFail where
  | timeout
  | resp (st : RespStatus)
  deriving DecidableEq, Repr

/-- A dispatch whose remote access failed for good ends with TIMEOUT and the C2 source REMOTE_TIMEOUT (R189, R237). -/
def State.coreTimeout (s : State) (c : CDie) (d : Dispatch) : State :=
  let s := s.updDispatch d.id (fun d => { d with stopped := true, status := BitVec.ofNat 8 stTIMEOUT })
  s.raise (.vcx c) 0x106 2 ⟨some d.ref.part, some d.ref.ctx⟩

/-- A core's remote access failed (R190, R237, R246): the dispatch that issued it ends, if it has not ended. -/
def State.coreAccessFail (s : State) (c : CDie) (k id : Nat) (cause : BitVec 8) (f : ReqFail) : State :=
  if h : k < 32 then
    let k : Core := ⟨k, h⟩
    match s.dispatches.find? (fun d => d.id == id && !d.stopped) with
    | none => s
    | some d =>
      let epc := (s.core c k).pc
      match f with
      | .timeout => s.coreTimeout c d
      | .resp .memUe => s.trapDispatch c k d .memUe cause epc
      | .resp .tarnUe => s.trapDispatch c k d .tarnUe cause epc
      | .resp .range => s.trapDispatch c k d .range cause epc
      | .resp _ => s.trapDispatch c k d .exception cause epc
  else s

/-- A response of a core's request reaches the core while it still runs the dispatch that issued the request (R193). -/
def State.coreGets (s : State) (c : CDie) (k id : Nat) (f : CoreSt → CoreSt) : State :=
  if h : k < 32 then
    let x := s.core c ⟨k, h⟩
    if x.run = some id then s.setCore c ⟨k, h⟩ (f x) else s
  else s

/-- The outcome of a core's SIGNAL service reaches a0, and the core goes on (R186). -/
def State.coreSigDone (s : State) (c : CDie) (k id : Nat) (ok : Bool) : State :=
  s.coreGets c k id (fun x => { x with fencing := false, x := Store.set (fun _ => 0) x.x 10 (if ok then 0 else 1) })

def State.coreOf (s : State) (_c : CDie) (k : Nat) (f : Core → State) : State := if h : k < 32 then f ⟨k, h⟩ else s

/-- The state with one run changed. -/
def State.updRun (s : State) (id : Nat) (f : DmaRun → DmaRun) : State :=
  { s with dmaRuns := s.dmaRuns.map (fun r => if r.id == id then f r else r) }

/-- Settle the destinations of a FANOUT that have nothing outstanding (R214). -/
def State.settleRun (s : State) (id : Nat) : State :=
  match s.dmaRuns.find? (fun r => r.id == id) with
  | none => s
  | some r => if !r.fan then s else let (s, r') := s.settleDests r; s.updRun id (fun _ => r')

/-- A chunk of a run fails: its other packets are given up, the FAIL bit is marked, and a FANOUT destination's abort goes out (R212, R214). -/
def State.failChunk (s : State) (id dest chunk : Nat) : State :=
  match s.dmaRuns.find? (fun r => r.id == id) with
  | none => s
  | some r =>
    let s := s.retireAll (fun q => match q.owner with
      | .dma i d c => i == id && d == dest && c == chunk | .dmaGet i c _ => i == id && c == chunk | _ => false)
    let s := s.chunkFailed r.ref.die
    let m := if r.fan then dest else chunk
    let r := { r with failed := if r.failed.contains m then r.failed else r.failed ++ [m], lost := r.lost ++ [(dest, chunk)]
                      dests := match r.dests[dest]? with | some x => r.dests.set dest { x with failed := true } | none => r.dests }
    let (s, r) := if r.fan then s.destSignal r dest else (s, r)
    s.updRun id (fun _ => r)

/-- The partition a cairn's forward acts for. -/
def Packet.scope (p : Packet) : Scope := { part := some p.partNo }

/-- A BAR2 access fails: ACCESS_ERR sets and the PCI page counts (16 R592). -/
def State.bar2Fail (s : State) (id : Nat) (f : ReqFail) : State :=
  match s.bar2.find? (fun b => b.id == id) with
  | none => s
  | some b =>
    let s : State := { s with bar2 := s.bar2.map (fun x => if x.id == id then { x with failed := true } else x) }
    let s := s.setFn (.vf b.part) { s.fn (.vf b.part) with accessErr := true }
    match f with
    | .timeout => s.bump .pci C.PCI_BAR2_FAILED 1
    | .resp _ => s.bump .pci C.PCI_BAR2_REFUSED 1

/-- What the failure of one request does to its owner. -/
def State.ownerFail (s : State) (r : Req) (f : ReqFail) : State :=
  match r.owner with
  | .dma id d ch => s.failChunk id d ch
  | .dmaGet id ch _ => s.failChunk id 0 ch
  | .load c k id _ _ _ => s.coreAccessFail c k id 5 f
  | .store c k id => s.coreOf c k (fun j => (s.coreAccessFail c k id 7 f).unfence c j)
  | .amo c k id _ _ => s.coreAccessFail c k id 7 f
  | .coreSig c k id => s.coreSigDone c k id false
  | .signal _ => s
  | .forward c _ => (s.fireEvent (.crn c) 1).raise (.crn c) 0x100 2 r.pkt.scope
  | .bar2w id => s.bar2Fail id f
  | .bar2r id _ => s.bar2Fail id f

/-- A request fails for good: it is retired, its owner hears of it, and packets held behind it by a fence fail with it (R340, R342). -/
def State.failReq (s : State) (r : Req) (f : ReqFail) : State :=
  let after := ((s.requests.dropWhile (· != r)).drop 1).filter (fun q =>
    !q.sent && q.pkt.fnc && q.die == r.die && Coord.die q.pkt.dst == Coord.die r.pkt.dst)
  let s := (s.retire r).ownerFail r f
  (after.foldl (fun s q => if s.requests.contains q then (s.retire q).ownerFail q .timeout else s) s).pump

/-- A response matches an outstanding request by XID, SEQ, PART and endpoint (R312, R340). -/
def State.matchReq (s : State) (c : CDie) (p : Packet) (ops : List (BitVec 8)) : Option Req :=
  s.requests.find? (fun r => r.sent && r.die == c && r.pkt.xid == p.xid && r.pkt.seq == p.seq && r.pkt.part == p.part &&
    r.pkt.src == p.dst && ops.contains r.pkt.op)

/-- An echo for a window (R345, R346, R350). -/
def State.echo (s : State) (c : CDie) (r : Req) (e : Bool) : State :=
  if !e then s else (s.updWindow c (Coord.die r.pkt.dst) (fun w => { w with echo := true })).bump (.rtr (CDie.die c)) C.RTR_ECHO 1

/-- A response of a given operation arrives at a source: none when it is not taken; LATE when it matches nothing (R340). -/
def State.response (s : State) (c : CDie) (p : Packet) (op : BitVec 8) (ops : List (BitVec 8)) : State × Option Req :=
  let (s, ok) := s.accept (CDie.die c) p
  if !ok || p.op != op || p.dst.d != c.val then (s, none)
  else match s.matchReq c p ops with
    | some r => (s, some r)
    | none =>
      let s := s.bump (.rtr (CDie.die c)) C.RTR_LATE 1
      (if p.dst.e = 0 && op = opACK then s.bump (.dma c) C.DMA_LATE_ACK 1 else s, none)

/-- What an acknowledged request releases (R186, R188, R214, R338). -/
def State.ackDone (s : State) (r : Req) : State :=
  let s := s.retire r
  let s := match r.owner with
    | .dma id _ _ => s.settleRun id
    | .store c k _ => s.coreOf c k (fun j => s.unfence c j)
    | .coreSig c k id => s.coreSigDone c k id true
    | _ => s
  s.pump

/-- An ACK at its requester (R338, R345). -/
def State.ackReceive (s : State) (c : CDie) (p : Packet) : State :=
  match s.response c p opACK [opWRITE, opWRITE_MASKED, opSIGNAL, opCAIRN_ABORT] with
  | (s, none) => s
  | (s, some r) =>
    let s := s.echo c r p.ece
    let st := RespStatus.ofCode p.md
    if st = .ok then s.ackDone r else s.failReq r (.resp st)

/-- Data of a GET is written at its place (R213); a write that fails fails the chunk. -/
def State.getData (s : State) (id ch off : Nat) (bs : List Byte) (o : Obs) : State :=
  match s.dmaRuns.find? (fun r => r.id == id) with
  | none => s
  | some r =>
    let (s, st) := s.writeOp r.ref.die ⟨some r.ref.part, some r.ref.ctx⟩ r.ref.part (dmDST_TARN r.desc) (dmDST r.desc + off) bs o
    if st = .ok then s else s.failChunk id 0 ch

/-- READ_DATA at its requester: the data reaches its owner and the reserved space is released (R339, R345). -/
def State.readData (s : State) (c : CDie) (p : Packet) (o : Obs) : State :=
  match s.response c p opREAD_DATA [opREAD] with
  | (s, none) => s
  | (s, some r) =>
    let s := s.echo c r p.ce
    let s := s.retire r
    let s := match r.owner with
      | .dmaGet id ch off => s.getData id ch off p.payload o
      | .load d k id dst off n => s.coreGets d k id (fun x => x.loaded dst ((p.payload.drop off).take n))
      | .bar2r id off => { s with bar2 := s.bar2.map (fun (b : Bar2) =>
          if b.id == id then { b with data := b.data.take off ++ p.payload ++ b.data.drop (off + p.payload.length) } else b) }
      | _ => s
    s.pump

/-- READ_ERR at its requester: the read fails with its status (R312). -/
def State.readErr (s : State) (c : CDie) (p : Packet) : State :=
  match s.response c p opREAD_ERR [opREAD] with
  | (s, none) => s
  | (s, some r) => s.failReq r (.resp (RespStatus.ofCode p.md))

/-- AMO_RESP at its requester: the old value reaches the core (R189, R312, R345). -/
def State.amoResp (s : State) (c : CDie) (p : Packet) : State :=
  match s.response c p opAMO_RESP [opAMO] with
  | (s, none) => s
  | (s, some r) =>
    let s := s.echo c r p.ece
    let st := RespStatus.ofCode p.md
    if st != .ok then s.failReq r (.resp st)
    else
      let s := s.retire r
      let s := match r.owner with
        | .amo d k id rd w => s.coreGets d k id (fun x => x.loaded (.x rd true) (p.body.take (if w then 8 else 4)))
        | _ => s
      s.pump

/-- The timeout of an outstanding request: resent with the same XID, SEQ and content under the die's current epoch while retries are left, else
it fails (R212, R237, R333, R340). An AMO has none (R189); in the safe state nothing is resent (R349). A resend takes what tokens its window has (R346). -/
def State.requestTimeout (s : State) (c : CDie) (xid : BitVec 32) (seq : BitVec 16) : State :=
  if !s.sourcesRun then s else
  match s.requests.find? (fun r => r.sent && r.die == c && r.pkt.xid == xid && r.pkt.seq == seq) with
  | none => s
  | some r =>
    if r.left = 0 then s.failReq r .timeout
    else
      let s : State := { s with requests := s.requests.map (fun q => if q == r then { q with left := q.left - 1 } else q) }
      let s := match r.owner with
        | .dma id _ _ => (s.updRun id (fun x => { x with resent := x.resent + 1 })).bump (.dma c) C.DMA_RESENT 1
        | .dmaGet id _ _ => (s.updRun id (fun x => { x with resent := x.resent + 1 })).bump (.dma c) C.DMA_RESENT 1
        | .signal true => s.bump (.dma c) C.DMA_RESENT 1
        | _ => s
      (s.updWindow c (Coord.die r.pkt.dst) (fun w => { w with tokens := w.tokens - 4 * r.pkt.rateCost })).sendFrom (CDie.die c) r.pkt

/-- WINDOW_RELEASE: a window with nothing outstanding is released (R337). -/
def windowRelease (c : CDie) (dest : BitVec 24) (s : State) : State :=
  match s.window? c dest.toNat with
  | none => s
  | some w =>
    if w.pkts != 0 then s else
    (State.showWinUse { s with windows := s.windows.filter (fun x => !(x.die == c && x.dest == dest.toNat)) } c).pump

/-- The rate rule of R346, with R_MIN and R_MAX as they act (R350). -/
def rateRule (echo : Bool) (r md ai rmin rmax : Nat) : Nat :=
  if echo then max (min rmin rmax) (r - r * md / 16) else min rmax (r + ai)

/-- CC_PERIOD: one window's rate at the end of a period (R346). -/
def ccPeriod (c : CDie) (dest : BitVec 24) (s : State) : State :=
  let pg : Page := .rtr (CDie.die c)
  s.updWindow c dest.toNat (fun w => { w with
    rate := rateRule w.echo w.rate (s.fld pg F.RTR_CC_MD) (s.fld pg F.RTR_CC_AI) (s.fld pg F.RTR_RATE_R_MIN) (s.fld pg F.RTR_RATE_R_MAX)
    echo := false })

end Sys2Proof.Machine
end

