-- ==== Sys2Proof/Machine/Dies.lean ====
section
/-! DEFINITION. Fencing a die, die-to-die links and their pages, and the end of bring-up (01 R44, 07 R298, R299, R304, 08 R327,
15 R561, R569). -/

namespace Sys2Proof.Machine

/-- Whether a partition holds contexts or memory on a compute die (R44). -/
def State.partOn (s : State) (c : CDie) (p : Part) : Bool :=
  (match Store.get (fun _ => none) s.parts p.val with | some x => x.dies.contains c | none => false) ||
    [0, 1, 2, 3].any (fun i => (s.memRange c p i).2 != 0)

/-- The C3 reaction against every partition with resources on a die (R44, R639). -/
def State.c3Die (s : State) (c : CDie) : State :=
  (List.finRange 64).foldl (fun t p => if t.partOn c p then t.c3React p else t) s

/-- A port entry of a compute die's switch loses MEMBER (R327). -/
def State.clearMember (s : State) (c : CDie) (i : Nat) : State := s.setFld (.rtr (CDie.die c)) (F.RTR_PORT_MEMBER i) 0

/-- The neighbours of a compute die on the ring (R20). -/
def cdUp (c : CDie) : CDie := c + 1
def cdDown (c : CDie) : CDie := c + 7

/-- The sources of a die stop: host accesses it carried fail, its other requests are given up. -/
def State.dropRequests (s : State) (c : CDie) : State :=
  let mine := s.requests.filter (fun r => r.die == c)
  let s := s.retireAll (fun r => r.die == c)
  mine.foldl (fun t r => match r.owner with
    | .bar2w _ => t.ownerFail r .timeout
    | .bar2r _ _ => t.ownerFail r .timeout
    | _ => t) s

/-- Fence a die (R44, R327, 03 R132). A compute die's array halts, the switches facing it lose MEMBER, and partitions on it take the C3
reaction; PD1 goes with its ports and links. -/
def State.fenceDie (s : State) (d : Die) : State :=
  if s.fencedDies.contains d then s else
  let s : State := { s with fencedDies := s.fencedDies ++ [d] }
  match Die.cd? d with
  | some c =>
    let s := (((s.haltDie c).clearMember (cdDown c) 2).clearMember (cdUp c) 3).dropRequests c
    (s.c3Die c).showProxy
  | none => allCDies.foldl (fun t c => t.clearMember c 1) s

/-- The failure of the link between a port die and a compute die, or of a ring link (R299). -/
def D2D_FAILED : Nat := 3

/-- The page at the far end of a die-to-die link (R304, R675). -/
def Page.d2dFar : Page → Page
  | .d2dC c .toPd0 => .d2dP 0 c
  | .d2dC c .toPd1 => .d2dP 1 c
  | .d2dC c .ringPlus => .d2dC (cdUp c) .ringMinus
  | .d2dC c .ringMinus => .d2dC (cdDown c) .ringPlus
  | .d2dP k n => .d2dC n (if k = 0 then .toPd0 else .toPd1)
  | p => p

/-- A page of a die-to-die link. -/
def Page.isD2d : Page → Bool
  | .d2dC _ _ => true | .d2dP _ _ => true | _ => false

/-- The two ends of a failed link show FAILED with their events (R304). -/
def State.d2dState (s : State) (p : Page) (st : Nat) : State :=
  if s.fld p F.D2D_STATE_STATE = st then s else (s.setFld p F.D2D_STATE_STATE st).fireEvent p 1

/-- The sending end of the link from one die to another. -/
def linkKey (a b : Die) : Nat := a.val * 16 + b.val
def State.d2dEnd (s : State) (a b : Die) : D2dSt := Store.get (fun _ => {}) s.d2d (linkKey a b)
def State.setD2d (s : State) (a b : Die) (x : D2dSt) : State := { s with d2d := Store.set (fun _ => {}) s.d2d (linkKey a b) x }

/-- RTR_INFLIGHT of an epoch changes by one; directed packets are not counted (08 R334). -/
def State.holdOne (s : State) (d : Die) (p : Packet) : State :=
  if p.drt then s else s.setFld (.rtr d) (F.RTR_INFLIGHT_COUNT p.epo.toNat) (satAdd 0xFFFFFF (s.fld (.rtr d) (F.RTR_INFLIGHT_COUNT p.epo.toNat)) 1)
def State.dropOne (s : State) (d : Die) (epo : Bool) : State :=
  s.setFld (.rtr d) (F.RTR_INFLIGHT_COUNT epo.toNat) (s.fld (.rtr d) (F.RTR_INFLIGHT_COUNT epo.toNat) - 1)

/-- The space reserved for a crossing packet is released (08 R328); a router on the way may have set its CE. -/
def State.unreserve (s : State) (p : Packet) : State :=
  { s with reserved := s.reserved.eraseP (fun r => r.pkt == { p with ce := false }) }

/-- The credit of a packet returns to the sending end of a die-to-die link, and the sender counts it no longer (07 R298, 08 R334). -/
def State.linkFreed (s : State) (a b : Die) (bit : Bool) (p : Packet) : State :=
  let x := s.d2dEnd a b
  if !(x.away.contains (bit, p)) then s else
  let s := s.setD2d a b { x with cred := x.cred.add (2 * p.mc.toNat + bit.toNat) p.flits, away := x.away.erase (bit, p) }
  if p.drt then s else s.dropOne a p.epo

/-- A die-to-die link starts anew in one direction: what was under way on it is lost, and its credits are whole. -/
def State.clearLink (s : State) (a b : Die) : State :=
  ((s.d2dEnd a b).away.foldl (fun (t : State) e => State.unreserve (if e.2.drt then t else t.dropOne a e.2.epo) e.2) s).setD2d a b {}

/-- A die-to-die port fails: C1 at the end that saw it, both ends FAILED, and the consequence of R299: the compute die of a port die's
link is fenced; a ring link leaves a line. -/
def State.d2dFail (s : State) (p : Page) : State :=
  if !p.isD2d || s.fld p F.D2D_STATE_STATE = D2D_FAILED then s else
  let s := (s.d2dState p D2D_FAILED).d2dState p.d2dFar D2D_FAILED
  let s := s.raise p 0x100 1 {}
  let s := (s.clearLink p.die p.d2dFar.die).clearLink p.d2dFar.die p.die
  match p with
  | .d2dP _ n => s.fenceDie (CDie.die n)
  | .d2dC c .toPd0 => (s.clearMember c 0).fenceDie (CDie.die c)
  | .d2dC c .toPd1 => (s.clearMember c 1).fenceDie (CDie.die c)
  | .d2dC c .ringPlus => (s.clearMember c 2).clearMember (cdUp c) 3
  | .d2dC c .ringMinus => (s.clearMember c 3).clearMember (cdDown c) 2
  | _ => s

/-- Consecutive CRC failures at a receiving end (R299). -/
def State.d2dRun (s : State) (p : Page) : Nat := Store.get (fun _ => 0) s.d2dRuns p.base

/-- D2D_FLIT_RECEIVE: a flit arrives at an end with its 200 bytes of packet data, which a good CRC delivers; one that fails its CRC is counted, and replayed
and counted by the sender; the port fails when a replay has failed 8 times in succession (R298, R299, R304, R513). -/
def d2dFlitReceive (p : Page) (crcOk : Bool) (data : List Byte) (s : State) : State :=
  if !p.isD2d || s.fld p F.D2D_STATE_STATE != 2 then s else
  let inj := s.injection p 0
  let s := if inj.isSome then s.injFired p else s
  if crcOk && inj.isNone then State.emit { s with d2dRuns := Store.set (fun _ => 0) s.d2dRuns p.base 0 } (.d2dData p data)
  else
    let n := s.d2dRun p
    let s := s.bump p C.D2D_CRC 1
    if 8 ≤ n then s.d2dFail p
    else
      let s := (s.bump p.d2dFar C.D2D_REPLAY 1).emit (.replay p.d2dFar.die p.die)
      { s with d2dRuns := Store.set (fun _ => 0) s.d2dRuns p.base (n + 1) }

/-- D2D_PORT_FAIL: a module of a link loses lock (R299). When the fault lies in a compute die's own switch, both its ring ports fail. -/
def d2dPortFail (p : Page) (inSwitch : Bool) (s : State) : State :=
  let s := s.d2dFail p
  if inSwitch then
    match Die.cd? p.die with
    | some c => (s.d2dFail (.d2dC c .ringPlus)).d2dFail (.d2dC c .ringMinus)
    | none => s
  else s

/-- MEM_STACK states (06 R264). -/
def State.stackSettled (s : State) (c : CDie) : Bool :=
  s.fencedDies.contains (CDie.die c) || [0, 1, 2].all (fun k =>
    let v := s.fld (.mem c) (F.MEM_STACK_STATE k)
    v = skREADY || v = skFAILED || v = skFENCED)

/-- Whether a port's fabric branch is over: it is not in training or qualification (07 R283, R561; log entry 30). -/
def State.portSettled (s : State) (q : Port) : Bool :=
  let v := s.fld (.lnk q) F.LNK_STATE_STATE
  !(v = lkTRAIN || v = lkALIGN || v = lkQUALIFY)

/-- Bring-up ends in READY when F2, F3 and M3 are complete (R561). -/
def State.bringupReady (s : State) : State :=
  if s.boot.phase = phFABRIC_MEMORY && s.boot.boardSettled && allPorts.all s.portSettled && allCDies.all s.stackSettled then
    State.setFld { s with boot := { s.boot with phase := phREADY } } .pci F.PCI_STATUS_INIT 0
  else s

end Sys2Proof.Machine
end

