-- ==== Sys2Proof/Machine/Links.lean ====
section
/-! DEFINITION. Ports as the router sees them: credits, what waits for an output, freed space, discards and telemetry (07 R282, R288,
08 R316–R320, R334, R347, 10 R394). -/

namespace Sys2Proof.Machine

/-- LNK_STATE.STATE of a port (R282). -/
def State.lnk (s : State) (q : Port) : Nat := s.fld (.lnk q) F.LNK_STATE_STATE

/-- A port's die runs: neither fenced nor in core reset. -/
def State.portUp (s : State) (q : Port) : Bool :=
  let d := PDie.die (Port.pdie q)
  !(s.inReset d || s.pathHeld d) && !(s.fencedDies.contains d)

/-- A port whose state is dark: DISABLED, FAILED, and SAFE once its idle frames have ended (R296, R297). -/
def State.darkState (s : State) (q : Port) : Bool :=
  s.lnk q = lkDISABLED || s.lnk q = lkFAILED || (s.lnk q = lkSAFE && (s.port q).safeAt.isNone)

/-- States in which a port is in service (R288). -/
def inService (st : Nat) : Bool := st = lkHELD || st = lkACTIVE || st = lkQUARANTINE

/-- Flits a fabric input reserves for each VC, and shares: 2,112 bytes each, of 256 KiB or 1,280 KiB (08 R316). -/
def vcFlits : Nat := 33
def sharedFlits (q : Port) : Nat := (if q.isOpt then 1280 * 1024 else 256 * 1024) / 64 - 6 * vcFlits

/-- The credits a transmitter starts with when its link enters ALIGN (08 R316, R317; log entry 31). -/
def fullCredits (q : Port) : Credits := ⟨vcFlits, vcFlits, vcFlits, vcFlits, vcFlits, vcFlits, sharedFlits q⟩

/-- Lanes of a port (R267). -/
def Port.lanes (q : Port) : Nat := if q.isOpt then 4 else 8

/-- The VC number of a packet on a fabric port: 2 × class + VCH (R314). -/
def Packet.vc (p : Packet) : Nat := 2 * p.mc.toNat + p.vch.toNat

/-- The pool that covers a whole packet on a VC: the VC's reserved credits first, else the shared ones (R317). -/
def Credits.pool (c : Credits) (vc n : Nat) : Option Nat := if n ≤ c.get vc then some vc else if n ≤ c.sh then some 6 else none

/-- A telemetry counter raised, to 48 bits (10 R394). -/
def telAdd (a n : Nat) : Nat := satAdd 0xFFFFFFFFFFFF a n
def telInc (st : Store Nat) (k n : Nat) : Store Nat := Store.set (fun _ => 0) st k (telAdd (Store.get (fun _ => 0) st k) n)
def State.updTel (s : State) (q : Port) (f : PortTel → PortTel) : State := s.updPort q (fun x => { x with tel := f x.tel })

/-- Discard causes in the order of R347. -/
inductive Cause where
  | crc | format | hops | lifetime | noRoute | misaddr | fenced | late
  deriving DecidableEq, Repr

def Cause.ix : Cause → Nat
  | .crc => 0 | .format => 1 | .hops => 2 | .lifetime => 3 | .noRoute => 4 | .misaddr => 5 | .fenced => 6 | .late => 7

/-- The input port of a packet. -/
def Came.port? : Came → Option Port
  | .port q => some q | _ => none

/-- A packet that crosses between the port dies, at the compute die that carries it or at the far port die (R315, R328). -/
def Came.crossing : Came → Bool
  | .die _ bit _ => bit | _ => false

/-- A packet's input space is freed: the cumulative count of its pool advances, or the credit returns over the die-to-die link; what the far port die had
reserved for a crossing is free again (R317, R319, R328). -/
def State.freeInput (s : State) (d : Die) (c : Came) (p : Packet) (res shr : Nat) : State :=
  match c with
  | .inject _ => s
  | .port q => s.updPort q (fun x => { x with freed := (x.freed.add p.vc res).add 6 shr })
  | .die x bit _ =>
    let s := s.linkFreed x d bit p
    if bit && 8 ≤ d.val then s.unreserve p else s

/-- The pools of an input a packet is charged to, mirroring the sender (R317): reserved flits, shared flits. -/
def State.charge (s : State) (c : Came) (p : Packet) : Nat × Nat :=
  match c.port? with
  | none => (0, 0)
  | some q =>
    let used := ((s.transits.filter (fun t => t.came == .port q && t.inp.vc == p.vc)).map (·.res)).sum
    if used + p.flits ≤ vcFlits then (p.flits, 0) else (0, p.flits)

/-- A packet is discarded at a die with a cause, counted in its RTR page and in the telemetry of its port (R347, 10 R394); the space reserved for one that was
crossing is released. -/
def State.discard (s : State) (d : Die) (c : Came) (p : Packet) (why : Cause) : State :=
  let s := s.bump (.rtr d) (C.RTR_CRC + 8 * why.ix) 1
  let s := if d.val < 8 && c.crossing then s.unreserve p else s
  match c.port? with
  | some q => s.updTel q (fun t => { t with disc := telInc t.disc why.ix 1 })
  | none => s

/-- A packet that waits leaves the die's hold by a discard. -/
def State.dropTransit (s : State) (t : Transit) (why : Cause) : State :=
  let s : State := { s with transits := s.transits.filter (· != t) }
  let s := (s.discard t.die t.came t.inp why).freeInput t.die t.came t.inp t.res t.shr
  if t.pkt.drt then s else s.dropOne t.die t.pkt.epo

/-- Routed packets that wait for a port that is no longer ACTIVE are discarded with cause FENCED (R300, R347). -/
def State.purge (s : State) (q : Port) : State :=
  if s.lnk q = lkACTIVE then s else (s.transits.filter (fun t => t.out == .port q && !t.pkt.drt)).foldl (fun t x => t.dropTransit x .fenced) s

end Sys2Proof.Machine
end

