-- ==== Sys2Proof/Machine/Frames.lean ====
section
/-! DEFINITION. Link frames as bytes: header, layout, lanes, protection, and what the lanes' decoders count (07 R270–R273, R275, R277, 13 R513). -/

namespace Sys2Proof.Machine

/-- The 96-bit IV of AES-GCM: a 32-bit salt followed by a 64-bit counter, both little-endian (R275, 10 R377). -/
def gcmIv (salt : BitVec 32) (ctr : Nat) : BitVec 96 := BitVec.ofNat 96 (salt.toNat + (ctr % 2 ^ 64) <<< 32)

/-- A frame header (R273); FVER is 1. -/
def frameHeader (fcnt : Nat) (kidx keyed : Bool) (first : Nat) : BitVec 128 :=
  BitVec.ofNat 128 (fcnt % 2 ^ 64 + 1 <<< 64 + kidx.toNat <<< 68 + keyed.toNat <<< 69 + first <<< 72)

/-- The fields of a received header, and whether its zero fields are zero (R273). -/
def RxFrame.fcnt (f : RxFrame) : BitVec 64 := f.header.setWidth 64
def RxFrame.kidx (f : RxFrame) : Bool := f.header.getLsbD 68
def RxFrame.keyed (f : RxFrame) : Bool := f.header.getLsbD 69
def RxFrame.first (f : RxFrame) : Nat := bits f.header.toNat 80 72
def RxFrame.zeros (f : RxFrame) : Bool := bits f.header.toNat 71 70 == 0 && bits f.header.toNat 127 81 == 0

/-- The 256 flit slots of a frame: those given, then idle flits (R272, R274). -/
def framePlain (slots : List (List Byte)) : List Byte := (slots ++ List.replicate (256 - slots.length) (List.replicate 64 0)).flatten

/-- The tag of a frame: over its header and its flit slots, under a key and salt (R275). -/
def frameTag (key : BitVec 256) (salt : BitVec 32) (header : BitVec 128) (slots : List (List Byte)) : BitVec 128 :=
  Config.gcmTag key (gcmIv salt header.toNat) (leBytes header.toNat 16) (framePlain slots)

/-- The alignment block of a port of `w` lanes (R272). -/
def alignBlock (w : Nat) : List Byte :=
  (List.range 8).flatMap (fun u => [0x5A, 0xC3, 0x96, BitVec.ofNat 8 (u % w + (w / 4) <<< 4)])

/-- The 16,448 bytes of a frame (R272). -/
def frameBytes (w : Nat) (key : BitVec 256) (salt : BitVec 32) (header : BitVec 128) (slots : List (List Byte)) : List Byte :=
  alignBlock w ++ leBytes header.toNat 16 ++ Config.gcmCrypt key (gcmIv salt header.toNat) (framePlain slots) ++
    leBytes (frameTag key salt header slots).toNat 16

/-- A byte string in units of 4 bytes (R272). -/
def units4 : List Byte → List (List Byte)
  | a :: b :: c :: d :: r => [a, b, c, d] :: units4 r
  | _ => []

/-- What each of `w` lanes carries of a frame: unit u travels on lane u mod w (R272). -/
def onLanes (w : Nat) (bs : List Byte) : List (List Byte) :=
  (List.range w).map (fun i => ((units4 bs).zipIdx.filter (fun e => e.2 % w == i)).flatMap (·.1))

/-- A receive slot, a transmit slot. -/
def PortSt.rxKey (x : PortSt) (k : Bool) : Option RxKey := if k then x.rx1 else x.rx0
def PortSt.txKey (x : PortSt) (k : Bool) : Option TxKey := if k then x.tx1 else x.tx0
def PortSt.setTx (x : PortSt) (k : Bool) (v : Option TxKey) : PortSt := if k then { x with tx1 := v } else { x with tx0 := v }
def PortSt.setRx (x : PortSt) (k : Bool) (v : Option RxKey) : PortSt := if k then { x with rx1 := v } else { x with rx0 := v }
def PortSt.ready (x : PortSt) (k : Bool) : Bool := if k then x.ready1 else x.ready0
def PortSt.setReady (x : PortSt) (k : Bool) (v : Bool) : PortSt := if k then { x with ready1 := v } else { x with ready0 := v }

/-- The tag of a received frame matches: under the slot its header names, under the all-zero key and salt when KEYED is 0; under an empty slot none does
(R275, R277). -/
def PortSt.tagOk (x : PortSt) (f : RxFrame) : Bool :=
  if f.keyed then
    match x.rxKey f.kidx with
    | some k => f.tag == frameTag k.key k.salt f.header f.slots
    | none => false
  else f.tag == frameTag 0 0 f.header f.slots

/-- The counter of a received frame accepts its FCNT (R277). -/
def PortSt.fcntOk (x : PortSt) (f : RxFrame) : Bool :=
  match if f.keyed then (x.rxKey f.kidx).bind (·.last) else x.rxPlain with
  | none => true
  | some l => decide (l < f.fcnt.toNat)

/-- A received frame passes its check, `unc` of its codewords being uncorrectable (R277). -/
def frameOk (x : PortSt) (f : RxFrame) (unc : Nat) : Bool := x.tagOk f && x.fcntOk f && f.zeros && unc == 0

/-- A decoder takes a codeword: up to 15 symbol errors are corrected (R270, R271). -/
def LaneFec.take (l : LaneFec) (c : Codeword) : LaneFec :=
  if c.syms ≤ 15 then { l with cw := l.cw + 1, sym := l.sym + c.syms, corr := l.corr + c.bits } else { l with cw := l.cw + 1, unc := l.unc + 1 }
def LaneFec.add (a b : LaneFec) : LaneFec := ⟨a.cw + b.cw, a.sym + b.sym, a.corr + b.corr, a.unc + b.unc⟩

/-- What each lane's decoder finds in a frame. -/
def laneCounts (lanes : List (List Codeword)) : List LaneFec := lanes.map (fun l => l.foldl LaneFec.take {})

/-- An armed injection at the codeword checker: WEIGHT 1 puts one more symbol in error, WEIGHT 2 an error that no decoder corrects; in the first codeword,
or in every one when CONTINUOUS (13 R513). -/
def Codeword.inject (weight : Nat) (c : Codeword) : Codeword := if weight = 1 then ⟨c.syms + 1, c.bits + 1⟩ else ⟨max 16 (c.syms + 2), c.bits + 2⟩
def injectLanes (weight : Nat) (all : Bool) : List (List Codeword) → List (List Codeword)
  | [] => []
  | [] :: r => [] :: injectLanes weight all r
  | (c :: l) :: r => if all then (c :: l).map (Codeword.inject weight) :: injectLanes weight all r else (c.inject weight :: l) :: r

/-- The decoders' counts advance, those of the dwell in QUALIFY alone (R271, R287, R289). -/
def PortSt.decoded (x : PortSt) (qualify : Bool) (ls : List LaneFec) : PortSt :=
  ls.zipIdx.foldl (fun x e =>
    let up (st : Store LaneFec) : Store LaneFec := Store.set (fun _ => {}) st e.2 ((Store.get (fun _ => {}) st e.2).add e.1)
    { x with fec := up x.fec, dwell := if qualify then up x.dwell else x.dwell
             win := Store.set (fun _ => 0) x.win e.2 (Store.get (fun _ => 0) x.win e.2 + e.1.corr) }) x

/-- Total over the lanes (R301). -/
def fecSum (f : LaneFec → Nat) (l : List LaneFec) : Nat := (l.map f).sum

end Sys2Proof.Machine
end

