-- ==== Sys2Proof/Machine/Ports.lean ====
section
/-! DEFINITION. External ports: states and training, qualification, frames, key slots, link-management records, failures in service
(07 R266–R303, 10 R401, R402). A command that takes effect at the next frame boundary takes it at once (log entry 8). -/

namespace Sys2Proof.Machine

/-- What entering a state does to the port beyond LNK_STATE: training clears locks, partner and version, and starts from preset 3; ALIGN starts the unkeyed
counters and the credits; QUALIFY clears the results and starts the dwell; a port that stops sending loses what waits to be sent; the fabric
branch of bring-up may end with it (R276, R282, R285–R287, R301, 08 R319, 15 R561). -/
def State.enterLnk (s : State) (q : Port) (st : Nat) (byAgent : Bool := false) : State :=
  let pg : Page := .lnk q
  let s := (s.setLnk q st byAgent).purge q
  let s := if st = lkTRAIN then
      let s := (s.setFld pg F.LNK_PARTNER_VALID 0).setFld pg F.LNK_STATE_NEG_VER 0
      let s := s.updPort q (fun x => { x with lanes := [] })
      (List.range (Port.lanes q)).foldl (fun t i => t.setFld pg (F.LNK_LANE_LOCK i) 0) s
    else s
  let s := if st = lkALIGN then
      s.updPort q (fun x => { x with txPlain := 0, rxPlain := none, cred := fullCredits q, seen := {}, freed := {}, away := [], back := 0,
                                     partial_ := [], synced := true, tagRun := 0, uncs := [], good := 0 })
    else s
  let s := if st = lkQUALIFY || st = lkSAFE then
      (((s.updPort q (fun x => { x with localRes := none, peerRes := none, worst := 0, dwell := [] })).setFld pg F.LNK_QUAL_LOCAL_PASS 0).setFld pg
        F.LNK_QUAL_PEER_PASS 0).setFld pg F.LNK_QUAL_DONE 0
    else s
  let s := if st = lkDETECT then
      match Port.opt? q with
      | some j => (s.setFld (.opt j) F.OPT_CTRL_DARK 0).setFld (.opt j) F.OPT_STATUS_DARK_ACTIVE (s.hotEngines.contains j).toNat
      | none => s
    else s
  let s := if st = lkDISABLED || st = lkFAILED || st = lkTRAIN || st = lkSAFE then
      s.updPort q (fun x => { x with txq := [], repeats := [], partial_ := [], synced := true })
    else s
  s.bringupReady

/-- A port in service fails with a cause: FAILED and a C1 fault (R288). -/
def State.portFail (s : State) (q : Port) (cause : Nat) : State :=
  if !inService (s.lnk q) then s else
  ((s.setFld (.lnk q) F.LNK_STATE_CAUSE cause).enterLnk q lkFAILED).raise (.lnk q) 0x102 1 {}

/-- A training attempt fails: the next one starts, or the port fails with TRAIN_TIMEOUT (R283). -/
def State.attemptFail (s : State) (q : Port) : State :=
  let n := (s.port q).attempts - 1
  let s := s.updPort q (fun x => { x with attempts := n })
  if n = 0 then (s.setFld (.lnk q) F.LNK_STATE_CAUSE 1).enterLnk q lkFAILED
  else s.enterLnk q lkTRAIN

/-- The TRAIN command on a port: from DISABLED or FAILED, with three attempts (R283). -/
def State.startTrain (s : State) (q : Port) (byAgent : Bool) : State :=
  if s.lnk q = lkDISABLED || s.lnk q = lkFAILED then
    (s.updPort q (fun x => { x with attempts := 3 })).enterLnk q lkDETECT byAgent
  else s

/-- The received power of an optical port's lanes is read (R303). -/
def State.rxPower (s : State) (j : OptPort) (rx : List (BitVec 16)) : State :=
  (rx.take 4).zipIdx.foldl (fun t e => t.setFld (.opt j) (F.OPT_RX_PWR_PWR e.2) e.1.toNat) s

/-- SIGNAL_DETECT: signal on every lane, and laser light for an optical port, whose lanes' power is read (R283, R295, R303). -/
def signalDetect (q : Port) (rx : List (BitVec 16)) (s : State) : State :=
  if !(s.portUp q) then s else
  let s := match Port.opt? q with | some j => s.rxPower j rx | none => s
  let light := match Port.opt? q with | some j => s.flag (.opt j) F.OPT_STATUS_LASER_OK | none => true
  if s.lnk q = lkDETECT && light then s.enterLnk q lkTRAIN else s

/-- One lane's transmitter under a request of the partner: the new taps or preset, and the STATUS (R285). `refused` and `limit` are what the
transmitter finds (log entry 1). -/
def LaneTx.apply (l : LaneTx) (w : TrainWord) (limit refused : Bool) : LaneTx :=
  let step : Int := if w.req = 1 then 1 else -1
  if w.req = 0 then { l with status := 0 }
  else if refused then { l with status := 3 }
  else if w.req = 3 then { l with preset := w.preset, tapM2 := 0, tapM1 := 0, tapP1 := 0, status := 1 }
  else if limit then { l with status := 2 }
  else if w.tap = 0 then { l with tapM2 := l.tapM2 + step, status := 1 }
  else if w.tap = 1 then { l with tapM1 := l.tapM1 + step, status := 1 }
  else if w.tap = 2 then { l with tapP1 := l.tapP1 + step, status := 1 }
  else { l with status := 0 }

/-- TRAINING_WORD: a word arrives on a lane in TRAIN: its request is applied and answered, its RX_READY and its STATUS are kept (R285). -/
def trainingWord (q : Port) (lane : Fin 8) (w : TrainWord) (limit refused : Bool) (s : State) : State :=
  if !(s.portUp q) || s.lnk q != lkTRAIN || Port.lanes q ≤ lane.val then s else
  let x := s.port q
  let l := { (Store.get (fun _ => {}) x.lanes lane.val).apply w limit refused with ready := w.rxReady, reply := w.status }
  (s.setPort q { x with lanes := Store.set (fun _ => {}) x.lanes lane.val l }).emit (.trainStatus q lane.val l.status)

/-- The partner's RX_READY has come on every lane (R283, R285). -/
def PortSt.partnerReady (x : PortSt) (w : Nat) : Bool := (List.range w).all (fun i => (Store.get (fun _ => ({} : LaneTx)) x.lanes i).ready)

/-- TRAIN_COMPLETE: every lane locked, and RX_READY exchanged both ways; the partner presets in use are shown (R283, R285, R301). -/
def trainComplete (q : Port) (presets : List (Fin 8)) (s : State) : State :=
  if !(s.portUp q) || s.lnk q != lkTRAIN || !((s.port q).partnerReady (Port.lanes q)) then s else
  let s := (presets.take (Port.lanes q)).zipIdx.foldl (fun t e => t.setFld (.lnk q) (F.LNK_LANE_PRESET e.2) e.1.val) s
  s.enterLnk q lkALIGN

/-- ALIGN_COMPLETE: lanes locked to their alignment units, numbered and their polarity corrected, and 64 good frames received (R267,
R283, R286, R301). -/
def alignComplete (q : Port) (lanes : List (Fin 8 × Bool)) (s : State) : State :=
  if !(s.portUp q) || s.lnk q != lkALIGN || (s.port q).good < 64 then s else
  let s := (lanes.take (Port.lanes q)).zipIdx.foldl (fun t e =>
    (t.setFld (.lnk q) (F.LNK_LANE_PHYS e.2) e.1.1.val).setFld (.lnk q) (F.LNK_LANE_POL_INV e.2) e.1.2.toNat) s
  let s := (List.range (Port.lanes q)).foldl (fun t i => t.setFld (.lnk q) (F.LNK_LANE_LOCK i) 1) s
  s.enterLnk q lkQUALIFY

/-- TRAIN_ATTEMPT_TIMEOUT: an attempt passes its bound in TRAIN or ALIGN (R283). -/
def trainAttemptTimeout (q : Port) (s : State) : State :=
  if s.portUp q && (s.lnk q = lkTRAIN || s.lnk q = lkALIGN) then s.attemptFail q else s

/-- A record of 64 bytes: type and the bytes from byte 1, padded with zeros (R292). -/
def recordBytes (type : Nat) (rest : List Byte) : List Byte := BitVec.ofNat 8 (0xF + type <<< 4) :: (rest ++ List.replicate (63 - rest.length) 0)

/-- Queue flits to be sent in the next frames. -/
def State.enqueue (s : State) (q : Port) (fl : List (Bool × List Byte)) : State := s.updPort q (fun x => { x with txq := x.txq ++ fl })

/-- Send a record: it waits for a frame (R274, R292). -/
def State.sendRecord (s : State) (q : Port) (bs : List Byte) : State := (s.enqueue q [(true, bs)]).emit (.sendRecord q bs)

/-- Send a record now and twice more (R293). -/
def State.sendThrice (s : State) (q : Port) (bs : List Byte) : State :=
  (s.sendRecord q bs).updPort q (fun x => { x with repeats := x.repeats ++ [(bs, 2)] })

/-- LINK_RECORD_REPEAT: the 10 µs timer of the oldest record with sends left (R293). -/
def linkRecordRepeat (q : Port) (s : State) : State :=
  if !(s.portUp q) then s else
  match (s.port q).repeats with
  | [] => s
  | (bs, n) :: r =>
    let s := s.updPort q (fun x => { x with repeats := if n ≤ 1 then r else r ++ [(bs, n - 1)] })
    s.sendRecord q bs

/-- The port places itself in QUARANTINE with VER_NONE when it reaches HELD with NEG_VER 0 (10 R402). -/
def State.heldCheck (s : State) (q : Port) : State :=
  if s.fld (.lnk q) F.LNK_STATE_NEG_VER = 0 then
    (s.enterLnk q lkQUARANTINE true).agentEvent (Port.pdie q) 0x03 q.val lkQUARANTINE (s.fld (.lnk q) F.LNK_STATE_CAUSE)
  else s

/-- The verdict of qualification (R287): HELD when both passed; QUAL_BER when the local receiver failed, QUAL_PEER when the partner
did. It falls once both results are known (log entry 32). -/
def State.verdict (s : State) (q : Port) : State :=
  let x := s.port q
  match x.localRes, x.peerRes with
  | some l, some p =>
    let s := s.setFld (.lnk q) F.LNK_QUAL_DONE 1
    if l && p then (s.enterLnk q lkHELD).heldCheck q else (s.setFld (.lnk q) F.LNK_STATE_CAUSE (if l then 3 else 2)).enterLnk q lkFAILED
  | _, _ => s

/-- A receiver passes when every lane has at most 85,000 corrected bits and no uncorrectable codeword (R287). -/
def dwellPass (lanes : List LaneFec) : Bool := lanes.all (fun l => decide (l.corr ≤ 85000) && l.unc == 0)

/-- The dwell's counts by lane. -/
def PortSt.dwellLanes (x : PortSt) (w : Nat) : List LaneFec := (List.range w).map (Store.get (fun _ => {}) x.dwell)

/-- The decoders' counts advance, by lane and for the port: those of a frame, or those of the frames of a dwell or window that no FRAME_RECEIVE row carries
(R271, R301; log entry 18). -/
def State.lanesCount (s : State) (q : Port) (ls : List LaneFec) : State :=
  let t := s.updPort q (fun x => x.decoded (s.lnk q = lkQUALIFY) ls)
  let t := (t.bump (.lnk q) C.LNK_FEC_CW (fecSum (·.cw) ls)).bump (.lnk q) C.LNK_FEC_CORR (fecSum (·.corr) ls)
  t.bump (.lnk q) C.LNK_FEC_UNCORR (fecSum (·.unc) ls)

/-- QUAL_DWELL_END: the dwell ends; each lane's count is kept, the result sent, and the verdict taken when the partner's is known (R287). -/
def qualDwellEnd (q : Port) (more : List LaneFec) (s : State) : State :=
  if !(s.portUp q) || s.lnk q != lkQUALIFY || (s.port q).localRes.isSome then s else
  let s := s.lanesCount q more
  let ls := (s.port q).dwellLanes (Port.lanes q)
  let pass := dwellPass ls
  let worst := ls.foldl (fun a l => max a l.corr) 0
  let s := ls.zipIdx.foldl (fun t e => t.setFld (.lnk q) (F.LNK_LANE_QUAL_ERR e.2) (min e.1.corr 0xFFFFFF)) s
  let s := s.updPort q (fun x => { x with localRes := some pass, worst := worst })
  let s := s.setFld (.lnk q) F.LNK_QUAL_LOCAL_PASS pass.toNat
  let s := s.sendThrice q (recordBytes 3 (BitVec.ofNat 8 pass.toNat :: leBytes worst 8))
  s.verdict q

/-- QUAL_RESULT_TIMEOUT: no result from the partner within 100 ms of the local dwell's end (R287). -/
def qualResultTimeout (q : Port) (s : State) : State :=
  let x := s.port q
  if !(s.portUp q) || s.lnk q != lkQUALIFY || x.localRes.isNone || x.peerRes.isSome then s else
  (s.setPort q { x with peerRes := some false }).verdict q

/-- QUAL_RESULT: the partner's result arrives (R287, R292). -/
def qualResult (q : Port) (pass : Bool) (s : State) : State :=
  let x := s.port q
  if !(s.portUp q) || s.lnk q != lkQUALIFY || x.peerRes.isSome then s else
  ((s.setPort q { x with peerRes := some pass }).setFld (.lnk q) F.LNK_QUAL_PEER_PASS pass.toNat).verdict q

/-- States in which link-management records are delivered (R282). -/
def recordsDelivered (st : Nat) : Bool := st = lkQUALIFY || inService st

/-- The negotiated version: the larger of the two highest capped at the lower of them, 0 when below either side's lowest (10 R401). -/
def negVersion (min1 max1 min2 max2 : Nat) : Nat :=
  let v := min max1 max2
  if v < min1 || v < min2 then 0 else v

/-- IDENT: recorded in LNK_PARTNER with the negotiated version; the PARTNER event when the partner differs from its previous IDENT (R292,
R293, 10 R397, R401). -/
def identReceive (q : Port) (i : Ident) (s : State) : State :=
  let pg : Page := .lnk q
  if !(s.portUp q) || !recordsDelivered (s.lnk q) then s else
  let x := s.port q
  let changed := x.hadIdent && (x.serial != i.serial || s.fld pg F.LNK_PARTNER_PN != i.pn.toNat % 32 || x.planDigest != leBytes i.planDig.toNat 16)
  let w := i.pn.toNat % 32 + (i.role.toNat % 4) <<< 5 + 1 <<< 7 + i.verMin.toNat <<< 8 + i.verMax.toNat <<< 12 + (i.profile.toNat % 16) <<< 16
  let s := s.wr (pg.base + 0x10C) (BitVec.ofNat 32 w)
  let s := (s.wr64 pg 0x110 (BitVec.ofNat 64 i.serial.toNat)).wr64 pg 0x118 (BitVec.ofNat 64 (i.serial.toNat >>> 64))
  let s := s.setFld pg F.LNK_STATE_NEG_VER (negVersion 1 1 i.verMin.toNat i.verMax.toNat)
  let s := s.setPort q { x with serial := i.serial, planDigest := leBytes i.planDig.toNat 16, fwDigest := leBytes i.fwDig.toNat 16, hadIdent := true }
  if changed then (s.fireEvent pg 3).agentEvent (Port.pdie q) 0x02 q.val (s.lnk q) 0 i.serial else s

/-- KEY_READY: the partner has loaded a receive slot (R279, R292). -/
def keyReady (q : Port) (slot : Fin 2) (s : State) : State :=
  if !(s.portUp q) || !recordsDelivered (s.lnk q) then s else
  s.updPort q (fun x => if slot = 0 then { x with ready0 := true } else { x with ready1 := true })

/-- KEY_ACK: the slot of the partner's first verified frame (R280, R292). -/
def keyAck (q : Port) (slot : Fin 2) (s : State) : State :=
  if !(s.portUp q) || !recordsDelivered (s.lnk q) then s else s.updPort q (fun x => { x with acked := some slot.val })

/-- The first 16 bytes of a digest, zeros for no plan (R292). -/
def digest16 (b : List Byte) : List Byte := if b.isEmpty then List.replicate 16 0 else (leBytes (Config.sha512 b).toNat 64).take 16

/-- The profile in force: the plan's as of bring-up, A without one (R290, 11 R412). -/
def State.profile (s : State) : Nat := if s.bootPlan.isEmpty then 0 else planProfile s.bootPlan

/-- The plan whose PRIMARY and STANDBY hold: the bring-up's, and one installed since by a package that came up without (11 R412). -/
def State.rolePlan (s : State) : List Byte := if s.bootPlan.isEmpty then s.plan else s.bootPlan

/-- The IDENT record a port sends (R292). -/
def State.identRecord (s : State) (q : Port) : List Byte :=
  recordBytes 0
    ([BitVec.ofNat 8 q.val, 0x11, BitVec.ofNat 8 (Port.pdie q).val, if s.bootPlan.isEmpty then 0xF else BitVec.ofNat 8 s.profile] ++
      leBytes s.fuses.serial.toNat 16 ++ digest16 s.plan ++ (leBytes s.fwDigest.toNat 64).take 16)

/-- IDENT_SEND: the periodic record of QUALIFY, HELD, ACTIVE and QUARANTINE (R293). -/
def identSend (q : Port) (s : State) : State :=
  if s.portUp q && recordsDelivered (s.lnk q) then s.sendRecord q (s.identRecord q) else s

/-- Packets a state delivers (R282), and in an unkeyed frame none but MGT (R278). -/
def deliverable (st : Nat) (p : Packet) : Bool := st = lkACTIVE || (st = lkHELD && p.mc == 0)

/-- A whole packet at a receiver: an unkeyed frame's REQ or RSP counts as a framing error; the state decides what is released (R278, R282). -/
def State.takePacket (s : State) (q : Port) (keyed : Bool) (bs : List Byte) : State :=
  let p := Packet.ofBytes bs
  if p.ver != 1 then s.bump (.lnk q) C.LNK_FRAMING 1
  else if !keyed && p.mc != 0 then s.bump (.lnk q) C.LNK_FRAMING 1
  else if deliverable (s.lnk q) p then s.emit (.released q p)
  else s

/-- The stream of flits of accepted frames (R274): packets are gathered across frames, keyed only when every frame that carries them is (R278; log entry 17);
records reach the link layer; an idle flit with a non-zero byte, a reserved record type or another version is a framing error. -/
def State.takeFlits (s : State) (q : Port) (keyed : Bool) : List (List Byte) → State
  | [] => s
  | fl :: rest =>
    let x := s.port q
    let s := if !x.partial_.isEmpty then
        let got := x.partial_ ++ fl
        let keyed := keyed && x.partKeyed
        if got.length < 64 * flitsOf got then s.setPort q { x with partial_ := got, partKeyed := keyed }
        else (s.setPort q { x with partial_ := [] }).takePacket q keyed got
      else
        let n := ((fl.headD 0).toNat) % 16
        if n = 0 then (if fl.all (· == 0) then s else s.bump (.lnk q) C.LNK_FRAMING 1)
        else if n = 15 then
          let ty := (fl.headD 0).toNat / 16
          if 3 < ty then s.bump (.lnk q) C.LNK_FRAMING 1
          else if recordsDelivered (s.lnk q) then s.emit (.record q fl) else s
        else if flitsOf fl = 1 then s.takePacket q keyed fl
        else s.setPort q { x with partial_ := fl, partKeyed := keyed }
    s.takeFlits q keyed rest

/-- Uncorrectable codewords within the last millisecond: 200,000 ticks (R288). -/
def recentUnc (now : BitVec 64) (l : List (BitVec 64 × Nat)) : List (BitVec 64 × Nat) := l.filter (fun e => decide ((now - e.1).toNat ≤ 200000))

/-- A frame that fails its check is discarded with the tail of a packet begun earlier, counted, with a C0 fault; the sixteenth in
succession fails the port (R277, R288). -/
def State.frameBad (s : State) (q : Port) (inj : Bool) : State :=
  let n := (s.port q).tagRun + 1
  let s := (s.bump (.lnk q) C.LNK_TAG_FAIL 1).updPort q (fun x => { x with partial_ := [], synced := false, tagRun := n })
  let s := s.raise (.lnk q) 0x100 0 {} inj
  if 16 ≤ n then s.portFail q 5 else s

/-- An optical port stamps the frames whose FCNT has bits [15:0] zero, in 1/48 tick (17 R635); the part of a tick is a free value. -/
def State.stamp (s : State) (q : Port) (tx : Bool) (fcnt : Nat) : State :=
  if !q.isOpt || fcnt % 0x10000 != 0 then s else
  let (v, s) := s.free
  let x := Store.get (fun _ => {}) s.xfers q.val
  let t : BitVec 64 := BitVec.ofNat 64 (48 * (s.now (PDie.die (Port.pdie q))).toNat + v.toNat % 48)
  let f : BitVec 64 := BitVec.ofNat 64 fcnt
  { s with xfers := Store.set (fun _ => {}) s.xfers q.val (if tx then { x with txF := f, txT := t } else { x with rxF := f, rxT := t }) }

/-- An accepted frame: its counter, the page's receive state, KEY_ACK for the first frame under a slot, and its flits (R276, R277, R280). -/
def State.frameGood (s : State) (q : Port) (f : RxFrame) : State :=
  let pg : Page := .lnk q
  let x := s.port q
  let now := s.now (PDie.die (Port.pdie q))
  let isNew := f.keyed && (match x.rxKey f.kidx with | some k => k.last.isNone | none => false)
  let x1 := if f.keyed then x.setRx f.kidx ((x.rxKey f.kidx).map (fun k => { k with last := some f.fcnt.toNat, seenAt := now }))
    else { x with rxPlain := some f.fcnt.toNat }
  let s := s.setPort q { x1 with tagRun := 0, good := min 64 (x.good + 1), synced := x.synced || decide (f.first < 256) }
  let s := (s.setFld pg F.LNK_STATE_KEYED_RX f.keyed.toNat).setFld pg F.LNK_STATE_KIDX_RX f.kidx.toNat
  let s := (s.wr64 pg 0x148 f.fcnt).bump pg C.LNK_FRAMES_RX 1
  let s := if isNew then s.sendThrice q (recordBytes 2 [BitVec.ofNat 8 f.kidx.toNat]) else s
  let s := s.stamp q false f.fcnt.toNat
  let skip := if x.synced then 0 else f.first
  s.takeFlits q f.keyed (f.slots.drop skip)

/-- FRAME_RECEIVE: the decoders' counts by lane and of the port, the check of R277, and the frame's flits or its discard; more than 16 uncorrectable codewords within
1 ms fail the port (R271–R278, R288, R514). -/
def frameReceive (q : Port) (f : RxFrame) (s : State) : State :=
  let pg : Page := .lnk q
  let st := s.lnk q
  if !(s.portUp q) || !(st = lkALIGN || recordsDelivered st) then s else
  let tagInj := s.injection pg 0
  let fecInj := s.injection pg 1
  let cws := match fecInj with | some n => injectLanes n (s.fld pg F.INJ_CTRL_MODE != 1) f.lanes | none => f.lanes
  let s := if tagInj.isSome || cws != f.lanes then s.injFired pg else s
  let ls := laneCounts cws
  let unc := fecSum (·.unc) ls
  let s := s.lanesCount q ls
  let now := s.now (PDie.die (Port.pdie q))
  let us := recentUnc now ((s.port q).uncs ++ (if unc = 0 then [] else [(now, unc)]))
  let s := s.updPort q (fun x => { x with uncs := us })
  let s := if tagInj.isSome || !frameOk (s.port q) f unc then s.frameBad q (tagInj.isSome || (fecInj = some 2 && cws != f.lanes)) else s.frameGood q f
  if 16 < (us.map (·.2)).sum then s.portFail q 6 else s

/-- 2^40, 2^39 and the FCNT at which a change needs no command (R279, R281). -/
def fcntEnd : Nat := 2 ^ 40
def fcntDue : Nat := 2 ^ 39
def fcntAuto : Nat := 2 ^ 40 - 2 ^ 32

/-- The transmit slot in use (R279). -/
def State.txSlot (s : State) (q : Port) : Bool := s.flag (.lnk q) F.LNK_STATE_KIDX_TX

/-- Whether the transmitter may change to its other slot: that slot holds a key, KEY_READY has named it (R279), and the port is in HELD or
ACTIVE (R300). -/
def State.mayChange (s : State) (q : Port) : Bool :=
  let j := !(s.txSlot q)
  let x := s.port q
  (x.txKey j).isSome && x.ready j && (s.lnk q = lkHELD || s.lnk q = lkACTIVE)

/-- Change to the other transmit slot when it is due (R279). The KEY_READY is spent with it (log entry 33). -/
def State.slotChange (s : State) (q : Port) : State :=
  let k := s.txSlot q
  let x := s.port q
  let due := x.switchTo = some (!k).toNat || (match x.txKey k with | some t => decide (fcntAuto ≤ t.fcnt) | none => false)
  if due && s.mayChange q then
    let s := s.setPort q { x.setReady (!k) false with switchTo := none }
    ((s.setFld (.lnk q) F.LNK_STATE_KIDX_TX (!k).toNat).setFld (.lnk q) F.LNK_STATE_KEYED_TX 1).setFld (.lnk q) F.LNK_STATE_KEY_DUE 0
  else s

/-- The index of the first packet boundary among 256 flit slots; the slots behind the queued flits are idle and stand at boundaries (R273). -/
def firstBoundary (fl : List (Bool × List Byte)) : Nat := fl.findIdx (·.1)

/-- The frame that leaves a port: its header, its flit slots, its tag, and what each lane carries (R272–R275). -/
def frameOut (q : Port) (key : BitVec 256) (salt : BitVec 32) (header : BitVec 128) (slots : List (List Byte)) : Output :=
  .frame q header slots (frameTag key salt header slots) (onLanes (Port.lanes q) (frameBytes (Port.lanes q) key salt header slots))

/-- Idle frames leave: in ALIGN, and in SAFE until 1 µs after entry (R282, R297). -/
def State.idling (s : State) (q : Port) : Bool := s.lnk q = lkALIGN || (s.lnk q = lkSAFE && (s.port q).safeAt.isSome)

/-- FRAME_TRANSMIT: at the frame boundary a slot change that is due is made; the frame goes out under the slot in use and its FCNT
advances; KEY_DUE at 2^39; at 2^40 the port stops with KEY_EXHAUSTED (R272–R276, R279, R281). A port in ALIGN sends idle frames without a key, one in
SAFE idle frames under its current slot (R282, R297). -/
def frameTransmit (q : Port) (s : State) : State :=
  let pg : Page := .lnk q
  let st := s.lnk q
  if !(s.portUp q) || !(s.idling q || recordsDelivered st) then s else
  let s := if s.idling q then s else s.slotChange q
  let k := s.txSlot q
  let x := s.port q
  let fl := if s.idling q then [] else x.txq.take 256
  let left := if s.idling q then x.txq else x.txq.drop 256
  match (if st = lkALIGN then none else x.txKey k) with
  | none =>
    let s := s.setPort q { x with txPlain := x.txPlain + 1, txq := left }
    let s := (s.wr64 pg 0x140 (BitVec.ofNat 64 (x.txPlain + 1))).stamp q true x.txPlain
    s.emit (frameOut q 0 0 (frameHeader x.txPlain false false (firstBoundary fl)) (fl.map (·.2)))
  | some t =>
    if fcntEnd ≤ t.fcnt then s.portFail q 7
    else
      let s := s.setPort q { x.setTx k (some { t with fcnt := t.fcnt + 1 }) with txq := left }
      let s := (s.wr64 pg 0x140 (BitVec.ofNat 64 (t.fcnt + 1))).stamp q true t.fcnt
      let s := s.emit (frameOut q t.key t.salt (frameHeader t.fcnt k true (firstBoundary fl)) (fl.map (·.2)))
      if t.fcnt + 1 = fcntDue then
        ((s.setFld pg F.LNK_STATE_KEY_DUE 1).fireEvent pg 2).agentEvent (Port.pdie q) 0x04 q.val st (s.fld pg F.LNK_STATE_CAUSE)
      else s

/-- LANE_LOSS_OF_LOCK: a lane loses signal, clock recovery or alignment: the port in service fails; a dwell goes back to TRAIN (R283, R288,
R300). -/
def laneLossOfLock (q : Port) (lane : Fin 8) (s : State) : State :=
  let st := s.lnk q
  if !(s.portUp q) || Port.lanes q ≤ lane.val || !(recordsDelivered st) then s else
  let s := s.setFld (.lnk q) (F.LNK_LANE_LOCK lane.val) 0
  if st = lkQUALIFY then s.attemptFail q else s.portFail q 4

/-- The laser input's power is read with the lanes' received power: LASER_OK above +15 dBm, with the page's event on a change (R295, R303). -/
def State.laserRead (s : State) (j : OptPort) (pwr : BitVec 16) (rx : List (BitVec 16)) : State :=
  let s := s.rxPower j rx
  let ok := decide (1500 < pwr.toInt)
  let was := s.flag (.opt j) F.OPT_STATUS_LASER_OK
  let s := s.setFld (.opt j) F.OPT_LASER_PWR_PWR pwr.toNat
  if was = ok then s else (s.setFld (.opt j) F.OPT_STATUS_LASER_OK ok.toNat).fireEvent (.opt j) 1

/-- LASER_OK_CHANGE: the input crosses +15 dBm (R295). -/
def laserOkChange (j : OptPort) (pwr : BitVec 16) (rx : List (BitVec 16)) (s : State) : State :=
  if s.portUp (OptPort.port j) then s.laserRead j pwr rx else s

/-- LASER_LOSS: the input falls below the threshold: LASER_OK follows, and the port in service fails (R288, R295). -/
def laserLoss (j : OptPort) (pwr : BitVec 16) (rx : List (BitVec 16)) (s : State) : State :=
  let q := OptPort.port j
  if !(s.portUp q) then s else
  let s := s.laserRead j pwr rx
  if s.flag (.opt j) F.OPT_STATUS_LASER_OK then s else s.portFail q 8

/-- LANE_BER_WINDOW: a 1 s window ends; more than 425,000 corrected bits on a lane raise a C0 fault; no state changes, and the next window starts (R289; log
entry 18). -/
def laneBerWindow (q : Port) (more : List LaneFec) (s : State) : State :=
  if !(s.portUp q) then s else
  let s := s.lanesCount q more
  let bad := (List.range (Port.lanes q)).any (fun i => decide (425000 < Store.get (fun _ => 0) (s.port q).win i))
  let s := s.updPort q (fun x => { x with win := [] })
  if bad then s.raise (.lnk q) 0x101 0 {} else s

/-- The code of a command (R301, R386). -/
def PortCmd.code : PortCmd → Nat
  | .train => 1 | .disable => 2 | .admitPort => 3 | .quarantine => 4 | .release => 5 | .memberOn => 6 | .memberOff => 7 | .darkOn => 8 | .darkOff => 9

/-- Both directions of a link are keyed (R283, R301). -/
def State.keyedBoth (s : State) (q : Port) : Bool := s.flag (.lnk q) F.LNK_STATE_KEYED_TX && s.flag (.lnk q) F.LNK_STATE_KEYED_RX

/-- The port accepts a command (10 R386). -/
def State.portAccepts (s : State) (q : Port) (c : PortCmd) : Bool :=
  let st := s.lnk q
  match c with
  | .train => st = lkDISABLED || st = lkFAILED
  | .disable => true
  | .admitPort => st = lkHELD && s.keyedBoth q && s.fld (.lnk q) F.LNK_STATE_NEG_VER != 0
  | .quarantine => st = lkHELD || st = lkACTIVE
  | .release => (st = lkQUARANTINE || st = lkACTIVE) && s.fld (.lnk q) F.LNK_STATE_NEG_VER != 0
  | .memberOn => st = lkACTIVE
  | .memberOff => true
  | .darkOn => q.isOpt
  | .darkOff => q.isOpt && !(st = lkDISABLED || st = lkFAILED || st = lkSAFE)

/-- The effect of an accepted command (R283, R296, R386). -/
def State.portDo (s : State) (q : Port) (c : PortCmd) (byAgent : Bool) : State :=
  let mem : Field := F.RTR_PORT_MEMBER (Port.local q)
  let rp : Page := .rtr (PDie.die (Port.pdie q))
  match c with
  | .train => s.startTrain q byAgent
  | .disable => if s.lnk q = lkDISABLED then s else s.enterLnk q lkDISABLED byAgent
  | .admitPort => s.enterLnk q lkACTIVE byAgent
  | .quarantine => s.enterLnk q lkQUARANTINE byAgent
  | .release => s.enterLnk q lkHELD byAgent
  | .memberOn => s.setFld rp mem 1
  | .memberOff => s.setFld rp mem 0
  | .darkOn => match Port.opt? q with
    | some j => (s.setFld (.opt j) F.OPT_CTRL_DARK 1).setFld (.opt j) F.OPT_STATUS_DARK_ACTIVE 1
    | none => s
  | .darkOff => match Port.opt? q with
    | some j => (s.setFld (.opt j) F.OPT_CTRL_DARK 0).setFld (.opt j) F.OPT_STATUS_DARK_ACTIVE (s.hotEngines.contains j).toNat
    | none => s

end Sys2Proof.Machine
end

