-- ==== Sys2Proof/Machine/Router.lean ====
section
/-! DEFINITION. Routers and die-to-die switches: route choice, virtual channels, credits, directed packets, lifetimes (01 R21–R28, 08
R314–R335, R344, R347). -/

namespace Sys2Proof.Machine

/-- The hash of R324. -/
def routeHash (a b c d : BitVec 32) : BitVec 32 :=
  let x := a ^^^ b.rotateLeft 8 ^^^ c.rotateLeft 16 ^^^ d.rotateLeft 24
  let x := x ^^^ (x >>> 16)
  let x := x * 0x7FEB352D#32
  let x := x ^^^ (x >>> 15)
  let x := x * 0x846CA68B#32
  x ^^^ (x >>> 16)

/-- hb of a packet (R324). -/
def Packet.hb (p : Packet) : BitVec 32 := routeHash p.src p.dst p.xid (p.seq.setWidth 32)

/-- The index of a destination package (R322). -/
def routeIndex (c : Coord) : Nat := c.cube * 64 + (c.x % 4) * 16 + (c.y % 4) * 4 + c.p % 4

/-- The entry of a die's table of an epoch: the router table of a port die, the egress map of a compute die (R322, R323). -/
def tableKey (d : Die) (e : Bool) (i : Nat) : Nat := (d.val * 2 + e.toNat) * 4096 + i
def State.entry (s : State) (d : Die) (e : Bool) (i : Nat) : Word := Store.get (fun _ => 0) s.tables (tableKey d e i)

/-- The table of an epoch is VALID on a die (R387). -/
def State.tableValid (s : State) (d : Die) (e : Bool) : Bool :=
  s.flag (.rtr d) (if e then F.RTR_EPOCH_VALID1 else F.RTR_EPOCH_VALID0)

/-- The port of local index i on a port die (R322). -/
def portAt (k : PDie) (i : Nat) : Port :=
  if h : i < 9 then ⟨9 * k.val + i, by omega⟩ else ⟨18 + 3 * k.val + (i - 9) % 3, by omega⟩

/-- A member is usable: ACTIVE with RTR_PORT.MEMBER 1, on a die that is in service (R324). -/
def State.usable (s : State) (q : Port) : Bool :=
  s.portUp q && s.lnk q = lkACTIVE && s.flag (.rtr (PDie.die (Port.pdie q))) (F.RTR_PORT_MEMBER (Port.local q))

/-- The usable members of a 12-bit set on a port die, in ascending port order (R324). -/
def State.members (s : State) (k : PDie) (set : Nat) : List Port :=
  ((List.range 12).filter (fun i => set.testBit i)).map (portAt k) |>.filter s.usable

/-- The compute dies that are not fenced, in ascending order. -/
def State.liveCds (s : State) : List CDie := allCDies.filter (fun c => !(s.fencedDies.contains (CDie.die c)))

/-- The compute die a packet crosses between port dies by (R21, R324). -/
def State.crossDie (s : State) (p : Packet) : Option CDie :=
  let l := s.liveCds
  if p.mc = 0 then l.head?
  else l[(routeHash p.src p.dst p.xid 0).toNat % 0x10000 % (max 1 l.length)]?

/-- Where a routed packet goes from a die, or why it is discarded. -/
inductive Route where
  | out (e : Egress)
  | drop (c : Cause)
  deriving DecidableEq, Repr

/-- The checks of FORMAT that a router makes on a packet's header (R307, R347). -/
def Packet.headerOk (p : Packet) : Bool :=
  p.mc != 3 && p.lenOk && p.partOk && p.rsvOk && (if p.drt then p.mc == 0 else p.dst.ok && p.src.ok)

/-- A packet addressed to an endpoint that cannot take it (R26, R28, R325). -/
def Packet.misaddressed (p : Packet) : Bool :=
  if p.mc = 0 then !((p.dst.d = 8 || p.dst.d = 9) && p.dst.e = 1) && !(p.dst.d = 8 && p.dst.e = 2)
  else p.dst.e = 1 || p.dst.e = 2 || 8 ≤ p.dst.d

/-- On to another die of the package, `last` where the packet ends there. A die in core reset takes nothing, and a fenced one nothing for itself; the switch of
a fenced compute die goes on forwarding (R299, R347, R680). -/
def State.hop (s : State) (x : Die) (last : Bool) : Route :=
  if s.inReset x || s.pathHeld x || ((last || decide (8 ≤ x.val)) && s.fencedDies.contains x) then .drop .fenced else .out (.die x)

/-- Across to the other port die (R21, R328). -/
def State.cross (s : State) (k : PDie) (p : Packet) : Route :=
  match s.hop (PDie.die (1 - k)) true with
  | .drop c => .drop c
  | .out _ => match s.crossDie p with | some c => s.hop (CDie.die c) false | none => .drop .noRoute

/-- The route at a port die (R321, R322, R324, R325, R387, R389). -/
def State.routePd (s : State) (k : PDie) (p : Packet) : Route :=
  let d := PDie.die k
  let e := s.entry d p.epo (routeIndex p.dst)
  if p.dst.d = 15 || !(s.tableValid d p.epo) || !(e.getLsbD 31) then .drop .noRoute
  else if e.getLsbD 24 then
    if p.misaddressed then .drop .misaddr
    else if h : p.dst.d < 8 then
      s.hop (CDie.die ⟨p.dst.d, h⟩) true
    else if p.dst.d = d.val then .out (.endpoint p.dst.e)
    else s.cross k p
  else
    let mine := s.members k (bits e.toNat 11 0)
    match mine[p.hb.toNat % 0x10000 % (max 1 mine.length)]? with
    | some q => .out (.port q)
    | none => if (s.members (1 - k) (bits e.toNat 23 12)).isEmpty then .drop .noRoute else s.cross k p

/-- Whether the ring link of a compute die in a direction works (R299, R327). -/
def State.ringLink (s : State) (c : CDie) (up : Bool) : Bool :=
  let f : Face := if up then .ringPlus else .ringMinus
  s.fld (.d2dC c f) F.D2D_STATE_STATE != D2D_FAILED && s.flag (.rtr (CDie.die c)) (F.RTR_PORT_MEMBER (if up then 2 else 3))

/-- Whether every ring link from a die over n steps in a direction works. -/
def State.ringPath (s : State) (c : CDie) (up : Bool) : Nat → Bool
  | 0 => true
  | n + 1 => s.fld (.d2dC c (if up then .ringPlus else .ringMinus)) F.D2D_STATE_STATE != D2D_FAILED &&
      s.ringPath (if up then cdUp c else cdDown c) up n

/-- The next die on the ring: the shorter direction, ascending at distance 4; the surviving one of a line (R21, R299). -/
def State.ringNext (s : State) (c dst : CDie) : Option CDie :=
  let u := (dst.val + 8 - c.val) % 8
  let wantUp := decide (u ≤ 4)
  let ok (up : Bool) : Bool := s.ringPath c up (if up then u else 8 - u)
  if ok wantUp then some (if wantUp then cdUp c else cdDown c)
  else if ok (!wantUp) then some (if wantUp then cdDown c else cdUp c) else none

/-- The route at a compute die's switch (R21, R22, R323, R324). -/
def State.routeCd (s : State) (c : CDie) (came : Came) (p : Packet) : Route :=
  let d := CDie.die c
  let here := p.dst.pkg = s.pkg && p.dst.d != 15
  let fromPd := match came with | .die x _ _ => decide (8 ≤ x.val) | _ => false
  if here && p.dst.d = c.val then
    if p.misaddressed then .drop .misaddr else if s.dieDown c then .drop .fenced else .out (.endpoint p.dst.e)
  else if fromPd then
    -- a crossing from one port die to the other (R328)
    match came with
    | .die x _ _ => s.hop (if x = pd0 then pd1 else pd0) true
    | _ => .drop .noRoute
  else if here then
    if h : p.dst.d < 8 then
      match s.ringNext c ⟨p.dst.d, h⟩ with
      | some n => s.hop (CDie.die n) (decide (n.val = p.dst.d))
      | none => .drop .noRoute
    else s.hop (if p.dst.d = 8 then pd0 else pd1) true
  else
    let e := (s.entry d p.epo (routeIndex p.dst)).toNat
    let n0 := bits e 4 2
    let n1 := bits e 7 5
    if p.dst.d = 15 || !(s.tableValid d p.epo) || !(e.testBit 31) then .drop .noRoute
    else match bits e 1 0 with
      | 1 => s.hop pd0 false
      | 2 => s.hop pd1 false
      | 3 => if n0 + n1 = 0 then .drop .noRoute else s.hop (if (p.hb.toNat >>> 16) % (n0 + n1) < n0 then pd0 else pd1) false
      | _ => .drop .noRoute

/-- A dimension: DIM, DIR and CUBE_D of a RTR_PORT entry (R326). -/
def State.dimOf (s : State) (d : Die) (i : Nat) : Nat × Nat × Nat :=
  (s.fld (.rtr d) (F.RTR_PORT_DIM i), s.fld (.rtr d) (F.RTR_PORT_DIR i), s.fld (.rtr d) (F.RTR_PORT_CUBE_D i))

/-- The RTR_PORT entry of a compute die towards another die (R327). -/
def cdEntry (c : CDie) (x : Die) : Nat :=
  if x = pd0 then 0 else if x = pd1 then 1 else if x = CDie.die (cdUp c) then 2 else 3

/-- The direction a packet travels that arrives through a port of dimension `x`: a port faces its neighbour, so on a ring (X 2, Y 3, the compute-die
ring 6) a packet that comes in from one neighbour goes on towards the other (R326, R327, R425; log entry 75). -/
def travel (x : Nat × Nat × Nat) : Nat × Nat × Nat :=
  if x.1 = 2 || x.1 = 3 || x.1 = 6 then (x.1, 1 - x.2.1, x.2.2) else x

/-- The dimension a packet arrived in; none for injection (R326). -/
def State.inDim (s : State) (d : Die) (came : Came) : Option (Nat × Nat × Nat) :=
  match came with
  | .inject _ => none
  | .port q => some (travel (s.dimOf (PDie.die (Port.pdie q)) (Port.local q)))
  | .die x _ crossed => match crossed with
    | some q => some (travel (s.dimOf (PDie.die (Port.pdie q)) (Port.local q)))
    | none => match Die.cd? d with
      | some c => some (travel (s.dimOf d (cdEntry c x)))
      | none => none

/-- VCH on leaving through a port entry: 0 on a change of dimension, then 1 past a dateline (R23, R326). -/
def State.outVch (s : State) (d : Die) (i : Nat) (came : Came) (v : Bool) : Bool :=
  (if s.inDim d came = some (s.dimOf d i) then v else false) || s.flag (.rtr d) (F.RTR_PORT_DATELINE i)

/-- Packets that wait for an output on a VC, in flits (R344, 10 R394). -/
def State.waiting (s : State) (d : Die) (o : Egress) (vc : Nat) : Nat :=
  ((s.transits.filter (fun t => t.die == d && t.out == o && t.vc == vc)).map (fun t => t.pkt.flits)).sum

def State.portWaiting (s : State) (q : Port) (vc : Nat) : Nat := s.waiting (PDie.die (Port.pdie q)) (.port q) vc

/-- RTR_CFG.CE_THRESH in bytes; 0 acts as 1 KiB (R350). -/
def State.ceThresh (s : State) (d : Die) : Nat := 1024 * max 1 (s.fld (.rtr d) F.RTR_CFG_CE_THRESH)

/-- The number of an input for round-robin. -/
def Came.num : Came → Nat
  | .port q => q.val | .die d _ _ => 32 + d.val | .inject e => 48 + e.val

/-- The end of the die-to-die link from a die to another (07 R304). -/
def linkPage (d x : Die) : Page :=
  match Die.cd? d, Die.cd? x with
  | some c, some n => if n = cdUp c then .d2dC c .ringPlus else .d2dC c .ringMinus
  | some c, none => .d2dC c (if x = pd0 then .toPd0 else .toPd1)
  | none, some n => .d2dP (if d = pd0 then 0 else 1) n
  | none, none => .rtr d

/-- The VC bit of a packet on the link from one die to another (R314, R315): VCH on the ring; between a port die and a compute die 0 for a packet that starts
or ends at the compute die, 1 for one in transit between the port dies. -/
def State.linkBit (s : State) (d : Die) (came : Came) (x : Die) (p : Packet) : Bool :=
  if d.val < 8 && x.val < 8 then p.vch
  else if d.val < 8 then came.crossing
  else p.drt || !(p.dst.pkg == s.pkg && p.dst.d == x.val)

/-- A packet as it leaves through an output: HOPS through a fabric port, VCH there and on the ring (R326, R329). -/
def State.outPacket (s : State) (d : Die) (came : Came) (p : Packet) : Egress → Packet
  | .port q => { p with hops := p.hops + 1, vch := s.outVch d (Port.local q) came p.vch }
  | .die x => match Die.cd? d, Die.cd? x with
    | some c, some _ => { p with vch := s.outVch d (cdEntry c x) came p.vch }
    | _, _ => p
  | .endpoint _ => p

/-- The virtual channel of an output a packet leaves on (R314). -/
def State.outVc (s : State) (d : Die) (came : Came) (p : Packet) : Egress → Nat
  | .die x => 2 * p.mc.toNat + (s.linkBit d came x p).toNat
  | _ => p.vc

/-- Entry i of a directed packet's route list, in bytes 48–62 (R330). -/
def Packet.routeEntry (p : Packet) (i : Nat) : Nat := bits (leNat ((p.body.drop 16).take 15)) (5 * i + 4) (5 * i)

/-- The egress port or endpoint at the other port die that a packet is to leave by (R324, R328, R330). -/
def State.farOut (s : State) (k : PDie) (p : Packet) : Egress :=
  if p.drt then
    let e := p.routeEntry p.md.toNat
    if h : e < 24 then .port ⟨e, h⟩ else .endpoint (if e = 26 then 2 else 1)
  else if p.dst.pkg = s.pkg then .endpoint p.dst.e
  else
    let l := s.members (1 - k) (bits (s.entry (PDie.die k) p.epo (routeIndex p.dst)).toNat 23 12)
    match l[p.hb.toNat % 0x10000 % (max 1 l.length)]? with | some q => .port q | none => .endpoint p.dst.e

/-- The space a waiting packet has to reserve before a port die sends it across (R328). -/
def State.crossTo (s : State) (t : Transit) : Option CrossRes :=
  match Die.pd? t.die, t.out with
  | some k, .die _ => if t.vc % 2 = 1 then some ⟨PDie.die (1 - k), s.farOut k t.pkt, { t.pkt with ce := false }⟩ else none
  | _, _ => none

/-- That space is free: each queue of an output, class and VCH holds one whole packet (R328; log entry 19). -/
def State.crossFree (s : State) (t : Transit) : Bool :=
  match s.crossTo t with
  | none => true
  | some r => !(s.reserved.any (fun x => x.far == r.far && x.out == r.out && x.pkt.vc == r.pkt.vc))

/-- The credits and the arbitration of an output. -/
def State.outCred (s : State) (d : Die) : Egress → Credits
  | .port q => (s.port q).cred | .die x => (s.d2dEnd d x).cred | .endpoint _ => {}
def State.outArb (s : State) (d : Die) : Egress → OutArb
  | .port q => (s.port q).out | .die x => (s.d2dEnd d x).out | .endpoint _ => {}

/-- An output's link carries a packet: a fabric port in a state that does, a die-to-die link that is ACTIVE (R282, 07 R304, R331). -/
def State.linkCarries (s : State) (d : Die) (p : Packet) : Egress → Bool
  | .port q => s.lnk q = lkACTIVE || (p.drt && s.lnk q = lkHELD)
  | .die x => s.fld (linkPage d x) F.D2D_STATE_STATE = 2
  | .endpoint _ => true

/-- A waiting packet may leave: its link carries it, the credits cover it, and a crossing has its space (R317, R318, R328). -/
def State.ready (s : State) (t : Transit) : Bool :=
  s.linkCarries t.die t.pkt t.out && ((s.outCred t.die t.out).pool t.vc t.pkt.flits).isSome && s.crossFree t

/-- The first waiting packet of each VC and input of an output (R320). -/
def State.heads (s : State) (d : Die) (o : Egress) : List Transit :=
  (s.transits.filter (fun t => t.die == d && t.out == o)).foldl
    (fun l t => if l.any (fun x => x.came.num == t.came.num && x.vc == t.vc) then l else l ++ [t]) []

/-- The member of a list whose number comes next after `last` (R320). -/
def nextAfter (last : Nat) (l : List Transit) : Option Transit :=
  l.foldl (fun o t => match o with
    | none => some t
    | some x => if (t.came.num + 127 - last) % 128 < (x.came.num + 127 - last) % 128 then some t else o) none

/-- The packet an output serves next (R320): MGT, then RSP, then REQ, but one REQ within every REQ_SHARE packets; the VCs of a class alternate;
inputs of a VC in turn. -/
def State.serve (s : State) (d : Die) (o : Egress) : Option Transit :=
  let rs := (s.heads d o).filter s.ready
  let arb := s.outArb d o
  let share := max 1 (s.fld (.rtr d) F.RTR_CFG_REQ_SHARE)
  let of (m : Nat) : List Transit := rs.filter (fun t => t.pkt.mc.toNat == m)
  let cls := if !(of 1).isEmpty && share ≤ arb.sinceReq + 1 then of 1
    else if !(of 0).isEmpty then of 0 else if !(of 2).isEmpty then of 2 else of 1
  match cls.head? with
  | none => none
  | some t0 =>
    let lastBit := Store.get (fun _ => 1) arb.lastBit t0.pkt.mc.toNat
    let alt := cls.filter (fun t => t.vc % 2 != lastBit)
    let l := if alt.isEmpty then cls else alt
    match l.head? with
    | none => none
    | some t1 => nextAfter (Store.get (fun _ => 127) arb.lastIn t1.vc) l

/-- A packet goes into an output's stream of flits (R274, 10 R401). -/
def State.putOut (s : State) (q : Port) (p : Packet) : State :=
  let p := { p with ver := BitVec.ofNat 4 (s.fld (.lnk q) F.LNK_STATE_NEG_VER) }
  let fl := flitList p.bytes p.flits
  let s := s.enqueue q (fl.zipIdx.map (fun e => (e.2 == 0, e.1)))
  s.updTel q (fun t => { t with pktTx := telAdd t.pktTx 1, byteTx := telAdd t.byteTx p.size, ece := if p.ece then telAdd t.ece 1 else t.ece })

/-- The arbitration after a packet has left (R320). -/
def OutArb.served (a : OutArb) (t : Transit) : OutArb :=
  { sinceReq := if t.pkt.mc = 1 then 0 else a.sinceReq + 1
    lastBit := Store.set (fun _ => 1) a.lastBit t.pkt.mc.toNat (t.vc % 2)
    lastIn := Store.set (fun _ => 127) a.lastIn t.vc t.came.num }

/-- A packet goes out through an output with `c` of its credits left: its credit is awaited (R317, R319, R334). -/
def State.sendOut (s : State) (t : Transit) (c : Credits) : State :=
  match t.out with
  | .port q =>
    (s.updPort q (fun x => { x with cred := c, out := x.out.served t, away := if t.pkt.drt then x.away else x.away ++ [(t.pkt.flits, t.pkt.epo)] })).putOut
      q t.pkt
  | .die x =>
    let e := s.d2dEnd t.die x
    s.setD2d t.die x { cred := c, out := e.out.served t, away := e.away ++ [(t.vc % 2 == 1, t.pkt)] }
  | .endpoint _ => s

/-- A waiting packet leaves through its output: credits and, for a crossing, its space are taken, and its input space is freed (R317, R319, R328, R334). -/
def State.leave (s : State) (t : Transit) : State :=
  let c := s.outCred t.die t.out
  match c.pool t.vc t.pkt.flits with
  | none => s
  | some pool =>
    let s : State := { s with transits := s.transits.filter (· != t), reserved := s.reserved ++ (s.crossTo t).toList }
    let s := s.sendOut t (c.set pool (c.get pool - t.pkt.flits))
    (s.freeInput t.die t.came t.inp t.res t.shr).emit (.forwarded t.die t.out t.vc t.pkt)

/-- Serve an output as long as a packet may leave. -/
def State.serveOut (s : State) (d : Die) (o : Egress) : Nat → State
  | 0 => s
  | n + 1 => match s.serve d o with
    | none => s
    | some t => (s.leave t).serveOut d o n

/-- A packet is queued for an output: HOPS, VCH and CE are set (R326, R329, R344), and the output serves what it may. A packet that must wait is held whole, and
its CRC is checked (R310). An endpoint takes it at once (log entry 34). `p` is the packet as it arrived, `pOut` with the way back in its route list (R331). -/
def State.sendOnAs (s : State) (d : Die) (came : Came) (p pOut : Packet) (o : Egress) : State :=
  let ch := s.charge came p
  match o with
  | .endpoint _ => (s.freeInput d came p ch.1 ch.2).emit (.forwarded d o pOut.vc pOut)
  | _ =>
    let p1 := s.outPacket d came pOut o
    let vc := s.outVc d came p1 o
    let tel (s : State) (f : PortTel → PortTel) : State := match o with | .port q => s.updTel q f | _ => s
    let mark := decide (s.ceThresh d < 64 * s.waiting d o vc)
    let p1 := { p1 with ce := p1.ce || mark }
    let t : Transit := ⟨d, came, p, p1, ch.1, ch.2, o, vc⟩
    if (match o with | .port _ => decide (24 < p.hops.toNat + 1) | _ => false) then (s.discard d came p .hops).freeInput d came p ch.1 ch.2
    else
      let s := if mark then tel s (fun t => { t with ce := telAdd t.ce 1 }) else s
      let s : State := State.holdOne { s with transits := s.transits ++ [t] } d p1
      let s := tel s (fun x => { x with depth := Store.set (fun _ => 0) x.depth vc (max (Store.get (fun _ => 0) x.depth vc) (s.waiting d o vc)) })
      let s := s.serveOut d o s.transits.length
      if !(s.transits.contains t) then s
      else match s.injection (.rtr d) 0 with
        | some _ => (s.injFired (.rtr d)).dropTransit t .crc
        | none => if p.crcOk then s else s.dropTransit t .crc

/-- A routed packet is queued for an output. -/
def State.sendOn (s : State) (d : Die) (came : Came) (p : Packet) (o : Egress) : State := s.sendOnAs d came p p o

/-- A packet that waits for another die of the package. -/
def Transit.inside (t : Transit) : Bool := match t.out with | .die _ => true | _ => false

/-- Credits and space that came back let packets leave that wait for another die (R317, R328). -/
def State.pumpInside (s : State) : Nat → State
  | 0 => s
  | n + 1 => match s.transits.find? (fun t => t.inside && s.ready t) with
    | none => s
    | some t => (s.serveOut t.die t.out s.transits.length).pumpInside n

/-- A packet arrives at a die: ACTIVITY of its epoch, and the telemetry of its port (R334, 10 R394). -/
def State.routerArrive (s : State) (d : Die) (came : Came) (p : Packet) : State :=
  let s := if p.drt then s else s.setFld (.rtr d) (F.RTR_INFLIGHT_ACTIVITY p.epo.toNat) 1
  match came.port? with
  | some q => s.updTel q (fun t => { t with pktRx := telAdd t.pktRx 1, byteRx := telAdd t.byteRx p.size })
  | none => s

/-- A discard on arrival, with the input space freed. -/
def State.arriveDrop (s : State) (d : Die) (came : Came) (p : Packet) (c : Cause) : State :=
  let ch := s.charge came p
  (s.discard d came p c).freeInput d came p ch.1 ch.2

/-- Whether a die's router or switch runs: a fenced compute die's switch goes on forwarding (R299); PD1 fenced, and dies in core reset, do not. -/
def State.routerUp (s : State) (d : Die) : Bool := !(s.inReset d || s.pathHeld d) && (d.val < 8 || !(s.fencedDies.contains d))

/-- The route at a die's router or switch (R321). -/
def State.routeAt (s : State) (d : Die) (came : Came) (p : Packet) : Route :=
  match Die.cd? d, Die.pd? d with
  | some c, _ => s.routeCd c came p
  | none, some k => s.routePd k p
  | none, none => .drop .noRoute

/-- PACKET_FORWARD: a routed packet's first flit arrives at a die's router or switch (R321–R329, R347). -/
def packetForward (d : Die) (came : Came) (p : Packet) (s : State) : State :=
  if !(s.routerUp d) || p.drt then s else
  let s := s.routerArrive d came p
  let s := if !p.headerOk then s.arriveDrop d came p .format
    else match s.routeAt d came p with
      | .drop c => s.arriveDrop d came p c
      | .out o => s.sendOn d came p o
  s.pumpInside s.transits.length

/-- The packet with entry i of its route list replaced (R331). -/
def Packet.setEntry (p : Packet) (i v : Nat) : Packet :=
  let n := leNat ((p.body.drop 16).take 15)
  let n' := n - ((n >>> (5 * i)) % 32) <<< (5 * i) + (v % 32) <<< (5 * i)
  { p with body := p.body.take 16 ++ leBytes n' 15 ++ p.body.drop 31 }

/-- The entry that names where a packet came from (R331). -/
def Came.reverse : Came → Nat
  | .inject e => if e.val = 2 then 26 else 24
  | .port q => q.val
  | .die _ _ _ => 25

/-- Where a directed packet goes from a die, as it leaves there, or why it is discarded: its entry is followed and overwritten with the way back (R330, R331). -/
def State.routeDirected (s : State) (d : Die) (came : Came) (p : Packet) : Packet × Route :=
  match Die.pd? d with
  | none => (p, match came with | .die x _ _ => .out (.die (if x = pd0 then pd1 else pd0)) | _ => .drop .noRoute)
  | some k =>
    let i := p.md.toNat
    let e := p.routeEntry i
    if !p.headerOk || 23 < i || 26 < e || (e = 26 && k = 1) then (p, .drop .format)
    else
      ({ p.setEntry i came.reverse with md := BitVec.ofNat 8 (i + 1) },
        if e = 24 then .out (.endpoint 1)
        else if e = 26 then .out (.endpoint 2)
        else if h : e < 24 then
          if Port.pdie ⟨e, h⟩ = k && (s.lnk ⟨e, h⟩ = lkHELD || s.lnk ⟨e, h⟩ = lkACTIVE) then .out (.port ⟨e, h⟩) else .drop .noRoute
        else s.cross k p)

/-- DIRECTED_FORWARD: a directed packet arrives and follows its list (R330, R331). -/
def directedForward (d : Die) (came : Came) (p : Packet) (s : State) : State :=
  if !(s.routerUp d) || !p.drt then s else
  let s := s.routerArrive d came p
  let (p1, r) := s.routeDirected d came p
  let s := match r with
    | .drop c => s.arriveDrop d came p c
    | .out o => s.sendOnAs d came p p1 o
  s.pumpInside s.transits.length

/-- PACKET_LIFETIME_EXPIRE: a packet has waited 2 µs (R335). -/
def packetLifetimeExpire (n : Nat) (s : State) : State :=
  match s.transits[n]? with
  | none => s
  | some t =>
    let s := s.dropTransit t .lifetime
    s.pumpInside s.transits.length

/-- The cumulative counts a LINK_CREDIT carries, and the difference between successive counts, modulo 2^16 (R319). -/
def creditsOf (b : List Byte) : Credits :=
  let g (i : Nat) : Nat := imgNat b (2 * i) 2
  ⟨g 0, g 1, g 2, g 3, g 4, g 5, g 6⟩
def diff16 (a b : Nat) : Nat := (a % 0x10000 + 0x10000 - b % 0x10000) % 0x10000
def Credits.zip (f : Nat → Nat → Nat) (a b : Credits) : Credits :=
  ⟨f a.r0 b.r0, f a.r1 b.r1, f a.r2 b.r2, f a.r3 b.r3, f a.r4 b.r4, f a.r5 b.r5, f a.sh b.sh⟩
def Credits.total (c : Credits) : Nat := c.r0 + c.r1 + c.r2 + c.r3 + c.r4 + c.r5 + c.sh

/-- Packets whose credit has come back, oldest first: the epochs to count down, what stays, and the flits left over (R334; log entry 35). -/
def returned : List (Nat × Bool) → Nat → List Bool × List (Nat × Bool) × Nat
  | [], n => ([], [], n)
  | (f, e) :: r, n => if f ≤ n then let (es, rest, m) := returned r (n - f); (e :: es, rest, m) else ([], (f, e) :: r, n)

/-- A LINK_CREDIT's fixed fields (R319). -/
def Packet.isLinkCredit (p : Packet) : Bool :=
  p.op == opLINK_CREDIT && p.mc == 0 && !p.cls && p.len == 0 && p.dst == 0 && p.src == 0 && p.xid == 0 && p.seq == 0 && p.addr == 0 &&
    p.part == 0xFF && !p.epo && !p.vch && !p.ce && !p.ece && p.hops == 0

/-- LINK_CREDIT: the transmitter sets its credits from the difference between successive counts (R319). -/
def linkCredit (q : Port) (p : Packet) (s : State) : State :=
  let d := PDie.die (Port.pdie q)
  if !(s.portUp q) || !(s.lnk q = lkHELD || s.lnk q = lkACTIVE) then s else
  let s := s.updTel q (fun t => { t with pktRx := telAdd t.pktRx 1, byteRx := telAdd t.byteRx p.size })
  if !p.crcOk then s.discard d (.port q) p .crc
  else if !p.isLinkCredit then s.discard d (.port q) p .format
  else
    let x := s.port q
    let new := creditsOf p.body
    let df := Credits.zip diff16 new x.seen
    let (es, away, back) := returned x.away (x.back + df.total)
    let s := s.setPort q { x with cred := Credits.zip (· + ·) x.cred df, seen := new, away := away, back := if away.isEmpty then 0 else back }
    let s := es.foldl (fun t e => t.dropOne d e) s
    let s := s.serveOut d (.port q) s.transits.length
    s.pumpInside s.transits.length

/-- The LINK_CREDIT packet of a receiver's counts (R319). -/
def linkCreditPacket (c : Credits) : Packet :=
  Packet.seal { op := opLINK_CREDIT, part := 0xFF
                body := leBytes c.r0 2 ++ leBytes c.r1 2 ++ leBytes c.r2 2 ++ leBytes c.r3 2 ++ leBytes c.r4 2 ++ leBytes c.r5 2 ++ leBytes c.sh 2 ++
                  List.replicate 18 0 }

/-- LINK_CREDIT_SEND: the receiver sends its cumulative counts (R319). -/
def linkCreditSend (q : Port) (s : State) : State :=
  if !(s.portUp q) || !(s.lnk q = lkHELD || s.lnk q = lkACTIVE) then s else
  s.putOut q (linkCreditPacket (s.port q).freed)

end Sys2Proof.Machine
end

