-- ==== Sys2Proof/Machine/Agent.lean ====
section
/-! DEFINITION. The fabric agent: requests and responses, sessions and authentication, port commands, tables and epochs, keys, telemetry
and events (10 R373–R405). -/

namespace Sys2Proof.Machine

/-- Response status codes (R375). -/
def agOK : Nat := 0
def agUNSUPPORTED : Nat := 1
def agFORMAT : Nat := 2
def agAUTH : Nat := 3
def agNOSESSION : Nat := 4
def agSTALE : Nat := 5
def agSTATE : Nat := 6
def agBUSY : Nat := 7
def agRANGE : Nat := 8
def agCRC : Nat := 9

/-- A session of an agent. -/
def AgentSt.sess (a : AgentSt) (slot : Nat) : Option Session := if slot = 0 then a.sess0 else if slot = 1 then a.sess1 else none
def AgentSt.setSess (a : AgentSt) (slot : Nat) (v : Option Session) : AgentSt :=
  if slot = 0 then { a with sess0 := v } else if slot = 1 then { a with sess1 := v } else a

/-- AGT_STATE shows the open sessions (R405). -/
def State.setSess (s : State) (k : PDie) (slot : Nat) (v : Option Session) : State :=
  (s.setAgent k ((s.agent k).setSess slot v)).setFld (.agt k) (if slot = 0 then F.AGT_STATE_SESS0 else F.AGT_STATE_SESS1) v.isSome.toNat

/-- The route list of a directed packet reversed hop by hop: entries 28–31 go with the entry that follows them (08 R332). -/
def hopsOf : List Nat → List (List Nat)
  | [] => []
  | [a] => [[a]]
  | a :: b :: r => if 28 ≤ a && a ≤ 31 then [a, b] :: hopsOf r else [a] :: hopsOf (b :: r)
def reverseRoute (l : List Nat) : List Nat := ((hopsOf l).reverse).flatten

/-- A route list as bytes 48–62 of a packet (08 R330). -/
def routeBytes (l : List Nat) : List Byte := leBytes ((l.zipIdx.map (fun e => (e.1 % 32) <<< (5 * e.2))).sum) 15

/-- The recorded list of a directed packet that has arrived: the entries before RPTR (08 R331). -/
def Packet.recorded (p : Packet) : List Nat := (List.range (min 24 p.md.toNat)).map p.routeEntry

/-- A payload padded with zeros to whole 64-byte units, so that `tail` stands in its last bytes (R377, R405). -/
def padPayload (data : List Byte) (tail : Nat) : List Byte :=
  let n := 64 * max 1 (ceilDiv (data.length + tail) 64)
  data ++ List.replicate (n - tail - data.length) 0

/-- The 12-byte IV of a session: its salt, then the counter (R377). -/
def sessionIv (salt : BitVec 32) (ctr : Nat) : BitVec 96 := gcmIv salt ctr

/-- The counter of a response repeats its request's with bit 63 set; that of an event has bits 63 and 62 set (R377, R378). -/
def respCtr (ctr : Nat) : Nat := ctr + 2 ^ 63
def eventCtr (n : Nat) : Nat := 2 ^ 63 + 2 ^ 62 + n

/-- A data packet of a session with its trailer: counter, slot and tag over header and payload (R377). -/
def authPacket (p : Packet) (x : Session) (slot ctr : Nat) (data : List Byte) : Packet :=
  let pay := padPayload data 32 ++ leBytes ctr 8 ++ [BitVec.ofNat 8 slot] ++ List.replicate 7 0
  let p := { p with cls := true, len := BitVec.ofNat 6 ((pay.length + 16) / 64), body := p.body.take 32 ++ pay }
  let v := p.crcView
  let tag := Config.gcmTag x.key (sessionIv x.salt ctr) (v.head ++ v.body) []
  Packet.seal { p with body := p.body ++ leBytes tag.toNat 16 }

/-- The header of a response to a request at an endpoint: directed along the reversed list when the request was (R373, R374). -/
def State.mgtReply (s : State) (m : MgtIn) (e st : Nat) (arg : Nat := 0) : Packet :=
  let q := m.pkt
  let rt := if q.drt then routeBytes (reverseRoute q.recorded) else List.replicate 15 0
  { mc := 0, cls := true, len := 0, op := q.op + 0x40, drt := q.drt, dst := q.src, src := s.coord (PDie.die m.k) e, part := 0xFF
    seq := q.seq, xid := q.xid, addr := BitVec.ofNat 64 (st + arg <<< 8), body := List.replicate 16 0 ++ rt ++ [0] }

/-- A packet leaves the agent or the Summit endpoint of a port die the way its request came (R374). -/
def State.mgtSend (s : State) (k : PDie) (net : Bool) (p : Packet) : State :=
  if net then s.emit (.mgtNet (Packet.seal p)) else s.sendFrom (PDie.die k) p

/-- An unauthenticated response (R373). -/
def openPacket (p : Packet) (data : List Byte) : Packet :=
  let pay := padPayload data 0
  Packet.seal { p with len := BitVec.ofNat 6 (pay.length / 64), body := p.body.take 32 ++ pay }

/-- What arrives at an agent or Summit endpoint: its CRC and format hold (08 R310, R347). Over the management network HOPS and the route
list are ignored (R374). -/
def State.mgtTakes (s : State) (m : MgtIn) : State × Bool :=
  let d := PDie.die m.k
  if s.inReset d || s.fencedDies.contains d || (m.net && m.k = 1) || (!m.net && s.pathHeld d) then (s, false)
  else if !m.pkt.crcOk then (s.bump (.rtr d) C.RTR_CRC 1, false)
  else if !(m.pkt.headerOk && m.pkt.opOk) then (s.bump (.rtr d) C.RTR_FORMAT 1, false)
  else (s, true)

/-- A trailer (R377): counter, slot, and whether its layout holds. -/
def trailerOf (p : Packet) : Option (Nat × Nat) :=
  let pay := p.payload
  let t := pay.drop (pay.length - 32)
  let ctr := imgNat t 0 8
  let slot := imgNat t 8 1
  if pay.length < 64 || !(imgZero t 9 7) || 1 < slot || ctr.testBit 63 || ctr.testBit 62 then none else some (ctr, slot)

/-- The payload of an authenticated packet before its trailer. -/
def Packet.args (p : Packet) : List Byte := p.payload.take (p.payload.length - 32)

/-- Where a counter stands against a session's replay window (R379). -/
inductive Ctr where
  | fresh | inWindow | cached (resp : List Byte) | stale
  deriving DecidableEq, Repr

/-- The judgement of R379 on a counter: H is `top`; bit i of `window` marks H − i. -/
def Session.judge (x : Session) (ctr : Nat) : Ctr :=
  if ctr = 0 then .stale
  else if x.top < ctr then .fresh
  else
    let seen := x.window.testBit (x.top - ctr)
    if max 1 (x.top - 63) ≤ ctr && !seen then .inWindow
    else if seen then
      match x.cache.find? (fun e => e.1 == ctr) with
      | some e => .cached e.2
      | none => .stale
    else .stale

/-- A counter is marked seen, H follows it, and its response is cached among the last 64 (R379). -/
def Session.mark (x : Session) (ctr : Nat) (resp : List Byte) : Session :=
  let top := max x.top ctr
  let w := if x.top < ctr then ((if ctr - x.top < 64 then x.window <<< (ctr - x.top) else 0) + 1) % 2 ^ 64 else x.window ||| 2 ^ (x.top - ctr)
  { x with top := top, window := w, cache := (x.cache ++ [(ctr, resp)]).drop (x.cache.length + 1 - 64) }

/-- A refusal without authentication: endpoint `e` answers status `st` (R375). -/
def State.authRefuse (s : State) (m : MgtIn) (e st : Nat) : State × Packet := (s, openPacket (s.mgtReply m e st) [])

/-- An authenticated answer under session `x` of `slot` to the request of counter `ctr` (R377). -/
def State.authAnswer (s : State) (m : MgtIn) (e : Nat) (x : Session) (slot ctr st : Nat) (data : List Byte) : Packet :=
  authPacket (s.mgtReply m e st) x slot (respCtr ctr) data

/-- What a request that has been executed leaves: its counter marked and its answer cached in the session, and the answer (R379). -/
def State.authRan (s : State) (m : MgtIn) (e : Nat) (put : State → Nat → Session → State) (x : Session) (slot ctr st : Nat) (data : List Byte) : State × Packet :=
  (put s slot (x.mark ctr (s.authAnswer m e x slot ctr st data).bytes), s.authAnswer m e x slot ctr st data)

/-- The check of R379 on a request under session `x`, and its execution by `f`. -/
def State.authUnder (s : State) (m : MgtIn) (e : Nat) (put : State → Nat → Session → State) (count : State → Nat → State)
    (f : State → Session → State × Nat × List Byte) (x : Session) (slot ctr : Nat) : State × Packet :=
  if !m.valid then (count s C.AGT_AUTH_FAIL).authRefuse m e agAUTH
  else match x.judge ctr with
    | .stale => (count s C.AGT_STALE, (count s C.AGT_STALE).authAnswer m e x slot ctr agSTALE [])
    | .cached r => (count s C.AGT_REPLAY, Packet.ofBytes r)
    | .fresh | .inWindow => (f s x).1.authRan m e put x slot ctr (f s x).2.1 (f s x).2.2

/-- The check of R379 on an authenticated request, and its execution: `sess` is the session of the named slot, `put` stores it back, `f`
executes. Answers the state and the response, if any. -/
def State.authRun (s : State) (m : MgtIn) (e : Nat) (sess : Nat → Option Session) (put : State → Nat → Session → State)
    (count : State → Nat → State) (f : State → Session → State × Nat × List Byte) : State × Packet :=
  if !m.pkt.cls then s.authRefuse m e agFORMAT
  else match trailerOf m.pkt with
    | none => s.authRefuse m e agFORMAT
    | some (ctr, slot) => match sess slot with
      | none => s.authRefuse m e agNOSESSION
      | some x => s.authUnder m e put count f x slot ctr

/-- A command the agent may execute in the package's present state: in the safe state PD0's agent answers identity and telemetry reads and
readmission over the management network only (01 R39, R404). -/
def State.agentServes (s : State) (m : MgtIn) (openOp : Bool) : Bool :=
  s.fld .flt F.FLT_STATE_STATE = hubNORMAL || (openOp && m.net)

/-- A request taken is counted, and holds an entry of the store while it is executed (R399, R405). -/
def State.agentCount (s : State) (m : MgtIn) : State :=
  (s.bump (.agt m.k) C.AGT_REQ 1).setFld (.agt m.k) F.AGT_STORE_HWM (max 1 (s.fld (.agt m.k) F.AGT_STORE_HWM))

/-- An operation as executed, or STATE where the agent does not serve it in the package's present state (R404). -/
def State.agentServed (s : State) (m : MgtIn) (openOp : Bool) (f : State → Session → State × Nat × List Byte) (x : Session) : State × Nat × List Byte :=
  if s.agentServes m openOp then f s x else (s, agSTATE, [])

/-- An authenticated operation at an agent, executed and answered (R379). -/
def State.agentAuth (s : State) (m : MgtIn) (openOp : Bool) (f : State → Session → State × Nat × List Byte) : State :=
  let r := s.authRun m 1 ((s.agent m.k).sess ·) (fun s slot x => s.setAgent m.k ((s.agent m.k).setSess slot (some x)))
    (fun s c => s.bump (.agt m.k) c 1) (fun s x => s.agentServed m openOp f x)
  r.1.mgtSend m.k m.net r.2

/-- An operation that needs no session, executed and answered (R373). -/
def State.agentPlain (s : State) (m : MgtIn) (data openOp : Bool) (f : State → Session → State × Nat × List Byte) : State :=
  if m.pkt.cls != data then s.mgtSend m.k m.net (openPacket (s.mgtReply m 1 agFORMAT) [])
  else
    let r := s.agentServed m openOp f { serial := 0, primary := false }
    r.1.mgtSend m.k m.net (openPacket (r.1.mgtReply m 1 r.2.1) r.2.2)

/-- A request at an agent: taken, counted, checked, executed, answered (R373–R380, R399). `authd`: the operation is authenticated; `data`: its
request is a data packet; `openOp`: it is answered in the safe state. -/
def State.agentOp (s : State) (m : MgtIn) (op : BitVec 8) (authd data openOp : Bool) (f : State → Session → State × Nat × List Byte) : State :=
  match s.mgtTakes m with
  | (s, ok) =>
    if !ok || m.pkt.op != op then s
    else if authd then (s.agentCount m).agentAuth m openOp f
    else (s.agentCount m).agentPlain m data openOp f

/-- Bits [hi:lo] of a request's ADDR, and whether the bits above `n` are zero (R382). -/
def Packet.arg (p : Packet) (hi lo : Nat) : Nat := bits p.addr.toNat hi lo
def Packet.argsUpTo (p : Packet) (n : Nat) : Bool := p.addr.toNat >>> n == 0

/-- The form of a control request whose arguments are the low `n` bits of ADDR: the other bits and the payload area are zero (R375, R382). -/
def Packet.ctlForm (p : Packet) (n : Nat) : Bool := p.argsUpTo n && (p.body.take (if p.drt then 16 else 32)).all (· == 0)

/-- The form of an authenticated request with `used` bytes of payload before its trailer: the other bits and bytes are zero (R375, R382, R405). -/
def Packet.authForm (p : Packet) (n used : Nat) : Bool := p.argsUpTo n && decide (used ≤ p.args.length) && (p.args.drop used).all (· == 0)

/-- A port of an agent's die by its port number (R382, R375). -/
def portOn (k : PDie) (n : Nat) : Option Port := if h : n < 24 then (if Port.pdie ⟨n, h⟩ = k then some ⟨n, h⟩ else none) else none

/-- The twelve ports of a port die in ascending order. -/
def diePorts (k : PDie) : List Port := (List.range 12).map (portAt k)

/-- The identity record (R383). -/
def State.identity (s : State) (k : PDie) : List Byte :=
  let a := s.agent k
  leBytes s.fuses.serial.toNat 16 ++ [BitVec.ofNat 8 k.val, BitVec.ofNat 8 (8 + k.val), 0x11, 12] ++
    leBytes (s.fld (.agt k) F.AGT_COORD_COORD) 4 ++
    [BitVec.ofNat 8 (s.fld (.agt k) F.AGT_STATE_ASSIGNED + a.sess0.isSome.toNat <<< 1 + a.sess1.isSome.toNat <<< 2 +
      (if s.fld .flt F.FLT_STATE_STATE = hubNORMAL then 0 else 1 <<< 3)), BitVec.ofNat 8 s.fuses.variant] ++
    leBytes 4096 2 ++ digest16 s.plan ++ (leBytes s.fwDigest.toNat 64).take 16 ++ List.replicate 4 0

/-- IDENTIFY (R383). -/
def identify (m : MgtIn) (s : State) : State :=
  s.agentOp m 0x80 false false true (fun s _ => if m.pkt.ctlForm 0 then (s, agOK, s.identity m.k) else (s, agFORMAT, []))

/-- A neighbour record (R384). -/
def State.neighbour (s : State) (q : Port) : List Byte :=
  let pg : Page := .lnk q
  let v := s.flag pg F.LNK_PARTNER_VALID
  let b (f : Field) : Byte := if v then BitVec.ofNat 8 (s.fld pg f) else 0
  [BitVec.ofNat 8 q.val, BitVec.ofNat 8 (s.lnk q), BitVec.ofNat 8 (s.fld pg F.LNK_STATE_CAUSE), b F.LNK_STATE_NEG_VER, b F.LNK_PARTNER_ROLE,
    b F.LNK_PARTNER_PN, b F.LNK_PARTNER_PROFILE, 0] ++
    (if v then leBytes (s.port q).serial.toNat 16 ++ ((s.port q).planDigest ++ List.replicate 8 0).take 8 else List.replicate 24 0)

/-- The ports a request names: `count` of the die's ports in ascending order from the first (R382; log entry 36). -/
def portsFrom (k : PDie) (first count : Nat) : Option (List Port) :=
  match portOn k first with
  | none => none
  | some q =>
    let l := (diePorts k).dropWhile (· != q)
    if count ≤ l.length then some (l.take count) else none

/-- PORT_LIST (R384). -/
def portList (m : MgtIn) (s : State) : State :=
  s.agentOp m 0x81 false false false (fun s _ =>
    let n := m.pkt.arg 15 8
    if !(m.pkt.ctlForm 16) then (s, agFORMAT, [])
    else if n = 0 || 64 < n then (s, agRANGE, [])
    else match portsFrom m.k (m.pkt.arg 7 0) n with
      | none => (s, agRANGE, [])
      | some l => (s, agOK, l.flatMap s.neighbour))

/-- 36 bytes of session key and salt from a shared secret (14 R541). -/
def sessionKeys (priv em : BitVec 256) (emFirst : Bool) : BitVec 256 × BitVec 32 :=
  let sh := Config.x25519 priv em
  let pub := Config.x25519 priv 9
  let salt := if emFirst then leBytes em.toNat 32 ++ leBytes pub.toNat 32 else leBytes pub.toNat 32 ++ leBytes em.toNat 32
  let o := Config.hkdf (leBytes sh.toNat 32) salt ("GY880 session key".toList.map (fun c => BitVec.ofNat 8 c.toNat)) 36
  (BitVec.ofNat 256 (imgNat o 0 32), BitVec.ofNat 32 (imgNat o 32 4))

/-- The seed of the identity key (14 R531). -/
def State.identitySeed (s : State) : BitVec 256 :=
  BitVec.ofNat 256 (imgNat (Config.hkdf (leBytes s.fuses.secret.toNat 32) [] ("GY880 identity".toList.map (fun c => BitVec.ofNat 8 c.toNat)) 64) 0 32)

/-- A fresh 256-bit random value (log entry 6). -/
def State.random256 (s : State) : BitVec 256 × State :=
  let (a, s) := s.free
  let (b, s) := s.free
  let (c, s) := s.free
  let (d, s) := s.free
  (a ++ b ++ c ++ d, s)

/-- The slot a valid open takes: that of the same signer, slot 0 if empty, slot 1 if empty; none when both hold other signers (R376). -/
def AgentSt.openSlot (a : AgentSt) (ser : BitVec 128) : Option Nat :=
  if a.sess0.any (fun x => x.serial == ser) then some 0
  else if a.sess1.any (fun x => x.serial == ser) then some 1
  else if a.sess0.isNone then some 0 else if a.sess1.isNone then some 1 else none

/-- The answer of a session's target: its ephemeral key, its serial, its signature (14 R541). -/
def State.openAnswer (s : State) (em : BitVec 256) (ser : BitVec 128) : State × Session × List Byte :=
  let (priv, s) := s.random256
  let pub := Config.x25519 priv 9
  let (key, salt) := sessionKeys priv em true
  let text := ("GY880 session".toList.map (fun c => BitVec.ofNat 8 c.toNat)) ++ leBytes pub.toNat 32 ++ leBytes em.toNat 32 ++ leBytes s.fuses.serial.toNat 16 ++ leBytes ser.toNat 16
  let sig := Config.ed25519Sign s.identitySeed text
  (s, { serial := ser, primary := ser == planPrimary s.rolePlan, key := key, salt := salt }, leBytes pub.toNat 32 ++ leBytes s.fuses.serial.toNat 16 ++ leBytes sig.toNat 64)

/-- SESSION_OPEN (R376, R382, 14 R541): `valid` says that the signature and the certificate chain verify. It is served in every state of the hub, since a
readmission command needs a session (01 R39; log entry 46). -/
def sessionOpen (m : MgtIn) (s : State) : State :=
  s.agentOp m 0x82 false true true (fun s _ =>
    let pay := m.pkt.payload
    let em : BitVec 256 := BitVec.ofNat 256 (imgNat pay 0 32)
    let ser : BitVec 128 := BitVec.ofNat 128 (imgNat pay 32 16)
    if pay.length < 112 || !(m.pkt.argsUpTo 0) then (s, agFORMAT, [])
    else if !m.valid || s.plan.isEmpty || !(ser == planPrimary s.rolePlan || ser == planStandby s.rolePlan) then (s, agAUTH, [])
    else match (s.agent m.k).openSlot ser with
      | none => (s, agSTATE, [])
      | some slot =>
        let (s, x, ans) := s.openAnswer em ser
        (s.setSess m.k slot (some x), agOK, ans))

/-- The session under which an authenticated request of operation `op` is executed at an agent, and its slot (R379); none where it is not. -/
def State.agentRuns (s : State) (m : MgtIn) (op : BitVec 8) : Option (Session × Nat) :=
  let (w, ok) := s.mgtTakes m
  let u := w.agentCount m
  if !ok || m.pkt.op != op || !m.pkt.cls || !m.valid || !(u.agentServes m false) then none
  else match trailerOf m.pkt with
    | none => none
    | some (ctr, slot) => match (u.agent m.k).sess slot with
      | none => none
      | some x => if x.judge ctr = .fresh || x.judge ctr = .inWindow then some (x, slot) else none

/-- SESSION_CLOSE: the request's slot is cleared after the response (R381). -/
def sessionClose (m : MgtIn) (s : State) : State :=
  let t := s.agentOp m 0x83 true true false (fun s _ => if m.pkt.authForm 0 0 then (s, agOK, []) else (s, agFORMAT, []))
  match s.agentRuns m 0x83 with
  | some (_, slot) => if m.pkt.authForm 0 0 then t.setSess m.k slot none else t
  | none => t

/-- COORD_SET: the package coordinate for all ten dies, and the manager pair (R385). -/
def coordSet (m : MgtIn) (s : State) : State :=
  s.agentOp m 0x84 true true false (fun s _ =>
    let co := m.pkt.arg 31 0
    let c : Coord := BitVec.ofNat 32 co
    if !(m.pkt.authForm 32 8) || c.d != 0 || c.e != 0 || bits co 3 0 != 0 || bits co 31 30 != 0 || 3 < c.x || 3 < c.y || 3 < c.p then (s, agFORMAT, [])
    else if allPorts.any (fun q => s.lnk q == lkACTIVE) && (s.fld (.agt 0) F.AGT_STATE_ASSIGNED = 0 || s.fld (.agt 0) F.AGT_COORD_COORD != co) then
      (s, agSTATE, [])
    else
      let s := [(0 : PDie), 1].foldl (fun t k =>
        (((t.setFld (.agt k) F.AGT_COORD_COORD co).setFld (.agt k) F.AGT_STATE_ASSIGNED 1).setFld (.agt k) (F.AGT_MGR_COORD 0) (imgNat m.pkt.args 0 4)).setFld
          (.agt k) (F.AGT_MGR_COORD 1) (imgNat m.pkt.args 4 4)) s
      (s, agOK, []))

/-- PORT_ATTR: the RTR_PORT value of one port, while it is not ACTIVE (R382, 08 R351). -/
def portAttr (m : MgtIn) (s : State) : State :=
  s.agentOp m 0x85 true true false (fun s _ =>
    let v := imgNat m.pkt.args 0 4
    if !(m.pkt.authForm 8 4) || v >>> 9 != 0 then (s, agFORMAT, [])
    else match portOn m.k (m.pkt.arg 7 0) with
      | none => (s, agRANGE, [])
      | some q => if s.lnk q = lkACTIVE then (s, agSTATE, [])
        else (s.wr (Page.base (.rtr (PDie.die m.k)) + 0x120 + 4 * Port.local q) (BitVec.ofNat 32 v), agOK, []))

/-- A port command (R386): through LNK_CMD only commands 1–5 exist (07 R301); a PORT_CMD packet of another command is not this one. -/
def portCmd (c : PortCmd) (src : CmdSrc) (s : State) : State :=
  match src with
  | .lnkCmd q => if s.portUp q && decide (c.code ≤ 5) && s.portAccepts q c then s.portDo q c false else s
  | .agent m =>
    if m.pkt.arg 11 8 != c.code then s else
    s.agentOp m 0x86 true true false (fun s _ =>
      if !(m.pkt.authForm 12 0) then (s, agFORMAT, [])
      else match portOn m.k (m.pkt.arg 7 0) with
        | none => (s, agRANGE, [])
        | some q =>
          if (c = .darkOn || c = .darkOff) && !(q.isOpt) then (s, agRANGE, [])
          else if s.portAccepts q c then (s.portDo q c true, agOK, []) else (s, agSTATE, []))

/-- The table a TABLE_WRITE or TABLE_COMMIT names: the die it lies on, or the refusal (R382, R388). -/
def tableDie (k : PDie) (p : Packet) : Option Die :=
  if p.arg 3 1 = 0 then (if p.arg 7 4 = 0 then some (PDie.die k) else none)
  else if p.arg 3 1 = 1 then (if h : p.arg 7 4 < 8 ∧ k = 0 then some ⟨p.arg 7 4, by omega⟩ else none)
  else none

/-- TABLE_WRITE: entries into an epoch no source of the die stamps, whose VALID bit clears first (R387). -/
def tableWrite (m : MgtIn) (s : State) : State :=
  s.agentOp m 0x87 true true false (fun s _ =>
    let e := m.pkt.arg 0 0
    let ix := m.pkt.arg 19 8
    let n := m.pkt.arg 28 20
    if !(m.pkt.argsUpTo 29) then (s, agFORMAT, [])
    else match tableDie m.k m.pkt with
      | none => (s, agRANGE, [])
      | some d =>
        if 504 < n || 4096 < ix + n then (s, agRANGE, [])
        else if !(m.pkt.authForm 29 (4 * n)) then (s, agFORMAT, [])
        else if s.fld (.rtr d) F.RTR_EPOCH_CUR = e || s.fld (.rtr d) (F.RTR_INFLIGHT_COUNT e) != 0 then (s, agSTATE, [])
        else
          let s := s.setFld (.rtr d) (if e = 1 then F.RTR_EPOCH_VALID1 else F.RTR_EPOCH_VALID0) 0
          let ws := (List.range n).map (fun i => (BitVec.ofNat 32 (imgNat m.pkt.args (4 * i) 4) : Word))
          ({ s with tables := Store.setList (fun _ => 0) s.tables (tableKey d (e = 1) ix) ws }, agOK, []))

/-- The 4,096 entries of a table, little-endian, in index order (R382). -/
def State.tableBytes (s : State) (d : Die) (e : Bool) : List Byte :=
  (Store.getList (fun _ => (0 : Word)) s.tables (tableKey d e 0) 4096).flatMap (fun w => leBytes w.toNat 4)

/-- TABLE_COMMIT: the CRC of the table as written sets its VALID bit, or it stays clear (R388). -/
def tableCommit (m : MgtIn) (s : State) : State :=
  s.agentOp m 0x88 true true false (fun s _ =>
    let e := m.pkt.arg 0 0
    if !(m.pkt.authForm 20 4) then (s, agFORMAT, [])
    else match tableDie m.k m.pkt with
      | none => (s, agRANGE, [])
      | some d =>
        if (crc32 (s.tableBytes d (e = 1))).toNat = imgNat m.pkt.args 0 4 then
          (s.setFld (.rtr d) (if e = 1 then F.RTR_EPOCH_VALID1 else F.RTR_EPOCH_VALID0) 1, agOK, [])
        else (s, agCRC, []))

/-- Dies an agent serves: PD0's agent PD0 and the compute dies, PD1's agent PD1 (R391). -/
def serves (k : PDie) : List Die := if k = 0 then [0, 1, 2, 3, 4, 5, 6, 7, 8] else [9]

/-- EPOCH_SET: RTR_EPOCH.CUR of every die in the mask, when the epoch's table is VALID on each (R390). -/
def epochSet (m : MgtIn) (s : State) : State :=
  s.agentOp m 0x89 true true false (fun s _ =>
    let e := m.pkt.arg 0 0
    let ds := allDies.filter (fun d => (m.pkt.arg 10 1).testBit d.val)
    if !(m.pkt.authForm 11 0) then (s, agFORMAT, [])
    else if ds.any (fun d => !((serves m.k).contains d)) then (s, agRANGE, [])
    else if ds.all (fun d => s.tableValid d (e = 1)) then (ds.foldl (fun t d => t.setFld (.rtr d) F.RTR_EPOCH_CUR e) s, agOK, [])
    else (s, agSTATE, []))

/-- INFLIGHT_READ: both counts of every die served, with ACTIVITY cleared as they are read (R391). -/
def inflightRead (m : MgtIn) (s : State) : State :=
  s.agentOp m 0x8A false false false (fun s _ =>
    if !(m.pkt.ctlForm 0) then (s, agFORMAT, [])
    else
      let data := (serves m.k).flatMap (fun d => leBytes (s.rd (Page.base (.rtr d) + 0x108)).toNat 4 ++ leBytes (s.rd (Page.base (.rtr d) + 0x10C)).toNat 4)
      let s := (serves m.k).foldl (fun t d => (t.setFld (.rtr d) (F.RTR_INFLIGHT_ACTIVITY 0) 0).setFld (.rtr d) (F.RTR_INFLIGHT_ACTIVITY 1) 0) s
      (s, agOK, data))

/-- The key and salt of a KEY_LOAD blob, decrypted under the wrap key of the session (14 R542). -/
def unwrapKey (x : Session) (blob : List Byte) (port dir slot : Nat) : BitVec 256 × BitVec 32 :=
  let wrap := BitVec.ofNat 256 (imgNat (Config.hkdf (leBytes x.key.toNat 32) [] ("GY880 link wrap".toList.map (fun c => BitVec.ofNat 8 c.toNat)) 32) 0 32)
  let iv := BitVec.ofNat 96 (imgNat blob 36 8 + port <<< 64 + dir <<< 72 + slot <<< 80)
  let t := Config.gcmCrypt wrap iv (blob.take 36)
  (BitVec.ofNat 256 (imgNat t 0 32), BitVec.ofNat 32 (imgNat t 32 4))

/-- KEY_LOAD: the blob is unwrapped and the slot loaded unless it is in use; a receive load sends KEY_READY (R392). `blobOk`: the blob's tag
verifies. -/
def keyLoad (m : MgtIn) (blobOk : Bool) (s : State) : State :=
  s.agentOp m 0x8B true true false (fun s x =>
    let j := decide (m.pkt.arg 9 9 = 1)
    let rx := decide (m.pkt.arg 8 8 = 1)
    if !(m.pkt.authForm 10 64) then (s, agFORMAT, [])
    else match portOn m.k (m.pkt.arg 7 0) with
      | none => (s, agRANGE, [])
      | some q =>
        if !blobOk then (s, agAUTH, [])
        else
          let (key, salt) := unwrapKey x m.pkt.args q.val (m.pkt.arg 8 8) (m.pkt.arg 9 9)
          let pt := s.port q
          if rx then
            let busy := match pt.rxKey j with
              | some r => r.last.isSome && decide ((s.now (PDie.die m.k) - r.seenAt).toNat ≤ 2000000)
              | none => false
            if busy then (s, agSTATE, [])
            else ((s.setPort q (pt.setRx j (some { key := key, salt := salt }))).sendThrice q (recordBytes 1 [BitVec.ofNat 8 (m.pkt.arg 9 9)]), agOK, [])
          else if s.txSlot q = j then (s, agSTATE, [])
          else (s.setPort q (pt.setTx j (some { key := key, salt := salt })), agOK, []))

/-- KEY_CLEAR: refused for the transmit slot in use and the receive slot of the last accepted frame (R393). -/
def keyClear (m : MgtIn) (s : State) : State :=
  s.agentOp m 0x8C true true false (fun s _ =>
    let j := decide (m.pkt.arg 9 9 = 1)
    let rx := decide (m.pkt.arg 8 8 = 1)
    if !(m.pkt.authForm 10 0) then (s, agFORMAT, [])
    else match portOn m.k (m.pkt.arg 7 0) with
      | none => (s, agRANGE, [])
      | some q =>
        let pt := s.port q
        if rx then
          if s.flag (.lnk q) F.LNK_STATE_KEYED_RX && decide (s.flag (.lnk q) F.LNK_STATE_KIDX_RX = j) then (s, agSTATE, [])
          else (s.setPort q (pt.setRx j none), agOK, [])
        else if s.txSlot q = j then (s, agSTATE, [])
        else (s.setPort q (pt.setTx j none), agOK, []))

/-- KEY_SWITCH: commands the change to the other transmit slot, refused until R279 allows it (R393). -/
def keySwitch (m : MgtIn) (s : State) : State :=
  s.agentOp m 0x8D true true false (fun s _ =>
    let j := decide (m.pkt.arg 9 9 = 1)
    if !(m.pkt.authForm 10 0) then (s, agFORMAT, [])
    else match portOn m.k (m.pkt.arg 7 0) with
      | none => (s, agRANGE, [])
      | some q =>
        if m.pkt.arg 8 8 = 1 || s.txSlot q = j || !(s.mayChange q) then (s, agSTATE, [])
        else (s.updPort q (fun x => { x with switchTo := some j.toNat }), agOK, []))

/-- A telemetry counter word: 48 bits and the overflow flag in bit 63 (R394). -/
def telWord (n : Nat) : Nat := n + (if n = 0xFFFFFFFFFFFF then 1 <<< 63 else 0)

/-- Word w of a port's telemetry record (R394). -/
def State.telemetry (s : State) (q : Port) (w : Nat) : Nat :=
  let t := (s.port q).tel
  if w = 0 then q.val + (s.lnk q) <<< 8 + 625 <<< 16
  else if w = 1 then (s.now (PDie.die (Port.pdie q))).toNat
  else if w = 2 then telWord t.pktTx else if w = 3 then telWord t.pktRx else if w = 4 then telWord t.byteTx else if w = 5 then telWord t.byteRx
  else if w < 14 then telWord (Store.get (fun _ => 0) t.disc (w - 6))
  else if w = 14 then telWord t.ce else if w = 15 then telWord t.ece
  else if w < 22 then telWord (Store.get (fun _ => 0) t.stall (w - 16))
  else if w < 28 then (s.portWaiting q (w - 22)) % 2 ^ 24 + (Store.get (fun _ => 0) t.depth (w - 22) % 2 ^ 24) <<< 32
  else if w < 44 then telWord (Store.get (fun _ => 0) t.bins (w - 28))
  else 0

/-- The 384 bytes of a port's record (R394). -/
def State.telRecord (s : State) (q : Port) : List Byte := (List.range 48).flatMap (fun w => leBytes (s.telemetry q w) 8)

/-- The ports of a telemetry request, or its refusal (R382). -/
def telPorts (k : PDie) (p : Packet) : Option (List Port) :=
  let n := p.arg 15 8
  if n = 0 || 5 < n then none else portsFrom k (p.arg 7 0) n

/-- TELE_READ (R396). -/
def teleRead (m : MgtIn) (s : State) : State :=
  s.agentOp m 0x8E false false true (fun s _ =>
    if !(m.pkt.ctlForm 16) then (s, agFORMAT, [])
    else match telPorts m.k m.pkt with
      | none => (s, agRANGE, [])
      | some l => (s, agOK, l.flatMap s.telRecord))

/-- TELE_CLEAR: the snapshots, with counters, flags, maxima and bins cleared in the same cycle (R396). -/
def teleClear (m : MgtIn) (s : State) : State :=
  s.agentOp m 0x8F true true false (fun s _ =>
    if !(m.pkt.authForm 16 0) then (s, agFORMAT, [])
    else match telPorts m.k m.pkt with
      | none => (s, agRANGE, [])
      | some l =>
        let data := l.flatMap s.telRecord
        (l.foldl (fun t q => t.updTel q (fun _ => {})) s, agOK, data))

/-- TELE_SAMPLE: one sample of a port's waiting flits into a histogram bin (R395). -/
def teleSample (q : Port) (s : State) : State :=
  if !(s.portUp q) then s else
  let w := 2 ^ s.fld (.agt (Port.pdie q)) F.AGT_CFG_BIN_LOG2
  let n := ((List.range 6).map (s.portWaiting q)).sum
  s.updTel q (fun t => { t with bins := telInc t.bins (min 15 (n / w)) 1 })

/-- The slot an agent's oldest event goes to: the primary's session first, after three sends the standby's (R398). -/
def AgentSt.eventSlot (a : AgentSt) : Option Nat :=
  let find (pr : Bool) : Option Nat :=
    if a.sess0.any (fun x => x.primary == pr) then some 0 else if a.sess1.any (fun x => x.primary == pr) then some 1 else none
  if a.sends < 3 then (match find true with | some k => some k | none => find false)
  else (match find false with | some k => some k | none => find true)

/-- The payload of an EVENT (R397). -/
def AgentEvent.bytes (e : AgentEvent) : List Byte :=
  leBytes e.gtime.toNat 8 ++ [BitVec.ofNat 8 e.code, BitVec.ofNat 8 e.port, BitVec.ofNat 8 e.state, BitVec.ofNat 8 e.cause] ++ List.replicate 4 0 ++
    leBytes e.serial.toNat 16

/-- An agent sends its oldest event (R374, R378, R398): routed when the agent has a coordinate and the destination's entry is VALID in the
current epoch; otherwise PD0's agent sends over the management network and PD1's holds it. -/
def State.sendEvent (s : State) (k : PDie) : State :=
  let a := s.agent k
  match a.evq, a.eventSlot with
  | e :: _, some slot => match a.sess slot with
    | none => s
    | some x =>
      let d := PDie.die k
      let mgr : Coord := BitVec.ofNat 32 (s.fld (.agt k) (F.AGT_MGR_COORD (if x.primary then 0 else 1)))
      let ep := s.fld (.rtr d) F.RTR_EPOCH_CUR = 1
      let routed := s.flag (.agt k) F.AGT_STATE_ASSIGNED && s.tableValid d ep && (s.entry d ep (routeIndex mgr)).getLsbD 31
      if !routed && k = 1 then s
      else
        let again := a.cur.any (fun c => c.1 == slot)
        let ctr := match a.cur with | some c => if again then c.2 else eventCtr x.evCtr | none => eventCtr x.evCtr
        let x' := if again then x else { x with evCtr := x.evCtr + 1 }
        let s := s.setAgent k ({ a with sends := a.sends + 1, cur := some (slot, ctr) }.setSess slot (some x'))
        let p : Packet := { mc := 0, cls := true, op := 0x9F, dst := mgr, src := s.coord d 1, part := 0xFF, body := List.replicate 32 0 }
        s.mgtSend k (!routed) (authPacket p x slot ctr e.bytes)
  | _, _ => s

/-- An agent whose oldest event has not been sent sends it (R398). -/
def State.flushEvents (s : State) : State :=
  [(0 : PDie), 1].foldl (fun t k => if (t.agent k).sends = 0 then t.sendEvent k else t) s

/-- EVENT_RESEND: the resend period of an agent's oldest event (R398). -/
def eventResend (k : PDie) (s : State) : State :=
  let d := PDie.die k
  if s.inReset d || s.fencedDies.contains d || (s.agent k).sends = 0 then s else s.sendEvent k

/-- The oldest event is answered: it leaves the queue, and an owed EVQ_LOST takes the free entry (R398). -/
def State.eventAnswered (s : State) (k : PDie) : State :=
  let a := s.agent k
  match a.evq with
  | [] => s
  | e :: rest =>
    let s := if e.code = 6 then s.setFld (.agt k) F.AGT_EVQ_LOST 0 else s
    let q := if a.lostDue then rest ++ [⟨s.now (PDie.die k), 6, 0xFF, 0, 0, 0⟩] else rest
    (s.setAgent k { a with evq := q, lostDue := false, sends := 0, cur := none }).setFld (.agt k) F.AGT_EVQ_PENDING q.length

/-- The agent's answer to EVENT arrives (R398): an OK answer under the session the event went out on releases the next event. -/
def eventAnswer (m : MgtIn) (s : State) : State :=
  let (s, ok) := s.mgtTakes m
  if !ok || m.pkt.op != 0xDF then s else
  let a := s.agent m.k
  let pay := m.pkt.payload
  let t := pay.drop (pay.length - 32)
  match a.cur with
  | none => s
  | some (slot, ctr) =>
    if m.valid && imgNat t 8 1 == slot && imgNat t 0 8 % 2 ^ 62 == ctr % 2 ^ 62 && m.pkt.arg 7 0 == agOK then s.eventAnswered m.k else s

end Sys2Proof.Machine
end

