-- ==== Sys2Proof/Machine/Parts.lean ====
section
/-! DEFINITION. Partitions: their creation, stop and scrub, the commands of the management complex about slices, model placements
(14 R522–R530, R553, 11 R434–R437, 13 R505, R506, 04 R182–R184). -/

namespace Sys2Proof.Machine

/-- Status bytes of a management-complex command (11 R436). -/
def mcOK : List Byte := [0]
def mcREFUSED : List Byte := [1]
def mcBUSY : List Byte := [2]

/-- The side resets of a channel (16 R601): the host side resets, the device side resets. A message its receiver has not read is lost; a
sender's epoch advances. -/
def MbxDir.reset (d : MbxDir) (sender receiver : Bool) : MbxDir :=
  let d := if receiver && d.full then { d with full := false, lost := true } else d
  if sender then { d with sendEpoch := d.sendEpoch + 1 } else d
def State.resetChan (s : State) (k : Nat) (host dev : Bool) : State :=
  let x := s.chan k
  let x := { x with h2d := x.h2d.reset host dev, d2h := x.d2h.reset dev host }
  s.setChan k (if dev then { x with resps := [], notes := [] } else x)

/-- The configuration space of a function resets (16 R596). -/
def State.resetFn (s : State) (f : Fn) : State :=
  let c := s.fn f
  s.setFn f { accessErr := c.accessErr, mbxVec := c.mbxVec }

/-- Every function. -/
def allFns : List Fn := ([0, 1, 2, 3] : List (Fin 4)).map .pf ++ (List.finRange 64).map .vf

/-- BAR2 accesses that pass complete or fail at the device, and are reported to no one (16 R612). -/
def State.bar2Quiet (s : State) (f : Part → Bool) : State := { s with bar2 := s.bar2.map (fun (b : Bar2) => if f b.part then { b with quiet := true } else b) }

/-- PERST_N, hot reset or link down: the interface, every function's configuration, and the host side of every channel (16 R596, R601). -/
def perstN (s : State) : State :=
  let up := s.flag .pci F.PCI_STATUS_LINK_UP
  let s := allFns.foldl State.resetFn s
  let s := (List.finRange 64).foldl (fun t p => t.setFld .pci (F.PCI_VF_ENABLED p.val) 0) s
  let s := (List.range 100).foldl (fun t k => t.resetChan k true false) (s.bar2Quiet (fun _ => true))
  let s := ((s.setFld .pci F.PCI_STATUS_LINK_UP 0).setFld .pci F.PCI_STATUS_RATE 0).setFld .pci F.PCI_STATUS_WIDTH 0
  if up then s.fireEvent .pci 1 else s

/-- Every armed injection of the package disarms (13 R516). -/
def State.disarmAll (s : State) : State :=
  { s with regs := Store.mapVals (regReset s.fuses) (fun a w =>
      if a % 0x1000 = F.INJ_CTRL_ARMED.off && ((pageOf a).map Page.hasInj).getD false then setF (setF w F.INJ_CTRL_MODE 0) F.INJ_CTRL_ARMED 0 else w) s.regs }

/-- SEC_CONF and NCONF show the confidential partitions (14 R556). -/
def State.showConf (s : State) : State :=
  let l := (List.finRange 64).filter (fun p => s.isConf p)
  let m := (l.map (fun p => 2 ^ p.val)).sum
  ((s.wr (Page.base .sec + 0x104) (BitVec.ofNat 32 m)).wr (Page.base .sec + 0x108) (BitVec.ofNat 32 (m >>> 32))).setFld .sec F.SEC_STATUS_NCONF l.length

/-- Granules the management complex never gives a partition: CD0's first four on a package that holds the Summit role, and the staging
granule (11 R407, 15 R579). -/
def State.reservedGran (s : State) (c : CDie) (g : Nat) : Bool :=
  (c == 0 && g < 4 && s.fld .smt F.SMT_CTRL_ROLE != 0) || s.staging == some (c, g)

/-- A memory granule of a die is free (14 R526). -/
def State.granFree (s : State) (c : CDie) (g : Nat) : Bool :=
  s.flag (.mem c) F.BLK_STATUS_READY && decide (g < s.mapped c) && !(s.reservedGran c g) && !(overlaps (s.zeroing c) (g, 1)) &&
    !((s.allRanges c).any (fun r => overlaps r.2.2 (g, 1)))

/-- The lowest place of `n` contiguous units below `limit` that meets none of the spans used (14 R526; log entry 41). -/
def lowestFit (limit n : Nat) (used : List (Nat × Nat)) : Option Nat :=
  if n = 0 then some 0 else
  let cand := (0 :: used.map (fun u => u.1 + u.2)).filter (fun b => b + n ≤ limit && !(used.any (fun u => overlaps u (b, n))))
  cand.foldl (fun m b => match m with | none => some b | some x => some (min x b)) none

def State.tarnFit (s : State) (c : CDie) (n : Nat) : Option Nat :=
  lowestFit 4096 n ((List.range 64).map (fun q => (s.fld (.trn c) (F.TRN_PART_BASE q), s.fld (.trn c) (F.TRN_PART_SIZE q))))
def State.cairnFit (s : State) (c : CDie) (n : Nat) : Option Nat :=
  lowestFit 8192 n ((List.finRange 64).map (fun q => s.cairnRange c q))
def State.granFit (s : State) (c : CDie) : Option Nat := (List.range 768).find? (s.granFree c)

/-- The fields of a SLICE_JOIN body (R525, 11 R437). -/
def sjSLICE (b : List Byte) : Nat := imgNat b 0 2
def sjPART (b : List Byte) : Nat := imgNat b 2 1
def sjCONF (b : List Byte) : Bool := imgNat b 16 1 == 1
def sjCONTEXTS (b : List Byte) : Nat := imgNat b 17 1
def sjLOG2 (b : List Byte) : Nat := imgNat b 18 1
def sjTARN (b : List Byte) : Nat := imgNat b 20 2
def sjCAIRNS (b : List Byte) : Nat := imgNat b 22 2

/-- The body is well formed (R525). -/
def joinForm (b : List Byte) : Bool :=
  b.length == 96 && imgNat b 16 1 ≤ 1 && decide (1 ≤ sjCONTEXTS b) && decide (sjCONTEXTS b ≤ 8) && decide (4 ≤ sjLOG2 b) && decide (sjLOG2 b ≤ 14) &&
    imgZero b 19 1 && decide (sjTARN b ≤ 4096) && decide (sjCAIRNS b ≤ 8192) && imgZero b 24 8 && decide (sjPART b < 64) && sjSLICE b != 0 && imgZero b 10 6

/-- The compute dies of a partition's part that are in service (R526, 01 R44). -/
def State.joinDies (s : State) (p : Part) : List CDie := (s.partDies (s.partOf p)).filter (fun c => !(s.dieDown c))

/-- The management complex admits a SLICE_JOIN (R526, R527, R537, R550). -/
def State.joinOk (s : State) (b : List Byte) (p : Part) : Bool :=
  joinForm b && s.fld .flt F.FLT_STATE_STATE = hubNORMAL && (s.part? p).isNone && (s.partState p = ptNORMAL || s.partState p = ptCLEARED) &&
    s.fuses.lifecycle != 2 && (!(sjCONF b) || s.fld .sec F.SEC_STATUS_DEBUG = 0) && !((s.joinDies p).isEmpty) &&
    (s.joinDies p).all (fun c => (s.tarnFit c (sjTARN b)).isSome && (s.cairnFit c (sjCAIRNS b)).isSome && (s.granFit c).isSome)

/-- The rings of a partition on a die, in (context, queue) order from the control range's base, each aligned to 64 bytes (R526). -/
def ringSize (log2 q : Nat) : Nat := (if q = 0 then 256 else 64) * 2 ^ log2
def ringBase (base log2 ctx q : Nat) : Nat := base + ctx * ((List.range 16).map (ringSize log2)).sum + ((List.range q).map (ringSize log2)).sum

/-- One die of a SLICE_JOIN: control range, zeroed; Tarn, cairns; queues enabled (R526). -/
def State.joinDie (s : State) (b : List Byte) (p : Part) (gateTo : Nat) (c : CDie) : State :=
  match s.granFit c, s.tarnFit c (sjTARN b), s.cairnFit c (sjCAIRNS b) with
  | some g, some t, some k =>
    let s := (s.setFld (.mem c) (F.MEM_RANGE_BASE (4 * p.val)) g).setFld (.mem c) (F.MEM_RANGE_SIZE (4 * p.val)) 1
    let s := s.memZero c (g * memGran) memGran
    let s := (s.setFld (.trn c) (F.TRN_PART_BASE p.val) t).setFld (.trn c) (F.TRN_PART_SIZE p.val) (sjTARN b)
    let s := (s.setFld (.crn c) (F.CRN_PART_BASE p.val) k).setFld (.crn c) (F.CRN_PART_SIZE p.val) (sjCAIRNS b)
    let base := s.pos * posSpan + c.val * memSpan + g * memGran
    ((List.finRange 8).filter (fun x => x.val < sjCONTEXTS b)).foldl (fun t x =>
      (List.finRange 16).foldl (fun u q =>
        u.setQueue ⟨c, p, x, q⟩ { enable := true, base := ringBase base (sjLOG2 b) x.val q.val, log2 := sjLOG2 b, gateTo := gateTo }) t) s
  | _, _, _ => s

/-- SLICE_JOIN (R525, R526). GATE_TO of the queues is the management complex's to set, and no rule gives it: a free value (log entry 42). -/
def sliceJoin (b : List Byte) (s : State) : State × List Byte :=
  if h : sjPART b < 64 then
    let p : Part := ⟨sjPART b, h⟩
    if !(s.joinOk b p) then (s, mcREFUSED)
    else
      let dies := s.joinDies p
      let (g, s) := s.free
      let s := dies.foldl (fun t c => t.joinDie b p (g.toNat % 32) c) s
      let s := s.setPart p (some ⟨b.take 16, sjCONTEXTS b, sjLOG2 b, sjTARN b, sjCAIRNS b, sjCONF b, (b.drop 32).take 64, dies, none, false, false, false⟩)
      let s := (s.setPartState p ptNORMAL).showConf
      let s := if sjCONF b then s.disarmAll else s
      ((s.showVf p).notifyPart p, mcOK)
  else (s, mcREFUSED)

/-- The partition a command body names by SLICE_ID and PART (11 R436; log entry 43). -/
def State.namedPart (s : State) (b : List Byte) : Option (Part × PartSt) :=
  if h : imgNat b 2 1 < 64 then
    match s.part? ⟨imgNat b 2 1, h⟩ with
    | some x => if imgNat x.sliceDesc 0 2 == imgNat b 0 2 then some (⟨imgNat b 2 1, h⟩, x) else none
    | none => none
  else none

/-- BLK_STATUS.SCRUBBING of the blocks that clear storage for a scrub under way (R553, 19 R667). -/
def State.showScrub (s : State) : State :=
  allCDies.foldl (fun t c =>
    let on := (List.finRange 64).any (fun p => t.partState p == ptSCRUBBING && (match t.part? p with
      | some x => !x.scrubbed && x.dies.contains c | none => false))
    ([.msf c, .trn c, .vcx c, .crn c, .dma c, .mem c] : List Page).foldl (fun u p => u.setFld p F.BLK_STATUS_SCRUBBING on.toNat) t) s

/-- SLICE_LEAVE: the scrub starts without fencing by fault (R527); while a scrub is under way it is BUSY (log entry 43). -/
def sliceLeave (b : List Byte) (s : State) : State × List Byte :=
  match s.namedPart b with
  | none => (s, mcREFUSED)
  | some (p, x) =>
    if s.fld .flt F.FLT_STATE_STATE != hubNORMAL then (s, mcREFUSED)
    else if s.partFenced p then (s.setPart p (some { x with leaving := true }), mcBUSY)
    else
      let s := (s.setPart p (some { x with leaving := true })).setPartState p ptSCRUBBING
      ((((s.killPart p).showVf p).notifyPart p).showScrub, mcOK)

/-- SLICE_STOP: doorbells are ignored, gates go, entries not started end FLUSHED, running ones ABORTED (11 R435). -/
def sliceStop (b : List Byte) (s : State) : State × List Byte :=
  match s.namedPart b with
  | none => (s, mcREFUSED)
  | some (p, x) =>
    if s.fld .flt F.FLT_STATE_STATE != hubNORMAL then (s, mcREFUSED)
    else if x.stopped || s.partFenced p then (s, mcOK)
    else
      let s := s.setPart p (some { x with stopped := true })
      let rs := (s.queues.map (fun e => QRef.ofKey e.1)).filter (fun r => r.part == p)
      let s := rs.foldl (fun t r => t.flushQueue r stFLUSHED) s
      let q (r : QRef) : Bool := r.part == p
      let s := allCDies.foldl (fun t c => t.abortSweeps c q stABORTED) s
      ((s.abortDispatches q stABORTED).abortDma q stABORTED, mcOK)

/-- The descriptor SLICE_QUERY lists: STATE as the member knows it (11 R437). -/
def PartSt.desc (x : PartSt) : List Byte :=
  x.sliceDesc.take 9 ++ [if x.leaving then 3 else if x.stopped then 2 else 1] ++ x.sliceDesc.drop 10

/-- SLICE_QUERY (11 R436). -/
def sliceQuery (s : State) : State × List Byte :=
  (s, mcOK ++ (List.finRange 64).flatMap (fun p => match s.part? p with | some x => x.desc | none => []))

/-- READMIT: recovered-idle becomes NORMAL; refused otherwise (13 R509, R518, 16 R595). -/
def readmitMc (s : State) : State × List Byte :=
  if s.fld .flt F.FLT_STATE_STATE = hubRECOVERED_IDLE then
    ((s.setFld .flt F.FLT_STATE_STATE hubNORMAL).setFld .pci F.PCI_STATUS_FATAL 0, mcOK)
  else (s, mcREFUSED)

/-- A running entry of a partition still has accesses to end: dies that are down and halted arrays hold none (13 R505). -/
def State.partBusy (s : State) (p : Part) : Bool :=
  allCDies.any (fun c => !(s.dieDown c) && s.msfState c != msfHALTED &&
      (((s.array c).run.any (fun r => r.ref.part == p)) || ((s.array c).drain.any (fun r => r.ref.part == p)))) ||
    s.dispatches.any (fun d => d.ref.part == p && !(s.dieDown d.ref.die)) || s.dmaRuns.any (fun r => r.ref.part == p && !(s.dieDown r.ref.die))

/-- SCRUB_START: every access admitted under a fenced partition's ranges has completed (13 R505). -/
def scrubStart (p : Part) (s : State) : State :=
  if s.partState p = ptFENCED && !(s.partBusy p) && s.fld .flt F.FLT_STATE_STATE = hubNORMAL then
    (((s.setPartState p ptSCRUBBING).showVf p).notifyPart p).showScrub
  else s

/-- A partition's memory range changes owner: it is removed, and its granules are zeroed (06 R256). The zeroing order runs and is DONE within the step that ends it
(log entry 83). -/
def State.freeRange (s : State) (c : CDie) (p : Part) (i : Nat) : State :=
  let r := s.memRange c p i
  ((s.setFld (.mem c) (F.MEM_RANGE_BASE (4 * p.val + i)) 0).setFld (.mem c) (F.MEM_RANGE_SIZE (4 * p.val + i)) 0).memZero c (r.1 * memGran) (r.2 * memGran)

/-- A die's part of the scrub (R553). -/
def State.scrubDie (s : State) (p : Part) (c : CDie) : State :=
  let s := [0, 1, 2, 3].foldl (fun (t : State) (i : Nat) => t.freeRange c p i) s
  let al := s.tarnAlloc c p
  let s := ((s.tarnZero c al.1 al.2).setFld (.trn c) (F.TRN_PART_BASE p.val) 0).setFld (.trn c) (F.TRN_PART_SIZE p.val) 0
  let r := s.cairnRange c p
  let s : State := { s with cairns := Store.keep (fun k => !(c.val * 8192 + r.1 ≤ k && k < c.val * 8192 + r.1 + r.2)) s.cairns }
  let s := (s.setFld (.crn c) (F.CRN_PART_BASE p.val) 0).setFld (.crn c) (F.CRN_PART_SIZE p.val) 0
  let a := s.array c
  let gone (o : Option RunSweep) : Option RunSweep := o.filter (fun r => r.ref.part != p)
  s.setArray c { a with owner := a.owner.filter (fun o => o.1 != p), run := gone a.run, drain := a.drain.filter (fun r => r.ref.part != p), next := gone a.next }

/-- Everything a partition owned is cleared (R553). -/
def State.scrub (s : State) (p : Part) : State :=
  let s := allCDies.foldl (fun t c => t.scrubDie p c) s
  let s := (s.requests.filter (fun r => r.pkt.partNo == p)).foldl (fun t r => t.retire r) s
  let s := (s.transits.filter (fun t => t.pkt.part == BitVec.ofNat 8 p.val)).foldl (fun t x => t.dropTransit x .fenced) s
  let s : State := { s with
    queues := Store.keep (fun k => (QRef.ofKey k).part != p) s.queues
    cores := Store.mapVals (fun _ => {}) (fun _ (x : CoreSt) => if x.prev.any (fun o => o.1 == p) then {} else x) s.cores
    dispatches := s.dispatches.filter (fun d => d.ref.part != p)
    dmaRuns := s.dmaRuns.filter (fun r => r.ref.part != p)
    bar2 := s.bar2.filter (fun b => b.part != p)
    wkeys := Store.keep (fun k => k / 2 != p.val) s.wkeys }
  let s := s.wr (Page.base .sec + 0x200 + 4 * p.val) 0
  let x := s.chan (36 + p.val)
  let s := s.setChan (36 + p.val) { x with h2d := { x.h2d with slot := [] }, d2h := { x.d2h with slot := [] } }
  s.resetChan (36 + p.val) true true

/-- The partition is CLEARED: counted, confidential no longer, reported (13 R505, R520, R527, R528). -/
def State.partCleared (s : State) (p : Part) : State :=
  let s := match s.part? p with | some x => s.emit (.scrubReport p (imgNat x.sliceDesc 0 2)) | none => s
  let s := ((s.setPart p none).setPartState p ptCLEARED).showConf
  ((s.bump .flt C.FLT_PART_CLR 1).showVf p).notifyPart p

/-- SCRUB_COMPLETE: the last clearing of R553 completes; CLEARED at once when the quiet period is over (13 R505). A scrub is abandoned in the C4 safe
state (13 R518). -/
def scrubComplete (p : Part) (s : State) : State :=
  if s.fld .flt F.FLT_STATE_STATE != hubNORMAL then s else
  match s.part? p with
  | some x =>
    if s.partState p != ptSCRUBBING || x.scrubbed || s.partBusy p then s
    else
      let s := ((s.scrub p).setPart p (some { x with scrubbed := true, placement := none })).showScrub
      if s.quietParts.contains p then s else s.partCleared p
  | none => if s.partState p != ptSCRUBBING then s else
      let s := s.scrub p
      if s.quietParts.contains p then s.setPartState p ptSCRUBBING else s.partCleared p

/-- An acknowledged record whose quiet period is over empties (13 R500). -/
def State.settleRecord (s : State) (p : Page) : State :=
  if s.flag p F.FLT_FLAGS_ACKED && !(s.quietPages.contains p.base) then
    ((s.wr (p.base + 0x20) 0).wr (p.base + 0x24) 0).setFld p F.BLK_STATUS_FAULTED 0
  else s

/-- QUIET_EXPIRE: FLT_CFG.QUIET has passed since the last fault (13 R500, R505, R518). -/
def quietExpire (q : QuietOf) (s : State) : State :=
  match q with
  | .page p => State.settleRecord { s with quietPages := s.quietPages.filter (· != p.base) } p
  | .part p =>
    let s : State := { s with quietParts := s.quietParts.filter (· != p) }
    if s.fld .flt F.FLT_STATE_STATE = hubNORMAL && s.partState p = ptSCRUBBING && (match s.part? p with | some x => x.scrubbed | none => false) then
      s.partCleared p
    else s

/-- FLT_ACK: a held record is acknowledged (13 R499). -/
def fltAck (p : Page) (v : Word) (s : State) : State :=
  if v.getLsbD 0 && s.flag p F.FLT_FLAGS_VALID then (s.setFld p F.FLT_FLAGS_ACKED 1).settleRecord p else s

/-- The dies with READY memory of a partition's part here (04 R183). -/
def State.placeDies (s : State) (x : PartSt) : List CDie := x.dies.filter (fun c => s.flag (.mem c) F.BLK_STATUS_READY)

/-- The longest run of granules free at the same offsets on every die: its length and its first granule, the lowest of equal ones
(04 R183; log entry 44). -/
def longestRun (free : Nat → Bool) : Nat × Nat :=
  let step (acc : (Nat × Nat) × (Nat × Nat)) (g : Nat) : (Nat × Nat) × (Nat × Nat) :=
    let (cur, best) := acc
    let cur := if free g then (cur.1 + 1, if cur.1 = 0 then g else cur.2) else (0, 0)
    (cur, if best.1 < cur.1 then cur else best)
  ((List.range 768).foldl step ((0, 0), (0, 0))).2

/-- Set the three regions of a placement on a die (04 R183). -/
def State.placeDie (s : State) (p : Part) (base : Nat) (grans : List Nat) (c : CDie) : State :=
  (List.range 3).foldl (fun t r =>
    let n := (grans[r]?).getD 0
    let b := base + (grans.take r).sum
    (t.setFld (.mem c) (F.MEM_RANGE_BASE (4 * p.val + r + 1)) (if n = 0 then 0 else b)).setFld (.mem c) (F.MEM_RANGE_SIZE (4 * p.val + r + 1)) n) s

/-- The granules of a placement are zeroed as they change owner (06 R256). -/
def State.zeroDie (s : State) (base n : Nat) (c : CDie) : State := s.memZero c (base * memGran) (n * memGran)

/-- The response of MDL_PLACE (04 R182). -/
def placeResp (st short fl fb : Nat) (offs grans : List Nat) (pos : Nat) : List Byte :=
  [BitVec.ofNat 8 st] ++ List.replicate 7 0 ++ leBytes short 8 ++ leBytes fl 8 ++ leBytes fb 8 ++
    (List.range 3).flatMap (fun r => leBytes ((offs[r]?).getD 0) 8) ++ (List.range 3).flatMap (fun r => leBytes ((grans[r]?).getD 0) 2) ++
    [BitVec.ofNat 8 pos, 0]

/-- A placement's ranges are removed on every die that holds it and is not down, its memory READY or not, and zeroed (04 R184, 06 R256). -/
def State.unplace (s : State) (p : Part) (x : PartSt) : State :=
  (x.dies.filter (fun c => !(s.dieDown c))).foldl (fun t c => [1, 2, 3].foldl (fun (u : State) (i : Nat) => u.freeRange c p i) t) s

/-- A board session with a position opens with a fresh key (16 R597, 14 R541). -/
def State.openBoard (s : State) (pos : Nat) : State :=
  let (k, s) := s.random256
  let (salt, s) := s.free
  { s with boardSess := Store.set (fun _ => none) s.boardSess pos (some { serial := 0, primary := false, key := k, salt := BitVec.ofNat 32 salt.toNat }) }

/-- A BOARD placement is carried to the other positions that hold it, each under a board session, opened on first need (04 R183, R184). -/
def State.tellBoard (s : State) (p : Part) (positions : Nat) (release : Bool) (base : Nat) (grans : List Nat) : State :=
  ([0, 1, 2, 3].filter (fun q => q != s.pos && positions.testBit q)).foldl (fun (t : State) (q : Nat) =>
    let t := if (Store.get (fun _ => none) t.boardSess q).isSome then t else t.openBoard q
    t.emit (.boardPlace q p release base grans)) s

/-- DIE_OFFSET of the three regions of a placement from its first granule (04 R183). -/
def placeOffsets (base : Nat) (grans : List Nat) : List Nat :=
  (List.range 3).map (fun r => if (grans[r]?).getD 0 = 0 then 0 else (base + (grans.take r).sum) * memGran)

/-- A BOARD order of another member: the regions are taken at the granules it names on every die of the part here, or refused; a release gives them back (04 R183,
R184; log entry 82). -/
def State.boardOrder (s : State) (r : BoardOrder) : State :=
  let answer (t : State) (ok : Bool) : State := t.emit (.boardAnswer r.src.val r.part ok)
  if r.src.val = s.pos then s else
  let s := if (Store.get (fun _ => none) s.boardSess r.src.val).isSome then s else s.openBoard r.src.val
  match s.part? r.part with
  | none => answer s false
  | some x =>
    if r.release then
      match x.placement with
      | some pl => if pl.board then answer ((s.unplace r.part x).setPart r.part (some { x with placement := none })) true else answer s false
      | none => answer s false
    else
      let mine := s.placeDies x
      let n := r.grans.sum
      if x.placement.isSome || r.grans.length != 3 || mine.isEmpty ||
          !(mine.all (fun c => (List.range n).all (fun i => s.granFree c (r.base + i)))) then answer s false
      else
        let s := mine.foldl (fun t c => (t.zeroDie r.base n c).placeDie r.part r.base r.grans c) s
        answer (s.setPart r.part (some { x with placement := some ⟨true, placeOffsets r.base r.grans, r.grans, 2 ^ r.src.val ||| 2 ^ s.pos⟩ })) true

/-- MDL_PLACE for a partition (04 R182–R184): the response body; none where the request is malformed. -/
def State.mdlPlace (s : State) (p : Part) (b : List Byte) (o : BoardMembers) : State × Option (List Byte) :=
  match s.part? p with
  | none => (s, none)
  | some x =>
    let mode := imgNat b 0x18 1
    let op := imgNat b 0x19 1
    if b.length != 32 || 1 < mode || 1 < op || !(imgZero b 0x1A 6) || (op = 1 && !(imgZero b 0 24)) then (s, none)
    else
      let board := mode == 1
      let mine := s.placeDies x
      let free (g : Nat) : Bool := !(mine.isEmpty) && mine.all (fun c => s.granFree c g)
      let freeB (g : Nat) : Bool := free g && (!o.any || o.freeGran.contains g)
      let fl := longestRun free
      let fb := longestRun freeB
      let ml := mine.length
      let mb := mine.length + o.dies
      let freeL := ml * memGran * fl.1
      let freeBd := mb * memGran * fb.1
      if op = 1 then
        match x.placement with
        | some pl =>
          if pl.board != board then (s, some (placeResp 4 0 freeL freeBd [] [] 0))
          else
            let s := (s.unplace p x).tellBoard p pl.positions true 0 []
            (s.setPart p (some { x with placement := none }), some (placeResp 0 0 freeL freeBd [] [] 0))
        | none => (s, some (placeResp 4 0 freeL freeBd [] [] 0))
      else if x.placement.isSome || (board && o.held) then (s, some (placeResp 3 0 freeL freeBd [] [] 0))
      else if board && !o.any then (s, some (placeResp 2 0 freeL freeBd [] [] 0))
      else
        let m := if board then mb else ml
        let run := if board then fb else fl
        let grans := [imgNat b 0 8, imgNat b 8 8, imgNat b 16 8].map (fun v => if m = 0 then 0 else ceilDiv v (m * memGran))
        if run.1 < grans.sum || m = 0 then (s, some (placeResp 1 (m * memGran * (grans.sum - run.1)) freeL freeBd [] [] 0))
        else
          let offs := placeOffsets run.2 grans
          let pos := if board then (o.positions ||| 2 ^ s.pos) else 2 ^ s.pos
          let s := ((mine.foldl (fun t c => (t.zeroDie run.2 grans.sum c).placeDie p run.2 grans c) s)).tellBoard p pos false run.2 grans
          (s.setPart p (some { x with placement := some ⟨board, offs, grans, pos⟩ }), some (placeResp 0 0 freeL freeBd offs grans pos))

end Sys2Proof.Machine
end

