-- ==== Sys2Proof/Machine/BringUp.lean ====
section
/-! DEFINITION. Bring-up from management power to ready (15 R559–R577). -/

namespace Sys2Proof.Machine

/-- The machine with nothing but its fuses, flash, straps and what outlives a reset of the device: every other field at its reset value
(17 R639). -/
def State.cold (s : State) : State :=
  { pending := s.pending, out := s.out, freeCtr := s.freeCtr, fuses := s.fuses, flash := s.flash, straps := s.straps, maxPlanSeq := s.maxPlanSeq,
    dbgCounters := s.dbgCounters, repairLines := s.repairLines, repairLog := s.repairLog }

/-- A page sets READY (15 R573). -/
def State.blkReady (s : State) (p : Page) : State := s.setFld p F.BLK_STATUS_READY 1

/-- The plan image the flash holds (15 R563). -/
def flashPlanBase : Nat := 0x1000000
def State.flashGet (s : State) (off n : Nat) : List Byte := Store.getList (fun _ => 0) s.flash off n
def State.flashPlan (s : State) : List Byte :=
  let n := leNat (s.flashGet (flashPlanBase + 0x10) 4)
  if leNat (s.flashGet flashPlanBase 4) = 0x5056524C && n ≤ 0x400000 then s.flashGet flashPlanBase n else []

/-- The digest of the whole firmware image in flash (14 R534). -/
def State.flashImage (s : State) : List Byte := s.flashGet 0 (min 0x1000000 (leNat (s.flashGet 0x0C 4)))

/-- The component digests of the image in flash: of types 1, 2 and 3 (15 R563, R564). -/
def State.imageComps (s : State) : List (BitVec 512) :=
  let b := s.flashGet 0x40 240
  [1, 2, 3].map (fun t =>
    match [0, 1, 2].find? (fun i => imgNat b (80 * i) 4 == t) with
    | some i => BitVec.ofNat 512 (imgNat b (80 * i + 16) 64)
    | none => 0)

/-- The header of a firmware image follows R563. -/
def imageHeader (b : List Byte) : Bool :=
  imgNat b 0 4 == 0x57465947 && imgNat b 4 4 == 1 && decide (imgNat b 8 4 ≤ 63) && imgNat b 0x0C 4 == b.length && b.length % 1024 == 0 &&
    decide (0x400 ≤ b.length) && decide (b.length ≤ 0x1000000) && imgNat b 0x10 4 == 3 && imgZero b 0x14 0x2C &&
    ([1, 2, 3].all fun t => [0, 1, 2].any fun i => imgNat b (0x40 + 80 * i) 4 == t) && ([0, 1, 2].all fun i => imgZero b (0x4C + 80 * i) 4) &&
    decide (0x134 + imgNat b 0x130 4 ≤ b.length - 64)

/-- Every component of an image lies within it and matches its digest (R564). -/
def imageCompsOk (b : List Byte) : Bool :=
  [0, 1, 2].all fun i =>
    let o := imgNat b (0x44 + 80 * i) 4
    let n := imgNat b (0x48 + 80 * i) 4
    decide (o + n ≤ b.length) && (Config.sha512 ((b.drop o).take n)).toNat == imgNat b (0x50 + 80 * i) 64

/-- The check of R564 that an image fails, the first in its order: 0 the header, 1 the certificate, 2 the signature, 3 the components, 4 the SVN; whether the certificate
and the signature verify is found by the security processor (log entry 1). -/
def imageFail (b : List Byte) (minSvn : Nat) (cert sig : Bool) : Option (Fin 5) :=
  if !(imageHeader b) then some 0 else if !cert then some 1 else if !sig then some 2 else if !(imageCompsOk b) then some 3
  else if imgNat b 8 4 < minSvn then some 4 else none
def State.imageCheck (s : State) (f : BootFind) : Option (Fin 5) := imageFail s.flashImage s.fuses.minSvn f.imageCert f.imageSig

/-- A plan verifies: its form, its signature under the owner record of an OWNED package, and its PLAN_SEQ (11 R410, 14 R537). -/
def State.planAccepts (s : State) (b : List Byte) (sig : Bool) : Bool :=
  planFormOk b && sig && s.fuses.lifecycle == 1 && decide (s.maxPlanSeq ≤ planSeq b)

/-- A verified plan is held (11 R406, R410, 14 R556). The role of SMT_CTRL is the boot plan's. -/
def State.holdPlan (s : State) (b : List Byte) : State :=
  State.setFld { s with plan := b, maxPlanSeq := max s.maxPlanSeq (planSeq b) } .sec F.SEC_STATUS_PLAN_OK 1

/-- Presentation at bring-up: 1×8 and independent with the strap low; the plan's with it high, or the fallback (00 R10–R12). -/
def State.present (s : State) : State :=
  let wants := s.straps.hostPresEn
  let bad := s.plan.isEmpty || (planBoardPres s.plan && planPkgPres s.plan != 0)
  let pkg := if wants && !bad then planPkgPres s.plan else 0
  let board := wants && !bad && planBoardPres s.plan
  let s : State := { s with boot := { s.boot with pkgPres := pkg, boardSettled := !board, pkgSettled := true, fallback := wants && bad } }
  let s := s.setFld .pci F.PCI_STATUS_PKG_PRES pkg
  if wants && bad then s.notify 4 0x0101 [] else s

/-- The mailbox channels of the presentation: kind, owning PF, in use (16 R599, R615). -/
def State.showChannels (s : State) : State :=
  (List.finRange 36).foldl (fun t ch =>
    let k := ch.val
    let pf := if k < 4 then 0 else (k - 4) / 8
    ((((t.setFld (.mbx ch) F.MBX_CFG_KIND (if k < 4 then 0 else 1)).setFld (.mbx ch) F.MBX_CFG_PF pf).setFld (.mbx ch) F.MBX_CFG_ENABLED
      (decide (pf < t.nparts)).toNat).blkReady (.mbx ch))) s

/-- The identity of a function (16 R586): the revision is the variant code. -/
def State.fnIdent (s : State) (f : Fn) : FnIdent :=
  match f with
  | .pf _ => ⟨f, Config.vendorId, 0x0880, 0x120000, BitVec.ofNat 8 s.fuses.variant, 64 / s.nparts⟩
  | .vf _ => ⟨f, Config.vendorId, 0x0881, 0x120000, BitVec.ofNat 8 s.fuses.variant, 0⟩

/-- The PFs of the presentation and their VFs (16 R587). -/
def State.functions (s : State) : List Fn := ((List.finRange 4).filter (fun n => decide (n.val < s.nparts))).map .pf ++ (List.finRange 64).map .vf

/-- Configuration requests are answered once the link is up and step 3 has ended or the recovery loader runs; until then with Request Retry Status (15 R574). -/
def State.showFunctions (s : State) : State :=
  if s.flag .pci F.PCI_STATUS_LINK_UP && (decide (phMGMT ≤ s.boot.phase) || s.boot.phase = phRECOVERY) then s.emit (.functions (s.functions.map s.fnIdent)) else s

/-- The pages found only on PD0 (19 R675) but for the mailbox channels. -/
def mgmtPages : List Page := [.flt, .sec, .pci, .smt, .rst, .tim]

/-- The core rails in the order of step 5 (R560). -/
def railOrder : List Rail := [.pd0, .pd1, .ser] ++ allCDies.map .cd ++ [.vdd2, .vddq, .opt]

/-- The EN outputs that are high, in the order they rose: each waits for the power-good of the one before; none before step 5 or in HALTED (18 R649). -/
def State.enabled (s : State) : List Rail :=
  if s.boot.phase = phRAILS then railOrder.take (s.boot.rail + 1) else if phRAILS < s.boot.phase && s.boot.phase != phHALTED then railOrder else []

/-- A die's sensors are live once its rail is good (18 R662). -/
def State.sensorsLive (s : State) (d : Die) : Bool :=
  let r : Rail := match Die.cd? d with | some c => .cd c | none => if d = pd0 then .pd0 else .pd1
  !(s.lostRails.contains d) && (if s.boot.phase = phRAILS then railOrder.take s.boot.rail else s.enabled).contains r

/-- Every EN output drops, in reverse order (18 R649). -/
def State.dropRails (s : State) : State := s.enabled.reverse.foldl (fun t r => t.emit (.enable r false)) s

/-- Bring-up halts: the core rails go off (R568, 18 R649). -/
def State.halt (s : State) : State := let s := s.dropRails; { s with boot := { s.boot with phase := phHALTED } }

/-- The rail of step 5 that is due is enabled. -/
def State.enableRail (s : State) : State := match railOrder[s.boot.rail]? with | some r => s.emit (.enable r true) | none => s

/-- Step 4: the PD0 root PLL locks, and the rails start (R560, R567). -/
def State.refclkUp (s : State) : State :=
  let pg : Page := .clk pd0
  let s := ((s.setFld pg F.CLK_STATUS_LOCK 1).setFld pg F.CLK_STATUS_REF_PRESENT 1).setFld pg F.CLK_STATUS_REFLOST_MODE 0
  let s := (s.setFld .pci F.PCI_STATUS_REFLOST 0).blkReady pg
  State.enableRail { s with boot := { s.boot with refPresent := true, phase := phRAILS, rail := 0 } }

/-- Steps 3 and, with the reference present, 4: the management complex starts, the plan is verified, presentation settles (R560). -/
def State.startMc (s : State) (planSig refPresent : Bool) : State :=
  let b := s.flashPlan
  let good := s.planAccepts b planSig
  let s : State := { s with fwDigest := Config.sha512 s.flashImage, fwComps := s.imageComps, boot := { s.boot with phase := phMGMT, planVerified := good } }
  let s := if good then s.holdPlan b else if b.isEmpty then s else s.raise .sec 0x104 1 {}
  let s : State := { s with bootPlan := s.plan, boot := { s.boot with fastTest := good && planFast b } }
  let s := s.present
  let role := if s.plan.isEmpty then 0 else if planPrimary s.plan == s.fuses.serial then 1 else if planStandby s.plan == s.fuses.serial then 2 else 0
  let s := ((s.setFld .smt F.SMT_CTRL_ROLE role).showChannels).showProxy
  let s := mgmtPages.foldl State.blkReady s
  let s := State.showFunctions { s with boot := { s.boot with phase := phWAIT_REFCLK } }
  if refPresent then s.refclkUp else s

/-- Step 2: the flash image passes R564, or the recovery loader runs (R560, R566). -/
def State.checkImage (s : State) (f : BootFind) : State :=
  match s.imageCheck f with
  | some _ => (State.showChannels (State.setFld { s with boot := { s.boot with phase := phRECOVERY } } .pci F.PCI_STATUS_RECOVERY 1)).showFunctions
  | none => (s.setFld .pci F.PCI_STATUS_RECOVERY 0).startMc f.planSig f.refPresent

/-- Bring-up from step 1 of a machine that has nothing (R559, R560, 14 R532, R558). -/
def State.bringUp (s : State) (f : BootFind) : State :=
  let s : State := { s with mgmtOn := true, straps := f.straps, pos := f.straps.brdPos.val }
  let s := (s.setFld .sec F.SEC_STATUS_LIFECYCLE s.fuses.lifecycle).showChannels
  if !f.spOk then State.raise { s with boot := { s.boot with phase := phHALTED } } .sec 0x105 4 {}
  else
    let s := if f.chainOk then s.setFld .sec F.SEC_STATUS_IDENTITY_OK 1 else s.raise .sec 0x103 1 {}
    s.checkImage f

/-- REFCLK_PRESENT: the reference first appears after step 3 (R560, R567). -/
def refclkPresent (s : State) : State := if s.boot.phase = phWAIT_REFCLK then s.refclkUp else s

/-- The next rail of step 5; the last leads to step 6, and the arrays of the dies in service are in SELFTEST until step 8 (R560, 03 R132, 18 R649). -/
def State.nextRail (s : State) : State :=
  let n := s.boot.rail + 1
  let s : State := { s with boot := { s.boot with rail := n, phase := if n < railOrder.length then phRAILS else phCLOCKS } }
  if n < railOrder.length then s.enableRail else (allCDies.filter (fun c => !(s.fencedDies.contains (CDie.die c)))).foldl (fun t c => t.setMsf c msfSELFTEST) s

/-- RAIL_POWER_GOOD (18 R649). -/
def railPowerGood (s : State) : State := if s.boot.phase = phRAILS then s.nextRail else s

/-- The loss of a rail: a compute die's or PD1's fences the die, whose voltage request is abandoned; another is device fatal (12 R486, 18 R662). -/
def State.loseRail (s : State) (r : Rail) : State :=
  let lost (d : Die) (s : State) : State := { s with lostRails := if s.lostRails.contains d then s.lostRails else s.lostRails ++ [d] }
  match r with
  | .cd n =>
    let s := s.setPwr n.val { s.pwrSt n.val with raise := none, deferred := none }
    lost (CDie.die n) ((s.raise (.pwr pd0) 0x107 1 {}).fenceDie (CDie.die n))
  | .pd1 => lost pd1 ((s.raise (.pwr pd0) 0x107 1 {}).fenceDie pd1)
  | _ => s.raise (.pwr pd0) 0x108 4 {}

/-- RAIL_PG_TIMEOUT: the rail is handled as lost; a device-fatal loss stops bring-up in HALTED (R568). -/
def railPgTimeout (s : State) : State :=
  if s.boot.phase != phRAILS then s else
  match railOrder[s.boot.rail]? with
  | none => s
  | some r =>
    let s := s.loseRail r
    match r with
    | .cd _ => s.nextRail
    | .pd1 => s.nextRail
    | _ => s.halt

/-- The fixed RTR_PORT values of a compute die's die-to-die ports (08 R327). -/
def State.ringEntries (s : State) (c : CDie) : State :=
  let b := Page.base (.rtr (CDie.die c)) + 0x120
  let dl (on : Bool) : Nat := if on then 1 <<< 4 else 0
  let s := (((s.wr b (BitVec.ofNat 32 (7 + 1 <<< 8))).wr (b + 4) (BitVec.ofNat 32 (7 + 1 <<< 8))).wr (b + 8)
    (BitVec.ofNat 32 (6 + dl (c.val = 7) + 1 <<< 8))).wr (b + 12) (BitVec.ofNat 32 (6 + 1 <<< 3 + dl (c.val = 0) + 1 <<< 8))
  let gone (d : Die) (i : Nat) (t : State) : State := if t.fencedDies.contains d then t.clearMember c i else t
  gone (CDie.die (cdDown c)) 3 (gone (CDie.die (cdUp c)) 2 (gone pd1 1 s))

/-- The die-to-die links of a die. -/
def d2dPages (d : Die) : List Page :=
  match Die.cd? d with
  | some c => [.d2dC c .toPd0, .d2dC c .toPd1, .d2dC c .ringPlus, .d2dC c .ringMinus]
  | none => allCDies.map (fun n => .d2dP (if d = pd0 then 0 else 1) n)

/-- A die's link trains: ACTIVE at both ends, unless it failed or the die at its other end is fenced or in core reset (R299, R304). -/
def State.linkUp (s : State) (p : Page) : State :=
  if s.fencedDies.contains p.die || s.fencedDies.contains p.d2dFar.die || s.inReset p.d2dFar.die || s.fld p F.D2D_STATE_STATE = D2D_FAILED then s
  else ((s.d2dState p 2).d2dState p.d2dFar 2).blkReady p |>.blkReady p.d2dFar

/-- Lines of an array that count as failed at a self-test: those it finds, those the fuse store names, and the epoch's suspects (03 R87, R139). -/
def State.failedLines (s : State) (t : SelfTest) (c : CDie) : List (Bool × Nat) :=
  ((t.badLines.filter (fun x => x.1 == c)).map (·.2) ++ (s.fuses.badLines.filter (fun x => x.1 == c.val)).map (fun x => (x.2.1, x.2.2)) ++
    (s.repairLines.filter (fun x => x.1 == c)).map (·.2)).eraseDups

/-- Two failed lines of one group cannot be repaired (03 R88). -/
def unrepairable (ls : List (Bool × Nat)) : Bool := ls.any (fun a => ls.any (fun b => a != b && lineGroup a == lineGroup b))

/-- Step 8 for a die: SELFTEST ends IDLE with the spare mapping, or UNAVAILABLE (03 R87, R88, R132). -/
def State.arrayTest (s : State) (t : SelfTest) (c : CDie) : State :=
  let ls := s.failedLines t c
  let s := s.setArray c { s.array c with failed := ls }
  if unrepairable ls then (s.setMsf c msfUNAVAILABLE).setFld (.msf c) F.MSF_ARRAY_UNAVAILABLE 1
  else (s.setMsf c msfIDLE).blkReady (.msf c)

/-- Steps 6–8 for one die (R569, R573): its links train, its units are tested, it is fenced where one cannot be repaired. -/
def State.dieUp (s : State) (t : SelfTest) (d : Die) : State :=
  if s.fencedDies.contains d then s else
  let s := (s.setFld (.clk d) F.CLK_STATUS_LOCK 1).setFld (.clk d) F.CLK_STATUS_REF_PRESENT 1
  let s := ([.clk d, .pwr d, .rtr d] : List Page).foldl State.blkReady s
  let s := match Die.cd? d with | some c => s.ringEntries c | none => s
  let s := (d2dPages d).foldl State.linkUp s
  let s := (t.repaired.filter (fun e => (d2dPages d).contains e.1)).foldl (fun u e => u.setFld e.1 F.D2D_STATE_REPAIRED e.2) s
  let s := ((d2dPages d).filter (fun p => t.badLinks.contains p || t.badLinks.contains p.d2dFar)).foldl State.d2dFail s
  match Die.cd? d with
  | some c =>
    if s.fencedDies.contains d then s
    else if t.badDies.contains d then s.fenceDie d
    else
      let s := ([.trn c, .vcx c, .crn c, .dma c] : List Page).foldl State.blkReady s
      let s : State := { s with boot := { s.boot with
        coreHoles := (s.boot.coreHoles ++ (t.badCores.filter (fun x => x.1 == c)).map (fun x => c.val * 32 + x.2.val)).eraseDups
        dmaHoles := (s.boot.dmaHoles ++ (t.badEngines.filter (fun x => x.1 == c)).map (fun x => c.val * 16 + x.2.val)).eraseDups } }
      s.arrayTest t c
  | none =>
    let k : PDie := if d = pd0 then 0 else 1
    let s := (if d = pd0 then mgmtPages.foldl State.blkReady s else s).blkReady (.agt k)
    let s := (diePorts k).foldl (fun u q => u.blkReady (.lnk q)) s
    let s := (allOpts.filter (fun j => Port.pdie (OptPort.port j) == k)).foldl (fun u j => u.blkReady (.opt j)) s
    if !(t.badDies.contains d) then s
    else if d = pd1 then s.fenceDie pd1
    else s.halt

/-- The ports bring-up trains: those the verified plan marks present, every port with no plan (07 R284; log entry 45). -/
def State.bootPorts (s : State) : List Port :=
  let up := allPorts.filter (fun q => !(s.fencedDies.contains (PDie.die (Port.pdie q))))
  match planCoordOf s.bootPlan s.fuses.serial with
  | some co => if s.bootPlan.isEmpty then up else up.filter (plannedPresent s.bootPlan s.profile co)
  | none => up

/-- The stacks of the dies in service start training (R561). -/
def State.startStacks (s : State) (c : CDie) : State :=
  if s.fencedDies.contains (CDie.die c) then s
  else [0, 1, 2].foldl (fun (t : State) (k : Nat) => t.setFld (.mem c) (F.MEM_STACK_STATE k) skTRAINING) s

/-- Rounds of the memory test that are over: the stacks of their two dies have settled (06 R257). -/
def State.settleRounds (s : State) : Nat → State
  | 0 => s
  | n + 1 =>
    let r := s.boot.rounds
    if h : r < 4 then
      if s.stackSettled ⟨2 * r, by omega⟩ && s.stackSettled ⟨2 * r + 1, by omega⟩ then
        State.settleRounds { s with boot := { s.boot with rounds := r + 1 } } n
      else s
    else s

/-- BRINGUP_BRANCHES_START: steps 6–8, and the branches start (R560, R561, R569). -/
def bringupBranchesStart (t : SelfTest) (s : State) : State :=
  if s.boot.phase != phCLOCKS then s else
  let s : State := { s with boot := { s.boot with phase := phFABRIC_MEMORY, rounds := 0, coreHoles := [], dmaHoles := [] } }
  let s := allDies.foldl (fun u d => u.dieUp t d) s
  if s.boot.phase = phHALTED then s else
  let s := s.bootPorts.foldl (fun u q => u.startTrain q false) s
  let s := allCDies.foldl State.startStacks s
  ((s.settleRounds 4).showProxy).bringupReady

/-- Granules mapped with n stacks left: 192, 128 or 64 GiB (06 R258). -/
def mappedOf (n : Nat) : Nat := 256 * n

/-- A die's memory becomes READY when all of its remaining stacks are, and the staging granule is reserved on the lowest such die (06 R259,
R579). -/
def State.memoryUp (s : State) (c : CDie) : State :=
  let n := ([0, 1, 2] : List Nat).countP (fun k => s.fld (.mem c) (F.MEM_STACK_STATE k) = skREADY)
  if !(s.stackSettled c) || n = 0 || s.memFenced.contains c || s.flag (.mem c) F.BLK_STATUS_READY then s else
  let s : State := { s with mappedGran := Store.set (fun _ => 768) s.mappedGran c.val (mappedOf n) }
  let s := (s.memZero c 0 memSpan).blkReady (.mem c)
  match s.staging with
  | some (d, _) => if c.val < d.val then { s with staging := some (c, mappedOf n - 1) } else s
  | none => { s with staging := some (c, mappedOf n - 1) }

/-- The eligible stacks of the round under way, which show REPAIR until then, are TESTING (06 R257, R259). -/
def State.startRound (s : State) : State :=
  allCDies.foldl (fun t c => if c.val / 2 != s.boot.rounds then t else [0, 1, 2].foldl (fun (t : State) (k : Nat) =>
    if t.boot.eligible.contains (3 * c.val + k) && t.fld (.mem c) (F.MEM_STACK_STATE k) = skREPAIR then
      t.setFld (.mem c) (F.MEM_STACK_STATE k) skTESTING else t) t) s

/-- A stack has settled: the memory of its die may be up, the round over, the next begun, bring-up complete (06 R257–R259, 15 R561). -/
def State.stackOver (s : State) (c : CDie) : State := (((s.memoryUp c).settleRounds 4).startRound).bringupReady

/-- Remap entries of a stack for rows at bring-up; a channel that would need more than 256 fails the stack (06 R248, R250, R258). -/
def State.bringupRemap (s : State) (c : CDie) (k : Fin 3) (rows : List (Fin 12 × BitVec 22)) : State × Bool :=
  let full := (List.finRange 12).any (fun ch => decide (256 < s.remapCount c k ch + rows.countP (fun r => r.1 == ch)))
  if full then (s, false) else ({ s with remaps := s.remaps ++ rows.map (fun r => ⟨c, k, r.1, r.2, 0⟩) }, true)

/-- STACK_TRAINING_REPAIR_DONE: the logged rows that hard repair covers leave the log, the others are remapped again, and the stack becomes eligible for its
round; or it is FAILED (R571, 06 R250, R257, R258). -/
def stackTrainingDone (c : CDie) (k : Fin 3) (pass : Bool) (fixed : List (Fin 12 × BitVec 22)) (s : State) : State :=
  let f := F.MEM_STACK_STATE k.val
  if s.dieDown c || s.boot.phase != phFABRIC_MEMORY || s.fld (.mem c) f != skTRAINING then s
  else
    let mine (r : RepairEntry) : Bool := r.die == c && r.stack == k
    let s : State := { s with repairLog := s.repairLog.filter (fun r => !(mine r && fixed.contains (r.ch, r.row))) }
    let (s, fits) := s.bringupRemap c k ((s.repairLog.filter mine).map (fun r => (r.ch, r.row)))
    if pass && fits then
      ((State.setFld { s with boot := { s.boot with eligible := s.boot.eligible ++ [3 * c.val + k.val] } } (.mem c) f skREPAIR).startRound)
    else (s.setFld (.mem c) f skFAILED).stackOver c

/-- STACK_TEST_DONE: failed rows are remapped and logged; the stack shows READY, or FAILED when the test fails or a channel needs more than 256
entries (R571, 06 R248, R250, R257–R259). Only a stack of the round under way ends its test. -/
def stackTestDone (c : CDie) (k : Fin 3) (pass : Bool) (rows : List (Fin 12 × BitVec 22)) (s : State) : State :=
  let f := F.MEM_STACK_STATE k.val
  if s.dieDown c || s.fld (.mem c) f != skTESTING || !(s.boot.eligible.contains (3 * c.val + k.val)) || c.val / 2 != s.boot.rounds then s else
  let rows := rows.eraseDups.filter (fun r => !(s.isRemapped c ⟨k, r.1, r.2, none⟩))
  let s := rows.foldl (fun (t : State) r => t.logRepair c ⟨k, r.1, r.2, none⟩) s
  let s := s.setFld (.mem c) (F.MEM_STACK_TEST_ROWS k.val) (min 0xFFFF rows.length)
  let (s, fits) := s.bringupRemap c k rows
  if pass && fits then (s.setFld (.mem c) f skREADY).stackOver c
  else (State.setFld { s with boot := { s.boot with eligible := s.boot.eligible.filter (· != 3 * c.val + k.val) } } (.mem c) f skFAILED).stackOver c

/-- The board sessions open: position 0 with each other position, with fresh keys (16 R597, 14 R541). -/
def State.boardSessions (s : State) : State :=
  (if s.pos = 0 then [1, 2, 3] else [0]).foldl State.openBoard s

/-- BOARD_PRES_CONFIRM: board-unified presentation holds when a port of each of the N1, N2 and N3 bundles has reported the package's own plan
digest; otherwise it falls back (R570, 00 R12). -/
def boardPresConfirm (s : State) : State :=
  if s.boot.boardSettled || s.boot.phase != phFABRIC_MEMORY then s else
  let own := digest16 s.bootPlan
  let heard (k : Nat) : Bool := allPorts.any (fun q => portRole s.profile q == .n k && s.flag (.lnk q) F.LNK_PARTNER_VALID && (s.port q).planDigest == own)
  let good := heard 1 && heard 2 && heard 3
  let s : State := { s with boot := { s.boot with boardSettled := true, boardPres := good, fallback := s.boot.fallback || !good } }
  let s := s.setFld .pci F.PCI_STATUS_BOARD_UNIFIED good.toNat
  let s := if good then s.boardSessions else s
  let s := if good then s else s.notify 4 0x0101 []
  s.bringupReady

end Sys2Proof.Machine
end

