-- ==== Sys2Proof/Machine/Resets.lean ====
section
/-! DEFINITION. Resets and the fault hub's commands: core, management and device reset, recovery, watchdog, log and injection (17 R639–R641,
R678, 13 R499–R517, 14 R549, R557). -/

namespace Sys2Proof.Machine

/-- A fresh 32-byte debug challenge (14 R549). -/
def State.newChallenge (s : State) : State :=
  let (r, s) := s.random256
  (List.range 8).foldl (fun t i => t.wr (Page.base .sec + 0x110 + 4 * i) (BitVec.ofNat 32 (r.toNat >>> (32 * i)))) s

/-- Debug relocks (14 R550). -/
def State.relockDebug (s : State) : State :=
  if s.fld .sec F.SEC_STATUS_DEBUG = 0 then s else (s.setFld .sec F.SEC_STATUS_DEBUG 0).fireEvent .sec 1

/-- A management reset begins (R639, R678): the device side of the non-secure and VF channels resets, debug relocks, the challenge is replaced,
and core code and firmware that have verified take effect, but for the security processor's (15 R583). -/
def State.mgmtReset (s : State) (cause : Nat) : State :=
  let s := s.setFld .rst F.RST_CAUSE_MGMT cause
  let s := ((List.range 100).filter (fun k => 4 ≤ k)).foldl (fun t k => t.resetChan k false true) s
  let s := s.relockDebug.newChallenge
  let s : State := match s.codeStaged with | some d => { s with codeHeld := d, codeStaged := none } | none => s
  let s : State := if !s.fwStaged then s else
    { s with fwDigest := Config.sha512 s.flashImage, fwStaged := false
             fwComps := [(s.imageComps[0]?).getD 0, (s.fwComps[1]?).getD 0, (s.imageComps[2]?).getD 0] }
  { s with mcReset := true }

/-- RST_CTRL_MGMT (R678). -/
def rstCtrlMgmt (s : State) : State := (s.setFld .rst F.RST_CTRL_MGMT 1).mgmtReset 2

/-- MGMT_RESET_DONE: the management complex answers again; a primary restarts ISOLATED (R678, 11 R449). -/
def mgmtResetDone (s : State) : State :=
  if !s.mcReset then s else
  let s := State.setFld { s with mcReset := false } .rst F.RST_CTRL_MGMT 0
  let s := State.followPlateau { s with smt := { s.smt with jobs := [], open_ := [], claim := none } }
  if s.fld .smt F.SMT_STATE_PAIR = 1 || s.fld .smt F.SMT_STATE_PAIR = 2 then (s.setFld .smt F.SMT_STATE_PAIR 3).fireEvent .smt 2 else s

/-- A device reset (R639): everything but fuses, flash and the management supply selection; the core rails go off first (18 R649); RST_CAUSE shows why. -/
def State.deviceReset (s : State) (f : BootFind) (cause : Nat) : State :=
  let sup := s.rd (Page.base (.pwr pd0) + F.PWR_MGS_ACTIVE.off)
  ((s.dropRails.cold.wr (Page.base (.pwr pd0) + F.PWR_MGS_ACTIVE.off) sup).setFld .rst F.RST_CAUSE_DEVICE cause).bringUp f

/-- RESET_N held low (R639). -/
def resetN (f : BootFind) (s : State) : State := if s.mgmtOn then s.deviceReset f 1 else s

/-- RST_CTRL_DEVICE: acts only with KEY 0xD5 (R639, R643). Without it nothing changes: DEVICE, which would show that a reset is under way, stays 0
(DESIGN CHOICE, log entry 14). -/
def rstCtrlDevice (v : Word) (f : BootFind) (s : State) : State :=
  if v.getLsbD 17 && v.toNat >>> 24 == 0xD5 then s.deviceReset f 2 else s

/-- MGMT_POWER_ON: one input enters its window and the machine starts from nothing (R639, 15 R560, 12 R484). -/
def mgmtPowerOn (b other : Bool) (f : BootFind) (s : State) : State :=
  if s.mgmtOn then s else
  let s := ((s.cold.setFld (.pwr pd0) F.PWR_MGS_ACTIVE b.toNat).setFld (.pwr pd0) F.PWR_MGS_A_OK (!b || other).toNat).setFld (.pwr pd0)
    F.PWR_MGS_B_OK (b || other).toNat
  s.bringUp f

/-- Registers of PD0's pages that a core reset of PD0 leaves (log entry 46): the hub's state and log, which only a device reset clears (13 R508, R509);
the resets in progress and their causes; the presentation and the state of the device in PCI_STATUS and PCI_PROXY; the management supplies (12 R485). -/
def pd0Keeps (p : Page) (off : Nat) : Bool :=
  match p with
  | .flt => (0x104 ≤ off && off ≤ 0x110) || (0x11C ≤ off && off ≤ 0x140)
  | .rst => 0x100 ≤ off && off ≤ 0x108
  | .pci => off == 0x100 || off == 0x104
  | .pwr d => d == pd0 && off == F.PWR_MGS_ACTIVE.off
  | _ => false

/-- A register that a core reset of a die clears: every page of the die but CLK (R639). -/
def resetReg (d : Die) (p : Page) (off : Nat) : Bool :=
  p.die == d && (match p with | .clk _ => false | _ => true) && !(pd0Keeps p off)

/-- The registers that `f` names, by page and offset, return to their reset values; a record goes with its page's. -/
def State.clearRegs (s : State) (f : Page → Nat → Bool) : State :=
  { s with regs := Store.keep (fun a => match pageOf a with | some p => !(f p (a % 0x1000)) | none => true) s.regs
           quietPages := s.quietPages.filter (fun a => match pageOf a with | some p => !(f p 0x20) | none => true) }

/-- Packets a die holds go with its router, those that wait for it elsewhere are discarded, and its links start anew (R639, 07 R304, 08 R347). -/
def State.dropDie (s : State) (d : Die) : State :=
  let s := (s.transits.filter (fun t => t.die == d || t.out == .die d)).foldl (fun t x => t.dropTransit x .fenced) s
  let s := allDies.foldl (fun (t : State) x => (t.clearLink x d).clearLink d x) s
  if 8 ≤ d.val then { s with reserved := [] } else s

/-- What a core reset of a compute die clears besides its pages (03 R139, 05 R227, 06 R263, 14 R555); it starts at k = 6 (12 R488). -/
def State.clearCompute (s : State) (c : CDie) : State :=
  let s := ((s.c3Die c).dropRequests c).dropDie (CDie.die c)
  let a := s.array c
  let stk := (List.range 3).map (fun k => s.fld (.mem c) (F.MEM_STACK_STATE k))
  let s := s.setArray c { suspects := a.suspects }
  let s : State := { s with
    queues := Store.keep (fun k => (QRef.ofKey k).die != c) s.queues
    cairns := Store.keep (fun k => k / 8192 != c.val) s.cairns
    tracks := Store.keep (fun k => k / 16 != c.val) s.tracks
    cores := Store.keep (fun k => k / 32 != c.val) s.cores
    fclk := Store.keep (fun k => k != c.val) s.fclk
    dispatches := s.dispatches.filter (fun d => d.ref.die != c)
    dmaRuns := s.dmaRuns.filter (fun r => r.ref.die != c)
    windows := s.windows.filter (fun w => w.die != c)
    savedRemaps := s.savedRemaps ++ s.remaps.filter (fun r => r.die == c)
    remaps := s.remaps.filter (fun r => r.die != c)
    zeroOrders := (Store.keep (fun k => k % 8 != c.val) s.zeroOrders) }
  let s := (s.tarnZero c 0 tarnSpan).clearRegs (resetReg (CDie.die c))
  let s := (s.setPwr c.val {}).setFld (.clk (CDie.die c)) F.CLK_STATUS_ACLK_K 6
  if s.memFenced.contains c then (stk.zipIdx.foldl (fun (t : State) e => t.setFld (.mem c) (F.MEM_STACK_STATE e.2) e.1) s) else s

/-- A port die's router, ports and agent reset: packets, tables, keys and the agent's store go, and the registers that `f` names; the package
coordinate stays with the other dies (07 R300, 10 R404). -/
def State.clearFabric (s : State) (k : PDie) (f : Page → Nat → Bool) : State :=
  let d := PDie.die k
  let co := s.rd (Page.base (.agt k) + F.AGT_COORD_COORD.off)
  let s := s.dropDie d
  let s : State := { s with
    ports := Store.keep (fun n => if h : n < 24 then Port.pdie ⟨n, h⟩ != k else true) s.ports
    tables := Store.keep (fun t => t / 8192 != d.val) s.tables
    agents := Store.keep (fun n => n != k.val) s.agents }
  (s.clearRegs f).wr (Page.base (.agt k) + F.AGT_COORD_COORD.off) co

/-- A core reset of PD0 also resets the host interface and both sides of every channel, the Summit role, the partitions and the ridge line's pages; the
proxies and channels show what the device still is (16 R596, 14 R557, 11 R451, 17 R639; log entry 46). -/
def State.clearPd0 (s : State) : State :=
  let s := (List.range 100).foldl (fun t k => t.resetChan k true true) (perstN s)
  let s := (List.finRange 64).foldl (fun (t : State) p => if (t.part? p).isSome then ((t.scrub p).setPart p none).setPartState p ptNORMAL else t) s
  let s := (State.setPwr { s with smt := {}, pairSess := none, ridge := {}, quietParts := [] } 10 {}).clearFabric 0 (resetReg pd0)
  let s := (s.setFld .sec F.SEC_STATUS_LIFECYCLE s.fuses.lifecycle).setFld .sec F.SEC_STATUS_IDENTITY_OK 1
  ((s.setFld .sec F.SEC_STATUS_PLAN_OK (!s.plan.isEmpty).toNat).showChannels).showConf

/-- What a core reset of a port die clears. -/
def State.clearPortDie (s : State) (k : PDie) : State :=
  if k = 0 then s.clearPd0 else (s.setPwr pd1.val {}).clearFabric k (resetReg pd1)

/-- A core reset of a die begins (R640): the die is held, its links are down. A fenced die is reset too, and stays fenced (log entry 46). -/
def State.beginCoreReset (s : State) (d : Die) : State :=
  if s.inReset d then s else
  let bit (f : Field) (t : State) : State := t.setFld .rst f (t.fld .rst f ||| 2 ^ d.val)
  let s := match Die.cd? d with
    | some c => s.clearCompute c
    | none => s.clearPortDie (if d = pd0 then 0 else 1)
  let s := (d2dPages d).foldl (fun t p => if t.fld p.d2dFar F.D2D_STATE_STATE = 2 then t.d2dState p.d2dFar 1 else t) s
  bit F.RST_CTRL_CORE (bit F.RST_STATUS_IN_RESET s)

/-- RST_CTRL_CORE: the named dies enter core reset (R640, R643). -/
def rstCtrlCore (mask : BitVec 10) (s : State) : State :=
  (allDies.filter (fun d => mask.getLsbD d.val)).foldl State.beginCoreReset s

/-- The bits of a die in RST_CTRL and RST_STATUS clear, which CORE_DONE tells (R640, R643, 19 R669). -/
def State.endReset (s : State) (d : Die) : State :=
  if !(s.inReset d) then s else
  let bit (f : Field) (t : State) : State := t.setFld .rst f (if (t.fld .rst f).testBit d.val then t.fld .rst f - 2 ^ d.val else t.fld .rst f)
  (bit F.RST_CTRL_CORE (bit F.RST_STATUS_IN_RESET s)).fireEvent .rst 1

/-- A die aligns its GTIME to PD0's, never backward (R626, R627). -/
def State.alignDie (s : State) (d : Die) : State :=
  let t := s.now pd0
  if (s.now d).toNat < t.toNat then { s with gtime := Store.set (fun _ => 0) s.gtime d.val t } else s

/-- A die leaves core reset: steps 6–8 rerun, and a compute die's memory retrains unless fenced (R640, 06 R263). A fenced die stays a hole (01 R44). -/
def State.finishCoreReset (s : State) (t : SelfTest) (d : Die) : State :=
  if !(s.inReset d) then s else
  let s := ((s.endReset d).alignDie d).dieUp t d
  match Die.cd? d with
  | some c => if s.memFenced.contains c || s.fencedDies.contains d then s else
      [0, 1, 2].foldl (fun (u : State) (k : Nat) => if u.boot.eligible.contains (3 * c.val + k) then u.setFld (.mem c) (F.MEM_STACK_STATE k) skTRAINING
        else u.setFld (.mem c) (F.MEM_STACK_STATE k) skFAILED) s
  | none => s

/-- CORE_RESET_DONE (R640). -/
def coreResetDone (t : SelfTest) (d : Die) (s : State) : State := s.finishCoreReset t d

/-- CORE_RESET_FAIL: a C1 fault, and the die is fenced; PD0's failure is device fatal (R641, 01 R44). -/
def coreResetFail (d : Die) (s : State) : State :=
  if !(s.inReset d) then s else
  let s := s.endReset d
  let s := s.raise .rst 0x100 1 {}
  if d = pd0 then s.c4React .rst 0x100 else s.fenceDie d

/-- CORE_RESET_MEMORY_READY: the stacks have retrained, the whole memory is zero, and the remap entries logged in the epoch are installed again
(06 R263). -/
def coreResetMemoryReady (c : CDie) (s : State) : State :=
  if s.dieDown c || s.memFenced.contains c || s.flag (.mem c) F.BLK_STATUS_READY ||
      !([0, 1, 2].any (fun k => s.fld (.mem c) (F.MEM_STACK_STATE k) == skTRAINING)) || s.boot.phase = phFABRIC_MEMORY then s else
  let s := [0, 1, 2].foldl (fun (u : State) (k : Nat) =>
    if u.fld (.mem c) (F.MEM_STACK_STATE k) = skTRAINING then u.setFld (.mem c) (F.MEM_STACK_STATE k) skREADY else u) s
  let back := (s.savedRemaps.filter (fun r => r.die == c)).map (fun r => { r with source := 2 })
  let s : State := { s with remaps := s.remaps ++ back, savedRemaps := s.savedRemaps.filter (fun r => r.die != c) }
  (s.memZero c 0 memSpan).blkReady (.mem c)

/-- A recovery begins, `recent` the starts of those before it within the hour: every compute die enters core reset, PD1 too when it is not fenced, and PD0's router, ports
and agent data path with them; the management complex resets where its own failure was the cause (13 R509, R510). -/
def State.recover (s : State) (recent : List (BitVec 64)) : State :=
  let now := s.now pd0
  let dead := s.flag .flt F.FLT_FATAL_VALID && s.fld .flt F.FLT_FATAL_SOURCE = 0x101 && s.fld .flt F.FLT_FATAL_BLOCK = 0x80
  let s : State := { s with recoveryTimes := recent ++ [now] }
  let s := (s.setFld .flt F.FLT_STATE_STATE hubRECOVERING).setFld .flt F.FLT_STATE_RECOVERIES (min 255 (s.fld .flt F.FLT_STATE_RECOVERIES + 1))
  let s := ((allDies.filter (fun d => d != pd0 && !(d == pd1 && s.fencedDies.contains d))).foldl State.beginCoreReset s).clearFabric 0 (fun p _ => p.inPath)
  if dead then s.mgmtReset 3 else s

/-- RECOVERY_START: the quiet period passes in SAFE; `active`: a C4 source is active, as while a sensor that has tripped reads 110 °C or above. THERMTRIP_N is
released as SAFE ends (13 R509, R510, 18 R657). -/
def recoveryStart (active : Bool) (s : State) : State :=
  if s.fld .flt F.FLT_STATE_STATE != hubSAFE || active then s
  else
    let s : State := { s with thermtrip := false }
    if 3 ≤ s.recentRecoveries.length then s.setFld .flt F.FLT_STATE_STATE hubLOCKED else s.recover s.recentRecoveries

/-- Every record of the package empties, with FLT_FATAL (13 R510). -/
def State.clearRecords (s : State) : State :=
  let s : State := { s with
    regs := Store.mapVals (regReset s.fuses) (fun a w =>
      if (pageOf a).isSome && (a % 0x1000 = 0x20 || a % 0x1000 = 0x24) then 0
      else if (pageOf a).isSome && a % 0x1000 = 0x0C then setF w F.BLK_STATUS_FAULTED 0 else w) s.regs
    quietPages := [] }
  ((s.wr (Page.base .flt + 0x108) 0).wr (Page.base .flt + 0x10C) 0).wr (Page.base .flt + 0x110) 0

/-- Partitions and distributions are gone after a recovery (13 R510, 15 R584). -/
def State.clearAllParts (s : State) : State :=
  let s := (List.finRange 64).foldl (fun (t : State) p =>
    (((if (t.part? p).isSome then t.scrub p else t).setPart p none).setPartState p ptNORMAL).showVf p) s
  State.showConf { s with quietParts := [], dist := none }

/-- RECOVERED_IDLE: every record and partition is gone and the ports are DISABLED; the dies leave core reset, or a bring-up that a C4 fault cut short runs
steps 5–8 again (13 R510, 15 R584). -/
def State.recovered (s : State) (t : SelfTest) : State :=
  let s := s.clearRecords.clearAllParts
  let s := allPorts.foldl (fun u q => if u.lnk q = lkSAFE then u.enterLnk q lkDISABLED true else u) s
  let s := s.setFld .flt F.FLT_STATE_STATE hubRECOVERED_IDLE
  if s.boot.phase < phREADY && phRAILS ≤ s.boot.phase then
    let s := allDies.foldl State.endReset s
    { s with boot := { s.boot with phase := phRAILS, rail := 0, eligible := [] } }
  else (allDies.foldl (fun u d => u.finishCoreReset t d) s).dieUp t pd0

/-- RECOVERY_COMPLETE: RECOVERING becomes RECOVERED_IDLE (13 R509, R510). -/
def recoveryComplete (t : SelfTest) (s : State) : State := if s.fld .flt F.FLT_STATE_STATE != hubRECOVERING then s else s.recovered t

/-- WATCHDOG_EXPIRE: a C1 fault and a management reset; the fourth in a row is a C4 fault (13 R512). -/
def watchdogExpire (s : State) : State :=
  if !(s.flag .flt F.FLT_WDOG_EN) || s.mcReset then s else
  let n := min 4 (s.fld .flt F.FLT_WDOG_MISSES + 1)
  let s := s.setFld .flt F.FLT_WDOG_MISSES n
  let s := s.raise .flt 0x100 1 {}
  let s := s.mgmtReset 1
  if n = 4 then s.raise .flt 0x101 4 {} else s

/-- WATCHDOG_KICK: 0xA5 restarts the watchdog; any other value is ignored (13 R512). -/
def watchdogKick (v : Word) (s : State) : State := if v.toNat % 256 = 0xA5 then s.setFld .flt F.FLT_WDOG_MISSES 0 else s

/-- LOG_POP: the oldest entry goes (13 R520). -/
def logPop (v : Word) (s : State) : State := if v.getLsbD 0 then { s with fltLog := s.fltLog.drop 1 } else s

/-- A checker of a block that names a C4 source: page parity (13 R493, R514). -/
def c4Checker (v : Nat) : Bool := v == 15

/-- INJ_CTRL_WRITE: the fields are written, and a mode arms the checker, or is refused (13 R513–R517). Page parity fires as it is armed (log entry
47). -/
def injCtrlWrite (p : Page) (v : Word) (s : State) : State :=
  let s := if v.getLsbD 9 then s.setFld p F.INJ_CTRL_FIRED 0 else s
  let s := if v.getLsbD 10 then s.setFld p F.INJ_CTRL_REFUSED 0 else s
  let ck := bits v.toNat 3 0
  let mode := bits v.toNat 5 4
  let wt := bits v.toNat 7 6
  let arms := mode == 1 || mode == 2
  let conf := (List.finRange 64).any (fun x => s.isConf x)
  if arms && (conf || (c4Checker ck && !(s.flag .flt F.FLT_CFG_INJ_C4_EN))) then s.setFld p F.INJ_CTRL_REFUSED 1
  else
    let s := ((s.setFld p F.INJ_CTRL_CHECKER ck).setFld p F.INJ_CTRL_MODE mode).setFld p F.INJ_CTRL_WEIGHT wt
    let s := s.setFld p F.INJ_CTRL_ARMED arms.toNat
    if arms && ck = 15 then (s.injFired p).raise p 0x001 4 {} true else s

end Sys2Proof.Machine
end

