-- ==== Sys2Proof/Machine/Time.lean ====
section
/-! DEFINITION. The reference, event lines, GTIME and the ridge line, and TIM_CMD (17 R618–R638). -/

namespace Sys2Proof.Machine

/-- REFCLK_LOSS: holdover (R621). -/
def refclkLoss (s : State) : State :=
  if s.fld (.clk pd0) F.CLK_STATUS_REF_PRESENT = 0 || s.fld (.clk pd0) F.CLK_STATUS_REFLOST_MODE = 1 then s else
  let s := allDies.foldl (fun t d => ((t.setFld (.clk d) F.CLK_STATUS_REF_PRESENT 0).setFld (.clk d) F.CLK_STATUS_HOLDOVER 1).fireEvent (.clk d) 1) s
  let s := s.bump (.clk pd0) C.CLK_REF_LOST 1
  (s.setFld .tim F.TIM_STATUS_ALIGNED 0).raise (.clk pd0) 0x100 1 {}

/-- REFCLK_RETURN: the PLLs relock without a gap (R621). -/
def refclkReturn (s : State) : State :=
  if s.fld (.clk pd0) F.CLK_STATUS_HOLDOVER = 0 then s
  else allDies.foldl (fun t d => (t.setFld (.clk d) F.CLK_STATUS_REF_PRESENT 1).setFld (.clk d) F.CLK_STATUS_HOLDOVER 0) s

/-- HOLDOVER_EXPIRED: the safe state (R621, R641). -/
def holdoverExpired (s : State) : State := if s.fld (.clk pd0) F.CLK_STATUS_HOLDOVER = 0 then s else s.raise (.clk pd0) 0x103 4 {}

/-- PLL_UNLOCK: a die's root PLL loses lock: the die is fenced, or PD0's is device fatal (R641, 01 R44). -/
def pllUnlock (d : Die) (s : State) : State :=
  if s.fld (.clk d) F.CLK_STATUS_LOCK = 0 then s else
  let s := s.setFld (.clk d) F.CLK_STATUS_LOCK 0
  if d = pd0 then s.raise (.clk pd0) 0x102 4 {} else (s.raise (.clk d) 0x101 1 {}).fenceDie d

/-- EVENT_LINE_CROSS: an event arrives on a line of a page; a second before the first is taken is lost with an overrun in native mode
(R623, R624, R679). -/
def eventLineCross (p : Page) (j : Fin 32) (early : Bool) (s : State) : State :=
  if p.nevt ≤ j.val then s
  else if early && s.fld p F.BLK_CTRL_EVT_XMODE = 0 && s.flag p F.BLK_CTRL_ENABLE then s.setFld p ⟨F.EVT_OVERRUN_OVR.off, j.val, 1⟩ 1
  else s.fireEvent p j.val

/-- EVT_COUNT_TAKE: TAKE is subtracted from COUNT, stopping at zero (R624). -/
def evtCountTake (p : Page) (v : Word) (s : State) : State := s.setFld p F.EVT_COUNT_COUNT (s.fld p F.EVT_COUNT_COUNT - v.toNat >>> 16)

/-- BLK_CTRL_WRITE: ENABLE takes its value; EVT_XMODE only while ENABLE was 0 (R625). -/
def blkCtrlWrite (p : Page) (v : Word) (s : State) : State :=
  let was := s.flag p F.BLK_CTRL_ENABLE
  let s := if was then s else s.setFld p F.BLK_CTRL_EVT_XMODE (v.getLsbD 1).toNat
  s.setFld p F.BLK_CTRL_ENABLE (v.getLsbD 0).toNat

/-- GTIME_DIE_ALIGN (R627). -/
def gtimeDieAlign (d : Die) (s : State) : State := if s.inReset d || s.fencedDies.contains d then s else s.alignDie d

/-- SLEWING shows a hold or a slew (R632). -/
def State.showSlew (s : State) : State := s.setFld .tim F.TIM_STATUS_SLEWING (decide (s.ridge.hold ≠ 0 ∨ s.ridge.slew ≠ 0)).toNat

/-- The increment of GTIME at one tick, and the correction that is left (R632). -/
def RidgeSt.tick (r : RidgeSt) : Nat × RidgeSt :=
  if r.hold ≠ 0 then (0, { r with hold := r.hold - 1 })
  else if r.slew = 0 then (1, { r with phase := 0 })
  else if r.phase + 1 < 1024 then (1, { r with phase := r.phase + 1 })
  else if 0 < r.slew then (0, { r with phase := 0, slew := r.slew - 1 })
  else (2, { r with phase := 0, slew := r.slew + 1 })

/-- Increments of GTIME until a correction reaches its target: none while it holds; 1,024 ticks for each tick of a slew, less what has passed of them, and one
increment withheld or added in each (R632). -/
def RidgeSt.untilDone (r : RidgeSt) : Nat := if 0 < r.slew then 1023 * r.slew.natAbs - r.phase else 1025 * r.slew.natAbs - r.phase

/-- Every die's GTIME moves forward. -/
def State.addTime (s : State) (n : Nat) : State :=
  allDies.foldl (fun t d => { t with gtime := Store.set (fun _ => 0) t.gtime d.val (t.now d + BitVec.ofNat 64 n) }) s

/-- GTIME_SLEW_DONE: the correction reaches its target: GTIME is where the ticks until then take it (R632; log entry 85). -/
def gtimeSlewDone (s : State) : State :=
  State.showSlew { s.addTime s.ridge.untilDone with ridge := { s.ridge with hold := 0, slew := 0, phase := 0 } }

/-- The ridge line works from step 4 of bring-up on (R628). -/
def State.ridgeUp (s : State) : Bool := phRAILS ≤ s.boot.phase && s.boot.phase != phHALTED
/-- The package originates and regenerates frames: its pass-through is open, a management input in window and the package not in the safe state (R628). -/
def State.ridgeOpen (s : State) : Bool :=
  s.ridgeUp && s.faultN && (s.flag (.pwr pd0) F.PWR_MGS_A_OK || s.flag (.pwr pd0) F.PWR_MGS_B_OK)

/-- Frames that arrive are regenerated, but for the master's own (R628, R629). -/
def State.regen (s : State) (code : Nat) (body : List Byte) : State :=
  if s.ridgeOpen && !(s.flag .tim F.TIM_STATUS_MASTER) then s.emit (.ridge code body) else s

/-- MARKER_EMIT: at a multiple of 2^20 ticks the master sends its GTIME and the measured delay; its first MARKER carries no measurement (R629, R630, R633). -/
def markerEmit (delay : BitVec 32) (s : State) : State :=
  if !(s.flag .tim F.TIM_STATUS_MASTER) || !s.ridgeOpen || (s.now pd0).toNat % 0x100000 != 0 then s else
  let d : BitVec 32 := if s.ridge.sent then delay else 0xFFFFFFFF
  State.emit { s with ridge := { s.ridge with sent := true } } (.ridge 1 (leBytes (s.now pd0).toNat 8 ++ leBytes d.toNat 4))

/-- A MARKER's offset in 1/48 tick (R631). -/
def markerOff (t : BitVec 64) (d : BitVec 32) (cw ccw : Nat) : Int := (cw : Int) - 48 * (t.toNat : Int) - ((cw : Int) - (ccw : Int) + (d.toNat : Int)) / 2

/-- A MARKER's D lies within 4 units of the previous one's (R631). -/
def nearD (a b : BitVec 32) : Bool := a != 0xFFFFFFFF && a.toNat ≤ b.toNat + 4 && b.toNat ≤ a.toNat + 4

/-- The correction of an applied MARKER, made where its offset exceeds one tick (R631, R632): the first steps GTIME forward, the time of step 1 with it, or holds
it; a later one slews, but for one that comes while GTIME still holds (log entry 85). -/
def State.correct (s : State) (off : Int) : State :=
  let n := off.natAbs / 48
  let s : State := if off.natAbs ≤ 48 || s.ridge.hold != 0 then s
    else if s.ridge.applied then { s with ridge := { s.ridge with slew := if 0 < off then (n : Int) else -(n : Int) } }
    else if 0 < off then { s with ridge := { s.ridge with hold := n } }
    else { s with gtime := Store.set (fun _ => 0) s.gtime pd0.val (s.now pd0 + BitVec.ofNat 64 n), boot := { s.boot with t0 := s.boot.t0 + BitVec.ofNat 64 n } }
  { s with ridge := { s.ridge with applied := true } }

/-- MARKER: measured, which TIM_OFF and ALIGNED show; applied when its D is that of the MARKER before it (R631–R633). -/
def marker (t : BitVec 64) (d : BitVec 32) (cw ccw : Nat) (crcOk : Bool) (s : State) : State :=
  if !s.ridgeUp then s else
  let s := s.regen 1 (leBytes t.toNat 8 ++ leBytes d.toNat 4)
  if !crcOk || s.flag .tim F.TIM_STATUS_MASTER then s else
  let off := markerOff t d cw ccw
  let app := match s.ridge.prevD with | some e => nearD d e | none => false
  let s := if d = 0xFFFFFFFF then s else
    (s.wr (Page.base .tim + F.TIM_OFF_OFF.off) (BitVec.ofInt 32 off)).setFld .tim F.TIM_STATUS_ALIGNED (decide (off.natAbs ≤ 48)).toNat
  let s : State := { s with ridge := { s.ridge with prevD := some d } }
  if app then ((s.correct off).showSlew).fireEvent .tim 2 else s

/-- STOP: every package that receives it raises RACK_STOP (R634). -/
def stopFrame (crcOk : Bool) (s : State) : State :=
  if !s.ridgeUp then s else
  let s := s.regen 2 []
  if crcOk && !(s.flag .tim F.TIM_STATUS_MASTER) then s.raise .tim 0x101 4 {} else s

/-- The MAC address of the management Ethernet port (16 R609). -/
def State.mac (s : State) : List Byte := 2 :: (digest16 (leBytes s.fuses.serial.toNat 16)).take 5

/-- The payload of a frame of the management network, of a KIND (16 R609). -/
def State.netPayload (s : State) (kind : Nat) (body : List Byte) : List Byte :=
  [1, BitVec.ofNat 8 kind] ++ leBytes body.length 2 ++ List.replicate 4 0 ++ leBytes s.fuses.serial.toNat 16 ++ body

/-- The ANNOUNCE frame (16 R610). -/
def State.announce (s : State) : State :=
  if s.boot.phase < phRAILS || s.mcReset then s
  else s.emit (.netFrame s.mac (s.netPayload 3 (s.identity 0 ++ [BitVec.ofNat 8 (s.fld .flt F.FLT_STATE_STATE), BitVec.ofNat 8 s.boot.phase] ++
    List.replicate 14 0)))

/-- The bit of this package in a WAKE mask (R629). -/
def State.rackBit (s : State) : Nat := let c := s.coord pd0 0; (c.x % 4) * 16 + (c.y % 4) * 4 + c.p % 4

/-- A package that a WAKE names: TIM_STATUS.WAKE and an interrupt; firmware answers with ANNOUNCE (R634). -/
def State.woken (s : State) (mask : BitVec 64) : State :=
  if mask.getLsbD s.rackBit then ((s.setFld .tim F.TIM_STATUS_WAKE 1).fireEvent .tim 1).announce else s

/-- WAKE (R634). -/
def wakeFrame (mask : BitVec 64) (crcOk : Bool) (s : State) : State :=
  if !s.ridgeUp then s else
  let s := s.regen 3 (leBytes mask.toNat 8)
  if crcOk && !(s.flag .tim F.TIM_STATUS_MASTER) then s.woken mask else s

/-- MARKER_LOST (R634). -/
def markerLost (s : State) : State := if s.ridgeUp && !(s.flag .tim F.TIM_STATUS_MASTER) then s.raise .tim 0x100 1 {} else s

/-- TIM_CMD (R638): the body after its first byte. -/
def timSetMaster (b : List Byte) (s : State) : State × List Byte :=
  if 1 < imgNat b 0 1 || b.length != 1 then (s, mcREFUSED) else
  let on := imgNat b 0 1 == 1
  let s : State := { s with ridge := { s.ridge with sent := if on && s.flag .tim F.TIM_STATUS_MASTER then s.ridge.sent else false } }
  (s.setFld .tim F.TIM_STATUS_MASTER on.toNat, mcOK)

def timReadXfer (b : List Byte) (s : State) : State × List Byte :=
  let n := imgNat b 0 1
  if b.length != 1 || n < 18 || 24 ≤ n then (s, mcREFUSED) else
  let x := Store.get (fun _ => {}) s.xfers n
  (s, mcOK ++ leBytes x.txF.toNat 8 ++ leBytes x.txT.toNat 8 ++ leBytes x.rxF.toNat 8 ++ leBytes x.rxT.toNat 8)

/-- TIM_ADJ: a master slews its GTIME by the signed number of ticks; it adds to a slew that runs (R636, R638, R642). A positive number moves GTIME
forward (log entry 48). -/
def timAdj (b : List Byte) (s : State) : State × List Byte :=
  if b.length != 8 || !(s.flag .tim F.TIM_STATUS_MASTER) then (s, mcREFUSED) else
  let n := (BitVec.ofNat 64 (imgNat b 0 8)).toInt
  (State.showSlew { s with ridge := { s.ridge with slew := s.ridge.slew - n } }, mcOK)

def timStop (b : List Byte) (s : State) : State × List Byte :=
  if !b.isEmpty || !(s.flag .tim F.TIM_STATUS_MASTER) || !s.ridgeOpen then (s, mcREFUSED)
  else ((s.emit (.ridge 2 [])).raise .tim 0x101 4 {}, mcOK)

def timWake (b : List Byte) (s : State) : State × List Byte :=
  if b.length != 8 || !(s.flag .tim F.TIM_STATUS_MASTER) || !s.ridgeOpen then (s, mcREFUSED) else
  let mask : BitVec 64 := BitVec.ofNat 64 (imgNat b 0 8)
  ((s.emit (.ridge 3 (leBytes mask.toNat 8))).woken mask, mcOK)

/-- TIM_CMD by its subcommand (R638); STOP and WAKE have their effect on the master too (R634). -/
def timCmd (b : List Byte) (s : State) : State × List Byte :=
  let r := b.drop 1
  match imgNat b 0 1 with
  | 0 => timSetMaster r s
  | 1 => timReadXfer r s
  | 2 => timAdj r s
  | 3 => timStop r s
  | 4 => timWake r s
  | _ => (s, mcREFUSED)

/-- One TCLK tick of every die's GTIME; a die in core reset aligns at its release (R618, R626, R627; log entry 2). -/
def State.tickTime (s : State) : State :=
  let (n, r) := s.ridge.tick
  State.showSlew { s.addTime n with ridge := r }

end Sys2Proof.Machine
end

