-- ==== Sys2Proof/Machine/Power.lean ====
section
/-! DEFINITION. Power: operating points, estimates and calibration, the limit loop, plateau, droop, temperature, caps and supplies (12). -/

namespace Sys2Proof.Machine

/-- The setpoint of a step in mV (R452). -/
def setpoint (k : Nat) : Nat := ([600, 620, 640, 660, 685, 710, 735, 765, 795, 820, 850][k - 6]?).getD 850

/-- The voltage a die requests at a step (R453). -/
def State.voltage (s : State) (c : CDie) (k : Nat) : Nat := if k ≤ 6 then 600 else max 600 (setpoint k - 5 * min 5 ((s.fuses.voff[c.val]?).getD 0))

/-- A signed 16-bit field. -/
def sx16 (v : Nat) : Int := twos 16 v

/-- The calibrated estimate G × raw + O in units of 0.125 W (R457; log entry 49). -/
def calibrated (g : Nat) (o : Int) (raw : Nat) : Nat := min 0xFFFF ((((g * raw : Nat) : Int) / 16384 + o).toNat)

/-- The calibrated estimate of a raw one under a page's PWR_CAL. -/
def State.calOf (s : State) (p : Page) (raw : Nat) : Nat := calibrated (s.fld p F.PWR_CAL_GAIN) (sx16 (s.fld p F.PWR_CAL_OFFSET)) raw

/-- One calibrated estimate enters the loop, the calibration's sums and the energy counter (R456–R459, R489). -/
def PowerSt.add (x : PowerSt) (raw cal : Nat) : PowerSt :=
  { x with last := (x.last ++ [cal]).drop (x.last.length + 1 - 10), rawSum := x.rawSum + raw, count := x.count + 1 }

/-- A die's estimates at one microsecond (R456, R457). -/
def State.estimate (s : State) (d : Die) (raw : Nat) : State :=
  let pg : Page := .pwr d
  let raw := min 0xFFFF raw
  let cal := s.calOf pg raw
  let s := (s.setFld pg F.PWR_EST_CAL cal).setFld pg F.PWR_EST_RAW raw
  let x := s.pwrSt d.val
  let e := x.energy + cal
  let x := if d.val < 8 then x.add raw cal else x
  (s.setPwr d.val { x with energy := e % 8000 }).bump pg C.PWR_ENERGY (e / 8000)

/-- POWER_ESTIMATE: the raw estimates the energy counters give, of every die and of the uncore, in units of 0.125 W (R456, R457; log entry 1). -/
def powerEstimate (raw : List (BitVec 16)) (uncore : BitVec 16) (s : State) : State :=
  let live := allDies.filter (fun d => !(s.inReset d) && !(s.fencedDies.contains d))
  let s := live.foldl (fun t d => t.estimate d ((raw[d.val]?).getD 0).toNat) s
  let u := s.calOf (.pwr pd0) uncore.toNat
  let x := s.pwrSt 10
  let s := s.setPwr 10 (x.add uncore.toNat u)
  let tot := (allCDies.map (fun c => if live.contains (CDie.die c) then s.fld (cdPwr c) F.PWR_EST_CAL else 0)).sum + u
  let s := (s.setFld (.pwr pd0) F.PKG_EST_TOTAL (min 0xFFFF tot)).setFld (.pwr pd0) F.PKG_EST_UNCORE u
  { s with pkgPower := { s.pkgPower with uncNow := max s.pkgPower.uncNow u } }

/-- Measurements in a row within a limit and past 1.05 times it, after one more (R473). -/
def runsOf (lim m within breach : Nat) : Nat × Nat :=
  (if 8 * lim < m then 0 else within + 1, if 105 * 8 * lim < 100 * m then breach + 1 else 0)

/-- A measurement pairs with the estimates of its interval (R458, R459). -/
def PowerSt.pair (x : PowerSt) (meas : Nat) (ok : Bool) : PowerSt :=
  { x with pairs := (x.pairs ++ [(⟨x.rawSum, x.count, meas, ok⟩ : MeasPair)]).drop (x.pairs.length + 1 - 100), rawSum := 0, count := 0 }

/-- A PMBus LINEAR11 current in units of 2^-16 A: an 11-bit mantissa and a 5-bit exponent, each two's complement (18 R652); a negative one counts as none
(DESIGN CHOICE, log entry 49). -/
def linear11 (w : BitVec 16) : Nat := (twos 11 (bits w.toNat 10 0)).toNat * 2 ^ (twos 5 (bits w.toNat 15 11) + 16).toNat

/-- The measurement of a rail in units of 0.125 W: its current by its requested voltage in mV (R458). -/
def railPower (i : BitVec 16) (mv : Nat) : Nat := min 0xFFFF (linear11 i * mv / 8192000)

/-- The voltage a compute die's rail was last asked for (R453, R454, R458). -/
def State.requested (s : State) (c : CDie) : Nat :=
  let x := s.pwrSt c.val
  s.voltage c (match x.raise with | some k => k | none => max (s.stepK c) (x.deferred.getD 0))

/-- The setpoints in mV of the rails of PMB4 and PMB5: VDD_PD0, VDD_PD1, VDD_SER, VDD2_MEM, VDDQ_MEM, VDD_OPT (18 R647, R652). -/
def fixedRails : List Nat := [750, 750, 900, 1050, 500, 1200]

/-- POWER_MEASURE: the output currents of the 14 rails in the order of the buses and their rails, the buses whose read failed, which marks the interval invalid for
their rails, and the port dies' hottest sensors (R458, R473, R475, 18 R652). An episode of R473 ends after 5,000 measurements within the limit. -/
def powerMeasure (iout : List (BitVec 16)) (bad : BitVec 6) (temps : List (BitVec 8)) (s : State) : State :=
  let amps (i : Nat) : BitVec 16 := (iout[i]?).getD 0
  let fixed := fixedRails.zipIdx.map (fun e => railPower (amps (8 + e.2)) e.1)
  let uncore := min 0xFFFF fixed.sum
  let unBad := bad.getLsbD 4 || bad.getLsbD 5
  let meas := allCDies.map (fun c => railPower (amps c.val) (s.requested c))
  let one (t : State) (c : CDie) : State :=
    let pg := cdPwr c
    let m := (meas[c.val]?).getD 0
    let valid := !(bad.getLsbD (c.val / 2))
    let x := (t.pwrSt c.val).pair m valid
    if !valid then t.setPwr c.val x else
    let (w, b) := runsOf (t.fld pg F.PWR_LIMIT_WATTS) m x.within x.breach
    let t := (t.setPwr c.val { x with within := w, breach := b }).setFld pg F.PWR_MEAS_MEAS m
    if 5000 ≤ w then t.setFld pg F.PWR_STATUS_UNATTAINABLE 0 else t
  let s := (allCDies.filter (fun c => !(s.dieDown c))).foldl one s
  let port (t : State) (k : PDie) : State :=
    let pg : Page := .pwr (PDie.die k)
    let t := t.setFld pg F.PWR_MEAS_TEMP ((temps[k.val]?).getD 0).toNat
    if bad.getLsbD 4 then t else t.setFld pg F.PWR_MEAS_MEAS ((fixed[k.val]?).getD 0)
  let s := ([0, 1].filter (fun (k : PDie) => !(s.fencedDies.contains (PDie.die k)) && !(s.inReset (PDie.die k)))).foldl port s
  let s := s.setPwr 10 ((s.pwrSt 10).pair uncore (!unBad))
  let s := if unBad then s else s.setFld (.pwr pd0) F.PKG_MEAS_UNCORE uncore
  if bad != 0 then s else
  let tot := meas.sum + uncore
  let s := s.setFld (.pwr pd0) F.PKG_MEAS_TOTAL (min 0xFFFF tot)
  let (w, b) := runsOf (s.fld (.pwr pd0) F.PKG_CAP_WATTS) tot s.pkgPower.within s.pkgPower.breach
  let s : State := { s with pkgPower := { s.pkgPower with within := w, breach := b } }
  if 5000 ≤ w then (s.setFld (.pwr pd0) F.PKG_STATUS_UNATTAINABLE 0).setFld (.pwr pd0) F.PWR_STATUS_UNATTAINABLE 0 else s

/-- A square root rounded down, by halving from above. -/
def isqrt (n : Nat) : Nat :=
  (List.range 48).foldl (fun r i => let t := r + 2 ^ (47 - i); if t * t ≤ n then t else r) 0

/-- The least-squares fit of R459 over the valid pairs (raw mean, measurement): the new gain and offset before the bounds. Raw means are kept in
units of 1/1,000 of an estimate's unit. -/
def powerFit (g : Nat) (pts : List (Int × Int)) : Int × Int :=
  let n : Int := pts.length
  let sx := (pts.map (·.1)).sum
  let sy := (pts.map (·.2)).sum
  let sxx := (pts.map (fun p => p.1 * p.1)).sum
  let sxy := (pts.map (fun p => p.1 * p.2)).sum
  let mx := pts.foldl (fun a p => max a p.1) 0
  let mn := pts.foldl (fun a p => min a p.1) mx
  let flat := decide ((mx - mn) * 50 * n < sx)
  let den := n * sxx - sx * sx
  let gf : Int := if flat || den = 0 then g else (n * sxy - sx * sy) * 1000 * 16384 / den
  (gf, (sy * 16384000 - gf * sx) / (16384000 * n))

/-- The residual of a fit in units of 0.1 % of the mean measurement, saturating at 255 (R459). -/
def powerConf (g : Nat) (o : Int) (pts : List (Int × Int)) : Nat :=
  let n := pts.length
  let ss := (pts.map (fun (p : Int × Int) => let r := p.2 - (((g : Int) * p.1) / 16384000 + o); r * r)).sum
  let sy := (pts.map (fun (p : Int × Int) => p.2.toNat)).sum
  if sy = 0 then 255 else min 255 (isqrt (ss.toNat * n * 1000000) / sy)

/-- One calibration (R459). -/
def State.calibrate (s : State) (pg : Page) (ix : Nat) : State :=
  let x := s.pwrSt ix
  let ok := x.pairs.filter (fun p => p.ok && p.count != 0)
  let s := s.setPwr ix { x with pairs := [] }
  if ok.length < 50 then s.setFld pg F.PWR_CONF_AGE (min 255 (s.fld pg F.PWR_CONF_AGE + 1))
  else if s.flag pg F.PWR_CONF_FREEZE then s
  else
    let pts : List (Int × Int) := ok.map (fun p => (((p.raw * 1000 / p.count : Nat) : Int), ((p.meas : Nat) : Int)))
    let g := s.fld pg F.PWR_CAL_GAIN
    let o := sx16 (s.fld pg F.PWR_CAL_OFFSET)
    let (gf, of) := powerFit g pts
    let g' := (clampInt 0x2000 0x8000 (clampInt ((g : Int) - 256) ((g : Int) + 256) gf)).toNat
    let o' := clampInt (-512) 512 (clampInt (o - 16) (o + 16) of)
    let s := (s.setFld pg F.PWR_CAL_GAIN g').setFld pg F.PWR_CAL_OFFSET (BitVec.ofInt 16 o').toNat
    (s.setFld pg F.PWR_CONF_AGE 0).setFld pg F.PWR_CONF_CONF (powerConf g' o' pts)

/-- The limits of the dies from the cap and the uncore allowance (R463). -/
def State.shareCap (s : State) : State :=
  let live := allCDies.filter (fun c => !(s.fencedDies.contains (CDie.die c)))
  let u := (s.pkgPower.uncMax.foldl max s.pkgPower.uncNow)
  let cap := s.fld (.pwr pd0) F.PKG_CAP_WATTS
  if live.isEmpty then s else
  let w := min 0xFFF ((cap * 800 - 105 * u) / (800 * live.length))
  (live.filter (fun c => !(s.inReset (CDie.die c)))).foldl (fun t c => t.setFld (cdPwr c) F.PWR_LIMIT_WATTS w) s

/-- CALIBRATION: every 10 ms the gains and offsets, the uncore allowance and the die limits (R459, R463). It pauses during a management reset
(R487). -/
def calibration (s : State) : State :=
  if s.mcReset then s else
  let s := (allCDies.filter (fun c => !(s.dieDown c))).foldl (fun t c => t.calibrate (cdPwr c) c.val) s
  let s := s.calibrate (.pwr pd0) 10
  let pk := s.pkgPower
  let s : State := { s with pkgPower := { pk with uncMax := (pk.uncMax ++ [pk.uncNow]).drop (pk.uncMax.length + 1 - 100), uncNow := 0 } }
  s.shareCap

/-- PKG_CAP_COMPARE: PKG_OVER and PKG_ROOM (R461). -/
def pkgCapCompare (s : State) : State :=
  let tot := s.fld (.pwr pd0) F.PKG_EST_TOTAL
  let cap := 8 * s.fld (.pwr pd0) F.PKG_CAP_WATTS
  let past := decide (cap < tot)
  let s := s.setFld (.pwr pd0) F.PKG_STATUS_OVER past.toNat
  let s := allCDies.foldl (fun t c => t.setFld (cdPwr c) F.PWR_STATUS_PKG_OVER past.toNat) s
  { s with pkgPower := { s.pkgPower with room := decide (100 * tot < 95 * cap) } }

def State.setDuty (s : State) (c : CDie) (n : Nat) : State :=
  (s.setFld (cdPwr c) F.PWR_STATUS_DUTY n).setFld (.msf c) F.MSF_HOLD_DUTY_N n

/-- ACLK moves to a step; after a lower one the voltage is requested (R454). -/
def State.aclkTo (s : State) (c : CDie) (k : Nat) : State :=
  let lower := decide (k < s.stepK c)
  let s := s.setStep c k
  if lower then s.askVoltage c (s.voltage c k) else s

/-- A droop response is active, or its 1 µs after the release runs (R467). -/
def State.aclkWaits (s : State) (c : CDie) : Bool := s.flag (cdPwr c) F.PWR_STATUS_DROOP || (s.pwrSt c.val).settling

/-- The ACLK part of a step change falls due: at once, or deferred by a droop; the latest decision replaces a deferred one, and each counts (R454, R467). -/
def State.aclkDue (s : State) (c : CDie) (k : Nat) : State :=
  let pg := cdPwr c
  if s.aclkWaits c then
    ((s.setPwr c.val { s.pwrSt c.val with deferred := some k }).setFld pg F.PWR_STATUS_DEFERRED 1).bump pg C.PWR_DEFERRALS 1
  else s.aclkTo c k

/-- The loop decides a lower step: ACLK first, then the voltage (R454). -/
def State.stepDown (s : State) (c : CDie) (k : Nat) : State := (s.setPwr c.val { s.pwrSt c.val with raise := none }).aclkDue c k

/-- The loop decides a higher step: the voltage first, whose request continues during a droop (R454, R467). Where the voltage has settled and ACLK waits for a
droop, the same decision is deferred once more; a decision for a higher step than the deferred one replaces it. -/
def State.stepUp (s : State) (c : CDie) (k : Nat) : State :=
  let x := s.pwrSt c.val
  if x.raise = some k then s
  else if x.deferred = some k then s.aclkDue c k
  else
    ((s.setPwr c.val { x with raise := some k, deferred := none }).setFld (cdPwr c) F.PWR_STATUS_DEFERRED 0).askVoltage c (s.voltage c k)

/-- Plateau is lost (R470, R471): causes 1 CAP, 2 THERMAL, 3 LIMIT. -/
def State.losePlateau (s : State) (c : CDie) (cause : Nat) : State :=
  let pg := cdPwr c
  let s := s.setPwr c.val { s.pwrSt c.val with risk := 0 }
  let s := ((s.setFld pg F.PWR_CTRL_MODE 0).setFld pg F.PWR_STATUS_PLAT_LOST 1).setFld pg F.PWR_STATUS_LOST_CAUSE cause
  let s := (s.setFld pg F.PWR_STATUS_AT_RISK 0).fireEvent pg 1
  (s.raise pg 0x103 1 {}).followPlateau

/-- CAP_FLOOR of a die and of the package (R472). -/
def State.showFloor (s : State) (c : CDie) : State :=
  let pg := cdPwr c
  let on := s.fld pg F.PWR_CTRL_MODE = 0 && s.stepK c = 6 && s.fld pg F.PWR_STATUS_DUTY != 0
  let s := if on && !(s.flag pg F.PWR_STATUS_CAP_FLOOR) then s.fireEvent pg 2 else s
  let s := s.setFld pg F.PWR_STATUS_CAP_FLOOR on.toNat
  s.setFld (.pwr pd0) F.PKG_STATUS_CAP_FLOOR (allCDies.any (fun e => s.flag (cdPwr e) F.PWR_STATUS_CAP_FLOOR)).toNat

/-- What one loop period finds (R462). -/
structure LoopIn where
  past : Bool
  room : Bool
  hot : Bool
  deriving DecidableEq, Repr

/-- The comparisons of R462 and R468: `t` the hottest sensor, `stretched` that more than 10 % of the period's cycles were stretched. -/
def State.loopIn (s : State) (c : CDie) (t : Nat) (stretched : Bool) : LoopIn :=
  let pg := cdPwr c
  let x := s.pwrSt c.val
  let n := max 1 x.last.length
  let p := x.last.sum
  let lim := s.fld pg F.PWR_LIMIT_WATTS
  let rail := min 420 (s.fld pg F.PWR_LIMIT_RAIL_A)
  let v := s.voltage c (s.stepK c)
  ⟨decide (8 * lim * n < p) || decide (rail * v * n < 125 * p) || s.flag pg F.PWR_STATUS_PKG_OVER || decide (105 ≤ t) || stretched,
   decide (100 * p < 95 * 8 * lim * n) && decide (100 * 125 * p < 95 * rail * v * n) && s.pkgPower.room && decide (t < 103) && !stretched,
   decide (105 ≤ t)⟩

/-- A period in capped mode (R462, R472); PLATEAU_AT_RISK is of plateau alone (DESIGN CHOICE, log entry 50). -/
def State.cappedPeriod (s : State) (c : CDie) (i : LoopIn) : State :=
  let pg := cdPwr c
  let s := s.setFld pg F.PWR_STATUS_AT_RISK 0
  let k := s.stepK c
  let duty := s.fld pg F.PWR_STATUS_DUTY
  if i.past then
    if 6 < k then s.stepDown c (k - 1)
    else if duty < s.fld pg F.PWR_CTRL_DUTY_MAX then s.setDuty c (duty + 1) else s
  else if i.room then
    if 0 < duty then s.setDuty c (duty - 1)
    else if k < min s.fuses.kMax (s.fld pg F.PWR_CTRL_STEP_MAX) then s.stepUp c (k + 1) else s
  else s

/-- A period in plateau (R469): the die goes to PLAT_K one step at a time and stays there; steps run from 6 (R452), and a smaller PLAT_K acts as 6 (log entry
50). -/
def State.plateauPeriod (s : State) (c : CDie) (i : LoopIn) : State :=
  let pg := cdPwr c
  let k := s.stepK c
  let target := max 6 (min s.fuses.kMax (s.fld pg F.PWR_CTRL_PLAT_K))
  let s := if target < k then s.stepDown c (k - 1) else if k < target then s.stepUp c (k + 1) else s
  let duty := s.fld pg F.PWR_STATUS_DUTY
  if i.hot then s.losePlateau c 2
  else if i.past && duty = 15 then s.losePlateau c 3
  else
    let s := if i.past then (s.setDuty c (duty + 1)).setFld pg F.PWR_STATUS_AT_RISK 1
      else if i.room && 0 < duty then
        (let s := s.setDuty c (duty - 1)
         if duty = 1 then s.setFld pg F.PWR_STATUS_AT_RISK 0 else s)
      else s
    let n := if s.flag pg F.PWR_STATUS_AT_RISK then (s.pwrSt c.val).risk + 1 else 0
    let s := s.setPwr c.val { s.pwrSt c.val with risk := n }
    if 5000 ≤ n then s.losePlateau c 1 else s

/-- LIMIT_LOOP: one 10 µs period of a die's loop (R462, R468, R469, R472, R475). -/
def limitLoop (c : CDie) (t : BitVec 8) (stretched : Bool) (s : State) : State :=
  if s.dieDown c || !(s.enginesRun c) then s else
  let pg := cdPwr c
  let s := s.setFld pg F.PWR_MEAS_TEMP t.toNat
  let s := if 105 ≤ t.toNat && !(s.flag pg F.PWR_STATUS_THERMAL) then (s.setFld pg F.PWR_STATUS_THERMAL 1).raise pg 0x100 0 {}
    else if t.toNat < 103 then s.setFld pg F.PWR_STATUS_THERMAL 0 else s
  let i := s.loopIn c t.toNat stretched
  let s := if s.fld pg F.PWR_CTRL_MODE = 1 then s.plateauPeriod c i else s.cappedPeriod c i
  s.showFloor c

/-- VOLTAGE_SETTLED: VDone, and ACLK rises by one step unless a droop defers it (R454, R467). -/
def voltageSettled (c : CDie) (s : State) : State :=
  if !(s.enginesRun c) then s else
  match (s.pwrSt c.val).raise with
  | some k => (s.setPwr c.val { s.pwrSt c.val with raise := none }).aclkDue c k
  | none => s

/-- AVS_RETRY: the request goes out again (18 R651). -/
def avsRetry (c : CDie) (s : State) : State := if s.dieDown c then s else s.askVoltage c (s.requested c)

/-- DROOP_TRIP (R465): the detector that trips must be enabled. -/
def droopTrip (c : CDie) (det : Fin 8) (s : State) : State :=
  let pg := cdPwr c
  if s.dieDown c || !((s.fld pg F.PWR_DROOP_DET_EN).testBit det.val) || s.flag pg F.PWR_STATUS_DROOP then s
  else (s.setFld pg F.PWR_STATUS_DROOP 1).bump pg C.PWR_DROOPS 1

/-- DROOP_RELEASE: the clock and the issue slots return; a deferred change waits 1 µs more (R466, R467). -/
def droopRelease (c : CDie) (s : State) : State :=
  if !(s.flag (cdPwr c) F.PWR_STATUS_DROOP) then s
  else State.setPwr (s.setFld (cdPwr c) F.PWR_STATUS_DROOP 0) c.val { s.pwrSt c.val with settling := true }

/-- DEFERRAL_END: the deferred change takes effect, unless a droop is active again (R467). -/
def deferralEnd (c : CDie) (s : State) : State :=
  let x := s.pwrSt c.val
  if s.flag (cdPwr c) F.PWR_STATUS_DROOP || !x.settling then s else
  let s := (s.setPwr c.val { x with settling := false, deferred := none }).setFld (cdPwr c) F.PWR_STATUS_DEFERRED 0
  match x.deferred with
  | some k => s.aclkTo c k
  | none => s

/-- DROOP_LONG: a response active for 1 ms (R468). -/
def droopLong (c : CDie) (s : State) : State := if s.flag (cdPwr c) F.PWR_STATUS_DROOP then s.raise (cdPwr c) 0x102 1 {} else s

/-- PD_OVER: a port die's estimate stays above PWR_LIMIT.RAIL_A × 0.75 V for 1 ms (R464); RAIL_A beyond its reset value acts as that value (R489). -/
def pdOver (k : PDie) (s : State) : State :=
  let pg : Page := .pwr (PDie.die k)
  if 6 * min 180 (s.fld pg F.PWR_LIMIT_RAIL_A) < s.fld pg F.PWR_EST_CAL then s.raise pg 0x105 1 {} else s

/-- CAP_UNATTAINABLE of a die or, with none, of the package, once 5,000 measurements in a row are past 1.05 times the limit: one C2 fault an episode (R473). -/
def capUnattainable (c : Option CDie) (s : State) : State :=
  let pg : Page := match c with | some c => cdPwr c | none => .pwr pd0
  let n := match c with | some c => (s.pwrSt c.val).breach | none => s.pkgPower.breach
  if s.flag pg F.PWR_STATUS_UNATTAINABLE || n < 5000 then s else
  let s := s.setFld pg F.PWR_STATUS_UNATTAINABLE 1
  let s := match c with
    | some c => s.setPwr c.val { s.pwrSt c.val with within := 0 }
    | none => State.setFld { s with pkgPower := { s.pkgPower with within := 0 } } (.pwr pd0) F.PKG_STATUS_UNATTAINABLE 1
  (s.fireEvent pg 3).raise pg 0x104 2 {}

/-- THERMAL_TRIP: a comparator at 120 °C, live once the die's rail is good; THERMTRIP_N goes low (R476, 18 R657, R662). -/
def thermalTrip (d : Die) (s : State) : State :=
  if !(s.sensorsLive d) then s else State.raise { s with thermtrip := true } (.pwr d) 0x101 4 {}

/-- ENGINE_TEMP: an optical engine's temperature (R477): a C1 fault from 85 °C; forced dark and DISABLE from 95 °C, left below 85 °C. -/
def engineTemp (j : OptPort) (t : BitVec 8) (s : State) : State :=
  if s.pageHeld (.opt j) then s else
  let pg : Page := .opt j
  let was := s.fld pg F.OPT_STATUS_TEMP
  let s := s.setFld pg F.OPT_STATUS_TEMP t.toNat
  let s := if 85 ≤ t.toNat && was < 85 then s.raise pg 0x100 1 {} else s
  if 95 ≤ t.toNat then
    if s.hotEngines.contains j then s
    else
      let s := State.setFld { s with hotEngines := s.hotEngines ++ [j] } pg F.OPT_STATUS_DARK_ACTIVE 1
      if s.mcReset || !(s.portAccepts (OptPort.port j) .disable) then s else s.portDo (OptPort.port j) .disable false
  else if t.toNat < 85 then
    let s : State := { s with hotEngines := s.hotEngines.filter (· != j) }
    if s.flag pg F.OPT_CTRL_DARK || s.darkState (OptPort.port j) then s else s.setFld pg F.OPT_STATUS_DARK_ACTIVE 0
  else s

/-- A step above the fused maximum is clamped, with CLAMPED (R455). -/
def State.clampSteps (s : State) (c : CDie) : State :=
  let pg := cdPwr c
  let top := s.fuses.kMax
  let bad := decide (top < s.fld pg F.PWR_CTRL_PLAT_K) || decide (top < s.fld pg F.PWR_CTRL_STEP_MAX)
  let s := (s.setFld pg F.PWR_CTRL_PLAT_K (min top (s.fld pg F.PWR_CTRL_PLAT_K))).setFld pg F.PWR_CTRL_STEP_MAX (min top (s.fld pg F.PWR_CTRL_STEP_MAX))
  if bad then s.setFld pg F.PWR_STATUS_CLAMPED 1 else s
/-- The package cap in watts: above the fused limit it is clamped, with CLAMPED (R455). -/
def State.setCap (s : State) (w : Nat) : State :=
  let top := s.fuses.pkgLimit
  let s := s.setFld (.pwr pd0) F.PKG_CAP_WATTS (min top w)
  if top < w then s.setFld (.pwr pd0) F.PKG_STATUS_CLAMPED 1 else s
def State.clampCap (s : State) : State := s.setCap (s.fld (.pwr pd0) F.PKG_CAP_WATTS)

/-- Port dies have no step, no die limit and no droop detector: their PWR_CTRL, PWR_LIMIT.WATTS and PWR_DROOP read zero (R464). -/
def State.clearPd (s : State) (p : Page) : State := ((s.wr (p.base + 0x100) 0).wr (p.base + 0x11C) 0).setFld p F.PWR_LIMIT_WATTS 0

/-- PWR_SET: the cap is clamped and divided at once, the steps are clamped on every die (R37 step 6, R455, R471, R478; log entry 50). -/
def pwrSet (b : List Byte) (s : State) : State × List Byte :=
  let cap := imgNat b 0 2
  let mode := imgNat b 2 1
  let pk := imgNat b 3 1
  let sm := imgNat b 4 1
  if b.length != 8 || !(imgZero b 5 3) || !(mode = 0 || mode = 1 || mode = 0xFF) || (pk != 0 && pk < 6) || (mode = 1 && pk = 0) || (sm != 0 && sm < 6) ||
      !(s.fld .flt F.FLT_STATE_STATE = hubNORMAL) then (s, mcREFUSED ++ List.replicate 4 0)
  else
    let s := if cap = 0 then s else s.setCap cap
    let top := s.fuses.kMax
    let one (t : State) (c : CDie) : State :=
      let pg := cdPwr c
      let t := if top < pk || top < sm then t.setFld pg F.PWR_STATUS_CLAMPED 1 else t
      let t := if mode = 0xFF then t else t.setFld pg F.PWR_CTRL_MODE mode
      let t := if mode = 1 then (t.setFld pg F.PWR_STATUS_PLAT_LOST 0).setFld pg F.PWR_STATUS_LOST_CAUSE 0 else t
      let t := if pk = 0 then t else t.setFld pg F.PWR_CTRL_PLAT_K (min top pk)
      if sm = 0 then t else t.setFld pg F.PWR_CTRL_STEP_MAX (min top sm)
    let live := allCDies.filter (fun c => !(s.dieDown c))
    let s := (live.foldl one s).shareCap
    let cl := decide (s.fuses.pkgLimit < cap) || decide (top < pk) || decide (top < sm)
    let k := match live.head? with
      | some c => if s.fld (cdPwr c) F.PWR_CTRL_MODE = 1 then s.fld (cdPwr c) F.PWR_CTRL_PLAT_K else s.fld (cdPwr c) F.PWR_CTRL_STEP_MAX
      | none => 0
    (s, mcOK ++ leBytes (s.fld (.pwr pd0) F.PKG_CAP_WATTS) 2 ++ [BitVec.ofNat 8 k, BitVec.ofNat 8 cl.toNat])

/-- WS_READ: for each (die, cairn, tracking slot) entry the last generation, its outcome, its time, and the arrival of every target bit (R481; log
entry 51). -/
def wsEntry (s : State) (e : List Byte) : List Byte :=
  if h : imgNat e 0 1 < 8 then
    let c : CDie := ⟨imgNat e 0 1, h⟩
    let n := imgNat e 1 2 % 8192
    let k := imgNat e 3 1
    let x := s.cairn c n
    let t := s.track c (k % 16)
    if s.cairnConf c n || 16 ≤ k then List.replicate 11 0
    else
      let bits := (List.range 64).filter (fun i => x.target.getLsbD i)
      let arr (i : Nat) : Nat := match t.arr.find? (fun a => a.1 == i) with | some a => a.2.toNat | none => 0
      leBytes (x.gen - 1).toNat 2 ++ [BitVec.ofNat 8 x.failed.toNat] ++ leBytes t.last.toNat 8 ++ bits.flatMap (fun i => leBytes (arr i) 4)
  else List.replicate 11 0

/-- WS_READ: refused while the package is not in NORMAL, since the cairns are data-path blocks (01 R39). -/
def wsRead (b : List Byte) (s : State) : State × List Byte :=
  if b.isEmpty || b.length % 4 != 0 || s.fld .flt F.FLT_STATE_STATE != hubNORMAL then (s, mcREFUSED)
  else (s, mcOK ++ (List.range (b.length / 4)).flatMap (fun i => wsEntry s ((b.drop (4 * i)).take 4)))

/-- MGMT_SUPPLY_SWITCHOVER: the active input leaves its window and the other takes over (R484, R485). -/
def mgmtSupplySwitchover (s : State) : State :=
  let pg : Page := .pwr pd0
  let act := s.fld pg F.PWR_MGS_ACTIVE
  let ok := if act = 0 then s.flag pg F.PWR_MGS_B_OK else s.flag pg F.PWR_MGS_A_OK
  if !ok then s else
  let s := (s.setFld pg (if act = 0 then F.PWR_MGS_A_OK else F.PWR_MGS_B_OK) 0).setFld pg F.PWR_MGS_ACTIVE (1 - act)
  let s := s.setFld pg F.PWR_MGS_SWITCHES (min 255 (s.fld pg F.PWR_MGS_SWITCHES + 1))
  (s.fireEvent pg 4).raise pg 0x106 1 {}

/-- VMG_INPUT_WINDOW_CHANGE: the input that is not active leaves or re-enters its window (R485). -/
def vmgInputWindowChange (inWindow : Bool) (s : State) : State :=
  let pg : Page := .pwr pd0
  let f := if s.fld pg F.PWR_MGS_ACTIVE = 0 then F.PWR_MGS_B_OK else F.PWR_MGS_A_OK
  if s.flag pg f = inWindow then s
  else if inWindow then s.setFld pg f 1 else (s.setFld pg f 0).raise pg 0x106 1 {}

/-- MGMT_SUPPLY_LOSS: the management domain powers off, and with it everything (R485, 17 R639, 18 R662). -/
def mgmtSupplyLoss (s : State) : State := s.dropRails.cold

/-- RAIL_LOST (R486). -/
def railLost (r : Rail) (s : State) : State := s.loseRail r

end Sys2Proof.Machine
end

