-- ==== Sys2Proof/Machine/Secure.lean ====
section
/-! DEFINITION. The security processor: content keys and weight import, debug unlock, measurements (14 R531–R558). -/

namespace Sys2Proof.Machine

/-- The bytes of an ASCII string. -/
def asciiBytes (x : String) : List Byte := x.toList.map (fun c => BitVec.ofNat 8 c.toNat)

/-- The wrap key's private value (14 R531). -/
def State.wrapPriv (s : State) : BitVec 256 :=
  BitVec.ofNat 256 (imgNat (Config.hkdf (leBytes s.fuses.secret.toNat 32) [] (asciiBytes "GY880 wrap") 32) 0 32)

/-- The content keys of a partition: CURRENT and PREVIOUS (R547). -/
def State.wkey (s : State) (p : Part) (prev : Bool) : Option WKey := Store.get (fun _ => none) s.wkeys (2 * p.val + prev.toNat)
def State.setWkey (s : State) (p : Part) (prev : Bool) (k : Option WKey) : State :=
  { s with wkeys := Store.set (fun _ => none) s.wkeys (2 * p.val + prev.toNat) k }

/-- SEC_WKEY shows the keys held (R556). -/
def State.showWkey (s : State) (p : Part) : State :=
  let e := match s.wkey p false with | some k => k.epoch.toNat + 1 <<< 16 | none => 0
  s.wr (Page.base .sec + 0x200 + 4 * p.val) (BitVec.ofNat 32 (e + (s.wkey p true).isSome.toNat <<< 17))

/-- The entry of a key bundle for a serial (R544). -/
def bundleEntry (b : List Byte) (ser : BitVec 128) : Option (List Byte) :=
  ((List.range (imgNat b 10 2)).map (fun i => (b.drop (80 + 96 * i)).take 96)).find? (fun e => imgNat e 0 16 == ser.toNat)

/-- The content key a bundle entry wraps, and whether its tag verifies (R544). -/
def State.unwrap (s : State) (b e : List Byte) : BitVec 256 × Bool :=
  let epk : BitVec 256 := BitVec.ofNat 256 (imgNat e 16 32)
  let priv := s.wrapPriv
  let kek := BitVec.ofNat 256 (imgNat (Config.hkdf (leBytes (Config.x25519 priv epk).toNat 32) (leBytes epk.toNat 32 ++ leBytes (Config.x25519 priv 9).toNat 32)
    (asciiBytes "GY880 weight wrap" ++ b.take 10) 32) 0 32)
  let pt := Config.gcmCrypt kek 0 ((e.drop 48).take 32)
  (BitVec.ofNat 256 (imgNat pt 0 32), (Config.gcmTag kek 0 [] pt).toNat == imgNat e 80 16)

/-- A key for epoch e against the keys held (R547): the new pair, or none where it is refused. -/
def keyUpdate (cur prev : Option WKey) (k : WKey) : Option (WKey × Option WKey) :=
  match cur with
  | none => some (k, prev)
  | some c =>
    if k.epoch = c.epoch + 1 then some (k, some c)
    else if k.epoch = c.epoch && k.key = c.key then some (k, prev)
    else none

/-- Where a WKEY_IMPORT or WIMPORT ends, in the order of R546. -/
inductive ImpStatus where
  | ok | notInSet | setMismatch | auth | epoch | range | noKey | read
  deriving DecidableEq, Repr

/-- The status byte of WKEY_IMPORT and of WIMPORT (R546; the numbers are Config's). -/
def ImpStatus.keyCode : ImpStatus → Byte
  | .ok => Config.statusCode 0x12 0 | .notInSet => Config.statusCode 0x12 1 | .setMismatch => Config.statusCode 0x12 2
  | .auth => Config.statusCode 0x12 3 | _ => Config.statusCode 0x12 4
def ImpStatus.pageCode : ImpStatus → Byte
  | .ok => Config.statusCode 0x13 0 | .range => Config.statusCode 0x13 1 | .auth => Config.statusCode 0x13 2
  | .epoch => Config.statusCode 0x13 3 | .noKey => Config.statusCode 0x13 4 | _ => Config.statusCode 0x13 5

/-- The digest of a device set: the SHA-512 of its entries in ascending order of serial, each the serial and the wrap public key (R543). -/
def setDigest (l : List (BitVec 128 × BitVec 256)) : BitVec 512 :=
  Config.sha512 ((l.mergeSort (fun a b => decide (a.1.toNat ≤ b.1.toNat))).flatMap (fun e => leBytes e.1.toNat 16 ++ leBytes e.2.toNat 32))

/-- The device set of a bundle: its serials with their wrap keys, its own from the secret, another's from its certificate (R531, R543, R546). -/
def State.bundleSet (s : State) (b : List Byte) (keys : List (BitVec 128 × BitVec 256)) : List (BitVec 128 × BitVec 256) :=
  (List.range (imgNat b 10 2)).map (fun i =>
    let ser : BitVec 128 := BitVec.ofNat 128 (imgNat b (80 + 96 * i) 16)
    (ser, if ser = s.fuses.serial then Config.x25519 s.wrapPriv 9 else ((keys.find? (fun k => k.1 == ser)).map (·.2)).getD 0))

/-- WKEY_IMPORT of a bundle for a partition: the security processor recomputes the set digest from the bundle's serials (R543, R544, R546, R547). -/
def State.wkeyImport (s : State) (p : Part) (devset b : List Byte) (keys : List (BitVec 128 × BitVec 256)) : State × ImpStatus :=
  let digest := setDigest (s.bundleSet b keys)
  match bundleEntry b s.fuses.serial with
  | none => (s, .notInSet)
  | some e =>
    let set := (b.drop 16).take 64
    if imgNat set 0 64 != digest.toNat || set != devset || imgZero devset 0 64 then (s, .setMismatch)
    else
      let (key, ok) := s.unwrap b e
      if !ok then ((s.bump .sec C.SEC_UNWRAP_FAIL 1).raise .sec 0x100 1 {}, .auth)
      else match keyUpdate (s.wkey p false) (s.wkey p true) ⟨BitVec.ofNat 64 (imgNat b 0 8), BitVec.ofNat 16 (imgNat b 8 2), key⟩ with
        | none => (s, .epoch)
        | some (c, pr) => (((s.setWkey p false (some c)).setWkey p true pr).showWkey p, .ok)

/-- WKEY_RETIRE: PREVIOUS of the named epoch is cleared (R546, R547). -/
def State.wkeyRetire (s : State) (p : Part) (e : BitVec 16) : State × Bool :=
  match s.wkey p true with
  | some k => if k.epoch = e then ((s.setWkey p true none).showWkey p, true) else (s, false)
  | none => (s, false)

/-- The extent lies in the weight region of a partition's placement, which is range 1 (R548, 04 R183). -/
def State.inWeights (s : State) (p : Part) (x : PartSt) (a len : Nat) : Bool :=
  match x.placement, placeOf a with
  | some pl, .mem pos c off =>
    let base := (pl.offsets[0]?).getD 0
    let size := ((pl.grans[0]?).getD 0) * memGran
    (pos == s.pos && inRange off len (s.memRange c p 1)) || (pl.board && pos != s.pos && base ≤ off && off + len ≤ base + size)
  | _, _ => false

/-- One page of a WIMPORT on the engine of die `c` (R545, R548). -/
def State.importPage (s : State) (c : CDie) (p : Part) (src dst : Nat) (o : Obs) : State × ImpStatus :=
  let (s, st, page) := s.readBoard c { part := some p } p src 65600 o
  match st with
  | .ok =>
    let img := BitVec.ofNat 64 (imgNat page 0 8)
    let ep := BitVec.ofNat 16 (imgNat page 12 2)
    let fits (k : Option WKey) : Option WKey := k.filter (fun x => x.epoch == ep && x.image == img)
    let key := match fits (s.wkey p false) with | some k => some k | none => fits (s.wkey p true)
    match key with
    | none => (s, if (s.wkey p false).isNone && (s.wkey p true).isNone then .noKey else .epoch)
    | some k =>
      let iv := BitVec.ofNat 96 (imgNat page 8 4)
      let pt := Config.gcmCrypt k.key iv (page.drop 64)
      if (Config.gcmTag k.key iv (page.take 48) pt).toNat != imgNat page 48 16 then
        ((s.bump .sec C.SEC_IMPORT_AUTH_FAIL 1).raise .sec 0x101 2 { part := some p }, .auth)
      else
        let (s, w) := s.writeBoard c { part := some p } p dst pt o
        (s, if w = .ok then .ok else .range)
  | .range => (s, .range)
  | _ => (s, .read)

/-- The pages of a WIMPORT in ascending order up to the first failure: the pages written (R548). -/
def State.importPages (s : State) (c : CDie) (p : Part) (src dst : Nat) (o : Obs) : Nat → Nat → State × ImpStatus × Nat
  | 0, done => (s, .ok, done)
  | n + 1, done =>
    match s.importPage c p (src + 65600 * done) (dst + 65536 * done) o with
    | (s, .ok) => s.importPages c p src dst o n (done + 1)
    | (s, st) => (s, st, done)

/-- WIMPORT: the destination is checked before any page is read (R548). -/
def State.wimport (s : State) (p : Part) (x : PartSt) (c : CDie) (n src dst : Nat) (o : Obs) : State × ImpStatus × Nat :=
  if !(x.dies.contains c) || s.dieDown c || src % 64 != 0 || !(s.inWeights p x dst (65536 * n)) then (s, .range, 0)
  else s.importPages c p src dst o n 0

/-- The challenge SEC_DBG_CHAL shows (R549). -/
def State.challenge (s : State) : List Byte := (List.range 8).flatMap (fun i => leBytes (s.rd (Page.base .sec + 0x110 + 4 * i)).toNat 4)

/-- The operator credentials of a plan: CRED_ID and RIGHTS (R538). -/
def planCreds (b : List Byte) : List (Nat × Nat) :=
  let k := planSect b 6
  (List.range (imgNat k 4 1)).map (fun i => (imgNat k (0x40 + 48 * i) 4, imgNat k (0x44 + 48 * i) 4))
def planRights (b : List Byte) (cred : Nat) : Option Nat := ((planCreds b).find? (fun e => e.1 == cred)).map (·.2)

/-- Any partition is confidential (R550). -/
def State.anyConf (s : State) : Bool := (List.finRange 64).any (fun p => s.isConf p)

/-- A debug token is accepted (R549, R550, 16 R606): `opSig` and `tokenSigs` say that the operator's and the token's signatures verify. -/
def State.tokenOk (s : State) (b : List Byte) (opSig tokenSigs : Bool) : Bool :=
  let cred := imgNat b 192 4
  (match planRights s.plan cred with | some r => r.testBit 5 | none => false) && opSig &&
    decide (Store.get (fun _ => 0) s.dbgCounters cred < imgNat b 196 8) && tokenSigs &&
    imgNat b 0 16 == s.fuses.serial.toNat && (b.drop 16).take 32 == s.challenge && decide (1 ≤ imgNat b 48 1) && decide (imgNat b 48 1 ≤ 2) &&
    imgZero b 49 15 && s.fuses.lifecycle == 1 && !(s.anyConf)

/-- A token attempt: accepted, the debug state takes its level; refused, DEBUG_REFUSED; the challenge is replaced either way (R549, R550). -/
def State.dbgToken (s : State) (b : List Byte) (opSig tokenSigs : Bool) : State × Bool :=
  if s.tokenOk b opSig tokenSigs then
    let cred := imgNat b 192 4
    let s : State := { s with dbgCounters := Store.set (fun _ => 0) s.dbgCounters cred (imgNat b 196 8), unlocks := min 0xFFFF (s.unlocks + 1) }
    let old := s.fld .sec F.SEC_STATUS_DEBUG
    let s := (s.setFld .sec F.SEC_STATUS_DEBUG (imgNat b 48 1)).setFld .sec F.SEC_STATUS_EVER_UNLOCKED 1
    let s := if old = imgNat b 48 1 then s else s.fireEvent .sec 1
    (s.newChallenge, true)
  else (((s.bump .sec C.SEC_DEBUG_REFUSED 1).raise .sec 0x102 1 {}).newChallenge, false)

/-- The security processor runs: management power is on and bring-up has not halted in its self-test (15 R567, R573). -/
def State.spUp (s : State) : Bool := s.mgmtOn && !(s.inReset pd0)

/-- SEC_DBG_NEW (R549, R556). -/
def secDbgNew (s : State) : State := if s.spUp then (s.newChallenge).setFld .sec F.SEC_DBG_CTRL_NEW 0 else s

/-- SEC_DBG_LOCK (R550, R556). -/
def secDbgLock (s : State) : State := if s.spUp then s.relockDebug.setFld .sec F.SEC_DBG_CTRL_LOCK 0 else s

/-- A bitmap over a list of positions. -/
def bitmapOf (l : List Nat) : Nat := (l.eraseDups.map (fun n => 2 ^ n)).sum

/-- The state byte of measurement 10 for a partition (R536). -/
def State.partCode (s : State) (p : Part) : Nat :=
  match s.partState p with
  | 1 => 2
  | 2 => 3
  | 3 => 4
  | _ => if (s.part? p).isSome then 1 else 0

/-- One entry of measurement 10 (R536). -/
def State.layoutEntry (s : State) (p : Part) : List Byte :=
  let ep := match s.wkey p false with | some k => k.epoch.toNat | none => 0
  match s.part? p with
  | some x =>
    [BitVec.ofNat 8 (s.partCode p), BitVec.ofNat 8 (x.conf.toNat + (s.wkey p false).isSome.toNat <<< 1), BitVec.ofNat 8 x.contexts,
      BitVec.ofNat 8 (bitmapOf (x.dies.map (·.val)))] ++ x.sliceDesc.take 2 ++ leBytes ep 2 ++ x.devset.take 8
  | none => [BitVec.ofNat 8 (s.partCode p)] ++ List.replicate 15 0

/-- The dies of bitmaps FENCED and ARRAY_UNAVAIL, and stacks that failed or are fenced (R535, 15 R575). -/
def State.fencedMap (s : State) : Nat := bitmapOf (s.fencedDies.map (·.val))
def State.unavailMap (s : State) : Nat := bitmapOf ((allCDies.filter (fun c => s.flag (.msf c) F.MSF_ARRAY_UNAVAILABLE)).map (·.val))
def State.stackMap (s : State) (f : Nat → Bool) : Nat :=
  bitmapOf ((List.range 24).filter (fun k => f (s.fld (.mem ⟨k / 3 % 8, Nat.mod_lt _ (by decide)⟩) (F.MEM_STACK_STATE (k % 3)))))

/-- The content of a measurement, and whether it is a digest (R534, R535); the wrap certificate's bytes are free (log entry 52). -/
def State.measurement (s : State) (ix : Nat) : State × Bool × List Byte :=
  let dg (v : BitVec 512) : State × Bool × List Byte := (s, true, leBytes v.toNat 64)
  match ix with
  | 1 => dg Config.romDigest
  | 2 => dg (Config.sha512 s.flashImage)
  | 3 => dg ((s.fwComps[0]?).getD 0)
  | 4 => dg ((s.fwComps[1]?).getD 0)
  | 5 => dg ((s.fwComps[2]?).getD 0)
  | 6 => dg s.codeHeld
  | 7 => (s, false, [BitVec.ofNat 8 s.fuses.variant, BitVec.ofNat 8 s.fuses.kMax] ++ leBytes s.fuses.pkgLimit 2 ++ [BitVec.ofNat 8 s.fuses.lifecycle] ++
      (leBytes s.fuses.ownerDigest.toNat 64).take 16 ++ List.replicate 11 0)
  | 8 => (s, false, [BitVec.ofNat 8 (s.fld .sec F.SEC_STATUS_DEBUG), BitVec.ofNat 8 (decide (s.unlocks ≠ 0)).toNat] ++ leBytes s.unlocks 2 ++
      [BitVec.ofNat 8 (s.fld .sec F.SEC_STATUS_NCONF)] ++ List.replicate 3 0)
  | 9 => (s, false, if s.plan.isEmpty then List.replicate 72 0 else leBytes (planSeq s.plan) 8 ++ leBytes (Config.sha512 s.plan).toNat 64)
  | 10 => (s, false, (List.finRange 64).flatMap s.layoutEntry)
  | 11 => (s, false, [BitVec.ofNat 8 s.boot.pkgPres, BitVec.ofNat 8 s.boot.boardPres.toNat, BitVec.ofNat 8 s.pos] ++ leBytes s.fencedMap 2 ++
      [BitVec.ofNat 8 s.unavailMap] ++ leBytes (s.stackMap (fun v => v == skFAILED || v == skFENCED)) 3 ++ List.replicate 7 0)
  | _ => let (bs, s) := s.freeBytes 256; (s, false, bs)

/-- The measurements of a range of indices. -/
def State.measurements (s : State) : List Nat → State × List (Nat × Bool × List Byte)
  | [] => (s, [])
  | i :: r =>
    let (s, d, bs) := s.measurement i
    let (s, l) := s.measurements r
    (s, (i, d, bs) :: l)

/-- SPDM is answered from step 3 on, by the security processor (15 R573). -/
def State.spdmUp (s : State) : Bool := s.spUp && phMGMT ≤ s.boot.phase

/-- GET_MEASUREMENTS (R534): one block, all twelve, or their number; a signature's and an unknown index's bytes are the DMTF's, and no rule gives them
(log entry 52). -/
def State.getMeasurements (s : State) (ix : BitVec 8) (nonce : BitVec 256) (signed : Bool) : State × SpdmRsp :=
  let go (l : List Nat) : State × SpdmRsp :=
    let (s, bl) := s.measurements l
    let (sig, s) := if signed then s.freeBytes 64 else ([], s)
    (s, .measurements 12 bl nonce sig)
  if ix = 0 then go []
  else if ix = 0xFF then go ((List.range 12).map (· + 1))
  else if ix.toNat ≤ 12 then go [ix.toNat]
  else (s, .error)

/-- The answer to an SPDM request (R532, R533): a chain that does not match the identity key is not presented. -/
def State.spdm (s : State) (r : SpdmReq) : State × SpdmRsp :=
  let chain := s.flag .sec F.SEC_STATUS_IDENTITY_OK
  match r with
  | .version => (s, .version)
  | .capabilities => (s, .capabilities)
  | .algorithms => (s, .algorithms)
  | .digests => if chain then let (bs, s) := s.freeBytes 64; (s, .digests bs) else (s, .error)
  | .certificate slot _ len => if chain && slot = 0 then let (bs, s) := s.freeBytes len.val; (s, .certificate bs) else (s, .error)
  | .challenge slot _ => if chain && slot = 0 then let (bs, s) := s.freeBytes 64; (s, .challengeAuth bs) else (s, .error)
  | .measurements ix n g => s.getMeasurements ix n g
  | .other => (s, .error)

end Sys2Proof.Machine
end

