-- ==== Sys2Proof/Machine/Messages.lean ====
section
/-! DEFINITION. Mailbox channels and the messages of the device: framing, transport, and each type's request and answer (16 R599–R606, 15 R566, R575,
14 R546, 04 R182). -/

namespace Sys2Proof.Machine

/-- The BOOT_STATUS record (15 R575). -/
def State.bootStatus (s : State) : List Byte :=
  let b := s.boot
  let ready (f : CDie → Page) : Nat := bitmapOf ((allCDies.filter (fun c => s.flag (f c) F.BLK_STATUS_READY)).map (·.val))
  let ports (f : Nat → Bool) : Nat := bitmapOf ((allPorts.filter (fun q => f (s.lnk q))).map (·.val))
  let ms := (s.now pd0 - b.t0).toNat / 200000
  let head := [BitVec.ofNat 8 b.phase, BitVec.ofNat 8 (b.refPresent.toNat + b.planVerified.toNat <<< 1 + b.pkgSettled.toNat <<< 2 +
    b.boardSettled.toNat <<< 3 + b.fallback.toNat <<< 4), BitVec.ofNat 8 b.fastTest.toNat, BitVec.ofNat 8 b.rounds] ++ leBytes (min 0xFFFFFFFF ms) 4
  if b.phase = phROM || b.phase = phRECOVERY then head ++ List.replicate 72 0
  else
    head ++ leBytes (ready Page.vcx) 2 ++ leBytes s.fencedMap 2 ++ [BitVec.ofNat 8 (ready Page.msf), BitVec.ofNat 8 s.unavailMap,
      BitVec.ofNat 8 (ready Page.mem), 0] ++ leBytes (s.stackMap (· == skREADY)) 3 ++ leBytes (s.stackMap (· == skFAILED)) 3 ++
      leBytes (ports (fun v => v == lkHELD || v == lkACTIVE)) 3 ++ leBytes (ports (· == lkFAILED)) 3 ++ List.replicate 4 0 ++
      leBytes (bitmapOf b.coreHoles) 32 ++ leBytes (bitmapOf b.dmaHoles) 16

/-- The board address of a partition's queue rings on a die (14 R526). -/
def State.ringsAddr (s : State) (p : Part) (c : CDie) : Nat := s.pos * posSpan + c.val * memSpan + (s.memRange c p 0).1 * memGran

/-- VF_INFO (R606). -/
def State.vfInfo (s : State) (p : Part) (x : PartSt) : List Byte :=
  [BitVec.ofNat 8 x.contexts, BitVec.ofNat 8 x.queueLog2, BitVec.ofNat 8 x.dies.length] ++ List.replicate 5 0 ++ x.dies.flatMap (fun c => leBytes (s.ringsAddr p c) 8)

/-- Response STATUS codes (R602). -/
def msOK : Nat := 0
def msREFUSED : Nat := 1
def msBUSY : Nat := 2
def msUNKNOWN : Nat := 3
def msFORMAT : Nat := 4
def msNOT_READY : Nat := 5

/-- The fields of a message (R602). -/
def mType (b : List Byte) : Nat := imgNat b 0 2
def mLen (b : List Byte) : Nat := imgNat b 2 2
def mTag (b : List Byte) : Nat := imgNat b 4 2
def mArg (b : List Byte) : Nat := imgNat b 8 8
def mBody (b : List Byte) : List Byte := (b.drop 16).take (mLen b)

/-- A request keeps the framing of R602. -/
def mFormOk (v : Via) (b : List Byte) : Bool :=
  imgZero b 6 2 && decide (16 + mLen b ≤ b.length) && (b.drop (16 + mLen b)).all (· == 0) &&
    (match v with | .mbx _ => decide (mLen b ≤ 240) | _ => true)

/-- The types carried on a transport (R606); those of the recovery loader only in phase RECOVERY (15 R566). -/
def State.carries (s : State) (v : Via) (t : Nat) : Bool :=
  let rcv := (t == 0x20 || t == 0x21 || t == 0x22) && s.boot.phase == phRECOVERY
  match v with
  | .mbx k => if k = 0 then t == 1 || rcv else if k.val < 4 then false else if k.val < 36 then t == 1
    else decide (0x10 ≤ t) && decide (t ≤ 0x14)
  | .mctp _ _ => t == 1 || rcv || t == 0x30 || t == 0x31
  | .doe => false

/-- A request of a VF channel: its partition must be ACTIVE (R599, R606). -/
def State.vfMessage (s : State) (p : Part) (b : List Byte) (env : MsgEnv) : State × Nat × List Byte :=
  let body := mBody b
  match s.part? p with
  | none => (s, msNOT_READY, [])
  | some x =>
    if s.partState p != ptNORMAL then (s, msNOT_READY, [])
    else match mType b with
    | 0x10 => if body.isEmpty then (s, msOK, s.vfInfo p x) else (s, msFORMAT, [])
    | 0x11 =>
      match s.mdlPlace p body env.board with
      | (s, some r) => (s, msOK, r)
      | (s, none) => (s, msFORMAT, [])
    | 0x12 =>
      let n := imgNat body 0 4
      if body.length != 4 || n < 80 + 96 || 80 + 96 * 4096 < n then (s, msFORMAT, [])
      else if s.fuses.lifecycle = 2 then (s, msREFUSED, [])
      else match x.dies with
        | [] => (s, msREFUSED, [])
        | c :: _ =>
          match s.readBoard c { part := some p } p (mArg b) n env.obs with
          | (s, .ok, bundle) =>
            if imgNat bundle 10 2 = 0 || n != 80 + 96 * imgNat bundle 10 2 || !(imgZero bundle 12 4) then (s, msFORMAT, [])
            else let (s, r) := s.wkeyImport p x.devset bundle env.wrapKeys; (s, msOK, [r.keyCode])
          | (s, _, _) => (s, msREFUSED, [])
    | 0x13 =>
      let n := imgNat body 4 4
      if h : body.length = 24 ∧ imgNat body 0 1 < 8 then
        if !(imgZero body 1 3) || n = 0 || 65535 < n then (s, msFORMAT, [])
        else if s.fuses.lifecycle = 2 then (s, msREFUSED, [])
        else
          let (s, r, done) := s.wimport p x ⟨imgNat body 0 1, h.2⟩ n (imgNat body 8 8) (imgNat body 16 8) env.obs
          let (free, s) := if r = .ok then s.freeBytes 4 else (leBytes done 4, s)
          (s, msOK, [r.pageCode, 0, 0, 0] ++ leBytes done 4 ++ free)
      else (s, msFORMAT, [])
    | _ =>
      if body.length != 2 then (s, msFORMAT, [])
      else let (s, ok) := s.wkeyRetire p (BitVec.ofNat 16 (imgNat body 0 2)); (s, msOK, [Config.statusCode 0x14 (!ok).toNat])

/-- The recovery loader (15 R566): RCV_BEGIN opens an image, RCV_DATA writes up to 240 bytes of the image area, RCV_END verifies it; a good image
restarts at step 2. -/
def State.rcvMessage (s : State) (b : List Byte) (env : MsgEnv) : State × Nat × List Byte :=
  let body := mBody b
  match mType b with
  | 0x20 => if body.length != 4 || 0x1000000 < imgNat body 0 4 then (s, msFORMAT, []) else ({ s with rcv := some (imgNat body 0 4) }, msOK, [])
  | 0x21 =>
    if 240 < body.length || 0x1000000 < mArg b + body.length then (s, msFORMAT, [])
    else if s.rcv.isNone then (s, msREFUSED, [])
    else ({ s with flash := Store.setList (fun _ => 0) s.flash (mArg b) body }, msOK, [])
  | _ =>
    if !(body.isEmpty) then (s, msFORMAT, [])
    else if s.rcv.isNone then (s, msREFUSED, [])
    else (State.checkImage { s with rcv := none } env.find, msOK,
      [Config.statusCode 0x22 (match s.imageCheck env.find with | none => 0 | some c => c.val + 1)])

/-- A request by its type, on a transport that carries it (R606). -/
def State.message (s : State) (v : Via) (b : List Byte) (env : MsgEnv) : State × Nat × List Byte :=
  if !(mFormOk v b) then (s, msFORMAT, [])
  else if !(s.carries v (mType b)) then (s, msUNKNOWN, [])
  else match v with
    | .mbx k =>
      if h : 36 ≤ k.val then s.vfMessage ⟨k.val - 36, by omega⟩ b env
      else if mType b = 1 then (if (mBody b).isEmpty then (s, msOK, s.bootStatus) else (s, msFORMAT, []))
      else s.rcvMessage b env
    | _ =>
      match mType b with
      | 1 => if (mBody b).isEmpty then (s, msOK, s.bootStatus) else (s, msFORMAT, [])
      | 0x30 => if (mBody b).isEmpty then (let s := s.newChallenge; (s, msOK, s.challenge)) else (s, msFORMAT, [])
      | 0x31 =>
        if (mBody b).length != 268 then (s, msFORMAT, [])
        else let (s, ok) := s.dbgToken (mBody b) env.opSig env.tokenSigs; (s, msOK, [Config.statusCode 0x31 (!ok).toNat])
      | _ => s.rcvMessage b env

/-- The answer to a request leaves by its transport; a channel holds up to 16 responses (R602, R603; log entry 53). -/
def State.respond (s : State) (v : Via) (b : List Byte) (st : Nat) (body : List Byte) : State :=
  let r := mbxMsg (mType b) (mTag b) 1 st 0 body
  match v with
  | .mbx k =>
    let x := s.chan k.val
    if x.resps.length < 16 then s.setChan k.val { x with resps := x.resps ++ [r] } else s
  | .mctp net e => (if net then s else s.emit .ibi).emit (.mctp net e (.seliesel r))
  | .doe => s

/-- A request is taken and answered. -/
def State.handle (s : State) (v : Via) (b : List Byte) (env : MsgEnv) : State :=
  let (s, st, body) := s.message v b env
  s.respond v b st body

/-- The processor that serves a channel runs: the security processor for channels 0–3, the management complex for the others (R599, 17 R678, 15
R573). -/
def State.served (s : State) (k : Nat) : Bool :=
  if k < 4 then s.spUp else s.spUp && !s.mcReset && decide (phMGMT ≤ s.boot.phase)

/-- The PF of a channel, and the function whose host side it is (R599). -/
def chanFn (k : Fin 100) : Fn := if h : 36 ≤ k.val then .vf ⟨k.val - 36, by omega⟩ else .pf ⟨(if k.val < 4 then 0 else (k.val - 4) / 8) % 4, Nat.mod_lt _ (by decide)⟩

/-- The interrupt of the host on a channel: MSI-X by the channel's vector when enabled (R614, R615). -/
def State.hostIrq (s : State) (k : Fin 100) (bit : Nat) : State :=
  if h : k.val < 36 then
    let w := s.rd (Page.base (.mbx ⟨k.val, h⟩) + 0x100)
    if w.getLsbD bit then s.msixSend (chanFn k) (bits w.toNat 18 8) else s
  else if (s.chan k.val).cfg.getLsbD bit then s.msixSend (chanFn k) (s.fn (chanFn k)).mbxVec else s

/-- The event of a channel's page toward the device (19 R669). -/
def State.chanEvent (s : State) (k : Fin 100) (line : Nat) : State := if h : k.val < 36 then s.fireEvent (.mbx ⟨k.val, h⟩) line else s

/-- A SEND in one direction (R600): FULL sets with the epoch, or BLOCKED when it is already set; whether it was posted. -/
def MbxDir.send (d : MbxDir) : MbxDir × Bool :=
  if d.full then ({ d with blocked := true }, false) else ({ d with full := true, msgEpoch := d.sendEpoch }, true)

/-- The channel's host side acts: its function exists, its VF is enabled and its window open, the package is not in the safe state for a VF (R589, R595, R599). -/
def State.hostChan (s : State) (k : Fin 100) : Bool :=
  if h : 36 ≤ k.val then
    let p : Part := ⟨k.val - 36, by omega⟩
    s.flag .pci (F.PCI_VF_ENABLED p.val) && (s.part? p).isSome && !(s.partFenced p) && !(s.flag .pci F.PCI_STATUS_FATAL)
  else decide ((if k.val < 4 then 0 else (k.val - 4) / 8) < s.nparts)

/-- MBX_H2D_SEND: the host posts its slot, and the device is interrupted (R600, R601). -/
def mbxH2dSend (k : Fin 100) (s : State) : State :=
  if !(s.hostChan k) then s else
  let x := s.chan k.val
  let (d, posted) := x.h2d.send
  let s := s.setChan k.val { x with h2d := d }
  if posted then s.chanEvent k 1 else s

/-- The bytes of a slot. -/
def MbxDir.bytes (d : MbxDir) : List Byte := Store.getList (fun _ => 0) d.slot 0 256

/-- MBX_H2D_DONE: the device's read of DONE takes the message and answers it; a host's read returns FULL and leaves it (R600). -/
def mbxH2dDone (host : Bool) (k : Fin 100) (env : MsgEnv) (s : State) : State :=
  let x := s.chan k.val
  if host then (if s.hostChan k then s.emit (.hostData (chanFn k) (leBytes x.h2d.full.toNat 4)) else s)
  else if !(s.served k.val) || !x.h2d.full then s
  else
    let b := x.h2d.bytes
    let s := s.setChan k.val { x with h2d := { x.h2d with full := false } }
    (s.hostIrq k 20).handle (.mbx k) b env

/-- The device posts the D2H slot as it stands, and the host is interrupted; whether it was posted (R600, R615). -/
def State.postD2h (s : State) (k : Fin 100) : State × Bool :=
  let x := s.chan k.val
  let (d, posted) := x.d2h.send
  let s := s.setChan k.val { x with d2h := d }
  (if posted then s.hostIrq k 19 else s, posted)

/-- MBX_D2H_SEND: the device puts its next response, else its next notification, into the slot and posts it; a slot that is FULL sets BLOCKED (R600,
R603; log entry 53). -/
def mbxD2hSend (k : Fin 100) (s : State) : State :=
  if !(s.served k.val) then s else
  let x := s.chan k.val
  match x.resps ++ x.notes with
  | [] => s
  | b :: _ =>
    if x.d2h.full then (s.postD2h k).1
    else
      let d := { x.d2h with slot := Store.setList (fun _ => 0) [] 0 (b.take 256) }
      let x := { x with d2h := d }
      let x := if x.resps.isEmpty then { x with notes := x.notes.drop 1 } else { x with resps := x.resps.drop 1 }
      ((s.setChan k.val x).postD2h k).1

/-- The host's read of D2H DONE: FULL, which it clears, and the device is interrupted (R600). -/
def State.takeD2h (s : State) (k : Fin 100) : State × Word :=
  let x := s.chan k.val
  let s := s.setChan k.val { x with d2h := { x.d2h with full := false } }
  (if x.d2h.full then s.chanEvent k 2 else s, BitVec.ofNat 32 x.d2h.full.toNat)

/-- MBX_D2H_DONE (R600). -/
def mbxD2hDone (k : Fin 100) (s : State) : State :=
  if !(s.hostChan k) then s else
  let (s, w) := s.takeD2h k
  s.emit (.hostData (chanFn k) (leBytes w.toNat 4))

/-- A message row of one type (R606): the message stands in its channel's slot, and the device takes it, or it arrives by MCTP. -/
def msgRow (t : Nat) (v : Via) (b : List Byte) (env : MsgEnv) (s : State) : State :=
  match v with
  | .mbx k =>
    if mType (s.chan k.val).h2d.bytes = t && (s.chan k.val).h2d.full then mbxH2dDone false k env s else s
  | .mctp net _ => if mType b = t && s.spUp && (if net then decide (phRAILS ≤ s.boot.phase) else s.i3c.isSome) then s.handle v b env else s
  | .doe => s

end Sys2Proof.Machine
end

