-- ==== Sys2Proof/Machine/Dist.lean ====
section
/-! DEFINITION. Distribution of firmware, core code and plans at a receiver (15 R578–R584). -/

namespace Sys2Proof.Machine

/-- The largest content of a type (R578). -/
def distMax (t : Nat) : Nat := if t = 1 then 0x1000000 else if t = 2 then 0x4000000 else 0x400000

/-- DIST states (R580). -/
def dsNONE : Nat := 0
def dsRECEIVING : Nat := 1
def dsVERIFYING : Nat := 2
def dsVERIFIED : Nat := 3
def dsFAILED : Nat := 4

/-- Fragments of a content, and of its chunk c (R578). -/
def DistSt.nfrag (d : DistSt) : Nat := ceilDiv d.length 1024
def DistSt.chunkFrags (d : DistSt) (c : Nat) : List Nat := (List.range 64).map (64 * c + ·) |>.filter (· < d.nfrag)
def DistSt.has (d : DistSt) (f : Nat) : Bool := Store.get (fun _ => false) d.got f
/-- A chunk is received when all of its fragments have arrived (R581). -/
def DistSt.chunkDone (d : DistSt) (c : Nat) : Bool := (d.chunkFrags c).all d.has
/-- A distribution in progress (R580). -/
def DistSt.busy (d : DistSt) : Bool := d.state == dsRECEIVING || d.state == dsVERIFYING

/-- The die and granule a content is staged on: the reserved one, or after its loss the highest mapped granule of the next die with READY memory
(R579, R584). -/
def State.stagePlace (s : State) : Option (CDie × Nat) :=
  let up (c : CDie) : Bool := !(s.dieDown c) && s.flag (.mem c) F.BLK_STATUS_READY
  match s.staging with
  | some (c, g) => if up c then some (c, g) else
      ((allCDies.filter (fun d => up d && s.granFree d (s.mapped d - 1))).head?).map (fun d => (d, s.mapped d - 1))
  | none => none

/-- A distribution whose staging die is lost fails (R584). -/
def State.distCheck (s : State) : State :=
  match s.dist with
  | some d => if d.busy && (s.dieDown d.die || !(s.flag (.mem d.die) F.BLK_STATUS_READY)) then { s with dist := some { d with state := dsFAILED, cause := 4 } } else s
  | none => s

/-- DIST_OPEN (R580). -/
def distOpen (b : List Byte) (s : State) : State × List Byte :=
  let s := s.distCheck
  let t := imgNat b 4 1
  let len := imgNat b 8 4
  if b.length != 80 || t = 0 || 3 < t || !(imgZero b 5 3) || !(imgZero b 14 2) || len = 0 || distMax t < len || imgNat b 12 2 != ceilDiv len 65536 then (s, mcREFUSED)
  else
    let id : BitVec 32 := BitVec.ofNat 32 (imgNat b 0 4)
    let fresh : State × List Byte :=
      match s.stagePlace with
      | none => (s, mcREFUSED)
      | some (c, g) =>
        let d : DistSt := { id, type := t, length := len, nchunk := ceilDiv len 65536, digest := BitVec.ofNat 512 (imgNat b 16 64), die := c, gran := g }
        ({ s with staging := some (c, g), dist := some d }, mcOK)
    match s.dist with
    | some d => if d.id = id && d.state != dsFAILED then (s, mcOK) else if d.busy then (s, mcREFUSED) else fresh
    | none => fresh

/-- The distribution with an identifier. -/
def State.distOf (s : State) (b : List Byte) : Option DistSt := s.dist.filter (fun d => d.id.toNat == imgNat b 0 4)

/-- DIST_DATA: a fragment is written at its place, its padding beyond LENGTH discarded; the last one to arrive starts the verification (R578, R580,
R581). -/
def distData (b : List Byte) (s : State) : State × List Byte :=
  let s := s.distCheck
  match s.distOf b with
  | none => (s, mcREFUSED)
  | some d =>
    let n := 64 * imgNat b 4 2 + imgNat b 6 1
    if b.length != 1036 || !(imgZero b 7 5) || 64 ≤ imgNat b 6 1 || d.nfrag ≤ n || d.state != dsRECEIVING then (s, mcREFUSED)
    else
      let s := s.mcPut d.die (d.gran * memGran + 1024 * n) ((b.drop 12).take (min 1024 (d.length - 1024 * n)))
      let d := { d with got := Store.set (fun _ => false) d.got n true }
      ({ s with dist := some (if (List.range d.nchunk).all d.chunkDone then { d with state := dsVERIFYING } else d) }, mcOK)

/-- DIST_STATUS (R580). -/
def distStatus (b : List Byte) (s : State) : State × List Byte :=
  let s := s.distCheck
  if b.length != 4 then (s, mcREFUSED) else
  match s.distOf b with
  | none => (s, mcOK ++ [0, 0])
  | some d =>
    let m := bitmapOf ((List.range d.nchunk).filter d.chunkDone)
    (s, mcOK ++ [BitVec.ofNat 8 d.state, BitVec.ofNat 8 d.cause] ++ leBytes m (ceilDiv d.nchunk 8))

/-- The staged content (R579), which the management complex reads with privilege (06 R242). -/
def State.staged (s : State) (d : DistSt) : List Byte := s.mcGet d.die (d.gran * memGran) d.length

/-- DIST_VERIFY_DONE: the digest, the signature with what else R564 asks of a firmware image, and its SVN are judged in this order; what verifies takes its place (R578, R581; 11
R410, R412). -/
def distVerifyDone (f : DistFind) (s : State) : State :=
  let s := s.distCheck
  match s.dist with
  | none => s
  | some d =>
    if d.state != dsVERIFYING then s else
    let b := s.staged d
    let fail (s : State) (c : Nat) : State := { s with dist := some { d with state := dsFAILED, cause := c } }
    if Config.sha512 b != d.digest then fail s 1
    else if d.type = 3 && !(s.planAccepts b f.sigOk) then (fail s 2).raise .sec 0x104 1 {}
    else if !f.sigOk then fail s 2
    else if d.type = 1 && (imageFail b s.fuses.minSvn true true).isSome then fail s (if imageFail b s.fuses.minSvn true true = some 4 then 3 else 2)
    else
      let s : State := { s with dist := some { d with state := dsVERIFIED } }
      if d.type = 1 then { s with flash := Store.setList (fun _ => 0) s.flash 0 b, fwStaged := true }
      else if d.type = 2 then { s with codeStaged := some d.digest }
      else State.holdPlan { s with flash := Store.setList (fun _ => 0) s.flash flashPlanBase b } b

/-- DIST_ACTIVATE: a management reset follows the response; SVN_BURN raises the fused minimum (R565, R580, R583). -/
def distActivate (b : List Byte) (s : State) : State × List Byte :=
  match s.distOf b with
  | none => (s, mcREFUSED)
  | some d =>
    if b.length != 5 || 1 < imgNat b 4 1 || d.state != dsVERIFIED then (s, mcREFUSED)
    else
      let svn := leNat (s.flashGet 8 4)
      let s : State := if imgNat b 4 1 = 1 then { s with fuses := { s.fuses with minSvn := max s.fuses.minSvn svn } } else s
      (s.mgmtReset 2, mcOK)

/-- DIST_ABORT: refused while VERIFYING; otherwise the content is discarded (R580, R584). -/
def distAbort (b : List Byte) (s : State) : State × List Byte :=
  match s.distOf b with
  | none => (s, mcREFUSED)
  | some d => if b.length != 4 || d.state = dsVERIFYING then (s, mcREFUSED) else ({ s with dist := none, codeStaged := if d.type = 2 then none else s.codeStaged }, mcOK)

end Sys2Proof.Machine
end

