-- ==== Sys2Proof/Machine/Shape.lean ====
section
/-! DEFINITION. The shape of a machine: coordinates by the plan, classes of ports, usable ports, next hops and the tables of an epoch, placement of
slices (11 R411, R417, R420, R422–R425, R430–R433). -/

namespace Sys2Proof.Machine

/-- The parts of a package index (08 R322). -/
def ixCube (i : Nat) : Nat := i / 64
def ixX (i : Nat) : Nat := i / 16 % 4
def ixY (i : Nat) : Nat := i / 4 % 4
def ixP (i : Nat) : Nat := i % 4
def ixOf (c x y p : Nat) : Nat := c * 64 + x * 16 + y * 4 + p
/-- The coordinate of a package, D and E zero. -/
def ixCoord (i : Nat) : Coord := Coord.mk (ixCube i <<< 12 + ixX i <<< 8 + ixY i <<< 4 + ixP i) 0 0
/-- The coordinate of a switch (10 R382). -/
def swCoord (c j : Nat) : Coord := BitVec.ofNat 32 (c <<< 24 + 15 <<< 20 + 15 <<< 16 + j <<< 12 + 15 <<< 8)

/-- The packages a plan names, by index. -/
def planIxs (b : List Byte) : List Nat := (planPackages b).map (fun e => routeIndex e.2)

/-- The manager's record of a package, of a switch, of a die, of a port. -/
def State.pkgAt (s : State) (i : Nat) : Option PkgRec := s.smt.pkgs.find? (fun p => p.ix == i)
def State.pkgOf (s : State) (ser : BitVec 128) : Option PkgRec := s.smt.pkgs.find? (fun p => p.serial == ser)
def State.swOf (s : State) (ser : BitVec 128) : Option SwRec := s.smt.sws.find? (fun w => w.serial == ser)
def State.dieOf (s : State) (ser : BitVec 128) (role : Nat) : Option FoundDie := s.smt.found.find? (fun d => d.serial == ser && d.role == role)
def FoundDie.port (d : FoundDie) (n : Nat) : Option PortRec := d.ports.find? (fun p => p.rep.port == n)
def State.portRec (s : State) (ser : BitVec 128) (role n : Nat) : Option PortRec := (s.dieOf ser role).bind (·.port n)
/-- A package lies in the shape: HEALTHY or DEGRADED (R438, R439). -/
def State.inShape (s : State) (i : Nat) : Bool := (s.pkgAt i).any (fun p => p.state == 1 || p.state == 2)

/-- The record of a global port of a package. -/
def State.pkgPort (s : State) (i : Nat) (q : Port) : Option PortRec :=
  (s.pkgAt i).bind (fun p => s.portRec p.serial (Port.pdie q).val q.val)

/-- The reciprocal role of a port (R420). -/
def Role.recip : Role → Role
  | .xp => .xm | .xm => .xp | .yp => .ym | .ym => .yp | r => r

/-- The ports of a role under a profile, ascending (07 R290). -/
def rolePorts (prof : Nat) (r : Role) : List Port := allPorts.filter (fun q => portRole prof q == r)

/-- The port that the i-th port of a role expects to face (07 R291). -/
def facing (prof : Nat) (q : Port) : Option Port :=
  let r := portRole prof q
  (rolePorts prof r.recip)[(rolePorts prof r).idxOf q]?

/-- The package index a role of a package faces. -/
def roleIx (i : Nat) (r : Role) : Option Nat :=
  (r.neighbour (ixCube i) (ixX i) (ixY i) (ixP i)).map (fun e => ixOf e.1 e.2.1 e.2.2.1 e.2.2.2)

/-- The SWITCHES entry of a rack and j (R409). -/
def planSwitch (b : List Byte) (c j : Nat) : Option PlanSwitch := (planSwitches b).find? (fun w => w.cube == c && w.j == j)

/-- The first 8 bytes of the manager's plan digest, as PORT_LIST shows a partner's (10 R384). -/
def planDig8 (b : List Byte) : BitVec 64 := BitVec.ofNat 64 (leNat ((digest16 b).take 8))

/-- The class of a port whose partner's IDENT is known, from what is expected of it: planned, whether the partner is the expected one, whether its
port's role is reciprocal, whether it is the expected port (R420). PROFILE is the bring-up plan's (R412). The order of the conditions that leave a port out is
log entry 60's. -/
def classOf (b : List Byte) (prof : Nat) (r : PortRep) (planned partnerAssigned expected reciprocal exact : Bool) : PortClass :=
  if r.state = lkDETECT || r.state = lkFAILED || !r.valid then (if planned then .missing else .absent)
  else if r.negVer = 0 then .version
  else if !planned || !partnerAssigned then .extra
  else if r.pRole ≠ 2 && r.pPlan ≠ planDig8 b then .plan
  else if r.pRole ≠ 2 && r.pProfile ≠ prof then .profile
  else if !expected || !reciprocal then .cross
  else if exact then .ok else .swap

/-- A port of an assigned package (R411, R420). -/
def State.classifyPkg (s : State) (i : Nat) (r : PortRep) : PortClass :=
  if h : r.port < 24 then
    let q : Port := ⟨r.port, h⟩
    let b := s.plan
    let prof := s.profile
    let role := portRole prof q
    let planned := plannedPresent b prof (ixCoord i) q
    match role with
    | .s j =>
      let i' := match planSwitch b (ixCube i) j with | some w => w.map.idxOf (i % 64) | none => 128
      let sw := s.swOf r.pSerial
      classOf b prof r planned sw.isSome (sw.any (fun w => w.cube == ixCube i && w.j == j)) (r.pRole == 2) (r.pPort == i')
    | _ =>
      let pk := s.pkgOf r.pSerial
      let recip := if h' : r.pPort < 24 then portRole prof ⟨r.pPort, h'⟩ == role.recip else false
      classOf b prof r planned (pk.isSome || (s.swOf r.pSerial).isSome) (pk.any (fun p => some p.ix == roleIx i role)) (r.pRole != 2 && recip)
        ((facing prof q).any (fun f => f.val == r.pPort))
  else .unclassed

/-- A port of an assigned switch (R411, R420). -/
def State.classifySw (s : State) (w : SwRec) (r : PortRep) : PortClass :=
  let b := s.plan
  let x := match planSwitch b w.cube w.j with | some e => (e.map[r.port]?).getD 255 | none => 255
  let recip := if h' : r.pPort < 24 then portRole s.profile ⟨r.pPort, h'⟩ == .s w.j else false
  classOf b s.profile r (x != 255) ((s.pkgOf r.pSerial).isSome || (s.swOf r.pSerial).isSome) ((s.pkgOf r.pSerial).any (fun p => p.ix == w.cube * 64 + x))
    (r.pRole != 2 && recip) true

/-- The class of a port of a found die; every port of a die that stays unassigned is EXTRA (R417, R420). -/
def State.classify (s : State) (d : FoundDie) (r : PortRep) : PortClass :=
  if d.role = 2 then (match s.swOf d.serial with | some w => s.classifySw w r | none => if r.valid then .extra else .absent)
  else match s.pkgOf d.serial with | some p => s.classifyPkg p.ix r | none => if r.valid then .extra else .absent

/-- The partner's record of a port. -/
def State.partner (s : State) (p : PortRec) : Option PortRec := if p.rep.valid then s.portRec p.rep.pSerial p.rep.pRole p.rep.pPort else none

/-- A class the manager admits (R420). -/
def PortClass.good (c : PortClass) : Bool := c == .ok || c == .swap

/-- A port's own part in being usable: its class, and HELD or ACTIVE (R422). -/
def PortRec.fit (p : PortRec) : Bool := p.cls.good && (p.rep.state == lkHELD || p.rep.state == lkACTIVE)

/-- A port is usable in the shape: it and its partner (R422). -/
def State.usableRec (s : State) (p : PortRec) : Bool := p.fit && (s.partner p).any PortRec.fit

/-- The usable ports of a role of a package (R422). -/
def State.usableAt (s : State) (i : Nat) (r : Role) : List Port :=
  if !(s.inShape i) then [] else
  (rolePorts s.profile r).filter (fun q => (s.pkgPort i q).any s.usableRec)

/-- The distance on a ring of four, and the shorter direction, + on a tie (08 R321). -/
def ringDist (a b : Nat) : Nat := min ((b + 4 - a) % 4) ((a + 4 - b) % 4)
def ringPlus (a b : Nat) : Bool := decide ((b + 4 - a) % 4 ≤ (a + 4 - b) % 4)

/-- dist(s, t) (R422). -/
def torusDist (i t : Nat) : Nat := ringDist (ixX i) (ixX t) + ringDist (ixY i) (ixY t) + (if ixP i = ixP t then 0 else 1)

/-- The first hop of the dimension-order path within a rack (R422). -/
def torusRole (i t : Nat) : Role :=
  if ixX i ≠ ixX t then (if ringPlus (ixX i) (ixX t) then .xp else .xm)
  else if ixY i ≠ ixY t then (if ringPlus (ixY i) (ixY t) then .yp else .ym)
  else .n (ixP i ^^^ ixP t)

/-- Every bundle on the path has a usable port (R422); a path has at most five hops. -/
def State.torusIntact (s : State) : Nat → Nat → Nat → Bool
  | 0, i, t => i == t
  | n + 1, i, t => if i = t then true else
    !((s.usableAt i (torusRole i t)).isEmpty) && (match roleIx i (torusRole i t) with | some i' => s.torusIntact n i' t | none => false)

/-- The lowest set bit of a rack difference. -/
def lowBit (v : Nat) : Nat := ((List.range 6).find? (fun d => v.testBit d)).getD 0

/-- W(s, t) (R422). -/
def State.nextSet (s : State) (i t : Nat) : List Port :=
  if !(s.inShape i) || !(s.inShape t) then []
  else if ixCube i ≠ ixCube t then s.usableAt i (.o (lowBit (ixCube i ^^^ ixCube t)))
  else
    let torus := s.torusIntact 5 i t
    if torusDist i t ≤ planSwThresh s.plan && torus then s.usableAt i (torusRole i t)
    else
      let w := (List.range (profileSwitches s.profile)).flatMap (fun j => if (s.usableAt t (.s j)).isEmpty then [] else s.usableAt i (.s j))
      if !(w.isEmpty) then w else if torus then s.usableAt i (torusRole i t) else []

/-- A route from one package to another, package by package over next-hop ports that `ok` accepts (R422, R431): at most six racks, four ring hops, N and a switch. -/
def State.routeFrom (s : State) (ok : Nat → Port → Bool) : Nat → Nat → Nat → Bool
  | 0, i, t => i == t
  | n + 1, i, t => i == t || (match (s.nextSet i t).filter (ok i) with
    | [] => false
    | q :: _ => s.routeFrom ok n ((roleIx i (portRole s.profile q)).getD t) t)
def State.hasRoute (s : State) (i t : Nat) : Bool := s.routeFrom (fun _ _ => true) 12 i t
/-- A route over admitted ports (01 R37). -/
def State.hasAdmitted (s : State) (i t : Nat) : Bool := s.routeFrom (fun j q => (s.pkgPort j q).any (·.admitted)) 12 i t

/-- The members of a set on a port die, as a mask by local index (08 R322). -/
def memberMask (w : List Port) (k : PDie) : Nat := ((w.filter (fun q => Port.pdie q == k)).map (fun q => 2 ^ Port.local q)).sum

/-- The router table entry of port die k of package i for destination t (R423). -/
def State.genRouter (s : State) (i : Nat) (k : PDie) (t : Nat) : Nat :=
  if i = t then 2 ^ 24 + 2 ^ 31
  else
    let w := s.nextSet i t
    memberMask w k + memberMask w (1 - k) <<< 12 + (if w.isEmpty then 0 else 2 ^ 31)

/-- The egress-map entry of each compute die of package i for destination t (R423). -/
def State.genEgress (s : State) (i t : Nat) : Nat :=
  if i = t then 0
  else
    let w := s.nextSet i t
    let n (k : PDie) : Nat := (w.filter (fun q => Port.pdie q == k)).length
    (if n 0 = 0 then 0 else 1) + (if n 1 = 0 then 0 else 2) + (n 0 % 8) <<< 2 + (n 1 % 8) <<< 5 + (if w.isEmpty then 0 else 2 ^ 31)

/-- The table entry of a switch for package t (R424). -/
def State.genSwitch (s : State) (w : SwRec) (t : Nat) : Nat :=
  if ixCube t ≠ w.cube || !(s.inShape t) then 0 else
  match planSwitch s.plan w.cube w.j, s.dieOf w.serial 2 with
  | some e, some d => (((List.range 128).filter (fun n => e.map[n]? == some (t % 64) && (d.port n).any s.usableRec)).map (2 ^ ·)).sum
  | _, _ => 0

/-- Entries of a table: kind 0 of port die `die`, 1 of any compute die, 2 of a switch (10 R382). -/
def State.genEntry (s : State) (ser : BitVec 128) (kind die t : Nat) : List Byte :=
  if kind = 2 then (match s.swOf ser with | some w => leBytes (s.genSwitch w t) 16 | none => List.replicate 16 0)
  else match s.pkgOf ser with
    | some p => leBytes (if kind = 0 then s.genRouter p.ix (if die = 0 then 0 else 1) t else s.genEgress p.ix t) 4
    | none => List.replicate 4 0
def State.genTable (s : State) (ser : BitVec 128) (kind die : Nat) : List Byte := (List.range 4096).flatMap (s.genEntry ser kind die)

/-- The tables of a package or switch: kind and die (R423, R424, 10 R388). -/
def tablesOf (role : Nat) : List (Nat × Nat) :=
  if role = 2 then [(2, 0)] else if role = 0 then (0, 0) :: (List.range 8).map (fun n => (1, n)) else [(0, 1)]

/-- The agents of the shape: PD0 and PD1 of each package, and each live switch (R427). -/
def State.shapeAgents (s : State) : List (BitVec 128 × Nat) :=
  ((s.smt.pkgs.filter (fun p => s.inShape p.ix)).flatMap (fun p => [(p.serial, 0), (p.serial, 1)])) ++
    (s.smt.sws.filter (·.live)).map (fun w => (w.serial, 2))

/-- The digest of the generated tables (R442; log entry 61). -/
def State.tablesDigest (s : State) : BitVec 512 :=
  Config.sha512 (s.shapeAgents.flatMap (fun a => (tablesOf a.2).flatMap (fun t => s.genTable a.1 t.1 t.2)))

/-- RTR_PORT attributes of a port of a package (R425). -/
def attrOf (prof i : Nat) (q : Port) : Nat :=
  match portRole prof q with
  | .n _ => 1
  | .xp => 2 + (if ixX i = 3 then 16 else 0)
  | .xm => 2 + 8 + (if ixX i = 0 then 16 else 0)
  | .yp => 3 + (if ixY i = 3 then 16 else 0)
  | .ym => 3 + 8 + (if ixY i = 0 then 16 else 0)
  | .s _ => 4
  | .o d => 5 + d <<< 5

/-- MATCH of one die through the port it was found by (R417): the coordinates as assigned so far. -/
structure Matching where
  pkgs : List PkgRec := []
  sws : List SwRec := []
  deriving DecidableEq, Repr

/-- A die's first finder: the die that reports it, in discovery order, and the port (R417). -/
def State.finders (s : State) (d : FoundDie) : List (FoundDie × PortRec) :=
  s.smt.found.flatMap (fun f => (f.ports.filter (fun p => p.rep.valid && p.rep.pSerial == d.serial && (d.role == 2) == (p.rep.pRole == 2))).map (fun p => (f, p)))

/-- One attempt to assign the package or switch of a die (R417). -/
def State.matchDie (s : State) (m : Matching) (d : FoundDie) : Matching :=
  let b := s.plan
  if d.role = 2 then
    if m.sws.any (fun w => w.serial == d.serial) then m
    else match (planSwitches b).find? (fun e => e.serial == d.serial && e.serial != 0) with
      | some e => { m with sws := m.sws ++ [{ cube := e.cube, j := e.j, serial := d.serial }] }
      | none =>
        let via := (s.finders d).find? (fun f => f.1.role != 2 && m.pkgs.any (fun p => p.serial == f.1.serial))
        match via.bind (fun f => (m.pkgs.find? (fun p => p.serial == f.1.serial)).map (fun p => (p.ix, f.2.rep.port))) with
        | some (i, n) => if h : n < 24 then (match portRole s.profile ⟨n, h⟩ with
            | .s j => match planSwitch b (ixCube i) j with
              | some e => if e.serial = 0 && !(m.sws.any (fun w => w.cube == e.cube && w.j == e.j)) then
                  { m with sws := m.sws ++ [{ cube := e.cube, j := e.j, serial := d.serial }] } else m
              | none => m
            | _ => m) else m
        | none => m
  else
    if m.pkgs.any (fun p => p.serial == d.serial) then m
    else match planCoordOf b d.serial with
      | some c => { m with pkgs := m.pkgs ++ [{ ix := routeIndex c, serial := d.serial }] }
      | none =>
        let via := (s.finders d).find? (fun f => if f.1.role = 2 then m.sws.any (fun w => w.serial == f.1.serial) else m.pkgs.any (fun p => p.serial == f.1.serial))
        let want : Option Nat := via.bind (fun f =>
          if f.1.role = 2 then (m.sws.find? (fun w => w.serial == f.1.serial)).bind (fun w =>
            (planSwitch b w.cube w.j).bind (fun e => (e.map[f.2.rep.port]?).bind (fun x => if x < 64 then some (w.cube * 64 + x) else none)))
          else (m.pkgs.find? (fun p => p.serial == f.1.serial)).bind (fun p =>
            if h : f.2.rep.port < 24 then roleIx p.ix (portRole s.profile ⟨f.2.rep.port, h⟩) else none))
        match want with
        | some i => if (planPackages b).any (fun e => routeIndex e.2 == i && e.1 == 0) && !(m.pkgs.any (fun p => p.ix == i)) then
            { m with pkgs := m.pkgs ++ [{ ix := i, serial := d.serial }] } else m
        | none => m

/-- MATCH: passes in discovery order until nothing more is assigned (R417), from what is assigned already. -/
def State.matchFrom (s : State) (m : Matching) : Matching :=
  s.smt.found.foldl (fun m _ => s.smt.found.foldl s.matchDie m) m
def State.matching (s : State) : Matching := s.matchFrom {}

/-- A package, or a switch, has its place in the plan (R410, R417). -/
def PkgRec.planned (b : List Byte) (p : PkgRec) : Bool :=
  match planCoordOf b p.serial with
  | some c => routeIndex c == p.ix
  | none => (planPackages b).any (fun e => routeIndex e.2 == p.ix && e.1 == 0)
def SwRec.planned (b : List Byte) (w : SwRec) : Bool := (planSwitch b w.cube w.j).any (fun e => e.serial == 0 || e.serial == w.serial)

/-- Reclassify every port of the graph (R420). -/
def State.classifyAll (s : State) : List FoundDie :=
  s.smt.found.map (fun d => { d with ports := d.ports.map (fun p => { p with cls := s.classify d p.rep }) })

/-- Every planned die and switch has been found with every planned-present port HELD or ACTIVE (R415): each planned serial or place is judged after
a trial MATCH. -/
def State.allFound (s : State) : Bool :=
  let m := s.matching
  let t : State := { s with smt := { s.smt with pkgs := m.pkgs, sws := m.sws } }
  let up (p : PortRec) : Bool := p.rep.state == lkHELD || p.rep.state == lkACTIVE
  (planIxs s.plan).all (fun i => (t.pkgAt i).isSome &&
    allPorts.all (fun q => !(plannedPresent s.plan s.profile (ixCoord i) q) || (t.pkgPort i q).any up)) &&
  (planSwitches s.plan).all (fun e => (m.sws.find? (fun w => w.cube == e.cube && w.j == e.j)).any (fun w =>
    (t.dieOf w.serial 2).any (fun d => (List.range 128).all (fun n => (e.map[n]?).getD 255 == 255 || (d.port n).any up))))

/-- CUT of a package: the rack dimensions without a usable port (R438, R439). -/
def State.cutOf (s : State) (i : Nat) : Nat :=
  (((List.range (planCubeDim s.plan)).filter (fun d => (s.usableAt i (.o d)).isEmpty)).map (2 ^ ·)).sum

/-- The subsets of a mask of rack dimensions, ascending. -/
def subMasks (m : Nat) : List Nat := (List.range 64).filter (fun k => k &&& m == k)

/-- The members of a slice in rank order (R430, 09 R352). -/
def SliceRec.ixs (x : SliceRec) : List Nat :=
  let l := if x.kind = 0 then (List.range x.count).map (fun k => ixOf x.c0 x.x0 x.y0 (x.p0 + k))
    else (subMasks x.cmask).flatMap (fun m => (List.range x.a).flatMap (fun i => (List.range x.b).flatMap (fun j =>
      (List.range 4).map (fun p => ixOf (x.c0 ^^^ m) ((x.x0 + i) % 4) ((x.y0 + j) % 4) p))))
  l.mergeSort (fun a b => decide (a ≤ b))

/-- The candidates of a request in search order (R433). -/
def sliceCandidates (kind count a b cmask : Nat) : List SliceRec :=
  if kind = 0 then
    (List.range 64).flatMap (fun c => (List.range 4).flatMap (fun y => (List.range 4).flatMap (fun x =>
      ((List.range 4).filter (fun p => p % count == 0)).map (fun p =>
        { id := 0, part := 0, kind := 0, count := count, c0 := c, x0 := x, y0 := y, p0 := p }))))
  else
    ((List.range 64).filter (fun c => c &&& cmask == 0)).flatMap (fun c => ((List.range 4).filter (fun y => b != 4 || y == 0)).flatMap (fun y =>
      ((List.range 4).filter (fun x => a != 4 || x == 0)).map (fun x =>
        { id := 0, part := 0, kind := 1, count := count, c0 := c, cmask := cmask, x0 := x, y0 := y, a := a, b := b })))

/-- The form of a SLICE_ALLOC request, and the kinds SLICE_POLICY allows (R409, R430). -/
def sliceForm (b : List Byte) (kind count a h cmask : Nat) : Bool :=
  let fl := planSliceFlags b
  if kind = 0 then fl.testBit 0 && (count == 1 || count == 2 || count == 4)
  else kind == 1 && fl.testBit 1 && decide (1 ≤ a) && decide (a ≤ 4) && decide (1 ≤ h) && decide (h ≤ 4) && decide (cmask < 64) && (cmask == 0 || fl.testBit 2)

/-- A slice may stand on its members (R431). -/
def State.sliceFits (s : State) (x : SliceRec) : Bool :=
  let l := x.ixs
  l.all (fun i => (s.pkgAt i).any (fun p => (p.state == 1 || (p.state == 2 && (planSliceFlags s.plan).testBit 3)) && p.slice == 0 && p.cut &&& x.cmask == 0)) &&
    l.all (fun i => l.all (fun t => s.hasRoute i t))

/-- The packages on which a partition number must be free (R432): the members, and in board-unified presentation their boards. -/
def State.partScope (s : State) (x : SliceRec) : List Nat :=
  if s.boot.boardPres then (x.ixs.flatMap (fun i => (List.range 4).map (fun p => i / 4 * 4 + p))).eraseDups else x.ixs

/-- A partition number is in use on a package: a slice holds it there until its scrub is reported (R434). -/
def State.partUsed (s : State) (i p : Nat) : Bool :=
  s.smt.slices.any (fun x => x.part == p && x.members.contains i && !(x.scrubbed.contains i))

/-- The lowest partition number of a candidate (R432). -/
def State.slicePart (s : State) (x : SliceRec) (partIdx : Nat) : Option Nat :=
  let n := if s.boot.pkgPres = 1 then 32 else if s.boot.pkgPres = 2 then 16 else 64
  let q := if n = 64 then 0 else partIdx
  (List.range 64).find? (fun p => (planPartPool s.plan).testBit p && p / n == q && (s.partScope x).all (fun i => !(s.partUsed i p)))

/-- The 16-byte descriptor of a slice (R437). -/
def SliceRec.bytes (x : SliceRec) : List Byte :=
  leBytes x.id 2 ++ [BitVec.ofNat 8 x.part, BitVec.ofNat 8 (x.kind + x.count <<< 1), BitVec.ofNat 8 x.c0, BitVec.ofNat 8 x.cmask,
    BitVec.ofNat 8 (x.x0 + x.y0 <<< 2), BitVec.ofNat 8 (x.a + x.b <<< 3), BitVec.ofNat 8 x.p0, BitVec.ofNat 8 x.state] ++ List.replicate 6 0

/-- A package record of 4 bytes (R438). -/
def PkgRec.bytes (p : PkgRec) : List Byte := leBytes (p.state + p.cut <<< 4 + p.slice <<< 16) 4

end Sys2Proof.Machine
end

