-- ==== Sys2Proof/Machine/Summit.lean ====
section
/-! DEFINITION. The Summit manager: its requests, records and stages (11 R406–R429, R442–R448). -/

namespace Sys2Proof.Machine

/-- SMT_STATE.DISC and PAIR (R413, R450). -/
def sdOFF : Nat := 0
def sdPLAN : Nat := 1
def sdEXPLORE : Nat := 2
def sdMATCH : Nat := 3
def sdCLAIM : Nat := 4
def sdASSIGN : Nat := 5
def sdINSTALL : Nat := 6
def sdADMIT : Nat := 7
def sdSTEADY : Nat := 8
def sdRESHAPE : Nat := 9
def sdSTANDBY : Nat := 10
def prNONE : Nat := 0
def prPAIRED : Nat := 1
def prSOLO : Nat := 2
def prISOLATED : Nat := 3
def prSTANDBY : Nat := 4
def prSYNCING : Nat := 5

def State.disc (s : State) : Nat := s.fld .smt F.SMT_STATE_DISC
def State.setDisc (s : State) (v : Nat) : State := s.setFld .smt F.SMT_STATE_DISC v
def State.pairSt (s : State) : Nat := s.fld .smt F.SMT_STATE_PAIR
/-- A change of PAIR is an event (19 R669). -/
def State.setPair (s : State) (v : Nat) : State :=
  if s.pairSt = v then s else (s.setFld .smt F.SMT_STATE_PAIR v).fireEvent .smt 2
def State.summitRole (s : State) : Nat := s.fld .smt F.SMT_CTRL_ROLE
def State.myTerm (s : State) : BitVec 32 := BitVec.ofNat 32 (s.fld .smt F.SMT_TERM_TERM)
def State.updSmt (s : State) (f : SummitSt → SummitSt) : State := { s with smt := f s.smt }
/-- The manager runs: the role, enabled, and the management complex (R406, R414). -/
def State.smtUp (s : State) : Bool := s.summitRole != 0 && s.flag .smt F.SMT_CTRL_EN && s.spUp && !s.mcReset
/-- It acts as primary: past PLAN and not a standby (R413). -/
def State.acts (s : State) : Bool := s.smtUp && s.disc != sdOFF && s.disc != sdPLAN && s.disc != sdSTANDBY
/-- Serving: STEADY or RESHAPE (R413). -/
def State.serving (s : State) : Bool := s.acts && (s.disc == sdSTEADY || s.disc == sdRESHAPE)
/-- The serial of the partner (R409, R412). -/
def State.partnerSerial (s : State) : BitVec 128 :=
  if s.fuses.serial = planPrimary s.rolePlan then planStandby s.rolePlan else planPrimary s.rolePlan
/-- Summit endpoint coordinates of a serial, zero where it has none yet. -/
def State.summitCoord (s : State) (ser : BitVec 128) : Coord :=
  match s.pkgOf ser with | some p => Coord.mk (Coord.pkg (ixCoord p.ix)) 8 2 | none => 0

/-- The way of a request: the partner and the packages to which an admitted route leads over the fabric; before a shape is installed by the route list found;
else a PD0 agent over the management network and a PD1 agent routed (R415, R416, 01 R37). -/
def State.pathTo (s : State) (t : MgrTarget) : MgrPath :=
  let installed := s.disc == sdSTEADY || s.disc == sdRESHAPE
  match t with
  | .peer => if installed || s.disc == sdSTANDBY then .routed else .net
  | .ag ser role =>
    let route := ((s.dieOf ser role).map (·.route)).getD []
    if role = 2 || !installed then (if route.isEmpty then (if role = 0 then .net else .routed) else .directed route)
    else if (s.pkgOf s.fuses.serial).any (fun a => (s.pkgOf ser).any (fun p => s.inShape p.ix && s.hasAdmitted a.ix p.ix)) then .routed
    else if role = 0 then .net else if route.isEmpty then .routed else .directed route

/-- The bytes a request carries besides its symbolic arguments: entries of a table, its CRC, a fragment of a content (10 R382, R388, 15 R580). -/
def State.opData (s : State) (t : MgrTarget) (op : MgrOp) : List Byte :=
  match t, op with
  | .ag ser _, .tableWrite kind die _ first count => (List.range count).flatMap (fun i => s.genEntry ser kind die (first + i))
  | .ag ser _, .tableCommit kind die _ => leBytes (crc32 (s.genTable ser kind die)).toNat 4
  | _, .distData _ c f => match s.smt.fw with
    | some x => let b := (x.content.drop (65536 * c + 1024 * f)).take 1024; b ++ List.replicate (1024 - b.length) 0
    | none => []
  | _, _ => []

/-- An operation needs a session (10 R381). -/
def MgrOp.authed : MgrOp → Bool
  | .identify | .portList _ _ | .sessionOpen | .inflightRead | .pairOpen => false
  | _ => true

/-- Requests an ISOLATED primary may still send: heartbeats, its claim, what concerns its partner (R447). -/
def JobTag.isolatedOk : JobTag → Bool
  | .claim | .pair | .hb _ | .mirror | .sync | .notice => true
  | _ => false

/-- A request leaves under its XID (R400). -/
def State.sendJob (s : State) (j : Job) : State :=
  match j.steps with
  | [] => s
  | (t, op) :: _ =>
    let s := match j.path with | .directed _ => s.bump .smt C.SMT_DIRECTED 1 | _ => s
    s.emit (.mgr t j.path j.xid op (s.opData t op))

/-- Requests outstanding in all, and to one agent (R400, R450). -/
def outstanding (l : List Job) : Nat := (l.filter (·.sent)).length
def outstandingTo (l : List Job) (t : MgrTarget) : Nat := (l.filter (fun j => j.sent && (j.steps.head?).any (fun x => x.1 == t))).length

/-- SMT_CFG.OUTSTANDING as it acts (R450). -/
def State.smtLimit (s : State) : Nat := let v := s.fld .smt F.SMT_CFG_OUTSTANDING; if v = 0 then 2048 else v

/-- Send what may leave, in order: a request that needs a session opens it first; one that waits for a session under way waits. -/
def State.pumpJobs (s : State) (done : List Job) : List Job → State
  | [] => s.updSmt (fun x => { x with jobs := done })
  | j :: rest =>
    match j.sent, j.steps with
    | true, _ => s.pumpJobs (done ++ [j]) rest
    | _, [] => s.pumpJobs done rest
    | _, (t, op) :: _ =>
      let all := done ++ rest
      let open_ : Bool := match t with | .ag ser role => s.smt.open_.contains (ser, role) | .peer => true
      let opening := all.any (fun k => k.sent && (k.steps.head?).any (fun x => x.1 == t && x.2 == MgrOp.sessionOpen))
      if s.smtLimit ≤ outstanding all || 32 ≤ outstandingTo all t || (s.pairSt == prISOLATED && !(j.tag.isolatedOk)) || (op.authed && !open_ && opening) then
        s.pumpJobs (done ++ [j]) rest
      else
        let path : MgrPath := match j.tag with | .hb fab => if fab then .routed else .net | .probe => .net | _ => s.pathTo t
        let steps := if op.authed && !open_ then (t, MgrOp.sessionOpen) :: j.steps else j.steps
        let j := { j with steps := steps, sent := true, xid := s.smt.nextXid, left := 3, path := path }
        let s := s.updSmt (fun x => { x with nextXid := (x.nextXid + 1) % 2 ^ 32 })
        (s.sendJob j).pumpJobs (done ++ [j]) rest
def State.smtPump (s : State) : State := s.pumpJobs [] s.smt.jobs

/-- New requests. -/
def State.addJobs (s : State) (l : List Job) : State := s.updSmt (fun x => { x with jobs := x.jobs ++ l })
def oneJob (tag : JobTag) (t : MgrTarget) (op : MgrOp) : Job := { tag := tag, steps := [(t, op)] }

/-- The SEQ of the last record (R442). -/
def SummitSt.lastSeq (x : SummitSt) : Nat := ((x.recs.getLast?).map (·.seq)).getD 0

/-- A list with an element put in place of those that pass, or at its end. -/
def upsert {α : Type} (p : α → Bool) (v : α) (l : List α) : List α := if l.any p then l.map (fun x => if p x then v else x) else l ++ [v]

/-- A port's record takes its place in the graph. -/
def SummitSt.putPort (x : SummitSt) (ser : BitVec 128) (role : Nat) (p : PortRec) : SummitSt :=
  let d := (x.found.find? (fun d => d.serial == ser && d.role == role)).getD { serial := ser, role := role }
  let d := { d with ports := upsert (fun q => q.rep.port == p.rep.port) p d.ports }
  { x with found := upsert (fun e => e.serial == ser && e.role == role) d x.found }

/-- The packages of a target set (15 R580). -/
def SummitSt.targets (x : SummitSt) (t : TargetSet) : List Nat :=
  (x.pkgs.filter (fun p => p.state != 0 && match t with
    | .all => true
    | .cube c => ixCube p.ix == c
    | .coords l => l.any (fun co => routeIndex co == p.ix))).map (·.ix)

/-- The cap a member has by the mirrored records, else its fused limit (12 R479, R480). -/
def variantLimit (v : Nat) : Nat := if v = 1 then 3200 else if v = 2 then 2600 else 2000
def SummitSt.fusedLimit (x : SummitSt) (ix : Nat) : Nat :=
  match x.pkgs.find? (fun p => p.ix == ix) with
  | some p => variantLimit (((x.found.find? (fun d => d.serial == p.serial && d.role == 0)).map (·.variant)).getD 1)
  | none => variantLimit 1
def SummitSt.capOf (x : SummitSt) (ix : Nat) : CapRec := (x.caps.find? (fun c => c.ix == ix)).getD ⟨ix, x.fusedLimit ix, 0, 0⟩

/-- WS_CONFIG (12 R480): refused for a confidential slice, or a die without a free tracking slot; enabling gives each point the lowest free slot of its
die. -/
def SummitSt.wsFree (x : SummitSt) (taken : List WsPoint) (p : WsPoint) : Option Nat :=
  (List.range 16).find? (fun n => !(((x.ws.filter (fun w => !w.off)).flatMap (fun w => w.root :: w.points) ++ taken).any (fun q => q.pkg == p.pkg && q.die == p.die && q.slot == n &&
    q.cairn != p.cairn)))
def SummitSt.wsPoints (x : SummitSt) (l : List WsPoint) : Option (List WsPoint) :=
  l.foldl (fun acc p => match acc with
    | none => none
    | some done =>
      match (done.find? (fun q => q.pkg == p.pkg && q.die == p.die && q.cairn == p.cairn)) with
      | some q => some (done ++ [{ p with slot := q.slot }])
      | none => (x.wsFree done p).map (fun n => done ++ [{ p with slot := n }])) (some [])
/-- A slice's configuration ends: it stands as off until the next, and goes at once where it stood so already (R483). -/
def SummitSt.wsEnd (x : SummitSt) (id : Nat) : SummitSt :=
  { x with ws := x.ws.filterMap (fun w => if w.slice != id then some w else if w.off then none else some { w with off := true }) }
def SummitSt.wsConfig (x : SummitSt) (r : WsReq) : SummitSt :=
  match x.slices.find? (fun y => y.id == r.slice && y.state == 1) with
  | none => x.wsEnd r.slice
  | some y =>
    if !r.enable || ((y.join[0]?).getD 0).getLsbD 0 || r.points.length != y.members.length || r.dead = 0 then x.wsEnd r.slice
    else
      let x' := { x with ws := x.ws.filter (fun w => w.slice != r.slice) }
      match x'.wsPoints (r.root :: r.points) with
      | some (root :: ps) => { x' with ws := x'.ws ++ [{ slice := r.slice, dead := r.dead, minW := r.minW, root := root, points := ps,
                                                         caps0 := y.members.map (fun i => (x.capOf i).cap) }] }
      | _ => x.wsEnd r.slice

/-- What a record says of the state, at the primary that commits it and at the standby that applies it (R442, R443). -/
def SummitSt.apply (x : SummitSt) (b : MirBody) : SummitSt :=
  match b with
  | .shape ps ws told =>
    { x with
      pkgs := ps.foldl (fun l p => upsert (fun q => q.ix == p.ix) p l) x.pkgs
      sws := ws.foldl (fun l w => upsert (fun q => q.cube == w.cube && q.j == w.j) w l) x.sws
      shapeDue := if told then x.shapeDue.filter (fun i => !(ps.any (fun p => p.ix == i))) else (x.shapeDue ++ ps.map (·.ix)).eraseDups }
  | .port ser role p => x.putPort ser role p
  | .routeBegin n _ _ => { x with changing := some (n, 0) }
  | .routeEnd n => { x with cur := n, changing := none }
  | .slice y gone =>
    { x with
      slices := if gone then x.slices.filter (fun z => z.id != y.id) else upsert (fun z => z.id == y.id) y x.slices
      pkgs := x.pkgs.map (fun p => if !gone && y.members.contains p.ix && !(y.scrubbed.contains p.ix) then { p with slice := y.id }
        else if p.slice = y.id then { p with slice := 0 } else p)
      ws := if gone || y.state = 2 || y.state = 3 then x.ws.filter (fun w => w.slice != y.id) else x.ws }
  | .opcmd h c =>
    let x := { x with opCtrs := Store.set (fun _ => 0) x.opCtrs h.cred.toNat h.ctr.toNat }
    match c with
    | .planUpdate img _ => { x with planSeen := img }
    | .wsConfig r => x.wsConfig r
    | .fwDistribute t ts content =>
      if x.fw.isSome then x
      else { x with fw := some { id := BitVec.ofNat 32 h.ctr.toNat, type := t, content := content, targets := x.targets ts, asked := some h } }
    | _ => x
  | .keyState ser role port rx slot st =>
    if rx || st != 2 then x else
    match (x.found.find? (fun d => d.serial == ser && d.role == role)).bind (fun d => d.port port) with
    | some p => x.putPort ser role { p with txSlot := slot }
    | none => x
  | .power c _ => { x with caps := upsert (fun k => k.ix == c.ix) c x.caps, capsWas := upsert (fun k => k.ix == c.ix) (x.capOf c.ix) x.capsWas }
  | .failed cmd ix =>
    match x.capsWas.find? (fun k => k.ix == ix) with
    | some c => if cmd = 0x0207 then { x with caps := upsert (fun k => k.ix == ix) c x.caps } else x
    | none => x
  | .plan _ _ | .log _ _ _ _ | .failure _ _ _ | .term _ _ => x

/-- A record is committed: it takes the next SEQ and stands in the state; a paired primary mirrors it (R442, R443). -/
def State.commit (s : State) (b : MirBody) : State :=
  let r : MirRec := ⟨s.smt.lastSeq + 1, s.myTerm, b⟩
  let s := s.updSmt (fun x => { (x.apply b) with recs := x.recs ++ [r] })
  if s.pairSt = prPAIRED then s.addJobs [oneJob .mirror .peer (.mirror [r])] else s

/-- Jobs that begin a change: every table of every agent of the shape is written in nine packets of entries, or 33 for a switch, and committed
(10 R382, R428). -/
def writeJobs (n : Nat) (a : BitVec 128 × Nat) : List Job :=
  (tablesOf a.2).map (fun t =>
    let per := if t.1 = 2 then 126 else 504
    { tag := .write
      steps := (List.range (ceilDiv 4096 per)).map (fun i => (.ag a.1 a.2, .tableWrite t.1 t.2 n (per * i) (min per (4096 - per * i)))) ++
        [(.ag a.1 a.2, .tableCommit t.1 t.2 n)] })

/-- EPOCH_SET of every agent of the shape: every die it serves (R428, 10 R391). -/
def State.epochJobs (s : State) (n : Nat) : List Job :=
  s.shapeAgents.map (fun a => oneJob .epoch (.ag a.1 a.2) (.epochSet n (if a.2 = 0 then 0x1FF else if a.2 = 1 then 0x200 else 0)))

/-- The keys of one direction, from the transmitting end to the receiving end (R418, R419). -/
def keySteps (a : BitVec 128 × Nat × Nat) (b : BitVec 128 × Nat × Nat) (slot keyId : Nat) : List (MgrTarget × MgrOp) :=
  [(.ag b.1 b.2.1, .keyLoad b.2.2 true slot keyId), (.ag a.1 a.2.1, .keyLoad a.2.2 false slot keyId), (.ag a.1 a.2.1, .keySwitch a.2.2 slot)]

/-- PORT_ATTR of a port of an assigned package (R418, R425). -/
def State.attrSteps (s : State) (ser : BitVec 128) (role port : Nat) : List (MgrTarget × MgrOp) :=
  if role = 2 then [] else match s.pkgOf ser with
    | some k => if h : port < 24 then [(.ag ser role, .portAttr port (attrOf s.profile k.ix ⟨port, h⟩))] else []
    | none => []

/-- The admission of a link (R418): both directions keyed into the slot that is not in use, ADMIT to both ends, then MEMBER_ON. -/
def admitJob (tag : JobTag) (ser : BitVec 128) (role : Nat) (p : PortRec) (q : PortRec) (keyId : Nat) : Job :=
  let a := (ser, role, p.rep.port)
  let b := (p.rep.pSerial, p.rep.pRole, p.rep.pPort)
  { tag := tag
    steps := keySteps a b (1 - p.txSlot) keyId ++ keySteps b a (1 - q.txSlot) (keyId + 1) ++
      [(.ag a.1 a.2.1, .portCmd a.2.2 3), (.ag b.1 b.2.1, .portCmd b.2.2 3), (.ag a.1 a.2.1, .portCmd a.2.2 6), (.ag b.1 b.2.1, .portCmd b.2.2 6)] }

/-- One end of each link: the lower of (serial, port). -/
def leadEnd (ser : BitVec 128) (role : Nat) (p : PortRec) : Bool :=
  decide (ser.toNat < p.rep.pSerial.toNat) || (ser == p.rep.pSerial && decide (role * 256 + p.rep.port < p.rep.pRole * 256 + p.rep.pPort))

/-- The links that wait for admission: both ends classified OK or SWAP and in HELD (R418, R420). -/
def State.admissible (s : State) : List (BitVec 128 × Nat × PortRec × PortRec) :=
  s.smt.found.flatMap (fun d => d.ports.filterMap (fun p =>
    match s.partner p with
    | some q => if leadEnd d.serial d.role p && p.fit && q.fit && (!p.admitted || !q.admitted) then some (d.serial, d.role, p, q) else none
    | none => none))

/-- A link has requests under way. -/
def State.linkBusy (s : State) (ser : BitVec 128) (role port : Nat) : Bool :=
  s.smt.jobs.any (fun j => (j.tag == .admitPort || j.tag == .key) && j.steps.any (fun x => x.1 == .ag ser role && (match x.2 with
    | .keyLoad n _ _ _ | .keySwitch n _ | .portCmd n _ | .keyClear n _ _ => n == port | _ => false)))

/-- Begin the admission of every link that waits for it. -/
def State.admitAll (s : State) : State :=
  s.admissible.foldl (fun t l =>
    if t.linkBusy l.1 l.2.1 l.2.2.1.rep.port then t
    else
      let j := admitJob .admitPort l.1 l.2.1 l.2.2.1 l.2.2.2 t.smt.nextKey
      let p := l.2.2.1.rep
      let attrs := if s.serving then s.attrSteps l.1 l.2.1 p.port ++ s.attrSteps p.pSerial p.pRole p.pPort else []
      (t.addJobs [{ j with steps := attrs ++ j.steps }]).updSmt (fun x => { x with nextKey := x.nextKey + 2 })) s

/-- A route change begins: its record names the epoch, the SEQ of the shape and the digest of the tables (R428). -/
def State.beginChange (s : State) (n : Nat) : State :=
  let shapeSeq := (((s.smt.recs.filter (fun r => r.body.type == 2)).getLast?).map (·.seq)).getD 0
  (s.updSmt (fun x => { x with changeDue := false, sweep := 0, sweepBad := false })).commit (.routeBegin n shapeSeq s.tablesDigest)

/-- The ridge master of each rack is its lowest HEALTHY package (17 R630). -/
def State.rackMaster (s : State) (c : Nat) : Option Nat :=
  (((s.smt.pkgs.filter (fun p => ixCube p.ix == c && p.state == 1)).map (·.ix)).mergeSort (fun a b => decide (a ≤ b))).head?
def State.pkgJob (s : State) (tag : JobTag) (ix cmd : Nat) (body : List Byte) : List Job :=
  match s.pkgAt ix with | some p => [oneJob tag (.ag p.serial 0) (.mc cmd body)] | none => []
def State.appoint (s : State) : State :=
  ((List.range 64).filter (fun c => (planRackMask s.plan).testBit c)).foldl (fun t c =>
    let old := (t.smt.masters.find? (fun m => m.1 == c)).map (·.2)
    let new := t.rackMaster c
    if old = new then t
    else
      let t := match old with | some o => t.addJobs (t.pkgJob .stop o 0x010E [0, 0]) | none => t
      match new with
      | some n => (t.addJobs (t.pkgJob .stop n 0x010E [0, 1])).updSmt (fun x => { x with masters := upsert (fun m => m.1 == c) (c, n) x.masters })
      | none => t.updSmt (fun x => { x with masters := x.masters.filter (fun m => m.1 != c) })) s

/-- An operator command is answered; the last answer of a credential is kept (16 R610). -/
def State.answerOp (s : State) (a : OpAnswer) : State :=
  (s.updSmt (fun x => { x with answers := upsert (fun y => y.cred == a.cred) a x.answers })).emit (.operator a)

/-- Begin a distribution (15 R582): DIST_OPEN to every target, its fragments, then its status. -/
def fwOpen (x : FwJob) : List Byte :=
  leBytes x.id.toNat 4 ++ [BitVec.ofNat 8 x.type, 0, 0, 0] ++ leBytes x.content.length 4 ++ leBytes (ceilDiv x.content.length 65536) 2 ++ [0, 0] ++
    leBytes (Config.sha512 x.content).toNat 64
def fwFrags (x : FwJob) (ser : BitVec 128) (cs : List Nat) : List (MgrTarget × MgrOp) :=
  cs.flatMap (fun c => (List.range (min 64 (ceilDiv x.content.length 1024 - 64 * c))).map (fun f => (.ag ser 0, .distData x.id c f)))
def State.startFw (s : State) (x : FwJob) : State :=
  let s := s.updSmt (fun y => { y with fw := some x })
  x.targets.foldl (fun t i => match t.pkgAt i with
    | some p =>
      let steps : List (MgrTarget × MgrOp) := [(.ag p.serial 0, .mc 0x0109 (fwOpen x))] ++
        fwFrags x p.serial (List.range (ceilDiv x.content.length 65536)) ++ [(.ag p.serial 0, .mc 0x010B (leBytes x.id.toNat 4))]
      t.addJobs [{ tag := .fw i, steps := steps }]
    | none => t) s

/-- The plan of the machine reaches packages by the chunk method (R412, R420), once no other distribution is under way. -/
def State.pumpPlan (s : State) : State :=
  if s.smt.fw.isSome || s.smt.planDue.isEmpty then s
  else (s.updSmt (fun x => { x with planDue := [] })).startFw { id := BitVec.ofNat 32 (planSeq s.plan), type := 3, content := s.plan, targets := s.smt.planDue }
def State.sendPlan (s : State) (ixs : List Nat) : State := (s.updSmt (fun x => { x with planDue := (x.planDue ++ ixs).eraseDups })).pumpPlan

/-- A slice's descriptor names it in SLICE_LEAVE and SLICE_STOP (R436; log entry 43). -/
def SliceRec.ref (x : SliceRec) : List Byte := leBytes x.id 2 ++ [BitVec.ofNat 8 x.part]

/-- The slices of a package or of both ends of a link stop: their records are committed (R439, R440). -/
def State.stopSlices (s : State) (p : SliceRec → Bool) (cause el : Nat) : State :=
  (s.smt.slices.filter (fun x => p x && (x.state == 0 || x.state == 1))).foldl (fun t x => t.commit (.slice { x with state := 2, cause := cause, el := el } false)) s

/-- A package has failed (R439). -/
def State.pkgFailed (s : State) (ix : Nat) : State :=
  match s.pkgAt ix with
  | none => s
  | some p =>
    if p.state = 4 then s else
    let s := (s.commit (.failure p.serial 0 0xFF)).commit (.shape [{ p with state := 4 }] [] false)
    (s.stopSlices (fun x => x.members.contains ix) 1 ix).updSmt (fun x => { x with changeDue := true })

/-- CUT of the packages of a rack dimension follows the links (R439). -/
def State.recut (s : State) : State :=
  let l := s.smt.pkgs.filter (fun p => s.inShape p.ix && s.cutOf p.ix != p.cut)
  if l.isEmpty then s
  else
    let new := l.map (fun p => { p with cut := s.cutOf p.ix })
    let s := s.commit (.shape new [] false)
    s.stopSlices (fun x => new.any (fun p => x.members.contains p.ix && p.cut &&& x.cmask != 0)) 2 ((new.head?.map (·.ix)).getD 0)

/-- Every planned port that faces a package or a switch is lost at its partners (R439): no partner reports it. -/
def State.silent (s : State) (ser : BitVec 128) : Bool :=
  let l := s.smt.found.flatMap (fun d => d.ports.filter (fun p => d.serial != ser && p.rep.pSerial == ser))
  !(l.isEmpty) && l.all (fun p => p.rep.state == lkFAILED || p.rep.state == lkDETECT)

/-- The conclusion from a failed port (R439, R440): the link is out; slices with both ends stop; a package or switch whose partners have lost every port is
probed or out. -/
def State.portFailed (s : State) (ser : BitVec 128) (role : Nat) (p : PortRec) : State :=
  let s := s.commit (.failure ser role p.rep.port)
  let a := (s.pkgOf ser).map (·.ix)
  let b := (s.pkgOf p.rep.pSerial).map (·.ix)
  let s := match a, b with
    | some i, some j => s.stopSlices (fun x => x.members.contains i && x.members.contains j) 0 i
    | _, _ => s
  let s := s.recut.updSmt (fun x => { x with changeDue := true })
  if p.rep.valid && s.silent p.rep.pSerial then
    (match s.swOf p.rep.pSerial with
    | some w => if w.live then s.commit (.shape [] [{ w with live := false }] false) else s
    | none => if (s.pkgOf p.rep.pSerial).any (fun k => s.inShape k.ix) && !(s.smt.jobs.any (fun j => j.tag == .probe)) then
        s.addJobs [oneJob .probe (.ag p.rep.pSerial 0) .identify] else s)
  else s

/-- The port commands a class calls for (R418, R420): QUARANTINE at both ends, DISABLE of a port planned absent. -/
def classJobs (tag : JobTag) (ser : BitVec 128) (role : Nat) (p : PortRec) : List Job :=
  let live := p.rep.state == lkHELD || p.rep.state == lkACTIVE
  match p.cls with
  | .cross | .extra | .profile => if live then
      [oneJob tag (.ag ser role) (.portCmd p.rep.port 4), oneJob tag (.ag p.rep.pSerial p.rep.pRole) (.portCmd p.rep.pPort 4)] else []
  | .absent => if p.rep.state != lkDISABLED && p.rep.state != lkQUARANTINE then [oneJob tag (.ag ser role) (.portCmd p.rep.port 2)] else []
  | _ => []

/-- The requests that list the ports of a die (R415). -/
def listSteps (ser : BitVec 128) (role : Nat) : List (MgrTarget × MgrOp) :=
  if role = 2 then [(.ag ser 2, .portList 0 64), (.ag ser 2, .portList 64 64)] else [(.ag ser role, .portList (9 * role) 12)]

/-- A die takes its place in the graph with the list it was first found by, and is asked; a GY880 die brings its sibling (R415). -/
def State.find (s : State) (ser : BitVec 128) (role : Nat) (route : List Nat) : State :=
  if (s.dieOf ser role).isSome then s
  else
    let d : FoundDie := { serial := ser, role := role, route := if route.length ≤ 24 then route else [] }
    (s.updSmt (fun x => { x with found := x.found ++ [d] })).addJobs [{ tag := .explore, steps := (.ag ser role, .identify) :: listSteps ser role }]
def State.findBoth (s : State) (ser : BitVec 128) (role : Nat) (route : List Nat) : State :=
  let s := s.find ser role route
  if role = 2 then s else s.find ser (1 - role) (route.dropLast ++ [25, 24])

/-- The list that reaches the die at the far end of a port (R415). -/
def FoundDie.beyond (d : FoundDie) (port : Nat) : List Nat :=
  d.route.dropLast ++ (if d.role = 2 then [28 + port / 32, port % 32, 24] else [port, 24])

/-- A package is to join the shape once a port of it is admitted (R418, R441): its sessions are new, its coordinate is set, its ports are listed. -/
def State.joinShape (s : State) (ix : Nat) : State :=
  match s.pkgAt ix with
  | none => s
  | some p =>
    let s := s.updSmt (fun x => { x with open_ := x.open_.filter (fun o => o.1 != p.serial), joining := (x.joining ++ [ix]).eraseDups })
    s.addJobs [oneJob .stop (.ag p.serial 0) (.coordSet (ixCoord ix) (s.summitCoord s.fuses.serial) (s.summitCoord s.partnerSerial)),
      { tag := .relist, steps := listSteps p.serial 0 }, { tag := .relist, steps := listSteps p.serial 1 }]

/-- The tables of one epoch into an agent's dies, committed, and the dies moved to it: a die that joins the shape stamps epoch 0 (R390, R427; log entry 84). -/
def alignJob (n : Nat) (a : BitVec 128 × Nat) : Job :=
  { tag := .align, steps := (writeJobs n a).flatMap (·.steps) ++ [(.ag a.1 a.2, .epochSet n (if a.2 = 0 then 0x1FF else if a.2 = 1 then 0x200 else 0))] }
def State.joinSwitch (s : State) (w : SwRec) : State :=
  let s := s.updSmt (fun x => { x with open_ := x.open_.filter (fun o => o.1 != w.serial) })
  let s := s.addJobs [oneJob .stop (.ag w.serial 2) (.coordSet (swCoord w.cube w.j) (s.summitCoord s.fuses.serial) (s.summitCoord s.partnerSerial)),
    { tag := .relist, steps := listSteps w.serial 2 }]
  if s.smt.cur = 1 then s.addJobs [alignJob 1 (w.serial, 2)] else s

/-- A package or switch that a port reports while the manager serves, and that has no place yet: it is found, and takes its place by the plan (R415, R417). -/
def State.meet (s : State) (d : FoundDie) (r : PortRep) : State :=
  if !(s.serving) || !r.valid || !(r.state == lkHELD || r.state == lkACTIVE) || (s.pkgOf r.pSerial).isSome || (s.swOf r.pSerial).isSome then s
  else
    let s := (s.updSmt (fun x => x.putPort d.serial d.role { (d.port r.port).getD { rep := r } with rep := r })).findBoth r.pSerial r.pRole (d.beyond r.port)
    let m0 : Matching := ⟨s.smt.pkgs.filter (fun p => p.serial != 0), s.smt.sws.filter (fun w => w.serial != 0)⟩
    let m := match s.dieOf r.pSerial r.pRole with | some e => s.matchDie m0 e | none => m0
    let newP := (m.pkgs.drop m0.pkgs.length).map (fun p => { p with state := 0 })
    let newW := m.sws.drop m0.sws.length
    if newP.isEmpty && newW.isEmpty then s
    else newW.foldl State.joinSwitch (newP.foldl (fun t p => t.joinShape p.ix) (s.commit (.shape newP newW false)))

/-- QUARANTINE at every port of a package (R420). -/
def State.shutJobs (s : State) (tag : JobTag) (ser : BitVec 128) : List Job :=
  (s.smt.found.filter (fun d => d.serial == ser && d.role != 2)).flatMap (fun d => (d.ports.filter (fun p => p.rep.state == lkHELD || p.rep.state == lkACTIVE)).map
    (fun p => oneJob tag (.ag ser d.role) (.portCmd p.rep.port 4)))

/-- A new report of a port (R420, R439): its class; the record of it; what its class and its state call for. -/
def State.portReport (s : State) (d : FoundDie) (r : PortRep) : State :=
  let old := (d.port r.port).getD { rep := { port := r.port } }
  let s := s.meet d r
  let lost := r.state == lkFAILED || r.state == lkDETECT || r.state == lkSAFE
  let rep := if r.valid || !(old.rep.valid) || !lost then r else { old.rep with state := r.state, cause := r.cause }
  let new : PortRec := { old with rep := rep, cls := s.classify d r, admitted := old.admitted && !lost, txSlot := if lost then 0 else old.txSlot }
  if !(s.serving || s.disc == sdADMIT) then s.updSmt (fun x => x.putPort d.serial d.role new)
  else if new = old && s.portRec d.serial d.role r.port = some old then s
  else
    let s := s.commit (.port d.serial d.role new)
    let s := if new.cls = old.cls || new.cls.good then (if new.cls = .swap && old.cls != .swap then s.commit (.log d.serial d.role r.port new.cls) else s)
      else s.commit (.log d.serial d.role r.port new.cls)
    let s := s.addJobs (classJobs .stop d.serial d.role new)
    let s := if new.cls = .profile then (match s.pkgOf r.pSerial with
      | some p => if p.state = 1 || p.state = 2 then (s.addJobs (s.shutJobs .stop r.pSerial)).commit (.shape [{ p with state := 3 }] [] true) else s
      | none => s)
      else (match s.pkgOf r.pSerial with
      | some p => if p.state = 3 && r.valid && r.pRole != 2 && r.pProfile = s.profile && !(s.smt.joining.contains p.ix) then s.joinShape p.ix else s
      | none => (match s.swOf r.pSerial with
        | some w => if !w.live && r.valid && r.state = lkHELD then (s.commit (.shape [] [{ w with live := true }] false)).joinSwitch w else s
        | none => s))
    let s := if new.cls = .plan then s.sendPlan ((s.pkgOf r.pSerial).toList.map (·.ix)) else s
    let s := if old.admitted && (!new.admitted || !(new.cls.good)) then s.portFailed d.serial d.role { new with rep := { rep with pSerial := old.rep.pSerial } } else s
    if new.cls.good && r.state = lkHELD && !new.admitted then (s.updSmt (fun x => { x with changeDue := true })).admitAll else s

/-- The dies a report of EXPLORE names (R415). -/
def State.exploreFrom (s : State) (d : FoundDie) (l : List PortRep) : State :=
  l.foldl (fun t r =>
    if r.valid && (r.state == lkHELD || r.state == lkACTIVE) then
      t.findBoth r.pSerial r.pRole (d.beyond r.port)
    else t) s

/-- The plan's parts that take effect at once (R412): packages and switches keep the places it still gives them, new ones take theirs, every port is classified
again, a quarantined port whose class allows it is released, and a route change is due. -/
def State.releasePorts (s : State) (p : FoundDie → Bool) : State :=
  s.addJobs ((s.smt.found.filter p).flatMap (fun d => (d.ports.filter (fun q => q.rep.state == lkQUARANTINE && q.cls.good && (s.partner q).any (fun r => r.cls.good) &&
    !((s.pkgOf d.serial).any (fun k => k.state == 3)) && !((s.pkgOf q.rep.pSerial).any (fun k => k.state == 3)))).map
      (fun q => oneJob .stop (.ag d.serial d.role) (.portCmd q.rep.port 5))))
def State.clearRetrains (s : State) (p : FoundDie → PortRec → Bool) : State :=
  s.updSmt (fun x => { x with found := x.found.map (fun d => { d with ports := d.ports.map (fun q => if p d q then { q with retrains := [] } else q) }) })
def State.replan (s : State) : State :=
  let m0 : Matching := ⟨s.smt.pkgs.filter (fun p => p.serial != 0 && p.planned s.plan), s.smt.sws.filter (·.planned s.plan)⟩
  let m := s.matchFrom m0
  let goneP := (s.smt.pkgs.filter (fun p => p.serial != 0 && !(m.pkgs.any (fun q => q.ix == p.ix)))).map (fun p => ({ ix := p.ix, serial := 0, state := 0 } : PkgRec))
  let newP := (m.pkgs.filter (fun p => !(m0.pkgs.any (fun q => q.ix == p.ix)))).map (fun p => { p with state := 0 })
  let goneW := (s.smt.sws.filter (fun w => !(m.sws.any (fun v => v.cube == w.cube && v.j == w.j)))).map (fun w => { w with serial := 0, live := false })
  let newW := m.sws.filter (fun w => !(m0.sws.any (fun v => v.cube == w.cube && v.j == w.j)))
  let s := if (goneP ++ newP).isEmpty && (goneW ++ newW).isEmpty then s else s.commit (.shape (goneP ++ newP) (goneW ++ newW) false)
  let s := newP.foldl (fun t p => t.joinShape p.ix) s
  let s := newW.foldl State.joinSwitch s
  let s := s.clearRetrains (fun _ _ => true)
  let s := s.smt.found.foldl (fun t d => d.ports.foldl (fun u p => match u.dieOf d.serial d.role with
    | some e => u.portReport e p.rep
    | none => u) t) s
  (s.releasePorts (fun _ => true)).updSmt (fun x => { x with changeDue := true })

/-- The requests that stop a slice have all been answered: its SLICE_EVENT goes (R440). -/
def State.haltDone (s : State) (id : Nat) : State :=
  match s.smt.slices.find? (fun x => x.id == id && x.state == 2) with
  | some x => if s.smt.jobs.any (fun j => j.tag == .halt id) then s else s.emit (.sliceEvent id 2 x.cause x.el)
  | none => s

/-- The command that waits for a slice's record is answered (R434). -/
def State.sliceAnswer (s : State) (x : SliceRec) (st : OpStatus) (data : List Byte) : State :=
  match x.asked with
  | some (c, n) => s.answerOp ⟨c, n, x.askCode, st, data, []⟩
  | none => s

/-- What follows a committed record (R434, R435, R439–R443, 12 R479): also what a takeover executes again (R447). Operator commands: `op`. -/
def State.actOn (op : OpHdr → OpCmd → State → State) (s : State) (b : MirBody) : State :=
  match b with
  | .plan _ _ =>
    let s := if s.smt.planSeen.isEmpty then s else (s.holdPlan s.smt.planSeen)
    let s := match s.smt.planAsk with
      | some h => (s.updSmt (fun x => { x with planAsk := none })).answerOp ⟨h.cred, h.ctr, 0x0204, .ok, [], []⟩
      | none => s
    let s := s.replan
    s.sendPlan ((s.smt.pkgs.filter (fun p => s.inShape p.ix && p.serial != s.fuses.serial)).map (·.ix))
  | .shape ps _ told =>
    if !told then s else
    let s := ((ps.map (fun p => ixCube p.ix)).eraseDups).foldl (fun t c => t.emit (.shapeEvent c (ps.filter (fun p => ixCube p.ix == c)))) s
    if s.disc = sdRESHAPE && s.smt.changing.isNone then s.setDisc sdSTEADY else s
  | .routeBegin n _ _ =>
    (s.addJobs (s.shapeAgents.flatMap (writeJobs n))).updSmt (fun x => { x with changing := some (n, 1) })
  | .routeEnd _ =>
    let s := s.bump .smt C.SMT_ROUTE_CHANGES 1
    if s.disc = sdINSTALL then (s.setDisc sdADMIT).admitAll else s
  | .slice x gone =>
    if x.state = 0 then s.addJobs (x.members.flatMap (fun i => s.pkgJob (.join x.id) i 0x0102 (x.bytes ++ x.join)))
    else if x.state = 1 then (s.sliceAnswer x .ok x.bytes).emit (.sliceEvent x.id 1 0 0)
    else if x.state = 2 then
      (s.addJobs ((x.members.filter s.inShape).flatMap (fun i => s.pkgJob (.halt x.id) i 0x0104 x.ref))).haltDone x.id
    else
      let s := s.sliceAnswer x (if x.askCode = 0x0201 then .memberFail else .ok) []
      if gone then s else s.addJobs ((x.members.filter (fun i => !(x.scrubbed.contains i))).flatMap (fun i => s.pkgJob (.leave x.id) i 0x0103 x.ref))
  | .opcmd h c => op h c s
  | .log ser role port cls =>
    if cls = .cross || cls = .extra || cls = .version || cls = .profile then s.emit (.portNotice ser role port cls) else s
  | .power c body => s.addJobs (s.pkgJob (.power c.ix) c.ix 0x0107 body)
  | .port _ _ _ | .keyState _ _ _ _ _ _ | .failed _ _ | .failure _ _ _ | .term _ _ => s

/-- Records that may be acted on: those the standby has acknowledged, or all of a primary without one (R443). -/
def State.actable (s : State) : List MirRec :=
  s.smt.recs.filter (fun r => decide (s.smt.acting < r.seq) && (s.pairSt != prPAIRED || decide (r.seq ≤ s.smt.acked)))
def State.runActs (op : OpHdr → OpCmd → State → State) : Nat → State → State
  | 0, s => s
  | n + 1, s =>
    if s.actable.isEmpty || s.pairSt = prISOLATED then s
    else State.runActs op n (s.actable.foldl (fun t r =>
      let t := (t.updSmt (fun x => { x with acting := r.seq })).wr64 .smt 0x120 (BitVec.ofNat 64 r.seq)
      t.actOn op r.body) s)

/-- EXPLORE begins at the manager's own dies (R415). -/
def State.startExplore (s : State) : State :=
  let s := (s.setDisc sdEXPLORE).updSmt (fun x => { opCtrs := x.opCtrs, answers := x.answers, nextXid := x.nextXid, nextKey := x.nextKey })
  (s.find s.fuses.serial 0 [24]).find s.fuses.serial 1 [25, 24]

/-- The packages a claim goes to and their number: the last committed shape, or before any the packages found and planned (R445). -/
def State.committed (s : State) : Bool := s.smt.recs.any (fun r => r.body.type == 2)
def State.claimSet (s : State) : List (BitVec 128) :=
  if s.committed then (s.smt.pkgs.filter (fun p => s.inShape p.ix)).map (·.serial) else s.smt.pkgs.map (·.serial)
def State.claimBase (s : State) : Nat := if s.committed then s.claimSet.length else (planPackages s.plan).length

/-- A claim of the next term (R445). -/
def State.startClaim (s : State) : State :=
  let t := s.myTerm + 1
  let s := s.updSmt (fun x => { x with claim := some { term := t }, isoRetry := 0, jobs := x.jobs.filter (fun j => j.tag != .claim) })
  s.addJobs (s.claimSet.map (fun ser => oneJob .claim (.ag ser 0) (.mc 0x0101 (leBytes t.toNat 4 ++ leBytes s.fuses.serial.toNat 16))))

/-- A higher term is learnt: agent requests stop, and the new primary's state is read (R446). -/
def State.smtStepDown (s : State) : State :=
  let s := ((s.setDisc sdSTANDBY).setPair prSYNCING).updSmt (fun x => { x with jobs := [], claim := none, changing := none })
  s.addJobs [oneJob .sync .peer (.syncRead 0)]

/-- A change whose ROUTE_END is not committed: TABLE_COMMIT goes to every die first (R447). -/
def State.resumeChange (s : State) : State :=
  match s.smt.changing with
  | some (n, _) =>
    let s := s.updSmt (fun x => { x with changing := some (n, 1) })
    (s.setDisc sdRESHAPE).addJobs (s.shapeAgents.flatMap (fun a => (tablesOf a.2).map (fun t => oneJob .takeover (.ag a.1 a.2) (.tableCommit t.1 t.2 n))))
  | none => s

/-- The records of the standby carry no act of its own; at a takeover all but the last are past, and the last is executed again unless it began a change
(R447). -/
def State.takeOver (s : State) : State :=
  let s := ((s.setDisc sdSTEADY).setPair prSOLO).bump .smt C.SMT_TAKEOVER 1
  let last := s.smt.lastSeq
  let s := s.updSmt (fun x => { x with open_ := [], acting := last - 1, acked := last })
  let me := s.summitCoord s.fuses.serial
  let other := s.summitCoord s.partnerSerial
  let s := s.addJobs ((s.smt.pkgs.filter (fun p => p.serial != 0)).flatMap (fun p => [oneJob .notice (.ag p.serial 0) (.coordSet (ixCoord p.ix) me other)]) ++
    (s.smt.sws.filter (fun w => w.serial != 0)).map (fun w => oneJob .notice (.ag w.serial 2) (.coordSet (swCoord w.cube w.j) me other)) ++
    [oneJob .notice .peer (.termNotice s.myTerm s.fuses.serial)])
  let s := match s.smt.fw with
    | some x => s.addJobs (x.targets.flatMap (fun i => s.pkgJob (.fw i) i 0x010B (leBytes x.id.toNat 4)))
    | none => s
  if s.smt.changing.isSome then (s.updSmt (fun x => { x with acting := last })).resumeChange else s

/-- The claim is granted by more than half (R445, R447). -/
def State.claimWon (s : State) (c : Claim) : State :=
  let s := (s.setFld .smt F.SMT_TERM_TERM c.term.toNat).updSmt (fun x => { x with claim := none })
  if s.disc = sdSTANDBY then
    let s := s.takeOver
    s.commit (.term c.term s.fuses.serial)
  else if s.pairSt = prISOLATED then
    let s := (s.setPair prSOLO).resumeChange
    s.commit (.term c.term s.fuses.serial)
  else
    let s := if s.pairSt = prPAIRED then s else s.setPair prSOLO
    s.commit (.term c.term s.fuses.serial)

/-- ASSIGN (R418). -/
def State.startAssign (s : State) : State :=
  let s := s.setDisc sdASSIGN
  let me := s.summitCoord s.fuses.serial
  let other := s.summitCoord s.partnerSerial
  let coords := s.smt.pkgs.map (fun p => oneJob .assign (.ag p.serial 0) (.coordSet (ixCoord p.ix) me other)) ++
    s.smt.sws.map (fun w => oneJob .assign (.ag w.serial 2) (.coordSet (swCoord w.cube w.j) me other))
  let ports := s.smt.found.flatMap (fun d => d.ports.flatMap (fun p =>
    (if p.cls.good then (s.attrSteps d.serial d.role p.rep.port).map (fun x => oneJob .assign x.1 x.2) else []) ++ classJobs .assign d.serial d.role p))
  let shut := (s.smt.pkgs.filter (fun p => p.state == 3)).flatMap (fun p => s.shutJobs .assign p.serial)
  let s := s.addJobs (coords ++ ports ++ shut)
  let s := s.sendPlan ((s.smt.found.flatMap (fun d => (d.ports.filter (fun p => p.cls == .plan)).flatMap (fun p => (s.pkgOf p.rep.pSerial).toList.map (·.ix)))).eraseDups)
  s.smt.found.foldl (fun t d => d.ports.foldl (fun u p =>
    if p.cls.good && p.cls != .swap || p.cls = .absent || p.cls = .unclassed then u else u.commit (.log d.serial d.role p.rep.port p.cls)) t) s

/-- INSTALL: the shape is committed, and the first tables go into epoch 1 (R418, R428). -/
def State.startInstall (s : State) : State :=
  let s := (s.setDisc sdINSTALL).commit (.shape s.smt.pkgs s.smt.sws false)
  let s := s.smt.found.foldl (fun t d => d.ports.foldl (fun u p => u.commit (.port d.serial d.role p)) t) s
  s.recut.beginChange 1

/-- The epoch that no source stamps is reusable once two complete INFLIGHT_READ sweeps of the shape have been made, the second all idle (R427). -/
def State.sweepStep (s : State) : State :=
  let ask (n : Nat) (s : State) : State := (s.updSmt (fun x => { x with sweep := n, sweepBad := false })).addJobs (s.shapeAgents.map (fun a => oneJob .sweep (.ag a.1 a.2) .inflightRead))
  if s.smt.sweep = 0 then ask 1 s
  else if s.smt.sweep = 1 || s.smt.sweepBad then ask (if s.smt.sweepBad && s.smt.sweep = 1 then 1 else 2) s
  else (s.setDisc sdRESHAPE).beginChange (1 - s.smt.cur)

/-- The stages that have no request left go on (R414, R428, R429). -/
def State.smtAdvance (s : State) : State :=
  let idle (t : JobTag) : Bool := !(s.smt.jobs.any (fun j => j.tag == t))
  if s.disc = sdCLAIM && s.smt.claim.isNone && s.smt.recs.any (fun r => r.body.type == 11) && idle .claim then s.startAssign
  else if s.disc = sdASSIGN && idle .assign then s.startInstall
  else match s.smt.changing with
    | some (n, 1) => if idle .write && idle .takeover && idle .rewrite then (s.updSmt (fun x => { x with changing := some (n, 2) })).addJobs (s.epochJobs n) else s
    | some (n, 2) =>
      if idle .epoch then
        let lost := (s.smt.pkgs.filter (fun p => p.state == 4)).map (·.serial) ++ (s.smt.sws.filter (fun w => !w.live)).map (·.serial)
        let cut := s.smt.found.flatMap (fun d => (d.ports.filter (fun p => !(lost.contains d.serial) && lost.contains p.rep.pSerial && p.admitted)).map (fun p =>
          oneJob .cutoff (.ag d.serial d.role) (.portCmd p.rep.port 2)))
        (s.updSmt (fun x => { x with changing := some (n, 3) })).addJobs cut
      else s
    | some (n, 3) =>
      if idle .cutoff then
        let s := s.commit (.routeEnd n)
        if s.disc = sdINSTALL then s else s.commit (.shape (s.smt.pkgs.filter (fun p => s.smt.shapeDue.contains p.ix)) [] true)
      else s
    | _ =>
      if s.disc = sdADMIT && idle .admitPort then
        let s := (s.setDisc sdSTEADY).appoint
        let s := if s.myTerm = 1 then s else s.addJobs (s.smt.pkgs.map (fun p => oneJob .relist (.ag p.serial 0) (.mc 0x0105 [])))
        s.commit (.shape s.smt.pkgs s.smt.sws true)
      else if s.serving && s.pairSt != prISOLATED && s.smt.changeDue && !(s.flag .smt F.SMT_GEN_BUSY) && idle .sweep && idle .align then s.sweepStep
      else s

end Sys2Proof.Machine
end

