-- ==== Sys2Proof/Machine/Manager.lean ====
section
/-! DEFINITION. The Summit manager: answers to its requests, operator commands, and the manager's rows (11 R406–R449, 12 R479–R482, 15 R582, R583, 17
R636, R638, R639). -/

namespace Sys2Proof.Machine

/-- A job ends, or its next request waits to leave. -/
def State.dropJob (s : State) (j : Job) : State := s.updSmt (fun x => { x with jobs := x.jobs.filter (fun k => !(k.sent && k.xid == j.xid)) })
def State.putJob (s : State) (j j' : Job) : State :=
  s.updSmt (fun x => { x with jobs := x.jobs.map (fun k => if k.sent && k.xid == j.xid then j' else k) })
def State.nextStep (s : State) (j : Job) : State :=
  match j.steps.drop 1 with
  | [] => s.dropJob j
  | r => s.putJob j { j with steps := r, sent := false, tries := 0 }

/-- A target of a command has answered; a failure is recorded. When the last target of an operator command has answered, the operator is answered (01 R37,
R38). -/
def State.opDone (s : State) (code ix : Nat) (ok : Bool) (data : List Byte) : State :=
  let s := if ok then s else s.commit (.failed code ix)
  match s.smt.waits.find? (fun w => w.code == code && w.left.contains ix) with
  | none => s
  | some w =>
    let w' := { w with left := w.left.filter (· != ix), bad := w.bad || !ok, body := w.body ++ data }
    if w'.left.isEmpty then
      (s.updSmt (fun x => { x with waits := x.waits.filter (fun v => v != w) })).answerOp ⟨w.h.cred, w.h.ctr, code, if w'.bad then .memberFail else .ok, w'.body, []⟩
    else s.updSmt (fun x => { x with waits := x.waits.map (fun v => if v = w then w' else v) })

/-- An operator command waits for its targets; one without any is answered at once. -/
def State.opWait (s : State) (h : OpHdr) (code : Nat) (ixs : List Nat) : State :=
  if ixs.isEmpty then s.answerOp ⟨h.cred, h.ctr, code, .ok, [], []⟩
  else s.updSmt (fun x => { x with waits := x.waits ++ [{ h := h, code := code, left := ixs }] })

/-- A creation is undone: SLICE_LEAVE to the members that joined, and MEMBER_FAIL, once the record is committed (R434, R443, R449). -/
def State.sliceUndo (s : State) (id : Nat) : State :=
  match s.smt.slices.find? (fun x => x.id == id && x.state == 0) with
  | none => s
  | some x =>
    let s := s.updSmt (fun y => { y with jobs := y.jobs.filter (fun j => j.tag != .join id) })
    s.commit (.slice { x with state := 3, members := x.joined } x.joined.isEmpty)

/-- A member has joined: when every member has, the slice is ACTIVE (R434). -/
def State.memberJoined (s : State) (id ix : Nat) : State :=
  match s.smt.slices.find? (fun x => x.id == id && x.state == 0) with
  | none => s
  | some x =>
    let x := { x with joined := x.joined ++ [ix] }
    if x.members.all x.joined.contains then s.commit (.slice { x with state := 1 } false)
    else s.updSmt (fun y => { y with slices := y.slices.map (fun z => if z.id = id then x else z) })

/-- A member reports that its scrub is complete: the partition number is free there; the SLICE_ID when every member has reported (R434). -/
def State.memberScrubbed (s : State) (ser : BitVec 128) (id : Nat) : State :=
  match s.smt.slices.find? (fun x => x.id == id && x.state == 3), s.pkgOf ser with
  | some x, some p =>
    if !(x.members.contains p.ix) || x.scrubbed.contains p.ix then s
    else
      let x := { x with scrubbed := x.scrubbed ++ [p.ix], asked := none }
      s.commit (.slice x (x.members.all x.scrubbed.contains))
  | _, _ => s

/-- The partitions of a package that has recovered are gone and its memory is scrubbed: a slice that is being freed has its report; another keeps the member, which
needs no SLICE_LEAVE (13 R510, R449). -/
def State.partitionsGone (s : State) (ix : Nat) : State :=
  (s.smt.slices.filter (fun x => x.members.contains ix)).foldl (fun t x =>
    if x.state = 3 then
      let y := { x with scrubbed := (x.scrubbed ++ [ix]).eraseDups, asked := none }
      t.commit (.slice y (y.members.all y.scrubbed.contains))
    else t.updSmt (fun z => { z with slices := z.slices.map (fun v => if v.id = x.id then { v with lost := (v.lost ++ [ix]).eraseDups } else v) })) s

/-- A package that READMIT names: its ports and those that face it may be retrained again, and quarantined ones that its class allows are released (R420, R421). -/
def State.freshPorts (s : State) (ser : BitVec 128) : State :=
  (s.clearRetrains (fun d q => d.serial == ser || q.rep.pSerial == ser)).releasePorts (fun d => d.serial == ser || d.ports.any (fun q => q.rep.pSerial == ser))

/-- A readmitted package (R441): TRAIN to its planned-present ports and to disabled ports that face it; it joins the shape when a port is admitted. -/
def State.readmitted (s : State) (ix : Nat) : State :=
  match s.pkgAt ix with
  | none => s
  | some p =>
    let s := (s.partitionsGone ix).freshPorts p.serial
    let qs := allPorts.filter (fun q => plannedPresent s.plan s.profile (ixCoord ix) q)
    let far := s.smt.found.flatMap (fun d => (d.ports.filter (fun q => q.rep.pSerial == p.serial && q.rep.state == lkDISABLED && q.cls.good)).map
      (fun q => oneJob .stop (.ag d.serial d.role) (.portCmd q.rep.port 1)))
    let s := s.addJobs (qs.map (fun q => oneJob .stop (.ag p.serial (Port.pdie q).val) (.portCmd q.val 1)) ++ far)
    (if p.state = 5 then s else s.commit (.shape [{ p with state := 5 }] [] false)).joinShape ix

/-- A port of a package that joins has been admitted: the package is HEALTHY, its dies are brought to the epoch in use, and a route change is due (R441, R427). -/
def State.joined (s : State) (ser : BitVec 128) : State :=
  match s.pkgOf ser with
  | none => s
  | some p =>
    if !(s.smt.joining.contains p.ix) then s
    else
      let s := (s.updSmt (fun x => { x with joining := x.joining.filter (· != p.ix), changeDue := true })).commit (.shape [{ p with state := 1 }] [] false)
      if s.smt.cur = 1 then s.addJobs [alignJob 1 (ser, 0), alignJob 1 (ser, 1)] else s

/-- READMIT to a package in recovered-idle (R441). -/
def State.startReadmit (s : State) (ix : Nat) : State := s.addJobs (s.pkgJob (.readmit ix) ix 0x0106 [])

/-- The result of a target of a distribution: when all have one, the operator is answered: per target its state, its cause and its missing chunks
(15 R582; log entry 67). A target without VERIFIED is recorded as a failure (01 R38). -/
def State.fwResult (s : State) (ix st c : Nat) : State :=
  match s.smt.fw with
  | none => s
  | some x =>
    let x := { x with results := upsert (fun r => r.1 == ix) (ix, st, c) x.results }
    let s := if st = 3 then s else s.commit (.failed (if x.asked.isSome then 0x0209 else 0x0204) ix)
    if x.targets.all (fun i => x.results.any (fun r => r.1 == i)) then
      let s := (s.updSmt (fun y => { y with fw := none })).pumpPlan
      match x.asked with
      | some h => s.answerOp ⟨h.cred, h.ctr, 0x0209, if x.results.all (fun r => r.2.1 == 3) then .ok else .memberFail,
          x.targets.flatMap (fun i => match x.results.find? (fun r => r.1 == i) with
            | some r => [BitVec.ofNat 8 r.2.1, BitVec.ofNat 8 (if r.2.1 = 4 then r.2.2 else 0)] ++ leBytes (if r.2.1 = 4 then 0 else r.2.2) 2
            | none => []), []⟩
      | none => s
    else s.updSmt (fun y => { y with fw := some x })

/-- DIST_STATUS of a target (15 R580, R582): done, or asked again while it verifies, or the missing chunks sent again up to eight rounds. -/
def State.fwStatus (s : State) (ix : Nat) (d : List Byte) : State :=
  match s.smt.fw, s.pkgAt ix with
  | some x, some p =>
    let st := imgNat d 0 1
    let n := ceilDiv x.content.length 65536
    let missing := (List.range n).filter (fun c => !((imgNat d 2 (ceilDiv n 8)).testBit c))
    let round := Store.get (fun _ => 0) x.rounds ix + 1
    let status : MgrTarget × MgrOp := (.ag p.serial 0, .mc 0x010B (leBytes x.id.toNat 4))
    if st = 3 || st = 4 then s.fwResult ix st (imgNat d 1 1)
    else if st = 0 then s.addJobs [{ tag := .fw ix, steps := [(.ag p.serial 0, .mc 0x0109 (fwOpen x))] ++ fwFrags x p.serial (List.range n) ++ [status] }]
    else if missing.isEmpty then s.addJobs [{ tag := .fw ix, steps := [status] }]
    else if 8 ≤ round then s.fwResult ix st missing.length
    else
      let s := s.updSmt (fun y => { y with fw := some { x with rounds := Store.set (fun _ => 0) x.rounds ix round } })
      s.addJobs [{ tag := .fw ix, steps := fwFrags x p.serial missing ++ [status] }]
  | _, _ => s

/-- FW_ACTIVATE (15 R583): the standby first, then the others, the primary itself once the standby is PAIRED again. -/
def State.pumpActivate (s : State) : State :=
  match s.smt.fwHdr with
  | none => s
  | some (id, fl) =>
    if s.smt.toActivate.isEmpty || s.smt.jobs.any (fun j => match j.tag with | .act _ => true | _ => false) then s
    else
      let mine := (s.pkgOf s.fuses.serial).map (·.ix)
      let stby := (s.pkgOf s.partnerSerial).map (·.ix)
      let body := leBytes id.toNat 4 ++ [fl]
      let others := s.smt.toActivate.filter (fun i => some i != mine)
      let now := if s.smt.toActivate.any (fun i => some i == stby) then s.smt.toActivate.filter (fun i => some i == stby)
        else if !(others.isEmpty) then others
        else if s.pairSt = prPAIRED then s.smt.toActivate else []
      (s.updSmt (fun x => { x with toActivate := x.toActivate.filter (fun i => !(now.contains i)) })).addJobs
        (now.flatMap (fun i => s.pkgJob (.act i) i 0x010C body))

/-- The descriptors of SLICE_QUERY are recommitted where they are not known (R448). -/
def State.readSlices (s : State) (ix : Nat) (d : List Byte) : State :=
  (List.range (d.length / 16)).foldl (fun t k =>
    let b := (d.drop (16 * k)).take 16
    let id := imgNat b 0 2
    if t.smt.slices.any (fun x => x.id == id) then t
    else
      let v3 := imgNat b 3 1
      let x : SliceRec := { id := id, part := imgNat b 2 1, kind := v3 % 2, count := v3 / 2 % 8, c0 := imgNat b 4 1, cmask := imgNat b 5 1,
                            x0 := imgNat b 6 1 % 4, y0 := imgNat b 6 1 / 4 % 4, a := imgNat b 7 1 % 8, b := imgNat b 7 1 / 8 % 8, p0 := imgNat b 8 1,
                            state := imgNat b 9 1 }
      let x := { x with members := x.ixs, joined := x.ixs }
      if x.members.contains ix then t.commit (.slice x false) else t) s

/-- The index of the package a job's request goes to. -/
def State.jobIx (s : State) (j : Job) : Option Nat :=
  (j.steps.head?).bind (fun x => match x.1 with | .ag ser _ => (s.pkgOf ser).map (·.ix) | .peer => none)

/-- A management command that its package did not complete is recorded (01 R38); a reading is no command that changes state. -/
def State.jobFailed (s : State) (j : Job) : State :=
  match s.jobIx j, j.steps.head? with
  | some ix, some (_, .mc cmd _) => if cmd = 0x0105 || cmd = 0x0108 then s else s.commit (.failed cmd ix)
  | _, _ => s

/-- The answer of a management complex: its status byte and the rest (R436). -/
def State.mcAnswer (s : State) (j : Job) (st : Nat) (d : List Byte) : State :=
  match j.tag with
  | .claim =>
    match j.steps.head?, s.smt.claim with
    | some (.ag ser _, .mc 0x0101 _), some c =>
      if st = 0 then
        let c := { c with grants := c.grants ++ [ser] }
        let s := s.updSmt (fun x => { x with claim := some c })
        if s.claimBase < 2 * c.grants.length then s.claimWon c else s
      else if st = 1 && s.myTerm.toNat < imgNat d 0 4 then
        State.smtStepDown (s.setFld .smt F.SMT_TERM_TERM (imgNat d 0 4))
      else s
    | _, _ => s
  | .join id =>
    match (j.steps.head?).bind (fun x => match x.1 with | .ag ser _ => (s.pkgOf ser).map (·.ix) | .peer => none) with
    | some ix => if st = 0 then s.memberJoined id ix else (s.commit (.failed 0x0102 ix)).sliceUndo id
    | none => s
  | .stop | .halt _ | .leave _ => if st = 1 then s.jobFailed j else s
  | .readmit ix => if st = 0 then (s.readmitted ix).opDone 0x0205 ix true [] else s.opDone 0x0205 ix false []
  | .power ix => (s.opDone 0x0207 ix (st == 0) d)
  | .op ix h => match s.smt.waits.find? (fun w => w.h == h) with
    | some w => s.opDone w.code ix (st == 0) d
    | none => s
  | .act ix => s.opDone 0x020A ix (st == 0) [BitVec.ofNat 8 st]
  | .fw ix =>
    match j.steps.head? with
    | some (_, .mc 0x0109 _) => if st = 0 then s else (s.updSmt (fun x => { x with jobs := x.jobs.map (fun k => if k.sent && k.xid == j.xid then { k with steps := k.steps.take 1 } else k) })).fwResult ix 4 0
    | some (_, .mc 0x010B _) => if st = 0 then s.fwStatus ix d else s.fwResult ix 4 0
    | _ => s
  | .relist =>
    match (j.steps.head?).bind (fun x => match x.1 with | .ag ser _ => (s.pkgOf ser).map (·.ix) | .peer => none) with
    | some ix => s.readSlices ix d
    | none => s
  | _ => s

/-- A port command was accepted: the port's record follows (R418). -/
def State.cmdDone (s : State) (ser : BitVec 128) (role port code : Nat) : State :=
  match s.portRec ser role port with
  | none => s
  | some p =>
    let st := if code = 1 then lkDETECT else if code = 2 then lkDISABLED else if code = 3 then lkACTIVE else if code = 4 then lkQUARANTINE else if code = 5 then lkHELD
      else p.rep.state
    let p := { p with rep := { p.rep with state := st }, admitted := if code = 6 then true else if code = 2 || code = 4 || code = 5 || code = 7 then false else p.admitted }
    if code = 6 then ((s.commit (.port ser role p)).recut).joined ser else s.updSmt (fun x => x.putPort ser role p)

/-- A heartbeat's answer (R446, R447). -/
def State.beatAnswer (s : State) (fab : Bool) (term : BitVec 32) (standby : Bool) (applied : Nat) : State :=
  if s.myTerm.toNat < term.toNat then State.smtStepDown (s.setFld .smt F.SMT_TERM_TERM term.toNat)
  else
    let s := s.updSmt (fun x => if fab then { x with fabSeen := true } else { x with mgnSeen := true })
    if !standby then s
    else if s.disc = sdPLAN then (s.setPair prPAIRED).startExplore
    else if s.pairSt = prSOLO || (s.pairSt = prISOLATED && term = s.myTerm) then
      let due := s.smt.recs.filter (fun r => decide (applied < r.seq))
      let s := (s.setPair prPAIRED).updSmt (fun x => { x with acked := applied, claim := none })
      let s := if due.isEmpty then s else s.addJobs [oneJob .mirror .peer (.mirror due)]
      if s.smt.changing.isSome && !(s.smt.jobs.any (fun j => j.tag == .write || j.tag == .epoch || j.tag == .takeover)) then s.resumeChange else s
    else s

/-- A MIRROR acknowledgement: the highest applied SEQ, or the first SEQ lacking, from which the records go again (R443). -/
def State.mirrorAnswer (s : State) (term : BitVec 32) (seq : Nat) (lacks : Option Nat) : State :=
  if s.myTerm.toNat < term.toNat then State.smtStepDown (s.setFld .smt F.SMT_TERM_TERM term.toNat)
  else
    let s := s.updSmt (fun x => { x with acked := max x.acked (match lacks with | some n => n - 1 | none => seq) })
    match lacks with
    | some n => s.addJobs [oneJob .mirror .peer (.mirror (s.smt.recs.filter (fun r => decide (n ≤ r.seq))))]
    | none => s

/-- A record applied by a standby (R443). -/
def State.applyRec (s : State) (r : MirRec) : State :=
  let s := (s.updSmt (fun x => { (x.apply r.body) with recs := x.recs ++ [r], acting := r.seq })).wr64 .smt 0x120 (BitVec.ofNat 64 r.seq)
  s.setFld .smt F.SMT_TERM_TERM r.term.toNat

/-- The state image has been read: the records it holds are the standby's state (R444, R446). -/
def State.imageAnswer (s : State) (recs : List MirRec) (last : Bool) (off : Nat) : State :=
  let s := if off = 0 then s.updSmt (fun x => { nextXid := x.nextXid, nextKey := x.nextKey, jobs := x.jobs, fabSeen := x.fabSeen, mgnSeen := x.mgnSeen }) else s
  let s := recs.foldl State.applyRec s
  if last then (s.setDisc sdSTANDBY).setPair prSTANDBY else s.addJobs [oneJob .sync .peer (.syncRead (off + 1984))]

/-- IDENTIFY (R415, R439–R441). A package recorded FAILED that shows neither the safe state nor recovered-idle has come up anew, and joins the shape again
(log entry 84). -/
def State.identAnswer (s : State) (tag : JobTag) (ser : BitVec 128) (role variant : Nat) (safe idle : Bool) (dig : BitVec 128) : State :=
  let s := s.updSmt (fun x => { x with found := x.found.map (fun d => if d.serial = ser && d.role = role then
    { d with known := true, safe := safe, variant := variant, planDig := dig } else d) })
  match tag, s.pkgOf ser with
  | .probe, some p =>
    if idle && p.state = 4 then
      let s := s.commit (.shape [{ p with state := 5 }] [] true)
      if (planSliceFlags s.plan).testBit 4 then s.startReadmit p.ix else s
    else if safe then s.pkgFailed p.ix
    else if p.state = 4 && !(s.smt.joining.contains p.ix) then (s.partitionsGone p.ix).joinShape p.ix
    else s
  | _, _ => s

/-- A request is answered OK. -/
def State.jobOk (s : State) (j : Job) (t : MgrTarget) (op : MgrOp) (b : AnsBody) : State :=
  let s := match t, op, b with
    | .ag ser role, .sessionOpen, _ => s.updSmt (fun x => { x with open_ := x.open_ ++ [(ser, role)] })
    | .ag ser role, .identify, .ident ser' v safe idle dig => if ser = ser' then s.identAnswer j.tag ser role v safe idle dig else s
    | .ag ser role, .portList _ _, .ports l =>
      (match s.dieOf ser role with
      | some d =>
        let s := l.foldl (fun (u : State) r => u.portReport ((u.dieOf ser role).getD d) r) s
        if j.tag = JobTag.explore && s.disc = sdEXPLORE then s.exploreFrom d l else s
      | none => s)
    | .ag ser role, .portCmd n code, _ => s.cmdDone ser role n code
    | .ag ser role, .keySwitch n slot, _ => s.commit (.keyState ser role n false slot 2)
    | .ag ser role, .keyLoad n rx slot _, _ => s.commit (.keyState ser role n rx slot 1)
    | .ag ser role, .keyClear n rx slot, _ => s.commit (.keyState ser role n rx slot 0)
    | .ag _ _, .inflightRead, .inflight i0 i1 => if s.smt.cur = 1 && !i0 || s.smt.cur = 0 && !i1 then s.updSmt (fun x => { x with sweepBad := x.sweepBad || x.sweep == 2 }) else s
    | _, .mc _ _, .mc st d => s.mcAnswer j st d
    | _, .deviceReset, _ => (match s.jobIx j with | some ix => s.opDone 0x020D ix true [] | none => s)
    | .peer, .heartbeat _ _ _ _ _, .beat term _ stby applied => (match j.tag with | .hb fab => s.beatAnswer fab term stby applied | _ => s)
    | .peer, .mirror _, .applied term seq lacks => s.mirrorAnswer term seq lacks
    | .peer, .syncRead off, .image recs last => if s.pairSt = prSYNCING then s.imageAnswer recs last off else s
    | _, _, _ => s
  let s := s.nextStep j
  match j.tag with | .halt id => s.haltDone id | _ => s

/-- A request has failed, by its status or after its retries: what depends on it (R400, R418, R429, R434, R439, R447, 01 R38). -/
def State.jobFail (s : State) (j : Job) : State :=
  let ixOf' : Option Nat := (j.steps.head?).bind (fun x => match x.1 with | .ag ser _ => (s.pkgOf ser).map (·.ix) | .peer => none)
  let sw : Option SwRec := (j.steps.head?).bind (fun x => match x.1 with | .ag ser 2 => s.swOf ser | _ => none)
  let s := s.dropJob j
  match j.tag with
  | .write | .epoch | .takeover | .rewrite | .align =>
    (match ixOf', sw with
    | some ix, _ => s.pkgFailed ix
    | _, some w => if w.live then s.commit (.shape [] [{ w with live := false }] false) else s
    | _, _ => s)
  | .sweep => s.updSmt (fun x => { x with sweepBad := true })
  | .halt id => (s.jobFailed j).haltDone id
  | .probe => (match ixOf' with | some ix => s.pkgFailed ix | none => s)
  | .join id => (s.jobFailed j).sliceUndo id
  | .stop | .leave _ => s.jobFailed j
  | .power ix => s.opDone 0x0207 ix false []
  | .readmit ix => s.opDone 0x0205 ix false []
  | .op ix h => (match s.smt.waits.find? (fun w => w.h == h) with | some w => s.opDone w.code ix false [] | none => s)
  | .act ix => s.opDone 0x020A ix false [1]
  | .fw ix => s.fwResult ix 4 0
  | .mirror => if s.pairSt = prPAIRED then (s.setPair prISOLATED).startClaim else s
  | .sync => if s.pairSt = prSYNCING then s.addJobs [oneJob .sync .peer (.syncRead 0)] else s
  | _ => s

/-- Everything that has become due: acts of records, stages, requests. -/
def State.settleSummit (op : OpHdr → OpCmd → State → State) (s : State) : State :=
  let s := (s.runActs op 4).smtAdvance
  let s := (s.runActs op 4).smtAdvance
  (s.runActs op 4).pumpActivate.smtPump

/-- Statuses of responses after which a session is opened anew (10 R375, R379). -/
def reopens (st : Nat) : Bool := st == agAUTH || st == agNOSESSION || st == agSTALE

/-- An answer reaches the manager (10 R375, R400). BUSY leaves the request outstanding. A table that a takeover writes again and that is refused with STATE belongs to
a die that stamps the new epoch already (R387, R447). A rediscovery whose dies stamp epoch 1 installs its first tables in epoch 0 (R387, R448; log entry 84). -/
def State.takeAnswer (s : State) (a : MgrAns) : State :=
  match s.smt.jobs.find? (fun j => j.sent && j.xid == a.xid) with
  | none => s
  | some j =>
    if !a.valid then s else
    match j.steps with
    | [] => s.dropJob j
    | (t, op) :: rest =>
      if a.status = agOK then s.jobOk j t op a.body
      else if a.status = agBUSY then s
      else if reopens a.status && op.authed && j.tries < 3 then
        let s := match t with | .ag ser role => s.updSmt (fun x => { x with open_ := x.open_.filter (fun o => o != (ser, role)) }) | .peer => s
        s.putJob j { j with sent := false, tries := j.tries + 1 }
      else if a.status = agSTATE && j.tries < 100 && (match op with | .keySwitch _ _ | .keyClear _ _ _ => true | _ => false) then
        s.putJob j { j with sent := false, tries := j.tries + 1 }
      else if a.status = agSTATE && j.tag = .rewrite then s.dropJob j
      else if a.status = agSTATE && j.tag = .write && s.disc = sdINSTALL && s.smt.changing = some (1, 1) then
        (s.updSmt (fun x => { x with jobs := x.jobs.filter (fun k => k.tag != .write) })).beginChange 0
      else if j.tag = .takeover then
        (match t, op with
        | .ag ser role, .tableCommit kind die n =>
          let per := if kind = 2 then 126 else 504
          s.putJob j { j with
            steps := (List.range (ceilDiv 4096 per)).map (fun i => (MgrTarget.ag ser role, MgrOp.tableWrite kind die n (per * i) (min per (4096 - per * i)))) ++ (t, op) :: rest
            sent := false, tag := .rewrite }
        | _, _ => s.jobFail j)
      else s.jobFail j

/-- Watershed balancing ends for a slice: each member's cap returns to its value when it was enabled (R483). -/
def State.capsReturn (s : State) (w : WsRec) : State :=
  match s.smt.slices.find? (fun y => y.id == w.slice) with
  | some y => (y.members.zip w.caps0).foldl (fun t e => if (t.smt.capOf e.1).cap = e.2 then t
      else t.commit (.power { t.smt.capOf e.1 with cap := e.2 } (leBytes e.2 2 ++ [0xFF, 0, 0, 0, 0, 0]))) s
  | none => s

/-- What an OPCMD record executes (R438, 12 R479, R480, 15 R582, R583, 17 R638, R639). -/
def State.opExec (h : OpHdr) (c : OpCmd) (s : State) : State :=
  let ans (st : OpStatus) (b : List Byte) (s : State) : State := s.answerOp ⟨h.cred, h.ctr, c.code, st, b, []⟩
  match c with
  | .sliceAlloc kind count a b cmask partIdx join =>
    if join.length != 80 || !(sliceForm s.plan kind count a b cmask) || planMaxSlices s.plan ≤ s.smt.slices.length then ans .policy [] s
    else
      let fits := (sliceCandidates kind count a b cmask).filter s.sliceFits
      match fits.find? (fun x => (s.slicePart x partIdx).isSome) with
      | some x =>
        let id := ((List.range 65536).find? (fun n => n != 0 && !(s.smt.slices.any (fun y => y.id == n)))).getD 1
        let x := { x with id := id, part := (s.slicePart x partIdx).getD 0, join := join, members := x.ixs, asked := some (h.cred, h.ctr) }
        s.commit (.slice x false)
      | none => ans (if fits.isEmpty then .noShape else .noPartition) [] s
  | .sliceFree id =>
    match s.smt.slices.find? (fun x => x.id == id && (x.state == 1 || x.state == 2)) with
    | some x => s.commit (.slice { x with state := 3, asked := some (h.cred, h.ctr), askCode := 0x0202, scrubbed := x.lost } (x.members.all x.lost.contains))
    | none => ans .policy [] s
  | .shapeRead cube =>
    if cube < 64 then ans .ok ((List.range 64).flatMap (fun i => match s.pkgAt (cube * 64 + i) with | some p => p.bytes | none => [0, 0, 0, 0])) s
    else ans .policy [] s
  | .planUpdate img sig =>
    if !(s.planAccepts img sig) || planSeq img ≤ planSeq s.plan then ans .policy [] (s.updSmt (fun x => { x with planSeen := [] }))
    else if s.smt.slices.any (fun x => x.members.any (fun i => !((planIxs img).contains i))) then ans .inUse [] (s.updSmt (fun x => { x with planSeen := [] }))
    else (s.updSmt (fun x => { x with planAsk := some h })).commit (.plan (planSeq img) (Config.sha512 img))
  | .readmit co =>
    match s.pkgAt (routeIndex co) with
    | some p =>
      if p.state = 5 || p.state = 4 then (s.opWait h c.code [p.ix]).startReadmit p.ix
      else ans .ok [] (s.freshPorts p.serial)
    | none => ans .policy [] s
  | .logRead n => s.answerOp ⟨h.cred, h.ctr, c.code, .ok, [], s.smt.recs.filter (fun r => decide (n ≤ r.seq) && r.body.type == 9)⟩
  | .powerSet co slice body =>
    let ixs := if co = 0 && slice != 0 then ((s.smt.slices.find? (fun x => x.id == slice)).map (·.members)).getD [] else ((s.pkgAt (routeIndex co)).map (·.ix)).toList
    if ixs.isEmpty || body.length != 8 then ans .policy [] s
    else
      let s := s.opWait h c.code ixs
      ixs.foldl (fun t i =>
        let old := t.smt.capOf i
        let new : CapRec := ⟨i, if imgNat body 0 2 = 0 then old.cap else min (t.smt.fusedLimit i) (imgNat body 0 2), if imgNat body 2 1 = 0xFF then old.mode else imgNat body 2 1,
          if imgNat body 2 1 = 1 then imgNat body 3 1 else if imgNat body 4 1 = 0 then old.step else imgNat body 4 1⟩
        t.commit (.power new body)) s
  | .wsConfig r =>
    match s.smt.ws.find? (fun w => w.slice == r.slice) with
    | some w =>
      let s := (w.root :: w.points).foldl (fun t p => t.emit (.wsTrack p.pkg p (!w.off))) s
      if w.off then ans (if r.enable then .policy else .ok) [] (s.capsReturn w) else ans .ok [] s
    | none => ans (if r.enable then .policy else .ok) [] s
  | .fwDistribute t _ content =>
    match s.smt.fw with
    | some x => if x.asked = some h && x.results.isEmpty then
        (if t = 0 || 3 < t || content.isEmpty || distMax t < content.length || x.targets.isEmpty then ans .policy [] (s.updSmt (fun y => { y with fw := none }))
        else s.startFw x)
      else ans .busy [] s
    | none => ans .policy [] s
  | .fwActivate id t fl =>
    let ixs := s.smt.targets t
    if s.smt.fwHdr.isSome && !(s.smt.toActivate.isEmpty) then ans .busy [] s
    else (s.opWait h c.code ixs).updSmt (fun x => { x with toActivate := ixs, fwHdr := some (id, fl) })
  | .ridgeStop cube =>
    (match (s.smt.masters.find? (fun m => m.1 == cube)).map (·.2) with
    | some i => (s.opWait h c.code [i]).addJobs (s.pkgJob (.op i h) i 0x010E [3])
    | none => ans .policy [] s)
  | .ridgeWake cube mask =>
    (match (s.smt.masters.find? (fun m => m.1 == cube)).map (·.2) with
    | some i => (s.opWait h c.code [i]).addJobs (s.pkgJob (.op i h) i 0x010E (4 :: leBytes mask.toNat 8))
    | none => ans .policy [] s)
  | .deviceReset co =>
    (match s.pkgAt (routeIndex co) with
    | some p => (s.opWait h c.code [p.ix]).addJobs [oneJob (.op p.ix h) (.ag p.serial 0) .deviceReset]
    | none => ans .policy [] s)
  | .other _ => ans .policy [] s

/-- What follows every command of the manager. -/
def State.summit (s : State) : State := if s.smtUp then s.settleSummit State.opExec else s

/-- The right an operator command needs (14 R538, R539, 12 R479, 15 R580, 17 R638, R639). -/
def OpCmd.right : OpCmd → Nat
  | .sliceAlloc .. | .sliceFree _ => 0
  | .powerSet .. | .wsConfig _ => 1
  | .planUpdate .. | .fwDistribute .. | .fwActivate .. => 2
  | .readmit _ | .ridgeStop _ | .ridgeWake .. | .deviceReset _ => 3
  | .shapeRead _ | .logRead _ => 4
  | .other _ => 5

/-- An operator command reaches the package (01 R37, R438, 14 R539, 16 R610): a standby names the primary; a primary checks credential, right, signature and
counter; a repeat of the last counter gets the last answer; one that is ISOLATED or not serving is BUSY; else its OPCMD record is committed. -/
def State.operator (s : State) (h : OpHdr) (c : OpCmd) : State :=
  let ans (st : OpStatus) (b : List Byte) : State := s.emit (.operator ⟨h.cred, h.ctr, c.code, st, b, []⟩)
  if !s.smtUp || s.disc = sdOFF then s
  else if s.disc = sdSTANDBY || s.pairSt = prSTANDBY || s.pairSt = prSYNCING then ans .notPrimary (leBytes s.partnerSerial.toNat 16)
  else match planRights s.plan h.cred.toNat with
    | none => ans .policy []
    | some rights =>
      let last := Store.get (fun _ => 0) s.smt.opCtrs h.cred.toNat
      if !(rights.testBit c.right) || !h.sigOk then ans .policy []
      else if h.ctr.toNat ≤ last then
        (match s.smt.answers.find? (fun a => a.cred == h.cred && a.ctr == h.ctr) with
        | some a => s.emit (.operator a)
        | none => if h.ctr.toNat = last && last != 0 then s else ans .policy [])
      else if s.pairSt = prISOLATED || !s.serving then ans .busy []
      else (s.commit (.opcmd h c)).summit

/-- An operation of the pair as executed, or what a package without the role answers (R444). -/
def State.endpointServed (s : State) (_m : MgtIn) (f : State → Session → State × Nat × List Byte) (x : Session) : State × Nat × List Byte :=
  if s.smtUp then f s x else (s, if s.mcReset then agBUSY else agUNSUPPORTED, [])

/-- An operation under the pair session, executed and answered (R444). -/
def State.endpointAuth (s : State) (m : MgtIn) (f : State → Session → State × Nat × List Byte) : State :=
  let r := s.authRun m 2 (fun slot => if slot = 0 then s.pairSess else none) (fun s _ x => { s with pairSess := some x }) (fun s _ => s)
    (fun s x => s.endpointServed m f x)
  r.1.mgtSend 0 m.net r.2

/-- A request at the Summit endpoint, PD0's E = 2, under the pair session (R444). -/
def State.endpointOp (s : State) (m : MgtIn) (op : BitVec 8) (f : State → Session → State × Nat × List Byte) : State :=
  match s.mgtTakes m with
  | (s, ok) => if !ok || m.pkt.op != op || m.k != 0 then s else s.endpointAuth m f

/-- An answer of the Summit endpoint that needs no session (R444). -/
def State.endpointReplies (s : State) (m : MgtIn) (st : Nat) (data : List Byte) : State := s.mgtSend 0 m.net (openPacket (s.mgtReply m 2 st) data)

/-- The opening of the pair session (R444, 14 R541). -/
def State.pairOpenDo (s : State) (m : MgtIn) : State :=
  let pay := m.pkt.payload
  let em : BitVec 256 := BitVec.ofNat 256 (imgNat pay 0 32)
  let ser : BitVec 128 := BitVec.ofNat 128 (imgNat pay 32 16)
  if !s.smtUp then s.endpointReplies m (if s.mcReset then agBUSY else agUNSUPPORTED) []
  else if !m.pkt.cls || pay.length < 112 || !(m.pkt.argsUpTo 0) then s.endpointReplies m agFORMAT []
  else if !m.valid || ser != s.partnerSerial then s.endpointReplies m agAUTH []
  else
    let r := s.openAnswer em ser
    State.endpointReplies { r.1 with pairSess := some r.2.1 } m agOK r.2.2

/-- PAIR_OPEN (R444, 14 R541). -/
def pairOpen (m : MgtIn) (s : State) : State :=
  match s.mgtTakes m with
  | (s, ok) => if !ok || m.pkt.op != 0xA0 || m.k != 0 then s else s.pairOpenDo m

/-- What a heartbeat's answer says (R444; log entry 68): TERM, role, highest applied SEQ. -/
def State.beatBody (s : State) : List Byte :=
  leBytes s.myTerm.toNat 4 ++ [if s.pairSt = prSTANDBY then 2 else if s.acts then 1 else 0, 0, 0, 0] ++ leBytes s.smt.lastSeq 8

/-- HEARTBEAT at a Summit endpoint (R444, R446, R447). -/
def heartbeat (m : MgtIn) (s : State) : State :=
  (s.endpointOp m 0xA1 (fun s _ =>
    let term := imgNat m.pkt.args 0 4
    let isolated := imgNat m.pkt.args 4 1 % 2 == 1
    if !(m.pkt.authForm 0 24) || 4 ≤ imgNat m.pkt.args 4 1 || !(imgZero m.pkt.args 5 3) then (s, agFORMAT, [])
    else
      let s := if s.acts && s.myTerm.toNat < term then State.smtStepDown (s.setFld .smt F.SMT_TERM_TERM term) else s
      let s := if s.disc = sdPLAN && s.pairSt = prNONE && s.summitRole = 2 then
          (s.setPair prSYNCING).addJobs [oneJob .sync .peer (.syncRead 0)]
        else s
      let s := if isolated then s else s.updSmt (fun x => if m.net then { x with mgnSeen := true } else { x with fabSeen := true })
      (s, agOK, s.beatBody))).summit

/-- MIRROR (R443, R444): a standby applies records in SEQ order, acknowledges again what it has, and names the first SEQ it lacks on a gap. -/
def mirror (m : MgtIn) (recs : List MirRec) (s : State) : State :=
  (s.endpointOp m 0xA2 (fun s _ =>
    if !(m.pkt.argsUpTo 0) then (s, agFORMAT, [])
    else if s.pairSt != prSTANDBY then (s, agSTATE, [])
    else
      let s := recs.foldl (fun t r => if r.seq = t.smt.lastSeq + 1 && t.myTerm.toNat ≤ r.term.toNat then t.applyRec r else t) s
      let lacks := recs.any (fun r => decide (s.smt.lastSeq < r.seq))
      (s, agOK, leBytes (if lacks then s.smt.lastSeq + 1 else s.smt.lastSeq) 8))).summit

/-- SYNC_READ: 1,984 bytes of the state image and its size; no rule gives the image's layout, and its bytes are free (R444; log entry 69). -/
def syncRead (m : MgtIn) (s : State) : State :=
  s.endpointOp m 0xA3 (fun s _ =>
    if !(m.pkt.authForm 0 8) then (s, agFORMAT, [])
    else if !s.acts && s.disc != sdPLAN then (s, agSTATE, [])
    else
      let (b, s) := s.freeBytes 1984
      let (n, s) := s.freeBytes 8
      (s, agOK, b ++ n))

/-- TERM_NOTICE (R446). -/
def termNotice (m : MgtIn) (s : State) : State :=
  (s.endpointOp m 0xA4 (fun s _ =>
    let term := imgNat m.pkt.args 0 4
    if !(m.pkt.authForm 0 20) then (s, agFORMAT, [])
    else if s.myTerm.toNat < term then (State.smtStepDown (s.setFld .smt F.SMT_TERM_TERM term), agOK, []) else (s, agOK, []))).summit

/-- The role enters PLAN once it is enabled, on a plan that names the package, with CD0's memory READY (R414, 15 R572). -/
def State.smtWake (s : State) : State :=
  if s.smtUp && s.disc = sdOFF && !(s.plan.isEmpty) && s.flag (.mem 0) F.BLK_STATUS_READY && !(s.dieDown 0) then
    ((s.setDisc sdPLAN).addJobs [oneJob .pair .peer .pairOpen]).summit
  else s

/-- SMT_EN: a write of SMT_CTRL (R414, R450). A role that is not enabled is OFF (R413). -/
def smtEn (v : Word) (s : State) : State :=
  let s := s.setFld .smt F.SMT_CTRL_EN (bits v.toNat 2 2)
  if v.getLsbD 2 then s.smtWake else ((s.setDisc sdOFF).setPair prNONE).updSmt (fun x => { x with jobs := [], claim := none })

/-- PAIR_WAIT_EXPIRE (R414). -/
def pairWaitExpire (s : State) : State := if s.smtUp && s.disc = sdPLAN && s.pairSt != prSYNCING then s.startExplore.summit else s

/-- DISCOVERY_POLL: PORT_LIST of every known die in EXPLORE; a claim that failed is made again in CLAIM; while serving, failed packages are asked for
recovered-idle (R415, R441, R445; log entry 65). -/
def discoveryPoll (s : State) : State :=
  if !s.acts then s
  else if s.disc = sdEXPLORE then
    (s.smt.found.foldl (fun t d => if t.smt.jobs.any (fun j => j.tag == .explore && (j.steps.head?).any (fun x => x.1 == .ag d.serial d.role)) then t
      else t.addJobs [{ tag := .explore, steps := (if d.known then [] else [(.ag d.serial d.role, .identify)]) ++ listSteps d.serial d.role }]) s).summit
  else if s.disc = sdCLAIM && s.smt.claim.isNone then s.startClaim.summit
  else if s.serving then
    ((s.smt.pkgs.filter (fun p => p.state == 4)).foldl (fun t p => if t.smt.jobs.any (fun j => j.tag == .probe) then t
      else t.addJobs [oneJob .probe (.ag p.serial 0) .identify]) s).summit
  else s

/-- EXPLORE_END: MATCH assigns coordinates and classes, and the claim begins (R414, R415, R417, R420, R445). -/
def exploreEnd (settled : Bool) (s : State) : State :=
  if !s.acts || s.disc != sdEXPLORE || !(settled || s.allFound) then s else
  let m := s.matching
  let s := s.updSmt (fun x => { x with pkgs := m.pkgs.map (fun p => { p with state := 1 }), sws := m.sws })
  let s := s.updSmt (fun x => { x with found := s.classifyAll })
  let bad := s.smt.found.flatMap (fun d => (d.ports.filter (fun p => p.cls == .profile)).map (fun p => p.rep.pSerial))
  let s := s.updSmt (fun x => { x with pkgs := x.pkgs.map (fun p => if bad.contains p.serial then { p with state := 3 } else p) })
  let s := (s.setDisc sdCLAIM).startClaim
  (s.addJobs (s.smt.found.map (fun d => oneJob .claim (.ag d.serial d.role) .sessionOpen))).summit

/-- MGR_CLAIM at a package (R436, R445): granted for a higher TERM, or the TERM and serial it holds. -/
def mgrClaim (b : List Byte) (s : State) : State × List Byte :=
  let term : BitVec 32 := BitVec.ofNat 32 (imgNat b 0 4)
  let ser : BitVec 128 := BitVec.ofNat 128 (imgNat b 4 16)
  if b.length != 20 then (s, mcREFUSED ++ leBytes s.heldTerm.toNat 4 ++ leBytes s.heldBy.toNat 16)
  else if s.heldTerm.toNat < term.toNat || (term = s.heldTerm && ser = s.heldBy) then
    ({ s with heldTerm := term, heldBy := ser }, mcOK ++ leBytes term.toNat 4 ++ leBytes ser.toNat 16)
  else (s, mcREFUSED ++ leBytes s.heldTerm.toNat 4 ++ leBytes s.heldBy.toNat 16)

/-- CLAIM_TIMEOUT: a claim not granted within 20 ms fails (R445). -/
def claimTimeout (s : State) : State :=
  if s.smtUp && s.smt.claim.isSome then s.updSmt (fun x => { x with claim := none, jobs := x.jobs.filter (fun j => j.tag != .claim) }) else s

/-- SMT_GEN_GO: a write of SMT_GEN (R426, R450). -/
def smtGenGo (v : Word) (s : State) : State :=
  let s := if v.getLsbD 2 then s.setFld .smt F.SMT_GEN_DONE 0 else s
  if v.getLsbD 0 && !(s.flag .smt F.SMT_GEN_BUSY) then (s.setFld .smt F.SMT_GEN_GO 1).setFld .smt F.SMT_GEN_BUSY 1 else s

/-- ROUTE_GEN_DONE: the time taken, and whether every shape record could be read (R426, R450). -/
def routeGenDone (us : BitVec 32) (unreadable : Bool) (s : State) : State :=
  if !(s.flag .smt F.SMT_GEN_BUSY) then s else
  (((((s.setFld .smt F.SMT_GEN_GO 0).setFld .smt F.SMT_GEN_BUSY 0).setFld .smt F.SMT_GEN_DONE 1).setFld .smt F.SMT_GEN_ERR unreadable.toNat).setFld .smt
    F.SMT_GEN_TIME_US us.toNat).fireEvent .smt 1

/-- ROUTE_CHANGE: the other epoch is reusable, and a change that is due begins; changes are serial (R427–R429). -/
def routeChange (s : State) : State :=
  if s.serving && s.pairSt != prISOLATED && s.smt.changeDue && s.smt.changing.isNone && !(s.flag .smt F.SMT_GEN_BUSY) && !(s.smt.jobs.any (fun j => j.tag == .align)) then
    ((s.setDisc sdRESHAPE).beginChange (1 - s.smt.cur)).summit
  else s

/-- KEY_ROTATION of the direction that a port transmits: the idle receive slot, the idle transmit slot, the switch, the old slots cleared (R419). -/
def State.rotate (s : State) (ser : BitVec 128) (role port : Nat) : State :=
  match s.portRec ser role port with
  | some p =>
    if !s.serving || !p.admitted || !p.rep.valid || s.linkBusy ser role port then s
    else
      let a := (ser, role, port)
      let b := (p.rep.pSerial, p.rep.pRole, p.rep.pPort)
      let steps := keySteps a b (1 - p.txSlot) s.smt.nextKey ++
        [(.ag ser role, .keyClear port false p.txSlot), (.ag p.rep.pSerial p.rep.pRole, .keyClear p.rep.pPort true p.txSlot)]
      (s.addJobs [{ tag := .key, steps := steps }]).updSmt (fun x => { x with nextKey := x.nextKey + 1 })
  | none => s
def keyRotation (ser : BitVec 128) (role port : Nat) (s : State) : State := (s.rotate ser role port).summit

/-- A port was retrained three times within an hour of GTIME, and failed again: it stays FAILED (R421). -/
def retrainedOut (l : List (BitVec 64)) : Bool :=
  match l with | [a, _, c] => decide ((c - a).toNat < 720000000000) | _ => false

/-- PORT_RETRAIN: TRAIN to a planned-present port that is FAILED, three times in any hour of GTIME, and after the third failure no more until READMIT or a plan
update (R421). The times of the last three are kept. -/
def portRetrain (ser : BitVec 128) (role port : Nat) (s : State) : State :=
  match s.portRec ser role port with
  | some p =>
    if !s.serving || p.cls != .missing || p.rep.state != lkFAILED || retrainedOut p.retrains then s
    else ((s.updSmt (fun x => x.putPort ser role { p with retrains := p.retrains.drop (p.retrains.length - 2) ++ [s.now pd0] })).addJobs [oneJob .stop (.ag ser role) (.portCmd port 1)]).summit
  | none => s

/-- SLICE_JOIN_TIMEOUT (R434). -/
def sliceJoinTimeout (id : Nat) (s : State) : State := if s.serving then (s.sliceUndo id).summit else s

/-- One path of the heartbeats in a period: a miss counts, and a heartbeat ends the run of misses (R447). -/
def State.missBeat (s : State) (seen : Bool) (f : Field) : State := if seen then s.setFld .smt f 0 else (s.incFld .smt f 1).bump .smt C.SMT_HB_MISS 1
def State.countBeats (s : State) : State := (s.missBeat s.smt.fabSeen F.SMT_HB_MISS_FAB).missBeat s.smt.mgnSeen F.SMT_HB_MISS_MGN
def State.clearBeats (s : State) : State := s.updSmt (fun x => { x with fabSeen := false, mgnSeen := false })
/-- At least `n` heartbeats missing on both paths. -/
def State.missedBoth (s : State) (n : Nat) : Bool := decide (n ≤ s.fld .smt F.SMT_HB_MISS_FAB) && decide (n ≤ s.fld .smt F.SMT_HB_MISS_MGN)
/-- A claim, and the count of periods to the next. -/
def State.claimNow (s : State) : State := s.startClaim.updSmt (fun x => { x with isoRetry := 1 })
def State.waitClaim (s : State) : State := s.updSmt (fun x => { x with isoRetry := x.isoRetry + 1 })

/-- The period of a standby: three missing on both paths make it claim, or explore where it has no image yet (R446, R447). -/
def State.standbyBeat (s : State) : State :=
  if !(s.missedBoth 3) then s.updSmt (fun x => { x with isoRetry := 0 })
  else if s.pairSt = prSYNCING then s.startExplore.summit
  else if s.smt.isoRetry % 10 = 0 then s.claimNow.summit
  else s.waitClaim

/-- What a primary concludes: two missing on both paths make it ISOLATED, and one that is ISOLATED claims every ten periods (R447). -/
def State.judgeBeats (s : State) : State :=
  if s.pairSt = prPAIRED && s.missedBoth 2 then (s.setPair prISOLATED).claimNow
  else if s.pairSt = prISOLATED then (if s.smt.claim.isNone && s.smt.isoRetry % 10 = 0 then s.claimNow else s.waitClaim)
  else s

/-- A heartbeat on each path, in place of those that have not left (R447). -/
def State.sendBeats (s : State) : State :=
  let s := s.updSmt (fun x => { x with jobs := x.jobs.filter (fun j => j.tag != .hb true && j.tag != .hb false) })
  let hb := MgrOp.heartbeat s.myTerm (s.pairSt == prISOLATED) (s.pairSt == prSOLO) s.smt.acting (s.now pd0)
  s.addJobs [oneJob (.hb true) .peer hb, oneJob (.hb false) .peer hb]

/-- HEARTBEAT_PERIOD (R447). -/
def heartbeatPeriod (s : State) : State :=
  if !s.smtUp || s.disc = sdOFF then s
  else if s.disc = sdSTANDBY then s.countBeats.clearBeats.standbyBeat
  else if s.disc = sdPLAN && s.summitRole = 2 then s
  else (if s.pairSt = prPAIRED || s.pairSt = prISOLATED then s.countBeats else s).clearBeats.judgeBeats.sendBeats.summit

/-- A compute die of this package is fenced, or the memory of one after a stack failed in service (01 R44, 06 R260). -/
def State.impaired (s : State) : Bool := s.fencedDies.any (fun d => decide (d.val < 8)) || !s.memFenced.isEmpty

/-- An agent's EVENT at the manager: answered OK, and acted on (10 R397, R398, R419, R420, R439). A FAULT of a package with a fenced die, or with the memory of a die
fenced, makes the package DEGRADED, after a FAILURE record (01 R44, 06 R260, R438): `fenced` says so of another package, and the manager knows its own. -/
def State.managerEvent (s : State) (ser : BitVec 128) (role : Nat) (e : AgentEvent) (valid fenced : Bool) (part : Option Part) : State :=
  if !s.acts || !valid || s.pairSt = prISOLATED then s else
  let s := s.emit (.eventOk ser role)
  let relist (s : State) : State := s.addJobs [{ tag := .relist, steps := listSteps ser role }]
  let s :=
    if e.code = 1 then
      (match s.dieOf ser role, s.portRec ser role e.port with
      | some d, some p =>
        let s := s.portReport d { p.rep with state := e.state, cause := e.cause, valid := p.rep.valid && e.state != lkFAILED && e.state != lkDETECT && e.state != lkDISABLED }
        if e.state = lkHELD || e.state = lkQUARANTINE then relist s else s
      | _, _ => relist s)
    else if e.code = 4 then s.rotate ser role e.port
    else if e.code = 5 then
      (match s.pkgOf ser with
      | some p =>
        let hurt := (fenced || (ser == s.fuses.serial && s.impaired)) && p.state == 1
        let s := if hurt || part.isSome then s.commit (.failure ser role 0xFF) else s
        let s := if hurt then s.commit (.shape [{ p with state := 2 }] [] true) else s
        s.stopSlices (fun x => x.members.contains p.ix && (part.any (fun q => q.val == x.part))) 3 p.ix
      | none => s)
    else relist s
  s.summit

/-- EVENT (10 R397, R398). -/
def event (x : EventIn) (s : State) : State :=
  match x with
  | .atManager ser role e valid fenced part => s.managerEvent ser role e valid fenced part
  | .answered m => eventAnswer m s

/-- A request of the manager goes unanswered for 1 ms (10 R400): it is sent again up to three times with the same XID; MIRROR alternates its path
(R443); then it has failed. -/
def State.retryJob (s : State) (xid : Nat) : State :=
  match s.smt.jobs.find? (fun j => j.sent && j.xid == xid) with
  | none => s
  | some j =>
    if !s.smtUp then s
    else if j.left = 0 then (s.jobFail j).summit
    else
      let path : MgrPath := if j.tag = .mirror then (if j.path = .net then .routed else .net) else j.path
      let j' := { j with left := j.left - 1, path := path }
      let s := if j.tag = .mirror then s.bump .smt C.SMT_MIRROR_RETRY 1 else s
      (s.putJob j j').sendJob j'

/-- The lateness of a member, when its reading is valid (12 R481). -/
def WsRec.lateness (w : WsRec) (root : Option WsReading) (m : Option WsReading) : Option Nat :=
  match root, m with
  | some r, some x => if x.gen = r.gen && !r.failed && !x.failed && w.gen != some r.gen then some ((BitVec.ofNat 32 r.last.toNat - x.arr).toNat) else none
  | _, _ => none

/-- The watts of one round (12 R482): the new cap of each member, in rank order. What is given never exceeds what is taken (log entry 70). -/
def wsMove (dead minW : Nat) (l : List (Option Nat)) (caps limits : List Nat) (plateau : List Bool) : Option (List Nat) :=
  let valid := l.filterMap id
  let hi := valid.foldl max 0
  let lo := valid.foldl min hi
  if valid.length < 2 || hi - lo < dead then none
  else
    let at' (i : Nat) : Option Nat := (l[i]?).join
    let cap (i : Nat) : Nat := (caps[i]?).getD 0
    let lim (i : Nat) : Nat := (limits[i]?).getD 0
    let free (i : Nat) : Bool := !((plateau[i]?).getD true)
    let ixs := List.range l.length
    let donor (i : Nat) : Bool := free i && decide (minW < cap i) && (at' i).any (fun v => decide (hi + lo < 2 * v))
    let taker (i : Nat) : Bool := free i && decide (cap i < lim i) && (at' i).any (fun v => decide (2 * v < hi + lo))
    let g (i : Nat) : Nat := if donor i then min (cap i / 50) (cap i - minW) else 0
    let r (i : Nat) : Nat := if taker i then min (cap i / 50) (lim i - cap i) else 0
    let sg := (ixs.map g).sum
    let sr := (ixs.map r).sum
    let moved := min sg sr
    if moved = 0 then none
    else
      let give (i : Nat) : Nat := moved * g i / sg
      let taken := (ixs.map give).sum
      let first := ixs.foldl (fun (acc : Nat × List Nat) i => let n := min acc.1 (moved * r i / sr); (acc.1 - n, acc.2 ++ [n])) (taken, [])
      let take (i : Nat) : Nat := (first.2[i]?).getD 0
      let more := ixs.foldl (fun (acc : Nat × List Nat) i => if acc.1 = 0 || !(decide (take i < r i)) then (acc.1, acc.2 ++ [0]) else (acc.1 - 1, acc.2 ++ [1]))
        (first.1, [])
      some (ixs.map (fun i => cap i - give i + take i + (more.2[i]?).getD 0))

/-- WS_READ to every package that a slice's tracking names (R481). -/
def State.wsAsk (s : State) (w : WsRec) : State :=
  (((w.root :: w.points).map (·.pkg)).eraseDups).foldl (fun u i => u.addJobs (u.pkgJob .stop i 0x0108 (((w.root :: w.points).filter (fun p => p.pkg == i)).flatMap
    (fun p => [BitVec.ofNat 8 p.die.val] ++ leBytes p.cairn.toNat 2 ++ [BitVec.ofNat 8 p.slot])))) s

/-- One slice's round: its readings, and its new caps where budget moves (R481, R482); the dead band is in µs, a tick 5 ns. -/
def State.wsSlice (s : State) (w : WsRec) (r : WsRound) (x : SliceRec) : State :=
  let ls := (List.range x.members.length).map (fun i => w.lateness r.root ((r.members[i]?).join))
  let caps := x.members.map (fun i => s.smt.capOf i)
  let s' := s.updSmt (fun y => { y with ws := y.ws.map (fun v => if v.slice = w.slice then { v with gen := r.root.map (·.gen) } else v) })
  match wsMove (w.dead * 200) w.minW ls (caps.map (·.cap)) (x.members.map s.smt.fusedLimit) (caps.map (fun c => c.mode == 1)) with
  | some new => (caps.zip new).foldl (fun u e => if e.1.cap = e.2 then u
      else u.commit (.power { e.1 with cap := e.2 } (leBytes e.2 2 ++ [0xFF, 0, 0, 0, 0, 0]))) s'
  | none => s'
def State.wsRound (s : State) (rounds : List WsRound) (w : WsRec) : State :=
  match rounds.find? (fun r => r.slice == w.slice), (s.wsAsk w).smt.slices.find? (fun x => x.id == w.slice && x.state == 1) with
  | some r, some x => (s.wsAsk w).wsSlice w r x
  | _, _ => s.wsAsk w

/-- WATERSHED_ROUND: every enabled slice's round (12 R481–R483). -/
def watershedRound (rounds : List WsRound) (s : State) : State :=
  if !s.serving || s.pairSt = prISOLATED then s else ((s.smt.ws.filter (fun w => !w.off)).foldl (fun t w => t.wsRound rounds w) s).summit

/-- The rack above a rack in the tree (17 R636). -/
def parentRack (c : Nat) : Nat := c ^^^ 2 ^ (((List.range 6).filter (fun d => c.testBit d)).foldl max 0)

/-- The offset of a rack to its parent in ticks: half the difference of the two transfer times, in units of a 48th of a tick (17 R636). -/
def xferOffset (x : CubeXfer) : Int := ((((x.t2.toNat : Int) - x.t1.toNat) - ((x.t4.toNat : Int) - x.t3.toNat)) / 2) / 48

/-- READ_XFER at both ends of an admitted link between a rack and its parent, and TIM_ADJ of minus the offset to the rack's master (17 R636). -/
def State.alignRack (s : State) (x : CubeXfer) : State :=
  let c := x.rack.val
  let d := lowBit (c ^^^ parentRack c)
  if c = 0 || !((planRackMask s.plan).testBit c) || x.fcntA.toNat % 65536 != 0 || x.fcntB.toNat % 65536 != 0 then s
  else match (s.smt.pkgs.filter (fun p => ixCube p.ix == c && !((s.usableAt p.ix (.o d)).isEmpty))).head?, (s.smt.masters.find? (fun m => m.1 == c)).map (·.2) with
    | some p, some m =>
      let far := ixOf (parentRack c) (ixX p.ix) (ixY p.ix) (ixP p.ix)
      let ask := [0x01, BitVec.ofNat 8 (18 + d)]
      s.addJobs (s.pkgJob .stop far 0x010E ask ++ s.pkgJob .stop p.ix 0x010E ask ++
        s.pkgJob .stop m 0x010E (2 :: leBytes (BitVec.ofInt 64 (-(xferOffset x))).toNat 8))
    | _, _ => s

/-- CUBE_TIME_ALIGN: every rack against its parent, level by level (17 R636). -/
def cubeTimeAlign (xs : List CubeXfer) (s : State) : State :=
  if !s.serving || s.pairSt = prISOLATED then s else (xs.foldl State.alignRack s).summit

/-- An answer, a report or an event for the manager. -/
def mgrAnswer (a : MgrAns) (s : State) : State := if s.smtUp then (s.takeAnswer a).summit else s
def mgrScrubbed (ser : BitVec 128) (id : Nat) (s : State) : State := if s.acts then (s.memberScrubbed ser id).summit else s

end Sys2Proof.Machine
end

