-- ==== Sys2Proof/Machine/RegAccess.lean ====
section
/-! DEFINITION. Register access: what a page serves to whom, derived words, 64-bit pairs, confidential zeroing, and what a write does (19 R665–R676, 14
R529, 03 R141, R142, 16 R588, R589, R595, R613–R617). -/

namespace Sys2Proof.Machine

/-- The function a host requester acts as: itself; PF0 for accesses that position 0 relays (R597, R672). -/
def Requester.host? : Requester → Option Fn
  | .fn f => some f
  | .relay => some (.pf 0)
  | .mc | .sec | .debug => none

/-- The requester is the host side of a channel, or the processor that serves it (16 R599). -/
def Requester.owns (w : Requester) (k : Fin 100) : Bool := w.host? == some (chanFn k)
def Requester.serves (w : Requester) (k : Fin 100) : Bool := w == (if k.val < 4 then .sec else .mc)

/-- All-ones: what a place that is not there reads (R665). -/
def allOnes : Word := 0xFFFFFFFF

/-- A page answers: its block is not held in core reset and its die has its core rail (R665, 12 R486). -/
def State.pageThere (s : State) (p : Page) : Bool := !(s.pageHeld p) && !(s.lostRails.contains p.die)

/-- Pages PF0 serves in the safe state (16 R595). -/
def Page.inSafe (p : Page) : Bool :=
  match p.ptype with | .pci | .mbx | .flt | .sec => true | _ => false

/-- Pages PFq serves for q ≥ 1: its compute dies' slots, the PCI page, its own MBX pages (16 R588). -/
def State.pfServes (s : State) (n : Fin 4) (p : Page) : Bool :=
  match p with
  | .pci => true
  | .mbx ch => chanFn ⟨ch.val, by omega⟩ == .pf n
  | _ => match Die.cd? p.die with | some c => (s.partDies n.val).contains c | none => false

/-- A page is served to a requester (16 R588, R595, 14 R549, 19 R672). The management complex makes no access while it is in reset. -/
def State.pageServed (s : State) (w : Requester) (p : Page) : Bool :=
  s.pageThere p &&
  (match w.host? with
    | some (.pf n) => decide (n.val < s.nparts) && (n = 0 || s.pfServes n p) && (!(s.flag .pci F.PCI_STATUS_FATAL) || p.inSafe)
    | some (.vf _) => false
    | none => match w with
      | .mc => s.spUp && !s.mcReset
      | .sec => s.spUp
      | _ => s.fld .sec F.SEC_STATUS_DEBUG == 2)

/-- A confidential partition has a context on the die (R529). -/
def State.confOn (s : State) (c : CDie) : Bool :=
  (List.finRange 64).any (fun p => match s.part? p with | some x => x.conf && x.dies.contains c | none => false)

/-- A scope names a confidential partition. -/
def State.confScope (s : State) (sc : Scope) : Bool := match sc.part with | some p => s.isConf p | none => false

/-- A word that reads zero under confidential mode (R529, R530, 03 R142, 05 R224–R226, 06 R265, 13 R521). -/
def State.confZeroAt (s : State) (w : Requester) (p : Page) (off : Nat) : Bool :=
  let within (a b : Nat) : Bool := decide (a ≤ off) && decide (off < b)
  let block := match p with
    | .msf c => within 0x120 0x148 && s.confOn c
    | .vcx c => within 0x110 0x120 && s.confOn c
    | .dma c => within 0x110 0x130 && s.confOn c
    | .rtr d => (match Die.cd? d with | some c => (within 0x180 0x1C0 || within 0x210 0x228) && s.confOn c | none => false)
    | .crn c => (within 0x244 0x260 && s.cairnConf c (s.fld p F.CRN_INSP_SEL_CAIRN)) ||
        (off == 0x264 && s.cairnConf c (s.fld p (F.CRN_TRACK_CAIRN (s.fld p F.CRN_TRK_SEL_SLOT))))
    | .mem _ => (off == 0x158 || off == 0x15C || off == 0x160) && s.confScope { part := some ⟨s.fld p F.MEM_REFUSE_PART_PART % 64, Nat.mod_lt _ (by decide)⟩ }
    | .flt => w.host?.isSome && within 0x124 0x134 && (match s.fltLog with | e :: _ => s.confScope e.scope | [] => false)
    | _ => false
  block || (w.host?.isSome && (off == 0x20 || off == 0x24) && s.confScope (scopeOf (s.rd (p.base + 0x24))))

/-- A status word of one direction of a channel (16 R615). -/
def MbxDir.status (d : MbxDir) : Word :=
  BitVec.ofNat 32 (d.full.toNat + d.lost.toNat <<< 1 + d.blocked.toNat <<< 2 + d.msgEpoch.toNat <<< 8 + d.sendEpoch.toNat <<< 16)

/-- A word of a direction's slot. -/
def MbxDir.word (d : MbxDir) (i : Nat) : Word := BitVec.ofNat 32 (leNat (Store.getList (fun _ => 0) d.slot (4 * i) 4))

/-- A sender's write of a slot word: ignored while FULL, which sets BLOCKED (R600). -/
def MbxDir.put (d : MbxDir) (i : Nat) (v : Word) : MbxDir :=
  if d.full then { d with blocked := true } else { d with slot := Store.setList (fun _ => 0) d.slot (4 * i) (leBytes v.toNat 4) }

/-- LOST and BLOCKED under a write of the sender's side (R617). -/
def MbxDir.clear (d : MbxDir) (v : Word) : MbxDir := { d with lost := d.lost && !(v.getLsbD 1), blocked := d.blocked && !(v.getLsbD 2) }

/-- MBX_CFG of a channel: of a VF channel its kind, its PF, whether its partition exists, and its interrupt enables (R615). -/
def State.mbxCfg (s : State) (k : Fin 100) : Word :=
  if h : k.val < 36 then s.rd (Page.base (.mbx ⟨k.val, h⟩) + 0x100)
  else
    let p : Part := ⟨k.val - 36, by omega⟩
    (s.chan k.val).cfg ||| BitVec.ofNat 32 (2 + (s.partOf p) <<< 2 + (s.part? p).isSome.toNat <<< 4)

/-- A register of a channel by its MBX page offset, with the effect of a read of DONE from the receiver's side (R600, R615, R616). -/
def State.readChan (s : State) (w : Requester) (k : Fin 100) (off : Nat) : State × Word :=
  let x := s.chan k.val
  let secure := decide (k.val < 4)
  if off = 0x100 then (s, s.mbxCfg k)
  else if off = 0x104 then (s, x.h2d.status)
  else if off = 0x10C then (if w.serves k then mbxH2dDone false k {} s else s, BitVec.ofNat 32 x.h2d.full.toNat)
  else if off = 0x110 then (s, x.d2h.status)
  else if off = 0x118 then (if w.owns k then (s.takeD2h k).1 else s, BitVec.ofNat 32 x.d2h.full.toNat)
  else if 0x400 ≤ off ∧ off < 0x500 then (s, if secure && !(w.serves k) then 0 else x.h2d.word ((off - 0x400) / 4))
  else if 0x500 ≤ off ∧ off < 0x600 then (s, if secure && !(w.serves k || w.owns k) then 0 else x.d2h.word ((off - 0x500) / 4))
  else (s, 0)

/-- A write of a channel's register by its MBX page offset: the host side, or the processor that serves it (R600, R615–R617, 19 R673). -/
def State.writeChan (s : State) (w : Requester) (k : Fin 100) (off : Nat) (v : Word) : State :=
  let x := s.chan k.val
  if w.owns k then
    if off = 0x100 then
      if h : k.val < 36 then
        let pg : Page := .mbx ⟨k.val, h⟩
        ((s.setFld pg F.MBX_CFG_VEC (bits v.toNat 18 8)).setFld pg F.MBX_CFG_IE_MSG (v.getLsbD 19).toNat).setFld pg F.MBX_CFG_IE_SPACE (v.getLsbD 20).toNat
      else s.setChan k.val { x with cfg := v &&& 0x180000 }
    else if off = 0x104 then s.setChan k.val { x with h2d := x.h2d.clear v }
    else if off = 0x108 then (if v.getLsbD 0 then mbxH2dSend k s else s)
    else if 0x400 ≤ off ∧ off < 0x500 then s.setChan k.val { x with h2d := x.h2d.put ((off - 0x400) / 4) v }
    else s
  else if w.serves k && s.served k.val then
    if off = 0x110 then s.setChan k.val { x with d2h := x.d2h.clear v }
    else if off = 0x114 then (if v.getLsbD 0 then (s.postD2h k).1 else s)
    else if 0x500 ≤ off ∧ off < 0x600 then s.setChan k.val { x with d2h := x.d2h.put ((off - 0x500) / 4) v }
    else s
  else s

/-- The context and queue at an index of the DB, QSTATE and GATE arrays (05 R224). -/
def queueAt (c : CDie) (p : Part) (i : Nat) : QRef :=
  { die := c, part := p, ctx := ⟨i / 16 % 8, Nat.mod_lt _ (by decide)⟩, q := ⟨i % 16, Nat.mod_lt _ (by decide)⟩ }

/-- QSTATE and GATE of a queue (R224). -/
def QueueSt.stateWord (q : QueueSt) : Word := BitVec.ofNat 32 (q.head.toNat + q.stateCode <<< 24 + (min 8 q.gates.length) <<< 27)
def QueueSt.gateWord (q : QueueSt) : Word := BitVec.ofNat 32 (q.gateCairn.toNat + q.gateGen.toNat <<< 16)

/-- A write of DB: FLUSH, GATED, or a TAIL (R197, R198, R200). -/
def State.door (s : State) (r : QRef) (v : Word) : State :=
  let t : BitVec 24 := BitVec.ofNat 24 v.toNat
  if v.getLsbD 31 then doorbellFlush r s else if v.getLsbD 24 then doorbellGated r t s else doorbell r t s

/-- A write of GATE (R198, R224). -/
def State.setGate (s : State) (r : QRef) (v : Word) : State :=
  s.setQueue r { s.queue r with gateCairn := BitVec.ofNat 13 v.toNat, gateGen := BitVec.ofNat 16 (v.toNat >>> 16) }

/-- The partition PF doorbell accesses of a die address (R224). -/
def State.doorPart (s : State) (c : CDie) : Part := ⟨s.fld (.vcx c) F.VCX_DB_PART_PART % 64, Nat.mod_lt _ (by decide)⟩

/-- Row or column groups with a spare in use (03 R87, R141). -/
def State.repairMap (s : State) (c : CDie) (col : Bool) : Nat :=
  bitmapOf (((s.array c).failed.filter (fun l => l.1 == col)).map (fun l => (lineGroup l).2))

/-- Work a block holds, where it is not shown by the block itself: BLK_STATUS.BUSY (R667). -/
def State.busyNow (s : State) (p : Page) : Bool :=
  match p with
  | .vcx c => s.rd (p.base + 0x100) != 0 || s.dispatches.any (fun d => d.ref.die == c)
  | .dma c => s.dmaRuns.any (fun r => r.ref.die == c)
  | .smt => s.flag .smt F.SMT_GEN_BUSY
  | _ => s.flag p F.BLK_STATUS_BUSY

/-- The remap entries of the channel MEM_REMAP_SEL names, in order of use (06 R248, R264). -/
def State.remapsAt (s : State) (c : CDie) : List Remap :=
  let pg : Page := .mem c
  s.remaps.filter (fun r => r.die == c && r.stack.val == s.fld pg F.MEM_REMAP_SEL_STACK && r.ch.val == s.fld pg F.MEM_REMAP_SEL_CHANNEL)

/-- The word at an offset of a page before what confidential mode hides (R665–R667). -/
def State.regWord (s : State) (w : Requester) (p : Page) (off : Nat) : Word :=
  let plain := s.rd (p.base + off)
  if off = 0x00C then setF plain F.BLK_STATUS_BUSY (s.busyNow p).toNat else
  match p with
  | .tim =>
    if off = 0x108 then BitVec.ofNat 32 (s.now pd0).toNat else if off = 0x10C then BitVec.ofNat 32 ((s.now pd0).toNat >>> 32) else plain
  | .flt =>
    if off = 0x104 then setF plain F.FLT_STATE_RECENT (min 3 s.recentRecoveries.length)
    else if off = 0x11C then BitVec.ofNat 32 s.fltLog.length
    else if 0x124 ≤ off ∧ off < 0x134 then
      (match s.fltLog with | e :: _ => ((e.words)[(off - 0x124) / 4]?).getD 0 | [] => 0)
    else plain
  | .vcx c =>
    if 0xA00 ≤ off ∧ off < 0xC00 then (s.queue (queueAt c (s.doorPart c) ((off - 0xA00) / 4))).stateWord
    else if 0xC00 ≤ off ∧ off < 0xE00 then (s.queue (queueAt c (s.doorPart c) ((off - 0xC00) / 4))).gateWord
    else plain
  | .rtr d =>
    if off = 0x114 then
      if s.flag p F.RTR_TBL_SEL_EGRESS == decide (d.val < 8) then s.entry d (s.flag p F.RTR_TBL_SEL_EPOCH) (s.fld p F.RTR_TBL_SEL_INDEX) else 0
    else plain
  | .msf c =>
    if off = 0x100 then BitVec.ofNat 32 (s.repairMap c false)
    else if off = 0x104 then BitVec.ofNat 32 (s.repairMap c true)
    else if off = 0x118 then
      setF (setF plain F.MSF_HOLD_HOLD (s.fld (cdPwr c) F.PWR_STATUS_DROOP)) F.MSF_HOLD_DUTY (s.flag p F.MSF_HOLD_DUTY_N).toNat
    else if off = 0x154 then
      let t := s.fld p F.MSF_TBL_SEL_TABLE
      let i := s.fld p F.MSF_TBL_SEL_WORD
      if 2 ≤ t ∧ t ≤ 5 ∧ i ≤ 323 then builtinWord t i else 0
    else plain
  | .lnk q => if off = 0x104 then setF plain F.LNK_STATE_REACH (portRole s.profile q).reach else plain
  | .mem c =>
    if off = 0x100 then plain ||| BitVec.ofNat 32 (s.boot.fastTest.toNat <<< 16)
    else if off = 0x174 then
      (match (s.remapsAt c)[s.fld p F.MEM_REMAP_SEL_ENTRY]? with
        | some r => BitVec.ofNat 32 (r.row.toNat + (r.source % 4) <<< 29 + 1 <<< 31)
        | none => 0)
    else if off = 0x178 then BitVec.ofNat 32 (min 256 (s.remapsAt c).length)
    else plain
  | .pci =>
    if 0x110 ≤ off ∧ off < 0x210 then
      let v : Part := ⟨(off - 0x110) / 4 % 64, Nat.mod_lt _ (by decide)⟩
      (match w.host? with
        | some (.pf n) => if s.partOf v = n.val then plain else 0
        | _ => plain)
    else plain
  | _ => plain

/-- The word a requester sees (14 R529). -/
def State.seenWord (s : State) (w : Requester) (p : Page) (off : Nat) : Word := if s.confZeroAt w p off then 0 else s.regWord w p off

/-- A 64-bit pair starts at an offset of a page type (R672). -/
def PType.isLo (t : PType) (off : Nat) : Bool :=
  let from8 (a n : Nat) : Bool := decide (a ≤ off) && decide (off < a + 8 * n) && (off - a) % 8 == 0
  match t with
  | .clk => from8 0x108 1
  | .pwr => from8 0x120 5
  | .rtr => from8 0x180 8 || from8 0x210 3
  | .msf => from8 0x120 5
  | .trn => from8 0x208 2
  | .vcx => from8 0x110 2
  | .crn => from8 0x248 3 || from8 0x280 6
  | .dma => from8 0x110 4
  | .mem => from8 0x120 5 || from8 0x15C 1
  | .d2d => from8 0x110 2
  | .agt => from8 0x120 6 || from8 0x184 1
  | .lnk => from8 0x140 8
  | .flt => from8 0x10C 1 || from8 0x134 2
  | .sec => from8 0x104 1 || from8 0x300 3
  | .pci => from8 0x300 4
  | .smt => from8 0x120 6
  | .tim => from8 0x108 1
  | .opt | .rst | .mbx => false

/-- The latch of a requester for the pair whose _HI stands at a BAR0 offset. -/
def Requester.latchKey (w : Requester) (a : Nat) : Nat := w.key * 0x10000000 + a

/-- A read of one register word at a BAR0 offset of the own package (R665, R672). -/
def State.readReg (s : State) (w : Requester) (a : Nat) : State × Word :=
  match pageOf a with
  | none => (s, allOnes)
  | some p =>
    let off := a % 0x1000
    if !(s.pageServed w p) then (s, allOnes)
    else match p with
    | .mbx ch =>
      if off < 0x100 then (s, if (p.reg? off).isSome then s.seenWord w p off else 0) else s.readChan w ⟨ch.val, by omega⟩ off
    | _ =>
      if (p.reg? off).isNone then (s, 0)
      else if p.ptype.isLo off then
        ({ s with latches := Store.set (fun _ => 0) s.latches (w.latchKey (a + 4)) (s.seenWord w p (off + 4)) }, s.seenWord w p off)
      else if 4 ≤ off && p.ptype.isLo (off - 4) then (s, Store.get (fun _ => 0) s.latches (w.latchKey a))
      else (s, s.seenWord w p off)

/-- A host write to a page (R673, R674): VCX doorbell registers; the MBX pages of the function's channels. -/
def State.hostWrite (s : State) (w : Requester) (p : Page) (off : Nat) (v : Word) : State :=
  if s.fencedDies.contains p.die then s else
  match p with
  | .vcx c =>
    if off = 0x104 then s.setFld p F.VCX_DB_PART_PART (v.toNat % 64)
    else if 0x800 ≤ off ∧ off < 0xA00 then s.door (queueAt c (s.doorPart c) ((off - 0x800) / 4)) v
    else if 0xC00 ≤ off ∧ off < 0xE00 then s.setGate (queueAt c (s.doorPart c) ((off - 0xC00) / 4)) v
    else s
  | .mbx ch => if w.owns ⟨ch.val, by omega⟩ then s.writeChan w ⟨ch.val, by omega⟩ off v else s
  | _ => s

/-- Registers that only the management complex writes: FLT_ACK and INJ_CTRL (13 R499, R516), TRN_PART (03 R144), CRN_PART and CRN_TRACK (05 R226), MEM_RANGE
(06 R243), LNK_CMD (07 R302), the RTR registers (08 R351), and the whole AGT, SMT, PWR, FLT, CLK, RST and TIM pages (10 R405, 11 R450, 12 R490, 13 R521, 17
R643). The fabric agent's own writes are its actions, not accesses of a bus. -/
def Page.mcOnly (p : Page) (off : Nat) : Bool :=
  let within (a b : Nat) : Bool := decide (a ≤ off) && decide (off < b)
  within 0x028 0x030 ||
  match p.ptype with
  | .trn => within 0x100 0x200
  | .crn => within 0x100 0x240
  | .mem => within 0x400 0x800
  | .lnk => off == 0x100
  | .rtr => decide (0x100 ≤ off)
  | .agt | .smt | .pwr | .flt | .clk | .rst | .tim => true
  | _ => false
/-- Who may write a register of the package: the security processor and the debug port what is not the management complex's alone; the debug port not the SEC
page (14 R556). -/
def Requester.mayWrite (w : Requester) (p : Page) (off : Nat) : Bool :=
  match w with
  | .mc => true
  | .sec => !(p.mcOnly off)
  | .debug => !(p.mcOnly off) && p != .sec
  | _ => false

/-- A counter's _HI word (03 R141). -/
def RegDef.isCounterHi (r : RegDef) : Bool := r.fields == [⟨0, 16, .ro, 0⟩, ⟨31, 1, .w1c, 0⟩]

/-- COUNTER_OVF_CLEAR: a write of 1 to OVF zeroes the count and clears OVF (R141). -/
def State.clearCounter (s : State) (p : Page) (lo : Nat) : State := (s.wr (p.base + lo) 0).wr (p.base + lo + 4) 0

/-- A write of a register with no effect beyond its fields: each by its access code (R671). -/
def State.plainWrite (s : State) (p : Page) (r : RegDef) (off : Nat) (v : Word) : State := s.wr (p.base + off) (r.write (s.rd (p.base + off)) v)

/-- PWR_CAL is held within its bounds (12 R489). -/
def State.clampCal (s : State) (p : Page) : State :=
  let o := clampInt (-512) 512 (sx16 (s.fld p F.PWR_CAL_OFFSET))
  (s.setFld p F.PWR_CAL_GAIN (clamp 0x2000 0x8000 (s.fld p F.PWR_CAL_GAIN))).setFld p F.PWR_CAL_OFFSET (o % 0x10000).toNat

/-- The snapshot a write of AGT_TEL_SEL takes (10 R405). -/
def State.telSelect (s : State) (k : PDie) : State :=
  let i := s.fld (.agt k) F.AGT_TEL_SEL_PORT
  s.wr64 (.agt k) 0x184 (if i < 12 then BitVec.ofNat 64 (s.telemetry (portAt k i) (s.fld (.agt k) F.AGT_TEL_SEL_WORD)) else 0)

/-- A write of LNK_CMD: commands 1–5 (07 R301). -/
def linkCommand (n : Nat) : Option PortCmd :=
  if n = 1 then some .train else if n = 2 then some .disable else if n = 3 then some .admitPort else if n = 4 then some .quarantine
  else if n = 5 then some .release else none

/-- OPT_CTRL.DARK applies at once: the modulators are at extinction while it is set, while the engine is too hot, and in the states of R296. -/
def State.showDark (s : State) (j : OptPort) : State :=
  let st := s.lnk (OptPort.port j)
  s.setFld (.opt j) F.OPT_STATUS_DARK_ACTIVE
    (s.flag (.opt j) F.OPT_CTRL_DARK || s.hotEngines.contains j || st = lkDISABLED || st = lkFAILED || st = lkSAFE).toNat

/-- A write of RST_CTRL (17 R639, R640, R643, R678). DEVICE written 1 without the key does not act and reads 0 (DESIGN CHOICE, log entry 14). -/
def State.resetControl (s : State) (v : Word) (f : BootFind) : State :=
  if v.getLsbD 17 && v.toNat >>> 24 == 0xD5 then rstCtrlDevice v f s
  else
    let s := if v.toNat % 1024 = 0 then s else rstCtrlCore (BitVec.ofNat 10 v.toNat) s
    if v.getLsbD 16 then rstCtrlMgmt s else s

/-- A write of a block's own register that has an effect beyond its fields, by page; none where it has not. -/
def State.ownWrite (s : State) (p : Page) (off : Nat) (v : Word) (f : BootFind) : Option State :=
  let part (a st : Nat) : Part := ⟨(off - a) / st % 64, Nat.mod_lt _ (by decide)⟩
  let within (a b : Nat) : Bool := decide (a ≤ off) && decide (off < b)
  match p with
  | .trn c =>
    if within 0x100 0x200 then some (trnPartWrite c (part 0x100 4) v s) else if off = 0x200 then some (trnZeroGo c v s) else none
  | .crn c =>
    if within 0x100 0x200 then some (crnPartWrite c (part 0x100 4) v s) else if off = 0x240 then some (crnInspSelWrite c v s)
    else if off = 0x260 then some (crnTrkSelWrite c v s) else if within 0x200 0x240 then some (s.crnTrackWrite c ((off - 0x200) / 4) v) else none
  | .mem c =>
    if off = 0x110 then some (memZeroGo c v s)
    else if within 0x400 0x800 then some (memRangeWrite c (part 0x400 16) ⟨(off - 0x400) / 4 % 4, Nat.mod_lt _ (by decide)⟩ v s)
    else none
  | .vcx c =>
    if within 0x800 0xA00 then some (s.door (queueAt c (s.doorPart c) ((off - 0x800) / 4)) v)
    else if within 0xC00 0xE00 then some (s.setGate (queueAt c (s.doorPart c) ((off - 0xC00) / 4)) v)
    else none
  | .lnk q => if off = 0x100 then some (match linkCommand (v.toNat % 8) with | some c => portCmd c (.lnkCmd q) s | none => s) else none
  | .flt => if off = 0x118 then some (watchdogKick v s) else if off = 0x120 then some (logPop v s) else none
  | .sec =>
    if off = 0x10C then
      let s := if v.getLsbD 0 then secDbgNew s else s
      some (if v.getLsbD 1 then secDbgLock s else s)
    else none
  | .smt => if off = 0x100 then some (smtEn v s) else if off = 0x110 then some (smtGenGo v s) else none
  | .rst => if off = 0x100 then some (s.resetControl v f) else none
  | .rtr d =>
    if within 0x120 0x150 then
      match Die.pd? d with
      | some k =>
        let i := (off - 0x120) / 4
        if s.lnk (portAt k i) = lkACTIVE then some (s.setFld p (F.RTR_PORT_MEMBER i) (v.getLsbD 8).toNat) else none
      | none => none
    else none
  | _ => none

/-- What follows a plain write of a register: clamps, snapshots, and outputs it drives (10 R405, 12 R455, R489, 07 R303). -/
def State.afterWrite (s : State) (p : Page) (off : Nat) : State :=
  match p with
  | .pwr d =>
    if (Die.cd? d).isNone && off < 0x200 then (s.clearPd p).clampCal p
    else if off = 0x100 then (match Die.cd? d with | some c => s.clampSteps c | none => s)
    else if off = 0x114 then s.clampCal p
    else if off = 0x200 then s.clampCap
    else s
  | .agt k => if off = 0x180 then s.telSelect k else s
  | .opt j => if off = 0x100 then s.showDark j else s
  | _ => s

/-- A write of a register word by the management complex, the security processor or the debug port (R671, R673). `f`: what a device reset finds. -/
def State.innerWrite (s : State) (w : Requester) (p : Page) (off : Nat) (v : Word) (f : BootFind) : State :=
  match p.reg? off, p with
  | none, .mbx ch => s.writeChan w ⟨ch.val, by omega⟩ off v
  | none, _ => s
  | some r, _ =>
    if off = 0x008 then blkCtrlWrite p v s
    else if off = 0x01C then evtCountTake p v s
    else if off = 0x028 then fltAck p v s
    else if off = 0x02C then injCtrlWrite p v s
    else if off < 0x100 then s.plainWrite p r off v
    else match p with
    | .mbx ch => s.writeChan w ⟨ch.val, by omega⟩ off v
    | _ =>
      if r.isCounterHi then (if v.getLsbD 31 then s.clearCounter p (off - 4) else s)
      else match s.ownWrite p off v f with
        | some s => s
        | none => (s.plainWrite p r off v).afterWrite p off

/-- A write of one register word at a BAR0 offset of the own package (R665, R670–R674). -/
def State.writeReg (s : State) (w : Requester) (a : Nat) (v : Word) (f : BootFind) : State :=
  match pageOf a with
  | none => s
  | some p =>
    if !(s.pageServed w p) then s
    else if w.host?.isSome then s.hostWrite w p (a % 0x1000) v
    else if w.mayWrite p (a % 0x1000) then s.innerWrite w p (a % 0x1000) v f
    else s

/-- COUNTER_OVF_CLEAR: the counter whose _LO stands at an offset of a page is cleared by a requester that may write the page. -/
def counterOvfClear (w : Requester) (p : Page) (lo : Nat) (s : State) : State := s.writeReg w (p.base + lo + 4) 0x80000000 {}

end Sys2Proof.Machine
end

