-- ==== Sys2Proof/Machine/CoreAccess.lean ====
section
/-! DEFINITION. Data accesses of the vector cores: the address map, accesses on the die, requests to other dies and packages, and traps (05 R187–R190, 06 R233,
R235–R237). -/

namespace Sys2Proof.Machine

/-- Where an address of a core leads (R187). -/
inductive CorePlace where
  | board | scratch (off : Nat) | tarn (off : Nat) | regs (off : Nat) | none
  deriving DecidableEq, Repr

def corePlace (a : Nat) : CorePlace :=
  if a < 0x80000000000 then .board
  else if a < 0xFFFF000000000000 then .none
  else if a < 0xFFFF000000080000 then .scratch (a - 0xFFFF000000000000)
  else if a < 0xFFFF000100000000 then .none
  else if a < 0xFFFF000200000000 then .tarn (a - 0xFFFF000100000000)
  else if a < 0xFFFF000200001000 then .regs (a - 0xFFFF000200000000) else .none

/-- The address of an access, its bytes, and whether it writes. -/
def RemoteOp.addr : RemoteOp → BitVec 64 | .load _ a _ => a | .store a _ => a | .amo _ _ a _ _ => a | .lr _ a _ => a | .sc _ a _ _ => a
def RemoteOp.size : RemoteOp → Nat
  | .load _ _ n => n | .store _ bs => bs.length | .amo _ w _ _ _ => if w then 8 else 4 | .lr w _ _ => if w then 8 else 4 | .sc w _ _ _ => if w then 8 else 4
def RemoteOp.writes : RemoteOp → Bool | .load _ _ _ => false | .lr _ _ _ => false | _ => true
/-- mcause of an access fault: 5 for a load, 7 for a store or AMO; of a misaligned address one less (RISC-V; log entry 11). -/
def RemoteOp.faultCause (op : RemoteOp) : BitVec 8 := if op.writes then 7 else 5

/-- An access that the core takes as a misaligned address: an atomic off its width, or a scalar load that leaves its 64-byte line, which no request of R236 carries
(log entry 80). -/
def RemoteOp.misaligned (op : RemoteOp) : Bool :=
  let a := op.addr.toNat
  match op with
  | .load (.v _ _) _ _ => false
  | .load _ _ n => decide (64 < a % 64 + n)
  | .store _ _ => false
  | _ => a % op.size != 0

/-- The runs of a store's bytes: each the address and bytes of consecutive bytes within a 32-byte half-line (06 R236, 08 R312). -/
def byteRuns (a : Nat) : List (Option Byte) → List (Nat × List Byte) → List (Nat × List Byte)
  | [], l => l
  | none :: r, l => byteRuns (a + 1) r l
  | some b :: r, l =>
    match l.getLast? with
    | some e => if e.1 + e.2.length = a && a % 32 != 0 then byteRuns (a + 1) r (l.dropLast ++ [(e.1, e.2 ++ [b])]) else byteRuns (a + 1) r (l ++ [(a, [b])])
    | none => byteRuns (a + 1) r [(a, [b])]

/-- Two whole half-lines of a line are one whole line (06 R236). -/
def wholeLines : List (Nat × List Byte) → List (Nat × List Byte)
  | [] => []
  | [e] => [e]
  | e :: f :: r =>
    if e.1 % 64 = 0 && e.2.length = 32 && f.1 = e.1 + 32 && f.2.length = 32 then (e.1, e.2 ++ f.2) :: wholeLines r else e :: wholeLines (f :: r)

/-- The pieces of a store: whole lines, and runs within half-lines. -/
def storePieces (a : Nat) (bs : List (Option Byte)) : List (Nat × List Byte) := wholeLines (byteRuns a bs [])

/-- The pieces of a load, one for each line it touches: address, offset from its start, and bytes (06 R236). -/
def loadPieces (a n : Nat) : List (Nat × Nat × Nat) :=
  if n = 0 then [] else
  (List.range ((a + n - 1) / 64 - a / 64 + 1)).map (fun i =>
    let lo := max a (64 * (a / 64 + i))
    (lo, lo - a, min (a + n) (64 * (a / 64 + i) + 64) - lo))

/-- The request a piece of an access to endpoint `dst` becomes (06 R236, 08 R312). -/
def corePkt (s : State) (c : CDie) (p : Part) (dst : Coord) (xid : BitVec 32) (op : BitVec 8) (md : BitVec 8) (a : Nat) (body : List Byte) : Packet :=
  { mc := 1, op := op, cls := op == opWRITE, len := if op == opWRITE then 1 else 0, dst := dst, src := s.coord (CDie.die c) 4
    part := BitVec.ofNat 8 p.val, md := md, xid := xid, addr := BitVec.ofNat 64 a, body := body }

/-- The packets of an access to another die, each with its owner (06 R236). -/
def remoteParts (s : State) (c : CDie) (k : Core) (d : Dispatch) (dst : Coord) : RemoteOp → List ((BitVec 32 → Packet) × Owner)
  | .load t a n => (loadPieces a.toNat n).filterMap (fun e =>
      (t.shift e.2.1).map (fun t' => (fun xid => corePkt s c d.ref.part dst xid opREAD 1 (e.1 / 64 * 64) (List.replicate 32 0),
        .load c k.val d.id t' (e.1 % 64) e.2.2)))
  | .store a bs => (storePieces a.toNat bs).map (fun e =>
      (fun xid => if e.2.length = 64 then corePkt s c d.ref.part dst xid opWRITE 0 e.1 (List.replicate 32 0 ++ e.2)
        else corePkt s c d.ref.part dst xid opWRITE_MASKED (BitVec.ofNat 8 e.2.length) e.1
          (List.replicate (e.1 % 32) 0 ++ e.2 ++ List.replicate (32 - e.1 % 32 - e.2.length) 0), .store c k.val d.id))
  | .amo f w a v rd => [(fun xid => corePkt s c d.ref.part dst xid opAMO (BitVec.ofNat 8 (f.val + w.toNat <<< 4)) a.toNat
      (leBytes (if w then v.toNat else v.toNat % 2 ^ 32) 8 ++ List.replicate 24 0), .amo c k.val d.id rd w)]
  | _ => []

/-- Issue the packets of a remote access, each with an XID of its own, under the die's retries, an AMO with none (05 R189, 06 R237). -/
def State.issueParts (s : State) (c : CDie) (left : Nat) (ps : List ((BitVec 32 → Packet) × Owner)) : State :=
  ps.foldl (fun s e => let (xid, s) := s.newXid c; s.issue [{ die := c, pkt := e.1 xid, owner := e.2, left := left }]) s

/-- How an access on the die ended: done with the core as it leaves it, an access fault, or failed with a status. -/
inductive CoreEnd where
  | done (x : CoreSt) | fault | misaligned | failed (st : AccStatus)
  deriving DecidableEq, Repr

/-- A read at a place of the die or the core: scratch, the Tarn allocation, or a board address (R187). -/
def State.coreRead (s : State) (c : CDie) (x : CoreSt) (d : Dispatch) (pl : CorePlace) (a n : Nat) (o : Obs) (wr : Bool) : State × AccStatus × List Byte :=
  let sc : Scope := ⟨some d.ref.part, some d.ref.ctx⟩
  match pl with
  | .scratch off => (s, .ok, Store.getList (fun _ => 0) x.scratch off n)
  | .tarn off => s.readOp c sc d.ref.part true off n o
  | _ => s.readBoard c sc d.ref.part a n o wr

/-- A write there. -/
def State.corePut (s : State) (c : CDie) (x : CoreSt) (d : Dispatch) (pl : CorePlace) (a : Nat) (bs : List Byte) (o : Obs) : State × AccStatus × CoreSt :=
  let sc : Scope := ⟨some d.ref.part, some d.ref.ctx⟩
  match pl with
  | .scratch off => (s, .ok, { x with scratch := Store.setList (fun _ => 0) x.scratch off bs })
  | .tarn off => let (s, st) := s.writeOp c sc d.ref.part true off bs o; (s, st, x)
  | _ => let (s, st) := s.writeBoard c sc d.ref.part a bs o; (s, st, x)

/-- The place `n` bytes on. -/
def CorePlace.plus (pl : CorePlace) (n : Nat) : CorePlace := match pl with | .scratch o => .scratch (o + n) | .tarn o => .tarn (o + n) | p => p

/-- An access to the scratch, the Tarn allocation or the die's own memory and Tarn (R187–R189): LR and SC on the scratch alone. -/
def State.coreNear (s : State) (c : CDie) (k : Core) (x : CoreSt) (d : Dispatch) (pl : CorePlace) (op : RemoteOp) (o : Obs) : State × CoreEnd :=
  let a := op.addr.toNat
  let inScratch (off : Nat) : Bool := off + op.size ≤ 0x80000
  let fits : Bool := match pl with | .scratch off => inScratch off | _ => true
  if !fits then (s, .fault) else
  match op with
  | .load t _ n =>
    match s.coreRead c x d pl a n o false with
    | (s, .ok, bs) => (s, .done (x.loaded t bs))
    | (s, st, _) => (s, .failed st)
  | .store _ bs =>
    let r := (storePieces a bs).foldl (fun (e : State × AccStatus × CoreSt) p =>
      if e.2.1 != .ok then e else e.1.corePut c e.2.2 d (pl.plus (p.1 - a)) p.1 p.2 o) (s, .ok, x)
    if r.2.1 = .ok then (r.1, .done r.2.2) else (r.1, .failed r.2.1)
  | .amo f w _ v rd =>
    match s.coreRead c x d pl a op.size o true with
    | (s, .ok, bs) =>
      let n := op.size
      (match s.corePut c x d pl a (leBytes (amoFn f.val (8 * n) (leNat bs) (v.toNat % 2 ^ (8 * n))) n) {} with
        | (s, .ok, x) => (s, .done (x.loaded (.x rd true) bs))
        | (s, st, _) => (s, .failed st))
    | (s, st, _) => (s, .failed st)
  | .lr w _ rd =>
    match pl with
    | .scratch off => (s, .done ({ x with resv := some (off, op.size) }.loaded (.x rd true) (Store.getList (fun _ => 0) x.scratch off op.size)))
    | _ => (s, .fault)
  | .sc w _ v rd =>
    match pl with
    | .scratch off =>
      if x.resv = some (off, op.size) then
        (s, .done ({ x with resv := none, scratch := Store.setList (fun _ => 0) x.scratch off (leBytes v.toNat op.size) }.setX rd 0))
      else (s, .done ({ x with resv := none }.setX rd 1))
    | _ => (s, .fault)

/-- The queue of the core's own context whose register stands at an offset of the register region, laid out as the VCX page (R187, R224; log entry 81). -/
def ownQueue (c : CDie) (d : Dispatch) (off : Nat) : Option QRef :=
  let r := queueAt c d.ref.part (off % 0x200 / 4)
  if r.ctx = d.ref.ctx && 0x800 ≤ off && off < 0xE00 then some r else none

/-- An access to the context's doorbell, state and gate registers: one aligned word (R187, R224). Other offsets read zero and ignore writes (log entry 81). -/
def State.coreRegs (s : State) (c : CDie) (x : CoreSt) (d : Dispatch) (off : Nat) (op : RemoteOp) : State × CoreEnd :=
  if off % 4 != 0 then (s, .fault) else
  match op with
  | .load (.x r sg) _ 4 =>
    let w : Word := match ownQueue c d off with
      | none => 0
      | some q => if off < 0xA00 then 0 else if off < 0xC00 then (s.queue q).stateWord else (s.queue q).gateWord
    (s, .done (x.loaded (.x r sg) (leBytes w.toNat 4)))
  | .store _ [some b0, some b1, some b2, some b3] =>
    let w : Word := BitVec.ofNat 32 (leNat [b0, b1, b2, b3])
    (match ownQueue c d off with
      | none => (s, .done x)
      | some q => (if off < 0xA00 then s.door q w else if off < 0xC00 then s else s.setGate q w, .done x))
  | _ => (s, .fault)

/-- What an access on the die leaves: the core goes on, or the dispatch ends (R187, R190, R241, R246). -/
def State.coreFinish (s : State) (c : CDie) (k : Core) (x : CoreSt) (d : Dispatch) (op : RemoteOp) : CoreEnd → State
  | .done x => s.setCore c k x
  | .fault => (s.setCore c k x).trapDispatch c k d .exception op.faultCause x.pc
  | .misaligned => (s.setCore c k x).trapDispatch c k d .exception (op.faultCause - 1) x.pc
  | .failed .ok => s.setCore c k x
  | .failed .range => (s.setCore c k x).trapDispatch c k d .range op.faultCause x.pc
  | .failed .memUe => (s.setCore c k x).trapDispatch c k d .memUe op.faultCause x.pc
  | .failed .tarnUe => (s.setCore c k x).trapDispatch c k d .tarnUe op.faultCause x.pc
  | .failed .timeout => (s.setCore c k x).coreTimeout c d

/-- A data access of a core that runs dispatch `d` (R187–R190, 06 R233, R235–R237): on the die in one step; to another die or package as requests; an unmapped board
address is refused at the source and taken as an access fault. -/
def State.coreAccess (s : State) (c : CDie) (k : Core) (x : CoreSt) (d : Dispatch) (op : RemoteOp) (o : Obs) : State :=
  let a := op.addr.toNat
  if op.size = 0 then s.setCore c k x
  else if op.misaligned then s.coreFinish c k x d op .misaligned
  else
    let near (pl : CorePlace) : State := let (s, e) := s.coreNear c k x d pl op o; s.coreFinish c k x d op e
    let go (pos : Nat) (t : CDie) : State :=
      if pos = s.pos && t = c then near .board
      else match op with
        | .lr _ _ _ => s.coreFinish c k x d op .fault
        | .sc _ _ _ _ => s.coreFinish c k x d op .fault
        | _ => (s.setCore c k x).issueParts c (match op with | .amo _ _ _ _ _ => 0 | _ => s.retries c) (remoteParts s c k d (s.boardCoord pos t 0) op)
    match corePlace a with
    | .none => s.coreFinish c k x d op .fault
    | .regs off => let (s, e) := s.coreRegs c x d off op; s.coreFinish c k x d op e
    | .scratch off => near (.scratch off)
    | .tarn off => near (.tarn off)
    | .board =>
      if !(extentMapped a op.size) then (s.refuse c d.ref.part op.writes a).coreFinish c k x d op .fault
      else match placeOf a with
        | .mem pos t _ => go pos t
        | .tarn pos t _ => go pos t
        | .unmapped => s

/-- CORE_REMOTE_ACCESS: a core's access to another die or package, and to its own die (log entry 80). -/
def coreRemoteAccess (c : CDie) (k : Core) (pre : List CoreWrite) (op : RemoteOp) (o : Obs) (s : State) : State :=
  match s.coreReady c k pre with
  | none => s
  | some (x, d) => s.coreAccess c k x d op o

/-- CORE_TRAP: an exception, or an access that ends the dispatch at once (R190). -/
def coreTrap (c : CDie) (k : Core) (pre : List CoreWrite) (t : TrapWhy) (o : Obs) (s : State) : State :=
  match s.coreReady c k pre with
  | none => s
  | some (x, d) =>
    match t with
    | .exception cause epc => (s.setCore c k x).trapDispatch c k d .exception cause epc
    | .access op =>
      let u := s.coreAccess c k x d op o
      if u.dispatches.any (fun e => e.id == d.id && e.stopped) then u else s

end Sys2Proof.Machine
end

