-- ==== Sys2Proof/Machine/Bar2.lean ====
section
/-! DEFINITION. The host's data path: VF windows, BAR2 through the proxy die, and host writes held behind BAR2 writes (16 R587–R592, R595). -/

namespace Sys2Proof.Machine

/-- The VF of a partition is enabled; its window and BAR2 are open: not in the safe state, its partition neither FENCED nor SCRUBBING (R587, R589, R595). -/
def State.vfOn (s : State) (p : Part) : Bool := s.flag .pci (F.PCI_VF_ENABLED p.val)
def State.winOpen (s : State) (p : Part) : Bool := !(s.flag .pci F.PCI_STATUS_FATAL) && !(s.partFenced p)

/-- A partition is ACTIVE: it exists and is in NORMAL (14 R523). -/
def State.partActive (s : State) (p : Part) : Bool := (s.part? p).isSome && s.partState p = ptNORMAL

/-- The 64-byte units of a span. -/
def unitsOf (a n : Nat) : List Nat := if n = 0 then [] else (List.range ((a + n - 1) / 64 - a / 64 + 1)).map (fun i => a / 64 + i)

/-- The writes of a span: each whole aligned unit, and each run within a half-line of what is left (R590): address and length. -/
def writeRuns (a n : Nat) : List (Nat × Nat) :=
  let part (lo hi : Nat) : List (Nat × Nat) := if max a lo < min (a + n) hi then [(max a lo, min (a + n) hi - max a lo)] else []
  (unitsOf a n).flatMap (fun u =>
    if a ≤ 64 * u && 64 * u + 64 ≤ a + n then [(64 * u, 64)] else part (64 * u) (64 * u + 32) ++ part (64 * u + 32) (64 * u + 64))

/-- The packet of one run of a write. -/
def bar2WritePacket (src dst : Coord) (p : Part) (xid : BitVec 32) (seq a : Nat) (bs : List Byte) : Packet :=
  let base : Packet := { mc := 1, cls := decide (bs.length = 64), op := if bs.length = 64 then opWRITE else opWRITE_MASKED, dst := dst, src := src
                         part := BitVec.ofNat 8 p.val, xid := xid, seq := BitVec.ofNat 16 seq, addr := BitVec.ofNat 64 a, body := [] }
  if bs.length = 64 then { base with len := 1, body := List.replicate 32 0 ++ bs }
  else { base with md := BitVec.ofNat 8 bs.length, body := List.replicate (a % 32) 0 ++ bs ++ List.replicate (32 - a % 32 - bs.length) 0 }

/-- The requests of a BAR2 access from its proxy die (R590). -/
def State.bar2Reqs (s : State) (c : CDie) (b : Bar2) (xid : BitVec 32) : List Req :=
  let src := s.coord (CDie.die c) 0
  if b.write then
    (writeRuns b.addr b.len).zipIdx.map (fun e =>
      let bs := (b.data.drop (e.1.1 - b.addr)).take e.1.2
      { die := c, pkt := bar2WritePacket src (s.addrCoord e.1.1) b.part xid e.2 e.1.1 bs, owner := .bar2w b.id, left := s.retries c })
  else
    let lo := b.addr / 64 * 64
    (packetSpans (64 * (unitsOf b.addr b.len).length)).zipIdx.map (fun e =>
      { die := c
        pkt := { mc := 1, op := opREAD, dst := s.addrCoord (lo + e.1.1), src := src, part := BitVec.ofNat 8 b.part.val, md := BitVec.ofNat 8 (e.1.2 / 64)
                 seq := BitVec.ofNat 16 e.2, xid := xid, addr := BitVec.ofNat 64 (lo + e.1.1), body := List.replicate 32 0 }
        owner := .bar2r b.id e.1.1, left := s.retries c })

/-- A BAR2 access leaves its proxy die; an unmapped address is refused there, and with no die left it fails (R233, R590, R592). -/
def State.issueBar2 (s : State) (b : Bar2) : State :=
  let s : State := { s with bar2 := s.bar2.map (fun (x : Bar2) => if x.id == b.id then { x with issued := true } else x) }
  match s.proxy (s.partOf b.part) with
  | none => s.bar2Fail b.id .timeout
  | some c =>
    match placeOf b.addr with
    | .unmapped => (s.refuse c b.part b.write b.addr).bar2Fail b.id (.resp .range)
    | _ => let (xid, s) := s.newXid c; s.issue (s.bar2Reqs c b xid)

/-- A BAR2 access has requests that are not over. -/
def State.bar2Open (s : State) (id : Nat) : Bool :=
  s.requests.any (fun r => match r.owner with | .bar2w i => i == id | .bar2r i _ => i == id | _ => false)

/-- The data a BAR2 read completes with: all-ones when it failed (R592). -/
def Bar2.result (b : Bar2) : List Byte := if b.failed then List.replicate b.len 0xFF else (b.data.drop (b.addr % 64)).take b.len

/-- A BAR2 read completes toward the host, unless its VF was reset meanwhile (R612). -/
def State.bar2Done (s : State) (b : Bar2) (bs : List Byte) : State := if b.write || b.quiet then s else s.emit (.hostData (.vf b.part) bs)

/-- One pass over the BAR2 accesses in order of arrival (R591): what is over leaves, a read only after every earlier write of its VF; a write held by an
overlap leaves for the fabric once the earlier write is acknowledged. `kept`: accesses of the pass that stay. -/
def State.bar2Pass (s : State) (kept : List Bar2) : List Bar2 → State × List Bar2
  | [] => (s, kept)
  | b :: rest =>
    let before := kept.filter (fun x => x.write && x.part == b.part)
    if b.issued then
      if s.bar2Open b.id || (!b.write && !before.isEmpty) then s.bar2Pass (kept ++ [b]) rest
      else (s.bar2Done b b.result).bar2Pass kept rest
    else if before.any (fun x => (unitsOf x.addr x.len).any (fun u => (unitsOf b.addr b.len).contains u)) then s.bar2Pass (kept ++ [b]) rest
    else
      let s := s.issueBar2 b
      s.bar2Pass (kept ++ ((s.bar2.filter (fun x => x.id == b.id)).take 1)) rest

/-- Passes until nothing is left to move. -/
def State.bar2Passes (s : State) : Nat → State
  | 0 => s
  | n + 1 =>
    let (s', l) := s.bar2Pass [] s.bar2
    State.bar2Passes { s' with bar2 := l } n

/-- The safe state: outstanding reads complete with all-ones, writes are answered to no one (R595, R612). -/
def State.bar2Fatal (s : State) : State :=
  let s' := s.bar2.foldl (fun t b => t.bar2Done b (List.replicate b.len 0xFF)) s
  { s' with bar2 := [], held := [] }

/-- The queue a queue block of a VF window addresses: block i is the part's i-th compute die, in board-unified presentation die n of position P for
i = 8P + n (R589): the position, the die, and the offset in the block. -/
def State.windowBlock (s : State) (p : Part) (off : Nat) : Option (Nat × CDie × Nat) :=
  if off < 0x4000 then none else
  let i := (off - 0x4000) / 0x600
  let o := (off - 0x4000) % 0x600
  if s.boot.boardPres then (if h : i % 8 < 8 ∧ i < 32 then some (i / 8, ⟨i % 8, h.1⟩, o) else none)
  else match (s.partDies (s.partOf p))[i]? with | some c => some (s.pos, c, o) | none => none

/-- A queue register of a VF's partition on a die: DB at 0, QSTATE at 0x200, GATE at 0x400 (R589, 19 R676). -/
def State.vfQueueWrite (s : State) (p : Part) (c : CDie) (o : Nat) (v : Word) : State :=
  if !(s.pageThere (.vcx c)) || s.fencedDies.contains (CDie.die c) || !(s.winOpen p) then s
  else if o < 0x200 then s.door (queueAt c p (o / 4)) v
  else if 0x400 ≤ o then s.setGate (queueAt c p ((o - 0x400) / 4)) v
  else s
def State.vfQueueRead (s : State) (p : Part) (c : CDie) (o : Nat) : Word :=
  if !(s.pageThere (.vcx c)) then allOnes
  else if o < 0x200 then 0
  else if o < 0x400 then (s.queue (queueAt c p ((o - 0x200) / 4))).stateWord
  else (s.queue (queueAt c p ((o - 0x400) / 4))).gateWord

/-- A function's pending messages leave as far as vectors, MSI-X and bus mastering allow (R593). -/
def State.msixFlush (s : State) (f : Fn) : State :=
  let c := s.fn f
  if !c.msixEn || !c.busMaster then s
  else
    let go := c.pend.filter (fun v => c.unmasked.contains v)
    go.foldl (fun t v => t.emit (.msix f v)) (s.setFn f { c with pend := c.pend.filter (fun v => !(c.unmasked.contains v)) })

/-- The mask of a vector changes (R593). -/
def State.setMask (s : State) (f : Fn) (v : Nat) (on : Bool) : State :=
  if f.vectors ≤ v then s else
  let c := s.fn f
  let l := c.unmasked.filter (· != v)
  (s.setFn f { c with unmasked := if on then l else l ++ [v] }).msixFlush f

/-- A word of a VF window, with the effect of a read of D2H DONE (R589, R614). An offset of another position's queue block is not read here. -/
def State.windowRead (s : State) (p : Part) (off : Nat) : State × Word :=
  let f : Fn := .vf p
  let c := s.fn f
  let k : Fin 100 := ⟨36 + p.val, by omega⟩
  if !(s.winOpen p) then (s, allOnes)
  else if off = 0 then (s, BitVec.ofNat 32 ((s.partActive p).toNat + c.accessErr.toNat <<< 1 + p.val <<< 2))
  else if off = 4 then (s, BitVec.ofNat 32 c.mbxVec)
  else if 0x400 ≤ off ∧ off < 0x600 then s.readChan (.fn f) k off
  else if 0x600 ≤ off ∧ off < 0x620 then s.readChan (.fn f) k (off - 0x500)
  else if 0x1000 ≤ off ∧ off < 0x2000 then
    (s, if off / 4 % 4 = 3 then BitVec.ofNat 32 (!(c.unmasked.contains ((off - 0x1000) / 16))).toNat else Store.get (fun _ => 0) c.table ((off - 0x1000) / 4))
  else if 0x2000 ≤ off ∧ off < 0x2020 then
    (s, BitVec.ofNat 32 (bitmapOf ((c.pend.filter (fun v => v / 32 == (off - 0x2000) / 4)).map (· % 32))))
  else match s.windowBlock p off with
    | some (pos, d, o) => (s, if pos = s.pos then s.vfQueueRead p d o else 0)
    | none => (s, 0)

/-- A write of a word of a VF window takes effect (R589, R614). With no ACTIVE partition only VF_STATUS and the MSI-X table take writes. A write to another
position's queue block is relayed. -/
def State.windowApply (s : State) (p : Part) (off : Nat) (v : Word) : State :=
  let f : Fn := .vf p
  let c := s.fn f
  let k : Fin 100 := ⟨36 + p.val, by omega⟩
  if !(s.winOpen p) then s
  else if off = 0 then (if v.getLsbD 1 then s.setFn f { c with accessErr := false } else s)
  else if 0x1000 ≤ off ∧ off < 0x2000 then
    if off / 4 % 4 = 3 then s.setMask f ((off - 0x1000) / 16) (v.getLsbD 0)
    else s.setFn f { c with table := Store.set (fun _ => 0) c.table ((off - 0x1000) / 4) v }
  else if !(s.partActive p) then s
  else if off = 4 then s.setFn f { c with mbxVec := v.toNat % 256 }
  else if 0x400 ≤ off ∧ off < 0x600 then s.writeChan (.fn f) k off v
  else if 0x600 ≤ off ∧ off < 0x620 then s.writeChan (.fn f) k (off - 0x500) v
  else match s.windowBlock p off with
    | some (pos, d, o) =>
      if pos = s.pos then s.vfQueueWrite p d o v
      else { s with relayOut := s.relayOut ++ [{ pos := pos, who := f, accs := [{ off := BitVec.ofNat 28 (Page.base (.vcx d) + 0x800 + o), write := true, data := v, vf := some p }] }] }
    | none => s

/-- A held write takes effect. -/
def State.heldApply (s : State) (p : Part) (w : HostWrite) : State :=
  match w with
  | .door r v => if s.winOpen p then s.door r v else s
  | .win off v => s.windowApply p off v

/-- Held writes whose earlier BAR2 writes are over take effect, in order for each VF (R591). `wait`: the VFs of writes that stay held, with those. -/
def State.heldPass (s : State) (wait : List HeldWrite) : List HeldWrite → State × List HeldWrite
  | [] => (s, wait)
  | h :: rest =>
    if wait.any (fun x => x.part == h.part) || s.bar2.any (fun b => b.write && b.part == h.part && decide (b.id < h.upTo)) then s.heldPass (wait ++ [h]) rest
    else (s.heldApply h.part h.what).heldPass wait rest

/-- What follows every command: BAR2 accesses complete, held writes take effect (R591, R592, R595). -/
def State.settleBar2 (s : State) : State :=
  if s.bar2.isEmpty && s.held.isEmpty then s
  else if s.flag .pci F.PCI_STATUS_FATAL then s.bar2Fatal
  else
    let s := s.bar2Passes (s.bar2.length + 1)
    let (s', l) := s.heldPass [] s.held
    { s' with held := l }

/-- A write of a VF takes effect at once, or is held behind earlier BAR2 writes and held writes of the VF (R591). -/
def State.vfWrite (s : State) (p : Part) (w : HostWrite) : State :=
  if s.bar2.any (fun b => b.write && b.part == p) || s.held.any (fun h => h.part == p) then { s with held := s.held ++ [⟨p, s.nextId, w⟩] }
  else s.heldApply p w

/-- A BAR2 access keeps the rules of a PCI Express request: its length, and no 4 KiB boundary inside (R585). -/
def bar2Form (a n limit : Nat) : Bool := decide (0 < n) && decide (n ≤ limit) && a / 4096 == (a + n - 1) / 4096

/-- BAR2_WRITE (R588–R592). -/
def bar2Write (p : Part) (a : BitVec 43) (bs : List Byte) (s : State) : State :=
  if !(s.vfOn p) || !(s.winOpen p) || !(bar2Form a.toNat bs.length 512) then s
  else { s with bar2 := s.bar2 ++ [{ id := s.nextId, part := p, write := true, addr := a.toNat, len := bs.length, data := bs }], nextId := s.nextId + 1 }

/-- BAR2_READ (R590–R592). -/
def bar2Read (p : Part) (a : BitVec 43) (n : Fin 4097) (s : State) : State :=
  if !(s.vfOn p) || !(bar2Form a.toNat n.val 4096) then s
  else if !(s.winOpen p) then s.emit (.hostData (.vf p) (List.replicate n.val 0xFF))
  else
    { s with bar2 := s.bar2 ++ [{ id := s.nextId, part := p, write := false, addr := a.toNat, len := n.val
                                  data := List.replicate (64 * (unitsOf a.toNat n.val).length) 0 }], nextId := s.nextId + 1 }

/-- A doorbell as it reaches a queue: through a PF's page to the partition of VCX_DB_PART, through a VF window to its own, from a core (05 R187, R197, R224). -/
def doorbellRow (src : DoorSrc) (q : QRef) (v : Word) (s : State) : State :=
  match src with
  | .host (.vf p) => if s.vfOn p && s.pageThere (.vcx q.die) && !(s.fencedDies.contains (CDie.die q.die)) then s.vfWrite p (.door { q with part := p } v) else s
  | .host (.pf n) =>
    if s.pageServed (.fn (.pf n)) (.vcx q.die) && !(s.fencedDies.contains (CDie.die q.die)) then s.door (doorQueue src q s) v else s
  | .core => s.door q v

/-- MBX_H2D_SEND of a channel (16 R600): of a VF's channel behind its BAR2 writes (R591). -/
def h2dSendRow (k : Fin 100) (s : State) : State :=
  if h : 36 ≤ k.val then
    let p : Part := ⟨k.val - 36, by omega⟩
    if s.vfOn p then s.vfWrite p (.win 0x608 1) else s
  else mbxH2dSend k s

end Sys2Proof.Machine
end

