-- ==== Sys2Proof/Machine/Host.lean ====
section
/-! DEFINITION. Register requests of every requester, the board relay, resets of the PCIe interface, the side-band and the management network, and the agent's
MC_COMMAND (16 R593–R598, R607–R610, 19 R670–R672, 10 R381, R399, 11 R436). -/

namespace Sys2Proof.Machine

/-- The register offset and the function's window of an access; what lies outside both is not decoded. -/
def State.readAt (s : State) (w : Requester) (a : RegAddr) : State × Word :=
  match a, w with
  | .window off, .fn (.vf p) => if s.vfOn p then s.windowRead p (off.toNat / 4 * 4) else (s, allOnes)
  | .bar0 a, w => if a.toNat < 0x10000000 then s.readReg w (a.toNat / 4 * 4) else (s, allOnes)
  | _, _ => (s, allOnes)

def State.writeAt (s : State) (w : Requester) (a : RegAddr) (v : Word) (f : BootFind) : State :=
  match a, w with
  | .window off, .fn (.vf p) => if s.vfOn p then s.vfWrite p (.win (off.toNat / 4 * 4) v) else s
  | .bar0 a, w => if a.toNat < 0x10000000 then s.writeReg w (a.toNat / 4 * 4) v f else s
  | _, _ => s

/-- The address of DWORD i of a request. -/
def RegAddr.plus (a : RegAddr) (i : Nat) : RegAddr :=
  match a with
  | .bar0 a => .bar0 (a + BitVec.ofNat 30 (4 * i))
  | .window o => .window (o + BitVec.ofNat 16 (4 * i))

/-- A PCI Express request of n DWORDs that is performed: 1–16, within one 4 KiB page (R670). -/
def RegAddr.formOk (a : RegAddr) (n : Nat) : Bool :=
  let o := match a with | .bar0 a => a.toNat | .window o => o.toNat
  decide (1 ≤ n) && decide (n ≤ 16) && decide (o % 4096 / 4 + n ≤ 1024)

/-- Reads in ascending address order (R670). -/
def State.readWords (s : State) (w : Requester) (a : RegAddr) : Nat → State × List Word
  | 0 => (s, [])
  | n + 1 =>
    let (s, v) := s.readAt w a
    let (s, l) := s.readWords w (a.plus 1) n
    (s, v :: l)

/-- Writes in ascending address order; one whose byte enables are not all set is discarded (R670). -/
def State.writeWords (s : State) (w : Requester) (a : RegAddr) (f : BootFind) : List (Word × Bool) → State
  | [] => s
  | (v, be) :: rest => (if be then s.writeAt w a v f else s).writeWords w (a.plus 1) f rest

/-- The position of another package of the board that a host access goes to: BAR0 windows 1–3 of PF0, and queue blocks of other positions in a VF window, at
position 0 in board-unified presentation (16 R588, R589, R597); with the offset there, and the partition of a VF. -/
def State.relayTo (s : State) (w : Requester) (a : RegAddr) : Option (Nat × Nat × Option Part) :=
  if !s.boot.boardPres || s.pos != 0 then none else
  match a, w with
  | .bar0 a, .fn (.pf n) => if n = 0 && 0x10000000 ≤ a.toNat then some (a.toNat / 0x10000000, a.toNat % 0x10000000, none) else none
  | .window off, .fn (.vf p) =>
    match s.windowBlock p off.toNat with
    | some (pos, d, o) => if pos = 0 || !(s.vfOn p) || !(s.winOpen p) then none else some (pos, Page.base (.vcx d) + 0x800 + o, some p)
    | none => none
  | _, _ => none

/-- At most one relay frame is outstanding to each position: the oldest frame of each position is sent (R598). The frames of a position go out in order. -/
def State.pumpRelay (s : State) : State :=
  if s.relayOut.isEmpty || s.mcReset then s else
  [1, 2, 3].foldl (fun (t : State) (p : Nat) =>
    match t.relayOut.find? (fun r => r.pos == p) with
    | none => t
    | some r =>
      if r.sent then t else
      let ctr := Store.get (fun _ => 0) t.relayCtr p + 1
      let r' := { r with sent := true, ctr := ctr }
      let t : State := { t with relayCtr := Store.set (fun _ => 0) t.relayCtr p ctr
                                relayOut := (t.relayOut.takeWhile (fun x => x.pos != p)) ++ [r'] ++ (t.relayOut.dropWhile (fun x => x.pos != p)).drop 1 }
      t.emit (.relay p ctr r.accs)) s

/-- A relay frame is over. -/
def State.dropRelay (s : State) (p : Nat) : State :=
  { s with relayOut := (s.relayOut.takeWhile (fun x => x.pos != p)) ++ (s.relayOut.dropWhile (fun x => x.pos != p)).drop 1 }

/-- The reads of a frame complete toward their function. -/
def State.relayData (s : State) (r : RelayOut) (data : List Word) : State :=
  if r.accs.any (fun a => !a.write) then s.emit (.regData (.fn r.who) data) else s

/-- LO_READ_LATCH: a read of n register words (R670, R672): data, or a completer abort of a PCI Express request that is not performed. -/
def regRead (w : Requester) (a : RegAddr) (n : Fin 1025) (s : State) : State :=
  let pcie := match w with | .fn f => some f | _ => none
  match pcie with
  | some f =>
    if !(a.formOk n.val) then s.emit (.completerAbort f true)
    else match s.relayTo w a with
      | some (pos, off, vf) =>
        State.pumpRelay { s with relayOut := s.relayOut ++ [{ pos := pos, who := f, accs := (List.range n.val).map (fun i =>
          { off := BitVec.ofNat 28 (off + 4 * i), write := false, vf := vf }) }] }
      | none => let (s, l) := s.readWords w a n.val; s.emit (.regData w l)
  | none => let (s, l) := s.readWords w a n.val; s.emit (.regData w l)

/-- MSI-X and bus-master enables, masks, and the VFs a PF enables (16 R587, R593). -/
def State.pciConfig (s : State) (f : Fn) (c : PciCfg) : State :=
  match c with
  | .msix on => (s.setFn f { s.fn f with msixEn := on }).msixFlush f
  | .busMaster on => (s.setFn f { s.fn f with busMaster := on }).msixFlush f
  | .mask v on => s.setMask f v.val on
  | .numVfs n =>
    match f with
    | .vf _ => s
    | .pf q =>
      let total := 64 / s.nparts
      if s.nparts ≤ q.val || total < n.val then s else
      (List.range total).foldl (fun t i => t.setFld .pci (F.PCI_VF_ENABLED (q.val * total + i)) (decide (i < n.val)).toNat) s

/-- REGISTER_WRITE: words, or a function's configuration (R670, R671, R673). -/
def regWrite (w : Requester) (x : RegWrite) (f : BootFind) (s : State) : State :=
  match x with
  | .cfg c => (match w with | .fn g => s.pciConfig g c | _ => s)
  | .words a ws =>
    let pcie := match w with | .fn g => some g | _ => none
    match pcie with
    | some g =>
      if !(a.formOk ws.length) then s.emit (.completerAbort g false)
      else match s.relayTo w a, a with
        | some (pos, off, none), .bar0 _ =>
          State.pumpRelay { s with relayOut := s.relayOut ++ [{ pos := pos, who := g, accs := (ws.zipIdx.filter (fun e => e.1.2)).map (fun e =>
            { off := BitVec.ofNat 28 (off + 4 * e.2), write := true, data := e.1.1 }) }] }
        | _, _ => (s.writeWords w a f ws).pumpRelay
    | none => s.writeWords w a f ws

/-- One access of a relay frame at its position: as the host's PF0 there, or a queue register of a VF's partition (R597). -/
def State.relayAccess (s : State) (x : RelayAcc) : State × Word :=
  let a := x.off.toNat
  match x.vf, pageOf a with
  | some p, some (.vcx c) =>
    let o := a % 0x1000 - 0x800
    if a % 0x1000 < 0x800 then (s, allOnes)
    else if x.write then (s.vfQueueWrite p c o x.data, 0) else (s, s.vfQueueRead p c o)
  | some _, _ => (s, allOnes)
  | none, _ => if x.write then (s.writeReg .relay a x.data {}, 0) else s.readReg .relay a

def State.relayAll (s : State) : List RelayAcc → State × List Word
  | [] => (s, [])
  | x :: rest =>
    let (s, v) := s.relayAccess x
    let (s, l) := s.relayAll rest
    (s, if x.write then l else v :: l)

/-- RELAY: a frame of accesses at position P, checked as R379 states and applied in order; its answer at position 0 (R597, R598). A frame that does not verify
has no effect. -/
def relay (x : RelayIn) (s : State) : State :=
  if s.mcReset || s.boot.phase < phRAILS then s else
  match x with
  | .frame ctr valid accs =>
    if s.pos = 0 || !s.boot.boardPres || accs.isEmpty || 64 < accs.length then s else
    match Store.get (fun _ => none) s.boardSess 0 with
    | none => s
    | some ses =>
      if !valid then s else
      match ses.judge ctr.toNat with
      | .stale => s
      | .cached r => s.emit (.relayAnswer ctr.toNat ((List.range (r.length / 4)).map (fun i => BitVec.ofNat 32 (imgNat r (4 * i) 4))))
      | _ =>
        let (s, data) := s.relayAll accs
        let s : State := { s with boardSess := Store.set (fun _ => none) s.boardSess 0 (some (ses.mark ctr.toNat (data.flatMap (fun w => leBytes w.toNat 4)))) }
        s.emit (.relayAnswer ctr.toNat data)
  | .answer pos ctr valid data =>
    match s.relayOut.find? (fun r => r.pos == pos.val) with
    | some r => if valid && r.sent && r.ctr == ctr.toNat then ((s.dropRelay pos.val).relayData r data).pumpRelay else s
    | none => s

/-- MGT_REQUEST_RETRY: a request unanswered for 1 ms is sent again up to three times (10 R400, 16 R598). A relay frame that fails counts each of its accesses;
its reads complete with all-ones. -/
def mgtRequestRetry (x : RetryOf) (s : State) : State :=
  match x with
  | .mgr xid => s.retryJob xid
  | .relay pos =>
    match s.relayOut.find? (fun r => r.pos == pos.val) with
    | none => s
    | some r =>
      if s.mcReset || !r.sent then s
      else if r.left = 0 then
        (((s.dropRelay pos.val).bump .pci C.PCI_RELAY_FAIL r.accs.length).relayData r ((r.accs.filter (fun a => !a.write)).map (fun _ => allOnes))).pumpRelay
      else
        State.emit { s with relayOut := s.relayOut.map (fun (y : RelayOut) => if y.pos == pos.val && y.sent then { y with left := y.left - 1 } else y) }
          (.relay pos.val r.ctr r.accs)

/-- The link stays untrained at positions 1–3 of a board-unified board, and there while the presentation may still be that one (00 R9, 15 R570); with the strap low
it is independent from the start (00 R11). -/
def State.linkDark (s : State) : Bool := s.pos != 0 && s.straps.hostPresEn && !(s.boot.boardSettled && !s.boot.boardPres)

/-- PCIE_LINK_TRAINED: the link trains at a rate and a width of R585 (15 R574), and the functions answer. -/
def pcieLinkTrained (rate : Fin 7) (width : Fin 3) (s : State) : State :=
  if s.inReset pd0 || s.flag .pci F.PCI_STATUS_LINK_UP || s.linkDark then s else
  State.showFunctions ((((s.setFld .pci F.PCI_STATUS_LINK_UP 1).setFld .pci F.PCI_STATUS_RATE (rate.val + 1)).setFld .pci F.PCI_STATUS_WIDTH (2 ^ width.val)).fireEvent .pci 1)

/-- PF_FLR: the PF's configuration, its MSI-X table, the host side of its channels; its VFs are disabled (R596). -/
def pfFlr (n : Fin 4) (s : State) : State :=
  if s.nparts ≤ n.val || s.inReset pd0 then s else
  let mine := (List.finRange 64).filter (fun p => s.partOf p == n.val)
  let s := mine.foldl (fun t p => (t.resetFn (.vf p)).setFld .pci (F.PCI_VF_ENABLED p.val) 0) (s.resetFn (.pf n))
  let s := s.bar2Quiet (fun p => mine.contains p)
  let s := (List.range 36).foldl (fun t k => if (if k < 4 then 0 else (k - 4) / 8) = n.val then t.resetChan k true false else t) s
  s.fireEvent .pci 2

/-- VF_FLR: the VF's configuration, MSI-X table and the host side of its channel; the partition runs on (R596, R612). -/
def vfFlr (p : Part) (s : State) : State :=
  if !(s.vfOn p) || s.inReset pd0 then s else
  (((s.resetFn (.vf p)).bar2Quiet (· == p)).resetChan (36 + p.val) true false).fireEvent .pci 2

/-- DOE_REQUEST: PF0's DOE mailbox answers Discovery and CMA/SPDM (R594, 14 R533). -/
def doeRequest (r : DoeReq) (s : State) : State :=
  if !s.spdmUp then s else
  match r with
  | .discovery => s.emit (.doe none)
  | .spdm q => let (s, a) := s.spdm q; s.emit (.doe (some a))

/-- I3C_ENTDAA (R607). -/
def i3cEntdaa (a : BitVec 7) (s : State) : State := { s with i3c := some a }

/-- What a PLDM sensor reads now (R608). -/
def State.sensorNow (s : State) (id : Nat) : Nat :=
  let temp (d : Die) : Nat := s.fld (.pwr d) F.PWR_MEAS_TEMP
  if id = 1 then s.fld (.pwr pd0) F.PKG_MEAS_TOTAL / 8
  else if id = 2 then s.fld (.pwr pd0) F.PKG_CAP_WATTS
  else if h : 3 ≤ id ∧ id ≤ 12 then temp ⟨id - 3, by omega⟩
  else if id = 13 then allCDies.foldl (fun a c => (List.range 3).foldl (fun b k => max b (s.fld (.mem c) (F.MEM_STACK_TEMP k))) a) 0
  else if h : 14 ≤ id ∧ id ≤ 19 then s.fld (.opt ⟨id - 14, by omega⟩) F.OPT_STATUS_TEMP
  else if id = 20 then
    (if s.flag (.pwr pd0) F.PWR_MGS_A_OK && s.flag (.pwr pd0) F.PWR_MGS_B_OK then 1 + s.fld (.pwr pd0) F.PWR_MGS_ACTIVE else 3)
  else if id = 21 then s.fld .flt F.FLT_STATE_STATE + 1
  else if id = 22 then s.boot.phase + 1
  else 0

/-- The thresholds of a numeric sensor (R608). -/
def State.thresholds (s : State) (id : Nat) : List Nat :=
  if id = 1 then [s.fld (.pwr pd0) F.PKG_CAP_WATTS] else if 3 ≤ id ∧ id ≤ 12 then [105, 120] else if id = 13 then [105]
  else if 14 ≤ id ∧ id ≤ 19 then [85, 95] else []

/-- What a change of a sensor is judged by: a state sensor's reading, the thresholds a numeric one has reached. -/
def State.sensorBand (s : State) (id v : Nat) : Nat :=
  if 20 ≤ id then v else ((s.thresholds id).filter (fun t => decide (t ≤ v))).length

def sensorIds : List Nat := (List.range 22).map (· + 1)
def State.sensor (s : State) (id : Nat) : Nat := Store.get (fun _ => 0) s.sensors id

/-- PLDM_SENSOR_UPDATE: the sensors take their readings; a threshold crossed or a state changed sends a PlatformEventMessage (R608). The event goes out
over I3C when the target has an address (log entry 55). -/
def pldmSensorUpdate (s : State) : State :=
  if !s.spUp then s else
  sensorIds.foldl (fun (t : State) (id : Nat) =>
    let v := t.sensorNow id
    let old := t.sensor id
    let t : State := { t with sensors := Store.set (fun _ => 0) t.sensors id v }
    if t.sensorBand id old != t.sensorBand id v && t.i3c.isSome then (t.emit .ibi).emit (.mctp false 0 (.platformEvent id v)) else t) s

/-- An MCTP message is answered (R607, R608, R610). -/
def State.mctpAnswer (s : State) (net : Bool) (src : BitVec 8) (m : MctpMsg) (env : MsgEnv) : State :=
  let out (s : State) (o : MctpOut) : State := (if net then s else s.emit .ibi).emit (.mctp net src o)
  match m with
  | .setEid e => State.emit (if net then { s with eid := e } else State.emit { s with eid := e } .ibi) (.mctp net src (.eid e))
  | .getEid => out s (.eid s.eid)
  | .getVersion => out s .version
  | .getTypes => out s .types
  | .getVdm => out s .vdm
  | .pldmBase => out s .pldmBase
  | .pldmSensor id => out s (if 1 ≤ id.toNat ∧ id.toNat ≤ 22 then .pldmSensor id.toNat (s.sensor id.toNat) else .pldmError)
  | .pldmPdr => out s (.pldmPdr sensorIds)
  | .spdm r => if s.spdmUp then (let (s, a) := s.spdm r; out s (.spdm a)) else s
  | .seliesel bs => s.handle (.mctp net src) bs env
  | .other => s

/-- MCTP_PACKET: a message over I3C from step 1 of bring-up on, over the management network from step 4 on (R607, R610, R611); the endpoint takes its own
and the null EID. -/
def mctpPacket (net : Bool) (src dst : BitVec 8) (m : MctpMsg) (env : MsgEnv) (s : State) : State :=
  if !s.spUp || (dst != 0 && dst != s.eid) || (if net then decide (s.boot.phase < phRAILS) else s.i3c.isNone) then s
  else s.mctpAnswer net src m env

/-- A command of the Summit manager to the management complex by its CMD (11 R436, 12 R478, R481, 15 R580, 17 R638); none for an unknown CMD. -/
def State.mcInner (s : State) (cmd : Nat) (b : List Byte) : State × List Byte :=
  match cmd with
  | 0x0101 => mgrClaim b s
  | 0x0102 => sliceJoin b s
  | 0x0103 => sliceLeave b s
  | 0x0104 => sliceStop b s
  | 0x0105 => sliceQuery s
  | 0x0106 => readmitMc s
  | 0x0107 => pwrSet b s
  | 0x0108 => wsRead b s
  | 0x0109 => distOpen b s
  | 0x010A => distData b s
  | 0x010B => distStatus b s
  | 0x010C => distActivate b s
  | 0x010D => distAbort b s
  | 0x010E => timCmd b s
  | _ => (s, mcREFUSED)

/-- A command row of the management complex: the response is an output, BUSY while the complex resets (12 R487). -/
def mcRow (f : State → State × List Byte) (s : State) : State :=
  if !s.spUp || s.boot.phase < phMGMT then s else
  if s.mcReset then s.emit (.mcResponse mcBUSY) else
  let (s, r) := f s
  s.emit (.mcResponse r)

/-- MC_COMMAND (10 R381, R399, R404, 11 R436). -/
def mcCommand (m : MgtIn) (s : State) : State :=
  s.agentOp m 0x90 true true true (fun s _ =>
    let a := m.pkt.args
    let n := imgNat a 2 2
    if m.k != 0 then (s.bump (.agt m.k) C.AGT_UNSUPPORTED 1, agUNSUPPORTED, [])
    else if s.mcReset || s.boot.phase < phMGMT then (s, agBUSY, [])
    else if a.length < 4 + n then (s, agFORMAT, [])
    else let (s, r) := s.mcInner (imgNat a 0 2) ((a.drop 4).take n); (s, agOK, r))

/-- The PORT_CMD of a packet (10 R386). -/
def portCmdOf (n : Nat) : Option PortCmd :=
  [PortCmd.train, .disable, .admitPort, .quarantine, .release, .memberOn, .memberOff, .darkOn, .darkOff].find? (fun c => c.code == n)

/-- An operation no row names, at an agent or at the Summit endpoint (10 R375, R405). -/
def State.unsupported (s : State) (m : MgtIn) (e : Nat) : State :=
  let (s, ok) := s.mgtTakes m
  if !ok then s else
  let s := if e = 1 then (s.bump (.agt m.k) C.AGT_REQ 1).bump (.agt m.k) C.AGT_UNSUPPORTED 1 else s
  s.mgtSend m.k m.net (openPacket (s.mgtReply m e agUNSUPPORTED) [])

/-- A request packet at PD0's agent, by its operation (10 R381). -/
def State.agentRequest (s : State) (m : MgtIn) (blobOk : Bool) : State :=
  match m.pkt.op.toNat with
  | 0x80 => identify m s
  | 0x81 => portList m s
  | 0x82 => sessionOpen m s
  | 0x83 => sessionClose m s
  | 0x84 => coordSet m s
  | 0x85 => portAttr m s
  | 0x86 => (match portCmdOf (m.pkt.arg 11 8) with
    | some c => portCmd c (.agent m) s
    | none => s.agentOp m 0x86 true true false (fun s _ => (s, agFORMAT, [])))
  | 0x87 => tableWrite m s
  | 0x88 => tableCommit m s
  | 0x89 => epochSet m s
  | 0x8A => inflightRead m s
  | 0x8B => keyLoad m blobOk s
  | 0x8C => keyClear m s
  | 0x8D => keySwitch m s
  | 0x8E => teleRead m s
  | 0x8F => teleClear m s
  | 0x90 => mcCommand m s
  | 0xDF => eventAnswer m s
  | _ => if 0x80 ≤ m.pkt.op.toNat ∧ m.pkt.op.toNat < 0xA0 then s.unsupported m 1 else s

/-- A request packet at the Summit endpoint, by its operation (11 R444). -/
def State.endpointRequest (s : State) (m : MgtIn) (recs : List MirRec) : State :=
  match m.pkt.op.toNat with
  | 0xA0 => pairOpen m s
  | 0xA1 => heartbeat m s
  | 0xA2 => mirror m recs s
  | 0xA3 => syncRead m s
  | 0xA4 => termNotice m s
  | _ => if 0xA0 ≤ m.pkt.op.toNat ∧ m.pkt.op.toNat < 0xC0 then s.unsupported m 2 else s

/-- MGT_FRAME: a whole MGT packet for the PD0 agent or the Summit endpoint named by DST; others are discarded (R610, R611). -/
def mgtFrame (x : MgtFrame) (s : State) : State :=
  if s.boot.phase < phRAILS then s else
  match x with
  | .request m blobOk recs =>
    let m : MgtIn := { m with k := 0, net := true }
    if m.pkt.dst.d != 8 then s
    else if m.pkt.dst.e = 1 then s.agentRequest m blobOk
    else if m.pkt.dst.e = 2 then s.endpointRequest m recs
    else s
  | .answer a => mgrAnswer a s
  | .scrubbed ser id => mgrScrubbed ser id s
  | .event x => event x s

end Sys2Proof.Machine
end

