-- ==== Sys2Proof/Machine/Ops.lean ====
section
/-! DEFINITION. What every command shares: it takes effect once the management domain is powered, and what it frees follows (15 R560, 16 R591, R598, 10
R398); and the operations several rows share. -/

namespace Sys2Proof.Machine

/-- What follows a command: accesses and writes of the host that no longer wait, relay frames, and events an agent can send (16 R591, R592, R598, 10 R398). -/
def State.after (s : State) : State := s.settleBar2.pumpRelay.flushEvents

/-- A command takes effect: nothing does before the management domain is powered (15 R560; log entry 3). The queue is the step's. -/
def State.act (s : State) (f : State → State) : State := if s.mgmtOn then { (f s).after with pending := s.pending } else s

/-- The outcome of a command that goes on. -/
def run (f : State → State) (s : State) : Host.Outcome State Fault Refusal := .next (s.act f)

/-- A request that this package reset itself has left since `n` outputs. -/
def State.selfReset (s : State) (n : Nat) : Bool :=
  (s.out.take (s.out.length - n)).any (fun o => match o with
    | .mgr (.ag ser 0) _ _ .deviceReset _ => ser == s.fuses.serial
    | _ => false)

/-- An operator command at the primary; DEVICE_RESET of the manager's own package resets it (11 R438, 14 R539, 17 R639). -/
def operatorRow (h : OpHdr) (c : OpCmd) (f : BootFind) (s : State) : State :=
  let n := s.out.length
  let s := s.operator h c
  if s.selfReset n then s.deviceReset f 2 else s

/-- An SPDM request over MCTP or the DOE mailbox (14 R533, 16 R594, R607). -/
def spdmRow (v : Via) (r : SpdmReq) (s : State) : State :=
  match v with
  | .mctp net e => mctpPacket net e s.eid (.spdm r) {} s
  | .doe => doeRequest (.spdm r) s
  | .mbx _ => s

end Sys2Proof.Machine
end

