-- ==== Sys2Proof/Machine/BringUpCmds.lean ====
section
/-! DEFINITION. Commands of bring-up and of power (15, 17 R639, 18 R649): the meaning of each. -/

namespace Sys2Proof.Machine

/-- MGMT_POWER_ON. The management domain powers on through input B or A, the other input in its window or not (12 R484, 15 R560). -/
def execMgmtPowerOn (b other : Bool) (f : BootFind) (s : State) : Host.Outcome State Fault Refusal :=
  .next { mgmtPowerOn b other f s with pending := s.pending }

/-- RESET_N. The RESET_N land resets the device as at power-on (17 R639). -/
def execResetN (f : BootFind) (s : State) : Host.Outcome State Fault Refusal :=
  run (resetN f) s

/-- REFCLK_PRESENT. REFCLK_RACK first appears after step 3 (15 R560, R567). -/
def execRefclkPresent (s : State) : Host.Outcome State Fault Refusal :=
  run refclkPresent s

/-- RAIL_POWER_GOOD. The enabled core rail reports power-good and the next is enabled (18 R649). -/
def execRailPowerGood (s : State) : Host.Outcome State Fault Refusal :=
  run railPowerGood s

/-- RAIL_PG_TIMEOUT. The enabled core rail reports no power-good within its bound (15 R568). -/
def execRailPgTimeout (s : State) : Host.Outcome State Fault Refusal :=
  run railPgTimeout s

/-- BRINGUP_BRANCHES_START. Steps 6–8 end with what the self-tests find, and both branches start (15 R561, R569). -/
def execBringupBranchesStart (t : SelfTest) (s : State) : Host.Outcome State Fault Refusal :=
  run (bringupBranchesStart t) s

/-- STACK_TRAINING_REPAIR_DONE. A stack finishes training and hard repair (15 R571); CD0's memory may now carry the Summit role (15 R572). -/
def execStackTrainingRepairDone (c : CDie) (k : Fin 3) (r : StackTrained) (s : State) : Host.Outcome State Fault Refusal :=
  run (fun s => (stackTrainingDone c k r.pass r.fixed s).smtWake) s

/-- STACK_TEST_DONE. A stack's memory test completes, with the rows it remaps (06 R259, R263); CD0's memory may now carry the Summit role (15 R572). -/
def execStackTestDone (c : CDie) (k : Fin 3) (pass : Bool) (rows : List (Fin 12 × BitVec 22)) (s : State) : Host.Outcome State Fault Refusal :=
  run (fun s => (stackTestDone c k pass rows s).smtWake) s

/-- BOARD_PRES_CONFIRM. Board-unified presentation is confirmed or falls back (15 R570). -/
def execBoardPresConfirm (s : State) : Host.Outcome State Fault Refusal :=
  run boardPresConfirm s

end Sys2Proof.Machine
end

