-- ==== Sys2Proof/Machine/QueueCmds.lean ====
section
/-! DEFINITION. Commands of the queues and of the Massif array (03, 04, 05 R194–R204): the meaning of each. -/

namespace Sys2Proof.Machine

/-- DOORBELL. A doorbell with a new TAIL (05 R197). -/
def execDoorbell (src : DoorSrc) (q : QRef) (t : BitVec 24) (s : State) : Host.Outcome State Fault Refusal :=
  run (doorbellRow src q (t.setWidth 32)) s

/-- DOORBELL_GATED. A GATED doorbell (05 R198). -/
def execDoorbellGated (src : DoorSrc) (q : QRef) (t : BitVec 24) (s : State) : Host.Outcome State Fault Refusal :=
  run (doorbellRow src q (t.setWidth 32 ||| 0x1000000)) s

/-- DOORBELL_FLUSH. A FLUSH doorbell (05 R200). -/
def execDoorbellFlush (src : DoorSrc) (q : QRef) (s : State) : Host.Outcome State Fault Refusal :=
  run (doorbellRow src q 0x80000000) s

/-- DESCRIPTOR_FETCH. The queue engine fetches and checks a released entry (01 R35, 05 R202). -/
def execDescriptorFetch (q : QRef) (o : Obs) (s : State) : Host.Outcome State Fault Refusal :=
  run (descriptorFetch q o) s

/-- GATE_TIMEOUT. A gate stays closed for its GATE_TO period (05 R199). -/
def execGateTimeout (q : QRef) (s : State) : Host.Outcome State Fault Refusal :=
  run (gateTimeout q) s

/-- SWEEP_SELECT. The arbiter selects the next sweep at a boundary (03 R133). -/
def execSweepSelect (c : CDie) (s : State) : Host.Outcome State Fault Refusal :=
  run (sweepSelect c) s

/-- SWITCH_COMPLETE. A context switch ends (03 R135). -/
def execSwitchComplete (c : CDie) (s : State) : Host.Outcome State Fault Refusal :=
  run (switchComplete c) s

/-- TILE_LOAD_DONE. A tile has loaded; `cells`: cells that store another code than they were sent (03 R110, R127). -/
def execTileLoadDone (c : CDie) (u : LoadUpset) (o : Obs) (s : State) : Host.Outcome State Fault Refusal :=
  run (tileLoadDone c u.cells u.tie o) s

/-- SWEEP_PASS_END. A pass ends and its checks are made; `u`: the physical faults of its products and entries (03 R126, R128, R129). -/
def execSweepPassEnd (c : CDie) (prods : List ProdUpset) (accs : List AccUpset) (tie : Bool) (o : Obs) (s : State) : Host.Outcome State Fault Refusal :=
  run (sweepPassEnd c ⟨prods, accs⟩ tie o) s

/-- SWEEP_LAST_ROW. The last row of a sweep enters the array (03 R114). -/
def execSweepLastRow (c : CDie) (s : State) : Host.Outcome State Fault Refusal :=
  run (sweepLastRow c) s

/-- SWEEP_COMPLETE. A sweep's outputs are committed and it completes (01 R35, 03 R99–R102). -/
def execSweepComplete (c : CDie) (s : State) : Host.Outcome State Fault Refusal :=
  run (sweepComplete c) s

/-- SWEEP_LIMIT. A sweep reaches its limit (03 R137). -/
def execSweepLimit (c : CDie) (s : State) : Host.Outcome State Fault Refusal :=
  run (sweepLimit c) s

/-- ABORT_COMPLETE. An abort has cleared the array (03 R136). -/
def execAbortComplete (c : CDie) (s : State) : Host.Outcome State Fault Refusal :=
  run (abortComplete c) s

/-- TRN_ZERO_GO. A write of TRN_ZERO_CTRL (03 R95, R143, R144). -/
def execTrnZeroGo (c : CDie) (v : Word) (s : State) : Host.Outcome State Fault Refusal :=
  run (trnZeroGo c v) s

/-- TRN_ZERO_DONE. A Tarn zeroing order completes (03 R143). -/
def execTrnZeroDone (c : CDie) (s : State) : Host.Outcome State Fault Refusal :=
  run (trnZeroDone c) s

/-- TRN_PART_WRITE. A write of a partition's Tarn allocation (03 R144). -/
def execTrnPartWrite (c : CDie) (p : Part) (v : Word) (s : State) : Host.Outcome State Fault Refusal :=
  run (trnPartWrite c p v) s

end Sys2Proof.Machine
end

