-- ==== Sys2Proof/Machine/CoreCmds.lean ====
section
/-! DEFINITION. Commands of the vector cores (05 R185–R193, R205–R207): the meaning of each. -/

namespace Sys2Proof.Machine

/-- DISPATCH_START. A vector dispatch starts its cores (05 R206). -/
def execDispatchStart (c : CDie) (s : State) : Host.Outcome State Fault Refusal :=
  run (dispatchStart c) s

/-- ECALL_EXIT. The EXIT monitor service (05 R186). -/
def execEcallExit (c : CDie) (k : Fin 32) (pre : List CoreWrite) (s : State) : Host.Outcome State Fault Refusal :=
  run (ecallExit c k pre) s

/-- ECALL_SIGNAL. The SIGNAL monitor service (05 R186). -/
def execEcallSignal (c : CDie) (k : Fin 32) (pre : List CoreWrite) (s : State) : Host.Outcome State Fault Refusal :=
  run (ecallSignal c k pre) s

/-- CORE_TRAP. A core traps (05 R190). -/
def execCoreTrap (c : CDie) (k : Fin 32) (pre : List CoreWrite) (t : TrapWhy) (o : Obs) (s : State) : Host.Outcome State Fault Refusal :=
  run (coreTrap c k pre t o) s

/-- DISPATCH_COMPLETE. A dispatch whose cores have all stopped completes (05 R207). -/
def execDispatchComplete (c : CDie) (s : State) : Host.Outcome State Fault Refusal :=
  run (dispatchComplete c) s

/-- DISPATCH_LIMIT. A core exceeds the dispatch LIMIT (05 R206). -/
def execDispatchLimit (c : CDie) (k : Fin 32) (s : State) : Host.Outcome State Fault Refusal :=
  run (dispatchLimit c k) s

/-- VSLY_ADDA128. vsly.adda128 (05 R191, 02 R57). -/
def execVslyAdda128 (c : CDie) (k : Fin 32) (pre : List CoreWrite) (vd vs1 vs2 : Fin 32) (s : State) : Host.Outcome State Fault Refusal :=
  .next (s.act fun s => s.vsly c k pre (fun x s => adda128 x vd vs1 vs2 s))

/-- VSLY_ADDA64. vsly.adda64 (05 R191, 02 R56). -/
def execVslyAdda64 (c : CDie) (k : Fin 32) (pre : List CoreWrite) (vd vs1 vs2 : Fin 32) (s : State) : Host.Outcome State Fault Refusal :=
  .next (s.act fun s => s.vsly c k pre (fun x s => adda64 x vd vs1 vs2 s))

/-- VSLY_CVT. vsly.cvt (05 R191). -/
def execVslyCvt (c : CDie) (k : Fin 32) (pre : List CoreWrite) (vd vs1 vs2 : Fin 32) (s : State) : Host.Outcome State Fault Refusal :=
  .next (s.act fun s => s.vsly c k pre (fun x s => vslyConvert x vd vs1 vs2 s))

/-- VSLY_UNPACK. vsly.unpack (05 R191). -/
def execVslyUnpack (c : CDie) (k : Fin 32) (pre : List CoreWrite) (vd vs1 vs2 : Fin 32) (s : State) : Host.Outcome State Fault Refusal :=
  .next (s.act fun s => s.vsly c k pre (fun x s => Sys2Proof.Machine.vslyUnpack x vd vs1 vs2 s))

/-- CORE_FENCE. A FENCE with W in its predecessor set (05 R188). -/
def execCoreFence (c : CDie) (k : Fin 32) (pre : List CoreWrite) (s : State) : Host.Outcome State Fault Refusal :=
  run (coreFence c k pre) s

/-- CORE_REMOTE_ACCESS. A load, store or AMO to another die or package (06 R236). -/
def execCoreRemoteAccess (c : CDie) (k : Fin 32) (pre : List CoreWrite) (a : CoreTry) (s : State) : Host.Outcome State Fault Refusal :=
  run (coreRemoteAccess c k pre a.op a.o) s

end Sys2Proof.Machine
end

