-- ==== Sys2Proof/Machine/DmaCmds.lean ====
section
/-! DEFINITION. Commands of the DMA engines and of the end-to-end transport (05 R208–R217, 08 R337–R348): the meaning of each. -/

namespace Sys2Proof.Machine

/-- DMA_COPY. An engine takes a COPY (05 R211). -/
def execDmaCopy (c : CDie) (o : Obs) (s : State) : Host.Outcome State Fault Refusal :=
  run (dmaCopy c o) s

/-- DMA_GET. An engine takes a GET (05 R213). -/
def execDmaGet (c : CDie) (s : State) : Host.Outcome State Fault Refusal :=
  run (dmaGet c) s

/-- DMA_FANOUT. An engine takes a FANOUT (05 R214). -/
def execDmaFanout (c : CDie) (o : Obs) (s : State) : Host.Outcome State Fault Refusal :=
  run (dmaFanout c o) s

/-- DMA_SIGNAL. An engine takes a SIGNAL descriptor (05 R210). -/
def execDmaSignal (c : CDie) (s : State) : Host.Outcome State Fault Refusal :=
  run (dmaSignal c) s

/-- CAIRN_CFG. An engine takes a CAIRN_CFG (05 R222). -/
def execCairnCfg (c : CDie) (s : State) : Host.Outcome State Fault Refusal :=
  run (cairnCfg c) s

/-- DMA_COMPLETE. A transfer whose packets are all over completes (05 R215). -/
def execDmaComplete (c : CDie) (s : State) : Host.Outcome State Fault Refusal :=
  run (dmaComplete c) s

/-- REQUEST_TIMEOUT. A request's completion timeout (08 R340). -/
def execRequestTimeout (c : CDie) (xid : BitVec 32) (seq : BitVec 16) (s : State) : Host.Outcome State Fault Refusal :=
  .next (s.act fun s => s.requestTimeout c xid seq)

/-- ACK_RECEIVE. An ACK arrives (08 R338). -/
def execAckReceive (c : CDie) (p : Packet) (s : State) : Host.Outcome State Fault Refusal :=
  .next (s.act fun s => s.ackReceive c p)

/-- READ_DATA_RECEIVE. READ_DATA arrives (08 R339). -/
def execReadDataReceive (c : CDie) (p : Packet) (o : Obs) (s : State) : Host.Outcome State Fault Refusal :=
  .next (s.act fun s => s.readData c p o)

/-- READ_ERR_RECEIVE. READ_ERR arrives (08 R312). -/
def execReadErrReceive (c : CDie) (p : Packet) (s : State) : Host.Outcome State Fault Refusal :=
  .next (s.act fun s => s.readErr c p)

/-- AMO_RESP_RECEIVE. AMO_RESP arrives (08 R312). -/
def execAmoRespReceive (c : CDie) (p : Packet) (s : State) : Host.Outcome State Fault Refusal :=
  .next (s.act fun s => s.amoResp c p)

/-- WINDOW_RELEASE. A window with nothing outstanding is released (08 R337). -/
def execWindowRelease (c : CDie) (dest : BitVec 24) (s : State) : Host.Outcome State Fault Refusal :=
  run (windowRelease c dest) s

/-- CC_PERIOD. The end of a rate period (08 R346). -/
def execCcPeriod (c : CDie) (dest : BitVec 24) (s : State) : Host.Outcome State Fault Refusal :=
  run (ccPeriod c dest) s

end Sys2Proof.Machine
end

