-- ==== Sys2Proof/Machine/CairnCmds.lean ====
section
/-! DEFINITION. Commands of the cairns and of memory (05 R218–R226, 06): the meaning of each. -/

namespace Sys2Proof.Machine

/-- CAIRN_SIGNAL. A SIGNAL arrives at a cairn unit (05 R219). -/
def execCairnSignal (c : CDie) (p : Packet) (s : State) : Host.Outcome State Fault Refusal :=
  run (cairnSignal c p) s

/-- CAIRN_ABORT. A CAIRN_ABORT arrives (05 R219). -/
def execCairnAbort (c : CDie) (p : Packet) (s : State) : Host.Outcome State Fault Refusal :=
  run (cairnAbort c p) s

/-- CRN_INSP_SEL_WRITE. A write of CRN_INSP_SEL (05 R226). -/
def execCrnInspSelWrite (c : CDie) (v : Word) (s : State) : Host.Outcome State Fault Refusal :=
  run (crnInspSelWrite c v) s

/-- CRN_TRK_SEL_WRITE. A write of CRN_TRK_SEL (05 R226). -/
def execCrnTrkSelWrite (c : CDie) (v : Word) (s : State) : Host.Outcome State Fault Refusal :=
  run (crnTrkSelWrite c v) s

/-- CRN_PART_WRITE. A write of a partition's cairn range (05 R226). -/
def execCrnPartWrite (c : CDie) (p : Part) (v : Word) (s : State) : Host.Outcome State Fault Refusal :=
  run (crnPartWrite c p v) s

/-- MEM_WRITE. A WRITE at the memory controller (08 R312, R338). -/
def execMemWrite (c : CDie) (p : Packet) (o : Obs) (s : State) : Host.Outcome State Fault Refusal :=
  run (memWrite c p o) s

/-- MEM_WRITE_MASKED. A WRITE_MASKED at the memory controller (06 R247). -/
def execMemWriteMasked (c : CDie) (p : Packet) (o : Obs) (s : State) : Host.Outcome State Fault Refusal :=
  run (memWriteMasked c p o) s

/-- MEM_READ. A READ at the memory controller (06 R246). -/
def execMemRead (c : CDie) (p : Packet) (o : Obs) (s : State) : Host.Outcome State Fault Refusal :=
  run (memRead c p o) s

/-- MEM_AMO. An AMO at the memory controller (06 R239). -/
def execMemAmo (c : CDie) (p : Packet) (o : Obs) (s : State) : Host.Outcome State Fault Refusal :=
  run (memAmo c p o) s

/-- REFRESH_POLL. Each stack's refresh-rate indication and temperature (06 R251, R252). -/
def execRefreshPoll (c : CDie) (rd : List (BitVec 3 × BitVec 8)) (s : State) : Host.Outcome State Fault Refusal :=
  run (refreshPoll c rd) s

/-- PATROL_READ. A patrol read and what it finds (06 R253). -/
def execPatrolRead (c : CDie) (p : PatrolFind) (s : State) : Host.Outcome State Fault Refusal :=
  run (patrolRead c p.sec.val p.err) s

/-- MEM_ZERO_GO. A write of MEM_ZERO_CTRL (06 R255). -/
def execMemZeroGo (c : CDie) (v : Word) (s : State) : Host.Outcome State Fault Refusal :=
  run (memZeroGo c v) s

/-- MEM_ZERO_DONE. A zeroing order completes (06 R255). -/
def execMemZeroDone (c : CDie) (s : State) : Host.Outcome State Fault Refusal :=
  run (memZeroDone c) s

/-- MEM_RANGE_WRITE. A write of a partition range (06 R243). -/
def execMemRangeWrite (c : CDie) (p : Part) (r : Fin 4) (v : Word) (s : State) : Host.Outcome State Fault Refusal :=
  run (memRangeWrite c p r v) s

/-- STACK_FAIL. A stack fails in service (06 R260). -/
def execStackFail (c : CDie) (k : Fin 3) (s : State) : Host.Outcome State Fault Refusal :=
  run (stackFail c k) s

end Sys2Proof.Machine
end

