-- ==== Sys2Proof/Machine/PortCmds.lean ====
section
/-! DEFINITION. Commands of the ports, lanes, links and routers (07, 08 R317–R336, 10 R386): the meaning of each. -/

namespace Sys2Proof.Machine

/-- SIGNAL_DETECT. Signal on every lane (07 R283). -/
def execSignalDetect (f : SignalFind) (s : State) : Host.Outcome State Fault Refusal :=
  run (signalDetect f.port f.power) s

/-- TRAINING_WORD. A training word is received (07 R285). -/
def execTrainingWord (q : Port) (lane : Fin 8) (w : TrainWord) (limit refused : Bool) (s : State) : Host.Outcome State Fault Refusal :=
  run (trainingWord q lane w limit refused) s

/-- TRAIN_COMPLETE. Every lane has locked (07 R283). -/
def execTrainComplete (q : Port) (presets : List (Fin 8)) (s : State) : Host.Outcome State Fault Refusal :=
  run (trainComplete q presets) s

/-- ALIGN_COMPLETE. Alignment and deskew complete; each lane's physical lane and polarity (07 R286). -/
def execAlignComplete (q : Port) (lanes : List (Fin 8 × Bool)) (s : State) : Host.Outcome State Fault Refusal :=
  run (alignComplete q lanes) s

/-- TRAIN_ATTEMPT_TIMEOUT. An attempt exceeds its bound (07 R283). -/
def execTrainAttemptTimeout (q : Port) (s : State) : Host.Outcome State Fault Refusal :=
  run (trainAttemptTimeout q) s

/-- QUAL_DWELL_END. The dwell ends (07 R287). -/
def execQualDwellEnd (q : Port) (more : List LaneFec) (s : State) : Host.Outcome State Fault Refusal :=
  run (qualDwellEnd q more) s

/-- QUAL_RESULT_TIMEOUT. No partner result within 100 ms (07 R287). -/
def execQualResultTimeout (q : Port) (s : State) : Host.Outcome State Fault Refusal :=
  run (qualResultTimeout q) s

/-- FRAME_RECEIVE. A link frame is received (07 R277). -/
def execFrameReceive (q : Port) (f : RxFrame) (s : State) : Host.Outcome State Fault Refusal :=
  run (frameReceive q f) s

/-- FRAME_TRANSMIT. A link frame is sent (07 R276). -/
def execFrameTransmit (q : Port) (s : State) : Host.Outcome State Fault Refusal :=
  run (frameTransmit q) s

/-- IDENT. An IDENT record is received (07 R293). -/
def execIdent (q : Port) (x : Ident) (s : State) : Host.Outcome State Fault Refusal :=
  run (identReceive q x) s

/-- KEY_READY. A KEY_READY record (07 R279). -/
def execKeyReady (q : Port) (slot : Fin 2) (s : State) : Host.Outcome State Fault Refusal :=
  run (keyReady q slot) s

/-- KEY_ACK. A KEY_ACK record (07 R280). -/
def execKeyAck (q : Port) (slot : Fin 2) (s : State) : Host.Outcome State Fault Refusal :=
  run (keyAck q slot) s

/-- QUAL_RESULT. The partner's QUAL_RESULT record (07 R287). -/
def execQualResult (q : Port) (pass : Bool) (s : State) : Host.Outcome State Fault Refusal :=
  run (qualResult q pass) s

/-- IDENT_SEND. The timer sends an IDENT record (07 R293). -/
def execIdentSend (q : Port) (s : State) : Host.Outcome State Fault Refusal :=
  run (identSend q) s

/-- LINK_RECORD_REPEAT. Records are sent again (07 R293). -/
def execLinkRecordRepeat (q : Port) (s : State) : Host.Outcome State Fault Refusal :=
  run (linkRecordRepeat q) s

/-- LANE_LOSS_OF_LOCK. A lane loses lock (07 R288). -/
def execLaneLossOfLock (q : Port) (lane : Fin 8) (s : State) : Host.Outcome State Fault Refusal :=
  run (laneLossOfLock q lane) s

/-- LASER_LOSS. The laser input falls below its threshold (07 R288, R295). -/
def execLaserLoss (j : OptPort) (f : LaserFind) (s : State) : Host.Outcome State Fault Refusal :=
  run (laserLoss j f.supply f.rx) s

/-- LASER_OK_CHANGE. The laser input crosses +15 dBm (07 R295). -/
def execLaserOkChange (j : OptPort) (f : LaserFind) (s : State) : Host.Outcome State Fault Refusal :=
  run (laserOkChange j f.supply f.rx) s

/-- LANE_BER_WINDOW. A 1 s window of the lanes' corrected bits ends (07 R289). -/
def execLaneBerWindow (q : Port) (more : List LaneFec) (s : State) : Host.Outcome State Fault Refusal :=
  run (laneBerWindow q more) s

/-- TRAIN. TRAIN (07 R283, 10 R386). -/
def execTrain (src : CmdSrc) (s : State) : Host.Outcome State Fault Refusal :=
  run (portCmd .train src) s

/-- DISABLE. DISABLE (07 R283, 10 R386). -/
def execDisable (src : CmdSrc) (s : State) : Host.Outcome State Fault Refusal :=
  run (portCmd .disable src) s

/-- ADMIT. ADMIT (10 R386). -/
def execAdmitPort (src : CmdSrc) (s : State) : Host.Outcome State Fault Refusal :=
  run (portCmd .admitPort src) s

/-- QUARANTINE. QUARANTINE (10 R386). -/
def execQuarantine (src : CmdSrc) (s : State) : Host.Outcome State Fault Refusal :=
  run (portCmd .quarantine src) s

/-- RELEASE. RELEASE (10 R386). -/
def execRelease (src : CmdSrc) (s : State) : Host.Outcome State Fault Refusal :=
  run (portCmd .release src) s

/-- MEMBER_ON. MEMBER_ON (10 R386). -/
def execMemberOn (m : MgtIn) (s : State) : Host.Outcome State Fault Refusal :=
  run (portCmd .memberOn (.agent m)) s

/-- MEMBER_OFF. MEMBER_OFF (10 R386). -/
def execMemberOff (m : MgtIn) (s : State) : Host.Outcome State Fault Refusal :=
  run (portCmd .memberOff (.agent m)) s

/-- DARK_ON. DARK_ON (10 R386). -/
def execDarkOn (m : MgtIn) (s : State) : Host.Outcome State Fault Refusal :=
  run (portCmd .darkOn (.agent m)) s

/-- DARK_OFF. DARK_OFF (10 R386). -/
def execDarkOff (m : MgtIn) (s : State) : Host.Outcome State Fault Refusal :=
  run (portCmd .darkOff (.agent m)) s

/-- ENGINE_TEMP. An optical engine's temperature crosses a limit (12 R477). -/
def execEngineTemp (j : OptPort) (t : BitVec 8) (s : State) : Host.Outcome State Fault Refusal :=
  run (engineTemp j t) s

/-- D2D_FLIT_RECEIVE. A die-to-die flit is received and checked (07 R299). -/
def execD2dFlitReceive (p : Page) (f : D2dFlit) (s : State) : Host.Outcome State Fault Refusal :=
  run (d2dFlitReceive p f.crcOk f.data) s

/-- D2D_PORT_FAIL. A die-to-die port fails (07 R299). -/
def execD2dPortFail (p : Page) (inSwitch : Bool) (s : State) : Host.Outcome State Fault Refusal :=
  run (d2dPortFail p inSwitch) s

/-- PACKET_FORWARD. A routed packet arrives at a die's router (08 R321). -/
def execPacketForward (d : Die) (came : Came) (p : Packet) (s : State) : Host.Outcome State Fault Refusal :=
  run (packetForward d came p) s

/-- DIRECTED_FORWARD. A directed packet arrives at a die's router (08 R331). -/
def execDirectedForward (d : Die) (came : Came) (p : Packet) (s : State) : Host.Outcome State Fault Refusal :=
  run (directedForward d came p) s

/-- PACKET_LIFETIME_EXPIRE. The n-th packet held has waited 2 µs (08 R335). -/
def execPacketLifetimeExpire (n : Nat) (s : State) : Host.Outcome State Fault Refusal :=
  run (packetLifetimeExpire n) s

/-- LINK_CREDIT. A LINK_CREDIT packet arrives (08 R319). -/
def execLinkCredit (q : Port) (p : Packet) (s : State) : Host.Outcome State Fault Refusal :=
  run (linkCredit q p) s

/-- LINK_CREDIT_SEND. LINK_CREDIT is sent (08 R319). -/
def execLinkCreditSend (q : Port) (s : State) : Host.Outcome State Fault Refusal :=
  run (linkCreditSend q) s

end Sys2Proof.Machine
end

