-- ==== Sys2Proof/Machine/AgentCmds.lean ====
section
/-! DEFINITION. Commands of the fabric agent (10): the meaning of each. -/

namespace Sys2Proof.Machine

/-- IDENTIFY. IDENTIFY (10 R383). -/
def execIdentify (m : MgtIn) (s : State) : Host.Outcome State Fault Refusal :=
  run (identify m) s

/-- PORT_LIST. PORT_LIST (10 R384). -/
def execPortList (m : MgtIn) (s : State) : Host.Outcome State Fault Refusal :=
  run (portList m) s

/-- SESSION_OPEN. SESSION_OPEN (10 R376, 14 R541). -/
def execSessionOpen (m : MgtIn) (s : State) : Host.Outcome State Fault Refusal :=
  run (sessionOpen m) s

/-- SESSION_CLOSE. SESSION_CLOSE (10 R381). -/
def execSessionClose (m : MgtIn) (s : State) : Host.Outcome State Fault Refusal :=
  run (sessionClose m) s

/-- COORD_SET. COORD_SET (10 R385). -/
def execCoordSet (m : MgtIn) (s : State) : Host.Outcome State Fault Refusal :=
  run (coordSet m) s

/-- PORT_ATTR. PORT_ATTR (10 R382). -/
def execPortAttr (m : MgtIn) (s : State) : Host.Outcome State Fault Refusal :=
  run (portAttr m) s

/-- TABLE_WRITE. TABLE_WRITE (10 R387). -/
def execTableWrite (m : MgtIn) (s : State) : Host.Outcome State Fault Refusal :=
  run (tableWrite m) s

/-- TABLE_COMMIT. TABLE_COMMIT (10 R388). -/
def execTableCommit (m : MgtIn) (s : State) : Host.Outcome State Fault Refusal :=
  run (tableCommit m) s

/-- EPOCH_SET. EPOCH_SET (10 R390). -/
def execEpochSet (m : MgtIn) (s : State) : Host.Outcome State Fault Refusal :=
  run (epochSet m) s

/-- INFLIGHT_READ. INFLIGHT_READ (10 R391). -/
def execInflightRead (m : MgtIn) (s : State) : Host.Outcome State Fault Refusal :=
  run (inflightRead m) s

/-- KEY_LOAD. KEY_LOAD; `blobOk`: the blob's tag verifies (10 R392). -/
def execKeyLoad (m : MgtIn) (blobOk : Bool) (s : State) : Host.Outcome State Fault Refusal :=
  run (keyLoad m blobOk) s

/-- KEY_CLEAR. KEY_CLEAR (10 R393). -/
def execKeyClear (m : MgtIn) (s : State) : Host.Outcome State Fault Refusal :=
  run (keyClear m) s

/-- KEY_SWITCH. KEY_SWITCH (10 R393). -/
def execKeySwitch (m : MgtIn) (s : State) : Host.Outcome State Fault Refusal :=
  run (keySwitch m) s

/-- TELE_READ. TELE_READ (10 R396). -/
def execTeleRead (m : MgtIn) (s : State) : Host.Outcome State Fault Refusal :=
  run (teleRead m) s

/-- TELE_CLEAR. TELE_CLEAR (10 R396). -/
def execTeleClear (m : MgtIn) (s : State) : Host.Outcome State Fault Refusal :=
  run (teleClear m) s

/-- MC_COMMAND. MC_COMMAND (10 R381, R399). -/
def execMcCommand (m : MgtIn) (s : State) : Host.Outcome State Fault Refusal :=
  run (mcCommand m) s

/-- EVENT. An EVENT reaches the manager, or its answer the agent (10 R397, R398). -/
def execEvent (x : EventIn) (s : State) : Host.Outcome State Fault Refusal :=
  run (event x) s

/-- EVENT_RESEND. The resend period of an agent's oldest event (10 R398). -/
def execEventResend (k : PDie) (s : State) : Host.Outcome State Fault Refusal :=
  run (eventResend k) s

/-- TELE_SAMPLE. A sample of a port's waiting flits (10 R395). -/
def execTeleSample (q : Port) (s : State) : Host.Outcome State Fault Refusal :=
  run (teleSample q) s

/-- MGT_REQUEST_RETRY. A request goes unanswered for 1 ms (10 R400). -/
def execMgtRequestRetry (x : RetryOf) (s : State) : Host.Outcome State Fault Refusal :=
  run (mgtRequestRetry x) s

end Sys2Proof.Machine
end

