-- ==== Sys2Proof/Machine/SummitCmds.lean ====
section
/-! DEFINITION. Commands of the Summit manager (11, 12 R480–R482, 17 R636): the meaning of each. -/

namespace Sys2Proof.Machine

/-- PAIR_OPEN. PAIR_OPEN (11 R444). -/
def execPairOpen (m : MgtIn) (s : State) : Host.Outcome State Fault Refusal :=
  run (pairOpen m) s

/-- HEARTBEAT. HEARTBEAT (11 R447). -/
def execHeartbeat (m : MgtIn) (s : State) : Host.Outcome State Fault Refusal :=
  run (heartbeat m) s

/-- MIRROR. MIRROR, with the records of its payload (11 R443). -/
def execMirror (m : MgtIn) (recs : List MirRec) (s : State) : Host.Outcome State Fault Refusal :=
  run (mirror m recs) s

/-- SYNC_READ. SYNC_READ (11 R444). -/
def execSyncRead (m : MgtIn) (s : State) : Host.Outcome State Fault Refusal :=
  run (syncRead m) s

/-- TERM_NOTICE. TERM_NOTICE (11 R446). -/
def execTermNotice (m : MgtIn) (s : State) : Host.Outcome State Fault Refusal :=
  run (termNotice m) s

/-- HEARTBEAT_PERIOD. The end of a heartbeat period (11 R447). -/
def execHeartbeatPeriod (s : State) : Host.Outcome State Fault Refusal :=
  run heartbeatPeriod s

/-- SMT_EN. A write of SMT_CTRL (11 R414). -/
def execSmtEn (v : Word) (s : State) : Host.Outcome State Fault Refusal :=
  run (smtEn v) s

/-- PAIR_WAIT_EXPIRE. PAIR_WAIT passes (11 R414). -/
def execPairWaitExpire (s : State) : Host.Outcome State Fault Refusal :=
  run pairWaitExpire s

/-- DISCOVERY_POLL. The 100 ms poll (11 R415). -/
def execDiscoveryPoll (s : State) : Host.Outcome State Fault Refusal :=
  run discoveryPoll s

/-- EXPLORE_END. Exploration ends, `settled`: SETTLE has passed unchanged (11 R415). -/
def execExploreEnd (settled : Bool) (s : State) : Host.Outcome State Fault Refusal :=
  run (exploreEnd settled) s

/-- MGR_CLAIM. MGR_CLAIM by its body (11 R445). -/
def execMgrClaim (b : List Byte) (s : State) : Host.Outcome State Fault Refusal :=
  run (mcRow (mgrClaim b)) s

/-- CLAIM_TIMEOUT. A claim is not granted in time (11 R445). -/
def execClaimTimeout (s : State) : Host.Outcome State Fault Refusal :=
  run claimTimeout s

/-- SMT_GEN_GO. A write of SMT_GEN (11 R426). -/
def execSmtGenGo (v : Word) (s : State) : Host.Outcome State Fault Refusal :=
  run (smtGenGo v) s

/-- ROUTE_GEN_DONE. A route generation completes (11 R426). -/
def execRouteGenDone (us : BitVec 32) (unreadable : Bool) (s : State) : Host.Outcome State Fault Refusal :=
  run (routeGenDone us unreadable) s

/-- ROUTE_CHANGE. The inactive epoch is reusable, and the change goes on (11 R427, R428). -/
def execRouteChange (s : State) : Host.Outcome State Fault Refusal :=
  run routeChange s

/-- KEY_ROTATION. A link direction's key is rotated (11 R419). -/
def execKeyRotation (ser : BitVec 128) (role port : Nat) (s : State) : Host.Outcome State Fault Refusal :=
  run (keyRotation ser role port) s

/-- PORT_RETRAIN. A planned-present port that failed is retrained (11 R421). -/
def execPortRetrain (ser : BitVec 128) (role port : Nat) (s : State) : Host.Outcome State Fault Refusal :=
  run (portRetrain ser role port) s

/-- SLICE_JOIN_TIMEOUT. Members fail to answer SLICE_JOIN (11 R434). -/
def execSliceJoinTimeout (id : Nat) (s : State) : Host.Outcome State Fault Refusal :=
  run (sliceJoinTimeout id) s

/-- WATERSHED_ROUND. A watershed round with its readings (12 R482). -/
def execWatershedRound (rounds : List WsRound) (s : State) : Host.Outcome State Fault Refusal :=
  run (watershedRound rounds) s

/-- CUBE_TIME_ALIGN. Racks are aligned to their parents (17 R636). -/
def execCubeTimeAlign (xs : List CubeXfer) (s : State) : Host.Outcome State Fault Refusal :=
  run (cubeTimeAlign xs) s

end Sys2Proof.Machine
end

