-- ==== Sys2Proof/Machine/OperatorCmds.lean ====
section
/-! DEFINITION. Operator commands at the primary (11 R438, 12 R479, R480, 14 R539, 15 R580, 17 R638, R639): the meaning of each. -/

namespace Sys2Proof.Machine

/-- SLICE_ALLOC. SLICE_ALLOC (11 R433). -/
def execSliceAlloc (h : OpHdr) (kind count a b cmask partIdx : Nat) (join : List Byte) (s : State) : Host.Outcome State Fault Refusal :=
  .next (s.act fun s => s.operator h (.sliceAlloc kind count a b cmask partIdx join))

/-- SLICE_FREE. SLICE_FREE (11 R434). -/
def execSliceFree (h : OpHdr) (id : Nat) (s : State) : Host.Outcome State Fault Refusal :=
  .next (s.act fun s => s.operator h (.sliceFree id))

/-- SHAPE_READ. SHAPE_READ (11 R438). -/
def execShapeRead (h : OpHdr) (cube : Nat) (s : State) : Host.Outcome State Fault Refusal :=
  .next (s.act fun s => s.operator h (.shapeRead cube))

/-- PLAN_UPDATE. PLAN_UPDATE (11 R412). -/
def execPlanUpdate (h : OpHdr) (image : List Byte) (sigOk : Bool) (s : State) : Host.Outcome State Fault Refusal :=
  .next (s.act fun s => s.operator h (.planUpdate image sigOk))

/-- READMIT. READMIT (11 R441). -/
def execReadmit (h : OpHdr) (co : BitVec 32) (s : State) : Host.Outcome State Fault Refusal :=
  .next (s.act fun s => s.operator h (.readmit co))

/-- LOG_READ. LOG_READ (11 R438). -/
def execLogRead (h : OpHdr) (seq : Nat) (s : State) : Host.Outcome State Fault Refusal :=
  .next (s.act fun s => s.operator h (.logRead seq))

/-- POWER_SET. POWER_SET (12 R479). -/
def execPowerSet (h : OpHdr) (co : BitVec 32) (slice : Nat) (body : List Byte) (s : State) : Host.Outcome State Fault Refusal :=
  .next (s.act fun s => s.operator h (.powerSet co slice body))

/-- WS_CONFIG. WS_CONFIG (12 R480). -/
def execWsConfig (h : OpHdr) (r : WsReq) (s : State) : Host.Outcome State Fault Refusal :=
  .next (s.act fun s => s.operator h (.wsConfig r))

/-- FW_DISTRIBUTE. FW_DISTRIBUTE (15 R582). -/
def execFwDistribute (h : OpHdr) (type : Nat) (t : TargetSet) (content : List Byte) (s : State) : Host.Outcome State Fault Refusal :=
  .next (s.act fun s => s.operator h (.fwDistribute type t content))

/-- FW_ACTIVATE. FW_ACTIVATE (15 R583). -/
def execFwActivate (h : OpHdr) (id : BitVec 32) (t : TargetSet) (flags : Byte) (s : State) : Host.Outcome State Fault Refusal :=
  .next (s.act fun s => s.operator h (.fwActivate id t flags))

/-- RIDGE_STOP. RIDGE_STOP (17 R638). -/
def execRidgeStop (h : OpHdr) (cube : Nat) (s : State) : Host.Outcome State Fault Refusal :=
  .next (s.act fun s => s.operator h (.ridgeStop cube))

/-- RIDGE_WAKE. RIDGE_WAKE (17 R638). -/
def execRidgeWake (h : OpHdr) (cube : Nat) (mask : BitVec 64) (s : State) : Host.Outcome State Fault Refusal :=
  .next (s.act fun s => s.operator h (.ridgeWake cube mask))

/-- DEVICE_RESET. DEVICE_RESET; `f`: what the reset finds when the package resets itself (17 R639). -/
def execDeviceReset (h : OpHdr) (co : BitVec 32) (f : BootFind) (s : State) : Host.Outcome State Fault Refusal :=
  run (operatorRow h (.deviceReset co) f) s

/-- OPCMD. A signed OPCMD frame of any code (14 R539, 16 R610). -/
def execOpcmd (h : OpHdr) (c : OpCmd) (f : BootFind) (s : State) : Host.Outcome State Fault Refusal :=
  run (operatorRow h c f) s

end Sys2Proof.Machine
end

