-- ==== Sys2Proof/Machine/MemberCmds.lean ====
section
/-! DEFINITION. Commands of the manager at a member's management complex (11 R436, 12 R478, R481, 14 R526, R527, 15 R580–R583, 17 R638): the meaning of each. -/

namespace Sys2Proof.Machine

/-- SLICE_JOIN. SLICE_JOIN (14 R526). -/
def execSliceJoin (b : List Byte) (s : State) : Host.Outcome State Fault Refusal :=
  run (mcRow (sliceJoin b)) s

/-- SLICE_LEAVE. SLICE_LEAVE (14 R527). -/
def execSliceLeave (b : List Byte) (s : State) : Host.Outcome State Fault Refusal :=
  run (mcRow (sliceLeave b)) s

/-- SLICE_STOP. SLICE_STOP (11 R435). -/
def execSliceStop (b : List Byte) (s : State) : Host.Outcome State Fault Refusal :=
  run (mcRow (sliceStop b)) s

/-- SLICE_QUERY. SLICE_QUERY (11 R436). -/
def execSliceQuery (s : State) : Host.Outcome State Fault Refusal :=
  run (mcRow sliceQuery) s

/-- READMIT_MC. READMIT (11 R436, R440). -/
def execReadmitMc (s : State) : Host.Outcome State Fault Refusal :=
  run (mcRow readmitMc) s

/-- PWR_SET. PWR_SET (12 R478). -/
def execPwrSet (b : List Byte) (s : State) : Host.Outcome State Fault Refusal :=
  run (mcRow (pwrSet b)) s

/-- WS_READ. WS_READ (12 R481). -/
def execWsRead (b : List Byte) (s : State) : Host.Outcome State Fault Refusal :=
  run (mcRow (wsRead b)) s

/-- DIST_OPEN. DIST_OPEN (15 R580). -/
def execDistOpen (b : List Byte) (s : State) : Host.Outcome State Fault Refusal :=
  run (mcRow (distOpen b)) s

/-- DIST_DATA. DIST_DATA (15 R581). -/
def execDistData (b : List Byte) (s : State) : Host.Outcome State Fault Refusal :=
  run (mcRow (distData b)) s

/-- DIST_STATUS. DIST_STATUS (15 R580). -/
def execDistStatus (b : List Byte) (s : State) : Host.Outcome State Fault Refusal :=
  run (mcRow (distStatus b)) s

/-- DIST_ACTIVATE. DIST_ACTIVATE (15 R583). -/
def execDistActivate (b : List Byte) (s : State) : Host.Outcome State Fault Refusal :=
  run (mcRow (distActivate b)) s

/-- DIST_ABORT. DIST_ABORT (15 R580). -/
def execDistAbort (b : List Byte) (s : State) : Host.Outcome State Fault Refusal :=
  run (mcRow (distAbort b)) s

/-- DIST_VERIFY_DONE. The verification of a received content ends (15 R581). -/
def execDistVerifyDone (f : DistFind) (s : State) : Host.Outcome State Fault Refusal :=
  run (distVerifyDone f) s

/-- SET_MASTER. TIM_CMD SET_MASTER (17 R638). -/
def execSetMaster (b : List Byte) (s : State) : Host.Outcome State Fault Refusal :=
  run (mcRow (timSetMaster b)) s

/-- READ_XFER. TIM_CMD READ_XFER (17 R638). -/
def execReadXfer (b : List Byte) (s : State) : Host.Outcome State Fault Refusal :=
  run (mcRow (timReadXfer b)) s

/-- TIM_ADJ. TIM_CMD TIM_ADJ (17 R636). -/
def execTimAdj (b : List Byte) (s : State) : Host.Outcome State Fault Refusal :=
  run (mcRow (timAdj b)) s

/-- TIM_STOP. TIM_CMD STOP (17 R638). -/
def execTimStop (b : List Byte) (s : State) : Host.Outcome State Fault Refusal :=
  run (mcRow (timStop b)) s

/-- TIM_WAKE. TIM_CMD WAKE (17 R638). -/
def execTimWake (b : List Byte) (s : State) : Host.Outcome State Fault Refusal :=
  run (mcRow (timWake b)) s

end Sys2Proof.Machine
end

