-- ==== Sys2Proof/Machine/PowerCmds.lean ====
section
/-! DEFINITION. Commands of power, voltage and temperature (12, 18): the meaning of each. -/

namespace Sys2Proof.Machine

/-- POWER_ESTIMATE. The 1 µs estimates of the dies and the uncore (12 R456). -/
def execPowerEstimate (raw : List (BitVec 16)) (uncore : BitVec 16) (s : State) : Host.Outcome State Fault Refusal :=
  run (powerEstimate raw uncore) s

/-- POWER_MEASURE. The 100 µs measurements (12 R458). -/
def execPowerMeasure (iout : List (BitVec 16)) (bad : BitVec 6) (temps : List (BitVec 8)) (s : State) : Host.Outcome State Fault Refusal :=
  run (powerMeasure iout bad temps) s

/-- CALIBRATION. The 10 ms fit (12 R459). -/
def execCalibration (s : State) : Host.Outcome State Fault Refusal :=
  run calibration s

/-- PKG_CAP_COMPARE. The 10 µs comparison with the cap (12 R461). -/
def execPkgCapCompare (s : State) : Host.Outcome State Fault Refusal :=
  run pkgCapCompare s

/-- LIMIT_LOOP. The 10 µs loop of a die at a temperature (12 R462). -/
def execLimitLoop (c : CDie) (t : BitVec 8) (stretched : Bool) (s : State) : Host.Outcome State Fault Refusal :=
  run (limitLoop c t stretched) s

/-- VOLTAGE_SETTLED. VDone (12 R454). -/
def execVoltageSettled (c : CDie) (s : State) : Host.Outcome State Fault Refusal :=
  run (voltageSettled c) s

/-- AVS_RETRY. 1 ms without VDone (18 R651). -/
def execAvsRetry (c : CDie) (s : State) : Host.Outcome State Fault Refusal :=
  run (avsRetry c) s

/-- DROOP_TRIP. A droop detector trips (12 R465). -/
def execDroopTrip (c : CDie) (det : Fin 8) (s : State) : Host.Outcome State Fault Refusal :=
  run (droopTrip c det) s

/-- DROOP_RELEASE. The droop is over (12 R466). -/
def execDroopRelease (c : CDie) (s : State) : Host.Outcome State Fault Refusal :=
  run (droopRelease c) s

/-- DEFERRAL_END. A deferred ACLK change takes effect (12 R467). -/
def execDeferralEnd (c : CDie) (s : State) : Host.Outcome State Fault Refusal :=
  run (deferralEnd c) s

/-- DROOP_LONG. A droop response lasts 1 ms (12 R468). -/
def execDroopLong (c : CDie) (s : State) : Host.Outcome State Fault Refusal :=
  run (droopLong c) s

/-- PD_OVER. A port die's estimate stays above its limit (12 R464). -/
def execPdOver (k : PDie) (s : State) : Host.Outcome State Fault Refusal :=
  run (pdOver k) s

/-- CAP_UNATTAINABLE. A limit or the cap is exceeded for 500 ms (12 R473). -/
def execCapUnattainable (c : Option CDie) (s : State) : Host.Outcome State Fault Refusal :=
  run (capUnattainable c) s

/-- THERMAL_TRIP. A sensor reaches 120 °C (12 R476). -/
def execThermalTrip (d : Die) (s : State) : Host.Outcome State Fault Refusal :=
  run (thermalTrip d) s

/-- MGMT_SUPPLY_SWITCHOVER. The switch selects the other management input (12 R484). -/
def execMgmtSupplySwitchover (s : State) : Host.Outcome State Fault Refusal :=
  run mgmtSupplySwitchover s

/-- MGMT_SUPPLY_LOSS. Both management inputs leave their windows (12 R485). -/
def execMgmtSupplyLoss (s : State) : Host.Outcome State Fault Refusal :=
  run mgmtSupplyLoss s

/-- VMG_INPUT_WINDOW_CHANGE. The other management input leaves or re-enters its window (12 R485). -/
def execVmgInputWindowChange (inWindow : Bool) (s : State) : Host.Outcome State Fault Refusal :=
  run (vmgInputWindowChange inWindow) s

/-- RAIL_LOST. A core rail is lost (12 R486). -/
def execRailLost (r : Rail) (s : State) : Host.Outcome State Fault Refusal :=
  run (railLost r) s

end Sys2Proof.Machine
end

