-- ==== Sys2Proof/Machine/FaultCmds.lean ====
section
/-! DEFINITION. Commands of the fault hub and of partitions (13, 14 R553): the meaning of each. -/

namespace Sys2Proof.Machine

/-- FLT_ACK. A write of FLT_ACK (13 R499). -/
def execFltAck (p : Page) (v : Word) (s : State) : Host.Outcome State Fault Refusal :=
  run (fltAck p v) s

/-- QUIET_EXPIRE. The quiet period of a record or a partition passes (13 R500, R505). -/
def execQuietExpire (q : QuietOf) (s : State) : Host.Outcome State Fault Refusal :=
  run (quietExpire q) s

/-- SCRUB_START. A fenced partition's scrub begins (13 R505). -/
def execScrubStart (p : Part) (s : State) : Host.Outcome State Fault Refusal :=
  run (scrubStart p) s

/-- SCRUB_COMPLETE. A scrub's last clearing completes (14 R553). -/
def execScrubComplete (p : Part) (s : State) : Host.Outcome State Fault Refusal :=
  run (scrubComplete p) s

/-- RECOVERY_START. The quiet period of the safe state passes, `active`: a C4 source is still active (13 R509). -/
def execRecoveryStart (active : Bool) (s : State) : Host.Outcome State Fault Refusal :=
  run (recoveryStart active) s

/-- RECOVERY_COMPLETE. The recovery sequence completes (13 R510). -/
def execRecoveryComplete (t : SelfTest) (s : State) : Host.Outcome State Fault Refusal :=
  run (recoveryComplete t) s

/-- WATCHDOG_EXPIRE. The watchdog period passes (13 R512). -/
def execWatchdogExpire (s : State) : Host.Outcome State Fault Refusal :=
  run watchdogExpire s

/-- WATCHDOG_KICK. A write of FLT_KICK (13 R512). -/
def execWatchdogKick (v : Word) (s : State) : Host.Outcome State Fault Refusal :=
  run (watchdogKick v) s

/-- LOG_POP. A write of FLT_LOG_POP (13 R520). -/
def execLogPop (v : Word) (s : State) : Host.Outcome State Fault Refusal :=
  run (logPop v) s

/-- INJ_CTRL_WRITE. A write of INJ_CTRL (13 R513). -/
def execInjCtrlWrite (p : Page) (v : Word) (s : State) : Host.Outcome State Fault Refusal :=
  run (injCtrlWrite p v) s

end Sys2Proof.Machine
end

