-- ==== Sys2Proof/Machine/MessageCmds.lean ====
section
/-! DEFINITION. Messages, debug and measurements (14 R533, R534, R546–R550, 16 R602–R606): the meaning of each. -/

namespace Sys2Proof.Machine

/-- WKEY_IMPORT. WKEY_IMPORT (14 R547). -/
def execWkeyImport (v : Via) (b : List Byte) (env : MsgEnv) (s : State) : Host.Outcome State Fault Refusal :=
  run (msgRow 0x12 v b env) s

/-- WIMPORT. WIMPORT (14 R548). -/
def execWimport (v : Via) (b : List Byte) (env : MsgEnv) (s : State) : Host.Outcome State Fault Refusal :=
  run (msgRow 0x13 v b env) s

/-- WKEY_RETIRE. WKEY_RETIRE (14 R547). -/
def execWkeyRetire (v : Via) (b : List Byte) (env : MsgEnv) (s : State) : Host.Outcome State Fault Refusal :=
  run (msgRow 0x14 v b env) s

/-- MDL_PLACE. MDL_PLACE (04 R182, R183), or the BOARD order of another member (log entry 82). -/
def execMdlPlace (v : Via) (b : List Byte) (env : MsgEnv) (s : State) : Host.Outcome State Fault Refusal :=
  run (fun s => match env.member with | some r => if s.mcReset then s else s.boardOrder r | none => msgRow 0x11 v b env s) s

/-- VF_INFO. VF_INFO (16 R606). -/
def execVfInfo (v : Via) (b : List Byte) (env : MsgEnv) (s : State) : Host.Outcome State Fault Refusal :=
  run (msgRow 0x10 v b env) s

/-- BOOT_STATUS. BOOT_STATUS (15 R575). -/
def execBootStatus (v : Via) (b : List Byte) (env : MsgEnv) (s : State) : Host.Outcome State Fault Refusal :=
  run (msgRow 0x01 v b env) s

/-- RCV_BEGIN. RCV_BEGIN (15 R566). -/
def execRcvBegin (v : Via) (b : List Byte) (env : MsgEnv) (s : State) : Host.Outcome State Fault Refusal :=
  run (msgRow 0x20 v b env) s

/-- RCV_DATA. RCV_DATA (15 R566). -/
def execRcvData (v : Via) (b : List Byte) (env : MsgEnv) (s : State) : Host.Outcome State Fault Refusal :=
  run (msgRow 0x21 v b env) s

/-- RCV_END. RCV_END (15 R566). -/
def execRcvEnd (v : Via) (b : List Byte) (env : MsgEnv) (s : State) : Host.Outcome State Fault Refusal :=
  run (msgRow 0x22 v b env) s

/-- DBG_CHALLENGE. DBG_CHALLENGE (14 R549). -/
def execDbgChallenge (v : Via) (b : List Byte) (env : MsgEnv) (s : State) : Host.Outcome State Fault Refusal :=
  run (msgRow 0x30 v b env) s

/-- DBG_TOKEN. DBG_TOKEN (14 R550). -/
def execDbgToken (v : Via) (b : List Byte) (env : MsgEnv) (s : State) : Host.Outcome State Fault Refusal :=
  run (msgRow 0x31 v b env) s

/-- SEC_DBG_NEW. SEC_DBG_CTRL.NEW (14 R549). -/
def execSecDbgNew (s : State) : Host.Outcome State Fault Refusal :=
  run secDbgNew s

/-- SEC_DBG_LOCK. SEC_DBG_CTRL.LOCK (14 R550). -/
def execSecDbgLock (s : State) : Host.Outcome State Fault Refusal :=
  run secDbgLock s

/-- GET_MEASUREMENTS. GET_MEASUREMENTS over MCTP or the DOE mailbox (14 R533, R534). -/
def execGetMeasurements (v : Via) (ix : BitVec 8) (nonce : BitVec 256) (signed : Bool) (s : State) : Host.Outcome State Fault Refusal :=
  run (spdmRow v (.measurements ix nonce signed)) s

end Sys2Proof.Machine
end

