-- ==== Sys2Proof/Machine/HostCmds.lean ====
section
/-! DEFINITION. Commands of the host, the side-band and the management network (16): the meaning of each. -/

namespace Sys2Proof.Machine

/-- BAR2_WRITE. A host write to a VF's BAR2 (16 R590). -/
def execBar2Write (p : Part) (a : BitVec 43) (bs : List Byte) (s : State) : Host.Outcome State Fault Refusal :=
  run (bar2Write p a bs) s

/-- BAR2_READ. A host read of a VF's BAR2 (16 R590, R592). -/
def execBar2Read (p : Part) (a : BitVec 43) (n : Fin 4097) (s : State) : Host.Outcome State Fault Refusal :=
  run (bar2Read p a n) s

/-- PERST_N. PERST_N, hot reset or link down (16 R596). -/
def execPerstN (s : State) : Host.Outcome State Fault Refusal :=
  run perstN s

/-- PF_FLR. An FLR of a PF (16 R596). -/
def execPfFlr (n : Fin 4) (s : State) : Host.Outcome State Fault Refusal :=
  run (pfFlr n) s

/-- VF_FLR. An FLR of a VF (16 R596). -/
def execVfFlr (p : Part) (s : State) : Host.Outcome State Fault Refusal :=
  run (vfFlr p) s

/-- MBX_H2D_SEND. The host posts a channel's H2D slot (16 R600). -/
def execMbxH2dSend (k : Fin 100) (s : State) : Host.Outcome State Fault Refusal :=
  run (h2dSendRow k) s

/-- MBX_D2H_SEND. The device posts a channel's D2H slot (16 R600). -/
def execMbxD2hSend (k : Fin 100) (s : State) : Host.Outcome State Fault Refusal :=
  run (mbxD2hSend k) s

/-- MBX_H2D_DONE. A read of H2D DONE from the device's side, or the host's (16 R600). -/
def execMbxH2dDone (host : Bool) (k : Fin 100) (env : MsgEnv) (s : State) : Host.Outcome State Fault Refusal :=
  run (mbxH2dDone host k env) s

/-- MBX_D2H_DONE. The host's read of D2H DONE (16 R600). -/
def execMbxD2hDone (k : Fin 100) (s : State) : Host.Outcome State Fault Refusal :=
  run (mbxD2hDone k) s

/-- RELAY. A RELAY frame or its answer (16 R598). -/
def execRelay (x : RelayIn) (s : State) : Host.Outcome State Fault Refusal :=
  run (relay x) s

/-- ANNOUNCE. The ANNOUNCE frame is broadcast (16 R610). -/
def execAnnounce (s : State) : Host.Outcome State Fault Refusal :=
  run State.announce s

/-- MGT_FRAME. An MGT frame (16 R610). -/
def execMgtFrame (x : MgtFrame) (s : State) : Host.Outcome State Fault Refusal :=
  run (mgtFrame x) s

/-- MCTP_PACKET. An MCTP message over the management network or I3C (16 R607). -/
def execMctpPacket (net : Bool) (src dst : BitVec 8) (m : MctpMsg) (env : MsgEnv) (s : State) : Host.Outcome State Fault Refusal :=
  run (mctpPacket net src dst m env) s

/-- PLDM_SENSOR_UPDATE. The 100 ms update of the PLDM sensors (16 R608). -/
def execPldmSensorUpdate (s : State) : Host.Outcome State Fault Refusal :=
  run pldmSensorUpdate s

/-- DOE_REQUEST. A DOE data object (16 R594). -/
def execDoeRequest (r : DoeReq) (s : State) : Host.Outcome State Fault Refusal :=
  run (doeRequest r) s

/-- I3C_ENTDAA. ENTDAA gives the target its address (16 R607). -/
def execI3cEntdaa (a : BitVec 7) (s : State) : Host.Outcome State Fault Refusal :=
  run (i3cEntdaa a) s

/-- PCIE_LINK_TRAINED. The PCIe link trains (15 R574). -/
def execPcieLinkTrained (rate : Fin 7) (width : Fin 3) (s : State) : Host.Outcome State Fault Refusal :=
  run (pcieLinkTrained rate width) s

end Sys2Proof.Machine
end

