-- ==== Sys2Proof/Machine/ClockCmds.lean ====
section
/-! DEFINITION. Commands of clocks, events, the ridge line and resets (17): the meaning of each. -/

namespace Sys2Proof.Machine

/-- REFCLK_LOSS. The reference is lost (17 R621). -/
def execRefclkLoss (s : State) : Host.Outcome State Fault Refusal :=
  run refclkLoss s

/-- REFCLK_RETURN. The reference returns (17 R621). -/
def execRefclkReturn (s : State) : Host.Outcome State Fault Refusal :=
  run refclkReturn s

/-- HOLDOVER_EXPIRED. Holdover passes 100 ms (17 R621). -/
def execHoldoverExpired (s : State) : Host.Outcome State Fault Refusal :=
  run holdoverExpired s

/-- PLL_UNLOCK. A die's root PLL loses lock (17 R641). -/
def execPllUnlock (d : Die) (s : State) : Host.Outcome State Fault Refusal :=
  run (pllUnlock d) s

/-- EVENT_LINE_CROSS. An event arrives on a line, `early`: before the one before it was taken (17 R623). -/
def execEventLineCross (p : Page) (j : Fin 32) (early : Bool) (s : State) : Host.Outcome State Fault Refusal :=
  run (eventLineCross p j early) s

/-- EVT_COUNT_TAKE. A write of EVT_COUNT (17 R624). -/
def execEvtCountTake (p : Page) (v : Word) (s : State) : Host.Outcome State Fault Refusal :=
  run (evtCountTake p v) s

/-- BLK_CTRL_WRITE. A write of BLK_CTRL (17 R625). -/
def execBlkCtrlWrite (p : Page) (v : Word) (s : State) : Host.Outcome State Fault Refusal :=
  run (blkCtrlWrite p v) s

/-- GTIME_DIE_ALIGN. A die aligns its GTIME (17 R627). -/
def execGtimeDieAlign (d : Die) (s : State) : Host.Outcome State Fault Refusal :=
  run (gtimeDieAlign d) s

/-- GTIME_SLEW_DONE. A slew or hold reaches its target (17 R632). -/
def execGtimeSlewDone (s : State) : Host.Outcome State Fault Refusal :=
  run gtimeSlewDone s

/-- MARKER_EMIT. The master emits a MARKER (17 R630). -/
def execMarkerEmit (delay : BitVec 32) (s : State) : Host.Outcome State Fault Refusal :=
  run (markerEmit delay) s

/-- MARKER. A MARKER arrives from both directions (17 R631). -/
def execMarker (t : BitVec 64) (d : BitVec 32) (cw ccw : Nat) (crcOk : Bool) (s : State) : Host.Outcome State Fault Refusal :=
  run (marker t d cw ccw crcOk) s

/-- STOP. A STOP frame (17 R634). -/
def execStop (crcOk : Bool) (s : State) : Host.Outcome State Fault Refusal :=
  run (stopFrame crcOk) s

/-- WAKE. A WAKE frame (17 R634). -/
def execWake (mask : BitVec 64) (crcOk : Bool) (s : State) : Host.Outcome State Fault Refusal :=
  run (wakeFrame mask crcOk) s

/-- MARKER_LOST. No MARKER is applied for 3 × 2^20 ticks (17 R634). -/
def execMarkerLost (s : State) : Host.Outcome State Fault Refusal :=
  run markerLost s

/-- RST_CTRL_CORE. RST_CTRL.CORE (17 R640). -/
def execRstCtrlCore (mask : BitVec 10) (s : State) : Host.Outcome State Fault Refusal :=
  run (rstCtrlCore mask) s

/-- RST_CTRL_MGMT. RST_CTRL.MGMT (17 R678). -/
def execRstCtrlMgmt (s : State) : Host.Outcome State Fault Refusal :=
  run rstCtrlMgmt s

/-- RST_CTRL_DEVICE. A write of RST_CTRL with DEVICE (17 R639). -/
def execRstCtrlDevice (v : Word) (f : BootFind) (s : State) : Host.Outcome State Fault Refusal :=
  run (rstCtrlDevice v f) s

/-- CORE_RESET_DONE. A die completes its core reset (17 R640). -/
def execCoreResetDone (t : SelfTest) (d : Die) (s : State) : Host.Outcome State Fault Refusal :=
  run (coreResetDone t d) s

/-- CORE_RESET_FAIL. A core reset exceeds its bound (17 R641). -/
def execCoreResetFail (d : Die) (s : State) : Host.Outcome State Fault Refusal :=
  run (coreResetFail d) s

/-- CORE_RESET_MEMORY_READY. Memory is ready again after a core reset (06 R263). -/
def execCoreResetMemoryReady (c : CDie) (s : State) : Host.Outcome State Fault Refusal :=
  run (coreResetMemoryReady c) s

/-- MGMT_RESET_DONE. Firmware runs again after a management reset (17 R678). -/
def execMgmtResetDone (s : State) : Host.Outcome State Fault Refusal :=
  run mgmtResetDone s

/-- LO_READ_LATCH. A read of n register words; a _LO word latches its _HI (19 R672). -/
def execLoReadLatch (w : Requester) (a : RegAddr) (n : Fin 1025) (s : State) : Host.Outcome State Fault Refusal :=
  run (regRead w a n) s

/-- COUNTER_OVF_CLEAR. A write of 1 to a counter's OVF (03 R141). -/
def execCounterOvfClear (w : Requester) (p : Page) (lo : Nat) (s : State) : Host.Outcome State Fault Refusal :=
  run (counterOvfClear w p lo) s

/-- REGISTER_WRITE. A register write, or a function's configuration (19 R671). -/
def execRegisterWrite (w : Requester) (x : RegWrite) (f : BootFind) (s : State) : Host.Outcome State Fault Refusal :=
  run (regWrite w x f) s

end Sys2Proof.Machine
end

