-- ==== Sys2Proof/Machine/Dispatch.lean ====
section
/-! DEFINITION. The dispatch of every command to its meaning. -/

namespace Sys2Proof.Machine

open Sys2Proof

/-- A command's effect on everything but the queue. -/
def exec (i : Instr) (s : State) : Host.Outcome State Fault Refusal :=
  match i with
  | .mgmtPowerOn b other f => Sys2Proof.Machine.execMgmtPowerOn b other f s
  | .resetN f => Sys2Proof.Machine.execResetN f s
  | .refclkPresent => Sys2Proof.Machine.execRefclkPresent s
  | .railPowerGood => Sys2Proof.Machine.execRailPowerGood s
  | .railPgTimeout => Sys2Proof.Machine.execRailPgTimeout s
  | .bringupBranchesStart t => Sys2Proof.Machine.execBringupBranchesStart t s
  | .stackTrainingRepairDone c k r => Sys2Proof.Machine.execStackTrainingRepairDone c k r s
  | .stackTestDone c k pass rows => Sys2Proof.Machine.execStackTestDone c k pass rows s
  | .boardPresConfirm => Sys2Proof.Machine.execBoardPresConfirm s
  | .doorbell src q t => Sys2Proof.Machine.execDoorbell src q t s
  | .doorbellGated src q t => Sys2Proof.Machine.execDoorbellGated src q t s
  | .doorbellFlush src q => Sys2Proof.Machine.execDoorbellFlush src q s
  | .descriptorFetch q o => Sys2Proof.Machine.execDescriptorFetch q o s
  | .gateTimeout q => Sys2Proof.Machine.execGateTimeout q s
  | .sweepSelect c => Sys2Proof.Machine.execSweepSelect c s
  | .switchComplete c => Sys2Proof.Machine.execSwitchComplete c s
  | .tileLoadDone c u o => Sys2Proof.Machine.execTileLoadDone c u o s
  | .sweepPassEnd c prods accs tie o => Sys2Proof.Machine.execSweepPassEnd c prods accs tie o s
  | .sweepLastRow c => Sys2Proof.Machine.execSweepLastRow c s
  | .sweepComplete c => Sys2Proof.Machine.execSweepComplete c s
  | .sweepLimit c => Sys2Proof.Machine.execSweepLimit c s
  | .abortComplete c => Sys2Proof.Machine.execAbortComplete c s
  | .trnZeroGo c v => Sys2Proof.Machine.execTrnZeroGo c v s
  | .trnZeroDone c => Sys2Proof.Machine.execTrnZeroDone c s
  | .trnPartWrite c p v => Sys2Proof.Machine.execTrnPartWrite c p v s
  | .dispatchStart c => Sys2Proof.Machine.execDispatchStart c s
  | .ecallExit c k pre => Sys2Proof.Machine.execEcallExit c k pre s
  | .ecallSignal c k pre => Sys2Proof.Machine.execEcallSignal c k pre s
  | .coreTrap c k pre t o => Sys2Proof.Machine.execCoreTrap c k pre t o s
  | .dispatchComplete c => Sys2Proof.Machine.execDispatchComplete c s
  | .dispatchLimit c k => Sys2Proof.Machine.execDispatchLimit c k s
  | .vslyAdda128 c k pre vd vs1 vs2 => Sys2Proof.Machine.execVslyAdda128 c k pre vd vs1 vs2 s
  | .vslyAdda64 c k pre vd vs1 vs2 => Sys2Proof.Machine.execVslyAdda64 c k pre vd vs1 vs2 s
  | .vslyCvt c k pre vd vs1 vs2 => Sys2Proof.Machine.execVslyCvt c k pre vd vs1 vs2 s
  | .vslyUnpack c k pre vd vs1 vs2 => Sys2Proof.Machine.execVslyUnpack c k pre vd vs1 vs2 s
  | .coreFence c k pre => Sys2Proof.Machine.execCoreFence c k pre s
  | .coreRemoteAccess c k pre a => Sys2Proof.Machine.execCoreRemoteAccess c k pre a s
  | .dmaCopy c o => Sys2Proof.Machine.execDmaCopy c o s
  | .dmaGet c => Sys2Proof.Machine.execDmaGet c s
  | .dmaFanout c o => Sys2Proof.Machine.execDmaFanout c o s
  | .dmaSignal c => Sys2Proof.Machine.execDmaSignal c s
  | .cairnCfg c => Sys2Proof.Machine.execCairnCfg c s
  | .dmaComplete c => Sys2Proof.Machine.execDmaComplete c s
  | .requestTimeout c xid seq => Sys2Proof.Machine.execRequestTimeout c xid seq s
  | .ackReceive c p => Sys2Proof.Machine.execAckReceive c p s
  | .readDataReceive c p o => Sys2Proof.Machine.execReadDataReceive c p o s
  | .readErrReceive c p => Sys2Proof.Machine.execReadErrReceive c p s
  | .amoRespReceive c p => Sys2Proof.Machine.execAmoRespReceive c p s
  | .windowRelease c dest => Sys2Proof.Machine.execWindowRelease c dest s
  | .ccPeriod c dest => Sys2Proof.Machine.execCcPeriod c dest s
  | .cairnSignal c p => Sys2Proof.Machine.execCairnSignal c p s
  | .cairnAbort c p => Sys2Proof.Machine.execCairnAbort c p s
  | .crnInspSelWrite c v => Sys2Proof.Machine.execCrnInspSelWrite c v s
  | .crnTrkSelWrite c v => Sys2Proof.Machine.execCrnTrkSelWrite c v s
  | .crnPartWrite c p v => Sys2Proof.Machine.execCrnPartWrite c p v s
  | .memWrite c p o => Sys2Proof.Machine.execMemWrite c p o s
  | .memWriteMasked c p o => Sys2Proof.Machine.execMemWriteMasked c p o s
  | .memRead c p o => Sys2Proof.Machine.execMemRead c p o s
  | .memAmo c p o => Sys2Proof.Machine.execMemAmo c p o s
  | .refreshPoll c rd => Sys2Proof.Machine.execRefreshPoll c rd s
  | .patrolRead c p => Sys2Proof.Machine.execPatrolRead c p s
  | .memZeroGo c v => Sys2Proof.Machine.execMemZeroGo c v s
  | .memZeroDone c => Sys2Proof.Machine.execMemZeroDone c s
  | .memRangeWrite c p r v => Sys2Proof.Machine.execMemRangeWrite c p r v s
  | .stackFail c k => Sys2Proof.Machine.execStackFail c k s
  | .signalDetect f => Sys2Proof.Machine.execSignalDetect f s
  | .trainingWord q lane w limit refused => Sys2Proof.Machine.execTrainingWord q lane w limit refused s
  | .trainComplete q presets => Sys2Proof.Machine.execTrainComplete q presets s
  | .alignComplete q lanes => Sys2Proof.Machine.execAlignComplete q lanes s
  | .trainAttemptTimeout q => Sys2Proof.Machine.execTrainAttemptTimeout q s
  | .qualDwellEnd q more => Sys2Proof.Machine.execQualDwellEnd q more s
  | .qualResultTimeout q => Sys2Proof.Machine.execQualResultTimeout q s
  | .frameReceive q f => Sys2Proof.Machine.execFrameReceive q f s
  | .frameTransmit q => Sys2Proof.Machine.execFrameTransmit q s
  | .ident q x => Sys2Proof.Machine.execIdent q x s
  | .keyReady q slot => Sys2Proof.Machine.execKeyReady q slot s
  | .keyAck q slot => Sys2Proof.Machine.execKeyAck q slot s
  | .qualResult q pass => Sys2Proof.Machine.execQualResult q pass s
  | .identSend q => Sys2Proof.Machine.execIdentSend q s
  | .linkRecordRepeat q => Sys2Proof.Machine.execLinkRecordRepeat q s
  | .laneLossOfLock q lane => Sys2Proof.Machine.execLaneLossOfLock q lane s
  | .laserLoss j f => Sys2Proof.Machine.execLaserLoss j f s
  | .laserOkChange j f => Sys2Proof.Machine.execLaserOkChange j f s
  | .laneBerWindow q more => Sys2Proof.Machine.execLaneBerWindow q more s
  | .train src => Sys2Proof.Machine.execTrain src s
  | .disable src => Sys2Proof.Machine.execDisable src s
  | .admitPort src => Sys2Proof.Machine.execAdmitPort src s
  | .quarantine src => Sys2Proof.Machine.execQuarantine src s
  | .release src => Sys2Proof.Machine.execRelease src s
  | .memberOn m => Sys2Proof.Machine.execMemberOn m s
  | .memberOff m => Sys2Proof.Machine.execMemberOff m s
  | .darkOn m => Sys2Proof.Machine.execDarkOn m s
  | .darkOff m => Sys2Proof.Machine.execDarkOff m s
  | .engineTemp j t => Sys2Proof.Machine.execEngineTemp j t s
  | .d2dFlitReceive p f => Sys2Proof.Machine.execD2dFlitReceive p f s
  | .d2dPortFail p inSwitch => Sys2Proof.Machine.execD2dPortFail p inSwitch s
  | .packetForward d came p => Sys2Proof.Machine.execPacketForward d came p s
  | .directedForward d came p => Sys2Proof.Machine.execDirectedForward d came p s
  | .packetLifetimeExpire n => Sys2Proof.Machine.execPacketLifetimeExpire n s
  | .linkCredit q p => Sys2Proof.Machine.execLinkCredit q p s
  | .linkCreditSend q => Sys2Proof.Machine.execLinkCreditSend q s
  | .identify m => Sys2Proof.Machine.execIdentify m s
  | .portList m => Sys2Proof.Machine.execPortList m s
  | .sessionOpen m => Sys2Proof.Machine.execSessionOpen m s
  | .sessionClose m => Sys2Proof.Machine.execSessionClose m s
  | .coordSet m => Sys2Proof.Machine.execCoordSet m s
  | .portAttr m => Sys2Proof.Machine.execPortAttr m s
  | .tableWrite m => Sys2Proof.Machine.execTableWrite m s
  | .tableCommit m => Sys2Proof.Machine.execTableCommit m s
  | .epochSet m => Sys2Proof.Machine.execEpochSet m s
  | .inflightRead m => Sys2Proof.Machine.execInflightRead m s
  | .keyLoad m blobOk => Sys2Proof.Machine.execKeyLoad m blobOk s
  | .keyClear m => Sys2Proof.Machine.execKeyClear m s
  | .keySwitch m => Sys2Proof.Machine.execKeySwitch m s
  | .teleRead m => Sys2Proof.Machine.execTeleRead m s
  | .teleClear m => Sys2Proof.Machine.execTeleClear m s
  | .mcCommand m => Sys2Proof.Machine.execMcCommand m s
  | .event x => Sys2Proof.Machine.execEvent x s
  | .eventResend k => Sys2Proof.Machine.execEventResend k s
  | .teleSample q => Sys2Proof.Machine.execTeleSample q s
  | .mgtRequestRetry x => Sys2Proof.Machine.execMgtRequestRetry x s
  | .pairOpen m => Sys2Proof.Machine.execPairOpen m s
  | .heartbeat m => Sys2Proof.Machine.execHeartbeat m s
  | .mirror m recs => Sys2Proof.Machine.execMirror m recs s
  | .syncRead m => Sys2Proof.Machine.execSyncRead m s
  | .termNotice m => Sys2Proof.Machine.execTermNotice m s
  | .heartbeatPeriod => Sys2Proof.Machine.execHeartbeatPeriod s
  | .smtEn v => Sys2Proof.Machine.execSmtEn v s
  | .pairWaitExpire => Sys2Proof.Machine.execPairWaitExpire s
  | .discoveryPoll => Sys2Proof.Machine.execDiscoveryPoll s
  | .exploreEnd settled => Sys2Proof.Machine.execExploreEnd settled s
  | .mgrClaim b => Sys2Proof.Machine.execMgrClaim b s
  | .claimTimeout => Sys2Proof.Machine.execClaimTimeout s
  | .smtGenGo v => Sys2Proof.Machine.execSmtGenGo v s
  | .routeGenDone us unreadable => Sys2Proof.Machine.execRouteGenDone us unreadable s
  | .routeChange => Sys2Proof.Machine.execRouteChange s
  | .keyRotation ser role port => Sys2Proof.Machine.execKeyRotation ser role port s
  | .portRetrain ser role port => Sys2Proof.Machine.execPortRetrain ser role port s
  | .sliceJoinTimeout id => Sys2Proof.Machine.execSliceJoinTimeout id s
  | .watershedRound rounds => Sys2Proof.Machine.execWatershedRound rounds s
  | .cubeTimeAlign xs => Sys2Proof.Machine.execCubeTimeAlign xs s
  | .sliceAlloc h kind count a b cmask partIdx join => Sys2Proof.Machine.execSliceAlloc h kind count a b cmask partIdx join s
  | .sliceFree h id => Sys2Proof.Machine.execSliceFree h id s
  | .shapeRead h cube => Sys2Proof.Machine.execShapeRead h cube s
  | .planUpdate h image sigOk => Sys2Proof.Machine.execPlanUpdate h image sigOk s
  | .readmit h co => Sys2Proof.Machine.execReadmit h co s
  | .logRead h seq => Sys2Proof.Machine.execLogRead h seq s
  | .powerSet h co slice body => Sys2Proof.Machine.execPowerSet h co slice body s
  | .wsConfig h r => Sys2Proof.Machine.execWsConfig h r s
  | .fwDistribute h type t content => Sys2Proof.Machine.execFwDistribute h type t content s
  | .fwActivate h id t flags => Sys2Proof.Machine.execFwActivate h id t flags s
  | .ridgeStop h cube => Sys2Proof.Machine.execRidgeStop h cube s
  | .ridgeWake h cube mask => Sys2Proof.Machine.execRidgeWake h cube mask s
  | .deviceReset h co f => Sys2Proof.Machine.execDeviceReset h co f s
  | .opcmd h c f => Sys2Proof.Machine.execOpcmd h c f s
  | .sliceJoin b => Sys2Proof.Machine.execSliceJoin b s
  | .sliceLeave b => Sys2Proof.Machine.execSliceLeave b s
  | .sliceStop b => Sys2Proof.Machine.execSliceStop b s
  | .sliceQuery => Sys2Proof.Machine.execSliceQuery s
  | .readmitMc => Sys2Proof.Machine.execReadmitMc s
  | .pwrSet b => Sys2Proof.Machine.execPwrSet b s
  | .wsRead b => Sys2Proof.Machine.execWsRead b s
  | .distOpen b => Sys2Proof.Machine.execDistOpen b s
  | .distData b => Sys2Proof.Machine.execDistData b s
  | .distStatus b => Sys2Proof.Machine.execDistStatus b s
  | .distActivate b => Sys2Proof.Machine.execDistActivate b s
  | .distAbort b => Sys2Proof.Machine.execDistAbort b s
  | .distVerifyDone f => Sys2Proof.Machine.execDistVerifyDone f s
  | .setMaster b => Sys2Proof.Machine.execSetMaster b s
  | .readXfer b => Sys2Proof.Machine.execReadXfer b s
  | .timAdj b => Sys2Proof.Machine.execTimAdj b s
  | .timStop b => Sys2Proof.Machine.execTimStop b s
  | .timWake b => Sys2Proof.Machine.execTimWake b s
  | .powerEstimate raw uncore => Sys2Proof.Machine.execPowerEstimate raw uncore s
  | .powerMeasure iout bad temps => Sys2Proof.Machine.execPowerMeasure iout bad temps s
  | .calibration => Sys2Proof.Machine.execCalibration s
  | .pkgCapCompare => Sys2Proof.Machine.execPkgCapCompare s
  | .limitLoop c t stretched => Sys2Proof.Machine.execLimitLoop c t stretched s
  | .voltageSettled c => Sys2Proof.Machine.execVoltageSettled c s
  | .avsRetry c => Sys2Proof.Machine.execAvsRetry c s
  | .droopTrip c det => Sys2Proof.Machine.execDroopTrip c det s
  | .droopRelease c => Sys2Proof.Machine.execDroopRelease c s
  | .deferralEnd c => Sys2Proof.Machine.execDeferralEnd c s
  | .droopLong c => Sys2Proof.Machine.execDroopLong c s
  | .pdOver k => Sys2Proof.Machine.execPdOver k s
  | .capUnattainable c => Sys2Proof.Machine.execCapUnattainable c s
  | .thermalTrip d => Sys2Proof.Machine.execThermalTrip d s
  | .mgmtSupplySwitchover => Sys2Proof.Machine.execMgmtSupplySwitchover s
  | .mgmtSupplyLoss => Sys2Proof.Machine.execMgmtSupplyLoss s
  | .vmgInputWindowChange inWindow => Sys2Proof.Machine.execVmgInputWindowChange inWindow s
  | .railLost r => Sys2Proof.Machine.execRailLost r s
  | .fltAck p v => Sys2Proof.Machine.execFltAck p v s
  | .quietExpire q => Sys2Proof.Machine.execQuietExpire q s
  | .scrubStart p => Sys2Proof.Machine.execScrubStart p s
  | .scrubComplete p => Sys2Proof.Machine.execScrubComplete p s
  | .recoveryStart active => Sys2Proof.Machine.execRecoveryStart active s
  | .recoveryComplete t => Sys2Proof.Machine.execRecoveryComplete t s
  | .watchdogExpire => Sys2Proof.Machine.execWatchdogExpire s
  | .watchdogKick v => Sys2Proof.Machine.execWatchdogKick v s
  | .logPop v => Sys2Proof.Machine.execLogPop v s
  | .injCtrlWrite p v => Sys2Proof.Machine.execInjCtrlWrite p v s
  | .wkeyImport v b env => Sys2Proof.Machine.execWkeyImport v b env s
  | .wimport v b env => Sys2Proof.Machine.execWimport v b env s
  | .wkeyRetire v b env => Sys2Proof.Machine.execWkeyRetire v b env s
  | .mdlPlace v b env => Sys2Proof.Machine.execMdlPlace v b env s
  | .vfInfo v b env => Sys2Proof.Machine.execVfInfo v b env s
  | .bootStatus v b env => Sys2Proof.Machine.execBootStatus v b env s
  | .rcvBegin v b env => Sys2Proof.Machine.execRcvBegin v b env s
  | .rcvData v b env => Sys2Proof.Machine.execRcvData v b env s
  | .rcvEnd v b env => Sys2Proof.Machine.execRcvEnd v b env s
  | .dbgChallenge v b env => Sys2Proof.Machine.execDbgChallenge v b env s
  | .dbgToken v b env => Sys2Proof.Machine.execDbgToken v b env s
  | .secDbgNew => Sys2Proof.Machine.execSecDbgNew s
  | .secDbgLock => Sys2Proof.Machine.execSecDbgLock s
  | .getMeasurements v ix nonce signed => Sys2Proof.Machine.execGetMeasurements v ix nonce signed s
  | .bar2Write p a bs => Sys2Proof.Machine.execBar2Write p a bs s
  | .bar2Read p a n => Sys2Proof.Machine.execBar2Read p a n s
  | .perstN => Sys2Proof.Machine.execPerstN s
  | .pfFlr n => Sys2Proof.Machine.execPfFlr n s
  | .vfFlr p => Sys2Proof.Machine.execVfFlr p s
  | .mbxH2dSend k => Sys2Proof.Machine.execMbxH2dSend k s
  | .mbxD2hSend k => Sys2Proof.Machine.execMbxD2hSend k s
  | .mbxH2dDone host k env => Sys2Proof.Machine.execMbxH2dDone host k env s
  | .mbxD2hDone k => Sys2Proof.Machine.execMbxD2hDone k s
  | .relay x => Sys2Proof.Machine.execRelay x s
  | .announce => Sys2Proof.Machine.execAnnounce s
  | .mgtFrame x => Sys2Proof.Machine.execMgtFrame x s
  | .mctpPacket net src dst m env => Sys2Proof.Machine.execMctpPacket net src dst m env s
  | .pldmSensorUpdate => Sys2Proof.Machine.execPldmSensorUpdate s
  | .doeRequest r => Sys2Proof.Machine.execDoeRequest r s
  | .i3cEntdaa a => Sys2Proof.Machine.execI3cEntdaa a s
  | .pcieLinkTrained rate width => Sys2Proof.Machine.execPcieLinkTrained rate width s
  | .refclkLoss => Sys2Proof.Machine.execRefclkLoss s
  | .refclkReturn => Sys2Proof.Machine.execRefclkReturn s
  | .holdoverExpired => Sys2Proof.Machine.execHoldoverExpired s
  | .pllUnlock d => Sys2Proof.Machine.execPllUnlock d s
  | .eventLineCross p j early => Sys2Proof.Machine.execEventLineCross p j early s
  | .evtCountTake p v => Sys2Proof.Machine.execEvtCountTake p v s
  | .blkCtrlWrite p v => Sys2Proof.Machine.execBlkCtrlWrite p v s
  | .gtimeDieAlign d => Sys2Proof.Machine.execGtimeDieAlign d s
  | .gtimeSlewDone => Sys2Proof.Machine.execGtimeSlewDone s
  | .markerEmit delay => Sys2Proof.Machine.execMarkerEmit delay s
  | .marker t d cw ccw crcOk => Sys2Proof.Machine.execMarker t d cw ccw crcOk s
  | .stop crcOk => Sys2Proof.Machine.execStop crcOk s
  | .wake mask crcOk => Sys2Proof.Machine.execWake mask crcOk s
  | .markerLost => Sys2Proof.Machine.execMarkerLost s
  | .rstCtrlCore mask => Sys2Proof.Machine.execRstCtrlCore mask s
  | .rstCtrlMgmt => Sys2Proof.Machine.execRstCtrlMgmt s
  | .rstCtrlDevice v f => Sys2Proof.Machine.execRstCtrlDevice v f s
  | .coreResetDone t d => Sys2Proof.Machine.execCoreResetDone t d s
  | .coreResetFail d => Sys2Proof.Machine.execCoreResetFail d s
  | .coreResetMemoryReady c => Sys2Proof.Machine.execCoreResetMemoryReady c s
  | .mgmtResetDone => Sys2Proof.Machine.execMgmtResetDone s
  | .loReadLatch w a n => Sys2Proof.Machine.execLoReadLatch w a n s
  | .counterOvfClear w p lo => Sys2Proof.Machine.execCounterOvfClear w p lo s
  | .registerWrite w x f => Sys2Proof.Machine.execRegisterWrite w x f s

end Sys2Proof.Machine
end

