-- ==== Sys2Proof/Machine/Tick.lean ====
section
/-! DEFINITION. One TCLK tick with no command waiting: GTIME, and the counters that count clock cycles (03 R134, R137, 10 R394, 12 R466, 17 R618, R619,
R626; log entry 2). -/

namespace Sys2Proof.Machine

/-- ACLK cycles of a compute die in the TCLK tick that starts at GTIME `now`: 3k/4 a tick at step k, half of them during a droop stretch (R452, R465,
R618, R619). -/
def aclkCycles (k now : Nat) (stretched : Bool) : Nat :=
  let d := if stretched then 8 else 4
  3 * k * (now % 8 + 1) / d - 3 * k * (now % 8) / d

/-- A sweep the array holds counts its cycles: those under an issue hold are excluded (R99, R137). -/
def RunSweep.spend (r : RunSweep) (n : Nat) : RunSweep := { r with cycles := r.cycles + n, counted := r.counted + n }

/-- The array's counters in one tick of `n` ACLK cycles (R134, R137, R138, R141): in STREAM with a tile in the active plane a row enters every r cycles that have
an issue slot. A sweep whose first tile loads behind another counts its CYCLES and not toward its limit. -/
def State.tickArray (s : State) (c : CDie) (n : Nat) : State :=
  let pg := Page.msf c
  let st := s.msfState c
  let live := st = msfLOAD || st = msfSTREAM || st = msfDRAIN
  let a := s.array c
  let waits := st = msfLOAD || (st = msfSTREAM && a.run.any (fun r => r.tile.isNone))
  let s := if waits then s.bump pg C.MSF_LOADWAIT_CYC n else s
  if s.issueHold c then s.bump pg C.MSF_HOLD_CYC n
  else
    let slots := n / (s.fld pg F.MSF_HOLD_DUTY_N + 1)
    let enters (r : RunSweep) : Bool := st = msfSTREAM && r.tile.isSome && !r.lastRow && rowRate r.desc != 0
    let t := match a.run with | some r => if enters r then s.bump pg C.MSF_BUSY_CYC (slots / rowRate r.desc) else s | none => s
    if !live then t else
    let limit := s.sweepLimitReg c
    let run := a.run.map (fun r => (if st = msfSTREAM && r.tile.isSome then r.enter limit else r).spend n)
    t.setArray c { a with run := run, drain := a.drain.map (·.spend n), next := a.next.map (fun r => { r with cycles := r.cycles + n }) }

/-- One compute die in one tick: nothing in core reset (R466, R640). FCLK runs eight cycles in it (05 R185, R618). -/
def State.tickDie (s : State) (c : CDie) : State :=
  if s.inReset (CDie.die c) then s else
  let stretched := s.flag (cdPwr c) F.PWR_STATUS_DROOP
  let s : State := { s with fclk := Store.set (fun _ => 0) s.fclk c.val (Store.get (fun _ => 0) s.fclk c.val + 8) }
  let n := aclkCycles (s.stepK c) (s.now (CDie.die c)).toNat stretched
  let s := if stretched then s.bump (cdPwr c) C.PWR_DROOP_CYC n else s
  s.tickArray c n

/-- A whole packet for an output's virtual channel is ready and lacks credit (10 R394). -/
def State.stalled (s : State) (q : Port) (vc : Nat) : Bool :=
  s.lnk q = lkACTIVE && s.transits.any (fun t => t.out == .port q && t.vc == vc && !(s.ready t))

/-- A port in SAFE stops its idle frames 1 µs, 200 ticks, after entry, and is idle and dark (07 R296, R297). -/
def State.safeEnd (s : State) (q : Port) : State :=
  match (s.port q).safeAt with
  | some t => if 200 ≤ (s.now (PDie.die (Port.pdie q)) - t).toNat then (s.updPort q (fun x => { x with safeAt := none })).goDark q else s
  | none => s

/-- Eight router clock cycles of stall for each virtual channel that is stalled (10 R394). -/
def State.stallPort (s : State) (q : Port) : State :=
  (List.range 6).foldl (fun t vc =>
    if t.stalled q vc then
      let p := t.port q
      t.setPort q { p with tel := { p.tel with stall := Store.set (fun _ => 0) p.tel.stall vc (satAdd 0xFFFFFFFFFFFF (Store.get (fun _ => 0) p.tel.stall vc) 8) } }
    else t) s

/-- A port in one tick. -/
def State.tickPort (s : State) (q : Port) : State := (s.safeEnd q).stallPort q

/-- The token buckets fill in one tick: R is in units of 0.25 GB/s, five quarter bytes a tick; what waited on them may leave (08 R346). -/
def State.tickRates (s : State) : State :=
  if s.windows.isEmpty then s else
  State.pump { s with windows := s.windows.map (fun w => { w with tokens := min 0x40000 (w.tokens + 5 * w.rate) }) }

/-- One tick of the block. -/
def State.tick (s : State) : State :=
  if s.mgmtOn then (allPorts.foldl State.tickPort (allCDies.foldl State.tickDie s)).tickRates.tickTime else s

end Sys2Proof.Machine
end

