-- ==== Sys2Proof/WellFormed.lean ====
section
/-! DEFINITION. Which commands are well formed: their operands have the sizes the spec gives them. Every command has a meaning, well formed or not; the
checks say what a sender can send. -/

namespace Sys2Proof

open Machine

/-- A message body: at most 240 bytes through a mailbox channel, 65,535 over MCTP and the management network (16 R602). -/
def msgForm (v : Via) (b : List Byte) : Bool :=
  decide (b.length ≤ match v with | .mbx _ => 240 | _ => 65535)

/-- The body of a command to a management complex fits a data packet (08 R306, 10 R399). -/
def mcForm (b : List Byte) : Bool := decide (b.length ≤ 2048)

/-- A codeword of 544 symbols of 10 bits: a symbol in error has one to ten wrong bits (07 R270). -/
def codewordForm (c : Codeword) : Bool := decide (c.syms ≤ 544) && decide (c.syms ≤ c.bits) && decide (c.bits ≤ 10 * c.syms)

/-- A link frame: at most 256 slots of 64 bytes, and the codewords of each lane (07 R271, R272). -/
def frameForm (q : Port) (f : RxFrame) : Bool :=
  decide (f.slots.length ≤ 256) && f.slots.all (fun x => decide (x.length = 64)) && decide (f.lanes.length = Port.lanes q) &&
    f.lanes.all (fun l => l.all codewordForm)

/-- Readings of received power: one for each lane of an optical port (07 R303). -/
def rxForm (q : Port) (rx : List (BitVec 16)) : Bool := decide (rx.length = if q.isOpt then 4 else 0)

/-- A command is well formed. -/
def Instr.wf (i : Instr) : Bool :=
  match i with
  | .mgmtPowerOn _ _ _ => true
  | .resetN _ => true
  | .refclkPresent => true
  | .railPowerGood => true
  | .railPgTimeout => true
  | .bringupBranchesStart _ => true
  | .stackTrainingRepairDone _ _ _ => true
  | .stackTestDone _ _ _ _ => true
  | .boardPresConfirm => true
  | .doorbell _ _ _ => true
  | .doorbellGated _ _ _ => true
  | .doorbellFlush _ _ => true
  | .descriptorFetch _ _ => true
  | .gateTimeout _ => true
  | .sweepSelect _ => true
  | .switchComplete _ => true
  | .tileLoadDone _ _ _ => true
  | .sweepPassEnd _ _ _ _ _ => true
  | .sweepLastRow _ => true
  | .sweepComplete _ => true
  | .sweepLimit _ => true
  | .abortComplete _ => true
  | .trnZeroGo _ _ => true
  | .trnZeroDone _ => true
  | .trnPartWrite _ _ _ => true
  | .dispatchStart _ => true
  | .ecallExit _ _ _ => true
  | .ecallSignal _ _ _ => true
  | .coreTrap _ _ _ _ _ => true
  | .dispatchComplete _ => true
  | .dispatchLimit _ _ => true
  | .vslyAdda128 _ _ _ _ _ _ => true
  | .vslyAdda64 _ _ _ _ _ _ => true
  | .vslyCvt _ _ _ _ _ _ => true
  | .vslyUnpack _ _ _ _ _ _ => true
  | .coreFence _ _ _ => true
  | .coreRemoteAccess _ _ _ _ => true
  | .dmaCopy _ _ => true
  | .dmaGet _ => true
  | .dmaFanout _ _ => true
  | .dmaSignal _ => true
  | .cairnCfg _ => true
  | .dmaComplete _ => true
  | .requestTimeout _ _ _ => true
  | .ackReceive _ _ => true
  | .readDataReceive _ _ _ => true
  | .readErrReceive _ _ => true
  | .amoRespReceive _ _ => true
  | .windowRelease _ _ => true
  | .ccPeriod _ _ => true
  | .cairnSignal _ _ => true
  | .cairnAbort _ _ => true
  | .crnInspSelWrite _ _ => true
  | .crnTrkSelWrite _ _ => true
  | .crnPartWrite _ _ _ => true
  | .memWrite _ _ _ => true
  | .memWriteMasked _ _ _ => true
  | .memRead _ _ _ => true
  | .memAmo _ _ _ => true
  | .refreshPoll _ rd => decide (rd.length = 3)
  | .patrolRead _ _ => true
  | .memZeroGo _ _ => true
  | .memZeroDone _ => true
  | .memRangeWrite _ _ _ _ => true
  | .stackFail _ _ => true
  | .signalDetect f => rxForm f.port f.power
  | .trainingWord q lane w _ _ => decide (lane.val < Port.lanes q) && decide (w.toNat < 1024)
  | .trainComplete q presets => decide (presets.length = Port.lanes q)
  | .alignComplete q lanes => decide (lanes.length = Port.lanes q)
  | .trainAttemptTimeout _ => true
  | .qualDwellEnd q more => decide (more.length ≤ Port.lanes q)
  | .qualResultTimeout _ => true
  | .frameReceive q f => frameForm q f
  | .frameTransmit _ => true
  | .ident _ _ => true
  | .keyReady _ _ => true
  | .keyAck _ _ => true
  | .qualResult _ _ => true
  | .identSend _ => true
  | .linkRecordRepeat _ => true
  | .laneLossOfLock q lane => decide (lane.val < Port.lanes q)
  | .laserLoss j f => rxForm (OptPort.port j) f.rx
  | .laserOkChange j f => rxForm (OptPort.port j) f.rx
  | .laneBerWindow q more => decide (more.length ≤ Port.lanes q)
  | .train _ => true
  | .disable _ => true
  | .admitPort _ => true
  | .quarantine _ => true
  | .release _ => true
  | .memberOn _ => true
  | .memberOff _ => true
  | .darkOn _ => true
  | .darkOff _ => true
  | .engineTemp _ _ => true
  | .d2dFlitReceive p f => decide (p.ptype = .d2d) && decide (f.data.length = 200)
  | .d2dPortFail p _ => decide (p.ptype = .d2d)
  | .packetForward _ _ _ => true
  | .directedForward _ _ _ => true
  | .packetLifetimeExpire _ => true
  | .linkCredit _ _ => true
  | .linkCreditSend _ => true
  | .identify _ => true
  | .portList _ => true
  | .sessionOpen _ => true
  | .sessionClose _ => true
  | .coordSet _ => true
  | .portAttr _ => true
  | .tableWrite _ => true
  | .tableCommit _ => true
  | .epochSet _ => true
  | .inflightRead _ => true
  | .keyLoad _ _ => true
  | .keyClear _ => true
  | .keySwitch _ => true
  | .teleRead _ => true
  | .teleClear _ => true
  | .mcCommand _ => true
  | .event _ => true
  | .eventResend _ => true
  | .teleSample _ => true
  | .mgtRequestRetry _ => true
  | .pairOpen _ => true
  | .heartbeat _ => true
  | .mirror _ _ => true
  | .syncRead _ => true
  | .termNotice _ => true
  | .heartbeatPeriod => true
  | .smtEn _ => true
  | .pairWaitExpire => true
  | .discoveryPoll => true
  | .exploreEnd _ => true
  | .mgrClaim b => mcForm b
  | .claimTimeout => true
  | .smtGenGo _ => true
  | .routeGenDone _ _ => true
  | .routeChange => true
  | .keyRotation _ _ _ => true
  | .portRetrain _ _ _ => true
  | .sliceJoinTimeout _ => true
  | .watershedRound _ => true
  | .cubeTimeAlign _ => true
  | .sliceAlloc _ _ _ _ _ _ _ join => decide (join.length = 80)
  | .sliceFree _ _ => true
  | .shapeRead _ _ => true
  | .planUpdate _ _ _ => true
  | .readmit _ _ => true
  | .logRead _ _ => true
  | .powerSet _ _ _ _ => true
  | .wsConfig _ _ => true
  | .fwDistribute _ _ _ _ => true
  | .fwActivate _ _ _ _ => true
  | .ridgeStop _ _ => true
  | .ridgeWake _ _ _ => true
  | .deviceReset _ _ _ => true
  | .opcmd _ _ _ => true
  | .sliceJoin b => mcForm b
  | .sliceLeave b => mcForm b
  | .sliceStop b => mcForm b
  | .sliceQuery => true
  | .readmitMc => true
  | .pwrSet b => mcForm b
  | .wsRead b => mcForm b
  | .distOpen b => mcForm b
  | .distData b => mcForm b
  | .distStatus b => mcForm b
  | .distActivate b => mcForm b
  | .distAbort b => mcForm b
  | .distVerifyDone _ => true
  | .setMaster b => mcForm b
  | .readXfer b => mcForm b
  | .timAdj b => mcForm b
  | .timStop b => mcForm b
  | .timWake b => mcForm b
  | .powerEstimate raw _ => decide (raw.length = 10)
  | .powerMeasure iout _ temps => decide (iout.length = 14) && decide (temps.length = 2)
  | .calibration => true
  | .pkgCapCompare => true
  | .limitLoop _ _ _ => true
  | .voltageSettled _ => true
  | .avsRetry _ => true
  | .droopTrip _ _ => true
  | .droopRelease _ => true
  | .deferralEnd _ => true
  | .droopLong _ => true
  | .pdOver _ => true
  | .capUnattainable _ => true
  | .thermalTrip _ => true
  | .mgmtSupplySwitchover => true
  | .mgmtSupplyLoss => true
  | .vmgInputWindowChange _ => true
  | .railLost _ => true
  | .fltAck _ _ => true
  | .quietExpire _ => true
  | .scrubStart _ => true
  | .scrubComplete _ => true
  | .recoveryStart _ => true
  | .recoveryComplete _ => true
  | .watchdogExpire => true
  | .watchdogKick _ => true
  | .logPop _ => true
  | .injCtrlWrite p _ => p.hasInj
  | .wkeyImport v b _ => msgForm v b
  | .wimport v b _ => msgForm v b
  | .wkeyRetire v b _ => msgForm v b
  | .mdlPlace v b _ => msgForm v b
  | .vfInfo v b _ => msgForm v b
  | .bootStatus v b _ => msgForm v b
  | .rcvBegin v b _ => msgForm v b
  | .rcvData v b _ => msgForm v b
  | .rcvEnd v b _ => msgForm v b
  | .dbgChallenge v b _ => msgForm v b
  | .dbgToken v b _ => msgForm v b
  | .secDbgNew => true
  | .secDbgLock => true
  | .getMeasurements _ _ _ _ => true
  | .bar2Write _ a bs => bar2Form a.toNat bs.length 512
  | .bar2Read _ a n => bar2Form a.toNat n.val 4096
  | .perstN => true
  | .pfFlr _ => true
  | .vfFlr _ => true
  | .mbxH2dSend _ => true
  | .mbxD2hSend _ => true
  | .mbxH2dDone _ _ _ => true
  | .mbxD2hDone _ => true
  | .relay _ => true
  | .announce => true
  | .mgtFrame _ => true
  | .mctpPacket _ _ _ _ _ => true
  | .pldmSensorUpdate => true
  | .doeRequest _ => true
  | .i3cEntdaa _ => true
  | .pcieLinkTrained _ _ => true
  | .refclkLoss => true
  | .refclkReturn => true
  | .holdoverExpired => true
  | .pllUnlock _ => true
  | .eventLineCross p j _ => decide (j.val < p.nevt)
  | .evtCountTake _ _ => true
  | .blkCtrlWrite _ _ => true
  | .gtimeDieAlign _ => true
  | .gtimeSlewDone => true
  | .markerEmit _ => true
  | .marker _ _ _ _ _ => true
  | .stop _ => true
  | .wake _ _ => true
  | .markerLost => true
  | .rstCtrlCore _ => true
  | .rstCtrlMgmt => true
  | .rstCtrlDevice _ _ => true
  | .coreResetDone _ _ => true
  | .coreResetFail _ => true
  | .coreResetMemoryReady _ => true
  | .mgmtResetDone => true
  | .loReadLatch _ _ n => decide (0 < n.val)
  | .counterOvfClear _ _ lo => lo % 8 == 0 && decide (lo < 0x1000)
  | .registerWrite _ _ _ => true

end Sys2Proof
end

