-- ==== Sys2Proof/Safety.lean ====
section
/-! DEFINITION. The terms in which claims are made: the canonical form of what the package stores, a package in which nothing waits, and what an
agent or an endpoint takes and answers. -/

namespace Sys2Proof.Machine

/-- The memory of the eight dies is in canonical form: keys strictly rising, no byte listed that reads as an unlisted one. -/
abbrev Memory.wf (m : Store Byte) : Bool := Store.wf memDefault m

/-- Memory and Tarn are in canonical form. -/
def State.memWf (s : State) : Bool := Memory.wf s.mem && Memory.wf s.tarn

/-- The register words are in canonical form: no word listed that holds its reset value. -/
def State.regsWf (s : State) : Bool := Store.wf (regReset s.fuses) s.regs

/-- Nothing follows a command but its own effect: no BAR2 access and no host write waits behind one, no relay frame waits, and no manager has a session with
an agent, so that no event leaves (16 R591, R598, 10 R398). -/
def State.quiet (s : State) : Bool :=
  s.bar2.isEmpty && s.held.isEmpty && s.relayOut.isEmpty &&
    [(0 : PDie), 1].all (fun k => (s.agent k).sess0.isNone && (s.agent k).sess1.isNone)

/-- Powered, and quiet. -/
def State.settled (s : State) : Bool := s.mgmtOn && s.quiet

/-- What a command whose own effect is `u` leaves of `s`: what follows it (accesses of the host that no longer wait, frames, events), and the queue as it was. -/
def State.finish (s u : State) : State := { u.after with pending := s.pending }

/-- A request that an agent takes and counts, leaving `u`, of operation `op`: a data packet where `data` says so (10 R373, R374, R399). -/
def State.agentMeets (s : State) (m : MgtIn) (op : BitVec 8) (data : Bool) (u : State) : Prop :=
  ∃ w, s.mgtTakes m = (w, true) ∧ m.pkt.op = op ∧ m.pkt.cls = data ∧
    u = w.agentCount m

/-- A request that an agent takes under an open session whose check of R379 it passes: the session `x` of `slot`, and the counter. `openOp`: an operation
that it answers in the safe state (R404). -/
def State.agentTakes (s : State) (m : MgtIn) (op : BitVec 8) (openOp : Bool) (u : State) (x : Session) (slot ctr : Nat) : Prop :=
  s.agentMeets m op true u ∧ trailerOf m.pkt = some (ctr, slot) ∧ (u.agent m.k).sess slot = some x ∧ m.valid = true ∧
    (x.judge ctr = .fresh ∨ x.judge ctr = .inWindow) ∧ u.agentServes m openOp = true

/-- A judgement that lets the request run (10 R379). -/
def Ctr.runs : Ctr → Bool
  | .fresh | .inWindow => true
  | .cached _ | .stale => false

/-- What an agent does once such a request has been executed: the counter is marked, the response cached and sent the way the request came (R374, R377,
R379). -/
def State.agentAnswers (v : State) (m : MgtIn) (x : Session) (slot ctr st : Nat) (data : List Byte) : State :=
  (v.setAgent m.k ((v.agent m.k).setSess slot (some (x.mark ctr (v.authAnswer m 1 x slot ctr st data).bytes)))).mgtSend m.k m.net
    (v.authAnswer m 1 x slot ctr st data)

/-- The answer to an operation that needs no session (R373). -/
def State.agentReplies (v : State) (m : MgtIn) (st : Nat) (data : List Byte) : State := v.mgtSend m.k m.net (openPacket (v.mgtReply m 1 st) data)

/-- A request that the Summit endpoint takes and executes under the pair session `x` (11 R444). -/
def State.endpointTakes (s : State) (m : MgtIn) (op : BitVec 8) (u : State) (x : Session) (ctr : Nat) : Prop :=
  s.mgtTakes m = (u, true) ∧ m.pkt.op = op ∧ m.k = 0 ∧ m.pkt.cls = true ∧ trailerOf m.pkt = some (ctr, 0) ∧ u.pairSess = some x ∧ m.valid = true ∧
    (x.judge ctr = .fresh ∨ x.judge ctr = .inWindow) ∧ u.smtUp = true

/-- What the endpoint does once such a request has been executed. -/
def State.endpointAnswers (v : State) (m : MgtIn) (x : Session) (ctr st : Nat) (data : List Byte) : State :=
  State.mgtSend { v with pairSess := some (x.mark ctr (v.authAnswer m 2 x 0 ctr st data).bytes) } 0 m.net (v.authAnswer m 2 x 0 ctr st data)

/-- The management complex takes commands: its processor runs firmware, past step 4 of bring-up (11 R436). -/
def State.memberUp (s : State) : Bool := s.spUp && !s.mcReset && decide (phMGMT ≤ s.boot.phase)


end Sys2Proof.Machine
end

