-- ==== Sys2Proof/Certificates/Slice0/Obligations.lean ====
section
/-! DEFINITION. The statements of the row: what the commands of each family do, what they leave alone, and what every step keeps. -/

open Sys2Proof Sys2Proof.Machine

/-- MGMT_POWER_ON, RESET_N and RST_CTRL_DEVICE with KEY 0xD5 each bring the package up from nothing: whatever bring-up finds, fuses and flash are as they were,
and memory, Tarn, queues, partitions and GTIME are empty; RST_CAUSE shows 0, 1 or 2. A power-on shows which management inputs are in window and which is
active; a reset keeps that word of PWR_MGS, and drops the EN outputs in reverse order first. An image that R564 refuses starts the recovery loader. A package
with power takes no MGMT_POWER_ON, and RST_CTRL_DEVICE without the key, DEVICE staying 0 (the model's choice, log entry 14), changes nothing (12 R484, 15
R560, R566, 17 R639, R643, 18 R649). -/
def Obligations.PowerOnAndResetsStartOver : Prop :=
  let fresh (s t : State) (f : BootFind) (cause : Nat) : Prop := t.mgmtOn = true ∧ t.pos = f.straps.brdPos.val ∧ t.fuses = s.fuses ∧ t.flash = s.flash ∧
    t.mem = [] ∧ t.tarn = [] ∧ t.queues = [] ∧ t.parts = [] ∧ t.gtime = [] ∧ t.fld .rst F.RST_CAUSE_DEVICE = cause ∧ t.pending = s.pending ∧
    (f.spOk = true → (∃ e, s.cold.imageCheck f = some e) → t.boot.phase = phRECOVERY ∧ t.flag .pci F.PCI_STATUS_RECOVERY = true) ∧
    (f.spOk = false → t.boot.phase = phHALTED)
  (∀ (s : State) (b other : Bool) (f : BootFind), s.mgmtOn = false →
    exec (.mgmtPowerOn b other f) s =
      .next { ((((s.cold.setFld (.pwr pd0) F.PWR_MGS_ACTIVE b.toNat).setFld (.pwr pd0) F.PWR_MGS_A_OK (!b || other).toNat).setFld (.pwr pd0) F.PWR_MGS_B_OK (b || other).toNat).bringUp f) with pending := s.pending } ∧
    ∃ t, exec (.mgmtPowerOn b other f) s = .next t ∧ fresh s t f 0 ∧ t.fld (.pwr pd0) F.PWR_MGS_ACTIVE = b.toNat ∧
      t.flag (.pwr pd0) F.PWR_MGS_A_OK = (!b || other) ∧ t.flag (.pwr pd0) F.PWR_MGS_B_OK = (b || other)) ∧
  (∀ (s : State) (b other : Bool) (f : BootFind), s.mgmtOn = true → exec (.mgmtPowerOn b other f) s = .next s) ∧
  (∀ (s : State) (f : BootFind), s.mgmtOn = true →
    exec (.resetN f) s = .next (s.finish (((s.dropRails.cold.wr (Page.base (.pwr pd0) + F.PWR_MGS_ACTIVE.off)
      (s.rd (Page.base (.pwr pd0) + F.PWR_MGS_ACTIVE.off))).setFld .rst F.RST_CAUSE_DEVICE 1).bringUp f)) ∧
    ∃ t, exec (.resetN f) s = .next t ∧ fresh s t f 1 ∧
      t.rd (Page.base (.pwr pd0) + F.PWR_MGS_ACTIVE.off) = s.rd (Page.base (.pwr pd0) + F.PWR_MGS_ACTIVE.off)) ∧
  (∀ (s : State) (v : Word) (f : BootFind), s.mgmtOn = true → v.getLsbD 17 = true → v.toNat >>> 24 = 0xD5 →
    exec (.rstCtrlDevice v f) s = .next (s.finish (((s.dropRails.cold.wr (Page.base (.pwr pd0) + F.PWR_MGS_ACTIVE.off)
      (s.rd (Page.base (.pwr pd0) + F.PWR_MGS_ACTIVE.off))).setFld .rst F.RST_CAUSE_DEVICE 2).bringUp f)) ∧
    ∃ t, exec (.rstCtrlDevice v f) s = .next t ∧ fresh s t f 2 ∧
      t.rd (Page.base (.pwr pd0) + F.PWR_MGS_ACTIVE.off) = s.rd (Page.base (.pwr pd0) + F.PWR_MGS_ACTIVE.off)) ∧
  (∀ (s : State) (v : Word) (f : BootFind), s.settled = true → v.getLsbD 17 = false ∨ v.toNat >>> 24 ≠ 0xD5 → exec (.rstCtrlDevice v f) s = .next s)

/-- Bring-up goes on by its own steps, and each has no effect out of its place. REFCLK_PRESENT in WAIT_REFCLK locks the PD0 root PLL and enables the first
rail. RAIL_POWER_GOOD enables the next rail, and after the last, in CLOCKS, every compute die that is not fenced shows array state SELFTEST. RAIL_PG_TIMEOUT
loses the rail that is due: a compute die's or PD1's leads to the next rail, another to HALTED. BRINGUP_BRANCHES_START brings every die up by its self-test
and then, unless that halts the package, starts the ports and stacks. STACK_TRAINING_REPAIR_DONE drops the rows that hard repair covers from the repair log,
remaps the stack's others, and leaves it in REPAIR and eligible for its round, or FAILED when training fails or a channel would need more than 256
entries; STACK_TEST_DONE logs and remaps its new rows and leaves it READY, or FAILED for the same reasons. BOARD_PRES_CONFIRM takes board-unified
presentation when ports of the N1, N2 and N3 bundles reported the own plan digest, and else falls back (15 R560, R561, R568–R571, 06 R250, R258, R259,
03 R132, 18 R649). -/
def Obligations.BringUpRunsItsSteps : Prop :=
  (∀ s : State, s.settled = true → s.boot.phase = phWAIT_REFCLK →
    ∃ t, exec .refclkPresent s = .next t ∧ t.boot.phase = phRAILS ∧ t.boot.rail = 0 ∧ t.boot.refPresent = true ∧ t.fld (.clk pd0) F.CLK_STATUS_LOCK = 1 ∧
      t.fld (.clk pd0) F.CLK_STATUS_REFLOST_MODE = 0 ∧ t.out = .enable .pd0 true :: s.out) ∧
  (∀ s : State, s.settled = true → s.boot.phase ≠ phWAIT_REFCLK → exec .refclkPresent s = .next s) ∧
  (∀ (s : State) (r : Rail), s.settled = true → s.boot.phase = phRAILS → railOrder[s.boot.rail + 1]? = some r →
    exec .railPowerGood s = .next { s with boot := { s.boot with rail := s.boot.rail + 1, phase := phRAILS }, out := .enable r true :: s.out }) ∧
  (∀ s : State, s.settled = true → s.boot.phase = phRAILS → railOrder.length ≤ s.boot.rail + 1 →
    ∃ t, exec .railPowerGood s = .next t ∧ t.boot = { s.boot with rail := s.boot.rail + 1, phase := phCLOCKS } ∧ t.out = s.out ∧
      ∀ c : CDie, s.fencedDies.contains (CDie.die c) = false → t.msfState c = msfSELFTEST) ∧
  (∀ s : State, s.settled = true → s.boot.phase ≠ phRAILS → exec .railPowerGood s = .next s ∧ exec .railPgTimeout s = .next s) ∧
  (∀ (s : State) (r : Rail), s.mgmtOn = true → s.boot.phase = phRAILS → railOrder[s.boot.rail]? = some r → (r = .pd1 ∨ ∃ c, r = .cd c) →
    exec .railPgTimeout s = .next (s.finish ((s.loseRail r).nextRail))) ∧
  (∀ (s : State) (r : Rail), s.mgmtOn = true → s.boot.phase = phRAILS → railOrder[s.boot.rail]? = some r → (∀ c, r ≠ .cd c) → r ≠ .pd1 →
    exec .railPgTimeout s = .next (s.finish ((s.loseRail r).halt)) ∧ (s.loseRail r).halt.boot.phase = phHALTED) ∧
  (∀ (s : State) (t : SelfTest), s.settled = true → s.boot.phase ≠ phCLOCKS → exec (.bringupBranchesStart t) s = .next s) ∧
  (∀ (s : State) (t : SelfTest), s.mgmtOn = true → s.boot.phase = phCLOCKS →
    let u := allDies.foldl (fun (u : State) d => u.dieUp t d)
      { s with boot := { s.boot with phase := phFABRIC_MEMORY, rounds := 0, coreHoles := [], dmaHoles := [] } }
    (u.boot.phase = phHALTED → exec (.bringupBranchesStart t) s = .next (s.finish u)) ∧
    (u.boot.phase ≠ phHALTED → exec (.bringupBranchesStart t) s = .next (s.finish
      (((allCDies.foldl State.startStacks (u.bootPorts.foldl (fun (x : State) q => x.startTrain q false) u)).settleRounds 4).showProxy.bringupReady)))) ∧
  (∀ (s : State) (c : CDie) (k : Fin 3) (pass : Bool) (fixed : List (Fin 12 × BitVec 22)), s.mgmtOn = true → s.dieDown c = false →
    s.boot.phase = phFABRIC_MEMORY → s.fld (.mem c) (F.MEM_STACK_STATE k.val) = skTRAINING →
    let mine (r : RepairEntry) : Bool := r.die == c && r.stack == k
    let log := s.repairLog.filter (fun r => !(mine r && fixed.contains (r.ch, r.row)))
    let rows := (log.filter mine).map (fun r => (r.ch, r.row))
    let fits : Prop := ∀ ch : Fin 12, s.remapCount c k ch + rows.countP (fun r => r.1 == ch) ≤ 256
    let u : State := { s with repairLog := log, remaps := s.remaps ++ rows.map (fun r => ⟨c, k, r.1, r.2, 0⟩) }
    (pass = true → fits → exec (.stackTrainingRepairDone c k ⟨pass, fixed⟩) s = .next (s.finish ((State.startRound (State.setFld
      { u with boot := { s.boot with eligible := s.boot.eligible ++ [3 * c.val + k.val] } } (.mem c) (F.MEM_STACK_STATE k.val) skREPAIR)).smtWake))) ∧
    (pass = false → fits → exec (.stackTrainingRepairDone c k ⟨pass, fixed⟩) s =
      .next (s.finish (((u.setFld (.mem c) (F.MEM_STACK_STATE k.val) skFAILED).stackOver c).smtWake))) ∧
    (¬ fits → exec (.stackTrainingRepairDone c k ⟨pass, fixed⟩) s =
      .next (s.finish (((State.setFld { s with repairLog := log } (.mem c) (F.MEM_STACK_STATE k.val) skFAILED).stackOver c).smtWake)))) ∧
  (∀ (s : State) (c : CDie) (k : Fin 3) (pass : Bool) (rows : List (Fin 12 × BitVec 22)), s.mgmtOn = true → s.dieDown c = false →
    s.fld (.mem c) (F.MEM_STACK_STATE k.val) = skTESTING → (3 * c.val + k.val) ∈ s.boot.eligible → c.val / 2 = s.boot.rounds →
    let new := rows.eraseDups.filter (fun r => !(s.isRemapped c ⟨k, r.1, r.2, none⟩))
    let u := (new.foldl (fun (t : State) r => t.logRepair c ⟨k, r.1, r.2, none⟩) s).setFld (.mem c) (F.MEM_STACK_TEST_ROWS k.val) (min 0xFFFF new.length)
    let v : State := { u with remaps := u.remaps ++ new.map (fun r => ⟨c, k, r.1, r.2, 0⟩) }
    let bad (x : State) : State := State.setFld { x with boot := { x.boot with eligible := x.boot.eligible.filter (· != 3 * c.val + k.val) } } (.mem c)
      (F.MEM_STACK_STATE k.val) skFAILED
    let fits : Prop := ∀ ch : Fin 12, u.remapCount c k ch + new.countP (fun r => r.1 == ch) ≤ 256
    (pass = true → fits → exec (.stackTestDone c k pass rows) s =
      .next (s.finish (((v.setFld (.mem c) (F.MEM_STACK_STATE k.val) skREADY).stackOver c).smtWake))) ∧
    (pass = false → fits → exec (.stackTestDone c k pass rows) s = .next (s.finish (((bad v).stackOver c).smtWake))) ∧
    (¬ fits → exec (.stackTestDone c k pass rows) s = .next (s.finish (((bad u).stackOver c).smtWake)))) ∧
  (∀ s : State, s.settled = true → s.boot.boardSettled = true ∨ s.boot.phase ≠ phFABRIC_MEMORY → exec .boardPresConfirm s = .next s) ∧
  (∀ s : State, s.mgmtOn = true → s.boot.boardSettled = false → s.boot.phase = phFABRIC_MEMORY →
    let heard (n : Nat) : Prop := ∃ q : Port, portRole s.profile q = .n n ∧ s.flag (.lnk q) F.LNK_PARTNER_VALID = true ∧
      (s.port q).planDigest = digest16 s.bootPlan
    (heard 1 ∧ heard 2 ∧ heard 3 → exec .boardPresConfirm s = .next (s.finish ((State.boardSessions (State.setFld
      { s with boot := { s.boot with boardSettled := true, boardPres := true } } .pci F.PCI_STATUS_BOARD_UNIFIED 1)).bringupReady))) ∧
    (¬ (heard 1 ∧ heard 2 ∧ heard 3) → exec .boardPresConfirm s = .next (s.finish (((State.setFld
      { s with boot := { s.boot with boardSettled := true, boardPres := false, fallback := true } } .pci F.PCI_STATUS_BOARD_UNIFIED 0).notify 4 0x0101
        []).bringupReady))))

/-- A core's DOORBELL moves TAIL when no gate waits and it passes the test of R197, changing nothing else, and stops the queue in ERROR when it does not; a queue
that takes no doorbells or stands in ERROR ignores it. DOORBELL_GATED appends a gate with the cairn and generation of the queue's gate, and the gates that are
open then open; a ninth stops the queue. DOORBELL_FLUSH empties the queue as FLUSHED and takes it out of ERROR. A host's doorbell through a PF reaches the queue
of the partition VCX_DB_PART holds, one through a VF the queue of its own partition (05 R197–R200, R224). -/
def Obligations.DoorbellsMoveTail : Prop :=
  (∀ (s : State) (r : QRef) (t : BitVec 24), s.settled = true → s.doorOpen r = true → (s.queue r).err = false → (s.queue r).gates = [] →
    t ≠ (s.queue r).tail → ixDist t (s.queue r).tail < 2 ^ 23 → ixDist t (s.queue r).head ≤ 2 ^ (s.queue r).log2 →
    exec (.doorbell .core r t) s = .next (s.setQueue r { s.queue r with tail := t })) ∧
  (∀ (s : State) (r : QRef) (t : BitVec 24), s.settled = true → (s.doorOpen r = false ∨ (s.queue r).err = true) →
    exec (.doorbell .core r t) s = .next s ∧ exec (.doorbellGated .core r t) s = .next s) ∧
  (∀ (s : State) (r : QRef) (t : BitVec 24), s.mgmtOn = true → s.doorOpen r = true → (s.queue r).err = false → (s.queue r).gates = [] →
    t ≠ (s.queue r).tail → tailOk (s.queue r) (s.queue r).tail t = false →
    exec (.doorbell .core r t) s = .next (s.finish (s.queueError r))) ∧
  (∀ (s : State) (r : QRef) (t : BitVec 24), s.mgmtOn = true → s.doorOpen r = true → (s.queue r).err = false → t ≠ newestTail (s.queue r) →
    let g : Gate := ⟨some (s.queue r).gateCairn, (s.queue r).gateGen, t, false⟩
    ((s.queue r).gates.length < 8 → tailOk (s.queue r) (newestTail (s.queue r)) t = true →
      exec (.doorbellGated .core r t) s = .next (s.finish ((s.setQueue r { s.queue r with gates := (s.queue r).gates ++ [g] }).settleGates r 9))) ∧
    (8 ≤ (s.queue r).gates.length ∨ tailOk (s.queue r) (newestTail (s.queue r)) t = false →
      exec (.doorbellGated .core r t) s = .next (s.finish (s.queueError r)))) ∧
  (∀ (s : State) (r : QRef), s.mgmtOn = true → s.doorOpen r = true →
    exec (.doorbellFlush .core r) s = .next (s.finish ((s.flushQueue r stFLUSHED).setQueue r { (s.flushQueue r stFLUSHED).queue r with err := false }))) ∧
  (∀ (s : State) (n : Fin 4) (r : QRef) (t : BitVec 24), s.mgmtOn = true → s.pageServed (.fn (.pf n)) (.vcx r.die) = true →
    CDie.die r.die ∉ s.fencedDies →
    exec (.doorbell (.host (.pf n)) r t) s =
      .next (s.finish (s.door { r with part := ⟨s.fld (.vcx r.die) F.VCX_DB_PART_PART % 64, Nat.mod_lt _ (by decide)⟩ } (t.setWidth 32)))) ∧
  (∀ (s : State) (p : Part) (r : QRef) (t : BitVec 24), s.mgmtOn = true → s.vfOn p = true → s.pageThere (.vcx r.die) = true →
    CDie.die r.die ∉ s.fencedDies →
    exec (.doorbell (.host (.vf p)) r t) s = .next (s.finish (s.vfWrite p (.door { r with part := p } (t.setWidth 32)))))

/-- DESCRIPTOR_FETCH reads the entry at HEAD and HEAD moves on: an entry that passes the check of its kind waits to start, one that fails it completes with that
status and raises a C2 fault, and one that cannot be read stops the queue in ERROR. GATE_TIMEOUT removes a gate that still waits, completes its entries with
CAIRN_TIMEOUT, raises a C1 fault, and lets the later gates proceed (05 R196, R199, R201, R202, 03 R98). -/
def Obligations.DescriptorFetchChecksTheEntry : Prop :=
  (∀ (s u : State) (r : QRef) (o : Obs) (st : AccStatus) (bs : List Byte), s.mgmtOn = true → (s.queue r).enable = true → (s.queue r).err = false →
    s.partFenced r.part = false → s.enginesRun r.die = true →
    (r.q = 0 → s.msfState r.die ≠ msfHALTED ∧ s.msfState r.die ≠ msfOFF ∧ s.msfState r.die ≠ msfSELFTEST) →
    (s.queue r).head ≠ (s.queue r).tail →
    s.readBoard r.die ⟨some r.part, some r.ctx⟩ r.part (entryAddr r (s.queue r) (s.queue r).head) r.entrySize o = (u, st, bs) →
    u.partFenced r.part = false →
    let q := (s.queue r).advance
    (st = .ok → u.checkDesc r bs = 0 →
      exec (.descriptorFetch r o) s = .next (s.finish (u.setQueue r { q with fetched := q.fetched ++ [⟨(s.queue r).head, bs⟩] }))) ∧
    (∀ n, st = .ok → u.checkDesc r bs = n → n ≠ 0 → exec (.descriptorFetch r o) s = .next (s.finish
      (((u.setQueue r q).completeUnrun r bs n).raise r.page (if n = stRANGE then 0x101 else 0x100) 2 ⟨some r.part, some r.ctx⟩))) ∧
    (st ≠ .ok → exec (.descriptorFetch r o) s = .next (s.finish (u.setQueue r { u.queue r with err := true })))) ∧
  (∀ q : QueueSt, q.skips = [] → q.advance = { q with head := q.head + 1 }) ∧
  (∀ (s : State) (r : QRef) (g : Gate) (rest : List Gate), s.mgmtOn = true → (s.queue r).gates = g :: rest → (s.queue r).gateTo ≠ 0 →
    (s.queue r).err = false → s.gateNow r.die g = .wait → s.enginesRun r.die = true →
    exec (.gateTimeout r) s = .next (s.finish ((((((s.setQueue r { s.queue r with gates := rest }).failEntries r g.tail stCAIRN_TIMEOUT).fireEvent
      (.vcx r.die) 2).raise (.vcx r.die) 0x105 1 ⟨some r.part, some r.ctx⟩).settleGates r 9))))

/-- SWEEP_SELECT gives an IDLE array the oldest entry of the next ready queue in round-robin order, in LOAD for the context that owns the array and in SWITCH
for another, and completes it with NO_ARRAY where the array is UNAVAILABLE; in another state it does nothing. SWITCH_COMPLETE clears the array for the incoming
context and enters LOAD, or ABORT where the sweep was stopped during the switch. TILE_LOAD_DONE puts a tile and the rows that will mismatch into the active
plane, with the sweep's start work for its first, or into the empty shadow plane while a pass that is not the last streams; the first tile leads to STREAM
unless the load failed. SWEEP_PASS_END ends the pass of the oldest sweep that is not done. SWEEP_LAST_ROW fixes the limit and enters DRAIN, or overlaps into the
next sweep of the queue that has loaded. SWEEP_COMPLETE completes the oldest sweep that is done, SWEEP_LIMIT aborts a sweep that has spent its limit with LIMIT
and a C2 fault, and ABORT_COMPLETE completes the draining and running sweeps, those not done as ABORTED, and leaves the array IDLE (03 R88, R105, R110, R114,
R127, R132, R133, R135–R137). -/
def Obligations.SweepsAreGrantedAndRun : Prop :=
  (∀ (s u : State) (c : CDie) (k : Nat) (e : Entry), s.mgmtOn = true →
    roundRobin (s.array c).grantArr (fun k => s.readyQueue (sweepQueue c k)) = some k → s.takeEntry (sweepQueue c k) = some (e, u) →
    let run : RunSweep := { ref := sweepQueue c k, index := e.index, desc := e.bytes }
    (s.msfState c = msfIDLE → (u.array c).owner = some ((sweepQueue c k).part, (sweepQueue c k).ctx) →
      exec (.sweepSelect c) s = .next (s.finish (((u.setArray c { u.array c with run := some run, grantArr := k }).setMsf c msfLOAD).showCurrent c))) ∧
    (s.msfState c = msfIDLE → (u.array c).owner ≠ some ((sweepQueue c k).part, (sweepQueue c k).ctx) →
      exec (.sweepSelect c) s = .next (s.finish ((u.setArray c { u.array c with run := some run, grantArr := k }).setMsf c msfSWITCH))) ∧
    (s.msfState c = msfUNAVAILABLE →
      exec (.sweepSelect c) s = .next (s.finish (u.completeSweep (sweepQueue c k) e.bytes stNO_ARRAY {} 0 0 0 false)))) ∧
  (∀ (s : State) (c : CDie), s.settled = true → s.msfState c ≠ msfIDLE → s.msfState c ≠ msfUNAVAILABLE → exec (.sweepSelect c) s = .next s) ∧
  (∀ (s : State) (c : CDie) (r : RunSweep), s.mgmtOn = true → s.msfState c = msfSWITCH → (s.array c).run = some r →
    let u := s.setArray c { s.array c with owner := some (r.ref.part, r.ref.ctx), drain := [], next := none }
    (r.status = 0 → exec (.switchComplete c) s = .next (s.finish ((u.setMsf c msfLOAD).showCurrent c))) ∧
    (r.status ≠ 0 → exec (.switchComplete c) s = .next (s.finish (u.setMsf c msfABORT)))) ∧
  (∀ (s : State) (c : CDie) (cells : List CellUpset) (tie : Bool) (o : Obs) (r r' : RunSweep) (t : Tile) (bad : List (Nat × Bool)) (res : PassRes),
    s.mgmtOn = true → (s.array c).run = some r →
    (s.msfState c = msfLOAD → loadStep c r true cells tie o s = (res, r', t, bad) →
      let u := res.s.endStep c .run { r' with tile := some t, badRows := bad } res false
      (res.err = 0 → exec (.tileLoadDone c ⟨cells, tie⟩ o) s = .next (s.finish (u.setMsf c msfSTREAM))) ∧
      (res.err ≠ 0 → exec (.tileLoadDone c ⟨cells, tie⟩ o) s = .next (s.finish u))) ∧
    (s.msfState c = msfSTREAM → r.tile = none → loadStep c r false cells tie o s = (res, r', t, bad) →
      exec (.tileLoadDone c ⟨cells, tie⟩ o) s = .next (s.finish (res.s.endStep c .run { r' with tile := some t, badRows := bad } res false))) ∧
    (s.msfState c = msfSTREAM → r.tile.isSome = true → r.lastPass = false → r.shadow = none → loadStep c r.advance false cells tie o s = (res, r', t, bad) →
      exec (.tileLoadDone c ⟨cells, tie⟩ o) s = .next (s.finish (res.s.endStep c .run { r with shadow := some t, badNext := bad } res false)))) ∧
  (∀ (s : State) (c : CDie) (cells : List CellUpset) (tie : Bool) (o : Obs), s.settled = true → s.msfState c ≠ msfLOAD → s.msfState c ≠ msfSTREAM →
    exec (.tileLoadDone c ⟨cells, tie⟩ o) s = .next s) ∧
  (∀ (s : State) (c : CDie) (ups : PassUpset) (tie : Bool) (o : Obs) (r r' : RunSweep) (p : PassRes) (inj : Bool), s.mgmtOn = true →
    (s.array c).get (s.array c).passSlot = some r → (s.msfState c = msfSTREAM ∨ s.msfState c = msfDRAIN) → r.passReady (s.issueHold c) = true →
    passStep { s := s, tie := tie, ups := ups } c (r.enter (s.sweepLimitReg c)) o = (p, r', inj) →
    (p.err = 0 → exec (.sweepPassEnd c ups.prods ups.accs tie o) s = .next (s.finish (p.s.endStep c (s.array c).passSlot r'.pass p inj))) ∧
    (p.err ≠ 0 → exec (.sweepPassEnd c ups.prods ups.accs tie o) s = .next (s.finish (p.s.endStep c (s.array c).passSlot r' p inj)))) ∧
  (∀ (s : State) (c : CDie) (r : RunSweep), s.mgmtOn = true → (s.array c).run = some r → s.msfState c = msfSTREAM → r.tile.isSome = true →
    r.lastPass = true → r.lastRow = false → s.issueHold c = false →
    let r' : RunSweep := { r.enter (s.sweepLimitReg c) with lastRow := true }
    ((s.array c).next = none →
      exec (.sweepLastRow c) s = .next (s.finish ((s.setArray c { s.array c with run := some r', next := none }).setMsf c msfDRAIN))) ∧
    (∀ (n : RunSweep) (e : Entry) (rest : List Entry), (s.array c).next = some n → (s.queue r.ref).fetched = e :: rest → n.index = e.index → n.desc = e.bytes →
      exec (.sweepLastRow c) s = .next (s.finish (((s.setQueue r.ref { s.queue r.ref with fetched := rest }).setArray c
        { s.array c with drain := (s.array c).drain ++ [r'], run := some n, next := none }).showCurrent c)))) ∧
  (∀ (s : State) (c : CDie), s.settled = true → s.issueHold c = true → exec (.sweepLastRow c) s = .next s) ∧
  (∀ (s : State) (c : CDie) (r : RunSweep), s.mgmtOn = true → (s.array c).drain = [] → (s.array c).run = some r → s.msfState c = msfDRAIN →
    r.done = true → exec (.sweepComplete c) s = .next (s.finish (((s.setArray c { s.array c with run := none }).setMsf c msfIDLE).finishSweep r))) ∧
  (∀ (s : State) (c : CDie) (r : RunSweep) (rest : List RunSweep), s.mgmtOn = true → (s.array c).drain = r :: rest →
    (s.msfState c = msfSTREAM ∨ s.msfState c = msfDRAIN) → r.done = true →
    exec (.sweepComplete c) s = .next (s.finish ((s.setArray c { s.array c with drain := rest }).finishSweep r))) ∧
  (∀ (s : State) (c : CDie) (r : RunSweep), s.mgmtOn = true → (s.array c).run = some r → (s.array c).drain = [] →
    (s.msfState c = msfLOAD ∨ s.msfState c = msfSTREAM ∨ s.msfState c = msfDRAIN) →
    (RunSweep.overLimit (s.sweepLimitReg c) r = true → exec (.sweepLimit c) s = .next (s.finish ((((s.setArray c
      { s.array c with run := some (r.fail stLIMIT), next := none }).setMsf c msfABORT).raise (.msf c) 0x104 2 ⟨some r.ref.part, some r.ref.ctx⟩)))) ∧
    (RunSweep.overLimit (s.sweepLimitReg c) r = false → s.quiet = true → exec (.sweepLimit c) s = .next s)) ∧
  (∀ (s : State) (c : CDie), s.mgmtOn = true → s.msfState c = msfABORT → exec (.abortComplete c) s = .next (s.finish
    (((s.array c).drain ++ (s.array c).run.toList).foldl (fun (u : State) (r : RunSweep) => u.finishSweep (if r.done then r else r.fail stABORTED))
      ((s.setArray c { s.array c with run := none, drain := [], next := none }).setMsf c msfIDLE)))) ∧
  (∀ (s : State) (c : CDie), s.settled = true → s.msfState c ≠ msfABORT → exec (.abortComplete c) s = .next s)

/-- TRN_ZERO_GO writes BASE and SIZE, and with GO starts an order: GO and BUSY show it, Tarn and memory are as they were; GO while BUSY has no effect at all.
TRN_ZERO_DONE zeroes the order's granules, as far as the die's 4,096 go, and leaves every other byte of Tarn and all memory as it was; GO and BUSY clear and DONE
sets. TRN_PART_WRITE changes the partition's allocation and no other register, or is refused with ALLOC_REFUSED, a C1 fault, when it overlaps another
partition's or passes 4,096 granules (03 R95, R143, R144). -/
def Obligations.TarnZeroingAndAllocation : Prop :=
  (∀ (s : State) (c : CDie) (v : Word), s.settled = true → s.dieDown c = false → s.flag (.trn c) F.TRN_ZERO_STATUS_BUSY = false →
    ∃ t, exec (.trnZeroGo c v) s = .next t ∧ t.flag (.trn c) F.TRN_ZERO_STATUS_BUSY = v.getLsbD 31 ∧ t.fld (.trn c) F.TRN_ZERO_CTRL_BASE = bits v.toNat 11 0 ∧
      t.fld (.trn c) F.TRN_ZERO_CTRL_SIZE = bits v.toNat 24 12 ∧ (v.getLsbD 31 = true → t.flag (.trn c) F.TRN_ZERO_CTRL_GO = true ∧
        Store.get (fun _ => (0, 0)) t.zeroOrders (8 + c.val) = (bits v.toNat 11 0, bits v.toNat 24 12)) ∧ t.tarn = s.tarn ∧ t.mem = s.mem) ∧
  (∀ (s : State) (c : CDie) (v : Word), s.settled = true → v.getLsbD 31 = true → s.flag (.trn c) F.TRN_ZERO_STATUS_BUSY = true →
    exec (.trnZeroGo c v) s = .next s) ∧
  (∀ (s : State) (c : CDie) (b n : Nat), s.mgmtOn = true → s.dieDown c = false → s.flag (.trn c) F.TRN_ZERO_STATUS_BUSY = true →
    Store.get (fun _ => (0, 0)) s.zeroOrders (8 + c.val) = (b, n) → b < 4096 →
    let z := s.tarnZero c (b * tarnGran) (min n (4096 - b) * tarnGran)
    let w := ((((z.setFld (.trn c) F.TRN_ZERO_CTRL_GO 0).setFld (.trn c) F.TRN_ZERO_STATUS_BUSY 0).setFld (.trn c) F.TRN_ZERO_STATUS_DONE 1).setFld (.trn c)
      F.BLK_STATUS_BUSY 0)
    let u : State := { w with zeroOrders := Store.set (fun _ => (0, 0)) s.zeroOrders (8 + c.val) (0, 0) }
    exec (.trnZeroDone c) s = .next (s.finish (u.fireEvent (.trn c) 1)) ∧ u.mem = s.mem ∧
      u.flag (.trn c) F.TRN_ZERO_CTRL_GO = false ∧ u.flag (.trn c) F.TRN_ZERO_STATUS_BUSY = false ∧ u.flag (.trn c) F.TRN_ZERO_STATUS_DONE = true ∧
      ∀ (e : CDie) (off : Nat), off < tarnSpan →
        u.tarnByte e off = if e = c ∧ b * tarnGran ≤ off ∧ off < (b + n) * tarnGran then 0 else s.tarnByte e off) ∧
  (∀ (s : State) (c : CDie), s.settled = true → s.flag (.trn c) F.TRN_ZERO_STATUS_BUSY = false → exec (.trnZeroDone c) s = .next s) ∧
  (∀ (s : State) (c : CDie) (p : Part) (v : Word), s.mgmtOn = true → s.dieDown c = false →
    let free : Prop := bits v.toNat 11 0 + bits v.toNat 24 12 ≤ 4096 ∧
      ∀ q : Part, q ≠ p → overlaps (s.fld (.trn c) (F.TRN_PART_BASE q.val), s.fld (.trn c) (F.TRN_PART_SIZE q.val))
        (bits v.toNat 11 0, bits v.toNat 24 12) = false
    let u := (s.setFld (.trn c) (F.TRN_PART_BASE p.val) (bits v.toNat 11 0)).setFld (.trn c) (F.TRN_PART_SIZE p.val) (bits v.toNat 24 12)
    (free → exec (.trnPartWrite c p v) s = .next (s.finish u) ∧ u.fld (.trn c) (F.TRN_PART_BASE p.val) = bits v.toNat 11 0 ∧
      u.fld (.trn c) (F.TRN_PART_SIZE p.val) = bits v.toNat 24 12 ∧
      ∀ a, a ≠ Page.base (.trn c) + (F.TRN_PART_BASE p.val).off → u.rd a = s.rd a) ∧
    (¬ free → exec (.trnPartWrite c p v) s = .next (s.finish (s.raise (.trn c) 0x102 1 {}))))

/-- DISPATCH_START starts the oldest entry of the lowest ready dispatch queue of the next context in round-robin order, on every core of its mask: the core holds
ENTRY as its pc, ARG, its rank and the number of cores in a0, a1 and a2, its RW Seliesel CSRs cleared, and, where its last dispatch was of another context,
scratch, floating-point and vector registers cleared. In the safe state or on a die that is down nothing starts (05 R192, R193, R201, R206). -/
def Obligations.DispatchStartSetsTheCores : Prop :=
  (∀ (s u : State) (c : CDie) (k : Nat) (q : QIx) (e : Entry), s.mgmtOn = true → s.enginesRun c = true →
    roundRobin (s.array c).grantVec (fun k => (lowestQueue vecQueues (fun q => s.canDispatch (vecQueue c k q))).isSome) = some k →
    lowestQueue vecQueues (fun q => s.canDispatch (vecQueue c k q)) = some q → s.takeEntry (vecQueue c k q) = some (e, u) →
    exec (.dispatchStart c) s = .next (s.finish (State.showCores
      (allCores.foldl (fun (t : State) j => if inMask e.bytes j then t.setCore c j (startCore (t.core c j) (vecQueue c k q) u.nextId e.bytes j) else t)
        (State.setArray { u with
          nextId := u.nextId + 1,
          dispatches := u.dispatches ++ [{ id := u.nextId, ref := vecQueue c k q, index := e.index, desc := e.bytes, start := u.now (CDie.die c), limit := (if dwd e.bytes 12 = 0 then u.fld (.vcx c) F.VCX_DISPATCH_LIMIT_LIMIT else dwd e.bytes 12) }] }
          c { u.array c with grantVec := k })) c))) ∧
  (∀ (s : State) (c : CDie), s.settled = true → s.enginesRun c = false → exec (.dispatchStart c) s = .next s) ∧
  (∀ (x : CoreSt) (r : QRef) (id : Nat) (d : List Byte) (k : Core),
    let y := startCore x r id d k
    y.run = some id ∧ y.prev = some (r.part, r.ctx) ∧ y.pc = BitVec.ofNat 64 (dw64 d 2) ∧ y.xr 10 = BitVec.ofNat 64 (dw64 d 4) ∧
      y.xr 11 = BitVec.ofNat 64 (allCores.filter (fun j => j.val < k.val && inMask d j)).length ∧
      y.xr 12 = BitVec.ofNat 64 (allCores.filter (inMask d)).length ∧
      y.seed = 0 ∧ y.tid = 0 ∧ y.index = 0 ∧ y.fmt = 0 ∧ y.rnd = 0 ∧ y.anchor = 0 ∧ y.flags = 0 ∧
      (x.prev ≠ some (r.part, r.ctx) → y.scratch = [] ∧ y.f = [] ∧ y.v = [] ∧ ∀ n, n ≠ 0 → n ≠ 10 → n ≠ 11 → n ≠ 12 → y.xr n = 0))

/-- An ECALL of a core that is ready runs the service a7 names, whichever of ECALL_EXIT and ECALL_SIGNAL brings it: EXIT stops the core with its exit code,
SIGNAL makes it wait for its stores with the signal of a0, a1 and a2, and another a7 ends the dispatch with CORE_TRAP. CORE_FENCE makes the core wait for its
stores. CORE_TRAP of an exception, and DISPATCH_LIMIT for a dispatch with a limit, stop the dispatch with their status and a C2 fault. DISPATCH_COMPLETE takes
the oldest finished dispatch of the die, frees its cores and completes it with its status, its largest exit code, its trap and its cycles (05 R186, R188, R190,
R206, R207). -/
def Obligations.CoresExitTrapAndComplete : Prop :=
  (∀ (s : State) (c : CDie) (k : Fin 32) (pre : List CoreWrite) (x : CoreSt) (d : Dispatch), s.mgmtOn = true → s.coreReady c k pre = some (x, d) →
    ∀ i, i = Instr.ecallExit c k pre ∨ i = Instr.ecallSignal c k pre →
    (x.xr 17 = 0 → exec i s = .next (s.finish (((s.setCore c k { x with run := none }).updDispatch d.id (fun d =>
      { d with exits := d.exits ++ [⟨k.val, BitVec.ofNat 8 (x.xr 10).toNat⟩], lastExit := s.now (CDie.die c) })).showCores c))) ∧
    (x.xr 17 = 1 → exec i s = .next (s.finish ((s.setCore c k { x with fencing := true, sigWait := some (BitVec.ofNat 32 (x.xr 10).toNat,
      bits (x.xr 11).toNat 15 0, BitVec.ofNat 16 (bits (x.xr 11).toNat 31 16), bits (x.xr 11).toNat 37 32, (x.xr 12).getLsbD 0) }).unfence c k))) ∧
    (x.xr 17 ≠ 0 → x.xr 17 ≠ 1 → exec i s = .next (s.finish ((s.setCore c k x).trapDispatch c k d .exception 8 x.pc)))) ∧
  (∀ (s : State) (c : CDie) (k : Fin 32) (pre : List CoreWrite) (x : CoreSt) (d : Dispatch), s.mgmtOn = true → s.coreReady c k pre = some (x, d) →
    exec (.coreFence c k pre) s = .next (s.finish ((s.setCore c k { x with fencing := true, sigWait := none }).unfence c k))) ∧
  (∀ (s : State) (c : CDie) (k : Fin 32) (pre : List CoreWrite) (o : Obs) (cause : BitVec 8) (epc : BitVec 64) (x : CoreSt) (d : Dispatch), s.mgmtOn = true →
    s.coreReady c k pre = some (x, d) →
    let v := (s.setCore c k x).updDispatch d.id (fun d => { d with
      stopped := true, status := BitVec.ofNat 8 stCORE_TRAP, trap := some ⟨k.val, BitVec.ofNat 8 stCORE_TRAP, cause, epc⟩ })
    exec (.coreTrap c k pre (.exception cause epc) o) s = .next (s.finish (((v.setCore c k (((v.core c k).setCsr 0x341 epc).setCsr 0x342
      (BitVec.ofNat 64 cause.toNat))).bump (.vcx c) C.VCX_TRAPS 1).raise (.vcx c) 0x101 2 ⟨some d.ref.part, some d.ref.ctx⟩))) ∧
  (∀ (s : State) (c : CDie) (k : Fin 32) (d : Dispatch), s.mgmtOn = true → s.coreRun c k = some d → d.limit ≠ 0 →
    exec (.dispatchLimit c k) s = .next (s.finish ((s.updDispatch d.id (fun d => { d with stopped := true, status := BitVec.ofNat 8 stLIMIT })).raise (.vcx c)
      0x103 2 ⟨some d.ref.part, some d.ref.ctx⟩))) ∧
  (∀ (s : State) (c : CDie) (k : Fin 32) (pre : List CoreWrite), s.settled = true → s.coreRun c k = none →
    exec (.ecallExit c k pre) s = .next s ∧ exec (.ecallSignal c k pre) s = .next s ∧ exec (.coreFence c k pre) s = .next s ∧
      exec (.dispatchLimit c k) s = .next s ∧ ∀ t o, exec (.coreTrap c k pre t o) s = .next s) ∧
  (∀ (s : State) (c : CDie) (d : Dispatch), s.mgmtOn = true → s.enginesRun c = true → s.dispatches.find? (fun d => d.ref.die == c && dispatchDone d) = some d →
    let u := (allCores.foldl (fun (t : State) k =>
      if (t.core c k).run = some d.id then t.setCore c k { t.core c k with run := none, fencing := false, sigWait := none } else t)
      { s with dispatches := s.dispatches.filter (fun x => x.id != d.id) }).showCores c
    let exit := d.exits.foldl (fun a e => max a e.code.toNat) 0
    let cycles := if d.exits.isEmpty then 0 else fclkOf d.start d.lastExit
    ((∀ t, d.trap = some t → t.status ≠ d.status) → exec (.dispatchComplete c) s = .next (s.finish (u.completeDispatch d.ref d.desc d.status.toNat exit 0 0 0 cycles))) ∧
    (∀ t, d.trap = some t → t.status = d.status →
      exec (.dispatchComplete c) s = .next (s.finish (u.completeDispatch d.ref d.desc d.status.toNat exit t.core t.cause.toNat t.epc cycles))))

/-- An Xsly operation of a core that is ready leaves the core as its own function says, with vstart 0, and one that is illegal traps. It changes only that core,
and of it only vector bytes, SLY_FLAGS and vstart: vsly.adda128 and vsly.adda64 only the bytes of their destination group from element vstart to vl,
vsly.unpack only 4 bytes an element of its destination group. A remote access of a core becomes the requests of its pieces, each under the die's retries and an
AMO under none; an unmapped board address is refused and traps; a load of a core from its own die's memory completes in the step (05 R187, R189–R191, 06 R233,
R235, R236). -/
def Obligations.CoreOperationsAndTheirFrame : Prop :=
  (∀ (s : State) (c : CDie) (k : Fin 32) (pre : List CoreWrite) (vd vs1 vs2 : Fin 32) (x : CoreSt) (d : Dispatch), s.mgmtOn = true →
    s.coreReady c k pre = some (x, d) →
    ∀ (i : Instr) (r : VslyRes), ((i = .vslyAdda128 c k pre vd vs1 vs2 ∧ r = adda128 x vd vs1 vs2 s) ∨ (i = .vslyAdda64 c k pre vd vs1 vs2 ∧ r = adda64 x vd vs1 vs2 s) ∨
      (i = .vslyCvt c k pre vd vs1 vs2 ∧ r = vslyConvert x vd vs1 vs2 s) ∨ (i = .vslyUnpack c k pre vd vs1 vs2 ∧ r = Sys2Proof.Machine.vslyUnpack x vd vs1 vs2 s)) →
    (∀ y u, r = some (y, u) → exec i s = .next (s.finish (u.setCore c k (y.setCsr 8 0)))) ∧
    (r = none → exec i s = .next (s.finish ((s.setCore c k x).trapDispatch c k d .exception 2 x.pc)))) ∧
  (∀ (x y : CoreSt) (s u : State) (vd vs1 vs2 : Fin 32),
    (adda128 x vd vs1 vs2 s = some (y, u) ∨ adda64 x vd vs1 vs2 s = some (y, u) ∨ vslyConvert x vd vs1 vs2 s = some (y, u) ∨
      Sys2Proof.Machine.vslyUnpack x vd vs1 vs2 s = some (y, u)) →
    y = { x with v := y.v, flags := y.flags } ∧ u = { s with freeCtr := u.freeCtr }) ∧
  (∀ (x y : CoreSt) (s u : State) (vd vs1 vs2 : Fin 32) (i : Nat),
    (adda128 x vd vs1 vs2 s = some (y, u) → i < 128 * vd.val + 16 * (x.vstart / 2) ∨ 128 * vd.val + 16 * (x.vl / 2) ≤ i →
      Store.get (fun _ => 0) y.v i = Store.get (fun _ => 0) x.v i) ∧
    (adda64 x vd vs1 vs2 s = some (y, u) → i < 128 * vd.val + 8 * x.vstart ∨ 128 * vd.val + 8 * x.vl ≤ i →
      Store.get (fun _ => 0) y.v i = Store.get (fun _ => 0) x.v i) ∧
    (Sys2Proof.Machine.vslyUnpack x vd vs1 vs2 s = some (y, u) → i < 128 * vd.val + 4 * x.vstart ∨ 128 * vd.val + 4 * x.vl ≤ i →
      Store.get (fun _ => 0) y.v i = Store.get (fun _ => 0) x.v i)) ∧
  (∀ (s : State) (c : CDie) (k : Fin 32) (pre : List CoreWrite) (op : RemoteOp) (o : Obs) (x : CoreSt) (d : Dispatch) (pos : Nat) (t : CDie) (off : Nat),
    s.mgmtOn = true → s.coreReady c k pre = some (x, d) → op.size ≠ 0 → op.misaligned = false → corePlace op.addr.toNat = .board →
    extentMapped op.addr.toNat op.size = true → (placeOf op.addr.toNat = .mem pos t off ∨ placeOf op.addr.toNat = .tarn pos t off) →
    (pos ≠ s.pos ∨ t ≠ c) →
    (∀ (r : LoadDst) (a : BitVec 64) (n : Nat), op = .load r a n → exec (.coreRemoteAccess c k pre ⟨op, o⟩) s =
      .next (s.finish ((s.setCore c k x).issueParts c (s.retries c) (remoteParts s c k d (s.boardCoord pos t 0) op)))) ∧
    (∀ (a : BitVec 64) (bs : List (Option Byte)), op = .store a bs → exec (.coreRemoteAccess c k pre ⟨op, o⟩) s =
      .next (s.finish ((s.setCore c k x).issueParts c (s.retries c) (remoteParts s c k d (s.boardCoord pos t 0) op)))) ∧
    (∀ (f : Fin 9) (w : Bool) (a v : BitVec 64) (rd : Fin 32), op = .amo f w a v rd → exec (.coreRemoteAccess c k pre ⟨op, o⟩) s =
      .next (s.finish ((s.setCore c k x).issueParts c 0 (remoteParts s c k d (s.boardCoord pos t 0) op))))) ∧
  (∀ (s : State) (c : CDie) (k : Fin 32) (pre : List CoreWrite) (op : RemoteOp) (o : Obs) (x : CoreSt) (d : Dispatch), s.mgmtOn = true →
    s.coreReady c k pre = some (x, d) → op.size ≠ 0 → op.misaligned = false → corePlace op.addr.toNat = .board → extentMapped op.addr.toNat op.size = false →
    exec (.coreRemoteAccess c k pre ⟨op, o⟩) s =
      .next (s.finish ((((s.refuse c d.ref.part op.writes op.addr.toNat).setCore c k x).trapDispatch c k d .exception op.faultCause x.pc)))) ∧
  (∀ (s u : State) (c : CDie) (k : Fin 32) (pre : List CoreWrite) (r : LoadDst) (a : BitVec 64) (n off : Nat) (bs : List Byte) (o : Obs) (x : CoreSt) (d : Dispatch),
    s.mgmtOn = true → s.coreReady c k pre = some (x, d) → n ≠ 0 → (RemoteOp.load r a n).misaligned = false → corePlace a.toNat = .board →
    extentMapped a.toNat n = true → placeOf a.toNat = .mem s.pos c off → s.readBoard c ⟨some d.ref.part, some d.ref.ctx⟩ d.ref.part a.toNat n o false = (u, .ok, bs) →
    exec (.coreRemoteAccess c k pre ⟨.load r a n, o⟩) s = .next (s.finish (u.setCore c k (x.loaded r bs))))

/-- An engine that takes the next descriptor of its kind keeps the run, with the die's retries of that moment, until it completes. SIGNAL sends nothing of its own.
COPY checks its source and then its destination, and reads and writes or issues its chunks; GET checks its far range and then its destination, and issues its
reads; FANOUT reads its list, checks its source and sends its chunks to every destination of the list; a range that is refused gives the run status RANGE and
nothing is sent, a list that cannot be read the status of that read. CAIRN_CFG configures a cairn of its partition's range, or ends with RANGE. With no
descriptor to take, no free engine, or engines that do not run, nothing happens (05 R208–R214, R222). -/
def Obligations.EnginesTakeDescriptors : Prop :=
  (∀ (s u : State) (c : CDie) (k e : Nat) (r : QRef) (en : Entry), s.mgmtOn = true → s.enginesRun c = true → s.nextDma c = some (k, r) →
    s.freeEngine c = some e → s.takeEntry r = some (en, u) →
    let v := State.setArray { u with nextId := u.nextId + 1 } c { u.array c with grantDma := k }
    let run : DmaRun := { id := u.nextId, ref := r, engine := e, index := en.index, desc := en.bytes, retries := s.dmaRetries c en.bytes }
    let held (w : State) (x : DmaRun) : State := State.showEngines { w with dmaRuns := w.dmaRuns ++ [x] } c
    let n := dmChunks en.bytes
    (dKIND en.bytes = 3 → exec (.dmaSignal c) s = .next (s.finish (held v run))) ∧
    (dKIND en.bytes = 0 → ∀ (o : Obs) (w w' : State) (ok : Bool), v.checkRange r false (dmSRC_TARN en.bytes) (dmSRC en.bytes) (dmLEN en.bytes) = (w, true) →
      (if dmREMOTE en.bytes then w.checkFar r true (dmDST en.bytes) (dmLEN en.bytes)
        else w.checkRange r true (dmDST_TARN en.bytes) (dmDST en.bytes) (dmLEN en.bytes)) = (w', ok) →
      (ok = true → exec (.dmaCopy c o) s = .next (s.finish (held ((List.range n).foldl (copyChunk o) (w', { run with nchunk := n })).1
        ((List.range n).foldl (copyChunk o) (w', { run with nchunk := n })).2))) ∧
      (ok = false → exec (.dmaCopy c o) s = .next (s.finish (held w' { run with nchunk := n, status := BitVec.ofNat 8 stRANGE })))) ∧
    (dKIND en.bytes = 0 → ∀ (o : Obs) (w : State), v.checkRange r false (dmSRC_TARN en.bytes) (dmSRC en.bytes) (dmLEN en.bytes) = (w, false) →
      exec (.dmaCopy c o) s = .next (s.finish (held w { run with nchunk := n, status := BitVec.ofNat 8 stRANGE }))) ∧
    (dKIND en.bytes = 1 → ∀ (w w' : State) (ok : Bool), v.checkFar r false (dmSRC en.bytes) (dmLEN en.bytes) = (w, true) →
      w.checkRange r true (dmDST_TARN en.bytes) (dmDST en.bytes) (dmLEN en.bytes) = (w', ok) →
      (ok = true → exec (.dmaGet c) s = .next (s.finish (held ((List.range n).foldl (fun (s : State) i =>
        (s.newXid c).2.issue (getReqs (s.newXid c).2 { run with nchunk := n } i (s.newXid c).1)) w') { run with nchunk := n }))) ∧
      (ok = false → exec (.dmaGet c) s = .next (s.finish (held w' { run with nchunk := n, status := BitVec.ofNat 8 stRANGE })))) ∧
    (dKIND en.bytes = 1 → ∀ w : State, v.checkFar r false (dmSRC en.bytes) (dmLEN en.bytes) = (w, false) →
      exec (.dmaGet c) s = .next (s.finish (held w { run with nchunk := n, status := BitVec.ofNat 8 stRANGE }))) ∧
    (dKIND en.bytes = 2 → ∀ (o : Obs) (w : State) (ls : AccStatus) (bs : List Byte),
      v.readOp c ⟨some r.part, some r.ctx⟩ r.part (dmDST_TARN en.bytes) (dmDST en.bytes) (16 * dmFAN_N en.bytes) o = (w, ls, bs) →
      (ls ≠ .ok → exec (.dmaFanout c o) s = .next (s.finish (held w { run with nchunk := n, fan := true, status := BitVec.ofNat 8 ls.code }))) ∧
      (ls = .ok → ∀ w' : State, w.checkRange r false (dmSRC_TARN en.bytes) (dmSRC en.bytes) (dmLEN en.bytes) = (w', false) →
        exec (.dmaFanout c o) s = .next (s.finish (held w' { run with nchunk := n, fan := true, status := BitVec.ofNat 8 stRANGE }))) ∧
      (ls = .ok → ∀ w' : State, w.checkRange r false (dmSRC_TARN en.bytes) (dmSRC en.bytes) (dmLEN en.bytes) = (w', true) →
        ∃ (x : State) (run' : DmaRun), exec (.dmaFanout c o) s = .next (s.finish (held x run')) ∧ run'.id = u.nextId ∧ run'.ref = r ∧
          run'.desc = en.bytes ∧ run'.fan = true ∧ run'.nchunk = n ∧ run'.status = 0 ∧ run'.dests.length = dmFAN_N en.bytes)) ∧
    (dKIND en.bytes = 4 → v.ownsCairn c r.part (qSIG_CAIRN en.bytes) = true →
      exec (.cairnCfg c) s = .next (s.finish (held (v.configCairn c (qSIG_CAIRN en.bytes) (BitVec.ofNat 64 (dmSRC en.bytes)) (qSIG_GEN en.bytes)
        (dmDST_COORD en.bytes) (BitVec.ofNat 13 (bits (dmDST en.bytes) 12 0)) (BitVec.ofNat 6 (bits (dmDST en.bytes) 18 13)) (dmREMOTE en.bytes)) run))) ∧
    (dKIND en.bytes = 4 → v.ownsCairn c r.part (qSIG_CAIRN en.bytes) = false →
      exec (.cairnCfg c) s = .next (s.finish (held v { run with status := BitVec.ofNat 8 stRANGE })))) ∧
  (∀ (s : State) (c : CDie) (o : Obs), s.settled = true → (s.enginesRun c = false ∨ s.nextDma c = none ∨ s.freeEngine c = none) →
    exec (.dmaSignal c) s = .next s ∧ exec (.dmaCopy c o) s = .next s ∧ exec (.dmaGet c) s = .next s ∧ exec (.dmaFanout c o) s = .next s ∧
      exec (.cairnCfg c) s = .next s)

/-- DMA_COMPLETE takes the die's oldest run with nothing outstanding: its engine is free, the destinations of a FANOUT that are left get their signal or abort, the
bytes of failed chunks become free values, and the record, signal or abort and message go out under its status: the run's own, CHUNK_FAIL where a chunk or
destination failed, else OK. RANGE and CHUNK_FAIL then raise the C2 fault that says why (05 R212, R214–R216). -/
def Obligations.EnginesCompleteTheirRuns : Prop :=
  (∀ (s : State) (c : CDie) (r : DmaRun), s.mgmtOn = true → s.enginesRun c = true →
    s.dmaRuns.find? (fun r => r.ref.die == c && !(s.runOpen r.id)) = some r →
    let r0 : DmaRun := if r.aborted then { r with dests := r.dests.map (fun x => if x.signalled then x else { x with failed := true }) } else r
    let e := (List.range r0.dests.length).foldl (fun (st : State × DmaRun) k => st.1.destSignal st.2 k)
      ({ s with dmaRuns := s.dmaRuns.filter (fun x => x.id != r.id) }, r0)
    let st := if e.2.status ≠ 0 then e.2.status.toNat else if e.2.failed = [] then stOK else stCHUNK_FAIL
    let u := ((e.1.undefChunks e.2).showEngines c).completeDma e.2.ref e.2.desc st e.2.nchunk e.2.resent
      (if st = stCHUNK_FAIL ∨ e.2.aborted = true then e.2.failed else []) e.2.retries
    (st = stRANGE → exec (.dmaComplete c) s = .next (s.finish (u.raise (.dma c) 0x101 2 ⟨some e.2.ref.part, some e.2.ref.ctx⟩))) ∧
    (st = stCHUNK_FAIL → exec (.dmaComplete c) s = .next (s.finish (u.raise (.dma c) 0x102 2 ⟨some e.2.ref.part, some e.2.ref.ctx⟩))) ∧
    (st ≠ stRANGE → st ≠ stCHUNK_FAIL → exec (.dmaComplete c) s = .next (s.finish u))) ∧
  (∀ (s : State) (c : CDie) (r : DmaRun), s.mgmtOn = true → s.enginesRun c = true →
    s.dmaRuns.find? (fun r => r.ref.die == c && !(s.runOpen r.id)) = some r → r.dests = [] → r.aborted = false → r.status = 0 → r.failed = [] → r.lost = [] →
    exec (.dmaComplete c) s = .next (s.finish ((State.showEngines { s with dmaRuns := s.dmaRuns.filter (fun x => x.id != r.id) } c).completeDma r.ref r.desc
      stOK r.nchunk r.resent [] r.retries))) ∧
  (∀ (s : State) (c : CDie), s.settled = true →
    (s.enginesRun c = false ∨ s.dmaRuns.find? (fun r => r.ref.die == c && !(s.runOpen r.id)) = none) → exec (.dmaComplete c) s = .next s)

/-- A response that matches an outstanding request ends it: ACK with status OK completes it and another status fails it; READ_DATA brings a GET its data and a
core its load, READ_ERR fails the read, AMO_RESP brings the old value or fails. A timeout fails a request with no retries left, and else resends it with one
fewer. WINDOW_RELEASE releases a window with nothing outstanding. CC_PERIOD ends a period of a window's rate, which an echo lowers by MD/16 and which else rises
by AI, between R_MIN and R_MAX (05 R189, R212, R213, 06 R236, R237, 08 R312, R337–R340, R346). -/
def Obligations.OutstandingRequestsEnd : Prop :=
  (∀ (s u : State) (c : CDie) (p : Packet) (r : Req), s.mgmtOn = true →
    s.response c p opACK [opWRITE, opWRITE_MASKED, opSIGNAL, opCAIRN_ABORT] = (u, some r) →
    (RespStatus.ofCode p.md = .ok → exec (.ackReceive c p) s = .next (s.finish ((u.echo c r p.ece).ackDone r))) ∧
    (RespStatus.ofCode p.md ≠ .ok → exec (.ackReceive c p) s = .next (s.finish ((u.echo c r p.ece).failReq r (.resp (RespStatus.ofCode p.md)))))) ∧
  (∀ (s u : State) (c : CDie) (p : Packet) (o : Obs) (r : Req), s.mgmtOn = true → s.response c p opREAD_DATA [opREAD] = (u, some r) →
    (∀ id ch off, r.owner = .dmaGet id ch off →
      exec (.readDataReceive c p o) s = .next (s.finish ((((u.echo c r p.ce).retire r).getData id ch off p.payload o).pump))) ∧
    (∀ d k id dst off n, r.owner = .load d k id dst off n → exec (.readDataReceive c p o) s =
      .next (s.finish ((((u.echo c r p.ce).retire r).coreGets d k id (fun x => x.loaded dst ((p.payload.drop off).take n))).pump)))) ∧
  (∀ (s u : State) (c : CDie) (p : Packet) (r : Req), s.mgmtOn = true → s.response c p opREAD_ERR [opREAD] = (u, some r) →
    exec (.readErrReceive c p) s = .next (s.finish (u.failReq r (.resp (RespStatus.ofCode p.md))))) ∧
  (∀ (s u : State) (c d : CDie) (p : Packet) (r : Req) (k id : Nat) (rd : Fin 32) (w : Bool), s.mgmtOn = true →
    s.response c p opAMO_RESP [opAMO] = (u, some r) → r.owner = .amo d k id rd w →
    (RespStatus.ofCode p.md = .ok → exec (.amoRespReceive c p) s =
      .next (s.finish ((((u.echo c r p.ece).retire r).coreGets d k id (fun x => x.loaded (.x rd true) (p.body.take (if w then 8 else 4)))).pump))) ∧
    (RespStatus.ofCode p.md ≠ .ok →
      exec (.amoRespReceive c p) s = .next (s.finish ((u.echo c r p.ece).failReq r (.resp (RespStatus.ofCode p.md)))))) ∧
  (∀ (s u : State) (c : CDie) (p : Packet) (o : Obs), s.mgmtOn = true →
    (s.response c p opACK [opWRITE, opWRITE_MASKED, opSIGNAL, opCAIRN_ABORT] = (u, none) → exec (.ackReceive c p) s = .next (s.finish u)) ∧
    (s.response c p opREAD_DATA [opREAD] = (u, none) → exec (.readDataReceive c p o) s = .next (s.finish u)) ∧
    (s.response c p opREAD_ERR [opREAD] = (u, none) → exec (.readErrReceive c p) s = .next (s.finish u)) ∧
    (s.response c p opAMO_RESP [opAMO] = (u, none) → exec (.amoRespReceive c p) s = .next (s.finish u))) ∧
  (∀ (s : State) (c : CDie) (xid : BitVec 32) (seq : BitVec 16) (r : Req), s.mgmtOn = true → s.sourcesRun = true →
    s.requests.find? (fun r => r.sent && r.die == c && r.pkt.xid == xid && r.pkt.seq == seq) = some r →
    let u : State := { s with requests := s.requests.map (fun q => if q == r then { q with left := q.left - 1 } else q) }
    let again (v : State) : State :=
      (v.updWindow c (Coord.die r.pkt.dst) (fun w => { w with tokens := w.tokens - 4 * r.pkt.rateCost })).sendFrom (CDie.die c) r.pkt
    (r.left = 0 → exec (.requestTimeout c xid seq) s = .next (s.finish (s.failReq r .timeout))) ∧
    (∀ j k id, r.left ≠ 0 → r.owner = .store j k id → exec (.requestTimeout c xid seq) s = .next (s.finish (again u))) ∧
    (∀ id d ch, r.left ≠ 0 → r.owner = .dma id d ch → exec (.requestTimeout c xid seq) s =
      .next (s.finish (again ((u.updRun id (fun x => { x with resent := x.resent + 1 })).bump (.dma c) C.DMA_RESENT 1))))) ∧
  (∀ (s : State) (c : CDie) (dest : BitVec 24) (w : Window), s.mgmtOn = true → s.window? c dest.toNat = some w →
    (w.pkts = 0 → exec (.windowRelease c dest) s =
      .next (s.finish ((State.showWinUse { s with windows := s.windows.filter (fun x => !(x.die == c && x.dest == dest.toNat)) } c).pump))) ∧
    (w.pkts ≠ 0 → exec (.windowRelease c dest) s = .next (s.finish s))) ∧
  (∀ (s : State) (c : CDie) (dest : BitVec 24), s.mgmtOn = true →
    exec (.ccPeriod c dest) s = .next (s.finish (s.updWindow c dest.toNat (fun w => { w with rate := rateRule w.echo w.rate (s.fld (.rtr (CDie.die c)) F.RTR_CC_MD) (s.fld (.rtr (CDie.die c)) F.RTR_CC_AI) (s.fld (.rtr (CDie.die c)) F.RTR_RATE_R_MIN) (s.fld (.rtr (CDie.die c)) F.RTR_RATE_R_MAX), echo := false })))) ∧
  (∀ r md ai lo hi : Nat, lo ≤ hi → lo ≤ r → r ≤ hi → md ≤ 16 →
    rateRule true r md ai lo hi = max lo (r - r * md / 16) ∧ rateRule true r md ai lo hi ≤ r ∧
    rateRule false r md ai lo hi = min hi (r + ai) ∧ r ≤ rateRule false r md ai lo hi)

/-- A cairn judges a signal or abort by its bit and generation: outside the target it counts STRAY, of a past generation STALE, of a generation after the next, or an
abort of the next, EARLY, of a bit already there DUP, and it changes nothing else. A first arrival sets its bit, of the current generation in the mask or of the
next in the early arrivals, and leaves the registers and memory; the one that completes the target, or an abort of the current generation, releases it.
CAIRN_SIGNAL and CAIRN_ABORT of a packet that the unit takes judge the cairn its payload names and answer OK when it lies in its partition's range, and else
count and answer RANGE; a payload with reserved bits set only counts FORMAT (05 R217–R220, 08 R347). -/
def Obligations.CairnsJudgeAndAnswer : Prop :=
  (∀ (s : State) (c : CDie) (p : Part) (n : Nat) (gen : BitVec 16) (bit : Nat) (ab : Bool),
    let x := s.cairn c n
    let d := (gen - x.gen).toNat
    let b : BitVec 64 := BitVec.ofNat 64 (2 ^ bit)
    let set := x.target ≠ 0 ∧ x.target &&& b ≠ 0
    (¬ set → s.judge c p n gen bit ab = s.bump (.crn c) C.CRN_STRAY 1) ∧
    (set → 2 ^ 15 ≤ d → s.judge c p n gen bit ab = s.bump (.crn c) C.CRN_STALE 1) ∧
    (set → 2 ≤ d → d < 2 ^ 15 → s.judge c p n gen bit ab = s.bump (.crn c) C.CRN_EARLY 1) ∧
    (set → d = 1 → ab = true → s.judge c p n gen bit ab = s.bump (.crn c) C.CRN_EARLY 1) ∧
    (set → d = 0 → ab = true → s.judge c p n gen bit ab = s.releaseAll c p n true) ∧
    (set → d = 1 → ab = false → x.next &&& b ≠ 0 → s.judge c p n gen bit ab = s.bump (.crn c) C.CRN_DUP 1) ∧
    (set → d = 0 → ab = false → x.mask &&& b ≠ 0 → s.judge c p n gen bit ab = s.bump (.crn c) C.CRN_DUP 1)) ∧
  (∀ (s : State) (c : CDie) (p : Part) (n : Nat) (bit : Nat), n < 8192 → (s.cairn c n).target &&& BitVec.ofNat 64 (2 ^ bit) ≠ 0 →
    (s.cairn c n).mask &&& BitVec.ofNat 64 (2 ^ bit) = 0 → (s.cairn c n).mask ||| BitVec.ofNat 64 (2 ^ bit) ≠ (s.cairn c n).target →
    let t := s.judge c p n (s.cairn c n).gen bit false
    (t.cairn c n).mask = (s.cairn c n).mask ||| BitVec.ofNat 64 (2 ^ bit) ∧ (t.cairn c n).gen = (s.cairn c n).gen ∧
      (t.cairn c n).target = (s.cairn c n).target ∧ (∀ m, m < 8192 → m ≠ n → t.cairn c m = s.cairn c m) ∧ t.regs = s.regs ∧ t.mem = s.mem ∧ t.tarn = s.tarn) ∧
  (∀ (s : State) (c : CDie) (p : Part) (n : Nat) (bit : Nat), n < 8192 → (s.cairn c n).target &&& BitVec.ofNat 64 (2 ^ bit) ≠ 0 →
    (s.cairn c n).next &&& BitVec.ofNat 64 (2 ^ bit) = 0 →
    let t := s.judge c p n ((s.cairn c n).gen + 1) bit false
    (t.cairn c n).next = (s.cairn c n).next ||| BitVec.ofNat 64 (2 ^ bit) ∧ (t.cairn c n).mask = (s.cairn c n).mask ∧ (t.cairn c n).gen = (s.cairn c n).gen ∧
      t.regs = s.regs ∧ t.mem = s.mem ∧ t.tarn = s.tarn) ∧
  (∀ (s u : State) (c : CDie) (p : Packet), s.mgmtOn = true → s.accept (CDie.die c) p = (u, true) → p.mc = 1 → p.dst.e = 3 → p.dst.d = c.val →
    ∀ (ab : Bool) (i : Instr), ((ab = false ∧ p.op = opSIGNAL ∧ i = .cairnSignal c p) ∨ (ab = true ∧ p.op = opCAIRN_ABORT ∧ i = .cairnAbort c p)) →
    (p.sigRsvOk = true → u.ownsCairn c p.partNo p.sigCairn = true →
      exec i s = .next (s.finish ((u.judge c p.partNo p.sigCairn p.sigGen p.sigBit ab).answer (CDie.die c) 3 p opACK .ok []))) ∧
    (p.sigRsvOk = true → u.ownsCairn c p.partNo p.sigCairn = false →
      exec i s = .next (s.finish ((u.bump (.crn c) C.CRN_RANGE 1).answer (CDie.die c) 3 p opACK .range []))) ∧
    (p.sigRsvOk = false → exec i s = .next (s.finish (u.bump (.rtr (CDie.die c)) C.RTR_FORMAT 1))))

/-- CRN_INSP_SEL_WRITE copies the mask, target and time of the cairn it selects, and zeros for a cairn of a confidential partition; CRN_TRK_SEL_WRITE copies the
recorded arrival of the bit of the slot it selects, and zero for a confidential partition's. Neither changes a cairn. CRN_PART_WRITE changes the partition's range,
or is refused with ALLOC_REFUSED, a C1 fault, when it overlaps another partition's or passes 8,192 (05 R223, R226). -/
def Obligations.CairnRegistersSelectAndAssign : Prop :=
  (∀ (s : State) (c : CDie) (v : Word), s.settled = true → s.dieDown c = false → s.cairnConf c (bits v.toNat 12 0) = true →
    ∃ t, exec (.crnInspSelWrite c v) s = .next t ∧ t.fld (.crn c) F.CRN_INSP_SEL_CAIRN = bits v.toNat 12 0 ∧ t.rd (Page.base (.crn c) + 0x244) = 0 ∧
      t.rd64 (.crn c) 0x248 = 0 ∧ t.rd64 (.crn c) 0x250 = 0 ∧ t.rd64 (.crn c) 0x258 = 0 ∧ t.cairns = s.cairns) ∧
  (∀ (s : State) (c : CDie) (v : Word), s.settled = true → s.dieDown c = false → s.cairnConf c (bits v.toNat 12 0) = false →
    ∃ t, exec (.crnInspSelWrite c v) s = .next t ∧ t.fld (.crn c) F.CRN_INSP_SEL_CAIRN = bits v.toNat 12 0 ∧
      t.rd64 (.crn c) 0x248 = (s.cairn c (bits v.toNat 12 0)).mask.toNat ∧ t.rd64 (.crn c) 0x250 = (s.cairn c (bits v.toNat 12 0)).target.toNat ∧
      t.rd64 (.crn c) 0x258 = (s.cairn c (bits v.toNat 12 0)).last.toNat ∧ t.cairns = s.cairns) ∧
  (∀ (s : State) (c : CDie) (v : Word), s.settled = true → s.dieDown c = false →
    let k := bits v.toNat 3 0
    let b := bits v.toNat 13 8
    ∃ t, exec (.crnTrkSelWrite c v) s = .next t ∧ t.fld (.crn c) F.CRN_TRK_SEL_SLOT = k ∧ t.fld (.crn c) F.CRN_TRK_SEL_BIT = b ∧
      t.rd (Page.base (.crn c) + 0x264) = (if s.cairnConf c (s.fld (.crn c) (F.CRN_TRACK_CAIRN k)) then 0
        else (((s.track c k).arr.find? (fun e => e.1 == b)).map (·.2)).getD 0) ∧
      t.cairns = s.cairns ∧ t.tracks = s.tracks ∧ t.mem = s.mem ∧ t.tarn = s.tarn) ∧
  (∀ (s : State) (c : CDie) (p : Part) (v : Word), s.mgmtOn = true → s.dieDown c = false →
    let base := bits v.toNat 12 0
    let size := bits v.toNat 26 13
    let free : Prop := base + size ≤ 8192 ∧ ∀ q : Part, q ≠ p → (s.cairnRange c q).2 = 0 ∨ size = 0 ∨
      (s.cairnRange c q).1 + (s.cairnRange c q).2 ≤ base ∨ base + size ≤ (s.cairnRange c q).1
    let u := (s.setFld (.crn c) (F.CRN_PART_BASE p.val) base).setFld (.crn c) (F.CRN_PART_SIZE p.val) size
    (free → exec (.crnPartWrite c p v) s = .next (s.finish u) ∧ u.cairnRange c p = (base, size) ∧
      ∀ a, a ≠ Page.base (.crn c) + (F.CRN_PART_BASE p.val).off → u.rd a = s.rd a) ∧
    (¬ free → exec (.crnPartWrite c p v) s = .next (s.finish (s.raise (.crn c) 0x101 1 {}))))

/-- A request that a memory controller takes is answered with the status of what it did at its address: MEM_WRITE and MEM_WRITE_MASKED with ACK, MEM_READ with the
data or with READ_ERR and the status, MEM_AMO with the old value once the new one is written, or with the status alone where its read fails. One that is
misaligned, empty, too long, or an AMO of no function is answered UNSUPPORTED and changes nothing but that (06 R239, R245–R247, 08 R312, R313, R338). -/
def Obligations.MemoryRequestsAreAnswered : Prop :=
  (∀ (s u : State) (c : CDie) (p : Packet) (o : Obs), s.mgmtOn = true → s.atMem c p opWRITE = (u, true) →
    (∀ v st, p.addr.toNat % 64 = 0 → u.ctlWrite c p.partNo p.addr.toNat p.payload o = (v, st) →
      exec (.memWrite c p o) s = .next (s.finish (v.answer (CDie.die c) 0 p opACK st []))) ∧
    (p.addr.toNat % 64 ≠ 0 → exec (.memWrite c p o) s = .next (s.finish (u.answer (CDie.die c) 0 p opACK .unsupported [])))) ∧
  (∀ (s u : State) (c : CDie) (p : Packet) (o : Obs), s.mgmtOn = true → s.atMem c p opWRITE_MASKED = (u, true) →
    (∀ v st, 0 < p.md.toNat → p.addr.toNat % 32 + p.md.toNat ≤ 32 →
      u.ctlWrite c p.partNo p.addr.toNat ((p.body.drop (p.addr.toNat % 32)).take p.md.toNat) o = (v, st) →
      exec (.memWriteMasked c p o) s = .next (s.finish (v.answer (CDie.die c) 0 p opACK st []))) ∧
    (p.md.toNat = 0 ∨ 32 < p.addr.toNat % 32 + p.md.toNat →
      exec (.memWriteMasked c p o) s = .next (s.finish (u.answer (CDie.die c) 0 p opACK .unsupported [])))) ∧
  (∀ (s u : State) (c : CDie) (p : Packet) (o : Obs), s.mgmtOn = true → s.atMem c p opREAD = (u, true) →
    (∀ v st bs, p.addr.toNat % 64 = 0 → 0 < p.md.toNat → p.md.toNat ≤ 32 → u.ctlRead c p.partNo p.addr.toNat (64 * p.md.toNat) o = (v, st, bs) →
      (st = .ok → exec (.memRead c p o) s = .next (s.finish (v.answer (CDie.die c) 0 p opREAD_DATA .ok bs))) ∧
      (st ≠ .ok → exec (.memRead c p o) s = .next (s.finish (v.answer (CDie.die c) 0 p opREAD_ERR st [])))) ∧
    (p.addr.toNat % 64 ≠ 0 ∨ p.md.toNat = 0 ∨ 32 < p.md.toNat →
      exec (.memRead c p o) s = .next (s.finish (u.answer (CDie.die c) 0 p opREAD_ERR .unsupported [])))) ∧
  (∀ (s u : State) (c : CDie) (p : Packet) (o : Obs), s.mgmtOn = true → s.atMem c p opAMO = (u, true) →
    let w := if p.md.getLsbD 4 then 8 else 4
    (∀ v bs, p.md.toNat % 16 ≤ 8 → p.addr.toNat % w = 0 → u.ctlRead c p.partNo p.addr.toNat w o true = (v, .ok, bs) →
      ∀ x st, v.ctlWrite c p.partNo p.addr.toNat (leBytes (amoFn (p.md.toNat % 16) (8 * w) (leNat bs) (leNat (p.body.take 8) % 2 ^ (8 * w))) w) {} = (x, st) →
      exec (.memAmo c p o) s = .next (s.finish (x.answer (CDie.die c) 0 p opAMO_RESP st (leBytes (leNat bs) 8)))) ∧
    (∀ v st bs, p.md.toNat % 16 ≤ 8 → p.addr.toNat % w = 0 → u.ctlRead c p.partNo p.addr.toNat w o true = (v, st, bs) → st ≠ .ok →
      exec (.memAmo c p o) s = .next (s.finish (v.answer (CDie.die c) 0 p opAMO_RESP st []))) ∧
    (8 < p.md.toNat % 16 ∨ p.addr.toNat % w ≠ 0 →
      exec (.memAmo c p o) s = .next (s.finish (u.answer (CDie.die c) 0 p opAMO_RESP .unsupported []))))

/-- Memory and Tarn are byte-addressed storage: a write is read back at its place and leaves every byte outside its extent, on its die and on the others;
zeroing a span leaves zeros there and every byte outside it; and each of these keeps the canonical form (06 R229–R231, R241, R254, 03 R91–R95). -/
def Obligations.MemoryIsByteStorage : Prop :=
  (∀ (s : State) (c c' : CDie) (off a : Nat) (bs : List Byte), off + bs.length ≤ memSpan → a < memSpan → (c' = c → a < off ∨ off + bs.length ≤ a) →
    (s.memPut c off bs).memByte c' a = s.memByte c' a) ∧
  (∀ (s : State) (c : CDie) (off : Nat) (bs : List Byte), (s.memPut c off bs).memGet c off bs.length = bs) ∧
  (∀ (s : State) (c c' : CDie) (off a : Nat) (bs : List Byte), off + bs.length ≤ tarnSpan → a < tarnSpan → (c' = c → a < off ∨ off + bs.length ≤ a) →
    (s.tarnPut c off bs).tarnByte c' a = s.tarnByte c' a) ∧
  (∀ (s : State) (c : CDie) (off : Nat) (bs : List Byte), (s.tarnPut c off bs).tarnGet c off bs.length = bs) ∧
  (∀ (s : State) (c : CDie) (off n a : Nat), off ≤ a → a < off + n → (s.memZero c off n).memByte c a = 0) ∧
  (∀ (s : State) (c : CDie) (off : Nat) (bs : List Byte) (i : Nat), i < bs.length → bs[i]? = some ((s.memPut c off bs).memByte c (off + i)) ∧
    bs[i]? = some ((s.tarnPut c off bs).tarnByte c (off + i))) ∧
  (∀ (s : State) (c e : CDie) (off n o : Nat), off + n ≤ memSpan → o < memSpan →
    (e ≠ c ∨ o < off ∨ off + n ≤ o → (s.memZero c off n).memByte e o = s.memByte e o)) ∧
  (∀ (s : State) (c e : CDie) (off n o : Nat), off + n ≤ tarnSpan → o < tarnSpan →
    (s.tarnZero c off n).tarnByte e o = if e = c ∧ off ≤ o ∧ o < off + n then 0 else s.tarnByte e o) ∧
  (∀ (s : State) (c : CDie) (off n : Nat) (bs : List Byte), s.memWf = true →
    (s.memPut c off bs).memWf = true ∧ (s.tarnPut c off bs).memWf = true ∧ (s.memZero c off n).memWf = true ∧ (s.tarnZero c off n).memWf = true)

/-- A memory controller's own work. REFRESH_POLL shows a stack's indication and temperature; at 105 °C throttling starts with a C1 fault, and below 100 °C it ends.
PATROL_READ passes over granules being zeroed; a correctable finding counts as a corrected read with a C0 fault, an uncorrectable one counts, is located and
logged, and raises a C1 fault. MEM_ZERO_GO starts an order over granules of the die that no range holds, and one that a range holds or that passes the 768 (there
the model's choice, log entry 78) raises a C1 fault. MEM_ZERO_DONE zeroes the order's granules and no other byte. MEM_RANGE_WRITE changes the range, or raises
a C1 fault. STACK_FAIL fails the stack, fences the die's memory with a C1 fault, and every partition with a range there takes the partition-fatal reaction (06
R243, R251–R255, R260). -/
def Obligations.MemoryControllersRunTheirOrders : Prop :=
  (∀ (s : State) (c : CDie), s.settled = true → exec (.refreshPoll c []) s = .next s) ∧
  (∀ (s : State) (c : CDie) (rf : BitVec 3) (temp : BitVec 8), s.mgmtOn = true → s.dieDown c = false → s.fld (.mem c) (F.MEM_STACK_STATE 0) ≠ skOFF →
    s.fld (.mem c) (F.MEM_STACK_STATE 0) ≠ skFAILED →
    let u := (s.setFld (.mem c) (F.MEM_STACK_REFRESH 0) rf.toNat).setFld (.mem c) (F.MEM_STACK_TEMP 0) temp.toNat
    (105 ≤ temp.toNat → s.flag (.mem c) (F.MEM_STACK_THROTTLE 0) = false → exec (.refreshPoll c [(rf, temp)]) s =
      .next (s.finish (((u.setFld (.mem c) (F.MEM_STACK_THROTTLE 0) 1).fireEvent (.mem c) 3).raise (.mem c) 0x106 1 {}))) ∧
    (105 ≤ temp.toNat → s.flag (.mem c) (F.MEM_STACK_THROTTLE 0) = true → exec (.refreshPoll c [(rf, temp)]) s = .next (s.finish u)) ∧
    (100 ≤ temp.toNat → temp.toNat < 105 → exec (.refreshPoll c [(rf, temp)]) s = .next (s.finish u)) ∧
    (temp.toNat < 100 → exec (.refreshPoll c [(rf, temp)]) s = .next (s.finish (u.setFld (.mem c) (F.MEM_STACK_THROTTLE 0) 0)))) ∧
  (∀ (s : State) (c : CDie) (sec : Fin 0x180000000) (x : SectorErr), s.mgmtOn = true → s.dieDown c = false → s.flag (.mem c) F.MEM_CFG_PATROL_EN = true →
    s.flag (.mem c) F.BLK_STATUS_READY = true →
    (32 * sec.val / memGran < (s.zeroing c).1 ∨ (s.zeroing c).1 + (s.zeroing c).2 ≤ 32 * sec.val / memGran) →
    let e := s.eccFind c (32 * sec.val) x
    let b : BadSector := ⟨memKey c (32 * sec.val) / 32, c, e.stack, e.ch, e.row⟩
    (e.sym.isSome = true → exec (.patrolRead c ⟨sec, some x⟩) s = .next (s.finish ((s.eccCorrected c e true).raise (.mem c) 0x100 0 {}))) ∧
    (e.sym = none → s.badSectors.contains b = false → exec (.patrolRead c ⟨sec, some x⟩) s = .next (s.finish
      ((((State.bump { s with badSectors := s.badSectors ++ [b] } (.mem c) C.MEM_PATROL_UE 1).errLoc c e true).logRepair c e).raise (.mem c) 0x105 1 {})))) ∧
  (∀ (s : State) (c : CDie) (sec : Fin 0x180000000) (f : Option SectorErr), s.settled = true →
    (f = none ∨ ((s.zeroing c).1 ≤ 32 * sec.val / memGran ∧ 32 * sec.val / memGran < (s.zeroing c).1 + (s.zeroing c).2)) →
    exec (.patrolRead c ⟨sec, f⟩) s = .next s) ∧
  (∀ (s : State) (c : CDie) (v : Word), s.settled = true → s.dieDown c = false → v.getLsbD 31 = true → s.flag (.mem c) F.MEM_ZERO_STATUS_BUSY = false →
    let span := (bits v.toNat 9 0, bits v.toNat 19 10)
    (span.1 + span.2 ≤ 768 → (∀ r ∈ s.allRanges c, overlaps r.2.2 span = false) →
      ∃ t, exec (.memZeroGo c v) s = .next t ∧ t.flag (.mem c) F.MEM_ZERO_STATUS_BUSY = true ∧
        Store.get (fun _ => (0, 0)) t.zeroOrders c.val = span ∧ t.mem = s.mem ∧ t.tarn = s.tarn) ∧
    (768 < span.1 + span.2 ∨ (∃ r ∈ s.allRanges c, overlaps r.2.2 span = true) → exec (.memZeroGo c v) s =
      .next (s.finish (((s.setFld (.mem c) F.MEM_ZERO_CTRL_BASE span.1).setFld (.mem c) F.MEM_ZERO_CTRL_SIZE span.2).raise (.mem c) 0x107 1 {})))) ∧
  (∀ (s : State) (c : CDie) (b n : Nat), s.mgmtOn = true → s.dieDown c = false → s.flag (.mem c) F.MEM_ZERO_STATUS_BUSY = true → s.zeroing c = (b, n) →
    b + n ≤ 768 →
    let z := s.memZero c (b * memGran) (n * memGran)
    let w := ((((z.setFld (.mem c) F.MEM_ZERO_CTRL_GO 0).setFld (.mem c) F.MEM_ZERO_STATUS_BUSY 0).setFld (.mem c) F.MEM_ZERO_STATUS_DONE 1).setFld (.mem c)
      F.MEM_ZERO_STATUS_PROGRESS n).setFld (.mem c) F.BLK_STATUS_BUSY 0
    let u : State := { w with zeroOrders := Store.set (fun _ => (0, 0)) s.zeroOrders c.val (0, 0) }
    exec (.memZeroDone c) s = .next (s.finish (u.fireEvent (.mem c) 1)) ∧ u.tarn = s.tarn ∧
      ∀ (e : CDie) (off : Nat), off < memSpan →
        u.memByte e off = if e = c ∧ b * memGran ≤ off ∧ off < (b + n) * memGran then 0 else s.memByte e off) ∧
  (∀ (s : State) (c : CDie) (p : Part) (i : Fin 4) (v : Word), s.mgmtOn = true → s.dieDown c = false →
    let span := (bits v.toNat 9 0, bits v.toNat 19 10)
    let u := (s.setFld (.mem c) (F.MEM_RANGE_BASE (4 * p.val + i.val)) span.1).setFld (.mem c) (F.MEM_RANGE_SIZE (4 * p.val + i.val)) span.2
    (s.rangeWriteOk c p span = true → exec (.memRangeWrite c p i v) s = .next (s.finish u) ∧
      u.fld (.mem c) (F.MEM_RANGE_BASE (4 * p.val + i.val)) = span.1 ∧ u.fld (.mem c) (F.MEM_RANGE_SIZE (4 * p.val + i.val)) = span.2 ∧
      ∀ a, a ≠ Page.base (.mem c) + (F.MEM_RANGE_BASE (4 * p.val + i.val)).off → u.rd a = s.rd a) ∧
    (s.rangeWriteOk c p span = false → exec (.memRangeWrite c p i v) s = .next (s.finish (s.raise (.mem c) 0x107 1 {})))) ∧
  (∀ (s : State) (c : CDie) (k : Fin 3), s.mgmtOn = true → s.dieDown c = false →
    ∃ u : State, exec (.stackFail c k) s = .next (s.finish ((List.finRange 64).foldl (fun (t : State) p =>
      if [0, 1, 2, 3].any (fun i => (t.memRange c p i).2 != 0) then t.c3React p else t) (u.raise (.mem c) 0x108 1 {}))) ∧
      c ∈ u.memFenced ∧ u.flag (.mem c) F.BLK_STATUS_READY = false ∧ u.fld (.mem c) (F.MEM_STACK_STATE k.val) = skFAILED)

/-- A port goes from DETECT to TRAIN on SIGNAL_DETECT, with laser light where it is optical, to ALIGN on TRAIN_COMPLETE once the partner is ready on every lane, and
to QUALIFY on ALIGN_COMPLETE after 64 good frames; a TRAINING_WORD in TRAIN is applied to its lane and answered. TRAIN_ATTEMPT_TIMEOUT in TRAIN or ALIGN starts the
next attempt, and after the last fails the port. QUAL_DWELL_END adds what the lanes' decoders counted in frames that no row carries (log entry 18) and keeps the local result: a receiver passes when every lane has at most 85,000 corrected bits and no
uncorrectable codeword. QUAL_RESULT keeps the partner's, QUAL_RESULT_TIMEOUT takes it as failed, and once both are known the verdict falls: HELD, or FAILED with
its cause. Out of its state each of these but SIGNAL_DETECT changes nothing (07 R283, R285–R287, R301). -/
def Obligations.PortsTrainAndAreQualified : Prop :=
  (∀ (s : State) (q : Port) (rx : List (BitVec 16)), s.mgmtOn = true → s.portUp q = true →
    (∀ j, Port.opt? q = some j →
      (s.lnk q = lkDETECT → (s.rxPower j rx).flag (.opt j) F.OPT_STATUS_LASER_OK = true →
        exec (.signalDetect ⟨q, rx⟩) s = .next (s.finish ((s.rxPower j rx).enterLnk q lkTRAIN))) ∧
      ((s.rxPower j rx).flag (.opt j) F.OPT_STATUS_LASER_OK = false → exec (.signalDetect ⟨q, rx⟩) s = .next (s.finish (s.rxPower j rx)))) ∧
    (Port.opt? q = none → s.lnk q = lkDETECT → exec (.signalDetect ⟨q, rx⟩) s = .next (s.finish (s.enterLnk q lkTRAIN)))) ∧
  (∀ (s : State) (q : Port) (lane : Fin 8) (w : TrainWord) (limit refused : Bool), s.settled = true → s.portUp q = true → s.lnk q = lkTRAIN →
    lane.val < Port.lanes q →
    let l : LaneTx := { (Store.get (fun _ => {}) (s.port q).lanes lane.val).apply w limit refused with ready := w.rxReady, reply := w.status }
    exec (.trainingWord q lane w limit refused) s =
      .next ((s.setPort q { s.port q with lanes := Store.set (fun _ => {}) (s.port q).lanes lane.val l }).emit (.trainStatus q lane.val l.status))) ∧
  (∀ (s : State) (q : Port) (ps : List (Fin 8)), s.mgmtOn = true → s.portUp q = true → s.lnk q = lkTRAIN → (s.port q).partnerReady (Port.lanes q) = true →
    exec (.trainComplete q ps) s = .next (s.finish (((ps.take (Port.lanes q)).zipIdx.foldl
      (fun (t : State) e => t.setFld (.lnk q) (F.LNK_LANE_PRESET e.2) e.1.val) s).enterLnk q lkALIGN))) ∧
  (∀ (s : State) (q : Port) (ls : List (Fin 8 × Bool)), s.mgmtOn = true → s.portUp q = true → s.lnk q = lkALIGN → 64 ≤ (s.port q).good →
    exec (.alignComplete q ls) s = .next (s.finish (((List.range (Port.lanes q)).foldl (fun (t : State) i => t.setFld (.lnk q) (F.LNK_LANE_LOCK i) 1)
      ((ls.take (Port.lanes q)).zipIdx.foldl (fun (t : State) e => (t.setFld (.lnk q) (F.LNK_LANE_PHYS e.2) e.1.1.val).setFld (.lnk q)
        (F.LNK_LANE_POL_INV e.2) e.1.2.toNat) s)).enterLnk q lkQUALIFY))) ∧
  (∀ (s : State) (q : Port), s.mgmtOn = true → s.portUp q = true → (s.lnk q = lkTRAIN ∨ s.lnk q = lkALIGN) →
    (1 < (s.port q).attempts → exec (.trainAttemptTimeout q) s =
      .next (s.finish ((s.setPort q { s.port q with attempts := (s.port q).attempts - 1 }).enterLnk q lkTRAIN))) ∧
    ((s.port q).attempts ≤ 1 → exec (.trainAttemptTimeout q) s = .next (s.finish
      (((s.setPort q { s.port q with attempts := 0 }).setFld (.lnk q) F.LNK_STATE_CAUSE 1).enterLnk q lkFAILED)))) ∧
  (∀ (s : State) (q : Port) (more : List LaneFec), s.mgmtOn = true → s.portUp q = true → s.lnk q = lkQUALIFY → (s.port q).localRes = none →
    ∃ u : State, exec (.qualDwellEnd q more) s = .next (s.finish (u.verdict q)) ∧
      (u.port q).localRes = some (dwellPass (((s.lanesCount q more).port q).dwellLanes (Port.lanes q))) ∧ (u.port q).peerRes = (s.port q).peerRes ∧ u.mem = s.mem) ∧
  (∀ (s : State) (q : Port), s.mgmtOn = true → s.portUp q = true → s.lnk q = lkQUALIFY → (s.port q).localRes.isSome = true → (s.port q).peerRes = none →
    exec (.qualResultTimeout q) s = .next (s.finish ((s.setPort q { s.port q with peerRes := some false }).verdict q))) ∧
  (∀ (s : State) (q : Port) (pass : Bool), s.mgmtOn = true → s.portUp q = true → s.lnk q = lkQUALIFY → (s.port q).peerRes = none →
    exec (.qualResult q pass) s = .next (s.finish (((s.setPort q { s.port q with peerRes := some pass }).setFld (.lnk q) F.LNK_QUAL_PEER_PASS
      pass.toNat).verdict q))) ∧
  (∀ ls : List LaneFec, dwellPass ls = true ↔ ∀ l ∈ ls, l.corr ≤ 85000 ∧ l.unc = 0) ∧
  (∀ (s : State) (q : Port) (l p : Bool), (s.port q).localRes = some l → (s.port q).peerRes = some p →
    s.verdict q = (if l && p then ((s.setFld (.lnk q) F.LNK_QUAL_DONE 1).enterLnk q lkHELD).heldCheck q
      else ((s.setFld (.lnk q) F.LNK_QUAL_DONE 1).setFld (.lnk q) F.LNK_STATE_CAUSE (if l then 3 else 2)).enterLnk q lkFAILED)) ∧
  (∀ (s : State) (q : Port), (s.port q).localRes = none ∨ (s.port q).peerRes = none → s.verdict q = s) ∧
  (∀ (s : State) (q : Port), s.settled = true →
    (s.lnk q ≠ lkTRAIN → (∀ lane w li re, exec (.trainingWord q lane w li re) s = .next s) ∧ ∀ ps, exec (.trainComplete q ps) s = .next s) ∧
    (s.lnk q ≠ lkALIGN → ∀ ls, exec (.alignComplete q ls) s = .next s) ∧
    (s.lnk q ≠ lkTRAIN → s.lnk q ≠ lkALIGN → exec (.trainAttemptTimeout q) s = .next s) ∧
    (s.lnk q ≠ lkQUALIFY → (∀ more, exec (.qualDwellEnd q more) s = .next s) ∧ exec (.qualResultTimeout q) s = .next s ∧ ∀ p, exec (.qualResult q p) s = .next s))

/-- FRAME_RECEIVE counts what the lanes' decoders find, takes a frame that passes its check and discards one that fails it, and fails a port with more than 16
uncorrectable codewords in 1 ms. A frame passes only with the tag of its header and slots under the slot its header names, a counter above the last accepted one,
its zero fields zero, and no uncorrectable codeword; the counter of the accepted frame is kept. FRAME_TRANSMIT in ALIGN sends an idle frame without a key; in
a state that carries records it sends what waits under the slot in use, whose counter advances by one, and stops the port at 2^40. IDENT keeps the partner's
identity and the version agreed, KEY_READY and KEY_ACK are kept, IDENT_SEND sends the own record, and LINK_RECORD_REPEAT sends the oldest record again, with one
send fewer left (07 R271, R273–R281, R288, R292, R293). -/
def Obligations.FramesCarryRecordsOnce : Prop :=
  (∀ (s : State) (q : Port) (f : RxFrame), s.mgmtOn = true → s.portUp q = true → (s.lnk q = lkALIGN ∨ recordsDelivered (s.lnk q) = true) →
    s.injection (.lnk q) 0 = none → s.injection (.lnk q) 1 = none →
    let now := s.now (PDie.die (Port.pdie q))
    let ls := laneCounts f.lanes
    let unc := fecSum (·.unc) ls
    let w := ((((s.updPort q (fun x => x.decoded (s.lnk q = lkQUALIFY) ls)).bump (.lnk q) C.LNK_FEC_CW (fecSum (·.cw) ls)).bump (.lnk q) C.LNK_FEC_CORR
      (fecSum (·.corr) ls)).bump (.lnk q) C.LNK_FEC_UNCORR unc)
    let us := recentUnc now ((w.port q).uncs ++ (if unc = 0 then [] else [(now, unc)]))
    let u := w.updPort q (fun x => { x with uncs := us })
    let v := if frameOk (u.port q) f unc then u.frameGood q f else u.frameBad q false
    exec (.frameReceive q f) s = .next (s.finish (if 16 < (us.map (·.2)).sum then v.portFail q 6 else v))) ∧
  (∀ (x : PortSt) (f : RxFrame) (n : Nat), frameOk x f n = true ↔ n = 0 ∧ f.zeros = true ∧
    (f.keyed = false → f.tag = frameTag 0 0 f.header f.slots ∧ ∀ l, x.rxPlain = some l → l < f.fcnt.toNat) ∧
    (f.keyed = true → ∃ k, x.rxKey f.kidx = some k ∧ f.tag = frameTag k.key k.salt f.header f.slots ∧ ∀ l, k.last = some l → l < f.fcnt.toNat)) ∧
  (∀ (s : State) (q : Port), s.mgmtOn = true → s.portUp q = true → s.lnk q = lkALIGN →
    exec (.frameTransmit q) s = .next (s.finish ((((s.setPort q { s.port q with txPlain := (s.port q).txPlain + 1 }).wr64 (.lnk q) 0x140
      (BitVec.ofNat 64 ((s.port q).txPlain + 1))).stamp q true (s.port q).txPlain).emit
        (frameOut q 0 0 (frameHeader (s.port q).txPlain false false (firstBoundary [])) [])))) ∧
  (∀ (s : State) (q : Port) (t : TxKey), s.mgmtOn = true → s.portUp q = true → recordsDelivered (s.lnk q) = true →
    let u := s.slotChange q
    let x := u.port q
    x.txKey (u.txSlot q) = some t →
    (fcntEnd ≤ t.fcnt → exec (.frameTransmit q) s = .next (s.finish (u.portFail q 7))) ∧
    (t.fcnt < fcntEnd → t.fcnt + 1 ≠ fcntDue → exec (.frameTransmit q) s = .next (s.finish ((((u.setPort q
      { x.setTx (u.txSlot q) (some { t with fcnt := t.fcnt + 1 }) with txq := x.txq.drop 256 }).wr64 (.lnk q) 0x140 (BitVec.ofNat 64 (t.fcnt + 1))).stamp q true
        t.fcnt).emit (frameOut q t.key t.salt (frameHeader t.fcnt (u.txSlot q) true (firstBoundary (x.txq.take 256))) ((x.txq.take 256).map (·.2))))))) ∧
  (∀ (s : State) (q : Port) (i : Ident), s.mgmtOn = true → s.portUp q = true → recordsDelivered (s.lnk q) = true → (s.port q).hadIdent = false →
    ∃ t : State, exec (.ident q i) s = .next (s.finish t) ∧ (t.port q).serial = i.serial ∧ (t.port q).hadIdent = true ∧
      t.fld (.lnk q) F.LNK_STATE_NEG_VER = negVersion 1 1 i.verMin.toNat i.verMax.toNat ∧ t.flag (.lnk q) F.LNK_PARTNER_VALID = true) ∧
  (∀ (s : State) (q : Port), s.settled = true → s.portUp q = true → recordsDelivered (s.lnk q) = true →
    exec (.keyReady q 0) s = .next (s.setPort q { s.port q with ready0 := true }) ∧ exec (.keyReady q 1) s = .next (s.setPort q { s.port q with ready1 := true }) ∧
    (∀ slot, exec (.keyAck q slot) s = .next (s.setPort q { s.port q with acked := some slot.val })) ∧
    exec (.identSend q) s = .next (s.sendRecord q (s.identRecord q))) ∧
  (∀ (s : State) (q : Port) (bs : List Byte) (n : Nat) (r : List (List Byte × Nat)), s.settled = true → s.portUp q = true → (s.port q).repeats = (bs, n) :: r →
    exec (.linkRecordRepeat q) s =
      .next ((s.setPort q { s.port q with repeats := if n ≤ 1 then r else r ++ [(bs, n - 1)] }).sendRecord q bs)) ∧
  (∀ (s : State) (q : Port), s.settled = true → (s.port q).repeats = [] → exec (.linkRecordRepeat q) s = .next s)

/-- A port in service fails with its cause and a C1 fault when a lane loses lock or the laser input is not above its threshold; a loss of lock in QUALIFY fails the
attempt. LASER_OK_CHANGE reads the laser input. LANE_BER_WINDOW raises a C0 fault when a lane has more than 425,000 corrected bits in the window, those of frames that no row carries included (log entry 18), and starts the next window.
ENGINE_TEMP raises a C1 fault when the temperature comes to 85 °C and is below 95 °C. TRAIN, DISABLE, ADMIT, QUARANTINE and RELEASE through LNK_CMD act on a port
that accepts them and do nothing to one that does not; MEMBER_ON, MEMBER_OFF, DARK_ON and DARK_OFF come from a manager, and act through
its agent on a port that accepts them, and are answered STATE by one that does not. What a port accepts is what 10 R386 gives (07 R283, R288, R289, R295, R301, 10 R386, 12 R477). -/
def Obligations.PortsFailAndObeyCommands : Prop :=
  (∀ (s : State) (q : Port) (cause : Nat), inService (s.lnk q) = true →
    s.portFail q cause = ((s.setFld (.lnk q) F.LNK_STATE_CAUSE cause).enterLnk q lkFAILED).raise (.lnk q) 0x102 1 {}) ∧
  (∀ (s : State) (q : Port) (lane : Fin 8), s.mgmtOn = true → s.portUp q = true → lane.val < Port.lanes q →
    (inService (s.lnk q) = true → exec (.laneLossOfLock q lane) s = .next (s.finish ((s.setFld (.lnk q) (F.LNK_LANE_LOCK lane.val) 0).portFail q 4))) ∧
    (s.lnk q = lkQUALIFY → exec (.laneLossOfLock q lane) s = .next (s.finish ((s.setFld (.lnk q) (F.LNK_LANE_LOCK lane.val) 0).attemptFail q)))) ∧
  (∀ (s : State) (j : OptPort) (pwr : BitVec 16) (rx : List (BitVec 16)), s.mgmtOn = true → s.portUp (OptPort.port j) = true →
    exec (.laserOkChange j ⟨pwr, rx⟩) s = .next (s.finish (s.laserRead j pwr rx)) ∧
    ((s.laserRead j pwr rx).flag (.opt j) F.OPT_STATUS_LASER_OK = false →
      exec (.laserLoss j ⟨pwr, rx⟩) s = .next (s.finish ((s.laserRead j pwr rx).portFail (OptPort.port j) 8))) ∧
    ((s.laserRead j pwr rx).flag (.opt j) F.OPT_STATUS_LASER_OK = true → exec (.laserLoss j ⟨pwr, rx⟩) s = .next (s.finish (s.laserRead j pwr rx)))) ∧
  (∀ (s : State) (q : Port) (more : List LaneFec), s.mgmtOn = true → s.portUp q = true →
    let v := s.lanesCount q more
    let u := v.setPort q { v.port q with win := [] }
    ((∃ i, i < Port.lanes q ∧ 425000 < Store.get (fun _ => 0) (v.port q).win i) →
      exec (.laneBerWindow q more) s = .next (s.finish (u.raise (.lnk q) 0x101 0 {}))) ∧
    ((∀ i, i < Port.lanes q → Store.get (fun _ => 0) (v.port q).win i ≤ 425000) → exec (.laneBerWindow q more) s = .next (s.finish u))) ∧
  (∀ (s : State) (j : OptPort) (t : BitVec 8), s.mgmtOn = true → s.pageHeld (.opt j) = false → 85 ≤ t.toNat → t.toNat < 95 →
    let u := s.setFld (.opt j) F.OPT_STATUS_TEMP t.toNat
    (s.fld (.opt j) F.OPT_STATUS_TEMP < 85 → exec (.engineTemp j t) s = .next (s.finish (u.raise (.opt j) 0x100 1 {}))) ∧
    (85 ≤ s.fld (.opt j) F.OPT_STATUS_TEMP → exec (.engineTemp j t) s = .next (s.finish u))) ∧
  (∀ (s : State) (q : Port), s.mgmtOn = true → s.portUp q = true →
    (s.portAccepts q .train = true → exec (.train (.lnkCmd q)) s = .next (s.finish (s.startTrain q false))) ∧
    (s.lnk q ≠ lkDISABLED → exec (.disable (.lnkCmd q)) s = .next (s.finish (s.enterLnk q lkDISABLED false))) ∧
    (s.portAccepts q .admitPort = true → exec (.admitPort (.lnkCmd q)) s = .next (s.finish (s.enterLnk q lkACTIVE false))) ∧
    (s.portAccepts q .quarantine = true → exec (.quarantine (.lnkCmd q)) s = .next (s.finish (s.enterLnk q lkQUARANTINE false))) ∧
    (s.portAccepts q .release = true → exec (.release (.lnkCmd q)) s = .next (s.finish (s.enterLnk q lkHELD false)))) ∧
  (∀ (s : State) (q : Port), s.settled = true →
    (s.portAccepts q .train = false → exec (.train (.lnkCmd q)) s = .next s) ∧ (s.lnk q = lkDISABLED → exec (.disable (.lnkCmd q)) s = .next s) ∧
    (s.portAccepts q .admitPort = false → exec (.admitPort (.lnkCmd q)) s = .next s) ∧
    (s.portAccepts q .quarantine = false → exec (.quarantine (.lnkCmd q)) s = .next s) ∧
    (s.portAccepts q .release = false → exec (.release (.lnkCmd q)) s = .next s)) ∧
  (∀ (s u : State) (m : MgtIn) (q : Port) (x : Session) (slot ctr : Nat), s.mgmtOn = true → s.agentTakes m 0x86 false u x slot ctr → m.pkt.authForm 12 0 = true →
    portOn m.k (m.pkt.arg 7 0) = some q →
    ∀ (c : PortCmd) (i : Instr), (c = .memberOn ∧ i = .memberOn m) ∨ (c = .memberOff ∧ i = .memberOff m) ∨ (c = .darkOn ∧ i = .darkOn m) ∨
      (c = .darkOff ∧ i = .darkOff m) → m.pkt.arg 11 8 = c.code →
    (u.portAccepts q c = true → exec i s = .next (s.finish ((u.portDo q c true).agentAnswers m x slot ctr agOK []))) ∧
    (u.portAccepts q c = false → (q.isOpt = true ∨ c = .memberOn ∨ c = .memberOff) → exec i s = .next (s.finish (u.agentAnswers m x slot ctr agSTATE [])))) ∧
  (∀ (s : State) (q : Port), (s.portAccepts q .admitPort = true ↔ s.lnk q = lkHELD ∧ s.flag (.lnk q) F.LNK_STATE_KEYED_TX = true ∧
    s.flag (.lnk q) F.LNK_STATE_KEYED_RX = true ∧ s.fld (.lnk q) F.LNK_STATE_NEG_VER ≠ 0) ∧
    (s.portAccepts q .train = true ↔ s.lnk q = lkDISABLED ∨ s.lnk q = lkFAILED) ∧ s.portAccepts q .disable = true ∧
    (s.portAccepts q .quarantine = true ↔ s.lnk q = lkHELD ∨ s.lnk q = lkACTIVE) ∧
    (s.portAccepts q .release = true ↔ (s.lnk q = lkQUARANTINE ∨ s.lnk q = lkACTIVE) ∧ s.fld (.lnk q) F.LNK_STATE_NEG_VER ≠ 0) ∧
    (s.portAccepts q .memberOn = true ↔ s.lnk q = lkACTIVE) ∧ s.portAccepts q .memberOff = true)

/-- D2D_FLIT_RECEIVE at an ACTIVE end: a good flit is delivered, one with a bad CRC is counted and replayed until eight replays in a row have failed, which fails
the port. D2D_PORT_FAIL fails the port, and with a fault in a compute die's own switch both its ring ports. PACKET_FORWARD at a die whose router runs sends a routed
packet on by the route its tables give, and discards one of bad form, or without a route, with that cause; DIRECTED_FORWARD follows the packet's list in the same way, and
at the list's end on PD0 gives it to the agent with the way back written in. PACKET_LIFETIME_EXPIRE discards the packet it names. LINK_CREDIT_SEND sends the
receiver's counts; LINK_CREDIT of bad form is discarded, and a good one adds the difference of its counts to the credits and then lets waiting packets leave.
Packets that wait for another die and can leave then do (07 R298, R299, 08 R319, R321, R330, R331, R335, R347). -/
def Obligations.RoutersForward : Prop :=
  let last (s : State) : State := s.pumpInside s.transits.length
  (∀ (s : State) (p : Page) (data : List Byte), s.settled = true → p.isD2d = true → s.fld p F.D2D_STATE_STATE = 2 → s.injection p 0 = none →
    exec (.d2dFlitReceive p ⟨true, data⟩) s = .next (State.emit { s with d2dRuns := Store.set (fun _ => 0) s.d2dRuns p.base 0 } (.d2dData p data)) ∧
    (s.d2dRun p < 8 → exec (.d2dFlitReceive p ⟨false, data⟩) s = .next (s.finish { ((s.bump p C.D2D_CRC 1).bump p.d2dFar C.D2D_REPLAY 1).emit
      (.replay p.d2dFar.die p.die) with d2dRuns := Store.set (fun _ => 0) s.d2dRuns p.base (s.d2dRun p + 1) })) ∧
    (8 ≤ s.d2dRun p → exec (.d2dFlitReceive p ⟨false, data⟩) s = .next (s.finish ((s.bump p C.D2D_CRC 1).d2dFail p)))) ∧
  (∀ (s : State) (p : Page) (c : CDie), s.mgmtOn = true → exec (.d2dPortFail p false) s = .next (s.finish (s.d2dFail p)) ∧
    (Die.cd? p.die = some c →
      exec (.d2dPortFail p true) s = .next (s.finish (((s.d2dFail p).d2dFail (.d2dC c .ringPlus)).d2dFail (.d2dC c .ringMinus))))) ∧
  (∀ (s : State) (d : Die) (came : Came) (p : Packet), s.mgmtOn = true → s.routerUp d = true → p.drt = false →
    let u := s.routerArrive d came p
    (p.headerOk = false → exec (.packetForward d came p) s = .next (s.finish (last (u.arriveDrop d came p .format)))) ∧
    (∀ x, p.headerOk = true → u.routeAt d came p = .drop x → exec (.packetForward d came p) s = .next (s.finish (last (u.arriveDrop d came p x)))) ∧
    (∀ o, p.headerOk = true → u.routeAt d came p = .out o → exec (.packetForward d came p) s = .next (s.finish (last (u.sendOn d came p o))))) ∧
  (∀ (s : State) (d : Die) (came : Came) (p p1 : Packet), s.mgmtOn = true → s.routerUp d = true → p.drt = true →
    let u := s.routerArrive d came p
    (∀ x, u.routeDirected d came p = (p1, .drop x) → exec (.directedForward d came p) s = .next (s.finish (last (u.arriveDrop d came p x)))) ∧
    (∀ o, u.routeDirected d came p = (p1, .out o) → exec (.directedForward d came p) s = .next (s.finish (last (u.sendOnAs d came p p1 o))))) ∧
  (∀ (s : State) (came : Came) (p : Packet), p.headerOk = true → p.md.toNat ≤ 23 → p.routeEntry p.md.toNat = 24 →
    s.routeDirected pd0 came p = ({ p.setEntry p.md.toNat came.reverse with md := BitVec.ofNat 8 (p.md.toNat + 1) }, .out (.endpoint 1))) ∧
  (∀ (s : State) (n : Nat) (t : Transit), s.mgmtOn = true → s.transits[n]? = some t →
    exec (.packetLifetimeExpire n) s = .next (s.finish (last (s.dropTransit t .lifetime)))) ∧
  (∀ (s : State) (q : Port) (p : Packet), s.mgmtOn = true → s.portUp q = true → (s.lnk q = lkHELD ∨ s.lnk q = lkACTIVE) →
    let u := s.updTel q (fun t => { t with pktRx := telAdd t.pktRx 1, byteRx := telAdd t.byteRx p.size })
    exec (.linkCreditSend q) s = .next (s.finish (s.putOut q (linkCreditPacket (s.port q).freed))) ∧
    (p.crcOk = false → exec (.linkCredit q p) s = .next (s.finish (u.discard (PDie.die (Port.pdie q)) (.port q) p .crc))) ∧
    (p.crcOk = true → p.isLinkCredit = false → exec (.linkCredit q p) s = .next (s.finish (u.discard (PDie.die (Port.pdie q)) (.port q) p .format))) ∧
    (p.crcOk = true → p.isLinkCredit = true →
      ∃ v : State, exec (.linkCredit q p) s = .next (s.finish (last (v.serveOut (PDie.die (Port.pdie q)) (.port q) v.transits.length))) ∧
        (v.port q).seen = creditsOf p.body ∧
        (v.port q).cred = Credits.zip (· + ·) (s.port q).cred (Credits.zip diff16 (creditsOf p.body) (s.port q).seen))) ∧
  (∀ (s : State) (d : Die) (came : Came) (p : Packet) (n : Nat), s.settled = true →
    (s.routerUp d = false → exec (.packetForward d came p) s = .next s ∧ exec (.directedForward d came p) s = .next s) ∧
    (s.transits[n]? = none → exec (.packetLifetimeExpire n) s = .next s))

/-- the operations an agent answers without a session. A control request whose form holds is answered OK: IDENTIFY with the identity record and TELE_READ with
the records of the ports named, in every state of the hub that serves them (the agent answers both in the safe state over the management network); PORT_LIST
with the neighbour records of 1 to 64 ports of its die, RANGE for other counts and ports; INFLIGHT_READ with both counts of every die served, their ACTIVITY
bits cleared as they are read, the counts, memory and ports staying; in a hub state that does not serve them PORT_LIST and INFLIGHT_READ answer STATE. A form
that does not hold is answered FORMAT. SESSION_OPEN with a valid signature of one of the plan's two managers takes the slot openSlot names (that of the same
signer, else the lowest empty one) with an empty replay window and cache, STATE where both hold other signers, AUTH otherwise; SESSION_CLOSE clears its slot
after the answer (10 R373, R376, R381, R383, R384, R391, R396, R404, 14 R541; the ports of a request are log entry 36's reading). -/
def Obligations.AgentsAnswerAndOpenSessions : Prop :=
  (∀ (s u : State) (m : MgtIn), s.mgmtOn = true → s.agentMeets m 0x80 false u → u.agentServes m true = true →
    (m.pkt.ctlForm 0 = true → exec (.identify m) s = .next (s.finish (u.agentReplies m agOK (u.identity m.k)))) ∧
    (m.pkt.ctlForm 0 = false → exec (.identify m) s = .next (s.finish (u.agentReplies m agFORMAT [])))) ∧
  (∀ (s u : State) (m : MgtIn), s.mgmtOn = true → s.agentMeets m 0x81 false u → u.agentServes m false = true →
    (m.pkt.ctlForm 16 = false → exec (.portList m) s = .next (s.finish (u.agentReplies m agFORMAT []))) ∧
    (m.pkt.ctlForm 16 = true →
      (∀ l, 1 ≤ m.pkt.arg 15 8 → m.pkt.arg 15 8 ≤ 64 → portsFrom m.k (m.pkt.arg 7 0) (m.pkt.arg 15 8) = some l →
        exec (.portList m) s = .next (s.finish (u.agentReplies m agOK (l.flatMap u.neighbour)))) ∧
      (m.pkt.arg 15 8 = 0 ∨ 64 < m.pkt.arg 15 8 ∨ portsFrom m.k (m.pkt.arg 7 0) (m.pkt.arg 15 8) = none →
        exec (.portList m) s = .next (s.finish (u.agentReplies m agRANGE []))))) ∧
  (∀ (s u : State) (m : MgtIn), s.mgmtOn = true → s.agentMeets m 0x8A false u → u.agentServes m false = true →
    (m.pkt.ctlForm 0 = false → exec (.inflightRead m) s = .next (s.finish (u.agentReplies m agFORMAT []))) ∧
    (m.pkt.ctlForm 0 = true →
      ∃ v : State, exec (.inflightRead m) s = .next (s.finish (v.agentReplies m agOK ((serves m.k).flatMap (fun d =>
          leBytes (u.rd (Page.base (.rtr d) + 0x108)).toNat 4 ++ leBytes (u.rd (Page.base (.rtr d) + 0x10C)).toNat 4)))) ∧
        (∀ d ∈ serves m.k, ∀ e < 2, v.fld (.rtr d) (F.RTR_INFLIGHT_ACTIVITY e) = 0 ∧ v.fld (.rtr d) (F.RTR_INFLIGHT_COUNT e) = u.fld (.rtr d) (F.RTR_INFLIGHT_COUNT e)) ∧
        v.mem = u.mem ∧ v.ports = u.ports)) ∧
  (∀ (s u : State) (m : MgtIn), s.mgmtOn = true → s.agentMeets m 0x8E false u → u.agentServes m true = true →
    (m.pkt.ctlForm 16 = false → exec (.teleRead m) s = .next (s.finish (u.agentReplies m agFORMAT []))) ∧
    (m.pkt.ctlForm 16 = true →
      (∀ l, telPorts m.k m.pkt = some l → exec (.teleRead m) s = .next (s.finish (u.agentReplies m agOK (l.flatMap u.telRecord)))) ∧
      (telPorts m.k m.pkt = none → exec (.teleRead m) s = .next (s.finish (u.agentReplies m agRANGE []))))) ∧
  (∀ (s u : State) (m : MgtIn), s.mgmtOn = true → u.agentServes m false = false →
    (s.agentMeets m 0x81 false u → exec (.portList m) s = .next (s.finish (u.agentReplies m agSTATE []))) ∧
    (s.agentMeets m 0x8A false u → exec (.inflightRead m) s = .next (s.finish (u.agentReplies m agSTATE [])))) ∧
  (∀ (u : State) (m : MgtIn), (u.agentServes m false = true ↔ u.fld .flt F.FLT_STATE_STATE = hubNORMAL) ∧
    (u.agentServes m true = true ↔ u.fld .flt F.FLT_STATE_STATE = hubNORMAL ∨ m.net = true)) ∧
  (∀ (s u : State) (m : MgtIn), s.mgmtOn = true → s.agentMeets m 0x82 true u → u.agentServes m true = true →
    (m.pkt.payload.length < 112 ∨ m.pkt.argsUpTo 0 = false → exec (.sessionOpen m) s = .next (s.finish (u.agentReplies m agFORMAT []))) ∧
    (112 ≤ m.pkt.payload.length → m.pkt.argsUpTo 0 = true →
      let em : BitVec 256 := BitVec.ofNat 256 (imgNat m.pkt.payload 0 32)
      let ser : BitVec 128 := BitVec.ofNat 128 (imgNat m.pkt.payload 32 16)
      (m.valid = false ∨ u.plan = [] ∨ (ser ≠ planPrimary u.rolePlan ∧ ser ≠ planStandby u.rolePlan) →
        exec (.sessionOpen m) s = .next (s.finish (u.agentReplies m agAUTH []))) ∧
      (m.valid = true → u.plan ≠ [] → ser = planPrimary u.rolePlan ∨ ser = planStandby u.rolePlan →
        ((u.agent m.k).openSlot ser = none → exec (.sessionOpen m) s = .next (s.finish (u.agentReplies m agSTATE []))) ∧
        (∀ slot v x ans, (u.agent m.k).openSlot ser = some slot → u.openAnswer em ser = (v, x, ans) →
          exec (.sessionOpen m) s = .next (s.finish ((v.setSess m.k slot (some x)).agentReplies m agOK ans)) ∧
          x.serial = ser ∧ x.top = 0 ∧ x.window = 0 ∧ x.cache = [] ∧ ans.length = 112)))) ∧
  (∀ (a : AgentSt) (ser : BitVec 128), (a.openSlot ser = none ↔ ∃ x y, a.sess 0 = some x ∧ a.sess 1 = some y ∧ x.serial ≠ ser ∧ y.serial ≠ ser) ∧
    ∀ n, a.openSlot ser = some n → n < 2 ∧ ((∃ x, a.sess n = some x ∧ x.serial = ser) ∨
      a.sess n = none ∧ (∀ k x, a.sess k = some x → x.serial ≠ ser) ∧ (n = 1 → a.sess 0 ≠ none))) ∧
  (∀ (s u : State) (m : MgtIn) (x : Session) (slot ctr : Nat), s.mgmtOn = true → s.agentTakes m 0x83 false u x slot ctr →
    (m.pkt.authForm 0 0 = true → exec (.sessionClose m) s = .next (s.finish ((u.agentAnswers m x slot ctr agOK []).setSess m.k slot none))) ∧
    (m.pkt.authForm 0 0 = false → exec (.sessionClose m) s = .next (s.finish (u.agentAnswers m x slot ctr agFORMAT []))))

/-- an authenticated request at an agent is checked in order: its form (FORMAT for one that is no data packet or has no trailer), the session it names
(NOSESSION), its tag (AUTH, counted), its counter: stale is answered STALE and counted, a repeat whose answer is cached gets the cached response again and is
counted, and only a counter that is above the highest accepted one, or not seen and within 63 of it, runs; a running request is answered STATE where the hub's
state does not serve it, else it is executed and answered. A counter marked seen never runs again, whatever counters follow; its response stands in a cache of
at most 64. A request to an agent in reset, or over the management network to PD1's, changes nothing (10 R375, R377, R379). -/
def Obligations.RequestsAreCheckedAndRunOnce : Prop :=
  (∀ (x : Session) (c : Nat) (r : List Byte), ((x.mark c r).judge c).runs = false) ∧
  (∀ (x : Session) (c d : Nat) (r : List Byte), (x.judge c).runs = false → ((x.mark d r).judge c).runs = false) ∧
  (∀ (x : Session) (c : Nat), (x.judge c).runs = true ↔ 0 < c ∧ (x.top < c ∨ x.top ≤ c + 63 ∧ x.window.testBit (x.top - c) = false)) ∧
  (∀ (x : Session) (c : Nat) (r : List Byte), (x.mark c r).cache.length ≤ 64 ∧ (x.mark c r).top = max x.top c ∧
    ((x.judge c).runs = true → (∀ e ∈ x.cache, e.1 ≠ c) → (x.mark c r).judge c = .cached r)) ∧
  (∀ (s u : State) (m : MgtIn) (op : BitVec 8) (data openOp : Bool) (f : State → Session → State × Nat × List Byte), s.agentMeets m op true u →
    (trailerOf m.pkt = none → s.agentOp m op true data openOp f = u.agentReplies m agFORMAT []) ∧
    (∀ ctr slot, trailerOf m.pkt = some (ctr, slot) →
      ((u.agent m.k).sess slot = none → s.agentOp m op true data openOp f = u.agentReplies m agNOSESSION []) ∧
      (∀ x, (u.agent m.k).sess slot = some x →
        (m.valid = false → s.agentOp m op true data openOp f = (u.bump (.agt m.k) C.AGT_AUTH_FAIL 1).agentReplies m agAUTH []) ∧
        (m.valid = true → x.judge ctr = .stale → let w := u.bump (.agt m.k) C.AGT_STALE 1
          s.agentOp m op true data openOp f = w.mgtSend m.k m.net (w.authAnswer m 1 x slot ctr agSTALE [])) ∧
        (∀ r, m.valid = true → x.judge ctr = .cached r →
          s.agentOp m op true data openOp f = (u.bump (.agt m.k) C.AGT_REPLAY 1).mgtSend m.k m.net (Packet.ofBytes r)) ∧
        (m.valid = true → (x.judge ctr).runs = true → u.agentServes m openOp = false →
          s.agentOp m op true data openOp f = u.agentAnswers m x slot ctr agSTATE []) ∧
        (m.valid = true → (x.judge ctr).runs = true → u.agentServes m openOp = true →
          s.agentOp m op true data openOp f = (f u x).1.agentAnswers m x slot ctr (f u x).2.1 (f u x).2.2)))) ∧
  (∀ (s u : State) (m : MgtIn) (op : BitVec 8) (data openOp : Bool) (f : State → Session → State × Nat × List Byte), s.agentMeets m op false u →
    s.agentOp m op true data openOp f = u.agentReplies m agFORMAT []) ∧
  (∀ (s : State) (m : MgtIn) (op : BitVec 8) (a data openOp : Bool) (f : State → Session → State × Nat × List Byte),
    s.inReset (PDie.die m.k) = true ∨ m.net = true ∧ m.k = 1 → s.agentOp m op a data openOp f = s)

/-- what a manager does through an agent under its session, on a request whose form holds (one whose form does not is answered FORMAT, one that names no port
of the agent's die RANGE, neither with another effect). COORD_SET assigns the package coordinate and the manager pair to both port dies, unless a port is ACTIVE
and no coordinate or another one is assigned (STATE); PORT_ATTR writes the routing attributes of a port that is not ACTIVE; TABLE_WRITE into an epoch the die
does not stamp and that has nothing in flight clears its VALID and writes exactly the entries named, else STATE; TABLE_COMMIT sets VALID where the CRC of all
4,096 entries agrees, else CRC; EPOCH_SET switches exactly the dies of the mask when the table is valid on each, else STATE; KEY_LOAD with a blob that verifies
loads key and salt into a slot not in use (for a receive slot: none accepted a frame in the last 10 ms) and announces a receive key, AUTH for a blob that does
not; KEY_CLEAR clears a slot not in use; KEY_SWITCH commands the change where it is allowed; TELE_CLEAR answers the records and clears them, no other port's;
MC_COMMAND at PD0 runs the message, BUSY during a management reset, and PD1 answers UNSUPPORTED (10 R381, R382, R385, R387, R388, R390, R392, R393, R396, R399). -/
def Obligations.ManagersActThroughAgents : Prop :=
  (∀ (s u : State) (m : MgtIn) (x : Session) (slot ctr : Nat), s.mgmtOn = true → s.agentTakes m 0x84 false u x slot ctr → m.pkt.authForm 32 8 = true →
    let co := m.pkt.arg 31 0
    let c : Coord := BitVec.ofNat 32 co
    c.d = 0 → c.e = 0 → bits co 3 0 = 0 → bits co 31 30 = 0 → c.x ≤ 3 → c.y ≤ 3 → c.p ≤ 3 →
    (u.fld (.agt 0) F.AGT_STATE_ASSIGNED ≠ 0 ∧ u.fld (.agt 0) F.AGT_COORD_COORD = co ∨ (∀ q, u.lnk q ≠ lkACTIVE) →
      ∃ v : State, exec (.coordSet m) s = .next (s.finish (v.agentAnswers m x slot ctr agOK [])) ∧ v.mem = u.mem ∧ v.tables = u.tables ∧
        ∀ k, v.fld (.agt k) F.AGT_COORD_COORD = co ∧ v.fld (.agt k) F.AGT_STATE_ASSIGNED = 1 ∧ v.fld (.agt k) (F.AGT_MGR_COORD 0) = imgNat m.pkt.args 0 4 ∧
          v.fld (.agt k) (F.AGT_MGR_COORD 1) = imgNat m.pkt.args 4 4) ∧
    (∀ q, u.lnk q = lkACTIVE → u.fld (.agt 0) F.AGT_STATE_ASSIGNED = 0 ∨ u.fld (.agt 0) F.AGT_COORD_COORD ≠ co →
      exec (.coordSet m) s = .next (s.finish (u.agentAnswers m x slot ctr agSTATE [])))) ∧
  (∀ (s u : State) (m : MgtIn) (x : Session) (slot ctr : Nat) (q : Port), s.mgmtOn = true → s.agentTakes m 0x85 false u x slot ctr → m.pkt.authForm 8 4 = true →
    imgNat m.pkt.args 0 4 < 512 → portOn m.k (m.pkt.arg 7 0) = some q →
    (u.lnk q ≠ lkACTIVE → exec (.portAttr m) s = .next (s.finish ((u.wr (Page.base (.rtr (PDie.die m.k)) + 0x120 + 4 * Port.local q)
      (BitVec.ofNat 32 (imgNat m.pkt.args 0 4))).agentAnswers m x slot ctr agOK []))) ∧
    (u.lnk q = lkACTIVE → exec (.portAttr m) s = .next (s.finish (u.agentAnswers m x slot ctr agSTATE [])))) ∧
  (∀ (s u : State) (m : MgtIn) (x : Session) (slot ctr : Nat) (d : Die), s.mgmtOn = true → s.agentTakes m 0x87 false u x slot ctr → m.pkt.authForm 29 (4 * m.pkt.arg 28 20) = true →
    tableDie m.k m.pkt = some d → m.pkt.arg 28 20 ≤ 504 → m.pkt.arg 19 8 + m.pkt.arg 28 20 ≤ 4096 →
    let e := m.pkt.arg 0 0
    (u.fld (.rtr d) F.RTR_EPOCH_CUR = e ∨ u.fld (.rtr d) (F.RTR_INFLIGHT_COUNT e) ≠ 0 →
      exec (.tableWrite m) s = .next (s.finish (u.agentAnswers m x slot ctr agSTATE []))) ∧
    (u.fld (.rtr d) F.RTR_EPOCH_CUR ≠ e → u.fld (.rtr d) (F.RTR_INFLIGHT_COUNT e) = 0 →
      ∃ v : State, exec (.tableWrite m) s = .next (s.finish (v.agentAnswers m x slot ctr agOK [])) ∧ v.tableValid d (e = 1) = false ∧ v.mem = u.mem ∧
        (∀ i < m.pkt.arg 28 20, v.entry d (e = 1) (m.pkt.arg 19 8 + i) = BitVec.ofNat 32 (imgNat m.pkt.args (4 * i) 4)) ∧
        (∀ d' e' i, i < 4096 → (d', e') ≠ (d, decide (e = 1)) ∨ i < m.pkt.arg 19 8 ∨ m.pkt.arg 19 8 + m.pkt.arg 28 20 ≤ i → v.entry d' e' i = u.entry d' e' i))) ∧
  (∀ (s u : State) (m : MgtIn) (x : Session) (slot ctr : Nat) (d : Die), s.mgmtOn = true → s.agentTakes m 0x88 false u x slot ctr → m.pkt.authForm 20 4 = true →
    tableDie m.k m.pkt = some d → let e := m.pkt.arg 0 0
    ((crc32 (u.tableBytes d (e = 1))).toNat = imgNat m.pkt.args 0 4 →
      exec (.tableCommit m) s = .next (s.finish ((u.setFld (.rtr d) (if e = 1 then F.RTR_EPOCH_VALID1 else F.RTR_EPOCH_VALID0) 1).agentAnswers m x slot ctr agOK []))) ∧
    ((crc32 (u.tableBytes d (e = 1))).toNat ≠ imgNat m.pkt.args 0 4 →
      exec (.tableCommit m) s = .next (s.finish (u.agentAnswers m x slot ctr agCRC [])))) ∧
  (∀ (s u : State) (m : MgtIn) (x : Session) (slot ctr : Nat), s.mgmtOn = true → s.agentTakes m 0x89 false u x slot ctr → m.pkt.authForm 11 0 = true →
    let e := m.pkt.arg 0 0
    let ds := allDies.filter (fun d => (m.pkt.arg 10 1).testBit d.val)
    (∀ d ∈ ds, d ∈ serves m.k) →
    ((∀ d ∈ ds, u.tableValid d (e = 1) = true) →
      ∃ v : State, exec (.epochSet m) s = .next (s.finish (v.agentAnswers m x slot ctr agOK [])) ∧ v.mem = u.mem ∧ v.tables = u.tables ∧
        (∀ d, v.fld (.rtr d) F.RTR_EPOCH_CUR = if d ∈ ds then e else u.fld (.rtr d) F.RTR_EPOCH_CUR)) ∧
    ((∃ d ∈ ds, u.tableValid d (e = 1) = false) → exec (.epochSet m) s = .next (s.finish (u.agentAnswers m x slot ctr agSTATE [])))) ∧
  (∀ (s u : State) (m : MgtIn) (x : Session) (slot ctr : Nat) (q : Port) (key : BitVec 256) (salt : BitVec 32), s.mgmtOn = true →
    s.agentTakes m 0x8B false u x slot ctr → m.pkt.authForm 10 64 = true → portOn m.k (m.pkt.arg 7 0) = some q →
    let j := decide (m.pkt.arg 9 9 = 1)
    (exec (.keyLoad m false) s = .next (s.finish (u.agentAnswers m x slot ctr agAUTH []))) ∧
    (unwrapKey x m.pkt.args q.val (m.pkt.arg 8 8) (m.pkt.arg 9 9) = (key, salt) →
      (∀ r n, m.pkt.arg 8 8 = 1 → (u.port q).rxKey j = some r → r.last = some n → (u.now (PDie.die m.k) - r.seenAt).toNat ≤ 2000000 →
        exec (.keyLoad m true) s = .next (s.finish (u.agentAnswers m x slot ctr agSTATE []))) ∧
      (m.pkt.arg 8 8 = 1 → (∀ r n, (u.port q).rxKey j = some r → r.last = some n → 2000000 < (u.now (PDie.die m.k) - r.seenAt).toNat) →
        exec (.keyLoad m true) s = .next (s.finish (((u.setPort q ((u.port q).setRx j (some { key := key, salt := salt }))).sendThrice q
          (recordBytes 1 [BitVec.ofNat 8 (m.pkt.arg 9 9)])).agentAnswers m x slot ctr agOK []))) ∧
      (m.pkt.arg 8 8 ≠ 1 → u.txSlot q ≠ j →
        exec (.keyLoad m true) s = .next (s.finish ((u.setPort q ((u.port q).setTx j (some { key := key, salt := salt }))).agentAnswers m x slot ctr agOK []))) ∧
      (m.pkt.arg 8 8 ≠ 1 → u.txSlot q = j → exec (.keyLoad m true) s = .next (s.finish (u.agentAnswers m x slot ctr agSTATE []))))) ∧
  (∀ (s u : State) (m : MgtIn) (x : Session) (slot ctr : Nat) (q : Port), s.mgmtOn = true →
    s.agentTakes m 0x8C false u x slot ctr → m.pkt.authForm 10 0 = true → portOn m.k (m.pkt.arg 7 0) = some q →
    let j := decide (m.pkt.arg 9 9 = 1)
    (m.pkt.arg 8 8 = 1 → u.flag (.lnk q) F.LNK_STATE_KEYED_RX = true → u.flag (.lnk q) F.LNK_STATE_KIDX_RX = j →
      exec (.keyClear m) s = .next (s.finish (u.agentAnswers m x slot ctr agSTATE []))) ∧
    (m.pkt.arg 8 8 = 1 → u.flag (.lnk q) F.LNK_STATE_KEYED_RX = false ∨ u.flag (.lnk q) F.LNK_STATE_KIDX_RX ≠ j →
      exec (.keyClear m) s = .next (s.finish ((u.setPort q ((u.port q).setRx j none)).agentAnswers m x slot ctr agOK []))) ∧
    (m.pkt.arg 8 8 ≠ 1 → u.txSlot q ≠ j →
      exec (.keyClear m) s = .next (s.finish ((u.setPort q ((u.port q).setTx j none)).agentAnswers m x slot ctr agOK []))) ∧
    (m.pkt.arg 8 8 ≠ 1 → u.txSlot q = j → exec (.keyClear m) s = .next (s.finish (u.agentAnswers m x slot ctr agSTATE [])))) ∧
  (∀ (s u : State) (m : MgtIn) (x : Session) (slot ctr : Nat) (q : Port), s.mgmtOn = true →
    s.agentTakes m 0x8D false u x slot ctr → m.pkt.authForm 10 0 = true → portOn m.k (m.pkt.arg 7 0) = some q →
    let j := decide (m.pkt.arg 9 9 = 1)
    (m.pkt.arg 8 8 ≠ 1 → u.txSlot q ≠ j → u.mayChange q = true →
      exec (.keySwitch m) s = .next (s.finish ((u.updPort q (fun x => { x with switchTo := some j.toNat })).agentAnswers m x slot ctr agOK []))) ∧
    (m.pkt.arg 8 8 = 1 ∨ u.txSlot q = j ∨ u.mayChange q = false → exec (.keySwitch m) s = .next (s.finish (u.agentAnswers m x slot ctr agSTATE [])))) ∧
  (∀ (s u : State) (m : MgtIn) (x : Session) (slot ctr : Nat) (l : List Port), s.mgmtOn = true →
    s.agentTakes m 0x8F false u x slot ctr → m.pkt.authForm 16 0 = true → telPorts m.k m.pkt = some l →
    ∃ v : State, exec (.teleClear m) s = .next (s.finish (v.agentAnswers m x slot ctr agOK (l.flatMap u.telRecord))) ∧ v.mem = u.mem ∧ v.regs = u.regs ∧
      (∀ q ∈ l, (v.port q).tel = {}) ∧ ∀ q, q ∉ l → v.port q = u.port q) ∧
  (∀ (s u : State) (m : MgtIn) (x : Session) (slot ctr : Nat), s.mgmtOn = true → s.agentTakes m 0x90 true u x slot ctr →
    (m.k = 0 → (u.mcReset = true ∨ u.boot.phase < phMGMT) → exec (.mcCommand m) s = .next (s.finish (u.agentAnswers m x slot ctr agBUSY []))) ∧
    (m.k = 0 → u.mcReset = false → phMGMT ≤ u.boot.phase → 4 + imgNat m.pkt.args 2 2 ≤ m.pkt.args.length →
      exec (.mcCommand m) s = .next (s.finish (let w := u.mcInner (imgNat m.pkt.args 0 2) ((m.pkt.args.drop 4).take (imgNat m.pkt.args 2 2))
        w.1.agentAnswers m x slot ctr agOK w.2))) ∧
    (m.k = 1 → exec (.mcCommand m) s = .next (s.finish ((u.bump (.agt 1) C.AGT_UNSUPPORTED 1).agentAnswers m x slot ctr agUNSUPPORTED [])))) ∧
  (∀ (s u : State) (m : MgtIn) (x : Session) (slot ctr : Nat) (b : Bool), s.mgmtOn = true →
    let no (i : Instr) (st : Nat) : Prop := exec i s = .next (s.finish (u.agentAnswers m x slot ctr st []))
    (s.agentTakes m 0x84 false u x slot ctr → m.pkt.authForm 32 8 = false → no (.coordSet m) agFORMAT) ∧
    (s.agentTakes m 0x85 false u x slot ctr → (m.pkt.authForm 8 4 = false ∨ 512 ≤ imgNat m.pkt.args 0 4 → no (.portAttr m) agFORMAT) ∧
      (m.pkt.authForm 8 4 = true → imgNat m.pkt.args 0 4 < 512 → portOn m.k (m.pkt.arg 7 0) = none → no (.portAttr m) agRANGE)) ∧
    (s.agentTakes m 0x87 false u x slot ctr → (m.pkt.argsUpTo 29 = false → no (.tableWrite m) agFORMAT) ∧
      (m.pkt.argsUpTo 29 = true → tableDie m.k m.pkt = none ∨ 504 < m.pkt.arg 28 20 ∨ 4096 < m.pkt.arg 19 8 + m.pkt.arg 28 20 → no (.tableWrite m) agRANGE)) ∧
    (s.agentTakes m 0x88 false u x slot ctr → (m.pkt.authForm 20 4 = false → no (.tableCommit m) agFORMAT) ∧
      (m.pkt.authForm 20 4 = true → tableDie m.k m.pkt = none → no (.tableCommit m) agRANGE)) ∧
    (s.agentTakes m 0x89 false u x slot ctr → m.pkt.authForm 11 0 = false → no (.epochSet m) agFORMAT) ∧
    (s.agentTakes m 0x8B false u x slot ctr → (m.pkt.authForm 10 64 = false → no (.keyLoad m b) agFORMAT) ∧
      (m.pkt.authForm 10 64 = true → portOn m.k (m.pkt.arg 7 0) = none → no (.keyLoad m b) agRANGE)) ∧
    (s.agentTakes m 0x8C false u x slot ctr → (m.pkt.authForm 10 0 = false → no (.keyClear m) agFORMAT) ∧
      (m.pkt.authForm 10 0 = true → portOn m.k (m.pkt.arg 7 0) = none → no (.keyClear m) agRANGE)) ∧
    (s.agentTakes m 0x8D false u x slot ctr → (m.pkt.authForm 10 0 = false → no (.keySwitch m) agFORMAT) ∧
      (m.pkt.authForm 10 0 = true → portOn m.k (m.pkt.arg 7 0) = none → no (.keySwitch m) agRANGE)) ∧
    (s.agentTakes m 0x8F false u x slot ctr → (m.pkt.authForm 16 0 = false → no (.teleClear m) agFORMAT) ∧
      (m.pkt.authForm 16 0 = true → telPorts m.k m.pkt = none → no (.teleClear m) agRANGE)))

/-- events: a manager that acts and is not isolated answers one that verifies, and acts on it by its code: KEY_DUE begins a key rotation of the port,
PORT_STATE takes the port's reported state into the graph and asks for the die's ports again where it is HELD or QUARANTINE or the port is not known, FAULT
stops the slices of the partition it ended and makes a package DEGRADED whose die is fenced, every other code asks for the die's ports again; others have no
effect. An OK answer that verifies under the slot and counter the oldest event went out with takes it from its agent, and an unanswered one is sent again when
its period ends. A sample adds one to the bin of the port's waiting flits and changes no register and no memory. An unanswered request is sent again with one
retry fewer, and has failed when none is left; an unanswered relay frame likewise, and a failed one counts its accesses and completes its reads with all ones
(10 R395, R397, R398, R400, 16 R598; the retries of MIRROR, which alternate between its paths, are 11 R443; the manager's DEGRADED is 11 R438). -/
def Obligations.EventsReachTheManager : Prop :=
  (∀ (s : State) (ser : BitVec 128) (role : Nat) (e : AgentEvent) (fenced : Bool) (part : Option Part), s.mgmtOn = true → s.acts = true →
    s.pairSt ≠ prISOLATED →
    let u := s.emit (.eventOk ser role)
    let relist (w : State) : State := w.addJobs [{ tag := .relist, steps := listSteps ser role }]
    (e.code = 4 → exec (.event (.atManager ser role e true fenced part)) s = .next (s.finish (u.rotate ser role e.port).summit)) ∧
    (e.code ≠ 1 → e.code ≠ 4 → e.code ≠ 5 → exec (.event (.atManager ser role e true fenced part)) s = .next (s.finish (relist u).summit)) ∧
    (∀ p, e.code = 5 → u.pkgOf ser = some p → (fenced = false ∧ (ser = s.fuses.serial → u.impaired = false) ∨ p.state ≠ 1) → part = none →
      exec (.event (.atManager ser role e true fenced part)) s =
        .next (s.finish (u.stopSlices (fun x => x.members.contains p.ix && (part.any (fun q => q.val == x.part))) 3 p.ix).summit)) ∧
    (∀ p, e.code = 5 → u.pkgOf ser = some p → fenced = true → p.state = 1 →
      exec (.event (.atManager ser role e true fenced part)) s =
        .next (s.finish (((u.commit (.failure ser role 0xFF)).commit (.shape [{ p with state := 2 }] [] true)).stopSlices
          (fun x => x.members.contains p.ix && (part.any (fun q => q.val == x.part))) 3 p.ix).summit)) ∧
    (∀ d p, e.code = 1 → u.dieOf ser role = some d → u.portRec ser role e.port = some p →
      let v := u.portReport d { p.rep with state := e.state, cause := e.cause, valid := p.rep.valid && e.state != lkFAILED && e.state != lkDETECT && e.state != lkDISABLED }
      exec (.event (.atManager ser role e true fenced part)) s = .next (s.finish (if e.state = lkHELD ∨ e.state = lkQUARANTINE then relist v else v).summit)) ∧
    (e.code = 1 → u.dieOf ser role = none ∨ u.portRec ser role e.port = none →
      exec (.event (.atManager ser role e true fenced part)) s = .next (s.finish (relist u).summit))) ∧
  (∀ (s : State) (ser : BitVec 128) (role : Nat) (e : AgentEvent) (valid fenced : Bool) (part : Option Part), s.settled = true →
    (s.acts = false ∨ valid = false ∨ s.pairSt = prISOLATED) → exec (.event (.atManager ser role e valid fenced part)) s = .next s) ∧
  (∀ (s w : State) (m : MgtIn) (slot ctr : Nat), s.mgmtOn = true → s.mgtTakes m = (w, true) → m.pkt.op = 0xDF → (w.agent m.k).cur = some (slot, ctr) →
    m.valid = true → imgNat (m.pkt.payload.drop (m.pkt.payload.length - 32)) 8 1 = slot →
    imgNat (m.pkt.payload.drop (m.pkt.payload.length - 32)) 0 8 % 2 ^ 62 = ctr % 2 ^ 62 → m.pkt.arg 7 0 = agOK →
    exec (.event (.answered m)) s = .next (s.finish (w.eventAnswered m.k))) ∧
  (∀ (s w : State) (m : MgtIn), s.mgmtOn = true → s.mgtTakes m = (w, true) → m.pkt.op ≠ 0xDF ∨ m.valid = false ∨ m.pkt.arg 7 0 ≠ agOK ∨ (w.agent m.k).cur = none →
    exec (.event (.answered m)) s = .next (s.finish w)) ∧
  (∀ (s : State) (k : PDie) (e : AgentEvent) (rest : List AgentEvent), (s.agent k).evq = e :: rest → (s.agent k).lostDue = false →
    ((s.eventAnswered k).agent k).evq = rest ∧ ((s.eventAnswered k).agent k).sends = 0 ∧ ((s.eventAnswered k).agent k).cur = none) ∧
  (∀ (s : State) (k : PDie), s.mgmtOn = true → s.inReset (PDie.die k) = false → PDie.die k ∉ s.fencedDies → (s.agent k).sends ≠ 0 →
    exec (.eventResend k) s = .next (s.finish (s.sendEvent k))) ∧
  (∀ (s : State) (k : PDie), s.settled = true → (s.inReset (PDie.die k) = true ∨ PDie.die k ∈ s.fencedDies ∨ (s.agent k).sends = 0) →
    exec (.eventResend k) s = .next s) ∧
  (∀ (s : State) (q : Port), s.settled = true → s.portUp q = true →
    let n := ((List.range 6).map (s.portWaiting q)).sum
    ∃ t : State, exec (.teleSample q) s = .next t ∧ (t.port q).tel.bins = telInc (s.port q).tel.bins (min 15 (n / 2 ^ s.fld (.agt (Port.pdie q)) F.AGT_CFG_BIN_LOG2)) 1 ∧
      t.regs = s.regs ∧ t.mem = s.mem ∧ t.out = s.out ∧ ∀ r, r ≠ q → t.port r = s.port r) ∧
  (∀ (s : State) (xid : Nat) (j : Job), s.mgmtOn = true → s.smtUp = true → s.smt.jobs.find? (fun j => j.sent && j.xid == xid) = some j →
    (j.left = 0 → exec (.mgtRequestRetry (.mgr xid)) s = .next (s.finish (s.jobFail j).summit)) ∧
    (j.left ≠ 0 → j.tag ≠ .mirror →
      exec (.mgtRequestRetry (.mgr xid)) s = .next (s.finish ((s.putJob j { j with left := j.left - 1 }).sendJob { j with left := j.left - 1 }))) ∧
    (j.left ≠ 0 → j.tag = .mirror →
      let j' := { j with left := j.left - 1, path := (if j.path = .net then .routed else .net) }
      exec (.mgtRequestRetry (.mgr xid)) s = .next (s.finish (((s.bump .smt C.SMT_MIRROR_RETRY 1).putJob j j').sendJob j')))) ∧
  (∀ (s : State) (xid : Nat), s.settled = true → (s.smtUp = false ∨ ∀ j ∈ s.smt.jobs, j.sent = false ∨ j.xid ≠ xid) →
    exec (.mgtRequestRetry (.mgr xid)) s = .next s) ∧
  (∀ (s : State) (pos : Fin 4) (r : RelayOut), s.mgmtOn = true → s.mcReset = false → s.relayOut.find? (fun r => r.pos == pos.val) = some r → r.sent = true →
    (r.left = 0 → exec (.mgtRequestRetry (.relay pos)) s = .next (s.finish ((((s.dropRelay pos.val).bump .pci C.PCI_RELAY_FAIL r.accs.length).relayData r
      ((r.accs.filter (fun a => !a.write)).map (fun _ => allOnes))).pumpRelay))) ∧
    (r.left ≠ 0 → exec (.mgtRequestRetry (.relay pos)) s = .next (s.finish (State.emit { s with relayOut := s.relayOut.map (fun (y : RelayOut) => if y.pos == pos.val && y.sent then { y with left := y.left - 1 } else y) }
      (.relay pos.val r.ctr r.accs)))))

/-- the pair's operations at the Summit endpoint of a package whose manager runs. PAIR_OPEN opens the pair session for the partner's valid signature alone (AUTH
otherwise, FORMAT for another form). Under that session, a HEARTBEAT of the right form is answered with the responder's TERM, role and highest SEQ; it makes an
acting manager that learns a higher term a standby, a standby in PLAN begin to synchronise, and counts as seen on its path unless it says ISOLATED. MIRROR is
refused with STATE by a manager that is no standby; a standby applies each record whose SEQ is the next and whose term is not lower, and answers the highest SEQ
applied or the first it lacks. SYNC_READ is answered with 1,992 bytes by an acting manager or one in PLAN, which it leaves as it was, with STATE by others. A
TERM_NOTICE of a higher term makes the manager a standby that holds that term, any other changes nothing; each is answered OK (11 R443, R444, R446, R447; that
the image's bytes are free is log entry 69, the order of the answer's fields log entry 68). -/
def Obligations.PairSessionCarriesThePair : Prop :=
  (∀ (s u : State) (m : MgtIn), s.mgmtOn = true → s.mgtTakes m = (u, true) → m.pkt.op = 0xA0 → m.k = 0 → u.smtUp = true →
    (m.pkt.cls = false ∨ m.pkt.payload.length < 112 ∨ m.pkt.argsUpTo 0 = false → exec (.pairOpen m) s = .next (s.finish (u.endpointReplies m agFORMAT []))) ∧
    (m.pkt.cls = true → 112 ≤ m.pkt.payload.length → m.pkt.argsUpTo 0 = true →
      let em : BitVec 256 := BitVec.ofNat 256 (imgNat m.pkt.payload 0 32)
      let ser : BitVec 128 := BitVec.ofNat 128 (imgNat m.pkt.payload 32 16)
      (m.valid = true → ser = u.partnerSerial → ∀ v x d, u.openAnswer em ser = (v, x, d) →
        exec (.pairOpen m) s = .next (s.finish (State.endpointReplies { v with pairSess := some x } m agOK d))) ∧
      (m.valid = false ∨ ser ≠ u.partnerSerial → exec (.pairOpen m) s = .next (s.finish (u.endpointReplies m agAUTH []))))) ∧
  (∀ (s u : State) (m : MgtIn) (x : Session) (ctr : Nat), s.mgmtOn = true → s.endpointTakes m 0xA1 u x ctr →
    (m.pkt.authForm 0 24 = false ∨ 4 ≤ imgNat m.pkt.args 4 1 ∨ imgZero m.pkt.args 5 3 = false →
      exec (.heartbeat m) s = .next (s.finish (u.endpointAnswers m x ctr agFORMAT []).summit)) ∧
    (m.pkt.authForm 0 24 = true → imgNat m.pkt.args 4 1 < 4 → imgZero m.pkt.args 5 3 = true →
      let term := imgNat m.pkt.args 0 4
      let heard (v : State) : State := if imgNat m.pkt.args 4 1 % 2 = 1 then v else v.updSmt (fun x => if m.net then { x with mgnSeen := true } else { x with fabSeen := true })
      ((u.acts = false ∨ term ≤ u.myTerm.toNat) → (u.disc ≠ sdPLAN ∨ u.pairSt ≠ prNONE ∨ u.summitRole ≠ 2) →
        exec (.heartbeat m) s = .next (s.finish ((heard u).endpointAnswers m x ctr agOK (heard u).beatBody).summit)) ∧
      (u.disc = sdPLAN → u.pairSt = prNONE → u.summitRole = 2 →
        let v := heard ((u.setPair prSYNCING).addJobs [oneJob .sync .peer (.syncRead 0)])
        exec (.heartbeat m) s = .next (s.finish (v.endpointAnswers m x ctr agOK v.beatBody).summit)) ∧
      (u.acts = true → u.myTerm.toNat < term →
        let v := heard (State.smtStepDown (u.setFld .smt F.SMT_TERM_TERM term))
        exec (.heartbeat m) s = .next (s.finish (v.endpointAnswers m x ctr agOK v.beatBody).summit)))) ∧
  (∀ (s u : State) (m : MgtIn) (recs : List MirRec) (x : Session) (ctr : Nat), s.mgmtOn = true → s.endpointTakes m 0xA2 u x ctr →
    (m.pkt.argsUpTo 0 = false → exec (.mirror m recs) s = .next (s.finish (u.endpointAnswers m x ctr agFORMAT []).summit)) ∧
    (m.pkt.argsUpTo 0 = true → u.pairSt ≠ prSTANDBY → exec (.mirror m recs) s = .next (s.finish (u.endpointAnswers m x ctr agSTATE []).summit)) ∧
    (m.pkt.argsUpTo 0 = true → u.pairSt = prSTANDBY →
      let v := recs.foldl (fun (t : State) r => if r.seq = t.smt.lastSeq + 1 ∧ t.myTerm.toNat ≤ r.term.toNat then t.applyRec r else t) u
      exec (.mirror m recs) s = .next (s.finish (v.endpointAnswers m x ctr agOK
        (leBytes (if recs.any (fun r => decide (v.smt.lastSeq < r.seq)) then v.smt.lastSeq + 1 else v.smt.lastSeq) 8)).summit))) ∧
  (∀ (t : State) (r : MirRec), (t.applyRec r).smt.lastSeq = r.seq ∧ (t.applyRec r).mem = t.mem ∧ (t.applyRec r).ports = t.ports ∧
    (t.applyRec r).fld .smt F.SMT_TERM_TERM = r.term.toNat) ∧
  (∀ (s u : State) (m : MgtIn) (x : Session) (ctr : Nat), s.mgmtOn = true → s.endpointTakes m 0xA3 u x ctr →
    (m.pkt.authForm 0 8 = false → exec (.syncRead m) s = .next (s.finish (u.endpointAnswers m x ctr agFORMAT []))) ∧
    (m.pkt.authForm 0 8 = true → u.acts = true ∨ u.disc = sdPLAN → ∃ (v : State) (b : List Byte), b.length = 1992 ∧
      exec (.syncRead m) s = .next (s.finish (v.endpointAnswers m x ctr agOK b)) ∧ v.smt = u.smt ∧ v.regs = u.regs ∧ v.mem = u.mem) ∧
    (m.pkt.authForm 0 8 = true → u.acts = false → u.disc ≠ sdPLAN → exec (.syncRead m) s = .next (s.finish (u.endpointAnswers m x ctr agSTATE [])))) ∧
  (∀ (s u : State) (m : MgtIn) (x : Session) (ctr : Nat), s.mgmtOn = true → s.endpointTakes m 0xA4 u x ctr →
    (m.pkt.authForm 0 20 = false → exec (.termNotice m) s = .next (s.finish (u.endpointAnswers m x ctr agFORMAT []).summit)) ∧
    (m.pkt.authForm 0 20 = true →
      let term := imgNat m.pkt.args 0 4
      (u.myTerm.toNat < term → exec (.termNotice m) s =
        .next (s.finish ((State.smtStepDown (u.setFld .smt F.SMT_TERM_TERM term)).endpointAnswers m x ctr agOK []).summit)) ∧
      (term ≤ u.myTerm.toNat → exec (.termNotice m) s = .next (s.finish (u.endpointAnswers m x ctr agOK []).summit)))) ∧
  (∀ (s : State), (State.smtStepDown s).disc = sdSTANDBY ∧ (State.smtStepDown s).pairSt = prSYNCING ∧ (State.smtStepDown s).smt.jobs = [oneJob .sync .peer (.syncRead 0)] ∧
    (State.smtStepDown s).smt.claim = none ∧ (State.smtStepDown s).mem = s.mem)

/-- the heartbeats of a period: the manager counts the period on each path as missed unless a heartbeat was seen there, which clears that path's count; a standby
missing fewer than three on either path stays one and claims the next term when three are missed on both, the claim coming again each tenth period; a paired
primary missing two on both becomes ISOLATED and claims the next term, and every primary sends a heartbeat on each path in place of those that have not left; a
manager that does not run, or is OFF, does nothing (11 R447; the tenth period stands for the 100 ms between claims, a period being 10 ms). -/
def Obligations.MissedHeartbeatsDecide : Prop :=
  (∀ (s : State), s.mgmtOn = true → s.smtUp = true → s.disc = sdSTANDBY →
    let u := s.countBeats.clearBeats
    (u.missedBoth 3 = false → exec .heartbeatPeriod s = .next (s.finish (u.updSmt (fun x => { x with isoRetry := 0 })))) ∧
    (u.missedBoth 3 = true → u.pairSt = prSYNCING → exec .heartbeatPeriod s = .next (s.finish u.startExplore.summit)) ∧
    (u.missedBoth 3 = true → u.pairSt ≠ prSYNCING → s.smt.isoRetry % 10 = 0 → exec .heartbeatPeriod s = .next (s.finish u.claimNow.summit)) ∧
    (u.missedBoth 3 = true → u.pairSt ≠ prSYNCING → s.smt.isoRetry % 10 ≠ 0 → exec .heartbeatPeriod s = .next (s.finish u.waitClaim))) ∧
  (∀ (s : State), s.mgmtOn = true → s.smtUp = true → s.disc ≠ sdOFF → s.disc ≠ sdSTANDBY → (s.disc ≠ sdPLAN ∨ s.summitRole ≠ 2) →
    let u := s.countBeats.clearBeats
    (s.pairSt = prPAIRED → u.missedBoth 2 = true → exec .heartbeatPeriod s = .next (s.finish ((u.setPair prISOLATED).claimNow).sendBeats.summit)) ∧
    (s.pairSt = prPAIRED → u.missedBoth 2 = false → exec .heartbeatPeriod s = .next (s.finish u.sendBeats.summit)) ∧
    (s.pairSt = prISOLATED → (u.smt.claim = none ∧ s.smt.isoRetry % 10 = 0 → exec .heartbeatPeriod s = .next (s.finish u.claimNow.sendBeats.summit)) ∧
      (u.smt.claim ≠ none ∨ s.smt.isoRetry % 10 ≠ 0 → exec .heartbeatPeriod s = .next (s.finish u.waitClaim.sendBeats.summit))) ∧
    (s.pairSt ≠ prPAIRED → s.pairSt ≠ prISOLATED → exec .heartbeatPeriod s = .next (s.finish s.clearBeats.sendBeats.summit))) ∧
  (∀ (s : State), s.settled = true → s.smtUp = false ∨ s.disc = sdOFF ∨ (s.disc = sdPLAN ∧ s.summitRole = 2) → exec .heartbeatPeriod s = .next s) ∧
  (∀ (s : State), s.countBeats.fld .smt F.SMT_HB_MISS_FAB = (if s.smt.fabSeen then 0 else satAdd 15 (s.fld .smt F.SMT_HB_MISS_FAB) 1) ∧
    s.countBeats.fld .smt F.SMT_HB_MISS_MGN = (if s.smt.mgnSeen then 0 else satAdd 15 (s.fld .smt F.SMT_HB_MISS_MGN) 1) ∧ s.countBeats.mem = s.mem ∧
    s.countBeats.smt = s.smt) ∧
  (∀ (s : State), s.claimNow.smt.claim = some { term := s.myTerm + 1 } ∧ s.claimNow.regs = s.regs ∧ s.claimNow.mem = s.mem ∧
    s.claimNow.smt.jobs = s.smt.jobs.filter (fun j => j.tag != .claim) ++
      s.claimSet.map (fun ser => oneJob .claim (.ag ser 0) (.mc 0x0101 (leBytes (s.myTerm + 1).toNat 4 ++ leBytes s.fuses.serial.toNat 16)))) ∧
  (∀ (s : State), let hb := MgrOp.heartbeat s.myTerm (s.pairSt == prISOLATED) (s.pairSt == prSOLO) s.smt.acting (s.now pd0)
    s.sendBeats.smt.jobs = s.smt.jobs.filter (fun j => j.tag != .hb true && j.tag != .hb false) ++ [oneJob (.hb true) .peer hb, oneJob (.hb false) .peer hb])

/-- the stages of a manager. A write of SMT_CTRL sets EN; a role that is enabled with a plan held and CD0's memory READY, on a compute die that is up, goes from
OFF to PLAN and opens the pair session, one that is disabled is OFF with no request, and an enabled role that is past OFF, or lacks one of these, just keeps its
EN. The wait for the partner ends PLAN unless the manager is synchronising; the poll of EXPLORE asks again every die that has no request of it outstanding, a
failed claim is made again, and while serving a failed package is asked for its identity, one at a time; the end of EXPLORE takes the packages and switches the
matching places and begins the claim of the next term, and is nothing before it is due; a claim that times out is gone with its requests, and no register or
memory changes. A package grants MGR_CLAIM for a higher term, or for the term and the serial it holds, and refuses it otherwise with what it holds (11 R413,
R414, R415, R436, R445; that PLAN asks for CD0's memory is 15 R572; what DISCOVERY_POLL repeats is log entry 65). -/
def Obligations.ManagerStagesFollow : Prop :=
  (∀ (s : State) (v : Word), s.mgmtOn = true →
    let u := s.setFld .smt F.SMT_CTRL_EN (bits v.toNat 2 2)
    (v.getLsbD 2 = false → ∃ t : State, exec (.smtEn v) s = .next (s.finish t) ∧ t.disc = sdOFF ∧ t.pairSt = prNONE ∧ t.fld .smt F.SMT_CTRL_EN = 0 ∧
      t.smt.jobs = [] ∧ t.smt.claim = none ∧ t.mem = s.mem) ∧
    (v.getLsbD 2 = true → u.smtUp = true → u.disc = sdOFF → u.plan ≠ [] → u.flag (.mem 0) F.BLK_STATUS_READY = true → u.dieDown 0 = false →
      exec (.smtEn v) s = .next (s.finish ((u.setDisc sdPLAN).addJobs [oneJob .pair .peer .pairOpen]).summit)) ∧
    (v.getLsbD 2 = true → u.smtUp = false ∨ u.disc ≠ sdOFF ∨ u.plan = [] ∨ u.flag (.mem 0) F.BLK_STATUS_READY = false ∨ u.dieDown 0 = true →
      exec (.smtEn v) s = .next (s.finish u))) ∧
  (∀ (s : State), s.mgmtOn = true → s.smtUp = true → s.disc = sdPLAN → s.pairSt ≠ prSYNCING →
    exec .pairWaitExpire s = .next (s.finish s.startExplore.summit)) ∧
  (∀ (s : State), s.settled = true → s.smtUp = false ∨ s.disc ≠ sdPLAN ∨ s.pairSt = prSYNCING → exec .pairWaitExpire s = .next s) ∧
  (∀ (s : State), s.mgmtOn = true → s.acts = true →
    (s.disc = sdEXPLORE → exec .discoveryPoll s = .next (s.finish (s.smt.found.foldl (fun (t : State) d =>
      if t.smt.jobs.any (fun j => j.tag == .explore && (j.steps.head?).any (fun x => x.1 == .ag d.serial d.role)) then t
      else t.addJobs [{ tag := .explore, steps := (if d.known then [] else [(.ag d.serial d.role, .identify)]) ++ listSteps d.serial d.role }]) s).summit)) ∧
    (s.disc = sdCLAIM → s.smt.claim = none → exec .discoveryPoll s = .next (s.finish s.startClaim.summit)) ∧
    (s.serving = true → exec .discoveryPoll s = .next (s.finish ((s.smt.pkgs.filter (fun p => p.state == 4)).foldl (fun (t : State) p =>
      if t.smt.jobs.any (fun j => j.tag == .probe) then t else t.addJobs [oneJob .probe (.ag p.serial 0) .identify]) s).summit))) ∧
  (∀ (s : State), s.settled = true → s.acts = false ∨ (s.disc ≠ sdEXPLORE ∧ (s.disc ≠ sdCLAIM ∨ s.smt.claim ≠ none) ∧ s.serving = false) → exec .discoveryPoll s = .next s) ∧
  (∀ (s : State) (b : Bool), s.mgmtOn = true → s.acts = true → s.disc = sdEXPLORE → (b = true ∨ s.allFound = true) →
    ∃ t : State, exec (.exploreEnd b) s = .next (s.finish t.summit) ∧ t.smt.claim = some { term := s.myTerm + 1 } ∧ t.disc = sdCLAIM ∧
      t.smt.pkgs.map (fun p => (p.ix, p.serial)) = s.matching.pkgs.map (fun p => (p.ix, p.serial)) ∧ (∀ p ∈ t.smt.pkgs, p.state = 1 ∨ p.state = 3) ∧
      t.smt.sws = s.matching.sws ∧ t.mem = s.mem) ∧
  (∀ (s : State) (b : Bool), s.settled = true → s.acts = false ∨ s.disc ≠ sdEXPLORE ∨ (b = false ∧ s.allFound = false) → exec (.exploreEnd b) s = .next s) ∧
  (∀ (s : State), s.settled = true → s.smtUp = true → s.smt.claim.isSome = true → ∃ t : State, exec .claimTimeout s = .next t ∧ t.smt.claim = none ∧
    (∀ j ∈ t.smt.jobs, j.tag ≠ .claim ∧ j ∈ s.smt.jobs) ∧ t.regs = s.regs ∧ t.mem = s.mem) ∧
  (∀ (s : State), s.settled = true → s.smtUp = false ∨ s.smt.claim = none → exec .claimTimeout s = .next s) ∧
  (∀ (s : State) (b : List Byte), s.settled = true → s.memberUp = true → b.length = 20 →
    let term : BitVec 32 := BitVec.ofNat 32 (imgNat b 0 4)
    let ser : BitVec 128 := BitVec.ofNat 128 (imgNat b 4 16)
    (s.heldTerm.toNat < term.toNat ∨ term = s.heldTerm ∧ ser = s.heldBy →
      exec (.mgrClaim b) s = .next (State.emit { s with heldTerm := term, heldBy := ser } (.mcResponse (mcOK ++ leBytes term.toNat 4 ++ leBytes ser.toNat 16)))) ∧
    (term.toNat ≤ s.heldTerm.toNat → (term ≠ s.heldTerm ∨ ser ≠ s.heldBy) →
      exec (.mgrClaim b) s = .next (s.emit (.mcResponse (mcREFUSED ++ leBytes s.heldTerm.toNat 4 ++ leBytes s.heldBy.toNat 16)))))

/-- routes and keys. A write of SMT_GEN clears DONE where its bit is written, and starts a generation where GO is and none runs; the end of one shows DONE, the time
and whether a record was unreadable, and signals it. A route change that is due begins in the epoch not in use when the manager serves, is not isolated, and no
other change, generation or alignment is under way; otherwise it does not. A key rotation of an admitted link without requests under way asks for the idle slots'
keys, the switch and the clearing of the old slots, in this order. A failed planned port is trained again unless it was retrained three times within an hour; a
slice whose members do not answer in time is undone: its creation becomes a release of the members that joined, MEMBER_FAIL, its other requests gone (11
R419, R421, R426–R429, R434, R450). -/
def Obligations.ManagerChangesRoutesAndKeys : Prop :=
  (∀ (s : State) (v : Word), s.settled = true →
    let u := if v.getLsbD 2 then s.setFld .smt F.SMT_GEN_DONE 0 else s
    (v.getLsbD 0 = true → s.flag .smt F.SMT_GEN_BUSY = false → exec (.smtGenGo v) s = .next ((u.setFld .smt F.SMT_GEN_GO 1).setFld .smt F.SMT_GEN_BUSY 1)) ∧
    (v.getLsbD 0 = false ∨ s.flag .smt F.SMT_GEN_BUSY = true → exec (.smtGenGo v) s = .next u)) ∧
  (∀ (s : State) (us : BitVec 32) (b : Bool), s.mgmtOn = true → s.flag .smt F.SMT_GEN_BUSY = true →
    ∃ t : State, exec (.routeGenDone us b) s = .next (s.finish (t.fireEvent .smt 1)) ∧ t.fld .smt F.SMT_GEN_GO = 0 ∧ t.fld .smt F.SMT_GEN_BUSY = 0 ∧
      t.fld .smt F.SMT_GEN_DONE = 1 ∧ t.fld .smt F.SMT_GEN_ERR = b.toNat ∧ t.fld .smt F.SMT_GEN_TIME_US = us.toNat ∧ t.mem = s.mem ∧ t.smt = s.smt) ∧
  (∀ (s : State) (us : BitVec 32) (b : Bool), s.settled = true → s.flag .smt F.SMT_GEN_BUSY = false → exec (.routeGenDone us b) s = .next s) ∧
  (∀ (s : State), s.mgmtOn = true → s.serving = true → s.pairSt ≠ prISOLATED → s.smt.changeDue = true → s.smt.changing = none →
    s.flag .smt F.SMT_GEN_BUSY = false → (∀ j ∈ s.smt.jobs, j.tag ≠ .align) →
    exec .routeChange s = .next (s.finish ((s.setDisc sdRESHAPE).beginChange (1 - s.smt.cur)).summit)) ∧
  (∀ (s : State), s.settled = true → s.serving = false ∨ s.pairSt = prISOLATED ∨ s.smt.changeDue = false ∨ s.smt.changing ≠ none ∨ s.flag .smt F.SMT_GEN_BUSY = true ∨
    (∃ j ∈ s.smt.jobs, j.tag = .align) → exec .routeChange s = .next s) ∧
  (∀ (s : State) (n : Nat), (s.beginChange n).smt.changing = some (n, 0) ∧ (s.beginChange n).smt.changeDue = false ∧ (s.beginChange n).mem = s.mem ∧
    ∃ q d, (s.beginChange n).smt.recs = s.smt.recs ++ [⟨s.smt.lastSeq + 1, s.myTerm, .routeBegin n q d⟩]) ∧
  (∀ (s : State) (ser : BitVec 128) (role port : Nat) (p : PortRec), s.mgmtOn = true → s.portRec ser role port = some p →
    (s.serving = true → p.admitted = true → p.rep.valid = true → s.linkBusy ser role port = false →
      exec (.keyRotation ser role port) s = .next (s.finish (((s.addJobs [{ tag := .key, steps := keySteps (ser, role, port) (p.rep.pSerial, p.rep.pRole, p.rep.pPort) (1 - p.txSlot) s.smt.nextKey ++
          [(.ag ser role, .keyClear port false p.txSlot), (.ag p.rep.pSerial p.rep.pRole, .keyClear p.rep.pPort true p.txSlot)] }]).updSmt
        (fun x => { x with nextKey := x.nextKey + 1 })).summit))) ∧
    (s.serving = false ∨ p.admitted = false ∨ p.rep.valid = false ∨ s.linkBusy ser role port = true →
      exec (.keyRotation ser role port) s = .next (s.finish s.summit))) ∧
  (∀ (s : State) (ser : BitVec 128) (role port : Nat) (p : PortRec), s.mgmtOn = true → s.portRec ser role port = some p → s.serving = true →
    p.cls = .missing → p.rep.state = lkFAILED → retrainedOut p.retrains = false → exec (.portRetrain ser role port) s =
      .next (s.finish ((s.updSmt (fun x => x.putPort ser role { p with retrains := p.retrains.drop (p.retrains.length - 2) ++ [s.now pd0] })).addJobs
        [oneJob .stop (.ag ser role) (.portCmd port 1)]).summit)) ∧
  (∀ (s : State) (ser : BitVec 128) (role port : Nat) (p : PortRec), s.settled = true → s.portRec ser role port = some p →
    s.serving = false ∨ p.cls ≠ .missing ∨ p.rep.state ≠ lkFAILED ∨ retrainedOut p.retrains = true → exec (.portRetrain ser role port) s = .next s) ∧
  (∀ (a b c : BitVec 64) (l : List (BitVec 64)), (retrainedOut [a, b, c] = true ↔ (c - a).toNat < 720000000000) ∧ (l.length ≠ 3 → retrainedOut l = false)) ∧
  (∀ (s : State) (id : Nat), s.mgmtOn = true → s.serving = true → exec (.sliceJoinTimeout id) s = .next (s.finish (s.sliceUndo id).summit)) ∧
  (∀ (s : State) (id : Nat), s.settled = true → s.serving = false → exec (.sliceJoinTimeout id) s = .next s) ∧
  (∀ (s : State) (id : Nat) (x : SliceRec), s.smt.slices.find? (fun x => x.id == id && x.state == 0) = some x →
    let t := s.sliceUndo id
    t.smt.recs = s.smt.recs ++ [⟨s.smt.lastSeq + 1, s.myTerm, .slice { x with state := 3, members := x.joined } x.joined.isEmpty⟩] ∧
    (∀ j ∈ t.smt.jobs, j.tag ≠ .join id) ∧ t.mem = s.mem ∧ t.parts = s.parts ∧ (x.joined = [] → ∀ y ∈ t.smt.slices, y.id ≠ id)) ∧
  (∀ (s : State) (id : Nat), (∀ x ∈ s.smt.slices, x.id = id → x.state ≠ 0) → s.sliceUndo id = s)

/-- while the manager serves and is not isolated, WATERSHED_ROUND runs the round of every enabled slice in turn, and CUBE_TIME_ALIGN aligns every rack it has
readings of against its parent; otherwise neither does anything. A round that moves budget gives exactly what it takes: the members' caps keep their sum, no
donor falls below MIN_W and no member passes its fused limit by it; with fewer than two valid latenesses, or a spread below the dead band, nothing moves; and a
member under PLATEAU (the flag of its place) keeps its cap (12 R480–R483, 17 R636; the order in which watts are rounded is log entry 70). -/
def Obligations.WatershedRoundsConserveTheBudget : Prop :=
  (∀ (s : State) (rounds : List WsRound), s.mgmtOn = true → s.serving = true → s.pairSt ≠ prISOLATED →
    exec (.watershedRound rounds) s = .next (s.finish ((s.smt.ws.filter (fun w => !w.off)).foldl (fun t w => t.wsRound rounds w) s).summit)) ∧
  (∀ (s : State) (xs : List CubeXfer), s.mgmtOn = true → s.serving = true → s.pairSt ≠ prISOLATED →
    exec (.cubeTimeAlign xs) s = .next (s.finish (xs.foldl State.alignRack s).summit)) ∧
  (∀ (s : State) (rounds : List WsRound) (xs : List CubeXfer), s.settled = true → s.serving = false ∨ s.pairSt = prISOLATED →
    exec (.watershedRound rounds) s = .next s ∧ exec (.cubeTimeAlign xs) s = .next s) ∧
  (∀ (dead minW : Nat) (l : List (Option Nat)) (caps limits new : List Nat) (plateau : List Bool), caps.length = l.length → limits.length = l.length →
    wsMove dead minW l caps limits plateau = some new →
    new.length = l.length ∧ new.sum = caps.sum ∧
      (∀ (i c n m : Nat), caps[i]? = some c → new[i]? = some n → limits[i]? = some m → n ≤ max c m ∧ (minW ≤ c → minW ≤ n))) ∧
  (∀ (dead minW : Nat) (l : List (Option Nat)) (caps limits new : List Nat) (plateau : List Bool) (i : Nat), caps.length = l.length → limits.length = l.length →
    wsMove dead minW l caps limits plateau = some new → i < l.length → plateau[i]? = some true ∨ l[i]? = some none → new[i]? = caps[i]?) ∧
  (∀ (dead minW : Nat) (l : List (Option Nat)) (caps limits : List Nat) (plateau : List Bool), (l.filterMap id).length < 2 → wsMove dead minW l caps limits plateau = none) ∧
  (∀ (dead minW : Nat) (l : List (Option Nat)) (caps limits : List Nat) (plateau : List Bool), (∀ v w, some v ∈ l → some w ∈ l → v < w + dead) →
    wsMove dead minW l caps limits plateau = none)

/-- every operator command is judged in one order and then committed: a package whose manager does not run, or is OFF, does nothing; a standby, or a manager that
synchronises, names the primary; else a credential without an entry, a right it lacks and an invalid signature are answered POLICY; a counter that is not above
the credential's last gets the answer that is kept for it, nothing while that command is still under way, and POLICY where it is older; a manager that is isolated
or not serving answers BUSY; any other command is committed as an OPCMD record, which sets the credential's counter, and acted on. A DEVICE_RESET that goes to the
package's own agent resets the package (01 R37, 11 R438, 14 R538, R539, 17 R639; that the request to oneself resets at once is log entry 58). -/
def Obligations.OperatorCommandsAreJudged : Prop :=
  (∀ (s : State) (h : OpHdr) (f : BootFind), s.mgmtOn = true →
    (∀ kind n a b m i j, exec (.sliceAlloc h kind n a b m i j) s = .next (s.finish (s.operator h (.sliceAlloc kind n a b m i j)))) ∧
    (∀ id, exec (.sliceFree h id) s = .next (s.finish (s.operator h (.sliceFree id)))) ∧
    (∀ c, exec (.shapeRead h c) s = .next (s.finish (s.operator h (.shapeRead c)))) ∧
    (∀ img ok, exec (.planUpdate h img ok) s = .next (s.finish (s.operator h (.planUpdate img ok)))) ∧
    (∀ co, exec (.readmit h co) s = .next (s.finish (s.operator h (.readmit co)))) ∧
    (∀ n, exec (.logRead h n) s = .next (s.finish (s.operator h (.logRead n)))) ∧
    (∀ co id body, exec (.powerSet h co id body) s = .next (s.finish (s.operator h (.powerSet co id body)))) ∧
    (∀ r, exec (.wsConfig h r) s = .next (s.finish (s.operator h (.wsConfig r)))) ∧
    (∀ t ts c, exec (.fwDistribute h t ts c) s = .next (s.finish (s.operator h (.fwDistribute t ts c)))) ∧
    (∀ id ts fl, exec (.fwActivate h id ts fl) s = .next (s.finish (s.operator h (.fwActivate id ts fl)))) ∧
    (∀ c, exec (.ridgeStop h c) s = .next (s.finish (s.operator h (.ridgeStop c)))) ∧
    (∀ c m, exec (.ridgeWake h c m) s = .next (s.finish (s.operator h (.ridgeWake c m)))) ∧
    (∀ co, (s.operator h (.deviceReset co)).selfReset s.out.length = false →
      exec (.deviceReset h co f) s = .next (s.finish (s.operator h (.deviceReset co)))) ∧
    (∀ co, (s.operator h (.deviceReset co)).selfReset s.out.length = true →
      exec (.deviceReset h co f) s = .next (s.finish ((s.operator h (.deviceReset co)).deviceReset f 2))) ∧
    (∀ c, (s.operator h c).selfReset s.out.length = false → exec (.opcmd h c f) s = .next (s.finish (s.operator h c))) ∧
    (∀ c, (s.operator h c).selfReset s.out.length = true → exec (.opcmd h c f) s = .next (s.finish ((s.operator h c).deviceReset f 2)))) ∧
  (∀ (s : State) (h : OpHdr) (c : OpCmd), s.smtUp = true → s.disc ≠ sdOFF →
    (s.disc = sdSTANDBY ∨ s.pairSt = prSTANDBY ∨ s.pairSt = prSYNCING →
      s.operator h c = s.emit (.operator ⟨h.cred, h.ctr, c.code, .notPrimary, leBytes s.partnerSerial.toNat 16, []⟩)) ∧
    (s.disc ≠ sdSTANDBY → s.pairSt ≠ prSTANDBY → s.pairSt ≠ prSYNCING →
      (planRights s.plan h.cred.toNat = none → s.operator h c = s.emit (.operator ⟨h.cred, h.ctr, c.code, .policy, [], []⟩)) ∧
      (∀ rights, planRights s.plan h.cred.toNat = some rights →
        (rights.testBit c.right = false ∨ h.sigOk = false → s.operator h c = s.emit (.operator ⟨h.cred, h.ctr, c.code, .policy, [], []⟩)) ∧
        (rights.testBit c.right = true → h.sigOk = true → Store.get (fun _ => 0) s.smt.opCtrs h.cred.toNat < h.ctr.toNat →
          (s.pairSt = prISOLATED ∨ s.serving = false → s.operator h c = s.emit (.operator ⟨h.cred, h.ctr, c.code, .busy, [], []⟩)) ∧
          (s.pairSt ≠ prISOLATED → s.serving = true → s.operator h c = (s.commit (.opcmd h c)).summit)) ∧
        (∀ a, rights.testBit c.right = true → h.sigOk = true → h.ctr.toNat ≤ Store.get (fun _ => 0) s.smt.opCtrs h.cred.toNat →
          s.smt.answers.find? (fun a => a.cred == h.cred && a.ctr == h.ctr) = some a → s.operator h c = s.emit (.operator a)) ∧
        (rights.testBit c.right = true → h.sigOk = true → s.smt.answers.find? (fun a => a.cred == h.cred && a.ctr == h.ctr) = none →
          (h.ctr.toNat < Store.get (fun _ => 0) s.smt.opCtrs h.cred.toNat → s.operator h c = s.emit (.operator ⟨h.cred, h.ctr, c.code, .policy, [], []⟩)) ∧
          (h.ctr.toNat = Store.get (fun _ => 0) s.smt.opCtrs h.cred.toNat → h.ctr.toNat ≠ 0 → s.operator h c = s))))) ∧
  (∀ (s : State) (h : OpHdr) (c : OpCmd), s.smtUp = false ∨ s.disc = sdOFF → s.operator h c = s) ∧
  (∀ (x : SummitSt) (h : OpHdr) (c : OpCmd), Store.get (fun _ => 0) (x.apply (.opcmd h c)).opCtrs h.cred.toNat = h.ctr.toNat)

/-- what an operator command that was committed does. SLICE_FREE of an active or stopped slice commits its release, whose answer waits for the record, POLICY
otherwise; SLICE_ALLOC of a form the plan allows, below its slice limit, commits the first candidate that fits and has a partition number, with a SLICE_ID no
slice has, and answers NO_SHAPE where none fits, NO_PARTITION where none of those that fit has a number; PLAN_UPDATE is POLICY for an image that is not accepted
or not newer, IN_USE for one that leaves out a member of a slice, else it commits the plan; READMIT starts a readmission of a package that is FAILED or in
recovered-idle; LOG_READ answers the LOG records from a SEQ on and SHAPE_READ the 64 packages of a rack; POWER_SET commits each package's new cap; RIDGE_STOP and
RIDGE_WAKE go to the rack's master; DEVICE_RESET goes to the package; the commands that go to packages wait for each answer. None of them changes a register, a
port or the memory (11 R412, R433–R441, 12 R479, 17 R638, R639; the lowest free SLICE_ID is log entry 56). -/
def Obligations.OperatorCommandsTakeEffect : Prop :=
  (∀ (s : State) (h : OpHdr) (id : Nat),
    (∀ x, s.smt.slices.find? (fun x => x.id == id && (x.state == 1 || x.state == 2)) = some x →
      s.opExec h (.sliceFree id) = s.commit (.slice { x with state := 3, asked := some (h.cred, h.ctr), askCode := 0x0202, scrubbed := x.lost } (x.members.all x.lost.contains))) ∧
    (s.smt.slices.find? (fun x => x.id == id && (x.state == 1 || x.state == 2)) = none → s.opExec h (.sliceFree id) = s.answerOp ⟨h.cred, h.ctr, 0x0202, .policy, [], []⟩)) ∧
  (∀ (s : State) (h : OpHdr) (kind n a b m i : Nat) (join : List Byte),
    (join.length ≠ 80 ∨ sliceForm s.plan kind n a b m = false ∨ planMaxSlices s.plan ≤ s.smt.slices.length →
      s.opExec h (.sliceAlloc kind n a b m i join) = s.answerOp ⟨h.cred, h.ctr, 0x0201, .policy, [], []⟩) ∧
    (join.length = 80 → sliceForm s.plan kind n a b m = true → s.smt.slices.length < planMaxSlices s.plan →
      (∀ x, ((sliceCandidates kind n a b m).filter s.sliceFits).find? (fun x => (s.slicePart x i).isSome) = some x →
        ∃ y, s.opExec h (.sliceAlloc kind n a b m i join) = s.commit (.slice y false) ∧
          y.members = x.ixs ∧ some y.part = s.slicePart x i ∧ y.join = join ∧ y.state = x.state ∧ y.asked = some (h.cred, h.ctr) ∧
          (planMaxSlices s.plan < 65535 → y.id ≠ 0 ∧ ∀ z ∈ s.smt.slices, z.id ≠ y.id)) ∧
      ((sliceCandidates kind n a b m).filter s.sliceFits = [] → s.opExec h (.sliceAlloc kind n a b m i join) = s.answerOp ⟨h.cred, h.ctr, 0x0201, .noShape, [], []⟩) ∧
      ((sliceCandidates kind n a b m).filter s.sliceFits ≠ [] → (∀ x ∈ (sliceCandidates kind n a b m).filter s.sliceFits, s.slicePart x i = none) →
        s.opExec h (.sliceAlloc kind n a b m i join) = s.answerOp ⟨h.cred, h.ctr, 0x0201, .noPartition, [], []⟩))) ∧
  (∀ (s : State) (h : OpHdr) (img : List Byte) (sig : Bool),
    (s.planAccepts img sig = false ∨ planSeq img ≤ planSeq s.plan →
      s.opExec h (.planUpdate img sig) = (s.updSmt (fun x => { x with planSeen := [] })).answerOp ⟨h.cred, h.ctr, 0x0204, .policy, [], []⟩) ∧
    (s.planAccepts img sig = true → planSeq s.plan < planSeq img →
      ((∃ x ∈ s.smt.slices, ∃ i ∈ x.members, i ∉ planIxs img) →
        s.opExec h (.planUpdate img sig) = (s.updSmt (fun x => { x with planSeen := [] })).answerOp ⟨h.cred, h.ctr, 0x0204, .inUse, [], []⟩) ∧
      ((∀ x ∈ s.smt.slices, ∀ i ∈ x.members, i ∈ planIxs img) →
        s.opExec h (.planUpdate img sig) = (s.updSmt (fun x => { x with planAsk := some h })).commit (.plan (planSeq img) (Config.sha512 img))))) ∧
  (∀ (s : State) (h : OpHdr) (n : Nat), s.opExec h (.logRead n) =
    s.answerOp ⟨h.cred, h.ctr, 0x0206, .ok, [], s.smt.recs.filter (fun r => decide (n ≤ r.seq) && r.body.type == 9)⟩) ∧
  (∀ (s : State) (h : OpHdr) (c : Nat), (c < 64 → s.opExec h (.shapeRead c) = s.answerOp ⟨h.cred, h.ctr, OpCmd.code (.shapeRead c), .ok,
      (List.range 64).flatMap (fun i => match s.pkgAt (c * 64 + i) with | some p => p.bytes | none => [0, 0, 0, 0]), []⟩) ∧
    (64 ≤ c → s.opExec h (.shapeRead c) = s.answerOp ⟨h.cred, h.ctr, OpCmd.code (.shapeRead c), .policy, [], []⟩)) ∧
  (∀ (s : State) (h : OpHdr) (co : BitVec 32), (∀ p, s.pkgAt (routeIndex co) = some p →
      (p.state = 5 ∨ p.state = 4 → s.opExec h (.readmit co) = (s.opWait h 0x0205 [p.ix]).startReadmit p.ix) ∧
      (p.state ≠ 5 → p.state ≠ 4 → s.opExec h (.readmit co) = (s.freshPorts p.serial).answerOp ⟨h.cred, h.ctr, 0x0205, .ok, [], []⟩)) ∧
    (s.pkgAt (routeIndex co) = none → s.opExec h (.readmit co) = s.answerOp ⟨h.cred, h.ctr, 0x0205, .policy, [], []⟩)) ∧
  (∀ (s : State) (h : OpHdr) (co : BitVec 32) (p : PkgRec) (body : List Byte), s.pkgAt (routeIndex co) = some p → body.length = 8 → co ≠ 0 →
    imgNat body 2 1 ≠ 1 → imgNat body 2 1 ≠ 0xFF →
    let w := s.opWait h 0x0207 [p.ix]
    let old := w.smt.capOf p.ix
    s.opExec h (.powerSet co 0 body) = w.commit (.power ⟨p.ix, if imgNat body 0 2 = 0 then old.cap else min (w.smt.fusedLimit p.ix) (imgNat body 0 2), imgNat body 2 1,
      if imgNat body 4 1 = 0 then old.step else imgNat body 4 1⟩ body)) ∧
  (∀ (s : State) (h : OpHdr) (cube n : Nat) (mask : BitVec 64), (s.smt.masters.find? (fun m => m.1 == cube)).map (·.2) = some n →
    s.opExec h (.ridgeStop cube) = (s.opWait h (OpCmd.code (.ridgeStop cube)) [n]).addJobs (s.pkgJob (.op n h) n 0x010E [3]) ∧
    s.opExec h (.ridgeWake cube mask) = (s.opWait h (OpCmd.code (.ridgeWake cube mask)) [n]).addJobs (s.pkgJob (.op n h) n 0x010E (4 :: leBytes mask.toNat 8))) ∧
  (∀ (s : State) (h : OpHdr) (co : BitVec 32) (p : PkgRec), s.pkgAt (routeIndex co) = some p →
    s.opExec h (.deviceReset co) = (s.opWait h (OpCmd.code (.deviceReset co)) [p.ix]).addJobs [oneJob (.op p.ix h) (.ag p.serial 0) .deviceReset]) ∧
  (∀ (s : State) (h : OpHdr) (c : OpCmd), (s.opExec h c).regs = s.regs ∧ (s.opExec h c).ports = s.ports ∧ (s.opExec h c).mem = s.mem)

/-- the management complex of a package past step 4 of bring-up answers each command of the manager with what it finds and does, and BUSY while it is in reset; a
package that is not up that far answers none. WS_READ, SLICE_QUERY and READ_XFER change nothing, WS_READ being refused outside NORMAL; READMIT_MC makes a package in recovered-idle
NORMAL and is refused in any other state. Of the TIM_CMDs only a ridge master adjusts, stops and wakes, the last two only while the ridge is open; STOP sends the
frame and raises its fault, WAKE sends it and wakes the addressed contexts here, TIM_ADJ adds to the slew and leaves GTIME where it is; SET_MASTER with 1 makes a
master, with 0 ends one, and READ_XFER of a port from 18 to 23 answers its four transfer times (11 R436, 12 R478, R481, 13 R509, 15 R580, 17 R636, R638). -/
def Obligations.MembersAnswerTheirCommands : Prop :=
  (∀ (s : State) (b : List Byte), s.mgmtOn = true → s.spUp = true → phMGMT ≤ s.boot.phase →
    let tells (i : Instr) (f : State → State × List Byte) : Prop :=
      (s.mcReset = false → exec i s = .next (s.finish ((f s).1.emit (.mcResponse (f s).2)))) ∧ (s.mcReset = true → exec i s = .next (s.finish (s.emit (.mcResponse mcBUSY))))
    tells (.mgrClaim b) (mgrClaim b) ∧ tells (.sliceJoin b) (sliceJoin b) ∧ tells (.sliceLeave b) (sliceLeave b) ∧ tells (.sliceStop b) (sliceStop b) ∧
    tells .sliceQuery sliceQuery ∧ tells .readmitMc readmitMc ∧ tells (.pwrSet b) (pwrSet b) ∧ tells (.wsRead b) (wsRead b) ∧
    tells (.distOpen b) (distOpen b) ∧ tells (.distData b) (distData b) ∧ tells (.distStatus b) (distStatus b) ∧
    tells (.distActivate b) (distActivate b) ∧ tells (.distAbort b) (distAbort b) ∧ tells (.setMaster b) (timSetMaster b) ∧
    tells (.readXfer b) (timReadXfer b) ∧ tells (.timAdj b) (timAdj b) ∧ tells (.timStop b) (timStop b) ∧ tells (.timWake b) (timWake b)) ∧
  (∀ (s : State) (b : List Byte), s.settled = true → s.spUp = false ∨ s.boot.phase < phMGMT →
    exec (.mgrClaim b) s = .next s ∧ exec (.sliceJoin b) s = .next s ∧ exec (.sliceLeave b) s = .next s ∧ exec (.sliceStop b) s = .next s ∧ exec .sliceQuery s = .next s ∧
    exec .readmitMc s = .next s ∧ exec (.pwrSet b) s = .next s ∧ exec (.wsRead b) s = .next s ∧ exec (.distOpen b) s = .next s ∧ exec (.distData b) s = .next s ∧
    exec (.distStatus b) s = .next s ∧ exec (.distActivate b) s = .next s ∧ exec (.distAbort b) s = .next s ∧ exec (.setMaster b) s = .next s ∧
    exec (.readXfer b) s = .next s ∧ exec (.timAdj b) s = .next s ∧ exec (.timStop b) s = .next s ∧ exec (.timWake b) s = .next s) ∧
  (∀ (s : State) (b : List Byte), (wsRead b s).1 = s ∧ (sliceQuery s).1 = s ∧ (timReadXfer b s).1 = s ∧
    (s.fld .flt F.FLT_STATE_STATE ≠ hubNORMAL → wsRead b s = (s, mcREFUSED)) ∧
    (s.fld .flt F.FLT_STATE_STATE = hubNORMAL → b ≠ [] → b.length % 4 = 0 →
      (wsRead b s).2 = mcOK ++ (List.range (b.length / 4)).flatMap (fun i => wsEntry s ((b.drop (4 * i)).take 4)))) ∧
  (∀ (s : State), (s.fld .flt F.FLT_STATE_STATE = hubRECOVERED_IDLE → (readmitMc s).2 = mcOK ∧ (readmitMc s).1.fld .flt F.FLT_STATE_STATE = hubNORMAL ∧
      (readmitMc s).1.fld .pci F.PCI_STATUS_FATAL = 0 ∧ (readmitMc s).1.mem = s.mem ∧ (readmitMc s).1.parts = s.parts) ∧
    (s.fld .flt F.FLT_STATE_STATE ≠ hubRECOVERED_IDLE → readmitMc s = (s, mcREFUSED))) ∧
  (∀ (s : State) (b : List Byte), s.flag .tim F.TIM_STATUS_MASTER = false →
    timAdj b s = (s, mcREFUSED) ∧ timStop b s = (s, mcREFUSED) ∧ timWake b s = (s, mcREFUSED)) ∧
  (∀ (s : State) (b : List Byte), s.ridgeOpen = false → timStop b s = (s, mcREFUSED) ∧ timWake b s = (s, mcREFUSED)) ∧
  (∀ (s : State) (b : List Byte), s.flag .tim F.TIM_STATUS_MASTER = true → s.ridgeOpen = true →
    timStop [] s = ((s.emit (.ridge 2 [])).raise .tim 0x101 4 {}, mcOK) ∧
    (b.length = 8 → let mask := BitVec.ofNat 64 (imgNat b 0 8)
      timWake b s = ((s.emit (.ridge 3 (leBytes mask.toNat 8))).woken mask, mcOK))) ∧
  (∀ (s : State) (b : List Byte), s.flag .tim F.TIM_STATUS_MASTER = true → b.length = 8 → ∃ t : State, timAdj b s = (t, mcOK) ∧
    t.ridge.slew = s.ridge.slew - (BitVec.ofNat 64 (imgNat b 0 8)).toInt ∧ t.gtime = s.gtime ∧
    t.fld .tim F.TIM_STATUS_SLEWING = (if s.ridge.hold ≠ 0 ∨ t.ridge.slew ≠ 0 then 1 else 0)) ∧
  (∀ (s : State), (timSetMaster [1] s).1.flag .tim F.TIM_STATUS_MASTER = true ∧ (timSetMaster [0] s).1.flag .tim F.TIM_STATUS_MASTER = false ∧
    (timSetMaster [1] s).2 = mcOK ∧ (timSetMaster [0] s).2 = mcOK ∧ (timSetMaster [2] s) = (s, mcREFUSED)) ∧
  (∀ (s : State) (n : Byte), let x := Store.get (fun _ => {}) s.xfers n.toNat
    (18 ≤ n.toNat → n.toNat < 24 → timReadXfer [n] s = (s, mcOK ++ leBytes x.txF.toNat 8 ++ leBytes x.txT.toNat 8 ++ leBytes x.rxF.toNat 8 ++ leBytes x.rxT.toNat 8)) ∧
    (n.toNat < 18 ∨ 24 ≤ n.toNat → timReadXfer [n] s = (s, mcREFUSED)))

/-- a partition and its slice. A SLICE_JOIN that is not admitted is REFUSED and changes nothing; joinOk asks that the body is well formed, the hub NORMAL, the number
free and its state NORMAL or CLEARED, debug locked for a confidential one, and that every compute die of the part can give Tarn, cairns and a granule. An admitted
one is answered OK and held with the dies, the descriptor, the contexts and the confidentiality it asks for. On each die the lowest free granule becomes range 0
and reads zero, the Tarn and cairn allocations are the sizes asked for, and no other byte of the die and nothing of another die changes. SLICE_LEAVE of a named
partition in a NORMAL hub starts its scrub, and waits (BUSY) while one runs; SLICE_STOP stops it and keeps its descriptor, again OK when it is stopped already;
both are REFUSED for a partition not named and in any other hub state (11 R435, R437, 14 R526, R527; GATE_TO of the new queues is log entry 42's free value). -/
def Obligations.PartitionsJoinLeaveAndStop : Prop :=
  (∀ (s : State) (b : List Byte) (p : Part), sjPART b = p.val →
    (s.joinOk b p = false → sliceJoin b s = (s, mcREFUSED)) ∧
    (s.joinOk b p = true → joinForm b = true ∧ s.part? p = none ∧ s.fld .flt F.FLT_STATE_STATE = hubNORMAL ∧ (s.partState p = ptNORMAL ∨ s.partState p = ptCLEARED) ∧
      (sjCONF b = true → s.fld .sec F.SEC_STATUS_DEBUG = 0) ∧
      (∀ c ∈ s.joinDies p, s.granFit c ≠ none ∧ s.tarnFit c (sjTARN b) ≠ none ∧ s.cairnFit c (sjCAIRNS b) ≠ none) ∧
      (sliceJoin b s).2 = mcOK ∧ ∃ x, (sliceJoin b s).1.part? p = some x ∧ x.dies = s.joinDies p ∧ x.conf = sjCONF b ∧
      x.contexts = sjCONTEXTS b ∧ x.sliceDesc = b.take 16 ∧ x.stopped = false ∧ x.leaving = false)) ∧
  (∀ (s : State) (b : List Byte) (p : Part) (gt g t k : Nat) (c : CDie), joinForm b = true → s.granFit c = some g → s.tarnFit c (sjTARN b) = some t →
    s.cairnFit c (sjCAIRNS b) = some k →
    (s.joinDie b p gt c).memRange c p 0 = (g, 1) ∧ (s.joinDie b p gt c).tarnAlloc c p = (t * tarnGran, sjTARN b * tarnGran) ∧
      (s.joinDie b p gt c).cairnRange c p = (k, sjCAIRNS b) ∧
      (∀ off, g * memGran ≤ off → off < (g + 1) * memGran → (s.joinDie b p gt c).memByte c off = 0) ∧
      (∀ off, off < g * memGran ∨ (g + 1) * memGran ≤ off → (s.joinDie b p gt c).memByte c off = s.memByte c off) ∧
      (∀ e, e ≠ c → (∀ off, off < memSpan → (s.joinDie b p gt c).memByte e off = s.memByte e off) ∧ (s.joinDie b p gt c).memRange e p 0 = s.memRange e p 0)) ∧
  (∀ (s : State) (c : CDie) (g : Nat), s.granFit c = some g → s.granFree c g = true ∧ g < 768 ∧ ∀ h < g, s.granFree c h = false) ∧
  (∀ (s : State) (b : List Byte) (p : Part) (x : PartSt), s.namedPart b = some (p, x) → s.fld .flt F.FLT_STATE_STATE = hubNORMAL →
    (s.partFenced p = true → sliceLeave b s = (s.setPart p (some { x with leaving := true }), mcBUSY)) ∧
    (s.partFenced p = false → sliceLeave b s = (((((s.setPart p (some { x with leaving := true })).setPartState p ptSCRUBBING).killPart p).showVf
      p).notifyPart p |>.showScrub, mcOK)) ∧
    (x.stopped = true ∨ s.partFenced p = true → sliceStop b s = (s, mcOK)) ∧
    (x.stopped = false → s.partFenced p = false → (sliceStop b s).2 = mcOK ∧ (sliceStop b s).1.part? p = some { x with stopped := true })) ∧
  (∀ (s : State) (b : List Byte), s.namedPart b = none ∨ s.fld .flt F.FLT_STATE_STATE ≠ hubNORMAL →
    sliceLeave b s = (s, mcREFUSED) ∧ sliceStop b s = (s, mcREFUSED)) ∧
  (∀ (s : State) (b : List Byte) (p : Part) (x : PartSt), s.namedPart b = some (p, x) → s.part? p = some x ∧ imgNat b 2 1 = p.val ∧ imgNat x.sliceDesc 0 2 = imgNat b 0 2)

/-- a distribution at a receiver whose staging die is up. DIST_OPEN of the form R580 asks for begins a fresh reception where none is in progress, answers OK and
changes nothing for the identifier it holds unless that one has failed, and is REFUSED while another is in progress. A fragment is written at its place, cut at
the content's length, and the last one to arrive starts the verification. Verification checks the digest, then what a plan must pass or the signature, then a
firmware image's form, components and SVN: the first that fails is the cause, and only what passes takes its place. Activation and abort are REFUSED but where
R580 allows them: activation of what is VERIFIED starts a management reset, with SVN_BURN the fused minimum rises to the staged image's SVN; an abort discards the
content, and the core code it staged. DIST_STATUS changes nothing (15 R578–R584; the SVN burnt, and that the checks of an image's header and components count as
the signature's, are log entry 67). -/
def Obligations.DistributionsVerifyBeforeTheyAct : Prop :=
  (∀ (s : State) (b : List Byte), s.distCheck = s → b.length = 80 → 1 ≤ imgNat b 4 1 → imgNat b 4 1 ≤ 3 → imgZero b 5 3 = true → imgZero b 14 2 = true →
    imgNat b 8 4 ≠ 0 → imgNat b 8 4 ≤ distMax (imgNat b 4 1) → imgNat b 12 2 = ceilDiv (imgNat b 8 4) 65536 →
    (∀ d, s.dist = some d → d.id.toNat = imgNat b 0 4 → d.state ≠ dsFAILED → distOpen b s = (s, mcOK)) ∧
    (∀ d, s.dist = some d → d.id.toNat ≠ imgNat b 0 4 → d.busy = true → distOpen b s = (s, mcREFUSED)) ∧
    ((∀ d, s.dist = some d → d.busy = false ∧ (d.id.toNat = imgNat b 0 4 → d.state = dsFAILED)) →
      (s.stagePlace = none → distOpen b s = (s, mcREFUSED)) ∧
      (∀ c g, s.stagePlace = some (c, g) → ∃ d : DistSt, distOpen b s = ({ s with staging := some (c, g), dist := some d }, mcOK) ∧ d.id.toNat = imgNat b 0 4 ∧
        d.type = imgNat b 4 1 ∧ d.length = imgNat b 8 4 ∧ d.digest = BitVec.ofNat 512 (imgNat b 16 64) ∧ d.state = dsRECEIVING ∧ d.got = [] ∧ d.die = c ∧ d.gran = g))) ∧
  (∀ (s : State) (b : List Byte), s.distCheck = s → b.length ≠ 80 ∨ imgNat b 4 1 = 0 ∨ 3 < imgNat b 4 1 ∨ imgNat b 8 4 = 0 ∨ distMax (imgNat b 4 1) < imgNat b 8 4 ∨
    imgNat b 12 2 ≠ ceilDiv (imgNat b 8 4) 65536 → distOpen b s = (s, mcREFUSED)) ∧
  (∀ (s : State) (b : List Byte) (d : DistSt), s.distCheck = s → s.dist = some d → d.id.toNat = imgNat b 0 4 →
    (b.length = 1036 → imgZero b 7 5 = true → imgNat b 6 1 < 64 → 64 * imgNat b 4 2 + imgNat b 6 1 < d.nfrag → d.state = dsRECEIVING →
      let n := 64 * imgNat b 4 2 + imgNat b 6 1
      let d' := { d with got := Store.set (fun _ => false) d.got n true }
      distData b s = ({ s.mcPut d.die (d.gran * memGran + 1024 * n) ((b.drop 12).take (min 1024 (d.length - 1024 * n))) with
        dist := some (if (List.range d.nchunk).all d'.chunkDone then { d' with state := dsVERIFYING } else d') }, mcOK)) ∧
    (b.length ≠ 1036 ∨ imgZero b 7 5 = false ∨ 64 ≤ imgNat b 6 1 ∨ d.nfrag ≤ 64 * imgNat b 4 2 + imgNat b 6 1 ∨ d.state ≠ dsRECEIVING → distData b s = (s, mcREFUSED)) ∧
    (b.length = 4 → distStatus b s = (s, mcOK ++ [BitVec.ofNat 8 d.state, BitVec.ofNat 8 d.cause] ++
      leBytes (bitmapOf ((List.range d.nchunk).filter d.chunkDone)) (ceilDiv d.nchunk 8))) ∧
    (d.state ≠ dsVERIFIED ∨ b.length ≠ 5 ∨ 1 < imgNat b 4 1 → distActivate b s = (s, mcREFUSED)) ∧
    (d.state = dsVERIFIED → b.length = 5 → imgNat b 4 1 = 0 → distActivate b s = (s.mgmtReset 2, mcOK)) ∧
    (d.state = dsVERIFIED → b.length = 5 → imgNat b 4 1 = 1 →
      distActivate b s = (State.mgmtReset { s with fuses := { s.fuses with minSvn := max s.fuses.minSvn (leNat (s.flashGet 8 4)) } } 2, mcOK)) ∧
    (b.length = 4 → d.state ≠ dsVERIFYING → distAbort b s = ({ s with dist := none, codeStaged := (if d.type = 2 then none else s.codeStaged) }, mcOK)) ∧
    (b.length ≠ 4 ∨ d.state = dsVERIFYING → distAbort b s = (s, mcREFUSED))) ∧
  (∀ (s : State) (f : DistFind) (d : DistSt), s.mgmtOn = true → s.distCheck = s → s.dist = some d → d.state = dsVERIFYING →
    let failed (cause : Nat) : State := { s with dist := some { d with state := dsFAILED, cause := cause } }
    let verified : State := { s with dist := some { d with state := dsVERIFIED } }
    let fault := imageFail (s.staged d) s.fuses.minSvn true true
    (Config.sha512 (s.staged d) ≠ d.digest → exec (.distVerifyDone f) s = .next (s.finish (failed 1))) ∧
    (Config.sha512 (s.staged d) = d.digest →
      (d.type = 3 → s.planAccepts (s.staged d) f.sigOk = false → exec (.distVerifyDone f) s = .next (s.finish ((failed 2).raise .sec 0x104 1 {}))) ∧
      (d.type ≠ 3 → f.sigOk = false → exec (.distVerifyDone f) s = .next (s.finish (failed 2))) ∧
      (d.type = 1 → f.sigOk = true → fault = some 4 → exec (.distVerifyDone f) s = .next (s.finish (failed 3))) ∧
      (∀ n, d.type = 1 → f.sigOk = true → fault = some n → n ≠ 4 → exec (.distVerifyDone f) s = .next (s.finish (failed 2))) ∧
      (d.type = 1 → f.sigOk = true → fault = none →
        exec (.distVerifyDone f) s = .next (s.finish { verified with flash := Store.setList (fun _ => 0) s.flash 0 (s.staged d), fwStaged := true })) ∧
      (d.type = 2 → f.sigOk = true → exec (.distVerifyDone f) s = .next (s.finish { verified with codeStaged := some d.digest })) ∧
      (d.type = 3 → f.sigOk = true → s.planAccepts (s.staged d) true = true → exec (.distVerifyDone f) s =
        .next (s.finish (State.holdPlan { verified with flash := Store.setList (fun _ => 0) s.flash flashPlanBase (s.staged d) } (s.staged d)))))) ∧
  (∀ (s : State) (f : DistFind), s.settled = true → (s.dist = none ∨ ∃ d, s.dist = some d ∧ d.state ≠ dsVERIFYING ∧ s.distCheck = s) →
    exec (.distVerifyDone f) s = .next s) ∧
  (∀ (s : State) (d : DistSt), s.dist = some d → d.busy = true → s.dieDown d.die = true ∨ s.flag (.mem d.die) F.BLK_STATUS_READY = false →
    s.distCheck = { s with dist := some { d with state := dsFAILED, cause := 4 } }) ∧
  (∀ (s : State) (b : List Byte), s.dist = none → distData b s = (s, mcREFUSED) ∧ distActivate b s = (s, mcREFUSED) ∧ distAbort b s = (s, mcREFUSED) ∧
    (b.length = 4 → distStatus b s = (s, mcOK ++ [0, 0])))

/-- the estimates and measurements of power. POWER_ESTIMATE gives every live die its raw estimate and the calibrated one, and the package the sum of the live compute
dies' and the uncore's, saturated; a die that is in reset or fenced keeps what it had. POWER_MEASURE gives each live compute die whose bus was read the power of
its rail at the voltage it asked for, keeps the old value where the bus failed, and takes the uncore's measurement and the package's total when every bus was read;
with a bus failed the total stays. A calibrated estimate saturates at 16 bits and is the raw one at unit gain. A calibration never moves a gain out of its bounds
or by more than 256, and moves neither gain nor offset with fewer than 50 valid pairs, which it ages, or while frozen; CALIBRATION is nothing during a management
reset. The limit of each live die is its share of the cap less 1.05 times the largest uncore estimate of the last second. PKG_CAP_COMPARE shows OVER on every die
and the package, and the room below 95 % (12 R456–R459, R461, R463, R487, R489, 18 R652; rounding and negative currents are log entry 49). -/
def Obligations.EstimatesAreCalibrated : Prop :=
  (∀ (s : State) (raw : List (BitVec 16)) (u : BitVec 16), s.mgmtOn = true → raw.length = 10 → ∃ t : State, exec (.powerEstimate raw u) s = .next (s.finish t) ∧
    t.mem = s.mem ∧ t.fld (.pwr pd0) F.PKG_EST_UNCORE = s.calOf (.pwr pd0) u.toNat ∧
    t.fld (.pwr pd0) F.PKG_EST_TOTAL = min 0xFFFF ((allCDies.map (fun c => if s.inReset (CDie.die c) = true ∨ CDie.die c ∈ s.fencedDies then 0
      else s.calOf (cdPwr c) ((raw[c.val]?).getD 0).toNat)).sum + s.calOf (.pwr pd0) u.toNat) ∧
    (∀ d : Die, s.inReset d = false → d ∉ s.fencedDies → t.fld (.pwr d) F.PWR_EST_RAW = ((raw[d.val]?).getD 0).toNat ∧
      t.fld (.pwr d) F.PWR_EST_CAL = s.calOf (.pwr d) ((raw[d.val]?).getD 0).toNat) ∧
    (∀ d : Die, s.inReset d = true ∨ d ∈ s.fencedDies → t.fld (.pwr d) F.PWR_EST_RAW = s.fld (.pwr d) F.PWR_EST_RAW ∧
      t.fld (.pwr d) F.PWR_EST_CAL = s.fld (.pwr d) F.PWR_EST_CAL)) ∧
  (∀ (g raw : Nat) (o : Int), calibrated g o raw ≤ 0xFFFF ∧ calibrated 0x4000 0 raw = min 0xFFFF raw) ∧
  (∀ (s : State) (iout : List (BitVec 16)) (bad : BitVec 6) (temps : List (BitVec 8)), s.mgmtOn = true →
    let amps (i : Nat) : BitVec 16 := (iout[i]?).getD 0
    let uncore := min 0xFFFF ((fixedRails.zipIdx.map (fun e => railPower (amps (8 + e.2)) e.1)).sum)
    ∃ t : State, exec (.powerMeasure iout bad temps) s = .next (s.finish t) ∧ t.mem = s.mem ∧
      (∀ c : CDie, s.dieDown c = false → t.fld (cdPwr c) F.PWR_MEAS_MEAS =
        if bad.getLsbD (c.val / 2) then s.fld (cdPwr c) F.PWR_MEAS_MEAS else railPower (amps c.val) (s.requested c)) ∧
      (∀ c : CDie, s.dieDown c = true → t.fld (cdPwr c) F.PWR_MEAS_MEAS = s.fld (cdPwr c) F.PWR_MEAS_MEAS) ∧
      t.fld (.pwr pd0) F.PKG_MEAS_UNCORE = (if bad.getLsbD 4 || bad.getLsbD 5 then s.fld (.pwr pd0) F.PKG_MEAS_UNCORE else uncore) ∧
      t.fld (.pwr pd0) F.PKG_MEAS_TOTAL = (if bad = 0 then min 0xFFFF ((allCDies.map (fun c => railPower (amps c.val) (s.requested c))).sum + uncore)
        else s.fld (.pwr pd0) F.PKG_MEAS_TOTAL)) ∧
  (∀ (s : State) (pg : Page) (ix : Nat), 0x2000 ≤ s.fld pg F.PWR_CAL_GAIN → s.fld pg F.PWR_CAL_GAIN ≤ 0x8000 →
    0x2000 ≤ (s.calibrate pg ix).fld pg F.PWR_CAL_GAIN ∧ (s.calibrate pg ix).fld pg F.PWR_CAL_GAIN ≤ 0x8000 ∧
      (s.calibrate pg ix).fld pg F.PWR_CAL_GAIN ≤ s.fld pg F.PWR_CAL_GAIN + 256 ∧ s.fld pg F.PWR_CAL_GAIN ≤ (s.calibrate pg ix).fld pg F.PWR_CAL_GAIN + 256) ∧
  (∀ (s : State) (pg : Page) (ix : Nat), let n := ((s.pwrSt ix).pairs.filter (fun p => p.ok && p.count != 0)).length
    (n < 50 ∨ s.flag pg F.PWR_CONF_FREEZE = true → (s.calibrate pg ix).fld pg F.PWR_CAL_GAIN = s.fld pg F.PWR_CAL_GAIN ∧
      (s.calibrate pg ix).fld pg F.PWR_CAL_OFFSET = s.fld pg F.PWR_CAL_OFFSET) ∧
    (n < 50 → (s.calibrate pg ix).fld pg F.PWR_CONF_AGE = min 255 (s.fld pg F.PWR_CONF_AGE + 1)) ∧ ((s.calibrate pg ix).pwrSt ix).pairs = []) ∧
  (∀ (s : State) (c : CDie), CDie.die c ∉ s.fencedDies → s.inReset (CDie.die c) = false →
    s.shareCap.fld (cdPwr c) F.PWR_LIMIT_WATTS = min 0xFFF ((s.fld (.pwr pd0) F.PKG_CAP_WATTS * 800 - 105 * s.pkgPower.uncMax.foldl max s.pkgPower.uncNow) /
      (800 * (allCDies.filter (fun c => !(s.fencedDies.contains (CDie.die c)))).length))) ∧
  (∀ (s : State), s.mgmtOn = true →
    (s.mcReset = true → exec .calibration s = .next (s.finish s)) ∧
    (s.mcReset = false →
      let u := ((allCDies.filter (fun c => !(s.dieDown c))).foldl (fun (t : State) c => t.calibrate (cdPwr c) c.val) s).calibrate (.pwr pd0) 10
      exec .calibration s = .next (s.finish (State.shareCap { u with
        pkgPower := { u.pkgPower with uncMax := (u.pkgPower.uncMax ++ [u.pkgPower.uncNow]).drop (u.pkgPower.uncMax.length + 1 - 100), uncNow := 0 } }))) ∧
    (∃ t : State, exec .pkgCapCompare s = .next (s.finish t) ∧ t.mem = s.mem ∧
      t.fld (.pwr pd0) F.PKG_STATUS_OVER = (if 8 * s.fld (.pwr pd0) F.PKG_CAP_WATTS < s.fld (.pwr pd0) F.PKG_EST_TOTAL then 1 else 0) ∧
      (∀ c : CDie, t.fld (cdPwr c) F.PWR_STATUS_PKG_OVER = t.fld (.pwr pd0) F.PKG_STATUS_OVER) ∧
      t.pkgPower.room = decide (100 * s.fld (.pwr pd0) F.PKG_EST_TOTAL < 95 * (8 * s.fld (.pwr pd0) F.PKG_CAP_WATTS))))

/-- the limit loop and droops of a die whose engines run. LIMIT_LOOP takes the temperature, sets THERMAL and raises C0 from 105 °C and clears it below 103 °C, and
runs one period of the mode. In capped mode, past a limit the step falls, at k = 6 the duty cycle rises to DUTY_MAX; with room the duty cycle falls first, then
the step rises as far as the fused maximum and STEP_MAX allow; otherwise nothing moves. In plateau the die goes one step towards PLAT_K; a hot die loses plateau
with cause 2, one past its limit at duty 15 with cause 3, and losing it shows the cause and ends the mode. A lower step changes the clock first, a higher one asks
for its voltage first and changes the clock when the voltage has settled. A droop of an enabled detector is counted and shown; while one lasts, or its release
settles, a step change is deferred and counted, the last decision replacing the one before, and it takes effect at the deferral's end; a droop that lasts raises
C1. A change of step shows in both status registers. Voltages lie between 600 and 850 mV (12 R452–R455, R462, R465–R472, 18 R651; log entry 50). -/
def Obligations.LimitLoopAndDroopsSetTheClock : Prop :=
  (∀ (s : State) (c : CDie) (i : LoopIn), let u := s.setFld (cdPwr c) F.PWR_STATUS_AT_RISK 0
    (i.past = true → 6 < u.stepK c → s.cappedPeriod c i = u.stepDown c (u.stepK c - 1)) ∧
    (i.past = true → u.stepK c ≤ 6 → u.fld (cdPwr c) F.PWR_STATUS_DUTY < u.fld (cdPwr c) F.PWR_CTRL_DUTY_MAX →
      s.cappedPeriod c i = u.setDuty c (u.fld (cdPwr c) F.PWR_STATUS_DUTY + 1)) ∧
    (i.past = true → u.stepK c ≤ 6 → u.fld (cdPwr c) F.PWR_CTRL_DUTY_MAX ≤ u.fld (cdPwr c) F.PWR_STATUS_DUTY → s.cappedPeriod c i = u) ∧
    (i.past = false → i.room = true → 0 < u.fld (cdPwr c) F.PWR_STATUS_DUTY → s.cappedPeriod c i = u.setDuty c (u.fld (cdPwr c) F.PWR_STATUS_DUTY - 1)) ∧
    (i.past = false → i.room = true → u.fld (cdPwr c) F.PWR_STATUS_DUTY = 0 → u.stepK c < min u.fuses.kMax (u.fld (cdPwr c) F.PWR_CTRL_STEP_MAX) →
      s.cappedPeriod c i = u.stepUp c (u.stepK c + 1)) ∧
    (i.past = false → i.room = true → u.fld (cdPwr c) F.PWR_STATUS_DUTY = 0 → min u.fuses.kMax (u.fld (cdPwr c) F.PWR_CTRL_STEP_MAX) ≤ u.stepK c → s.cappedPeriod c i = u) ∧
    (i.past = false → i.room = false → s.cappedPeriod c i = u)) ∧
  (∀ (s : State) (c : CDie) (i : LoopIn),
    let target := max 6 (min s.fuses.kMax (s.fld (cdPwr c) F.PWR_CTRL_PLAT_K))
    let u := if target < s.stepK c then s.stepDown c (s.stepK c - 1) else if s.stepK c < target then s.stepUp c (s.stepK c + 1) else s
    (i.hot = true → s.plateauPeriod c i = u.losePlateau c 2) ∧
    (i.hot = false → i.past = true → u.fld (cdPwr c) F.PWR_STATUS_DUTY = 15 → s.plateauPeriod c i = u.losePlateau c 3) ∧
    (i.hot = false → i.past = false → i.room = false → u.flag (cdPwr c) F.PWR_STATUS_AT_RISK = false →
      s.plateauPeriod c i = u.setPwr c.val { u.pwrSt c.val with risk := 0 })) ∧
  (∀ (s : State) (c : CDie) (cause : Nat), cause < 4 → (s.losePlateau c cause).fld (cdPwr c) F.PWR_CTRL_MODE = 0 ∧ (s.losePlateau c cause).fld (cdPwr c) F.PWR_STATUS_PLAT_LOST = 1 ∧
    (s.losePlateau c cause).fld (cdPwr c) F.PWR_STATUS_LOST_CAUSE = cause ∧ (s.losePlateau c cause).fld (cdPwr c) F.PWR_STATUS_AT_RISK = 0) ∧
  (∀ (s : State) (c : CDie) (t : BitVec 8) (b : Bool), s.mgmtOn = true → s.enginesRun c = true →
    let u := s.setFld (cdPwr c) F.PWR_MEAS_TEMP t.toNat
    let v := if 105 ≤ t.toNat ∧ u.flag (cdPwr c) F.PWR_STATUS_THERMAL = false then (u.setFld (cdPwr c) F.PWR_STATUS_THERMAL 1).raise (cdPwr c) 0x100 0 {}
      else if t.toNat < 103 then u.setFld (cdPwr c) F.PWR_STATUS_THERMAL 0 else u
    (v.fld (cdPwr c) F.PWR_CTRL_MODE ≠ 1 → exec (.limitLoop c t b) s = .next (s.finish ((v.cappedPeriod c (v.loopIn c t.toNat b)).showFloor c))) ∧
    (v.fld (cdPwr c) F.PWR_CTRL_MODE = 1 → exec (.limitLoop c t b) s = .next (s.finish ((v.plateauPeriod c (v.loopIn c t.toNat b)).showFloor c)))) ∧
  (∀ (s : State) (c : CDie) (t : BitVec 8) (b : Bool), s.settled = true → s.enginesRun c = false → exec (.limitLoop c t b) s = .next s ∧ exec (.voltageSettled c) s = .next s) ∧
  (∀ (s : State) (c : CDie), s.mgmtOn = true → s.enginesRun c = true →
    (∀ k, (s.pwrSt c.val).raise = some k → exec (.voltageSettled c) s = .next (s.finish ((s.setPwr c.val { s.pwrSt c.val with raise := none }).aclkDue c k))) ∧
    ((s.pwrSt c.val).raise = none → exec (.voltageSettled c) s = .next (s.finish s))) ∧
  (∀ (s : State) (c : CDie), s.mgmtOn = true → s.dieDown c = false → exec (.avsRetry c) s = .next (s.finish (s.askVoltage c (s.requested c)))) ∧
  (∀ (s : State) (c : CDie), s.settled = true → s.dieDown c = true → exec (.avsRetry c) s = .next s) ∧
  (∀ (s : State) (c : CDie) (k : Nat), s.stepK c ≠ k → k < 32 → (s.setStep c k).stepK c = k ∧ (s.setStep c k).fld (.clk (CDie.die c)) F.CLK_STATUS_ACLK_K = k ∧
    (s.setStep c k).mem = s.mem) ∧
  (∀ (s : State) (c : CDie) (k : Nat), s.aclkWaits c = false →
    (k < s.stepK c → s.stepDown c k = ((s.setPwr c.val { s.pwrSt c.val with raise := none }).setStep c k).askVoltage c (((s.setPwr c.val { s.pwrSt c.val with raise := none }).setStep c k).voltage c k)) ∧
    ((s.pwrSt c.val).raise = none → (s.pwrSt c.val).deferred = none → (s.stepUp c k).stepK c = s.stepK c ∧ ((s.stepUp c k).pwrSt c.val).raise = some k ∧
      (s.stepUp c k).out = .avs (c.val / 2) (c.val % 2) (s.voltage c k) :: s.out)) ∧
  (∀ (s : State) (c : CDie) (k : Nat), 600 ≤ s.voltage c k ∧ s.voltage c k ≤ 850 ∧ (k ≤ 6 → s.voltage c k = 600)) ∧
  (∀ (s : State) (c : CDie) (det : Fin 8), s.settled = true → s.dieDown c = false → (s.fld (cdPwr c) F.PWR_DROOP_DET_EN).testBit det.val = true →
    s.flag (cdPwr c) F.PWR_STATUS_DROOP = false →
    exec (.droopTrip c det) s = .next ((s.setFld (cdPwr c) F.PWR_STATUS_DROOP 1).bump (cdPwr c) C.PWR_DROOPS 1)) ∧
  (∀ (s : State) (c : CDie) (det : Fin 8), s.settled = true →
    s.dieDown c = true ∨ (s.fld (cdPwr c) F.PWR_DROOP_DET_EN).testBit det.val = false ∨ s.flag (cdPwr c) F.PWR_STATUS_DROOP = true → exec (.droopTrip c det) s = .next s) ∧
  (∀ (s : State) (c : CDie), s.settled = true → s.flag (cdPwr c) F.PWR_STATUS_DROOP = true →
    exec (.droopRelease c) s = .next (State.setPwr (s.setFld (cdPwr c) F.PWR_STATUS_DROOP 0) c.val { s.pwrSt c.val with settling := true })) ∧
  (∀ (s : State) (c : CDie), s.mgmtOn = true → s.flag (cdPwr c) F.PWR_STATUS_DROOP = false → (s.pwrSt c.val).settling = true →
    let u := (s.setPwr c.val { s.pwrSt c.val with settling := false, deferred := none }).setFld (cdPwr c) F.PWR_STATUS_DEFERRED 0
    (∀ k, (s.pwrSt c.val).deferred = some k → exec (.deferralEnd c) s = .next (s.finish (u.aclkTo c k))) ∧
    ((s.pwrSt c.val).deferred = none → exec (.deferralEnd c) s = .next (s.finish u))) ∧
  (∀ (s : State) (c : CDie), s.settled = true → s.flag (cdPwr c) F.PWR_STATUS_DROOP = true ∨ (s.pwrSt c.val).settling = false →
    exec (.deferralEnd c) s = .next s) ∧
  (∀ (s : State) (c : CDie) (k : Nat), s.aclkWaits c = true →
    ((s.aclkDue c k).pwrSt c.val).deferred = some k ∧ (s.aclkDue c k).stepK c = s.stepK c ∧ (s.aclkDue c k).fld (cdPwr c) F.PWR_STATUS_DEFERRED = 1) ∧
  (∀ (s : State) (c : CDie), s.mgmtOn = true → s.flag (cdPwr c) F.PWR_STATUS_DROOP = true →
    exec (.droopLong c) s = .next (s.finish (s.raise (cdPwr c) 0x102 1 {}))) ∧
  (∀ (s : State) (c : CDie), s.settled = true → s.flag (cdPwr c) F.PWR_STATUS_DROOP = false →
    exec (.droopLong c) s = .next s ∧ exec (.droopRelease c) s = .next s)

/-- what power raises, and its settings. A port die whose estimate passes its rail's limit raises C1 (otherwise PD_OVER is nothing); a cap past 1.05 times for
5,000 measurements shows UNATTAINABLE, signals and raises C2 once an episode; a sensor of a die whose rail is good trips at 120 °C with THERMTRIP_N low and C4. A
management input that leaves its window while the other is good is replaced by it, with the switch counted and C1; the input that is not active leaves with C1 and
returns without; the loss of both drops every rail and powers everything off. A lost rail of a compute die or of PD1 fences that die after C1, any other raises C4.
PWR_SET of another form than R478's, or outside NORMAL, is refused and changes nothing; otherwise it clamps the cap and the steps to the fused maxima, sets the
mode, and leaves what the body leaves (12 R464, R473, R476, R478, R484–R486, R455; log entry 50). -/
def Obligations.SuppliesFaultAndSettingsClamp : Prop :=
  (∀ (s : State) (k : PDie), let past := 6 * min 180 (s.fld (.pwr (PDie.die k)) F.PWR_LIMIT_RAIL_A) < s.fld (.pwr (PDie.die k)) F.PWR_EST_CAL
    (s.mgmtOn = true → past → exec (.pdOver k) s = .next (s.finish (s.raise (.pwr (PDie.die k)) 0x105 1 {}))) ∧
    (s.settled = true → ¬ past → exec (.pdOver k) s = .next s)) ∧
  (∀ (s : State) (d : Die), (s.mgmtOn = true → s.sensorsLive d = true →
      exec (.thermalTrip d) s = .next (s.finish (State.raise { s with thermtrip := true } (.pwr d) 0x101 4 {}))) ∧
    (s.settled = true → s.sensorsLive d = false → exec (.thermalTrip d) s = .next s)) ∧
  (∀ (s : State) (c : CDie), s.mgmtOn = true → s.flag (cdPwr c) F.PWR_STATUS_UNATTAINABLE = false → 5000 ≤ (s.pwrSt c.val).breach →
    exec (.capUnattainable (some c)) s = .next (s.finish (((State.setPwr (s.setFld (cdPwr c) F.PWR_STATUS_UNATTAINABLE 1) c.val { s.pwrSt c.val with within := 0 }).fireEvent
      (cdPwr c) 3).raise (cdPwr c) 0x104 2 {}))) ∧
  (∀ (s : State), s.mgmtOn = true → s.flag (.pwr pd0) F.PWR_STATUS_UNATTAINABLE = false → 5000 ≤ s.pkgPower.breach →
    ∃ t : State, exec (.capUnattainable none) s = .next (s.finish ((t.fireEvent (.pwr pd0) 3).raise (.pwr pd0) 0x104 2 {})) ∧
      t.flag (.pwr pd0) F.PKG_STATUS_UNATTAINABLE = true ∧ t.pkgPower.within = 0 ∧ t.mem = s.mem) ∧
  (∀ (s : State) (c : CDie), s.settled = true → s.flag (cdPwr c) F.PWR_STATUS_UNATTAINABLE = true ∨ (s.pwrSt c.val).breach < 5000 → exec (.capUnattainable (some c)) s = .next s) ∧
  (∀ (s : State), s.settled = true → s.flag (.pwr pd0) F.PWR_STATUS_UNATTAINABLE = true ∨ s.pkgPower.breach < 5000 → exec (.capUnattainable none) s = .next s) ∧
  (∀ (s : State), let a := s.fld (.pwr pd0) F.PWR_MGS_ACTIVE
    let other := if a = 0 then F.PWR_MGS_B_OK else F.PWR_MGS_A_OK
    let mine := if a = 0 then F.PWR_MGS_A_OK else F.PWR_MGS_B_OK
    (s.mgmtOn = true → s.flag (.pwr pd0) other = true →
      (∃ t : State, exec .mgmtSupplySwitchover s = .next (s.finish ((t.fireEvent (.pwr pd0) 4).raise (.pwr pd0) 0x106 1 {})) ∧ t.fld (.pwr pd0) F.PWR_MGS_ACTIVE = 1 - a ∧
        t.flag (.pwr pd0) mine = false ∧ t.fld (.pwr pd0) F.PWR_MGS_SWITCHES = min 255 (s.fld (.pwr pd0) F.PWR_MGS_SWITCHES + 1) ∧ t.mem = s.mem) ∧
      exec (.vmgInputWindowChange false) s = .next (s.finish ((s.setFld (.pwr pd0) other 0).raise (.pwr pd0) 0x106 1 {}))) ∧
    (s.settled = true → s.flag (.pwr pd0) other = false → exec .mgmtSupplySwitchover s = .next s ∧ exec (.vmgInputWindowChange false) s = .next s ∧
      exec (.vmgInputWindowChange true) s = .next (s.setFld (.pwr pd0) other 1)) ∧
    (s.settled = true → s.flag (.pwr pd0) other = true → exec (.vmgInputWindowChange true) s = .next s)) ∧
  (∀ (s : State), s.mgmtOn = true → exec .mgmtSupplyLoss s = .next (s.finish s.dropRails.cold) ∧ s.dropRails.cold.mgmtOn = false ∧ s.dropRails.cold.mem = [] ∧
    s.dropRails.cold.regs = [] ∧ s.dropRails.cold.fuses = s.fuses ∧ s.dropRails.cold.flash = s.flash) ∧
  (∀ (s : State) (r : Rail), s.mgmtOn = true → exec (.railLost r) s = .next (s.finish (s.loseRail r))) ∧
  (∀ (s : State) (n : CDie) (r : Rail), CDie.die n ∈ (s.loseRail (.cd n)).lostRails ∧ pd1 ∈ (s.loseRail .pd1).lostRails ∧
    ((∀ n, r ≠ .cd n) → r ≠ .pd1 → s.loseRail r = s.raise (.pwr pd0) 0x108 4 {})) ∧
  (∀ (s : State) (b : List Byte), let form := b.length = 8 ∧ imgZero b 5 3 = true ∧ (imgNat b 2 1 = 0 ∨ imgNat b 2 1 = 1 ∨ imgNat b 2 1 = 0xFF) ∧
      (imgNat b 3 1 = 0 ∨ 6 ≤ imgNat b 3 1) ∧ (imgNat b 2 1 = 1 → imgNat b 3 1 ≠ 0) ∧ (imgNat b 4 1 = 0 ∨ 6 ≤ imgNat b 4 1)
    (¬ form ∨ s.fld .flt F.FLT_STATE_STATE ≠ hubNORMAL → pwrSet b s = (s, mcREFUSED ++ List.replicate 4 0)) ∧
    (form → s.fld .flt F.FLT_STATE_STATE = hubNORMAL → ∃ (t : State) (r : List Byte), pwrSet b s = (t, mcOK ++ r) ∧ r.length = 4 ∧ t.mem = s.mem ∧ t.fuses = s.fuses ∧
      t.fld (.pwr pd0) F.PKG_CAP_WATTS = (if imgNat b 0 2 = 0 then s.fld (.pwr pd0) F.PKG_CAP_WATTS else min s.fuses.pkgLimit (imgNat b 0 2)) ∧
      (∀ c : CDie, s.dieDown c = false →
        t.fld (cdPwr c) F.PWR_CTRL_PLAT_K = (if imgNat b 3 1 = 0 then s.fld (cdPwr c) F.PWR_CTRL_PLAT_K else min s.fuses.kMax (imgNat b 3 1)) ∧
        t.fld (cdPwr c) F.PWR_CTRL_STEP_MAX = (if imgNat b 4 1 = 0 then s.fld (cdPwr c) F.PWR_CTRL_STEP_MAX else min s.fuses.kMax (imgNat b 4 1)) ∧
        t.fld (cdPwr c) F.PWR_CTRL_MODE = (if imgNat b 2 1 = 0xFF then s.fld (cdPwr c) F.PWR_CTRL_MODE else imgNat b 2 1) ∧
        (s.fuses.kMax < imgNat b 3 1 ∨ s.fuses.kMax < imgNat b 4 1 → t.flag (cdPwr c) F.PWR_STATUS_CLAMPED = true))))

/-- the record of a block, by the rule that every fault applies to it. An empty or acknowledged record latches the fault: its code, the low 20 bits of GTIME, its
class as raised and as in effect, its scope and whether it was injected, neither acknowledged nor escalated. A fault of the raised class of a record that is held
and not escalated yet escalates it by one class, to at most C4, and marks the overflow, the first fault staying; any other fault only marks the overflow and
reacts in its own class (13 R495–R497, R519). -/
def Obligations.RecordsLatchAndEscalate : Prop :=
  (∀ (first flags : Word) (now : BitVec 64) (code cls : Nat) (sc : Scope) (inj : Bool),
    let r := latchRule first flags now code cls sc inj
    (flags.getLsbD 6 = false ∨ flags.getLsbD 8 = true → r.how = .latched ∧ r.cls = cls ∧ r.scope = sc ∧ r.first.toNat % 0x1000 = code % 0x1000 ∧
      r.first.toNat / 0x1000 = now.toNat % 0x100000) ∧
    (flags.getLsbD 6 = true → flags.getLsbD 8 = false → cls = bits flags.toNat 5 3 → flags.getLsbD 9 = false →
      r.how = .escalated ∧ r.cls = min 4 (cls + 1) ∧ r.first = first ∧ r.flags.getLsbD 9 = true ∧ r.flags.getLsbD 7 = true ∧
        bits r.flags.toNat 2 0 = min 4 (cls + 1) ∧ bits r.flags.toNat 5 3 = cls) ∧
    (flags.getLsbD 6 = true → flags.getLsbD 8 = false → cls ≠ bits flags.toNat 5 3 ∨ flags.getLsbD 9 = true →
      r.how = .overflow ∧ r.cls = cls ∧ r.first = first ∧ r.flags = setF flags F.FLT_FLAGS_OVERFLOW 1)) ∧
  (∀ (first flags : Word) (now : BitVec 64) (code cls : Nat) (sc : Scope) (inj : Bool), cls ≤ 4 → flags.getLsbD 6 = false ∨ flags.getLsbD 8 = true →
    let r := latchRule first flags now code cls sc inj
    r.flags.getLsbD 6 = true ∧ r.flags.getLsbD 8 = false ∧ bits r.flags.toNat 2 0 = cls ∧ bits r.flags.toNat 5 3 = cls ∧ scopeOf r.flags = sc ∧
      r.flags.getLsbD 10 = inj ∧ r.flags.getLsbD 9 = false ∧ r.flags.getLsbD 7 = false)

/-- what a fault of each class does in the package: C0 and C1 nothing beyond the record and the log, C2 on a compute die the abort of the named context's entries,
C3 the fence of the named partition, C4 the safe state; in SAFE, RECOVERING and LOCKED only C4 reacts, a locked hub stays locked, and a block whose page is held
in reset reports nothing. The safe state halts every port and every step at k = 6, shows the fatal error, and keeps the memory, the Tarn and the partitions. The
hub's log holds 256 entries: a C0 entry finds no place when it is full, a higher one takes that of the oldest C0 entry or is lost too, every loss counts, and
LOG_POP drops the oldest (13 R502–R507, R511, R520). -/
def Obligations.ClassesReactAndAreLogged : Prop :=
  (∀ (s : State) (p : Page) (code : Nat) (sc : Scope), s.react p code 0 sc = s ∧ s.react p code 1 sc = s ∧ s.react p code 4 sc = s.c4React p code) ∧
  (∀ (s : State) (p : Page) (code cls : Nat) (sc : Scope), cls ≤ 3 →
    s.fld .flt F.FLT_STATE_STATE = hubSAFE ∨ s.fld .flt F.FLT_STATE_STATE = hubRECOVERING ∨ s.fld .flt F.FLT_STATE_STATE = hubLOCKED → s.react p code cls sc = s) ∧
  (∀ (s : State) (p : Page) (code : Nat) (pt : Part) (cx : Option Ctx), s.fld .flt F.FLT_STATE_STATE = hubNORMAL →
    s.react p code 3 ⟨some pt, cx⟩ = s.c3React pt ∧
    (∀ c x, Die.cd? p.die = some c → cx = some x → s.react p code 2 ⟨some pt, cx⟩ = s.c2React c pt x)) ∧
  (∀ (s : State) (pt : Part), s.partFenced pt = false → (s.c3React pt).partState pt = ptFENCED) ∧
  (∀ (s : State), s.safeState.fld .flt F.FLT_STATE_STATE = hubSAFE ∧ (∀ q, s.safeState.lnk q = lkSAFE) ∧ (∀ c, s.safeState.stepK c = 6) ∧
    s.safeState.flag .pci F.PCI_STATUS_FATAL = true ∧ s.safeState.mem = s.mem ∧ s.safeState.tarn = s.tarn ∧ s.safeState.parts = s.parts) ∧
  (∀ (s : State) (p : Page) (code : Nat), s.fld .flt F.FLT_STATE_STATE = hubLOCKED → (s.c4React p code).fld .flt F.FLT_STATE_STATE = hubLOCKED) ∧
  (∀ (s : State) (p : Page) (code cls : Nat) (sc : Scope) (inj : Bool), s.pageHeld p = true → s.raise p code cls sc inj = s) ∧
  (∀ (s : State) (e : LogEntry), s.fltLog.length < 256 → s.logEntry e = { s with fltLog := s.fltLog ++ [e] }) ∧
  (∀ (s : State) (e : LogEntry), s.fltLog.length ≤ 256 → (s.logEntry e).fltLog.length ≤ 256) ∧
  (∀ (s : State) (e : LogEntry), s.fltLog.length = 256 → e.cls = 0 ∨ (∀ x ∈ s.fltLog, x.cls ≠ 0) → s.logEntry e = s.bump .flt C.FLT_LOG_LOST 1) ∧
  (∀ (s : State) (e : LogEntry) (i : Nat), s.fltLog.length = 256 → e.cls ≠ 0 → s.fltLog.findIdx? (fun x => x.cls == 0) = some i →
    (s.logEntry e).fltLog = s.fltLog.eraseIdx i ++ [e] ∧ (∀ x ∈ s.fltLog, x.cls ≠ 0 → x ∈ (s.logEntry e).fltLog)) ∧
  (∀ (s : State) (v : Word), s.settled = true → (v.getLsbD 0 = true → exec (.logPop v) s = .next { s with fltLog := s.fltLog.drop 1 }) ∧
    (v.getLsbD 0 = false → exec (.logPop v) s = .next s))

/-- a record is acknowledged by a written 1 and, once its quiet period is over, empties; before that the acknowledgement just stays. A fenced partition of a NORMAL
hub is scrubbed once its accesses have ended; the scrub clears it, and it is CLEARED when its quiet period is over too; a scrub whose hub is not NORMAL ends
neither way. A CLEARED partition is held no longer. A scrub leaves nothing of a partition on a die: its memory ranges read zero and are gone, as are its Tarn and
its cairns, and no other byte of that die's memory, and no other partition's range, changes (13 R499, R500, R505, R518, 14 R553; that the zeroing is done within the step is log entry 83). -/
def Obligations.RecordsSettleAndScrubsClear : Prop :=
  (∀ (s : State) (p : Page) (v : Word), s.mgmtOn = true →
    (v.getLsbD 0 = true → s.flag p F.FLT_FLAGS_VALID = true → exec (.fltAck p v) s = .next (s.finish ((s.setFld p F.FLT_FLAGS_ACKED 1).settleRecord p))) ∧
    (v.getLsbD 0 = false ∨ s.flag p F.FLT_FLAGS_VALID = false → exec (.fltAck p v) s = .next (s.finish s))) ∧
  (∀ (s : State) (p : Page), (s.flag p F.FLT_FLAGS_ACKED = true → p.base ∉ s.quietPages → (s.settleRecord p).flag p F.FLT_FLAGS_VALID = false ∧
      (s.settleRecord p).fld p F.BLK_STATUS_FAULTED = 0) ∧
    (s.flag p F.FLT_FLAGS_ACKED = false ∨ p.base ∈ s.quietPages → s.settleRecord p = s)) ∧
  (∀ (s : State) (p : Page), s.mgmtOn = true →
    exec (.quietExpire (.page p)) s = .next (s.finish (State.settleRecord { s with quietPages := s.quietPages.filter (· != p.base) } p))) ∧
  (∀ (s : State) (p : Part), s.mgmtOn = true → s.fld .flt F.FLT_STATE_STATE ≠ hubNORMAL → exec (.scrubComplete p) s = .next (s.finish s) ∧
    exec (.quietExpire (.part p)) s = .next (s.finish { s with quietParts := s.quietParts.filter (· != p) })) ∧
  (∀ (s : State) (p : Part) (x : PartSt), s.mgmtOn = true → s.fld .flt F.FLT_STATE_STATE = hubNORMAL → s.part? p = some x → s.partState p = ptSCRUBBING →
    (x.scrubbed = true → exec (.quietExpire (.part p)) s = .next (s.finish (State.partCleared { s with quietParts := s.quietParts.filter (· != p) } p))) ∧
    (x.scrubbed = false → exec (.quietExpire (.part p)) s = .next (s.finish { s with quietParts := s.quietParts.filter (· != p) })) ∧
    (x.scrubbed = false → s.partBusy p = false →
      let u := ((s.scrub p).setPart p (some { x with scrubbed := true, placement := none })).showScrub
      (p ∉ u.quietParts → exec (.scrubComplete p) s = .next (s.finish (u.partCleared p))) ∧
      (p ∈ u.quietParts → exec (.scrubComplete p) s = .next (s.finish u)))) ∧
  (∀ (s : State) (p : Part), s.mgmtOn = true → s.partState p = ptFENCED → s.partBusy p = false → s.fld .flt F.FLT_STATE_STATE = hubNORMAL →
    exec (.scrubStart p) s = .next (s.finish ((((s.setPartState p ptSCRUBBING).showVf p).notifyPart p).showScrub))) ∧
  (∀ (s : State) (p : Part), s.settled = true → s.partState p ≠ ptFENCED ∨ s.partBusy p = true → exec (.scrubStart p) s = .next s) ∧
  (∀ (s : State) (p : Part), (s.partCleared p).partState p = ptCLEARED ∧ (s.partCleared p).part? p = none ∧ (s.partCleared p).mem = s.mem) ∧
  (∀ (s : State) (p : Part) (c : CDie) (i off : Nat), i < 4 → (s.memRange c p i).1 * memGran ≤ off → off < ((s.memRange c p i).1 + (s.memRange c p i).2) * memGran →
    off < memSpan → (s.scrubDie p c).memByte c off = 0) ∧
  (∀ (s : State) (p : Part) (c : CDie) (off : Nat),
    (∀ i < 4, off < (s.memRange c p i).1 * memGran ∨ ((s.memRange c p i).1 + (s.memRange c p i).2) * memGran ≤ off) → off < memSpan →
    (s.scrubDie p c).memByte c off = s.memByte c off) ∧
  (∀ (s : State) (p : Part) (c : CDie) (i off : Nat), i < 4 → (s.scrubDie p c).memRange c p i = (0, 0) ∧ (s.scrubDie p c).tarnAlloc c p = (0, 0) ∧
    (s.scrubDie p c).cairnRange c p = (0, 0) ∧
    ((s.tarnAlloc c p).1 ≤ off → off < (s.tarnAlloc c p).1 + (s.tarnAlloc c p).2 → (s.scrubDie p c).tarnByte c off = 0)) ∧
  (∀ (s : State) (p q : Part) (c : CDie) (i : Nat), i < 4 → q ≠ p → (s.scrubDie p c).memRange c q i = s.memRange c q i)

/-- recovery: in SAFE with no source active THERMTRIP_N is released, and a recovery begins, or the hub locks when three began within the hour; its end empties
records and partitions and leaves RECOVERED_IDLE. Each expiry of an enabled watchdog is a C1 fault and a management reset, the fourth in a row also a C4 fault;
0xA5 clears the count and no other value does. INJ_CTRL: a mode arms its checker, OFF disarms it, and arming is REFUSED while a partition is confidential, or
for page parity without INJ_C4_EN; otherwise page parity raises source 0x001 as C4 as it is armed (log entry 47). A one-shot injection sets FIRED and clears
ARMED as it fires, a continuous one stays (13 R509, R510, R512, R513, R516, R517). -/
def Obligations.RecoveryWatchdogAndInjection : Prop :=
  (∀ (s : State) (b : Bool), s.settled = true → s.fld .flt F.FLT_STATE_STATE ≠ hubSAFE ∨ b = true → exec (.recoveryStart b) s = .next s) ∧
  (∀ (s : State), s.mgmtOn = true → s.fld .flt F.FLT_STATE_STATE = hubSAFE →
    let u : State := { s with thermtrip := false }
    (3 ≤ s.recentRecoveries.length → exec (.recoveryStart false) s = .next (s.finish (u.setFld .flt F.FLT_STATE_STATE hubLOCKED))) ∧
    (s.recentRecoveries.length < 3 → exec (.recoveryStart false) s = .next (s.finish (u.recover s.recentRecoveries)))) ∧
  (∀ (s : State) (x : SelfTest), s.settled = true → s.fld .flt F.FLT_STATE_STATE ≠ hubRECOVERING → exec (.recoveryComplete x) s = .next s) ∧
  (∀ (s : State) (x : SelfTest), s.mgmtOn = true → s.fld .flt F.FLT_STATE_STATE = hubRECOVERING → exec (.recoveryComplete x) s = .next (s.finish (s.recovered x))) ∧
  (∀ (s : State) (p : Part), s.clearAllParts.part? p = none ∧ s.clearAllParts.dist = none ∧ s.clearAllParts.quietParts = []) ∧
  (∀ (s : State), s.mgmtOn = true → s.flag .flt F.FLT_WDOG_EN = true → s.mcReset = false →
    let u := ((s.setFld .flt F.FLT_WDOG_MISSES (min 4 (s.fld .flt F.FLT_WDOG_MISSES + 1))).raise .flt 0x100 1 {}).mgmtReset 1
    (s.fld .flt F.FLT_WDOG_MISSES < 3 → exec .watchdogExpire s = .next (s.finish u)) ∧
    (3 ≤ s.fld .flt F.FLT_WDOG_MISSES → exec .watchdogExpire s = .next (s.finish (u.raise .flt 0x101 4 {})))) ∧
  (∀ (s : State), s.settled = true → s.flag .flt F.FLT_WDOG_EN = false ∨ s.mcReset = true → exec .watchdogExpire s = .next s) ∧
  (∀ (s : State) (v : Word), s.mgmtOn = true → v.toNat % 256 = 0xA5 → exec (.watchdogKick v) s = .next (s.finish (s.setFld .flt F.FLT_WDOG_MISSES 0))) ∧
  (∀ (s : State) (v : Word), s.settled = true → v.toNat % 256 ≠ 0xA5 → exec (.watchdogKick v) s = .next s) ∧
  (∀ (s : State) (p : Page) (v : Word), s.mgmtOn = true → v.getLsbD 9 = false → v.getLsbD 10 = false →
    let ck := bits v.toNat 3 0
    let arms := bits v.toNat 5 4 = 1 ∨ bits v.toNat 5 4 = 2
    let w (on : Nat) : State := (((s.setFld p F.INJ_CTRL_CHECKER ck).setFld p F.INJ_CTRL_MODE (bits v.toNat 5 4)).setFld p F.INJ_CTRL_WEIGHT (bits v.toNat 7 6)).setFld p
      F.INJ_CTRL_ARMED on
    (arms → ((∃ x, s.isConf x = true) ∨ (ck = 15 ∧ s.flag .flt F.FLT_CFG_INJ_C4_EN = false)) → exec (.injCtrlWrite p v) s = .next (s.finish (s.setFld p F.INJ_CTRL_REFUSED 1))) ∧
    (arms → (∀ x, s.isConf x = false) → ck ≠ 15 → exec (.injCtrlWrite p v) s = .next (s.finish (w 1))) ∧
    (arms → (∀ x, s.isConf x = false) → ck = 15 → s.flag .flt F.FLT_CFG_INJ_C4_EN = true →
      exec (.injCtrlWrite p v) s = .next (s.finish (((w 1).injFired p).raise p 0x001 4 {} true))) ∧
    (¬arms → exec (.injCtrlWrite p v) s = .next (s.finish (w 0)))) ∧
  (∀ (s : State) (p : Page), s.fld p F.INJ_CTRL_MODE = 1 → (s.injFired p).flag p F.INJ_CTRL_FIRED = true ∧ (s.injFired p).flag p F.INJ_CTRL_ARMED = false) ∧
  (∀ (s : State) (p : Page), s.fld p F.INJ_CTRL_MODE ≠ 1 → s.injFired p = s) ∧
  (∀ (s : State) (p : Page) (k : Nat), s.flag p F.INJ_CTRL_ARMED = false → s.injection p k = none)

/-- messages: one of its type that stands FULL in its channel's slot, at a channel whose processor runs, is taken, FULL clears, the host is interrupted and the
message handled; one that arrives by MCTP is handled at once, over I3C while the endpoint has an address, over the management network from the end of RAILS; an
MDL_PLACE row that carries a member's BOARD order places it instead (log entry 82). Handling answers with the type's result: FORMAT where the framing fails,
UNKNOWN_TYPE where the transport does not carry the type; the answer enters the channel's store of 16, or leaves by MCTP. A slot that is empty or whose
processor does not run, and a message of another type, change nothing (16 R599–R603, R606). -/
def Obligations.MessagesAreTakenAndAnswered : Prop :=
  (∀ (s : State) (k : Fin 100) (b : List Byte) (env : MsgEnv), s.mgmtOn = true → s.served k.val = true → (s.chan k.val).h2d.full = true →
    let m := (s.chan k.val).h2d.bytes
    let does : Host.Outcome State Fault Refusal := .next (s.finish (((s.setChan k.val { s.chan k.val with h2d := { (s.chan k.val).h2d with full := false } }).hostIrq k 20).handle (.mbx k) m env))
    (mType m = 0x12 → exec (.wkeyImport (.mbx k) b env) s = does) ∧ (mType m = 0x13 → exec (.wimport (.mbx k) b env) s = does) ∧
    (mType m = 0x14 → exec (.wkeyRetire (.mbx k) b env) s = does) ∧ (mType m = 0x11 → env.member = none → exec (.mdlPlace (.mbx k) b env) s = does) ∧
    (mType m = 0x10 → exec (.vfInfo (.mbx k) b env) s = does) ∧ (mType m = 0x01 → exec (.bootStatus (.mbx k) b env) s = does) ∧
    (mType m = 0x20 → exec (.rcvBegin (.mbx k) b env) s = does) ∧ (mType m = 0x21 → exec (.rcvData (.mbx k) b env) s = does) ∧
    (mType m = 0x22 → exec (.rcvEnd (.mbx k) b env) s = does) ∧ (mType m = 0x30 → exec (.dbgChallenge (.mbx k) b env) s = does) ∧
    (mType m = 0x31 → exec (.dbgToken (.mbx k) b env) s = does) ∧ exec (.mbxH2dDone false k env) s = does) ∧
  (∀ (s : State) (v : Via) (b : List Byte) (env : MsgEnv) (r : BoardOrder), s.mgmtOn = true → env.member = some r →
    (s.mcReset = false → exec (.mdlPlace v b env) s = .next (s.finish (s.boardOrder r))) ∧ (s.mcReset = true → exec (.mdlPlace v b env) s = .next (s.finish s))) ∧
  (∀ (s : State) (net : Bool) (e : BitVec 8) (b : List Byte) (env : MsgEnv), s.mgmtOn = true → s.spUp = true → (net = false → s.i3c.isSome = true) →
    (net = true → phRAILS ≤ s.boot.phase) →
    let does : Host.Outcome State Fault Refusal := .next (s.finish (s.handle (.mctp net e) b env))
    (mType b = 0x30 → exec (.dbgChallenge (.mctp net e) b env) s = does) ∧ (mType b = 0x31 → exec (.dbgToken (.mctp net e) b env) s = does) ∧
    (mType b = 0x01 → exec (.bootStatus (.mctp net e) b env) s = does) ∧ (mType b = 0x20 → exec (.rcvBegin (.mctp net e) b env) s = does) ∧
    (mType b = 0x21 → exec (.rcvData (.mctp net e) b env) s = does) ∧ (mType b = 0x22 → exec (.rcvEnd (.mctp net e) b env) s = does)) ∧
  (∀ (s : State) (v : Via) (b : List Byte) (env : MsgEnv), s.handle v b env = (s.message v b env).1.respond v b (s.message v b env).2.1 (s.message v b env).2.2) ∧
  (∀ (s : State) (k : Fin 100) (b : List Byte) (st : Nat) (body : List Byte), (s.chan k.val).resps.length < 16 →
    ((s.respond (.mbx k) b st body).chan k.val).resps = (s.chan k.val).resps ++ [mbxMsg (mType b) (mTag b) 1 st 0 body]) ∧
  (∀ (s : State) (k : Fin 100) (b : List Byte) (st : Nat) (body : List Byte), 16 ≤ (s.chan k.val).resps.length → s.respond (.mbx k) b st body = s) ∧
  (∀ (s : State) (net : Bool) (e : BitVec 8) (b : List Byte) (st : Nat) (body : List Byte), s.respond (.mctp net e) b st body =
    (if net = true then s else s.emit .ibi).emit (.mctp net e (.seliesel (mbxMsg (mType b) (mTag b) 1 st 0 body)))) ∧
  (∀ (s : State) (v : Via) (b : List Byte) (env : MsgEnv), (mFormOk v b = false → s.message v b env = (s, msFORMAT, [])) ∧
    (mFormOk v b = true → s.carries v (mType b) = false → s.message v b env = (s, msUNKNOWN, []))) ∧
  (∀ (s : State) (k : Fin 100) (env : MsgEnv), s.settled = true → s.served k.val = false ∨ (s.chan k.val).h2d.full = false → exec (.mbxH2dDone false k env) s = .next s) ∧
  (∀ (s : State) (k : Fin 100) (b : List Byte) (env : MsgEnv), s.settled = true → (s.chan k.val).h2d.full = true → mType (s.chan k.val).h2d.bytes ≠ 0x12 →
    exec (.wkeyImport (.mbx k) b env) s = .next s)

/-- requests of a partition in state NORMAL are served, those of another answered NOT_READY, bodies of the wrong length FORMAT. A page imports only under a held
key of its image and epoch: with no key NO_KEY, with none that fits EPOCH; its plaintext goes to the destination when the tag verifies, and AUTH counts and raises a
C2 fault when it does not; an import outside the weight region reads no page, and pages end at the first failure. An imported key is current with the bundle's image
and epoch, and the key it follows by one epoch becomes the previous; a retired key is the previous one of its epoch. The recovery loader takes data and an end only
of an image that RCV_BEGIN opened, and its messages are carried in phase RECOVERY alone (14 R543–R548; 15 R566). -/
def Obligations.WeightsAndImagesNeedTheirProof : Prop :=
  (∀ (s : State) (p : Part) (x : PartSt) (b : List Byte) (env : MsgEnv), s.part? p = some x → s.partState p = ptNORMAL →
    (mType b = 0x10 → mBody b = [] → s.vfMessage p b env = (s, msOK, s.vfInfo p x)) ∧
    (mType b = 0x10 → mBody b ≠ [] → s.vfMessage p b env = (s, msFORMAT, [])) ∧
    (mType b = 0x13 → (mBody b).length ≠ 24 → s.vfMessage p b env = (s, msFORMAT, [])) ∧
    (mType b = 0x12 → (mBody b).length ≠ 4 → s.vfMessage p b env = (s, msFORMAT, []))) ∧
  (∀ (s : State) (p : Part) (b : List Byte) (env : MsgEnv), s.part? p = none ∨ s.partState p ≠ ptNORMAL → s.vfMessage p b env = (s, msNOT_READY, [])) ∧
  (∀ (s u : State) (c : CDie) (p : Part) (src dst : Nat) (o : Obs) (page : List Byte), s.readBoard c { part := some p } p src 65600 o = (u, .ok, page) →
    let fits (k : WKey) : Prop := k.epoch = BitVec.ofNat 16 (imgNat page 12 2) ∧ k.image = BitVec.ofNat 64 (imgNat page 0 8)
    let iv : BitVec 96 := BitVec.ofNat 96 (imgNat page 8 4)
    (u.wkey p false = none → u.wkey p true = none → s.importPage c p src dst o = (u, .noKey)) ∧
    ((∀ b k, u.wkey p b = some k → ¬fits k) → (∃ b, u.wkey p b ≠ none) → s.importPage c p src dst o = (u, .epoch)) ∧
    (∀ k, u.wkey p false = some k → fits k →
      let pt := Config.gcmCrypt k.key iv (page.drop 64)
      ((Config.gcmTag k.key iv (page.take 48) pt).toNat ≠ imgNat page 48 16 →
        s.importPage c p src dst o = ((u.bump .sec C.SEC_IMPORT_AUTH_FAIL 1).raise .sec 0x101 2 { part := some p }, .auth)) ∧
      ((Config.gcmTag k.key iv (page.take 48) pt).toNat = imgNat page 48 16 →
        (s.importPage c p src dst o).1 = (u.writeBoard c { part := some p } p dst pt o).1))) ∧
  (∀ (s : State) (p : Part) (x : PartSt) (c : CDie) (n src dst : Nat) (o : Obs), s.inWeights p x dst (65536 * n) = false → s.wimport p x c n src dst o = (s, .range, 0)) ∧
  (∀ (s u : State) (c : CDie) (p : Part) (src dst : Nat) (o : Obs) (n done : Nat) (st : ImpStatus),
    s.importPage c p (src + 65600 * done) (dst + 65536 * done) o = (u, st) → st ≠ .ok → s.importPages c p src dst o (n + 1) done = (u, st, done)) ∧
  (∀ (s t : State) (p : Part) (devset b : List Byte) (ks : List (BitVec 128 × BitVec 256)), s.wkeyImport p devset b ks = (t, .ok) → ∃ k, t.wkey p false = some k ∧
    k.image = BitVec.ofNat 64 (imgNat b 0 8) ∧ k.epoch = BitVec.ofNat 16 (imgNat b 8 2) ∧
    (∀ c, s.wkey p false = some c → k.epoch = c.epoch + 1 → t.wkey p true = some c)) ∧
  (∀ (s : State) (p : Part) (e : BitVec 16) (k : WKey), s.wkey p true = some k → (s.wkeyRetire p e).2 = decide (k.epoch = e) ∧
    (k.epoch = e → (s.wkeyRetire p e).1.wkey p true = none ∧ (s.wkeyRetire p e).1.wkey p false = s.wkey p false) ∧ (k.epoch ≠ e → (s.wkeyRetire p e).1 = s)) ∧
  (∀ (s : State) (b : List Byte) (env : MsgEnv), mType b = 0x20 → (mBody b).length = 4 → imgNat (mBody b) 0 4 ≤ 0x1000000 →
    s.rcvMessage b env = ({ s with rcv := some (imgNat (mBody b) 0 4) }, msOK, [])) ∧
  (∀ (s : State) (b : List Byte) (env : MsgEnv), mType b = 0x21 → (mBody b).length ≤ 240 → mArg b + (mBody b).length ≤ 0x1000000 →
    (s.rcv = none → s.rcvMessage b env = (s, msREFUSED, [])) ∧
    (s.rcv ≠ none → s.rcvMessage b env = ({ s with flash := Store.setList (fun _ => 0) s.flash (mArg b) (mBody b) }, msOK, []))) ∧
  (∀ (s : State) (b : List Byte) (env : MsgEnv), mType b = 0x22 → mBody b = [] → s.rcv = none → s.rcvMessage b env = (s, msREFUSED, [])) ∧
  (∀ (s : State) (v : Via) (t : Nat), s.boot.phase ≠ phRECOVERY → t = 0x20 ∨ t = 0x21 ∨ t = 0x22 → s.carries v t = false)

/-- debug: NEW replaces the challenge, LOCK relocks debug, and neither acts while the security processor does not run. A token is accepted only with its signatures,
with no partition confidential, in lifecycle 1, and with a counter above the credential's: then the debug level is the token's, the counter and the count of unlocks
move, and the challenge is replaced; a refused token counts, raises a C1 fault, and the challenge is replaced too. Measurements are answered over the DOE mailbox
and MCTP, one block, all twelve or their number, and an index above twelve is an error (14 R534, R549, R550, R556). -/
def Obligations.DebugNeedsAToken : Prop :=
  (∀ (s : State), s.mgmtOn = true → s.spUp = true → exec .secDbgNew s = .next (s.finish (s.newChallenge.setFld .sec F.SEC_DBG_CTRL_NEW 0)) ∧
    exec .secDbgLock s = .next (s.finish (s.relockDebug.setFld .sec F.SEC_DBG_CTRL_LOCK 0))) ∧
  (∀ (s : State), s.settled = true → s.spUp = false → exec .secDbgNew s = .next s ∧ exec .secDbgLock s = .next s) ∧
  (∀ (s : State), s.relockDebug.fld .sec F.SEC_STATUS_DEBUG = 0) ∧
  (∀ (s : State) (b : List Byte) (x y : Bool),
    (s.tokenOk b x y = false → s.dbgToken b x y = (((s.bump .sec C.SEC_DEBUG_REFUSED 1).raise .sec 0x102 1 {}).newChallenge, false)) ∧
    (s.tokenOk b x y = true →
      let u : State := { s with dbgCounters := Store.set (fun _ => 0) s.dbgCounters (imgNat b 192 4) (imgNat b 196 8), unlocks := min 0xFFFF (s.unlocks + 1) }
      let v := (u.setFld .sec F.SEC_STATUS_DEBUG (imgNat b 48 1)).setFld .sec F.SEC_STATUS_EVER_UNLOCKED 1
      s.dbgToken b x y = ((if s.fld .sec F.SEC_STATUS_DEBUG = imgNat b 48 1 then v else v.fireEvent .sec 1).newChallenge, true) ∧
      (s.dbgToken b x y).1.fld .sec F.SEC_STATUS_DEBUG = imgNat b 48 1 ∧ Store.get (fun _ => 0) (s.dbgToken b x y).1.dbgCounters (imgNat b 192 4) = imgNat b 196 8)) ∧
  (∀ (s : State) (b : List Byte) (x y : Bool), x = false ∨ y = false ∨ s.anyConf = true ∨ s.fuses.lifecycle ≠ 1 ∨
    imgNat b 196 8 ≤ Store.get (fun _ => 0) s.dbgCounters (imgNat b 192 4) → s.tokenOk b x y = false) ∧
  (∀ (s : State) (ix : BitVec 8) (n : BitVec 256) (g : Bool), s.mgmtOn = true → s.spdmUp = true → s.i3c.isSome = true →
    exec (.getMeasurements (.mctp false 0) ix n g) s = .next (s.finish (((s.getMeasurements ix n g).1.emit .ibi).emit (.mctp false 0 (.spdm (s.getMeasurements ix n g).2))))) ∧
  (∀ (s : State) (ix : BitVec 8) (n : BitVec 256) (g : Bool), s.mgmtOn = true → s.spdmUp = true →
    exec (.getMeasurements .doe ix n g) s = .next (s.finish ((s.getMeasurements ix n g).1.emit (.doe (some (s.getMeasurements ix n g).2))))) ∧
  (∀ (s : State) (n : BitVec 256), s.getMeasurements 0 n false = (s, .measurements 12 [] n []) ∧
    (∀ i, 1 ≤ i → i ≤ 12 → ∃ t d bs, s.getMeasurements (BitVec.ofNat 8 i) n false = (t, .measurements 12 [(i, d, bs)] n [])) ∧
    (∃ t l, s.getMeasurements 0xFF n false = (t, .measurements 12 l n []) ∧ l.map (·.1) = (List.range 12).map (· + 1)) ∧
    (∀ i g, 13 ≤ i → i ≤ 254 → s.getMeasurements (BitVec.ofNat 8 i) n g = (s, .error)))

/-- BAR2: an access of an enabled VF that keeps the form of a PCI Express request (its length, no 4 KiB boundary inside; its refusal of the rest is the model's choice,
R585) waits in order of arrival; while the window is closed, a read completes with all-ones and a write is discarded. In the safe state, which empties both queues,
every read that waits completes with all-ones, and neither memory nor the requests under way change. A write is split into whole aligned 64-byte units and, for the
rest, runs within a half-line: the runs cover each byte of it once and nothing else (16 R588, R590–R592, R595). -/
def Obligations.Bar2AccessesWaitAndSplit : Prop :=
  (∀ (s : State) (p : Part) (a : BitVec 43) (bs : List Byte), s.mgmtOn = true → s.vfOn p = true → s.winOpen p = true → bar2Form a.toNat bs.length 512 = true →
    exec (.bar2Write p a bs) s = .next (s.finish { s with bar2 := s.bar2 ++ [{ id := s.nextId, part := p, write := true, addr := a.toNat, len := bs.length, data := bs }], nextId := s.nextId + 1 })) ∧
  (∀ (s : State) (p : Part) (a : BitVec 43) (n : Fin 4097), s.mgmtOn = true → s.vfOn p = true → bar2Form a.toNat n.val 4096 = true →
    (s.winOpen p = true → exec (.bar2Read p a n) s = .next (s.finish { s with bar2 := s.bar2 ++ [{ id := s.nextId, part := p, write := false, addr := a.toNat, len := n.val, data := List.replicate (64 * (unitsOf a.toNat n.val).length) 0 }], nextId := s.nextId + 1 })) ∧
    (s.winOpen p = false → exec (.bar2Read p a n) s = .next (s.finish (s.emit (.hostData (.vf p) (List.replicate n.val 0xFF)))))) ∧
  (∀ (s : State) (p : Part) (a : BitVec 43) (bs : List Byte) (n : Fin 4097), s.settled = true → s.vfOn p = false →
    exec (.bar2Write p a bs) s = .next s ∧ exec (.bar2Read p a n) s = .next s) ∧
  (∀ (s : State) (p : Part) (a : BitVec 43) (bs : List Byte), s.settled = true → s.winOpen p = false → exec (.bar2Write p a bs) s = .next s) ∧
  (∀ (s : State) (p : Part) (a : BitVec 43) (bs : List Byte) (n : Fin 4097), s.settled = true →
    (bar2Form a.toNat bs.length 512 = false → exec (.bar2Write p a bs) s = .next s) ∧ (bar2Form a.toNat n.val 4096 = false → exec (.bar2Read p a n) s = .next s)) ∧
  (∀ (s : State), s.bar2Fatal.bar2 = [] ∧ s.bar2Fatal.held = [] ∧ s.bar2Fatal.mem = s.mem ∧ s.bar2Fatal.requests = s.requests ∧
    (∀ b ∈ s.bar2, b.write = false → b.quiet = false → Output.hostData (.vf b.part) (List.replicate b.len 0xFF) ∈ s.bar2Fatal.out)) ∧
  (∀ (s : State), s.flag .pci F.PCI_STATUS_FATAL = true → s.bar2 ≠ [] → s.settleBar2 = s.bar2Fatal) ∧
  (∀ (a n x : Nat), ((writeRuns a n).filter (fun r => decide (r.1 ≤ x) && decide (x < r.1 + r.2))).length = (if a ≤ x ∧ x < a + n then 1 else 0) ∧
    (∀ r ∈ writeRuns a n, (r.1 % 64 = 0 ∧ r.2 = 64) ∨ (r.1 / 32 = (r.1 + r.2 - 1) / 32 ∧ 0 < r.2 ∧ r.2 ≤ 32)))

/-- resets of the PCIe interface and its functions: PERST_N, hot reset and link down reset every function's configuration and disable every VF, an FLR of a PF its own
VFs, of a VF that function, its BAR2 accesses and the host side of its channel; partitions, queues and memory stay; an FLR of a function that is absent changes nothing. The
link trains when it is down, PD0 is out of reset and the presentation lets it, and shows its rate, width and functions. Mailbox channels: SEND posts an empty slot under the
sender's epoch and sets BLOCKED on a full one; a reset of the receiver's side loses the message in the slot, one of the sender's side advances the epoch; the host's DONE
gives FULL and clears it; the device posts its next response (15 R570, R574, 16 R585, R596, R600, R601, R614). -/
def Obligations.HostResetsAndMailboxes : Prop :=
  (∀ (s : State), s.mgmtOn = true → exec .perstN s = .next (s.finish (perstN s))) ∧
  (∀ (s : State), (perstN s).parts = s.parts ∧ (perstN s).queues = s.queues ∧ (perstN s).mem = s.mem ∧ (perstN s).flag .pci F.PCI_STATUS_LINK_UP = false ∧
    (∀ p, (perstN s).vfOn p = false) ∧ (∀ f, (perstN s).fn f = { accessErr := (s.fn f).accessErr, mbxVec := (s.fn f).mbxVec }) ∧
    (∀ k, k < 100 → (perstN s).chan k = { s.chan k with h2d := (s.chan k).h2d.reset true false, d2h := (s.chan k).d2h.reset false true })) ∧
  (∀ (s : State) (n : Fin 4), s.mgmtOn = true → n.val < s.nparts → s.inReset pd0 = false → ∃ t : State, exec (.pfFlr n) s = .next (s.finish (t.fireEvent .pci 2)) ∧
    t.parts = s.parts ∧ t.queues = s.queues ∧ t.mem = s.mem ∧ t.fn (.pf n) = { accessErr := (s.fn (.pf n)).accessErr, mbxVec := (s.fn (.pf n)).mbxVec } ∧
    (∀ p, s.partOf p = n.val → t.vfOn p = false) ∧ (∀ p, s.partOf p ≠ n.val → t.vfOn p = s.vfOn p)) ∧
  (∀ (s : State) (p : Part), s.mgmtOn = true → s.vfOn p = true → s.inReset pd0 = false →
    exec (.vfFlr p) s = .next (s.finish ((((s.resetFn (.vf p)).bar2Quiet (· == p)).resetChan (36 + p.val) true false).fireEvent .pci 2))) ∧
  (∀ (s : State) (n : Fin 4), s.settled = true → s.nparts ≤ n.val ∨ s.inReset pd0 = true → exec (.pfFlr n) s = .next s) ∧
  (∀ (s : State) (p : Part), s.settled = true → s.vfOn p = false ∨ s.inReset pd0 = true → exec (.vfFlr p) s = .next s) ∧
  (∀ (s : State) (r : Fin 7) (w : Fin 3), s.mgmtOn = true → s.inReset pd0 = false → s.flag .pci F.PCI_STATUS_LINK_UP = false → s.linkDark = false →
    let t := ((s.setFld .pci F.PCI_STATUS_LINK_UP 1).setFld .pci F.PCI_STATUS_RATE (r.val + 1)).setFld .pci F.PCI_STATUS_WIDTH (2 ^ w.val)
    exec (.pcieLinkTrained r w) s = .next (s.finish (t.fireEvent .pci 1).showFunctions) ∧ t.flag .pci F.PCI_STATUS_LINK_UP = true ∧
      t.fld .pci F.PCI_STATUS_RATE = r.val + 1 ∧ t.fld .pci F.PCI_STATUS_WIDTH = 2 ^ w.val) ∧
  (∀ (s : State) (r : Fin 7) (w : Fin 3), s.settled = true → s.inReset pd0 = true ∨ s.flag .pci F.PCI_STATUS_LINK_UP = true ∨ s.linkDark = true →
    exec (.pcieLinkTrained r w) s = .next s) ∧
  (∀ (s : State), s.pos ≠ 0 → s.straps.hostPresEn = true → s.boot.boardPres = true → s.linkDark = true) ∧
  (∀ (d : MbxDir) (snd rcv : Bool), (rcv = true → (d.reset snd rcv).full = false) ∧ (rcv = true → d.full = true → (d.reset snd rcv).lost = true) ∧
    (d.reset snd rcv).sendEpoch = d.sendEpoch + (if snd then 1 else 0) ∧ (d.reset snd rcv).slot = d.slot) ∧
  (∀ (d : MbxDir), (d.full = false → d.send = ({ d with full := true, msgEpoch := d.sendEpoch }, true)) ∧ (d.full = true → d.send = ({ d with blocked := true }, false))) ∧
  (∀ (s : State) (k : Fin 100), s.mgmtOn = true → k.val < 36 → s.hostChan k = true →
    ((s.chan k.val).h2d.full = false → exec (.mbxH2dSend k) s =
      .next (s.finish ((s.setChan k.val { s.chan k.val with h2d := { (s.chan k.val).h2d with full := true, msgEpoch := (s.chan k.val).h2d.sendEpoch } }).chanEvent k 1))) ∧
    ((s.chan k.val).h2d.full = true → exec (.mbxH2dSend k) s = .next (s.finish (s.setChan k.val { s.chan k.val with h2d := { (s.chan k.val).h2d with blocked := true } })))) ∧
  (∀ (s : State) (p : Part) (k : Fin 100), s.mgmtOn = true → k.val = 36 + p.val → s.vfOn p = true →
    exec (.mbxH2dSend k) s = .next (s.finish (s.vfWrite p (.win 0x608 1)))) ∧
  (∀ (s : State) (k : Fin 100), s.mgmtOn = true → s.hostChan k = true →
    exec (.mbxD2hDone k) s = .next (s.finish ((s.takeD2h k).1.emit (.hostData (chanFn k) (leBytes (s.takeD2h k).2.toNat 4)))) ∧
    (s.takeD2h k).2 = BitVec.ofNat 32 (s.chan k.val).d2h.full.toNat ∧ ((s.takeD2h k).1.chan k.val).d2h.full = false) ∧
  (∀ (s : State) (k : Fin 100) (b : List Byte) (r : List (List Byte)), s.mgmtOn = true → s.served k.val = true → (s.chan k.val).d2h.full = false →
    (s.chan k.val).resps = b :: r →
    exec (.mbxD2hSend k) s = .next (s.finish ((s.setChan k.val { s.chan k.val with d2h := { (s.chan k.val).d2h with slot := Store.setList (fun _ => 0) [] 0 (b.take 256) }, resps := r }).postD2h k).1)) ∧
  (∀ (s : State) (k : Fin 100), s.settled = true → s.served k.val = false → exec (.mbxD2hSend k) s = .next s)

/-- the board relay applies the accesses of a verified frame in order, records the answer in its session and sends it; a duplicate gets the recorded answer, and a stale frame or
one that does not verify nothing; the answer of this package's own frame completes its reads. The management network: ANNOUNCE and MGT frames to PD0's agent and the Summit
endpoint from the end of RAILS; MCTP to the endpoint's own or the null EID while the security processor runs, over I3C once the endpoint has an address; the sensors take
their readings; DOE answers once SPDM does, and is silent before (16 R594, R597, R598, R607, R608, R610). -/
def Obligations.RelayAndSideBandsAnswer : Prop :=
  (∀ (s : State) (x : RelayIn), s.settled = true → s.mcReset = true ∨ s.boot.phase < phRAILS → exec (.relay x) s = .next s) ∧
  (∀ (s : State) (ctr : BitVec 64) (accs : List RelayAcc), s.settled = true → exec (.relay (.frame ctr false accs)) s = .next s) ∧
  (∀ (s : State) (ctr : BitVec 64) (accs : List RelayAcc) (x : Session), s.mgmtOn = true → s.mcReset = false → phRAILS ≤ s.boot.phase → s.pos ≠ 0 →
    s.boot.boardPres = true → accs ≠ [] → accs.length ≤ 64 → Store.get (fun _ => none) s.boardSess 0 = some x → (x.judge ctr.toNat).runs = true →
    let t := (s.relayAll accs).1
    let u : State := { t with boardSess := Store.set (fun _ => none) t.boardSess 0 (some (x.mark ctr.toNat ((s.relayAll accs).2.flatMap (fun w => leBytes w.toNat 4)))) }
    exec (.relay (.frame ctr true accs)) s = .next (s.finish (u.emit (.relayAnswer ctr.toNat (s.relayAll accs).2)))) ∧
  (∀ (s : State) (ctr : BitVec 64) (accs : List RelayAcc) (x : Session) (r : List Byte), s.mgmtOn = true → s.mcReset = false → phRAILS ≤ s.boot.phase → s.pos ≠ 0 →
    s.boot.boardPres = true → accs ≠ [] → accs.length ≤ 64 → Store.get (fun _ => none) s.boardSess 0 = some x → x.judge ctr.toNat = .cached r →
    exec (.relay (.frame ctr true accs)) s = .next (s.finish (s.emit (.relayAnswer ctr.toNat ((List.range (r.length / 4)).map (fun i => BitVec.ofNat 32 (imgNat r (4 * i) 4))))))) ∧
  (∀ (s : State) (ctr : BitVec 64) (accs : List RelayAcc) (x : Session), s.settled = true → Store.get (fun _ => none) s.boardSess 0 = some x →
    x.judge ctr.toNat = .stale → exec (.relay (.frame ctr true accs)) s = .next s) ∧
  (∀ (s : State) (pos : Fin 4) (ctr : BitVec 64) (data : List Word) (r : RelayOut), s.mgmtOn = true → s.mcReset = false → phRAILS ≤ s.boot.phase →
    s.relayOut.find? (fun r => r.pos == pos.val) = some r → r.sent = true → r.ctr = ctr.toNat →
    exec (.relay (.answer pos ctr true data)) s = .next (s.finish (((s.dropRelay pos.val).relayData r data).pumpRelay))) ∧
  (∀ (s : State), s.mgmtOn = true → exec .announce s = .next (s.finish s.announce)) ∧
  (∀ (s : State), s.boot.phase < phRAILS ∨ s.mcReset = true → s.announce = s) ∧
  (∀ (s : State), phRAILS ≤ s.boot.phase → s.mcReset = false → s.announce =
    s.emit (.netFrame s.mac (s.netPayload 3 (s.identity 0 ++ [BitVec.ofNat 8 (s.fld .flt F.FLT_STATE_STATE), BitVec.ofNat 8 s.boot.phase] ++ List.replicate 14 0)))) ∧
  (∀ (s : State) (m : MgtIn) (ok : Bool) (recs : List MirRec), s.mgmtOn = true → phRAILS ≤ s.boot.phase → m.pkt.dst.d = 8 →
    let m' : MgtIn := { m with k := 0, net := true }
    (m.pkt.dst.e = 1 → exec (.mgtFrame (.request m ok recs)) s = .next (s.finish (s.agentRequest m' ok))) ∧
    (m.pkt.dst.e = 2 → exec (.mgtFrame (.request m ok recs)) s = .next (s.finish (s.endpointRequest m' recs)))) ∧
  (∀ (s : State) (m : MgtIn) (ok : Bool) (recs : List MirRec), s.settled = true → s.boot.phase < phRAILS ∨ m.pkt.dst.d ≠ 8 →
    exec (.mgtFrame (.request m ok recs)) s = .next s) ∧
  (∀ (s : State) (src dst : BitVec 8) (m : MctpMsg) (env : MsgEnv), s.mgmtOn = true → s.spUp = true → dst = 0 ∨ dst = s.eid →
    (s.i3c.isSome = true → exec (.mctpPacket false src dst m env) s = .next (s.finish (s.mctpAnswer false src m env))) ∧
    (phRAILS ≤ s.boot.phase → exec (.mctpPacket true src dst m env) s = .next (s.finish (s.mctpAnswer true src m env)))) ∧
  (∀ (s : State) (net : Bool) (src dst : BitVec 8) (m : MctpMsg) (env : MsgEnv), s.settled = true → s.spUp = false ∨ (dst ≠ 0 ∧ dst ≠ s.eid) →
    exec (.mctpPacket net src dst m env) s = .next s) ∧
  (∀ (s : State) (src dst : BitVec 8) (m : MctpMsg) (env : MsgEnv), s.settled = true → (s.i3c = none → exec (.mctpPacket false src dst m env) s = .next s) ∧
    (s.boot.phase < phRAILS → exec (.mctpPacket true src dst m env) s = .next s)) ∧
  (∀ (s : State), s.mgmtOn = true → s.spUp = true → ∃ t : State, exec .pldmSensorUpdate s = .next (s.finish t) ∧ t.regs = s.regs ∧ t.mem = s.mem ∧
    (∀ id ∈ sensorIds, t.sensor id = s.sensorNow id)) ∧
  (∀ (s : State) (a : BitVec 7), s.mgmtOn = true → exec (.i3cEntdaa a) s = .next (s.finish { s with i3c := some a })) ∧
  (∀ (s : State) (q : SpdmReq), s.mgmtOn = true → s.spdmUp = true → exec (.doeRequest .discovery) s = .next (s.finish (s.emit (.doe none))) ∧
    exec (.doeRequest (.spdm q)) s = .next (s.finish ((s.spdm q).1.emit (.doe (some (s.spdm q).2))))) ∧
  (∀ (s : State) (r : DoeReq), s.settled = true → s.spdmUp = false → exec (.doeRequest r) s = .next s)

/-- the loss of the reference puts every die in holdover, tells each enabled clock page, counts and raises the C1 fault REF_LOST, and ends ALIGNED; its return ends holdover,
and holdover that lasts too long is a C4 fault; a reference that is already lost, or a return without holdover, changes nothing. A root PLL that loses lock raises a C1 fault
and fences its die, PD0's a C4 fault (17 R621, R641; 01 R44). -/
def Obligations.ReferenceIsHeldOver : Prop :=
  (∀ (s : State), s.mgmtOn = true → s.fld (.clk pd0) F.CLK_STATUS_REF_PRESENT = 1 → s.fld (.clk pd0) F.CLK_STATUS_REFLOST_MODE = 0 →
    ∃ u : State, exec .refclkLoss s = .next (s.finish (u.raise (.clk pd0) 0x100 1 {})) ∧
      (∀ d, u.fld (.clk d) F.CLK_STATUS_HOLDOVER = 1 ∧ u.fld (.clk d) F.CLK_STATUS_REF_PRESENT = 0 ∧
        (s.fld (.clk d) F.BLK_CTRL_ENABLE = 1 → u.flag (.clk d) ⟨F.EVT_STATUS_EVT.off, 1, 1⟩ = true)) ∧ u.fld .tim F.TIM_STATUS_ALIGNED = 0 ∧
      u.counter (.clk pd0) C.CLK_REF_LOST = min 0xFFFFFFFFFFFF (s.counter (.clk pd0) C.CLK_REF_LOST + 1) ∧
      u = { s with regs := u.regs }) ∧
  (∀ (s : State), s.mgmtOn = true → s.fld (.clk pd0) F.CLK_STATUS_HOLDOVER = 1 →
    (∃ u : State, exec .refclkReturn s = .next (s.finish u) ∧ (∀ d, u.fld (.clk d) F.CLK_STATUS_HOLDOVER = 0 ∧ u.fld (.clk d) F.CLK_STATUS_REF_PRESENT = 1) ∧
      u = { s with regs := u.regs }) ∧
    exec .holdoverExpired s = .next (s.finish (s.raise (.clk pd0) 0x103 4 {}))) ∧
  (∀ (s : State), s.settled = true → s.fld (.clk pd0) F.CLK_STATUS_HOLDOVER = 0 → exec .refclkReturn s = .next s ∧ exec .holdoverExpired s = .next s) ∧
  (∀ (s : State) (d : Die), s.mgmtOn = true → s.fld (.clk d) F.CLK_STATUS_LOCK = 1 → let u := s.setFld (.clk d) F.CLK_STATUS_LOCK 0
    (d = pd0 → exec (.pllUnlock d) s = .next (s.finish (u.raise (.clk pd0) 0x102 4 {}))) ∧
    (d ≠ pd0 → exec (.pllUnlock d) s = .next (s.finish ((u.raise (.clk d) 0x101 1 {}).fenceDie d)))) ∧
  (∀ (s : State), s.settled = true → s.fld (.clk pd0) F.CLK_STATUS_REF_PRESENT = 0 → exec .refclkLoss s = .next s) ∧
  (∀ (s : State) (d : Die), s.settled = true → s.fld (.clk d) F.CLK_STATUS_LOCK = 0 → exec (.pllUnlock d) s = .next s)

/-- an event on a line of a page whose ENABLE is 1 sets the line's EVT_STATUS bit. In native mode one that arrives before the one before it is taken sets the overrun bit
and is otherwise lost. With EVT_XMODE = 1 every arrival of an event enabled in EVT_ENABLE counts, early or not, until COUNT stands at 0xFFFF, where it sets the overrun
bit. TAKE subtracts from COUNT and stops at zero; EVT_XMODE changes only where ENABLE was 0 before the write; nothing else changes. An event without a line, or with
ENABLE 0, changes nothing. COUNT is read-only, TAKE write-only,
and both are 0 at reset (17 R623–R625, 19 R668). -/
def Obligations.EventLinesCross : Prop :=
  (∀ (s : State) (p : Page) (j : Fin 32) (early : Bool), s.settled = true → p.nevt ≤ j.val ∨ s.fld p F.BLK_CTRL_ENABLE = 0 →
    exec (.eventLineCross p j early) s = .next s) ∧
  (∀ (s : State) (p : Page) (j : Fin 32), s.settled = true → j.val < p.nevt → s.fld p F.BLK_CTRL_ENABLE = 1 → s.fld p F.BLK_CTRL_EVT_XMODE = 0 →
    exec (.eventLineCross p j false) s = .next (s.setFld p ⟨F.EVT_STATUS_EVT.off, j.val, 1⟩ 1) ∧
    exec (.eventLineCross p j true) s = .next (s.setFld p ⟨F.EVT_OVERRUN_OVR.off, j.val, 1⟩ 1)) ∧
  (∀ (s : State) (p : Page) (j : Fin 32) (early : Bool), s.settled = true → j.val < p.nevt → s.fld p F.BLK_CTRL_ENABLE = 1 → s.fld p F.BLK_CTRL_EVT_XMODE = 1 →
    ∃ t : State, exec (.eventLineCross p j early) s = .next t ∧ t.flag p ⟨F.EVT_STATUS_EVT.off, j.val, 1⟩ = true ∧ t = { s with regs := t.regs } ∧
      (s.flag p ⟨F.EVT_ENABLE_EN.off, j.val, 1⟩ = false → t.fld p F.EVT_COUNT_COUNT = s.fld p F.EVT_COUNT_COUNT) ∧
      (s.flag p ⟨F.EVT_ENABLE_EN.off, j.val, 1⟩ = true → s.fld p F.EVT_COUNT_COUNT < 0xFFFF → t.fld p F.EVT_COUNT_COUNT = s.fld p F.EVT_COUNT_COUNT + 1) ∧
      (s.flag p ⟨F.EVT_ENABLE_EN.off, j.val, 1⟩ = true → s.fld p F.EVT_COUNT_COUNT = 0xFFFF → t.fld p F.EVT_COUNT_COUNT = 0xFFFF ∧
        t.flag p ⟨F.EVT_OVERRUN_OVR.off, j.val, 1⟩ = true)) ∧
  (∀ (s : State) (p : Page) (v : Word), s.settled = true → ∃ t : State, exec (.evtCountTake p v) s = .next t ∧
    t.fld p F.EVT_COUNT_COUNT = s.fld p F.EVT_COUNT_COUNT - v.toNat / 65536 ∧ (∀ a, a ≠ p.base + 0x1C → t.rd a = s.rd a) ∧ t = { s with regs := t.regs }) ∧
  (∀ (s : State) (p : Page) (v : Word), s.settled = true → ∃ t : State, exec (.blkCtrlWrite p v) s = .next t ∧
    t.fld p F.BLK_CTRL_ENABLE = (v.getLsbD 0).toNat ∧
    t.fld p F.BLK_CTRL_EVT_XMODE = (if s.fld p F.BLK_CTRL_ENABLE = 1 then s.fld p F.BLK_CTRL_EVT_XMODE else (v.getLsbD 1).toNat) ∧
    (∀ a, a ≠ p.base + 8 → t.rd a = s.rd a) ∧ t = { s with regs := t.regs }) ∧
  (∀ (p : Page), p.reg? 0x1C = some ⟨0x1C, 1, 4, [⟨0, 16, .ro, 0⟩, ⟨16, 16, .wo, 0⟩]⟩)

/-- a step with no command waiting is one tick (log entry 2: the model's choice), which advances every die's GTIME by one, but while a hold or a slew of the ridge line
withholds or adds a count: a hold withholds each, a slew one in every 1,024. A die that aligns takes the larger of its own GTIME and PD0's, and a die in reset or fenced
does not align. GTIME_SLEW_DONE ends the correction and puts every die's GTIME where the ticks until then take it: 1,024 ticks for each tick of the slew, less those
that have passed, and one count withheld or added in each (17 R618, R626, R627, R632; log entry 85). -/
def Obligations.TicksAdvanceGtime : Prop :=
  (∀ (s : State), s.mgmtOn = true → s.pending = [] → ∃ t : State, step s = .next t ∧
    (s.ridge.hold ≠ 0 → t.ridge.hold = s.ridge.hold - 1 ∧ ∀ d, t.now d = s.now d) ∧
    (s.ridge.hold = 0 → s.ridge.slew = 0 → ∀ d, t.now d = s.now d + 1) ∧
    (s.ridge.hold = 0 → s.ridge.slew ≠ 0 → s.ridge.phase < 1023 → t.ridge.phase = s.ridge.phase + 1 ∧ t.ridge.slew = s.ridge.slew ∧ ∀ d, t.now d = s.now d + 1) ∧
    (s.ridge.hold = 0 → 0 < s.ridge.slew → s.ridge.phase = 1023 → t.ridge.slew = s.ridge.slew - 1 ∧ ∀ d, t.now d = s.now d) ∧
    (s.ridge.hold = 0 → s.ridge.slew < 0 → s.ridge.phase = 1023 → t.ridge.slew = s.ridge.slew + 1 ∧ ∀ d, t.now d = s.now d + 2)) ∧
  (∀ (s : State) (d : Die), s.settled = true → s.inReset d = false → d ∉ s.fencedDies → ∃ t : State, exec (.gtimeDieAlign d) s = .next t ∧
    (t.now d).toNat = max (s.now d).toNat (s.now pd0).toNat ∧ (∀ e, e ≠ d → t.now e = s.now e) ∧ t = { s with gtime := t.gtime }) ∧
  (∀ (s : State) (d : Die), s.settled = true → s.inReset d = true ∨ d ∈ s.fencedDies → exec (.gtimeDieAlign d) s = .next s) ∧
  (∀ (s : State), s.settled = true → ∃ t : State, exec .gtimeSlewDone s = .next t ∧ t.ridge.hold = 0 ∧ t.ridge.slew = 0 ∧
    t.fld .tim F.TIM_STATUS_SLEWING = 0 ∧
    (∀ d, t.now d = s.now d + BitVec.ofNat 64 ((if 0 < s.ridge.slew then 1023 * s.ridge.slew.natAbs else 1025 * s.ridge.slew.natAbs) - s.ridge.phase)))

/-- the ridge line: where GTIME is a multiple of 2^20 the master emits MARKER with it and the measured delay, unmeasured the first time. Another package measures each MARKER,
which OFF and ALIGNED show, and applies it when its D is near that of the one before: an offset of more than a tick is corrected, the first by a step forward or a hold,
a later one by a slew, but for one that comes while GTIME holds (log entry 85). STOP is a C4 fault, WAKE wakes the packages it names, and a frame that fails its CRC is
forwarded and not acted on; the master acts on none (17 R628–R634). -/
def Obligations.RidgeFramesAct : Prop :=
  (∀ (s : State) (w : BitVec 32), s.settled = true →
    (s.flag .tim F.TIM_STATUS_MASTER = true → s.ridgeOpen = true → (s.now pd0).toNat % 0x100000 = 0 →
      exec (.markerEmit w) s = .next (State.emit { s with ridge := { s.ridge with sent := true } }
        (.ridge 1 (leBytes (s.now pd0).toNat 8 ++ leBytes (if s.ridge.sent then w else 0xFFFFFFFF).toNat 4)))) ∧
    (s.flag .tim F.TIM_STATUS_MASTER = false ∨ s.ridgeOpen = false ∨ (s.now pd0).toNat % 0x100000 ≠ 0 → exec (.markerEmit w) s = .next s)) ∧
  (∀ (s : State) (t : BitVec 64) (d : BitVec 32) (cw ccw : Nat) (crc : Bool), s.settled = true →
    s.ridgeUp = false ∨ (s.flag .tim F.TIM_STATUS_MASTER = true) → exec (.marker t d cw ccw crc) s = .next s) ∧
  (∀ (s : State) (t : BitVec 64) (d : BitVec 32) (cw ccw : Nat), s.settled = true → s.ridgeUp = true → s.flag .tim F.TIM_STATUS_MASTER = false →
    let off := markerOff t d cw ccw
    let n := off.natAbs / 48
    exec (.marker t d cw ccw false) s = .next (s.regen 1 (leBytes t.toNat 8 ++ leBytes d.toNat 4)) ∧
    ∃ u : State, exec (.marker t d cw ccw true) s = .next u ∧ u.ridge.prevD = some d ∧
      (d ≠ 0xFFFFFFFF → u.rd (Page.base .tim + F.TIM_OFF_OFF.off) = BitVec.ofInt 32 off ∧ u.fld .tim F.TIM_STATUS_ALIGNED = (if off.natAbs ≤ 48 then 1 else 0)) ∧
      ((∀ e, s.ridge.prevD = some e → nearD d e = false) → u.gtime = s.gtime ∧ u.ridge = { s.ridge with prevD := some d }) ∧
      (∀ e, s.ridge.prevD = some e → nearD d e = true → u.ridge.applied = true ∧
        (∀ k, k ≠ pd0 → u.now k = s.now k) ∧
        (off.natAbs ≤ 48 ∨ s.ridge.hold ≠ 0 → u.gtime = s.gtime ∧ u.ridge.hold = s.ridge.hold ∧ u.ridge.slew = s.ridge.slew) ∧
        (s.ridge.applied = false → s.ridge.hold = 0 → off < -48 → u.now pd0 = s.now pd0 + BitVec.ofNat 64 n ∧ u.ridge.hold = s.ridge.hold ∧ u.ridge.slew = s.ridge.slew) ∧
        (s.ridge.applied = false → s.ridge.hold = 0 → 48 < off → u.now pd0 = s.now pd0 ∧ u.ridge.hold = n ∧ u.ridge.slew = s.ridge.slew) ∧
        (s.ridge.applied = true → s.ridge.hold = 0 → 48 < off → u.now pd0 = s.now pd0 ∧ u.ridge.slew = n) ∧
        (s.ridge.applied = true → s.ridge.hold = 0 → off < -48 → u.now pd0 = s.now pd0 ∧ u.ridge.slew = -(n : Int)))) ∧
  (∀ (s : State), s.mgmtOn = true → s.ridgeUp = true → s.flag .tim F.TIM_STATUS_MASTER = false →
    exec (.stop true) s = .next (s.finish ((s.regen 2 []).raise .tim 0x101 4 {})) ∧ exec (.stop false) s = .next (s.finish (s.regen 2 [])) ∧
    exec .markerLost s = .next (s.finish (s.raise .tim 0x100 1 {})) ∧
    (∀ (m : BitVec 64), let u := s.regen 3 (leBytes m.toNat 8)
      exec (.wake m true) s = .next (s.finish (u.woken m)) ∧ exec (.wake m false) s = .next (s.finish u))) ∧
  (∀ (s : State) (code : Nat) (b : List Byte), s.ridgeOpen = true → s.flag .tim F.TIM_STATUS_MASTER = false → s.regen code b = s.emit (.ridge code b)) ∧
  (∀ (s : State) (m : BitVec 64), (m.getLsbD s.rackBit = true → s.woken m = ((s.setFld .tim F.TIM_STATUS_WAKE 1).fireEvent .tim 1).announce) ∧
    (m.getLsbD s.rackBit = false → s.woken m = s)) ∧
  (∀ (s : State) (c : Bool) (m : BitVec 64), s.settled = true → s.ridgeUp = false → exec (.stop c) s = .next s ∧ exec (.wake m c) s = .next s ∧ exec .markerLost s = .next s)

/-- core reset: each die named that is not in reset yet enters it, a fenced one too, and a compute die's pages but CLK and the die-to-die links return to their reset values
and its Tarn to zero (log entry 46). It ends with its bits clear, the event CORE_DONE, its GTIME aligned and its bring-up steps again; then the stacks that bring-up
found good train and the others are FAILED, unless the die or its memory is fenced; once trained they are ready and the memory zero, with the remaps of the epoch
installed again. A failure raises a C1 fault and fences the die, or for PD0 acts as C4. The management reset resets what R678 names and ends with MGMT_RESET_DONE;
without a reset under way these change nothing (17 R639–R641, R643, R678; 06 R263; 01 R44). -/
def Obligations.DiesEnterAndLeaveReset : Prop :=
  (∀ (s : State) (m : BitVec 10), s.mgmtOn = true →
    exec (.rstCtrlCore m) s = .next (s.finish ((allDies.filter (fun d => m.getLsbD d.val)).foldl State.beginCoreReset s))) ∧
  (∀ (s : State) (d : Die), (s.inReset d = true → s.beginCoreReset d = s) ∧
    (s.inReset d = false → (s.beginCoreReset d).inReset d = true ∧
      (∀ c, Die.cd? d = some c → c ∉ s.memFenced → (∀ p : Page, p.die = d → p.ptype ≠ .clk → p.ptype ≠ .d2d →
          ∀ off, off < 0x1000 → (s.beginCoreReset d).rd (p.base + off) = regReset (s.beginCoreReset d).fuses (p.base + off)) ∧
        (∀ off, off < tarnSpan → (s.beginCoreReset d).tarnByte c off = 0)))) ∧
  (∀ (s : State), s.mgmtOn = true → ∃ t : State, exec .rstCtrlMgmt s = .next (s.finish t) ∧ t.mcReset = true ∧ t.fld .rst F.RST_CAUSE_MGMT = 2 ∧
    t.fld .rst F.RST_CTRL_MGMT = 1 ∧ t.fld .sec F.SEC_STATUS_DEBUG = 0 ∧ t.gtime = s.gtime ∧ t.mem = s.mem ∧ t.parts = s.parts ∧ t.agents = s.agents ∧
      t.fltLog = s.fltLog ∧ (s.fwStaged = true → t.fwDigest = Config.sha512 s.flashImage ∧ t.fwStaged = false) ∧
      (∀ x, s.codeStaged = some x → t.codeHeld = x ∧ t.codeStaged = none)) ∧
  (∀ (s : State), s.mgmtOn = true → s.mcReset = true → ∃ t : State, exec .mgmtResetDone s = .next (s.finish t) ∧ t.mcReset = false ∧
    t.fld .rst F.RST_CTRL_MGMT = 0 ∧ (s.fld .smt F.SMT_STATE_PAIR = 1 ∨ s.fld .smt F.SMT_STATE_PAIR = 2 → t.fld .smt F.SMT_STATE_PAIR = 3)) ∧
  (∀ (s : State), s.settled = true → s.mcReset = false → exec .mgmtResetDone s = .next s) ∧
  (∀ (s : State) (t : SelfTest) (d : Die), s.mgmtOn = true → s.inReset d = true →
    exec (.coreResetDone t d) s = .next (s.finish (s.finishCoreReset t d)) ∧ (s.endReset d).inReset d = false ∧
    (s.fld .rst F.BLK_CTRL_ENABLE = 1 → (s.endReset d).flag .rst ⟨F.EVT_STATUS_EVT.off, 1, 1⟩ = true) ∧
    (Die.cd? d = none ∨ (∃ c, Die.cd? d = some c ∧ d ∈ (((s.endReset d).alignDie d).dieUp t d).fencedDies) →
      s.finishCoreReset t d = ((s.endReset d).alignDie d).dieUp t d) ∧
    (∀ c, Die.cd? d = some c → let u := ((s.endReset d).alignDie d).dieUp t d
      c ∉ u.memFenced → d ∉ u.fencedDies → ∀ k, k < 3 →
        (s.finishCoreReset t d).fld (.mem c) (F.MEM_STACK_STATE k) = (if u.boot.eligible.contains (3 * c.val + k) then skTRAINING else skFAILED)) ∧
    (d = pd0 → exec (.coreResetFail d) s = .next (s.finish (((s.endReset d).raise .rst 0x100 1 {}).c4React .rst 0x100))) ∧
    (d ≠ pd0 → exec (.coreResetFail d) s = .next (s.finish (((s.endReset d).raise .rst 0x100 1 {}).fenceDie d)))) ∧
  (∀ (s : State) (t : SelfTest) (d : Die), s.settled = true → s.inReset d = false → exec (.coreResetDone t d) s = .next s ∧ exec (.coreResetFail d) s = .next s) ∧
  (∀ (s : State) (c : CDie) (k : Nat), s.mgmtOn = true → s.dieDown c = false → c ∉ s.memFenced → s.flag (.mem c) F.BLK_STATUS_READY = false → k < 3 →
    s.fld (.mem c) (F.MEM_STACK_STATE k) = skTRAINING → s.boot.phase ≠ phFABRIC_MEMORY →
    ∃ t : State, exec (.coreResetMemoryReady c) s = .next (s.finish t) ∧ t.fld (.mem c) (F.MEM_STACK_STATE k) = skREADY ∧
      (∀ off, off < memSpan → t.memByte c off = 0) ∧ (∀ e, e ≠ c → ∀ off, off < memSpan → t.memByte e off = s.memByte e off) ∧
      t.remaps = s.remaps ++ (s.savedRemaps.filter (fun r => r.die == c)).map (fun r => { r with source := 2 })) ∧
  (∀ (s : State) (c : CDie), s.settled = true → s.dieDown c = true ∨ c ∈ s.memFenced ∨ s.flag (.mem c) F.BLK_STATUS_READY = true ∨
    (∀ k, k < 3 → s.fld (.mem c) (F.MEM_STACK_STATE k) ≠ skTRAINING) → exec (.coreResetMemoryReady c) s = .next s)

/-- register accesses of the management complex complete: a read answers its words in ascending order, a write applies its words in that order. What is not there, or is not
served to the requester, reads all-ones and takes no write; a _LO read latches its _HI for the requester; a 1 written to a counter's OVF clears count and OVF; a write by a
requester that may not write the register is ignored. A write changes each field by its access code and no bit outside it, and a counter stops at its largest value and
then sets OVF (00 R14, 19 R665, R670–R673, 03 R141). -/
def Obligations.RegistersReadAndWrite : Prop :=
  (∀ (s : State) (a : RegAddr) (n : Fin 1025), s.mgmtOn = true → let r := s.readWords .mc a n.val
    exec (.loReadLatch .mc a n) s = .next (s.finish (r.1.emit (.regData .mc r.2)))) ∧
  (∀ (s : State) (a : RegAddr) (ws : List (Word × Bool)) (f : BootFind), s.mgmtOn = true →
    exec (.registerWrite .mc (.words a ws) f) s = .next (s.finish (s.writeWords .mc a f ws))) ∧
  (∀ (s : State) (w : Requester) (a : Nat), (pageOf a = none ∨ (∃ p, pageOf a = some p ∧ s.pageServed w p = false)) →
    s.readReg w a = (s, 0xFFFFFFFF) ∧ ∀ v f, s.writeReg w a v f = s) ∧
  (∀ (s : State) (w : Requester) (p : Page) (off : Nat), p.ptype ≠ .mbx → s.pageServed w p = true → p.ptype.isLo off = true →
    (p.reg? off).isSome = true → (p.reg? (off + 4)).isSome = true →
    let u := (s.readReg w (p.base + off)).1
    (s.readReg w (p.base + off)).2 = s.seenWord w p off ∧ (∀ t : State, t.latches = u.latches → t.pageServed w p = true →
      (t.readReg w (p.base + off + 4)).2 = s.seenWord w p (off + 4))) ∧
  (∀ (s : State) (w : Requester) (p : Page) (lo : Nat) (r : RegDef), s.mgmtOn = true → p.ptype ≠ .mbx → s.pageServed w p = true → w.host? = none →
    w.mayWrite p (lo + 4) = true → 0x100 ≤ lo → lo + 4 < 0x1000 → p.reg? (lo + 4) = some r → r.isCounterHi = true →
    ∃ t : State, exec (.counterOvfClear w p lo) s = .next (s.finish t) ∧ t.counter p lo = 0 ∧ t.counterOvf p lo = false ∧
      (∀ a, a ≠ p.base + lo → a ≠ p.base + lo + 4 → t.rd a = s.rd a) ∧ t = { s with regs := t.regs }) ∧
  (∀ (s : State) (w : Requester) (p : Page) (off : Nat) (v : Word) (f : BootFind), off < 0x1000 → w.host? = none → w.mayWrite p off = false →
    s.writeReg w (p.base + off) v f = s) ∧
  (∀ (f : FieldDef) (old new : Word), f.lsb + f.width ≤ 32 → let x : Field := ⟨0, f.lsb, f.width⟩
    (f.acc = .ro ∨ f.acc = .wo → f.write old new = old) ∧ (f.acc = .rw → getF (f.write old new) x = getF new x) ∧
    (f.acc = .w1c → getF (f.write old new) x = getF (old &&& ~~~new) x) ∧
    (f.acc = .w1cv → getF (f.write old new) x = (if getF new x = 0 then getF old x else 0)) ∧
    (f.acc = .rw1s → getF (f.write old new) x = getF (old ||| new) x)) ∧
  (∀ (f : FieldDef) (old new : Word) (i : Nat), i < f.lsb ∨ f.lsb + f.width ≤ i → (f.write old new).getLsbD i = old.getLsbD i) ∧
  (∀ (s : State) (p : Page) (off n : Nat), let c := s.counter p off
    (s.bump p off n).counter p off = min 0xFFFFFFFFFFFF (c + n) ∧
    (0xFFFFFFFFFFFF ≤ c + n → (s.bump p off n).counterOvf p off = true) ∧ (c + n < 0xFFFFFFFFFFFF → (s.bump p off n).counterOvf p off = s.counterOvf p off))

/-- a step takes the command at the front of the queue and is its meaning on the state with the queue's rest; with no command waiting it is one tick of the
block's clock (the model's choice, log entry 2). -/
def Obligations.StepRunsTheFrontCommand : Prop :=
  (∀ (s : State) (c : Instr) (rest : List Instr), s.pending = c :: rest → step s = exec c { s with pending := rest }) ∧
  (∀ (s : State), s.pending = [] → step s = .next s.tick)

/-- the waiting commands are served first in, first out: every command completes, none is refused and none faults, each leaves the queue behind it as it is,
and n steps serve the first n of them. -/
def Obligations.QueuedCommandsCompleteInOrder : Prop :=
  (∀ (c : Instr) (s : State), ∃ t : State, exec c s = .next t ∧ t.pending = s.pending) ∧
  (∀ (n : Nat) (s : State), ∃ t : State, Host.Core.run Sys2Proof.core n s = .next t ∧ t.pending = s.pending.drop n)

/-- before the management domain is powered no command but its power-on changes anything, and no time passes (15 R560). -/
def Obligations.UnpoweredPackageStaysAsItIs : Prop :=
  (∀ (c : Instr) (s : State), s.mgmtOn = false → (∀ b other f, c ≠ .mgmtPowerOn b other f) → exec c s = .next s) ∧
  (∀ (s : State), s.mgmtOn = false → s.pending = [] → step s = .next s) ∧
  (∀ (n : Nat) (s : State), s.mgmtOn = false → (∀ c ∈ s.pending, ∀ b other f, c ≠ .mgmtPowerOn b other f) →
    Host.Core.run Sys2Proof.core n s = .next { s with pending := s.pending.drop n })

/-- every step keeps the memory of the eight dies and the Tarn in their canonical form: addresses strictly rising, and no byte listed that reads as an
unlisted one (the model's own form; what an unlisted byte reads is log entry 5). -/
def Obligations.StepsKeepTheMemoryForm : Prop :=
  ∀ (s t : State), s.memWf = true → step s = .next t → t.memWf = true

/-- every step keeps the queue well formed: when every waiting command has operands a sender can send, so have those that still wait. -/
def Obligations.StepsKeepTheQueueWellFormed : Prop :=
  ∀ (s t : State), s.pending.all Instr.wf = true → step s = .next t → t.pending.all Instr.wf = true

/-- the state at reset meets the invariants; nothing is powered, no command waits, and the registers hold the reset values of the register tables (17 R643, 19
R667, 15 R560). -/
def Obligations.ResetMeetsTheInvariants : Prop :=
  State.reset.memWf = true ∧ State.reset.regsWf = true ∧ State.reset.pending = [] ∧ State.reset.mgmtOn = false ∧
    State.reset.rd (Page.base (.msf 3) + 0x110) = 0x00100000 ∧ State.reset.rd (Page.base (.msf 3) + 0x008) = 1 ∧
    State.reset.rd (Page.base .flt + 0x008) = 1 ∧ (∀ c off, State.reset.memByte c off = 0 ∧ State.reset.tarnByte c off = 0)
end

