-- ==== Sys2Proof/Laws/State.lean ====
section
/-! SUPPORT. What each basic update of the state leaves: one lemma for each field, and one for each reader of the fields it does not write. -/

namespace Sys2Proof.Machine

/-! `wr` writes regs alone. -/

@[simp] theorem State.wr_pending (s : State) (a : Nat) (v : Word) : (s.wr a v).pending = s.pending := by cases s; rfl
@[simp] theorem State.wr_out (s : State) (a : Nat) (v : Word) : (s.wr a v).out = s.out := by cases s; rfl
@[simp] theorem State.wr_freeCtr (s : State) (a : Nat) (v : Word) : (s.wr a v).freeCtr = s.freeCtr := by cases s; rfl
@[simp] theorem State.wr_mgmtOn (s : State) (a : Nat) (v : Word) : (s.wr a v).mgmtOn = s.mgmtOn := by cases s; rfl
@[simp] theorem State.wr_fuses (s : State) (a : Nat) (v : Word) : (s.wr a v).fuses = s.fuses := by cases s; rfl
@[simp] theorem State.wr_straps (s : State) (a : Nat) (v : Word) : (s.wr a v).straps = s.straps := by cases s; rfl
@[simp] theorem State.wr_pos (s : State) (a : Nat) (v : Word) : (s.wr a v).pos = s.pos := by cases s; rfl
@[simp] theorem State.wr_latches (s : State) (a : Nat) (v : Word) : (s.wr a v).latches = s.latches := by cases s; rfl
@[simp] theorem State.wr_gtime (s : State) (a : Nat) (v : Word) : (s.wr a v).gtime = s.gtime := by cases s; rfl
@[simp] theorem State.wr_fclk (s : State) (a : Nat) (v : Word) : (s.wr a v).fclk = s.fclk := by cases s; rfl
@[simp] theorem State.wr_mem (s : State) (a : Nat) (v : Word) : (s.wr a v).mem = s.mem := by cases s; rfl
@[simp] theorem State.wr_tarn (s : State) (a : Nat) (v : Word) : (s.wr a v).tarn = s.tarn := by cases s; rfl
@[simp] theorem State.wr_rowErrs (s : State) (a : Nat) (v : Word) : (s.wr a v).rowErrs = s.rowErrs := by cases s; rfl
@[simp] theorem State.wr_remaps (s : State) (a : Nat) (v : Word) : (s.wr a v).remaps = s.remaps := by cases s; rfl
@[simp] theorem State.wr_savedRemaps (s : State) (a : Nat) (v : Word) : (s.wr a v).savedRemaps = s.savedRemaps := by cases s; rfl
@[simp] theorem State.wr_repairLog (s : State) (a : Nat) (v : Word) : (s.wr a v).repairLog = s.repairLog := by cases s; rfl
@[simp] theorem State.wr_badSectors (s : State) (a : Nat) (v : Word) : (s.wr a v).badSectors = s.badSectors := by cases s; rfl
@[simp] theorem State.wr_memFenced (s : State) (a : Nat) (v : Word) : (s.wr a v).memFenced = s.memFenced := by cases s; rfl
@[simp] theorem State.wr_mappedGran (s : State) (a : Nat) (v : Word) : (s.wr a v).mappedGran = s.mappedGran := by cases s; rfl
@[simp] theorem State.wr_zeroOrders (s : State) (a : Nat) (v : Word) : (s.wr a v).zeroOrders = s.zeroOrders := by cases s; rfl
@[simp] theorem State.wr_arrays (s : State) (a : Nat) (v : Word) : (s.wr a v).arrays = s.arrays := by cases s; rfl
@[simp] theorem State.wr_repairLines (s : State) (a : Nat) (v : Word) : (s.wr a v).repairLines = s.repairLines := by cases s; rfl
@[simp] theorem State.wr_queues (s : State) (a : Nat) (v : Word) : (s.wr a v).queues = s.queues := by cases s; rfl
@[simp] theorem State.wr_cairns (s : State) (a : Nat) (v : Word) : (s.wr a v).cairns = s.cairns := by cases s; rfl
@[simp] theorem State.wr_tracks (s : State) (a : Nat) (v : Word) : (s.wr a v).tracks = s.tracks := by cases s; rfl
@[simp] theorem State.wr_cores (s : State) (a : Nat) (v : Word) : (s.wr a v).cores = s.cores := by cases s; rfl
@[simp] theorem State.wr_dispatches (s : State) (a : Nat) (v : Word) : (s.wr a v).dispatches = s.dispatches := by cases s; rfl
@[simp] theorem State.wr_dmaRuns (s : State) (a : Nat) (v : Word) : (s.wr a v).dmaRuns = s.dmaRuns := by cases s; rfl
@[simp] theorem State.wr_requests (s : State) (a : Nat) (v : Word) : (s.wr a v).requests = s.requests := by cases s; rfl
@[simp] theorem State.wr_windows (s : State) (a : Nat) (v : Word) : (s.wr a v).windows = s.windows := by cases s; rfl
@[simp] theorem State.wr_respUse (s : State) (a : Nat) (v : Word) : (s.wr a v).respUse = s.respUse := by cases s; rfl
@[simp] theorem State.wr_nextXid (s : State) (a : Nat) (v : Word) : (s.wr a v).nextXid = s.nextXid := by cases s; rfl
@[simp] theorem State.wr_nextId (s : State) (a : Nat) (v : Word) : (s.wr a v).nextId = s.nextId := by cases s; rfl
@[simp] theorem State.wr_parts (s : State) (a : Nat) (v : Word) : (s.wr a v).parts = s.parts := by cases s; rfl
@[simp] theorem State.wr_wkeys (s : State) (a : Nat) (v : Word) : (s.wr a v).wkeys = s.wkeys := by cases s; rfl
@[simp] theorem State.wr_staging (s : State) (a : Nat) (v : Word) : (s.wr a v).staging = s.staging := by cases s; rfl
@[simp] theorem State.wr_fltLog (s : State) (a : Nat) (v : Word) : (s.wr a v).fltLog = s.fltLog := by cases s; rfl
@[simp] theorem State.wr_recoveryTimes (s : State) (a : Nat) (v : Word) : (s.wr a v).recoveryTimes = s.recoveryTimes := by cases s; rfl
@[simp] theorem State.wr_quietPages (s : State) (a : Nat) (v : Word) : (s.wr a v).quietPages = s.quietPages := by cases s; rfl
@[simp] theorem State.wr_quietParts (s : State) (a : Nat) (v : Word) : (s.wr a v).quietParts = s.quietParts := by cases s; rfl
@[simp] theorem State.wr_fencedDies (s : State) (a : Nat) (v : Word) : (s.wr a v).fencedDies = s.fencedDies := by cases s; rfl
@[simp] theorem State.wr_lostRails (s : State) (a : Nat) (v : Word) : (s.wr a v).lostRails = s.lostRails := by cases s; rfl
@[simp] theorem State.wr_thermtrip (s : State) (a : Nat) (v : Word) : (s.wr a v).thermtrip = s.thermtrip := by cases s; rfl
@[simp] theorem State.wr_chans (s : State) (a : Nat) (v : Word) : (s.wr a v).chans = s.chans := by cases s; rfl
@[simp] theorem State.wr_fns (s : State) (a : Nat) (v : Word) : (s.wr a v).fns = s.fns := by cases s; rfl
@[simp] theorem State.wr_bar2 (s : State) (a : Nat) (v : Word) : (s.wr a v).bar2 = s.bar2 := by cases s; rfl
@[simp] theorem State.wr_held (s : State) (a : Nat) (v : Word) : (s.wr a v).held = s.held := by cases s; rfl
@[simp] theorem State.wr_relayOut (s : State) (a : Nat) (v : Word) : (s.wr a v).relayOut = s.relayOut := by cases s; rfl
@[simp] theorem State.wr_relayCtr (s : State) (a : Nat) (v : Word) : (s.wr a v).relayCtr = s.relayCtr := by cases s; rfl
@[simp] theorem State.wr_boardSess (s : State) (a : Nat) (v : Word) : (s.wr a v).boardSess = s.boardSess := by cases s; rfl
@[simp] theorem State.wr_i3c (s : State) (a : Nat) (v : Word) : (s.wr a v).i3c = s.i3c := by cases s; rfl
@[simp] theorem State.wr_eid (s : State) (a : Nat) (v : Word) : (s.wr a v).eid = s.eid := by cases s; rfl
@[simp] theorem State.wr_sensors (s : State) (a : Nat) (v : Word) : (s.wr a v).sensors = s.sensors := by cases s; rfl
@[simp] theorem State.wr_agents (s : State) (a : Nat) (v : Word) : (s.wr a v).agents = s.agents := by cases s; rfl
@[simp] theorem State.wr_ports (s : State) (a : Nat) (v : Word) : (s.wr a v).ports = s.ports := by cases s; rfl
@[simp] theorem State.wr_transits (s : State) (a : Nat) (v : Word) : (s.wr a v).transits = s.transits := by cases s; rfl
@[simp] theorem State.wr_d2d (s : State) (a : Nat) (v : Word) : (s.wr a v).d2d = s.d2d := by cases s; rfl
@[simp] theorem State.wr_reserved (s : State) (a : Nat) (v : Word) : (s.wr a v).reserved = s.reserved := by cases s; rfl
@[simp] theorem State.wr_tables (s : State) (a : Nat) (v : Word) : (s.wr a v).tables = s.tables := by cases s; rfl
@[simp] theorem State.wr_d2dRuns (s : State) (a : Nat) (v : Word) : (s.wr a v).d2dRuns = s.d2dRuns := by cases s; rfl
@[simp] theorem State.wr_xfers (s : State) (a : Nat) (v : Word) : (s.wr a v).xfers = s.xfers := by cases s; rfl
@[simp] theorem State.wr_hotEngines (s : State) (a : Nat) (v : Word) : (s.wr a v).hotEngines = s.hotEngines := by cases s; rfl
@[simp] theorem State.wr_boot (s : State) (a : Nat) (v : Word) : (s.wr a v).boot = s.boot := by cases s; rfl
@[simp] theorem State.wr_plan (s : State) (a : Nat) (v : Word) : (s.wr a v).plan = s.plan := by cases s; rfl
@[simp] theorem State.wr_bootPlan (s : State) (a : Nat) (v : Word) : (s.wr a v).bootPlan = s.bootPlan := by cases s; rfl
@[simp] theorem State.wr_maxPlanSeq (s : State) (a : Nat) (v : Word) : (s.wr a v).maxPlanSeq = s.maxPlanSeq := by cases s; rfl
@[simp] theorem State.wr_fwDigest (s : State) (a : Nat) (v : Word) : (s.wr a v).fwDigest = s.fwDigest := by cases s; rfl
@[simp] theorem State.wr_fwComps (s : State) (a : Nat) (v : Word) : (s.wr a v).fwComps = s.fwComps := by cases s; rfl
@[simp] theorem State.wr_flash (s : State) (a : Nat) (v : Word) : (s.wr a v).flash = s.flash := by cases s; rfl
@[simp] theorem State.wr_fwStaged (s : State) (a : Nat) (v : Word) : (s.wr a v).fwStaged = s.fwStaged := by cases s; rfl
@[simp] theorem State.wr_codeHeld (s : State) (a : Nat) (v : Word) : (s.wr a v).codeHeld = s.codeHeld := by cases s; rfl
@[simp] theorem State.wr_codeStaged (s : State) (a : Nat) (v : Word) : (s.wr a v).codeStaged = s.codeStaged := by cases s; rfl
@[simp] theorem State.wr_rcv (s : State) (a : Nat) (v : Word) : (s.wr a v).rcv = s.rcv := by cases s; rfl
@[simp] theorem State.wr_dist (s : State) (a : Nat) (v : Word) : (s.wr a v).dist = s.dist := by cases s; rfl
@[simp] theorem State.wr_mcReset (s : State) (a : Nat) (v : Word) : (s.wr a v).mcReset = s.mcReset := by cases s; rfl
@[simp] theorem State.wr_dbgCounters (s : State) (a : Nat) (v : Word) : (s.wr a v).dbgCounters = s.dbgCounters := by cases s; rfl
@[simp] theorem State.wr_unlocks (s : State) (a : Nat) (v : Word) : (s.wr a v).unlocks = s.unlocks := by cases s; rfl
@[simp] theorem State.wr_power (s : State) (a : Nat) (v : Word) : (s.wr a v).power = s.power := by cases s; rfl
@[simp] theorem State.wr_pkgPower (s : State) (a : Nat) (v : Word) : (s.wr a v).pkgPower = s.pkgPower := by cases s; rfl
@[simp] theorem State.wr_ridge (s : State) (a : Nat) (v : Word) : (s.wr a v).ridge = s.ridge := by cases s; rfl
@[simp] theorem State.wr_smt (s : State) (a : Nat) (v : Word) : (s.wr a v).smt = s.smt := by cases s; rfl
@[simp] theorem State.wr_pairSess (s : State) (a : Nat) (v : Word) : (s.wr a v).pairSess = s.pairSess := by cases s; rfl
@[simp] theorem State.wr_heldTerm (s : State) (a : Nat) (v : Word) : (s.wr a v).heldTerm = s.heldTerm := by cases s; rfl
@[simp] theorem State.wr_heldBy (s : State) (a : Nat) (v : Word) : (s.wr a v).heldBy = s.heldBy := by cases s; rfl
@[simp] theorem State.wr_now (s : State) (a : Nat) (v : Word) (zd : Die) : (s.wr a v).now zd = s.now zd := by simp [State.now]
@[simp] theorem State.wr_array (s : State) (a : Nat) (v : Word) (zc : CDie) : (s.wr a v).array zc = s.array zc := by simp [State.array]
@[simp] theorem State.wr_queue (s : State) (a : Nat) (v : Word) (zr : QRef) : (s.wr a v).queue zr = s.queue zr := by simp [State.queue]
@[simp] theorem State.wr_partQ (s : State) (a : Nat) (v : Word) (zp : Part) : (s.wr a v).part? zp = s.part? zp := by simp [State.part?]
@[simp] theorem State.wr_isConf (s : State) (a : Nat) (v : Word) (zp : Part) : (s.wr a v).isConf zp = s.isConf zp := by simp [State.isConf]
@[simp] theorem State.wr_chan (s : State) (a : Nat) (v : Word) (zk : Nat) : (s.wr a v).chan zk = s.chan zk := by simp [State.chan]
@[simp] theorem State.wr_agent (s : State) (a : Nat) (v : Word) (zk : PDie) : (s.wr a v).agent zk = s.agent zk := by simp [State.agent]
@[simp] theorem State.wr_port (s : State) (a : Nat) (v : Word) (zq : Port) : (s.wr a v).port zq = s.port zq := by simp [State.port]
@[simp] theorem State.wr_core (s : State) (a : Nat) (v : Word) (zc : CDie) (zk : Core) : (s.wr a v).core zc zk = s.core zc zk := by simp [State.core]
@[simp] theorem State.wr_cairn (s : State) (a : Nat) (v : Word) (zc : CDie) (zn : Nat) : (s.wr a v).cairn zc zn = s.cairn zc zn := by simp [State.cairn]
@[simp] theorem State.wr_fn (s : State) (a : Nat) (v : Word) (zf : Fn) : (s.wr a v).fn zf = s.fn zf := by simp [State.fn]
@[simp] theorem State.wr_wkey (s : State) (a : Nat) (v : Word) (zp : Part) (zprev : Bool) : (s.wr a v).wkey zp zprev = s.wkey zp zprev := by simp [State.wkey]
@[simp] theorem State.wr_memByte (s : State) (a : Nat) (v : Word) (zc : CDie) (zoff : Nat) : (s.wr a v).memByte zc zoff = s.memByte zc zoff := by simp [State.memByte]
@[simp] theorem State.wr_memGet (s : State) (a : Nat) (v : Word) (zc : CDie) (zoff : Nat) (zn : Nat) : (s.wr a v).memGet zc zoff zn = s.memGet zc zoff zn := by simp [State.memGet]
@[simp] theorem State.wr_tarnByte (s : State) (a : Nat) (v : Word) (zc : CDie) (zoff : Nat) : (s.wr a v).tarnByte zc zoff = s.tarnByte zc zoff := by simp [State.tarnByte]
@[simp] theorem State.wr_tarnGet (s : State) (a : Nat) (v : Word) (zc : CDie) (zoff : Nat) (zn : Nat) : (s.wr a v).tarnGet zc zoff zn = s.tarnGet zc zoff zn := by simp [State.tarnGet]
@[simp] theorem State.wr_nparts (s : State) (a : Nat) (v : Word) : (s.wr a v).nparts = s.nparts := by simp [State.nparts]
@[simp] theorem State.wr_memWf (s : State) (a : Nat) (v : Word) : (s.wr a v).memWf = s.memWf := by simp [State.memWf]
@[simp] theorem State.wr_quiet (s : State) (a : Nat) (v : Word) : (s.wr a v).quiet = s.quiet := by simp [State.quiet]
@[simp] theorem State.wr_settled (s : State) (a : Nat) (v : Word) : (s.wr a v).settled = s.settled := by simp [State.settled]

/-! `setFld` writes regs alone. -/

@[simp] theorem State.setFld_pending (s : State) (p : Page) (f : Field) (v : Nat) : (s.setFld p f v).pending = s.pending := State.wr_pending s _ _
@[simp] theorem State.setFld_out (s : State) (p : Page) (f : Field) (v : Nat) : (s.setFld p f v).out = s.out := State.wr_out s _ _
@[simp] theorem State.setFld_freeCtr (s : State) (p : Page) (f : Field) (v : Nat) : (s.setFld p f v).freeCtr = s.freeCtr := State.wr_freeCtr s _ _
@[simp] theorem State.setFld_mgmtOn (s : State) (p : Page) (f : Field) (v : Nat) : (s.setFld p f v).mgmtOn = s.mgmtOn := State.wr_mgmtOn s _ _
@[simp] theorem State.setFld_fuses (s : State) (p : Page) (f : Field) (v : Nat) : (s.setFld p f v).fuses = s.fuses := State.wr_fuses s _ _
@[simp] theorem State.setFld_straps (s : State) (p : Page) (f : Field) (v : Nat) : (s.setFld p f v).straps = s.straps := State.wr_straps s _ _
@[simp] theorem State.setFld_pos (s : State) (p : Page) (f : Field) (v : Nat) : (s.setFld p f v).pos = s.pos := State.wr_pos s _ _
@[simp] theorem State.setFld_latches (s : State) (p : Page) (f : Field) (v : Nat) : (s.setFld p f v).latches = s.latches := State.wr_latches s _ _
@[simp] theorem State.setFld_gtime (s : State) (p : Page) (f : Field) (v : Nat) : (s.setFld p f v).gtime = s.gtime := State.wr_gtime s _ _
@[simp] theorem State.setFld_fclk (s : State) (p : Page) (f : Field) (v : Nat) : (s.setFld p f v).fclk = s.fclk := State.wr_fclk s _ _
@[simp] theorem State.setFld_mem (s : State) (p : Page) (f : Field) (v : Nat) : (s.setFld p f v).mem = s.mem := State.wr_mem s _ _
@[simp] theorem State.setFld_tarn (s : State) (p : Page) (f : Field) (v : Nat) : (s.setFld p f v).tarn = s.tarn := State.wr_tarn s _ _
@[simp] theorem State.setFld_rowErrs (s : State) (p : Page) (f : Field) (v : Nat) : (s.setFld p f v).rowErrs = s.rowErrs := State.wr_rowErrs s _ _
@[simp] theorem State.setFld_remaps (s : State) (p : Page) (f : Field) (v : Nat) : (s.setFld p f v).remaps = s.remaps := State.wr_remaps s _ _
@[simp] theorem State.setFld_savedRemaps (s : State) (p : Page) (f : Field) (v : Nat) : (s.setFld p f v).savedRemaps = s.savedRemaps := State.wr_savedRemaps s _ _
@[simp] theorem State.setFld_repairLog (s : State) (p : Page) (f : Field) (v : Nat) : (s.setFld p f v).repairLog = s.repairLog := State.wr_repairLog s _ _
@[simp] theorem State.setFld_badSectors (s : State) (p : Page) (f : Field) (v : Nat) : (s.setFld p f v).badSectors = s.badSectors := State.wr_badSectors s _ _
@[simp] theorem State.setFld_memFenced (s : State) (p : Page) (f : Field) (v : Nat) : (s.setFld p f v).memFenced = s.memFenced := State.wr_memFenced s _ _
@[simp] theorem State.setFld_mappedGran (s : State) (p : Page) (f : Field) (v : Nat) : (s.setFld p f v).mappedGran = s.mappedGran := State.wr_mappedGran s _ _
@[simp] theorem State.setFld_zeroOrders (s : State) (p : Page) (f : Field) (v : Nat) : (s.setFld p f v).zeroOrders = s.zeroOrders := State.wr_zeroOrders s _ _
@[simp] theorem State.setFld_arrays (s : State) (p : Page) (f : Field) (v : Nat) : (s.setFld p f v).arrays = s.arrays := State.wr_arrays s _ _
@[simp] theorem State.setFld_repairLines (s : State) (p : Page) (f : Field) (v : Nat) : (s.setFld p f v).repairLines = s.repairLines := State.wr_repairLines s _ _
@[simp] theorem State.setFld_queues (s : State) (p : Page) (f : Field) (v : Nat) : (s.setFld p f v).queues = s.queues := State.wr_queues s _ _
@[simp] theorem State.setFld_cairns (s : State) (p : Page) (f : Field) (v : Nat) : (s.setFld p f v).cairns = s.cairns := State.wr_cairns s _ _
@[simp] theorem State.setFld_tracks (s : State) (p : Page) (f : Field) (v : Nat) : (s.setFld p f v).tracks = s.tracks := State.wr_tracks s _ _
@[simp] theorem State.setFld_cores (s : State) (p : Page) (f : Field) (v : Nat) : (s.setFld p f v).cores = s.cores := State.wr_cores s _ _
@[simp] theorem State.setFld_dispatches (s : State) (p : Page) (f : Field) (v : Nat) : (s.setFld p f v).dispatches = s.dispatches := State.wr_dispatches s _ _
@[simp] theorem State.setFld_dmaRuns (s : State) (p : Page) (f : Field) (v : Nat) : (s.setFld p f v).dmaRuns = s.dmaRuns := State.wr_dmaRuns s _ _
@[simp] theorem State.setFld_requests (s : State) (p : Page) (f : Field) (v : Nat) : (s.setFld p f v).requests = s.requests := State.wr_requests s _ _
@[simp] theorem State.setFld_windows (s : State) (p : Page) (f : Field) (v : Nat) : (s.setFld p f v).windows = s.windows := State.wr_windows s _ _
@[simp] theorem State.setFld_respUse (s : State) (p : Page) (f : Field) (v : Nat) : (s.setFld p f v).respUse = s.respUse := State.wr_respUse s _ _
@[simp] theorem State.setFld_nextXid (s : State) (p : Page) (f : Field) (v : Nat) : (s.setFld p f v).nextXid = s.nextXid := State.wr_nextXid s _ _
@[simp] theorem State.setFld_nextId (s : State) (p : Page) (f : Field) (v : Nat) : (s.setFld p f v).nextId = s.nextId := State.wr_nextId s _ _
@[simp] theorem State.setFld_parts (s : State) (p : Page) (f : Field) (v : Nat) : (s.setFld p f v).parts = s.parts := State.wr_parts s _ _
@[simp] theorem State.setFld_wkeys (s : State) (p : Page) (f : Field) (v : Nat) : (s.setFld p f v).wkeys = s.wkeys := State.wr_wkeys s _ _
@[simp] theorem State.setFld_staging (s : State) (p : Page) (f : Field) (v : Nat) : (s.setFld p f v).staging = s.staging := State.wr_staging s _ _
@[simp] theorem State.setFld_fltLog (s : State) (p : Page) (f : Field) (v : Nat) : (s.setFld p f v).fltLog = s.fltLog := State.wr_fltLog s _ _
@[simp] theorem State.setFld_recoveryTimes (s : State) (p : Page) (f : Field) (v : Nat) : (s.setFld p f v).recoveryTimes = s.recoveryTimes := State.wr_recoveryTimes s _ _
@[simp] theorem State.setFld_quietPages (s : State) (p : Page) (f : Field) (v : Nat) : (s.setFld p f v).quietPages = s.quietPages := State.wr_quietPages s _ _
@[simp] theorem State.setFld_quietParts (s : State) (p : Page) (f : Field) (v : Nat) : (s.setFld p f v).quietParts = s.quietParts := State.wr_quietParts s _ _
@[simp] theorem State.setFld_fencedDies (s : State) (p : Page) (f : Field) (v : Nat) : (s.setFld p f v).fencedDies = s.fencedDies := State.wr_fencedDies s _ _
@[simp] theorem State.setFld_lostRails (s : State) (p : Page) (f : Field) (v : Nat) : (s.setFld p f v).lostRails = s.lostRails := State.wr_lostRails s _ _
@[simp] theorem State.setFld_thermtrip (s : State) (p : Page) (f : Field) (v : Nat) : (s.setFld p f v).thermtrip = s.thermtrip := State.wr_thermtrip s _ _
@[simp] theorem State.setFld_chans (s : State) (p : Page) (f : Field) (v : Nat) : (s.setFld p f v).chans = s.chans := State.wr_chans s _ _
@[simp] theorem State.setFld_fns (s : State) (p : Page) (f : Field) (v : Nat) : (s.setFld p f v).fns = s.fns := State.wr_fns s _ _
@[simp] theorem State.setFld_bar2 (s : State) (p : Page) (f : Field) (v : Nat) : (s.setFld p f v).bar2 = s.bar2 := State.wr_bar2 s _ _
@[simp] theorem State.setFld_held (s : State) (p : Page) (f : Field) (v : Nat) : (s.setFld p f v).held = s.held := State.wr_held s _ _
@[simp] theorem State.setFld_relayOut (s : State) (p : Page) (f : Field) (v : Nat) : (s.setFld p f v).relayOut = s.relayOut := State.wr_relayOut s _ _
@[simp] theorem State.setFld_relayCtr (s : State) (p : Page) (f : Field) (v : Nat) : (s.setFld p f v).relayCtr = s.relayCtr := State.wr_relayCtr s _ _
@[simp] theorem State.setFld_boardSess (s : State) (p : Page) (f : Field) (v : Nat) : (s.setFld p f v).boardSess = s.boardSess := State.wr_boardSess s _ _
@[simp] theorem State.setFld_i3c (s : State) (p : Page) (f : Field) (v : Nat) : (s.setFld p f v).i3c = s.i3c := State.wr_i3c s _ _
@[simp] theorem State.setFld_eid (s : State) (p : Page) (f : Field) (v : Nat) : (s.setFld p f v).eid = s.eid := State.wr_eid s _ _
@[simp] theorem State.setFld_sensors (s : State) (p : Page) (f : Field) (v : Nat) : (s.setFld p f v).sensors = s.sensors := State.wr_sensors s _ _
@[simp] theorem State.setFld_agents (s : State) (p : Page) (f : Field) (v : Nat) : (s.setFld p f v).agents = s.agents := State.wr_agents s _ _
@[simp] theorem State.setFld_ports (s : State) (p : Page) (f : Field) (v : Nat) : (s.setFld p f v).ports = s.ports := State.wr_ports s _ _
@[simp] theorem State.setFld_transits (s : State) (p : Page) (f : Field) (v : Nat) : (s.setFld p f v).transits = s.transits := State.wr_transits s _ _
@[simp] theorem State.setFld_d2d (s : State) (p : Page) (f : Field) (v : Nat) : (s.setFld p f v).d2d = s.d2d := State.wr_d2d s _ _
@[simp] theorem State.setFld_reserved (s : State) (p : Page) (f : Field) (v : Nat) : (s.setFld p f v).reserved = s.reserved := State.wr_reserved s _ _
@[simp] theorem State.setFld_tables (s : State) (p : Page) (f : Field) (v : Nat) : (s.setFld p f v).tables = s.tables := State.wr_tables s _ _
@[simp] theorem State.setFld_d2dRuns (s : State) (p : Page) (f : Field) (v : Nat) : (s.setFld p f v).d2dRuns = s.d2dRuns := State.wr_d2dRuns s _ _
@[simp] theorem State.setFld_xfers (s : State) (p : Page) (f : Field) (v : Nat) : (s.setFld p f v).xfers = s.xfers := State.wr_xfers s _ _
@[simp] theorem State.setFld_hotEngines (s : State) (p : Page) (f : Field) (v : Nat) : (s.setFld p f v).hotEngines = s.hotEngines := State.wr_hotEngines s _ _
@[simp] theorem State.setFld_boot (s : State) (p : Page) (f : Field) (v : Nat) : (s.setFld p f v).boot = s.boot := State.wr_boot s _ _
@[simp] theorem State.setFld_plan (s : State) (p : Page) (f : Field) (v : Nat) : (s.setFld p f v).plan = s.plan := State.wr_plan s _ _
@[simp] theorem State.setFld_bootPlan (s : State) (p : Page) (f : Field) (v : Nat) : (s.setFld p f v).bootPlan = s.bootPlan := State.wr_bootPlan s _ _
@[simp] theorem State.setFld_maxPlanSeq (s : State) (p : Page) (f : Field) (v : Nat) : (s.setFld p f v).maxPlanSeq = s.maxPlanSeq := State.wr_maxPlanSeq s _ _
@[simp] theorem State.setFld_fwDigest (s : State) (p : Page) (f : Field) (v : Nat) : (s.setFld p f v).fwDigest = s.fwDigest := State.wr_fwDigest s _ _
@[simp] theorem State.setFld_fwComps (s : State) (p : Page) (f : Field) (v : Nat) : (s.setFld p f v).fwComps = s.fwComps := State.wr_fwComps s _ _
@[simp] theorem State.setFld_flash (s : State) (p : Page) (f : Field) (v : Nat) : (s.setFld p f v).flash = s.flash := State.wr_flash s _ _
@[simp] theorem State.setFld_fwStaged (s : State) (p : Page) (f : Field) (v : Nat) : (s.setFld p f v).fwStaged = s.fwStaged := State.wr_fwStaged s _ _
@[simp] theorem State.setFld_codeHeld (s : State) (p : Page) (f : Field) (v : Nat) : (s.setFld p f v).codeHeld = s.codeHeld := State.wr_codeHeld s _ _
@[simp] theorem State.setFld_codeStaged (s : State) (p : Page) (f : Field) (v : Nat) : (s.setFld p f v).codeStaged = s.codeStaged := State.wr_codeStaged s _ _
@[simp] theorem State.setFld_rcv (s : State) (p : Page) (f : Field) (v : Nat) : (s.setFld p f v).rcv = s.rcv := State.wr_rcv s _ _
@[simp] theorem State.setFld_dist (s : State) (p : Page) (f : Field) (v : Nat) : (s.setFld p f v).dist = s.dist := State.wr_dist s _ _
@[simp] theorem State.setFld_mcReset (s : State) (p : Page) (f : Field) (v : Nat) : (s.setFld p f v).mcReset = s.mcReset := State.wr_mcReset s _ _
@[simp] theorem State.setFld_dbgCounters (s : State) (p : Page) (f : Field) (v : Nat) : (s.setFld p f v).dbgCounters = s.dbgCounters := State.wr_dbgCounters s _ _
@[simp] theorem State.setFld_unlocks (s : State) (p : Page) (f : Field) (v : Nat) : (s.setFld p f v).unlocks = s.unlocks := State.wr_unlocks s _ _
@[simp] theorem State.setFld_power (s : State) (p : Page) (f : Field) (v : Nat) : (s.setFld p f v).power = s.power := State.wr_power s _ _
@[simp] theorem State.setFld_pkgPower (s : State) (p : Page) (f : Field) (v : Nat) : (s.setFld p f v).pkgPower = s.pkgPower := State.wr_pkgPower s _ _
@[simp] theorem State.setFld_ridge (s : State) (p : Page) (f : Field) (v : Nat) : (s.setFld p f v).ridge = s.ridge := State.wr_ridge s _ _
@[simp] theorem State.setFld_smt (s : State) (p : Page) (f : Field) (v : Nat) : (s.setFld p f v).smt = s.smt := State.wr_smt s _ _
@[simp] theorem State.setFld_pairSess (s : State) (p : Page) (f : Field) (v : Nat) : (s.setFld p f v).pairSess = s.pairSess := State.wr_pairSess s _ _
@[simp] theorem State.setFld_heldTerm (s : State) (p : Page) (f : Field) (v : Nat) : (s.setFld p f v).heldTerm = s.heldTerm := State.wr_heldTerm s _ _
@[simp] theorem State.setFld_heldBy (s : State) (p : Page) (f : Field) (v : Nat) : (s.setFld p f v).heldBy = s.heldBy := State.wr_heldBy s _ _
@[simp] theorem State.setFld_now (s : State) (p : Page) (f : Field) (v : Nat) (zd : Die) : (s.setFld p f v).now zd = s.now zd := by simp [State.now]
@[simp] theorem State.setFld_array (s : State) (p : Page) (f : Field) (v : Nat) (zc : CDie) : (s.setFld p f v).array zc = s.array zc := by simp [State.array]
@[simp] theorem State.setFld_queue (s : State) (p : Page) (f : Field) (v : Nat) (zr : QRef) : (s.setFld p f v).queue zr = s.queue zr := by simp [State.queue]
@[simp] theorem State.setFld_partQ (s : State) (p : Page) (f : Field) (v : Nat) (zp : Part) : (s.setFld p f v).part? zp = s.part? zp := by simp [State.part?]
@[simp] theorem State.setFld_isConf (s : State) (p : Page) (f : Field) (v : Nat) (zp : Part) : (s.setFld p f v).isConf zp = s.isConf zp := by simp [State.isConf]
@[simp] theorem State.setFld_chan (s : State) (p : Page) (f : Field) (v : Nat) (zk : Nat) : (s.setFld p f v).chan zk = s.chan zk := by simp [State.chan]
@[simp] theorem State.setFld_agent (s : State) (p : Page) (f : Field) (v : Nat) (zk : PDie) : (s.setFld p f v).agent zk = s.agent zk := by simp [State.agent]
@[simp] theorem State.setFld_port (s : State) (p : Page) (f : Field) (v : Nat) (zq : Port) : (s.setFld p f v).port zq = s.port zq := by simp [State.port]
@[simp] theorem State.setFld_core (s : State) (p : Page) (f : Field) (v : Nat) (zc : CDie) (zk : Core) : (s.setFld p f v).core zc zk = s.core zc zk := by simp [State.core]
@[simp] theorem State.setFld_cairn (s : State) (p : Page) (f : Field) (v : Nat) (zc : CDie) (zn : Nat) : (s.setFld p f v).cairn zc zn = s.cairn zc zn := by simp [State.cairn]
@[simp] theorem State.setFld_fn (s : State) (p : Page) (f : Field) (v : Nat) (zf : Fn) : (s.setFld p f v).fn zf = s.fn zf := by simp [State.fn]
@[simp] theorem State.setFld_wkey (s : State) (p : Page) (f : Field) (v : Nat) (zp : Part) (zprev : Bool) : (s.setFld p f v).wkey zp zprev = s.wkey zp zprev := by simp [State.wkey]
@[simp] theorem State.setFld_memByte (s : State) (p : Page) (f : Field) (v : Nat) (zc : CDie) (zoff : Nat) : (s.setFld p f v).memByte zc zoff = s.memByte zc zoff := by simp [State.memByte]
@[simp] theorem State.setFld_memGet (s : State) (p : Page) (f : Field) (v : Nat) (zc : CDie) (zoff : Nat) (zn : Nat) : (s.setFld p f v).memGet zc zoff zn = s.memGet zc zoff zn := by simp [State.memGet]
@[simp] theorem State.setFld_tarnByte (s : State) (p : Page) (f : Field) (v : Nat) (zc : CDie) (zoff : Nat) : (s.setFld p f v).tarnByte zc zoff = s.tarnByte zc zoff := by simp [State.tarnByte]
@[simp] theorem State.setFld_tarnGet (s : State) (p : Page) (f : Field) (v : Nat) (zc : CDie) (zoff : Nat) (zn : Nat) : (s.setFld p f v).tarnGet zc zoff zn = s.tarnGet zc zoff zn := by simp [State.tarnGet]
@[simp] theorem State.setFld_nparts (s : State) (p : Page) (f : Field) (v : Nat) : (s.setFld p f v).nparts = s.nparts := by simp [State.nparts]
@[simp] theorem State.setFld_memWf (s : State) (p : Page) (f : Field) (v : Nat) : (s.setFld p f v).memWf = s.memWf := by simp [State.memWf]
@[simp] theorem State.setFld_quiet (s : State) (p : Page) (f : Field) (v : Nat) : (s.setFld p f v).quiet = s.quiet := by simp [State.quiet]
@[simp] theorem State.setFld_settled (s : State) (p : Page) (f : Field) (v : Nat) : (s.setFld p f v).settled = s.settled := by simp [State.settled]

/-! `incFld` writes regs alone. -/

@[simp] theorem State.incFld_pending (s : State) (p : Page) (f : Field) (n : Nat) : (s.incFld p f n).pending = s.pending := State.setFld_pending s _ _ _
@[simp] theorem State.incFld_out (s : State) (p : Page) (f : Field) (n : Nat) : (s.incFld p f n).out = s.out := State.setFld_out s _ _ _
@[simp] theorem State.incFld_freeCtr (s : State) (p : Page) (f : Field) (n : Nat) : (s.incFld p f n).freeCtr = s.freeCtr := State.setFld_freeCtr s _ _ _
@[simp] theorem State.incFld_mgmtOn (s : State) (p : Page) (f : Field) (n : Nat) : (s.incFld p f n).mgmtOn = s.mgmtOn := State.setFld_mgmtOn s _ _ _
@[simp] theorem State.incFld_fuses (s : State) (p : Page) (f : Field) (n : Nat) : (s.incFld p f n).fuses = s.fuses := State.setFld_fuses s _ _ _
@[simp] theorem State.incFld_straps (s : State) (p : Page) (f : Field) (n : Nat) : (s.incFld p f n).straps = s.straps := State.setFld_straps s _ _ _
@[simp] theorem State.incFld_pos (s : State) (p : Page) (f : Field) (n : Nat) : (s.incFld p f n).pos = s.pos := State.setFld_pos s _ _ _
@[simp] theorem State.incFld_latches (s : State) (p : Page) (f : Field) (n : Nat) : (s.incFld p f n).latches = s.latches := State.setFld_latches s _ _ _
@[simp] theorem State.incFld_gtime (s : State) (p : Page) (f : Field) (n : Nat) : (s.incFld p f n).gtime = s.gtime := State.setFld_gtime s _ _ _
@[simp] theorem State.incFld_fclk (s : State) (p : Page) (f : Field) (n : Nat) : (s.incFld p f n).fclk = s.fclk := State.setFld_fclk s _ _ _
@[simp] theorem State.incFld_mem (s : State) (p : Page) (f : Field) (n : Nat) : (s.incFld p f n).mem = s.mem := State.setFld_mem s _ _ _
@[simp] theorem State.incFld_tarn (s : State) (p : Page) (f : Field) (n : Nat) : (s.incFld p f n).tarn = s.tarn := State.setFld_tarn s _ _ _
@[simp] theorem State.incFld_rowErrs (s : State) (p : Page) (f : Field) (n : Nat) : (s.incFld p f n).rowErrs = s.rowErrs := State.setFld_rowErrs s _ _ _
@[simp] theorem State.incFld_remaps (s : State) (p : Page) (f : Field) (n : Nat) : (s.incFld p f n).remaps = s.remaps := State.setFld_remaps s _ _ _
@[simp] theorem State.incFld_savedRemaps (s : State) (p : Page) (f : Field) (n : Nat) : (s.incFld p f n).savedRemaps = s.savedRemaps := State.setFld_savedRemaps s _ _ _
@[simp] theorem State.incFld_repairLog (s : State) (p : Page) (f : Field) (n : Nat) : (s.incFld p f n).repairLog = s.repairLog := State.setFld_repairLog s _ _ _
@[simp] theorem State.incFld_badSectors (s : State) (p : Page) (f : Field) (n : Nat) : (s.incFld p f n).badSectors = s.badSectors := State.setFld_badSectors s _ _ _
@[simp] theorem State.incFld_memFenced (s : State) (p : Page) (f : Field) (n : Nat) : (s.incFld p f n).memFenced = s.memFenced := State.setFld_memFenced s _ _ _
@[simp] theorem State.incFld_mappedGran (s : State) (p : Page) (f : Field) (n : Nat) : (s.incFld p f n).mappedGran = s.mappedGran := State.setFld_mappedGran s _ _ _
@[simp] theorem State.incFld_zeroOrders (s : State) (p : Page) (f : Field) (n : Nat) : (s.incFld p f n).zeroOrders = s.zeroOrders := State.setFld_zeroOrders s _ _ _
@[simp] theorem State.incFld_arrays (s : State) (p : Page) (f : Field) (n : Nat) : (s.incFld p f n).arrays = s.arrays := State.setFld_arrays s _ _ _
@[simp] theorem State.incFld_repairLines (s : State) (p : Page) (f : Field) (n : Nat) : (s.incFld p f n).repairLines = s.repairLines := State.setFld_repairLines s _ _ _
@[simp] theorem State.incFld_queues (s : State) (p : Page) (f : Field) (n : Nat) : (s.incFld p f n).queues = s.queues := State.setFld_queues s _ _ _
@[simp] theorem State.incFld_cairns (s : State) (p : Page) (f : Field) (n : Nat) : (s.incFld p f n).cairns = s.cairns := State.setFld_cairns s _ _ _
@[simp] theorem State.incFld_tracks (s : State) (p : Page) (f : Field) (n : Nat) : (s.incFld p f n).tracks = s.tracks := State.setFld_tracks s _ _ _
@[simp] theorem State.incFld_cores (s : State) (p : Page) (f : Field) (n : Nat) : (s.incFld p f n).cores = s.cores := State.setFld_cores s _ _ _
@[simp] theorem State.incFld_dispatches (s : State) (p : Page) (f : Field) (n : Nat) : (s.incFld p f n).dispatches = s.dispatches := State.setFld_dispatches s _ _ _
@[simp] theorem State.incFld_dmaRuns (s : State) (p : Page) (f : Field) (n : Nat) : (s.incFld p f n).dmaRuns = s.dmaRuns := State.setFld_dmaRuns s _ _ _
@[simp] theorem State.incFld_requests (s : State) (p : Page) (f : Field) (n : Nat) : (s.incFld p f n).requests = s.requests := State.setFld_requests s _ _ _
@[simp] theorem State.incFld_windows (s : State) (p : Page) (f : Field) (n : Nat) : (s.incFld p f n).windows = s.windows := State.setFld_windows s _ _ _
@[simp] theorem State.incFld_respUse (s : State) (p : Page) (f : Field) (n : Nat) : (s.incFld p f n).respUse = s.respUse := State.setFld_respUse s _ _ _
@[simp] theorem State.incFld_nextXid (s : State) (p : Page) (f : Field) (n : Nat) : (s.incFld p f n).nextXid = s.nextXid := State.setFld_nextXid s _ _ _
@[simp] theorem State.incFld_nextId (s : State) (p : Page) (f : Field) (n : Nat) : (s.incFld p f n).nextId = s.nextId := State.setFld_nextId s _ _ _
@[simp] theorem State.incFld_parts (s : State) (p : Page) (f : Field) (n : Nat) : (s.incFld p f n).parts = s.parts := State.setFld_parts s _ _ _
@[simp] theorem State.incFld_wkeys (s : State) (p : Page) (f : Field) (n : Nat) : (s.incFld p f n).wkeys = s.wkeys := State.setFld_wkeys s _ _ _
@[simp] theorem State.incFld_staging (s : State) (p : Page) (f : Field) (n : Nat) : (s.incFld p f n).staging = s.staging := State.setFld_staging s _ _ _
@[simp] theorem State.incFld_fltLog (s : State) (p : Page) (f : Field) (n : Nat) : (s.incFld p f n).fltLog = s.fltLog := State.setFld_fltLog s _ _ _
@[simp] theorem State.incFld_recoveryTimes (s : State) (p : Page) (f : Field) (n : Nat) : (s.incFld p f n).recoveryTimes = s.recoveryTimes := State.setFld_recoveryTimes s _ _ _
@[simp] theorem State.incFld_quietPages (s : State) (p : Page) (f : Field) (n : Nat) : (s.incFld p f n).quietPages = s.quietPages := State.setFld_quietPages s _ _ _
@[simp] theorem State.incFld_quietParts (s : State) (p : Page) (f : Field) (n : Nat) : (s.incFld p f n).quietParts = s.quietParts := State.setFld_quietParts s _ _ _
@[simp] theorem State.incFld_fencedDies (s : State) (p : Page) (f : Field) (n : Nat) : (s.incFld p f n).fencedDies = s.fencedDies := State.setFld_fencedDies s _ _ _
@[simp] theorem State.incFld_lostRails (s : State) (p : Page) (f : Field) (n : Nat) : (s.incFld p f n).lostRails = s.lostRails := State.setFld_lostRails s _ _ _
@[simp] theorem State.incFld_thermtrip (s : State) (p : Page) (f : Field) (n : Nat) : (s.incFld p f n).thermtrip = s.thermtrip := State.setFld_thermtrip s _ _ _
@[simp] theorem State.incFld_chans (s : State) (p : Page) (f : Field) (n : Nat) : (s.incFld p f n).chans = s.chans := State.setFld_chans s _ _ _
@[simp] theorem State.incFld_fns (s : State) (p : Page) (f : Field) (n : Nat) : (s.incFld p f n).fns = s.fns := State.setFld_fns s _ _ _
@[simp] theorem State.incFld_bar2 (s : State) (p : Page) (f : Field) (n : Nat) : (s.incFld p f n).bar2 = s.bar2 := State.setFld_bar2 s _ _ _
@[simp] theorem State.incFld_held (s : State) (p : Page) (f : Field) (n : Nat) : (s.incFld p f n).held = s.held := State.setFld_held s _ _ _
@[simp] theorem State.incFld_relayOut (s : State) (p : Page) (f : Field) (n : Nat) : (s.incFld p f n).relayOut = s.relayOut := State.setFld_relayOut s _ _ _
@[simp] theorem State.incFld_relayCtr (s : State) (p : Page) (f : Field) (n : Nat) : (s.incFld p f n).relayCtr = s.relayCtr := State.setFld_relayCtr s _ _ _
@[simp] theorem State.incFld_boardSess (s : State) (p : Page) (f : Field) (n : Nat) : (s.incFld p f n).boardSess = s.boardSess := State.setFld_boardSess s _ _ _
@[simp] theorem State.incFld_i3c (s : State) (p : Page) (f : Field) (n : Nat) : (s.incFld p f n).i3c = s.i3c := State.setFld_i3c s _ _ _
@[simp] theorem State.incFld_eid (s : State) (p : Page) (f : Field) (n : Nat) : (s.incFld p f n).eid = s.eid := State.setFld_eid s _ _ _
@[simp] theorem State.incFld_sensors (s : State) (p : Page) (f : Field) (n : Nat) : (s.incFld p f n).sensors = s.sensors := State.setFld_sensors s _ _ _
@[simp] theorem State.incFld_agents (s : State) (p : Page) (f : Field) (n : Nat) : (s.incFld p f n).agents = s.agents := State.setFld_agents s _ _ _
@[simp] theorem State.incFld_ports (s : State) (p : Page) (f : Field) (n : Nat) : (s.incFld p f n).ports = s.ports := State.setFld_ports s _ _ _
@[simp] theorem State.incFld_transits (s : State) (p : Page) (f : Field) (n : Nat) : (s.incFld p f n).transits = s.transits := State.setFld_transits s _ _ _
@[simp] theorem State.incFld_d2d (s : State) (p : Page) (f : Field) (n : Nat) : (s.incFld p f n).d2d = s.d2d := State.setFld_d2d s _ _ _
@[simp] theorem State.incFld_reserved (s : State) (p : Page) (f : Field) (n : Nat) : (s.incFld p f n).reserved = s.reserved := State.setFld_reserved s _ _ _
@[simp] theorem State.incFld_tables (s : State) (p : Page) (f : Field) (n : Nat) : (s.incFld p f n).tables = s.tables := State.setFld_tables s _ _ _
@[simp] theorem State.incFld_d2dRuns (s : State) (p : Page) (f : Field) (n : Nat) : (s.incFld p f n).d2dRuns = s.d2dRuns := State.setFld_d2dRuns s _ _ _
@[simp] theorem State.incFld_xfers (s : State) (p : Page) (f : Field) (n : Nat) : (s.incFld p f n).xfers = s.xfers := State.setFld_xfers s _ _ _
@[simp] theorem State.incFld_hotEngines (s : State) (p : Page) (f : Field) (n : Nat) : (s.incFld p f n).hotEngines = s.hotEngines := State.setFld_hotEngines s _ _ _
@[simp] theorem State.incFld_boot (s : State) (p : Page) (f : Field) (n : Nat) : (s.incFld p f n).boot = s.boot := State.setFld_boot s _ _ _
@[simp] theorem State.incFld_plan (s : State) (p : Page) (f : Field) (n : Nat) : (s.incFld p f n).plan = s.plan := State.setFld_plan s _ _ _
@[simp] theorem State.incFld_bootPlan (s : State) (p : Page) (f : Field) (n : Nat) : (s.incFld p f n).bootPlan = s.bootPlan := State.setFld_bootPlan s _ _ _
@[simp] theorem State.incFld_maxPlanSeq (s : State) (p : Page) (f : Field) (n : Nat) : (s.incFld p f n).maxPlanSeq = s.maxPlanSeq := State.setFld_maxPlanSeq s _ _ _
@[simp] theorem State.incFld_fwDigest (s : State) (p : Page) (f : Field) (n : Nat) : (s.incFld p f n).fwDigest = s.fwDigest := State.setFld_fwDigest s _ _ _
@[simp] theorem State.incFld_fwComps (s : State) (p : Page) (f : Field) (n : Nat) : (s.incFld p f n).fwComps = s.fwComps := State.setFld_fwComps s _ _ _
@[simp] theorem State.incFld_flash (s : State) (p : Page) (f : Field) (n : Nat) : (s.incFld p f n).flash = s.flash := State.setFld_flash s _ _ _
@[simp] theorem State.incFld_fwStaged (s : State) (p : Page) (f : Field) (n : Nat) : (s.incFld p f n).fwStaged = s.fwStaged := State.setFld_fwStaged s _ _ _
@[simp] theorem State.incFld_codeHeld (s : State) (p : Page) (f : Field) (n : Nat) : (s.incFld p f n).codeHeld = s.codeHeld := State.setFld_codeHeld s _ _ _
@[simp] theorem State.incFld_codeStaged (s : State) (p : Page) (f : Field) (n : Nat) : (s.incFld p f n).codeStaged = s.codeStaged := State.setFld_codeStaged s _ _ _
@[simp] theorem State.incFld_rcv (s : State) (p : Page) (f : Field) (n : Nat) : (s.incFld p f n).rcv = s.rcv := State.setFld_rcv s _ _ _
@[simp] theorem State.incFld_dist (s : State) (p : Page) (f : Field) (n : Nat) : (s.incFld p f n).dist = s.dist := State.setFld_dist s _ _ _
@[simp] theorem State.incFld_mcReset (s : State) (p : Page) (f : Field) (n : Nat) : (s.incFld p f n).mcReset = s.mcReset := State.setFld_mcReset s _ _ _
@[simp] theorem State.incFld_dbgCounters (s : State) (p : Page) (f : Field) (n : Nat) : (s.incFld p f n).dbgCounters = s.dbgCounters := State.setFld_dbgCounters s _ _ _
@[simp] theorem State.incFld_unlocks (s : State) (p : Page) (f : Field) (n : Nat) : (s.incFld p f n).unlocks = s.unlocks := State.setFld_unlocks s _ _ _
@[simp] theorem State.incFld_power (s : State) (p : Page) (f : Field) (n : Nat) : (s.incFld p f n).power = s.power := State.setFld_power s _ _ _
@[simp] theorem State.incFld_pkgPower (s : State) (p : Page) (f : Field) (n : Nat) : (s.incFld p f n).pkgPower = s.pkgPower := State.setFld_pkgPower s _ _ _
@[simp] theorem State.incFld_ridge (s : State) (p : Page) (f : Field) (n : Nat) : (s.incFld p f n).ridge = s.ridge := State.setFld_ridge s _ _ _
@[simp] theorem State.incFld_smt (s : State) (p : Page) (f : Field) (n : Nat) : (s.incFld p f n).smt = s.smt := State.setFld_smt s _ _ _
@[simp] theorem State.incFld_pairSess (s : State) (p : Page) (f : Field) (n : Nat) : (s.incFld p f n).pairSess = s.pairSess := State.setFld_pairSess s _ _ _
@[simp] theorem State.incFld_heldTerm (s : State) (p : Page) (f : Field) (n : Nat) : (s.incFld p f n).heldTerm = s.heldTerm := State.setFld_heldTerm s _ _ _
@[simp] theorem State.incFld_heldBy (s : State) (p : Page) (f : Field) (n : Nat) : (s.incFld p f n).heldBy = s.heldBy := State.setFld_heldBy s _ _ _
@[simp] theorem State.incFld_now (s : State) (p : Page) (f : Field) (n : Nat) (zd : Die) : (s.incFld p f n).now zd = s.now zd := by simp [State.now]
@[simp] theorem State.incFld_array (s : State) (p : Page) (f : Field) (n : Nat) (zc : CDie) : (s.incFld p f n).array zc = s.array zc := by simp [State.array]
@[simp] theorem State.incFld_queue (s : State) (p : Page) (f : Field) (n : Nat) (zr : QRef) : (s.incFld p f n).queue zr = s.queue zr := by simp [State.queue]
@[simp] theorem State.incFld_partQ (s : State) (p : Page) (f : Field) (n : Nat) (zp : Part) : (s.incFld p f n).part? zp = s.part? zp := by simp [State.part?]
@[simp] theorem State.incFld_isConf (s : State) (p : Page) (f : Field) (n : Nat) (zp : Part) : (s.incFld p f n).isConf zp = s.isConf zp := by simp [State.isConf]
@[simp] theorem State.incFld_chan (s : State) (p : Page) (f : Field) (n : Nat) (zk : Nat) : (s.incFld p f n).chan zk = s.chan zk := by simp [State.chan]
@[simp] theorem State.incFld_agent (s : State) (p : Page) (f : Field) (n : Nat) (zk : PDie) : (s.incFld p f n).agent zk = s.agent zk := by simp [State.agent]
@[simp] theorem State.incFld_port (s : State) (p : Page) (f : Field) (n : Nat) (zq : Port) : (s.incFld p f n).port zq = s.port zq := by simp [State.port]
@[simp] theorem State.incFld_core (s : State) (p : Page) (f : Field) (n : Nat) (zc : CDie) (zk : Core) : (s.incFld p f n).core zc zk = s.core zc zk := by simp [State.core]
@[simp] theorem State.incFld_cairn (s : State) (p : Page) (f : Field) (n : Nat) (zc : CDie) (zn : Nat) : (s.incFld p f n).cairn zc zn = s.cairn zc zn := by simp [State.cairn]
@[simp] theorem State.incFld_fn (s : State) (p : Page) (f : Field) (n : Nat) (zf : Fn) : (s.incFld p f n).fn zf = s.fn zf := by simp [State.fn]
@[simp] theorem State.incFld_wkey (s : State) (p : Page) (f : Field) (n : Nat) (zp : Part) (zprev : Bool) : (s.incFld p f n).wkey zp zprev = s.wkey zp zprev := by simp [State.wkey]
@[simp] theorem State.incFld_memByte (s : State) (p : Page) (f : Field) (n : Nat) (zc : CDie) (zoff : Nat) : (s.incFld p f n).memByte zc zoff = s.memByte zc zoff := by simp [State.memByte]
@[simp] theorem State.incFld_memGet (s : State) (p : Page) (f : Field) (n : Nat) (zc : CDie) (zoff : Nat) (zn : Nat) : (s.incFld p f n).memGet zc zoff zn = s.memGet zc zoff zn := by simp [State.memGet]
@[simp] theorem State.incFld_tarnByte (s : State) (p : Page) (f : Field) (n : Nat) (zc : CDie) (zoff : Nat) : (s.incFld p f n).tarnByte zc zoff = s.tarnByte zc zoff := by simp [State.tarnByte]
@[simp] theorem State.incFld_tarnGet (s : State) (p : Page) (f : Field) (n : Nat) (zc : CDie) (zoff : Nat) (zn : Nat) : (s.incFld p f n).tarnGet zc zoff zn = s.tarnGet zc zoff zn := by simp [State.tarnGet]
@[simp] theorem State.incFld_nparts (s : State) (p : Page) (f : Field) (n : Nat) : (s.incFld p f n).nparts = s.nparts := by simp [State.nparts]
@[simp] theorem State.incFld_memWf (s : State) (p : Page) (f : Field) (n : Nat) : (s.incFld p f n).memWf = s.memWf := by simp [State.memWf]
@[simp] theorem State.incFld_quiet (s : State) (p : Page) (f : Field) (n : Nat) : (s.incFld p f n).quiet = s.quiet := by simp [State.quiet]
@[simp] theorem State.incFld_settled (s : State) (p : Page) (f : Field) (n : Nat) : (s.incFld p f n).settled = s.settled := by simp [State.settled]

/-! `bump` writes regs alone. -/

@[simp] theorem State.bump_pending (s : State) (p : Page) (off : Nat) (n : Nat) : (s.bump p off n).pending = s.pending := (State.wr_pending _ _ _).trans (State.wr_pending s _ _)
@[simp] theorem State.bump_out (s : State) (p : Page) (off : Nat) (n : Nat) : (s.bump p off n).out = s.out := (State.wr_out _ _ _).trans (State.wr_out s _ _)
@[simp] theorem State.bump_freeCtr (s : State) (p : Page) (off : Nat) (n : Nat) : (s.bump p off n).freeCtr = s.freeCtr := (State.wr_freeCtr _ _ _).trans (State.wr_freeCtr s _ _)
@[simp] theorem State.bump_mgmtOn (s : State) (p : Page) (off : Nat) (n : Nat) : (s.bump p off n).mgmtOn = s.mgmtOn := (State.wr_mgmtOn _ _ _).trans (State.wr_mgmtOn s _ _)
@[simp] theorem State.bump_fuses (s : State) (p : Page) (off : Nat) (n : Nat) : (s.bump p off n).fuses = s.fuses := (State.wr_fuses _ _ _).trans (State.wr_fuses s _ _)
@[simp] theorem State.bump_straps (s : State) (p : Page) (off : Nat) (n : Nat) : (s.bump p off n).straps = s.straps := (State.wr_straps _ _ _).trans (State.wr_straps s _ _)
@[simp] theorem State.bump_pos (s : State) (p : Page) (off : Nat) (n : Nat) : (s.bump p off n).pos = s.pos := (State.wr_pos _ _ _).trans (State.wr_pos s _ _)
@[simp] theorem State.bump_latches (s : State) (p : Page) (off : Nat) (n : Nat) : (s.bump p off n).latches = s.latches := (State.wr_latches _ _ _).trans (State.wr_latches s _ _)
@[simp] theorem State.bump_gtime (s : State) (p : Page) (off : Nat) (n : Nat) : (s.bump p off n).gtime = s.gtime := (State.wr_gtime _ _ _).trans (State.wr_gtime s _ _)
@[simp] theorem State.bump_fclk (s : State) (p : Page) (off : Nat) (n : Nat) : (s.bump p off n).fclk = s.fclk := (State.wr_fclk _ _ _).trans (State.wr_fclk s _ _)
@[simp] theorem State.bump_mem (s : State) (p : Page) (off : Nat) (n : Nat) : (s.bump p off n).mem = s.mem := (State.wr_mem _ _ _).trans (State.wr_mem s _ _)
@[simp] theorem State.bump_tarn (s : State) (p : Page) (off : Nat) (n : Nat) : (s.bump p off n).tarn = s.tarn := (State.wr_tarn _ _ _).trans (State.wr_tarn s _ _)
@[simp] theorem State.bump_rowErrs (s : State) (p : Page) (off : Nat) (n : Nat) : (s.bump p off n).rowErrs = s.rowErrs := (State.wr_rowErrs _ _ _).trans (State.wr_rowErrs s _ _)
@[simp] theorem State.bump_remaps (s : State) (p : Page) (off : Nat) (n : Nat) : (s.bump p off n).remaps = s.remaps := (State.wr_remaps _ _ _).trans (State.wr_remaps s _ _)
@[simp] theorem State.bump_savedRemaps (s : State) (p : Page) (off : Nat) (n : Nat) : (s.bump p off n).savedRemaps = s.savedRemaps := (State.wr_savedRemaps _ _ _).trans (State.wr_savedRemaps s _ _)
@[simp] theorem State.bump_repairLog (s : State) (p : Page) (off : Nat) (n : Nat) : (s.bump p off n).repairLog = s.repairLog := (State.wr_repairLog _ _ _).trans (State.wr_repairLog s _ _)
@[simp] theorem State.bump_badSectors (s : State) (p : Page) (off : Nat) (n : Nat) : (s.bump p off n).badSectors = s.badSectors := (State.wr_badSectors _ _ _).trans (State.wr_badSectors s _ _)
@[simp] theorem State.bump_memFenced (s : State) (p : Page) (off : Nat) (n : Nat) : (s.bump p off n).memFenced = s.memFenced := (State.wr_memFenced _ _ _).trans (State.wr_memFenced s _ _)
@[simp] theorem State.bump_mappedGran (s : State) (p : Page) (off : Nat) (n : Nat) : (s.bump p off n).mappedGran = s.mappedGran := (State.wr_mappedGran _ _ _).trans (State.wr_mappedGran s _ _)
@[simp] theorem State.bump_zeroOrders (s : State) (p : Page) (off : Nat) (n : Nat) : (s.bump p off n).zeroOrders = s.zeroOrders := (State.wr_zeroOrders _ _ _).trans (State.wr_zeroOrders s _ _)
@[simp] theorem State.bump_arrays (s : State) (p : Page) (off : Nat) (n : Nat) : (s.bump p off n).arrays = s.arrays := (State.wr_arrays _ _ _).trans (State.wr_arrays s _ _)
@[simp] theorem State.bump_repairLines (s : State) (p : Page) (off : Nat) (n : Nat) : (s.bump p off n).repairLines = s.repairLines := (State.wr_repairLines _ _ _).trans (State.wr_repairLines s _ _)
@[simp] theorem State.bump_queues (s : State) (p : Page) (off : Nat) (n : Nat) : (s.bump p off n).queues = s.queues := (State.wr_queues _ _ _).trans (State.wr_queues s _ _)
@[simp] theorem State.bump_cairns (s : State) (p : Page) (off : Nat) (n : Nat) : (s.bump p off n).cairns = s.cairns := (State.wr_cairns _ _ _).trans (State.wr_cairns s _ _)
@[simp] theorem State.bump_tracks (s : State) (p : Page) (off : Nat) (n : Nat) : (s.bump p off n).tracks = s.tracks := (State.wr_tracks _ _ _).trans (State.wr_tracks s _ _)
@[simp] theorem State.bump_cores (s : State) (p : Page) (off : Nat) (n : Nat) : (s.bump p off n).cores = s.cores := (State.wr_cores _ _ _).trans (State.wr_cores s _ _)
@[simp] theorem State.bump_dispatches (s : State) (p : Page) (off : Nat) (n : Nat) : (s.bump p off n).dispatches = s.dispatches := (State.wr_dispatches _ _ _).trans (State.wr_dispatches s _ _)
@[simp] theorem State.bump_dmaRuns (s : State) (p : Page) (off : Nat) (n : Nat) : (s.bump p off n).dmaRuns = s.dmaRuns := (State.wr_dmaRuns _ _ _).trans (State.wr_dmaRuns s _ _)
@[simp] theorem State.bump_requests (s : State) (p : Page) (off : Nat) (n : Nat) : (s.bump p off n).requests = s.requests := (State.wr_requests _ _ _).trans (State.wr_requests s _ _)
@[simp] theorem State.bump_windows (s : State) (p : Page) (off : Nat) (n : Nat) : (s.bump p off n).windows = s.windows := (State.wr_windows _ _ _).trans (State.wr_windows s _ _)
@[simp] theorem State.bump_respUse (s : State) (p : Page) (off : Nat) (n : Nat) : (s.bump p off n).respUse = s.respUse := (State.wr_respUse _ _ _).trans (State.wr_respUse s _ _)
@[simp] theorem State.bump_nextXid (s : State) (p : Page) (off : Nat) (n : Nat) : (s.bump p off n).nextXid = s.nextXid := (State.wr_nextXid _ _ _).trans (State.wr_nextXid s _ _)
@[simp] theorem State.bump_nextId (s : State) (p : Page) (off : Nat) (n : Nat) : (s.bump p off n).nextId = s.nextId := (State.wr_nextId _ _ _).trans (State.wr_nextId s _ _)
@[simp] theorem State.bump_parts (s : State) (p : Page) (off : Nat) (n : Nat) : (s.bump p off n).parts = s.parts := (State.wr_parts _ _ _).trans (State.wr_parts s _ _)
@[simp] theorem State.bump_wkeys (s : State) (p : Page) (off : Nat) (n : Nat) : (s.bump p off n).wkeys = s.wkeys := (State.wr_wkeys _ _ _).trans (State.wr_wkeys s _ _)
@[simp] theorem State.bump_staging (s : State) (p : Page) (off : Nat) (n : Nat) : (s.bump p off n).staging = s.staging := (State.wr_staging _ _ _).trans (State.wr_staging s _ _)
@[simp] theorem State.bump_fltLog (s : State) (p : Page) (off : Nat) (n : Nat) : (s.bump p off n).fltLog = s.fltLog := (State.wr_fltLog _ _ _).trans (State.wr_fltLog s _ _)
@[simp] theorem State.bump_recoveryTimes (s : State) (p : Page) (off : Nat) (n : Nat) : (s.bump p off n).recoveryTimes = s.recoveryTimes := (State.wr_recoveryTimes _ _ _).trans (State.wr_recoveryTimes s _ _)
@[simp] theorem State.bump_quietPages (s : State) (p : Page) (off : Nat) (n : Nat) : (s.bump p off n).quietPages = s.quietPages := (State.wr_quietPages _ _ _).trans (State.wr_quietPages s _ _)
@[simp] theorem State.bump_quietParts (s : State) (p : Page) (off : Nat) (n : Nat) : (s.bump p off n).quietParts = s.quietParts := (State.wr_quietParts _ _ _).trans (State.wr_quietParts s _ _)
@[simp] theorem State.bump_fencedDies (s : State) (p : Page) (off : Nat) (n : Nat) : (s.bump p off n).fencedDies = s.fencedDies := (State.wr_fencedDies _ _ _).trans (State.wr_fencedDies s _ _)
@[simp] theorem State.bump_lostRails (s : State) (p : Page) (off : Nat) (n : Nat) : (s.bump p off n).lostRails = s.lostRails := (State.wr_lostRails _ _ _).trans (State.wr_lostRails s _ _)
@[simp] theorem State.bump_thermtrip (s : State) (p : Page) (off : Nat) (n : Nat) : (s.bump p off n).thermtrip = s.thermtrip := (State.wr_thermtrip _ _ _).trans (State.wr_thermtrip s _ _)
@[simp] theorem State.bump_chans (s : State) (p : Page) (off : Nat) (n : Nat) : (s.bump p off n).chans = s.chans := (State.wr_chans _ _ _).trans (State.wr_chans s _ _)
@[simp] theorem State.bump_fns (s : State) (p : Page) (off : Nat) (n : Nat) : (s.bump p off n).fns = s.fns := (State.wr_fns _ _ _).trans (State.wr_fns s _ _)
@[simp] theorem State.bump_bar2 (s : State) (p : Page) (off : Nat) (n : Nat) : (s.bump p off n).bar2 = s.bar2 := (State.wr_bar2 _ _ _).trans (State.wr_bar2 s _ _)
@[simp] theorem State.bump_held (s : State) (p : Page) (off : Nat) (n : Nat) : (s.bump p off n).held = s.held := (State.wr_held _ _ _).trans (State.wr_held s _ _)
@[simp] theorem State.bump_relayOut (s : State) (p : Page) (off : Nat) (n : Nat) : (s.bump p off n).relayOut = s.relayOut := (State.wr_relayOut _ _ _).trans (State.wr_relayOut s _ _)
@[simp] theorem State.bump_relayCtr (s : State) (p : Page) (off : Nat) (n : Nat) : (s.bump p off n).relayCtr = s.relayCtr := (State.wr_relayCtr _ _ _).trans (State.wr_relayCtr s _ _)
@[simp] theorem State.bump_boardSess (s : State) (p : Page) (off : Nat) (n : Nat) : (s.bump p off n).boardSess = s.boardSess := (State.wr_boardSess _ _ _).trans (State.wr_boardSess s _ _)
@[simp] theorem State.bump_i3c (s : State) (p : Page) (off : Nat) (n : Nat) : (s.bump p off n).i3c = s.i3c := (State.wr_i3c _ _ _).trans (State.wr_i3c s _ _)
@[simp] theorem State.bump_eid (s : State) (p : Page) (off : Nat) (n : Nat) : (s.bump p off n).eid = s.eid := (State.wr_eid _ _ _).trans (State.wr_eid s _ _)
@[simp] theorem State.bump_sensors (s : State) (p : Page) (off : Nat) (n : Nat) : (s.bump p off n).sensors = s.sensors := (State.wr_sensors _ _ _).trans (State.wr_sensors s _ _)
@[simp] theorem State.bump_agents (s : State) (p : Page) (off : Nat) (n : Nat) : (s.bump p off n).agents = s.agents := (State.wr_agents _ _ _).trans (State.wr_agents s _ _)
@[simp] theorem State.bump_ports (s : State) (p : Page) (off : Nat) (n : Nat) : (s.bump p off n).ports = s.ports := (State.wr_ports _ _ _).trans (State.wr_ports s _ _)
@[simp] theorem State.bump_transits (s : State) (p : Page) (off : Nat) (n : Nat) : (s.bump p off n).transits = s.transits := (State.wr_transits _ _ _).trans (State.wr_transits s _ _)
@[simp] theorem State.bump_d2d (s : State) (p : Page) (off : Nat) (n : Nat) : (s.bump p off n).d2d = s.d2d := (State.wr_d2d _ _ _).trans (State.wr_d2d s _ _)
@[simp] theorem State.bump_reserved (s : State) (p : Page) (off : Nat) (n : Nat) : (s.bump p off n).reserved = s.reserved := (State.wr_reserved _ _ _).trans (State.wr_reserved s _ _)
@[simp] theorem State.bump_tables (s : State) (p : Page) (off : Nat) (n : Nat) : (s.bump p off n).tables = s.tables := (State.wr_tables _ _ _).trans (State.wr_tables s _ _)
@[simp] theorem State.bump_d2dRuns (s : State) (p : Page) (off : Nat) (n : Nat) : (s.bump p off n).d2dRuns = s.d2dRuns := (State.wr_d2dRuns _ _ _).trans (State.wr_d2dRuns s _ _)
@[simp] theorem State.bump_xfers (s : State) (p : Page) (off : Nat) (n : Nat) : (s.bump p off n).xfers = s.xfers := (State.wr_xfers _ _ _).trans (State.wr_xfers s _ _)
@[simp] theorem State.bump_hotEngines (s : State) (p : Page) (off : Nat) (n : Nat) : (s.bump p off n).hotEngines = s.hotEngines := (State.wr_hotEngines _ _ _).trans (State.wr_hotEngines s _ _)
@[simp] theorem State.bump_boot (s : State) (p : Page) (off : Nat) (n : Nat) : (s.bump p off n).boot = s.boot := (State.wr_boot _ _ _).trans (State.wr_boot s _ _)
@[simp] theorem State.bump_plan (s : State) (p : Page) (off : Nat) (n : Nat) : (s.bump p off n).plan = s.plan := (State.wr_plan _ _ _).trans (State.wr_plan s _ _)
@[simp] theorem State.bump_bootPlan (s : State) (p : Page) (off : Nat) (n : Nat) : (s.bump p off n).bootPlan = s.bootPlan := (State.wr_bootPlan _ _ _).trans (State.wr_bootPlan s _ _)
@[simp] theorem State.bump_maxPlanSeq (s : State) (p : Page) (off : Nat) (n : Nat) : (s.bump p off n).maxPlanSeq = s.maxPlanSeq := (State.wr_maxPlanSeq _ _ _).trans (State.wr_maxPlanSeq s _ _)
@[simp] theorem State.bump_fwDigest (s : State) (p : Page) (off : Nat) (n : Nat) : (s.bump p off n).fwDigest = s.fwDigest := (State.wr_fwDigest _ _ _).trans (State.wr_fwDigest s _ _)
@[simp] theorem State.bump_fwComps (s : State) (p : Page) (off : Nat) (n : Nat) : (s.bump p off n).fwComps = s.fwComps := (State.wr_fwComps _ _ _).trans (State.wr_fwComps s _ _)
@[simp] theorem State.bump_flash (s : State) (p : Page) (off : Nat) (n : Nat) : (s.bump p off n).flash = s.flash := (State.wr_flash _ _ _).trans (State.wr_flash s _ _)
@[simp] theorem State.bump_fwStaged (s : State) (p : Page) (off : Nat) (n : Nat) : (s.bump p off n).fwStaged = s.fwStaged := (State.wr_fwStaged _ _ _).trans (State.wr_fwStaged s _ _)
@[simp] theorem State.bump_codeHeld (s : State) (p : Page) (off : Nat) (n : Nat) : (s.bump p off n).codeHeld = s.codeHeld := (State.wr_codeHeld _ _ _).trans (State.wr_codeHeld s _ _)
@[simp] theorem State.bump_codeStaged (s : State) (p : Page) (off : Nat) (n : Nat) : (s.bump p off n).codeStaged = s.codeStaged := (State.wr_codeStaged _ _ _).trans (State.wr_codeStaged s _ _)
@[simp] theorem State.bump_rcv (s : State) (p : Page) (off : Nat) (n : Nat) : (s.bump p off n).rcv = s.rcv := (State.wr_rcv _ _ _).trans (State.wr_rcv s _ _)
@[simp] theorem State.bump_dist (s : State) (p : Page) (off : Nat) (n : Nat) : (s.bump p off n).dist = s.dist := (State.wr_dist _ _ _).trans (State.wr_dist s _ _)
@[simp] theorem State.bump_mcReset (s : State) (p : Page) (off : Nat) (n : Nat) : (s.bump p off n).mcReset = s.mcReset := (State.wr_mcReset _ _ _).trans (State.wr_mcReset s _ _)
@[simp] theorem State.bump_dbgCounters (s : State) (p : Page) (off : Nat) (n : Nat) : (s.bump p off n).dbgCounters = s.dbgCounters := (State.wr_dbgCounters _ _ _).trans (State.wr_dbgCounters s _ _)
@[simp] theorem State.bump_unlocks (s : State) (p : Page) (off : Nat) (n : Nat) : (s.bump p off n).unlocks = s.unlocks := (State.wr_unlocks _ _ _).trans (State.wr_unlocks s _ _)
@[simp] theorem State.bump_power (s : State) (p : Page) (off : Nat) (n : Nat) : (s.bump p off n).power = s.power := (State.wr_power _ _ _).trans (State.wr_power s _ _)
@[simp] theorem State.bump_pkgPower (s : State) (p : Page) (off : Nat) (n : Nat) : (s.bump p off n).pkgPower = s.pkgPower := (State.wr_pkgPower _ _ _).trans (State.wr_pkgPower s _ _)
@[simp] theorem State.bump_ridge (s : State) (p : Page) (off : Nat) (n : Nat) : (s.bump p off n).ridge = s.ridge := (State.wr_ridge _ _ _).trans (State.wr_ridge s _ _)
@[simp] theorem State.bump_smt (s : State) (p : Page) (off : Nat) (n : Nat) : (s.bump p off n).smt = s.smt := (State.wr_smt _ _ _).trans (State.wr_smt s _ _)
@[simp] theorem State.bump_pairSess (s : State) (p : Page) (off : Nat) (n : Nat) : (s.bump p off n).pairSess = s.pairSess := (State.wr_pairSess _ _ _).trans (State.wr_pairSess s _ _)
@[simp] theorem State.bump_heldTerm (s : State) (p : Page) (off : Nat) (n : Nat) : (s.bump p off n).heldTerm = s.heldTerm := (State.wr_heldTerm _ _ _).trans (State.wr_heldTerm s _ _)
@[simp] theorem State.bump_heldBy (s : State) (p : Page) (off : Nat) (n : Nat) : (s.bump p off n).heldBy = s.heldBy := (State.wr_heldBy _ _ _).trans (State.wr_heldBy s _ _)
@[simp] theorem State.bump_now (s : State) (p : Page) (off : Nat) (n : Nat) (zd : Die) : (s.bump p off n).now zd = s.now zd := by simp [State.now]
@[simp] theorem State.bump_array (s : State) (p : Page) (off : Nat) (n : Nat) (zc : CDie) : (s.bump p off n).array zc = s.array zc := by simp [State.array]
@[simp] theorem State.bump_queue (s : State) (p : Page) (off : Nat) (n : Nat) (zr : QRef) : (s.bump p off n).queue zr = s.queue zr := by simp [State.queue]
@[simp] theorem State.bump_partQ (s : State) (p : Page) (off : Nat) (n : Nat) (zp : Part) : (s.bump p off n).part? zp = s.part? zp := by simp [State.part?]
@[simp] theorem State.bump_isConf (s : State) (p : Page) (off : Nat) (n : Nat) (zp : Part) : (s.bump p off n).isConf zp = s.isConf zp := by simp [State.isConf]
@[simp] theorem State.bump_chan (s : State) (p : Page) (off : Nat) (n : Nat) (zk : Nat) : (s.bump p off n).chan zk = s.chan zk := by simp [State.chan]
@[simp] theorem State.bump_agent (s : State) (p : Page) (off : Nat) (n : Nat) (zk : PDie) : (s.bump p off n).agent zk = s.agent zk := by simp [State.agent]
@[simp] theorem State.bump_port (s : State) (p : Page) (off : Nat) (n : Nat) (zq : Port) : (s.bump p off n).port zq = s.port zq := by simp [State.port]
@[simp] theorem State.bump_core (s : State) (p : Page) (off : Nat) (n : Nat) (zc : CDie) (zk : Core) : (s.bump p off n).core zc zk = s.core zc zk := by simp [State.core]
@[simp] theorem State.bump_cairn (s : State) (p : Page) (off : Nat) (n : Nat) (zc : CDie) (zn : Nat) : (s.bump p off n).cairn zc zn = s.cairn zc zn := by simp [State.cairn]
@[simp] theorem State.bump_fn (s : State) (p : Page) (off : Nat) (n : Nat) (zf : Fn) : (s.bump p off n).fn zf = s.fn zf := by simp [State.fn]
@[simp] theorem State.bump_wkey (s : State) (p : Page) (off : Nat) (n : Nat) (zp : Part) (zprev : Bool) : (s.bump p off n).wkey zp zprev = s.wkey zp zprev := by simp [State.wkey]
@[simp] theorem State.bump_memByte (s : State) (p : Page) (off : Nat) (n : Nat) (zc : CDie) (zoff : Nat) : (s.bump p off n).memByte zc zoff = s.memByte zc zoff := by simp [State.memByte]
@[simp] theorem State.bump_memGet (s : State) (p : Page) (off : Nat) (n : Nat) (zc : CDie) (zoff : Nat) (zn : Nat) : (s.bump p off n).memGet zc zoff zn = s.memGet zc zoff zn := by simp [State.memGet]
@[simp] theorem State.bump_tarnByte (s : State) (p : Page) (off : Nat) (n : Nat) (zc : CDie) (zoff : Nat) : (s.bump p off n).tarnByte zc zoff = s.tarnByte zc zoff := by simp [State.tarnByte]
@[simp] theorem State.bump_tarnGet (s : State) (p : Page) (off : Nat) (n : Nat) (zc : CDie) (zoff : Nat) (zn : Nat) : (s.bump p off n).tarnGet zc zoff zn = s.tarnGet zc zoff zn := by simp [State.tarnGet]
@[simp] theorem State.bump_nparts (s : State) (p : Page) (off : Nat) (n : Nat) : (s.bump p off n).nparts = s.nparts := by simp [State.nparts]
@[simp] theorem State.bump_memWf (s : State) (p : Page) (off : Nat) (n : Nat) : (s.bump p off n).memWf = s.memWf := by simp [State.memWf]
@[simp] theorem State.bump_quiet (s : State) (p : Page) (off : Nat) (n : Nat) : (s.bump p off n).quiet = s.quiet := by simp [State.quiet]
@[simp] theorem State.bump_settled (s : State) (p : Page) (off : Nat) (n : Nat) : (s.bump p off n).settled = s.settled := by simp [State.settled]

/-! `wr64` writes regs alone. -/

@[simp] theorem State.wr64_pending (s : State) (p : Page) (off : Nat) (v : BitVec 64) : (s.wr64 p off v).pending = s.pending := (State.wr_pending _ _ _).trans (State.wr_pending s _ _)
@[simp] theorem State.wr64_out (s : State) (p : Page) (off : Nat) (v : BitVec 64) : (s.wr64 p off v).out = s.out := (State.wr_out _ _ _).trans (State.wr_out s _ _)
@[simp] theorem State.wr64_freeCtr (s : State) (p : Page) (off : Nat) (v : BitVec 64) : (s.wr64 p off v).freeCtr = s.freeCtr := (State.wr_freeCtr _ _ _).trans (State.wr_freeCtr s _ _)
@[simp] theorem State.wr64_mgmtOn (s : State) (p : Page) (off : Nat) (v : BitVec 64) : (s.wr64 p off v).mgmtOn = s.mgmtOn := (State.wr_mgmtOn _ _ _).trans (State.wr_mgmtOn s _ _)
@[simp] theorem State.wr64_fuses (s : State) (p : Page) (off : Nat) (v : BitVec 64) : (s.wr64 p off v).fuses = s.fuses := (State.wr_fuses _ _ _).trans (State.wr_fuses s _ _)
@[simp] theorem State.wr64_straps (s : State) (p : Page) (off : Nat) (v : BitVec 64) : (s.wr64 p off v).straps = s.straps := (State.wr_straps _ _ _).trans (State.wr_straps s _ _)
@[simp] theorem State.wr64_pos (s : State) (p : Page) (off : Nat) (v : BitVec 64) : (s.wr64 p off v).pos = s.pos := (State.wr_pos _ _ _).trans (State.wr_pos s _ _)
@[simp] theorem State.wr64_latches (s : State) (p : Page) (off : Nat) (v : BitVec 64) : (s.wr64 p off v).latches = s.latches := (State.wr_latches _ _ _).trans (State.wr_latches s _ _)
@[simp] theorem State.wr64_gtime (s : State) (p : Page) (off : Nat) (v : BitVec 64) : (s.wr64 p off v).gtime = s.gtime := (State.wr_gtime _ _ _).trans (State.wr_gtime s _ _)
@[simp] theorem State.wr64_fclk (s : State) (p : Page) (off : Nat) (v : BitVec 64) : (s.wr64 p off v).fclk = s.fclk := (State.wr_fclk _ _ _).trans (State.wr_fclk s _ _)
@[simp] theorem State.wr64_mem (s : State) (p : Page) (off : Nat) (v : BitVec 64) : (s.wr64 p off v).mem = s.mem := (State.wr_mem _ _ _).trans (State.wr_mem s _ _)
@[simp] theorem State.wr64_tarn (s : State) (p : Page) (off : Nat) (v : BitVec 64) : (s.wr64 p off v).tarn = s.tarn := (State.wr_tarn _ _ _).trans (State.wr_tarn s _ _)
@[simp] theorem State.wr64_rowErrs (s : State) (p : Page) (off : Nat) (v : BitVec 64) : (s.wr64 p off v).rowErrs = s.rowErrs := (State.wr_rowErrs _ _ _).trans (State.wr_rowErrs s _ _)
@[simp] theorem State.wr64_remaps (s : State) (p : Page) (off : Nat) (v : BitVec 64) : (s.wr64 p off v).remaps = s.remaps := (State.wr_remaps _ _ _).trans (State.wr_remaps s _ _)
@[simp] theorem State.wr64_savedRemaps (s : State) (p : Page) (off : Nat) (v : BitVec 64) : (s.wr64 p off v).savedRemaps = s.savedRemaps := (State.wr_savedRemaps _ _ _).trans (State.wr_savedRemaps s _ _)
@[simp] theorem State.wr64_repairLog (s : State) (p : Page) (off : Nat) (v : BitVec 64) : (s.wr64 p off v).repairLog = s.repairLog := (State.wr_repairLog _ _ _).trans (State.wr_repairLog s _ _)
@[simp] theorem State.wr64_badSectors (s : State) (p : Page) (off : Nat) (v : BitVec 64) : (s.wr64 p off v).badSectors = s.badSectors := (State.wr_badSectors _ _ _).trans (State.wr_badSectors s _ _)
@[simp] theorem State.wr64_memFenced (s : State) (p : Page) (off : Nat) (v : BitVec 64) : (s.wr64 p off v).memFenced = s.memFenced := (State.wr_memFenced _ _ _).trans (State.wr_memFenced s _ _)
@[simp] theorem State.wr64_mappedGran (s : State) (p : Page) (off : Nat) (v : BitVec 64) : (s.wr64 p off v).mappedGran = s.mappedGran := (State.wr_mappedGran _ _ _).trans (State.wr_mappedGran s _ _)
@[simp] theorem State.wr64_zeroOrders (s : State) (p : Page) (off : Nat) (v : BitVec 64) : (s.wr64 p off v).zeroOrders = s.zeroOrders := (State.wr_zeroOrders _ _ _).trans (State.wr_zeroOrders s _ _)
@[simp] theorem State.wr64_arrays (s : State) (p : Page) (off : Nat) (v : BitVec 64) : (s.wr64 p off v).arrays = s.arrays := (State.wr_arrays _ _ _).trans (State.wr_arrays s _ _)
@[simp] theorem State.wr64_repairLines (s : State) (p : Page) (off : Nat) (v : BitVec 64) : (s.wr64 p off v).repairLines = s.repairLines := (State.wr_repairLines _ _ _).trans (State.wr_repairLines s _ _)
@[simp] theorem State.wr64_queues (s : State) (p : Page) (off : Nat) (v : BitVec 64) : (s.wr64 p off v).queues = s.queues := (State.wr_queues _ _ _).trans (State.wr_queues s _ _)
@[simp] theorem State.wr64_cairns (s : State) (p : Page) (off : Nat) (v : BitVec 64) : (s.wr64 p off v).cairns = s.cairns := (State.wr_cairns _ _ _).trans (State.wr_cairns s _ _)
@[simp] theorem State.wr64_tracks (s : State) (p : Page) (off : Nat) (v : BitVec 64) : (s.wr64 p off v).tracks = s.tracks := (State.wr_tracks _ _ _).trans (State.wr_tracks s _ _)
@[simp] theorem State.wr64_cores (s : State) (p : Page) (off : Nat) (v : BitVec 64) : (s.wr64 p off v).cores = s.cores := (State.wr_cores _ _ _).trans (State.wr_cores s _ _)
@[simp] theorem State.wr64_dispatches (s : State) (p : Page) (off : Nat) (v : BitVec 64) : (s.wr64 p off v).dispatches = s.dispatches := (State.wr_dispatches _ _ _).trans (State.wr_dispatches s _ _)
@[simp] theorem State.wr64_dmaRuns (s : State) (p : Page) (off : Nat) (v : BitVec 64) : (s.wr64 p off v).dmaRuns = s.dmaRuns := (State.wr_dmaRuns _ _ _).trans (State.wr_dmaRuns s _ _)
@[simp] theorem State.wr64_requests (s : State) (p : Page) (off : Nat) (v : BitVec 64) : (s.wr64 p off v).requests = s.requests := (State.wr_requests _ _ _).trans (State.wr_requests s _ _)
@[simp] theorem State.wr64_windows (s : State) (p : Page) (off : Nat) (v : BitVec 64) : (s.wr64 p off v).windows = s.windows := (State.wr_windows _ _ _).trans (State.wr_windows s _ _)
@[simp] theorem State.wr64_respUse (s : State) (p : Page) (off : Nat) (v : BitVec 64) : (s.wr64 p off v).respUse = s.respUse := (State.wr_respUse _ _ _).trans (State.wr_respUse s _ _)
@[simp] theorem State.wr64_nextXid (s : State) (p : Page) (off : Nat) (v : BitVec 64) : (s.wr64 p off v).nextXid = s.nextXid := (State.wr_nextXid _ _ _).trans (State.wr_nextXid s _ _)
@[simp] theorem State.wr64_nextId (s : State) (p : Page) (off : Nat) (v : BitVec 64) : (s.wr64 p off v).nextId = s.nextId := (State.wr_nextId _ _ _).trans (State.wr_nextId s _ _)
@[simp] theorem State.wr64_parts (s : State) (p : Page) (off : Nat) (v : BitVec 64) : (s.wr64 p off v).parts = s.parts := (State.wr_parts _ _ _).trans (State.wr_parts s _ _)
@[simp] theorem State.wr64_wkeys (s : State) (p : Page) (off : Nat) (v : BitVec 64) : (s.wr64 p off v).wkeys = s.wkeys := (State.wr_wkeys _ _ _).trans (State.wr_wkeys s _ _)
@[simp] theorem State.wr64_staging (s : State) (p : Page) (off : Nat) (v : BitVec 64) : (s.wr64 p off v).staging = s.staging := (State.wr_staging _ _ _).trans (State.wr_staging s _ _)
@[simp] theorem State.wr64_fltLog (s : State) (p : Page) (off : Nat) (v : BitVec 64) : (s.wr64 p off v).fltLog = s.fltLog := (State.wr_fltLog _ _ _).trans (State.wr_fltLog s _ _)
@[simp] theorem State.wr64_recoveryTimes (s : State) (p : Page) (off : Nat) (v : BitVec 64) : (s.wr64 p off v).recoveryTimes = s.recoveryTimes := (State.wr_recoveryTimes _ _ _).trans (State.wr_recoveryTimes s _ _)
@[simp] theorem State.wr64_quietPages (s : State) (p : Page) (off : Nat) (v : BitVec 64) : (s.wr64 p off v).quietPages = s.quietPages := (State.wr_quietPages _ _ _).trans (State.wr_quietPages s _ _)
@[simp] theorem State.wr64_quietParts (s : State) (p : Page) (off : Nat) (v : BitVec 64) : (s.wr64 p off v).quietParts = s.quietParts := (State.wr_quietParts _ _ _).trans (State.wr_quietParts s _ _)
@[simp] theorem State.wr64_fencedDies (s : State) (p : Page) (off : Nat) (v : BitVec 64) : (s.wr64 p off v).fencedDies = s.fencedDies := (State.wr_fencedDies _ _ _).trans (State.wr_fencedDies s _ _)
@[simp] theorem State.wr64_lostRails (s : State) (p : Page) (off : Nat) (v : BitVec 64) : (s.wr64 p off v).lostRails = s.lostRails := (State.wr_lostRails _ _ _).trans (State.wr_lostRails s _ _)
@[simp] theorem State.wr64_thermtrip (s : State) (p : Page) (off : Nat) (v : BitVec 64) : (s.wr64 p off v).thermtrip = s.thermtrip := (State.wr_thermtrip _ _ _).trans (State.wr_thermtrip s _ _)
@[simp] theorem State.wr64_chans (s : State) (p : Page) (off : Nat) (v : BitVec 64) : (s.wr64 p off v).chans = s.chans := (State.wr_chans _ _ _).trans (State.wr_chans s _ _)
@[simp] theorem State.wr64_fns (s : State) (p : Page) (off : Nat) (v : BitVec 64) : (s.wr64 p off v).fns = s.fns := (State.wr_fns _ _ _).trans (State.wr_fns s _ _)
@[simp] theorem State.wr64_bar2 (s : State) (p : Page) (off : Nat) (v : BitVec 64) : (s.wr64 p off v).bar2 = s.bar2 := (State.wr_bar2 _ _ _).trans (State.wr_bar2 s _ _)
@[simp] theorem State.wr64_held (s : State) (p : Page) (off : Nat) (v : BitVec 64) : (s.wr64 p off v).held = s.held := (State.wr_held _ _ _).trans (State.wr_held s _ _)
@[simp] theorem State.wr64_relayOut (s : State) (p : Page) (off : Nat) (v : BitVec 64) : (s.wr64 p off v).relayOut = s.relayOut := (State.wr_relayOut _ _ _).trans (State.wr_relayOut s _ _)
@[simp] theorem State.wr64_relayCtr (s : State) (p : Page) (off : Nat) (v : BitVec 64) : (s.wr64 p off v).relayCtr = s.relayCtr := (State.wr_relayCtr _ _ _).trans (State.wr_relayCtr s _ _)
@[simp] theorem State.wr64_boardSess (s : State) (p : Page) (off : Nat) (v : BitVec 64) : (s.wr64 p off v).boardSess = s.boardSess := (State.wr_boardSess _ _ _).trans (State.wr_boardSess s _ _)
@[simp] theorem State.wr64_i3c (s : State) (p : Page) (off : Nat) (v : BitVec 64) : (s.wr64 p off v).i3c = s.i3c := (State.wr_i3c _ _ _).trans (State.wr_i3c s _ _)
@[simp] theorem State.wr64_eid (s : State) (p : Page) (off : Nat) (v : BitVec 64) : (s.wr64 p off v).eid = s.eid := (State.wr_eid _ _ _).trans (State.wr_eid s _ _)
@[simp] theorem State.wr64_sensors (s : State) (p : Page) (off : Nat) (v : BitVec 64) : (s.wr64 p off v).sensors = s.sensors := (State.wr_sensors _ _ _).trans (State.wr_sensors s _ _)
@[simp] theorem State.wr64_agents (s : State) (p : Page) (off : Nat) (v : BitVec 64) : (s.wr64 p off v).agents = s.agents := (State.wr_agents _ _ _).trans (State.wr_agents s _ _)
@[simp] theorem State.wr64_ports (s : State) (p : Page) (off : Nat) (v : BitVec 64) : (s.wr64 p off v).ports = s.ports := (State.wr_ports _ _ _).trans (State.wr_ports s _ _)
@[simp] theorem State.wr64_transits (s : State) (p : Page) (off : Nat) (v : BitVec 64) : (s.wr64 p off v).transits = s.transits := (State.wr_transits _ _ _).trans (State.wr_transits s _ _)
@[simp] theorem State.wr64_d2d (s : State) (p : Page) (off : Nat) (v : BitVec 64) : (s.wr64 p off v).d2d = s.d2d := (State.wr_d2d _ _ _).trans (State.wr_d2d s _ _)
@[simp] theorem State.wr64_reserved (s : State) (p : Page) (off : Nat) (v : BitVec 64) : (s.wr64 p off v).reserved = s.reserved := (State.wr_reserved _ _ _).trans (State.wr_reserved s _ _)
@[simp] theorem State.wr64_tables (s : State) (p : Page) (off : Nat) (v : BitVec 64) : (s.wr64 p off v).tables = s.tables := (State.wr_tables _ _ _).trans (State.wr_tables s _ _)
@[simp] theorem State.wr64_d2dRuns (s : State) (p : Page) (off : Nat) (v : BitVec 64) : (s.wr64 p off v).d2dRuns = s.d2dRuns := (State.wr_d2dRuns _ _ _).trans (State.wr_d2dRuns s _ _)
@[simp] theorem State.wr64_xfers (s : State) (p : Page) (off : Nat) (v : BitVec 64) : (s.wr64 p off v).xfers = s.xfers := (State.wr_xfers _ _ _).trans (State.wr_xfers s _ _)
@[simp] theorem State.wr64_hotEngines (s : State) (p : Page) (off : Nat) (v : BitVec 64) : (s.wr64 p off v).hotEngines = s.hotEngines := (State.wr_hotEngines _ _ _).trans (State.wr_hotEngines s _ _)
@[simp] theorem State.wr64_boot (s : State) (p : Page) (off : Nat) (v : BitVec 64) : (s.wr64 p off v).boot = s.boot := (State.wr_boot _ _ _).trans (State.wr_boot s _ _)
@[simp] theorem State.wr64_plan (s : State) (p : Page) (off : Nat) (v : BitVec 64) : (s.wr64 p off v).plan = s.plan := (State.wr_plan _ _ _).trans (State.wr_plan s _ _)
@[simp] theorem State.wr64_bootPlan (s : State) (p : Page) (off : Nat) (v : BitVec 64) : (s.wr64 p off v).bootPlan = s.bootPlan := (State.wr_bootPlan _ _ _).trans (State.wr_bootPlan s _ _)
@[simp] theorem State.wr64_maxPlanSeq (s : State) (p : Page) (off : Nat) (v : BitVec 64) : (s.wr64 p off v).maxPlanSeq = s.maxPlanSeq := (State.wr_maxPlanSeq _ _ _).trans (State.wr_maxPlanSeq s _ _)
@[simp] theorem State.wr64_fwDigest (s : State) (p : Page) (off : Nat) (v : BitVec 64) : (s.wr64 p off v).fwDigest = s.fwDigest := (State.wr_fwDigest _ _ _).trans (State.wr_fwDigest s _ _)
@[simp] theorem State.wr64_fwComps (s : State) (p : Page) (off : Nat) (v : BitVec 64) : (s.wr64 p off v).fwComps = s.fwComps := (State.wr_fwComps _ _ _).trans (State.wr_fwComps s _ _)
@[simp] theorem State.wr64_flash (s : State) (p : Page) (off : Nat) (v : BitVec 64) : (s.wr64 p off v).flash = s.flash := (State.wr_flash _ _ _).trans (State.wr_flash s _ _)
@[simp] theorem State.wr64_fwStaged (s : State) (p : Page) (off : Nat) (v : BitVec 64) : (s.wr64 p off v).fwStaged = s.fwStaged := (State.wr_fwStaged _ _ _).trans (State.wr_fwStaged s _ _)
@[simp] theorem State.wr64_codeHeld (s : State) (p : Page) (off : Nat) (v : BitVec 64) : (s.wr64 p off v).codeHeld = s.codeHeld := (State.wr_codeHeld _ _ _).trans (State.wr_codeHeld s _ _)
@[simp] theorem State.wr64_codeStaged (s : State) (p : Page) (off : Nat) (v : BitVec 64) : (s.wr64 p off v).codeStaged = s.codeStaged := (State.wr_codeStaged _ _ _).trans (State.wr_codeStaged s _ _)
@[simp] theorem State.wr64_rcv (s : State) (p : Page) (off : Nat) (v : BitVec 64) : (s.wr64 p off v).rcv = s.rcv := (State.wr_rcv _ _ _).trans (State.wr_rcv s _ _)
@[simp] theorem State.wr64_dist (s : State) (p : Page) (off : Nat) (v : BitVec 64) : (s.wr64 p off v).dist = s.dist := (State.wr_dist _ _ _).trans (State.wr_dist s _ _)
@[simp] theorem State.wr64_mcReset (s : State) (p : Page) (off : Nat) (v : BitVec 64) : (s.wr64 p off v).mcReset = s.mcReset := (State.wr_mcReset _ _ _).trans (State.wr_mcReset s _ _)
@[simp] theorem State.wr64_dbgCounters (s : State) (p : Page) (off : Nat) (v : BitVec 64) : (s.wr64 p off v).dbgCounters = s.dbgCounters := (State.wr_dbgCounters _ _ _).trans (State.wr_dbgCounters s _ _)
@[simp] theorem State.wr64_unlocks (s : State) (p : Page) (off : Nat) (v : BitVec 64) : (s.wr64 p off v).unlocks = s.unlocks := (State.wr_unlocks _ _ _).trans (State.wr_unlocks s _ _)
@[simp] theorem State.wr64_power (s : State) (p : Page) (off : Nat) (v : BitVec 64) : (s.wr64 p off v).power = s.power := (State.wr_power _ _ _).trans (State.wr_power s _ _)
@[simp] theorem State.wr64_pkgPower (s : State) (p : Page) (off : Nat) (v : BitVec 64) : (s.wr64 p off v).pkgPower = s.pkgPower := (State.wr_pkgPower _ _ _).trans (State.wr_pkgPower s _ _)
@[simp] theorem State.wr64_ridge (s : State) (p : Page) (off : Nat) (v : BitVec 64) : (s.wr64 p off v).ridge = s.ridge := (State.wr_ridge _ _ _).trans (State.wr_ridge s _ _)
@[simp] theorem State.wr64_smt (s : State) (p : Page) (off : Nat) (v : BitVec 64) : (s.wr64 p off v).smt = s.smt := (State.wr_smt _ _ _).trans (State.wr_smt s _ _)
@[simp] theorem State.wr64_pairSess (s : State) (p : Page) (off : Nat) (v : BitVec 64) : (s.wr64 p off v).pairSess = s.pairSess := (State.wr_pairSess _ _ _).trans (State.wr_pairSess s _ _)
@[simp] theorem State.wr64_heldTerm (s : State) (p : Page) (off : Nat) (v : BitVec 64) : (s.wr64 p off v).heldTerm = s.heldTerm := (State.wr_heldTerm _ _ _).trans (State.wr_heldTerm s _ _)
@[simp] theorem State.wr64_heldBy (s : State) (p : Page) (off : Nat) (v : BitVec 64) : (s.wr64 p off v).heldBy = s.heldBy := (State.wr_heldBy _ _ _).trans (State.wr_heldBy s _ _)
@[simp] theorem State.wr64_now (s : State) (p : Page) (off : Nat) (v : BitVec 64) (zd : Die) : (s.wr64 p off v).now zd = s.now zd := by simp [State.now]
@[simp] theorem State.wr64_array (s : State) (p : Page) (off : Nat) (v : BitVec 64) (zc : CDie) : (s.wr64 p off v).array zc = s.array zc := by simp [State.array]
@[simp] theorem State.wr64_queue (s : State) (p : Page) (off : Nat) (v : BitVec 64) (zr : QRef) : (s.wr64 p off v).queue zr = s.queue zr := by simp [State.queue]
@[simp] theorem State.wr64_partQ (s : State) (p : Page) (off : Nat) (v : BitVec 64) (zp : Part) : (s.wr64 p off v).part? zp = s.part? zp := by simp [State.part?]
@[simp] theorem State.wr64_isConf (s : State) (p : Page) (off : Nat) (v : BitVec 64) (zp : Part) : (s.wr64 p off v).isConf zp = s.isConf zp := by simp [State.isConf]
@[simp] theorem State.wr64_chan (s : State) (p : Page) (off : Nat) (v : BitVec 64) (zk : Nat) : (s.wr64 p off v).chan zk = s.chan zk := by simp [State.chan]
@[simp] theorem State.wr64_agent (s : State) (p : Page) (off : Nat) (v : BitVec 64) (zk : PDie) : (s.wr64 p off v).agent zk = s.agent zk := by simp [State.agent]
@[simp] theorem State.wr64_port (s : State) (p : Page) (off : Nat) (v : BitVec 64) (zq : Port) : (s.wr64 p off v).port zq = s.port zq := by simp [State.port]
@[simp] theorem State.wr64_core (s : State) (p : Page) (off : Nat) (v : BitVec 64) (zc : CDie) (zk : Core) : (s.wr64 p off v).core zc zk = s.core zc zk := by simp [State.core]
@[simp] theorem State.wr64_cairn (s : State) (p : Page) (off : Nat) (v : BitVec 64) (zc : CDie) (zn : Nat) : (s.wr64 p off v).cairn zc zn = s.cairn zc zn := by simp [State.cairn]
@[simp] theorem State.wr64_fn (s : State) (p : Page) (off : Nat) (v : BitVec 64) (zf : Fn) : (s.wr64 p off v).fn zf = s.fn zf := by simp [State.fn]
@[simp] theorem State.wr64_wkey (s : State) (p : Page) (off : Nat) (v : BitVec 64) (zp : Part) (zprev : Bool) : (s.wr64 p off v).wkey zp zprev = s.wkey zp zprev := by simp [State.wkey]
@[simp] theorem State.wr64_memByte (s : State) (p : Page) (off : Nat) (v : BitVec 64) (zc : CDie) (zoff : Nat) : (s.wr64 p off v).memByte zc zoff = s.memByte zc zoff := by simp [State.memByte]
@[simp] theorem State.wr64_memGet (s : State) (p : Page) (off : Nat) (v : BitVec 64) (zc : CDie) (zoff : Nat) (zn : Nat) : (s.wr64 p off v).memGet zc zoff zn = s.memGet zc zoff zn := by simp [State.memGet]
@[simp] theorem State.wr64_tarnByte (s : State) (p : Page) (off : Nat) (v : BitVec 64) (zc : CDie) (zoff : Nat) : (s.wr64 p off v).tarnByte zc zoff = s.tarnByte zc zoff := by simp [State.tarnByte]
@[simp] theorem State.wr64_tarnGet (s : State) (p : Page) (off : Nat) (v : BitVec 64) (zc : CDie) (zoff : Nat) (zn : Nat) : (s.wr64 p off v).tarnGet zc zoff zn = s.tarnGet zc zoff zn := by simp [State.tarnGet]
@[simp] theorem State.wr64_nparts (s : State) (p : Page) (off : Nat) (v : BitVec 64) : (s.wr64 p off v).nparts = s.nparts := by simp [State.nparts]
@[simp] theorem State.wr64_memWf (s : State) (p : Page) (off : Nat) (v : BitVec 64) : (s.wr64 p off v).memWf = s.memWf := by simp [State.memWf]
@[simp] theorem State.wr64_quiet (s : State) (p : Page) (off : Nat) (v : BitVec 64) : (s.wr64 p off v).quiet = s.quiet := by simp [State.quiet]
@[simp] theorem State.wr64_settled (s : State) (p : Page) (off : Nat) (v : BitVec 64) : (s.wr64 p off v).settled = s.settled := by simp [State.settled]

/-! `emit` writes out alone. -/

@[simp] theorem State.emit_pending (s : State) (o : Output) : (s.emit o).pending = s.pending := by cases s; rfl
@[simp] theorem State.emit_freeCtr (s : State) (o : Output) : (s.emit o).freeCtr = s.freeCtr := by cases s; rfl
@[simp] theorem State.emit_mgmtOn (s : State) (o : Output) : (s.emit o).mgmtOn = s.mgmtOn := by cases s; rfl
@[simp] theorem State.emit_fuses (s : State) (o : Output) : (s.emit o).fuses = s.fuses := by cases s; rfl
@[simp] theorem State.emit_straps (s : State) (o : Output) : (s.emit o).straps = s.straps := by cases s; rfl
@[simp] theorem State.emit_pos (s : State) (o : Output) : (s.emit o).pos = s.pos := by cases s; rfl
@[simp] theorem State.emit_regs (s : State) (o : Output) : (s.emit o).regs = s.regs := by cases s; rfl
@[simp] theorem State.emit_latches (s : State) (o : Output) : (s.emit o).latches = s.latches := by cases s; rfl
@[simp] theorem State.emit_gtime (s : State) (o : Output) : (s.emit o).gtime = s.gtime := by cases s; rfl
@[simp] theorem State.emit_fclk (s : State) (o : Output) : (s.emit o).fclk = s.fclk := by cases s; rfl
@[simp] theorem State.emit_mem (s : State) (o : Output) : (s.emit o).mem = s.mem := by cases s; rfl
@[simp] theorem State.emit_tarn (s : State) (o : Output) : (s.emit o).tarn = s.tarn := by cases s; rfl
@[simp] theorem State.emit_rowErrs (s : State) (o : Output) : (s.emit o).rowErrs = s.rowErrs := by cases s; rfl
@[simp] theorem State.emit_remaps (s : State) (o : Output) : (s.emit o).remaps = s.remaps := by cases s; rfl
@[simp] theorem State.emit_savedRemaps (s : State) (o : Output) : (s.emit o).savedRemaps = s.savedRemaps := by cases s; rfl
@[simp] theorem State.emit_repairLog (s : State) (o : Output) : (s.emit o).repairLog = s.repairLog := by cases s; rfl
@[simp] theorem State.emit_badSectors (s : State) (o : Output) : (s.emit o).badSectors = s.badSectors := by cases s; rfl
@[simp] theorem State.emit_memFenced (s : State) (o : Output) : (s.emit o).memFenced = s.memFenced := by cases s; rfl
@[simp] theorem State.emit_mappedGran (s : State) (o : Output) : (s.emit o).mappedGran = s.mappedGran := by cases s; rfl
@[simp] theorem State.emit_zeroOrders (s : State) (o : Output) : (s.emit o).zeroOrders = s.zeroOrders := by cases s; rfl
@[simp] theorem State.emit_arrays (s : State) (o : Output) : (s.emit o).arrays = s.arrays := by cases s; rfl
@[simp] theorem State.emit_repairLines (s : State) (o : Output) : (s.emit o).repairLines = s.repairLines := by cases s; rfl
@[simp] theorem State.emit_queues (s : State) (o : Output) : (s.emit o).queues = s.queues := by cases s; rfl
@[simp] theorem State.emit_cairns (s : State) (o : Output) : (s.emit o).cairns = s.cairns := by cases s; rfl
@[simp] theorem State.emit_tracks (s : State) (o : Output) : (s.emit o).tracks = s.tracks := by cases s; rfl
@[simp] theorem State.emit_cores (s : State) (o : Output) : (s.emit o).cores = s.cores := by cases s; rfl
@[simp] theorem State.emit_dispatches (s : State) (o : Output) : (s.emit o).dispatches = s.dispatches := by cases s; rfl
@[simp] theorem State.emit_dmaRuns (s : State) (o : Output) : (s.emit o).dmaRuns = s.dmaRuns := by cases s; rfl
@[simp] theorem State.emit_requests (s : State) (o : Output) : (s.emit o).requests = s.requests := by cases s; rfl
@[simp] theorem State.emit_windows (s : State) (o : Output) : (s.emit o).windows = s.windows := by cases s; rfl
@[simp] theorem State.emit_respUse (s : State) (o : Output) : (s.emit o).respUse = s.respUse := by cases s; rfl
@[simp] theorem State.emit_nextXid (s : State) (o : Output) : (s.emit o).nextXid = s.nextXid := by cases s; rfl
@[simp] theorem State.emit_nextId (s : State) (o : Output) : (s.emit o).nextId = s.nextId := by cases s; rfl
@[simp] theorem State.emit_parts (s : State) (o : Output) : (s.emit o).parts = s.parts := by cases s; rfl
@[simp] theorem State.emit_wkeys (s : State) (o : Output) : (s.emit o).wkeys = s.wkeys := by cases s; rfl
@[simp] theorem State.emit_staging (s : State) (o : Output) : (s.emit o).staging = s.staging := by cases s; rfl
@[simp] theorem State.emit_fltLog (s : State) (o : Output) : (s.emit o).fltLog = s.fltLog := by cases s; rfl
@[simp] theorem State.emit_recoveryTimes (s : State) (o : Output) : (s.emit o).recoveryTimes = s.recoveryTimes := by cases s; rfl
@[simp] theorem State.emit_quietPages (s : State) (o : Output) : (s.emit o).quietPages = s.quietPages := by cases s; rfl
@[simp] theorem State.emit_quietParts (s : State) (o : Output) : (s.emit o).quietParts = s.quietParts := by cases s; rfl
@[simp] theorem State.emit_fencedDies (s : State) (o : Output) : (s.emit o).fencedDies = s.fencedDies := by cases s; rfl
@[simp] theorem State.emit_lostRails (s : State) (o : Output) : (s.emit o).lostRails = s.lostRails := by cases s; rfl
@[simp] theorem State.emit_thermtrip (s : State) (o : Output) : (s.emit o).thermtrip = s.thermtrip := by cases s; rfl
@[simp] theorem State.emit_chans (s : State) (o : Output) : (s.emit o).chans = s.chans := by cases s; rfl
@[simp] theorem State.emit_fns (s : State) (o : Output) : (s.emit o).fns = s.fns := by cases s; rfl
@[simp] theorem State.emit_bar2 (s : State) (o : Output) : (s.emit o).bar2 = s.bar2 := by cases s; rfl
@[simp] theorem State.emit_held (s : State) (o : Output) : (s.emit o).held = s.held := by cases s; rfl
@[simp] theorem State.emit_relayOut (s : State) (o : Output) : (s.emit o).relayOut = s.relayOut := by cases s; rfl
@[simp] theorem State.emit_relayCtr (s : State) (o : Output) : (s.emit o).relayCtr = s.relayCtr := by cases s; rfl
@[simp] theorem State.emit_boardSess (s : State) (o : Output) : (s.emit o).boardSess = s.boardSess := by cases s; rfl
@[simp] theorem State.emit_i3c (s : State) (o : Output) : (s.emit o).i3c = s.i3c := by cases s; rfl
@[simp] theorem State.emit_eid (s : State) (o : Output) : (s.emit o).eid = s.eid := by cases s; rfl
@[simp] theorem State.emit_sensors (s : State) (o : Output) : (s.emit o).sensors = s.sensors := by cases s; rfl
@[simp] theorem State.emit_agents (s : State) (o : Output) : (s.emit o).agents = s.agents := by cases s; rfl
@[simp] theorem State.emit_ports (s : State) (o : Output) : (s.emit o).ports = s.ports := by cases s; rfl
@[simp] theorem State.emit_transits (s : State) (o : Output) : (s.emit o).transits = s.transits := by cases s; rfl
@[simp] theorem State.emit_d2d (s : State) (o : Output) : (s.emit o).d2d = s.d2d := by cases s; rfl
@[simp] theorem State.emit_reserved (s : State) (o : Output) : (s.emit o).reserved = s.reserved := by cases s; rfl
@[simp] theorem State.emit_tables (s : State) (o : Output) : (s.emit o).tables = s.tables := by cases s; rfl
@[simp] theorem State.emit_d2dRuns (s : State) (o : Output) : (s.emit o).d2dRuns = s.d2dRuns := by cases s; rfl
@[simp] theorem State.emit_xfers (s : State) (o : Output) : (s.emit o).xfers = s.xfers := by cases s; rfl
@[simp] theorem State.emit_hotEngines (s : State) (o : Output) : (s.emit o).hotEngines = s.hotEngines := by cases s; rfl
@[simp] theorem State.emit_boot (s : State) (o : Output) : (s.emit o).boot = s.boot := by cases s; rfl
@[simp] theorem State.emit_plan (s : State) (o : Output) : (s.emit o).plan = s.plan := by cases s; rfl
@[simp] theorem State.emit_bootPlan (s : State) (o : Output) : (s.emit o).bootPlan = s.bootPlan := by cases s; rfl
@[simp] theorem State.emit_maxPlanSeq (s : State) (o : Output) : (s.emit o).maxPlanSeq = s.maxPlanSeq := by cases s; rfl
@[simp] theorem State.emit_fwDigest (s : State) (o : Output) : (s.emit o).fwDigest = s.fwDigest := by cases s; rfl
@[simp] theorem State.emit_fwComps (s : State) (o : Output) : (s.emit o).fwComps = s.fwComps := by cases s; rfl
@[simp] theorem State.emit_flash (s : State) (o : Output) : (s.emit o).flash = s.flash := by cases s; rfl
@[simp] theorem State.emit_fwStaged (s : State) (o : Output) : (s.emit o).fwStaged = s.fwStaged := by cases s; rfl
@[simp] theorem State.emit_codeHeld (s : State) (o : Output) : (s.emit o).codeHeld = s.codeHeld := by cases s; rfl
@[simp] theorem State.emit_codeStaged (s : State) (o : Output) : (s.emit o).codeStaged = s.codeStaged := by cases s; rfl
@[simp] theorem State.emit_rcv (s : State) (o : Output) : (s.emit o).rcv = s.rcv := by cases s; rfl
@[simp] theorem State.emit_dist (s : State) (o : Output) : (s.emit o).dist = s.dist := by cases s; rfl
@[simp] theorem State.emit_mcReset (s : State) (o : Output) : (s.emit o).mcReset = s.mcReset := by cases s; rfl
@[simp] theorem State.emit_dbgCounters (s : State) (o : Output) : (s.emit o).dbgCounters = s.dbgCounters := by cases s; rfl
@[simp] theorem State.emit_unlocks (s : State) (o : Output) : (s.emit o).unlocks = s.unlocks := by cases s; rfl
@[simp] theorem State.emit_power (s : State) (o : Output) : (s.emit o).power = s.power := by cases s; rfl
@[simp] theorem State.emit_pkgPower (s : State) (o : Output) : (s.emit o).pkgPower = s.pkgPower := by cases s; rfl
@[simp] theorem State.emit_ridge (s : State) (o : Output) : (s.emit o).ridge = s.ridge := by cases s; rfl
@[simp] theorem State.emit_smt (s : State) (o : Output) : (s.emit o).smt = s.smt := by cases s; rfl
@[simp] theorem State.emit_pairSess (s : State) (o : Output) : (s.emit o).pairSess = s.pairSess := by cases s; rfl
@[simp] theorem State.emit_heldTerm (s : State) (o : Output) : (s.emit o).heldTerm = s.heldTerm := by cases s; rfl
@[simp] theorem State.emit_heldBy (s : State) (o : Output) : (s.emit o).heldBy = s.heldBy := by cases s; rfl
@[simp] theorem State.emit_rd (s : State) (o : Output) (za : Nat) : (s.emit o).rd za = s.rd za := by simp [State.rd]
@[simp] theorem State.emit_fld (s : State) (o : Output) (zp : Page) (zf : Field) : (s.emit o).fld zp zf = s.fld zp zf := by simp [State.fld]
@[simp] theorem State.emit_flag (s : State) (o : Output) (zp : Page) (zf : Field) : (s.emit o).flag zp zf = s.flag zp zf := by simp [State.flag]
@[simp] theorem State.emit_counter (s : State) (o : Output) (zp : Page) (zoff : Nat) : (s.emit o).counter zp zoff = s.counter zp zoff := by unfold State.counter; rw [State.emit_rd, State.emit_rd]
@[simp] theorem State.emit_counterOvf (s : State) (o : Output) (zp : Page) (zoff : Nat) : (s.emit o).counterOvf zp zoff = s.counterOvf zp zoff := by simp [State.counterOvf]
@[simp] theorem State.emit_inReset (s : State) (o : Output) (zd : Die) : (s.emit o).inReset zd = s.inReset zd := by simp [State.inReset]
@[simp] theorem State.emit_partState (s : State) (o : Output) (zp : Part) : (s.emit o).partState zp = s.partState zp := by simp [State.partState]
@[simp] theorem State.emit_partFenced (s : State) (o : Output) (zp : Part) : (s.emit o).partFenced zp = s.partFenced zp := by simp [State.partFenced]
@[simp] theorem State.emit_lnk (s : State) (o : Output) (zq : Port) : (s.emit o).lnk zq = s.lnk zq := by simp [State.lnk]
@[simp] theorem State.emit_memRange (s : State) (o : Output) (zc : CDie) (zp : Part) (zi : Nat) : (s.emit o).memRange zc zp zi = s.memRange zc zp zi := by simp [State.memRange]
@[simp] theorem State.emit_tarnAlloc (s : State) (o : Output) (zc : CDie) (zp : Part) : (s.emit o).tarnAlloc zc zp = s.tarnAlloc zc zp := by simp [State.tarnAlloc]
@[simp] theorem State.emit_cairnRange (s : State) (o : Output) (zc : CDie) (zp : Part) : (s.emit o).cairnRange zc zp = s.cairnRange zc zp := by simp [State.cairnRange]
@[simp] theorem State.emit_winOpen (s : State) (o : Output) (zp : Part) : (s.emit o).winOpen zp = s.winOpen zp := by simp [State.winOpen]
@[simp] theorem State.emit_vfOn (s : State) (o : Output) (zp : Part) : (s.emit o).vfOn zp = s.vfOn zp := by simp [State.vfOn]
@[simp] theorem State.emit_msfState (s : State) (o : Output) (zc : CDie) : (s.emit o).msfState zc = s.msfState zc := by simp [State.msfState]
@[simp] theorem State.emit_stepK (s : State) (o : Output) (zc : CDie) : (s.emit o).stepK zc = s.stepK zc := by simp [State.stepK]
@[simp] theorem State.emit_injection (s : State) (o : Output) (zp : Page) (zchecker : Nat) : (s.emit o).injection zp zchecker = s.injection zp zchecker := by simp [State.injection]
@[simp] theorem State.emit_disc (s : State) (o : Output) : (s.emit o).disc = s.disc := by simp [State.disc]
@[simp] theorem State.emit_pairSt (s : State) (o : Output) : (s.emit o).pairSt = s.pairSt := by simp [State.pairSt]
@[simp] theorem State.emit_now (s : State) (o : Output) (zd : Die) : (s.emit o).now zd = s.now zd := by simp [State.now]
@[simp] theorem State.emit_array (s : State) (o : Output) (zc : CDie) : (s.emit o).array zc = s.array zc := by simp [State.array]
@[simp] theorem State.emit_queue (s : State) (o : Output) (zr : QRef) : (s.emit o).queue zr = s.queue zr := by simp [State.queue]
@[simp] theorem State.emit_partQ (s : State) (o : Output) (zp : Part) : (s.emit o).part? zp = s.part? zp := by simp [State.part?]
@[simp] theorem State.emit_isConf (s : State) (o : Output) (zp : Part) : (s.emit o).isConf zp = s.isConf zp := by simp [State.isConf]
@[simp] theorem State.emit_chan (s : State) (o : Output) (zk : Nat) : (s.emit o).chan zk = s.chan zk := by simp [State.chan]
@[simp] theorem State.emit_agent (s : State) (o : Output) (zk : PDie) : (s.emit o).agent zk = s.agent zk := by simp [State.agent]
@[simp] theorem State.emit_port (s : State) (o : Output) (zq : Port) : (s.emit o).port zq = s.port zq := by simp [State.port]
@[simp] theorem State.emit_core (s : State) (o : Output) (zc : CDie) (zk : Core) : (s.emit o).core zc zk = s.core zc zk := by simp [State.core]
@[simp] theorem State.emit_cairn (s : State) (o : Output) (zc : CDie) (zn : Nat) : (s.emit o).cairn zc zn = s.cairn zc zn := by simp [State.cairn]
@[simp] theorem State.emit_fn (s : State) (o : Output) (zf : Fn) : (s.emit o).fn zf = s.fn zf := by simp [State.fn]
@[simp] theorem State.emit_wkey (s : State) (o : Output) (zp : Part) (zprev : Bool) : (s.emit o).wkey zp zprev = s.wkey zp zprev := by simp [State.wkey]
@[simp] theorem State.emit_memByte (s : State) (o : Output) (zc : CDie) (zoff : Nat) : (s.emit o).memByte zc zoff = s.memByte zc zoff := by simp [State.memByte]
@[simp] theorem State.emit_memGet (s : State) (o : Output) (zc : CDie) (zoff : Nat) (zn : Nat) : (s.emit o).memGet zc zoff zn = s.memGet zc zoff zn := by simp [State.memGet]
@[simp] theorem State.emit_tarnByte (s : State) (o : Output) (zc : CDie) (zoff : Nat) : (s.emit o).tarnByte zc zoff = s.tarnByte zc zoff := by simp [State.tarnByte]
@[simp] theorem State.emit_tarnGet (s : State) (o : Output) (zc : CDie) (zoff : Nat) (zn : Nat) : (s.emit o).tarnGet zc zoff zn = s.tarnGet zc zoff zn := by simp [State.tarnGet]
@[simp] theorem State.emit_dieDown (s : State) (o : Output) (zc : CDie) : (s.emit o).dieDown zc = s.dieDown zc := by simp [State.dieDown]
@[simp] theorem State.emit_nparts (s : State) (o : Output) : (s.emit o).nparts = s.nparts := by simp [State.nparts]
@[simp] theorem State.emit_memWf (s : State) (o : Output) : (s.emit o).memWf = s.memWf := by simp [State.memWf]
@[simp] theorem State.emit_quiet (s : State) (o : Output) : (s.emit o).quiet = s.quiet := by simp [State.quiet]
@[simp] theorem State.emit_settled (s : State) (o : Output) : (s.emit o).settled = s.settled := by simp [State.settled]

/-! `setMsf` writes regs alone. -/

@[simp] theorem State.setMsf_pending (s : State) (c : CDie) (v : Nat) : (s.setMsf c v).pending = s.pending := (State.setFld_pending _ _ _ _).trans (State.setFld_pending s _ _ _)
@[simp] theorem State.setMsf_out (s : State) (c : CDie) (v : Nat) : (s.setMsf c v).out = s.out := (State.setFld_out _ _ _ _).trans (State.setFld_out s _ _ _)
@[simp] theorem State.setMsf_freeCtr (s : State) (c : CDie) (v : Nat) : (s.setMsf c v).freeCtr = s.freeCtr := (State.setFld_freeCtr _ _ _ _).trans (State.setFld_freeCtr s _ _ _)
@[simp] theorem State.setMsf_mgmtOn (s : State) (c : CDie) (v : Nat) : (s.setMsf c v).mgmtOn = s.mgmtOn := (State.setFld_mgmtOn _ _ _ _).trans (State.setFld_mgmtOn s _ _ _)
@[simp] theorem State.setMsf_fuses (s : State) (c : CDie) (v : Nat) : (s.setMsf c v).fuses = s.fuses := (State.setFld_fuses _ _ _ _).trans (State.setFld_fuses s _ _ _)
@[simp] theorem State.setMsf_straps (s : State) (c : CDie) (v : Nat) : (s.setMsf c v).straps = s.straps := (State.setFld_straps _ _ _ _).trans (State.setFld_straps s _ _ _)
@[simp] theorem State.setMsf_pos (s : State) (c : CDie) (v : Nat) : (s.setMsf c v).pos = s.pos := (State.setFld_pos _ _ _ _).trans (State.setFld_pos s _ _ _)
@[simp] theorem State.setMsf_latches (s : State) (c : CDie) (v : Nat) : (s.setMsf c v).latches = s.latches := (State.setFld_latches _ _ _ _).trans (State.setFld_latches s _ _ _)
@[simp] theorem State.setMsf_gtime (s : State) (c : CDie) (v : Nat) : (s.setMsf c v).gtime = s.gtime := (State.setFld_gtime _ _ _ _).trans (State.setFld_gtime s _ _ _)
@[simp] theorem State.setMsf_fclk (s : State) (c : CDie) (v : Nat) : (s.setMsf c v).fclk = s.fclk := (State.setFld_fclk _ _ _ _).trans (State.setFld_fclk s _ _ _)
@[simp] theorem State.setMsf_mem (s : State) (c : CDie) (v : Nat) : (s.setMsf c v).mem = s.mem := (State.setFld_mem _ _ _ _).trans (State.setFld_mem s _ _ _)
@[simp] theorem State.setMsf_tarn (s : State) (c : CDie) (v : Nat) : (s.setMsf c v).tarn = s.tarn := (State.setFld_tarn _ _ _ _).trans (State.setFld_tarn s _ _ _)
@[simp] theorem State.setMsf_rowErrs (s : State) (c : CDie) (v : Nat) : (s.setMsf c v).rowErrs = s.rowErrs := (State.setFld_rowErrs _ _ _ _).trans (State.setFld_rowErrs s _ _ _)
@[simp] theorem State.setMsf_remaps (s : State) (c : CDie) (v : Nat) : (s.setMsf c v).remaps = s.remaps := (State.setFld_remaps _ _ _ _).trans (State.setFld_remaps s _ _ _)
@[simp] theorem State.setMsf_savedRemaps (s : State) (c : CDie) (v : Nat) : (s.setMsf c v).savedRemaps = s.savedRemaps := (State.setFld_savedRemaps _ _ _ _).trans (State.setFld_savedRemaps s _ _ _)
@[simp] theorem State.setMsf_repairLog (s : State) (c : CDie) (v : Nat) : (s.setMsf c v).repairLog = s.repairLog := (State.setFld_repairLog _ _ _ _).trans (State.setFld_repairLog s _ _ _)
@[simp] theorem State.setMsf_badSectors (s : State) (c : CDie) (v : Nat) : (s.setMsf c v).badSectors = s.badSectors := (State.setFld_badSectors _ _ _ _).trans (State.setFld_badSectors s _ _ _)
@[simp] theorem State.setMsf_memFenced (s : State) (c : CDie) (v : Nat) : (s.setMsf c v).memFenced = s.memFenced := (State.setFld_memFenced _ _ _ _).trans (State.setFld_memFenced s _ _ _)
@[simp] theorem State.setMsf_mappedGran (s : State) (c : CDie) (v : Nat) : (s.setMsf c v).mappedGran = s.mappedGran := (State.setFld_mappedGran _ _ _ _).trans (State.setFld_mappedGran s _ _ _)
@[simp] theorem State.setMsf_zeroOrders (s : State) (c : CDie) (v : Nat) : (s.setMsf c v).zeroOrders = s.zeroOrders := (State.setFld_zeroOrders _ _ _ _).trans (State.setFld_zeroOrders s _ _ _)
@[simp] theorem State.setMsf_arrays (s : State) (c : CDie) (v : Nat) : (s.setMsf c v).arrays = s.arrays := (State.setFld_arrays _ _ _ _).trans (State.setFld_arrays s _ _ _)
@[simp] theorem State.setMsf_repairLines (s : State) (c : CDie) (v : Nat) : (s.setMsf c v).repairLines = s.repairLines := (State.setFld_repairLines _ _ _ _).trans (State.setFld_repairLines s _ _ _)
@[simp] theorem State.setMsf_queues (s : State) (c : CDie) (v : Nat) : (s.setMsf c v).queues = s.queues := (State.setFld_queues _ _ _ _).trans (State.setFld_queues s _ _ _)
@[simp] theorem State.setMsf_cairns (s : State) (c : CDie) (v : Nat) : (s.setMsf c v).cairns = s.cairns := (State.setFld_cairns _ _ _ _).trans (State.setFld_cairns s _ _ _)
@[simp] theorem State.setMsf_tracks (s : State) (c : CDie) (v : Nat) : (s.setMsf c v).tracks = s.tracks := (State.setFld_tracks _ _ _ _).trans (State.setFld_tracks s _ _ _)
@[simp] theorem State.setMsf_cores (s : State) (c : CDie) (v : Nat) : (s.setMsf c v).cores = s.cores := (State.setFld_cores _ _ _ _).trans (State.setFld_cores s _ _ _)
@[simp] theorem State.setMsf_dispatches (s : State) (c : CDie) (v : Nat) : (s.setMsf c v).dispatches = s.dispatches := (State.setFld_dispatches _ _ _ _).trans (State.setFld_dispatches s _ _ _)
@[simp] theorem State.setMsf_dmaRuns (s : State) (c : CDie) (v : Nat) : (s.setMsf c v).dmaRuns = s.dmaRuns := (State.setFld_dmaRuns _ _ _ _).trans (State.setFld_dmaRuns s _ _ _)
@[simp] theorem State.setMsf_requests (s : State) (c : CDie) (v : Nat) : (s.setMsf c v).requests = s.requests := (State.setFld_requests _ _ _ _).trans (State.setFld_requests s _ _ _)
@[simp] theorem State.setMsf_windows (s : State) (c : CDie) (v : Nat) : (s.setMsf c v).windows = s.windows := (State.setFld_windows _ _ _ _).trans (State.setFld_windows s _ _ _)
@[simp] theorem State.setMsf_respUse (s : State) (c : CDie) (v : Nat) : (s.setMsf c v).respUse = s.respUse := (State.setFld_respUse _ _ _ _).trans (State.setFld_respUse s _ _ _)
@[simp] theorem State.setMsf_nextXid (s : State) (c : CDie) (v : Nat) : (s.setMsf c v).nextXid = s.nextXid := (State.setFld_nextXid _ _ _ _).trans (State.setFld_nextXid s _ _ _)
@[simp] theorem State.setMsf_nextId (s : State) (c : CDie) (v : Nat) : (s.setMsf c v).nextId = s.nextId := (State.setFld_nextId _ _ _ _).trans (State.setFld_nextId s _ _ _)
@[simp] theorem State.setMsf_parts (s : State) (c : CDie) (v : Nat) : (s.setMsf c v).parts = s.parts := (State.setFld_parts _ _ _ _).trans (State.setFld_parts s _ _ _)
@[simp] theorem State.setMsf_wkeys (s : State) (c : CDie) (v : Nat) : (s.setMsf c v).wkeys = s.wkeys := (State.setFld_wkeys _ _ _ _).trans (State.setFld_wkeys s _ _ _)
@[simp] theorem State.setMsf_staging (s : State) (c : CDie) (v : Nat) : (s.setMsf c v).staging = s.staging := (State.setFld_staging _ _ _ _).trans (State.setFld_staging s _ _ _)
@[simp] theorem State.setMsf_fltLog (s : State) (c : CDie) (v : Nat) : (s.setMsf c v).fltLog = s.fltLog := (State.setFld_fltLog _ _ _ _).trans (State.setFld_fltLog s _ _ _)
@[simp] theorem State.setMsf_recoveryTimes (s : State) (c : CDie) (v : Nat) : (s.setMsf c v).recoveryTimes = s.recoveryTimes := (State.setFld_recoveryTimes _ _ _ _).trans (State.setFld_recoveryTimes s _ _ _)
@[simp] theorem State.setMsf_quietPages (s : State) (c : CDie) (v : Nat) : (s.setMsf c v).quietPages = s.quietPages := (State.setFld_quietPages _ _ _ _).trans (State.setFld_quietPages s _ _ _)
@[simp] theorem State.setMsf_quietParts (s : State) (c : CDie) (v : Nat) : (s.setMsf c v).quietParts = s.quietParts := (State.setFld_quietParts _ _ _ _).trans (State.setFld_quietParts s _ _ _)
@[simp] theorem State.setMsf_fencedDies (s : State) (c : CDie) (v : Nat) : (s.setMsf c v).fencedDies = s.fencedDies := (State.setFld_fencedDies _ _ _ _).trans (State.setFld_fencedDies s _ _ _)
@[simp] theorem State.setMsf_lostRails (s : State) (c : CDie) (v : Nat) : (s.setMsf c v).lostRails = s.lostRails := (State.setFld_lostRails _ _ _ _).trans (State.setFld_lostRails s _ _ _)
@[simp] theorem State.setMsf_thermtrip (s : State) (c : CDie) (v : Nat) : (s.setMsf c v).thermtrip = s.thermtrip := (State.setFld_thermtrip _ _ _ _).trans (State.setFld_thermtrip s _ _ _)
@[simp] theorem State.setMsf_chans (s : State) (c : CDie) (v : Nat) : (s.setMsf c v).chans = s.chans := (State.setFld_chans _ _ _ _).trans (State.setFld_chans s _ _ _)
@[simp] theorem State.setMsf_fns (s : State) (c : CDie) (v : Nat) : (s.setMsf c v).fns = s.fns := (State.setFld_fns _ _ _ _).trans (State.setFld_fns s _ _ _)
@[simp] theorem State.setMsf_bar2 (s : State) (c : CDie) (v : Nat) : (s.setMsf c v).bar2 = s.bar2 := (State.setFld_bar2 _ _ _ _).trans (State.setFld_bar2 s _ _ _)
@[simp] theorem State.setMsf_held (s : State) (c : CDie) (v : Nat) : (s.setMsf c v).held = s.held := (State.setFld_held _ _ _ _).trans (State.setFld_held s _ _ _)
@[simp] theorem State.setMsf_relayOut (s : State) (c : CDie) (v : Nat) : (s.setMsf c v).relayOut = s.relayOut := (State.setFld_relayOut _ _ _ _).trans (State.setFld_relayOut s _ _ _)
@[simp] theorem State.setMsf_relayCtr (s : State) (c : CDie) (v : Nat) : (s.setMsf c v).relayCtr = s.relayCtr := (State.setFld_relayCtr _ _ _ _).trans (State.setFld_relayCtr s _ _ _)
@[simp] theorem State.setMsf_boardSess (s : State) (c : CDie) (v : Nat) : (s.setMsf c v).boardSess = s.boardSess := (State.setFld_boardSess _ _ _ _).trans (State.setFld_boardSess s _ _ _)
@[simp] theorem State.setMsf_i3c (s : State) (c : CDie) (v : Nat) : (s.setMsf c v).i3c = s.i3c := (State.setFld_i3c _ _ _ _).trans (State.setFld_i3c s _ _ _)
@[simp] theorem State.setMsf_eid (s : State) (c : CDie) (v : Nat) : (s.setMsf c v).eid = s.eid := (State.setFld_eid _ _ _ _).trans (State.setFld_eid s _ _ _)
@[simp] theorem State.setMsf_sensors (s : State) (c : CDie) (v : Nat) : (s.setMsf c v).sensors = s.sensors := (State.setFld_sensors _ _ _ _).trans (State.setFld_sensors s _ _ _)
@[simp] theorem State.setMsf_agents (s : State) (c : CDie) (v : Nat) : (s.setMsf c v).agents = s.agents := (State.setFld_agents _ _ _ _).trans (State.setFld_agents s _ _ _)
@[simp] theorem State.setMsf_ports (s : State) (c : CDie) (v : Nat) : (s.setMsf c v).ports = s.ports := (State.setFld_ports _ _ _ _).trans (State.setFld_ports s _ _ _)
@[simp] theorem State.setMsf_transits (s : State) (c : CDie) (v : Nat) : (s.setMsf c v).transits = s.transits := (State.setFld_transits _ _ _ _).trans (State.setFld_transits s _ _ _)
@[simp] theorem State.setMsf_d2d (s : State) (c : CDie) (v : Nat) : (s.setMsf c v).d2d = s.d2d := (State.setFld_d2d _ _ _ _).trans (State.setFld_d2d s _ _ _)
@[simp] theorem State.setMsf_reserved (s : State) (c : CDie) (v : Nat) : (s.setMsf c v).reserved = s.reserved := (State.setFld_reserved _ _ _ _).trans (State.setFld_reserved s _ _ _)
@[simp] theorem State.setMsf_tables (s : State) (c : CDie) (v : Nat) : (s.setMsf c v).tables = s.tables := (State.setFld_tables _ _ _ _).trans (State.setFld_tables s _ _ _)
@[simp] theorem State.setMsf_d2dRuns (s : State) (c : CDie) (v : Nat) : (s.setMsf c v).d2dRuns = s.d2dRuns := (State.setFld_d2dRuns _ _ _ _).trans (State.setFld_d2dRuns s _ _ _)
@[simp] theorem State.setMsf_xfers (s : State) (c : CDie) (v : Nat) : (s.setMsf c v).xfers = s.xfers := (State.setFld_xfers _ _ _ _).trans (State.setFld_xfers s _ _ _)
@[simp] theorem State.setMsf_hotEngines (s : State) (c : CDie) (v : Nat) : (s.setMsf c v).hotEngines = s.hotEngines := (State.setFld_hotEngines _ _ _ _).trans (State.setFld_hotEngines s _ _ _)
@[simp] theorem State.setMsf_boot (s : State) (c : CDie) (v : Nat) : (s.setMsf c v).boot = s.boot := (State.setFld_boot _ _ _ _).trans (State.setFld_boot s _ _ _)
@[simp] theorem State.setMsf_plan (s : State) (c : CDie) (v : Nat) : (s.setMsf c v).plan = s.plan := (State.setFld_plan _ _ _ _).trans (State.setFld_plan s _ _ _)
@[simp] theorem State.setMsf_bootPlan (s : State) (c : CDie) (v : Nat) : (s.setMsf c v).bootPlan = s.bootPlan := (State.setFld_bootPlan _ _ _ _).trans (State.setFld_bootPlan s _ _ _)
@[simp] theorem State.setMsf_maxPlanSeq (s : State) (c : CDie) (v : Nat) : (s.setMsf c v).maxPlanSeq = s.maxPlanSeq := (State.setFld_maxPlanSeq _ _ _ _).trans (State.setFld_maxPlanSeq s _ _ _)
@[simp] theorem State.setMsf_fwDigest (s : State) (c : CDie) (v : Nat) : (s.setMsf c v).fwDigest = s.fwDigest := (State.setFld_fwDigest _ _ _ _).trans (State.setFld_fwDigest s _ _ _)
@[simp] theorem State.setMsf_fwComps (s : State) (c : CDie) (v : Nat) : (s.setMsf c v).fwComps = s.fwComps := (State.setFld_fwComps _ _ _ _).trans (State.setFld_fwComps s _ _ _)
@[simp] theorem State.setMsf_flash (s : State) (c : CDie) (v : Nat) : (s.setMsf c v).flash = s.flash := (State.setFld_flash _ _ _ _).trans (State.setFld_flash s _ _ _)
@[simp] theorem State.setMsf_fwStaged (s : State) (c : CDie) (v : Nat) : (s.setMsf c v).fwStaged = s.fwStaged := (State.setFld_fwStaged _ _ _ _).trans (State.setFld_fwStaged s _ _ _)
@[simp] theorem State.setMsf_codeHeld (s : State) (c : CDie) (v : Nat) : (s.setMsf c v).codeHeld = s.codeHeld := (State.setFld_codeHeld _ _ _ _).trans (State.setFld_codeHeld s _ _ _)
@[simp] theorem State.setMsf_codeStaged (s : State) (c : CDie) (v : Nat) : (s.setMsf c v).codeStaged = s.codeStaged := (State.setFld_codeStaged _ _ _ _).trans (State.setFld_codeStaged s _ _ _)
@[simp] theorem State.setMsf_rcv (s : State) (c : CDie) (v : Nat) : (s.setMsf c v).rcv = s.rcv := (State.setFld_rcv _ _ _ _).trans (State.setFld_rcv s _ _ _)
@[simp] theorem State.setMsf_dist (s : State) (c : CDie) (v : Nat) : (s.setMsf c v).dist = s.dist := (State.setFld_dist _ _ _ _).trans (State.setFld_dist s _ _ _)
@[simp] theorem State.setMsf_mcReset (s : State) (c : CDie) (v : Nat) : (s.setMsf c v).mcReset = s.mcReset := (State.setFld_mcReset _ _ _ _).trans (State.setFld_mcReset s _ _ _)
@[simp] theorem State.setMsf_dbgCounters (s : State) (c : CDie) (v : Nat) : (s.setMsf c v).dbgCounters = s.dbgCounters := (State.setFld_dbgCounters _ _ _ _).trans (State.setFld_dbgCounters s _ _ _)
@[simp] theorem State.setMsf_unlocks (s : State) (c : CDie) (v : Nat) : (s.setMsf c v).unlocks = s.unlocks := (State.setFld_unlocks _ _ _ _).trans (State.setFld_unlocks s _ _ _)
@[simp] theorem State.setMsf_power (s : State) (c : CDie) (v : Nat) : (s.setMsf c v).power = s.power := (State.setFld_power _ _ _ _).trans (State.setFld_power s _ _ _)
@[simp] theorem State.setMsf_pkgPower (s : State) (c : CDie) (v : Nat) : (s.setMsf c v).pkgPower = s.pkgPower := (State.setFld_pkgPower _ _ _ _).trans (State.setFld_pkgPower s _ _ _)
@[simp] theorem State.setMsf_ridge (s : State) (c : CDie) (v : Nat) : (s.setMsf c v).ridge = s.ridge := (State.setFld_ridge _ _ _ _).trans (State.setFld_ridge s _ _ _)
@[simp] theorem State.setMsf_smt (s : State) (c : CDie) (v : Nat) : (s.setMsf c v).smt = s.smt := (State.setFld_smt _ _ _ _).trans (State.setFld_smt s _ _ _)
@[simp] theorem State.setMsf_pairSess (s : State) (c : CDie) (v : Nat) : (s.setMsf c v).pairSess = s.pairSess := (State.setFld_pairSess _ _ _ _).trans (State.setFld_pairSess s _ _ _)
@[simp] theorem State.setMsf_heldTerm (s : State) (c : CDie) (v : Nat) : (s.setMsf c v).heldTerm = s.heldTerm := (State.setFld_heldTerm _ _ _ _).trans (State.setFld_heldTerm s _ _ _)
@[simp] theorem State.setMsf_heldBy (s : State) (c : CDie) (v : Nat) : (s.setMsf c v).heldBy = s.heldBy := (State.setFld_heldBy _ _ _ _).trans (State.setFld_heldBy s _ _ _)
@[simp] theorem State.setMsf_now (s : State) (c : CDie) (v : Nat) (zd : Die) : (s.setMsf c v).now zd = s.now zd := by simp [State.now]
@[simp] theorem State.setMsf_array (s : State) (c : CDie) (v : Nat) (zc : CDie) : (s.setMsf c v).array zc = s.array zc := by simp [State.array]
@[simp] theorem State.setMsf_queue (s : State) (c : CDie) (v : Nat) (zr : QRef) : (s.setMsf c v).queue zr = s.queue zr := by simp [State.queue]
@[simp] theorem State.setMsf_partQ (s : State) (c : CDie) (v : Nat) (zp : Part) : (s.setMsf c v).part? zp = s.part? zp := by simp [State.part?]
@[simp] theorem State.setMsf_isConf (s : State) (c : CDie) (v : Nat) (zp : Part) : (s.setMsf c v).isConf zp = s.isConf zp := by simp [State.isConf]
@[simp] theorem State.setMsf_chan (s : State) (c : CDie) (v : Nat) (zk : Nat) : (s.setMsf c v).chan zk = s.chan zk := by simp [State.chan]
@[simp] theorem State.setMsf_agent (s : State) (c : CDie) (v : Nat) (zk : PDie) : (s.setMsf c v).agent zk = s.agent zk := by simp [State.agent]
@[simp] theorem State.setMsf_port (s : State) (c : CDie) (v : Nat) (zq : Port) : (s.setMsf c v).port zq = s.port zq := by simp [State.port]
@[simp] theorem State.setMsf_core (s : State) (c : CDie) (v : Nat) (zc : CDie) (zk : Core) : (s.setMsf c v).core zc zk = s.core zc zk := by simp [State.core]
@[simp] theorem State.setMsf_cairn (s : State) (c : CDie) (v : Nat) (zc : CDie) (zn : Nat) : (s.setMsf c v).cairn zc zn = s.cairn zc zn := by simp [State.cairn]
@[simp] theorem State.setMsf_fn (s : State) (c : CDie) (v : Nat) (zf : Fn) : (s.setMsf c v).fn zf = s.fn zf := by simp [State.fn]
@[simp] theorem State.setMsf_wkey (s : State) (c : CDie) (v : Nat) (zp : Part) (zprev : Bool) : (s.setMsf c v).wkey zp zprev = s.wkey zp zprev := by simp [State.wkey]
@[simp] theorem State.setMsf_memByte (s : State) (c : CDie) (v : Nat) (zc : CDie) (zoff : Nat) : (s.setMsf c v).memByte zc zoff = s.memByte zc zoff := by simp [State.memByte]
@[simp] theorem State.setMsf_memGet (s : State) (c : CDie) (v : Nat) (zc : CDie) (zoff : Nat) (zn : Nat) : (s.setMsf c v).memGet zc zoff zn = s.memGet zc zoff zn := by simp [State.memGet]
@[simp] theorem State.setMsf_tarnByte (s : State) (c : CDie) (v : Nat) (zc : CDie) (zoff : Nat) : (s.setMsf c v).tarnByte zc zoff = s.tarnByte zc zoff := by simp [State.tarnByte]
@[simp] theorem State.setMsf_tarnGet (s : State) (c : CDie) (v : Nat) (zc : CDie) (zoff : Nat) (zn : Nat) : (s.setMsf c v).tarnGet zc zoff zn = s.tarnGet zc zoff zn := by simp [State.tarnGet]
@[simp] theorem State.setMsf_nparts (s : State) (c : CDie) (v : Nat) : (s.setMsf c v).nparts = s.nparts := by simp [State.nparts]
@[simp] theorem State.setMsf_memWf (s : State) (c : CDie) (v : Nat) : (s.setMsf c v).memWf = s.memWf := by simp [State.memWf]
@[simp] theorem State.setMsf_quiet (s : State) (c : CDie) (v : Nat) : (s.setMsf c v).quiet = s.quiet := by simp [State.quiet]
@[simp] theorem State.setMsf_settled (s : State) (c : CDie) (v : Nat) : (s.setMsf c v).settled = s.settled := by simp [State.settled]

/-! `setArray` writes arrays alone. -/

@[simp] theorem State.setArray_pending (s : State) (c : CDie) (a : ArraySt) : (s.setArray c a).pending = s.pending := by cases s; rfl
@[simp] theorem State.setArray_out (s : State) (c : CDie) (a : ArraySt) : (s.setArray c a).out = s.out := by cases s; rfl
@[simp] theorem State.setArray_freeCtr (s : State) (c : CDie) (a : ArraySt) : (s.setArray c a).freeCtr = s.freeCtr := by cases s; rfl
@[simp] theorem State.setArray_mgmtOn (s : State) (c : CDie) (a : ArraySt) : (s.setArray c a).mgmtOn = s.mgmtOn := by cases s; rfl
@[simp] theorem State.setArray_fuses (s : State) (c : CDie) (a : ArraySt) : (s.setArray c a).fuses = s.fuses := by cases s; rfl
@[simp] theorem State.setArray_straps (s : State) (c : CDie) (a : ArraySt) : (s.setArray c a).straps = s.straps := by cases s; rfl
@[simp] theorem State.setArray_pos (s : State) (c : CDie) (a : ArraySt) : (s.setArray c a).pos = s.pos := by cases s; rfl
@[simp] theorem State.setArray_regs (s : State) (c : CDie) (a : ArraySt) : (s.setArray c a).regs = s.regs := by cases s; rfl
@[simp] theorem State.setArray_latches (s : State) (c : CDie) (a : ArraySt) : (s.setArray c a).latches = s.latches := by cases s; rfl
@[simp] theorem State.setArray_gtime (s : State) (c : CDie) (a : ArraySt) : (s.setArray c a).gtime = s.gtime := by cases s; rfl
@[simp] theorem State.setArray_fclk (s : State) (c : CDie) (a : ArraySt) : (s.setArray c a).fclk = s.fclk := by cases s; rfl
@[simp] theorem State.setArray_mem (s : State) (c : CDie) (a : ArraySt) : (s.setArray c a).mem = s.mem := by cases s; rfl
@[simp] theorem State.setArray_tarn (s : State) (c : CDie) (a : ArraySt) : (s.setArray c a).tarn = s.tarn := by cases s; rfl
@[simp] theorem State.setArray_rowErrs (s : State) (c : CDie) (a : ArraySt) : (s.setArray c a).rowErrs = s.rowErrs := by cases s; rfl
@[simp] theorem State.setArray_remaps (s : State) (c : CDie) (a : ArraySt) : (s.setArray c a).remaps = s.remaps := by cases s; rfl
@[simp] theorem State.setArray_savedRemaps (s : State) (c : CDie) (a : ArraySt) : (s.setArray c a).savedRemaps = s.savedRemaps := by cases s; rfl
@[simp] theorem State.setArray_repairLog (s : State) (c : CDie) (a : ArraySt) : (s.setArray c a).repairLog = s.repairLog := by cases s; rfl
@[simp] theorem State.setArray_badSectors (s : State) (c : CDie) (a : ArraySt) : (s.setArray c a).badSectors = s.badSectors := by cases s; rfl
@[simp] theorem State.setArray_memFenced (s : State) (c : CDie) (a : ArraySt) : (s.setArray c a).memFenced = s.memFenced := by cases s; rfl
@[simp] theorem State.setArray_mappedGran (s : State) (c : CDie) (a : ArraySt) : (s.setArray c a).mappedGran = s.mappedGran := by cases s; rfl
@[simp] theorem State.setArray_zeroOrders (s : State) (c : CDie) (a : ArraySt) : (s.setArray c a).zeroOrders = s.zeroOrders := by cases s; rfl
@[simp] theorem State.setArray_repairLines (s : State) (c : CDie) (a : ArraySt) : (s.setArray c a).repairLines = s.repairLines := by cases s; rfl
@[simp] theorem State.setArray_queues (s : State) (c : CDie) (a : ArraySt) : (s.setArray c a).queues = s.queues := by cases s; rfl
@[simp] theorem State.setArray_cairns (s : State) (c : CDie) (a : ArraySt) : (s.setArray c a).cairns = s.cairns := by cases s; rfl
@[simp] theorem State.setArray_tracks (s : State) (c : CDie) (a : ArraySt) : (s.setArray c a).tracks = s.tracks := by cases s; rfl
@[simp] theorem State.setArray_cores (s : State) (c : CDie) (a : ArraySt) : (s.setArray c a).cores = s.cores := by cases s; rfl
@[simp] theorem State.setArray_dispatches (s : State) (c : CDie) (a : ArraySt) : (s.setArray c a).dispatches = s.dispatches := by cases s; rfl
@[simp] theorem State.setArray_dmaRuns (s : State) (c : CDie) (a : ArraySt) : (s.setArray c a).dmaRuns = s.dmaRuns := by cases s; rfl
@[simp] theorem State.setArray_requests (s : State) (c : CDie) (a : ArraySt) : (s.setArray c a).requests = s.requests := by cases s; rfl
@[simp] theorem State.setArray_windows (s : State) (c : CDie) (a : ArraySt) : (s.setArray c a).windows = s.windows := by cases s; rfl
@[simp] theorem State.setArray_respUse (s : State) (c : CDie) (a : ArraySt) : (s.setArray c a).respUse = s.respUse := by cases s; rfl
@[simp] theorem State.setArray_nextXid (s : State) (c : CDie) (a : ArraySt) : (s.setArray c a).nextXid = s.nextXid := by cases s; rfl
@[simp] theorem State.setArray_nextId (s : State) (c : CDie) (a : ArraySt) : (s.setArray c a).nextId = s.nextId := by cases s; rfl
@[simp] theorem State.setArray_parts (s : State) (c : CDie) (a : ArraySt) : (s.setArray c a).parts = s.parts := by cases s; rfl
@[simp] theorem State.setArray_wkeys (s : State) (c : CDie) (a : ArraySt) : (s.setArray c a).wkeys = s.wkeys := by cases s; rfl
@[simp] theorem State.setArray_staging (s : State) (c : CDie) (a : ArraySt) : (s.setArray c a).staging = s.staging := by cases s; rfl
@[simp] theorem State.setArray_fltLog (s : State) (c : CDie) (a : ArraySt) : (s.setArray c a).fltLog = s.fltLog := by cases s; rfl
@[simp] theorem State.setArray_recoveryTimes (s : State) (c : CDie) (a : ArraySt) : (s.setArray c a).recoveryTimes = s.recoveryTimes := by cases s; rfl
@[simp] theorem State.setArray_quietPages (s : State) (c : CDie) (a : ArraySt) : (s.setArray c a).quietPages = s.quietPages := by cases s; rfl
@[simp] theorem State.setArray_quietParts (s : State) (c : CDie) (a : ArraySt) : (s.setArray c a).quietParts = s.quietParts := by cases s; rfl
@[simp] theorem State.setArray_fencedDies (s : State) (c : CDie) (a : ArraySt) : (s.setArray c a).fencedDies = s.fencedDies := by cases s; rfl
@[simp] theorem State.setArray_lostRails (s : State) (c : CDie) (a : ArraySt) : (s.setArray c a).lostRails = s.lostRails := by cases s; rfl
@[simp] theorem State.setArray_thermtrip (s : State) (c : CDie) (a : ArraySt) : (s.setArray c a).thermtrip = s.thermtrip := by cases s; rfl
@[simp] theorem State.setArray_chans (s : State) (c : CDie) (a : ArraySt) : (s.setArray c a).chans = s.chans := by cases s; rfl
@[simp] theorem State.setArray_fns (s : State) (c : CDie) (a : ArraySt) : (s.setArray c a).fns = s.fns := by cases s; rfl
@[simp] theorem State.setArray_bar2 (s : State) (c : CDie) (a : ArraySt) : (s.setArray c a).bar2 = s.bar2 := by cases s; rfl
@[simp] theorem State.setArray_held (s : State) (c : CDie) (a : ArraySt) : (s.setArray c a).held = s.held := by cases s; rfl
@[simp] theorem State.setArray_relayOut (s : State) (c : CDie) (a : ArraySt) : (s.setArray c a).relayOut = s.relayOut := by cases s; rfl
@[simp] theorem State.setArray_relayCtr (s : State) (c : CDie) (a : ArraySt) : (s.setArray c a).relayCtr = s.relayCtr := by cases s; rfl
@[simp] theorem State.setArray_boardSess (s : State) (c : CDie) (a : ArraySt) : (s.setArray c a).boardSess = s.boardSess := by cases s; rfl
@[simp] theorem State.setArray_i3c (s : State) (c : CDie) (a : ArraySt) : (s.setArray c a).i3c = s.i3c := by cases s; rfl
@[simp] theorem State.setArray_eid (s : State) (c : CDie) (a : ArraySt) : (s.setArray c a).eid = s.eid := by cases s; rfl
@[simp] theorem State.setArray_sensors (s : State) (c : CDie) (a : ArraySt) : (s.setArray c a).sensors = s.sensors := by cases s; rfl
@[simp] theorem State.setArray_agents (s : State) (c : CDie) (a : ArraySt) : (s.setArray c a).agents = s.agents := by cases s; rfl
@[simp] theorem State.setArray_ports (s : State) (c : CDie) (a : ArraySt) : (s.setArray c a).ports = s.ports := by cases s; rfl
@[simp] theorem State.setArray_transits (s : State) (c : CDie) (a : ArraySt) : (s.setArray c a).transits = s.transits := by cases s; rfl
@[simp] theorem State.setArray_d2d (s : State) (c : CDie) (a : ArraySt) : (s.setArray c a).d2d = s.d2d := by cases s; rfl
@[simp] theorem State.setArray_reserved (s : State) (c : CDie) (a : ArraySt) : (s.setArray c a).reserved = s.reserved := by cases s; rfl
@[simp] theorem State.setArray_tables (s : State) (c : CDie) (a : ArraySt) : (s.setArray c a).tables = s.tables := by cases s; rfl
@[simp] theorem State.setArray_d2dRuns (s : State) (c : CDie) (a : ArraySt) : (s.setArray c a).d2dRuns = s.d2dRuns := by cases s; rfl
@[simp] theorem State.setArray_xfers (s : State) (c : CDie) (a : ArraySt) : (s.setArray c a).xfers = s.xfers := by cases s; rfl
@[simp] theorem State.setArray_hotEngines (s : State) (c : CDie) (a : ArraySt) : (s.setArray c a).hotEngines = s.hotEngines := by cases s; rfl
@[simp] theorem State.setArray_boot (s : State) (c : CDie) (a : ArraySt) : (s.setArray c a).boot = s.boot := by cases s; rfl
@[simp] theorem State.setArray_plan (s : State) (c : CDie) (a : ArraySt) : (s.setArray c a).plan = s.plan := by cases s; rfl
@[simp] theorem State.setArray_bootPlan (s : State) (c : CDie) (a : ArraySt) : (s.setArray c a).bootPlan = s.bootPlan := by cases s; rfl
@[simp] theorem State.setArray_maxPlanSeq (s : State) (c : CDie) (a : ArraySt) : (s.setArray c a).maxPlanSeq = s.maxPlanSeq := by cases s; rfl
@[simp] theorem State.setArray_fwDigest (s : State) (c : CDie) (a : ArraySt) : (s.setArray c a).fwDigest = s.fwDigest := by cases s; rfl
@[simp] theorem State.setArray_fwComps (s : State) (c : CDie) (a : ArraySt) : (s.setArray c a).fwComps = s.fwComps := by cases s; rfl
@[simp] theorem State.setArray_flash (s : State) (c : CDie) (a : ArraySt) : (s.setArray c a).flash = s.flash := by cases s; rfl
@[simp] theorem State.setArray_fwStaged (s : State) (c : CDie) (a : ArraySt) : (s.setArray c a).fwStaged = s.fwStaged := by cases s; rfl
@[simp] theorem State.setArray_codeHeld (s : State) (c : CDie) (a : ArraySt) : (s.setArray c a).codeHeld = s.codeHeld := by cases s; rfl
@[simp] theorem State.setArray_codeStaged (s : State) (c : CDie) (a : ArraySt) : (s.setArray c a).codeStaged = s.codeStaged := by cases s; rfl
@[simp] theorem State.setArray_rcv (s : State) (c : CDie) (a : ArraySt) : (s.setArray c a).rcv = s.rcv := by cases s; rfl
@[simp] theorem State.setArray_dist (s : State) (c : CDie) (a : ArraySt) : (s.setArray c a).dist = s.dist := by cases s; rfl
@[simp] theorem State.setArray_mcReset (s : State) (c : CDie) (a : ArraySt) : (s.setArray c a).mcReset = s.mcReset := by cases s; rfl
@[simp] theorem State.setArray_dbgCounters (s : State) (c : CDie) (a : ArraySt) : (s.setArray c a).dbgCounters = s.dbgCounters := by cases s; rfl
@[simp] theorem State.setArray_unlocks (s : State) (c : CDie) (a : ArraySt) : (s.setArray c a).unlocks = s.unlocks := by cases s; rfl
@[simp] theorem State.setArray_power (s : State) (c : CDie) (a : ArraySt) : (s.setArray c a).power = s.power := by cases s; rfl
@[simp] theorem State.setArray_pkgPower (s : State) (c : CDie) (a : ArraySt) : (s.setArray c a).pkgPower = s.pkgPower := by cases s; rfl
@[simp] theorem State.setArray_ridge (s : State) (c : CDie) (a : ArraySt) : (s.setArray c a).ridge = s.ridge := by cases s; rfl
@[simp] theorem State.setArray_smt (s : State) (c : CDie) (a : ArraySt) : (s.setArray c a).smt = s.smt := by cases s; rfl
@[simp] theorem State.setArray_pairSess (s : State) (c : CDie) (a : ArraySt) : (s.setArray c a).pairSess = s.pairSess := by cases s; rfl
@[simp] theorem State.setArray_heldTerm (s : State) (c : CDie) (a : ArraySt) : (s.setArray c a).heldTerm = s.heldTerm := by cases s; rfl
@[simp] theorem State.setArray_heldBy (s : State) (c : CDie) (a : ArraySt) : (s.setArray c a).heldBy = s.heldBy := by cases s; rfl
@[simp] theorem State.setArray_rd (s : State) (c : CDie) (a : ArraySt) (za : Nat) : (s.setArray c a).rd za = s.rd za := by simp [State.rd]
@[simp] theorem State.setArray_fld (s : State) (c : CDie) (a : ArraySt) (zp : Page) (zf : Field) : (s.setArray c a).fld zp zf = s.fld zp zf := by simp [State.fld]
@[simp] theorem State.setArray_flag (s : State) (c : CDie) (a : ArraySt) (zp : Page) (zf : Field) : (s.setArray c a).flag zp zf = s.flag zp zf := by simp [State.flag]
@[simp] theorem State.setArray_counter (s : State) (c : CDie) (a : ArraySt) (zp : Page) (zoff : Nat) : (s.setArray c a).counter zp zoff = s.counter zp zoff := by unfold State.counter; rw [State.setArray_rd, State.setArray_rd]
@[simp] theorem State.setArray_counterOvf (s : State) (c : CDie) (a : ArraySt) (zp : Page) (zoff : Nat) : (s.setArray c a).counterOvf zp zoff = s.counterOvf zp zoff := by simp [State.counterOvf]
@[simp] theorem State.setArray_inReset (s : State) (c : CDie) (a : ArraySt) (zd : Die) : (s.setArray c a).inReset zd = s.inReset zd := by simp [State.inReset]
@[simp] theorem State.setArray_partState (s : State) (c : CDie) (a : ArraySt) (zp : Part) : (s.setArray c a).partState zp = s.partState zp := by simp [State.partState]
@[simp] theorem State.setArray_partFenced (s : State) (c : CDie) (a : ArraySt) (zp : Part) : (s.setArray c a).partFenced zp = s.partFenced zp := by simp [State.partFenced]
@[simp] theorem State.setArray_lnk (s : State) (c : CDie) (a : ArraySt) (zq : Port) : (s.setArray c a).lnk zq = s.lnk zq := by simp [State.lnk]
@[simp] theorem State.setArray_memRange (s : State) (c : CDie) (a : ArraySt) (zc : CDie) (zp : Part) (zi : Nat) : (s.setArray c a).memRange zc zp zi = s.memRange zc zp zi := by simp [State.memRange]
@[simp] theorem State.setArray_tarnAlloc (s : State) (c : CDie) (a : ArraySt) (zc : CDie) (zp : Part) : (s.setArray c a).tarnAlloc zc zp = s.tarnAlloc zc zp := by simp [State.tarnAlloc]
@[simp] theorem State.setArray_cairnRange (s : State) (c : CDie) (a : ArraySt) (zc : CDie) (zp : Part) : (s.setArray c a).cairnRange zc zp = s.cairnRange zc zp := by simp [State.cairnRange]
@[simp] theorem State.setArray_winOpen (s : State) (c : CDie) (a : ArraySt) (zp : Part) : (s.setArray c a).winOpen zp = s.winOpen zp := by simp [State.winOpen]
@[simp] theorem State.setArray_vfOn (s : State) (c : CDie) (a : ArraySt) (zp : Part) : (s.setArray c a).vfOn zp = s.vfOn zp := by simp [State.vfOn]
@[simp] theorem State.setArray_msfState (s : State) (c : CDie) (a : ArraySt) (zc : CDie) : (s.setArray c a).msfState zc = s.msfState zc := by simp [State.msfState]
@[simp] theorem State.setArray_stepK (s : State) (c : CDie) (a : ArraySt) (zc : CDie) : (s.setArray c a).stepK zc = s.stepK zc := by simp [State.stepK]
@[simp] theorem State.setArray_injection (s : State) (c : CDie) (a : ArraySt) (zp : Page) (zchecker : Nat) : (s.setArray c a).injection zp zchecker = s.injection zp zchecker := by simp [State.injection]
@[simp] theorem State.setArray_disc (s : State) (c : CDie) (a : ArraySt) : (s.setArray c a).disc = s.disc := by simp [State.disc]
@[simp] theorem State.setArray_pairSt (s : State) (c : CDie) (a : ArraySt) : (s.setArray c a).pairSt = s.pairSt := by simp [State.pairSt]
@[simp] theorem State.setArray_now (s : State) (c : CDie) (a : ArraySt) (zd : Die) : (s.setArray c a).now zd = s.now zd := by simp [State.now]
@[simp] theorem State.setArray_queue (s : State) (c : CDie) (a : ArraySt) (zr : QRef) : (s.setArray c a).queue zr = s.queue zr := by simp [State.queue]
@[simp] theorem State.setArray_partQ (s : State) (c : CDie) (a : ArraySt) (zp : Part) : (s.setArray c a).part? zp = s.part? zp := by simp [State.part?]
@[simp] theorem State.setArray_isConf (s : State) (c : CDie) (a : ArraySt) (zp : Part) : (s.setArray c a).isConf zp = s.isConf zp := by simp [State.isConf]
@[simp] theorem State.setArray_chan (s : State) (c : CDie) (a : ArraySt) (zk : Nat) : (s.setArray c a).chan zk = s.chan zk := by simp [State.chan]
@[simp] theorem State.setArray_agent (s : State) (c : CDie) (a : ArraySt) (zk : PDie) : (s.setArray c a).agent zk = s.agent zk := by simp [State.agent]
@[simp] theorem State.setArray_port (s : State) (c : CDie) (a : ArraySt) (zq : Port) : (s.setArray c a).port zq = s.port zq := by simp [State.port]
@[simp] theorem State.setArray_core (s : State) (c : CDie) (a : ArraySt) (zc : CDie) (zk : Core) : (s.setArray c a).core zc zk = s.core zc zk := by simp [State.core]
@[simp] theorem State.setArray_cairn (s : State) (c : CDie) (a : ArraySt) (zc : CDie) (zn : Nat) : (s.setArray c a).cairn zc zn = s.cairn zc zn := by simp [State.cairn]
@[simp] theorem State.setArray_fn (s : State) (c : CDie) (a : ArraySt) (zf : Fn) : (s.setArray c a).fn zf = s.fn zf := by simp [State.fn]
@[simp] theorem State.setArray_wkey (s : State) (c : CDie) (a : ArraySt) (zp : Part) (zprev : Bool) : (s.setArray c a).wkey zp zprev = s.wkey zp zprev := by simp [State.wkey]
@[simp] theorem State.setArray_memByte (s : State) (c : CDie) (a : ArraySt) (zc : CDie) (zoff : Nat) : (s.setArray c a).memByte zc zoff = s.memByte zc zoff := by simp [State.memByte]
@[simp] theorem State.setArray_memGet (s : State) (c : CDie) (a : ArraySt) (zc : CDie) (zoff : Nat) (zn : Nat) : (s.setArray c a).memGet zc zoff zn = s.memGet zc zoff zn := by simp [State.memGet]
@[simp] theorem State.setArray_tarnByte (s : State) (c : CDie) (a : ArraySt) (zc : CDie) (zoff : Nat) : (s.setArray c a).tarnByte zc zoff = s.tarnByte zc zoff := by simp [State.tarnByte]
@[simp] theorem State.setArray_tarnGet (s : State) (c : CDie) (a : ArraySt) (zc : CDie) (zoff : Nat) (zn : Nat) : (s.setArray c a).tarnGet zc zoff zn = s.tarnGet zc zoff zn := by simp [State.tarnGet]
@[simp] theorem State.setArray_dieDown (s : State) (c : CDie) (a : ArraySt) (zc : CDie) : (s.setArray c a).dieDown zc = s.dieDown zc := by simp [State.dieDown]
@[simp] theorem State.setArray_nparts (s : State) (c : CDie) (a : ArraySt) : (s.setArray c a).nparts = s.nparts := by simp [State.nparts]
@[simp] theorem State.setArray_memWf (s : State) (c : CDie) (a : ArraySt) : (s.setArray c a).memWf = s.memWf := by simp [State.memWf]
@[simp] theorem State.setArray_quiet (s : State) (c : CDie) (a : ArraySt) : (s.setArray c a).quiet = s.quiet := by simp [State.quiet]
@[simp] theorem State.setArray_settled (s : State) (c : CDie) (a : ArraySt) : (s.setArray c a).settled = s.settled := by simp [State.settled]

/-! `setQueue` writes queues alone. -/

@[simp] theorem State.setQueue_pending (s : State) (r : QRef) (q : QueueSt) : (s.setQueue r q).pending = s.pending := by cases s; rfl
@[simp] theorem State.setQueue_out (s : State) (r : QRef) (q : QueueSt) : (s.setQueue r q).out = s.out := by cases s; rfl
@[simp] theorem State.setQueue_freeCtr (s : State) (r : QRef) (q : QueueSt) : (s.setQueue r q).freeCtr = s.freeCtr := by cases s; rfl
@[simp] theorem State.setQueue_mgmtOn (s : State) (r : QRef) (q : QueueSt) : (s.setQueue r q).mgmtOn = s.mgmtOn := by cases s; rfl
@[simp] theorem State.setQueue_fuses (s : State) (r : QRef) (q : QueueSt) : (s.setQueue r q).fuses = s.fuses := by cases s; rfl
@[simp] theorem State.setQueue_straps (s : State) (r : QRef) (q : QueueSt) : (s.setQueue r q).straps = s.straps := by cases s; rfl
@[simp] theorem State.setQueue_pos (s : State) (r : QRef) (q : QueueSt) : (s.setQueue r q).pos = s.pos := by cases s; rfl
@[simp] theorem State.setQueue_regs (s : State) (r : QRef) (q : QueueSt) : (s.setQueue r q).regs = s.regs := by cases s; rfl
@[simp] theorem State.setQueue_latches (s : State) (r : QRef) (q : QueueSt) : (s.setQueue r q).latches = s.latches := by cases s; rfl
@[simp] theorem State.setQueue_gtime (s : State) (r : QRef) (q : QueueSt) : (s.setQueue r q).gtime = s.gtime := by cases s; rfl
@[simp] theorem State.setQueue_fclk (s : State) (r : QRef) (q : QueueSt) : (s.setQueue r q).fclk = s.fclk := by cases s; rfl
@[simp] theorem State.setQueue_mem (s : State) (r : QRef) (q : QueueSt) : (s.setQueue r q).mem = s.mem := by cases s; rfl
@[simp] theorem State.setQueue_tarn (s : State) (r : QRef) (q : QueueSt) : (s.setQueue r q).tarn = s.tarn := by cases s; rfl
@[simp] theorem State.setQueue_rowErrs (s : State) (r : QRef) (q : QueueSt) : (s.setQueue r q).rowErrs = s.rowErrs := by cases s; rfl
@[simp] theorem State.setQueue_remaps (s : State) (r : QRef) (q : QueueSt) : (s.setQueue r q).remaps = s.remaps := by cases s; rfl
@[simp] theorem State.setQueue_savedRemaps (s : State) (r : QRef) (q : QueueSt) : (s.setQueue r q).savedRemaps = s.savedRemaps := by cases s; rfl
@[simp] theorem State.setQueue_repairLog (s : State) (r : QRef) (q : QueueSt) : (s.setQueue r q).repairLog = s.repairLog := by cases s; rfl
@[simp] theorem State.setQueue_badSectors (s : State) (r : QRef) (q : QueueSt) : (s.setQueue r q).badSectors = s.badSectors := by cases s; rfl
@[simp] theorem State.setQueue_memFenced (s : State) (r : QRef) (q : QueueSt) : (s.setQueue r q).memFenced = s.memFenced := by cases s; rfl
@[simp] theorem State.setQueue_mappedGran (s : State) (r : QRef) (q : QueueSt) : (s.setQueue r q).mappedGran = s.mappedGran := by cases s; rfl
@[simp] theorem State.setQueue_zeroOrders (s : State) (r : QRef) (q : QueueSt) : (s.setQueue r q).zeroOrders = s.zeroOrders := by cases s; rfl
@[simp] theorem State.setQueue_arrays (s : State) (r : QRef) (q : QueueSt) : (s.setQueue r q).arrays = s.arrays := by cases s; rfl
@[simp] theorem State.setQueue_repairLines (s : State) (r : QRef) (q : QueueSt) : (s.setQueue r q).repairLines = s.repairLines := by cases s; rfl
@[simp] theorem State.setQueue_cairns (s : State) (r : QRef) (q : QueueSt) : (s.setQueue r q).cairns = s.cairns := by cases s; rfl
@[simp] theorem State.setQueue_tracks (s : State) (r : QRef) (q : QueueSt) : (s.setQueue r q).tracks = s.tracks := by cases s; rfl
@[simp] theorem State.setQueue_cores (s : State) (r : QRef) (q : QueueSt) : (s.setQueue r q).cores = s.cores := by cases s; rfl
@[simp] theorem State.setQueue_dispatches (s : State) (r : QRef) (q : QueueSt) : (s.setQueue r q).dispatches = s.dispatches := by cases s; rfl
@[simp] theorem State.setQueue_dmaRuns (s : State) (r : QRef) (q : QueueSt) : (s.setQueue r q).dmaRuns = s.dmaRuns := by cases s; rfl
@[simp] theorem State.setQueue_requests (s : State) (r : QRef) (q : QueueSt) : (s.setQueue r q).requests = s.requests := by cases s; rfl
@[simp] theorem State.setQueue_windows (s : State) (r : QRef) (q : QueueSt) : (s.setQueue r q).windows = s.windows := by cases s; rfl
@[simp] theorem State.setQueue_respUse (s : State) (r : QRef) (q : QueueSt) : (s.setQueue r q).respUse = s.respUse := by cases s; rfl
@[simp] theorem State.setQueue_nextXid (s : State) (r : QRef) (q : QueueSt) : (s.setQueue r q).nextXid = s.nextXid := by cases s; rfl
@[simp] theorem State.setQueue_nextId (s : State) (r : QRef) (q : QueueSt) : (s.setQueue r q).nextId = s.nextId := by cases s; rfl
@[simp] theorem State.setQueue_parts (s : State) (r : QRef) (q : QueueSt) : (s.setQueue r q).parts = s.parts := by cases s; rfl
@[simp] theorem State.setQueue_wkeys (s : State) (r : QRef) (q : QueueSt) : (s.setQueue r q).wkeys = s.wkeys := by cases s; rfl
@[simp] theorem State.setQueue_staging (s : State) (r : QRef) (q : QueueSt) : (s.setQueue r q).staging = s.staging := by cases s; rfl
@[simp] theorem State.setQueue_fltLog (s : State) (r : QRef) (q : QueueSt) : (s.setQueue r q).fltLog = s.fltLog := by cases s; rfl
@[simp] theorem State.setQueue_recoveryTimes (s : State) (r : QRef) (q : QueueSt) : (s.setQueue r q).recoveryTimes = s.recoveryTimes := by cases s; rfl
@[simp] theorem State.setQueue_quietPages (s : State) (r : QRef) (q : QueueSt) : (s.setQueue r q).quietPages = s.quietPages := by cases s; rfl
@[simp] theorem State.setQueue_quietParts (s : State) (r : QRef) (q : QueueSt) : (s.setQueue r q).quietParts = s.quietParts := by cases s; rfl
@[simp] theorem State.setQueue_fencedDies (s : State) (r : QRef) (q : QueueSt) : (s.setQueue r q).fencedDies = s.fencedDies := by cases s; rfl
@[simp] theorem State.setQueue_lostRails (s : State) (r : QRef) (q : QueueSt) : (s.setQueue r q).lostRails = s.lostRails := by cases s; rfl
@[simp] theorem State.setQueue_thermtrip (s : State) (r : QRef) (q : QueueSt) : (s.setQueue r q).thermtrip = s.thermtrip := by cases s; rfl
@[simp] theorem State.setQueue_chans (s : State) (r : QRef) (q : QueueSt) : (s.setQueue r q).chans = s.chans := by cases s; rfl
@[simp] theorem State.setQueue_fns (s : State) (r : QRef) (q : QueueSt) : (s.setQueue r q).fns = s.fns := by cases s; rfl
@[simp] theorem State.setQueue_bar2 (s : State) (r : QRef) (q : QueueSt) : (s.setQueue r q).bar2 = s.bar2 := by cases s; rfl
@[simp] theorem State.setQueue_held (s : State) (r : QRef) (q : QueueSt) : (s.setQueue r q).held = s.held := by cases s; rfl
@[simp] theorem State.setQueue_relayOut (s : State) (r : QRef) (q : QueueSt) : (s.setQueue r q).relayOut = s.relayOut := by cases s; rfl
@[simp] theorem State.setQueue_relayCtr (s : State) (r : QRef) (q : QueueSt) : (s.setQueue r q).relayCtr = s.relayCtr := by cases s; rfl
@[simp] theorem State.setQueue_boardSess (s : State) (r : QRef) (q : QueueSt) : (s.setQueue r q).boardSess = s.boardSess := by cases s; rfl
@[simp] theorem State.setQueue_i3c (s : State) (r : QRef) (q : QueueSt) : (s.setQueue r q).i3c = s.i3c := by cases s; rfl
@[simp] theorem State.setQueue_eid (s : State) (r : QRef) (q : QueueSt) : (s.setQueue r q).eid = s.eid := by cases s; rfl
@[simp] theorem State.setQueue_sensors (s : State) (r : QRef) (q : QueueSt) : (s.setQueue r q).sensors = s.sensors := by cases s; rfl
@[simp] theorem State.setQueue_agents (s : State) (r : QRef) (q : QueueSt) : (s.setQueue r q).agents = s.agents := by cases s; rfl
@[simp] theorem State.setQueue_ports (s : State) (r : QRef) (q : QueueSt) : (s.setQueue r q).ports = s.ports := by cases s; rfl
@[simp] theorem State.setQueue_transits (s : State) (r : QRef) (q : QueueSt) : (s.setQueue r q).transits = s.transits := by cases s; rfl
@[simp] theorem State.setQueue_d2d (s : State) (r : QRef) (q : QueueSt) : (s.setQueue r q).d2d = s.d2d := by cases s; rfl
@[simp] theorem State.setQueue_reserved (s : State) (r : QRef) (q : QueueSt) : (s.setQueue r q).reserved = s.reserved := by cases s; rfl
@[simp] theorem State.setQueue_tables (s : State) (r : QRef) (q : QueueSt) : (s.setQueue r q).tables = s.tables := by cases s; rfl
@[simp] theorem State.setQueue_d2dRuns (s : State) (r : QRef) (q : QueueSt) : (s.setQueue r q).d2dRuns = s.d2dRuns := by cases s; rfl
@[simp] theorem State.setQueue_xfers (s : State) (r : QRef) (q : QueueSt) : (s.setQueue r q).xfers = s.xfers := by cases s; rfl
@[simp] theorem State.setQueue_hotEngines (s : State) (r : QRef) (q : QueueSt) : (s.setQueue r q).hotEngines = s.hotEngines := by cases s; rfl
@[simp] theorem State.setQueue_boot (s : State) (r : QRef) (q : QueueSt) : (s.setQueue r q).boot = s.boot := by cases s; rfl
@[simp] theorem State.setQueue_plan (s : State) (r : QRef) (q : QueueSt) : (s.setQueue r q).plan = s.plan := by cases s; rfl
@[simp] theorem State.setQueue_bootPlan (s : State) (r : QRef) (q : QueueSt) : (s.setQueue r q).bootPlan = s.bootPlan := by cases s; rfl
@[simp] theorem State.setQueue_maxPlanSeq (s : State) (r : QRef) (q : QueueSt) : (s.setQueue r q).maxPlanSeq = s.maxPlanSeq := by cases s; rfl
@[simp] theorem State.setQueue_fwDigest (s : State) (r : QRef) (q : QueueSt) : (s.setQueue r q).fwDigest = s.fwDigest := by cases s; rfl
@[simp] theorem State.setQueue_fwComps (s : State) (r : QRef) (q : QueueSt) : (s.setQueue r q).fwComps = s.fwComps := by cases s; rfl
@[simp] theorem State.setQueue_flash (s : State) (r : QRef) (q : QueueSt) : (s.setQueue r q).flash = s.flash := by cases s; rfl
@[simp] theorem State.setQueue_fwStaged (s : State) (r : QRef) (q : QueueSt) : (s.setQueue r q).fwStaged = s.fwStaged := by cases s; rfl
@[simp] theorem State.setQueue_codeHeld (s : State) (r : QRef) (q : QueueSt) : (s.setQueue r q).codeHeld = s.codeHeld := by cases s; rfl
@[simp] theorem State.setQueue_codeStaged (s : State) (r : QRef) (q : QueueSt) : (s.setQueue r q).codeStaged = s.codeStaged := by cases s; rfl
@[simp] theorem State.setQueue_rcv (s : State) (r : QRef) (q : QueueSt) : (s.setQueue r q).rcv = s.rcv := by cases s; rfl
@[simp] theorem State.setQueue_dist (s : State) (r : QRef) (q : QueueSt) : (s.setQueue r q).dist = s.dist := by cases s; rfl
@[simp] theorem State.setQueue_mcReset (s : State) (r : QRef) (q : QueueSt) : (s.setQueue r q).mcReset = s.mcReset := by cases s; rfl
@[simp] theorem State.setQueue_dbgCounters (s : State) (r : QRef) (q : QueueSt) : (s.setQueue r q).dbgCounters = s.dbgCounters := by cases s; rfl
@[simp] theorem State.setQueue_unlocks (s : State) (r : QRef) (q : QueueSt) : (s.setQueue r q).unlocks = s.unlocks := by cases s; rfl
@[simp] theorem State.setQueue_power (s : State) (r : QRef) (q : QueueSt) : (s.setQueue r q).power = s.power := by cases s; rfl
@[simp] theorem State.setQueue_pkgPower (s : State) (r : QRef) (q : QueueSt) : (s.setQueue r q).pkgPower = s.pkgPower := by cases s; rfl
@[simp] theorem State.setQueue_ridge (s : State) (r : QRef) (q : QueueSt) : (s.setQueue r q).ridge = s.ridge := by cases s; rfl
@[simp] theorem State.setQueue_smt (s : State) (r : QRef) (q : QueueSt) : (s.setQueue r q).smt = s.smt := by cases s; rfl
@[simp] theorem State.setQueue_pairSess (s : State) (r : QRef) (q : QueueSt) : (s.setQueue r q).pairSess = s.pairSess := by cases s; rfl
@[simp] theorem State.setQueue_heldTerm (s : State) (r : QRef) (q : QueueSt) : (s.setQueue r q).heldTerm = s.heldTerm := by cases s; rfl
@[simp] theorem State.setQueue_heldBy (s : State) (r : QRef) (q : QueueSt) : (s.setQueue r q).heldBy = s.heldBy := by cases s; rfl
@[simp] theorem State.setQueue_rd (s : State) (r : QRef) (q : QueueSt) (za : Nat) : (s.setQueue r q).rd za = s.rd za := by simp [State.rd]
@[simp] theorem State.setQueue_fld (s : State) (r : QRef) (q : QueueSt) (zp : Page) (zf : Field) : (s.setQueue r q).fld zp zf = s.fld zp zf := by simp [State.fld]
@[simp] theorem State.setQueue_flag (s : State) (r : QRef) (q : QueueSt) (zp : Page) (zf : Field) : (s.setQueue r q).flag zp zf = s.flag zp zf := by simp [State.flag]
@[simp] theorem State.setQueue_counter (s : State) (r : QRef) (q : QueueSt) (zp : Page) (zoff : Nat) : (s.setQueue r q).counter zp zoff = s.counter zp zoff := by unfold State.counter; rw [State.setQueue_rd, State.setQueue_rd]
@[simp] theorem State.setQueue_counterOvf (s : State) (r : QRef) (q : QueueSt) (zp : Page) (zoff : Nat) : (s.setQueue r q).counterOvf zp zoff = s.counterOvf zp zoff := by simp [State.counterOvf]
@[simp] theorem State.setQueue_inReset (s : State) (r : QRef) (q : QueueSt) (zd : Die) : (s.setQueue r q).inReset zd = s.inReset zd := by simp [State.inReset]
@[simp] theorem State.setQueue_partState (s : State) (r : QRef) (q : QueueSt) (zp : Part) : (s.setQueue r q).partState zp = s.partState zp := by simp [State.partState]
@[simp] theorem State.setQueue_partFenced (s : State) (r : QRef) (q : QueueSt) (zp : Part) : (s.setQueue r q).partFenced zp = s.partFenced zp := by simp [State.partFenced]
@[simp] theorem State.setQueue_lnk (s : State) (r : QRef) (q : QueueSt) (zq : Port) : (s.setQueue r q).lnk zq = s.lnk zq := by simp [State.lnk]
@[simp] theorem State.setQueue_memRange (s : State) (r : QRef) (q : QueueSt) (zc : CDie) (zp : Part) (zi : Nat) : (s.setQueue r q).memRange zc zp zi = s.memRange zc zp zi := by simp [State.memRange]
@[simp] theorem State.setQueue_tarnAlloc (s : State) (r : QRef) (q : QueueSt) (zc : CDie) (zp : Part) : (s.setQueue r q).tarnAlloc zc zp = s.tarnAlloc zc zp := by simp [State.tarnAlloc]
@[simp] theorem State.setQueue_cairnRange (s : State) (r : QRef) (q : QueueSt) (zc : CDie) (zp : Part) : (s.setQueue r q).cairnRange zc zp = s.cairnRange zc zp := by simp [State.cairnRange]
@[simp] theorem State.setQueue_winOpen (s : State) (r : QRef) (q : QueueSt) (zp : Part) : (s.setQueue r q).winOpen zp = s.winOpen zp := by simp [State.winOpen]
@[simp] theorem State.setQueue_vfOn (s : State) (r : QRef) (q : QueueSt) (zp : Part) : (s.setQueue r q).vfOn zp = s.vfOn zp := by simp [State.vfOn]
@[simp] theorem State.setQueue_msfState (s : State) (r : QRef) (q : QueueSt) (zc : CDie) : (s.setQueue r q).msfState zc = s.msfState zc := by simp [State.msfState]
@[simp] theorem State.setQueue_stepK (s : State) (r : QRef) (q : QueueSt) (zc : CDie) : (s.setQueue r q).stepK zc = s.stepK zc := by simp [State.stepK]
@[simp] theorem State.setQueue_injection (s : State) (r : QRef) (q : QueueSt) (zp : Page) (zchecker : Nat) : (s.setQueue r q).injection zp zchecker = s.injection zp zchecker := by simp [State.injection]
@[simp] theorem State.setQueue_disc (s : State) (r : QRef) (q : QueueSt) : (s.setQueue r q).disc = s.disc := by simp [State.disc]
@[simp] theorem State.setQueue_pairSt (s : State) (r : QRef) (q : QueueSt) : (s.setQueue r q).pairSt = s.pairSt := by simp [State.pairSt]
@[simp] theorem State.setQueue_now (s : State) (r : QRef) (q : QueueSt) (zd : Die) : (s.setQueue r q).now zd = s.now zd := by simp [State.now]
@[simp] theorem State.setQueue_array (s : State) (r : QRef) (q : QueueSt) (zc : CDie) : (s.setQueue r q).array zc = s.array zc := by simp [State.array]
@[simp] theorem State.setQueue_partQ (s : State) (r : QRef) (q : QueueSt) (zp : Part) : (s.setQueue r q).part? zp = s.part? zp := by simp [State.part?]
@[simp] theorem State.setQueue_isConf (s : State) (r : QRef) (q : QueueSt) (zp : Part) : (s.setQueue r q).isConf zp = s.isConf zp := by simp [State.isConf]
@[simp] theorem State.setQueue_chan (s : State) (r : QRef) (q : QueueSt) (zk : Nat) : (s.setQueue r q).chan zk = s.chan zk := by simp [State.chan]
@[simp] theorem State.setQueue_agent (s : State) (r : QRef) (q : QueueSt) (zk : PDie) : (s.setQueue r q).agent zk = s.agent zk := by simp [State.agent]
@[simp] theorem State.setQueue_port (s : State) (r : QRef) (q : QueueSt) (zq : Port) : (s.setQueue r q).port zq = s.port zq := by simp [State.port]
@[simp] theorem State.setQueue_core (s : State) (r : QRef) (q : QueueSt) (zc : CDie) (zk : Core) : (s.setQueue r q).core zc zk = s.core zc zk := by simp [State.core]
@[simp] theorem State.setQueue_cairn (s : State) (r : QRef) (q : QueueSt) (zc : CDie) (zn : Nat) : (s.setQueue r q).cairn zc zn = s.cairn zc zn := by simp [State.cairn]
@[simp] theorem State.setQueue_fn (s : State) (r : QRef) (q : QueueSt) (zf : Fn) : (s.setQueue r q).fn zf = s.fn zf := by simp [State.fn]
@[simp] theorem State.setQueue_wkey (s : State) (r : QRef) (q : QueueSt) (zp : Part) (zprev : Bool) : (s.setQueue r q).wkey zp zprev = s.wkey zp zprev := by simp [State.wkey]
@[simp] theorem State.setQueue_memByte (s : State) (r : QRef) (q : QueueSt) (zc : CDie) (zoff : Nat) : (s.setQueue r q).memByte zc zoff = s.memByte zc zoff := by simp [State.memByte]
@[simp] theorem State.setQueue_memGet (s : State) (r : QRef) (q : QueueSt) (zc : CDie) (zoff : Nat) (zn : Nat) : (s.setQueue r q).memGet zc zoff zn = s.memGet zc zoff zn := by simp [State.memGet]
@[simp] theorem State.setQueue_tarnByte (s : State) (r : QRef) (q : QueueSt) (zc : CDie) (zoff : Nat) : (s.setQueue r q).tarnByte zc zoff = s.tarnByte zc zoff := by simp [State.tarnByte]
@[simp] theorem State.setQueue_tarnGet (s : State) (r : QRef) (q : QueueSt) (zc : CDie) (zoff : Nat) (zn : Nat) : (s.setQueue r q).tarnGet zc zoff zn = s.tarnGet zc zoff zn := by simp [State.tarnGet]
@[simp] theorem State.setQueue_dieDown (s : State) (r : QRef) (q : QueueSt) (zc : CDie) : (s.setQueue r q).dieDown zc = s.dieDown zc := by simp [State.dieDown]
@[simp] theorem State.setQueue_nparts (s : State) (r : QRef) (q : QueueSt) : (s.setQueue r q).nparts = s.nparts := by simp [State.nparts]
@[simp] theorem State.setQueue_memWf (s : State) (r : QRef) (q : QueueSt) : (s.setQueue r q).memWf = s.memWf := by simp [State.memWf]
@[simp] theorem State.setQueue_quiet (s : State) (r : QRef) (q : QueueSt) : (s.setQueue r q).quiet = s.quiet := by simp [State.quiet]
@[simp] theorem State.setQueue_settled (s : State) (r : QRef) (q : QueueSt) : (s.setQueue r q).settled = s.settled := by simp [State.settled]

/-! `setPartState` writes regs alone. -/

@[simp] theorem State.setPartState_pending (s : State) (p : Part) (v : Nat) : (s.setPartState p v).pending = s.pending := State.setFld_pending s _ _ _
@[simp] theorem State.setPartState_out (s : State) (p : Part) (v : Nat) : (s.setPartState p v).out = s.out := State.setFld_out s _ _ _
@[simp] theorem State.setPartState_freeCtr (s : State) (p : Part) (v : Nat) : (s.setPartState p v).freeCtr = s.freeCtr := State.setFld_freeCtr s _ _ _
@[simp] theorem State.setPartState_mgmtOn (s : State) (p : Part) (v : Nat) : (s.setPartState p v).mgmtOn = s.mgmtOn := State.setFld_mgmtOn s _ _ _
@[simp] theorem State.setPartState_fuses (s : State) (p : Part) (v : Nat) : (s.setPartState p v).fuses = s.fuses := State.setFld_fuses s _ _ _
@[simp] theorem State.setPartState_straps (s : State) (p : Part) (v : Nat) : (s.setPartState p v).straps = s.straps := State.setFld_straps s _ _ _
@[simp] theorem State.setPartState_pos (s : State) (p : Part) (v : Nat) : (s.setPartState p v).pos = s.pos := State.setFld_pos s _ _ _
@[simp] theorem State.setPartState_latches (s : State) (p : Part) (v : Nat) : (s.setPartState p v).latches = s.latches := State.setFld_latches s _ _ _
@[simp] theorem State.setPartState_gtime (s : State) (p : Part) (v : Nat) : (s.setPartState p v).gtime = s.gtime := State.setFld_gtime s _ _ _
@[simp] theorem State.setPartState_fclk (s : State) (p : Part) (v : Nat) : (s.setPartState p v).fclk = s.fclk := State.setFld_fclk s _ _ _
@[simp] theorem State.setPartState_mem (s : State) (p : Part) (v : Nat) : (s.setPartState p v).mem = s.mem := State.setFld_mem s _ _ _
@[simp] theorem State.setPartState_tarn (s : State) (p : Part) (v : Nat) : (s.setPartState p v).tarn = s.tarn := State.setFld_tarn s _ _ _
@[simp] theorem State.setPartState_rowErrs (s : State) (p : Part) (v : Nat) : (s.setPartState p v).rowErrs = s.rowErrs := State.setFld_rowErrs s _ _ _
@[simp] theorem State.setPartState_remaps (s : State) (p : Part) (v : Nat) : (s.setPartState p v).remaps = s.remaps := State.setFld_remaps s _ _ _
@[simp] theorem State.setPartState_savedRemaps (s : State) (p : Part) (v : Nat) : (s.setPartState p v).savedRemaps = s.savedRemaps := State.setFld_savedRemaps s _ _ _
@[simp] theorem State.setPartState_repairLog (s : State) (p : Part) (v : Nat) : (s.setPartState p v).repairLog = s.repairLog := State.setFld_repairLog s _ _ _
@[simp] theorem State.setPartState_badSectors (s : State) (p : Part) (v : Nat) : (s.setPartState p v).badSectors = s.badSectors := State.setFld_badSectors s _ _ _
@[simp] theorem State.setPartState_memFenced (s : State) (p : Part) (v : Nat) : (s.setPartState p v).memFenced = s.memFenced := State.setFld_memFenced s _ _ _
@[simp] theorem State.setPartState_mappedGran (s : State) (p : Part) (v : Nat) : (s.setPartState p v).mappedGran = s.mappedGran := State.setFld_mappedGran s _ _ _
@[simp] theorem State.setPartState_zeroOrders (s : State) (p : Part) (v : Nat) : (s.setPartState p v).zeroOrders = s.zeroOrders := State.setFld_zeroOrders s _ _ _
@[simp] theorem State.setPartState_arrays (s : State) (p : Part) (v : Nat) : (s.setPartState p v).arrays = s.arrays := State.setFld_arrays s _ _ _
@[simp] theorem State.setPartState_repairLines (s : State) (p : Part) (v : Nat) : (s.setPartState p v).repairLines = s.repairLines := State.setFld_repairLines s _ _ _
@[simp] theorem State.setPartState_queues (s : State) (p : Part) (v : Nat) : (s.setPartState p v).queues = s.queues := State.setFld_queues s _ _ _
@[simp] theorem State.setPartState_cairns (s : State) (p : Part) (v : Nat) : (s.setPartState p v).cairns = s.cairns := State.setFld_cairns s _ _ _
@[simp] theorem State.setPartState_tracks (s : State) (p : Part) (v : Nat) : (s.setPartState p v).tracks = s.tracks := State.setFld_tracks s _ _ _
@[simp] theorem State.setPartState_cores (s : State) (p : Part) (v : Nat) : (s.setPartState p v).cores = s.cores := State.setFld_cores s _ _ _
@[simp] theorem State.setPartState_dispatches (s : State) (p : Part) (v : Nat) : (s.setPartState p v).dispatches = s.dispatches := State.setFld_dispatches s _ _ _
@[simp] theorem State.setPartState_dmaRuns (s : State) (p : Part) (v : Nat) : (s.setPartState p v).dmaRuns = s.dmaRuns := State.setFld_dmaRuns s _ _ _
@[simp] theorem State.setPartState_requests (s : State) (p : Part) (v : Nat) : (s.setPartState p v).requests = s.requests := State.setFld_requests s _ _ _
@[simp] theorem State.setPartState_windows (s : State) (p : Part) (v : Nat) : (s.setPartState p v).windows = s.windows := State.setFld_windows s _ _ _
@[simp] theorem State.setPartState_respUse (s : State) (p : Part) (v : Nat) : (s.setPartState p v).respUse = s.respUse := State.setFld_respUse s _ _ _
@[simp] theorem State.setPartState_nextXid (s : State) (p : Part) (v : Nat) : (s.setPartState p v).nextXid = s.nextXid := State.setFld_nextXid s _ _ _
@[simp] theorem State.setPartState_nextId (s : State) (p : Part) (v : Nat) : (s.setPartState p v).nextId = s.nextId := State.setFld_nextId s _ _ _
@[simp] theorem State.setPartState_parts (s : State) (p : Part) (v : Nat) : (s.setPartState p v).parts = s.parts := State.setFld_parts s _ _ _
@[simp] theorem State.setPartState_wkeys (s : State) (p : Part) (v : Nat) : (s.setPartState p v).wkeys = s.wkeys := State.setFld_wkeys s _ _ _
@[simp] theorem State.setPartState_staging (s : State) (p : Part) (v : Nat) : (s.setPartState p v).staging = s.staging := State.setFld_staging s _ _ _
@[simp] theorem State.setPartState_fltLog (s : State) (p : Part) (v : Nat) : (s.setPartState p v).fltLog = s.fltLog := State.setFld_fltLog s _ _ _
@[simp] theorem State.setPartState_recoveryTimes (s : State) (p : Part) (v : Nat) : (s.setPartState p v).recoveryTimes = s.recoveryTimes := State.setFld_recoveryTimes s _ _ _
@[simp] theorem State.setPartState_quietPages (s : State) (p : Part) (v : Nat) : (s.setPartState p v).quietPages = s.quietPages := State.setFld_quietPages s _ _ _
@[simp] theorem State.setPartState_quietParts (s : State) (p : Part) (v : Nat) : (s.setPartState p v).quietParts = s.quietParts := State.setFld_quietParts s _ _ _
@[simp] theorem State.setPartState_fencedDies (s : State) (p : Part) (v : Nat) : (s.setPartState p v).fencedDies = s.fencedDies := State.setFld_fencedDies s _ _ _
@[simp] theorem State.setPartState_lostRails (s : State) (p : Part) (v : Nat) : (s.setPartState p v).lostRails = s.lostRails := State.setFld_lostRails s _ _ _
@[simp] theorem State.setPartState_thermtrip (s : State) (p : Part) (v : Nat) : (s.setPartState p v).thermtrip = s.thermtrip := State.setFld_thermtrip s _ _ _
@[simp] theorem State.setPartState_chans (s : State) (p : Part) (v : Nat) : (s.setPartState p v).chans = s.chans := State.setFld_chans s _ _ _
@[simp] theorem State.setPartState_fns (s : State) (p : Part) (v : Nat) : (s.setPartState p v).fns = s.fns := State.setFld_fns s _ _ _
@[simp] theorem State.setPartState_bar2 (s : State) (p : Part) (v : Nat) : (s.setPartState p v).bar2 = s.bar2 := State.setFld_bar2 s _ _ _
@[simp] theorem State.setPartState_held (s : State) (p : Part) (v : Nat) : (s.setPartState p v).held = s.held := State.setFld_held s _ _ _
@[simp] theorem State.setPartState_relayOut (s : State) (p : Part) (v : Nat) : (s.setPartState p v).relayOut = s.relayOut := State.setFld_relayOut s _ _ _
@[simp] theorem State.setPartState_relayCtr (s : State) (p : Part) (v : Nat) : (s.setPartState p v).relayCtr = s.relayCtr := State.setFld_relayCtr s _ _ _
@[simp] theorem State.setPartState_boardSess (s : State) (p : Part) (v : Nat) : (s.setPartState p v).boardSess = s.boardSess := State.setFld_boardSess s _ _ _
@[simp] theorem State.setPartState_i3c (s : State) (p : Part) (v : Nat) : (s.setPartState p v).i3c = s.i3c := State.setFld_i3c s _ _ _
@[simp] theorem State.setPartState_eid (s : State) (p : Part) (v : Nat) : (s.setPartState p v).eid = s.eid := State.setFld_eid s _ _ _
@[simp] theorem State.setPartState_sensors (s : State) (p : Part) (v : Nat) : (s.setPartState p v).sensors = s.sensors := State.setFld_sensors s _ _ _
@[simp] theorem State.setPartState_agents (s : State) (p : Part) (v : Nat) : (s.setPartState p v).agents = s.agents := State.setFld_agents s _ _ _
@[simp] theorem State.setPartState_ports (s : State) (p : Part) (v : Nat) : (s.setPartState p v).ports = s.ports := State.setFld_ports s _ _ _
@[simp] theorem State.setPartState_transits (s : State) (p : Part) (v : Nat) : (s.setPartState p v).transits = s.transits := State.setFld_transits s _ _ _
@[simp] theorem State.setPartState_d2d (s : State) (p : Part) (v : Nat) : (s.setPartState p v).d2d = s.d2d := State.setFld_d2d s _ _ _
@[simp] theorem State.setPartState_reserved (s : State) (p : Part) (v : Nat) : (s.setPartState p v).reserved = s.reserved := State.setFld_reserved s _ _ _
@[simp] theorem State.setPartState_tables (s : State) (p : Part) (v : Nat) : (s.setPartState p v).tables = s.tables := State.setFld_tables s _ _ _
@[simp] theorem State.setPartState_d2dRuns (s : State) (p : Part) (v : Nat) : (s.setPartState p v).d2dRuns = s.d2dRuns := State.setFld_d2dRuns s _ _ _
@[simp] theorem State.setPartState_xfers (s : State) (p : Part) (v : Nat) : (s.setPartState p v).xfers = s.xfers := State.setFld_xfers s _ _ _
@[simp] theorem State.setPartState_hotEngines (s : State) (p : Part) (v : Nat) : (s.setPartState p v).hotEngines = s.hotEngines := State.setFld_hotEngines s _ _ _
@[simp] theorem State.setPartState_boot (s : State) (p : Part) (v : Nat) : (s.setPartState p v).boot = s.boot := State.setFld_boot s _ _ _
@[simp] theorem State.setPartState_plan (s : State) (p : Part) (v : Nat) : (s.setPartState p v).plan = s.plan := State.setFld_plan s _ _ _
@[simp] theorem State.setPartState_bootPlan (s : State) (p : Part) (v : Nat) : (s.setPartState p v).bootPlan = s.bootPlan := State.setFld_bootPlan s _ _ _
@[simp] theorem State.setPartState_maxPlanSeq (s : State) (p : Part) (v : Nat) : (s.setPartState p v).maxPlanSeq = s.maxPlanSeq := State.setFld_maxPlanSeq s _ _ _
@[simp] theorem State.setPartState_fwDigest (s : State) (p : Part) (v : Nat) : (s.setPartState p v).fwDigest = s.fwDigest := State.setFld_fwDigest s _ _ _
@[simp] theorem State.setPartState_fwComps (s : State) (p : Part) (v : Nat) : (s.setPartState p v).fwComps = s.fwComps := State.setFld_fwComps s _ _ _
@[simp] theorem State.setPartState_flash (s : State) (p : Part) (v : Nat) : (s.setPartState p v).flash = s.flash := State.setFld_flash s _ _ _
@[simp] theorem State.setPartState_fwStaged (s : State) (p : Part) (v : Nat) : (s.setPartState p v).fwStaged = s.fwStaged := State.setFld_fwStaged s _ _ _
@[simp] theorem State.setPartState_codeHeld (s : State) (p : Part) (v : Nat) : (s.setPartState p v).codeHeld = s.codeHeld := State.setFld_codeHeld s _ _ _
@[simp] theorem State.setPartState_codeStaged (s : State) (p : Part) (v : Nat) : (s.setPartState p v).codeStaged = s.codeStaged := State.setFld_codeStaged s _ _ _
@[simp] theorem State.setPartState_rcv (s : State) (p : Part) (v : Nat) : (s.setPartState p v).rcv = s.rcv := State.setFld_rcv s _ _ _
@[simp] theorem State.setPartState_dist (s : State) (p : Part) (v : Nat) : (s.setPartState p v).dist = s.dist := State.setFld_dist s _ _ _
@[simp] theorem State.setPartState_mcReset (s : State) (p : Part) (v : Nat) : (s.setPartState p v).mcReset = s.mcReset := State.setFld_mcReset s _ _ _
@[simp] theorem State.setPartState_dbgCounters (s : State) (p : Part) (v : Nat) : (s.setPartState p v).dbgCounters = s.dbgCounters := State.setFld_dbgCounters s _ _ _
@[simp] theorem State.setPartState_unlocks (s : State) (p : Part) (v : Nat) : (s.setPartState p v).unlocks = s.unlocks := State.setFld_unlocks s _ _ _
@[simp] theorem State.setPartState_power (s : State) (p : Part) (v : Nat) : (s.setPartState p v).power = s.power := State.setFld_power s _ _ _
@[simp] theorem State.setPartState_pkgPower (s : State) (p : Part) (v : Nat) : (s.setPartState p v).pkgPower = s.pkgPower := State.setFld_pkgPower s _ _ _
@[simp] theorem State.setPartState_ridge (s : State) (p : Part) (v : Nat) : (s.setPartState p v).ridge = s.ridge := State.setFld_ridge s _ _ _
@[simp] theorem State.setPartState_smt (s : State) (p : Part) (v : Nat) : (s.setPartState p v).smt = s.smt := State.setFld_smt s _ _ _
@[simp] theorem State.setPartState_pairSess (s : State) (p : Part) (v : Nat) : (s.setPartState p v).pairSess = s.pairSess := State.setFld_pairSess s _ _ _
@[simp] theorem State.setPartState_heldTerm (s : State) (p : Part) (v : Nat) : (s.setPartState p v).heldTerm = s.heldTerm := State.setFld_heldTerm s _ _ _
@[simp] theorem State.setPartState_heldBy (s : State) (p : Part) (v : Nat) : (s.setPartState p v).heldBy = s.heldBy := State.setFld_heldBy s _ _ _
@[simp] theorem State.setPartState_now (s : State) (p : Part) (v : Nat) (zd : Die) : (s.setPartState p v).now zd = s.now zd := by simp [State.now]
@[simp] theorem State.setPartState_array (s : State) (p : Part) (v : Nat) (zc : CDie) : (s.setPartState p v).array zc = s.array zc := by simp [State.array]
@[simp] theorem State.setPartState_queue (s : State) (p : Part) (v : Nat) (zr : QRef) : (s.setPartState p v).queue zr = s.queue zr := by simp [State.queue]
@[simp] theorem State.setPartState_partQ (s : State) (p : Part) (v : Nat) (zp : Part) : (s.setPartState p v).part? zp = s.part? zp := by simp [State.part?]
@[simp] theorem State.setPartState_isConf (s : State) (p : Part) (v : Nat) (zp : Part) : (s.setPartState p v).isConf zp = s.isConf zp := by simp [State.isConf]
@[simp] theorem State.setPartState_chan (s : State) (p : Part) (v : Nat) (zk : Nat) : (s.setPartState p v).chan zk = s.chan zk := by simp [State.chan]
@[simp] theorem State.setPartState_agent (s : State) (p : Part) (v : Nat) (zk : PDie) : (s.setPartState p v).agent zk = s.agent zk := by simp [State.agent]
@[simp] theorem State.setPartState_port (s : State) (p : Part) (v : Nat) (zq : Port) : (s.setPartState p v).port zq = s.port zq := by simp [State.port]
@[simp] theorem State.setPartState_core (s : State) (p : Part) (v : Nat) (zc : CDie) (zk : Core) : (s.setPartState p v).core zc zk = s.core zc zk := by simp [State.core]
@[simp] theorem State.setPartState_cairn (s : State) (p : Part) (v : Nat) (zc : CDie) (zn : Nat) : (s.setPartState p v).cairn zc zn = s.cairn zc zn := by simp [State.cairn]
@[simp] theorem State.setPartState_fn (s : State) (p : Part) (v : Nat) (zf : Fn) : (s.setPartState p v).fn zf = s.fn zf := by simp [State.fn]
@[simp] theorem State.setPartState_wkey (s : State) (p : Part) (v : Nat) (zp : Part) (zprev : Bool) : (s.setPartState p v).wkey zp zprev = s.wkey zp zprev := by simp [State.wkey]
@[simp] theorem State.setPartState_memByte (s : State) (p : Part) (v : Nat) (zc : CDie) (zoff : Nat) : (s.setPartState p v).memByte zc zoff = s.memByte zc zoff := by simp [State.memByte]
@[simp] theorem State.setPartState_memGet (s : State) (p : Part) (v : Nat) (zc : CDie) (zoff : Nat) (zn : Nat) : (s.setPartState p v).memGet zc zoff zn = s.memGet zc zoff zn := by simp [State.memGet]
@[simp] theorem State.setPartState_tarnByte (s : State) (p : Part) (v : Nat) (zc : CDie) (zoff : Nat) : (s.setPartState p v).tarnByte zc zoff = s.tarnByte zc zoff := by simp [State.tarnByte]
@[simp] theorem State.setPartState_tarnGet (s : State) (p : Part) (v : Nat) (zc : CDie) (zoff : Nat) (zn : Nat) : (s.setPartState p v).tarnGet zc zoff zn = s.tarnGet zc zoff zn := by simp [State.tarnGet]
@[simp] theorem State.setPartState_nparts (s : State) (p : Part) (v : Nat) : (s.setPartState p v).nparts = s.nparts := by simp [State.nparts]
@[simp] theorem State.setPartState_memWf (s : State) (p : Part) (v : Nat) : (s.setPartState p v).memWf = s.memWf := by simp [State.memWf]
@[simp] theorem State.setPartState_quiet (s : State) (p : Part) (v : Nat) : (s.setPartState p v).quiet = s.quiet := by simp [State.quiet]
@[simp] theorem State.setPartState_settled (s : State) (p : Part) (v : Nat) : (s.setPartState p v).settled = s.settled := by simp [State.settled]

/-! `setPart` writes parts alone. -/

@[simp] theorem State.setPart_pending (s : State) (p : Part) (x : Option PartSt) : (s.setPart p x).pending = s.pending := by cases s; rfl
@[simp] theorem State.setPart_out (s : State) (p : Part) (x : Option PartSt) : (s.setPart p x).out = s.out := by cases s; rfl
@[simp] theorem State.setPart_freeCtr (s : State) (p : Part) (x : Option PartSt) : (s.setPart p x).freeCtr = s.freeCtr := by cases s; rfl
@[simp] theorem State.setPart_mgmtOn (s : State) (p : Part) (x : Option PartSt) : (s.setPart p x).mgmtOn = s.mgmtOn := by cases s; rfl
@[simp] theorem State.setPart_fuses (s : State) (p : Part) (x : Option PartSt) : (s.setPart p x).fuses = s.fuses := by cases s; rfl
@[simp] theorem State.setPart_straps (s : State) (p : Part) (x : Option PartSt) : (s.setPart p x).straps = s.straps := by cases s; rfl
@[simp] theorem State.setPart_pos (s : State) (p : Part) (x : Option PartSt) : (s.setPart p x).pos = s.pos := by cases s; rfl
@[simp] theorem State.setPart_regs (s : State) (p : Part) (x : Option PartSt) : (s.setPart p x).regs = s.regs := by cases s; rfl
@[simp] theorem State.setPart_latches (s : State) (p : Part) (x : Option PartSt) : (s.setPart p x).latches = s.latches := by cases s; rfl
@[simp] theorem State.setPart_gtime (s : State) (p : Part) (x : Option PartSt) : (s.setPart p x).gtime = s.gtime := by cases s; rfl
@[simp] theorem State.setPart_fclk (s : State) (p : Part) (x : Option PartSt) : (s.setPart p x).fclk = s.fclk := by cases s; rfl
@[simp] theorem State.setPart_mem (s : State) (p : Part) (x : Option PartSt) : (s.setPart p x).mem = s.mem := by cases s; rfl
@[simp] theorem State.setPart_tarn (s : State) (p : Part) (x : Option PartSt) : (s.setPart p x).tarn = s.tarn := by cases s; rfl
@[simp] theorem State.setPart_rowErrs (s : State) (p : Part) (x : Option PartSt) : (s.setPart p x).rowErrs = s.rowErrs := by cases s; rfl
@[simp] theorem State.setPart_remaps (s : State) (p : Part) (x : Option PartSt) : (s.setPart p x).remaps = s.remaps := by cases s; rfl
@[simp] theorem State.setPart_savedRemaps (s : State) (p : Part) (x : Option PartSt) : (s.setPart p x).savedRemaps = s.savedRemaps := by cases s; rfl
@[simp] theorem State.setPart_repairLog (s : State) (p : Part) (x : Option PartSt) : (s.setPart p x).repairLog = s.repairLog := by cases s; rfl
@[simp] theorem State.setPart_badSectors (s : State) (p : Part) (x : Option PartSt) : (s.setPart p x).badSectors = s.badSectors := by cases s; rfl
@[simp] theorem State.setPart_memFenced (s : State) (p : Part) (x : Option PartSt) : (s.setPart p x).memFenced = s.memFenced := by cases s; rfl
@[simp] theorem State.setPart_mappedGran (s : State) (p : Part) (x : Option PartSt) : (s.setPart p x).mappedGran = s.mappedGran := by cases s; rfl
@[simp] theorem State.setPart_zeroOrders (s : State) (p : Part) (x : Option PartSt) : (s.setPart p x).zeroOrders = s.zeroOrders := by cases s; rfl
@[simp] theorem State.setPart_arrays (s : State) (p : Part) (x : Option PartSt) : (s.setPart p x).arrays = s.arrays := by cases s; rfl
@[simp] theorem State.setPart_repairLines (s : State) (p : Part) (x : Option PartSt) : (s.setPart p x).repairLines = s.repairLines := by cases s; rfl
@[simp] theorem State.setPart_queues (s : State) (p : Part) (x : Option PartSt) : (s.setPart p x).queues = s.queues := by cases s; rfl
@[simp] theorem State.setPart_cairns (s : State) (p : Part) (x : Option PartSt) : (s.setPart p x).cairns = s.cairns := by cases s; rfl
@[simp] theorem State.setPart_tracks (s : State) (p : Part) (x : Option PartSt) : (s.setPart p x).tracks = s.tracks := by cases s; rfl
@[simp] theorem State.setPart_cores (s : State) (p : Part) (x : Option PartSt) : (s.setPart p x).cores = s.cores := by cases s; rfl
@[simp] theorem State.setPart_dispatches (s : State) (p : Part) (x : Option PartSt) : (s.setPart p x).dispatches = s.dispatches := by cases s; rfl
@[simp] theorem State.setPart_dmaRuns (s : State) (p : Part) (x : Option PartSt) : (s.setPart p x).dmaRuns = s.dmaRuns := by cases s; rfl
@[simp] theorem State.setPart_requests (s : State) (p : Part) (x : Option PartSt) : (s.setPart p x).requests = s.requests := by cases s; rfl
@[simp] theorem State.setPart_windows (s : State) (p : Part) (x : Option PartSt) : (s.setPart p x).windows = s.windows := by cases s; rfl
@[simp] theorem State.setPart_respUse (s : State) (p : Part) (x : Option PartSt) : (s.setPart p x).respUse = s.respUse := by cases s; rfl
@[simp] theorem State.setPart_nextXid (s : State) (p : Part) (x : Option PartSt) : (s.setPart p x).nextXid = s.nextXid := by cases s; rfl
@[simp] theorem State.setPart_nextId (s : State) (p : Part) (x : Option PartSt) : (s.setPart p x).nextId = s.nextId := by cases s; rfl
@[simp] theorem State.setPart_wkeys (s : State) (p : Part) (x : Option PartSt) : (s.setPart p x).wkeys = s.wkeys := by cases s; rfl
@[simp] theorem State.setPart_staging (s : State) (p : Part) (x : Option PartSt) : (s.setPart p x).staging = s.staging := by cases s; rfl
@[simp] theorem State.setPart_fltLog (s : State) (p : Part) (x : Option PartSt) : (s.setPart p x).fltLog = s.fltLog := by cases s; rfl
@[simp] theorem State.setPart_recoveryTimes (s : State) (p : Part) (x : Option PartSt) : (s.setPart p x).recoveryTimes = s.recoveryTimes := by cases s; rfl
@[simp] theorem State.setPart_quietPages (s : State) (p : Part) (x : Option PartSt) : (s.setPart p x).quietPages = s.quietPages := by cases s; rfl
@[simp] theorem State.setPart_quietParts (s : State) (p : Part) (x : Option PartSt) : (s.setPart p x).quietParts = s.quietParts := by cases s; rfl
@[simp] theorem State.setPart_fencedDies (s : State) (p : Part) (x : Option PartSt) : (s.setPart p x).fencedDies = s.fencedDies := by cases s; rfl
@[simp] theorem State.setPart_lostRails (s : State) (p : Part) (x : Option PartSt) : (s.setPart p x).lostRails = s.lostRails := by cases s; rfl
@[simp] theorem State.setPart_thermtrip (s : State) (p : Part) (x : Option PartSt) : (s.setPart p x).thermtrip = s.thermtrip := by cases s; rfl
@[simp] theorem State.setPart_chans (s : State) (p : Part) (x : Option PartSt) : (s.setPart p x).chans = s.chans := by cases s; rfl
@[simp] theorem State.setPart_fns (s : State) (p : Part) (x : Option PartSt) : (s.setPart p x).fns = s.fns := by cases s; rfl
@[simp] theorem State.setPart_bar2 (s : State) (p : Part) (x : Option PartSt) : (s.setPart p x).bar2 = s.bar2 := by cases s; rfl
@[simp] theorem State.setPart_held (s : State) (p : Part) (x : Option PartSt) : (s.setPart p x).held = s.held := by cases s; rfl
@[simp] theorem State.setPart_relayOut (s : State) (p : Part) (x : Option PartSt) : (s.setPart p x).relayOut = s.relayOut := by cases s; rfl
@[simp] theorem State.setPart_relayCtr (s : State) (p : Part) (x : Option PartSt) : (s.setPart p x).relayCtr = s.relayCtr := by cases s; rfl
@[simp] theorem State.setPart_boardSess (s : State) (p : Part) (x : Option PartSt) : (s.setPart p x).boardSess = s.boardSess := by cases s; rfl
@[simp] theorem State.setPart_i3c (s : State) (p : Part) (x : Option PartSt) : (s.setPart p x).i3c = s.i3c := by cases s; rfl
@[simp] theorem State.setPart_eid (s : State) (p : Part) (x : Option PartSt) : (s.setPart p x).eid = s.eid := by cases s; rfl
@[simp] theorem State.setPart_sensors (s : State) (p : Part) (x : Option PartSt) : (s.setPart p x).sensors = s.sensors := by cases s; rfl
@[simp] theorem State.setPart_agents (s : State) (p : Part) (x : Option PartSt) : (s.setPart p x).agents = s.agents := by cases s; rfl
@[simp] theorem State.setPart_ports (s : State) (p : Part) (x : Option PartSt) : (s.setPart p x).ports = s.ports := by cases s; rfl
@[simp] theorem State.setPart_transits (s : State) (p : Part) (x : Option PartSt) : (s.setPart p x).transits = s.transits := by cases s; rfl
@[simp] theorem State.setPart_d2d (s : State) (p : Part) (x : Option PartSt) : (s.setPart p x).d2d = s.d2d := by cases s; rfl
@[simp] theorem State.setPart_reserved (s : State) (p : Part) (x : Option PartSt) : (s.setPart p x).reserved = s.reserved := by cases s; rfl
@[simp] theorem State.setPart_tables (s : State) (p : Part) (x : Option PartSt) : (s.setPart p x).tables = s.tables := by cases s; rfl
@[simp] theorem State.setPart_d2dRuns (s : State) (p : Part) (x : Option PartSt) : (s.setPart p x).d2dRuns = s.d2dRuns := by cases s; rfl
@[simp] theorem State.setPart_xfers (s : State) (p : Part) (x : Option PartSt) : (s.setPart p x).xfers = s.xfers := by cases s; rfl
@[simp] theorem State.setPart_hotEngines (s : State) (p : Part) (x : Option PartSt) : (s.setPart p x).hotEngines = s.hotEngines := by cases s; rfl
@[simp] theorem State.setPart_boot (s : State) (p : Part) (x : Option PartSt) : (s.setPart p x).boot = s.boot := by cases s; rfl
@[simp] theorem State.setPart_plan (s : State) (p : Part) (x : Option PartSt) : (s.setPart p x).plan = s.plan := by cases s; rfl
@[simp] theorem State.setPart_bootPlan (s : State) (p : Part) (x : Option PartSt) : (s.setPart p x).bootPlan = s.bootPlan := by cases s; rfl
@[simp] theorem State.setPart_maxPlanSeq (s : State) (p : Part) (x : Option PartSt) : (s.setPart p x).maxPlanSeq = s.maxPlanSeq := by cases s; rfl
@[simp] theorem State.setPart_fwDigest (s : State) (p : Part) (x : Option PartSt) : (s.setPart p x).fwDigest = s.fwDigest := by cases s; rfl
@[simp] theorem State.setPart_fwComps (s : State) (p : Part) (x : Option PartSt) : (s.setPart p x).fwComps = s.fwComps := by cases s; rfl
@[simp] theorem State.setPart_flash (s : State) (p : Part) (x : Option PartSt) : (s.setPart p x).flash = s.flash := by cases s; rfl
@[simp] theorem State.setPart_fwStaged (s : State) (p : Part) (x : Option PartSt) : (s.setPart p x).fwStaged = s.fwStaged := by cases s; rfl
@[simp] theorem State.setPart_codeHeld (s : State) (p : Part) (x : Option PartSt) : (s.setPart p x).codeHeld = s.codeHeld := by cases s; rfl
@[simp] theorem State.setPart_codeStaged (s : State) (p : Part) (x : Option PartSt) : (s.setPart p x).codeStaged = s.codeStaged := by cases s; rfl
@[simp] theorem State.setPart_rcv (s : State) (p : Part) (x : Option PartSt) : (s.setPart p x).rcv = s.rcv := by cases s; rfl
@[simp] theorem State.setPart_dist (s : State) (p : Part) (x : Option PartSt) : (s.setPart p x).dist = s.dist := by cases s; rfl
@[simp] theorem State.setPart_mcReset (s : State) (p : Part) (x : Option PartSt) : (s.setPart p x).mcReset = s.mcReset := by cases s; rfl
@[simp] theorem State.setPart_dbgCounters (s : State) (p : Part) (x : Option PartSt) : (s.setPart p x).dbgCounters = s.dbgCounters := by cases s; rfl
@[simp] theorem State.setPart_unlocks (s : State) (p : Part) (x : Option PartSt) : (s.setPart p x).unlocks = s.unlocks := by cases s; rfl
@[simp] theorem State.setPart_power (s : State) (p : Part) (x : Option PartSt) : (s.setPart p x).power = s.power := by cases s; rfl
@[simp] theorem State.setPart_pkgPower (s : State) (p : Part) (x : Option PartSt) : (s.setPart p x).pkgPower = s.pkgPower := by cases s; rfl
@[simp] theorem State.setPart_ridge (s : State) (p : Part) (x : Option PartSt) : (s.setPart p x).ridge = s.ridge := by cases s; rfl
@[simp] theorem State.setPart_smt (s : State) (p : Part) (x : Option PartSt) : (s.setPart p x).smt = s.smt := by cases s; rfl
@[simp] theorem State.setPart_pairSess (s : State) (p : Part) (x : Option PartSt) : (s.setPart p x).pairSess = s.pairSess := by cases s; rfl
@[simp] theorem State.setPart_heldTerm (s : State) (p : Part) (x : Option PartSt) : (s.setPart p x).heldTerm = s.heldTerm := by cases s; rfl
@[simp] theorem State.setPart_heldBy (s : State) (p : Part) (x : Option PartSt) : (s.setPart p x).heldBy = s.heldBy := by cases s; rfl
@[simp] theorem State.setPart_rd (s : State) (p : Part) (x : Option PartSt) (za : Nat) : (s.setPart p x).rd za = s.rd za := by simp [State.rd]
@[simp] theorem State.setPart_fld (s : State) (p : Part) (x : Option PartSt) (zp : Page) (zf : Field) : (s.setPart p x).fld zp zf = s.fld zp zf := by simp [State.fld]
@[simp] theorem State.setPart_flag (s : State) (p : Part) (x : Option PartSt) (zp : Page) (zf : Field) : (s.setPart p x).flag zp zf = s.flag zp zf := by simp [State.flag]
@[simp] theorem State.setPart_counter (s : State) (p : Part) (x : Option PartSt) (zp : Page) (zoff : Nat) : (s.setPart p x).counter zp zoff = s.counter zp zoff := by unfold State.counter; rw [State.setPart_rd, State.setPart_rd]
@[simp] theorem State.setPart_counterOvf (s : State) (p : Part) (x : Option PartSt) (zp : Page) (zoff : Nat) : (s.setPart p x).counterOvf zp zoff = s.counterOvf zp zoff := by simp [State.counterOvf]
@[simp] theorem State.setPart_inReset (s : State) (p : Part) (x : Option PartSt) (zd : Die) : (s.setPart p x).inReset zd = s.inReset zd := by simp [State.inReset]
@[simp] theorem State.setPart_partState (s : State) (p : Part) (x : Option PartSt) (zp : Part) : (s.setPart p x).partState zp = s.partState zp := by simp [State.partState]
@[simp] theorem State.setPart_partFenced (s : State) (p : Part) (x : Option PartSt) (zp : Part) : (s.setPart p x).partFenced zp = s.partFenced zp := by simp [State.partFenced]
@[simp] theorem State.setPart_lnk (s : State) (p : Part) (x : Option PartSt) (zq : Port) : (s.setPart p x).lnk zq = s.lnk zq := by simp [State.lnk]
@[simp] theorem State.setPart_memRange (s : State) (p : Part) (x : Option PartSt) (zc : CDie) (zp : Part) (zi : Nat) : (s.setPart p x).memRange zc zp zi = s.memRange zc zp zi := by simp [State.memRange]
@[simp] theorem State.setPart_tarnAlloc (s : State) (p : Part) (x : Option PartSt) (zc : CDie) (zp : Part) : (s.setPart p x).tarnAlloc zc zp = s.tarnAlloc zc zp := by simp [State.tarnAlloc]
@[simp] theorem State.setPart_cairnRange (s : State) (p : Part) (x : Option PartSt) (zc : CDie) (zp : Part) : (s.setPart p x).cairnRange zc zp = s.cairnRange zc zp := by simp [State.cairnRange]
@[simp] theorem State.setPart_winOpen (s : State) (p : Part) (x : Option PartSt) (zp : Part) : (s.setPart p x).winOpen zp = s.winOpen zp := by simp [State.winOpen]
@[simp] theorem State.setPart_vfOn (s : State) (p : Part) (x : Option PartSt) (zp : Part) : (s.setPart p x).vfOn zp = s.vfOn zp := by simp [State.vfOn]
@[simp] theorem State.setPart_msfState (s : State) (p : Part) (x : Option PartSt) (zc : CDie) : (s.setPart p x).msfState zc = s.msfState zc := by simp [State.msfState]
@[simp] theorem State.setPart_stepK (s : State) (p : Part) (x : Option PartSt) (zc : CDie) : (s.setPart p x).stepK zc = s.stepK zc := by simp [State.stepK]
@[simp] theorem State.setPart_injection (s : State) (p : Part) (x : Option PartSt) (zp : Page) (zchecker : Nat) : (s.setPart p x).injection zp zchecker = s.injection zp zchecker := by simp [State.injection]
@[simp] theorem State.setPart_disc (s : State) (p : Part) (x : Option PartSt) : (s.setPart p x).disc = s.disc := by simp [State.disc]
@[simp] theorem State.setPart_pairSt (s : State) (p : Part) (x : Option PartSt) : (s.setPart p x).pairSt = s.pairSt := by simp [State.pairSt]
@[simp] theorem State.setPart_now (s : State) (p : Part) (x : Option PartSt) (zd : Die) : (s.setPart p x).now zd = s.now zd := by simp [State.now]
@[simp] theorem State.setPart_array (s : State) (p : Part) (x : Option PartSt) (zc : CDie) : (s.setPart p x).array zc = s.array zc := by simp [State.array]
@[simp] theorem State.setPart_queue (s : State) (p : Part) (x : Option PartSt) (zr : QRef) : (s.setPart p x).queue zr = s.queue zr := by simp [State.queue]
@[simp] theorem State.setPart_chan (s : State) (p : Part) (x : Option PartSt) (zk : Nat) : (s.setPart p x).chan zk = s.chan zk := by simp [State.chan]
@[simp] theorem State.setPart_agent (s : State) (p : Part) (x : Option PartSt) (zk : PDie) : (s.setPart p x).agent zk = s.agent zk := by simp [State.agent]
@[simp] theorem State.setPart_port (s : State) (p : Part) (x : Option PartSt) (zq : Port) : (s.setPart p x).port zq = s.port zq := by simp [State.port]
@[simp] theorem State.setPart_core (s : State) (p : Part) (x : Option PartSt) (zc : CDie) (zk : Core) : (s.setPart p x).core zc zk = s.core zc zk := by simp [State.core]
@[simp] theorem State.setPart_cairn (s : State) (p : Part) (x : Option PartSt) (zc : CDie) (zn : Nat) : (s.setPart p x).cairn zc zn = s.cairn zc zn := by simp [State.cairn]
@[simp] theorem State.setPart_fn (s : State) (p : Part) (x : Option PartSt) (zf : Fn) : (s.setPart p x).fn zf = s.fn zf := by simp [State.fn]
@[simp] theorem State.setPart_wkey (s : State) (p : Part) (x : Option PartSt) (zp : Part) (zprev : Bool) : (s.setPart p x).wkey zp zprev = s.wkey zp zprev := by simp [State.wkey]
@[simp] theorem State.setPart_memByte (s : State) (p : Part) (x : Option PartSt) (zc : CDie) (zoff : Nat) : (s.setPart p x).memByte zc zoff = s.memByte zc zoff := by simp [State.memByte]
@[simp] theorem State.setPart_memGet (s : State) (p : Part) (x : Option PartSt) (zc : CDie) (zoff : Nat) (zn : Nat) : (s.setPart p x).memGet zc zoff zn = s.memGet zc zoff zn := by simp [State.memGet]
@[simp] theorem State.setPart_tarnByte (s : State) (p : Part) (x : Option PartSt) (zc : CDie) (zoff : Nat) : (s.setPart p x).tarnByte zc zoff = s.tarnByte zc zoff := by simp [State.tarnByte]
@[simp] theorem State.setPart_tarnGet (s : State) (p : Part) (x : Option PartSt) (zc : CDie) (zoff : Nat) (zn : Nat) : (s.setPart p x).tarnGet zc zoff zn = s.tarnGet zc zoff zn := by simp [State.tarnGet]
@[simp] theorem State.setPart_dieDown (s : State) (p : Part) (x : Option PartSt) (zc : CDie) : (s.setPart p x).dieDown zc = s.dieDown zc := by simp [State.dieDown]
@[simp] theorem State.setPart_nparts (s : State) (p : Part) (x : Option PartSt) : (s.setPart p x).nparts = s.nparts := by simp [State.nparts]
@[simp] theorem State.setPart_memWf (s : State) (p : Part) (x : Option PartSt) : (s.setPart p x).memWf = s.memWf := by simp [State.memWf]
@[simp] theorem State.setPart_quiet (s : State) (p : Part) (x : Option PartSt) : (s.setPart p x).quiet = s.quiet := by simp [State.quiet]
@[simp] theorem State.setPart_settled (s : State) (p : Part) (x : Option PartSt) : (s.setPart p x).settled = s.settled := by simp [State.settled]

/-! `setChan` writes chans alone. -/

@[simp] theorem State.setChan_pending (s : State) (k : Nat) (x : ChanSt) : (s.setChan k x).pending = s.pending := by cases s; rfl
@[simp] theorem State.setChan_out (s : State) (k : Nat) (x : ChanSt) : (s.setChan k x).out = s.out := by cases s; rfl
@[simp] theorem State.setChan_freeCtr (s : State) (k : Nat) (x : ChanSt) : (s.setChan k x).freeCtr = s.freeCtr := by cases s; rfl
@[simp] theorem State.setChan_mgmtOn (s : State) (k : Nat) (x : ChanSt) : (s.setChan k x).mgmtOn = s.mgmtOn := by cases s; rfl
@[simp] theorem State.setChan_fuses (s : State) (k : Nat) (x : ChanSt) : (s.setChan k x).fuses = s.fuses := by cases s; rfl
@[simp] theorem State.setChan_straps (s : State) (k : Nat) (x : ChanSt) : (s.setChan k x).straps = s.straps := by cases s; rfl
@[simp] theorem State.setChan_pos (s : State) (k : Nat) (x : ChanSt) : (s.setChan k x).pos = s.pos := by cases s; rfl
@[simp] theorem State.setChan_regs (s : State) (k : Nat) (x : ChanSt) : (s.setChan k x).regs = s.regs := by cases s; rfl
@[simp] theorem State.setChan_latches (s : State) (k : Nat) (x : ChanSt) : (s.setChan k x).latches = s.latches := by cases s; rfl
@[simp] theorem State.setChan_gtime (s : State) (k : Nat) (x : ChanSt) : (s.setChan k x).gtime = s.gtime := by cases s; rfl
@[simp] theorem State.setChan_fclk (s : State) (k : Nat) (x : ChanSt) : (s.setChan k x).fclk = s.fclk := by cases s; rfl
@[simp] theorem State.setChan_mem (s : State) (k : Nat) (x : ChanSt) : (s.setChan k x).mem = s.mem := by cases s; rfl
@[simp] theorem State.setChan_tarn (s : State) (k : Nat) (x : ChanSt) : (s.setChan k x).tarn = s.tarn := by cases s; rfl
@[simp] theorem State.setChan_rowErrs (s : State) (k : Nat) (x : ChanSt) : (s.setChan k x).rowErrs = s.rowErrs := by cases s; rfl
@[simp] theorem State.setChan_remaps (s : State) (k : Nat) (x : ChanSt) : (s.setChan k x).remaps = s.remaps := by cases s; rfl
@[simp] theorem State.setChan_savedRemaps (s : State) (k : Nat) (x : ChanSt) : (s.setChan k x).savedRemaps = s.savedRemaps := by cases s; rfl
@[simp] theorem State.setChan_repairLog (s : State) (k : Nat) (x : ChanSt) : (s.setChan k x).repairLog = s.repairLog := by cases s; rfl
@[simp] theorem State.setChan_badSectors (s : State) (k : Nat) (x : ChanSt) : (s.setChan k x).badSectors = s.badSectors := by cases s; rfl
@[simp] theorem State.setChan_memFenced (s : State) (k : Nat) (x : ChanSt) : (s.setChan k x).memFenced = s.memFenced := by cases s; rfl
@[simp] theorem State.setChan_mappedGran (s : State) (k : Nat) (x : ChanSt) : (s.setChan k x).mappedGran = s.mappedGran := by cases s; rfl
@[simp] theorem State.setChan_zeroOrders (s : State) (k : Nat) (x : ChanSt) : (s.setChan k x).zeroOrders = s.zeroOrders := by cases s; rfl
@[simp] theorem State.setChan_arrays (s : State) (k : Nat) (x : ChanSt) : (s.setChan k x).arrays = s.arrays := by cases s; rfl
@[simp] theorem State.setChan_repairLines (s : State) (k : Nat) (x : ChanSt) : (s.setChan k x).repairLines = s.repairLines := by cases s; rfl
@[simp] theorem State.setChan_queues (s : State) (k : Nat) (x : ChanSt) : (s.setChan k x).queues = s.queues := by cases s; rfl
@[simp] theorem State.setChan_cairns (s : State) (k : Nat) (x : ChanSt) : (s.setChan k x).cairns = s.cairns := by cases s; rfl
@[simp] theorem State.setChan_tracks (s : State) (k : Nat) (x : ChanSt) : (s.setChan k x).tracks = s.tracks := by cases s; rfl
@[simp] theorem State.setChan_cores (s : State) (k : Nat) (x : ChanSt) : (s.setChan k x).cores = s.cores := by cases s; rfl
@[simp] theorem State.setChan_dispatches (s : State) (k : Nat) (x : ChanSt) : (s.setChan k x).dispatches = s.dispatches := by cases s; rfl
@[simp] theorem State.setChan_dmaRuns (s : State) (k : Nat) (x : ChanSt) : (s.setChan k x).dmaRuns = s.dmaRuns := by cases s; rfl
@[simp] theorem State.setChan_requests (s : State) (k : Nat) (x : ChanSt) : (s.setChan k x).requests = s.requests := by cases s; rfl
@[simp] theorem State.setChan_windows (s : State) (k : Nat) (x : ChanSt) : (s.setChan k x).windows = s.windows := by cases s; rfl
@[simp] theorem State.setChan_respUse (s : State) (k : Nat) (x : ChanSt) : (s.setChan k x).respUse = s.respUse := by cases s; rfl
@[simp] theorem State.setChan_nextXid (s : State) (k : Nat) (x : ChanSt) : (s.setChan k x).nextXid = s.nextXid := by cases s; rfl
@[simp] theorem State.setChan_nextId (s : State) (k : Nat) (x : ChanSt) : (s.setChan k x).nextId = s.nextId := by cases s; rfl
@[simp] theorem State.setChan_parts (s : State) (k : Nat) (x : ChanSt) : (s.setChan k x).parts = s.parts := by cases s; rfl
@[simp] theorem State.setChan_wkeys (s : State) (k : Nat) (x : ChanSt) : (s.setChan k x).wkeys = s.wkeys := by cases s; rfl
@[simp] theorem State.setChan_staging (s : State) (k : Nat) (x : ChanSt) : (s.setChan k x).staging = s.staging := by cases s; rfl
@[simp] theorem State.setChan_fltLog (s : State) (k : Nat) (x : ChanSt) : (s.setChan k x).fltLog = s.fltLog := by cases s; rfl
@[simp] theorem State.setChan_recoveryTimes (s : State) (k : Nat) (x : ChanSt) : (s.setChan k x).recoveryTimes = s.recoveryTimes := by cases s; rfl
@[simp] theorem State.setChan_quietPages (s : State) (k : Nat) (x : ChanSt) : (s.setChan k x).quietPages = s.quietPages := by cases s; rfl
@[simp] theorem State.setChan_quietParts (s : State) (k : Nat) (x : ChanSt) : (s.setChan k x).quietParts = s.quietParts := by cases s; rfl
@[simp] theorem State.setChan_fencedDies (s : State) (k : Nat) (x : ChanSt) : (s.setChan k x).fencedDies = s.fencedDies := by cases s; rfl
@[simp] theorem State.setChan_lostRails (s : State) (k : Nat) (x : ChanSt) : (s.setChan k x).lostRails = s.lostRails := by cases s; rfl
@[simp] theorem State.setChan_thermtrip (s : State) (k : Nat) (x : ChanSt) : (s.setChan k x).thermtrip = s.thermtrip := by cases s; rfl
@[simp] theorem State.setChan_fns (s : State) (k : Nat) (x : ChanSt) : (s.setChan k x).fns = s.fns := by cases s; rfl
@[simp] theorem State.setChan_bar2 (s : State) (k : Nat) (x : ChanSt) : (s.setChan k x).bar2 = s.bar2 := by cases s; rfl
@[simp] theorem State.setChan_held (s : State) (k : Nat) (x : ChanSt) : (s.setChan k x).held = s.held := by cases s; rfl
@[simp] theorem State.setChan_relayOut (s : State) (k : Nat) (x : ChanSt) : (s.setChan k x).relayOut = s.relayOut := by cases s; rfl
@[simp] theorem State.setChan_relayCtr (s : State) (k : Nat) (x : ChanSt) : (s.setChan k x).relayCtr = s.relayCtr := by cases s; rfl
@[simp] theorem State.setChan_boardSess (s : State) (k : Nat) (x : ChanSt) : (s.setChan k x).boardSess = s.boardSess := by cases s; rfl
@[simp] theorem State.setChan_i3c (s : State) (k : Nat) (x : ChanSt) : (s.setChan k x).i3c = s.i3c := by cases s; rfl
@[simp] theorem State.setChan_eid (s : State) (k : Nat) (x : ChanSt) : (s.setChan k x).eid = s.eid := by cases s; rfl
@[simp] theorem State.setChan_sensors (s : State) (k : Nat) (x : ChanSt) : (s.setChan k x).sensors = s.sensors := by cases s; rfl
@[simp] theorem State.setChan_agents (s : State) (k : Nat) (x : ChanSt) : (s.setChan k x).agents = s.agents := by cases s; rfl
@[simp] theorem State.setChan_ports (s : State) (k : Nat) (x : ChanSt) : (s.setChan k x).ports = s.ports := by cases s; rfl
@[simp] theorem State.setChan_transits (s : State) (k : Nat) (x : ChanSt) : (s.setChan k x).transits = s.transits := by cases s; rfl
@[simp] theorem State.setChan_d2d (s : State) (k : Nat) (x : ChanSt) : (s.setChan k x).d2d = s.d2d := by cases s; rfl
@[simp] theorem State.setChan_reserved (s : State) (k : Nat) (x : ChanSt) : (s.setChan k x).reserved = s.reserved := by cases s; rfl
@[simp] theorem State.setChan_tables (s : State) (k : Nat) (x : ChanSt) : (s.setChan k x).tables = s.tables := by cases s; rfl
@[simp] theorem State.setChan_d2dRuns (s : State) (k : Nat) (x : ChanSt) : (s.setChan k x).d2dRuns = s.d2dRuns := by cases s; rfl
@[simp] theorem State.setChan_xfers (s : State) (k : Nat) (x : ChanSt) : (s.setChan k x).xfers = s.xfers := by cases s; rfl
@[simp] theorem State.setChan_hotEngines (s : State) (k : Nat) (x : ChanSt) : (s.setChan k x).hotEngines = s.hotEngines := by cases s; rfl
@[simp] theorem State.setChan_boot (s : State) (k : Nat) (x : ChanSt) : (s.setChan k x).boot = s.boot := by cases s; rfl
@[simp] theorem State.setChan_plan (s : State) (k : Nat) (x : ChanSt) : (s.setChan k x).plan = s.plan := by cases s; rfl
@[simp] theorem State.setChan_bootPlan (s : State) (k : Nat) (x : ChanSt) : (s.setChan k x).bootPlan = s.bootPlan := by cases s; rfl
@[simp] theorem State.setChan_maxPlanSeq (s : State) (k : Nat) (x : ChanSt) : (s.setChan k x).maxPlanSeq = s.maxPlanSeq := by cases s; rfl
@[simp] theorem State.setChan_fwDigest (s : State) (k : Nat) (x : ChanSt) : (s.setChan k x).fwDigest = s.fwDigest := by cases s; rfl
@[simp] theorem State.setChan_fwComps (s : State) (k : Nat) (x : ChanSt) : (s.setChan k x).fwComps = s.fwComps := by cases s; rfl
@[simp] theorem State.setChan_flash (s : State) (k : Nat) (x : ChanSt) : (s.setChan k x).flash = s.flash := by cases s; rfl
@[simp] theorem State.setChan_fwStaged (s : State) (k : Nat) (x : ChanSt) : (s.setChan k x).fwStaged = s.fwStaged := by cases s; rfl
@[simp] theorem State.setChan_codeHeld (s : State) (k : Nat) (x : ChanSt) : (s.setChan k x).codeHeld = s.codeHeld := by cases s; rfl
@[simp] theorem State.setChan_codeStaged (s : State) (k : Nat) (x : ChanSt) : (s.setChan k x).codeStaged = s.codeStaged := by cases s; rfl
@[simp] theorem State.setChan_rcv (s : State) (k : Nat) (x : ChanSt) : (s.setChan k x).rcv = s.rcv := by cases s; rfl
@[simp] theorem State.setChan_dist (s : State) (k : Nat) (x : ChanSt) : (s.setChan k x).dist = s.dist := by cases s; rfl
@[simp] theorem State.setChan_mcReset (s : State) (k : Nat) (x : ChanSt) : (s.setChan k x).mcReset = s.mcReset := by cases s; rfl
@[simp] theorem State.setChan_dbgCounters (s : State) (k : Nat) (x : ChanSt) : (s.setChan k x).dbgCounters = s.dbgCounters := by cases s; rfl
@[simp] theorem State.setChan_unlocks (s : State) (k : Nat) (x : ChanSt) : (s.setChan k x).unlocks = s.unlocks := by cases s; rfl
@[simp] theorem State.setChan_power (s : State) (k : Nat) (x : ChanSt) : (s.setChan k x).power = s.power := by cases s; rfl
@[simp] theorem State.setChan_pkgPower (s : State) (k : Nat) (x : ChanSt) : (s.setChan k x).pkgPower = s.pkgPower := by cases s; rfl
@[simp] theorem State.setChan_ridge (s : State) (k : Nat) (x : ChanSt) : (s.setChan k x).ridge = s.ridge := by cases s; rfl
@[simp] theorem State.setChan_smt (s : State) (k : Nat) (x : ChanSt) : (s.setChan k x).smt = s.smt := by cases s; rfl
@[simp] theorem State.setChan_pairSess (s : State) (k : Nat) (x : ChanSt) : (s.setChan k x).pairSess = s.pairSess := by cases s; rfl
@[simp] theorem State.setChan_heldTerm (s : State) (k : Nat) (x : ChanSt) : (s.setChan k x).heldTerm = s.heldTerm := by cases s; rfl
@[simp] theorem State.setChan_heldBy (s : State) (k : Nat) (x : ChanSt) : (s.setChan k x).heldBy = s.heldBy := by cases s; rfl
@[simp] theorem State.setChan_rd (s : State) (k : Nat) (x : ChanSt) (za : Nat) : (s.setChan k x).rd za = s.rd za := by simp [State.rd]
@[simp] theorem State.setChan_fld (s : State) (k : Nat) (x : ChanSt) (zp : Page) (zf : Field) : (s.setChan k x).fld zp zf = s.fld zp zf := by simp [State.fld]
@[simp] theorem State.setChan_flag (s : State) (k : Nat) (x : ChanSt) (zp : Page) (zf : Field) : (s.setChan k x).flag zp zf = s.flag zp zf := by simp [State.flag]
@[simp] theorem State.setChan_counter (s : State) (k : Nat) (x : ChanSt) (zp : Page) (zoff : Nat) : (s.setChan k x).counter zp zoff = s.counter zp zoff := by unfold State.counter; rw [State.setChan_rd, State.setChan_rd]
@[simp] theorem State.setChan_counterOvf (s : State) (k : Nat) (x : ChanSt) (zp : Page) (zoff : Nat) : (s.setChan k x).counterOvf zp zoff = s.counterOvf zp zoff := by simp [State.counterOvf]
@[simp] theorem State.setChan_inReset (s : State) (k : Nat) (x : ChanSt) (zd : Die) : (s.setChan k x).inReset zd = s.inReset zd := by simp [State.inReset]
@[simp] theorem State.setChan_partState (s : State) (k : Nat) (x : ChanSt) (zp : Part) : (s.setChan k x).partState zp = s.partState zp := by simp [State.partState]
@[simp] theorem State.setChan_partFenced (s : State) (k : Nat) (x : ChanSt) (zp : Part) : (s.setChan k x).partFenced zp = s.partFenced zp := by simp [State.partFenced]
@[simp] theorem State.setChan_lnk (s : State) (k : Nat) (x : ChanSt) (zq : Port) : (s.setChan k x).lnk zq = s.lnk zq := by simp [State.lnk]
@[simp] theorem State.setChan_memRange (s : State) (k : Nat) (x : ChanSt) (zc : CDie) (zp : Part) (zi : Nat) : (s.setChan k x).memRange zc zp zi = s.memRange zc zp zi := by simp [State.memRange]
@[simp] theorem State.setChan_tarnAlloc (s : State) (k : Nat) (x : ChanSt) (zc : CDie) (zp : Part) : (s.setChan k x).tarnAlloc zc zp = s.tarnAlloc zc zp := by simp [State.tarnAlloc]
@[simp] theorem State.setChan_cairnRange (s : State) (k : Nat) (x : ChanSt) (zc : CDie) (zp : Part) : (s.setChan k x).cairnRange zc zp = s.cairnRange zc zp := by simp [State.cairnRange]
@[simp] theorem State.setChan_winOpen (s : State) (k : Nat) (x : ChanSt) (zp : Part) : (s.setChan k x).winOpen zp = s.winOpen zp := by simp [State.winOpen]
@[simp] theorem State.setChan_vfOn (s : State) (k : Nat) (x : ChanSt) (zp : Part) : (s.setChan k x).vfOn zp = s.vfOn zp := by simp [State.vfOn]
@[simp] theorem State.setChan_msfState (s : State) (k : Nat) (x : ChanSt) (zc : CDie) : (s.setChan k x).msfState zc = s.msfState zc := by simp [State.msfState]
@[simp] theorem State.setChan_stepK (s : State) (k : Nat) (x : ChanSt) (zc : CDie) : (s.setChan k x).stepK zc = s.stepK zc := by simp [State.stepK]
@[simp] theorem State.setChan_injection (s : State) (k : Nat) (x : ChanSt) (zp : Page) (zchecker : Nat) : (s.setChan k x).injection zp zchecker = s.injection zp zchecker := by simp [State.injection]
@[simp] theorem State.setChan_disc (s : State) (k : Nat) (x : ChanSt) : (s.setChan k x).disc = s.disc := by simp [State.disc]
@[simp] theorem State.setChan_pairSt (s : State) (k : Nat) (x : ChanSt) : (s.setChan k x).pairSt = s.pairSt := by simp [State.pairSt]
@[simp] theorem State.setChan_now (s : State) (k : Nat) (x : ChanSt) (zd : Die) : (s.setChan k x).now zd = s.now zd := by simp [State.now]
@[simp] theorem State.setChan_array (s : State) (k : Nat) (x : ChanSt) (zc : CDie) : (s.setChan k x).array zc = s.array zc := by simp [State.array]
@[simp] theorem State.setChan_queue (s : State) (k : Nat) (x : ChanSt) (zr : QRef) : (s.setChan k x).queue zr = s.queue zr := by simp [State.queue]
@[simp] theorem State.setChan_partQ (s : State) (k : Nat) (x : ChanSt) (zp : Part) : (s.setChan k x).part? zp = s.part? zp := by simp [State.part?]
@[simp] theorem State.setChan_isConf (s : State) (k : Nat) (x : ChanSt) (zp : Part) : (s.setChan k x).isConf zp = s.isConf zp := by simp [State.isConf]
@[simp] theorem State.setChan_agent (s : State) (k : Nat) (x : ChanSt) (zk : PDie) : (s.setChan k x).agent zk = s.agent zk := by simp [State.agent]
@[simp] theorem State.setChan_port (s : State) (k : Nat) (x : ChanSt) (zq : Port) : (s.setChan k x).port zq = s.port zq := by simp [State.port]
@[simp] theorem State.setChan_core (s : State) (k : Nat) (x : ChanSt) (zc : CDie) (zk : Core) : (s.setChan k x).core zc zk = s.core zc zk := by simp [State.core]
@[simp] theorem State.setChan_cairn (s : State) (k : Nat) (x : ChanSt) (zc : CDie) (zn : Nat) : (s.setChan k x).cairn zc zn = s.cairn zc zn := by simp [State.cairn]
@[simp] theorem State.setChan_fn (s : State) (k : Nat) (x : ChanSt) (zf : Fn) : (s.setChan k x).fn zf = s.fn zf := by simp [State.fn]
@[simp] theorem State.setChan_wkey (s : State) (k : Nat) (x : ChanSt) (zp : Part) (zprev : Bool) : (s.setChan k x).wkey zp zprev = s.wkey zp zprev := by simp [State.wkey]
@[simp] theorem State.setChan_memByte (s : State) (k : Nat) (x : ChanSt) (zc : CDie) (zoff : Nat) : (s.setChan k x).memByte zc zoff = s.memByte zc zoff := by simp [State.memByte]
@[simp] theorem State.setChan_memGet (s : State) (k : Nat) (x : ChanSt) (zc : CDie) (zoff : Nat) (zn : Nat) : (s.setChan k x).memGet zc zoff zn = s.memGet zc zoff zn := by simp [State.memGet]
@[simp] theorem State.setChan_tarnByte (s : State) (k : Nat) (x : ChanSt) (zc : CDie) (zoff : Nat) : (s.setChan k x).tarnByte zc zoff = s.tarnByte zc zoff := by simp [State.tarnByte]
@[simp] theorem State.setChan_tarnGet (s : State) (k : Nat) (x : ChanSt) (zc : CDie) (zoff : Nat) (zn : Nat) : (s.setChan k x).tarnGet zc zoff zn = s.tarnGet zc zoff zn := by simp [State.tarnGet]
@[simp] theorem State.setChan_dieDown (s : State) (k : Nat) (x : ChanSt) (zc : CDie) : (s.setChan k x).dieDown zc = s.dieDown zc := by simp [State.dieDown]
@[simp] theorem State.setChan_nparts (s : State) (k : Nat) (x : ChanSt) : (s.setChan k x).nparts = s.nparts := by simp [State.nparts]
@[simp] theorem State.setChan_memWf (s : State) (k : Nat) (x : ChanSt) : (s.setChan k x).memWf = s.memWf := by simp [State.memWf]
@[simp] theorem State.setChan_quiet (s : State) (k : Nat) (x : ChanSt) : (s.setChan k x).quiet = s.quiet := by simp [State.quiet]
@[simp] theorem State.setChan_settled (s : State) (k : Nat) (x : ChanSt) : (s.setChan k x).settled = s.settled := by simp [State.settled]

/-! `setAgent` writes agents alone. -/

@[simp] theorem State.setAgent_pending (s : State) (k : PDie) (a : AgentSt) : (s.setAgent k a).pending = s.pending := by cases s; rfl
@[simp] theorem State.setAgent_out (s : State) (k : PDie) (a : AgentSt) : (s.setAgent k a).out = s.out := by cases s; rfl
@[simp] theorem State.setAgent_freeCtr (s : State) (k : PDie) (a : AgentSt) : (s.setAgent k a).freeCtr = s.freeCtr := by cases s; rfl
@[simp] theorem State.setAgent_mgmtOn (s : State) (k : PDie) (a : AgentSt) : (s.setAgent k a).mgmtOn = s.mgmtOn := by cases s; rfl
@[simp] theorem State.setAgent_fuses (s : State) (k : PDie) (a : AgentSt) : (s.setAgent k a).fuses = s.fuses := by cases s; rfl
@[simp] theorem State.setAgent_straps (s : State) (k : PDie) (a : AgentSt) : (s.setAgent k a).straps = s.straps := by cases s; rfl
@[simp] theorem State.setAgent_pos (s : State) (k : PDie) (a : AgentSt) : (s.setAgent k a).pos = s.pos := by cases s; rfl
@[simp] theorem State.setAgent_regs (s : State) (k : PDie) (a : AgentSt) : (s.setAgent k a).regs = s.regs := by cases s; rfl
@[simp] theorem State.setAgent_latches (s : State) (k : PDie) (a : AgentSt) : (s.setAgent k a).latches = s.latches := by cases s; rfl
@[simp] theorem State.setAgent_gtime (s : State) (k : PDie) (a : AgentSt) : (s.setAgent k a).gtime = s.gtime := by cases s; rfl
@[simp] theorem State.setAgent_fclk (s : State) (k : PDie) (a : AgentSt) : (s.setAgent k a).fclk = s.fclk := by cases s; rfl
@[simp] theorem State.setAgent_mem (s : State) (k : PDie) (a : AgentSt) : (s.setAgent k a).mem = s.mem := by cases s; rfl
@[simp] theorem State.setAgent_tarn (s : State) (k : PDie) (a : AgentSt) : (s.setAgent k a).tarn = s.tarn := by cases s; rfl
@[simp] theorem State.setAgent_rowErrs (s : State) (k : PDie) (a : AgentSt) : (s.setAgent k a).rowErrs = s.rowErrs := by cases s; rfl
@[simp] theorem State.setAgent_remaps (s : State) (k : PDie) (a : AgentSt) : (s.setAgent k a).remaps = s.remaps := by cases s; rfl
@[simp] theorem State.setAgent_savedRemaps (s : State) (k : PDie) (a : AgentSt) : (s.setAgent k a).savedRemaps = s.savedRemaps := by cases s; rfl
@[simp] theorem State.setAgent_repairLog (s : State) (k : PDie) (a : AgentSt) : (s.setAgent k a).repairLog = s.repairLog := by cases s; rfl
@[simp] theorem State.setAgent_badSectors (s : State) (k : PDie) (a : AgentSt) : (s.setAgent k a).badSectors = s.badSectors := by cases s; rfl
@[simp] theorem State.setAgent_memFenced (s : State) (k : PDie) (a : AgentSt) : (s.setAgent k a).memFenced = s.memFenced := by cases s; rfl
@[simp] theorem State.setAgent_mappedGran (s : State) (k : PDie) (a : AgentSt) : (s.setAgent k a).mappedGran = s.mappedGran := by cases s; rfl
@[simp] theorem State.setAgent_zeroOrders (s : State) (k : PDie) (a : AgentSt) : (s.setAgent k a).zeroOrders = s.zeroOrders := by cases s; rfl
@[simp] theorem State.setAgent_arrays (s : State) (k : PDie) (a : AgentSt) : (s.setAgent k a).arrays = s.arrays := by cases s; rfl
@[simp] theorem State.setAgent_repairLines (s : State) (k : PDie) (a : AgentSt) : (s.setAgent k a).repairLines = s.repairLines := by cases s; rfl
@[simp] theorem State.setAgent_queues (s : State) (k : PDie) (a : AgentSt) : (s.setAgent k a).queues = s.queues := by cases s; rfl
@[simp] theorem State.setAgent_cairns (s : State) (k : PDie) (a : AgentSt) : (s.setAgent k a).cairns = s.cairns := by cases s; rfl
@[simp] theorem State.setAgent_tracks (s : State) (k : PDie) (a : AgentSt) : (s.setAgent k a).tracks = s.tracks := by cases s; rfl
@[simp] theorem State.setAgent_cores (s : State) (k : PDie) (a : AgentSt) : (s.setAgent k a).cores = s.cores := by cases s; rfl
@[simp] theorem State.setAgent_dispatches (s : State) (k : PDie) (a : AgentSt) : (s.setAgent k a).dispatches = s.dispatches := by cases s; rfl
@[simp] theorem State.setAgent_dmaRuns (s : State) (k : PDie) (a : AgentSt) : (s.setAgent k a).dmaRuns = s.dmaRuns := by cases s; rfl
@[simp] theorem State.setAgent_requests (s : State) (k : PDie) (a : AgentSt) : (s.setAgent k a).requests = s.requests := by cases s; rfl
@[simp] theorem State.setAgent_windows (s : State) (k : PDie) (a : AgentSt) : (s.setAgent k a).windows = s.windows := by cases s; rfl
@[simp] theorem State.setAgent_respUse (s : State) (k : PDie) (a : AgentSt) : (s.setAgent k a).respUse = s.respUse := by cases s; rfl
@[simp] theorem State.setAgent_nextXid (s : State) (k : PDie) (a : AgentSt) : (s.setAgent k a).nextXid = s.nextXid := by cases s; rfl
@[simp] theorem State.setAgent_nextId (s : State) (k : PDie) (a : AgentSt) : (s.setAgent k a).nextId = s.nextId := by cases s; rfl
@[simp] theorem State.setAgent_parts (s : State) (k : PDie) (a : AgentSt) : (s.setAgent k a).parts = s.parts := by cases s; rfl
@[simp] theorem State.setAgent_wkeys (s : State) (k : PDie) (a : AgentSt) : (s.setAgent k a).wkeys = s.wkeys := by cases s; rfl
@[simp] theorem State.setAgent_staging (s : State) (k : PDie) (a : AgentSt) : (s.setAgent k a).staging = s.staging := by cases s; rfl
@[simp] theorem State.setAgent_fltLog (s : State) (k : PDie) (a : AgentSt) : (s.setAgent k a).fltLog = s.fltLog := by cases s; rfl
@[simp] theorem State.setAgent_recoveryTimes (s : State) (k : PDie) (a : AgentSt) : (s.setAgent k a).recoveryTimes = s.recoveryTimes := by cases s; rfl
@[simp] theorem State.setAgent_quietPages (s : State) (k : PDie) (a : AgentSt) : (s.setAgent k a).quietPages = s.quietPages := by cases s; rfl
@[simp] theorem State.setAgent_quietParts (s : State) (k : PDie) (a : AgentSt) : (s.setAgent k a).quietParts = s.quietParts := by cases s; rfl
@[simp] theorem State.setAgent_fencedDies (s : State) (k : PDie) (a : AgentSt) : (s.setAgent k a).fencedDies = s.fencedDies := by cases s; rfl
@[simp] theorem State.setAgent_lostRails (s : State) (k : PDie) (a : AgentSt) : (s.setAgent k a).lostRails = s.lostRails := by cases s; rfl
@[simp] theorem State.setAgent_thermtrip (s : State) (k : PDie) (a : AgentSt) : (s.setAgent k a).thermtrip = s.thermtrip := by cases s; rfl
@[simp] theorem State.setAgent_chans (s : State) (k : PDie) (a : AgentSt) : (s.setAgent k a).chans = s.chans := by cases s; rfl
@[simp] theorem State.setAgent_fns (s : State) (k : PDie) (a : AgentSt) : (s.setAgent k a).fns = s.fns := by cases s; rfl
@[simp] theorem State.setAgent_bar2 (s : State) (k : PDie) (a : AgentSt) : (s.setAgent k a).bar2 = s.bar2 := by cases s; rfl
@[simp] theorem State.setAgent_held (s : State) (k : PDie) (a : AgentSt) : (s.setAgent k a).held = s.held := by cases s; rfl
@[simp] theorem State.setAgent_relayOut (s : State) (k : PDie) (a : AgentSt) : (s.setAgent k a).relayOut = s.relayOut := by cases s; rfl
@[simp] theorem State.setAgent_relayCtr (s : State) (k : PDie) (a : AgentSt) : (s.setAgent k a).relayCtr = s.relayCtr := by cases s; rfl
@[simp] theorem State.setAgent_boardSess (s : State) (k : PDie) (a : AgentSt) : (s.setAgent k a).boardSess = s.boardSess := by cases s; rfl
@[simp] theorem State.setAgent_i3c (s : State) (k : PDie) (a : AgentSt) : (s.setAgent k a).i3c = s.i3c := by cases s; rfl
@[simp] theorem State.setAgent_eid (s : State) (k : PDie) (a : AgentSt) : (s.setAgent k a).eid = s.eid := by cases s; rfl
@[simp] theorem State.setAgent_sensors (s : State) (k : PDie) (a : AgentSt) : (s.setAgent k a).sensors = s.sensors := by cases s; rfl
@[simp] theorem State.setAgent_ports (s : State) (k : PDie) (a : AgentSt) : (s.setAgent k a).ports = s.ports := by cases s; rfl
@[simp] theorem State.setAgent_transits (s : State) (k : PDie) (a : AgentSt) : (s.setAgent k a).transits = s.transits := by cases s; rfl
@[simp] theorem State.setAgent_d2d (s : State) (k : PDie) (a : AgentSt) : (s.setAgent k a).d2d = s.d2d := by cases s; rfl
@[simp] theorem State.setAgent_reserved (s : State) (k : PDie) (a : AgentSt) : (s.setAgent k a).reserved = s.reserved := by cases s; rfl
@[simp] theorem State.setAgent_tables (s : State) (k : PDie) (a : AgentSt) : (s.setAgent k a).tables = s.tables := by cases s; rfl
@[simp] theorem State.setAgent_d2dRuns (s : State) (k : PDie) (a : AgentSt) : (s.setAgent k a).d2dRuns = s.d2dRuns := by cases s; rfl
@[simp] theorem State.setAgent_xfers (s : State) (k : PDie) (a : AgentSt) : (s.setAgent k a).xfers = s.xfers := by cases s; rfl
@[simp] theorem State.setAgent_hotEngines (s : State) (k : PDie) (a : AgentSt) : (s.setAgent k a).hotEngines = s.hotEngines := by cases s; rfl
@[simp] theorem State.setAgent_boot (s : State) (k : PDie) (a : AgentSt) : (s.setAgent k a).boot = s.boot := by cases s; rfl
@[simp] theorem State.setAgent_plan (s : State) (k : PDie) (a : AgentSt) : (s.setAgent k a).plan = s.plan := by cases s; rfl
@[simp] theorem State.setAgent_bootPlan (s : State) (k : PDie) (a : AgentSt) : (s.setAgent k a).bootPlan = s.bootPlan := by cases s; rfl
@[simp] theorem State.setAgent_maxPlanSeq (s : State) (k : PDie) (a : AgentSt) : (s.setAgent k a).maxPlanSeq = s.maxPlanSeq := by cases s; rfl
@[simp] theorem State.setAgent_fwDigest (s : State) (k : PDie) (a : AgentSt) : (s.setAgent k a).fwDigest = s.fwDigest := by cases s; rfl
@[simp] theorem State.setAgent_fwComps (s : State) (k : PDie) (a : AgentSt) : (s.setAgent k a).fwComps = s.fwComps := by cases s; rfl
@[simp] theorem State.setAgent_flash (s : State) (k : PDie) (a : AgentSt) : (s.setAgent k a).flash = s.flash := by cases s; rfl
@[simp] theorem State.setAgent_fwStaged (s : State) (k : PDie) (a : AgentSt) : (s.setAgent k a).fwStaged = s.fwStaged := by cases s; rfl
@[simp] theorem State.setAgent_codeHeld (s : State) (k : PDie) (a : AgentSt) : (s.setAgent k a).codeHeld = s.codeHeld := by cases s; rfl
@[simp] theorem State.setAgent_codeStaged (s : State) (k : PDie) (a : AgentSt) : (s.setAgent k a).codeStaged = s.codeStaged := by cases s; rfl
@[simp] theorem State.setAgent_rcv (s : State) (k : PDie) (a : AgentSt) : (s.setAgent k a).rcv = s.rcv := by cases s; rfl
@[simp] theorem State.setAgent_dist (s : State) (k : PDie) (a : AgentSt) : (s.setAgent k a).dist = s.dist := by cases s; rfl
@[simp] theorem State.setAgent_mcReset (s : State) (k : PDie) (a : AgentSt) : (s.setAgent k a).mcReset = s.mcReset := by cases s; rfl
@[simp] theorem State.setAgent_dbgCounters (s : State) (k : PDie) (a : AgentSt) : (s.setAgent k a).dbgCounters = s.dbgCounters := by cases s; rfl
@[simp] theorem State.setAgent_unlocks (s : State) (k : PDie) (a : AgentSt) : (s.setAgent k a).unlocks = s.unlocks := by cases s; rfl
@[simp] theorem State.setAgent_power (s : State) (k : PDie) (a : AgentSt) : (s.setAgent k a).power = s.power := by cases s; rfl
@[simp] theorem State.setAgent_pkgPower (s : State) (k : PDie) (a : AgentSt) : (s.setAgent k a).pkgPower = s.pkgPower := by cases s; rfl
@[simp] theorem State.setAgent_ridge (s : State) (k : PDie) (a : AgentSt) : (s.setAgent k a).ridge = s.ridge := by cases s; rfl
@[simp] theorem State.setAgent_smt (s : State) (k : PDie) (a : AgentSt) : (s.setAgent k a).smt = s.smt := by cases s; rfl
@[simp] theorem State.setAgent_pairSess (s : State) (k : PDie) (a : AgentSt) : (s.setAgent k a).pairSess = s.pairSess := by cases s; rfl
@[simp] theorem State.setAgent_heldTerm (s : State) (k : PDie) (a : AgentSt) : (s.setAgent k a).heldTerm = s.heldTerm := by cases s; rfl
@[simp] theorem State.setAgent_heldBy (s : State) (k : PDie) (a : AgentSt) : (s.setAgent k a).heldBy = s.heldBy := by cases s; rfl
@[simp] theorem State.setAgent_rd (s : State) (k : PDie) (a : AgentSt) (za : Nat) : (s.setAgent k a).rd za = s.rd za := by simp [State.rd]
@[simp] theorem State.setAgent_fld (s : State) (k : PDie) (a : AgentSt) (zp : Page) (zf : Field) : (s.setAgent k a).fld zp zf = s.fld zp zf := by simp [State.fld]
@[simp] theorem State.setAgent_flag (s : State) (k : PDie) (a : AgentSt) (zp : Page) (zf : Field) : (s.setAgent k a).flag zp zf = s.flag zp zf := by simp [State.flag]
@[simp] theorem State.setAgent_counter (s : State) (k : PDie) (a : AgentSt) (zp : Page) (zoff : Nat) : (s.setAgent k a).counter zp zoff = s.counter zp zoff := by unfold State.counter; rw [State.setAgent_rd, State.setAgent_rd]
@[simp] theorem State.setAgent_counterOvf (s : State) (k : PDie) (a : AgentSt) (zp : Page) (zoff : Nat) : (s.setAgent k a).counterOvf zp zoff = s.counterOvf zp zoff := by simp [State.counterOvf]
@[simp] theorem State.setAgent_inReset (s : State) (k : PDie) (a : AgentSt) (zd : Die) : (s.setAgent k a).inReset zd = s.inReset zd := by simp [State.inReset]
@[simp] theorem State.setAgent_partState (s : State) (k : PDie) (a : AgentSt) (zp : Part) : (s.setAgent k a).partState zp = s.partState zp := by simp [State.partState]
@[simp] theorem State.setAgent_partFenced (s : State) (k : PDie) (a : AgentSt) (zp : Part) : (s.setAgent k a).partFenced zp = s.partFenced zp := by simp [State.partFenced]
@[simp] theorem State.setAgent_lnk (s : State) (k : PDie) (a : AgentSt) (zq : Port) : (s.setAgent k a).lnk zq = s.lnk zq := by simp [State.lnk]
@[simp] theorem State.setAgent_memRange (s : State) (k : PDie) (a : AgentSt) (zc : CDie) (zp : Part) (zi : Nat) : (s.setAgent k a).memRange zc zp zi = s.memRange zc zp zi := by simp [State.memRange]
@[simp] theorem State.setAgent_tarnAlloc (s : State) (k : PDie) (a : AgentSt) (zc : CDie) (zp : Part) : (s.setAgent k a).tarnAlloc zc zp = s.tarnAlloc zc zp := by simp [State.tarnAlloc]
@[simp] theorem State.setAgent_cairnRange (s : State) (k : PDie) (a : AgentSt) (zc : CDie) (zp : Part) : (s.setAgent k a).cairnRange zc zp = s.cairnRange zc zp := by simp [State.cairnRange]
@[simp] theorem State.setAgent_winOpen (s : State) (k : PDie) (a : AgentSt) (zp : Part) : (s.setAgent k a).winOpen zp = s.winOpen zp := by simp [State.winOpen]
@[simp] theorem State.setAgent_vfOn (s : State) (k : PDie) (a : AgentSt) (zp : Part) : (s.setAgent k a).vfOn zp = s.vfOn zp := by simp [State.vfOn]
@[simp] theorem State.setAgent_msfState (s : State) (k : PDie) (a : AgentSt) (zc : CDie) : (s.setAgent k a).msfState zc = s.msfState zc := by simp [State.msfState]
@[simp] theorem State.setAgent_stepK (s : State) (k : PDie) (a : AgentSt) (zc : CDie) : (s.setAgent k a).stepK zc = s.stepK zc := by simp [State.stepK]
@[simp] theorem State.setAgent_injection (s : State) (k : PDie) (a : AgentSt) (zp : Page) (zchecker : Nat) : (s.setAgent k a).injection zp zchecker = s.injection zp zchecker := by simp [State.injection]
@[simp] theorem State.setAgent_disc (s : State) (k : PDie) (a : AgentSt) : (s.setAgent k a).disc = s.disc := by simp [State.disc]
@[simp] theorem State.setAgent_pairSt (s : State) (k : PDie) (a : AgentSt) : (s.setAgent k a).pairSt = s.pairSt := by simp [State.pairSt]
@[simp] theorem State.setAgent_now (s : State) (k : PDie) (a : AgentSt) (zd : Die) : (s.setAgent k a).now zd = s.now zd := by simp [State.now]
@[simp] theorem State.setAgent_array (s : State) (k : PDie) (a : AgentSt) (zc : CDie) : (s.setAgent k a).array zc = s.array zc := by simp [State.array]
@[simp] theorem State.setAgent_queue (s : State) (k : PDie) (a : AgentSt) (zr : QRef) : (s.setAgent k a).queue zr = s.queue zr := by simp [State.queue]
@[simp] theorem State.setAgent_partQ (s : State) (k : PDie) (a : AgentSt) (zp : Part) : (s.setAgent k a).part? zp = s.part? zp := by simp [State.part?]
@[simp] theorem State.setAgent_isConf (s : State) (k : PDie) (a : AgentSt) (zp : Part) : (s.setAgent k a).isConf zp = s.isConf zp := by simp [State.isConf]
@[simp] theorem State.setAgent_chan (s : State) (k : PDie) (a : AgentSt) (zk : Nat) : (s.setAgent k a).chan zk = s.chan zk := by simp [State.chan]
@[simp] theorem State.setAgent_port (s : State) (k : PDie) (a : AgentSt) (zq : Port) : (s.setAgent k a).port zq = s.port zq := by simp [State.port]
@[simp] theorem State.setAgent_core (s : State) (k : PDie) (a : AgentSt) (zc : CDie) (zk : Core) : (s.setAgent k a).core zc zk = s.core zc zk := by simp [State.core]
@[simp] theorem State.setAgent_cairn (s : State) (k : PDie) (a : AgentSt) (zc : CDie) (zn : Nat) : (s.setAgent k a).cairn zc zn = s.cairn zc zn := by simp [State.cairn]
@[simp] theorem State.setAgent_fn (s : State) (k : PDie) (a : AgentSt) (zf : Fn) : (s.setAgent k a).fn zf = s.fn zf := by simp [State.fn]
@[simp] theorem State.setAgent_wkey (s : State) (k : PDie) (a : AgentSt) (zp : Part) (zprev : Bool) : (s.setAgent k a).wkey zp zprev = s.wkey zp zprev := by simp [State.wkey]
@[simp] theorem State.setAgent_memByte (s : State) (k : PDie) (a : AgentSt) (zc : CDie) (zoff : Nat) : (s.setAgent k a).memByte zc zoff = s.memByte zc zoff := by simp [State.memByte]
@[simp] theorem State.setAgent_memGet (s : State) (k : PDie) (a : AgentSt) (zc : CDie) (zoff : Nat) (zn : Nat) : (s.setAgent k a).memGet zc zoff zn = s.memGet zc zoff zn := by simp [State.memGet]
@[simp] theorem State.setAgent_tarnByte (s : State) (k : PDie) (a : AgentSt) (zc : CDie) (zoff : Nat) : (s.setAgent k a).tarnByte zc zoff = s.tarnByte zc zoff := by simp [State.tarnByte]
@[simp] theorem State.setAgent_tarnGet (s : State) (k : PDie) (a : AgentSt) (zc : CDie) (zoff : Nat) (zn : Nat) : (s.setAgent k a).tarnGet zc zoff zn = s.tarnGet zc zoff zn := by simp [State.tarnGet]
@[simp] theorem State.setAgent_dieDown (s : State) (k : PDie) (a : AgentSt) (zc : CDie) : (s.setAgent k a).dieDown zc = s.dieDown zc := by simp [State.dieDown]
@[simp] theorem State.setAgent_nparts (s : State) (k : PDie) (a : AgentSt) : (s.setAgent k a).nparts = s.nparts := by simp [State.nparts]
@[simp] theorem State.setAgent_memWf (s : State) (k : PDie) (a : AgentSt) : (s.setAgent k a).memWf = s.memWf := by simp [State.memWf]

/-! `setPort` writes ports alone. -/

@[simp] theorem State.setPort_pending (s : State) (q : Port) (x : PortSt) : (s.setPort q x).pending = s.pending := by cases s; rfl
@[simp] theorem State.setPort_out (s : State) (q : Port) (x : PortSt) : (s.setPort q x).out = s.out := by cases s; rfl
@[simp] theorem State.setPort_freeCtr (s : State) (q : Port) (x : PortSt) : (s.setPort q x).freeCtr = s.freeCtr := by cases s; rfl
@[simp] theorem State.setPort_mgmtOn (s : State) (q : Port) (x : PortSt) : (s.setPort q x).mgmtOn = s.mgmtOn := by cases s; rfl
@[simp] theorem State.setPort_fuses (s : State) (q : Port) (x : PortSt) : (s.setPort q x).fuses = s.fuses := by cases s; rfl
@[simp] theorem State.setPort_straps (s : State) (q : Port) (x : PortSt) : (s.setPort q x).straps = s.straps := by cases s; rfl
@[simp] theorem State.setPort_pos (s : State) (q : Port) (x : PortSt) : (s.setPort q x).pos = s.pos := by cases s; rfl
@[simp] theorem State.setPort_regs (s : State) (q : Port) (x : PortSt) : (s.setPort q x).regs = s.regs := by cases s; rfl
@[simp] theorem State.setPort_latches (s : State) (q : Port) (x : PortSt) : (s.setPort q x).latches = s.latches := by cases s; rfl
@[simp] theorem State.setPort_gtime (s : State) (q : Port) (x : PortSt) : (s.setPort q x).gtime = s.gtime := by cases s; rfl
@[simp] theorem State.setPort_fclk (s : State) (q : Port) (x : PortSt) : (s.setPort q x).fclk = s.fclk := by cases s; rfl
@[simp] theorem State.setPort_mem (s : State) (q : Port) (x : PortSt) : (s.setPort q x).mem = s.mem := by cases s; rfl
@[simp] theorem State.setPort_tarn (s : State) (q : Port) (x : PortSt) : (s.setPort q x).tarn = s.tarn := by cases s; rfl
@[simp] theorem State.setPort_rowErrs (s : State) (q : Port) (x : PortSt) : (s.setPort q x).rowErrs = s.rowErrs := by cases s; rfl
@[simp] theorem State.setPort_remaps (s : State) (q : Port) (x : PortSt) : (s.setPort q x).remaps = s.remaps := by cases s; rfl
@[simp] theorem State.setPort_savedRemaps (s : State) (q : Port) (x : PortSt) : (s.setPort q x).savedRemaps = s.savedRemaps := by cases s; rfl
@[simp] theorem State.setPort_repairLog (s : State) (q : Port) (x : PortSt) : (s.setPort q x).repairLog = s.repairLog := by cases s; rfl
@[simp] theorem State.setPort_badSectors (s : State) (q : Port) (x : PortSt) : (s.setPort q x).badSectors = s.badSectors := by cases s; rfl
@[simp] theorem State.setPort_memFenced (s : State) (q : Port) (x : PortSt) : (s.setPort q x).memFenced = s.memFenced := by cases s; rfl
@[simp] theorem State.setPort_mappedGran (s : State) (q : Port) (x : PortSt) : (s.setPort q x).mappedGran = s.mappedGran := by cases s; rfl
@[simp] theorem State.setPort_zeroOrders (s : State) (q : Port) (x : PortSt) : (s.setPort q x).zeroOrders = s.zeroOrders := by cases s; rfl
@[simp] theorem State.setPort_arrays (s : State) (q : Port) (x : PortSt) : (s.setPort q x).arrays = s.arrays := by cases s; rfl
@[simp] theorem State.setPort_repairLines (s : State) (q : Port) (x : PortSt) : (s.setPort q x).repairLines = s.repairLines := by cases s; rfl
@[simp] theorem State.setPort_queues (s : State) (q : Port) (x : PortSt) : (s.setPort q x).queues = s.queues := by cases s; rfl
@[simp] theorem State.setPort_cairns (s : State) (q : Port) (x : PortSt) : (s.setPort q x).cairns = s.cairns := by cases s; rfl
@[simp] theorem State.setPort_tracks (s : State) (q : Port) (x : PortSt) : (s.setPort q x).tracks = s.tracks := by cases s; rfl
@[simp] theorem State.setPort_cores (s : State) (q : Port) (x : PortSt) : (s.setPort q x).cores = s.cores := by cases s; rfl
@[simp] theorem State.setPort_dispatches (s : State) (q : Port) (x : PortSt) : (s.setPort q x).dispatches = s.dispatches := by cases s; rfl
@[simp] theorem State.setPort_dmaRuns (s : State) (q : Port) (x : PortSt) : (s.setPort q x).dmaRuns = s.dmaRuns := by cases s; rfl
@[simp] theorem State.setPort_requests (s : State) (q : Port) (x : PortSt) : (s.setPort q x).requests = s.requests := by cases s; rfl
@[simp] theorem State.setPort_windows (s : State) (q : Port) (x : PortSt) : (s.setPort q x).windows = s.windows := by cases s; rfl
@[simp] theorem State.setPort_respUse (s : State) (q : Port) (x : PortSt) : (s.setPort q x).respUse = s.respUse := by cases s; rfl
@[simp] theorem State.setPort_nextXid (s : State) (q : Port) (x : PortSt) : (s.setPort q x).nextXid = s.nextXid := by cases s; rfl
@[simp] theorem State.setPort_nextId (s : State) (q : Port) (x : PortSt) : (s.setPort q x).nextId = s.nextId := by cases s; rfl
@[simp] theorem State.setPort_parts (s : State) (q : Port) (x : PortSt) : (s.setPort q x).parts = s.parts := by cases s; rfl
@[simp] theorem State.setPort_wkeys (s : State) (q : Port) (x : PortSt) : (s.setPort q x).wkeys = s.wkeys := by cases s; rfl
@[simp] theorem State.setPort_staging (s : State) (q : Port) (x : PortSt) : (s.setPort q x).staging = s.staging := by cases s; rfl
@[simp] theorem State.setPort_fltLog (s : State) (q : Port) (x : PortSt) : (s.setPort q x).fltLog = s.fltLog := by cases s; rfl
@[simp] theorem State.setPort_recoveryTimes (s : State) (q : Port) (x : PortSt) : (s.setPort q x).recoveryTimes = s.recoveryTimes := by cases s; rfl
@[simp] theorem State.setPort_quietPages (s : State) (q : Port) (x : PortSt) : (s.setPort q x).quietPages = s.quietPages := by cases s; rfl
@[simp] theorem State.setPort_quietParts (s : State) (q : Port) (x : PortSt) : (s.setPort q x).quietParts = s.quietParts := by cases s; rfl
@[simp] theorem State.setPort_fencedDies (s : State) (q : Port) (x : PortSt) : (s.setPort q x).fencedDies = s.fencedDies := by cases s; rfl
@[simp] theorem State.setPort_lostRails (s : State) (q : Port) (x : PortSt) : (s.setPort q x).lostRails = s.lostRails := by cases s; rfl
@[simp] theorem State.setPort_thermtrip (s : State) (q : Port) (x : PortSt) : (s.setPort q x).thermtrip = s.thermtrip := by cases s; rfl
@[simp] theorem State.setPort_chans (s : State) (q : Port) (x : PortSt) : (s.setPort q x).chans = s.chans := by cases s; rfl
@[simp] theorem State.setPort_fns (s : State) (q : Port) (x : PortSt) : (s.setPort q x).fns = s.fns := by cases s; rfl
@[simp] theorem State.setPort_bar2 (s : State) (q : Port) (x : PortSt) : (s.setPort q x).bar2 = s.bar2 := by cases s; rfl
@[simp] theorem State.setPort_held (s : State) (q : Port) (x : PortSt) : (s.setPort q x).held = s.held := by cases s; rfl
@[simp] theorem State.setPort_relayOut (s : State) (q : Port) (x : PortSt) : (s.setPort q x).relayOut = s.relayOut := by cases s; rfl
@[simp] theorem State.setPort_relayCtr (s : State) (q : Port) (x : PortSt) : (s.setPort q x).relayCtr = s.relayCtr := by cases s; rfl
@[simp] theorem State.setPort_boardSess (s : State) (q : Port) (x : PortSt) : (s.setPort q x).boardSess = s.boardSess := by cases s; rfl
@[simp] theorem State.setPort_i3c (s : State) (q : Port) (x : PortSt) : (s.setPort q x).i3c = s.i3c := by cases s; rfl
@[simp] theorem State.setPort_eid (s : State) (q : Port) (x : PortSt) : (s.setPort q x).eid = s.eid := by cases s; rfl
@[simp] theorem State.setPort_sensors (s : State) (q : Port) (x : PortSt) : (s.setPort q x).sensors = s.sensors := by cases s; rfl
@[simp] theorem State.setPort_agents (s : State) (q : Port) (x : PortSt) : (s.setPort q x).agents = s.agents := by cases s; rfl
@[simp] theorem State.setPort_transits (s : State) (q : Port) (x : PortSt) : (s.setPort q x).transits = s.transits := by cases s; rfl
@[simp] theorem State.setPort_d2d (s : State) (q : Port) (x : PortSt) : (s.setPort q x).d2d = s.d2d := by cases s; rfl
@[simp] theorem State.setPort_reserved (s : State) (q : Port) (x : PortSt) : (s.setPort q x).reserved = s.reserved := by cases s; rfl
@[simp] theorem State.setPort_tables (s : State) (q : Port) (x : PortSt) : (s.setPort q x).tables = s.tables := by cases s; rfl
@[simp] theorem State.setPort_d2dRuns (s : State) (q : Port) (x : PortSt) : (s.setPort q x).d2dRuns = s.d2dRuns := by cases s; rfl
@[simp] theorem State.setPort_xfers (s : State) (q : Port) (x : PortSt) : (s.setPort q x).xfers = s.xfers := by cases s; rfl
@[simp] theorem State.setPort_hotEngines (s : State) (q : Port) (x : PortSt) : (s.setPort q x).hotEngines = s.hotEngines := by cases s; rfl
@[simp] theorem State.setPort_boot (s : State) (q : Port) (x : PortSt) : (s.setPort q x).boot = s.boot := by cases s; rfl
@[simp] theorem State.setPort_plan (s : State) (q : Port) (x : PortSt) : (s.setPort q x).plan = s.plan := by cases s; rfl
@[simp] theorem State.setPort_bootPlan (s : State) (q : Port) (x : PortSt) : (s.setPort q x).bootPlan = s.bootPlan := by cases s; rfl
@[simp] theorem State.setPort_maxPlanSeq (s : State) (q : Port) (x : PortSt) : (s.setPort q x).maxPlanSeq = s.maxPlanSeq := by cases s; rfl
@[simp] theorem State.setPort_fwDigest (s : State) (q : Port) (x : PortSt) : (s.setPort q x).fwDigest = s.fwDigest := by cases s; rfl
@[simp] theorem State.setPort_fwComps (s : State) (q : Port) (x : PortSt) : (s.setPort q x).fwComps = s.fwComps := by cases s; rfl
@[simp] theorem State.setPort_flash (s : State) (q : Port) (x : PortSt) : (s.setPort q x).flash = s.flash := by cases s; rfl
@[simp] theorem State.setPort_fwStaged (s : State) (q : Port) (x : PortSt) : (s.setPort q x).fwStaged = s.fwStaged := by cases s; rfl
@[simp] theorem State.setPort_codeHeld (s : State) (q : Port) (x : PortSt) : (s.setPort q x).codeHeld = s.codeHeld := by cases s; rfl
@[simp] theorem State.setPort_codeStaged (s : State) (q : Port) (x : PortSt) : (s.setPort q x).codeStaged = s.codeStaged := by cases s; rfl
@[simp] theorem State.setPort_rcv (s : State) (q : Port) (x : PortSt) : (s.setPort q x).rcv = s.rcv := by cases s; rfl
@[simp] theorem State.setPort_dist (s : State) (q : Port) (x : PortSt) : (s.setPort q x).dist = s.dist := by cases s; rfl
@[simp] theorem State.setPort_mcReset (s : State) (q : Port) (x : PortSt) : (s.setPort q x).mcReset = s.mcReset := by cases s; rfl
@[simp] theorem State.setPort_dbgCounters (s : State) (q : Port) (x : PortSt) : (s.setPort q x).dbgCounters = s.dbgCounters := by cases s; rfl
@[simp] theorem State.setPort_unlocks (s : State) (q : Port) (x : PortSt) : (s.setPort q x).unlocks = s.unlocks := by cases s; rfl
@[simp] theorem State.setPort_power (s : State) (q : Port) (x : PortSt) : (s.setPort q x).power = s.power := by cases s; rfl
@[simp] theorem State.setPort_pkgPower (s : State) (q : Port) (x : PortSt) : (s.setPort q x).pkgPower = s.pkgPower := by cases s; rfl
@[simp] theorem State.setPort_ridge (s : State) (q : Port) (x : PortSt) : (s.setPort q x).ridge = s.ridge := by cases s; rfl
@[simp] theorem State.setPort_smt (s : State) (q : Port) (x : PortSt) : (s.setPort q x).smt = s.smt := by cases s; rfl
@[simp] theorem State.setPort_pairSess (s : State) (q : Port) (x : PortSt) : (s.setPort q x).pairSess = s.pairSess := by cases s; rfl
@[simp] theorem State.setPort_heldTerm (s : State) (q : Port) (x : PortSt) : (s.setPort q x).heldTerm = s.heldTerm := by cases s; rfl
@[simp] theorem State.setPort_heldBy (s : State) (q : Port) (x : PortSt) : (s.setPort q x).heldBy = s.heldBy := by cases s; rfl
@[simp] theorem State.setPort_rd (s : State) (q : Port) (x : PortSt) (za : Nat) : (s.setPort q x).rd za = s.rd za := by simp [State.rd]
@[simp] theorem State.setPort_fld (s : State) (q : Port) (x : PortSt) (zp : Page) (zf : Field) : (s.setPort q x).fld zp zf = s.fld zp zf := by simp [State.fld]
@[simp] theorem State.setPort_flag (s : State) (q : Port) (x : PortSt) (zp : Page) (zf : Field) : (s.setPort q x).flag zp zf = s.flag zp zf := by simp [State.flag]
@[simp] theorem State.setPort_counter (s : State) (q : Port) (x : PortSt) (zp : Page) (zoff : Nat) : (s.setPort q x).counter zp zoff = s.counter zp zoff := by unfold State.counter; rw [State.setPort_rd, State.setPort_rd]
@[simp] theorem State.setPort_counterOvf (s : State) (q : Port) (x : PortSt) (zp : Page) (zoff : Nat) : (s.setPort q x).counterOvf zp zoff = s.counterOvf zp zoff := by simp [State.counterOvf]
@[simp] theorem State.setPort_inReset (s : State) (q : Port) (x : PortSt) (zd : Die) : (s.setPort q x).inReset zd = s.inReset zd := by simp [State.inReset]
@[simp] theorem State.setPort_partState (s : State) (q : Port) (x : PortSt) (zp : Part) : (s.setPort q x).partState zp = s.partState zp := by simp [State.partState]
@[simp] theorem State.setPort_partFenced (s : State) (q : Port) (x : PortSt) (zp : Part) : (s.setPort q x).partFenced zp = s.partFenced zp := by simp [State.partFenced]
@[simp] theorem State.setPort_lnk (s : State) (q : Port) (x : PortSt) (zq : Port) : (s.setPort q x).lnk zq = s.lnk zq := by simp [State.lnk]
@[simp] theorem State.setPort_memRange (s : State) (q : Port) (x : PortSt) (zc : CDie) (zp : Part) (zi : Nat) : (s.setPort q x).memRange zc zp zi = s.memRange zc zp zi := by simp [State.memRange]
@[simp] theorem State.setPort_tarnAlloc (s : State) (q : Port) (x : PortSt) (zc : CDie) (zp : Part) : (s.setPort q x).tarnAlloc zc zp = s.tarnAlloc zc zp := by simp [State.tarnAlloc]
@[simp] theorem State.setPort_cairnRange (s : State) (q : Port) (x : PortSt) (zc : CDie) (zp : Part) : (s.setPort q x).cairnRange zc zp = s.cairnRange zc zp := by simp [State.cairnRange]
@[simp] theorem State.setPort_winOpen (s : State) (q : Port) (x : PortSt) (zp : Part) : (s.setPort q x).winOpen zp = s.winOpen zp := by simp [State.winOpen]
@[simp] theorem State.setPort_vfOn (s : State) (q : Port) (x : PortSt) (zp : Part) : (s.setPort q x).vfOn zp = s.vfOn zp := by simp [State.vfOn]
@[simp] theorem State.setPort_msfState (s : State) (q : Port) (x : PortSt) (zc : CDie) : (s.setPort q x).msfState zc = s.msfState zc := by simp [State.msfState]
@[simp] theorem State.setPort_stepK (s : State) (q : Port) (x : PortSt) (zc : CDie) : (s.setPort q x).stepK zc = s.stepK zc := by simp [State.stepK]
@[simp] theorem State.setPort_injection (s : State) (q : Port) (x : PortSt) (zp : Page) (zchecker : Nat) : (s.setPort q x).injection zp zchecker = s.injection zp zchecker := by simp [State.injection]
@[simp] theorem State.setPort_disc (s : State) (q : Port) (x : PortSt) : (s.setPort q x).disc = s.disc := by simp [State.disc]
@[simp] theorem State.setPort_pairSt (s : State) (q : Port) (x : PortSt) : (s.setPort q x).pairSt = s.pairSt := by simp [State.pairSt]
@[simp] theorem State.setPort_now (s : State) (q : Port) (x : PortSt) (zd : Die) : (s.setPort q x).now zd = s.now zd := by simp [State.now]
@[simp] theorem State.setPort_array (s : State) (q : Port) (x : PortSt) (zc : CDie) : (s.setPort q x).array zc = s.array zc := by simp [State.array]
@[simp] theorem State.setPort_queue (s : State) (q : Port) (x : PortSt) (zr : QRef) : (s.setPort q x).queue zr = s.queue zr := by simp [State.queue]
@[simp] theorem State.setPort_partQ (s : State) (q : Port) (x : PortSt) (zp : Part) : (s.setPort q x).part? zp = s.part? zp := by simp [State.part?]
@[simp] theorem State.setPort_isConf (s : State) (q : Port) (x : PortSt) (zp : Part) : (s.setPort q x).isConf zp = s.isConf zp := by simp [State.isConf]
@[simp] theorem State.setPort_chan (s : State) (q : Port) (x : PortSt) (zk : Nat) : (s.setPort q x).chan zk = s.chan zk := by simp [State.chan]
@[simp] theorem State.setPort_agent (s : State) (q : Port) (x : PortSt) (zk : PDie) : (s.setPort q x).agent zk = s.agent zk := by simp [State.agent]
@[simp] theorem State.setPort_core (s : State) (q : Port) (x : PortSt) (zc : CDie) (zk : Core) : (s.setPort q x).core zc zk = s.core zc zk := by simp [State.core]
@[simp] theorem State.setPort_cairn (s : State) (q : Port) (x : PortSt) (zc : CDie) (zn : Nat) : (s.setPort q x).cairn zc zn = s.cairn zc zn := by simp [State.cairn]
@[simp] theorem State.setPort_fn (s : State) (q : Port) (x : PortSt) (zf : Fn) : (s.setPort q x).fn zf = s.fn zf := by simp [State.fn]
@[simp] theorem State.setPort_wkey (s : State) (q : Port) (x : PortSt) (zp : Part) (zprev : Bool) : (s.setPort q x).wkey zp zprev = s.wkey zp zprev := by simp [State.wkey]
@[simp] theorem State.setPort_memByte (s : State) (q : Port) (x : PortSt) (zc : CDie) (zoff : Nat) : (s.setPort q x).memByte zc zoff = s.memByte zc zoff := by simp [State.memByte]
@[simp] theorem State.setPort_memGet (s : State) (q : Port) (x : PortSt) (zc : CDie) (zoff : Nat) (zn : Nat) : (s.setPort q x).memGet zc zoff zn = s.memGet zc zoff zn := by simp [State.memGet]
@[simp] theorem State.setPort_tarnByte (s : State) (q : Port) (x : PortSt) (zc : CDie) (zoff : Nat) : (s.setPort q x).tarnByte zc zoff = s.tarnByte zc zoff := by simp [State.tarnByte]
@[simp] theorem State.setPort_tarnGet (s : State) (q : Port) (x : PortSt) (zc : CDie) (zoff : Nat) (zn : Nat) : (s.setPort q x).tarnGet zc zoff zn = s.tarnGet zc zoff zn := by simp [State.tarnGet]
@[simp] theorem State.setPort_dieDown (s : State) (q : Port) (x : PortSt) (zc : CDie) : (s.setPort q x).dieDown zc = s.dieDown zc := by simp [State.dieDown]
@[simp] theorem State.setPort_nparts (s : State) (q : Port) (x : PortSt) : (s.setPort q x).nparts = s.nparts := by simp [State.nparts]
@[simp] theorem State.setPort_memWf (s : State) (q : Port) (x : PortSt) : (s.setPort q x).memWf = s.memWf := by simp [State.memWf]
@[simp] theorem State.setPort_quiet (s : State) (q : Port) (x : PortSt) : (s.setPort q x).quiet = s.quiet := by simp [State.quiet]
@[simp] theorem State.setPort_settled (s : State) (q : Port) (x : PortSt) : (s.setPort q x).settled = s.settled := by simp [State.settled]

/-! `updPort` writes ports alone. -/

@[simp] theorem State.updPort_pending (s : State) (q : Port) (f : PortSt → PortSt) : (s.updPort q f).pending = s.pending := State.setPort_pending s _ _
@[simp] theorem State.updPort_out (s : State) (q : Port) (f : PortSt → PortSt) : (s.updPort q f).out = s.out := State.setPort_out s _ _
@[simp] theorem State.updPort_freeCtr (s : State) (q : Port) (f : PortSt → PortSt) : (s.updPort q f).freeCtr = s.freeCtr := State.setPort_freeCtr s _ _
@[simp] theorem State.updPort_mgmtOn (s : State) (q : Port) (f : PortSt → PortSt) : (s.updPort q f).mgmtOn = s.mgmtOn := State.setPort_mgmtOn s _ _
@[simp] theorem State.updPort_fuses (s : State) (q : Port) (f : PortSt → PortSt) : (s.updPort q f).fuses = s.fuses := State.setPort_fuses s _ _
@[simp] theorem State.updPort_straps (s : State) (q : Port) (f : PortSt → PortSt) : (s.updPort q f).straps = s.straps := State.setPort_straps s _ _
@[simp] theorem State.updPort_pos (s : State) (q : Port) (f : PortSt → PortSt) : (s.updPort q f).pos = s.pos := State.setPort_pos s _ _
@[simp] theorem State.updPort_regs (s : State) (q : Port) (f : PortSt → PortSt) : (s.updPort q f).regs = s.regs := State.setPort_regs s _ _
@[simp] theorem State.updPort_latches (s : State) (q : Port) (f : PortSt → PortSt) : (s.updPort q f).latches = s.latches := State.setPort_latches s _ _
@[simp] theorem State.updPort_gtime (s : State) (q : Port) (f : PortSt → PortSt) : (s.updPort q f).gtime = s.gtime := State.setPort_gtime s _ _
@[simp] theorem State.updPort_fclk (s : State) (q : Port) (f : PortSt → PortSt) : (s.updPort q f).fclk = s.fclk := State.setPort_fclk s _ _
@[simp] theorem State.updPort_mem (s : State) (q : Port) (f : PortSt → PortSt) : (s.updPort q f).mem = s.mem := State.setPort_mem s _ _
@[simp] theorem State.updPort_tarn (s : State) (q : Port) (f : PortSt → PortSt) : (s.updPort q f).tarn = s.tarn := State.setPort_tarn s _ _
@[simp] theorem State.updPort_rowErrs (s : State) (q : Port) (f : PortSt → PortSt) : (s.updPort q f).rowErrs = s.rowErrs := State.setPort_rowErrs s _ _
@[simp] theorem State.updPort_remaps (s : State) (q : Port) (f : PortSt → PortSt) : (s.updPort q f).remaps = s.remaps := State.setPort_remaps s _ _
@[simp] theorem State.updPort_savedRemaps (s : State) (q : Port) (f : PortSt → PortSt) : (s.updPort q f).savedRemaps = s.savedRemaps := State.setPort_savedRemaps s _ _
@[simp] theorem State.updPort_repairLog (s : State) (q : Port) (f : PortSt → PortSt) : (s.updPort q f).repairLog = s.repairLog := State.setPort_repairLog s _ _
@[simp] theorem State.updPort_badSectors (s : State) (q : Port) (f : PortSt → PortSt) : (s.updPort q f).badSectors = s.badSectors := State.setPort_badSectors s _ _
@[simp] theorem State.updPort_memFenced (s : State) (q : Port) (f : PortSt → PortSt) : (s.updPort q f).memFenced = s.memFenced := State.setPort_memFenced s _ _
@[simp] theorem State.updPort_mappedGran (s : State) (q : Port) (f : PortSt → PortSt) : (s.updPort q f).mappedGran = s.mappedGran := State.setPort_mappedGran s _ _
@[simp] theorem State.updPort_zeroOrders (s : State) (q : Port) (f : PortSt → PortSt) : (s.updPort q f).zeroOrders = s.zeroOrders := State.setPort_zeroOrders s _ _
@[simp] theorem State.updPort_arrays (s : State) (q : Port) (f : PortSt → PortSt) : (s.updPort q f).arrays = s.arrays := State.setPort_arrays s _ _
@[simp] theorem State.updPort_repairLines (s : State) (q : Port) (f : PortSt → PortSt) : (s.updPort q f).repairLines = s.repairLines := State.setPort_repairLines s _ _
@[simp] theorem State.updPort_queues (s : State) (q : Port) (f : PortSt → PortSt) : (s.updPort q f).queues = s.queues := State.setPort_queues s _ _
@[simp] theorem State.updPort_cairns (s : State) (q : Port) (f : PortSt → PortSt) : (s.updPort q f).cairns = s.cairns := State.setPort_cairns s _ _
@[simp] theorem State.updPort_tracks (s : State) (q : Port) (f : PortSt → PortSt) : (s.updPort q f).tracks = s.tracks := State.setPort_tracks s _ _
@[simp] theorem State.updPort_cores (s : State) (q : Port) (f : PortSt → PortSt) : (s.updPort q f).cores = s.cores := State.setPort_cores s _ _
@[simp] theorem State.updPort_dispatches (s : State) (q : Port) (f : PortSt → PortSt) : (s.updPort q f).dispatches = s.dispatches := State.setPort_dispatches s _ _
@[simp] theorem State.updPort_dmaRuns (s : State) (q : Port) (f : PortSt → PortSt) : (s.updPort q f).dmaRuns = s.dmaRuns := State.setPort_dmaRuns s _ _
@[simp] theorem State.updPort_requests (s : State) (q : Port) (f : PortSt → PortSt) : (s.updPort q f).requests = s.requests := State.setPort_requests s _ _
@[simp] theorem State.updPort_windows (s : State) (q : Port) (f : PortSt → PortSt) : (s.updPort q f).windows = s.windows := State.setPort_windows s _ _
@[simp] theorem State.updPort_respUse (s : State) (q : Port) (f : PortSt → PortSt) : (s.updPort q f).respUse = s.respUse := State.setPort_respUse s _ _
@[simp] theorem State.updPort_nextXid (s : State) (q : Port) (f : PortSt → PortSt) : (s.updPort q f).nextXid = s.nextXid := State.setPort_nextXid s _ _
@[simp] theorem State.updPort_nextId (s : State) (q : Port) (f : PortSt → PortSt) : (s.updPort q f).nextId = s.nextId := State.setPort_nextId s _ _
@[simp] theorem State.updPort_parts (s : State) (q : Port) (f : PortSt → PortSt) : (s.updPort q f).parts = s.parts := State.setPort_parts s _ _
@[simp] theorem State.updPort_wkeys (s : State) (q : Port) (f : PortSt → PortSt) : (s.updPort q f).wkeys = s.wkeys := State.setPort_wkeys s _ _
@[simp] theorem State.updPort_staging (s : State) (q : Port) (f : PortSt → PortSt) : (s.updPort q f).staging = s.staging := State.setPort_staging s _ _
@[simp] theorem State.updPort_fltLog (s : State) (q : Port) (f : PortSt → PortSt) : (s.updPort q f).fltLog = s.fltLog := State.setPort_fltLog s _ _
@[simp] theorem State.updPort_recoveryTimes (s : State) (q : Port) (f : PortSt → PortSt) : (s.updPort q f).recoveryTimes = s.recoveryTimes := State.setPort_recoveryTimes s _ _
@[simp] theorem State.updPort_quietPages (s : State) (q : Port) (f : PortSt → PortSt) : (s.updPort q f).quietPages = s.quietPages := State.setPort_quietPages s _ _
@[simp] theorem State.updPort_quietParts (s : State) (q : Port) (f : PortSt → PortSt) : (s.updPort q f).quietParts = s.quietParts := State.setPort_quietParts s _ _
@[simp] theorem State.updPort_fencedDies (s : State) (q : Port) (f : PortSt → PortSt) : (s.updPort q f).fencedDies = s.fencedDies := State.setPort_fencedDies s _ _
@[simp] theorem State.updPort_lostRails (s : State) (q : Port) (f : PortSt → PortSt) : (s.updPort q f).lostRails = s.lostRails := State.setPort_lostRails s _ _
@[simp] theorem State.updPort_thermtrip (s : State) (q : Port) (f : PortSt → PortSt) : (s.updPort q f).thermtrip = s.thermtrip := State.setPort_thermtrip s _ _
@[simp] theorem State.updPort_chans (s : State) (q : Port) (f : PortSt → PortSt) : (s.updPort q f).chans = s.chans := State.setPort_chans s _ _
@[simp] theorem State.updPort_fns (s : State) (q : Port) (f : PortSt → PortSt) : (s.updPort q f).fns = s.fns := State.setPort_fns s _ _
@[simp] theorem State.updPort_bar2 (s : State) (q : Port) (f : PortSt → PortSt) : (s.updPort q f).bar2 = s.bar2 := State.setPort_bar2 s _ _
@[simp] theorem State.updPort_held (s : State) (q : Port) (f : PortSt → PortSt) : (s.updPort q f).held = s.held := State.setPort_held s _ _
@[simp] theorem State.updPort_relayOut (s : State) (q : Port) (f : PortSt → PortSt) : (s.updPort q f).relayOut = s.relayOut := State.setPort_relayOut s _ _
@[simp] theorem State.updPort_relayCtr (s : State) (q : Port) (f : PortSt → PortSt) : (s.updPort q f).relayCtr = s.relayCtr := State.setPort_relayCtr s _ _
@[simp] theorem State.updPort_boardSess (s : State) (q : Port) (f : PortSt → PortSt) : (s.updPort q f).boardSess = s.boardSess := State.setPort_boardSess s _ _
@[simp] theorem State.updPort_i3c (s : State) (q : Port) (f : PortSt → PortSt) : (s.updPort q f).i3c = s.i3c := State.setPort_i3c s _ _
@[simp] theorem State.updPort_eid (s : State) (q : Port) (f : PortSt → PortSt) : (s.updPort q f).eid = s.eid := State.setPort_eid s _ _
@[simp] theorem State.updPort_sensors (s : State) (q : Port) (f : PortSt → PortSt) : (s.updPort q f).sensors = s.sensors := State.setPort_sensors s _ _
@[simp] theorem State.updPort_agents (s : State) (q : Port) (f : PortSt → PortSt) : (s.updPort q f).agents = s.agents := State.setPort_agents s _ _
@[simp] theorem State.updPort_transits (s : State) (q : Port) (f : PortSt → PortSt) : (s.updPort q f).transits = s.transits := State.setPort_transits s _ _
@[simp] theorem State.updPort_d2d (s : State) (q : Port) (f : PortSt → PortSt) : (s.updPort q f).d2d = s.d2d := State.setPort_d2d s _ _
@[simp] theorem State.updPort_reserved (s : State) (q : Port) (f : PortSt → PortSt) : (s.updPort q f).reserved = s.reserved := State.setPort_reserved s _ _
@[simp] theorem State.updPort_tables (s : State) (q : Port) (f : PortSt → PortSt) : (s.updPort q f).tables = s.tables := State.setPort_tables s _ _
@[simp] theorem State.updPort_d2dRuns (s : State) (q : Port) (f : PortSt → PortSt) : (s.updPort q f).d2dRuns = s.d2dRuns := State.setPort_d2dRuns s _ _
@[simp] theorem State.updPort_xfers (s : State) (q : Port) (f : PortSt → PortSt) : (s.updPort q f).xfers = s.xfers := State.setPort_xfers s _ _
@[simp] theorem State.updPort_hotEngines (s : State) (q : Port) (f : PortSt → PortSt) : (s.updPort q f).hotEngines = s.hotEngines := State.setPort_hotEngines s _ _
@[simp] theorem State.updPort_boot (s : State) (q : Port) (f : PortSt → PortSt) : (s.updPort q f).boot = s.boot := State.setPort_boot s _ _
@[simp] theorem State.updPort_plan (s : State) (q : Port) (f : PortSt → PortSt) : (s.updPort q f).plan = s.plan := State.setPort_plan s _ _
@[simp] theorem State.updPort_bootPlan (s : State) (q : Port) (f : PortSt → PortSt) : (s.updPort q f).bootPlan = s.bootPlan := State.setPort_bootPlan s _ _
@[simp] theorem State.updPort_maxPlanSeq (s : State) (q : Port) (f : PortSt → PortSt) : (s.updPort q f).maxPlanSeq = s.maxPlanSeq := State.setPort_maxPlanSeq s _ _
@[simp] theorem State.updPort_fwDigest (s : State) (q : Port) (f : PortSt → PortSt) : (s.updPort q f).fwDigest = s.fwDigest := State.setPort_fwDigest s _ _
@[simp] theorem State.updPort_fwComps (s : State) (q : Port) (f : PortSt → PortSt) : (s.updPort q f).fwComps = s.fwComps := State.setPort_fwComps s _ _
@[simp] theorem State.updPort_flash (s : State) (q : Port) (f : PortSt → PortSt) : (s.updPort q f).flash = s.flash := State.setPort_flash s _ _
@[simp] theorem State.updPort_fwStaged (s : State) (q : Port) (f : PortSt → PortSt) : (s.updPort q f).fwStaged = s.fwStaged := State.setPort_fwStaged s _ _
@[simp] theorem State.updPort_codeHeld (s : State) (q : Port) (f : PortSt → PortSt) : (s.updPort q f).codeHeld = s.codeHeld := State.setPort_codeHeld s _ _
@[simp] theorem State.updPort_codeStaged (s : State) (q : Port) (f : PortSt → PortSt) : (s.updPort q f).codeStaged = s.codeStaged := State.setPort_codeStaged s _ _
@[simp] theorem State.updPort_rcv (s : State) (q : Port) (f : PortSt → PortSt) : (s.updPort q f).rcv = s.rcv := State.setPort_rcv s _ _
@[simp] theorem State.updPort_dist (s : State) (q : Port) (f : PortSt → PortSt) : (s.updPort q f).dist = s.dist := State.setPort_dist s _ _
@[simp] theorem State.updPort_mcReset (s : State) (q : Port) (f : PortSt → PortSt) : (s.updPort q f).mcReset = s.mcReset := State.setPort_mcReset s _ _
@[simp] theorem State.updPort_dbgCounters (s : State) (q : Port) (f : PortSt → PortSt) : (s.updPort q f).dbgCounters = s.dbgCounters := State.setPort_dbgCounters s _ _
@[simp] theorem State.updPort_unlocks (s : State) (q : Port) (f : PortSt → PortSt) : (s.updPort q f).unlocks = s.unlocks := State.setPort_unlocks s _ _
@[simp] theorem State.updPort_power (s : State) (q : Port) (f : PortSt → PortSt) : (s.updPort q f).power = s.power := State.setPort_power s _ _
@[simp] theorem State.updPort_pkgPower (s : State) (q : Port) (f : PortSt → PortSt) : (s.updPort q f).pkgPower = s.pkgPower := State.setPort_pkgPower s _ _
@[simp] theorem State.updPort_ridge (s : State) (q : Port) (f : PortSt → PortSt) : (s.updPort q f).ridge = s.ridge := State.setPort_ridge s _ _
@[simp] theorem State.updPort_smt (s : State) (q : Port) (f : PortSt → PortSt) : (s.updPort q f).smt = s.smt := State.setPort_smt s _ _
@[simp] theorem State.updPort_pairSess (s : State) (q : Port) (f : PortSt → PortSt) : (s.updPort q f).pairSess = s.pairSess := State.setPort_pairSess s _ _
@[simp] theorem State.updPort_heldTerm (s : State) (q : Port) (f : PortSt → PortSt) : (s.updPort q f).heldTerm = s.heldTerm := State.setPort_heldTerm s _ _
@[simp] theorem State.updPort_heldBy (s : State) (q : Port) (f : PortSt → PortSt) : (s.updPort q f).heldBy = s.heldBy := State.setPort_heldBy s _ _
@[simp] theorem State.updPort_rd (s : State) (q : Port) (f : PortSt → PortSt) (za : Nat) : (s.updPort q f).rd za = s.rd za := by simp [State.rd]
@[simp] theorem State.updPort_fld (s : State) (q : Port) (f : PortSt → PortSt) (zp : Page) (zf : Field) : (s.updPort q f).fld zp zf = s.fld zp zf := by simp [State.fld]
@[simp] theorem State.updPort_flag (s : State) (q : Port) (f : PortSt → PortSt) (zp : Page) (zf : Field) : (s.updPort q f).flag zp zf = s.flag zp zf := by simp [State.flag]
@[simp] theorem State.updPort_counter (s : State) (q : Port) (f : PortSt → PortSt) (zp : Page) (zoff : Nat) : (s.updPort q f).counter zp zoff = s.counter zp zoff := by unfold State.counter; rw [State.updPort_rd, State.updPort_rd]
@[simp] theorem State.updPort_counterOvf (s : State) (q : Port) (f : PortSt → PortSt) (zp : Page) (zoff : Nat) : (s.updPort q f).counterOvf zp zoff = s.counterOvf zp zoff := by simp [State.counterOvf]
@[simp] theorem State.updPort_inReset (s : State) (q : Port) (f : PortSt → PortSt) (zd : Die) : (s.updPort q f).inReset zd = s.inReset zd := by simp [State.inReset]
@[simp] theorem State.updPort_partState (s : State) (q : Port) (f : PortSt → PortSt) (zp : Part) : (s.updPort q f).partState zp = s.partState zp := by simp [State.partState]
@[simp] theorem State.updPort_partFenced (s : State) (q : Port) (f : PortSt → PortSt) (zp : Part) : (s.updPort q f).partFenced zp = s.partFenced zp := by simp [State.partFenced]
@[simp] theorem State.updPort_lnk (s : State) (q : Port) (f : PortSt → PortSt) (zq : Port) : (s.updPort q f).lnk zq = s.lnk zq := by simp [State.lnk]
@[simp] theorem State.updPort_memRange (s : State) (q : Port) (f : PortSt → PortSt) (zc : CDie) (zp : Part) (zi : Nat) : (s.updPort q f).memRange zc zp zi = s.memRange zc zp zi := by simp [State.memRange]
@[simp] theorem State.updPort_tarnAlloc (s : State) (q : Port) (f : PortSt → PortSt) (zc : CDie) (zp : Part) : (s.updPort q f).tarnAlloc zc zp = s.tarnAlloc zc zp := by simp [State.tarnAlloc]
@[simp] theorem State.updPort_cairnRange (s : State) (q : Port) (f : PortSt → PortSt) (zc : CDie) (zp : Part) : (s.updPort q f).cairnRange zc zp = s.cairnRange zc zp := by simp [State.cairnRange]
@[simp] theorem State.updPort_winOpen (s : State) (q : Port) (f : PortSt → PortSt) (zp : Part) : (s.updPort q f).winOpen zp = s.winOpen zp := by simp [State.winOpen]
@[simp] theorem State.updPort_vfOn (s : State) (q : Port) (f : PortSt → PortSt) (zp : Part) : (s.updPort q f).vfOn zp = s.vfOn zp := by simp [State.vfOn]
@[simp] theorem State.updPort_msfState (s : State) (q : Port) (f : PortSt → PortSt) (zc : CDie) : (s.updPort q f).msfState zc = s.msfState zc := by simp [State.msfState]
@[simp] theorem State.updPort_stepK (s : State) (q : Port) (f : PortSt → PortSt) (zc : CDie) : (s.updPort q f).stepK zc = s.stepK zc := by simp [State.stepK]
@[simp] theorem State.updPort_injection (s : State) (q : Port) (f : PortSt → PortSt) (zp : Page) (zchecker : Nat) : (s.updPort q f).injection zp zchecker = s.injection zp zchecker := by simp [State.injection]
@[simp] theorem State.updPort_disc (s : State) (q : Port) (f : PortSt → PortSt) : (s.updPort q f).disc = s.disc := by simp [State.disc]
@[simp] theorem State.updPort_pairSt (s : State) (q : Port) (f : PortSt → PortSt) : (s.updPort q f).pairSt = s.pairSt := by simp [State.pairSt]
@[simp] theorem State.updPort_now (s : State) (q : Port) (f : PortSt → PortSt) (zd : Die) : (s.updPort q f).now zd = s.now zd := by simp [State.now]
@[simp] theorem State.updPort_array (s : State) (q : Port) (f : PortSt → PortSt) (zc : CDie) : (s.updPort q f).array zc = s.array zc := by simp [State.array]
@[simp] theorem State.updPort_queue (s : State) (q : Port) (f : PortSt → PortSt) (zr : QRef) : (s.updPort q f).queue zr = s.queue zr := by simp [State.queue]
@[simp] theorem State.updPort_partQ (s : State) (q : Port) (f : PortSt → PortSt) (zp : Part) : (s.updPort q f).part? zp = s.part? zp := by simp [State.part?]
@[simp] theorem State.updPort_isConf (s : State) (q : Port) (f : PortSt → PortSt) (zp : Part) : (s.updPort q f).isConf zp = s.isConf zp := by simp [State.isConf]
@[simp] theorem State.updPort_chan (s : State) (q : Port) (f : PortSt → PortSt) (zk : Nat) : (s.updPort q f).chan zk = s.chan zk := by simp [State.chan]
@[simp] theorem State.updPort_agent (s : State) (q : Port) (f : PortSt → PortSt) (zk : PDie) : (s.updPort q f).agent zk = s.agent zk := by simp [State.agent]
@[simp] theorem State.updPort_core (s : State) (q : Port) (f : PortSt → PortSt) (zc : CDie) (zk : Core) : (s.updPort q f).core zc zk = s.core zc zk := by simp [State.core]
@[simp] theorem State.updPort_cairn (s : State) (q : Port) (f : PortSt → PortSt) (zc : CDie) (zn : Nat) : (s.updPort q f).cairn zc zn = s.cairn zc zn := by simp [State.cairn]
@[simp] theorem State.updPort_fn (s : State) (q : Port) (f : PortSt → PortSt) (zf : Fn) : (s.updPort q f).fn zf = s.fn zf := by simp [State.fn]
@[simp] theorem State.updPort_wkey (s : State) (q : Port) (f : PortSt → PortSt) (zp : Part) (zprev : Bool) : (s.updPort q f).wkey zp zprev = s.wkey zp zprev := by simp [State.wkey]
@[simp] theorem State.updPort_memByte (s : State) (q : Port) (f : PortSt → PortSt) (zc : CDie) (zoff : Nat) : (s.updPort q f).memByte zc zoff = s.memByte zc zoff := by simp [State.memByte]
@[simp] theorem State.updPort_memGet (s : State) (q : Port) (f : PortSt → PortSt) (zc : CDie) (zoff : Nat) (zn : Nat) : (s.updPort q f).memGet zc zoff zn = s.memGet zc zoff zn := by simp [State.memGet]
@[simp] theorem State.updPort_tarnByte (s : State) (q : Port) (f : PortSt → PortSt) (zc : CDie) (zoff : Nat) : (s.updPort q f).tarnByte zc zoff = s.tarnByte zc zoff := by simp [State.tarnByte]
@[simp] theorem State.updPort_tarnGet (s : State) (q : Port) (f : PortSt → PortSt) (zc : CDie) (zoff : Nat) (zn : Nat) : (s.updPort q f).tarnGet zc zoff zn = s.tarnGet zc zoff zn := by simp [State.tarnGet]
@[simp] theorem State.updPort_dieDown (s : State) (q : Port) (f : PortSt → PortSt) (zc : CDie) : (s.updPort q f).dieDown zc = s.dieDown zc := by simp [State.dieDown]
@[simp] theorem State.updPort_nparts (s : State) (q : Port) (f : PortSt → PortSt) : (s.updPort q f).nparts = s.nparts := by simp [State.nparts]
@[simp] theorem State.updPort_memWf (s : State) (q : Port) (f : PortSt → PortSt) : (s.updPort q f).memWf = s.memWf := by simp [State.memWf]
@[simp] theorem State.updPort_quiet (s : State) (q : Port) (f : PortSt → PortSt) : (s.updPort q f).quiet = s.quiet := by simp [State.quiet]
@[simp] theorem State.updPort_settled (s : State) (q : Port) (f : PortSt → PortSt) : (s.updPort q f).settled = s.settled := by simp [State.settled]

/-! `updTel` writes ports alone. -/

@[simp] theorem State.updTel_pending (s : State) (q : Port) (f : PortTel → PortTel) : (s.updTel q f).pending = s.pending := State.updPort_pending s _ _
@[simp] theorem State.updTel_out (s : State) (q : Port) (f : PortTel → PortTel) : (s.updTel q f).out = s.out := State.updPort_out s _ _
@[simp] theorem State.updTel_freeCtr (s : State) (q : Port) (f : PortTel → PortTel) : (s.updTel q f).freeCtr = s.freeCtr := State.updPort_freeCtr s _ _
@[simp] theorem State.updTel_mgmtOn (s : State) (q : Port) (f : PortTel → PortTel) : (s.updTel q f).mgmtOn = s.mgmtOn := State.updPort_mgmtOn s _ _
@[simp] theorem State.updTel_fuses (s : State) (q : Port) (f : PortTel → PortTel) : (s.updTel q f).fuses = s.fuses := State.updPort_fuses s _ _
@[simp] theorem State.updTel_straps (s : State) (q : Port) (f : PortTel → PortTel) : (s.updTel q f).straps = s.straps := State.updPort_straps s _ _
@[simp] theorem State.updTel_pos (s : State) (q : Port) (f : PortTel → PortTel) : (s.updTel q f).pos = s.pos := State.updPort_pos s _ _
@[simp] theorem State.updTel_regs (s : State) (q : Port) (f : PortTel → PortTel) : (s.updTel q f).regs = s.regs := State.updPort_regs s _ _
@[simp] theorem State.updTel_latches (s : State) (q : Port) (f : PortTel → PortTel) : (s.updTel q f).latches = s.latches := State.updPort_latches s _ _
@[simp] theorem State.updTel_gtime (s : State) (q : Port) (f : PortTel → PortTel) : (s.updTel q f).gtime = s.gtime := State.updPort_gtime s _ _
@[simp] theorem State.updTel_fclk (s : State) (q : Port) (f : PortTel → PortTel) : (s.updTel q f).fclk = s.fclk := State.updPort_fclk s _ _
@[simp] theorem State.updTel_mem (s : State) (q : Port) (f : PortTel → PortTel) : (s.updTel q f).mem = s.mem := State.updPort_mem s _ _
@[simp] theorem State.updTel_tarn (s : State) (q : Port) (f : PortTel → PortTel) : (s.updTel q f).tarn = s.tarn := State.updPort_tarn s _ _
@[simp] theorem State.updTel_rowErrs (s : State) (q : Port) (f : PortTel → PortTel) : (s.updTel q f).rowErrs = s.rowErrs := State.updPort_rowErrs s _ _
@[simp] theorem State.updTel_remaps (s : State) (q : Port) (f : PortTel → PortTel) : (s.updTel q f).remaps = s.remaps := State.updPort_remaps s _ _
@[simp] theorem State.updTel_savedRemaps (s : State) (q : Port) (f : PortTel → PortTel) : (s.updTel q f).savedRemaps = s.savedRemaps := State.updPort_savedRemaps s _ _
@[simp] theorem State.updTel_repairLog (s : State) (q : Port) (f : PortTel → PortTel) : (s.updTel q f).repairLog = s.repairLog := State.updPort_repairLog s _ _
@[simp] theorem State.updTel_badSectors (s : State) (q : Port) (f : PortTel → PortTel) : (s.updTel q f).badSectors = s.badSectors := State.updPort_badSectors s _ _
@[simp] theorem State.updTel_memFenced (s : State) (q : Port) (f : PortTel → PortTel) : (s.updTel q f).memFenced = s.memFenced := State.updPort_memFenced s _ _
@[simp] theorem State.updTel_mappedGran (s : State) (q : Port) (f : PortTel → PortTel) : (s.updTel q f).mappedGran = s.mappedGran := State.updPort_mappedGran s _ _
@[simp] theorem State.updTel_zeroOrders (s : State) (q : Port) (f : PortTel → PortTel) : (s.updTel q f).zeroOrders = s.zeroOrders := State.updPort_zeroOrders s _ _
@[simp] theorem State.updTel_arrays (s : State) (q : Port) (f : PortTel → PortTel) : (s.updTel q f).arrays = s.arrays := State.updPort_arrays s _ _
@[simp] theorem State.updTel_repairLines (s : State) (q : Port) (f : PortTel → PortTel) : (s.updTel q f).repairLines = s.repairLines := State.updPort_repairLines s _ _
@[simp] theorem State.updTel_queues (s : State) (q : Port) (f : PortTel → PortTel) : (s.updTel q f).queues = s.queues := State.updPort_queues s _ _
@[simp] theorem State.updTel_cairns (s : State) (q : Port) (f : PortTel → PortTel) : (s.updTel q f).cairns = s.cairns := State.updPort_cairns s _ _
@[simp] theorem State.updTel_tracks (s : State) (q : Port) (f : PortTel → PortTel) : (s.updTel q f).tracks = s.tracks := State.updPort_tracks s _ _
@[simp] theorem State.updTel_cores (s : State) (q : Port) (f : PortTel → PortTel) : (s.updTel q f).cores = s.cores := State.updPort_cores s _ _
@[simp] theorem State.updTel_dispatches (s : State) (q : Port) (f : PortTel → PortTel) : (s.updTel q f).dispatches = s.dispatches := State.updPort_dispatches s _ _
@[simp] theorem State.updTel_dmaRuns (s : State) (q : Port) (f : PortTel → PortTel) : (s.updTel q f).dmaRuns = s.dmaRuns := State.updPort_dmaRuns s _ _
@[simp] theorem State.updTel_requests (s : State) (q : Port) (f : PortTel → PortTel) : (s.updTel q f).requests = s.requests := State.updPort_requests s _ _
@[simp] theorem State.updTel_windows (s : State) (q : Port) (f : PortTel → PortTel) : (s.updTel q f).windows = s.windows := State.updPort_windows s _ _
@[simp] theorem State.updTel_respUse (s : State) (q : Port) (f : PortTel → PortTel) : (s.updTel q f).respUse = s.respUse := State.updPort_respUse s _ _
@[simp] theorem State.updTel_nextXid (s : State) (q : Port) (f : PortTel → PortTel) : (s.updTel q f).nextXid = s.nextXid := State.updPort_nextXid s _ _
@[simp] theorem State.updTel_nextId (s : State) (q : Port) (f : PortTel → PortTel) : (s.updTel q f).nextId = s.nextId := State.updPort_nextId s _ _
@[simp] theorem State.updTel_parts (s : State) (q : Port) (f : PortTel → PortTel) : (s.updTel q f).parts = s.parts := State.updPort_parts s _ _
@[simp] theorem State.updTel_wkeys (s : State) (q : Port) (f : PortTel → PortTel) : (s.updTel q f).wkeys = s.wkeys := State.updPort_wkeys s _ _
@[simp] theorem State.updTel_staging (s : State) (q : Port) (f : PortTel → PortTel) : (s.updTel q f).staging = s.staging := State.updPort_staging s _ _
@[simp] theorem State.updTel_fltLog (s : State) (q : Port) (f : PortTel → PortTel) : (s.updTel q f).fltLog = s.fltLog := State.updPort_fltLog s _ _
@[simp] theorem State.updTel_recoveryTimes (s : State) (q : Port) (f : PortTel → PortTel) : (s.updTel q f).recoveryTimes = s.recoveryTimes := State.updPort_recoveryTimes s _ _
@[simp] theorem State.updTel_quietPages (s : State) (q : Port) (f : PortTel → PortTel) : (s.updTel q f).quietPages = s.quietPages := State.updPort_quietPages s _ _
@[simp] theorem State.updTel_quietParts (s : State) (q : Port) (f : PortTel → PortTel) : (s.updTel q f).quietParts = s.quietParts := State.updPort_quietParts s _ _
@[simp] theorem State.updTel_fencedDies (s : State) (q : Port) (f : PortTel → PortTel) : (s.updTel q f).fencedDies = s.fencedDies := State.updPort_fencedDies s _ _
@[simp] theorem State.updTel_lostRails (s : State) (q : Port) (f : PortTel → PortTel) : (s.updTel q f).lostRails = s.lostRails := State.updPort_lostRails s _ _
@[simp] theorem State.updTel_thermtrip (s : State) (q : Port) (f : PortTel → PortTel) : (s.updTel q f).thermtrip = s.thermtrip := State.updPort_thermtrip s _ _
@[simp] theorem State.updTel_chans (s : State) (q : Port) (f : PortTel → PortTel) : (s.updTel q f).chans = s.chans := State.updPort_chans s _ _
@[simp] theorem State.updTel_fns (s : State) (q : Port) (f : PortTel → PortTel) : (s.updTel q f).fns = s.fns := State.updPort_fns s _ _
@[simp] theorem State.updTel_bar2 (s : State) (q : Port) (f : PortTel → PortTel) : (s.updTel q f).bar2 = s.bar2 := State.updPort_bar2 s _ _
@[simp] theorem State.updTel_held (s : State) (q : Port) (f : PortTel → PortTel) : (s.updTel q f).held = s.held := State.updPort_held s _ _
@[simp] theorem State.updTel_relayOut (s : State) (q : Port) (f : PortTel → PortTel) : (s.updTel q f).relayOut = s.relayOut := State.updPort_relayOut s _ _
@[simp] theorem State.updTel_relayCtr (s : State) (q : Port) (f : PortTel → PortTel) : (s.updTel q f).relayCtr = s.relayCtr := State.updPort_relayCtr s _ _
@[simp] theorem State.updTel_boardSess (s : State) (q : Port) (f : PortTel → PortTel) : (s.updTel q f).boardSess = s.boardSess := State.updPort_boardSess s _ _
@[simp] theorem State.updTel_i3c (s : State) (q : Port) (f : PortTel → PortTel) : (s.updTel q f).i3c = s.i3c := State.updPort_i3c s _ _
@[simp] theorem State.updTel_eid (s : State) (q : Port) (f : PortTel → PortTel) : (s.updTel q f).eid = s.eid := State.updPort_eid s _ _
@[simp] theorem State.updTel_sensors (s : State) (q : Port) (f : PortTel → PortTel) : (s.updTel q f).sensors = s.sensors := State.updPort_sensors s _ _
@[simp] theorem State.updTel_agents (s : State) (q : Port) (f : PortTel → PortTel) : (s.updTel q f).agents = s.agents := State.updPort_agents s _ _
@[simp] theorem State.updTel_transits (s : State) (q : Port) (f : PortTel → PortTel) : (s.updTel q f).transits = s.transits := State.updPort_transits s _ _
@[simp] theorem State.updTel_d2d (s : State) (q : Port) (f : PortTel → PortTel) : (s.updTel q f).d2d = s.d2d := State.updPort_d2d s _ _
@[simp] theorem State.updTel_reserved (s : State) (q : Port) (f : PortTel → PortTel) : (s.updTel q f).reserved = s.reserved := State.updPort_reserved s _ _
@[simp] theorem State.updTel_tables (s : State) (q : Port) (f : PortTel → PortTel) : (s.updTel q f).tables = s.tables := State.updPort_tables s _ _
@[simp] theorem State.updTel_d2dRuns (s : State) (q : Port) (f : PortTel → PortTel) : (s.updTel q f).d2dRuns = s.d2dRuns := State.updPort_d2dRuns s _ _
@[simp] theorem State.updTel_xfers (s : State) (q : Port) (f : PortTel → PortTel) : (s.updTel q f).xfers = s.xfers := State.updPort_xfers s _ _
@[simp] theorem State.updTel_hotEngines (s : State) (q : Port) (f : PortTel → PortTel) : (s.updTel q f).hotEngines = s.hotEngines := State.updPort_hotEngines s _ _
@[simp] theorem State.updTel_boot (s : State) (q : Port) (f : PortTel → PortTel) : (s.updTel q f).boot = s.boot := State.updPort_boot s _ _
@[simp] theorem State.updTel_plan (s : State) (q : Port) (f : PortTel → PortTel) : (s.updTel q f).plan = s.plan := State.updPort_plan s _ _
@[simp] theorem State.updTel_bootPlan (s : State) (q : Port) (f : PortTel → PortTel) : (s.updTel q f).bootPlan = s.bootPlan := State.updPort_bootPlan s _ _
@[simp] theorem State.updTel_maxPlanSeq (s : State) (q : Port) (f : PortTel → PortTel) : (s.updTel q f).maxPlanSeq = s.maxPlanSeq := State.updPort_maxPlanSeq s _ _
@[simp] theorem State.updTel_fwDigest (s : State) (q : Port) (f : PortTel → PortTel) : (s.updTel q f).fwDigest = s.fwDigest := State.updPort_fwDigest s _ _
@[simp] theorem State.updTel_fwComps (s : State) (q : Port) (f : PortTel → PortTel) : (s.updTel q f).fwComps = s.fwComps := State.updPort_fwComps s _ _
@[simp] theorem State.updTel_flash (s : State) (q : Port) (f : PortTel → PortTel) : (s.updTel q f).flash = s.flash := State.updPort_flash s _ _
@[simp] theorem State.updTel_fwStaged (s : State) (q : Port) (f : PortTel → PortTel) : (s.updTel q f).fwStaged = s.fwStaged := State.updPort_fwStaged s _ _
@[simp] theorem State.updTel_codeHeld (s : State) (q : Port) (f : PortTel → PortTel) : (s.updTel q f).codeHeld = s.codeHeld := State.updPort_codeHeld s _ _
@[simp] theorem State.updTel_codeStaged (s : State) (q : Port) (f : PortTel → PortTel) : (s.updTel q f).codeStaged = s.codeStaged := State.updPort_codeStaged s _ _
@[simp] theorem State.updTel_rcv (s : State) (q : Port) (f : PortTel → PortTel) : (s.updTel q f).rcv = s.rcv := State.updPort_rcv s _ _
@[simp] theorem State.updTel_dist (s : State) (q : Port) (f : PortTel → PortTel) : (s.updTel q f).dist = s.dist := State.updPort_dist s _ _
@[simp] theorem State.updTel_mcReset (s : State) (q : Port) (f : PortTel → PortTel) : (s.updTel q f).mcReset = s.mcReset := State.updPort_mcReset s _ _
@[simp] theorem State.updTel_dbgCounters (s : State) (q : Port) (f : PortTel → PortTel) : (s.updTel q f).dbgCounters = s.dbgCounters := State.updPort_dbgCounters s _ _
@[simp] theorem State.updTel_unlocks (s : State) (q : Port) (f : PortTel → PortTel) : (s.updTel q f).unlocks = s.unlocks := State.updPort_unlocks s _ _
@[simp] theorem State.updTel_power (s : State) (q : Port) (f : PortTel → PortTel) : (s.updTel q f).power = s.power := State.updPort_power s _ _
@[simp] theorem State.updTel_pkgPower (s : State) (q : Port) (f : PortTel → PortTel) : (s.updTel q f).pkgPower = s.pkgPower := State.updPort_pkgPower s _ _
@[simp] theorem State.updTel_ridge (s : State) (q : Port) (f : PortTel → PortTel) : (s.updTel q f).ridge = s.ridge := State.updPort_ridge s _ _
@[simp] theorem State.updTel_smt (s : State) (q : Port) (f : PortTel → PortTel) : (s.updTel q f).smt = s.smt := State.updPort_smt s _ _
@[simp] theorem State.updTel_pairSess (s : State) (q : Port) (f : PortTel → PortTel) : (s.updTel q f).pairSess = s.pairSess := State.updPort_pairSess s _ _
@[simp] theorem State.updTel_heldTerm (s : State) (q : Port) (f : PortTel → PortTel) : (s.updTel q f).heldTerm = s.heldTerm := State.updPort_heldTerm s _ _
@[simp] theorem State.updTel_heldBy (s : State) (q : Port) (f : PortTel → PortTel) : (s.updTel q f).heldBy = s.heldBy := State.updPort_heldBy s _ _
@[simp] theorem State.updTel_rd (s : State) (q : Port) (f : PortTel → PortTel) (za : Nat) : (s.updTel q f).rd za = s.rd za := by simp [State.rd]
@[simp] theorem State.updTel_fld (s : State) (q : Port) (f : PortTel → PortTel) (zp : Page) (zf : Field) : (s.updTel q f).fld zp zf = s.fld zp zf := by simp [State.fld]
@[simp] theorem State.updTel_flag (s : State) (q : Port) (f : PortTel → PortTel) (zp : Page) (zf : Field) : (s.updTel q f).flag zp zf = s.flag zp zf := by simp [State.flag]
@[simp] theorem State.updTel_counter (s : State) (q : Port) (f : PortTel → PortTel) (zp : Page) (zoff : Nat) : (s.updTel q f).counter zp zoff = s.counter zp zoff := by unfold State.counter; rw [State.updTel_rd, State.updTel_rd]
@[simp] theorem State.updTel_counterOvf (s : State) (q : Port) (f : PortTel → PortTel) (zp : Page) (zoff : Nat) : (s.updTel q f).counterOvf zp zoff = s.counterOvf zp zoff := by simp [State.counterOvf]
@[simp] theorem State.updTel_inReset (s : State) (q : Port) (f : PortTel → PortTel) (zd : Die) : (s.updTel q f).inReset zd = s.inReset zd := by simp [State.inReset]
@[simp] theorem State.updTel_partState (s : State) (q : Port) (f : PortTel → PortTel) (zp : Part) : (s.updTel q f).partState zp = s.partState zp := by simp [State.partState]
@[simp] theorem State.updTel_partFenced (s : State) (q : Port) (f : PortTel → PortTel) (zp : Part) : (s.updTel q f).partFenced zp = s.partFenced zp := by simp [State.partFenced]
@[simp] theorem State.updTel_lnk (s : State) (q : Port) (f : PortTel → PortTel) (zq : Port) : (s.updTel q f).lnk zq = s.lnk zq := by simp [State.lnk]
@[simp] theorem State.updTel_memRange (s : State) (q : Port) (f : PortTel → PortTel) (zc : CDie) (zp : Part) (zi : Nat) : (s.updTel q f).memRange zc zp zi = s.memRange zc zp zi := by simp [State.memRange]
@[simp] theorem State.updTel_tarnAlloc (s : State) (q : Port) (f : PortTel → PortTel) (zc : CDie) (zp : Part) : (s.updTel q f).tarnAlloc zc zp = s.tarnAlloc zc zp := by simp [State.tarnAlloc]
@[simp] theorem State.updTel_cairnRange (s : State) (q : Port) (f : PortTel → PortTel) (zc : CDie) (zp : Part) : (s.updTel q f).cairnRange zc zp = s.cairnRange zc zp := by simp [State.cairnRange]
@[simp] theorem State.updTel_winOpen (s : State) (q : Port) (f : PortTel → PortTel) (zp : Part) : (s.updTel q f).winOpen zp = s.winOpen zp := by simp [State.winOpen]
@[simp] theorem State.updTel_vfOn (s : State) (q : Port) (f : PortTel → PortTel) (zp : Part) : (s.updTel q f).vfOn zp = s.vfOn zp := by simp [State.vfOn]
@[simp] theorem State.updTel_msfState (s : State) (q : Port) (f : PortTel → PortTel) (zc : CDie) : (s.updTel q f).msfState zc = s.msfState zc := by simp [State.msfState]
@[simp] theorem State.updTel_stepK (s : State) (q : Port) (f : PortTel → PortTel) (zc : CDie) : (s.updTel q f).stepK zc = s.stepK zc := by simp [State.stepK]
@[simp] theorem State.updTel_injection (s : State) (q : Port) (f : PortTel → PortTel) (zp : Page) (zchecker : Nat) : (s.updTel q f).injection zp zchecker = s.injection zp zchecker := by simp [State.injection]
@[simp] theorem State.updTel_disc (s : State) (q : Port) (f : PortTel → PortTel) : (s.updTel q f).disc = s.disc := by simp [State.disc]
@[simp] theorem State.updTel_pairSt (s : State) (q : Port) (f : PortTel → PortTel) : (s.updTel q f).pairSt = s.pairSt := by simp [State.pairSt]
@[simp] theorem State.updTel_now (s : State) (q : Port) (f : PortTel → PortTel) (zd : Die) : (s.updTel q f).now zd = s.now zd := by simp [State.now]
@[simp] theorem State.updTel_array (s : State) (q : Port) (f : PortTel → PortTel) (zc : CDie) : (s.updTel q f).array zc = s.array zc := by simp [State.array]
@[simp] theorem State.updTel_queue (s : State) (q : Port) (f : PortTel → PortTel) (zr : QRef) : (s.updTel q f).queue zr = s.queue zr := by simp [State.queue]
@[simp] theorem State.updTel_partQ (s : State) (q : Port) (f : PortTel → PortTel) (zp : Part) : (s.updTel q f).part? zp = s.part? zp := by simp [State.part?]
@[simp] theorem State.updTel_isConf (s : State) (q : Port) (f : PortTel → PortTel) (zp : Part) : (s.updTel q f).isConf zp = s.isConf zp := by simp [State.isConf]
@[simp] theorem State.updTel_chan (s : State) (q : Port) (f : PortTel → PortTel) (zk : Nat) : (s.updTel q f).chan zk = s.chan zk := by simp [State.chan]
@[simp] theorem State.updTel_agent (s : State) (q : Port) (f : PortTel → PortTel) (zk : PDie) : (s.updTel q f).agent zk = s.agent zk := by simp [State.agent]
@[simp] theorem State.updTel_core (s : State) (q : Port) (f : PortTel → PortTel) (zc : CDie) (zk : Core) : (s.updTel q f).core zc zk = s.core zc zk := by simp [State.core]
@[simp] theorem State.updTel_cairn (s : State) (q : Port) (f : PortTel → PortTel) (zc : CDie) (zn : Nat) : (s.updTel q f).cairn zc zn = s.cairn zc zn := by simp [State.cairn]
@[simp] theorem State.updTel_fn (s : State) (q : Port) (f : PortTel → PortTel) (zf : Fn) : (s.updTel q f).fn zf = s.fn zf := by simp [State.fn]
@[simp] theorem State.updTel_wkey (s : State) (q : Port) (f : PortTel → PortTel) (zp : Part) (zprev : Bool) : (s.updTel q f).wkey zp zprev = s.wkey zp zprev := by simp [State.wkey]
@[simp] theorem State.updTel_memByte (s : State) (q : Port) (f : PortTel → PortTel) (zc : CDie) (zoff : Nat) : (s.updTel q f).memByte zc zoff = s.memByte zc zoff := by simp [State.memByte]
@[simp] theorem State.updTel_memGet (s : State) (q : Port) (f : PortTel → PortTel) (zc : CDie) (zoff : Nat) (zn : Nat) : (s.updTel q f).memGet zc zoff zn = s.memGet zc zoff zn := by simp [State.memGet]
@[simp] theorem State.updTel_tarnByte (s : State) (q : Port) (f : PortTel → PortTel) (zc : CDie) (zoff : Nat) : (s.updTel q f).tarnByte zc zoff = s.tarnByte zc zoff := by simp [State.tarnByte]
@[simp] theorem State.updTel_tarnGet (s : State) (q : Port) (f : PortTel → PortTel) (zc : CDie) (zoff : Nat) (zn : Nat) : (s.updTel q f).tarnGet zc zoff zn = s.tarnGet zc zoff zn := by simp [State.tarnGet]
@[simp] theorem State.updTel_dieDown (s : State) (q : Port) (f : PortTel → PortTel) (zc : CDie) : (s.updTel q f).dieDown zc = s.dieDown zc := by simp [State.dieDown]
@[simp] theorem State.updTel_nparts (s : State) (q : Port) (f : PortTel → PortTel) : (s.updTel q f).nparts = s.nparts := by simp [State.nparts]
@[simp] theorem State.updTel_memWf (s : State) (q : Port) (f : PortTel → PortTel) : (s.updTel q f).memWf = s.memWf := by simp [State.memWf]
@[simp] theorem State.updTel_quiet (s : State) (q : Port) (f : PortTel → PortTel) : (s.updTel q f).quiet = s.quiet := by simp [State.quiet]
@[simp] theorem State.updTel_settled (s : State) (q : Port) (f : PortTel → PortTel) : (s.updTel q f).settled = s.settled := by simp [State.settled]

/-! `setCore` writes cores alone. -/

@[simp] theorem State.setCore_pending (s : State) (c : CDie) (k : Core) (x : CoreSt) : (s.setCore c k x).pending = s.pending := by cases s; rfl
@[simp] theorem State.setCore_out (s : State) (c : CDie) (k : Core) (x : CoreSt) : (s.setCore c k x).out = s.out := by cases s; rfl
@[simp] theorem State.setCore_freeCtr (s : State) (c : CDie) (k : Core) (x : CoreSt) : (s.setCore c k x).freeCtr = s.freeCtr := by cases s; rfl
@[simp] theorem State.setCore_mgmtOn (s : State) (c : CDie) (k : Core) (x : CoreSt) : (s.setCore c k x).mgmtOn = s.mgmtOn := by cases s; rfl
@[simp] theorem State.setCore_fuses (s : State) (c : CDie) (k : Core) (x : CoreSt) : (s.setCore c k x).fuses = s.fuses := by cases s; rfl
@[simp] theorem State.setCore_straps (s : State) (c : CDie) (k : Core) (x : CoreSt) : (s.setCore c k x).straps = s.straps := by cases s; rfl
@[simp] theorem State.setCore_pos (s : State) (c : CDie) (k : Core) (x : CoreSt) : (s.setCore c k x).pos = s.pos := by cases s; rfl
@[simp] theorem State.setCore_regs (s : State) (c : CDie) (k : Core) (x : CoreSt) : (s.setCore c k x).regs = s.regs := by cases s; rfl
@[simp] theorem State.setCore_latches (s : State) (c : CDie) (k : Core) (x : CoreSt) : (s.setCore c k x).latches = s.latches := by cases s; rfl
@[simp] theorem State.setCore_gtime (s : State) (c : CDie) (k : Core) (x : CoreSt) : (s.setCore c k x).gtime = s.gtime := by cases s; rfl
@[simp] theorem State.setCore_fclk (s : State) (c : CDie) (k : Core) (x : CoreSt) : (s.setCore c k x).fclk = s.fclk := by cases s; rfl
@[simp] theorem State.setCore_mem (s : State) (c : CDie) (k : Core) (x : CoreSt) : (s.setCore c k x).mem = s.mem := by cases s; rfl
@[simp] theorem State.setCore_tarn (s : State) (c : CDie) (k : Core) (x : CoreSt) : (s.setCore c k x).tarn = s.tarn := by cases s; rfl
@[simp] theorem State.setCore_rowErrs (s : State) (c : CDie) (k : Core) (x : CoreSt) : (s.setCore c k x).rowErrs = s.rowErrs := by cases s; rfl
@[simp] theorem State.setCore_remaps (s : State) (c : CDie) (k : Core) (x : CoreSt) : (s.setCore c k x).remaps = s.remaps := by cases s; rfl
@[simp] theorem State.setCore_savedRemaps (s : State) (c : CDie) (k : Core) (x : CoreSt) : (s.setCore c k x).savedRemaps = s.savedRemaps := by cases s; rfl
@[simp] theorem State.setCore_repairLog (s : State) (c : CDie) (k : Core) (x : CoreSt) : (s.setCore c k x).repairLog = s.repairLog := by cases s; rfl
@[simp] theorem State.setCore_badSectors (s : State) (c : CDie) (k : Core) (x : CoreSt) : (s.setCore c k x).badSectors = s.badSectors := by cases s; rfl
@[simp] theorem State.setCore_memFenced (s : State) (c : CDie) (k : Core) (x : CoreSt) : (s.setCore c k x).memFenced = s.memFenced := by cases s; rfl
@[simp] theorem State.setCore_mappedGran (s : State) (c : CDie) (k : Core) (x : CoreSt) : (s.setCore c k x).mappedGran = s.mappedGran := by cases s; rfl
@[simp] theorem State.setCore_zeroOrders (s : State) (c : CDie) (k : Core) (x : CoreSt) : (s.setCore c k x).zeroOrders = s.zeroOrders := by cases s; rfl
@[simp] theorem State.setCore_arrays (s : State) (c : CDie) (k : Core) (x : CoreSt) : (s.setCore c k x).arrays = s.arrays := by cases s; rfl
@[simp] theorem State.setCore_repairLines (s : State) (c : CDie) (k : Core) (x : CoreSt) : (s.setCore c k x).repairLines = s.repairLines := by cases s; rfl
@[simp] theorem State.setCore_queues (s : State) (c : CDie) (k : Core) (x : CoreSt) : (s.setCore c k x).queues = s.queues := by cases s; rfl
@[simp] theorem State.setCore_cairns (s : State) (c : CDie) (k : Core) (x : CoreSt) : (s.setCore c k x).cairns = s.cairns := by cases s; rfl
@[simp] theorem State.setCore_tracks (s : State) (c : CDie) (k : Core) (x : CoreSt) : (s.setCore c k x).tracks = s.tracks := by cases s; rfl
@[simp] theorem State.setCore_dispatches (s : State) (c : CDie) (k : Core) (x : CoreSt) : (s.setCore c k x).dispatches = s.dispatches := by cases s; rfl
@[simp] theorem State.setCore_dmaRuns (s : State) (c : CDie) (k : Core) (x : CoreSt) : (s.setCore c k x).dmaRuns = s.dmaRuns := by cases s; rfl
@[simp] theorem State.setCore_requests (s : State) (c : CDie) (k : Core) (x : CoreSt) : (s.setCore c k x).requests = s.requests := by cases s; rfl
@[simp] theorem State.setCore_windows (s : State) (c : CDie) (k : Core) (x : CoreSt) : (s.setCore c k x).windows = s.windows := by cases s; rfl
@[simp] theorem State.setCore_respUse (s : State) (c : CDie) (k : Core) (x : CoreSt) : (s.setCore c k x).respUse = s.respUse := by cases s; rfl
@[simp] theorem State.setCore_nextXid (s : State) (c : CDie) (k : Core) (x : CoreSt) : (s.setCore c k x).nextXid = s.nextXid := by cases s; rfl
@[simp] theorem State.setCore_nextId (s : State) (c : CDie) (k : Core) (x : CoreSt) : (s.setCore c k x).nextId = s.nextId := by cases s; rfl
@[simp] theorem State.setCore_parts (s : State) (c : CDie) (k : Core) (x : CoreSt) : (s.setCore c k x).parts = s.parts := by cases s; rfl
@[simp] theorem State.setCore_wkeys (s : State) (c : CDie) (k : Core) (x : CoreSt) : (s.setCore c k x).wkeys = s.wkeys := by cases s; rfl
@[simp] theorem State.setCore_staging (s : State) (c : CDie) (k : Core) (x : CoreSt) : (s.setCore c k x).staging = s.staging := by cases s; rfl
@[simp] theorem State.setCore_fltLog (s : State) (c : CDie) (k : Core) (x : CoreSt) : (s.setCore c k x).fltLog = s.fltLog := by cases s; rfl
@[simp] theorem State.setCore_recoveryTimes (s : State) (c : CDie) (k : Core) (x : CoreSt) : (s.setCore c k x).recoveryTimes = s.recoveryTimes := by cases s; rfl
@[simp] theorem State.setCore_quietPages (s : State) (c : CDie) (k : Core) (x : CoreSt) : (s.setCore c k x).quietPages = s.quietPages := by cases s; rfl
@[simp] theorem State.setCore_quietParts (s : State) (c : CDie) (k : Core) (x : CoreSt) : (s.setCore c k x).quietParts = s.quietParts := by cases s; rfl
@[simp] theorem State.setCore_fencedDies (s : State) (c : CDie) (k : Core) (x : CoreSt) : (s.setCore c k x).fencedDies = s.fencedDies := by cases s; rfl
@[simp] theorem State.setCore_lostRails (s : State) (c : CDie) (k : Core) (x : CoreSt) : (s.setCore c k x).lostRails = s.lostRails := by cases s; rfl
@[simp] theorem State.setCore_thermtrip (s : State) (c : CDie) (k : Core) (x : CoreSt) : (s.setCore c k x).thermtrip = s.thermtrip := by cases s; rfl
@[simp] theorem State.setCore_chans (s : State) (c : CDie) (k : Core) (x : CoreSt) : (s.setCore c k x).chans = s.chans := by cases s; rfl
@[simp] theorem State.setCore_fns (s : State) (c : CDie) (k : Core) (x : CoreSt) : (s.setCore c k x).fns = s.fns := by cases s; rfl
@[simp] theorem State.setCore_bar2 (s : State) (c : CDie) (k : Core) (x : CoreSt) : (s.setCore c k x).bar2 = s.bar2 := by cases s; rfl
@[simp] theorem State.setCore_held (s : State) (c : CDie) (k : Core) (x : CoreSt) : (s.setCore c k x).held = s.held := by cases s; rfl
@[simp] theorem State.setCore_relayOut (s : State) (c : CDie) (k : Core) (x : CoreSt) : (s.setCore c k x).relayOut = s.relayOut := by cases s; rfl
@[simp] theorem State.setCore_relayCtr (s : State) (c : CDie) (k : Core) (x : CoreSt) : (s.setCore c k x).relayCtr = s.relayCtr := by cases s; rfl
@[simp] theorem State.setCore_boardSess (s : State) (c : CDie) (k : Core) (x : CoreSt) : (s.setCore c k x).boardSess = s.boardSess := by cases s; rfl
@[simp] theorem State.setCore_i3c (s : State) (c : CDie) (k : Core) (x : CoreSt) : (s.setCore c k x).i3c = s.i3c := by cases s; rfl
@[simp] theorem State.setCore_eid (s : State) (c : CDie) (k : Core) (x : CoreSt) : (s.setCore c k x).eid = s.eid := by cases s; rfl
@[simp] theorem State.setCore_sensors (s : State) (c : CDie) (k : Core) (x : CoreSt) : (s.setCore c k x).sensors = s.sensors := by cases s; rfl
@[simp] theorem State.setCore_agents (s : State) (c : CDie) (k : Core) (x : CoreSt) : (s.setCore c k x).agents = s.agents := by cases s; rfl
@[simp] theorem State.setCore_ports (s : State) (c : CDie) (k : Core) (x : CoreSt) : (s.setCore c k x).ports = s.ports := by cases s; rfl
@[simp] theorem State.setCore_transits (s : State) (c : CDie) (k : Core) (x : CoreSt) : (s.setCore c k x).transits = s.transits := by cases s; rfl
@[simp] theorem State.setCore_d2d (s : State) (c : CDie) (k : Core) (x : CoreSt) : (s.setCore c k x).d2d = s.d2d := by cases s; rfl
@[simp] theorem State.setCore_reserved (s : State) (c : CDie) (k : Core) (x : CoreSt) : (s.setCore c k x).reserved = s.reserved := by cases s; rfl
@[simp] theorem State.setCore_tables (s : State) (c : CDie) (k : Core) (x : CoreSt) : (s.setCore c k x).tables = s.tables := by cases s; rfl
@[simp] theorem State.setCore_d2dRuns (s : State) (c : CDie) (k : Core) (x : CoreSt) : (s.setCore c k x).d2dRuns = s.d2dRuns := by cases s; rfl
@[simp] theorem State.setCore_xfers (s : State) (c : CDie) (k : Core) (x : CoreSt) : (s.setCore c k x).xfers = s.xfers := by cases s; rfl
@[simp] theorem State.setCore_hotEngines (s : State) (c : CDie) (k : Core) (x : CoreSt) : (s.setCore c k x).hotEngines = s.hotEngines := by cases s; rfl
@[simp] theorem State.setCore_boot (s : State) (c : CDie) (k : Core) (x : CoreSt) : (s.setCore c k x).boot = s.boot := by cases s; rfl
@[simp] theorem State.setCore_plan (s : State) (c : CDie) (k : Core) (x : CoreSt) : (s.setCore c k x).plan = s.plan := by cases s; rfl
@[simp] theorem State.setCore_bootPlan (s : State) (c : CDie) (k : Core) (x : CoreSt) : (s.setCore c k x).bootPlan = s.bootPlan := by cases s; rfl
@[simp] theorem State.setCore_maxPlanSeq (s : State) (c : CDie) (k : Core) (x : CoreSt) : (s.setCore c k x).maxPlanSeq = s.maxPlanSeq := by cases s; rfl
@[simp] theorem State.setCore_fwDigest (s : State) (c : CDie) (k : Core) (x : CoreSt) : (s.setCore c k x).fwDigest = s.fwDigest := by cases s; rfl
@[simp] theorem State.setCore_fwComps (s : State) (c : CDie) (k : Core) (x : CoreSt) : (s.setCore c k x).fwComps = s.fwComps := by cases s; rfl
@[simp] theorem State.setCore_flash (s : State) (c : CDie) (k : Core) (x : CoreSt) : (s.setCore c k x).flash = s.flash := by cases s; rfl
@[simp] theorem State.setCore_fwStaged (s : State) (c : CDie) (k : Core) (x : CoreSt) : (s.setCore c k x).fwStaged = s.fwStaged := by cases s; rfl
@[simp] theorem State.setCore_codeHeld (s : State) (c : CDie) (k : Core) (x : CoreSt) : (s.setCore c k x).codeHeld = s.codeHeld := by cases s; rfl
@[simp] theorem State.setCore_codeStaged (s : State) (c : CDie) (k : Core) (x : CoreSt) : (s.setCore c k x).codeStaged = s.codeStaged := by cases s; rfl
@[simp] theorem State.setCore_rcv (s : State) (c : CDie) (k : Core) (x : CoreSt) : (s.setCore c k x).rcv = s.rcv := by cases s; rfl
@[simp] theorem State.setCore_dist (s : State) (c : CDie) (k : Core) (x : CoreSt) : (s.setCore c k x).dist = s.dist := by cases s; rfl
@[simp] theorem State.setCore_mcReset (s : State) (c : CDie) (k : Core) (x : CoreSt) : (s.setCore c k x).mcReset = s.mcReset := by cases s; rfl
@[simp] theorem State.setCore_dbgCounters (s : State) (c : CDie) (k : Core) (x : CoreSt) : (s.setCore c k x).dbgCounters = s.dbgCounters := by cases s; rfl
@[simp] theorem State.setCore_unlocks (s : State) (c : CDie) (k : Core) (x : CoreSt) : (s.setCore c k x).unlocks = s.unlocks := by cases s; rfl
@[simp] theorem State.setCore_power (s : State) (c : CDie) (k : Core) (x : CoreSt) : (s.setCore c k x).power = s.power := by cases s; rfl
@[simp] theorem State.setCore_pkgPower (s : State) (c : CDie) (k : Core) (x : CoreSt) : (s.setCore c k x).pkgPower = s.pkgPower := by cases s; rfl
@[simp] theorem State.setCore_ridge (s : State) (c : CDie) (k : Core) (x : CoreSt) : (s.setCore c k x).ridge = s.ridge := by cases s; rfl
@[simp] theorem State.setCore_smt (s : State) (c : CDie) (k : Core) (x : CoreSt) : (s.setCore c k x).smt = s.smt := by cases s; rfl
@[simp] theorem State.setCore_pairSess (s : State) (c : CDie) (k : Core) (x : CoreSt) : (s.setCore c k x).pairSess = s.pairSess := by cases s; rfl
@[simp] theorem State.setCore_heldTerm (s : State) (c : CDie) (k : Core) (x : CoreSt) : (s.setCore c k x).heldTerm = s.heldTerm := by cases s; rfl
@[simp] theorem State.setCore_heldBy (s : State) (c : CDie) (k : Core) (x : CoreSt) : (s.setCore c k x).heldBy = s.heldBy := by cases s; rfl
@[simp] theorem State.setCore_rd (s : State) (c : CDie) (k : Core) (x : CoreSt) (za : Nat) : (s.setCore c k x).rd za = s.rd za := by simp [State.rd]
@[simp] theorem State.setCore_fld (s : State) (c : CDie) (k : Core) (x : CoreSt) (zp : Page) (zf : Field) : (s.setCore c k x).fld zp zf = s.fld zp zf := by simp [State.fld]
@[simp] theorem State.setCore_flag (s : State) (c : CDie) (k : Core) (x : CoreSt) (zp : Page) (zf : Field) : (s.setCore c k x).flag zp zf = s.flag zp zf := by simp [State.flag]
@[simp] theorem State.setCore_counter (s : State) (c : CDie) (k : Core) (x : CoreSt) (zp : Page) (zoff : Nat) : (s.setCore c k x).counter zp zoff = s.counter zp zoff := by unfold State.counter; rw [State.setCore_rd, State.setCore_rd]
@[simp] theorem State.setCore_counterOvf (s : State) (c : CDie) (k : Core) (x : CoreSt) (zp : Page) (zoff : Nat) : (s.setCore c k x).counterOvf zp zoff = s.counterOvf zp zoff := by simp [State.counterOvf]
@[simp] theorem State.setCore_inReset (s : State) (c : CDie) (k : Core) (x : CoreSt) (zd : Die) : (s.setCore c k x).inReset zd = s.inReset zd := by simp [State.inReset]
@[simp] theorem State.setCore_partState (s : State) (c : CDie) (k : Core) (x : CoreSt) (zp : Part) : (s.setCore c k x).partState zp = s.partState zp := by simp [State.partState]
@[simp] theorem State.setCore_partFenced (s : State) (c : CDie) (k : Core) (x : CoreSt) (zp : Part) : (s.setCore c k x).partFenced zp = s.partFenced zp := by simp [State.partFenced]
@[simp] theorem State.setCore_lnk (s : State) (c : CDie) (k : Core) (x : CoreSt) (zq : Port) : (s.setCore c k x).lnk zq = s.lnk zq := by simp [State.lnk]
@[simp] theorem State.setCore_memRange (s : State) (c : CDie) (k : Core) (x : CoreSt) (zc : CDie) (zp : Part) (zi : Nat) : (s.setCore c k x).memRange zc zp zi = s.memRange zc zp zi := by simp [State.memRange]
@[simp] theorem State.setCore_tarnAlloc (s : State) (c : CDie) (k : Core) (x : CoreSt) (zc : CDie) (zp : Part) : (s.setCore c k x).tarnAlloc zc zp = s.tarnAlloc zc zp := by simp [State.tarnAlloc]
@[simp] theorem State.setCore_cairnRange (s : State) (c : CDie) (k : Core) (x : CoreSt) (zc : CDie) (zp : Part) : (s.setCore c k x).cairnRange zc zp = s.cairnRange zc zp := by simp [State.cairnRange]
@[simp] theorem State.setCore_winOpen (s : State) (c : CDie) (k : Core) (x : CoreSt) (zp : Part) : (s.setCore c k x).winOpen zp = s.winOpen zp := by simp [State.winOpen]
@[simp] theorem State.setCore_vfOn (s : State) (c : CDie) (k : Core) (x : CoreSt) (zp : Part) : (s.setCore c k x).vfOn zp = s.vfOn zp := by simp [State.vfOn]
@[simp] theorem State.setCore_msfState (s : State) (c : CDie) (k : Core) (x : CoreSt) (zc : CDie) : (s.setCore c k x).msfState zc = s.msfState zc := by simp [State.msfState]
@[simp] theorem State.setCore_stepK (s : State) (c : CDie) (k : Core) (x : CoreSt) (zc : CDie) : (s.setCore c k x).stepK zc = s.stepK zc := by simp [State.stepK]
@[simp] theorem State.setCore_injection (s : State) (c : CDie) (k : Core) (x : CoreSt) (zp : Page) (zchecker : Nat) : (s.setCore c k x).injection zp zchecker = s.injection zp zchecker := by simp [State.injection]
@[simp] theorem State.setCore_disc (s : State) (c : CDie) (k : Core) (x : CoreSt) : (s.setCore c k x).disc = s.disc := by simp [State.disc]
@[simp] theorem State.setCore_pairSt (s : State) (c : CDie) (k : Core) (x : CoreSt) : (s.setCore c k x).pairSt = s.pairSt := by simp [State.pairSt]
@[simp] theorem State.setCore_now (s : State) (c : CDie) (k : Core) (x : CoreSt) (zd : Die) : (s.setCore c k x).now zd = s.now zd := by simp [State.now]
@[simp] theorem State.setCore_array (s : State) (c : CDie) (k : Core) (x : CoreSt) (zc : CDie) : (s.setCore c k x).array zc = s.array zc := by simp [State.array]
@[simp] theorem State.setCore_queue (s : State) (c : CDie) (k : Core) (x : CoreSt) (zr : QRef) : (s.setCore c k x).queue zr = s.queue zr := by simp [State.queue]
@[simp] theorem State.setCore_partQ (s : State) (c : CDie) (k : Core) (x : CoreSt) (zp : Part) : (s.setCore c k x).part? zp = s.part? zp := by simp [State.part?]
@[simp] theorem State.setCore_isConf (s : State) (c : CDie) (k : Core) (x : CoreSt) (zp : Part) : (s.setCore c k x).isConf zp = s.isConf zp := by simp [State.isConf]
@[simp] theorem State.setCore_chan (s : State) (c : CDie) (k : Core) (x : CoreSt) (zk : Nat) : (s.setCore c k x).chan zk = s.chan zk := by simp [State.chan]
@[simp] theorem State.setCore_agent (s : State) (c : CDie) (k : Core) (x : CoreSt) (zk : PDie) : (s.setCore c k x).agent zk = s.agent zk := by simp [State.agent]
@[simp] theorem State.setCore_port (s : State) (c : CDie) (k : Core) (x : CoreSt) (zq : Port) : (s.setCore c k x).port zq = s.port zq := by simp [State.port]
@[simp] theorem State.setCore_cairn (s : State) (c : CDie) (k : Core) (x : CoreSt) (zc : CDie) (zn : Nat) : (s.setCore c k x).cairn zc zn = s.cairn zc zn := by simp [State.cairn]
@[simp] theorem State.setCore_fn (s : State) (c : CDie) (k : Core) (x : CoreSt) (zf : Fn) : (s.setCore c k x).fn zf = s.fn zf := by simp [State.fn]
@[simp] theorem State.setCore_wkey (s : State) (c : CDie) (k : Core) (x : CoreSt) (zp : Part) (zprev : Bool) : (s.setCore c k x).wkey zp zprev = s.wkey zp zprev := by simp [State.wkey]
@[simp] theorem State.setCore_memByte (s : State) (c : CDie) (k : Core) (x : CoreSt) (zc : CDie) (zoff : Nat) : (s.setCore c k x).memByte zc zoff = s.memByte zc zoff := by simp [State.memByte]
@[simp] theorem State.setCore_memGet (s : State) (c : CDie) (k : Core) (x : CoreSt) (zc : CDie) (zoff : Nat) (zn : Nat) : (s.setCore c k x).memGet zc zoff zn = s.memGet zc zoff zn := by simp [State.memGet]
@[simp] theorem State.setCore_tarnByte (s : State) (c : CDie) (k : Core) (x : CoreSt) (zc : CDie) (zoff : Nat) : (s.setCore c k x).tarnByte zc zoff = s.tarnByte zc zoff := by simp [State.tarnByte]
@[simp] theorem State.setCore_tarnGet (s : State) (c : CDie) (k : Core) (x : CoreSt) (zc : CDie) (zoff : Nat) (zn : Nat) : (s.setCore c k x).tarnGet zc zoff zn = s.tarnGet zc zoff zn := by simp [State.tarnGet]
@[simp] theorem State.setCore_dieDown (s : State) (c : CDie) (k : Core) (x : CoreSt) (zc : CDie) : (s.setCore c k x).dieDown zc = s.dieDown zc := by simp [State.dieDown]
@[simp] theorem State.setCore_nparts (s : State) (c : CDie) (k : Core) (x : CoreSt) : (s.setCore c k x).nparts = s.nparts := by simp [State.nparts]
@[simp] theorem State.setCore_memWf (s : State) (c : CDie) (k : Core) (x : CoreSt) : (s.setCore c k x).memWf = s.memWf := by simp [State.memWf]
@[simp] theorem State.setCore_quiet (s : State) (c : CDie) (k : Core) (x : CoreSt) : (s.setCore c k x).quiet = s.quiet := by simp [State.quiet]
@[simp] theorem State.setCore_settled (s : State) (c : CDie) (k : Core) (x : CoreSt) : (s.setCore c k x).settled = s.settled := by simp [State.settled]

/-! `setCairn` writes cairns alone. -/

@[simp] theorem State.setCairn_pending (s : State) (c : CDie) (n : Nat) (x : Cairn) : (s.setCairn c n x).pending = s.pending := by cases s; rfl
@[simp] theorem State.setCairn_out (s : State) (c : CDie) (n : Nat) (x : Cairn) : (s.setCairn c n x).out = s.out := by cases s; rfl
@[simp] theorem State.setCairn_freeCtr (s : State) (c : CDie) (n : Nat) (x : Cairn) : (s.setCairn c n x).freeCtr = s.freeCtr := by cases s; rfl
@[simp] theorem State.setCairn_mgmtOn (s : State) (c : CDie) (n : Nat) (x : Cairn) : (s.setCairn c n x).mgmtOn = s.mgmtOn := by cases s; rfl
@[simp] theorem State.setCairn_fuses (s : State) (c : CDie) (n : Nat) (x : Cairn) : (s.setCairn c n x).fuses = s.fuses := by cases s; rfl
@[simp] theorem State.setCairn_straps (s : State) (c : CDie) (n : Nat) (x : Cairn) : (s.setCairn c n x).straps = s.straps := by cases s; rfl
@[simp] theorem State.setCairn_pos (s : State) (c : CDie) (n : Nat) (x : Cairn) : (s.setCairn c n x).pos = s.pos := by cases s; rfl
@[simp] theorem State.setCairn_regs (s : State) (c : CDie) (n : Nat) (x : Cairn) : (s.setCairn c n x).regs = s.regs := by cases s; rfl
@[simp] theorem State.setCairn_latches (s : State) (c : CDie) (n : Nat) (x : Cairn) : (s.setCairn c n x).latches = s.latches := by cases s; rfl
@[simp] theorem State.setCairn_gtime (s : State) (c : CDie) (n : Nat) (x : Cairn) : (s.setCairn c n x).gtime = s.gtime := by cases s; rfl
@[simp] theorem State.setCairn_fclk (s : State) (c : CDie) (n : Nat) (x : Cairn) : (s.setCairn c n x).fclk = s.fclk := by cases s; rfl
@[simp] theorem State.setCairn_mem (s : State) (c : CDie) (n : Nat) (x : Cairn) : (s.setCairn c n x).mem = s.mem := by cases s; rfl
@[simp] theorem State.setCairn_tarn (s : State) (c : CDie) (n : Nat) (x : Cairn) : (s.setCairn c n x).tarn = s.tarn := by cases s; rfl
@[simp] theorem State.setCairn_rowErrs (s : State) (c : CDie) (n : Nat) (x : Cairn) : (s.setCairn c n x).rowErrs = s.rowErrs := by cases s; rfl
@[simp] theorem State.setCairn_remaps (s : State) (c : CDie) (n : Nat) (x : Cairn) : (s.setCairn c n x).remaps = s.remaps := by cases s; rfl
@[simp] theorem State.setCairn_savedRemaps (s : State) (c : CDie) (n : Nat) (x : Cairn) : (s.setCairn c n x).savedRemaps = s.savedRemaps := by cases s; rfl
@[simp] theorem State.setCairn_repairLog (s : State) (c : CDie) (n : Nat) (x : Cairn) : (s.setCairn c n x).repairLog = s.repairLog := by cases s; rfl
@[simp] theorem State.setCairn_badSectors (s : State) (c : CDie) (n : Nat) (x : Cairn) : (s.setCairn c n x).badSectors = s.badSectors := by cases s; rfl
@[simp] theorem State.setCairn_memFenced (s : State) (c : CDie) (n : Nat) (x : Cairn) : (s.setCairn c n x).memFenced = s.memFenced := by cases s; rfl
@[simp] theorem State.setCairn_mappedGran (s : State) (c : CDie) (n : Nat) (x : Cairn) : (s.setCairn c n x).mappedGran = s.mappedGran := by cases s; rfl
@[simp] theorem State.setCairn_zeroOrders (s : State) (c : CDie) (n : Nat) (x : Cairn) : (s.setCairn c n x).zeroOrders = s.zeroOrders := by cases s; rfl
@[simp] theorem State.setCairn_arrays (s : State) (c : CDie) (n : Nat) (x : Cairn) : (s.setCairn c n x).arrays = s.arrays := by cases s; rfl
@[simp] theorem State.setCairn_repairLines (s : State) (c : CDie) (n : Nat) (x : Cairn) : (s.setCairn c n x).repairLines = s.repairLines := by cases s; rfl
@[simp] theorem State.setCairn_queues (s : State) (c : CDie) (n : Nat) (x : Cairn) : (s.setCairn c n x).queues = s.queues := by cases s; rfl
@[simp] theorem State.setCairn_tracks (s : State) (c : CDie) (n : Nat) (x : Cairn) : (s.setCairn c n x).tracks = s.tracks := by cases s; rfl
@[simp] theorem State.setCairn_cores (s : State) (c : CDie) (n : Nat) (x : Cairn) : (s.setCairn c n x).cores = s.cores := by cases s; rfl
@[simp] theorem State.setCairn_dispatches (s : State) (c : CDie) (n : Nat) (x : Cairn) : (s.setCairn c n x).dispatches = s.dispatches := by cases s; rfl
@[simp] theorem State.setCairn_dmaRuns (s : State) (c : CDie) (n : Nat) (x : Cairn) : (s.setCairn c n x).dmaRuns = s.dmaRuns := by cases s; rfl
@[simp] theorem State.setCairn_requests (s : State) (c : CDie) (n : Nat) (x : Cairn) : (s.setCairn c n x).requests = s.requests := by cases s; rfl
@[simp] theorem State.setCairn_windows (s : State) (c : CDie) (n : Nat) (x : Cairn) : (s.setCairn c n x).windows = s.windows := by cases s; rfl
@[simp] theorem State.setCairn_respUse (s : State) (c : CDie) (n : Nat) (x : Cairn) : (s.setCairn c n x).respUse = s.respUse := by cases s; rfl
@[simp] theorem State.setCairn_nextXid (s : State) (c : CDie) (n : Nat) (x : Cairn) : (s.setCairn c n x).nextXid = s.nextXid := by cases s; rfl
@[simp] theorem State.setCairn_nextId (s : State) (c : CDie) (n : Nat) (x : Cairn) : (s.setCairn c n x).nextId = s.nextId := by cases s; rfl
@[simp] theorem State.setCairn_parts (s : State) (c : CDie) (n : Nat) (x : Cairn) : (s.setCairn c n x).parts = s.parts := by cases s; rfl
@[simp] theorem State.setCairn_wkeys (s : State) (c : CDie) (n : Nat) (x : Cairn) : (s.setCairn c n x).wkeys = s.wkeys := by cases s; rfl
@[simp] theorem State.setCairn_staging (s : State) (c : CDie) (n : Nat) (x : Cairn) : (s.setCairn c n x).staging = s.staging := by cases s; rfl
@[simp] theorem State.setCairn_fltLog (s : State) (c : CDie) (n : Nat) (x : Cairn) : (s.setCairn c n x).fltLog = s.fltLog := by cases s; rfl
@[simp] theorem State.setCairn_recoveryTimes (s : State) (c : CDie) (n : Nat) (x : Cairn) : (s.setCairn c n x).recoveryTimes = s.recoveryTimes := by cases s; rfl
@[simp] theorem State.setCairn_quietPages (s : State) (c : CDie) (n : Nat) (x : Cairn) : (s.setCairn c n x).quietPages = s.quietPages := by cases s; rfl
@[simp] theorem State.setCairn_quietParts (s : State) (c : CDie) (n : Nat) (x : Cairn) : (s.setCairn c n x).quietParts = s.quietParts := by cases s; rfl
@[simp] theorem State.setCairn_fencedDies (s : State) (c : CDie) (n : Nat) (x : Cairn) : (s.setCairn c n x).fencedDies = s.fencedDies := by cases s; rfl
@[simp] theorem State.setCairn_lostRails (s : State) (c : CDie) (n : Nat) (x : Cairn) : (s.setCairn c n x).lostRails = s.lostRails := by cases s; rfl
@[simp] theorem State.setCairn_thermtrip (s : State) (c : CDie) (n : Nat) (x : Cairn) : (s.setCairn c n x).thermtrip = s.thermtrip := by cases s; rfl
@[simp] theorem State.setCairn_chans (s : State) (c : CDie) (n : Nat) (x : Cairn) : (s.setCairn c n x).chans = s.chans := by cases s; rfl
@[simp] theorem State.setCairn_fns (s : State) (c : CDie) (n : Nat) (x : Cairn) : (s.setCairn c n x).fns = s.fns := by cases s; rfl
@[simp] theorem State.setCairn_bar2 (s : State) (c : CDie) (n : Nat) (x : Cairn) : (s.setCairn c n x).bar2 = s.bar2 := by cases s; rfl
@[simp] theorem State.setCairn_held (s : State) (c : CDie) (n : Nat) (x : Cairn) : (s.setCairn c n x).held = s.held := by cases s; rfl
@[simp] theorem State.setCairn_relayOut (s : State) (c : CDie) (n : Nat) (x : Cairn) : (s.setCairn c n x).relayOut = s.relayOut := by cases s; rfl
@[simp] theorem State.setCairn_relayCtr (s : State) (c : CDie) (n : Nat) (x : Cairn) : (s.setCairn c n x).relayCtr = s.relayCtr := by cases s; rfl
@[simp] theorem State.setCairn_boardSess (s : State) (c : CDie) (n : Nat) (x : Cairn) : (s.setCairn c n x).boardSess = s.boardSess := by cases s; rfl
@[simp] theorem State.setCairn_i3c (s : State) (c : CDie) (n : Nat) (x : Cairn) : (s.setCairn c n x).i3c = s.i3c := by cases s; rfl
@[simp] theorem State.setCairn_eid (s : State) (c : CDie) (n : Nat) (x : Cairn) : (s.setCairn c n x).eid = s.eid := by cases s; rfl
@[simp] theorem State.setCairn_sensors (s : State) (c : CDie) (n : Nat) (x : Cairn) : (s.setCairn c n x).sensors = s.sensors := by cases s; rfl
@[simp] theorem State.setCairn_agents (s : State) (c : CDie) (n : Nat) (x : Cairn) : (s.setCairn c n x).agents = s.agents := by cases s; rfl
@[simp] theorem State.setCairn_ports (s : State) (c : CDie) (n : Nat) (x : Cairn) : (s.setCairn c n x).ports = s.ports := by cases s; rfl
@[simp] theorem State.setCairn_transits (s : State) (c : CDie) (n : Nat) (x : Cairn) : (s.setCairn c n x).transits = s.transits := by cases s; rfl
@[simp] theorem State.setCairn_d2d (s : State) (c : CDie) (n : Nat) (x : Cairn) : (s.setCairn c n x).d2d = s.d2d := by cases s; rfl
@[simp] theorem State.setCairn_reserved (s : State) (c : CDie) (n : Nat) (x : Cairn) : (s.setCairn c n x).reserved = s.reserved := by cases s; rfl
@[simp] theorem State.setCairn_tables (s : State) (c : CDie) (n : Nat) (x : Cairn) : (s.setCairn c n x).tables = s.tables := by cases s; rfl
@[simp] theorem State.setCairn_d2dRuns (s : State) (c : CDie) (n : Nat) (x : Cairn) : (s.setCairn c n x).d2dRuns = s.d2dRuns := by cases s; rfl
@[simp] theorem State.setCairn_xfers (s : State) (c : CDie) (n : Nat) (x : Cairn) : (s.setCairn c n x).xfers = s.xfers := by cases s; rfl
@[simp] theorem State.setCairn_hotEngines (s : State) (c : CDie) (n : Nat) (x : Cairn) : (s.setCairn c n x).hotEngines = s.hotEngines := by cases s; rfl
@[simp] theorem State.setCairn_boot (s : State) (c : CDie) (n : Nat) (x : Cairn) : (s.setCairn c n x).boot = s.boot := by cases s; rfl
@[simp] theorem State.setCairn_plan (s : State) (c : CDie) (n : Nat) (x : Cairn) : (s.setCairn c n x).plan = s.plan := by cases s; rfl
@[simp] theorem State.setCairn_bootPlan (s : State) (c : CDie) (n : Nat) (x : Cairn) : (s.setCairn c n x).bootPlan = s.bootPlan := by cases s; rfl
@[simp] theorem State.setCairn_maxPlanSeq (s : State) (c : CDie) (n : Nat) (x : Cairn) : (s.setCairn c n x).maxPlanSeq = s.maxPlanSeq := by cases s; rfl
@[simp] theorem State.setCairn_fwDigest (s : State) (c : CDie) (n : Nat) (x : Cairn) : (s.setCairn c n x).fwDigest = s.fwDigest := by cases s; rfl
@[simp] theorem State.setCairn_fwComps (s : State) (c : CDie) (n : Nat) (x : Cairn) : (s.setCairn c n x).fwComps = s.fwComps := by cases s; rfl
@[simp] theorem State.setCairn_flash (s : State) (c : CDie) (n : Nat) (x : Cairn) : (s.setCairn c n x).flash = s.flash := by cases s; rfl
@[simp] theorem State.setCairn_fwStaged (s : State) (c : CDie) (n : Nat) (x : Cairn) : (s.setCairn c n x).fwStaged = s.fwStaged := by cases s; rfl
@[simp] theorem State.setCairn_codeHeld (s : State) (c : CDie) (n : Nat) (x : Cairn) : (s.setCairn c n x).codeHeld = s.codeHeld := by cases s; rfl
@[simp] theorem State.setCairn_codeStaged (s : State) (c : CDie) (n : Nat) (x : Cairn) : (s.setCairn c n x).codeStaged = s.codeStaged := by cases s; rfl
@[simp] theorem State.setCairn_rcv (s : State) (c : CDie) (n : Nat) (x : Cairn) : (s.setCairn c n x).rcv = s.rcv := by cases s; rfl
@[simp] theorem State.setCairn_dist (s : State) (c : CDie) (n : Nat) (x : Cairn) : (s.setCairn c n x).dist = s.dist := by cases s; rfl
@[simp] theorem State.setCairn_mcReset (s : State) (c : CDie) (n : Nat) (x : Cairn) : (s.setCairn c n x).mcReset = s.mcReset := by cases s; rfl
@[simp] theorem State.setCairn_dbgCounters (s : State) (c : CDie) (n : Nat) (x : Cairn) : (s.setCairn c n x).dbgCounters = s.dbgCounters := by cases s; rfl
@[simp] theorem State.setCairn_unlocks (s : State) (c : CDie) (n : Nat) (x : Cairn) : (s.setCairn c n x).unlocks = s.unlocks := by cases s; rfl
@[simp] theorem State.setCairn_power (s : State) (c : CDie) (n : Nat) (x : Cairn) : (s.setCairn c n x).power = s.power := by cases s; rfl
@[simp] theorem State.setCairn_pkgPower (s : State) (c : CDie) (n : Nat) (x : Cairn) : (s.setCairn c n x).pkgPower = s.pkgPower := by cases s; rfl
@[simp] theorem State.setCairn_ridge (s : State) (c : CDie) (n : Nat) (x : Cairn) : (s.setCairn c n x).ridge = s.ridge := by cases s; rfl
@[simp] theorem State.setCairn_smt (s : State) (c : CDie) (n : Nat) (x : Cairn) : (s.setCairn c n x).smt = s.smt := by cases s; rfl
@[simp] theorem State.setCairn_pairSess (s : State) (c : CDie) (n : Nat) (x : Cairn) : (s.setCairn c n x).pairSess = s.pairSess := by cases s; rfl
@[simp] theorem State.setCairn_heldTerm (s : State) (c : CDie) (n : Nat) (x : Cairn) : (s.setCairn c n x).heldTerm = s.heldTerm := by cases s; rfl
@[simp] theorem State.setCairn_heldBy (s : State) (c : CDie) (n : Nat) (x : Cairn) : (s.setCairn c n x).heldBy = s.heldBy := by cases s; rfl
@[simp] theorem State.setCairn_rd (s : State) (c : CDie) (n : Nat) (x : Cairn) (za : Nat) : (s.setCairn c n x).rd za = s.rd za := by simp [State.rd]
@[simp] theorem State.setCairn_fld (s : State) (c : CDie) (n : Nat) (x : Cairn) (zp : Page) (zf : Field) : (s.setCairn c n x).fld zp zf = s.fld zp zf := by simp [State.fld]
@[simp] theorem State.setCairn_flag (s : State) (c : CDie) (n : Nat) (x : Cairn) (zp : Page) (zf : Field) : (s.setCairn c n x).flag zp zf = s.flag zp zf := by simp [State.flag]
@[simp] theorem State.setCairn_counter (s : State) (c : CDie) (n : Nat) (x : Cairn) (zp : Page) (zoff : Nat) : (s.setCairn c n x).counter zp zoff = s.counter zp zoff := by unfold State.counter; rw [State.setCairn_rd, State.setCairn_rd]
@[simp] theorem State.setCairn_counterOvf (s : State) (c : CDie) (n : Nat) (x : Cairn) (zp : Page) (zoff : Nat) : (s.setCairn c n x).counterOvf zp zoff = s.counterOvf zp zoff := by simp [State.counterOvf]
@[simp] theorem State.setCairn_inReset (s : State) (c : CDie) (n : Nat) (x : Cairn) (zd : Die) : (s.setCairn c n x).inReset zd = s.inReset zd := by simp [State.inReset]
@[simp] theorem State.setCairn_partState (s : State) (c : CDie) (n : Nat) (x : Cairn) (zp : Part) : (s.setCairn c n x).partState zp = s.partState zp := by simp [State.partState]
@[simp] theorem State.setCairn_partFenced (s : State) (c : CDie) (n : Nat) (x : Cairn) (zp : Part) : (s.setCairn c n x).partFenced zp = s.partFenced zp := by simp [State.partFenced]
@[simp] theorem State.setCairn_lnk (s : State) (c : CDie) (n : Nat) (x : Cairn) (zq : Port) : (s.setCairn c n x).lnk zq = s.lnk zq := by simp [State.lnk]
@[simp] theorem State.setCairn_memRange (s : State) (c : CDie) (n : Nat) (x : Cairn) (zc : CDie) (zp : Part) (zi : Nat) : (s.setCairn c n x).memRange zc zp zi = s.memRange zc zp zi := by simp [State.memRange]
@[simp] theorem State.setCairn_tarnAlloc (s : State) (c : CDie) (n : Nat) (x : Cairn) (zc : CDie) (zp : Part) : (s.setCairn c n x).tarnAlloc zc zp = s.tarnAlloc zc zp := by simp [State.tarnAlloc]
@[simp] theorem State.setCairn_cairnRange (s : State) (c : CDie) (n : Nat) (x : Cairn) (zc : CDie) (zp : Part) : (s.setCairn c n x).cairnRange zc zp = s.cairnRange zc zp := by simp [State.cairnRange]
@[simp] theorem State.setCairn_winOpen (s : State) (c : CDie) (n : Nat) (x : Cairn) (zp : Part) : (s.setCairn c n x).winOpen zp = s.winOpen zp := by simp [State.winOpen]
@[simp] theorem State.setCairn_vfOn (s : State) (c : CDie) (n : Nat) (x : Cairn) (zp : Part) : (s.setCairn c n x).vfOn zp = s.vfOn zp := by simp [State.vfOn]
@[simp] theorem State.setCairn_msfState (s : State) (c : CDie) (n : Nat) (x : Cairn) (zc : CDie) : (s.setCairn c n x).msfState zc = s.msfState zc := by simp [State.msfState]
@[simp] theorem State.setCairn_stepK (s : State) (c : CDie) (n : Nat) (x : Cairn) (zc : CDie) : (s.setCairn c n x).stepK zc = s.stepK zc := by simp [State.stepK]
@[simp] theorem State.setCairn_injection (s : State) (c : CDie) (n : Nat) (x : Cairn) (zp : Page) (zchecker : Nat) : (s.setCairn c n x).injection zp zchecker = s.injection zp zchecker := by simp [State.injection]
@[simp] theorem State.setCairn_disc (s : State) (c : CDie) (n : Nat) (x : Cairn) : (s.setCairn c n x).disc = s.disc := by simp [State.disc]
@[simp] theorem State.setCairn_pairSt (s : State) (c : CDie) (n : Nat) (x : Cairn) : (s.setCairn c n x).pairSt = s.pairSt := by simp [State.pairSt]
@[simp] theorem State.setCairn_now (s : State) (c : CDie) (n : Nat) (x : Cairn) (zd : Die) : (s.setCairn c n x).now zd = s.now zd := by simp [State.now]
@[simp] theorem State.setCairn_array (s : State) (c : CDie) (n : Nat) (x : Cairn) (zc : CDie) : (s.setCairn c n x).array zc = s.array zc := by simp [State.array]
@[simp] theorem State.setCairn_queue (s : State) (c : CDie) (n : Nat) (x : Cairn) (zr : QRef) : (s.setCairn c n x).queue zr = s.queue zr := by simp [State.queue]
@[simp] theorem State.setCairn_partQ (s : State) (c : CDie) (n : Nat) (x : Cairn) (zp : Part) : (s.setCairn c n x).part? zp = s.part? zp := by simp [State.part?]
@[simp] theorem State.setCairn_isConf (s : State) (c : CDie) (n : Nat) (x : Cairn) (zp : Part) : (s.setCairn c n x).isConf zp = s.isConf zp := by simp [State.isConf]
@[simp] theorem State.setCairn_chan (s : State) (c : CDie) (n : Nat) (x : Cairn) (zk : Nat) : (s.setCairn c n x).chan zk = s.chan zk := by simp [State.chan]
@[simp] theorem State.setCairn_agent (s : State) (c : CDie) (n : Nat) (x : Cairn) (zk : PDie) : (s.setCairn c n x).agent zk = s.agent zk := by simp [State.agent]
@[simp] theorem State.setCairn_port (s : State) (c : CDie) (n : Nat) (x : Cairn) (zq : Port) : (s.setCairn c n x).port zq = s.port zq := by simp [State.port]
@[simp] theorem State.setCairn_core (s : State) (c : CDie) (n : Nat) (x : Cairn) (zc : CDie) (zk : Core) : (s.setCairn c n x).core zc zk = s.core zc zk := by simp [State.core]
@[simp] theorem State.setCairn_fn (s : State) (c : CDie) (n : Nat) (x : Cairn) (zf : Fn) : (s.setCairn c n x).fn zf = s.fn zf := by simp [State.fn]
@[simp] theorem State.setCairn_wkey (s : State) (c : CDie) (n : Nat) (x : Cairn) (zp : Part) (zprev : Bool) : (s.setCairn c n x).wkey zp zprev = s.wkey zp zprev := by simp [State.wkey]
@[simp] theorem State.setCairn_memByte (s : State) (c : CDie) (n : Nat) (x : Cairn) (zc : CDie) (zoff : Nat) : (s.setCairn c n x).memByte zc zoff = s.memByte zc zoff := by simp [State.memByte]
@[simp] theorem State.setCairn_memGet (s : State) (c : CDie) (n : Nat) (x : Cairn) (zc : CDie) (zoff : Nat) (zn : Nat) : (s.setCairn c n x).memGet zc zoff zn = s.memGet zc zoff zn := by simp [State.memGet]
@[simp] theorem State.setCairn_tarnByte (s : State) (c : CDie) (n : Nat) (x : Cairn) (zc : CDie) (zoff : Nat) : (s.setCairn c n x).tarnByte zc zoff = s.tarnByte zc zoff := by simp [State.tarnByte]
@[simp] theorem State.setCairn_tarnGet (s : State) (c : CDie) (n : Nat) (x : Cairn) (zc : CDie) (zoff : Nat) (zn : Nat) : (s.setCairn c n x).tarnGet zc zoff zn = s.tarnGet zc zoff zn := by simp [State.tarnGet]
@[simp] theorem State.setCairn_dieDown (s : State) (c : CDie) (n : Nat) (x : Cairn) (zc : CDie) : (s.setCairn c n x).dieDown zc = s.dieDown zc := by simp [State.dieDown]
@[simp] theorem State.setCairn_nparts (s : State) (c : CDie) (n : Nat) (x : Cairn) : (s.setCairn c n x).nparts = s.nparts := by simp [State.nparts]
@[simp] theorem State.setCairn_memWf (s : State) (c : CDie) (n : Nat) (x : Cairn) : (s.setCairn c n x).memWf = s.memWf := by simp [State.memWf]
@[simp] theorem State.setCairn_quiet (s : State) (c : CDie) (n : Nat) (x : Cairn) : (s.setCairn c n x).quiet = s.quiet := by simp [State.quiet]
@[simp] theorem State.setCairn_settled (s : State) (c : CDie) (n : Nat) (x : Cairn) : (s.setCairn c n x).settled = s.settled := by simp [State.settled]

/-! `setFn` writes fns alone. -/

@[simp] theorem State.setFn_pending (s : State) (f : Fn) (c : FnCfg) : (s.setFn f c).pending = s.pending := by cases s; rfl
@[simp] theorem State.setFn_out (s : State) (f : Fn) (c : FnCfg) : (s.setFn f c).out = s.out := by cases s; rfl
@[simp] theorem State.setFn_freeCtr (s : State) (f : Fn) (c : FnCfg) : (s.setFn f c).freeCtr = s.freeCtr := by cases s; rfl
@[simp] theorem State.setFn_mgmtOn (s : State) (f : Fn) (c : FnCfg) : (s.setFn f c).mgmtOn = s.mgmtOn := by cases s; rfl
@[simp] theorem State.setFn_fuses (s : State) (f : Fn) (c : FnCfg) : (s.setFn f c).fuses = s.fuses := by cases s; rfl
@[simp] theorem State.setFn_straps (s : State) (f : Fn) (c : FnCfg) : (s.setFn f c).straps = s.straps := by cases s; rfl
@[simp] theorem State.setFn_pos (s : State) (f : Fn) (c : FnCfg) : (s.setFn f c).pos = s.pos := by cases s; rfl
@[simp] theorem State.setFn_regs (s : State) (f : Fn) (c : FnCfg) : (s.setFn f c).regs = s.regs := by cases s; rfl
@[simp] theorem State.setFn_latches (s : State) (f : Fn) (c : FnCfg) : (s.setFn f c).latches = s.latches := by cases s; rfl
@[simp] theorem State.setFn_gtime (s : State) (f : Fn) (c : FnCfg) : (s.setFn f c).gtime = s.gtime := by cases s; rfl
@[simp] theorem State.setFn_fclk (s : State) (f : Fn) (c : FnCfg) : (s.setFn f c).fclk = s.fclk := by cases s; rfl
@[simp] theorem State.setFn_mem (s : State) (f : Fn) (c : FnCfg) : (s.setFn f c).mem = s.mem := by cases s; rfl
@[simp] theorem State.setFn_tarn (s : State) (f : Fn) (c : FnCfg) : (s.setFn f c).tarn = s.tarn := by cases s; rfl
@[simp] theorem State.setFn_rowErrs (s : State) (f : Fn) (c : FnCfg) : (s.setFn f c).rowErrs = s.rowErrs := by cases s; rfl
@[simp] theorem State.setFn_remaps (s : State) (f : Fn) (c : FnCfg) : (s.setFn f c).remaps = s.remaps := by cases s; rfl
@[simp] theorem State.setFn_savedRemaps (s : State) (f : Fn) (c : FnCfg) : (s.setFn f c).savedRemaps = s.savedRemaps := by cases s; rfl
@[simp] theorem State.setFn_repairLog (s : State) (f : Fn) (c : FnCfg) : (s.setFn f c).repairLog = s.repairLog := by cases s; rfl
@[simp] theorem State.setFn_badSectors (s : State) (f : Fn) (c : FnCfg) : (s.setFn f c).badSectors = s.badSectors := by cases s; rfl
@[simp] theorem State.setFn_memFenced (s : State) (f : Fn) (c : FnCfg) : (s.setFn f c).memFenced = s.memFenced := by cases s; rfl
@[simp] theorem State.setFn_mappedGran (s : State) (f : Fn) (c : FnCfg) : (s.setFn f c).mappedGran = s.mappedGran := by cases s; rfl
@[simp] theorem State.setFn_zeroOrders (s : State) (f : Fn) (c : FnCfg) : (s.setFn f c).zeroOrders = s.zeroOrders := by cases s; rfl
@[simp] theorem State.setFn_arrays (s : State) (f : Fn) (c : FnCfg) : (s.setFn f c).arrays = s.arrays := by cases s; rfl
@[simp] theorem State.setFn_repairLines (s : State) (f : Fn) (c : FnCfg) : (s.setFn f c).repairLines = s.repairLines := by cases s; rfl
@[simp] theorem State.setFn_queues (s : State) (f : Fn) (c : FnCfg) : (s.setFn f c).queues = s.queues := by cases s; rfl
@[simp] theorem State.setFn_cairns (s : State) (f : Fn) (c : FnCfg) : (s.setFn f c).cairns = s.cairns := by cases s; rfl
@[simp] theorem State.setFn_tracks (s : State) (f : Fn) (c : FnCfg) : (s.setFn f c).tracks = s.tracks := by cases s; rfl
@[simp] theorem State.setFn_cores (s : State) (f : Fn) (c : FnCfg) : (s.setFn f c).cores = s.cores := by cases s; rfl
@[simp] theorem State.setFn_dispatches (s : State) (f : Fn) (c : FnCfg) : (s.setFn f c).dispatches = s.dispatches := by cases s; rfl
@[simp] theorem State.setFn_dmaRuns (s : State) (f : Fn) (c : FnCfg) : (s.setFn f c).dmaRuns = s.dmaRuns := by cases s; rfl
@[simp] theorem State.setFn_requests (s : State) (f : Fn) (c : FnCfg) : (s.setFn f c).requests = s.requests := by cases s; rfl
@[simp] theorem State.setFn_windows (s : State) (f : Fn) (c : FnCfg) : (s.setFn f c).windows = s.windows := by cases s; rfl
@[simp] theorem State.setFn_respUse (s : State) (f : Fn) (c : FnCfg) : (s.setFn f c).respUse = s.respUse := by cases s; rfl
@[simp] theorem State.setFn_nextXid (s : State) (f : Fn) (c : FnCfg) : (s.setFn f c).nextXid = s.nextXid := by cases s; rfl
@[simp] theorem State.setFn_nextId (s : State) (f : Fn) (c : FnCfg) : (s.setFn f c).nextId = s.nextId := by cases s; rfl
@[simp] theorem State.setFn_parts (s : State) (f : Fn) (c : FnCfg) : (s.setFn f c).parts = s.parts := by cases s; rfl
@[simp] theorem State.setFn_wkeys (s : State) (f : Fn) (c : FnCfg) : (s.setFn f c).wkeys = s.wkeys := by cases s; rfl
@[simp] theorem State.setFn_staging (s : State) (f : Fn) (c : FnCfg) : (s.setFn f c).staging = s.staging := by cases s; rfl
@[simp] theorem State.setFn_fltLog (s : State) (f : Fn) (c : FnCfg) : (s.setFn f c).fltLog = s.fltLog := by cases s; rfl
@[simp] theorem State.setFn_recoveryTimes (s : State) (f : Fn) (c : FnCfg) : (s.setFn f c).recoveryTimes = s.recoveryTimes := by cases s; rfl
@[simp] theorem State.setFn_quietPages (s : State) (f : Fn) (c : FnCfg) : (s.setFn f c).quietPages = s.quietPages := by cases s; rfl
@[simp] theorem State.setFn_quietParts (s : State) (f : Fn) (c : FnCfg) : (s.setFn f c).quietParts = s.quietParts := by cases s; rfl
@[simp] theorem State.setFn_fencedDies (s : State) (f : Fn) (c : FnCfg) : (s.setFn f c).fencedDies = s.fencedDies := by cases s; rfl
@[simp] theorem State.setFn_lostRails (s : State) (f : Fn) (c : FnCfg) : (s.setFn f c).lostRails = s.lostRails := by cases s; rfl
@[simp] theorem State.setFn_thermtrip (s : State) (f : Fn) (c : FnCfg) : (s.setFn f c).thermtrip = s.thermtrip := by cases s; rfl
@[simp] theorem State.setFn_chans (s : State) (f : Fn) (c : FnCfg) : (s.setFn f c).chans = s.chans := by cases s; rfl
@[simp] theorem State.setFn_bar2 (s : State) (f : Fn) (c : FnCfg) : (s.setFn f c).bar2 = s.bar2 := by cases s; rfl
@[simp] theorem State.setFn_held (s : State) (f : Fn) (c : FnCfg) : (s.setFn f c).held = s.held := by cases s; rfl
@[simp] theorem State.setFn_relayOut (s : State) (f : Fn) (c : FnCfg) : (s.setFn f c).relayOut = s.relayOut := by cases s; rfl
@[simp] theorem State.setFn_relayCtr (s : State) (f : Fn) (c : FnCfg) : (s.setFn f c).relayCtr = s.relayCtr := by cases s; rfl
@[simp] theorem State.setFn_boardSess (s : State) (f : Fn) (c : FnCfg) : (s.setFn f c).boardSess = s.boardSess := by cases s; rfl
@[simp] theorem State.setFn_i3c (s : State) (f : Fn) (c : FnCfg) : (s.setFn f c).i3c = s.i3c := by cases s; rfl
@[simp] theorem State.setFn_eid (s : State) (f : Fn) (c : FnCfg) : (s.setFn f c).eid = s.eid := by cases s; rfl
@[simp] theorem State.setFn_sensors (s : State) (f : Fn) (c : FnCfg) : (s.setFn f c).sensors = s.sensors := by cases s; rfl
@[simp] theorem State.setFn_agents (s : State) (f : Fn) (c : FnCfg) : (s.setFn f c).agents = s.agents := by cases s; rfl
@[simp] theorem State.setFn_ports (s : State) (f : Fn) (c : FnCfg) : (s.setFn f c).ports = s.ports := by cases s; rfl
@[simp] theorem State.setFn_transits (s : State) (f : Fn) (c : FnCfg) : (s.setFn f c).transits = s.transits := by cases s; rfl
@[simp] theorem State.setFn_d2d (s : State) (f : Fn) (c : FnCfg) : (s.setFn f c).d2d = s.d2d := by cases s; rfl
@[simp] theorem State.setFn_reserved (s : State) (f : Fn) (c : FnCfg) : (s.setFn f c).reserved = s.reserved := by cases s; rfl
@[simp] theorem State.setFn_tables (s : State) (f : Fn) (c : FnCfg) : (s.setFn f c).tables = s.tables := by cases s; rfl
@[simp] theorem State.setFn_d2dRuns (s : State) (f : Fn) (c : FnCfg) : (s.setFn f c).d2dRuns = s.d2dRuns := by cases s; rfl
@[simp] theorem State.setFn_xfers (s : State) (f : Fn) (c : FnCfg) : (s.setFn f c).xfers = s.xfers := by cases s; rfl
@[simp] theorem State.setFn_hotEngines (s : State) (f : Fn) (c : FnCfg) : (s.setFn f c).hotEngines = s.hotEngines := by cases s; rfl
@[simp] theorem State.setFn_boot (s : State) (f : Fn) (c : FnCfg) : (s.setFn f c).boot = s.boot := by cases s; rfl
@[simp] theorem State.setFn_plan (s : State) (f : Fn) (c : FnCfg) : (s.setFn f c).plan = s.plan := by cases s; rfl
@[simp] theorem State.setFn_bootPlan (s : State) (f : Fn) (c : FnCfg) : (s.setFn f c).bootPlan = s.bootPlan := by cases s; rfl
@[simp] theorem State.setFn_maxPlanSeq (s : State) (f : Fn) (c : FnCfg) : (s.setFn f c).maxPlanSeq = s.maxPlanSeq := by cases s; rfl
@[simp] theorem State.setFn_fwDigest (s : State) (f : Fn) (c : FnCfg) : (s.setFn f c).fwDigest = s.fwDigest := by cases s; rfl
@[simp] theorem State.setFn_fwComps (s : State) (f : Fn) (c : FnCfg) : (s.setFn f c).fwComps = s.fwComps := by cases s; rfl
@[simp] theorem State.setFn_flash (s : State) (f : Fn) (c : FnCfg) : (s.setFn f c).flash = s.flash := by cases s; rfl
@[simp] theorem State.setFn_fwStaged (s : State) (f : Fn) (c : FnCfg) : (s.setFn f c).fwStaged = s.fwStaged := by cases s; rfl
@[simp] theorem State.setFn_codeHeld (s : State) (f : Fn) (c : FnCfg) : (s.setFn f c).codeHeld = s.codeHeld := by cases s; rfl
@[simp] theorem State.setFn_codeStaged (s : State) (f : Fn) (c : FnCfg) : (s.setFn f c).codeStaged = s.codeStaged := by cases s; rfl
@[simp] theorem State.setFn_rcv (s : State) (f : Fn) (c : FnCfg) : (s.setFn f c).rcv = s.rcv := by cases s; rfl
@[simp] theorem State.setFn_dist (s : State) (f : Fn) (c : FnCfg) : (s.setFn f c).dist = s.dist := by cases s; rfl
@[simp] theorem State.setFn_mcReset (s : State) (f : Fn) (c : FnCfg) : (s.setFn f c).mcReset = s.mcReset := by cases s; rfl
@[simp] theorem State.setFn_dbgCounters (s : State) (f : Fn) (c : FnCfg) : (s.setFn f c).dbgCounters = s.dbgCounters := by cases s; rfl
@[simp] theorem State.setFn_unlocks (s : State) (f : Fn) (c : FnCfg) : (s.setFn f c).unlocks = s.unlocks := by cases s; rfl
@[simp] theorem State.setFn_power (s : State) (f : Fn) (c : FnCfg) : (s.setFn f c).power = s.power := by cases s; rfl
@[simp] theorem State.setFn_pkgPower (s : State) (f : Fn) (c : FnCfg) : (s.setFn f c).pkgPower = s.pkgPower := by cases s; rfl
@[simp] theorem State.setFn_ridge (s : State) (f : Fn) (c : FnCfg) : (s.setFn f c).ridge = s.ridge := by cases s; rfl
@[simp] theorem State.setFn_smt (s : State) (f : Fn) (c : FnCfg) : (s.setFn f c).smt = s.smt := by cases s; rfl
@[simp] theorem State.setFn_pairSess (s : State) (f : Fn) (c : FnCfg) : (s.setFn f c).pairSess = s.pairSess := by cases s; rfl
@[simp] theorem State.setFn_heldTerm (s : State) (f : Fn) (c : FnCfg) : (s.setFn f c).heldTerm = s.heldTerm := by cases s; rfl
@[simp] theorem State.setFn_heldBy (s : State) (f : Fn) (c : FnCfg) : (s.setFn f c).heldBy = s.heldBy := by cases s; rfl
@[simp] theorem State.setFn_rd (s : State) (f : Fn) (c : FnCfg) (za : Nat) : (s.setFn f c).rd za = s.rd za := by simp [State.rd]
@[simp] theorem State.setFn_fld (s : State) (f : Fn) (c : FnCfg) (zp : Page) (zf : Field) : (s.setFn f c).fld zp zf = s.fld zp zf := by simp [State.fld]
@[simp] theorem State.setFn_flag (s : State) (f : Fn) (c : FnCfg) (zp : Page) (zf : Field) : (s.setFn f c).flag zp zf = s.flag zp zf := by simp [State.flag]
@[simp] theorem State.setFn_counter (s : State) (f : Fn) (c : FnCfg) (zp : Page) (zoff : Nat) : (s.setFn f c).counter zp zoff = s.counter zp zoff := by unfold State.counter; rw [State.setFn_rd, State.setFn_rd]
@[simp] theorem State.setFn_counterOvf (s : State) (f : Fn) (c : FnCfg) (zp : Page) (zoff : Nat) : (s.setFn f c).counterOvf zp zoff = s.counterOvf zp zoff := by simp [State.counterOvf]
@[simp] theorem State.setFn_inReset (s : State) (f : Fn) (c : FnCfg) (zd : Die) : (s.setFn f c).inReset zd = s.inReset zd := by simp [State.inReset]
@[simp] theorem State.setFn_partState (s : State) (f : Fn) (c : FnCfg) (zp : Part) : (s.setFn f c).partState zp = s.partState zp := by simp [State.partState]
@[simp] theorem State.setFn_partFenced (s : State) (f : Fn) (c : FnCfg) (zp : Part) : (s.setFn f c).partFenced zp = s.partFenced zp := by simp [State.partFenced]
@[simp] theorem State.setFn_lnk (s : State) (f : Fn) (c : FnCfg) (zq : Port) : (s.setFn f c).lnk zq = s.lnk zq := by simp [State.lnk]
@[simp] theorem State.setFn_memRange (s : State) (f : Fn) (c : FnCfg) (zc : CDie) (zp : Part) (zi : Nat) : (s.setFn f c).memRange zc zp zi = s.memRange zc zp zi := by simp [State.memRange]
@[simp] theorem State.setFn_tarnAlloc (s : State) (f : Fn) (c : FnCfg) (zc : CDie) (zp : Part) : (s.setFn f c).tarnAlloc zc zp = s.tarnAlloc zc zp := by simp [State.tarnAlloc]
@[simp] theorem State.setFn_cairnRange (s : State) (f : Fn) (c : FnCfg) (zc : CDie) (zp : Part) : (s.setFn f c).cairnRange zc zp = s.cairnRange zc zp := by simp [State.cairnRange]
@[simp] theorem State.setFn_winOpen (s : State) (f : Fn) (c : FnCfg) (zp : Part) : (s.setFn f c).winOpen zp = s.winOpen zp := by simp [State.winOpen]
@[simp] theorem State.setFn_vfOn (s : State) (f : Fn) (c : FnCfg) (zp : Part) : (s.setFn f c).vfOn zp = s.vfOn zp := by simp [State.vfOn]
@[simp] theorem State.setFn_msfState (s : State) (f : Fn) (c : FnCfg) (zc : CDie) : (s.setFn f c).msfState zc = s.msfState zc := by simp [State.msfState]
@[simp] theorem State.setFn_stepK (s : State) (f : Fn) (c : FnCfg) (zc : CDie) : (s.setFn f c).stepK zc = s.stepK zc := by simp [State.stepK]
@[simp] theorem State.setFn_injection (s : State) (f : Fn) (c : FnCfg) (zp : Page) (zchecker : Nat) : (s.setFn f c).injection zp zchecker = s.injection zp zchecker := by simp [State.injection]
@[simp] theorem State.setFn_disc (s : State) (f : Fn) (c : FnCfg) : (s.setFn f c).disc = s.disc := by simp [State.disc]
@[simp] theorem State.setFn_pairSt (s : State) (f : Fn) (c : FnCfg) : (s.setFn f c).pairSt = s.pairSt := by simp [State.pairSt]
@[simp] theorem State.setFn_now (s : State) (f : Fn) (c : FnCfg) (zd : Die) : (s.setFn f c).now zd = s.now zd := by simp [State.now]
@[simp] theorem State.setFn_array (s : State) (f : Fn) (c : FnCfg) (zc : CDie) : (s.setFn f c).array zc = s.array zc := by simp [State.array]
@[simp] theorem State.setFn_queue (s : State) (f : Fn) (c : FnCfg) (zr : QRef) : (s.setFn f c).queue zr = s.queue zr := by simp [State.queue]
@[simp] theorem State.setFn_partQ (s : State) (f : Fn) (c : FnCfg) (zp : Part) : (s.setFn f c).part? zp = s.part? zp := by simp [State.part?]
@[simp] theorem State.setFn_isConf (s : State) (f : Fn) (c : FnCfg) (zp : Part) : (s.setFn f c).isConf zp = s.isConf zp := by simp [State.isConf]
@[simp] theorem State.setFn_chan (s : State) (f : Fn) (c : FnCfg) (zk : Nat) : (s.setFn f c).chan zk = s.chan zk := by simp [State.chan]
@[simp] theorem State.setFn_agent (s : State) (f : Fn) (c : FnCfg) (zk : PDie) : (s.setFn f c).agent zk = s.agent zk := by simp [State.agent]
@[simp] theorem State.setFn_port (s : State) (f : Fn) (c : FnCfg) (zq : Port) : (s.setFn f c).port zq = s.port zq := by simp [State.port]
@[simp] theorem State.setFn_core (s : State) (f : Fn) (c : FnCfg) (zc : CDie) (zk : Core) : (s.setFn f c).core zc zk = s.core zc zk := by simp [State.core]
@[simp] theorem State.setFn_cairn (s : State) (f : Fn) (c : FnCfg) (zc : CDie) (zn : Nat) : (s.setFn f c).cairn zc zn = s.cairn zc zn := by simp [State.cairn]
@[simp] theorem State.setFn_wkey (s : State) (f : Fn) (c : FnCfg) (zp : Part) (zprev : Bool) : (s.setFn f c).wkey zp zprev = s.wkey zp zprev := by simp [State.wkey]
@[simp] theorem State.setFn_memByte (s : State) (f : Fn) (c : FnCfg) (zc : CDie) (zoff : Nat) : (s.setFn f c).memByte zc zoff = s.memByte zc zoff := by simp [State.memByte]
@[simp] theorem State.setFn_memGet (s : State) (f : Fn) (c : FnCfg) (zc : CDie) (zoff : Nat) (zn : Nat) : (s.setFn f c).memGet zc zoff zn = s.memGet zc zoff zn := by simp [State.memGet]
@[simp] theorem State.setFn_tarnByte (s : State) (f : Fn) (c : FnCfg) (zc : CDie) (zoff : Nat) : (s.setFn f c).tarnByte zc zoff = s.tarnByte zc zoff := by simp [State.tarnByte]
@[simp] theorem State.setFn_tarnGet (s : State) (f : Fn) (c : FnCfg) (zc : CDie) (zoff : Nat) (zn : Nat) : (s.setFn f c).tarnGet zc zoff zn = s.tarnGet zc zoff zn := by simp [State.tarnGet]
@[simp] theorem State.setFn_dieDown (s : State) (f : Fn) (c : FnCfg) (zc : CDie) : (s.setFn f c).dieDown zc = s.dieDown zc := by simp [State.dieDown]
@[simp] theorem State.setFn_nparts (s : State) (f : Fn) (c : FnCfg) : (s.setFn f c).nparts = s.nparts := by simp [State.nparts]
@[simp] theorem State.setFn_memWf (s : State) (f : Fn) (c : FnCfg) : (s.setFn f c).memWf = s.memWf := by simp [State.memWf]
@[simp] theorem State.setFn_quiet (s : State) (f : Fn) (c : FnCfg) : (s.setFn f c).quiet = s.quiet := by simp [State.quiet]
@[simp] theorem State.setFn_settled (s : State) (f : Fn) (c : FnCfg) : (s.setFn f c).settled = s.settled := by simp [State.settled]

/-! `setPwr` writes power alone. -/

@[simp] theorem State.setPwr_pending (s : State) (c : Nat) (x : PowerSt) : (s.setPwr c x).pending = s.pending := by cases s; rfl
@[simp] theorem State.setPwr_out (s : State) (c : Nat) (x : PowerSt) : (s.setPwr c x).out = s.out := by cases s; rfl
@[simp] theorem State.setPwr_freeCtr (s : State) (c : Nat) (x : PowerSt) : (s.setPwr c x).freeCtr = s.freeCtr := by cases s; rfl
@[simp] theorem State.setPwr_mgmtOn (s : State) (c : Nat) (x : PowerSt) : (s.setPwr c x).mgmtOn = s.mgmtOn := by cases s; rfl
@[simp] theorem State.setPwr_fuses (s : State) (c : Nat) (x : PowerSt) : (s.setPwr c x).fuses = s.fuses := by cases s; rfl
@[simp] theorem State.setPwr_straps (s : State) (c : Nat) (x : PowerSt) : (s.setPwr c x).straps = s.straps := by cases s; rfl
@[simp] theorem State.setPwr_pos (s : State) (c : Nat) (x : PowerSt) : (s.setPwr c x).pos = s.pos := by cases s; rfl
@[simp] theorem State.setPwr_regs (s : State) (c : Nat) (x : PowerSt) : (s.setPwr c x).regs = s.regs := by cases s; rfl
@[simp] theorem State.setPwr_latches (s : State) (c : Nat) (x : PowerSt) : (s.setPwr c x).latches = s.latches := by cases s; rfl
@[simp] theorem State.setPwr_gtime (s : State) (c : Nat) (x : PowerSt) : (s.setPwr c x).gtime = s.gtime := by cases s; rfl
@[simp] theorem State.setPwr_fclk (s : State) (c : Nat) (x : PowerSt) : (s.setPwr c x).fclk = s.fclk := by cases s; rfl
@[simp] theorem State.setPwr_mem (s : State) (c : Nat) (x : PowerSt) : (s.setPwr c x).mem = s.mem := by cases s; rfl
@[simp] theorem State.setPwr_tarn (s : State) (c : Nat) (x : PowerSt) : (s.setPwr c x).tarn = s.tarn := by cases s; rfl
@[simp] theorem State.setPwr_rowErrs (s : State) (c : Nat) (x : PowerSt) : (s.setPwr c x).rowErrs = s.rowErrs := by cases s; rfl
@[simp] theorem State.setPwr_remaps (s : State) (c : Nat) (x : PowerSt) : (s.setPwr c x).remaps = s.remaps := by cases s; rfl
@[simp] theorem State.setPwr_savedRemaps (s : State) (c : Nat) (x : PowerSt) : (s.setPwr c x).savedRemaps = s.savedRemaps := by cases s; rfl
@[simp] theorem State.setPwr_repairLog (s : State) (c : Nat) (x : PowerSt) : (s.setPwr c x).repairLog = s.repairLog := by cases s; rfl
@[simp] theorem State.setPwr_badSectors (s : State) (c : Nat) (x : PowerSt) : (s.setPwr c x).badSectors = s.badSectors := by cases s; rfl
@[simp] theorem State.setPwr_memFenced (s : State) (c : Nat) (x : PowerSt) : (s.setPwr c x).memFenced = s.memFenced := by cases s; rfl
@[simp] theorem State.setPwr_mappedGran (s : State) (c : Nat) (x : PowerSt) : (s.setPwr c x).mappedGran = s.mappedGran := by cases s; rfl
@[simp] theorem State.setPwr_zeroOrders (s : State) (c : Nat) (x : PowerSt) : (s.setPwr c x).zeroOrders = s.zeroOrders := by cases s; rfl
@[simp] theorem State.setPwr_arrays (s : State) (c : Nat) (x : PowerSt) : (s.setPwr c x).arrays = s.arrays := by cases s; rfl
@[simp] theorem State.setPwr_repairLines (s : State) (c : Nat) (x : PowerSt) : (s.setPwr c x).repairLines = s.repairLines := by cases s; rfl
@[simp] theorem State.setPwr_queues (s : State) (c : Nat) (x : PowerSt) : (s.setPwr c x).queues = s.queues := by cases s; rfl
@[simp] theorem State.setPwr_cairns (s : State) (c : Nat) (x : PowerSt) : (s.setPwr c x).cairns = s.cairns := by cases s; rfl
@[simp] theorem State.setPwr_tracks (s : State) (c : Nat) (x : PowerSt) : (s.setPwr c x).tracks = s.tracks := by cases s; rfl
@[simp] theorem State.setPwr_cores (s : State) (c : Nat) (x : PowerSt) : (s.setPwr c x).cores = s.cores := by cases s; rfl
@[simp] theorem State.setPwr_dispatches (s : State) (c : Nat) (x : PowerSt) : (s.setPwr c x).dispatches = s.dispatches := by cases s; rfl
@[simp] theorem State.setPwr_dmaRuns (s : State) (c : Nat) (x : PowerSt) : (s.setPwr c x).dmaRuns = s.dmaRuns := by cases s; rfl
@[simp] theorem State.setPwr_requests (s : State) (c : Nat) (x : PowerSt) : (s.setPwr c x).requests = s.requests := by cases s; rfl
@[simp] theorem State.setPwr_windows (s : State) (c : Nat) (x : PowerSt) : (s.setPwr c x).windows = s.windows := by cases s; rfl
@[simp] theorem State.setPwr_respUse (s : State) (c : Nat) (x : PowerSt) : (s.setPwr c x).respUse = s.respUse := by cases s; rfl
@[simp] theorem State.setPwr_nextXid (s : State) (c : Nat) (x : PowerSt) : (s.setPwr c x).nextXid = s.nextXid := by cases s; rfl
@[simp] theorem State.setPwr_nextId (s : State) (c : Nat) (x : PowerSt) : (s.setPwr c x).nextId = s.nextId := by cases s; rfl
@[simp] theorem State.setPwr_parts (s : State) (c : Nat) (x : PowerSt) : (s.setPwr c x).parts = s.parts := by cases s; rfl
@[simp] theorem State.setPwr_wkeys (s : State) (c : Nat) (x : PowerSt) : (s.setPwr c x).wkeys = s.wkeys := by cases s; rfl
@[simp] theorem State.setPwr_staging (s : State) (c : Nat) (x : PowerSt) : (s.setPwr c x).staging = s.staging := by cases s; rfl
@[simp] theorem State.setPwr_fltLog (s : State) (c : Nat) (x : PowerSt) : (s.setPwr c x).fltLog = s.fltLog := by cases s; rfl
@[simp] theorem State.setPwr_recoveryTimes (s : State) (c : Nat) (x : PowerSt) : (s.setPwr c x).recoveryTimes = s.recoveryTimes := by cases s; rfl
@[simp] theorem State.setPwr_quietPages (s : State) (c : Nat) (x : PowerSt) : (s.setPwr c x).quietPages = s.quietPages := by cases s; rfl
@[simp] theorem State.setPwr_quietParts (s : State) (c : Nat) (x : PowerSt) : (s.setPwr c x).quietParts = s.quietParts := by cases s; rfl
@[simp] theorem State.setPwr_fencedDies (s : State) (c : Nat) (x : PowerSt) : (s.setPwr c x).fencedDies = s.fencedDies := by cases s; rfl
@[simp] theorem State.setPwr_lostRails (s : State) (c : Nat) (x : PowerSt) : (s.setPwr c x).lostRails = s.lostRails := by cases s; rfl
@[simp] theorem State.setPwr_thermtrip (s : State) (c : Nat) (x : PowerSt) : (s.setPwr c x).thermtrip = s.thermtrip := by cases s; rfl
@[simp] theorem State.setPwr_chans (s : State) (c : Nat) (x : PowerSt) : (s.setPwr c x).chans = s.chans := by cases s; rfl
@[simp] theorem State.setPwr_fns (s : State) (c : Nat) (x : PowerSt) : (s.setPwr c x).fns = s.fns := by cases s; rfl
@[simp] theorem State.setPwr_bar2 (s : State) (c : Nat) (x : PowerSt) : (s.setPwr c x).bar2 = s.bar2 := by cases s; rfl
@[simp] theorem State.setPwr_held (s : State) (c : Nat) (x : PowerSt) : (s.setPwr c x).held = s.held := by cases s; rfl
@[simp] theorem State.setPwr_relayOut (s : State) (c : Nat) (x : PowerSt) : (s.setPwr c x).relayOut = s.relayOut := by cases s; rfl
@[simp] theorem State.setPwr_relayCtr (s : State) (c : Nat) (x : PowerSt) : (s.setPwr c x).relayCtr = s.relayCtr := by cases s; rfl
@[simp] theorem State.setPwr_boardSess (s : State) (c : Nat) (x : PowerSt) : (s.setPwr c x).boardSess = s.boardSess := by cases s; rfl
@[simp] theorem State.setPwr_i3c (s : State) (c : Nat) (x : PowerSt) : (s.setPwr c x).i3c = s.i3c := by cases s; rfl
@[simp] theorem State.setPwr_eid (s : State) (c : Nat) (x : PowerSt) : (s.setPwr c x).eid = s.eid := by cases s; rfl
@[simp] theorem State.setPwr_sensors (s : State) (c : Nat) (x : PowerSt) : (s.setPwr c x).sensors = s.sensors := by cases s; rfl
@[simp] theorem State.setPwr_agents (s : State) (c : Nat) (x : PowerSt) : (s.setPwr c x).agents = s.agents := by cases s; rfl
@[simp] theorem State.setPwr_ports (s : State) (c : Nat) (x : PowerSt) : (s.setPwr c x).ports = s.ports := by cases s; rfl
@[simp] theorem State.setPwr_transits (s : State) (c : Nat) (x : PowerSt) : (s.setPwr c x).transits = s.transits := by cases s; rfl
@[simp] theorem State.setPwr_d2d (s : State) (c : Nat) (x : PowerSt) : (s.setPwr c x).d2d = s.d2d := by cases s; rfl
@[simp] theorem State.setPwr_reserved (s : State) (c : Nat) (x : PowerSt) : (s.setPwr c x).reserved = s.reserved := by cases s; rfl
@[simp] theorem State.setPwr_tables (s : State) (c : Nat) (x : PowerSt) : (s.setPwr c x).tables = s.tables := by cases s; rfl
@[simp] theorem State.setPwr_d2dRuns (s : State) (c : Nat) (x : PowerSt) : (s.setPwr c x).d2dRuns = s.d2dRuns := by cases s; rfl
@[simp] theorem State.setPwr_xfers (s : State) (c : Nat) (x : PowerSt) : (s.setPwr c x).xfers = s.xfers := by cases s; rfl
@[simp] theorem State.setPwr_hotEngines (s : State) (c : Nat) (x : PowerSt) : (s.setPwr c x).hotEngines = s.hotEngines := by cases s; rfl
@[simp] theorem State.setPwr_boot (s : State) (c : Nat) (x : PowerSt) : (s.setPwr c x).boot = s.boot := by cases s; rfl
@[simp] theorem State.setPwr_plan (s : State) (c : Nat) (x : PowerSt) : (s.setPwr c x).plan = s.plan := by cases s; rfl
@[simp] theorem State.setPwr_bootPlan (s : State) (c : Nat) (x : PowerSt) : (s.setPwr c x).bootPlan = s.bootPlan := by cases s; rfl
@[simp] theorem State.setPwr_maxPlanSeq (s : State) (c : Nat) (x : PowerSt) : (s.setPwr c x).maxPlanSeq = s.maxPlanSeq := by cases s; rfl
@[simp] theorem State.setPwr_fwDigest (s : State) (c : Nat) (x : PowerSt) : (s.setPwr c x).fwDigest = s.fwDigest := by cases s; rfl
@[simp] theorem State.setPwr_fwComps (s : State) (c : Nat) (x : PowerSt) : (s.setPwr c x).fwComps = s.fwComps := by cases s; rfl
@[simp] theorem State.setPwr_flash (s : State) (c : Nat) (x : PowerSt) : (s.setPwr c x).flash = s.flash := by cases s; rfl
@[simp] theorem State.setPwr_fwStaged (s : State) (c : Nat) (x : PowerSt) : (s.setPwr c x).fwStaged = s.fwStaged := by cases s; rfl
@[simp] theorem State.setPwr_codeHeld (s : State) (c : Nat) (x : PowerSt) : (s.setPwr c x).codeHeld = s.codeHeld := by cases s; rfl
@[simp] theorem State.setPwr_codeStaged (s : State) (c : Nat) (x : PowerSt) : (s.setPwr c x).codeStaged = s.codeStaged := by cases s; rfl
@[simp] theorem State.setPwr_rcv (s : State) (c : Nat) (x : PowerSt) : (s.setPwr c x).rcv = s.rcv := by cases s; rfl
@[simp] theorem State.setPwr_dist (s : State) (c : Nat) (x : PowerSt) : (s.setPwr c x).dist = s.dist := by cases s; rfl
@[simp] theorem State.setPwr_mcReset (s : State) (c : Nat) (x : PowerSt) : (s.setPwr c x).mcReset = s.mcReset := by cases s; rfl
@[simp] theorem State.setPwr_dbgCounters (s : State) (c : Nat) (x : PowerSt) : (s.setPwr c x).dbgCounters = s.dbgCounters := by cases s; rfl
@[simp] theorem State.setPwr_unlocks (s : State) (c : Nat) (x : PowerSt) : (s.setPwr c x).unlocks = s.unlocks := by cases s; rfl
@[simp] theorem State.setPwr_pkgPower (s : State) (c : Nat) (x : PowerSt) : (s.setPwr c x).pkgPower = s.pkgPower := by cases s; rfl
@[simp] theorem State.setPwr_ridge (s : State) (c : Nat) (x : PowerSt) : (s.setPwr c x).ridge = s.ridge := by cases s; rfl
@[simp] theorem State.setPwr_smt (s : State) (c : Nat) (x : PowerSt) : (s.setPwr c x).smt = s.smt := by cases s; rfl
@[simp] theorem State.setPwr_pairSess (s : State) (c : Nat) (x : PowerSt) : (s.setPwr c x).pairSess = s.pairSess := by cases s; rfl
@[simp] theorem State.setPwr_heldTerm (s : State) (c : Nat) (x : PowerSt) : (s.setPwr c x).heldTerm = s.heldTerm := by cases s; rfl
@[simp] theorem State.setPwr_heldBy (s : State) (c : Nat) (x : PowerSt) : (s.setPwr c x).heldBy = s.heldBy := by cases s; rfl
@[simp] theorem State.setPwr_rd (s : State) (c : Nat) (x : PowerSt) (za : Nat) : (s.setPwr c x).rd za = s.rd za := by simp [State.rd]
@[simp] theorem State.setPwr_fld (s : State) (c : Nat) (x : PowerSt) (zp : Page) (zf : Field) : (s.setPwr c x).fld zp zf = s.fld zp zf := by simp [State.fld]
@[simp] theorem State.setPwr_flag (s : State) (c : Nat) (x : PowerSt) (zp : Page) (zf : Field) : (s.setPwr c x).flag zp zf = s.flag zp zf := by simp [State.flag]
@[simp] theorem State.setPwr_counter (s : State) (c : Nat) (x : PowerSt) (zp : Page) (zoff : Nat) : (s.setPwr c x).counter zp zoff = s.counter zp zoff := by unfold State.counter; rw [State.setPwr_rd, State.setPwr_rd]
@[simp] theorem State.setPwr_counterOvf (s : State) (c : Nat) (x : PowerSt) (zp : Page) (zoff : Nat) : (s.setPwr c x).counterOvf zp zoff = s.counterOvf zp zoff := by simp [State.counterOvf]
@[simp] theorem State.setPwr_inReset (s : State) (c : Nat) (x : PowerSt) (zd : Die) : (s.setPwr c x).inReset zd = s.inReset zd := by simp [State.inReset]
@[simp] theorem State.setPwr_partState (s : State) (c : Nat) (x : PowerSt) (zp : Part) : (s.setPwr c x).partState zp = s.partState zp := by simp [State.partState]
@[simp] theorem State.setPwr_partFenced (s : State) (c : Nat) (x : PowerSt) (zp : Part) : (s.setPwr c x).partFenced zp = s.partFenced zp := by simp [State.partFenced]
@[simp] theorem State.setPwr_lnk (s : State) (c : Nat) (x : PowerSt) (zq : Port) : (s.setPwr c x).lnk zq = s.lnk zq := by simp [State.lnk]
@[simp] theorem State.setPwr_memRange (s : State) (c : Nat) (x : PowerSt) (zc : CDie) (zp : Part) (zi : Nat) : (s.setPwr c x).memRange zc zp zi = s.memRange zc zp zi := by simp [State.memRange]
@[simp] theorem State.setPwr_tarnAlloc (s : State) (c : Nat) (x : PowerSt) (zc : CDie) (zp : Part) : (s.setPwr c x).tarnAlloc zc zp = s.tarnAlloc zc zp := by simp [State.tarnAlloc]
@[simp] theorem State.setPwr_cairnRange (s : State) (c : Nat) (x : PowerSt) (zc : CDie) (zp : Part) : (s.setPwr c x).cairnRange zc zp = s.cairnRange zc zp := by simp [State.cairnRange]
@[simp] theorem State.setPwr_winOpen (s : State) (c : Nat) (x : PowerSt) (zp : Part) : (s.setPwr c x).winOpen zp = s.winOpen zp := by simp [State.winOpen]
@[simp] theorem State.setPwr_vfOn (s : State) (c : Nat) (x : PowerSt) (zp : Part) : (s.setPwr c x).vfOn zp = s.vfOn zp := by simp [State.vfOn]
@[simp] theorem State.setPwr_msfState (s : State) (c : Nat) (x : PowerSt) (zc : CDie) : (s.setPwr c x).msfState zc = s.msfState zc := by simp [State.msfState]
@[simp] theorem State.setPwr_stepK (s : State) (c : Nat) (x : PowerSt) (zc : CDie) : (s.setPwr c x).stepK zc = s.stepK zc := by simp [State.stepK]
@[simp] theorem State.setPwr_injection (s : State) (c : Nat) (x : PowerSt) (zp : Page) (zchecker : Nat) : (s.setPwr c x).injection zp zchecker = s.injection zp zchecker := by simp [State.injection]
@[simp] theorem State.setPwr_disc (s : State) (c : Nat) (x : PowerSt) : (s.setPwr c x).disc = s.disc := by simp [State.disc]
@[simp] theorem State.setPwr_pairSt (s : State) (c : Nat) (x : PowerSt) : (s.setPwr c x).pairSt = s.pairSt := by simp [State.pairSt]
@[simp] theorem State.setPwr_now (s : State) (c : Nat) (x : PowerSt) (zd : Die) : (s.setPwr c x).now zd = s.now zd := by simp [State.now]
@[simp] theorem State.setPwr_array (s : State) (c : Nat) (x : PowerSt) (zc : CDie) : (s.setPwr c x).array zc = s.array zc := by simp [State.array]
@[simp] theorem State.setPwr_queue (s : State) (c : Nat) (x : PowerSt) (zr : QRef) : (s.setPwr c x).queue zr = s.queue zr := by simp [State.queue]
@[simp] theorem State.setPwr_partQ (s : State) (c : Nat) (x : PowerSt) (zp : Part) : (s.setPwr c x).part? zp = s.part? zp := by simp [State.part?]
@[simp] theorem State.setPwr_isConf (s : State) (c : Nat) (x : PowerSt) (zp : Part) : (s.setPwr c x).isConf zp = s.isConf zp := by simp [State.isConf]
@[simp] theorem State.setPwr_chan (s : State) (c : Nat) (x : PowerSt) (zk : Nat) : (s.setPwr c x).chan zk = s.chan zk := by simp [State.chan]
@[simp] theorem State.setPwr_agent (s : State) (c : Nat) (x : PowerSt) (zk : PDie) : (s.setPwr c x).agent zk = s.agent zk := by simp [State.agent]
@[simp] theorem State.setPwr_port (s : State) (c : Nat) (x : PowerSt) (zq : Port) : (s.setPwr c x).port zq = s.port zq := by simp [State.port]
@[simp] theorem State.setPwr_core (s : State) (c : Nat) (x : PowerSt) (zc : CDie) (zk : Core) : (s.setPwr c x).core zc zk = s.core zc zk := by simp [State.core]
@[simp] theorem State.setPwr_cairn (s : State) (c : Nat) (x : PowerSt) (zc : CDie) (zn : Nat) : (s.setPwr c x).cairn zc zn = s.cairn zc zn := by simp [State.cairn]
@[simp] theorem State.setPwr_fn (s : State) (c : Nat) (x : PowerSt) (zf : Fn) : (s.setPwr c x).fn zf = s.fn zf := by simp [State.fn]
@[simp] theorem State.setPwr_wkey (s : State) (c : Nat) (x : PowerSt) (zp : Part) (zprev : Bool) : (s.setPwr c x).wkey zp zprev = s.wkey zp zprev := by simp [State.wkey]
@[simp] theorem State.setPwr_memByte (s : State) (c : Nat) (x : PowerSt) (zc : CDie) (zoff : Nat) : (s.setPwr c x).memByte zc zoff = s.memByte zc zoff := by simp [State.memByte]
@[simp] theorem State.setPwr_memGet (s : State) (c : Nat) (x : PowerSt) (zc : CDie) (zoff : Nat) (zn : Nat) : (s.setPwr c x).memGet zc zoff zn = s.memGet zc zoff zn := by simp [State.memGet]
@[simp] theorem State.setPwr_tarnByte (s : State) (c : Nat) (x : PowerSt) (zc : CDie) (zoff : Nat) : (s.setPwr c x).tarnByte zc zoff = s.tarnByte zc zoff := by simp [State.tarnByte]
@[simp] theorem State.setPwr_tarnGet (s : State) (c : Nat) (x : PowerSt) (zc : CDie) (zoff : Nat) (zn : Nat) : (s.setPwr c x).tarnGet zc zoff zn = s.tarnGet zc zoff zn := by simp [State.tarnGet]
@[simp] theorem State.setPwr_dieDown (s : State) (c : Nat) (x : PowerSt) (zc : CDie) : (s.setPwr c x).dieDown zc = s.dieDown zc := by simp [State.dieDown]
@[simp] theorem State.setPwr_nparts (s : State) (c : Nat) (x : PowerSt) : (s.setPwr c x).nparts = s.nparts := by simp [State.nparts]
@[simp] theorem State.setPwr_memWf (s : State) (c : Nat) (x : PowerSt) : (s.setPwr c x).memWf = s.memWf := by simp [State.memWf]
@[simp] theorem State.setPwr_quiet (s : State) (c : Nat) (x : PowerSt) : (s.setPwr c x).quiet = s.quiet := by simp [State.quiet]
@[simp] theorem State.setPwr_settled (s : State) (c : Nat) (x : PowerSt) : (s.setPwr c x).settled = s.settled := by simp [State.settled]

/-! `setWkey` writes wkeys alone. -/

@[simp] theorem State.setWkey_pending (s : State) (p : Part) (prev : Bool) (k : Option WKey) : (s.setWkey p prev k).pending = s.pending := by cases s; rfl
@[simp] theorem State.setWkey_out (s : State) (p : Part) (prev : Bool) (k : Option WKey) : (s.setWkey p prev k).out = s.out := by cases s; rfl
@[simp] theorem State.setWkey_freeCtr (s : State) (p : Part) (prev : Bool) (k : Option WKey) : (s.setWkey p prev k).freeCtr = s.freeCtr := by cases s; rfl
@[simp] theorem State.setWkey_mgmtOn (s : State) (p : Part) (prev : Bool) (k : Option WKey) : (s.setWkey p prev k).mgmtOn = s.mgmtOn := by cases s; rfl
@[simp] theorem State.setWkey_fuses (s : State) (p : Part) (prev : Bool) (k : Option WKey) : (s.setWkey p prev k).fuses = s.fuses := by cases s; rfl
@[simp] theorem State.setWkey_straps (s : State) (p : Part) (prev : Bool) (k : Option WKey) : (s.setWkey p prev k).straps = s.straps := by cases s; rfl
@[simp] theorem State.setWkey_pos (s : State) (p : Part) (prev : Bool) (k : Option WKey) : (s.setWkey p prev k).pos = s.pos := by cases s; rfl
@[simp] theorem State.setWkey_regs (s : State) (p : Part) (prev : Bool) (k : Option WKey) : (s.setWkey p prev k).regs = s.regs := by cases s; rfl
@[simp] theorem State.setWkey_latches (s : State) (p : Part) (prev : Bool) (k : Option WKey) : (s.setWkey p prev k).latches = s.latches := by cases s; rfl
@[simp] theorem State.setWkey_gtime (s : State) (p : Part) (prev : Bool) (k : Option WKey) : (s.setWkey p prev k).gtime = s.gtime := by cases s; rfl
@[simp] theorem State.setWkey_fclk (s : State) (p : Part) (prev : Bool) (k : Option WKey) : (s.setWkey p prev k).fclk = s.fclk := by cases s; rfl
@[simp] theorem State.setWkey_mem (s : State) (p : Part) (prev : Bool) (k : Option WKey) : (s.setWkey p prev k).mem = s.mem := by cases s; rfl
@[simp] theorem State.setWkey_tarn (s : State) (p : Part) (prev : Bool) (k : Option WKey) : (s.setWkey p prev k).tarn = s.tarn := by cases s; rfl
@[simp] theorem State.setWkey_rowErrs (s : State) (p : Part) (prev : Bool) (k : Option WKey) : (s.setWkey p prev k).rowErrs = s.rowErrs := by cases s; rfl
@[simp] theorem State.setWkey_remaps (s : State) (p : Part) (prev : Bool) (k : Option WKey) : (s.setWkey p prev k).remaps = s.remaps := by cases s; rfl
@[simp] theorem State.setWkey_savedRemaps (s : State) (p : Part) (prev : Bool) (k : Option WKey) : (s.setWkey p prev k).savedRemaps = s.savedRemaps := by cases s; rfl
@[simp] theorem State.setWkey_repairLog (s : State) (p : Part) (prev : Bool) (k : Option WKey) : (s.setWkey p prev k).repairLog = s.repairLog := by cases s; rfl
@[simp] theorem State.setWkey_badSectors (s : State) (p : Part) (prev : Bool) (k : Option WKey) : (s.setWkey p prev k).badSectors = s.badSectors := by cases s; rfl
@[simp] theorem State.setWkey_memFenced (s : State) (p : Part) (prev : Bool) (k : Option WKey) : (s.setWkey p prev k).memFenced = s.memFenced := by cases s; rfl
@[simp] theorem State.setWkey_mappedGran (s : State) (p : Part) (prev : Bool) (k : Option WKey) : (s.setWkey p prev k).mappedGran = s.mappedGran := by cases s; rfl
@[simp] theorem State.setWkey_zeroOrders (s : State) (p : Part) (prev : Bool) (k : Option WKey) : (s.setWkey p prev k).zeroOrders = s.zeroOrders := by cases s; rfl
@[simp] theorem State.setWkey_arrays (s : State) (p : Part) (prev : Bool) (k : Option WKey) : (s.setWkey p prev k).arrays = s.arrays := by cases s; rfl
@[simp] theorem State.setWkey_repairLines (s : State) (p : Part) (prev : Bool) (k : Option WKey) : (s.setWkey p prev k).repairLines = s.repairLines := by cases s; rfl
@[simp] theorem State.setWkey_queues (s : State) (p : Part) (prev : Bool) (k : Option WKey) : (s.setWkey p prev k).queues = s.queues := by cases s; rfl
@[simp] theorem State.setWkey_cairns (s : State) (p : Part) (prev : Bool) (k : Option WKey) : (s.setWkey p prev k).cairns = s.cairns := by cases s; rfl
@[simp] theorem State.setWkey_tracks (s : State) (p : Part) (prev : Bool) (k : Option WKey) : (s.setWkey p prev k).tracks = s.tracks := by cases s; rfl
@[simp] theorem State.setWkey_cores (s : State) (p : Part) (prev : Bool) (k : Option WKey) : (s.setWkey p prev k).cores = s.cores := by cases s; rfl
@[simp] theorem State.setWkey_dispatches (s : State) (p : Part) (prev : Bool) (k : Option WKey) : (s.setWkey p prev k).dispatches = s.dispatches := by cases s; rfl
@[simp] theorem State.setWkey_dmaRuns (s : State) (p : Part) (prev : Bool) (k : Option WKey) : (s.setWkey p prev k).dmaRuns = s.dmaRuns := by cases s; rfl
@[simp] theorem State.setWkey_requests (s : State) (p : Part) (prev : Bool) (k : Option WKey) : (s.setWkey p prev k).requests = s.requests := by cases s; rfl
@[simp] theorem State.setWkey_windows (s : State) (p : Part) (prev : Bool) (k : Option WKey) : (s.setWkey p prev k).windows = s.windows := by cases s; rfl
@[simp] theorem State.setWkey_respUse (s : State) (p : Part) (prev : Bool) (k : Option WKey) : (s.setWkey p prev k).respUse = s.respUse := by cases s; rfl
@[simp] theorem State.setWkey_nextXid (s : State) (p : Part) (prev : Bool) (k : Option WKey) : (s.setWkey p prev k).nextXid = s.nextXid := by cases s; rfl
@[simp] theorem State.setWkey_nextId (s : State) (p : Part) (prev : Bool) (k : Option WKey) : (s.setWkey p prev k).nextId = s.nextId := by cases s; rfl
@[simp] theorem State.setWkey_parts (s : State) (p : Part) (prev : Bool) (k : Option WKey) : (s.setWkey p prev k).parts = s.parts := by cases s; rfl
@[simp] theorem State.setWkey_staging (s : State) (p : Part) (prev : Bool) (k : Option WKey) : (s.setWkey p prev k).staging = s.staging := by cases s; rfl
@[simp] theorem State.setWkey_fltLog (s : State) (p : Part) (prev : Bool) (k : Option WKey) : (s.setWkey p prev k).fltLog = s.fltLog := by cases s; rfl
@[simp] theorem State.setWkey_recoveryTimes (s : State) (p : Part) (prev : Bool) (k : Option WKey) : (s.setWkey p prev k).recoveryTimes = s.recoveryTimes := by cases s; rfl
@[simp] theorem State.setWkey_quietPages (s : State) (p : Part) (prev : Bool) (k : Option WKey) : (s.setWkey p prev k).quietPages = s.quietPages := by cases s; rfl
@[simp] theorem State.setWkey_quietParts (s : State) (p : Part) (prev : Bool) (k : Option WKey) : (s.setWkey p prev k).quietParts = s.quietParts := by cases s; rfl
@[simp] theorem State.setWkey_fencedDies (s : State) (p : Part) (prev : Bool) (k : Option WKey) : (s.setWkey p prev k).fencedDies = s.fencedDies := by cases s; rfl
@[simp] theorem State.setWkey_lostRails (s : State) (p : Part) (prev : Bool) (k : Option WKey) : (s.setWkey p prev k).lostRails = s.lostRails := by cases s; rfl
@[simp] theorem State.setWkey_thermtrip (s : State) (p : Part) (prev : Bool) (k : Option WKey) : (s.setWkey p prev k).thermtrip = s.thermtrip := by cases s; rfl
@[simp] theorem State.setWkey_chans (s : State) (p : Part) (prev : Bool) (k : Option WKey) : (s.setWkey p prev k).chans = s.chans := by cases s; rfl
@[simp] theorem State.setWkey_fns (s : State) (p : Part) (prev : Bool) (k : Option WKey) : (s.setWkey p prev k).fns = s.fns := by cases s; rfl
@[simp] theorem State.setWkey_bar2 (s : State) (p : Part) (prev : Bool) (k : Option WKey) : (s.setWkey p prev k).bar2 = s.bar2 := by cases s; rfl
@[simp] theorem State.setWkey_held (s : State) (p : Part) (prev : Bool) (k : Option WKey) : (s.setWkey p prev k).held = s.held := by cases s; rfl
@[simp] theorem State.setWkey_relayOut (s : State) (p : Part) (prev : Bool) (k : Option WKey) : (s.setWkey p prev k).relayOut = s.relayOut := by cases s; rfl
@[simp] theorem State.setWkey_relayCtr (s : State) (p : Part) (prev : Bool) (k : Option WKey) : (s.setWkey p prev k).relayCtr = s.relayCtr := by cases s; rfl
@[simp] theorem State.setWkey_boardSess (s : State) (p : Part) (prev : Bool) (k : Option WKey) : (s.setWkey p prev k).boardSess = s.boardSess := by cases s; rfl
@[simp] theorem State.setWkey_i3c (s : State) (p : Part) (prev : Bool) (k : Option WKey) : (s.setWkey p prev k).i3c = s.i3c := by cases s; rfl
@[simp] theorem State.setWkey_eid (s : State) (p : Part) (prev : Bool) (k : Option WKey) : (s.setWkey p prev k).eid = s.eid := by cases s; rfl
@[simp] theorem State.setWkey_sensors (s : State) (p : Part) (prev : Bool) (k : Option WKey) : (s.setWkey p prev k).sensors = s.sensors := by cases s; rfl
@[simp] theorem State.setWkey_agents (s : State) (p : Part) (prev : Bool) (k : Option WKey) : (s.setWkey p prev k).agents = s.agents := by cases s; rfl
@[simp] theorem State.setWkey_ports (s : State) (p : Part) (prev : Bool) (k : Option WKey) : (s.setWkey p prev k).ports = s.ports := by cases s; rfl
@[simp] theorem State.setWkey_transits (s : State) (p : Part) (prev : Bool) (k : Option WKey) : (s.setWkey p prev k).transits = s.transits := by cases s; rfl
@[simp] theorem State.setWkey_d2d (s : State) (p : Part) (prev : Bool) (k : Option WKey) : (s.setWkey p prev k).d2d = s.d2d := by cases s; rfl
@[simp] theorem State.setWkey_reserved (s : State) (p : Part) (prev : Bool) (k : Option WKey) : (s.setWkey p prev k).reserved = s.reserved := by cases s; rfl
@[simp] theorem State.setWkey_tables (s : State) (p : Part) (prev : Bool) (k : Option WKey) : (s.setWkey p prev k).tables = s.tables := by cases s; rfl
@[simp] theorem State.setWkey_d2dRuns (s : State) (p : Part) (prev : Bool) (k : Option WKey) : (s.setWkey p prev k).d2dRuns = s.d2dRuns := by cases s; rfl
@[simp] theorem State.setWkey_xfers (s : State) (p : Part) (prev : Bool) (k : Option WKey) : (s.setWkey p prev k).xfers = s.xfers := by cases s; rfl
@[simp] theorem State.setWkey_hotEngines (s : State) (p : Part) (prev : Bool) (k : Option WKey) : (s.setWkey p prev k).hotEngines = s.hotEngines := by cases s; rfl
@[simp] theorem State.setWkey_boot (s : State) (p : Part) (prev : Bool) (k : Option WKey) : (s.setWkey p prev k).boot = s.boot := by cases s; rfl
@[simp] theorem State.setWkey_plan (s : State) (p : Part) (prev : Bool) (k : Option WKey) : (s.setWkey p prev k).plan = s.plan := by cases s; rfl
@[simp] theorem State.setWkey_bootPlan (s : State) (p : Part) (prev : Bool) (k : Option WKey) : (s.setWkey p prev k).bootPlan = s.bootPlan := by cases s; rfl
@[simp] theorem State.setWkey_maxPlanSeq (s : State) (p : Part) (prev : Bool) (k : Option WKey) : (s.setWkey p prev k).maxPlanSeq = s.maxPlanSeq := by cases s; rfl
@[simp] theorem State.setWkey_fwDigest (s : State) (p : Part) (prev : Bool) (k : Option WKey) : (s.setWkey p prev k).fwDigest = s.fwDigest := by cases s; rfl
@[simp] theorem State.setWkey_fwComps (s : State) (p : Part) (prev : Bool) (k : Option WKey) : (s.setWkey p prev k).fwComps = s.fwComps := by cases s; rfl
@[simp] theorem State.setWkey_flash (s : State) (p : Part) (prev : Bool) (k : Option WKey) : (s.setWkey p prev k).flash = s.flash := by cases s; rfl
@[simp] theorem State.setWkey_fwStaged (s : State) (p : Part) (prev : Bool) (k : Option WKey) : (s.setWkey p prev k).fwStaged = s.fwStaged := by cases s; rfl
@[simp] theorem State.setWkey_codeHeld (s : State) (p : Part) (prev : Bool) (k : Option WKey) : (s.setWkey p prev k).codeHeld = s.codeHeld := by cases s; rfl
@[simp] theorem State.setWkey_codeStaged (s : State) (p : Part) (prev : Bool) (k : Option WKey) : (s.setWkey p prev k).codeStaged = s.codeStaged := by cases s; rfl
@[simp] theorem State.setWkey_rcv (s : State) (p : Part) (prev : Bool) (k : Option WKey) : (s.setWkey p prev k).rcv = s.rcv := by cases s; rfl
@[simp] theorem State.setWkey_dist (s : State) (p : Part) (prev : Bool) (k : Option WKey) : (s.setWkey p prev k).dist = s.dist := by cases s; rfl
@[simp] theorem State.setWkey_mcReset (s : State) (p : Part) (prev : Bool) (k : Option WKey) : (s.setWkey p prev k).mcReset = s.mcReset := by cases s; rfl
@[simp] theorem State.setWkey_dbgCounters (s : State) (p : Part) (prev : Bool) (k : Option WKey) : (s.setWkey p prev k).dbgCounters = s.dbgCounters := by cases s; rfl
@[simp] theorem State.setWkey_unlocks (s : State) (p : Part) (prev : Bool) (k : Option WKey) : (s.setWkey p prev k).unlocks = s.unlocks := by cases s; rfl
@[simp] theorem State.setWkey_power (s : State) (p : Part) (prev : Bool) (k : Option WKey) : (s.setWkey p prev k).power = s.power := by cases s; rfl
@[simp] theorem State.setWkey_pkgPower (s : State) (p : Part) (prev : Bool) (k : Option WKey) : (s.setWkey p prev k).pkgPower = s.pkgPower := by cases s; rfl
@[simp] theorem State.setWkey_ridge (s : State) (p : Part) (prev : Bool) (k : Option WKey) : (s.setWkey p prev k).ridge = s.ridge := by cases s; rfl
@[simp] theorem State.setWkey_smt (s : State) (p : Part) (prev : Bool) (k : Option WKey) : (s.setWkey p prev k).smt = s.smt := by cases s; rfl
@[simp] theorem State.setWkey_pairSess (s : State) (p : Part) (prev : Bool) (k : Option WKey) : (s.setWkey p prev k).pairSess = s.pairSess := by cases s; rfl
@[simp] theorem State.setWkey_heldTerm (s : State) (p : Part) (prev : Bool) (k : Option WKey) : (s.setWkey p prev k).heldTerm = s.heldTerm := by cases s; rfl
@[simp] theorem State.setWkey_heldBy (s : State) (p : Part) (prev : Bool) (k : Option WKey) : (s.setWkey p prev k).heldBy = s.heldBy := by cases s; rfl
@[simp] theorem State.setWkey_rd (s : State) (p : Part) (prev : Bool) (k : Option WKey) (za : Nat) : (s.setWkey p prev k).rd za = s.rd za := by simp [State.rd]
@[simp] theorem State.setWkey_fld (s : State) (p : Part) (prev : Bool) (k : Option WKey) (zp : Page) (zf : Field) : (s.setWkey p prev k).fld zp zf = s.fld zp zf := by simp [State.fld]
@[simp] theorem State.setWkey_flag (s : State) (p : Part) (prev : Bool) (k : Option WKey) (zp : Page) (zf : Field) : (s.setWkey p prev k).flag zp zf = s.flag zp zf := by simp [State.flag]
@[simp] theorem State.setWkey_counter (s : State) (p : Part) (prev : Bool) (k : Option WKey) (zp : Page) (zoff : Nat) : (s.setWkey p prev k).counter zp zoff = s.counter zp zoff := by unfold State.counter; rw [State.setWkey_rd, State.setWkey_rd]
@[simp] theorem State.setWkey_counterOvf (s : State) (p : Part) (prev : Bool) (k : Option WKey) (zp : Page) (zoff : Nat) : (s.setWkey p prev k).counterOvf zp zoff = s.counterOvf zp zoff := by simp [State.counterOvf]
@[simp] theorem State.setWkey_inReset (s : State) (p : Part) (prev : Bool) (k : Option WKey) (zd : Die) : (s.setWkey p prev k).inReset zd = s.inReset zd := by simp [State.inReset]
@[simp] theorem State.setWkey_partState (s : State) (p : Part) (prev : Bool) (k : Option WKey) (zp : Part) : (s.setWkey p prev k).partState zp = s.partState zp := by simp [State.partState]
@[simp] theorem State.setWkey_partFenced (s : State) (p : Part) (prev : Bool) (k : Option WKey) (zp : Part) : (s.setWkey p prev k).partFenced zp = s.partFenced zp := by simp [State.partFenced]
@[simp] theorem State.setWkey_lnk (s : State) (p : Part) (prev : Bool) (k : Option WKey) (zq : Port) : (s.setWkey p prev k).lnk zq = s.lnk zq := by simp [State.lnk]
@[simp] theorem State.setWkey_memRange (s : State) (p : Part) (prev : Bool) (k : Option WKey) (zc : CDie) (zp : Part) (zi : Nat) : (s.setWkey p prev k).memRange zc zp zi = s.memRange zc zp zi := by simp [State.memRange]
@[simp] theorem State.setWkey_tarnAlloc (s : State) (p : Part) (prev : Bool) (k : Option WKey) (zc : CDie) (zp : Part) : (s.setWkey p prev k).tarnAlloc zc zp = s.tarnAlloc zc zp := by simp [State.tarnAlloc]
@[simp] theorem State.setWkey_cairnRange (s : State) (p : Part) (prev : Bool) (k : Option WKey) (zc : CDie) (zp : Part) : (s.setWkey p prev k).cairnRange zc zp = s.cairnRange zc zp := by simp [State.cairnRange]
@[simp] theorem State.setWkey_winOpen (s : State) (p : Part) (prev : Bool) (k : Option WKey) (zp : Part) : (s.setWkey p prev k).winOpen zp = s.winOpen zp := by simp [State.winOpen]
@[simp] theorem State.setWkey_vfOn (s : State) (p : Part) (prev : Bool) (k : Option WKey) (zp : Part) : (s.setWkey p prev k).vfOn zp = s.vfOn zp := by simp [State.vfOn]
@[simp] theorem State.setWkey_msfState (s : State) (p : Part) (prev : Bool) (k : Option WKey) (zc : CDie) : (s.setWkey p prev k).msfState zc = s.msfState zc := by simp [State.msfState]
@[simp] theorem State.setWkey_stepK (s : State) (p : Part) (prev : Bool) (k : Option WKey) (zc : CDie) : (s.setWkey p prev k).stepK zc = s.stepK zc := by simp [State.stepK]
@[simp] theorem State.setWkey_injection (s : State) (p : Part) (prev : Bool) (k : Option WKey) (zp : Page) (zchecker : Nat) : (s.setWkey p prev k).injection zp zchecker = s.injection zp zchecker := by simp [State.injection]
@[simp] theorem State.setWkey_disc (s : State) (p : Part) (prev : Bool) (k : Option WKey) : (s.setWkey p prev k).disc = s.disc := by simp [State.disc]
@[simp] theorem State.setWkey_pairSt (s : State) (p : Part) (prev : Bool) (k : Option WKey) : (s.setWkey p prev k).pairSt = s.pairSt := by simp [State.pairSt]
@[simp] theorem State.setWkey_now (s : State) (p : Part) (prev : Bool) (k : Option WKey) (zd : Die) : (s.setWkey p prev k).now zd = s.now zd := by simp [State.now]
@[simp] theorem State.setWkey_array (s : State) (p : Part) (prev : Bool) (k : Option WKey) (zc : CDie) : (s.setWkey p prev k).array zc = s.array zc := by simp [State.array]
@[simp] theorem State.setWkey_queue (s : State) (p : Part) (prev : Bool) (k : Option WKey) (zr : QRef) : (s.setWkey p prev k).queue zr = s.queue zr := by simp [State.queue]
@[simp] theorem State.setWkey_partQ (s : State) (p : Part) (prev : Bool) (k : Option WKey) (zp : Part) : (s.setWkey p prev k).part? zp = s.part? zp := by simp [State.part?]
@[simp] theorem State.setWkey_isConf (s : State) (p : Part) (prev : Bool) (k : Option WKey) (zp : Part) : (s.setWkey p prev k).isConf zp = s.isConf zp := by simp [State.isConf]
@[simp] theorem State.setWkey_chan (s : State) (p : Part) (prev : Bool) (k : Option WKey) (zk : Nat) : (s.setWkey p prev k).chan zk = s.chan zk := by simp [State.chan]
@[simp] theorem State.setWkey_agent (s : State) (p : Part) (prev : Bool) (k : Option WKey) (zk : PDie) : (s.setWkey p prev k).agent zk = s.agent zk := by simp [State.agent]
@[simp] theorem State.setWkey_port (s : State) (p : Part) (prev : Bool) (k : Option WKey) (zq : Port) : (s.setWkey p prev k).port zq = s.port zq := by simp [State.port]
@[simp] theorem State.setWkey_core (s : State) (p : Part) (prev : Bool) (k : Option WKey) (zc : CDie) (zk : Core) : (s.setWkey p prev k).core zc zk = s.core zc zk := by simp [State.core]
@[simp] theorem State.setWkey_cairn (s : State) (p : Part) (prev : Bool) (k : Option WKey) (zc : CDie) (zn : Nat) : (s.setWkey p prev k).cairn zc zn = s.cairn zc zn := by simp [State.cairn]
@[simp] theorem State.setWkey_fn (s : State) (p : Part) (prev : Bool) (k : Option WKey) (zf : Fn) : (s.setWkey p prev k).fn zf = s.fn zf := by simp [State.fn]
@[simp] theorem State.setWkey_memByte (s : State) (p : Part) (prev : Bool) (k : Option WKey) (zc : CDie) (zoff : Nat) : (s.setWkey p prev k).memByte zc zoff = s.memByte zc zoff := by simp [State.memByte]
@[simp] theorem State.setWkey_memGet (s : State) (p : Part) (prev : Bool) (k : Option WKey) (zc : CDie) (zoff : Nat) (zn : Nat) : (s.setWkey p prev k).memGet zc zoff zn = s.memGet zc zoff zn := by simp [State.memGet]
@[simp] theorem State.setWkey_tarnByte (s : State) (p : Part) (prev : Bool) (k : Option WKey) (zc : CDie) (zoff : Nat) : (s.setWkey p prev k).tarnByte zc zoff = s.tarnByte zc zoff := by simp [State.tarnByte]
@[simp] theorem State.setWkey_tarnGet (s : State) (p : Part) (prev : Bool) (k : Option WKey) (zc : CDie) (zoff : Nat) (zn : Nat) : (s.setWkey p prev k).tarnGet zc zoff zn = s.tarnGet zc zoff zn := by simp [State.tarnGet]
@[simp] theorem State.setWkey_dieDown (s : State) (p : Part) (prev : Bool) (k : Option WKey) (zc : CDie) : (s.setWkey p prev k).dieDown zc = s.dieDown zc := by simp [State.dieDown]
@[simp] theorem State.setWkey_nparts (s : State) (p : Part) (prev : Bool) (k : Option WKey) : (s.setWkey p prev k).nparts = s.nparts := by simp [State.nparts]
@[simp] theorem State.setWkey_memWf (s : State) (p : Part) (prev : Bool) (k : Option WKey) : (s.setWkey p prev k).memWf = s.memWf := by simp [State.memWf]
@[simp] theorem State.setWkey_quiet (s : State) (p : Part) (prev : Bool) (k : Option WKey) : (s.setWkey p prev k).quiet = s.quiet := by simp [State.quiet]
@[simp] theorem State.setWkey_settled (s : State) (p : Part) (prev : Bool) (k : Option WKey) : (s.setWkey p prev k).settled = s.settled := by simp [State.settled]

/-! `updRun` writes dmaRuns alone. -/

@[simp] theorem State.updRun_pending (s : State) (id : Nat) (f : DmaRun → DmaRun) : (s.updRun id f).pending = s.pending := by cases s; rfl
@[simp] theorem State.updRun_out (s : State) (id : Nat) (f : DmaRun → DmaRun) : (s.updRun id f).out = s.out := by cases s; rfl
@[simp] theorem State.updRun_freeCtr (s : State) (id : Nat) (f : DmaRun → DmaRun) : (s.updRun id f).freeCtr = s.freeCtr := by cases s; rfl
@[simp] theorem State.updRun_mgmtOn (s : State) (id : Nat) (f : DmaRun → DmaRun) : (s.updRun id f).mgmtOn = s.mgmtOn := by cases s; rfl
@[simp] theorem State.updRun_fuses (s : State) (id : Nat) (f : DmaRun → DmaRun) : (s.updRun id f).fuses = s.fuses := by cases s; rfl
@[simp] theorem State.updRun_straps (s : State) (id : Nat) (f : DmaRun → DmaRun) : (s.updRun id f).straps = s.straps := by cases s; rfl
@[simp] theorem State.updRun_pos (s : State) (id : Nat) (f : DmaRun → DmaRun) : (s.updRun id f).pos = s.pos := by cases s; rfl
@[simp] theorem State.updRun_regs (s : State) (id : Nat) (f : DmaRun → DmaRun) : (s.updRun id f).regs = s.regs := by cases s; rfl
@[simp] theorem State.updRun_latches (s : State) (id : Nat) (f : DmaRun → DmaRun) : (s.updRun id f).latches = s.latches := by cases s; rfl
@[simp] theorem State.updRun_gtime (s : State) (id : Nat) (f : DmaRun → DmaRun) : (s.updRun id f).gtime = s.gtime := by cases s; rfl
@[simp] theorem State.updRun_fclk (s : State) (id : Nat) (f : DmaRun → DmaRun) : (s.updRun id f).fclk = s.fclk := by cases s; rfl
@[simp] theorem State.updRun_mem (s : State) (id : Nat) (f : DmaRun → DmaRun) : (s.updRun id f).mem = s.mem := by cases s; rfl
@[simp] theorem State.updRun_tarn (s : State) (id : Nat) (f : DmaRun → DmaRun) : (s.updRun id f).tarn = s.tarn := by cases s; rfl
@[simp] theorem State.updRun_rowErrs (s : State) (id : Nat) (f : DmaRun → DmaRun) : (s.updRun id f).rowErrs = s.rowErrs := by cases s; rfl
@[simp] theorem State.updRun_remaps (s : State) (id : Nat) (f : DmaRun → DmaRun) : (s.updRun id f).remaps = s.remaps := by cases s; rfl
@[simp] theorem State.updRun_savedRemaps (s : State) (id : Nat) (f : DmaRun → DmaRun) : (s.updRun id f).savedRemaps = s.savedRemaps := by cases s; rfl
@[simp] theorem State.updRun_repairLog (s : State) (id : Nat) (f : DmaRun → DmaRun) : (s.updRun id f).repairLog = s.repairLog := by cases s; rfl
@[simp] theorem State.updRun_badSectors (s : State) (id : Nat) (f : DmaRun → DmaRun) : (s.updRun id f).badSectors = s.badSectors := by cases s; rfl
@[simp] theorem State.updRun_memFenced (s : State) (id : Nat) (f : DmaRun → DmaRun) : (s.updRun id f).memFenced = s.memFenced := by cases s; rfl
@[simp] theorem State.updRun_mappedGran (s : State) (id : Nat) (f : DmaRun → DmaRun) : (s.updRun id f).mappedGran = s.mappedGran := by cases s; rfl
@[simp] theorem State.updRun_zeroOrders (s : State) (id : Nat) (f : DmaRun → DmaRun) : (s.updRun id f).zeroOrders = s.zeroOrders := by cases s; rfl
@[simp] theorem State.updRun_arrays (s : State) (id : Nat) (f : DmaRun → DmaRun) : (s.updRun id f).arrays = s.arrays := by cases s; rfl
@[simp] theorem State.updRun_repairLines (s : State) (id : Nat) (f : DmaRun → DmaRun) : (s.updRun id f).repairLines = s.repairLines := by cases s; rfl
@[simp] theorem State.updRun_queues (s : State) (id : Nat) (f : DmaRun → DmaRun) : (s.updRun id f).queues = s.queues := by cases s; rfl
@[simp] theorem State.updRun_cairns (s : State) (id : Nat) (f : DmaRun → DmaRun) : (s.updRun id f).cairns = s.cairns := by cases s; rfl
@[simp] theorem State.updRun_tracks (s : State) (id : Nat) (f : DmaRun → DmaRun) : (s.updRun id f).tracks = s.tracks := by cases s; rfl
@[simp] theorem State.updRun_cores (s : State) (id : Nat) (f : DmaRun → DmaRun) : (s.updRun id f).cores = s.cores := by cases s; rfl
@[simp] theorem State.updRun_dispatches (s : State) (id : Nat) (f : DmaRun → DmaRun) : (s.updRun id f).dispatches = s.dispatches := by cases s; rfl
@[simp] theorem State.updRun_requests (s : State) (id : Nat) (f : DmaRun → DmaRun) : (s.updRun id f).requests = s.requests := by cases s; rfl
@[simp] theorem State.updRun_windows (s : State) (id : Nat) (f : DmaRun → DmaRun) : (s.updRun id f).windows = s.windows := by cases s; rfl
@[simp] theorem State.updRun_respUse (s : State) (id : Nat) (f : DmaRun → DmaRun) : (s.updRun id f).respUse = s.respUse := by cases s; rfl
@[simp] theorem State.updRun_nextXid (s : State) (id : Nat) (f : DmaRun → DmaRun) : (s.updRun id f).nextXid = s.nextXid := by cases s; rfl
@[simp] theorem State.updRun_nextId (s : State) (id : Nat) (f : DmaRun → DmaRun) : (s.updRun id f).nextId = s.nextId := by cases s; rfl
@[simp] theorem State.updRun_parts (s : State) (id : Nat) (f : DmaRun → DmaRun) : (s.updRun id f).parts = s.parts := by cases s; rfl
@[simp] theorem State.updRun_wkeys (s : State) (id : Nat) (f : DmaRun → DmaRun) : (s.updRun id f).wkeys = s.wkeys := by cases s; rfl
@[simp] theorem State.updRun_staging (s : State) (id : Nat) (f : DmaRun → DmaRun) : (s.updRun id f).staging = s.staging := by cases s; rfl
@[simp] theorem State.updRun_fltLog (s : State) (id : Nat) (f : DmaRun → DmaRun) : (s.updRun id f).fltLog = s.fltLog := by cases s; rfl
@[simp] theorem State.updRun_recoveryTimes (s : State) (id : Nat) (f : DmaRun → DmaRun) : (s.updRun id f).recoveryTimes = s.recoveryTimes := by cases s; rfl
@[simp] theorem State.updRun_quietPages (s : State) (id : Nat) (f : DmaRun → DmaRun) : (s.updRun id f).quietPages = s.quietPages := by cases s; rfl
@[simp] theorem State.updRun_quietParts (s : State) (id : Nat) (f : DmaRun → DmaRun) : (s.updRun id f).quietParts = s.quietParts := by cases s; rfl
@[simp] theorem State.updRun_fencedDies (s : State) (id : Nat) (f : DmaRun → DmaRun) : (s.updRun id f).fencedDies = s.fencedDies := by cases s; rfl
@[simp] theorem State.updRun_lostRails (s : State) (id : Nat) (f : DmaRun → DmaRun) : (s.updRun id f).lostRails = s.lostRails := by cases s; rfl
@[simp] theorem State.updRun_thermtrip (s : State) (id : Nat) (f : DmaRun → DmaRun) : (s.updRun id f).thermtrip = s.thermtrip := by cases s; rfl
@[simp] theorem State.updRun_chans (s : State) (id : Nat) (f : DmaRun → DmaRun) : (s.updRun id f).chans = s.chans := by cases s; rfl
@[simp] theorem State.updRun_fns (s : State) (id : Nat) (f : DmaRun → DmaRun) : (s.updRun id f).fns = s.fns := by cases s; rfl
@[simp] theorem State.updRun_bar2 (s : State) (id : Nat) (f : DmaRun → DmaRun) : (s.updRun id f).bar2 = s.bar2 := by cases s; rfl
@[simp] theorem State.updRun_held (s : State) (id : Nat) (f : DmaRun → DmaRun) : (s.updRun id f).held = s.held := by cases s; rfl
@[simp] theorem State.updRun_relayOut (s : State) (id : Nat) (f : DmaRun → DmaRun) : (s.updRun id f).relayOut = s.relayOut := by cases s; rfl
@[simp] theorem State.updRun_relayCtr (s : State) (id : Nat) (f : DmaRun → DmaRun) : (s.updRun id f).relayCtr = s.relayCtr := by cases s; rfl
@[simp] theorem State.updRun_boardSess (s : State) (id : Nat) (f : DmaRun → DmaRun) : (s.updRun id f).boardSess = s.boardSess := by cases s; rfl
@[simp] theorem State.updRun_i3c (s : State) (id : Nat) (f : DmaRun → DmaRun) : (s.updRun id f).i3c = s.i3c := by cases s; rfl
@[simp] theorem State.updRun_eid (s : State) (id : Nat) (f : DmaRun → DmaRun) : (s.updRun id f).eid = s.eid := by cases s; rfl
@[simp] theorem State.updRun_sensors (s : State) (id : Nat) (f : DmaRun → DmaRun) : (s.updRun id f).sensors = s.sensors := by cases s; rfl
@[simp] theorem State.updRun_agents (s : State) (id : Nat) (f : DmaRun → DmaRun) : (s.updRun id f).agents = s.agents := by cases s; rfl
@[simp] theorem State.updRun_ports (s : State) (id : Nat) (f : DmaRun → DmaRun) : (s.updRun id f).ports = s.ports := by cases s; rfl
@[simp] theorem State.updRun_transits (s : State) (id : Nat) (f : DmaRun → DmaRun) : (s.updRun id f).transits = s.transits := by cases s; rfl
@[simp] theorem State.updRun_d2d (s : State) (id : Nat) (f : DmaRun → DmaRun) : (s.updRun id f).d2d = s.d2d := by cases s; rfl
@[simp] theorem State.updRun_reserved (s : State) (id : Nat) (f : DmaRun → DmaRun) : (s.updRun id f).reserved = s.reserved := by cases s; rfl
@[simp] theorem State.updRun_tables (s : State) (id : Nat) (f : DmaRun → DmaRun) : (s.updRun id f).tables = s.tables := by cases s; rfl
@[simp] theorem State.updRun_d2dRuns (s : State) (id : Nat) (f : DmaRun → DmaRun) : (s.updRun id f).d2dRuns = s.d2dRuns := by cases s; rfl
@[simp] theorem State.updRun_xfers (s : State) (id : Nat) (f : DmaRun → DmaRun) : (s.updRun id f).xfers = s.xfers := by cases s; rfl
@[simp] theorem State.updRun_hotEngines (s : State) (id : Nat) (f : DmaRun → DmaRun) : (s.updRun id f).hotEngines = s.hotEngines := by cases s; rfl
@[simp] theorem State.updRun_boot (s : State) (id : Nat) (f : DmaRun → DmaRun) : (s.updRun id f).boot = s.boot := by cases s; rfl
@[simp] theorem State.updRun_plan (s : State) (id : Nat) (f : DmaRun → DmaRun) : (s.updRun id f).plan = s.plan := by cases s; rfl
@[simp] theorem State.updRun_bootPlan (s : State) (id : Nat) (f : DmaRun → DmaRun) : (s.updRun id f).bootPlan = s.bootPlan := by cases s; rfl
@[simp] theorem State.updRun_maxPlanSeq (s : State) (id : Nat) (f : DmaRun → DmaRun) : (s.updRun id f).maxPlanSeq = s.maxPlanSeq := by cases s; rfl
@[simp] theorem State.updRun_fwDigest (s : State) (id : Nat) (f : DmaRun → DmaRun) : (s.updRun id f).fwDigest = s.fwDigest := by cases s; rfl
@[simp] theorem State.updRun_fwComps (s : State) (id : Nat) (f : DmaRun → DmaRun) : (s.updRun id f).fwComps = s.fwComps := by cases s; rfl
@[simp] theorem State.updRun_flash (s : State) (id : Nat) (f : DmaRun → DmaRun) : (s.updRun id f).flash = s.flash := by cases s; rfl
@[simp] theorem State.updRun_fwStaged (s : State) (id : Nat) (f : DmaRun → DmaRun) : (s.updRun id f).fwStaged = s.fwStaged := by cases s; rfl
@[simp] theorem State.updRun_codeHeld (s : State) (id : Nat) (f : DmaRun → DmaRun) : (s.updRun id f).codeHeld = s.codeHeld := by cases s; rfl
@[simp] theorem State.updRun_codeStaged (s : State) (id : Nat) (f : DmaRun → DmaRun) : (s.updRun id f).codeStaged = s.codeStaged := by cases s; rfl
@[simp] theorem State.updRun_rcv (s : State) (id : Nat) (f : DmaRun → DmaRun) : (s.updRun id f).rcv = s.rcv := by cases s; rfl
@[simp] theorem State.updRun_dist (s : State) (id : Nat) (f : DmaRun → DmaRun) : (s.updRun id f).dist = s.dist := by cases s; rfl
@[simp] theorem State.updRun_mcReset (s : State) (id : Nat) (f : DmaRun → DmaRun) : (s.updRun id f).mcReset = s.mcReset := by cases s; rfl
@[simp] theorem State.updRun_dbgCounters (s : State) (id : Nat) (f : DmaRun → DmaRun) : (s.updRun id f).dbgCounters = s.dbgCounters := by cases s; rfl
@[simp] theorem State.updRun_unlocks (s : State) (id : Nat) (f : DmaRun → DmaRun) : (s.updRun id f).unlocks = s.unlocks := by cases s; rfl
@[simp] theorem State.updRun_power (s : State) (id : Nat) (f : DmaRun → DmaRun) : (s.updRun id f).power = s.power := by cases s; rfl
@[simp] theorem State.updRun_pkgPower (s : State) (id : Nat) (f : DmaRun → DmaRun) : (s.updRun id f).pkgPower = s.pkgPower := by cases s; rfl
@[simp] theorem State.updRun_ridge (s : State) (id : Nat) (f : DmaRun → DmaRun) : (s.updRun id f).ridge = s.ridge := by cases s; rfl
@[simp] theorem State.updRun_smt (s : State) (id : Nat) (f : DmaRun → DmaRun) : (s.updRun id f).smt = s.smt := by cases s; rfl
@[simp] theorem State.updRun_pairSess (s : State) (id : Nat) (f : DmaRun → DmaRun) : (s.updRun id f).pairSess = s.pairSess := by cases s; rfl
@[simp] theorem State.updRun_heldTerm (s : State) (id : Nat) (f : DmaRun → DmaRun) : (s.updRun id f).heldTerm = s.heldTerm := by cases s; rfl
@[simp] theorem State.updRun_heldBy (s : State) (id : Nat) (f : DmaRun → DmaRun) : (s.updRun id f).heldBy = s.heldBy := by cases s; rfl
@[simp] theorem State.updRun_rd (s : State) (id : Nat) (f : DmaRun → DmaRun) (za : Nat) : (s.updRun id f).rd za = s.rd za := by simp [State.rd]
@[simp] theorem State.updRun_fld (s : State) (id : Nat) (f : DmaRun → DmaRun) (zp : Page) (zf : Field) : (s.updRun id f).fld zp zf = s.fld zp zf := by simp [State.fld]
@[simp] theorem State.updRun_flag (s : State) (id : Nat) (f : DmaRun → DmaRun) (zp : Page) (zf : Field) : (s.updRun id f).flag zp zf = s.flag zp zf := by simp [State.flag]
@[simp] theorem State.updRun_counter (s : State) (id : Nat) (f : DmaRun → DmaRun) (zp : Page) (zoff : Nat) : (s.updRun id f).counter zp zoff = s.counter zp zoff := by unfold State.counter; rw [State.updRun_rd, State.updRun_rd]
@[simp] theorem State.updRun_counterOvf (s : State) (id : Nat) (f : DmaRun → DmaRun) (zp : Page) (zoff : Nat) : (s.updRun id f).counterOvf zp zoff = s.counterOvf zp zoff := by simp [State.counterOvf]
@[simp] theorem State.updRun_inReset (s : State) (id : Nat) (f : DmaRun → DmaRun) (zd : Die) : (s.updRun id f).inReset zd = s.inReset zd := by simp [State.inReset]
@[simp] theorem State.updRun_partState (s : State) (id : Nat) (f : DmaRun → DmaRun) (zp : Part) : (s.updRun id f).partState zp = s.partState zp := by simp [State.partState]
@[simp] theorem State.updRun_partFenced (s : State) (id : Nat) (f : DmaRun → DmaRun) (zp : Part) : (s.updRun id f).partFenced zp = s.partFenced zp := by simp [State.partFenced]
@[simp] theorem State.updRun_lnk (s : State) (id : Nat) (f : DmaRun → DmaRun) (zq : Port) : (s.updRun id f).lnk zq = s.lnk zq := by simp [State.lnk]
@[simp] theorem State.updRun_memRange (s : State) (id : Nat) (f : DmaRun → DmaRun) (zc : CDie) (zp : Part) (zi : Nat) : (s.updRun id f).memRange zc zp zi = s.memRange zc zp zi := by simp [State.memRange]
@[simp] theorem State.updRun_tarnAlloc (s : State) (id : Nat) (f : DmaRun → DmaRun) (zc : CDie) (zp : Part) : (s.updRun id f).tarnAlloc zc zp = s.tarnAlloc zc zp := by simp [State.tarnAlloc]
@[simp] theorem State.updRun_cairnRange (s : State) (id : Nat) (f : DmaRun → DmaRun) (zc : CDie) (zp : Part) : (s.updRun id f).cairnRange zc zp = s.cairnRange zc zp := by simp [State.cairnRange]
@[simp] theorem State.updRun_winOpen (s : State) (id : Nat) (f : DmaRun → DmaRun) (zp : Part) : (s.updRun id f).winOpen zp = s.winOpen zp := by simp [State.winOpen]
@[simp] theorem State.updRun_vfOn (s : State) (id : Nat) (f : DmaRun → DmaRun) (zp : Part) : (s.updRun id f).vfOn zp = s.vfOn zp := by simp [State.vfOn]
@[simp] theorem State.updRun_msfState (s : State) (id : Nat) (f : DmaRun → DmaRun) (zc : CDie) : (s.updRun id f).msfState zc = s.msfState zc := by simp [State.msfState]
@[simp] theorem State.updRun_stepK (s : State) (id : Nat) (f : DmaRun → DmaRun) (zc : CDie) : (s.updRun id f).stepK zc = s.stepK zc := by simp [State.stepK]
@[simp] theorem State.updRun_injection (s : State) (id : Nat) (f : DmaRun → DmaRun) (zp : Page) (zchecker : Nat) : (s.updRun id f).injection zp zchecker = s.injection zp zchecker := by simp [State.injection]
@[simp] theorem State.updRun_disc (s : State) (id : Nat) (f : DmaRun → DmaRun) : (s.updRun id f).disc = s.disc := by simp [State.disc]
@[simp] theorem State.updRun_pairSt (s : State) (id : Nat) (f : DmaRun → DmaRun) : (s.updRun id f).pairSt = s.pairSt := by simp [State.pairSt]
@[simp] theorem State.updRun_now (s : State) (id : Nat) (f : DmaRun → DmaRun) (zd : Die) : (s.updRun id f).now zd = s.now zd := by simp [State.now]
@[simp] theorem State.updRun_array (s : State) (id : Nat) (f : DmaRun → DmaRun) (zc : CDie) : (s.updRun id f).array zc = s.array zc := by simp [State.array]
@[simp] theorem State.updRun_queue (s : State) (id : Nat) (f : DmaRun → DmaRun) (zr : QRef) : (s.updRun id f).queue zr = s.queue zr := by simp [State.queue]
@[simp] theorem State.updRun_partQ (s : State) (id : Nat) (f : DmaRun → DmaRun) (zp : Part) : (s.updRun id f).part? zp = s.part? zp := by simp [State.part?]
@[simp] theorem State.updRun_isConf (s : State) (id : Nat) (f : DmaRun → DmaRun) (zp : Part) : (s.updRun id f).isConf zp = s.isConf zp := by simp [State.isConf]
@[simp] theorem State.updRun_chan (s : State) (id : Nat) (f : DmaRun → DmaRun) (zk : Nat) : (s.updRun id f).chan zk = s.chan zk := by simp [State.chan]
@[simp] theorem State.updRun_agent (s : State) (id : Nat) (f : DmaRun → DmaRun) (zk : PDie) : (s.updRun id f).agent zk = s.agent zk := by simp [State.agent]
@[simp] theorem State.updRun_port (s : State) (id : Nat) (f : DmaRun → DmaRun) (zq : Port) : (s.updRun id f).port zq = s.port zq := by simp [State.port]
@[simp] theorem State.updRun_core (s : State) (id : Nat) (f : DmaRun → DmaRun) (zc : CDie) (zk : Core) : (s.updRun id f).core zc zk = s.core zc zk := by simp [State.core]
@[simp] theorem State.updRun_cairn (s : State) (id : Nat) (f : DmaRun → DmaRun) (zc : CDie) (zn : Nat) : (s.updRun id f).cairn zc zn = s.cairn zc zn := by simp [State.cairn]
@[simp] theorem State.updRun_fn (s : State) (id : Nat) (f : DmaRun → DmaRun) (zf : Fn) : (s.updRun id f).fn zf = s.fn zf := by simp [State.fn]
@[simp] theorem State.updRun_wkey (s : State) (id : Nat) (f : DmaRun → DmaRun) (zp : Part) (zprev : Bool) : (s.updRun id f).wkey zp zprev = s.wkey zp zprev := by simp [State.wkey]
@[simp] theorem State.updRun_memByte (s : State) (id : Nat) (f : DmaRun → DmaRun) (zc : CDie) (zoff : Nat) : (s.updRun id f).memByte zc zoff = s.memByte zc zoff := by simp [State.memByte]
@[simp] theorem State.updRun_memGet (s : State) (id : Nat) (f : DmaRun → DmaRun) (zc : CDie) (zoff : Nat) (zn : Nat) : (s.updRun id f).memGet zc zoff zn = s.memGet zc zoff zn := by simp [State.memGet]
@[simp] theorem State.updRun_tarnByte (s : State) (id : Nat) (f : DmaRun → DmaRun) (zc : CDie) (zoff : Nat) : (s.updRun id f).tarnByte zc zoff = s.tarnByte zc zoff := by simp [State.tarnByte]
@[simp] theorem State.updRun_tarnGet (s : State) (id : Nat) (f : DmaRun → DmaRun) (zc : CDie) (zoff : Nat) (zn : Nat) : (s.updRun id f).tarnGet zc zoff zn = s.tarnGet zc zoff zn := by simp [State.tarnGet]
@[simp] theorem State.updRun_dieDown (s : State) (id : Nat) (f : DmaRun → DmaRun) (zc : CDie) : (s.updRun id f).dieDown zc = s.dieDown zc := by simp [State.dieDown]
@[simp] theorem State.updRun_nparts (s : State) (id : Nat) (f : DmaRun → DmaRun) : (s.updRun id f).nparts = s.nparts := by simp [State.nparts]
@[simp] theorem State.updRun_memWf (s : State) (id : Nat) (f : DmaRun → DmaRun) : (s.updRun id f).memWf = s.memWf := by simp [State.memWf]
@[simp] theorem State.updRun_quiet (s : State) (id : Nat) (f : DmaRun → DmaRun) : (s.updRun id f).quiet = s.quiet := by simp [State.quiet]
@[simp] theorem State.updRun_settled (s : State) (id : Nat) (f : DmaRun → DmaRun) : (s.updRun id f).settled = s.settled := by simp [State.settled]

/-! `updWindow` writes windows alone. -/

@[simp] theorem State.updWindow_pending (s : State) (c : CDie) (dest : Nat) (f : Window → Window) : (s.updWindow c dest f).pending = s.pending := by cases s; rfl
@[simp] theorem State.updWindow_out (s : State) (c : CDie) (dest : Nat) (f : Window → Window) : (s.updWindow c dest f).out = s.out := by cases s; rfl
@[simp] theorem State.updWindow_freeCtr (s : State) (c : CDie) (dest : Nat) (f : Window → Window) : (s.updWindow c dest f).freeCtr = s.freeCtr := by cases s; rfl
@[simp] theorem State.updWindow_mgmtOn (s : State) (c : CDie) (dest : Nat) (f : Window → Window) : (s.updWindow c dest f).mgmtOn = s.mgmtOn := by cases s; rfl
@[simp] theorem State.updWindow_fuses (s : State) (c : CDie) (dest : Nat) (f : Window → Window) : (s.updWindow c dest f).fuses = s.fuses := by cases s; rfl
@[simp] theorem State.updWindow_straps (s : State) (c : CDie) (dest : Nat) (f : Window → Window) : (s.updWindow c dest f).straps = s.straps := by cases s; rfl
@[simp] theorem State.updWindow_pos (s : State) (c : CDie) (dest : Nat) (f : Window → Window) : (s.updWindow c dest f).pos = s.pos := by cases s; rfl
@[simp] theorem State.updWindow_regs (s : State) (c : CDie) (dest : Nat) (f : Window → Window) : (s.updWindow c dest f).regs = s.regs := by cases s; rfl
@[simp] theorem State.updWindow_latches (s : State) (c : CDie) (dest : Nat) (f : Window → Window) : (s.updWindow c dest f).latches = s.latches := by cases s; rfl
@[simp] theorem State.updWindow_gtime (s : State) (c : CDie) (dest : Nat) (f : Window → Window) : (s.updWindow c dest f).gtime = s.gtime := by cases s; rfl
@[simp] theorem State.updWindow_fclk (s : State) (c : CDie) (dest : Nat) (f : Window → Window) : (s.updWindow c dest f).fclk = s.fclk := by cases s; rfl
@[simp] theorem State.updWindow_mem (s : State) (c : CDie) (dest : Nat) (f : Window → Window) : (s.updWindow c dest f).mem = s.mem := by cases s; rfl
@[simp] theorem State.updWindow_tarn (s : State) (c : CDie) (dest : Nat) (f : Window → Window) : (s.updWindow c dest f).tarn = s.tarn := by cases s; rfl
@[simp] theorem State.updWindow_rowErrs (s : State) (c : CDie) (dest : Nat) (f : Window → Window) : (s.updWindow c dest f).rowErrs = s.rowErrs := by cases s; rfl
@[simp] theorem State.updWindow_remaps (s : State) (c : CDie) (dest : Nat) (f : Window → Window) : (s.updWindow c dest f).remaps = s.remaps := by cases s; rfl
@[simp] theorem State.updWindow_savedRemaps (s : State) (c : CDie) (dest : Nat) (f : Window → Window) : (s.updWindow c dest f).savedRemaps = s.savedRemaps := by cases s; rfl
@[simp] theorem State.updWindow_repairLog (s : State) (c : CDie) (dest : Nat) (f : Window → Window) : (s.updWindow c dest f).repairLog = s.repairLog := by cases s; rfl
@[simp] theorem State.updWindow_badSectors (s : State) (c : CDie) (dest : Nat) (f : Window → Window) : (s.updWindow c dest f).badSectors = s.badSectors := by cases s; rfl
@[simp] theorem State.updWindow_memFenced (s : State) (c : CDie) (dest : Nat) (f : Window → Window) : (s.updWindow c dest f).memFenced = s.memFenced := by cases s; rfl
@[simp] theorem State.updWindow_mappedGran (s : State) (c : CDie) (dest : Nat) (f : Window → Window) : (s.updWindow c dest f).mappedGran = s.mappedGran := by cases s; rfl
@[simp] theorem State.updWindow_zeroOrders (s : State) (c : CDie) (dest : Nat) (f : Window → Window) : (s.updWindow c dest f).zeroOrders = s.zeroOrders := by cases s; rfl
@[simp] theorem State.updWindow_arrays (s : State) (c : CDie) (dest : Nat) (f : Window → Window) : (s.updWindow c dest f).arrays = s.arrays := by cases s; rfl
@[simp] theorem State.updWindow_repairLines (s : State) (c : CDie) (dest : Nat) (f : Window → Window) : (s.updWindow c dest f).repairLines = s.repairLines := by cases s; rfl
@[simp] theorem State.updWindow_queues (s : State) (c : CDie) (dest : Nat) (f : Window → Window) : (s.updWindow c dest f).queues = s.queues := by cases s; rfl
@[simp] theorem State.updWindow_cairns (s : State) (c : CDie) (dest : Nat) (f : Window → Window) : (s.updWindow c dest f).cairns = s.cairns := by cases s; rfl
@[simp] theorem State.updWindow_tracks (s : State) (c : CDie) (dest : Nat) (f : Window → Window) : (s.updWindow c dest f).tracks = s.tracks := by cases s; rfl
@[simp] theorem State.updWindow_cores (s : State) (c : CDie) (dest : Nat) (f : Window → Window) : (s.updWindow c dest f).cores = s.cores := by cases s; rfl
@[simp] theorem State.updWindow_dispatches (s : State) (c : CDie) (dest : Nat) (f : Window → Window) : (s.updWindow c dest f).dispatches = s.dispatches := by cases s; rfl
@[simp] theorem State.updWindow_dmaRuns (s : State) (c : CDie) (dest : Nat) (f : Window → Window) : (s.updWindow c dest f).dmaRuns = s.dmaRuns := by cases s; rfl
@[simp] theorem State.updWindow_requests (s : State) (c : CDie) (dest : Nat) (f : Window → Window) : (s.updWindow c dest f).requests = s.requests := by cases s; rfl
@[simp] theorem State.updWindow_respUse (s : State) (c : CDie) (dest : Nat) (f : Window → Window) : (s.updWindow c dest f).respUse = s.respUse := by cases s; rfl
@[simp] theorem State.updWindow_nextXid (s : State) (c : CDie) (dest : Nat) (f : Window → Window) : (s.updWindow c dest f).nextXid = s.nextXid := by cases s; rfl
@[simp] theorem State.updWindow_nextId (s : State) (c : CDie) (dest : Nat) (f : Window → Window) : (s.updWindow c dest f).nextId = s.nextId := by cases s; rfl
@[simp] theorem State.updWindow_parts (s : State) (c : CDie) (dest : Nat) (f : Window → Window) : (s.updWindow c dest f).parts = s.parts := by cases s; rfl
@[simp] theorem State.updWindow_wkeys (s : State) (c : CDie) (dest : Nat) (f : Window → Window) : (s.updWindow c dest f).wkeys = s.wkeys := by cases s; rfl
@[simp] theorem State.updWindow_staging (s : State) (c : CDie) (dest : Nat) (f : Window → Window) : (s.updWindow c dest f).staging = s.staging := by cases s; rfl
@[simp] theorem State.updWindow_fltLog (s : State) (c : CDie) (dest : Nat) (f : Window → Window) : (s.updWindow c dest f).fltLog = s.fltLog := by cases s; rfl
@[simp] theorem State.updWindow_recoveryTimes (s : State) (c : CDie) (dest : Nat) (f : Window → Window) : (s.updWindow c dest f).recoveryTimes = s.recoveryTimes := by cases s; rfl
@[simp] theorem State.updWindow_quietPages (s : State) (c : CDie) (dest : Nat) (f : Window → Window) : (s.updWindow c dest f).quietPages = s.quietPages := by cases s; rfl
@[simp] theorem State.updWindow_quietParts (s : State) (c : CDie) (dest : Nat) (f : Window → Window) : (s.updWindow c dest f).quietParts = s.quietParts := by cases s; rfl
@[simp] theorem State.updWindow_fencedDies (s : State) (c : CDie) (dest : Nat) (f : Window → Window) : (s.updWindow c dest f).fencedDies = s.fencedDies := by cases s; rfl
@[simp] theorem State.updWindow_lostRails (s : State) (c : CDie) (dest : Nat) (f : Window → Window) : (s.updWindow c dest f).lostRails = s.lostRails := by cases s; rfl
@[simp] theorem State.updWindow_thermtrip (s : State) (c : CDie) (dest : Nat) (f : Window → Window) : (s.updWindow c dest f).thermtrip = s.thermtrip := by cases s; rfl
@[simp] theorem State.updWindow_chans (s : State) (c : CDie) (dest : Nat) (f : Window → Window) : (s.updWindow c dest f).chans = s.chans := by cases s; rfl
@[simp] theorem State.updWindow_fns (s : State) (c : CDie) (dest : Nat) (f : Window → Window) : (s.updWindow c dest f).fns = s.fns := by cases s; rfl
@[simp] theorem State.updWindow_bar2 (s : State) (c : CDie) (dest : Nat) (f : Window → Window) : (s.updWindow c dest f).bar2 = s.bar2 := by cases s; rfl
@[simp] theorem State.updWindow_held (s : State) (c : CDie) (dest : Nat) (f : Window → Window) : (s.updWindow c dest f).held = s.held := by cases s; rfl
@[simp] theorem State.updWindow_relayOut (s : State) (c : CDie) (dest : Nat) (f : Window → Window) : (s.updWindow c dest f).relayOut = s.relayOut := by cases s; rfl
@[simp] theorem State.updWindow_relayCtr (s : State) (c : CDie) (dest : Nat) (f : Window → Window) : (s.updWindow c dest f).relayCtr = s.relayCtr := by cases s; rfl
@[simp] theorem State.updWindow_boardSess (s : State) (c : CDie) (dest : Nat) (f : Window → Window) : (s.updWindow c dest f).boardSess = s.boardSess := by cases s; rfl
@[simp] theorem State.updWindow_i3c (s : State) (c : CDie) (dest : Nat) (f : Window → Window) : (s.updWindow c dest f).i3c = s.i3c := by cases s; rfl
@[simp] theorem State.updWindow_eid (s : State) (c : CDie) (dest : Nat) (f : Window → Window) : (s.updWindow c dest f).eid = s.eid := by cases s; rfl
@[simp] theorem State.updWindow_sensors (s : State) (c : CDie) (dest : Nat) (f : Window → Window) : (s.updWindow c dest f).sensors = s.sensors := by cases s; rfl
@[simp] theorem State.updWindow_agents (s : State) (c : CDie) (dest : Nat) (f : Window → Window) : (s.updWindow c dest f).agents = s.agents := by cases s; rfl
@[simp] theorem State.updWindow_ports (s : State) (c : CDie) (dest : Nat) (f : Window → Window) : (s.updWindow c dest f).ports = s.ports := by cases s; rfl
@[simp] theorem State.updWindow_transits (s : State) (c : CDie) (dest : Nat) (f : Window → Window) : (s.updWindow c dest f).transits = s.transits := by cases s; rfl
@[simp] theorem State.updWindow_d2d (s : State) (c : CDie) (dest : Nat) (f : Window → Window) : (s.updWindow c dest f).d2d = s.d2d := by cases s; rfl
@[simp] theorem State.updWindow_reserved (s : State) (c : CDie) (dest : Nat) (f : Window → Window) : (s.updWindow c dest f).reserved = s.reserved := by cases s; rfl
@[simp] theorem State.updWindow_tables (s : State) (c : CDie) (dest : Nat) (f : Window → Window) : (s.updWindow c dest f).tables = s.tables := by cases s; rfl
@[simp] theorem State.updWindow_d2dRuns (s : State) (c : CDie) (dest : Nat) (f : Window → Window) : (s.updWindow c dest f).d2dRuns = s.d2dRuns := by cases s; rfl
@[simp] theorem State.updWindow_xfers (s : State) (c : CDie) (dest : Nat) (f : Window → Window) : (s.updWindow c dest f).xfers = s.xfers := by cases s; rfl
@[simp] theorem State.updWindow_hotEngines (s : State) (c : CDie) (dest : Nat) (f : Window → Window) : (s.updWindow c dest f).hotEngines = s.hotEngines := by cases s; rfl
@[simp] theorem State.updWindow_boot (s : State) (c : CDie) (dest : Nat) (f : Window → Window) : (s.updWindow c dest f).boot = s.boot := by cases s; rfl
@[simp] theorem State.updWindow_plan (s : State) (c : CDie) (dest : Nat) (f : Window → Window) : (s.updWindow c dest f).plan = s.plan := by cases s; rfl
@[simp] theorem State.updWindow_bootPlan (s : State) (c : CDie) (dest : Nat) (f : Window → Window) : (s.updWindow c dest f).bootPlan = s.bootPlan := by cases s; rfl
@[simp] theorem State.updWindow_maxPlanSeq (s : State) (c : CDie) (dest : Nat) (f : Window → Window) : (s.updWindow c dest f).maxPlanSeq = s.maxPlanSeq := by cases s; rfl
@[simp] theorem State.updWindow_fwDigest (s : State) (c : CDie) (dest : Nat) (f : Window → Window) : (s.updWindow c dest f).fwDigest = s.fwDigest := by cases s; rfl
@[simp] theorem State.updWindow_fwComps (s : State) (c : CDie) (dest : Nat) (f : Window → Window) : (s.updWindow c dest f).fwComps = s.fwComps := by cases s; rfl
@[simp] theorem State.updWindow_flash (s : State) (c : CDie) (dest : Nat) (f : Window → Window) : (s.updWindow c dest f).flash = s.flash := by cases s; rfl
@[simp] theorem State.updWindow_fwStaged (s : State) (c : CDie) (dest : Nat) (f : Window → Window) : (s.updWindow c dest f).fwStaged = s.fwStaged := by cases s; rfl
@[simp] theorem State.updWindow_codeHeld (s : State) (c : CDie) (dest : Nat) (f : Window → Window) : (s.updWindow c dest f).codeHeld = s.codeHeld := by cases s; rfl
@[simp] theorem State.updWindow_codeStaged (s : State) (c : CDie) (dest : Nat) (f : Window → Window) : (s.updWindow c dest f).codeStaged = s.codeStaged := by cases s; rfl
@[simp] theorem State.updWindow_rcv (s : State) (c : CDie) (dest : Nat) (f : Window → Window) : (s.updWindow c dest f).rcv = s.rcv := by cases s; rfl
@[simp] theorem State.updWindow_dist (s : State) (c : CDie) (dest : Nat) (f : Window → Window) : (s.updWindow c dest f).dist = s.dist := by cases s; rfl
@[simp] theorem State.updWindow_mcReset (s : State) (c : CDie) (dest : Nat) (f : Window → Window) : (s.updWindow c dest f).mcReset = s.mcReset := by cases s; rfl
@[simp] theorem State.updWindow_dbgCounters (s : State) (c : CDie) (dest : Nat) (f : Window → Window) : (s.updWindow c dest f).dbgCounters = s.dbgCounters := by cases s; rfl
@[simp] theorem State.updWindow_unlocks (s : State) (c : CDie) (dest : Nat) (f : Window → Window) : (s.updWindow c dest f).unlocks = s.unlocks := by cases s; rfl
@[simp] theorem State.updWindow_power (s : State) (c : CDie) (dest : Nat) (f : Window → Window) : (s.updWindow c dest f).power = s.power := by cases s; rfl
@[simp] theorem State.updWindow_pkgPower (s : State) (c : CDie) (dest : Nat) (f : Window → Window) : (s.updWindow c dest f).pkgPower = s.pkgPower := by cases s; rfl
@[simp] theorem State.updWindow_ridge (s : State) (c : CDie) (dest : Nat) (f : Window → Window) : (s.updWindow c dest f).ridge = s.ridge := by cases s; rfl
@[simp] theorem State.updWindow_smt (s : State) (c : CDie) (dest : Nat) (f : Window → Window) : (s.updWindow c dest f).smt = s.smt := by cases s; rfl
@[simp] theorem State.updWindow_pairSess (s : State) (c : CDie) (dest : Nat) (f : Window → Window) : (s.updWindow c dest f).pairSess = s.pairSess := by cases s; rfl
@[simp] theorem State.updWindow_heldTerm (s : State) (c : CDie) (dest : Nat) (f : Window → Window) : (s.updWindow c dest f).heldTerm = s.heldTerm := by cases s; rfl
@[simp] theorem State.updWindow_heldBy (s : State) (c : CDie) (dest : Nat) (f : Window → Window) : (s.updWindow c dest f).heldBy = s.heldBy := by cases s; rfl
@[simp] theorem State.updWindow_rd (s : State) (c : CDie) (dest : Nat) (f : Window → Window) (za : Nat) : (s.updWindow c dest f).rd za = s.rd za := by simp [State.rd]
@[simp] theorem State.updWindow_fld (s : State) (c : CDie) (dest : Nat) (f : Window → Window) (zp : Page) (zf : Field) : (s.updWindow c dest f).fld zp zf = s.fld zp zf := by simp [State.fld]
@[simp] theorem State.updWindow_flag (s : State) (c : CDie) (dest : Nat) (f : Window → Window) (zp : Page) (zf : Field) : (s.updWindow c dest f).flag zp zf = s.flag zp zf := by simp [State.flag]
@[simp] theorem State.updWindow_counter (s : State) (c : CDie) (dest : Nat) (f : Window → Window) (zp : Page) (zoff : Nat) : (s.updWindow c dest f).counter zp zoff = s.counter zp zoff := by unfold State.counter; rw [State.updWindow_rd, State.updWindow_rd]
@[simp] theorem State.updWindow_counterOvf (s : State) (c : CDie) (dest : Nat) (f : Window → Window) (zp : Page) (zoff : Nat) : (s.updWindow c dest f).counterOvf zp zoff = s.counterOvf zp zoff := by simp [State.counterOvf]
@[simp] theorem State.updWindow_inReset (s : State) (c : CDie) (dest : Nat) (f : Window → Window) (zd : Die) : (s.updWindow c dest f).inReset zd = s.inReset zd := by simp [State.inReset]
@[simp] theorem State.updWindow_partState (s : State) (c : CDie) (dest : Nat) (f : Window → Window) (zp : Part) : (s.updWindow c dest f).partState zp = s.partState zp := by simp [State.partState]
@[simp] theorem State.updWindow_partFenced (s : State) (c : CDie) (dest : Nat) (f : Window → Window) (zp : Part) : (s.updWindow c dest f).partFenced zp = s.partFenced zp := by simp [State.partFenced]
@[simp] theorem State.updWindow_lnk (s : State) (c : CDie) (dest : Nat) (f : Window → Window) (zq : Port) : (s.updWindow c dest f).lnk zq = s.lnk zq := by simp [State.lnk]
@[simp] theorem State.updWindow_memRange (s : State) (c : CDie) (dest : Nat) (f : Window → Window) (zc : CDie) (zp : Part) (zi : Nat) : (s.updWindow c dest f).memRange zc zp zi = s.memRange zc zp zi := by simp [State.memRange]
@[simp] theorem State.updWindow_tarnAlloc (s : State) (c : CDie) (dest : Nat) (f : Window → Window) (zc : CDie) (zp : Part) : (s.updWindow c dest f).tarnAlloc zc zp = s.tarnAlloc zc zp := by simp [State.tarnAlloc]
@[simp] theorem State.updWindow_cairnRange (s : State) (c : CDie) (dest : Nat) (f : Window → Window) (zc : CDie) (zp : Part) : (s.updWindow c dest f).cairnRange zc zp = s.cairnRange zc zp := by simp [State.cairnRange]
@[simp] theorem State.updWindow_winOpen (s : State) (c : CDie) (dest : Nat) (f : Window → Window) (zp : Part) : (s.updWindow c dest f).winOpen zp = s.winOpen zp := by simp [State.winOpen]
@[simp] theorem State.updWindow_vfOn (s : State) (c : CDie) (dest : Nat) (f : Window → Window) (zp : Part) : (s.updWindow c dest f).vfOn zp = s.vfOn zp := by simp [State.vfOn]
@[simp] theorem State.updWindow_msfState (s : State) (c : CDie) (dest : Nat) (f : Window → Window) (zc : CDie) : (s.updWindow c dest f).msfState zc = s.msfState zc := by simp [State.msfState]
@[simp] theorem State.updWindow_stepK (s : State) (c : CDie) (dest : Nat) (f : Window → Window) (zc : CDie) : (s.updWindow c dest f).stepK zc = s.stepK zc := by simp [State.stepK]
@[simp] theorem State.updWindow_injection (s : State) (c : CDie) (dest : Nat) (f : Window → Window) (zp : Page) (zchecker : Nat) : (s.updWindow c dest f).injection zp zchecker = s.injection zp zchecker := by simp [State.injection]
@[simp] theorem State.updWindow_disc (s : State) (c : CDie) (dest : Nat) (f : Window → Window) : (s.updWindow c dest f).disc = s.disc := by simp [State.disc]
@[simp] theorem State.updWindow_pairSt (s : State) (c : CDie) (dest : Nat) (f : Window → Window) : (s.updWindow c dest f).pairSt = s.pairSt := by simp [State.pairSt]
@[simp] theorem State.updWindow_now (s : State) (c : CDie) (dest : Nat) (f : Window → Window) (zd : Die) : (s.updWindow c dest f).now zd = s.now zd := by simp [State.now]
@[simp] theorem State.updWindow_array (s : State) (c : CDie) (dest : Nat) (f : Window → Window) (zc : CDie) : (s.updWindow c dest f).array zc = s.array zc := by simp [State.array]
@[simp] theorem State.updWindow_queue (s : State) (c : CDie) (dest : Nat) (f : Window → Window) (zr : QRef) : (s.updWindow c dest f).queue zr = s.queue zr := by simp [State.queue]
@[simp] theorem State.updWindow_partQ (s : State) (c : CDie) (dest : Nat) (f : Window → Window) (zp : Part) : (s.updWindow c dest f).part? zp = s.part? zp := by simp [State.part?]
@[simp] theorem State.updWindow_isConf (s : State) (c : CDie) (dest : Nat) (f : Window → Window) (zp : Part) : (s.updWindow c dest f).isConf zp = s.isConf zp := by simp [State.isConf]
@[simp] theorem State.updWindow_chan (s : State) (c : CDie) (dest : Nat) (f : Window → Window) (zk : Nat) : (s.updWindow c dest f).chan zk = s.chan zk := by simp [State.chan]
@[simp] theorem State.updWindow_agent (s : State) (c : CDie) (dest : Nat) (f : Window → Window) (zk : PDie) : (s.updWindow c dest f).agent zk = s.agent zk := by simp [State.agent]
@[simp] theorem State.updWindow_port (s : State) (c : CDie) (dest : Nat) (f : Window → Window) (zq : Port) : (s.updWindow c dest f).port zq = s.port zq := by simp [State.port]
@[simp] theorem State.updWindow_core (s : State) (c : CDie) (dest : Nat) (f : Window → Window) (zc : CDie) (zk : Core) : (s.updWindow c dest f).core zc zk = s.core zc zk := by simp [State.core]
@[simp] theorem State.updWindow_cairn (s : State) (c : CDie) (dest : Nat) (f : Window → Window) (zc : CDie) (zn : Nat) : (s.updWindow c dest f).cairn zc zn = s.cairn zc zn := by simp [State.cairn]
@[simp] theorem State.updWindow_fn (s : State) (c : CDie) (dest : Nat) (f : Window → Window) (zf : Fn) : (s.updWindow c dest f).fn zf = s.fn zf := by simp [State.fn]
@[simp] theorem State.updWindow_wkey (s : State) (c : CDie) (dest : Nat) (f : Window → Window) (zp : Part) (zprev : Bool) : (s.updWindow c dest f).wkey zp zprev = s.wkey zp zprev := by simp [State.wkey]
@[simp] theorem State.updWindow_memByte (s : State) (c : CDie) (dest : Nat) (f : Window → Window) (zc : CDie) (zoff : Nat) : (s.updWindow c dest f).memByte zc zoff = s.memByte zc zoff := by simp [State.memByte]
@[simp] theorem State.updWindow_memGet (s : State) (c : CDie) (dest : Nat) (f : Window → Window) (zc : CDie) (zoff : Nat) (zn : Nat) : (s.updWindow c dest f).memGet zc zoff zn = s.memGet zc zoff zn := by simp [State.memGet]
@[simp] theorem State.updWindow_tarnByte (s : State) (c : CDie) (dest : Nat) (f : Window → Window) (zc : CDie) (zoff : Nat) : (s.updWindow c dest f).tarnByte zc zoff = s.tarnByte zc zoff := by simp [State.tarnByte]
@[simp] theorem State.updWindow_tarnGet (s : State) (c : CDie) (dest : Nat) (f : Window → Window) (zc : CDie) (zoff : Nat) (zn : Nat) : (s.updWindow c dest f).tarnGet zc zoff zn = s.tarnGet zc zoff zn := by simp [State.tarnGet]
@[simp] theorem State.updWindow_dieDown (s : State) (c : CDie) (dest : Nat) (f : Window → Window) (zc : CDie) : (s.updWindow c dest f).dieDown zc = s.dieDown zc := by simp [State.dieDown]
@[simp] theorem State.updWindow_nparts (s : State) (c : CDie) (dest : Nat) (f : Window → Window) : (s.updWindow c dest f).nparts = s.nparts := by simp [State.nparts]
@[simp] theorem State.updWindow_memWf (s : State) (c : CDie) (dest : Nat) (f : Window → Window) : (s.updWindow c dest f).memWf = s.memWf := by simp [State.memWf]
@[simp] theorem State.updWindow_quiet (s : State) (c : CDie) (dest : Nat) (f : Window → Window) : (s.updWindow c dest f).quiet = s.quiet := by simp [State.quiet]
@[simp] theorem State.updWindow_settled (s : State) (c : CDie) (dest : Nat) (f : Window → Window) : (s.updWindow c dest f).settled = s.settled := by simp [State.settled]

/-! `updDispatch` writes dispatches alone. -/

@[simp] theorem State.updDispatch_pending (s : State) (id : Nat) (f : Dispatch → Dispatch) : (s.updDispatch id f).pending = s.pending := by cases s; rfl
@[simp] theorem State.updDispatch_out (s : State) (id : Nat) (f : Dispatch → Dispatch) : (s.updDispatch id f).out = s.out := by cases s; rfl
@[simp] theorem State.updDispatch_freeCtr (s : State) (id : Nat) (f : Dispatch → Dispatch) : (s.updDispatch id f).freeCtr = s.freeCtr := by cases s; rfl
@[simp] theorem State.updDispatch_mgmtOn (s : State) (id : Nat) (f : Dispatch → Dispatch) : (s.updDispatch id f).mgmtOn = s.mgmtOn := by cases s; rfl
@[simp] theorem State.updDispatch_fuses (s : State) (id : Nat) (f : Dispatch → Dispatch) : (s.updDispatch id f).fuses = s.fuses := by cases s; rfl
@[simp] theorem State.updDispatch_straps (s : State) (id : Nat) (f : Dispatch → Dispatch) : (s.updDispatch id f).straps = s.straps := by cases s; rfl
@[simp] theorem State.updDispatch_pos (s : State) (id : Nat) (f : Dispatch → Dispatch) : (s.updDispatch id f).pos = s.pos := by cases s; rfl
@[simp] theorem State.updDispatch_regs (s : State) (id : Nat) (f : Dispatch → Dispatch) : (s.updDispatch id f).regs = s.regs := by cases s; rfl
@[simp] theorem State.updDispatch_latches (s : State) (id : Nat) (f : Dispatch → Dispatch) : (s.updDispatch id f).latches = s.latches := by cases s; rfl
@[simp] theorem State.updDispatch_gtime (s : State) (id : Nat) (f : Dispatch → Dispatch) : (s.updDispatch id f).gtime = s.gtime := by cases s; rfl
@[simp] theorem State.updDispatch_fclk (s : State) (id : Nat) (f : Dispatch → Dispatch) : (s.updDispatch id f).fclk = s.fclk := by cases s; rfl
@[simp] theorem State.updDispatch_mem (s : State) (id : Nat) (f : Dispatch → Dispatch) : (s.updDispatch id f).mem = s.mem := by cases s; rfl
@[simp] theorem State.updDispatch_tarn (s : State) (id : Nat) (f : Dispatch → Dispatch) : (s.updDispatch id f).tarn = s.tarn := by cases s; rfl
@[simp] theorem State.updDispatch_rowErrs (s : State) (id : Nat) (f : Dispatch → Dispatch) : (s.updDispatch id f).rowErrs = s.rowErrs := by cases s; rfl
@[simp] theorem State.updDispatch_remaps (s : State) (id : Nat) (f : Dispatch → Dispatch) : (s.updDispatch id f).remaps = s.remaps := by cases s; rfl
@[simp] theorem State.updDispatch_savedRemaps (s : State) (id : Nat) (f : Dispatch → Dispatch) : (s.updDispatch id f).savedRemaps = s.savedRemaps := by cases s; rfl
@[simp] theorem State.updDispatch_repairLog (s : State) (id : Nat) (f : Dispatch → Dispatch) : (s.updDispatch id f).repairLog = s.repairLog := by cases s; rfl
@[simp] theorem State.updDispatch_badSectors (s : State) (id : Nat) (f : Dispatch → Dispatch) : (s.updDispatch id f).badSectors = s.badSectors := by cases s; rfl
@[simp] theorem State.updDispatch_memFenced (s : State) (id : Nat) (f : Dispatch → Dispatch) : (s.updDispatch id f).memFenced = s.memFenced := by cases s; rfl
@[simp] theorem State.updDispatch_mappedGran (s : State) (id : Nat) (f : Dispatch → Dispatch) : (s.updDispatch id f).mappedGran = s.mappedGran := by cases s; rfl
@[simp] theorem State.updDispatch_zeroOrders (s : State) (id : Nat) (f : Dispatch → Dispatch) : (s.updDispatch id f).zeroOrders = s.zeroOrders := by cases s; rfl
@[simp] theorem State.updDispatch_arrays (s : State) (id : Nat) (f : Dispatch → Dispatch) : (s.updDispatch id f).arrays = s.arrays := by cases s; rfl
@[simp] theorem State.updDispatch_repairLines (s : State) (id : Nat) (f : Dispatch → Dispatch) : (s.updDispatch id f).repairLines = s.repairLines := by cases s; rfl
@[simp] theorem State.updDispatch_queues (s : State) (id : Nat) (f : Dispatch → Dispatch) : (s.updDispatch id f).queues = s.queues := by cases s; rfl
@[simp] theorem State.updDispatch_cairns (s : State) (id : Nat) (f : Dispatch → Dispatch) : (s.updDispatch id f).cairns = s.cairns := by cases s; rfl
@[simp] theorem State.updDispatch_tracks (s : State) (id : Nat) (f : Dispatch → Dispatch) : (s.updDispatch id f).tracks = s.tracks := by cases s; rfl
@[simp] theorem State.updDispatch_cores (s : State) (id : Nat) (f : Dispatch → Dispatch) : (s.updDispatch id f).cores = s.cores := by cases s; rfl
@[simp] theorem State.updDispatch_dmaRuns (s : State) (id : Nat) (f : Dispatch → Dispatch) : (s.updDispatch id f).dmaRuns = s.dmaRuns := by cases s; rfl
@[simp] theorem State.updDispatch_requests (s : State) (id : Nat) (f : Dispatch → Dispatch) : (s.updDispatch id f).requests = s.requests := by cases s; rfl
@[simp] theorem State.updDispatch_windows (s : State) (id : Nat) (f : Dispatch → Dispatch) : (s.updDispatch id f).windows = s.windows := by cases s; rfl
@[simp] theorem State.updDispatch_respUse (s : State) (id : Nat) (f : Dispatch → Dispatch) : (s.updDispatch id f).respUse = s.respUse := by cases s; rfl
@[simp] theorem State.updDispatch_nextXid (s : State) (id : Nat) (f : Dispatch → Dispatch) : (s.updDispatch id f).nextXid = s.nextXid := by cases s; rfl
@[simp] theorem State.updDispatch_nextId (s : State) (id : Nat) (f : Dispatch → Dispatch) : (s.updDispatch id f).nextId = s.nextId := by cases s; rfl
@[simp] theorem State.updDispatch_parts (s : State) (id : Nat) (f : Dispatch → Dispatch) : (s.updDispatch id f).parts = s.parts := by cases s; rfl
@[simp] theorem State.updDispatch_wkeys (s : State) (id : Nat) (f : Dispatch → Dispatch) : (s.updDispatch id f).wkeys = s.wkeys := by cases s; rfl
@[simp] theorem State.updDispatch_staging (s : State) (id : Nat) (f : Dispatch → Dispatch) : (s.updDispatch id f).staging = s.staging := by cases s; rfl
@[simp] theorem State.updDispatch_fltLog (s : State) (id : Nat) (f : Dispatch → Dispatch) : (s.updDispatch id f).fltLog = s.fltLog := by cases s; rfl
@[simp] theorem State.updDispatch_recoveryTimes (s : State) (id : Nat) (f : Dispatch → Dispatch) : (s.updDispatch id f).recoveryTimes = s.recoveryTimes := by cases s; rfl
@[simp] theorem State.updDispatch_quietPages (s : State) (id : Nat) (f : Dispatch → Dispatch) : (s.updDispatch id f).quietPages = s.quietPages := by cases s; rfl
@[simp] theorem State.updDispatch_quietParts (s : State) (id : Nat) (f : Dispatch → Dispatch) : (s.updDispatch id f).quietParts = s.quietParts := by cases s; rfl
@[simp] theorem State.updDispatch_fencedDies (s : State) (id : Nat) (f : Dispatch → Dispatch) : (s.updDispatch id f).fencedDies = s.fencedDies := by cases s; rfl
@[simp] theorem State.updDispatch_lostRails (s : State) (id : Nat) (f : Dispatch → Dispatch) : (s.updDispatch id f).lostRails = s.lostRails := by cases s; rfl
@[simp] theorem State.updDispatch_thermtrip (s : State) (id : Nat) (f : Dispatch → Dispatch) : (s.updDispatch id f).thermtrip = s.thermtrip := by cases s; rfl
@[simp] theorem State.updDispatch_chans (s : State) (id : Nat) (f : Dispatch → Dispatch) : (s.updDispatch id f).chans = s.chans := by cases s; rfl
@[simp] theorem State.updDispatch_fns (s : State) (id : Nat) (f : Dispatch → Dispatch) : (s.updDispatch id f).fns = s.fns := by cases s; rfl
@[simp] theorem State.updDispatch_bar2 (s : State) (id : Nat) (f : Dispatch → Dispatch) : (s.updDispatch id f).bar2 = s.bar2 := by cases s; rfl
@[simp] theorem State.updDispatch_held (s : State) (id : Nat) (f : Dispatch → Dispatch) : (s.updDispatch id f).held = s.held := by cases s; rfl
@[simp] theorem State.updDispatch_relayOut (s : State) (id : Nat) (f : Dispatch → Dispatch) : (s.updDispatch id f).relayOut = s.relayOut := by cases s; rfl
@[simp] theorem State.updDispatch_relayCtr (s : State) (id : Nat) (f : Dispatch → Dispatch) : (s.updDispatch id f).relayCtr = s.relayCtr := by cases s; rfl
@[simp] theorem State.updDispatch_boardSess (s : State) (id : Nat) (f : Dispatch → Dispatch) : (s.updDispatch id f).boardSess = s.boardSess := by cases s; rfl
@[simp] theorem State.updDispatch_i3c (s : State) (id : Nat) (f : Dispatch → Dispatch) : (s.updDispatch id f).i3c = s.i3c := by cases s; rfl
@[simp] theorem State.updDispatch_eid (s : State) (id : Nat) (f : Dispatch → Dispatch) : (s.updDispatch id f).eid = s.eid := by cases s; rfl
@[simp] theorem State.updDispatch_sensors (s : State) (id : Nat) (f : Dispatch → Dispatch) : (s.updDispatch id f).sensors = s.sensors := by cases s; rfl
@[simp] theorem State.updDispatch_agents (s : State) (id : Nat) (f : Dispatch → Dispatch) : (s.updDispatch id f).agents = s.agents := by cases s; rfl
@[simp] theorem State.updDispatch_ports (s : State) (id : Nat) (f : Dispatch → Dispatch) : (s.updDispatch id f).ports = s.ports := by cases s; rfl
@[simp] theorem State.updDispatch_transits (s : State) (id : Nat) (f : Dispatch → Dispatch) : (s.updDispatch id f).transits = s.transits := by cases s; rfl
@[simp] theorem State.updDispatch_d2d (s : State) (id : Nat) (f : Dispatch → Dispatch) : (s.updDispatch id f).d2d = s.d2d := by cases s; rfl
@[simp] theorem State.updDispatch_reserved (s : State) (id : Nat) (f : Dispatch → Dispatch) : (s.updDispatch id f).reserved = s.reserved := by cases s; rfl
@[simp] theorem State.updDispatch_tables (s : State) (id : Nat) (f : Dispatch → Dispatch) : (s.updDispatch id f).tables = s.tables := by cases s; rfl
@[simp] theorem State.updDispatch_d2dRuns (s : State) (id : Nat) (f : Dispatch → Dispatch) : (s.updDispatch id f).d2dRuns = s.d2dRuns := by cases s; rfl
@[simp] theorem State.updDispatch_xfers (s : State) (id : Nat) (f : Dispatch → Dispatch) : (s.updDispatch id f).xfers = s.xfers := by cases s; rfl
@[simp] theorem State.updDispatch_hotEngines (s : State) (id : Nat) (f : Dispatch → Dispatch) : (s.updDispatch id f).hotEngines = s.hotEngines := by cases s; rfl
@[simp] theorem State.updDispatch_boot (s : State) (id : Nat) (f : Dispatch → Dispatch) : (s.updDispatch id f).boot = s.boot := by cases s; rfl
@[simp] theorem State.updDispatch_plan (s : State) (id : Nat) (f : Dispatch → Dispatch) : (s.updDispatch id f).plan = s.plan := by cases s; rfl
@[simp] theorem State.updDispatch_bootPlan (s : State) (id : Nat) (f : Dispatch → Dispatch) : (s.updDispatch id f).bootPlan = s.bootPlan := by cases s; rfl
@[simp] theorem State.updDispatch_maxPlanSeq (s : State) (id : Nat) (f : Dispatch → Dispatch) : (s.updDispatch id f).maxPlanSeq = s.maxPlanSeq := by cases s; rfl
@[simp] theorem State.updDispatch_fwDigest (s : State) (id : Nat) (f : Dispatch → Dispatch) : (s.updDispatch id f).fwDigest = s.fwDigest := by cases s; rfl
@[simp] theorem State.updDispatch_fwComps (s : State) (id : Nat) (f : Dispatch → Dispatch) : (s.updDispatch id f).fwComps = s.fwComps := by cases s; rfl
@[simp] theorem State.updDispatch_flash (s : State) (id : Nat) (f : Dispatch → Dispatch) : (s.updDispatch id f).flash = s.flash := by cases s; rfl
@[simp] theorem State.updDispatch_fwStaged (s : State) (id : Nat) (f : Dispatch → Dispatch) : (s.updDispatch id f).fwStaged = s.fwStaged := by cases s; rfl
@[simp] theorem State.updDispatch_codeHeld (s : State) (id : Nat) (f : Dispatch → Dispatch) : (s.updDispatch id f).codeHeld = s.codeHeld := by cases s; rfl
@[simp] theorem State.updDispatch_codeStaged (s : State) (id : Nat) (f : Dispatch → Dispatch) : (s.updDispatch id f).codeStaged = s.codeStaged := by cases s; rfl
@[simp] theorem State.updDispatch_rcv (s : State) (id : Nat) (f : Dispatch → Dispatch) : (s.updDispatch id f).rcv = s.rcv := by cases s; rfl
@[simp] theorem State.updDispatch_dist (s : State) (id : Nat) (f : Dispatch → Dispatch) : (s.updDispatch id f).dist = s.dist := by cases s; rfl
@[simp] theorem State.updDispatch_mcReset (s : State) (id : Nat) (f : Dispatch → Dispatch) : (s.updDispatch id f).mcReset = s.mcReset := by cases s; rfl
@[simp] theorem State.updDispatch_dbgCounters (s : State) (id : Nat) (f : Dispatch → Dispatch) : (s.updDispatch id f).dbgCounters = s.dbgCounters := by cases s; rfl
@[simp] theorem State.updDispatch_unlocks (s : State) (id : Nat) (f : Dispatch → Dispatch) : (s.updDispatch id f).unlocks = s.unlocks := by cases s; rfl
@[simp] theorem State.updDispatch_power (s : State) (id : Nat) (f : Dispatch → Dispatch) : (s.updDispatch id f).power = s.power := by cases s; rfl
@[simp] theorem State.updDispatch_pkgPower (s : State) (id : Nat) (f : Dispatch → Dispatch) : (s.updDispatch id f).pkgPower = s.pkgPower := by cases s; rfl
@[simp] theorem State.updDispatch_ridge (s : State) (id : Nat) (f : Dispatch → Dispatch) : (s.updDispatch id f).ridge = s.ridge := by cases s; rfl
@[simp] theorem State.updDispatch_smt (s : State) (id : Nat) (f : Dispatch → Dispatch) : (s.updDispatch id f).smt = s.smt := by cases s; rfl
@[simp] theorem State.updDispatch_pairSess (s : State) (id : Nat) (f : Dispatch → Dispatch) : (s.updDispatch id f).pairSess = s.pairSess := by cases s; rfl
@[simp] theorem State.updDispatch_heldTerm (s : State) (id : Nat) (f : Dispatch → Dispatch) : (s.updDispatch id f).heldTerm = s.heldTerm := by cases s; rfl
@[simp] theorem State.updDispatch_heldBy (s : State) (id : Nat) (f : Dispatch → Dispatch) : (s.updDispatch id f).heldBy = s.heldBy := by cases s; rfl
@[simp] theorem State.updDispatch_rd (s : State) (id : Nat) (f : Dispatch → Dispatch) (za : Nat) : (s.updDispatch id f).rd za = s.rd za := by simp [State.rd]
@[simp] theorem State.updDispatch_fld (s : State) (id : Nat) (f : Dispatch → Dispatch) (zp : Page) (zf : Field) : (s.updDispatch id f).fld zp zf = s.fld zp zf := by simp [State.fld]
@[simp] theorem State.updDispatch_flag (s : State) (id : Nat) (f : Dispatch → Dispatch) (zp : Page) (zf : Field) : (s.updDispatch id f).flag zp zf = s.flag zp zf := by simp [State.flag]
@[simp] theorem State.updDispatch_counter (s : State) (id : Nat) (f : Dispatch → Dispatch) (zp : Page) (zoff : Nat) : (s.updDispatch id f).counter zp zoff = s.counter zp zoff := by unfold State.counter; rw [State.updDispatch_rd, State.updDispatch_rd]
@[simp] theorem State.updDispatch_counterOvf (s : State) (id : Nat) (f : Dispatch → Dispatch) (zp : Page) (zoff : Nat) : (s.updDispatch id f).counterOvf zp zoff = s.counterOvf zp zoff := by simp [State.counterOvf]
@[simp] theorem State.updDispatch_inReset (s : State) (id : Nat) (f : Dispatch → Dispatch) (zd : Die) : (s.updDispatch id f).inReset zd = s.inReset zd := by simp [State.inReset]
@[simp] theorem State.updDispatch_partState (s : State) (id : Nat) (f : Dispatch → Dispatch) (zp : Part) : (s.updDispatch id f).partState zp = s.partState zp := by simp [State.partState]
@[simp] theorem State.updDispatch_partFenced (s : State) (id : Nat) (f : Dispatch → Dispatch) (zp : Part) : (s.updDispatch id f).partFenced zp = s.partFenced zp := by simp [State.partFenced]
@[simp] theorem State.updDispatch_lnk (s : State) (id : Nat) (f : Dispatch → Dispatch) (zq : Port) : (s.updDispatch id f).lnk zq = s.lnk zq := by simp [State.lnk]
@[simp] theorem State.updDispatch_memRange (s : State) (id : Nat) (f : Dispatch → Dispatch) (zc : CDie) (zp : Part) (zi : Nat) : (s.updDispatch id f).memRange zc zp zi = s.memRange zc zp zi := by simp [State.memRange]
@[simp] theorem State.updDispatch_tarnAlloc (s : State) (id : Nat) (f : Dispatch → Dispatch) (zc : CDie) (zp : Part) : (s.updDispatch id f).tarnAlloc zc zp = s.tarnAlloc zc zp := by simp [State.tarnAlloc]
@[simp] theorem State.updDispatch_cairnRange (s : State) (id : Nat) (f : Dispatch → Dispatch) (zc : CDie) (zp : Part) : (s.updDispatch id f).cairnRange zc zp = s.cairnRange zc zp := by simp [State.cairnRange]
@[simp] theorem State.updDispatch_winOpen (s : State) (id : Nat) (f : Dispatch → Dispatch) (zp : Part) : (s.updDispatch id f).winOpen zp = s.winOpen zp := by simp [State.winOpen]
@[simp] theorem State.updDispatch_vfOn (s : State) (id : Nat) (f : Dispatch → Dispatch) (zp : Part) : (s.updDispatch id f).vfOn zp = s.vfOn zp := by simp [State.vfOn]
@[simp] theorem State.updDispatch_msfState (s : State) (id : Nat) (f : Dispatch → Dispatch) (zc : CDie) : (s.updDispatch id f).msfState zc = s.msfState zc := by simp [State.msfState]
@[simp] theorem State.updDispatch_stepK (s : State) (id : Nat) (f : Dispatch → Dispatch) (zc : CDie) : (s.updDispatch id f).stepK zc = s.stepK zc := by simp [State.stepK]
@[simp] theorem State.updDispatch_injection (s : State) (id : Nat) (f : Dispatch → Dispatch) (zp : Page) (zchecker : Nat) : (s.updDispatch id f).injection zp zchecker = s.injection zp zchecker := by simp [State.injection]
@[simp] theorem State.updDispatch_disc (s : State) (id : Nat) (f : Dispatch → Dispatch) : (s.updDispatch id f).disc = s.disc := by simp [State.disc]
@[simp] theorem State.updDispatch_pairSt (s : State) (id : Nat) (f : Dispatch → Dispatch) : (s.updDispatch id f).pairSt = s.pairSt := by simp [State.pairSt]
@[simp] theorem State.updDispatch_now (s : State) (id : Nat) (f : Dispatch → Dispatch) (zd : Die) : (s.updDispatch id f).now zd = s.now zd := by simp [State.now]
@[simp] theorem State.updDispatch_array (s : State) (id : Nat) (f : Dispatch → Dispatch) (zc : CDie) : (s.updDispatch id f).array zc = s.array zc := by simp [State.array]
@[simp] theorem State.updDispatch_queue (s : State) (id : Nat) (f : Dispatch → Dispatch) (zr : QRef) : (s.updDispatch id f).queue zr = s.queue zr := by simp [State.queue]
@[simp] theorem State.updDispatch_partQ (s : State) (id : Nat) (f : Dispatch → Dispatch) (zp : Part) : (s.updDispatch id f).part? zp = s.part? zp := by simp [State.part?]
@[simp] theorem State.updDispatch_isConf (s : State) (id : Nat) (f : Dispatch → Dispatch) (zp : Part) : (s.updDispatch id f).isConf zp = s.isConf zp := by simp [State.isConf]
@[simp] theorem State.updDispatch_chan (s : State) (id : Nat) (f : Dispatch → Dispatch) (zk : Nat) : (s.updDispatch id f).chan zk = s.chan zk := by simp [State.chan]
@[simp] theorem State.updDispatch_agent (s : State) (id : Nat) (f : Dispatch → Dispatch) (zk : PDie) : (s.updDispatch id f).agent zk = s.agent zk := by simp [State.agent]
@[simp] theorem State.updDispatch_port (s : State) (id : Nat) (f : Dispatch → Dispatch) (zq : Port) : (s.updDispatch id f).port zq = s.port zq := by simp [State.port]
@[simp] theorem State.updDispatch_core (s : State) (id : Nat) (f : Dispatch → Dispatch) (zc : CDie) (zk : Core) : (s.updDispatch id f).core zc zk = s.core zc zk := by simp [State.core]
@[simp] theorem State.updDispatch_cairn (s : State) (id : Nat) (f : Dispatch → Dispatch) (zc : CDie) (zn : Nat) : (s.updDispatch id f).cairn zc zn = s.cairn zc zn := by simp [State.cairn]
@[simp] theorem State.updDispatch_fn (s : State) (id : Nat) (f : Dispatch → Dispatch) (zf : Fn) : (s.updDispatch id f).fn zf = s.fn zf := by simp [State.fn]
@[simp] theorem State.updDispatch_wkey (s : State) (id : Nat) (f : Dispatch → Dispatch) (zp : Part) (zprev : Bool) : (s.updDispatch id f).wkey zp zprev = s.wkey zp zprev := by simp [State.wkey]
@[simp] theorem State.updDispatch_memByte (s : State) (id : Nat) (f : Dispatch → Dispatch) (zc : CDie) (zoff : Nat) : (s.updDispatch id f).memByte zc zoff = s.memByte zc zoff := by simp [State.memByte]
@[simp] theorem State.updDispatch_memGet (s : State) (id : Nat) (f : Dispatch → Dispatch) (zc : CDie) (zoff : Nat) (zn : Nat) : (s.updDispatch id f).memGet zc zoff zn = s.memGet zc zoff zn := by simp [State.memGet]
@[simp] theorem State.updDispatch_tarnByte (s : State) (id : Nat) (f : Dispatch → Dispatch) (zc : CDie) (zoff : Nat) : (s.updDispatch id f).tarnByte zc zoff = s.tarnByte zc zoff := by simp [State.tarnByte]
@[simp] theorem State.updDispatch_tarnGet (s : State) (id : Nat) (f : Dispatch → Dispatch) (zc : CDie) (zoff : Nat) (zn : Nat) : (s.updDispatch id f).tarnGet zc zoff zn = s.tarnGet zc zoff zn := by simp [State.tarnGet]
@[simp] theorem State.updDispatch_dieDown (s : State) (id : Nat) (f : Dispatch → Dispatch) (zc : CDie) : (s.updDispatch id f).dieDown zc = s.dieDown zc := by simp [State.dieDown]
@[simp] theorem State.updDispatch_nparts (s : State) (id : Nat) (f : Dispatch → Dispatch) : (s.updDispatch id f).nparts = s.nparts := by simp [State.nparts]
@[simp] theorem State.updDispatch_memWf (s : State) (id : Nat) (f : Dispatch → Dispatch) : (s.updDispatch id f).memWf = s.memWf := by simp [State.memWf]
@[simp] theorem State.updDispatch_quiet (s : State) (id : Nat) (f : Dispatch → Dispatch) : (s.updDispatch id f).quiet = s.quiet := by simp [State.quiet]
@[simp] theorem State.updDispatch_settled (s : State) (id : Nat) (f : Dispatch → Dispatch) : (s.updDispatch id f).settled = s.settled := by simp [State.settled]

/-! `updSmt` writes smt alone. -/

@[simp] theorem State.updSmt_pending (s : State) (f : SummitSt → SummitSt) : (s.updSmt f).pending = s.pending := by cases s; rfl
@[simp] theorem State.updSmt_out (s : State) (f : SummitSt → SummitSt) : (s.updSmt f).out = s.out := by cases s; rfl
@[simp] theorem State.updSmt_freeCtr (s : State) (f : SummitSt → SummitSt) : (s.updSmt f).freeCtr = s.freeCtr := by cases s; rfl
@[simp] theorem State.updSmt_mgmtOn (s : State) (f : SummitSt → SummitSt) : (s.updSmt f).mgmtOn = s.mgmtOn := by cases s; rfl
@[simp] theorem State.updSmt_fuses (s : State) (f : SummitSt → SummitSt) : (s.updSmt f).fuses = s.fuses := by cases s; rfl
@[simp] theorem State.updSmt_straps (s : State) (f : SummitSt → SummitSt) : (s.updSmt f).straps = s.straps := by cases s; rfl
@[simp] theorem State.updSmt_pos (s : State) (f : SummitSt → SummitSt) : (s.updSmt f).pos = s.pos := by cases s; rfl
@[simp] theorem State.updSmt_regs (s : State) (f : SummitSt → SummitSt) : (s.updSmt f).regs = s.regs := by cases s; rfl
@[simp] theorem State.updSmt_latches (s : State) (f : SummitSt → SummitSt) : (s.updSmt f).latches = s.latches := by cases s; rfl
@[simp] theorem State.updSmt_gtime (s : State) (f : SummitSt → SummitSt) : (s.updSmt f).gtime = s.gtime := by cases s; rfl
@[simp] theorem State.updSmt_fclk (s : State) (f : SummitSt → SummitSt) : (s.updSmt f).fclk = s.fclk := by cases s; rfl
@[simp] theorem State.updSmt_mem (s : State) (f : SummitSt → SummitSt) : (s.updSmt f).mem = s.mem := by cases s; rfl
@[simp] theorem State.updSmt_tarn (s : State) (f : SummitSt → SummitSt) : (s.updSmt f).tarn = s.tarn := by cases s; rfl
@[simp] theorem State.updSmt_rowErrs (s : State) (f : SummitSt → SummitSt) : (s.updSmt f).rowErrs = s.rowErrs := by cases s; rfl
@[simp] theorem State.updSmt_remaps (s : State) (f : SummitSt → SummitSt) : (s.updSmt f).remaps = s.remaps := by cases s; rfl
@[simp] theorem State.updSmt_savedRemaps (s : State) (f : SummitSt → SummitSt) : (s.updSmt f).savedRemaps = s.savedRemaps := by cases s; rfl
@[simp] theorem State.updSmt_repairLog (s : State) (f : SummitSt → SummitSt) : (s.updSmt f).repairLog = s.repairLog := by cases s; rfl
@[simp] theorem State.updSmt_badSectors (s : State) (f : SummitSt → SummitSt) : (s.updSmt f).badSectors = s.badSectors := by cases s; rfl
@[simp] theorem State.updSmt_memFenced (s : State) (f : SummitSt → SummitSt) : (s.updSmt f).memFenced = s.memFenced := by cases s; rfl
@[simp] theorem State.updSmt_mappedGran (s : State) (f : SummitSt → SummitSt) : (s.updSmt f).mappedGran = s.mappedGran := by cases s; rfl
@[simp] theorem State.updSmt_zeroOrders (s : State) (f : SummitSt → SummitSt) : (s.updSmt f).zeroOrders = s.zeroOrders := by cases s; rfl
@[simp] theorem State.updSmt_arrays (s : State) (f : SummitSt → SummitSt) : (s.updSmt f).arrays = s.arrays := by cases s; rfl
@[simp] theorem State.updSmt_repairLines (s : State) (f : SummitSt → SummitSt) : (s.updSmt f).repairLines = s.repairLines := by cases s; rfl
@[simp] theorem State.updSmt_queues (s : State) (f : SummitSt → SummitSt) : (s.updSmt f).queues = s.queues := by cases s; rfl
@[simp] theorem State.updSmt_cairns (s : State) (f : SummitSt → SummitSt) : (s.updSmt f).cairns = s.cairns := by cases s; rfl
@[simp] theorem State.updSmt_tracks (s : State) (f : SummitSt → SummitSt) : (s.updSmt f).tracks = s.tracks := by cases s; rfl
@[simp] theorem State.updSmt_cores (s : State) (f : SummitSt → SummitSt) : (s.updSmt f).cores = s.cores := by cases s; rfl
@[simp] theorem State.updSmt_dispatches (s : State) (f : SummitSt → SummitSt) : (s.updSmt f).dispatches = s.dispatches := by cases s; rfl
@[simp] theorem State.updSmt_dmaRuns (s : State) (f : SummitSt → SummitSt) : (s.updSmt f).dmaRuns = s.dmaRuns := by cases s; rfl
@[simp] theorem State.updSmt_requests (s : State) (f : SummitSt → SummitSt) : (s.updSmt f).requests = s.requests := by cases s; rfl
@[simp] theorem State.updSmt_windows (s : State) (f : SummitSt → SummitSt) : (s.updSmt f).windows = s.windows := by cases s; rfl
@[simp] theorem State.updSmt_respUse (s : State) (f : SummitSt → SummitSt) : (s.updSmt f).respUse = s.respUse := by cases s; rfl
@[simp] theorem State.updSmt_nextXid (s : State) (f : SummitSt → SummitSt) : (s.updSmt f).nextXid = s.nextXid := by cases s; rfl
@[simp] theorem State.updSmt_nextId (s : State) (f : SummitSt → SummitSt) : (s.updSmt f).nextId = s.nextId := by cases s; rfl
@[simp] theorem State.updSmt_parts (s : State) (f : SummitSt → SummitSt) : (s.updSmt f).parts = s.parts := by cases s; rfl
@[simp] theorem State.updSmt_wkeys (s : State) (f : SummitSt → SummitSt) : (s.updSmt f).wkeys = s.wkeys := by cases s; rfl
@[simp] theorem State.updSmt_staging (s : State) (f : SummitSt → SummitSt) : (s.updSmt f).staging = s.staging := by cases s; rfl
@[simp] theorem State.updSmt_fltLog (s : State) (f : SummitSt → SummitSt) : (s.updSmt f).fltLog = s.fltLog := by cases s; rfl
@[simp] theorem State.updSmt_recoveryTimes (s : State) (f : SummitSt → SummitSt) : (s.updSmt f).recoveryTimes = s.recoveryTimes := by cases s; rfl
@[simp] theorem State.updSmt_quietPages (s : State) (f : SummitSt → SummitSt) : (s.updSmt f).quietPages = s.quietPages := by cases s; rfl
@[simp] theorem State.updSmt_quietParts (s : State) (f : SummitSt → SummitSt) : (s.updSmt f).quietParts = s.quietParts := by cases s; rfl
@[simp] theorem State.updSmt_fencedDies (s : State) (f : SummitSt → SummitSt) : (s.updSmt f).fencedDies = s.fencedDies := by cases s; rfl
@[simp] theorem State.updSmt_lostRails (s : State) (f : SummitSt → SummitSt) : (s.updSmt f).lostRails = s.lostRails := by cases s; rfl
@[simp] theorem State.updSmt_thermtrip (s : State) (f : SummitSt → SummitSt) : (s.updSmt f).thermtrip = s.thermtrip := by cases s; rfl
@[simp] theorem State.updSmt_chans (s : State) (f : SummitSt → SummitSt) : (s.updSmt f).chans = s.chans := by cases s; rfl
@[simp] theorem State.updSmt_fns (s : State) (f : SummitSt → SummitSt) : (s.updSmt f).fns = s.fns := by cases s; rfl
@[simp] theorem State.updSmt_bar2 (s : State) (f : SummitSt → SummitSt) : (s.updSmt f).bar2 = s.bar2 := by cases s; rfl
@[simp] theorem State.updSmt_held (s : State) (f : SummitSt → SummitSt) : (s.updSmt f).held = s.held := by cases s; rfl
@[simp] theorem State.updSmt_relayOut (s : State) (f : SummitSt → SummitSt) : (s.updSmt f).relayOut = s.relayOut := by cases s; rfl
@[simp] theorem State.updSmt_relayCtr (s : State) (f : SummitSt → SummitSt) : (s.updSmt f).relayCtr = s.relayCtr := by cases s; rfl
@[simp] theorem State.updSmt_boardSess (s : State) (f : SummitSt → SummitSt) : (s.updSmt f).boardSess = s.boardSess := by cases s; rfl
@[simp] theorem State.updSmt_i3c (s : State) (f : SummitSt → SummitSt) : (s.updSmt f).i3c = s.i3c := by cases s; rfl
@[simp] theorem State.updSmt_eid (s : State) (f : SummitSt → SummitSt) : (s.updSmt f).eid = s.eid := by cases s; rfl
@[simp] theorem State.updSmt_sensors (s : State) (f : SummitSt → SummitSt) : (s.updSmt f).sensors = s.sensors := by cases s; rfl
@[simp] theorem State.updSmt_agents (s : State) (f : SummitSt → SummitSt) : (s.updSmt f).agents = s.agents := by cases s; rfl
@[simp] theorem State.updSmt_ports (s : State) (f : SummitSt → SummitSt) : (s.updSmt f).ports = s.ports := by cases s; rfl
@[simp] theorem State.updSmt_transits (s : State) (f : SummitSt → SummitSt) : (s.updSmt f).transits = s.transits := by cases s; rfl
@[simp] theorem State.updSmt_d2d (s : State) (f : SummitSt → SummitSt) : (s.updSmt f).d2d = s.d2d := by cases s; rfl
@[simp] theorem State.updSmt_reserved (s : State) (f : SummitSt → SummitSt) : (s.updSmt f).reserved = s.reserved := by cases s; rfl
@[simp] theorem State.updSmt_tables (s : State) (f : SummitSt → SummitSt) : (s.updSmt f).tables = s.tables := by cases s; rfl
@[simp] theorem State.updSmt_d2dRuns (s : State) (f : SummitSt → SummitSt) : (s.updSmt f).d2dRuns = s.d2dRuns := by cases s; rfl
@[simp] theorem State.updSmt_xfers (s : State) (f : SummitSt → SummitSt) : (s.updSmt f).xfers = s.xfers := by cases s; rfl
@[simp] theorem State.updSmt_hotEngines (s : State) (f : SummitSt → SummitSt) : (s.updSmt f).hotEngines = s.hotEngines := by cases s; rfl
@[simp] theorem State.updSmt_boot (s : State) (f : SummitSt → SummitSt) : (s.updSmt f).boot = s.boot := by cases s; rfl
@[simp] theorem State.updSmt_plan (s : State) (f : SummitSt → SummitSt) : (s.updSmt f).plan = s.plan := by cases s; rfl
@[simp] theorem State.updSmt_bootPlan (s : State) (f : SummitSt → SummitSt) : (s.updSmt f).bootPlan = s.bootPlan := by cases s; rfl
@[simp] theorem State.updSmt_maxPlanSeq (s : State) (f : SummitSt → SummitSt) : (s.updSmt f).maxPlanSeq = s.maxPlanSeq := by cases s; rfl
@[simp] theorem State.updSmt_fwDigest (s : State) (f : SummitSt → SummitSt) : (s.updSmt f).fwDigest = s.fwDigest := by cases s; rfl
@[simp] theorem State.updSmt_fwComps (s : State) (f : SummitSt → SummitSt) : (s.updSmt f).fwComps = s.fwComps := by cases s; rfl
@[simp] theorem State.updSmt_flash (s : State) (f : SummitSt → SummitSt) : (s.updSmt f).flash = s.flash := by cases s; rfl
@[simp] theorem State.updSmt_fwStaged (s : State) (f : SummitSt → SummitSt) : (s.updSmt f).fwStaged = s.fwStaged := by cases s; rfl
@[simp] theorem State.updSmt_codeHeld (s : State) (f : SummitSt → SummitSt) : (s.updSmt f).codeHeld = s.codeHeld := by cases s; rfl
@[simp] theorem State.updSmt_codeStaged (s : State) (f : SummitSt → SummitSt) : (s.updSmt f).codeStaged = s.codeStaged := by cases s; rfl
@[simp] theorem State.updSmt_rcv (s : State) (f : SummitSt → SummitSt) : (s.updSmt f).rcv = s.rcv := by cases s; rfl
@[simp] theorem State.updSmt_dist (s : State) (f : SummitSt → SummitSt) : (s.updSmt f).dist = s.dist := by cases s; rfl
@[simp] theorem State.updSmt_mcReset (s : State) (f : SummitSt → SummitSt) : (s.updSmt f).mcReset = s.mcReset := by cases s; rfl
@[simp] theorem State.updSmt_dbgCounters (s : State) (f : SummitSt → SummitSt) : (s.updSmt f).dbgCounters = s.dbgCounters := by cases s; rfl
@[simp] theorem State.updSmt_unlocks (s : State) (f : SummitSt → SummitSt) : (s.updSmt f).unlocks = s.unlocks := by cases s; rfl
@[simp] theorem State.updSmt_power (s : State) (f : SummitSt → SummitSt) : (s.updSmt f).power = s.power := by cases s; rfl
@[simp] theorem State.updSmt_pkgPower (s : State) (f : SummitSt → SummitSt) : (s.updSmt f).pkgPower = s.pkgPower := by cases s; rfl
@[simp] theorem State.updSmt_ridge (s : State) (f : SummitSt → SummitSt) : (s.updSmt f).ridge = s.ridge := by cases s; rfl
@[simp] theorem State.updSmt_pairSess (s : State) (f : SummitSt → SummitSt) : (s.updSmt f).pairSess = s.pairSess := by cases s; rfl
@[simp] theorem State.updSmt_heldTerm (s : State) (f : SummitSt → SummitSt) : (s.updSmt f).heldTerm = s.heldTerm := by cases s; rfl
@[simp] theorem State.updSmt_heldBy (s : State) (f : SummitSt → SummitSt) : (s.updSmt f).heldBy = s.heldBy := by cases s; rfl
@[simp] theorem State.updSmt_rd (s : State) (f : SummitSt → SummitSt) (za : Nat) : (s.updSmt f).rd za = s.rd za := by simp [State.rd]
@[simp] theorem State.updSmt_fld (s : State) (f : SummitSt → SummitSt) (zp : Page) (zf : Field) : (s.updSmt f).fld zp zf = s.fld zp zf := by simp [State.fld]
@[simp] theorem State.updSmt_flag (s : State) (f : SummitSt → SummitSt) (zp : Page) (zf : Field) : (s.updSmt f).flag zp zf = s.flag zp zf := by simp [State.flag]
@[simp] theorem State.updSmt_counter (s : State) (f : SummitSt → SummitSt) (zp : Page) (zoff : Nat) : (s.updSmt f).counter zp zoff = s.counter zp zoff := by unfold State.counter; rw [State.updSmt_rd, State.updSmt_rd]
@[simp] theorem State.updSmt_counterOvf (s : State) (f : SummitSt → SummitSt) (zp : Page) (zoff : Nat) : (s.updSmt f).counterOvf zp zoff = s.counterOvf zp zoff := by simp [State.counterOvf]
@[simp] theorem State.updSmt_inReset (s : State) (f : SummitSt → SummitSt) (zd : Die) : (s.updSmt f).inReset zd = s.inReset zd := by simp [State.inReset]
@[simp] theorem State.updSmt_partState (s : State) (f : SummitSt → SummitSt) (zp : Part) : (s.updSmt f).partState zp = s.partState zp := by simp [State.partState]
@[simp] theorem State.updSmt_partFenced (s : State) (f : SummitSt → SummitSt) (zp : Part) : (s.updSmt f).partFenced zp = s.partFenced zp := by simp [State.partFenced]
@[simp] theorem State.updSmt_lnk (s : State) (f : SummitSt → SummitSt) (zq : Port) : (s.updSmt f).lnk zq = s.lnk zq := by simp [State.lnk]
@[simp] theorem State.updSmt_memRange (s : State) (f : SummitSt → SummitSt) (zc : CDie) (zp : Part) (zi : Nat) : (s.updSmt f).memRange zc zp zi = s.memRange zc zp zi := by simp [State.memRange]
@[simp] theorem State.updSmt_tarnAlloc (s : State) (f : SummitSt → SummitSt) (zc : CDie) (zp : Part) : (s.updSmt f).tarnAlloc zc zp = s.tarnAlloc zc zp := by simp [State.tarnAlloc]
@[simp] theorem State.updSmt_cairnRange (s : State) (f : SummitSt → SummitSt) (zc : CDie) (zp : Part) : (s.updSmt f).cairnRange zc zp = s.cairnRange zc zp := by simp [State.cairnRange]
@[simp] theorem State.updSmt_winOpen (s : State) (f : SummitSt → SummitSt) (zp : Part) : (s.updSmt f).winOpen zp = s.winOpen zp := by simp [State.winOpen]
@[simp] theorem State.updSmt_vfOn (s : State) (f : SummitSt → SummitSt) (zp : Part) : (s.updSmt f).vfOn zp = s.vfOn zp := by simp [State.vfOn]
@[simp] theorem State.updSmt_msfState (s : State) (f : SummitSt → SummitSt) (zc : CDie) : (s.updSmt f).msfState zc = s.msfState zc := by simp [State.msfState]
@[simp] theorem State.updSmt_stepK (s : State) (f : SummitSt → SummitSt) (zc : CDie) : (s.updSmt f).stepK zc = s.stepK zc := by simp [State.stepK]
@[simp] theorem State.updSmt_injection (s : State) (f : SummitSt → SummitSt) (zp : Page) (zchecker : Nat) : (s.updSmt f).injection zp zchecker = s.injection zp zchecker := by simp [State.injection]
@[simp] theorem State.updSmt_disc (s : State) (f : SummitSt → SummitSt) : (s.updSmt f).disc = s.disc := by simp [State.disc]
@[simp] theorem State.updSmt_pairSt (s : State) (f : SummitSt → SummitSt) : (s.updSmt f).pairSt = s.pairSt := by simp [State.pairSt]
@[simp] theorem State.updSmt_now (s : State) (f : SummitSt → SummitSt) (zd : Die) : (s.updSmt f).now zd = s.now zd := by simp [State.now]
@[simp] theorem State.updSmt_array (s : State) (f : SummitSt → SummitSt) (zc : CDie) : (s.updSmt f).array zc = s.array zc := by simp [State.array]
@[simp] theorem State.updSmt_queue (s : State) (f : SummitSt → SummitSt) (zr : QRef) : (s.updSmt f).queue zr = s.queue zr := by simp [State.queue]
@[simp] theorem State.updSmt_partQ (s : State) (f : SummitSt → SummitSt) (zp : Part) : (s.updSmt f).part? zp = s.part? zp := by simp [State.part?]
@[simp] theorem State.updSmt_isConf (s : State) (f : SummitSt → SummitSt) (zp : Part) : (s.updSmt f).isConf zp = s.isConf zp := by simp [State.isConf]
@[simp] theorem State.updSmt_chan (s : State) (f : SummitSt → SummitSt) (zk : Nat) : (s.updSmt f).chan zk = s.chan zk := by simp [State.chan]
@[simp] theorem State.updSmt_agent (s : State) (f : SummitSt → SummitSt) (zk : PDie) : (s.updSmt f).agent zk = s.agent zk := by simp [State.agent]
@[simp] theorem State.updSmt_port (s : State) (f : SummitSt → SummitSt) (zq : Port) : (s.updSmt f).port zq = s.port zq := by simp [State.port]
@[simp] theorem State.updSmt_core (s : State) (f : SummitSt → SummitSt) (zc : CDie) (zk : Core) : (s.updSmt f).core zc zk = s.core zc zk := by simp [State.core]
@[simp] theorem State.updSmt_cairn (s : State) (f : SummitSt → SummitSt) (zc : CDie) (zn : Nat) : (s.updSmt f).cairn zc zn = s.cairn zc zn := by simp [State.cairn]
@[simp] theorem State.updSmt_fn (s : State) (f : SummitSt → SummitSt) (zf : Fn) : (s.updSmt f).fn zf = s.fn zf := by simp [State.fn]
@[simp] theorem State.updSmt_wkey (s : State) (f : SummitSt → SummitSt) (zp : Part) (zprev : Bool) : (s.updSmt f).wkey zp zprev = s.wkey zp zprev := by simp [State.wkey]
@[simp] theorem State.updSmt_memByte (s : State) (f : SummitSt → SummitSt) (zc : CDie) (zoff : Nat) : (s.updSmt f).memByte zc zoff = s.memByte zc zoff := by simp [State.memByte]
@[simp] theorem State.updSmt_memGet (s : State) (f : SummitSt → SummitSt) (zc : CDie) (zoff : Nat) (zn : Nat) : (s.updSmt f).memGet zc zoff zn = s.memGet zc zoff zn := by simp [State.memGet]
@[simp] theorem State.updSmt_tarnByte (s : State) (f : SummitSt → SummitSt) (zc : CDie) (zoff : Nat) : (s.updSmt f).tarnByte zc zoff = s.tarnByte zc zoff := by simp [State.tarnByte]
@[simp] theorem State.updSmt_tarnGet (s : State) (f : SummitSt → SummitSt) (zc : CDie) (zoff : Nat) (zn : Nat) : (s.updSmt f).tarnGet zc zoff zn = s.tarnGet zc zoff zn := by simp [State.tarnGet]
@[simp] theorem State.updSmt_dieDown (s : State) (f : SummitSt → SummitSt) (zc : CDie) : (s.updSmt f).dieDown zc = s.dieDown zc := by simp [State.dieDown]
@[simp] theorem State.updSmt_nparts (s : State) (f : SummitSt → SummitSt) : (s.updSmt f).nparts = s.nparts := by simp [State.nparts]
@[simp] theorem State.updSmt_memWf (s : State) (f : SummitSt → SummitSt) : (s.updSmt f).memWf = s.memWf := by simp [State.memWf]
@[simp] theorem State.updSmt_quiet (s : State) (f : SummitSt → SummitSt) : (s.updSmt f).quiet = s.quiet := by simp [State.quiet]
@[simp] theorem State.updSmt_settled (s : State) (f : SummitSt → SummitSt) : (s.updSmt f).settled = s.settled := by simp [State.settled]

/-! `memPut` writes mem alone. -/

@[simp] theorem State.memPut_pending (s : State) (c : CDie) (off : Nat) (bs : List Byte) : (s.memPut c off bs).pending = s.pending := by cases s; rfl
@[simp] theorem State.memPut_out (s : State) (c : CDie) (off : Nat) (bs : List Byte) : (s.memPut c off bs).out = s.out := by cases s; rfl
@[simp] theorem State.memPut_freeCtr (s : State) (c : CDie) (off : Nat) (bs : List Byte) : (s.memPut c off bs).freeCtr = s.freeCtr := by cases s; rfl
@[simp] theorem State.memPut_mgmtOn (s : State) (c : CDie) (off : Nat) (bs : List Byte) : (s.memPut c off bs).mgmtOn = s.mgmtOn := by cases s; rfl
@[simp] theorem State.memPut_fuses (s : State) (c : CDie) (off : Nat) (bs : List Byte) : (s.memPut c off bs).fuses = s.fuses := by cases s; rfl
@[simp] theorem State.memPut_straps (s : State) (c : CDie) (off : Nat) (bs : List Byte) : (s.memPut c off bs).straps = s.straps := by cases s; rfl
@[simp] theorem State.memPut_pos (s : State) (c : CDie) (off : Nat) (bs : List Byte) : (s.memPut c off bs).pos = s.pos := by cases s; rfl
@[simp] theorem State.memPut_regs (s : State) (c : CDie) (off : Nat) (bs : List Byte) : (s.memPut c off bs).regs = s.regs := by cases s; rfl
@[simp] theorem State.memPut_latches (s : State) (c : CDie) (off : Nat) (bs : List Byte) : (s.memPut c off bs).latches = s.latches := by cases s; rfl
@[simp] theorem State.memPut_gtime (s : State) (c : CDie) (off : Nat) (bs : List Byte) : (s.memPut c off bs).gtime = s.gtime := by cases s; rfl
@[simp] theorem State.memPut_fclk (s : State) (c : CDie) (off : Nat) (bs : List Byte) : (s.memPut c off bs).fclk = s.fclk := by cases s; rfl
@[simp] theorem State.memPut_tarn (s : State) (c : CDie) (off : Nat) (bs : List Byte) : (s.memPut c off bs).tarn = s.tarn := by cases s; rfl
@[simp] theorem State.memPut_rowErrs (s : State) (c : CDie) (off : Nat) (bs : List Byte) : (s.memPut c off bs).rowErrs = s.rowErrs := by cases s; rfl
@[simp] theorem State.memPut_remaps (s : State) (c : CDie) (off : Nat) (bs : List Byte) : (s.memPut c off bs).remaps = s.remaps := by cases s; rfl
@[simp] theorem State.memPut_savedRemaps (s : State) (c : CDie) (off : Nat) (bs : List Byte) : (s.memPut c off bs).savedRemaps = s.savedRemaps := by cases s; rfl
@[simp] theorem State.memPut_repairLog (s : State) (c : CDie) (off : Nat) (bs : List Byte) : (s.memPut c off bs).repairLog = s.repairLog := by cases s; rfl
@[simp] theorem State.memPut_badSectors (s : State) (c : CDie) (off : Nat) (bs : List Byte) : (s.memPut c off bs).badSectors = s.badSectors := by cases s; rfl
@[simp] theorem State.memPut_memFenced (s : State) (c : CDie) (off : Nat) (bs : List Byte) : (s.memPut c off bs).memFenced = s.memFenced := by cases s; rfl
@[simp] theorem State.memPut_mappedGran (s : State) (c : CDie) (off : Nat) (bs : List Byte) : (s.memPut c off bs).mappedGran = s.mappedGran := by cases s; rfl
@[simp] theorem State.memPut_zeroOrders (s : State) (c : CDie) (off : Nat) (bs : List Byte) : (s.memPut c off bs).zeroOrders = s.zeroOrders := by cases s; rfl
@[simp] theorem State.memPut_arrays (s : State) (c : CDie) (off : Nat) (bs : List Byte) : (s.memPut c off bs).arrays = s.arrays := by cases s; rfl
@[simp] theorem State.memPut_repairLines (s : State) (c : CDie) (off : Nat) (bs : List Byte) : (s.memPut c off bs).repairLines = s.repairLines := by cases s; rfl
@[simp] theorem State.memPut_queues (s : State) (c : CDie) (off : Nat) (bs : List Byte) : (s.memPut c off bs).queues = s.queues := by cases s; rfl
@[simp] theorem State.memPut_cairns (s : State) (c : CDie) (off : Nat) (bs : List Byte) : (s.memPut c off bs).cairns = s.cairns := by cases s; rfl
@[simp] theorem State.memPut_tracks (s : State) (c : CDie) (off : Nat) (bs : List Byte) : (s.memPut c off bs).tracks = s.tracks := by cases s; rfl
@[simp] theorem State.memPut_cores (s : State) (c : CDie) (off : Nat) (bs : List Byte) : (s.memPut c off bs).cores = s.cores := by cases s; rfl
@[simp] theorem State.memPut_dispatches (s : State) (c : CDie) (off : Nat) (bs : List Byte) : (s.memPut c off bs).dispatches = s.dispatches := by cases s; rfl
@[simp] theorem State.memPut_dmaRuns (s : State) (c : CDie) (off : Nat) (bs : List Byte) : (s.memPut c off bs).dmaRuns = s.dmaRuns := by cases s; rfl
@[simp] theorem State.memPut_requests (s : State) (c : CDie) (off : Nat) (bs : List Byte) : (s.memPut c off bs).requests = s.requests := by cases s; rfl
@[simp] theorem State.memPut_windows (s : State) (c : CDie) (off : Nat) (bs : List Byte) : (s.memPut c off bs).windows = s.windows := by cases s; rfl
@[simp] theorem State.memPut_respUse (s : State) (c : CDie) (off : Nat) (bs : List Byte) : (s.memPut c off bs).respUse = s.respUse := by cases s; rfl
@[simp] theorem State.memPut_nextXid (s : State) (c : CDie) (off : Nat) (bs : List Byte) : (s.memPut c off bs).nextXid = s.nextXid := by cases s; rfl
@[simp] theorem State.memPut_nextId (s : State) (c : CDie) (off : Nat) (bs : List Byte) : (s.memPut c off bs).nextId = s.nextId := by cases s; rfl
@[simp] theorem State.memPut_parts (s : State) (c : CDie) (off : Nat) (bs : List Byte) : (s.memPut c off bs).parts = s.parts := by cases s; rfl
@[simp] theorem State.memPut_wkeys (s : State) (c : CDie) (off : Nat) (bs : List Byte) : (s.memPut c off bs).wkeys = s.wkeys := by cases s; rfl
@[simp] theorem State.memPut_staging (s : State) (c : CDie) (off : Nat) (bs : List Byte) : (s.memPut c off bs).staging = s.staging := by cases s; rfl
@[simp] theorem State.memPut_fltLog (s : State) (c : CDie) (off : Nat) (bs : List Byte) : (s.memPut c off bs).fltLog = s.fltLog := by cases s; rfl
@[simp] theorem State.memPut_recoveryTimes (s : State) (c : CDie) (off : Nat) (bs : List Byte) : (s.memPut c off bs).recoveryTimes = s.recoveryTimes := by cases s; rfl
@[simp] theorem State.memPut_quietPages (s : State) (c : CDie) (off : Nat) (bs : List Byte) : (s.memPut c off bs).quietPages = s.quietPages := by cases s; rfl
@[simp] theorem State.memPut_quietParts (s : State) (c : CDie) (off : Nat) (bs : List Byte) : (s.memPut c off bs).quietParts = s.quietParts := by cases s; rfl
@[simp] theorem State.memPut_fencedDies (s : State) (c : CDie) (off : Nat) (bs : List Byte) : (s.memPut c off bs).fencedDies = s.fencedDies := by cases s; rfl
@[simp] theorem State.memPut_lostRails (s : State) (c : CDie) (off : Nat) (bs : List Byte) : (s.memPut c off bs).lostRails = s.lostRails := by cases s; rfl
@[simp] theorem State.memPut_thermtrip (s : State) (c : CDie) (off : Nat) (bs : List Byte) : (s.memPut c off bs).thermtrip = s.thermtrip := by cases s; rfl
@[simp] theorem State.memPut_chans (s : State) (c : CDie) (off : Nat) (bs : List Byte) : (s.memPut c off bs).chans = s.chans := by cases s; rfl
@[simp] theorem State.memPut_fns (s : State) (c : CDie) (off : Nat) (bs : List Byte) : (s.memPut c off bs).fns = s.fns := by cases s; rfl
@[simp] theorem State.memPut_bar2 (s : State) (c : CDie) (off : Nat) (bs : List Byte) : (s.memPut c off bs).bar2 = s.bar2 := by cases s; rfl
@[simp] theorem State.memPut_held (s : State) (c : CDie) (off : Nat) (bs : List Byte) : (s.memPut c off bs).held = s.held := by cases s; rfl
@[simp] theorem State.memPut_relayOut (s : State) (c : CDie) (off : Nat) (bs : List Byte) : (s.memPut c off bs).relayOut = s.relayOut := by cases s; rfl
@[simp] theorem State.memPut_relayCtr (s : State) (c : CDie) (off : Nat) (bs : List Byte) : (s.memPut c off bs).relayCtr = s.relayCtr := by cases s; rfl
@[simp] theorem State.memPut_boardSess (s : State) (c : CDie) (off : Nat) (bs : List Byte) : (s.memPut c off bs).boardSess = s.boardSess := by cases s; rfl
@[simp] theorem State.memPut_i3c (s : State) (c : CDie) (off : Nat) (bs : List Byte) : (s.memPut c off bs).i3c = s.i3c := by cases s; rfl
@[simp] theorem State.memPut_eid (s : State) (c : CDie) (off : Nat) (bs : List Byte) : (s.memPut c off bs).eid = s.eid := by cases s; rfl
@[simp] theorem State.memPut_sensors (s : State) (c : CDie) (off : Nat) (bs : List Byte) : (s.memPut c off bs).sensors = s.sensors := by cases s; rfl
@[simp] theorem State.memPut_agents (s : State) (c : CDie) (off : Nat) (bs : List Byte) : (s.memPut c off bs).agents = s.agents := by cases s; rfl
@[simp] theorem State.memPut_ports (s : State) (c : CDie) (off : Nat) (bs : List Byte) : (s.memPut c off bs).ports = s.ports := by cases s; rfl
@[simp] theorem State.memPut_transits (s : State) (c : CDie) (off : Nat) (bs : List Byte) : (s.memPut c off bs).transits = s.transits := by cases s; rfl
@[simp] theorem State.memPut_d2d (s : State) (c : CDie) (off : Nat) (bs : List Byte) : (s.memPut c off bs).d2d = s.d2d := by cases s; rfl
@[simp] theorem State.memPut_reserved (s : State) (c : CDie) (off : Nat) (bs : List Byte) : (s.memPut c off bs).reserved = s.reserved := by cases s; rfl
@[simp] theorem State.memPut_tables (s : State) (c : CDie) (off : Nat) (bs : List Byte) : (s.memPut c off bs).tables = s.tables := by cases s; rfl
@[simp] theorem State.memPut_d2dRuns (s : State) (c : CDie) (off : Nat) (bs : List Byte) : (s.memPut c off bs).d2dRuns = s.d2dRuns := by cases s; rfl
@[simp] theorem State.memPut_xfers (s : State) (c : CDie) (off : Nat) (bs : List Byte) : (s.memPut c off bs).xfers = s.xfers := by cases s; rfl
@[simp] theorem State.memPut_hotEngines (s : State) (c : CDie) (off : Nat) (bs : List Byte) : (s.memPut c off bs).hotEngines = s.hotEngines := by cases s; rfl
@[simp] theorem State.memPut_boot (s : State) (c : CDie) (off : Nat) (bs : List Byte) : (s.memPut c off bs).boot = s.boot := by cases s; rfl
@[simp] theorem State.memPut_plan (s : State) (c : CDie) (off : Nat) (bs : List Byte) : (s.memPut c off bs).plan = s.plan := by cases s; rfl
@[simp] theorem State.memPut_bootPlan (s : State) (c : CDie) (off : Nat) (bs : List Byte) : (s.memPut c off bs).bootPlan = s.bootPlan := by cases s; rfl
@[simp] theorem State.memPut_maxPlanSeq (s : State) (c : CDie) (off : Nat) (bs : List Byte) : (s.memPut c off bs).maxPlanSeq = s.maxPlanSeq := by cases s; rfl
@[simp] theorem State.memPut_fwDigest (s : State) (c : CDie) (off : Nat) (bs : List Byte) : (s.memPut c off bs).fwDigest = s.fwDigest := by cases s; rfl
@[simp] theorem State.memPut_fwComps (s : State) (c : CDie) (off : Nat) (bs : List Byte) : (s.memPut c off bs).fwComps = s.fwComps := by cases s; rfl
@[simp] theorem State.memPut_flash (s : State) (c : CDie) (off : Nat) (bs : List Byte) : (s.memPut c off bs).flash = s.flash := by cases s; rfl
@[simp] theorem State.memPut_fwStaged (s : State) (c : CDie) (off : Nat) (bs : List Byte) : (s.memPut c off bs).fwStaged = s.fwStaged := by cases s; rfl
@[simp] theorem State.memPut_codeHeld (s : State) (c : CDie) (off : Nat) (bs : List Byte) : (s.memPut c off bs).codeHeld = s.codeHeld := by cases s; rfl
@[simp] theorem State.memPut_codeStaged (s : State) (c : CDie) (off : Nat) (bs : List Byte) : (s.memPut c off bs).codeStaged = s.codeStaged := by cases s; rfl
@[simp] theorem State.memPut_rcv (s : State) (c : CDie) (off : Nat) (bs : List Byte) : (s.memPut c off bs).rcv = s.rcv := by cases s; rfl
@[simp] theorem State.memPut_dist (s : State) (c : CDie) (off : Nat) (bs : List Byte) : (s.memPut c off bs).dist = s.dist := by cases s; rfl
@[simp] theorem State.memPut_mcReset (s : State) (c : CDie) (off : Nat) (bs : List Byte) : (s.memPut c off bs).mcReset = s.mcReset := by cases s; rfl
@[simp] theorem State.memPut_dbgCounters (s : State) (c : CDie) (off : Nat) (bs : List Byte) : (s.memPut c off bs).dbgCounters = s.dbgCounters := by cases s; rfl
@[simp] theorem State.memPut_unlocks (s : State) (c : CDie) (off : Nat) (bs : List Byte) : (s.memPut c off bs).unlocks = s.unlocks := by cases s; rfl
@[simp] theorem State.memPut_power (s : State) (c : CDie) (off : Nat) (bs : List Byte) : (s.memPut c off bs).power = s.power := by cases s; rfl
@[simp] theorem State.memPut_pkgPower (s : State) (c : CDie) (off : Nat) (bs : List Byte) : (s.memPut c off bs).pkgPower = s.pkgPower := by cases s; rfl
@[simp] theorem State.memPut_ridge (s : State) (c : CDie) (off : Nat) (bs : List Byte) : (s.memPut c off bs).ridge = s.ridge := by cases s; rfl
@[simp] theorem State.memPut_smt (s : State) (c : CDie) (off : Nat) (bs : List Byte) : (s.memPut c off bs).smt = s.smt := by cases s; rfl
@[simp] theorem State.memPut_pairSess (s : State) (c : CDie) (off : Nat) (bs : List Byte) : (s.memPut c off bs).pairSess = s.pairSess := by cases s; rfl
@[simp] theorem State.memPut_heldTerm (s : State) (c : CDie) (off : Nat) (bs : List Byte) : (s.memPut c off bs).heldTerm = s.heldTerm := by cases s; rfl
@[simp] theorem State.memPut_heldBy (s : State) (c : CDie) (off : Nat) (bs : List Byte) : (s.memPut c off bs).heldBy = s.heldBy := by cases s; rfl
@[simp] theorem State.memPut_rd (s : State) (c : CDie) (off : Nat) (bs : List Byte) (za : Nat) : (s.memPut c off bs).rd za = s.rd za := by simp [State.rd]
@[simp] theorem State.memPut_fld (s : State) (c : CDie) (off : Nat) (bs : List Byte) (zp : Page) (zf : Field) : (s.memPut c off bs).fld zp zf = s.fld zp zf := by simp [State.fld]
@[simp] theorem State.memPut_flag (s : State) (c : CDie) (off : Nat) (bs : List Byte) (zp : Page) (zf : Field) : (s.memPut c off bs).flag zp zf = s.flag zp zf := by simp [State.flag]
@[simp] theorem State.memPut_counter (s : State) (c : CDie) (off : Nat) (bs : List Byte) (zp : Page) (zoff : Nat) : (s.memPut c off bs).counter zp zoff = s.counter zp zoff := by unfold State.counter; rw [State.memPut_rd, State.memPut_rd]
@[simp] theorem State.memPut_counterOvf (s : State) (c : CDie) (off : Nat) (bs : List Byte) (zp : Page) (zoff : Nat) : (s.memPut c off bs).counterOvf zp zoff = s.counterOvf zp zoff := by simp [State.counterOvf]
@[simp] theorem State.memPut_inReset (s : State) (c : CDie) (off : Nat) (bs : List Byte) (zd : Die) : (s.memPut c off bs).inReset zd = s.inReset zd := by simp [State.inReset]
@[simp] theorem State.memPut_partState (s : State) (c : CDie) (off : Nat) (bs : List Byte) (zp : Part) : (s.memPut c off bs).partState zp = s.partState zp := by simp [State.partState]
@[simp] theorem State.memPut_partFenced (s : State) (c : CDie) (off : Nat) (bs : List Byte) (zp : Part) : (s.memPut c off bs).partFenced zp = s.partFenced zp := by simp [State.partFenced]
@[simp] theorem State.memPut_lnk (s : State) (c : CDie) (off : Nat) (bs : List Byte) (zq : Port) : (s.memPut c off bs).lnk zq = s.lnk zq := by simp [State.lnk]
@[simp] theorem State.memPut_memRange (s : State) (c : CDie) (off : Nat) (bs : List Byte) (zc : CDie) (zp : Part) (zi : Nat) : (s.memPut c off bs).memRange zc zp zi = s.memRange zc zp zi := by simp [State.memRange]
@[simp] theorem State.memPut_tarnAlloc (s : State) (c : CDie) (off : Nat) (bs : List Byte) (zc : CDie) (zp : Part) : (s.memPut c off bs).tarnAlloc zc zp = s.tarnAlloc zc zp := by simp [State.tarnAlloc]
@[simp] theorem State.memPut_cairnRange (s : State) (c : CDie) (off : Nat) (bs : List Byte) (zc : CDie) (zp : Part) : (s.memPut c off bs).cairnRange zc zp = s.cairnRange zc zp := by simp [State.cairnRange]
@[simp] theorem State.memPut_winOpen (s : State) (c : CDie) (off : Nat) (bs : List Byte) (zp : Part) : (s.memPut c off bs).winOpen zp = s.winOpen zp := by simp [State.winOpen]
@[simp] theorem State.memPut_vfOn (s : State) (c : CDie) (off : Nat) (bs : List Byte) (zp : Part) : (s.memPut c off bs).vfOn zp = s.vfOn zp := by simp [State.vfOn]
@[simp] theorem State.memPut_msfState (s : State) (c : CDie) (off : Nat) (bs : List Byte) (zc : CDie) : (s.memPut c off bs).msfState zc = s.msfState zc := by simp [State.msfState]
@[simp] theorem State.memPut_stepK (s : State) (c : CDie) (off : Nat) (bs : List Byte) (zc : CDie) : (s.memPut c off bs).stepK zc = s.stepK zc := by simp [State.stepK]
@[simp] theorem State.memPut_injection (s : State) (c : CDie) (off : Nat) (bs : List Byte) (zp : Page) (zchecker : Nat) : (s.memPut c off bs).injection zp zchecker = s.injection zp zchecker := by simp [State.injection]
@[simp] theorem State.memPut_disc (s : State) (c : CDie) (off : Nat) (bs : List Byte) : (s.memPut c off bs).disc = s.disc := by simp [State.disc]
@[simp] theorem State.memPut_pairSt (s : State) (c : CDie) (off : Nat) (bs : List Byte) : (s.memPut c off bs).pairSt = s.pairSt := by simp [State.pairSt]
@[simp] theorem State.memPut_now (s : State) (c : CDie) (off : Nat) (bs : List Byte) (zd : Die) : (s.memPut c off bs).now zd = s.now zd := by simp [State.now]
@[simp] theorem State.memPut_array (s : State) (c : CDie) (off : Nat) (bs : List Byte) (zc : CDie) : (s.memPut c off bs).array zc = s.array zc := by simp [State.array]
@[simp] theorem State.memPut_queue (s : State) (c : CDie) (off : Nat) (bs : List Byte) (zr : QRef) : (s.memPut c off bs).queue zr = s.queue zr := by simp [State.queue]
@[simp] theorem State.memPut_partQ (s : State) (c : CDie) (off : Nat) (bs : List Byte) (zp : Part) : (s.memPut c off bs).part? zp = s.part? zp := by simp [State.part?]
@[simp] theorem State.memPut_isConf (s : State) (c : CDie) (off : Nat) (bs : List Byte) (zp : Part) : (s.memPut c off bs).isConf zp = s.isConf zp := by simp [State.isConf]
@[simp] theorem State.memPut_chan (s : State) (c : CDie) (off : Nat) (bs : List Byte) (zk : Nat) : (s.memPut c off bs).chan zk = s.chan zk := by simp [State.chan]
@[simp] theorem State.memPut_agent (s : State) (c : CDie) (off : Nat) (bs : List Byte) (zk : PDie) : (s.memPut c off bs).agent zk = s.agent zk := by simp [State.agent]
@[simp] theorem State.memPut_port (s : State) (c : CDie) (off : Nat) (bs : List Byte) (zq : Port) : (s.memPut c off bs).port zq = s.port zq := by simp [State.port]
@[simp] theorem State.memPut_core (s : State) (c : CDie) (off : Nat) (bs : List Byte) (zc : CDie) (zk : Core) : (s.memPut c off bs).core zc zk = s.core zc zk := by simp [State.core]
@[simp] theorem State.memPut_cairn (s : State) (c : CDie) (off : Nat) (bs : List Byte) (zc : CDie) (zn : Nat) : (s.memPut c off bs).cairn zc zn = s.cairn zc zn := by simp [State.cairn]
@[simp] theorem State.memPut_fn (s : State) (c : CDie) (off : Nat) (bs : List Byte) (zf : Fn) : (s.memPut c off bs).fn zf = s.fn zf := by simp [State.fn]
@[simp] theorem State.memPut_wkey (s : State) (c : CDie) (off : Nat) (bs : List Byte) (zp : Part) (zprev : Bool) : (s.memPut c off bs).wkey zp zprev = s.wkey zp zprev := by simp [State.wkey]
@[simp] theorem State.memPut_tarnByte (s : State) (c : CDie) (off : Nat) (bs : List Byte) (zc : CDie) (zoff : Nat) : (s.memPut c off bs).tarnByte zc zoff = s.tarnByte zc zoff := by simp [State.tarnByte]
@[simp] theorem State.memPut_tarnGet (s : State) (c : CDie) (off : Nat) (bs : List Byte) (zc : CDie) (zoff : Nat) (zn : Nat) : (s.memPut c off bs).tarnGet zc zoff zn = s.tarnGet zc zoff zn := by simp [State.tarnGet]
@[simp] theorem State.memPut_dieDown (s : State) (c : CDie) (off : Nat) (bs : List Byte) (zc : CDie) : (s.memPut c off bs).dieDown zc = s.dieDown zc := by simp [State.dieDown]
@[simp] theorem State.memPut_nparts (s : State) (c : CDie) (off : Nat) (bs : List Byte) : (s.memPut c off bs).nparts = s.nparts := by simp [State.nparts]
@[simp] theorem State.memPut_quiet (s : State) (c : CDie) (off : Nat) (bs : List Byte) : (s.memPut c off bs).quiet = s.quiet := by simp [State.quiet]
@[simp] theorem State.memPut_settled (s : State) (c : CDie) (off : Nat) (bs : List Byte) : (s.memPut c off bs).settled = s.settled := by simp [State.settled]

/-! `memZero` writes mem, badSectors alone. -/

@[simp] theorem State.memZero_pending (s : State) (c : CDie) (off : Nat) (n : Nat) : (s.memZero c off n).pending = s.pending := by cases s; rfl
@[simp] theorem State.memZero_out (s : State) (c : CDie) (off : Nat) (n : Nat) : (s.memZero c off n).out = s.out := by cases s; rfl
@[simp] theorem State.memZero_freeCtr (s : State) (c : CDie) (off : Nat) (n : Nat) : (s.memZero c off n).freeCtr = s.freeCtr := by cases s; rfl
@[simp] theorem State.memZero_mgmtOn (s : State) (c : CDie) (off : Nat) (n : Nat) : (s.memZero c off n).mgmtOn = s.mgmtOn := by cases s; rfl
@[simp] theorem State.memZero_fuses (s : State) (c : CDie) (off : Nat) (n : Nat) : (s.memZero c off n).fuses = s.fuses := by cases s; rfl
@[simp] theorem State.memZero_straps (s : State) (c : CDie) (off : Nat) (n : Nat) : (s.memZero c off n).straps = s.straps := by cases s; rfl
@[simp] theorem State.memZero_pos (s : State) (c : CDie) (off : Nat) (n : Nat) : (s.memZero c off n).pos = s.pos := by cases s; rfl
@[simp] theorem State.memZero_regs (s : State) (c : CDie) (off : Nat) (n : Nat) : (s.memZero c off n).regs = s.regs := by cases s; rfl
@[simp] theorem State.memZero_latches (s : State) (c : CDie) (off : Nat) (n : Nat) : (s.memZero c off n).latches = s.latches := by cases s; rfl
@[simp] theorem State.memZero_gtime (s : State) (c : CDie) (off : Nat) (n : Nat) : (s.memZero c off n).gtime = s.gtime := by cases s; rfl
@[simp] theorem State.memZero_fclk (s : State) (c : CDie) (off : Nat) (n : Nat) : (s.memZero c off n).fclk = s.fclk := by cases s; rfl
@[simp] theorem State.memZero_tarn (s : State) (c : CDie) (off : Nat) (n : Nat) : (s.memZero c off n).tarn = s.tarn := by cases s; rfl
@[simp] theorem State.memZero_rowErrs (s : State) (c : CDie) (off : Nat) (n : Nat) : (s.memZero c off n).rowErrs = s.rowErrs := by cases s; rfl
@[simp] theorem State.memZero_remaps (s : State) (c : CDie) (off : Nat) (n : Nat) : (s.memZero c off n).remaps = s.remaps := by cases s; rfl
@[simp] theorem State.memZero_savedRemaps (s : State) (c : CDie) (off : Nat) (n : Nat) : (s.memZero c off n).savedRemaps = s.savedRemaps := by cases s; rfl
@[simp] theorem State.memZero_repairLog (s : State) (c : CDie) (off : Nat) (n : Nat) : (s.memZero c off n).repairLog = s.repairLog := by cases s; rfl
@[simp] theorem State.memZero_memFenced (s : State) (c : CDie) (off : Nat) (n : Nat) : (s.memZero c off n).memFenced = s.memFenced := by cases s; rfl
@[simp] theorem State.memZero_mappedGran (s : State) (c : CDie) (off : Nat) (n : Nat) : (s.memZero c off n).mappedGran = s.mappedGran := by cases s; rfl
@[simp] theorem State.memZero_zeroOrders (s : State) (c : CDie) (off : Nat) (n : Nat) : (s.memZero c off n).zeroOrders = s.zeroOrders := by cases s; rfl
@[simp] theorem State.memZero_arrays (s : State) (c : CDie) (off : Nat) (n : Nat) : (s.memZero c off n).arrays = s.arrays := by cases s; rfl
@[simp] theorem State.memZero_repairLines (s : State) (c : CDie) (off : Nat) (n : Nat) : (s.memZero c off n).repairLines = s.repairLines := by cases s; rfl
@[simp] theorem State.memZero_queues (s : State) (c : CDie) (off : Nat) (n : Nat) : (s.memZero c off n).queues = s.queues := by cases s; rfl
@[simp] theorem State.memZero_cairns (s : State) (c : CDie) (off : Nat) (n : Nat) : (s.memZero c off n).cairns = s.cairns := by cases s; rfl
@[simp] theorem State.memZero_tracks (s : State) (c : CDie) (off : Nat) (n : Nat) : (s.memZero c off n).tracks = s.tracks := by cases s; rfl
@[simp] theorem State.memZero_cores (s : State) (c : CDie) (off : Nat) (n : Nat) : (s.memZero c off n).cores = s.cores := by cases s; rfl
@[simp] theorem State.memZero_dispatches (s : State) (c : CDie) (off : Nat) (n : Nat) : (s.memZero c off n).dispatches = s.dispatches := by cases s; rfl
@[simp] theorem State.memZero_dmaRuns (s : State) (c : CDie) (off : Nat) (n : Nat) : (s.memZero c off n).dmaRuns = s.dmaRuns := by cases s; rfl
@[simp] theorem State.memZero_requests (s : State) (c : CDie) (off : Nat) (n : Nat) : (s.memZero c off n).requests = s.requests := by cases s; rfl
@[simp] theorem State.memZero_windows (s : State) (c : CDie) (off : Nat) (n : Nat) : (s.memZero c off n).windows = s.windows := by cases s; rfl
@[simp] theorem State.memZero_respUse (s : State) (c : CDie) (off : Nat) (n : Nat) : (s.memZero c off n).respUse = s.respUse := by cases s; rfl
@[simp] theorem State.memZero_nextXid (s : State) (c : CDie) (off : Nat) (n : Nat) : (s.memZero c off n).nextXid = s.nextXid := by cases s; rfl
@[simp] theorem State.memZero_nextId (s : State) (c : CDie) (off : Nat) (n : Nat) : (s.memZero c off n).nextId = s.nextId := by cases s; rfl
@[simp] theorem State.memZero_parts (s : State) (c : CDie) (off : Nat) (n : Nat) : (s.memZero c off n).parts = s.parts := by cases s; rfl
@[simp] theorem State.memZero_wkeys (s : State) (c : CDie) (off : Nat) (n : Nat) : (s.memZero c off n).wkeys = s.wkeys := by cases s; rfl
@[simp] theorem State.memZero_staging (s : State) (c : CDie) (off : Nat) (n : Nat) : (s.memZero c off n).staging = s.staging := by cases s; rfl
@[simp] theorem State.memZero_fltLog (s : State) (c : CDie) (off : Nat) (n : Nat) : (s.memZero c off n).fltLog = s.fltLog := by cases s; rfl
@[simp] theorem State.memZero_recoveryTimes (s : State) (c : CDie) (off : Nat) (n : Nat) : (s.memZero c off n).recoveryTimes = s.recoveryTimes := by cases s; rfl
@[simp] theorem State.memZero_quietPages (s : State) (c : CDie) (off : Nat) (n : Nat) : (s.memZero c off n).quietPages = s.quietPages := by cases s; rfl
@[simp] theorem State.memZero_quietParts (s : State) (c : CDie) (off : Nat) (n : Nat) : (s.memZero c off n).quietParts = s.quietParts := by cases s; rfl
@[simp] theorem State.memZero_fencedDies (s : State) (c : CDie) (off : Nat) (n : Nat) : (s.memZero c off n).fencedDies = s.fencedDies := by cases s; rfl
@[simp] theorem State.memZero_lostRails (s : State) (c : CDie) (off : Nat) (n : Nat) : (s.memZero c off n).lostRails = s.lostRails := by cases s; rfl
@[simp] theorem State.memZero_thermtrip (s : State) (c : CDie) (off : Nat) (n : Nat) : (s.memZero c off n).thermtrip = s.thermtrip := by cases s; rfl
@[simp] theorem State.memZero_chans (s : State) (c : CDie) (off : Nat) (n : Nat) : (s.memZero c off n).chans = s.chans := by cases s; rfl
@[simp] theorem State.memZero_fns (s : State) (c : CDie) (off : Nat) (n : Nat) : (s.memZero c off n).fns = s.fns := by cases s; rfl
@[simp] theorem State.memZero_bar2 (s : State) (c : CDie) (off : Nat) (n : Nat) : (s.memZero c off n).bar2 = s.bar2 := by cases s; rfl
@[simp] theorem State.memZero_held (s : State) (c : CDie) (off : Nat) (n : Nat) : (s.memZero c off n).held = s.held := by cases s; rfl
@[simp] theorem State.memZero_relayOut (s : State) (c : CDie) (off : Nat) (n : Nat) : (s.memZero c off n).relayOut = s.relayOut := by cases s; rfl
@[simp] theorem State.memZero_relayCtr (s : State) (c : CDie) (off : Nat) (n : Nat) : (s.memZero c off n).relayCtr = s.relayCtr := by cases s; rfl
@[simp] theorem State.memZero_boardSess (s : State) (c : CDie) (off : Nat) (n : Nat) : (s.memZero c off n).boardSess = s.boardSess := by cases s; rfl
@[simp] theorem State.memZero_i3c (s : State) (c : CDie) (off : Nat) (n : Nat) : (s.memZero c off n).i3c = s.i3c := by cases s; rfl
@[simp] theorem State.memZero_eid (s : State) (c : CDie) (off : Nat) (n : Nat) : (s.memZero c off n).eid = s.eid := by cases s; rfl
@[simp] theorem State.memZero_sensors (s : State) (c : CDie) (off : Nat) (n : Nat) : (s.memZero c off n).sensors = s.sensors := by cases s; rfl
@[simp] theorem State.memZero_agents (s : State) (c : CDie) (off : Nat) (n : Nat) : (s.memZero c off n).agents = s.agents := by cases s; rfl
@[simp] theorem State.memZero_ports (s : State) (c : CDie) (off : Nat) (n : Nat) : (s.memZero c off n).ports = s.ports := by cases s; rfl
@[simp] theorem State.memZero_transits (s : State) (c : CDie) (off : Nat) (n : Nat) : (s.memZero c off n).transits = s.transits := by cases s; rfl
@[simp] theorem State.memZero_d2d (s : State) (c : CDie) (off : Nat) (n : Nat) : (s.memZero c off n).d2d = s.d2d := by cases s; rfl
@[simp] theorem State.memZero_reserved (s : State) (c : CDie) (off : Nat) (n : Nat) : (s.memZero c off n).reserved = s.reserved := by cases s; rfl
@[simp] theorem State.memZero_tables (s : State) (c : CDie) (off : Nat) (n : Nat) : (s.memZero c off n).tables = s.tables := by cases s; rfl
@[simp] theorem State.memZero_d2dRuns (s : State) (c : CDie) (off : Nat) (n : Nat) : (s.memZero c off n).d2dRuns = s.d2dRuns := by cases s; rfl
@[simp] theorem State.memZero_xfers (s : State) (c : CDie) (off : Nat) (n : Nat) : (s.memZero c off n).xfers = s.xfers := by cases s; rfl
@[simp] theorem State.memZero_hotEngines (s : State) (c : CDie) (off : Nat) (n : Nat) : (s.memZero c off n).hotEngines = s.hotEngines := by cases s; rfl
@[simp] theorem State.memZero_boot (s : State) (c : CDie) (off : Nat) (n : Nat) : (s.memZero c off n).boot = s.boot := by cases s; rfl
@[simp] theorem State.memZero_plan (s : State) (c : CDie) (off : Nat) (n : Nat) : (s.memZero c off n).plan = s.plan := by cases s; rfl
@[simp] theorem State.memZero_bootPlan (s : State) (c : CDie) (off : Nat) (n : Nat) : (s.memZero c off n).bootPlan = s.bootPlan := by cases s; rfl
@[simp] theorem State.memZero_maxPlanSeq (s : State) (c : CDie) (off : Nat) (n : Nat) : (s.memZero c off n).maxPlanSeq = s.maxPlanSeq := by cases s; rfl
@[simp] theorem State.memZero_fwDigest (s : State) (c : CDie) (off : Nat) (n : Nat) : (s.memZero c off n).fwDigest = s.fwDigest := by cases s; rfl
@[simp] theorem State.memZero_fwComps (s : State) (c : CDie) (off : Nat) (n : Nat) : (s.memZero c off n).fwComps = s.fwComps := by cases s; rfl
@[simp] theorem State.memZero_flash (s : State) (c : CDie) (off : Nat) (n : Nat) : (s.memZero c off n).flash = s.flash := by cases s; rfl
@[simp] theorem State.memZero_fwStaged (s : State) (c : CDie) (off : Nat) (n : Nat) : (s.memZero c off n).fwStaged = s.fwStaged := by cases s; rfl
@[simp] theorem State.memZero_codeHeld (s : State) (c : CDie) (off : Nat) (n : Nat) : (s.memZero c off n).codeHeld = s.codeHeld := by cases s; rfl
@[simp] theorem State.memZero_codeStaged (s : State) (c : CDie) (off : Nat) (n : Nat) : (s.memZero c off n).codeStaged = s.codeStaged := by cases s; rfl
@[simp] theorem State.memZero_rcv (s : State) (c : CDie) (off : Nat) (n : Nat) : (s.memZero c off n).rcv = s.rcv := by cases s; rfl
@[simp] theorem State.memZero_dist (s : State) (c : CDie) (off : Nat) (n : Nat) : (s.memZero c off n).dist = s.dist := by cases s; rfl
@[simp] theorem State.memZero_mcReset (s : State) (c : CDie) (off : Nat) (n : Nat) : (s.memZero c off n).mcReset = s.mcReset := by cases s; rfl
@[simp] theorem State.memZero_dbgCounters (s : State) (c : CDie) (off : Nat) (n : Nat) : (s.memZero c off n).dbgCounters = s.dbgCounters := by cases s; rfl
@[simp] theorem State.memZero_unlocks (s : State) (c : CDie) (off : Nat) (n : Nat) : (s.memZero c off n).unlocks = s.unlocks := by cases s; rfl
@[simp] theorem State.memZero_power (s : State) (c : CDie) (off : Nat) (n : Nat) : (s.memZero c off n).power = s.power := by cases s; rfl
@[simp] theorem State.memZero_pkgPower (s : State) (c : CDie) (off : Nat) (n : Nat) : (s.memZero c off n).pkgPower = s.pkgPower := by cases s; rfl
@[simp] theorem State.memZero_ridge (s : State) (c : CDie) (off : Nat) (n : Nat) : (s.memZero c off n).ridge = s.ridge := by cases s; rfl
@[simp] theorem State.memZero_smt (s : State) (c : CDie) (off : Nat) (n : Nat) : (s.memZero c off n).smt = s.smt := by cases s; rfl
@[simp] theorem State.memZero_pairSess (s : State) (c : CDie) (off : Nat) (n : Nat) : (s.memZero c off n).pairSess = s.pairSess := by cases s; rfl
@[simp] theorem State.memZero_heldTerm (s : State) (c : CDie) (off : Nat) (n : Nat) : (s.memZero c off n).heldTerm = s.heldTerm := by cases s; rfl
@[simp] theorem State.memZero_heldBy (s : State) (c : CDie) (off : Nat) (n : Nat) : (s.memZero c off n).heldBy = s.heldBy := by cases s; rfl
@[simp] theorem State.memZero_rd (s : State) (c : CDie) (off : Nat) (n : Nat) (za : Nat) : (s.memZero c off n).rd za = s.rd za := by simp [State.rd]
@[simp] theorem State.memZero_fld (s : State) (c : CDie) (off : Nat) (n : Nat) (zp : Page) (zf : Field) : (s.memZero c off n).fld zp zf = s.fld zp zf := by simp [State.fld]
@[simp] theorem State.memZero_flag (s : State) (c : CDie) (off : Nat) (n : Nat) (zp : Page) (zf : Field) : (s.memZero c off n).flag zp zf = s.flag zp zf := by simp [State.flag]
@[simp] theorem State.memZero_counter (s : State) (c : CDie) (off : Nat) (n : Nat) (zp : Page) (zoff : Nat) : (s.memZero c off n).counter zp zoff = s.counter zp zoff := by unfold State.counter; rw [State.memZero_rd, State.memZero_rd]
@[simp] theorem State.memZero_counterOvf (s : State) (c : CDie) (off : Nat) (n : Nat) (zp : Page) (zoff : Nat) : (s.memZero c off n).counterOvf zp zoff = s.counterOvf zp zoff := by simp [State.counterOvf]
@[simp] theorem State.memZero_inReset (s : State) (c : CDie) (off : Nat) (n : Nat) (zd : Die) : (s.memZero c off n).inReset zd = s.inReset zd := by simp [State.inReset]
@[simp] theorem State.memZero_partState (s : State) (c : CDie) (off : Nat) (n : Nat) (zp : Part) : (s.memZero c off n).partState zp = s.partState zp := by simp [State.partState]
@[simp] theorem State.memZero_partFenced (s : State) (c : CDie) (off : Nat) (n : Nat) (zp : Part) : (s.memZero c off n).partFenced zp = s.partFenced zp := by simp [State.partFenced]
@[simp] theorem State.memZero_lnk (s : State) (c : CDie) (off : Nat) (n : Nat) (zq : Port) : (s.memZero c off n).lnk zq = s.lnk zq := by simp [State.lnk]
@[simp] theorem State.memZero_memRange (s : State) (c : CDie) (off : Nat) (n : Nat) (zc : CDie) (zp : Part) (zi : Nat) : (s.memZero c off n).memRange zc zp zi = s.memRange zc zp zi := by simp [State.memRange]
@[simp] theorem State.memZero_tarnAlloc (s : State) (c : CDie) (off : Nat) (n : Nat) (zc : CDie) (zp : Part) : (s.memZero c off n).tarnAlloc zc zp = s.tarnAlloc zc zp := by simp [State.tarnAlloc]
@[simp] theorem State.memZero_cairnRange (s : State) (c : CDie) (off : Nat) (n : Nat) (zc : CDie) (zp : Part) : (s.memZero c off n).cairnRange zc zp = s.cairnRange zc zp := by simp [State.cairnRange]
@[simp] theorem State.memZero_winOpen (s : State) (c : CDie) (off : Nat) (n : Nat) (zp : Part) : (s.memZero c off n).winOpen zp = s.winOpen zp := by simp [State.winOpen]
@[simp] theorem State.memZero_vfOn (s : State) (c : CDie) (off : Nat) (n : Nat) (zp : Part) : (s.memZero c off n).vfOn zp = s.vfOn zp := by simp [State.vfOn]
@[simp] theorem State.memZero_msfState (s : State) (c : CDie) (off : Nat) (n : Nat) (zc : CDie) : (s.memZero c off n).msfState zc = s.msfState zc := by simp [State.msfState]
@[simp] theorem State.memZero_stepK (s : State) (c : CDie) (off : Nat) (n : Nat) (zc : CDie) : (s.memZero c off n).stepK zc = s.stepK zc := by simp [State.stepK]
@[simp] theorem State.memZero_injection (s : State) (c : CDie) (off : Nat) (n : Nat) (zp : Page) (zchecker : Nat) : (s.memZero c off n).injection zp zchecker = s.injection zp zchecker := by simp [State.injection]
@[simp] theorem State.memZero_disc (s : State) (c : CDie) (off : Nat) (n : Nat) : (s.memZero c off n).disc = s.disc := by simp [State.disc]
@[simp] theorem State.memZero_pairSt (s : State) (c : CDie) (off : Nat) (n : Nat) : (s.memZero c off n).pairSt = s.pairSt := by simp [State.pairSt]
@[simp] theorem State.memZero_now (s : State) (c : CDie) (off : Nat) (n : Nat) (zd : Die) : (s.memZero c off n).now zd = s.now zd := by simp [State.now]
@[simp] theorem State.memZero_array (s : State) (c : CDie) (off : Nat) (n : Nat) (zc : CDie) : (s.memZero c off n).array zc = s.array zc := by simp [State.array]
@[simp] theorem State.memZero_queue (s : State) (c : CDie) (off : Nat) (n : Nat) (zr : QRef) : (s.memZero c off n).queue zr = s.queue zr := by simp [State.queue]
@[simp] theorem State.memZero_partQ (s : State) (c : CDie) (off : Nat) (n : Nat) (zp : Part) : (s.memZero c off n).part? zp = s.part? zp := by simp [State.part?]
@[simp] theorem State.memZero_isConf (s : State) (c : CDie) (off : Nat) (n : Nat) (zp : Part) : (s.memZero c off n).isConf zp = s.isConf zp := by simp [State.isConf]
@[simp] theorem State.memZero_chan (s : State) (c : CDie) (off : Nat) (n : Nat) (zk : Nat) : (s.memZero c off n).chan zk = s.chan zk := by simp [State.chan]
@[simp] theorem State.memZero_agent (s : State) (c : CDie) (off : Nat) (n : Nat) (zk : PDie) : (s.memZero c off n).agent zk = s.agent zk := by simp [State.agent]
@[simp] theorem State.memZero_port (s : State) (c : CDie) (off : Nat) (n : Nat) (zq : Port) : (s.memZero c off n).port zq = s.port zq := by simp [State.port]
@[simp] theorem State.memZero_core (s : State) (c : CDie) (off : Nat) (n : Nat) (zc : CDie) (zk : Core) : (s.memZero c off n).core zc zk = s.core zc zk := by simp [State.core]
@[simp] theorem State.memZero_cairn (s : State) (c : CDie) (off : Nat) (n : Nat) (zc : CDie) (zn : Nat) : (s.memZero c off n).cairn zc zn = s.cairn zc zn := by simp [State.cairn]
@[simp] theorem State.memZero_fn (s : State) (c : CDie) (off : Nat) (n : Nat) (zf : Fn) : (s.memZero c off n).fn zf = s.fn zf := by simp [State.fn]
@[simp] theorem State.memZero_wkey (s : State) (c : CDie) (off : Nat) (n : Nat) (zp : Part) (zprev : Bool) : (s.memZero c off n).wkey zp zprev = s.wkey zp zprev := by simp [State.wkey]
@[simp] theorem State.memZero_tarnByte (s : State) (c : CDie) (off : Nat) (n : Nat) (zc : CDie) (zoff : Nat) : (s.memZero c off n).tarnByte zc zoff = s.tarnByte zc zoff := by simp [State.tarnByte]
@[simp] theorem State.memZero_tarnGet (s : State) (c : CDie) (off : Nat) (n : Nat) (zc : CDie) (zoff : Nat) (zn : Nat) : (s.memZero c off n).tarnGet zc zoff zn = s.tarnGet zc zoff zn := by simp [State.tarnGet]
@[simp] theorem State.memZero_dieDown (s : State) (c : CDie) (off : Nat) (n : Nat) (zc : CDie) : (s.memZero c off n).dieDown zc = s.dieDown zc := by simp [State.dieDown]
@[simp] theorem State.memZero_nparts (s : State) (c : CDie) (off : Nat) (n : Nat) : (s.memZero c off n).nparts = s.nparts := by simp [State.nparts]
@[simp] theorem State.memZero_quiet (s : State) (c : CDie) (off : Nat) (n : Nat) : (s.memZero c off n).quiet = s.quiet := by simp [State.quiet]
@[simp] theorem State.memZero_settled (s : State) (c : CDie) (off : Nat) (n : Nat) : (s.memZero c off n).settled = s.settled := by simp [State.settled]

/-! `tarnPut` writes tarn alone. -/

@[simp] theorem State.tarnPut_pending (s : State) (c : CDie) (off : Nat) (bs : List Byte) : (s.tarnPut c off bs).pending = s.pending := by cases s; rfl
@[simp] theorem State.tarnPut_out (s : State) (c : CDie) (off : Nat) (bs : List Byte) : (s.tarnPut c off bs).out = s.out := by cases s; rfl
@[simp] theorem State.tarnPut_freeCtr (s : State) (c : CDie) (off : Nat) (bs : List Byte) : (s.tarnPut c off bs).freeCtr = s.freeCtr := by cases s; rfl
@[simp] theorem State.tarnPut_mgmtOn (s : State) (c : CDie) (off : Nat) (bs : List Byte) : (s.tarnPut c off bs).mgmtOn = s.mgmtOn := by cases s; rfl
@[simp] theorem State.tarnPut_fuses (s : State) (c : CDie) (off : Nat) (bs : List Byte) : (s.tarnPut c off bs).fuses = s.fuses := by cases s; rfl
@[simp] theorem State.tarnPut_straps (s : State) (c : CDie) (off : Nat) (bs : List Byte) : (s.tarnPut c off bs).straps = s.straps := by cases s; rfl
@[simp] theorem State.tarnPut_pos (s : State) (c : CDie) (off : Nat) (bs : List Byte) : (s.tarnPut c off bs).pos = s.pos := by cases s; rfl
@[simp] theorem State.tarnPut_regs (s : State) (c : CDie) (off : Nat) (bs : List Byte) : (s.tarnPut c off bs).regs = s.regs := by cases s; rfl
@[simp] theorem State.tarnPut_latches (s : State) (c : CDie) (off : Nat) (bs : List Byte) : (s.tarnPut c off bs).latches = s.latches := by cases s; rfl
@[simp] theorem State.tarnPut_gtime (s : State) (c : CDie) (off : Nat) (bs : List Byte) : (s.tarnPut c off bs).gtime = s.gtime := by cases s; rfl
@[simp] theorem State.tarnPut_fclk (s : State) (c : CDie) (off : Nat) (bs : List Byte) : (s.tarnPut c off bs).fclk = s.fclk := by cases s; rfl
@[simp] theorem State.tarnPut_mem (s : State) (c : CDie) (off : Nat) (bs : List Byte) : (s.tarnPut c off bs).mem = s.mem := by cases s; rfl
@[simp] theorem State.tarnPut_rowErrs (s : State) (c : CDie) (off : Nat) (bs : List Byte) : (s.tarnPut c off bs).rowErrs = s.rowErrs := by cases s; rfl
@[simp] theorem State.tarnPut_remaps (s : State) (c : CDie) (off : Nat) (bs : List Byte) : (s.tarnPut c off bs).remaps = s.remaps := by cases s; rfl
@[simp] theorem State.tarnPut_savedRemaps (s : State) (c : CDie) (off : Nat) (bs : List Byte) : (s.tarnPut c off bs).savedRemaps = s.savedRemaps := by cases s; rfl
@[simp] theorem State.tarnPut_repairLog (s : State) (c : CDie) (off : Nat) (bs : List Byte) : (s.tarnPut c off bs).repairLog = s.repairLog := by cases s; rfl
@[simp] theorem State.tarnPut_badSectors (s : State) (c : CDie) (off : Nat) (bs : List Byte) : (s.tarnPut c off bs).badSectors = s.badSectors := by cases s; rfl
@[simp] theorem State.tarnPut_memFenced (s : State) (c : CDie) (off : Nat) (bs : List Byte) : (s.tarnPut c off bs).memFenced = s.memFenced := by cases s; rfl
@[simp] theorem State.tarnPut_mappedGran (s : State) (c : CDie) (off : Nat) (bs : List Byte) : (s.tarnPut c off bs).mappedGran = s.mappedGran := by cases s; rfl
@[simp] theorem State.tarnPut_zeroOrders (s : State) (c : CDie) (off : Nat) (bs : List Byte) : (s.tarnPut c off bs).zeroOrders = s.zeroOrders := by cases s; rfl
@[simp] theorem State.tarnPut_arrays (s : State) (c : CDie) (off : Nat) (bs : List Byte) : (s.tarnPut c off bs).arrays = s.arrays := by cases s; rfl
@[simp] theorem State.tarnPut_repairLines (s : State) (c : CDie) (off : Nat) (bs : List Byte) : (s.tarnPut c off bs).repairLines = s.repairLines := by cases s; rfl
@[simp] theorem State.tarnPut_queues (s : State) (c : CDie) (off : Nat) (bs : List Byte) : (s.tarnPut c off bs).queues = s.queues := by cases s; rfl
@[simp] theorem State.tarnPut_cairns (s : State) (c : CDie) (off : Nat) (bs : List Byte) : (s.tarnPut c off bs).cairns = s.cairns := by cases s; rfl
@[simp] theorem State.tarnPut_tracks (s : State) (c : CDie) (off : Nat) (bs : List Byte) : (s.tarnPut c off bs).tracks = s.tracks := by cases s; rfl
@[simp] theorem State.tarnPut_cores (s : State) (c : CDie) (off : Nat) (bs : List Byte) : (s.tarnPut c off bs).cores = s.cores := by cases s; rfl
@[simp] theorem State.tarnPut_dispatches (s : State) (c : CDie) (off : Nat) (bs : List Byte) : (s.tarnPut c off bs).dispatches = s.dispatches := by cases s; rfl
@[simp] theorem State.tarnPut_dmaRuns (s : State) (c : CDie) (off : Nat) (bs : List Byte) : (s.tarnPut c off bs).dmaRuns = s.dmaRuns := by cases s; rfl
@[simp] theorem State.tarnPut_requests (s : State) (c : CDie) (off : Nat) (bs : List Byte) : (s.tarnPut c off bs).requests = s.requests := by cases s; rfl
@[simp] theorem State.tarnPut_windows (s : State) (c : CDie) (off : Nat) (bs : List Byte) : (s.tarnPut c off bs).windows = s.windows := by cases s; rfl
@[simp] theorem State.tarnPut_respUse (s : State) (c : CDie) (off : Nat) (bs : List Byte) : (s.tarnPut c off bs).respUse = s.respUse := by cases s; rfl
@[simp] theorem State.tarnPut_nextXid (s : State) (c : CDie) (off : Nat) (bs : List Byte) : (s.tarnPut c off bs).nextXid = s.nextXid := by cases s; rfl
@[simp] theorem State.tarnPut_nextId (s : State) (c : CDie) (off : Nat) (bs : List Byte) : (s.tarnPut c off bs).nextId = s.nextId := by cases s; rfl
@[simp] theorem State.tarnPut_parts (s : State) (c : CDie) (off : Nat) (bs : List Byte) : (s.tarnPut c off bs).parts = s.parts := by cases s; rfl
@[simp] theorem State.tarnPut_wkeys (s : State) (c : CDie) (off : Nat) (bs : List Byte) : (s.tarnPut c off bs).wkeys = s.wkeys := by cases s; rfl
@[simp] theorem State.tarnPut_staging (s : State) (c : CDie) (off : Nat) (bs : List Byte) : (s.tarnPut c off bs).staging = s.staging := by cases s; rfl
@[simp] theorem State.tarnPut_fltLog (s : State) (c : CDie) (off : Nat) (bs : List Byte) : (s.tarnPut c off bs).fltLog = s.fltLog := by cases s; rfl
@[simp] theorem State.tarnPut_recoveryTimes (s : State) (c : CDie) (off : Nat) (bs : List Byte) : (s.tarnPut c off bs).recoveryTimes = s.recoveryTimes := by cases s; rfl
@[simp] theorem State.tarnPut_quietPages (s : State) (c : CDie) (off : Nat) (bs : List Byte) : (s.tarnPut c off bs).quietPages = s.quietPages := by cases s; rfl
@[simp] theorem State.tarnPut_quietParts (s : State) (c : CDie) (off : Nat) (bs : List Byte) : (s.tarnPut c off bs).quietParts = s.quietParts := by cases s; rfl
@[simp] theorem State.tarnPut_fencedDies (s : State) (c : CDie) (off : Nat) (bs : List Byte) : (s.tarnPut c off bs).fencedDies = s.fencedDies := by cases s; rfl
@[simp] theorem State.tarnPut_lostRails (s : State) (c : CDie) (off : Nat) (bs : List Byte) : (s.tarnPut c off bs).lostRails = s.lostRails := by cases s; rfl
@[simp] theorem State.tarnPut_thermtrip (s : State) (c : CDie) (off : Nat) (bs : List Byte) : (s.tarnPut c off bs).thermtrip = s.thermtrip := by cases s; rfl
@[simp] theorem State.tarnPut_chans (s : State) (c : CDie) (off : Nat) (bs : List Byte) : (s.tarnPut c off bs).chans = s.chans := by cases s; rfl
@[simp] theorem State.tarnPut_fns (s : State) (c : CDie) (off : Nat) (bs : List Byte) : (s.tarnPut c off bs).fns = s.fns := by cases s; rfl
@[simp] theorem State.tarnPut_bar2 (s : State) (c : CDie) (off : Nat) (bs : List Byte) : (s.tarnPut c off bs).bar2 = s.bar2 := by cases s; rfl
@[simp] theorem State.tarnPut_held (s : State) (c : CDie) (off : Nat) (bs : List Byte) : (s.tarnPut c off bs).held = s.held := by cases s; rfl
@[simp] theorem State.tarnPut_relayOut (s : State) (c : CDie) (off : Nat) (bs : List Byte) : (s.tarnPut c off bs).relayOut = s.relayOut := by cases s; rfl
@[simp] theorem State.tarnPut_relayCtr (s : State) (c : CDie) (off : Nat) (bs : List Byte) : (s.tarnPut c off bs).relayCtr = s.relayCtr := by cases s; rfl
@[simp] theorem State.tarnPut_boardSess (s : State) (c : CDie) (off : Nat) (bs : List Byte) : (s.tarnPut c off bs).boardSess = s.boardSess := by cases s; rfl
@[simp] theorem State.tarnPut_i3c (s : State) (c : CDie) (off : Nat) (bs : List Byte) : (s.tarnPut c off bs).i3c = s.i3c := by cases s; rfl
@[simp] theorem State.tarnPut_eid (s : State) (c : CDie) (off : Nat) (bs : List Byte) : (s.tarnPut c off bs).eid = s.eid := by cases s; rfl
@[simp] theorem State.tarnPut_sensors (s : State) (c : CDie) (off : Nat) (bs : List Byte) : (s.tarnPut c off bs).sensors = s.sensors := by cases s; rfl
@[simp] theorem State.tarnPut_agents (s : State) (c : CDie) (off : Nat) (bs : List Byte) : (s.tarnPut c off bs).agents = s.agents := by cases s; rfl
@[simp] theorem State.tarnPut_ports (s : State) (c : CDie) (off : Nat) (bs : List Byte) : (s.tarnPut c off bs).ports = s.ports := by cases s; rfl
@[simp] theorem State.tarnPut_transits (s : State) (c : CDie) (off : Nat) (bs : List Byte) : (s.tarnPut c off bs).transits = s.transits := by cases s; rfl
@[simp] theorem State.tarnPut_d2d (s : State) (c : CDie) (off : Nat) (bs : List Byte) : (s.tarnPut c off bs).d2d = s.d2d := by cases s; rfl
@[simp] theorem State.tarnPut_reserved (s : State) (c : CDie) (off : Nat) (bs : List Byte) : (s.tarnPut c off bs).reserved = s.reserved := by cases s; rfl
@[simp] theorem State.tarnPut_tables (s : State) (c : CDie) (off : Nat) (bs : List Byte) : (s.tarnPut c off bs).tables = s.tables := by cases s; rfl
@[simp] theorem State.tarnPut_d2dRuns (s : State) (c : CDie) (off : Nat) (bs : List Byte) : (s.tarnPut c off bs).d2dRuns = s.d2dRuns := by cases s; rfl
@[simp] theorem State.tarnPut_xfers (s : State) (c : CDie) (off : Nat) (bs : List Byte) : (s.tarnPut c off bs).xfers = s.xfers := by cases s; rfl
@[simp] theorem State.tarnPut_hotEngines (s : State) (c : CDie) (off : Nat) (bs : List Byte) : (s.tarnPut c off bs).hotEngines = s.hotEngines := by cases s; rfl
@[simp] theorem State.tarnPut_boot (s : State) (c : CDie) (off : Nat) (bs : List Byte) : (s.tarnPut c off bs).boot = s.boot := by cases s; rfl
@[simp] theorem State.tarnPut_plan (s : State) (c : CDie) (off : Nat) (bs : List Byte) : (s.tarnPut c off bs).plan = s.plan := by cases s; rfl
@[simp] theorem State.tarnPut_bootPlan (s : State) (c : CDie) (off : Nat) (bs : List Byte) : (s.tarnPut c off bs).bootPlan = s.bootPlan := by cases s; rfl
@[simp] theorem State.tarnPut_maxPlanSeq (s : State) (c : CDie) (off : Nat) (bs : List Byte) : (s.tarnPut c off bs).maxPlanSeq = s.maxPlanSeq := by cases s; rfl
@[simp] theorem State.tarnPut_fwDigest (s : State) (c : CDie) (off : Nat) (bs : List Byte) : (s.tarnPut c off bs).fwDigest = s.fwDigest := by cases s; rfl
@[simp] theorem State.tarnPut_fwComps (s : State) (c : CDie) (off : Nat) (bs : List Byte) : (s.tarnPut c off bs).fwComps = s.fwComps := by cases s; rfl
@[simp] theorem State.tarnPut_flash (s : State) (c : CDie) (off : Nat) (bs : List Byte) : (s.tarnPut c off bs).flash = s.flash := by cases s; rfl
@[simp] theorem State.tarnPut_fwStaged (s : State) (c : CDie) (off : Nat) (bs : List Byte) : (s.tarnPut c off bs).fwStaged = s.fwStaged := by cases s; rfl
@[simp] theorem State.tarnPut_codeHeld (s : State) (c : CDie) (off : Nat) (bs : List Byte) : (s.tarnPut c off bs).codeHeld = s.codeHeld := by cases s; rfl
@[simp] theorem State.tarnPut_codeStaged (s : State) (c : CDie) (off : Nat) (bs : List Byte) : (s.tarnPut c off bs).codeStaged = s.codeStaged := by cases s; rfl
@[simp] theorem State.tarnPut_rcv (s : State) (c : CDie) (off : Nat) (bs : List Byte) : (s.tarnPut c off bs).rcv = s.rcv := by cases s; rfl
@[simp] theorem State.tarnPut_dist (s : State) (c : CDie) (off : Nat) (bs : List Byte) : (s.tarnPut c off bs).dist = s.dist := by cases s; rfl
@[simp] theorem State.tarnPut_mcReset (s : State) (c : CDie) (off : Nat) (bs : List Byte) : (s.tarnPut c off bs).mcReset = s.mcReset := by cases s; rfl
@[simp] theorem State.tarnPut_dbgCounters (s : State) (c : CDie) (off : Nat) (bs : List Byte) : (s.tarnPut c off bs).dbgCounters = s.dbgCounters := by cases s; rfl
@[simp] theorem State.tarnPut_unlocks (s : State) (c : CDie) (off : Nat) (bs : List Byte) : (s.tarnPut c off bs).unlocks = s.unlocks := by cases s; rfl
@[simp] theorem State.tarnPut_power (s : State) (c : CDie) (off : Nat) (bs : List Byte) : (s.tarnPut c off bs).power = s.power := by cases s; rfl
@[simp] theorem State.tarnPut_pkgPower (s : State) (c : CDie) (off : Nat) (bs : List Byte) : (s.tarnPut c off bs).pkgPower = s.pkgPower := by cases s; rfl
@[simp] theorem State.tarnPut_ridge (s : State) (c : CDie) (off : Nat) (bs : List Byte) : (s.tarnPut c off bs).ridge = s.ridge := by cases s; rfl
@[simp] theorem State.tarnPut_smt (s : State) (c : CDie) (off : Nat) (bs : List Byte) : (s.tarnPut c off bs).smt = s.smt := by cases s; rfl
@[simp] theorem State.tarnPut_pairSess (s : State) (c : CDie) (off : Nat) (bs : List Byte) : (s.tarnPut c off bs).pairSess = s.pairSess := by cases s; rfl
@[simp] theorem State.tarnPut_heldTerm (s : State) (c : CDie) (off : Nat) (bs : List Byte) : (s.tarnPut c off bs).heldTerm = s.heldTerm := by cases s; rfl
@[simp] theorem State.tarnPut_heldBy (s : State) (c : CDie) (off : Nat) (bs : List Byte) : (s.tarnPut c off bs).heldBy = s.heldBy := by cases s; rfl
@[simp] theorem State.tarnPut_rd (s : State) (c : CDie) (off : Nat) (bs : List Byte) (za : Nat) : (s.tarnPut c off bs).rd za = s.rd za := by simp [State.rd]
@[simp] theorem State.tarnPut_fld (s : State) (c : CDie) (off : Nat) (bs : List Byte) (zp : Page) (zf : Field) : (s.tarnPut c off bs).fld zp zf = s.fld zp zf := by simp [State.fld]
@[simp] theorem State.tarnPut_flag (s : State) (c : CDie) (off : Nat) (bs : List Byte) (zp : Page) (zf : Field) : (s.tarnPut c off bs).flag zp zf = s.flag zp zf := by simp [State.flag]
@[simp] theorem State.tarnPut_counter (s : State) (c : CDie) (off : Nat) (bs : List Byte) (zp : Page) (zoff : Nat) : (s.tarnPut c off bs).counter zp zoff = s.counter zp zoff := by unfold State.counter; rw [State.tarnPut_rd, State.tarnPut_rd]
@[simp] theorem State.tarnPut_counterOvf (s : State) (c : CDie) (off : Nat) (bs : List Byte) (zp : Page) (zoff : Nat) : (s.tarnPut c off bs).counterOvf zp zoff = s.counterOvf zp zoff := by simp [State.counterOvf]
@[simp] theorem State.tarnPut_inReset (s : State) (c : CDie) (off : Nat) (bs : List Byte) (zd : Die) : (s.tarnPut c off bs).inReset zd = s.inReset zd := by simp [State.inReset]
@[simp] theorem State.tarnPut_partState (s : State) (c : CDie) (off : Nat) (bs : List Byte) (zp : Part) : (s.tarnPut c off bs).partState zp = s.partState zp := by simp [State.partState]
@[simp] theorem State.tarnPut_partFenced (s : State) (c : CDie) (off : Nat) (bs : List Byte) (zp : Part) : (s.tarnPut c off bs).partFenced zp = s.partFenced zp := by simp [State.partFenced]
@[simp] theorem State.tarnPut_lnk (s : State) (c : CDie) (off : Nat) (bs : List Byte) (zq : Port) : (s.tarnPut c off bs).lnk zq = s.lnk zq := by simp [State.lnk]
@[simp] theorem State.tarnPut_memRange (s : State) (c : CDie) (off : Nat) (bs : List Byte) (zc : CDie) (zp : Part) (zi : Nat) : (s.tarnPut c off bs).memRange zc zp zi = s.memRange zc zp zi := by simp [State.memRange]
@[simp] theorem State.tarnPut_tarnAlloc (s : State) (c : CDie) (off : Nat) (bs : List Byte) (zc : CDie) (zp : Part) : (s.tarnPut c off bs).tarnAlloc zc zp = s.tarnAlloc zc zp := by simp [State.tarnAlloc]
@[simp] theorem State.tarnPut_cairnRange (s : State) (c : CDie) (off : Nat) (bs : List Byte) (zc : CDie) (zp : Part) : (s.tarnPut c off bs).cairnRange zc zp = s.cairnRange zc zp := by simp [State.cairnRange]
@[simp] theorem State.tarnPut_winOpen (s : State) (c : CDie) (off : Nat) (bs : List Byte) (zp : Part) : (s.tarnPut c off bs).winOpen zp = s.winOpen zp := by simp [State.winOpen]
@[simp] theorem State.tarnPut_vfOn (s : State) (c : CDie) (off : Nat) (bs : List Byte) (zp : Part) : (s.tarnPut c off bs).vfOn zp = s.vfOn zp := by simp [State.vfOn]
@[simp] theorem State.tarnPut_msfState (s : State) (c : CDie) (off : Nat) (bs : List Byte) (zc : CDie) : (s.tarnPut c off bs).msfState zc = s.msfState zc := by simp [State.msfState]
@[simp] theorem State.tarnPut_stepK (s : State) (c : CDie) (off : Nat) (bs : List Byte) (zc : CDie) : (s.tarnPut c off bs).stepK zc = s.stepK zc := by simp [State.stepK]
@[simp] theorem State.tarnPut_injection (s : State) (c : CDie) (off : Nat) (bs : List Byte) (zp : Page) (zchecker : Nat) : (s.tarnPut c off bs).injection zp zchecker = s.injection zp zchecker := by simp [State.injection]
@[simp] theorem State.tarnPut_disc (s : State) (c : CDie) (off : Nat) (bs : List Byte) : (s.tarnPut c off bs).disc = s.disc := by simp [State.disc]
@[simp] theorem State.tarnPut_pairSt (s : State) (c : CDie) (off : Nat) (bs : List Byte) : (s.tarnPut c off bs).pairSt = s.pairSt := by simp [State.pairSt]
@[simp] theorem State.tarnPut_now (s : State) (c : CDie) (off : Nat) (bs : List Byte) (zd : Die) : (s.tarnPut c off bs).now zd = s.now zd := by simp [State.now]
@[simp] theorem State.tarnPut_array (s : State) (c : CDie) (off : Nat) (bs : List Byte) (zc : CDie) : (s.tarnPut c off bs).array zc = s.array zc := by simp [State.array]
@[simp] theorem State.tarnPut_queue (s : State) (c : CDie) (off : Nat) (bs : List Byte) (zr : QRef) : (s.tarnPut c off bs).queue zr = s.queue zr := by simp [State.queue]
@[simp] theorem State.tarnPut_partQ (s : State) (c : CDie) (off : Nat) (bs : List Byte) (zp : Part) : (s.tarnPut c off bs).part? zp = s.part? zp := by simp [State.part?]
@[simp] theorem State.tarnPut_isConf (s : State) (c : CDie) (off : Nat) (bs : List Byte) (zp : Part) : (s.tarnPut c off bs).isConf zp = s.isConf zp := by simp [State.isConf]
@[simp] theorem State.tarnPut_chan (s : State) (c : CDie) (off : Nat) (bs : List Byte) (zk : Nat) : (s.tarnPut c off bs).chan zk = s.chan zk := by simp [State.chan]
@[simp] theorem State.tarnPut_agent (s : State) (c : CDie) (off : Nat) (bs : List Byte) (zk : PDie) : (s.tarnPut c off bs).agent zk = s.agent zk := by simp [State.agent]
@[simp] theorem State.tarnPut_port (s : State) (c : CDie) (off : Nat) (bs : List Byte) (zq : Port) : (s.tarnPut c off bs).port zq = s.port zq := by simp [State.port]
@[simp] theorem State.tarnPut_core (s : State) (c : CDie) (off : Nat) (bs : List Byte) (zc : CDie) (zk : Core) : (s.tarnPut c off bs).core zc zk = s.core zc zk := by simp [State.core]
@[simp] theorem State.tarnPut_cairn (s : State) (c : CDie) (off : Nat) (bs : List Byte) (zc : CDie) (zn : Nat) : (s.tarnPut c off bs).cairn zc zn = s.cairn zc zn := by simp [State.cairn]
@[simp] theorem State.tarnPut_fn (s : State) (c : CDie) (off : Nat) (bs : List Byte) (zf : Fn) : (s.tarnPut c off bs).fn zf = s.fn zf := by simp [State.fn]
@[simp] theorem State.tarnPut_wkey (s : State) (c : CDie) (off : Nat) (bs : List Byte) (zp : Part) (zprev : Bool) : (s.tarnPut c off bs).wkey zp zprev = s.wkey zp zprev := by simp [State.wkey]
@[simp] theorem State.tarnPut_memByte (s : State) (c : CDie) (off : Nat) (bs : List Byte) (zc : CDie) (zoff : Nat) : (s.tarnPut c off bs).memByte zc zoff = s.memByte zc zoff := by simp [State.memByte]
@[simp] theorem State.tarnPut_memGet (s : State) (c : CDie) (off : Nat) (bs : List Byte) (zc : CDie) (zoff : Nat) (zn : Nat) : (s.tarnPut c off bs).memGet zc zoff zn = s.memGet zc zoff zn := by simp [State.memGet]
@[simp] theorem State.tarnPut_dieDown (s : State) (c : CDie) (off : Nat) (bs : List Byte) (zc : CDie) : (s.tarnPut c off bs).dieDown zc = s.dieDown zc := by simp [State.dieDown]
@[simp] theorem State.tarnPut_nparts (s : State) (c : CDie) (off : Nat) (bs : List Byte) : (s.tarnPut c off bs).nparts = s.nparts := by simp [State.nparts]
@[simp] theorem State.tarnPut_quiet (s : State) (c : CDie) (off : Nat) (bs : List Byte) : (s.tarnPut c off bs).quiet = s.quiet := by simp [State.quiet]
@[simp] theorem State.tarnPut_settled (s : State) (c : CDie) (off : Nat) (bs : List Byte) : (s.tarnPut c off bs).settled = s.settled := by simp [State.settled]

/-! `tarnZero` writes tarn alone. -/

@[simp] theorem State.tarnZero_pending (s : State) (c : CDie) (off : Nat) (n : Nat) : (s.tarnZero c off n).pending = s.pending := by cases s; rfl
@[simp] theorem State.tarnZero_out (s : State) (c : CDie) (off : Nat) (n : Nat) : (s.tarnZero c off n).out = s.out := by cases s; rfl
@[simp] theorem State.tarnZero_freeCtr (s : State) (c : CDie) (off : Nat) (n : Nat) : (s.tarnZero c off n).freeCtr = s.freeCtr := by cases s; rfl
@[simp] theorem State.tarnZero_mgmtOn (s : State) (c : CDie) (off : Nat) (n : Nat) : (s.tarnZero c off n).mgmtOn = s.mgmtOn := by cases s; rfl
@[simp] theorem State.tarnZero_fuses (s : State) (c : CDie) (off : Nat) (n : Nat) : (s.tarnZero c off n).fuses = s.fuses := by cases s; rfl
@[simp] theorem State.tarnZero_straps (s : State) (c : CDie) (off : Nat) (n : Nat) : (s.tarnZero c off n).straps = s.straps := by cases s; rfl
@[simp] theorem State.tarnZero_pos (s : State) (c : CDie) (off : Nat) (n : Nat) : (s.tarnZero c off n).pos = s.pos := by cases s; rfl
@[simp] theorem State.tarnZero_regs (s : State) (c : CDie) (off : Nat) (n : Nat) : (s.tarnZero c off n).regs = s.regs := by cases s; rfl
@[simp] theorem State.tarnZero_latches (s : State) (c : CDie) (off : Nat) (n : Nat) : (s.tarnZero c off n).latches = s.latches := by cases s; rfl
@[simp] theorem State.tarnZero_gtime (s : State) (c : CDie) (off : Nat) (n : Nat) : (s.tarnZero c off n).gtime = s.gtime := by cases s; rfl
@[simp] theorem State.tarnZero_fclk (s : State) (c : CDie) (off : Nat) (n : Nat) : (s.tarnZero c off n).fclk = s.fclk := by cases s; rfl
@[simp] theorem State.tarnZero_mem (s : State) (c : CDie) (off : Nat) (n : Nat) : (s.tarnZero c off n).mem = s.mem := by cases s; rfl
@[simp] theorem State.tarnZero_rowErrs (s : State) (c : CDie) (off : Nat) (n : Nat) : (s.tarnZero c off n).rowErrs = s.rowErrs := by cases s; rfl
@[simp] theorem State.tarnZero_remaps (s : State) (c : CDie) (off : Nat) (n : Nat) : (s.tarnZero c off n).remaps = s.remaps := by cases s; rfl
@[simp] theorem State.tarnZero_savedRemaps (s : State) (c : CDie) (off : Nat) (n : Nat) : (s.tarnZero c off n).savedRemaps = s.savedRemaps := by cases s; rfl
@[simp] theorem State.tarnZero_repairLog (s : State) (c : CDie) (off : Nat) (n : Nat) : (s.tarnZero c off n).repairLog = s.repairLog := by cases s; rfl
@[simp] theorem State.tarnZero_badSectors (s : State) (c : CDie) (off : Nat) (n : Nat) : (s.tarnZero c off n).badSectors = s.badSectors := by cases s; rfl
@[simp] theorem State.tarnZero_memFenced (s : State) (c : CDie) (off : Nat) (n : Nat) : (s.tarnZero c off n).memFenced = s.memFenced := by cases s; rfl
@[simp] theorem State.tarnZero_mappedGran (s : State) (c : CDie) (off : Nat) (n : Nat) : (s.tarnZero c off n).mappedGran = s.mappedGran := by cases s; rfl
@[simp] theorem State.tarnZero_zeroOrders (s : State) (c : CDie) (off : Nat) (n : Nat) : (s.tarnZero c off n).zeroOrders = s.zeroOrders := by cases s; rfl
@[simp] theorem State.tarnZero_arrays (s : State) (c : CDie) (off : Nat) (n : Nat) : (s.tarnZero c off n).arrays = s.arrays := by cases s; rfl
@[simp] theorem State.tarnZero_repairLines (s : State) (c : CDie) (off : Nat) (n : Nat) : (s.tarnZero c off n).repairLines = s.repairLines := by cases s; rfl
@[simp] theorem State.tarnZero_queues (s : State) (c : CDie) (off : Nat) (n : Nat) : (s.tarnZero c off n).queues = s.queues := by cases s; rfl
@[simp] theorem State.tarnZero_cairns (s : State) (c : CDie) (off : Nat) (n : Nat) : (s.tarnZero c off n).cairns = s.cairns := by cases s; rfl
@[simp] theorem State.tarnZero_tracks (s : State) (c : CDie) (off : Nat) (n : Nat) : (s.tarnZero c off n).tracks = s.tracks := by cases s; rfl
@[simp] theorem State.tarnZero_cores (s : State) (c : CDie) (off : Nat) (n : Nat) : (s.tarnZero c off n).cores = s.cores := by cases s; rfl
@[simp] theorem State.tarnZero_dispatches (s : State) (c : CDie) (off : Nat) (n : Nat) : (s.tarnZero c off n).dispatches = s.dispatches := by cases s; rfl
@[simp] theorem State.tarnZero_dmaRuns (s : State) (c : CDie) (off : Nat) (n : Nat) : (s.tarnZero c off n).dmaRuns = s.dmaRuns := by cases s; rfl
@[simp] theorem State.tarnZero_requests (s : State) (c : CDie) (off : Nat) (n : Nat) : (s.tarnZero c off n).requests = s.requests := by cases s; rfl
@[simp] theorem State.tarnZero_windows (s : State) (c : CDie) (off : Nat) (n : Nat) : (s.tarnZero c off n).windows = s.windows := by cases s; rfl
@[simp] theorem State.tarnZero_respUse (s : State) (c : CDie) (off : Nat) (n : Nat) : (s.tarnZero c off n).respUse = s.respUse := by cases s; rfl
@[simp] theorem State.tarnZero_nextXid (s : State) (c : CDie) (off : Nat) (n : Nat) : (s.tarnZero c off n).nextXid = s.nextXid := by cases s; rfl
@[simp] theorem State.tarnZero_nextId (s : State) (c : CDie) (off : Nat) (n : Nat) : (s.tarnZero c off n).nextId = s.nextId := by cases s; rfl
@[simp] theorem State.tarnZero_parts (s : State) (c : CDie) (off : Nat) (n : Nat) : (s.tarnZero c off n).parts = s.parts := by cases s; rfl
@[simp] theorem State.tarnZero_wkeys (s : State) (c : CDie) (off : Nat) (n : Nat) : (s.tarnZero c off n).wkeys = s.wkeys := by cases s; rfl
@[simp] theorem State.tarnZero_staging (s : State) (c : CDie) (off : Nat) (n : Nat) : (s.tarnZero c off n).staging = s.staging := by cases s; rfl
@[simp] theorem State.tarnZero_fltLog (s : State) (c : CDie) (off : Nat) (n : Nat) : (s.tarnZero c off n).fltLog = s.fltLog := by cases s; rfl
@[simp] theorem State.tarnZero_recoveryTimes (s : State) (c : CDie) (off : Nat) (n : Nat) : (s.tarnZero c off n).recoveryTimes = s.recoveryTimes := by cases s; rfl
@[simp] theorem State.tarnZero_quietPages (s : State) (c : CDie) (off : Nat) (n : Nat) : (s.tarnZero c off n).quietPages = s.quietPages := by cases s; rfl
@[simp] theorem State.tarnZero_quietParts (s : State) (c : CDie) (off : Nat) (n : Nat) : (s.tarnZero c off n).quietParts = s.quietParts := by cases s; rfl
@[simp] theorem State.tarnZero_fencedDies (s : State) (c : CDie) (off : Nat) (n : Nat) : (s.tarnZero c off n).fencedDies = s.fencedDies := by cases s; rfl
@[simp] theorem State.tarnZero_lostRails (s : State) (c : CDie) (off : Nat) (n : Nat) : (s.tarnZero c off n).lostRails = s.lostRails := by cases s; rfl
@[simp] theorem State.tarnZero_thermtrip (s : State) (c : CDie) (off : Nat) (n : Nat) : (s.tarnZero c off n).thermtrip = s.thermtrip := by cases s; rfl
@[simp] theorem State.tarnZero_chans (s : State) (c : CDie) (off : Nat) (n : Nat) : (s.tarnZero c off n).chans = s.chans := by cases s; rfl
@[simp] theorem State.tarnZero_fns (s : State) (c : CDie) (off : Nat) (n : Nat) : (s.tarnZero c off n).fns = s.fns := by cases s; rfl
@[simp] theorem State.tarnZero_bar2 (s : State) (c : CDie) (off : Nat) (n : Nat) : (s.tarnZero c off n).bar2 = s.bar2 := by cases s; rfl
@[simp] theorem State.tarnZero_held (s : State) (c : CDie) (off : Nat) (n : Nat) : (s.tarnZero c off n).held = s.held := by cases s; rfl
@[simp] theorem State.tarnZero_relayOut (s : State) (c : CDie) (off : Nat) (n : Nat) : (s.tarnZero c off n).relayOut = s.relayOut := by cases s; rfl
@[simp] theorem State.tarnZero_relayCtr (s : State) (c : CDie) (off : Nat) (n : Nat) : (s.tarnZero c off n).relayCtr = s.relayCtr := by cases s; rfl
@[simp] theorem State.tarnZero_boardSess (s : State) (c : CDie) (off : Nat) (n : Nat) : (s.tarnZero c off n).boardSess = s.boardSess := by cases s; rfl
@[simp] theorem State.tarnZero_i3c (s : State) (c : CDie) (off : Nat) (n : Nat) : (s.tarnZero c off n).i3c = s.i3c := by cases s; rfl
@[simp] theorem State.tarnZero_eid (s : State) (c : CDie) (off : Nat) (n : Nat) : (s.tarnZero c off n).eid = s.eid := by cases s; rfl
@[simp] theorem State.tarnZero_sensors (s : State) (c : CDie) (off : Nat) (n : Nat) : (s.tarnZero c off n).sensors = s.sensors := by cases s; rfl
@[simp] theorem State.tarnZero_agents (s : State) (c : CDie) (off : Nat) (n : Nat) : (s.tarnZero c off n).agents = s.agents := by cases s; rfl
@[simp] theorem State.tarnZero_ports (s : State) (c : CDie) (off : Nat) (n : Nat) : (s.tarnZero c off n).ports = s.ports := by cases s; rfl
@[simp] theorem State.tarnZero_transits (s : State) (c : CDie) (off : Nat) (n : Nat) : (s.tarnZero c off n).transits = s.transits := by cases s; rfl
@[simp] theorem State.tarnZero_d2d (s : State) (c : CDie) (off : Nat) (n : Nat) : (s.tarnZero c off n).d2d = s.d2d := by cases s; rfl
@[simp] theorem State.tarnZero_reserved (s : State) (c : CDie) (off : Nat) (n : Nat) : (s.tarnZero c off n).reserved = s.reserved := by cases s; rfl
@[simp] theorem State.tarnZero_tables (s : State) (c : CDie) (off : Nat) (n : Nat) : (s.tarnZero c off n).tables = s.tables := by cases s; rfl
@[simp] theorem State.tarnZero_d2dRuns (s : State) (c : CDie) (off : Nat) (n : Nat) : (s.tarnZero c off n).d2dRuns = s.d2dRuns := by cases s; rfl
@[simp] theorem State.tarnZero_xfers (s : State) (c : CDie) (off : Nat) (n : Nat) : (s.tarnZero c off n).xfers = s.xfers := by cases s; rfl
@[simp] theorem State.tarnZero_hotEngines (s : State) (c : CDie) (off : Nat) (n : Nat) : (s.tarnZero c off n).hotEngines = s.hotEngines := by cases s; rfl
@[simp] theorem State.tarnZero_boot (s : State) (c : CDie) (off : Nat) (n : Nat) : (s.tarnZero c off n).boot = s.boot := by cases s; rfl
@[simp] theorem State.tarnZero_plan (s : State) (c : CDie) (off : Nat) (n : Nat) : (s.tarnZero c off n).plan = s.plan := by cases s; rfl
@[simp] theorem State.tarnZero_bootPlan (s : State) (c : CDie) (off : Nat) (n : Nat) : (s.tarnZero c off n).bootPlan = s.bootPlan := by cases s; rfl
@[simp] theorem State.tarnZero_maxPlanSeq (s : State) (c : CDie) (off : Nat) (n : Nat) : (s.tarnZero c off n).maxPlanSeq = s.maxPlanSeq := by cases s; rfl
@[simp] theorem State.tarnZero_fwDigest (s : State) (c : CDie) (off : Nat) (n : Nat) : (s.tarnZero c off n).fwDigest = s.fwDigest := by cases s; rfl
@[simp] theorem State.tarnZero_fwComps (s : State) (c : CDie) (off : Nat) (n : Nat) : (s.tarnZero c off n).fwComps = s.fwComps := by cases s; rfl
@[simp] theorem State.tarnZero_flash (s : State) (c : CDie) (off : Nat) (n : Nat) : (s.tarnZero c off n).flash = s.flash := by cases s; rfl
@[simp] theorem State.tarnZero_fwStaged (s : State) (c : CDie) (off : Nat) (n : Nat) : (s.tarnZero c off n).fwStaged = s.fwStaged := by cases s; rfl
@[simp] theorem State.tarnZero_codeHeld (s : State) (c : CDie) (off : Nat) (n : Nat) : (s.tarnZero c off n).codeHeld = s.codeHeld := by cases s; rfl
@[simp] theorem State.tarnZero_codeStaged (s : State) (c : CDie) (off : Nat) (n : Nat) : (s.tarnZero c off n).codeStaged = s.codeStaged := by cases s; rfl
@[simp] theorem State.tarnZero_rcv (s : State) (c : CDie) (off : Nat) (n : Nat) : (s.tarnZero c off n).rcv = s.rcv := by cases s; rfl
@[simp] theorem State.tarnZero_dist (s : State) (c : CDie) (off : Nat) (n : Nat) : (s.tarnZero c off n).dist = s.dist := by cases s; rfl
@[simp] theorem State.tarnZero_mcReset (s : State) (c : CDie) (off : Nat) (n : Nat) : (s.tarnZero c off n).mcReset = s.mcReset := by cases s; rfl
@[simp] theorem State.tarnZero_dbgCounters (s : State) (c : CDie) (off : Nat) (n : Nat) : (s.tarnZero c off n).dbgCounters = s.dbgCounters := by cases s; rfl
@[simp] theorem State.tarnZero_unlocks (s : State) (c : CDie) (off : Nat) (n : Nat) : (s.tarnZero c off n).unlocks = s.unlocks := by cases s; rfl
@[simp] theorem State.tarnZero_power (s : State) (c : CDie) (off : Nat) (n : Nat) : (s.tarnZero c off n).power = s.power := by cases s; rfl
@[simp] theorem State.tarnZero_pkgPower (s : State) (c : CDie) (off : Nat) (n : Nat) : (s.tarnZero c off n).pkgPower = s.pkgPower := by cases s; rfl
@[simp] theorem State.tarnZero_ridge (s : State) (c : CDie) (off : Nat) (n : Nat) : (s.tarnZero c off n).ridge = s.ridge := by cases s; rfl
@[simp] theorem State.tarnZero_smt (s : State) (c : CDie) (off : Nat) (n : Nat) : (s.tarnZero c off n).smt = s.smt := by cases s; rfl
@[simp] theorem State.tarnZero_pairSess (s : State) (c : CDie) (off : Nat) (n : Nat) : (s.tarnZero c off n).pairSess = s.pairSess := by cases s; rfl
@[simp] theorem State.tarnZero_heldTerm (s : State) (c : CDie) (off : Nat) (n : Nat) : (s.tarnZero c off n).heldTerm = s.heldTerm := by cases s; rfl
@[simp] theorem State.tarnZero_heldBy (s : State) (c : CDie) (off : Nat) (n : Nat) : (s.tarnZero c off n).heldBy = s.heldBy := by cases s; rfl
@[simp] theorem State.tarnZero_rd (s : State) (c : CDie) (off : Nat) (n : Nat) (za : Nat) : (s.tarnZero c off n).rd za = s.rd za := by simp [State.rd]
@[simp] theorem State.tarnZero_fld (s : State) (c : CDie) (off : Nat) (n : Nat) (zp : Page) (zf : Field) : (s.tarnZero c off n).fld zp zf = s.fld zp zf := by simp [State.fld]
@[simp] theorem State.tarnZero_flag (s : State) (c : CDie) (off : Nat) (n : Nat) (zp : Page) (zf : Field) : (s.tarnZero c off n).flag zp zf = s.flag zp zf := by simp [State.flag]
@[simp] theorem State.tarnZero_counter (s : State) (c : CDie) (off : Nat) (n : Nat) (zp : Page) (zoff : Nat) : (s.tarnZero c off n).counter zp zoff = s.counter zp zoff := by unfold State.counter; rw [State.tarnZero_rd, State.tarnZero_rd]
@[simp] theorem State.tarnZero_counterOvf (s : State) (c : CDie) (off : Nat) (n : Nat) (zp : Page) (zoff : Nat) : (s.tarnZero c off n).counterOvf zp zoff = s.counterOvf zp zoff := by simp [State.counterOvf]
@[simp] theorem State.tarnZero_inReset (s : State) (c : CDie) (off : Nat) (n : Nat) (zd : Die) : (s.tarnZero c off n).inReset zd = s.inReset zd := by simp [State.inReset]
@[simp] theorem State.tarnZero_partState (s : State) (c : CDie) (off : Nat) (n : Nat) (zp : Part) : (s.tarnZero c off n).partState zp = s.partState zp := by simp [State.partState]
@[simp] theorem State.tarnZero_partFenced (s : State) (c : CDie) (off : Nat) (n : Nat) (zp : Part) : (s.tarnZero c off n).partFenced zp = s.partFenced zp := by simp [State.partFenced]
@[simp] theorem State.tarnZero_lnk (s : State) (c : CDie) (off : Nat) (n : Nat) (zq : Port) : (s.tarnZero c off n).lnk zq = s.lnk zq := by simp [State.lnk]
@[simp] theorem State.tarnZero_memRange (s : State) (c : CDie) (off : Nat) (n : Nat) (zc : CDie) (zp : Part) (zi : Nat) : (s.tarnZero c off n).memRange zc zp zi = s.memRange zc zp zi := by simp [State.memRange]
@[simp] theorem State.tarnZero_tarnAlloc (s : State) (c : CDie) (off : Nat) (n : Nat) (zc : CDie) (zp : Part) : (s.tarnZero c off n).tarnAlloc zc zp = s.tarnAlloc zc zp := by simp [State.tarnAlloc]
@[simp] theorem State.tarnZero_cairnRange (s : State) (c : CDie) (off : Nat) (n : Nat) (zc : CDie) (zp : Part) : (s.tarnZero c off n).cairnRange zc zp = s.cairnRange zc zp := by simp [State.cairnRange]
@[simp] theorem State.tarnZero_winOpen (s : State) (c : CDie) (off : Nat) (n : Nat) (zp : Part) : (s.tarnZero c off n).winOpen zp = s.winOpen zp := by simp [State.winOpen]
@[simp] theorem State.tarnZero_vfOn (s : State) (c : CDie) (off : Nat) (n : Nat) (zp : Part) : (s.tarnZero c off n).vfOn zp = s.vfOn zp := by simp [State.vfOn]
@[simp] theorem State.tarnZero_msfState (s : State) (c : CDie) (off : Nat) (n : Nat) (zc : CDie) : (s.tarnZero c off n).msfState zc = s.msfState zc := by simp [State.msfState]
@[simp] theorem State.tarnZero_stepK (s : State) (c : CDie) (off : Nat) (n : Nat) (zc : CDie) : (s.tarnZero c off n).stepK zc = s.stepK zc := by simp [State.stepK]
@[simp] theorem State.tarnZero_injection (s : State) (c : CDie) (off : Nat) (n : Nat) (zp : Page) (zchecker : Nat) : (s.tarnZero c off n).injection zp zchecker = s.injection zp zchecker := by simp [State.injection]
@[simp] theorem State.tarnZero_disc (s : State) (c : CDie) (off : Nat) (n : Nat) : (s.tarnZero c off n).disc = s.disc := by simp [State.disc]
@[simp] theorem State.tarnZero_pairSt (s : State) (c : CDie) (off : Nat) (n : Nat) : (s.tarnZero c off n).pairSt = s.pairSt := by simp [State.pairSt]
@[simp] theorem State.tarnZero_now (s : State) (c : CDie) (off : Nat) (n : Nat) (zd : Die) : (s.tarnZero c off n).now zd = s.now zd := by simp [State.now]
@[simp] theorem State.tarnZero_array (s : State) (c : CDie) (off : Nat) (n : Nat) (zc : CDie) : (s.tarnZero c off n).array zc = s.array zc := by simp [State.array]
@[simp] theorem State.tarnZero_queue (s : State) (c : CDie) (off : Nat) (n : Nat) (zr : QRef) : (s.tarnZero c off n).queue zr = s.queue zr := by simp [State.queue]
@[simp] theorem State.tarnZero_partQ (s : State) (c : CDie) (off : Nat) (n : Nat) (zp : Part) : (s.tarnZero c off n).part? zp = s.part? zp := by simp [State.part?]
@[simp] theorem State.tarnZero_isConf (s : State) (c : CDie) (off : Nat) (n : Nat) (zp : Part) : (s.tarnZero c off n).isConf zp = s.isConf zp := by simp [State.isConf]
@[simp] theorem State.tarnZero_chan (s : State) (c : CDie) (off : Nat) (n : Nat) (zk : Nat) : (s.tarnZero c off n).chan zk = s.chan zk := by simp [State.chan]
@[simp] theorem State.tarnZero_agent (s : State) (c : CDie) (off : Nat) (n : Nat) (zk : PDie) : (s.tarnZero c off n).agent zk = s.agent zk := by simp [State.agent]
@[simp] theorem State.tarnZero_port (s : State) (c : CDie) (off : Nat) (n : Nat) (zq : Port) : (s.tarnZero c off n).port zq = s.port zq := by simp [State.port]
@[simp] theorem State.tarnZero_core (s : State) (c : CDie) (off : Nat) (n : Nat) (zc : CDie) (zk : Core) : (s.tarnZero c off n).core zc zk = s.core zc zk := by simp [State.core]
@[simp] theorem State.tarnZero_cairn (s : State) (c : CDie) (off : Nat) (n : Nat) (zc : CDie) (zn : Nat) : (s.tarnZero c off n).cairn zc zn = s.cairn zc zn := by simp [State.cairn]
@[simp] theorem State.tarnZero_fn (s : State) (c : CDie) (off : Nat) (n : Nat) (zf : Fn) : (s.tarnZero c off n).fn zf = s.fn zf := by simp [State.fn]
@[simp] theorem State.tarnZero_wkey (s : State) (c : CDie) (off : Nat) (n : Nat) (zp : Part) (zprev : Bool) : (s.tarnZero c off n).wkey zp zprev = s.wkey zp zprev := by simp [State.wkey]
@[simp] theorem State.tarnZero_memByte (s : State) (c : CDie) (off : Nat) (n : Nat) (zc : CDie) (zoff : Nat) : (s.tarnZero c off n).memByte zc zoff = s.memByte zc zoff := by simp [State.memByte]
@[simp] theorem State.tarnZero_memGet (s : State) (c : CDie) (off : Nat) (n : Nat) (zc : CDie) (zoff : Nat) (zn : Nat) : (s.tarnZero c off n).memGet zc zoff zn = s.memGet zc zoff zn := by simp [State.memGet]
@[simp] theorem State.tarnZero_dieDown (s : State) (c : CDie) (off : Nat) (n : Nat) (zc : CDie) : (s.tarnZero c off n).dieDown zc = s.dieDown zc := by simp [State.dieDown]
@[simp] theorem State.tarnZero_nparts (s : State) (c : CDie) (off : Nat) (n : Nat) : (s.tarnZero c off n).nparts = s.nparts := by simp [State.nparts]
@[simp] theorem State.tarnZero_quiet (s : State) (c : CDie) (off : Nat) (n : Nat) : (s.tarnZero c off n).quiet = s.quiet := by simp [State.quiet]
@[simp] theorem State.tarnZero_settled (s : State) (c : CDie) (off : Nat) (n : Nat) : (s.tarnZero c off n).settled = s.settled := by simp [State.settled]

/-! `fireEvent` writes regs alone. -/

@[simp] theorem State.fireEvent_pending (s : State) (p : Page) (j : Nat) : (s.fireEvent p j).pending = s.pending := by unfold State.fireEvent; simp only [apply_ite State.pending, State.setFld_pending, ite_self]
@[simp] theorem State.fireEvent_out (s : State) (p : Page) (j : Nat) : (s.fireEvent p j).out = s.out := by unfold State.fireEvent; simp only [apply_ite State.out, State.setFld_out, ite_self]
@[simp] theorem State.fireEvent_freeCtr (s : State) (p : Page) (j : Nat) : (s.fireEvent p j).freeCtr = s.freeCtr := by unfold State.fireEvent; simp only [apply_ite State.freeCtr, State.setFld_freeCtr, ite_self]
@[simp] theorem State.fireEvent_mgmtOn (s : State) (p : Page) (j : Nat) : (s.fireEvent p j).mgmtOn = s.mgmtOn := by unfold State.fireEvent; simp only [apply_ite State.mgmtOn, State.setFld_mgmtOn, ite_self]
@[simp] theorem State.fireEvent_fuses (s : State) (p : Page) (j : Nat) : (s.fireEvent p j).fuses = s.fuses := by unfold State.fireEvent; simp only [apply_ite State.fuses, State.setFld_fuses, ite_self]
@[simp] theorem State.fireEvent_straps (s : State) (p : Page) (j : Nat) : (s.fireEvent p j).straps = s.straps := by unfold State.fireEvent; simp only [apply_ite State.straps, State.setFld_straps, ite_self]
@[simp] theorem State.fireEvent_pos (s : State) (p : Page) (j : Nat) : (s.fireEvent p j).pos = s.pos := by unfold State.fireEvent; simp only [apply_ite State.pos, State.setFld_pos, ite_self]
@[simp] theorem State.fireEvent_latches (s : State) (p : Page) (j : Nat) : (s.fireEvent p j).latches = s.latches := by unfold State.fireEvent; simp only [apply_ite State.latches, State.setFld_latches, ite_self]
@[simp] theorem State.fireEvent_gtime (s : State) (p : Page) (j : Nat) : (s.fireEvent p j).gtime = s.gtime := by unfold State.fireEvent; simp only [apply_ite State.gtime, State.setFld_gtime, ite_self]
@[simp] theorem State.fireEvent_fclk (s : State) (p : Page) (j : Nat) : (s.fireEvent p j).fclk = s.fclk := by unfold State.fireEvent; simp only [apply_ite State.fclk, State.setFld_fclk, ite_self]
@[simp] theorem State.fireEvent_mem (s : State) (p : Page) (j : Nat) : (s.fireEvent p j).mem = s.mem := by unfold State.fireEvent; simp only [apply_ite State.mem, State.setFld_mem, ite_self]
@[simp] theorem State.fireEvent_tarn (s : State) (p : Page) (j : Nat) : (s.fireEvent p j).tarn = s.tarn := by unfold State.fireEvent; simp only [apply_ite State.tarn, State.setFld_tarn, ite_self]
@[simp] theorem State.fireEvent_rowErrs (s : State) (p : Page) (j : Nat) : (s.fireEvent p j).rowErrs = s.rowErrs := by unfold State.fireEvent; simp only [apply_ite State.rowErrs, State.setFld_rowErrs, ite_self]
@[simp] theorem State.fireEvent_remaps (s : State) (p : Page) (j : Nat) : (s.fireEvent p j).remaps = s.remaps := by unfold State.fireEvent; simp only [apply_ite State.remaps, State.setFld_remaps, ite_self]
@[simp] theorem State.fireEvent_savedRemaps (s : State) (p : Page) (j : Nat) : (s.fireEvent p j).savedRemaps = s.savedRemaps := by unfold State.fireEvent; simp only [apply_ite State.savedRemaps, State.setFld_savedRemaps, ite_self]
@[simp] theorem State.fireEvent_repairLog (s : State) (p : Page) (j : Nat) : (s.fireEvent p j).repairLog = s.repairLog := by unfold State.fireEvent; simp only [apply_ite State.repairLog, State.setFld_repairLog, ite_self]
@[simp] theorem State.fireEvent_badSectors (s : State) (p : Page) (j : Nat) : (s.fireEvent p j).badSectors = s.badSectors := by unfold State.fireEvent; simp only [apply_ite State.badSectors, State.setFld_badSectors, ite_self]
@[simp] theorem State.fireEvent_memFenced (s : State) (p : Page) (j : Nat) : (s.fireEvent p j).memFenced = s.memFenced := by unfold State.fireEvent; simp only [apply_ite State.memFenced, State.setFld_memFenced, ite_self]
@[simp] theorem State.fireEvent_mappedGran (s : State) (p : Page) (j : Nat) : (s.fireEvent p j).mappedGran = s.mappedGran := by unfold State.fireEvent; simp only [apply_ite State.mappedGran, State.setFld_mappedGran, ite_self]
@[simp] theorem State.fireEvent_zeroOrders (s : State) (p : Page) (j : Nat) : (s.fireEvent p j).zeroOrders = s.zeroOrders := by unfold State.fireEvent; simp only [apply_ite State.zeroOrders, State.setFld_zeroOrders, ite_self]
@[simp] theorem State.fireEvent_arrays (s : State) (p : Page) (j : Nat) : (s.fireEvent p j).arrays = s.arrays := by unfold State.fireEvent; simp only [apply_ite State.arrays, State.setFld_arrays, ite_self]
@[simp] theorem State.fireEvent_repairLines (s : State) (p : Page) (j : Nat) : (s.fireEvent p j).repairLines = s.repairLines := by unfold State.fireEvent; simp only [apply_ite State.repairLines, State.setFld_repairLines, ite_self]
@[simp] theorem State.fireEvent_queues (s : State) (p : Page) (j : Nat) : (s.fireEvent p j).queues = s.queues := by unfold State.fireEvent; simp only [apply_ite State.queues, State.setFld_queues, ite_self]
@[simp] theorem State.fireEvent_cairns (s : State) (p : Page) (j : Nat) : (s.fireEvent p j).cairns = s.cairns := by unfold State.fireEvent; simp only [apply_ite State.cairns, State.setFld_cairns, ite_self]
@[simp] theorem State.fireEvent_tracks (s : State) (p : Page) (j : Nat) : (s.fireEvent p j).tracks = s.tracks := by unfold State.fireEvent; simp only [apply_ite State.tracks, State.setFld_tracks, ite_self]
@[simp] theorem State.fireEvent_cores (s : State) (p : Page) (j : Nat) : (s.fireEvent p j).cores = s.cores := by unfold State.fireEvent; simp only [apply_ite State.cores, State.setFld_cores, ite_self]
@[simp] theorem State.fireEvent_dispatches (s : State) (p : Page) (j : Nat) : (s.fireEvent p j).dispatches = s.dispatches := by unfold State.fireEvent; simp only [apply_ite State.dispatches, State.setFld_dispatches, ite_self]
@[simp] theorem State.fireEvent_dmaRuns (s : State) (p : Page) (j : Nat) : (s.fireEvent p j).dmaRuns = s.dmaRuns := by unfold State.fireEvent; simp only [apply_ite State.dmaRuns, State.setFld_dmaRuns, ite_self]
@[simp] theorem State.fireEvent_requests (s : State) (p : Page) (j : Nat) : (s.fireEvent p j).requests = s.requests := by unfold State.fireEvent; simp only [apply_ite State.requests, State.setFld_requests, ite_self]
@[simp] theorem State.fireEvent_windows (s : State) (p : Page) (j : Nat) : (s.fireEvent p j).windows = s.windows := by unfold State.fireEvent; simp only [apply_ite State.windows, State.setFld_windows, ite_self]
@[simp] theorem State.fireEvent_respUse (s : State) (p : Page) (j : Nat) : (s.fireEvent p j).respUse = s.respUse := by unfold State.fireEvent; simp only [apply_ite State.respUse, State.setFld_respUse, ite_self]
@[simp] theorem State.fireEvent_nextXid (s : State) (p : Page) (j : Nat) : (s.fireEvent p j).nextXid = s.nextXid := by unfold State.fireEvent; simp only [apply_ite State.nextXid, State.setFld_nextXid, ite_self]
@[simp] theorem State.fireEvent_nextId (s : State) (p : Page) (j : Nat) : (s.fireEvent p j).nextId = s.nextId := by unfold State.fireEvent; simp only [apply_ite State.nextId, State.setFld_nextId, ite_self]
@[simp] theorem State.fireEvent_parts (s : State) (p : Page) (j : Nat) : (s.fireEvent p j).parts = s.parts := by unfold State.fireEvent; simp only [apply_ite State.parts, State.setFld_parts, ite_self]
@[simp] theorem State.fireEvent_wkeys (s : State) (p : Page) (j : Nat) : (s.fireEvent p j).wkeys = s.wkeys := by unfold State.fireEvent; simp only [apply_ite State.wkeys, State.setFld_wkeys, ite_self]
@[simp] theorem State.fireEvent_staging (s : State) (p : Page) (j : Nat) : (s.fireEvent p j).staging = s.staging := by unfold State.fireEvent; simp only [apply_ite State.staging, State.setFld_staging, ite_self]
@[simp] theorem State.fireEvent_fltLog (s : State) (p : Page) (j : Nat) : (s.fireEvent p j).fltLog = s.fltLog := by unfold State.fireEvent; simp only [apply_ite State.fltLog, State.setFld_fltLog, ite_self]
@[simp] theorem State.fireEvent_recoveryTimes (s : State) (p : Page) (j : Nat) : (s.fireEvent p j).recoveryTimes = s.recoveryTimes := by unfold State.fireEvent; simp only [apply_ite State.recoveryTimes, State.setFld_recoveryTimes, ite_self]
@[simp] theorem State.fireEvent_quietPages (s : State) (p : Page) (j : Nat) : (s.fireEvent p j).quietPages = s.quietPages := by unfold State.fireEvent; simp only [apply_ite State.quietPages, State.setFld_quietPages, ite_self]
@[simp] theorem State.fireEvent_quietParts (s : State) (p : Page) (j : Nat) : (s.fireEvent p j).quietParts = s.quietParts := by unfold State.fireEvent; simp only [apply_ite State.quietParts, State.setFld_quietParts, ite_self]
@[simp] theorem State.fireEvent_fencedDies (s : State) (p : Page) (j : Nat) : (s.fireEvent p j).fencedDies = s.fencedDies := by unfold State.fireEvent; simp only [apply_ite State.fencedDies, State.setFld_fencedDies, ite_self]
@[simp] theorem State.fireEvent_lostRails (s : State) (p : Page) (j : Nat) : (s.fireEvent p j).lostRails = s.lostRails := by unfold State.fireEvent; simp only [apply_ite State.lostRails, State.setFld_lostRails, ite_self]
@[simp] theorem State.fireEvent_thermtrip (s : State) (p : Page) (j : Nat) : (s.fireEvent p j).thermtrip = s.thermtrip := by unfold State.fireEvent; simp only [apply_ite State.thermtrip, State.setFld_thermtrip, ite_self]
@[simp] theorem State.fireEvent_chans (s : State) (p : Page) (j : Nat) : (s.fireEvent p j).chans = s.chans := by unfold State.fireEvent; simp only [apply_ite State.chans, State.setFld_chans, ite_self]
@[simp] theorem State.fireEvent_fns (s : State) (p : Page) (j : Nat) : (s.fireEvent p j).fns = s.fns := by unfold State.fireEvent; simp only [apply_ite State.fns, State.setFld_fns, ite_self]
@[simp] theorem State.fireEvent_bar2 (s : State) (p : Page) (j : Nat) : (s.fireEvent p j).bar2 = s.bar2 := by unfold State.fireEvent; simp only [apply_ite State.bar2, State.setFld_bar2, ite_self]
@[simp] theorem State.fireEvent_held (s : State) (p : Page) (j : Nat) : (s.fireEvent p j).held = s.held := by unfold State.fireEvent; simp only [apply_ite State.held, State.setFld_held, ite_self]
@[simp] theorem State.fireEvent_relayOut (s : State) (p : Page) (j : Nat) : (s.fireEvent p j).relayOut = s.relayOut := by unfold State.fireEvent; simp only [apply_ite State.relayOut, State.setFld_relayOut, ite_self]
@[simp] theorem State.fireEvent_relayCtr (s : State) (p : Page) (j : Nat) : (s.fireEvent p j).relayCtr = s.relayCtr := by unfold State.fireEvent; simp only [apply_ite State.relayCtr, State.setFld_relayCtr, ite_self]
@[simp] theorem State.fireEvent_boardSess (s : State) (p : Page) (j : Nat) : (s.fireEvent p j).boardSess = s.boardSess := by unfold State.fireEvent; simp only [apply_ite State.boardSess, State.setFld_boardSess, ite_self]
@[simp] theorem State.fireEvent_i3c (s : State) (p : Page) (j : Nat) : (s.fireEvent p j).i3c = s.i3c := by unfold State.fireEvent; simp only [apply_ite State.i3c, State.setFld_i3c, ite_self]
@[simp] theorem State.fireEvent_eid (s : State) (p : Page) (j : Nat) : (s.fireEvent p j).eid = s.eid := by unfold State.fireEvent; simp only [apply_ite State.eid, State.setFld_eid, ite_self]
@[simp] theorem State.fireEvent_sensors (s : State) (p : Page) (j : Nat) : (s.fireEvent p j).sensors = s.sensors := by unfold State.fireEvent; simp only [apply_ite State.sensors, State.setFld_sensors, ite_self]
@[simp] theorem State.fireEvent_agents (s : State) (p : Page) (j : Nat) : (s.fireEvent p j).agents = s.agents := by unfold State.fireEvent; simp only [apply_ite State.agents, State.setFld_agents, ite_self]
@[simp] theorem State.fireEvent_ports (s : State) (p : Page) (j : Nat) : (s.fireEvent p j).ports = s.ports := by unfold State.fireEvent; simp only [apply_ite State.ports, State.setFld_ports, ite_self]
@[simp] theorem State.fireEvent_transits (s : State) (p : Page) (j : Nat) : (s.fireEvent p j).transits = s.transits := by unfold State.fireEvent; simp only [apply_ite State.transits, State.setFld_transits, ite_self]
@[simp] theorem State.fireEvent_d2d (s : State) (p : Page) (j : Nat) : (s.fireEvent p j).d2d = s.d2d := by unfold State.fireEvent; simp only [apply_ite State.d2d, State.setFld_d2d, ite_self]
@[simp] theorem State.fireEvent_reserved (s : State) (p : Page) (j : Nat) : (s.fireEvent p j).reserved = s.reserved := by unfold State.fireEvent; simp only [apply_ite State.reserved, State.setFld_reserved, ite_self]
@[simp] theorem State.fireEvent_tables (s : State) (p : Page) (j : Nat) : (s.fireEvent p j).tables = s.tables := by unfold State.fireEvent; simp only [apply_ite State.tables, State.setFld_tables, ite_self]
@[simp] theorem State.fireEvent_d2dRuns (s : State) (p : Page) (j : Nat) : (s.fireEvent p j).d2dRuns = s.d2dRuns := by unfold State.fireEvent; simp only [apply_ite State.d2dRuns, State.setFld_d2dRuns, ite_self]
@[simp] theorem State.fireEvent_xfers (s : State) (p : Page) (j : Nat) : (s.fireEvent p j).xfers = s.xfers := by unfold State.fireEvent; simp only [apply_ite State.xfers, State.setFld_xfers, ite_self]
@[simp] theorem State.fireEvent_hotEngines (s : State) (p : Page) (j : Nat) : (s.fireEvent p j).hotEngines = s.hotEngines := by unfold State.fireEvent; simp only [apply_ite State.hotEngines, State.setFld_hotEngines, ite_self]
@[simp] theorem State.fireEvent_boot (s : State) (p : Page) (j : Nat) : (s.fireEvent p j).boot = s.boot := by unfold State.fireEvent; simp only [apply_ite State.boot, State.setFld_boot, ite_self]
@[simp] theorem State.fireEvent_plan (s : State) (p : Page) (j : Nat) : (s.fireEvent p j).plan = s.plan := by unfold State.fireEvent; simp only [apply_ite State.plan, State.setFld_plan, ite_self]
@[simp] theorem State.fireEvent_bootPlan (s : State) (p : Page) (j : Nat) : (s.fireEvent p j).bootPlan = s.bootPlan := by unfold State.fireEvent; simp only [apply_ite State.bootPlan, State.setFld_bootPlan, ite_self]
@[simp] theorem State.fireEvent_maxPlanSeq (s : State) (p : Page) (j : Nat) : (s.fireEvent p j).maxPlanSeq = s.maxPlanSeq := by unfold State.fireEvent; simp only [apply_ite State.maxPlanSeq, State.setFld_maxPlanSeq, ite_self]
@[simp] theorem State.fireEvent_fwDigest (s : State) (p : Page) (j : Nat) : (s.fireEvent p j).fwDigest = s.fwDigest := by unfold State.fireEvent; simp only [apply_ite State.fwDigest, State.setFld_fwDigest, ite_self]
@[simp] theorem State.fireEvent_fwComps (s : State) (p : Page) (j : Nat) : (s.fireEvent p j).fwComps = s.fwComps := by unfold State.fireEvent; simp only [apply_ite State.fwComps, State.setFld_fwComps, ite_self]
@[simp] theorem State.fireEvent_flash (s : State) (p : Page) (j : Nat) : (s.fireEvent p j).flash = s.flash := by unfold State.fireEvent; simp only [apply_ite State.flash, State.setFld_flash, ite_self]
@[simp] theorem State.fireEvent_fwStaged (s : State) (p : Page) (j : Nat) : (s.fireEvent p j).fwStaged = s.fwStaged := by unfold State.fireEvent; simp only [apply_ite State.fwStaged, State.setFld_fwStaged, ite_self]
@[simp] theorem State.fireEvent_codeHeld (s : State) (p : Page) (j : Nat) : (s.fireEvent p j).codeHeld = s.codeHeld := by unfold State.fireEvent; simp only [apply_ite State.codeHeld, State.setFld_codeHeld, ite_self]
@[simp] theorem State.fireEvent_codeStaged (s : State) (p : Page) (j : Nat) : (s.fireEvent p j).codeStaged = s.codeStaged := by unfold State.fireEvent; simp only [apply_ite State.codeStaged, State.setFld_codeStaged, ite_self]
@[simp] theorem State.fireEvent_rcv (s : State) (p : Page) (j : Nat) : (s.fireEvent p j).rcv = s.rcv := by unfold State.fireEvent; simp only [apply_ite State.rcv, State.setFld_rcv, ite_self]
@[simp] theorem State.fireEvent_dist (s : State) (p : Page) (j : Nat) : (s.fireEvent p j).dist = s.dist := by unfold State.fireEvent; simp only [apply_ite State.dist, State.setFld_dist, ite_self]
@[simp] theorem State.fireEvent_mcReset (s : State) (p : Page) (j : Nat) : (s.fireEvent p j).mcReset = s.mcReset := by unfold State.fireEvent; simp only [apply_ite State.mcReset, State.setFld_mcReset, ite_self]
@[simp] theorem State.fireEvent_dbgCounters (s : State) (p : Page) (j : Nat) : (s.fireEvent p j).dbgCounters = s.dbgCounters := by unfold State.fireEvent; simp only [apply_ite State.dbgCounters, State.setFld_dbgCounters, ite_self]
@[simp] theorem State.fireEvent_unlocks (s : State) (p : Page) (j : Nat) : (s.fireEvent p j).unlocks = s.unlocks := by unfold State.fireEvent; simp only [apply_ite State.unlocks, State.setFld_unlocks, ite_self]
@[simp] theorem State.fireEvent_power (s : State) (p : Page) (j : Nat) : (s.fireEvent p j).power = s.power := by unfold State.fireEvent; simp only [apply_ite State.power, State.setFld_power, ite_self]
@[simp] theorem State.fireEvent_pkgPower (s : State) (p : Page) (j : Nat) : (s.fireEvent p j).pkgPower = s.pkgPower := by unfold State.fireEvent; simp only [apply_ite State.pkgPower, State.setFld_pkgPower, ite_self]
@[simp] theorem State.fireEvent_ridge (s : State) (p : Page) (j : Nat) : (s.fireEvent p j).ridge = s.ridge := by unfold State.fireEvent; simp only [apply_ite State.ridge, State.setFld_ridge, ite_self]
@[simp] theorem State.fireEvent_smt (s : State) (p : Page) (j : Nat) : (s.fireEvent p j).smt = s.smt := by unfold State.fireEvent; simp only [apply_ite State.smt, State.setFld_smt, ite_self]
@[simp] theorem State.fireEvent_pairSess (s : State) (p : Page) (j : Nat) : (s.fireEvent p j).pairSess = s.pairSess := by unfold State.fireEvent; simp only [apply_ite State.pairSess, State.setFld_pairSess, ite_self]
@[simp] theorem State.fireEvent_heldTerm (s : State) (p : Page) (j : Nat) : (s.fireEvent p j).heldTerm = s.heldTerm := by unfold State.fireEvent; simp only [apply_ite State.heldTerm, State.setFld_heldTerm, ite_self]
@[simp] theorem State.fireEvent_heldBy (s : State) (p : Page) (j : Nat) : (s.fireEvent p j).heldBy = s.heldBy := by unfold State.fireEvent; simp only [apply_ite State.heldBy, State.setFld_heldBy, ite_self]
@[simp] theorem State.fireEvent_now (s : State) (p : Page) (j : Nat) (zd : Die) : (s.fireEvent p j).now zd = s.now zd := by simp [State.now]
@[simp] theorem State.fireEvent_array (s : State) (p : Page) (j : Nat) (zc : CDie) : (s.fireEvent p j).array zc = s.array zc := by simp [State.array]
@[simp] theorem State.fireEvent_queue (s : State) (p : Page) (j : Nat) (zr : QRef) : (s.fireEvent p j).queue zr = s.queue zr := by simp [State.queue]
@[simp] theorem State.fireEvent_partQ (s : State) (p : Page) (j : Nat) (zp : Part) : (s.fireEvent p j).part? zp = s.part? zp := by simp [State.part?]
@[simp] theorem State.fireEvent_isConf (s : State) (p : Page) (j : Nat) (zp : Part) : (s.fireEvent p j).isConf zp = s.isConf zp := by simp [State.isConf]
@[simp] theorem State.fireEvent_chan (s : State) (p : Page) (j : Nat) (zk : Nat) : (s.fireEvent p j).chan zk = s.chan zk := by simp [State.chan]
@[simp] theorem State.fireEvent_agent (s : State) (p : Page) (j : Nat) (zk : PDie) : (s.fireEvent p j).agent zk = s.agent zk := by simp [State.agent]
@[simp] theorem State.fireEvent_port (s : State) (p : Page) (j : Nat) (zq : Port) : (s.fireEvent p j).port zq = s.port zq := by simp [State.port]
@[simp] theorem State.fireEvent_core (s : State) (p : Page) (j : Nat) (zc : CDie) (zk : Core) : (s.fireEvent p j).core zc zk = s.core zc zk := by simp [State.core]
@[simp] theorem State.fireEvent_cairn (s : State) (p : Page) (j : Nat) (zc : CDie) (zn : Nat) : (s.fireEvent p j).cairn zc zn = s.cairn zc zn := by simp [State.cairn]
@[simp] theorem State.fireEvent_fn (s : State) (p : Page) (j : Nat) (zf : Fn) : (s.fireEvent p j).fn zf = s.fn zf := by simp [State.fn]
@[simp] theorem State.fireEvent_wkey (s : State) (p : Page) (j : Nat) (zp : Part) (zprev : Bool) : (s.fireEvent p j).wkey zp zprev = s.wkey zp zprev := by simp [State.wkey]
@[simp] theorem State.fireEvent_memByte (s : State) (p : Page) (j : Nat) (zc : CDie) (zoff : Nat) : (s.fireEvent p j).memByte zc zoff = s.memByte zc zoff := by simp [State.memByte]
@[simp] theorem State.fireEvent_memGet (s : State) (p : Page) (j : Nat) (zc : CDie) (zoff : Nat) (zn : Nat) : (s.fireEvent p j).memGet zc zoff zn = s.memGet zc zoff zn := by simp [State.memGet]
@[simp] theorem State.fireEvent_tarnByte (s : State) (p : Page) (j : Nat) (zc : CDie) (zoff : Nat) : (s.fireEvent p j).tarnByte zc zoff = s.tarnByte zc zoff := by simp [State.tarnByte]
@[simp] theorem State.fireEvent_tarnGet (s : State) (p : Page) (j : Nat) (zc : CDie) (zoff : Nat) (zn : Nat) : (s.fireEvent p j).tarnGet zc zoff zn = s.tarnGet zc zoff zn := by simp [State.tarnGet]
@[simp] theorem State.fireEvent_nparts (s : State) (p : Page) (j : Nat) : (s.fireEvent p j).nparts = s.nparts := by simp [State.nparts]
@[simp] theorem State.fireEvent_memWf (s : State) (p : Page) (j : Nat) : (s.fireEvent p j).memWf = s.memWf := by simp [State.memWf]
@[simp] theorem State.fireEvent_quiet (s : State) (p : Page) (j : Nat) : (s.fireEvent p j).quiet = s.quiet := by simp [State.quiet]
@[simp] theorem State.fireEvent_settled (s : State) (p : Page) (j : Nat) : (s.fireEvent p j).settled = s.settled := by simp [State.settled]

end Sys2Proof.Machine
end

