-- ==== Sys2Proof/Laws/Store.lean ====
section
/-! SUPPORT. The laws of the sparse store: a read after a write, other keys unchanged, the canonical form kept, and lists of values. -/

namespace Sys2Proof.Machine

variable {α : Type}

theorem Store.get_insert (d : Nat → α) (m : Store α) (k : Nat) (v : α) (j : Nat) : Store.get d (Store.insert m k v) j = if k = j then v else Store.get d m j := by
  induction m with
  | nil => rfl
  | cons e r ih =>
    obtain ⟨a, w⟩ := e
    simp only [Store.insert]
    split
    · rfl
    · split
      · next h => subst h; simp only [Store.get]; split <;> simp_all
      · simp only [Store.get, ih]
        by_cases h1 : a = j <;> by_cases h2 : k = j <;> simp_all

theorem Store.get_erase (d : Nat → α) (m : Store α) (k j : Nat) : Store.get d (Store.erase m k) j = if k = j then d j else Store.get d m j := by
  induction m with
  | nil => simp [Store.erase, Store.get]
  | cons e r ih =>
    obtain ⟨a, w⟩ := e
    simp only [Store.erase]
    split
    · next h => subst h; rw [ih]; by_cases h2 : a = j <;> simp [Store.get, h2]
    · simp only [Store.get, ih]; by_cases h1 : a = j <;> by_cases h2 : k = j <;> simp_all

/-- A read after a write of the same key gives the value written; a write leaves every other key. -/
theorem Store.get_set [DecidableEq α] (d : Nat → α) (m : Store α) (k : Nat) (v : α) (j : Nat) :
    Store.get d (Store.set d m k v) j = if k = j then v else Store.get d m j := by
  unfold Store.set
  split
  · next h => rw [Store.get_erase]; by_cases h2 : k = j <;> simp_all
  · exact Store.get_insert d m k v j

@[simp] theorem Store.get_set_self [DecidableEq α] (d : Nat → α) (m : Store α) (k : Nat) (v : α) : Store.get d (Store.set d m k v) k = v := by
  simp [Store.get_set]

@[simp] theorem Store.get_set_ne [DecidableEq α] (d : Nat → α) (m : Store α) {k j : Nat} (h : k ≠ j) (v : α) :
    Store.get d (Store.set d m k v) j = Store.get d m j := by simp [Store.get_set, h]

/-- What `keep` leaves out reads as unlisted. -/
theorem Store.get_keep (d : Nat → α) (p : Nat → Bool) (m : Store α) (j : Nat) : Store.get d (Store.keep p m) j = if p j then Store.get d m j else d j := by
  induction m with
  | nil => simp [Store.keep, Store.get]
  | cons e r ih =>
    obtain ⟨a, w⟩ := e
    simp only [Store.keep] at ih ⊢
    by_cases h : p a
    · rw [List.filter_cons_of_pos (by simpa using h)]
      simp only [Store.get]
      by_cases h1 : a = j
      · subst h1; simp [h]
      · simp [h1, ih]
    · rw [List.filter_cons_of_neg (by simpa using h), ih]
      simp only [Store.get]
      by_cases h1 : a = j
      · subst h1; simp [h]
      · simp [h1]

/-- A list written from key `k` reads back at its keys and leaves the others. -/
theorem Store.get_setList [DecidableEq α] (d : Nat → α) (m : Store α) (k : Nat) (vs : List α) (j : Nat) :
    Store.get d (Store.setList d m k vs) j = if h : k ≤ j ∧ j < k + vs.length then vs[j - k]'(by omega) else Store.get d m j := by
  induction vs generalizing m k with
  | nil => rw [dif_neg (by simp)]; rfl
  | cons v vs ih =>
    simp only [Store.setList, ih, List.length_cons]
    by_cases h1 : k = j
    · subst h1
      rw [dif_neg (by omega), dif_pos (by omega)]
      simp
    · by_cases h2 : k + 1 ≤ j ∧ j < k + 1 + vs.length
      · rw [dif_pos h2, dif_pos (by omega)]
        have : j - k = (j - (k + 1)) + 1 := by omega
        simp [this]
      · rw [dif_neg h2, dif_neg (by omega), Store.get_set_ne d m h1]

@[simp] theorem Store.length_getList (d : Nat → α) (m : Store α) (k n : Nat) : (Store.getList d m k n).length = n := by
  induction n generalizing k with
  | zero => rfl
  | succ n ih => simp [Store.getList, ih]

theorem Store.getElem_getList (d : Nat → α) (m : Store α) (k n i : Nat) (h : i < n) :
    (Store.getList d m k n)[i]'(by simpa using h) = Store.get d m (k + i) := by
  induction n generalizing k i with
  | zero => omega
  | succ n ih =>
    cases i with
    | zero => simp [Store.getList]
    | succ i => simp only [Store.getList, List.getElem_cons_succ]; rw [ih (k + 1) i (by omega)]; congr 1; omega

/-- What a list of values reads back as. -/
theorem Store.getList_setList [DecidableEq α] (d : Nat → α) (m : Store α) (k : Nat) (vs : List α) :
    Store.getList d (Store.setList d m k vs) k vs.length = vs := by
  apply List.ext_getElem
  · simp
  · intro i h1 h2
    rw [Store.getElem_getList d _ k vs.length i h2, Store.get_setList, dif_pos (by omega)]
    simp

/-! The canonical form. -/

theorem Store.sorted_cons {a : Nat} {w : α} {r : Store α} : Store.sorted ((a, w) :: r) = true ↔ (∀ e ∈ r, a < e.1) ∧ Store.sorted r = true := by
  induction r generalizing a w with
  | nil => simp [Store.sorted]
  | cons e r ih =>
    obtain ⟨b, x⟩ := e
    simp only [Store.sorted, Bool.and_eq_true, decide_eq_true_eq, List.mem_cons, forall_eq_or_imp]
    rw [ih]
    constructor
    · rintro ⟨h1, h2, h3⟩; exact ⟨⟨h1, fun e he => Nat.lt_trans h1 (h2 e he)⟩, h2, h3⟩
    · rintro ⟨⟨h1, _⟩, h2, h3⟩; exact ⟨h1, h2, h3⟩

theorem Store.wf_cons [DecidableEq α] {d : Nat → α} {a : Nat} {w : α} {r : Store α} :
    Store.wf d ((a, w) :: r) = true ↔ (∀ e ∈ r, a < e.1) ∧ w ≠ d a ∧ Store.wf d r = true := by
  simp only [Store.wf, Bool.and_eq_true, Store.sorted_cons, List.all_cons, decide_eq_true_eq]
  exact ⟨fun ⟨⟨a, b⟩, c, e⟩ => ⟨a, c, b, e⟩, fun ⟨a, c, b, e⟩ => ⟨⟨a, b⟩, c, e⟩⟩

theorem Store.mem_erase {m : Store α} {k : Nat} {e : Nat × α} (h : e ∈ Store.erase m k) : e ∈ m := by
  induction m with
  | nil => simp [Store.erase] at h
  | cons x r ih =>
    obtain ⟨a, w⟩ := x
    simp only [Store.erase] at h
    split at h
    · exact List.mem_cons_of_mem _ (ih h)
    · rcases List.mem_cons.1 h with h | h
      · simp [h]
      · exact List.mem_cons_of_mem _ (ih h)

theorem Store.mem_insert {m : Store α} {k : Nat} {v : α} {e : Nat × α} (h : e ∈ Store.insert m k v) : e = (k, v) ∨ e ∈ m := by
  induction m with
  | nil => simpa [Store.insert] using h
  | cons x r ih =>
    obtain ⟨a, w⟩ := x
    simp only [Store.insert] at h
    split at h
    · simpa using h
    · split at h
      · rcases List.mem_cons.1 h with h | h
        · exact Or.inl h
        · exact Or.inr (List.mem_cons_of_mem _ h)
      · rcases List.mem_cons.1 h with h | h
        · exact Or.inr (by simp [h])
        · rcases ih h with h | h
          · exact Or.inl h
          · exact Or.inr (List.mem_cons_of_mem _ h)

theorem Store.wf_erase [DecidableEq α] {d : Nat → α} {m : Store α} (k : Nat) (h : Store.wf d m = true) : Store.wf d (Store.erase m k) = true := by
  induction m with
  | nil => exact h
  | cons x r ih =>
    obtain ⟨a, w⟩ := x
    obtain ⟨h1, h2, h3⟩ := Store.wf_cons.1 h
    simp only [Store.erase]
    split
    · exact ih h3
    · exact Store.wf_cons.2 ⟨fun e he => h1 e (Store.mem_erase he), h2, ih h3⟩

theorem Store.wf_insert [DecidableEq α] {d : Nat → α} {m : Store α} {k : Nat} {v : α} (hv : v ≠ d k) (h : Store.wf d m = true) :
    Store.wf d (Store.insert m k v) = true := by
  induction m with
  | nil => exact Store.wf_cons.2 ⟨by simp, hv, h⟩
  | cons x r ih =>
    obtain ⟨a, w⟩ := x
    obtain ⟨h1, h2, h3⟩ := Store.wf_cons.1 h
    simp only [Store.insert]
    split
    · next hk =>
      refine Store.wf_cons.2 ⟨?_, hv, h⟩
      intro e he
      rcases List.mem_cons.1 he with he | he
      · simpa [he] using hk
      · exact Nat.lt_trans hk (h1 e he)
    · split
      · next hk => subst hk; exact Store.wf_cons.2 ⟨h1, hv, h3⟩
      · next hk hk' =>
        refine Store.wf_cons.2 ⟨?_, h2, ih h3⟩
        intro e he
        rcases Store.mem_insert he with he | he
        · simp only [he]; omega
        · exact h1 e he

/-- A write keeps the canonical form. -/
theorem Store.wf_set [DecidableEq α] {d : Nat → α} {m : Store α} (k : Nat) (v : α) (h : Store.wf d m = true) : Store.wf d (Store.set d m k v) = true := by
  unfold Store.set
  split
  · exact Store.wf_erase k h
  · next hv => exact Store.wf_insert hv h

theorem Store.wf_setList [DecidableEq α] {d : Nat → α} {m : Store α} (k : Nat) (vs : List α) (h : Store.wf d m = true) :
    Store.wf d (Store.setList d m k vs) = true := by
  induction vs generalizing m k with
  | nil => exact h
  | cons v vs ih => exact ih (k + 1) (Store.wf_set k v h)

theorem Store.wf_filter [DecidableEq α] {d : Nat → α} {m : Store α} (p : Nat × α → Bool) (h : Store.wf d m = true) : Store.wf d (m.filter p) = true := by
  induction m with
  | nil => exact h
  | cons x r ih =>
    obtain ⟨a, w⟩ := x
    obtain ⟨h1, h2, h3⟩ := Store.wf_cons.1 h
    by_cases hp : p (a, w)
    · rw [List.filter_cons_of_pos hp]
      exact Store.wf_cons.2 ⟨fun e he => h1 e (List.mem_filter.1 he).1, h2, ih h3⟩
    · rw [List.filter_cons_of_neg hp]; exact ih h3

theorem Store.wf_keep [DecidableEq α] {d : Nat → α} {m : Store α} (p : Nat → Bool) (h : Store.wf d m = true) : Store.wf d (Store.keep p m) = true :=
  Store.wf_filter _ h

theorem Store.wf_mapVals [DecidableEq α] {d : Nat → α} {m : Store α} (f : Nat → α → α) (h : Store.wf d m = true) : Store.wf d (Store.mapVals d f m) = true := by
  induction m with
  | nil => exact h
  | cons x r ih =>
    obtain ⟨a, w⟩ := x
    obtain ⟨h1, h2, h3⟩ := Store.wf_cons.1 h
    simp only [Store.mapVals, List.map_cons, List.filter_cons] at ih ⊢
    split
    · next hp =>
      refine Store.wf_cons.2 ⟨?_, by simpa using hp, ih h3⟩
      intro e he
      obtain ⟨y, hy, rfl⟩ := List.mem_map.1 (List.mem_filter.1 he).1
      exact h1 y hy
    · exact ih h3

/-- A value of a canonical store is read where it stands. -/
theorem Store.get_mapVals [DecidableEq α] {d : Nat → α} {m : Store α} (f : Nat → α → α) (h : Store.wf d m = true) (hd : ∀ k, f k (d k) = d k) (j : Nat) :
    Store.get d (Store.mapVals d f m) j = f j (Store.get d m j) := by
  induction m with
  | nil => simp [Store.mapVals, Store.get, hd]
  | cons x r ih =>
    obtain ⟨a, w⟩ := x
    obtain ⟨h1, h2, h3⟩ := Store.wf_cons.1 h
    have ih' := ih h3
    simp only [Store.mapVals, List.map_cons, List.filter_cons] at ih' ⊢
    by_cases hp : f a w ≠ d a
    · rw [if_pos (by simpa using hp)]
      simp only [Store.get]
      by_cases hj : a = j
      · simp [hj]
      · rw [if_neg hj, if_neg hj]; exact ih'
    · rw [if_neg (by simpa using hp), ih']
      simp only [Store.get]
      by_cases hj : a = j
      · subst hj
        simp only [ne_eq, Decidable.not_not] at hp
        rw [if_pos rfl, hp]
        have hg : Store.get d r a = d a := by
          clear ih ih' hp h h3
          induction r with
          | nil => rfl
          | cons y r ih2 =>
            obtain ⟨b, v⟩ := y
            have hb := h1 (b, v) (by simp)
            simp only [Store.get]
            rw [if_neg (by simp only at hb; omega)]
            exact ih2 (fun e he => h1 e (List.mem_cons_of_mem _ he))
        rw [hg, hd]
      · simp [hj]

end Sys2Proof.Machine
end

