-- ==== Sys2Proof/Laws/Regs.lean ====
section
/-! SUPPORT. Register words and fields: a read after a write, fields of one word that do not overlap, pages that do not overlap, and the counters. -/

namespace Sys2Proof.Machine

theorem State.rd_wr (s : State) (a : Nat) (v : Word) (b : Nat) : (s.wr a v).rd b = if a = b then v else s.rd b := by
  unfold State.rd; rw [State.wr_fuses]; exact Store.get_set _ _ _ _ _

@[simp] theorem State.rd_wr_self (s : State) (a : Nat) (v : Word) : (s.wr a v).rd a = v := by rw [State.rd_wr, if_pos rfl]

theorem State.rd_wr_ne (s : State) {a b : Nat} (h : a ≠ b) (v : Word) : (s.wr a v).rd b = s.rd b := by rw [State.rd_wr, if_neg h]

theorem testBit_mask (w l i : Nat) : ((2 ^ w - 1) <<< l).testBit i = (decide (l ≤ i) && decide (i < l + w)) := by
  rw [Nat.testBit_shiftLeft, Nat.testBit_two_pow_sub_one]
  by_cases h : l ≤ i <;> simp [h]; omega

theorem Field.getLsbD_mask (f : Field) (i : Nat) (h : i < 32) : f.mask.getLsbD i = (decide (f.lsb ≤ i) && decide (i < f.lsb + f.width)) := by
  rw [Field.mask, BitVec.getLsbD_ofNat, testBit_mask]; simp [h]

/-- A bit of a word with one field replaced. -/
theorem getLsbD_setF (w : Word) (f : Field) (v i : Nat) (h : i < 32) :
    (setF w f v).getLsbD i = if f.lsb ≤ i ∧ i < f.lsb + f.width then v.testBit (i - f.lsb) else w.getLsbD i := by
  rw [setF, BitVec.getLsbD_or, BitVec.getLsbD_and, BitVec.getLsbD_and, BitVec.getLsbD_not, Field.getLsbD_mask f i h, BitVec.getLsbD_ofNat, Nat.testBit_shiftLeft]
  by_cases h1 : f.lsb ≤ i <;> by_cases h2 : i < f.lsb + f.width <;> simp [h, h1, h2]

/-- A bit of a field's value. -/
theorem testBit_getF (w : Word) (f : Field) (i : Nat) : (getF w f).testBit i = (decide (i < f.width) && w.getLsbD (f.lsb + i)) := by
  rw [getF, Nat.testBit_mod_two_pow, Nat.testBit_shiftRight, BitVec.testBit_toNat]

theorem getF_lt (w : Word) (f : Field) : getF w f < 2 ^ f.width := Nat.mod_lt _ (Nat.two_pow_pos _)

/-- A field reads as what was put there, cut to its width. -/
theorem getF_setF (w : Word) (f : Field) (v : Nat) (h : f.lsb + f.width ≤ 32) : getF (setF w f v) f = v % 2 ^ f.width := by
  apply Nat.eq_of_testBit_eq
  intro i
  rw [testBit_getF, Nat.testBit_mod_two_pow]
  by_cases hi : i < f.width
  · rw [getLsbD_setF w f v _ (by omega), if_pos (by omega)]; simp
  · simp [hi]

/-- A field that another does not overlap is unchanged. -/
theorem getF_setF_ne (w : Word) (f g : Field) (v : Nat) (h : f.lsb + f.width ≤ g.lsb ∨ g.lsb + g.width ≤ f.lsb) : getF (setF w f v) g = getF w g := by
  apply Nat.eq_of_testBit_eq
  intro i
  rw [testBit_getF, testBit_getF]
  by_cases hi : i < g.width
  · by_cases h3 : g.lsb + i < 32
    · rw [getLsbD_setF w f v _ h3, if_neg (by omega)]
    · rw [BitVec.getLsbD_of_ge _ _ (by omega), BitVec.getLsbD_of_ge _ _ (by omega)]
  · simp [hi]

theorem State.fld_setFld (s : State) (p : Page) (f : Field) (v : Nat) (h : f.lsb + f.width ≤ 32) : (s.setFld p f v).fld p f = v % 2 ^ f.width := by
  unfold State.fld State.setFld; rw [State.rd_wr_self, getF_setF _ _ _ h]

theorem State.fld_setFld_other (s : State) (p : Page) (f g : Field) (v : Nat) (h : f.lsb + f.width ≤ g.lsb ∨ g.lsb + g.width ≤ f.lsb) :
    (s.setFld p f v).fld p g = s.fld p g := by
  unfold State.fld State.setFld
  by_cases ho : f.off = g.off
  · rw [ho, State.rd_wr_self, getF_setF_ne _ _ _ _ h]
  · rw [State.rd_wr_ne _ (by omega)]

theorem State.fld_setFld_off (s : State) (p : Page) (f g : Field) (v : Nat) (h : f.off ≠ g.off) : (s.setFld p f v).fld p g = s.fld p g := by
  unfold State.fld State.setFld; rw [State.rd_wr_ne _ (by omega)]

theorem State.fld_wr_ne (s : State) (p : Page) (f : Field) (a : Nat) (v : Word) (h : a ≠ p.base + f.off) : (s.wr a v).fld p f = s.fld p f := by
  unfold State.fld; rw [State.rd_wr_ne _ h]

theorem State.rd_setFld_ne (s : State) (p : Page) (f : Field) (v a : Nat) (h : a ≠ p.base + f.off) : (s.setFld p f v).rd a = s.rd a :=
  State.rd_wr_ne _ (Ne.symm h) _

/-! Pages. -/

theorem pageOf_eq (a b : Nat) (h : a / 0x1000 = b / 0x1000) : pageOf a = pageOf b := by
  unfold pageOf
  have e : ∀ x : Nat, x / 0x1000000 = x / 0x1000 / 0x1000 := fun x => by rw [Nat.div_div_eq_div_mul]
  rw [e a, e b, h]

theorem Page.base_mod (p : Page) : p.base % 0x1000 = 0 := by unfold Page.base; omega

theorem pageOf_base (p : Page) : pageOf p.base = some p := by
  cases p with
  | clk d | pwr d | rtr d | msf d | trn d | vcx d | crn d | dma d | mem d | agt d | lnk d | opt d | mbx d => revert d; decide
  | d2dC c f => cases f <;> revert c <;> decide
  | d2dP k n => revert k n; decide
  | flt | sec | pci | smt | rst | tim => decide

/-- The page of an offset within a page. -/
theorem pageOf_base_add (p : Page) (off : Nat) (h : off < 0x1000) : pageOf (p.base + off) = some p := by
  rw [← pageOf_base p]; apply pageOf_eq
  have := p.base_mod
  omega

theorem Page.base_add_mod (p : Page) (off : Nat) (h : off < 0x1000) : (p.base + off) % 0x1000 = off := by
  have := p.base_mod
  omega

/-- Pages do not overlap. -/
theorem Page.base_add_inj {p q : Page} {a b : Nat} (ha : a < 0x1000) (hb : b < 0x1000) (h : p.base + a = q.base + b) : p = q ∧ a = b := by
  have e : pageOf (p.base + a) = pageOf (q.base + b) := by rw [h]
  rw [pageOf_base_add p a ha, pageOf_base_add q b hb] at e
  have e2 := Option.some.inj e
  subst e2
  exact ⟨rfl, by omega⟩

theorem State.fld_setFld_page (s : State) {p q : Page} (f g : Field) (v : Nat) (hf : f.off < 0x1000) (hg : g.off < 0x1000) (h : p ≠ q) :
    (s.setFld p f v).fld q g = s.fld q g :=
  State.fld_wr_ne _ _ _ _ _ (fun e => h (Page.base_add_inj hf hg e).1)

theorem State.rd_setFld_page (s : State) {p q : Page} (f : Field) (v off : Nat) (hf : f.off < 0x1000) (ho : off < 0x1000) (h : p ≠ q) :
    (s.setFld p f v).rd (q.base + off) = s.rd (q.base + off) :=
  State.rd_wr_ne _ (fun e => h (Page.base_add_inj hf ho e).1) _

/-! Counters (03 R141). -/

theorem satAdd_eq (top a b : Nat) : satAdd top a b = min top (a + b) := by unfold satAdd; split <;> omega

theorem State.counter_le (s : State) (p : Page) (off : Nat) : s.counter p off ≤ 0xFFFFFFFFFFFF := by
  unfold State.counter
  have h1 := (s.rd (p.base + off)).isLt
  have h2 : (s.rd (p.base + off + 4)).toNat % 0x10000 < 0x10000 := Nat.mod_lt _ (by decide)
  rw [Nat.shiftLeft_eq]
  omega

/-- A counter that takes a new count and overflow bit. -/
theorem State.bump_words (s : State) (p : Page) (off n : Nat) : ∃ c ovf, c = min 0xFFFFFFFFFFFF (s.counter p off + n) ∧
    (ovf = true ↔ c = 0xFFFFFFFFFFFF ∨ s.counterOvf p off = true) ∧
    (s.bump p off n).rd (p.base + off) = BitVec.ofNat 32 c ∧
    (s.bump p off n).rd (p.base + off + 4) = BitVec.ofNat 32 (c >>> 32 + (if ovf = true then 0x80000000 else 0)) ∧
    ∀ a, a ≠ p.base + off → a ≠ p.base + off + 4 → (s.bump p off n).rd a = s.rd a := by
  refine ⟨satAdd 0xFFFFFFFFFFFF (s.counter p off) n, decide (satAdd 0xFFFFFFFFFFFF (s.counter p off) n = 0xFFFFFFFFFFFF) || s.counterOvf p off, satAdd_eq _ _ _, ?_, ?_, ?_, ?_⟩
  · rw [Bool.or_eq_true, decide_eq_true_eq]
  · unfold State.bump; rw [State.rd_wr_ne _ (by omega), State.rd_wr_self]
  · unfold State.bump; rw [State.rd_wr_self]
  · intro a h1 h2; unfold State.bump; rw [State.rd_wr_ne _ (Ne.symm h2), State.rd_wr_ne _ (Ne.symm h1)]

/-- A counter advances by n and stays at all ones. -/
theorem State.counter_bump (s : State) (p : Page) (off n : Nat) : (s.bump p off n).counter p off = min 0xFFFFFFFFFFFF (s.counter p off + n) := by
  obtain ⟨c, ovf, hc, -, h1, h2, -⟩ := s.bump_words p off n
  have hc2 : c ≤ 0xFFFFFFFFFFFF := by omega
  rw [← hc]
  show ((s.bump p off n).rd (p.base + off)).toNat + (((s.bump p off n).rd (p.base + off + 4)).toNat % 0x10000) <<< 32 = c
  rw [h1, h2, BitVec.toNat_ofNat, BitVec.toNat_ofNat, Nat.shiftLeft_eq, Nat.shiftRight_eq_div_pow]
  cases ovf <;> simp <;> omega

theorem State.rd_bump_ne (s : State) (p : Page) (off n a : Nat) (h1 : a ≠ p.base + off) (h2 : a ≠ p.base + off + 4) : (s.bump p off n).rd a = s.rd a := by
  obtain ⟨c, ovf, -, -, -, -, h⟩ := s.bump_words p off n
  exact h a h1 h2

end Sys2Proof.Machine
end

