-- ==== Sys2Proof/Laws/Ops.lean ====
section
/-! SUPPORT. What every command shares: a quiet package keeps nothing behind a command, and the outcome of a command that goes on. -/

namespace Sys2Proof.Machine

theorem State.settled_on {s : State} (h : s.settled = true) : s.mgmtOn = true := by simp [State.settled] at h; exact h.1

theorem State.settled_quiet {s : State} (h : s.settled = true) : s.quiet = true := by simp [State.settled] at h; exact h.2

theorem State.sendEvent_none {s : State} {k : PDie} (h0 : (s.agent k).sess0 = none) (h1 : (s.agent k).sess1 = none) : s.sendEvent k = s := by
  unfold State.sendEvent AgentSt.eventSlot
  simp [h0, h1]

/-- Nothing follows a command in a quiet package. -/
theorem State.after_quiet {s : State} (h : s.quiet = true) : s.after = s := by
  simp [State.quiet, List.isEmpty_iff] at h
  obtain ⟨⟨⟨hb, hh⟩, hr⟩, ⟨h0, h1⟩, h2, h3⟩ := h
  have e0 := State.sendEvent_none h0 h1
  have e1 := State.sendEvent_none h2 h3
  simp [State.after, State.settleBar2, State.pumpRelay, State.flushEvents, hb, hh, hr, e0, e1]

/-- A command that leaves a quiet package and the queue leaves just its own effect. -/
theorem State.finish_quiet {s u : State} (h : u.quiet = true) (hp : u.pending = s.pending) : s.finish u = u := by
  simp [State.finish, State.after_quiet h, ← hp]

theorem run_on {f : State → State} {s : State} (h : s.mgmtOn = true) : run f s = .next (s.finish (f s)) := by
  simp [run, State.act, h, State.finish]

theorem State.act_on {f : State → State} {s : State} (h : s.mgmtOn = true) : s.act f = s.finish (f s) := by
  simp [State.act, h, State.finish]

theorem run_off {f : State → State} {s : State} (h : s.mgmtOn = false) : run f s = .next s := by
  simp [run, State.act, h]

theorem State.act_off {f : State → State} {s : State} (h : s.mgmtOn = false) : s.act f = s := by
  simp [State.act, h]

/-- A command leaves the queue as it is. -/
@[simp] theorem State.act_pending (f : State → State) (s : State) : (s.act f).pending = s.pending := by
  unfold State.act; split <;> rfl

/-- A settled package in which a command has no effect is as it was. -/
theorem run_same {f : State → State} {s : State} (h : s.settled = true) (hf : f s = s) : run f s = .next s := by
  rw [run_on (State.settled_on h), hf, State.finish_quiet (State.settled_quiet h) rfl]

/-- A command that keeps a settled package quiet leaves just its own effect. -/
theorem run_quiet {f : State → State} {s : State} (h : s.settled = true) (hq : (f s).quiet = true) (hp : (f s).pending = s.pending) : run f s = .next (f s) := by
  rw [run_on (State.settled_on h), State.finish_quiet hq hp]

/-- What a package must keep to stay quiet. -/
theorem State.quiet_of_eq {s u : State} (h : s.quiet = true) (h1 : u.bar2 = s.bar2) (h2 : u.held = s.held) (h3 : u.relayOut = s.relayOut) (h4 : u.agents = s.agents) :
    u.quiet = true := by
  unfold State.quiet State.agent at *; rw [h1, h2, h3, h4]; exact h

end Sys2Proof.Machine
end

