-- ==== Sys2Proof/Laws/Agent.lean ====
section
/-! SUPPORT. What an agent and the Summit endpoint do with a request they take: its operation, then its answer (10 R373–R379, 11 R444). -/

namespace Sys2Proof.Machine

theorem Session.judge_runs {x : Session} {c : Nat} : (x.judge c).runs = true ↔ (x.judge c = .fresh ∨ x.judge c = .inWindow) := by
  cases h : x.judge c <;> simp [Ctr.runs]

theorem State.agentAuth_runs {u : State} {m : MgtIn} {openOp : Bool} {f : State → Session → State × Nat × List Byte} {x : Session} {slot ctr : Nat}
    (hcls : m.pkt.cls = true) (ht : trailerOf m.pkt = some (ctr, slot)) (hse : (u.agent m.k).sess slot = some x) (hv : m.valid = true)
    (hj : x.judge ctr = .fresh ∨ x.judge ctr = .inWindow) :
    u.agentAuth m openOp f = (u.agentServed m openOp f x).1.agentAnswers m x slot ctr (u.agentServed m openOp f x).2.1 (u.agentServed m openOp f x).2.2 := by
  rcases hj with hj | hj <;> simp [State.agentAuth, State.authRun, hcls, ht, hse, State.authUnder, hv, hj, State.authRan, State.agentAnswers]

/-- An operation under a session, executed and answered. -/
theorem State.agentOp_runs {s u : State} {m : MgtIn} {op : BitVec 8} {data openOp : Bool} {f : State → Session → State × Nat × List Byte} {x : Session} {slot ctr : Nat}
    (h : s.agentTakes m op openOp u x slot ctr) : s.agentOp m op true data openOp f = (f u x).1.agentAnswers m x slot ctr (f u x).2.1 (f u x).2.2 := by
  obtain ⟨⟨w, hw, hop, hcls, rfl⟩, ht, hse, hv, hj, hsv⟩ := h
  simp only [State.agentOp, hw, hop, bne_self_eq_false, Bool.not_true, Bool.or_self, Bool.false_eq_true, if_false, if_true]
  rw [State.agentAuth_runs hcls ht hse hv hj, State.agentServed, if_pos hsv]

theorem State.agentPlain_runs {u : State} {m : MgtIn} {data openOp : Bool} {f : State → Session → State × Nat × List Byte} (hcls : m.pkt.cls = data)
    (hse : u.agentServes m openOp = true) : u.agentPlain m data openOp f =
      (f u { serial := 0, primary := false }).1.agentReplies m (f u { serial := 0, primary := false }).2.1 (f u { serial := 0, primary := false }).2.2 := by
  simp [State.agentPlain, hcls, State.agentServed, hse, State.agentReplies]

/-- An operation that needs no session, executed and answered. -/
theorem State.agentOp_open {s u : State} {m : MgtIn} {op : BitVec 8} {data openOp : Bool} {f : State → Session → State × Nat × List Byte}
    (h : s.agentMeets m op data u) (hse : u.agentServes m openOp = true) : s.agentOp m op false data openOp f =
      (f u { serial := 0, primary := false }).1.agentReplies m (f u { serial := 0, primary := false }).2.1 (f u { serial := 0, primary := false }).2.2 := by
  obtain ⟨w, hw, hop, hcls, rfl⟩ := h
  simp only [State.agentOp, hw, hop, bne_self_eq_false, Bool.not_true, Bool.or_self, Bool.false_eq_true, if_false]
  exact State.agentPlain_runs hcls hse

theorem State.endpointAuth_runs {u : State} {m : MgtIn} {f : State → Session → State × Nat × List Byte} {x : Session} {ctr : Nat}
    (hcls : m.pkt.cls = true) (ht : trailerOf m.pkt = some (ctr, 0)) (hse : u.pairSess = some x) (hv : m.valid = true)
    (hj : x.judge ctr = .fresh ∨ x.judge ctr = .inWindow) :
    u.endpointAuth m f = (u.endpointServed m f x).1.endpointAnswers m x ctr (u.endpointServed m f x).2.1 (u.endpointServed m f x).2.2 := by
  rcases hj with hj | hj <;> simp [State.endpointAuth, State.authRun, hcls, ht, hse, State.authUnder, hv, hj, State.authRan, State.endpointAnswers]

/-- An operation of the pair, executed and answered. -/
theorem State.endpointOp_runs {s u : State} {m : MgtIn} {op : BitVec 8} {f : State → Session → State × Nat × List Byte} {x : Session} {ctr : Nat}
    (h : s.endpointTakes m op u x ctr) : s.endpointOp m op f = (f u x).1.endpointAnswers m x ctr (f u x).2.1 (f u x).2.2 := by
  obtain ⟨hw, hop, hk, hcls, ht, hse, hv, hj, hsv⟩ := h
  simp only [State.endpointOp, hw, hop, hk, bne_self_eq_false, Bool.not_true, Bool.or_self, Bool.false_eq_true, if_false]
  rw [State.endpointAuth_runs hcls ht hse hv hj, State.endpointServed, if_pos hsv]

end Sys2Proof.Machine
end

