-- ==== Sys2Proof/Laws/Memory.lean ====
section
/-! SUPPORT. Memory and Tarn: a read after a write and after zeroing, other bytes unchanged, and the canonical form kept by every memory operation. -/

namespace Sys2Proof.Machine

theorem memKey_inj {c e : CDie} {a b : Nat} (ha : a < memSpan) (hb : b < memSpan) (h : memKey c a = memKey e b) : c = e ∧ a = b := by
  unfold memKey memSpan at *
  have := c.isLt; have := e.isLt
  refine ⟨Fin.ext ?_, ?_⟩ <;> omega

theorem tarnKey_inj {c e : CDie} {a b : Nat} (ha : a < tarnSpan) (hb : b < tarnSpan) (h : tarnKey c a = tarnKey e b) : c = e ∧ a = b := by
  unfold tarnKey tarnSpan at *
  have := c.isLt; have := e.isLt
  refine ⟨Fin.ext ?_, ?_⟩ <;> omega

/-- A byte of memory after a write of bytes, of any die. -/
theorem State.memByte_memPut (s : State) (c e : CDie) (off o : Nat) (bs : List Byte) : (s.memPut c off bs).memByte e o =
    if h : memKey c off ≤ memKey e o ∧ memKey e o < memKey c off + bs.length then bs[memKey e o - memKey c off]'(by omega) else s.memByte e o :=
  Store.get_setList _ _ _ _ _

theorem State.tarnByte_tarnPut (s : State) (c e : CDie) (off o : Nat) (bs : List Byte) : (s.tarnPut c off bs).tarnByte e o =
    if h : tarnKey c off ≤ tarnKey e o ∧ tarnKey e o < tarnKey c off + bs.length then bs[tarnKey e o - tarnKey c off]'(by omega) else s.tarnByte e o :=
  Store.get_setList _ _ _ _ _

/-- A write leaves every byte outside its extent. -/
theorem State.memByte_memPut_ne (s : State) (c e : CDie) (off o : Nat) (bs : List Byte) (hb : off + bs.length ≤ memSpan) (ho : o < memSpan)
    (h : e = c → o < off ∨ off + bs.length ≤ o) : (s.memPut c off bs).memByte e o = s.memByte e o := by
  rw [State.memByte_memPut, dif_neg]
  rintro ⟨h1, h2⟩
  have hc := c.isLt; have he := e.isLt
  unfold memKey memSpan at *
  have : e = c := Fin.ext (by omega)
  have := h this
  subst e
  omega

theorem State.tarnByte_tarnPut_ne (s : State) (c e : CDie) (off o : Nat) (bs : List Byte) (hb : off + bs.length ≤ tarnSpan) (ho : o < tarnSpan)
    (h : e = c → o < off ∨ off + bs.length ≤ o) : (s.tarnPut c off bs).tarnByte e o = s.tarnByte e o := by
  rw [State.tarnByte_tarnPut, dif_neg]
  rintro ⟨h1, h2⟩
  have hc := c.isLt; have he := e.isLt
  unfold tarnKey tarnSpan at *
  have : e = c := Fin.ext (by omega)
  have := h this
  subst e
  omega

/-- What was written reads back. -/
theorem State.memGet_memPut (s : State) (c : CDie) (off : Nat) (bs : List Byte) : (s.memPut c off bs).memGet c off bs.length = bs :=
  Store.getList_setList _ _ _ _

theorem State.tarnGet_tarnPut (s : State) (c : CDie) (off : Nat) (bs : List Byte) : (s.tarnPut c off bs).tarnGet c off bs.length = bs :=
  Store.getList_setList _ _ _ _

theorem State.mem_memZero (s : State) (c : CDie) (off n : Nat) :
    (s.memZero c off n).mem = Store.keep (fun k => !(memKey c off ≤ k && k < memKey c off + n)) s.mem := by cases s; rfl

/-- A byte of memory after a span was zeroed. -/
theorem State.memByte_memZero (s : State) (c e : CDie) (off n o : Nat) : (s.memZero c off n).memByte e o =
    if memKey c off ≤ memKey e o ∧ memKey e o < memKey c off + n then 0 else s.memByte e o := by
  unfold State.memByte
  rw [State.mem_memZero, Store.get_keep]
  by_cases h1 : memKey c off ≤ memKey e o <;> by_cases h2 : memKey e o < memKey c off + n <;> simp [h1, h2, memDefault]

theorem State.tarnByte_tarnZero (s : State) (c e : CDie) (off n o : Nat) : (s.tarnZero c off n).tarnByte e o =
    if tarnKey c off ≤ tarnKey e o ∧ tarnKey e o < tarnKey c off + n then 0 else s.tarnByte e o := by
  unfold State.tarnByte State.tarnZero
  rw [Store.get_keep]
  by_cases h1 : tarnKey c off ≤ tarnKey e o <;> by_cases h2 : tarnKey e o < tarnKey c off + n <;> simp [h1, h2, memDefault]

theorem State.tarn_tarnZero (s : State) (c : CDie) (off n : Nat) :
    (s.tarnZero c off n).tarn = Store.keep (fun k => !(tarnKey c off ≤ k && k < tarnKey c off + n)) s.tarn := by cases s; rfl

/-! Every memory operation keeps the canonical form. -/

theorem memPut_form (s : State) (c : CDie) (off : Nat) (bs : List Byte) (h : Memory.wf s.mem = true) : Memory.wf (s.memPut c off bs).mem = true :=
  Store.wf_setList _ _ h

theorem tarnPut_form (s : State) (c : CDie) (off : Nat) (bs : List Byte) (h : Memory.wf s.tarn = true) : Memory.wf (s.tarnPut c off bs).tarn = true :=
  Store.wf_setList _ _ h

theorem memZero_form (s : State) (c : CDie) (off n : Nat) (h : Memory.wf s.mem = true) : Memory.wf (s.memZero c off n).mem = true := by
  rw [State.mem_memZero]; exact Store.wf_keep _ h

theorem tarnZero_form (s : State) (c : CDie) (off n : Nat) (h : Memory.wf s.tarn = true) : Memory.wf (s.tarnZero c off n).tarn = true := by
  rw [State.tarn_tarnZero]; exact Store.wf_keep _ h

theorem memPutExcept_tarn (s : State) (bad : List Nat) (k : Nat) (bs : List Byte) : (s.memPutExcept bad k bs).tarn = s.tarn := by
  induction bs generalizing s k with
  | nil => rfl
  | cons b r ih => unfold State.memPutExcept; rw [ih]; split <;> rfl

theorem memPutExcept_form (s : State) (bad : List Nat) (k : Nat) (bs : List Byte) (h : Memory.wf s.mem = true) :
    Memory.wf (s.memPutExcept bad k bs).mem = true := by
  induction bs generalizing s k with
  | nil => exact h
  | cons b r ih =>
    unfold State.memPutExcept
    apply ih
    split
    · exact h
    · exact Store.wf_set _ _ h

end Sys2Proof.Machine
end

