-- ==== Sys2Proof/Tests/Slice0.lean ====
section
/-! SUPPORT. Small tests of the model's own, and a witness for the hypotheses of each statement. -/

namespace Sys2Proof.Tests

open Sys2Proof Sys2Proof.Machine

set_option maxRecDepth 4000
set_option Elab.async false

/-- A powered package right after power-on, before bring-up has done anything. -/
def on : State := { pending := [], mgmtOn := true }

/-- The same in a phase of bring-up. -/
def inPhase (n : Nat) : State := { on with boot := { phase := n } }

/-- A queue of partition 0, context 0, on CD0. -/
def q0 (q : QIx) : QRef := ⟨0, 0, 0, q⟩

/-- A descriptor of n words, those listed not zero. -/
def desc (n : Nat) (l : List (Nat × Nat)) : List Byte := (List.range n).flatMap (fun i => leBytes ((l.lookup i).getD 0) 4)

/-- Partition 0 holds the first granule of CD0's memory and all its Tarn. -/
def room (s : State) : State :=
  (((s.setFld (.mem 0) F.BLK_STATUS_READY 1).setFld (.mem 0) (F.MEM_RANGE_SIZE 0) 1).setFld (.trn 0) (F.TRN_PART_SIZE 0) 4096)

/-- Partition 0 exists. -/
def part0 (s : State) : State := { s with parts := [(0, some ⟨[], 1, 4, 0, 0, false, [], [0], none, false, false, false⟩)] }

-- bring-up

theorem witness_PowerOnAndResetsStartOver :
    (State.reset.mgmtOn = false ∧ BootFind.spOk {} = true ∧ State.reset.cold.imageCheck {} ≠ none ∧ on.cold.imageCheck {} ≠ none) ∧
    BootFind.spOk { spOk := false } = false ∧ on.mgmtOn = true ∧ ((0xD5020000 : Word).getLsbD 17 = true ∧ (0xD5020000 : Word).toNat >>> 24 = 0xD5) ∧
    (on.settled = true ∧ (0xD5000000 : Word).getLsbD 17 = false ∧ (0xD4020000 : Word).toNat >>> 24 ≠ 0xD5) := by
  decide +kernel
/-- Rail i of step 5. -/
def atRail (i : Nat) : State := { on with boot := { phase := phRAILS, rail := i } }

/-- Every port but O hears its partner. -/
def heardAll : State :=
  allPorts.foldl (fun s q => (s.setFld (.lnk q) F.LNK_PARTNER_VALID 1).setPort q { s.port q with planDigest := List.replicate 16 0 }) (inPhase phFABRIC_MEMORY)

/-- The first stack of CD0 in a state. -/
def stack0 (k : Nat) : State := (inPhase phFABRIC_MEMORY).setFld (.mem 0) (F.MEM_STACK_STATE 0) k

/-- The same with the stack eligible for the first round. -/
def eligible0 : State := { stack0 skTESTING with boot := { phase := phFABRIC_MEMORY, eligible := [0] } }

/-- Channel 0 of the first stack of CD0 has all its 256 remap entries in use. -/
def fullChannel (s : State) : State := { s with remaps := List.replicate 256 ⟨0, 0, 0, 5, 0⟩ }

/-- Bring-up in CLOCKS with no die but PD0 in service, and what it makes of the dies, by their self-test. -/
def clocked : State := { inPhase phCLOCKS with fencedDies := allDies.filter (· != pd0) }
def diesUp (t : SelfTest) : State :=
  allDies.foldl (fun (u : State) d => u.dieUp t d) { clocked with boot := { clocked.boot with phase := phFABRIC_MEMORY, rounds := 0, coreHoles := [], dmaHoles := [] } }

theorem witness_BringUpRunsItsSteps_rails :
    ((inPhase phWAIT_REFCLK).settled = true ∧ (inPhase phWAIT_REFCLK).boot.phase = phWAIT_REFCLK) ∧
    ((atRail 0).settled = true ∧ (atRail 0).boot.phase ≠ phWAIT_REFCLK ∧ (atRail 0).boot.phase = phRAILS ∧ railOrder[(atRail 0).boot.rail + 1]? = some .pd1) ∧
    ((atRail 13).settled = true ∧ (atRail 13).boot.phase = phRAILS ∧ railOrder.length ≤ (atRail 13).boot.rail + 1) ∧
    ((inPhase phCLOCKS).settled = true ∧ (inPhase phCLOCKS).boot.phase ≠ phRAILS) ∧
    ((atRail 3).mgmtOn = true ∧ (atRail 3).boot.phase = phRAILS ∧ railOrder[(atRail 3).boot.rail]? = some (.cd 0) ∧ railOrder[(atRail 1).boot.rail]? = some .pd1) ∧
    (railOrder[(atRail 0).boot.rail]? = some .pd0 ∧ Rail.pd0 ≠ .pd1 ∧ ∀ c, Rail.pd0 ≠ .cd c) ∧
    (on.settled = true ∧ on.boot.phase ≠ phCLOCKS) ∧
    (clocked.mgmtOn = true ∧ clocked.boot.phase = phCLOCKS ∧ (diesUp { badDies := [pd0] }).boot.phase = phHALTED ∧
      (diesUp {}).boot.phase ≠ phHALTED) := by
  decide +kernel

theorem witness_BringUpRunsItsSteps :
    (let s := stack0 skTRAINING
     s.mgmtOn = true ∧ s.dieDown 0 = false ∧ s.boot.phase = phFABRIC_MEMORY ∧ s.fld (.mem 0) (F.MEM_STACK_STATE (0 : Fin 3).val) = skTRAINING ∧
       (∀ ch : Fin 12, s.remapCount 0 0 ch + ([] : List (Fin 12 × BitVec 22)).countP (fun r => r.1 == ch) ≤ 256)) ∧
    (let s : State := { fullChannel (stack0 skTRAINING) with repairLog := [⟨0, 0, 0, 7⟩] }
     let rows := (s.repairLog.filter (fun r => r.die == (0 : CDie) && r.stack == (0 : Fin 3))).map (fun r => (r.ch, r.row))
     s.mgmtOn = true ∧ s.dieDown 0 = false ∧ s.boot.phase = phFABRIC_MEMORY ∧ s.fld (.mem 0) (F.MEM_STACK_STATE (0 : Fin 3).val) = skTRAINING ∧
       256 < s.remapCount 0 0 0 + rows.countP (fun r => r.1 == (0 : Fin 12))) ∧
    (eligible0.mgmtOn = true ∧ eligible0.dieDown 0 = false ∧ eligible0.fld (.mem 0) (F.MEM_STACK_STATE (0 : Fin 3).val) = skTESTING ∧
      (3 * (0 : CDie).val + (0 : Fin 3).val) ∈ eligible0.boot.eligible ∧ (0 : CDie).val / 2 = eligible0.boot.rounds ∧
      (∀ ch : Fin 12, eligible0.remapCount 0 0 ch + ([] : List (Fin 12 × BitVec 22)).countP (fun r => r.1 == ch) ≤ 256) ∧
      256 < (fullChannel eligible0).remapCount 0 0 0 + ([(0, 7)] : List (Fin 12 × BitVec 22)).countP (fun r => r.1 == (0 : Fin 12)) ∧
      ((fullChannel eligible0).isRemapped 0 ⟨0, 0, 7, none⟩ = false)) ∧
    (on.settled = true ∧ on.boot.phase ≠ phFABRIC_MEMORY) ∧
    (heardAll.mgmtOn = true ∧ heardAll.boot.boardSettled = false ∧ heardAll.boot.phase = phFABRIC_MEMORY ∧
      (∀ n : Fin 4, n ≠ 0 → ∃ q : Port, portRole heardAll.profile q = .n n.val ∧ heardAll.flag (.lnk q) F.LNK_PARTNER_VALID = true ∧
        (heardAll.port q).planDigest = digest16 heardAll.bootPlan)) ∧
    (∀ q : Port, (inPhase phFABRIC_MEMORY).flag (.lnk q) F.LNK_PARTNER_VALID = false) := by
  decide +kernel
-- queues and doorbells

/-- Queue 1 of partition 0, context 0 on CD0, enabled. -/
def door0 : State := on.setQueue (q0 1) { enable := true }

/-- The same behind a gate. -/
def gated : State := on.setQueue (q0 1) { enable := true, gateTo := 5, gates := [⟨some 3, 0, 2, false⟩] }

theorem witness_DoorbellsMoveTail :
    (door0.settled = true ∧ door0.doorOpen (q0 1) = true ∧ (door0.queue (q0 1)).err = false ∧ (door0.queue (q0 1)).gates = [] ∧
      (16 : BitVec 24) ≠ (door0.queue (q0 1)).tail ∧ ixDist 16 (door0.queue (q0 1)).tail < 2 ^ 23 ∧
      ixDist 16 (door0.queue (q0 1)).head ≤ 2 ^ (door0.queue (q0 1)).log2) ∧
    (on.settled = true ∧ on.doorOpen (q0 1) = false) ∧
    ((17 : BitVec 24) ≠ (door0.queue (q0 1)).tail ∧ tailOk (door0.queue (q0 1)) (door0.queue (q0 1)).tail 17 = false) ∧
    ((door0.queue (q0 1)).gates.length < 8 ∧ (16 : BitVec 24) ≠ newestTail (door0.queue (q0 1)) ∧
      tailOk (door0.queue (q0 1)) (newestTail (door0.queue (q0 1))) 16 = true) ∧
    (let s := on.setQueue (q0 1) { enable := true, gates := List.replicate 8 ⟨some 3, 0, 2, false⟩ }
     s.mgmtOn = true ∧ s.doorOpen (q0 1) = true ∧ (s.queue (q0 1)).err = false ∧ (16 : BitVec 24) ≠ newestTail (s.queue (q0 1)) ∧ 8 ≤ (s.queue (q0 1)).gates.length) ∧
    (on.pageServed (.fn (.pf 0)) (.vcx 0) = true ∧ CDie.die 0 ∉ on.fencedDies) ∧
    (let s : State := (part0 on).setFld .pci (F.PCI_VF_ENABLED 0) 1
     s.mgmtOn = true ∧ s.vfOn 0 = true ∧ s.pageThere (.vcx 0) = true ∧ CDie.die 0 ∉ s.fencedDies) := by
  decide +kernel
/-- A vector queue with one released entry. -/
def released : State := room (on.setQueue (q0 1) { enable := true, tail := 1 })

/-- A dispatch of core 0. -/
def dispatchDesc : List Byte := desc 16 [(0, 1), (1, 1)]

theorem witness_DescriptorFetchChecksTheEntry :
    (∀ b : Bool, let s := if b then released.memPut 0 0 dispatchDesc else released
     let x := s.readBoard 0 ⟨some 0, some 0⟩ 0 (entryAddr (q0 1) (s.queue (q0 1)) (s.queue (q0 1)).head) (q0 1).entrySize {}
     s.mgmtOn = true ∧ (s.queue (q0 1)).enable = true ∧ (s.queue (q0 1)).err = false ∧ s.partFenced 0 = false ∧
       s.enginesRun 0 = true ∧ (q0 1).q ≠ 0 ∧ (s.queue (q0 1)).skips = [] ∧ (s.queue (q0 1)).head ≠ (s.queue (q0 1)).tail ∧
       x.2.1 = .ok ∧ x.1.partFenced 0 = false ∧ decide (x.1.checkDesc (q0 1) x.2.2 = 0) = b) ∧
    (let s := on.setQueue (q0 0) { enable := true, tail := 1 } |>.setMsf 0 msfIDLE
     let x := s.readBoard 0 ⟨some 0, some 0⟩ 0 (entryAddr (q0 0) (s.queue (q0 0)) (s.queue (q0 0)).head) (q0 0).entrySize {}
     s.enginesRun 0 = true ∧ (s.msfState 0 ≠ msfHALTED ∧ s.msfState 0 ≠ msfOFF ∧ s.msfState 0 ≠ msfSELFTEST) ∧ x.2.1 = .range ∧ x.1.partFenced 0 = false) ∧
    (gated.mgmtOn = true ∧ (gated.queue (q0 1)).gates = [⟨some 3, 0, 2, false⟩] ∧ (gated.queue (q0 1)).gateTo ≠ 0 ∧ (gated.queue (q0 1)).err = false ∧
      gated.gateNow 0 ⟨some 3, 0, 2, false⟩ = .wait ∧ gated.enginesRun 0 = true) := by
  decide +kernel
-- the Massif array

/-- TRANSPOSE of one binary32 number at 0 to 0x1000. -/
def sweepDesc : List Byte := desc 64 [(0, 0x51), (1, 0x10100), (2, 1), (3, 1), (4, 1), (9, 64), (10, 64), (26, 0x1000)]

/-- A sweep waits in queue 0 of partition 0, context 0. -/
def sweepWaits (st : Nat) : State := (on.setQueue (q0 0) { enable := true, head := 1, tail := 1, fetched := [⟨0, sweepDesc⟩] }).setMsf 0 st

/-- The array holds the sweep, in a state. -/
def sweepIn (st : Nat) (r : RunSweep) : State := (room on |>.setArray 0 { owner := some (0, 0), run := some r }).setMsf 0 st
def sweep0 : RunSweep := { ref := q0 0, index := 0, desc := sweepDesc }
def tile0 : Tile := ⟨0, 0, [], []⟩

/-- A sweep of many reduction tiles, with one in the active plane. -/
def sweepK : RunSweep := { sweep0 with desc := desc 64 [(0, 1), (1, 0x1080808), (2, 1), (3, 1), (4, 0x10000)], tile := some tile0 }

/-- CD0's array under an issue hold. -/
def holding (s : State) : State := s.setFld (.pwr 0) F.PWR_STATUS_DROOP 1

theorem witness_SweepsAreGrantedAndRun_start :
    (∀ st ∈ [msfIDLE, msfUNAVAILABLE], let s := sweepWaits st
     s.mgmtOn = true ∧ s.msfState 0 = st ∧ roundRobin (s.array 0).grantArr (fun k => s.readyQueue (sweepQueue 0 k)) = some 0 ∧
       ((s.takeEntry (sweepQueue 0 0)).map (fun e => (e.2.array 0).owner)) = some none ∧
       (((s.setArray 0 { s.array 0 with owner := some (0, 0) }).takeEntry (sweepQueue 0 0)).map (fun e => (e.2.array 0).owner)) = some (some (0, 0))) ∧
    ((sweepIn msfLOAD sweep0).msfState 0 ≠ msfIDLE ∧ (sweepIn msfLOAD sweep0).msfState 0 ≠ msfUNAVAILABLE ∧ (sweepIn msfLOAD sweep0).settled = true) ∧
    ((sweepIn msfSWITCH sweep0).mgmtOn = true ∧ (sweepIn msfSWITCH sweep0).msfState 0 = msfSWITCH ∧ ((sweepIn msfSWITCH sweep0).array 0).run = some sweep0 ∧
      sweep0.status = 0 ∧ RunSweep.status { sweep0 with status := stABORTED } ≠ 0) ∧
    ((sweepIn msfLOAD sweep0).mgmtOn = true ∧ ((sweepIn msfLOAD sweep0).array 0).run = some sweep0 ∧ (sweepIn msfLOAD sweep0).msfState 0 = msfLOAD ∧
      (loadStep 0 sweep0 true [] true {} (sweepIn msfLOAD sweep0)).1.err = 0 ∧
      (loadStep 0 { sweep0 with desc := desc 64 [(0, 0xF0000001), (1, 0x1080808), (2, 1), (3, 1), (4, 1)] } true [] true {} (on.setMsf 0 msfLOAD)).1.err ≠ 0) ∧
    ((sweepIn msfSTREAM sweep0).msfState 0 = msfSTREAM ∧ sweep0.tile = none) ∧ (sweepK.tile.isSome = true ∧ sweepK.lastPass = false ∧ sweepK.shadow = none) ∧
    ((sweepIn msfDRAIN sweep0).settled = true ∧ (sweepIn msfDRAIN sweep0).msfState 0 ≠ msfLOAD ∧ (sweepIn msfDRAIN sweep0).msfState 0 ≠ msfSTREAM) := by
  decide +kernel

theorem witness_SweepsAreGrantedAndRun :
    (let r := { sweep0 with tile := some tile0, lastRow := true }
     let s := sweepIn msfDRAIN r
     s.mgmtOn = true ∧ (s.array 0).get (s.array 0).passSlot = some r ∧ s.msfState 0 = msfDRAIN ∧ r.passReady (s.issueHold 0) = true ∧
       (passStep { s := s, tie := true } 0 (r.enter (s.sweepLimitReg 0)) {}).1.err = 0 ∧
       (passStep { s := s, tie := true } 0 ({ r with badRows := [(3, false)] }.enter (s.sweepLimitReg 0)) {}).1.err ≠ 0) ∧
    (let r := { sweep0 with tile := some tile0 }
     let s := sweepIn msfSTREAM r
     s.mgmtOn = true ∧ (s.array 0).run = some r ∧ s.msfState 0 = msfSTREAM ∧ r.tile.isSome = true ∧ r.lastPass = true ∧ r.lastRow = false ∧ s.issueHold 0 = false ∧
       (s.array 0).next = none ∧ (holding s).settled = true ∧ (holding s).issueHold 0 = true ∧
       ((s.setQueue (q0 0) { fetched := [⟨0, sweepDesc⟩] }).queue r.ref).fetched = [⟨0, sweepDesc⟩] ∧ sweep0.index = 0 ∧ sweep0.desc = sweepDesc ∧
       ((s.setArray 0 { s.array 0 with next := some sweep0 }).array 0).next = some sweep0) ∧
    (let r := { sweep0 with done := true }
     let s := sweepIn msfDRAIN r
     (s.array 0).drain = [] ∧ (s.array 0).run = some r ∧ s.msfState 0 = msfDRAIN ∧ r.done = true ∧
     ((s.setArray 0 { s.array 0 with drain := [r] }).array 0).drain = [r] ∧ (s.setArray 0 { s.array 0 with drain := [r] }).msfState 0 = msfDRAIN) ∧
    (∀ n ∈ [0x1400, 0x13FF], let r := { sweep0 with counted := n }
     let s := (sweepIn msfSTREAM r).setFld (.msf 0) F.MSF_SWEEP_LIMIT_LIMIT 5
     s.mgmtOn = true ∧ (s.array 0).run = some r ∧ (s.array 0).drain = [] ∧ s.msfState 0 = msfSTREAM ∧ RunSweep.overLimit (s.sweepLimitReg 0) r = decide (n = 0x1400) ∧
       s.quiet = true) ∧
    ((sweepIn msfABORT sweep0).msfState 0 = msfABORT ∧ (sweepIn msfDRAIN sweep0).msfState 0 ≠ msfABORT) := by
  decide +kernel
theorem witness_TarnZeroingAndAllocation :
    (on.settled = true ∧ on.dieDown 0 = false ∧ (0x80000000 : Word).getLsbD 31 = true ∧ on.flag (.trn 0) F.TRN_ZERO_STATUS_BUSY = false) ∧
    (let s : State := { on with zeroOrders := [(8, (4095, 1))] }.setFld (.trn 0) F.TRN_ZERO_STATUS_BUSY 1
     s.settled = true ∧ s.mgmtOn = true ∧ s.dieDown 0 = false ∧ s.flag (.trn 0) F.TRN_ZERO_STATUS_BUSY = true ∧ Store.get (fun _ => (0, 0)) s.zeroOrders (8 + (0 : CDie).val) = (4095, 1) ∧ 4095 < 4096) ∧
    (bits (0x01000000 : Word).toNat 11 0 + bits (0x01000000 : Word).toNat 24 12 ≤ 4096 ∧ (∀ q : Part, q ≠ 0 →
      overlaps (on.fld (.trn 0) (F.TRN_PART_BASE q.val), on.fld (.trn 0) (F.TRN_PART_SIZE q.val))
        (bits (0x01000000 : Word).toNat 11 0, bits (0x01000000 : Word).toNat 24 12) = false)) ∧
    4096 < bits (0x01000001 : Word).toNat 11 0 + bits (0x01000001 : Word).toNat 24 12 := by
  decide +kernel
-- the vector cores

/-- A dispatch waits in queue 1. -/
def dispatchWaits : State := on.setQueue (q0 1) { enable := true, head := 1, tail := 1, fetched := [⟨0, dispatchDesc⟩] }

theorem witness_DispatchStartSetsTheCores :
    let s := dispatchWaits
    s.mgmtOn = true ∧ s.enginesRun 0 = true ∧
      roundRobin (s.array 0).grantVec (fun k => (lowestQueue vecQueues (fun q => s.canDispatch (vecQueue 0 k q))).isSome) = some 0 ∧
      lowestQueue vecQueues (fun q => s.canDispatch (vecQueue 0 0 q)) = some 1 ∧ (s.takeEntry (vecQueue 0 0 1)).isSome = true ∧
      (s.settled = true ∧ (s.setFld .flt F.FLT_STATE_STATE hubSAFE).settled = true ∧ (s.setFld .flt F.FLT_STATE_STATE hubSAFE).enginesRun 0 = false) ∧
      (CoreSt.prev {} ≠ some ((q0 1).part, (q0 1).ctx)) := by
  decide +kernel
/-- A dispatch runs on core 0 of CD0. -/
def dispatch0 : Dispatch := { id := 7, ref := q0 1, index := 0, desc := dispatchDesc, start := 0, limit := 9 }
def running : State := { on with dispatches := [dispatch0] }.setCore 0 0 { run := some 7 }

/-- The same once the core has stopped. -/
def stopped : State := { on with dispatches := [{ dispatch0 with exits := [⟨0, 0⟩] }] }

/-- Core 0 of CD0 is ready after the instructions listed, and what then holds of it. -/
def ready (pre : List CoreWrite) (f : CoreSt → Bool) : Bool := (running.coreReady 0 0 pre).any (fun e => f e.1 && decide (e.2 = dispatch0))

theorem witness_CoresExitTrapAndComplete :
    (running.mgmtOn = true ∧ ready [] (fun x => decide (x.xr 17 = 0)) = true ∧ ready [.x 17 1] (fun x => decide (x.xr 17 = 1)) = true ∧
      ready [.x 17 2] (fun x => decide (x.xr 17 ≠ 0 ∧ x.xr 17 ≠ 1)) = true) ∧
    (running.coreRun 0 0 = some dispatch0 ∧ dispatch0.limit ≠ 0) ∧ (running.settled = true ∧ running.coreRun 0 1 = none) ∧
    (stopped.mgmtOn = true ∧ stopped.enginesRun 0 = true ∧ stopped.dispatches.find? (fun d => d.ref.die == 0 && dispatchDone d) = some { dispatch0 with exits := [⟨0, 0⟩] } ∧
      dispatch0.trap = none) ∧
    (let d : Dispatch := { dispatch0 with stopped := true, status := BitVec.ofNat 8 stCORE_TRAP, trap := some ⟨0, BitVec.ofNat 8 stCORE_TRAP, 2, 0⟩ }
     State.dispatches { on with dispatches := [d] } = [d] ∧ dispatchDone d = true ∧ d.trap = some ⟨0, BitVec.ofNat 8 stCORE_TRAP, 2, 0⟩ ∧ BitVec.ofNat 8 stCORE_TRAP = d.status) := by
  decide +kernel
theorem witness_CoreOperationsAndTheirFrame :
    (running.mgmtOn = true ∧ ready [.vset 4 0x18] (fun x => (adda128 x 1 2 3 running).isSome && (adda64 x 1 2 3 running).isSome) = true ∧
      ready [] (fun x => (adda128 x 1 2 3 running).isNone && (adda64 x 1 2 3 running).isNone) = true ∧
      ready [.vset 4 0x10] (fun x => (vslyConvert x 1 2 3 running).isSome && (Sys2Proof.Machine.vslyUnpack x 1 2 3 running).isSome) = true) ∧
    (let op : RemoteOp := .load (.x 5 false) (BitVec.ofNat 64 memSpan) 8
     op.size ≠ 0 ∧ op.misaligned = false ∧ corePlace op.addr.toNat = .board ∧ extentMapped op.addr.toNat op.size = true ∧ placeOf op.addr.toNat = .mem 0 1 0 ∧
       (1 : CDie) ≠ 0) ∧
    (let op : RemoteOp := .store (BitVec.ofNat 64 memSpan) [some 1, none, some 2]
     op.size ≠ 0 ∧ op.misaligned = false ∧ corePlace op.addr.toNat = .board ∧ extentMapped op.addr.toNat op.size = true) ∧
    (let op : RemoteOp := .amo 8 true (BitVec.ofNat 64 memSpan) 0 5
     op.size ≠ 0 ∧ op.misaligned = false ∧ corePlace op.addr.toNat = .board ∧ extentMapped op.addr.toNat op.size = true) ∧
    (corePlace (0x7FFFFFFFFF8 : BitVec 64).toNat = .board ∧ extentMapped (0x7FFFFFFFFF8 : BitVec 64).toNat 8 = false) ∧
    (let s := room running
     s.mgmtOn = true ∧ (s.coreReady 0 0 []).isSome = true ∧ (RemoteOp.load (.x 5 false) 56 8).misaligned = false ∧ corePlace (56 : BitVec 64).toNat = .board ∧
       extentMapped (56 : BitVec 64).toNat 8 = true ∧ placeOf (56 : BitVec 64).toNat = .mem s.pos 0 56 ∧
       (s.readBoard 0 ⟨some 0, some 0⟩ 0 (56 : BitVec 64).toNat 8 {} false).2.1 = .ok) := by
  decide +kernel
-- the DMA engines and the transport

/-- A DMA descriptor waits in queue 8 of partition 0, context 0. -/
def dmaWaits (d : List Byte) : State := room (on.setQueue (q0 8) { enable := true, head := 1, tail := 1, fetched := [⟨0, d⟩] })

/-- COPY, GET, FANOUT, SIGNAL and CAIRN_CFG, of 64 bytes from 0 to `dst`, or from `src`. -/
def dmaDesc (kind : Nat) (src dst : Nat) (more : List (Nat × Nat)) : List Byte :=
  desc 16 ([(0, 1 + 16 * kind), (2, 64), (4, src % 2 ^ 32), (5, src / 2 ^ 32), (6, dst % 2 ^ 32), (7, dst / 2 ^ 32)] ++ more)

/-- An engine can take the descriptor. -/
def taken (d : List Byte) : Bool :=
  let s := dmaWaits d
  s.mgmtOn && s.enginesRun 0 && decide (s.nextDma 0 = some (0, q0 8)) && decide (s.freeEngine 0 = some 0) && (s.takeEntry (q0 8)).isSome

/-- The state once the entry is taken. -/
def entered (d : List Byte) : State :=
  match (dmaWaits d).takeEntry (q0 8) with
  | some (_, u) => State.setArray { u with nextId := u.nextId + 1 } 0 { u.array 0 with grantDma := 0 }
  | none => on

/-- The check of the source or of the destination on the state that is left. -/
def chk (s : State) (w far : Bool) (d : List Byte) : State × Bool :=
  let a := if w then dmDST d else dmSRC d
  if far then s.checkFar (q0 8) w a (dmLEN d) else s.checkRange (q0 8) w (if w then dmDST_TARN d else dmSRC_TARN d) a (dmLEN d)

theorem witness_EnginesTakeDescriptors :
    (taken (dmaDesc 3 0 0 []) = true ∧ dKIND (dmaDesc 3 0 0 []) = 3) ∧
    (∀ ok : Bool, let d := dmaDesc 0 0 (if ok then 0x1000 else 0x10000000) []
     taken d = true ∧ dKIND d = 0 ∧ dmREMOTE d = false ∧ (chk (entered d) false false d).2 = true ∧ (chk (chk (entered d) false false d).1 true false d).2 = ok) ∧
    (let d := dmaDesc 0 0x10000000 0x1000 []
     taken d = true ∧ dKIND d = 0 ∧ (chk (entered d) false false d).2 = false) ∧
    (∀ ok : Bool, let d := desc 16 [(0, 0x2011), (1, 0x100), (2, 64), (6, if ok then 0 else 0x10000000)]
     taken d = true ∧ dKIND d = 1 ∧ (chk (entered d) false true d).2 = true ∧ (chk (chk (entered d) false true d).1 true false d).2 = ok) ∧
    (let d := dmaDesc 1 (2 ^ 63) 0 []
     taken d = true ∧ dKIND d = 1 ∧ (chk (entered d) false true d).2 = false) ∧
    (∀ bad : Bool, let d := dmaDesc 2 (if bad then 0x10000000 else 0) 0x1000 [(3, 0x10000)]
     let x := (entered d).readOp 0 ⟨some 0, some 0⟩ 0 (dmDST_TARN d) (dmDST d) (16 * dmFAN_N d) {}
     taken d = true ∧ dKIND d = 2 ∧ x.2.1 = .ok ∧ (chk x.1 false false d).2 = !bad) ∧
    (let d := dmaDesc 2 0 0x10000000 [(3, 0x10000)]
     taken d = true ∧ dKIND d = 2 ∧ ((entered d).readOp 0 ⟨some 0, some 0⟩ 0 (dmDST_TARN d) (dmDST d) (16 * dmFAN_N d) {}).2.1 ≠ .ok) ∧
    (let d := dmaDesc 4 0 0 []
     taken d = true ∧ dKIND d = 4 ∧ (entered d).ownsCairn 0 0 (qSIG_CAIRN d) = false ∧
       ((entered d).setFld (.crn 0) (F.CRN_PART_SIZE 0) 8191).ownsCairn 0 0 (qSIG_CAIRN d) = true) ∧
    (on.settled = true ∧ on.nextDma 0 = none) := by
  decide +kernel
/-- A run with nothing outstanding. -/
def run0 : DmaRun := { id := 1, ref := q0 8, engine := 0, index := 0, desc := dmaDesc 0 0 0x1000 [], nchunk := 1 }

theorem witness_EnginesCompleteTheirRuns :
    (∀ st ∈ [stOK, stRANGE], ∀ f ∈ [[], [0]], let r := { run0 with status := BitVec.ofNat 8 st, failed := f }
      let s : State := { on with dmaRuns := [r] }
      s.mgmtOn = true ∧ s.enginesRun 0 = true ∧ s.dmaRuns.find? (fun r => r.ref.die == 0 && !(s.runOpen r.id)) = some r ∧ r.dests = [] ∧ r.aborted = false ∧
        r.status.toNat = st ∧ r.failed = f) ∧
    (run0.status = 0 ∧ run0.failed = [] ∧ run0.lost = []) ∧ (on.settled = true ∧ on.dmaRuns.find? (fun r => r.ref.die == (0 : CDie) && !(on.runOpen r.id)) = none) := by
  decide +kernel
/-- A request of CD0 that is outstanding, and a response to it. -/
def asked (op : BitVec 8) (own : Owner) (left : Nat) : Req :=
  { die := 0, pkt := { cls := op == opWRITE, mc := 1, op := op, dst := Coord.mk 0 1 0, src := Coord.mk 0 0 0, xid := 9, body := List.replicate 32 0 }
    owner := own, sent := true, left := left }
def answered (op : BitVec 8) (md : BitVec 8) : Packet :=
  (asked opREAD (.signal false) 0).pkt.reply (Coord.mk 0 1 0) op md (if op == opREAD_DATA then List.replicate 64 0 else [])
def waits (r : Req) : State := { on with requests := [r] }

/-- The request an answer ends, of the operations listed. -/
def ended (r : Req) (a : Packet) (op : BitVec 8) (ops : List (BitVec 8)) : Option Req := ((waits r).response 0 a op ops).2

theorem witness_OutstandingRequestsEnd :
    (∀ md ∈ ([0, 1] : List (BitVec 8)), let r := asked opWRITE (.store 0 0 0) 0
      ended r (answered opACK md) opACK [opWRITE, opWRITE_MASKED, opSIGNAL, opCAIRN_ABORT] = some r ∧ decide (RespStatus.ofCode (answered opACK md).md = .ok) = (md == 0)) ∧
    (∀ own ∈ [Owner.dmaGet 1 0 0, .load 0 0 7 (.x 5 false) 8 8], ended (asked opREAD own 0) (answered opREAD_DATA 0) opREAD_DATA [opREAD] = some (asked opREAD own 0)) ∧
    ended (asked opREAD (.dmaGet 1 0 0) 0) (answered opREAD_ERR 1) opREAD_ERR [opREAD] = some (asked opREAD (.dmaGet 1 0 0) 0) ∧
    (∀ md ∈ ([0, 1] : List (BitVec 8)), let r := asked opAMO (.amo 0 31 7 5 true) 0
      ended r (answered opAMO_RESP md) opAMO_RESP [opAMO] = some r ∧ decide (RespStatus.ofCode (answered opAMO_RESP md).md = .ok) = (md == 0)) ∧
    ((on.response 0 (answered opACK 0) opACK [opWRITE, opWRITE_MASKED, opSIGNAL, opCAIRN_ABORT]).2 = none ∧
      (on.response 0 (answered opREAD_DATA 0) opREAD_DATA [opREAD]).2 = none ∧ (on.response 0 (answered opREAD_ERR 1) opREAD_ERR [opREAD]).2 = none ∧
      (on.response 0 (answered opAMO_RESP 0) opAMO_RESP [opAMO]).2 = none) ∧
    (∀ n ∈ [0, 1], ∀ own ∈ [Owner.store 0 0 7, .dma 1 0 0], let r := asked opWRITE own n
      (waits r).mgmtOn = true ∧ (waits r).sourcesRun = true ∧
        (waits r).requests.find? (fun r => r.sent && r.die == 0 && r.pkt.xid == 9 && r.pkt.seq == 0) = some r ∧ r.left = n ∧ r.owner = own) ∧
    (∀ n ∈ [0, 1], let w : Window := { die := 0, dest := 5, pkts := n, bytes := 0, rate := 4 }
     let s : State := { on with windows := [w] }
     s.mgmtOn = true ∧ s.window? 0 (5 : BitVec 24).toNat = some w ∧ w.pkts = n) ∧
    ((1 : Nat) ≤ 100 ∧ (1 : Nat) ≤ 50 ∧ (50 : Nat) ≤ 100 ∧ (16 : Nat) ≤ 16) := by
  decide +kernel
-- the cairns

/-- Cairn 8191 of CD0, with a target of two bits and generation 4, in the range of partition 0. -/
def cairn0 (mask : BitVec 64) : State :=
  ((on.setCairn 0 8191 { target := 3, gen := 4, mask := mask }).setFld (.crn 0) (F.CRN_PART_BASE 0) 8191).setFld (.crn 0) (F.CRN_PART_SIZE 0) 1

def signal0 (op : BitVec 8) (n : Nat) : Packet :=
  Packet.seal { mc := 1, op := op, dst := Coord.mk 0 0 3, src := Coord.mk 0 1 0, addr := sigAddr n 4 0, body := List.replicate 32 0 }

theorem witness_CairnsJudgeAndAnswer :
    ((on.cairn 0 5).target = 0 ∧ ((cairn0 0).cairn 0 8191).target &&& BitVec.ofNat 64 (2 ^ 2) = 0) ∧
    (((cairn0 0).cairn 0 8191).target ≠ 0 ∧ ((cairn0 0).cairn 0 8191).target &&& BitVec.ofNat 64 (2 ^ 1) ≠ 0) ∧
    (2 ^ 15 ≤ ((0x8004 : BitVec 16) - ((cairn0 0).cairn 0 8191).gen).toNat) ∧
    (2 ≤ ((0x8003 : BitVec 16) - ((cairn0 0).cairn 0 8191).gen).toNat ∧ ((0x8003 : BitVec 16) - ((cairn0 0).cairn 0 8191).gen).toNat < 2 ^ 15) ∧
    (((5 : BitVec 16) - ((cairn0 0).cairn 0 8191).gen).toNat = 1 ∧ ((4 : BitVec 16) - ((cairn0 0).cairn 0 8191).gen).toNat = 0) ∧
    (((cairn0 1).cairn 0 8191).mask &&& BitVec.ofNat 64 (2 ^ 0) ≠ 0) ∧
    ((on.setCairn 0 8191 { target := 3, gen := 4, next := 1 }).cairn 0 8191).next &&& BitVec.ofNat 64 (2 ^ 0) ≠ 0 ∧
    ((8191 : Nat) < 8192 ∧ ((cairn0 0).cairn 0 8191).mask &&& BitVec.ofNat 64 (2 ^ 0) = 0 ∧ ((cairn0 0).cairn 0 8191).next &&& BitVec.ofNat 64 (2 ^ 0) = 0 ∧
      ((cairn0 0).cairn 0 8191).mask ||| BitVec.ofNat 64 (2 ^ 0) ≠ ((cairn0 0).cairn 0 8191).target) ∧
    (∀ op ∈ [opSIGNAL, opCAIRN_ABORT], let p := signal0 op 8191
      (cairn0 0).mgmtOn = true ∧ ((cairn0 0).accept (CDie.die 0) p).2 = true ∧ p.mc = 1 ∧ p.dst.e = 3 ∧ p.dst.d = (0 : CDie).val ∧ p.sigRsvOk = true ∧ p.op = op ∧
        ((cairn0 0).accept (CDie.die 0) p).1.ownsCairn 0 p.partNo p.sigCairn = true) ∧
    (let p := signal0 opSIGNAL 8190
     ((cairn0 0).accept (CDie.die 0) p).2 = true ∧ p.mc = 1 ∧ p.dst.e = 3 ∧ p.sigRsvOk = true ∧
       ((cairn0 0).accept (CDie.die 0) p).1.ownsCairn 0 p.partNo p.sigCairn = false) ∧
    (let p := Packet.seal { signal0 opSIGNAL 8191 with addr := BitVec.ofNat 64 (2 ^ 63) }
     ((cairn0 0).accept (CDie.die 0) p).2 = true ∧ p.mc = 1 ∧ p.dst.e = 3 ∧ p.op = opSIGNAL ∧ p.sigRsvOk = false) := by
  decide +kernel
/-- Partition 0 is confidential. -/
def conf0 (s : State) : State := { s with parts := [(0, some ⟨[], 1, 4, 0, 0, true, [], [0], none, false, false, false⟩)] }

theorem witness_CairnRegistersSelectAndAssign :
    (let s := conf0 (cairn0 0)
     s.settled = true ∧ s.dieDown 0 = false ∧ s.cairnConf 0 (bits (0x1FFF : Word).toNat 12 0) = true ∧ s.cairnConf 0 (bits (0x1FFE : Word).toNat 12 0) = false) ∧
    (let s := cairn0 0
     let v : Word := 0x2000 * 8191
     s.mgmtOn = true ∧ s.dieDown 0 = false ∧ bits v.toNat 12 0 + bits v.toNat 26 13 ≤ 8192 ∧
       (∀ q : Part, q ≠ 1 → (s.cairnRange 0 q).2 = 0 ∨ bits v.toNat 26 13 = 0 ∨ (s.cairnRange 0 q).1 + (s.cairnRange 0 q).2 ≤ bits v.toNat 12 0 ∨
         bits v.toNat 12 0 + bits v.toNat 26 13 ≤ (s.cairnRange 0 q).1)) ∧
    8192 < bits (0x4000001 : Word).toNat 12 0 + bits (0x4000001 : Word).toNat 26 13 := by
  decide +kernel
-- memory

/-- A request at the memory endpoint of CD0. -/
def atMem0 (op md : BitVec 8) (addr : BitVec 64) : Packet :=
  Packet.seal {
    mc := 1, op := op, cls := op == opWRITE, len := if op == opWRITE then 1 else 0, dst := Coord.mk 0 0 0, src := Coord.mk 0 1 0, md := md
    addr := addr, body := List.replicate (if op == opWRITE then 96 else 32) 0 }

/-- The controller of CD0 takes the request, and what then holds. -/
def takes (op md : BitVec 8) (addr : BitVec 64) (f : State → Packet → Bool) (s : State := room on) : Bool :=
  let p := atMem0 op md addr
  let x := s.atMem 0 p op
  s.mgmtOn && x.2 && f x.1 p

theorem witness_MemoryRequestsAreAnswered :
    (takes opWRITE 0 0xFFFFFC0 (fun _ p => p.addr.toNat % 64 == 0) = true ∧ takes opWRITE 0 1 (fun _ p => p.addr.toNat % 64 != 0) = true) ∧
    (takes opWRITE_MASKED 1 31 (fun _ p => decide (0 < p.md.toNat) && decide (p.addr.toNat % 32 + p.md.toNat ≤ 32)) = true ∧
      takes opWRITE_MASKED 2 31 (fun _ p => decide (32 < p.addr.toNat % 32 + p.md.toNat)) = true ∧ takes opWRITE_MASKED 0 31 (fun _ p => p.md.toNat == 0) = true) ∧
    (∀ ok : Bool, takes opREAD 32 0 (fun u p => p.addr.toNat % 64 == 0 && decide (0 < p.md.toNat) && decide (p.md.toNat ≤ 32) &&
      decide ((u.ctlRead 0 p.partNo p.addr.toNat (64 * p.md.toNat) {}).2.1 = .ok) == ok) (if ok then room on else on.setFld (.mem 0) F.BLK_STATUS_READY 1) = true) ∧
    takes opREAD 33 0 (fun _ p => decide (32 < p.md.toNat)) = true ∧
    (∀ ok : Bool, takes opAMO 0x18 8 (fun u p => decide (p.md.toNat % 16 ≤ 8) && p.addr.toNat % 8 == 0 && p.md.getLsbD 4 &&
      decide ((u.ctlRead 0 p.partNo p.addr.toNat 8 {} true).2.1 = .ok) == ok) (if ok then room on else on.setFld (.mem 0) F.BLK_STATUS_READY 1) = true) ∧
    (takes opAMO 0x19 8 (fun _ p => decide (8 < p.md.toNat % 16)) = true ∧ takes opAMO 0x18 4 (fun _ p => p.addr.toNat % 8 != 0) = true) := by
  decide +kernel
theorem witness_MemoryIsByteStorage :
    (memSpan - 1 + ([5] : List Byte).length ≤ memSpan ∧ 0 < memSpan) ∧ (tarnSpan - 1 + ([5] : List Byte).length ≤ tarnSpan ∧ 0 < tarnSpan) ∧
    (room on).memWf = true ∧ ((on.memPut 7 (memSpan - 1) [5]).memGet 7 (memSpan - 1) 1 = [5]) := by
  decide +kernel
/-- The memory of CD0 is ready and its patrol runs; stack 0 is READY. -/
def ready0 : State :=
  ((room on).setFld (.mem 0) F.MEM_CFG_PATROL_EN 1).setFld (.mem 0) (F.MEM_STACK_STATE 0) skREADY

/-- The sector that a patrol reads with one wrong symbol, or with two. -/
def wrong (two : Bool) : SectorErr := { row := 3, syms := if two then [0, 35] else [35] }

theorem witness_MemoryControllersRunTheirOrders :
    on.settled = true ∧
    (∀ hot : Bool, let s := ready0.setFld (.mem 0) (F.MEM_STACK_THROTTLE 0) hot.toNat
     s.mgmtOn = true ∧ s.dieDown 0 = false ∧ s.fld (.mem 0) (F.MEM_STACK_STATE 0) ≠ skOFF ∧ s.fld (.mem 0) (F.MEM_STACK_STATE 0) ≠ skFAILED ∧
       s.flag (.mem 0) (F.MEM_STACK_THROTTLE 0) = hot) ∧ 105 ≤ (105 : BitVec 8).toNat ∧ 100 ≤ (104 : BitVec 8).toNat ∧ (104 : BitVec 8).toNat < 105 ∧ (99 : BitVec 8).toNat < 100 ∧
    (let s := [0, 1, 2].foldl (fun t k => t.setFld (.mem 0) (F.MEM_STACK_STATE k) skREADY) ready0
     s.mgmtOn = true ∧ s.dieDown 0 = false ∧ s.flag (.mem 0) F.MEM_CFG_PATROL_EN = true ∧ s.flag (.mem 0) F.BLK_STATUS_READY = true ∧
      (s.zeroing 0).1 + (s.zeroing 0).2 ≤ 32 * (7 : Fin 0x180000000).val / memGran ∧ (s.eccFind 0 (32 * (7 : Fin 0x180000000).val) (wrong false)).sym.isSome = true ∧
      (s.eccFind 0 (32 * (7 : Fin 0x180000000).val) (wrong true)).sym = none ∧ s.badSectors = []) ∧
    (let s : State := { ready0 with zeroOrders := [(0, (0, 1))] }.setFld (.mem 0) F.MEM_ZERO_STATUS_BUSY 1
     s.settled = true ∧ (s.zeroing 0).1 ≤ 32 * (7 : Fin 0x180000000).val / memGran ∧ 32 * (7 : Fin 0x180000000).val / memGran < (s.zeroing 0).1 + (s.zeroing 0).2) ∧
    (let v : Word := 0x80000401
     ready0.settled = true ∧ ready0.dieDown 0 = false ∧ v.getLsbD 31 = true ∧ ready0.flag (.mem 0) F.MEM_ZERO_STATUS_BUSY = false ∧
       bits v.toNat 9 0 + bits v.toNat 19 10 ≤ 768 ∧ (∀ r ∈ ready0.allRanges 0, overlaps r.2.2 (bits v.toNat 9 0, bits v.toNat 19 10) = false) ∧
       (∃ r ∈ ready0.allRanges 0, overlaps r.2.2 (bits (0x80000400 : Word).toNat 9 0, bits (0x80000400 : Word).toNat 19 10) = true) ∧
       768 < bits (0x80000700 : Word).toNat 9 0 + bits (0x80000700 : Word).toNat 19 10) ∧
    (let s : State := { ready0 with zeroOrders := [(0, (767, 1))] }.setFld (.mem 0) F.MEM_ZERO_STATUS_BUSY 1
     s.mgmtOn = true ∧ s.dieDown 0 = false ∧ s.flag (.mem 0) F.MEM_ZERO_STATUS_BUSY = true ∧ s.zeroing 0 = (767, 1) ∧ 767 + 1 ≤ 768) ∧
    (ready0.rangeWriteOk 0 1 (bits (0x400 + 767 : Word).toNat 9 0, bits (0x400 + 767 : Word).toNat 19 10) = true ∧
      ready0.rangeWriteOk 0 1 (bits (0x400 + 768 : Word).toNat 9 0, bits (0x400 + 768 : Word).toNat 19 10) = false) := by
  decide +kernel
-- ports

/-- Port q in a state. -/
def portIn (q : Port) (st : Nat) : State := on.setFld (.lnk q) F.LNK_STATE_STATE st

/-- The port up, settled and in the state. -/
def upIn (q : Port) (st : Nat) : Bool := (portIn q st).settled && (portIn q st).portUp q && (portIn q st).lnk q == st

theorem witness_PortsTrainAndAreQualified :
    (upIn 17 lkDETECT = true ∧ Port.opt? 17 = none) ∧
    (∀ ok : Bool, let s := (portIn 23 lkDETECT).setFld (.opt 5) F.OPT_STATUS_LASER_OK ok.toNat
     s.mgmtOn = true ∧ s.portUp 23 = true ∧ s.lnk 23 = lkDETECT ∧ Port.opt? 23 = some 5 ∧ (s.rxPower 5 [7]).flag (.opt 5) F.OPT_STATUS_LASER_OK = ok) ∧
    (upIn 23 lkTRAIN = true ∧ (3 : Fin 8).val < Port.lanes 23 ∧ (7 : Fin 8).val < Port.lanes 0) ∧
    (let s := (portIn 23 lkTRAIN).setPort 23 { lanes := [(0, { ready := true }), (1, { ready := true }), (2, { ready := true }), (3, { ready := true })] }
     s.mgmtOn = true ∧ s.portUp 23 = true ∧ s.lnk 23 = lkTRAIN ∧ (s.port 23).partnerReady (Port.lanes 23) = true) ∧
    (let s := (portIn 0 lkALIGN).setPort 0 { good := 64 }
     s.mgmtOn = true ∧ s.portUp 0 = true ∧ s.lnk 0 = lkALIGN ∧ 64 ≤ (s.port 0).good) ∧
    (∀ n ∈ [1, 2], let s := (portIn 0 lkTRAIN).setPort 0 { attempts := n }
     s.mgmtOn = true ∧ s.portUp 0 = true ∧ s.lnk 0 = lkTRAIN ∧ (s.port 0).attempts = n) ∧
    (upIn 0 lkQUALIFY = true ∧ ((portIn 0 lkQUALIFY).port 0).localRes = none ∧ ((portIn 0 lkQUALIFY).port 0).peerRes = none) ∧
    (let s := (portIn 0 lkQUALIFY).setPort 0 { localRes := some true }
     s.portUp 0 = true ∧ s.lnk 0 = lkQUALIFY ∧ (s.port 0).localRes.isSome = true ∧ (s.port 0).peerRes = none) ∧
    (let s := (portIn 0 lkQUALIFY).setPort 0 { localRes := some true, peerRes := some false }
     (s.port 0).localRes = some true ∧ (s.port 0).peerRes = some false) ∧
    (on.settled = true ∧ on.lnk 0 ≠ lkTRAIN ∧ on.lnk 0 ≠ lkALIGN ∧ on.lnk 0 ≠ lkQUALIFY) := by
  decide +kernel
/-- A frame with FCNT n and no key, with the tag its header asks. -/
def frame0 (n : Nat) : RxFrame :=
  { header := frameHeader n false false 256, slots := [], tag := frameTag 0 0 (frameHeader n false false 256) [], lanes := [] }

/-- A frame without a key and with its own tag passes; the same frame comes once only. -/
theorem frame0_passes : frameOk {} (frame0 5) 0 = true ∧ frameOk { rxPlain := some 5 } (frame0 5) 0 = false := by
  have h : (frame0 5).keyed = false ∧ (frame0 5).zeros = true ∧ (frame0 5).fcnt.toNat = 5 := by decide +kernel
  have ht : PortSt.tagOk {} (frame0 5) = true := by
    unfold PortSt.tagOk
    rw [h.1]
    simp [frame0]
  refine ⟨?_, by simp [frameOk, PortSt.fcntOk, h]⟩
  unfold frameOk
  rw [ht]
  simp [PortSt.fcntOk, h]

theorem witness_FramesCarryRecordsOnce :
    (upIn 0 lkHELD = true ∧ recordsDelivered lkHELD = true ∧ (portIn 0 lkHELD).injection (.lnk 0) 0 = none ∧ (portIn 0 lkHELD).injection (.lnk 0) 1 = none ∧
      ((portIn 0 lkHELD).port 0).hadIdent = false) ∧
    upIn 0 lkALIGN = true ∧
    (let s := (portIn 0 lkACTIVE).setPort 0 { tx0 := some ⟨0, 0, fcntEnd⟩ }
     s.portUp 0 = true ∧ recordsDelivered (s.lnk 0) = true ∧
       ((s.slotChange 0).port 0).txKey ((s.slotChange 0).txSlot 0) = some ⟨0, 0, fcntEnd⟩ ∧ fcntEnd ≤ (TxKey.mk 0 0 fcntEnd).fcnt) ∧
    (let s := (portIn 0 lkACTIVE).setPort 0 { tx0 := some ⟨0, 0, 7⟩ }
     s.portUp 0 = true ∧ recordsDelivered (s.lnk 0) = true ∧
       ((s.slotChange 0).port 0).txKey ((s.slotChange 0).txSlot 0) = some ⟨0, 0, 7⟩ ∧ 7 < fcntEnd ∧ 7 + 1 ≠ fcntDue) ∧
    (let s := on.setPort 0 { repeats := [([1], 2)] }
     s.settled = true ∧ s.portUp 0 = true ∧ (s.port 0).repeats = [([1], 2)] ∧ (on.port 0).repeats = [] ∧ on.settled = true) := by
  decide +kernel
/-- An authenticated data packet to port die k: operation, arguments in ADDR and in the payload, counter 1, session slot 0. -/
def authPkt (k : PDie) (op : BitVec 8) (addr : Nat) (args : List Byte) (e : Nat := 1) : Packet :=
  let pay := args ++ leBytes 1 8 ++ List.replicate 24 0
  Packet.seal { cls := true, len := BitVec.ofNat 6 (pay.length / 64), op := op, dst := Coord.mk 0 (8 + k.val) e, src := Coord.mk 0 8 2, part := 0xFF, addr := BitVec.ofNat 64 addr, body := List.replicate 32 0 ++ pay }

/-- A request of a manager to port q: the port and the command of 10 R386. -/
def portReq (q cmd : Nat) : MgtIn := { k := 0, pkt := authPkt 0 0x86 (q + cmd <<< 8) (List.replicate 32 0) }

theorem witness_PortsFailAndObeyCommands :
    (upIn 0 lkACTIVE = true ∧ inService lkACTIVE = true ∧ (7 : Fin 8).val < Port.lanes 0 ∧ upIn 0 lkQUALIFY = true) ∧
    (on.portUp (OptPort.port 5) = true ∧ (on.laserRead 5 1500 [3]).flag (.opt 5) F.OPT_STATUS_LASER_OK = false ∧
      (on.laserRead 5 1501 [3]).flag (.opt 5) F.OPT_STATUS_LASER_OK = true) ∧
    (let s := on.setPort 0 { win := [(7, 425001)] }
     s.portUp 0 = true ∧ (∃ i < Port.lanes 0, 425000 < Store.get (fun _ => 0) ((s.lanesCount 0 []).port 0).win i) ∧
       (∀ i < Port.lanes 0, Store.get (fun _ => 0) (((on.setPort 0 { win := [(0, 424999), (7, 425000)] }).lanesCount 0 [{ corr := 1 }]).port 0).win i ≤ 425000)) ∧
    (on.pageHeld (.opt 0) = false ∧ 85 ≤ (85 : BitVec 8).toNat ∧ (85 : BitVec 8).toNat < 95 ∧ on.fld (.opt 0) F.OPT_STATUS_TEMP < 85 ∧
      85 ≤ (on.setFld (.opt 0) F.OPT_STATUS_TEMP 85).fld (.opt 0) F.OPT_STATUS_TEMP) ∧
    ((portIn 0 lkFAILED).portAccepts 0 .train = true ∧ (portIn 0 lkHELD).portAccepts 0 .disable = true ∧ (portIn 0 lkHELD).lnk 0 ≠ lkDISABLED ∧
      ((((portIn 0 lkHELD).setFld (.lnk 0) F.LNK_STATE_KEYED_TX 1).setFld (.lnk 0) F.LNK_STATE_KEYED_RX 1).setFld (.lnk 0)
        F.LNK_STATE_NEG_VER 1).portAccepts 0 .admitPort = true ∧
      (portIn 0 lkACTIVE).portAccepts 0 .quarantine = true ∧ ((portIn 0 lkQUARANTINE).setFld (.lnk 0) F.LNK_STATE_NEG_VER 1).portAccepts 0 .release = true) ∧
    ((portIn 0 lkHELD).settled = true ∧ (portIn 0 lkHELD).portAccepts 0 .train = false ∧ (portIn 0 lkDISABLED).lnk 0 = lkDISABLED ∧
      (portIn 0 lkHELD).portAccepts 0 .admitPort = false ∧ (portIn 0 lkDISABLED).portAccepts 0 .quarantine = false ∧
      (portIn 0 lkQUARANTINE).portAccepts 0 .release = false) ∧
    (∀ n ∈ [6, 7, 8, 9], (portReq 18 n).pkt.authForm 12 0 = true ∧ portOn 0 ((portReq 18 n).pkt.arg 7 0) = some 18 ∧ (portReq 18 n).pkt.arg 11 8 = n ∧
      Port.isOpt 18 = true) := by
  decide +kernel
-- routers

/-- A REQ packet to a die and endpoint of this package, and one that is directed. -/
def routed (d e : Nat) : Packet := { mc := 1, op := opREAD, dst := Coord.mk 0 d e, src := Coord.mk 0 1 0, md := 1, body := List.replicate 32 0 }

/-- PD0's table sends every packet to port 0, which is ACTIVE and a member. -/
def tabled : State :=
  State.setFld ({ (portIn 0 lkACTIVE).setFld (.rtr pd0) (F.RTR_PORT_MEMBER 0) 1 with tables := [(tableKey pd0 false (routeIndex (Coord.mk 2 0 0)), 0x80000001)] })
    (.rtr pd0) F.RTR_EPOCH_VALID0 1

/-- A directed packet whose next entry is e. -/
def directed (e : Nat) : Packet := { drt := true, op := 0x80, part := 0xFF, body := List.replicate 16 0 ++ [BitVec.ofNat 8 e] ++ List.replicate 15 0 }

theorem witness_RoutersForward :
    (let s := on.setFld (.d2dC 0 .toPd0) F.D2D_STATE_STATE 2
     s.settled = true ∧ Page.isD2d (.d2dC 0 .toPd0) = true ∧ s.fld (.d2dC 0 .toPd0) F.D2D_STATE_STATE = 2 ∧ s.injection (.d2dC 0 .toPd0) 0 = none ∧
       s.d2dRun (.d2dC 0 .toPd0) < 8 ∧ (8 ≤ State.d2dRun { s with d2dRuns := [(Page.base (.d2dC 0 .toPd0), 8)] } (.d2dC 0 .toPd0)) ∧
       Die.cd? (Page.die (.d2dC 0 .toPd0)) = some 0) ∧
    (let s := on.setFld (.d2dC 0 .ringPlus) F.D2D_STATE_STATE 2
     s.routerUp (CDie.die 0) = true ∧ (routed 0 0).drt = false ∧ (routed 11 0).headerOk = false ∧ (routed 0 0).headerOk = true ∧
      (s.routerArrive (CDie.die 0) (.inject 0) (routed 0 0)).routeAt (CDie.die 0) (.inject 0) (routed 0 0) = .out (.endpoint 0) ∧
      (s.routerArrive (CDie.die 0) (.inject 0) (routed 1 0)).routeAt (CDie.die 0) (.inject 0) (routed 1 0) = .out (.die (CDie.die 1)) ∧
      (s.routerArrive (CDie.die 0) (.inject 0) (routed 0 1)).routeAt (CDie.die 0) (.inject 0) (routed 0 1) = .drop .misaddr) ∧
    (let p := { routed 0 0 with dst := Coord.mk 2 0 0 }
     tabled.mgmtOn = true ∧ tabled.routerUp pd0 = true ∧ p.drt = false ∧ p.headerOk = true ∧
       (tabled.routerArrive pd0 (.inject 0) p).routeAt pd0 (.inject 0) p = .out (.port 0)) ∧
    (on.routerUp pd0 = true ∧ (directed 24).drt = true ∧ (directed 24).headerOk = true ∧ (directed 24).md.toNat ≤ 23 ∧ (directed 24).routeEntry (directed 24).md.toNat = 24 ∧
      ((on.routerArrive pd0 (.inject 1) (directed 24)).routeDirected pd0 (.inject 1) (directed 24)).2 = .out (.endpoint 1) ∧
      ((on.routerArrive pd0 (.inject 1) (directed 0)).routeDirected pd0 (.inject 1) (directed 0)).2 = .drop .noRoute) ∧
    (let t : Transit := ⟨pd0, .port 1, routed 0 0, routed 0 0, 1, 0, .endpoint 0, 0⟩
     (State.transits { on with transits := [t] })[0]? = some t) ∧
    (upIn 0 lkACTIVE = true ∧ (routed 0 0).crcOk = false ∧ (Packet.seal (routed 0 0)).crcOk = true ∧ (Packet.seal (routed 0 0)).isLinkCredit = false ∧
      (let p := Packet.seal { op := opLINK_CREDIT, part := 0xFF, body := List.replicate 32 0 }
       p.crcOk = true ∧ p.isLinkCredit = true)) ∧
    (on.settled = true ∧ State.routerUp { on with fencedDies := [pd1] } pd1 = false ∧ State.settled { on with fencedDies := [pd1] } = true ∧ on.transits[0]? = none) := by
  decide +kernel
-- the fabric agent

/-- The state a taken request leaves, counted. -/
def counted (s : State) (m : MgtIn) : State := (s.mgtTakes m).1.agentCount m

theorem meets_of {s : State} {m : MgtIn} (h : (s.mgtTakes m).2 = true) : s.agentMeets m m.pkt.op m.pkt.cls (counted s m) :=
  ⟨(s.mgtTakes m).1, Prod.ext rfl h, rfl, rfl, rfl⟩

/-- A request that the agent takes under the session of its slot. -/
def takenBy (s : State) (m : MgtIn) (b : Bool) (x : Session) (slot ctr : Nat) : Bool :=
  (s.mgtTakes m).2 && m.pkt.cls && decide (trailerOf m.pkt = some (ctr, slot)) && decide (((counted s m).agent m.k).sess slot = some x) && m.valid &&
    decide (x.judge ctr = .fresh) && (counted s m).agentServes m b

theorem takes_of {s : State} {m : MgtIn} {b : Bool} {x : Session} {slot ctr : Nat} (h : takenBy s m b x slot ctr = true) :
    s.agentTakes m m.pkt.op b (counted s m) x slot ctr := by
  simp only [takenBy, Bool.and_eq_true, decide_eq_true_eq] at h
  obtain ⟨⟨⟨⟨⟨⟨a, b⟩, c⟩, d⟩, e⟩, f⟩, g⟩ := h
  exact ⟨b ▸ meets_of a, c, d, e, .inl f, g⟩

/-- A request without a session, to PD0's agent. -/
def plainReq (op : BitVec 8) (addr : Nat) : MgtIn :=
  { k := 0, pkt := Packet.seal { op := op, dst := Coord.mk 0 8 1, src := Coord.mk 0 8 2, part := 0xFF, addr := BitVec.ofNat 64 addr, body := List.replicate 32 0 } }

/-- The hub in the safe state. -/
def safe (s : State) : State := s.setFld .flt F.FLT_STATE_STATE hubSAFE

/-- A plan whose managers have serial 0. -/
def planned (s : State) : State := { s with plan := [0] }

/-- The same over the management network. -/
def netReq (op : BitVec 8) (addr : Nat) : MgtIn := { plainReq op addr with net := true }

/-- SESSION_OPEN of the manager with a serial. -/
def openReq (serial : Nat) : MgtIn := { k := 0, pkt := authPkt 0 0x82 0 (List.replicate 32 0 ++ leBytes serial 16 ++ List.replicate 48 0) }

theorem witness_AgentsAnswerAndOpenSessions :
    ((on.mgtTakes (plainReq 0x80 0)).2 = true ∧ (counted on (plainReq 0x80 0)).agentServes (plainReq 0x80 0) true = true ∧ (plainReq 0x80 0).pkt.ctlForm 0 = true ∧
      (on.mgtTakes (plainReq 0x80 1)).2 = true ∧ (plainReq 0x80 1).pkt.ctlForm 0 = false) ∧
    ((on.mgtTakes (plainReq 0x81 0xC00)).2 = true ∧ (counted on (plainReq 0x81 0xC00)).agentServes (plainReq 0x81 0xC00) false = true ∧
      (plainReq 0x81 0xC00).pkt.ctlForm 16 = true ∧ (plainReq 0x81 0x10000).pkt.ctlForm 16 = false ∧ (on.mgtTakes (plainReq 0x81 0x10000)).2 = true ∧
      1 ≤ (plainReq 0x81 0xC00).pkt.arg 15 8 ∧ (plainReq 0x81 0xC00).pkt.arg 15 8 ≤ 64 ∧
      (portsFrom 0 ((plainReq 0x81 0xC00).pkt.arg 7 0) ((plainReq 0x81 0xC00).pkt.arg 15 8)).isSome = true ∧ (plainReq 0x81 0).pkt.arg 15 8 = 0 ∧
      64 < (plainReq 0x81 0x4100).pkt.arg 15 8 ∧ portsFrom 0 ((plainReq 0x81 0xD00).pkt.arg 7 0) ((plainReq 0x81 0xD00).pkt.arg 15 8) = none) ∧
    ((on.mgtTakes (plainReq 0x8A 0)).2 = true ∧ (plainReq 0x8A 0).pkt.ctlForm 0 = true ∧ (plainReq 0x8A 1).pkt.ctlForm 0 = false ∧
      (counted on (plainReq 0x8A 0)).agentServes (plainReq 0x8A 0) false = true ∧ (on.mgtTakes (plainReq 0x8A 1)).2 = true) ∧
    ((on.mgtTakes (plainReq 0x8E 0x500)).2 = true ∧ (plainReq 0x8E 0x500).pkt.ctlForm 16 = true ∧ (telPorts 0 (plainReq 0x8E 0x500).pkt).isSome = true ∧
      (counted on (plainReq 0x8E 0x500)).agentServes (plainReq 0x8E 0x500) true = true ∧ telPorts 0 (plainReq 0x8E 0x600).pkt = none ∧
      (plainReq 0x8E 0x10000).pkt.ctlForm 16 = false ∧ (on.mgtTakes (plainReq 0x8E 0x10000)).2 = true) ∧
    (((safe on).mgtTakes (netReq 0x81 0xC00)).2 = true ∧ (counted (safe on) (netReq 0x81 0xC00)).agentServes (netReq 0x81 0xC00) false = false ∧
      ((safe on).mgtTakes (netReq 0x8A 0)).2 = true ∧ (counted (safe on) (netReq 0x8A 0)).agentServes (netReq 0x8A 0) false = false) ∧
    (((planned on).mgtTakes (openReq 0)).2 = true ∧ (counted (planned on) (openReq 0)).agentServes (openReq 0) true = true ∧ 112 ≤ (openReq 0).pkt.payload.length ∧
       (openReq 0).pkt.argsUpTo 0 = true ∧ (openReq 0).valid = true ∧ (counted (planned on) (openReq 0)).plan ≠ [] ∧
       BitVec.ofNat 128 (imgNat (openReq 0).pkt.payload 32 16) = planPrimary (counted (planned on) (openReq 0)).rolePlan ∧
       (authPkt 0 0x82 0 (List.replicate 32 0)).payload.length < 112) ∧
    (((planned on).agent 0).openSlot 0 = some 0 ∧
       ((planned on).setAgent 0 { sess0 := some ⟨5, true, 0, 0, 0, 0, [], 0⟩, sess1 := some ⟨6, false, 0, 0, 0, 0, [], 0⟩ } |>.agent 0).openSlot 0 = none ∧
       ((on.mgtTakes (openReq 0)).2 = true ∧ (counted on (openReq 0)).plan = [])) := by
  decide +kernel

/-- Session slot 1 of PD0's agent is the primary's. -/
def x1 : Session := ⟨5, true, 0, 0, 0, 0, [], 0⟩
def sess (s : State) : State := s.setAgent 0 { sess0 := some x1 }

/-- A request to PD0's agent under that session. -/
def req (op : BitVec 8) (addr : Nat) (args : List Byte := List.replicate 32 0) : MgtIn := { k := 0, pkt := authPkt 0 op addr args }

/-- The session close. -/
theorem witness_AgentsAnswerAndOpenSessions_close : (sess on).agentTakes (req 0x83 0) 0x83 false (counted (sess on) (req 0x83 0)) x1 0 1 :=
  takes_of (by decide +kernel)

theorem witness_AgentsAnswerAndOpenSessions_form : (sess on).agentTakes (req 0x83 1) 0x83 false (counted (sess on) (req 0x83 1)) x1 0 1 ∧
    (req 0x83 0).pkt.authForm 0 0 = true ∧ (req 0x83 1).pkt.authForm 0 0 = false :=
  ⟨takes_of (by decide +kernel), by decide +kernel⟩

/-- The port requests of a manager (20). -/
theorem witness_PortsFailAndObeyCommands_agent :
    (sess (portIn 18 lkACTIVE)).agentTakes (portReq 18 6) 0x86 false (counted (sess (portIn 18 lkACTIVE)) (portReq 18 6)) x1 0 1 ∧
    (counted (sess (portIn 18 lkACTIVE)) (portReq 18 6)).portAccepts 18 .memberOn = true ∧
    (sess on).agentTakes (portReq 18 6) 0x86 false (counted (sess on) (portReq 18 6)) x1 0 1 ∧ (counted (sess on) (portReq 18 6)).portAccepts 18 .memberOn = false :=
  ⟨takes_of (by decide +kernel), by decide +kernel, takes_of (by decide +kernel), by decide +kernel⟩
theorem witness_RequestsAreCheckedAndRunOnce :
    ((x1.mark 1 []).judge 1).runs = false ∧ x1.top < 1 ∧ 64 ≤ ({ x1 with top := 64 } : Session).top - 0 ∧
    (sess on).agentMeets (req 0x85 0) 0x85 true (counted (sess on) (req 0x85 0)) ∧
    (trailerOf (req 0x85 0).pkt = some (1, 0) ∧ trailerOf (authPkt 0 0x85 0 []) = none) ∧
    (((counted (sess on) (req 0x85 0)).agent 0).sess 0 = some x1 ∧ ((counted on (req 0x85 0)).agent 0).sess 0 = none) ∧
    (x1.judge 1 = .fresh ∧ (x1.judge 1).runs = true ∧ (x1.mark 1 [7]).judge 1 = .cached [7] ∧ (x1.mark 65 []).judge 1 = .stale) ∧
    ((counted (sess on) (req 0x85 0)).agentServes (req 0x85 0) false = true ∧
      (counted (safe (sess on)) (req 0x85 0)).agentServes (req 0x85 0) false = false) ∧
    (on.agentMeets (plainReq 0x85 0) 0x85 false (counted on (plainReq 0x85 0))) ∧ (({ req 0x85 0 with k := 1, net := true } : MgtIn).net = true) :=
  ⟨by decide +kernel, by decide +kernel, by decide +kernel, meets_of (by decide +kernel), by decide +kernel, by decide +kernel, by decide +kernel,
    by decide +kernel, meets_of (by decide +kernel), rfl⟩
theorem witness_ManagersActThroughAgents_coord :
    let m := req 0x84 0x33000
    let u := counted (sess on) m
    let c : Coord := BitVec.ofNat 32 (m.pkt.arg 31 0)
    (sess on).agentTakes m 0x84 false u x1 0 1 ∧ m.pkt.authForm 32 8 = true ∧
      (c.d = 0 ∧ c.e = 0 ∧ bits (m.pkt.arg 31 0) 3 0 = 0 ∧ bits (m.pkt.arg 31 0) 31 30 = 0 ∧ c.x ≤ 3 ∧ c.y ≤ 3 ∧ c.p ≤ 3) ∧ (∀ q, u.lnk q ≠ lkACTIVE) ∧
      (let w := counted (sess (portIn 5 lkACTIVE)) m
       w.lnk 5 = lkACTIVE ∧ w.fld (.agt 0) F.AGT_COORD_COORD ≠ m.pkt.arg 31 0) :=
  ⟨takes_of (by decide +kernel), by decide +kernel⟩

theorem witness_ManagersActThroughAgents_port :
    let m := req 0x85 8 (leBytes 511 32)
    let u := counted (sess on) m
    (sess on).agentTakes m 0x85 false u x1 0 1 ∧ (m.pkt.authForm 8 4 = true ∧ imgNat m.pkt.args 0 4 < 512 ∧ portOn 0 (m.pkt.arg 7 0) = some 8) ∧
      u.lnk 8 ≠ lkACTIVE ∧ (counted (sess (portIn 8 lkACTIVE)) m).lnk 8 = lkACTIVE :=
  ⟨takes_of (by decide +kernel), by decide +kernel⟩

theorem witness_ManagersActThroughAgents_tables :
    (let m := req 0x87 (1 + 4095 <<< 8 + 1 <<< 20)
     let u := counted (sess on) m
     (sess on).agentTakes m 0x87 false u x1 0 1 ∧ (m.pkt.authForm 29 (4 * m.pkt.arg 28 20) = true ∧ tableDie 0 m.pkt = some pd0 ∧ m.pkt.arg 28 20 ≤ 504 ∧
       m.pkt.arg 19 8 + m.pkt.arg 28 20 ≤ 4096 ∧ u.fld (.rtr pd0) F.RTR_EPOCH_CUR ≠ m.pkt.arg 0 0 ∧
       u.fld (.rtr pd0) (F.RTR_INFLIGHT_COUNT (m.pkt.arg 0 0)) = 0)) ∧
    (let m := req 0x88 1
     (sess on).agentTakes m 0x88 false (counted (sess on) m) x1 0 1 ∧ (m.pkt.authForm 20 4 = true ∧ tableDie 0 m.pkt = some pd0)) ∧
    (let m := req 0x89 0x200
     let u := counted (sess on) m
     let w := counted (sess (on.setFld (.rtr pd0) F.RTR_EPOCH_VALID0 1)) m
     (sess on).agentTakes m 0x89 false u x1 0 1 ∧ (m.pkt.authForm 11 0 = true ∧
       (∀ d ∈ allDies.filter (fun d => (m.pkt.arg 10 1).testBit d.val), d ∈ serves 0 ∧ u.tableValid d (m.pkt.arg 0 0 = 1) = false ∧
         w.tableValid d (m.pkt.arg 0 0 = 1) = true))) :=
  ⟨⟨takes_of (by decide +kernel), by decide +kernel⟩, ⟨takes_of (by decide +kernel), by decide +kernel⟩, takes_of (by decide +kernel), by decide +kernel⟩

theorem witness_ManagersActThroughAgents_keys :
    (∀ tx : Bool, let m := req 0x8B (if tx then 0x208 else 0x308) (List.replicate 96 0)
      let u := counted (sess on) m
      (sess on).agentTakes m 0x8B false u x1 0 1 ∧ (m.pkt.authForm 10 64 = true ∧ portOn 0 (m.pkt.arg 7 0) = some 8 ∧
        decide (m.pkt.arg 8 8 = 1) = !tx ∧ (u.port 8).rxKey true = none ∧ u.txSlot 8 ≠ decide (m.pkt.arg 9 9 = 1))) ∧
    (∀ tx : Bool, let m := req 0x8C (if tx then 0x208 else 0x308)
      let u := counted (sess on) m
      (sess on).agentTakes m 0x8C false u x1 0 1 ∧ (m.pkt.authForm 10 0 = true ∧ portOn 0 (m.pkt.arg 7 0) = some 8 ∧ decide (m.pkt.arg 8 8 = 1) = !tx ∧
        u.flag (.lnk 8) F.LNK_STATE_KEYED_RX = false ∧ u.txSlot 8 ≠ decide (m.pkt.arg 9 9 = 1) ∧ u.txSlot 8 = decide ((req 0x8C 8).pkt.arg 9 9 = 1))) ∧
    (let m := req 0x8D 0x208
     let s := sess ((portIn 8 lkHELD).setPort 8 { tx1 := some ⟨0, 0, 0⟩, ready1 := true })
     let u := counted s m
     s.agentTakes m 0x8D false u x1 0 1 ∧ (m.pkt.authForm 10 0 = true ∧ portOn 0 (m.pkt.arg 7 0) = some 8 ∧ m.pkt.arg 8 8 ≠ 1 ∧
       u.txSlot 8 ≠ decide (m.pkt.arg 9 9 = 1) ∧ u.mayChange 8 = true ∧ (counted (sess on) m).mayChange 8 = false)) :=
  ⟨fun b => match b with
      | true => ⟨takes_of (by decide +kernel), by decide +kernel⟩
      | false => ⟨takes_of (by decide +kernel), by decide +kernel⟩,
    fun b => match b with
      | true => ⟨takes_of (by decide +kernel), by decide +kernel⟩
      | false => ⟨takes_of (by decide +kernel), by decide +kernel⟩,
    takes_of (by decide +kernel), by decide +kernel⟩

theorem witness_ManagersActThroughAgents_rest :
    (let m := req 0x8F 0x500
     (sess on).agentTakes m 0x8F false (counted (sess on) m) x1 0 1 ∧ (m.pkt.authForm 16 0 = true ∧ (telPorts 0 m.pkt).isSome = true)) ∧
    (let m := req 0x90 0
     (sess on).agentTakes m 0x90 true (counted (sess on) m) x1 0 1 ∧ (m.k = 0 ∧ (counted (sess on) m).boot.phase < phMGMT ∧
       (counted (sess (inPhase phMGMT)) m).mcReset = false ∧ phMGMT ≤ (counted (sess (inPhase phMGMT)) m).boot.phase ∧
       4 + imgNat m.pkt.args 2 2 ≤ m.pkt.args.length)) ∧
    (let m : MgtIn := { k := 1, pkt := authPkt 1 0x90 0 (List.replicate 32 0) }
     let s := on.setAgent 1 { sess0 := some x1 }
     s.agentTakes m 0x90 true (counted s m) x1 0 1 ∧ m.k = 1) :=
  ⟨⟨takes_of (by decide +kernel), by decide +kernel⟩, ⟨takes_of (by decide +kernel), by decide +kernel⟩, takes_of (by decide +kernel), rfl⟩

/-- A receive slot that accepted a frame just now, and 10 ms ago; a transmit slot in use (R392). -/
theorem witness_ManagersActThroughAgents_slots :
    (let s := on.setPort 8 { rx1 := some { key := 0, salt := 0, last := some 5 } }
     let r : RxKey := { key := 0, salt := 0, last := some 5 }
     (s.port 8).rxKey true = some r ∧ r.last = some 5 ∧ (s.now pd0 - r.seenAt).toNat ≤ 2000000 ∧
       2000000 < (State.now { s with gtime := [(8, 2000001)] } pd0 - r.seenAt).toNat) ∧
    ((on.setFld (.lnk 8) F.LNK_STATE_KEYED_RX 1).setFld (.lnk 8) F.LNK_STATE_KIDX_RX 1).flag (.lnk 8) F.LNK_STATE_KIDX_RX = true := by
  decide +kernel

/-- Forms that do not hold, and ports and dies that the agent does not serve. -/
theorem witness_ManagersActThroughAgents_form :
    (∀ m ∈ [req 0x84 0x33000 (List.replicate 32 1), req 0x85 8 (List.replicate 32 1), req 0x88 (1 <<< 20), req 0x89 0x800, req 0x8B 0x400, req 0x8C 0x400, req 0x8D 0x400,
       req 0x8F 0x10000, req 0x87 (1 <<< 29), req 0x85 12, req 0x87 (0x30 + 4095 <<< 8), req 0x88 0x30, req 0x8B 12 (List.replicate 96 0), req 0x8C 12, req 0x8D 12, req 0x8F 0x600],
       takenBy (sess on) m false x1 0 1 = true) ∧
    ((req 0x84 0x33000 (List.replicate 32 1)).pkt.authForm 32 8 = false ∧ (req 0x85 8 (List.replicate 32 1)).pkt.authForm 8 4 = false ∧
      (req 0x87 (1 <<< 29)).pkt.argsUpTo 29 = false ∧ (req 0x88 (1 <<< 20)).pkt.authForm 20 4 = false ∧ (req 0x89 0x800).pkt.authForm 11 0 = false ∧
      (req 0x8B 0x400).pkt.authForm 10 64 = false ∧ (req 0x8C 0x400).pkt.authForm 10 0 = false ∧ (req 0x8D 0x400).pkt.authForm 10 0 = false ∧
      (req 0x8F 0x10000).pkt.authForm 16 0 = false) ∧
    ((req 0x85 12).pkt.authForm 8 4 = true ∧ portOn 0 ((req 0x85 12).pkt.arg 7 0) = none ∧ (req 0x87 (0x30 + 4095 <<< 8)).pkt.argsUpTo 29 = true ∧
      tableDie 0 (req 0x87 (0x30 + 4095 <<< 8)).pkt = none ∧ tableDie 0 (req 0x88 0x30).pkt = none ∧ (req 0x8B 12 (List.replicate 96 0)).pkt.authForm 10 64 = true ∧
      (req 0x8C 12).pkt.authForm 10 0 = true ∧ telPorts 0 (req 0x8F 0x600).pkt = none) := by
  decide +kernel
/-- A manager that runs, in a stage and a pair state. -/
def mgr (disc pair : Nat) (x : SummitSt := {}) : State :=
  State.setFld (State.setFld (State.setFld (State.setFld { on with smt := x } .smt F.SMT_CTRL_ROLE 1) .smt F.SMT_CTRL_EN 1) .smt F.SMT_STATE_DISC disc)
    .smt F.SMT_STATE_PAIR pair

theorem witness_EventsReachTheManager :
    ((mgr sdSTEADY prPAIRED).mgmtOn = true ∧ (mgr sdSTEADY prPAIRED).acts = true ∧ (mgr sdSTEADY prPAIRED).pairSt ≠ prISOLATED ∧
      (∀ n ∈ [2, 3, 4, 6], (AgentEvent.mk 0 n 0 0 0 0).code = n)) ∧
    (on.settled = true ∧ on.acts = false ∧ (mgr sdSTEADY prISOLATED).pairSt = prISOLATED) ∧
    (let s := on.setAgent 0 { sess0 := some x1, cur := some (0, 1), sends := 2 }
     let m := req 0xDF 0
     s.mgmtOn = true ∧ (s.mgtTakes m).2 = true ∧ m.pkt.op = 0xDF ∧ ((s.mgtTakes m).1.agent 0).cur = some (0, 1) ∧ m.valid = true ∧
       imgNat (m.pkt.payload.drop (m.pkt.payload.length - 32)) 8 1 = 0 ∧ imgNat (m.pkt.payload.drop (m.pkt.payload.length - 32)) 0 8 % 2 ^ 62 = 1 % 2 ^ 62 ∧
       m.pkt.arg 7 0 = agOK ∧ s.inReset (PDie.die 0) = false ∧ PDie.die 0 ∉ s.fencedDies ∧ (s.agent 0).sends ≠ 0) ∧
    (on.settled = true ∧ on.portUp 0 = true) ∧
    (∀ n ∈ [0, 1], let j : Job := { tag := .pair, steps := [(.peer, .pairOpen)], xid := 4, sent := true, left := n }
     let s := mgr sdPLAN prNONE { jobs := [j] }
     s.smtUp = true ∧ s.smt.jobs.find? (fun j => j.sent && j.xid == 4) = some j ∧ j.left = n ∧ j.tag ≠ .mirror) ∧
    (∀ n ∈ [0, 1], ∃ r : RelayOut, let s : State := { on with relayOut := [r] }
     s.mcReset = false ∧ s.relayOut.find? (fun r => r.pos == (2 : Fin 4).val) = some r ∧ r.sent = true ∧ r.left = n) := by
  refine ⟨by decide +kernel, by decide +kernel, by decide +kernel, by decide +kernel, by decide +kernel, ?_⟩
  intro n hn
  exact ⟨{ pos := 2, ctr := 0, accs := [], sent := true, left := n }, rfl, rfl, rfl, rfl⟩

/-- A manager that has found PD0 of package 0, of serial 7, with its port 3. -/
def knows (pair : Nat) (x : SummitSt := {}) : State :=
  mgr sdSTEADY pair { x with pkgs := [⟨0, 7, 1, 0, 0⟩], found := [{ serial := 7, role := 0, ports := [{ rep := { port := 3 } }] }] }

theorem witness_EventsReachTheManager_more :
    (let u := (knows prPAIRED).emit (.eventOk 7 0)
     (knows prPAIRED).acts = true ∧ u.pkgOf 7 = some ⟨0, 7, 1, 0, 0⟩ ∧ ((7 : BitVec 128) = (knows prPAIRED).fuses.serial → u.impaired = false) ∧
       (u.dieOf 7 0).isSome = true ∧ (u.portRec 7 0 3).isSome = true ∧ u.dieOf 8 0 = none ∧ u.portRec 7 0 4 = none ∧
       (AgentEvent.mk 3 5 0 0 0 0).code = 5 ∧ (AgentEvent.mk 3 1 0 0 0 0).code = 1) ∧
    (let s := on.setAgent 0 { sess0 := some x1 }
     (s.mgtTakes (req 0xDF 0)).2 = true ∧ ((s.mgtTakes (req 0xDF 0)).1.agent 0).cur = none) ∧
    (let s := on.setAgent 0 { evq := [⟨3, 1, 0, 0, 0, 0⟩] }
     (s.agent 0).evq = [⟨3, 1, 0, 0, 0, 0⟩] ∧ (s.agent 0).lostDue = false ∧ (on.agent 0).sends = 0) ∧
    (let j : Job := { tag := .mirror, steps := [], xid := 4, sent := true, left := 1 }
     let s := mgr sdPLAN prNONE { jobs := [j] }
     s.smtUp = true ∧ s.smt.jobs.find? (fun j => j.sent && j.xid == 4) = some j ∧ j.left ≠ 0 ∧ on.settled = true ∧ on.smtUp = false) := by
  decide +kernel
-- the Summit manager

/-- The endpoint takes a request under the pair session. -/
def endBy (s : State) (m : MgtIn) (x : Session) (ctr : Nat) : Bool :=
  (s.mgtTakes m).2 && decide (m.k = 0) && m.pkt.cls && decide (trailerOf m.pkt = some (ctr, 0)) && decide ((s.mgtTakes m).1.pairSess = some x) && m.valid &&
    decide (x.judge ctr = .fresh) && (s.mgtTakes m).1.smtUp

theorem ends_of {s : State} {m : MgtIn} {x : Session} {ctr : Nat} (h : endBy s m x ctr = true) : s.endpointTakes m m.pkt.op (s.mgtTakes m).1 x ctr := by
  simp only [endBy, Bool.and_eq_true, decide_eq_true_eq] at h
  obtain ⟨⟨⟨⟨⟨⟨⟨a, b⟩, c⟩, d⟩, e⟩, f⟩, g⟩, i⟩ := h
  exact ⟨Prod.ext rfl a, rfl, b, c, d, e, f, .inl g, i⟩

/-- A request to the Summit endpoint, and a manager whose pair session is open. -/
def endReq (op : BitVec 8) (args : List Byte) : MgtIn := { k := 0, pkt := authPkt 0 op 0 args 2 }
def paired (s : State) : State := { s with pairSess := some x1 }

theorem witness_PairSessionCarriesThePair :
    (let m := endReq 0xA0 (List.replicate 96 0)
     let s := mgr sdPLAN prNONE
     (s.mgtTakes m).2 = true ∧ m.pkt.op = 0xA0 ∧ m.k = 0 ∧ (s.mgtTakes m).1.smtUp = true ∧ m.pkt.cls = true ∧ 112 ≤ m.pkt.payload.length ∧ m.pkt.argsUpTo 0 = true ∧
       m.valid = true ∧ BitVec.ofNat 128 (imgNat m.pkt.payload 32 16) = (s.mgtTakes m).1.partnerSerial ∧
       BitVec.ofNat 128 (imgNat (endReq 0xA0 (List.replicate 96 1)).pkt.payload 32 16) ≠ s.partnerSerial ∧
       (endReq 0xA0 (List.replicate 32 0)).pkt.payload.length < 112 ∧ (s.mgtTakes (endReq 0xA0 (List.replicate 32 0))).2 = true) ∧
    (let m := endReq 0xA1 (List.replicate 32 0)
     let s := paired (mgr sdSTEADY prPAIRED)
     s.endpointTakes m 0xA1 (s.mgtTakes m).1 x1 1 ∧ (m.pkt.authForm 0 24 = true ∧ imgNat m.pkt.args 4 1 < 4 ∧ imgZero m.pkt.args 5 3 = true ∧
       imgNat m.pkt.args 0 4 ≤ (s.mgtTakes m).1.myTerm.toNat ∧ (s.mgtTakes m).1.disc ≠ sdPLAN)) ∧
    (let m := endReq 0xA1 (1 :: List.replicate 31 0)
     let s := paired (mgr sdSTEADY prPAIRED)
     s.endpointTakes m 0xA1 (s.mgtTakes m).1 x1 1 ∧ (m.pkt.authForm 0 24 = true ∧ imgNat m.pkt.args 4 1 < 4 ∧ imgZero m.pkt.args 5 3 = true ∧
       (s.mgtTakes m).1.acts = true ∧ (s.mgtTakes m).1.myTerm.toNat < imgNat m.pkt.args 0 4)) ∧
    (let m := endReq 0xA1 (List.replicate 32 1)
     let s := paired (mgr sdSTEADY prPAIRED)
     s.endpointTakes m 0xA1 (s.mgtTakes m).1 x1 1 ∧ m.pkt.authForm 0 24 = false) ∧
    (let m := endReq 0xA2 (List.replicate 32 0)
     let s := paired (mgr sdSTANDBY prSTANDBY)
     s.endpointTakes m 0xA2 (s.mgtTakes m).1 x1 1 ∧ (m.pkt.argsUpTo 0 = true ∧ (s.mgtTakes m).1.pairSt = prSTANDBY ∧
       ((paired (mgr sdSTEADY prPAIRED)).mgtTakes m).1.pairSt ≠ prSTANDBY)) ∧
    (let m := endReq 0xA3 (List.replicate 32 0)
     let s := paired (mgr sdSTEADY prPAIRED)
     s.endpointTakes m 0xA3 (s.mgtTakes m).1 x1 1 ∧ (m.pkt.authForm 0 8 = true ∧ (s.mgtTakes m).1.acts = true ∧ (endReq 0xA3 (List.replicate 32 1)).pkt.authForm 0 8 = false ∧
       ((paired (mgr sdSTANDBY prSTANDBY)).mgtTakes m).1.acts = false ∧ ((paired (mgr sdSTANDBY prSTANDBY)).mgtTakes m).1.disc ≠ sdPLAN)) ∧
    (let m := endReq 0xA4 (1 :: List.replicate 31 0)
     let s := paired (mgr sdSTEADY prPAIRED)
     s.endpointTakes m 0xA4 (s.mgtTakes m).1 x1 1 ∧ (m.pkt.authForm 0 20 = true ∧ (s.mgtTakes m).1.myTerm.toNat < imgNat m.pkt.args 0 4 ∧
       imgNat (endReq 0xA4 (List.replicate 32 0)).pkt.args 0 4 ≤ s.myTerm.toNat ∧ (endReq 0xA4 (List.replicate 32 1)).pkt.authForm 0 20 = false)) :=
  ⟨by decide +kernel, ⟨ends_of (by decide +kernel), by decide +kernel⟩, ⟨ends_of (by decide +kernel), by decide +kernel⟩,
    ⟨ends_of (by decide +kernel), by decide +kernel⟩, ⟨ends_of (by decide +kernel), by decide +kernel⟩, ⟨ends_of (by decide +kernel), by decide +kernel⟩,
    ends_of (by decide +kernel), by decide +kernel⟩

/-- A standby in PLAN that hears its partner: its role is 2 where the plan names it second. -/
def second (disc pair : Nat) : State := (paired { mgr disc pair with fuses := { serial := 9 } }).setFld .smt F.SMT_CTRL_ROLE 2

theorem witness_PairSessionCarriesThePair_sync :
    let m := endReq 0xA1 (List.replicate 32 0)
    let s := second sdPLAN prNONE
    s.endpointTakes m 0xA1 (s.mgtTakes m).1 x1 1 ∧ ((s.mgtTakes m).1.disc = sdPLAN ∧ (s.mgtTakes m).1.pairSt = prNONE ∧ (s.mgtTakes m).1.summitRole = 2) :=
  ⟨ends_of (by decide +kernel), by decide +kernel⟩
/-- Heartbeats missed on both paths so far. -/
def missed (n : Nat) (s : State) : State := (s.setFld .smt F.SMT_HB_MISS_FAB n).setFld .smt F.SMT_HB_MISS_MGN n

theorem witness_MissedHeartbeatsDecide :
    (∀ n ∈ [1, 2], let s := missed n (mgr sdSTANDBY prSTANDBY)
     s.mgmtOn = true ∧ s.smtUp = true ∧ s.disc = sdSTANDBY ∧ s.countBeats.clearBeats.missedBoth 3 = decide (n = 2) ∧ s.countBeats.clearBeats.pairSt ≠ prSYNCING ∧
       s.smt.isoRetry % 10 = 0) ∧
    (let s := missed 2 (mgr sdSTANDBY prSYNCING)
     s.countBeats.clearBeats.missedBoth 3 = true ∧ s.countBeats.clearBeats.pairSt = prSYNCING) ∧
    (let s := missed 2 (mgr sdSTANDBY prSTANDBY { isoRetry := 3 })
     s.countBeats.clearBeats.missedBoth 3 = true ∧ s.smt.isoRetry % 10 ≠ 0) ∧
    (∀ n ∈ [0, 1], let s := missed n (mgr sdSTEADY prPAIRED)
     s.smtUp = true ∧ s.disc ≠ sdOFF ∧ s.disc ≠ sdSTANDBY ∧ s.disc ≠ sdPLAN ∧ s.pairSt = prPAIRED ∧ s.countBeats.clearBeats.missedBoth 2 = decide (n = 1)) ∧
    (∀ b : Bool, let s := mgr sdSTEADY prISOLATED { claim := if b then none else some { term := 1 } }
     s.smtUp = true ∧ s.pairSt = prISOLATED ∧ decide (s.countBeats.clearBeats.smt.claim = none) = b ∧ s.smt.isoRetry % 10 = 0) ∧
    ((mgr sdSTEADY prSOLO).smtUp = true ∧ (mgr sdSTEADY prSOLO).pairSt = prSOLO) ∧ (on.settled = true ∧ on.smtUp = false) ∧
    (let s := mgr sdSTEADY prPAIRED { fabSeen := true, mgnSeen := true }
     s.smt.fabSeen = true ∧ s.smt.mgnSeen = true) := by
  decide +kernel
/-- A byte string filled to 64 bytes. -/
def pad64 (l : List Byte) : List Byte := l ++ List.replicate ((64 - l.length % 64) % 64) 0

/-- A plan image of sections, each by type, without a signature: the header, the table at 0x40, and the sections at multiples of 64. -/
def planOf (l : List (Nat × List Byte)) (seq : Nat := 0) : List Byte :=
  let base := (0x40 + 16 * l.length + 63) / 64 * 64
  let tab := l.foldl (fun (a : List Byte × Nat) e => (a.1 ++ leBytes e.1 4 ++ leBytes a.2 4 ++ leBytes e.2.length 4 ++ leBytes 0 4, a.2 + (pad64 e.2).length)) ([], base)
  leBytes 0x5056524C 4 ++ leBytes 1 4 ++ leBytes seq 8 ++ leBytes (tab.2 + 64) 4 ++ leBytes l.length 4 ++ List.replicate 0x28 0 ++ pad64 tab.1 ++
    l.flatMap (fun e => pad64 e.2) ++ List.replicate 64 0

/-- One rack under profile C with the packages of serials 5 and 6, which hold the managers. -/
def rack1 (seq : Nat) : List Byte :=
  planOf [(1, [0, 2, 0, 0, 0, 1, 1, 0] ++ leBytes 1 8 ++ List.replicate 0x30 0 ++ leBytes 3 8),
    (2, leBytes 5 16 ++ leBytes 0 4 ++ leBytes 6 16 ++ leBytes (Coord.mk 1 0 0).toNat 4),
    (3, [0, 1, 2].flatMap (fun j => [0, j, 0, 0] ++ leBytes (8 + j.toNat) 16 ++ [0, 1] ++ List.replicate 126 0xFF)),
    (4, leBytes 5 16 ++ leBytes 6 16 ++ List.replicate 0x20 0)] seq

theorem witness_ManagerStagesFollow :
    (let s := (planned (mgr sdOFF prNONE)).setFld (.mem 0) F.BLK_STATUS_READY 1
     let u := s.setFld .smt F.SMT_CTRL_EN (bits (4 : Word).toNat 2 2)
     s.mgmtOn = true ∧ u.smtUp = true ∧ u.disc = sdOFF ∧ u.plan ≠ [] ∧ u.flag (.mem 0) F.BLK_STATUS_READY = true ∧ u.dieDown 0 = false ∧ (4 : Word).getLsbD 2 = true ∧
       (s.setFld .smt F.SMT_CTRL_EN (bits (0 : Word).toNat 2 2)).smtUp = false) ∧
    ((mgr sdPLAN prNONE).smtUp = true ∧ (mgr sdPLAN prNONE).disc = sdPLAN ∧ (mgr sdPLAN prNONE).pairSt ≠ prSYNCING) ∧
    ((mgr sdCLAIM prSOLO).acts = true ∧ (mgr sdCLAIM prSOLO).disc = sdCLAIM ∧ (mgr sdCLAIM prSOLO).smt.claim = none) ∧
    ((mgr sdEXPLORE prSOLO).acts = true ∧ (mgr sdEXPLORE prSOLO).disc = sdEXPLORE ∧ (mgr sdEXPLORE prSOLO).smt.found = [] ∧
      (mgr sdEXPLORE prSOLO).settled = true ∧ State.allFound { mgr sdEXPLORE prSOLO with plan := rack1 1 } = false) ∧
    ((mgr sdSTEADY prSOLO).serving = true ∧ (∀ p ∈ (mgr sdSTEADY prSOLO).smt.pkgs, p.state ≠ 4)) ∧ (on.settled = true ∧ on.acts = false) ∧
    ((mgr sdCLAIM prSOLO { claim := some { term := 1 } }).settled = true ∧ (mgr sdCLAIM prSOLO { claim := some { term := 1 } }).smt.claim.isSome = true) ∧
    (let s : State := { inPhase phMGMT with heldTerm := 1, heldBy := 9 }
     s.settled = true ∧ s.memberUp = true ∧ (leBytes 2 20).length = 20 ∧
       s.heldTerm.toNat < (BitVec.ofNat 32 (imgNat (leBytes 2 20) 0 4)).toNat ∧
       BitVec.ofNat 32 (imgNat (leBytes (1 + 9 * 2 ^ 32) 20) 0 4) = s.heldTerm ∧ BitVec.ofNat 128 (imgNat (leBytes (1 + 9 * 2 ^ 32) 20) 4 16) = s.heldBy ∧
       BitVec.ofNat 128 (imgNat (leBytes 1 20) 4 16) ≠ s.heldBy) := by
  decide +kernel
/-- A serving manager that has found port 0 of serial 5's PD0. -/
def found (p : PortRec) : State := mgr sdSTEADY prPAIRED { found := [{ serial := 5, role := 0, ports := [p] }] }

theorem witness_ManagerChangesRoutesAndKeys :
    ((1 : Word).getLsbD 2 = false ∧ (1 : Word).getLsbD 0 = true ∧ on.flag .smt F.SMT_GEN_BUSY = false ∧ (0 : Word).getLsbD 0 = false ∧
      (on.setFld .smt F.SMT_GEN_BUSY 1).flag .smt F.SMT_GEN_BUSY = true ∧ (on.setFld .smt F.SMT_GEN_BUSY 1).settled = true) ∧
    (let s := mgr sdSTEADY prPAIRED { changeDue := true }
     s.serving = true ∧ s.pairSt ≠ prISOLATED ∧ s.smt.changeDue = true ∧ s.smt.changing = none ∧ s.flag .smt F.SMT_GEN_BUSY = false ∧ s.smt.jobs = []) ∧
    (on.settled = true ∧ on.serving = false ∧ on.smt.slices = []) ∧
    (let p : PortRec := { rep := { port := 0, valid := true, pSerial := 6 }, admitted := true }
     (found p).portRec 5 0 0 = some p ∧ (found p).serving = true ∧ p.admitted = true ∧ p.rep.valid = true ∧ (found p).linkBusy 5 0 0 = false) ∧
    (let p : PortRec := { rep := { port := 0, state := lkFAILED }, cls := .missing }
     (found p).portRec 5 0 0 = some p ∧ p.admitted = false ∧ p.cls = .missing ∧ p.rep.state = lkFAILED ∧
       retrainedOut p.retrains = false) ∧
    (let p : PortRec := { rep := { port := 0 }, retrains := [0, 0, 0] }
     (found p).settled = true ∧ (found p).portRec 5 0 0 = some p ∧
       retrainedOut p.retrains = true) ∧
    (let x : SliceRec := { id := 3, part := 0, kind := 0 }
     (mgr sdSTEADY prPAIRED { slices := [x] }).smt.slices.find? (fun x => x.id == 3 && x.state == 0) = some x) := by
  decide +kernel
theorem witness_WatershedRoundsConserveTheBudget :
    ((mgr sdSTEADY prPAIRED).mgmtOn = true ∧ (mgr sdSTEADY prPAIRED).serving = true ∧ (mgr sdSTEADY prPAIRED).pairSt ≠ prISOLATED) ∧
    (on.settled = true ∧ on.serving = false) ∧
    wsMove 10 100 [some 0, some 1000] [2000, 2000] [3200, 3200] [false, false] = some [2040, 1960] ∧
    (wsMove 10 100 [some 0, some 1000, some 1000, none] [2000, 2000, 2000, 2000] [3200, 3200, 3200, 3200] [false, false, true, false]).isSome = true := by
  decide +kernel
-- operator commands

/-- Slices of single packages are allowed, four of them, of partition 0; credential 7 has every right. -/
def plan0 : List Byte :=
  planOf [(5, leBytes 1 8 ++ leBytes 1 4 ++ leBytes 4 2), (6, List.replicate 4 0 ++ [1] ++ List.replicate 59 0 ++ leBytes 7 4 ++ leBytes 0x3F 4)]

/-- A serving primary with that plan, and package 0 in its shape. -/
def primary (x : SummitSt) : State := { mgr sdSTEADY prPAIRED { x with pkgs := [{ ix := 0, serial := 5 }] } with plan := plan0 }

theorem witness_OperatorCommandsAreJudged :
    ((on.operator ⟨7, 1, true⟩ (.deviceReset 0)).selfReset on.out.length = false ∧ (on.operator ⟨7, 1, true⟩ (.other 5)).selfReset on.out.length = false) ∧
    ((mgr sdSTANDBY prSTANDBY).smtUp = true ∧ (mgr sdSTANDBY prSTANDBY).disc ≠ sdOFF ∧ (mgr sdSTANDBY prSTANDBY).disc = sdSTANDBY) ∧
    (let s := primary {}
     s.smtUp = true ∧ s.disc ≠ sdOFF ∧ s.disc ≠ sdSTANDBY ∧ s.pairSt ≠ prSTANDBY ∧ s.pairSt ≠ prSYNCING ∧ planRights s.plan 8 = none ∧
       planRights s.plan 7 = some 0x3F ∧ (0x3F).testBit (OpCmd.right (.sliceFree 1)) = true ∧ Store.get (fun _ => 0) s.smt.opCtrs 7 < 1 ∧
       s.pairSt ≠ prISOLATED ∧ s.serving = true ∧ State.serving (s.setDisc sdINSTALL) = false) ∧
    (let a : OpAnswer := ⟨7, 1, 0x0202, .ok, [], []⟩
     let s := primary { opCtrs := [(7, 1)], answers := [a] }
     (1 : BitVec 64).toNat ≤ Store.get (fun _ => 0) s.smt.opCtrs 7 ∧ s.smt.answers.find? (fun a => a.cred == 7 && a.ctr == 1) = some a) ∧
    on.smtUp = false := by
  decide +kernel

/-- One that resets this package itself: the manager's own serial names package 0. -/
theorem witness_OperatorCommandsAreJudged_self :
    let s := State.setPair { primary { open_ := [(5, 0)] } with fuses := { serial := 5 } } prSOLO
    (s.operator ⟨7, 1, true⟩ (.deviceReset 0)).selfReset s.out.length = true := by
  decide +kernel
theorem witness_OperatorCommandsTakeEffect :
    (let x : SliceRec := { id := 3, part := 0, kind := 0, state := 1 }
     (primary { slices := [x] }).smt.slices.find? (fun x => x.id == 3 && (x.state == 1 || x.state == 2)) = some x ∧
       (primary {}).smt.slices.find? (fun x => x.id == 3 && (x.state == 1 || x.state == 2)) = none) ∧
    ((List.replicate 80 (0 : Byte)).length = 80 ∧ sliceForm (primary {}).plan 0 1 0 0 0 = true ∧ (primary {}).smt.slices.length < planMaxSlices (primary {}).plan) ∧
    ((primary {}).planAccepts [] true = false ∧ planSeq [] ≤ planSeq (primary {}).plan ∧ (primary {}).planAccepts (rack1 1) true = true ∧
      planSeq (primary {}).plan < planSeq (rack1 1) ∧ planIxs (rack1 1) = [0, 1]) ∧
    ((mgr sdSTEADY prPAIRED { pkgs := [{ ix := 0, serial := 5, state := 5 }] }).pkgAt (routeIndex 0) = some { ix := 0, serial := 5, state := 5 } ∧
      (primary {}).pkgAt (routeIndex 0) = some { ix := 0, serial := 5 } ∧ (primary {}).pkgAt (routeIndex (Coord.mk 1 0 0)) = none) ∧
    (((primary { masters := [(2, 0)] }).smt.masters.find? (fun m => m.1 == 2)).map (·.2) = some 0) := by
  decide +kernel

theorem witness_OperatorCommandsTakeEffect_alloc :
    (((sliceCandidates 0 1 0 0 0).filter (primary {}).sliceFits).find? (fun x => ((primary {}).slicePart x 0).isSome)).isSome = true := by
  decide +kernel

theorem candidates_single {x : SliceRec} (h : x ∈ sliceCandidates 0 1 0 0 0) : x.kind = 0 ∧ x.count = 1 := by
  simp only [sliceCandidates, if_true, List.mem_flatMap, List.mem_map] at h
  obtain ⟨_, _, _, _, _, _, _, _, rfl⟩ := h
  exact ⟨rfl, rfl⟩

theorem witness_OperatorCommandsTakeEffect_none : (sliceCandidates 0 1 0 0 0).filter on.sliceFits = [] := by
  refine List.filter_eq_nil_iff.mpr (fun x h => ?_)
  have p : ∀ i, on.pkgAt i = none := fun _ => rfl
  simp [State.sliceFits, SliceRec.ixs, candidates_single h, p, show List.range 1 = [0] from rfl]
-- a member's management complex

theorem witness_MembersAnswerTheirCommands :
    ((inPhase phMGMT).mgmtOn = true ∧ (inPhase phMGMT).memberUp = true ∧ State.mcReset { inPhase phMGMT with mcReset := true } = true ∧ (inPhase phMGMT).spUp = true) ∧ (on.settled = true ∧ on.memberUp = false) ∧
    on.flag .tim F.TIM_STATUS_MASTER = false ∧ on.ridgeOpen = false ∧ on.fld .flt F.FLT_STATE_STATE = hubNORMAL ∧ on.boot.phase < phMGMT ∧
    (on.setFld .flt F.FLT_STATE_STATE hubRECOVERED_IDLE).fld .flt F.FLT_STATE_STATE = hubRECOVERED_IDLE ∧
    (let s := ((inPhase phREADY).setFld .tim F.TIM_STATUS_MASTER 1).setFld (.pwr pd0) F.PWR_MGS_A_OK 1
     s.flag .tim F.TIM_STATUS_MASTER = true ∧ s.ridgeOpen = true ∧ (leBytes 5 8).length = 8) ∧
    (18 ≤ (23 : Byte).toNat ∧ (23 : Byte).toNat < 24) := by
  decide +kernel
/-- A SLICE_JOIN of slice 1 as partition 0: one context, rings of 16 entries, one granule of Tarn, one cairn. -/
def joinBody : List Byte := leBytes 1 2 ++ List.replicate 14 0 ++ [0, 1, 4, 0] ++ leBytes 1 2 ++ leBytes 1 2 ++ List.replicate 72 0

/-- Every die's memory is ready. -/
def readyAll : State := allCDies.foldl (fun s c => s.setFld (.mem c) F.BLK_STATUS_READY 1) on

/-- CD0 alone is in service. -/
def readyOne : State := { on.setFld (.mem 0) F.BLK_STATUS_READY 1 with fencedDies := [1, 2, 3, 4, 5, 6, 7] }

theorem witness_PartitionsJoinLeaveAndStop_join :
    sjPART joinBody = (0 : Part).val ∧ on.joinOk joinBody 0 = false ∧ readyOne.joinOk joinBody 0 = true ∧ joinForm joinBody = true := by
  decide +kernel

theorem witness_PartitionsJoinLeaveAndStop_fit :
    readyAll.granFit 7 = some 0 ∧ readyAll.tarnFit 7 (sjTARN joinBody) = some 0 ∧ readyAll.cairnFit 7 (sjCAIRNS joinBody) = some 0 ∧
      (8 : CDie) ≠ 7 := by
  decide +kernel

theorem witness_PartitionsJoinLeaveAndStop_leave :
    (let x : PartSt := ⟨leBytes 1 16, 1, 4, 1, 1, false, [], [0], none, false, false, false⟩
     let s : State := { on with parts := [(63, some x)] }
     let b : List Byte := leBytes 1 2 ++ [63]
     s.namedPart b = some (63, x) ∧ s.fld .flt F.FLT_STATE_STATE = hubNORMAL ∧ s.partFenced 63 = false ∧ x.stopped = false ∧ (s.setPartState 63 ptSCRUBBING).partFenced 63 = true ∧
       x.stopped = false) ∧
    on.namedPart [] = none ∧ (on.setFld .flt F.FLT_STATE_STATE hubRECOVERED_IDLE).fld .flt F.FLT_STATE_STATE = hubRECOVERED_IDLE ∧
    on.fld .flt F.FLT_STATE_STATE ≠ hubRECOVERED_IDLE := by
  decide +kernel
/-- A distribution of two fragments staged in CD0's granule 5. -/
def dist0 (type st : Nat) (dig : BitVec 512) : DistSt := { id := 9, type := type, length := 2048, nchunk := 1, digest := dig, state := st, die := 0, gran := 5 }
def distHeld (type st : Nat) (dig : BitVec 512) : State := { readyAll with dist := some (dist0 type st dig) }

theorem witness_DistributionsVerifyBeforeTheyAct :
    (∀ st ∈ [dsRECEIVING, dsVERIFYING, dsVERIFIED, dsFAILED], let s := distHeld 1 st 0
     s.distCheck = s ∧ s.dist = some (dist0 1 st 0) ∧ decide (st = dsRECEIVING ∨ st = dsVERIFYING) = (dist0 1 st 0).busy) ∧
    ((dist0 1 dsRECEIVING 0).id.toNat ≠ imgNat [8, 0, 0, 0] 0 4 ∧ (dist0 1 dsRECEIVING 0).id.toNat = imgNat [9, 0, 0, 0] 0 4 ∧
      imgNat [9, 0, 0, 0, 0] 4 1 = 0 ∧ [9, 0, 0, 0, 0].length = 5 ∧ [9, 0, 0, 0].length = 4) ∧
    (let b : List Byte := [9, 0, 0, 0, 0, 0, 1] ++ List.replicate 1029 0
     b.length = 1036 ∧ imgZero b 7 5 = true ∧ imgNat b 6 1 < 64 ∧ 64 * imgNat b 4 2 + imgNat b 6 1 < (dist0 1 dsRECEIVING 0).nfrag) ∧
    (on.settled = true ∧ on.dist = none) := by
  decide +kernel

theorem distCheck_same {s : State} {d : DistSt} (h : s.dist = some d) (a : s.dieDown d.die = false) (b : s.flag (.mem d.die) F.BLK_STATUS_READY = true) :
    s.distCheck = s := by
  unfold State.distCheck
  rw [h]
  dsimp only
  rw [a, b]
  cases d.busy <;> rfl

theorem add_one_ne (x : BitVec 512) : x + 1 ≠ x := by bv_omega

/-- A state that holds a distribution. -/
def withDist (s : State) (d : DistSt) : State := { s with dist := some d }

theorem withDist_same {s : State} {d : DistSt} (a : s.dieDown d.die = false) (b : s.flag (.mem d.die) F.BLK_STATUS_READY = true) :
    (withDist s d).distCheck = withDist s d := distCheck_same rfl a b

theorem withDist_staged (s : State) (d e : DistSt) : (withDist s d).staged e = s.staged e := rfl

/-- Contents whose digest is the one announced, and is not, for each type. -/
theorem digest_witness (s : State) (a : s.mgmtOn = true) (b : s.dieDown 0 = false) (c : s.flag (.mem 0) F.BLK_STATUS_READY = true) (type : Nat) (ok : Bool) :
    ∃ dig, let d := dist0 type dsVERIFYING dig
      let t := withDist s d
      t.mgmtOn = true ∧ t.distCheck = t ∧ t.dist = some d ∧ d.state = dsVERIFYING ∧ decide (Config.sha512 (t.staged d) = d.digest) = ok := by
  cases ok
  · exact ⟨Config.sha512 (s.memGet 0 (5 * memGran) 2048) + 1, a, withDist_same b c, rfl, rfl, decide_eq_false (fun h => add_one_ne _ h.symm)⟩
  · exact ⟨Config.sha512 (s.memGet 0 (5 * memGran) 2048), a, withDist_same b c, rfl, rfl, decide_eq_true rfl⟩

theorem witness_DistributionsVerifyBeforeTheyAct_digest (type : Nat) (ok : Bool) :
    ∃ dig, let d := dist0 type dsVERIFYING dig
      let t := withDist readyAll d
      t.mgmtOn = true ∧ t.distCheck = t ∧ t.dist = some d ∧ d.state = dsVERIFYING ∧ decide (Config.sha512 (t.staged d) = d.digest) = ok :=
  digest_witness readyAll (by decide +kernel) (by decide +kernel) (by decide +kernel) type ok
-- power

/-- CD0 at a step of its clock, with a duty cycle. -/
def atStep (k duty : Nat) : State := ((on.setFld (cdPwr 0) F.PWR_STATUS_STEP k).setFld (cdPwr 0) F.PWR_STATUS_DUTY duty)

theorem witness_EstimatesAreCalibrated :
    (on.mgmtOn = true ∧ (List.replicate 10 (0 : BitVec 16)).length = 10 ∧ on.dieDown 0 = false ∧ State.dieDown { on with fencedDies := [0] } 0 = true ∧
      ((on.pwrSt 0).pairs.filter (fun p => p.ok && p.count != 0)).length < 50) ∧
    (on.inReset 2 = false ∧ (2 : Die) ∉ on.fencedDies) ∧ (2 : Die) ∈ ({ on with fencedDies := [2] } : State).fencedDies ∧
    ({ on with mcReset := true } : State).mcReset = true ∧
    (∀ g ∈ [0x2000, 0x8000], let s := on.setFld (.pwr pd0) F.PWR_CAL_GAIN g
      0x2000 ≤ s.fld (.pwr pd0) F.PWR_CAL_GAIN ∧ s.fld (.pwr pd0) F.PWR_CAL_GAIN ≤ 0x8000) := by
  decide +kernel
/-- CD0 in a droop, or settling after one. -/
def drooping : State := (on.setFld (cdPwr 0) F.PWR_STATUS_DROOP 1)
def settlingAt (d : Option Nat) : State := on.setPwr 0 { settling := true, deferred := d }

theorem witness_LimitLoopAndDroopsSetTheClock :
    6 < (atStep 7 0).stepK 0 ∧ ((atStep 6 0).stepK 0 ≤ 6 ∧ 0 < on.fld (cdPwr 0) F.PWR_CTRL_DUTY_MAX ∧
      (atStep 6 0).fld (cdPwr 0) F.PWR_STATUS_DUTY < (atStep 6 0).fld (cdPwr 0) F.PWR_CTRL_DUTY_MAX) ∧
    0 < (atStep 6 1).fld (cdPwr 0) F.PWR_STATUS_DUTY ∧
    ((atStep 6 0).fld (cdPwr 0) F.PWR_STATUS_DUTY = 0 ∧ (atStep 6 0).stepK 0 < min (atStep 6 0).fuses.kMax ((atStep 6 0).fld (cdPwr 0) F.PWR_CTRL_STEP_MAX)) ∧
    (on.dieDown 0 = false ∧ on.enginesRun 0 = true ∧ (102 : BitVec 8).toNat < 103 ∧ on.fld (cdPwr 0) F.PWR_CTRL_MODE = 0 ∧
      (on.setFld (cdPwr 0) F.PWR_CTRL_MODE 1).fld (cdPwr 0) F.PWR_CTRL_MODE = 1 ∧ on.flag (cdPwr 0) F.PWR_STATUS_AT_RISK = false ∧ on.aclkWaits 0 = false ∧
      (on.pwrSt 0).raise = none ∧ (on.pwrSt 0).deferred = none ∧ drooping.aclkWaits 0 = true ∧ (atStep 6 15).fld (cdPwr 0) F.PWR_STATUS_DUTY = 15) ∧
    (on.settled = true ∧ ({ on with fencedDies := [CDie.die 0] } : State).settled = true ∧ ({ on with fencedDies := [CDie.die 0] } : State).dieDown 0 = true) ∧
    ((on.setPwr 0 { raise := some 8 }).enginesRun 0 = true ∧ ((on.setPwr 0 { raise := some 8 }).pwrSt 0).raise = some 8) ∧ (on.stepK 0 ≠ 31) ∧
    (let s := on.setFld (cdPwr 0) F.PWR_DROOP_DET_EN 0x80
     s.settled = true ∧ s.dieDown 0 = false ∧ (s.fld (cdPwr 0) F.PWR_DROOP_DET_EN).testBit (7 : Fin 8).val = true ∧ s.flag (cdPwr 0) F.PWR_STATUS_DROOP = false ∧
       (s.fld (cdPwr 0) F.PWR_DROOP_DET_EN).testBit (6 : Fin 8).val = false) ∧
    (drooping.settled = true ∧ drooping.mgmtOn = true ∧ drooping.flag (cdPwr 0) F.PWR_STATUS_DROOP = true) ∧
    (on.flag (cdPwr 0) F.PWR_STATUS_DROOP = false ∧ (on.pwrSt 0).settling = false ∧ (settlingAt (some 9)).flag (cdPwr 0) F.PWR_STATUS_DROOP = false ∧
      ((settlingAt (some 9)).pwrSt 0).settling = true ∧ ((settlingAt (some 9)).pwrSt 0).deferred = some 9) := by
  decide +kernel
theorem witness_SuppliesFaultAndSettingsClamp :
    (let s := (on.setFld (.pwr pd0) F.PWR_EST_CAL 1081).setFld (.pwr pd0) F.PWR_LIMIT_RAIL_A 180
     6 * min 180 (s.fld (.pwr (PDie.die 0)) F.PWR_LIMIT_RAIL_A) < s.fld (.pwr (PDie.die 0)) F.PWR_EST_CAL ∧
       ¬ 6 * min 180 (on.fld (.pwr (PDie.die 0)) F.PWR_LIMIT_RAIL_A) < on.fld (.pwr (PDie.die 0)) F.PWR_EST_CAL) ∧
    ((inPhase phREADY).mgmtOn = true ∧ (inPhase phREADY).sensorsLive 8 = true ∧ State.sensorsLive { inPhase phREADY with lostRails := [0] } 0 = false) ∧
    (let s := on.setPwr 0 { breach := 5000 }
     s.flag (cdPwr 0) F.PWR_STATUS_UNATTAINABLE = false ∧ 5000 ≤ (s.pwrSt (0 : CDie).val).breach ∧ (on.pwrSt (0 : CDie).val).breach < 5000) ∧
    (let s : State := { on with pkgPower := { breach := 5000 } }
     s.flag (.pwr pd0) F.PWR_STATUS_UNATTAINABLE = false ∧ 5000 ≤ s.pkgPower.breach ∧ on.pkgPower.breach < 5000 ∧ on.settled = true) ∧
    (let s := on.setFld (.pwr pd0) F.PWR_MGS_B_OK 1
     s.settled = true ∧ s.mgmtOn = true ∧ s.fld (.pwr pd0) F.PWR_MGS_ACTIVE = 0 ∧ s.flag (.pwr pd0) F.PWR_MGS_B_OK = true) ∧
    (let s := on.setFld (.pwr pd0) F.PWR_MGS_B_OK 0
     s.settled = true ∧ s.fld (.pwr pd0) F.PWR_MGS_ACTIVE = 0 ∧ s.flag (.pwr pd0) F.PWR_MGS_B_OK = false) ∧
    ([0, 0, 0] : List Byte).length ≠ 8 ∧ imgZero ([0, 0, 0, 0, 0, 0, 0, 1] : List Byte) 5 3 = false ∧
    (∀ w ∈ [0, 0xFFFF], ∀ m ∈ [0, 0xFF], let b : List Byte := leBytes w 2 ++ leBytes m 1 ++ [31, 31, 0, 0, 0]
      b.length = 8 ∧ imgZero b 5 3 = true ∧ imgNat b 0 2 = w ∧ imgNat b 2 1 = m ∧ 6 ≤ imgNat b 3 1 ∧ 6 ≤ imgNat b 4 1) ∧ on.dieDown 0 = false ∧
    on.fld .flt F.FLT_STATE_STATE = hubNORMAL ∧ (safe on).fld .flt F.FLT_STATE_STATE ≠ hubNORMAL := by
  decide +kernel

/-- PWR_SET clamps a cap and steps, and answers OK. -/
theorem test_pwrSet : (pwrSet (leBytes 0xFFFF 2 ++ [1, 31, 31, 0, 0, 0]) on).2.take 1 = mcOK ∧
    (pwrSet (leBytes 0 2 ++ [1, 5, 31, 0, 0, 0]) on).2.take 1 = mcREFUSED := by
  decide +kernel
-- faults

theorem witness_RecordsLatchAndEscalate :
    ((0 : Word).getLsbD 6 = false ∧ (0x140 : Word).getLsbD 8 = true) ∧
    ((0x51 : Word).getLsbD 6 = true ∧ (0x51 : Word).getLsbD 8 = false ∧ bits (0x51 : Word).toNat 5 3 = 2 ∧ (0x51 : Word).getLsbD 9 = false) ∧
    (3 ≠ bits (0x51 : Word).toNat 5 3 ∧ (0x251 : Word).getLsbD 6 = true ∧ (0x251 : Word).getLsbD 8 = false ∧ (0x251 : Word).getLsbD 9 = true) := by
  decide +kernel
/-- The hub in a state. -/
def hub (n : Nat) : State := on.setFld .flt F.FLT_STATE_STATE n
def entry (cls : Nat) : LogEntry := ⟨0, 0x100, 0, 0, cls, cls, false, false, {}⟩

theorem witness_ClassesReactAndAreLogged :
    (on.fld .flt F.FLT_STATE_STATE = hubNORMAL ∧ Die.cd? (Page.msf 2).die = some 2 ∧ on.partFenced 63 = false) ∧
    (∀ n ∈ [hubSAFE, hubRECOVERING, hubLOCKED], (hub n).fld .flt F.FLT_STATE_STATE = n) ∧
    (State.inReset (on.setFld .rst F.RST_STATUS_IN_RESET 1) (Page.msf 0).die = true) ∧
    (let s : State := { on with fltLog := entry 1 :: entry 0 :: List.replicate 254 (entry 2) }
     s.settled = true ∧ s.fltLog.length = 256 ∧ s.fltLog.findIdx? (fun x => x.cls == 0) = some 1 ∧ (entry 1).cls ≠ 0 ∧ (entry 0).cls = 0) ∧
    (∀ x ∈ List.replicate 256 (entry 2), x.cls ≠ 0) ∧ ((1 : Word).getLsbD 0 = true ∧ (2 : Word).getLsbD 0 = false) := by
  decide +kernel
def partX (sc : Bool) : PartSt := ⟨[], 1, 4, 0, 0, false, [], [0], none, false, false, sc⟩
def partIn (st : Nat) (sc : Bool) : State := State.setPartState { on with parts := [(63, some (partX sc))] } 63 st

theorem witness_RecordsSettleAndScrubsClear :
    ((on.setFld (.msf 0) F.FLT_FLAGS_VALID 1).flag (.msf 0) F.FLT_FLAGS_VALID = true ∧ on.flag (.msf 0) F.FLT_FLAGS_VALID = false) ∧
    ((on.setFld (.msf 0) F.FLT_FLAGS_ACKED 1).flag (.msf 0) F.FLT_FLAGS_ACKED = true ∧ (Page.msf 0).base ∉ on.quietPages ∧
      on.flag (.msf 0) F.FLT_FLAGS_ACKED = false) ∧
    ((partIn ptSCRUBBING true).part? 63 = some (partX true) ∧ (partX true).scrubbed = true ∧ (partIn ptSCRUBBING true).partState 63 = ptSCRUBBING) ∧
    ((hub hubSAFE).mgmtOn = true ∧ (hub hubSAFE).fld .flt F.FLT_STATE_STATE ≠ hubNORMAL ∧ (partIn ptSCRUBBING true).fld .flt F.FLT_STATE_STATE = hubNORMAL) ∧
    ((partIn ptSCRUBBING false).part? 63 = some (partX false) ∧ (partX false).scrubbed = false ∧ (partIn ptSCRUBBING false).partState 63 = ptSCRUBBING ∧
      (partIn ptSCRUBBING false).partBusy 63 = false) ∧
    ((partIn ptFENCED false).partState 63 = ptFENCED ∧ (partIn ptFENCED false).partBusy 63 = false ∧
      (partIn ptFENCED false).fld .flt F.FLT_STATE_STATE = hubNORMAL) ∧ (on.settled = true ∧ on.partState 0 ≠ ptFENCED) ∧
    (let s := on.setFld (.mem 0) (F.MEM_RANGE_SIZE 3) 1
     (s.memRange 0 0 3).1 * memGran ≤ memGran - 1 ∧ memGran - 1 < ((s.memRange 0 0 3).1 + (s.memRange 0 0 3).2) * memGran ∧
       (∀ i < 4, memGran < (s.memRange 0 0 i).1 * memGran ∨ ((s.memRange 0 0 i).1 + (s.memRange 0 0 i).2) * memGran ≤ memGran)) ∧
    ((room on).tarnAlloc 0 0).1 ≤ 255 ∧ 255 < ((room on).tarnAlloc 0 0).1 + ((room on).tarnAlloc 0 0).2 := by
  decide +kernel

theorem witness_RecordsSettleAndScrubsClear_quiet :
    let u := (((partIn ptSCRUBBING false).scrub 63).setPart 63 (some { partX false with scrubbed := true, placement := none })).showScrub
    63 ∉ u.quietParts := by
  decide +kernel

/-- The same whose quiet period is not over. -/
def partWaits : State := { partIn ptSCRUBBING false with quietParts := [63] }

theorem witness_RecordsSettleAndScrubsClear_waits :
    let s := partWaits
    let u := ((s.scrub 63).setPart 63 (some { partX false with scrubbed := true, placement := none })).showScrub
    63 ∈ u.quietParts ∧ s.part? 63 = some (partX false) ∧ s.partState 63 = ptSCRUBBING ∧ s.partBusy 63 = false := by
  decide +kernel
/-- The safe state after three recoveries; a confidential partition. -/
def thrice : State := { hub hubSAFE with recoveryTimes := [0, 0, 0] }
def conf5 : State := { on with parts := [(5, some ⟨[], 1, 4, 0, 0, true, [], [0], none, false, false, false⟩)] }

theorem witness_RecoveryWatchdogAndInjection :
    (on.settled = true ∧ on.fld .flt F.FLT_STATE_STATE ≠ hubSAFE ∧ on.fld .flt F.FLT_STATE_STATE ≠ hubRECOVERING) ∧
    ((hub hubSAFE).fld .flt F.FLT_STATE_STATE = hubSAFE ∧ (hub hubSAFE).recentRecoveries.length < 3 ∧
      3 ≤ thrice.recentRecoveries.length) ∧
    (hub hubRECOVERING).fld .flt F.FLT_STATE_STATE = hubRECOVERING ∧
    (∀ n ∈ [2, 3], let s := (on.setFld .flt F.FLT_WDOG_EN 1).setFld .flt F.FLT_WDOG_MISSES n
      s.flag .flt F.FLT_WDOG_EN = true ∧ s.mcReset = false ∧ s.fld .flt F.FLT_WDOG_MISSES = n) ∧
    (on.setFld .flt F.FLT_WDOG_EN 0).flag .flt F.FLT_WDOG_EN = false ∧ (on.setFld .flt F.FLT_WDOG_EN 0).settled = true ∧
    ((0xFA5 : Word).toNat % 256 = 0xA5 ∧ (0xA4 : Word).toNat % 256 ≠ 0xA5) ∧
    (∀ n ∈ [1, 2], let v : Word := BitVec.ofNat 32 (16 * n + 15)
      v.getLsbD 9 = false ∧ v.getLsbD 10 = false ∧ bits v.toNat 5 4 = n ∧ bits v.toNat 3 0 = 15) ∧
    (on.setFld .flt F.FLT_CFG_INJ_C4_EN 0).flag .flt F.FLT_CFG_INJ_C4_EN = false ∧ ((0x1E : Word).getLsbD 9 = false ∧ (0x1E : Word).getLsbD 10 = false ∧
      bits (0x1E : Word).toNat 5 4 = 1 ∧ bits (0x1E : Word).toNat 3 0 ≠ 15) ∧
    ((on.setFld .flt F.FLT_CFG_INJ_C4_EN 1).flag .flt F.FLT_CFG_INJ_C4_EN = true ∧ bits (0x1F : Word).toNat 3 0 = 15 ∧ bits (0x1F : Word).toNat 5 4 = 1) ∧
    conf5.isConf 5 = true ∧ bits (0xF : Word).toNat 5 4 = 0 ∧
    ((on.setFld (.msf 0) F.INJ_CTRL_MODE 1).fld (.msf 0) F.INJ_CTRL_MODE = 1 ∧ on.fld (.msf 0) F.INJ_CTRL_MODE ≠ 1 ∧
      on.flag (.msf 0) F.INJ_CTRL_ARMED = false) := by
  decide +kernel

theorem witness_RecoveryWatchdogAndInjection_plain : ∀ x, on.isConf x = false := fun _ => rfl
-- messages, weights, debug

/-- A message of a type with a body, and the same in a channel's slot. -/
def msg (t : Nat) (body : List Byte) : List Byte := leBytes t 2 ++ leBytes body.length 2 ++ List.replicate 12 0 ++ body
def posted (k : Fin 100) (b : List Byte) : State :=
  (inPhase phREADY).setChan k.val { h2d := { slot := Store.setList (fun _ => 0) [] 0 b, full := true } }

theorem witness_MessagesAreTakenAndAnswered :
    (∀ t ∈ [0x12, 0x13, 0x14, 0x11, 0x10], let s := posted 99 (msg t [])
      s.mgmtOn = true ∧ s.served (99 : Fin 100).val = true ∧ (s.chan (99 : Fin 100).val).h2d.full = true ∧ mType (s.chan (99 : Fin 100).val).h2d.bytes = t) ∧
    (∀ t ∈ [0x01, 0x20, 0x21, 0x22, 0x30, 0x31], let s := posted 0 (msg t [])
      s.mgmtOn = true ∧ s.served (0 : Fin 100).val = true ∧ (s.chan (0 : Fin 100).val).h2d.full = true ∧ mType (s.chan (0 : Fin 100).val).h2d.bytes = t) ∧
    (let s : State := { inPhase phREADY with i3c := some 9 }
     s.mgmtOn = true ∧ s.spUp = true ∧ s.i3c.isSome = true ∧ ∀ t ∈ [0x30, 0x31, 0x01, 0x20, 0x21, 0x22], mType (msg t []) = t) ∧
    (State.mgmtOn (inPhase phRAILS) = true ∧ (inPhase phRAILS).spUp = true ∧ phRAILS ≤ (inPhase phRAILS).boot.phase) ∧
    ({ member := some ⟨1, 0, false, 0, []⟩ : MsgEnv }.member = some ⟨1, 0, false, 0, []⟩ ∧ on.mcReset = false ∧ State.mcReset { on with mcReset := true } = true) ∧
    (on.chan 0).resps.length < 16 ∧ 16 ≤ ((on.setChan 0 { resps := List.replicate 16 [] }).chan 0).resps.length ∧ mFormOk (.mbx 0) (List.replicate 3 0) = false ∧
    (mFormOk (.mbx 0) (msg 2 [5]) = true ∧ on.carries (.mbx 0) (mType (msg 2 [5])) = false) ∧
    (on.settled = true ∧ on.served 4 = false) ∧ ((inPhase phREADY).settled = true ∧ ((inPhase phREADY).chan 0).h2d.full = false) ∧
    ((posted 0 (msg 0x10 [])).settled = true ∧ mType ((posted 0 (msg 0x10 [])).chan (0 : Fin 100).val).h2d.bytes ≠ 0x12) := by
  decide +kernel
def active : State := { part0 on with boot := { phase := phREADY } }

theorem witness_WeightsAndImagesNeedTheirProof :
    (active.part? 0 ≠ none ∧ active.partState 0 = ptNORMAL ∧ mType (msg 0x10 []) = 0x10 ∧ mBody (msg 0x10 []) = [] ∧
      mType (msg 0x13 [0]) = 0x13 ∧ (mBody (msg 0x13 [0])).length ≠ 24 ∧ mType (msg 0x12 [0]) = 0x12 ∧ (mBody (msg 0x12 [0])).length ≠ 4) ∧ on.part? 0 = none ∧
    (let k : WKey := ⟨7, 3, 0⟩
     let s := on.setWkey 0 true (some k)
     s.wkey 0 true = some k ∧ k.epoch = 3 ∧ k.epoch ≠ 4) ∧
    (mType (msg 0x20 (leBytes 0x1000000 4)) = 0x20 ∧ (mBody (msg 0x20 (leBytes 0x1000000 4))).length = 4 ∧ imgNat (mBody (msg 0x20 (leBytes 0x1000000 4))) 0 4 ≤ 0x1000000) ∧
    (mType (msg 0x21 (List.replicate 240 1)) = 0x21 ∧ (mBody (msg 0x21 (List.replicate 240 1))).length ≤ 240 ∧
      mArg (msg 0x21 (List.replicate 240 1)) + (mBody (msg 0x21 (List.replicate 240 1))).length ≤ 0x1000000) ∧ on.rcv = none ∧
    ({ on with rcv := some 4 } : State).rcv ≠ none ∧ (mType (msg 0x22 []) = 0x22 ∧ mBody (msg 0x22 []) = []) ∧ on.boot.phase ≠ phRECOVERY := by
  decide +kernel

/-- A page read from another package's memory, where none of its bytes is listed. -/
def farAt : Nat := 0x20000000000
def farPage : List Byte := Obs.farGet {} farAt 65600

/-- The state once the page has been asked for. -/
def farAsked (s : State) : State := s.emit (.farRead 0 farAt 65600)

theorem readBoard_far (s : State) (h : s.pos = 0) : s.readBoard 0 { part := some 0 } 0 farAt 65600 {} = (farAsked s, .ok, farPage) := by
  have p : placeOf farAt = .mem 1 0 0 := by decide +kernel
  have m : extentMapped farAt 65600 = true := by decide +kernel
  simp only [State.readBoard, p, h, m]
  rfl

theorem witness_WeightsAndImagesNeedTheirProof_noKey :
    on.readBoard 0 { part := some 0 } 0 farAt 65600 {} = (farAsked on, .ok, farPage) ∧ (farAsked on).wkey 0 false = none ∧ (farAsked on).wkey 0 true = none :=
  ⟨readBoard_far on rfl, rfl, rfl⟩

/-- A key of the page's image and of its epoch or of another. -/
def keyFor (e : BitVec 16) : State := { on with wkeys := [(0, some ⟨BitVec.ofNat 64 (imgNat farPage 0 8), e, 0⟩)] }

theorem witness_WeightsAndImagesNeedTheirProof_epoch :
    ∃ s u : State, s.readBoard 0 { part := some 0 } 0 farAt 65600 {} = (u, .ok, farPage) ∧
      (∀ b k, u.wkey 0 b = some k → k.epoch ≠ BitVec.ofNat 16 (imgNat farPage 12 2)) ∧ ∃ b, u.wkey 0 b ≠ none := by
  refine ⟨keyFor (BitVec.ofNat 16 (imgNat farPage 12 2) + 1), _, readBoard_far _ rfl, ?_, false, by simp [farAsked, keyFor, State.emit, State.wkey, Store.get]⟩
  intro b k h
  cases b
  · have e : (⟨BitVec.ofNat 64 (imgNat farPage 0 8), BitVec.ofNat 16 (imgNat farPage 12 2) + 1, 0⟩ : WKey) = k := Option.some.inj h
    subst e
    intro x
    have y : ∀ v : BitVec 16, v + 1 ≠ v := fun v => by bv_omega
    exact y _ x
  · exact absurd h (by simp [farAsked, keyFor, State.emit, State.wkey, Store.get])

theorem witness_WeightsAndImagesNeedTheirProof_fits :
    ∃ (s u : State) (k : WKey), s.readBoard 0 { part := some 0 } 0 farAt 65600 {} = (u, .ok, farPage) ∧ u.wkey 0 false = some k ∧
      k.epoch = BitVec.ofNat 16 (imgNat farPage 12 2) ∧ k.image = BitVec.ofNat 64 (imgNat farPage 0 8) :=
  ⟨keyFor (BitVec.ofNat 16 (imgNat farPage 12 2)), _, _, readBoard_far _ rfl, rfl, rfl, rfl⟩

/-- No key in the partition's weight region, where it has none. -/
theorem witness_WeightsAndImagesNeedTheirProof_range : on.inWeights 0 (partX false) 0 (65536 * 1) = false := by decide +kernel

/-- A bundle of one entry for the device of serial 1: image 7, epoch 3, the set digest, and the entry's tag. -/
def bundleOf (set tag : List Byte) : List Byte :=
  (leBytes 7 8 ++ leBytes 3 2 ++ leBytes 1 2 ++ List.replicate 4 0) ++ (set ++ (leBytes 1 16 ++ (List.replicate 64 0 ++ tag)))

theorem bundle_tail (set tag : List Byte) (h : set.length = 64) : (bundleOf set tag).drop 80 = leBytes 1 16 ++ (List.replicate 64 0 ++ tag) := by
  rw [bundleOf, show 80 = (leBytes 7 8 ++ leBytes 3 2 ++ leBytes 1 2 ++ List.replicate 4 (0 : Byte)).length + 64 by decide, List.drop_length_add_append, ← h,
    List.drop_left]

theorem bundle_set (set tag : List Byte) (h : set.length = 64) : ((bundleOf set tag).drop 16).take 64 = set := by
  rw [bundleOf, show 16 = (leBytes 7 8 ++ leBytes 3 2 ++ leBytes 1 2 ++ List.replicate 4 (0 : Byte)).length by decide, List.drop_left, ← h, List.take_left]

theorem bundle_count (set tag : List Byte) : imgNat (bundleOf set tag) 10 2 = 1 := by
  rw [imgNat, bundleOf, List.drop_append_of_le_length (by decide), List.take_append_of_le_length (by decide)]
  decide

theorem leNat_leBytes (n v : Nat) : leNat (leBytes v n) = v % 256 ^ n := by
  induction n generalizing v with
  | zero => simp [leBytes, leNat, Nat.mod_one]
  | succ n ih =>
    have h := ih (v >>> 8)
    rw [leBytes, leNat, h, BitVec.toNat_ofNat, Nat.shiftRight_eq_div_pow,
      show 256 ^ (n + 1) = 256 * 256 ^ n from by rw [Nat.pow_succ, Nat.mul_comm], Nat.mod_mul]

theorem leBytes_length (n v : Nat) : (leBytes v n).length = n := by
  induction n generalizing v with
  | zero => rfl
  | succ n ih => simp [leBytes, ih]

theorem leBytes_back (n : Nat) (w : BitVec (8 * n)) : leNat (leBytes w.toNat n) = w.toNat := by
  rw [leNat_leBytes, show (256 : Nat) = 2 ^ 8 from rfl, ← Nat.pow_mul]
  exact Nat.mod_eq_of_lt w.isLt

/-- The entry wraps its key under whatever tag the device computes of it, which the set digest does not enter. -/
theorem unwrap_tag (s : State) (set : List Byte) (hs : set.length = 64) :
    ∃ t : BitVec 128, ∃ k, s.unwrap (bundleOf set (leBytes t.toNat 16)) ((bundleOf set (leBytes t.toNat 16)).drop 80) = (k, true) := by
  let e : List Byte := leBytes 1 16 ++ List.replicate 64 0
  let epk : BitVec 256 := BitVec.ofNat 256 (imgNat e 16 32)
  let kek : BitVec 256 := BitVec.ofNat 256 (imgNat (Config.hkdf (leBytes (Config.x25519 s.wrapPriv epk).toNat 32)
    (leBytes epk.toNat 32 ++ leBytes (Config.x25519 s.wrapPriv 9).toNat 32) (asciiBytes "GY880 weight wrap" ++ (leBytes 7 8 ++ leBytes 3 2)) 32) 0 32)
  let pt := Config.gcmCrypt kek 0 ((e.drop 48).take 32)
  refine ⟨Config.gcmTag kek 0 [] pt, BitVec.ofNat 256 (imgNat pt 0 32), ?_⟩
  generalize ht : Config.gcmTag kek 0 [] pt = t
  rw [bundle_tail _ _ hs]
  refine Prod.ext rfl ?_
  have l : imgNat (leBytes 1 16 ++ (List.replicate 64 0 ++ leBytes t.toNat 16)) 80 16 = t.toNat := by
    have d : (leBytes 1 16 ++ (List.replicate 64 (0 : Byte) ++ leBytes t.toNat 16)).drop 80 = leBytes t.toNat 16 := rfl
    rw [imgNat, d, List.take_of_length_le (Nat.le_of_eq (leBytes_length _ _)), leNat_leBytes]
    exact Nat.mod_eq_of_lt t.isLt
  show (BitVec.toNat _ == _) = true
  rw [l]
  exact beq_iff_eq.mpr (congrArg BitVec.toNat ht)

theorem bundle_entry (set tag : List Byte) (hs : set.length = 64) (h : tag.length = 16) :
    bundleEntry (bundleOf set tag) on.fuses.serial = some ((bundleOf set tag).drop 80) := by
  have i : imgNat (leBytes 1 16 ++ (List.replicate 64 0 ++ tag)) 0 16 = 1 := by
    rw [imgNat, List.drop_zero, List.take_append_of_le_length (by decide)]
    decide
  have w : (leBytes 1 16 ++ (List.replicate 64 0 ++ tag)).take 96 = leBytes 1 16 ++ (List.replicate 64 0 ++ tag) :=
    List.take_of_length_le (by simp [leBytes_length, h])
  have r : List.range 1 = [0] := rfl
  simp only [bundleEntry, bundle_count, r, List.map_cons, List.map_nil, Nat.mul_zero, Nat.add_zero, bundle_tail _ _ hs, w, List.find?_cons, i]
  rfl

/-- The set of the bundle: its one serial, with this device's wrap key. -/
theorem bundle_members (set tag : List Byte) (hs : set.length = 64) :
    on.bundleSet (bundleOf set tag) [] = [(1, Config.x25519 on.wrapPriv 9)] := by
  have i : imgNat (bundleOf set tag) (80 + 96 * 0) 16 = 1 := by
    rw [imgNat, bundle_tail _ _ hs, List.take_append_of_le_length (by decide)]
    decide
  have r : List.range 1 = [0] := rfl
  simp only [State.bundleSet, bundle_count, r, List.map_cons, List.map_nil, i]
  rfl

theorem import_ok {s : State} {p : Part} {b e set : List Byte} {l : List (BitVec 128 × BitVec 256)} {d : BitVec 512} {k : BitVec 256}
    (he : bundleEntry b s.fuses.serial = some e) (hd : setDigest (s.bundleSet b l) = d)
    (hs : (imgNat ((b.drop 16).take 64) 0 64 != d.toNat || (b.drop 16).take 64 != set || imgZero set 0 64) = false) (hu : s.unwrap b e = (k, true))
    (hk : s.wkey p false = none) : ∃ t, s.wkeyImport p set b l = (t, .ok) := by
  refine ⟨(s.wkeyImport p set b l).1, Prod.ext rfl ?_⟩
  simp only [State.wkeyImport, he, hd, hs, hu, hk, keyUpdate, Bool.false_eq_true, if_false, Bool.not_true]

/-- An import that is OK. Whether a digest is zero nothing here decides, Config.sha512 being opaque; a set digest of zero is one that no partition names. -/
theorem witness_WeightsAndImagesNeedTheirProof_key (h : imgZero (leBytes (setDigest [(1, Config.x25519 on.wrapPriv 9)]).toNat 64) 0 64 = false) :
    ∃ set b t, on.wkeyImport 0 set b [] = (t, .ok) := by
  generalize hd : setDigest [(1, Config.x25519 on.wrapPriv 9)] = d at h
  have l : (leBytes d.toNat 64).length = 64 := leBytes_length _ _
  obtain ⟨tag, k, u⟩ := unwrap_tag on _ l
  have n : imgNat (leBytes d.toNat 64) 0 64 = d.toNat := by
    rw [imgNat, List.drop_zero, List.take_of_length_le (Nat.le_of_eq l), leBytes_back 64 d]
  exact ⟨leBytes d.toNat 64, bundleOf (leBytes d.toNat 64) (leBytes tag.toNat 16),
    import_ok (bundle_entry _ _ l (leBytes_length _ _)) ((congrArg setDigest (bundle_members _ _ l)).trans hd) (by simp [bundle_set _ _ l, n, h]) u rfl⟩
theorem witness_DebugNeedsAToken :
    (on.spUp = true ∧ on.settled = true) ∧ ((on.setFld .rst F.RST_STATUS_IN_RESET 0x100).settled = true ∧ (on.setFld .rst F.RST_STATUS_IN_RESET 0x100).spUp = false) ∧
    (let b : List Byte := leBytes 1 16 ++ List.replicate 32 0 ++ [1] ++ List.replicate 143 0 ++ leBytes 7 4 ++ leBytes 1 8
     let s : State := { on with plan := plan0 }
     s.tokenOk b true true = true ∧ s.tokenOk b false true = false ∧ imgNat [] 196 8 ≤ Store.get (fun _ => 0) on.dbgCounters (imgNat [] 192 4)) ∧
    (let s : State := { inPhase phMGMT with i3c := some 9 }
     s.mgmtOn = true ∧ s.spdmUp = true ∧ s.i3c.isSome = true) ∧ conf5.anyConf = true ∧ ({ on with fuses := { lifecycle := 2 } } : State).fuses.lifecycle ≠ 1 := by
  decide +kernel
-- the host

def vfUp : State := (part0 on).setFld .pci (F.PCI_VF_ENABLED 0) 1

theorem witness_Bar2AccessesWaitAndSplit :
    (vfUp.mgmtOn = true ∧ vfUp.vfOn 0 = true ∧ vfUp.winOpen 0 = true ∧ bar2Form (63 : BitVec 43).toNat (List.replicate 65 (0 : Byte)).length 512 = true ∧
      bar2Form (0x1000 : BitVec 43).toNat (4096 : Fin 4097).val 4096 = true ∧
      bar2Form (0xFFF : BitVec 43).toNat 2 512 = false ∧ bar2Form 0 513 512 = false ∧ vfUp.settled = true) ∧
    (let s := vfUp.setPartState 0 ptFENCED
     s.mgmtOn = true ∧ s.settled = true ∧ s.vfOn 0 = true ∧ s.winOpen 0 = false) ∧ (on.settled = true ∧ on.vfOn 0 = false) ∧
    (let s : State := { vfUp.setFld .pci F.PCI_STATUS_FATAL 1 with bar2 := [{ id := 0, part := 0, write := false, addr := 0, len := 64, data := [] }] }
     s.flag .pci F.PCI_STATUS_FATAL = true ∧ s.bar2 ≠ []) := by
  decide +kernel
theorem witness_HostResetsAndMailboxes :
    (on.mgmtOn = true ∧ (0 : Fin 4).val < on.nparts ∧ on.inReset pd0 = false ∧ vfUp.inReset pd0 = false ∧ vfUp.partOf 0 = (0 : Fin 4).val) ∧
    (let s : State := { on with boot := { pkgPres := 1 } }
     s.partOf 63 ≠ (0 : Fin 4).val ∧ s.settled = true ∧ s.nparts ≤ (2 : Fin 4).val ∧ s.vfOn 0 = false) ∧ on.flag .pci F.PCI_STATUS_LINK_UP = false ∧ on.linkDark = false ∧
    (let s : State := { on with pos := 1, straps := { on.straps with hostPresEn := true }, boot := { boardPres := true } }
     s.pos ≠ 0 ∧ s.straps.hostPresEn = true ∧ s.boot.boardPres = true ∧ s.settled = true) ∧
    (let s := on.setChan 35 { h2d := { full := true } }
     s.mgmtOn = true ∧ (on.hostChan 0 = true ∧ (on.chan 0).h2d.full = false) ∧ (s.chan 35).h2d.full = true ∧
       ({ s with boot := { pkgPres := 2 } } : State).hostChan 35 = true) ∧
    ((99 : Fin 100).val = 36 + (63 : Part).val ∧ (36 : Fin 100).val = 36 + (0 : Part).val ∧ vfUp.vfOn 0 = true ∧ vfUp.hostChan 36 = true) ∧
    (let s := (inPhase phREADY).setChan 99 { resps := [[1], [2]] }
     s.served (99 : Fin 100).val = true ∧ (s.chan (99 : Fin 100).val).d2h.full = false ∧ (s.chan (99 : Fin 100).val).resps = [[1], [2]]) ∧
    (on.settled = true ∧ on.served 4 = false) := by
  decide +kernel
/-- A package at a position of its board, with the session of the relay. -/
def sess0 : Session := { serial := 0, primary := false, top := 70, window := 1 }
def boardAt (n : Nat) : State := { inPhase phREADY with pos := n, boot := { phase := phREADY, boardPres := true }, boardSess := [(0, some sess0)] }
def askedRelay : RelayOut := { pos := 1, ctr := 5, accs := [⟨0, false, 0, none⟩], sent := true }
def mgtTo (d e : Nat) : MgtIn := { k := 1, pkt := { authPkt 0 0x02 0 [] 1 with dst := Coord.mk 0 d e } }

theorem witness_RelayAndSideBandsAnswer :
    (on.settled = true ∧ on.boot.phase < phRAILS) ∧
    (let s := boardAt 3
     s.mgmtOn = true ∧ s.settled = true ∧ s.mcReset = false ∧ phRAILS ≤ s.boot.phase ∧ s.pos ≠ 0 ∧ s.boot.boardPres = true ∧
       (List.replicate 64 askedRelay.accs).flatten.length ≤ 64 ∧ (List.replicate 64 askedRelay.accs).flatten ≠ [] ∧ Store.get (fun _ => none) s.boardSess 0 = some sess0 ∧
       (sess0.judge (71 : BitVec 64).toNat).runs = true ∧ (sess0.judge (7 : BitVec 64).toNat).runs = true ∧ sess0.judge (6 : BitVec 64).toNat = .stale ∧
       (sess0.mark 71 [1, 2, 3, 4]).judge (71 : BitVec 64).toNat = .cached [1, 2, 3, 4]) ∧
    (let s : State := { boardAt 0 with relayOut := [askedRelay] }
     s.relayOut.find? (fun r => r.pos == (1 : Fin 4).val) = some askedRelay ∧ askedRelay.sent = true ∧ askedRelay.ctr = (5 : BitVec 64).toNat) ∧
    (let s := inPhase phRAILS
     s.mgmtOn = true ∧ phRAILS ≤ s.boot.phase ∧ s.mcReset = false ∧ s.spUp = true ∧ s.eid = 0 ∧ ({ s with i3c := some 9 } : State).i3c.isSome = true) ∧
    ((mgtTo 8 1).pkt.dst.d = 8 ∧ (mgtTo 8 1).pkt.dst.e = 1 ∧ (mgtTo 8 2).pkt.dst.d = 8 ∧ (mgtTo 8 2).pkt.dst.e = 2 ∧ (mgtTo 9 1).pkt.dst.d ≠ 8) ∧
    (on.spUp = true ∧ (5 : BitVec 8) ≠ 0 ∧ (5 : BitVec 8) ≠ on.eid ∧ on.i3c = none ∧ on.spdmUp = false ∧ (inPhase phMGMT).spdmUp = true) := by
  decide +kernel
-- clocks, events, time and reset

theorem witness_ReferenceIsHeldOver :
    (let s := (on.setFld (.clk pd0) F.CLK_STATUS_REF_PRESENT 1).setFld (.clk pd0) F.CLK_STATUS_REFLOST_MODE 0
     s.mgmtOn = true ∧ s.fld (.clk pd0) F.CLK_STATUS_REF_PRESENT = 1 ∧ s.fld (.clk pd0) F.CLK_STATUS_REFLOST_MODE = 0) ∧
    ((on.setFld (.clk pd0) F.CLK_STATUS_HOLDOVER 1).fld (.clk pd0) F.CLK_STATUS_HOLDOVER = 1 ∧ on.settled = true ∧ on.fld (.clk pd0) F.CLK_STATUS_HOLDOVER = 0) ∧
    (∀ d ∈ [pd0, 0], (on.setFld (.clk d) F.CLK_STATUS_LOCK 1).fld (.clk d) F.CLK_STATUS_LOCK = 1) ∧ (0 : Die) ≠ pd0 := by
  decide +kernel
/-- An event page in a mode, line 0 enabled, with a count. -/
def evtAt (en mode line n : Nat) : State :=
  (((on.setFld (.msf 0) F.BLK_CTRL_ENABLE en).setFld (.msf 0) F.BLK_CTRL_EVT_XMODE mode).setFld (.msf 0) ⟨F.EVT_ENABLE_EN.off, 0, 1⟩ line).setFld (.msf 0) F.EVT_COUNT_COUNT n

theorem witness_EventLinesCross :
    ((evtAt 0 0 0 0).settled = true ∧ (evtAt 0 0 0 0).fld (.msf 0) F.BLK_CTRL_ENABLE = 0 ∧ (Page.msf 0).nevt ≤ (31 : Fin 32).val) ∧
    (∀ m ∈ [0, 1], let s := evtAt 1 m 1 0
     s.settled = true ∧ (0 : Fin 32).val < (Page.msf 0).nevt ∧ s.fld (.msf 0) F.BLK_CTRL_ENABLE = 1 ∧ s.fld (.msf 0) F.BLK_CTRL_EVT_XMODE = m) ∧
    ((evtAt 1 1 0 7).flag (.msf 0) ⟨F.EVT_ENABLE_EN.off, 0, 1⟩ = false) ∧
    (∀ n ∈ [0xFFFE, 0xFFFF], let s := evtAt 1 1 1 n
     s.flag (.msf 0) ⟨F.EVT_ENABLE_EN.off, 0, 1⟩ = true ∧ s.fld (.msf 0) F.EVT_COUNT_COUNT = n) := by
  decide +kernel
/-- The ridge line's correction. -/
def ridgeAt (h : Nat) (sl : Int) (ph : Nat) : State := { on with ridge := { hold := h, slew := sl, phase := ph } }

theorem witness_TicksAdvanceGtime :
    ((ridgeAt 1 0 0).mgmtOn = true ∧ (ridgeAt 1 0 0).pending = [] ∧ (ridgeAt 1 0 0).ridge.hold ≠ 0) ∧
    ((ridgeAt 0 5 1022).ridge.hold = 0 ∧ (ridgeAt 0 5 1022).ridge.slew ≠ 0 ∧ (ridgeAt 0 5 1022).ridge.phase < 1023) ∧
    (0 < (ridgeAt 0 5 1023).ridge.slew ∧ (ridgeAt 0 (-5) 1023).ridge.slew < 0 ∧ (ridgeAt 0 5 1023).ridge.phase = 1023) ∧
    (on.settled = true ∧ on.inReset 9 = false ∧ (9 : Die) ∉ on.fencedDies) ∧ (9 : Die) ∈ ({ on with fencedDies := [9] } : State).fencedDies := by
  decide +kernel
/-- The ridge line open; a master's, and a receiver's that has a D and has or has not applied a MARKER. -/
def ridgeMaster : State := ((inPhase phREADY).setFld .tim F.TIM_STATUS_MASTER 1).setFld (.pwr pd0) F.PWR_MGS_A_OK 1
def ridgeRx (app : Bool) : State := { (inPhase phREADY).setFld (.pwr pd0) F.PWR_MGS_A_OK 1 with ridge := { prevD := some 100, applied := app } }

theorem witness_RidgeFramesAct :
    (ridgeMaster.settled = true ∧ ridgeMaster.flag .tim F.TIM_STATUS_MASTER = true ∧ ridgeMaster.ridgeOpen = true ∧ (ridgeMaster.now pd0).toNat % 0x100000 = 0 ∧ (State.now { on with gtime := [(8, 1)] } pd0).toNat % 0x100000 ≠ 0) ∧
    (on.settled = true ∧ on.ridgeUp = false ∧ on.ridgeOpen = false) ∧
    (∀ b ∈ [false, true], let s := ridgeRx b
     s.settled = true ∧ s.mgmtOn = true ∧ s.ridgeUp = true ∧ s.ridgeOpen = true ∧ s.flag .tim F.TIM_STATUS_MASTER = false ∧ s.ridge.prevD = some 100 ∧ s.ridge.applied = b) ∧
    (nearD 104 100 = true ∧ nearD 105 100 = false ∧ (104 : BitVec 32) ≠ 0xFFFFFFFF ∧ ∀ e, (inPhase phREADY).ridge.prevD ≠ some e) ∧
    (markerOff 0 100 50 50 = 0 ∧ markerOff 0 100 98 0 = -1 ∧ 0 < markerOff 0 100 51 51 ∧ 48 < markerOff 0 100 99 99 ∧ (markerOff 0 100 98 98).natAbs ≤ 48 ∧
      markerOff 0 200 51 51 < -48) ∧
    (let m : BitVec 64 := BitVec.twoPow 64 (inPhase phREADY).rackBit
     m.getLsbD (inPhase phREADY).rackBit = true ∧ (~~~m).getLsbD (inPhase phREADY).rackBit = false) := by
  refine ⟨by decide +kernel, by decide +kernel, by decide +kernel, ⟨by decide +kernel, by decide +kernel, by decide +kernel, ?_⟩, by decide +kernel, by decide +kernel⟩
  intro e h
  cases h
theorem witness_DiesEnterAndLeaveReset :
    (on.inReset 0 = false ∧ (0 : Die) ∉ on.fencedDies ∧ Die.cd? (0 : Die) = some 0 ∧ (0 : CDie) ∉ on.memFenced ∧ Page.die (.vcx 0) = (0 : Die) ∧
      Page.ptype (.vcx 0) ≠ .clk ∧ Page.ptype (.vcx 0) ≠ .d2d) ∧
    ({ on with mcReset := true } : State).mcReset = true ∧ ({ on with fwStaged := true, codeStaged := some 3 } : State).codeStaged = some 3 ∧
    (∀ n ∈ [1, 2], (on.setFld .smt F.SMT_STATE_PAIR n).fld .smt F.SMT_STATE_PAIR = n) ∧
    (let s := on.setFld .rst F.RST_STATUS_IN_RESET 0x201
     s.mgmtOn = true ∧ s.inReset 0 = true ∧ s.inReset 9 = true ∧ Die.cd? (9 : Die) = none ∧ (9 : Die) ≠ pd0) ∧ (on.settled = true ∧ on.mcReset = false) ∧
    (let s := ((inPhase phREADY).setFld (.mem 0) F.BLK_STATUS_READY 0).setFld (.mem 0) (F.MEM_STACK_STATE 2) skTRAINING
     s.dieDown 0 = false ∧ (0 : CDie) ∉ s.memFenced ∧ s.flag (.mem 0) F.BLK_STATUS_READY = false ∧ s.fld (.mem 0) (F.MEM_STACK_STATE 2) = skTRAINING ∧
       s.boot.phase ≠ phFABRIC_MEMORY) := by
  decide +kernel
-- registers, and the step

/-- The first counter of MSF page 3, and requesters that may and may not write it. -/
theorem witness_RegistersReadAndWrite :
    (pageOf 0xFFFFFFC = none ∧ pageOf 8 ≠ none ∧ ((inPhase phREADY).pageServed (.fn (.vf 0)) (.msf 3)) = false) ∧
    ((Page.msf 3).ptype ≠ .mbx ∧ on.pageServed .mc (.msf 3) = true ∧ (Page.msf 3).ptype.isLo 0x120 = true ∧ ((Page.msf 3).reg? 0x120).isSome = true ∧
      ((Page.msf 3).reg? (0x120 + 4)).isSome = true) ∧
    (let s := on.setFld .sec F.SEC_STATUS_DEBUG 1
     s.settled = true ∧ Requester.host? .mc = none ∧ Requester.mayWrite .mc (.msf 3) 0x124 = true ∧ Requester.host? .debug = none ∧
      Requester.mayWrite .debug (.rtr 3) 0x100 = false ∧ ((Page.msf 3).reg? 0x124).any (·.isCounterHi) = true ∧ s.mgmtOn = true) := by
  decide +kernel
theorem witness_StepRunsTheFrontCommand :
    ({ on with pending := [.refclkLoss, .refclkReturn] } : State).pending = .refclkLoss :: [.refclkReturn] ∧ on.pending = [] ∧ State.reset.mgmtOn = false ∧
      State.reset.pending = [] ∧ (∀ b o f, Instr.refclkLoss ≠ .mgmtPowerOn b o f) :=
  ⟨rfl, rfl, rfl, rfl, fun _ _ _ h => by cases h⟩
theorem witness_StepsKeepTheMemoryForm : State.reset.memWf = true ∧ on.memWf = true := by decide
/-- Two waiting commands; the first serves the other. -/
def twoWait : State := { on with pending := [.refclkLoss, .refclkReturn] }

theorem witness_StepsKeepTheQueueWellFormed : twoWait.pending.all Instr.wf = true := rfl
theorem test_step_takes_the_front : ∃ t, step twoWait = .next t ∧ t.pending = [.refclkReturn] := ⟨_, rfl, by decide +kernel⟩
-- what the well-formedness checks refuse

theorem test_wf_refuses_trainingWord (w : TrainWord) : (Instr.trainingWord 18 4 w false false).wf = false := rfl
theorem test_wf_refuses_trainComplete : (Instr.trainComplete 0 []).wf = false := by decide
theorem test_wf_refuses_alignComplete : (Instr.alignComplete 0 []).wf = false := by decide

/-- A frame of more than 256 slots, of a short slot, without a port's lanes, and with a codeword of no form. -/
theorem test_wf_refuses_frameReceive :
    (Instr.frameReceive 0 ⟨0, List.replicate 257 (List.replicate 64 0), 0, List.replicate 8 []⟩).wf = false ∧ (Instr.frameReceive 0 ⟨0, [[0]], 0, List.replicate 8 []⟩).wf = false ∧
      (Instr.frameReceive 0 ⟨0, [], 0, []⟩).wf = false ∧ (Instr.frameReceive 0 ⟨0, [], 0, List.replicate 8 [⟨545, 545⟩]⟩).wf = false ∧
      (Instr.frameReceive 0 ⟨0, [], 0, List.replicate 8 [⟨544, 544⟩]⟩).wf = true := by
  decide +kernel
theorem test_wf_refuses_d2dFlitReceive : (Instr.d2dFlitReceive .flt ⟨true, List.replicate 200 0⟩).wf = false ∧ (Instr.d2dFlitReceive (.d2dC 0 .toPd0) ⟨true, []⟩).wf = false := by
  decide +kernel
theorem test_wf_refuses_signalDetect : (Instr.signalDetect ⟨23, [0]⟩).wf = false := by decide
theorem test_wf_refuses_laser : (Instr.laserLoss 0 ⟨0, []⟩).wf = false ∧ (Instr.laserOkChange 0 ⟨0, []⟩).wf = false := by decide
theorem test_wf_refuses_laneLossOfLock : (Instr.laneLossOfLock 18 4).wf = false := by decide
theorem test_wf_refuses_d2dPortFail : (Instr.d2dPortFail .flt true).wf = false := by decide
theorem test_wf_refuses_refreshPoll : (Instr.refreshPoll 0 []).wf = false := by decide

/-- No command to a management complex has a body past a data packet's 2,048 bytes. -/
theorem test_wf_refuses_mcForm :
    let b : List Byte := List.replicate 2049 0
    ([Instr.mgrClaim b, .sliceJoin b, .sliceLeave b, .sliceStop b, .pwrSet b, .wsRead b, .distOpen b, .distData b, .distStatus b, .distActivate b, .distAbort b,
      .setMaster b, .readXfer b, .timAdj b, .timStop b, .timWake b].map Instr.wf).all (· == false) = true := by
  decide +kernel

theorem test_wf_refuses_sliceAlloc : (Instr.sliceAlloc ⟨7, 1, true⟩ 0 1 0 0 0 0 []).wf = false := by decide
theorem test_wf_refuses_powerEstimate : (Instr.powerEstimate [] 0).wf = false := by decide
theorem test_wf_refuses_powerMeasure : (Instr.powerMeasure [] 0 []).wf = false := by decide
theorem test_wf_refuses_injCtrlWrite : (Instr.injCtrlWrite .flt 0).wf = false := by decide

/-- No message fills more than the 240 bytes of a mailbox's body. -/
theorem test_wf_refuses_msgForm :
    let b : List Byte := List.replicate 241 0
    ([Instr.wkeyImport (.mbx 36) b {}, .wimport (.mbx 36) b {}, .wkeyRetire (.mbx 36) b {}, .mdlPlace (.mbx 36) b {}, .vfInfo (.mbx 36) b {}, .bootStatus (.mbx 0) b {},
      .rcvBegin (.mbx 0) b {}, .rcvData (.mbx 0) b {}, .rcvEnd (.mbx 0) b {}, .dbgChallenge (.mbx 0) b {}, .dbgToken (.mbx 0) b {}].map Instr.wf).all (· == false) = true := by
  decide +kernel

theorem test_wf_refuses_bar2Write : (Instr.bar2Write 0 4095 [0, 0]).wf = false := by decide
theorem test_wf_refuses_bar2Read : (Instr.bar2Read 0 0 0).wf = false := by decide
theorem test_wf_refuses_eventLineCross : (Instr.eventLineCross (.msf 0) 2 false).wf = false := by decide
theorem test_wf_refuses_loReadLatch : (Instr.loReadLatch .mc (.bar0 8) 0).wf = false := by decide
theorem test_wf_refuses_counterOvfClear : (Instr.counterOvfClear .mc .flt 4).wf = false := by decide

-- the spec's worked examples

/-- 00: the coordinate 0x0512_3600, and the first byte of position 1's window. -/
theorem test_coordinate : Coord.mk 0x05123 6 0 = 0x05123600 ∧ placeOf 0x20000000000 = .mem 1 0 0 := by decide +kernel

/-- 02, worked examples: an MXFP4 block, and its conversion to binary16. -/
theorem test_mxfp4_block :
    (([(3, 4), (13, 1), (7, 2)].map (fun e => mulEl (Fmt.mxfp4.decode e.1).1 (Fmt.mxfp4.decode e.2).1)).foldl BlockSum.add {}).m = 30 ∧
      quantise 30 (-2 + (Fmt.mxfp4.scale 0x7E).exp + (Fmt.mxfp4.scale 0x81).exp) (-4) = (240, false, false) ∧
      convFloat .fp16 .rne (.fin (Ex.dy 240 (-4)) false) = (0x4B80, {}) := by
  decide +kernel

/-- 02: three contributions sum to 11 in every order. -/
theorem test_order_independence :
    quantise (2 ^ 30) 0 (-4) = (17179869184, false, false) ∧ quantise 45 (-6) (-4) = (11, true, false) ∧ quantise (-(2 ^ 30)) 0 (-4) = (-17179869184, false, false) ∧
      A128.add (some 17179869195) (some (-17179869184)) = (some 11, false) := by
  decide +kernel

/-- 02: auto-anchor of an MXFP8 sweep. -/
theorem test_auto_anchor :
    anchorRule (Fmt.e4m3.scaleExp 0x78) (Fmt.e4m3.scaleExp 0x85) (tensorExp .e4m3 0) (tensorExp .e4m3 0) Fmt.e4m3.boundM Fmt.e4m3.boundM 32 128 = -97 := by
  decide +kernel

/-- 04: the phase of a pair at position 16,777,213. -/
theorem test_rope_phase : ropePhase (leBytes 0x1000000000000000 8) 0 16777213 = 0xD0000000 := by decide +kernel

/-- 06: board address 0x0000_0254_0000_1A40. -/
theorem test_board_address : placeOf 0x25400001A40 = .mem 1 1 0x2400001A40 ∧ 0x2400001A40 / memGran = 576 := by decide +kernel

/-- 08: bytes 0–3, 12–15 of the remote write, of its ACK and of the closing signal. -/
theorem test_packet_words :
    let w : Packet := { cls := true, mc := 1, len := 32, op := opWRITE, dst := Coord.mk 0x05223 5 0, src := Coord.mk 0x05123 2 0, part := 5, xid := 0x1A00 }
    leNat (w.head.take 4) = 0x01800031 ∧ leNat ((w.head.drop 4).take 4) = 0x05223500 ∧ leNat ((w.head.drop 8).take 4) = 0x05123200 ∧ leNat ((w.head.drop 12).take 4) = 5 ∧
      leNat ((w.reply w.dst opACK 0 []).head.take 4) = 0x41000041 ∧ (w.reply w.dst opACK 0 []).dst = w.src ∧
      leNat (Packet.head { mc := 1, fnc := true, op := opSIGNAL } |>.take 4) = 0x05000221 := by
  decide +kernel

/-- 11: the members of the two-rack slice at (4, 2, 3). -/
theorem test_slice_members :
    let x : SliceRec := { id := 0, part := 0, kind := 1, c0 := 4, cmask := 1, x0 := 2, y0 := 3, a := 3, b := 2 }
    let l := (subMasks 1).flatMap (fun m => (List.range 3).map (fun i => ixOf (x.c0 ^^^ m) ((x.x0 + i) % 4) x.y0 0))
    l = [ixOf 4 2 3 0, ixOf 4 3 3 0, ixOf 4 0 3 0, ixOf 5 2 3 0, ixOf 5 3 3 0, ixOf 5 0 3 0] ∧ torusDist (ixOf 4 2 3 0) (ixOf 4 0 0 0) = 3 := by
  decide +kernel

/-- 12: eight dies share a cap of 2,400 W under an uncore of 438 W, and seven do once CD3 is fenced. -/
def capped (l : List Die) : State := { on.setFld (.pwr pd0) F.PKG_CAP_WATTS 2400 with pkgPower := { uncMax := [3504] }, fencedDies := l }
theorem test_share_of_the_cap :
    (capped []).shareCap.fld (cdPwr 7) F.PWR_LIMIT_WATTS = 242 ∧ (capped [CDie.die 3]).shareCap.fld (cdPwr 7) F.PWR_LIMIT_WATTS = 277 := by
  decide +kernel

/-- 12: two rounds of the watershed. -/
theorem test_watershed_rounds :
    let l : List (Option Nat) := [some 50, some 900, some 1100, some 20]
    let m := List.replicate 4 3200
    let f := List.replicate 4 false
    wsMove 100 2000 l [3000, 3000, 3000, 3000] m f = some [3060, 2940, 2940, 3060] ∧ wsMove 100 2000 l [3060, 2940, 2940, 3060] m f = some [3118, 2882, 2882, 3118] := by
  decide +kernel

/-- 17: the offset of package Q, in 1/48 tick. -/
theorem test_marker_offset : markerOff 5242880 (320 * 48) (5242987 * 48) (5243107 * 48) = 7 * 48 := by decide +kernel

/-- 19: the count of CD5's memory, and port E12's page. -/
theorem test_register_addresses :
    (Page.mem 5).base + C.MEM_CE = 0x07015120 ∧ pageOf 0x07015120 = some (.mem 5) ∧ (Page.lnk 12).base = 0x01023000 ∧ on.rd (Page.base (.lnk 12)) = 0x0701000C ∧
      (Page.lnk 12).base + F.LNK_STATE_STATE.off = 0x01023104 := by
  decide +kernel

theorem test_wf_refuses_qualDwellEnd : (Instr.qualDwellEnd 23 (List.replicate 5 ({} : LaneFec))).wf = false := by decide
theorem test_wf_refuses_laneBerWindow : (Instr.laneBerWindow 23 (List.replicate 5 ({} : LaneFec))).wf = false := by decide

end Sys2Proof.Tests
end

section
/-! Register accesses (00 R14, 03 R141, 19 R665–R673): the access codes of a field, the latch of a 64-bit pair, accesses that are not served, and the clearing of a
counter. -/

namespace Sys2Proof.Machine

/-! A field of a word by its bits. -/

theorem Field.getLsbD_mask_inside {f : Field} {i : Nat} (hf : f.lsb + f.width ≤ 32) (h1 : f.lsb ≤ i) (h2 : i < f.lsb + f.width) : f.mask.getLsbD i = true := by
  rw [Field.getLsbD_mask f i (by omega)]; simp [h1, h2]

theorem Field.getLsbD_mask_outside {f : Field} {i : Nat} (h : i < f.lsb ∨ f.lsb + f.width ≤ i) : f.mask.getLsbD i = false := by
  by_cases hi : i < 32
  · rw [Field.getLsbD_mask f i hi, ← Bool.decide_and, decide_eq_false_iff_not]; omega
  · exact BitVec.getLsbD_of_ge _ _ (by omega)

/-- Words that agree on the bits of a field agree on the field. -/
theorem getF_congr {a b : Word} {f : Field} (h : ∀ i, f.lsb ≤ i → i < f.lsb + f.width → a.getLsbD i = b.getLsbD i) : getF a f = getF b f := by
  apply Nat.eq_of_testBit_eq
  intro i
  rw [testBit_getF, testBit_getF]
  by_cases hi : i < f.width
  · rw [h (f.lsb + i) (by omega) (by omega)]
  · simp [hi]

theorem getF_zero (f : Field) : getF 0 f = 0 := by simp [getF]

/-- A word has no bit of a field set just when the field reads 0. -/
theorem and_mask_eq_zero_iff (w : Word) {f : Field} (hf : f.lsb + f.width ≤ 32) : w &&& f.mask = 0 ↔ getF w f = 0 := by
  constructor
  · intro h
    rw [← getF_zero f, ← h]
    refine getF_congr fun i h1 h2 => ?_
    rw [BitVec.getLsbD_and, Field.getLsbD_mask_inside hf h1 h2, Bool.and_true]
  · intro h
    refine BitVec.eq_of_getLsbD_eq fun i _ => ?_
    rw [BitVec.getLsbD_and]
    by_cases hin : f.lsb ≤ i ∧ i < f.lsb + f.width
    · have hbit := testBit_getF w f (i - f.lsb)
      rw [h, Nat.zero_testBit, decide_eq_true (by omega), Bool.true_and, Nat.add_sub_cancel' hin.1] at hbit
      rw [← hbit, Bool.false_and]; exact BitVec.getLsbD_zero.symm
    · rw [Field.getLsbD_mask_outside (by omega), Bool.and_false]; exact BitVec.getLsbD_zero.symm

/-! What a write of a field does, by its access code (R14, R671). -/

/-- The bits a field definition stands on. -/
def FieldDef.span (f : FieldDef) : Field := ⟨0, f.lsb, f.width⟩

theorem FieldDef.write_of_readOnly {f : FieldDef} (h : f.acc = .ro ∨ f.acc = .wo) (old new : Word) : f.write old new = old := by
  rcases h with h | h <;> simp only [FieldDef.write, h]

theorem FieldDef.write_of_rw {f : FieldDef} (h : f.acc = .rw) (old new : Word) :
    f.write old new = (old &&& ~~~f.span.mask) ||| (new &&& f.span.mask) := by
  simp only [FieldDef.write, h]; rfl

theorem FieldDef.write_of_w1c {f : FieldDef} (h : f.acc = .w1c) (old new : Word) : f.write old new = old &&& ~~~(new &&& f.span.mask) := by
  simp only [FieldDef.write, h]; rfl

theorem FieldDef.write_of_w1cv {f : FieldDef} (h : f.acc = .w1cv) (old new : Word) :
    f.write old new = if new &&& f.span.mask = 0 then old else old &&& ~~~f.span.mask := by
  simp only [FieldDef.write, h]; rfl

theorem FieldDef.write_of_rw1s {f : FieldDef} (h : f.acc = .rw1s) (old new : Word) : f.write old new = old ||| (new &&& f.span.mask) := by
  simp only [FieldDef.write, h]; rfl

theorem FieldDef.getF_write_rw {f : FieldDef} (h : f.acc = .rw) (hf : f.lsb + f.width ≤ 32) (old new : Word) :
    getF (f.write old new) f.span = getF new f.span := by
  rw [FieldDef.write_of_rw h]
  refine getF_congr fun i h1 h2 => ?_
  simp [Field.getLsbD_mask_inside hf h1 h2]

theorem FieldDef.getF_write_w1c {f : FieldDef} (h : f.acc = .w1c) (hf : f.lsb + f.width ≤ 32) (old new : Word) :
    getF (f.write old new) f.span = getF (old &&& ~~~new) f.span := by
  rw [FieldDef.write_of_w1c h]
  refine getF_congr fun i h1 h2 => ?_
  simp [Field.getLsbD_mask_inside hf h1 h2]

theorem FieldDef.getF_write_w1cv {f : FieldDef} (h : f.acc = .w1cv) (hf : f.lsb + f.width ≤ 32) (old new : Word) :
    getF (f.write old new) f.span = if getF new f.span = 0 then getF old f.span else 0 := by
  simp only [FieldDef.write_of_w1cv h, and_mask_eq_zero_iff new (f := f.span) hf]
  split
  · rfl
  · rw [← getF_zero f.span]
    refine getF_congr fun i h1 h2 => ?_
    simp [Field.getLsbD_mask_inside hf h1 h2]

theorem FieldDef.getF_write_rw1s {f : FieldDef} (h : f.acc = .rw1s) (hf : f.lsb + f.width ≤ 32) (old new : Word) :
    getF (f.write old new) f.span = getF (old ||| new) f.span := by
  rw [FieldDef.write_of_rw1s h]
  refine getF_congr fun i h1 h2 => ?_
  simp [Field.getLsbD_mask_inside hf h1 h2]

/-- Whatever its access code, a field's write keeps every bit outside the field. -/
theorem FieldDef.getLsbD_write_outside (f : FieldDef) (old new : Word) {i : Nat} (h : i < f.lsb ∨ f.lsb + f.width ≤ i) :
    (f.write old new).getLsbD i = old.getLsbD i := by
  by_cases hi : i < 32
  · have hm : f.span.mask.getLsbD i = false := Field.getLsbD_mask_outside h
    cases ha : f.acc with
    | ro => rw [FieldDef.write_of_readOnly (.inl ha)]
    | wo => rw [FieldDef.write_of_readOnly (.inr ha)]
    | rw => simp [FieldDef.write_of_rw ha, hm, hi, -BitVec.getLsbD_eq_getElem]
    | w1c => simp [FieldDef.write_of_w1c ha, hm, hi, -BitVec.getLsbD_eq_getElem]
    | w1cv => rw [FieldDef.write_of_w1cv ha]; split <;> simp [hm, hi, -BitVec.getLsbD_eq_getElem]
    | rw1s => simp [FieldDef.write_of_rw1s ha, hm]
  · rw [BitVec.getLsbD_of_ge _ _ (by omega), BitVec.getLsbD_of_ge _ _ (by omega)]

/-! A counter's overflow bit, and the clearing of a counter (03 R141). -/

/-- The overflow bit of a `_HI` word made of a 16-bit count and the bit. -/
theorem hiWord_ovf {h : Nat} (hh : h < 0x10000) (ovf : Bool) :
    ((BitVec.ofNat 32 (h + if ovf = true then 0x80000000 else 0)).toNat >>> 31 == 1) = ovf := by
  rw [BitVec.toNat_ofNat, Nat.shiftRight_eq_div_pow, Bool.beq_eq_decide_eq]
  cases ovf <;> simp <;> omega

/-- OVF is set by a raise that reaches the largest count, and kept by another. -/
theorem State.counterOvf_bump (s : State) (p : Page) (off n : Nat) :
    (s.bump p off n).counterOvf p off = true ↔ 0xFFFFFFFFFFFF ≤ s.counter p off + n ∨ s.counterOvf p off = true := by
  obtain ⟨c, ovf, hc, hovf, -, hhi, -⟩ := s.bump_words p off n
  have hsmall : c >>> 32 < 0x10000 := by rw [Nat.shiftRight_eq_div_pow]; omega
  have hbit : (s.bump p off n).counterOvf p off = ovf := by rw [State.counterOvf, hhi, hiWord_ovf hsmall]
  have htop : c = 0xFFFFFFFFFFFF ↔ 0xFFFFFFFFFFFF ≤ s.counter p off + n := by omega
  rw [hbit, hovf, htop]

/-- Stated for any two addresses, so that the check does not compute where a page lies. -/
theorem State.wr_wr_frame (s : State) (a b : Nat) (v x : Word) : (s.wr a v).wr b x = { s with regs := ((s.wr a v).wr b x).regs } := rfl

/-- The clearing of a counter changes register words alone. -/
theorem State.clearCounter_frame (s : State) (p : Page) (lo : Nat) : s.clearCounter p lo = { s with regs := (s.clearCounter p lo).regs } :=
  s.wr_wr_frame _ _ _ _

theorem State.rd_clearCounter_lo (s : State) (p : Page) (lo : Nat) : (s.clearCounter p lo).rd (p.base + lo) = 0 := by
  rw [State.clearCounter, State.rd_wr_ne _ (by omega), State.rd_wr_self]

theorem State.rd_clearCounter_hi (s : State) (p : Page) (lo : Nat) : (s.clearCounter p lo).rd (p.base + lo + 4) = 0 := by
  rw [State.clearCounter, State.rd_wr_self]

theorem State.rd_clearCounter_ne (s : State) (p : Page) {lo a : Nat} (h1 : a ≠ p.base + lo) (h2 : a ≠ p.base + lo + 4) : (s.clearCounter p lo).rd a = s.rd a := by
  rw [State.clearCounter, State.rd_wr_ne _ h2.symm, State.rd_wr_ne _ h1.symm]

theorem State.counter_clearCounter (s : State) (p : Page) (lo : Nat) : (s.clearCounter p lo).counter p lo = 0 := by
  have hlo := s.rd_clearCounter_lo p lo
  have hhi := s.rd_clearCounter_hi p lo
  unfold State.counter
  rw [hlo, hhi]
  rfl

theorem State.counterOvf_clearCounter (s : State) (p : Page) (lo : Nat) : (s.clearCounter p lo).counterOvf p lo = false := by
  rw [State.counterOvf, State.rd_clearCounter_hi]; rfl

/-! Accesses that no page serves, or that the requester may not make (R665, R672, R673). -/

/-- No page answers the requester at a BAR0 offset. -/
def State.notServedAt (s : State) (w : Requester) (a : Nat) : Prop := pageOf a = none ∨ ∃ p, pageOf a = some p ∧ s.pageServed w p = false

theorem State.readReg_notServedAt {s : State} {w : Requester} {a : Nat} (h : s.notServedAt w a) : s.readReg w a = (s, 0xFFFFFFFF) := by
  rcases h with h | ⟨p, h, hs⟩
  · simp only [State.readReg, h]; rfl
  · simp only [State.readReg, h, hs]; rfl

theorem State.writeReg_notServedAt {s : State} {w : Requester} {a : Nat} (h : s.notServedAt w a) (v : Word) (f : BootFind) : s.writeReg w a v f = s := by
  rcases h with h | ⟨p, h, hs⟩
  · simp only [State.writeReg, h]
  · simp only [State.writeReg, h, hs]; rfl

/-- A write of a served page by a requester inside the package. -/
theorem State.writeReg_inner {s : State} {w : Requester} {p : Page} {a : Nat} (ha : pageOf a = some p) (hs : s.pageServed w p = true) (hw : w.host? = none)
    (v : Word) (f : BootFind) : s.writeReg w a v f = if w.mayWrite p (a % 0x1000) then s.innerWrite w p (a % 0x1000) v f else s := by
  simp only [State.writeReg, ha, hs, hw]; rfl

theorem State.writeReg_denied {s : State} {w : Requester} {p : Page} {off : Nat} (ho : off < 0x1000) (hw : w.host? = none) (hm : w.mayWrite p off = false)
    (v : Word) (f : BootFind) : s.writeReg w (p.base + off) v f = s := by
  cases hs : s.pageServed w p with
  | false => exact State.writeReg_notServedAt (.inr ⟨p, pageOf_base_add p off ho, hs⟩) v f
  | true => rw [State.writeReg_inner (pageOf_base_add p off ho) hs hw, Page.base_add_mod p off ho, hm]; rfl

/-- A write of a counter's `_HI` word clears the counter when it has a 1 at OVF, and else changes nothing. -/
theorem State.innerWrite_counterHi {s : State} {w : Requester} {p : Page} {lo : Nat} {r : RegDef} (hp : p.ptype ≠ .mbx) (hlo : 0x100 ≤ lo)
    (hr : p.reg? (lo + 4) = some r) (hc : r.isCounterHi = true) (v : Word) (f : BootFind) :
    s.innerWrite w p (lo + 4) v f = if v.getLsbD 31 then s.clearCounter p lo else s := by
  have hhdr : ∀ n, n < 0x100 → lo + 4 ≠ n := fun n hn => by omega
  have hblk : ¬ lo + 4 < 0x100 := by omega
  simp only [State.innerWrite, hr, hhdr _ (by decide : 0x008 < 0x100), hhdr _ (by decide : 0x01C < 0x100), hhdr _ (by decide : 0x028 < 0x100),
    hhdr _ (by decide : 0x02C < 0x100), hblk, if_false, hc, if_true, Nat.add_sub_cancel]
  cases p with
  | mbx ch => exact absurd rfl hp
  | _ => rfl

/-- COUNTER_OVF_CLEAR of a counter that the requester may write clears it. -/
theorem counterOvfClear_eq {s : State} {w : Requester} {p : Page} {lo : Nat} {r : RegDef} (hp : p.ptype ≠ .mbx) (hs : s.pageServed w p = true)
    (hw : w.host? = none) (hm : w.mayWrite p (lo + 4) = true) (hlo : 0x100 ≤ lo) (hhi : lo + 4 < 0x1000) (hr : p.reg? (lo + 4) = some r)
    (hc : r.isCounterHi = true) : counterOvfClear w p lo s = s.clearCounter p lo := by
  rw [counterOvfClear, Nat.add_assoc, State.writeReg_inner (pageOf_base_add p _ hhi) hs hw, Page.base_add_mod p _ hhi, if_pos hm, State.innerWrite_counterHi hp hlo hr hc]
  exact if_pos (by decide)

theorem exec_counterOvfClear (w : Requester) (p : Page) (lo : Nat) (s : State) : exec (.counterOvfClear w p lo) s = run (counterOvfClear w p lo) s := rfl

/-! Reads of a 64-bit pair (R672). -/

/-- Both words of a pair lie in their page. -/
theorem PType.isLo_lt {t : PType} {off : Nat} (h : t.isLo off = true) : off + 4 < 0x1000 := by
  cases t <;> simp [PType.isLo] at h <;> omega

/-- The `_HI` word of a pair starts no pair. -/
theorem PType.isLo_hi {t : PType} {off : Nat} (h : t.isLo off = true) : t.isLo (off + 4) = false := by
  cases t <;> simp [PType.isLo] at h ⊢ <;> omega

/-- A read of a served page that is no mailbox. -/
theorem State.readReg_block {s : State} {w : Requester} {p : Page} {a : Nat} (ha : pageOf a = some p) (hp : p.ptype ≠ .mbx) (hs : s.pageServed w p = true) :
    s.readReg w a =
      if (p.reg? (a % 0x1000)).isNone then (s, 0)
      else if p.ptype.isLo (a % 0x1000) then
        ({ s with latches := Store.set (fun _ => 0) s.latches (w.latchKey (a + 4)) (s.seenWord w p (a % 0x1000 + 4)) }, s.seenWord w p (a % 0x1000))
      else if 4 ≤ a % 0x1000 && p.ptype.isLo (a % 0x1000 - 4) then (s, Store.get (fun _ => 0) s.latches (w.latchKey a))
      else (s, s.seenWord w p (a % 0x1000)) := by
  simp only [State.readReg, ha, hs]
  cases p with
  | mbx ch => exact absurd rfl hp
  | _ => rfl

/-- A read of a `_LO` word answers it and latches its `_HI` word for the requester. -/
theorem State.readReg_lo {s : State} {w : Requester} {p : Page} {off : Nat} (hp : p.ptype ≠ .mbx) (hs : s.pageServed w p = true)
    (hlo : p.ptype.isLo off = true) (hr : (p.reg? off).isSome = true) :
    s.readReg w (p.base + off) =
      ({ s with latches := Store.set (fun _ => 0) s.latches (w.latchKey (p.base + off + 4)) (s.seenWord w p (off + 4)) }, s.seenWord w p off) := by
  have ho : off < 0x1000 := Nat.lt_of_le_of_lt (Nat.le_add_right _ _) (PType.isLo_lt hlo)
  rw [State.readReg_block (pageOf_base_add p off ho) hp hs, Page.base_add_mod p off ho, if_neg (by simpa using Option.isSome_iff_ne_none.1 hr), if_pos hlo]

/-- A read of a `_HI` word answers what the requester's latch holds. -/
theorem State.readReg_hi {s : State} {w : Requester} {p : Page} {off : Nat} (hp : p.ptype ≠ .mbx) (hs : s.pageServed w p = true)
    (hlo : p.ptype.isLo off = true) (hr : (p.reg? (off + 4)).isSome = true) :
    s.readReg w (p.base + off + 4) = (s, Store.get (fun _ => 0) s.latches (w.latchKey (p.base + off + 4))) := by
  have ho := PType.isLo_lt hlo
  rw [Nat.add_assoc, State.readReg_block (pageOf_base_add p _ ho) hp hs, Page.base_add_mod p _ ho, if_neg (by simpa using Option.isSome_iff_ne_none.1 hr),
    PType.isLo_hi hlo, if_neg Bool.false_ne_true, Nat.add_sub_cancel, if_pos (by simp [hlo])]

/-- Settles O54: each clause is the rule above for its access. -/
theorem registersReadAndWrite : Obligations.RegistersReadAndWrite := by
  refine ⟨fun s a n hon => ?read, fun s a ws f hon => ?write, fun s w a h => ?notServed, fun s w p off hp hs hlo hr hr4 => ?latch,
    fun s w p lo r hon hp hs hw hm hlo hhi hr hc => ?clear, fun s w p off v f ho hw hm => ?denied, fun f old new hf => ?code, fun f old new i h => ?outside,
    fun s p off n => ?bump⟩
  case read => exact run_on hon
  case write => exact run_on hon
  case notServed => exact ⟨State.readReg_notServedAt h, State.writeReg_notServedAt h⟩
  case latch =>
    rw [State.readReg_lo hp hs hlo hr]
    refine ⟨rfl, fun t ht hst => ?_⟩
    rw [State.readReg_hi hp hst hlo hr4, ht, Store.get_set_self]
  case clear =>
    refine ⟨s.clearCounter p lo, ?_, s.counter_clearCounter p lo, s.counterOvf_clearCounter p lo, fun a h1 h2 => s.rd_clearCounter_ne p h1 h2,
      s.clearCounter_frame p lo⟩
    rw [exec_counterOvfClear, run_on hon, counterOvfClear_eq hp hs hw hm hlo hhi hr hc]
  case denied => exact State.writeReg_denied ho hw hm v f
  case code =>
    exact ⟨fun h => FieldDef.write_of_readOnly h old new, fun h => FieldDef.getF_write_rw h hf old new, fun h => FieldDef.getF_write_w1c h hf old new,
      fun h => FieldDef.getF_write_w1cv h hf old new, fun h => FieldDef.getF_write_rw1s h hf old new⟩
  case outside => exact f.getLsbD_write_outside old new h
  case bump =>
    have hovf := s.counterOvf_bump p off n
    refine ⟨s.counter_bump p off n, fun h => hovf.2 (.inl h), fun h => ?_⟩
    rw [Bool.eq_iff_iff, hovf]
    exact or_iff_right (by omega)

end Sys2Proof.Machine
end

section
/-! Operator commands (01 R37, 11 R438, 14 R538, R539): the order in which a manager judges a command, and what its OPCMD record keeps of the counter. -/

namespace Sys2Proof.Machine

/-- The manager is one that judges an operator command: it runs, and no partner stands before it as the primary. -/
structure State.JudgesOperator (s : State) : Prop where
  up : s.smtUp = true
  notOff : s.disc ≠ sdOFF
  notStandby : s.disc ≠ sdSTANDBY
  pairNotStandby : s.pairSt ≠ prSTANDBY
  pairNotSyncing : s.pairSt ≠ prSYNCING

/-- The sender of a command passes the checks that do not look at its counter: its credential has an entry with the command's right, and its signature verifies. -/
structure State.Authorises (s : State) (h : OpHdr) (c : OpCmd) : Prop extends s.JudgesOperator where
  entitled : ∃ rights, planRights s.plan h.cred.toNat = some rights ∧ rights.testBit c.right = true
  signed : h.sigOk = true

/-- The last counter of a command's credential. -/
abbrev State.lastCtr (s : State) (h : OpHdr) : Nat := Store.get (fun _ => 0) s.smt.opCtrs h.cred.toNat

/-- The answer kept for a command. -/
abbrev State.keptAnswer (s : State) (h : OpHdr) : Option OpAnswer := s.smt.answers.find? (fun a => a.cred == h.cred && a.ctr == h.ctr)

/-- The answer of a command that is refused with a status and nothing else. -/
abbrev OpHdr.refusal (h : OpHdr) (c : OpCmd) (st : OpStatus) : OpAnswer := ⟨h.cred, h.ctr, c.code, st, [], []⟩

section
variable {s : State} {h : OpHdr} {c : OpCmd}

/-! The conditions of `State.operator`, as it writes them, that such a manager and such a sender leave behind. -/

theorem State.JudgesOperator.not_idle (hj : s.JudgesOperator) : ¬ (!s.smtUp || s.disc = sdOFF) = true := by simp [hj.up, hj.notOff]

theorem State.JudgesOperator.not_second (hj : s.JudgesOperator) : ¬ (s.disc = sdSTANDBY || s.pairSt = prSTANDBY || s.pairSt = prSYNCING) = true := by
  simp [hj.notStandby, hj.pairNotStandby, hj.pairNotSyncing]

theorem State.Authorises.exists_rights (ha : s.Authorises h c) :
    ∃ rights, planRights s.plan h.cred.toNat = some rights ∧ ¬ (!(rights.testBit c.right) || !h.sigOk) = true := by
  obtain ⟨rights, hr, hbit⟩ := ha.entitled
  exact ⟨rights, hr, by simp [hbit, ha.signed]⟩

/-! Before the credential is looked at. -/

theorem State.operator_of_idle (hidle : s.smtUp = false ∨ s.disc = sdOFF) : s.operator h c = s := by
  rw [State.operator, if_pos (by simpa using hidle)]

theorem State.operator_of_standby (hup : s.smtUp = true) (hoff : s.disc ≠ sdOFF) (hst : s.disc = sdSTANDBY ∨ s.pairSt = prSTANDBY ∨ s.pairSt = prSYNCING) :
    s.operator h c = s.emit (.operator ⟨h.cred, h.ctr, c.code, .notPrimary, leBytes s.partnerSerial.toNat 16, []⟩) := by
  rw [State.operator, if_neg (by simp [hup, hoff]), if_pos (by simpa [or_assoc] using hst)]

/-! The credential, its right and the signature. -/

theorem State.operator_of_noEntry (hj : s.JudgesOperator) (hnone : planRights s.plan h.cred.toNat = none) :
    s.operator h c = s.emit (.operator (h.refusal c .policy)) := by
  rw [State.operator, if_neg hj.not_idle, if_neg hj.not_second, hnone]

theorem State.operator_of_denied (hj : s.JudgesOperator) {rights : Nat} (hr : planRights s.plan h.cred.toNat = some rights)
    (hden : rights.testBit c.right = false ∨ h.sigOk = false) : s.operator h c = s.emit (.operator (h.refusal c .policy)) := by
  rw [State.operator, if_neg hj.not_idle, if_neg hj.not_second, hr]
  exact if_pos (by simpa using hden)

/-! The counter. -/

/-- A counter that is not above the last: the kept answer, or nothing while the command is under way, or POLICY where it is older. -/
theorem State.operator_of_notAbove (ha : s.Authorises h c) (hle : h.ctr.toNat ≤ s.lastCtr h) :
    s.operator h c = ((s.keptAnswer h).map fun a => s.emit (.operator a)).getD
      (if h.ctr.toNat = s.lastCtr h && s.lastCtr h != 0 then s else s.emit (.operator (h.refusal c .policy))) := by
  obtain ⟨rights, hr, hpass⟩ := ha.exists_rights
  rw [State.operator, if_neg ha.not_idle, if_neg ha.not_second, hr]
  dsimp only
  rw [if_neg hpass, if_pos hle]
  unfold State.keptAnswer
  cases s.smt.answers.find? fun a => a.cred == h.cred && a.ctr == h.ctr <;> rfl

/-- A counter above the last: BUSY unless the manager serves, else the record is committed. -/
theorem State.operator_of_above (ha : s.Authorises h c) (hlt : s.lastCtr h < h.ctr.toNat) :
    s.operator h c = if s.pairSt = prISOLATED || !s.serving then s.emit (.operator (h.refusal c .busy)) else (s.commit (.opcmd h c)).summit := by
  obtain ⟨rights, hr, hpass⟩ := ha.exists_rights
  rw [State.operator, if_neg ha.not_idle, if_neg ha.not_second, hr]
  dsimp only
  rw [if_neg hpass, if_neg (Nat.not_le.2 hlt)]

theorem State.operator_of_kept (ha : s.Authorises h c) (hle : h.ctr.toNat ≤ s.lastCtr h) {a : OpAnswer} (hk : s.keptAnswer h = some a) :
    s.operator h c = s.emit (.operator a) := by
  rw [State.operator_of_notAbove ha hle, hk]; rfl

theorem State.operator_of_older (ha : s.Authorises h c) (hlt : h.ctr.toNat < s.lastCtr h) (hk : s.keptAnswer h = none) :
    s.operator h c = s.emit (.operator (h.refusal c .policy)) := by
  rw [State.operator_of_notAbove ha (Nat.le_of_lt hlt), hk]
  exact if_neg (by simp [Nat.ne_of_lt hlt])

theorem State.operator_of_underWay (ha : s.Authorises h c) (heq : h.ctr.toNat = s.lastCtr h) (h0 : h.ctr.toNat ≠ 0) (hk : s.keptAnswer h = none) :
    s.operator h c = s := by
  rw [State.operator_of_notAbove ha (Nat.le_of_eq heq), hk]
  exact if_pos (by simpa [← heq] using h0)

theorem State.operator_of_notServing (ha : s.Authorises h c) (hlt : s.lastCtr h < h.ctr.toNat) (hb : s.pairSt = prISOLATED ∨ s.serving = false) :
    s.operator h c = s.emit (.operator (h.refusal c .busy)) := by
  rw [State.operator_of_above ha hlt, if_pos (by simpa using hb)]

theorem State.operator_of_serving (ha : s.Authorises h c) (hlt : s.lastCtr h < h.ctr.toNat) (hi : s.pairSt ≠ prISOLATED) (hs : s.serving = true) :
    s.operator h c = (s.commit (.opcmd h c)).summit := by
  rw [State.operator_of_above ha hlt, if_neg (by simp [hi, hs])]

/-! A DEVICE_RESET that goes to the package's own agent (17 R639). -/

theorem operatorRow_other {f : BootFind} (hs : (s.operator h c).selfReset s.out.length = false) : operatorRow h c f s = s.operator h c := by
  rw [operatorRow, if_neg (by simp [hs])]

theorem operatorRow_self {f : BootFind} (hs : (s.operator h c).selfReset s.out.length = true) :
    operatorRow h c f s = (s.operator h c).deviceReset f 2 := by
  rw [operatorRow, if_pos hs]

/-- An operator command that does not reset this package. -/
theorem run_operatorRow_other {f : BootFind} (hon : s.mgmtOn = true) (hs : (s.operator h c).selfReset s.out.length = false) :
    run (operatorRow h c f) s = .next (s.finish (s.operator h c)) := by
  rw [run_on hon, operatorRow_other hs]

/-- An operator command that resets this package. -/
theorem run_operatorRow_self {f : BootFind} (hon : s.mgmtOn = true) (hs : (s.operator h c).selfReset s.out.length = true) :
    run (operatorRow h c f) s = .next (s.finish ((s.operator h c).deviceReset f 2)) := by
  rw [run_on hon, operatorRow_self hs]

end

/-! What the OPCMD record keeps. -/

@[simp] theorem SummitSt.opCtrs_wsEnd (x : SummitSt) (id : Nat) : (x.wsEnd id).opCtrs = x.opCtrs := rfl

/-- The watershed's configuration keeps the counters of the credentials. -/
@[simp] theorem SummitSt.opCtrs_wsConfig (x : SummitSt) (r : WsReq) : (x.wsConfig r).opCtrs = x.opCtrs := by
  unfold SummitSt.wsConfig
  split
  · exact x.opCtrs_wsEnd _
  · split
    · exact x.opCtrs_wsEnd _
    · dsimp only
      split
      · rfl
      · exact x.opCtrs_wsEnd _

/-- Whatever the command, its record sets the counter of its credential and no other. -/
theorem SummitSt.opCtrs_apply_opcmd (x : SummitSt) (h : OpHdr) (c : OpCmd) :
    (x.apply (.opcmd h c)).opCtrs = Store.set (fun _ => 0) x.opCtrs h.cred.toNat h.ctr.toNat := by
  cases c with
  | wsConfig r => exact SummitSt.opCtrs_wsConfig _ r
  | fwDistribute t ts content =>
    dsimp only [SummitSt.apply]
    split <;> rfl
  | _ => rfl

/-- Settles O31: the commands run `State.operator`, and each clause of the judgement is the rule above for its case. -/
theorem operatorCommandsAreJudged : Obligations.OperatorCommandsAreJudged := by
  refine ⟨fun s h f hon => ?commands, fun s h c hup hoff => ⟨State.operator_of_standby hup hoff, fun hst hps hpy => ?judged⟩,
    fun s h c => State.operator_of_idle, fun x h c => ?counter⟩
  case commands =>
    exact ⟨fun _ _ _ _ _ _ _ => run_on hon, fun _ => run_on hon, fun _ => run_on hon, fun _ _ => run_on hon, fun _ => run_on hon, fun _ => run_on hon,
      fun _ _ _ => run_on hon, fun _ => run_on hon, fun _ _ _ => run_on hon, fun _ _ _ => run_on hon, fun _ => run_on hon, fun _ _ => run_on hon,
      fun _ => run_operatorRow_other hon, fun _ => run_operatorRow_self hon, fun _ => run_operatorRow_other hon, fun _ => run_operatorRow_self hon⟩
  case judged =>
    have hj : s.JudgesOperator := ⟨hup, hoff, hst, hps, hpy⟩
    refine ⟨State.operator_of_noEntry hj, fun rights hr => ?_⟩
    have auth (hbit : rights.testBit c.right = true) (hsig : h.sigOk = true) : s.Authorises h c := ⟨hj, ⟨rights, hr, hbit⟩, hsig⟩
    exact ⟨State.operator_of_denied hj hr,
      fun hbit hsig hlt => ⟨State.operator_of_notServing (auth hbit hsig) hlt, State.operator_of_serving (auth hbit hsig) hlt⟩,
      fun a hbit hsig hle hk => State.operator_of_kept (auth hbit hsig) hle hk,
      fun hbit hsig hk => ⟨fun hlt => State.operator_of_older (auth hbit hsig) hlt hk, fun heq h0 => State.operator_of_underWay (auth hbit hsig) heq h0 hk⟩⟩
  case counter => rw [SummitSt.opCtrs_apply_opcmd, Store.get_set_self]

end Sys2Proof.Machine
end

section
/-! The Massif array's sweep limit (03 R137): SWEEP_LIMIT reports its fault at the page of the die that the sweep's queue names, which is the array's own die in
every state that SWEEP_SELECT makes, and another die in some states. -/

namespace Sys2Proof.Machine

theorem State.raiseSweep_limit (s : State) (q : QRef) : s.raiseSweep q [stLIMIT] false = s.raise (.msf q.die) 0x104 2 ⟨some q.part, some q.ctx⟩ := by
  simp [State.raiseSweep, msfSource, stLIMIT, stDESC_INVALID, stRANGE, stCHECKSUM, stRESIDUE]

/-- The one sweep of an array that spends its limit is aborted, and its fault names the die of its own queue. -/
theorem sweepLimit_of_overLimit {s : State} {c : CDie} {r : RunSweep} (hrun : (s.array c).run = some r) (hdrain : (s.array c).drain = [])
    (hst : s.msfState c = msfLOAD ∨ s.msfState c = msfSTREAM ∨ s.msfState c = msfDRAIN) (hover : RunSweep.overLimit (s.sweepLimitReg c) r = true) :
    sweepLimit c s = ((s.setArray c { s.array c with run := some (r.fail stLIMIT), next := none }).setMsf c msfABORT).raise (.msf r.ref.die) 0x104 2
      ⟨some r.ref.part, some r.ref.ctx⟩ := by
  have hgoes : ¬ (!(s.msfState c = msfLOAD || s.msfState c = msfSTREAM || s.msfState c = msfDRAIN)) = true := by simpa [or_assoc, ← not_or] using hst
  rw [sweepLimit, if_neg hgoes, hdrain]
  simp [hrun, hover, ArraySt.get, ArraySt.put, State.raiseSweep_limit]

/-- CD0's array streams a sweep of a queue of CD1 that has spent its limit of 1,024 cycles. -/
def straySweep : RunSweep := { ref := sweepQueue 1 0, index := 0, desc := [], counted := 1024, limit := some 1 }
def strayState : State := (State.setArray { State.reset with mgmtOn := true } 0 { run := some straySweep }).setMsf 0 msfSTREAM

/-- SWEEP_LIMIT of CD0 reports the fault at CD1's page. -/
theorem quietPages_sweepLimit_strayState : (strayState.finish (sweepLimit 0 strayState)).quietPages = [Page.base (.msf 1)] := by decide +kernel

/-- Refutes O5: the clause of SWEEP_LIMIT puts the fault at the page of the array's die, whatever sweep the array holds. In `strayState` that sweep is of a
queue of another die, and the fault stands at that die's page. The clause lacks the hypothesis `r.ref.die = c`. -/
theorem not_sweepsAreGrantedAndRun : ¬ Obligations.SweepsAreGrantedAndRun := by
  unfold Obligations.SweepsAreGrantedAndRun
  rintro ⟨-, -, -, -, -, -, -, -, -, -, hlimit, -, -⟩
  have hover : RunSweep.overLimit (strayState.sweepLimitReg 0) straySweep = true := by decide +kernel
  have hclause := (hlimit strayState 0 straySweep (by decide +kernel) (by decide +kernel) (by decide +kernel) (by decide +kernel)).1 hover
  have hmodel : exec (.sweepLimit 0) strayState = .next (strayState.finish (sweepLimit 0 strayState)) := run_on (by decide +kernel)
  have hpages := congrArg State.quietPages (Host.Outcome.next.inj (hmodel.symm.trans hclause))
  rw [quietPages_sweepLimit_strayState] at hpages
  exact absurd hpages (by decide +kernel)

end Sys2Proof.Machine
end

section
/-! Tarn zeroing orders and allocations (03 R95, R143, R144): what the register writes and the end of an order make of the state, and what the registers and
the bytes of Tarn then read. -/

namespace Sys2Proof.Machine

/-! A field or a flag of a page after another register field was written. -/

/-- A field that takes a cut of a written word as wide as itself reads as that cut. -/
theorem State.fld_setFld_bits (s : State) (p : Page) {f : Field} (v hi lo : Nat) (hw : f.width = hi + 1 - lo) (hf : f.lsb + f.width ≤ 32) :
    (s.setFld p f (bits v hi lo)).fld p f = bits v hi lo := by
  rw [State.fld_setFld _ _ _ _ hf, bits, hw, Nat.mod_mod]

theorem State.flag_setFld (s : State) (p : Page) (f : Field) (v : Nat) (h : f.lsb + f.width ≤ 32) : (s.setFld p f v).flag p f = (v % 2 ^ f.width != 0) := by
  rw [State.flag, State.fld_setFld _ _ _ _ h]

theorem State.flag_setFld_other (s : State) (p : Page) (f g : Field) (v : Nat) (h : f.lsb + f.width ≤ g.lsb ∨ g.lsb + g.width ≤ f.lsb) :
    (s.setFld p f v).flag p g = s.flag p g := by
  rw [State.flag, State.fld_setFld_other _ _ _ _ _ h, State.flag]

theorem State.flag_setFld_off (s : State) (p : Page) (f g : Field) (v : Nat) (h : f.off ≠ g.off) : (s.setFld p f v).flag p g = s.flag p g := by
  rw [State.flag, State.fld_setFld_off _ _ _ _ _ h, State.flag]

/-! The zeroing order that a die's Tarn runs. -/

/-- The order of a die's Tarn, as base and size in granules. -/
def State.setTarnOrder (s : State) (c : CDie) (o : Nat × Nat) : State := { s with zeroOrders := Store.set (fun _ => (0, 0)) s.zeroOrders (8 + c.val) o }

section
variable (s : State) (c : CDie) (o : Nat × Nat)

@[simp] theorem State.setTarnOrder_fld (p : Page) (f : Field) : (s.setTarnOrder c o).fld p f = s.fld p f := by cases s; rfl
@[simp] theorem State.setTarnOrder_flag (p : Page) (f : Field) : (s.setTarnOrder c o).flag p f = s.flag p f := by cases s; rfl
@[simp] theorem State.setTarnOrder_mem : (s.setTarnOrder c o).mem = s.mem := by cases s; rfl
@[simp] theorem State.setTarnOrder_tarn : (s.setTarnOrder c o).tarn = s.tarn := by cases s; rfl
@[simp] theorem State.setTarnOrder_pending : (s.setTarnOrder c o).pending = s.pending := by cases s; rfl
@[simp] theorem State.setTarnOrder_quiet : (s.setTarnOrder c o).quiet = s.quiet := by cases s; rfl
@[simp] theorem State.get_setTarnOrder : Store.get (fun _ => (0, 0)) (s.setTarnOrder c o).zeroOrders (8 + c.val) = o := Store.get_set_self _ _ _ _

/-- The order is set whichever state the orders are read from, as long as it holds the same. -/
theorem State.setTarnOrder_of_eq {t : State} (h : s.zeroOrders = t.zeroOrders) :
    { s with zeroOrders := Store.set (fun _ => (0, 0)) t.zeroOrders (8 + c.val) o } = s.setTarnOrder c o := by
  rw [← h, State.setTarnOrder]

end

/-! TRN_ZERO_GO. -/

/-- BASE and SIZE of TRN_ZERO_CTRL as a write of the register leaves them. -/
def State.setTarnSpan (s : State) (c : CDie) (v : Word) : State :=
  (s.setFld (.trn c) F.TRN_ZERO_CTRL_BASE (bits v.toNat 11 0)).setFld (.trn c) F.TRN_ZERO_CTRL_SIZE (bits v.toNat 24 12)

/-- What GO adds: the register shows an order, and Tarn runs it. -/
def State.startTarnZero (s : State) (c : CDie) (o : Nat × Nat) : State :=
  (((s.setFld (.trn c) F.TRN_ZERO_CTRL_GO 1).setFld (.trn c) F.TRN_ZERO_STATUS_BUSY 1).setFld (.trn c) F.BLK_STATUS_BUSY 1).setTarnOrder c o

section
variable {s : State} {c : CDie} {v : Word}

theorem trnZeroGo_of_noGo (hup : s.dieDown c = false) (hgo : v.getLsbD 31 = false) : trnZeroGo c v s = s.setTarnSpan c v := by
  rw [trnZeroGo, if_neg (by rw [hup, hgo]; simp), if_pos (by rw [hgo]; decide)]
  rfl

theorem trnZeroGo_of_go (hup : s.dieDown c = false) (hbusy : s.flag (.trn c) F.TRN_ZERO_STATUS_BUSY = false) (hgo : v.getLsbD 31 = true) :
    trnZeroGo c v s = (s.setTarnSpan c v).startTarnZero c (bits v.toNat 11 0, bits v.toNat 24 12) := by
  rw [trnZeroGo, if_neg (by rw [hup, hbusy, hgo]; decide), if_neg (by rw [hgo]; decide)]
  rfl

theorem trnZeroGo_of_busy (hbusy : s.flag (.trn c) F.TRN_ZERO_STATUS_BUSY = true) (hgo : v.getLsbD 31 = true) : trnZeroGo c v s = s := by
  rw [trnZeroGo, if_pos (by rw [hbusy, hgo]; simp)]

end

section
variable (s : State) (c : CDie) (v : Word) (o : Nat × Nat)

@[simp] theorem State.setTarnSpan_mem : (s.setTarnSpan c v).mem = s.mem := by simp [State.setTarnSpan]
@[simp] theorem State.setTarnSpan_tarn : (s.setTarnSpan c v).tarn = s.tarn := by simp [State.setTarnSpan]
@[simp] theorem State.setTarnSpan_pending : (s.setTarnSpan c v).pending = s.pending := by simp [State.setTarnSpan]
@[simp] theorem State.setTarnSpan_quiet : (s.setTarnSpan c v).quiet = s.quiet := by simp [State.setTarnSpan]

@[simp] theorem State.setTarnSpan_base : (s.setTarnSpan c v).fld (.trn c) F.TRN_ZERO_CTRL_BASE = bits v.toNat 11 0 := by
  simp (disch := decide) only [State.setTarnSpan, State.fld_setFld_other, State.fld_setFld_bits]

@[simp] theorem State.setTarnSpan_size : (s.setTarnSpan c v).fld (.trn c) F.TRN_ZERO_CTRL_SIZE = bits v.toNat 24 12 := by
  simp (disch := decide) only [State.setTarnSpan, State.fld_setFld_bits]

@[simp] theorem State.setTarnSpan_busy : (s.setTarnSpan c v).flag (.trn c) F.TRN_ZERO_STATUS_BUSY = s.flag (.trn c) F.TRN_ZERO_STATUS_BUSY := by
  simp (disch := decide) only [State.setTarnSpan, State.flag_setFld_off]

@[simp] theorem State.startTarnZero_mem : (s.startTarnZero c o).mem = s.mem := by simp [State.startTarnZero]
@[simp] theorem State.startTarnZero_tarn : (s.startTarnZero c o).tarn = s.tarn := by simp [State.startTarnZero]
@[simp] theorem State.startTarnZero_pending : (s.startTarnZero c o).pending = s.pending := by simp [State.startTarnZero]
@[simp] theorem State.startTarnZero_quiet : (s.startTarnZero c o).quiet = s.quiet := by simp [State.startTarnZero]
@[simp] theorem State.get_startTarnZero : Store.get (fun _ => (0, 0)) (s.startTarnZero c o).zeroOrders (8 + c.val) = o := State.get_setTarnOrder _ _ _

@[simp] theorem State.startTarnZero_base : (s.startTarnZero c o).fld (.trn c) F.TRN_ZERO_CTRL_BASE = s.fld (.trn c) F.TRN_ZERO_CTRL_BASE := by
  simp (disch := decide) only [State.startTarnZero, State.setTarnOrder_fld, State.fld_setFld_off, State.fld_setFld_other]

@[simp] theorem State.startTarnZero_size : (s.startTarnZero c o).fld (.trn c) F.TRN_ZERO_CTRL_SIZE = s.fld (.trn c) F.TRN_ZERO_CTRL_SIZE := by
  simp (disch := decide) only [State.startTarnZero, State.setTarnOrder_fld, State.fld_setFld_off, State.fld_setFld_other]

@[simp] theorem State.startTarnZero_go : (s.startTarnZero c o).flag (.trn c) F.TRN_ZERO_CTRL_GO = true := by
  simp (disch := decide) only [State.startTarnZero, State.setTarnOrder_flag, State.flag_setFld_off, State.flag_setFld]
  decide

@[simp] theorem State.startTarnZero_busy : (s.startTarnZero c o).flag (.trn c) F.TRN_ZERO_STATUS_BUSY = true := by
  simp (disch := decide) only [State.startTarnZero, State.setTarnOrder_flag, State.flag_setFld_off, State.flag_setFld]
  decide

end

/-! TRN_ZERO_DONE. -/

/-- What the end of an order shows: GO and BUSY clear, DONE sets, and Tarn runs none. -/
def State.endTarnZero (s : State) (c : CDie) : State :=
  ((((s.setFld (.trn c) F.TRN_ZERO_CTRL_GO 0).setFld (.trn c) F.TRN_ZERO_STATUS_BUSY 0).setFld (.trn c) F.TRN_ZERO_STATUS_DONE 1).setFld (.trn c)
    F.BLK_STATUS_BUSY 0).setTarnOrder c (0, 0)

theorem trnZeroDone_of_busy {s : State} {c : CDie} {b n : Nat} (hup : s.dieDown c = false) (hbusy : s.flag (.trn c) F.TRN_ZERO_STATUS_BUSY = true)
    (horder : Store.get (fun _ => (0, 0)) s.zeroOrders (8 + c.val) = (b, n)) :
    trnZeroDone c s = ((s.tarnZero c (b * tarnGran) (min n (4096 - b) * tarnGran)).endTarnZero c).fireEvent (.trn c) 1 := by
  rw [trnZeroDone, if_neg (by rw [hup, hbusy]; decide), horder]
  dsimp only
  rw [State.setTarnOrder_of_eq _ _ _ (State.setFld_zeroOrders _ _ _ _), State.endTarnZero]

theorem trnZeroDone_of_notBusy {s : State} {c : CDie} (hbusy : s.flag (.trn c) F.TRN_ZERO_STATUS_BUSY = false) : trnZeroDone c s = s := by
  rw [trnZeroDone, if_pos (by rw [hbusy]; simp)]

section
variable (s : State) (c : CDie)

@[simp] theorem State.endTarnZero_mem : (s.endTarnZero c).mem = s.mem := by simp [State.endTarnZero]
@[simp] theorem State.endTarnZero_tarn : (s.endTarnZero c).tarn = s.tarn := by simp [State.endTarnZero]

@[simp] theorem State.endTarnZero_go : (s.endTarnZero c).flag (.trn c) F.TRN_ZERO_CTRL_GO = false := by
  simp (disch := decide) only [State.endTarnZero, State.setTarnOrder_flag, State.flag_setFld_off, State.flag_setFld]
  decide

@[simp] theorem State.endTarnZero_busy : (s.endTarnZero c).flag (.trn c) F.TRN_ZERO_STATUS_BUSY = false := by
  simp (disch := decide) only [State.endTarnZero, State.setTarnOrder_flag, State.flag_setFld_off, State.flag_setFld_other, State.flag_setFld]
  decide

@[simp] theorem State.endTarnZero_done : (s.endTarnZero c).flag (.trn c) F.TRN_ZERO_STATUS_DONE = true := by
  simp (disch := decide) only [State.endTarnZero, State.setTarnOrder_flag, State.flag_setFld_off, State.flag_setFld]
  decide

@[simp] theorem State.endTarnZero_tarnByte (e : CDie) (off : Nat) : (s.endTarnZero c).tarnByte e off = s.tarnByte e off := by
  simp [State.tarnByte]

end

/-- The keys of `n` granules from granule `b` of a die, as far as its 4,096 go, are those of its bytes there, and of no other die's. -/
theorem tarnKey_granules {c e : CDie} {b n off : Nat} (hb : b < 4096) (hoff : off < tarnSpan) :
    (tarnKey c (b * tarnGran) ≤ tarnKey e off ∧ tarnKey e off < tarnKey c (b * tarnGran) + min n (4096 - b) * tarnGran) ↔
      e = c ∧ b * tarnGran ≤ off ∧ off < (b + n) * tarnGran := by
  rw [Fin.ext_iff]
  unfold tarnKey tarnSpan tarnGran at *
  omega

/-- Zeroing an order's granules leaves every other byte of Tarn. -/
theorem State.tarnByte_tarnZero_granules (s : State) {c : CDie} (e : CDie) {b : Nat} (n : Nat) {off : Nat} (hb : b < 4096) (hoff : off < tarnSpan) :
    (s.tarnZero c (b * tarnGran) (min n (4096 - b) * tarnGran)).tarnByte e off =
      if e = c ∧ b * tarnGran ≤ off ∧ off < (b + n) * tarnGran then 0 else s.tarnByte e off := by
  rw [State.tarnByte_tarnZero]
  exact ite_congr (propext (tarnKey_granules hb hoff)) (fun _ => rfl) (fun _ => rfl)

/-! TRN_PART_WRITE. -/

/-- A partition may take a span of a die's Tarn: it stays within the die, and no other partition's allocation overlaps it (R144). -/
def State.TarnFree (s : State) (c : CDie) (p : Part) (span : Nat × Nat) : Prop :=
  span.1 + span.2 ≤ 4096 ∧
    ∀ q : Part, q ≠ p → overlaps (s.fld (.trn c) (F.TRN_PART_BASE q.val), s.fld (.trn c) (F.TRN_PART_SIZE q.val)) span = false

/-- A partition's allocation, replaced. -/
def State.setTarnPart (s : State) (c : CDie) (p : Part) (span : Nat × Nat) : State :=
  (s.setFld (.trn c) (F.TRN_PART_BASE p.val) span.1).setFld (.trn c) (F.TRN_PART_SIZE p.val) span.2

section
variable {s : State} {c : CDie} {p : Part} {v : Word}

/-- TRN_PART_WRITE refuses a span just when it is not free. -/
theorem State.tarnFree_iff {span : Nat × Nat} :
    s.TarnFree c p span ↔ ¬ (((List.finRange 64).any fun q =>
      q != p && overlaps (s.fld (.trn c) (F.TRN_PART_BASE q.val), s.fld (.trn c) (F.TRN_PART_SIZE q.val)) span) || decide (4096 < span.1 + span.2)) = true := by
  rw [Bool.or_eq_true, decide_eq_true_eq]
  constructor
  · intro ⟨hfit, hfree⟩ hrefused
    rcases hrefused with hany | hpast
    · obtain ⟨q, -, hq⟩ := List.any_eq_true.1 hany
      rw [Bool.and_eq_true, bne_iff_ne] at hq
      obtain ⟨hne, hover⟩ := hq
      exact Bool.false_ne_true ((hfree q hne).symm.trans hover)
    · exact absurd hpast (Nat.not_lt.2 hfit)
  · intro h
    refine ⟨Nat.not_lt.1 fun hpast => h (.inr hpast), fun q hne => Bool.eq_false_iff.2 fun hover => h (.inl ?_)⟩
    exact List.any_eq_true.2 ⟨q, List.mem_finRange q, Bool.and_eq_true_iff.2 ⟨bne_iff_ne.2 hne, hover⟩⟩

theorem trnPartWrite_of_free (hup : s.dieDown c = false) (hfree : s.TarnFree c p (bits v.toNat 11 0, bits v.toNat 24 12)) :
    trnPartWrite c p v s = s.setTarnPart c p (bits v.toNat 11 0, bits v.toNat 24 12) := by
  rw [trnPartWrite, if_neg (by rw [hup]; decide)]
  exact if_neg (State.tarnFree_iff.1 hfree)

theorem trnPartWrite_of_taken (hup : s.dieDown c = false) (htaken : ¬ s.TarnFree c p (bits v.toNat 11 0, bits v.toNat 24 12)) :
    trnPartWrite c p v s = s.raise (.trn c) 0x102 1 {} := by
  rw [trnPartWrite, if_neg (by rw [hup]; decide)]
  exact if_pos (Decidable.not_not.1 fun h => htaken (State.tarnFree_iff.2 h))

end

/-- The two fields of a partition's allocation do not overlap. -/
theorem State.setTarnPart_base (s : State) (c : CDie) (p : Part) (v : Word) :
    (s.setTarnPart c p (bits v.toNat 11 0, bits v.toNat 24 12)).fld (.trn c) (F.TRN_PART_BASE p.val) = bits v.toNat 11 0 := by
  have hapart : (F.TRN_PART_BASE p.val).lsb + (F.TRN_PART_BASE p.val).width ≤ (F.TRN_PART_SIZE p.val).lsb := Nat.le_refl 12
  rw [State.setTarnPart, State.fld_setFld_other _ _ _ _ _ (.inr hapart)]
  exact State.fld_setFld_bits _ _ _ _ _ rfl (show 12 ≤ 32 by decide)

theorem State.setTarnPart_size (s : State) (c : CDie) (p : Part) (v : Word) :
    (s.setTarnPart c p (bits v.toNat 11 0, bits v.toNat 24 12)).fld (.trn c) (F.TRN_PART_SIZE p.val) = bits v.toNat 24 12 :=
  State.fld_setFld_bits _ _ _ _ _ rfl (show 25 ≤ 32 by decide)

/-- They stand in one register word, and no other changes. -/
theorem State.rd_setTarnPart_ne (s : State) (c : CDie) (p : Part) (span : Nat × Nat) {a : Nat} (ha : a ≠ Page.base (.trn c) + (F.TRN_PART_BASE p.val).off) :
    (s.setTarnPart c p span).rd a = s.rd a :=
  (State.rd_setFld_ne _ _ (F.TRN_PART_SIZE p.val) _ _ ha).trans (State.rd_setFld_ne _ _ _ _ _ ha)

/-- Settles O6: each clause is the rule above for its command, read at the registers and bytes that it names. -/
theorem tarnZeroingAndAllocation : Obligations.TarnZeroingAndAllocation := by
  refine ⟨fun s c v hs hup hbusy => ?go, fun s c v hs hgo hbusy => run_same hs (trnZeroGo_of_busy hbusy hgo), fun s c b n hon hup hbusy horder hb => ?done,
    fun s c hs hbusy => run_same hs (trnZeroDone_of_notBusy hbusy), fun s c p v hon hup => ?part⟩
  case go =>
    have hq := State.settled_quiet hs
    refine ⟨trnZeroGo c v s, ?_⟩
    cases hgo : v.getLsbD 31 with
    | false =>
      have heq := trnZeroGo_of_noGo hup hgo
      refine ⟨run_quiet hs (by simpa [heq] using hq) (by simp [heq]), ?_⟩
      simp [heq, hbusy]
    | true =>
      have heq := trnZeroGo_of_go hup hbusy hgo
      refine ⟨run_quiet hs (by simpa [heq] using hq) (by simp [heq]), ?_⟩
      simp [heq]
  case done =>
    intro z w u
    have hu : u = z.endTarnZero c := State.setTarnOrder_of_eq _ _ _ (by simp [w, z])
    rw [hu, ← trnZeroDone_of_busy hup hbusy horder]
    refine ⟨run_on hon, by simp [z], z.endTarnZero_go c, z.endTarnZero_busy c, z.endTarnZero_done c, fun e off hoff => ?_⟩
    rw [State.endTarnZero_tarnByte]
    exact s.tarnByte_tarnZero_granules e n hb hoff
  case part =>
    intro free u
    have hu : u = s.setTarnPart c p (bits v.toNat 11 0, bits v.toNat 24 12) := rfl
    rw [hu]
    refine ⟨fun hfree => ⟨?_, s.setTarnPart_base c p v, s.setTarnPart_size c p v, fun a ha => s.rd_setTarnPart_ne c p _ ha⟩, fun htaken => ?_⟩
    · rw [← trnPartWrite_of_free hup hfree]
      exact run_on hon
    · rw [← trnPartWrite_of_taken hup htaken]
      exact run_on hon

end Sys2Proof.Machine
end

section
/-! Doorbells (05 R197–R200, R224): what the word of a doorbell asks of its queue, and what each of the three kinds leaves. -/

namespace Sys2Proof.Machine

/-! The word of a doorbell: FLUSH at bit 31, GATED at bit 24, and TAIL below. -/

theorem State.door_tail (s : State) (r : QRef) (t : BitVec 24) : s.door r (t.setWidth 32) = doorbell r t s := by
  have htail : BitVec.ofNat 24 (t.setWidth 32).toNat = t := BitVec.eq_of_toNat_eq (by simp; omega)
  have hflush : (t.setWidth 32).getLsbD 31 = false := by simp
  have hgated : (t.setWidth 32).getLsbD 24 = false := by simp
  rw [State.door, hflush, hgated, htail]
  rfl

theorem State.door_gated (s : State) (r : QRef) (t : BitVec 24) : s.door r (t.setWidth 32 ||| 0x1000000) = doorbellGated r t s := by
  have htail : BitVec.ofNat 24 (t.setWidth 32 ||| 0x1000000 : Word).toNat = t := by
    rw [BitVec.ofNat_toNat, BitVec.setWidth_or, BitVec.setWidth_setWidth_of_le _ (by decide), BitVec.setWidth_eq]
    exact BitVec.or_zero
  have hflush : (t.setWidth 32 ||| 0x1000000 : Word).getLsbD 31 = false := by simp
  have hgated : (t.setWidth 32 ||| 0x1000000 : Word).getLsbD 24 = true := by simp
  rw [State.door, hflush, hgated, htail]
  rfl

theorem State.door_flush (s : State) (r : QRef) : s.door r 0x80000000 = doorbellFlush r s := rfl

section
variable {s : State} {r : QRef} {t : BitVec 24}

/-! A doorbell with a TAIL. -/

theorem doorbell_of_ignored (h : s.doorOpen r = false ∨ (s.queue r).err = true) : doorbell r t s = s :=
  if_pos (by rcases h with h | h <;> simp [h])

theorem doorbell_of_noGate (hopen : s.doorOpen r = true) (herr : (s.queue r).err = false) (hgates : (s.queue r).gates = [])
    (hnew : t ≠ (s.queue r).tail) :
    doorbell r t s = if tailOk (s.queue r) (s.queue r).tail t then s.setQueue r { s.queue r with tail := t } else s.queueError r := by
  simp [doorbell, hopen, herr, hgates, hnew]

/-! A GATED doorbell. -/

theorem doorbellGated_of_ignored (h : s.doorOpen r = false ∨ (s.queue r).err = true) : doorbellGated r t s = s :=
  if_pos (by rcases h with h | h <;> simp [h])

theorem doorbellGated_of_new (hopen : s.doorOpen r = true) (herr : (s.queue r).err = false) (hnew : t ≠ newestTail (s.queue r)) :
    doorbellGated r t s =
      if tailOk (s.queue r) (newestTail (s.queue r)) t = false ∨ 8 ≤ (s.queue r).gates.length then s.queueError r
      else (s.setQueue r { s.queue r with gates := (s.queue r).gates ++ [⟨some (s.queue r).gateCairn, (s.queue r).gateGen, t, false⟩] }).settleGates r 9 := by
  simp [doorbellGated, hopen, herr, hnew]

/-! A FLUSH doorbell. -/

theorem doorbellFlush_of_open (hopen : s.doorOpen r = true) :
    doorbellFlush r s = (s.flushQueue r stFLUSHED).setQueue r { (s.flushQueue r stFLUSHED).queue r with err := false } :=
  if_neg (by simp [hopen])

end

/-- Settles O3: the row of each doorbell is a `State.door` of its queue, and each clause is the rule above for its kind. -/
theorem doorbellsMoveTail : Obligations.DoorbellsMoveTail := by
  refine ⟨fun s r t hs hopen herr hgates hnew hfwd hroom => ?moves, fun s r t hs hign => ?ignored, fun s r t hon hopen herr hgates hnew hbad => ?stops,
    fun s r t hon hopen herr hnew => ?gated, fun s r hon hopen => ?flush, fun s n r t hon hserved hfence => ?pf, fun s p r t hon hvf hthere hfence => ?vf⟩
  case moves =>
    have htail : tailOk (s.queue r) (s.queue r).tail t = true := by rw [tailOk, decide_eq_true hfwd, decide_eq_true hroom]; rfl
    have heq : doorbellRow .core r (t.setWidth 32) s = s.setQueue r { s.queue r with tail := t } := by
      rw [doorbellRow, State.door_tail, doorbell_of_noGate hopen herr hgates hnew, if_pos htail]
    rw [← heq]
    exact run_quiet hs (by simpa [heq] using State.settled_quiet hs) (by simp [heq])
  case ignored =>
    exact ⟨run_same hs ((s.door_tail r t).trans (doorbell_of_ignored hign)), run_same hs ((s.door_gated r t).trans (doorbellGated_of_ignored hign))⟩
  case stops =>
    have heq : doorbellRow .core r (t.setWidth 32) s = s.queueError r := by
      rw [doorbellRow, State.door_tail, doorbell_of_noGate hopen herr hgates hnew, if_neg (by simp [hbad])]
    rw [← heq]
    exact run_on hon
  case gated =>
    intro g
    have heq := (s.door_gated r t).trans (doorbellGated_of_new hopen herr hnew)
    refine ⟨fun hroom htail => ?_, fun hbad => ?_⟩
    · rw [if_neg (by simp [hroom, htail])] at heq
      rw [← heq]
      exact run_on hon
    · rw [if_pos hbad.symm] at heq
      rw [← heq]
      exact run_on hon
  case flush =>
    rw [← doorbellFlush_of_open hopen]
    exact run_on hon
  case pf =>
    have heq : doorbellRow (.host (.pf n)) r (t.setWidth 32) s = s.door (doorQueue (.host (.pf n)) r s) (t.setWidth 32) := if_pos (by simp [hserved, hfence])
    exact (run_on hon).trans (by rw [heq]; rfl)
  case vf =>
    have heq : doorbellRow (.host (.vf p)) r (t.setWidth 32) s = s.vfWrite p (.door { r with part := p } (t.setWidth 32)) :=
      if_pos (by simp [hvf, hthere, hfence])
    exact (run_on hon).trans (by rw [heq])

end Sys2Proof.Machine
end

section
/-! Fetching of descriptors and gates that time out (05 R196, R199, R201, R202): what the entry at HEAD becomes by what its read and its check find. -/

namespace Sys2Proof.Machine

/-- A queue whose entry at HEAD the queue engine fetches: it takes entries, its die's engines and its array run, and an entry waits. -/
structure State.Fetches (s : State) (r : QRef) : Prop where
  enabled : (s.queue r).enable = true
  noError : (s.queue r).err = false
  partUp : s.partFenced r.part = false
  engines : s.enginesRun r.die = true
  arrayUp : r.q = 0 → s.msfState r.die ≠ msfHALTED ∧ s.msfState r.die ≠ msfOFF ∧ s.msfState r.die ≠ msfSELFTEST
  waits : (s.queue r).head ≠ (s.queue r).tail

/-- The read of the entry at HEAD. -/
abbrev State.headRead (s : State) (r : QRef) (o : Obs) : State × AccStatus × List Byte :=
  s.readBoard r.die ⟨some r.part, some r.ctx⟩ r.part (entryAddr r (s.queue r) (s.queue r).head) r.entrySize o

section
variable {s u : State} {r : QRef} {o : Obs} {st : AccStatus} {bs : List Byte}

/-- The condition of `descriptorFetch`, as it writes it, that such a queue leaves behind. -/
theorem State.Fetches.goes (h : s.Fetches r) :
    ¬ (!(s.queue r).enable || (s.queue r).err || s.partFenced r.part || !(s.enginesRun r.die) ||
      (decide (r.q = 0) && (decide (s.msfState r.die = msfHALTED) || decide (s.msfState r.die = msfOFF) || decide (s.msfState r.die = msfSELFTEST)))) = true := by
  simp only [h.enabled, h.noError, h.partUp, h.engines, Bool.not_true, Bool.false_or, Bool.and_eq_true, decide_eq_true_eq, Bool.or_eq_true]
  rintro ⟨hq, (hst | hst) | hst⟩
  · exact (h.arrayUp hq).1 hst
  · exact (h.arrayUp hq).2.1 hst
  · exact (h.arrayUp hq).2.2 hst

/-- A readable entry that passes its check waits to start. -/
theorem descriptorFetch_of_good (h : s.Fetches r) (hread : s.headRead r o = (u, .ok, bs)) (hpart : u.partFenced r.part = false)
    (hgood : u.checkDesc r bs = 0) : descriptorFetch r o s =
      u.setQueue r { (s.queue r).advance with fetched := (s.queue r).advance.fetched ++ [⟨(s.queue r).head, bs⟩] } := by
  simp only [descriptorFetch, if_neg h.goes, if_neg h.waits, hread, hpart, hgood]
  rfl

/-- One that fails its check completes with that status and raises a C2 fault. -/
theorem descriptorFetch_of_bad (h : s.Fetches r) (hread : s.headRead r o = (u, .ok, bs)) (hpart : u.partFenced r.part = false)
    {n : Nat} (hbad : u.checkDesc r bs = n) (hn : n ≠ 0) : descriptorFetch r o s =
      ((u.setQueue r (s.queue r).advance).completeUnrun r bs n).raise r.page (if n = stRANGE then 0x101 else 0x100) 2 ⟨some r.part, some r.ctx⟩ := by
  obtain ⟨m, rfl⟩ := Nat.exists_eq_succ_of_ne_zero hn
  simp only [descriptorFetch, if_neg h.goes, if_neg h.waits, hread, hpart, hbad]
  rfl

/-- One that cannot be read stops its queue. -/
theorem descriptorFetch_of_unreadable (h : s.Fetches r) (hread : s.headRead r o = (u, st, bs)) (hpart : u.partFenced r.part = false)
    (hst : st ≠ .ok) : descriptorFetch r o s = u.setQueue r { u.queue r with err := true } := by
  simp only [descriptorFetch, if_neg h.goes, if_neg h.waits, hread, hpart, bne_iff_ne.2 hst]
  rfl

/-- HEAD moves on by one where no entry was passed over. -/
theorem QueueSt.advance_of_noSkips {q : QueueSt} (h : q.skips = []) : q.advance = { q with head := q.head + 1 } := by
  simp only [QueueSt.advance, h]

/-- The oldest gate of a queue that does not stand in ERROR, still waiting at its GATE_TO. -/
theorem gateTimeout_of_waiting {g : Gate} {rest : List Gate} (hgates : (s.queue r).gates = g :: rest) (hto : (s.queue r).gateTo ≠ 0)
    (herr : (s.queue r).err = false) (hwait : s.gateNow r.die g = .wait) (hrun : s.enginesRun r.die = true) : gateTimeout r s =
      (((((s.setQueue r { s.queue r with gates := rest }).failEntries r g.tail stCAIRN_TIMEOUT).fireEvent (.vcx r.die) 2).raise (.vcx r.die) 0x105 1
        ⟨some r.part, some r.ctx⟩).settleGates r 9) := by
  simp [gateTimeout, hgates, hto, herr, hwait, hrun]

end

/-- Settles O4: each clause is the rule above for what the read and the check find, or for the gate that times out. -/
theorem descriptorFetchChecksTheEntry : Obligations.DescriptorFetchChecksTheEntry := by
  refine ⟨fun s u r o st bs hon hen herr hpart hrun harr hwaits hread hpart' => ?fetch, fun q => QueueSt.advance_of_noSkips,
    fun s r g rest hon hgates hto herr hwait hrun => ?gate⟩
  case fetch =>
    intro q
    have h : s.Fetches r := ⟨hen, herr, hpart, hrun, harr, hwaits⟩
    refine ⟨fun hst hgood => ?_, fun n hst hbad hn => ?_, fun hst => ?_⟩
    · subst hst
      rw [← descriptorFetch_of_good h hread hpart' hgood]
      exact run_on hon
    · subst hst
      rw [← descriptorFetch_of_bad h hread hpart' hbad hn]
      exact run_on hon
    · rw [← descriptorFetch_of_unreadable h hread hpart' hst]
      exact run_on hon
  case gate =>
    rw [← gateTimeout_of_waiting hgates hto herr hwait hrun]
    exact run_on hon

end Sys2Proof.Machine
end

section
/-! The start of a vector dispatch (05 R192, R193, R201, R206): which entry starts, and what a core holds as it starts. -/

namespace Sys2Proof.Machine

/-- Nothing starts while a die's engines do not run. -/
theorem dispatchStart_of_idle {s : State} {c : CDie} (h : s.enginesRun c = false) : dispatchStart c s = s := if_pos (by simp [h])

/-- The dispatch that an entry of a queue starts, as the state `u` without the entry numbers it. -/
def State.startedDispatch (u : State) (c : CDie) (r : QRef) (e : Entry) : Dispatch :=
  { id := u.nextId, ref := r, index := e.index, desc := e.bytes, start := u.now (CDie.die c),
    limit := if dwd e.bytes 12 = 0 then u.fld (.vcx c) F.VCX_DISPATCH_LIMIT_LIMIT else dwd e.bytes 12 }

/-- The entry that is granted starts on every core of its mask. -/
theorem dispatchStart_of_grant {s u : State} {c : CDie} {k : Nat} {q : QIx} {e : Entry} (hrun : s.enginesRun c = true)
    (hgrant : roundRobin (s.array c).grantVec (fun k => (lowestQueue vecQueues (fun q => s.canDispatch (vecQueue c k q))).isSome) = some k)
    (hpick : lowestQueue vecQueues (fun q => s.canDispatch (vecQueue c k q)) = some q) (htake : s.takeEntry (vecQueue c k q) = some (e, u)) :
    dispatchStart c s = State.showCores
      (allCores.foldl (fun (t : State) j => if inMask e.bytes j then t.setCore c j (startCore (t.core c j) (vecQueue c k q) u.nextId e.bytes j) else t)
        (State.setArray { u with nextId := u.nextId + 1, dispatches := u.dispatches ++ [u.startedDispatch c (vecQueue c k q) e] }
          c { u.array c with grantVec := k })) c := by
  simp only [dispatchStart, hrun, hgrant, hpick, htake]
  rfl

/-! What a core holds as it starts. -/

section
variable (x : CoreSt) (r : QRef) (id : Nat) (d : List Byte) (k : Core)

/-- Its registers: a0, a1 and a2 of the descriptor, the others as the core keeps them, none of a dispatch of another context. -/
theorem startCore_xr (n : Nat) : (startCore x r id d k).xr n =
    if n = 12 then BitVec.ofNat 64 (allCores.filter (inMask d)).length
    else if n = 11 then BitVec.ofNat 64 (allCores.filter (fun j => j.val < k.val && inMask d j)).length
    else if n = 10 then BitVec.ofNat 64 (dw64 d 4)
    else if x.prev = some (r.part, r.ctx) then x.xr n else 0 := by
  simp only [CoreSt.xr, startCore, Store.get_set, eq_comm (b := n)]
  by_cases hprev : x.prev = some (r.part, r.ctx)
  · simp only [if_pos hprev]
  · simp only [if_neg hprev]; rfl

theorem startCore_cleared (h : x.prev ≠ some (r.part, r.ctx)) :
    (startCore x r id d k).scratch = [] ∧ (startCore x r id d k).f = [] ∧ (startCore x r id d k).v = [] := by
  simp only [startCore, if_neg h, and_self]

end

/-- Settles O7: each clause is the rule above for the grant, or reads what `startCore` writes. -/
theorem dispatchStartSetsTheCores : Obligations.DispatchStartSetsTheCores := by
  refine ⟨fun s u c k q e hon hrun hgrant hpick htake => ?starts, fun s c hs hidle => run_same hs (dispatchStart_of_idle hidle), fun x r id d k => ?core⟩
  case starts => exact (run_on hon).trans (by rw [dispatchStart_of_grant hrun hgrant hpick htake]; rfl)
  case core =>
    intro y
    have hxr : ∀ n, y.xr n = _ := startCore_xr x r id d k
    refine ⟨rfl, rfl, rfl, (hxr 10).trans rfl, (hxr 11).trans rfl, (hxr 12).trans rfl, rfl, rfl, rfl, rfl, rfl, rfl, rfl, fun hother => ?_⟩
    obtain ⟨hscratch, hf, hv⟩ := startCore_cleared x r id d k hother
    refine ⟨hscratch, hf, hv, fun n _ h10 h11 h12 => ?_⟩
    rw [hxr, if_neg h12, if_neg h11, if_neg h10, if_neg hother]

end Sys2Proof.Machine
end

section
/-! Monitor services, fences, traps, limits and the completion of dispatches (05 R186, R188, R190, R206, R207). -/

namespace Sys2Proof.Machine

/-- A core that runs no dispatch is not ready. -/
theorem State.coreReady_of_idle {s : State} {c : CDie} {k : Core} (h : s.coreRun c k = none) (pre : List CoreWrite) : s.coreReady c k pre = none := by
  simp only [State.coreReady, h]

section
variable {s : State} {c : CDie} {k : Core} {pre : List CoreWrite}

/-! A core that is not ready. -/

theorem State.ecall_of_notReady (h : s.coreReady c k pre = none) : s.ecall c k pre = s := by simp only [State.ecall, h]

theorem coreFence_of_notReady (h : s.coreReady c k pre = none) : coreFence c k pre s = s := by simp only [coreFence, h]

theorem coreTrap_of_notReady (h : s.coreReady c k pre = none) (t : TrapWhy) (o : Obs) : coreTrap c k pre t o s = s := by simp only [coreTrap, h]

theorem dispatchLimit_of_idle (h : s.coreRun c k = none) : dispatchLimit c k s = s := by simp only [dispatchLimit, h]

/-! The services of an ECALL, by a7. -/

section
variable {x : CoreSt} {d : Dispatch}

theorem State.ecall_exit (h : s.coreReady c k pre = some (x, d)) (h0 : x.xr 17 = 0) : s.ecall c k pre = s.coreExit c k x d := by
  simp only [State.ecall, h, if_pos h0]

theorem State.ecall_signal (h : s.coreReady c k pre = some (x, d)) (h1 : x.xr 17 = 1) : s.ecall c k pre = s.coreSignal c k x := by
  have h0 : x.xr 17 ≠ 0 := by rw [h1]; decide
  simp only [State.ecall, h, if_neg h0, if_pos h1]

theorem State.ecall_unknown (h : s.coreReady c k pre = some (x, d)) (h0 : x.xr 17 ≠ 0) (h1 : x.xr 17 ≠ 1) :
    s.ecall c k pre = (s.setCore c k x).trapDispatch c k d .exception 8 x.pc := by
  simp only [State.ecall, h, if_neg h0, if_neg h1]

/-! A fence, an exception, and a limit. -/

theorem coreFence_of_ready (h : s.coreReady c k pre = some (x, d)) :
    coreFence c k pre s = (s.setCore c k { x with fencing := true, sigWait := none }).unfence c k := by
  simp only [coreFence, h]

theorem coreTrap_exception (h : s.coreReady c k pre = some (x, d)) (cause : BitVec 8) (epc : BitVec 64) (o : Obs) :
    coreTrap c k pre (.exception cause epc) o s = (s.setCore c k x).trapDispatch c k d .exception cause epc := by
  simp only [coreTrap, h]

theorem dispatchLimit_of_limited (h : s.coreRun c k = some d) (hlim : d.limit ≠ 0) : dispatchLimit c k s =
    (s.updDispatch d.id (fun d => { d with stopped := true, status := BitVec.ofNat 8 stLIMIT })).raise (.vcx c) 0x103 2 ⟨some d.ref.part, some d.ref.ctx⟩ := by
  simp only [dispatchLimit, h, if_neg hlim]

end

end

/-- The commands ECALL_EXIT and ECALL_SIGNAL are one service call. -/
theorem exec_ecall {s : State} {c : CDie} {k : Fin 32} {pre : List CoreWrite} {i : Instr} (h : i = .ecallExit c k pre ∨ i = .ecallSignal c k pre) :
    exec i s = run (fun s => s.ecall c k pre) s := by
  rcases h with rfl | rfl <;> rfl

/-! Completion. -/

/-- The state without a dispatch that has finished, its cores free. -/
def State.freeCores (s : State) (c : CDie) (d : Dispatch) : State :=
  (allCores.foldl (fun (t : State) k =>
    if (t.core c k).run = some d.id then t.setCore c k { t.core c k with run := none, fencing := false, sigWait := none } else t)
    { s with dispatches := s.dispatches.filter (fun x => x.id != d.id) }).showCores c

/-- The largest exit code of a dispatch, and its cycles from its start to its last exit. -/
def Dispatch.exitCode (d : Dispatch) : Nat := d.exits.foldl (fun a e => max a e.code.toNat) 0
def Dispatch.cycles (d : Dispatch) : Nat := if d.exits.isEmpty then 0 else fclkOf d.start d.lastExit

section
variable {s : State} {c : CDie} {d : Dispatch}

/-- A dispatch that no trap ended completes without one in its record. -/
theorem dispatchComplete_of_noTrap (hrun : s.enginesRun c = true) (hfind : s.dispatches.find? (fun d => d.ref.die == c && dispatchDone d) = some d)
    (hno : ∀ t, d.trap = some t → t.status ≠ d.status) :
    dispatchComplete c s = (s.freeCores c d).completeDispatch d.ref d.desc d.status.toNat d.exitCode 0 0 0 d.cycles := by
  simp only [dispatchComplete, hrun, hfind]
  cases htrap : d.trap with
  | none => rfl
  | some t => simp only [if_neg (hno t htrap)]; rfl

/-- One that a trap ended completes with the core, cause and pc of its first trap. -/
theorem dispatchComplete_of_trap (hrun : s.enginesRun c = true) (hfind : s.dispatches.find? (fun d => d.ref.die == c && dispatchDone d) = some d)
    {t : TrapRec} (htrap : d.trap = some t) (hst : t.status = d.status) :
    dispatchComplete c s = (s.freeCores c d).completeDispatch d.ref d.desc d.status.toNat d.exitCode t.core t.cause.toNat t.epc d.cycles := by
  simp only [dispatchComplete, hrun, hfind, htrap, if_pos hst]
  rfl

end

/-- Settles O8: each clause is the rule above for its service, its trap or its completion. -/
theorem coresExitTrapAndComplete : Obligations.CoresExitTrapAndComplete := by
  refine ⟨fun s c k pre x d hon h i hi => ?services, fun s c k pre x d hon h => ?fence, fun s c k pre o cause epc x d hon h => ?exception,
    fun s c k d hon h hlim => ?limit, fun s c k pre hs hidle => ?idle, fun s c d hon hrun hfind => ?complete⟩
  case services =>
    rw [exec_ecall hi, run_on hon]
    exact ⟨fun h0 => by rw [State.ecall_exit h h0]; rfl, fun h1 => by rw [State.ecall_signal h h1]; rfl, fun h0 h1 => by rw [State.ecall_unknown h h0 h1]⟩
  case fence =>
    rw [← coreFence_of_ready h]
    exact run_on hon
  case exception => exact (run_on hon).trans (by rw [coreTrap_exception h]; rfl)
  case limit =>
    rw [← dispatchLimit_of_limited h hlim]
    exact run_on hon
  case idle =>
    have hnot := State.coreReady_of_idle hidle pre
    exact ⟨run_same hs (State.ecall_of_notReady hnot), run_same hs (State.ecall_of_notReady hnot), run_same hs (coreFence_of_notReady hnot),
      run_same hs (dispatchLimit_of_idle hidle), fun t o => run_same hs (coreTrap_of_notReady hnot t o)⟩
  case complete =>
    exact ⟨fun hno => (run_on hon).trans (by rw [dispatchComplete_of_noTrap hrun hfind hno]; rfl),
      fun t htrap hst => (run_on hon).trans (by rw [dispatchComplete_of_trap hrun hfind htrap hst]; rfl)⟩

end Sys2Proof.Machine
end

section
/-! Xsly operations and data accesses of a core (05 R187, R189–R191, 06 R233, R235, R236): what an operation leaves of the core, the bytes it may write, and where an
access goes. -/

namespace Sys2Proof.Machine

/-! Vector bytes. -/

theorem length_leBytes (n v : Nat) : (leBytes v n).length = n := by
  induction n generalizing v with
  | zero => rfl
  | succ n ih => simp [leBytes, ih]

/-- Codes of one size for a list of elements. -/
theorem length_flatMap_leBytes {α : Type} (l : List α) (f : α → Nat) (n : Nat) : (l.flatMap (fun e => leBytes (f e) n)).length = n * l.length := by
  induction l with
  | nil => rfl
  | cons a l ih => rw [List.flatMap_cons, List.length_append, length_leBytes, ih, List.length_cons, Nat.mul_succ, Nat.add_comm]

/-- Free bytes advance the counter of open values alone. -/
theorem State.freeBytes_frame (s : State) (n : Nat) : (s.freeBytes n).1.length = n ∧ (s.freeBytes n).2 = { s with freeCtr := (s.freeBytes n).2.freeCtr } := by
  induction n generalizing s with
  | zero => exact ⟨rfl, rfl⟩
  | succ n ih =>
    obtain ⟨hlen, hframe⟩ := ih s.free.2
    exact ⟨congrArg (· + 1) hlen, hframe⟩

/-- A core that an Xsly operation leaves: `len` bytes from byte `off` of group `vd` written, flags apart. -/
def CoreSt.WroteAt (x y : CoreSt) (vd : Fin 32) (off len : Nat) : Prop :=
  ∃ bs : List Byte, bs.length = len ∧ y = { x.setV vd bs off with flags := y.flags }

theorem CoreSt.WroteAt.frame {x y : CoreSt} {vd : Fin 32} {off len : Nat} (h : x.WroteAt y vd off len) : y = { x with v := y.v, flags := y.flags } := by
  obtain ⟨bs, -, hy⟩ := h
  rw [hy]; rfl

/-- Bytes outside the extent keep their values. -/
theorem CoreSt.WroteAt.outside {x y : CoreSt} {vd : Fin 32} {off len i : Nat} (h : x.WroteAt y vd off len)
    (hi : i < 128 * vd.val + off ∨ 128 * vd.val + off + len ≤ i) : Store.get (fun _ => 0) y.v i = Store.get (fun _ => 0) x.v i := by
  obtain ⟨bs, hlen, hy⟩ := h
  have hv : y.v = (x.setV vd bs off).v := by rw [hy]
  have hcut := List.length_take_le' (4096 - 128 * vd.val - off) bs
  rw [hv, CoreSt.setV, Store.get_setList, dif_neg (by omega)]

/-! The four operations. -/

section
variable {x y : CoreSt} {s u : State} {vd vs1 vs2 : Fin 32}

theorem adda128_wrote (h : adda128 x vd vs1 vs2 s = some (y, u)) :
    u = s ∧ x.WroteAt y vd (16 * min (x.vl / 2) (x.vstart / 2)) (16 * (x.vl / 2 - min (x.vl / 2) (x.vstart / 2))) := by
  unfold adda128 at h
  split at h
  · cases h
  · cases h
    exact ⟨rfl, _, by rw [length_flatMap_leBytes, List.length_map, List.length_range], rfl⟩

theorem adda64_wrote (h : adda64 x vd vs1 vs2 s = some (y, u)) :
    u = s ∧ x.WroteAt y vd (8 * min x.vl x.vstart) (8 * (x.vl - min x.vl x.vstart)) := by
  unfold adda64 at h
  split at h
  · cases h
  · cases h
    exact ⟨rfl, _, by rw [length_flatMap_leBytes, List.length_map, List.length_range], rfl⟩

/-- The elements of a format that no rule converts from are free. -/
theorem vslyUnpack_wrote (h : Sys2Proof.Machine.vslyUnpack x vd vs1 vs2 s = some (y, u)) :
    u = { s with freeCtr := u.freeCtr } ∧ x.WroteAt y vd (4 * min x.vl x.vstart) (4 * (x.vl - min x.vl x.vstart)) := by
  have hfree := s.freeBytes_frame (4 * (x.vl - min x.vl x.vstart))
  unfold Sys2Proof.Machine.vslyUnpack at h
  split at h
  · cases h
  · dsimp only at h
    split at h
    · cases h
      exact ⟨hfree.2, _, hfree.1, rfl⟩
    · cases h
      exact ⟨hfree.2, _, hfree.1, rfl⟩
    · cases h
      exact ⟨rfl, _, by rw [length_flatMap_leBytes, List.length_map, List.length_map, List.length_range], rfl⟩

theorem vslyConvert_frame (h : vslyConvert x vd vs1 vs2 s = some (y, u)) : y = { x with v := y.v, flags := y.flags } ∧ u = { s with freeCtr := u.freeCtr } := by
  unfold vslyConvert at h
  split at h
  · cases h
  · dsimp only at h
    split at h
    · cases h; exact ⟨rfl, rfl⟩
    · cases h; exact ⟨rfl, rfl⟩
    · cases h; exact ⟨rfl, (s.freeBytes_frame _).2⟩
    · cases h; exact ⟨rfl, (s.freeBytes_frame _).2⟩
    · cases h; exact ⟨rfl, (s.freeBytes_frame _).2⟩
    · cases h; exact ⟨rfl, rfl⟩

end

/-- What a command that is an Xsly operation of a ready core leaves. -/
theorem exec_of_vsly {s : State} {c : CDie} {k : Core} {pre : List CoreWrite} {x : CoreSt} {d : Dispatch} {i : Instr} {f : CoreSt → State → VslyRes}
    (hon : s.mgmtOn = true) (h : s.coreReady c k pre = some (x, d)) (hexec : exec i s = .next (s.act fun s => s.vsly c k pre f)) :
    (∀ y u, f x s = some (y, u) → exec i s = .next (s.finish (u.setCore c k (y.setCsr 8 0)))) ∧
    (f x s = none → exec i s = .next (s.finish ((s.setCore c k x).trapDispatch c k d .exception 2 x.pc))) := by
  rw [hexec, State.act_on hon]
  exact ⟨fun y u hf => by simp only [State.vsly, h, hf], fun hf => by simp only [State.vsly, h, hf]⟩

/-! Data accesses. -/

/-- An access that goes to the board: of some bytes, aligned, at a board address. -/
structure RemoteOp.ToBoard (op : RemoteOp) : Prop where
  sized : op.size ≠ 0
  aligned : op.misaligned = false
  board : corePlace op.addr.toNat = .board

/-- A board address is one of memory or Tarn of a die at a position. -/
def OnBoard (a pos : Nat) (t : CDie) : Prop := ∃ off, placeOf a = .mem pos t off ∨ placeOf a = .tarn pos t off

section
variable {s u : State} {c : CDie} {k : Core} {pre : List CoreWrite} {x : CoreSt} {d : Dispatch} {op : RemoteOp} {o : Obs} {pos : Nat} {t : CDie}

theorem coreRemoteAccess_of_ready (h : s.coreReady c k pre = some (x, d)) : coreRemoteAccess c k pre op o s = s.coreAccess c k x d op o := by
  simp only [coreRemoteAccess, h]

/-- An access to an unmapped board address is refused at its source and taken as an access fault. -/
theorem State.coreAccess_unmapped (h : op.ToBoard) (hmap : extentMapped op.addr.toNat op.size = false) : s.coreAccess c k x d op o =
    ((s.refuse c d.ref.part op.writes op.addr.toNat).setCore c k x).trapDispatch c k d .exception op.faultCause x.pc := by
  unfold State.coreAccess
  dsimp only
  rw [if_neg h.sized, h.aligned, if_neg Bool.false_ne_true, h.board]
  dsimp only
  rw [hmap, Bool.not_false, if_pos rfl, State.coreFinish]

/-- A load from the memory of the core's own die reads there. -/
theorem State.coreAccess_ownMem {r : LoadDst} {a : BitVec 64} {n off : Nat} {bs : List Byte} (h : (RemoteOp.load r a n).ToBoard)
    (hmap : extentMapped a.toNat n = true) (hat : placeOf a.toNat = .mem s.pos c off)
    (hread : s.readBoard c ⟨some d.ref.part, some d.ref.ctx⟩ d.ref.part a.toNat n o false = (u, .ok, bs)) :
    s.coreAccess c k x d (.load r a n) o = u.setCore c k (x.loaded r bs) := by
  have hnear : s.coreNear c k x d .board (.load r a n) o = (u, .done (x.loaded r bs)) := by
    simp only [State.coreNear, State.coreRead, RemoteOp.addr, hread, Bool.not_true, Bool.false_eq_true, if_false]
  unfold State.coreAccess
  dsimp only
  rw [if_neg h.sized, h.aligned, if_neg Bool.false_ne_true, h.board]
  dsimp only
  rw [show extentMapped (RemoteOp.load r a n).addr.toNat (RemoteOp.load r a n).size = true from hmap, Bool.not_true, if_neg Bool.false_ne_true,
    show placeOf (RemoteOp.load r a n).addr.toNat = .mem s.pos c off from hat]
  dsimp only
  rw [decide_eq_true rfl, decide_eq_true rfl, Bool.and_true, if_pos rfl, hnear, State.coreFinish]

/-- A load, store or AMO to another die or package becomes the requests of its pieces, under `left` retries. -/
theorem State.coreAccess_far {left : Nat} (h : op.ToBoard) (hmap : extentMapped op.addr.toNat op.size = true) (hat : OnBoard op.addr.toNat pos t)
    (hfar : pos ≠ s.pos ∨ t ≠ c)
    (hop : (∃ r a n, op = .load r a n ∧ left = s.retries c) ∨ (∃ a bs, op = .store a bs ∧ left = s.retries c) ∨ (∃ f w a v rd, op = .amo f w a v rd ∧ left = 0)) :
    s.coreAccess c k x d op o = (s.setCore c k x).issueParts c left (remoteParts s c k d (s.boardCoord pos t 0) op) := by
  have hnot : ¬ (decide (pos = s.pos) && decide (t = c)) = true := by
    rw [Bool.and_eq_true, decide_eq_true_eq, decide_eq_true_eq]
    exact fun ⟨hpos, ht⟩ => hfar.elim (fun h => h hpos) (fun h => h ht)
  unfold State.coreAccess
  dsimp only
  rw [if_neg h.sized, h.aligned, if_neg Bool.false_ne_true, h.board]
  dsimp only
  rw [hmap, Bool.not_true, if_neg Bool.false_ne_true]
  obtain ⟨off, hat | hat⟩ := hat <;> rw [hat] <;> dsimp only <;> rw [if_neg hnot] <;>
    rcases hop with ⟨r, a, n, rfl, rfl⟩ | ⟨a, bs, rfl, rfl⟩ | ⟨f, w, a, v, rd, rfl, rfl⟩ <;> rfl

/-- CORE_REMOTE_ACCESS of a ready core. -/
theorem exec_coreRemoteAccess (hon : s.mgmtOn = true) (h : s.coreReady c k pre = some (x, d)) :
    exec (.coreRemoteAccess c k pre ⟨op, o⟩) s = .next (s.finish (s.coreAccess c k x d op o)) := by
  rw [← coreRemoteAccess_of_ready h]
  exact run_on hon

end

/-- Settles O9: the Xsly clauses are the rules above for what an operation wrote, the others the rule for where the access goes. -/
theorem coreOperationsAndTheirFrame : Obligations.CoreOperationsAndTheirFrame := by
  refine ⟨fun s c k pre vd vs1 vs2 x d hon h i r hi => ?ends, fun x y s u vd vs1 vs2 h => ?frame, fun x y s u vd vs1 vs2 i => ?bytes,
    fun s c k pre op o x d pos t off hon h hsize hal hplace hmap hat hfar => ?far, fun s c k pre op o x d hon h hsize hal hplace hmap => ?unmapped,
    fun s u c k pre r a n off bs o x d hon h hsize hal hplace hmap hat hread => ?ownMem⟩
  case ends =>
    rcases hi with ⟨rfl, rfl⟩ | ⟨rfl, rfl⟩ | ⟨rfl, rfl⟩ | ⟨rfl, rfl⟩
    · exact exec_of_vsly hon h (f := fun x s => adda128 x vd vs1 vs2 s) rfl
    · exact exec_of_vsly hon h (f := fun x s => adda64 x vd vs1 vs2 s) rfl
    · exact exec_of_vsly hon h (f := fun x s => vslyConvert x vd vs1 vs2 s) rfl
    · exact exec_of_vsly hon h (f := fun x s => Sys2Proof.Machine.vslyUnpack x vd vs1 vs2 s) rfl
  case frame =>
    rcases h with h | h | h | h
    · obtain ⟨rfl, hwrote⟩ := adda128_wrote h
      exact ⟨hwrote.frame, rfl⟩
    · obtain ⟨rfl, hwrote⟩ := adda64_wrote h
      exact ⟨hwrote.frame, rfl⟩
    · exact vslyConvert_frame h
    · obtain ⟨hu, hwrote⟩ := vslyUnpack_wrote h
      exact ⟨hwrote.frame, hu⟩
  case bytes =>
    exact ⟨fun h hi => (adda128_wrote h).2.outside (by omega), fun h hi => (adda64_wrote h).2.outside (by omega),
      fun h hi => (vslyUnpack_wrote h).2.outside (by omega)⟩
  case far =>
    have hto : op.ToBoard := ⟨hsize, hal, hplace⟩
    have hrun {left : Nat} (hop) := (exec_coreRemoteAccess (o := o) hon h).trans (by rw [State.coreAccess_far (left := left) hto hmap ⟨off, hat⟩ hfar hop])
    exact ⟨fun r a n hop => hrun (.inl ⟨r, a, n, hop, rfl⟩), fun a bs hop => hrun (.inr (.inl ⟨a, bs, hop, rfl⟩)),
      fun f w a v rd hop => hrun (.inr (.inr ⟨f, w, a, v, rd, hop, rfl⟩))⟩
  case unmapped => rw [exec_coreRemoteAccess hon h, State.coreAccess_unmapped ⟨hsize, hal, hplace⟩ hmap]
  case ownMem => rw [exec_coreRemoteAccess hon h, State.coreAccess_ownMem ⟨hsize, hal, hplace⟩ hmap hat hread]

end Sys2Proof.Machine
end

section
/-! DMA engines (05 R208–R214, R222): the descriptor an engine takes, and the run that each kind of descriptor leaves with it. -/

namespace Sys2Proof.Machine

/-! Taking a descriptor. -/

/-- An engine of a die that takes a descriptor: the entry `en` of queue `r`, granted by key `k`, goes to engine `e`, and `u` is the state without the entry. -/
structure State.TakesDma (s : State) (c : CDie) (k : Nat) (r : QRef) (e : Nat) (en : Entry) (u : State) : Prop where
  running : s.enginesRun c = true
  next : s.nextDma c = some (k, r)
  engine : s.freeEngine c = some e
  entry : s.takeEntry r = some (en, u)

/-- The state in which the engine works: the run has its number, and the grant goes round. -/
def State.granted (u : State) (c : CDie) (k : Nat) : State := State.setArray { u with nextId := u.nextId + 1 } c { u.array c with grantDma := k }

/-- The run as it begins, with the retries of that moment. -/
def State.newRun (s u : State) (c : CDie) (r : QRef) (e : Nat) (en : Entry) : DmaRun :=
  { id := u.nextId, ref := r, engine := e, index := en.index, desc := en.bytes, retries := s.dmaRetries c en.bytes }

/-- An engine keeps a run until it completes. -/
def State.holdRun (w : State) (c : CDie) (x : DmaRun) : State := State.showEngines { w with dmaRuns := w.dmaRuns ++ [x] } c

section
variable {s u w w' : State} {c : CDie} {k e : Nat} {r : QRef} {en : Entry}

theorem State.engine_of_taken (h : s.TakesDma c k r e en u) (f : DmaRun → State → State × DmaRun) : s.engine c (dKIND en.bytes) f =
    (f (s.newRun u c r e en) (u.granted c k)).1.holdRun c (f (s.newRun u c r e en) (u.granted c k)).2 := by
  simp only [State.engine, h.running, h.next, h.engine, h.entry, bne_self_eq_false]
  rfl

/-- Without a descriptor, an engine or engines that run, nothing happens. -/
theorem State.engine_of_idle (h : s.enginesRun c = false ∨ s.nextDma c = none ∨ s.freeEngine c = none) (kind : Nat) (f : DmaRun → State → State × DmaRun) :
    s.engine c kind f = s := by
  unfold State.engine
  split
  · rfl
  · next hrun =>
    rcases h with h | h | h
    · exact absurd h (by simpa using hrun)
    · rw [h]
    · cases hn : s.nextDma c <;> rw [h]

/-! SIGNAL (R210). -/

theorem dmaSignal_of_taken (h : s.TakesDma c k r e en u) (hkind : dKIND en.bytes = 3) :
    dmaSignal c s = (u.granted c k).holdRun c (s.newRun u c r e en) := by
  rw [dmaSignal, ← hkind, State.engine_of_taken h]

/-! COPY (R211, R212). -/

/-- A run whose chunks are counted. -/
def DmaRun.counted (x : DmaRun) : DmaRun := { x with nchunk := dmChunks x.desc }

/-- A run that ends with a status. -/
def DmaRun.ended (x : DmaRun) (st : Nat) : DmaRun := { x with status := BitVec.ofNat 8 st }

/-- The check of a COPY's destination: of the far board under REMOTE, else by the owner of the address. -/
def State.checkCopyDst (w : State) (r : QRef) (d : List Byte) : State × Bool :=
  if dmREMOTE d then w.checkFar r true (dmDST d) (dmLEN d) else w.checkRange r true (dmDST_TARN d) (dmDST d) (dmLEN d)

theorem dmaCopy_of_refusedSrc (h : s.TakesDma c k r e en u) (hkind : dKIND en.bytes = 0) (o : Obs)
    (hsrc : (u.granted c k).checkRange r false (dmSRC_TARN en.bytes) (dmSRC en.bytes) (dmLEN en.bytes) = (w, false)) :
    dmaCopy c o s = w.holdRun c ((s.newRun u c r e en).counted.ended stRANGE) := by
  rw [dmaCopy, ← hkind, State.engine_of_taken h]
  simp only [State.newRun, hsrc]
  rfl

theorem dmaCopy_of_refusedDst (h : s.TakesDma c k r e en u) (hkind : dKIND en.bytes = 0) (o : Obs)
    (hsrc : (u.granted c k).checkRange r false (dmSRC_TARN en.bytes) (dmSRC en.bytes) (dmLEN en.bytes) = (w, true))
    (hdst : w.checkCopyDst r en.bytes = (w', false)) :
    dmaCopy c o s = w'.holdRun c ((s.newRun u c r e en).counted.ended stRANGE) := by
  unfold State.checkCopyDst at hdst
  rw [dmaCopy, ← hkind, State.engine_of_taken h]
  simp only [State.newRun, hsrc, Bool.not_true, Bool.false_eq_true, if_false, hdst]
  rfl

theorem dmaCopy_of_checked (h : s.TakesDma c k r e en u) (hkind : dKIND en.bytes = 0) (o : Obs)
    (hsrc : (u.granted c k).checkRange r false (dmSRC_TARN en.bytes) (dmSRC en.bytes) (dmLEN en.bytes) = (w, true))
    (hdst : w.checkCopyDst r en.bytes = (w', true)) : dmaCopy c o s =
      ((List.range (dmChunks en.bytes)).foldl (copyChunk o) (w', (s.newRun u c r e en).counted)).1.holdRun c
        ((List.range (dmChunks en.bytes)).foldl (copyChunk o) (w', (s.newRun u c r e en).counted)).2 := by
  unfold State.checkCopyDst at hdst
  rw [dmaCopy, ← hkind, State.engine_of_taken h]
  simp only [State.newRun, hsrc, Bool.not_true, Bool.false_eq_true, if_false, hdst]
  rfl

/-! GET (R213). -/

theorem dmaGet_of_refusedSrc (h : s.TakesDma c k r e en u) (hkind : dKIND en.bytes = 1)
    (hsrc : (u.granted c k).checkFar r false (dmSRC en.bytes) (dmLEN en.bytes) = (w, false)) :
    dmaGet c s = w.holdRun c ((s.newRun u c r e en).counted.ended stRANGE) := by
  rw [dmaGet, ← hkind, State.engine_of_taken h]
  simp only [State.newRun, hsrc]
  rfl

theorem dmaGet_of_refusedDst (h : s.TakesDma c k r e en u) (hkind : dKIND en.bytes = 1)
    (hsrc : (u.granted c k).checkFar r false (dmSRC en.bytes) (dmLEN en.bytes) = (w, true))
    (hdst : w.checkRange r true (dmDST_TARN en.bytes) (dmDST en.bytes) (dmLEN en.bytes) = (w', false)) :
    dmaGet c s = w'.holdRun c ((s.newRun u c r e en).counted.ended stRANGE) := by
  rw [dmaGet, ← hkind, State.engine_of_taken h]
  simp only [State.newRun, hsrc, Bool.not_true, Bool.false_eq_true, if_false, hdst]
  rfl

theorem dmaGet_of_checked (h : s.TakesDma c k r e en u) (hkind : dKIND en.bytes = 1)
    (hsrc : (u.granted c k).checkFar r false (dmSRC en.bytes) (dmLEN en.bytes) = (w, true))
    (hdst : w.checkRange r true (dmDST_TARN en.bytes) (dmDST en.bytes) (dmLEN en.bytes) = (w', true)) : dmaGet c s =
      ((List.range (dmChunks en.bytes)).foldl (fun (s' : State) i =>
        (s'.newXid c).2.issue (getReqs (s'.newXid c).2 (s.newRun u c r e en).counted i (s'.newXid c).1)) w').holdRun c (s.newRun u c r e en).counted := by
  rw [dmaGet, ← hkind, State.engine_of_taken h]
  simp only [State.newRun, hsrc, Bool.not_true, Bool.false_eq_true, if_false, hdst]
  rfl

/-! CAIRN_CFG (R222). -/

theorem cairnCfg_of_owned (h : s.TakesDma c k r e en u) (hkind : dKIND en.bytes = 4)
    (howns : (u.granted c k).ownsCairn c r.part (qSIG_CAIRN en.bytes) = true) : cairnCfg c s =
      ((u.granted c k).configCairn c (qSIG_CAIRN en.bytes) (BitVec.ofNat 64 (dmSRC en.bytes)) (qSIG_GEN en.bytes) (dmDST_COORD en.bytes)
        (BitVec.ofNat 13 (bits (dmDST en.bytes) 12 0)) (BitVec.ofNat 6 (bits (dmDST en.bytes) 18 13)) (dmREMOTE en.bytes)).holdRun c
        (s.newRun u c r e en) := by
  rw [cairnCfg, ← hkind, State.engine_of_taken h]
  simp only [State.newRun, howns]
  rfl

theorem cairnCfg_of_notOwned (h : s.TakesDma c k r e en u) (hkind : dKIND en.bytes = 4)
    (howns : (u.granted c k).ownsCairn c r.part (qSIG_CAIRN en.bytes) = false) :
    cairnCfg c s = (u.granted c k).holdRun c ((s.newRun u c r e en).ended stRANGE) := by
  rw [cairnCfg, ← hkind, State.engine_of_taken h]
  simp only [State.newRun, howns]
  rfl

end

/-! FANOUT (R214): what a run keeps while its chunks go out and its destinations are settled. -/

/-- A later state of one run: what its descriptor fixed is as it was, it has as many destinations, and it has not ended. -/
structure DmaRun.Continues (x y : DmaRun) : Prop where
  id : y.id = x.id
  ref : y.ref = x.ref
  desc : y.desc = x.desc
  nchunk : y.nchunk = x.nchunk
  fan : y.fan = x.fan
  status : y.status = x.status
  dests : y.dests.length = x.dests.length

theorem DmaRun.Continues.refl (x : DmaRun) : x.Continues x := ⟨rfl, rfl, rfl, rfl, rfl, rfl, rfl⟩

theorem DmaRun.Continues.trans {x y z : DmaRun} (h : x.Continues y) (h' : y.Continues z) : x.Continues z :=
  ⟨h'.id.trans h.id, h'.ref.trans h.ref, h'.desc.trans h.desc, h'.nchunk.trans h.nchunk, h'.fan.trans h.fan, h'.status.trans h.status,
    h'.dests.trans h.dests⟩

/-- A fold whose steps continue a run continues it. -/
theorem DmaRun.Continues.foldl {α β : Type} {run : β → DmaRun} {f : β → α → β} (hf : ∀ b a, (run b).Continues (run (f b a))) (l : List α) (b : β) :
    (run b).Continues (run (l.foldl f b)) := by
  induction l generalizing b with
  | nil => exact .refl _
  | cons a l ih => exact (hf b a).trans (ih (f b a))

theorem DmaRun.lose_continues (x : DmaRun) (k i : Nat) : x.Continues (x.lose k i) := by
  unfold DmaRun.lose
  split
  · exact .refl _
  · split
    · exact .refl _
    · exact ⟨rfl, rfl, rfl, rfl, rfl, rfl, List.length_set⟩

theorem fanChunk_continues (bs : List Byte) (i : Nat) (st : State × DmaRun) (k : Nat) : st.2.Continues (fanChunk bs i st k).2 := by
  unfold fanChunk
  dsimp only
  split
  · exact .refl _
  · split
    · exact .refl _
    · split
      · exact DmaRun.lose_continues _ _ _
      · exact .refl _

theorem fanChunks_continues (bs : List Byte) (i : Nat) (l : List Nat) (s : State) (x : DmaRun) : x.Continues (l.foldl (fanChunk bs i) (s, x)).2 :=
  DmaRun.Continues.foldl (run := Prod.snd) (fanChunk_continues bs i) l (s, x)

theorem State.destSignal_continues (s : State) (x : DmaRun) (k : Nat) : x.Continues (s.destSignal x k).2 := by
  have hset (y : DmaDest) : x.Continues { x with dests := x.dests.set k y } := ⟨rfl, rfl, rfl, rfl, rfl, rfl, List.length_set⟩
  unfold State.destSignal
  split
  · exact .refl _
  · split
    · exact .refl _
    · dsimp only
      split
      · exact hset _
      · split <;> exact hset _

theorem State.settleDests_continues (s : State) (x : DmaRun) : x.Continues (s.settleDests x).2 := by
  refine DmaRun.Continues.foldl (run := Prod.snd) (fun st k => ?_) _ (s, x)
  split
  · exact .refl _
  · exact State.destSignal_continues _ _ _

/-- A FANOUT's run as its list is read. -/
def DmaRun.fanned (x : DmaRun) : DmaRun := { x.counted with fan := true }

/-- The destinations of a FANOUT's list. -/
def fanList (d bs : List Byte) : List DmaDest := (List.range (dmFAN_N d)).map (fun i => fanEntry ((bs.drop (16 * i)).take 16) (qSIG_GEN d))

/-- A FANOUT's run with its destinations, those that cannot be reached failed. -/
def DmaRun.aimed (x : DmaRun) (ds : List DmaDest) : DmaRun :=
  { x with dests := ds, failed := (List.range ds.length).filter (fun k => (ds[k]?.map (·.bad)).getD false) }

section
variable {s u w w' : State} {c : CDie} {k e : Nat} {r : QRef} {en : Entry} {o : Obs} {ls : AccStatus} {bs : List Byte}

/-- The read of a FANOUT's list. -/
abbrev State.readFanList (v : State) (c : CDie) (r : QRef) (d : List Byte) (o : Obs) : State × AccStatus × List Byte :=
  v.readOp c ⟨some r.part, some r.ctx⟩ r.part (dmDST_TARN d) (dmDST d) (16 * dmFAN_N d) o

theorem dmaFanout_of_unreadable (h : s.TakesDma c k r e en u) (hkind : dKIND en.bytes = 2)
    (hlist : (u.granted c k).readFanList c r en.bytes o = (w, ls, bs)) (hls : ls ≠ .ok) :
    dmaFanout c o s = w.holdRun c ((s.newRun u c r e en).fanned.ended ls.code) := by
  rw [dmaFanout, ← hkind, State.engine_of_taken h]
  simp only [State.newRun, hlist, bne_iff_ne.2 hls]
  rfl

theorem dmaFanout_of_refused (h : s.TakesDma c k r e en u) (hkind : dKIND en.bytes = 2)
    (hlist : (u.granted c k).readFanList c r en.bytes o = (w, .ok, bs))
    (hsrc : w.checkRange r false (dmSRC_TARN en.bytes) (dmSRC en.bytes) (dmLEN en.bytes) = (w', false)) :
    dmaFanout c o s = w'.holdRun c ((s.newRun u c r e en).fanned.ended stRANGE) := by
  rw [dmaFanout, ← hkind, State.engine_of_taken h]
  simp only [State.newRun, hlist, hsrc]
  rfl

/-- A FANOUT whose source passes goes on to every destination of its list. -/
theorem dmaFanout_of_checked (h : s.TakesDma c k r e en u) (hkind : dKIND en.bytes = 2)
    (hlist : (u.granted c k).readFanList c r en.bytes o = (w, .ok, bs))
    (hsrc : w.checkRange r false (dmSRC_TARN en.bytes) (dmSRC en.bytes) (dmLEN en.bytes) = (w', true)) :
    ∃ (x : State) (y : DmaRun), dmaFanout c o s = x.holdRun c y ∧ ((s.newRun u c r e en).fanned.aimed (fanList en.bytes bs)).Continues y := by
  have hlist' : (u.granted c k).readFanList c (s.newRun u c r e en).ref (s.newRun u c r e en).desc o = (w, .ok, bs) := hlist
  have hsrc' : w.checkRange (s.newRun u c r e en).ref false (dmSRC_TARN (s.newRun u c r e en).desc) (dmSRC (s.newRun u c r e en).desc)
    (dmLEN (s.newRun u c r e en).desc) = (w', true) := hsrc
  rw [dmaFanout, ← hkind, State.engine_of_taken h]
  simp only [hlist', hsrc', bne_self_eq_false, Bool.not_true, Bool.false_eq_true, if_false]
  refine ⟨_, _, rfl, .trans ?_ (State.settleDests_continues _ _)⟩
  refine DmaRun.Continues.foldl (run := Prod.snd) (fun st i => ?_) _ (w', _)
  split
  · exact DmaRun.Continues.foldl (run := id) (fun y k => DmaRun.lose_continues y k i) _ st.2
  · exact fanChunks_continues _ i _ _ st.2

end

/-- Settles O10: each clause is the rule above for its kind of descriptor and what its checks find. -/
theorem enginesTakeDescriptors : Obligations.EnginesTakeDescriptors := by
  refine ⟨fun s u c k e r en hon hrun hnext hfree hentry => ?takes, fun s c o hs hidle => ?idle⟩
  case takes =>
    intro v run held n
    have h : s.TakesDma c k r e en u := ⟨hrun, hnext, hfree, hentry⟩
    refine ⟨fun hkind => ?signal, fun hkind o w w' ok hsrc hdst => ⟨fun hok => ?copy, fun hok => ?copyDst⟩, fun hkind o w hsrc => ?copySrc,
      fun hkind w w' ok hsrc hdst => ⟨fun hok => ?get, fun hok => ?getDst⟩, fun hkind w hsrc => ?getSrc,
      fun hkind o w ls bs hlist => ⟨fun hls => ?unreadable, fun hls w' hsrc => ?fanSrc, fun hls w' hsrc => ?fan⟩,
      fun hkind howns => ?owned, fun hkind howns => ?notOwned⟩
    case signal => exact (run_on hon).trans (by rw [dmaSignal_of_taken h hkind]; rfl)
    case copy => subst hok; exact (run_on hon).trans (by rw [dmaCopy_of_checked h hkind o hsrc hdst]; rfl)
    case copyDst => subst hok; exact (run_on hon).trans (by rw [dmaCopy_of_refusedDst h hkind o hsrc hdst]; rfl)
    case copySrc => exact (run_on hon).trans (by rw [dmaCopy_of_refusedSrc h hkind o hsrc]; rfl)
    case get => subst hok; exact (run_on hon).trans (by rw [dmaGet_of_checked h hkind hsrc hdst]; rfl)
    case getDst => subst hok; exact (run_on hon).trans (by rw [dmaGet_of_refusedDst h hkind hsrc hdst]; rfl)
    case getSrc => exact (run_on hon).trans (by rw [dmaGet_of_refusedSrc h hkind hsrc]; rfl)
    case unreadable => exact (run_on hon).trans (by rw [dmaFanout_of_unreadable h hkind hlist hls]; rfl)
    case fanSrc => subst hls; exact (run_on hon).trans (by rw [dmaFanout_of_refused h hkind hlist hsrc]; rfl)
    case fan =>
      subst hls
      obtain ⟨x, y, heq, hy⟩ := dmaFanout_of_checked h hkind hlist hsrc
      refine ⟨x, y, (run_on hon).trans (by rw [heq]; rfl), hy.id, hy.ref, hy.desc, hy.fan, hy.nchunk, hy.status, hy.dests.trans ?_⟩
      exact (List.length_map _).trans List.length_range
    case owned => exact (run_on hon).trans (by rw [cairnCfg_of_owned h hkind howns]; rfl)
    case notOwned => exact (run_on hon).trans (by rw [cairnCfg_of_notOwned h hkind howns]; rfl)
  case idle =>
    exact ⟨run_same hs (State.engine_of_idle hidle _ _), run_same hs (State.engine_of_idle hidle _ _), run_same hs (State.engine_of_idle hidle _ _),
      run_same hs (State.engine_of_idle hidle _ _), run_same hs (State.engine_of_idle hidle _ _)⟩

end Sys2Proof.Machine
end

section
/-! The completion of DMA runs (05 R212, R214–R216): the destinations that are left, the status, the record and the fault. -/

namespace Sys2Proof.Machine

/-- A run that is over: the oldest of its die with nothing outstanding, on engines that run. -/
structure State.RunOver (s : State) (c : CDie) (r : DmaRun) : Prop where
  running : s.enginesRun c = true
  oldest : s.dmaRuns.find? (fun r => r.ref.die == c && !(s.runOpen r.id)) = some r

/-- An aborted run fails every destination that it has not signalled. -/
def DmaRun.abortDests (r : DmaRun) : DmaRun :=
  if r.aborted then { r with dests := r.dests.map (fun x => if x.signalled then x else { x with failed := true }) } else r

/-- The state without the run, and the run, after the signal or abort of every destination that is left. -/
def State.signalDests (s : State) (r : DmaRun) : State × DmaRun :=
  (List.range r.abortDests.dests.length).foldl (fun (st : State × DmaRun) k => st.1.destSignal st.2 k)
    ({ s with dmaRuns := s.dmaRuns.filter (fun x => x.id != r.id) }, r.abortDests)

/-- The record of a run that is over, with its signal or abort and its message. -/
def State.recordRun (s : State) (c : CDie) (r : DmaRun) : State :=
  ((s.undefChunks r).showEngines c).completeDma r.ref r.desc (runStatus r) r.nchunk r.resent
    (if runStatus r = stCHUNK_FAIL ∨ r.aborted = true then r.failed else []) r.retries

theorem runStatus_eq (r : DmaRun) : runStatus r = if r.status ≠ 0 then r.status.toNat else if r.failed = [] then stOK else stCHUNK_FAIL := by
  simp only [runStatus, bne_iff_ne, List.isEmpty_iff]

section
variable {s : State} {c : CDie} {r : DmaRun}

/-- A run that is over ends with its record, and RANGE and CHUNK_FAIL with the fault that says why. -/
theorem dmaComplete_of_over (h : s.RunOver c r) : dmaComplete c s =
    if runStatus (s.signalDests r).2 = stRANGE then
      ((s.signalDests r).1.recordRun c (s.signalDests r).2).raise (.dma c) 0x101 2 ⟨some (s.signalDests r).2.ref.part, some (s.signalDests r).2.ref.ctx⟩
    else if runStatus (s.signalDests r).2 = stCHUNK_FAIL then
      ((s.signalDests r).1.recordRun c (s.signalDests r).2).raise (.dma c) 0x102 2 ⟨some (s.signalDests r).2.ref.part, some (s.signalDests r).2.ref.ctx⟩
    else (s.signalDests r).1.recordRun c (s.signalDests r).2 := by
  simp only [dmaComplete, h.running, h.oldest, Bool.or_eq_true, decide_eq_true_eq]
  rfl

/-- With no run that is over, or no engines that run, nothing happens. -/
theorem dmaComplete_of_none (h : s.enginesRun c = false ∨ s.dmaRuns.find? (fun r => r.ref.die == c && !(s.runOpen r.id)) = none) : dmaComplete c s = s := by
  unfold dmaComplete
  split
  · rfl
  · next hrun =>
    rcases h with h | h
    · exact absurd h (by simpa using hrun)
    · rw [h]

/-- A run without destinations has none to signal. -/
theorem State.signalDests_of_noDests (hdests : r.dests = []) (hab : r.aborted = false) :
    s.signalDests r = ({ s with dmaRuns := s.dmaRuns.filter (fun x => x.id != r.id) }, r) := by
  have hr : r.abortDests = r := if_neg (by simp [hab])
  rw [State.signalDests, hr, hdests]; rfl

/-- A run that lost nothing leaves every byte as it is. -/
theorem State.undefChunks_of_noLost (hlost : r.lost = []) : s.undefChunks r = s := by rw [State.undefChunks, hlost]; rfl

end

/-- Settles O11: each clause is the rule above at the status that the run ends with. -/
theorem enginesCompleteTheirRuns : Obligations.EnginesCompleteTheirRuns := by
  refine ⟨fun s c r hon hrun hfind => ?ended, fun s c r hon hrun hfind hdests hab hst hfailed hlost => ?clean,
    fun s c hs hnone => run_same hs (dmaComplete_of_none hnone)⟩
  case ended =>
    intro r0 e st u
    have heq := dmaComplete_of_over ⟨hrun, hfind⟩
    have hst : runStatus (s.signalDests r).2 = st := runStatus_eq _
    have hu : (s.signalDests r).1.recordRun c (s.signalDests r).2 = u := by rw [State.recordRun, hst]; rfl
    rw [hst, hu] at heq
    refine ⟨fun hrange => (run_on hon).trans ?_, fun hfail => (run_on hon).trans ?_, fun hrange hfail => (run_on hon).trans ?_⟩
    · rw [heq, if_pos hrange]; rfl
    · rw [heq, if_neg (by rw [hfail]; decide), if_pos hfail]; rfl
    · rw [heq, if_neg hrange, if_neg hfail]
  case clean =>
    have hok : runStatus r = stOK := by rw [runStatus_eq, hst, hfailed]; rfl
    have heq := dmaComplete_of_over ⟨hrun, hfind⟩
    rw [State.signalDests_of_noDests hdests hab, State.recordRun, State.undefChunks_of_noLost hlost, hok, if_neg (by decide), if_neg (by decide),
      if_neg (by simp [hab]; decide)] at heq
    exact (run_on hon).trans (by rw [heq])

end Sys2Proof.Machine
end

section
/-! The end of outstanding requests (05 R189, R212, R213, 06 R236, R237, 08 R312, R337–R340, R346): responses, timeouts, and the windows and rates of their sources. -/

namespace Sys2Proof.Machine

section
variable {s u : State} {c : CDie} {p : Packet} {r : Req}

/-! Responses. One that is not taken, or matches no request, leaves what `State.response` leaves. -/

theorem State.ackReceive_of_match (h : s.response c p opACK [opWRITE, opWRITE_MASKED, opSIGNAL, opCAIRN_ABORT] = (u, some r)) : s.ackReceive c p =
    if RespStatus.ofCode p.md = .ok then (u.echo c r p.ece).ackDone r else (u.echo c r p.ece).failReq r (.resp (RespStatus.ofCode p.md)) := by
  simp only [State.ackReceive, h]

theorem State.ackReceive_of_none (h : s.response c p opACK [opWRITE, opWRITE_MASKED, opSIGNAL, opCAIRN_ABORT] = (u, none)) : s.ackReceive c p = u := by
  simp only [State.ackReceive, h]

theorem State.readData_of_get (h : s.response c p opREAD_DATA [opREAD] = (u, some r)) {id ch off : Nat} (hown : r.owner = .dmaGet id ch off) (o : Obs) :
    s.readData c p o = (((u.echo c r p.ce).retire r).getData id ch off p.payload o).pump := by
  simp only [State.readData, h, hown]

theorem State.readData_of_load (h : s.response c p opREAD_DATA [opREAD] = (u, some r)) {d : CDie} {k id : Nat} {dst : LoadDst} {off n : Nat}
    (hown : r.owner = .load d k id dst off n) (o : Obs) :
    s.readData c p o = (((u.echo c r p.ce).retire r).coreGets d k id (fun x => x.loaded dst ((p.payload.drop off).take n))).pump := by
  simp only [State.readData, h, hown]

theorem State.readData_of_none (h : s.response c p opREAD_DATA [opREAD] = (u, none)) (o : Obs) : s.readData c p o = u := by simp only [State.readData, h]

theorem State.readErr_of_match (h : s.response c p opREAD_ERR [opREAD] = (u, some r)) : s.readErr c p = u.failReq r (.resp (RespStatus.ofCode p.md)) := by
  simp only [State.readErr, h]

theorem State.readErr_of_none (h : s.response c p opREAD_ERR [opREAD] = (u, none)) : s.readErr c p = u := by simp only [State.readErr, h]

theorem State.amoResp_of_ok (h : s.response c p opAMO_RESP [opAMO] = (u, some r)) {d : CDie} {k id : Nat} {rd : Fin 32} {w : Bool}
    (hown : r.owner = .amo d k id rd w) (hst : RespStatus.ofCode p.md = .ok) :
    s.amoResp c p = (((u.echo c r p.ece).retire r).coreGets d k id (fun x => x.loaded (.x rd true) (p.body.take (if w then 8 else 4)))).pump := by
  simp only [State.amoResp, h, hst, hown]
  rfl

theorem State.amoResp_of_failed (h : s.response c p opAMO_RESP [opAMO] = (u, some r)) (hst : RespStatus.ofCode p.md ≠ .ok) :
    s.amoResp c p = (u.echo c r p.ece).failReq r (.resp (RespStatus.ofCode p.md)) := by
  simp only [State.amoResp, h, if_pos (bne_iff_ne.2 hst)]

theorem State.amoResp_of_none (h : s.response c p opAMO_RESP [opAMO] = (u, none)) : s.amoResp c p = u := by simp only [State.amoResp, h]

/-! Timeouts. -/

/-- A request that times out: outstanding at a source that runs. -/
structure State.TimesOut (s : State) (c : CDie) (xid : BitVec 32) (seq : BitVec 16) (r : Req) : Prop where
  running : s.sourcesRun = true
  waits : s.requests.find? (fun r => r.sent && r.die == c && r.pkt.xid == xid && r.pkt.seq == seq) = some r

/-- A request with one retry fewer. -/
def State.spendRetry (s : State) (r : Req) : State := { s with requests := s.requests.map (fun q => if q == r then { q with left := q.left - 1 } else q) }

/-- A request sent again, for the tokens that its window has. -/
def State.resend (s : State) (c : CDie) (r : Req) : State :=
  (s.updWindow c (Coord.die r.pkt.dst) (fun w => { w with tokens := w.tokens - 4 * r.pkt.rateCost })).sendFrom (CDie.die c) r.pkt

variable {xid : BitVec 32} {seq : BitVec 16}

theorem State.requestTimeout_of_spent (h : s.TimesOut c xid seq r) (hleft : r.left = 0) : s.requestTimeout c xid seq = s.failReq r .timeout := by
  simp only [State.requestTimeout, h.running, h.waits, if_pos hleft]
  rfl

theorem State.requestTimeout_of_store (h : s.TimesOut c xid seq r) (hleft : r.left ≠ 0) {j : CDie} {k id : Nat} (hown : r.owner = .store j k id) :
    s.requestTimeout c xid seq = (s.spendRetry r).resend c r := by
  simp only [State.requestTimeout, h.running, h.waits, if_neg hleft, hown]
  rfl

/-- A DMA packet that is resent counts, for its run and its die. -/
theorem State.requestTimeout_of_dma (h : s.TimesOut c xid seq r) (hleft : r.left ≠ 0) {id d ch : Nat} (hown : r.owner = .dma id d ch) :
    s.requestTimeout c xid seq =
      ((((s.spendRetry r).updRun id (fun x => { x with resent := x.resent + 1 })).bump (.dma c) C.DMA_RESENT 1).resend c r) := by
  simp only [State.requestTimeout, h.running, h.waits, if_neg hleft, hown]
  rfl

/-! Windows and rates. -/

theorem windowRelease_of_idle {dest : BitVec 24} {w : Window} (h : s.window? c dest.toNat = some w) (hidle : w.pkts = 0) : windowRelease c dest s =
    (State.showWinUse { s with windows := s.windows.filter (fun x => !(x.die == c && x.dest == dest.toNat)) } c).pump := by
  simp only [windowRelease, h, hidle, bne_self_eq_false, Bool.false_eq_true, if_false]

theorem windowRelease_of_busy {dest : BitVec 24} {w : Window} (h : s.window? c dest.toNat = some w) (hbusy : w.pkts ≠ 0) : windowRelease c dest s = s := by
  simp only [windowRelease, h, if_pos (bne_iff_ne.2 hbusy)]

end

/-- An echo lowers a rate by MD/16, to R_MIN at the least (R346). -/
theorem rateRule_echo {lo hi : Nat} (h : lo ≤ hi) (r md ai : Nat) : rateRule true r md ai lo hi = max lo (r - r * md / 16) := by
  rw [rateRule, if_pos rfl, Nat.min_eq_left h]

theorem rateRule_echo_le {r lo hi : Nat} (h : lo ≤ hi) (hr : lo ≤ r) (md ai : Nat) : rateRule true r md ai lo hi ≤ r := by
  rw [rateRule_echo h]
  exact Nat.max_le.2 ⟨hr, Nat.sub_le _ _⟩

/-- Without an echo a rate does not fall. -/
theorem le_rateRule {r hi : Nat} (hr : r ≤ hi) (md ai lo : Nat) : r ≤ rateRule false r md ai lo hi :=
  Nat.le_min.2 ⟨hr, Nat.le_add_right _ _⟩

/-- Settles O12: each clause is the rule above for its response, its timeout, its window or its rate. -/
theorem outstandingRequestsEnd : Obligations.OutstandingRequestsEnd := by
  refine ⟨fun s u c p r hon h => ?ack, fun s u c p o r hon h => ?data, fun s u c p r hon h => ?error, fun s u c d p r k id rd w hon h hown => ?amo,
    fun s u c p o hon => ?unmatched, fun s c xid seq r hon hrun hfind => ?timeout, fun s c dest w hon h => ?window, fun s c dest hon => run_on hon,
    fun r md ai lo hi hlohi hlo hhi hmd => ?rate⟩
  case ack =>
    have heq := State.ackReceive_of_match h
    refine ⟨fun hst => ?_, fun hst => ?_⟩
    · rw [if_pos hst] at heq
      rw [← heq]
      exact run_on hon
    · rw [if_neg hst] at heq
      rw [← heq]
      exact run_on hon
  case data =>
    refine ⟨fun id ch off hown => ?_, fun d k id dst off n hown => ?_⟩
    · rw [← State.readData_of_get h hown]
      exact run_on hon
    · rw [← State.readData_of_load h hown]
      exact run_on hon
  case error =>
    rw [← State.readErr_of_match h]
    exact run_on hon
  case amo =>
    refine ⟨fun hst => ?_, fun hst => ?_⟩
    · rw [← State.amoResp_of_ok h hown hst]
      exact run_on hon
    · rw [← State.amoResp_of_failed h hst]
      exact run_on hon
  case unmatched =>
    exact ⟨fun h => (run_on hon).trans (by rw [State.ackReceive_of_none h]), fun h => (run_on hon).trans (by rw [State.readData_of_none h]),
      fun h => (run_on hon).trans (by rw [State.readErr_of_none h]), fun h => (run_on hon).trans (by rw [State.amoResp_of_none h])⟩
  case timeout =>
    intro u again
    have h : s.TimesOut c xid seq r := ⟨hrun, hfind⟩
    exact ⟨fun hleft => (run_on hon).trans (by rw [State.requestTimeout_of_spent h hleft]),
      fun j k id hleft hown => (run_on hon).trans (by rw [State.requestTimeout_of_store h hleft hown]; rfl),
      fun id d ch hleft hown => (run_on hon).trans (by rw [State.requestTimeout_of_dma h hleft hown]; rfl)⟩
  case window =>
    refine ⟨fun hidle => ?_, fun hbusy => (run_on hon).trans (by rw [windowRelease_of_busy h hbusy])⟩
    rw [← windowRelease_of_idle h hidle]
    exact run_on hon
  case rate => exact ⟨rateRule_echo hlohi r md ai, rateRule_echo_le hlohi hlo md ai, rfl, le_rateRule hhi md ai lo⟩

end Sys2Proof.Machine
end

section
/-! Cairns (05 R217–R220, 08 R347): the judgement of a signal or abort by its bit and generation, what a first arrival leaves, and the packets that bring them. -/

namespace Sys2Proof.Machine

/-- A cairn's target holds a bit. -/
def Cairn.Awaits (x : Cairn) (bit : Nat) : Prop := x.target ≠ 0 ∧ x.target &&& BitVec.ofNat 64 (2 ^ bit) ≠ 0

/-- How far a generation is past the cairn's. -/
def Cairn.ahead (x : Cairn) (gen : BitVec 16) : Nat := (gen - x.gen).toNat

theorem Cairn.ahead_gen (x : Cairn) : x.ahead x.gen = 0 := by simp [Cairn.ahead]

theorem Cairn.ahead_next (x : Cairn) : x.ahead (x.gen + 1) = 1 := by
  rw [Cairn.ahead, BitVec.add_comm, BitVec.add_sub_cancel]; rfl

/-- A bit that the target holds is one of a target that is not empty. -/
theorem Cairn.awaits_of_bit {x : Cairn} {bit : Nat} (h : x.target &&& BitVec.ofNat 64 (2 ^ bit) ≠ 0) : x.Awaits bit :=
  ⟨fun h0 => h (by rw [h0]; exact BitVec.zero_and), h⟩

/-- The state after a first arrival of the current generation, before what it completes is released. -/
def State.arriveNow (s : State) (c : CDie) (n bit : Nat) : State :=
  (s.updTracks c n (fun t => { t with cur := t.cur ++ [(bit, BitVec.ofNat 32 (s.now (CDie.die c)).toNat)] })).setCairn c n { s.cairn c n with
    mask := (s.cairn c n).mask ||| BitVec.ofNat 64 (2 ^ bit)
    first := if (s.cairn c n).mask = 0 then s.now (CDie.die c) else (s.cairn c n).first }

/-- The state after a first arrival of the next generation. -/
def State.arriveNext (s : State) (c : CDie) (n bit : Nat) : State :=
  (s.updTracks c n (fun t => { t with nxt := t.nxt ++ [(bit, BitVec.ofNat 32 (s.now (CDie.die c)).toNat)] })).setCairn c n { s.cairn c n with
    next := (s.cairn c n).next ||| BitVec.ofNat 64 (2 ^ bit)
    nfirst := if (s.cairn c n).next = 0 then s.now (CDie.die c) else (s.cairn c n).nfirst }

section
variable {s : State} {c : CDie} {p : Part} {n : Nat} {gen : BitVec 16} {bit : Nat} {ab : Bool}

/-! The judgement (R219). -/

theorem State.judge_stray (h : ¬ (s.cairn c n).Awaits bit) : s.judge c p n gen bit ab = s.bump (.crn c) C.CRN_STRAY 1 := by
  refine if_pos ?_
  rw [Bool.or_eq_true, decide_eq_true_eq, decide_eq_true_eq]
  exact Decidable.byContradiction fun hno => h ⟨fun h0 => hno (.inl h0), fun h0 => hno (.inr h0)⟩

/-- The judgement of a bit of the target, by its generation. -/
theorem State.judge_of_awaits (h : (s.cairn c n).Awaits bit) : s.judge c p n gen bit ab =
    if 2 ^ 15 ≤ (s.cairn c n).ahead gen then s.bump (.crn c) C.CRN_STALE 1
    else if 2 ≤ (s.cairn c n).ahead gen then s.bump (.crn c) C.CRN_EARLY 1
    else if ab then (if (s.cairn c n).ahead gen = 0 then s.releaseAll c p n true else s.bump (.crn c) C.CRN_EARLY 1)
    else if (s.cairn c n).ahead gen = 1 then
      if (s.cairn c n).next &&& BitVec.ofNat 64 (2 ^ bit) != 0 then s.bump (.crn c) C.CRN_DUP 1 else s.arriveNext c n bit
    else if (s.cairn c n).mask &&& BitVec.ofNat 64 (2 ^ bit) != 0 then s.bump (.crn c) C.CRN_DUP 1
    else if (s.cairn c n).mask ||| BitVec.ofNat 64 (2 ^ bit) = (s.cairn c n).target then (s.arriveNow c n bit).releaseAll c p n false
    else s.arriveNow c n bit :=
  if_neg (by
    obtain ⟨htarget, hbit⟩ := h
    rw [Bool.or_eq_true, decide_eq_true_eq, decide_eq_true_eq]
    exact fun hno => hno.elim htarget hbit)

theorem State.judge_stale (h : (s.cairn c n).Awaits bit) (hd : 2 ^ 15 ≤ (s.cairn c n).ahead gen) :
    s.judge c p n gen bit ab = s.bump (.crn c) C.CRN_STALE 1 := by
  rw [State.judge_of_awaits h, if_pos hd]

theorem State.judge_early (h : (s.cairn c n).Awaits bit) (hlo : 2 ≤ (s.cairn c n).ahead gen) (hhi : (s.cairn c n).ahead gen < 2 ^ 15) :
    s.judge c p n gen bit ab = s.bump (.crn c) C.CRN_EARLY 1 := by
  rw [State.judge_of_awaits h, if_neg (Nat.not_le.2 hhi), if_pos hlo]

theorem State.judge_abortNext (h : (s.cairn c n).Awaits bit) (hd : (s.cairn c n).ahead gen = 1) :
    s.judge c p n gen bit true = s.bump (.crn c) C.CRN_EARLY 1 := by
  rw [State.judge_of_awaits h, hd]; rfl

theorem State.judge_abort (h : (s.cairn c n).Awaits bit) (hd : (s.cairn c n).ahead gen = 0) : s.judge c p n gen bit true = s.releaseAll c p n true := by
  rw [State.judge_of_awaits h, hd]; rfl

theorem State.judge_dupNext (h : (s.cairn c n).Awaits bit) (hd : (s.cairn c n).ahead gen = 1) (hdup : (s.cairn c n).next &&& BitVec.ofNat 64 (2 ^ bit) ≠ 0) :
    s.judge c p n gen bit false = s.bump (.crn c) C.CRN_DUP 1 := by
  rw [State.judge_of_awaits h, hd]; exact if_pos (bne_iff_ne.2 hdup)

theorem State.judge_next (h : (s.cairn c n).Awaits bit) (hd : (s.cairn c n).ahead gen = 1) (hnew : (s.cairn c n).next &&& BitVec.ofNat 64 (2 ^ bit) = 0) :
    s.judge c p n gen bit false = s.arriveNext c n bit := by
  rw [State.judge_of_awaits h, hd, hnew]; rfl

theorem State.judge_dup (h : (s.cairn c n).Awaits bit) (hd : (s.cairn c n).ahead gen = 0) (hdup : (s.cairn c n).mask &&& BitVec.ofNat 64 (2 ^ bit) ≠ 0) :
    s.judge c p n gen bit false = s.bump (.crn c) C.CRN_DUP 1 := by
  rw [State.judge_of_awaits h, hd]; exact if_pos (bne_iff_ne.2 hdup)

/-- A first arrival that leaves the target incomplete. -/
theorem State.judge_now (h : (s.cairn c n).Awaits bit) (hd : (s.cairn c n).ahead gen = 0) (hnew : (s.cairn c n).mask &&& BitVec.ofNat 64 (2 ^ bit) = 0)
    (hmore : (s.cairn c n).mask ||| BitVec.ofNat 64 (2 ^ bit) ≠ (s.cairn c n).target) : s.judge c p n gen bit false = s.arriveNow c n bit := by
  rw [State.judge_of_awaits h, hd, hnew]; exact if_neg hmore

end

/-! What an arrival leaves. -/

/-- The arrival times of the tracking slots are all that `updTracks` changes. -/
theorem State.updTracks_frame (s : State) (c : CDie) (n : Nat) (f : Track → Track) : ∃ ts, s.updTracks c n f = { s with tracks := ts } := by
  unfold State.updTracks
  generalize s.trackSlots c n = slots
  induction slots generalizing s with
  | nil => exact ⟨s.tracks, rfl⟩
  | cons k slots ih => exact ih _

theorem State.cairn_setCairn_self (s : State) (c : CDie) (n : Nat) (x : Cairn) : (s.setCairn c n x).cairn c n = x := Store.get_set_self _ _ _ _

theorem State.cairn_setCairn_ne (s : State) (c : CDie) {n m : Nat} (h : m ≠ n) (x : Cairn) : (s.setCairn c n x).cairn c m = s.cairn c m :=
  Store.get_set_ne _ _ (fun e => h (Nat.add_left_cancel e).symm) _

/-- An arrival changes tracking slots and its own cairn alone. -/
theorem State.arrival_frame (s : State) (c : CDie) (n : Nat) (f : Track → Track) (x : Cairn) :
    ((s.updTracks c n f).setCairn c n x).cairn c n = x ∧
    (∀ m, m ≠ n → ((s.updTracks c n f).setCairn c n x).cairn c m = s.cairn c m) ∧ ((s.updTracks c n f).setCairn c n x).regs = s.regs ∧
    ((s.updTracks c n f).setCairn c n x).mem = s.mem ∧ ((s.updTracks c n f).setCairn c n x).tarn = s.tarn := by
  obtain ⟨ts, hts⟩ := s.updTracks_frame c n f
  rw [hts]
  exact ⟨State.cairn_setCairn_self _ c n x, fun m hm => State.cairn_setCairn_ne _ c hm x, rfl, rfl, rfl⟩

/-! The packets that bring signals and aborts. -/

/-- A request that reaches an endpoint of a compute die, of an operation that the endpoint serves. -/
theorem State.atEndpoint_of_served {s u : State} {c : CDie} {e : Nat} {serves : List (BitVec 8)} {op : BitVec 8} {p : Packet}
    (hacc : s.accept (CDie.die c) p = (u, true)) (hmc : p.mc = 1) (he : p.dst.e = e) (hd : p.dst.d = c.val) (hop : p.op = op) (hserves : serves.contains op = true) :
    s.atEndpoint c e serves op p = (u, true) := by
  simp only [State.atEndpoint, hacc, hmc, he, hd, hop, hserves, bne_self_eq_false, beq_self_eq_true]
  rfl

/-- What the cairn unit does with a packet that it takes. -/
theorem State.cairnPacket_of_taken {s u : State} {c : CDie} {p : Packet} {ab : Bool} (hacc : s.accept (CDie.die c) p = (u, true)) (hmc : p.mc = 1)
    (he : p.dst.e = 3) (hd : p.dst.d = c.val) (hop : p.op = if ab then opCAIRN_ABORT else opSIGNAL) : s.cairnPacket c ab p =
      if p.sigRsvOk = false then u.bump (.rtr (CDie.die c)) C.RTR_FORMAT 1
      else if u.ownsCairn c p.partNo p.sigCairn = false then (u.bump (.crn c) C.CRN_RANGE 1).answer (CDie.die c) 3 p opACK .range []
      else (u.judge c p.partNo p.sigCairn p.sigGen p.sigBit ab).answer (CDie.die c) 3 p opACK .ok [] := by
  have hserved : [opSIGNAL, opCAIRN_ABORT].contains (if ab then opCAIRN_ABORT else opSIGNAL) = true := by cases ab <;> decide
  simp only [State.cairnPacket, State.atEndpoint_of_served hacc hmc he hd hop hserved, Bool.not_eq_eq_eq_not, Bool.not_true]
  rfl

/-- Settles O13: each clause is the rule above for its judgement, its arrival or its packet. -/
theorem cairnsJudgeAndAnswer : Obligations.CairnsJudgeAndAnswer := by
  refine ⟨fun s c p n gen bit ab => ?judged, fun s c p n bit hn hbit hnew hmore => ?now, fun s c p n bit hn hbit hnew => ?next,
    fun s u c p hon hacc hmc he hd ab i hi => ?packet⟩
  case judged =>
    refine ⟨fun h => State.judge_stray h, fun h hd => State.judge_stale h hd, fun h hlo hhi => State.judge_early h hlo hhi, fun h hd hab => ?_,
      fun h hd hab => ?_, fun h hd hab hdup => ?_, fun h hd hab hdup => ?_⟩
    · rw [hab, State.judge_abortNext h hd]
    · rw [hab, State.judge_abort h hd]
    · rw [hab, State.judge_dupNext h hd hdup]
    · rw [hab, State.judge_dup h hd hdup]
  case now =>
    intro t
    have ht : t = s.arriveNow c n bit := State.judge_now (Cairn.awaits_of_bit hbit) (Cairn.ahead_gen _) hnew hmore
    obtain ⟨hself, hother, hregs, hmem, htarn⟩ := s.arrival_frame c n _ _
    rw [ht, State.arriveNow]
    exact ⟨by rw [hself], by rw [hself], by rw [hself], fun m _ hm => hother m hm, hregs, hmem, htarn⟩
  case next =>
    intro t
    have ht : t = s.arriveNext c n bit := State.judge_next (Cairn.awaits_of_bit hbit) (Cairn.ahead_next _) hnew
    obtain ⟨hself, -, hregs, hmem, htarn⟩ := s.arrival_frame c n _ _
    rw [ht, State.arriveNext]
    exact ⟨by rw [hself], by rw [hself], by rw [hself], hregs, hmem, htarn⟩
  case packet =>
    have hrun : exec i s = .next (s.finish (s.cairnPacket c ab p)) := by
      rcases hi with ⟨rfl, -, rfl⟩ | ⟨rfl, -, rfl⟩ <;> exact run_on hon
    have hop : p.op = if ab then opCAIRN_ABORT else opSIGNAL := by
      rcases hi with ⟨rfl, hop, -⟩ | ⟨rfl, hop, -⟩ <;> exact hop
    rw [hrun, State.cairnPacket_of_taken hacc hmc he hd hop]
    exact ⟨fun hrsv howns => by rw [if_neg (by simp [hrsv]), if_neg (by simp [howns])], fun hrsv howns => by rw [if_neg (by simp [hrsv]), if_pos howns],
      fun hrsv => by rw [if_pos hrsv]⟩

end Sys2Proof.Machine
end

section
/-! The cairn registers (05 R223, R226): what a selection copies, and when a partition's range is applied. -/

namespace Sys2Proof.Machine

/-! A pair of plain words. -/

section
variable (s : State) (p : Page)

theorem State.rd_wr64_ne {off a : Nat} (v : BitVec 64) (hlo : a ≠ p.base + off) (hhi : a ≠ p.base + off + 4) : (s.wr64 p off v).rd a = s.rd a := by
  rw [State.wr64, State.rd_wr_ne _ hhi.symm, State.rd_wr_ne _ hlo.symm]

theorem State.rd64_wr64_self (off : Nat) (v : BitVec 64) : (s.wr64 p off v).rd64 p off = v.toNat := by
  unfold State.rd64 State.wr64
  generalize p.base + off = a
  rw [State.rd_wr_ne _ (by omega : a + 4 ≠ a), State.rd_wr_self, State.rd_wr_self, BitVec.toNat_ofNat, BitVec.toNat_ofNat, Nat.shiftLeft_eq,
    Nat.shiftRight_eq_div_pow]
  omega

theorem State.rd64_wr64_apart {off off' : Nat} (v : BitVec 64) (h : off + 8 ≤ off' ∨ off' + 8 ≤ off) : (s.wr64 p off v).rd64 p off' = s.rd64 p off' := by
  have hlo : (s.wr64 p off v).rd (p.base + off') = s.rd (p.base + off') := State.rd_wr64_ne _ _ _ (by omega) (by omega)
  have hhi : (s.wr64 p off v).rd (p.base + off' + 4) = s.rd (p.base + off' + 4) := State.rd_wr64_ne _ _ _ (by omega) (by omega)
  unfold State.rd64
  rw [hlo, hhi]

theorem State.fld_wr64_ne {off : Nat} (f : Field) (v : BitVec 64) (h : f.off < off) : (s.wr64 p off v).fld p f = s.fld p f := by
  rw [State.fld, State.rd_wr64_ne _ _ _ (by omega) (by omega), State.fld]

end

/-! CRN_INSP_SEL_WRITE. -/

/-- The words that inspection shows: a state word, and a cairn's mask, target and time. -/
def State.showCairn (s : State) (c : CDie) (w : Word) (mask target last : BitVec 64) : State :=
  (((s.wr (Page.base (.crn c) + 0x244) w).wr64 (.crn c) 0x248 mask).wr64 (.crn c) 0x250 target).wr64 (.crn c) 0x258 last

section
variable (s : State) (c : CDie) (w : Word) (mask target last : BitVec 64)

theorem State.showCairn_word : (s.showCairn c w mask target last).rd (Page.base (.crn c) + 0x244) = w := by
  simp (disch := omega) only [State.showCairn, State.rd_wr64_ne, State.rd_wr_self]

theorem State.showCairn_mask : (s.showCairn c w mask target last).rd64 (.crn c) 0x248 = mask.toNat := by
  simp (disch := omega) only [State.showCairn, State.rd64_wr64_apart, State.rd64_wr64_self]

theorem State.showCairn_target : (s.showCairn c w mask target last).rd64 (.crn c) 0x250 = target.toNat := by
  simp (disch := omega) only [State.showCairn, State.rd64_wr64_apart, State.rd64_wr64_self]

theorem State.showCairn_last : (s.showCairn c w mask target last).rd64 (.crn c) 0x258 = last.toNat := State.rd64_wr64_self _ _ _ _

theorem State.showCairn_fld {f : Field} (h : f.off < 0x244) : (s.showCairn c w mask target last).fld (.crn c) f = s.fld (.crn c) f := by
  rw [State.showCairn, State.fld_wr64_ne _ _ _ _ (by omega), State.fld_wr64_ne _ _ _ _ (by omega), State.fld_wr64_ne _ _ _ _ (by omega),
    State.fld_wr_ne _ _ _ _ _ (by omega)]

theorem State.showCairn_cairns : (s.showCairn c w mask target last).cairns = s.cairns := by simp [State.showCairn]

theorem State.showCairn_pending : (s.showCairn c w mask target last).pending = s.pending := by simp [State.showCairn]

theorem State.showCairn_quiet : (s.showCairn c w mask target last).quiet = s.quiet := by simp [State.showCairn]

end

/-- No register past the ranges of the partitions says which cairns are confidential. -/
theorem State.cairnConf_setFld (s : State) (c : CDie) {f : Field} (v n : Nat) (hf : 0x200 ≤ f.off) : (s.setFld (.crn c) f v).cairnConf c n = s.cairnConf c n := by
  have hrange : ∀ p : Part, (s.setFld (.crn c) f v).cairnRange c p = s.cairnRange c p := fun p => by
    have hoff : f.off ≠ 0x100 + 4 * p.val := by omega
    simp only [State.cairnRange, s.fld_setFld_off (.crn c) f (F.CRN_PART_BASE p.val) v hoff, s.fld_setFld_off (.crn c) f (F.CRN_PART_SIZE p.val) v hoff]
  simp only [State.cairnConf, State.ownsCairn, hrange, State.setFld_isConf]

/-- The state word of a cairn: its generation, FAILED, FWD_EN, and how many gates wait on it. -/
def State.cairnWord (s : State) (c : CDie) (n : Nat) : Word :=
  BitVec.ofNat 32 ((s.cairn c n).gen.toNat + (s.cairn c n).failed.toNat <<< 16 + (s.cairn c n).fwdEn.toNat <<< 17 + (min 255 (s.waiters c n)) <<< 18)

/-- A cairn of a confidential partition shows zeros, and another itself. -/
theorem crnInspSelWrite_eq {s : State} {c : CDie} (hup : s.dieDown c = false) (v : Word) : crnInspSelWrite c v s =
    if s.cairnConf c (bits v.toNat 12 0) then (s.setFld (.crn c) F.CRN_INSP_SEL_CAIRN (bits v.toNat 12 0)).showCairn c 0 0 0 0
    else (s.setFld (.crn c) F.CRN_INSP_SEL_CAIRN (bits v.toNat 12 0)).showCairn c
      ((s.setFld (.crn c) F.CRN_INSP_SEL_CAIRN (bits v.toNat 12 0)).cairnWord c (bits v.toNat 12 0))
      (s.cairn c (bits v.toNat 12 0)).mask (s.cairn c (bits v.toNat 12 0)).target (s.cairn c (bits v.toNat 12 0)).last := by
  simp only [crnInspSelWrite, hup, s.cairnConf_setFld c (f := F.CRN_INSP_SEL_CAIRN) _ _ (by decide), State.showCairn, State.cairnWord, State.setFld_cairn,
    Bool.false_eq_true, if_false]

/-- What a selection that shows a cairn's words leaves. -/
theorem exec_crnInspSelWrite {s : State} {c : CDie} {v w : Word} {mask target last : BitVec 64} (hs : s.settled = true)
    (heq : crnInspSelWrite c v s = (s.setFld (.crn c) F.CRN_INSP_SEL_CAIRN (bits v.toNat 12 0)).showCairn c w mask target last) :
    ∃ t, exec (.crnInspSelWrite c v) s = .next t ∧ t.fld (.crn c) F.CRN_INSP_SEL_CAIRN = bits v.toNat 12 0 ∧ t.rd (Page.base (.crn c) + 0x244) = w ∧
      t.rd64 (.crn c) 0x248 = mask.toNat ∧ t.rd64 (.crn c) 0x250 = target.toNat ∧ t.rd64 (.crn c) 0x258 = last.toNat ∧ t.cairns = s.cairns := by
  refine ⟨_, run_quiet hs (by simpa [heq, State.showCairn_quiet] using State.settled_quiet hs) (by simp [heq, State.showCairn_pending]), ?_⟩
  rw [heq, State.showCairn_fld _ _ _ _ _ _ (by decide), State.showCairn_cairns, State.setFld_cairns]
  exact ⟨State.fld_setFld_bits _ _ _ _ _ rfl (by decide), State.showCairn_word _ _ _ _ _ _, State.showCairn_mask _ _ _ _ _ _,
    State.showCairn_target _ _ _ _ _ _, State.showCairn_last _ _ _ _ _ _, rfl⟩

/-! CRN_TRK_SEL_WRITE. -/

/-- The arrival time that a tracking slot shows of a bit: none of a confidential partition's cairn. -/
def State.trackTime (s : State) (c : CDie) (k b : Nat) : Word :=
  if s.cairnConf c (s.fld (.crn c) (F.CRN_TRACK_CAIRN k)) then 0 else (((s.track c k).arr.find? (fun e => e.1 == b)).map (·.2)).getD 0

/-- The slot and bit that CRN_TRK_SEL selects. -/
def State.selectTrack (s : State) (c : CDie) (k b : Nat) : State := (s.setFld (.crn c) F.CRN_TRK_SEL_SLOT k).setFld (.crn c) F.CRN_TRK_SEL_BIT b

/-- A selection changes nothing that the arrival times rest on. -/
theorem State.trackTime_selectTrack (s : State) (c : CDie) {k : Nat} (b : Nat) (hk : k < 16) : (s.selectTrack c k b).trackTime c k b = s.trackTime c k b := by
  have hslot : F.CRN_TRK_SEL_SLOT.off ≠ (F.CRN_TRACK_CAIRN k).off := show 0x260 ≠ 0x200 + 4 * k by omega
  have hbit : F.CRN_TRK_SEL_BIT.off ≠ (F.CRN_TRACK_CAIRN k).off := hslot
  simp only [State.trackTime, State.selectTrack, State.track, State.setFld_tracks, State.cairnConf_setFld _ _ _ _ (show 0x200 ≤ F.CRN_TRK_SEL_BIT.off by decide),
    State.cairnConf_setFld _ _ _ _ (show 0x200 ≤ F.CRN_TRK_SEL_SLOT.off by decide), State.fld_setFld_off _ _ _ _ _ hbit, State.fld_setFld_off _ _ _ _ _ hslot]

theorem crnTrkSelWrite_eq {s : State} {c : CDie} (hup : s.dieDown c = false) (v : Word) : crnTrkSelWrite c v s =
    (s.selectTrack c (bits v.toNat 3 0) (bits v.toNat 13 8)).wr (Page.base (.crn c) + 0x264) (s.trackTime c (bits v.toNat 3 0) (bits v.toNat 13 8)) := by
  rw [← s.trackTime_selectTrack c _ (show bits v.toNat 3 0 < 16 from Nat.mod_lt _ (by decide))]
  exact if_neg (by simp [hup])

/-! CRN_PART_WRITE. -/

/-- A partition may take a range of a die's cairns: it stays within the die, and no other partition's range overlaps it. -/
def State.CairnsFree (s : State) (c : CDie) (p : Part) (base size : Nat) : Prop :=
  base + size ≤ 8192 ∧ ∀ q : Part, q ≠ p → (s.cairnRange c q).2 = 0 ∨ size = 0 ∨
    (s.cairnRange c q).1 + (s.cairnRange c q).2 ≤ base ∨ base + size ≤ (s.cairnRange c q).1

/-- A partition's range, replaced. -/
def State.setCairnRange (s : State) (c : CDie) (p : Part) (base size : Nat) : State :=
  (s.setFld (.crn c) (F.CRN_PART_BASE p.val) base).setFld (.crn c) (F.CRN_PART_SIZE p.val) size

section
variable {s : State} {c : CDie} {p : Part}

/-- CRN_PART_WRITE refuses a range just when it is not free. -/
theorem State.cairnsFree_iff {base size : Nat} : s.CairnsFree c p base size ↔ ¬ (((List.finRange 64).any fun q =>
      q != p && (s.cairnRange c q).2 != 0 && size != 0 && decide (base < (s.cairnRange c q).1 + (s.cairnRange c q).2) &&
        decide ((s.cairnRange c q).1 < base + size)) || decide (8192 < base + size)) = true := by
  simp only [State.CairnsFree, Bool.or_eq_true, List.any_eq_true, List.mem_finRange, true_and, Bool.and_eq_true, bne_iff_ne, decide_eq_true_eq,
    not_or, not_exists, Nat.not_lt, and_comm (a := base + size ≤ 8192)]
  refine and_congr_left fun _ => forall_congr' fun q => ?_
  by_cases hq : q = p
  · simp [hq]
  · simp only [hq, not_false_eq_true, ne_eq, true_and, true_implies]
    omega

theorem crnPartWrite_of_free {v : Word} (hup : s.dieDown c = false) (hfree : s.CairnsFree c p (bits v.toNat 12 0) (bits v.toNat 26 13)) :
    crnPartWrite c p v s = s.setCairnRange c p (bits v.toNat 12 0) (bits v.toNat 26 13) := by
  rw [crnPartWrite, if_neg (by simp [hup])]
  exact if_neg (State.cairnsFree_iff.1 hfree)

theorem crnPartWrite_of_taken {v : Word} (hup : s.dieDown c = false) (htaken : ¬ s.CairnsFree c p (bits v.toNat 12 0) (bits v.toNat 26 13)) :
    crnPartWrite c p v s = s.raise (.crn c) 0x101 1 {} := by
  rw [crnPartWrite, if_neg (by simp [hup])]
  exact if_pos (Decidable.not_not.1 fun h => htaken (State.cairnsFree_iff.2 h))

end

/-- The two fields of a range do not overlap. -/
theorem State.cairnRange_setCairnRange (s : State) (c : CDie) (p : Part) (v : Word) :
    (s.setCairnRange c p (bits v.toNat 12 0) (bits v.toNat 26 13)).cairnRange c p = (bits v.toNat 12 0, bits v.toNat 26 13) := by
  have hapart : (F.CRN_PART_BASE p.val).lsb + (F.CRN_PART_BASE p.val).width ≤ (F.CRN_PART_SIZE p.val).lsb := Nat.le_refl 13
  rw [State.cairnRange, State.setCairnRange, State.fld_setFld_other _ _ _ _ _ (.inr hapart)]
  exact Prod.ext (State.fld_setFld_bits _ _ _ _ _ rfl (show 13 ≤ 32 by decide)) (State.fld_setFld_bits _ _ _ _ _ rfl (show 27 ≤ 32 by decide))

/-- They stand in one register word, and no other changes. -/
theorem State.rd_setCairnRange_ne (s : State) (c : CDie) (p : Part) (base size : Nat) {a : Nat} (ha : a ≠ Page.base (.crn c) + (F.CRN_PART_BASE p.val).off) :
    (s.setCairnRange c p base size).rd a = s.rd a :=
  (State.rd_setFld_ne _ _ (F.CRN_PART_SIZE p.val) _ _ ha).trans (State.rd_setFld_ne _ _ _ _ _ ha)

/-- Settles O14: each clause is the rule above for its register, read at the words that it names. -/
theorem cairnRegistersSelectAndAssign : Obligations.CairnRegistersSelectAndAssign := by
  refine ⟨fun s c v hs hup hconf => ?hidden, fun s c v hs hup hconf => ?shown, fun s c v hs hup => ?track, fun s c p v hon hup => ?part⟩
  case hidden => exact exec_crnInspSelWrite hs ((crnInspSelWrite_eq hup v).trans (if_pos hconf))
  case shown =>
    obtain ⟨t, hrun, hsel, -, hrest⟩ := exec_crnInspSelWrite hs ((crnInspSelWrite_eq hup v).trans (if_neg (by simp [hconf])))
    exact ⟨t, hrun, hsel, hrest⟩
  case track =>
    intro k b
    have heq := crnTrkSelWrite_eq hup v
    refine ⟨_, run_quiet hs (by simpa [heq, State.selectTrack] using State.settled_quiet hs) (by simp [heq, State.selectTrack]), ?_⟩
    rw [heq]
    refine ⟨?_, ?_, State.rd_wr_self _ _ _, by simp [State.selectTrack], by simp [State.selectTrack], by simp [State.selectTrack], by simp [State.selectTrack]⟩
    · rw [State.fld_wr_ne _ _ _ _ _ (by simp [F.CRN_TRK_SEL_SLOT]), State.selectTrack, State.fld_setFld_other _ _ _ _ _ (by decide)]
      exact State.fld_setFld_bits _ _ _ _ _ rfl (by decide)
    · rw [State.fld_wr_ne _ _ _ _ _ (by simp [F.CRN_TRK_SEL_BIT]), State.selectTrack]
      exact State.fld_setFld_bits _ _ _ _ _ rfl (by decide)
  case part =>
    intro base size free u
    refine ⟨fun hfree => ⟨?_, s.cairnRange_setCairnRange c p v, fun a ha => s.rd_setCairnRange_ne c p _ _ ha⟩, fun htaken => ?_⟩
    · exact (run_on hon).trans (by rw [crnPartWrite_of_free hup hfree]; rfl)
    · exact (run_on hon).trans (by rw [crnPartWrite_of_taken hup htaken])

end Sys2Proof.Machine
end

section
/-! Requests at a memory controller (06 R239, R245–R247, 08 R312, R313, R338): the answer to each of the four, by its form and by what the access found. -/

namespace Sys2Proof.Machine

/-- A command in a powered package, by what its effect comes to. -/
theorem run_of_eq {f : State → State} {s t : State} (hon : s.mgmtOn = true) (h : f s = t) : run f s = .next (s.finish t) := by rw [run_on hon, h]

section
variable {s u v x : State} {c : CDie} {p : Packet} {o : Obs} {st : RespStatus} {bs : List Byte}

/-! MEM_WRITE: a line of its own. -/

theorem memWrite_of_aligned (htake : s.atMem c p opWRITE = (u, true)) (ha : p.addr.toNat % 64 = 0)
    (hw : u.ctlWrite c p.partNo p.addr.toNat p.payload o = (v, st)) : memWrite c p o s = v.answer (CDie.die c) 0 p opACK st [] := by
  simp only [memWrite, htake, ha, hw]
  rfl

theorem memWrite_of_misaligned (htake : s.atMem c p opWRITE = (u, true)) (ha : p.addr.toNat % 64 ≠ 0) :
    memWrite c p o s = u.answer (CDie.die c) 0 p opACK .unsupported [] := by
  simp only [memWrite, htake, bne_iff_ne.2 ha]
  rfl

/-! MEM_WRITE_MASKED: a run of bytes within one half-line. -/

theorem memWriteMasked_of_inside (htake : s.atMem c p opWRITE_MASKED = (u, true)) (hpos : 0 < p.md.toNat) (hfit : p.addr.toNat % 32 + p.md.toNat ≤ 32)
    (hw : u.ctlWrite c p.partNo p.addr.toNat ((p.body.drop (p.addr.toNat % 32)).take p.md.toNat) o = (v, st)) :
    memWriteMasked c p o s = v.answer (CDie.die c) 0 p opACK st [] := by
  have hform : ¬ (decide (p.md.toNat = 0) || decide (32 < p.md.toNat) || decide (32 < p.addr.toNat % 32 + p.md.toNat)) = true := by
    simp only [Bool.or_eq_true, decide_eq_true_eq]; omega
  simp only [memWriteMasked, htake, if_neg hform, hw]
  rfl

theorem memWriteMasked_of_outside (htake : s.atMem c p opWRITE_MASKED = (u, true)) (hbad : p.md.toNat = 0 ∨ 32 < p.addr.toNat % 32 + p.md.toNat) :
    memWriteMasked c p o s = u.answer (CDie.die c) 0 p opACK .unsupported [] := by
  have hform : (decide (p.md.toNat = 0) || decide (32 < p.md.toNat) || decide (32 < p.addr.toNat % 32 + p.md.toNat)) = true := by
    simp only [Bool.or_eq_true, decide_eq_true_eq]; omega
  simp only [memWriteMasked, htake, if_pos hform]
  rfl

/-! MEM_READ: 1 to 32 whole lines. -/

theorem memRead_of_lines (htake : s.atMem c p opREAD = (u, true)) (ha : p.addr.toNat % 64 = 0) (hpos : 0 < p.md.toNat) (hmax : p.md.toNat ≤ 32)
    (hr : u.ctlRead c p.partNo p.addr.toNat (64 * p.md.toNat) o = (v, st, bs)) : memRead c p o s =
      if st = .ok then v.answer (CDie.die c) 0 p opREAD_DATA .ok bs else v.answer (CDie.die c) 0 p opREAD_ERR st [] := by
  have hform : ¬ (p.addr.toNat % 64 != 0 || decide (p.md.toNat = 0) || decide (32 < p.md.toNat)) = true := by
    simp only [Bool.or_eq_true, bne_iff_ne, decide_eq_true_eq]; omega
  simp only [memRead, htake, if_neg hform, hr]
  rfl

theorem memRead_of_badForm (htake : s.atMem c p opREAD = (u, true)) (hbad : p.addr.toNat % 64 ≠ 0 ∨ p.md.toNat = 0 ∨ 32 < p.md.toNat) :
    memRead c p o s = u.answer (CDie.die c) 0 p opREAD_ERR .unsupported [] := by
  have hform : (p.addr.toNat % 64 != 0 || decide (p.md.toNat = 0) || decide (32 < p.md.toNat)) = true := by
    simpa only [Bool.or_eq_true, bne_iff_ne, decide_eq_true_eq, or_assoc] using hbad
  simp only [memRead, htake, if_pos hform]
  rfl

/-! MEM_AMO: a read, and where it succeeds a write of the function's result. -/

/-- The width of an atomic operation in bytes. -/
abbrev Packet.amoWidth (p : Packet) : Nat := if p.md.getLsbD 4 then 8 else 4

/-- What an atomic operation writes over the bytes that it read. -/
abbrev Packet.amoResult (p : Packet) (bs : List Byte) : List Byte :=
  leBytes (amoFn (p.md.toNat % 16) (8 * p.amoWidth) (leNat bs) (leNat (p.body.take 8) % 2 ^ (8 * p.amoWidth))) p.amoWidth

theorem memAmo_of_form (htake : s.atMem c p opAMO = (u, true)) (hfn : p.md.toNat % 16 ≤ 8) (ha : p.addr.toNat % p.amoWidth = 0)
    (hr : u.ctlRead c p.partNo p.addr.toNat p.amoWidth o true = (v, st, bs)) : memAmo c p o s =
      if st != .ok then v.answer (CDie.die c) 0 p opAMO_RESP st []
      else (v.ctlWrite c p.partNo p.addr.toNat (p.amoResult bs) {}).1.answer (CDie.die c) 0 p opAMO_RESP
        (v.ctlWrite c p.partNo p.addr.toNat (p.amoResult bs) {}).2 (leBytes (leNat bs) 8) := by
  have hform : ¬ (decide (8 < p.md.toNat % 16) || p.addr.toNat % p.amoWidth != 0) = true := by
    simp only [Bool.or_eq_true, bne_iff_ne, decide_eq_true_eq]; omega
  simp only [memAmo, htake, if_neg hform, hr]
  rfl

theorem memAmo_of_written (htake : s.atMem c p opAMO = (u, true)) (hfn : p.md.toNat % 16 ≤ 8) (ha : p.addr.toNat % p.amoWidth = 0)
    (hr : u.ctlRead c p.partNo p.addr.toNat p.amoWidth o true = (v, .ok, bs))
    (hw : v.ctlWrite c p.partNo p.addr.toNat (p.amoResult bs) {} = (x, st)) :
    memAmo c p o s = x.answer (CDie.die c) 0 p opAMO_RESP st (leBytes (leNat bs) 8) := by
  rw [memAmo_of_form htake hfn ha hr, hw]
  rfl

theorem memAmo_of_unread (htake : s.atMem c p opAMO = (u, true)) (hfn : p.md.toNat % 16 ≤ 8) (ha : p.addr.toNat % p.amoWidth = 0)
    (hr : u.ctlRead c p.partNo p.addr.toNat p.amoWidth o true = (v, st, bs)) (hst : st ≠ .ok) :
    memAmo c p o s = v.answer (CDie.die c) 0 p opAMO_RESP st [] := by
  rw [memAmo_of_form htake hfn ha hr, if_pos (bne_iff_ne.2 hst)]

theorem memAmo_of_badForm (htake : s.atMem c p opAMO = (u, true)) (hbad : 8 < p.md.toNat % 16 ∨ p.addr.toNat % p.amoWidth ≠ 0) :
    memAmo c p o s = u.answer (CDie.die c) 0 p opAMO_RESP .unsupported [] := by
  have hform : (decide (8 < p.md.toNat % 16) || p.addr.toNat % p.amoWidth != 0) = true := by
    simpa only [Bool.or_eq_true, bne_iff_ne, decide_eq_true_eq] using hbad
  simp only [memAmo, htake, if_pos hform]
  rfl

end

/-- Settles O15: each clause is the rule above for its request. -/
theorem memoryRequestsAreAnswered : Obligations.MemoryRequestsAreAnswered := by
  refine ⟨fun s u c p o hon htake => ?write, fun s u c p o hon htake => ?masked, fun s u c p o hon htake => ?read, fun s u c p o hon htake => ?amo⟩
  case write =>
    exact ⟨fun v st ha hw => run_of_eq hon (memWrite_of_aligned htake ha hw), fun ha => run_of_eq hon (memWrite_of_misaligned htake ha)⟩
  case masked =>
    exact ⟨fun v st hpos hfit hw => run_of_eq hon (memWriteMasked_of_inside htake hpos hfit hw),
      fun hbad => run_of_eq hon (memWriteMasked_of_outside htake hbad)⟩
  case read =>
    refine ⟨fun v st bs ha hpos hmax hr => ?_, fun hbad => run_of_eq hon (memRead_of_badForm htake hbad)⟩
    have heq := memRead_of_lines htake ha hpos hmax hr
    exact ⟨fun hok => run_of_eq hon (heq.trans (if_pos hok)), fun hfail => run_of_eq hon (heq.trans (if_neg hfail))⟩
  case amo =>
    intro w
    exact ⟨fun v bs hfn ha hr x st hw => run_of_eq hon (memAmo_of_written htake hfn ha hr hw),
      fun v st bs hfn ha hr hfail => run_of_eq hon (memAmo_of_unread htake hfn ha hr hfail), fun hbad => run_of_eq hon (memAmo_of_badForm htake hbad)⟩

end Sys2Proof.Machine
end

section
/-! Memory and Tarn as byte storage (03 R91–R95, 06 R229–R231, R241, R254): the bytes of a span of a die after a write and after zeroing. -/

namespace Sys2Proof.Machine

/-! The keys of a span of a die are those of its bytes there, and of no other die's. -/

theorem memKey_mem_span {c e : CDie} {off n o : Nat} (hn : off + n ≤ memSpan) (ho : o < memSpan) :
    (memKey c off ≤ memKey e o ∧ memKey e o < memKey c off + n) ↔ e = c ∧ off ≤ o ∧ o < off + n := by
  rw [Fin.ext_iff]
  unfold memKey memSpan at *
  omega

theorem tarnKey_mem_span {c e : CDie} {off n o : Nat} (hn : off + n ≤ tarnSpan) (ho : o < tarnSpan) :
    (tarnKey c off ≤ tarnKey e o ∧ tarnKey e o < tarnKey c off + n) ↔ e = c ∧ off ≤ o ∧ o < off + n := by
  rw [Fin.ext_iff]
  unfold tarnKey tarnSpan at *
  omega

theorem memKey_add (c : CDie) (off i : Nat) : memKey c (off + i) = memKey c off + i := (Nat.add_assoc _ _ _).symm

theorem tarnKey_add (c : CDie) (off i : Nat) : tarnKey c (off + i) = tarnKey c off + i := (Nat.add_assoc _ _ _).symm

section
variable (s : State) (c : CDie)

/-! A byte that was written. -/

theorem State.memByte_memPut_getElem (off : Nat) {bs : List Byte} {i : Nat} (hi : i < bs.length) : (s.memPut c off bs).memByte c (off + i) = bs[i] := by
  rw [State.memByte_memPut, dif_pos (by rw [memKey_add]; omega)]
  simp only [memKey_add, Nat.add_sub_cancel_left]

theorem State.tarnByte_tarnPut_getElem (off : Nat) {bs : List Byte} {i : Nat} (hi : i < bs.length) : (s.tarnPut c off bs).tarnByte c (off + i) = bs[i] := by
  rw [State.tarnByte_tarnPut, dif_pos (by rw [tarnKey_add]; omega)]
  simp only [tarnKey_add, Nat.add_sub_cancel_left]

/-! A byte after zeroing. -/

theorem State.memByte_memZero_inside {off n o : Nat} (hlo : off ≤ o) (hhi : o < off + n) : (s.memZero c off n).memByte c o = 0 := by
  rw [State.memByte_memZero, if_pos (by unfold memKey; omega)]

/-- Zeroing a span within a die leaves every other byte of memory. -/
theorem State.memByte_memZero_span (e : CDie) {off n o : Nat} (hn : off + n ≤ memSpan) (ho : o < memSpan) :
    (s.memZero c off n).memByte e o = if e = c ∧ off ≤ o ∧ o < off + n then 0 else s.memByte e o := by
  rw [State.memByte_memZero]
  exact ite_congr (propext (memKey_mem_span hn ho)) (fun _ => rfl) (fun _ => rfl)

theorem State.tarnByte_tarnZero_span (e : CDie) {off n o : Nat} (hn : off + n ≤ tarnSpan) (ho : o < tarnSpan) :
    (s.tarnZero c off n).tarnByte e o = if e = c ∧ off ≤ o ∧ o < off + n then 0 else s.tarnByte e o := by
  rw [State.tarnByte_tarnZero]
  exact ite_congr (propext (tarnKey_mem_span hn ho)) (fun _ => rfl) (fun _ => rfl)

end

/-! The canonical form of both stores. -/

theorem State.memWf_iff (s : State) : s.memWf = true ↔ Memory.wf s.mem = true ∧ Memory.wf s.tarn = true := Bool.and_eq_true_iff

theorem State.memWf_of_mem {s t : State} (h : s.memWf = true) (hmem : Memory.wf t.mem = true) (htarn : t.tarn = s.tarn) : t.memWf = true :=
  t.memWf_iff.2 ⟨hmem, htarn ▸ (s.memWf_iff.1 h).2⟩

theorem State.memWf_of_tarn {s t : State} (h : s.memWf = true) (htarn : Memory.wf t.tarn = true) (hmem : t.mem = s.mem) : t.memWf = true :=
  t.memWf_iff.2 ⟨hmem ▸ (s.memWf_iff.1 h).1, htarn⟩

/-- Settles O16: reads after writes and after zeroing by the rules of `Laws/Memory.lean` and those above, and the canonical form store by store. -/
theorem memoryIsByteStorage : Obligations.MemoryIsByteStorage := by
  refine ⟨fun s c c' off a bs hb ha => s.memByte_memPut_ne c c' off a bs hb ha, State.memGet_memPut, fun s c c' off a bs hb ha => s.tarnByte_tarnPut_ne c c' off a bs hb ha,
    State.tarnGet_tarnPut, fun s c off n a => s.memByte_memZero_inside c, fun s c off bs i hi => ?written, fun s c e off n o hn ho hout => ?outside,
    fun s c e off n o => s.tarnByte_tarnZero_span c e, fun s c off n bs h => ?form⟩
  case written =>
    rw [s.memByte_memPut_getElem c off hi, s.tarnByte_tarnPut_getElem c off hi]
    exact ⟨List.getElem?_eq_getElem hi, List.getElem?_eq_getElem hi⟩
  case outside =>
    rw [s.memByte_memZero_span c e hn ho, if_neg]
    rintro ⟨he, hlo, hhi⟩
    rcases hout with hne | hlt | hge
    · exact hne he
    · exact absurd hlo (Nat.not_le.2 hlt)
    · exact absurd hhi (Nat.not_lt.2 hge)
  case form =>
    obtain ⟨hmem, htarn⟩ := s.memWf_iff.1 h
    exact ⟨State.memWf_of_mem h (memPut_form s c off bs hmem) (s.memPut_tarn c off bs), State.memWf_of_tarn h (tarnPut_form s c off bs htarn) (s.tarnPut_mem c off bs),
      State.memWf_of_mem h (memZero_form s c off n hmem) (s.memZero_tarn c off n), State.memWf_of_tarn h (tarnZero_form s c off n htarn) (s.tarnZero_mem c off n)⟩

end Sys2Proof.Machine
end

section
/-! A memory controller's own work (06 R243, R251–R255, R258–R260): what each poll, patrol read, zeroing order, range write and stack failure makes of the state. -/

namespace Sys2Proof.Machine

/-! REFRESH_POLL: what one reading does to its stack. -/

/-- A stack's refresh indication and temperature as a reading leaves them. -/
def State.showStack (s : State) (c : CDie) (k : Nat) (x : BitVec 3 × BitVec 8) : State :=
  (s.setFld (.mem c) (F.MEM_STACK_REFRESH k) x.1.toNat).setFld (.mem c) (F.MEM_STACK_TEMP k) x.2.toNat

/-- Throttling of a stack starts, with its event and a C1 fault. -/
def State.startThrottle (s : State) (c : CDie) (k : Nat) : State :=
  ((s.setFld (.mem c) (F.MEM_STACK_THROTTLE k) 1).fireEvent (.mem c) 3).raise (.mem c) 0x106 1 {}

/-- What a reading of a stack that runs does. -/
def State.pollStack (s : State) (c : CDie) (k : Nat) (x : BitVec 3 × BitVec 8) : State :=
  if 105 ≤ x.2.toNat then
    if (s.showStack c k x).flag (.mem c) (F.MEM_STACK_THROTTLE k) then s.showStack c k x else (s.showStack c k x).startThrottle c k
  else if x.2.toNat < 100 then (s.showStack c k x).setFld (.mem c) (F.MEM_STACK_THROTTLE k) 0 else s.showStack c k x

section
variable {s : State} {c : CDie} {k : Nat} {x : BitVec 3 × BitVec 8}

/-- The three fields of a stack's word do not overlap. -/
theorem State.showStack_throttle : (s.showStack c k x).flag (.mem c) (F.MEM_STACK_THROTTLE k) = s.flag (.mem c) (F.MEM_STACK_THROTTLE k) := by
  have htemp : (F.MEM_STACK_TEMP k).lsb + (F.MEM_STACK_TEMP k).width ≤ (F.MEM_STACK_THROTTLE k).lsb := show 12 ≤ 15 by decide
  have hrefresh : (F.MEM_STACK_REFRESH k).lsb + (F.MEM_STACK_REFRESH k).width ≤ (F.MEM_STACK_THROTTLE k).lsb := Nat.le_refl 15
  rw [State.showStack, State.flag_setFld_other _ _ _ _ _ (.inl htemp), State.flag_setFld_other _ _ _ _ _ (.inl hrefresh)]

theorem State.pollStack_of_hot (hhot : 105 ≤ x.2.toNat) (hth : s.flag (.mem c) (F.MEM_STACK_THROTTLE k) = false) :
    s.pollStack c k x = (s.showStack c k x).startThrottle c k := by
  rw [State.pollStack, if_pos hhot, if_neg (by rw [State.showStack_throttle, hth]; decide)]

theorem State.pollStack_of_throttled (hhot : 105 ≤ x.2.toNat) (hth : s.flag (.mem c) (F.MEM_STACK_THROTTLE k) = true) :
    s.pollStack c k x = s.showStack c k x := by
  rw [State.pollStack, if_pos hhot, if_pos (State.showStack_throttle.trans hth)]

theorem State.pollStack_of_warm (hlo : 100 ≤ x.2.toNat) (hhi : x.2.toNat < 105) : s.pollStack c k x = s.showStack c k x := by
  rw [State.pollStack, if_neg (Nat.not_le.2 hhi), if_neg (Nat.not_lt.2 hlo)]

theorem State.pollStack_of_cool (hcool : x.2.toNat < 100) :
    s.pollStack c k x = (s.showStack c k x).setFld (.mem c) (F.MEM_STACK_THROTTLE k) 0 := by
  rw [State.pollStack, if_neg (by omega), if_pos hcool]

/-- A poll that brings no reading changes nothing. -/
theorem refreshPoll_nil (c : CDie) (s : State) : refreshPoll c [] s = s := ite_self s

/-- A poll that brings one reading applies it to stack 0. -/
theorem refreshPoll_singleton (hup : s.dieDown c = false) (hoff : s.fld (.mem c) (F.MEM_STACK_STATE 0) ≠ skOFF)
    (hfail : s.fld (.mem c) (F.MEM_STACK_STATE 0) ≠ skFAILED) : refreshPoll c [x] s = s.pollStack c 0 x := by
  rw [refreshPoll, if_neg (by rw [hup]; decide)]
  exact if_neg (by simp [hoff, hfail])

end

/-! PATROL_READ. -/

/-- The patrol of a die reads the sectors of a granule: the die answers, its memory is ready, its patrol runs, and the granule is not being zeroed. -/
structure State.Patrols (s : State) (c : CDie) (g : Nat) : Prop where
  up : s.dieDown c = false
  enabled : s.flag (.mem c) F.MEM_CFG_PATROL_EN = true
  ready : s.flag (.mem c) F.BLK_STATUS_READY = true
  notZeroed : g < (s.zeroing c).1 ∨ (s.zeroing c).1 + (s.zeroing c).2 ≤ g

section
variable {s : State} {c : CDie} {sec : Nat} {x : SectorErr}

/-- The condition of `patrolRead`, as it writes it, that such a patrol leaves behind. -/
theorem State.Patrols.goes {g : Nat} (h : s.Patrols c g) :
    ¬ (s.dieDown c || !(s.flag (.mem c) F.MEM_CFG_PATROL_EN) || !(s.flag (.mem c) F.BLK_STATUS_READY) ||
      (decide ((s.zeroing c).1 ≤ g) && decide (g < (s.zeroing c).1 + (s.zeroing c).2))) = true := by
  have hout := h.notZeroed
  simp only [h.up, h.enabled, h.ready, Bool.not_true, Bool.false_or, Bool.and_eq_true, decide_eq_true_eq]
  omega

theorem patrolRead_of_correctable (h : s.Patrols c (32 * sec / memGran)) (hsym : (s.eccFind c (32 * sec) x).sym.isSome = true) :
    patrolRead c sec (some x) s = (s.eccCorrected c (s.eccFind c (32 * sec) x) true).raise (.mem c) 0x100 0 {} := by
  rw [patrolRead, if_neg h.goes]
  exact if_pos hsym

/-- The sector that an uncorrectable finding at a die offset marks as bad. -/
abbrev EccFind.badSector (e : EccFind) (c : CDie) (off : Nat) : BadSector := ⟨memKey c off / 32, c, e.stack, e.ch, e.row⟩

theorem patrolRead_of_uncorrectable (h : s.Patrols c (32 * sec / memGran)) (hsym : (s.eccFind c (32 * sec) x).sym = none)
    (hnew : s.badSectors.contains ((s.eccFind c (32 * sec) x).badSector c (32 * sec)) = false) : patrolRead c sec (some x) s =
      (((State.bump { s with badSectors := s.badSectors ++ [(s.eccFind c (32 * sec) x).badSector c (32 * sec)] } (.mem c) C.MEM_PATROL_UE 1).errLoc c
        (s.eccFind c (32 * sec) x) true).logRepair c (s.eccFind c (32 * sec) x)).raise (.mem c) 0x105 1 {} := by
  rw [patrolRead, if_neg h.goes]
  dsimp only
  rw [if_neg (by rw [hsym]; decide), if_neg (by rw [hnew]; decide)]

theorem patrolRead_of_clean (c : CDie) (sec : Nat) (s : State) : patrolRead c sec none s = s := ite_self s

theorem patrolRead_of_zeroing {f : Option SectorErr} (hlo : (s.zeroing c).1 ≤ 32 * sec / memGran)
    (hhi : 32 * sec / memGran < (s.zeroing c).1 + (s.zeroing c).2) : patrolRead c sec f s = s := if_pos (by simp [hlo, hhi])

end

/-! The zeroing order that a die's memory runs. -/

/-- The order of a die's memory, as base and size in granules. -/
def State.setMemOrder (s : State) (c : CDie) (o : Nat × Nat) : State := { s with zeroOrders := Store.set (fun _ => (0, 0)) s.zeroOrders c.val o }

section
variable (s : State) (c : CDie) (o : Nat × Nat)

@[simp] theorem State.setMemOrder_flag (p : Page) (f : Field) : (s.setMemOrder c o).flag p f = s.flag p f := by cases s; rfl
@[simp] theorem State.setMemOrder_mem : (s.setMemOrder c o).mem = s.mem := by cases s; rfl
@[simp] theorem State.setMemOrder_tarn : (s.setMemOrder c o).tarn = s.tarn := by cases s; rfl
@[simp] theorem State.setMemOrder_pending : (s.setMemOrder c o).pending = s.pending := by cases s; rfl
@[simp] theorem State.setMemOrder_quiet : (s.setMemOrder c o).quiet = s.quiet := by cases s; rfl
@[simp] theorem State.get_setMemOrder : Store.get (fun _ => (0, 0)) (s.setMemOrder c o).zeroOrders c.val = o := Store.get_set_self _ _ _ _

/-- The order is set whichever state the orders are read from, as long as it holds the same. -/
theorem State.setMemOrder_of_eq {t : State} (h : s.zeroOrders = t.zeroOrders) :
    { s with zeroOrders := Store.set (fun _ => (0, 0)) t.zeroOrders c.val o } = s.setMemOrder c o := by
  rw [← h, State.setMemOrder]

end

/-! MEM_ZERO_GO. -/

/-- BASE and SIZE of MEM_ZERO_CTRL as a write of the register leaves them. -/
def State.setMemSpan (s : State) (c : CDie) (span : Nat × Nat) : State :=
  (s.setFld (.mem c) F.MEM_ZERO_CTRL_BASE span.1).setFld (.mem c) F.MEM_ZERO_CTRL_SIZE span.2

/-- What GO adds: the registers show an order, and the memory runs it. -/
def State.startMemZero (s : State) (c : CDie) (o : Nat × Nat) : State :=
  ((((s.setFld (.mem c) F.MEM_ZERO_CTRL_GO 1).setFld (.mem c) F.MEM_ZERO_STATUS_BUSY 1).setFld (.mem c) F.MEM_ZERO_STATUS_PROGRESS 0).setMemOrder c o).setFld
    (.mem c) F.BLK_STATUS_BUSY 1

/-- A span may be zeroed: it stays within the die, and no partition's range holds a granule of it (R254). -/
def State.MemFree (s : State) (c : CDie) (span : Nat × Nat) : Prop := span.1 + span.2 ≤ 768 ∧ ∀ r ∈ s.allRanges c, overlaps r.2.2 span = false

section
variable (s : State) (c : CDie) (o : Nat × Nat)

@[simp] theorem State.setMemSpan_mem : (s.setMemSpan c o).mem = s.mem := by simp [State.setMemSpan]
@[simp] theorem State.setMemSpan_tarn : (s.setMemSpan c o).tarn = s.tarn := by simp [State.setMemSpan]
@[simp] theorem State.setMemSpan_pending : (s.setMemSpan c o).pending = s.pending := by simp [State.setMemSpan]
@[simp] theorem State.setMemSpan_quiet : (s.setMemSpan c o).quiet = s.quiet := by simp [State.setMemSpan]

/-- MEM_ZERO_CTRL stands apart from the range registers. -/
theorem State.memRange_setMemSpan (p : Part) (i : Nat) : (s.setMemSpan c o).memRange c p i = s.memRange c p i := by
  have hapart : 0x110 ≠ 0x400 + 4 * (4 * p.val + i) := by omega
  rw [State.memRange, State.setMemSpan, State.fld_setFld_off _ _ _ _ _ hapart, State.fld_setFld_off _ _ _ _ _ hapart, State.fld_setFld_off _ _ _ _ _ hapart,
    State.fld_setFld_off _ _ _ _ _ hapart, State.memRange]

theorem State.allRanges_setMemSpan : (s.setMemSpan c o).allRanges c = s.allRanges c := by
  simp only [State.allRanges, State.memRange_setMemSpan]

@[simp] theorem State.startMemZero_mem : (s.startMemZero c o).mem = s.mem := by simp [State.startMemZero]
@[simp] theorem State.startMemZero_tarn : (s.startMemZero c o).tarn = s.tarn := by simp [State.startMemZero]
@[simp] theorem State.startMemZero_pending : (s.startMemZero c o).pending = s.pending := by simp [State.startMemZero]
@[simp] theorem State.startMemZero_quiet : (s.startMemZero c o).quiet = s.quiet := by simp [State.startMemZero]

@[simp] theorem State.get_startMemZero : Store.get (fun _ => (0, 0)) (s.startMemZero c o).zeroOrders c.val = o := by
  rw [State.startMemZero, State.setFld_zeroOrders, State.get_setMemOrder]

@[simp] theorem State.startMemZero_busy : (s.startMemZero c o).flag (.mem c) F.MEM_ZERO_STATUS_BUSY = true := by
  simp (disch := decide) only [State.startMemZero, State.setMemOrder_flag, State.flag_setFld_off, State.flag_setFld_other, State.flag_setFld]
  decide

end

section
variable {s : State} {c : CDie} {span : Nat × Nat} {v : Word}

/-- MEM_ZERO_GO refuses a span just when it is not free. -/
theorem State.memFree_iff : s.MemFree c span ↔ ¬ (decide (768 < span.1 + span.2) || (s.allRanges c).any fun r => overlaps r.2.2 span) = true := by
  simp only [State.MemFree, Bool.or_eq_true, decide_eq_true_eq, List.any_eq_true, not_or, Nat.not_lt, not_exists, not_and, Bool.not_eq_true]

/-- A write with GO, while no order runs, starts one or is refused. -/
theorem memZeroGo_of_go (hup : s.dieDown c = false) (hbusy : s.flag (.mem c) F.MEM_ZERO_STATUS_BUSY = false) (hgo : v.getLsbD 31 = true)
    (hspan : span = (bits v.toNat 9 0, bits v.toNat 19 10)) : memZeroGo c v s =
      if decide (768 < span.1 + span.2) || (s.allRanges c).any fun r => overlaps r.2.2 span then (s.setMemSpan c span).raise (.mem c) 0x107 1 {}
      else (s.setMemSpan c span).startMemZero c span := by
  rw [memZeroGo, if_neg (by rw [hup, hbusy, hgo]; decide), if_neg (by rw [hgo]; decide), ← s.allRanges_setMemSpan c span, hspan]
  rfl

end

/-! MEM_ZERO_DONE. -/

/-- What the end of an order over a number of granules shows: GO and BUSY clear, DONE sets, and the memory runs none. -/
def State.endMemZero (s : State) (c : CDie) (n : Nat) : State :=
  (((((s.setFld (.mem c) F.MEM_ZERO_CTRL_GO 0).setFld (.mem c) F.MEM_ZERO_STATUS_BUSY 0).setFld (.mem c) F.MEM_ZERO_STATUS_DONE 1).setFld (.mem c)
    F.MEM_ZERO_STATUS_PROGRESS n).setFld (.mem c) F.BLK_STATUS_BUSY 0).setMemOrder c (0, 0)

theorem memZeroDone_of_busy {s : State} {c : CDie} {b n : Nat} (hup : s.dieDown c = false) (hbusy : s.flag (.mem c) F.MEM_ZERO_STATUS_BUSY = true)
    (horder : s.zeroing c = (b, n)) :
    memZeroDone c s = ((s.memZero c (b * memGran) (n * memGran)).endMemZero c n).fireEvent (.mem c) 1 := by
  rw [memZeroDone, if_neg (by rw [hup, hbusy]; decide), horder]
  rfl

section
variable (s : State) (c : CDie) (n : Nat)

@[simp] theorem State.endMemZero_tarn : (s.endMemZero c n).tarn = s.tarn := by simp [State.endMemZero]

@[simp] theorem State.endMemZero_memByte (e : CDie) (off : Nat) : (s.endMemZero c n).memByte e off = s.memByte e off := by
  simp [State.memByte, State.endMemZero]

/-- Zeroing granules of a die leaves every other byte of memory. -/
theorem State.memByte_memZero_granules (e : CDie) {b off : Nat} (hfit : b + n ≤ 768) (hoff : off < memSpan) :
    (s.memZero c (b * memGran) (n * memGran)).memByte e off = if e = c ∧ b * memGran ≤ off ∧ off < (b + n) * memGran then 0 else s.memByte e off := by
  have hspan : b * memGran + n * memGran ≤ memSpan := Nat.le_trans (Nat.le_of_eq (Nat.add_mul b n memGran).symm) (Nat.mul_le_mul_right memGran hfit)
  rw [s.memByte_memZero_span c e hspan hoff, Nat.add_mul]

end

/-! MEM_RANGE_WRITE. -/

/-- A partition's range, replaced. -/
def State.setMemRange (s : State) (c : CDie) (p : Part) (i : Nat) (span : Nat × Nat) : State :=
  (s.setFld (.mem c) (F.MEM_RANGE_BASE (4 * p.val + i)) span.1).setFld (.mem c) (F.MEM_RANGE_SIZE (4 * p.val + i)) span.2

theorem memRangeWrite_eq {s : State} {c : CDie} (hup : s.dieDown c = false) (p : Part) (i : Fin 4) (v : Word) : memRangeWrite c p i v s =
    if s.rangeWriteOk c p (bits v.toNat 9 0, bits v.toNat 19 10) then s.setMemRange c p i.val (bits v.toNat 9 0, bits v.toNat 19 10)
    else s.raise (.mem c) 0x107 1 {} := by
  rw [memRangeWrite, if_neg (by rw [hup]; decide)]
  rfl

/-- The two fields of a range do not overlap. -/
theorem State.memRange_setMemRange (s : State) (c : CDie) (p : Part) (i : Nat) (v : Word) :
    (s.setMemRange c p i (bits v.toNat 9 0, bits v.toNat 19 10)).memRange c p i = (bits v.toNat 9 0, bits v.toNat 19 10) := by
  have hapart : (F.MEM_RANGE_BASE (4 * p.val + i)).lsb + (F.MEM_RANGE_BASE (4 * p.val + i)).width ≤ (F.MEM_RANGE_SIZE (4 * p.val + i)).lsb := Nat.le_refl 10
  rw [State.memRange, State.setMemRange, State.fld_setFld_other _ _ _ _ _ (.inr hapart)]
  exact Prod.ext (State.fld_setFld_bits _ _ _ _ _ rfl (show 10 ≤ 32 by decide)) (State.fld_setFld_bits _ _ _ _ _ rfl (show 20 ≤ 32 by decide))

/-- They stand in one register word, and no other changes. -/
theorem State.rd_setMemRange_ne (s : State) (c : CDie) (p : Part) (i : Nat) (span : Nat × Nat) {a : Nat}
    (ha : a ≠ Page.base (.mem c) + (F.MEM_RANGE_BASE (4 * p.val + i)).off) : (s.setMemRange c p i span).rd a = s.rd a :=
  (State.rd_setFld_ne _ _ (F.MEM_RANGE_SIZE (4 * p.val + i)) _ _ ha).trans (State.rd_setFld_ne _ _ _ _ _ ha)

/-! STACK_FAIL. -/

/-- What the failure of stack `k` shows at stack `j`. -/
def State.showFailed (c : CDie) (k : Nat) (s : State) (j : Nat) : State :=
  if j = k then s.setFld (.mem c) (F.MEM_STACK_STATE j) skFAILED
  else if s.fld (.mem c) (F.MEM_STACK_STATE j) = skFAILED then s
  else s.setFld (.mem c) (F.MEM_STACK_STATE j) skFENCED

/-- A die's memory, fenced. -/
def State.fenceMem (s : State) (c : CDie) : State := { s with memFenced := if s.memFenced.contains c then s.memFenced else s.memFenced ++ [c] }

/-- A die's memory once a stack of it has failed, before the fault: not ready, and fenced. -/
def State.failStack (s : State) (c : CDie) (k : Nat) : State :=
  (((List.range 3).foldl (State.showFailed c k) s).setFld (.mem c) F.BLK_STATUS_READY 0).fenceMem c

theorem stackFail_of_up {s : State} {c : CDie} {k : Fin 3} (hup : s.dieDown c = false) : stackFail c k s =
    (List.finRange 64).foldl (fun (t : State) p => if [0, 1, 2, 3].any (fun i => (t.memRange c p i).2 != 0) then t.c3React p else t)
      ((s.failStack c k.val).raise (.mem c) 0x108 1 {}) := by
  rw [stackFail, if_neg (by rw [hup]; decide)]
  rfl

section
variable (s : State) (c : CDie) (k : Nat)

theorem State.showFailed_self : (State.showFailed c k s k).fld (.mem c) (F.MEM_STACK_STATE k) = skFAILED := by
  have hfits : (F.MEM_STACK_STATE k).lsb + (F.MEM_STACK_STATE k).width ≤ 32 := show 3 ≤ 32 by decide
  rw [State.showFailed, if_pos rfl, State.fld_setFld _ _ _ _ hfits]
  rfl

/-- The words of two stacks lie apart. -/
theorem State.showFailed_ne {j : Nat} (h : j ≠ k) :
    (State.showFailed c k s j).fld (.mem c) (F.MEM_STACK_STATE k) = s.fld (.mem c) (F.MEM_STACK_STATE k) := by
  have hapart : 0x104 + 4 * j ≠ 0x104 + 4 * k := by omega
  rw [State.showFailed, if_neg h]
  split
  · rfl
  · exact State.fld_setFld_off _ _ _ _ _ hapart

/-- However the stacks are gone through, the failed one shows FAILED at the end. -/
theorem State.foldl_showFailed (l : List Nat) (h : k ∈ l ∨ s.fld (.mem c) (F.MEM_STACK_STATE k) = skFAILED) :
    (l.foldl (State.showFailed c k) s).fld (.mem c) (F.MEM_STACK_STATE k) = skFAILED := by
  induction l generalizing s with
  | nil => exact h.resolve_left List.not_mem_nil
  | cons j l ih =>
    refine ih _ ?_
    by_cases hj : j = k
    · subst hj
      exact .inr (s.showFailed_self c j)
    · rw [s.showFailed_ne c k hj]
      exact h.imp_left fun hmem => (List.mem_cons.1 hmem).resolve_left (Ne.symm hj)

@[simp] theorem State.fenceMem_fld (p : Page) (f : Field) : (s.fenceMem c).fld p f = s.fld p f := by cases s; rfl
@[simp] theorem State.fenceMem_flag (p : Page) (f : Field) : (s.fenceMem c).flag p f = s.flag p f := by cases s; rfl

theorem State.mem_fenceMem : c ∈ (s.fenceMem c).memFenced := by
  dsimp only [State.fenceMem]
  split
  case isTrue hmem => exact List.contains_iff_mem.1 hmem
  case isFalse => exact List.mem_append_right _ (List.mem_singleton_self c)

theorem State.failStack_fenced : c ∈ (s.failStack c k).memFenced := State.mem_fenceMem _ c

theorem State.failStack_ready : (s.failStack c k).flag (.mem c) F.BLK_STATUS_READY = false := by
  rw [State.failStack, State.fenceMem_flag, State.flag_setFld _ _ _ _ (by decide)]
  decide

theorem State.failStack_failed (hk : k < 3) : (s.failStack c k).fld (.mem c) (F.MEM_STACK_STATE k) = skFAILED := by
  have hapart : 0xc ≠ 0x104 + 4 * k := by omega
  rw [State.failStack, State.fenceMem_fld, State.fld_setFld_off _ _ _ _ _ hapart]
  exact s.foldl_showFailed c k (List.range 3) (.inl (List.mem_range.2 hk))

end

/-- Settles O17: each clause is the rule above for its command, read at the registers and bytes that it names. -/
theorem memoryControllersRunTheirOrders : Obligations.MemoryControllersRunTheirOrders := by
  refine ⟨fun s c hs => run_same hs (refreshPoll_nil c s), fun s c rf temp hon hup hoff hfail => ?poll, fun s c sec x hon hup hen hready hout => ?patrol,
    fun s c sec f hs hskip => run_same hs ?skip, fun s c v hs hup hgo hbusy => ?go, fun s c b n hon hup hbusy horder hfit => ?done,
    fun s c p i v hon hup => ?range, fun s c k hon hup => ?fail⟩
  case poll =>
    intro u
    have heq := refreshPoll_singleton (x := (rf, temp)) hup hoff hfail
    refine ⟨fun hhot hth => ?_, fun hhot hth => ?_, fun hlo hhi => ?_, fun hcool => ?_⟩
    · exact run_of_eq hon (heq.trans (State.pollStack_of_hot hhot hth))
    · exact run_of_eq hon (heq.trans (State.pollStack_of_throttled hhot hth))
    · exact run_of_eq hon (heq.trans (State.pollStack_of_warm hlo hhi))
    · exact run_of_eq hon (heq.trans (State.pollStack_of_cool hcool))
  case patrol =>
    intro e b
    have h : s.Patrols c (32 * sec.val / memGran) := ⟨hup, hen, hready, hout⟩
    exact ⟨fun hsym => run_of_eq hon (patrolRead_of_correctable h hsym), fun hsym hnew => run_of_eq hon (patrolRead_of_uncorrectable h hsym hnew)⟩
  case skip =>
    rcases hskip with rfl | ⟨hlo, hhi⟩
    · exact patrolRead_of_clean c sec.val s
    · exact patrolRead_of_zeroing hlo hhi
  case go =>
    intro span
    have heq := memZeroGo_of_go (span := span) hup hbusy hgo rfl
    refine ⟨fun hfits hfree => ?_, fun hbad => ?_⟩
    · rw [if_neg (State.memFree_iff.1 ⟨hfits, hfree⟩)] at heq
      refine ⟨_, run_quiet hs (by simpa [heq] using State.settled_quiet hs) (by simp [heq]), ?_⟩
      simp [heq]
    · rw [if_pos (by simpa using hbad)] at heq
      exact run_of_eq (State.settled_on hs) heq
  case done =>
    intro z w u
    have hu : u = z.endMemZero c n := State.setMemOrder_of_eq _ _ _ (by simp [w, z])
    rw [hu]
    refine ⟨run_of_eq hon (memZeroDone_of_busy hup hbusy horder), by simp [z], fun e off hoff => ?_⟩
    rw [State.endMemZero_memByte]
    exact s.memByte_memZero_granules c n e hfit hoff
  case range =>
    intro span u
    have heq := memRangeWrite_eq hup p i v
    have hrange : u.memRange c p i.val = span := s.memRange_setMemRange c p i.val v
    exact ⟨fun hok => ⟨run_of_eq hon (heq.trans (if_pos hok)), congrArg Prod.fst hrange, congrArg Prod.snd hrange, fun a ha => s.rd_setMemRange_ne c p i.val span ha⟩,
      fun hbad => run_of_eq hon (heq.trans (if_neg (Bool.eq_false_iff.1 hbad)))⟩
  case fail =>
    exact ⟨s.failStack c k.val, run_of_eq hon (stackFail_of_up hup), s.failStack_fenced c k.val, s.failStack_ready c k.val, s.failStack_failed c k.val k.isLt⟩

end Sys2Proof.Machine
end

section
/-! Training and qualification of ports (07 R283, R285–R287, R301): what each row makes of a port in its state, and what it leaves of a port in another. -/

namespace Sys2Proof.Machine

/-- The outcome of a command in a settled package that stays quiet. -/
theorem run_quiet_of_eq {f : State → State} {s t : State} (hs : s.settled = true) (h : f s = t) (hq : t.quiet = true) (hp : t.pending = s.pending) :
    run f s = .next t := by
  subst h; exact run_quiet hs hq hp

@[simp] theorem State.port_setPort_self (s : State) (q : Port) (x : PortSt) : (s.setPort q x).port q = x := Store.get_set_self _ _ _ _

@[simp] theorem State.port_updPort_self (s : State) (q : Port) (f : PortSt → PortSt) : (s.updPort q f).port q = f (s.port q) := s.port_setPort_self q _

/-! SIGNAL_DETECT. -/

/-- The received power stands on the optical page, and the state of a port on its own. -/
theorem State.lnk_rxPower (s : State) (j : OptPort) (rx : List (BitVec 16)) (q : Port) : (s.rxPower j rx).lnk q = s.lnk q := by
  refine List.foldlRecOn (motive := fun t => State.lnk t q = s.lnk q) _ _ rfl fun t ht e he => ?_
  have hlane : e.2 < 4 := by
    have := (List.mem_zipIdx he).2.1
    rw [List.length_take] at this
    omega
  have hoff : (F.OPT_RX_PWR_PWR e.2).off < 0x1000 := show 0x10c + 4 * e.2 < 0x1000 by omega
  exact (State.fld_setFld_page t _ _ _ hoff (by decide) (by simp)).trans ht

section
variable {s : State} {q : Port} {rx : List (BitVec 16)}

theorem signalDetect_of_light {j : OptPort} (hup : s.portUp q = true) (hj : Port.opt? q = some j) (hst : s.lnk q = lkDETECT)
    (hlight : (s.rxPower j rx).flag (.opt j) F.OPT_STATUS_LASER_OK = true) : signalDetect q rx s = (s.rxPower j rx).enterLnk q lkTRAIN := by
  simp [signalDetect, hup, hj, State.lnk_rxPower, hst, hlight]

theorem signalDetect_of_dark {j : OptPort} (hup : s.portUp q = true) (hj : Port.opt? q = some j)
    (hdark : (s.rxPower j rx).flag (.opt j) F.OPT_STATUS_LASER_OK = false) : signalDetect q rx s = s.rxPower j rx := by
  simp [signalDetect, hup, hj, hdark]

theorem signalDetect_of_electrical (hup : s.portUp q = true) (hj : Port.opt? q = none) (hst : s.lnk q = lkDETECT) :
    signalDetect q rx s = s.enterLnk q lkTRAIN := by
  simp [signalDetect, hup, hj, hst]

end

/-! The rows of TRAIN and ALIGN. -/

section
variable {s : State} {q : Port}

theorem trainingWord_of_train {lane : Fin 8} {w : TrainWord} {limit refused : Bool} {l : LaneTx} (hup : s.portUp q = true) (hst : s.lnk q = lkTRAIN)
    (hlane : lane.val < Port.lanes q) (hl : l = { (Store.get (fun _ => {}) (s.port q).lanes lane.val).apply w limit refused with
      ready := w.rxReady, reply := w.status }) : trainingWord q lane w limit refused s =
      (s.setPort q { s.port q with lanes := Store.set (fun _ => {}) (s.port q).lanes lane.val l }).emit (.trainStatus q lane.val l.status) := by
  rw [trainingWord, if_neg (by simp [hup, hst, hlane]), hl]

theorem trainingWord_of_notTrain {lane : Fin 8} {w : TrainWord} {limit refused : Bool} (hst : s.lnk q ≠ lkTRAIN) :
    trainingWord q lane w limit refused s = s := if_pos (by simp [hst])

theorem trainComplete_of_ready {ps : List (Fin 8)} (hup : s.portUp q = true) (hst : s.lnk q = lkTRAIN)
    (hready : (s.port q).partnerReady (Port.lanes q) = true) : trainComplete q ps s =
      ((ps.take (Port.lanes q)).zipIdx.foldl (fun (t : State) e => t.setFld (.lnk q) (F.LNK_LANE_PRESET e.2) e.1.val) s).enterLnk q lkALIGN :=
  if_neg (by simp [hup, hst, hready])

theorem trainComplete_of_notTrain {ps : List (Fin 8)} (hst : s.lnk q ≠ lkTRAIN) : trainComplete q ps s = s := if_pos (by simp [hst])

theorem alignComplete_of_good {ls : List (Fin 8 × Bool)} (hup : s.portUp q = true) (hst : s.lnk q = lkALIGN) (hgood : 64 ≤ (s.port q).good) :
    alignComplete q ls s = ((List.range (Port.lanes q)).foldl (fun (t : State) i => t.setFld (.lnk q) (F.LNK_LANE_LOCK i) 1)
      ((ls.take (Port.lanes q)).zipIdx.foldl (fun (t : State) e => (t.setFld (.lnk q) (F.LNK_LANE_PHYS e.2) e.1.1.val).setFld (.lnk q)
        (F.LNK_LANE_POL_INV e.2) e.1.2.toNat) s)).enterLnk q lkQUALIFY :=
  if_neg (by simp [hup, hst, hgood])

theorem alignComplete_of_notAlign {ls : List (Fin 8 × Bool)} (hst : s.lnk q ≠ lkALIGN) : alignComplete q ls s = s := if_pos (by simp [hst])

theorem State.attemptFail_of_left (hleft : 1 < (s.port q).attempts) :
    s.attemptFail q = (s.setPort q { s.port q with attempts := (s.port q).attempts - 1 }).enterLnk q lkTRAIN := if_neg (by omega)

theorem State.attemptFail_of_last (hlast : (s.port q).attempts ≤ 1) :
    s.attemptFail q = ((s.setPort q { s.port q with attempts := 0 }).setFld (.lnk q) F.LNK_STATE_CAUSE 1).enterLnk q lkFAILED := by
  have hnone : (s.port q).attempts - 1 = 0 := by omega
  rw [State.attemptFail, if_pos hnone, hnone]
  rfl

theorem trainAttemptTimeout_of_attempt (hup : s.portUp q = true) (hst : s.lnk q = lkTRAIN ∨ s.lnk q = lkALIGN) :
    trainAttemptTimeout q s = s.attemptFail q := if_pos (by simpa [hup] using hst)

theorem trainAttemptTimeout_of_noAttempt (htrain : s.lnk q ≠ lkTRAIN) (halign : s.lnk q ≠ lkALIGN) : trainAttemptTimeout q s = s :=
  if_neg (by simp [htrain, halign])

end

/-! Qualification. -/

theorem dwellPass_iff (ls : List LaneFec) : dwellPass ls = true ↔ ∀ l ∈ ls, l.corr ≤ 85000 ∧ l.unc = 0 := by
  simp [dwellPass]

/-- What the decoders count leaves the results of a qualification. -/
theorem PortSt.peerRes_decoded (x : PortSt) (qualify : Bool) (ls : List LaneFec) : (x.decoded qualify ls).peerRes = x.peerRes :=
  List.foldlRecOn (motive := fun y => PortSt.peerRes y = x.peerRes) _ _ rfl fun _ hy _ _ => hy

theorem State.port_lanesCount (s : State) (q : Port) (ls : List LaneFec) :
    (s.lanesCount q ls).port q = (s.port q).decoded (s.lnk q = lkQUALIFY) ls := by
  simp [State.lanesCount]

@[simp] theorem State.lanesCount_mem (s : State) (q : Port) (ls : List LaneFec) : (s.lanesCount q ls).mem = s.mem := by simp [State.lanesCount]

/-- The lanes' counts at the end of a dwell are shown on the port's page. -/
def State.showDwell (s : State) (q : Port) (ls : List LaneFec) : State :=
  ls.zipIdx.foldl (fun t e => t.setFld (.lnk q) (F.LNK_LANE_QUAL_ERR e.2) (min e.1.corr 0xFFFFFF)) s

@[simp] theorem State.port_showDwell (s : State) (q : Port) (ls : List LaneFec) : (s.showDwell q ls).port q = s.port q :=
  List.foldlRecOn (motive := fun t => State.port t q = s.port q) _ _ rfl fun t ht _ _ => (t.setFld_port _ _ _ q).trans ht

@[simp] theorem State.showDwell_mem (s : State) (q : Port) (ls : List LaneFec) : (s.showDwell q ls).mem = s.mem :=
  List.foldlRecOn (motive := fun t => State.mem t = s.mem) _ _ rfl fun t ht _ _ => (t.setFld_mem _ _ _).trans ht

/-- The most corrected bits of a lane. -/
def worstLane (ls : List LaneFec) : Nat := ls.foldl (fun a l => max a l.corr) 0

/-- The local result of a dwell with these counts is kept, shown and sent. -/
def State.keepResult (s : State) (q : Port) (ls : List LaneFec) : State :=
  (((s.showDwell q ls).updPort q (fun x => { x with localRes := some (dwellPass ls), worst := worstLane ls })).setFld (.lnk q) F.LNK_QUAL_LOCAL_PASS
    (dwellPass ls).toNat).sendThrice q (recordBytes 3 (BitVec.ofNat 8 (dwellPass ls).toNat :: leBytes (worstLane ls) 8))

section
variable (s : State) (q : Port) (ls : List LaneFec)

theorem State.localRes_keepResult : ((s.keepResult q ls).port q).localRes = some (dwellPass ls) := by
  simp [State.keepResult, State.sendThrice, State.sendRecord, State.enqueue]

theorem State.peerRes_keepResult : ((s.keepResult q ls).port q).peerRes = (s.port q).peerRes := by
  simp [State.keepResult, State.sendThrice, State.sendRecord, State.enqueue]

theorem State.keepResult_mem : (s.keepResult q ls).mem = s.mem := by
  simp [State.keepResult, State.sendThrice, State.sendRecord, State.enqueue]

end

section
variable {s : State} {q : Port}

theorem qualDwellEnd_of_first {more : List LaneFec} (hup : s.portUp q = true) (hst : s.lnk q = lkQUALIFY) (hfirst : (s.port q).localRes = none) :
    qualDwellEnd q more s = ((s.lanesCount q more).keepResult q (((s.lanesCount q more).port q).dwellLanes (Port.lanes q))).verdict q :=
  if_neg (by simp [hup, hst, hfirst])

theorem qualDwellEnd_of_notQualify {more : List LaneFec} (hst : s.lnk q ≠ lkQUALIFY) : qualDwellEnd q more s = s := if_pos (by simp [hst])

theorem qualResultTimeout_of_waiting (hup : s.portUp q = true) (hst : s.lnk q = lkQUALIFY) (hlocal : (s.port q).localRes.isSome = true)
    (hpeer : (s.port q).peerRes = none) : qualResultTimeout q s = (s.setPort q { s.port q with peerRes := some false }).verdict q :=
  if_neg (by simpa [hup, hst, hpeer] using Option.isSome_iff_ne_none.1 hlocal)

theorem qualResultTimeout_of_notQualify (hst : s.lnk q ≠ lkQUALIFY) : qualResultTimeout q s = s := if_pos (by simp [hst])

theorem qualResult_of_first {pass : Bool} (hup : s.portUp q = true) (hst : s.lnk q = lkQUALIFY) (hpeer : (s.port q).peerRes = none) :
    qualResult q pass s =
      ((s.setPort q { s.port q with peerRes := some pass }).setFld (.lnk q) F.LNK_QUAL_PEER_PASS pass.toNat).verdict q :=
  if_neg (by simp [hup, hst, hpeer])

theorem qualResult_of_notQualify {pass : Bool} (hst : s.lnk q ≠ lkQUALIFY) : qualResult q pass s = s := if_pos (by simp [hst])

theorem State.verdict_of_known {l p : Bool} (hlocal : (s.port q).localRes = some l) (hpeer : (s.port q).peerRes = some p) :
    s.verdict q = (if l && p then ((s.setFld (.lnk q) F.LNK_QUAL_DONE 1).enterLnk q lkHELD).heldCheck q
      else ((s.setFld (.lnk q) F.LNK_QUAL_DONE 1).setFld (.lnk q) F.LNK_STATE_CAUSE (if l then 3 else 2)).enterLnk q lkFAILED) := by
  simp only [State.verdict, hlocal, hpeer]

/-- The verdict waits for both results. -/
theorem State.verdict_of_unknown (h : (s.port q).localRes = none ∨ (s.port q).peerRes = none) : s.verdict q = s := by
  dsimp only [State.verdict]
  split
  case h_1 hlocal hpeer => simp [hlocal, hpeer] at h
  case h_2 => rfl

end

/-- Settles O18: each clause is the rule above for its row in that state. -/
theorem portsTrainAndAreQualified : Obligations.PortsTrainAndAreQualified := by
  refine ⟨fun s q rx hon hup => ⟨fun j hj => ⟨fun hst hlight => run_of_eq hon (signalDetect_of_light hup hj hst hlight),
      fun hdark => run_of_eq hon (signalDetect_of_dark hup hj hdark)⟩, fun hj hst => run_of_eq hon (signalDetect_of_electrical hup hj hst)⟩,
    fun s q lane w limit refused hs hup hst hlane => ?word, fun s q ps hon hup hst hready => run_of_eq hon (trainComplete_of_ready hup hst hready),
    fun s q ls hon hup hst hgood => run_of_eq hon (alignComplete_of_good hup hst hgood), fun s q hon hup hst => ?attempt,
    fun s q more hon hup hst hfirst => ?dwell,
    fun s q hon hup hst hlocal hpeer => run_of_eq hon (qualResultTimeout_of_waiting hup hst hlocal hpeer),
    fun s q pass hon hup hst hpeer => run_of_eq hon (qualResult_of_first hup hst hpeer), dwellPass_iff, fun s q l p => State.verdict_of_known,
    fun s q => State.verdict_of_unknown, fun s q hs => ?otherState⟩
  case word =>
    intro l
    exact run_quiet_of_eq hs (trainingWord_of_train hup hst hlane rfl) (by simpa using State.settled_quiet hs) (by simp)
  case attempt =>
    have heq := trainAttemptTimeout_of_attempt hup hst
    exact ⟨fun hleft => run_of_eq hon (heq.trans (State.attemptFail_of_left hleft)), fun hlast => run_of_eq hon (heq.trans (State.attemptFail_of_last hlast))⟩
  case dwell =>
    refine ⟨_, run_of_eq hon (qualDwellEnd_of_first hup hst hfirst), State.localRes_keepResult _ _ _, ?_, ?_⟩
    · rw [State.peerRes_keepResult, State.port_lanesCount, PortSt.peerRes_decoded]
    · rw [State.keepResult_mem, State.lanesCount_mem]
  case otherState =>
    exact ⟨fun htrain => ⟨fun _ _ _ _ => run_same hs (trainingWord_of_notTrain htrain), fun _ => run_same hs (trainComplete_of_notTrain htrain)⟩,
      fun halign _ => run_same hs (alignComplete_of_notAlign halign),
      fun htrain halign => run_same hs (trainAttemptTimeout_of_noAttempt htrain halign),
      fun hqual => ⟨fun _ => run_same hs (qualDwellEnd_of_notQualify hqual), run_same hs (qualResultTimeout_of_notQualify hqual),
        fun _ => run_same hs (qualResult_of_notQualify hqual)⟩⟩

end Sys2Proof.Machine
end

section
/-! Link frames and records (07 R271, R273–R281, R288, R292, R293): what a port makes of a frame it receives, of one it sends, and of the partner's records. -/

namespace Sys2Proof.Machine

/-! FRAME_RECEIVE. -/

section
variable {s : State} {q : Port} {f : RxFrame}

/-- A frame that no injection meets is counted as it came, and taken or discarded by its check alone. -/
theorem frameReceive_of_noInjection (hup : s.portUp q = true) (hst : s.lnk q = lkALIGN ∨ recordsDelivered (s.lnk q) = true)
    (htag : s.injection (.lnk q) 0 = none) (hfec : s.injection (.lnk q) 1 = none) : frameReceive q f s =
      let now := s.now (PDie.die (Port.pdie q))
      let unc := fecSum (·.unc) (laneCounts f.lanes)
      let w := s.lanesCount q (laneCounts f.lanes)
      let us := recentUnc now ((w.port q).uncs ++ (if unc = 0 then [] else [(now, unc)]))
      let u := w.updPort q (fun x => { x with uncs := us })
      let v := if frameOk (u.port q) f unc then u.frameGood q f else u.frameBad q false
      if 16 < (us.map (·.2)).sum then v.portFail q 6 else v := by
  have hnow : (s.lanesCount q (laneCounts f.lanes)).now (PDie.die (Port.pdie q)) = s.now (PDie.die (Port.pdie q)) := by simp [State.lanesCount]
  rw [frameReceive, if_neg (by rcases hst with h | h <;> simp [hup, h])]
  simp only [htag, hfec, Option.isSome_none, bne_self_eq_false, Bool.or_self, Bool.false_or, Bool.false_eq_true, if_false, hnow, reduceCtorEq, decide_false,
    Bool.false_and, Bool.not_eq_true', ← Bool.not_eq_true, ite_not]

end

section
variable {x : PortSt} {f : RxFrame} {n : Nat}

theorem PortSt.fcntOk_iff : x.fcntOk f = true ↔
    ∀ l, (if f.keyed then (x.rxKey f.kidx).bind (·.last) else x.rxPlain) = some l → l < f.fcnt.toNat := by
  unfold PortSt.fcntOk
  split
  case h_1 hnone => simp [hnone]
  case h_2 l hsome => simp [hsome]

theorem frameOk_iff_parts : frameOk x f n = true ↔ n = 0 ∧ f.zeros = true ∧ x.tagOk f = true ∧ x.fcntOk f = true := by
  simp only [frameOk, Bool.and_eq_true, beq_iff_eq]
  exact ⟨fun ⟨⟨⟨htag, hfcnt⟩, hzeros⟩, hunc⟩ => ⟨hunc, hzeros, htag, hfcnt⟩, fun ⟨hunc, hzeros, htag, hfcnt⟩ => ⟨⟨⟨htag, hfcnt⟩, hzeros⟩, hunc⟩⟩

theorem frameOk_iff_plain (hk : f.keyed = false) : frameOk x f n = true ↔
    n = 0 ∧ f.zeros = true ∧ f.tag = frameTag 0 0 f.header f.slots ∧ ∀ l, x.rxPlain = some l → l < f.fcnt.toNat := by
  have htag : x.tagOk f = true ↔ f.tag = frameTag 0 0 f.header f.slots := by simp [PortSt.tagOk, hk]
  have hfcnt : x.fcntOk f = true ↔ ∀ l, x.rxPlain = some l → l < f.fcnt.toNat := by
    rw [PortSt.fcntOk_iff, hk]
    exact Iff.rfl
  rw [frameOk_iff_parts, htag, hfcnt]

theorem frameOk_iff_keyed (hk : f.keyed = true) : frameOk x f n = true ↔ n = 0 ∧ f.zeros = true ∧
    ∃ k, x.rxKey f.kidx = some k ∧ f.tag = frameTag k.key k.salt f.header f.slots ∧ ∀ l, k.last = some l → l < f.fcnt.toNat := by
  cases hslot : x.rxKey f.kidx with
  | none => simp [frameOk_iff_parts, PortSt.tagOk, hk, hslot]
  | some k =>
    have htag : x.tagOk f = true ↔ f.tag = frameTag k.key k.salt f.header f.slots := by simp [PortSt.tagOk, hk, hslot]
    have hfcnt : x.fcntOk f = true ↔ ∀ l, k.last = some l → l < f.fcnt.toNat := by
      rw [PortSt.fcntOk_iff, hk, hslot]
      exact Iff.rfl
    simp only [frameOk_iff_parts, htag, hfcnt, Option.some.injEq, exists_eq_left']

/-- The check of a received frame, by whether its header says it is keyed. -/
theorem frameOk_iff : frameOk x f n = true ↔ n = 0 ∧ f.zeros = true ∧
    (f.keyed = false → f.tag = frameTag 0 0 f.header f.slots ∧ ∀ l, x.rxPlain = some l → l < f.fcnt.toNat) ∧
    (f.keyed = true → ∃ k, x.rxKey f.kidx = some k ∧ f.tag = frameTag k.key k.salt f.header f.slots ∧ ∀ l, k.last = some l → l < f.fcnt.toNat) := by
  cases hk : f.keyed with
  | false => simp [frameOk_iff_plain hk]
  | true => simp [frameOk_iff_keyed hk]

end

/-! FRAME_TRANSMIT. -/

/-- The transmitter takes a slot into use, and the KEY_READY that named it is spent. -/
def State.takeSlot (s : State) (q : Port) (k : Bool) : State :=
  (((s.setPort q { (s.port q).setReady k false with switchTo := none }).setFld (.lnk q) F.LNK_STATE_KIDX_TX k.toNat).setFld (.lnk q)
    F.LNK_STATE_KEYED_TX 1).setFld (.lnk q) F.LNK_STATE_KEY_DUE 0

/-- At a frame boundary the transmitter takes its other slot or goes on. -/
theorem State.slotChange_eq_or (s : State) (q : Port) : s.slotChange q = s ∨ s.slotChange q = s.takeSlot q (!(s.txSlot q)) :=
  (Classical.em _).elim (fun hdue => .inr (if_pos hdue)) fun hdue => .inl (if_neg hdue)

/-- A frame with what waits leaves under a key of the slot in use, whose counter advances. -/
def State.sendKeyed (s : State) (q : Port) (t : TxKey) : State :=
  (((s.setPort q { (s.port q).setTx (s.txSlot q) (some { t with fcnt := t.fcnt + 1 }) with txq := (s.port q).txq.drop 256 }).wr64 (.lnk q) 0x140
    (BitVec.ofNat 64 (t.fcnt + 1))).stamp q true t.fcnt).emit (frameOut q t.key t.salt (frameHeader t.fcnt (s.txSlot q) true
      (firstBoundary ((s.port q).txq.take 256))) (((s.port q).txq.take 256).map (·.2)))

/-- The warning that a key is due, at a port in the given state. -/
def State.warnKeyDue (s : State) (q : Port) (st : Nat) : State :=
  ((s.setFld (.lnk q) F.LNK_STATE_KEY_DUE 1).fireEvent (.lnk q) 2).agentEvent (Port.pdie q) 0x04 q.val st (s.fld (.lnk q) F.LNK_STATE_CAUSE)

section
variable {s : State} {q : Port}

theorem State.lnk_ne_align_of_recordsDelivered (h : recordsDelivered (s.lnk q) = true) : s.lnk q ≠ lkALIGN := by
  intro hst
  rw [hst] at h
  exact absurd h (by decide)

/-- A port that carries records does not idle. -/
theorem State.idling_of_recordsDelivered (h : recordsDelivered (s.lnk q) = true) : s.idling q = false := by
  have hsafe : s.lnk q ≠ lkSAFE := by
    intro hst
    rw [hst] at h
    exact absurd h (by decide)
  simp [State.idling, State.lnk_ne_align_of_recordsDelivered h, hsafe]

/-- The slot in use and KEY_DUE stand beside the port's state. -/
theorem State.lnk_slotChange : (s.slotChange q).lnk q = s.lnk q := by
  rcases s.slotChange_eq_or q with h | h <;> rw [h]
  simp (disch := decide) only [State.lnk, State.takeSlot, State.fld_setFld_other, State.setPort_fld]

theorem frameTransmit_of_align (hup : s.portUp q = true) (hst : s.lnk q = lkALIGN) : frameTransmit q s =
    (((s.setPort q { s.port q with txPlain := (s.port q).txPlain + 1 }).wr64 (.lnk q) 0x140
      (BitVec.ofNat 64 ((s.port q).txPlain + 1))).stamp q true (s.port q).txPlain).emit
        (frameOut q 0 0 (frameHeader (s.port q).txPlain false false (firstBoundary [])) []) := by
  have hidle : s.idling q = true := by simp [State.idling, hst]
  rw [frameTransmit, if_neg (by simp [hup, hidle])]
  simp [hidle, hst]

/-- In a state that carries records the port changes its slot where that is due, and then sends under the key of the slot in use. -/
theorem frameTransmit_of_keyed {t : TxKey} (hup : s.portUp q = true) (hrec : recordsDelivered (s.lnk q) = true)
    (hkey : ((s.slotChange q).port q).txKey ((s.slotChange q).txSlot q) = some t) : frameTransmit q s =
      if fcntEnd ≤ t.fcnt then (s.slotChange q).portFail q 7
      else if t.fcnt + 1 = fcntDue then ((s.slotChange q).sendKeyed q t).warnKeyDue q (s.lnk q)
      else (s.slotChange q).sendKeyed q t := by
  have hidle := State.idling_of_recordsDelivered hrec
  have hidle' : (s.slotChange q).idling q = false := State.idling_of_recordsDelivered (by rwa [State.lnk_slotChange])
  rw [frameTransmit, if_neg (by simp [hup, hrec])]
  simp only [hidle, hidle', Bool.false_eq_true, if_false, State.lnk_ne_align_of_recordsDelivered hrec, hkey]
  rfl

theorem frameTransmit_of_exhausted {t : TxKey} (hup : s.portUp q = true) (hrec : recordsDelivered (s.lnk q) = true)
    (hkey : ((s.slotChange q).port q).txKey ((s.slotChange q).txSlot q) = some t) (hend : fcntEnd ≤ t.fcnt) :
    frameTransmit q s = (s.slotChange q).portFail q 7 := by
  rw [frameTransmit_of_keyed hup hrec hkey, if_pos hend]

theorem frameTransmit_of_notDue {t : TxKey} (hup : s.portUp q = true) (hrec : recordsDelivered (s.lnk q) = true)
    (hkey : ((s.slotChange q).port q).txKey ((s.slotChange q).txSlot q) = some t) (hlt : t.fcnt < fcntEnd) (hdue : t.fcnt + 1 ≠ fcntDue) :
    frameTransmit q s = (s.slotChange q).sendKeyed q t := by
  rw [frameTransmit_of_keyed hup hrec hkey, if_neg (Nat.not_le.2 hlt), if_neg hdue]

end

/-! IDENT. -/

/-- LNK_PARTNER as an IDENT record sets it (07 R301). -/
def Ident.word (i : Ident) : Nat :=
  i.pn.toNat % 32 + (i.role.toNat % 4) <<< 5 + 1 <<< 7 + i.verMin.toNat <<< 8 + i.verMax.toNat <<< 12 + (i.profile.toNat % 16) <<< 16

/-- An IDENT record on the port's page and in the port. -/
def State.keepIdent (s : State) (q : Port) (i : Ident) : State :=
  ((((s.wr (Page.base (.lnk q) + 0x10C) (BitVec.ofNat 32 i.word)).wr64 (.lnk q) 0x110 (BitVec.ofNat 64 i.serial.toNat)).wr64 (.lnk q) 0x118
    (BitVec.ofNat 64 (i.serial.toNat >>> 64))).setFld (.lnk q) F.LNK_STATE_NEG_VER (negVersion 1 1 i.verMin.toNat i.verMax.toNat)).setPort q
      { s.port q with serial := i.serial, planDigest := leBytes i.planDig.toNat 16, fwDigest := leBytes i.fwDig.toNat 16, hadIdent := true }

/-- Bit 7 of LNK_PARTNER is VALID. -/
theorem Ident.testBit_word (i : Ident) : i.word / 128 % 2 = 1 := by
  have hpn : i.pn.toNat % 32 < 32 := Nat.mod_lt _ (by decide)
  have hrole : i.role.toNat % 4 < 4 := Nat.mod_lt _ (by decide)
  simp only [Ident.word, Nat.shiftLeft_eq]
  omega

/-- Both ends support version 1 alone. -/
theorem negVersion_one_le (lo hi : Nat) : negVersion 1 1 lo hi ≤ 1 := by
  simp only [negVersion]
  split <;> omega

section
variable (s : State) (q : Port) (i : Ident)

theorem State.port_keepIdent : (s.keepIdent q i).port q =
    { s.port q with serial := i.serial, planDigest := leBytes i.planDig.toNat 16, fwDigest := leBytes i.fwDig.toNat 16, hadIdent := true } :=
  State.port_setPort_self _ _ _

theorem State.keepIdent_version : (s.keepIdent q i).fld (.lnk q) F.LNK_STATE_NEG_VER = negVersion 1 1 i.verMin.toNat i.verMax.toNat := by
  have hlt := negVersion_one_le i.verMin.toNat i.verMax.toNat
  rw [State.keepIdent, State.setPort_fld, State.fld_setFld _ _ _ _ (by decide)]
  exact Nat.mod_eq_of_lt (Nat.lt_of_le_of_lt hlt (by decide))

theorem State.keepIdent_valid : (s.keepIdent q i).flag (.lnk q) F.LNK_PARTNER_VALID = true := by
  have hbit := i.testBit_word
  rw [State.keepIdent, State.setPort_flag, State.flag_setFld_off _ _ _ _ _ (by decide), State.flag, State.fld_wr64_ne _ _ _ _ (by decide),
    State.fld_wr64_ne _ _ _ _ (by decide), State.fld]
  have hrd : (s.wr (Page.base (.lnk q) + 0x10C) (BitVec.ofNat 32 i.word)).rd (Page.base (.lnk q) + F.LNK_PARTNER_VALID.off) = BitVec.ofNat 32 i.word :=
    State.rd_wr_self _ _ _
  rw [hrd, getF, BitVec.toNat_ofNat, Nat.shiftRight_eq_div_pow]
  have : i.word % 2 ^ 32 / 2 ^ 7 % 2 ^ 1 = 1 := by omega
  exact bne_iff_ne.2 (by rw [show F.LNK_PARTNER_VALID.lsb = 7 from rfl, show F.LNK_PARTNER_VALID.width = 1 from rfl, this]; decide)

end

section
variable {s : State} {q : Port}

/-- The first IDENT of a partner makes no event. -/
theorem identReceive_of_first {i : Ident} (hup : s.portUp q = true) (hrec : recordsDelivered (s.lnk q) = true) (hfirst : (s.port q).hadIdent = false) :
    identReceive q i s = s.keepIdent q i := by
  rw [identReceive, if_neg (by simp [hup, hrec])]
  exact if_neg (by simp [hfirst])

/-! The other records. -/

theorem keyReady_of_delivered {slot : Fin 2} (hup : s.portUp q = true) (hrec : recordsDelivered (s.lnk q) = true) : keyReady q slot s =
    s.updPort q (fun x => if slot = 0 then { x with ready0 := true } else { x with ready1 := true }) := if_neg (by simp [hup, hrec])

theorem keyAck_of_delivered {slot : Fin 2} (hup : s.portUp q = true) (hrec : recordsDelivered (s.lnk q) = true) :
    keyAck q slot s = s.setPort q { s.port q with acked := some slot.val } := if_neg (by simp [hup, hrec])

theorem identSend_of_delivered (hup : s.portUp q = true) (hrec : recordsDelivered (s.lnk q) = true) :
    identSend q s = s.sendRecord q (s.identRecord q) := if_pos (by simp [hup, hrec])

theorem linkRecordRepeat_of_cons {bs : List Byte} {n : Nat} {r : List (List Byte × Nat)} (hup : s.portUp q = true) (hrep : (s.port q).repeats = (bs, n) :: r) :
    linkRecordRepeat q s = (s.setPort q { s.port q with repeats := if n ≤ 1 then r else r ++ [(bs, n - 1)] }).sendRecord q bs := by
  rw [linkRecordRepeat, if_neg (by simp [hup]), hrep]
  rfl

theorem linkRecordRepeat_of_nil (hrep : (s.port q).repeats = []) : linkRecordRepeat q s = s := by
  rw [linkRecordRepeat, hrep]
  exact ite_self s

end

@[simp] theorem State.sendRecord_quiet (s : State) (q : Port) (bs : List Byte) : (s.sendRecord q bs).quiet = s.quiet := by
  simp [State.sendRecord, State.enqueue]

@[simp] theorem State.sendRecord_pending (s : State) (q : Port) (bs : List Byte) : (s.sendRecord q bs).pending = s.pending := by
  simp [State.sendRecord, State.enqueue]

/-- Settles O19: each clause is the rule above for its row. -/
theorem framesCarryRecordsOnce : Obligations.FramesCarryRecordsOnce := by
  refine ⟨fun s q f hon hup hst htag hfec => run_of_eq hon (frameReceive_of_noInjection hup hst htag hfec), fun x f n => frameOk_iff,
    fun s q hon hup hst => run_of_eq hon (frameTransmit_of_align hup hst),
    fun s q t hon hup hrec hkey => ⟨fun hend => run_of_eq hon (frameTransmit_of_exhausted hup hrec hkey hend),
      fun hlt hdue => run_of_eq hon (frameTransmit_of_notDue hup hrec hkey hlt hdue)⟩,
    fun s q i hon hup hrec hfirst => ?ident, fun s q hs hup hrec => ?records, fun s q bs n r hs hup hrep => ?again,
    fun s q hs hrep => run_same hs (linkRecordRepeat_of_nil hrep)⟩
  case ident =>
    refine ⟨s.keepIdent q i, run_of_eq hon (identReceive_of_first hup hrec hfirst), ?_, ?_, s.keepIdent_version q i, s.keepIdent_valid q i⟩
    · rw [State.port_keepIdent]
    · rw [State.port_keepIdent]
  case records =>
    have hq := State.settled_quiet hs
    exact ⟨run_quiet_of_eq hs (keyReady_of_delivered hup hrec) (by simpa using hq) (by simp),
      run_quiet_of_eq hs (keyReady_of_delivered hup hrec) (by simpa using hq) (by simp),
      fun slot => run_quiet_of_eq hs (keyAck_of_delivered hup hrec) (by simpa using hq) (by simp),
      run_quiet_of_eq hs (identSend_of_delivered hup hrec) (by simpa using hq) (by simp)⟩
  case again =>
    exact run_quiet_of_eq hs (linkRecordRepeat_of_cons hup hrep) (by simpa using State.settled_quiet hs) (by simp)

end Sys2Proof.Machine
end

section
/-! Ports in service and their commands (07 R283, R288, R289, R295, R301, 10 R386, 12 R477): how a port fails, what its readings raise, and which commands it takes
from whom. -/

namespace Sys2Proof.Machine

section
variable {s : State} {q : Port}

/-! Failures. -/

theorem State.portFail_of_inService {cause : Nat} (h : inService (s.lnk q) = true) :
    s.portFail q cause = ((s.setFld (.lnk q) F.LNK_STATE_CAUSE cause).enterLnk q lkFAILED).raise (.lnk q) 0x102 1 {} := if_neg (by simp [h])

theorem laneLossOfLock_of_inService {lane : Fin 8} (hup : s.portUp q = true) (hlane : lane.val < Port.lanes q) (hst : inService (s.lnk q) = true) :
    laneLossOfLock q lane s = (s.setFld (.lnk q) (F.LNK_LANE_LOCK lane.val) 0).portFail q 4 := by
  have hqual : s.lnk q ≠ lkQUALIFY := by
    intro h
    rw [h] at hst
    exact absurd hst (by decide)
  rw [laneLossOfLock, if_neg (by simp [hup, hlane, recordsDelivered, hst])]
  exact if_neg hqual

theorem laneLossOfLock_of_qualify {lane : Fin 8} (hup : s.portUp q = true) (hlane : lane.val < Port.lanes q) (hst : s.lnk q = lkQUALIFY) :
    laneLossOfLock q lane s = (s.setFld (.lnk q) (F.LNK_LANE_LOCK lane.val) 0).attemptFail q := by
  rw [laneLossOfLock, if_neg (by simp [hup, hlane, recordsDelivered, hst])]
  exact if_pos hst

/-! LANE_BER_WINDOW. -/

theorem laneBerWindow_of_bad {more : List LaneFec} (hup : s.portUp q = true)
    (hbad : ∃ i, i < Port.lanes q ∧ 425000 < Store.get (fun _ => 0) ((s.lanesCount q more).port q).win i) :
    laneBerWindow q more s = ((s.lanesCount q more).updPort q (fun x => { x with win := [] })).raise (.lnk q) 0x101 0 {} := by
  rw [laneBerWindow, if_neg (by simp [hup])]
  exact if_pos (by simpa using hbad)

theorem laneBerWindow_of_good {more : List LaneFec} (hup : s.portUp q = true)
    (hgood : ∀ i, i < Port.lanes q → Store.get (fun _ => 0) ((s.lanesCount q more).port q).win i ≤ 425000) :
    laneBerWindow q more s = (s.lanesCount q more).updPort q (fun x => { x with win := [] }) := by
  rw [laneBerWindow, if_neg (by simp [hup])]
  exact if_neg (by simpa using hgood)

end

/-! The laser input and the temperature of an optical engine. -/

section
variable {s : State} {j : OptPort}

theorem laserOkChange_of_up {pwr : BitVec 16} {rx : List (BitVec 16)} (hup : s.portUp (OptPort.port j) = true) :
    laserOkChange j pwr rx s = s.laserRead j pwr rx := if_pos hup

theorem laserLoss_of_dark {pwr : BitVec 16} {rx : List (BitVec 16)} (hup : s.portUp (OptPort.port j) = true)
    (hdark : (s.laserRead j pwr rx).flag (.opt j) F.OPT_STATUS_LASER_OK = false) :
    laserLoss j pwr rx s = (s.laserRead j pwr rx).portFail (OptPort.port j) 8 := by
  simp [laserLoss, hup, hdark]

theorem laserLoss_of_light {pwr : BitVec 16} {rx : List (BitVec 16)} (hup : s.portUp (OptPort.port j) = true)
    (hlight : (s.laserRead j pwr rx).flag (.opt j) F.OPT_STATUS_LASER_OK = true) : laserLoss j pwr rx s = s.laserRead j pwr rx := by
  simp [laserLoss, hup, hlight]

/-- Between 85 °C and 95 °C an engine reports its temperature as it comes there, and does nothing more. -/
theorem engineTemp_of_warm {t : BitVec 8} (hheld : s.pageHeld (.opt j) = false) (hlo : 85 ≤ t.toNat) (hhi : t.toNat < 95) : engineTemp j t s =
    if s.fld (.opt j) F.OPT_STATUS_TEMP < 85 then (s.setFld (.opt j) F.OPT_STATUS_TEMP t.toNat).raise (.opt j) 0x100 1 {}
    else s.setFld (.opt j) F.OPT_STATUS_TEMP t.toNat := by
  simp only [engineTemp, hheld, Bool.false_eq_true, if_false, Nat.not_le.2 hhi, Nat.not_lt.2 hlo, decide_eq_true hlo, Bool.true_and, decide_eq_true_eq]

end

/-! Commands. -/

section
variable {s : State} {q : Port} {c : PortCmd}

/-- What a port accepts (10 R386). -/
theorem State.portAccepts_admit_iff : s.portAccepts q .admitPort = true ↔ s.lnk q = lkHELD ∧ s.flag (.lnk q) F.LNK_STATE_KEYED_TX = true ∧
    s.flag (.lnk q) F.LNK_STATE_KEYED_RX = true ∧ s.fld (.lnk q) F.LNK_STATE_NEG_VER ≠ 0 := by
  simp [State.portAccepts, State.keyedBoth, and_assoc]

theorem State.portAccepts_train_iff : s.portAccepts q .train = true ↔ s.lnk q = lkDISABLED ∨ s.lnk q = lkFAILED := by
  simp [State.portAccepts]

theorem State.portAccepts_quarantine_iff : s.portAccepts q .quarantine = true ↔ s.lnk q = lkHELD ∨ s.lnk q = lkACTIVE := by
  simp [State.portAccepts]

theorem State.portAccepts_release_iff :
    s.portAccepts q .release = true ↔ (s.lnk q = lkQUARANTINE ∨ s.lnk q = lkACTIVE) ∧ s.fld (.lnk q) F.LNK_STATE_NEG_VER ≠ 0 := by
  simp [State.portAccepts]

theorem State.portAccepts_memberOn_iff : s.portAccepts q .memberOn = true ↔ s.lnk q = lkACTIVE := by
  simp [State.portAccepts]

/-- Only an optical port accepts a command about its light. -/
theorem State.isOpt_of_portAccepts_dark (h : s.portAccepts q c = true) (hc : c = .darkOn ∨ c = .darkOff) : q.isOpt = true := by
  rcases hc with rfl | rfl
  · exact h
  · exact (Bool.and_eq_true_iff.1 h).1

/-- Commands 1–5 act through LNK_CMD on a port that accepts them. -/
theorem portCmd_lnk_of_accepted (hup : s.portUp q = true) (hcode : c.code ≤ 5) (hacc : s.portAccepts q c = true) :
    portCmd c (.lnkCmd q) s = s.portDo q c false := if_pos (by simp [hup, hcode, hacc])

theorem portCmd_lnk_of_refused (hacc : s.portAccepts q c = false) : portCmd c (.lnkCmd q) s = s := if_neg (by simp [hacc])

theorem portCmd_lnk_disable (hup : s.portUp q = true) (hst : s.lnk q ≠ lkDISABLED) :
    portCmd .disable (.lnkCmd q) s = s.enterLnk q lkDISABLED false :=
  (portCmd_lnk_of_accepted hup (by decide) rfl).trans (if_neg hst)

theorem portCmd_lnk_disabled (hst : s.lnk q = lkDISABLED) : portCmd .disable (.lnkCmd q) s = s :=
  (congrArg (ite _ · s) (if_pos hst)).trans (ite_self s)

end

section
variable {s u : State} {m : MgtIn} {q : Port} {x : Session} {slot ctr : Nat} {c : PortCmd}

/-- A manager's port command runs under its session, and is answered by whether the port accepts it. -/
theorem portCmd_agent_of_taken (htaken : s.agentTakes m 0x86 false u x slot ctr) (hform : m.pkt.authForm 12 0 = true)
    (hq : portOn m.k (m.pkt.arg 7 0) = some q) (hcode : m.pkt.arg 11 8 = c.code) (hlight : c = .darkOn ∨ c = .darkOff → q.isOpt = true) :
    portCmd c (.agent m) s =
      if u.portAccepts q c then (u.portDo q c true).agentAnswers m x slot ctr agOK [] else u.agentAnswers m x slot ctr agSTATE [] := by
  have hrange : ¬ ((c = .darkOn || c = .darkOff) && !(q.isOpt)) = true := by simpa using hlight
  dsimp only [portCmd]
  rw [if_neg (by simp [hcode]), State.agentOp_runs htaken]
  simp only [hform, Bool.not_true, Bool.false_eq_true, if_false, hq, if_neg hrange]
  split <;> rfl

theorem portCmd_agent_of_accepted (htaken : s.agentTakes m 0x86 false u x slot ctr) (hform : m.pkt.authForm 12 0 = true)
    (hq : portOn m.k (m.pkt.arg 7 0) = some q) (hcode : m.pkt.arg 11 8 = c.code) (hacc : u.portAccepts q c = true) :
    portCmd c (.agent m) s = (u.portDo q c true).agentAnswers m x slot ctr agOK [] := by
  rw [portCmd_agent_of_taken htaken hform hq hcode (State.isOpt_of_portAccepts_dark hacc), if_pos hacc]

theorem portCmd_agent_of_refused (htaken : s.agentTakes m 0x86 false u x slot ctr) (hform : m.pkt.authForm 12 0 = true)
    (hq : portOn m.k (m.pkt.arg 7 0) = some q) (hcode : m.pkt.arg 11 8 = c.code) (hacc : u.portAccepts q c = false)
    (hport : q.isOpt = true ∨ c = .memberOn ∨ c = .memberOff) : portCmd c (.agent m) s = u.agentAnswers m x slot ctr agSTATE [] := by
  have hlight : c = .darkOn ∨ c = .darkOff → q.isOpt = true := by
    rcases hport with hopt | rfl | rfl
    · exact fun _ => hopt
    · simp
    · simp
  rw [portCmd_agent_of_taken htaken hform hq hcode hlight, hacc]
  rfl

end

/-- Settles O20: each clause is the rule above for its row or its command. -/
theorem portsFailAndObeyCommands : Obligations.PortsFailAndObeyCommands := by
  refine ⟨fun s q cause => State.portFail_of_inService, fun s q lane hon hup hlane => ⟨fun hst => run_of_eq hon (laneLossOfLock_of_inService hup hlane hst),
      fun hst => run_of_eq hon (laneLossOfLock_of_qualify hup hlane hst)⟩,
    fun s j pwr rx hon hup => ⟨run_of_eq hon (laserOkChange_of_up hup), fun hdark => run_of_eq hon (laserLoss_of_dark hup hdark),
      fun hlight => run_of_eq hon (laserLoss_of_light hup hlight)⟩,
    fun s q more hon hup => ⟨fun hbad => run_of_eq hon (laneBerWindow_of_bad hup hbad), fun hgood => run_of_eq hon (laneBerWindow_of_good hup hgood)⟩,
    fun s j t hon hheld hlo hhi => ?temperature, fun s q hon hup => ?obeys, fun s q hs => ?ignores,
    fun s u m q x slot ctr hon htaken hform hq c i hi hcode => ?manager, fun s q => ?accepts⟩
  case temperature =>
    have heq := engineTemp_of_warm hheld hlo hhi
    exact ⟨fun hcool => run_of_eq hon (heq.trans (if_pos hcool)), fun hwarm => run_of_eq hon (heq.trans (if_neg (Nat.not_lt.2 hwarm)))⟩
  case obeys =>
    exact ⟨fun h => run_of_eq hon (portCmd_lnk_of_accepted hup (by decide) h), fun h => run_of_eq hon (portCmd_lnk_disable hup h),
      fun h => run_of_eq hon (portCmd_lnk_of_accepted hup (by decide) h), fun h => run_of_eq hon (portCmd_lnk_of_accepted hup (by decide) h),
      fun h => run_of_eq hon (portCmd_lnk_of_accepted hup (by decide) h)⟩
  case ignores =>
    exact ⟨fun h => run_same hs (portCmd_lnk_of_refused h), fun h => run_same hs (portCmd_lnk_disabled h), fun h => run_same hs (portCmd_lnk_of_refused h),
      fun h => run_same hs (portCmd_lnk_of_refused h), fun h => run_same hs (portCmd_lnk_of_refused h)⟩
  case manager =>
    have hexec : exec i s = run (portCmd c (.agent m)) s := by
      rcases hi with ⟨rfl, rfl⟩ | ⟨rfl, rfl⟩ | ⟨rfl, rfl⟩ | ⟨rfl, rfl⟩ <;> rfl
    rw [hexec]
    exact ⟨fun hacc => run_of_eq hon (portCmd_agent_of_accepted htaken hform hq hcode hacc),
      fun hacc hport => run_of_eq hon (portCmd_agent_of_refused htaken hform hq hcode hacc hport)⟩
  case accepts =>
    exact ⟨State.portAccepts_admit_iff, State.portAccepts_train_iff, rfl, State.portAccepts_quarantine_iff, State.portAccepts_release_iff,
      State.portAccepts_memberOn_iff, rfl⟩

end Sys2Proof.Machine
end

section
/-! Routers, die-to-die links and link credits (07 R298, R299, 08 R319, R321, R330, R331, R335, R347): what each arrival makes of the state, before the packets
that wait for another die leave. -/

namespace Sys2Proof.Machine

/-! Die-to-die links. -/

/-- The failures in a row at a receiving end. -/
def State.setD2dRun (s : State) (p : Page) (n : Nat) : State := { s with d2dRuns := Store.set (fun _ => 0) s.d2dRuns p.base n }

section
variable (s : State) (p : Page) (n : Nat)

@[simp] theorem State.setD2dRun_pending : (s.setD2dRun p n).pending = s.pending := by cases s; rfl
@[simp] theorem State.setD2dRun_quiet : (s.setD2dRun p n).quiet = s.quiet := by cases s; rfl

/-- The count is set whichever state the counts are read from, as long as it holds the same. -/
theorem State.setD2dRun_of_eq {t : State} (h : s.d2dRuns = t.d2dRuns) :
    { s with d2dRuns := Store.set (fun _ => 0) t.d2dRuns p.base n } = s.setD2dRun p n := by
  rw [← h, State.setD2dRun]

end

section
variable {s : State} {p : Page} {data : List Byte}

theorem d2dFlitReceive_of_good (hp : p.isD2d = true) (hst : s.fld p F.D2D_STATE_STATE = 2) (hinj : s.injection p 0 = none) :
    d2dFlitReceive p true data s = (s.setD2dRun p 0).emit (.d2dData p data) := by
  simp [d2dFlitReceive, hp, hst, hinj, State.setD2dRun]

/-- A flit with a bad CRC is counted; the eighth failed replay in a row fails the port, and each before it asks for the next. -/
theorem d2dFlitReceive_of_bad (hp : p.isD2d = true) (hst : s.fld p F.D2D_STATE_STATE = 2) (hinj : s.injection p 0 = none) :
    d2dFlitReceive p false data s = if 8 ≤ s.d2dRun p then (s.bump p C.D2D_CRC 1).d2dFail p
      else (((s.bump p C.D2D_CRC 1).bump p.d2dFar C.D2D_REPLAY 1).emit (.replay p.d2dFar.die p.die)).setD2dRun p (s.d2dRun p + 1) := by
  rw [d2dFlitReceive, if_neg (by simp [hp, hst])]
  simp only [hinj, Option.isSome_none, Option.isNone_none, Bool.false_and, Bool.false_eq_true, if_false]
  rfl

theorem d2dPortFail_of_link : d2dPortFail p false s = s.d2dFail p := rfl

/-- A fault in a compute die's own switch takes both its ring ports with it. -/
theorem d2dPortFail_of_switch {c : CDie} (hc : Die.cd? p.die = some c) :
    d2dPortFail p true s = ((s.d2dFail p).d2dFail (.d2dC c .ringPlus)).d2dFail (.d2dC c .ringMinus) := by
  simp only [d2dPortFail, hc, if_true]

end

/-! Routers. -/

/-- Credits and space that came back let the packets leave that wait for another die. -/
def State.pumped (s : State) : State := s.pumpInside s.transits.length

section
variable {s : State} {d : Die} {came : Came} {p : Packet}

theorem packetForward_of_badHeader (hup : s.routerUp d = true) (hdrt : p.drt = false) (hbad : p.headerOk = false) :
    packetForward d came p s = ((s.routerArrive d came p).arriveDrop d came p .format).pumped := by
  rw [packetForward, if_neg (by simp [hup, hdrt])]
  simp only [hbad, Bool.not_false, if_true, State.pumped]

theorem packetForward_of_drop {x : Cause} (hup : s.routerUp d = true) (hdrt : p.drt = false) (hok : p.headerOk = true)
    (hroute : (s.routerArrive d came p).routeAt d came p = .drop x) :
    packetForward d came p s = ((s.routerArrive d came p).arriveDrop d came p x).pumped := by
  rw [packetForward, if_neg (by simp [hup, hdrt])]
  simp only [hok, Bool.not_true, Bool.false_eq_true, if_false, hroute, State.pumped]

theorem packetForward_of_out {o : Egress} (hup : s.routerUp d = true) (hdrt : p.drt = false) (hok : p.headerOk = true)
    (hroute : (s.routerArrive d came p).routeAt d came p = .out o) :
    packetForward d came p s = ((s.routerArrive d came p).sendOn d came p o).pumped := by
  rw [packetForward, if_neg (by simp [hup, hdrt])]
  simp only [hok, Bool.not_true, Bool.false_eq_true, if_false, hroute, State.pumped]

theorem packetForward_of_down (hdown : s.routerUp d = false) : packetForward d came p s = s := if_pos (by simp [hdown])

theorem directedForward_of_drop {p1 : Packet} {x : Cause} (hup : s.routerUp d = true) (hdrt : p.drt = true)
    (hroute : (s.routerArrive d came p).routeDirected d came p = (p1, .drop x)) :
    directedForward d came p s = ((s.routerArrive d came p).arriveDrop d came p x).pumped := by
  rw [directedForward, if_neg (by simp [hup, hdrt])]
  simp only [hroute, State.pumped]

theorem directedForward_of_out {p1 : Packet} {o : Egress} (hup : s.routerUp d = true) (hdrt : p.drt = true)
    (hroute : (s.routerArrive d came p).routeDirected d came p = (p1, .out o)) :
    directedForward d came p s = ((s.routerArrive d came p).sendOnAs d came p p1 o).pumped := by
  rw [directedForward, if_neg (by simp [hup, hdrt])]
  simp only [hroute, State.pumped]

theorem directedForward_of_down (hdown : s.routerUp d = false) : directedForward d came p s = s := if_pos (by simp [hdown])

/-- Entry 24 of a route list on PD0 is its agent. -/
theorem State.routeDirected_agent (hok : p.headerOk = true) (hmd : p.md.toNat ≤ 23) (he : p.routeEntry p.md.toNat = 24) :
    s.routeDirected pd0 came p = ({ p.setEntry p.md.toNat came.reverse with md := BitVec.ofNat 8 (p.md.toNat + 1) }, .out (.endpoint 1)) := by
  have hpd : Die.pd? pd0 = some 0 := rfl
  simp only [State.routeDirected, hpd, he, if_true]
  exact if_neg (by simp [hok, hmd])

theorem packetLifetimeExpire_of_held {n : Nat} {t : Transit} (ht : s.transits[n]? = some t) :
    packetLifetimeExpire n s = (s.dropTransit t .lifetime).pumped := by
  simp only [packetLifetimeExpire, ht, State.pumped]

theorem packetLifetimeExpire_of_none {n : Nat} (ht : s.transits[n]? = none) : packetLifetimeExpire n s = s := by
  simp only [packetLifetimeExpire, ht]

end

/-! Link credits. -/

/-- A packet from the link in the telemetry of its port. -/
def State.countRx (s : State) (q : Port) (p : Packet) : State :=
  s.updTel q (fun t => { t with pktRx := telAdd t.pktRx 1, byteRx := telAdd t.byteRx p.size })

/-- The credits of a port after a LINK_CREDIT with the counts `new`, and the packets that its transmitter no longer counts as away. -/
def State.takeCredits (s : State) (q : Port) (new : Credits) : State :=
  let x := s.port q
  let df := Credits.zip diff16 new x.seen
  let r := returned x.away (x.back + df.total)
  r.1.foldl (fun t e => t.dropOne (PDie.die (Port.pdie q)) e) (s.setPort q { x with
    cred := Credits.zip (· + ·) x.cred df, seen := new, away := r.2.1, back := if r.2.1.isEmpty then 0 else r.2.2 })

/-- The counts of a die's packets stand apart from its ports. -/
theorem State.port_foldl_dropOne (s : State) (d : Die) (es : List Bool) (q : Port) : (es.foldl (fun t e => t.dropOne d e) s).port q = s.port q :=
  List.foldlRecOn (motive := fun t => State.port t q = s.port q) _ _ rfl fun t ht _ _ => (t.setFld_port _ _ _ q).trans ht

section
variable (s : State) (q : Port) (p : Packet) (new : Credits)

theorem State.seen_countRx : ((s.countRx q p).port q).seen = (s.port q).seen := by simp [State.countRx, State.updTel]

theorem State.cred_countRx : ((s.countRx q p).port q).cred = (s.port q).cred := by simp [State.countRx, State.updTel]

theorem State.seen_takeCredits : ((s.takeCredits q new).port q).seen = new := by
  simp only [State.takeCredits, State.port_foldl_dropOne, State.port_setPort_self]

theorem State.cred_takeCredits :
    ((s.takeCredits q new).port q).cred = Credits.zip (· + ·) (s.port q).cred (Credits.zip diff16 new (s.port q).seen) := by
  simp only [State.takeCredits, State.port_foldl_dropOne, State.port_setPort_self]

end

section
variable {s : State} {q : Port} {p : Packet}

/-- LINK_CREDIT packets cross a link whose port is HELD or ACTIVE. -/
theorem State.carriesCredits (hup : s.portUp q = true) (hst : s.lnk q = lkHELD ∨ s.lnk q = lkACTIVE) :
    ¬ (!(s.portUp q) || !(s.lnk q = lkHELD || s.lnk q = lkACTIVE)) = true := by
  rcases hst with h | h <;> simp [hup, h]

theorem linkCreditSend_of_carrying (hup : s.portUp q = true) (hst : s.lnk q = lkHELD ∨ s.lnk q = lkACTIVE) :
    linkCreditSend q s = s.putOut q (linkCreditPacket (s.port q).freed) := if_neg (State.carriesCredits hup hst)

theorem linkCredit_of_badCrc (hup : s.portUp q = true) (hst : s.lnk q = lkHELD ∨ s.lnk q = lkACTIVE) (hcrc : p.crcOk = false) :
    linkCredit q p s = (s.countRx q p).discard (PDie.die (Port.pdie q)) (.port q) p .crc := by
  rw [linkCredit, if_neg (State.carriesCredits hup hst)]
  exact if_pos (by simp [hcrc])

theorem linkCredit_of_badForm (hup : s.portUp q = true) (hst : s.lnk q = lkHELD ∨ s.lnk q = lkACTIVE) (hcrc : p.crcOk = true) (hbad : p.isLinkCredit = false) :
    linkCredit q p s = (s.countRx q p).discard (PDie.die (Port.pdie q)) (.port q) p .format := by
  rw [linkCredit, if_neg (State.carriesCredits hup hst)]
  exact (if_neg (by simp [hcrc])).trans (if_pos (by simp [hbad]))

theorem linkCredit_of_good (hup : s.portUp q = true) (hst : s.lnk q = lkHELD ∨ s.lnk q = lkACTIVE) (hcrc : p.crcOk = true) (hok : p.isLinkCredit = true)
    {v : State} (hv : v = (s.countRx q p).takeCredits q (creditsOf p.body)) :
    linkCredit q p s = (v.serveOut (PDie.die (Port.pdie q)) (.port q) v.transits.length).pumped := by
  rw [linkCredit, if_neg (State.carriesCredits hup hst), hv]
  exact (if_neg (by simp [hcrc])).trans (if_neg (by simp [hok]))

end

/-- Settles O21: each clause is the rule above for its row. -/
theorem routersForward : Obligations.RoutersForward := by
  refine ⟨fun s p data hs hp hst hinj => ?flit, fun s p c hon => ⟨run_of_eq hon d2dPortFail_of_link, fun hc => run_of_eq hon (d2dPortFail_of_switch hc)⟩,
    fun s d came p hon hup hdrt => ⟨fun hbad => run_of_eq hon (packetForward_of_badHeader hup hdrt hbad),
      fun x hok hroute => run_of_eq hon (packetForward_of_drop hup hdrt hok hroute), fun o hok hroute => run_of_eq hon (packetForward_of_out hup hdrt hok hroute)⟩,
    fun s d came p p1 hon hup hdrt => ⟨fun x hroute => run_of_eq hon (directedForward_of_drop hup hdrt hroute),
      fun o hroute => run_of_eq hon (directedForward_of_out hup hdrt hroute)⟩,
    fun s came p hok hmd he => State.routeDirected_agent hok hmd he, fun s n t hon ht => run_of_eq hon (packetLifetimeExpire_of_held ht),
    fun s q p hon hup hst => ?credits,
    fun s d came p n hs => ⟨fun hdown => ⟨run_same hs (packetForward_of_down hdown), run_same hs (directedForward_of_down hdown)⟩,
      fun ht => run_same hs (packetLifetimeExpire_of_none ht)⟩⟩
  case flit =>
    have hon := State.settled_on hs
    have hbad := d2dFlitReceive_of_bad (data := data) hp hst hinj
    have hgood : exec (.d2dFlitReceive p ⟨true, data⟩) s = .next ((s.setD2dRun p 0).emit (.d2dData p data)) :=
      run_quiet_of_eq hs (d2dFlitReceive_of_good hp hst hinj) (by simpa using State.settled_quiet hs) (by simp)
    refine ⟨hgood, fun hlt => ?_,
      fun hlast => run_of_eq hon (hbad.trans (if_pos hlast))⟩
    rw [State.setD2dRun_of_eq _ _ _ (by simp)]
    exact run_of_eq hon (hbad.trans (if_neg (Nat.not_le.2 hlt)))
  case credits =>
    refine ⟨run_of_eq hon (linkCreditSend_of_carrying hup hst), fun hcrc => run_of_eq hon (linkCredit_of_badCrc hup hst hcrc),
      fun hcrc hbad => run_of_eq hon (linkCredit_of_badForm hup hst hcrc hbad), fun hcrc hok => ?_⟩
    refine ⟨(s.countRx q p).takeCredits q (creditsOf p.body), run_of_eq hon (linkCredit_of_good hup hst hcrc hok rfl), State.seen_takeCredits _ _ _, ?_⟩
    rw [State.cred_takeCredits, State.cred_countRx, State.seen_countRx]

end Sys2Proof.Machine
end

section
/-! Requests under a session (10 R375, R377, R379): the counters that a session's replay window still lets run, what the marking of one leaves of the window and of
the cache, and the order in which an agent checks a request. -/

namespace Sys2Proof.Machine

/-! The replay window. -/

/-- A counter that no longer runs: zero, below the window, or marked seen in it (R379). -/
def Session.Spent (x : Session) (c : Nat) : Prop := c = 0 ∨ c ≤ x.top ∧ (c + 63 < x.top ∨ x.window.testBit (x.top - c) = true)

section
variable {x : Session} {c d : Nat} {r : List Byte}

theorem Session.judge_runs_iff : (x.judge c).runs = true ↔ 0 < c ∧ (x.top < c ∨ x.top ≤ c + 63 ∧ x.window.testBit (x.top - c) = false) := by
  unfold Session.judge
  by_cases h0 : c = 0
  · simp [h0, Ctr.runs]
  by_cases hfresh : x.top < c
  · simp [h0, hfresh, Ctr.runs, Nat.pos_of_ne_zero h0]
  have hin : max 1 (x.top - 63) ≤ c ↔ x.top ≤ c + 63 := by omega
  rcases hseen : x.window.testBit (x.top - c) with _ | _
  · by_cases hw : x.top ≤ c + 63 <;> simp [h0, hfresh, hin, hw, Ctr.runs, Nat.pos_of_ne_zero h0]
  · cases hf : x.cache.find? (fun e => e.1 == c) <;> simp [h0, hfresh, Ctr.runs]

theorem Session.judge_not_runs_iff : (x.judge c).runs = false ↔ x.Spent c := by
  rw [← Bool.not_eq_true, Session.judge_runs_iff, Session.Spent]
  rcases x.window.testBit (x.top - c) with _ | _ <;> simp <;> omega

@[simp] theorem Session.top_mark : (x.mark c r).top = max x.top c := rfl

theorem Session.window_mark_of_le (h : c ≤ x.top) : (x.mark c r).window = x.window ||| 2 ^ (x.top - c) := if_neg (Nat.not_lt.2 h)

/-- The window moves up by the distance of a counter above the highest one, and marks it at bit 0. -/
theorem Session.testBit_window_mark_of_lt (h : x.top < c) {i : Nat} (hi : i < 64) :
    (x.mark c r).window.testBit i = (decide (i = 0) || decide (c - x.top ≤ i) && x.window.testBit (i - (c - x.top))) := by
  have hwin : (x.mark c r).window = ((if c - x.top < 64 then x.window <<< (c - x.top) else 0) + 1) % 2 ^ 64 := if_pos h
  have hone : Nat.testBit 1 i = decide (i = 0) := Bool.eq_iff_iff.2 (by simp [Nat.testBit_one_eq_true_iff_self_eq_zero])
  rw [hwin, Nat.testBit_mod_two_pow, decide_eq_true hi, Bool.true_and]
  by_cases hnear : c - x.top < 64
  · have hor : x.window <<< (c - x.top) + 1 = x.window <<< (c - x.top) ||| 1 := Nat.shiftLeft_add_eq_or_of_lt (Nat.one_lt_two_pow (by omega)) _
    rw [if_pos hnear, hor, Nat.testBit_or, Nat.testBit_shiftLeft, hone, Bool.or_comm]
  · rw [if_neg hnear, Nat.zero_add, hone, decide_eq_false (by omega : ¬ c - x.top ≤ i), Bool.false_and, Bool.or_false]

theorem Session.testBit_mark_self : (x.mark c r).window.testBit ((x.mark c r).top - c) = true := by
  rw [Session.top_mark]
  by_cases h : x.top < c
  · rw [Nat.max_eq_right (Nat.le_of_lt h), Nat.sub_self, Session.testBit_window_mark_of_lt h (by decide)]
    rfl
  · rw [Nat.max_eq_left (Nat.not_lt.1 h), Session.window_mark_of_le (Nat.not_lt.1 h), Nat.testBit_or, Nat.testBit_two_pow_self, Bool.or_true]

/-- A counter that was marked does not run again. -/
theorem Session.spent_mark_self : (x.mark c r).Spent c := Or.inr ⟨Nat.le_max_right _ _, Or.inr Session.testBit_mark_self⟩

/-- A counter that no longer runs does not run again, whichever counter is marked. -/
theorem Session.Spent.mark (h : x.Spent c) : (x.mark d r).Spent c := by
  rcases h with h0 | ⟨hle, hspent⟩
  · exact Or.inl h0
  refine Or.inr ⟨Nat.le_trans hle (Nat.le_max_left _ _), ?_⟩
  rw [Session.top_mark]
  by_cases hlt : x.top < d
  · rw [Nat.max_eq_right (Nat.le_of_lt hlt)]
    rcases hspent with hbelow | hseen
    · exact Or.inl (by omega)
    · by_cases hfar : c + 63 < d
      · exact Or.inl hfar
      · refine Or.inr ?_
        rw [Session.testBit_window_mark_of_lt hlt (by omega), decide_eq_true (by omega : d - x.top ≤ d - c), show d - c - (d - x.top) = x.top - c by omega, hseen]
        simp
  · rw [Nat.max_eq_left (Nat.not_lt.1 hlt), Session.window_mark_of_le (Nat.not_lt.1 hlt), Nat.testBit_or]
    exact hspent.imp id (fun hseen => by simp [hseen])

/-! The cache. -/

theorem Session.length_cache_mark : (x.mark c r).cache.length ≤ 64 := by
  simp only [Session.mark, List.length_drop, List.length_append, List.length_cons, List.length_nil]
  omega

/-- The response to a counter that the cache did not hold is found in it once the counter is marked. -/
theorem Session.find_cache_mark (hnew : ∀ e ∈ x.cache, e.1 ≠ c) : (x.mark c r).cache.find? (fun e => e.1 == c) = some (c, r) := by
  have hold : (x.cache.drop (x.cache.length + 1 - 64)).find? (fun e => e.1 == c) = none :=
    List.find?_eq_none.2 fun e he => by simpa using hnew e (List.mem_of_mem_drop he)
  simp only [Session.mark]
  rw [List.drop_append_of_le_length (by omega), List.find?_append, hold]
  simp

/-- A request that ran is answered again from the cache. -/
theorem Session.judge_mark_self (hruns : (x.judge c).runs = true) (hnew : ∀ e ∈ x.cache, e.1 ≠ c) : (x.mark c r).judge c = .cached r := by
  obtain ⟨hpos, -⟩ := Session.judge_runs_iff.1 hruns
  have htop : ¬ (x.mark c r).top < c := Nat.not_lt.2 (Nat.le_max_right _ _)
  simp only [Session.judge, if_neg (Nat.ne_of_gt hpos), if_neg htop, Session.testBit_mark_self, Session.find_cache_mark hnew, Bool.not_true, Bool.and_false, Bool.false_eq_true,
    if_false, if_true]

end

/-! The checks of an agent. -/

section
variable {s u : State} {m : MgtIn} {op : BitVec 8} {authd data openOp : Bool} {f : State → Session → State × Nat × List Byte} {x : Session} {slot ctr : Nat}

theorem State.agentOp_of_notTaken (h : s.inReset (PDie.die m.k) = true ∨ m.net = true ∧ m.k = 1) : s.agentOp m op authd data openOp f = s := by
  have htakes : s.mgtTakes m = (s, false) := if_pos (by rcases h with h | ⟨hnet, hk⟩ <;> simp [*])
  simp [State.agentOp, htakes]

theorem State.agentOp_authd (h : s.agentMeets m op data u) {cls : Bool} : s.agentOp m op true cls openOp f = u.agentAuth m openOp f := by
  obtain ⟨w, hw, hop, -, rfl⟩ := h
  simp [State.agentOp, hw, hop]

theorem State.agentOp_plain (h : s.agentMeets m op data u) {cls : Bool} : s.agentOp m op false cls openOp f = u.agentPlain m cls openOp f := by
  obtain ⟨w, hw, hop, -, rfl⟩ := h
  simp [State.agentOp, hw, hop]

theorem State.agentMeets.cls (h : s.agentMeets m op data u) : m.pkt.cls = data := by
  obtain ⟨w, -, -, hcls, -⟩ := h
  exact hcls

theorem State.agentServed_of_idle (hse : u.agentServes m openOp = false) : u.agentServed m openOp f x = (u, agSTATE, []) := if_neg (by simp [hse])

theorem State.agentServed_of_serves (hse : u.agentServes m openOp = true) : u.agentServed m openOp f x = f u x := if_pos hse

theorem State.agentAuth_of_control (hcls : m.pkt.cls = false) : u.agentAuth m openOp f = u.agentReplies m agFORMAT [] := by
  simp [State.agentAuth, State.authRun, hcls, State.authRefuse, State.agentReplies]

section
variable (hcls : m.pkt.cls = true)
include hcls

theorem State.agentAuth_of_noTrailer (ht : trailerOf m.pkt = none) : u.agentAuth m openOp f = u.agentReplies m agFORMAT [] := by
  simp [State.agentAuth, State.authRun, hcls, ht, State.authRefuse, State.agentReplies]

theorem State.agentAuth_of_noSession (ht : trailerOf m.pkt = some (ctr, slot)) (hsess : (u.agent m.k).sess slot = none) :
    u.agentAuth m openOp f = u.agentReplies m agNOSESSION [] := by
  simp [State.agentAuth, State.authRun, hcls, ht, hsess, State.authRefuse, State.agentReplies]

variable (ht : trailerOf m.pkt = some (ctr, slot)) (hsess : (u.agent m.k).sess slot = some x)
include ht hsess

theorem State.agentAuth_of_badTag (hv : m.valid = false) : u.agentAuth m openOp f = (u.bump (.agt m.k) C.AGT_AUTH_FAIL 1).agentReplies m agAUTH [] := by
  simp [State.agentAuth, State.authRun, hcls, ht, hsess, State.authUnder, hv, State.authRefuse, State.agentReplies]

variable (hv : m.valid = true)
include hv

theorem State.agentAuth_of_stale (hj : x.judge ctr = .stale) : u.agentAuth m openOp f =
    (u.bump (.agt m.k) C.AGT_STALE 1).mgtSend m.k m.net ((u.bump (.agt m.k) C.AGT_STALE 1).authAnswer m 1 x slot ctr agSTALE []) := by
  simp [State.agentAuth, State.authRun, hcls, ht, hsess, State.authUnder, hv, hj]

theorem State.agentAuth_of_cached {r : List Byte} (hj : x.judge ctr = .cached r) :
    u.agentAuth m openOp f = (u.bump (.agt m.k) C.AGT_REPLAY 1).mgtSend m.k m.net (Packet.ofBytes r) := by
  simp [State.agentAuth, State.authRun, hcls, ht, hsess, State.authUnder, hv, hj]

theorem State.agentAuth_of_served (hruns : (x.judge ctr).runs = true) (hse : u.agentServes m openOp = true) :
    u.agentAuth m openOp f = (f u x).1.agentAnswers m x slot ctr (f u x).2.1 (f u x).2.2 := by
  rw [State.agentAuth_runs hcls ht hsess hv (Session.judge_runs.1 hruns), State.agentServed_of_serves hse]

theorem State.agentAuth_of_idle (hruns : (x.judge ctr).runs = true) (hse : u.agentServes m openOp = false) :
    u.agentAuth m openOp f = u.agentAnswers m x slot ctr agSTATE [] := by
  rw [State.agentAuth_runs hcls ht hsess hv (Session.judge_runs.1 hruns), State.agentServed_of_idle hse]

end

end

/-- Settles O23: the clauses of the window are the rules above for a marked counter, and each clause of a request is the rule for the check that it fails or passes. -/
theorem requestsAreCheckedAndRunOnce : Obligations.RequestsAreCheckedAndRunOnce := by
  refine ⟨fun x c r => Session.judge_not_runs_iff.2 Session.spent_mark_self,
    fun x c d r h => Session.judge_not_runs_iff.2 (Session.judge_not_runs_iff.1 h).mark, fun x c => Session.judge_runs_iff,
    fun x c r => ⟨Session.length_cache_mark, Session.top_mark, Session.judge_mark_self⟩, fun s u m op data openOp f hmeets => ?checks,
    fun s u m op data openOp f hmeets => (State.agentOp_authd hmeets).trans (State.agentAuth_of_control hmeets.cls),
    fun s m op a data openOp f => State.agentOp_of_notTaken⟩
  case checks =>
    have hcls := hmeets.cls
    rw [State.agentOp_authd hmeets]
    refine ⟨fun ht => State.agentAuth_of_noTrailer hcls ht, fun ctr slot ht => ⟨fun hnone => State.agentAuth_of_noSession hcls ht hnone, fun x hsess => ?_⟩⟩
    exact ⟨fun hv => State.agentAuth_of_badTag hcls ht hsess hv, fun hv hj => State.agentAuth_of_stale hcls ht hsess hv hj,
      fun r hv hj => State.agentAuth_of_cached hcls ht hsess hv hj, fun hv hruns hse => State.agentAuth_of_idle hcls ht hsess hv hruns hse,
      fun hv hruns hse => State.agentAuth_of_served hcls ht hsess hv hruns hse⟩

end Sys2Proof.Machine
end

section
/-! Requests that an agent answers without a session, and its sessions (10 R373, R376, R381, R383, R384, R391, R396, R404, 14 R541): the answer to each by its form, and
the slot that a session takes. -/

namespace Sys2Proof.Machine

section
variable {s u v : State} {m : MgtIn} {op : BitVec 8} {data openOp : Bool} {f : State → Session → State × Nat × List Byte} {x : Session} {slot ctr st : Nat}
  {bs : List Byte}

/-! What an operation answers. -/

theorem State.agentOp_answers (h : s.agentTakes m op openOp u x slot ctr) (hf : f u x = (v, st, bs)) :
    s.agentOp m op true data openOp f = v.agentAnswers m x slot ctr st bs := by
  rw [State.agentOp_runs h, hf]

theorem State.agentOp_replies (h : s.agentMeets m op data u) (hse : u.agentServes m openOp = true) (hf : f u { serial := 0, primary := false } = (v, st, bs)) :
    s.agentOp m op false data openOp f = v.agentReplies m st bs := by
  rw [State.agentOp_open h hse, hf]

/-- An agent that does not serve an operation in the hub's state says so (R404). -/
theorem State.agentOp_idle (h : s.agentMeets m op data u) (hse : u.agentServes m openOp = false) :
    s.agentOp m op false data openOp f = u.agentReplies m agSTATE [] := by
  rw [State.agentOp_plain h, State.agentPlain, if_neg (by simp [h.cls]), State.agentServed_of_idle hse]
  rfl

/-- The first check of an operation refuses a form that does not hold. -/
theorem checkForm_of_bad {form : Bool} {y : State × Nat × List Byte} (h : form = false) : (if (!form) = true then (u, agFORMAT, []) else y) = (u, agFORMAT, []) :=
  if_pos (by simp [h])

/-- An operation whose form holds goes on. -/
theorem checkForm_of_good {form : Bool} {y z : State × Nat × List Byte} (h : form = true) : (if (!form) = true then z else y) = y := if_neg (by simp [h])

theorem State.agentServes_closed_iff : u.agentServes m false = true ↔ u.fld .flt F.FLT_STATE_STATE = hubNORMAL := by
  simp [State.agentServes]

theorem State.agentServes_open_iff : u.agentServes m true = true ↔ u.fld .flt F.FLT_STATE_STATE = hubNORMAL ∨ m.net = true := by
  simp [State.agentServes]

/-! IDENTIFY, PORT_LIST and TELE_READ. -/

theorem identify_of_form (h : s.agentMeets m 0x80 false u) (hse : u.agentServes m true = true) (hform : m.pkt.ctlForm 0 = true) :
    identify m s = u.agentReplies m agOK (u.identity m.k) := State.agentOp_replies h hse (if_pos hform)

theorem identify_of_badForm (h : s.agentMeets m 0x80 false u) (hse : u.agentServes m true = true) (hform : m.pkt.ctlForm 0 = false) :
    identify m s = u.agentReplies m agFORMAT [] := State.agentOp_replies h hse (if_neg (by simp [hform]))

section
variable (h : s.agentMeets m 0x81 false u) (hse : u.agentServes m false = true)
include h hse

theorem portList_of_badForm (hform : m.pkt.ctlForm 16 = false) : portList m s = u.agentReplies m agFORMAT [] :=
  State.agentOp_replies h hse (checkForm_of_bad hform)

variable (hform : m.pkt.ctlForm 16 = true)
include hform

theorem portList_of_ports {l : List Port} (hlo : 1 ≤ m.pkt.arg 15 8) (hhi : m.pkt.arg 15 8 ≤ 64) (hl : portsFrom m.k (m.pkt.arg 7 0) (m.pkt.arg 15 8) = some l) :
    portList m s = u.agentReplies m agOK (l.flatMap u.neighbour) := by
  refine State.agentOp_replies h hse ((checkForm_of_good hform).trans ((if_neg ?_).trans ?_))
  · simp; omega
  · simp only [hl]

theorem portList_of_range (hr : m.pkt.arg 15 8 = 0 ∨ 64 < m.pkt.arg 15 8 ∨ portsFrom m.k (m.pkt.arg 7 0) (m.pkt.arg 15 8) = none) :
    portList m s = u.agentReplies m agRANGE [] := by
  refine State.agentOp_replies h hse ((checkForm_of_good hform).trans ?_)
  by_cases hcount : m.pkt.arg 15 8 = 0 ∨ 64 < m.pkt.arg 15 8
  · exact if_pos (by simpa using hcount)
  · have hnone : portsFrom m.k (m.pkt.arg 7 0) (m.pkt.arg 15 8) = none := (or_assoc.2 hr).resolve_left hcount
    exact (if_neg (by simpa using hcount)).trans (by simp only [hnone])

end

section
variable (h : s.agentMeets m 0x8E false u) (hse : u.agentServes m true = true)
include h hse

theorem teleRead_of_badForm (hform : m.pkt.ctlForm 16 = false) : teleRead m s = u.agentReplies m agFORMAT [] :=
  State.agentOp_replies h hse (checkForm_of_bad hform)

variable (hform : m.pkt.ctlForm 16 = true)
include hform

theorem teleRead_of_ports {l : List Port} (hl : telPorts m.k m.pkt = some l) : teleRead m s = u.agentReplies m agOK (l.flatMap u.telRecord) :=
  State.agentOp_replies h hse ((checkForm_of_good hform).trans (by simp only [hl]))

theorem teleRead_of_range (hl : telPorts m.k m.pkt = none) : teleRead m s = u.agentReplies m agRANGE [] :=
  State.agentOp_replies h hse ((checkForm_of_good hform).trans (by simp only [hl]))

end

end

/-! INFLIGHT_READ. -/

/-- The ACTIVITY bits of a die's two epochs cleared (R391). -/
def State.clearActivity (s : State) (d : Die) : State := (s.setFld (.rtr d) (F.RTR_INFLIGHT_ACTIVITY 0) 0).setFld (.rtr d) (F.RTR_INFLIGHT_ACTIVITY 1) 0

section
variable {s u : State} {m : MgtIn} {d d' : Die} {e : Nat}

/-- What a step keeps, the steps over a list keep. -/
theorem foldl_keeps {α β : Type} {step : State → α → State} {g : State → β} (hstep : ∀ t a, g (step t a) = g t) (l : List α) (s : State) : g (l.foldl step s) = g s :=
  List.foldlRecOn (motive := fun t => g t = g s) l step rfl fun t ht a _ => (hstep t a).trans ht

theorem State.fld_clearActivity_self (he : e < 2) : (s.clearActivity d).fld (.rtr d) (F.RTR_INFLIGHT_ACTIVITY e) = 0 := by
  obtain rfl | rfl : e = 0 ∨ e = 1 := by omega
  · rw [State.clearActivity, State.fld_setFld_off _ _ _ _ _ (by decide), State.fld_setFld _ _ _ _ (by decide)]
    rfl
  · rw [State.clearActivity, State.fld_setFld _ _ _ _ (by decide)]
    rfl

theorem State.fld_clearActivity_ne (hd : d ≠ d') {f : Field} (hf : f.off < 0x1000) : (s.clearActivity d).fld (.rtr d') f = s.fld (.rtr d') f := by
  have hpage : Page.rtr d ≠ Page.rtr d' := by simpa using hd
  rw [State.clearActivity, State.fld_setFld_page _ _ _ _ (by decide) hf hpage, State.fld_setFld_page _ _ _ _ (by decide) hf hpage]

theorem State.fld_clearActivity_count (he : e < 2) : (s.clearActivity d).fld (.rtr d') (F.RTR_INFLIGHT_COUNT e) = s.fld (.rtr d') (F.RTR_INFLIGHT_COUNT e) := by
  by_cases hd : d = d'
  · subst hd
    have hbits (i : Nat) : (F.RTR_INFLIGHT_ACTIVITY i).lsb + (F.RTR_INFLIGHT_ACTIVITY i).width ≤ (F.RTR_INFLIGHT_COUNT e).lsb ∨
        (F.RTR_INFLIGHT_COUNT e).lsb + (F.RTR_INFLIGHT_COUNT e).width ≤ (F.RTR_INFLIGHT_ACTIVITY i).lsb := Or.inr (by decide : 0 + 24 ≤ 31)
    rw [State.clearActivity, State.fld_setFld_other _ _ _ _ _ (hbits 1), State.fld_setFld_other _ _ _ _ _ (hbits 0)]
  · exact State.fld_clearActivity_ne hd (show 0x108 + 4 * e < 0x1000 by omega)

/-- Reading clears the ACTIVITY bits of every die named, and leaves those that were clear. -/
theorem State.fld_foldl_clearActivity (he : e < 2) (ds : List Die) (h : d ∈ ds ∨ s.fld (.rtr d) (F.RTR_INFLIGHT_ACTIVITY e) = 0) :
    (ds.foldl State.clearActivity s).fld (.rtr d) (F.RTR_INFLIGHT_ACTIVITY e) = 0 := by
  induction ds generalizing s with
  | nil => exact h.resolve_left List.not_mem_nil
  | cons a ds ih =>
    refine ih (Decidable.or_iff_not_imp_left.2 fun hds => ?_)
    by_cases ha : a = d
    · subst ha
      exact State.fld_clearActivity_self he
    · rw [State.fld_clearActivity_ne ha (show 0x108 + 4 * e < 0x1000 by omega)]
      exact h.resolve_left (by simp [hds, Ne.symm ha])

theorem State.clearActivity_mem : (s.clearActivity d).mem = s.mem := by simp [State.clearActivity]

theorem State.clearActivity_ports : (s.clearActivity d).ports = s.ports := by simp [State.clearActivity]

/-- Both counts of every die that an agent serves. -/
def State.inflight (s : State) (k : PDie) : List Byte :=
  (serves k).flatMap (fun d => leBytes (s.rd (Page.base (.rtr d) + 0x108)).toNat 4 ++ leBytes (s.rd (Page.base (.rtr d) + 0x10C)).toNat 4)

section
variable (h : s.agentMeets m 0x8A false u) (hse : u.agentServes m false = true)
include h hse

theorem inflightRead_of_badForm (hform : m.pkt.ctlForm 0 = false) : inflightRead m s = u.agentReplies m agFORMAT [] :=
  State.agentOp_replies h hse (checkForm_of_bad hform)

theorem inflightRead_of_form (hform : m.pkt.ctlForm 0 = true) :
    inflightRead m s = ((serves m.k).foldl State.clearActivity u).agentReplies m agOK (u.inflight m.k) :=
  State.agentOp_replies h hse (checkForm_of_good hform)

end

end

/-! Slots of sessions. -/

section
variable {a : AgentSt} {ser : BitVec 128} {n : Nat}

@[simp] theorem AgentSt.sess_zero : a.sess 0 = a.sess0 := rfl
@[simp] theorem AgentSt.sess_one : a.sess 1 = a.sess1 := rfl

theorem AgentSt.sess_of_two_le (h : 2 ≤ n) : a.sess n = none := by
  rw [AgentSt.sess, if_neg (by omega), if_neg (by omega)]

/-- A property of both slots is one of every session. -/
theorem AgentSt.forall_sess {P : Session → Prop} (h0 : ∀ x, a.sess0 = some x → P x) (h1 : ∀ x, a.sess1 = some x → P x) (k : Nat) (x : Session)
    (hk : a.sess k = some x) : P x := by
  match k with
  | 0 => exact h0 x hk
  | 1 => exact h1 x hk
  | k + 2 => simp [AgentSt.sess_of_two_le (a := a) (Nat.le_add_left 2 k)] at hk

theorem AgentSt.openSlot_eq_none_iff : a.openSlot ser = none ↔ ∃ x y, a.sess 0 = some x ∧ a.sess 1 = some y ∧ x.serial ≠ ser ∧ y.serial ≠ ser := by
  rw [AgentSt.openSlot, AgentSt.sess_zero, AgentSt.sess_one]
  rcases a.sess0 with _ | x <;> rcases a.sess1 with _ | y
  · simp
  · by_cases hy : y.serial = ser <;> simp [hy]
  · by_cases hx : x.serial = ser <;> simp [hx]
  · by_cases hx : x.serial = ser <;> by_cases hy : y.serial = ser <;> simp [hx, hy]

/-- The slot of a session that opens holds one of the same signer, or is the lowest empty one where no session is of that signer (R376). -/
theorem AgentSt.openSlot_spec (h : a.openSlot ser = some n) : n < 2 ∧ ((∃ x, a.sess n = some x ∧ x.serial = ser) ∨
    a.sess n = none ∧ (∀ k x, a.sess k = some x → x.serial ≠ ser) ∧ (n = 1 → a.sess 0 ≠ none)) := by
  rw [AgentSt.openSlot] at h
  split at h
  case isTrue h0 =>
    obtain rfl := Option.some.inj h
    exact ⟨by decide, Or.inl (by simpa [Option.any_eq_true] using h0)⟩
  case isFalse h0 =>
  split at h
  case isTrue h1 =>
    obtain rfl := Option.some.inj h
    exact ⟨by decide, Or.inl (by simpa [Option.any_eq_true] using h1)⟩
  case isFalse h1 =>
  have hother : ∀ k x, a.sess k = some x → x.serial ≠ ser :=
    AgentSt.forall_sess (fun x hx => by simpa [hx] using h0) (fun x hx => by simpa [hx] using h1)
  split at h
  case isTrue hnone =>
    obtain rfl := Option.some.inj h
    exact ⟨by decide, Or.inr ⟨by simpa using hnone, hother, by simp⟩⟩
  case isFalse hheld =>
  split at h
  case isTrue hnone =>
    obtain rfl := Option.some.inj h
    exact ⟨by decide, Or.inr ⟨by simpa using hnone, hother, fun _ => by simpa using hheld⟩⟩
  case isFalse => cases h

end

/-! SESSION_OPEN and SESSION_CLOSE. -/

/-- A session opens with nothing accepted and nothing cached. -/
theorem State.openAnswer_session {u v : State} {em : BitVec 256} {ser : BitVec 128} {x : Session} {bs : List Byte} (h : u.openAnswer em ser = (v, x, bs)) :
    x.serial = ser ∧ x.top = 0 ∧ x.window = 0 ∧ x.cache = [] ∧ bs.length = 112 := by
  obtain rfl : (u.openAnswer em ser).2.1 = x := by rw [h]
  obtain rfl : (u.openAnswer em ser).2.2 = bs := by rw [h]
  exact ⟨rfl, rfl, rfl, rfl, by simp [State.openAnswer, length_leBytes]⟩

/-- The signer that a SESSION_OPEN names, and the ephemeral key that it brings. -/
def Packet.signer (p : Packet) : BitVec 128 := BitVec.ofNat 128 (imgNat p.payload 32 16)
def Packet.ephemeral (p : Packet) : BitVec 256 := BitVec.ofNat 256 (imgNat p.payload 0 32)

section
variable {s u v : State} {m : MgtIn} {x : Session} {slot ctr : Nat} {bs : List Byte}

/-- A valid signature of one of the plan's two managers passes the check of a SESSION_OPEN (R376). -/
theorem sessionOpen_signer (hv : m.valid = true) (hplan : u.plan ≠ []) (hser : m.pkt.signer = planPrimary u.rolePlan ∨ m.pkt.signer = planStandby u.rolePlan) :
    ¬ (!m.valid || u.plan.isEmpty || !(m.pkt.signer == planPrimary u.rolePlan || m.pkt.signer == planStandby u.rolePlan)) = true := by
  rcases hser with hser | hser <;> simp [hv, hplan, hser]

section
variable (h : s.agentMeets m 0x82 true u) (hse : u.agentServes m true = true)
include h hse

theorem sessionOpen_of_badForm (hform : m.pkt.payload.length < 112 ∨ m.pkt.argsUpTo 0 = false) : sessionOpen m s = u.agentReplies m agFORMAT [] :=
  State.agentOp_replies h hse (if_pos (by simpa using hform))

variable (hlen : 112 ≤ m.pkt.payload.length) (harg : m.pkt.argsUpTo 0 = true)
include hlen harg

theorem sessionOpen_of_unknown (hbad : m.valid = false ∨ u.plan = [] ∨ m.pkt.signer ≠ planPrimary u.rolePlan ∧ m.pkt.signer ≠ planStandby u.rolePlan) :
    sessionOpen m s = u.agentReplies m agAUTH [] :=
  State.agentOp_replies h hse ((if_neg (by simp [harg, hlen])).trans (if_pos (by simpa [or_assoc, Packet.signer] using hbad)))

variable (hv : m.valid = true) (hplan : u.plan ≠ []) (hser : m.pkt.signer = planPrimary u.rolePlan ∨ m.pkt.signer = planStandby u.rolePlan)
include hv hplan hser

theorem sessionOpen_of_noSlot (hslot : (u.agent m.k).openSlot m.pkt.signer = none) : sessionOpen m s = u.agentReplies m agSTATE [] := by
  rw [Packet.signer] at hslot
  exact State.agentOp_replies h hse ((if_neg (by simp [harg, hlen])).trans ((if_neg (sessionOpen_signer hv hplan hser)).trans (by simp only [hslot])))

theorem sessionOpen_of_slot (hslot : (u.agent m.k).openSlot m.pkt.signer = some slot) (hans : u.openAnswer m.pkt.ephemeral m.pkt.signer = (v, x, bs)) :
    sessionOpen m s = (v.setSess m.k slot (some x)).agentReplies m agOK bs := by
  rw [Packet.signer] at hslot hans
  rw [Packet.ephemeral] at hans
  exact State.agentOp_replies h hse ((if_neg (by simp [harg, hlen])).trans
    ((if_neg (sessionOpen_signer hv hplan hser)).trans (by simp only [hslot, hans])))

end

/-- A request that an agent takes runs under its session, as SESSION_CLOSE asks. -/
theorem State.agentRuns_of_takes {op : BitVec 8} (h : s.agentTakes m op false u x slot ctr) : s.agentRuns m op = some (x, slot) := by
  obtain ⟨⟨w, hw, hop, hcls, rfl⟩, ht, hse, hv, hj, hsv⟩ := h
  simp [State.agentRuns, hw, hop, hcls, hv, hsv, ht, hse, hj]

theorem sessionClose_of_form (h : s.agentTakes m 0x83 false u x slot ctr) (hform : m.pkt.authForm 0 0 = true) :
    sessionClose m s = (u.agentAnswers m x slot ctr agOK []).setSess m.k slot none := by
  simp only [sessionClose, State.agentRuns_of_takes h, State.agentOp_runs h, hform, if_true]

theorem sessionClose_of_badForm (h : s.agentTakes m 0x83 false u x slot ctr) (hform : m.pkt.authForm 0 0 = false) :
    sessionClose m s = u.agentAnswers m x slot ctr agFORMAT [] := by
  simp only [sessionClose, State.agentRuns_of_takes h, State.agentOp_runs h, hform, Bool.false_eq_true, if_false]

end

/-- Settles O22: each clause is the rule above for its request and its form. -/
theorem agentsAnswerAndOpenSessions : Obligations.AgentsAnswerAndOpenSessions := by
  refine ⟨fun s u m hon h hse => ⟨fun hform => run_of_eq hon (identify_of_form h hse hform), fun hform => run_of_eq hon (identify_of_badForm h hse hform)⟩,
    fun s u m hon h hse => ⟨fun hform => run_of_eq hon (portList_of_badForm h hse hform), fun hform => ⟨fun l hlo hhi hl =>
      run_of_eq hon (portList_of_ports h hse hform hlo hhi hl), fun hr => run_of_eq hon (portList_of_range h hse hform hr)⟩⟩,
    fun s u m hon h hse => ⟨fun hform => run_of_eq hon (inflightRead_of_badForm h hse hform), fun hform => ?inflight⟩,
    fun s u m hon h hse => ⟨fun hform => run_of_eq hon (teleRead_of_badForm h hse hform), fun hform => ⟨fun l hl =>
      run_of_eq hon (teleRead_of_ports h hse hform hl), fun hl => run_of_eq hon (teleRead_of_range h hse hform hl)⟩⟩,
    fun s u m hon hse => ⟨fun h => run_of_eq hon (State.agentOp_idle h hse), fun h => run_of_eq hon (State.agentOp_idle h hse)⟩,
    fun u m => ⟨State.agentServes_closed_iff, State.agentServes_open_iff⟩,
    fun s u m hon h hse => ⟨fun hform => run_of_eq hon (sessionOpen_of_badForm h hse hform), fun hlen harg => ⟨fun hbad =>
      run_of_eq hon (sessionOpen_of_unknown h hse hlen harg hbad), fun hv hplan hser => ⟨fun hslot =>
        run_of_eq hon (sessionOpen_of_noSlot h hse hlen harg hv hplan hser hslot), fun slot v x ans hslot hans =>
          ⟨run_of_eq hon (sessionOpen_of_slot h hse hlen harg hv hplan hser hslot hans), State.openAnswer_session hans⟩⟩⟩⟩,
    fun a ser => ⟨AgentSt.openSlot_eq_none_iff, fun n => AgentSt.openSlot_spec⟩,
    fun s u m x slot ctr hon h => ⟨fun hform => run_of_eq hon (sessionClose_of_form h hform), fun hform => run_of_eq hon (sessionClose_of_badForm h hform)⟩⟩
  case inflight =>
    refine ⟨_, run_of_eq hon (inflightRead_of_form h hse hform), fun d hd e he => ⟨State.fld_foldl_clearActivity he _ (Or.inl hd), ?_⟩, ?_, ?_⟩
    · exact foldl_keeps (g := fun t => t.fld (.rtr d) (F.RTR_INFLIGHT_COUNT e)) (fun t d' => State.fld_clearActivity_count he) _ u
    · exact foldl_keeps (g := State.mem) (fun t d' => State.clearActivity_mem) _ u
    · exact foldl_keeps (g := State.ports) (fun t d' => State.clearActivity_ports) _ u

end Sys2Proof.Machine
end

section
/-! What a manager does through an agent under its session (10 R381, R382, R385, R387, R388, R390, R392, R393, R396, R399): what each operation makes of the state when
its form holds, and what refuses it. -/

namespace Sys2Proof.Machine

/-! COORD_SET. -/

/-- A coordinate of a package, with no die, endpoint or reserved bit (R382, R385). -/
def PackageCoord (co : Nat) : Prop :=
  let c : Coord := BitVec.ofNat 32 co
  c.d = 0 ∧ c.e = 0 ∧ bits co 3 0 = 0 ∧ bits co 31 30 = 0 ∧ c.x ≤ 3 ∧ c.y ≤ 3 ∧ c.p ≤ 3

/-- The coordinate and the manager pair at one port die (R385). -/
def State.assignCoord (s : State) (co primary standby : Nat) (k : PDie) : State :=
  (((s.setFld (.agt k) F.AGT_COORD_COORD co).setFld (.agt k) F.AGT_STATE_ASSIGNED 1).setFld (.agt k) (F.AGT_MGR_COORD 0) primary).setFld (.agt k) (F.AGT_MGR_COORD 1)
    standby

/-- A port die shows its coordinate and its manager pair. -/
def State.Assigned (s : State) (co primary standby : Nat) (k : PDie) : Prop :=
  s.fld (.agt k) F.AGT_COORD_COORD = co ∧ s.fld (.agt k) F.AGT_STATE_ASSIGNED = 1 ∧ s.fld (.agt k) (F.AGT_MGR_COORD 0) = primary ∧
    s.fld (.agt k) (F.AGT_MGR_COORD 1) = standby

section
variable {s : State} {co primary standby : Nat} {k k' : PDie}

theorem State.assigned_assignCoord (hco : co < 2 ^ 32) (hp : primary < 2 ^ 32) (hs : standby < 2 ^ 32) :
    (s.assignCoord co primary standby k).Assigned co primary standby k := by
  refine ⟨?_, ?_, ?_, ?_⟩ <;> rw [State.assignCoord]
  · rw [State.fld_setFld_off _ _ _ _ _ (by decide), State.fld_setFld_off _ _ _ _ _ (by decide), State.fld_setFld_off _ _ _ _ _ (by decide),
      State.fld_setFld _ _ _ _ (by decide)]
    exact Nat.mod_eq_of_lt hco
  · rw [State.fld_setFld_off _ _ _ _ _ (by decide), State.fld_setFld_off _ _ _ _ _ (by decide), State.fld_setFld _ _ _ _ (by decide)]
    rfl
  · rw [State.fld_setFld_off _ _ _ _ _ (by decide), State.fld_setFld _ _ _ _ (by decide)]
    exact Nat.mod_eq_of_lt hp
  · rw [State.fld_setFld _ _ _ _ (by decide)]
    exact Nat.mod_eq_of_lt hs

theorem State.fld_assignCoord_ne (hk : k ≠ k') {f : Field} (hf : f.off < 0x1000) :
    (s.assignCoord co primary standby k).fld (.agt k') f = s.fld (.agt k') f := by
  have hpage : Page.agt k ≠ Page.agt k' := by simpa using hk
  rw [State.assignCoord, State.fld_setFld_page _ _ _ _ (by decide) hf hpage, State.fld_setFld_page _ _ _ _ (by decide) hf hpage,
    State.fld_setFld_page _ _ _ _ (by decide) hf hpage, State.fld_setFld_page _ _ _ _ (by decide) hf hpage]

theorem State.Assigned.assignCoord_ne (h : s.Assigned co primary standby k') (hk : k ≠ k') :
    (s.assignCoord co primary standby k).Assigned co primary standby k' := by
  rw [State.Assigned, State.fld_assignCoord_ne hk (by decide), State.fld_assignCoord_ne hk (by decide), State.fld_assignCoord_ne hk (by decide),
    State.fld_assignCoord_ne hk (by decide)]
  exact h

/-- The coordinate and the manager pair at both port dies. -/
def State.assignBoth (s : State) (co primary standby : Nat) : State := ([0, 1] : List PDie).foldl (State.assignCoord · co primary standby ·) s

theorem State.assigned_assignBoth (hco : co < 2 ^ 32) (hp : primary < 2 ^ 32) (hs : standby < 2 ^ 32) :
    (s.assignBoth co primary standby).Assigned co primary standby k := by
  match k with
  | 0 => exact (State.assigned_assignCoord hco hp hs).assignCoord_ne (by decide)
  | 1 => exact State.assigned_assignCoord hco hp hs

theorem State.assignBoth_mem : (s.assignBoth co primary standby).mem = s.mem := by simp [State.assignBoth, State.assignCoord]

theorem State.assignBoth_tables : (s.assignBoth co primary standby).tables = s.tables := by simp [State.assignBoth, State.assignCoord]

end

theorem imgNat_lt (b : List Byte) (off n : Nat) : imgNat b off n < 256 ^ n := by
  have hle : ∀ l : List Byte, leNat l < 256 ^ l.length := fun l => by
    induction l with
    | nil => simp [leNat]
    | cons a l ih =>
      have ha := a.isLt
      rw [leNat, List.length_cons, Nat.pow_succ]
      omega
  exact Nat.lt_of_lt_of_le (hle _) (Nat.pow_le_pow_right (by decide) (List.length_take_le _ _))

section
variable {s u : State} {m : MgtIn} {x : Session} {slot ctr : Nat} (h : s.agentTakes m 0x84 false u x slot ctr) (hform : m.pkt.authForm 32 8 = true)
  (hco : PackageCoord (m.pkt.arg 31 0))
include h hform hco

theorem coordSet_of_free (hfree : u.fld (.agt 0) F.AGT_STATE_ASSIGNED ≠ 0 ∧ u.fld (.agt 0) F.AGT_COORD_COORD = m.pkt.arg 31 0 ∨ ∀ q, u.lnk q ≠ lkACTIVE) :
    coordSet m s = (u.assignBoth (m.pkt.arg 31 0) (imgNat m.pkt.args 0 4) (imgNat m.pkt.args 4 4)).agentAnswers m x slot ctr agOK [] := by
  obtain ⟨hd, he, hlow, hhigh, hx, hy, hp⟩ := hco
  refine State.agentOp_answers h ((if_neg (by simp [*])).trans (if_neg ?_))
  rcases hfree with ⟨hass, hsame⟩ | hidle
  · simp [hass, hsame]
  · simp [hidle]

theorem coordSet_of_active {q : Port} (hq : u.lnk q = lkACTIVE)
    (hnew : u.fld (.agt 0) F.AGT_STATE_ASSIGNED = 0 ∨ u.fld (.agt 0) F.AGT_COORD_COORD ≠ m.pkt.arg 31 0) : coordSet m s = u.agentAnswers m x slot ctr agSTATE [] := by
  obtain ⟨hd, he, hlow, hhigh, hx, hy, hp⟩ := hco
  have hany : allPorts.any (fun q => u.lnk q == lkACTIVE) = true := List.any_eq_true.2 ⟨q, List.mem_finRange q, by simp [hq]⟩
  exact State.agentOp_answers h ((if_neg (by simp [*])).trans (if_pos (by simpa [hany] using hnew)))

end

/-! PORT_ATTR. -/

theorem shiftRight_nine_eq_zero_iff {v : Nat} : v >>> 9 = 0 ↔ v < 512 := by
  rw [Nat.shiftRight_eq_div_pow, Nat.div_eq_zero_iff_lt (by decide)]

section
variable {s u : State} {m : MgtIn} {x : Session} {slot ctr : Nat} {q : Port} (h : s.agentTakes m 0x85 false u x slot ctr) (hform : m.pkt.authForm 8 4 = true)
  (hv : imgNat m.pkt.args 0 4 < 512) (hq : portOn m.k (m.pkt.arg 7 0) = some q)
include h hform hv hq

theorem portAttr_of_inactive (hst : u.lnk q ≠ lkACTIVE) : portAttr m s = (u.wr (Page.base (.rtr (PDie.die m.k)) + 0x120 + 4 * Port.local q)
    (BitVec.ofNat 32 (imgNat m.pkt.args 0 4))).agentAnswers m x slot ctr agOK [] :=
  State.agentOp_answers h ((if_neg (by simp [hform, shiftRight_nine_eq_zero_iff.2 hv])).trans (by simp only [hq, if_neg hst]))

theorem portAttr_of_active (hst : u.lnk q = lkACTIVE) : portAttr m s = u.agentAnswers m x slot ctr agSTATE [] :=
  State.agentOp_answers h ((if_neg (by simp [hform, shiftRight_nine_eq_zero_iff.2 hv])).trans (by simp only [hq, if_pos hst]))

end

/-! TABLE_WRITE and TABLE_COMMIT. -/

/-- Entries of a table from an index on (R387). -/
def State.putEntries (s : State) (d : Die) (e : Bool) (ix : Nat) (ws : List Word) : State :=
  { s with tables := Store.setList (fun _ => 0) s.tables (tableKey d e ix) ws }

/-- The field that says that an epoch's table is valid. -/
def validField (e : Bool) : Field := if e then F.RTR_EPOCH_VALID1 else F.RTR_EPOCH_VALID0

/-- The entries that a TABLE_WRITE carries. -/
def Packet.entries (p : Packet) : List Word := (List.range (p.arg 28 20)).map (fun i => (BitVec.ofNat 32 (imgNat p.args (4 * i) 4) : Word))

section
variable {s : State} {d d' : Die} {e e' : Bool} {ix i : Nat} {ws : List Word}

theorem State.tableValid_eq : s.tableValid d e = s.flag (.rtr d) (validField e) := rfl

theorem State.entry_putEntries_named (hi : i < ws.length) : (s.putEntries d e ix ws).entry d e (ix + i) = ws[i] := by
  have hkey : tableKey d e (ix + i) - tableKey d e ix = i := by unfold tableKey; omega
  rw [State.entry, State.putEntries, Store.get_setList, dif_pos (by unfold tableKey; omega)]
  simp only [hkey]

/-- Entries of other tables, and those that are not named, stay. -/
theorem State.entry_putEntries_other (hend : ix + ws.length ≤ 4096) (hi : i < 4096) (h : (d', e') ≠ (d, e) ∨ i < ix ∨ ix + ws.length ≤ i) :
    (s.putEntries d e ix ws).entry d' e' i = s.entry d' e' i := by
  rw [State.entry, State.putEntries, Store.get_setList, dif_neg, State.entry]
  rintro ⟨hlo, hhi⟩
  unfold tableKey at hlo hhi
  have he := Bool.toNat_le e
  have he' := Bool.toNat_le e'
  have hd : d' = d := Fin.ext (by omega)
  have hee : e' = e := Bool.eq_iff_iff.2 (by rw [← Bool.toNat_eq_one, ← Bool.toNat_eq_one]; omega)
  rcases h with hne | hix
  · exact hne (by rw [hd, hee])
  · subst hd hee
    omega

@[simp] theorem State.putEntries_flag (p : Page) (f : Field) : (s.putEntries d e ix ws).flag p f = s.flag p f := by cases s; rfl
@[simp] theorem State.putEntries_mem : (s.putEntries d e ix ws).mem = s.mem := by cases s; rfl

theorem State.tableValid_setFld : (s.setFld (.rtr d) (validField e) 0).tableValid d e = false := by
  rw [State.tableValid_eq, State.flag_setFld _ _ _ _ (by cases e <;> decide)]
  simp

theorem State.entry_setFld (p : Page) (f : Field) (v : Nat) : (s.setFld p f v).entry d e i = s.entry d e i := by
  rw [State.entry, State.setFld_tables, State.entry]

end

theorem Packet.length_entries (p : Packet) : p.entries.length = p.arg 28 20 := by simp [Packet.entries]

theorem Packet.argsUpTo_of_authForm {p : Packet} {n used : Nat} (h : p.authForm n used = true) : p.argsUpTo n = true := by
  simp only [Packet.authForm, Bool.and_eq_true] at h
  exact h.1.1

section
variable {s u : State} {m : MgtIn} {x : Session} {slot ctr : Nat} {d : Die}

section
variable (h : s.agentTakes m 0x87 false u x slot ctr)
include h

theorem tableWrite_of_range (harg : m.pkt.argsUpTo 29 = true)
    (hr : tableDie m.k m.pkt = none ∨ 504 < m.pkt.arg 28 20 ∨ 4096 < m.pkt.arg 19 8 + m.pkt.arg 28 20) : tableWrite m s = u.agentAnswers m x slot ctr agRANGE [] := by
  refine State.agentOp_answers h ((checkForm_of_good harg).trans ?_)
  rcases hd : tableDie m.k m.pkt with _ | d
  · rfl
  · exact if_pos (by simpa [hd] using hr)

variable (hform : m.pkt.authForm 29 (4 * m.pkt.arg 28 20) = true) (hd : tableDie m.k m.pkt = some d) (hn : m.pkt.arg 28 20 ≤ 504)
  (hend : m.pkt.arg 19 8 + m.pkt.arg 28 20 ≤ 4096)
include hform hd hn hend

/-- A TABLE_WRITE of the right form, up to the state of the epoch that it names. -/
theorem tableWrite_of_form : tableWrite m s = if u.fld (.rtr d) F.RTR_EPOCH_CUR = m.pkt.arg 0 0 ∨ u.fld (.rtr d) (F.RTR_INFLIGHT_COUNT (m.pkt.arg 0 0)) ≠ 0 then
    u.agentAnswers m x slot ctr agSTATE []
    else ((u.setFld (.rtr d) (validField (m.pkt.arg 0 0 = 1)) 0).putEntries d (m.pkt.arg 0 0 = 1) (m.pkt.arg 19 8) m.pkt.entries).agentAnswers m x slot ctr agOK [] := by
  have hrange : ¬ (decide (504 < m.pkt.arg 28 20) || decide (4096 < m.pkt.arg 19 8 + m.pkt.arg 28 20)) = true := by simp [hn, hend]
  split
  case isTrue hbusy =>
    refine State.agentOp_answers h ((checkForm_of_good (Packet.argsUpTo_of_authForm hform)).trans ?_)
    simp only [hd, if_neg hrange, hform, Bool.not_true, Bool.false_eq_true, if_false]
    exact if_pos (by simpa using hbusy)
  case isFalse hfree =>
    refine State.agentOp_answers h ((checkForm_of_good (Packet.argsUpTo_of_authForm hform)).trans ?_)
    simp only [hd, if_neg hrange, hform, Bool.not_true, Bool.false_eq_true, if_false]
    exact (if_neg (by simpa using hfree)).trans (by simp [validField, State.putEntries, Packet.entries])

end

section
variable (h : s.agentTakes m 0x88 false u x slot ctr) (hform : m.pkt.authForm 20 4 = true)
include h hform

theorem tableCommit_of_range (hd : tableDie m.k m.pkt = none) : tableCommit m s = u.agentAnswers m x slot ctr agRANGE [] :=
  State.agentOp_answers h ((checkForm_of_good hform).trans (by simp only [hd]))

variable (hd : tableDie m.k m.pkt = some d)
include hd

theorem tableCommit_of_crc (hcrc : (crc32 (u.tableBytes d (m.pkt.arg 0 0 = 1))).toNat = imgNat m.pkt.args 0 4) : tableCommit m s =
    (u.setFld (.rtr d) (if m.pkt.arg 0 0 = 1 then F.RTR_EPOCH_VALID1 else F.RTR_EPOCH_VALID0) 1).agentAnswers m x slot ctr agOK [] :=
  State.agentOp_answers h ((checkForm_of_good hform).trans (by simp only [hd, if_pos hcrc]))

theorem tableCommit_of_badCrc (hcrc : (crc32 (u.tableBytes d (m.pkt.arg 0 0 = 1))).toNat ≠ imgNat m.pkt.args 0 4) :
    tableCommit m s = u.agentAnswers m x slot ctr agCRC [] :=
  State.agentOp_answers h ((checkForm_of_good hform).trans (by simp only [hd, if_neg hcrc]))

end

end

/-! EPOCH_SET. -/

/-- The dies that an EPOCH_SET names. -/
def Packet.dieMask (p : Packet) : List Die := allDies.filter (fun d => (p.arg 10 1).testBit d.val)

/-- The same value in a field of the routers of some dies: each of those shows it, and no other changes. -/
theorem State.fld_foldl_setFld_rtr {f : Field} {v : Nat} (hf : f.lsb + f.width ≤ 32) (hoff : f.off < 0x1000) (ds : List Die) (s : State) (d : Die) :
    (ds.foldl (fun t a => t.setFld (.rtr a) f v) s).fld (.rtr d) f = if d ∈ ds then v % 2 ^ f.width else s.fld (.rtr d) f := by
  induction ds generalizing s with
  | nil => rfl
  | cons a ds ih =>
    rw [List.foldl_cons, ih]
    by_cases ha : a = d
    · subst ha
      simp [State.fld_setFld _ _ _ _ hf]
    · rw [State.fld_setFld_page _ _ _ _ hoff hoff (by simpa using ha)]
      simp [Ne.symm ha]

section
variable {s u : State} {m : MgtIn} {x : Session} {slot ctr : Nat} (h : s.agentTakes m 0x89 false u x slot ctr) (hform : m.pkt.authForm 11 0 = true)
  (hds : ∀ d ∈ m.pkt.dieMask, d ∈ serves m.k)
include h hform hds

theorem epochSet_of_valid (hval : ∀ d ∈ m.pkt.dieMask, u.tableValid d (m.pkt.arg 0 0 = 1) = true) :
    epochSet m s = (m.pkt.dieMask.foldl (fun t d => t.setFld (.rtr d) F.RTR_EPOCH_CUR (m.pkt.arg 0 0)) u).agentAnswers m x slot ctr agOK [] :=
  State.agentOp_answers h ((checkForm_of_good hform).trans ((if_neg (by simpa [Packet.dieMask] using hds)).trans (if_pos (List.all_eq_true.2 hval))))

theorem epochSet_of_invalid (hval : ∃ d ∈ m.pkt.dieMask, u.tableValid d (m.pkt.arg 0 0 = 1) = false) : epochSet m s = u.agentAnswers m x slot ctr agSTATE [] := by
  obtain ⟨d, hd, hinv⟩ := hval
  refine State.agentOp_answers h ((checkForm_of_good hform).trans ((if_neg (by simpa [Packet.dieMask] using hds)).trans (if_neg fun hall => ?_)))
  simp [List.all_eq_true.1 hall d hd] at hinv

end

/-! KEY_LOAD, KEY_CLEAR and KEY_SWITCH. -/

/-- The key slot that a request names. -/
def Packet.keySlot (p : Packet) : Bool := decide (p.arg 9 9 = 1)

/-- A receive slot is in use: it accepted a frame in the last 10 ms (R392). -/
def State.RxInUse (s : State) (k : PDie) (q : Port) (j : Bool) : Prop :=
  ∃ r n, (s.port q).rxKey j = some r ∧ r.last = some n ∧ (s.now (PDie.die k) - r.seenAt).toNat ≤ 2000000

section
variable {s u : State} {m : MgtIn} {x : Session} {slot ctr : Nat} {q : Port} {key : BitVec 256} {salt : BitVec 32}

section
variable (h : s.agentTakes m 0x8B false u x slot ctr) (hform : m.pkt.authForm 10 64 = true) (hq : portOn m.k (m.pkt.arg 7 0) = some q)
include h hform hq

theorem keyLoad_of_badBlob : keyLoad m false s = u.agentAnswers m x slot ctr agAUTH [] :=
  State.agentOp_answers h ((checkForm_of_good hform).trans (by simp only [hq, Bool.not_false, if_true]))

variable (hkey : unwrapKey x m.pkt.args q.val (m.pkt.arg 8 8) (m.pkt.arg 9 9) = (key, salt))
include hkey

theorem keyLoad_rx_of_inUse (hrx : m.pkt.arg 8 8 = 1) (huse : u.RxInUse m.k q m.pkt.keySlot) : keyLoad m true s = u.agentAnswers m x slot ctr agSTATE [] := by
  obtain ⟨r, n, hr, hn, hnow⟩ := huse
  rw [Packet.keySlot] at hr
  refine State.agentOp_answers h ((checkForm_of_good hform).trans ?_)
  simp only [hq, hkey, Bool.not_true, Bool.false_eq_true, if_false]
  simp only [hrx, decide_true, if_true, hr, hn, Option.isSome_some, decide_eq_true hnow, Bool.and_self]

theorem keyLoad_rx_of_free (hrx : m.pkt.arg 8 8 = 1) (hfree : ¬ u.RxInUse m.k q m.pkt.keySlot) : keyLoad m true s =
    ((u.setPort q ((u.port q).setRx m.pkt.keySlot (some { key := key, salt := salt }))).sendThrice q
      (recordBytes 1 [BitVec.ofNat 8 (m.pkt.arg 9 9)])).agentAnswers m x slot ctr agOK [] := by
  refine State.agentOp_answers h ((checkForm_of_good hform).trans ?_)
  simp only [hq, hkey, Bool.not_true, Bool.false_eq_true, if_false]
  simp only [hrx, decide_true, if_true]
  refine if_neg fun hbusy => hfree ?_
  split at hbusy
  case h_1 r hr =>
    simp only [Bool.and_eq_true, Option.isSome_iff_exists, decide_eq_true_eq] at hbusy
    obtain ⟨⟨n, hn⟩, hnow⟩ := hbusy
    exact ⟨r, n, hr, hn, hnow⟩
  case h_2 => cases hbusy

theorem keyLoad_tx_of_free (htx : m.pkt.arg 8 8 ≠ 1) (hfree : u.txSlot q ≠ m.pkt.keySlot) :
    keyLoad m true s = (u.setPort q ((u.port q).setTx m.pkt.keySlot (some { key := key, salt := salt }))).agentAnswers m x slot ctr agOK [] := by
  refine State.agentOp_answers h ((checkForm_of_good hform).trans ?_)
  simp only [hq, hkey, htx, Bool.not_true, Bool.false_eq_true, if_false, decide_false]
  exact if_neg hfree

theorem keyLoad_tx_of_inUse (htx : m.pkt.arg 8 8 ≠ 1) (huse : u.txSlot q = m.pkt.keySlot) : keyLoad m true s = u.agentAnswers m x slot ctr agSTATE [] := by
  refine State.agentOp_answers h ((checkForm_of_good hform).trans ?_)
  simp only [hq, hkey, htx, Bool.not_true, Bool.false_eq_true, if_false, decide_false]
  exact if_pos huse

end

section
variable (h : s.agentTakes m 0x8C false u x slot ctr) (hform : m.pkt.authForm 10 0 = true) (hq : portOn m.k (m.pkt.arg 7 0) = some q)
include h hform hq

theorem keyClear_rx_of_inUse (hrx : m.pkt.arg 8 8 = 1) (hkeyed : u.flag (.lnk q) F.LNK_STATE_KEYED_RX = true)
    (hidx : u.flag (.lnk q) F.LNK_STATE_KIDX_RX = m.pkt.keySlot) : keyClear m s = u.agentAnswers m x slot ctr agSTATE [] := by
  refine State.agentOp_answers h ((checkForm_of_good hform).trans ?_)
  simp only [hq, hrx, decide_true, if_true]
  exact if_pos (by rw [hkeyed, hidx, Packet.keySlot]; simp)

theorem keyClear_rx_of_free (hrx : m.pkt.arg 8 8 = 1) (hfree : u.flag (.lnk q) F.LNK_STATE_KEYED_RX = false ∨ u.flag (.lnk q) F.LNK_STATE_KIDX_RX ≠ m.pkt.keySlot) :
    keyClear m s = (u.setPort q ((u.port q).setRx m.pkt.keySlot none)).agentAnswers m x slot ctr agOK [] := by
  refine State.agentOp_answers h ((checkForm_of_good hform).trans ?_)
  simp only [hq, hrx, decide_true, if_true]
  refine if_neg fun huse => ?_
  simp only [Bool.and_eq_true, decide_eq_true_eq] at huse
  rcases hfree with hplain | hother
  · exact Bool.eq_false_iff.1 hplain huse.1
  · exact hother huse.2

theorem keyClear_tx_of_free (htx : m.pkt.arg 8 8 ≠ 1) (hfree : u.txSlot q ≠ m.pkt.keySlot) :
    keyClear m s = (u.setPort q ((u.port q).setTx m.pkt.keySlot none)).agentAnswers m x slot ctr agOK [] := by
  refine State.agentOp_answers h ((checkForm_of_good hform).trans ?_)
  simp only [hq, htx, decide_false, Bool.false_eq_true, if_false]
  exact if_neg hfree

theorem keyClear_tx_of_inUse (htx : m.pkt.arg 8 8 ≠ 1) (huse : u.txSlot q = m.pkt.keySlot) : keyClear m s = u.agentAnswers m x slot ctr agSTATE [] := by
  refine State.agentOp_answers h ((checkForm_of_good hform).trans ?_)
  simp only [hq, htx, decide_false, Bool.false_eq_true, if_false]
  exact if_pos huse

end

section
variable (h : s.agentTakes m 0x8D false u x slot ctr) (hform : m.pkt.authForm 10 0 = true) (hq : portOn m.k (m.pkt.arg 7 0) = some q)
include h hform hq

theorem keySwitch_of_allowed (htx : m.pkt.arg 8 8 ≠ 1) (hother : u.txSlot q ≠ m.pkt.keySlot) (hmay : u.mayChange q = true) :
    keySwitch m s = (u.updPort q (fun x => { x with switchTo := some m.pkt.keySlot.toNat })).agentAnswers m x slot ctr agOK [] := by
  rw [Packet.keySlot] at *
  exact State.agentOp_answers h ((checkForm_of_good hform).trans (by simp [hq, htx, hother, hmay]))

theorem keySwitch_of_refused (hno : m.pkt.arg 8 8 = 1 ∨ u.txSlot q = m.pkt.keySlot ∨ u.mayChange q = false) :
    keySwitch m s = u.agentAnswers m x slot ctr agSTATE [] := by
  refine State.agentOp_answers h ((checkForm_of_good hform).trans ?_)
  simp only [hq]
  exact if_pos (by simpa [or_assoc, Packet.keySlot] using hno)

end

end

/-! TELE_CLEAR. -/

/-- A port's telemetry cleared (R396). -/
def State.clearTel (s : State) (q : Port) : State := s.updTel q (fun _ => {})

section
variable {s u : State} {m : MgtIn} {x : Session} {slot ctr : Nat} {q r : Port} {l : List Port}

theorem State.port_setPort_ne (h : q ≠ r) (p : PortSt) : (s.setPort q p).port r = s.port r := Store.get_set_ne _ _ (fun hv => h (Fin.ext hv)) _

theorem State.tel_clearTel_self : ((s.clearTel q).port q).tel = {} := by simp [State.clearTel, State.updTel]

theorem State.port_clearTel_ne (h : q ≠ r) : (s.clearTel q).port r = s.port r := State.port_setPort_ne h _

theorem State.tel_foldl_clearTel (h : q ∈ l ∨ (s.port q).tel = {}) : ((l.foldl State.clearTel s).port q).tel = {} := by
  induction l generalizing s with
  | nil => exact h.resolve_left List.not_mem_nil
  | cons a l ih =>
    refine ih (Decidable.or_iff_not_imp_left.2 fun hl => ?_)
    by_cases ha : a = q
    · subst ha
      exact State.tel_clearTel_self
    · rw [State.port_clearTel_ne ha]
      exact h.resolve_left (by simp [hl, Ne.symm ha])

theorem State.port_foldl_clearTel (h : q ∉ l) : (l.foldl State.clearTel s).port q = s.port q :=
  List.foldlRecOn (motive := fun t => State.port t q = s.port q) l _ rfl fun _ ht a ha => (State.port_clearTel_ne (fun haq : a = q => h (haq ▸ ha))).trans ht

theorem teleClear_of_ports (h : s.agentTakes m 0x8F false u x slot ctr) (hform : m.pkt.authForm 16 0 = true) (hl : telPorts m.k m.pkt = some l) :
    teleClear m s = (l.foldl State.clearTel u).agentAnswers m x slot ctr agOK (l.flatMap u.telRecord) :=
  State.agentOp_answers h ((checkForm_of_good hform).trans (by simp only [hl]; rfl))

end

/-! MC_COMMAND. -/

section
variable {s u : State} {m : MgtIn} {x : Session} {slot ctr : Nat} (h : s.agentTakes m 0x90 true u x slot ctr)
include h

theorem mcCommand_of_pd1 (hk : m.k = 1) : mcCommand m s = (u.bump (.agt 1) C.AGT_UNSUPPORTED 1).agentAnswers m x slot ctr agUNSUPPORTED [] :=
  State.agentOp_answers h ((if_pos (by simp [hk])).trans (by rw [hk]))

variable (hk : m.k = 0)
include hk

theorem mcCommand_of_busy (hbusy : u.mcReset = true ∨ u.boot.phase < phMGMT) : mcCommand m s = u.agentAnswers m x slot ctr agBUSY [] :=
  State.agentOp_answers h ((if_neg (by simp [hk])).trans (if_pos (by simpa using hbusy)))

theorem mcCommand_of_up (hmc : u.mcReset = false) (hph : phMGMT ≤ u.boot.phase) (hlen : 4 + imgNat m.pkt.args 2 2 ≤ m.pkt.args.length) : mcCommand m s =
    (u.mcInner (imgNat m.pkt.args 0 2) ((m.pkt.args.drop 4).take (imgNat m.pkt.args 2 2))).1.agentAnswers m x slot ctr agOK
      (u.mcInner (imgNat m.pkt.args 0 2) ((m.pkt.args.drop 4).take (imgNat m.pkt.args 2 2))).2 :=
  State.agentOp_answers h ((if_neg (by simp [hk])).trans ((if_neg (by simp [hmc, hph])).trans (if_neg (Nat.not_lt.2 hlen))))

end

/-- Settles O24: each clause is the rule above for its operation, and what refuses a form or a port is the first check of each. -/
theorem managersActThroughAgents : Obligations.ManagersActThroughAgents := by
  refine ⟨fun s u m x slot ctr hon h hform hd he hlow hhigh hx hy hp => ?coord,
    fun s u m x slot ctr q hon h hform hv hq => ⟨fun hst => run_of_eq hon (portAttr_of_inactive h hform hv hq hst),
      fun hst => run_of_eq hon (portAttr_of_active h hform hv hq hst)⟩,
    fun s u m x slot ctr d hon h hform hd hn hend => ?tableWrite,
    fun s u m x slot ctr d hon h hform hd => ⟨fun hcrc => run_of_eq hon (tableCommit_of_crc h hform hd hcrc),
      fun hcrc => run_of_eq hon (tableCommit_of_badCrc h hform hd hcrc)⟩,
    fun s u m x slot ctr hon h hform hds => ⟨fun hval => ?epochs, fun hval => run_of_eq hon (epochSet_of_invalid h hform hds hval)⟩,
    fun s u m x slot ctr q key salt hon h hform hq => ⟨run_of_eq hon (keyLoad_of_badBlob h hform hq), fun hkey => ?keyLoad⟩,
    fun s u m x slot ctr q hon h hform hq => ⟨fun hrx hkeyed hidx => run_of_eq hon (keyClear_rx_of_inUse h hform hq hrx hkeyed hidx),
      fun hrx hfree => run_of_eq hon (keyClear_rx_of_free h hform hq hrx hfree), fun htx hfree => run_of_eq hon (keyClear_tx_of_free h hform hq htx hfree),
      fun htx huse => run_of_eq hon (keyClear_tx_of_inUse h hform hq htx huse)⟩,
    fun s u m x slot ctr q hon h hform hq => ⟨fun htx hother hmay => run_of_eq hon (keySwitch_of_allowed h hform hq htx hother hmay),
      fun hno => run_of_eq hon (keySwitch_of_refused h hform hq hno)⟩,
    fun s u m x slot ctr l hon h hform hl => ?teleClear,
    fun s u m x slot ctr hon h => ⟨fun hk hbusy => run_of_eq hon (mcCommand_of_busy h hk hbusy),
      fun hk hmc hph hlen => run_of_eq hon (mcCommand_of_up h hk hmc hph hlen), fun hk => run_of_eq hon (mcCommand_of_pd1 h hk)⟩,
    fun s u m x slot ctr b hon => ?refusals⟩
  case coord =>
    have hco : PackageCoord (m.pkt.arg 31 0) := ⟨hd, he, hlow, hhigh, hx, hy, hp⟩
    refine ⟨fun hfree => ⟨_, run_of_eq hon (coordSet_of_free h hform hco hfree), State.assignBoth_mem, State.assignBoth_tables,
      fun k => State.assigned_assignBoth (Nat.mod_lt _ (by decide)) (imgNat_lt _ _ 4) (imgNat_lt _ _ 4)⟩,
      fun q hq hnew => run_of_eq hon (coordSet_of_active h hform hco hq hnew)⟩
  case tableWrite =>
    have hwrite := tableWrite_of_form h hform hd hn hend
    have hlen := m.pkt.length_entries
    refine ⟨fun hbusy => run_of_eq hon (hwrite.trans (if_pos hbusy)), fun hcur hidle =>
      ⟨_, run_of_eq hon (hwrite.trans (if_neg (by simp [hcur, hidle]))), ?_, by simp, fun i hi => ?_, fun d' e' i hi hother => ?_⟩⟩
    · rw [State.tableValid_eq, State.putEntries_flag, ← State.tableValid_eq, State.tableValid_setFld]
    · rw [State.entry_putEntries_named (by rwa [hlen])]
      simp [Packet.entries]
    · rw [State.entry_putEntries_other (by rwa [hlen]) hi (by rwa [hlen]), State.entry_setFld]
  case epochs =>
    refine ⟨_, run_of_eq hon (epochSet_of_valid h hform hds hval), foldl_keeps (g := State.mem) (fun t d => State.setFld_mem _ _ _ _) _ u,
      foldl_keeps (g := State.tables) (fun t d => State.setFld_tables _ _ _ _) _ u, fun d => ?_⟩
    rw [State.fld_foldl_setFld_rtr (by decide) (by decide)]
    exact congrArg (ite _ · _) (Nat.mod_eq_of_lt (Nat.mod_lt _ (by decide)))
  case keyLoad =>
    refine ⟨fun r n hrx hr hn hnow => run_of_eq hon (keyLoad_rx_of_inUse h hform hq hkey hrx ⟨r, n, hr, hn, hnow⟩),
      fun hrx hold => run_of_eq hon (keyLoad_rx_of_free h hform hq hkey hrx ?_), fun htx hfree => run_of_eq hon (keyLoad_tx_of_free h hform hq hkey htx hfree),
      fun htx huse => run_of_eq hon (keyLoad_tx_of_inUse h hform hq hkey htx huse)⟩
    rintro ⟨r, n, hr, hn, hnow⟩
    exact absurd (hold r n hr hn) (Nat.not_lt.2 hnow)
  case teleClear =>
    exact ⟨_, run_of_eq hon (teleClear_of_ports h hform hl), foldl_keeps (g := State.mem) (fun t q => State.updTel_mem _ _ _) _ u,
      foldl_keeps (g := State.regs) (fun t q => State.updTel_regs _ _ _) _ u, fun q hq => State.tel_foldl_clearTel (Or.inl hq), fun q hq => State.port_foldl_clearTel hq⟩
  case refusals =>
    refine ⟨fun h hform => run_of_eq hon (State.agentOp_answers h (if_pos (by simp [hform]))),
      fun h => ⟨fun hform => run_of_eq hon (State.agentOp_answers h (if_pos ?_)), fun hform hv hq => run_of_eq hon (State.agentOp_answers h ((if_neg ?_).trans ?_))⟩,
      fun h => ⟨fun harg => run_of_eq hon (State.agentOp_answers h (checkForm_of_bad harg)), fun harg hr => run_of_eq hon (tableWrite_of_range h harg hr)⟩,
      fun h => ⟨fun hform => run_of_eq hon (State.agentOp_answers h (checkForm_of_bad hform)), fun hform hd => run_of_eq hon (tableCommit_of_range h hform hd)⟩,
      fun h hform => run_of_eq hon (State.agentOp_answers h (checkForm_of_bad hform)),
      fun h => ⟨fun hform => run_of_eq hon (State.agentOp_answers h (checkForm_of_bad hform)),
        fun hform hq => run_of_eq hon (State.agentOp_answers h ((checkForm_of_good hform).trans (by simp only [hq])))⟩,
      fun h => ⟨fun hform => run_of_eq hon (State.agentOp_answers h (checkForm_of_bad hform)),
        fun hform hq => run_of_eq hon (State.agentOp_answers h ((checkForm_of_good hform).trans (by simp only [hq])))⟩,
      fun h => ⟨fun hform => run_of_eq hon (State.agentOp_answers h (checkForm_of_bad hform)),
        fun hform hq => run_of_eq hon (State.agentOp_answers h ((checkForm_of_good hform).trans (by simp only [hq])))⟩,
      fun h => ⟨fun hform => run_of_eq hon (State.agentOp_answers h (checkForm_of_bad hform)),
        fun hform hl => run_of_eq hon (State.agentOp_answers h ((checkForm_of_good hform).trans (by simp only [hl])))⟩⟩
    · rcases hform with hform | hv
      · simp [hform]
      · simp [shiftRight_nine_eq_zero_iff, hv]
    · simp [hform, shiftRight_nine_eq_zero_iff.2 hv]
    · simp only [hq]

end Sys2Proof.Machine
end

section
/-! Events and unanswered requests (10 R395, R397, R398, R400, 11 R443, 16 R598): what a manager makes of an agent's event, what an agent makes of the answer, samples
of waiting flits, and what follows when an answer does not come. -/

namespace Sys2Proof.Machine

/-! Events at the manager. -/

/-- The manager asks for a die's ports again (R415). -/
def State.relist (s : State) (ser : BitVec 128) (role : Nat) : State := s.addJobs [{ tag := .relist, steps := listSteps ser role }]

/-- The slices stop that a package is a member of and that run in the partition which a fault ended (10 R397); none where it ended none. -/
def State.stopSlicesOf (s : State) (ix : Nat) (part : Option Part) : State :=
  s.stopSlices (fun x => x.members.contains ix && (part.any (fun q => q.val == x.part))) 3 ix

/-- What an event reports of a port, over what the manager knew (R397). -/
def AgentEvent.portRep (e : AgentEvent) (r : PortRep) : PortRep :=
  { r with state := e.state, cause := e.cause, valid := r.valid && e.state != lkFAILED && e.state != lkDETECT && e.state != lkDISABLED }

section
variable {s : State} {ser : BitVec 128} {role : Nat} {e : AgentEvent} {valid fenced : Bool} {part : Option Part}

theorem State.managerEvent_of_deaf (h : s.acts = false ∨ valid = false ∨ s.pairSt = prISOLATED) : s.managerEvent ser role e valid fenced part = s :=
  if_pos (by rcases h with h | h | h <;> simp [h])

variable (hacts : s.acts = true) (hpair : s.pairSt ≠ prISOLATED)
include hacts hpair

theorem State.managerEvent_of_keyDue (hcode : e.code = 4) :
    s.managerEvent ser role e true fenced part = ((s.emit (.eventOk ser role)).rotate ser role e.port).summit :=
  (if_neg (by simp [hacts, hpair])).trans (congrArg State.summit ((if_neg (by simp [hcode])).trans (if_pos hcode)))

theorem State.managerEvent_of_other (h1 : e.code ≠ 1) (h4 : e.code ≠ 4) (h5 : e.code ≠ 5) :
    s.managerEvent ser role e true fenced part = ((s.emit (.eventOk ser role)).relist ser role).summit :=
  (if_neg (by simp [hacts, hpair])).trans (congrArg State.summit ((if_neg h1).trans ((if_neg h4).trans (if_neg h5))))

/-- A FAULT of a package whose dies and memory are whole, or which is not HEALTHY, and that ends no partition stops nothing and records nothing. -/
theorem State.managerEvent_of_fault_whole {p : PkgRec} (hcode : e.code = 5) (hp : (s.emit (.eventOk ser role)).pkgOf ser = some p)
    (hwhole : fenced = false ∧ (ser = s.fuses.serial → (s.emit (.eventOk ser role)).impaired = false) ∨ p.state ≠ 1) :
    s.managerEvent ser role e true fenced none = ((s.emit (.eventOk ser role)).stopSlicesOf p.ix none).summit := by
  have hhurt : ((fenced || (ser == s.fuses.serial && (s.emit (.eventOk ser role)).impaired)) && p.state == 1) = false := by
    rcases hwhole with ⟨hfenced, himp⟩ | hst
    · by_cases hser : ser = s.fuses.serial
      · simp [hfenced, himp hser]
      · simp [hfenced, hser]
    · simp [hst]
  refine (if_neg (by simp [hacts, hpair])).trans (congrArg State.summit ((if_neg (by simp [hcode])).trans ((if_neg (by simp [hcode])).trans ((if_pos hcode).trans ?_))))
  simp only [hp, State.emit_fuses, hhurt, Option.isSome_none, Bool.or_self, Bool.false_eq_true, if_false, State.stopSlicesOf]

/-- A FAULT of a HEALTHY package with a fenced die makes it DEGRADED, after a FAILURE record (01 R44, 11 R438). -/
theorem State.managerEvent_of_fault_fenced {p : PkgRec} (hcode : e.code = 5) (hp : (s.emit (.eventOk ser role)).pkgOf ser = some p) (hst : p.state = 1) :
    s.managerEvent ser role e true true part = ((((s.emit (.eventOk ser role)).commit (.failure ser role 0xFF)).commit
      (.shape [{ p with state := 2 }] [] true)).stopSlicesOf p.ix part).summit := by
  refine (if_neg (by simp [hacts, hpair])).trans (congrArg State.summit ((if_neg (by simp [hcode])).trans ((if_neg (by simp [hcode])).trans ((if_pos hcode).trans ?_))))
  simp only [hp, hst, Bool.true_or, beq_self_eq_true, Bool.and_self, if_true, State.stopSlicesOf]

theorem State.managerEvent_of_port_known {d : FoundDie} {p : PortRec} (hcode : e.code = 1) (hd : (s.emit (.eventOk ser role)).dieOf ser role = some d)
    (hp : (s.emit (.eventOk ser role)).portRec ser role e.port = some p) : s.managerEvent ser role e true fenced part =
      (if e.state = lkHELD ∨ e.state = lkQUARANTINE then ((s.emit (.eventOk ser role)).portReport d (e.portRep p.rep)).relist ser role
        else (s.emit (.eventOk ser role)).portReport d (e.portRep p.rep)).summit := by
  refine (if_neg (by simp [hacts, hpair])).trans (congrArg State.summit ((if_pos hcode).trans ?_))
  simp only [hd, hp, Bool.or_eq_true, decide_eq_true_eq]
  rfl

theorem State.managerEvent_of_port_unknown (hcode : e.code = 1)
    (hnone : (s.emit (.eventOk ser role)).dieOf ser role = none ∨ (s.emit (.eventOk ser role)).portRec ser role e.port = none) :
    s.managerEvent ser role e true fenced part = ((s.emit (.eventOk ser role)).relist ser role).summit := by
  refine (if_neg (by simp [hacts, hpair])).trans (congrArg State.summit ((if_pos hcode).trans ?_))
  split
  case h_1 d p hd hp => simp [hd, hp] at hnone
  case h_2 => rfl

end

/-! The answer at the agent. -/

/-- The slot and the counter in the trailer of an answer (R377). -/
def Packet.answerSlot (p : Packet) : Nat := imgNat (p.payload.drop (p.payload.length - 32)) 8 1
def Packet.answerCtr (p : Packet) : Nat := imgNat (p.payload.drop (p.payload.length - 32)) 0 8

section
variable {s w : State} {m : MgtIn} {slot ctr : Nat} (htakes : s.mgtTakes m = (w, true))
include htakes

theorem eventAnswer_of_ok (hop : m.pkt.op = 0xDF) (hcur : (w.agent m.k).cur = some (slot, ctr)) (hv : m.valid = true) (hslot : m.pkt.answerSlot = slot)
    (hctr : m.pkt.answerCtr % 2 ^ 62 = ctr % 2 ^ 62) (hst : m.pkt.arg 7 0 = agOK) : eventAnswer m s = w.eventAnswered m.k := by
  rw [Packet.answerSlot] at hslot
  rw [Packet.answerCtr] at hctr
  simp only [eventAnswer, htakes, hop, hcur, hv, hslot, hctr, hst, bne_self_eq_false, Bool.not_true, Bool.or_self, Bool.false_eq_true, if_false, beq_self_eq_true,
    Bool.and_self, if_true]

theorem eventAnswer_of_other (hno : m.pkt.op ≠ 0xDF ∨ m.valid = false ∨ m.pkt.arg 7 0 ≠ agOK ∨ (w.agent m.k).cur = none) : eventAnswer m s = w := by
  by_cases hop : m.pkt.op = 0xDF
  · simp only [eventAnswer, htakes, hop, bne_self_eq_false, Bool.not_true, Bool.or_self, Bool.false_eq_true, if_false]
    split
    · rfl
    case h_2 slot ctr hcur =>
      refine if_neg fun hok => ?_
      simp only [Bool.and_eq_true, beq_iff_eq] at hok
      obtain ⟨⟨⟨hv, -⟩, -⟩, hst⟩ := hok
      simp [hop, hv, hst, hcur] at hno
  · simp only [eventAnswer, htakes, bne_iff_ne.2 hop, Bool.or_true, if_true]

end

section
variable {s : State} {k : PDie} {e : AgentEvent} {rest : List AgentEvent}

@[simp] theorem State.agent_setAgent_self (s : State) (k : PDie) (a : AgentSt) : (s.setAgent k a).agent k = a := Store.get_set_self _ _ _ _

/-- An event that was answered leaves its agent, which has then sent nothing of what waits behind it. -/
theorem State.agent_eventAnswered (hq : (s.agent k).evq = e :: rest) (hlost : (s.agent k).lostDue = false) :
    (s.eventAnswered k).agent k = { s.agent k with evq := rest, lostDue := false, sends := 0, cur := none } := by
  simp [State.eventAnswered, hq, hlost]

theorem eventResend_of_sent (hrst : s.inReset (PDie.die k) = false) (hfence : PDie.die k ∉ s.fencedDies) (hsent : (s.agent k).sends ≠ 0) :
    eventResend k s = s.sendEvent k := if_neg (by simp [hrst, hfence, hsent])

theorem eventResend_of_none (h : s.inReset (PDie.die k) = true ∨ PDie.die k ∈ s.fencedDies ∨ (s.agent k).sends = 0) : eventResend k s = s :=
  if_pos (by simpa [or_assoc] using h)

end

/-! Samples. -/

/-- A sample of a port's waiting flits in a bin of its telemetry (R395). -/
def State.sampleBin (s : State) (q : Port) (bin : Nat) : State := s.updTel q (fun t => { t with bins := telInc t.bins bin 1 })

section
variable {s : State} {q r : Port} {bin : Nat}

theorem teleSample_of_up (hup : s.portUp q = true) : teleSample q s =
    s.sampleBin q (min 15 (((List.range 6).map (s.portWaiting q)).sum / 2 ^ s.fld (.agt (Port.pdie q)) F.AGT_CFG_BIN_LOG2)) := if_neg (by simp [hup])

theorem State.bins_sampleBin_self : ((s.sampleBin q bin).port q).tel.bins = telInc (s.port q).tel.bins bin 1 := by simp [State.sampleBin, State.updTel]

theorem State.port_sampleBin_ne (h : r ≠ q) : (s.sampleBin q bin).port r = s.port r := State.port_setPort_ne h.symm _

end

/-! Requests that go unanswered. -/

section
variable {s : State} {xid : Nat} {j : Job}

theorem State.retryJob_of_none (h : s.smtUp = false ∨ ∀ j ∈ s.smt.jobs, j.sent = false ∨ j.xid ≠ xid) : s.retryJob xid = s := by
  unfold State.retryJob
  split
  · rfl
  case h_2 j hj =>
    obtain ⟨hsent, hxid⟩ : j.sent = true ∧ j.xid = xid := by simpa using List.find?_some hj
    rcases h with hdown | hnone
    · exact if_pos (by simp [hdown])
    · simpa [hsent, hxid] using hnone j (List.mem_of_find?_eq_some hj)

variable (hup : s.smtUp = true) (hj : s.smt.jobs.find? (fun j => j.sent && j.xid == xid) = some j)
include hup hj

theorem State.retryJob_of_last (hleft : j.left = 0) : s.retryJob xid = (s.jobFail j).summit := by
  simp only [State.retryJob, hj, hup, Bool.not_true, Bool.false_eq_true, if_false, if_pos hleft]

theorem State.retryJob_of_left (hleft : j.left ≠ 0) (htag : j.tag ≠ .mirror) :
    s.retryJob xid = (s.putJob j { j with left := j.left - 1 }).sendJob { j with left := j.left - 1 } := by
  simp only [State.retryJob, hj, hup, Bool.not_true, Bool.false_eq_true, if_false, if_neg hleft, if_neg htag]

theorem State.retryJob_of_mirror (hleft : j.left ≠ 0) (htag : j.tag = .mirror) :
    s.retryJob xid = ((s.bump .smt C.SMT_MIRROR_RETRY 1).putJob j { j with left := j.left - 1, path := if j.path = .net then .routed else .net }).sendJob
      { j with left := j.left - 1, path := if j.path = .net then .routed else .net } := by
  simp only [State.retryJob, hj, hup, Bool.not_true, Bool.false_eq_true, if_false, if_neg hleft, if_pos htag]

end

section
variable {s : State} {pos : Fin 4} {r : RelayOut} (hmc : s.mcReset = false) (hr : s.relayOut.find? (fun r => r.pos == pos.val) = some r) (hsent : r.sent = true)
include hmc hr hsent

/-- A relay frame that failed counts each of its accesses, and its reads complete with all ones. -/
theorem mgtRequestRetry_relay_of_last (hleft : r.left = 0) : mgtRequestRetry (.relay pos) s =
    (((s.dropRelay pos.val).bump .pci C.PCI_RELAY_FAIL r.accs.length).relayData r ((r.accs.filter (fun a => !a.write)).map (fun _ => allOnes))).pumpRelay := by
  simp only [mgtRequestRetry, hr, hmc, hsent, Bool.not_true, Bool.or_self, Bool.false_eq_true, if_false, if_pos hleft]

theorem mgtRequestRetry_relay_of_left (hleft : r.left ≠ 0) : mgtRequestRetry (.relay pos) s =
    State.emit { s with relayOut := s.relayOut.map (fun (y : RelayOut) => if y.pos == pos.val && y.sent then { y with left := y.left - 1 } else y) }
      (.relay pos.val r.ctr r.accs) := by
  simp only [mgtRequestRetry, hr, hmc, hsent, Bool.not_true, Bool.or_self, Bool.false_eq_true, if_false, if_neg hleft]

end

/-- Settles O25: each clause is the rule above for its event, its answer or its retry. -/
theorem eventsReachTheManager : Obligations.EventsReachTheManager := by
  refine ⟨fun s ser role e fenced part hon hacts hpair => ?manager,
    fun s ser role e valid fenced part hs h => run_same hs (State.managerEvent_of_deaf h),
    fun s w m slot ctr hon htakes hop hcur hv hslot hctr hst => run_of_eq hon (eventAnswer_of_ok htakes hop hcur hv hslot hctr hst),
    fun s w m hon htakes hno => run_of_eq hon (eventAnswer_of_other htakes hno), fun s k e rest hq hlost => ?answered,
    fun s k hon hrst hfence hsent => run_of_eq hon (eventResend_of_sent hrst hfence hsent), fun s k hs h => run_same hs (eventResend_of_none h),
    fun s q hs hup => ?sample,
    fun s xid j hon hup hj => ⟨fun hleft => run_of_eq hon (State.retryJob_of_last hup hj hleft),
      fun hleft htag => run_of_eq hon (State.retryJob_of_left hup hj hleft htag), fun hleft htag => run_of_eq hon (State.retryJob_of_mirror hup hj hleft htag)⟩,
    fun s xid hs h => run_same hs (State.retryJob_of_none h),
    fun s pos r hon hmc hr hsent => ⟨fun hleft => run_of_eq hon (mgtRequestRetry_relay_of_last hmc hr hsent hleft),
      fun hleft => run_of_eq hon (mgtRequestRetry_relay_of_left hmc hr hsent hleft)⟩⟩
  case manager =>
    refine ⟨fun hcode => run_of_eq hon (State.managerEvent_of_keyDue hacts hpair hcode),
      fun h1 h4 h5 => run_of_eq hon (State.managerEvent_of_other hacts hpair h1 h4 h5), fun p hcode hp hwhole hpart => ?_,
      fun p hcode hp hfenced hst => ?_, fun d p hcode hd hp => run_of_eq hon (State.managerEvent_of_port_known hacts hpair hcode hd hp),
      fun hcode hnone => run_of_eq hon (State.managerEvent_of_port_unknown hacts hpair hcode hnone)⟩
    · subst hpart
      exact run_of_eq hon (State.managerEvent_of_fault_whole hacts hpair hcode hp hwhole)
    · subst hfenced
      exact run_of_eq hon (State.managerEvent_of_fault_fenced hacts hpair hcode hp hst)
  case answered =>
    rw [State.agent_eventAnswered hq hlost]
    exact ⟨rfl, rfl, rfl⟩
  case sample =>
    exact ⟨_, run_quiet_of_eq hs (teleSample_of_up hup) (by simpa [State.sampleBin] using State.settled_quiet hs) (by simp [State.sampleBin]), State.bins_sampleBin_self,
      by simp [State.sampleBin], by simp [State.sampleBin], by simp [State.sampleBin], fun r hr => State.port_sampleBin_ne hr⟩

end Sys2Proof.Machine
end

section
/-! The manager's state: what the pieces share that its rows are made of (11 R400, R413, R442, R446). -/

namespace Sys2Proof.Machine

@[simp] theorem State.updSmt_smt (s : State) (f : SummitSt → SummitSt) : (s.updSmt f).smt = f s.smt := rfl

/-- An event leaves every field of the block's own registers. -/
theorem State.fld_fireEvent (s : State) (p : Page) (j : Nat) {f : Field} (hf : 0x100 ≤ f.off) : (s.fireEvent p j).fld p f = s.fld p f := by
  have hhdr : ∀ (t : State) (o l w v : Nat), o < 0x100 → (t.setFld p ⟨o, l, w⟩ v).fld p f = t.fld p f := fun t o l w v ho =>
    State.fld_setFld_off t p ⟨o, l, w⟩ f v (Nat.ne_of_lt (Nat.lt_of_lt_of_le ho hf))
  unfold State.fireEvent
  split
  · rfl
  split
  · split
    · exact (hhdr _ _ _ _ _ (by decide)).trans (hhdr _ _ _ _ _ (by decide))
    · exact (hhdr _ _ _ _ _ (by decide)).trans (hhdr _ _ _ _ _ (by decide))
  · exact hhdr _ _ _ _ _ (by decide)

/-! PAIR and DISC. -/

section
variable (s : State) (v : Nat)

/-- What a change of PAIR writes are registers alone. -/
@[simp] theorem State.setPair_smt : (s.setPair v).smt = s.smt := by unfold State.setPair; split <;> simp
@[simp] theorem State.setPair_mem : (s.setPair v).mem = s.mem := by unfold State.setPair; split <;> simp
@[simp] theorem State.setPair_fuses : (s.setPair v).fuses = s.fuses := by unfold State.setPair; split <;> simp

/-- A change of PAIR leaves every other field of the manager's registers. -/
theorem State.fld_setPair {f : Field} (hoff : 0x100 ≤ f.off) (hf : 7 ≤ f.lsb ∨ f.lsb + f.width ≤ 4 ∨ f.off ≠ 0x104) : (s.setPair v).fld .smt f = s.fld .smt f := by
  unfold State.setPair
  split
  · rfl
  rw [State.fld_fireEvent _ _ _ hoff]
  rcases hf with hf | hf | hf
  · exact State.fld_setFld_other _ _ _ _ _ (.inl hf)
  · exact State.fld_setFld_other _ _ _ _ _ (.inr hf)
  · exact State.fld_setFld_off _ _ _ _ _ (Ne.symm hf)

@[simp] theorem State.setPair_disc : (s.setPair v).disc = s.disc := State.fld_setPair s v (by decide) (by decide)

theorem State.pairSt_setPair (hv : v < 8) : (s.setPair v).pairSt = v := by
  unfold State.setPair
  split
  · assumption
  · rw [State.pairSt, State.fld_fireEvent _ _ _ (by decide), State.fld_setFld _ _ _ _ (by decide)]
    exact Nat.mod_eq_of_lt hv

theorem State.disc_setDisc (hv : v < 16) : (s.setDisc v).disc = v := (State.fld_setFld _ _ _ _ (by decide)).trans (Nat.mod_eq_of_lt hv)

@[simp] theorem State.setDisc_pairSt : (s.setDisc v).pairSt = s.pairSt := State.fld_setFld_other _ _ _ _ _ (.inl (by decide))

end

end Sys2Proof.Machine
end

section
/-! The pair session (11 R443, R444, R446, R447): what each operation at the Summit endpoint makes of its receiver, by its form and the receiver's state. -/

namespace Sys2Proof.Machine

theorem State.endpointOp_answers {s u v : State} {m : MgtIn} {op : BitVec 8} {f : State → Session → State × Nat × List Byte} {x : Session} {ctr st : Nat}
    {bs : List Byte} (h : s.endpointTakes m op u x ctr) (hf : f u x = (v, st, bs)) : s.endpointOp m op f = v.endpointAnswers m x ctr st bs := by
  rw [State.endpointOp_runs h, hf]

theorem State.disc_smtStepDown (s : State) : (State.smtStepDown s).disc = sdSTANDBY := by
  simp [State.smtStepDown, State.addJobs, State.disc_setDisc _ sdSTANDBY (by decide)]

theorem State.pairSt_smtStepDown (s : State) : (State.smtStepDown s).pairSt = prSYNCING := by
  simp [State.smtStepDown, State.addJobs, State.pairSt_setPair _ prSYNCING (by decide)]

theorem State.smtStepDown_jobs (s : State) : (State.smtStepDown s).smt.jobs = [oneJob .sync .peer (.syncRead 0)] := by
  simp [State.smtStepDown, State.addJobs]

theorem State.smtStepDown_claim (s : State) : (State.smtStepDown s).smt.claim = none := by
  simp [State.smtStepDown, State.addJobs]

theorem State.smtStepDown_mem (s : State) : (State.smtStepDown s).mem = s.mem := by
  simp [State.smtStepDown, State.addJobs, State.setDisc]

/-! PAIR_OPEN. -/

section
variable {s u : State} {m : MgtIn} (htakes : s.mgtTakes m = (u, true)) (hop : m.pkt.op = 0xA0) (hk : m.k = 0) (hup : u.smtUp = true)
include htakes hop hk hup

theorem pairOpen_of_badForm (hform : m.pkt.cls = false ∨ m.pkt.payload.length < 112 ∨ m.pkt.argsUpTo 0 = false) :
    pairOpen m s = u.endpointReplies m agFORMAT [] := by
  simp only [pairOpen, htakes, hop, hk, bne_self_eq_false, Bool.not_true, Bool.or_self, Bool.false_eq_true, if_false, State.pairOpenDo, hup]
  exact if_pos (by simpa [or_assoc] using hform)

variable (hcls : m.pkt.cls = true) (hlen : 112 ≤ m.pkt.payload.length) (hargs : m.pkt.argsUpTo 0 = true)
include hcls hlen hargs

/-- A PAIR_OPEN of the right form, up to who signed it. -/
theorem pairOpen_of_form : pairOpen m s = if !m.valid || m.pkt.signer != u.partnerSerial then u.endpointReplies m agAUTH []
    else State.endpointReplies { (u.openAnswer m.pkt.ephemeral m.pkt.signer).1 with pairSess := some (u.openAnswer m.pkt.ephemeral m.pkt.signer).2.1 } m agOK
      (u.openAnswer m.pkt.ephemeral m.pkt.signer).2.2 := by
  simp only [pairOpen, htakes, hop, hk, bne_self_eq_false, Bool.not_true, Bool.or_self, Bool.false_eq_true, if_false, State.pairOpenDo, hup]
  exact if_neg (by simp [hcls, hlen, hargs])

theorem pairOpen_of_partner {v : State} {x : Session} {d : List Byte} (hv : m.valid = true) (hser : m.pkt.signer = u.partnerSerial)
    (hans : u.openAnswer m.pkt.ephemeral m.pkt.signer = (v, x, d)) : pairOpen m s = State.endpointReplies { v with pairSess := some x } m agOK d := by
  rw [pairOpen_of_form htakes hop hk hup hcls hlen hargs, if_neg (by simp [hv, hser]), hans]

theorem pairOpen_of_other (hbad : m.valid = false ∨ m.pkt.signer ≠ u.partnerSerial) : pairOpen m s = u.endpointReplies m agAUTH [] := by
  rw [pairOpen_of_form htakes hop hk hup hcls hlen hargs, if_pos (by simpa using hbad)]

end

/-! HEARTBEAT. -/

/-- A manager that acts learns a higher term (R446). -/
def State.learnTerm (s : State) (term : Nat) : State :=
  if s.acts && s.myTerm.toNat < term then State.smtStepDown (s.setFld .smt F.SMT_TERM_TERM term) else s

/-- A standby in PLAN that hears its partner reads the partner's image (R446). -/
def State.meetPartner (s : State) : State :=
  if s.disc = sdPLAN && s.pairSt = prNONE && s.summitRole = 2 then (s.setPair prSYNCING).addJobs [oneJob .sync .peer (.syncRead 0)] else s

/-- A heartbeat counts on the path it came by unless its sender says ISOLATED (R447). -/
def State.heard (s : State) (m : MgtIn) : State :=
  if imgNat m.pkt.args 4 1 % 2 = 1 then s else s.updSmt (fun x => if m.net then { x with mgnSeen := true } else { x with fabSeen := true })

section
variable {s : State} {term : Nat}

theorem State.learnTerm_of_higher (hacts : s.acts = true) (hterm : s.myTerm.toNat < term) :
    s.learnTerm term = State.smtStepDown (s.setFld .smt F.SMT_TERM_TERM term) := if_pos (by simp [hacts, hterm])

theorem State.learnTerm_of_known (h : s.acts = false ∨ term ≤ s.myTerm.toNat) : s.learnTerm term = s :=
  if_neg (by rcases h with h | h <;> simp [h])

theorem State.meetPartner_of_plan (hdisc : s.disc = sdPLAN) (hpair : s.pairSt = prNONE) (hrole : s.summitRole = 2) :
    s.meetPartner = (s.setPair prSYNCING).addJobs [oneJob .sync .peer (.syncRead 0)] := if_pos (by simp [hdisc, hpair, hrole])

theorem State.meetPartner_of_other (h : s.disc ≠ sdPLAN ∨ s.pairSt ≠ prNONE ∨ s.summitRole ≠ 2) : s.meetPartner = s :=
  if_neg (by rcases h with h | h | h <;> simp [h])

theorem State.acts_of_plan (h : s.disc = sdPLAN) : s.acts = false := by simp [State.acts, h]

end

section
variable {s u : State} {m : MgtIn} {x : Session} {ctr : Nat} (h : s.endpointTakes m 0xA1 u x ctr)
include h

theorem heartbeat_of_badForm (hform : m.pkt.authForm 0 24 = false ∨ 4 ≤ imgNat m.pkt.args 4 1 ∨ imgZero m.pkt.args 5 3 = false) :
    heartbeat m s = (u.endpointAnswers m x ctr agFORMAT []).summit :=
  congrArg State.summit (State.endpointOp_answers h (if_pos (by simpa [or_assoc] using hform)))

variable (hform : m.pkt.authForm 0 24 = true) (hflags : imgNat m.pkt.args 4 1 < 4) (hzero : imgZero m.pkt.args 5 3 = true)
include hform hflags hzero

/-- A heartbeat of the right form: its term, the standby in PLAN, its path, and the answer. -/
theorem heartbeat_of_form {v : State} (hv : ((u.learnTerm (imgNat m.pkt.args 0 4)).meetPartner.heard m) = v) :
    heartbeat m s = (v.endpointAnswers m x ctr agOK v.beatBody).summit := by
  subst hv
  refine congrArg State.summit (State.endpointOp_answers h ((if_neg (by simp [hform, hflags, hzero])).trans ?_))
  simp only [beq_iff_eq]
  rfl

end

/-! MIRROR. -/

/-- A standby applies a record whose SEQ is the next and whose term is not lower (R443). -/
def State.mirrorRec (t : State) (r : MirRec) : State := if r.seq = t.smt.lastSeq + 1 ∧ t.myTerm.toNat ≤ r.term.toNat then t.applyRec r else t

section
variable {s u : State} {m : MgtIn} {recs : List MirRec} {x : Session} {ctr : Nat} (h : s.endpointTakes m 0xA2 u x ctr)
include h

theorem mirror_of_badForm (hform : m.pkt.argsUpTo 0 = false) : mirror m recs s = (u.endpointAnswers m x ctr agFORMAT []).summit :=
  congrArg State.summit (State.endpointOp_answers h (if_pos (by simp [hform])))

variable (hform : m.pkt.argsUpTo 0 = true)
include hform

theorem mirror_of_notStandby (hpair : u.pairSt ≠ prSTANDBY) : mirror m recs s = (u.endpointAnswers m x ctr agSTATE []).summit :=
  congrArg State.summit (State.endpointOp_answers h ((if_neg (by simp [hform])).trans (if_pos (by simpa using hpair))))

theorem mirror_of_standby {v : State} (hpair : u.pairSt = prSTANDBY) (hv : recs.foldl State.mirrorRec u = v) : mirror m recs s = (v.endpointAnswers m x ctr agOK
    (leBytes (if recs.any (fun r => decide (v.smt.lastSeq < r.seq)) then v.smt.lastSeq + 1 else v.smt.lastSeq) 8)).summit := by
  subst hv
  refine congrArg State.summit (State.endpointOp_answers h ((if_neg (by simp [hform])).trans ((if_neg (by simp [hpair])).trans ?_)))
  simp only [Bool.and_eq_true, decide_eq_true_eq]
  rfl

end

section
variable (t : State) (r : MirRec)

theorem State.applyRec_lastSeq : (t.applyRec r).smt.lastSeq = r.seq := by simp [State.applyRec, SummitSt.lastSeq]

theorem State.applyRec_mem : (t.applyRec r).mem = t.mem := by simp [State.applyRec]

theorem State.applyRec_ports : (t.applyRec r).ports = t.ports := by simp [State.applyRec]

theorem State.term_applyRec : (t.applyRec r).fld .smt F.SMT_TERM_TERM = r.term.toNat :=
  (State.fld_setFld _ _ _ _ (by decide)).trans (Nat.mod_eq_of_lt r.term.isLt)

end

/-! SYNC_READ and TERM_NOTICE. -/

section
variable {s u : State} {m : MgtIn} {x : Session} {ctr : Nat} (h : s.endpointTakes m 0xA3 u x ctr)
include h

theorem syncRead_of_badForm (hform : m.pkt.authForm 0 8 = false) : syncRead m s = u.endpointAnswers m x ctr agFORMAT [] :=
  State.endpointOp_answers h (if_pos (by simp [hform]))

variable (hform : m.pkt.authForm 0 8 = true)
include hform

theorem syncRead_of_other (hacts : u.acts = false) (hdisc : u.disc ≠ sdPLAN) : syncRead m s = u.endpointAnswers m x ctr agSTATE [] :=
  State.endpointOp_answers h ((if_neg (by simp [hform])).trans (if_pos (by simp [hacts, hdisc])))

theorem syncRead_of_primary (hst : u.acts = true ∨ u.disc = sdPLAN) :
    syncRead m s = ((u.freeBytes 1984).2.freeBytes 8).2.endpointAnswers m x ctr agOK ((u.freeBytes 1984).1 ++ ((u.freeBytes 1984).2.freeBytes 8).1) := by
  refine State.endpointOp_answers h ((if_neg (by simp [hform])).trans ((if_neg (by rcases hst with hst | hst <;> simp [hst])).trans ?_))
  generalize u.freeBytes 1984 = image
  obtain ⟨b, v⟩ := image
  rfl

end

section
variable {s u : State} {m : MgtIn} {x : Session} {ctr : Nat} (h : s.endpointTakes m 0xA4 u x ctr)
include h

theorem termNotice_of_badForm (hform : m.pkt.authForm 0 20 = false) : termNotice m s = (u.endpointAnswers m x ctr agFORMAT []).summit :=
  congrArg State.summit (State.endpointOp_answers h (if_pos (by simp [hform])))

variable (hform : m.pkt.authForm 0 20 = true)
include hform

theorem termNotice_of_higher (hterm : u.myTerm.toNat < imgNat m.pkt.args 0 4) : termNotice m s =
    ((State.smtStepDown (u.setFld .smt F.SMT_TERM_TERM (imgNat m.pkt.args 0 4))).endpointAnswers m x ctr agOK []).summit :=
  congrArg State.summit (State.endpointOp_answers h ((if_neg (by simp [hform])).trans (if_pos hterm)))

theorem termNotice_of_known (hterm : imgNat m.pkt.args 0 4 ≤ u.myTerm.toNat) : termNotice m s = (u.endpointAnswers m x ctr agOK []).summit :=
  congrArg State.summit (State.endpointOp_answers h ((if_neg (by simp [hform])).trans (if_neg (by omega))))

end

/-- Settles O26: each operation's clause is the rule above for its form, its sender or its receiver's state. -/
theorem pairSessionCarriesThePair : Obligations.PairSessionCarriesThePair := by
  refine ⟨fun s u m hon htakes hop hk hup => ⟨fun hform => run_of_eq hon (pairOpen_of_badForm htakes hop hk hup hform), fun hcls hlen hargs => ⟨?partner, ?other⟩⟩,
    fun s u m x ctr hon h => ⟨fun hform => run_of_eq hon (heartbeat_of_badForm h hform), fun hform hflags hzero => ⟨?known, ?plan, ?higher⟩⟩,
    fun s u m recs x ctr hon h => ⟨fun hform => run_of_eq hon (mirror_of_badForm h hform), fun hform hpair => run_of_eq hon (mirror_of_notStandby h hform hpair),
      fun hform hpair => run_of_eq hon (mirror_of_standby h hform hpair rfl)⟩,
    fun t r => ⟨t.applyRec_lastSeq r, t.applyRec_mem r, t.applyRec_ports r, t.term_applyRec r⟩,
    fun s u m x ctr hon h => ⟨fun hform => run_of_eq hon (syncRead_of_badForm h hform), fun hform hst => ?image,
      fun hform hacts hdisc => run_of_eq hon (syncRead_of_other h hform hacts hdisc)⟩,
    fun s u m x ctr hon h => ⟨fun hform => run_of_eq hon (termNotice_of_badForm h hform), fun hform => ⟨fun hterm => run_of_eq hon (termNotice_of_higher h hform hterm),
      fun hterm => run_of_eq hon (termNotice_of_known h hform hterm)⟩⟩,
    fun s => ⟨s.disc_smtStepDown, s.pairSt_smtStepDown, s.smtStepDown_jobs, s.smtStepDown_claim, s.smtStepDown_mem⟩⟩
  case partner => exact fun hv hser v x d hans => run_of_eq hon (pairOpen_of_partner htakes hop hk hup hcls hlen hargs hv hser hans)
  case other => exact fun hbad => run_of_eq hon (pairOpen_of_other htakes hop hk hup hcls hlen hargs hbad)
  case known =>
    intro hterm hother
    refine run_of_eq hon (heartbeat_of_form h hform hflags hzero ?_)
    rw [State.learnTerm_of_known hterm, State.meetPartner_of_other hother]
    rfl
  case plan =>
    intro hdisc hpair hrole
    refine run_of_eq hon (heartbeat_of_form h hform hflags hzero ?_)
    rw [State.learnTerm_of_known (.inl (State.acts_of_plan hdisc)), State.meetPartner_of_plan hdisc hpair hrole]
    rfl
  case higher =>
    intro hacts hterm
    refine run_of_eq hon (heartbeat_of_form h hform hflags hzero ?_)
    rw [State.learnTerm_of_higher hacts hterm, State.meetPartner_of_other (.inl (by rw [State.disc_smtStepDown]; decide))]
    rfl
  case image =>
    obtain ⟨hlen1, hfree1⟩ := u.freeBytes_frame 1984
    obtain ⟨hlen2, hfree2⟩ := (u.freeBytes 1984).2.freeBytes_frame 8
    refine ⟨_, _, by simp [hlen1, hlen2], run_of_eq hon (syncRead_of_primary h hform hst), ?_, ?_, ?_⟩ <;> rw [hfree2, hfree1]

end Sys2Proof.Machine
end

section
/-! Heartbeats of a period (11 R447): the misses of each path, and what a standby and a primary conclude from them. -/

namespace Sys2Proof.Machine

theorem State.fld_bump_ne {s : State} {p : Page} {off n : Nat} {f : Field} (hlo : f.off ≠ off) (hhi : f.off ≠ off + 4) : (s.bump p off n).fld p f = s.fld p f := by
  unfold State.fld
  rw [State.rd_bump_ne _ _ _ _ _ (by omega) (by omega)]

/-! Misses. -/

section
variable {s : State} {seen : Bool} {f g : Field}

theorem State.fld_missBeat_self (hw : f.lsb + f.width ≤ 32) (hlo : f.off ≠ C.SMT_HB_MISS) (hhi : f.off ≠ C.SMT_HB_MISS + 4) :
    (s.missBeat seen f).fld .smt f = if seen then 0 else satAdd (2 ^ f.width - 1) (s.fld .smt f) 1 := by
  have hpos : 0 < 2 ^ f.width := Nat.two_pow_pos _
  unfold State.missBeat
  split
  · rw [State.fld_setFld _ _ _ _ hw, Nat.zero_mod]
  · rw [State.fld_bump_ne hlo hhi, State.incFld, State.fld_setFld _ _ _ _ hw, Nat.mod_eq_of_lt (by rw [satAdd_eq]; omega)]

/-- A field that the count does not overlap is as before, the miss counter's words apart. -/
theorem State.fld_missBeat_other (hfg : f.lsb + f.width ≤ g.lsb ∨ g.lsb + g.width ≤ f.lsb) (hlo : g.off ≠ C.SMT_HB_MISS) (hhi : g.off ≠ C.SMT_HB_MISS + 4) :
    (s.missBeat seen f).fld .smt g = s.fld .smt g := by
  unfold State.missBeat
  split
  · exact State.fld_setFld_other _ _ _ _ _ hfg
  · rw [State.fld_bump_ne hlo hhi, State.incFld, State.fld_setFld_other _ _ _ _ _ hfg]

theorem State.fld_missBeat_off (hfg : f.off ≠ g.off) (hlo : g.off ≠ C.SMT_HB_MISS) (hhi : g.off ≠ C.SMT_HB_MISS + 4) :
    (s.missBeat seen f).fld .smt g = s.fld .smt g := by
  unfold State.missBeat
  split
  · exact State.fld_setFld_off _ _ _ _ _ hfg
  · rw [State.fld_bump_ne hlo hhi, State.incFld, State.fld_setFld_off _ _ _ _ _ hfg]

@[simp] theorem State.missBeat_smt : (s.missBeat seen f).smt = s.smt := by unfold State.missBeat; split <;> simp
@[simp] theorem State.missBeat_mem : (s.missBeat seen f).mem = s.mem := by unfold State.missBeat; split <;> simp

end

section
variable (s : State)

theorem State.fld_countBeats_fab :
    s.countBeats.fld .smt F.SMT_HB_MISS_FAB = if s.smt.fabSeen then 0 else satAdd 15 (s.fld .smt F.SMT_HB_MISS_FAB) 1 := by
  rw [State.countBeats, State.fld_missBeat_other (.inr (by decide)) (by decide) (by decide), State.fld_missBeat_self (by decide) (by decide) (by decide)]
  rfl

theorem State.fld_countBeats_mgn :
    s.countBeats.fld .smt F.SMT_HB_MISS_MGN = if s.smt.mgnSeen then 0 else satAdd 15 (s.fld .smt F.SMT_HB_MISS_MGN) 1 := by
  rw [State.countBeats, State.fld_missBeat_self (by decide) (by decide) (by decide), State.fld_missBeat_other (.inl (by decide)) (by decide) (by decide)]
  rfl

@[simp] theorem State.countBeats_smt : s.countBeats.smt = s.smt := by simp [State.countBeats]
@[simp] theorem State.countBeats_mem : s.countBeats.mem = s.mem := by simp [State.countBeats]

@[simp] theorem State.countBeats_pairSt : s.countBeats.pairSt = s.pairSt := by
  rw [State.countBeats, State.pairSt, State.fld_missBeat_off (by decide) (by decide) (by decide), State.fld_missBeat_off (by decide) (by decide) (by decide), State.pairSt]

@[simp] theorem State.clearBeats_pairSt : s.clearBeats.pairSt = s.pairSt := by simp [State.clearBeats]

@[simp] theorem State.clearBeats_isoRetry : s.clearBeats.smt.isoRetry = s.smt.isoRetry := rfl

end

/-! The period of a standby. -/

section
variable {s : State}

theorem State.standbyBeat_of_heard (hmiss : s.missedBoth 3 = false) : s.standbyBeat = s.updSmt (fun x => { x with isoRetry := 0 }) := if_pos (by simp [hmiss])

variable (hmiss : s.missedBoth 3 = true)
include hmiss

theorem State.standbyBeat_of_syncing (hpair : s.pairSt = prSYNCING) : s.standbyBeat = s.startExplore.summit := (if_neg (by simp [hmiss])).trans (if_pos hpair)

theorem State.standbyBeat_of_claimDue (hpair : s.pairSt ≠ prSYNCING) (hdue : s.smt.isoRetry % 10 = 0) : s.standbyBeat = s.claimNow.summit :=
  (if_neg (by simp [hmiss])).trans ((if_neg hpair).trans (if_pos hdue))

theorem State.standbyBeat_of_waiting (hpair : s.pairSt ≠ prSYNCING) (hdue : s.smt.isoRetry % 10 ≠ 0) : s.standbyBeat = s.waitClaim :=
  (if_neg (by simp [hmiss])).trans ((if_neg hpair).trans (if_neg hdue))

end

/-! What a primary concludes. -/

section
variable {s : State}

theorem State.judgeBeats_of_missed (hpair : s.pairSt = prPAIRED) (hmiss : s.missedBoth 2 = true) : s.judgeBeats = (s.setPair prISOLATED).claimNow :=
  if_pos (by simp [hpair, hmiss])

theorem State.judgeBeats_of_heard (hpair : s.pairSt = prPAIRED) (hmiss : s.missedBoth 2 = false) : s.judgeBeats = s :=
  (if_neg (by simp [hmiss])).trans (if_neg (by rw [hpair]; decide))

theorem State.judgeBeats_of_claimDue (hpair : s.pairSt = prISOLATED) (hclaim : s.smt.claim = none) (hdue : s.smt.isoRetry % 10 = 0) : s.judgeBeats = s.claimNow :=
  (if_neg (by simp [hpair, prISOLATED, prPAIRED])).trans ((if_pos hpair).trans (if_pos (by simp [hclaim, hdue])))

theorem State.judgeBeats_of_waiting (hpair : s.pairSt = prISOLATED) (h : s.smt.claim ≠ none ∨ s.smt.isoRetry % 10 ≠ 0) : s.judgeBeats = s.waitClaim :=
  (if_neg (by simp [hpair, prISOLATED, prPAIRED])).trans ((if_pos hpair).trans (if_neg (by rcases h with h | h <;> simp [h])))

theorem State.judgeBeats_of_unpaired (hpaired : s.pairSt ≠ prPAIRED) (hisolated : s.pairSt ≠ prISOLATED) : s.judgeBeats = s :=
  (if_neg (by simp [hpaired])).trans (if_neg hisolated)

end

/-! The period. -/

section
variable {s : State}

theorem heartbeatPeriod_of_idle (h : s.smtUp = false ∨ s.disc = sdOFF ∨ (s.disc = sdPLAN ∧ s.summitRole = 2)) : heartbeatPeriod s = s := by
  unfold heartbeatPeriod
  split
  · rfl
  case isFalse hon =>
    obtain ⟨hup, hoff⟩ : s.smtUp = true ∧ s.disc ≠ sdOFF := by simpa using hon
    obtain ⟨hdisc, hrole⟩ : s.disc = sdPLAN ∧ s.summitRole = 2 := by simpa [hup, hoff] using h
    rw [if_neg (by rw [hdisc]; decide), if_pos (by simp [hdisc, hrole])]

variable (hup : s.smtUp = true)
include hup

theorem heartbeatPeriod_of_standby (hdisc : s.disc = sdSTANDBY) : heartbeatPeriod s = s.countBeats.clearBeats.standbyBeat :=
  (if_neg (by simp [hup, hdisc, sdSTANDBY, sdOFF])).trans (if_pos hdisc)

variable (hoff : s.disc ≠ sdOFF) (hstandby : s.disc ≠ sdSTANDBY) (hplan : s.disc ≠ sdPLAN ∨ s.summitRole ≠ 2)
include hoff hstandby hplan

/-- A primary counts misses while it has a partner. -/
theorem heartbeatPeriod_of_primary (hpair : s.pairSt = prPAIRED ∨ s.pairSt = prISOLATED) :
    heartbeatPeriod s = s.countBeats.clearBeats.judgeBeats.sendBeats.summit := by
  rw [heartbeatPeriod, if_neg (by simp [hup, hoff]), if_neg hstandby, if_neg (by rcases hplan with h | h <;> simp [h]), if_pos (by simpa using hpair)]

theorem heartbeatPeriod_of_unpaired (hpaired : s.pairSt ≠ prPAIRED) (hisolated : s.pairSt ≠ prISOLATED) :
    heartbeatPeriod s = s.clearBeats.sendBeats.summit := by
  rw [heartbeatPeriod, if_neg (by simp [hup, hoff]), if_neg hstandby, if_neg (by rcases hplan with h | h <;> simp [h]), if_neg (by simp [hpaired, hisolated]),
    State.judgeBeats_of_unpaired (by simpa using hpaired) (by simpa using hisolated)]

end

/-! A claim. -/

section
variable (s : State)

theorem State.startClaim_claim : s.startClaim.smt.claim = some { term := s.myTerm + 1 } := rfl

/-- The requests of a claim go to the packages that were claimed from before it (R445). -/
theorem State.startClaim_jobs : s.startClaim.smt.jobs = s.smt.jobs.filter (fun j => j.tag != .claim) ++
    s.claimSet.map (fun ser => oneJob .claim (.ag ser 0) (.mc 0x0101 (leBytes (s.myTerm + 1).toNat 4 ++ leBytes s.fuses.serial.toNat 16))) := rfl

theorem State.startClaim_regs : s.startClaim.regs = s.regs := by simp [State.startClaim, State.addJobs]
theorem State.startClaim_mem : s.startClaim.mem = s.mem := by simp [State.startClaim, State.addJobs]

end

/-- Settles O27: each clause is the rule above for what the period finds. -/
theorem missedHeartbeatsDecide : Obligations.MissedHeartbeatsDecide := by
  refine ⟨fun s hon hup hdisc => ?standby, fun s hon hup hoff hstandby hplan => ?primary, fun s hs h => run_same hs (heartbeatPeriod_of_idle h),
    fun s => ⟨s.fld_countBeats_fab, s.fld_countBeats_mgn, s.countBeats_mem, s.countBeats_smt⟩,
    fun s => ⟨s.startClaim_claim, s.startClaim_regs, s.startClaim_mem, s.startClaim_jobs⟩, fun s => rfl⟩
  case standby =>
    have hrun := heartbeatPeriod_of_standby hup hdisc
    exact ⟨fun hmiss => run_of_eq hon (hrun.trans (State.standbyBeat_of_heard hmiss)),
      fun hmiss hpair => run_of_eq hon (hrun.trans (State.standbyBeat_of_syncing hmiss hpair)),
      fun hmiss hpair hdue => run_of_eq hon (hrun.trans (State.standbyBeat_of_claimDue hmiss hpair (by simpa using hdue))),
      fun hmiss hpair hdue => run_of_eq hon (hrun.trans (State.standbyBeat_of_waiting hmiss hpair (by simpa using hdue)))⟩
  case primary =>
    have hrun := heartbeatPeriod_of_primary hup hoff hstandby hplan
    have hcount : s.countBeats.clearBeats.pairSt = s.pairSt := by simp
    refine ⟨fun hpair hmiss => run_of_eq hon ?_, fun hpair hmiss => run_of_eq hon ?_, fun hpair => ⟨fun ⟨hclaim, hdue⟩ => run_of_eq hon ?_, fun h => run_of_eq hon ?_⟩,
      fun hpaired hisolated => run_of_eq hon (heartbeatPeriod_of_unpaired hup hoff hstandby hplan hpaired hisolated)⟩
    · rw [hrun (.inl hpair), State.judgeBeats_of_missed (hcount.trans hpair) hmiss]
    · rw [hrun (.inl hpair), State.judgeBeats_of_heard (hcount.trans hpair) hmiss]
    · rw [hrun (.inr hpair), State.judgeBeats_of_claimDue (hcount.trans hpair) hclaim (by simpa using hdue)]
    · rw [hrun (.inr hpair), State.judgeBeats_of_waiting (hcount.trans hpair) (by simpa using h)]

end Sys2Proof.Machine
end

section
/-! The stages of a manager (11 R413–R415, R436, R445): what its rows of OFF, PLAN, EXPLORE and CLAIM make of it, and a package's answer to a claim. -/

namespace Sys2Proof.Machine

/-! SMT_CTRL.EN. -/

section
variable {s : State}

theorem State.smtWake_of_ready (hup : s.smtUp = true) (hdisc : s.disc = sdOFF) (hplan : s.plan ≠ []) (hready : s.flag (.mem 0) F.BLK_STATUS_READY = true)
    (hdie : s.dieDown 0 = false) : s.smtWake = ((s.setDisc sdPLAN).addJobs [oneJob .pair .peer .pairOpen]).summit :=
  if_pos (by simp [hup, hdisc, hplan, hready, hdie])

theorem State.smtWake_of_notReady (h : s.smtUp = false ∨ s.disc ≠ sdOFF ∨ s.plan = [] ∨ s.flag (.mem 0) F.BLK_STATUS_READY = false ∨ s.dieDown 0 = true) :
    s.smtWake = s := if_neg (by rcases h with h | h | h | h | h <;> simp [h])

/-- A role that is not enabled is OFF, with no pair and no request (R413). -/
def State.smtStop (s : State) : State := ((s.setDisc sdOFF).setPair prNONE).updSmt (fun x => { x with jobs := [], claim := none })

theorem smtEn_of_on {v : Word} (hv : v.getLsbD 2 = true) : smtEn v s = (s.setFld .smt F.SMT_CTRL_EN (bits v.toNat 2 2)).smtWake := if_pos hv

theorem smtEn_of_off {v : Word} (hv : v.getLsbD 2 = false) : smtEn v s = (s.setFld .smt F.SMT_CTRL_EN (bits v.toNat 2 2)).smtStop :=
  if_neg (by rw [hv]; decide)

theorem State.smtStop_disc : s.smtStop.disc = sdOFF := by
  simp [State.smtStop, State.disc_setDisc _ sdOFF (by decide)]

theorem State.smtStop_pairSt : s.smtStop.pairSt = prNONE := by
  simp [State.smtStop, State.pairSt_setPair _ prNONE (by decide)]

theorem State.smtStop_mem : s.smtStop.mem = s.mem := by simp [State.smtStop, State.setDisc]

theorem State.smtStop_enabled : s.smtStop.fld .smt F.SMT_CTRL_EN = s.fld .smt F.SMT_CTRL_EN := by
  rw [State.smtStop, State.updSmt_fld, State.fld_setPair _ _ (by decide) (by decide), State.setDisc, State.fld_setFld_off _ _ _ _ _ (by decide)]

end

theorem bits_of_getLsbD {v : Word} {i : Nat} (hv : v.getLsbD i = false) : bits v.toNat i i = 0 := by
  have hbit : v.toNat.testBit i = false := hv
  rw [Nat.testBit_eq_decide_div_mod_eq] at hbit
  rw [bits, Nat.add_sub_cancel_left, Nat.pow_one, Nat.shiftRight_eq_div_pow]
  simpa using hbit

/-! PLAN and EXPLORE. -/

section
variable {s : State}

theorem pairWaitExpire_of_plan (hup : s.smtUp = true) (hdisc : s.disc = sdPLAN) (hpair : s.pairSt ≠ prSYNCING) : pairWaitExpire s = s.startExplore.summit :=
  if_pos (by simp [hup, hdisc, hpair])

theorem pairWaitExpire_of_other (h : s.smtUp = false ∨ s.disc ≠ sdPLAN ∨ s.pairSt = prSYNCING) : pairWaitExpire s = s :=
  if_neg (by rcases h with h | h | h <;> simp [h])

/-- A die that has no request of EXPLORE outstanding is asked again (R415). -/
def State.askDie (t : State) (d : FoundDie) : State :=
  if t.smt.jobs.any (fun j => j.tag == .explore && (j.steps.head?).any (fun x => x.1 == .ag d.serial d.role)) then t
  else t.addJobs [{ tag := .explore, steps := (if d.known then [] else [(.ag d.serial d.role, .identify)]) ++ listSteps d.serial d.role }]

/-- A failed package is asked for its identity while no other is (R441). -/
def State.askFailed (t : State) (p : PkgRec) : State :=
  if t.smt.jobs.any (fun j => j.tag == .probe) then t else t.addJobs [oneJob .probe (.ag p.serial 0) .identify]

theorem State.serving_disc (h : s.serving = true) : s.disc = sdSTEADY ∨ s.disc = sdRESHAPE := by
  simp only [State.serving, Bool.and_eq_true, Bool.or_eq_true, beq_iff_eq] at h
  exact h.2

theorem State.serving_acts (h : s.serving = true) : s.acts = true := by
  simp only [State.serving, Bool.and_eq_true] at h
  exact h.1

theorem discoveryPoll_of_idle (h : s.acts = false ∨ (s.disc ≠ sdEXPLORE ∧ (s.disc ≠ sdCLAIM ∨ s.smt.claim ≠ none) ∧ s.serving = false)) : discoveryPoll s = s := by
  unfold discoveryPoll
  split
  · rfl
  case isFalse hacts =>
    obtain ⟨hexplore, hclaim, hserving⟩ := h.resolve_left (by simpa using hacts)
    rw [if_neg hexplore, if_neg (by rcases hclaim with hclaim | hclaim <;> simp [hclaim]), if_neg (by simp [hserving])]

theorem discoveryPoll_of_explore (hacts : s.acts = true) (hdisc : s.disc = sdEXPLORE) : discoveryPoll s = (s.smt.found.foldl State.askDie s).summit :=
  (if_neg (by simp [hacts])).trans (if_pos hdisc)

theorem discoveryPoll_of_claim (hacts : s.acts = true) (hdisc : s.disc = sdCLAIM) (hclaim : s.smt.claim = none) : discoveryPoll s = s.startClaim.summit :=
  (if_neg (by simp [hacts])).trans ((if_neg (by rw [hdisc]; decide)).trans (if_pos (by simp [hdisc, hclaim])))

theorem discoveryPoll_of_serving (hs : s.serving = true) :
    discoveryPoll s = ((s.smt.pkgs.filter (fun p => p.state == 4)).foldl State.askFailed s).summit := by
  have hdisc : s.disc ≠ sdEXPLORE ∧ s.disc ≠ sdCLAIM := by rcases State.serving_disc hs with h | h <;> rw [h] <;> decide
  exact (if_neg (by simp [State.serving_acts hs])).trans ((if_neg hdisc.1).trans ((if_neg (by simp [hdisc.2])).trans (if_pos hs)))

end

/-! The end of EXPLORE. -/

/-- The packages of which a port was found under another profile (R420). -/
def State.otherProfile (s : State) : List (BitVec 128) :=
  s.smt.found.flatMap (fun d => (d.ports.filter (fun p => p.cls == .profile)).map (fun p => p.rep.pSerial))

def PkgRec.leaveOut (out : List (BitVec 128)) (p : PkgRec) : PkgRec := if out.contains p.serial then { p with state := 3 } else p

section
variable (out : List (BitVec 128)) (p : PkgRec)

@[simp] theorem PkgRec.leaveOut_ix : (p.leaveOut out).ix = p.ix := by unfold PkgRec.leaveOut; split <;> rfl
@[simp] theorem PkgRec.leaveOut_serial : (p.leaveOut out).serial = p.serial := by unfold PkgRec.leaveOut; split <;> rfl

theorem PkgRec.leaveOut_state : (p.leaveOut out).state = p.state ∨ (p.leaveOut out).state = 3 := by
  unfold PkgRec.leaveOut
  split
  · exact .inr rfl
  · exact .inl rfl

end

/-- The packages and switches of a match take their places. -/
def State.takePlaces (s : State) : State := s.updSmt (fun x => { x with pkgs := s.matching.pkgs.map (fun p => { p with state := 1 }), sws := s.matching.sws })

/-- MATCH as it is taken (R417, R420): the places, every port classified, and the packages of another profile left out. -/
def State.takeMatch (s : State) : State :=
  let t := s.takePlaces.updSmt (fun x => { x with found := s.takePlaces.classifyAll })
  t.updSmt (fun x => { x with pkgs := x.pkgs.map (PkgRec.leaveOut t.otherProfile) })

/-- The claim of the next term, and a session with every die found (R414, R445). -/
def State.claimFound (s : State) : State :=
  let t := (s.setDisc sdCLAIM).startClaim
  t.addJobs (t.smt.found.map (fun d => oneJob .claim (.ag d.serial d.role) .sessionOpen))

section
variable {s : State} {b : Bool}

theorem exploreEnd_of_due (hacts : s.acts = true) (hdisc : s.disc = sdEXPLORE) (hdue : b = true ∨ s.allFound = true) :
    exploreEnd b s = s.takeMatch.claimFound.summit := if_neg (by rcases hdue with hdue | hdue <;> simp [hacts, hdisc, hdue])

theorem exploreEnd_of_notDue (h : s.acts = false ∨ s.disc ≠ sdEXPLORE ∨ (b = false ∧ s.allFound = false)) : exploreEnd b s = s :=
  if_pos (by rcases h with h | h | ⟨h, h'⟩ <;> simp [*])

end

section
variable (s : State)

theorem State.takeMatch_pkgs : ∃ out, s.takeMatch.smt.pkgs = s.matching.pkgs.map (fun p => PkgRec.leaveOut out { p with state := 1 }) :=
  ⟨_, by rw [State.takeMatch, State.updSmt_smt, State.updSmt_smt, State.takePlaces, State.updSmt_smt, List.map_map]; rfl⟩

theorem State.takeMatch_places : s.takeMatch.smt.pkgs.map (fun p => (p.ix, p.serial)) = s.matching.pkgs.map (fun p => (p.ix, p.serial)) := by
  obtain ⟨out, hpkgs⟩ := s.takeMatch_pkgs
  simp [hpkgs, Function.comp_def]

theorem State.takeMatch_states {p : PkgRec} (hp : p ∈ s.takeMatch.smt.pkgs) : p.state = 1 ∨ p.state = 3 := by
  obtain ⟨out, hpkgs⟩ := s.takeMatch_pkgs
  obtain ⟨q, -, rfl⟩ := List.mem_map.1 (hpkgs ▸ hp)
  exact PkgRec.leaveOut_state out _

theorem State.takeMatch_sws : s.takeMatch.smt.sws = s.matching.sws := rfl
theorem State.takeMatch_mem : s.takeMatch.mem = s.mem := by simp only [State.takeMatch, State.takePlaces, State.updSmt_mem]
theorem State.takeMatch_myTerm : s.takeMatch.myTerm = s.myTerm := by
  simp only [State.myTerm, State.takeMatch, State.takePlaces, State.updSmt_fld]

theorem State.claimFound_claim : s.claimFound.smt.claim = some { term := s.myTerm + 1 } := by
  have hterm : (s.setDisc sdCLAIM).myTerm = s.myTerm := congrArg (BitVec.ofNat 32) (State.fld_setFld_off _ _ _ _ _ (by decide))
  rw [← hterm]
  rfl

theorem State.claimFound_pkgs : s.claimFound.smt.pkgs = s.smt.pkgs := by simp [State.claimFound, State.startClaim, State.addJobs, State.setDisc]
theorem State.claimFound_sws : s.claimFound.smt.sws = s.smt.sws := by simp [State.claimFound, State.startClaim, State.addJobs, State.setDisc]
theorem State.claimFound_mem : s.claimFound.mem = s.mem := by simp [State.claimFound, State.startClaim, State.addJobs, State.setDisc]

theorem State.claimFound_disc : s.claimFound.disc = sdCLAIM := by
  simp [State.claimFound, State.startClaim, State.addJobs, State.disc_setDisc _ sdCLAIM (by decide)]

end

/-! CLAIM_TIMEOUT. -/

/-- A claim that has ended, with its requests. -/
def State.dropClaim (s : State) : State := s.updSmt (fun x => { x with claim := none, jobs := x.jobs.filter (fun j => j.tag != .claim) })

theorem claimTimeout_of_claim {s : State} (hup : s.smtUp = true) (hclaim : s.smt.claim.isSome = true) : claimTimeout s = s.dropClaim :=
  if_pos (by simp [hup, hclaim])

theorem claimTimeout_of_none {s : State} (h : s.smtUp = false ∨ s.smt.claim = none) : claimTimeout s = s := if_neg (by rcases h with h | h <;> simp [h])

/-! Commands of the manager at a package's management complex (R436). -/

section
variable {s : State} {f : State → State × List Byte}

theorem mcRow_of_down (h : s.spUp = false ∨ s.boot.phase < phMGMT) : mcRow f s = s := if_pos (by rcases h with h | h <;> simp [h])

variable (hsp : s.spUp = true) (hph : phMGMT ≤ s.boot.phase)
include hsp hph

theorem mcRow_of_reset (hmc : s.mcReset = true) : mcRow f s = s.emit (.mcResponse mcBUSY) :=
  (if_neg (by simp [hsp, hph])).trans (if_pos hmc)

theorem mcRow_of_up (hmc : s.mcReset = false) : mcRow f s = (f s).1.emit (.mcResponse (f s).2) :=
  (if_neg (by simp [hsp, hph])).trans (if_neg (by simp [hmc]))

end

theorem State.memberUp_iff {s : State} : s.memberUp = true ↔ s.spUp = true ∧ s.mcReset = false ∧ phMGMT ≤ s.boot.phase := by
  simp [State.memberUp, and_assoc]

theorem run_mcRow {s : State} {f : State → State × List Byte} {t : State} {bs : List Byte} (hs : s.settled = true) (hup : s.memberUp = true) (hf : f s = (t, bs))
    (hq : t.quiet = s.quiet) (hp : t.pending = s.pending) : run (mcRow f) s = .next (t.emit (.mcResponse bs)) := by
  obtain ⟨hsp, hmc, hph⟩ := State.memberUp_iff.1 hup
  exact run_quiet_of_eq hs ((mcRow_of_up hsp hph hmc).trans (by rw [hf])) (by simpa [hq] using State.settled_quiet hs) (by simpa using hp)

/-- MGR_CLAIM. -/
def claimTerm (b : List Byte) : BitVec 32 := BitVec.ofNat 32 (imgNat b 0 4)
def claimSerial (b : List Byte) : BitVec 128 := BitVec.ofNat 128 (imgNat b 4 16)

section
variable {s : State} {b : List Byte} (hlen : b.length = 20)
include hlen

theorem mgrClaim_granted (h : s.heldTerm.toNat < (claimTerm b).toNat ∨ claimTerm b = s.heldTerm ∧ claimSerial b = s.heldBy) : mgrClaim b s =
    ({ s with heldTerm := claimTerm b, heldBy := claimSerial b }, mcOK ++ leBytes (claimTerm b).toNat 4 ++ leBytes (claimSerial b).toNat 16) :=
  (if_neg (by simp [hlen])).trans (if_pos (by simpa [claimTerm, claimSerial] using h))

theorem mgrClaim_refused (hterm : (claimTerm b).toNat ≤ s.heldTerm.toNat) (hother : claimTerm b ≠ s.heldTerm ∨ claimSerial b ≠ s.heldBy) : mgrClaim b s =
    (s, mcREFUSED ++ leBytes s.heldTerm.toNat 4 ++ leBytes s.heldBy.toNat 16) :=
  (if_neg (by simp [hlen])).trans (if_neg (by
    change ¬ ((decide (s.heldTerm.toNat < (claimTerm b).toNat) || (claimTerm b == s.heldTerm && claimSerial b == s.heldBy)) = true)
    rcases hother with h | h <;> simp [h, hterm]))

end

/-- Settles O28: each clause is the rule above for its stage. -/
theorem managerStagesFollow : Obligations.ManagerStagesFollow := by
  refine ⟨fun s v hon => ⟨fun hv => ?disabled, fun hv hup hdisc hplan hready hdie =>
      run_of_eq hon ((smtEn_of_on hv).trans (State.smtWake_of_ready hup hdisc hplan hready hdie)),
      fun hv h => run_of_eq hon ((smtEn_of_on hv).trans (State.smtWake_of_notReady h))⟩,
    fun s hon hup hdisc hpair => run_of_eq hon (pairWaitExpire_of_plan hup hdisc hpair), fun s hs h => run_same hs (pairWaitExpire_of_other h),
    fun s hon hacts => ⟨fun hdisc => run_of_eq hon (discoveryPoll_of_explore hacts hdisc),
      fun hdisc hclaim => run_of_eq hon (discoveryPoll_of_claim hacts hdisc hclaim), fun hserving => run_of_eq hon (discoveryPoll_of_serving hserving)⟩,
    fun s hs h => run_same hs (discoveryPoll_of_idle h), fun s b hon hacts hdisc hdue => ?ended, fun s b hs h => run_same hs (exploreEnd_of_notDue h),
    fun s hs hup hclaim => ?timeout, fun s hs h => run_same hs (claimTimeout_of_none h), fun s b hs hup hlen =>
      ⟨fun h => run_mcRow hs hup (mgrClaim_granted hlen h) rfl rfl, fun hterm hother => run_mcRow hs hup (mgrClaim_refused hlen hterm hother) rfl rfl⟩⟩
  case disabled =>
    refine ⟨_, run_of_eq hon (smtEn_of_off hv), State.smtStop_disc, State.smtStop_pairSt, ?_, rfl, rfl, by simp [State.smtStop_mem]⟩
    rw [State.smtStop_enabled, State.fld_setFld _ _ _ _ (by decide), bits_of_getLsbD hv, Nat.zero_mod]
  case ended =>
    exact ⟨s.takeMatch.claimFound, run_of_eq hon (exploreEnd_of_due hacts hdisc hdue), s.takeMatch.claimFound_claim.trans (by rw [s.takeMatch_myTerm]),
      s.takeMatch.claimFound_disc, by rw [State.claimFound_pkgs, s.takeMatch_places], fun p hp => s.takeMatch_states (s.takeMatch.claimFound_pkgs ▸ hp),
      s.takeMatch.claimFound_sws.trans s.takeMatch_sws, s.takeMatch.claimFound_mem.trans s.takeMatch_mem⟩
  case timeout =>
    exact ⟨s.dropClaim, run_quiet_of_eq hs (claimTimeout_of_claim hup hclaim) (by simpa [State.dropClaim] using State.settled_quiet hs) (by simp [State.dropClaim]), rfl,
      fun j hj => ⟨by simpa using (List.mem_filter.1 hj).2, (List.mem_filter.1 hj).1⟩, by simp [State.dropClaim], by simp [State.dropClaim]⟩

end Sys2Proof.Machine
end

section
/-! Routes, keys and slices under way (11 R419, R421, R426–R429, R434, R442, R450): what a committed record makes of the manager, and what each row begins or ends. -/

namespace Sys2Proof.Machine

/-! Records (R442, R443). -/

/-- The record that a commitment appends. -/
def State.nextRec (s : State) (b : MirBody) : MirRec := ⟨s.smt.lastSeq + 1, s.myTerm, b⟩

/-- The request that carries a record to the partner of a paired primary. -/
def State.mirrorJobs (s : State) (b : MirBody) : List Job := if s.pairSt = prPAIRED then [oneJob .mirror .peer (.mirror [s.nextRec b])] else []

section
variable (s : State) (b : MirBody)

/-- A commitment changes the manager's own state alone. -/
theorem State.commit_eq : s.commit b = s.updSmt (fun x => { x.apply b with recs := x.recs ++ [s.nextRec b], jobs := (x.apply b).jobs ++ s.mirrorJobs b }) := by
  by_cases hpair : s.pairSt = prPAIRED
  · rw [State.mirrorJobs, if_pos hpair]
    exact if_pos (by simpa using hpair)
  · simp only [State.mirrorJobs, if_neg hpair, List.append_nil]
    exact if_neg (by simpa using hpair)

@[simp] theorem State.commit_regs : (s.commit b).regs = s.regs := by rw [State.commit_eq, State.updSmt_regs]
@[simp] theorem State.commit_mem : (s.commit b).mem = s.mem := by rw [State.commit_eq, State.updSmt_mem]
@[simp] theorem State.commit_ports : (s.commit b).ports = s.ports := by rw [State.commit_eq, State.updSmt_ports]
@[simp] theorem State.commit_parts : (s.commit b).parts = s.parts := by rw [State.commit_eq, State.updSmt_parts]

theorem State.commit_recs : (s.commit b).smt.recs = s.smt.recs ++ [s.nextRec b] := by rw [State.commit_eq, State.updSmt_smt]

theorem State.commit_slices : (s.commit b).smt.slices = (s.smt.apply b).slices := by rw [State.commit_eq, State.updSmt_smt]

theorem State.mem_commit_jobs {j : Job} (hj : j ∈ (s.commit b).smt.jobs) : j ∈ (s.smt.apply b).jobs ∨ j.tag = .mirror := by
  rw [State.commit_eq, State.updSmt_smt, List.mem_append] at hj
  refine hj.imp_right fun hm => ?_
  unfold State.mirrorJobs at hm
  split at hm
  · rw [List.mem_singleton.1 hm]; rfl
  · cases hm

end

/-! SMT_GEN. -/

/-- A write of SMT_GEN.DONE. -/
def State.clearGenDone (s : State) (v : Word) : State := if v.getLsbD 2 then s.setFld .smt F.SMT_GEN_DONE 0 else s

section
variable {s : State} {v : Word}

theorem State.clearGenDone_busy : (s.clearGenDone v).flag .smt F.SMT_GEN_BUSY = s.flag .smt F.SMT_GEN_BUSY := by
  unfold State.clearGenDone
  split
  · exact State.flag_setFld_other _ _ _ _ _ (.inr (by decide))
  · rfl

@[simp] theorem State.clearGenDone_quiet : (s.clearGenDone v).quiet = s.quiet := by unfold State.clearGenDone; split <;> simp
@[simp] theorem State.clearGenDone_pending : (s.clearGenDone v).pending = s.pending := by unfold State.clearGenDone; split <;> simp

theorem smtGenGo_of_go (hgo : v.getLsbD 0 = true) (hbusy : s.flag .smt F.SMT_GEN_BUSY = false) :
    smtGenGo v s = ((s.clearGenDone v).setFld .smt F.SMT_GEN_GO 1).setFld .smt F.SMT_GEN_BUSY 1 :=
  if_pos (by rw [Bool.and_eq_true]; exact ⟨hgo, by simpa [State.clearGenDone] using State.clearGenDone_busy.trans hbusy⟩)

theorem smtGenGo_of_none (h : v.getLsbD 0 = false ∨ s.flag .smt F.SMT_GEN_BUSY = true) : smtGenGo v s = s.clearGenDone v := by
  refine if_neg fun hrun => ?_
  rw [Bool.and_eq_true] at hrun
  obtain ⟨hgo, hbusy⟩ := hrun
  have hfree : (s.clearGenDone v).flag .smt F.SMT_GEN_BUSY = false := by simpa [State.clearGenDone] using hbusy
  rw [State.clearGenDone_busy] at hfree
  rcases h with h | h
  · exact Bool.noConfusion (hgo.symm.trans h)
  · exact Bool.noConfusion (hfree.symm.trans h)

end

/-- A generation has ended (R426, R450). -/
def State.endGen (s : State) (us : BitVec 32) (bad : Bool) : State :=
  ((((s.setFld .smt F.SMT_GEN_GO 0).setFld .smt F.SMT_GEN_BUSY 0).setFld .smt F.SMT_GEN_DONE 1).setFld .smt F.SMT_GEN_ERR bad.toNat).setFld .smt F.SMT_GEN_TIME_US us.toNat

section
variable {s : State} {us : BitVec 32} {bad : Bool}

theorem routeGenDone_of_busy (h : s.flag .smt F.SMT_GEN_BUSY = true) : routeGenDone us bad s = (s.endGen us bad).fireEvent .smt 1 := if_neg (by simp [h])

theorem routeGenDone_of_idle (h : s.flag .smt F.SMT_GEN_BUSY = false) : routeGenDone us bad s = s := if_pos (by simp [h])

/-- The fields of SMT_GEN stand apart, and the time has a word of its own. -/
theorem State.endGen_shows : (s.endGen us bad).fld .smt F.SMT_GEN_GO = 0 ∧ (s.endGen us bad).fld .smt F.SMT_GEN_BUSY = 0 ∧ (s.endGen us bad).fld .smt F.SMT_GEN_DONE = 1 ∧
    (s.endGen us bad).fld .smt F.SMT_GEN_ERR = bad.toNat ∧ (s.endGen us bad).fld .smt F.SMT_GEN_TIME_US = us.toNat := by
  refine ⟨?_, ?_, ?_, ?_, ?_⟩ <;> rw [State.endGen]
  · rw [State.fld_setFld_off _ _ _ _ _ (by decide), State.fld_setFld_other _ _ _ _ _ (.inr (by decide)), State.fld_setFld_other _ _ _ _ _ (.inr (by decide)),
      State.fld_setFld_other _ _ _ _ _ (.inr (by decide)), State.fld_setFld _ _ _ _ (by decide)]
    rfl
  · rw [State.fld_setFld_off _ _ _ _ _ (by decide), State.fld_setFld_other _ _ _ _ _ (.inr (by decide)), State.fld_setFld_other _ _ _ _ _ (.inr (by decide)),
      State.fld_setFld _ _ _ _ (by decide)]
    rfl
  · rw [State.fld_setFld_off _ _ _ _ _ (by decide), State.fld_setFld_other _ _ _ _ _ (.inr (by decide)), State.fld_setFld _ _ _ _ (by decide)]
    rfl
  · rw [State.fld_setFld_off _ _ _ _ _ (by decide), State.fld_setFld _ _ _ _ (by decide)]
    exact Nat.mod_eq_of_lt (Bool.toNat_lt bad)
  · rw [State.fld_setFld _ _ _ _ (by decide)]
    exact Nat.mod_eq_of_lt us.isLt

theorem State.endGen_mem : (s.endGen us bad).mem = s.mem := by simp [State.endGen]
theorem State.endGen_smt : (s.endGen us bad).smt = s.smt := by simp [State.endGen]

end

/-! ROUTE_CHANGE. -/

section
variable {s : State}

theorem routeChange_of_due (hserving : s.serving = true) (hpair : s.pairSt ≠ prISOLATED) (hdue : s.smt.changeDue = true) (hnone : s.smt.changing = none)
    (hbusy : s.flag .smt F.SMT_GEN_BUSY = false) (halign : ∀ j ∈ s.smt.jobs, j.tag ≠ .align) :
    routeChange s = ((s.setDisc sdRESHAPE).beginChange (1 - s.smt.cur)).summit := if_pos (by simpa [hserving, hpair, hdue, hnone, hbusy] using halign)

theorem routeChange_of_notDue (h : s.serving = false ∨ s.pairSt = prISOLATED ∨ s.smt.changeDue = false ∨ s.smt.changing ≠ none ∨
    s.flag .smt F.SMT_GEN_BUSY = true ∨ ∃ j ∈ s.smt.jobs, j.tag = .align) : routeChange s = s := by
  refine if_neg fun hall => ?_
  simp only [Bool.and_eq_true, Bool.not_eq_true', bne_iff_ne, ne_eq, Option.isNone_iff_eq_none, List.any_eq_false, beq_iff_eq] at hall
  obtain ⟨⟨⟨⟨⟨hserving, hpair⟩, hdue⟩, hnone⟩, hbusy⟩, halign⟩ := hall
  rcases h with h | h | h | h | h | ⟨j, hj, h⟩
  · simp [h] at hserving
  · exact hpair h
  · simp [h] at hdue
  · exact h hnone
  · simp [h] at hbusy
  · exact halign j hj h

variable (s) (n : Nat)

theorem State.beginChange_smt : (s.beginChange n).smt.changing = some (n, 0) ∧ (s.beginChange n).smt.changeDue = false := by
  rw [State.beginChange, State.commit_eq]
  exact ⟨rfl, rfl⟩

theorem State.beginChange_mem : (s.beginChange n).mem = s.mem := by simp [State.beginChange]

theorem State.beginChange_recs : ∃ q d, (s.beginChange n).smt.recs = s.smt.recs ++ [⟨s.smt.lastSeq + 1, s.myTerm, .routeBegin n q d⟩] :=
  ⟨_, _, State.commit_recs _ _⟩

end

/-! KEY_ROTATION and PORT_RETRAIN. -/

/-- The keys of the idle slots, the switch, and the clearing of the old slots (R419). -/
def State.beginRotation (s : State) (ser : BitVec 128) (role port : Nat) (p : PortRec) : State :=
  (s.addJobs [{ tag := .key, steps := keySteps (ser, role, port) (p.rep.pSerial, p.rep.pRole, p.rep.pPort) (1 - p.txSlot) s.smt.nextKey ++
    [(.ag ser role, .keyClear port false p.txSlot), (.ag p.rep.pSerial p.rep.pRole, .keyClear p.rep.pPort true p.txSlot)] }]).updSmt
      (fun x => { x with nextKey := x.nextKey + 1 })

/-- The time of this retraining joins those of the last two, and the port is trained (R421). -/
def State.beginRetrain (s : State) (ser : BitVec 128) (role port : Nat) (p : PortRec) : State :=
  (s.updSmt (fun x => x.putPort ser role { p with retrains := p.retrains.drop (p.retrains.length - 2) ++ [s.now pd0] })).addJobs
    [oneJob .stop (.ag ser role) (.portCmd port 1)]

section
variable {s : State} {ser : BitVec 128} {role port : Nat} {p : PortRec} (hp : s.portRec ser role port = some p)
include hp

theorem keyRotation_of_admitted (hserving : s.serving = true) (hadm : p.admitted = true) (hvalid : p.rep.valid = true) (hbusy : s.linkBusy ser role port = false) :
    keyRotation ser role port s = (s.beginRotation ser role port p).summit := by
  rw [keyRotation, State.rotate, hp]
  exact congrArg State.summit (if_neg (by simp [hserving, hadm, hvalid, hbusy]))

theorem keyRotation_of_other (h : s.serving = false ∨ p.admitted = false ∨ p.rep.valid = false ∨ s.linkBusy ser role port = true) :
    keyRotation ser role port s = s.summit := by
  rw [keyRotation, State.rotate, hp]
  exact congrArg State.summit (if_pos (by simpa [or_assoc] using h))

theorem portRetrain_of_failed (hserving : s.serving = true) (hcls : p.cls = .missing) (hst : p.rep.state = lkFAILED) (hout : retrainedOut p.retrains = false) :
    portRetrain ser role port s = (s.beginRetrain ser role port p).summit := by
  rw [portRetrain, hp]
  exact if_neg (by simp [hserving, hcls, hst, hout])

theorem portRetrain_of_other (h : s.serving = false ∨ p.cls ≠ .missing ∨ p.rep.state ≠ lkFAILED ∨ retrainedOut p.retrains = true) : portRetrain ser role port s = s := by
  rw [portRetrain, hp]
  exact if_pos (by simpa [or_assoc] using h)

end

theorem retrainedOut_of_three (a b c : BitVec 64) : retrainedOut [a, b, c] = true ↔ (c - a).toNat < 720000000000 := decide_eq_true_iff

theorem retrainedOut_of_length {l : List (BitVec 64)} (h : l.length ≠ 3) : retrainedOut l = false := by
  match l with
  | [] | [_] | [_, _] | _ :: _ :: _ :: _ :: _ => rfl
  | [_, _, _] => simp at h

/-! SLICE_JOIN_TIMEOUT. -/

theorem sliceJoinTimeout_of_serving {s : State} {id : Nat} (h : s.serving = true) : sliceJoinTimeout id s = (s.sliceUndo id).summit := if_pos h

theorem sliceJoinTimeout_of_idle {s : State} {id : Nat} (h : s.serving = false) : sliceJoinTimeout id s = s := if_neg (by simp [h])

/-- A creation whose requests have gone (R434). -/
def State.dropJoins (s : State) (id : Nat) : State := s.updSmt (fun y => { y with jobs := y.jobs.filter (fun j => j.tag != .join id) })

section
variable {s : State} {id : Nat}

theorem State.sliceUndo_of_none (h : ∀ x ∈ s.smt.slices, x.id = id → x.state ≠ 0) : s.sliceUndo id = s := by
  have hnone : s.smt.slices.find? (fun x => x.id == id && x.state == 0) = none := List.find?_eq_none.2 (by simpa using h)
  rw [State.sliceUndo, hnone]

variable {x : SliceRec} (hx : s.smt.slices.find? (fun x => x.id == id && x.state == 0) = some x)
include hx

theorem State.sliceUndo_of_creating : s.sliceUndo id = (s.dropJoins id).commit (.slice { x with state := 3, members := x.joined } x.joined.isEmpty) := by
  rw [State.sliceUndo, hx]
  rfl

theorem State.sliceUndo_recs : (s.sliceUndo id).smt.recs =
    s.smt.recs ++ [⟨s.smt.lastSeq + 1, s.myTerm, .slice { x with state := 3, members := x.joined } x.joined.isEmpty⟩] := by
  rw [State.sliceUndo_of_creating hx]
  exact State.commit_recs _ _

theorem State.sliceUndo_jobs : ∀ j ∈ (s.sliceUndo id).smt.jobs, j.tag ≠ .join id := by
  rw [State.sliceUndo_of_creating hx]
  intro j hj
  rcases State.mem_commit_jobs _ _ hj with hkept | hmirror
  · simpa using (List.mem_filter.1 hkept).2
  · simp [hmirror]

theorem State.sliceUndo_mem : (s.sliceUndo id).mem = s.mem := by simp [State.sliceUndo_of_creating hx, State.dropJoins]
theorem State.sliceUndo_parts : (s.sliceUndo id).parts = s.parts := by simp [State.sliceUndo_of_creating hx, State.dropJoins]

/-- A creation that nobody has joined is gone at once. -/
theorem State.sliceUndo_gone (hnone : x.joined = []) : ∀ y ∈ (s.sliceUndo id).smt.slices, y.id ≠ id := by
  have hid : x.id = id := by
    have hfound := List.find?_some hx
    rw [Bool.and_eq_true, beq_iff_eq] at hfound
    exact hfound.1
  rw [State.sliceUndo_of_creating hx, State.commit_slices, hnone]
  intro y hy
  simpa [hid] using (List.mem_filter.1 hy).2

end

/-- Settles O29: each clause is the rule above for its row. -/
theorem managerChangesRoutesAndKeys : Obligations.ManagerChangesRoutesAndKeys := by
  refine ⟨fun s v hs => ?generate, fun s us b hon hbusy => ?generated, fun s us b hs hidle => run_same hs (routeGenDone_of_idle hidle),
    fun s hon hserving hpair hdue hnone hbusy halign => run_of_eq hon (routeChange_of_due hserving hpair hdue hnone hbusy halign),
    fun s hs h => run_same hs (routeChange_of_notDue h),
    fun s n => ⟨(s.beginChange_smt n).1, (s.beginChange_smt n).2, s.beginChange_mem n, s.beginChange_recs n⟩,
    fun s ser role port p hon hp => ⟨fun hserving hadm hvalid hbusy => run_of_eq hon (keyRotation_of_admitted hp hserving hadm hvalid hbusy),
      fun h => run_of_eq hon (keyRotation_of_other hp h)⟩,
    fun s ser role port p hon hp hserving hcls hst hout => run_of_eq hon (portRetrain_of_failed hp hserving hcls hst hout),
    fun s ser role port p hs hp h => run_same hs (portRetrain_of_other hp h),
    fun a b c l => ⟨retrainedOut_of_three a b c, retrainedOut_of_length⟩,
    fun s id hon hserving => run_of_eq hon (sliceJoinTimeout_of_serving hserving), fun s id hs hidle => run_same hs (sliceJoinTimeout_of_idle hidle),
    fun s id x hx => ⟨State.sliceUndo_recs hx, State.sliceUndo_jobs hx, State.sliceUndo_mem hx, State.sliceUndo_parts hx, State.sliceUndo_gone hx⟩,
    fun s id h => State.sliceUndo_of_none h⟩
  case generate =>
    have hq := State.settled_quiet hs
    refine ⟨fun hgo hbusy => ?_, fun h => ?_⟩
    · have hrun := run_quiet_of_eq hs (smtGenGo_of_go hgo hbusy) (by simpa using hq) (by simp)
      exact hrun
    · have hrun := run_quiet_of_eq hs (smtGenGo_of_none h) (by simpa using hq) (by simp)
      exact hrun
  case generated =>
    obtain ⟨hgo, hrun, hdone, herr, htime⟩ := State.endGen_shows (s := s) (us := us) (bad := b)
    exact ⟨s.endGen us b, run_of_eq hon (routeGenDone_of_busy hbusy), hgo, hrun, hdone, herr, htime, State.endGen_mem, State.endGen_smt⟩

end Sys2Proof.Machine
end

section
/-! Operator commands that were committed (11 R412, R433–R441, 12 R479, 17 R638, R639): what the OPCMD record of each executes, and what none of them touches. -/

namespace Sys2Proof.Machine

/-- An answer to an operator command: its status and data (R438). -/
def State.answers (s : State) (h : OpHdr) (code : Nat) (st : OpStatus) (data : List Byte) : State := s.answerOp ⟨h.cred, h.ctr, code, st, data, []⟩

/-! SLICE_FREE. -/

section
variable {s : State} {h : OpHdr} {id : Nat}

theorem State.opExec_sliceFree_of_live {x : SliceRec} (hx : s.smt.slices.find? (fun x => x.id == id && (x.state == 1 || x.state == 2)) = some x) :
    s.opExec h (.sliceFree id) =
      s.commit (.slice { x with state := 3, asked := some (h.cred, h.ctr), askCode := 0x0202, scrubbed := x.lost } (x.members.all x.lost.contains)) := by
  simp only [State.opExec, hx]

theorem State.opExec_sliceFree_of_none (hnone : s.smt.slices.find? (fun x => x.id == id && (x.state == 1 || x.state == 2)) = none) :
    s.opExec h (.sliceFree id) = s.answers h 0x0202 .policy [] := by
  simp only [State.opExec, hnone]
  rfl

end

/-! SLICE_ALLOC. -/

/-- A number below a bound that is not 0 and not in a list too short to hold them all. -/
theorem exists_unused {n : Nat} {l : List Nat} (h : l.length + 1 < n) : ∃ i < n, i ≠ 0 ∧ i ∉ l := by
  refine Classical.byContradiction fun hall => ?_
  have hsub : List.range' 1 (n - 1) ⊆ l := fun i hi => by
    rw [List.mem_range'_1] at hi
    exact Classical.byContradiction fun hnew => hall ⟨i, by omega, by omega, hnew⟩
  have hlen := List.Nodup.length_le_of_subset List.nodup_range' hsub
  rw [List.length_range'] at hlen
  omega

/-- The lowest SLICE_ID that no slice has (R434; log entry 56). -/
def freeSliceId (l : List SliceRec) : Nat := ((List.range 65536).find? (fun n => n != 0 && !(l.any (fun y => y.id == n)))).getD 1

theorem freeSliceId_unused {l : List SliceRec} (h : l.length < 65535) : freeSliceId l ≠ 0 ∧ ∀ z ∈ l, z.id ≠ freeSliceId l := by
  obtain ⟨i, hi, hpos, hnew⟩ := exists_unused (n := 65536) (l := l.map (·.id)) (by rw [List.length_map]; omega)
  have hsome : ((List.range 65536).find? (fun n => n != 0 && !(l.any (fun y => y.id == n)))).isSome = true := by
    rw [List.find?_isSome]
    exact ⟨i, List.mem_range.2 hi, by simpa [hpos] using hnew⟩
  obtain ⟨n, hn⟩ := Option.isSome_iff_exists.1 hsome
  have hfree := List.find?_some hn
  simpa [freeSliceId, hn] using hfree

/-- A slice as it is asked for: the candidate with its identifier, partition number, members and descriptor (R434). -/
def State.newSlice (s : State) (h : OpHdr) (i : Nat) (join : List Byte) (x : SliceRec) : SliceRec :=
  { x with id := freeSliceId s.smt.slices, part := (s.slicePart x i).getD 0, join := join, members := x.ixs, asked := some (h.cred, h.ctr) }

theorem State.newSlice_state (s : State) (h : OpHdr) (i : Nat) (join : List Byte) (x : SliceRec) : (s.newSlice h i join x).state = x.state := by
  simp only [State.newSlice]

theorem State.newSlice_id (s : State) (h : OpHdr) (i : Nat) (join : List Byte) (x : SliceRec) : (s.newSlice h i join x).id = freeSliceId s.smt.slices := by
  simp only [State.newSlice]

section
variable {s : State} {h : OpHdr} {kind n a b m i : Nat} {join : List Byte}

theorem State.opExec_sliceAlloc_of_policy (hbad : join.length ≠ 80 ∨ sliceForm s.plan kind n a b m = false ∨ planMaxSlices s.plan ≤ s.smt.slices.length) :
    s.opExec h (.sliceAlloc kind n a b m i join) = s.answers h 0x0201 .policy [] := if_pos (by simpa [or_assoc] using hbad)

variable (hlen : join.length = 80) (hform : sliceForm s.plan kind n a b m = true) (hroom : s.smt.slices.length < planMaxSlices s.plan)
include hlen hform hroom

theorem State.opExec_sliceAlloc_of_fit {x : SliceRec} (hx : ((sliceCandidates kind n a b m).filter s.sliceFits).find? (fun x => (s.slicePart x i).isSome) = some x) :
    s.opExec h (.sliceAlloc kind n a b m i join) = s.commit (.slice (s.newSlice h i join x) false) := by
  refine (if_neg (by simp [hlen, hform, hroom])).trans ?_
  simp only [hx]
  rfl

/-- Without a candidate that has a number, the answer says whether any fits. -/
theorem State.opExec_sliceAlloc_of_none (hnone : ((sliceCandidates kind n a b m).filter s.sliceFits).find? (fun x => (s.slicePart x i).isSome) = none) :
    s.opExec h (.sliceAlloc kind n a b m i join) =
      s.answers h 0x0201 (if ((sliceCandidates kind n a b m).filter s.sliceFits).isEmpty then .noShape else .noPartition) [] := by
  refine (if_neg (by simp [hlen, hform, hroom])).trans ?_
  simp only [hnone]
  rfl

theorem State.opExec_sliceAlloc_of_noShape (hnone : (sliceCandidates kind n a b m).filter s.sliceFits = []) :
    s.opExec h (.sliceAlloc kind n a b m i join) = s.answers h 0x0201 .noShape [] := by
  rw [State.opExec_sliceAlloc_of_none hlen hform hroom (by rw [hnone]; rfl), hnone]
  rfl

theorem State.opExec_sliceAlloc_of_noPartition (hfit : (sliceCandidates kind n a b m).filter s.sliceFits ≠ [])
    (hpart : ∀ x ∈ (sliceCandidates kind n a b m).filter s.sliceFits, s.slicePart x i = none) :
    s.opExec h (.sliceAlloc kind n a b m i join) = s.answers h 0x0201 .noPartition [] := by
  rw [State.opExec_sliceAlloc_of_none hlen hform hroom (List.find?_eq_none.2 fun x hx => by simp [hpart x hx])]
  simp only [List.isEmpty_iff, if_neg hfit]

end

/-! PLAN_UPDATE, READMIT and SHAPE_READ. -/

section
variable {s : State} {h : OpHdr} {img : List Byte} {sig : Bool}

/-- The image of a PLAN_UPDATE that was refused is forgotten. -/
def State.dropPlanSeen (s : State) : State := s.updSmt (fun x => { x with planSeen := [] })

theorem State.opExec_planUpdate_of_old (hbad : s.planAccepts img sig = false ∨ planSeq img ≤ planSeq s.plan) :
    s.opExec h (.planUpdate img sig) = s.dropPlanSeen.answers h 0x0204 .policy [] := if_pos (by simpa using hbad)

variable (hacc : s.planAccepts img sig = true) (hnew : planSeq s.plan < planSeq img)
include hacc hnew

theorem State.opExec_planUpdate_of_inUse (huse : ∃ x ∈ s.smt.slices, ∃ i ∈ x.members, i ∉ planIxs img) :
    s.opExec h (.planUpdate img sig) = s.dropPlanSeen.answers h 0x0204 .inUse [] := (if_neg (by simp [hacc, hnew])).trans (if_pos (by simpa using huse))

theorem State.opExec_planUpdate_of_new (hall : ∀ x ∈ s.smt.slices, ∀ i ∈ x.members, i ∈ planIxs img) :
    s.opExec h (.planUpdate img sig) = (s.updSmt (fun x => { x with planAsk := some h })).commit (.plan (planSeq img) (Config.sha512 img)) :=
  (if_neg (by simp [hacc, hnew])).trans (if_neg (by simpa using hall))

end

section
variable {s : State} {h : OpHdr} {co : BitVec 32}

theorem State.opExec_readmit_of_none (hnone : s.pkgAt (routeIndex co) = none) : s.opExec h (.readmit co) = s.answers h 0x0205 .policy [] := by
  simp only [State.opExec, hnone]
  rfl

theorem State.opExec_shapeRead_of_rack {c : Nat} (hc : c < 64) : s.opExec h (.shapeRead c) = s.answers h (OpCmd.code (.shapeRead c)) .ok
    ((List.range 64).flatMap (fun i => match s.pkgAt (c * 64 + i) with | some p => p.bytes | none => [0, 0, 0, 0])) := if_pos hc

theorem State.opExec_shapeRead_of_other {c : Nat} (hc : 64 ≤ c) : s.opExec h (.shapeRead c) = s.answers h (OpCmd.code (.shapeRead c)) .policy [] := if_neg (by omega)

variable {p : PkgRec} (hp : s.pkgAt (routeIndex co) = some p)
include hp

theorem State.opExec_readmit_of_out (hst : p.state = 5 ∨ p.state = 4) : s.opExec h (.readmit co) = (s.opWait h 0x0205 [p.ix]).startReadmit p.ix := by
  simp only [State.opExec, hp]
  exact if_pos (by simpa using hst)

theorem State.opExec_readmit_of_in (h5 : p.state ≠ 5) (h4 : p.state ≠ 4) : s.opExec h (.readmit co) = (s.freshPorts p.serial).answers h 0x0205 .ok [] := by
  simp only [State.opExec, hp]
  exact if_neg (by simp [h5, h4])

/-! Commands that go to packages. -/

theorem State.opExec_deviceReset : s.opExec h (.deviceReset co) =
    (s.opWait h (OpCmd.code (.deviceReset co)) [p.ix]).addJobs [oneJob (.op p.ix h) (.ag p.serial 0) .deviceReset] := by
  simp only [State.opExec, hp]

end

/-- The packages of a POWER_SET: the members of a slice, or the package at a coordinate (12 R479). -/
def State.powerTargets (s : State) (co : BitVec 32) (slice : Nat) : List Nat :=
  if co = 0 && slice != 0 then ((s.smt.slices.find? (fun x => x.id == slice)).map (·.members)).getD [] else ((s.pkgAt (routeIndex co)).map (·.ix)).toList

/-- What a POWER_SET leaves of a package's cap, mode and step (12 R479). -/
def SummitSt.newCap (x : SummitSt) (ix : Nat) (body : List Byte) : CapRec :=
  ⟨ix, if imgNat body 0 2 = 0 then (x.capOf ix).cap else min (x.fusedLimit ix) (imgNat body 0 2), if imgNat body 2 1 = 0xFF then (x.capOf ix).mode else imgNat body 2 1,
    if imgNat body 2 1 = 1 then imgNat body 3 1 else if imgNat body 4 1 = 0 then (x.capOf ix).step else imgNat body 4 1⟩

section
variable {s : State} {h : OpHdr} {co : BitVec 32} {body : List Byte}

theorem State.opExec_powerSet {slice : Nat} : s.opExec h (.powerSet co slice body) =
    if (s.powerTargets co slice).isEmpty || body.length != 8 then s.answers h 0x0207 .policy []
    else (s.powerTargets co slice).foldl (fun t i => t.commit (.power (t.smt.newCap i body) body)) (s.opWait h 0x0207 (s.powerTargets co slice)) := rfl

theorem SummitSt.newCap_of_mode {x : SummitSt} {ix : Nat} (hmode : imgNat body 2 1 ≠ 1) (hkeep : imgNat body 2 1 ≠ 0xFF) : x.newCap ix body =
    ⟨ix, if imgNat body 0 2 = 0 then (x.capOf ix).cap else min (x.fusedLimit ix) (imgNat body 0 2), imgNat body 2 1,
      if imgNat body 4 1 = 0 then (x.capOf ix).step else imgNat body 4 1⟩ := by
  rw [SummitSt.newCap, if_neg hkeep, if_neg hmode]

theorem State.opExec_powerSet_of_package {p : PkgRec} (hp : s.pkgAt (routeIndex co) = some p) (hlen : body.length = 8) : s.opExec h (.powerSet co 0 body) =
    (s.opWait h 0x0207 [p.ix]).commit (.power ((s.opWait h 0x0207 [p.ix]).smt.newCap p.ix body) body) := by
  have hixs : s.powerTargets co 0 = [p.ix] := by rw [State.powerTargets, if_neg (by simp), hp]; rfl
  rw [State.opExec_powerSet, hixs]
  exact if_neg (by simp [hlen])

end

section
variable {s : State} {h : OpHdr} {cube n : Nat} (hm : (s.smt.masters.find? (fun m => m.1 == cube)).map (·.2) = some n)
include hm

theorem State.opExec_ridgeStop : s.opExec h (.ridgeStop cube) =
    (s.opWait h (OpCmd.code (.ridgeStop cube)) [n]).addJobs (s.pkgJob (.op n h) n 0x010E [3]) := by
  simp only [State.opExec, hm]

theorem State.opExec_ridgeWake (mask : BitVec 64) : s.opExec h (.ridgeWake cube mask) =
    (s.opWait h (OpCmd.code (.ridgeWake cube mask)) [n]).addJobs (s.pkgJob (.op n h) n 0x010E (4 :: leBytes mask.toNat 8)) := by
  simp only [State.opExec, hm]

end

/-! What no operator command touches. -/

/-- Registers, ports and memory are as in another state. -/
def State.SameBlock (t s : State) : Prop := t.regs = s.regs ∧ t.ports = s.ports ∧ t.mem = s.mem

section
variable {s t u : State}

theorem State.SameBlock.refl (s : State) : s.SameBlock s := ⟨rfl, rfl, rfl⟩

theorem State.SameBlock.trans (h : t.SameBlock s) (h' : u.SameBlock t) : u.SameBlock s := by
  obtain ⟨hregs, hports, hmem⟩ := h
  obtain ⟨hregs', hports', hmem'⟩ := h'
  exact ⟨hregs'.trans hregs, hports'.trans hports, hmem'.trans hmem⟩

theorem State.sameBlock_updSmt (h : t.SameBlock s) (f : SummitSt → SummitSt) : (t.updSmt f).SameBlock s :=
  h.trans ⟨State.updSmt_regs _ _, State.updSmt_ports _ _, State.updSmt_mem _ _⟩

theorem State.sameBlock_addJobs (h : t.SameBlock s) (l : List Job) : (t.addJobs l).SameBlock s := State.sameBlock_updSmt h _

theorem State.sameBlock_emit (h : t.SameBlock s) (o : Output) : (t.emit o).SameBlock s :=
  h.trans ⟨State.emit_regs _ _, State.emit_ports _ _, State.emit_mem _ _⟩

theorem State.sameBlock_commit (h : t.SameBlock s) (b : MirBody) : (t.commit b).SameBlock s :=
  h.trans ⟨State.commit_regs _ _, State.commit_ports _ _, State.commit_mem _ _⟩

theorem State.sameBlock_answerOp (h : t.SameBlock s) (a : OpAnswer) : (t.answerOp a).SameBlock s := State.sameBlock_emit (State.sameBlock_updSmt h _) _

theorem State.sameBlock_opWait (h : t.SameBlock s) (hdr : OpHdr) (code : Nat) (ixs : List Nat) : (t.opWait hdr code ixs).SameBlock s := by
  unfold State.opWait
  split
  · exact State.sameBlock_answerOp h _
  · exact State.sameBlock_updSmt h _

theorem State.sameBlock_foldl {α : Type} {step : State → α → State} (hstep : ∀ t a, t.SameBlock s → (step t a).SameBlock s) (l : List α) (h : t.SameBlock s) :
    (l.foldl step t).SameBlock s := by
  induction l generalizing t with
  | nil => exact h
  | cons a l ih => exact ih (hstep t a h)

theorem State.sameBlock_freshPorts (h : t.SameBlock s) (ser : BitVec 128) : (t.freshPorts ser).SameBlock s :=
  State.sameBlock_addJobs (State.sameBlock_updSmt h _) _

theorem State.sameBlock_startFw (h : t.SameBlock s) (x : FwJob) : (t.startFw x).SameBlock s := by
  refine State.sameBlock_foldl (fun u i hu => ?_) _ (State.sameBlock_updSmt h _)
  split
  · exact State.sameBlock_addJobs hu _
  · exact hu

theorem State.sameBlock_capsReturn (h : t.SameBlock s) (w : WsRec) : (t.capsReturn w).SameBlock s := by
  unfold State.capsReturn
  split
  · refine State.sameBlock_foldl (fun u e hu => ?_) _ h
    split
    · exact hu
    · exact State.sameBlock_commit hu _
  · exact h

end

/-- An operator command changes the manager's state and its outputs alone. -/
theorem State.opExec_sameBlock (s : State) (h : OpHdr) (c : OpCmd) : (s.opExec h c).SameBlock s := by
  have hs := State.SameBlock.refl s
  cases c with
  | sliceAlloc kind n a b m i join =>
    simp only [State.opExec]
    split
    · exact State.sameBlock_answerOp hs _
    split
    · exact State.sameBlock_commit hs _
    · exact State.sameBlock_answerOp hs _
  | sliceFree id =>
    simp only [State.opExec]
    split
    · exact State.sameBlock_commit hs _
    · exact State.sameBlock_answerOp hs _
  | shapeRead cube =>
    simp only [State.opExec]
    split <;> exact State.sameBlock_answerOp hs _
  | planUpdate img sig =>
    simp only [State.opExec]
    split
    · exact State.sameBlock_answerOp (State.sameBlock_updSmt hs _) _
    split
    · exact State.sameBlock_answerOp (State.sameBlock_updSmt hs _) _
    · exact State.sameBlock_commit (State.sameBlock_updSmt hs _) _
  | readmit co =>
    simp only [State.opExec]
    split
    · split
      · exact State.sameBlock_addJobs (State.sameBlock_opWait hs _ _ _) _
      · exact State.sameBlock_answerOp (State.sameBlock_freshPorts hs _) _
    · exact State.sameBlock_answerOp hs _
  | logRead n => exact State.sameBlock_answerOp hs _
  | powerSet co slice body =>
    rw [State.opExec_powerSet]
    split
    · exact State.sameBlock_answerOp hs _
    · exact State.sameBlock_foldl (fun t i ht => State.sameBlock_commit ht _) _ (State.sameBlock_opWait hs _ _ _)
  | wsConfig r =>
    simp only [State.opExec]
    split
    case h_1 w hw =>
      have htrack : ((w.root :: w.points).foldl (fun t p => t.emit (.wsTrack p.pkg p (!w.off))) s).SameBlock s :=
        State.sameBlock_foldl (fun t p ht => State.sameBlock_emit ht _) _ hs
      split
      · exact State.sameBlock_answerOp (State.sameBlock_capsReturn htrack w) _
      · exact State.sameBlock_answerOp htrack _
    case h_2 => exact State.sameBlock_answerOp hs _
  | fwDistribute t ts content =>
    simp only [State.opExec]
    split
    · split
      · split
        · exact State.sameBlock_answerOp (State.sameBlock_updSmt hs _) _
        · exact State.sameBlock_startFw hs _
      · exact State.sameBlock_answerOp hs _
    · exact State.sameBlock_answerOp hs _
  | fwActivate id ts fl =>
    simp only [State.opExec]
    split
    · exact State.sameBlock_answerOp hs _
    · exact State.sameBlock_updSmt (State.sameBlock_opWait hs _ _ _) _
  | ridgeStop cube =>
    simp only [State.opExec]
    split
    · exact State.sameBlock_addJobs (State.sameBlock_opWait hs _ _ _) _
    · exact State.sameBlock_answerOp hs _
  | ridgeWake cube mask =>
    simp only [State.opExec]
    split
    · exact State.sameBlock_addJobs (State.sameBlock_opWait hs _ _ _) _
    · exact State.sameBlock_answerOp hs _
  | deviceReset co =>
    simp only [State.opExec]
    split
    · exact State.sameBlock_addJobs (State.sameBlock_opWait hs _ _ _) _
    · exact State.sameBlock_answerOp hs _
  | other c => exact State.sameBlock_answerOp hs _

/-- Settles O32: each clause is the rule above for its command. -/
theorem operatorCommandsTakeEffect : Obligations.OperatorCommandsTakeEffect := by
  refine ⟨fun s h id => ⟨fun x hx => State.opExec_sliceFree_of_live hx, fun hnone => State.opExec_sliceFree_of_none hnone⟩,
    fun s h kind n a b m i join => ⟨fun hbad => State.opExec_sliceAlloc_of_policy hbad, fun hlen hform hroom => ⟨fun x hx => ?fit,
      fun hnone => State.opExec_sliceAlloc_of_noShape hlen hform hroom hnone, fun hfit hpart => State.opExec_sliceAlloc_of_noPartition hlen hform hroom hfit hpart⟩⟩,
    fun s h img sig => ⟨fun hbad => State.opExec_planUpdate_of_old hbad, fun hacc hnew => ⟨fun huse => State.opExec_planUpdate_of_inUse hacc hnew huse,
      fun hall => State.opExec_planUpdate_of_new hacc hnew hall⟩⟩,
    fun s h n => rfl, fun s h c => ⟨fun hc => State.opExec_shapeRead_of_rack hc, fun hc => State.opExec_shapeRead_of_other hc⟩,
    fun s h co => ⟨fun p hp => ⟨fun hst => State.opExec_readmit_of_out hp hst, fun h5 h4 => State.opExec_readmit_of_in hp h5 h4⟩,
      fun hnone => State.opExec_readmit_of_none hnone⟩,
    fun s h co p body hp hlen hco hmode hkeep => ?power,
    fun s h cube n mask hm => ⟨State.opExec_ridgeStop hm, State.opExec_ridgeWake hm mask⟩,
    fun s h co p hp => State.opExec_deviceReset hp, fun s h c => s.opExec_sameBlock h c⟩
  case power => exact (State.opExec_powerSet_of_package hp hlen).trans (by rw [SummitSt.newCap_of_mode hmode hkeep])
  case fit =>
    have hsome : (s.slicePart x i).isSome = true := List.find?_some (p := fun x => (s.slicePart x i).isSome) hx
    have hpart : some ((s.slicePart x i).getD 0) = s.slicePart x i := by
      obtain ⟨q, hq⟩ := Option.isSome_iff_exists.1 hsome
      rw [hq]; rfl
    exact ⟨s.newSlice h i join x, State.opExec_sliceAlloc_of_fit hlen hform hroom hx, rfl, hpart, rfl, s.newSlice_state h i join x, rfl,
      fun hmax => by rw [s.newSlice_id h i join x]; exact freeSliceId_unused (by omega)⟩

end Sys2Proof.Machine
end

section
/-! Commands of the manager at a package (11 R436, 12 R481, 13 R509, 17 R630, R636, R638): how its management complex takes them, and what each reading, each
READMIT and each TIM_CMD makes of it. -/

namespace Sys2Proof.Machine

/-- Every command row answers with what its command finds and does, or BUSY while the complex is in reset. -/
theorem run_mcRow_answers {s : State} (hon : s.mgmtOn = true) (hsp : s.spUp = true) (hph : phMGMT ≤ s.boot.phase) (f : State → State × List Byte) :
    (s.mcReset = false → run (mcRow f) s = .next (s.finish ((f s).1.emit (.mcResponse (f s).2)))) ∧
      (s.mcReset = true → run (mcRow f) s = .next (s.finish (s.emit (.mcResponse mcBUSY)))) :=
  ⟨fun hmc => run_of_eq hon (mcRow_of_up hsp hph hmc), fun hmc => run_of_eq hon (mcRow_of_reset hsp hph hmc)⟩

theorem run_mcRow_down {s : State} (hs : s.settled = true) (h : s.spUp = false ∨ s.boot.phase < phMGMT) (f : State → State × List Byte) : run (mcRow f) s = .next s :=
  run_same hs (mcRow_of_down h)

/-! WS_READ and READMIT. -/

section
variable {s : State} {b : List Byte}

theorem wsRead_of_notNormal (hub : s.fld .flt F.FLT_STATE_STATE ≠ hubNORMAL) : wsRead b s = (s, mcREFUSED) := if_pos (by simp [hub])

theorem wsRead_of_normal (hub : s.fld .flt F.FLT_STATE_STATE = hubNORMAL) (hb : b ≠ []) (hlen : b.length % 4 = 0) :
    wsRead b s = (s, mcOK ++ (List.range (b.length / 4)).flatMap (fun i => wsEntry s ((b.drop (4 * i)).take 4))) := if_neg (by simp [hub, hb, hlen])

theorem wsRead_state (b : List Byte) (s : State) : (wsRead b s).1 = s := by unfold wsRead; split <;> rfl

/-- A package that leaves recovered-idle (13 R509). -/
def State.readmitHub (s : State) : State := (s.setFld .flt F.FLT_STATE_STATE hubNORMAL).setFld .pci F.PCI_STATUS_FATAL 0

theorem readmitMc_of_idle (hub : s.fld .flt F.FLT_STATE_STATE = hubRECOVERED_IDLE) : readmitMc s = (s.readmitHub, mcOK) := if_pos hub

theorem readmitMc_of_other (hub : s.fld .flt F.FLT_STATE_STATE ≠ hubRECOVERED_IDLE) : readmitMc s = (s, mcREFUSED) := if_neg hub

theorem State.readmitHub_hub : s.readmitHub.fld .flt F.FLT_STATE_STATE = hubNORMAL := by
  rw [State.readmitHub, State.fld_setFld_page _ _ _ _ (by decide) (by decide) (by decide), State.fld_setFld _ _ _ _ (by decide)]
  rfl

theorem State.readmitHub_fatal : s.readmitHub.fld .pci F.PCI_STATUS_FATAL = 0 := (State.fld_setFld _ _ _ _ (by decide)).trans (Nat.zero_mod _)

end

/-! TIM_CMDs. -/

theorem imgNat_singleton (n : Byte) : imgNat [n] 0 1 = n.toNat := by simp [imgNat, leNat]

section
variable {s : State} {b : List Byte}

theorem timAdj_of_notMaster (h : s.flag .tim F.TIM_STATUS_MASTER = false) : timAdj b s = (s, mcREFUSED) := if_pos (by simp [h])

theorem timStop_of_refused (h : s.flag .tim F.TIM_STATUS_MASTER = false ∨ s.ridgeOpen = false) : timStop b s = (s, mcREFUSED) :=
  if_pos (by rcases h with h | h <;> simp [h])

theorem timWake_of_refused (h : s.flag .tim F.TIM_STATUS_MASTER = false ∨ s.ridgeOpen = false) : timWake b s = (s, mcREFUSED) :=
  if_pos (by rcases h with h | h <;> simp [h])

/-- A correction of GTIME by a signed number of ticks joins the slew that runs (R636; log entry 48). -/
def State.addSlew (s : State) (n : Int) : State := State.showSlew { s with ridge := { s.ridge with slew := s.ridge.slew - n } }

theorem State.addSlew_slew (n : Int) : (s.addSlew n).ridge.slew = s.ridge.slew - n := by rw [State.addSlew, State.showSlew, State.setFld_ridge]

theorem State.addSlew_gtime (n : Int) : (s.addSlew n).gtime = s.gtime := by rw [State.addSlew, State.showSlew, State.setFld_gtime]

theorem State.addSlew_shows (n : Int) :
    (s.addSlew n).fld .tim F.TIM_STATUS_SLEWING = if s.ridge.hold ≠ 0 ∨ s.ridge.slew - n ≠ 0 then 1 else 0 := by
  rw [State.addSlew, State.showSlew, State.fld_setFld _ _ _ _ (by decide)]
  split
  case isTrue h => rw [decide_eq_true h]; rfl
  case isFalse h => rw [decide_eq_false h]; rfl

section
variable (hmaster : s.flag .tim F.TIM_STATUS_MASTER = true)
include hmaster

theorem timAdj_of_master (hlen : b.length = 8) : timAdj b s = (s.addSlew (BitVec.ofNat 64 (imgNat b 0 8)).toInt, mcOK) := if_neg (by simp [hlen, hmaster])

theorem timStop_of_master (hopen : s.ridgeOpen = true) : timStop [] s = ((s.emit (.ridge 2 [])).raise .tim 0x101 4 {}, mcOK) := if_neg (by simp [hmaster, hopen])

theorem timWake_of_master (hopen : s.ridgeOpen = true) (hlen : b.length = 8) : timWake b s =
    ((s.emit (.ridge 3 (leBytes (BitVec.ofNat 64 (imgNat b 0 8)).toNat 8))).woken (BitVec.ofNat 64 (imgNat b 0 8)), mcOK) := if_neg (by simp [hlen, hmaster, hopen])

end

/-- The mastership that a SET_MASTER gives or ends (R630, R638). -/
def State.setMaster (s : State) (on : Bool) : State :=
  State.setFld { s with ridge := { s.ridge with sent := if on && s.flag .tim F.TIM_STATUS_MASTER then s.ridge.sent else false } } .tim F.TIM_STATUS_MASTER on.toNat

theorem State.setMaster_shows (on : Bool) : (s.setMaster on).flag .tim F.TIM_STATUS_MASTER = on := by
  rw [State.setMaster, State.flag_setFld _ _ _ _ (by decide)]
  cases on <;> rfl

theorem timSetMaster_zero : timSetMaster [0] s = (s.setMaster false, mcOK) := rfl
theorem timSetMaster_one : timSetMaster [1] s = (s.setMaster true, mcOK) := rfl
theorem timSetMaster_two : timSetMaster [2] s = (s, mcREFUSED) := rfl

theorem timReadXfer_state (b : List Byte) (s : State) : (timReadXfer b s).1 = s := by simp only [timReadXfer]; split <;> rfl

theorem timReadXfer_of_rack {n : Byte} (hlo : 18 ≤ n.toNat) (hhi : n.toNat < 24) :
    let x := Store.get (fun _ => {}) s.xfers n.toNat
    timReadXfer [n] s = (s, mcOK ++ leBytes x.txF.toNat 8 ++ leBytes x.txT.toNat 8 ++ leBytes x.rxF.toNat 8 ++ leBytes x.rxT.toNat 8) := by
  simp only [timReadXfer, imgNat_singleton]
  exact if_neg (by simp [hlo, hhi])

theorem timReadXfer_of_other {n : Byte} (h : n.toNat < 18 ∨ 24 ≤ n.toNat) : timReadXfer [n] s = (s, mcREFUSED) := by
  simp only [timReadXfer, imgNat_singleton]
  exact if_pos (by simpa using h)

end

/-- Settles O33: a command's row answers for its complex, and each command's clause is the rule above for it. -/
theorem membersAnswerTheirCommands : Obligations.MembersAnswerTheirCommands := by
  refine ⟨fun s b hon hsp hph => ?up, fun s b hs h => ?down, fun s b => ⟨wsRead_state b s, rfl, timReadXfer_state b s, wsRead_of_notNormal,
      fun hub hb hlen => congrArg Prod.snd (wsRead_of_normal hub hb hlen)⟩,
    fun s => ⟨fun hub => ?readmit, readmitMc_of_other⟩,
    fun s b h => ⟨timAdj_of_notMaster h, timStop_of_refused (.inl h), timWake_of_refused (.inl h)⟩,
    fun s b h => ⟨timStop_of_refused (.inr h), timWake_of_refused (.inr h)⟩,
    fun s b hmaster hopen => ⟨timStop_of_master hmaster hopen, fun hlen => timWake_of_master hmaster hopen hlen⟩,
    fun s b hmaster hlen => ⟨_, timAdj_of_master hmaster hlen, State.addSlew_slew _, State.addSlew_gtime _, ?slewing⟩,
    fun s => ⟨s.setMaster_shows true, s.setMaster_shows false, rfl, rfl, timSetMaster_two⟩,
    fun s n => ⟨timReadXfer_of_rack, timReadXfer_of_other⟩⟩
  case up =>
    have answers := run_mcRow_answers hon hsp hph
    exact ⟨answers _, answers _, answers _, answers _, answers _, answers _, answers _, answers _, answers _, answers _, answers _, answers _, answers _, answers _,
      answers _, answers _, answers _, answers _⟩
  case down =>
    have down := run_mcRow_down hs h
    exact ⟨down _, down _, down _, down _, down _, down _, down _, down _, down _, down _, down _, down _, down _, down _, down _, down _, down _, down _⟩
  case readmit =>
    rw [readmitMc_of_idle hub]
    exact ⟨rfl, State.readmitHub_hub, State.readmitHub_fatal, by simp [State.readmitHub], by simp [State.readmitHub]⟩
  case slewing => rw [State.addSlew_shows, State.addSlew_slew]

end Sys2Proof.Machine
end


section
/-! The partitions held (14 R526): no fault, record, signal or abort names or drops one, so they stay through all that ends a partition's entries. -/

namespace Sys2Proof.Machine

section
variable (s : State) (c : CDie) (p : Part)

/-! What the hub shows and tells. -/

@[simp] theorem State.notify_parts (k type : Nat) (body : List Byte) : (s.notify k type body).parts = s.parts := by
  simp [State.notify, apply_ite State.parts, apply_dite State.parts]

@[simp] theorem State.notifyPart_parts : (s.notifyPart p).parts = s.parts := s.notify_parts _ _ _

@[simp] theorem State.showVf_parts : (s.showVf p).parts = s.parts := by simp [State.showVf]

@[simp] theorem State.showConf_parts : s.showConf.parts = s.parts := by simp [State.showConf]

@[simp] theorem State.disarmAll_parts : s.disarmAll.parts = s.parts := rfl

/-! The aborts of running entries. -/

@[simp] theorem State.retire_parts (r : Req) : (s.retire r).parts = s.parts := by
  simp only [State.retire, apply_ite State.parts, State.updWindow_parts, ite_self]

@[simp] theorem State.retireAll_parts (q : Req → Bool) : (s.retireAll q).parts = s.parts := foldl_keeps (g := State.parts) State.retire_parts _ s

@[simp] theorem State.abortSweeps_parts (q : QRef → Bool) (st : Nat) : (s.abortSweeps c q st).parts = s.parts := by
  simp only [State.abortSweeps, apply_ite State.parts, State.setMsf_parts, State.setArray_parts, ite_self]

@[simp] theorem State.abortDispatches_parts (q : QRef → Bool) (st : Nat) : (s.abortDispatches q st).parts = s.parts := rfl

@[simp] theorem State.abortDma_parts (q : QRef → Bool) (st : Nat) : (s.abortDma q st).parts = s.parts := State.retireAll_parts _ _

@[simp] theorem State.abortAllSweeps_parts (q : QRef → Bool) (st : Nat) : (allCDies.foldl (fun t c => t.abortSweeps c q st) s).parts = s.parts :=
  foldl_keeps (g := State.parts) (fun t c => t.abortSweeps_parts c q st) _ s

@[simp] theorem State.killPart_parts : (s.killPart p).parts = s.parts := by
  simp only [State.killPart, State.abortDma_parts, State.abortDispatches_parts, State.abortAllSweeps_parts]
  rfl

/-! The reactions to a fault. -/

@[simp] theorem State.c2React_parts (x : Ctx) : (s.c2React c p x).parts = s.parts := by simp [State.c2React]

@[simp] theorem State.c3React_parts : (s.c3React p).parts = s.parts := by
  simp only [State.c3React, apply_ite State.parts, State.killPart_parts, State.notifyPart_parts, State.showVf_parts, State.setPartState_parts, ite_self]

@[simp] theorem State.agentEvent_parts (k : PDie) (code port st cause : Nat) (serial : BitVec 128) : (s.agentEvent k code port st cause serial).parts = s.parts := by
  simp [State.agentEvent, apply_ite State.parts]

@[simp] theorem State.goDark_parts (q : Port) : (s.goDark q).parts = s.parts := by
  unfold State.goDark
  split <;> simp

@[simp] theorem State.setLnk_parts (q : Port) (st : Nat) (byAgent : Bool) : (s.setLnk q st byAgent).parts = s.parts := by
  simp [State.setLnk, apply_ite State.parts]

@[simp] theorem State.haltDie_parts : (s.haltDie c).parts = s.parts := by
  simp only [State.haltDie, apply_ite State.parts, State.setMsf_parts, ite_self]

@[simp] theorem State.setStep_parts (k : Nat) : (s.setStep c k).parts = s.parts := by
  simp [State.setStep, apply_ite State.parts]

@[simp] theorem State.stopLoop_parts : (s.stopLoop c).parts = s.parts := by simp [State.stopLoop, State.askVoltage]

@[simp] theorem State.safeState_parts : s.safeState.parts = s.parts := by
  have hhalt (t : State) : (allCDies.foldl (fun t c => t.haltDie c) t).parts = t.parts := foldl_keeps (g := State.parts) State.haltDie_parts _ t
  have hports (t : State) : (allPorts.foldl (fun t q => (t.setLnk q lkSAFE).wr (Page.base (.lnk q) + F.LNK_QUAL_LOCAL_PASS.off) 0) t).parts = t.parts :=
    foldl_keeps (g := State.parts) (fun t q => (State.wr_parts _ _ _).trans (t.setLnk_parts q lkSAFE false)) _ t
  have hstop (t : State) : (allCDies.foldl State.stopLoop t).parts = t.parts := foldl_keeps (g := State.parts) State.stopLoop_parts _ t
  simp only [State.safeState, hstop, State.emit_parts, State.setFld_parts, hports, hhalt]

@[simp] theorem State.c4React_parts (g : Page) (code : Nat) : (s.c4React g code).parts = s.parts := by
  have hsafe (t : State) : (match t.fld .flt F.FLT_STATE_STATE with | 4 => t | 1 => t | _ => t.safeState).parts = t.parts := by split <;> simp
  exact (hsafe _).trans (by simp [apply_ite State.parts])

@[simp] theorem State.react_parts (g : Page) (code cls : Nat) (sc : Scope) : (s.react g code cls sc).parts = s.parts := by
  simp only [State.react]
  split
  · simp
  · split
    · rfl
    · split
      · split <;> simp
      · split
        · split <;> simp
        · rfl

/-! Raising a fault. -/

@[simp] theorem State.logEntry_parts (e : LogEntry) : (s.logEntry e).parts = s.parts := by
  unfold State.logEntry
  split
  · rfl
  · split
    · simp
    · split <;> simp

@[simp] theorem State.notifyFault_parts (e : LogEntry) : (s.notifyFault e).parts = s.parts := by
  unfold State.notifyFault
  split
  · split <;> simp
  · simp

@[simp] theorem State.interrupts_parts (g : Page) (cls : Nat) (sc : Scope) (unlogged : Bool) : (s.interrupts g cls sc unlogged).parts = s.parts := by
  simp [State.interrupts, apply_ite State.parts]

@[simp] theorem State.raise_parts (g : Page) (code cls : Nat) (sc : Scope) (inj : Bool) : (s.raise g code cls sc inj).parts = s.parts := by
  unfold State.raise
  cases sc.part <;> simp [apply_ite State.parts]

/-! Memory and Tarn accesses. -/

@[simp] theorem State.injFired_parts (g : Page) : (s.injFired g).parts = s.parts := by simp [State.injFired, apply_ite State.parts]

@[simp] theorem State.logRepair_parts (e : EccFind) : (s.logRepair c e).parts = s.parts := by simp only [State.logRepair, apply_ite State.parts, ite_self]

@[simp] theorem State.rowRemap_parts (e : EccFind) : (s.rowRemap c e).parts = s.parts := by simp [State.rowRemap, apply_ite State.parts]

@[simp] theorem State.errLoc_parts (e : EccFind) (patrol : Bool) : (s.errLoc c e patrol).parts = s.parts := by
  simp only [State.errLoc, State.wr_parts]

@[simp] theorem State.eccCorrected_parts (e : EccFind) (patrol : Bool) : (s.eccCorrected c e patrol).parts = s.parts := by
  simp [State.eccCorrected, apply_ite State.parts]

theorem State.foldl_eccCorrected_parts (l : List EccFind) (t : State) : (l.foldl (fun t e => t.eccCorrected c e false) t).parts = t.parts := by
  induction l generalizing t with
  | nil => rfl
  | cons e l ih => rw [List.foldl_cons, ih, State.eccCorrected_parts]

@[simp] theorem State.eccApply_parts (found : List (Nat × EccFind)) (sc : Scope) : (s.eccApply c found sc).1.parts = s.parts := by
  have hlog (l : List EccFind) (t : State) : (l.foldl (fun t e => t.logRepair c e) t).parts = t.parts :=
    foldl_keeps (g := State.parts) (fun t e => t.logRepair_parts c e) l t
  cases hfirst : ((found.map (·.2)).filter (fun e => e.sym.isNone)).head? <;>
    simp only [State.eccApply, hfirst, apply_ite Prod.fst, apply_ite State.parts, State.raise_parts, State.errLoc_parts, State.bump_parts, State.injFired_parts, hlog,
      State.foldl_eccCorrected_parts, ite_self]

@[simp] theorem State.tarnEccApply_parts (fs : List (Nat × Bool)) (sc : Scope) : (s.tarnEccApply c fs sc).1.parts = s.parts := by
  have hlast (l : List (Nat × Bool)) (t : State) : (l.foldl (fun t e =>
      t.wr (Page.base (.trn c) + 0x218) (BitVec.ofNat 32 (e.1 % 0x2000000 + (e.2.toNat) <<< 31))) t).parts = t.parts :=
    foldl_keeps (g := State.parts) (fun t e => State.wr_parts t _ _) l t
  cases hinj : s.injection (.trn c) 0 <;>
    simp only [State.tarnEccApply, hinj, State.free, apply_ite Prod.fst, apply_ite State.parts, State.raise_parts, State.bump_parts, State.injFired_parts,
      State.wr_parts, hlast, ite_self]

@[simp] theorem State.refuse_parts (write : Bool) (addr : Nat) : (s.refuse c p write addr).parts = s.parts := by
  simp [State.refuse, apply_ite State.parts]

@[simp] theorem State.fencedDrop_parts (d : CDie) : (s.fencedDrop c d).parts = s.parts := by simp [State.fencedDrop]

@[simp] theorem State.readTarn_parts (sc : Scope) (off len : Nat) (o : Obs) : (s.readTarn c sc p off len o).1.parts = s.parts := by
  simp only [State.readTarn, apply_ite Prod.fst, apply_ite State.parts, State.tarnEccApply_parts, ite_self]

@[simp] theorem State.readBoard_parts (sc : Scope) (a len : Nat) (o : Obs) (wr : Bool) : (s.readBoard c sc p a len o wr).1.parts = s.parts := by
  unfold State.readBoard
  split
  · simp
  · cases placeOf a <;>
      simp only [apply_ite Prod.fst, apply_ite State.parts, State.refuse_parts, State.fencedDrop_parts, State.emit_parts, State.eccApply_parts,
        State.readTarn_parts, ite_self]

@[simp] theorem State.memPutExcept_parts (bad : List Nat) (bs : List Byte) (k : Nat) : (s.memPutExcept bad k bs).parts = s.parts := by
  induction bs generalizing s k with
  | nil => rfl
  | cons b r ih => simp only [State.memPutExcept, ih, apply_ite State.parts, ite_self]

@[simp] theorem State.heal_parts (off len : Nat) : (s.heal c off len).parts = s.parts := rfl

@[simp] theorem State.commitMem_parts (sc : Scope) (off : Nat) (bs : List Byte) (o : Obs) : (s.commitMem c sc off bs o).1.parts = s.parts := by
  simp only [State.commitMem, apply_ite Prod.fst, apply_ite State.parts, State.memPutExcept_parts, State.memPut_parts, State.heal_parts, State.eccApply_parts,
    ite_self]

@[simp] theorem State.writeBoard_parts (sc : Scope) (a : Nat) (bs : List Byte) (o : Obs) : (s.writeBoard c sc p a bs o).1.parts = s.parts := by
  unfold State.writeBoard
  split
  · simp
  · cases placeOf a <;>
      simp only [apply_ite Prod.fst, apply_ite State.parts, State.refuse_parts, State.fencedDrop_parts, State.emit_parts, State.commitMem_parts,
        State.tarnPut_parts, ite_self]

/-! Packets of the engines, and the completion of an entry. -/

@[simp] theorem State.launch_parts (r : Req) : (s.launch r).parts = s.parts := by
  simp only [State.launch, State.sendFrom, State.showWinUse, State.emit_parts, State.setFld_parts, State.bump_parts, State.updWindow_parts, apply_ite State.parts,
    ite_self]

theorem State.pumpList_parts (before rs : List Req) : (s.pumpList before rs).1.parts = s.parts := by
  induction rs generalizing s before with
  | nil => rfl
  | cons r rest ih =>
    unfold State.pumpList
    split
    · exact ih _ _
    · split
      · exact ih _ _
      · exact (ih _ _).trans (s.launch_parts r)

@[simp] theorem State.pump_parts : s.pump.parts = s.parts := by
  simp only [State.pump, apply_ite State.parts, State.pumpList_parts, ite_self]

@[simp] theorem State.issue_parts (rs : List Req) : (s.issue rs).parts = s.parts := by
  refine (foldl_keeps (g := State.parts) (fun t r => ?_) rs _).trans (State.pump_parts _)
  split
  · split <;> simp
  · split <;> simp
  · rfl

@[simp] theorem State.sendSignal_parts (q : QRef) (abort : Bool) (dst : Coord) (cairn : Nat) (gen : BitVec 16) (bit retries : Nat) (dma : Bool) :
    (s.sendSignal q abort dst cairn gen bit retries dma).parts = s.parts := State.issue_parts _ _

@[simp] theorem State.msixSend_parts (f : Fn) (v : Nat) : (s.msixSend f v).parts = s.parts := by
  simp [State.msixSend, apply_ite State.parts]

@[simp] theorem State.putRecord_parts (q : QRef) (addr : Nat) (bs : List Byte) : (s.putRecord q addr bs).parts = s.parts := State.writeBoard_parts _ _ _ _ _ _ _

@[simp] theorem State.completeUnrun_parts (q : QRef) (d : List Byte) (status : Nat) : (s.completeUnrun q d status).parts = s.parts := by
  unfold State.completeUnrun
  cases q.kind <;>
    simp only [State.completeSweep, State.completeDispatch, State.completeDma, apply_ite State.parts, State.msixSend_parts, State.sendSignal_parts,
      State.bump_parts, State.putRecord_parts, ite_self]

@[simp] theorem State.completeRing_parts (r : QRef) (st n : Nat) (i : BitVec 24) : (s.completeRing r st n i).parts = s.parts := by
  induction n generalizing s i with
  | zero => rfl
  | succ n ih => simp only [State.completeRing, ih, apply_ite State.parts, State.completeUnrun_parts, State.readBoard_parts, ite_self]

theorem State.foldl_completeUnrun_parts (r : QRef) (st : Nat) (l : List Entry) (t : State) :
    (l.foldl (fun s e => s.completeUnrun r e.bytes st) t).parts = t.parts := by
  induction l generalizing t with
  | nil => rfl
  | cons e l ih => rw [List.foldl_cons, ih, State.completeUnrun_parts]

theorem State.foldl_completeRing_parts (r : QRef) (st : Nat) (l : List (BitVec 24)) (t : State) :
    (l.foldl (fun s i => s.completeRing r st 1 i) t).parts = t.parts := by
  induction l generalizing t with
  | nil => rfl
  | cons i l ih => rw [List.foldl_cons, ih, State.completeRing_parts]

/-- Flushing a queue leaves every partition held. -/
@[simp] theorem State.flushQueue_parts (r : QRef) (st : Nat) : (s.flushQueue r st).parts = s.parts := by
  simp only [State.flushQueue, State.foldl_completeRing_parts, State.foldl_completeUnrun_parts, apply_ite State.parts, State.setArray_parts,
    State.setQueue_parts, ite_self]

theorem State.foldl_flushQueue_parts (st : Nat) (l : List QRef) (t : State) : (l.foldl (fun t r => t.flushQueue r st) t).parts = t.parts := by
  induction l generalizing t with
  | nil => rfl
  | cons r l ih => rw [List.foldl_cons, ih, State.flushQueue_parts]

end

end Sys2Proof.Machine
end


section
/-! A partition joins, leaves and stops (11 R435, R437, 14 R526, R527). -/

namespace Sys2Proof.Machine

/-! The lowest place that fits is below the limit. -/

/-- A fold that takes an element or leaves what it holds ends with what it held first or with an element. -/
theorem foldl_eq_or_mem {α : Type} {step : Option α → α → Option α} (hstep : ∀ o a, step o a = some a ∨ step o a = o) (l : List α) (o : Option α) {m : α}
    (h : l.foldl step o = some m) : o = some m ∨ m ∈ l := by
  induction l generalizing o with
  | nil => exact .inl h
  | cons a l ih =>
    rcases ih (step o a) h with hheld | hmem
    · rcases hstep o a with htake | hleave
      · exact .inr (List.mem_cons.2 (.inl (Option.some.inj (hheld.symm.trans htake))))
      · exact .inl (hleave.symm.trans hheld)
    · exact .inr (List.mem_cons_of_mem a hmem)

theorem lowestFit_lt {limit n m : Nat} {used : List (Nat × Nat)} (hlimit : 0 < limit) (h : lowestFit limit n used = some m) : m < limit := by
  unfold lowestFit at h
  split at h
  · exact Option.some.inj h ▸ hlimit
  · have hstep (o : Option Nat) (a : Nat) : (match o with | none => some a | some x => some (min x a)) = some a ∨
        (match o with | none => some a | some x => some (min x a)) = o := by
      cases o with
      | none => exact .inl rfl
      | some x => exact (Nat.le_total a x).imp (fun h => congrArg some (Nat.min_eq_right h)) (fun h => congrArg some (Nat.min_eq_left h))
    rcases foldl_eq_or_mem hstep _ _ h with hheld | hmem
    · cases hheld
    · have hfit : m + n ≤ limit := of_decide_eq_true (Bool.and_eq_true_iff.1 (List.mem_filter.1 hmem).2).1
      omega

section
variable {s : State} {b : List Byte} {p : Part} {c : CDie} {g t k gt : Nat}

theorem State.granFit_eq_some (h : s.granFit c = some g) : s.granFree c g = true ∧ g < 768 ∧ ∀ h < g, s.granFree c h = false := by
  rw [State.granFit, List.find?_range_eq_some] at h
  obtain ⟨hfree, hmem, hlower⟩ := h
  exact ⟨hfree, List.mem_range.1 hmem, fun i hi => by simpa using hlower i hi⟩

/-- The sizes a well formed body asks for fit the dies' storage. -/
theorem joinForm_sizes (h : joinForm b = true) : sjTARN b ≤ 4096 ∧ sjCAIRNS b ≤ 8192 := by
  simp only [joinForm, Bool.and_eq_true, decide_eq_true_eq] at h
  obtain ⟨⟨⟨⟨⟨⟨-, htarn⟩, hcairns⟩, -⟩, -⟩, -⟩, -⟩ := h
  exact ⟨htarn, hcairns⟩

/-! One die of a SLICE_JOIN: its spans, then its rings. -/

/-- Two fields of one register word, replaced. -/
theorem State.fld_setFld_pair (s : State) (g : Page) {lo hi : Field} (v w : Nat) (hapart : lo.lsb + lo.width ≤ hi.lsb) (hfit : hi.lsb + hi.width ≤ 32) :
    ((s.setFld g lo v).setFld g hi w).fld g lo = v % 2 ^ lo.width ∧ ((s.setFld g lo v).setFld g hi w).fld g hi = w % 2 ^ hi.width :=
  ⟨(State.fld_setFld_other _ _ _ _ _ (.inr hapart)).trans (State.fld_setFld _ _ _ _ (by omega)), State.fld_setFld _ _ _ _ hfit⟩

/-- The die with the granule, the Tarn and the cairns taken for the partition, and the granule zeroed. -/
def State.takeSpans (s : State) (b : List Byte) (p : Part) (c : CDie) (g t k : Nat) : State :=
  (((s.setMemRange c p 0 (g, 1)).memZero c (g * memGran) memGran).setTarnPart c p (t, sjTARN b)).setCairnRange c p k (sjCAIRNS b)

/-- The die with the partition's queues enabled, their rings in the granule. -/
def State.openRings (s : State) (b : List Byte) (p : Part) (c : CDie) (g gt : Nat) : State :=
  ((List.finRange 8).filter (fun x => x.val < sjCONTEXTS b)).foldl (fun t x =>
    (List.finRange 16).foldl (fun u q => u.setQueue ⟨c, p, x, q⟩
      { enable := true, base := ringBase (s.pos * posSpan + c.val * memSpan + g * memGran) (sjLOG2 b) x.val q.val, log2 := sjLOG2 b, gateTo := gt }) t) s

/-- The rings change the queues alone. -/
theorem State.openRings_keeps {β : Type} {f : State → β} (hf : ∀ t r q, f (t.setQueue r q) = f t) (s : State) : f (s.openRings b p c g gt) = f s :=
  foldl_keeps (fun u x => foldl_keeps (fun u q => hf u ⟨c, p, x, q⟩ _) _ u) _ s

section
variable (hg : s.granFit c = some g) (ht : s.tarnFit c (sjTARN b) = some t) (hk : s.cairnFit c (sjCAIRNS b) = some k)
include hg ht hk

theorem State.joinDie_of_fit : s.joinDie b p gt c = (s.takeSpans b p c g t k).openRings b p c g gt := by
  unfold State.joinDie
  rw [hg, ht, hk, State.openRings, State.takeSpans, State.setMemRange, State.setTarnPart, State.setCairnRange, Nat.add_zero]

/-- What no queue shows is of the spans taken. -/
theorem State.joinDie_shows {β : Type} {f : State → β} (hf : ∀ t r q, f (t.setQueue r q) = f t) : f (s.joinDie b p gt c) = f (s.takeSpans b p c g t k) := by
  rw [State.joinDie_of_fit hg ht hk, State.openRings_keeps hf]

end

/-! What the die shows then. The three blocks have a page each, and each die its own. -/

theorem memRange_off_lt (p : Part) : 0x400 + 4 * (4 * p.val + 0) < 0x1000 := by omega

theorem part_off_lt (p : Part) : 0x100 + 4 * p.val < 0x1000 := by omega

theorem State.fld_setMemRange_page {pg : Page} {f : Field} (span : Nat × Nat) (hf : f.off < 0x1000) (hne : .mem c ≠ pg) :
    (s.setMemRange c p 0 span).fld pg f = s.fld pg f :=
  (State.fld_setFld_page _ _ _ _ (memRange_off_lt p) hf hne).trans (State.fld_setFld_page _ _ _ _ (memRange_off_lt p) hf hne)

theorem State.fld_setTarnPart_page {pg : Page} {f : Field} (span : Nat × Nat) (hf : f.off < 0x1000) (hne : .trn c ≠ pg) :
    (s.setTarnPart c p span).fld pg f = s.fld pg f :=
  (State.fld_setFld_page _ _ _ _ (part_off_lt p) hf hne).trans (State.fld_setFld_page _ _ _ _ (part_off_lt p) hf hne)

theorem State.fld_setCairnRange_page {pg : Page} {f : Field} (base size : Nat) (hf : f.off < 0x1000) (hne : .crn c ≠ pg) :
    (s.setCairnRange c p base size).fld pg f = s.fld pg f :=
  (State.fld_setFld_page _ _ _ _ (part_off_lt p) hf hne).trans (State.fld_setFld_page _ _ _ _ (part_off_lt p) hf hne)

/-- Taking the spans shows in the memory pages as the range alone. -/
theorem State.memRange_takeSpans (e : CDie) : (s.takeSpans b p c g t k).memRange e p 0 = (s.setMemRange c p 0 (g, 1)).memRange e p 0 := by
  have hkeep {f : Field} (hf : f.off < 0x1000) : (s.takeSpans b p c g t k).fld (.mem e) f = (s.setMemRange c p 0 (g, 1)).fld (.mem e) f := by
    rw [State.takeSpans, State.fld_setCairnRange_page _ _ hf (by simp), State.fld_setTarnPart_page _ hf (by simp), State.memZero_fld]
  exact Prod.ext (hkeep (memRange_off_lt p)) (hkeep (memRange_off_lt p))

theorem State.memRange_takeSpans_self (hg : g < 768) : (s.takeSpans b p c g t k).memRange c p 0 = (g, 1) := by
  obtain ⟨hbase, hsize⟩ := s.fld_setFld_pair (.mem c) (lo := F.MEM_RANGE_BASE (4 * p.val + 0)) (hi := F.MEM_RANGE_SIZE (4 * p.val + 0)) g 1 (Nat.le_refl 10)
    (show 20 ≤ 32 by decide)
  rw [State.memRange_takeSpans]
  exact Prod.ext (hbase.trans (Nat.mod_eq_of_lt (show g < 1024 by omega))) hsize

theorem State.memRange_takeSpans_ne {e : CDie} (h : e ≠ c) : (s.takeSpans b p c g t k).memRange e p 0 = s.memRange e p 0 := by
  have hpage : Page.mem c ≠ Page.mem e := fun heq => h (Page.mem.inj heq).symm
  rw [State.memRange_takeSpans]
  exact Prod.ext (State.fld_setMemRange_page _ (memRange_off_lt p) hpage) (State.fld_setMemRange_page _ (memRange_off_lt p) hpage)

theorem State.tarnAlloc_takeSpans (ht : t < 4096) (hn : sjTARN b ≤ 4096) : (s.takeSpans b p c g t k).tarnAlloc c p = (t * tarnGran, sjTARN b * tarnGran) := by
  obtain ⟨hbase, hsize⟩ := ((s.setMemRange c p 0 (g, 1)).memZero c (g * memGran) memGran).fld_setFld_pair (.trn c) (lo := F.TRN_PART_BASE p.val)
    (hi := F.TRN_PART_SIZE p.val) t (sjTARN b) (Nat.le_refl 12) (show 25 ≤ 32 by decide)
  rw [State.tarnAlloc, State.takeSpans, State.fld_setCairnRange_page _ _ (part_off_lt p) (by simp), State.fld_setCairnRange_page _ _ (part_off_lt p) (by simp)]
  exact Prod.ext (congrArg (· * tarnGran) (hbase.trans (Nat.mod_eq_of_lt ht)))
    (congrArg (· * tarnGran) (hsize.trans (Nat.mod_eq_of_lt (show sjTARN b < 8192 by omega))))

theorem State.cairnRange_takeSpans (hk : k < 8192) (hn : sjCAIRNS b ≤ 8192) : (s.takeSpans b p c g t k).cairnRange c p = (k, sjCAIRNS b) := by
  obtain ⟨hbase, hsize⟩ := (((s.setMemRange c p 0 (g, 1)).memZero c (g * memGran) memGran).setTarnPart c p (t, sjTARN b)).fld_setFld_pair (.crn c)
    (lo := F.CRN_PART_BASE p.val) (hi := F.CRN_PART_SIZE p.val) k (sjCAIRNS b) (Nat.le_refl 13) (show 27 ≤ 32 by decide)
  exact Prod.ext (hbase.trans (Nat.mod_eq_of_lt hk)) (hsize.trans (Nat.mod_eq_of_lt (show sjCAIRNS b < 16384 by omega)))

/-- Of memory, only the granule changes. -/
theorem State.memByte_takeSpans (e : CDie) (off : Nat) : (s.takeSpans b p c g t k).memByte e off = (s.memZero c (g * memGran) memGran).memByte e off := by
  simp only [State.takeSpans, State.setCairnRange, State.setTarnPart, State.setMemRange, State.setFld_memByte, State.memByte_memZero]

end

/-! SLICE_JOIN. -/

@[simp] theorem State.partQ_setPart_self (s : State) (p : Part) (x : Option PartSt) : (s.setPart p x).part? p = x := Store.get_set_self _ _ _ _

theorem State.partQ_congr {s u : State} (h : s.parts = u.parts) (p : Part) : s.part? p = u.part? p := congrArg (fun m => Store.get (fun _ => none) m p.val) h

section
variable {s : State} {b : List Byte} {p : Part} {x : PartSt}

/-- What joinOk asks, one by one. -/
theorem State.joinOk_iff : s.joinOk b p = true ↔ joinForm b = true ∧ s.fld .flt F.FLT_STATE_STATE = hubNORMAL ∧ s.part? p = none ∧
    (s.partState p = ptNORMAL ∨ s.partState p = ptCLEARED) ∧ s.fuses.lifecycle ≠ 2 ∧ (sjCONF b = true → s.fld .sec F.SEC_STATUS_DEBUG = 0) ∧
    s.joinDies p ≠ [] ∧
    ∀ c ∈ s.joinDies p, (s.tarnFit c (sjTARN b)).isSome = true ∧ (s.cairnFit c (sjCAIRNS b)).isSome = true ∧ (s.granFit c).isSome = true := by
  simp [State.joinOk, and_assoc, Decidable.imp_iff_not_or]

theorem sliceJoin_of_refused (hp : sjPART b = p.val) (h : s.joinOk b p = false) : sliceJoin b s = (s, mcREFUSED) := by
  have hlt : sjPART b < 64 := hp ▸ p.isLt
  obtain rfl : p = ⟨sjPART b, hlt⟩ := Fin.ext hp.symm
  rw [sliceJoin, dif_pos hlt]
  exact if_pos (by rw [h]; rfl)

/-- The partition a SLICE_JOIN holds. -/
def State.heldPart (s : State) (b : List Byte) (p : Part) : PartSt :=
  ⟨b.take 16, sjCONTEXTS b, sjLOG2 b, sjTARN b, sjCAIRNS b, sjCONF b, (b.drop 32).take 64, s.joinDies p, none, false, false, false⟩

/-- The dies of a SLICE_JOIN, each with what the partition takes of it. -/
def State.joinAll (s : State) (b : List Byte) (p : Part) : State := (s.joinDies p).foldl (fun t c => t.joinDie b p (s.free.1.toNat % 32) c) s.free.2

/-- An admitted SLICE_JOIN is answered OK and holds the partition it asks for. -/
theorem sliceJoin_of_admitted (hp : sjPART b = p.val) (h : s.joinOk b p = true) :
    (sliceJoin b s).2 = mcOK ∧ (sliceJoin b s).1.part? p = some (s.heldPart b p) := by
  have hlt : sjPART b < 64 := hp ▸ p.isLt
  obtain rfl : p = ⟨sjPART b, hlt⟩ := Fin.ext hp.symm
  rw [sliceJoin, dif_pos hlt]
  dsimp only
  rw [if_neg (by rw [h]; decide)]
  refine ⟨rfl, (State.partQ_congr ?_ _).trans (State.partQ_setPart_self (s.joinAll b ⟨sjPART b, hlt⟩) _ _)⟩
  simp only [State.notifyPart_parts, State.showVf_parts, apply_ite State.parts, State.disarmAll_parts, State.showConf_parts, State.setPartState_parts, ite_self]
  rfl

/-! SLICE_LEAVE and SLICE_STOP. -/

theorem State.namedPart_eq_some (h : s.namedPart b = some (p, x)) : s.part? p = some x ∧ imgNat b 2 1 = p.val ∧ imgNat x.sliceDesc 0 2 = imgNat b 0 2 := by
  unfold State.namedPart at h
  split at h
  · split at h
    case h_1 hheld =>
      split at h
      case isTrue hslice =>
        obtain ⟨rfl, rfl⟩ := Prod.mk.inj (Option.some.inj h)
        exact ⟨hheld, rfl, beq_iff_eq.1 hslice⟩
      case isFalse => cases h
    case h_2 => cases h
  · cases h

theorem sliceLeave_of_unnamed (h : s.namedPart b = none) : sliceLeave b s = (s, mcREFUSED) := by simp only [sliceLeave, h]

theorem sliceStop_of_unnamed (h : s.namedPart b = none) : sliceStop b s = (s, mcREFUSED) := by simp only [sliceStop, h]

theorem sliceLeave_of_hub (hhub : s.fld .flt F.FLT_STATE_STATE ≠ hubNORMAL) : sliceLeave b s = (s, mcREFUSED) := by
  unfold sliceLeave
  split
  · rfl
  · exact if_pos (bne_iff_ne.2 hhub)

theorem sliceStop_of_hub (hhub : s.fld .flt F.FLT_STATE_STATE ≠ hubNORMAL) : sliceStop b s = (s, mcREFUSED) := by
  unfold sliceStop
  split
  · rfl
  · exact if_pos (bne_iff_ne.2 hhub)

section
variable (hnamed : s.namedPart b = some (p, x)) (hhub : s.fld .flt F.FLT_STATE_STATE = hubNORMAL)
include hnamed hhub

theorem sliceLeave_of_scrub (h : s.partFenced p = true) : sliceLeave b s = (s.setPart p (some { x with leaving := true }), mcBUSY) := by
  simp only [sliceLeave, hnamed]
  rw [if_neg (by rw [hhub]; decide), if_pos h]

theorem sliceLeave_of_free (h : s.partFenced p = false) : sliceLeave b s =
    (((((s.setPart p (some { x with leaving := true })).setPartState p ptSCRUBBING).killPart p).showVf p).notifyPart p |>.showScrub, mcOK) := by
  simp only [sliceLeave, hnamed]
  rw [if_neg (by rw [hhub]; decide), if_neg (by rw [h]; decide)]

theorem sliceStop_of_ended (h : x.stopped = true ∨ s.partFenced p = true) : sliceStop b s = (s, mcOK) := by
  simp only [sliceStop, hnamed]
  rw [if_neg (by rw [hhub]; decide), if_pos (Bool.or_eq_true_iff.2 h)]

/-- A SLICE_STOP of a partition that runs keeps all of it but that it is stopped. -/
theorem sliceStop_of_running (hrun : x.stopped = false) (hfree : s.partFenced p = false) :
    (sliceStop b s).2 = mcOK ∧ (sliceStop b s).1.part? p = some { x with stopped := true } := by
  simp only [sliceStop, hnamed]
  rw [if_neg (by rw [hhub]; decide), if_neg (by rw [hrun, hfree]; decide)]
  refine ⟨rfl, (State.partQ_congr ?_ p).trans (State.partQ_setPart_self s p _)⟩
  simp only [State.abortDma_parts, State.abortDispatches_parts, State.abortAllSweeps_parts, State.foldl_flushQueue_parts]

end

end
/-- Settles O34: a SLICE_JOIN holds what it asks for where joinOk admits it, each die's part of it is read from the spans it takes, and SLICE_LEAVE and
SLICE_STOP split by the partition named, the hub and the scrub. -/
theorem partitionsJoinLeaveAndStop : Obligations.PartitionsJoinLeaveAndStop := by
  refine ⟨fun s b p hp => ⟨sliceJoin_of_refused hp, fun h => ?admitted⟩, fun s b p gt g t k c hform hg ht hk => ?die, fun s c g h => s.granFit_eq_some h,
    fun s b p x hnamed hhub => ⟨sliceLeave_of_scrub hnamed hhub, sliceLeave_of_free hnamed hhub, sliceStop_of_ended hnamed hhub, sliceStop_of_running hnamed hhub⟩,
    fun s b h => ?refused, fun s b p x h => State.namedPart_eq_some h⟩
  case admitted =>
    obtain ⟨hform, hhub, hnone, hstate, -, hdebug, -, hfits⟩ := State.joinOk_iff.1 h
    obtain ⟨hok, hheld⟩ := sliceJoin_of_admitted hp h
    refine ⟨hform, hnone, hhub, hstate, hdebug, fun c hc => ?_, hok, s.heldPart b p, hheld, rfl, rfl, rfl, rfl, rfl, rfl⟩
    obtain ⟨htarn, hcairns, hgran⟩ := hfits c hc
    exact ⟨Option.isSome_iff_ne_none.1 hgran, Option.isSome_iff_ne_none.1 htarn, Option.isSome_iff_ne_none.1 hcairns⟩
  case die =>
    obtain ⟨-, hlt, -⟩ := s.granFit_eq_some hg
    obtain ⟨htarn, hcairns⟩ := joinForm_sizes hform
    have hspan : g * memGran + memGran ≤ memSpan := by
      unfold memGran memSpan
      omega
    have hnext : (g + 1) * memGran = g * memGran + memGran := Nat.succ_mul g memGran
    have hbyte (e : CDie) (off : Nat) : (s.joinDie b p gt c).memByte e off = (s.memZero c (g * memGran) memGran).memByte e off :=
      (State.joinDie_shows hg ht hk (f := fun u => u.memByte e off) (fun u r q => State.setQueue_memByte u r q e off)).trans (State.memByte_takeSpans e off)
    have hrange (e : CDie) : (s.joinDie b p gt c).memRange e p 0 = (s.takeSpans b p c g t k).memRange e p 0 :=
      State.joinDie_shows hg ht hk (f := fun u => u.memRange e p 0) (fun u r q => State.setQueue_memRange u r q e p 0)
    have hTarn := State.joinDie_shows hg ht hk (p := p) (gt := gt) (f := fun u => u.tarnAlloc c p) (fun u r q => State.setQueue_tarnAlloc u r q c p)
    have hCairns := State.joinDie_shows hg ht hk (p := p) (gt := gt) (f := fun u => u.cairnRange c p) (fun u r q => State.setQueue_cairnRange u r q c p)
    refine ⟨(hrange c).trans (State.memRange_takeSpans_self hlt), hTarn.trans (State.tarnAlloc_takeSpans (lowestFit_lt (by decide) ht) htarn),
      hCairns.trans (State.cairnRange_takeSpans (lowestFit_lt (by decide) hk) hcairns), fun off hlo hhi => ?_, fun off hout => ?_,
      fun e he => ⟨fun off hoff => ?_, (hrange e).trans (State.memRange_takeSpans_ne he)⟩⟩
    · rw [hbyte, State.memByte_memZero_inside s c hlo (hnext ▸ hhi)]
    · have hkey : ¬ (memKey c (g * memGran) ≤ memKey c off ∧ memKey c off < memKey c (g * memGran) + memGran) := by
        rw [hnext] at hout
        unfold memKey
        omega
      rw [hbyte, State.memByte_memZero, if_neg hkey]
    · rw [hbyte, State.memByte_memZero_span s c e hspan hoff, if_neg (fun hin => he hin.1)]
  case refused =>
    rcases h with hnone | hhub
    · exact ⟨sliceLeave_of_unnamed hnone, sliceStop_of_unnamed hnone⟩
    · exact ⟨sliceLeave_of_hub hhub, sliceStop_of_hub hhub⟩

end Sys2Proof.Machine
end

section
/-! The round of a watershed (12 R481–R483): what is dealt out to the members that take and to those that give, and what a round leaves of their caps. -/

namespace Sys2Proof.Machine

/-! Dealing out an amount over the members in rank order. -/

/-- The sum of a share over the first `n` members. -/
def sumTo (n : Nat) (f : Nat → Nat) : Nat := ((List.range n).map f).sum

@[simp] theorem sumTo_zero (f : Nat → Nat) : sumTo 0 f = 0 := rfl

@[simp] theorem sumTo_succ (n : Nat) (f : Nat → Nat) : sumTo (n + 1) f = sumTo n f + f n := List.sum_range_succ f n

theorem sumTo_le {n : Nat} {f g : Nat → Nat} (h : ∀ i, i < n → f i ≤ g i) : sumTo n f ≤ sumTo n g :=
  List.sum_le_sum fun i hi => h i (List.mem_range.1 hi)

theorem sumTo_congr {n : Nat} {f g : Nat → Nat} (h : ∀ i, i < n → f i = g i) : sumTo n f = sumTo n g :=
  Nat.le_antisymm (sumTo_le fun i hi => (h i hi).le) (sumTo_le fun i hi => (h i hi).ge)

/-- The values of a list are its entries by number. -/
theorem map_range_getD {l : List Nat} {n : Nat} (h : l.length = n) : (List.range n).map (fun i => (l[i]?).getD 0) = l := by
  apply List.ext_getElem
  · simp [h]
  · intro i h1 h2
    simp [h2]

theorem sumTo_getD {l : List Nat} {n : Nat} (h : l.length = n) : sumTo n (fun i => (l[i]?).getD 0) = l.sum := congrArg List.sum (map_range_getD h)

theorem getD_append_single (l : List Nat) (x i : Nat) : ((l ++ [x])[i]?).getD 0 = if i = l.length then x else (l[i]?).getD 0 := by
  rcases Nat.lt_trichotomy i l.length with h | h | h
  · simp [List.getElem?_append_left h, h.ne]
  · simp [h]
  · rw [if_neg h.ne', List.getElem?_eq_none (by simp; omega), List.getElem?_eq_none h.le]

/-- Each member takes its quota while the amount lasts. -/
def wsDeal (quota : Nat → Nat) (n amount : Nat) : Nat × List Nat :=
  (List.range n).foldl (fun (acc : Nat × List Nat) i => let x := min acc.1 (quota i); (acc.1 - x, acc.2 ++ [x])) (amount, [])

section
variable (quota : Nat → Nat) (n amount : Nat)

theorem wsDeal_succ : wsDeal quota (n + 1) amount =
    ((wsDeal quota n amount).1 - min (wsDeal quota n amount).1 (quota n), (wsDeal quota n amount).2 ++ [min (wsDeal quota n amount).1 (quota n)]) := by
  simp only [wsDeal, List.range_succ, List.foldl_append, List.foldl_cons, List.foldl_nil]

theorem wsDeal_length : (wsDeal quota n amount).2.length = n := by
  induction n with
  | zero => rfl
  | succ n ih => rw [wsDeal_succ]; simp [ih]

/-- What is dealt and what is left is the amount. -/
theorem wsDeal_sum : (wsDeal quota n amount).1 + (wsDeal quota n amount).2.sum = amount := by
  induction n with
  | zero => rfl
  | succ n ih => rw [wsDeal_succ]; simp; omega

theorem wsDeal_le (i : Nat) : ((wsDeal quota n amount).2[i]?).getD 0 ≤ quota i := by
  induction n with
  | zero => exact Nat.zero_le _
  | succ n ih =>
    rw [wsDeal_succ, getD_append_single, wsDeal_length]
    split
    case isTrue h => rw [h]; exact Nat.min_le_right _ _
    case isFalse => exact ih

/-- Where something is left, each member has its quota. -/
theorem wsDeal_eq_of_left (h : (wsDeal quota n amount).1 ≠ 0) : ∀ i, i < n → ((wsDeal quota n amount).2[i]?).getD 0 = quota i := by
  induction n with
  | zero => exact fun i hi => absurd hi (Nat.not_lt_zero i)
  | succ n ih =>
    rw [wsDeal_succ] at h
    intro i hi
    rw [wsDeal_succ, getD_append_single, wsDeal_length]
    split
    case isTrue hn => subst hn; simp only at h ⊢; omega
    case isFalse hn => exact ih (by simp only at h; omega) i (by omega)

end

/-- Each member that passes takes one while the amount lasts. -/
def wsTopUp (p : Nat → Bool) (n amount : Nat) : Nat × List Nat :=
  (List.range n).foldl (fun (acc : Nat × List Nat) i => if acc.1 = 0 || !(p i) then (acc.1, acc.2 ++ [0]) else (acc.1 - 1, acc.2 ++ [1])) (amount, [])

section
variable (p : Nat → Bool) (n amount : Nat)

/-- A top-up is a deal of quotas of one. -/
theorem wsTopUp_eq_wsDeal : wsTopUp p n amount = wsDeal (fun i => (p i).toNat) n amount := by
  unfold wsTopUp wsDeal
  congr 1
  funext acc i
  cases hp : p i
  case false => simp [hp]
  case true =>
    by_cases h0 : acc.1 = 0
    · simp [h0]
    · have hone : min acc.1 1 = 1 := by omega
      simp [h0, hp, hone]

end

theorem wsDeal_left_eq_zero {quota : Nat → Nat} {n amount : Nat} (h : amount ≤ sumTo n quota) : (wsDeal quota n amount).1 = 0 := by
  by_contra hleft
  have hsum := wsDeal_sum quota n amount
  rw [← sumTo_getD (wsDeal_length quota n amount), sumTo_congr (wsDeal_eq_of_left quota n amount hleft)] at hsum
  omega

/-! The proportional shares of an amount: each rounds down, and one more for each member that has not all it could take makes up the amount. -/

section
variable {n moved total : Nat} {r : Nat → Nat}

theorem share_le (hm : moved ≤ total) (i : Nat) : moved * r i / total ≤ r i := Nat.div_le_of_le_mul (Nat.mul_le_mul_right _ hm)

theorem sumTo_share_le (h : sumTo n r ≤ total) : sumTo n (fun i => moved * r i / total) ≤ moved := by
  have hmul : ∀ k, total * sumTo k (fun i => moved * r i / total) ≤ moved * sumTo k r := fun k => by
    induction k with
    | zero => simp
    | succ k ih =>
      rw [sumTo_succ, sumTo_succ, Nat.mul_add, Nat.mul_add]
      exact Nat.add_le_add ih (Nat.mul_div_le _ _)
  rcases Nat.eq_zero_or_pos total with h0 | hpos
  · simp [h0, sumTo]
  · have := (hmul n).trans (Nat.mul_le_mul_left moved h)
    exact Nat.le_of_mul_le_mul_left (this.trans_eq (Nat.mul_comm _ _)) hpos

/-- The shares and one more for each that is short of its whole hold the amount. -/
theorem le_sumTo_share (hm : moved ≤ total) (hpos : 0 < total) (h : total = sumTo n r) :
    moved ≤ sumTo n (fun i => moved * r i / total) + sumTo n (fun i => (decide (moved * r i / total < r i)).toNat) := by
  have hone : ∀ x, moved * x ≤ total * (moved * x / total) + total * (decide (moved * x / total < x)).toNat := fun x => by
    by_cases hx : moved * x / total < x
    · have := Nat.lt_mul_div_succ (moved * x) hpos
      rw [Nat.mul_add] at this
      simp [hx]
      omega
    · have := Nat.mul_le_mul hm (Nat.not_lt.1 hx)
      omega
  have hmul : ∀ k, moved * sumTo k r ≤
      total * (sumTo k (fun i => moved * r i / total) + sumTo k (fun i => (decide (moved * r i / total < r i)).toNat)) := fun k => by
    induction k with
    | zero => simp
    | succ k ih =>
      have := hone (r k)
      simp only [sumTo_succ, Nat.mul_add] at ih ⊢
      omega
  exact Nat.le_of_mul_le_mul_left ((Nat.mul_comm total moved).trans_le (h ▸ hmul n)) hpos

end

/-! What each member of a round gives and takes. -/

section
variable (n : Nat) (g r : Nat → Nat)

/-- What moves: no more than the donors can give, and no more than the takers can take. -/
def wsMoved : Nat := min (sumTo n g) (sumTo n r)

def wsGive (i : Nat) : Nat := wsMoved n g r * g i / sumTo n g

/-- The proportional shares of what is given. -/
def wsFirst : Nat × List Nat := wsDeal (fun i => wsMoved n g r * r i / sumTo n r) n (sumTo n (wsGive n g r))

def wsTake (i : Nat) : Nat := ((wsFirst n g r).2[i]?).getD 0

/-- What rounding has left, a watt each. -/
def wsSecond : Nat × List Nat := wsTopUp (fun i => decide (wsTake n g r i < r i)) n (wsFirst n g r).1

def wsMore (i : Nat) : Nat := ((wsSecond n g r).2[i]?).getD 0

/-- The caps after a round. -/
def wsCaps (cap : Nat → Nat) : List Nat := (List.range n).map (fun i => cap i - wsGive n g r i + wsTake n g r i + wsMore n g r i)

theorem wsGive_le (i : Nat) : wsGive n g r i ≤ g i := share_le (Nat.min_le_left _ _) i

/-- No member takes more than it can. -/
theorem wsTake_add_wsMore_le (i : Nat) : wsTake n g r i + wsMore n g r i ≤ r i := by
  have htake : wsTake n g r i ≤ r i := (wsDeal_le _ _ _ i).trans (share_le (Nat.min_le_right _ _) i)
  have hmore : wsMore n g r i ≤ (decide (wsTake n g r i < r i)).toNat := by
    rw [wsMore, wsSecond, wsTopUp_eq_wsDeal]
    exact wsDeal_le _ _ _ i
  by_cases h : wsTake n g r i < r i
  · rw [decide_eq_true h] at hmore; simp at hmore; omega
  · rw [decide_eq_false h] at hmore; simp at hmore; omega

/-- The second deal makes up what the first has left. -/
theorem wsSecond_left (hmoved : wsMoved n g r ≠ 0) : (wsSecond n g r).1 = 0 := by
  rw [wsSecond, wsTopUp_eq_wsDeal]
  apply wsDeal_left_eq_zero
  by_cases hleft : (wsFirst n g r).1 = 0
  · omega
  have htake : ∀ i, i < n → wsTake n g r i = wsMoved n g r * r i / sumTo n r := wsDeal_eq_of_left _ _ _ hleft
  have hsum : (wsFirst n g r).1 + sumTo n (wsTake n g r) = sumTo n (wsGive n g r) := by
    rw [← wsDeal_sum (fun i => wsMoved n g r * r i / sumTo n r) n (sumTo n (wsGive n g r)), ← sumTo_getD (wsDeal_length _ _ _)]
    rfl
  have hgive : sumTo n (wsGive n g r) ≤ wsMoved n g r := sumTo_share_le le_rfl
  have hmax : wsMoved n g r ≤ _ := le_sumTo_share (n := n) (r := r) (Nat.min_le_right _ _) (by unfold wsMoved at hmoved; omega) rfl
  rw [sumTo_congr htake] at hsum
  rw [sumTo_congr fun i hi => by rw [htake i hi]]
  omega

/-- What is taken is what is given. -/
theorem sumTo_wsTake_wsMore (hmoved : wsMoved n g r ≠ 0) : sumTo n (wsTake n g r) + sumTo n (wsMore n g r) = sumTo n (wsGive n g r) := by
  have hfirst : (wsFirst n g r).1 + (wsFirst n g r).2.sum = sumTo n (wsGive n g r) := wsDeal_sum _ _ _
  have hsecond : (wsSecond n g r).1 + (wsSecond n g r).2.sum = (wsFirst n g r).1 := by
    rw [wsSecond, wsTopUp_eq_wsDeal]; exact wsDeal_sum _ _ _
  have htake : sumTo n (wsTake n g r) = (wsFirst n g r).2.sum := sumTo_getD (wsDeal_length _ _ _)
  have hmore : sumTo n (wsMore n g r) = (wsSecond n g r).2.sum := sumTo_getD (by rw [wsSecond, wsTopUp_eq_wsDeal]; exact wsDeal_length _ _ _)
  have := wsSecond_left n g r hmoved
  omega

variable {n g r} {cap : Nat → Nat}

theorem wsCaps_length : (wsCaps n g r cap).length = n := by simp [wsCaps]

theorem wsCaps_getElem? {i : Nat} (hi : i < n) : (wsCaps n g r cap)[i]? = some (cap i - wsGive n g r i + wsTake n g r i + wsMore n g r i) := by
  simp [wsCaps, hi]

theorem wsCaps_sum (hmoved : wsMoved n g r ≠ 0) (hg : ∀ i, i < n → g i ≤ cap i) : (wsCaps n g r cap).sum = sumTo n cap := by
  have hsplit : ∀ k ≤ n, sumTo k (fun i => cap i - wsGive n g r i + wsTake n g r i + wsMore n g r i) + sumTo k (wsGive n g r) =
      sumTo k cap + (sumTo k (wsTake n g r) + sumTo k (wsMore n g r)) := fun k hk => by
    induction k with
    | zero => rfl
    | succ k ih =>
      have := ih (by omega)
      have := (wsGive_le n g r k).trans (hg k (by omega))
      simp only [sumTo_succ] at *
      omega
  have := hsplit n le_rfl
  rw [sumTo_wsTake_wsMore n g r hmoved] at this
  exact Nat.add_right_cancel this

end

/-! The round. -/

section
variable (dead minW : Nat) (l : List (Option Nat)) (caps limits : List Nat) (plateau : List Bool)

/-- The largest and the smallest lateness of a round. -/
def wsHi : Nat := (l.filterMap id).foldl max 0
def wsLo : Nat := (l.filterMap id).foldl min (wsHi l)

/-- A member under the mode that keeps its cap neither gives nor takes. -/
def wsFree (i : Nat) : Bool := !((plateau[i]?).getD true)

def wsDonor (i : Nat) : Bool :=
  wsFree plateau i && decide (minW < (caps[i]?).getD 0) && ((l[i]?).join).any (fun v => decide (wsHi l + wsLo l < 2 * v))
def wsTaker (i : Nat) : Bool :=
  wsFree plateau i && decide ((caps[i]?).getD 0 < (limits[i]?).getD 0) && ((l[i]?).join).any (fun v => decide (2 * v < wsHi l + wsLo l))

/-- What a member can give and take. -/
def wsCanGive (i : Nat) : Nat := if wsDonor minW l caps plateau i then min ((caps[i]?).getD 0 / 50) ((caps[i]?).getD 0 - minW) else 0
def wsCanTake (i : Nat) : Nat :=
  if wsTaker l caps limits plateau i then min ((caps[i]?).getD 0 / 50) ((limits[i]?).getD 0 - (caps[i]?).getD 0) else 0

theorem wsMove_eq : wsMove dead minW l caps limits plateau =
    if (l.filterMap id).length < 2 || wsHi l - wsLo l < dead then none
    else if wsMoved l.length (wsCanGive minW l caps plateau) (wsCanTake l caps limits plateau) = 0 then none
    else some (wsCaps l.length (wsCanGive minW l caps plateau) (wsCanTake l caps limits plateau) (fun i => (caps[i]?).getD 0)) := rfl

variable {dead minW l caps limits plateau}

/-- What a round that moves budget leaves. -/
theorem wsMove_some {new : List Nat} (h : wsMove dead minW l caps limits plateau = some new) :
    wsMoved l.length (wsCanGive minW l caps plateau) (wsCanTake l caps limits plateau) ≠ 0 ∧
      new = wsCaps l.length (wsCanGive minW l caps plateau) (wsCanTake l caps limits plateau) (fun i => (caps[i]?).getD 0) := by
  rw [wsMove_eq] at h
  split at h
  · exact absurd h (by simp)
  split at h
  · exact absurd h (by simp)
  next hm => exact ⟨hm, (Option.some.inj h).symm⟩

theorem wsMove_of_few (h : (l.filterMap id).length < 2) : wsMove dead minW l caps limits plateau = none := by
  rw [wsMove_eq, if_pos (by rw [Bool.or_eq_true, decide_eq_true_eq]; exact .inl h)]

/-- A donor keeps its floor. -/
theorem wsCanGive_le (i : Nat) : wsCanGive minW l caps plateau i ≤ (caps[i]?).getD 0 - minW := by
  unfold wsCanGive
  split
  · exact Nat.min_le_right _ _
  · exact Nat.zero_le _

theorem wsCanTake_le (i : Nat) : wsCanTake l caps limits plateau i ≤ (limits[i]?).getD 0 - (caps[i]?).getD 0 := by
  unfold wsCanTake
  split
  · exact Nat.min_le_right _ _
  · exact Nat.zero_le _

/-- A member that is not free, or has no valid lateness, neither gives nor takes. -/
theorem wsCan_of_kept {i : Nat} (h : plateau[i]? = some true ∨ l[i]? = some none) :
    wsCanGive minW l caps plateau i = 0 ∧ wsCanTake l caps limits plateau i = 0 := by
  rcases h with h | h <;> simp [wsCanGive, wsCanTake, wsDonor, wsTaker, wsFree, h]

theorem foldl_mem_cons {op : Nat → Nat → Nat} (hop : ∀ a b, op a b = a ∨ op a b = b) (vs : List Nat) (v : Nat) : vs.foldl op v ∈ v :: vs := by
  induction vs generalizing v with
  | nil => simp
  | cons w vs ih =>
    rcases hop v w with h | h <;> rw [List.foldl_cons, h]
    · rcases List.mem_cons.1 (ih v) with heq | hmem
      · exact List.mem_cons.2 (.inl heq)
      · exact List.mem_cons_of_mem _ (List.mem_cons_of_mem _ hmem)
    · exact List.mem_cons_of_mem _ (ih w)

/-- The largest and the smallest lateness of a round are among its latenesses. -/
theorem wsHi_wsLo_mem (h : l.filterMap id ≠ []) : wsHi l ∈ l.filterMap id ∧ wsLo l ∈ l.filterMap id := by
  have hhi : wsHi l ∈ l.filterMap id := by
    obtain ⟨v, vs, hv⟩ := List.exists_cons_of_ne_nil h
    rw [wsHi, hv, List.foldl_cons, Nat.zero_max]
    exact foldl_mem_cons (fun a b => by omega) vs v
  refine ⟨hhi, ?_⟩
  rcases List.mem_cons.1 (foldl_mem_cons (op := min) (fun a b => by omega) (l.filterMap id) (wsHi l)) with heq | hmem
  · rw [wsLo, heq]; exact hhi
  · exact hmem

theorem wsMove_of_spread (h : ∀ v w, some v ∈ l → some w ∈ l → v < w + dead) : wsMove dead minW l caps limits plateau = none := by
  by_cases hnil : l.filterMap id = []
  · exact wsMove_of_few (by rw [hnil]; decide)
  · obtain ⟨hhi, hlo⟩ := wsHi_wsLo_mem hnil
    have hspread := h (wsHi l) (wsLo l) (by simpa using hhi) (by simpa using hlo)
    have hdead := h (wsHi l) (wsHi l) (by simpa using hhi) (by simpa using hhi)
    rw [wsMove_eq, if_pos (by rw [Bool.or_eq_true, decide_eq_true_eq, decide_eq_true_eq]; omega)]

end

/-! The commands. -/

section
variable {s : State}

theorem watershedRound_of_serving {rounds : List WsRound} (hserve : s.serving = true) (hpair : s.pairSt ≠ prISOLATED) :
    watershedRound rounds s = ((s.smt.ws.filter (fun w => !w.off)).foldl (fun t w => t.wsRound rounds w) s).summit := if_neg (by simp [hserve, hpair])

theorem cubeTimeAlign_of_serving {xs : List CubeXfer} (hserve : s.serving = true) (hpair : s.pairSt ≠ prISOLATED) :
    cubeTimeAlign xs s = (xs.foldl State.alignRack s).summit := if_neg (by simp [hserve, hpair])

theorem watershedRound_of_idle {rounds : List WsRound} (h : s.serving = false ∨ s.pairSt = prISOLATED) : watershedRound rounds s = s :=
  if_pos (by rcases h with h | h <;> simp [h])

theorem cubeTimeAlign_of_idle {xs : List CubeXfer} (h : s.serving = false ∨ s.pairSt = prISOLATED) : cubeTimeAlign xs s = s :=
  if_pos (by rcases h with h | h <;> simp [h])

end

/-- Settles O30: each command's clause is the rule above for it, and each clause of a round is read from the caps that it leaves. -/
theorem watershedRoundsConserveTheBudget : Obligations.WatershedRoundsConserveTheBudget := by
  refine ⟨fun s rounds hon hserve hpair => run_of_eq hon (watershedRound_of_serving hserve hpair),
    fun s xs hon hserve hpair => run_of_eq hon (cubeTimeAlign_of_serving hserve hpair),
    fun s rounds xs hs h => ⟨run_same hs (watershedRound_of_idle h), run_same hs (cubeTimeAlign_of_idle h)⟩,
    fun dead minW l caps limits new plateau hcaps hlimits hnew => ?moved, fun dead minW l caps limits new plateau i hcaps hlimits hnew hi hkept => ?kept,
    fun dead minW l caps limits plateau h => wsMove_of_few h, fun dead minW l caps limits plateau h => wsMove_of_spread h⟩
  case moved =>
    obtain ⟨hmoved, rfl⟩ := wsMove_some hnew
    refine ⟨wsCaps_length, ?_, fun i c n m hc hn hm => ?_⟩
    · rw [wsCaps_sum hmoved fun i _ => (wsCanGive_le i).trans (Nat.sub_le _ _), sumTo_getD hcaps]
    · have hi : i < l.length := by rw [← hcaps]; exact (List.getElem?_eq_some_iff.1 hc).1
      have hgive := (wsGive_le l.length (wsCanGive minW l caps plateau) (wsCanTake l caps limits plateau) i).trans (wsCanGive_le i)
      have htake := (wsTake_add_wsMore_le l.length (wsCanGive minW l caps plateau) (wsCanTake l caps limits plateau) i).trans (wsCanTake_le i)
      rw [wsCaps_getElem? hi, Option.some.injEq] at hn
      simp only [hc, hm, Option.getD_some] at hgive htake hn
      omega
  case kept =>
    obtain ⟨-, rfl⟩ := wsMove_some hnew
    obtain ⟨hg, hr⟩ := wsCan_of_kept (minW := minW) (caps := caps) (limits := limits) hkept
    have hgive := wsGive_le l.length (wsCanGive minW l caps plateau) (wsCanTake l caps limits plateau) i
    have htake := wsTake_add_wsMore_le l.length (wsCanGive minW l caps plateau) (wsCanTake l caps limits plateau) i
    obtain ⟨c, hc⟩ : ∃ c, caps[i]? = some c := ⟨_, List.getElem?_eq_getElem (hcaps ▸ hi)⟩
    rw [wsCaps_getElem? hi, hc, Option.some.injEq, Option.getD_some]
    omega

end Sys2Proof.Machine
end

section
/-! The power pages (12 R452–R489): what a write or a count leaves of the fields of other pages, the loop state of a die, and what a pass over the dies makes of
each. -/

namespace Sys2Proof.Machine

/-- A pass over distinct places acts once on what belongs to a place. -/
theorem foldl_once {α β : Type} [DecidableEq α] (step : State → α → State) (g : State → β) (φ : β → β) (a : α) (hself : ∀ t, g (step t a) = φ (g t))
    (hother : ∀ t b, b ≠ a → g (step t b) = g t) {l : List α} (hl : l.Nodup) (s : State) : g (l.foldl step s) = if a ∈ l then φ (g s) else g s := by
  induction l generalizing s with
  | nil => rfl
  | cons b l ih =>
    obtain ⟨hb, hl⟩ := List.nodup_cons.1 hl
    rw [List.foldl_cons, ih hl]
    by_cases hba : b = a
    · subst hba
      rw [if_neg hb, if_pos List.mem_cons_self, hself]
    · rw [hother s b hba]
      simp [Ne.symm hba]

theorem allDies_nodup : allDies.Nodup := by decide

theorem allCDies_nodup : allCDies.Nodup := by decide

theorem mem_allDies (d : Die) : d ∈ allDies := by revert d; decide

theorem mem_allCDies (c : CDie) : c ∈ allCDies := by revert c; decide

theorem CDie.die_inj {c e : CDie} : CDie.die c = CDie.die e ↔ c = e := by revert c e; decide

theorem PDie.die_ne_die (k : PDie) (c : CDie) : PDie.die k ≠ CDie.die c := by revert k c; decide

theorem CDie.die_ne_pd0 (c : CDie) : CDie.die c ≠ pd0 := by revert c; decide

/-! Pages. -/

theorem pwr_ne {d e : Die} (h : d ≠ e) : Page.pwr d ≠ Page.pwr e := by simpa using h

theorem cdPwr_ne {c e : CDie} (h : c ≠ e) : cdPwr c ≠ cdPwr e := pwr_ne (CDie.die_inj.not.2 h)

theorem cdPwr_ne_pd0 (c : CDie) : cdPwr c ≠ .pwr pd0 := pwr_ne (CDie.die_ne_pd0 c)

section
variable (s : State) {p q : Page} {f g : Field}

theorem State.fld_bump_page {off n : Nat} (hoff : off + 4 < 0x1000) (hf : f.off < 0x1000) (h : p ≠ q) : (s.bump p off n).fld q f = s.fld q f := by
  have hlo : q.base + f.off ≠ p.base + off := fun e => h (Page.base_add_inj hf (by omega) e).1.symm
  have hhi : q.base + f.off ≠ p.base + off + 4 := fun e => h (Page.base_add_inj hf hoff (by omega)).1.symm
  exact congrArg (getF · f) (s.rd_bump_ne p off n _ hlo hhi)

/-- A write leaves the fields at other offsets, of its page and of the others. -/
theorem State.fld_setFld_apart {v : Nat} (hf : f.off < 0x1000) (hg : g.off < 0x1000) (h : f.off ≠ g.off) : (s.setFld p f v).fld q g = s.fld q g :=
  s.fld_wr_ne q g _ _ fun e => h (Page.base_add_inj hf hg e).2

/-- Which dies are in core reset stands on the RST page alone. -/
theorem State.inReset_setFld {v : Nat} {d : Die} (hf : f.off < 0x1000) (h : p ≠ .rst) : (s.setFld p f v).inReset d = s.inReset d :=
  congrArg (fun w => w.getLsbD d.val) (s.rd_setFld_page f v F.RST_STATUS_IN_RESET.off hf (by decide) h)

theorem State.dieDown_setFld {v : Nat} {c : CDie} (hf : f.off < 0x1000) (h : p ≠ .rst) : (s.setFld p f v).dieDown c = s.dieDown c := by
  simp only [State.dieDown, s.inReset_setFld hf h, State.setFld_fencedDies]

/-- A field of a page that takes the same value at each page of some distinct dies. -/
theorem State.fld_foldl_setFld_cdPwr {v : Nat} (hf : f.lsb + f.width ≤ 32) (hoff : f.off < 0x1000) {l : List CDie} (hl : l.Nodup) (c : CDie) :
    (l.foldl (fun t e => t.setFld (cdPwr e) f v) s).fld (cdPwr c) f = if c ∈ l then v % 2 ^ f.width else s.fld (cdPwr c) f :=
  foldl_once (fun t e => t.setFld (cdPwr e) f v) (fun t => t.fld (cdPwr c) f) (fun _ => v % 2 ^ f.width) c (fun t => t.fld_setFld _ f v hf)
    (fun t _ he => t.fld_setFld_page f f v hoff hoff (cdPwr_ne he)) hl s

/-- Writes to the pages of some dies leave every other page. -/
theorem State.fld_foldl_setFld_cdPwr_page {v : Nat} (hf : f.off < 0x1000) (hg : g.off < 0x1000) (hq : ∀ c, cdPwr c ≠ q) (l : List CDie) :
    (l.foldl (fun t e => t.setFld (cdPwr e) f v) s).fld q g = s.fld q g :=
  foldl_keeps (g := fun t => t.fld q g) (fun t e => t.fld_setFld_page f g v hf hg (hq e)) l s

end

/-! The loop state of a die, and of the package. -/

def State.setPkgPower (s : State) (y : PkgPower) : State := { s with pkgPower := y }

@[simp] theorem State.setPkgPower_fld (s : State) (y : PkgPower) (p : Page) (f : Field) : (s.setPkgPower y).fld p f = s.fld p f := rfl

@[simp] theorem State.setPkgPower_mem (s : State) (y : PkgPower) : (s.setPkgPower y).mem = s.mem := rfl

section
variable (s : State) (i j : Nat) (x : PowerSt)

@[simp] theorem State.pwrSt_setPwr_self : (s.setPwr i x).pwrSt i = x := Store.get_set_self _ _ _ _

@[simp] theorem State.setFld_pwrSt (p : Page) (f : Field) (v : Nat) : (s.setFld p f v).pwrSt i = s.pwrSt i := by simp [State.pwrSt]

@[simp] theorem State.bump_pwrSt (p : Page) (off n : Nat) : (s.bump p off n).pwrSt i = s.pwrSt i := by simp [State.pwrSt]

@[simp] theorem State.emit_pwrSt (o : Output) : (s.emit o).pwrSt i = s.pwrSt i := by simp [State.pwrSt]

end

end Sys2Proof.Machine
end

section
/-! Estimates, measurements and calibration (12 R456–R463, R487, R489, 18 R652). -/

namespace Sys2Proof.Machine

/-! Calibrated estimates. -/

theorem calibrated_le (g : Nat) (o : Int) (raw : Nat) : calibrated g o raw ≤ 0xFFFF := Nat.min_le_left _ _

theorem calibrated_unit (raw : Nat) : calibrated 0x4000 0 raw = min 0xFFFF raw := by unfold calibrated; omega

section
variable {s : State} {p : Page} {d e : Die} {raw : Nat}

theorem State.calOf_congr {t : State} (hg : t.fld p F.PWR_CAL_GAIN = s.fld p F.PWR_CAL_GAIN) (ho : t.fld p F.PWR_CAL_OFFSET = s.fld p F.PWR_CAL_OFFSET) :
    t.calOf p raw = s.calOf p raw := by rw [State.calOf, hg, ho, State.calOf]

/-- An estimate writes its die's page and loop state, and counts the energy. -/
theorem State.estimate_eq (s : State) (d : Die) (raw : Nat) : ∃ x n, s.estimate d raw =
    (((s.setFld (.pwr d) F.PWR_EST_CAL (s.calOf (.pwr d) (min 0xFFFF raw))).setFld (.pwr d) F.PWR_EST_RAW (min 0xFFFF raw)).setPwr d.val x).bump (.pwr d)
      C.PWR_ENERGY n := ⟨_, _, rfl⟩

theorem State.estimate_mem : (s.estimate d raw).mem = s.mem := by
  obtain ⟨x, n, h⟩ := s.estimate_eq d raw
  simp [h]

theorem State.fld_estimate_page {f : Field} (hf : f.off < 0x1000) (h : .pwr d ≠ p) : (s.estimate d raw).fld p f = s.fld p f := by
  obtain ⟨x, n, heq⟩ := s.estimate_eq d raw
  rw [heq, State.fld_bump_page _ (by decide) hf h, State.setPwr_fld, State.fld_setFld_page _ _ _ _ (by decide) hf h,
    State.fld_setFld_page _ _ _ _ (by decide) hf h]

theorem State.fld_estimate_off {f : Field} (hest : F.PWR_EST_CAL.off ≠ f.off) (hlo : f.off ≠ C.PWR_ENERGY) (hhi : f.off ≠ C.PWR_ENERGY + 4) :
    (s.estimate d raw).fld (.pwr d) f = s.fld (.pwr d) f := by
  obtain ⟨x, n, heq⟩ := s.estimate_eq d raw
  have hraw : F.PWR_EST_RAW.off ≠ f.off := hest
  rw [heq, State.fld_bump_ne hlo hhi, State.setPwr_fld, State.fld_setFld_off _ _ _ _ _ hraw, State.fld_setFld_off _ _ _ _ _ hest]

theorem State.fld_estimate_raw : (s.estimate d raw).fld (.pwr d) F.PWR_EST_RAW = min 0xFFFF raw := by
  obtain ⟨x, n, heq⟩ := s.estimate_eq d raw
  rw [heq, State.fld_bump_ne (by decide) (by decide), State.setPwr_fld, State.fld_setFld _ _ _ _ (by decide)]
  exact Nat.mod_eq_of_lt (Nat.lt_succ_of_le (Nat.min_le_left _ _))

theorem State.fld_estimate_cal : (s.estimate d raw).fld (.pwr d) F.PWR_EST_CAL = s.calOf (.pwr d) (min 0xFFFF raw) := by
  obtain ⟨x, n, heq⟩ := s.estimate_eq d raw
  rw [heq, State.fld_bump_ne (by decide) (by decide), State.setPwr_fld, State.fld_setFld_other _ _ _ _ _ (by decide), State.fld_setFld _ _ _ _ (by decide)]
  exact Nat.mod_eq_of_lt (Nat.lt_succ_of_le (calibrated_le _ _ _))

/-- No estimate changes a calibration. -/
theorem State.calOf_estimate (x : Nat) : (s.estimate d raw).calOf (.pwr e) x = s.calOf (.pwr e) x := by
  by_cases h : d = e
  · subst h
    exact State.calOf_congr (State.fld_estimate_off (by decide) (by decide) (by decide)) (State.fld_estimate_off (by decide) (by decide) (by decide))
  · exact State.calOf_congr (State.fld_estimate_page (by decide) (pwr_ne h)) (State.fld_estimate_page (by decide) (pwr_ne h))

end

/-! POWER_ESTIMATE. -/

/-- The dies whose estimates are taken. -/
def State.liveDies (s : State) : List Die := allDies.filter (fun d => !(s.inReset d) && !(s.fencedDies.contains d))

/-- The raw estimate of a die in what POWER_ESTIMATE brings. -/
def rawOf (raw : List (BitVec 16)) (d : Die) : Nat := ((raw[d.val]?).getD 0).toNat

/-- The estimates of all dies that are live. -/
def State.estimateAll (s : State) (raw : List (BitVec 16)) : State := s.liveDies.foldl (fun t d => t.estimate d (rawOf raw d)) s

section
variable {s : State} {raw : List (BitVec 16)} {d : Die}

theorem State.mem_liveDies : d ∈ s.liveDies ↔ s.inReset d = false ∧ d ∉ s.fencedDies := by simp [State.liveDies, mem_allDies]

theorem State.liveDies_nodup (s : State) : s.liveDies.Nodup := allDies_nodup.filter _

theorem rawOf_le : min 0xFFFF (rawOf raw d) = rawOf raw d := Nat.min_eq_right (Nat.le_of_lt_succ (BitVec.isLt _))

theorem State.estimateAll_mem : (s.estimateAll raw).mem = s.mem := foldl_keeps (g := State.mem) (fun _ _ => State.estimate_mem) _ _

theorem State.calOf_estimateAll (x : Nat) : (s.estimateAll raw).calOf (.pwr d) x = s.calOf (.pwr d) x :=
  foldl_keeps (g := fun t => t.calOf (.pwr d) x) (fun _ _ => State.calOf_estimate x) _ _

theorem State.fld_estimateAll_raw : (s.estimateAll raw).fld (.pwr d) F.PWR_EST_RAW = if d ∈ s.liveDies then rawOf raw d else s.fld (.pwr d) F.PWR_EST_RAW :=
  foldl_once (fun t e => t.estimate e (rawOf raw e)) (fun t => t.fld (.pwr d) F.PWR_EST_RAW) (fun _ => rawOf raw d) d (fun _ => State.fld_estimate_raw.trans rawOf_le)
    (fun _ _ he => State.fld_estimate_page (by decide) (pwr_ne he)) s.liveDies_nodup s

theorem State.fld_estimateAll_cal : (s.estimateAll raw).fld (.pwr d) F.PWR_EST_CAL =
    if d ∈ s.liveDies then s.calOf (.pwr d) (rawOf raw d) else s.fld (.pwr d) F.PWR_EST_CAL := by
  have hpair := foldl_once (fun t e => t.estimate e (rawOf raw e)) (fun t => (t.fld (.pwr d) F.PWR_EST_CAL, t.calOf (.pwr d) (rawOf raw d)))
    (fun x => (x.2, x.2)) d (fun t => by rw [State.fld_estimate_cal, State.calOf_estimate, rawOf_le])
    (fun t e he => by rw [State.fld_estimate_page (by decide) (pwr_ne he), State.calOf_estimate]) s.liveDies_nodup s
  have hcal := congrArg Prod.fst hpair
  rw [apply_ite Prod.fst] at hcal
  exact hcal

end

section
variable (s : State) (raw : List (BitVec 16)) (u : BitVec 16)

/-- The package's estimate: what the live compute dies show, and the uncore's. -/
def State.estTotal (s : State) (raw : List (BitVec 16)) (u : BitVec 16) : Nat :=
  (allCDies.map (fun c => if s.inReset (CDie.die c) = true ∨ CDie.die c ∈ s.fencedDies then 0 else s.calOf (cdPwr c) (rawOf raw (CDie.die c)))).sum +
    s.calOf (.pwr pd0) u.toNat

/-- POWER_ESTIMATE shows the dies' estimates and then the package's. -/
theorem powerEstimate_eq : ∃ x y, powerEstimate raw u s = ((((s.estimateAll raw).setPwr 10 x).setFld (.pwr pd0) F.PKG_EST_TOTAL
    (min 0xFFFF (s.estTotal raw u))).setFld (.pwr pd0) F.PKG_EST_UNCORE (s.calOf (.pwr pd0) u.toNat)).setPkgPower y := by
  have hu : (s.estimateAll raw).calOf (.pwr pd0) u.toNat = s.calOf (.pwr pd0) u.toNat := State.calOf_estimateAll _
  have hterm : ∀ c : CDie, (if s.liveDies.contains (CDie.die c) = true then (s.estimateAll raw).fld (cdPwr c) F.PWR_EST_CAL else 0) =
      if s.inReset (CDie.die c) = true ∨ CDie.die c ∈ s.fencedDies then 0 else s.calOf (cdPwr c) (rawOf raw (CDie.die c)) := fun c => by
    simp only [List.contains_iff_mem, cdPwr, State.fld_estimateAll_cal]
    by_cases hlive : CDie.die c ∈ s.liveDies
    · obtain ⟨hr, hf⟩ := State.mem_liveDies.1 hlive
      rw [if_pos hlive, if_pos hlive, if_neg (by simp [hr, hf])]
    · have hdown : s.inReset (CDie.die c) = true ∨ CDie.die c ∈ s.fencedDies := by
        by_contra h
        exact hlive (State.mem_liveDies.2 (by simpa using h))
      rw [if_neg hlive, if_pos hdown]
  have htotal : (allCDies.map (fun c => if s.liveDies.contains (CDie.die c) = true then (s.estimateAll raw).fld (cdPwr c) F.PWR_EST_CAL else 0)).sum +
      (s.estimateAll raw).calOf (.pwr pd0) u.toNat = s.estTotal raw u := by
    rw [hu, State.estTotal, List.map_congr_left fun c _ => hterm c]
  rw [← htotal, ← hu]
  exact ⟨_, _, rfl⟩

end

/-! POWER_MEASURE. -/

theorem railPower_le (i : BitVec 16) (mv : Nat) : railPower i mv ≤ 0xFFFF := Nat.min_le_left _ _

/-- A compute die's measurement: what its rail draws, where its bus was read. -/
def measureDie (meas : List Nat) (bad : BitVec 6) (t : State) (c : CDie) : State :=
  let pg := cdPwr c
  let m := (meas[c.val]?).getD 0
  let valid := !(bad.getLsbD (c.val / 2))
  let x := (t.pwrSt c.val).pair m valid
  if !valid then t.setPwr c.val x else
  let (w, b) := runsOf (t.fld pg F.PWR_LIMIT_WATTS) m x.within x.breach
  let t := (t.setPwr c.val { x with within := w, breach := b }).setFld pg F.PWR_MEAS_MEAS m
  if 5000 ≤ w then t.setFld pg F.PWR_STATUS_UNATTAINABLE 0 else t

/-- A port die's temperature and measurement. -/
def measurePort (fixed : List Nat) (bad : BitVec 6) (temps : List (BitVec 8)) (t : State) (k : PDie) : State :=
  let pg : Page := .pwr (PDie.die k)
  let t := t.setFld pg F.PWR_MEAS_TEMP ((temps[k.val]?).getD 0).toNat
  if bad.getLsbD 4 then t else t.setFld pg F.PWR_MEAS_MEAS ((fixed[k.val]?).getD 0)

/-- The uncore's measurement, where both of its buses were read. -/
def State.measureUncore (s : State) (unBad : Bool) (uncore : Nat) : State :=
  let s := s.setPwr 10 ((s.pwrSt 10).pair uncore (!unBad))
  if unBad then s else s.setFld (.pwr pd0) F.PKG_MEAS_UNCORE uncore

/-- The package's measurement. -/
def State.measureTotal (s : State) (tot : Nat) : State :=
  let s := s.setFld (.pwr pd0) F.PKG_MEAS_TOTAL (min 0xFFFF tot)
  let (w, b) := runsOf (s.fld (.pwr pd0) F.PKG_CAP_WATTS) tot s.pkgPower.within s.pkgPower.breach
  let s : State := { s with pkgPower := { s.pkgPower with within := w, breach := b } }
  if 5000 ≤ w then (s.setFld (.pwr pd0) F.PKG_STATUS_UNATTAINABLE 0).setFld (.pwr pd0) F.PWR_STATUS_UNATTAINABLE 0 else s

/-- The powers of the compute dies' rails at the voltages they asked for, of the fixed rails, and of the uncore. -/
def State.railMeas (s : State) (iout : List (BitVec 16)) : List Nat := allCDies.map (fun c => railPower ((iout[c.val]?).getD 0) (s.requested c))
def fixedMeas (iout : List (BitVec 16)) : List Nat := fixedRails.zipIdx.map (fun e => railPower ((iout[8 + e.2]?).getD 0) e.1)
def uncoreMeas (iout : List (BitVec 16)) : Nat := min 0xFFFF (fixedMeas iout).sum

/-- The compute dies and the port dies whose measurements are taken. -/
def State.measureDies (s : State) (iout : List (BitVec 16)) (bad : BitVec 6) : State :=
  (allCDies.filter (fun c => !(s.dieDown c))).foldl (measureDie (s.railMeas iout) bad) s
def State.measurePorts (s : State) (iout : List (BitVec 16)) (bad : BitVec 6) (temps : List (BitVec 8)) : State :=
  ([0, 1].filter (fun (k : PDie) => !(s.fencedDies.contains (PDie.die k)) && !(s.inReset (PDie.die k)))).foldl (measurePort (fixedMeas iout) bad temps) s

theorem powerMeasure_eq (iout : List (BitVec 16)) (bad : BitVec 6) (temps : List (BitVec 8)) (s : State) : powerMeasure iout bad temps s =
    let u := ((s.measureDies iout bad).measurePorts iout bad temps).measureUncore (bad.getLsbD 4 || bad.getLsbD 5) (uncoreMeas iout)
    if bad != 0 then u else u.measureTotal ((s.railMeas iout).sum + uncoreMeas iout) := rfl

section
variable {s : State} {iout : List (BitVec 16)} {bad : BitVec 6} {temps : List (BitVec 8)} {meas fixed : List Nat} {c e : CDie} {k : PDie} {p : Page} {f : Field}

theorem measureDie_of_bad (h : bad.getLsbD (c.val / 2) = true) : ∃ x, measureDie meas bad s c = s.setPwr c.val x := by simp [measureDie, h]

theorem measureDie_of_read (h : bad.getLsbD (c.val / 2) = false) : ∃ x, let u := (s.setPwr c.val x).setFld (cdPwr c) F.PWR_MEAS_MEAS ((meas[c.val]?).getD 0)
    measureDie meas bad s c = u ∨ measureDie meas bad s c = u.setFld (cdPwr c) F.PWR_STATUS_UNATTAINABLE 0 := by
  simp only [measureDie, h, runsOf, Bool.not_false, Bool.not_true, Bool.false_eq_true, if_false]
  exact ⟨_, (ite_eq_or_eq _ _ _).symm⟩

theorem measureDie_mem : (measureDie meas bad s c).mem = s.mem := by
  cases hb : bad.getLsbD (c.val / 2)
  case true => obtain ⟨x, h⟩ := measureDie_of_bad (meas := meas) (s := s) hb; simp [h]
  case false => obtain ⟨x, h | h⟩ := measureDie_of_read (meas := meas) (s := s) hb <;> simp [h]

theorem fld_measureDie_page (hf : f.off < 0x1000) (hp : cdPwr c ≠ p) : (measureDie meas bad s c).fld p f = s.fld p f := by
  cases hb : bad.getLsbD (c.val / 2)
  case true => obtain ⟨x, h⟩ := measureDie_of_bad (meas := meas) (s := s) hb; simp [h]
  case false =>
    obtain ⟨x, h | h⟩ := measureDie_of_read (meas := meas) (s := s) hb
    · rw [h, State.fld_setFld_page _ _ _ _ (by decide) hf hp, State.setPwr_fld]
    · rw [h, State.fld_setFld_page _ _ _ _ (by decide) hf hp, State.fld_setFld_page _ _ _ _ (by decide) hf hp, State.setPwr_fld]

theorem fld_measureDie_meas (hm : (meas[c.val]?).getD 0 ≤ 0xFFFF) : (measureDie meas bad s c).fld (cdPwr c) F.PWR_MEAS_MEAS =
    if bad.getLsbD (c.val / 2) then s.fld (cdPwr c) F.PWR_MEAS_MEAS else (meas[c.val]?).getD 0 := by
  have hshow : ∀ t : State, (t.setFld (cdPwr c) F.PWR_MEAS_MEAS ((meas[c.val]?).getD 0)).fld (cdPwr c) F.PWR_MEAS_MEAS = (meas[c.val]?).getD 0 := fun t =>
    (t.fld_setFld _ _ _ (by decide)).trans (Nat.mod_eq_of_lt (Nat.lt_succ_of_le hm))
  cases hb : bad.getLsbD (c.val / 2)
  case true => obtain ⟨x, h⟩ := measureDie_of_bad (meas := meas) (s := s) hb; simp [h]
  case false =>
    obtain ⟨x, h | h⟩ := measureDie_of_read (meas := meas) (s := s) hb
    · rw [h, hshow]; rfl
    · rw [h, State.fld_setFld_off _ _ _ _ _ (by decide), hshow]; rfl

theorem State.railMeas_get : ((s.railMeas iout)[c.val]?).getD 0 = railPower ((iout[c.val]?).getD 0) (s.requested c) := by
  have hget : ∀ c : CDie, allCDies[c.val]? = some c := by decide
  simp [State.railMeas, hget]

theorem State.measureDies_mem : (s.measureDies iout bad).mem = s.mem := foldl_keeps (g := State.mem) (fun _ _ => measureDie_mem) _ _

theorem State.fld_measureDies_page (hf : f.off < 0x1000) (hp : ∀ c, cdPwr c ≠ p) : (s.measureDies iout bad).fld p f = s.fld p f :=
  foldl_keeps (g := fun t => t.fld p f) (fun _ c => fld_measureDie_page hf (hp c)) _ _

theorem State.fld_measureDies_meas : (s.measureDies iout bad).fld (cdPwr c) F.PWR_MEAS_MEAS =
    if s.dieDown c = false ∧ bad.getLsbD (c.val / 2) = false then railPower ((iout[c.val]?).getD 0) (s.requested c) else s.fld (cdPwr c) F.PWR_MEAS_MEAS := by
  have hle : ((s.railMeas iout)[c.val]?).getD 0 ≤ 0xFFFF := State.railMeas_get.trans_le (railPower_le _ _)
  have hfold := foldl_once (measureDie (s.railMeas iout) bad) (fun t => t.fld (cdPwr c) F.PWR_MEAS_MEAS)
    (fun x => if bad.getLsbD (c.val / 2) then x else ((s.railMeas iout)[c.val]?).getD 0) c (fun t => fld_measureDie_meas hle)
    (fun t e he => fld_measureDie_page (by decide) (cdPwr_ne he)) (allCDies_nodup.filter (fun c => !(s.dieDown c))) s
  have hmem : c ∈ allCDies.filter (fun c => !(s.dieDown c)) ↔ s.dieDown c = false := by simp [mem_allCDies]
  rw [State.measureDies, hfold, State.railMeas_get, if_congr hmem rfl rfl]
  cases hd : s.dieDown c <;> cases hb : bad.getLsbD (c.val / 2) <;> simp

theorem measurePort_eq : measurePort fixed bad temps s k = s.setFld (.pwr (PDie.die k)) F.PWR_MEAS_TEMP ((temps[k.val]?).getD 0).toNat ∨
    measurePort fixed bad temps s k = (s.setFld (.pwr (PDie.die k)) F.PWR_MEAS_TEMP ((temps[k.val]?).getD 0).toNat).setFld (.pwr (PDie.die k)) F.PWR_MEAS_MEAS
      ((fixed[k.val]?).getD 0) := ite_eq_or_eq _ _ _

theorem State.measurePorts_mem : (s.measurePorts iout bad temps).mem = s.mem :=
  foldl_keeps (g := State.mem) (fun t k => by rcases measurePort_eq (s := t) with h | h <;> rw [h] <;> simp) _ _

/-- The port dies' measurements leave the pages of the compute dies, and every other word. -/
theorem State.fld_measurePorts (hf : f.off < 0x1000) (h : (∃ c, p = cdPwr c) ∨ F.PWR_MEAS_TEMP.off ≠ f.off) :
    (s.measurePorts iout bad temps).fld p f = s.fld p f := by
  have hwrite : ∀ (t : State) (k : PDie) (g : Field) (v : Nat), g.off = F.PWR_MEAS_TEMP.off → (t.setFld (.pwr (PDie.die k)) g v).fld p f = t.fld p f :=
    fun t k g v hg => by
      rcases h with ⟨c, rfl⟩ | h
      · exact t.fld_setFld_page _ _ _ (by rw [hg]; decide) hf (pwr_ne (PDie.die_ne_die k c))
      · exact t.fld_setFld_apart (by rw [hg]; decide) hf (by rw [hg]; exact h)
  refine foldl_keeps (g := fun t => t.fld p f) (fun t k => ?_) _ _
  rcases measurePort_eq (fixed := fixedMeas iout) (bad := bad) (temps := temps) (s := t) (k := k) with he | he
  · rw [he, hwrite _ _ F.PWR_MEAS_TEMP _ rfl]
  · rw [he, hwrite _ _ F.PWR_MEAS_MEAS _ rfl, hwrite _ _ F.PWR_MEAS_TEMP _ rfl]

section
variable {unBad : Bool} {uncore tot : Nat}

theorem State.measureUncore_mem : (s.measureUncore unBad uncore).mem = s.mem := by cases unBad <;> simp [State.measureUncore]

theorem State.fld_measureUncore_page (hf : f.off < 0x1000) (h : .pwr pd0 ≠ p) : (s.measureUncore unBad uncore).fld p f = s.fld p f := by
  cases unBad
  · exact (State.fld_setFld_page _ _ _ _ (by decide) hf h).trans (State.setPwr_fld _ _ _ _ _)
  · exact State.setPwr_fld _ _ _ _ _

theorem State.fld_measureUncore_total : (s.measureUncore unBad uncore).fld (.pwr pd0) F.PKG_MEAS_TOTAL = s.fld (.pwr pd0) F.PKG_MEAS_TOTAL := by
  cases unBad
  · exact (State.fld_setFld_other _ _ _ _ _ (by decide)).trans (State.setPwr_fld _ _ _ _ _)
  · exact State.setPwr_fld _ _ _ _ _

theorem State.fld_measureUncore_uncore (hu : uncore ≤ 0xFFFF) : (s.measureUncore unBad uncore).fld (.pwr pd0) F.PKG_MEAS_UNCORE =
    if unBad then s.fld (.pwr pd0) F.PKG_MEAS_UNCORE else uncore := by
  cases unBad
  · exact (State.fld_setFld _ _ _ _ (by decide)).trans (Nat.mod_eq_of_lt (Nat.lt_succ_of_le hu))
  · exact State.setPwr_fld _ _ _ _ _

/-- The package's measurement and its loop state. -/
def State.showTotal (s : State) (tot : Nat) (y : PkgPower) : State := (s.setFld (.pwr pd0) F.PKG_MEAS_TOTAL (min 0xFFFF tot)).setPkgPower y

theorem State.fld_showTotal {g : Field} {y : PkgPower} :
    (s.showTotal tot y).fld p g = (s.setFld (.pwr pd0) F.PKG_MEAS_TOTAL (min 0xFFFF tot)).fld p g := State.setPkgPower_fld _ _ _ _

/-- The package's measurement shows, and ends an episode of R473 or not. -/
theorem State.measureTotal_eq (s : State) (tot : Nat) : ∃ y, s.measureTotal tot =
    ((s.showTotal tot y).setFld (.pwr pd0) F.PKG_STATUS_UNATTAINABLE 0).setFld (.pwr pd0) F.PWR_STATUS_UNATTAINABLE 0 ∨ s.measureTotal tot = s.showTotal tot y := by
  simp only [State.measureTotal, runsOf]
  exact ⟨_, ite_eq_or_eq _ _ _⟩

theorem State.measureTotal_mem : (s.measureTotal tot).mem = s.mem := by
  obtain ⟨y, h | h⟩ := s.measureTotal_eq tot <;> simp [h, State.showTotal]

/-- What the end of an episode clears are bits of the status words. -/
theorem State.fld_measureTotal_eq {g : Field} (hg : g.off < 0x1000)
    (h : .pwr pd0 ≠ p ∨ F.PKG_STATUS_UNATTAINABLE.off ≠ g.off ∧ F.PWR_STATUS_UNATTAINABLE.off ≠ g.off) :
    (s.measureTotal tot).fld p g = (s.setFld (.pwr pd0) F.PKG_MEAS_TOTAL (min 0xFFFF tot)).fld p g := by
  obtain ⟨y, heq | heq⟩ := s.measureTotal_eq tot
  · rcases h with h | ⟨hpkg, hdie⟩
    · rw [heq, State.fld_setFld_page _ _ _ _ (by decide) hg h, State.fld_setFld_page _ _ _ _ (by decide) hg h, State.fld_showTotal]
    · rw [heq, State.fld_setFld_apart _ (by decide) hg hdie, State.fld_setFld_apart _ (by decide) hg hpkg, State.fld_showTotal]
  · rw [heq, State.fld_showTotal]

theorem State.fld_measureTotal_page {g : Field} (hg : g.off < 0x1000) (h : .pwr pd0 ≠ p) : (s.measureTotal tot).fld p g = s.fld p g := by
  rw [State.fld_measureTotal_eq hg (.inl h), State.fld_setFld_page _ _ _ _ (by decide) hg h]

theorem State.fld_measureTotal_uncore : (s.measureTotal tot).fld (.pwr pd0) F.PKG_MEAS_UNCORE = s.fld (.pwr pd0) F.PKG_MEAS_UNCORE := by
  rw [State.fld_measureTotal_eq (by decide) (.inr (by decide)), State.fld_setFld_other _ _ _ _ _ (by decide)]

theorem State.fld_measureTotal_total : (s.measureTotal tot).fld (.pwr pd0) F.PKG_MEAS_TOTAL = min 0xFFFF tot := by
  rw [State.fld_measureTotal_eq (by decide) (.inr (by decide)), State.fld_setFld _ _ _ _ (by decide)]
  exact Nat.mod_eq_of_lt (Nat.lt_succ_of_le (Nat.min_le_left _ _))

end

/-- What POWER_MEASURE leaves before the package's measurement. -/
def State.measured (s : State) (iout : List (BitVec 16)) (bad : BitVec 6) (temps : List (BitVec 8)) : State :=
  ((s.measureDies iout bad).measurePorts iout bad temps).measureUncore (bad.getLsbD 4 || bad.getLsbD 5) (uncoreMeas iout)

theorem powerMeasure_of_read (h : bad = 0) :
    powerMeasure iout bad temps s = (s.measured iout bad temps).measureTotal ((s.railMeas iout).sum + uncoreMeas iout) :=
  (powerMeasure_eq iout bad temps s).trans (if_neg (by simp [h]))

theorem powerMeasure_of_bad (h : bad ≠ 0) : powerMeasure iout bad temps s = s.measured iout bad temps :=
  (powerMeasure_eq iout bad temps s).trans (if_pos (by simpa using h))

theorem uncoreMeas_le : uncoreMeas iout ≤ 0xFFFF := Nat.min_le_left _ _

theorem State.measured_mem : (s.measured iout bad temps).mem = s.mem :=
  State.measureUncore_mem.trans (State.measurePorts_mem.trans State.measureDies_mem)

theorem State.fld_measured_meas : (s.measured iout bad temps).fld (cdPwr c) F.PWR_MEAS_MEAS =
    if s.dieDown c = false ∧ bad.getLsbD (c.val / 2) = false then railPower ((iout[c.val]?).getD 0) (s.requested c) else s.fld (cdPwr c) F.PWR_MEAS_MEAS := by
  rw [State.measured, State.fld_measureUncore_page (by decide) (cdPwr_ne_pd0 c).symm, State.fld_measurePorts (by decide) (.inl ⟨c, rfl⟩),
    State.fld_measureDies_meas]

theorem State.fld_measured_uncore : (s.measured iout bad temps).fld (.pwr pd0) F.PKG_MEAS_UNCORE =
    if bad.getLsbD 4 || bad.getLsbD 5 then s.fld (.pwr pd0) F.PKG_MEAS_UNCORE else uncoreMeas iout := by
  rw [State.measured, State.fld_measureUncore_uncore uncoreMeas_le, State.fld_measurePorts (by decide) (.inr (by decide)),
    State.fld_measureDies_page (by decide) cdPwr_ne_pd0]

theorem State.fld_measured_total : (s.measured iout bad temps).fld (.pwr pd0) F.PKG_MEAS_TOTAL = s.fld (.pwr pd0) F.PKG_MEAS_TOTAL := by
  rw [State.measured, State.fld_measureUncore_total, State.fld_measurePorts (by decide) (.inr (by decide)), State.fld_measureDies_page (by decide) cdPwr_ne_pd0]

/-! What POWER_MEASURE leaves. -/

theorem powerMeasure_mem : (powerMeasure iout bad temps s).mem = s.mem := by
  by_cases h : bad = 0
  · rw [powerMeasure_of_read h, State.measureTotal_mem, State.measured_mem]
  · rw [powerMeasure_of_bad h, State.measured_mem]

theorem fld_powerMeasure_meas : (powerMeasure iout bad temps s).fld (cdPwr c) F.PWR_MEAS_MEAS =
    if s.dieDown c = false ∧ bad.getLsbD (c.val / 2) = false then railPower ((iout[c.val]?).getD 0) (s.requested c) else s.fld (cdPwr c) F.PWR_MEAS_MEAS := by
  by_cases h : bad = 0
  · rw [powerMeasure_of_read h, State.fld_measureTotal_page (by decide) (cdPwr_ne_pd0 c).symm, State.fld_measured_meas]
  · rw [powerMeasure_of_bad h, State.fld_measured_meas]

theorem fld_powerMeasure_uncore : (powerMeasure iout bad temps s).fld (.pwr pd0) F.PKG_MEAS_UNCORE =
    if bad.getLsbD 4 || bad.getLsbD 5 then s.fld (.pwr pd0) F.PKG_MEAS_UNCORE else uncoreMeas iout := by
  by_cases h : bad = 0
  · rw [powerMeasure_of_read h, State.fld_measureTotal_uncore, State.fld_measured_uncore]
  · rw [powerMeasure_of_bad h, State.fld_measured_uncore]

theorem fld_powerMeasure_total : (powerMeasure iout bad temps s).fld (.pwr pd0) F.PKG_MEAS_TOTAL =
    if bad = 0 then min 0xFFFF ((s.railMeas iout).sum + uncoreMeas iout) else s.fld (.pwr pd0) F.PKG_MEAS_TOTAL := by
  by_cases h : bad = 0
  · rw [powerMeasure_of_read h, State.fld_measureTotal_total, if_pos h]
  · rw [powerMeasure_of_bad h, State.fld_measured_total, if_neg h]

end

/-! Calibration. -/

/-- A gain's next value: within 256 of the one before, and in its bounds (R459). -/
def nextGain (g : Nat) (fit : Int) : Nat := (clampInt 0x2000 0x8000 (clampInt ((g : Int) - 256) ((g : Int) + 256) fit)).toNat

theorem nextGain_bounds {g : Nat} (hlo : 0x2000 ≤ g) (hhi : g ≤ 0x8000) (fit : Int) :
    0x2000 ≤ nextGain g fit ∧ nextGain g fit ≤ 0x8000 ∧ nextGain g fit ≤ g + 256 ∧ g ≤ nextGain g fit + 256 := by
  unfold nextGain clampInt
  split_ifs <;> omega

section
variable (s : State) (pg : Page) (ix : Nat)

/-- The measurements that count as valid. -/
def State.validPairs : List MeasPair := (s.pwrSt ix).pairs.filter (fun p => p.ok && p.count != 0)

/-- The pairs of an interval are used up. -/
def State.dropPairs : State := s.setPwr ix { s.pwrSt ix with pairs := [] }

@[simp] theorem State.dropPairs_fld (p : Page) (f : Field) : (s.dropPairs ix).fld p f = s.fld p f := s.setPwr_fld _ _ _ _

@[simp] theorem State.dropPairs_pairs : ((s.dropPairs ix).pwrSt ix).pairs = [] := by rw [State.dropPairs, State.pwrSt_setPwr_self]

variable {s pg ix}

theorem State.calibrate_of_few (h : (s.validPairs ix).length < 50) :
    s.calibrate pg ix = (s.dropPairs ix).setFld pg F.PWR_CONF_AGE (min 255 (s.fld pg F.PWR_CONF_AGE + 1)) :=
  (if_pos h).trans (by rw [State.dropPairs, State.setPwr_fld])

theorem State.calibrate_of_frozen (h : ¬ (s.validPairs ix).length < 50) (hfreeze : s.flag pg F.PWR_CONF_FREEZE = true) : s.calibrate pg ix = s.dropPairs ix :=
  (if_neg h).trans (if_pos (by rw [State.setPwr_flag]; exact hfreeze))

theorem State.calibrate_of_fit (h : ¬ (s.validPairs ix).length < 50) (hfreeze : s.flag pg F.PWR_CONF_FREEZE = false) : ∃ fit o conf, s.calibrate pg ix =
    ((((s.dropPairs ix).setFld pg F.PWR_CAL_GAIN (nextGain (s.fld pg F.PWR_CAL_GAIN) fit)).setFld pg F.PWR_CAL_OFFSET o).setFld pg F.PWR_CONF_AGE 0).setFld pg
      F.PWR_CONF_CONF conf := by
  rw [← (s.dropPairs_fld ix pg F.PWR_CAL_GAIN)]
  exact ⟨_, _, _, (if_neg h).trans (if_neg (by rw [State.setPwr_flag, hfreeze]; decide))⟩

theorem State.calibrate_pairs : ((s.calibrate pg ix).pwrSt ix).pairs = [] := by
  by_cases hfew : (s.validPairs ix).length < 50
  · rw [State.calibrate_of_few hfew, State.setFld_pwrSt, State.dropPairs_pairs]
  cases hfreeze : s.flag pg F.PWR_CONF_FREEZE
  · obtain ⟨fit, o, conf, h⟩ := State.calibrate_of_fit hfew hfreeze
    rw [h, State.setFld_pwrSt, State.setFld_pwrSt, State.setFld_pwrSt, State.setFld_pwrSt, State.dropPairs_pairs]
  · rw [State.calibrate_of_frozen hfew hfreeze, State.dropPairs_pairs]

/-- Without a fit neither gain nor offset moves. -/
theorem State.calibrate_keeps {f : Field} (hf : F.PWR_CONF_AGE.off ≠ f.off) (h : (s.validPairs ix).length < 50 ∨ s.flag pg F.PWR_CONF_FREEZE = true) :
    (s.calibrate pg ix).fld pg f = s.fld pg f := by
  by_cases hfew : (s.validPairs ix).length < 50
  · rw [State.calibrate_of_few hfew, State.fld_setFld_off _ _ _ _ _ hf, State.dropPairs_fld]
  · rw [State.calibrate_of_frozen hfew (h.resolve_left hfew), State.dropPairs_fld]

theorem State.calibrate_age (h : (s.validPairs ix).length < 50) : (s.calibrate pg ix).fld pg F.PWR_CONF_AGE = min 255 (s.fld pg F.PWR_CONF_AGE + 1) := by
  rw [State.calibrate_of_few h, State.fld_setFld _ _ _ _ (by decide)]
  exact Nat.mod_eq_of_lt (Nat.lt_succ_of_le (Nat.min_le_left _ _))

theorem State.calibrate_gain (hlo : 0x2000 ≤ s.fld pg F.PWR_CAL_GAIN) (hhi : s.fld pg F.PWR_CAL_GAIN ≤ 0x8000) :
    (s.calibrate pg ix).fld pg F.PWR_CAL_GAIN = s.fld pg F.PWR_CAL_GAIN ∨
      ∃ fit, (s.calibrate pg ix).fld pg F.PWR_CAL_GAIN = nextGain (s.fld pg F.PWR_CAL_GAIN) fit := by
  by_cases hkeep : (s.validPairs ix).length < 50 ∨ s.flag pg F.PWR_CONF_FREEZE = true
  · exact .inl (State.calibrate_keeps (by decide) hkeep)
  obtain ⟨hfew, hfreeze⟩ := not_or.1 hkeep
  obtain ⟨fit, o, conf, h⟩ := State.calibrate_of_fit (pg := pg) hfew (Bool.not_eq_true _ ▸ hfreeze)
  refine .inr ⟨fit, ?_⟩
  rw [h, State.fld_setFld_off _ _ _ _ _ (by decide), State.fld_setFld_off _ _ _ _ _ (by decide), State.fld_setFld_other _ _ _ _ _ (by decide),
    State.fld_setFld _ _ _ _ (by decide)]
  obtain ⟨-, hmax, -⟩ := nextGain_bounds hlo hhi fit
  exact Nat.mod_eq_of_lt (hmax.trans_lt (by decide))

end

/-! The limits of the dies, and the comparison with the cap. -/

section
variable {s : State} {c : CDie}

/-- The compute dies that share the cap. -/
def State.sharers (s : State) : List CDie := allCDies.filter (fun c => !(s.fencedDies.contains (CDie.die c)))

theorem State.sharers_nodup (s : State) : s.sharers.Nodup := allCDies_nodup.filter _

/-- The share of a die in the cap. -/
def State.capShare (s : State) : Nat :=
  min 0xFFF ((s.fld (.pwr pd0) F.PKG_CAP_WATTS * 800 - 105 * s.pkgPower.uncMax.foldl max s.pkgPower.uncNow) / (800 * s.sharers.length))

theorem State.shareCap_eq (h : s.sharers.isEmpty = false) : s.shareCap =
    (s.sharers.filter (fun c => !(s.inReset (CDie.die c)))).foldl (fun t c => t.setFld (cdPwr c) F.PWR_LIMIT_WATTS s.capShare) s :=
  if_neg (by show ¬ s.sharers.isEmpty = true; rw [h]; decide)

theorem State.fld_shareCap_limit (hf : CDie.die c ∉ s.fencedDies) (hr : s.inReset (CDie.die c) = false) :
    s.shareCap.fld (cdPwr c) F.PWR_LIMIT_WATTS = s.capShare := by
  have hmem : c ∈ s.sharers := by simp [State.sharers, mem_allCDies, hf]
  have hlive : c ∈ s.sharers.filter (fun c => !(s.inReset (CDie.die c))) := by simp [hmem, hr]
  rw [State.shareCap_eq (by simpa [List.isEmpty_iff] using List.ne_nil_of_mem hmem),
    State.fld_foldl_setFld_cdPwr _ (by decide) (by decide) (s.sharers_nodup.filter _), if_pos hlive]
  exact Nat.mod_eq_of_lt (Nat.lt_succ_of_le (Nat.min_le_left _ _))

/-- The estimate is past the cap. -/
def State.pastCap (s : State) : Bool := decide (8 * s.fld (.pwr pd0) F.PKG_CAP_WATTS < s.fld (.pwr pd0) F.PKG_EST_TOTAL)

/-- PKG_OVER on every compute die and on the package. -/
def State.showOver (s : State) (b : Bool) : State :=
  allCDies.foldl (fun t c => t.setFld (cdPwr c) F.PWR_STATUS_PKG_OVER b.toNat) (s.setFld (.pwr pd0) F.PKG_STATUS_OVER b.toNat)

theorem pkgCapCompare_eq (s : State) : pkgCapCompare s = (s.showOver s.pastCap).setPkgPower { (s.showOver s.pastCap).pkgPower with
    room := decide (100 * s.fld (.pwr pd0) F.PKG_EST_TOTAL < 95 * (8 * s.fld (.pwr pd0) F.PKG_CAP_WATTS)) } := rfl

theorem State.showOver_mem {b : Bool} : (s.showOver b).mem = s.mem := (foldl_keeps (g := State.mem) (by simp) _ _).trans (by simp)

theorem State.fld_showOver_pkg {b : Bool} : (s.showOver b).fld (.pwr pd0) F.PKG_STATUS_OVER = b.toNat := by
  rw [State.showOver, State.fld_foldl_setFld_cdPwr_page _ (by decide) (by decide) cdPwr_ne_pd0, State.fld_setFld _ _ _ _ (by decide)]
  exact Nat.mod_eq_of_lt (Bool.toNat_lt b)

theorem State.fld_showOver_die {b : Bool} : (s.showOver b).fld (cdPwr c) F.PWR_STATUS_PKG_OVER = b.toNat := by
  rw [State.showOver, State.fld_foldl_setFld_cdPwr _ (by decide) (by decide) allCDies_nodup, if_pos (mem_allCDies c)]
  exact Nat.mod_eq_of_lt (Bool.toNat_lt b)

theorem Bool.toNat_decide (p : Prop) [Decidable p] : (decide p).toNat = if p then 1 else 0 := by split <;> simp [*]

end

/-- Settles O36: each clause is the rule above for its command. -/
theorem estimatesAreCalibrated : Obligations.EstimatesAreCalibrated := by
  refine ⟨fun s raw u hon _ => ?estimate, fun g raw o => ⟨calibrated_le g o raw, calibrated_unit raw⟩, fun s iout bad temps hon => ?measure,
    fun s pg ix hlo hhi => ?gain, fun s pg ix => ⟨fun h => ⟨State.calibrate_keeps (by decide) h, State.calibrate_keeps (by decide) h⟩,
      fun h => State.calibrate_age h, State.calibrate_pairs⟩,
    fun s c hf hr => State.fld_shareCap_limit hf hr, fun s hon => ⟨fun hmc => run_of_eq hon (if_pos hmc), fun hmc => run_of_eq hon (if_neg (by simp [hmc])), ?compare⟩⟩
  case estimate =>
    obtain ⟨x, y, h⟩ := powerEstimate_eq s raw u
    have hest : ∀ (d : Die) (f : Field), f.off = F.PWR_EST_CAL.off → (powerEstimate raw u s).fld (.pwr d) f = (s.estimateAll raw).fld (.pwr d) f := fun d f hf => by
      have hoff : f.off < 0x1000 := by rw [hf]; decide
      have hne : F.PKG_EST_TOTAL.off ≠ f.off ∧ F.PKG_EST_UNCORE.off ≠ f.off := by rw [hf]; decide
      rw [h, State.setPkgPower_fld, State.fld_setFld_apart _ (by decide) hoff hne.2, State.fld_setFld_apart _ (by decide) hoff hne.1, State.setPwr_fld]
    refine ⟨_, run_on hon, by simp [h, State.estimateAll_mem], ?_, ?_, fun d hr hf => ?_, fun d hd => ?_⟩
    · rw [h, State.setPkgPower_fld, State.fld_setFld _ _ _ _ (by decide)]
      exact Nat.mod_eq_of_lt (Nat.lt_succ_of_le (calibrated_le _ _ _))
    · rw [h, State.setPkgPower_fld, State.fld_setFld_other _ _ _ _ _ (by decide), State.fld_setFld _ _ _ _ (by decide)]
      exact Nat.mod_eq_of_lt (Nat.lt_succ_of_le (Nat.min_le_left _ _))
    · have hlive : d ∈ s.liveDies := State.mem_liveDies.2 ⟨hr, hf⟩
      rw [hest d F.PWR_EST_RAW rfl, hest d F.PWR_EST_CAL rfl, State.fld_estimateAll_raw, State.fld_estimateAll_cal, if_pos hlive, if_pos hlive]
      exact ⟨rfl, rfl⟩
    · have hdown : d ∉ s.liveDies := fun hlive => by
        obtain ⟨hr, hf⟩ := State.mem_liveDies.1 hlive
        simp [hr, hf] at hd
      rw [hest d F.PWR_EST_RAW rfl, hest d F.PWR_EST_CAL rfl, State.fld_estimateAll_raw, State.fld_estimateAll_cal, if_neg hdown, if_neg hdown]
      exact ⟨rfl, rfl⟩
  case measure =>
    refine ⟨_, run_on hon, powerMeasure_mem, fun c hc => ?_, fun c hc => ?_, fld_powerMeasure_uncore, fld_powerMeasure_total⟩
    · rw [fld_powerMeasure_meas, hc]
      cases bad.getLsbD (c.val / 2) <;> simp
    · rw [fld_powerMeasure_meas, hc]
      simp
  case gain =>
    rcases State.calibrate_gain (ix := ix) hlo hhi with h | ⟨fit, h⟩ <;> rw [h]
    · omega
    · exact nextGain_bounds hlo hhi fit
  case compare =>
    refine ⟨_, run_of_eq hon (pkgCapCompare_eq s), ?_, ?_, fun c => ?_, rfl⟩
    · rw [State.setPkgPower_mem, State.showOver_mem]
    · rw [State.setPkgPower_fld, State.fld_showOver_pkg, State.pastCap, Bool.toNat_decide]
    · rw [State.setPkgPower_fld, State.setPkgPower_fld, State.fld_showOver_die, State.fld_showOver_pkg]

end Sys2Proof.Machine
end

section
/-! Faults of the supplies, trips and limits, and the settings of PWR_SET (12 R455, R464, R473, R476, R478, R484–R486). -/

namespace Sys2Proof.Machine

theorem State.fld_ite (c : Prop) [Decidable c] (s t : State) (p : Page) (f : Field) : (if c then s else t).fld p f = if c then s.fld p f else t.fld p f :=
  apply_ite (fun u : State => u.fld p f) c s t

/-! Limits of the port dies, trips, and caps that cannot be held. -/

section
variable {s : State} {k : PDie} {d : Die} {c : CDie}

theorem pdOver_of_past (h : 6 * min 180 (s.fld (.pwr (PDie.die k)) F.PWR_LIMIT_RAIL_A) < s.fld (.pwr (PDie.die k)) F.PWR_EST_CAL) :
    pdOver k s = s.raise (.pwr (PDie.die k)) 0x105 1 {} := if_pos h

theorem pdOver_of_within (h : ¬ 6 * min 180 (s.fld (.pwr (PDie.die k)) F.PWR_LIMIT_RAIL_A) < s.fld (.pwr (PDie.die k)) F.PWR_EST_CAL) : pdOver k s = s := if_neg h

theorem thermalTrip_of_live (h : s.sensorsLive d = true) : thermalTrip d s = State.raise { s with thermtrip := true } (.pwr d) 0x101 4 {} := if_neg (by simp [h])

theorem thermalTrip_of_dead (h : s.sensorsLive d = false) : thermalTrip d s = s := if_pos (by simp [h])

theorem capUnattainable_die (hflag : s.flag (cdPwr c) F.PWR_STATUS_UNATTAINABLE = false) (hbreach : 5000 ≤ (s.pwrSt c.val).breach) : capUnattainable (some c) s =
    ((State.setPwr (s.setFld (cdPwr c) F.PWR_STATUS_UNATTAINABLE 1) c.val { s.pwrSt c.val with within := 0 }).fireEvent (cdPwr c) 3).raise (cdPwr c) 0x104 2 {} := by
  rw [← s.setFld_pwrSt c.val (cdPwr c) F.PWR_STATUS_UNATTAINABLE 1]
  exact if_neg (by simp [hflag, hbreach])

theorem capUnattainable_die_of_held (h : s.flag (cdPwr c) F.PWR_STATUS_UNATTAINABLE = true ∨ (s.pwrSt c.val).breach < 5000) : capUnattainable (some c) s = s :=
  if_pos (by simpa using h)

theorem capUnattainable_pkg_of_held (h : s.flag (.pwr pd0) F.PWR_STATUS_UNATTAINABLE = true ∨ s.pkgPower.breach < 5000) : capUnattainable none s = s :=
  if_pos (by simpa using h)

/-- The package shows that its cap cannot be held, and a new episode begins. -/
def State.showUnattainable (s : State) : State :=
  ((s.setFld (.pwr pd0) F.PWR_STATUS_UNATTAINABLE 1).setPkgPower { s.pkgPower with within := 0 }).setFld (.pwr pd0) F.PKG_STATUS_UNATTAINABLE 1

theorem capUnattainable_pkg (hflag : s.flag (.pwr pd0) F.PWR_STATUS_UNATTAINABLE = false) (hbreach : 5000 ≤ s.pkgPower.breach) :
    capUnattainable none s = (s.showUnattainable.fireEvent (.pwr pd0) 3).raise (.pwr pd0) 0x104 2 {} := if_neg (by simp [hflag, hbreach])

end

/-! The management supplies. -/

/-- The flags of the management input that is not active, and of the one that is. -/
def State.otherOk (s : State) : Field := if s.fld (.pwr pd0) F.PWR_MGS_ACTIVE = 0 then F.PWR_MGS_B_OK else F.PWR_MGS_A_OK
def State.mineOk (s : State) : Field := if s.fld (.pwr pd0) F.PWR_MGS_ACTIVE = 0 then F.PWR_MGS_A_OK else F.PWR_MGS_B_OK

/-- The other input takes over, and the switch is counted. -/
def State.switchSupply (s : State) : State :=
  let t := (s.setFld (.pwr pd0) s.mineOk 0).setFld (.pwr pd0) F.PWR_MGS_ACTIVE (1 - s.fld (.pwr pd0) F.PWR_MGS_ACTIVE)
  t.setFld (.pwr pd0) F.PWR_MGS_SWITCHES (min 255 (t.fld (.pwr pd0) F.PWR_MGS_SWITCHES + 1))

section
variable {s : State}

/-- The two flags lie beside the selection and the count. -/
theorem State.mineOk_eq (s : State) : s.mineOk = F.PWR_MGS_A_OK ∨ s.mineOk = F.PWR_MGS_B_OK := ite_eq_or_eq _ _ _

theorem mgmtSupplySwitchover_ok (s : State) :
    (if s.fld (.pwr pd0) F.PWR_MGS_ACTIVE = 0 then s.flag (.pwr pd0) F.PWR_MGS_B_OK else s.flag (.pwr pd0) F.PWR_MGS_A_OK) = s.flag (.pwr pd0) s.otherOk :=
  (apply_ite (fun f => s.flag (.pwr pd0) f) _ _ _).symm

theorem mgmtSupplySwitchover_of_good (h : s.flag (.pwr pd0) s.otherOk = true) :
    mgmtSupplySwitchover s = (s.switchSupply.fireEvent (.pwr pd0) 4).raise (.pwr pd0) 0x106 1 {} := by
  have hok := (mgmtSupplySwitchover_ok s).trans h
  exact if_neg (by rw [hok]; decide)

theorem mgmtSupplySwitchover_of_lost (h : s.flag (.pwr pd0) s.otherOk = false) : mgmtSupplySwitchover s = s := by
  have hok := (mgmtSupplySwitchover_ok s).trans h
  exact if_pos (by rw [hok]; decide)

theorem State.switchSupply_active : s.switchSupply.fld (.pwr pd0) F.PWR_MGS_ACTIVE = 1 - s.fld (.pwr pd0) F.PWR_MGS_ACTIVE := by
  rw [State.switchSupply, State.fld_setFld_other _ _ _ _ _ (by decide), State.fld_setFld _ _ _ _ (by decide)]
  exact Nat.mod_eq_of_lt (Nat.lt_succ_of_le (Nat.sub_le 1 _))

theorem State.switchSupply_mine : s.switchSupply.flag (.pwr pd0) s.mineOk = false := by
  have hcleared : s.switchSupply.fld (.pwr pd0) s.mineOk = 0 := by
    rw [State.switchSupply]
    rcases s.mineOk_eq with h | h <;>
      rw [h, State.fld_setFld_other _ _ _ _ _ (by decide), State.fld_setFld_other _ _ _ _ _ (by decide), State.fld_setFld _ _ _ _ (by decide)] <;> rfl
  rw [State.flag, hcleared]
  rfl

theorem State.switchSupply_switches : s.switchSupply.fld (.pwr pd0) F.PWR_MGS_SWITCHES = min 255 (s.fld (.pwr pd0) F.PWR_MGS_SWITCHES + 1) := by
  have hkept : ∀ v w, ((s.setFld (.pwr pd0) s.mineOk v).setFld (.pwr pd0) F.PWR_MGS_ACTIVE w).fld (.pwr pd0) F.PWR_MGS_SWITCHES =
      s.fld (.pwr pd0) F.PWR_MGS_SWITCHES := fun v w => by
    rcases s.mineOk_eq with h | h <;> rw [h, State.fld_setFld_other _ _ _ _ _ (by decide), State.fld_setFld_other _ _ _ _ _ (by decide)]
  simp only [State.switchSupply, hkept]
  rw [State.fld_setFld _ _ _ _ (by decide)]
  exact Nat.mod_eq_of_lt (Nat.lt_succ_of_le (Nat.min_le_left _ _))

theorem vmgInputWindowChange_of_same {b : Bool} (h : s.flag (.pwr pd0) s.otherOk = b) : vmgInputWindowChange b s = s := if_pos h

theorem vmgInputWindowChange_of_left (h : s.flag (.pwr pd0) s.otherOk = true) :
    vmgInputWindowChange false s = (s.setFld (.pwr pd0) s.otherOk 0).raise (.pwr pd0) 0x106 1 {} := if_neg (by rw [← State.otherOk, h]; decide)

theorem vmgInputWindowChange_of_back (h : s.flag (.pwr pd0) s.otherOk = false) : vmgInputWindowChange true s = s.setFld (.pwr pd0) s.otherOk 1 :=
  if_neg (by rw [← State.otherOk, h]; decide)

theorem State.dropRails_fuses : s.dropRails.fuses = s.fuses := foldl_keeps (g := State.fuses) (fun t r => t.emit_fuses (.enable r false)) _ _

theorem State.dropRails_flash : s.dropRails.flash = s.flash := foldl_keeps (g := State.flash) (fun t r => t.emit_flash (.enable r false)) _ _

/-! Rails. -/

/-- The rail of a die is lost. -/
def State.addLostRail (s : State) (d : Die) : State := { s with lostRails := if s.lostRails.contains d then s.lostRails else s.lostRails ++ [d] }

theorem State.mem_addLostRail (d : Die) : d ∈ (s.addLostRail d).lostRails := by
  unfold State.addLostRail
  split
  · next h => simpa using h
  · simp

theorem State.loseRail_of_fatal {r : Rail} (hcd : ∀ n, r ≠ .cd n) (hpd : r ≠ .pd1) : s.loseRail r = s.raise (.pwr pd0) 0x108 4 {} := by
  cases r with
  | cd n => exact absurd rfl (hcd n)
  | pd1 => exact absurd rfl hpd
  | _ => rfl

end

/-! PWR_SET. -/

theorem Fuses.kMax_lt (f : Fuses) : f.kMax < 32 := by unfold Fuses.kMax; split_ifs <;> decide

theorem Fuses.pkgLimit_lt (f : Fuses) : f.pkgLimit < 8192 := by unfold Fuses.pkgLimit; split_ifs <;> decide

/-- The form of a PWR_SET (R478). -/
def PwrForm (b : List Byte) : Prop :=
  b.length = 8 ∧ imgZero b 5 3 = true ∧ (imgNat b 2 1 = 0 ∨ imgNat b 2 1 = 1 ∨ imgNat b 2 1 = 0xFF) ∧ (imgNat b 3 1 = 0 ∨ 6 ≤ imgNat b 3 1) ∧
    (imgNat b 2 1 = 1 → imgNat b 3 1 ≠ 0) ∧ (imgNat b 4 1 = 0 ∨ 6 ≤ imgNat b 4 1)

/-- The cap of a PWR_SET, where it names one. -/
def State.capTo (s : State) (w : Nat) : State := if w = 0 then s else s.setCap w

/-- The settings of a die under a PWR_SET. -/
def setDieSteps (top mode pk sm : Nat) (t : State) (c : CDie) : State :=
  let pg := cdPwr c
  let t := if top < pk || top < sm then t.setFld pg F.PWR_STATUS_CLAMPED 1 else t
  let t := if mode = 0xFF then t else t.setFld pg F.PWR_CTRL_MODE mode
  let t := if mode = 1 then (t.setFld pg F.PWR_STATUS_PLAT_LOST 0).setFld pg F.PWR_STATUS_LOST_CAUSE 0 else t
  let t := if pk = 0 then t else t.setFld pg F.PWR_CTRL_PLAT_K (min top pk)
  if sm = 0 then t else t.setFld pg F.PWR_CTRL_STEP_MAX (min top sm)

/-- The settings of every compute die that is up. -/
def State.setSteps (s : State) (mode pk sm : Nat) : State :=
  (allCDies.filter (fun c => !(s.dieDown c))).foldl (setDieSteps s.fuses.kMax mode pk sm) s

section
variable {s : State} {b : List Byte}

theorem pwrSet_refuses_iff : (b.length != 8 || !(imgZero b 5 3) || !(imgNat b 2 1 = 0 || imgNat b 2 1 = 1 || imgNat b 2 1 = 0xFF) ||
    (imgNat b 3 1 != 0 && imgNat b 3 1 < 6) || (imgNat b 2 1 = 1 && imgNat b 3 1 = 0) || (imgNat b 4 1 != 0 && imgNat b 4 1 < 6) ||
    !(s.fld .flt F.FLT_STATE_STATE = hubNORMAL)) = true ↔ ¬ (PwrForm b ∧ s.fld .flt F.FLT_STATE_STATE = hubNORMAL) := by
  simp only [Bool.or_eq_true, Bool.and_eq_true, bne_iff_ne, Bool.not_eq_true', decide_eq_true_eq, PwrForm, ← Nat.not_lt,
    ← Bool.not_eq_true]
  tauto

theorem pwrSet_of_refused (h : ¬ PwrForm b ∨ s.fld .flt F.FLT_STATE_STATE ≠ hubNORMAL) : pwrSet b s = (s, mcREFUSED ++ List.replicate 4 0) :=
  if_pos (pwrSet_refuses_iff.2 (not_and_or.2 h))

theorem pwrSet_of_taken (hform : PwrForm b) (hub : s.fld .flt F.FLT_STATE_STATE = hubNORMAL) : ∃ r : List Byte, r.length = 4 ∧
    pwrSet b s = (((s.capTo (imgNat b 0 2)).setSteps (imgNat b 2 1) (imgNat b 3 1) (imgNat b 4 1)).shareCap, mcOK ++ r) := by
  have htaken : pwrSet b s = _ := if_neg (fun h => pwrSet_refuses_iff.1 h ⟨hform, hub⟩)
  rw [List.append_assoc] at htaken
  exact ⟨_, rfl, htaken⟩

end

/-! What the settings leave: the cap on PD0's page, the settings on the pages of the dies, and the shares. -/

section
variable {s : State} {c : CDie} {p : Page} {f : Field}

/-- A cap, clamped and shown so where it passes the fused limit, or none. -/
theorem State.capTo_cases (s : State) (w : Nat) : s.capTo w = s ∨
    s.capTo w = (s.setFld (.pwr pd0) F.PKG_CAP_WATTS (min s.fuses.pkgLimit w)).setFld (.pwr pd0) F.PKG_STATUS_CLAMPED 1 ∨
    s.capTo w = s.setFld (.pwr pd0) F.PKG_CAP_WATTS (min s.fuses.pkgLimit w) := by
  by_cases hw : w = 0
  · exact .inl (if_pos hw)
  · rw [show s.capTo w = s.setCap w from if_neg hw]
    exact .inr (ite_eq_or_eq _ _ _)

theorem State.capTo_mem (w : Nat) : (s.capTo w).mem = s.mem := by
  rcases s.capTo_cases w with h | h | h <;> rw [h] <;> simp

theorem State.capTo_fuses (w : Nat) : (s.capTo w).fuses = s.fuses := by
  rcases s.capTo_cases w with h | h | h <;> rw [h] <;> simp

/-- The cap stands on PD0's page. -/
theorem State.fld_capTo_page (w : Nat) (hf : f.off < 0x1000) (hp : .pwr pd0 ≠ p) : (s.capTo w).fld p f = s.fld p f := by
  rcases s.capTo_cases w with h | h | h <;> rw [h]
  · rw [State.fld_setFld_page _ _ _ _ (by decide) hf hp, State.fld_setFld_page _ _ _ _ (by decide) hf hp]
  · rw [State.fld_setFld_page _ _ _ _ (by decide) hf hp]

theorem State.capTo_dieDown (w : Nat) : (s.capTo w).dieDown c = s.dieDown c := by
  rcases s.capTo_cases w with h | h | h <;> rw [h]
  · rw [State.dieDown_setFld _ (by decide) (by decide), State.dieDown_setFld _ (by decide) (by decide)]
  · rw [State.dieDown_setFld _ (by decide) (by decide)]

theorem State.fld_capTo_watts (w : Nat) :
    (s.capTo w).fld (.pwr pd0) F.PKG_CAP_WATTS = if w = 0 then s.fld (.pwr pd0) F.PKG_CAP_WATTS else min s.fuses.pkgLimit w := by
  have hcap : min s.fuses.pkgLimit w % 2 ^ F.PKG_CAP_WATTS.width = min s.fuses.pkgLimit w :=
    Nat.mod_eq_of_lt ((Nat.min_le_left _ _).trans_lt s.fuses.pkgLimit_lt)
  unfold State.capTo State.setCap
  simp (disch := decide) only [State.fld_ite, State.fld_setFld_off, State.fld_setFld, hcap, ite_self]

theorem State.shareCap_cases (s : State) : s.shareCap = s ∨
    s.shareCap = (s.sharers.filter (fun c => !(s.inReset (CDie.die c)))).foldl (fun t c => t.setFld (cdPwr c) F.PWR_LIMIT_WATTS s.capShare) s :=
  ite_eq_or_eq _ _ _

theorem State.shareCap_mem : s.shareCap.mem = s.mem := by
  rcases s.shareCap_cases with h | h <;> rw [h]
  exact foldl_keeps (g := State.mem) (fun t e => t.setFld_mem _ _ _) _ _

theorem State.shareCap_fuses : s.shareCap.fuses = s.fuses := by
  rcases s.shareCap_cases with h | h <;> rw [h]
  exact foldl_keeps (g := State.fuses) (fun t e => t.setFld_fuses _ _ _) _ _

/-- The shares stand in the limits alone. -/
theorem State.fld_shareCap (hf : f.off < 0x1000) (hlim : F.PWR_LIMIT_WATTS.off ≠ f.off) : s.shareCap.fld p f = s.fld p f := by
  rcases s.shareCap_cases with h | h <;> rw [h]
  exact foldl_keeps (g := fun t => t.fld p f) (fun t e => t.fld_setFld_apart (by decide) hf hlim) _ _

section
variable {top mode pk sm : Nat} {t : State}

theorem setDieSteps_mem : (setDieSteps top mode pk sm t c).mem = t.mem := by
  unfold setDieSteps
  simp only [apply_ite State.mem, State.setFld_mem, ite_self]

theorem setDieSteps_fuses : (setDieSteps top mode pk sm t c).fuses = t.fuses := by
  unfold setDieSteps
  simp only [apply_ite State.fuses, State.setFld_fuses, ite_self]

theorem fld_setDieSteps_page (hf : f.off < 0x1000) (hp : cdPwr c ≠ p) : (setDieSteps top mode pk sm t c).fld p f = t.fld p f := by
  have hset : ∀ (u : State) (g : Field) (v : Nat), g.off < 0x1000 → (u.setFld (cdPwr c) g v).fld p f = u.fld p f := fun u g v hg =>
    u.fld_setFld_page g f v hg hf hp
  unfold setDieSteps
  simp (disch := decide) only [State.fld_ite, hset, ite_self]

theorem fld_setDieSteps_platK : (setDieSteps top mode pk sm t c).fld (cdPwr c) F.PWR_CTRL_PLAT_K =
    if pk = 0 then t.fld (cdPwr c) F.PWR_CTRL_PLAT_K else min top pk % 32 := by
  unfold setDieSteps
  simp (disch := decide) only [State.fld_ite, State.fld_setFld_off, State.fld_setFld_other, State.fld_setFld, ite_self]
  rfl

theorem fld_setDieSteps_stepMax : (setDieSteps top mode pk sm t c).fld (cdPwr c) F.PWR_CTRL_STEP_MAX =
    if sm = 0 then t.fld (cdPwr c) F.PWR_CTRL_STEP_MAX else min top sm % 32 := by
  unfold setDieSteps
  simp (disch := decide) only [State.fld_ite, State.fld_setFld_off, State.fld_setFld_other, State.fld_setFld, ite_self]
  rfl

theorem fld_setDieSteps_mode : (setDieSteps top mode pk sm t c).fld (cdPwr c) F.PWR_CTRL_MODE =
    if mode = 0xFF then t.fld (cdPwr c) F.PWR_CTRL_MODE else mode % 2 := by
  unfold setDieSteps
  simp (disch := decide) only [State.fld_ite, State.fld_setFld_off, State.fld_setFld_other, State.fld_setFld, ite_self]
  rfl

theorem fld_setDieSteps_clamped : (setDieSteps top mode pk sm t c).fld (cdPwr c) F.PWR_STATUS_CLAMPED =
    if top < pk ∨ top < sm then 1 else t.fld (cdPwr c) F.PWR_STATUS_CLAMPED := by
  unfold setDieSteps
  simp (disch := decide) only [State.fld_ite, State.fld_setFld_off, State.fld_setFld_other, State.fld_setFld, ite_self, Bool.or_eq_true, decide_eq_true_eq]
  rfl

end

section
variable {mode pk sm : Nat}

theorem State.setSteps_mem : (s.setSteps mode pk sm).mem = s.mem := foldl_keeps (g := State.mem) (fun _ _ => setDieSteps_mem) _ _

theorem State.setSteps_fuses : (s.setSteps mode pk sm).fuses = s.fuses := foldl_keeps (g := State.fuses) (fun _ _ => setDieSteps_fuses) _ _

theorem State.fld_setSteps_page (hf : f.off < 0x1000) (hp : ∀ c, cdPwr c ≠ p) : (s.setSteps mode pk sm).fld p f = s.fld p f :=
  foldl_keeps (g := fun t => t.fld p f) (fun _ c => fld_setDieSteps_page hf (hp c)) _ _

/-- A die that is up has what its own settings leave. -/
theorem State.fld_setSteps_of_up (hc : s.dieDown c = false) (hf : f.off < 0x1000) {φ : Nat → Nat}
    (hself : ∀ t, (setDieSteps s.fuses.kMax mode pk sm t c).fld (cdPwr c) f = φ (t.fld (cdPwr c) f)) :
    (s.setSteps mode pk sm).fld (cdPwr c) f = φ (s.fld (cdPwr c) f) := by
  have hmem : c ∈ allCDies.filter (fun c => !(s.dieDown c)) := by simp [mem_allCDies, hc]
  exact (foldl_once (setDieSteps s.fuses.kMax mode pk sm) (fun t => t.fld (cdPwr c) f) φ c hself (fun t e he => fld_setDieSteps_page hf (cdPwr_ne he))
    (allCDies_nodup.filter _) s).trans (if_pos hmem)

end

end

/-- What PWR_SET leaves, from the cap to the shares. -/
def State.pwrSettings (s : State) (b : List Byte) : State :=
  ((s.capTo (imgNat b 0 2)).setSteps (imgNat b 2 1) (imgNat b 3 1) (imgNat b 4 1)).shareCap

section
variable {s : State} {b : List Byte} {c : CDie} {f : Field}

theorem State.pwrSettings_mem : (s.pwrSettings b).mem = s.mem := by rw [State.pwrSettings, State.shareCap_mem, State.setSteps_mem, State.capTo_mem]

theorem State.pwrSettings_fuses : (s.pwrSettings b).fuses = s.fuses := by
  rw [State.pwrSettings, State.shareCap_fuses, State.setSteps_fuses, State.capTo_fuses]

theorem State.pwrSettings_watts : (s.pwrSettings b).fld (.pwr pd0) F.PKG_CAP_WATTS =
    if imgNat b 0 2 = 0 then s.fld (.pwr pd0) F.PKG_CAP_WATTS else min s.fuses.pkgLimit (imgNat b 0 2) := by
  rw [State.pwrSettings, State.fld_shareCap (by decide) (by decide), State.fld_setSteps_page (by decide) cdPwr_ne_pd0, State.fld_capTo_watts]

/-- A die that is up has what its own settings leave. -/
theorem State.fld_pwrSettings_of_up (hc : s.dieDown c = false) (hf : f.off < 0x1000) (hlim : F.PWR_LIMIT_WATTS.off ≠ f.off) {φ : Nat → Nat}
    (hself : ∀ t, (setDieSteps s.fuses.kMax (imgNat b 2 1) (imgNat b 3 1) (imgNat b 4 1) t c).fld (cdPwr c) f = φ (t.fld (cdPwr c) f)) :
    (s.pwrSettings b).fld (cdPwr c) f = φ (s.fld (cdPwr c) f) := by
  rw [State.pwrSettings, State.fld_shareCap hf hlim, State.fld_setSteps_of_up ((State.capTo_dieDown _).trans hc) hf (by rw [State.capTo_fuses]; exact hself),
    State.fld_capTo_page _ hf (cdPwr_ne_pd0 c).symm]

theorem State.min_kMax_mod (s : State) (k : Nat) : min s.fuses.kMax k % 32 = min s.fuses.kMax k :=
  Nat.mod_eq_of_lt ((Nat.min_le_left _ _).trans_lt s.fuses.kMax_lt)

theorem State.pwrSettings_mode (hc : s.dieDown c = false) (hform : PwrForm b) : (s.pwrSettings b).fld (cdPwr c) F.PWR_CTRL_MODE =
    if imgNat b 2 1 = 0xFF then s.fld (cdPwr c) F.PWR_CTRL_MODE else imgNat b 2 1 := by
  obtain ⟨-, -, hmode, -⟩ := hform
  rw [State.fld_pwrSettings_of_up (φ := fun x => if imgNat b 2 1 = 0xFF then x else imgNat b 2 1 % 2) hc (by decide) (by decide) fun t => fld_setDieSteps_mode]
  rcases hmode with h | h | h <;> simp [h]

theorem State.pwrSettings_platK (hc : s.dieDown c = false) : (s.pwrSettings b).fld (cdPwr c) F.PWR_CTRL_PLAT_K =
    if imgNat b 3 1 = 0 then s.fld (cdPwr c) F.PWR_CTRL_PLAT_K else min s.fuses.kMax (imgNat b 3 1) := by
  rw [State.fld_pwrSettings_of_up (φ := fun x => if imgNat b 3 1 = 0 then x else min s.fuses.kMax (imgNat b 3 1) % 32) hc (by decide) (by decide)
    fun t => fld_setDieSteps_platK, State.min_kMax_mod]

theorem State.pwrSettings_stepMax (hc : s.dieDown c = false) : (s.pwrSettings b).fld (cdPwr c) F.PWR_CTRL_STEP_MAX =
    if imgNat b 4 1 = 0 then s.fld (cdPwr c) F.PWR_CTRL_STEP_MAX else min s.fuses.kMax (imgNat b 4 1) := by
  rw [State.fld_pwrSettings_of_up (φ := fun x => if imgNat b 4 1 = 0 then x else min s.fuses.kMax (imgNat b 4 1) % 32) hc (by decide) (by decide)
    fun t => fld_setDieSteps_stepMax, State.min_kMax_mod]

theorem State.pwrSettings_clamped (hc : s.dieDown c = false) (h : s.fuses.kMax < imgNat b 3 1 ∨ s.fuses.kMax < imgNat b 4 1) :
    (s.pwrSettings b).flag (cdPwr c) F.PWR_STATUS_CLAMPED = true := by
  rw [State.flag, State.fld_pwrSettings_of_up (φ := fun x => if s.fuses.kMax < imgNat b 3 1 ∨ s.fuses.kMax < imgNat b 4 1 then 1 else x) hc (by decide)
    (by decide) fun t => fld_setDieSteps_clamped, if_pos h]
  rfl

end

/-- Settles O38: each clause is the rule above for its command, and the settings of PWR_SET are read where they stand. -/
theorem suppliesFaultAndSettingsClamp : Obligations.SuppliesFaultAndSettingsClamp := by
  refine ⟨fun s k => ⟨fun hon h => run_of_eq hon (pdOver_of_past h), fun hs h => run_same hs (pdOver_of_within h)⟩,
    fun s d => ⟨fun hon h => run_of_eq hon (thermalTrip_of_live h), fun hs h => run_same hs (thermalTrip_of_dead h)⟩,
    fun s c hon hflag hbreach => run_of_eq hon (capUnattainable_die hflag hbreach),
    fun s hon hflag hbreach => ⟨s.showUnattainable, run_of_eq hon (capUnattainable_pkg hflag hbreach), ?shown, ?within, ?mem⟩,
    fun s c hs h => run_same hs (capUnattainable_die_of_held h), fun s hs h => run_same hs (capUnattainable_pkg_of_held h),
    fun s => ⟨fun hon h => ⟨⟨s.switchSupply, run_of_eq hon (mgmtSupplySwitchover_of_good h), State.switchSupply_active, State.switchSupply_mine,
          State.switchSupply_switches, ?switchMem⟩, run_of_eq hon (vmgInputWindowChange_of_left h)⟩,
      fun hs h => ⟨run_same hs (mgmtSupplySwitchover_of_lost h), run_same hs (vmgInputWindowChange_of_same h),
        run_quiet_of_eq hs (vmgInputWindowChange_of_back h) (by rw [State.setFld_quiet, State.settled_quiet hs]) (by simp)⟩,
      fun hs h => run_same hs (vmgInputWindowChange_of_same h)⟩,
    fun s hon => ⟨run_on hon, rfl, rfl, rfl, State.dropRails_fuses, State.dropRails_flash⟩, fun s r hon => run_on hon,
    fun s n r => ⟨State.mem_addLostRail _, State.mem_addLostRail _, State.loseRail_of_fatal⟩,
    fun s b => ⟨pwrSet_of_refused, fun hform hub => ?taken⟩⟩
  case shown =>
    rw [State.showUnattainable, State.flag_setFld _ _ _ _ (by decide)]
    rfl
  case within => simp [State.showUnattainable, State.setPkgPower]
  case mem => simp [State.showUnattainable]
  case switchMem => simp [State.switchSupply]
  case taken =>
    obtain ⟨r, hlen, hset⟩ := pwrSet_of_taken hform hub
    exact ⟨s.pwrSettings b, r, hset, hlen, State.pwrSettings_mem, State.pwrSettings_fuses, State.pwrSettings_watts, fun c hc =>
      ⟨State.pwrSettings_platK hc, State.pwrSettings_stepMax hc, State.pwrSettings_mode hc hform, State.pwrSettings_clamped hc⟩⟩

end Sys2Proof.Machine
end

section
/-! What a fault leaves (13 R495–R507). Its record, its log and its reactions are written in few places: a reading of the state that looks at none of them is the
same after it. -/

namespace Sys2Proof.Machine

/-- Neither a power page nor the reset page. -/
def Page.isHub (p : Page) : Bool := p.ptype != .pwr && p.ptype != .rst

/-- A reading of the state that does not look where a fault up to C2 writes: the words that every page has, the registers of pages but those of power and
reset, outputs, channels, the agents' stores beside their sessions, the log and the quiet periods, and what a context's abort ends. -/
structure FaultBlind {β : Type} (g : State → β) : Prop where
  header : ∀ (t : State) (p : Page) (off : Nat) (v : Word), off < 0x100 → g (t.wr (p.base + off) v) = g t
  hub : ∀ (t : State) (p : Page) (off : Nat) (v : Word), p.isHub = true → off < 0x1000 → g (t.wr (p.base + off) v) = g t
  emit : ∀ (t : State) (o : Output), g (t.emit o) = g t
  chan : ∀ (t : State) (k : Nat) (x : ChanSt), g (t.setChan k x) = g t
  agent : ∀ (t : State) (k : PDie) (x : AgentSt), x.sess0 = (t.agent k).sess0 → x.sess1 = (t.agent k).sess1 → g (t.setAgent k x) = g t
  log : ∀ (t : State) (l : List LogEntry), g { t with fltLog := l } = g t
  pages : ∀ (t : State) (l : List Nat), g { t with quietPages := l } = g t
  parts : ∀ (t : State) (l : List Part), g { t with quietParts := l } = g t
  array : ∀ (t : State) (c : CDie) (x : ArraySt), g (t.setArray c x) = g t
  dispatches : ∀ (t : State) (l : List Dispatch), g { t with dispatches := l } = g t
  runs : ∀ (t : State) (l : List DmaRun), g { t with dmaRuns := l } = g t
  retire : ∀ (t : State) (r : Req), g (t.retire r) = g t

namespace FaultBlind

variable {β : Type} {g : State → β} (hg : FaultBlind g) (s : State) {p : Page}

theorem ite_of_eq {c : Prop} [Decidable c] {t u : State} {b : β} (ht : g t = b) (hu : g u = b) : g (if c then t else u) = b := by
  split
  · exact ht
  · exact hu

include hg

theorem setFld_hub (hp : p.isHub = true) {f : Field} (hf : f.off < 0x1000) (v : Nat) : g (s.setFld p f v) = g s := hg.hub s p f.off _ hp hf

theorem setFld_header {f : Field} (hf : f.off < 0x100) (v : Nat) : g (s.setFld p f v) = g s := hg.header s p f.off _ hf

theorem bump_hub (hp : p.isHub = true) {off n : Nat} (hoff : off + 4 < 0x1000) : g (s.bump p off n) = g s := by
  simp only [State.bump, Nat.add_assoc]
  exact (hg.hub _ p (off + 4) _ hp hoff).trans (hg.hub s p off _ hp (by omega))

/-! Events and messages. -/

theorem fireEvent (p : Page) (j : Nat) : g (s.fireEvent p j) = g s := by
  have hbit : ∀ (t : State) (o v : Nat), o < 0x100 → g (t.setFld p ⟨o, j, 1⟩ v) = g t := fun t o v ho => hg.setFld_header t (f := ⟨o, j, 1⟩) ho v
  have hfired : g (s.setFld p ⟨F.EVT_STATUS_EVT.off, j, 1⟩ 1) = g s := hbit _ _ _ (by decide)
  exact ite_of_eq rfl (ite_of_eq (ite_of_eq ((hbit _ _ _ (by decide)).trans hfired) ((hg.setFld_header _ (by decide) _).trans hfired)) hfired)

theorem notify (k type : Nat) (body : List Byte) : g (s.notify k type body) = g s := by
  simp only [State.notify]
  split
  · exact hg.chan _ _ _
  split
  · exact hg.setFld_hub s rfl (by decide) _
  · rfl

theorem notifyFault (e : LogEntry) : g (s.notifyFault e) = g s := by
  unfold State.notifyFault
  split
  · exact ite_of_eq (hg.notify s _ _ _) (hg.notify s _ _ _)
  · exact hg.notify s _ _ _

theorem agentEvent (k : PDie) (code port st cause : Nat) (serial : BitVec 128) : g (s.agentEvent k code port st cause serial) = g s :=
  ite_of_eq ((hg.fireEvent _ _ _).trans ((hg.setFld_hub _ rfl (by decide) _).trans (hg.agent s k _ rfl rfl)))
    ((hg.setFld_hub _ rfl (by decide) _).trans (hg.agent s k _ rfl rfl))

theorem interrupts (p : Page) (cls : Nat) (sc : Scope) (unlogged : Bool) : g (s.interrupts p cls sc unlogged) = g s :=
  (hg.agentEvent _ _ _ _ _ _ _).trans ((hg.emit _ _).trans (ite_of_eq (hg.fireEvent s _ _) rfl))

theorem logEntry (e : LogEntry) : g (s.logEntry e) = g s := by
  have hlost : ∀ t : State, g (t.bump .flt C.FLT_LOG_LOST 1) = g t := fun t => hg.bump_hub t rfl (by decide)
  unfold State.logEntry
  split
  · exact hg.log s _
  split
  · exact hlost s
  split
  · exact (hlost _).trans (hg.log s _)
  · exact hlost s

/-! Reactions. -/

theorem setMsf (c : CDie) (v : Nat) : g (s.setMsf c v) = g s := (hg.setFld_hub _ rfl (by decide) _).trans (hg.setFld_hub s rfl (by decide) _)

theorem abortSweeps (c : CDie) (q : QRef → Bool) (st : Nat) : g (s.abortSweeps c q st) = g s :=
  ite_of_eq rfl (ite_of_eq ((hg.setMsf _ c _).trans (hg.array s c _)) (ite_of_eq (hg.array s c _) rfl))

theorem c2React (c : CDie) (pt : Part) (x : Ctx) : g (s.c2React c pt x) = g s := by
  have hdma : ∀ (t : State) (q : QRef → Bool), g (t.abortDma q stABORTED) = g t := fun t q =>
    (foldl_keeps (g := g) hg.retire _ _).trans (hg.runs t _)
  have hdisp : ∀ (t : State) (q : QRef → Bool), g (t.abortDispatches q stABORTED) = g t := fun t q => hg.dispatches t _
  simp only [State.c2React]
  exact (hdma _ _).trans ((hdisp _ _).trans (hg.abortSweeps s c _ _))

theorem react {code cls : Nat} {sc : Scope} (h : cls ≤ 2) : g (s.react p code cls sc) = g s := by
  simp only [State.react]
  rw [if_neg (by omega)]
  refine ite_of_eq rfl (ite_of_eq ?_ ?_)
  · split
    · exact hg.c2React s _ _ _
    · rfl
  · rw [if_neg (by omega)]

omit hg in
/-- A fault counts in its own class or, escalated, in the one above. -/
theorem latchRule_cls (first flags : Word) (now : BitVec 64) (code cls : Nat) (sc : Scope) (inj : Bool) :
    (latchRule first flags now code cls sc inj).cls = cls ∨ (latchRule first flags now code cls sc inj).cls = min 4 (cls + 1) := by
  simp only [latchRule]
  split
  · exact .inl rfl
  split
  · next h => exact .inr (by simp at h; rw [h.1])
  · exact .inl rfl

/-- A reading that the reaction of a fault's class leaves is the same after the fault. -/
theorem raise_of_react {code cls : Nat} {sc : Scope} {inj : Bool} (hreact : ∀ (t : State) (n : Nat) (sc' : Scope), n = cls ∨ n = min 4 (cls + 1) →
    g (t.react p code n sc') = g t) : g (s.raise p code cls sc inj) = g s := by
  unfold State.raise
  refine ite_of_eq rfl ?_
  extract_lets r recorded aged inScope fired entry kept logged shown told final
  have hrecorded : g recorded = g s := (hg.setFld_header _ (by decide) _).trans ((hg.header _ p 0x24 _ (by decide)).trans (hg.header s p 0x20 _ (by decide)))
  have haged : g aged = g s := Eq.trans (hg.pages recorded _) hrecorded
  have hinScope : g inScope = g s := by
    unfold inScope
    split
    · exact (hg.parts aged _).trans haged
    · exact haged
  have hfired : g fired = g s := ite_of_eq hinScope ((hg.fireEvent _ _ _).trans hinScope)
  have hlogged : g logged = g s := (hg.logEntry _ _).trans hfired
  have hshown : g shown = g s := ite_of_eq ((hg.fireEvent _ _ _).trans hlogged) hlogged
  have htold : g told = g s := ite_of_eq hinScope (ite_of_eq ((hg.notifyFault _ _).trans hshown) hshown)
  have hfinal : g final = g s := ite_of_eq ((hg.interrupts _ _ _ _ _).trans htold) htold
  exact (hreact _ _ _ (latchRule_cls _ _ _ _ _ _ _)).trans hfinal

/-- A fault of C0 or C1, escalated or not. -/
theorem raise {code cls : Nat} {sc : Scope} {inj : Bool} (h : cls ≤ 1) : g (s.raise p code cls sc inj) = g s :=
  hg.raise_of_react s fun t n _ hn => hg.react t (by omega)

end FaultBlind

/-! The registers of the power pages and of the reset page are such a reading. -/

/-- A register of a power page or of the reset page, past the words that every page has. -/
def OwnWord (a : Nat) : Prop := ∃ q off, a = Page.base q + off ∧ 0x100 ≤ off ∧ off < 0x1000 ∧ (q.ptype = .pwr ∨ q.ptype = .rst)

section
variable {a : Nat} (ha : OwnWord a)
include ha

theorem OwnWord.ne_hub {p : Page} (hp : p.isHub = true) {off : Nat} (hoff : off < 0x1000) : p.base + off ≠ a := by
  obtain ⟨q, o, rfl, -, ho, hq⟩ := ha
  intro h
  obtain ⟨rfl, -⟩ := Page.base_add_inj hoff ho h
  rcases hq with hq | hq <;> simp [Page.isHub, hq] at hp

theorem OwnWord.ne_header {p : Page} {off : Nat} (hoff : off < 0x100) : p.base + off ≠ a := by
  obtain ⟨q, o, rfl, hlo, ho, -⟩ := ha
  intro h
  obtain ⟨-, rfl⟩ := Page.base_add_inj (by omega) ho h
  omega

theorem OwnWord.faultBlind : FaultBlind (fun t : State => t.rd a) where
  header t p off v hoff := t.rd_wr_ne (ha.ne_header hoff) v
  hub t p off v hp hoff := t.rd_wr_ne (ha.ne_hub hp hoff) v
  emit t o := t.emit_rd o a
  chan t k x := t.setChan_rd k x a
  agent t k x _ _ := t.setAgent_rd k x a
  log _ _ := rfl
  pages _ _ := rfl
  parts _ _ := rfl
  array t c x := t.setArray_rd c x a
  dispatches _ _ := rfl
  runs _ _ := rfl
  retire t r := by
    simp only [State.retire]
    split <;> rfl

end

theorem ownWord_pwr (d : Die) {off : Nat} (hlo : 0x100 ≤ off) (hhi : off < 0x1000) : OwnWord (Page.base (.pwr d) + off) := ⟨_, _, rfl, hlo, hhi, .inl rfl⟩

/-- A fault of C0 or C1 leaves the registers of a power page. -/
theorem State.fld_raise_pwr (s : State) {p : Page} {d : Die} {code cls : Nat} {sc : Scope} {inj : Bool} {f : Field} (hcls : cls ≤ 1) (hlo : 0x100 ≤ f.off)
    (hhi : f.off < 0x1000) : (s.raise p code cls sc inj).fld (.pwr d) f = s.fld (.pwr d) f :=
  congrArg (getF · f) ((ownWord_pwr d hlo hhi).faultBlind.raise s hcls)

end Sys2Proof.Machine
end

section
/-! The limit loop, plateau and droops (12 R452–R455, R462, R465–R472, 18 R651). -/

namespace Sys2Proof.Machine

/-! Steps and voltages. -/

theorem setpoint_le (k : Nat) : setpoint k ≤ 850 := by
  have hall : ∀ v ∈ [600, 620, 640, 660, 685, 710, 735, 765, 795, 820, 850], v ≤ 850 := by decide
  unfold setpoint
  cases h : [600, 620, 640, 660, 685, 710, 735, 765, 795, 820, 850][k - 6]? with
  | none => exact Nat.le_refl 850
  | some v => exact hall v (List.mem_of_getElem? h)

section
variable {s : State} {c : CDie} {k : Nat}

theorem State.voltage_low (h : k ≤ 6) : s.voltage c k = 600 := if_pos h

theorem State.voltage_bounds (s : State) (c : CDie) (k : Nat) : 600 ≤ s.voltage c k ∧ s.voltage c k ≤ 850 := by
  unfold State.voltage
  split
  · decide
  · exact ⟨Nat.le_max_left _ _, Nat.max_le.2 ⟨by decide, (Nat.sub_le _ _).trans (setpoint_le k)⟩⟩

theorem State.setStep_of_ne (h : s.stepK c ≠ k) :
    s.setStep c k = ((s.setFld (cdPwr c) F.PWR_STATUS_STEP k).setFld (.clk (CDie.die c)) F.CLK_STATUS_ACLK_K k).bump (cdPwr c) C.PWR_STEP_CHANGES 1 := if_neg h

theorem State.stepK_setStep (h : s.stepK c ≠ k) (hk : k < 32) : (s.setStep c k).stepK c = k := by
  rw [State.setStep_of_ne h, State.stepK, State.fld_bump_ne (by decide) (by decide), State.fld_setFld_page _ _ _ _ (by decide) (by decide) (by simp [cdPwr]),
    State.fld_setFld _ _ _ _ (by decide)]
  exact Nat.mod_eq_of_lt hk

theorem State.aclkK_setStep (h : s.stepK c ≠ k) (hk : k < 32) : (s.setStep c k).fld (.clk (CDie.die c)) F.CLK_STATUS_ACLK_K = k := by
  rw [State.setStep_of_ne h, State.fld_bump_page _ (by decide) (by decide) (by simp [cdPwr]), State.fld_setFld _ _ _ _ (by decide)]
  exact Nat.mod_eq_of_lt hk

theorem State.setStep_mem (h : s.stepK c ≠ k) : (s.setStep c k).mem = s.mem := by simp [State.setStep_of_ne h]

end

/-! A step change meets a droop or not (R454, R467). -/

section
variable {s : State} {c : CDie} {k : Nat}

theorem State.aclkTo_lower (h : k < s.stepK c) : s.aclkTo c k = (s.setStep c k).askVoltage c ((s.setStep c k).voltage c k) := if_pos (decide_eq_true h)

theorem State.aclkDue_of_free (h : s.aclkWaits c = false) : s.aclkDue c k = s.aclkTo c k := if_neg (by simp [h])

theorem State.aclkDue_of_waits (h : s.aclkWaits c = true) : s.aclkDue c k =
    ((s.setPwr c.val { s.pwrSt c.val with deferred := some k }).setFld (cdPwr c) F.PWR_STATUS_DEFERRED 1).bump (cdPwr c) C.PWR_DEFERRALS 1 := if_pos h

theorem State.aclkDue_deferred (h : s.aclkWaits c = true) : ((s.aclkDue c k).pwrSt c.val).deferred = some k := by simp [State.aclkDue_of_waits h]

theorem State.stepK_aclkDue (h : s.aclkWaits c = true) : (s.aclkDue c k).stepK c = s.stepK c := by
  rw [State.aclkDue_of_waits h, State.stepK, State.fld_bump_ne (by decide) (by decide), State.fld_setFld_other _ _ _ _ _ (by decide), State.setPwr_fld, State.stepK]

theorem State.fld_aclkDue_deferred (h : s.aclkWaits c = true) : (s.aclkDue c k).fld (cdPwr c) F.PWR_STATUS_DEFERRED = 1 := by
  rw [State.aclkDue_of_waits h, State.fld_bump_ne (by decide) (by decide), State.fld_setFld _ _ _ _ (by decide)]
  rfl

/-- A decision for a lower step drops the higher one that waits for its voltage. -/
def State.dropRaise (s : State) (c : CDie) : State := s.setPwr c.val { s.pwrSt c.val with raise := none }

theorem State.dropRaise_stepK : (s.dropRaise c).stepK c = s.stepK c := s.setPwr_stepK _ _ _

theorem State.dropRaise_aclkWaits : (s.dropRaise c).aclkWaits c = s.aclkWaits c := by simp [State.aclkWaits, State.dropRaise]

theorem State.stepDown_of_free (h : s.aclkWaits c = false) (hk : k < s.stepK c) :
    s.stepDown c k = ((s.dropRaise c).setStep c k).askVoltage c (((s.dropRaise c).setStep c k).voltage c k) :=
  (State.aclkDue_of_free (State.dropRaise_aclkWaits.trans h)).trans (State.aclkTo_lower (hk.trans_eq State.dropRaise_stepK.symm))

theorem State.stepUp_of_new (hraise : (s.pwrSt c.val).raise = none) (hdef : (s.pwrSt c.val).deferred = none) : s.stepUp c k =
    ((s.setPwr c.val { s.pwrSt c.val with raise := some k, deferred := none }).setFld (cdPwr c) F.PWR_STATUS_DEFERRED 0).askVoltage c (s.voltage c k) := by
  unfold State.stepUp
  rw [if_neg (by simp [hraise]), if_neg (by simp [hdef])]

theorem State.stepK_stepUp (hraise : (s.pwrSt c.val).raise = none) (hdef : (s.pwrSt c.val).deferred = none) : (s.stepUp c k).stepK c = s.stepK c := by
  rw [State.stepUp_of_new hraise hdef, State.stepK, State.askVoltage, State.emit_fld, State.fld_setFld_other _ _ _ _ _ (by decide), State.setPwr_fld, State.stepK]

theorem State.stepUp_raise (hraise : (s.pwrSt c.val).raise = none) (hdef : (s.pwrSt c.val).deferred = none) : ((s.stepUp c k).pwrSt c.val).raise = some k := by
  simp [State.stepUp_of_new hraise hdef, State.askVoltage]

theorem State.stepUp_out (hraise : (s.pwrSt c.val).raise = none) (hdef : (s.pwrSt c.val).deferred = none) :
    (s.stepUp c k).out = .avs (c.val / 2) (c.val % 2) (s.voltage c k) :: s.out := by
  simp [State.stepUp_of_new hraise hdef, State.askVoltage, State.emit]

end

/-! A period in capped mode (R462, R472). -/

section
variable {s : State} {c : CDie} {i : LoopIn}

/-- Outside plateau no die is at risk. -/
def State.noRisk (s : State) (c : CDie) : State := s.setFld (cdPwr c) F.PWR_STATUS_AT_RISK 0

theorem State.cappedPeriod_past (h : i.past = true) : s.cappedPeriod c i = if 6 < (s.noRisk c).stepK c then (s.noRisk c).stepDown c ((s.noRisk c).stepK c - 1)
    else if (s.noRisk c).fld (cdPwr c) F.PWR_STATUS_DUTY < (s.noRisk c).fld (cdPwr c) F.PWR_CTRL_DUTY_MAX then
      (s.noRisk c).setDuty c ((s.noRisk c).fld (cdPwr c) F.PWR_STATUS_DUTY + 1) else s.noRisk c := if_pos h

theorem State.cappedPeriod_within (h : i.past = false) : s.cappedPeriod c i = if i.room then
      (if 0 < (s.noRisk c).fld (cdPwr c) F.PWR_STATUS_DUTY then (s.noRisk c).setDuty c ((s.noRisk c).fld (cdPwr c) F.PWR_STATUS_DUTY - 1)
      else if (s.noRisk c).stepK c < min (s.noRisk c).fuses.kMax ((s.noRisk c).fld (cdPwr c) F.PWR_CTRL_STEP_MAX) then
        (s.noRisk c).stepUp c ((s.noRisk c).stepK c + 1) else s.noRisk c)
    else s.noRisk c := if_neg (by simp [h])

theorem State.cappedPeriod_slower (h : i.past = true) (hk : 6 < (s.noRisk c).stepK c) : s.cappedPeriod c i = (s.noRisk c).stepDown c ((s.noRisk c).stepK c - 1) :=
  (State.cappedPeriod_past h).trans (if_pos hk)

theorem State.cappedPeriod_floor (h : i.past = true) (hk : (s.noRisk c).stepK c ≤ 6) : s.cappedPeriod c i =
    if (s.noRisk c).fld (cdPwr c) F.PWR_STATUS_DUTY < (s.noRisk c).fld (cdPwr c) F.PWR_CTRL_DUTY_MAX then
      (s.noRisk c).setDuty c ((s.noRisk c).fld (cdPwr c) F.PWR_STATUS_DUTY + 1) else s.noRisk c :=
  (State.cappedPeriod_past h).trans (if_neg (Nat.not_lt.2 hk))

theorem State.cappedPeriod_room (h : i.past = false) (hroom : i.room = true) : s.cappedPeriod c i =
    if 0 < (s.noRisk c).fld (cdPwr c) F.PWR_STATUS_DUTY then (s.noRisk c).setDuty c ((s.noRisk c).fld (cdPwr c) F.PWR_STATUS_DUTY - 1)
    else if (s.noRisk c).stepK c < min (s.noRisk c).fuses.kMax ((s.noRisk c).fld (cdPwr c) F.PWR_CTRL_STEP_MAX) then
      (s.noRisk c).stepUp c ((s.noRisk c).stepK c + 1) else s.noRisk c := (State.cappedPeriod_within h).trans (if_pos hroom)

theorem State.cappedPeriod_faster (h : i.past = false) (hroom : i.room = true) (hduty : (s.noRisk c).fld (cdPwr c) F.PWR_STATUS_DUTY = 0) : s.cappedPeriod c i =
    if (s.noRisk c).stepK c < min (s.noRisk c).fuses.kMax ((s.noRisk c).fld (cdPwr c) F.PWR_CTRL_STEP_MAX) then
      (s.noRisk c).stepUp c ((s.noRisk c).stepK c + 1) else s.noRisk c := (State.cappedPeriod_room h hroom).trans (if_neg (by rw [hduty]; decide))

theorem State.cappedPeriod_same (h : i.past = false) (hroom : i.room = false) : s.cappedPeriod c i = s.noRisk c :=
  (State.cappedPeriod_within h).trans (if_neg (by simp [hroom]))

end

/-! A period in plateau, and its loss (R469–R471). -/

section
variable {s : State} {c : CDie} {i : LoopIn}

/-- A die in plateau goes one step towards PLAT_K. -/
def State.towardsPlat (s : State) (c : CDie) : State :=
  let target := max 6 (min s.fuses.kMax (s.fld (cdPwr c) F.PWR_CTRL_PLAT_K))
  if target < s.stepK c then s.stepDown c (s.stepK c - 1) else if s.stepK c < target then s.stepUp c (s.stepK c + 1) else s

theorem State.plateauPeriod_hot (h : i.hot = true) : s.plateauPeriod c i = (s.towardsPlat c).losePlateau c 2 := if_pos h

theorem State.plateauPeriod_limit (hhot : i.hot = false) (hpast : i.past = true) (hduty : (s.towardsPlat c).fld (cdPwr c) F.PWR_STATUS_DUTY = 15) :
    s.plateauPeriod c i = (s.towardsPlat c).losePlateau c 3 :=
  (if_neg (by simp [hhot])).trans (if_pos (by rw [hpast]; exact decide_eq_true hduty))

theorem State.plateauPeriod_same (hhot : i.hot = false) (hpast : i.past = false) (hroom : i.room = false)
    (hrisk : (s.towardsPlat c).flag (cdPwr c) F.PWR_STATUS_AT_RISK = false) :
    s.plateauPeriod c i = (s.towardsPlat c).setPwr c.val { (s.towardsPlat c).pwrSt c.val with risk := 0 } := by
  unfold State.towardsPlat at hrisk ⊢
  simp only [State.plateauPeriod, hhot, hpast, hroom, Bool.false_eq_true, if_false, Bool.false_and, hrisk]
  rfl

/-- The status of a die that has lost plateau, before it signals. -/
def State.showLost (s : State) (c : CDie) (cause : Nat) : State :=
  ((((s.setPwr c.val { s.pwrSt c.val with risk := 0 }).setFld (cdPwr c) F.PWR_CTRL_MODE 0).setFld (cdPwr c) F.PWR_STATUS_PLAT_LOST 1).setFld (cdPwr c)
    F.PWR_STATUS_LOST_CAUSE cause).setFld (cdPwr c) F.PWR_STATUS_AT_RISK 0

theorem State.losePlateau_eq (cause : Nat) :
    s.losePlateau c cause = (((s.showLost c cause).fireEvent (cdPwr c) 1).raise (cdPwr c) 0x103 1 {}).followPlateau := rfl

/-- Where every die follows to CAPPED, its mode alone changes on its page. -/
theorem State.fld_followPlateau {f : Field} (hf : f.off < 0x1000) (hoff : F.PWR_CTRL_MODE.off ≠ f.off) : s.followPlateau.fld (cdPwr c) f = s.fld (cdPwr c) f := by
  unfold State.followPlateau
  split
  · rfl
  · rw [State.fld_setFld_page _ _ _ _ (by decide) hf (cdPwr_ne_pd0 c).symm]
    exact foldl_keeps (g := fun t => t.fld (cdPwr c) f) (fun t e => t.fld_setFld_apart (by decide) hf hoff) _ _

theorem State.mode_followPlateau (h : s.fld (cdPwr c) F.PWR_CTRL_MODE = 0) : s.followPlateau.fld (cdPwr c) F.PWR_CTRL_MODE = 0 := by
  unfold State.followPlateau
  split
  · exact h
  · rw [State.fld_setFld_page _ _ _ _ (by decide) (by decide) (cdPwr_ne_pd0 c).symm, State.fld_foldl_setFld_cdPwr _ (by decide) (by decide) allCDies_nodup,
      if_pos (mem_allCDies c), Nat.zero_mod]

theorem State.fld_lost {f : Field} (cause : Nat) (hlo : 0x100 ≤ f.off) (hhi : f.off < 0x1000) :
    (((s.showLost c cause).fireEvent (cdPwr c) 1).raise (cdPwr c) 0x103 1 {}).fld (cdPwr c) f = (s.showLost c cause).fld (cdPwr c) f :=
  (State.fld_raise_pwr _ (Nat.le_refl 1) hlo hhi).trans (State.fld_fireEvent _ _ _ hlo)

theorem State.losePlateau_mode (cause : Nat) : (s.losePlateau c cause).fld (cdPwr c) F.PWR_CTRL_MODE = 0 := by
  refine State.mode_followPlateau ((State.fld_lost cause (by decide) (by decide)).trans ?_)
  simp (disch := decide) only [State.showLost, State.fld_setFld_off, State.fld_setFld]
  rfl

/-- The status of the die is what it shows at the loss. -/
theorem State.losePlateau_status {f : Field} (cause : Nat) (hoff : f.off = 0x108) :
    (s.losePlateau c cause).fld (cdPwr c) f = (s.showLost c cause).fld (cdPwr c) f := by
  have hmode : F.PWR_CTRL_MODE.off ≠ f.off := by rw [hoff]; decide
  rw [State.losePlateau_eq, State.fld_followPlateau (by omega) hmode, State.fld_lost cause (by omega) (by omega)]

theorem State.showLost_lost (cause : Nat) : (s.showLost c cause).fld (cdPwr c) F.PWR_STATUS_PLAT_LOST = 1 := by
  simp (disch := decide) only [State.showLost, State.fld_setFld_other, State.fld_setFld]
  rfl

theorem State.showLost_cause {cause : Nat} (h : cause < 4) : (s.showLost c cause).fld (cdPwr c) F.PWR_STATUS_LOST_CAUSE = cause := by
  simp (disch := decide) only [State.showLost, State.fld_setFld_other, State.fld_setFld]
  exact Nat.mod_eq_of_lt h

theorem State.showLost_risk (cause : Nat) : (s.showLost c cause).fld (cdPwr c) F.PWR_STATUS_AT_RISK = 0 := by
  simp (disch := decide) only [State.showLost, State.fld_setFld]
  rfl

end

/-! The commands. -/

section
variable {s : State} {c : CDie} {t : BitVec 8} {b : Bool}

/-- The temperature is taken, and past 105 °C or below 103 °C the die shows it (R468, R475). -/
def State.takeTemp (s : State) (c : CDie) (t : BitVec 8) : State :=
  let u := s.setFld (cdPwr c) F.PWR_MEAS_TEMP t.toNat
  if 105 ≤ t.toNat ∧ u.flag (cdPwr c) F.PWR_STATUS_THERMAL = false then (u.setFld (cdPwr c) F.PWR_STATUS_THERMAL 1).raise (cdPwr c) 0x100 0 {}
  else if t.toNat < 103 then u.setFld (cdPwr c) F.PWR_STATUS_THERMAL 0 else u

theorem State.takeTemp_eq : s.takeTemp c t = (let u := s.setFld (cdPwr c) F.PWR_MEAS_TEMP t.toNat
    if decide (105 ≤ t.toNat) && !(u.flag (cdPwr c) F.PWR_STATUS_THERMAL) then (u.setFld (cdPwr c) F.PWR_STATUS_THERMAL 1).raise (cdPwr c) 0x100 0 {}
    else if t.toNat < 103 then u.setFld (cdPwr c) F.PWR_STATUS_THERMAL 0 else u) := if_congr (by simp) rfl rfl

theorem State.dieDown_of_enginesRun (h : s.enginesRun c = true) : s.dieDown c = false := by
  simp only [State.enginesRun, Bool.and_eq_true, Bool.not_eq_true'] at h
  exact h.1

theorem limitLoop_of_runs (h : s.enginesRun c = true) : limitLoop c t b s =
    State.showFloor (if (s.takeTemp c t).fld (cdPwr c) F.PWR_CTRL_MODE = 1 then (s.takeTemp c t).plateauPeriod c ((s.takeTemp c t).loopIn c t.toNat b)
      else (s.takeTemp c t).cappedPeriod c ((s.takeTemp c t).loopIn c t.toNat b)) c := by
  rw [State.takeTemp_eq]
  exact if_neg (by simp [h, State.dieDown_of_enginesRun h])

theorem limitLoop_of_stopped (h : s.enginesRun c = false) : limitLoop c t b s = s := if_pos (by simp [h])

theorem voltageSettled_of_stopped (h : s.enginesRun c = false) : voltageSettled c s = s := if_pos (by simp [h])

theorem voltageSettled_of_raise {k : Nat} (h : s.enginesRun c = true) (hk : (s.pwrSt c.val).raise = some k) :
    voltageSettled c s = (s.setPwr c.val { s.pwrSt c.val with raise := none }).aclkDue c k := by
  simp only [voltageSettled, h, hk]
  rfl

theorem voltageSettled_of_none (h : s.enginesRun c = true) (hk : (s.pwrSt c.val).raise = none) : voltageSettled c s = s := by
  simp only [voltageSettled, h, hk]
  rfl

theorem avsRetry_of_up (h : s.dieDown c = false) : avsRetry c s = s.askVoltage c (s.requested c) := if_neg (by simp [h])

theorem avsRetry_of_down (h : s.dieDown c = true) : avsRetry c s = s := if_pos h

theorem droopTrip_of_enabled {det : Fin 8} (hc : s.dieDown c = false) (hen : (s.fld (cdPwr c) F.PWR_DROOP_DET_EN).testBit det.val = true)
    (h : s.flag (cdPwr c) F.PWR_STATUS_DROOP = false) : droopTrip c det s = (s.setFld (cdPwr c) F.PWR_STATUS_DROOP 1).bump (cdPwr c) C.PWR_DROOPS 1 :=
  if_neg (by simp [hc, hen, h])

theorem droopTrip_of_not {det : Fin 8} (h : s.dieDown c = true ∨ (s.fld (cdPwr c) F.PWR_DROOP_DET_EN).testBit det.val = false ∨
    s.flag (cdPwr c) F.PWR_STATUS_DROOP = true) : droopTrip c det s = s := if_pos (by simpa [or_assoc] using h)

theorem droopRelease_of_active (h : s.flag (cdPwr c) F.PWR_STATUS_DROOP = true) : droopRelease c s =
    State.setPwr (s.setFld (cdPwr c) F.PWR_STATUS_DROOP 0) c.val { s.pwrSt c.val with settling := true } := if_neg (by simp [h])

theorem droopRelease_of_none (h : s.flag (cdPwr c) F.PWR_STATUS_DROOP = false) : droopRelease c s = s := if_pos (by simp [h])

theorem droopLong_of_active (h : s.flag (cdPwr c) F.PWR_STATUS_DROOP = true) : droopLong c s = s.raise (cdPwr c) 0x102 1 {} := if_pos h

theorem droopLong_of_none (h : s.flag (cdPwr c) F.PWR_STATUS_DROOP = false) : droopLong c s = s := if_neg (by simp [h])

theorem deferralEnd_of_held (h : s.flag (cdPwr c) F.PWR_STATUS_DROOP = true ∨ (s.pwrSt c.val).settling = false) : deferralEnd c s = s := if_pos (by simpa using h)

/-- Nothing is deferred any more. -/
def State.endDeferral (s : State) (c : CDie) : State :=
  (s.setPwr c.val { s.pwrSt c.val with settling := false, deferred := none }).setFld (cdPwr c) F.PWR_STATUS_DEFERRED 0

theorem deferralEnd_of_some {k : Nat} (h : s.flag (cdPwr c) F.PWR_STATUS_DROOP = false) (hset : (s.pwrSt c.val).settling = true)
    (hk : (s.pwrSt c.val).deferred = some k) : deferralEnd c s = (s.endDeferral c).aclkTo c k := by
  refine (if_neg (by simp [h, hset])).trans ?_
  rw [hk]
  rfl

theorem deferralEnd_of_none (h : s.flag (cdPwr c) F.PWR_STATUS_DROOP = false) (hset : (s.pwrSt c.val).settling = true)
    (hk : (s.pwrSt c.val).deferred = none) : deferralEnd c s = s.endDeferral c := by
  refine (if_neg (by simp [h, hset])).trans ?_
  rw [hk]
  rfl

end

/-- Settles O37: each clause is the rule above for its operation or command. -/
theorem limitLoopAndDroopsSetTheClock : Obligations.LimitLoopAndDroopsSetTheClock := by
  refine ⟨fun s c i => ⟨State.cappedPeriod_slower, fun h hk hd => (State.cappedPeriod_floor h hk).trans (if_pos hd),
      fun h hk hd => (State.cappedPeriod_floor h hk).trans (if_neg (Nat.not_lt.2 hd)), fun h hroom hd => (State.cappedPeriod_room h hroom).trans (if_pos hd),
      fun h hroom hd hk => (State.cappedPeriod_faster h hroom hd).trans (if_pos hk),
      fun h hroom hd hk => (State.cappedPeriod_faster h hroom hd).trans (if_neg (Nat.not_lt.2 hk)), State.cappedPeriod_same⟩,
    fun s c i => ⟨State.plateauPeriod_hot, State.plateauPeriod_limit, State.plateauPeriod_same⟩,
    fun s c cause h => ⟨State.losePlateau_mode cause, (State.losePlateau_status cause rfl).trans (State.showLost_lost cause),
      (State.losePlateau_status cause rfl).trans (State.showLost_cause h), (State.losePlateau_status cause rfl).trans (State.showLost_risk cause)⟩,
    fun s c t b hon hrun => ⟨fun hmode => ?capped, fun hmode => ?plateau⟩,
    fun s c t b hs hrun => ⟨run_same hs (limitLoop_of_stopped hrun), run_same hs (voltageSettled_of_stopped hrun)⟩,
    fun s c hon hrun => ⟨fun k hk => run_of_eq hon (voltageSettled_of_raise hrun hk), fun hk => run_of_eq hon (voltageSettled_of_none hrun hk)⟩,
    fun s c hon hup => run_of_eq hon (avsRetry_of_up hup), fun s c hs hdown => run_same hs (avsRetry_of_down hdown),
    fun s c k h hk => ⟨State.stepK_setStep h hk, State.aclkK_setStep h hk, State.setStep_mem h⟩,
    fun s c k h => ⟨State.stepDown_of_free h, fun hraise hdef => ⟨State.stepK_stepUp hraise hdef, State.stepUp_raise hraise hdef, State.stepUp_out hraise hdef⟩⟩,
    fun s c k => ⟨(s.voltage_bounds c k).1, (s.voltage_bounds c k).2, State.voltage_low⟩,
    fun s c det hs hup hen hd => run_quiet_of_eq hs (droopTrip_of_enabled hup hen hd) ?tripQuiet (by simp),
    fun s c det hs h => run_same hs (droopTrip_of_not h),
    fun s c hs h => run_quiet_of_eq hs (droopRelease_of_active h) ?releaseQuiet (by simp),
    fun s c hon h hset => ⟨fun k hk => run_of_eq hon (deferralEnd_of_some h hset hk), fun hk => run_of_eq hon (deferralEnd_of_none h hset hk)⟩,
    fun s c hs h => run_same hs (deferralEnd_of_held h),
    fun s c k h => ⟨State.aclkDue_deferred h, State.stepK_aclkDue h, State.fld_aclkDue_deferred h⟩,
    fun s c hon h => run_of_eq hon (droopLong_of_active h), fun s c hs h => ⟨run_same hs (droopLong_of_none h), run_same hs (droopRelease_of_none h)⟩⟩
  case capped => exact run_of_eq hon ((limitLoop_of_runs hrun).trans (congrArg (State.showFloor · c) (if_neg hmode)))
  case plateau => exact run_of_eq hon ((limitLoop_of_runs hrun).trans (congrArg (State.showFloor · c) (if_pos hmode)))
  case tripQuiet => rw [State.bump_quiet, State.setFld_quiet, State.settled_quiet hs]
  case releaseQuiet => rw [State.setPwr_quiet, State.setFld_quiet, State.settled_quiet hs]

end Sys2Proof.Machine
end

section
/-! What a device-fatal fault leaves (13 R503, R507): the safe state writes the pages of compute dies' loops, of ports and links, and the hub's own. -/

namespace Sys2Proof.Machine

/-- A reading of the state that a device-fatal fault leaves too: it does not look at the loops of the compute dies nor at the ports. -/
structure FatalBlind {β : Type} (g : State → β) : Prop extends FaultBlind g where
  loop : ∀ (t : State) (c : CDie) (off : Nat) (v : Word), off < 0x1000 → g (t.wr ((cdPwr c).base + off) v) = g t
  power : ∀ (t : State) (l : Store PowerSt), g { t with power := l } = g t
  ports : ∀ (t : State) (l : Store PortSt), g { t with ports := l } = g t

theorem Port.member_off_lt (q : Port) : (F.RTR_PORT_MEMBER (Port.local q)).off < 0x1000 := by revert q; decide

namespace FatalBlind

variable {β : Type} {g : State → β} (hg : FatalBlind g) (s : State) (c : CDie)

include hg

theorem setFld_loop {f : Field} (hf : f.off < 0x1000) (v : Nat) : g (s.setFld (cdPwr c) f v) = g s := hg.loop s c f.off _ hf

theorem bump_loop {off n : Nat} (hoff : off + 4 < 0x1000) : g (s.bump (cdPwr c) off n) = g s := by
  simp only [State.bump, Nat.add_assoc]
  exact (hg.loop _ c (off + 4) _ hoff).trans (hg.loop s c off _ (by omega))

theorem goDark (q : Port) : g (s.goDark q) = g s := by
  unfold State.goDark
  split
  · exact hg.setFld_hub s rfl (by decide) _
  · rfl

theorem setLnk (q : Port) (st : Nat) (byAgent : Bool) : g (s.setLnk q st byAgent) = g s := by
  unfold State.setLnk
  refine FaultBlind.ite_of_eq rfl ?_
  extract_lets shown parted runsOn kept dark
  have hshown : g shown = g s := (hg.fireEvent _ _ _).trans (hg.setFld_hub s rfl (by decide) _)
  have hparted : g parted = g s := FaultBlind.ite_of_eq ((hg.setFld_hub _ rfl (Port.member_off_lt q) _).trans hshown) hshown
  have hkept : g kept = g s := (hg.ports parted _).trans hparted
  have hdark : g dark = g s := FaultBlind.ite_of_eq ((hg.goDark _ q).trans hkept) hkept
  exact FaultBlind.ite_of_eq hdark ((hg.agentEvent _ _ _ _ _ _ _).trans hdark)

theorem haltDie : g (s.haltDie c) = g s := by
  unfold State.haltDie
  exact (hg.dispatches _ _).trans (FaultBlind.ite_of_eq rfl (hg.setMsf s c _))

theorem setStep (k : Nat) : g (s.setStep c k) = g s :=
  FaultBlind.ite_of_eq rfl ((hg.bump_loop _ c (by decide)).trans ((hg.setFld_hub _ rfl (by decide) _).trans (hg.setFld_loop s c (by decide) _)))

theorem stopLoop : g (s.stopLoop c) = g s := by
  unfold State.stopLoop
  exact (hg.emit _ _).trans ((hg.setFld_loop _ c (by decide) _).trans ((hg.setStep _ c 6).trans (hg.power s _)))

theorem safeState : g s.safeState = g s := by
  have hidle (t : State) (q : Port) : g ((t.setLnk q lkSAFE).wr (Page.base (.lnk q) + F.LNK_QUAL_LOCAL_PASS.off) 0) = g t :=
    (hg.hub _ (.lnk q) _ _ rfl (by decide)).trans (hg.setLnk t q _ _)
  unfold State.safeState
  extract_lets safe halted idle emptied fatal
  have hhalted : g halted = g s := (foldl_keeps hg.haltDie allCDies safe).trans (hg.setFld_hub s rfl (by decide) _)
  have hempty : g emptied = g s := (hg.ports idle _).trans ((foldl_keeps hidle allPorts halted).trans hhalted)
  have hfatal : g fatal = g s := (hg.emit _ _).trans ((hg.setFld_hub _ rfl (by decide) _).trans hempty)
  exact (foldl_keeps hg.stopLoop allCDies fatal).trans hfatal

theorem c4React (p : Page) (code : Nat) : g (s.c4React p code) = g s := by
  unfold State.c4React
  extract_lets _ latched
  have hlatched : g latched = g s := FaultBlind.ite_of_eq rfl
    ((hg.hub _ .flt 0x110 _ rfl (by decide)).trans ((hg.hub _ .flt 0x10C _ rfl (by decide)).trans (hg.hub s .flt _ _ rfl (by decide))))
  split
  · exact hlatched
  · exact hlatched
  · exact (hg.safeState latched).trans hlatched

/-- A device-fatal fault. -/
theorem raise_fatal (p : Page) (code : Nat) (sc : Scope) (inj : Bool) : g (s.raise p code 4 sc inj) = g s :=
  hg.raise_of_react s fun t n sc' hn => by
    obtain rfl : n = 4 := by omega
    exact hg.c4React t p code

end FatalBlind

end Sys2Proof.Machine
end

section
/-! What bring-up leaves (15 R560–R577, 17 R639): fuses, flash, memory, Tarn, queues, partitions, GTIME and sessions, and the words of reset and supply. -/

namespace Sys2Proof.Machine

/-- A reading of the state that bring-up leaves too, past its first step: it does not look at the boot state, the plans held nor the firmware that runs. -/
structure BringUpBlind {β : Type} (g : State → β) : Prop extends FatalBlind g where
  boot : ∀ (t : State) (b : BootSt) (plan bootPlan : List Byte) (n : Nat) (d : BitVec 512) (l : List (BitVec 512)),
    g { t with boot := b, plan := plan, bootPlan := bootPlan, maxPlanSeq := n, fwDigest := d, fwComps := l } = g t

section
variable {β : Type} {g : State → β} (s : State)

theorem FaultBlind.blkReady (hg : FaultBlind g) (p : Page) : g (s.blkReady p) = g s := hg.setFld_header s (by decide) _

theorem FaultBlind.showChannels (hg : FaultBlind g) : g s.showChannels = g s :=
  foldl_keeps (fun t _ => (hg.blkReady _ _).trans ((hg.setFld_hub _ rfl (by decide) _).trans ((hg.setFld_hub _ rfl (by decide) _).trans
    (hg.setFld_hub t rfl (by decide) _)))) _ s

theorem FaultBlind.showFunctions (hg : FaultBlind g) : g s.showFunctions = g s := FaultBlind.ite_of_eq (hg.emit s _) rfl

theorem FaultBlind.enableRail (hg : FaultBlind g) : g s.enableRail = g s := by
  unfold State.enableRail
  split
  · exact hg.emit s _
  · rfl

end

namespace BringUpBlind

variable {β : Type} {g : State → β} (hg : BringUpBlind g) (s : State)

include hg

theorem holdPlan (b : List Byte) : g (s.holdPlan b) = g s := (hg.setFld_hub _ rfl (by decide) _).trans (hg.boot s _ _ _ _ _ _)

theorem present : g s.present = g s := by
  unfold State.present
  extract_lets wants bad pkg board _ settled shown
  have hshown : g shown = g s := (hg.setFld_hub _ rfl (by decide) _).trans (hg.boot s _ _ _ _ _ _)
  exact FaultBlind.ite_of_eq ((hg.notify _ _ _ _).trans hshown) hshown

theorem refclkUp : g s.refclkUp = g s := by
  unfold State.refclkUp
  extract_lets pg locked ready
  have hlocked : g locked = g s := (hg.setFld_hub _ rfl (by decide) _).trans ((hg.setFld_hub _ rfl (by decide) _).trans (hg.setFld_hub s rfl (by decide) _))
  have hready : g ready = g s := (hg.blkReady _ _).trans ((hg.setFld_hub _ rfl (by decide) _).trans hlocked)
  exact (hg.enableRail _).trans ((hg.boot ready _ _ _ _ _ _).trans hready)

theorem startMc (planSig refPresent : Bool) : g (s.startMc planSig refPresent) = g s := by
  unfold State.startMc
  extract_lets b good _ started verified _ settled shown role roles ready _ waits
  have hstarted : g started = g s := hg.boot s _ _ _ _ _ _
  have hverified : g verified = g s := FaultBlind.ite_of_eq ((hg.holdPlan _ _).trans hstarted)
    (FaultBlind.ite_of_eq hstarted ((hg.raise _ (Nat.le_refl 1)).trans hstarted))
  have hsettled : g settled = g s := (hg.boot verified _ _ _ _ _ _).trans hverified
  have hshown : g shown = g s := (hg.present settled).trans hsettled
  have hroles : g roles = g s := (hg.setFld_hub _ rfl (by decide) _).trans ((hg.showChannels _).trans ((hg.setFld_hub _ rfl (by decide) _).trans hshown))
  have hready : g ready = g s := (foldl_keeps hg.blkReady mgmtPages roles).trans hroles
  have hwaits : g waits = g s := (hg.showFunctions _).trans ((hg.boot ready _ _ _ _ _ _).trans hready)
  exact FaultBlind.ite_of_eq ((hg.refclkUp _).trans hwaits) hwaits

theorem checkImage (f : BootFind) : g (s.checkImage f) = g s := by
  unfold State.checkImage
  split
  · exact (hg.showFunctions _).trans ((hg.showChannels _).trans ((hg.setFld_hub _ rfl (by decide) _).trans (hg.boot s _ _ _ _ _ _)))
  · exact (hg.startMc _ _ _).trans (hg.setFld_hub s rfl (by decide) _)

end BringUpBlind

end Sys2Proof.Machine
end

section
/-! A start over (15 R560, R566, 17 R639): what a machine that has nothing holds once bring-up has run. -/

namespace Sys2Proof.Machine

/-- What bring-up leaves of its start: the queue, fuses and flash, memory, Tarn, queues, partitions, GTIME, and the host's and agents' sessions. -/
structure Ground where
  pending : List Instr
  mgmtOn : Bool := false
  pos : Nat := 0
  fuses : Fuses
  flash : Store Byte
  mem : Store Byte := []
  tarn : Store Byte := []
  queues : Store QueueSt := []
  parts : Store (Option PartSt) := []
  gtime : Store (BitVec 64) := []
  bar2 : List Bar2 := []
  held : List HeldWrite := []
  relayOut : List RelayOut := []
  sess0 : PDie → Option Session := fun _ => none
  sess1 : PDie → Option Session := fun _ => none

def State.ground (s : State) : Ground where
  pending := s.pending
  mgmtOn := s.mgmtOn
  pos := s.pos
  fuses := s.fuses
  flash := s.flash
  mem := s.mem
  tarn := s.tarn
  queues := s.queues
  parts := s.parts
  gtime := s.gtime
  bar2 := s.bar2
  held := s.held
  relayOut := s.relayOut
  sess0 k := (s.agent k).sess0
  sess1 k := (s.agent k).sess1

/-- An agent whose new store keeps a reading of it leaves that reading of both agents. -/
theorem State.agent_reading_setAgent {α : Type} (r : AgentSt → α) (t : State) (k : PDie) (x : AgentSt) (h : r x = r (t.agent k)) :
    (fun j => r ((t.setAgent k x).agent j)) = fun j => r (t.agent j) := by
  funext j
  by_cases hj : k = j
  · subst hj
    rw [State.agent_setAgent_self, h]
  · exact congrArg r (Store.get_set_ne _ _ (Fin.val_ne_of_ne hj) _)

theorem State.wr_ground (s : State) (a : Nat) (v : Word) : (s.wr a v).ground = s.ground := by simp [State.ground]

theorem State.ground_blind : BringUpBlind State.ground where
  header _ _ _ _ _ := State.wr_ground _ _ _
  hub _ _ _ _ _ _ := State.wr_ground _ _ _
  emit _ _ := by simp [State.ground]
  chan _ _ _ := by simp [State.ground]
  agent t k x h0 h1 := by
    have hsess0 := State.agent_reading_setAgent AgentSt.sess0 t k x h0
    have hsess1 := State.agent_reading_setAgent AgentSt.sess1 t k x h1
    simp only [State.ground, hsess0, hsess1]
    rfl
  log _ _ := rfl
  pages _ _ := rfl
  parts _ _ := rfl
  array _ _ _ := by simp [State.ground]
  dispatches _ _ := rfl
  runs _ _ := rfl
  retire t r := by
    simp only [State.retire]
    split <;> rfl
  loop _ _ _ _ _ := State.wr_ground _ _ _
  power _ _ := rfl
  ports _ _ := rfl
  boot _ _ _ _ _ _ _ := rfl

/-- A fault leaves the boot state. -/
theorem State.boot_blind : FatalBlind State.boot where
  header t _ _ _ _ := t.wr_boot _ _
  hub t _ _ _ _ _ := t.wr_boot _ _
  emit t _ := t.emit_boot _
  chan t _ _ := t.setChan_boot _ _
  agent t _ _ _ _ := t.setAgent_boot _ _
  log _ _ := rfl
  pages _ _ := rfl
  parts _ _ := rfl
  array t _ _ := t.setArray_boot _ _
  dispatches _ _ := rfl
  runs _ _ := rfl
  retire t r := by
    simp only [State.retire]
    split <;> rfl
  loop t _ _ _ _ := t.wr_boot _ _
  power _ _ := rfl
  ports _ _ := rfl

/-- Bring-up leaves the words of reset and supply. -/
theorem OwnWord.bringUpBlind {a : Nat} (ha : OwnWord a) (hloop : ∀ c off, off < 0x1000 → (cdPwr c).base + off ≠ a) : BringUpBlind (fun t : State => t.rd a) where
  toFaultBlind := ha.faultBlind
  loop t c off v hoff := t.rd_wr_ne (hloop c off hoff) v
  power _ _ := rfl
  ports _ _ := rfl
  boot _ _ _ _ _ _ _ := rfl

/-- A cold machine has its queue, fuses and flash. -/
theorem State.cold_ground (s : State) : s.cold.ground = { pending := s.pending, fuses := s.fuses, flash := s.flash } := rfl

theorem State.cold_cause (s : State) : s.cold.fld .rst F.RST_CAUSE_DEVICE = 0 := rfl

/-! Bring-up, step by step. -/

/-- Bring-up samples the straps. -/
def State.sampled (s : State) (f : BootFind) : State := { s with mgmtOn := true, straps := f.straps, pos := f.straps.brdPos.val }

/-- What the security processor shows from the start, and the mailbox channels (R560). -/
def State.secShown (s : State) (f : BootFind) : State := ((s.sampled f).setFld .sec F.SEC_STATUS_LIFECYCLE s.fuses.lifecycle).showChannels

/-- The security processor holds its identity, or has raised the fault that it does not (14 R532). -/
def State.identified (s : State) (f : BootFind) : State :=
  if f.chainOk then (s.secShown f).setFld .sec F.SEC_STATUS_IDENTITY_OK 1 else (s.secShown f).raise .sec 0x103 1 {}

section
variable {s : State} {f : BootFind}

theorem State.bringUp_of_bad (h : f.spOk = false) :
    s.bringUp f = State.raise { s.secShown f with boot := { (s.secShown f).boot with phase := phHALTED } } .sec 0x105 4 {} := if_pos (by simp [h])

theorem State.bringUp_of_good (h : f.spOk = true) : s.bringUp f = (s.identified f).checkImage f := if_neg (by simp [h])

section
variable {β : Type} {g : State → β} (hg : BringUpBlind g)
include hg

theorem BringUpBlind.secShown : g (s.secShown f) = g (s.sampled f) := (hg.showChannels _).trans (hg.setFld_hub _ rfl (by decide) _)

theorem BringUpBlind.identified : g (s.identified f) = g (s.sampled f) :=
  FaultBlind.ite_of_eq ((hg.setFld_hub _ rfl (by decide) _).trans hg.secShown) ((hg.raise _ (Nat.le_refl 1)).trans hg.secShown)

/-- Past its first step bring-up leaves such a reading. -/
theorem BringUpBlind.bringUp : g (s.bringUp f) = g (s.sampled f) := by
  cases h : f.spOk with
  | false =>
    rw [State.bringUp_of_bad h]
    exact (hg.raise_fatal _ _ _ _ _).trans ((hg.boot _ _ _ _ _ _ _).trans hg.secShown)
  | true =>
    rw [State.bringUp_of_good h]
    exact (hg.checkImage _ f).trans hg.identified

end

/-- A fault of the security processor halts the package (R560). -/
theorem State.bringUp_halted (h : f.spOk = false) : (s.bringUp f).boot.phase = phHALTED := by
  rw [State.bringUp_of_bad h, State.boot_blind.raise_fatal]

/-- The recovery loader runs (R566). -/
def State.recovery (s : State) : State :=
  (State.showChannels (State.setFld { s with boot := { s.boot with phase := phRECOVERY } } .pci F.PCI_STATUS_RECOVERY 1)).showFunctions

theorem State.checkImage_of_bad {e : Fin 5} (h : s.imageCheck f = some e) : s.checkImage f = s.recovery := by
  unfold State.checkImage
  rw [h]
  rfl

theorem State.recovery_phase : s.recovery.boot.phase = phRECOVERY := by
  rw [State.recovery, State.boot_blind.showFunctions, State.boot_blind.showChannels, State.setFld_boot]

/-- The channels and functions that are shown leave PCI_STATUS. -/
theorem State.fld_showFunctions (p : Page) (x : Field) : s.showFunctions.fld p x = s.fld p x := by
  unfold State.showFunctions
  split
  · exact s.emit_fld _ _ _
  · rfl

theorem State.fld_showChannels_pci {x : Field} (hx : x.off < 0x1000) : s.showChannels.fld .pci x = s.fld .pci x := by
  have hset (t : State) (ch : Fin 36) (y : Field) (v : Nat) (hy : y.off < 0x1000) : (t.setFld (.mbx ch) y v).fld .pci x = t.fld .pci x :=
    t.fld_setFld_page y x v hy hx (by simp)
  refine foldl_keeps (g := fun t => t.fld .pci x) (fun t ch => ?_) _ s
  rw [State.blkReady, hset _ _ _ _ (by decide), hset _ _ _ _ (by decide), hset _ _ _ _ (by decide), hset _ _ _ _ (by decide)]

theorem State.recovery_flag : s.recovery.flag .pci F.PCI_STATUS_RECOVERY = true := by
  rw [State.recovery, State.flag, State.fld_showFunctions, State.fld_showChannels_pci (by decide), State.fld_setFld _ _ _ _ (by decide)]
  rfl

/-- The check of an image looks at the flash and the fuses. -/
theorem State.imageCheck_congr {u : State} (hflash : u.flash = s.flash) (hfuses : u.fuses = s.fuses) : u.imageCheck f = s.imageCheck f := by
  unfold State.imageCheck State.flashImage State.flashGet
  rw [hflash, hfuses]

end

/-! A start over. -/

/-- A machine that bring-up starts from: cold, but for words of reset and supply. -/
structure State.StartsOver (s u : State) (cause : Nat) : Prop where
  ground : u.ground = s.cold.ground
  cause : u.fld .rst F.RST_CAUSE_DEVICE = cause

/-- What the machine is after bring-up. -/
def State.Fresh (s t : State) (f : BootFind) (cause : Nat) : Prop :=
  t.mgmtOn = true ∧ t.pos = f.straps.brdPos.val ∧ t.fuses = s.fuses ∧ t.flash = s.flash ∧ t.mem = [] ∧ t.tarn = [] ∧ t.queues = [] ∧ t.parts = [] ∧
    t.gtime = [] ∧ t.fld .rst F.RST_CAUSE_DEVICE = cause ∧ t.pending = s.pending ∧
    (f.spOk = true → (∃ e, s.cold.imageCheck f = some e) → t.boot.phase = phRECOVERY ∧ t.flag .pci F.PCI_STATUS_RECOVERY = true) ∧
    (f.spOk = false → t.boot.phase = phHALTED)

section
variable {s u : State} {cause : Nat} {f : BootFind}

/-- A word of the reset page, or of PD0's supplies, is no word of a compute die's loop. -/
theorem bringUp_rd_of_own {q : Page} {off : Nat} (hlo : 0x100 ≤ off) (hhi : off < 0x1000) (hq : q.ptype = .pwr ∨ q.ptype = .rst) (hloop : ∀ c, cdPwr c ≠ q) :
    (u.bringUp f).rd (q.base + off) = u.rd (q.base + off) :=
  BringUpBlind.bringUp (OwnWord.bringUpBlind ⟨q, off, rfl, hlo, hhi, hq⟩ fun c _ ho e => hloop c (Page.base_add_inj ho hhi e).1)

theorem bringUp_cause : (u.bringUp f).fld .rst F.RST_CAUSE_DEVICE = u.fld .rst F.RST_CAUSE_DEVICE :=
  congrArg (getF · F.RST_CAUSE_DEVICE) (bringUp_rd_of_own (by decide) (by decide) (.inr rfl) (by simp [cdPwr]))

theorem bringUp_supply : (u.bringUp f).rd (Page.base (.pwr pd0) + F.PWR_MGS_ACTIVE.off) = u.rd (Page.base (.pwr pd0) + F.PWR_MGS_ACTIVE.off) :=
  bringUp_rd_of_own (by decide) (by decide) (.inl rfl) cdPwr_ne_pd0

theorem State.StartsOver.bringUp_ground (h : s.StartsOver u cause) :
    (u.bringUp f).ground = { s.cold.ground with mgmtOn := true, pos := f.straps.brdPos.val } := by
  rw [State.ground_blind.bringUp, ← h.ground]
  rfl

theorem State.StartsOver.quiet (h : s.StartsOver u cause) : (u.bringUp f).quiet = true := by
  have hg := h.bringUp_ground (f := f)
  have hsess0 (k : PDie) : ((u.bringUp f).agent k).sess0 = none := congrFun (congrArg Ground.sess0 hg) k
  have hsess1 (k : PDie) : ((u.bringUp f).agent k).sess1 = none := congrFun (congrArg Ground.sess1 hg) k
  simp [State.quiet, show (u.bringUp f).bar2 = [] from congrArg Ground.bar2 hg, show (u.bringUp f).held = [] from congrArg Ground.held hg,
    show (u.bringUp f).relayOut = [] from congrArg Ground.relayOut hg, hsess0, hsess1]

theorem State.StartsOver.pending (h : s.StartsOver u cause) : (u.bringUp f).pending = s.pending := congrArg Ground.pending h.bringUp_ground

theorem State.StartsOver.identified_image (h : s.StartsOver u cause) : (u.identified f).imageCheck f = s.cold.imageCheck f := by
  have hg : (u.identified f).ground = (u.sampled f).ground := State.ground_blind.identified
  exact State.imageCheck_congr ((congrArg Ground.flash hg).trans (congrArg Ground.flash h.ground)) ((congrArg Ground.fuses hg).trans (congrArg Ground.fuses h.ground))

theorem State.StartsOver.recovers (h : s.StartsOver u cause) (hsp : f.spOk = true) (himage : ∃ e, s.cold.imageCheck f = some e) :
    (u.bringUp f).boot.phase = phRECOVERY ∧ (u.bringUp f).flag .pci F.PCI_STATUS_RECOVERY = true := by
  obtain ⟨e, he⟩ := himage
  rw [State.bringUp_of_good hsp, State.checkImage_of_bad (h.identified_image.trans he)]
  exact ⟨State.recovery_phase, State.recovery_flag⟩

theorem State.StartsOver.fresh (h : s.StartsOver u cause) : s.Fresh (u.bringUp f) f cause :=
  have hg := h.bringUp_ground
  ⟨congrArg Ground.mgmtOn hg, congrArg Ground.pos hg, congrArg Ground.fuses hg, congrArg Ground.flash hg, congrArg Ground.mem hg, congrArg Ground.tarn hg,
    congrArg Ground.queues hg, congrArg Ground.parts hg, congrArg Ground.gtime hg, bringUp_cause.trans h.cause, h.pending, h.recovers, State.bringUp_halted⟩

end

/-! Where a power-on and a reset start from. -/

/-- A power-on shows which management inputs are in window, and which is active. -/
def State.poweredCold (s : State) (b other : Bool) : State :=
  ((s.cold.setFld (.pwr pd0) F.PWR_MGS_ACTIVE b.toNat).setFld (.pwr pd0) F.PWR_MGS_A_OK (!b || other).toNat).setFld (.pwr pd0) F.PWR_MGS_B_OK (b || other).toNat

/-- A reset keeps the word of the management supplies, and shows its cause. -/
def State.resetCold (s : State) (cause : Nat) : State :=
  (s.dropRails.cold.wr (Page.base (.pwr pd0) + F.PWR_MGS_ACTIVE.off) (s.rd (Page.base (.pwr pd0) + F.PWR_MGS_ACTIVE.off))).setFld .rst F.RST_CAUSE_DEVICE cause

section
variable {s : State} {b other : Bool} {cause : Nat}

theorem State.setFld_ground (p : Page) (x : Field) (v : Nat) : (s.setFld p x v).ground = s.ground := State.wr_ground _ _ _

theorem State.poweredCold_startsOver : s.StartsOver (s.poweredCold b other) 0 where
  ground := by rw [State.poweredCold, State.setFld_ground, State.setFld_ground, State.setFld_ground]
  cause := by
    have hpage : Page.pwr pd0 ≠ .rst := by simp
    rw [State.poweredCold, State.fld_setFld_page _ _ _ _ (by decide) (by decide) hpage, State.fld_setFld_page _ _ _ _ (by decide) (by decide) hpage,
      State.fld_setFld_page _ _ _ _ (by decide) (by decide) hpage, State.cold_cause]

theorem State.poweredCold_active : (s.poweredCold b other).fld (.pwr pd0) F.PWR_MGS_ACTIVE = b.toNat := by
  rw [State.poweredCold, State.fld_setFld_other _ _ _ _ _ (by decide), State.fld_setFld_other _ _ _ _ _ (by decide), State.fld_setFld _ _ _ _ (by decide)]
  cases b <;> rfl

theorem State.poweredCold_a : (s.poweredCold b other).flag (.pwr pd0) F.PWR_MGS_A_OK = (!b || other) := by
  rw [State.poweredCold, State.flag_setFld_other _ _ _ _ _ (by decide), State.flag_setFld _ _ _ _ (by decide)]
  cases (!b || other) <;> rfl

theorem State.poweredCold_b : (s.poweredCold b other).flag (.pwr pd0) F.PWR_MGS_B_OK = (b || other) := by
  rw [State.poweredCold, State.flag_setFld _ _ _ _ (by decide)]
  cases (b || other) <;> rfl

theorem State.dropRails_pending : s.dropRails.pending = s.pending := foldl_keeps (g := State.pending) (fun t r => t.emit_pending (.enable r false)) _ _

theorem State.resetCold_startsOver (hcause : cause < 4) : s.StartsOver (s.resetCold cause) cause where
  ground := by
    rw [State.resetCold, State.setFld_ground, State.wr_ground, State.cold_ground, State.cold_ground, State.dropRails_pending, State.dropRails_fuses,
      State.dropRails_flash]
  cause := by
    rw [State.resetCold, State.fld_setFld _ _ _ _ (by decide)]
    exact Nat.mod_eq_of_lt hcause

theorem State.resetCold_supply :
    (s.resetCold cause).rd (Page.base (.pwr pd0) + F.PWR_MGS_ACTIVE.off) = s.rd (Page.base (.pwr pd0) + F.PWR_MGS_ACTIVE.off) := by
  rw [State.resetCold, State.rd_setFld_page (q := .pwr pd0) _ _ _ _ (by decide) (by decide) (by simp), State.rd_wr_self]

/-! The commands. -/

variable {f : BootFind} {v : Word}

theorem exec_mgmtPowerOn_off (h : s.mgmtOn = false) :
    exec (.mgmtPowerOn b other f) s = .next { (s.poweredCold b other).bringUp f with pending := s.pending } := by
  have hup : mgmtPowerOn b other f s = (s.poweredCold b other).bringUp f := if_neg (by simp [h])
  exact congrArg (fun t : State => Host.Outcome.next { t with pending := s.pending }) hup

theorem exec_mgmtPowerOn_on (h : s.mgmtOn = true) : exec (.mgmtPowerOn b other f) s = .next s := by
  have hsame : mgmtPowerOn b other f s = s := if_pos h
  exact congrArg (fun t : State => Host.Outcome.next { t with pending := s.pending }) hsame

theorem State.with_pending {t : State} {l : List Instr} (h : t.pending = l) : { t with pending := l } = t := by subst h; rfl

theorem resetN_on (h : s.mgmtOn = true) : resetN f s = (s.resetCold 1).bringUp f := if_pos h

theorem rstCtrlDevice_keyed (hbit : v.getLsbD 17 = true) (hkey : v.toNat >>> 24 = 0xD5) : rstCtrlDevice v f s = (s.resetCold 2).bringUp f :=
  if_pos (by simp [hbit, hkey])

theorem rstCtrlDevice_unkeyed (h : v.getLsbD 17 = false ∨ v.toNat >>> 24 ≠ 0xD5) : rstCtrlDevice v f s = s := by
  refine if_neg ?_
  rcases h with hbit | hkey
  · rw [hbit]
    exact Bool.false_ne_true
  · simp [hkey]

/-- Nothing follows a reset, which leaves no access and no session. -/
theorem State.finish_resetCold (hcause : cause < 4) : s.finish ((s.resetCold cause).bringUp f) = (s.resetCold cause).bringUp f :=
  State.finish_quiet (State.resetCold_startsOver hcause).quiet (State.resetCold_startsOver hcause).pending

end

/-- Settles O1: each start leaves a cold machine but for its words of reset and supply, and bring-up leaves what the statement names. -/
theorem powerOnAndResetsStartOver : Obligations.PowerOnAndResetsStartOver := by
  refine ⟨fun s b other f h => ⟨exec_mgmtPowerOn_off h, (s.poweredCold b other).bringUp f, ?power, ?powerFresh, ?active, ?inA, ?inB⟩,
    fun s b other f h => exec_mgmtPowerOn_on h,
    fun s f h => ⟨run_of_eq h (resetN_on h), (s.resetCold 1).bringUp f, ?resetN, ?resetFresh, bringUp_supply.trans State.resetCold_supply⟩,
    fun s v f h hbit hkey => ⟨run_of_eq h (rstCtrlDevice_keyed hbit hkey), (s.resetCold 2).bringUp f, ?device, ?deviceFresh,
      bringUp_supply.trans State.resetCold_supply⟩,
    fun s v f hs h => run_same hs (rstCtrlDevice_unkeyed h)⟩
  case power => exact (exec_mgmtPowerOn_off h).trans (congrArg _ (State.with_pending State.poweredCold_startsOver.pending))
  case powerFresh => exact State.poweredCold_startsOver.fresh
  case active => exact (congrArg (getF · F.PWR_MGS_ACTIVE) bringUp_supply).trans State.poweredCold_active
  case inA => exact (congrArg (getF · F.PWR_MGS_A_OK != 0) bringUp_supply).trans State.poweredCold_a
  case inB => exact (congrArg (getF · F.PWR_MGS_B_OK != 0) bringUp_supply).trans State.poweredCold_b
  case resetN => exact (run_of_eq h (resetN_on h)).trans (congrArg _ (State.finish_resetCold (by decide)))
  case device => exact (run_of_eq h (rstCtrlDevice_keyed hbit hkey)).trans (congrArg _ (State.finish_resetCold (by decide)))
  case resetFresh => exact (State.resetCold_startsOver (by decide)).fresh
  case deviceFresh => exact (State.resetCold_startsOver (by decide)).fresh

end Sys2Proof.Machine
end

section
/-! A block's record (13 R495–R497, R519): what its words show, and what a fault makes of them. -/

namespace Sys2Proof.Machine

/-- What FLT_FLAGS shows of a scope, above its low 11 bits. -/
def Scope.shown (sc : Scope) : Nat :=
  (match sc.part with | some p => p.val + 64 | none => 0) + 128 * (match sc.ctx with | some c => c.val + 8 | none => 0)

/-- What the low 11 bits of FLT_FLAGS hold of a record neither acknowledged nor escalated: both classes, VALID, and whether it was injected. -/
def freshFlags (cls : Nat) (inj : Bool) : Nat := cls + cls * 8 + 64 + inj.toNat * 1024

theorem Scope.shown_lt (sc : Scope) : sc.shown < 2048 := by
  obtain ⟨part, ctx⟩ := sc
  cases part <;> cases ctx <;> simp only [Scope.shown] <;> omega

theorem freshFlags_lt {cls : Nat} (h : cls ≤ 4) (inj : Bool) : freshFlags cls inj < 2048 := by
  have hinj := inj.toNat_le
  unfold freshFlags
  omega

theorem toNat_fltFlags {cls : Nat} (h : cls ≤ 4) (inj : Bool) (sc : Scope) :
    (fltFlags cls cls false false false inj sc).toNat = freshFlags cls inj + 2048 * sc.shown := by
  have hsc := sc.shown_lt
  have hlow := freshFlags_lt h inj
  have hsum : freshFlags cls inj + 2048 * sc.shown < 2 ^ 32 := by omega
  rw [← Nat.mod_eq_of_lt hsum]
  refine (BitVec.toNat_ofNat _ _).trans (congrArg (· % 2 ^ 32) ?_)
  obtain ⟨part, ctx⟩ := sc
  cases part <;> cases ctx <;> simp only [Scope.shown, freshFlags, Nat.shiftLeft_eq, Bool.toNat_false] <;> omega

theorem bits_eq_div (v hi lo : Nat) : bits v hi lo = v / 2 ^ lo % 2 ^ (hi + 1 - lo) := by rw [bits, Nat.shiftRight_eq_div_pow]

theorem getLsbD_eq_div (w : Word) (i : Nat) : w.getLsbD i = decide (w.toNat / 2 ^ i % 2 = 1) := Nat.testBit_eq_decide_div_mod_eq

section
variable {w : Word} {cls : Nat} {inj : Bool} {sc : Scope}

/-- The record that such a word shows: held, in one class, not acknowledged, escalated nor overflowed. -/
theorem fresh_record (hcls : cls ≤ 4) (hw : w.toNat = freshFlags cls inj + 2048 * sc.shown) :
    w.getLsbD 6 = true ∧ w.getLsbD 8 = false ∧ bits w.toNat 2 0 = cls ∧ bits w.toNat 5 3 = cls ∧ w.getLsbD 10 = inj ∧ w.getLsbD 9 = false ∧
      w.getLsbD 7 = false := by
  simp only [getLsbD_eq_div, bits_eq_div, hw, freshFlags]
  interval_cases cls <;> cases inj <;> simp <;> omega

/-- The scope that such a word shows. -/
theorem fresh_scope (hcls : cls ≤ 4) (hw : w.toNat = freshFlags cls inj + 2048 * sc.shown) : scopeOf w = sc := by
  have hlow := freshFlags_lt hcls inj
  obtain ⟨part, ctx⟩ := sc
  simp only [scopeOf, getLsbD_eq_div, bits_eq_div, hw, Scope.shown, Scope.mk.injEq]
  constructor
  · cases part <;> cases ctx <;> simp [Fin.ext_iff] <;> omega
  · cases part <;> cases ctx <;> simp [Fin.ext_iff] <;> omega

end

section
variable {first flags : Word} {now : BitVec 64} {code cls : Nat} {sc : Scope} {inj : Bool}

/-- The FLT_FIRST word of a fault: its code and the low bits of GTIME. -/
theorem first_word (now : BitVec 64) (code : Nat) : let w : Word := BitVec.ofNat 32 (code % 0x1000 + (now.toNat % 0x100000) <<< 12)
    w.toNat % 0x1000 = code % 0x1000 ∧ w.toNat / 0x1000 = now.toNat % 0x100000 := by
  simp only [BitVec.toNat_ofNat, Nat.shiftLeft_eq]
  omega

theorem latchRule_of_free (h : flags.getLsbD 6 = false ∨ flags.getLsbD 8 = true) : latchRule first flags now code cls sc inj =
    ⟨BitVec.ofNat 32 (code % 0x1000 + (now.toNat % 0x100000) <<< 12), fltFlags cls cls false false false inj sc, cls, .latched, sc⟩ :=
  if_pos (by simpa using h)

theorem latchRule_of_held (hvalid : flags.getLsbD 6 = true) (hack : flags.getLsbD 8 = false) : latchRule first flags now code cls sc inj =
    if cls = bits flags.toNat 5 3 && !flags.getLsbD 9 then
      let c := min 4 (bits flags.toNat 5 3 + 1)
      ⟨first, setF (setF (setF flags F.FLT_FLAGS_CLASS c) F.FLT_FLAGS_ESCALATED 1) F.FLT_FLAGS_OVERFLOW 1, c, .escalated,
        if sc.part.isSome then sc else scopeOf flags⟩
    else ⟨first, setF flags F.FLT_FLAGS_OVERFLOW 1, cls, .overflow, sc⟩ :=
  if_neg (by rw [hvalid, hack]; decide)

/-- The flags of a record that escalates to class `c`. -/
def escalatedFlags (flags : Word) (c : Nat) : Word := setF (setF (setF flags F.FLT_FLAGS_CLASS c) F.FLT_FLAGS_ESCALATED 1) F.FLT_FLAGS_OVERFLOW 1

theorem latchRule_of_same (hvalid : flags.getLsbD 6 = true) (hack : flags.getLsbD 8 = false) (hcls : cls = bits flags.toNat 5 3) (hesc : flags.getLsbD 9 = false) :
    latchRule first flags now code cls sc inj =
      ⟨first, escalatedFlags flags (min 4 (cls + 1)), min 4 (cls + 1), .escalated, if sc.part.isSome then sc else scopeOf flags⟩ := by
  rw [latchRule_of_held hvalid hack, if_pos (by rw [hesc]; simp [hcls]), ← hcls]
  rfl

theorem latchRule_of_other (hvalid : flags.getLsbD 6 = true) (hack : flags.getLsbD 8 = false) (h : cls ≠ bits flags.toNat 5 3 ∨ flags.getLsbD 9 = true) :
    latchRule first flags now code cls sc inj = ⟨first, setF flags F.FLT_FLAGS_OVERFLOW 1, cls, .overflow, sc⟩ := by
  rw [latchRule_of_held hvalid hack]
  exact if_neg (by simpa [Decidable.imp_iff_not_or] using h)

theorem escalatedFlags_escalated (flags : Word) (c : Nat) : (escalatedFlags flags c).getLsbD 9 = true := by
  rw [escalatedFlags, getLsbD_setF _ _ _ _ (by decide), getLsbD_setF _ _ _ _ (by decide)]
  rfl

theorem escalatedFlags_overflow (flags : Word) (c : Nat) : (escalatedFlags flags c).getLsbD 7 = true := by
  rw [escalatedFlags, getLsbD_setF _ _ _ _ (by decide)]
  rfl

theorem escalatedFlags_class {c : Nat} (h : c ≤ 4) : bits (escalatedFlags flags c).toNat 2 0 = c := by
  refine Eq.trans (b := getF (escalatedFlags flags c) F.FLT_FLAGS_CLASS) rfl ?_
  rw [escalatedFlags, getF_setF_ne _ _ _ _ (by decide), getF_setF_ne _ _ _ _ (by decide), getF_setF _ _ _ (by decide)]
  exact Nat.mod_eq_of_lt (show c < 8 by omega)

theorem escalatedFlags_raw (flags : Word) (c : Nat) : bits (escalatedFlags flags c).toNat 5 3 = bits flags.toNat 5 3 := by
  refine Eq.trans (b := getF (escalatedFlags flags c) F.FLT_FLAGS_RAW_CLASS) rfl ?_
  rw [escalatedFlags, getF_setF_ne _ _ _ _ (by decide), getF_setF_ne _ _ _ _ (by decide), getF_setF_ne _ _ _ _ (by decide)]
  rfl

end

/-- Settles O39: the three cases of the rule, and what the words of each show. -/
theorem recordsLatchAndEscalate : Obligations.RecordsLatchAndEscalate := by
  refine ⟨fun first flags now code cls sc inj => ⟨fun h => ?latched, fun hvalid hack hcls hesc => ?escalated, fun hvalid hack h => ?overflow⟩,
    fun first flags now code cls sc inj hcls h => ?shown⟩
  case latched =>
    rw [latchRule_of_free h]
    exact ⟨rfl, rfl, rfl, first_word now code⟩
  case escalated =>
    rw [latchRule_of_same hvalid hack hcls hesc]
    exact ⟨rfl, rfl, rfl, escalatedFlags_escalated _ _, escalatedFlags_overflow _ _, escalatedFlags_class (Nat.min_le_left _ _),
      (escalatedFlags_raw _ _).trans hcls.symm⟩
  case overflow =>
    rw [latchRule_of_other hvalid hack h]
    exact ⟨rfl, rfl, rfl, rfl⟩
  case shown =>
    have hw := toNat_fltFlags hcls inj sc
    obtain ⟨hvalid, hack, hclass, hraw, hinj, hesc, hovf⟩ := fresh_record hcls hw
    rw [latchRule_of_free h]
    exact ⟨hvalid, hack, hclass, hraw, fresh_scope hcls hw, hinj, hesc, hovf⟩

end Sys2Proof.Machine
end

section
/-! What the fault hub's operations leave of the registers of other pages: each writes the pages that it names. -/

namespace Sys2Proof.Machine

theorem State.fld_ite_of_eq {c : Prop} [Decidable c] {t u : State} {q : Page} {f : Field} {v : Nat} (ht : t.fld q f = v) (hu : u.fld q f = v) :
    (if c then t else u).fld q f = v := FaultBlind.ite_of_eq (g := fun t : State => t.fld q f) ht hu

section
variable (s : State) {p q : Page} {f : Field} (hf : f.off < 0x1000)
include hf

theorem State.fld_wr_page {off : Nat} (v : Word) (hoff : off < 0x1000) (h : p ≠ q) : (s.wr (p.base + off) v).fld q f = s.fld q f :=
  s.fld_wr_ne q f _ v fun e => h (Page.base_add_inj hoff hf e).1

theorem State.fld_fireEvent_page (j : Nat) (h : p ≠ q) : (s.fireEvent p j).fld q f = s.fld q f := by
  have hbit (t : State) (o v : Nat) (ho : o < 0x1000) : (t.setFld p ⟨o, j, 1⟩ v).fld q f = t.fld q f := t.fld_setFld_page ⟨o, j, 1⟩ f v ho hf h
  have hfired : (s.setFld p ⟨F.EVT_STATUS_EVT.off, j, 1⟩ 1).fld q f = s.fld q f := hbit _ _ _ (by decide)
  have hcount (v : Nat) := (State.fld_setFld_page _ F.EVT_COUNT_COUNT f v (by decide) hf h).trans hfired
  exact State.fld_ite_of_eq rfl (State.fld_ite_of_eq (State.fld_ite_of_eq ((hbit _ _ _ (by decide)).trans hfired) (hcount _)) hfired)

theorem State.fld_notify_page (k type : Nat) (body : List Byte) (h : ∀ ch, .mbx ch ≠ q) : (s.notify k type body).fld q f = s.fld q f := by
  simp only [State.notify]
  split
  · exact s.setChan_fld _ _ _ _
  split
  · exact s.fld_setFld_page _ _ _ (by decide) hf (h _)
  · rfl

theorem State.fld_showVf_page (pt : Part) (h : .pci ≠ q) : (s.showVf pt).fld q f = s.fld q f := by
  have hoff : 0x110 + 4 * pt.val < 0x1000 := by omega
  exact (State.fld_setFld_page _ _ _ _ hoff hf h).trans ((State.fld_setFld_page _ _ _ _ hoff hf h).trans (s.fld_setFld_page _ _ _ hoff hf h))

theorem State.fld_agentEvent_page (k : PDie) (code port st cause : Nat) (serial : BitVec 128) (h : .agt k ≠ q) :
    (s.agentEvent k code port st cause serial).fld q f = s.fld q f := by
  refine State.fld_ite_of_eq ?_ ?_
  · exact (State.fld_fireEvent_page _ hf _ h).trans ((State.fld_setFld_page _ _ _ _ (by decide) hf h).trans (s.setAgent_fld _ _ _ _))
  · exact (State.fld_setFld_page _ _ _ _ (by decide) hf h).trans (s.setAgent_fld _ _ _ _)

theorem State.fld_setMsf_page (c : CDie) (v : Nat) (h : .msf c ≠ q) : (s.setMsf c v).fld q f = s.fld q f :=
  (State.fld_setFld_page _ _ _ _ (by decide) hf h).trans (s.fld_setFld_page _ _ _ (by decide) hf h)

omit hf in
theorem State.fld_retire (r : Req) : (s.retire r).fld q f = s.fld q f := by
  unfold State.retire
  extract_lets
  split <;> rfl

omit hf in
theorem State.fld_abortDma (x : QRef → Bool) (st : Nat) : (s.abortDma x st).fld q f = s.fld q f :=
  (foldl_keeps (g := fun t => t.fld q f) (fun t r => t.fld_retire r) _ _).trans rfl

theorem State.fld_abortSweeps_page (c : CDie) (x : QRef → Bool) (st : Nat) (h : .msf c ≠ q) : (s.abortSweeps c x st).fld q f = s.fld q f :=
  State.fld_ite_of_eq rfl (State.fld_ite_of_eq ((State.fld_setMsf_page _ hf c _ h).trans (s.setArray_fld _ _ _ _))
    (State.fld_ite_of_eq (s.setArray_fld _ _ _ _) rfl))

theorem State.fld_killPart_page (pt : Part) (h : ∀ c, .msf c ≠ q) : (s.killPart pt).fld q f = s.fld q f := by
  have hdispatches (t : State) (x : QRef → Bool) : (t.abortDispatches x stABORTED).fld q f = t.fld q f := rfl
  have hqueues (x : QRef → Bool) : (s.discardQueues x).fld q f = s.fld q f := rfl
  have hsweeps (t : State) (x : QRef → Bool) : (allCDies.foldl (fun t c => t.abortSweeps c x stABORTED) t).fld q f = t.fld q f :=
    foldl_keeps (g := fun t => t.fld q f) (fun t c => t.fld_abortSweeps_page hf c x _ (h c)) _ t
  simp only [State.killPart, State.fld_abortDma, hdispatches, hsweeps, hqueues]

end

/-! Ports and dies in the safe state. -/

section
variable (s : State) {q : Page} {f : Field} (hf : f.off < 0x1000)
include hf

theorem State.fld_goDark_page (n : Port) (h : ∀ j, .opt j ≠ q) : (s.goDark n).fld q f = s.fld q f := by
  unfold State.goDark
  split
  · exact s.fld_setFld_page _ _ _ (by decide) hf (h _)
  · rfl

/-- What a change of state leaves after the port's own page: the router's, the engine's and the agent's pages are written. -/
theorem State.fld_setLnk_after (n : Port) (st : Nat) (byAgent : Bool) (hst : s.fld (.lnk n) F.LNK_STATE_STATE ≠ st) (hr : ∀ d, .rtr d ≠ q) (ho : ∀ j, .opt j ≠ q)
    (ha : ∀ k, .agt k ≠ q) :
    (s.setLnk n st byAgent).fld q f = ((s.setFld (.lnk n) F.LNK_STATE_STATE st).fireEvent (.lnk n) 1).fld q f := by
  unfold State.setLnk
  rw [if_neg hst]
  extract_lets shown parted runsOn kept dark
  have hparted : parted.fld q f = shown.fld q f :=
    State.fld_ite_of_eq (shown.fld_setFld_page _ _ _ (Port.member_off_lt n) hf (hr _)) rfl
  have hkept : kept.fld q f = shown.fld q f := (parted.updPort_fld _ _ _ _).trans hparted
  have hdark : dark.fld q f = shown.fld q f := State.fld_ite_of_eq ((kept.fld_goDark_page hf n ho).trans hkept) hkept
  exact State.fld_ite_of_eq hdark ((State.fld_agentEvent_page _ hf _ _ _ _ _ _ (ha _)).trans hdark)

theorem State.fld_setLnk_page (n : Port) (st : Nat) (byAgent : Bool) (hl : .lnk n ≠ q) (hr : ∀ d, .rtr d ≠ q) (ho : ∀ j, .opt j ≠ q) (ha : ∀ k, .agt k ≠ q) :
    (s.setLnk n st byAgent).fld q f = s.fld q f := by
  by_cases hst : s.fld (.lnk n) F.LNK_STATE_STATE = st
  · exact congrArg (State.fld · q f) (if_pos hst)
  · rw [s.fld_setLnk_after hf n st byAgent hst hr ho ha, State.fld_fireEvent_page _ hf 1 hl, s.fld_setFld_page _ _ _ (by decide) hf hl]

theorem State.fld_haltDie_page (c : CDie) (h : .msf c ≠ q) : (s.haltDie c).fld q f = s.fld q f :=
  State.fld_ite_of_eq rfl (s.fld_setMsf_page hf c _ h)

theorem State.fld_setStep_page (c : CDie) (k : Nat) (hp : cdPwr c ≠ q) (hc : .clk (CDie.die c) ≠ q) : (s.setStep c k).fld q f = s.fld q f :=
  State.fld_ite_of_eq rfl ((State.fld_bump_page _ (by decide) hf hp).trans
    ((State.fld_setFld_page _ _ _ _ (by decide) hf hc).trans (s.fld_setFld_page _ _ _ (by decide) hf hp)))

theorem State.fld_stopLoop_page (c : CDie) (hp : cdPwr c ≠ q) (hc : .clk (CDie.die c) ≠ q) : (s.stopLoop c).fld q f = s.fld q f := by
  unfold State.stopLoop
  exact (State.emit_fld _ _ _ _).trans ((State.fld_setFld_page _ _ _ _ (by decide) hf hp).trans ((State.fld_setStep_page _ hf c 6 hp hc).trans (s.setPwr_fld _ _ _ _)))

end

/-- A change of state shows at the port. -/
theorem State.lnk_setLnk (s : State) (n : Port) {st : Nat} (byAgent : Bool) (h : st < 16) : (s.setLnk n st byAgent).lnk n = st := by
  by_cases hst : s.fld (.lnk n) F.LNK_STATE_STATE = st
  · exact (congrArg (State.lnk · n) (if_pos hst)).trans hst
  · rw [State.lnk, s.fld_setLnk_after (by decide) n st byAgent hst (by simp) (by simp) (by simp), State.fld_fireEvent _ _ _ (by decide),
      State.fld_setFld _ _ _ _ (by decide)]
    exact Nat.mod_eq_of_lt h

theorem State.stepK_stopLoop (s : State) (c : CDie) : (s.stopLoop c).stepK c = 6 := by
  have hstep (t : State) : (t.setStep c 6).stepK c = 6 := by
    by_cases h : t.stepK c = 6
    · rw [State.setStep, if_pos h, h]
    · exact State.stepK_setStep h (by decide)
  unfold State.stopLoop
  exact (State.emit_fld _ _ _ _).trans ((State.fld_setFld_other _ _ F.PWR_STATUS_DEFERRED F.PWR_STATUS_STEP _ (by decide)).trans (hstep _))

/-! A partition's state, a field of FLT_PART (R520). -/

theorem partField_off_lt (p : Part) : (partField p).off < 0x1000 := by show 0x150 + 4 * (p.val / 16) < 0x1000; omega

theorem partField_fits (p : Part) : (partField p).lsb + (partField p).width ≤ 32 := by show 2 * (p.val % 16) + 2 ≤ 32; omega

theorem partField_past (p : Part) : 0x150 ≤ (partField p).off := Nat.le_add_right _ _

section
variable (s : State) (p : Part)

theorem State.partState_setPartState {v : Nat} (h : v < 4) : (s.setPartState p v).partState p = v :=
  (s.fld_setFld _ _ v (partField_fits p)).trans (Nat.mod_eq_of_lt h)

theorem State.partState_showVf (q : Part) : (s.showVf q).partState p = s.partState p := s.fld_showVf_page (partField_off_lt p) q (by simp)

theorem State.partState_notifyPart (q : Part) : (s.notifyPart q).partState p = s.partState p :=
  s.fld_notify_page (partField_off_lt p) _ _ _ (by simp)

end

end Sys2Proof.Machine
end

section
/-! The reactions of the classes and the hub's log (13 R502–R507, R511, R520). -/

namespace Sys2Proof.Machine

theorem State.mem_of_ground {s t : State} (h : t.ground = s.ground) : t.mem = s.mem := congrArg Ground.mem h

theorem State.tarn_of_ground {s t : State} (h : t.ground = s.ground) : t.tarn = s.tarn := congrArg Ground.tarn h

theorem State.fld_with_ports (s : State) (l : Store PortSt) (q : Page) (f : Field) : State.fld { s with ports := l } q f = s.fld q f := rfl

/-! The safe state, stage by stage. -/

/-- A port in the safe state: idle, and its qualification forgotten. -/
def State.idlePort (s : State) (q : Port) : State := (s.setLnk q lkSAFE).wr (Page.base (.lnk q) + F.LNK_QUAL_LOCAL_PASS.off) 0

/-- The hub in SAFE, the arrays and cores halted, the ports idle. -/
def State.idled (s : State) : State := allPorts.foldl State.idlePort (allCDies.foldl State.haltDie (s.setFld .flt F.FLT_STATE_STATE hubSAFE))

section
variable (s : State) {p q : Page} {code : Nat} {pt : Part}

theorem State.lnk_idlePort (n : Port) : (s.idlePort n).lnk n = lkSAFE :=
  (State.fld_wr_ne _ _ F.LNK_STATE_STATE _ _ (by simp [F.LNK_QUAL_LOCAL_PASS, F.LNK_STATE_STATE])).trans (s.lnk_setLnk n false (by decide))

theorem State.lnk_idlePort_ne {n m : Port} (h : m ≠ n) : (s.idlePort m).lnk n = s.lnk n := by
  have hpage : Page.lnk m ≠ Page.lnk n := by simpa using h
  exact (State.fld_wr_page _ (by decide) 0 (by decide) hpage).trans
    (s.fld_setLnk_page (by decide) m _ _ hpage (by simp) (by simp) (by simp))

theorem State.hub_idlePort (n : Port) : (s.idlePort n).fld .flt F.FLT_STATE_STATE = s.fld .flt F.FLT_STATE_STATE :=
  (State.fld_wr_page _ (by decide) 0 (by decide) (by simp)).trans
    (s.fld_setLnk_page (by decide) n _ _ (by simp) (by simp) (by simp) (by simp))

theorem State.hub_idled : s.idled.fld .flt F.FLT_STATE_STATE = hubSAFE :=
  ((foldl_keeps (g := fun t => t.fld .flt F.FLT_STATE_STATE) State.hub_idlePort _ _).trans
    (foldl_keeps (g := fun t => t.fld .flt F.FLT_STATE_STATE) (fun t c => t.fld_haltDie_page (by decide) c (by simp)) _ _)).trans (s.fld_setFld _ _ _ (by decide))

theorem State.lnk_idled (n : Port) : s.idled.lnk n = lkSAFE :=
  (foldl_once State.idlePort (fun t => t.lnk n) (fun _ => lkSAFE) n (fun t => t.lnk_idlePort n) (fun t _ h => t.lnk_idlePort_ne h) (List.nodup_finRange 24) _).trans
    (if_pos (List.mem_finRange n))

/-- The loops are stopped last. -/
theorem State.safeState_stages : ∃ t : State, s.safeState = allCDies.foldl State.stopLoop t ∧ t.flag .pci F.PCI_STATUS_FATAL = true ∧
    ∀ (q : Page) (f : Field), f.off < 0x1000 → .pci ≠ q → t.fld q f = s.idled.fld q f := by
  unfold State.safeState
  extract_lets safe halted idle emptied fatal
  refine ⟨fatal, rfl, ?_, fun q f hf hq => ?_⟩
  · exact (State.emit_flag _ _ _ _).trans (State.flag_setFld _ _ _ _ (by decide))
  · have hidle : idle = s.idled := rfl
    rw [← hidle]
    exact (State.emit_fld _ _ _ _).trans ((emptied.fld_setFld_page _ _ _ (by decide) hf hq).trans (State.fld_with_ports _ _ _ _))

theorem State.fld_safeState {f : Field} (hf : f.off < 0x1000) (hpci : .pci ≠ q) (hp : ∀ d, .pwr d ≠ q) (hc : ∀ d, .clk d ≠ q) :
    s.safeState.fld q f = s.idled.fld q f := by
  obtain ⟨t, hstop, -, hfld⟩ := s.safeState_stages
  rw [hstop, ← hfld q f hf hpci]
  exact foldl_keeps (g := fun t => t.fld q f) (fun t c => t.fld_stopLoop_page hf c (hp _) (hc _)) _ t

theorem State.stepK_safeState (c : CDie) : s.safeState.stepK c = 6 := by
  obtain ⟨t, hstop, -, -⟩ := s.safeState_stages
  have hother (t : State) (e : CDie) (h : e ≠ c) : (t.stopLoop e).stepK c = t.stepK c := t.fld_stopLoop_page (by decide) e (cdPwr_ne h) (by simp [cdPwr])
  rw [hstop, foldl_once State.stopLoop (fun t => t.stepK c) (fun _ => 6) c (fun t => t.stepK_stopLoop c) hother allCDies_nodup, if_pos (mem_allCDies c)]

theorem State.fatal_safeState : s.safeState.flag .pci F.PCI_STATUS_FATAL = true := by
  obtain ⟨t, hstop, hfatal, -⟩ := s.safeState_stages
  rw [hstop, ← hfatal]
  exact foldl_keeps (g := fun t => t.flag .pci F.PCI_STATUS_FATAL) (fun t c => congrArg (· != 0) (t.fld_stopLoop_page (by decide) c (by simp [cdPwr]) (by simp))) _ t

/-! The reactions. -/

/-- The record of the first fatal fault. -/
def State.latchFatal (s : State) (p : Page) (code : Nat) : State :=
  if s.flag .flt F.FLT_FATAL_VALID then s else
    let w := code % 0x1000 + (p.idx % 256) <<< 12 + (Die.slot p.die) <<< 20 + 1 <<< 24
    (s.wr (Page.base .flt + F.FLT_FATAL_VALID.off) (BitVec.ofNat 32 w)).wr64 .flt 0x10C (s.now p.die)

theorem State.hub_latchFatal : (s.latchFatal p code).fld .flt F.FLT_STATE_STATE = s.fld .flt F.FLT_STATE_STATE :=
  State.fld_ite_of_eq rfl
    ((State.fld_wr64_ne _ .flt F.FLT_STATE_STATE _ (by decide)).trans (s.fld_wr_ne .flt F.FLT_STATE_STATE _ _ (by decide)))

theorem State.c4React_of_locked (h : s.fld .flt F.FLT_STATE_STATE = hubLOCKED) : s.c4React p code = s.latchFatal p code := by
  have hhub : (s.latchFatal p code).fld .flt F.FLT_STATE_STATE = 4 := s.hub_latchFatal.trans h
  change (match (s.latchFatal p code).fld .flt F.FLT_STATE_STATE with | 4 => _ | 1 => _ | _ => _) = _
  rw [hhub]
  rfl

theorem State.partState_killPart (r : Part) : (s.killPart r).partState pt = s.partState pt := s.fld_killPart_page (partField_off_lt pt) r (by simp)

theorem State.partState_c3React (h : s.partFenced pt = false) : (s.c3React pt).partState pt = ptFENCED := by
  unfold State.c3React
  extract_lets aged
  have hfree : aged.partFenced pt = false := h
  rw [if_neg (by rw [hfree]; decide), State.partState_killPart, State.partState_notifyPart, State.partState_showVf,
    State.partState_setPartState _ _ (by decide)]

end

section
variable {s : State} {p : Page} {code cls : Nat} {sc : Scope}

theorem State.react_of_fatal : s.react p code 4 sc = s.c4React p code := rfl

theorem State.react_of_low (h : cls ≤ 1) : s.react p code cls sc = s := by
  unfold State.react
  extract_lets hub
  rw [if_neg (by omega), if_neg (by omega : ¬ cls = 2), if_neg (by omega : ¬ cls = 3), ite_self]

/-- A hub in SAFE, RECOVERING or LOCKED reacts to nothing below C4. -/
theorem State.react_of_stopped (hcls : cls ≤ 3)
    (h : s.fld .flt F.FLT_STATE_STATE = hubSAFE ∨ s.fld .flt F.FLT_STATE_STATE = hubRECOVERING ∨ s.fld .flt F.FLT_STATE_STATE = hubLOCKED) :
    s.react p code cls sc = s := by
  unfold State.react
  extract_lets hub
  rw [if_neg (by omega), if_pos (by simpa [hub, or_assoc] using h)]

theorem State.react_of_partition {pt : Part} {x : Option Ctx} (h : s.fld .flt F.FLT_STATE_STATE = hubNORMAL) :
    s.react p code 3 ⟨some pt, x⟩ = s.c3React pt := by
  rw [State.react, if_neg (by decide), h]
  rfl

theorem State.react_of_context {c : CDie} {pt : Part} {x : Ctx} (h : s.fld .flt F.FLT_STATE_STATE = hubNORMAL) (hc : Die.cd? p.die = some c) :
    s.react p code 2 ⟨some pt, some x⟩ = s.c2React c pt x := by
  rw [State.react, if_neg (by decide), h, hc]
  rfl

end

/-! The hub's log. -/

section
variable {s : State} {e : LogEntry} {i : Nat}

theorem State.logEntry_of_room (h : s.fltLog.length < 256) : s.logEntry e = { s with fltLog := s.fltLog ++ [e] } := if_pos h

theorem State.logEntry_of_lost (h : 256 ≤ s.fltLog.length) (hlost : e.cls = 0 ∨ ∀ x ∈ s.fltLog, x.cls ≠ 0) : s.logEntry e = s.bump .flt C.FLT_LOG_LOST 1 := by
  unfold State.logEntry
  rw [if_neg (by omega)]
  by_cases he : e.cls = 0
  · exact if_pos he
  · have hnone : s.fltLog.findIdx? (fun x => x.cls == 0) = none := List.findIdx?_eq_none_iff.2 fun x hx => by simpa using hlost.resolve_left he x hx
    rw [if_neg he, hnone]

theorem State.logEntry_of_found (h : 256 ≤ s.fltLog.length) (he : e.cls ≠ 0) (hi : s.fltLog.findIdx? (fun x => x.cls == 0) = some i) :
    s.logEntry e = State.bump { s with fltLog := s.fltLog.eraseIdx i ++ [e] } .flt C.FLT_LOG_LOST 1 := by
  unfold State.logEntry
  rw [if_neg (by omega), if_neg he, hi]

/-- The entry that gives its place is of C0. -/
theorem mem_eraseIdx_of_kept {l : List LogEntry} (hi : l.findIdx? (fun x => x.cls == 0) = some i) {x : LogEntry} (hx : x ∈ l) (hc : x.cls ≠ 0) :
    x ∈ l.eraseIdx i := by
  obtain ⟨hlt, hzero, -⟩ := List.findIdx?_eq_some_iff_getElem.1 hi
  obtain ⟨j, hj, rfl⟩ := List.mem_iff_getElem.1 hx
  refine List.mem_eraseIdx_iff_getElem.2 ⟨j, hj, fun hji => hc ?_, rfl⟩
  subst hji
  simpa using hzero

theorem State.length_logEntry (h : s.fltLog.length ≤ 256) : (s.logEntry e).fltLog.length ≤ 256 := by
  by_cases hroom : s.fltLog.length < 256
  · rw [State.logEntry_of_room hroom]
    simpa using hroom
  by_cases hlost : e.cls = 0 ∨ ∀ x ∈ s.fltLog, x.cls ≠ 0
  · rw [State.logEntry_of_lost (by omega) hlost, State.bump_fltLog]
    exact h
  · obtain ⟨he, hsome⟩ := not_or.1 hlost
    obtain ⟨i, hi⟩ : ∃ i, s.fltLog.findIdx? (fun x => x.cls == 0) = some i := by
      refine Option.ne_none_iff_exists'.1 fun hnone => hsome fun x hx => ?_
      simpa using List.findIdx?_eq_none_iff.1 hnone x hx
    obtain ⟨hlt, -⟩ := List.findIdx?_eq_some_iff_getElem.1 hi
    rw [State.logEntry_of_found (by omega) he hi, State.bump_fltLog, List.length_append, List.length_eraseIdx_of_lt hlt, List.length_singleton]
    omega

end

/-- Settles O40: each clause is the rule above for its class, its hub state or its log. -/
theorem classesReactAndAreLogged : Obligations.ClassesReactAndAreLogged := by
  refine ⟨fun s p code sc => ⟨State.react_of_low (by decide), State.react_of_low (by decide), State.react_of_fatal⟩,
    fun s p code cls sc hcls h => State.react_of_stopped hcls h,
    fun s p code pt cx h => ⟨State.react_of_partition h, fun c x hc hx => ?context⟩,
    fun s pt h => s.partState_c3React h, fun s => ?safe, fun s p code h => ?locked, fun s p code cls sc inj h => if_pos h,
    fun s e h => State.logEntry_of_room h, fun s e h => State.length_logEntry h, fun s e h hlost => State.logEntry_of_lost h.ge hlost,
    fun s e i h he hi => ?overwrites, fun s v hs => ⟨fun hv => ?pops, fun hv => run_same hs (if_neg (by rw [hv]; decide))⟩⟩
  case context =>
    subst hx
    exact State.react_of_context h hc
  case safe =>
    have hground := State.ground_blind.safeState s
    exact ⟨(s.fld_safeState (by decide) (by simp) (by simp) (by simp)).trans s.hub_idled,
      fun q => (s.fld_safeState (by decide) (by simp) (by simp) (by simp)).trans (s.lnk_idled q), s.stepK_safeState, s.fatal_safeState, State.mem_of_ground hground,
      State.tarn_of_ground hground, s.safeState_parts⟩
  case locked =>
    rw [s.c4React_of_locked h]
    exact s.hub_latchFatal.trans h
  case overwrites =>
    rw [State.logEntry_of_found h.ge he hi, State.bump_fltLog]
    exact ⟨rfl, fun x hx hc => List.mem_append_left _ (mem_eraseIdx_of_kept hi hx hc)⟩
  case pops => exact run_quiet_of_eq hs (if_pos hv) (State.settled_quiet hs) rfl

end Sys2Proof.Machine
end

section
/-! Records settle, and scrubs clear what a partition had (13 R499, R500, R505, R518, 14 R553). -/

namespace Sys2Proof.Machine

/-! Records. -/

section
variable {s : State} {p : Page} {v : Word}

theorem fltAck_of_held (hv : v.getLsbD 0 = true) (h : s.flag p F.FLT_FLAGS_VALID = true) :
    fltAck p v s = (s.setFld p F.FLT_FLAGS_ACKED 1).settleRecord p := if_pos (by rw [hv, h]; rfl)

theorem fltAck_of_none (h : v.getLsbD 0 = false ∨ s.flag p F.FLT_FLAGS_VALID = false) : fltAck p v s = s := by
  refine if_neg ?_
  rcases h with h | h <;> rw [h] <;> simp

theorem State.settleRecord_of_due (hack : s.flag p F.FLT_FLAGS_ACKED = true) (hq : p.base ∉ s.quietPages) :
    s.settleRecord p = ((s.wr (p.base + 0x20) 0).wr (p.base + 0x24) 0).setFld p F.BLK_STATUS_FAULTED 0 := if_pos (by simp [hack, hq])

theorem State.settleRecord_of_waits (h : s.flag p F.FLT_FLAGS_ACKED = false ∨ p.base ∈ s.quietPages) : s.settleRecord p = s := by
  refine if_neg ?_
  rcases h with h | h <;> simp [h]

theorem State.valid_settleRecord (hack : s.flag p F.FLT_FLAGS_ACKED = true) (hq : p.base ∉ s.quietPages) :
    (s.settleRecord p).flag p F.FLT_FLAGS_VALID = false := by
  rw [State.settleRecord_of_due hack hq, State.flag_setFld_off _ _ _ _ _ (by decide)]
  exact congrArg (getF · F.FLT_FLAGS_VALID != 0) (State.rd_wr_self _ (p.base + 0x24) 0)

theorem State.faulted_settleRecord (hack : s.flag p F.FLT_FLAGS_ACKED = true) (hq : p.base ∉ s.quietPages) :
    (s.settleRecord p).fld p F.BLK_STATUS_FAULTED = 0 := by
  rw [State.settleRecord_of_due hack hq, State.fld_setFld _ _ _ _ (by decide)]
  rfl

end

/-! Partitions. -/

/-- A partition's quiet period is over. -/
def State.endQuiet (s : State) (p : Part) : State := { s with quietParts := s.quietParts.filter (· != p) }

section
variable {s : State} {p : Part} {x : PartSt}

theorem scrubStart_of_ended (hst : s.partState p = ptFENCED) (hbusy : s.partBusy p = false) (hub : s.fld .flt F.FLT_STATE_STATE = hubNORMAL) :
    scrubStart p s = (((s.setPartState p ptSCRUBBING).showVf p).notifyPart p).showScrub := if_pos (by simp [hst, hbusy, hub])

theorem scrubStart_of_not (h : s.partState p ≠ ptFENCED ∨ s.partBusy p = true) : scrubStart p s = s := by
  refine if_neg ?_
  rcases h with h | h <;> simp [h]

theorem scrubComplete_of_stopped (hub : s.fld .flt F.FLT_STATE_STATE ≠ hubNORMAL) : scrubComplete p s = s := if_pos (by simpa using hub)

/-- What the scrub of a partition held leaves, before its quiet period is over. -/
def State.scrubbed (s : State) (p : Part) (x : PartSt) : State := ((s.scrub p).setPart p (some { x with scrubbed := true, placement := none })).showScrub

section
variable (hub : s.fld .flt F.FLT_STATE_STATE = hubNORMAL) (hx : s.part? p = some x) (hst : s.partState p = ptSCRUBBING) (hscr : x.scrubbed = false)
  (hbusy : s.partBusy p = false)
include hub hx hst hscr hbusy

theorem scrubComplete_of_running : scrubComplete p s =
    if (s.scrubbed p x).quietParts.contains p then s.scrubbed p x else (s.scrubbed p x).partCleared p := by
  rw [scrubComplete, if_neg (by simp [hub]), hx]
  exact if_neg (by simp [hst, hscr, hbusy])

theorem scrubComplete_of_quiet (hq : p ∉ (s.scrubbed p x).quietParts) : scrubComplete p s = (s.scrubbed p x).partCleared p := by
  rw [scrubComplete_of_running hub hx hst hscr hbusy, if_neg (by simpa using hq)]

theorem scrubComplete_of_waits (hq : p ∈ (s.scrubbed p x).quietParts) : scrubComplete p s = s.scrubbed p x := by
  rw [scrubComplete_of_running hub hx hst hscr hbusy, if_pos (by simpa using hq)]

end

/-- A quiet period that ends clears the partition: its scrub, of a NORMAL hub, is over. -/
def State.clearsOnQuiet (s : State) (p : Part) : Bool :=
  s.fld .flt F.FLT_STATE_STATE = hubNORMAL && s.partState p = ptSCRUBBING && (match s.part? p with | some x => x.scrubbed | none => false)

theorem quietExpire_part : quietExpire (.part p) s = if s.clearsOnQuiet p then (s.endQuiet p).partCleared p else s.endQuiet p := rfl

theorem quietExpire_of_stopped (hub : s.fld .flt F.FLT_STATE_STATE ≠ hubNORMAL) : quietExpire (.part p) s = s.endQuiet p := by
  rw [quietExpire_part, if_neg (by simp [State.clearsOnQuiet, hub])]

theorem quietExpire_of_unscrubbed (hx : s.part? p = some x) (hscr : x.scrubbed = false) : quietExpire (.part p) s = s.endQuiet p := by
  rw [quietExpire_part, if_neg (by simp [State.clearsOnQuiet, hx, hscr])]

theorem quietExpire_of_scrubbed (hub : s.fld .flt F.FLT_STATE_STATE = hubNORMAL) (hst : s.partState p = ptSCRUBBING) (hx : s.part? p = some x)
    (hscr : x.scrubbed = true) : quietExpire (.part p) s = (s.endQuiet p).partCleared p := by
  rw [quietExpire_part, if_pos (by simp [State.clearsOnQuiet, hub, hst, hx, hscr])]

end

/-! A partition is cleared. -/

section
variable (s : State) (p : Part)

theorem State.partState_showConf : s.showConf.partState p = s.partState p := by
  have hoff := partField_off_lt p
  unfold State.showConf
  extract_lets l m
  exact (State.fld_setFld_page _ _ _ _ (by decide) hoff (by simp)).trans ((State.fld_wr_page _ hoff _ (by decide) (by simp)).trans
    (s.fld_wr_page hoff _ (by decide) (by simp)))

theorem State.partState_bump {off n : Nat} (h : off + 4 < 0x150) : (s.bump .flt off n).partState p = s.partState p := by
  have hpast := partField_past p
  exact State.fld_bump_ne (by omega) (by omega)

/-- The report of a partition held. -/
def State.reportScrub (s : State) (p : Part) : State :=
  match s.part? p with | some x => s.emit (.scrubReport p (imgNat x.sliceDesc 0 2)) | none => s

theorem State.reportScrub_mem : (s.reportScrub p).mem = s.mem := by
  unfold State.reportScrub
  split
  · exact s.emit_mem _
  · rfl

theorem State.partCleared_eq : s.partCleared p =
    ((((((s.reportScrub p).setPart p none).setPartState p ptCLEARED).showConf).bump .flt C.FLT_PART_CLR 1).showVf p).notifyPart p := rfl

theorem State.partState_partCleared : (s.partCleared p).partState p = ptCLEARED := by
  rw [State.partCleared_eq, State.partState_notifyPart, State.partState_showVf, State.partState_bump _ _ (by decide), State.partState_showConf,
    State.partState_setPartState _ _ (by decide)]

theorem State.partQ_partCleared : (s.partCleared p).part? p = none := by
  refine (State.partQ_congr (u := (s.reportScrub p).setPart p none) ?_ p).trans (State.partQ_setPart_self _ _ _)
  rw [State.partCleared_eq, State.notifyPart_parts, State.showVf_parts, State.bump_parts, State.showConf_parts, State.setPartState_parts]

theorem State.partCleared_mem : (s.partCleared p).mem = s.mem := by
  have hnotify (t : State) : (t.notifyPart p).mem = t.mem := State.mem_of_ground (State.ground_blind.notify t _ _ _)
  have hconf (t : State) : t.showConf.mem = t.mem := by simp [State.showConf]
  rw [State.partCleared_eq, hnotify, State.showVf, State.setFld_mem, State.setFld_mem, State.setFld_mem, State.bump_mem, hconf, State.setPartState_mem,
    State.setPart_mem, State.reportScrub_mem]

end

/-! A die's part of a scrub, stage by stage. -/

/-- The die's four ranges of the partition, freed. -/
def State.freeRanges (s : State) (c : CDie) (p : Part) : State := [0, 1, 2, 3].foldl (fun (t : State) (i : Nat) => t.freeRange c p i) s

/-- The die's Tarn of the partition, zeroed and freed. -/
def State.clearTarn (s : State) (c : CDie) (p : Part) : State := (s.tarnZero c (s.tarnAlloc c p).1 (s.tarnAlloc c p).2).setTarnPart c p (0, 0)

/-- The state without the cairns at the keys that pass. -/
def State.dropCairns (s : State) (keep : Nat → Bool) : State := { s with cairns := Store.keep keep s.cairns }

theorem State.fld_dropCairns (s : State) (keep : Nat → Bool) (q : Page) (f : Field) : (s.dropCairns keep).fld q f = s.fld q f := rfl

theorem State.scrubDie_stages (s : State) (p : Part) (c : CDie) :
    ∃ keep a, s.scrubDie p c = ((((s.freeRanges c p).clearTarn c p).dropCairns keep).setCairnRange c p 0 0).setArray c a := ⟨_, _, rfl⟩

/-- Offset `off` lies in range `i` of the partition on the die. -/
def State.inMemRange (s : State) (c : CDie) (p : Part) (off i : Nat) : Prop :=
  (s.memRange c p i).1 * memGran ≤ off ∧ off < ((s.memRange c p i).1 + (s.memRange c p i).2) * memGran

section
variable (s : State) {p q : Part} (c : CDie) {i j : Nat}

theorem State.freeRange_eq : s.freeRange c p i =
    (s.setMemRange c p i (0, 0)).memZero c ((s.memRange c p i).1 * memGran) ((s.memRange c p i).2 * memGran) := rfl

theorem State.memRange_freeRange_self : (s.freeRange c p i).memRange c p i = (0, 0) := by
  obtain ⟨hbase, hsize⟩ := s.fld_setFld_pair (.mem c) (lo := F.MEM_RANGE_BASE (4 * p.val + i)) (hi := F.MEM_RANGE_SIZE (4 * p.val + i)) 0 0 (Nat.le_refl 10)
    (show 20 ≤ 32 by decide)
  rw [State.freeRange_eq, State.memZero_memRange]
  exact Prod.ext hbase hsize

/-- Another range stands in another word. -/
theorem State.memRange_freeRange_ne (h : 4 * p.val + i ≠ 4 * q.val + j) : (s.freeRange c p i).memRange c q j = s.memRange c q j := by
  have hoff : 0x400 + 4 * (4 * p.val + i) ≠ 0x400 + 4 * (4 * q.val + j) := by omega
  have hkeep (f : Field) (hf : f.off = 0x400 + 4 * (4 * q.val + j)) : (s.setMemRange c p i (0, 0)).fld (.mem c) f = s.fld (.mem c) f :=
    (State.fld_setFld_off _ _ _ _ _ (hf ▸ hoff)).trans (State.fld_setFld_off _ _ _ _ _ (hf ▸ hoff))
  rw [State.freeRange_eq, State.memZero_memRange]
  exact Prod.ext (hkeep (F.MEM_RANGE_BASE _) rfl) (hkeep (F.MEM_RANGE_SIZE _) rfl)

/-- The granules of the range read zero, and no other byte of the die changes. -/
theorem State.memByte_freeRange (off : Nat) [Decidable (s.inMemRange c p off i)] :
    (s.freeRange c p i).memByte c off = if s.inMemRange c p off i then 0 else s.memByte c off := by
  rw [State.freeRange_eq, State.memByte_memZero]
  refine ite_congr (propext ?_) (fun _ => rfl) fun _ => ?_
  · simp only [memKey, State.inMemRange, Nat.add_mul]
    omega
  · simp only [State.setMemRange, State.setFld_memByte]

theorem State.inMemRange_freeRange_ne (off : Nat) (h : j ≠ i) : (s.freeRange c p j).inMemRange c p off i ↔ s.inMemRange c p off i := by
  rw [State.inMemRange, s.memRange_freeRange_ne c (by omega)]
  rfl

theorem State.memByte_foldl_freeRange_in {l : List Nat} {off : Nat} (hl : l.Nodup) (h : (i ∈ l ∧ s.inMemRange c p off i) ∨ s.memByte c off = 0) :
    (l.foldl (fun (t : State) (i : Nat) => t.freeRange c p i) s).memByte c off = 0 := by
  classical
  induction l generalizing s with
  | nil => exact h.resolve_left fun hin => absurd hin.1 List.not_mem_nil
  | cons j l ih =>
    obtain ⟨hj, hl⟩ := List.nodup_cons.1 hl
    refine ih _ hl ?_
    rcases h with ⟨hi, hin⟩ | hzero
    · rcases List.mem_cons.1 hi with rfl | hi
      · exact .inr (by rw [State.memByte_freeRange, if_pos hin])
      · exact .inl ⟨hi, (s.inMemRange_freeRange_ne c off fun he : j = i => hj (he ▸ hi)).2 hin⟩
    · exact .inr (by rw [State.memByte_freeRange, hzero, ite_self])

theorem State.memByte_foldl_freeRange_out {l : List Nat} {off : Nat} (hl : l.Nodup) (h : ∀ i ∈ l, ¬ s.inMemRange c p off i) :
    (l.foldl (fun (t : State) (i : Nat) => t.freeRange c p i) s).memByte c off = s.memByte c off := by
  classical
  induction l generalizing s with
  | nil => rfl
  | cons j l ih =>
    obtain ⟨hj, hl⟩ := List.nodup_cons.1 hl
    have hout : ∀ i ∈ l, ¬ (s.freeRange c p j).inMemRange c p off i := fun i hi hin =>
      h i (List.mem_cons_of_mem _ hi) ((s.inMemRange_freeRange_ne c off fun he : j = i => hj (he ▸ hi)).1 hin)
    exact (ih _ hl hout).trans (by rw [State.memByte_freeRange, if_neg (h j List.mem_cons_self)])

/-- What freeing each range keeps, freeing the four keeps. -/
theorem State.freeRanges_keeps {β : Type} {g : State → β} (h : ∀ (t : State) (i : Nat), i < 4 → g (t.freeRange c p i) = g t) : g (s.freeRanges c p) = g s :=
  (h _ 3 (by decide)).trans ((h _ 2 (by decide)).trans ((h _ 1 (by decide)).trans (h s 0 (by decide))))

theorem State.memRange_freeRanges_self (hi : i < 4) : (s.freeRanges c p).memRange c p i = (0, 0) :=
  (foldl_once (fun (t : State) (i : Nat) => t.freeRange c p i) (fun t => t.memRange c p i) (fun _ => (0, 0)) i (fun t => t.memRange_freeRange_self c)
    (fun t j hj => t.memRange_freeRange_ne c (by omega)) (by decide) s).trans (if_pos (by simp; omega))

theorem State.memRange_freeRanges_ne (hi : i < 4) (h : q ≠ p) : (s.freeRanges c p).memRange c q i = s.memRange c q i := by
  have hpq : p.val ≠ q.val := fun he => h (Fin.ext he.symm)
  exact s.freeRanges_keeps (g := fun t => t.memRange c q i) c fun t j hj => t.memRange_freeRange_ne c (by omega)

omit s in
theorem State.tarnAlloc_congr {s t : State} (h : ∀ f : Field, f.off < 0x1000 → t.fld (.trn c) f = s.fld (.trn c) f) : t.tarnAlloc c p = s.tarnAlloc c p := by
  have hoff := part_off_lt p
  exact Prod.ext (congrArg (· * tarnGran) (h (F.TRN_PART_BASE p.val) hoff)) (congrArg (· * tarnGran) (h (F.TRN_PART_SIZE p.val) hoff))

theorem State.tarnAlloc_freeRanges : (s.freeRanges c p).tarnAlloc c p = s.tarnAlloc c p :=
  State.tarnAlloc_congr c fun f hf => s.freeRanges_keeps (g := fun t => t.fld (.trn c) f) c fun t j hj => by
    have hoff : 0x400 + 4 * (4 * p.val + j) < 0x1000 := by omega
    exact (State.memZero_fld _ _ _ _ _ _).trans ((State.fld_setFld_page _ _ _ _ hoff hf (by simp)).trans (t.fld_setFld_page _ _ _ hoff hf (by simp)))

/-- What the rest of a die's scrub leaves of memory and its ranges. -/
theorem State.memByte_scrubDie (off : Nat) : (s.scrubDie p c).memByte c off = (s.freeRanges c p).memByte c off := by
  obtain ⟨keep, a, h⟩ := s.scrubDie_stages p c
  have hdrop (t : State) : (t.dropCairns keep).memByte c off = t.memByte c off := rfl
  rw [h, State.setArray_memByte, State.setCairnRange, State.setFld_memByte, State.setFld_memByte, hdrop, State.clearTarn, State.setTarnPart,
    State.setFld_memByte, State.setFld_memByte, State.tarnZero_memByte]

theorem State.memRange_scrubDie (hi : i < 4) : (s.scrubDie p c).memRange c q i = (s.freeRanges c p).memRange c q i := by
  obtain ⟨keep, a, h⟩ := s.scrubDie_stages p c
  have hoff : 0x400 + 4 * (4 * q.val + i) < 0x1000 := by omega
  have hfld {f : Field} (hf : f.off < 0x1000) : (s.scrubDie p c).fld (.mem c) f = (s.freeRanges c p).fld (.mem c) f := by
    rw [h, State.setArray_fld, State.fld_setCairnRange_page _ _ hf (by simp), State.fld_dropCairns, State.clearTarn,
      State.fld_setTarnPart_page _ hf (by simp), State.tarnZero_fld]
  exact Prod.ext (hfld hoff) (hfld hoff)

theorem State.tarnAlloc_setTarnPart_none : (s.setTarnPart c p (0, 0)).tarnAlloc c p = (0, 0) := by
  obtain ⟨hbase, hsize⟩ := s.fld_setFld_pair (.trn c) (lo := F.TRN_PART_BASE p.val) (hi := F.TRN_PART_SIZE p.val) 0 0 (Nat.le_refl 12) (show 25 ≤ 32 by decide)
  simp [State.tarnAlloc, State.setTarnPart, hbase, hsize]

theorem State.tarnAlloc_scrubDie : (s.scrubDie p c).tarnAlloc c p = (0, 0) := by
  obtain ⟨keep, a, h⟩ := s.scrubDie_stages p c
  have hfld (f : Field) (hf : f.off < 0x1000) : (s.scrubDie p c).fld (.trn c) f = ((s.freeRanges c p).clearTarn c p).fld (.trn c) f := by
    rw [h, State.setArray_fld, State.fld_setCairnRange_page _ _ hf (by simp), State.fld_dropCairns]
  exact (State.tarnAlloc_congr c hfld).trans (State.tarnAlloc_setTarnPart_none _ c)

theorem State.cairnRange_scrubDie : (s.scrubDie p c).cairnRange c p = (0, 0) := by
  obtain ⟨keep, a, h⟩ := s.scrubDie_stages p c
  obtain ⟨hbase, hsize⟩ := (((s.freeRanges c p).clearTarn c p).dropCairns keep).fld_setFld_pair (.crn c)
    (lo := F.CRN_PART_BASE p.val) (hi := F.CRN_PART_SIZE p.val) 0 0 (Nat.le_refl 13) (show 27 ≤ 32 by decide)
  rw [h, State.setArray_cairnRange, State.cairnRange, State.setCairnRange]
  exact Prod.ext hbase hsize

theorem State.tarnByte_scrubDie {off : Nat} (hlo : (s.tarnAlloc c p).1 ≤ off) (hhi : off < (s.tarnAlloc c p).1 + (s.tarnAlloc c p).2) :
    (s.scrubDie p c).tarnByte c off = 0 := by
  obtain ⟨keep, a, h⟩ := s.scrubDie_stages p c
  have hdrop (t : State) : (t.dropCairns keep).tarnByte c off = t.tarnByte c off := rfl
  rw [h, State.setArray_tarnByte, State.setCairnRange, State.setFld_tarnByte, State.setFld_tarnByte, hdrop, State.clearTarn, State.setTarnPart,
    State.setFld_tarnByte, State.setFld_tarnByte, State.tarnByte_tarnZero, State.tarnAlloc_freeRanges, if_pos]
  unfold tarnKey
  omega

end

/-- Settles O41: each clause is the rule above for its command or for a die's scrub. -/
theorem recordsSettleAndScrubsClear : Obligations.RecordsSettleAndScrubsClear := by
  refine ⟨fun s p v hon => ⟨fun hv h => run_of_eq hon (fltAck_of_held hv h), fun h => run_of_eq hon (fltAck_of_none h)⟩,
    fun s p => ⟨fun hack hq => ⟨State.valid_settleRecord hack hq, State.faulted_settleRecord hack hq⟩, State.settleRecord_of_waits⟩,
    fun s p hon => run_on hon,
    fun s p hon hub => ⟨run_of_eq hon (scrubComplete_of_stopped hub), run_of_eq hon (quietExpire_of_stopped hub)⟩,
    fun s p x hon hub hx hst => ⟨fun hscr => run_of_eq hon (quietExpire_of_scrubbed hub hst hx hscr),
      fun hscr => run_of_eq hon (quietExpire_of_unscrubbed hx hscr), fun hscr hbusy =>
        ⟨fun hq => run_of_eq hon (scrubComplete_of_quiet hub hx hst hscr hbusy hq), fun hq => run_of_eq hon (scrubComplete_of_waits hub hx hst hscr hbusy hq)⟩⟩,
    fun s p hon hst hbusy hub => run_of_eq hon (scrubStart_of_ended hst hbusy hub), fun s p hs h => run_same hs (scrubStart_of_not h),
    fun s p => ⟨s.partState_partCleared p, s.partQ_partCleared p, s.partCleared_mem p⟩, fun s p c i off hi hlo hhi _ => ?zeroed, fun s p c off h _ => ?kept,
    fun s p c i off hi => ⟨?freed, s.tarnAlloc_scrubDie c, s.cairnRange_scrubDie c, s.tarnByte_scrubDie c⟩, fun s p q c i hi hq => ?others⟩
  case zeroed =>
    rw [State.memByte_scrubDie]
    exact s.memByte_foldl_freeRange_in c (by decide) (.inl ⟨by simp; omega, hlo, hhi⟩)
  case kept =>
    rw [State.memByte_scrubDie]
    refine s.memByte_foldl_freeRange_out c (by decide) fun i hi hin => ?_
    rcases h i (by simp at hi; omega) with hlt | hge
    · exact absurd hin.1 (Nat.not_le.2 hlt)
    · exact absurd hin.2 (Nat.not_lt.2 hge)
  case freed => exact (s.memRange_scrubDie c hi).trans (s.memRange_freeRanges_self c hi)
  case others => exact (s.memRange_scrubDie c hi).trans (s.memRange_freeRanges_ne c hi hq)

end Sys2Proof.Machine
end

section
/-! Recovery, the watchdog and injection (13 R509, R510, R512, R513, R516, R517). -/

namespace Sys2Proof.Machine

/-! Recovery. -/

section
variable {s : State} {t : SelfTest} {b : Bool}

theorem recoveryStart_of_not (h : s.fld .flt F.FLT_STATE_STATE ≠ hubSAFE ∨ b = true) : recoveryStart b s = s := if_pos (by simpa using h)

/-- The state with THERMTRIP_N released. -/
def State.releaseTrip (s : State) : State := { s with thermtrip := false }

theorem recoveryStart_of_safe (hub : s.fld .flt F.FLT_STATE_STATE = hubSAFE) : recoveryStart false s =
    if 3 ≤ s.recentRecoveries.length then s.releaseTrip.setFld .flt F.FLT_STATE_STATE hubLOCKED else s.releaseTrip.recover s.recentRecoveries :=
  if_neg (by simp [hub])

theorem recoveryStart_of_often (hub : s.fld .flt F.FLT_STATE_STATE = hubSAFE) (h : 3 ≤ s.recentRecoveries.length) :
    recoveryStart false s = s.releaseTrip.setFld .flt F.FLT_STATE_STATE hubLOCKED := by rw [recoveryStart_of_safe hub, if_pos h]

theorem recoveryStart_of_seldom (hub : s.fld .flt F.FLT_STATE_STATE = hubSAFE) (h : s.recentRecoveries.length < 3) :
    recoveryStart false s = s.releaseTrip.recover s.recentRecoveries := by rw [recoveryStart_of_safe hub, if_neg (Nat.not_le.2 h)]

theorem recoveryComplete_of_not (h : s.fld .flt F.FLT_STATE_STATE ≠ hubRECOVERING) : recoveryComplete t s = s := if_pos (by simpa using h)

theorem recoveryComplete_of_recovering (h : s.fld .flt F.FLT_STATE_STATE = hubRECOVERING) : recoveryComplete t s = s.recovered t := if_neg (by simp [h])

end

/-! A scrub clears what partitions had, and leaves which are held. -/

section
variable (s : State) (p : Part)

theorem State.scrubDie_parts (c : CDie) : (s.scrubDie p c).parts = s.parts := by
  obtain ⟨keep, a, h⟩ := s.scrubDie_stages p c
  have hdrop (t : State) : (t.dropCairns keep).parts = t.parts := rfl
  have hranges : (s.freeRanges c p).parts = s.parts :=
    s.freeRanges_keeps (g := State.parts) c fun t i _ => by simp [State.freeRange_eq, State.setMemRange]
  rw [h, State.setArray_parts, State.setCairnRange, State.setFld_parts, State.setFld_parts, hdrop, State.clearTarn, State.setTarnPart, State.setFld_parts,
    State.setFld_parts, State.tarnZero_parts, hranges]

theorem State.unreserve_parts (x : Packet) : (s.unreserve x).parts = s.parts := rfl

theorem State.linkFreed_parts (a b : Die) (bit : Bool) (x : Packet) : (s.linkFreed a b bit x).parts = s.parts :=
  FaultBlind.ite_of_eq (g := State.parts) rfl (FaultBlind.ite_of_eq rfl (State.setFld_parts _ _ _ _))

theorem State.discard_parts (d : Die) (c : Came) (x : Packet) (why : Cause) : (s.discard d c x why).parts = s.parts := by
  unfold State.discard
  extract_lets counted released
  have hcounted : counted.parts = s.parts := s.bump_parts _ _ _
  have hreleased : released.parts = s.parts := FaultBlind.ite_of_eq (g := State.parts) ((counted.unreserve_parts x).trans hcounted) hcounted
  split
  · exact (State.updTel_parts _ _ _).trans hreleased
  · exact hreleased

theorem State.freeInput_parts (d : Die) (c : Came) (x : Packet) (res shr : Nat) : (s.freeInput d c x res shr).parts = s.parts := by
  unfold State.freeInput
  split
  · rfl
  · exact s.updPort_parts _ _
  · exact FaultBlind.ite_of_eq (g := State.parts) ((State.unreserve_parts _ _).trans (s.linkFreed_parts _ _ _ _)) (s.linkFreed_parts _ _ _ _)

theorem State.dropTransit_parts (x : Transit) (why : Cause) : (s.dropTransit x why).parts = s.parts := by
  have hfreed (t : State) : ((t.discard x.die x.came x.inp why).freeInput x.die x.came x.inp x.res x.shr).parts = t.parts :=
    (State.freeInput_parts _ _ _ _ _ _).trans (t.discard_parts _ _ _ _)
  exact FaultBlind.ite_of_eq (hfreed _) ((State.setFld_parts _ _ _ _).trans (hfreed _))

theorem State.scrub_parts : (s.scrub p).parts = s.parts := by
  unfold State.scrub
  extract_lets dies retired dropped ended keyless x cleared
  have hdies : dies.parts = s.parts := foldl_keeps (g := State.parts) (fun t c => t.scrubDie_parts p c) allCDies s
  have hretired : retired.parts = s.parts := (foldl_keeps (g := State.parts) (fun t r => t.retire_parts r) _ dies).trans hdies
  have hdropped : dropped.parts = s.parts := (foldl_keeps (g := State.parts) (fun t x => t.dropTransit_parts x _) _ retired).trans hretired
  have hended : ended.parts = s.parts := Eq.trans rfl hdropped
  rw [State.resetChan, State.setChan_parts]
  exact (State.setChan_parts _ _ _).trans ((ended.wr_parts _ _).trans hended)

theorem State.partQ_setPart_ne {q : Part} (h : q ≠ p) (x : Option PartSt) : (s.setPart q x).part? p = s.part? p := by
  unfold State.part? State.setPart
  exact Store.get_set_ne _ _ (Fin.val_ne_of_ne h) _

/-- A partition gone: scrubbed where it was held, its number NORMAL again. -/
def State.dropPart (s : State) (p : Part) : State := (((if (s.part? p).isSome then s.scrub p else s).setPart p none).setPartState p ptNORMAL).showVf p

theorem State.dropPart_parts : (s.dropPart p).parts = (s.setPart p none).parts := by
  have hscrub : (if (s.part? p).isSome then s.scrub p else s).parts = s.parts := FaultBlind.ite_of_eq (s.scrub_parts p) rfl
  rw [State.dropPart, State.showVf_parts, State.setPartState_parts]
  exact congrArg (fun l => Store.set (fun _ => none) l p.val none) hscrub

theorem State.partQ_dropPart_ne {q : Part} (h : q ≠ p) : (s.dropPart q).part? p = s.part? p :=
  (State.partQ_congr (s.dropPart_parts q) p).trans (s.partQ_setPart_ne p h none)

theorem State.partQ_dropPart_self : (s.dropPart p).part? p = none := (State.partQ_congr (s.dropPart_parts p) p).trans (s.partQ_setPart_self p none)

/-- The state without quiet periods of partitions, and without a distribution. -/
def State.dropQuiet (s : State) : State := { s with quietParts := [], dist := none }

theorem State.dropQuiet_parts : s.dropQuiet.parts = s.parts := rfl

theorem State.clearAllParts_eq : s.clearAllParts = ((List.finRange 64).foldl State.dropPart s).dropQuiet.showConf := rfl

theorem State.partQ_clearAllParts : s.clearAllParts.part? p = none := by
  have hfold : ((List.finRange 64).foldl State.dropPart s).part? p = none :=
    (foldl_once State.dropPart (fun t => t.part? p) (fun _ => none) p (fun t => t.partQ_dropPart_self p) (fun t q h => t.partQ_dropPart_ne p h)
      (List.nodup_finRange 64) s).trans (if_pos (List.mem_finRange p))
  exact (State.partQ_congr ((State.showConf_parts _).trans (State.dropQuiet_parts _)) p).trans hfold

theorem State.dist_clearAllParts : s.clearAllParts.dist = none := by
  rw [State.clearAllParts_eq, State.showConf, State.setFld_dist, State.wr_dist, State.wr_dist]
  rfl

theorem State.quietParts_clearAllParts : s.clearAllParts.quietParts = [] := by
  rw [State.clearAllParts_eq, State.showConf, State.setFld_quietParts, State.wr_quietParts, State.wr_quietParts]
  rfl

end

/-! The watchdog. -/

section
variable {s : State} {v : Word}

/-- What every expiry of the watchdog does: the miss counted, a C1 fault, and a management reset. -/
def State.missKick (s : State) : State :=
  ((s.setFld .flt F.FLT_WDOG_MISSES (min 4 (s.fld .flt F.FLT_WDOG_MISSES + 1))).raise .flt 0x100 1 {}).mgmtReset 1

theorem watchdogExpire_of_enabled (hen : s.flag .flt F.FLT_WDOG_EN = true) (hmc : s.mcReset = false) : watchdogExpire s =
    if min 4 (s.fld .flt F.FLT_WDOG_MISSES + 1) = 4 then s.missKick.raise .flt 0x101 4 {} else s.missKick := if_neg (by simp [hen, hmc])

theorem watchdogExpire_of_few (hen : s.flag .flt F.FLT_WDOG_EN = true) (hmc : s.mcReset = false) (h : s.fld .flt F.FLT_WDOG_MISSES < 3) :
    watchdogExpire s = s.missKick := by rw [watchdogExpire_of_enabled hen hmc, if_neg (by omega)]

theorem watchdogExpire_of_fourth (hen : s.flag .flt F.FLT_WDOG_EN = true) (hmc : s.mcReset = false) (h : 3 ≤ s.fld .flt F.FLT_WDOG_MISSES) :
    watchdogExpire s = s.missKick.raise .flt 0x101 4 {} := by rw [watchdogExpire_of_enabled hen hmc, if_pos (by omega)]

theorem watchdogExpire_of_off (h : s.flag .flt F.FLT_WDOG_EN = false ∨ s.mcReset = true) : watchdogExpire s = s := if_pos (by simpa using h)

end

/-! INJ_CTRL. -/

section
variable {s : State} {p : Page} {v : Word}

/-- INJ_CTRL with the fields that `v` gives, armed or not. -/
def State.setInj (s : State) (p : Page) (v : Word) (on : Nat) : State :=
  (((s.setFld p F.INJ_CTRL_CHECKER (bits v.toNat 3 0)).setFld p F.INJ_CTRL_MODE (bits v.toNat 5 4)).setFld p F.INJ_CTRL_WEIGHT (bits v.toNat 7 6)).setFld p
    F.INJ_CTRL_ARMED on

/-- A mode that arms, as the model decides it. -/
def injArms (v : Word) : Bool := bits v.toNat 5 4 == 1 || bits v.toNat 5 4 == 2

theorem injArms_iff : injArms v = true ↔ bits v.toNat 5 4 = 1 ∨ bits v.toNat 5 4 = 2 := by simp [injArms]

/-- Arming is refused: a partition is confidential, or page parity is not enabled. -/
def State.injRefused (s : State) (v : Word) : Bool :=
  (List.finRange 64).any (fun x => s.isConf x) || (c4Checker (bits v.toNat 3 0) && !(s.flag .flt F.FLT_CFG_INJ_C4_EN))

theorem State.injRefused_iff : s.injRefused v = true ↔ (∃ x, s.isConf x = true) ∨ (bits v.toNat 3 0 = 15 ∧ s.flag .flt F.FLT_CFG_INJ_C4_EN = false) := by
  simp [State.injRefused, c4Checker]

/-- A write that clears neither FIRED nor REFUSED. -/
theorem injCtrlWrite_eq (hfired : v.getLsbD 9 = false) (hrefused : v.getLsbD 10 = false) : injCtrlWrite p v s =
    if injArms v && s.injRefused v then s.setFld p F.INJ_CTRL_REFUSED 1
    else if injArms v && bits v.toNat 3 0 = 15 then ((s.setInj p v (injArms v).toNat).injFired p).raise p 0x001 4 {} true else s.setInj p v (injArms v).toNat := by
  unfold injCtrlWrite
  rw [hfired, hrefused]
  rfl

section
variable (hfired : v.getLsbD 9 = false) (hrefused : v.getLsbD 10 = false)
include hfired hrefused

theorem injCtrlWrite_of_off (h : injArms v = false) : injCtrlWrite p v s = s.setInj p v 0 := by
  rw [injCtrlWrite_eq hfired hrefused, h]
  rfl

theorem injCtrlWrite_of_refused (h : injArms v = true) (href : s.injRefused v = true) : injCtrlWrite p v s = s.setFld p F.INJ_CTRL_REFUSED 1 := by
  rw [injCtrlWrite_eq hfired hrefused, h, href]
  rfl

theorem injCtrlWrite_of_armed (h : injArms v = true) (href : s.injRefused v = false) (hck : bits v.toNat 3 0 ≠ 15) : injCtrlWrite p v s = s.setInj p v 1 := by
  rw [injCtrlWrite_eq hfired hrefused, h, href, if_neg (by decide), if_neg (by simp [hck])]
  rfl

theorem injCtrlWrite_of_parity (h : injArms v = true) (href : s.injRefused v = false) (hck : bits v.toNat 3 0 = 15) :
    injCtrlWrite p v s = ((s.setInj p v 1).injFired p).raise p 0x001 4 {} true := by
  rw [injCtrlWrite_eq hfired hrefused, h, href, if_neg (by decide), if_pos (by simp [hck])]
  rfl

end

theorem State.injFired_of_oneShot (h : s.fld p F.INJ_CTRL_MODE = 1) : s.injFired p = (s.setFld p F.INJ_CTRL_FIRED 1).setFld p F.INJ_CTRL_ARMED 0 := if_pos h

theorem State.injFired_of_other (h : s.fld p F.INJ_CTRL_MODE ≠ 1) : s.injFired p = s := if_neg h

theorem State.injFired_fired (h : s.fld p F.INJ_CTRL_MODE = 1) : (s.injFired p).flag p F.INJ_CTRL_FIRED = true := by
  rw [State.injFired_of_oneShot h, State.flag_setFld_other _ _ _ _ _ (by decide), State.flag_setFld _ _ _ _ (by decide)]
  rfl

theorem State.injFired_armed (h : s.fld p F.INJ_CTRL_MODE = 1) : (s.injFired p).flag p F.INJ_CTRL_ARMED = false := by
  rw [State.injFired_of_oneShot h, State.flag_setFld _ _ _ _ (by decide)]
  rfl

theorem State.injection_of_unarmed (h : s.flag p F.INJ_CTRL_ARMED = false) (k : Nat) : s.injection p k = none := if_neg (by simp [h])

end

/-- Settles O42: each clause is the rule above for its command, and the partitions are gone one by one. -/
theorem recoveryWatchdogAndInjection : Obligations.RecoveryWatchdogAndInjection := by
  refine ⟨fun s b hs h => run_same hs (recoveryStart_of_not h),
    fun s hon hub => ⟨fun h => run_of_eq hon (recoveryStart_of_often hub h), fun h => run_of_eq hon (recoveryStart_of_seldom hub h)⟩,
    fun s x hs h => run_same hs (recoveryComplete_of_not h), fun s x hon h => run_of_eq hon (recoveryComplete_of_recovering h),
    fun s p => ⟨s.partQ_clearAllParts p, s.dist_clearAllParts, s.quietParts_clearAllParts⟩,
    fun s hon hen hmc => ⟨fun h => run_of_eq hon (watchdogExpire_of_few hen hmc h), fun h => run_of_eq hon (watchdogExpire_of_fourth hen hmc h)⟩,
    fun s hs h => run_same hs (watchdogExpire_of_off h), fun s v hon h => run_of_eq hon (if_pos h), fun s v hs h => run_same hs (if_neg h),
    fun s p v hon hfired hrefused => ?inject, fun s p h => ⟨State.injFired_fired h, State.injFired_armed h⟩, fun s p h => State.injFired_of_other h,
    fun s p k h => State.injection_of_unarmed h k⟩
  case inject =>
    have taken (hconf : ∀ x, s.isConf x = false) (hen : bits v.toNat 3 0 = 15 → s.flag .flt F.FLT_CFG_INJ_C4_EN = true) : s.injRefused v = false := by
      refine Bool.eq_false_iff.2 fun href => ?_
      rcases State.injRefused_iff.1 href with ⟨x, hx⟩ | ⟨hck, hoff⟩
      · simp [hconf x] at hx
      · simp [hen hck] at hoff
    exact ⟨fun harms href => run_of_eq hon (injCtrlWrite_of_refused hfired hrefused (injArms_iff.2 harms) (State.injRefused_iff.2 href)),
      fun harms hconf hck => run_of_eq hon (injCtrlWrite_of_armed hfired hrefused (injArms_iff.2 harms) (taken hconf fun h => absurd h hck) hck),
      fun harms hconf hck hen => run_of_eq hon (injCtrlWrite_of_parity hfired hrefused (injArms_iff.2 harms) (taken hconf fun _ => hen) hck),
      fun harms => run_of_eq hon (injCtrlWrite_of_off hfired hrefused (Bool.eq_false_iff.2 fun h => harms (injArms_iff.1 h)))⟩

end Sys2Proof.Machine
end

section
/-! Weights and the recovery image (14 R543–R548, 15 R566): the content keys held, the requests of a partition, the pages of a WIMPORT, and the recovery loader. -/

namespace Sys2Proof.Machine

/-! The content keys (R547). -/

section
variable {s t : State} {p : Part} {o : Option WKey}

theorem State.wkey_setWkey_self (prev : Bool) : (s.setWkey p prev o).wkey p prev = o := Store.get_set_self _ _ _ _

theorem State.wkey_setWkey_ne {prev q : Bool} (h : prev ≠ q) : (s.setWkey p prev o).wkey p q = s.wkey p q := by
  have hbit : prev.toNat ≠ q.toNat := by decide +revert
  exact Store.get_set_ne _ _ (fun e => hbit (Nat.add_left_cancel e)) _

theorem State.wkey_showWkey (q : Bool) : (s.showWkey p).wkey p q = s.wkey p q := State.wr_wkey _ _ _ _ _

/-- A key that is taken becomes CURRENT, and a CURRENT key that it follows by one epoch becomes PREVIOUS. -/
theorem keyUpdate_some {cur prev pr : Option WKey} {k c : WKey} (h : keyUpdate cur prev k = some (c, pr)) :
    c = k ∧ ∀ old, cur = some old → k.epoch = old.epoch + 1 → pr = some old := by
  cases cur with
  | none =>
    obtain ⟨rfl, -⟩ := Prod.mk.inj (Option.some.inj h)
    exact ⟨rfl, fun old hold => nomatch hold⟩
  | some a =>
    simp only [keyUpdate] at h
    split at h
    next hnext =>
      obtain ⟨rfl, rfl⟩ := Prod.mk.inj (Option.some.inj h)
      exact ⟨rfl, fun old hold _ => hold⟩
    next hnext =>
      split at h
      · obtain ⟨rfl, -⟩ := Prod.mk.inj (Option.some.inj h)
        exact ⟨rfl, fun old hold he => absurd (Option.some.inj hold ▸ he) hnext⟩
      · exact nomatch h

/-- The key of a bundle: the bundle's image and epoch with the bits that its entry wraps. -/
def bundleWkey (b : List Byte) (key : BitVec 256) : WKey := ⟨BitVec.ofNat 64 (imgNat b 0 8), BitVec.ofNat 16 (imgNat b 8 2), key⟩

/-- An import that answers OK has stored the update of the keys held by the bundle's key. -/
theorem State.wkeyImport_ok {devset b : List Byte} {ks : List (BitVec 128 × BitVec 256)} (h : s.wkeyImport p devset b ks = (t, .ok)) :
    ∃ key c pr, keyUpdate (s.wkey p false) (s.wkey p true) (bundleWkey b key) = some (c, pr) ∧
      t = ((s.setWkey p false (some c)).setWkey p true pr).showWkey p := by
  simp only [State.wkeyImport] at h
  split at h
  · exact nomatch h
  next e he =>
    split at h
    · exact nomatch h
    split at h
    · exact nomatch h
    split at h
    · exact nomatch h
    next c pr hkeys => exact ⟨_, c, pr, hkeys, (Prod.mk.inj h).1.symm⟩

section
variable {e : BitVec 16} {k : WKey} (hk : s.wkey p true = some k)
include hk

theorem State.wkeyRetire_of_epoch (h : k.epoch = e) : s.wkeyRetire p e = ((s.setWkey p true none).showWkey p, true) := by
  simp only [State.wkeyRetire, hk, if_pos h]

theorem State.wkeyRetire_of_other (h : k.epoch ≠ e) : s.wkeyRetire p e = (s, false) := by
  simp only [State.wkeyRetire, hk, if_neg h]

end

end

/-! The requests of a partition (16 R606). -/

section
variable {s : State} {p : Part} {x : PartSt} {b : List Byte} {env : MsgEnv}

theorem State.vfMessage_of_inactive (h : s.part? p = none ∨ s.partState p ≠ ptNORMAL) : s.vfMessage p b env = (s, msNOT_READY, []) := by
  cases hx : s.part? p with
  | none => simp only [State.vfMessage, hx]
  | some x =>
    have hstate : s.partState p ≠ ptNORMAL := h.resolve_left (by simp [hx])
    simp only [State.vfMessage, hx, bne_iff_ne.2 hstate, if_true]

section
variable (hx : s.part? p = some x) (hp : s.partState p = ptNORMAL)
include hx hp

theorem State.vfMessage_vfInfo (ht : mType b = 0x10) :
    s.vfMessage p b env = if (mBody b).isEmpty then (s, msOK, s.vfInfo p x) else (s, msFORMAT, []) := by
  simp [State.vfMessage, hx, hp, ht]

theorem State.vfMessage_wkeyImport_short (ht : mType b = 0x12) (h : (mBody b).length ≠ 4) : s.vfMessage p b env = (s, msFORMAT, []) := by
  simp [State.vfMessage, hx, hp, ht, h]

theorem State.vfMessage_wimport_short (ht : mType b = 0x13) (h : (mBody b).length ≠ 24) : s.vfMessage p b env = (s, msFORMAT, []) := by
  simp [State.vfMessage, hx, hp, ht, h]

end

end

/-! The pages of a WIMPORT (R545, R548). -/

/-- A key fits a page: it is of the page's epoch and image. -/
def WKey.fits (k : WKey) (page : List Byte) : Prop := k.epoch = BitVec.ofNat 16 (imgNat page 12 2) ∧ k.image = BitVec.ofNat 64 (imgNat page 0 8)

/-- The same as the model's engine decides it. -/
theorem WKey.fits_iff {k : WKey} {page : List Byte} :
    (k.epoch == BitVec.ofNat 16 (imgNat page 12 2) && k.image == BitVec.ofNat 64 (imgNat page 0 8)) = true ↔ k.fits page := by simp [WKey.fits]

section
variable {s u : State} {c : CDie} {p : Part} {src dst : Nat} {o : Obs} {page : List Byte}

section
variable (hread : s.readBoard c { part := some p } p src 65600 o = (u, .ok, page))
include hread

theorem State.importPage_of_unfit (h : ∀ q k, u.wkey p q = some k → ¬k.fits page) :
    s.importPage c p src dst o = (u, if (u.wkey p false).isNone && (u.wkey p true).isNone then .noKey else .epoch) := by
  have hnone (q : Bool) : (u.wkey p q).filter (fun k => k.epoch == BitVec.ofNat 16 (imgNat page 12 2) && k.image == BitVec.ofNat 64 (imgNat page 0 8)) = none :=
    Option.filter_eq_none_iff.2 fun k hk hfit => h q k hk (WKey.fits_iff.1 hfit)
  simp only [State.importPage, hread, hnone]

/-- The page under CURRENT: its plaintext is written only when the tag verifies. -/
theorem State.importPage_of_fit {k : WKey} (hk : u.wkey p false = some k) (hfit : k.fits page) :
    let iv : BitVec 96 := BitVec.ofNat 96 (imgNat page 8 4)
    let pt := Config.gcmCrypt k.key iv (page.drop 64)
    let w := u.writeBoard c { part := some p } p dst pt o
    s.importPage c p src dst o =
      if (Config.gcmTag k.key iv (page.take 48) pt).toNat != imgNat page 48 16 then
        ((u.bump .sec C.SEC_IMPORT_AUTH_FAIL 1).raise .sec 0x101 2 { part := some p }, .auth)
      else (w.1, if w.2 = .ok then .ok else .range) := by
  have hsome : (u.wkey p false).filter (fun k => k.epoch == BitVec.ofNat 16 (imgNat page 12 2) && k.image == BitVec.ofNat 64 (imgNat page 0 8)) = some k := by
    rw [hk, Option.filter_some, if_pos (WKey.fits_iff.2 hfit)]
  simp only [State.importPage, hread, hsome]

end

theorem State.importPages_of_failed {n done : Nat} {st : ImpStatus} (h : s.importPage c p (src + 65600 * done) (dst + 65536 * done) o = (u, st)) (hst : st ≠ .ok) :
    s.importPages c p src dst o (n + 1) done = (u, st, done) := by
  simp only [State.importPages, h]

theorem State.wimport_of_outside {x : PartSt} {n : Nat} (h : s.inWeights p x dst (65536 * n) = false) : s.wimport p x c n src dst o = (s, .range, 0) :=
  if_pos (by simp [h])

end

/-! The recovery loader (15 R566). -/

section
variable {s : State} {b : List Byte} {env : MsgEnv}

theorem State.rcvMessage_begin (ht : mType b = 0x20) (hlen : (mBody b).length = 4) (hsize : imgNat (mBody b) 0 4 ≤ 0x1000000) :
    s.rcvMessage b env = ({ s with rcv := some (imgNat (mBody b) 0 4) }, msOK, []) := by
  simp [State.rcvMessage, ht, hlen, Nat.not_lt.2 hsize]

theorem State.rcvMessage_data (ht : mType b = 0x21) (hlen : (mBody b).length ≤ 240) (hend : mArg b + (mBody b).length ≤ 0x1000000) :
    s.rcvMessage b env = if s.rcv.isNone then (s, msREFUSED, []) else
      ({ s with flash := Store.setList (fun _ => 0) s.flash (mArg b) (mBody b) }, msOK, []) := by
  simp [State.rcvMessage, ht, Nat.not_lt.2 hlen, Nat.not_lt.2 hend]

theorem State.rcvMessage_end_unopened (ht : mType b = 0x22) (hbody : mBody b = []) (hrcv : s.rcv = none) : s.rcvMessage b env = (s, msREFUSED, []) := by
  simp [State.rcvMessage, ht, hbody, hrcv]

/-- Outside phase RECOVERY no transport carries the loader's messages. -/
theorem State.carries_of_normal {v : Via} {t : Nat} (h : s.boot.phase ≠ phRECOVERY) (ht : t = 0x20 ∨ t = 0x21 ∨ t = 0x22) : s.carries v t = false := by
  have htype : t ≠ 1 ∧ ¬t ≤ 0x14 ∧ t ≠ 0x30 ∧ t ≠ 0x31 := by omega
  obtain ⟨hboot, hvf, hchal, htoken⟩ := htype
  cases v with
  | mbx k => simp [State.carries, h, hboot, hvf]
  | mctp net e => simp [State.carries, h, hboot, hchal, htoken]
  | doe => rfl

end

/-- Settles O44: each clause is the rule above for its request, its page, its key or its image. -/
theorem weightsAndImagesNeedTheirProof : Obligations.WeightsAndImagesNeedTheirProof := by
  refine ⟨fun s p x b env hx hp => ⟨fun ht hb => (State.vfMessage_vfInfo hx hp ht).trans (if_pos (by simp [hb])),
      fun ht hb => (State.vfMessage_vfInfo hx hp ht).trans (if_neg (by simpa using hb)), State.vfMessage_wimport_short hx hp, State.vfMessage_wkeyImport_short hx hp⟩,
    fun s p b env h => State.vfMessage_of_inactive h, fun s u c p src dst o page hread => ⟨fun hcur hprev => ?noKey, fun hno hheld => ?epoch, fun k hk hfit => ?page⟩,
    fun s p x c n src dst o h => State.wimport_of_outside h, fun s u c p src dst o n done st h hst => State.importPages_of_failed h hst,
    fun s t p devset b ks h => ?imported, fun s p e k hk => ?retired, fun s b env ht hlen hsize => State.rcvMessage_begin ht hlen hsize,
    fun s b env ht hlen hend => ⟨fun hrcv => (State.rcvMessage_data ht hlen hend).trans (if_pos (by simp [hrcv])),
      fun hrcv => (State.rcvMessage_data ht hlen hend).trans (if_neg (by simpa using hrcv))⟩,
    fun s b env ht hbody hrcv => State.rcvMessage_end_unopened ht hbody hrcv, fun s v t h ht => State.carries_of_normal h ht⟩
  case noKey =>
    have hunfit (q : Bool) (k : WKey) (hk : u.wkey p q = some k) : ¬k.fits page := by
      cases q
      · exact nomatch hcur.symm.trans hk
      · exact nomatch hprev.symm.trans hk
    rw [State.importPage_of_unfit hread hunfit, hcur, hprev]
    rfl
  case epoch =>
    rw [State.importPage_of_unfit hread hno, if_neg]
    intro hnone
    obtain ⟨hcur, hprev⟩ := Bool.and_eq_true_iff.1 hnone
    obtain ⟨q, hq⟩ := hheld
    cases q
    · exact hq (Option.isNone_iff_eq_none.1 hcur)
    · exact hq (Option.isNone_iff_eq_none.1 hprev)
  case page =>
    have hpage := State.importPage_of_fit (dst := dst) hread hk hfit
    exact ⟨fun htag => hpage.trans (if_pos (bne_iff_ne.2 htag)), fun htag => congrArg Prod.fst (hpage.trans (if_neg (by simpa using htag)))⟩
  case imported =>
    obtain ⟨key, c, pr, hkeys, rfl⟩ := State.wkeyImport_ok h
    obtain ⟨rfl, hmoved⟩ := keyUpdate_some hkeys
    refine ⟨bundleWkey b key, ?_, rfl, rfl, fun old hold he => ?_⟩
    · rw [State.wkey_showWkey, State.wkey_setWkey_ne (by decide), State.wkey_setWkey_self]
    · rw [State.wkey_showWkey, State.wkey_setWkey_self, hmoved old hold he]
  case retired =>
    by_cases he : k.epoch = e
    · rw [State.wkeyRetire_of_epoch hk he]
      refine ⟨(decide_eq_true he).symm, fun _ => ⟨?_, ?_⟩, fun hne => absurd he hne⟩
      · rw [State.wkey_showWkey, State.wkey_setWkey_self]
      · rw [State.wkey_showWkey, State.wkey_setWkey_ne (by decide)]
    · rw [State.wkeyRetire_of_other hk he]
      exact ⟨(decide_eq_false he).symm, fun h => absurd h he, fun _ => rfl⟩

end Sys2Proof.Machine
end

section
/-! Debug and measurements (14 R534, R549, R550, R556): what a challenge and a relock leave, what a token needs and does, and how measurements are answered. -/

namespace Sys2Proof.Machine

section
variable {s : State} {b : List Byte} {x y : Bool}

/-- A new challenge replaces the words of SEC_DBG_CHAL and takes free values: what neither changes, it keeps. -/
theorem State.newChallenge_keeps {β : Type} {g : State → β} (hfree : ∀ (t : State) (n : Nat), g { t with freeCtr := n } = g t)
    (hwr : ∀ (t : State) (i : Nat) (v : Word), g (t.wr (Page.base .sec + 0x110 + 4 * i) v) = g t) : g s.newChallenge = g s := by
  rw [State.newChallenge, foldl_keeps fun t i => hwr t i _]
  exact hfree s (s.freeCtr + 4)

theorem State.newChallenge_dbgCounters : s.newChallenge.dbgCounters = s.dbgCounters :=
  State.newChallenge_keeps (g := State.dbgCounters) (fun _ _ => rfl) fun t _ _ => t.wr_dbgCounters _ _

/-- The security page's registers below SEC_DBG_CHAL stay under a new challenge. -/
theorem State.fld_newChallenge {f : Field} (hf : f.off < 0x110) : s.newChallenge.fld .sec f = s.fld .sec f :=
  State.newChallenge_keeps (g := fun t => t.fld .sec f) (fun _ _ => rfl) fun t _ _ => t.fld_wr_ne .sec f _ _ (by omega)

theorem State.debug_relockDebug : s.relockDebug.fld .sec F.SEC_STATUS_DEBUG = 0 := by
  by_cases h : s.fld .sec F.SEC_STATUS_DEBUG = 0
  · rw [State.relockDebug, if_pos h, h]
  · rw [State.relockDebug, if_neg h, State.fld_fireEvent _ _ _ (by decide), State.fld_setFld _ _ _ _ (by decide)]
    rfl

/-! A token attempt. -/

/-- What an accepted token proves (R549, R550): both signatures, no confidential partition, lifecycle OWNED, a counter not used before, and a level that is
PROFILE or FULL. -/
theorem State.tokenOk_needs (h : s.tokenOk b x y = true) : x = true ∧ y = true ∧ s.anyConf = false ∧ s.fuses.lifecycle = 1 ∧
    Store.get (fun _ => 0) s.dbgCounters (imgNat b 192 4) < imgNat b 196 8 ∧ imgNat b 48 1 ≤ 2 := by
  simp only [State.tokenOk, Bool.and_eq_true, decide_eq_true_eq, beq_iff_eq, Bool.not_eq_true'] at h
  obtain ⟨⟨⟨⟨⟨⟨⟨⟨⟨⟨-, hop⟩, hctr⟩, htok⟩, -⟩, -⟩, -⟩, hlevel⟩, -⟩, hcycle⟩, hconf⟩ := h
  exact ⟨hop, htok, hconf, hcycle, hctr, hlevel⟩

/-- The state with the token's counter, one more unlock, and the token's level. -/
def State.unlock (s : State) (b : List Byte) : State :=
  let u : State := { s with dbgCounters := Store.set (fun _ => 0) s.dbgCounters (imgNat b 192 4) (imgNat b 196 8), unlocks := min 0xFFFF (s.unlocks + 1) }
  (u.setFld .sec F.SEC_STATUS_DEBUG (imgNat b 48 1)).setFld .sec F.SEC_STATUS_EVER_UNLOCKED 1

/-- The unlocked state, with the event of a level that changed. -/
def State.unlocked (s : State) (b : List Byte) : State :=
  if s.fld .sec F.SEC_STATUS_DEBUG = imgNat b 48 1 then s.unlock b else (s.unlock b).fireEvent .sec 1

theorem State.debug_unlock (h : imgNat b 48 1 ≤ 2) : (s.unlock b).fld .sec F.SEC_STATUS_DEBUG = imgNat b 48 1 := by
  rw [State.unlock, State.fld_setFld_other _ _ _ _ _ (by decide), State.fld_setFld _ _ _ _ (by decide)]
  exact Nat.mod_eq_of_lt (Nat.lt_succ_of_le (Nat.le_succ_of_le h))

theorem State.debug_unlocked (h : imgNat b 48 1 ≤ 2) : (s.unlocked b).fld .sec F.SEC_STATUS_DEBUG = imgNat b 48 1 :=
  State.fld_ite_of_eq (State.debug_unlock h) ((State.fld_fireEvent _ _ _ (by decide)).trans (State.debug_unlock h))

theorem State.dbgCounters_unlocked : (s.unlocked b).dbgCounters = Store.set (fun _ => 0) s.dbgCounters (imgNat b 192 4) (imgNat b 196 8) := by
  have hunlock : (s.unlock b).dbgCounters = Store.set (fun _ => 0) s.dbgCounters (imgNat b 192 4) (imgNat b 196 8) := by
    rw [State.unlock, State.setFld_dbgCounters, State.setFld_dbgCounters]
  exact FaultBlind.ite_of_eq hunlock ((State.fireEvent_dbgCounters _ _ _).trans hunlock)

theorem State.dbgToken_of_ok (h : s.tokenOk b x y = true) : s.dbgToken b x y = ((s.unlocked b).newChallenge, true) := if_pos h

theorem State.dbgToken_of_refused (h : s.tokenOk b x y = false) :
    s.dbgToken b x y = (((s.bump .sec C.SEC_DEBUG_REFUSED 1).raise .sec 0x102 1 {}).newChallenge, false) := if_neg (by simp [h])

end

/-! GET_MEASUREMENTS (R534). -/

section
variable {s : State} {ix : BitVec 8} {n : BitVec 256} {g : Bool}

/-- The blocks of a list of indices, with the signature where one is asked for. -/
def State.blocksOf (s : State) (n : BitVec 256) (g : Bool) (l : List Nat) : State × SpdmRsp :=
  let (s, bl) := s.measurements l
  let (sig, s) := if g then s.freeBytes 64 else ([], s)
  (s, .measurements 12 bl n sig)

theorem State.getMeasurements_eq : s.getMeasurements ix n g =
    if ix = 0 then s.blocksOf n g [] else if ix = 0xFF then s.blocksOf n g ((List.range 12).map (· + 1))
    else if ix.toNat ≤ 12 then s.blocksOf n g [ix.toNat] else (s, .error) := by
  simp only [State.getMeasurements, State.blocksOf]

theorem State.blocksOf_unsigned (l : List Nat) : s.blocksOf n false l = ((s.measurements l).1, .measurements 12 (s.measurements l).2 n []) := rfl

theorem State.measurements_singleton (i : Nat) : s.measurements [i] = ((s.measurement i).1, [(i, (s.measurement i).2)]) := rfl

theorem State.indices_measurements (l : List Nat) (s : State) : (s.measurements l).2.map (·.1) = l := by
  induction l generalizing s with
  | nil => rfl
  | cons i l ih => exact congrArg (i :: ·) (ih (s.measurement i).1)

theorem State.getMeasurements_number : s.getMeasurements 0 n g = s.blocksOf n g [] := by rw [State.getMeasurements_eq, if_pos rfl]

theorem State.getMeasurements_all : s.getMeasurements 0xFF n g = s.blocksOf n g ((List.range 12).map (· + 1)) := by
  rw [State.getMeasurements_eq, if_neg (by decide), if_pos rfl]

theorem State.getMeasurements_one {i : Nat} (h1 : 1 ≤ i) (h : i ≤ 12) : s.getMeasurements (BitVec.ofNat 8 i) n g = s.blocksOf n g [i] := by
  have hi : (BitVec.ofNat 8 i).toNat = i := Nat.mod_eq_of_lt (by omega)
  rw [State.getMeasurements_eq, if_neg (by bv_omega), if_neg (by bv_omega), hi, if_pos h]

theorem State.getMeasurements_unknown {i : Nat} (h13 : 13 ≤ i) (h : i ≤ 254) : s.getMeasurements (BitVec.ofNat 8 i) n g = (s, .error) := by
  have hi : (BitVec.ofNat 8 i).toNat = i := Nat.mod_eq_of_lt (by omega)
  rw [State.getMeasurements_eq, if_neg (by bv_omega), if_neg (by bv_omega), hi, if_neg (by omega)]

/-! The transports of SPDM. -/

/-- The endpoint takes an I3C packet to its own identifier. -/
theorem mctpPacket_own (hsp : s.spUp = true) (hi3c : s.i3c.isSome = true) (src : BitVec 8) (m : MctpMsg) (env : MsgEnv) :
    mctpPacket false src s.eid m env s = s.mctpAnswer false src m env := if_neg (by simpa [hsp] using Option.isSome_iff_ne_none.1 hi3c)

theorem State.mctpAnswer_spdm (h : s.spdmUp = true) (src : BitVec 8) (r : SpdmReq) (env : MsgEnv) :
    s.mctpAnswer false src (.spdm r) env = ((s.spdm r).1.emit .ibi).emit (.mctp false src (.spdm (s.spdm r).2)) := if_pos h

theorem doeRequest_spdm (h : s.spdmUp = true) (r : SpdmReq) : doeRequest (.spdm r) s = (s.spdm r).1.emit (.doe (some (s.spdm r).2)) := if_neg (by simp [h])

theorem State.spUp_of_spdmUp (h : s.spdmUp = true) : s.spUp = true := (Bool.and_eq_true_iff.1 h).1

end

/-- Settles O45: each clause is the rule above for its command, its token or its index. -/
theorem debugNeedsAToken : Obligations.DebugNeedsAToken := by
  refine ⟨fun s hon hsp => ⟨run_of_eq hon (if_pos hsp), run_of_eq hon (if_pos hsp)⟩,
    fun s hs hsp => ⟨run_same hs (if_neg (by simp [hsp])), run_same hs (if_neg (by simp [hsp]))⟩, fun s => State.debug_relockDebug,
    fun s b x y => ⟨fun h => State.dbgToken_of_refused h, fun h => ⟨State.dbgToken_of_ok h, ?level, ?counter⟩⟩, fun s b x y h => Bool.eq_false_iff.2 fun hok => ?needs,
    fun s ix n g hon hup hi3c => run_of_eq hon ((mctpPacket_own (State.spUp_of_spdmUp hup) hi3c _ _ _).trans (State.mctpAnswer_spdm hup _ (.measurements ix n g) _)),
    fun s ix n g hon hup => run_of_eq hon (doeRequest_spdm hup (.measurements ix n g)),
    fun s n => ⟨State.getMeasurements_number.trans (State.blocksOf_unsigned []), fun i h1 h12 => ⟨(s.measurement i).1, (s.measurement i).2.1, (s.measurement i).2.2, ?one⟩,
      ⟨_, _, State.getMeasurements_all.trans (State.blocksOf_unsigned _), State.indices_measurements _ s⟩, fun i g h13 h => State.getMeasurements_unknown h13 h⟩⟩
  case level =>
    obtain ⟨-, -, -, -, -, hlevel⟩ := State.tokenOk_needs h
    rw [State.dbgToken_of_ok h]
    exact (State.fld_newChallenge (by decide)).trans (State.debug_unlocked hlevel)
  case counter => rw [State.dbgToken_of_ok h, State.newChallenge_dbgCounters, State.dbgCounters_unlocked, Store.get_set_self]
  case needs =>
    obtain ⟨hop, htok, hconf, hcycle, hctr, -⟩ := State.tokenOk_needs hok
    rcases h with h | h | h | h | h
    · simp [hop] at h
    · simp [htok] at h
    · simp [hconf] at h
    · exact h hcycle
    · exact absurd hctr (Nat.not_lt.2 h)
  case one => rw [State.getMeasurements_one h1 h12, State.blocksOf_unsigned, State.measurements_singleton]

end Sys2Proof.Machine
end

section
/-! Steps and the queue (15 R560): every command goes on and leaves the queue behind it, and without power nothing acts but MGMT_POWER_ON. -/

namespace Sys2Proof.Machine

/-- A command takes effect through `run`, but for MGMT_POWER_ON, which acts on a package without power. -/
theorem exec_eq_run {c : Instr} (hc : ∀ b other f, c ≠ .mgmtPowerOn b other f) : ∃ f : State → State, ∀ s, exec c s = run f s := by
  cases c
  case mgmtPowerOn b other f => exact absurd rfl (hc b other f)
  all_goals exact ⟨_, fun _ => rfl⟩

/-- Every command completes, and leaves the queue. -/
theorem exec_completes (c : Instr) (s : State) : ∃ t : State, exec c s = .next t ∧ t.pending = s.pending := by
  by_cases hc : ∀ b other f, c ≠ .mgmtPowerOn b other f
  · obtain ⟨f, hf⟩ := exec_eq_run hc
    exact ⟨s.act f, hf s, State.act_pending f s⟩
  · push Not at hc
    obtain ⟨b, other, f, rfl⟩ := hc
    exact ⟨_, rfl, rfl⟩

/-- Without power a command but MGMT_POWER_ON changes nothing. -/
theorem exec_off {c : Instr} (hc : ∀ b other f, c ≠ .mgmtPowerOn b other f) {s : State} (hoff : s.mgmtOn = false) : exec c s = .next s := by
  obtain ⟨f, hf⟩ := exec_eq_run hc
  rw [hf, run_off hoff]

theorem step_of_empty {s : State} (h : s.pending = []) : step s = .next s.tick := by
  unfold step
  rw [h]

theorem step_of_front {s : State} {c : Instr} {rest : List Instr} (h : s.pending = c :: rest) : step s = exec c { s with pending := rest } := by
  unfold step
  rw [h]

theorem State.tick_off {s : State} (hoff : s.mgmtOn = false) : s.tick = s := if_neg (by simp [hoff])

theorem State.tick_on {s : State} (hon : s.mgmtOn = true) :
    s.tick = (allPorts.foldl State.tickPort (allCDies.foldl State.tickDie s)).tickRates.tickTime := if_pos hon

/-- A run of a step and more goes on from where the step leads. -/
theorem run_succ_of_step {s t : State} (h : step s = .next t) (n : Nat) : Host.Core.run Sys2Proof.core (n + 1) s = Host.Core.run Sys2Proof.core n t := by
  have hcore : Sys2Proof.core.step s = .next t := h
  simp only [Host.Core.run, hcore]

end Sys2Proof.Machine
end

section
/-! What a tick leaves but GTIME (03 R134, 10 R394, 17 R618): it counts in the registers of pages, in the arrays, the ports and the sources of requests. -/

namespace Sys2Proof.Machine

/-- A reading of the state that a tick's counters leave: it looks neither at a compute die's FCLK nor at the requests of its sources. -/
structure CountBlind {β : Type} (g : State → β) : Prop extends FatalBlind g where
  fclk : ∀ (t : State) (l : Store (BitVec 64)), g { t with fclk := l } = g t
  windows : ∀ (t : State) (l : List Window), g { t with windows := l } = g t
  requests : ∀ (t : State) (l : List Req), g { t with requests := l } = g t
  respUse : ∀ (t : State) (l : Store Nat), g { t with respUse := l } = g t

namespace CountBlind

variable {β : Type} {g : State → β} (hg : CountBlind g) (s : State) (c : CDie)

include hg

theorem tickArray (n : Nat) : g (s.tickArray c n) = g s := by
  unfold State.tickArray
  extract_lets pg st live a waits waited slots enters counted limit run
  have hbump (t : State) (off k : Nat) (hoff : off + 4 < 0x1000) : g (t.bump pg off k) = g t := hg.bump_hub t rfl hoff
  have hwaited : g waited = g s := FaultBlind.ite_of_eq (hbump _ _ _ (by decide)) rfl
  have hcounted : g counted = g waited := by
    unfold counted
    split
    · exact FaultBlind.ite_of_eq (hbump _ _ _ (by decide)) rfl
    · rfl
  refine FaultBlind.ite_of_eq ((hbump _ _ _ (by decide)).trans hwaited) (FaultBlind.ite_of_eq (hcounted.trans hwaited) ?_)
  exact (hg.array _ c _).trans (hcounted.trans hwaited)

theorem tickDie : g (s.tickDie c) = g s := by
  unfold State.tickDie
  refine FaultBlind.ite_of_eq rfl ?_
  extract_lets stretched clocked n counted
  have hcounted : g counted = g s := FaultBlind.ite_of_eq ((hg.bump_loop _ c (by decide)).trans (hg.fclk s _)) (hg.fclk s _)
  exact (hg.tickArray counted c n).trans hcounted

theorem safeEnd (q : Port) : g (s.safeEnd q) = g s := by
  unfold State.safeEnd
  split
  · exact FaultBlind.ite_of_eq ((hg.goDark _ q).trans (hg.ports s _)) rfl
  · rfl

theorem stallPort (q : Port) : g (s.stallPort q) = g s :=
  foldl_keeps (fun t _ => FaultBlind.ite_of_eq (hg.ports t _) rfl) _ s

theorem tickPort (q : Port) : g (s.tickPort q) = g s := (hg.stallPort _ q).trans (hg.safeEnd s q)

theorem launch (r : Req) : g (s.launch r) = g s := by
  unfold State.launch
  extract_lets dest opened held used counted
  have hopened : g opened = g s := FaultBlind.ite_of_eq rfl ((hg.setFld_hub _ rfl (by decide) _).trans (hg.windows s _))
  have hused : g used = g s := (hg.respUse held _).trans ((hg.windows opened _).trans hopened)
  have hcounted : g counted = g s := FaultBlind.ite_of_eq ((hg.bump_hub _ rfl (by decide)).trans hused) hused
  have hactivity (e : Nat) (he : e < 2) : (F.RTR_INFLIGHT_ACTIVITY e).off < 0x1000 := by
    obtain rfl | rfl : e = 0 ∨ e = 1 := by omega
    all_goals decide
  exact (hg.emit _ _).trans ((hg.setFld_hub _ rfl (hactivity _ (Nat.mod_lt _ (by decide))) _).trans hcounted)

theorem pumpList (rs before : List Req) : g (s.pumpList before rs).1 = g s := by
  induction rs generalizing s before with
  | nil => rfl
  | cons r rest ih =>
    unfold State.pumpList
    split
    · exact ih s _
    · split
      · exact ih s _
      · exact (ih _ _).trans (hg.launch s r)

theorem pump : g s.pump = g s := FaultBlind.ite_of_eq rfl ((hg.requests _ _).trans (hg.pumpList s _ _))

theorem tickRates : g s.tickRates = g s := FaultBlind.ite_of_eq rfl ((hg.pump _).trans (hg.windows s _))

/-- What a tick does before GTIME moves. -/
theorem counters : g (allPorts.foldl State.tickPort (allCDies.foldl State.tickDie s)).tickRates = g s :=
  (hg.tickRates _).trans ((foldl_keeps hg.tickPort _ _).trans (foldl_keeps hg.tickDie _ s))

end CountBlind

/-- What a tick's counters leave: among all else the queue, memory, Tarn and GTIME. -/
theorem State.ground_countBlind : CountBlind State.ground where
  toFatalBlind := State.ground_blind.toFatalBlind
  fclk _ _ := rfl
  windows _ _ := rfl
  requests _ _ := rfl
  respUse _ _ := rfl

end Sys2Proof.Machine
end

section
/-! The queue behind a step, and a run of steps. -/

namespace Sys2Proof.Machine

theorem State.showSlew_pending (s : State) : s.showSlew.pending = s.pending := s.setFld_pending _ _ _

theorem State.addTime_pending (s : State) (n : Nat) : (s.addTime n).pending = s.pending :=
  foldl_keeps (g := State.pending) (step := fun t d => { t with gtime := Store.set (fun _ => 0) t.gtime d.val (t.now d + BitVec.ofNat 64 n) }) (fun _ _ => rfl) allDies s

theorem State.tickTime_eq (s : State) : s.tickTime = State.showSlew { s.addTime s.ridge.tick.1 with ridge := s.ridge.tick.2 } := rfl

theorem State.tickTime_pending (s : State) : s.tickTime.pending = s.pending := by
  rw [State.tickTime_eq, State.showSlew_pending]
  exact s.addTime_pending s.ridge.tick.1

theorem State.pending_of_ground {s t : State} (h : t.ground = s.ground) : t.pending = s.pending := congrArg Ground.pending h

theorem State.tick_pending (s : State) : s.tick.pending = s.pending := by
  cases hon : s.mgmtOn with
  | false => rw [State.tick_off hon]
  | true =>
    rw [State.tick_on hon, State.tickTime_pending]
    exact State.pending_of_ground (State.ground_countBlind.counters s)

/-- A step completes, and the queue's rest waits behind it. -/
theorem step_completes (s : State) : ∃ t : State, step s = .next t ∧ t.pending = s.pending.tail := by
  cases hq : s.pending with
  | nil => exact ⟨s.tick, step_of_empty hq, s.tick_pending.trans hq⟩
  | cons c rest =>
    rw [step_of_front hq]
    exact exec_completes c _

theorem run_completes (n : Nat) (s : State) : ∃ t : State, Host.Core.run Sys2Proof.core n s = .next t ∧ t.pending = s.pending.drop n := by
  induction n generalizing s with
  | zero => exact ⟨s, rfl, rfl⟩
  | succ n ih =>
    obtain ⟨u, hu, hrest⟩ := step_completes s
    obtain ⟨t, ht, hdrop⟩ := ih u
    refine ⟨t, (run_succ_of_step hu n).trans ht, ?_⟩
    rw [hdrop, hrest, List.drop_tail]

/-- Without power a step whose command is not MGMT_POWER_ON takes the front of the queue and changes nothing. -/
theorem step_off {s : State} (hoff : s.mgmtOn = false) (hq : ∀ c ∈ s.pending, ∀ b other f, c ≠ .mgmtPowerOn b other f) :
    step s = .next { s with pending := s.pending.tail } := by
  cases hp : s.pending with
  | nil =>
    rw [step_of_empty hp, State.tick_off hoff, List.tail_nil, State.with_pending hp]
  | cons c rest =>
    rw [step_of_front hp]
    exact exec_off (hq c (by simp [hp])) hoff

theorem run_off_queue (n : Nat) {s : State} (hoff : s.mgmtOn = false) (hq : ∀ c ∈ s.pending, ∀ b other f, c ≠ .mgmtPowerOn b other f) :
    Host.Core.run Sys2Proof.core n s = .next { s with pending := s.pending.drop n } := by
  induction n generalizing s with
  | zero => rfl
  | succ n ih =>
    rw [run_succ_of_step (step_off hoff hq) n]
    refine (ih (s := { s with pending := s.pending.tail }) hoff fun c hc => hq c (List.mem_of_mem_tail hc)).trans ?_
    rw [List.drop_tail]

/-- Settles O55: the definition of a step, by the queue. -/
theorem stepRunsTheFrontCommand : Obligations.StepRunsTheFrontCommand := ⟨fun _ _ _ h => step_of_front h, fun _ h => step_of_empty h⟩

/-- Settles O56: every command goes on by `run` and leaves the queue, a tick too, and a run of n steps by induction on n. -/
theorem queuedCommandsCompleteInOrder : Obligations.QueuedCommandsCompleteInOrder := ⟨exec_completes, run_completes⟩

/-- Settles O57: without power `run` leaves the state, a tick too, and a run of n steps by induction on n. -/
theorem unpoweredPackageStaysAsItIs : Obligations.UnpoweredPackageStaysAsItIs :=
  ⟨fun _ _ hoff hc => exec_off hc hoff, fun _ hoff hq => (step_of_empty hq).trans (congrArg _ (State.tick_off hoff)), fun n _ hoff hq => run_off_queue n hoff hq⟩

end Sys2Proof.Machine
end

section
/-! Updates of register words alone. -/

namespace Sys2Proof.Machine

/-- `t` is `s` with other register words. -/
def State.OnlyRegs (t s : State) : Prop := t = { s with regs := t.regs }

namespace State.OnlyRegs

theorem refl (s : State) : s.OnlyRegs s := rfl

theorem trans {s t u : State} (ht : t.OnlyRegs s) (hu : u.OnlyRegs t) : u.OnlyRegs s := by
  unfold State.OnlyRegs at *
  rw [hu, ht]

theorem wr (s : State) (a : Nat) (v : Word) : (s.wr a v).OnlyRegs s := rfl

theorem setFld (s : State) (p : Page) (f : Field) (v : Nat) : (s.setFld p f v).OnlyRegs s := rfl

theorem bump (s : State) (p : Page) (off n : Nat) : (s.bump p off n).OnlyRegs s := (wr s _ _).trans (wr _ _ _)

theorem ite {s t u : State} {c : Prop} [Decidable c] (ht : t.OnlyRegs s) (hu : u.OnlyRegs s) : (if c then t else u).OnlyRegs s := by
  split
  · exact ht
  · exact hu

theorem fireEvent (s : State) (p : Page) (j : Nat) : (s.fireEvent p j).OnlyRegs s := by
  have hbit : (s.setFld p ⟨F.EVT_STATUS_EVT.off, j, 1⟩ 1).OnlyRegs s := setFld s _ _ _
  exact ite (refl s) (ite (ite (hbit.trans (setFld _ _ _ _)) (hbit.trans (setFld _ _ _ _))) hbit)

theorem foldl {α : Type} {f : State → α → State} (hf : ∀ t a, (f t a).OnlyRegs t) (l : List α) (s : State) : (l.foldl f s).OnlyRegs s :=
  List.foldlRecOn (motive := fun t => t.OnlyRegs s) l f (refl s) fun t ht a _ => ht.trans (hf t a)

theorem quiet {s t : State} (h : t.OnlyRegs s) (hs : s.quiet = true) : t.quiet = true := by
  rw [h]
  exact hs

theorem pending {s t : State} (h : t.OnlyRegs s) : t.pending = s.pending := by rw [h]

end State.OnlyRegs

/-- A settled package whose command writes register words alone shows just that. -/
theorem run_onlyRegs {f : State → State} {s : State} (hs : s.settled = true) (h : (f s).OnlyRegs s) : run f s = .next (f s) :=
  run_quiet hs (h.quiet (State.settled_quiet hs)) h.pending

end Sys2Proof.Machine
end

section
/-! Event lines (17 R623–R625, 19 R668): what an event on a line of a page sets by its mode, and the writes of EVT_COUNT and BLK_CTRL. -/

namespace Sys2Proof.Machine

section
variable {s : State} {p : Page} {j : Nat}

/-- The EVT_STATUS bit of a line. -/
abbrev evtBit (j : Nat) : Field := ⟨F.EVT_STATUS_EVT.off, j, 1⟩

/-- Without ENABLE an event is nothing. -/
theorem State.fireEvent_disabled (h : s.fld p F.BLK_CTRL_ENABLE = 0) : s.fireEvent p j = s := if_pos h

theorem State.fireEvent_enabled (h : s.fld p F.BLK_CTRL_ENABLE = 1) : s.fireEvent p j =
    if s.fld p F.BLK_CTRL_EVT_XMODE = 1 && s.flag p ⟨F.EVT_ENABLE_EN.off, j, 1⟩ then
      if s.fld p F.EVT_COUNT_COUNT = 0xFFFF then (s.setFld p (evtBit j) 1).setFld p ⟨F.EVT_OVERRUN_OVR.off, j, 1⟩ 1
      else (s.setFld p (evtBit j) 1).setFld p F.EVT_COUNT_COUNT (s.fld p F.EVT_COUNT_COUNT + 1)
    else s.setFld p (evtBit j) 1 := if_neg (by simp [h])

/-- In native mode an event sets its bit alone. -/
theorem State.fireEvent_native (h : s.fld p F.BLK_CTRL_ENABLE = 1) (hx : s.fld p F.BLK_CTRL_EVT_XMODE = 0) : s.fireEvent p j = s.setFld p (evtBit j) 1 := by
  rw [State.fireEvent_enabled h, if_neg (by simp [hx])]

/-- An event sets the EVT_STATUS bit of its line. -/
theorem State.flag_fireEvent_bit (h : s.fld p F.BLK_CTRL_ENABLE = 1) (hj : j < 32) : (s.fireEvent p j).flag p (evtBit j) = true := by
  have hset : (s.setFld p (evtBit j) 1).flag p (evtBit j) = true := s.flag_setFld p (evtBit j) 1 hj
  rw [State.fireEvent_enabled h]
  split
  · split
    · exact (State.flag_setFld_off _ p ⟨F.EVT_OVERRUN_OVR.off, j, 1⟩ (evtBit j) _ (by simp [F.EVT_OVERRUN_OVR, F.EVT_STATUS_EVT])).trans hset
    · exact (State.flag_setFld_off _ p F.EVT_COUNT_COUNT (evtBit j) _ (by simp [F.EVT_COUNT_COUNT, F.EVT_STATUS_EVT])).trans hset
  · exact hset

theorem State.count_setFld_bit : (s.setFld p (evtBit j) 1).fld p F.EVT_COUNT_COUNT = s.fld p F.EVT_COUNT_COUNT :=
  s.fld_setFld_off p (evtBit j) F.EVT_COUNT_COUNT 1 (by simp [F.EVT_COUNT_COUNT, F.EVT_STATUS_EVT])

/-- An event that is not enabled in EVT_ENABLE does not count. -/
theorem State.fireEvent_uncounted (h : s.fld p F.BLK_CTRL_ENABLE = 1) (hen : s.flag p ⟨F.EVT_ENABLE_EN.off, j, 1⟩ = false) :
    (s.fireEvent p j).fld p F.EVT_COUNT_COUNT = s.fld p F.EVT_COUNT_COUNT := by
  rw [State.fireEvent_enabled h, if_neg (by simp [hen]), State.count_setFld_bit]

section
variable (h : s.fld p F.BLK_CTRL_ENABLE = 1) (hx : s.fld p F.BLK_CTRL_EVT_XMODE = 1) (hen : s.flag p ⟨F.EVT_ENABLE_EN.off, j, 1⟩ = true)
include h hx hen

/-- With EVT_XMODE 1 an enabled event counts. -/
theorem State.fireEvent_counts (hc : s.fld p F.EVT_COUNT_COUNT < 0xFFFF) : (s.fireEvent p j).fld p F.EVT_COUNT_COUNT = s.fld p F.EVT_COUNT_COUNT + 1 := by
  rw [State.fireEvent_enabled h, if_pos (by simp [hx, hen]), if_neg (Nat.ne_of_lt hc), State.fld_setFld _ _ _ _ (by decide)]
  exact Nat.mod_eq_of_lt (Nat.succ_lt_succ hc)

/-- A count at its largest value stays, and the overrun bit sets. -/
theorem State.fireEvent_overruns (hj : j < 32) (hc : s.fld p F.EVT_COUNT_COUNT = 0xFFFF) :
    (s.fireEvent p j).fld p F.EVT_COUNT_COUNT = 0xFFFF ∧ (s.fireEvent p j).flag p ⟨F.EVT_OVERRUN_OVR.off, j, 1⟩ = true := by
  rw [State.fireEvent_enabled h, if_pos (by simp [hx, hen]), if_pos hc]
  refine ⟨?count, State.flag_setFld _ p ⟨F.EVT_OVERRUN_OVR.off, j, 1⟩ 1 hj⟩
  rw [State.fld_setFld_off _ _ _ _ _ (by simp [F.EVT_COUNT_COUNT, F.EVT_OVERRUN_OVR]), State.count_setFld_bit, hc]

end

/-! The commands. -/

variable {j : Fin 32} {early : Bool} {v : Word}

theorem eventLineCross_onlyRegs : (eventLineCross p j early s).OnlyRegs s :=
  .ite (.refl s) (.ite (.setFld s _ _ _) (.fireEvent s p j.val))

theorem eventLineCross_dead (h : p.nevt ≤ j.val ∨ s.fld p F.BLK_CTRL_ENABLE = 0) : eventLineCross p j early s = s := by
  unfold eventLineCross
  split
  · rfl
  · next hline =>
    have hoff := h.resolve_left hline
    rw [if_neg (by simp [State.flag, hoff]), State.fireEvent_disabled hoff]

theorem eventLineCross_line (hline : j.val < p.nevt) (h : early = false ∨ s.fld p F.BLK_CTRL_EVT_XMODE = 1) :
    eventLineCross p j early s = s.fireEvent p j.val := by
  unfold eventLineCross
  rw [if_neg (by omega), if_neg]
  rcases h with h | h <;> simp [h]

theorem eventLineCross_early (hline : j.val < p.nevt) (h : s.fld p F.BLK_CTRL_ENABLE = 1) (hx : s.fld p F.BLK_CTRL_EVT_XMODE = 0) :
    eventLineCross p j true s = s.setFld p ⟨F.EVT_OVERRUN_OVR.off, j.val, 1⟩ 1 := by
  unfold eventLineCross
  rw [if_neg (by omega), if_pos (by simp [State.flag, h, hx])]

/-- TAKE is subtracted from COUNT. -/
theorem evtCountTake_count : (evtCountTake p v s).fld p F.EVT_COUNT_COUNT = s.fld p F.EVT_COUNT_COUNT - v.toNat / 65536 := by
  rw [evtCountTake, State.fld_setFld _ _ _ _ (by decide), Nat.shiftRight_eq_div_pow]
  exact Nat.mod_eq_of_lt (Nat.lt_of_le_of_lt (Nat.sub_le _ _) (getF_lt _ F.EVT_COUNT_COUNT))

theorem blkCtrlWrite_onlyRegs : (blkCtrlWrite p v s).OnlyRegs s :=
  State.OnlyRegs.trans (.ite (.refl s) (.setFld s _ _ _)) (.setFld _ _ _ _)

theorem blkCtrlWrite_enable : (blkCtrlWrite p v s).fld p F.BLK_CTRL_ENABLE = (v.getLsbD 0).toNat := by
  refine (State.fld_setFld _ p F.BLK_CTRL_ENABLE _ (by decide)).trans ?_
  cases v.getLsbD 0 <;> rfl

theorem blkCtrlWrite_xmode : (blkCtrlWrite p v s).fld p F.BLK_CTRL_EVT_XMODE =
    if s.fld p F.BLK_CTRL_ENABLE = 1 then s.fld p F.BLK_CTRL_EVT_XMODE else (v.getLsbD 1).toNat := by
  have hbit : s.fld p F.BLK_CTRL_ENABLE < 2 := getF_lt _ F.BLK_CTRL_ENABLE
  refine (State.fld_setFld_other _ p F.BLK_CTRL_ENABLE F.BLK_CTRL_EVT_XMODE _ (by decide)).trans ?_
  obtain h | h : s.fld p F.BLK_CTRL_ENABLE = 0 ∨ s.fld p F.BLK_CTRL_ENABLE = 1 := by omega
  · rw [if_neg (by simp [State.flag, h]), if_neg (by simp [h]), State.fld_setFld _ _ _ _ (by decide)]
    cases v.getLsbD 1 <;> rfl
  · rw [if_pos (by simp [State.flag, h]), if_pos h]

theorem blkCtrlWrite_rd {a : Nat} (ha : a ≠ p.base + 8) : (blkCtrlWrite p v s).rd a = s.rd a :=
  (State.rd_setFld_ne _ p F.BLK_CTRL_ENABLE _ a ha).trans
    (FaultBlind.ite_of_eq (g := fun t : State => t.rd a) rfl (s.rd_setFld_ne p F.BLK_CTRL_EVT_XMODE _ a ha))

/-- Every page has EVT_COUNT, with COUNT read-only and TAKE write-only. -/
theorem Page.reg?_evtCount (p : Page) : p.reg? 0x1C = some ⟨0x1C, 1, 4, [⟨0, 16, .ro, 0⟩, ⟨16, 16, .wo, 0⟩]⟩ := by
  cases p <;> rfl

end

/-- Settles O50: each clause is the rule above for the page's mode, or for the write. -/
theorem eventLinesCross : Obligations.EventLinesCross := by
  refine ⟨fun s p j early hs h => run_same hs (eventLineCross_dead h), fun s p j hs hline hen hx => ⟨?native, ?early⟩,
    fun s p j early hs hline hen hx => ⟨_, run_onlyRegs hs eventLineCross_onlyRegs, ?crossed⟩,
    fun s p v hs => ⟨_, run_onlyRegs hs (.setFld s _ _ _), evtCountTake_count, fun a ha => s.rd_setFld_ne p F.EVT_COUNT_COUNT _ a ha, rfl⟩,
    fun s p v hs => ⟨_, run_onlyRegs hs blkCtrlWrite_onlyRegs, blkCtrlWrite_enable, blkCtrlWrite_xmode, fun a => blkCtrlWrite_rd, blkCtrlWrite_onlyRegs⟩,
    Page.reg?_evtCount⟩
  case native =>
    exact (run_onlyRegs hs eventLineCross_onlyRegs).trans (congrArg _ ((eventLineCross_line hline (.inl rfl)).trans (State.fireEvent_native hen hx)))
  case early => exact (run_onlyRegs hs eventLineCross_onlyRegs).trans (congrArg _ (eventLineCross_early hline hen hx))
  case crossed =>
    rw [eventLineCross_line hline (.inr hx)]
    exact ⟨State.flag_fireEvent_bit hen j.isLt, State.OnlyRegs.fireEvent s p j.val, State.fireEvent_uncounted hen, State.fireEvent_counts hen hx,
      fun hline hc => State.fireEvent_overruns hen hx hline j.isLt hc⟩

end Sys2Proof.Machine
end

section
/-! GTIME (17 R618, R626, R627, R632): how far a tick and the end of a slew take it, and a die that aligns. -/

namespace Sys2Proof.Machine

/-- What a tick's counters leave: the ridge line. -/
theorem State.ridge_countBlind : CountBlind State.ridge where
  header t _ _ _ _ := t.wr_ridge _ _
  hub t _ _ _ _ _ := t.wr_ridge _ _
  emit t _ := t.emit_ridge _
  chan t _ _ := t.setChan_ridge _ _
  agent t _ _ _ _ := t.setAgent_ridge _ _
  log _ _ := rfl
  pages _ _ := rfl
  parts _ _ := rfl
  array t _ _ := t.setArray_ridge _ _
  dispatches _ _ := rfl
  runs _ _ := rfl
  retire t r := by
    simp only [State.retire]
    split <;> rfl
  loop t _ _ _ _ := t.wr_ridge _ _
  power _ _ := rfl
  ports _ _ := rfl
  fclk _ _ := rfl
  windows _ _ := rfl
  requests _ _ := rfl
  respUse _ _ := rfl

section
variable {s : State} {d e : Die} {n : Nat}

/-- A die's GTIME moves forward by n counts. -/
def State.moveTime (s : State) (d : Die) (n : Nat) : State := { s with gtime := Store.set (fun _ => 0) s.gtime d.val (s.now d + BitVec.ofNat 64 n) }

theorem State.now_moveTime_self : (s.moveTime d n).now d = s.now d + BitVec.ofNat 64 n := Store.get_set_self _ _ _ _

theorem State.now_moveTime_ne (h : d ≠ e) : (s.moveTime d n).now e = s.now e := Store.get_set_ne _ _ (Fin.val_ne_of_ne h) _

/-- Every die's GTIME moves forward. -/
theorem State.now_addTime (s : State) (n : Nat) (d : Die) : (s.addTime n).now d = s.now d + BitVec.ofNat 64 n :=
  (foldl_once (fun (t : State) e => t.moveTime e n) (fun t => t.now d) (· + BitVec.ofNat 64 n) d (fun _ => State.now_moveTime_self)
    (fun _ _ he => State.now_moveTime_ne he) allDies_nodup s).trans (if_pos (List.mem_finRange d))

/-- `t` is `s` with other GTIME. -/
def State.OnlyTime (t s : State) : Prop := t = { s with gtime := t.gtime }

theorem State.addTime_onlyTime (s : State) (n : Nat) : (s.addTime n).OnlyTime s :=
  List.foldlRecOn (motive := fun t : State => t.OnlyTime s) allDies (fun (t : State) d => t.moveTime d n) rfl fun t ht d _ => by
    unfold State.OnlyTime at *
    rw [ht]
    rfl

theorem State.now_of_gtime {t : State} (h : t.gtime = s.gtime) (d : Die) : t.now d = s.now d := congrArg (Store.get (fun _ => 0) · d.val) h

theorem State.now_with_ridge (s : State) (r : RidgeSt) (d : Die) : State.now { s with ridge := r } d = s.now d := rfl

theorem State.now_showSlew (s : State) (d : Die) : s.showSlew.now d = s.now d := State.now_of_gtime (s.setFld_gtime _ _ _) d

theorem State.gtime_of_ground {t : State} (h : t.ground = s.ground) : t.gtime = s.gtime := congrArg Ground.gtime h

/-- Every die's GTIME moves by the increment of the tick. -/
theorem State.now_tick (hon : s.mgmtOn = true) (d : Die) : s.tick.now d = s.now d + BitVec.ofNat 64 s.ridge.tick.1 := by
  rw [State.tick_on hon, State.tickTime_eq, State.ridge_countBlind.counters, State.now_showSlew, State.now_with_ridge, State.now_addTime,
    State.now_of_gtime (State.gtime_of_ground (State.ground_countBlind.counters s))]

/-- What is left of a correction after a tick. -/
theorem State.ridge_tick (hon : s.mgmtOn = true) : s.tick.ridge = s.ridge.tick.2 := by
  rw [State.tick_on hon, State.tickTime_eq, State.ridge_countBlind.counters]
  exact State.setFld_ridge _ _ _ _

/-! The increment of a tick (R632). -/

variable {r : RidgeSt}

theorem RidgeSt.tick_held (h : r.hold ≠ 0) : r.tick = (0, { r with hold := r.hold - 1 }) := if_pos h

theorem RidgeSt.tick_plain (h : r.hold = 0) (hs : r.slew = 0) : r.tick = (1, { r with phase := 0 }) := by simp [RidgeSt.tick, h, hs]

theorem RidgeSt.tick_between (h : r.hold = 0) (hs : r.slew ≠ 0) (hp : r.phase < 1023) : r.tick = (1, { r with phase := r.phase + 1 }) := by
  simp [RidgeSt.tick, h, hs, show r.phase + 1 < 1024 by omega]

theorem RidgeSt.tick_withheld (h : r.hold = 0) (hs : 0 < r.slew) (hp : r.phase = 1023) : r.tick = (0, { r with phase := 0, slew := r.slew - 1 }) := by
  simp [RidgeSt.tick, h, hp, hs, hs.ne']

theorem RidgeSt.tick_added (h : r.hold = 0) (hs : r.slew < 0) (hp : r.phase = 1023) : r.tick = (2, { r with phase := 0, slew := r.slew + 1 }) := by
  simp [RidgeSt.tick, h, hp, hs.ne, hs.le]

/-! A die aligns (R627). -/

theorem gtimeDieAlign_held (h : s.inReset d = true ∨ d ∈ s.fencedDies) : gtimeDieAlign d s = s := if_pos (by simpa using h)

theorem gtimeDieAlign_runs (hreset : s.inReset d = false) (hfence : d ∉ s.fencedDies) : gtimeDieAlign d s = s.alignDie d :=
  if_neg (by simp [hreset, hfence])

theorem State.alignDie_onlyTime : (s.alignDie d).OnlyTime s := by
  simp only [State.alignDie]
  split <;> rfl

theorem State.now_alignDie_self : ((s.alignDie d).now d).toNat = max (s.now d).toNat (s.now pd0).toNat := by
  simp only [State.alignDie]
  split
  · next h => exact (congrArg BitVec.toNat (Store.get_set_self _ _ _ _)).trans (Nat.max_eq_right (Nat.le_of_lt h)).symm
  · next h => exact (Nat.max_eq_left (Nat.le_of_not_lt h)).symm

theorem State.now_alignDie_ne (h : e ≠ d) : (s.alignDie d).now e = s.now e := by
  simp only [State.alignDie]
  split
  · exact Store.get_set_ne _ _ (Fin.val_ne_of_ne (Ne.symm h)) _
  · rfl

theorem State.OnlyTime.quiet {t : State} (h : t.OnlyTime s) (hs : s.quiet = true) : t.quiet = true := by
  rw [h]
  exact hs

theorem State.OnlyTime.pending {t : State} (h : t.OnlyTime s) : t.pending = s.pending := by rw [h]

/-! The end of a slew. -/

/-- GTIME where the correction ends, and nothing of the correction left. -/
def State.slewEnded (s : State) : State := { s.addTime s.ridge.untilDone with ridge := { s.ridge with hold := 0, slew := 0, phase := 0 } }

theorem gtimeSlewDone_eq (s : State) : gtimeSlewDone s = s.slewEnded.showSlew := rfl

theorem RidgeSt.untilDone_eq (r : RidgeSt) :
    r.untilDone = (if 0 < r.slew then 1023 * r.slew.natAbs else 1025 * r.slew.natAbs) - r.phase := by
  unfold RidgeSt.untilDone
  split <;> rfl

theorem State.now_slewEnded (s : State) (d : Die) : s.slewEnded.now d = s.now d + BitVec.ofNat 64 s.ridge.untilDone := s.now_addTime s.ridge.untilDone d

theorem State.quiet_with_ridge (s : State) (r : RidgeSt) : State.quiet { s with ridge := r } = s.quiet := rfl

theorem State.pending_with_ridge (s : State) (r : RidgeSt) : State.pending { s with ridge := r } = s.pending := rfl

theorem State.slewEnded_quiet (h : s.quiet = true) : s.slewEnded.showSlew.quiet = true := by
  rw [State.showSlew, State.setFld_quiet, State.slewEnded, State.quiet_with_ridge]
  exact State.OnlyTime.quiet (s.addTime_onlyTime s.ridge.untilDone) h

theorem State.slewEnded_pending (s : State) : s.slewEnded.showSlew.pending = s.pending := by
  rw [State.showSlew, State.setFld_pending, State.slewEnded, State.pending_with_ridge]
  exact State.OnlyTime.pending (s.addTime_onlyTime s.ridge.untilDone)

theorem State.slewEnded_slewing (s : State) : s.slewEnded.showSlew.fld .tim F.TIM_STATUS_SLEWING = 0 := by
  rw [State.showSlew, State.fld_setFld _ _ _ _ (by decide)]
  rfl

end

/-- Settles O51: the increment of a tick by its correction, and each other clause by the rule above for its command. -/
theorem ticksAdvanceGtime : Obligations.TicksAdvanceGtime := by
  refine ⟨fun s hon hq => ⟨s.tick, step_of_empty hq, ?tick⟩,
    fun s d hs hreset hfence => ⟨s.alignDie d, ?aligns, State.now_alignDie_self, fun e he => State.now_alignDie_ne he, State.alignDie_onlyTime⟩,
    fun s d hs h => run_same hs (gtimeDieAlign_held h),
    fun s hs => ⟨s.slewEnded.showSlew, run_quiet hs (State.slewEnded_quiet (State.settled_quiet hs)) s.slewEnded_pending, rfl, rfl, s.slewEnded_slewing, fun d => ?ended⟩⟩
  case tick =>
    rw [State.ridge_tick hon]
    simp only [State.now_tick hon]
    refine ⟨fun h => ?_, fun h hs d => ?_, fun h hs hp => ?_, fun h hs hp => ?_, fun h hs hp => ?_⟩
    · rw [RidgeSt.tick_held h]
      exact ⟨rfl, fun d => BitVec.add_zero _⟩
    · rw [RidgeSt.tick_plain h hs]
      rfl
    · rw [RidgeSt.tick_between h hs hp]
      exact ⟨rfl, rfl, fun d => rfl⟩
    · rw [RidgeSt.tick_withheld h hs hp]
      exact ⟨rfl, fun d => BitVec.add_zero _⟩
    · rw [RidgeSt.tick_added h hs hp]
      exact ⟨rfl, fun d => rfl⟩
  case aligns =>
    have heff := gtimeDieAlign_runs hreset hfence
    refine (run_quiet hs ?_ ?_).trans (congrArg _ heff)
    · rw [heff]
      exact State.alignDie_onlyTime.quiet (State.settled_quiet hs)
    · rw [heff]
      exact State.alignDie_onlyTime.pending
  case ended => rw [State.now_showSlew, State.now_slewEnded, RidgeSt.untilDone_eq]

end Sys2Proof.Machine
end

section
/-! The ridge line (17 R628–R634): the frames that arrive and leave, a MARKER's measurement, and the correction that an applied one makes. -/

namespace Sys2Proof.Machine

section
variable {s : State} {t : BitVec 64} {d : BitVec 32} {cw ccw : Nat} {off : Int} {crc : Bool}

/-! Frames are regenerated, and nothing else of the package changes. -/

theorem State.regen_of_open {code : Nat} {b : List Byte} (hopen : s.ridgeOpen = true) (hm : s.flag .tim F.TIM_STATUS_MASTER = false) :
    s.regen code b = s.emit (.ridge code b) := if_pos (by simp [hopen, hm])

/-- What a regenerated frame leaves: all but the outputs. -/
theorem State.regen_reads {β : Type} {g : State → β} (hg : ∀ (u : State) (o : Output), g (u.emit o) = g u) (s : State) (code : Nat) (b : List Byte) :
    g (s.regen code b) = g s := by
  unfold State.regen
  split
  · exact hg s _
  · rfl

theorem State.regen_quiet (s : State) (code : Nat) (b : List Byte) : (s.regen code b).quiet = s.quiet := State.regen_reads State.emit_quiet s code b
theorem State.regen_pending (s : State) (code : Nat) (b : List Byte) : (s.regen code b).pending = s.pending := State.regen_reads State.emit_pending s code b
theorem State.regen_ridge (s : State) (code : Nat) (b : List Byte) : (s.regen code b).ridge = s.ridge := State.regen_reads State.emit_ridge s code b
theorem State.regen_gtime (s : State) (code : Nat) (b : List Byte) : (s.regen code b).gtime = s.gtime := State.regen_reads State.emit_gtime s code b

theorem State.regen_master (s : State) (code : Nat) (b : List Byte) (p : Page) (f : Field) : (s.regen code b).flag p f = s.flag p f :=
  State.regen_reads (g := fun u => u.flag p f) (fun u o => by simp) s code b

/-- The master takes no frame, nor does a package whose ridge line is not up. -/
theorem State.regen_of_master {code : Nat} {b : List Byte} (hm : s.flag .tim F.TIM_STATUS_MASTER = true) : s.regen code b = s := if_neg (by simp [hm])

/-! MARKER_EMIT. -/

theorem markerEmit_silent {w : BitVec 32} (h : s.flag .tim F.TIM_STATUS_MASTER = false ∨ s.ridgeOpen = false ∨ (s.now pd0).toNat % 0x100000 ≠ 0) :
    markerEmit w s = s := if_pos (by simpa [or_assoc] using h)

theorem markerEmit_sends {w : BitVec 32} (hm : s.flag .tim F.TIM_STATUS_MASTER = true) (hopen : s.ridgeOpen = true) (hdue : (s.now pd0).toNat % 0x100000 = 0) :
    markerEmit w s = State.emit { s with ridge := { s.ridge with sent := true } }
      (.ridge 1 (leBytes (s.now pd0).toNat 8 ++ leBytes (if s.ridge.sent then w else 0xFFFFFFFF).toNat 4)) := if_neg (by simp [hm, hopen, hdue])

/-! The correction of an applied MARKER. -/

theorem State.correct_regs (s : State) (off : Int) : (s.correct off).regs = s.regs := by
  simp only [State.correct, apply_ite State.regs, ite_self]

theorem State.correct_fuses (s : State) (off : Int) : (s.correct off).fuses = s.fuses := by
  simp only [State.correct, apply_ite State.fuses, ite_self]

theorem State.correct_rd (s : State) (off : Int) (a : Nat) : (s.correct off).rd a = s.rd a := by
  rw [State.rd, State.rd, State.correct_regs, State.correct_fuses]

theorem State.correct_pending (s : State) (off : Int) : (s.correct off).pending = s.pending := by
  simp only [State.correct, apply_ite State.pending, ite_self]

theorem State.correct_quiet (s : State) (off : Int) : (s.correct off).quiet = s.quiet := by
  simp only [State.correct]
  split
  · rfl
  · split
    · rfl
    · split <;> rfl

theorem State.correct_prevD (s : State) (off : Int) : (s.correct off).ridge.prevD = s.ridge.prevD := by
  simp only [State.correct]
  split
  · rfl
  · split
    · rfl
    · split <;> rfl

/-- The correction moves PD0's GTIME alone. -/
theorem State.now_correct_ne {k : Die} (hk : k ≠ pd0) : (s.correct off).now k = s.now k := by
  simp only [State.correct]
  split
  · rfl
  · split
    · rfl
    · split
      · rfl
      · exact Store.get_set_ne _ _ (Fin.val_ne_of_ne (Ne.symm hk)) _

/-- An offset within a tick, or one that comes while GTIME holds, is not corrected. -/
theorem State.correct_none (h : off.natAbs ≤ 48 ∨ s.ridge.hold ≠ 0) : s.correct off = { s with ridge := { s.ridge with applied := true } } := by
  simp only [State.correct]
  rw [if_pos (by simpa using h)]

section
variable (hoff : 48 < off.natAbs) (hhold : s.ridge.hold = 0)
include hoff hhold

/-- A later MARKER slews. -/
theorem State.correct_slews (happ : s.ridge.applied = true) : s.correct off =
    { s with ridge := { s.ridge with slew := if 0 < off then ((off.natAbs / 48 : Nat) : Int) else -((off.natAbs / 48 : Nat) : Int), applied := true } } := by
  simp only [State.correct]
  rw [if_neg (by simp [hhold, hoff]), if_pos happ]

/-- The first holds where GTIME is ahead. -/
theorem State.correct_holds (happ : s.ridge.applied = false) (hpos : 0 < off) :
    s.correct off = { s with ridge := { s.ridge with hold := off.natAbs / 48, applied := true } } := by
  simp only [State.correct]
  rw [if_neg (by simp [hhold, hoff]), if_neg (by simp [happ]), if_pos hpos]

/-- The first steps forward where GTIME is behind. -/
theorem State.correct_steps (happ : s.ridge.applied = false) (hneg : ¬ 0 < off) :
    (s.correct off).now pd0 = s.now pd0 + BitVec.ofNat 64 (off.natAbs / 48) ∧ (s.correct off).ridge = { s.ridge with applied := true } := by
  simp only [State.correct]
  rw [if_neg (by simp [hhold, hoff]), if_neg (by simp [happ]), if_neg hneg]
  exact ⟨Store.get_set_self _ _ _ _, rfl⟩

end

/-! A MARKER that is measured. -/

/-- TIM_OFF and ALIGNED show the offset of a MARKER that carries a measurement. -/
def State.offShown (s : State) (d : BitVec 32) (off : Int) : State :=
  if d = 0xFFFFFFFF then s else
    (s.wr (Page.base .tim + F.TIM_OFF_OFF.off) (BitVec.ofInt 32 off)).setFld .tim F.TIM_STATUS_ALIGNED (decide (off.natAbs ≤ 48)).toNat

/-- A MARKER is measured and remembered. -/
def State.measuredMarker (s : State) (d : BitVec 32) (off : Int) : State :=
  { s.offShown d off with ridge := { (s.offShown d off).ridge with prevD := some d } }

/-- A MARKER is applied. -/
def State.appliedMarker (s : State) (off : Int) : State := (s.correct off).showSlew.fireEvent .tim 2

theorem State.offShown_onlyRegs : (s.offShown d off).OnlyRegs s := .ite (.refl s) ((State.OnlyRegs.wr s _ _).trans (.setFld _ _ _ _))

theorem State.offShown_ridge : (s.offShown d off).ridge = s.ridge := by rw [State.offShown_onlyRegs]
theorem State.offShown_gtime : (s.offShown d off).gtime = s.gtime := by rw [State.offShown_onlyRegs]

theorem State.measuredMarker_quiet : (s.measuredMarker d off).quiet = s.quiet := by
  rw [State.measuredMarker, State.quiet_with_ridge, State.offShown_onlyRegs]
  rfl

theorem State.measuredMarker_pending : (s.measuredMarker d off).pending = s.pending := by
  rw [State.measuredMarker, State.pending_with_ridge, State.offShown_onlyRegs]

theorem State.measuredMarker_ridge : (s.measuredMarker d off).ridge = { s.ridge with prevD := some d } :=
  congrArg (fun r : RidgeSt => { r with prevD := some d }) State.offShown_ridge

theorem State.measuredMarker_gtime : (s.measuredMarker d off).gtime = s.gtime := State.offShown_gtime (d := d) (off := off)

theorem State.measuredMarker_rd (a : Nat) : (s.measuredMarker d off).rd a = (s.offShown d off).rd a := rfl

theorem State.offShown_off (hd : d ≠ 0xFFFFFFFF) : (s.offShown d off).rd (Page.base .tim + F.TIM_OFF_OFF.off) = BitVec.ofInt 32 off := by
  rw [State.offShown, if_neg hd, State.rd_setFld_ne _ _ _ _ _ (by simp [F.TIM_OFF_OFF, F.TIM_STATUS_ALIGNED]), State.rd_wr_self]

theorem State.offShown_aligned (hd : d ≠ 0xFFFFFFFF) : (s.offShown d off).fld .tim F.TIM_STATUS_ALIGNED = if off.natAbs ≤ 48 then 1 else 0 := by
  rw [State.offShown, if_neg hd, State.fld_setFld _ _ _ _ (by decide)]
  by_cases h : off.natAbs ≤ 48 <;> simp [h, F.TIM_STATUS_ALIGNED]

/-- An applied MARKER leaves what TIM_OFF and ALIGNED show. -/
theorem State.appliedMarker_off : (s.appliedMarker off).rd (Page.base .tim + F.TIM_OFF_OFF.off) = s.rd (Page.base .tim + F.TIM_OFF_OFF.off) := by
  have hword (u : State) : u.rd (Page.base .tim + F.TIM_OFF_OFF.off) = BitVec.ofNat 32 (u.fld .tim F.TIM_OFF_OFF) := by
    simp [State.fld, getF, F.TIM_OFF_OFF, Nat.mod_eq_of_lt (BitVec.isLt _)]
  rw [State.appliedMarker, hword, State.fld_fireEvent _ _ _ (by decide), State.showSlew, State.fld_setFld_off _ _ _ _ _ (by decide), ← hword, State.correct_rd]

theorem State.appliedMarker_aligned : (s.appliedMarker off).fld .tim F.TIM_STATUS_ALIGNED = s.fld .tim F.TIM_STATUS_ALIGNED := by
  rw [State.appliedMarker, State.fld_fireEvent _ _ _ (by decide), State.showSlew, State.fld_setFld_other _ _ _ _ _ (by decide), State.fld, State.fld,
    State.correct_rd]

theorem State.appliedMarker_ridge : (s.appliedMarker off).ridge = (s.correct off).ridge := by
  rw [State.appliedMarker, State.fireEvent_ridge, State.showSlew, State.setFld_ridge]

theorem State.appliedMarker_gtime : (s.appliedMarker off).gtime = (s.correct off).gtime := by
  rw [State.appliedMarker, State.fireEvent_gtime, State.showSlew, State.setFld_gtime]

theorem State.appliedMarker_quiet : (s.appliedMarker off).quiet = s.quiet := by
  rw [State.appliedMarker, State.fireEvent_quiet, State.showSlew, State.setFld_quiet, State.correct_quiet]

theorem State.appliedMarker_pending : (s.appliedMarker off).pending = s.pending := by
  rw [State.appliedMarker, State.fireEvent_pending, State.showSlew, State.setFld_pending, State.correct_pending]

/-! MARKER. -/

/-- The bytes of a MARKER. -/
abbrev markerBytes (t : BitVec 64) (d : BitVec 32) : List Byte := leBytes t.toNat 8 ++ leBytes d.toNat 4

/-- What a MARKER that is regenerated and measured leaves. -/
abbrev State.markerTaken (s : State) (t : BitVec 64) (d : BitVec 32) (cw ccw : Nat) : State :=
  (s.regen 1 (markerBytes t d)).measuredMarker d (markerOff t d cw ccw)

theorem marker_ignored (h : s.ridgeUp = false ∨ s.flag .tim F.TIM_STATUS_MASTER = true) : marker t d cw ccw crc s = s := by
  unfold marker
  rcases h with h | h
  · exact if_pos (by simp [h])
  · simp only [State.regen_of_master h, h, Bool.or_true, if_true, ite_self]

section
variable (hup : s.ridgeUp = true) (hm : s.flag .tim F.TIM_STATUS_MASTER = false)
include hup

theorem marker_bad : marker t d cw ccw false s = s.regen 1 (markerBytes t d) := by simp [marker, hup]

include hm

theorem marker_good : marker t d cw ccw true s =
    if (match s.ridge.prevD with | some e => nearD d e | none => false) then (s.markerTaken t d cw ccw).appliedMarker (markerOff t d cw ccw)
    else s.markerTaken t d cw ccw := by
  unfold marker
  rw [if_neg (by simp [hup])]
  dsimp only
  rw [if_neg (by simp [State.regen_master, hm]), State.regen_ridge]
  rfl

/-- A MARKER whose D is not near that of the one before is measured alone. -/
theorem marker_first (h : ∀ e, s.ridge.prevD = some e → nearD d e = false) : marker t d cw ccw true s = s.markerTaken t d cw ccw := by
  rw [marker_good hup hm, if_neg]
  cases hp : s.ridge.prevD with
  | none => simp
  | some e => simp [h e hp]

theorem marker_near {e : BitVec 32} (hp : s.ridge.prevD = some e) (hnear : nearD d e = true) :
    marker t d cw ccw true s = (s.markerTaken t d cw ccw).appliedMarker (markerOff t d cw ccw) := by
  rw [marker_good hup hm, if_pos (by simp [hp, hnear])]

end

theorem State.markerTaken_ridge : (s.markerTaken t d cw ccw).ridge = { s.ridge with prevD := some d } := by
  rw [State.measuredMarker_ridge, State.regen_ridge]

theorem State.markerTaken_gtime : (s.markerTaken t d cw ccw).gtime = s.gtime := by rw [State.measuredMarker_gtime, State.regen_gtime]

theorem State.markerTaken_quiet : (s.markerTaken t d cw ccw).quiet = s.quiet := by rw [State.measuredMarker_quiet, State.regen_quiet]

theorem State.markerTaken_pending : (s.markerTaken t d cw ccw).pending = s.pending := by rw [State.measuredMarker_pending, State.regen_pending]

theorem State.markerTaken_off (hd : d ≠ 0xFFFFFFFF) :
    (s.markerTaken t d cw ccw).rd (Page.base .tim + F.TIM_OFF_OFF.off) = BitVec.ofInt 32 (markerOff t d cw ccw) :=
  (State.measuredMarker_rd _).trans (State.offShown_off hd)

theorem State.markerTaken_aligned (hd : d ≠ 0xFFFFFFFF) :
    (s.markerTaken t d cw ccw).fld .tim F.TIM_STATUS_ALIGNED = if (markerOff t d cw ccw).natAbs ≤ 48 then 1 else 0 := State.offShown_aligned hd

theorem State.now_markerTaken (k : Die) : (s.markerTaken t d cw ccw).now k = s.now k := State.now_of_gtime State.markerTaken_gtime k

theorem State.now_appliedMarker (k : Die) : (s.appliedMarker off).now k = (s.correct off).now k := State.now_of_gtime State.appliedMarker_gtime k

/-- What a MARKER that is taken leaves is the same whether it is applied or not: the packets that wait, the queue, and what TIM_OFF and ALIGNED show. -/
theorem marker_reads {β : Type} {g : State → β} (hup : s.ridgeUp = true) (hm : s.flag .tim F.TIM_STATUS_MASTER = false)
    (hg : ∀ u : State, g (u.appliedMarker (markerOff t d cw ccw)) = g u) : g (marker t d cw ccw true s) = g (s.markerTaken t d cw ccw) := by
  rw [marker_good hup hm]
  exact FaultBlind.ite_of_eq (hg _) rfl

theorem marker_prevD (hup : s.ridgeUp = true) (hm : s.flag .tim F.TIM_STATUS_MASTER = false) : (marker t d cw ccw true s).ridge.prevD = some d := by
  rw [marker_reads (g := fun u => u.ridge.prevD) hup hm fun u => by rw [State.appliedMarker_ridge, State.correct_prevD], State.markerTaken_ridge]

theorem run_marker (hs : s.settled = true) (hup : s.ridgeUp = true) (hm : s.flag .tim F.TIM_STATUS_MASTER = false) :
    run (marker t d cw ccw true) s = .next (marker t d cw ccw true s) := by
  refine run_quiet hs ?_ ?_
  · rw [marker_reads (g := State.quiet) hup hm fun _ => State.appliedMarker_quiet, State.markerTaken_quiet, State.settled_quiet hs]
  · rw [marker_reads (g := State.pending) hup hm fun _ => State.appliedMarker_pending, State.markerTaken_pending]

/-! STOP, WAKE and MARKER_LOST. -/

section
variable (hup : s.ridgeUp = true) (hm : s.flag .tim F.TIM_STATUS_MASTER = false)
include hup

theorem stopFrame_bad : stopFrame false s = s.regen 2 [] := by simp [stopFrame, hup]

theorem wakeFrame_bad (m : BitVec 64) : wakeFrame m false s = s.regen 3 (leBytes m.toNat 8) := by simp [wakeFrame, hup]

include hm

theorem stopFrame_good : stopFrame true s = (s.regen 2 []).raise .tim 0x101 4 {} := by simp [stopFrame, hup, State.regen_master, hm]

theorem wakeFrame_good (m : BitVec 64) : wakeFrame m true s = (s.regen 3 (leBytes m.toNat 8)).woken m := by simp [wakeFrame, hup, State.regen_master, hm]

theorem markerLost_up : markerLost s = s.raise .tim 0x100 1 {} := if_pos (by simp [hup, hm])

end

section
variable (hdown : s.ridgeUp = false)
include hdown

theorem stopFrame_down : stopFrame crc s = s := if_pos (by simp [hdown])

theorem wakeFrame_down (m : BitVec 64) : wakeFrame m crc s = s := if_pos (by simp [hdown])

theorem markerLost_down : markerLost s = s := if_neg (by simp [hdown])

end

end

/-- Settles O52: each clause is the rule above for its frame, and for a MARKER for the offset it finds. -/
theorem ridgeFramesAct : Obligations.RidgeFramesAct := by
  refine ⟨fun s w hs => ⟨fun hm hopen hdue => run_quiet_of_eq hs (markerEmit_sends hm hopen hdue) ?sentQuiet rfl, fun h => run_same hs (markerEmit_silent h)⟩,
    fun s t d cw ccw crc hs h => run_same hs (marker_ignored h),
    fun s t d cw ccw hs hup hm => ⟨run_quiet_of_eq hs (marker_bad hup) ?badQuiet (s.regen_pending _ _), _, run_marker hs hup hm, marker_prevD hup hm, fun hd => ⟨?off, ?aligned⟩,
      fun hfirst => ?first, fun e hp hnear => ?applied⟩,
    fun s hon hup hm => ⟨run_of_eq hon (stopFrame_good hup hm), run_of_eq hon (stopFrame_bad hup), run_of_eq hon (markerLost_up hup hm),
      fun m => ⟨run_of_eq hon (wakeFrame_good hup hm m), run_of_eq hon (wakeFrame_bad hup m)⟩⟩,
    fun s code b => State.regen_of_open, fun s m => ⟨fun h => if_pos h, fun h => if_neg (by simp [h])⟩,
    fun s c m hs hdown => ⟨run_same hs (stopFrame_down hdown), run_same hs (wakeFrame_down hdown m), run_same hs (markerLost_down hdown)⟩⟩
  case sentQuiet => rw [State.emit_quiet, State.quiet_with_ridge, State.settled_quiet hs]
  case badQuiet => rw [State.regen_quiet, State.settled_quiet hs]
  case off => rw [marker_reads (g := fun u => u.rd _) hup hm fun _ => State.appliedMarker_off, State.markerTaken_off hd]
  case aligned => rw [marker_reads (g := fun u => u.fld _ _) hup hm fun _ => State.appliedMarker_aligned, State.markerTaken_aligned hd]
  case first =>
    rw [marker_first hup hm hfirst]
    exact ⟨State.markerTaken_gtime, State.markerTaken_ridge⟩
  case applied =>
    rw [marker_near hup hm hp hnear, State.appliedMarker_ridge, State.appliedMarker_gtime]
    simp only [State.now_appliedMarker]
    have hridge : (s.markerTaken t d cw ccw).ridge = { s.ridge with prevD := some d } := State.markerTaken_ridge
    have hkept : (s.markerTaken t d cw ccw).ridge.hold = s.ridge.hold := by rw [hridge]
    have hslew : (s.markerTaken t d cw ccw).ridge.slew = s.ridge.slew := by rw [hridge]
    have hhold (h : s.ridge.hold = 0) : (s.markerTaken t d cw ccw).ridge.hold = 0 := hkept.trans h
    have hfirst (h : s.ridge.applied = false) : (s.markerTaken t d cw ccw).ridge.applied = false := (congrArg RidgeSt.applied hridge).trans h
    have hlater (h : s.ridge.applied = true) : (s.markerTaken t d cw ccw).ridge.applied = true := (congrArg RidgeSt.applied hridge).trans h
    refine ⟨rfl, fun k hk => (State.now_correct_ne hk).trans (State.now_markerTaken k), fun h => ?_, fun happ h0 hoff => ?_, fun happ h0 hoff => ?_,
      fun happ h0 hoff => ?_, fun happ h0 hoff => ?_⟩
    · rw [State.correct_none (by rwa [hridge])]
      exact ⟨State.markerTaken_gtime, hkept, hslew⟩
    · obtain ⟨hnow, hcorrected⟩ := State.correct_steps (off := markerOff t d cw ccw) (by omega) (hhold h0) (hfirst happ) (by omega)
      rw [hnow, hcorrected, State.now_markerTaken, hridge]
      exact ⟨rfl, rfl, rfl⟩
    · rw [State.correct_holds (by omega) (hhold h0) (hfirst happ) (by omega)]
      exact ⟨State.now_markerTaken pd0, rfl, hslew⟩
    · rw [State.correct_slews (by omega) (hhold h0) (hlater happ), if_pos (by omega)]
      exact ⟨State.now_markerTaken pd0, rfl⟩
    · rw [State.correct_slews (by omega) (hhold h0) (hlater happ), if_neg (by omega)]
      exact ⟨State.now_markerTaken pd0, rfl⟩

end Sys2Proof.Machine
end

section
/-! The reference and the root PLLs (17 R621, R641; 01 R44): holdover of every die, and a PLL that loses lock. -/

namespace Sys2Proof.Machine

section
variable {s : State} {d e : Die}

/-- A die goes into holdover, which its clock page tells. -/
def State.holdOver (s : State) (d : Die) : State :=
  ((s.setFld (.clk d) F.CLK_STATUS_REF_PRESENT 0).setFld (.clk d) F.CLK_STATUS_HOLDOVER 1).fireEvent (.clk d) 1

/-- A die's PLL has the reference again. -/
def State.relock (s : State) (d : Die) : State := (s.setFld (.clk d) F.CLK_STATUS_REF_PRESENT 1).setFld (.clk d) F.CLK_STATUS_HOLDOVER 0

theorem State.holdOver_onlyRegs : (s.holdOver d).OnlyRegs s :=
  ((State.OnlyRegs.setFld s _ _ _).trans (.setFld _ _ _ _)).trans (.fireEvent _ _ _)

theorem State.relock_onlyRegs : (s.relock d).OnlyRegs s := (State.OnlyRegs.setFld s _ _ _).trans (.setFld _ _ _ _)

theorem clk_ne (h : d ≠ e) : Page.clk d ≠ .clk e := by simp [h]

/-- Another die's clock page is as it was. -/
theorem State.fld_holdOver_ne (h : d ≠ e) {f : Field} (hf : f.off < 0x1000) : (s.holdOver d).fld (.clk e) f = s.fld (.clk e) f := by
  rw [State.holdOver, State.fld_fireEvent_page _ hf _ (clk_ne h), State.fld_setFld_page _ _ _ _ (by decide) hf (clk_ne h),
    State.fld_setFld_page _ _ _ _ (by decide) hf (clk_ne h)]

theorem State.fld_relock_ne (h : d ≠ e) {f : Field} (hf : f.off < 0x1000) : (s.relock d).fld (.clk e) f = s.fld (.clk e) f := by
  rw [State.relock, State.fld_setFld_page _ _ _ _ (by decide) hf (clk_ne h), State.fld_setFld_page _ _ _ _ (by decide) hf (clk_ne h)]

theorem State.holdOver_holdover : (s.holdOver d).fld (.clk d) F.CLK_STATUS_HOLDOVER = 1 := by
  rw [State.holdOver, State.fld_fireEvent _ _ _ (by decide), State.fld_setFld _ _ _ _ (by decide)]
  rfl

theorem State.holdOver_reference : (s.holdOver d).fld (.clk d) F.CLK_STATUS_REF_PRESENT = 0 := by
  rw [State.holdOver, State.fld_fireEvent _ _ _ (by decide), State.fld_setFld_other _ _ _ _ _ (by decide), State.fld_setFld _ _ _ _ (by decide)]
  rfl

theorem State.relock_holdover : (s.relock d).fld (.clk d) F.CLK_STATUS_HOLDOVER = 0 := by
  rw [State.relock, State.fld_setFld _ _ _ _ (by decide)]
  rfl

theorem State.relock_reference : (s.relock d).fld (.clk d) F.CLK_STATUS_REF_PRESENT = 1 := by
  rw [State.relock, State.fld_setFld_other _ _ _ _ _ (by decide), State.fld_setFld _ _ _ _ (by decide)]
  rfl

/-- An event leaves BLK_CTRL. -/
theorem State.fireEvent_enable (s : State) (p : Page) (j : Nat) : (s.fireEvent p j).fld p F.BLK_CTRL_ENABLE = s.fld p F.BLK_CTRL_ENABLE := by
  have hword (t : State) (o v : Nat) (ho : o ≠ 8) : (t.setFld p ⟨o, j, 1⟩ v).fld p F.BLK_CTRL_ENABLE = t.fld p F.BLK_CTRL_ENABLE :=
    t.fld_setFld_off p ⟨o, j, 1⟩ F.BLK_CTRL_ENABLE v ho
  have hbit : (s.setFld p (evtBit j) 1).fld p F.BLK_CTRL_ENABLE = s.fld p F.BLK_CTRL_ENABLE := hword s _ 1 (by decide)
  have hcount (v : Nat) := (State.fld_setFld_off _ p F.EVT_COUNT_COUNT F.BLK_CTRL_ENABLE v (by decide)).trans hbit
  exact State.fld_ite_of_eq rfl (State.fld_ite_of_eq (State.fld_ite_of_eq ((hword _ _ _ (by decide)).trans hbit) (hcount _)) hbit)

theorem State.holdOver_enable : (s.holdOver d).fld (.clk d) F.BLK_CTRL_ENABLE = s.fld (.clk d) F.BLK_CTRL_ENABLE := by
  rw [State.holdOver, State.fireEvent_enable, State.fld_setFld_off _ _ _ _ _ (by decide), State.fld_setFld_off _ _ _ _ _ (by decide)]

/-- A clock page that is enabled tells the holdover. -/
theorem State.holdOver_tells (h : s.fld (.clk d) F.BLK_CTRL_ENABLE = 1) : (s.holdOver d).flag (.clk d) (evtBit 1) = true := by
  refine State.flag_fireEvent_bit ?_ (by decide)
  rw [State.fld_setFld_off _ _ _ _ _ (by decide), State.fld_setFld_off _ _ _ _ _ (by decide), h]

/-! Every die. -/

theorem State.fld_allHoldOver {f : Field} {v : Nat} (hself : ∀ t : State, (t.holdOver d).fld (.clk d) f = v) (hf : f.off < 0x1000) :
    (allDies.foldl State.holdOver s).fld (.clk d) f = v :=
  (foldl_once State.holdOver (fun t => t.fld (.clk d) f) (fun _ => v) d hself (fun _ _ h => State.fld_holdOver_ne h hf) allDies_nodup s).trans
    (if_pos (List.mem_finRange d))

theorem State.fld_allRelock {f : Field} {v : Nat} (hself : ∀ t : State, (t.relock d).fld (.clk d) f = v) (hf : f.off < 0x1000) :
    (allDies.foldl State.relock s).fld (.clk d) f = v :=
  (foldl_once State.relock (fun t => t.fld (.clk d) f) (fun _ => v) d hself (fun _ _ h => State.fld_relock_ne h hf) allDies_nodup s).trans
    (if_pos (List.mem_finRange d))

/-- Whether a clock page has told an event or is not enabled. -/
def State.told (s : State) (d : Die) : Bool := s.fld (.clk d) F.BLK_CTRL_ENABLE != 1 || s.flag (.clk d) (evtBit 1)

theorem State.told_allHoldOver : (allDies.foldl State.holdOver s).told d = true := by
  refine (foldl_once State.holdOver (fun t => t.told d) (fun _ => true) d (fun t => ?self) (fun t e h => ?other) allDies_nodup s).trans (if_pos (List.mem_finRange d))
  case self =>
    by_cases hen : t.fld (.clk d) F.BLK_CTRL_ENABLE = 1
    · simp [State.told, State.holdOver_tells hen]
    · simp [State.told, State.holdOver_enable, hen]
  case other => rw [State.told, State.told, State.flag, State.flag, State.fld_holdOver_ne h (by decide), State.fld_holdOver_ne h (by decide)]

theorem State.enable_allHoldOver : (allDies.foldl State.holdOver s).fld (.clk d) F.BLK_CTRL_ENABLE = s.fld (.clk d) F.BLK_CTRL_ENABLE := by
  refine foldl_keeps (g := fun t : State => t.fld (.clk d) F.BLK_CTRL_ENABLE) (fun t e => ?_) allDies s
  by_cases h : e = d
  · rw [h, State.holdOver_enable]
  · exact State.fld_holdOver_ne h (by decide)

/-! The count of lost references, and ALIGNED. -/

/-- The reference is lost: every die holds over, CLK counts, and ALIGNED ends. -/
def State.refLost (s : State) : State := ((allDies.foldl State.holdOver s).bump (.clk pd0) C.CLK_REF_LOST 1).setFld .tim F.TIM_STATUS_ALIGNED 0

theorem State.refLost_onlyRegs : s.refLost.OnlyRegs s :=
  ((State.OnlyRegs.foldl (fun _ _ => State.holdOver_onlyRegs) allDies s).trans (.bump _ _ _ _)).trans (.setFld _ _ _ _)

/-- The count and ALIGNED leave the words of a clock page but the count's own. -/
theorem State.fld_refLost {f : Field} (hlo : f.off < 0x1000) (h0 : f.off ≠ C.CLK_REF_LOST) (h4 : f.off ≠ C.CLK_REF_LOST + 4) :
    s.refLost.fld (.clk d) f = (allDies.foldl State.holdOver s).fld (.clk d) f := by
  rw [State.refLost, State.fld_setFld_page _ _ _ _ (by decide) hlo (by simp)]
  by_cases h : pd0 = d
  · rw [h]
    exact State.fld_bump_ne h0 h4
  · exact State.fld_bump_page _ (off := C.CLK_REF_LOST) (by decide) hlo (clk_ne h)

theorem State.counter_of_rd {t : State} {p : Page} {off : Nat} (hlo : t.rd (p.base + off) = s.rd (p.base + off))
    (hhi : t.rd (p.base + (off + 4)) = s.rd (p.base + (off + 4))) : t.counter p off = s.counter p off := by
  unfold State.counter
  rw [Nat.add_assoc, hlo, hhi]

theorem State.counter_setFld_page {p q : Page} {f : Field} {v off : Nat} (hf : f.off < 0x1000) (hoff : off + 4 < 0x1000) (h : p ≠ q) :
    (s.setFld p f v).counter q off = s.counter q off :=
  State.counter_of_rd (s.rd_setFld_page f v off hf (by omega) h) (s.rd_setFld_page f v (off + 4) hf hoff h)

/-- A register word past the ones that every page has, of a clock page's own, is as it was after a holdover but for CLK_STATUS. -/
theorem State.rd_holdOver {off : Nat} (hoff : off < 0x1000) (hlo : 0x100 ≤ off) (hstatus : off ≠ F.CLK_STATUS_HOLDOVER.off) :
    (s.holdOver d).rd (Page.base (.clk e) + off) = s.rd (Page.base (.clk e) + off) := by
  have hword (t : State) : t.rd (Page.base (.clk e) + off) = BitVec.ofNat 32 (t.fld (.clk e) ⟨off, 0, 32⟩) := by
    simp [State.fld, getF, Nat.mod_eq_of_lt (BitVec.isLt _)]
  rw [hword, hword]
  by_cases h : d = e
  · subst h
    rw [State.holdOver, State.fld_fireEvent _ _ _ hlo, State.fld_setFld_off _ _ _ ⟨off, 0, 32⟩ _ hstatus.symm,
      State.fld_setFld_off _ _ F.CLK_STATUS_REF_PRESENT ⟨off, 0, 32⟩ _ hstatus.symm]
  · rw [State.fld_holdOver_ne h hoff]

theorem State.counter_holdOver : (s.holdOver d).counter (.clk e) C.CLK_REF_LOST = s.counter (.clk e) C.CLK_REF_LOST :=
  State.counter_of_rd (State.rd_holdOver (by decide) (by decide) (by decide)) (State.rd_holdOver (off := C.CLK_REF_LOST + 4) (by decide) (by decide) (by decide))

theorem State.counter_refLost :
    s.refLost.counter (.clk pd0) C.CLK_REF_LOST = min 0xFFFFFFFFFFFF (s.counter (.clk pd0) C.CLK_REF_LOST + 1) := by
  rw [State.refLost, State.counter_setFld_page (by decide) (by decide) (by simp), State.counter_bump,
    foldl_keeps (g := fun t : State => t.counter (.clk pd0) C.CLK_REF_LOST) (fun _ _ => State.counter_holdOver)]

/-! The commands. -/

theorem refclkLoss_present (hpres : s.fld (.clk pd0) F.CLK_STATUS_REF_PRESENT = 1) (hmode : s.fld (.clk pd0) F.CLK_STATUS_REFLOST_MODE = 0) :
    refclkLoss s = s.refLost.raise (.clk pd0) 0x100 1 {} := if_neg (by simp [hpres, hmode])

theorem refclkLoss_absent (h : s.fld (.clk pd0) F.CLK_STATUS_REF_PRESENT = 0) : refclkLoss s = s := if_pos (by simp [h])

theorem refclkReturn_held (h : s.fld (.clk pd0) F.CLK_STATUS_HOLDOVER = 1) : refclkReturn s = allDies.foldl State.relock s := if_neg (by simp [h])

theorem holdoverExpired_held (h : s.fld (.clk pd0) F.CLK_STATUS_HOLDOVER = 1) : holdoverExpired s = s.raise (.clk pd0) 0x103 4 {} := if_neg (by simp [h])

theorem pllUnlock_pd0 (h : s.fld (.clk pd0) F.CLK_STATUS_LOCK = 1) :
    pllUnlock pd0 s = (s.setFld (.clk pd0) F.CLK_STATUS_LOCK 0).raise (.clk pd0) 0x102 4 {} := by
  simp [pllUnlock, h]

theorem pllUnlock_other (h : s.fld (.clk d) F.CLK_STATUS_LOCK = 1) (hd : d ≠ pd0) :
    pllUnlock d s = ((s.setFld (.clk d) F.CLK_STATUS_LOCK 0).raise (.clk d) 0x101 1 {}).fenceDie d := by
  simp [pllUnlock, h, hd]

end

/-- Settles O49: each clause is the rule above for its command, and the words of the clock pages are read die by die. -/
theorem referenceIsHeldOver : Obligations.ReferenceIsHeldOver := by
  refine ⟨fun s hon hpres hmode => ⟨s.refLost, run_of_eq hon (refclkLoss_present hpres hmode), fun d => ⟨?holdover, ?reference, fun hen => ?told⟩, ?aligned,
      State.counter_refLost, State.refLost_onlyRegs⟩,
    fun s hon hheld => ⟨⟨_, run_of_eq hon (refclkReturn_held hheld), fun d => ⟨State.fld_allRelock (fun _ => State.relock_holdover) (by decide),
        State.fld_allRelock (fun _ => State.relock_reference) (by decide)⟩, State.OnlyRegs.foldl (fun _ _ => State.relock_onlyRegs) allDies s⟩,
      run_of_eq hon (holdoverExpired_held hheld)⟩,
    fun s hs h => ⟨run_same hs (if_pos h), run_same hs (if_pos h)⟩,
    fun s d hon hlock => ⟨fun hd => ?pd0, fun hd => run_of_eq hon (pllUnlock_other hlock hd)⟩,
    fun s hs h => run_same hs (refclkLoss_absent h), fun s d hs h => run_same hs (if_pos h)⟩
  case holdover => rw [State.fld_refLost (by decide) (by decide) (by decide), State.fld_allHoldOver (fun _ => State.holdOver_holdover) (by decide)]
  case reference => rw [State.fld_refLost (by decide) (by decide) (by decide), State.fld_allHoldOver (fun _ => State.holdOver_reference) (by decide)]
  case told =>
    have htold := State.told_allHoldOver (s := s) (d := d)
    rw [State.flag, State.fld_refLost (by decide) (by decide) (by decide)]
    simpa [State.told, State.enable_allHoldOver, hen, State.flag] using htold
  case aligned => exact State.fld_setFld _ _ _ _ (by decide)
  case pd0 =>
    subst hd
    exact run_of_eq hon (pllUnlock_pd0 hlock)

end Sys2Proof.Machine
end

section
/-! BAR2 accesses (16 R588, R590–R592, R595): how a write is split, what waits, and what the safe state leaves of what waits. -/

namespace Sys2Proof.Machine

/-! The runs of a write (R590). -/

section
variable (a n x u : Nat)

/-- A run covers a byte. -/
def covers (x : Nat) (r : Nat × Nat) : Bool := decide (r.1 ≤ x) && decide (x < r.1 + r.2)

/-- What of the span lies between two addresses, as one run. -/
def runWithin (lo hi : Nat) : List (Nat × Nat) := if max a lo < min (a + n) hi then [(max a lo, min (a + n) hi - max a lo)] else []

/-- The runs of one 64-byte unit. -/
def unitRuns : List (Nat × Nat) :=
  if a ≤ 64 * u && 64 * u + 64 ≤ a + n then [(64 * u, 64)] else runWithin a n (64 * u) (64 * u + 32) ++ runWithin a n (64 * u + 32) (64 * u + 64)

theorem writeRuns_eq : writeRuns a n = (unitsOf a n).flatMap (unitRuns a n) := rfl

theorem countP_runWithin (lo hi : Nat) :
    (runWithin a n lo hi).countP (covers x) = if (a ≤ x ∧ x < a + n) ∧ lo ≤ x ∧ x < hi then 1 else 0 := by
  unfold runWithin
  split
  · simp only [List.countP_singleton, covers, Bool.and_eq_true, decide_eq_true_eq]
    congr 1
    simp only [eq_iff_iff]
    omega
  · rw [if_neg (by omega)]
    rfl

/-- The runs of a unit cover its bytes of the span once. -/
theorem countP_unitRuns : (unitRuns a n u).countP (covers x) = if (a ≤ x ∧ x < a + n) ∧ x / 64 = u then 1 else 0 := by
  unfold unitRuns
  split
  · next h =>
    simp only [Bool.and_eq_true, decide_eq_true_eq] at h
    simp only [List.countP_singleton, covers, Bool.and_eq_true, decide_eq_true_eq]
    congr 1
    simp only [eq_iff_iff]
    omega
  · rw [List.countP_append, countP_runWithin, countP_runWithin]
    split <;> split <;> split <;> omega

theorem countP_unitsRuns {l : List Nat} (hl : l.Nodup) :
    (l.flatMap (unitRuns a n)).countP (covers x) = if (a ≤ x ∧ x < a + n) ∧ x / 64 ∈ l then 1 else 0 := by
  induction l with
  | nil => simp
  | cons u l ih =>
    obtain ⟨hu, hl⟩ := List.nodup_cons.1 hl
    rw [List.flatMap_cons, List.countP_append, ih hl, countP_unitRuns]
    by_cases hx : x / 64 = u
    · subst hx
      simp [hu]
    · simp [hx]

variable {a n x u}

theorem unitsOf_nodup : (unitsOf a n).Nodup := by
  unfold unitsOf
  split
  · exact List.nodup_nil
  · exact List.nodup_range.map fun i j h => by simpa using h

/-- A byte of the span lies in one of its units. -/
theorem div_mem_unitsOf (h : a ≤ x ∧ x < a + n) : x / 64 ∈ unitsOf a n := by
  unfold unitsOf
  rw [if_neg (by omega), List.mem_map]
  exact ⟨x / 64 - a / 64, by rw [List.mem_range]; omega, by omega⟩

/-- The runs of a write cover each of its bytes once, and no other. -/
theorem countP_writeRuns : (writeRuns a n).countP (covers x) = if a ≤ x ∧ x < a + n then 1 else 0 := by
  rw [writeRuns_eq, countP_unitsRuns a n x unitsOf_nodup]
  by_cases h : a ≤ x ∧ x < a + n
  · rw [if_pos ⟨h, div_mem_unitsOf h⟩, if_pos h]
  · rw [if_neg (fun e => h e.1), if_neg h]

/-- A run lies within a half-line. -/
theorem mem_runWithin {r : Nat × Nat} {lo : Nat} (hlo : lo % 32 = 0) (h : r ∈ runWithin a n lo (lo + 32)) :
    r.1 / 32 = (r.1 + r.2 - 1) / 32 ∧ 0 < r.2 ∧ r.2 ≤ 32 := by
  unfold runWithin at h
  split at h
  · obtain rfl := List.mem_singleton.1 h
    dsimp only
    omega
  · simp at h

/-- A run is a whole unit, or lies within a half-line. -/
theorem mem_writeRuns {r : Nat × Nat} (h : r ∈ writeRuns a n) :
    (r.1 % 64 = 0 ∧ r.2 = 64) ∨ (r.1 / 32 = (r.1 + r.2 - 1) / 32 ∧ 0 < r.2 ∧ r.2 ≤ 32) := by
  rw [writeRuns_eq] at h
  obtain ⟨u, -, hr⟩ := List.mem_flatMap.1 h
  unfold unitRuns at hr
  split at hr
  · obtain rfl := List.mem_singleton.1 hr
    exact .inl ⟨Nat.mul_mod_right 64 u, rfl⟩
  · rcases List.mem_append.1 hr with hr | hr
    · exact .inr (mem_runWithin (by omega) hr)
    · exact .inr (mem_runWithin (by omega) hr)

end

/-! The safe state empties what waits (R595). -/

section
variable {s : State}

theorem State.bar2Done_reads {β : Type} {g : State → β} (hg : ∀ (u : State) (o : Output), g (u.emit o) = g u) (s : State) (b : Bar2) (bs : List Byte) :
    g (s.bar2Done b bs) = g s := FaultBlind.ite_of_eq rfl (hg s _)

/-- What a reading that looks at neither outputs nor what waits makes of the safe state. -/
theorem State.bar2Fatal_reads {β : Type} {g : State → β} (hemit : ∀ (u : State) (o : Output), g (u.emit o) = g u)
    (hwait : ∀ (u : State) (l : List Bar2) (h : List HeldWrite), g { u with bar2 := l, held := h } = g u) (s : State) : g s.bar2Fatal = g s :=
  (hwait _ _ _).trans (foldl_keeps (fun t b => State.bar2Done_reads hemit t b _) s.bar2 s)

/-- An output that was sent stays sent. -/
theorem State.mem_out_bar2Done {o : Output} (h : o ∈ s.out) (b : Bar2) (bs : List Byte) : o ∈ (s.bar2Done b bs).out := by
  unfold State.bar2Done
  split
  · exact h
  · exact List.mem_cons_of_mem _ h

theorem State.mem_out_foldl_bar2Done {o : Output} (l : List Bar2) (h : o ∈ s.out) :
    o ∈ (l.foldl (fun t b => t.bar2Done b (List.replicate b.len 0xFF)) s).out :=
  List.foldlRecOn (motive := fun t : State => o ∈ t.out) l (fun (t : State) b => t.bar2Done b (List.replicate b.len 0xFF)) h fun _ ht b _ => State.mem_out_bar2Done ht b _

/-- Every read that waits completes with all-ones. -/
theorem State.foldl_bar2Done_answers {l : List Bar2} {b : Bar2} (hb : b ∈ l) (hread : b.write = false) (hloud : b.quiet = false) :
    Output.hostData (.vf b.part) (List.replicate b.len 0xFF) ∈ (l.foldl (fun t b => t.bar2Done b (List.replicate b.len 0xFF)) s).out := by
  induction l generalizing s with
  | nil => simp at hb
  | cons x l ih =>
    rw [List.foldl_cons]
    rcases List.mem_cons.1 hb with rfl | hb
    · refine State.mem_out_foldl_bar2Done l ?_
      rw [State.bar2Done, if_neg (by simp [hread, hloud])]
      exact List.mem_cons_self
    · exact ih hb

theorem State.settleBar2_fatal (hfatal : s.flag .pci F.PCI_STATUS_FATAL = true) (h : s.bar2 ≠ []) : s.settleBar2 = s.bar2Fatal := by
  rw [State.settleBar2, if_neg (by simp [h]), if_pos hfatal]

/-! The commands. -/

variable {p : Part} {a : BitVec 43} {bs : List Byte} {n : Fin 4097}

theorem bar2Write_waits (hvf : s.vfOn p = true) (hwin : s.winOpen p = true) (hform : bar2Form a.toNat bs.length 512 = true) : bar2Write p a bs s =
    { s with bar2 := s.bar2 ++ [{ id := s.nextId, part := p, write := true, addr := a.toNat, len := bs.length, data := bs }], nextId := s.nextId + 1 } :=
  if_neg (by simp [hvf, hwin, hform])

theorem bar2Write_dropped (h : s.vfOn p = false ∨ s.winOpen p = false ∨ bar2Form a.toNat bs.length 512 = false) : bar2Write p a bs s = s :=
  if_pos (by simpa [or_assoc] using h)

theorem bar2Read_waits (hvf : s.vfOn p = true) (hform : bar2Form a.toNat n.val 4096 = true) (hwin : s.winOpen p = true) : bar2Read p a n s =
    { s with bar2 := s.bar2 ++ [{ id := s.nextId, part := p, write := false, addr := a.toNat, len := n.val, data := List.replicate (64 * (unitsOf a.toNat n.val).length) 0 }],
             nextId := s.nextId + 1 } := by
  rw [bar2Read, if_neg (by simp [hvf, hform]), if_neg (by simp [hwin])]

theorem bar2Read_closed (hvf : s.vfOn p = true) (hform : bar2Form a.toNat n.val 4096 = true) (hwin : s.winOpen p = false) :
    bar2Read p a n s = s.emit (.hostData (.vf p) (List.replicate n.val 0xFF)) := by
  rw [bar2Read, if_neg (by simp [hvf, hform]), if_pos (by simp [hwin])]

theorem bar2Read_dropped (h : s.vfOn p = false ∨ bar2Form a.toNat n.val 4096 = false) : bar2Read p a n s = s := if_pos (by simpa using h)

end

/-- Settles O46: each clause is the rule above for the access, and a byte is counted unit by unit over the runs of a write. -/
theorem bar2AccessesWaitAndSplit : Obligations.Bar2AccessesWaitAndSplit := by
  refine ⟨fun s p a bs hon hvf hwin hform => run_of_eq hon (bar2Write_waits hvf hwin hform),
    fun s p a n hon hvf hform => ⟨fun hwin => run_of_eq hon (bar2Read_waits hvf hform hwin), fun hwin => run_of_eq hon (bar2Read_closed hvf hform hwin)⟩,
    fun s p a bs n hs hvf => ⟨run_same hs (bar2Write_dropped (.inl hvf)), run_same hs (bar2Read_dropped (.inl hvf))⟩,
    fun s p a bs hs hwin => run_same hs (bar2Write_dropped (.inr (.inl hwin))),
    fun s p a bs n hs => ⟨fun hform => run_same hs (bar2Write_dropped (.inr (.inr hform))), fun hform => run_same hs (bar2Read_dropped (.inr hform))⟩,
    fun s => ⟨rfl, rfl, State.bar2Fatal_reads State.emit_mem (fun _ _ _ => rfl) s, State.bar2Fatal_reads State.emit_requests (fun _ _ _ => rfl) s,
      fun b hb hread hloud => State.foldl_bar2Done_answers hb hread hloud⟩,
    fun s => State.settleBar2_fatal, fun a n x => ⟨?once, fun r hr => mem_writeRuns hr⟩⟩
  case once => exact List.countP_eq_length_filter.symm.trans countP_writeRuns

end Sys2Proof.Machine
end

section
/-! Messages of the device (16 R599–R603, R606): how one is taken from its slot or its packet, and how its answer leaves. -/

namespace Sys2Proof.Machine

section
variable {s : State} {k : Fin 100} {b body : List Byte} {env : MsgEnv} {v : Via} {t st : Nat} {net : Bool} {e : BitVec 8}

/-! A message is taken. -/

/-- What the device makes of the message that stands in a channel's slot: FULL clears, the host is interrupted and the message handled (R600). -/
def State.takesH2d (s : State) (k : Fin 100) (env : MsgEnv) : State :=
  ((s.setChan k.val { s.chan k.val with h2d := { (s.chan k.val).h2d with full := false } }).hostIrq k 20).handle (.mbx k) (s.chan k.val).h2d.bytes env

theorem mbxH2dDone_takes (hserved : s.served k.val = true) (hfull : (s.chan k.val).h2d.full = true) : mbxH2dDone false k env s = s.takesH2d k env := by
  simp only [mbxH2dDone]
  rw [if_neg (by decide), if_neg (by simp [hserved, hfull])]
  rfl

theorem mbxH2dDone_idle (h : s.served k.val = false ∨ (s.chan k.val).h2d.full = false) : mbxH2dDone false k env s = s := by
  simp only [mbxH2dDone]
  rw [if_neg (by decide), if_pos (by simpa using h)]

/-- A row of the type that stands FULL in the slot takes the message. -/
theorem msgRow_slot (hserved : s.served k.val = true) (hfull : (s.chan k.val).h2d.full = true) (htype : mType (s.chan k.val).h2d.bytes = t) :
    msgRow t (.mbx k) b env s = s.takesH2d k env := (if_pos (by simp [htype, hfull])).trans (mbxH2dDone_takes hserved hfull)

/-- A row of another type changes nothing. -/
theorem msgRow_slot_other (htype : mType (s.chan k.val).h2d.bytes ≠ t) : msgRow t (.mbx k) b env s = s := if_neg (by simp [htype])

/-- A row of its type takes a message that arrives by MCTP, over either bearer that the endpoint listens on. -/
theorem msgRow_mctp (hsp : s.spUp = true) (hi3c : net = false → s.i3c.isSome = true) (hnet : net = true → phRAILS ≤ s.boot.phase) (htype : mType b = t) :
    msgRow t (.mctp net e) b env s = s.handle (.mctp net e) b env := by
  refine if_pos ?_
  cases net with
  | false => simp [htype, hsp, hi3c rfl]
  | true => simp [htype, hsp, hnet rfl]

/-! The answer leaves. -/

theorem State.respond_mbx (s : State) (k : Fin 100) (b : List Byte) (st : Nat) (body : List Byte) : s.respond (.mbx k) b st body =
    if (s.chan k.val).resps.length < 16 then s.setChan k.val { s.chan k.val with resps := (s.chan k.val).resps ++ [mbxMsg (mType b) (mTag b) 1 st 0 body] } else s := rfl

theorem State.chan_setChan_self (s : State) (n : Nat) (x : ChanSt) : (s.setChan n x).chan n = x := Store.get_set_self _ _ _ _

/-- The answer enters the channel's store of 16. -/
theorem State.respond_stores (h : (s.chan k.val).resps.length < 16) :
    ((s.respond (.mbx k) b st body).chan k.val).resps = (s.chan k.val).resps ++ [mbxMsg (mType b) (mTag b) 1 st 0 body] := by
  rw [State.respond_mbx, if_pos h, State.chan_setChan_self]

theorem State.respond_full (h : 16 ≤ (s.chan k.val).resps.length) : s.respond (.mbx k) b st body = s := if_neg (by omega)

/-! The checks of a message. -/

theorem State.message_badForm (h : mFormOk v b = false) : s.message v b env = (s, msFORMAT, []) := if_pos (by simp [h])

theorem State.message_unknown (hform : mFormOk v b = true) (hcarries : s.carries v (mType b) = false) : s.message v b env = (s, msUNKNOWN, []) :=
  (if_neg (by simp [hform])).trans (if_pos (by simp [hcarries]))

end

/-- Settles O43: each row runs `msgRow` with its type, and each clause is the rule above for the slot, the packet or the answer. -/
theorem messagesAreTakenAndAnswered : Obligations.MessagesAreTakenAndAnswered := by
  refine ⟨fun s k b env hon hserved hfull => ?slot, fun s v b env r hon hmember => ⟨fun hreset => ?order, fun hreset => ?held⟩,
    fun s net e b env hon hsp hi3c hnet => ?packet, fun s v b env => rfl, fun s k b st body h => State.respond_stores h,
    fun s k b st body h => State.respond_full h, fun s net e b st body => rfl,
    fun s v b env => ⟨State.message_badForm, State.message_unknown⟩, fun s k env hs h => run_same hs (mbxH2dDone_idle h),
    fun s k b env hs _ htype => run_same hs (msgRow_slot_other htype)⟩
  case slot =>
    have hrow {t : Nat} (htype : mType (s.chan k.val).h2d.bytes = t) := run_of_eq hon (msgRow_slot (b := b) (env := env) hserved hfull htype)
    refine ⟨hrow, hrow, hrow, fun htype hmember => ?place, hrow, hrow, hrow, hrow, hrow, hrow, hrow, run_of_eq hon (mbxH2dDone_takes hserved hfull)⟩
    case place =>
      refine run_of_eq hon ?_
      simp only [hmember]
      exact msgRow_slot hserved hfull htype
  case order =>
    refine run_of_eq hon ?_
    simp [hmember, hreset]
  case held =>
    refine run_of_eq hon ?_
    simp [hmember, hreset]
  case packet =>
    have hrow {t : Nat} (htype : mType b = t) := run_of_eq hon (msgRow_mctp (e := e) (env := env) hsp hi3c hnet htype)
    exact ⟨hrow, hrow, hrow, hrow, hrow, hrow⟩

end Sys2Proof.Machine
end

section
/-! Resets of the PCIe interface and its functions (16 R596, R601): what each clears, and what none of them touches. -/

namespace Sys2Proof.Machine

/-- A reading of the state that looks at neither the functions' configuration, the PCI page, the channels nor the BAR2 accesses that wait. -/
structure HostBlind {β : Type} (g : State → β) : Prop where
  fn : ∀ (t : State) (f : Fn) (c : FnCfg), g (t.setFn f c) = g t
  pci : ∀ (t : State) (f : Field) (v : Nat), g (t.setFld .pci f v) = g t
  chan : ∀ (t : State) (k : Nat) (x : ChanSt), g (t.setChan k x) = g t
  bar2 : ∀ (t : State) (l : List Bar2), g { t with bar2 := l } = g t
  event : ∀ (t : State) (j : Nat), g (t.fireEvent .pci j) = g t

theorem State.parts_hostBlind : HostBlind State.parts := ⟨State.setFn_parts, fun t => t.setFld_parts .pci, State.setChan_parts, fun _ _ => rfl, fun t => t.fireEvent_parts .pci⟩
theorem State.queues_hostBlind : HostBlind State.queues :=
  ⟨State.setFn_queues, fun t => t.setFld_queues .pci, State.setChan_queues, fun _ _ => rfl, fun t => t.fireEvent_queues .pci⟩
theorem State.mem_hostBlind : HostBlind State.mem := ⟨State.setFn_mem, fun t => t.setFld_mem .pci, State.setChan_mem, fun _ _ => rfl, fun t => t.fireEvent_mem .pci⟩

section
variable {s : State} {p q : Part} {f : Fn} {n : Fin 4} {k : Nat}

/-! Functions. -/

/-- A function's configuration after its reset: what the device owns stays. -/
def FnCfg.afterReset (c : FnCfg) : FnCfg := { accessErr := c.accessErr, mbxVec := c.mbxVec }

theorem Fn.key_inj {f g : Fn} (h : f.key = g.key) : f = g := by
  cases f with
  | pf a =>
    cases g with
    | pf b => exact congrArg Fn.pf (Fin.ext h)
    | vf b => exact absurd h (by have := a.isLt; simp only [Fn.key]; omega)
  | vf a =>
    cases g with
    | pf b => exact absurd h (by have := b.isLt; simp only [Fn.key]; omega)
    | vf b => exact congrArg Fn.vf (Fin.ext (by simpa [Fn.key] using h))

theorem mem_allFns (f : Fn) : f ∈ allFns := by
  cases f with
  | pf n => revert n; decide
  | vf p => simp [allFns]

theorem allFns_nodup : allFns.Nodup := by decide +kernel

theorem State.fn_resetFn_self : (s.resetFn f).fn f = (s.fn f).afterReset := Store.get_set_self _ _ _ _

theorem State.fn_resetFn_ne {g : Fn} (h : g ≠ f) : (s.resetFn g).fn f = s.fn f := Store.get_set_ne _ _ (fun e => h (Fn.key_inj e)) _

theorem State.vfOn_resetFn {g : Fn} : (s.resetFn g).vfOn p = s.vfOn p := s.setFn_vfOn _ _ _

/-! VFs. -/

theorem State.vfOn_setFld_self (v : Nat) : (s.setFld .pci (F.PCI_VF_ENABLED p.val) v).vfOn p = (v % 2 != 0) :=
  s.flag_setFld .pci (F.PCI_VF_ENABLED p.val) v (by decide : 0 + 1 ≤ 32)

theorem vfEnabled_off_ne (h : q ≠ p) : (F.PCI_VF_ENABLED q.val).off ≠ (F.PCI_VF_ENABLED p.val).off := by
  have := Fin.val_ne_of_ne h
  simp only [F.PCI_VF_ENABLED]
  omega

theorem State.vfOn_setFld_off {x : Field} (h : x.off ≠ (F.PCI_VF_ENABLED p.val).off) (v : Nat) : (s.setFld .pci x v).vfOn p = s.vfOn p :=
  s.flag_setFld_off .pci x (F.PCI_VF_ENABLED p.val) v h

theorem State.vfOn_setFld_status {x : Field} (h : x.off = 0x100) (v : Nat) : (s.setFld .pci x v).vfOn p = s.vfOn p :=
  State.vfOn_setFld_off (by simp only [h, F.PCI_VF_ENABLED]; omega) v

theorem State.vfOn_fireEvent (j : Nat) : (s.fireEvent .pci j).vfOn p = s.vfOn p :=
  congrArg (fun x => x != 0) (s.fld_fireEvent .pci j (f := F.PCI_VF_ENABLED p.val) (by simp only [F.PCI_VF_ENABLED]; omega))

/-! Channels. -/

/-- A channel whose host side resets. -/
def ChanSt.hostReset (x : ChanSt) : ChanSt := { x with h2d := x.h2d.reset true false, d2h := x.d2h.reset false true }

theorem State.chan_resetHost_self : (s.resetChan k true false).chan k = (s.chan k).hostReset := State.chan_setChan_self _ _ _

theorem State.chan_setChan_ne {i : Nat} (h : i ≠ k) (x : ChanSt) : (s.setChan i x).chan k = s.chan k := Store.get_set_ne _ _ h _

theorem State.resetChan_reads {β : Type} {g : State → β} (hchan : ∀ (t : State) (k : Nat) (x : ChanSt), g (t.setChan k x) = g t) (s : State) (k : Nat) (host dev : Bool) :
    g (s.resetChan k host dev) = g s := hchan s k _

/-! PERST_N, stage by stage. -/

/-- A VF is disabled. -/
def State.vfOff (s : State) (p : Part) : State := s.setFld .pci (F.PCI_VF_ENABLED p.val) 0

/-- Every function's configuration resets, and every VF is disabled. -/
def State.fnsReset (s : State) : State := (List.finRange 64).foldl State.vfOff (allFns.foldl State.resetFn s)

/-- The host side of every channel resets, and the BAR2 accesses that wait are reported to no one. -/
def State.chansReset (s : State) : State := (List.range 100).foldl (fun (t : State) k => t.resetChan k true false) (s.bar2Quiet (fun _ => true))

/-- The link is down. -/
def State.linkDown (s : State) : State := ((s.setFld .pci F.PCI_STATUS_LINK_UP 0).setFld .pci F.PCI_STATUS_RATE 0).setFld .pci F.PCI_STATUS_WIDTH 0

theorem perstN_eq (s : State) : perstN s =
    if s.flag .pci F.PCI_STATUS_LINK_UP then s.fnsReset.chansReset.linkDown.fireEvent .pci 1 else s.fnsReset.chansReset.linkDown := rfl

/-- What an event leaves of PERST_N. -/
theorem perstN_reads {β : Type} {g : State → β} (hg : ∀ t : State, g (t.fireEvent .pci 1) = g t) (s : State) : g (perstN s) = g s.fnsReset.chansReset.linkDown := by
  rw [perstN_eq]
  exact FaultBlind.ite_of_eq (hg _) rfl

theorem HostBlind.fnsReset {β : Type} {g : State → β} (hg : HostBlind g) (s : State) : g s.fnsReset = g s :=
  (foldl_keeps (fun t _ => hg.pci t _ _) _ _).trans (foldl_keeps (fun t f => hg.fn t f _) allFns s)

theorem HostBlind.chansReset {β : Type} {g : State → β} (hg : HostBlind g) (s : State) : g s.chansReset = g s :=
  (foldl_keeps (fun t k => State.resetChan_reads hg.chan t k _ _) _ _).trans (hg.bar2 s _)

theorem HostBlind.linkDown {β : Type} {g : State → β} (hg : HostBlind g) (s : State) : g s.linkDown = g s :=
  (hg.pci _ _ _).trans ((hg.pci _ _ _).trans (hg.pci s _ _))

theorem HostBlind.perstN {β : Type} {g : State → β} (hg : HostBlind g) (s : State) : g (perstN s) = g s :=
  (perstN_reads (fun t => hg.event t 1) s).trans ((hg.linkDown _).trans ((hg.chansReset _).trans (hg.fnsReset s)))

theorem State.linkDown_up : s.linkDown.flag .pci F.PCI_STATUS_LINK_UP = false := by
  rw [State.linkDown, State.flag_setFld_other _ _ _ _ _ (by decide), State.flag_setFld_other _ _ _ _ _ (by decide), State.flag_setFld _ _ _ _ (by decide)]
  rfl

theorem perstN_link (s : State) : (perstN s).flag .pci F.PCI_STATUS_LINK_UP = false := by
  have hevent (t : State) : (t.fireEvent .pci 1).flag .pci F.PCI_STATUS_LINK_UP = t.flag .pci F.PCI_STATUS_LINK_UP :=
    congrArg (fun x => x != 0) (t.fld_fireEvent .pci 1 (f := F.PCI_STATUS_LINK_UP) (by decide))
  rw [perstN_reads (g := fun t => t.flag .pci F.PCI_STATUS_LINK_UP) hevent, State.linkDown_up]

theorem State.vfOn_fnsReset : s.fnsReset.vfOn p = false :=
  (foldl_once State.vfOff (fun t => t.vfOn p) (fun _ => false) p (fun _ => State.vfOn_setFld_self 0)
    (fun _ _ h => State.vfOn_setFld_off (vfEnabled_off_ne h) 0) (List.nodup_finRange 64) _).trans (if_pos (List.mem_finRange p))

theorem State.vfOn_chansReset : s.chansReset.vfOn p = s.vfOn p :=
  foldl_keeps (g := fun t : State => t.vfOn p) (fun t k => State.resetChan_reads (g := fun t : State => t.vfOn p) (fun t k x => t.setChan_vfOn k x p) t k _ _) _ _

theorem State.vfOn_linkDown : s.linkDown.vfOn p = s.vfOn p := by
  rw [State.linkDown, State.vfOn_setFld_status rfl, State.vfOn_setFld_status rfl, State.vfOn_setFld_status rfl]

theorem perstN_vfOn (s : State) (p : Part) : (perstN s).vfOn p = false := by
  rw [perstN_reads (g := fun t => t.vfOn p) (fun _ => State.vfOn_fireEvent 1), State.vfOn_linkDown, State.vfOn_chansReset, State.vfOn_fnsReset]

theorem State.fn_linkDown : s.linkDown.fn f = s.fn f := by
  rw [State.linkDown, State.setFld_fn, State.setFld_fn, State.setFld_fn]

theorem State.fn_chansReset : s.chansReset.fn f = s.fn f :=
  foldl_keeps (g := fun t : State => t.fn f) (fun t k => State.resetChan_reads (g := fun t : State => t.fn f) (fun t k x => t.setChan_fn k x f) t k _ _) _ _

theorem State.fn_vfOff (s : State) (p : Part) (f : Fn) : (s.vfOff p).fn f = s.fn f := s.setFld_fn _ _ _ f

theorem State.fn_fnsReset : s.fnsReset.fn f = (s.fn f).afterReset := by
  rw [State.fnsReset, foldl_keeps (g := fun t : State => t.fn f) (fun t p => t.fn_vfOff p f),
    foldl_once State.resetFn (fun t => t.fn f) FnCfg.afterReset f (fun _ => State.fn_resetFn_self) (fun _ _ h => State.fn_resetFn_ne h) allFns_nodup,
    if_pos (mem_allFns f)]

theorem perstN_fn (s : State) (f : Fn) : (perstN s).fn f = (s.fn f).afterReset := by
  rw [perstN_reads (g := fun t => t.fn f) (fun t => t.fireEvent_fn .pci 1 f), State.fn_linkDown, State.fn_chansReset, State.fn_fnsReset]

theorem State.chan_vfOff (s : State) (p : Part) (k : Nat) : (s.vfOff p).chan k = s.chan k := s.setFld_chan _ _ _ k

theorem State.chan_resetFn (s : State) (f : Fn) (k : Nat) : (s.resetFn f).chan k = s.chan k := s.setFn_chan f _ k

theorem State.chan_fnsReset : s.fnsReset.chan k = s.chan k := by
  rw [State.fnsReset, foldl_keeps (g := fun t : State => t.chan k) (fun t p => t.chan_vfOff p k),
    foldl_keeps (g := fun t : State => t.chan k) (fun t f => t.chan_resetFn f k)]

theorem State.chan_chansReset (hk : k < 100) : s.chansReset.chan k = (s.chan k).hostReset :=
  (foldl_once (fun (t : State) k => t.resetChan k true false) (fun t => t.chan k) ChanSt.hostReset k (fun _ => State.chan_resetHost_self)
    (fun _ _ h => State.chan_setChan_ne h _) List.nodup_range _).trans (if_pos (List.mem_range.2 hk))

theorem State.chan_linkDown : s.linkDown.chan k = s.chan k := by
  rw [State.linkDown, State.setFld_chan, State.setFld_chan, State.setFld_chan]

theorem perstN_chan (s : State) (hk : k < 100) : (perstN s).chan k = (s.chan k).hostReset := by
  rw [perstN_reads (g := fun t => t.chan k) (fun t => t.fireEvent_chan .pci 1 k), State.chan_linkDown, State.chan_chansReset hk, State.chan_fnsReset]

/-! PF_FLR. -/

/-- The VFs of a PF. -/
def State.pfVfs (s : State) (n : Fin 4) : List Part := (List.finRange 64).filter (fun p => s.partOf p == n.val)

/-- A VF's configuration resets, and it is disabled. -/
def State.dropVf (s : State) (p : Part) : State := (s.resetFn (.vf p)).setFld .pci (F.PCI_VF_ENABLED p.val) 0

/-- The host side of a PF's channels resets. -/
def State.pfChansReset (s : State) (n : Fin 4) : State :=
  (List.range 36).foldl (fun t k => if (if k < 4 then 0 else (k - 4) / 8) = n.val then t.resetChan k true false else t) s

/-- What an FLR of a PF resets. -/
def State.pfReset (s : State) (n : Fin 4) : State :=
  (((s.pfVfs n).foldl State.dropVf (s.resetFn (.pf n))).bar2Quiet (fun p => (s.pfVfs n).contains p)).pfChansReset n

theorem pfFlr_present (hn : n.val < s.nparts) (hreset : s.inReset pd0 = false) : pfFlr n s = (s.pfReset n).fireEvent .pci 2 :=
  if_neg (by simp [hreset, Nat.not_le.2 hn])

theorem pfFlr_absent (h : s.nparts ≤ n.val ∨ s.inReset pd0 = true) : pfFlr n s = s := if_pos (by simpa using h)

theorem State.pfChansReset_reads {β : Type} {g : State → β} (hchan : ∀ (t : State) (k : Nat) (x : ChanSt), g (t.setChan k x) = g t) (s : State) (n : Fin 4) :
    g (s.pfChansReset n) = g s := foldl_keeps (fun t k => FaultBlind.ite_of_eq (hchan t k _) rfl) _ _

theorem HostBlind.pfReset {β : Type} {g : State → β} (hg : HostBlind g) (s : State) (n : Fin 4) : g (s.pfReset n) = g s :=
  (State.pfChansReset_reads hg.chan _ n).trans ((hg.bar2 _ _).trans
    ((foldl_keeps (fun t _ => (hg.pci _ _ _).trans (hg.fn t _ _)) _ _).trans (hg.fn s _ _)))

theorem State.mem_pfVfs : p ∈ s.pfVfs n ↔ s.partOf p = n.val := by simp [State.pfVfs]

theorem State.pfVfs_nodup : (s.pfVfs n).Nodup := (List.nodup_finRange 64).filter _

theorem State.fn_pfReset : (s.pfReset n).fn (.pf n) = (s.fn (.pf n)).afterReset := by
  have hdrop (t : State) (p : Part) : (t.dropVf p).fn (.pf n) = t.fn (.pf n) := (State.setFld_fn _ _ _ _ _).trans (State.fn_resetFn_ne (by simp))
  refine (State.pfChansReset_reads (g := fun t : State => t.fn (.pf n)) (fun t k x => t.setChan_fn k x _) _ n).trans ?_
  exact (foldl_keeps (g := fun t : State => t.fn (.pf n)) hdrop _ _).trans State.fn_resetFn_self

/-- A PF's own VFs are disabled, and no other. -/
theorem State.vfOn_pfReset : (s.pfReset n).vfOn p = if s.partOf p = n.val then false else s.vfOn p := by
  refine (State.pfChansReset_reads (g := fun t : State => t.vfOn p) (fun t k x => t.setChan_vfOn k x p) _ n).trans ?_
  refine (foldl_once State.dropVf (fun t => t.vfOn p) (fun _ => false) p (fun _ => State.vfOn_setFld_self 0)
    (fun _ _ h => (State.vfOn_setFld_off (vfEnabled_off_ne h) 0).trans State.vfOn_resetFn) State.pfVfs_nodup _).trans ?_
  simp only [State.mem_pfVfs, State.vfOn_resetFn]

/-! VF_FLR and the link. -/

theorem vfFlr_on (hvf : s.vfOn p = true) (hreset : s.inReset pd0 = false) :
    vfFlr p s = (((s.resetFn (.vf p)).bar2Quiet (· == p)).resetChan (36 + p.val) true false).fireEvent .pci 2 := if_neg (by simp [hvf, hreset])

theorem vfFlr_off (h : s.vfOn p = false ∨ s.inReset pd0 = true) : vfFlr p s = s := if_pos (by simpa using h)

variable {r : Fin 7} {w : Fin 3}

/-- The link shows that it is up, its rate and its width. -/
def State.linkTrained (s : State) (r : Fin 7) (w : Fin 3) : State :=
  ((s.setFld .pci F.PCI_STATUS_LINK_UP 1).setFld .pci F.PCI_STATUS_RATE (r.val + 1)).setFld .pci F.PCI_STATUS_WIDTH (2 ^ w.val)

theorem pcieLinkTrained_up (hreset : s.inReset pd0 = false) (hdown : s.flag .pci F.PCI_STATUS_LINK_UP = false) (hdark : s.linkDark = false) :
    pcieLinkTrained r w s = ((s.linkTrained r w).fireEvent .pci 1).showFunctions := if_neg (by simp [hreset, hdown, hdark])

theorem pcieLinkTrained_kept (h : s.inReset pd0 = true ∨ s.flag .pci F.PCI_STATUS_LINK_UP = true ∨ s.linkDark = true) : pcieLinkTrained r w s = s :=
  if_pos (by simpa [or_assoc] using h)

theorem State.linkTrained_flag : (s.linkTrained r w).flag .pci F.PCI_STATUS_LINK_UP = true := by
  rw [State.linkTrained, State.flag_setFld_other _ _ _ _ _ (by decide), State.flag_setFld_other _ _ _ _ _ (by decide), State.flag_setFld _ _ _ _ (by decide)]
  rfl

theorem State.linkTrained_rate : (s.linkTrained r w).fld .pci F.PCI_STATUS_RATE = r.val + 1 := by
  rw [State.linkTrained, State.fld_setFld_other _ _ _ _ _ (by decide), State.fld_setFld _ _ _ _ (by decide)]
  exact Nat.mod_eq_of_lt (Nat.succ_lt_succ r.isLt)

theorem State.linkTrained_width : (s.linkTrained r w).fld .pci F.PCI_STATUS_WIDTH = 2 ^ w.val := by
  rw [State.linkTrained, State.fld_setFld _ _ _ _ (by decide)]
  revert w
  decide

/-- The link of a package past position 0 stays dark while the board is presented as one. -/
theorem State.linkDark_of_board (hpos : s.pos ≠ 0) (hstrap : s.straps.hostPresEn = true) (hboard : s.boot.boardPres = true) : s.linkDark = true := by
  simp [State.linkDark, hpos, hstrap, hboard]

end

end Sys2Proof.Machine
end

section
/-! Mailbox channels (16 R600, R601, R603): the slots of both directions, and the rows that post and take them. -/

namespace Sys2Proof.Machine

section
variable {s : State} {k : Fin 100} {p : Part} {d : MbxDir} {snd rcv : Bool}

/-! A slot. -/

theorem MbxDir.reset_full (h : rcv = true) : (d.reset snd rcv).full = false := by
  subst h
  cases hfull : d.full <;> cases snd <;> simp [MbxDir.reset, hfull]

/-- A reset of the receiver's side loses the message that it has not read. -/
theorem MbxDir.reset_lost (h : rcv = true) (hfull : d.full = true) : (d.reset snd rcv).lost = true := by
  subst h
  cases snd <;> simp [MbxDir.reset, hfull]

/-- A reset of the sender's side advances its epoch. -/
theorem MbxDir.reset_epoch : (d.reset snd rcv).sendEpoch = d.sendEpoch + (if snd then 1 else 0) := by
  cases hlost : rcv && d.full <;> cases snd <;> simp [MbxDir.reset, hlost]

theorem MbxDir.reset_slot : (d.reset snd rcv).slot = d.slot := by
  cases hlost : rcv && d.full <;> cases snd <;> simp [MbxDir.reset, hlost]

theorem MbxDir.send_empty (h : d.full = false) : d.send = ({ d with full := true, msgEpoch := d.sendEpoch }, true) := if_neg (by simp [h])

theorem MbxDir.send_full (h : d.full = true) : d.send = ({ d with blocked := true }, false) := if_pos h

/-! SEND of the host. -/

theorem mbxH2dSend_posts (hhost : s.hostChan k = true) (h : (s.chan k.val).h2d.full = false) : mbxH2dSend k s =
    (s.setChan k.val { s.chan k.val with h2d := { (s.chan k.val).h2d with full := true, msgEpoch := (s.chan k.val).h2d.sendEpoch } }).chanEvent k 1 := by
  simp only [mbxH2dSend, MbxDir.send_empty h]
  exact if_neg (by simp [hhost])

theorem mbxH2dSend_blocked (hhost : s.hostChan k = true) (h : (s.chan k.val).h2d.full = true) : mbxH2dSend k s =
    s.setChan k.val { s.chan k.val with h2d := { (s.chan k.val).h2d with blocked := true } } := by
  simp only [mbxH2dSend, MbxDir.send_full h]
  exact if_neg (by simp [hhost])

theorem h2dSendRow_page (hk : k.val < 36) : h2dSendRow k s = mbxH2dSend k s := dif_neg (by omega)

/-- A SEND on a VF's channel is a write of its window, which BAR2 writes before it hold (R591). -/
theorem h2dSendRow_vf (hk : k.val = 36 + p.val) (hvf : s.vfOn p = true) : h2dSendRow k s = s.vfWrite p (.win 0x608 1) := by
  have hp : (⟨k.val - 36, by omega⟩ : Part) = p := Fin.ext (by simp [hk])
  rw [h2dSendRow, dif_pos (by omega)]
  simp only [hp]
  exact if_pos hvf

/-! DONE of the host. -/

theorem mbxD2hDone_takes (hhost : s.hostChan k = true) :
    mbxD2hDone k s = (s.takeD2h k).1.emit (.hostData (chanFn k) (leBytes (s.takeD2h k).2.toNat 4)) := if_neg (by simp [hhost])

theorem State.chan_chanEvent (s : State) (k : Fin 100) (j i : Nat) : (s.chanEvent k j).chan i = s.chan i := by
  unfold State.chanEvent
  split
  · exact s.fireEvent_chan _ _ _
  · rfl

theorem State.takeD2h_clears : ((s.takeD2h k).1.chan k.val).d2h.full = false := by
  have htaken (t : State) (h : t.chan k.val = { s.chan k.val with d2h := { (s.chan k.val).d2h with full := false } }) : (t.chan k.val).d2h.full = false := by rw [h]
  refine htaken _ ?_
  exact (FaultBlind.ite_of_eq (g := fun t : State => t.chan k.val) (State.chan_chanEvent _ _ _ _) rfl).trans (State.chan_setChan_self _ _ _)

/-! SEND of the device. -/

theorem mbxD2hSend_response {b : List Byte} {r : List (List Byte)} (hserved : s.served k.val = true) (hfull : (s.chan k.val).d2h.full = false)
    (hr : (s.chan k.val).resps = b :: r) : mbxD2hSend k s =
      ((s.setChan k.val { s.chan k.val with d2h := { (s.chan k.val).d2h with slot := Store.setList (fun _ => 0) [] 0 (b.take 256) }, resps := r }).postD2h k).1 := by
  simp [mbxD2hSend, hserved, hr, hfull]

theorem mbxD2hSend_unserved (h : s.served k.val = false) : mbxD2hSend k s = s := if_pos (by simp [h])

end

/-- Settles O47: each clause is the rule above for its reset, its link or its channel. -/
theorem hostResetsAndMailboxes : Obligations.HostResetsAndMailboxes := by
  refine ⟨fun s hon => run_on hon,
    fun s => ⟨State.parts_hostBlind.perstN s, State.queues_hostBlind.perstN s, State.mem_hostBlind.perstN s, perstN_link s, perstN_vfOn s, perstN_fn s, fun k => perstN_chan s⟩,
    fun s n hon hn hreset => ⟨s.pfReset n, run_of_eq hon (pfFlr_present hn hreset), State.parts_hostBlind.pfReset s n, State.queues_hostBlind.pfReset s n,
      State.mem_hostBlind.pfReset s n, State.fn_pfReset, fun p hp => by rw [State.vfOn_pfReset, if_pos hp], fun p hp => by rw [State.vfOn_pfReset, if_neg hp]⟩,
    fun s p hon hvf hreset => run_of_eq hon (vfFlr_on hvf hreset),
    fun s n hs h => run_same hs (pfFlr_absent h), fun s p hs h => run_same hs (vfFlr_off h),
    fun s r w hon hreset hdown hdark => ⟨run_of_eq hon (pcieLinkTrained_up hreset hdown hdark), State.linkTrained_flag, State.linkTrained_rate, State.linkTrained_width⟩,
    fun s r w hs h => run_same hs (pcieLinkTrained_kept h), fun s => State.linkDark_of_board,
    fun d snd rcv => ⟨MbxDir.reset_full, MbxDir.reset_lost, MbxDir.reset_epoch, MbxDir.reset_slot⟩, fun d => ⟨MbxDir.send_empty, MbxDir.send_full⟩,
    fun s k hon hk hhost => ⟨fun h => run_of_eq hon ((h2dSendRow_page hk).trans (mbxH2dSend_posts hhost h)),
      fun h => run_of_eq hon ((h2dSendRow_page hk).trans (mbxH2dSend_blocked hhost h))⟩,
    fun s p k hon hk hvf => run_of_eq hon (h2dSendRow_vf hk hvf),
    fun s k hon hhost => ⟨run_of_eq hon (mbxD2hDone_takes hhost), rfl, State.takeD2h_clears⟩,
    fun s k b r hon hserved hfull hr => run_of_eq hon (mbxD2hSend_response hserved hfull hr), fun s k hs h => run_same hs (mbxD2hSend_unserved h)⟩

end Sys2Proof.Machine
end

section
/-! The board relay, the management network, MCTP, the sensors and DOE (16 R594, R597, R598, R607, R608, R610): which frames and requests are taken, and what
answers them. -/

namespace Sys2Proof.Machine

/-! The relay. -/

section
variable {s : State} {x : RelayIn} {ctr : BitVec 64} {accs : List RelayAcc} {ses : Session} {r : List Byte}

theorem relay_down (h : s.mcReset = true ∨ s.boot.phase < phRAILS) : relay x s = s := if_pos (by simpa using h)

/-- A frame that does not verify has no effect. -/
theorem relay_invalid : relay (.frame ctr false accs) s = s := by
  unfold relay
  split
  · rfl
  · dsimp only
    split
    · rfl
    · split <;> rfl

theorem relay_stale (hses : Store.get (fun _ => none) s.boardSess 0 = some ses) (hj : ses.judge ctr.toNat = .stale) : relay (.frame ctr true accs) s = s := by
  simp [relay, hses, hj]

section
variable (hreset : s.mcReset = false) (hphase : phRAILS ≤ s.boot.phase)
include hreset hphase

section
variable (hpos : s.pos ≠ 0) (hboard : s.boot.boardPres = true) (hne : accs ≠ []) (hlen : accs.length ≤ 64)
  (hses : Store.get (fun _ => none) s.boardSess 0 = some ses)
include hpos hboard hne hlen hses

/-- A frame whose counter is new is applied, and its answer recorded and sent. -/
theorem relay_runs (hj : (ses.judge ctr.toNat).runs = true) : relay (.frame ctr true accs) s =
    State.emit
      { (s.relayAll accs).1 with
        boardSess := Store.set (fun _ => none) (s.relayAll accs).1.boardSess 0
          (some (ses.mark ctr.toNat ((s.relayAll accs).2.flatMap (fun w => leBytes w.toNat 4)))) }
      (.relayAnswer ctr.toNat (s.relayAll accs).2) := by
  rcases Session.judge_runs.1 hj with hj | hj <;> simp [relay, hreset, Nat.not_lt.2 hphase, hpos, hboard, hne, Nat.not_lt.2 hlen, hses, hj]

/-- A duplicate gets the recorded answer. -/
theorem relay_cached (hj : ses.judge ctr.toNat = .cached r) : relay (.frame ctr true accs) s =
    s.emit (.relayAnswer ctr.toNat ((List.range (r.length / 4)).map (fun i => BitVec.ofNat 32 (imgNat r (4 * i) 4)))) := by
  simp [relay, hreset, Nat.not_lt.2 hphase, hpos, hboard, hne, Nat.not_lt.2 hlen, hses, hj]

end

/-- The answer to the frame that is out completes its reads. -/
theorem relay_answered {pos : Fin 4} {data : List Word} {o : RelayOut} (hout : s.relayOut.find? (fun r => r.pos == pos.val) = some o) (hsent : o.sent = true)
    (hctr : o.ctr = ctr.toNat) : relay (.answer pos ctr true data) s = ((s.dropRelay pos.val).relayData o data).pumpRelay := by
  simp [relay, hreset, Nat.not_lt.2 hphase, hout, hsent, hctr]

end
end

/-! The management network. -/

section
variable {s : State} {m : MgtIn} {ok : Bool} {recs : List MirRec}

theorem State.announce_silent (h : s.boot.phase < phRAILS ∨ s.mcReset = true) : s.announce = s := if_pos (by simpa using h)

theorem State.announce_sends (hphase : phRAILS ≤ s.boot.phase) (hreset : s.mcReset = false) : s.announce =
    s.emit (.netFrame s.mac (s.netPayload 3 (s.identity 0 ++ [BitVec.ofNat 8 (s.fld .flt F.FLT_STATE_STATE), BitVec.ofNat 8 s.boot.phase] ++ List.replicate 14 0))) :=
  if_neg (by simp [Nat.not_lt.2 hphase, hreset])

/-- A request of the management network as PD0's agent and the Summit endpoint take it. -/
def MgtIn.onNet (m : MgtIn) : MgtIn := { m with k := 0, net := true }

theorem mgtFrame_discarded (h : s.boot.phase < phRAILS ∨ m.pkt.dst.d ≠ 8) : mgtFrame (.request m ok recs) s = s := by
  unfold mgtFrame
  split
  · rfl
  · next hphase => exact if_pos (by simpa [hphase] using h)

theorem mgtFrame_agent (hphase : phRAILS ≤ s.boot.phase) (hd : m.pkt.dst.d = 8) (he : m.pkt.dst.e = 1) :
    mgtFrame (.request m ok recs) s = s.agentRequest m.onNet ok := by
  simp [mgtFrame, Nat.not_lt.2 hphase, hd, he, MgtIn.onNet]

theorem mgtFrame_endpoint (hphase : phRAILS ≤ s.boot.phase) (hd : m.pkt.dst.d = 8) (he : m.pkt.dst.e = 2) :
    mgtFrame (.request m ok recs) s = s.endpointRequest m.onNet recs := by
  simp [mgtFrame, Nat.not_lt.2 hphase, hd, he, MgtIn.onNet]

end

/-! MCTP. -/

section
variable {s : State} {net : Bool} {src dst : BitVec 8} {m : MctpMsg} {env : MsgEnv}

/-- The endpoint answers a packet to its own or the null EID over a bearer that it listens on. -/
theorem mctpPacket_taken (hsp : s.spUp = true) (hdst : dst = 0 ∨ dst = s.eid) (hup : (if net then decide (s.boot.phase < phRAILS) else s.i3c.isNone) = false) :
    mctpPacket net src dst m env s = s.mctpAnswer net src m env := by
  refine if_neg ?_
  rcases hdst with rfl | rfl <;> simp [hsp, hup]

theorem mctpPacket_dropped (h : s.spUp = false ∨ (dst ≠ 0 ∧ dst ≠ s.eid) ∨ (if net then decide (s.boot.phase < phRAILS) else s.i3c.isNone) = true) :
    mctpPacket net src dst m env s = s := if_pos (by simpa [or_assoc] using h)

end

/-! The sensors (R608). -/

section
variable {s : State} {id : Nat}

/-- One sensor takes its reading, and tells a threshold that it crosses or a state that changes. -/
def State.sense (s : State) (id : Nat) : State :=
  if State.sensorBand { s with sensors := Store.set (fun _ => 0) s.sensors id (s.sensorNow id) } id (s.sensor id) !=
      State.sensorBand { s with sensors := Store.set (fun _ => 0) s.sensors id (s.sensorNow id) } id (s.sensorNow id) && s.i3c.isSome then
    (State.emit { s with sensors := Store.set (fun _ => 0) s.sensors id (s.sensorNow id) } .ibi).emit (.mctp false 0 (.platformEvent id (s.sensorNow id)))
  else { s with sensors := Store.set (fun _ => 0) s.sensors id (s.sensorNow id) }

theorem pldmSensorUpdate_up (h : s.spUp = true) : pldmSensorUpdate s = sensorIds.foldl State.sense s := if_neg (by simp [h])

/-- A reading of the state that looks at neither readings nor outputs is the same after a sensor took its own. -/
theorem State.sense_reads {β : Type} {g : State → β} (hg : ∀ (t : State) (l : Store Nat) (o : List Output), g { t with sensors := l, out := o } = g t) (s : State) (id : Nat) :
    g (s.sense id) = g s := FaultBlind.ite_of_eq (hg s _ _) (hg s _ s.out)

theorem State.sensorNow_sense (i : Nat) : (s.sense i).sensorNow id = s.sensorNow id := State.sense_reads (g := fun t => t.sensorNow id) (fun _ _ _ => rfl) s i

theorem State.sensors_sense (s : State) (i : Nat) : (s.sense i).sensors = Store.set (fun _ => 0) s.sensors i (s.sensorNow i) := by
  unfold State.sense
  split <;> rfl

theorem State.sensor_sense_self : (s.sense id).sensor id = s.sensorNow id :=
  (congrArg (Store.get (fun _ => 0) · id) (s.sensors_sense id)).trans (Store.get_set_self _ _ _ _)

theorem State.sensor_sense_ne {i : Nat} (h : i ≠ id) : (s.sense i).sensor id = s.sensor id :=
  (congrArg (Store.get (fun _ => 0) · id) (s.sensors_sense i)).trans (Store.get_set_ne _ _ h _)

theorem sensorIds_nodup : sensorIds.Nodup := List.nodup_range.map (Nat.succ_injective)

/-- Every sensor reads what it finds. -/
theorem State.sensor_foldl_sense (h : id ∈ sensorIds) : (sensorIds.foldl State.sense s).sensor id = s.sensorNow id := by
  have hpair := foldl_once State.sense (fun t => (t.sensorNow id, t.sensor id)) (fun x => (x.1, x.1)) id (fun t => Prod.ext (State.sensorNow_sense id) State.sensor_sense_self)
    (fun t i hi => Prod.ext (State.sensorNow_sense i) (State.sensor_sense_ne hi)) sensorIds_nodup s
  rw [if_pos h] at hpair
  exact (Prod.mk.inj hpair).2

end

/-! DOE. -/

theorem doeRequest_discovery {s : State} (h : s.spdmUp = true) : doeRequest .discovery s = s.emit (.doe none) := if_neg (by simp [h])

theorem doeRequest_silent {s : State} {r : DoeReq} (h : s.spdmUp = false) : doeRequest r s = s := if_pos (by simp [h])

/-- Settles O48: each clause is the rule above for its frame, its packet or its request. -/
theorem relayAndSideBandsAnswer : Obligations.RelayAndSideBandsAnswer := by
  refine ⟨fun s x hs h => run_same hs (relay_down h), fun s ctr accs hs => run_same hs relay_invalid,
    fun s ctr accs x hon hreset hphase hpos hboard hne hlen hses hj => run_of_eq hon (relay_runs hreset hphase hpos hboard hne hlen hses hj),
    fun s ctr accs x r hon hreset hphase hpos hboard hne hlen hses hj => run_of_eq hon (relay_cached hreset hphase hpos hboard hne hlen hses hj),
    fun s ctr accs x hs hses hj => run_same hs (relay_stale hses hj),
    fun s pos ctr data r hon hreset hphase hout hsent hctr => run_of_eq hon (relay_answered hreset hphase hout hsent hctr),
    fun s hon => run_on hon, fun s => State.announce_silent, fun s => State.announce_sends,
    fun s m ok recs hon hphase hd => ⟨fun he => run_of_eq hon (mgtFrame_agent hphase hd he), fun he => run_of_eq hon (mgtFrame_endpoint hphase hd he)⟩,
    fun s m ok recs hs h => run_same hs (mgtFrame_discarded h),
    fun s src dst m env hon hsp hdst => ⟨fun hi3c => run_of_eq hon (mctpPacket_taken hsp hdst ?i3c), fun hphase => run_of_eq hon (mctpPacket_taken hsp hdst ?net)⟩,
    fun s net src dst m env hs h => run_same hs (mctpPacket_dropped (h.imp_right .inl)),
    fun s src dst m env hs => ⟨fun h => run_same hs (mctpPacket_dropped (.inr (.inr ?noAddress))), fun h => run_same hs (mctpPacket_dropped (.inr (.inr ?noNet)))⟩,
    fun s hon hsp => ⟨_, run_of_eq hon (pldmSensorUpdate_up hsp), ?regs, ?mem, fun id => State.sensor_foldl_sense⟩,
    fun s a hon => run_on hon, fun s q hon hup => ⟨run_of_eq hon (doeRequest_discovery hup), run_of_eq hon (doeRequest_spdm hup q)⟩,
    fun s r hs h => run_same hs (doeRequest_silent h)⟩
  case i3c => simpa using hi3c
  case net => simpa using hphase
  case noAddress => simp [h]
  case noNet => simpa using h
  case regs => exact foldl_keeps (g := State.regs) (State.sense_reads fun _ _ _ => rfl) sensorIds s
  case mem => exact foldl_keeps (g := State.mem) (State.sense_reads fun _ _ _ => rfl) sensorIds s

end Sys2Proof.Machine
end

section
/-! Distributions at a receiver (15 R578–R584): the form of DIST_OPEN, the reception of fragments, the verification in its order, and what activation and abort leave. -/

namespace Sys2Proof.Machine

section
variable {s : State} {b : List Byte} {d : DistSt} {f : DistFind}

/-! DIST_OPEN. -/

/-- The form that DIST_OPEN asks for (R580). -/
structure OpenForm (b : List Byte) : Prop where
  length : b.length = 80
  typeLo : 1 ≤ imgNat b 4 1
  typeHi : imgNat b 4 1 ≤ 3
  zero5 : imgZero b 5 3 = true
  zero14 : imgZero b 14 2 = true
  content : imgNat b 8 4 ≠ 0
  fits : imgNat b 8 4 ≤ distMax (imgNat b 4 1)
  chunks : imgNat b 12 2 = ceilDiv (imgNat b 8 4) 65536

/-- The distribution that DIST_OPEN describes, staged at a granule of a die. -/
def openedDist (b : List Byte) (c : CDie) (g : Nat) : DistSt :=
  { id := BitVec.ofNat 32 (imgNat b 0 4), type := imgNat b 4 1, length := imgNat b 8 4, nchunk := ceilDiv (imgNat b 8 4) 65536,
    digest := BitVec.ofNat 512 (imgNat b 16 64), die := c, gran := g }

/-- A fresh reception (R579). -/
def State.openFresh (s : State) (b : List Byte) : State × List Byte :=
  match s.stagePlace with
  | none => (s, mcREFUSED)
  | some (c, g) => ({ s with staging := some (c, g), dist := some (openedDist b c g) }, mcOK)

theorem openId_toNat (b : List Byte) : (BitVec.ofNat 32 (imgNat b 0 4)).toNat = imgNat b 0 4 := Nat.mod_eq_of_lt (imgNat_lt b 0 4)

theorem distOpen_form (hcheck : s.distCheck = s) (h : OpenForm b) : distOpen b s =
    match s.dist with
    | some d => if d.id = BitVec.ofNat 32 (imgNat b 0 4) && d.state != dsFAILED then (s, mcOK) else if d.busy then (s, mcREFUSED) else s.openFresh b
    | none => s.openFresh b := by
  obtain ⟨hlen, hlo, hhi, h5, h14, hne, hfits, hchunks⟩ := h
  unfold distOpen
  rw [hcheck]
  dsimp only
  rw [if_neg]
  · rfl
  · simp only [Bool.or_eq_true, bne_iff_ne, decide_eq_true_eq, Bool.not_eq_true', not_or]
    exact ⟨⟨⟨⟨⟨⟨⟨by simp [hlen], by omega⟩, by omega⟩, by simp [h5]⟩, by simp [h14]⟩, hne⟩, by omega⟩, by simp [hchunks]⟩

theorem distOpen_badForm (hcheck : s.distCheck = s) (h : b.length ≠ 80 ∨ imgNat b 4 1 = 0 ∨ 3 < imgNat b 4 1 ∨ imgNat b 8 4 = 0 ∨
    distMax (imgNat b 4 1) < imgNat b 8 4 ∨ imgNat b 12 2 ≠ ceilDiv (imgNat b 8 4) 65536) : distOpen b s = (s, mcREFUSED) := by
  unfold distOpen
  rw [hcheck]
  refine if_pos ?_
  simp only [Bool.or_eq_true, bne_iff_ne, decide_eq_true_eq]
  rcases h with h | h | h | h | h | h <;> simp [h]

section
variable (hcheck : s.distCheck = s) (hform : OpenForm b)
include hcheck hform

/-- The identifier that is held already. -/
theorem distOpen_held (hd : s.dist = some d) (hid : d.id.toNat = imgNat b 0 4) (hstate : d.state ≠ dsFAILED) : distOpen b s = (s, mcOK) := by
  have heq : d.id = BitVec.ofNat 32 (imgNat b 0 4) := BitVec.eq_of_toNat_eq (hid.trans (openId_toNat b).symm)
  rw [distOpen_form hcheck hform, hd]
  exact if_pos (by simp [heq, hstate])

theorem distOpen_busy (hd : s.dist = some d) (hid : d.id.toNat ≠ imgNat b 0 4) (hbusy : d.busy = true) : distOpen b s = (s, mcREFUSED) := by
  have hne : d.id ≠ BitVec.ofNat 32 (imgNat b 0 4) := fun h => hid ((congrArg BitVec.toNat h).trans (openId_toNat b))
  rw [distOpen_form hcheck hform, hd]
  exact (if_neg (by simp [hne])).trans (if_pos hbusy)

theorem distOpen_fresh (h : ∀ d, s.dist = some d → d.busy = false ∧ (d.id.toNat = imgNat b 0 4 → d.state = dsFAILED)) : distOpen b s = s.openFresh b := by
  rw [distOpen_form hcheck hform]
  cases hd : s.dist with
  | none => rfl
  | some d =>
    obtain ⟨hbusy, hfailed⟩ := h d hd
    have hother : ¬ (d.id = BitVec.ofNat 32 (imgNat b 0 4) && d.state != dsFAILED) = true := by
      simp only [Bool.and_eq_true, decide_eq_true_eq, bne_iff_ne, not_and, not_not]
      exact fun hid => hfailed ((congrArg BitVec.toNat hid).trans (openId_toNat b))
    exact (if_neg hother).trans (if_neg (by simp [hbusy]))

end

theorem State.openFresh_none (h : s.stagePlace = none) : s.openFresh b = (s, mcREFUSED) := by
  unfold State.openFresh
  rw [h]

theorem State.openFresh_some {c : CDie} {g : Nat} (h : s.stagePlace = some (c, g)) :
    s.openFresh b = ({ s with staging := some (c, g), dist := some (openedDist b c g) }, mcOK) := by
  unfold State.openFresh
  rw [h]

/-! Commands about the distribution that is held. -/

section
variable (hd : s.dist = some d) (hid : d.id.toNat = imgNat b 0 4)
include hd hid

theorem State.distOf_held : s.distOf b = some d := by simp [State.distOf, hd, hid]

section
variable (hcheck : s.distCheck = s)
include hcheck

/-- A fragment is written at its place, and the last one to arrive starts the verification. -/
theorem distData_taken (hlen : b.length = 1036) (hzero : imgZero b 7 5 = true) (hix : imgNat b 6 1 < 64) (hfrag : 64 * imgNat b 4 2 + imgNat b 6 1 < d.nfrag)
    (hstate : d.state = dsRECEIVING) : distData b s =
      ({ s.mcPut d.die (d.gran * memGran + 1024 * (64 * imgNat b 4 2 + imgNat b 6 1))
          ((b.drop 12).take (min 1024 (d.length - 1024 * (64 * imgNat b 4 2 + imgNat b 6 1)))) with
        dist := some (if (List.range d.nchunk).all
            { d with got := Store.set (fun _ => false) d.got (64 * imgNat b 4 2 + imgNat b 6 1) true }.chunkDone then
          { d with got := Store.set (fun _ => false) d.got (64 * imgNat b 4 2 + imgNat b 6 1) true, state := dsVERIFYING }
          else { d with got := Store.set (fun _ => false) d.got (64 * imgNat b 4 2 + imgNat b 6 1) true }) }, mcOK) := by
  unfold distData
  rw [hcheck]
  dsimp only
  rw [State.distOf_held hd hid]
  exact if_neg (by simp [hlen, hzero, hix, hfrag, hstate])

theorem distData_refused (h : b.length ≠ 1036 ∨ imgZero b 7 5 = false ∨ 64 ≤ imgNat b 6 1 ∨ d.nfrag ≤ 64 * imgNat b 4 2 + imgNat b 6 1 ∨ d.state ≠ dsRECEIVING) :
    distData b s = (s, mcREFUSED) := by
  unfold distData
  rw [hcheck]
  dsimp only
  rw [State.distOf_held hd hid]
  exact if_pos (by rcases h with h | h | h | h | h <;> simp [h])

theorem distStatus_held (hlen : b.length = 4) : distStatus b s = (s, mcOK ++ [BitVec.ofNat 8 d.state, BitVec.ofNat 8 d.cause] ++
    leBytes (bitmapOf ((List.range d.nchunk).filter d.chunkDone)) (ceilDiv d.nchunk 8)) := by
  unfold distStatus
  rw [hcheck]
  dsimp only
  rw [if_neg (by simp [hlen]), State.distOf_held hd hid]

end

theorem distActivate_refused (h : d.state ≠ dsVERIFIED ∨ b.length ≠ 5 ∨ 1 < imgNat b 4 1) : distActivate b s = (s, mcREFUSED) := by
  unfold distActivate
  rw [State.distOf_held hd hid]
  exact if_pos (by rcases h with h | h | h <;> simp [h])

theorem distActivate_plain (hstate : d.state = dsVERIFIED) (hlen : b.length = 5) (hburn : imgNat b 4 1 = 0) : distActivate b s = (s.mgmtReset 2, mcOK) := by
  unfold distActivate
  rw [State.distOf_held hd hid]
  exact (if_neg (by simp [hstate, hlen, hburn])).trans (by simp [hburn])

/-- With SVN_BURN the fused minimum rises. -/
theorem distActivate_burns (hstate : d.state = dsVERIFIED) (hlen : b.length = 5) (hburn : imgNat b 4 1 = 1) : distActivate b s =
    (State.mgmtReset { s with fuses := { s.fuses with minSvn := max s.fuses.minSvn (leNat (s.flashGet 8 4)) } } 2, mcOK) := by
  unfold distActivate
  rw [State.distOf_held hd hid]
  exact (if_neg (by simp [hstate, hlen, hburn])).trans (by simp [hburn])

theorem distAbort_discards (hlen : b.length = 4) (hstate : d.state ≠ dsVERIFYING) :
    distAbort b s = ({ s with dist := none, codeStaged := if d.type = 2 then none else s.codeStaged }, mcOK) := by
  unfold distAbort
  rw [State.distOf_held hd hid]
  exact if_neg (by simp [hlen, hstate])

theorem distAbort_refused (h : b.length ≠ 4 ∨ d.state = dsVERIFYING) : distAbort b s = (s, mcREFUSED) := by
  unfold distAbort
  rw [State.distOf_held hd hid]
  exact if_pos (by simpa using h)

end

/-! No distribution is held. -/

theorem State.distCheck_none (h : s.dist = none) : s.distCheck = s := by
  unfold State.distCheck
  rw [h]

theorem State.distOf_none (h : s.dist = none) : s.distOf b = none := by simp [State.distOf, h]

theorem distData_none (h : s.dist = none) : distData b s = (s, mcREFUSED) := by simp [distData, State.distCheck_none h, State.distOf_none h]

theorem distStatus_none (h : s.dist = none) (hlen : b.length = 4) : distStatus b s = (s, mcOK ++ [0, 0]) := by
  simp [distStatus, State.distCheck_none h, State.distOf_none h, hlen]

theorem distActivate_none (h : s.dist = none) : distActivate b s = (s, mcREFUSED) := by simp [distActivate, State.distOf_none h]

theorem distAbort_none (h : s.dist = none) : distAbort b s = (s, mcREFUSED) := by simp [distAbort, State.distOf_none h]

/-- A distribution whose staging die is lost fails (R584). -/
theorem State.distCheck_lost (hd : s.dist = some d) (hbusy : d.busy = true) (h : s.dieDown d.die = true ∨ s.flag (.mem d.die) F.BLK_STATUS_READY = false) :
    s.distCheck = { s with dist := some { d with state := dsFAILED, cause := 4 } } := by
  unfold State.distCheck
  rw [hd]
  exact if_pos (by simpa [hbusy] using h)

/-! The verification. -/

/-- A distribution that fails its verification, by the cause. -/
def State.distFails (s : State) (d : DistSt) (cause : Nat) : State := { s with dist := some { d with state := dsFAILED, cause := cause } }

/-- A distribution that is verified. -/
def State.distVerified (s : State) (d : DistSt) : State := { s with dist := some { d with state := dsVERIFIED } }

/-- What an image fails past its certificate and signature. -/
abbrev State.stagedFault (s : State) (d : DistSt) : Option (Fin 5) := imageFail (s.staged d) s.fuses.minSvn true true

theorem distVerifyDone_idle (h : s.dist = none ∨ ∃ d, s.dist = some d ∧ d.state ≠ dsVERIFYING ∧ s.distCheck = s) : distVerifyDone f s = s := by
  unfold distVerifyDone
  rcases h with hd | ⟨d, hd, hstate, hcheck⟩
  · rw [State.distCheck_none hd]
    dsimp only
    rw [hd]
  · rw [hcheck]
    dsimp only
    rw [hd]
    exact if_pos (by simpa using hstate)

section
variable (hcheck : s.distCheck = s) (hd : s.dist = some d) (hstate : d.state = dsVERIFYING)
include hcheck hd hstate

/-- The judgement of a content that has been received whole, in its order. -/
theorem distVerifyDone_judges : distVerifyDone f s =
    if Config.sha512 (s.staged d) != d.digest then s.distFails d 1
    else if d.type = 3 && !(s.planAccepts (s.staged d) f.sigOk) then (s.distFails d 2).raise .sec 0x104 1 {}
    else if !f.sigOk then s.distFails d 2
    else if d.type = 1 && (s.stagedFault d).isSome then s.distFails d (if s.stagedFault d = some 4 then 3 else 2)
    else if d.type = 1 then { s.distVerified d with flash := Store.setList (fun _ => 0) s.flash 0 (s.staged d), fwStaged := true }
    else if d.type = 2 then { s.distVerified d with codeStaged := some d.digest }
    else State.holdPlan { s.distVerified d with flash := Store.setList (fun _ => 0) s.flash flashPlanBase (s.staged d) } (s.staged d) := by
  unfold distVerifyDone
  rw [hcheck]
  dsimp only
  rw [hd]
  exact if_neg (by simp [hstate])

theorem distVerifyDone_badDigest (h : Config.sha512 (s.staged d) ≠ d.digest) : distVerifyDone f s = s.distFails d 1 := by
  rw [distVerifyDone_judges hcheck hd hstate, if_pos (by simpa using h)]

section
variable (hdigest : Config.sha512 (s.staged d) = d.digest)
include hdigest

theorem distVerifyDone_badPlan (htype : d.type = 3) (hplan : s.planAccepts (s.staged d) f.sigOk = false) :
    distVerifyDone f s = (s.distFails d 2).raise .sec 0x104 1 {} := by
  rw [distVerifyDone_judges hcheck hd hstate, if_neg (by simp [hdigest]), if_pos (by simp [htype, hplan])]

theorem distVerifyDone_badSig (htype : d.type ≠ 3) (hsig : f.sigOk = false) : distVerifyDone f s = s.distFails d 2 := by
  rw [distVerifyDone_judges hcheck hd hstate, if_neg (by simp [hdigest]), if_neg (by simp [htype]), if_pos (by simp [hsig])]

section
variable (hsig : f.sigOk = true)
include hsig

theorem distVerifyDone_badImage {n : Fin 5} (htype : d.type = 1) (hfault : s.stagedFault d = some n) :
    distVerifyDone f s = s.distFails d (if n = 4 then 3 else 2) := by
  rw [distVerifyDone_judges hcheck hd hstate, if_neg (by simp [hdigest]), if_neg (by simp [htype]), if_neg (by simp [hsig]), if_pos (by simp [htype, hfault]), hfault]
  simp

theorem distVerifyDone_image (htype : d.type = 1) (hfault : s.stagedFault d = none) : distVerifyDone f s =
    { s.distVerified d with flash := Store.setList (fun _ => 0) s.flash 0 (s.staged d), fwStaged := true } := by
  rw [distVerifyDone_judges hcheck hd hstate, if_neg (by simp [hdigest]), if_neg (by simp [htype]), if_neg (by simp [hsig]), if_neg (by simp [hfault]), if_pos htype]

theorem distVerifyDone_code (htype : d.type = 2) : distVerifyDone f s = { s.distVerified d with codeStaged := some d.digest } := by
  rw [distVerifyDone_judges hcheck hd hstate, if_neg (by simp [hdigest]), if_neg (by simp [htype]), if_neg (by simp [hsig]), if_neg (by simp [htype]),
    if_neg (by simp [htype]), if_pos htype]

theorem distVerifyDone_plan (htype : d.type = 3) (hplan : s.planAccepts (s.staged d) true = true) : distVerifyDone f s =
    State.holdPlan { s.distVerified d with flash := Store.setList (fun _ => 0) s.flash flashPlanBase (s.staged d) } (s.staged d) := by
  rw [distVerifyDone_judges hcheck hd hstate, if_neg (by simp [hdigest]), if_neg (by simp [hsig, hplan]), if_neg (by simp [hsig]), if_neg (by simp [htype]),
    if_neg (by simp [htype]), if_neg (by simp [htype])]

end
end
end
end

/-- Settles O35: each clause is the rule above for its command or for what the verification finds. -/
theorem distributionsVerifyBeforeTheyAct : Obligations.DistributionsVerifyBeforeTheyAct := by
  refine ⟨fun s b hcheck hlen hlo hhi h5 h14 hne hfits hchunks => ?opens, fun s b hcheck h => distOpen_badForm hcheck h,
    fun s b d hcheck hd hid => ⟨distData_taken hd hid hcheck, distData_refused hd hid hcheck, distStatus_held hd hid hcheck, distActivate_refused hd hid,
      distActivate_plain hd hid, distActivate_burns hd hid, distAbort_discards hd hid, distAbort_refused hd hid⟩,
    fun s f d hon hcheck hd hstate => ⟨fun h => run_of_eq hon (distVerifyDone_badDigest hcheck hd hstate h), fun hdigest =>
      ⟨fun htype h => run_of_eq hon (distVerifyDone_badPlan hcheck hd hstate hdigest htype h),
        fun htype h => run_of_eq hon (distVerifyDone_badSig hcheck hd hstate hdigest htype h),
        fun htype hsig h => run_of_eq hon (distVerifyDone_badImage hcheck hd hstate hdigest hsig htype h),
        fun n htype hsig h hn => run_of_eq hon ((distVerifyDone_badImage hcheck hd hstate hdigest hsig htype h).trans (by rw [if_neg hn]; rfl)),
        fun htype hsig h => run_of_eq hon (distVerifyDone_image hcheck hd hstate hdigest hsig htype h),
        fun htype hsig => run_of_eq hon (distVerifyDone_code hcheck hd hstate hdigest hsig htype),
        fun htype hsig h => run_of_eq hon (distVerifyDone_plan hcheck hd hstate hdigest hsig htype h)⟩⟩,
    fun s f hs h => run_same hs (distVerifyDone_idle h), fun s d => State.distCheck_lost,
    fun s b h => ⟨distData_none h, distActivate_none h, distAbort_none h, distStatus_none h⟩⟩
  case opens =>
    have hform : OpenForm b := ⟨hlen, hlo, hhi, h5, h14, hne, hfits, hchunks⟩
    exact ⟨fun d => distOpen_held hcheck hform, fun d => distOpen_busy hcheck hform, fun hfree =>
      ⟨fun hplace => (distOpen_fresh hcheck hform hfree).trans (State.openFresh_none hplace), fun c g hplace =>
        ⟨openedDist b c g, (distOpen_fresh hcheck hform hfree).trans (State.openFresh_some hplace), openId_toNat b, rfl, rfl, rfl, rfl, rfl, rfl, rfl⟩⟩⟩

end Sys2Proof.Machine
end

section
/-! Bring-up, step by step (15 R560, R561, R568–R571): the reference, the rails, the branches, a stack's training and test, and board-unified presentation. -/

namespace Sys2Proof.Machine

section
variable {s : State}

/-! The reference. -/

/-- The registers of a reference that is present. -/
def State.refShown (s : State) : State :=
  ((((s.setFld (.clk pd0) F.CLK_STATUS_LOCK 1).setFld (.clk pd0) F.CLK_STATUS_REF_PRESENT 1).setFld (.clk pd0) F.CLK_STATUS_REFLOST_MODE 0).setFld .pci
    F.PCI_STATUS_REFLOST 0).blkReady (.clk pd0)

theorem State.refShown_onlyRegs (s : State) : s.refShown.OnlyRegs s :=
  ((((State.OnlyRegs.setFld s _ _ _).trans (.setFld _ _ _ _)).trans (.setFld _ _ _ _)).trans (.setFld _ _ _ _)).trans (.setFld _ _ _ _)

/-- The first rail of step 5 is enabled. -/
def State.firstRail (s : State) : State := State.enableRail { s with boot := { s.boot with refPresent := true, phase := phRAILS, rail := 0 } }

theorem State.firstRail_eq (s : State) : s.firstRail =
    { s with boot := { s.boot with refPresent := true, phase := phRAILS, rail := 0 }, out := .enable .pd0 true :: s.out } := rfl

theorem State.refclkUp_eq (s : State) : s.refclkUp = s.refShown.firstRail := by
  unfold State.refclkUp State.firstRail State.refShown
  rfl

theorem State.fld_firstRail (p : Page) (f : Field) : s.firstRail.fld p f = s.fld p f := rfl

theorem State.firstRail_boot (s : State) : s.firstRail.boot = { s.boot with refPresent := true, phase := phRAILS, rail := 0 } := rfl

theorem State.firstRail_pending (s : State) : s.firstRail.pending = s.pending := rfl

theorem State.firstRail_quiet (h : s.quiet = true) : s.firstRail.quiet = true := h

theorem State.refShown_lock : s.refShown.fld (.clk pd0) F.CLK_STATUS_LOCK = 1 := by
  rw [State.refShown, State.blkReady, State.fld_setFld_off _ _ _ _ _ (by decide), State.fld_setFld_page _ _ _ _ (by decide) (by decide) (by simp),
    State.fld_setFld_other _ _ _ _ _ (by decide), State.fld_setFld_other _ _ _ _ _ (by decide), State.fld_setFld _ _ _ _ (by decide)]
  rfl

theorem State.refShown_reflost : s.refShown.fld (.clk pd0) F.CLK_STATUS_REFLOST_MODE = 0 := by
  rw [State.refShown, State.blkReady, State.fld_setFld_off _ _ _ _ _ (by decide), State.fld_setFld_page _ _ _ _ (by decide) (by decide) (by simp),
    State.fld_setFld _ _ _ _ (by decide)]
  rfl

theorem refclkPresent_waits (h : s.boot.phase = phWAIT_REFCLK) : refclkPresent s = s.refShown.firstRail := (if_pos h).trans s.refclkUp_eq

/-! The rails. -/

/-- Step 5 goes on to a rail. -/
def State.railOn (s : State) (r : Rail) : State :=
  { s with boot := { s.boot with rail := s.boot.rail + 1, phase := phRAILS }, out := .enable r true :: s.out }

/-- Past the last rail, step 6 is due. -/
def State.railsOver (s : State) : State := { s with boot := { s.boot with rail := s.boot.rail + 1, phase := phCLOCKS } }

/-- The arrays of the dies in service are in SELFTEST. -/
def State.arraysTested (s : State) : State :=
  (allCDies.filter (fun c => !(s.fencedDies.contains (CDie.die c)))).foldl (fun t c => t.setMsf c msfSELFTEST) s

theorem State.nextRail_more {r : Rail} (h : railOrder[s.boot.rail + 1]? = some r) : s.nextRail = s.railOn r := by
  have hlt : s.boot.rail + 1 < railOrder.length := (List.getElem?_eq_some_iff.1 h).1
  unfold State.nextRail State.railOn State.enableRail
  dsimp only
  rw [if_pos hlt, if_pos hlt, h]
  rfl

theorem State.nextRail_last (h : railOrder.length ≤ s.boot.rail + 1) : s.nextRail = s.railsOver.arraysTested := by
  have hlt : ¬ s.boot.rail + 1 < railOrder.length := Nat.not_lt.2 h
  unfold State.nextRail State.railsOver State.arraysTested
  dsimp only
  rw [if_neg hlt, if_neg hlt]

theorem State.arraysTested_reads {β : Type} {g : State → β} (hg : ∀ (t : State) (c : CDie) (v : Nat), g (t.setMsf c v) = g t) (s : State) : g s.arraysTested = g s :=
  foldl_keeps (fun t c => hg t c _) _ s

theorem State.msfState_setMsf_self (c : CDie) {v : Nat} (hv : v < 16) : (s.setMsf c v).msfState c = v := by
  rw [State.msfState, State.setMsf, State.fld_setFld_other _ _ _ _ _ (by decide), State.fld_setFld _ _ _ _ (by decide)]
  exact Nat.mod_eq_of_lt hv

theorem State.msfState_setMsf_ne {c e : CDie} (h : c ≠ e) (v : Nat) : (s.setMsf c v).msfState e = s.msfState e := by
  have hpage : Page.msf c ≠ .msf e := by simpa using h
  rw [State.msfState, State.setMsf, State.fld_setFld_page _ _ _ _ (by decide) (by decide) hpage, State.fld_setFld_page _ _ _ _ (by decide) (by decide) hpage]
  rfl

theorem State.arraysTested_msf {c : CDie} (h : s.fencedDies.contains (CDie.die c) = false) : s.arraysTested.msfState c = msfSELFTEST := by
  refine (foldl_once (fun t c => t.setMsf c msfSELFTEST) (fun t => t.msfState c) (fun _ => msfSELFTEST) c (fun _ => State.msfState_setMsf_self c (by decide))
    (fun _ _ hne => State.msfState_setMsf_ne hne _) (allCDies_nodup.filter _) s).trans (if_pos ?_)
  rw [List.mem_filter, h]
  exact ⟨mem_allCDies c, rfl⟩

theorem railPowerGood_rails (h : s.boot.phase = phRAILS) : railPowerGood s = s.nextRail := if_pos h

/-- What the loss of a rail leads to: the next rail where its die alone needs it, else the end of bring-up (R568). -/
def State.railLost (s : State) (r : Rail) : State :=
  match r with
  | .cd _ => (s.loseRail r).nextRail
  | .pd1 => (s.loseRail r).nextRail
  | _ => (s.loseRail r).halt

theorem railPgTimeout_rails (h : s.boot.phase = phRAILS) {r : Rail} (hr : railOrder[s.boot.rail]? = some r) : railPgTimeout s = s.railLost r := by
  unfold railPgTimeout
  rw [if_neg (by simp [h]), hr]
  rfl

theorem State.railLost_die {r : Rail} (hdie : r = .pd1 ∨ ∃ c, r = .cd c) : s.railLost r = (s.loseRail r).nextRail := by
  obtain rfl | ⟨c, rfl⟩ := hdie <;> rfl

theorem State.railLost_package {r : Rail} (hcd : ∀ c, r ≠ .cd c) (hpd1 : r ≠ .pd1) : s.railLost r = (s.loseRail r).halt := by
  cases r with
  | cd c => exact absurd rfl (hcd c)
  | pd1 => exact absurd rfl hpd1
  | pd0 | ser | vdd2 | vddq | opt => rfl

/-! The branches. -/

/-- Steps 6–8 for every die. -/
def State.diesUp (s : State) (t : SelfTest) : State :=
  allDies.foldl (fun (u : State) d => u.dieUp t d) { s with boot := { s.boot with phase := phFABRIC_MEMORY, rounds := 0, coreHoles := [], dmaHoles := [] } }

/-- The ports and the stacks start. -/
def State.branches (u : State) : State :=
  ((allCDies.foldl State.startStacks (u.bootPorts.foldl (fun (x : State) q => x.startTrain q false) u)).settleRounds 4).showProxy.bringupReady

theorem bringupBranchesStart_clocks {t : SelfTest} (h : s.boot.phase = phCLOCKS) :
    bringupBranchesStart t s = if (s.diesUp t).boot.phase = phHALTED then s.diesUp t else (s.diesUp t).branches := by
  unfold bringupBranchesStart State.diesUp State.branches
  rw [if_neg (by simp [h])]

theorem bringupBranchesStart_other {t : SelfTest} (h : s.boot.phase ≠ phCLOCKS) : bringupBranchesStart t s = s := if_pos (by simpa using h)

/-! Stacks. -/

/-- A stack has room for the remaps of rows at bring-up (06 R258). -/
def State.remapFits (s : State) (c : CDie) (k : Fin 3) (rows : List (Fin 12 × BitVec 22)) : Prop :=
  ∀ ch : Fin 12, s.remapCount c k ch + rows.countP (fun r => r.1 == ch) ≤ 256

/-- The remaps of rows at bring-up. -/
def State.withRemaps (s : State) (c : CDie) (k : Fin 3) (rows : List (Fin 12 × BitVec 22)) : State :=
  { s with remaps := s.remaps ++ rows.map (fun r => ⟨c, k, r.1, r.2, 0⟩) }

variable {c : CDie} {k : Fin 3} {pass : Bool} {rows fixed : List (Fin 12 × BitVec 22)}

theorem State.bringupRemap_fits (h : s.remapFits c k rows) : s.bringupRemap c k rows = (s.withRemaps c k rows, true) := by
  refine if_neg ?_
  simp only [List.any_eq_true, decide_eq_true_eq, not_exists, not_and, Nat.not_lt]
  exact fun ch _ => h ch

theorem State.bringupRemap_full (h : ¬ s.remapFits c k rows) : s.bringupRemap c k rows = (s, false) := by
  refine if_pos ?_
  simp only [State.remapFits, not_forall, Nat.not_le] at h
  obtain ⟨ch, hch⟩ := h
  exact List.any_eq_true.2 ⟨ch, List.mem_finRange ch, decide_eq_true hch⟩

/-- Rows that hard repair covers leave the log. -/
def State.logFixed (s : State) (c : CDie) (k : Fin 3) (fixed : List (Fin 12 × BitVec 22)) : State :=
  { s with repairLog := s.repairLog.filter (fun r => !((r.die == c && r.stack == k) && fixed.contains (r.ch, r.row))) }

/-- The rows of a stack that the log holds. -/
def State.logRows (s : State) (c : CDie) (k : Fin 3) : List (Fin 12 × BitVec 22) :=
  (s.repairLog.filter (fun r => r.die == c && r.stack == k)).map (fun r => (r.ch, r.row))

/-- A stack shows FAILED, and has settled. -/
def State.stackFails (s : State) (c : CDie) (k : Fin 3) : State := (s.setFld (.mem c) (F.MEM_STACK_STATE k.val) skFAILED).stackOver c

/-- A trained stack is eligible for its round. -/
def State.stackTrained (s : State) (c : CDie) (k : Fin 3) : State :=
  (State.setFld { s with boot := { s.boot with eligible := s.boot.eligible ++ [3 * c.val + k.val] } } (.mem c) (F.MEM_STACK_STATE k.val) skREPAIR).startRound

section
variable (hup : s.dieDown c = false) (hphase : s.boot.phase = phFABRIC_MEMORY) (hst : s.fld (.mem c) (F.MEM_STACK_STATE k.val) = skTRAINING)
include hup hphase hst

theorem stackTrainingDone_eq {u : State} {fits : Bool} (h : (s.logFixed c k fixed).bringupRemap c k ((s.logFixed c k fixed).logRows c k) = (u, fits)) :
    stackTrainingDone c k pass fixed s = if pass && fits then u.stackTrained c k else u.stackFails c k := by
  have hgo : stackTrainingDone c k pass fixed s =
      match (s.logFixed c k fixed).bringupRemap c k ((s.logFixed c k fixed).logRows c k) with
      | (u, fits) => if pass && fits then u.stackTrained c k else u.stackFails c k := if_neg (by simp [hup, hphase, hst])
  rw [hgo, h]

end

/-- The rows that a test finds and no entry remaps yet. -/
def State.newRows (s : State) (c : CDie) (k : Fin 3) (rows : List (Fin 12 × BitVec 22)) : List (Fin 12 × BitVec 22) :=
  rows.eraseDups.filter (fun r => !(s.isRemapped c ⟨k, r.1, r.2, none⟩))

/-- New rows are logged and counted. -/
def State.rowsLogged (s : State) (c : CDie) (k : Fin 3) (new : List (Fin 12 × BitVec 22)) : State :=
  (new.foldl (fun (t : State) r => t.logRepair c ⟨k, r.1, r.2, none⟩) s).setFld (.mem c) (F.MEM_STACK_TEST_ROWS k.val) (min 0xFFFF new.length)

/-- A stack that fails its test is no longer eligible. -/
def State.ineligible (s : State) (c : CDie) (k : Fin 3) : State :=
  { s with boot := { s.boot with eligible := s.boot.eligible.filter (· != 3 * c.val + k.val) } }

section
variable (hup : s.dieDown c = false) (hst : s.fld (.mem c) (F.MEM_STACK_STATE k.val) = skTESTING) (hel : (3 * c.val + k.val) ∈ s.boot.eligible)
  (hround : c.val / 2 = s.boot.rounds)
include hup hst hel hround

theorem stackTestDone_eq {u : State} {fits : Bool} (h : (s.rowsLogged c k (s.newRows c k rows)).bringupRemap c k (s.newRows c k rows) = (u, fits)) :
    stackTestDone c k pass rows s = if pass && fits then (u.setFld (.mem c) (F.MEM_STACK_STATE k.val) skREADY).stackOver c
      else (u.ineligible c k).stackFails c k := by
  have hgo : stackTestDone c k pass rows s =
      match (s.rowsLogged c k (s.newRows c k rows)).bringupRemap c k (s.newRows c k rows) with
      | (u, fits) => if pass && fits then (u.setFld (.mem c) (F.MEM_STACK_STATE k.val) skREADY).stackOver c else (u.ineligible c k).stackFails c k :=
    if_neg (by simp [hup, hst, hel, hround])
  rw [hgo, h]

end

/-! Board-unified presentation. -/

/-- A port of a bundle has reported the package's own plan digest (R570). -/
def State.bundleHeard (s : State) (n : Nat) : Prop :=
  ∃ q : Port, portRole s.profile q = .n n ∧ s.flag (.lnk q) F.LNK_PARTNER_VALID = true ∧ (s.port q).planDigest = digest16 s.bootPlan

theorem State.bundleHeard_iff (s : State) (n : Nat) :
    (allPorts.any fun q => portRole s.profile q == .n n && s.flag (.lnk q) F.LNK_PARTNER_VALID && (s.port q).planDigest == digest16 s.bootPlan) = true ↔
      s.bundleHeard n := by
  simp only [List.any_eq_true, Bool.and_eq_true, beq_iff_eq]
  exact ⟨fun ⟨q, _, ⟨hrole, hvalid⟩, hdigest⟩ => ⟨q, hrole, hvalid, hdigest⟩, fun ⟨q, hrole, hvalid, hdigest⟩ => ⟨q, List.mem_finRange q, ⟨hrole, hvalid⟩, hdigest⟩⟩

/-- Whether presentation is board-unified (R570). -/
def State.allHeard (s : State) : Bool :=
  let heard (n : Nat) : Bool := allPorts.any fun q => portRole s.profile q == .n n && s.flag (.lnk q) F.LNK_PARTNER_VALID && (s.port q).planDigest == digest16 s.bootPlan
  heard 1 && heard 2 && heard 3

theorem State.allHeard_iff (s : State) : s.allHeard = true ↔ s.bundleHeard 1 ∧ s.bundleHeard 2 ∧ s.bundleHeard 3 := by
  simp only [State.allHeard, Bool.and_eq_true, State.bundleHeard_iff, and_assoc]

/-- Presentation settles, unified or not. -/
def State.boardShown (s : State) (good : Bool) : State :=
  State.setFld { s with boot := { s.boot with boardSettled := true, boardPres := good, fallback := s.boot.fallback || !good } } .pci F.PCI_STATUS_BOARD_UNIFIED
    good.toNat

theorem boardPresConfirm_eq (hopen : s.boot.boardSettled = false) (hphase : s.boot.phase = phFABRIC_MEMORY) : boardPresConfirm s =
    State.bringupReady (if s.allHeard then (s.boardShown s.allHeard).boardSessions else (s.boardShown s.allHeard).notify 4 0x0101 []) := by
  have hgo : boardPresConfirm s = State.bringupReady (if s.allHeard then (if s.allHeard then (s.boardShown s.allHeard).boardSessions else s.boardShown s.allHeard)
      else (if s.allHeard then (s.boardShown s.allHeard).boardSessions else s.boardShown s.allHeard).notify 4 0x0101 []) := by
    unfold boardPresConfirm
    rw [if_neg (by simp [hopen, hphase])]
    rfl
  rw [hgo]
  cases s.allHeard <;> rfl

theorem State.boardShown_false (s : State) : s.boardShown false =
    State.setFld { s with boot := { s.boot with boardSettled := true, boardPres := false, fallback := true } } .pci F.PCI_STATUS_BOARD_UNIFIED 0 := by
  simp only [State.boardShown, Bool.not_false, Bool.or_true, Bool.toNat_false]

theorem State.boardShown_true (s : State) : s.boardShown true =
    State.setFld { s with boot := { s.boot with boardSettled := true, boardPres := true } } .pci F.PCI_STATUS_BOARD_UNIFIED 1 := by
  simp only [State.boardShown, Bool.not_true, Bool.or_false, Bool.toNat_true]

section
variable (hopen : s.boot.boardSettled = false) (hphase : s.boot.phase = phFABRIC_MEMORY)
include hopen hphase

theorem boardPresConfirm_unified (h : s.bundleHeard 1 ∧ s.bundleHeard 2 ∧ s.bundleHeard 3) : boardPresConfirm s = (State.boardSessions (State.setFld
    { s with boot := { s.boot with boardSettled := true, boardPres := true } } .pci F.PCI_STATUS_BOARD_UNIFIED 1)).bringupReady := by
  rw [boardPresConfirm_eq hopen hphase, s.allHeard_iff.2 h, State.boardShown_true]
  rfl

theorem boardPresConfirm_fellBack (h : ¬ (s.bundleHeard 1 ∧ s.bundleHeard 2 ∧ s.bundleHeard 3)) : boardPresConfirm s = ((State.setFld
    { s with boot := { s.boot with boardSettled := true, boardPres := false, fallback := true } } .pci F.PCI_STATUS_BOARD_UNIFIED 0).notify 4 0x0101
      []).bringupReady := by
  rw [boardPresConfirm_eq hopen hphase, Bool.eq_false_iff.2 (mt s.allHeard_iff.1 h), State.boardShown_false]
  rfl

end

theorem boardPresConfirm_kept (h : s.boot.boardSettled = true ∨ s.boot.phase ≠ phFABRIC_MEMORY) : boardPresConfirm s = s := if_pos (by simpa using h)

end

/-- Settles O2: each step as the rules above say, run where it is due; out of its place it leaves a settled package as it is. -/
theorem bringUpRunsItsSteps : Obligations.BringUpRunsItsSteps := by
  refine ⟨fun s hs hphase => ⟨s.refShown.firstRail, ?reference, ?phase, ?rail, ?present, (State.fld_firstRail _ _).trans State.refShown_lock,
      (State.fld_firstRail _ _).trans State.refShown_reflost, ?firstOut⟩,
    fun s hs h => run_same hs (if_neg h), fun s r hs hphase hr => ?railNext, fun s hs hphase hlast => ⟨s.railsOver.arraysTested, ?railsOver, ?boot, ?out, ?selftest⟩,
    fun s hs h => ⟨run_same hs (if_neg h), run_same hs (if_pos (by simpa using h))⟩,
    fun s r hon hphase hr hdie => run_of_eq hon ((railPgTimeout_rails hphase hr).trans (State.railLost_die hdie)),
    fun s r hon hphase hr hcd hpd1 => ⟨run_of_eq hon ((railPgTimeout_rails hphase hr).trans (State.railLost_package hcd hpd1)), rfl⟩,
    fun s t hs h => run_same hs (bringupBranchesStart_other h),
    fun s t hon hphase => ?branches,
    fun s c k pass fixed hon hup hphase hst => ⟨fun hpass hfits => run_of_eq hon (congrArg State.smtWake ?trained),
      fun hpass hfits => run_of_eq hon (congrArg State.smtWake ?untrained), fun hfull => run_of_eq hon (congrArg State.smtWake ?trainFull)⟩,
    fun s c k pass rows hon hup hst hel hround => ⟨fun hpass hfits => run_of_eq hon (congrArg State.smtWake ?tested),
      fun hpass hfits => run_of_eq hon (congrArg State.smtWake ?failed), fun hfull => run_of_eq hon (congrArg State.smtWake ?testFull)⟩,
    fun s hs h => run_same hs (boardPresConfirm_kept h),
    fun s hon hopen hphase => ⟨fun h => run_of_eq hon (boardPresConfirm_unified hopen hphase h), fun h => run_of_eq hon (boardPresConfirm_fellBack hopen hphase h)⟩⟩
  case reference =>
    exact run_quiet_of_eq hs (refclkPresent_waits hphase) (State.firstRail_quiet ((State.refShown_onlyRegs s).quiet (State.settled_quiet hs)))
      ((State.firstRail_pending _).trans (State.refShown_onlyRegs s).pending)
  case phase | rail | present => rw [State.firstRail_boot]
  case firstOut => rw [State.firstRail_eq, State.refShown_onlyRegs s]
  case railNext => exact run_quiet_of_eq hs ((railPowerGood_rails hphase).trans (State.nextRail_more hr)) (State.settled_quiet hs) rfl
  case railsOver =>
    have hquiet : s.railsOver.arraysTested.quiet = s.railsOver.quiet := State.arraysTested_reads State.setMsf_quiet _
    exact run_quiet_of_eq hs ((railPowerGood_rails hphase).trans (State.nextRail_last hlast)) (hquiet.trans (State.settled_quiet hs))
      (State.arraysTested_reads State.setMsf_pending _)
  case boot => exact State.arraysTested_reads State.setMsf_boot _
  case out => exact State.arraysTested_reads State.setMsf_out _
  case selftest => exact fun c => State.arraysTested_msf (s := s.railsOver)
  case branches =>
    have hclocks := bringupBranchesStart_clocks (t := t) hphase
    unfold State.branches State.diesUp at hclocks
    exact ⟨fun hhalt => run_of_eq hon (hclocks.trans (if_pos hhalt)), fun hrun => run_of_eq hon (hclocks.trans (if_neg hrun))⟩
  case trained => exact (stackTrainingDone_eq hup hphase hst (State.bringupRemap_fits hfits)).trans (if_pos (by simp [hpass]))
  case untrained => exact (stackTrainingDone_eq hup hphase hst (State.bringupRemap_fits hfits)).trans (if_neg (by simp [hpass]))
  case trainFull => exact (stackTrainingDone_eq hup hphase hst (State.bringupRemap_full hfull)).trans (if_neg (by simp))
  case tested => exact (stackTestDone_eq hup hst hel hround (State.bringupRemap_fits hfits)).trans (if_pos (by simp [hpass]))
  case failed => exact (stackTestDone_eq hup hst hel hround (State.bringupRemap_fits hfits)).trans (if_neg (by simp [hpass]))
  case testFull => exact (stackTestDone_eq hup hst hel hround (State.bringupRemap_full hfull)).trans (if_neg (by simp))

end Sys2Proof.Machine
end

section
/-! What a die's end takes from partitions, requests and links (01 R44, 08 R347) leaves: readings that look at none of these. -/

namespace Sys2Proof.Machine

/-- A reading of the state that looks neither at what a die's end takes of queues, requests, packets and links, nor at a register word. -/
structure DropBlind {β : Type} (g : State → β) : Prop extends CountBlind g where
  wr : ∀ (t : State) (a : Nat) (v : Word), g (t.wr a v) = g t
  queues : ∀ (t : State) (l : Store QueueSt), g { t with queues := l } = g t
  bar2 : ∀ (t : State) (l : List Bar2), g { t with bar2 := l } = g t
  fn : ∀ (t : State) (f : Fn) (x : FnCfg), g (t.setFn f x) = g t
  transits : ∀ (t : State) (l : List Transit), g { t with transits := l } = g t
  d2d : ∀ (t : State) (l : Store D2dSt), g { t with d2d := l } = g t
  reserved : ∀ (t : State) (l : List CrossRes), g { t with reserved := l } = g t

namespace DropBlind

variable {β : Type} {g : State → β} (hg : DropBlind g) (s : State)

include hg

theorem setFld (p : Page) (f : Field) (v : Nat) : g (s.setFld p f v) = g s := hg.wr s _ _

theorem bump (p : Page) (off n : Nat) : g (s.bump p off n) = g s := (hg.wr _ _ _).trans (hg.wr s _ _)

theorem killPart (p : Part) : g (s.killPart p) = g s := by
  have hdma (t : State) (q : QRef → Bool) : g (t.abortDma q stABORTED) = g t := (foldl_keeps (g := g) hg.retire _ _).trans (hg.runs t _)
  unfold State.killPart
  exact (hdma _ _).trans ((hg.dispatches _ _).trans ((foldl_keeps (fun t c => hg.abortSweeps t c _ _) _ _).trans (hg.queues s _)))

theorem showVf (p : Part) : g (s.showVf p) = g s := (hg.setFld _ _ _ _).trans ((hg.setFld _ _ _ _).trans (hg.setFld s _ _ _))

theorem c3React (p : Part) : g (s.c3React p) = g s :=
  FaultBlind.ite_of_eq (hg.parts s _) ((hg.killPart _ p).trans ((hg.notify _ _ _ _).trans ((hg.showVf _ p).trans ((hg.setFld _ _ _ _).trans (hg.parts s _)))))

theorem c3Die (c : CDie) : g (s.c3Die c) = g s := foldl_keeps (fun t p => FaultBlind.ite_of_eq (hg.c3React t p) rfl) _ s

theorem bar2Fail (id : Nat) (f : ReqFail) : g (s.bar2Fail id f) = g s := by
  unfold State.bar2Fail
  split
  · rfl
  · cases f with
    | timeout => exact (hg.bump _ _ _ _).trans ((hg.fn _ _ _).trans (hg.bar2 s _))
    | resp st => exact (hg.bump _ _ _ _).trans ((hg.fn _ _ _).trans (hg.bar2 s _))

theorem dropRequests (c : CDie) : g (s.dropRequests c) = g s := by
  refine (foldl_keeps (fun t r => ?_) _ _).trans (foldl_keeps hg.retire _ s)
  unfold State.ownerFail
  cases r.owner with
  | bar2w id => exact hg.bar2Fail t id _
  | bar2r id off => exact hg.bar2Fail t id _
  | _ => rfl

theorem unreserve (p : Packet) : g (s.unreserve p) = g s := hg.reserved s _

theorem dropOne (d : Die) (epo : Bool) : g (s.dropOne d epo) = g s := hg.setFld s _ _ _

theorem clearLink (a b : Die) : g (s.clearLink a b) = g s :=
  (hg.d2d _ _).trans (foldl_keeps (fun t _ => (hg.unreserve _ _).trans (FaultBlind.ite_of_eq rfl (hg.dropOne t a _))) _ s)

theorem updPort (q : Port) (f : PortSt → PortSt) : g (s.updPort q f) = g s := hg.ports s _

theorem linkFreed (a b : Die) (bit : Bool) (p : Packet) : g (s.linkFreed a b bit p) = g s :=
  FaultBlind.ite_of_eq rfl (FaultBlind.ite_of_eq (hg.d2d s _) ((hg.dropOne _ _ _).trans (hg.d2d s _)))

theorem freeInput (d : Die) (c : Came) (p : Packet) (res shr : Nat) : g (s.freeInput d c p res shr) = g s := by
  unfold State.freeInput
  split
  · rfl
  · exact hg.updPort s _ _
  · exact FaultBlind.ite_of_eq ((hg.unreserve _ _).trans (hg.linkFreed s _ _ _ _)) (hg.linkFreed s _ _ _ _)

theorem discard (d : Die) (c : Came) (p : Packet) (why : Cause) : g (s.discard d c p why) = g s := by
  unfold State.discard
  extract_lets counted released
  have hreleased : g released = g s := FaultBlind.ite_of_eq ((hg.unreserve _ _).trans (hg.bump s _ _ _)) (hg.bump s _ _ _)
  split
  · exact (hg.updPort _ _ _).trans hreleased
  · exact hreleased

theorem dropTransit (x : Transit) (why : Cause) : g (s.dropTransit x why) = g s := by
  have hfreed (t : State) : g ((t.discard x.die x.came x.inp why).freeInput x.die x.came x.inp x.res x.shr) = g t :=
    (hg.freeInput _ _ _ _ _ _).trans (hg.discard t _ _ _ _)
  exact FaultBlind.ite_of_eq ((hfreed _).trans (hg.transits s _)) ((hg.dropOne _ _ _).trans ((hfreed _).trans (hg.transits s _)))

theorem dropDie (d : Die) : g (s.dropDie d) = g s := by
  have hlinks (t : State) : g (allDies.foldl (fun (t : State) x => (t.clearLink x d).clearLink d x) t) = g t :=
    foldl_keeps (fun t x => (hg.clearLink _ _ _).trans (hg.clearLink t _ _)) _ t
  have hpackets : g ((s.transits.filter (fun t => t.die == d || t.out == .die d)).foldl (fun t x => t.dropTransit x .fenced) s) = g s :=
    foldl_keeps (fun t x => hg.dropTransit t x _) _ s
  exact FaultBlind.ite_of_eq ((hg.reserved _ _).trans ((hlinks _).trans hpackets)) ((hlinks _).trans hpackets)

end DropBlind

theorem State.memFenced_dropBlind : DropBlind State.memFenced where
  header t _ _ _ _ := t.wr_memFenced _ _
  hub t _ _ _ _ _ := t.wr_memFenced _ _
  emit t _ := t.emit_memFenced _
  chan t _ _ := t.setChan_memFenced _ _
  agent t _ _ _ _ := t.setAgent_memFenced _ _
  log _ _ := rfl
  pages _ _ := rfl
  parts _ _ := rfl
  array t _ _ := t.setArray_memFenced _ _
  dispatches _ _ := rfl
  runs _ _ := rfl
  retire t r := by
    simp only [State.retire]
    split <;> rfl
  loop t _ _ _ _ := t.wr_memFenced _ _
  power _ _ := rfl
  ports _ _ := rfl
  fclk _ _ := rfl
  windows _ _ := rfl
  requests _ _ := rfl
  respUse _ _ := rfl
  wr t := t.wr_memFenced
  queues _ _ := rfl
  bar2 _ _ := rfl
  fn t := t.setFn_memFenced
  transits _ _ := rfl
  d2d _ _ := rfl
  reserved _ _ := rfl

end Sys2Proof.Machine
end

section
/-! Core and management resets (17 R639–R641, R643, R678; 06 R263; 01 R44): what a reset clears as it begins, and what its end leaves. -/

namespace Sys2Proof.Machine

section
variable {s : State} {d : Die} {c : CDie}

theorem Die.eq_of_cd (h : Die.cd? d = some c) : d = CDie.die c := by
  unfold Die.cd? at h
  split at h
  · obtain rfl := Option.some.inj h
    rfl
  · cases h

/-! Which dies are in core reset. -/

theorem State.inReset_eq (s : State) (d : Die) : s.inReset d = (s.fld .rst F.RST_STATUS_IN_RESET).testBit d.val := by
  have hd : d.val < F.RST_STATUS_IN_RESET.width := d.isLt
  rw [State.fld, testBit_getF, decide_eq_true hd, Bool.true_and]
  exact congrArg (fun n => BitVec.getLsbD _ n) (Nat.zero_add d.val).symm

/-- A field of the RST page with a die's bit set. -/
def State.setBit (s : State) (f : Field) (d : Die) : State := s.setFld .rst f (s.fld .rst f ||| 2 ^ d.val)

/-- A field of the RST page with a die's bit clear. -/
def State.clearBit (s : State) (f : Field) (d : Die) : State :=
  s.setFld .rst f (if (s.fld .rst f).testBit d.val then s.fld .rst f - 2 ^ d.val else s.fld .rst f)

theorem testBit_sub_two_pow {x i : Nat} (h : x.testBit i = true) : (x - 2 ^ i).testBit i = false := by
  have hquot : (x - 2 ^ i) / 2 ^ i = x / 2 ^ i - 1 := by simpa using Nat.sub_mul_div x (2 ^ i) 1
  rw [Nat.testBit_eq_decide_div_mod_eq, decide_eq_true_eq] at h
  rw [Nat.testBit_eq_decide_div_mod_eq, hquot]
  simp only [decide_eq_false_iff_not]
  omega

theorem State.inReset_setBit (s : State) (d : Die) : (s.setBit F.RST_STATUS_IN_RESET d).inReset d = true := by
  have hd : d.val < F.RST_STATUS_IN_RESET.width := d.isLt
  rw [State.inReset_eq, State.setBit, State.fld_setFld _ _ _ _ (by decide), Nat.testBit_mod_two_pow, decide_eq_true hd, Nat.testBit_or, Nat.testBit_two_pow_self]
  simp

theorem State.inReset_clearBit (s : State) (d : Die) : (s.clearBit F.RST_STATUS_IN_RESET d).inReset d = false := by
  rw [State.inReset_eq, State.clearBit, State.fld_setFld _ _ _ _ (by decide), Nat.testBit_mod_two_pow]
  split
  · next h => rw [testBit_sub_two_pow h, Bool.and_false]
  · next h => rw [Bool.eq_false_iff.2 h, Bool.and_false]

theorem State.inReset_setFld_off {f : Field} (v : Nat) (h : f.off ≠ F.RST_STATUS_IN_RESET.off) : (s.setFld .rst f v).inReset d = s.inReset d := by
  rw [State.inReset_eq, State.fld_setFld_off _ _ _ _ _ h, State.inReset_eq]

/-! A core reset begins, stage by stage. -/

/-- What a core reset of a die clears. -/
def State.dieCleared (s : State) (d : Die) : State :=
  match Die.cd? d with
  | some c => s.clearCompute c
  | none => s.clearPortDie (if d = pd0 then 0 else 1)

/-- The far ends of a die's links show that they train. -/
def State.linksTrain (s : State) (d : Die) : State :=
  (d2dPages d).foldl (fun t p => if t.fld p.d2dFar F.D2D_STATE_STATE = 2 then t.d2dState p.d2dFar 1 else t) s

/-- The RST page shows a die in core reset. -/
def State.showReset (s : State) (d : Die) : State := (s.setBit F.RST_STATUS_IN_RESET d).setBit F.RST_CTRL_CORE d

theorem State.beginCoreReset_held (h : s.inReset d = true) : s.beginCoreReset d = s := if_pos h

theorem State.beginCoreReset_eq (h : s.inReset d = false) : s.beginCoreReset d = ((s.dieCleared d).linksTrain d).showReset d := by
  unfold State.beginCoreReset
  rw [if_neg (by simp [h])]
  rfl

theorem State.showReset_inReset (s : State) (d : Die) : (s.showReset d).inReset d = true :=
  (State.inReset_setFld_off _ (by decide)).trans (s.inReset_setBit d)

/-! A compute die's reset. -/

/-- What a compute die held is given up. -/
def State.dieDropped (s : State) (c : CDie) : State := ((s.c3Die c).dropRequests c).dropDie (CDie.die c)

/-- The stores of a compute die that a core reset empties, but for Tarn and the registers. -/
def State.dieEmptied (s : State) (c : CDie) : State :=
  let a := s.array c
  let s := s.setArray c { suspects := a.suspects }
  { s with
    queues := Store.keep (fun k => (QRef.ofKey k).die != c) s.queues
    cairns := Store.keep (fun k => k / 8192 != c.val) s.cairns
    tracks := Store.keep (fun k => k / 16 != c.val) s.tracks
    cores := Store.keep (fun k => k / 32 != c.val) s.cores
    fclk := Store.keep (fun k => k != c.val) s.fclk
    dispatches := s.dispatches.filter (fun d => d.ref.die != c)
    dmaRuns := s.dmaRuns.filter (fun r => r.ref.die != c)
    windows := s.windows.filter (fun w => w.die != c)
    savedRemaps := s.savedRemaps ++ s.remaps.filter (fun r => r.die == c)
    remaps := s.remaps.filter (fun r => r.die != c)
    zeroOrders := (Store.keep (fun k => k % 8 != c.val) s.zeroOrders) }

/-- The words of a compute die in reset: its registers at their reset values, its clock at the step it starts from. -/
def State.dieWords (s : State) (c : CDie) : State :=
  ((s.clearRegs (resetReg (CDie.die c))).setPwr c.val {}).setFld (.clk (CDie.die c)) F.CLK_STATUS_ACLK_K 6

theorem State.dieEmptied_memFenced (s : State) (c : CDie) : (s.dieEmptied c).memFenced = s.memFenced := rfl

theorem State.clearRegs_memFenced (s : State) (f : Page → Nat → Bool) : (s.clearRegs f).memFenced = s.memFenced := rfl

theorem State.dieWords_memFenced (s : State) (c : CDie) : (s.dieWords c).memFenced = s.memFenced := by
  rw [State.dieWords, State.setFld_memFenced, State.setPwr_memFenced, State.clearRegs_memFenced]

/-- A compute die's stores and words in reset. -/
def State.dieWiped (s : State) (c : CDie) : State := ((s.dieEmptied c).tarnZero c 0 tarnSpan).dieWords c

theorem State.dieWiped_memFenced (s : State) (c : CDie) : (s.dieWiped c).memFenced = s.memFenced := by
  rw [State.dieWiped, State.dieWords_memFenced, State.tarnZero_memFenced, State.dieEmptied_memFenced]

/-- A memory that is fenced stays so: its stacks show what they did. -/
def State.stacksKept (s u : State) (c : CDie) : State :=
  if u.memFenced.contains c then
    ((List.range 3).map (fun k => s.fld (.mem c) (F.MEM_STACK_STATE k))).zipIdx.foldl (fun (t : State) e => t.setFld (.mem c) (F.MEM_STACK_STATE e.2) e.1) u
  else u

theorem State.clearCompute_eq (s : State) (c : CDie) : s.clearCompute c = (s.dieDropped c).stacksKept ((s.dieDropped c).dieWiped c) c := by
  unfold State.clearCompute State.dieDropped
  generalize ((s.c3Die c).dropRequests c).dropDie (CDie.die c) = u
  rfl

theorem State.clearCompute_unfenced (h : c ∉ s.memFenced) : s.clearCompute c = (s.dieDropped c).dieWiped c := by
  have hdropped : (s.dieDropped c).memFenced = s.memFenced := by
    have hg := State.memFenced_dropBlind
    rw [State.dieDropped, hg.dropDie, hg.dropRequests, hg.c3Die]
  refine (State.clearCompute_eq s c).trans (if_neg ?_)
  rw [State.dieWiped_memFenced, hdropped]
  simpa using h

/-- Whether a register word is at its reset value. -/
def State.atReset (s : State) (a : Nat) : Prop := s.rd a = regReset s.fuses a

theorem State.atReset_of_eq {t : State} {a : Nat} (hrd : t.rd a = s.rd a) (hfuses : t.fuses = s.fuses) (h : s.atReset a) : t.atReset a := by
  unfold State.atReset
  rw [hrd, hfuses, h]

theorem State.clearRegs_atReset {f : Page → Nat → Bool} {p : Page} {off : Nat} (hoff : off < 0x1000) (h : f p off = true) :
    (s.clearRegs f).atReset (p.base + off) := by
  unfold State.atReset State.rd State.clearRegs
  rw [Store.get_keep, if_neg]
  rw [pageOf_base_add p off hoff]
  simp [Page.base_add_mod p off hoff, h]

theorem Page.ne_of_die {p q : Page} (h : p.die ≠ q.die) : p ≠ q := fun e => h (congrArg Page.die e)

theorem Page.ne_of_ptype {p q : Page} (h : p.ptype ≠ q.ptype) : p ≠ q := fun e => h (congrArg Page.ptype e)

/-- A core reset of a compute die clears every register of its pages but CLK. -/
theorem resetReg_of_die {p : Page} (hd : p.die = CDie.die c) (hclk : p.ptype ≠ .clk) (off : Nat) : resetReg (CDie.die c) p off = true := by
  have hne := CDie.die_ne_pd0 c
  cases p with
  | clk e => exact absurd rfl hclk
  | flt | sec | pci | smt | rst | tim | mbx ch => exact absurd hd.symm hne
  | pwr e =>
    have he : e ≠ pd0 := fun h => hne (hd.symm.trans h)
    simp [resetReg, pd0Keeps, hd, he]
  | _ => simp [resetReg, pd0Keeps, hd]

theorem State.dieWords_atReset {p : Page} {off : Nat} (hd : p.die = CDie.die c) (hclk : p.ptype ≠ .clk) (hoff : off < 0x1000) : (s.dieWords c).atReset (p.base + off) :=
  State.atReset_of_eq (s := s.clearRegs (resetReg (CDie.die c))) (State.rd_setFld_page _ _ _ _ (by decide) hoff (Page.ne_of_ptype hclk.symm)) rfl
    (State.clearRegs_atReset hoff (resetReg_of_die hd hclk off))

/-! The links and the RST page. -/

theorem d2dPages_far {p : Page} (h : p ∈ d2dPages d) : p.d2dFar.ptype = .d2d := by
  unfold d2dPages at h
  split at h
  · simp only [List.mem_cons, List.not_mem_nil, or_false] at h
    rcases h with rfl | rfl | rfl | rfl <;> rfl
  · obtain ⟨n, -, rfl⟩ := List.mem_map.1 h
    rfl

theorem State.rd_fireEvent_page {p q : Page} (s : State) (j : Nat) {off : Nat} (hoff : off < 0x1000) (h : p ≠ q) :
    (s.fireEvent p j).rd (q.base + off) = s.rd (q.base + off) := by
  have hset (t : State) (f : Field) (v : Nat) (hf : f.off < 0x1000) : (t.setFld p f v).rd (q.base + off) = t.rd (q.base + off) :=
    t.rd_setFld_page f v off hf hoff h
  have hbit (t : State) (o v : Nat) (ho : o < 0x1000) : (t.setFld p ⟨o, j, 1⟩ v).rd (q.base + off) = t.rd (q.base + off) := hset t _ _ ho
  have hfired : (s.setFld p ⟨F.EVT_STATUS_EVT.off, j, 1⟩ 1).rd (q.base + off) = s.rd (q.base + off) := hbit _ _ _ (by decide)
  exact FaultBlind.ite_of_eq (g := fun t : State => t.rd (q.base + off)) rfl (FaultBlind.ite_of_eq (g := fun t : State => t.rd (q.base + off))
    (FaultBlind.ite_of_eq (g := fun t : State => t.rd (q.base + off)) ((hbit _ _ _ (by decide)).trans hfired) ((hset _ _ _ (by decide)).trans hfired)) hfired)

theorem State.rd_d2dState_page {p q : Page} (s : State) (v : Nat) {off : Nat} (hoff : off < 0x1000) (h : p ≠ q) :
    (s.d2dState p v).rd (q.base + off) = s.rd (q.base + off) :=
  FaultBlind.ite_of_eq (g := fun t : State => t.rd (q.base + off)) rfl
    ((State.rd_fireEvent_page _ _ hoff h).trans (s.rd_setFld_page _ _ _ (by decide) hoff h))

theorem State.linksTrain_keeps {β : Type} {g : State → β} (s : State) (d : Die) (hg : ∀ (t : State) (p : Page), p.ptype = .d2d → g (t.d2dState p 1) = g t) :
    g (s.linksTrain d) = g s :=
  List.foldlRecOn (motive := fun t : State => g t = g s) (d2dPages d) _ rfl fun t ht _ hp => (FaultBlind.ite_of_eq (hg t _ (d2dPages_far hp)) rfl).trans ht

theorem State.rd_linksTrain (s : State) (d : Die) {q : Page} {off : Nat} (hq : q.ptype ≠ .d2d) (hoff : off < 0x1000) :
    (s.linksTrain d).rd (q.base + off) = s.rd (q.base + off) :=
  State.linksTrain_keeps (g := fun t : State => t.rd (q.base + off)) s d fun t _ hp => t.rd_d2dState_page 1 hoff (Page.ne_of_ptype (by rw [hp]; exact hq.symm))

theorem State.fuses_d2dState (s : State) (p : Page) (v : Nat) : (s.d2dState p v).fuses = s.fuses := by
  unfold State.d2dState
  split
  · rfl
  · rw [State.fireEvent_fuses, State.setFld_fuses]

theorem State.tarn_d2dState (s : State) (p : Page) (v : Nat) : (s.d2dState p v).tarn = s.tarn := by
  unfold State.d2dState
  split
  · rfl
  · rw [State.fireEvent_tarn, State.setFld_tarn]

theorem State.rd_showReset (s : State) (d : Die) {q : Page} {off : Nat} (hq : q ≠ .rst) (hoff : off < 0x1000) :
    (s.showReset d).rd (q.base + off) = s.rd (q.base + off) :=
  (State.rd_setFld_page _ _ _ _ (by decide) hoff hq.symm).trans (State.rd_setFld_page _ _ _ _ (by decide) hoff hq.symm)

theorem State.fuses_showReset (s : State) (d : Die) : (s.showReset d).fuses = s.fuses := (State.setFld_fuses _ _ _ _).trans (s.setFld_fuses _ _ _)

theorem State.tarn_showReset (s : State) (d : Die) : (s.showReset d).tarn = s.tarn := (State.setFld_tarn _ _ _ _).trans (s.setFld_tarn _ _ _)

section
variable (hin : s.inReset d = false) (hc : Die.cd? d = some c) (hmem : c ∉ s.memFenced)
include hin hc hmem

theorem State.beginCoreReset_compute : s.beginCoreReset d =
    (((s.dieDropped c).dieWiped c).linksTrain d).showReset d := by
  rw [State.beginCoreReset_eq hin, State.dieCleared, hc]
  dsimp only
  rw [State.clearCompute_unfenced hmem]

theorem State.beginCoreReset_atReset {p : Page} {off : Nat} (hd : p.die = d) (hclk : p.ptype ≠ .clk) (hlink : p.ptype ≠ .d2d) (hoff : off < 0x1000) :
    (s.beginCoreReset d).atReset (p.base + off) := by
  have hdie : d = CDie.die c := Die.eq_of_cd hc
  have hrst : p ≠ .rst := Page.ne_of_die (by rw [hd, hdie]; exact CDie.die_ne_pd0 c)
  rw [State.beginCoreReset_compute hin hc hmem]
  refine State.atReset_of_eq (State.rd_showReset _ _ hrst hoff) (State.fuses_showReset _ _) ?_
  refine State.atReset_of_eq (State.rd_linksTrain _ _ hlink hoff) (State.linksTrain_keeps (g := State.fuses) _ _ fun t q _ => t.fuses_d2dState q 1) ?_
  exact State.dieWords_atReset (hd.trans hdie) hclk hoff

theorem State.beginCoreReset_tarn {off : Nat} (hoff : off < tarnSpan) : (s.beginCoreReset d).tarnByte c off = 0 := by
  have htarn : (s.beginCoreReset d).tarn = (((s.dieDropped c).dieEmptied c).tarnZero c 0 tarnSpan).tarn := by
    rw [State.beginCoreReset_compute hin hc hmem, State.tarn_showReset]
    exact State.linksTrain_keeps (g := State.tarn) _ _ fun t q _ => t.tarn_d2dState q 1
  rw [State.tarnByte, htarn]
  exact (State.tarnByte_tarnZero_span (s.dieDropped c |>.dieEmptied c) c c (Nat.le_of_eq (Nat.zero_add _)) hoff).trans (if_pos ⟨rfl, Nat.zero_le _, by rwa [Nat.zero_add]⟩)

end

/-! The end of a core reset. -/

theorem State.endReset_eq (h : s.inReset d = true) : s.endReset d = ((s.clearBit F.RST_STATUS_IN_RESET d).clearBit F.RST_CTRL_CORE d).fireEvent .rst 1 := by
  unfold State.endReset
  rw [if_neg (by simp [h])]
  rfl

theorem State.endReset_inReset (h : s.inReset d = true) : (s.endReset d).inReset d = false := by
  rw [State.endReset_eq h, State.inReset_eq, State.fld_fireEvent _ _ _ (by decide), ← State.inReset_eq]
  exact (State.inReset_setFld_off _ (by decide)).trans (State.inReset_clearBit s d)

theorem State.endReset_event (h : s.inReset d = true) (hen : s.fld .rst F.BLK_CTRL_ENABLE = 1) : (s.endReset d).flag .rst ⟨F.EVT_STATUS_EVT.off, 1, 1⟩ = true := by
  rw [State.endReset_eq h]
  refine State.flag_fireEvent_bit ?_ (by decide)
  exact (State.fld_setFld_off _ _ _ _ _ (by decide)).trans ((s.fld_setFld_off _ _ _ _ (by decide)).trans hen)

/-- A die past its reset runs its bring-up steps again. -/
def State.dieBack (s : State) (t : SelfTest) (d : Die) : State := ((s.endReset d).alignDie d).dieUp t d

/-- The stacks of a compute die that bring-up found good train, the others have failed. -/
def State.retrain (s : State) (c : CDie) : State :=
  [0, 1, 2].foldl (fun (u : State) (k : Nat) => if u.boot.eligible.contains (3 * c.val + k) then u.setFld (.mem c) (F.MEM_STACK_STATE k) skTRAINING
    else u.setFld (.mem c) (F.MEM_STACK_STATE k) skFAILED) s

variable {t : SelfTest}

theorem State.finishCoreReset_compute (h : s.inReset d = true) (hc : Die.cd? d = some c) : s.finishCoreReset t d =
    if (s.dieBack t d).memFenced.contains c || (s.dieBack t d).fencedDies.contains d then s.dieBack t d else (s.dieBack t d).retrain c := by
  unfold State.finishCoreReset
  rw [if_neg (by simp [h]), hc]
  rfl

theorem State.finishCoreReset_port (h : s.inReset d = true) (hc : Die.cd? d = none) : s.finishCoreReset t d = s.dieBack t d := by
  unfold State.finishCoreReset
  rw [if_neg (by simp [h]), hc]
  rfl

theorem State.retrain_stack (s : State) (c : CDie) {k : Nat} (hk : k < 3) :
    (s.retrain c).fld (.mem c) (F.MEM_STACK_STATE k) = if s.boot.eligible.contains (3 * c.val + k) then skTRAINING else skFAILED := by
  have hwidth : (F.MEM_STACK_STATE k).lsb + (F.MEM_STACK_STATE k).width ≤ 32 := (by decide : 0 + 3 ≤ 32)
  have hoff (b : Nat) (h : b ≠ k) : (F.MEM_STACK_STATE b).off ≠ (F.MEM_STACK_STATE k).off := by
    simp only [F.MEM_STACK_STATE]
    omega
  have hstack := foldl_once (fun (u : State) (k : Nat) => if u.boot.eligible.contains (3 * c.val + k) then u.setFld (.mem c) (F.MEM_STACK_STATE k) skTRAINING
      else u.setFld (.mem c) (F.MEM_STACK_STATE k) skFAILED) (fun u => (u.fld (.mem c) (F.MEM_STACK_STATE k), u.boot.eligible))
    (fun x => (if x.2.contains (3 * c.val + k) then skTRAINING else skFAILED, x.2)) k
    (fun u => by split <;> simp only [State.fld_setFld _ _ _ _ hwidth, State.setFld_boot] <;> rfl)
    (fun u b h => by split <;> simp only [State.fld_setFld_off _ _ _ _ _ (hoff b h), State.setFld_boot])
    (by decide : [0, 1, 2].Nodup) s
  have hmem : k ∈ [0, 1, 2] := by
    simp only [List.mem_cons, List.not_mem_nil, or_false]
    omega
  rw [if_pos hmem] at hstack
  exact congrArg Prod.fst hstack

theorem coreResetFail_eq (h : s.inReset d = true) : coreResetFail d s =
    if d = pd0 then ((s.endReset d).raise .rst 0x100 1 {}).c4React .rst 0x100 else ((s.endReset d).raise .rst 0x100 1 {}).fenceDie d := if_neg (by simp [h])

/-! The memory of a die past its reset. -/

/-- The stacks that train are ready. -/
def State.stacksReady (s : State) (c : CDie) : State :=
  [0, 1, 2].foldl (fun (u : State) (k : Nat) =>
    if u.fld (.mem c) (F.MEM_STACK_STATE k) = skTRAINING then u.setFld (.mem c) (F.MEM_STACK_STATE k) skREADY else u) s

/-- The remaps of the epoch are installed again. -/
def State.remapsBack (s : State) (c : CDie) : State :=
  { s with remaps := s.remaps ++ (s.savedRemaps.filter (fun r => r.die == c)).map (fun r => { r with source := 2 })
           savedRemaps := s.savedRemaps.filter (fun r => r.die != c) }

theorem State.memByte_remapsBack (s : State) (c e : CDie) (off : Nat) : (s.remapsBack c).memByte e off = s.memByte e off := rfl

theorem State.fld_remapsBack (s : State) (c : CDie) (p : Page) (f : Field) : (s.remapsBack c).fld p f = s.fld p f := rfl

theorem State.remaps_remapsBack (s : State) (c : CDie) :
    (s.remapsBack c).remaps = s.remaps ++ (s.savedRemaps.filter (fun r => r.die == c)).map (fun r => { r with source := 2 }) := rfl

theorem coreResetMemoryReady_eq (hup : s.dieDown c = false) (hmem : c ∉ s.memFenced) (hready : s.flag (.mem c) F.BLK_STATUS_READY = false) {k : Nat} (hk : k < 3)
    (hst : s.fld (.mem c) (F.MEM_STACK_STATE k) = skTRAINING) (hphase : s.boot.phase ≠ phFABRIC_MEMORY) :
    coreResetMemoryReady c s = (((s.stacksReady c).remapsBack c).memZero c 0 memSpan).blkReady (.mem c) := by
  have hany : ([0, 1, 2].any fun k => s.fld (.mem c) (F.MEM_STACK_STATE k) == skTRAINING) = true :=
    List.any_eq_true.2 ⟨k, by simp only [List.mem_cons, List.not_mem_nil, or_false]; omega, beq_iff_eq.2 hst⟩
  unfold coreResetMemoryReady
  rw [if_neg (by simp only [hup, hready, hany, hphase]; simpa using hmem)]
  rfl

theorem coreResetMemoryReady_idle (h : s.dieDown c = true ∨ c ∈ s.memFenced ∨ s.flag (.mem c) F.BLK_STATUS_READY = true ∨
    (∀ k, k < 3 → s.fld (.mem c) (F.MEM_STACK_STATE k) ≠ skTRAINING)) : coreResetMemoryReady c s = s := by
  refine if_pos ?_
  rcases h with h | h | h | h
  · simp [h]
  · simp [h]
  · simp [h]
  · simp [h 0, h 1, h 2]

theorem State.stacksReady_keeps {β : Type} {g : State → β} (hg : ∀ (t : State) (p : Page) (f : Field) (v : Nat), g (t.setFld p f v) = g t) (s : State) (c : CDie) :
    g (s.stacksReady c) = g s := foldl_keeps (fun t _ => FaultBlind.ite_of_eq (hg t _ _ _) rfl) _ s

theorem State.stacksReady_stack {k : Nat} (hk : k < 3) (hst : s.fld (.mem c) (F.MEM_STACK_STATE k) = skTRAINING) :
    (s.stacksReady c).fld (.mem c) (F.MEM_STACK_STATE k) = skREADY := by
  have hwidth : (F.MEM_STACK_STATE k).lsb + (F.MEM_STACK_STATE k).width ≤ 32 := (by decide : 0 + 3 ≤ 32)
  have hoff (b : Nat) (h : b ≠ k) : (F.MEM_STACK_STATE b).off ≠ (F.MEM_STACK_STATE k).off := by
    simp only [F.MEM_STACK_STATE]
    omega
  have hmem : k ∈ [0, 1, 2] := by
    simp only [List.mem_cons, List.not_mem_nil, or_false]
    omega
  refine (foldl_once (fun (u : State) (k : Nat) =>
      if u.fld (.mem c) (F.MEM_STACK_STATE k) = skTRAINING then u.setFld (.mem c) (F.MEM_STACK_STATE k) skREADY else u)
    (fun u => u.fld (.mem c) (F.MEM_STACK_STATE k)) (fun x => if x = skTRAINING then skREADY else x) k (fun u => ?self) (fun u b h => ?other)
    (by decide : [0, 1, 2].Nodup) s).trans ((if_pos hmem).trans (if_pos hst))
  case self =>
    split
    · exact State.fld_setFld _ _ _ _ hwidth
    · rfl
  case other => exact State.fld_ite_of_eq (State.fld_setFld_off _ _ _ _ _ (hoff b h)) rfl

end

/-! The management reset. -/

section
variable {s : State}

/-- What a management reset does to the channels and the security page before firmware takes effect. -/
def State.mgmtCleared (s : State) (cause : Nat) : State :=
  (((List.range 100).filter (fun k => 4 ≤ k)).foldl (fun t k => t.resetChan k false true) (s.setFld .rst F.RST_CAUSE_MGMT cause)).relockDebug.newChallenge

/-- Core code that has verified takes effect. -/
def State.codeTaken (s : State) : State := match s.codeStaged with | some d => { s with codeHeld := d, codeStaged := none } | none => s

/-- Firmware that has verified takes effect, but for the security processor's. -/
def State.firmwareTaken (s : State) : State :=
  if !s.fwStaged then s else
    { s with fwDigest := Config.sha512 s.flashImage, fwStaged := false
             fwComps := [(s.imageComps[0]?).getD 0, (s.fwComps[1]?).getD 0, (s.imageComps[2]?).getD 0] }

/-- The management complex is in reset. -/
def State.mcHeld (s : State) : State := { s with mcReset := true }

theorem State.mgmtReset_eq (s : State) (cause : Nat) : s.mgmtReset cause = (s.mgmtCleared cause).codeTaken.firmwareTaken.mcHeld := by
  unfold State.mgmtReset State.mgmtCleared State.codeTaken
  rfl

/-- A reading that looks at neither registers, channels nor the free values. -/
theorem State.mgmtCleared_keeps {β : Type} {g : State → β} (hwr : ∀ (t : State) (a : Nat) (v : Word), g (t.wr a v) = g t)
    (hevent : ∀ (t : State) (p : Page) (j : Nat), g (t.fireEvent p j) = g t) (hchan : ∀ (t : State) (k : Nat) (x : ChanSt), g (t.setChan k x) = g t)
    (hfree : ∀ (t : State) (n : Nat), g { t with freeCtr := n } = g t) (s : State) (cause : Nat) : g (s.mgmtCleared cause) = g s := by
  have hrelock (t : State) : g t.relockDebug = g t := FaultBlind.ite_of_eq rfl ((hevent _ _ _).trans (hwr t _ _))
  rw [State.mgmtCleared, State.newChallenge_keeps hfree fun t i v => hwr t _ v, hrelock]
  exact (foldl_keeps (fun t k => hchan t k _) _ _).trans (hwr s _ _)

theorem State.codeTaken_keeps {β : Type} {g : State → β} (hg : ∀ (t : State) (d : BitVec 512) (o : Option (BitVec 512)), g { t with codeHeld := d, codeStaged := o } = g t)
    (s : State) : g s.codeTaken = g s := by
  unfold State.codeTaken
  split
  · exact hg s _ _
  · rfl

theorem State.firmwareTaken_keeps {β : Type} {g : State → β}
    (hg : ∀ (t : State) (d : BitVec 512) (b : Bool) (l : List (BitVec 512)), g { t with fwDigest := d, fwStaged := b, fwComps := l } = g t) (s : State) :
    g s.firmwareTaken = g s := FaultBlind.ite_of_eq rfl (hg s _ _ _)

/-- A management reset leaves the registers as the channels and the security page were cleared. -/
theorem State.fld_mgmtReset (s : State) (cause : Nat) (p : Page) (f : Field) : (s.mgmtReset cause).fld p f = (s.mgmtCleared cause).fld p f := by
  have hheld (t : State) : t.mcHeld.fld p f = t.fld p f := rfl
  rw [State.mgmtReset_eq, hheld, State.firmwareTaken_keeps (g := fun t => t.fld p f) (fun _ _ _ _ => rfl),
    State.codeTaken_keeps (g := fun t => t.fld p f) (fun _ _ _ => rfl)]

theorem State.fld_relockDebug_page {p : Page} {f : Field} (hf : f.off < 0x1000) (h : .sec ≠ p) : s.relockDebug.fld p f = s.fld p f :=
  State.fld_ite_of_eq rfl ((State.fld_fireEvent_page _ hf _ h).trans (s.fld_setFld_page _ _ _ (by decide) hf h))

theorem State.fld_newChallenge_page {p : Page} {f : Field} (hf : f.off < 0x1000) (h : .sec ≠ p) : s.newChallenge.fld p f = s.fld p f := by
  unfold State.newChallenge
  refine List.foldlRecOn (motive := fun t : State => t.fld p f = s.fld p f) (List.range 8) _ rfl fun t ht i hi => Eq.trans ?_ ht
  have hi := List.mem_range.1 hi
  rw [Nat.add_assoc]
  exact t.fld_wr_ne _ _ _ _ fun e => h (Page.base_add_inj (by omega) hf e).1

/-- The RST page shows why the management complex resets. -/
theorem State.fld_mgmtCleared_rst {f : Field} (hf : f.off < 0x1000) (cause : Nat) :
    (s.mgmtCleared cause).fld .rst f = (s.setFld .rst F.RST_CAUSE_MGMT cause).fld .rst f := by
  rw [State.mgmtCleared, State.fld_newChallenge_page hf (by simp), State.fld_relockDebug_page hf (by simp)]
  exact foldl_keeps (g := fun t => t.fld .rst f) (fun t k => t.setChan_fld _ _ _ _) _ _

theorem State.mgmtCleared_debug (cause : Nat) : (s.mgmtCleared cause).fld .sec F.SEC_STATUS_DEBUG = 0 :=
  (State.fld_newChallenge (by decide)).trans State.debug_relockDebug

/-- A reading that a management reset leaves: it looks neither at registers, channels, the free values nor what runs. -/
theorem State.mgmtReset_keeps {β : Type} {g : State → β} (hwr : ∀ (t : State) (a : Nat) (v : Word), g (t.wr a v) = g t)
    (hevent : ∀ (t : State) (p : Page) (j : Nat), g (t.fireEvent p j) = g t) (hchan : ∀ (t : State) (k : Nat) (x : ChanSt), g (t.setChan k x) = g t)
    (hother : ∀ (t : State) (n : Nat) (d e : BitVec 512) (o : Option (BitVec 512)) (b x : Bool) (l : List (BitVec 512)),
      g { t with freeCtr := n, codeHeld := d, codeStaged := o, fwDigest := e, fwStaged := b, fwComps := l, mcReset := x } = g t) (s : State) (cause : Nat) :
    g (s.mgmtReset cause) = g s := by
  have hheld (t : State) : g t.mcHeld = g t := hother t _ _ _ _ _ _ _
  rw [State.mgmtReset_eq, hheld, State.firmwareTaken_keeps (g := g) fun t _ _ _ => hother t _ _ _ _ _ _ _,
    State.codeTaken_keeps (g := g) fun t _ _ => hother t _ _ _ _ _ _ _, State.mgmtCleared_keeps hwr hevent hchan fun t _ => hother t _ _ _ _ _ _ _]

theorem State.codeTaken_some {x : BitVec 512} (h : s.codeStaged = some x) : s.codeTaken = { s with codeHeld := x, codeStaged := none } := by
  unfold State.codeTaken
  rw [h]

theorem State.mgmtReset_code {cause : Nat} {x : BitVec 512} (h : s.codeStaged = some x) : (s.mgmtReset cause).codeHeld = x ∧ (s.mgmtReset cause).codeStaged = none := by
  have hcleared : (s.mgmtCleared cause).codeStaged = some x :=
    (State.mgmtCleared_keeps State.wr_codeStaged State.fireEvent_codeStaged State.setChan_codeStaged (fun _ _ => rfl) s cause).trans h
  have hheld (t : State) : t.firmwareTaken.mcHeld.codeHeld = t.codeHeld := State.firmwareTaken_keeps (g := State.codeHeld) (fun _ _ _ _ => rfl) t
  have hstaged (t : State) : t.firmwareTaken.mcHeld.codeStaged = t.codeStaged := State.firmwareTaken_keeps (g := State.codeStaged) (fun _ _ _ _ => rfl) t
  rw [State.mgmtReset_eq, hheld, hstaged, State.codeTaken_some hcleared]
  exact ⟨rfl, rfl⟩

theorem State.firmwareTaken_staged (h : s.fwStaged = true) : s.firmwareTaken.fwDigest = Config.sha512 s.flashImage ∧ s.firmwareTaken.fwStaged = false := by
  unfold State.firmwareTaken
  rw [if_neg (by simp [h])]
  exact ⟨rfl, rfl⟩

/-- The image in flash and whether one is staged. -/
def State.stagedImage (s : State) : Store Byte × Bool := (s.flash, s.fwStaged)

theorem State.mgmtReset_firmware {cause : Nat} (h : s.fwStaged = true) :
    (s.mgmtReset cause).fwDigest = Config.sha512 s.flashImage ∧ (s.mgmtReset cause).fwStaged = false := by
  have himage : (s.mgmtCleared cause).codeTaken.stagedImage = s.stagedImage :=
    (State.codeTaken_keeps (g := State.stagedImage) (fun _ _ _ => rfl) _).trans (State.mgmtCleared_keeps (g := State.stagedImage)
      (fun t a v => by rw [State.stagedImage, State.wr_flash, State.wr_fwStaged]; rfl) (fun t p j => by rw [State.stagedImage, State.fireEvent_flash, State.fireEvent_fwStaged]; rfl)
      (fun t k x => by rw [State.stagedImage, State.setChan_flash, State.setChan_fwStaged]; rfl) (fun _ _ => rfl) s cause)
  have hflash : (s.mgmtCleared cause).codeTaken.flashImage = s.flashImage := by
    unfold State.flashImage State.flashGet
    rw [show (s.mgmtCleared cause).codeTaken.flash = s.flash from congrArg Prod.fst himage]
  have hheld (t : State) : t.mcHeld.fwDigest = t.fwDigest ∧ t.mcHeld.fwStaged = t.fwStaged := ⟨rfl, rfl⟩
  rw [State.mgmtReset_eq, (hheld _).1, (hheld _).2, ← hflash]
  exact State.firmwareTaken_staged ((congrArg Prod.snd himage).trans h)

theorem State.flashImage_setFld (p : Page) (f : Field) (v : Nat) : (s.setFld p f v).flashImage = s.flashImage := by
  unfold State.flashImage State.flashGet
  rw [State.setFld_flash]

theorem State.mgmtReset_held (s : State) (cause : Nat) : (s.mgmtReset cause).mcReset = true := by
  rw [State.mgmtReset_eq]
  rfl

/-! Its end. -/

/-- The management complex answers again. -/
def State.mcFree (s : State) : State := State.setFld { s with mcReset := false } .rst F.RST_CTRL_MGMT 0

/-- What the Summit role was doing is dropped. -/
def State.smtDropped (s : State) : State := { s with smt := { s.smt with jobs := [], open_ := [], claim := none } }

/-- The management complex runs again, and drops what it was doing. -/
def State.mcRuns (s : State) : State := s.mcFree.smtDropped.followPlateau

theorem State.fld_mcFree (p : Page) (f : Field) : s.mcFree.fld p f = (s.setFld .rst F.RST_CTRL_MGMT 0).fld p f := rfl

theorem State.mcReset_mcFree (s : State) : s.mcFree.smtDropped.mcReset = false := rfl

theorem State.fld_smtDropped (p : Page) (f : Field) : s.smtDropped.fld p f = s.fld p f := rfl

theorem State.followPlateau_keeps {β : Type} {g : State → β} (hg : ∀ (t : State) (d : Die) (f : Field) (v : Nat), f.off < 0x1000 → g (t.setFld (.pwr d) f v) = g t)
    (s : State) : g s.followPlateau = g s :=
  FaultBlind.ite_of_eq rfl ((hg _ _ _ _ (by decide)).trans (foldl_keeps (fun t e => hg t (CDie.die e) _ _ (by decide)) _ _))

theorem State.fld_followPlateau_page {p : Page} {f : Field} (s : State) (hf : f.off < 0x1000) (h : p.ptype ≠ .pwr) : s.followPlateau.fld p f = s.fld p f :=
  State.followPlateau_keeps (g := fun t => t.fld p f) (fun t _ x v hx => t.fld_setFld_page x f v hx hf (Page.ne_of_ptype h.symm)) s

theorem State.mcRuns_mcReset (s : State) : s.mcRuns.mcReset = false := State.followPlateau_keeps (g := State.mcReset) (fun t _ _ _ _ => t.setFld_mcReset _ _ _) s.mcFree.smtDropped |>.trans s.mcReset_mcFree

theorem State.fld_mcRuns {p : Page} {f : Field} (s : State) (hf : f.off < 0x1000) (h : p.ptype ≠ .pwr) :
    s.mcRuns.fld p f = (s.setFld .rst F.RST_CTRL_MGMT 0).fld p f := by
  rw [State.mcRuns, State.fld_followPlateau_page _ hf h, State.fld_smtDropped, State.fld_mcFree]

theorem State.mcRuns_pair (s : State) : s.mcRuns.fld .smt F.SMT_STATE_PAIR = s.fld .smt F.SMT_STATE_PAIR :=
  (s.fld_mcRuns (by decide) (by decide)).trans (s.fld_setFld_page _ _ _ (by decide) (by decide) (by simp))

theorem State.mcRuns_ctrl (s : State) : s.mcRuns.fld .rst F.RST_CTRL_MGMT = 0 :=
  (s.fld_mcRuns (by decide) (by decide)).trans ((s.fld_setFld _ _ _ (by decide)).trans (Nat.zero_mod _))

/-- A primary or standby restarts ISOLATED. -/
def State.isolated (s : State) : State := (s.setFld .smt F.SMT_STATE_PAIR 3).fireEvent .smt 2

theorem mgmtResetDone_held (h : s.mcReset = true) : mgmtResetDone s =
    if s.mcRuns.fld .smt F.SMT_STATE_PAIR = 1 || s.mcRuns.fld .smt F.SMT_STATE_PAIR = 2 then s.mcRuns.isolated else s.mcRuns := if_neg (by simp [h])

theorem mgmtResetDone_idle (h : s.mcReset = false) : mgmtResetDone s = s := if_pos (by simp [h])

theorem mgmtResetDone_keeps {β : Type} {g : State → β} (hg : ∀ t : State, g t.isolated = g t) (h : s.mcReset = true) : g (mgmtResetDone s) = g s.mcRuns := by
  rw [mgmtResetDone_held h]
  exact FaultBlind.ite_of_eq (hg _) rfl

theorem mgmtResetDone_mcReset (h : s.mcReset = true) : (mgmtResetDone s).mcReset = false :=
  (mgmtResetDone_keeps (g := State.mcReset) (fun t => (State.fireEvent_mcReset _ _ _).trans (t.setFld_mcReset _ _ _)) h).trans s.mcRuns_mcReset

theorem mgmtResetDone_ctrl (h : s.mcReset = true) : (mgmtResetDone s).fld .rst F.RST_CTRL_MGMT = 0 :=
  (mgmtResetDone_keeps (g := fun t => t.fld .rst F.RST_CTRL_MGMT) (fun t => (State.fld_fireEvent_page _ (by decide) _ (by simp)).trans
    (t.fld_setFld_page _ _ _ (by decide) (by decide) (by simp))) h).trans s.mcRuns_ctrl

theorem mgmtResetDone_pair (h : s.mcReset = true) (hpair : s.fld .smt F.SMT_STATE_PAIR = 1 ∨ s.fld .smt F.SMT_STATE_PAIR = 2) :
    (mgmtResetDone s).fld .smt F.SMT_STATE_PAIR = 3 := by
  rw [mgmtResetDone_held h, State.mcRuns_pair, if_pos (by simpa using hpair), State.isolated, State.fld_fireEvent _ _ _ (by decide),
    State.fld_setFld _ _ _ _ (by decide)]
  rfl

end

/-- Settles O53: a core reset by its stages, its end by what bring-up then shows, the memory by what it zeroes, and the management reset by what it leaves. -/
theorem diesEnterAndLeaveReset : Obligations.DiesEnterAndLeaveReset := by
  refine ⟨fun s m hon => run_on hon, fun s d => ⟨State.beginCoreReset_held, fun hin => ⟨?begins, fun c hc hmem => ⟨fun p hp hclk hlink off => ?words, fun off => ?tarn⟩⟩⟩,
    fun s hon => ⟨rstCtrlMgmt s, run_on hon, State.mgmtReset_held _ _, ?cause, ?ctrl, ?debug, ?gtime, ?mem, ?parts, ?agents, ?log, ?firmware, ?code⟩,
    fun s hon h => ⟨mgmtResetDone s, run_on hon, mgmtResetDone_mcReset h, mgmtResetDone_ctrl h, mgmtResetDone_pair h⟩,
    fun s hs h => run_same hs (mgmtResetDone_idle h),
    fun s t d hon h => ⟨run_on hon, State.endReset_inReset h, State.endReset_event h, ?bringUp, fun c hc hmem hdie k hk => ?retrained,
      fun hd => run_of_eq hon ((coreResetFail_eq h).trans (if_pos hd)), fun hd => run_of_eq hon ((coreResetFail_eq h).trans (if_neg hd))⟩,
    fun s t d hs h => ⟨run_same hs (if_pos (by simp [h])), run_same hs (if_pos (by simp [h]))⟩,
    fun s c k hon hup hmem hready hk hst hphase => ⟨_, run_of_eq hon (coreResetMemoryReady_eq hup hmem hready hk hst hphase), ?ready, ?zero, ?others, ?remaps⟩,
    fun s c hs h => run_same hs (coreResetMemoryReady_idle h)⟩
  case begins =>
    rw [State.beginCoreReset_eq hin]
    exact State.showReset_inReset _ d
  case words => exact State.beginCoreReset_atReset hin hc hmem hp hclk hlink
  case tarn => exact State.beginCoreReset_tarn hin hc hmem
  case cause =>
    rw [rstCtrlMgmt, State.fld_mgmtReset, State.fld_mgmtCleared_rst (by decide), State.fld_setFld _ _ _ _ (by decide)]
    rfl
  case ctrl =>
    rw [rstCtrlMgmt, State.fld_mgmtReset, State.fld_mgmtCleared_rst (by decide), State.fld_setFld_off _ _ _ _ _ (by decide), State.fld_setFld _ _ _ _ (by decide)]
    rfl
  case debug => exact (State.fld_mgmtReset _ _ _ _).trans (State.mgmtCleared_debug 2)
  case gtime => exact (State.mgmtReset_keeps State.wr_gtime State.fireEvent_gtime State.setChan_gtime (fun _ _ _ _ _ _ _ _ => rfl) _ 2).trans (s.setFld_gtime _ _ _)
  case mem => exact (State.mgmtReset_keeps State.wr_mem State.fireEvent_mem State.setChan_mem (fun _ _ _ _ _ _ _ _ => rfl) _ 2).trans (s.setFld_mem _ _ _)
  case parts => exact (State.mgmtReset_keeps State.wr_parts State.fireEvent_parts State.setChan_parts (fun _ _ _ _ _ _ _ _ => rfl) _ 2).trans (s.setFld_parts _ _ _)
  case agents => exact (State.mgmtReset_keeps State.wr_agents State.fireEvent_agents State.setChan_agents (fun _ _ _ _ _ _ _ _ => rfl) _ 2).trans (s.setFld_agents _ _ _)
  case log => exact (State.mgmtReset_keeps State.wr_fltLog State.fireEvent_fltLog State.setChan_fltLog (fun _ _ _ _ _ _ _ _ => rfl) _ 2).trans (s.setFld_fltLog _ _ _)
  case firmware =>
    intro h
    rw [← State.flashImage_setFld .rst F.RST_CTRL_MGMT 1]
    exact State.mgmtReset_firmware ((s.setFld_fwStaged _ _ _).trans h)
  case code => exact fun x h => State.mgmtReset_code ((s.setFld_codeStaged _ _ _).trans h)
  case bringUp =>
    rintro (hc | ⟨c, hc, hfenced⟩)
    · exact State.finishCoreReset_port h hc
    · have hgone : (s.dieBack t d).fencedDies.contains d = true := List.contains_iff_mem.2 hfenced
      exact (State.finishCoreReset_compute h hc).trans (if_pos (by rw [hgone, Bool.or_true]))
  case retrained =>
    have hrun : s.finishCoreReset t d = (s.dieBack t d).retrain c := (State.finishCoreReset_compute h hc).trans (if_neg (by
      simp only [Bool.or_eq_true, List.contains_iff_mem, not_or]
      exact ⟨hmem, hdie⟩))
    rw [hrun]
    exact State.retrain_stack _ c hk
  case ready =>
    rw [State.blkReady, State.fld_setFld_off _ _ _ _ _ (by simp only [F.BLK_STATUS_READY, F.MEM_STACK_STATE]; omega), State.memZero_fld, State.fld_remapsBack]
    exact State.stacksReady_stack hk hst
  case zero =>
    intro off hoff
    rw [State.blkReady, State.setFld_memByte]
    exact State.memByte_memZero_inside _ c (Nat.zero_le _) (by rwa [Nat.zero_add])
  case others =>
    intro e he off hoff
    have hbyte : ((s.stacksReady c).remapsBack c).memByte e off = s.memByte e off :=
      (State.memByte_remapsBack _ c e off).trans (State.stacksReady_keeps (g := fun t => t.memByte e off) (fun t p f v => t.setFld_memByte p f v e off) s c)
    rw [State.blkReady, State.setFld_memByte, State.memByte_memZero_span _ c e (Nat.le_of_eq (Nat.zero_add memSpan)) hoff, if_neg fun h => he h.1, hbyte]
  case remaps =>
    have hremaps : (s.stacksReady c).remaps = s.remaps := State.stacksReady_keeps State.setFld_remaps s c
    have hsaved : (s.stacksReady c).savedRemaps = s.savedRemaps := State.stacksReady_keeps State.setFld_savedRemaps s c
    rw [State.blkReady, State.setFld_remaps, State.memZero_remaps, State.remaps_remapsBack, hremaps, hsaved]

end Sys2Proof.Machine
end

section
/-! The canonical form of memory and Tarn as a reading of the state: what it makes of records, choices, runs over lists and pairs. -/

namespace Sys2Proof.Machine

/-- The form is that of the two fields it speaks of. -/
@[simp] theorem State.memWf_mk
    (pending out freeCtr mgmtOn fuses straps pos regs latches gtime fclk mem tarn rowErrs remaps savedRemaps repairLog badSectors memFenced mappedGran
    zeroOrders arrays repairLines queues cairns tracks cores dispatches dmaRuns requests windows respUse nextXid nextId parts wkeys staging fltLog
    recoveryTimes quietPages quietParts fencedDies lostRails thermtrip chans fns bar2 held relayOut relayCtr boardSess i3c eid sensors agents ports transits
    d2d reserved tables d2dRuns xfers hotEngines boot plan bootPlan maxPlanSeq fwDigest fwComps flash fwStaged codeHeld codeStaged rcv dist mcReset
    dbgCounters unlocks power pkgPower ridge smt pairSess heldTerm heldBy) :
    State.memWf ⟨pending, out, freeCtr, mgmtOn, fuses, straps, pos, regs, latches, gtime, fclk, mem, tarn, rowErrs, remaps, savedRemaps, repairLog,
      badSectors, memFenced, mappedGran, zeroOrders, arrays, repairLines, queues, cairns, tracks, cores, dispatches, dmaRuns, requests, windows, respUse,
      nextXid, nextId, parts, wkeys, staging, fltLog, recoveryTimes, quietPages, quietParts, fencedDies, lostRails, thermtrip, chans, fns, bar2, held,
      relayOut, relayCtr, boardSess, i3c, eid, sensors, agents, ports, transits, d2d, reserved, tables, d2dRuns, xfers, hotEngines, boot, plan, bootPlan,
      maxPlanSeq, fwDigest, fwComps, flash, fwStaged, codeHeld, codeStaged, rcv, dist, mcReset, dbgCounters, unlocks, power, pkgPower, ridge, smt, pairSess,
      heldTerm, heldBy⟩ = (Memory.wf mem && Memory.wf tarn) := by rw [State.memWf]

@[simp] theorem State.memWf_fold (s : State) : (Memory.wf s.mem && Memory.wf s.tarn) = s.memWf := (State.memWf.eq_1 s).symm

@[simp] theorem State.memWf_ite (c : Prop) [Decidable c] (s t : State) : (if c then s else t).memWf = if c then s.memWf else t.memWf := apply_ite _ _ _ _

@[simp] theorem foldl_memWf {α : Type} {f : State → α → State} (h : ∀ t a, (f t a).memWf = t.memWf) (l : List α) (s : State) :
    (l.foldl f s).memWf = s.memWf :=
  foldl_keeps h l s

/-- The state that a pair holds has the form of the pair's. -/
theorem State.memWf_of_pair {α : Type} {p : State × α} {t : State} {x : α} (h : p = (t, x)) : t.memWf = p.1.memWf := by rw [h]

theorem State.memWf_of_pair_right {α : Type} {p : α × State} {t : State} {x : α} (h : p = (x, t)) : t.memWf = p.2.memWf := by rw [h]

theorem State.memWf_blind : BringUpBlind State.memWf where
  header t _ _ _ _ := t.wr_memWf _ _
  hub t _ _ _ _ _ := t.wr_memWf _ _
  emit t _ := t.emit_memWf _
  chan t _ _ := t.setChan_memWf _ _
  agent t _ _ _ _ := t.setAgent_memWf _ _
  log _ _ := rfl
  pages _ _ := rfl
  parts _ _ := rfl
  array t _ _ := t.setArray_memWf _ _
  dispatches _ _ := rfl
  runs _ _ := rfl
  retire t r := by
    simp only [State.retire]
    split <;> rfl
  loop t _ _ _ _ := t.wr_memWf _ _
  power _ _ := rfl
  ports _ _ := rfl
  boot _ _ _ _ _ _ _ := rfl

theorem State.memWf_dropBlind : DropBlind State.memWf where
  toFatalBlind := State.memWf_blind.toFatalBlind
  fclk _ _ := rfl
  windows _ _ := rfl
  requests _ _ := rfl
  respUse _ _ := rfl
  wr t := t.wr_memWf
  queues _ _ := rfl
  bar2 _ _ := rfl
  fn t := t.setFn_memWf
  transits _ _ := rfl
  d2d _ _ := rfl
  reserved _ _ := rfl

theorem foldl_fst_memWf {α β : Type} {f : State × β → α → State × β} (h : ∀ x a, (f x a).1.memWf = x.1.memWf) (l : List α) (x : State × β) :
    (l.foldl f x).1.memWf = x.1.memWf := by
  induction l generalizing x with
  | nil => rfl
  | cons a l ih => exact (ih _).trans (h x a)

@[simp] theorem foldl_memWf_true {α : Type} {f : State → α → State} (h : ∀ t a, t.memWf = true → (f t a).memWf = true) (l : List α) (s : State)
    (hs : s.memWf = true) : (l.foldl f s).memWf = true := by
  induction l generalizing s with
  | nil => exact hs
  | cons a l ih => exact ih _ (h s a hs)

theorem foldl_fst_memWf_true {α β : Type} {f : State × β → α → State × β} (h : ∀ x a, x.1.memWf = true → (f x a).1.memWf = true) (l : List α)
    (x : State × β) (hx : x.1.memWf = true) : (l.foldl f x).1.memWf = true := by
  induction l generalizing x with
  | nil => exact hx
  | cons a l ih => exact ih _ (h x a hx)

end Sys2Proof.Machine
end

section
/-! The memory form under what registers, transport, faults and the accesses to memory and Tarn do (13 R495–R507, 06 R238–R250). -/

namespace Sys2Proof.Machine

@[simp] theorem State.free_memWf (s : State) : (s.free).2.memWf = s.memWf := by simp [State.free]

@[simp] theorem State.freeBytes_memWf (s : State) (n : Nat) : (s.freeBytes n).2.memWf = s.memWf := by
  induction n generalizing s with
  | zero => rfl
  | succ n ih => exact (ih _).trans s.free_memWf

@[simp] theorem State.showWinUse_memWf (s : State) (c : CDie) : (s.showWinUse c).memWf = s.memWf := by simp [State.showWinUse]

@[simp] theorem State.sendFrom_memWf (s : State) (d : Die) (p : Packet) : (s.sendFrom d p).memWf = s.memWf := by simp [State.sendFrom]

@[simp] theorem State.launch_memWf (s : State) (r : Req) : (s.launch r).memWf = s.memWf := by simp [State.launch]

@[simp] theorem State.pumpList_memWf (s : State) (before rs : List Req) : (s.pumpList before rs).1.memWf = s.memWf := by
  induction rs generalizing s before with
  | nil => rfl
  | cons r rest ih =>
    unfold State.pumpList
    split
    · exact ih s _
    · split <;> simp [ih]

@[simp] theorem State.pump_memWf (s : State) : s.pump.memWf = s.memWf := by
  unfold State.pump
  split
  · rfl
  · exact s.pumpList_memWf _ _

@[simp] theorem State.issue_memWf (s : State) (rs : List Req) : (s.issue rs).memWf = s.memWf := by
  refine (foldl_keeps (g := State.memWf) (fun t r => ?_) rs _).trans (by simp)
  split <;> simp

@[simp] theorem State.retire_memWf (s : State) (r : Req) : (s.retire r).memWf = s.memWf := by simp [State.retire]

@[simp] theorem State.retireAll_memWf (s : State) (p : Req → Bool) : (s.retireAll p).memWf = s.memWf := by simp [State.retireAll]

@[simp] theorem State.newXid_memWf (s : State) (c : CDie) : (s.newXid c).2.memWf = s.memWf := by simp [State.newXid]

@[simp] theorem State.issueSignal_memWf (s : State) (c : CDie) (e : Nat) (abort : Bool) (part : Part) (dst : Coord) (cairn : Nat) (gen : BitVec 16)
    (bit : Nat) (fnc : Bool) (own : Owner) (retries : Nat) :
    (s.issueSignal c e abort part dst cairn gen bit fnc own retries).memWf = s.memWf := by
  simp [State.issueSignal]

@[simp] theorem State.notify_memWf (s : State) (k : Nat) (type : Nat) (body : List Byte) : (s.notify k type body).memWf = s.memWf := by
  unfold State.notify
  split <;> simp

@[simp] theorem State.showProxy_memWf (s : State) : (s.showProxy).memWf = s.memWf := by simp [State.showProxy]

@[simp] theorem State.notifyPart_memWf (s : State) (p : Part) : (s.notifyPart p).memWf = s.memWf := by simp [State.notifyPart]

@[simp] theorem State.abortSweeps_memWf (s : State) (c : CDie) (p : QRef → Bool) (st : Nat) : (s.abortSweeps c p st).memWf = s.memWf := by
  simp [State.abortSweeps]

@[simp] theorem State.abortDispatches_memWf (s : State) (p : QRef → Bool) (st : Nat) : (s.abortDispatches p st).memWf = s.memWf := by
  simp [State.abortDispatches]

@[simp] theorem State.abortDma_memWf (s : State) (p : QRef → Bool) (st : Nat) : (s.abortDma p st).memWf = s.memWf := by simp [State.abortDma]

@[simp] theorem State.c2React_memWf (s : State) (c : CDie) (part : Part) (ctx : Ctx) : (s.c2React c part ctx).memWf = s.memWf := by simp [State.c2React]

@[simp] theorem State.discardQueues_memWf (s : State) (p : QRef → Bool) : (s.discardQueues p).memWf = s.memWf := by simp [State.discardQueues]

@[simp] theorem State.showVf_memWf (s : State) (p : Part) : (s.showVf p).memWf = s.memWf := by simp [State.showVf]

@[simp] theorem State.killPart_memWf (s : State) (part : Part) : (s.killPart part).memWf = s.memWf := by simp [State.killPart]

@[simp] theorem State.c3React_memWf (s : State) (part : Part) : (s.c3React part).memWf = s.memWf := by simp [State.c3React]

@[simp] theorem State.agentEvent_memWf (s : State) (k : PDie) (code : Nat) (port : Nat) (st : Nat) (cause : Nat) (serial : BitVec 128) :
    (s.agentEvent k code port st cause serial).memWf = s.memWf := by
  simp [State.agentEvent]

@[simp] theorem State.goDark_memWf (s : State) (q : Port) : (s.goDark q).memWf = s.memWf := by
  unfold State.goDark
  split <;> simp

@[simp] theorem State.setLnk_memWf (s : State) (q : Port) (st : Nat) (byAgent : Bool) : (s.setLnk q st byAgent).memWf = s.memWf := by simp [State.setLnk]

@[simp] theorem State.haltDie_memWf (s : State) (c : CDie) : (s.haltDie c).memWf = s.memWf := by simp [State.haltDie]

@[simp] theorem State.setStep_memWf (s : State) (c : CDie) (k : Nat) : (s.setStep c k).memWf = s.memWf := by simp [State.setStep]

@[simp] theorem State.followPlateau_memWf (s : State) : (s.followPlateau).memWf = s.memWf := by simp [State.followPlateau]

@[simp] theorem State.askVoltage_memWf (s : State) (c : CDie) (mv : Nat) : (s.askVoltage c mv).memWf = s.memWf := by simp [State.askVoltage]

@[simp] theorem State.stopLoop_memWf (s : State) (c : CDie) : (s.stopLoop c).memWf = s.memWf := by simp [State.stopLoop]

@[simp] theorem State.safeState_memWf (s : State) : (s.safeState).memWf = s.memWf := by simp [State.safeState]

@[simp] theorem State.c4React_memWf (s : State) (p : Page) (code : Nat) : (s.c4React p code).memWf = s.memWf := by
  unfold State.c4React
  dsimp only
  split <;> simp

@[simp] theorem State.react_memWf (s : State) (p : Page) (code : Nat) (cls : Nat) (sc : Scope) : (s.react p code cls sc).memWf = s.memWf := by
  unfold State.react
  (repeat' split) <;> simp

@[simp] theorem State.raise_memWf (s : State) (p : Page) (code cls : Nat) (sc : Scope) (inj : Bool) : (s.raise p code cls sc inj).memWf = s.memWf :=
  State.memWf_blind.raise_of_react s fun t n sc' _ => t.react_memWf p code n sc'

@[simp] theorem State.injFired_memWf (s : State) (p : Page) : (s.injFired p).memWf = s.memWf := by simp [State.injFired]

@[simp] theorem State.memPut_memWf (s : State) (c : CDie) (off : Nat) (bs : List Byte) (h : s.memWf = true) : (s.memPut c off bs).memWf = true :=
  State.memWf_of_mem h (memPut_form s c off bs (s.memWf_iff.1 h).1) (s.memPut_tarn c off bs)

@[simp] theorem State.tarnPut_memWf (s : State) (c : CDie) (off : Nat) (bs : List Byte) (h : s.memWf = true) : (s.tarnPut c off bs).memWf = true :=
  State.memWf_of_tarn h (tarnPut_form s c off bs (s.memWf_iff.1 h).2) (s.tarnPut_mem c off bs)

@[simp] theorem State.heal_memWf (s : State) (c : CDie) (off : Nat) (len : Nat) : (s.heal c off len).memWf = s.memWf := by simp [State.heal]

@[simp] theorem State.memZero_memWf (s : State) (c : CDie) (off n : Nat) (h : s.memWf = true) : (s.memZero c off n).memWf = true :=
  State.memWf_of_mem h (memZero_form s c off n (s.memWf_iff.1 h).1) (s.memZero_tarn c off n)

@[simp] theorem State.tarnZero_memWf (s : State) (c : CDie) (off n : Nat) (h : s.memWf = true) : (s.tarnZero c off n).memWf = true :=
  State.memWf_of_tarn h (tarnZero_form s c off n (s.memWf_iff.1 h).2) (s.tarnZero_mem c off n)

@[simp] theorem State.refuse_memWf (s : State) (c : CDie) (p : Part) (write : Bool) (addr : Nat) : (s.refuse c p write addr).memWf = s.memWf := by
  simp [State.refuse]

@[simp] theorem State.fencedDrop_memWf (s : State) (c : CDie) (d : CDie) : (s.fencedDrop c d).memWf = s.memWf := by simp [State.fencedDrop]

@[simp] theorem State.logRepair_memWf (s : State) (c : CDie) (e : EccFind) : (s.logRepair c e).memWf = s.memWf := by simp [State.logRepair]

@[simp] theorem State.rowRemap_memWf (s : State) (c : CDie) (e : EccFind) : (s.rowRemap c e).memWf = s.memWf := by simp [State.rowRemap]

@[simp] theorem State.errLoc_memWf (s : State) (c : CDie) (e : EccFind) (patrol : Bool) : (s.errLoc c e patrol).memWf = s.memWf := by simp [State.errLoc]

@[simp] theorem State.eccCorrected_memWf (s : State) (c : CDie) (e : EccFind) (patrol : Bool) : (s.eccCorrected c e patrol).memWf = s.memWf := by
  unfold State.eccCorrected
  extract_lets found n counted th
  have hcounted : counted.memWf = s.memWf := by simp [counted, found]
  split <;> simp [hcounted]

@[simp] theorem State.eccApply_memWf (s : State) (c : CDie) (found : List (Nat × EccFind)) (sc : Scope) : (s.eccApply c found sc).1.memWf = s.memWf := by
  unfold State.eccApply
  extract_lets inj fired fs ces ues new bad corrected counted told nue erred shown logged
  have hcorrected : corrected.memWf = s.memWf := by simp [corrected, bad, fired]
  have htold : told.memWf = s.memWf := by simp [told, counted, hcorrected]
  have hshown : shown.memWf = s.memWf := by
    unfold shown
    split <;> simp [erred, htold]
  split <;> simp [htold, logged, hshown]

@[simp] theorem State.tarnEccApply_memWf (s : State) (c : CDie) (fs : List (Nat × Bool)) (sc : Scope) : (s.tarnEccApply c fs sc).1.memWf = s.memWf := by
  unfold State.tarnEccApply
  extract_lets inj fired last listed placed nce nue told
  have hlast (t : State) (e : Nat × Bool) : (last t e).memWf = t.memWf := State.wr_memWf _ _ _
  have hlisted : listed.memWf = s.memWf := by simp [listed, hlast, fired]
  have hplaced : placed.memWf = s.memWf := by
    unfold placed
    clear_value inj
    cases inj <;> simp [hlast, hlisted]
  have htold : told.memWf = s.memWf := by simp [told, hplaced]
  split <;> simp [htold]

@[simp] theorem State.readTarn_memWf (s : State) (c : CDie) (sc : Scope) (p : Part) (off len : Nat) (o : Obs) :
    (s.readTarn c sc p off len o).1.memWf = s.memWf := by
  unfold State.readTarn
  split
  · rfl
  · split
    next t ue h => split <;> simp [State.memWf_of_pair h]

@[simp] theorem State.readBoard_memWf (s : State) (c : CDie) (sc : Scope) (p : Part) (a len : Nat) (o : Obs) (wr : Bool) :
    (s.readBoard c sc p a len o wr).1.memWf = s.memWf := by
  unfold State.readBoard
  split
  · simp
  split
  · simp
  · split
    · simp
    split
    · simp
    split
    · simp
    · split
      next t ue h => split <;> simp [State.memWf_of_pair h]
  · split
    · simp
    split <;> simp

@[simp] theorem State.mcPut_memWf (s : State) (c : CDie) (off : Nat) (bs : List Byte) (h : s.memWf = true) : (s.mcPut c off bs).memWf = true := by
  simp [State.mcPut, h]

@[simp] theorem State.memPutExcept_memWf (s : State) (bad : List Nat) (k : Nat) (bs : List Byte) (h : s.memWf = true) :
    (s.memPutExcept bad k bs).memWf = true :=
  State.memWf_of_mem h (memPutExcept_form s bad k bs (s.memWf_iff.1 h).1) (memPutExcept_tarn s bad k bs)

@[simp] theorem State.commitMem_memWf (s : State) (c : CDie) (sc : Scope) (off : Nat) (bs : List Byte) (o : Obs) (h : s.memWf = true) :
    (s.commitMem c sc off bs o).1.memWf = true := by
  unfold State.commitMem
  dsimp only
  (repeat' split) <;> simp [h]

@[simp] theorem State.writeBoard_memWf (s : State) (c : CDie) (sc : Scope) (p : Part) (a : Nat) (bs : List Byte) (o : Obs) (h : s.memWf = true) :
    (s.writeBoard c sc p a bs o).1.memWf = true := by
  unfold State.writeBoard
  (repeat' split) <;> simp [h]

@[simp] theorem State.readOp_memWf (s : State) (c : CDie) (sc : Scope) (p : Part) (inTarn : Bool) (a len : Nat) (o : Obs) :
    (s.readOp c sc p inTarn a len o).1.memWf = s.memWf := by
  unfold State.readOp
  split
  · dsimp only
    split <;> simp
  · simp

@[simp] theorem State.writeOp_memWf (s : State) (c : CDie) (sc : Scope) (p : Part) (inTarn : Bool) (a : Nat) (bs : List Byte) (o : Obs)
    (h : s.memWf = true) :
    (s.writeOp c sc p inTarn a bs o).1.memWf = true := by
  unfold State.writeOp
  dsimp only
  (repeat' split) <;> simp [h]

end Sys2Proof.Machine
end

section
/-! The memory form under a sweep: the passes of the array and their records (04 R99–R101, R105–R110, R126–R132, R145–R179). -/

namespace Sys2Proof.Machine

@[simp] theorem partRecord_memWf (s : State) (row : TierRow) (dd : Nat) : (partRecord s row dd).2.memWf = s.memWf := by
  unfold partRecord
  dsimp only
  split
  · rfl
  · exact (State.freeBytes_memWf _ _).trans (s.freeBytes_memWf _)

@[simp] theorem State.msixSend_memWf (s : State) (f : Fn) (v : Nat) : (s.msixSend f v).memWf = s.memWf := by simp [State.msixSend]

@[simp] theorem State.putRecord_memWf (s : State) (q : QRef) (addr : Nat) (bs : List Byte) (h : s.memWf = true) : (s.putRecord q addr bs).memWf = true := by
  simp [State.putRecord, h]

@[simp] theorem State.sendSignal_memWf (s : State) (q : QRef) (abort : Bool) (dst : Coord) (cairn : Nat) (gen : BitVec 16) (bit : Nat) (retries : Nat)
    (dma : Bool) :
    (s.sendSignal q abort dst cairn gen bit retries dma).memWf = s.memWf := by
  simp [State.sendSignal]

@[simp] theorem State.completeSweep_memWf (s : State) (q : QRef) (d : List Byte) (status : Nat) (flags : Flags) (anchor : ℤ) (cycles : Nat) (line : Nat)
    (isCol : Bool) (h : s.memWf = true) :
    (s.completeSweep q d status flags anchor cycles line isCol).memWf = true := by
  simp [State.completeSweep, h]

@[simp] theorem State.completeDispatch_memWf (s : State) (q : QRef) (d : List Byte) (status : Nat) (exit : Nat) (core : Nat) (cause : Nat) (epc : BitVec 64)
    (cycles : Nat) (h : s.memWf = true) :
    (s.completeDispatch q d status exit core cause epc cycles).memWf = true := by
  simp [State.completeDispatch, h]

@[simp] theorem State.completeDma_memWf (s : State) (q : QRef) (d : List Byte) (status : Nat) (nchunk : Nat) (resent : Nat) (fails : List Nat) (rt : Nat)
    (h : s.memWf = true) :
    (s.completeDma q d status nchunk resent fails rt).memWf = true := by
  simp [State.completeDma, h]

@[simp] theorem State.completeUnrun_memWf (s : State) (q : QRef) (d : List Byte) (status : Nat) (h : s.memWf = true) :
    (s.completeUnrun q d status).memWf = true := by
  unfold State.completeUnrun
  split <;> simp [h]

theorem State.takeEntry_memWf {s t : State} {q : QRef} {e : Entry} (h : s.takeEntry q = some (e, t)) : t.memWf = s.memWf := by
  unfold State.takeEntry at h
  split at h
  · cases h
  · obtain ⟨-, rfl⟩ := Prod.mk.inj (Option.some.inj h)
    simp

@[simp] theorem State.showCurrent_memWf (s : State) (c : CDie) : (s.showCurrent c).memWf = s.memWf := by
  unfold State.showCurrent
  extract_lets a owned
  have howned : owned.memWf = s.memWf := by
    unfold owned
    split <;> simp
  split <;> simp [howned]

@[simp] theorem sweepSelect_memWf (c : CDie) (s : State) (h : s.memWf = true) : (sweepSelect c s).memWf = true := by
  unfold sweepSelect
  extract_lets st
  split
  · exact h
  split
  · exact h
  extract_lets q
  split
  · exact h
  next e t ht =>
  have htm : t.memWf = true := (State.takeEntry_memWf ht).trans h
  split
  · exact State.completeSweep_memWf _ _ _ _ _ _ _ _ _ htm
  · dsimp only
    split <;> simp [htm]

@[simp] theorem switchComplete_memWf (c : CDie) (s : State) : (switchComplete c s).memWf = s.memWf := by
  unfold switchComplete
  dsimp only
  split
  · rfl
  split
  · rfl
  split <;> simp

@[simp] theorem State.raiseSweep_memWf (s : State) (q : QRef) (sts : List Nat) (inj : Bool) : (s.raiseSweep q sts inj).memWf = s.memWf := by
  refine foldl_keeps (g := State.memWf) (fun t st => ?_) sts s
  split <;> simp

@[simp] theorem State.nameLine_memWf (s : State) (c : CDie) (l : Bool × Nat) : (s.nameLine c l).memWf = s.memWf := by simp [State.nameLine]

@[simp] theorem State.mismatch_memWf (s : State) (c : CDie) (lines : List (Bool × Nat)) (residue : Bool) (inj : Bool) :
    (s.mismatch c lines residue inj).memWf = s.memWf := by
  simp [State.mismatch]

@[simp] theorem State.endStep_memWf (s : State) (c : CDie) (k : Slot) (r : RunSweep) (res : PassRes) (inj : Bool) :
    (s.endStep c k r res inj).memWf = s.memWf := by
  simp [State.endStep]

@[simp] theorem State.freeLine_memWf (s : State) (c : CDie) (isCol : Bool) : (s.freeLine c isCol).1.memWf = s.memWf := by simp [State.freeLine]

/-! The passes of the array (R101, R105–R109, R179): what each part of a pass leaves of the memory form. -/

@[simp] theorem PassRes.flag_memWf (r : PassRes) (f : Flags) : (r.flag f).s.memWf = r.s.memWf := rfl

@[simp] theorem PassRes.fail_memWf (r : PassRes) (st : Nat) : (r.fail st).s.memWf = r.s.memWf := by
  unfold PassRes.fail
  split <;> rfl

@[simp] theorem PassRes.readOk_memWf (r : PassRes) (c : CDie) (q : QRef) (loc : Bool) (a len : Nat) (o : Obs) :
    (r.readOk c q loc a len o).1.s.memWf = r.s.memWf := by
  unfold PassRes.readOk
  split
  · rfl
  split <;> simp

@[simp] theorem PassRes.read_memWf (r : PassRes) (c : CDie) (q : QRef) (loc : Bool) (a len : Nat) (o : Obs) :
    (r.read c q loc a len o).1.s.memWf = r.s.memWf := by
  simp [PassRes.read]

@[simp] theorem PassRes.write_memWf (r : PassRes) (c : CDie) (q : QRef) (loc : Bool) (a : Nat) (bs : List Byte) (o : Obs) (h : r.s.memWf = true) :
    (r.write c q loc a bs o).s.memWf = true := by
  unfold PassRes.write
  split
  · exact h
  · simp [h]

/-- The pass that a pair holds has the form of the pair's. -/
theorem PassRes.memWf_of_pair {α : Type} {p : PassRes × α} {r : PassRes} {x : α} (h : p = (r, x)) : r.s.memWf = p.1.s.memWf := by rw [h]

/-- A run over a list that starts from a pass of the form ends with one of it. -/
theorem foldl_pass_memWf {α : Type} {f : PassRes → α → PassRes} (hf : ∀ r a, r.s.memWf = true → (f r a).s.memWf = true) (l : List α) (r : PassRes)
    (h : r.s.memWf = true) : (l.foldl f r).s.memWf = true :=
  List.foldlRecOn (motive := fun r : PassRes => r.s.memWf = true) l f h fun r hr a _ => hf r a hr

/-- The same with a value that the run carries along. -/
theorem foldl_passFst_memWf {α β : Type} {f : PassRes × β → α → PassRes × β} (hf : ∀ x a, (f x a).1.s.memWf = x.1.s.memWf) (l : List α)
    (x : PassRes × β) : (l.foldl f x).1.s.memWf = x.1.s.memWf := by
  induction l generalizing x with
  | nil => rfl
  | cons a l ih => exact (ih _).trans (hf x a)

theorem foldl_passFst_memWf_true {α β : Type} {f : PassRes × β → α → PassRes × β} (hf : ∀ x a, x.1.s.memWf = true → (f x a).1.s.memWf = true)
    (l : List α) (x : PassRes × β) (h : x.1.s.memWf = true) : (l.foldl f x).1.s.memWf = true :=
  List.foldlRecOn (motive := fun x : PassRes × β => x.1.s.memWf = true) l f h fun x hx a _ => hf x a hx

theorem drainRow_memWf (r : PassRes) (c : CDie) (rs : RunSweep) (m nt : Nat) (o : Obs) (acc : Nat → AccEntry) (h : r.s.memWf = true) :
    (drainRow r c rs m nt o acc).s.memWf = true := by
  unfold drainRow
  extract_lets d f n0 cols isTree r1 xs
  split
  extract_lets r2 r3
  have hr3 : r3.s.memWf = true := PassRes.write_memWf _ _ _ _ _ _ _ (by simp [r2, r1, h])
  split
  · exact PassRes.write_memWf _ _ _ _ _ _ _ hr3
  · exact hr3

theorem gemmRow_memWf (c : CDie) (t : Tile) (o : Obs) (x : PassRes × RunSweep) (m : Nat) (h : x.1.s.memWf = true) : (gemmRow c t o x m).1.s.memWf = true := by
  unfold gemmRow
  split
  next r rs =>
  extract_lets d w a tk k0 n
  split
  next r1 row h1 =>
  have hr1 : r1.s.memWf = true := by simp [PassRes.memWf_of_pair h1, h]
  split
  next r2 sc h2 =>
  have hr2 : r2.s.memWf = true := by
    rw [PassRes.memWf_of_pair h2]
    split <;> simp [hr1]
  split
  next r3 accIn h3 =>
  have hr3 : r3.s.memWf = true := by
    rw [PassRes.memWf_of_pair h3]
    split <;> simp [hr2]
  extract_lets ar ups ents flagged summed
  split
  · exact drainRow_memWf _ _ _ _ _ _ _ hr3
  · exact hr3

@[simp] theorem gemmAnchor_memWf (r : PassRes) (c : CDie) (rs : RunSweep) (o : Obs) : (gemmAnchor r c rs o).1.s.memWf = r.s.memWf := by
  unfold gemmAnchor
  dsimp only
  refine (foldl_passFst_memWf ?scales _ _).trans (foldl_passFst_memWf ?tiles _ _)
  case scales => simp
  case tiles =>
    intro x t
    dsimp only
    split
    · exact PassRes.read_memWf _ _ _ _ _ _ _
    · exact foldl_passFst_memWf (fun y j => by simp) _ _

theorem copyRun_memWf (r : PassRes) (c : CDie) (q : QRef) (srcLoc : Bool) (src : Nat) (dstLoc : Bool) (dst n : Nat) (o : Obs) (h : r.s.memWf = true) :
    (copyRun r c q srcLoc src dstLoc dst n o).s.memWf = true := by
  refine foldl_pass_memWf (fun p i hp => ?_) _ r h
  split
  · exact hp
  · extract_lets len
    split
    next p2 bs h2 =>
    have hp2 : p2.s.memWf = true := by simp [PassRes.memWf_of_pair h2, hp]
    split
    · exact hp2
    · exact p2.write_memWf _ _ _ _ _ _ hp2

theorem tileCopy_memWf (r : PassRes) (c : CDie) (rs : RunSweep) (o : Obs) (h : r.s.memWf = true) : (tileCopy r c rs o).s.memWf = true := by
  unfold tileCopy
  extract_lets d w n wb sb
  split <;> exact copyRun_memWf _ _ _ _ _ _ _ _ _ (copyRun_memWf _ _ _ _ _ _ _ _ _ h)

theorem transpose_memWf (r : PassRes) (c : CDie) (rs : RunSweep) (o : Obs) (h : r.s.memWf = true) : (transpose r c rs o).s.memWf = true := by
  unfold transpose
  extract_lets d a f m k
  split
  next r1 rows h1 =>
  have hr1 : r1.s.memWf = true := by
    rw [PassRes.memWf_of_pair h1]
    exact (foldl_passFst_memWf (fun x i => by simp) _ _).trans h
  split
  · exact hr1
  split
  · refine foldl_pass_memWf (fun p j hp => ?_) _ _ hr1
    split
    split <;> simp [hp]
  · refine foldl_pass_memWf (fun p nt hp => foldl_pass_memWf (fun u t hu => ?_) _ _ hp) _ _ hr1
    extract_lets n cols flagged written
    clear_value cols
    have hflagged : flagged.s.memWf = true := by
      refine foldl_pass_memWf ?_ _ _ hu
      exact fun y z hy => hy
    have hwritten : written.s.memWf = true := PassRes.write_memWf _ _ _ _ _ _ _ hflagged
    split
    · exact PassRes.write_memWf _ _ _ _ _ _ _ hwritten
    · exact hwritten

@[simp] theorem PassRes.entry_memWf (r : PassRes) (c : CDie) (q : QRef) (d : List Byte) (i : Nat) (o : Obs) : (r.entry c q d i o).1.s.memWf = r.s.memWf := by
  unfold PassRes.entry
  dsimp only
  split <;> simp

@[simp] theorem queryRow_memWf (r : PassRes) (c : CDie) (rs : RunSweep) (m : Nat) (o : Obs) : (queryRow r c rs m o).1.s.memWf = r.s.memWf := by
  unfold queryRow
  extract_lets d a dd
  split
  next r1 bs h1 =>
  have hr1 : r1.s.memWf = r.s.memWf := by simp [PassRes.memWf_of_pair h1]
  split
  next r2 sc h2 =>
  have hr2 : r2.s.memWf = r.s.memWf := by
    rw [PassRes.memWf_of_pair h2]
    split <;> simp [hr1]
  split <;> exact hr2

@[simp] theorem PassRes.page_memWf (r : PassRes) (c : CDie) (rs : RunSweep) (i : Nat) (o : Obs) : (r.page c rs i o).1.s.memWf = r.s.memWf := by
  unfold PassRes.page
  extract_lets d
  split
  next r1 e h1 =>
  have hr1 : r1.s.memWf = r.s.memWf := by simp [PassRes.memWf_of_pair h1]
  split
  · exact hr1
  split
  · next r2 h2 => simp [PassRes.memWf_of_pair h2, hr1]
  · next r2 pg h2 =>
    have hr2 : r2.s.memWf = r.s.memWf := by simp [PassRes.memWf_of_pair h2, hr1]
    split <;> simp [hr2]

@[simp] theorem attendSpan_memWf (r : PassRes) (c : CDie) (rs : RunSweep) (o : Obs) : (attendSpan r c rs o).1.s.memWf = r.s.memWf := by
  unfold attendSpan
  extract_lets d
  split
  split
  next r1 pages h1 =>
  have hr1 : r1.s.memWf = r.s.memWf := by
    rw [PassRes.memWf_of_pair h1]
    refine foldl_passFst_memWf ?_ _ _
    intro x k
    dsimp only
    have hpage (i : Nat) := x.1.page_memWf c rs i o
    split <;> next heq => exact (PassRes.memWf_of_pair heq).trans (hpage _)
  refine (foldl_passFst_memWf (fun x k => ?_) _ _).trans hr1
  simp

theorem attnOut_memWf (r : PassRes) (c : CDie) (rs : RunSweep) (m : Nat) (row : TierRow) (o : Obs) (h : r.s.memWf = true) :
    (attnOut r c rs m row o).s.memWf = true := by
  unfold attnOut
  extract_lets d f dd
  split
  split <;> simp [h]

theorem partWrite_memWf (r : PassRes) (c : CDie) (rs : RunSweep) (sh m : Nat) (row : TierRow) (o : Obs) (h : r.s.memWf = true) :
    (partWrite r c rs sh m row o).s.memWf = true := by
  unfold partWrite
  extract_lets d
  split
  next bs t ht => exact PassRes.write_memWf _ _ _ _ _ _ _ (by simp [State.memWf_of_pair_right ht, h])

theorem attendDrain_memWf (r : PassRes) (c : CDie) (rs : RunSweep) (o : Obs) (h : r.s.memWf = true) : (attendDrain r c rs o).s.memWf = true := by
  unfold attendDrain
  extract_lets d
  split
  refine foldl_pass_memWf (fun p k hp => ?_) _ _ h
  split
  · exact partWrite_memWf _ _ _ _ _ _ _ hp
  · exact attnOut_memWf _ _ _ _ _ _ hp

theorem combine_memWf (r : PassRes) (c : CDie) (rs : RunSweep) (o : Obs) (h : r.s.memWf = true) : (combine r c rs o).s.memWf = true := by
  refine foldl_pass_memWf (fun p m hp => ?_) _ r h
  split
  · exact hp
  split
  next p1 rows h1 =>
  have hp1 : p1.s.memWf = true := by
    rw [PassRes.memWf_of_pair h1]
    refine (foldl_passFst_memWf (fun x sh => ?_) _ _).trans hp
    split
    next p2 bs h2 =>
    have hp2 : p2.s.memWf = x.1.s.memWf := by simp [PassRes.memWf_of_pair h2]
    split
    · exact hp2
    split <;> exact hp2
  dsimp only
  split
  · exact hp1
  split
  · exact partWrite_memWf _ _ _ _ _ _ _ hp1
  · exact attnOut_memWf _ _ _ _ _ _ hp1

@[simp] theorem token_memWf (r : PassRes) (c : CDie) (rs : RunSweep) (t : Nat) (o : Obs) : (token r c rs t o).1.s.memWf = r.s.memWf := by
  simp [token]

theorem kvPage_memWf (r : PassRes) (c : CDie) (rs : RunSweep) (e : PTEntry) (i t0 s0 n : Nat) (o : Obs) (h : r.s.memWf = true) :
    (kvPage r c rs e i t0 s0 n o).s.memWf = true := by
  unfold kvPage
  extract_lets d dd
  split
  · exact h
  split
  · exact h
  split
  next r1 old h1 =>
  have hr1 : r1.s.memWf = true := by
    rw [PassRes.memWf_of_pair h1]
    split <;> simp [h]
  split
  · exact hr1
  split
  · simp [hr1]
  split
  next r2 ts h2 =>
  have hr2 : r2.s.memWf = true := by
    rw [PassRes.memWf_of_pair h2]
    exact (foldl_passFst_memWf (fun x k => by simp) _ _).trans hr1
  split
  · exact hr2
  split
  · exact PassRes.write_memWf _ _ _ _ _ _ _ hr2
  · refine PassRes.write_memWf _ _ _ _ _ _ _ (foldl_pass_memWf (fun p k hp => ?_) _ _ hr2)
    exact PassRes.write_memWf _ _ _ _ _ _ _ (PassRes.write_memWf _ _ _ _ _ _ _ (PassRes.write_memWf _ _ _ _ _ _ _ (PassRes.write_memWf _ _ _ _ _ _ _ hp)))

theorem kvPages_memWf (c : CDie) (rs : RunSweep) (es : List PTEntry) (o : Obs) (fuel t : Nat) (r : PassRes) (h : r.s.memWf = true) :
    (kvPages c rs es o fuel t r).s.memWf = true := by
  induction fuel generalizing t r with
  | zero => exact h
  | succ fuel ih =>
    unfold kvPages
    dsimp only
    split
    · exact h
    · exact ih _ _ (kvPage_memWf _ _ _ _ _ _ _ _ _ h)

theorem kvWrite_memWf (r : PassRes) (c : CDie) (rs : RunSweep) (o : Obs) (h : r.s.memWf = true) : (kvWrite r c rs o).s.memWf = true := by
  unfold kvWrite
  split
  next r1 es h1 =>
  refine kvPages_memWf _ _ _ _ _ _ _ ?_
  rw [PassRes.memWf_of_pair h1]
  exact (foldl_passFst_memWf (fun x i => by simp) _ _).trans h

@[simp] theorem attnAnchor_memWf (r : PassRes) (c : CDie) (rs : RunSweep) (o : Obs) : (attnAnchor r c rs o).1.s.memWf = r.s.memWf := by
  unfold attnAnchor
  extract_lets d dd
  split
  next r1 ea h1 =>
  have hr1 : r1.s.memWf = r.s.memWf := by
    rw [PassRes.memWf_of_pair h1]
    exact foldl_passFst_memWf (fun x m => by simp) _ _
  split
  next r2 ew h2 =>
  refine (PassRes.memWf_of_pair h2).trans ((foldl_passFst_memWf (fun x i => ?_) _ _).trans hr1)
  dsimp only
  split <;> simp

@[simp] theorem startSweep_memWf (r : PassRes) (c : CDie) (rs : RunSweep) (o : Obs) : (startSweep r c rs o).1.s.memWf = r.s.memWf := by
  unfold startSweep
  extract_lets d
  split
  next r1 rs1 h1 =>
  have hr1 : r1.s.memWf = r.s.memWf := by
    rw [PassRes.memWf_of_pair h1]
    split
    · dsimp only
      split <;> simp
    split <;> simp
  split
  · exact hr1
  split <;> simp [hr1]

@[simp] theorem loadTile_memWf (r : PassRes) (c : CDie) (rs : RunSweep) (cells : List CellUpset) (o : Obs) :
    (loadTile r c rs cells o).1.s.memWf = r.s.memWf := by
  unfold loadTile
  dsimp only
  split
  · rfl
  split <;> simp

@[simp] theorem loadStep_memWf (c : CDie) (rs : RunSweep) (start : Bool) (cells : List CellUpset) (tie : Bool) (o : Obs) (s : State) :
    (loadStep c rs start cells tie o s).1.s.memWf = s.memWf := by
  unfold loadStep
  split
  next r1 rs1 h1 =>
  have hr1 : r1.s.memWf = s.memWf := by
    rw [PassRes.memWf_of_pair h1]
    split <;> simp
  split
  next r2 t bad h2 =>
  have hr2 : r2.s.memWf = s.memWf := by simp [PassRes.memWf_of_pair h2, hr1]
  dsimp only
  split
  · simp [hr2]
  · exact hr2

theorem passWork_memWf (r : PassRes) (c : CDie) (rs : RunSweep) (o : Obs) (h : r.s.memWf = true) : (passWork r c rs o).1.s.memWf = true := by
  unfold passWork
  extract_lets d a
  split
  · exact h
  split
  · split
    · exact h
    split
    split
    next r1 rs1 h1 =>
    exact (PassRes.memWf_of_pair h1).trans (foldl_passFst_memWf_true (fun x i hx => gemmRow_memWf _ _ _ _ _ hx) _ _ h)
  split
  · split
    · split
      next r1 rs1 h1 =>
      have hr1 : r1.s.memWf = true := by simp [PassRes.memWf_of_pair h1, h]
      split
      · exact attendDrain_memWf _ _ _ _ hr1
      · exact hr1
    split
    · exact combine_memWf _ _ _ _ h
    · exact kvWrite_memWf _ _ _ _ h
  split
  · exact tileCopy_memWf _ _ _ _ h
  · exact transpose_memWf _ _ _ _ h

@[simp] theorem PassRes.finding_memWf (r : PassRes) (c : CDie) (rs : RunSweep) (lines : List (Bool × Nat)) (line : Bool × Nat) (st : Nat) (inj : Bool) :
    (r.finding c rs lines line st inj).1.s.memWf = r.s.memWf := by
  simp [PassRes.finding]

@[simp] theorem PassRes.injected_memWf (r : PassRes) (c : CDie) (rs : RunSweep) (checker st : Nat) (on : Bool) :
    (r.injected c rs checker st on).1.s.memWf = r.s.memWf := by
  unfold PassRes.injected
  split
  · simp
  · rfl

@[simp] theorem passChecks_memWf (r : PassRes) (c : CDie) (rs : RunSweep) : (passChecks r c rs).1.s.memWf = r.s.memWf := by
  unfold passChecks
  extract_lets d
  split
  next p1 rs1 i1 h1 =>
  have hp1 : p1.s.memWf = r.s.memWf := by simp [PassRes.memWf_of_pair h1]
  split
  next p2 rs2 h2 =>
  have hp2 : p2.s.memWf = r.s.memWf := (PassRes.memWf_of_pair h2).trans ((foldl_passFst_memWf (fun x b => by simp) _ _).trans hp1)
  split
  next p3 rs3 i3 h3 =>
  have hp3 : p3.s.memWf = r.s.memWf := by simp [PassRes.memWf_of_pair h3, hp2]
  split
  next p4 rs4 h4 =>
  exact (PassRes.memWf_of_pair h4).trans ((foldl_passFst_memWf (fun x b => by simp) _ _).trans hp3)

theorem passStep_memWf (r : PassRes) (c : CDie) (rs : RunSweep) (o : Obs) (h : r.s.memWf = true) : (passStep r c rs o).1.s.memWf = true := by
  unfold passStep
  split
  · split
    next r1 rs1 h1 => simp [PassRes.memWf_of_pair h1, passWork_memWf, h]
  · split
    next r1 rs1 h1 =>
    refine (PassRes.memWf_of_pair h1).trans ((foldl_passFst_memWf (fun x b => by simp) _ _).trans h)

@[simp] theorem tileLoadDone_memWf (c : CDie) (cells : List CellUpset) (tie : Bool) (o : Obs) (s : State) (h : s.memWf = true) :
    (tileLoadDone c cells tie o s).memWf = true := by
  unfold tileLoadDone
  extract_lets a
  split
  · exact h
  next r _ =>
  split
  · split
    next res r2 t bad h1 =>
    have hres : res.s.memWf = true := by simp [PassRes.memWf_of_pair h1, h]
    extract_lets ended
    have hended : ended.memWf = true := by simp [ended, hres]
    split
    · exact (State.setMsf_memWf _ _ _).trans hended
    · exact hended
  split
  · exact h
  split
  · split
    next res r2 t bad h1 =>
    have hres : res.s.memWf = true := by simp [PassRes.memWf_of_pair h1, h]
    exact (State.endStep_memWf _ _ _ _ _ _).trans hres
  split
  · split
    · exact h
    · split
      next res r2 t bad h1 =>
      have hres : res.s.memWf = true := by simp [PassRes.memWf_of_pair h1, h]
      exact (State.endStep_memWf _ _ _ _ _ _).trans hres
  split
  · split
    · exact h
    split
    · exact h
    split
    next res n t bad h1 =>
    have hres : res.s.memWf = true := by simp [PassRes.memWf_of_pair h1, h]
    split
    · exact (State.setArray_memWf _ _ _).trans hres
    dsimp only
    split
    · exact hres
    next en u hu =>
      have hum : u.memWf = true := (State.takeEntry_memWf hu).trans hres
      exact (State.raiseSweep_memWf _ _ _ _).trans (State.completeSweep_memWf _ _ _ _ _ _ _ _ _ hum)
  · exact h

@[simp] theorem sweepLastRow_memWf (c : CDie) (s : State) : (sweepLastRow c s).memWf = s.memWf := by
  unfold sweepLastRow
  dsimp only
  split
  · rfl
  split
  · rfl
  split
  · split <;> simp
  · simp

@[simp] theorem sweepPassEnd_memWf (c : CDie) (u : PassUpset) (tie : Bool) (o : Obs) (s : State) (h : s.memWf = true) :
    (sweepPassEnd c u tie o s).memWf = true := by
  unfold sweepPassEnd
  extract_lets st slot
  split
  · exact h
  next r _ =>
  split
  · exact h
  · have hpass := passStep_memWf { s := s, tie := tie, ups := u } c (r.enter (s.sweepLimitReg c)) o h
    split
    next p r2 inj h1 => exact (State.endStep_memWf _ _ _ _ _ _).trans ((PassRes.memWf_of_pair h1).trans hpass)

@[simp] theorem State.scramble_memWf (s : State) (q : QRef) (loc : Bool) (a : Nat) (len : Nat) (h : s.memWf = true) :
    (s.scramble q loc a len).memWf = true := by
  unfold State.scramble
  (repeat' split) <;> simp [h]

@[simp] theorem State.undefOutputs_memWf (s : State) (r : RunSweep) (h : s.memWf = true) : (s.undefOutputs r).memWf = true :=
  foldl_memWf_true (fun t _ ht => t.scramble_memWf _ _ _ _ ht) _ s h

@[simp] theorem State.finishSweep_memWf (s : State) (r : RunSweep) (h : s.memWf = true) : (s.finishSweep r).memWf = true := by simp [State.finishSweep, h]

@[simp] theorem sweepComplete_memWf (c : CDie) (s : State) (h : s.memWf = true) : (sweepComplete c s).memWf = true := by
  unfold sweepComplete
  dsimp only
  (repeat' split) <;> simp [h]

@[simp] theorem sweepLimit_memWf (c : CDie) (s : State) : (sweepLimit c s).memWf = s.memWf := by
  unfold sweepLimit
  extract_lets a st live slot
  clear_value slot
  split
  · rfl
  split
  · rfl
  · simp

@[simp] theorem abortComplete_memWf (c : CDie) (s : State) (h : s.memWf = true) : (abortComplete c s).memWf = true := by
  unfold abortComplete
  split
  · exact h
  · exact foldl_memWf_true (fun t r ht => t.finishSweep_memWf _ ht) _ _ (by simp [h])

end Sys2Proof.Machine
end

section
/-! The memory form under queues, dispatches, cairns and transfers (05 R182–R226). -/

namespace Sys2Proof.Machine

@[simp] theorem State.queueError_memWf (s : State) (r : QRef) : (s.queueError r).memWf = s.memWf := by simp [State.queueError]

@[simp] theorem State.completeRing_memWf (s : State) (r : QRef) (st n : Nat) (i : BitVec 24) (h : s.memWf = true) :
    (s.completeRing r st n i).memWf = true := by
  induction n generalizing s i with
  | zero => exact h
  | succ n ih =>
    unfold State.completeRing
    split
    next t st' bs ht =>
    have htm : t.memWf = true := by simp [State.memWf_of_pair ht, h]
    refine ih _ _ ?_
    split
    · exact t.completeUnrun_memWf _ _ _ htm
    · exact htm

@[simp] theorem State.failEntries_memWf (s : State) (r : QRef) (t : BitVec 24) (st : Nat) (h : s.memWf = true) : (s.failEntries r t st).memWf = true := by
  simp [State.failEntries, h]

@[simp] theorem State.settleGates_memWf (s : State) (r : QRef) (n : Nat) (h : s.memWf = true) : (s.settleGates r n).memWf = true := by
  induction n generalizing s with
  | zero => exact h
  | succ n ih =>
    unfold State.settleGates
    extract_lets q
    split
    · exact h
    split
    · exact h
    split
    · exact h
    · exact ih _ (by simp [h])
    · exact ih _ (State.failEntries_memWf _ _ _ _ (by simp [h]))

@[simp] theorem doorbell_memWf (r : QRef) (t : BitVec 24) (s : State) (h : s.memWf = true) : (doorbell r t s).memWf = true := by simp [doorbell, h]

@[simp] theorem doorbellGated_memWf (r : QRef) (t : BitVec 24) (s : State) (h : s.memWf = true) : (doorbellGated r t s).memWf = true := by
  simp [doorbellGated, h]

@[simp] theorem State.flushQueue_memWf (s : State) (r : QRef) (st : Nat) (h : s.memWf = true) : (s.flushQueue r st).memWf = true := by
  unfold State.flushQueue
  extract_lets q rest emptied next shadowless answered
  have hshadowless : shadowless.memWf = true := by simp [shadowless, emptied, h]
  have hanswered : answered.memWf = true := foldl_memWf_true (fun t e ht => t.completeUnrun_memWf _ _ _ ht) _ _ hshadowless
  exact foldl_memWf_true (fun t i ht => t.completeRing_memWf _ _ _ _ ht) _ _ hanswered

@[simp] theorem doorbellFlush_memWf (r : QRef) (s : State) (h : s.memWf = true) : (doorbellFlush r s).memWf = true := by simp [doorbellFlush, h]

@[simp] theorem descriptorFetch_memWf (r : QRef) (o : Obs) (s : State) (h : s.memWf = true) : (descriptorFetch r o s).memWf = true := by
  unfold descriptorFetch
  dsimp only
  (repeat' split) <;> simp [h]

@[simp] theorem gateTimeout_memWf (r : QRef) (s : State) (h : s.memWf = true) : (gateTimeout r s).memWf = true := by
  unfold gateTimeout
  dsimp only
  (repeat' split) <;> simp [h]

@[simp] theorem State.showCores_memWf (s : State) (c : CDie) : (s.showCores c).memWf = s.memWf := by simp [State.showCores]

@[simp] theorem dispatchStart_memWf (c : CDie) (s : State) : (dispatchStart c s).memWf = s.memWf := by
  unfold dispatchStart
  split
  · rfl
  extract_lets pick
  split
  · rfl
  split
  · rfl
  extract_lets r
  split
  · rfl
  · next h => simp [State.takeEntry_memWf h]

@[simp] theorem State.unfence_memWf (s : State) (c : CDie) (k : Core) : (s.unfence c k).memWf = s.memWf := by
  unfold State.unfence
  dsimp only
  split
  · rfl
  split
  · simp
  · split <;> simp

@[simp] theorem coreFence_memWf (c : CDie) (k : Core) (pre : List CoreWrite) (s : State) : (coreFence c k pre s).memWf = s.memWf := by
  unfold coreFence
  split <;> simp

@[simp] theorem State.trapDispatch_memWf (s : State) (c : CDie) (k : Core) (d : Dispatch) (t : TrapKind) (cause : BitVec 8) (epc : BitVec 64) :
    (s.trapDispatch c k d t cause epc).memWf = s.memWf := by
  simp [State.trapDispatch]

@[simp] theorem State.coreExit_memWf (s : State) (c : CDie) (k : Core) (x : CoreSt) (d : Dispatch) : (s.coreExit c k x d).memWf = s.memWf := by
  simp [State.coreExit]

@[simp] theorem State.coreSignal_memWf (s : State) (c : CDie) (k : Core) (x : CoreSt) : (s.coreSignal c k x).memWf = s.memWf := by simp [State.coreSignal]

@[simp] theorem State.ecall_memWf (s : State) (c : CDie) (k : Core) (pre : List CoreWrite) : (s.ecall c k pre).memWf = s.memWf := by
  unfold State.ecall
  split <;> simp

@[simp] theorem ecallExit_memWf (c : CDie) (k : Core) (pre : List CoreWrite) (s : State) : (ecallExit c k pre s).memWf = s.memWf := by simp [ecallExit]

@[simp] theorem ecallSignal_memWf (c : CDie) (k : Core) (pre : List CoreWrite) (s : State) : (ecallSignal c k pre s).memWf = s.memWf := by simp [ecallSignal]

@[simp] theorem dispatchLimit_memWf (c : CDie) (k : Core) (s : State) : (dispatchLimit c k s).memWf = s.memWf := by
  unfold dispatchLimit
  split <;> simp

@[simp] theorem dispatchComplete_memWf (c : CDie) (s : State) (h : s.memWf = true) : (dispatchComplete c s).memWf = true := by
  unfold dispatchComplete
  (repeat' split) <;> simp [h]

theorem State.vsly_memWf (s : State) (c : CDie) (k : Core) (pre : List CoreWrite) {f : CoreSt → State → VslyRes}
    (hf : ∀ x, ∀ r ∈ f x s, r.2.memWf = s.memWf) : (s.vsly c k pre f).memWf = s.memWf := by
  unfold State.vsly
  split
  · rfl
  split
  · next h => simp [hf _ _ h]
  · simp

theorem adda128_memWf (x : CoreSt) (vd vs1 vs2 : Fin 32) (s : State) : ∀ r ∈ adda128 x vd vs1 vs2 s, r.2.memWf = s.memWf := by
  unfold adda128
  split
  · simp
  · rintro r ⟨⟩
    rfl

theorem adda64_memWf (x : CoreSt) (vd vs1 vs2 : Fin 32) (s : State) : ∀ r ∈ adda64 x vd vs1 vs2 s, r.2.memWf = s.memWf := by
  unfold adda64
  split
  · simp
  · rintro r ⟨⟩
    rfl

theorem vslyConvert_memWf (x : CoreSt) (vd vs1 vs2 : Fin 32) (s : State) : ∀ r ∈ vslyConvert x vd vs1 vs2 s, r.2.memWf = s.memWf := by
  unfold vslyConvert
  split
  · simp
  · extract_lets src n n0 es put grid pad anchored free
    have hfree : ∀ r ∈ free, r.2.memWf = s.memWf := by simp [free]
    clear_value free
    split
    case h_3 | h_4 | h_5 => exact hfree
    all_goals
      rintro r ⟨⟩
      rfl

theorem vslyUnpack_memWf (x : CoreSt) (vd vs1 vs2 : Fin 32) (s : State) : ∀ r ∈ vslyUnpack x vd vs1 vs2 s, r.2.memWf = s.memWf := by
  unfold vslyUnpack
  split
  · simp
  · extract_lets n n0 free
    have hfree : ∀ r ∈ free, r.2.memWf = s.memWf := by simp [free]
    split
    · exact hfree
    · exact hfree
    · rintro r ⟨⟩
      rfl

@[simp] theorem State.arrived_memWf (s : State) (d : Die) (p : Packet) : (s.arrived d p).memWf = s.memWf := by simp [State.arrived]

@[simp] theorem State.dropFenced_memWf (s : State) (d : Die) (p : Packet) : (s.dropFenced d p).memWf = s.memWf := by
  unfold State.dropFenced
  split <;> simp

@[simp] theorem State.accept_memWf (s : State) (d : Die) (p : Packet) : (s.accept d p).1.memWf = s.memWf := by
  generalize hr : s.accept d p = r
  unfold State.accept at hr
  split at hr
  · subst hr
    exact s.dropFenced_memWf d p
  extract_lets arrived at hr
  have harrived : arrived.memWf = s.memWf := s.arrived_memWf d p
  split at hr
  · subst hr
    exact (State.bump_memWf _ _ _ _).trans ((State.injFired_memWf _ _).trans harrived)
  split at hr
  · subst hr
    exact (State.bump_memWf _ _ _ _).trans harrived
  split at hr
  · subst hr
    exact (State.bump_memWf _ _ _ _).trans harrived
  · subst hr
    exact harrived

@[simp] theorem State.answer_memWf (s : State) (d : Die) (e : Nat) (q : Packet) (op : BitVec 8) (st : RespStatus) (data : List Byte) :
    (s.answer d e q op st data).memWf = s.memWf := by
  simp [State.answer]

@[simp] theorem State.atEndpoint_memWf (s : State) (c : CDie) (e : Nat) (serves : List (BitVec 8)) (op : BitVec 8) (p : Packet) :
    (s.atEndpoint c e serves op p).1.memWf = s.memWf := by
  unfold State.atEndpoint
  split
  next t ok h =>
    split
    · simp [State.memWf_of_pair h]
    split <;> simp [State.memWf_of_pair h]

@[simp] theorem State.updTracks_memWf (s : State) (c : CDie) (n : Nat) (f : Track → Track) : (s.updTracks c n f).memWf = s.memWf := by
  simp [State.updTracks]

@[simp] theorem State.settleDie_memWf (s : State) (c : CDie) (h : s.memWf = true) : (s.settleDie c).memWf = true := by
  refine foldl_memWf_true (fun t r ht => ?_) _ s h
  split <;> simp [ht]

@[simp] theorem State.release_memWf (s : State) (c : CDie) (p : Part) (n : Nat) (failed : Bool) (h : s.memWf = true) :
    (s.release c p n failed).memWf = true := by
  simp [State.release, h]

@[simp] theorem State.releaseAll_memWf (s : State) (c : CDie) (p : Part) (n : Nat) (failed : Bool) (h : s.memWf = true) :
    (s.releaseAll c p n failed).memWf = true := by
  simp [State.releaseAll, h]

@[simp] theorem State.judge_memWf (s : State) (c : CDie) (p : Part) (n : Nat) (gen : BitVec 16) (bit : Nat) (abort : Bool) (h : s.memWf = true) :
    (s.judge c p n gen bit abort).memWf = true := by
  simp [State.judge, h]

@[simp] theorem State.cairnPacket_memWf (s : State) (c : CDie) (abort : Bool) (p : Packet) (h : s.memWf = true) : (s.cairnPacket c abort p).memWf = true := by
  simp [State.cairnPacket, h]

@[simp] theorem cairnSignal_memWf (c : CDie) (p : Packet) (s : State) (h : s.memWf = true) : (cairnSignal c p s).memWf = true := by simp [cairnSignal, h]

@[simp] theorem cairnAbort_memWf (c : CDie) (p : Packet) (s : State) (h : s.memWf = true) : (cairnAbort c p s).memWf = true := by simp [cairnAbort, h]

@[simp] theorem crnInspSelWrite_memWf (c : CDie) (v : Word) (s : State) : (crnInspSelWrite c v s).memWf = s.memWf := by simp [crnInspSelWrite]

@[simp] theorem crnTrkSelWrite_memWf (c : CDie) (v : Word) (s : State) : (crnTrkSelWrite c v s).memWf = s.memWf := by simp [crnTrkSelWrite]

@[simp] theorem State.crnTrackWrite_memWf (s : State) (c : CDie) (k : Nat) (v : Word) : (s.crnTrackWrite c k v).memWf = s.memWf := by
  simp [State.crnTrackWrite]

@[simp] theorem crnPartWrite_memWf (c : CDie) (p : Part) (v : Word) (s : State) : (crnPartWrite c p v s).memWf = s.memWf := by simp [crnPartWrite]

@[simp] theorem State.configCairn_memWf (s : State) (c : CDie) (n : Nat) (target : BitVec 64) (gen : BitVec 16) (fdst : Coord) (fcairn : BitVec 13)
    (fbit : BitVec 6) (fen : Bool) (h : s.memWf = true) :
    (s.configCairn c n target gen fdst fcairn fbit fen).memWf = true := by
  simp [State.configCairn, h]

@[simp] theorem State.showEngines_memWf (s : State) (c : CDie) : (s.showEngines c).memWf = s.memWf := by simp [State.showEngines]

theorem State.engine_memWf {b : Bool} {s : State} (c : CDie) (kind : Nat) {f : DmaRun → State → State × DmaRun}
    (hf : ∀ r t, t.memWf = b → (f r t).1.memWf = b) (hs : s.memWf = b) : (s.engine c kind f).memWf = b := by
  unfold State.engine
  split
  · exact hs
  split
  · split
    · exact hs
    split
    · exact hs
    · next h _ => simp [hf, State.takeEntry_memWf h, hs]
  · exact hs

theorem State.engine_memWf_eq (s : State) (c : CDie) (kind : Nat) {f : DmaRun → State → State × DmaRun} (hf : ∀ r t, (f r t).1.memWf = t.memWf) :
    (s.engine c kind f).memWf = s.memWf :=
  State.engine_memWf c kind (fun r t ht => (hf r t).trans ht) rfl

@[simp] theorem State.checkRange_memWf (s : State) (q : QRef) (write : Bool) (tarn : Bool) (a : Nat) (len : Nat) :
    (s.checkRange q write tarn a len).1.memWf = s.memWf := by
  unfold State.checkRange
  (repeat' split) <;> simp

@[simp] theorem State.checkFar_memWf (s : State) (q : QRef) (write : Bool) (a : Nat) (len : Nat) : (s.checkFar q write a len).1.memWf = s.memWf := by
  unfold State.checkFar
  split <;> simp

@[simp] theorem State.chunkFailed_memWf (s : State) (c : CDie) : (s.chunkFailed c).memWf = s.memWf := by simp [State.chunkFailed]

theorem copyChunk_memWf (o : Obs) (x : State × DmaRun) (i : Nat) (h : x.1.memWf = true) : (copyChunk o x i).1.memWf = true := by
  unfold copyChunk
  split
  next s run =>
  extract_lets d q
  split
  rename_i sc bad _ off len _
  split
  next t rs bs ht =>
  have htm : t.memWf = true := by simp [State.memWf_of_pair ht, h]
  have hbad (u : State) (hu : u.memWf = true) : (bad u).1.memWf = true := by simp [bad, hu]
  split
  · exact hbad t htm
  split
  · split
    next u ws hu =>
    have hum : u.memWf = true := by
      rw [State.memWf_of_pair hu]
      exact State.writeOp_memWf _ _ _ _ _ _ _ _ (by simp [htm])
    split
    · exact hum
    · exact hbad u hum
  · simp [htm]

@[simp] theorem dmaCopy_memWf (c : CDie) (o : Obs) (s : State) (h : s.memWf = true) : (dmaCopy c o s).memWf = true := by
  refine State.engine_memWf c 0 (fun run t ht => ?_) h
  extract_lets d run2
  split
  next t1 ok1 h1 =>
  have ht1 : t1.memWf = true := by simp [State.memWf_of_pair h1, ht]
  split
  next t2 ok2 h2 =>
  have ht2 : t2.memWf = true := by
    rw [State.memWf_of_pair h2]
    split
    · exact ht1
    split <;> simp [ht1]
  split
  · exact ht2
  · exact foldl_fst_memWf_true (fun x i hx => copyChunk_memWf o x i hx) _ _ ht2

@[simp] theorem dmaGet_memWf (c : CDie) (s : State) : (dmaGet c s).memWf = s.memWf := by
  refine s.engine_memWf_eq c 1 fun run t => ?_
  extract_lets d run2
  split
  next t1 ok1 h1 =>
  have ht1 : t1.memWf = t.memWf := by simp [State.memWf_of_pair h1]
  split
  next t2 ok2 h2 =>
  have ht2 : t2.memWf = t.memWf := by
    rw [State.memWf_of_pair h2]
    split
    · exact ht1
    · simp [ht1]
  split <;> simp [ht2]

@[simp] theorem State.destSignal_memWf (s : State) (run : DmaRun) (k : Nat) : (s.destSignal run k).1.memWf = s.memWf := by
  unfold State.destSignal
  split
  · rfl
  split
  · rfl
  dsimp only
  split
  · rfl
  · split <;> simp

@[simp] theorem State.settleDests_memWf (s : State) (run : DmaRun) : (s.settleDests run).1.memWf = s.memWf := by
  refine List.foldlRecOn (motive := fun st : State × DmaRun => st.1.memWf = s.memWf) _ _ rfl fun st ih k _ => ?_
  split
  · exact ih
  · exact (st.1.destSignal_memWf _ _).trans ih

@[simp] theorem fanChunk_memWf (bs : List Byte) (i : Nat) (st : State × DmaRun) (k : Nat) : (fanChunk bs i st k).1.memWf = st.1.memWf := by
  unfold fanChunk
  split
  split
  · rfl
  split
  · rfl
  dsimp only
  split <;> simp

@[simp] theorem dmaFanout_memWf (c : CDie) (o : Obs) (s : State) : (dmaFanout c o s).memWf = s.memWf := by
  refine s.engine_memWf_eq c 2 fun run t => ?_
  extract_lets d q sc run2
  split
  next t1 ls list h1 =>
  have ht1 : t1.memWf = t.memWf := by simp [State.memWf_of_pair h1]
  split
  · exact ht1
  split
  next t2 ok2 h2 =>
  have ht2 : t2.memWf = t.memWf := by simp [State.memWf_of_pair h2, ht1]
  split
  · exact ht2
  extract_lets dests run3
  split
  next t4 run4 h4 =>
  have ht4 : t4.memWf = t.memWf := by
    rw [State.memWf_of_pair h4]
    refine (foldl_fst_memWf (fun x i => ?_) _ _).trans ht2
    split
    split
    next t3 rs bs h3 =>
    have ht3 : t3.memWf = x.1.memWf := by simp [State.memWf_of_pair h3]
    split
    · simp [ht3]
    · exact (foldl_fst_memWf (fun y k => fanChunk_memWf _ _ y k) _ _).trans ht3
  simp [ht4]

@[simp] theorem dmaSignal_memWf (c : CDie) (s : State) : (dmaSignal c s).memWf = s.memWf :=
  s.engine_memWf_eq c 3 fun _ _ => rfl

@[simp] theorem cairnCfg_memWf (c : CDie) (s : State) (h : s.memWf = true) : (cairnCfg c s).memWf = true := by
  refine State.engine_memWf c 4 (fun run t ht => ?_) h
  dsimp only
  split
  · exact ht
  · exact State.configCairn_memWf _ _ _ _ _ _ _ _ _ ht

@[simp] theorem State.undefChunks_memWf (s : State) (r : DmaRun) (h : s.memWf = true) : (s.undefChunks r).memWf = true := by
  refine foldl_memWf_true (fun t e ht => ?_) _ s h
  split
  split
  · split
    · split <;> simp [ht]
    · exact ht
  · split <;> simp [ht]

@[simp] theorem dmaComplete_memWf (c : CDie) (s : State) (h : s.memWf = true) : (dmaComplete c s).memWf = true := by
  unfold dmaComplete
  split
  · exact h
  split
  · exact h
  extract_lets ended run
  split
  next t run2 ht =>
  have htm : t.memWf = true := by
    rw [State.memWf_of_pair ht]
    exact foldl_fst_memWf_true (fun x k hx => by simp [hx]) _ _ h
  extract_lets undef st shown answered sc
  have hundef : undef.memWf = true := t.undefChunks_memWf _ htm
  have hanswered : answered.memWf = true := State.completeDma_memWf _ _ _ _ _ _ _ _ (by simp [shown, hundef])
  split
  · simp [hanswered]
  split <;> simp [hanswered]

end Sys2Proof.Machine
end

section
/-! The memory form under the memory controllers and the packets of requests (06 R243–R255, 05 R212–R216). -/

namespace Sys2Proof.Machine

@[simp] theorem State.atMem_memWf (s : State) (c : CDie) (p : Packet) (op : BitVec 8) : (s.atMem c p op).1.memWf = s.memWf := by simp [State.atMem]

@[simp] theorem State.ctlWrite_memWf (s : State) (c : CDie) (p : Part) (a : Nat) (bs : List Byte) (o : Obs) (h : s.memWf = true) :
    (s.ctlWrite c p a bs o).1.memWf = true := by
  unfold State.ctlWrite
  dsimp only
  (repeat' split) <;> simp [h]

@[simp] theorem State.ctlRead_memWf (s : State) (c : CDie) (p : Part) (a len : Nat) (o : Obs) (write : Bool) :
    (s.ctlRead c p a len o write).1.memWf = s.memWf := by
  unfold State.ctlRead
  split
  · simp
  · split
    · simp
    · split
      next t ue h => split <;> simp [State.memWf_of_pair h]
  · split
    · rfl
    · split
      next t ue h => split <;> simp [State.memWf_of_pair h]

@[simp] theorem memWrite_memWf (c : CDie) (p : Packet) (o : Obs) (s : State) (h : s.memWf = true) : (memWrite c p o s).memWf = true := by simp [memWrite, h]

@[simp] theorem memWriteMasked_memWf (c : CDie) (p : Packet) (o : Obs) (s : State) (h : s.memWf = true) : (memWriteMasked c p o s).memWf = true := by
  simp [memWriteMasked, h]

@[simp] theorem memRead_memWf (c : CDie) (p : Packet) (o : Obs) (s : State) : (memRead c p o s).memWf = s.memWf := by simp [memRead]

@[simp] theorem memAmo_memWf (c : CDie) (p : Packet) (o : Obs) (s : State) (h : s.memWf = true) : (memAmo c p o s).memWf = true := by simp [memAmo, h]

@[simp] theorem refreshPoll_memWf (c : CDie) (rd : List (BitVec 3 × BitVec 8)) (s : State) : (refreshPoll c rd s).memWf = s.memWf := by
  unfold refreshPoll
  split
  · rfl
  refine foldl_keeps (g := State.memWf) (fun t k => ?_) _ s
  split
  · rfl
  · simp

@[simp] theorem patrolRead_memWf (c : CDie) (sec : Nat) (f : Option SectorErr) (s : State) : (patrolRead c sec f s).memWf = s.memWf := by
  unfold patrolRead
  split <;> simp

@[simp] theorem memZeroGo_memWf (c : CDie) (v : Word) (s : State) : (memZeroGo c v s).memWf = s.memWf := by
  unfold memZeroGo
  split
  · rfl
  extract_lets pg span ordered busy
  have hordered : ordered.memWf = s.memWf := by simp [ordered]
  split
  · exact hordered
  split <;> simp [busy, hordered]

@[simp] theorem memZeroDone_memWf (c : CDie) (s : State) (h : s.memWf = true) : (memZeroDone c s).memWf = true := by
  unfold memZeroDone
  extract_lets pg
  split
  · exact h
  split
  extract_lets zeroed done shown
  have hzeroed : zeroed.memWf = true := s.memZero_memWf _ _ _ h
  simp [shown, done, hzeroed]

@[simp] theorem memRangeWrite_memWf (c : CDie) (p : Part) (i : Fin 4) (v : Word) (s : State) : (memRangeWrite c p i v s).memWf = s.memWf := by
  simp [memRangeWrite]

@[simp] theorem stackFail_memWf (c : CDie) (k : Fin 3) (s : State) : (stackFail c k s).memWf = s.memWf := by
  unfold stackFail
  split
  · rfl
  extract_lets failed down fenced told
  have hfailed : failed.memWf = s.memWf := by simp [failed]
  simp [told, fenced, down, hfailed]

@[simp] theorem trnZeroGo_memWf (c : CDie) (v : Word) (s : State) : (trnZeroGo c v s).memWf = s.memWf := by
  unfold trnZeroGo
  split
  · rfl
  extract_lets pg span ordered busy
  have hordered : ordered.memWf = s.memWf := by simp [ordered]
  split <;> simp [busy, hordered]

@[simp] theorem trnZeroDone_memWf (c : CDie) (s : State) (h : s.memWf = true) : (trnZeroDone c s).memWf = true := by
  unfold trnZeroDone
  extract_lets pg
  split
  · exact h
  split
  extract_lets zeroed done shown
  have hzeroed : zeroed.memWf = true := s.tarnZero_memWf _ _ _ h
  simp [shown, done, hzeroed]

@[simp] theorem trnPartWrite_memWf (c : CDie) (p : Part) (v : Word) (s : State) : (trnPartWrite c p v s).memWf = s.memWf := by simp [trnPartWrite]

@[simp] theorem State.coreTimeout_memWf (s : State) (c : CDie) (d : Dispatch) : (s.coreTimeout c d).memWf = s.memWf := by simp [State.coreTimeout]

@[simp] theorem State.coreAccessFail_memWf (s : State) (c : CDie) (k : Nat) (id : Nat) (cause : BitVec 8) (f : ReqFail) :
    (s.coreAccessFail c k id cause f).memWf = s.memWf := by
  unfold State.coreAccessFail
  (repeat' split) <;> simp

@[simp] theorem State.coreGets_memWf (s : State) (c : CDie) (k : Nat) (id : Nat) (f : CoreSt → CoreSt) : (s.coreGets c k id f).memWf = s.memWf := by
  unfold State.coreGets
  split <;> simp

@[simp] theorem State.coreSigDone_memWf (s : State) (c : CDie) (k : Nat) (id : Nat) (ok : Bool) : (s.coreSigDone c k id ok).memWf = s.memWf := by
  simp [State.coreSigDone]

theorem State.coreOf_memWf (s : State) (c : CDie) (k : Nat) (f : Core → State) (hf : ∀ j, (f j).memWf = s.memWf) : (s.coreOf c k f).memWf = s.memWf := by
  unfold State.coreOf
  split
  · exact hf _
  · rfl

@[simp] theorem State.settleRun_memWf (s : State) (id : Nat) : (s.settleRun id).memWf = s.memWf := by
  unfold State.settleRun
  split <;> simp

@[simp] theorem State.failChunk_memWf (s : State) (id dest chunk : Nat) : (s.failChunk id dest chunk).memWf = s.memWf := by
  unfold State.failChunk
  split
  · rfl
  next r _ =>
  extract_lets retired failed m dests
  have hfailed : failed.memWf = s.memWf := by simp [failed, retired]
  split
  next t run2 ht =>
  have htm : t.memWf = s.memWf := by
    rw [State.memWf_of_pair ht]
    split <;> simp [hfailed]
  exact (State.updRun_memWf _ _ _).trans htm

@[simp] theorem State.bar2Fail_memWf (s : State) (id : Nat) (f : ReqFail) : (s.bar2Fail id f).memWf = s.memWf := by
  unfold State.bar2Fail
  (repeat' split) <;> simp

@[simp] theorem State.ownerFail_memWf (s : State) (r : Req) (f : ReqFail) : (s.ownerFail r f).memWf = s.memWf := by
  unfold State.ownerFail
  split <;> simp [State.coreOf_memWf]

@[simp] theorem State.failReq_memWf (s : State) (r : Req) (f : ReqFail) : (s.failReq r f).memWf = s.memWf := by simp [State.failReq]

@[simp] theorem State.echo_memWf (s : State) (c : CDie) (r : Req) (e : Bool) : (s.echo c r e).memWf = s.memWf := by simp [State.echo]

@[simp] theorem State.response_memWf (s : State) (c : CDie) (p : Packet) (op : BitVec 8) (ops : List (BitVec 8)) :
    (s.response c p op ops).1.memWf = s.memWf := by
  unfold State.response
  split
  next t ok h =>
    split
    · simp [State.memWf_of_pair h]
    split <;> simp [State.memWf_of_pair h]

@[simp] theorem State.ackDone_memWf (s : State) (r : Req) : (s.ackDone r).memWf = s.memWf := by
  unfold State.ackDone
  split <;> simp [State.coreOf_memWf]

@[simp] theorem State.ackReceive_memWf (s : State) (c : CDie) (p : Packet) : (s.ackReceive c p).memWf = s.memWf := by
  unfold State.ackReceive
  split
  · next h => simp [State.memWf_of_pair h]
  · next h => simp [State.memWf_of_pair h]

@[simp] theorem State.getData_memWf (s : State) (id : Nat) (ch : Nat) (off : Nat) (bs : List Byte) (o : Obs) (h : s.memWf = true) :
    (s.getData id ch off bs o).memWf = true := by
  unfold State.getData
  split <;> simp [h]

@[simp] theorem State.readData_memWf (s : State) (c : CDie) (p : Packet) (o : Obs) (h : s.memWf = true) : (s.readData c p o).memWf = true := by
  unfold State.readData
  split
  next t ht => simp [State.memWf_of_pair ht, h]
  next t r ht =>
  have htm : t.memWf = true := by simp [State.memWf_of_pair ht, h]
  extract_lets echoed retired taken
  have hretired : retired.memWf = true := by simp [retired, echoed, htm]
  have htaken : taken.memWf = true := by
    unfold taken
    clear_value retired
    split <;> simp [hretired]
  exact (State.pump_memWf _).trans htaken

@[simp] theorem State.readErr_memWf (s : State) (c : CDie) (p : Packet) : (s.readErr c p).memWf = s.memWf := by
  unfold State.readErr
  split
  · next h => simp [State.memWf_of_pair h]
  · next h => simp [State.memWf_of_pair h]

@[simp] theorem State.amoResp_memWf (s : State) (c : CDie) (p : Packet) : (s.amoResp c p).memWf = s.memWf := by
  unfold State.amoResp
  split
  · next h => simp [State.memWf_of_pair h]
  · next h =>
    dsimp only
    split
    · simp [State.memWf_of_pair h]
    · split <;> simp [State.memWf_of_pair h]

@[simp] theorem State.requestTimeout_memWf (s : State) (c : CDie) (xid : BitVec 32) (seq : BitVec 16) : (s.requestTimeout c xid seq).memWf = s.memWf := by
  unfold State.requestTimeout
  (repeat' split) <;> simp

@[simp] theorem windowRelease_memWf (c : CDie) (dest : BitVec 24) (s : State) : (windowRelease c dest s).memWf = s.memWf := by
  unfold windowRelease
  split <;> simp

@[simp] theorem ccPeriod_memWf (c : CDie) (dest : BitVec 24) (s : State) : (ccPeriod c dest s).memWf = s.memWf := by simp [ccPeriod]

end Sys2Proof.Machine
end

section
/-! The memory form under dies, links, ports and the router (07, 08, 09). -/

namespace Sys2Proof.Machine

@[simp] theorem State.c3Die_memWf (s : State) (c : CDie) : (s.c3Die c).memWf = s.memWf := by simp [State.c3Die]

@[simp] theorem State.clearMember_memWf (s : State) (c : CDie) (i : Nat) : (s.clearMember c i).memWf = s.memWf := by simp [State.clearMember]

@[simp] theorem State.dropRequests_memWf (s : State) (c : CDie) : (s.dropRequests c).memWf = s.memWf := State.memWf_dropBlind.dropRequests s c

@[simp] theorem State.fenceDie_memWf (s : State) (d : Die) : (s.fenceDie d).memWf = s.memWf := by
  unfold State.fenceDie
  split
  · rfl
  dsimp only
  split <;> simp

@[simp] theorem State.d2dState_memWf (s : State) (p : Page) (st : Nat) : (s.d2dState p st).memWf = s.memWf := by simp [State.d2dState]

@[simp] theorem State.setD2d_memWf (s : State) (a : Die) (b : Die) (x : D2dSt) : (s.setD2d a b x).memWf = s.memWf := by simp [State.setD2d]

@[simp] theorem State.holdOne_memWf (s : State) (d : Die) (p : Packet) : (s.holdOne d p).memWf = s.memWf := by simp [State.holdOne]

@[simp] theorem State.dropOne_memWf (s : State) (d : Die) (epo : Bool) : (s.dropOne d epo).memWf = s.memWf := by simp [State.dropOne]

@[simp] theorem State.unreserve_memWf (s : State) (p : Packet) : (s.unreserve p).memWf = s.memWf := by simp [State.unreserve]

@[simp] theorem State.linkFreed_memWf (s : State) (a : Die) (b : Die) (bit : Bool) (p : Packet) : (s.linkFreed a b bit p).memWf = s.memWf := by
  simp [State.linkFreed]

@[simp] theorem State.clearLink_memWf (s : State) (a : Die) (b : Die) : (s.clearLink a b).memWf = s.memWf := by simp [State.clearLink]

@[simp] theorem State.d2dFail_memWf (s : State) (p : Page) : (s.d2dFail p).memWf = s.memWf := by
  unfold State.d2dFail
  split
  · rfl
  dsimp only
  split <;> simp

@[simp] theorem d2dFlitReceive_memWf (p : Page) (crcOk : Bool) (data : List Byte) (s : State) : (d2dFlitReceive p crcOk data s).memWf = s.memWf := by
  unfold d2dFlitReceive
  split
  · rfl
  extract_lets inj fired n counted replayed
  have hfired : fired.memWf = s.memWf := by simp [fired]
  have hcounted : counted.memWf = s.memWf := by simp [counted, hfired]
  have hreplayed : replayed.memWf = s.memWf := by simp [replayed, hcounted]
  split
  · simp [hfired]
  split
  · simp [hcounted]
  · simp [hreplayed]

@[simp] theorem d2dPortFail_memWf (p : Page) (inSwitch : Bool) (s : State) : (d2dPortFail p inSwitch s).memWf = s.memWf := by
  unfold d2dPortFail
  dsimp only
  split
  · split <;> simp
  · simp

@[simp] theorem State.bringupReady_memWf (s : State) : (s.bringupReady).memWf = s.memWf := by simp [State.bringupReady]

@[simp] theorem State.freeInput_memWf (s : State) (d : Die) (c : Came) (p : Packet) (res : Nat) (shr : Nat) :
    (s.freeInput d c p res shr).memWf = s.memWf := by
  unfold State.freeInput
  split <;> simp

@[simp] theorem State.discard_memWf (s : State) (d : Die) (c : Came) (p : Packet) (why : Cause) : (s.discard d c p why).memWf = s.memWf := by
  unfold State.discard
  dsimp only
  split <;> simp

@[simp] theorem State.dropTransit_memWf (s : State) (t : Transit) (why : Cause) : (s.dropTransit t why).memWf = s.memWf := by simp [State.dropTransit]

@[simp] theorem State.purge_memWf (s : State) (q : Port) : (s.purge q).memWf = s.memWf := by simp [State.purge]

@[simp] theorem State.enterLnk_memWf (s : State) (q : Port) (st : Nat) (byAgent : Bool) : (s.enterLnk q st byAgent).memWf = s.memWf := by
  unfold State.enterLnk
  extract_lets pg set marked unlaned trained aligned qualified lit shut
  have htrained : trained.memWf = s.memWf := by simp [trained, unlaned, marked, set]
  have hqualified : qualified.memWf = s.memWf := by simp [qualified, aligned, htrained]
  have hlit : lit.memWf = s.memWf := by
    unfold lit
    split
    · split <;> simp [hqualified]
    · exact hqualified
  simp [shut, hlit]

@[simp] theorem State.portFail_memWf (s : State) (q : Port) (cause : Nat) : (s.portFail q cause).memWf = s.memWf := by simp [State.portFail]

@[simp] theorem State.attemptFail_memWf (s : State) (q : Port) : (s.attemptFail q).memWf = s.memWf := by simp [State.attemptFail]

@[simp] theorem State.startTrain_memWf (s : State) (q : Port) (byAgent : Bool) : (s.startTrain q byAgent).memWf = s.memWf := by simp [State.startTrain]

@[simp] theorem State.rxPower_memWf (s : State) (j : OptPort) (rx : List (BitVec 16)) : (s.rxPower j rx).memWf = s.memWf := by simp [State.rxPower]

@[simp] theorem signalDetect_memWf (q : Port) (rx : List (BitVec 16)) (s : State) : (signalDetect q rx s).memWf = s.memWf := by
  unfold signalDetect
  split
  · rfl
  extract_lets read light
  have hread : read.memWf = s.memWf := by
    unfold read
    split <;> simp
  split <;> simp [hread]

@[simp] theorem trainingWord_memWf (q : Port) (lane : Fin 8) (w : TrainWord) (limit : Bool) (refused : Bool) (s : State) :
    (trainingWord q lane w limit refused s).memWf = s.memWf := by
  simp [trainingWord]

@[simp] theorem trainComplete_memWf (q : Port) (presets : List (Fin 8)) (s : State) : (trainComplete q presets s).memWf = s.memWf := by simp [trainComplete]

@[simp] theorem alignComplete_memWf (q : Port) (lanes : List (Fin 8 × Bool)) (s : State) : (alignComplete q lanes s).memWf = s.memWf := by
  simp [alignComplete]

@[simp] theorem trainAttemptTimeout_memWf (q : Port) (s : State) : (trainAttemptTimeout q s).memWf = s.memWf := by simp [trainAttemptTimeout]

@[simp] theorem State.enqueue_memWf (s : State) (q : Port) (fl : List (Bool × List Byte)) : (s.enqueue q fl).memWf = s.memWf := by simp [State.enqueue]

@[simp] theorem State.sendRecord_memWf (s : State) (q : Port) (bs : List Byte) : (s.sendRecord q bs).memWf = s.memWf := by simp [State.sendRecord]

@[simp] theorem State.sendThrice_memWf (s : State) (q : Port) (bs : List Byte) : (s.sendThrice q bs).memWf = s.memWf := by simp [State.sendThrice]

@[simp] theorem linkRecordRepeat_memWf (q : Port) (s : State) : (linkRecordRepeat q s).memWf = s.memWf := by
  unfold linkRecordRepeat
  split
  · rfl
  dsimp only
  split <;> simp

@[simp] theorem State.heldCheck_memWf (s : State) (q : Port) : (s.heldCheck q).memWf = s.memWf := by simp [State.heldCheck]

@[simp] theorem State.verdict_memWf (s : State) (q : Port) : (s.verdict q).memWf = s.memWf := by
  unfold State.verdict
  dsimp only
  split <;> simp

@[simp] theorem State.lanesCount_memWf (s : State) (q : Port) (ls : List LaneFec) : (s.lanesCount q ls).memWf = s.memWf := by simp [State.lanesCount]

@[simp] theorem qualDwellEnd_memWf (q : Port) (more : List LaneFec) (s : State) : (qualDwellEnd q more s).memWf = s.memWf := by simp [qualDwellEnd]

@[simp] theorem qualResultTimeout_memWf (q : Port) (s : State) : (qualResultTimeout q s).memWf = s.memWf := by simp [qualResultTimeout]

@[simp] theorem qualResult_memWf (q : Port) (pass : Bool) (s : State) : (qualResult q pass s).memWf = s.memWf := by simp [qualResult]

@[simp] theorem identReceive_memWf (q : Port) (i : Ident) (s : State) : (identReceive q i s).memWf = s.memWf := by simp [identReceive]

@[simp] theorem keyReady_memWf (q : Port) (slot : Fin 2) (s : State) : (keyReady q slot s).memWf = s.memWf := by simp [keyReady]

@[simp] theorem keyAck_memWf (q : Port) (slot : Fin 2) (s : State) : (keyAck q slot s).memWf = s.memWf := by simp [keyAck]

@[simp] theorem identSend_memWf (q : Port) (s : State) : (identSend q s).memWf = s.memWf := by simp [identSend]

@[simp] theorem State.takePacket_memWf (s : State) (q : Port) (keyed : Bool) (bs : List Byte) : (s.takePacket q keyed bs).memWf = s.memWf := by
  simp [State.takePacket]

@[simp] theorem State.takeFlits_memWf (s : State) (q : Port) (keyed : Bool) (fs : List (List Byte)) : (s.takeFlits q keyed fs).memWf = s.memWf := by
  induction fs generalizing s with
  | nil => rfl
  | cons fl rest ih =>
    unfold State.takeFlits
    simp [ih]

@[simp] theorem State.frameBad_memWf (s : State) (q : Port) (inj : Bool) : (s.frameBad q inj).memWf = s.memWf := by simp [State.frameBad]

@[simp] theorem State.stamp_memWf (s : State) (q : Port) (tx : Bool) (fcnt : Nat) : (s.stamp q tx fcnt).memWf = s.memWf := by simp [State.stamp]

@[simp] theorem State.frameGood_memWf (s : State) (q : Port) (f : RxFrame) : (s.frameGood q f).memWf = s.memWf := by
  unfold State.frameGood
  extract_lets pg x now isNew x1 taken shown counted told stamped skip
  have hcounted : counted.memWf = s.memWf := by simp [counted, shown, taken]
  simp [stamped, told, hcounted]

@[simp] theorem frameReceive_memWf (q : Port) (f : RxFrame) (s : State) : (frameReceive q f s).memWf = s.memWf := by simp [frameReceive]

@[simp] theorem State.slotChange_memWf (s : State) (q : Port) : (s.slotChange q).memWf = s.memWf := by simp [State.slotChange]

@[simp] theorem frameTransmit_memWf (q : Port) (s : State) : (frameTransmit q s).memWf = s.memWf := by
  unfold frameTransmit
  dsimp only
  split
  · rfl
  split
  · simp
  split
  · simp
  split <;> simp

@[simp] theorem laneLossOfLock_memWf (q : Port) (lane : Fin 8) (s : State) : (laneLossOfLock q lane s).memWf = s.memWf := by simp [laneLossOfLock]

@[simp] theorem State.laserRead_memWf (s : State) (j : OptPort) (pwr : BitVec 16) (rx : List (BitVec 16)) : (s.laserRead j pwr rx).memWf = s.memWf := by
  simp [State.laserRead]

@[simp] theorem laserOkChange_memWf (j : OptPort) (pwr : BitVec 16) (rx : List (BitVec 16)) (s : State) : (laserOkChange j pwr rx s).memWf = s.memWf := by
  simp [laserOkChange]

@[simp] theorem laserLoss_memWf (j : OptPort) (pwr : BitVec 16) (rx : List (BitVec 16)) (s : State) : (laserLoss j pwr rx s).memWf = s.memWf := by
  simp [laserLoss]

@[simp] theorem laneBerWindow_memWf (q : Port) (more : List LaneFec) (s : State) : (laneBerWindow q more s).memWf = s.memWf := by simp [laneBerWindow]

@[simp] theorem State.portDo_memWf (s : State) (q : Port) (c : PortCmd) (byAgent : Bool) : (s.portDo q c byAgent).memWf = s.memWf := by
  unfold State.portDo
  (repeat' split) <;> simp

@[simp] theorem State.putOut_memWf (s : State) (q : Port) (p : Packet) : (s.putOut q p).memWf = s.memWf := by simp [State.putOut]

@[simp] theorem State.sendOut_memWf (s : State) (t : Transit) (c : Credits) : (s.sendOut t c).memWf = s.memWf := by
  unfold State.sendOut
  split <;> simp

@[simp] theorem State.leave_memWf (s : State) (t : Transit) : (s.leave t).memWf = s.memWf := by
  unfold State.leave
  dsimp only
  split <;> simp

@[simp] theorem State.serveOut_memWf (s : State) (d : Die) (o : Egress) (n : Nat) : (s.serveOut d o n).memWf = s.memWf := by
  induction n generalizing s with
  | zero => rfl
  | succ n ih =>
    unfold State.serveOut
    split <;> simp [ih]

@[simp] theorem State.sendOnAs_memWf (s : State) (d : Die) (came : Came) (p pOut : Packet) (o : Egress) : (s.sendOnAs d came p pOut o).memWf = s.memWf := by
  unfold State.sendOnAs
  extract_lets ch
  split
  · simp
  rename_i p1 vc tel mark p2 t marked waits depth served _ _
  have htel (u : State) (f : PortTel → PortTel) : (tel u f).memWf = u.memWf := by
    unfold tel
    split <;> simp
  have hmarked : marked.memWf = s.memWf := by simp [marked, htel]
  have hwaits : waits.memWf = s.memWf := by simp [waits, hmarked]
  have hserved : served.memWf = s.memWf := by simp [served, depth, htel, hwaits]
  split_ifs
  · simp
  · exact hserved
  · split <;> simp [hserved]
  · split <;> simp [hserved]

@[simp] theorem State.sendOn_memWf (s : State) (d : Die) (came : Came) (p : Packet) (o : Egress) : (s.sendOn d came p o).memWf = s.memWf := by
  simp [State.sendOn]

@[simp] theorem State.pumpInside_memWf (s : State) (n : Nat) : (s.pumpInside n).memWf = s.memWf := by
  induction n generalizing s with
  | zero => rfl
  | succ n ih =>
    unfold State.pumpInside
    split <;> simp [ih]

@[simp] theorem State.routerArrive_memWf (s : State) (d : Die) (came : Came) (p : Packet) : (s.routerArrive d came p).memWf = s.memWf := by
  unfold State.routerArrive
  dsimp only
  split <;> simp

@[simp] theorem State.arriveDrop_memWf (s : State) (d : Die) (came : Came) (p : Packet) (c : Cause) : (s.arriveDrop d came p c).memWf = s.memWf := by
  simp [State.arriveDrop]

@[simp] theorem packetForward_memWf (d : Die) (came : Came) (p : Packet) (s : State) : (packetForward d came p s).memWf = s.memWf := by
  unfold packetForward
  split
  · rfl
  extract_lets arrived sent
  have hsent : sent.memWf = s.memWf := by
    unfold sent
    split
    · simp [arrived]
    split <;> simp [arrived]
  simp [hsent]

@[simp] theorem directedForward_memWf (d : Die) (came : Came) (p : Packet) (s : State) : (directedForward d came p s).memWf = s.memWf := by
  unfold directedForward
  split
  · rfl
  dsimp only
  split <;> simp

@[simp] theorem packetLifetimeExpire_memWf (n : Nat) (s : State) : (packetLifetimeExpire n s).memWf = s.memWf := by
  unfold packetLifetimeExpire
  split <;> simp

@[simp] theorem linkCredit_memWf (q : Port) (p : Packet) (s : State) : (linkCredit q p s).memWf = s.memWf := by
  unfold linkCredit
  dsimp only
  split
  · rfl
  split
  · simp
  split <;> simp

@[simp] theorem linkCreditSend_memWf (q : Port) (s : State) : (linkCreditSend q s).memWf = s.memWf := by simp [linkCreditSend]

end Sys2Proof.Machine
end

section
/-! The memory form under the management agents and the placement of partitions (10 R373–R405, 02). -/

namespace Sys2Proof.Machine

@[simp] theorem State.setSess_memWf (s : State) (k : PDie) (slot : Nat) (v : Option Session) : (s.setSess k slot v).memWf = s.memWf := by simp [State.setSess]

@[simp] theorem State.mgtSend_memWf (s : State) (k : PDie) (net : Bool) (p : Packet) : (s.mgtSend k net p).memWf = s.memWf := by simp [State.mgtSend]

@[simp] theorem State.mgtTakes_memWf (s : State) (m : MgtIn) : (s.mgtTakes m).1.memWf = s.memWf := by
  unfold State.mgtTakes
  dsimp only
  split
  · rfl
  split
  · simp
  split <;> simp

@[simp] theorem State.authRefuse_memWf (s : State) (m : MgtIn) (e : Nat) (st : Nat) : (s.authRefuse m e st).1.memWf = s.memWf := by simp [State.authRefuse]

theorem State.authRan_memWf (s : State) (m : MgtIn) (e : Nat) (put : State → Nat → Session → State) (x : Session) (slot ctr st : Nat) (data : List Byte)
    (hput : ∀ t n y, (put t n y).memWf = t.memWf) : (s.authRan m e put x slot ctr st data).1.memWf = s.memWf := hput _ _ _

theorem State.authUnder_memWf {b : Bool} {s : State} (m : MgtIn) (e : Nat) {put : State → Nat → Session → State} {count : State → Nat → State}
    {f : State → Session → State × Nat × List Byte} (x : Session) (slot ctr : Nat) (hput : ∀ t n y, (put t n y).memWf = t.memWf)
    (hcount : ∀ t n, (count t n).memWf = t.memWf) (hf : ∀ t y, t.memWf = b → (f t y).1.memWf = b) (h : s.memWf = b) :
    (s.authUnder m e put count f x slot ctr).1.memWf = b := by
  unfold State.authUnder
  split
  · simp [hcount, h]
  split <;> simp [State.authRan_memWf, hput, hcount, hf, h]

theorem State.authRun_memWf {b : Bool} {s : State} (m : MgtIn) (e : Nat) (sess : Nat → Option Session) {put : State → Nat → Session → State}
    {count : State → Nat → State} {f : State → Session → State × Nat × List Byte} (hput : ∀ t n y, (put t n y).memWf = t.memWf)
    (hcount : ∀ t n, (count t n).memWf = t.memWf) (hf : ∀ t y, t.memWf = b → (f t y).1.memWf = b) (h : s.memWf = b) :
    (s.authRun m e sess put count f).1.memWf = b := by
  unfold State.authRun
  split
  · simp [h]
  split
  · simp [h]
  split
  · simp [h]
  · exact State.authUnder_memWf _ _ _ _ _ hput hcount hf h

@[simp] theorem State.agentCount_memWf (s : State) (m : MgtIn) : (s.agentCount m).memWf = s.memWf := by simp [State.agentCount]

theorem State.agentServed_memWf {b : Bool} {s : State} (m : MgtIn) (openOp : Bool) {f : State → Session → State × Nat × List Byte} (x : Session)
    (hf : ∀ t y, t.memWf = b → (f t y).1.memWf = b) (h : s.memWf = b) : (s.agentServed m openOp f x).1.memWf = b := by
  unfold State.agentServed
  split
  · exact hf _ _ h
  · exact h

theorem State.agentAuth_memWf {b : Bool} {s : State} (m : MgtIn) (openOp : Bool) {f : State → Session → State × Nat × List Byte}
    (hf : ∀ t y, t.memWf = b → (f t y).1.memWf = b) (h : s.memWf = b) : (s.agentAuth m openOp f).memWf = b :=
  (State.mgtSend_memWf _ _ _ _).trans
    (State.authRun_memWf m 1 _ (fun _ _ _ => State.setAgent_memWf _ _ _) (fun _ _ => State.bump_memWf _ _ _ _)
      (fun _ y ht => State.agentServed_memWf m openOp y hf ht) h)

theorem State.agentPlain_memWf {b : Bool} {s : State} (m : MgtIn) (data openOp : Bool) {f : State → Session → State × Nat × List Byte}
    (hf : ∀ t y, t.memWf = b → (f t y).1.memWf = b) (h : s.memWf = b) : (s.agentPlain m data openOp f).memWf = b := by
  unfold State.agentPlain
  split
  · simp [h]
  · exact (State.mgtSend_memWf _ _ _ _).trans (State.agentServed_memWf m openOp _ hf h)

theorem State.agentOp_memWf {b : Bool} {s : State} (m : MgtIn) (op : BitVec 8) (authd data openOp : Bool) {f : State → Session → State × Nat × List Byte}
    (hf : ∀ t y, t.memWf = b → (f t y).1.memWf = b) (h : s.memWf = b) : (s.agentOp m op authd data openOp f).memWf = b := by
  unfold State.agentOp
  split
  next t ok heq =>
  have ht : t.memWf = b := by simp [State.memWf_of_pair heq, h]
  have hcount : (t.agentCount m).memWf = b := by simp [ht]
  split
  · exact ht
  split
  · exact State.agentAuth_memWf m openOp hf hcount
  · exact State.agentPlain_memWf m data openOp hf hcount

theorem State.agentOp_memWf_eq (s : State) (m : MgtIn) (op : BitVec 8) (authd data openOp : Bool) {f : State → Session → State × Nat × List Byte}
    (hf : ∀ t y, (f t y).1.memWf = t.memWf) : (s.agentOp m op authd data openOp f).memWf = s.memWf :=
  State.agentOp_memWf m op authd data openOp (fun t y ht => (hf t y).trans ht) rfl

@[simp] theorem identify_memWf (m : MgtIn) (s : State) : (identify m s).memWf = s.memWf := by
  refine State.agentOp_memWf_eq _ _ _ _ _ _ fun t y => ?_
  (repeat' split) <;> simp

@[simp] theorem portList_memWf (m : MgtIn) (s : State) : (portList m s).memWf = s.memWf := by
  refine State.agentOp_memWf_eq _ _ _ _ _ _ fun t y => ?_
  dsimp only
  (repeat' split) <;> simp

@[simp] theorem State.random256_memWf (s : State) : (s.random256).2.memWf = s.memWf := by simp [State.random256]

@[simp] theorem State.openAnswer_memWf (s : State) (em : BitVec 256) (ser : BitVec 128) : (s.openAnswer em ser).1.memWf = s.memWf := by
  simp [State.openAnswer]

@[simp] theorem sessionOpen_memWf (m : MgtIn) (s : State) : (sessionOpen m s).memWf = s.memWf := by
  refine State.agentOp_memWf_eq _ _ _ _ _ _ fun t y => ?_
  dsimp only
  (repeat' split) <;> simp

@[simp] theorem sessionClose_memWf (m : MgtIn) (s : State) : (sessionClose m s).memWf = s.memWf := by
  unfold sessionClose
  extract_lets t
  have ht : t.memWf = s.memWf := State.agentOp_memWf_eq _ _ _ _ _ _ fun t y => by split <;> rfl
  split
  · split <;> simp [ht]
  · exact ht

@[simp] theorem coordSet_memWf (m : MgtIn) (s : State) : (coordSet m s).memWf = s.memWf := by
  refine State.agentOp_memWf_eq _ _ _ _ _ _ fun t y => ?_
  dsimp only
  (repeat' split) <;> simp

@[simp] theorem portAttr_memWf (m : MgtIn) (s : State) : (portAttr m s).memWf = s.memWf := by
  refine State.agentOp_memWf_eq _ _ _ _ _ _ fun t y => ?_
  dsimp only
  (repeat' split) <;> simp

@[simp] theorem portCmd_memWf (c : PortCmd) (src : CmdSrc) (s : State) : (portCmd c src s).memWf = s.memWf := by
  unfold portCmd
  split
  · split <;> simp
  split
  · rfl
  refine State.agentOp_memWf_eq _ _ _ _ _ _ fun t y => ?_
  split
  · rfl
  split
  · rfl
  split
  · rfl
  split <;> simp

@[simp] theorem tableWrite_memWf (m : MgtIn) (s : State) : (tableWrite m s).memWf = s.memWf := by
  refine State.agentOp_memWf_eq _ _ _ _ _ _ fun t y => ?_
  dsimp only
  (repeat' split) <;> simp

@[simp] theorem tableCommit_memWf (m : MgtIn) (s : State) : (tableCommit m s).memWf = s.memWf := by
  refine State.agentOp_memWf_eq _ _ _ _ _ _ fun t y => ?_
  dsimp only
  (repeat' split) <;> simp

@[simp] theorem epochSet_memWf (m : MgtIn) (s : State) : (epochSet m s).memWf = s.memWf := by
  refine State.agentOp_memWf_eq _ _ _ _ _ _ fun t y => ?_
  dsimp only
  (repeat' split) <;> simp

@[simp] theorem inflightRead_memWf (m : MgtIn) (s : State) : (inflightRead m s).memWf = s.memWf := by
  refine State.agentOp_memWf_eq _ _ _ _ _ _ fun t y => ?_
  dsimp only
  (repeat' split) <;> simp

@[simp] theorem keyLoad_memWf (m : MgtIn) (blobOk : Bool) (s : State) : (keyLoad m blobOk s).memWf = s.memWf := by
  refine State.agentOp_memWf_eq _ _ _ _ _ _ fun t y => ?_
  dsimp only
  (repeat' split) <;> simp

@[simp] theorem keyClear_memWf (m : MgtIn) (s : State) : (keyClear m s).memWf = s.memWf := by
  refine State.agentOp_memWf_eq _ _ _ _ _ _ fun t y => ?_
  dsimp only
  (repeat' split) <;> simp

@[simp] theorem keySwitch_memWf (m : MgtIn) (s : State) : (keySwitch m s).memWf = s.memWf := by
  refine State.agentOp_memWf_eq _ _ _ _ _ _ fun t y => ?_
  dsimp only
  (repeat' split) <;> simp

@[simp] theorem teleRead_memWf (m : MgtIn) (s : State) : (teleRead m s).memWf = s.memWf := by
  refine State.agentOp_memWf_eq _ _ _ _ _ _ fun t y => ?_
  (repeat' split) <;> simp

@[simp] theorem teleClear_memWf (m : MgtIn) (s : State) : (teleClear m s).memWf = s.memWf := by
  refine State.agentOp_memWf_eq _ _ _ _ _ _ fun t y => ?_
  dsimp only
  (repeat' split) <;> simp

@[simp] theorem teleSample_memWf (q : Port) (s : State) : (teleSample q s).memWf = s.memWf := by simp [teleSample]

@[simp] theorem State.sendEvent_memWf (s : State) (k : PDie) : (s.sendEvent k).memWf = s.memWf := by
  unfold State.sendEvent
  dsimp only
  split
  · split
    · rfl
    · split <;> simp
  · rfl

@[simp] theorem State.flushEvents_memWf (s : State) : (s.flushEvents).memWf = s.memWf := by simp [State.flushEvents]

@[simp] theorem eventResend_memWf (k : PDie) (s : State) : (eventResend k s).memWf = s.memWf := by simp [eventResend]

@[simp] theorem State.eventAnswered_memWf (s : State) (k : PDie) : (s.eventAnswered k).memWf = s.memWf := by
  unfold State.eventAnswered
  dsimp only
  split <;> simp

@[simp] theorem eventAnswer_memWf (m : MgtIn) (s : State) : (eventAnswer m s).memWf = s.memWf := by
  unfold eventAnswer
  dsimp only
  split
  · simp
  split
  · simp
  split <;> simp

@[simp] theorem State.resetChan_memWf (s : State) (k : Nat) (host : Bool) (dev : Bool) : (s.resetChan k host dev).memWf = s.memWf := by simp [State.resetChan]

@[simp] theorem State.resetFn_memWf (s : State) (f : Fn) : (s.resetFn f).memWf = s.memWf := by simp [State.resetFn]

@[simp] theorem State.bar2Quiet_memWf (s : State) (f : Part → Bool) : (s.bar2Quiet f).memWf = s.memWf := by simp [State.bar2Quiet]

@[simp] theorem perstN_memWf (s : State) : (perstN s).memWf = s.memWf := by simp [perstN]

@[simp] theorem State.disarmAll_memWf (s : State) : (s.disarmAll).memWf = s.memWf := by simp [State.disarmAll]

@[simp] theorem State.showConf_memWf (s : State) : (s.showConf).memWf = s.memWf := by simp [State.showConf]

@[simp] theorem State.joinDie_memWf (s : State) (b : List Byte) (p : Part) (gateTo : Nat) (c : CDie) (h : s.memWf = true) :
    (s.joinDie b p gateTo c).memWf = true := by
  unfold State.joinDie
  split
  · extract_lets ranged zeroed carved placed base
    have hzeroed : zeroed.memWf = true := State.memZero_memWf _ _ _ _ (by simp [ranged, h])
    have hplaced : placed.memWf = true := by simp [placed, carved, hzeroed]
    simp [hplaced]
  · exact h

@[simp] theorem sliceJoin_memWf (b : List Byte) (s : State) (h : s.memWf = true) : (sliceJoin b s).1.memWf = true := by
  unfold sliceJoin
  split
  · extract_lets p
    split
    · exact h
    split
    next g t ht =>
    have htm : t.memWf = true := by simp [State.memWf_of_pair_right ht, h]
    extract_lets joined parted shown disarmed
    have hjoined : joined.memWf = true := foldl_memWf_true (fun u c hu => u.joinDie_memWf _ _ _ _ hu) _ _ htm
    have hdisarmed : disarmed.memWf = true := by simp [disarmed, shown, parted, hjoined]
    simp [hdisarmed]
  · exact h

@[simp] theorem State.showScrub_memWf (s : State) : (s.showScrub).memWf = s.memWf := by simp [State.showScrub]

@[simp] theorem sliceLeave_memWf (b : List Byte) (s : State) : (sliceLeave b s).1.memWf = s.memWf := by
  unfold sliceLeave
  (repeat' split) <;> simp

@[simp] theorem sliceStop_memWf (b : List Byte) (s : State) (h : s.memWf = true) : (sliceStop b s).1.memWf = true := by
  unfold sliceStop
  split
  · exact h
  split
  · exact h
  split
  · exact h
  extract_lets stopped rs flushed q swept
  have hflushed : flushed.memWf = true := foldl_memWf_true (fun t r ht => t.flushQueue_memWf r _ ht) _ _ (by simp [stopped, h])
  simp [swept, hflushed]

@[simp] theorem sliceQuery_memWf (s : State) : (sliceQuery s).1.memWf = s.memWf := by simp [sliceQuery]

@[simp] theorem readmitMc_memWf (s : State) : (readmitMc s).1.memWf = s.memWf := by
  unfold readmitMc
  split <;> simp

@[simp] theorem scrubStart_memWf (p : Part) (s : State) : (scrubStart p s).memWf = s.memWf := by simp [scrubStart]

@[simp] theorem State.freeRange_memWf (s : State) (c : CDie) (p : Part) (i : Nat) (h : s.memWf = true) : (s.freeRange c p i).memWf = true := by
  simp [State.freeRange, h]

@[simp] theorem State.scrubDie_memWf (s : State) (p : Part) (c : CDie) (h : s.memWf = true) : (s.scrubDie p c).memWf = true := by
  unfold State.scrubDie
  extract_lets freed al zeroed r cleared shown a gone
  have hfreed : freed.memWf = true := foldl_memWf_true (fun t i ht => t.freeRange_memWf _ _ _ ht) _ s h
  have hzeroed : zeroed.memWf = true := by simp [zeroed, hfreed]
  simp [shown, cleared, hzeroed]

@[simp] theorem State.scrub_memWf (s : State) (p : Part) (h : s.memWf = true) : (s.scrub p).memWf = true := by
  unfold State.scrub
  extract_lets scrubbed retired dropped emptied keyless x h2d d2h silent
  have hscrubbed : scrubbed.memWf = true := foldl_memWf_true (fun t c ht => t.scrubDie_memWf p c ht) _ s h
  simp [silent, keyless, emptied, dropped, retired, hscrubbed]

@[simp] theorem State.partCleared_memWf (s : State) (p : Part) : (s.partCleared p).memWf = s.memWf := by
  unfold State.partCleared
  split <;> simp

@[simp] theorem scrubComplete_memWf (p : Part) (s : State) (h : s.memWf = true) : (scrubComplete p s).memWf = true := by
  unfold scrubComplete
  (repeat' split) <;> simp [h]

@[simp] theorem State.settleRecord_memWf (s : State) (p : Page) : (s.settleRecord p).memWf = s.memWf := by simp [State.settleRecord]

@[simp] theorem quietExpire_memWf (q : QuietOf) (s : State) : (quietExpire q s).memWf = s.memWf := by
  unfold quietExpire
  split <;> simp

@[simp] theorem fltAck_memWf (p : Page) (v : Word) (s : State) : (fltAck p v s).memWf = s.memWf := by simp [fltAck]

@[simp] theorem State.placeDie_memWf (s : State) (p : Part) (base : Nat) (grans : List Nat) (c : CDie) : (s.placeDie p base grans c).memWf = s.memWf := by
  simp [State.placeDie]

@[simp] theorem State.zeroDie_memWf (s : State) (base : Nat) (n : Nat) (c : CDie) (h : s.memWf = true) : (s.zeroDie base n c).memWf = true := by
  simp [State.zeroDie, h]

@[simp] theorem State.unplace_memWf (s : State) (p : Part) (x : PartSt) (h : s.memWf = true) : (s.unplace p x).memWf = true :=
  foldl_memWf_true (fun t _ ht => foldl_memWf_true (fun u _ hu => u.freeRange_memWf _ _ _ hu) _ t ht) _ s h

@[simp] theorem State.openBoard_memWf (s : State) (pos : Nat) : (s.openBoard pos).memWf = s.memWf := by simp [State.openBoard]

@[simp] theorem State.tellBoard_memWf (s : State) (p : Part) (positions : Nat) (release : Bool) (base : Nat) (grans : List Nat) :
    (s.tellBoard p positions release base grans).memWf = s.memWf := by
  simp [State.tellBoard]

@[simp] theorem State.boardOrder_memWf (s : State) (r : BoardOrder) (h : s.memWf = true) : (s.boardOrder r).memWf = true := by
  unfold State.boardOrder
  extract_lets answer
  have hanswer (t : State) (ok : Bool) (ht : t.memWf = true) : (answer t ok).memWf = true := (t.emit_memWf _).trans ht
  split
  · exact h
  rename_i opened n _
  have hopened : opened.memWf = true := by simp [opened, h]
  clear_value answer opened
  split
  · exact hanswer _ _ hopened
  split
  · split
    · split
      · exact hanswer _ _ (by simp [hopened])
      · exact hanswer _ _ hopened
    · exact hanswer _ _ hopened
  extract_lets mine placed
  split
  · exact hanswer _ _ hopened
  · have hplaced : placed.memWf = true := foldl_memWf_true (fun t c ht => by simp [ht]) _ _ hopened
    exact hanswer _ _ (by simp [hplaced])

@[simp] theorem State.mdlPlace_memWf (s : State) (p : Part) (b : List Byte) (o : BoardMembers) (h : s.memWf = true) : (s.mdlPlace p b o).1.memWf = true := by
  unfold State.mdlPlace
  split
  · exact h
  extract_lets mode op board mine free freeB fl fb ml mb freeL freeBd
  split
  · exact h
  split
  · split
    · split
      · exact h
      · simp [h]
    · exact h
  split
  · exact h
  split
  · exact h
  rename_i m run grans offs pos zeroed _ _ _ _
  split
  · exact h
  · have hzeroed : zeroed.memWf = true := (State.tellBoard_memWf _ _ _ _ _ _).trans (foldl_memWf_true (fun t c ht => by simp [ht]) _ s h)
    simp [hzeroed]

end Sys2Proof.Machine
end

section
/-! The memory form under bring-up, resets and time (15 R560–R572, 17 R618–R641). -/

namespace Sys2Proof.Machine

@[simp] theorem State.cold_memWf (s : State) : s.cold.memWf = true := rfl

@[simp] theorem State.blkReady_memWf (s : State) (p : Page) : (s.blkReady p).memWf = s.memWf := by simp [State.blkReady]

@[simp] theorem State.holdPlan_memWf (s : State) (b : List Byte) : (s.holdPlan b).memWf = s.memWf := by simp [State.holdPlan]

@[simp] theorem State.showChannels_memWf (s : State) : (s.showChannels).memWf = s.memWf := by simp [State.showChannels]

@[simp] theorem State.showFunctions_memWf (s : State) : (s.showFunctions).memWf = s.memWf := by simp [State.showFunctions]

@[simp] theorem State.dropRails_memWf (s : State) : s.dropRails.memWf = s.memWf := foldl_keeps (fun t _ => t.emit_memWf _) _ s

@[simp] theorem State.halt_memWf (s : State) : (s.halt).memWf = s.memWf := by simp [State.halt]

@[simp] theorem State.enableRail_memWf (s : State) : (s.enableRail).memWf = s.memWf := by
  unfold State.enableRail
  split <;> simp

@[simp] theorem State.refclkUp_memWf (s : State) : (s.refclkUp).memWf = s.memWf := by simp [State.refclkUp]

@[simp] theorem State.checkImage_memWf (s : State) (f : BootFind) : (s.checkImage f).memWf = s.memWf := State.memWf_blind.checkImage s f

@[simp] theorem State.bringUp_memWf (s : State) (f : BootFind) : (s.bringUp f).memWf = s.memWf := State.memWf_blind.bringUp.trans rfl

@[simp] theorem refclkPresent_memWf (s : State) : (refclkPresent s).memWf = s.memWf := by simp [refclkPresent]

@[simp] theorem State.nextRail_memWf (s : State) : (s.nextRail).memWf = s.memWf := by simp [State.nextRail]

@[simp] theorem railPowerGood_memWf (s : State) : (railPowerGood s).memWf = s.memWf := by simp [railPowerGood]

@[simp] theorem State.loseRail_memWf (s : State) (r : Rail) : (s.loseRail r).memWf = s.memWf := by
  unfold State.loseRail
  split <;> simp

@[simp] theorem railPgTimeout_memWf (s : State) : (railPgTimeout s).memWf = s.memWf := by
  unfold railPgTimeout
  (repeat' split) <;> simp

@[simp] theorem State.ringEntries_memWf (s : State) (c : CDie) : (s.ringEntries c).memWf = s.memWf := by simp [State.ringEntries]

@[simp] theorem State.linkUp_memWf (s : State) (p : Page) : (s.linkUp p).memWf = s.memWf := by simp [State.linkUp]

@[simp] theorem State.arrayTest_memWf (s : State) (t : SelfTest) (c : CDie) : (s.arrayTest t c).memWf = s.memWf := by simp [State.arrayTest]

@[simp] theorem State.dieUp_memWf (s : State) (t : SelfTest) (d : Die) : (s.dieUp t d).memWf = s.memWf := by
  unfold State.dieUp
  split
  · rfl
  extract_lets locked ready ring links repaired failed
  have hring : ring.memWf = s.memWf := by
    unfold ring
    split <;> simp [ready, locked]
  have hfailed : failed.memWf = s.memWf := by simp [failed, repaired, links, hring]
  split
  · split
    · exact hfailed
    split <;> simp [hfailed]
  next k agents ports opts _ _ =>
    have hopts : opts.memWf = s.memWf := by simp [opts, ports, agents, hfailed]
    split
    · exact hopts
    split <;> simp [hopts]

@[simp] theorem State.startStacks_memWf (s : State) (c : CDie) : (s.startStacks c).memWf = s.memWf := by simp [State.startStacks]

@[simp] theorem State.settleRounds_memWf (s : State) (n : Nat) : (s.settleRounds n).memWf = s.memWf := by
  induction n generalizing s with
  | zero => rfl
  | succ n ih =>
    unfold State.settleRounds
    dsimp only
    split
    · split
      · exact ih _
      · rfl
    · rfl

@[simp] theorem bringupBranchesStart_memWf (t : SelfTest) (s : State) : (bringupBranchesStart t s).memWf = s.memWf := by
  unfold bringupBranchesStart
  split
  · rfl
  extract_lets boot started up ports trained
  have hstarted : started.memWf = s.memWf := rfl
  clear_value started
  have hup : up.memWf = s.memWf := (foldl_memWf (fun u d => u.dieUp_memWf t d) _ _).trans hstarted
  clear_value up
  split
  · exact hup
  · simp [trained, ports, hup]

@[simp] theorem State.memoryUp_memWf (s : State) (c : CDie) (h : s.memWf = true) : (s.memoryUp c).memWf = true := by
  unfold State.memoryUp
  dsimp only
  (repeat' split) <;> simp [h]

@[simp] theorem State.startRound_memWf (s : State) : (s.startRound).memWf = s.memWf := by simp [State.startRound]

@[simp] theorem State.stackOver_memWf (s : State) (c : CDie) (h : s.memWf = true) : (s.stackOver c).memWf = true := by simp [State.stackOver, h]

@[simp] theorem State.bringupRemap_memWf (s : State) (c : CDie) (k : Fin 3) (rows : List (Fin 12 × BitVec 22)) :
    (s.bringupRemap c k rows).1.memWf = s.memWf := by
  unfold State.bringupRemap
  dsimp only
  split <;> simp

@[simp] theorem stackTrainingDone_memWf (c : CDie) (k : Fin 3) (pass : Bool) (fixed : List (Fin 12 × BitVec 22)) (s : State) (h : s.memWf = true) :
    (stackTrainingDone c k pass fixed s).memWf = true := by
  simp [stackTrainingDone, h]

@[simp] theorem stackTestDone_memWf (c : CDie) (k : Fin 3) (pass : Bool) (rows : List (Fin 12 × BitVec 22)) (s : State) (h : s.memWf = true) :
    (stackTestDone c k pass rows s).memWf = true := by
  simp [stackTestDone, h]

@[simp] theorem State.boardSessions_memWf (s : State) : (s.boardSessions).memWf = s.memWf := by simp [State.boardSessions]

@[simp] theorem boardPresConfirm_memWf (s : State) : (boardPresConfirm s).memWf = s.memWf := by simp [boardPresConfirm]

@[simp] theorem State.newChallenge_memWf (s : State) : (s.newChallenge).memWf = s.memWf := by simp [State.newChallenge]

@[simp] theorem State.relockDebug_memWf (s : State) : (s.relockDebug).memWf = s.memWf := by simp [State.relockDebug]

@[simp] theorem State.mgmtReset_memWf (s : State) (cause : Nat) : (s.mgmtReset cause).memWf = s.memWf := by
  unfold State.mgmtReset
  dsimp only
  split <;> simp

@[simp] theorem rstCtrlMgmt_memWf (s : State) : (rstCtrlMgmt s).memWf = s.memWf := by simp [rstCtrlMgmt]

@[simp] theorem mgmtResetDone_memWf (s : State) : (mgmtResetDone s).memWf = s.memWf := by simp [mgmtResetDone]

@[simp] theorem State.deviceReset_memWf (s : State) (f : BootFind) (cause : Nat) : (s.deviceReset f cause).memWf = true := by simp [State.deviceReset]

@[simp] theorem resetN_memWf (f : BootFind) (s : State) (h : s.memWf = true) : (resetN f s).memWf = true := by simp [resetN, h]

@[simp] theorem rstCtrlDevice_memWf (v : Word) (f : BootFind) (s : State) (h : s.memWf = true) : (rstCtrlDevice v f s).memWf = true := by
  simp [rstCtrlDevice, h]

@[simp] theorem mgmtPowerOn_memWf (b : Bool) (other : Bool) (f : BootFind) (s : State) (h : s.memWf = true) : (mgmtPowerOn b other f s).memWf = true := by
  simp [mgmtPowerOn, h]

@[simp] theorem State.clearRegs_memWf (s : State) (f : Page → Nat → Bool) : (s.clearRegs f).memWf = s.memWf := by simp [State.clearRegs]

@[simp] theorem State.dropDie_memWf (s : State) (d : Die) : (s.dropDie d).memWf = s.memWf := by simp [State.dropDie]

@[simp] theorem State.clearCompute_memWf (s : State) (c : CDie) (h : s.memWf = true) : (s.clearCompute c).memWf = true := by simp [State.clearCompute, h]

@[simp] theorem State.clearFabric_memWf (s : State) (k : PDie) (f : Page → Nat → Bool) : (s.clearFabric k f).memWf = s.memWf := by simp [State.clearFabric]

@[simp] theorem State.clearPd0_memWf (s : State) (h : s.memWf = true) : s.clearPd0.memWf = true := by
  unfold State.clearPd0
  extract_lets chans parts cleared known
  have hparts : parts.memWf = true := by
    refine foldl_memWf_true (fun t p ht => ?_) _ _ (by simp [chans, h])
    split <;> simp [ht]
  simp [known, cleared, hparts]

@[simp] theorem State.clearPortDie_memWf (s : State) (k : PDie) (h : s.memWf = true) : (s.clearPortDie k).memWf = true := by simp [State.clearPortDie, h]

@[simp] theorem State.beginCoreReset_memWf (s : State) (d : Die) (h : s.memWf = true) : (s.beginCoreReset d).memWf = true := by
  unfold State.beginCoreReset
  (repeat' split) <;> simp [h]

@[simp] theorem rstCtrlCore_memWf (mask : BitVec 10) (s : State) (h : s.memWf = true) : (rstCtrlCore mask s).memWf = true :=
  foldl_memWf_true (fun t d ht => t.beginCoreReset_memWf d ht) _ s h

@[simp] theorem State.endReset_memWf (s : State) (d : Die) : (s.endReset d).memWf = s.memWf := by simp [State.endReset]

@[simp] theorem State.alignDie_memWf (s : State) (d : Die) : (s.alignDie d).memWf = s.memWf := by simp [State.alignDie]

@[simp] theorem State.finishCoreReset_memWf (s : State) (t : SelfTest) (d : Die) : (s.finishCoreReset t d).memWf = s.memWf := by
  unfold State.finishCoreReset
  split
  · rfl
  dsimp only
  split
  · split <;> simp
  · simp

@[simp] theorem coreResetDone_memWf (t : SelfTest) (d : Die) (s : State) : (coreResetDone t d s).memWf = s.memWf := by simp [coreResetDone]

@[simp] theorem coreResetFail_memWf (d : Die) (s : State) : (coreResetFail d s).memWf = s.memWf := by simp [coreResetFail]

@[simp] theorem coreResetMemoryReady_memWf (c : CDie) (s : State) (h : s.memWf = true) : (coreResetMemoryReady c s).memWf = true := by
  simp [coreResetMemoryReady, h]

@[simp] theorem State.recover_memWf (s : State) (recent : List (BitVec 64)) (h : s.memWf = true) : (s.recover recent).memWf = true := by
  unfold State.recover
  extract_lets now dead noted shown reset
  have hreset : reset.memWf = true :=
    (State.clearFabric_memWf _ _ _).trans (foldl_memWf_true (fun t d ht => t.beginCoreReset_memWf d ht) _ _ (by simp [shown, noted, h]))
  split <;> simp [hreset]

@[simp] theorem recoveryStart_memWf (active : Bool) (s : State) (h : s.memWf = true) : (recoveryStart active s).memWf = true := by simp [recoveryStart, h]

@[simp] theorem State.clearRecords_memWf (s : State) : (s.clearRecords).memWf = s.memWf := by simp [State.clearRecords]

@[simp] theorem State.clearAllParts_memWf (s : State) (h : s.memWf = true) : s.clearAllParts.memWf = true := by
  unfold State.clearAllParts
  extract_lets cleared
  have hcleared : cleared.memWf = true := by
    refine foldl_memWf_true (fun t p ht => ?_) _ s h
    simp [ht]
  simp [hcleared]

@[simp] theorem State.recovered_memWf (s : State) (t : SelfTest) (h : s.memWf = true) : (s.recovered t).memWf = true := by simp [State.recovered, h]

@[simp] theorem recoveryComplete_memWf (t : SelfTest) (s : State) (h : s.memWf = true) : (recoveryComplete t s).memWf = true := by simp [recoveryComplete, h]

@[simp] theorem watchdogExpire_memWf (s : State) : (watchdogExpire s).memWf = s.memWf := by simp [watchdogExpire]

@[simp] theorem watchdogKick_memWf (v : Word) (s : State) : (watchdogKick v s).memWf = s.memWf := by simp [watchdogKick]

@[simp] theorem logPop_memWf (v : Word) (s : State) : (logPop v s).memWf = s.memWf := by simp [logPop]

@[simp] theorem injCtrlWrite_memWf (p : Page) (v : Word) (s : State) : (injCtrlWrite p v s).memWf = s.memWf := by simp [injCtrlWrite]

@[simp] theorem refclkLoss_memWf (s : State) : (refclkLoss s).memWf = s.memWf := by simp [refclkLoss]

@[simp] theorem refclkReturn_memWf (s : State) : (refclkReturn s).memWf = s.memWf := by simp [refclkReturn]

@[simp] theorem holdoverExpired_memWf (s : State) : (holdoverExpired s).memWf = s.memWf := by simp [holdoverExpired]

@[simp] theorem pllUnlock_memWf (d : Die) (s : State) : (pllUnlock d s).memWf = s.memWf := by simp [pllUnlock]

@[simp] theorem eventLineCross_memWf (p : Page) (j : Fin 32) (early : Bool) (s : State) : (eventLineCross p j early s).memWf = s.memWf := by
  simp [eventLineCross]

@[simp] theorem evtCountTake_memWf (p : Page) (v : Word) (s : State) : (evtCountTake p v s).memWf = s.memWf := by simp [evtCountTake]

@[simp] theorem blkCtrlWrite_memWf (p : Page) (v : Word) (s : State) : (blkCtrlWrite p v s).memWf = s.memWf := by simp [blkCtrlWrite]

@[simp] theorem gtimeDieAlign_memWf (d : Die) (s : State) : (gtimeDieAlign d s).memWf = s.memWf := by simp [gtimeDieAlign]

@[simp] theorem State.showSlew_memWf (s : State) : (s.showSlew).memWf = s.memWf := by simp [State.showSlew]

@[simp] theorem State.addTime_memWf (s : State) (n : Nat) : (s.addTime n).memWf = s.memWf := by
  simp [State.addTime]

@[simp] theorem gtimeSlewDone_memWf (s : State) : (gtimeSlewDone s).memWf = s.memWf := by simp [gtimeSlewDone]

@[simp] theorem State.regen_memWf (s : State) (code : Nat) (body : List Byte) : (s.regen code body).memWf = s.memWf := by simp [State.regen]

@[simp] theorem markerEmit_memWf (delay : BitVec 32) (s : State) : (markerEmit delay s).memWf = s.memWf := by simp [markerEmit]

@[simp] theorem State.correct_memWf (s : State) (off : ℤ) : (s.correct off).memWf = s.memWf := by simp [State.correct]

@[simp] theorem marker_memWf (t : BitVec 64) (d : BitVec 32) (cw : Nat) (ccw : Nat) (crcOk : Bool) (s : State) :
    (marker t d cw ccw crcOk s).memWf = s.memWf := by
  simp [marker]

@[simp] theorem stopFrame_memWf (crcOk : Bool) (s : State) : (stopFrame crcOk s).memWf = s.memWf := by simp [stopFrame]

@[simp] theorem State.announce_memWf (s : State) : (s.announce).memWf = s.memWf := by simp [State.announce]

@[simp] theorem State.woken_memWf (s : State) (mask : BitVec 64) : (s.woken mask).memWf = s.memWf := by simp [State.woken]

@[simp] theorem wakeFrame_memWf (mask : BitVec 64) (crcOk : Bool) (s : State) : (wakeFrame mask crcOk s).memWf = s.memWf := by simp [wakeFrame]

@[simp] theorem markerLost_memWf (s : State) : (markerLost s).memWf = s.memWf := by simp [markerLost]

@[simp] theorem timSetMaster_memWf (b : List Byte) (s : State) : (timSetMaster b s).1.memWf = s.memWf := by
  unfold timSetMaster
  split <;> simp

@[simp] theorem timReadXfer_memWf (b : List Byte) (s : State) : (timReadXfer b s).1.memWf = s.memWf := by
  unfold timReadXfer
  dsimp only
  split <;> simp

@[simp] theorem timAdj_memWf (b : List Byte) (s : State) : (timAdj b s).1.memWf = s.memWf := by
  unfold timAdj
  split <;> simp

@[simp] theorem timStop_memWf (b : List Byte) (s : State) : (timStop b s).1.memWf = s.memWf := by
  unfold timStop
  split <;> simp

@[simp] theorem timWake_memWf (b : List Byte) (s : State) : (timWake b s).1.memWf = s.memWf := by
  unfold timWake
  split <;> simp

@[simp] theorem timCmd_memWf (b : List Byte) (s : State) : (timCmd b s).1.memWf = s.memWf := by
  unfold timCmd
  split <;> simp

end Sys2Proof.Machine
end

section
/-! The memory form under power, security, messages and distributions (12, 14, 16 R599–R606, 15 R578–R584). -/

namespace Sys2Proof.Machine

@[simp] theorem State.estimate_memWf (s : State) (d : Die) (raw : Nat) : (s.estimate d raw).memWf = s.memWf := by simp [State.estimate]

@[simp] theorem powerEstimate_memWf (raw : List (BitVec 16)) (uncore : BitVec 16) (s : State) : (powerEstimate raw uncore s).memWf = s.memWf := by
  simp [powerEstimate]

@[simp] theorem powerMeasure_memWf (iout : List (BitVec 16)) (bad : BitVec 6) (temps : List (BitVec 8)) (s : State) :
    (powerMeasure iout bad temps s).memWf = s.memWf := by
  simp [powerMeasure]

@[simp] theorem State.calibrate_memWf (s : State) (pg : Page) (ix : Nat) : (s.calibrate pg ix).memWf = s.memWf := by simp [State.calibrate]

@[simp] theorem State.shareCap_memWf (s : State) : (s.shareCap).memWf = s.memWf := by simp [State.shareCap]

@[simp] theorem calibration_memWf (s : State) : (calibration s).memWf = s.memWf := by simp [calibration]

@[simp] theorem pkgCapCompare_memWf (s : State) : (pkgCapCompare s).memWf = s.memWf := by
  unfold pkgCapCompare
  extract_lets tot cap past status shown
  simp [shown, status]

@[simp] theorem State.setDuty_memWf (s : State) (c : CDie) (n : Nat) : (s.setDuty c n).memWf = s.memWf := by simp [State.setDuty]

@[simp] theorem State.aclkTo_memWf (s : State) (c : CDie) (k : Nat) : (s.aclkTo c k).memWf = s.memWf := by simp [State.aclkTo]

@[simp] theorem State.aclkDue_memWf (s : State) (c : CDie) (k : Nat) : (s.aclkDue c k).memWf = s.memWf := by simp [State.aclkDue]

@[simp] theorem State.stepDown_memWf (s : State) (c : CDie) (k : Nat) : (s.stepDown c k).memWf = s.memWf := by simp [State.stepDown]

@[simp] theorem State.stepUp_memWf (s : State) (c : CDie) (k : Nat) : (s.stepUp c k).memWf = s.memWf := by simp [State.stepUp]

@[simp] theorem State.losePlateau_memWf (s : State) (c : CDie) (cause : Nat) : (s.losePlateau c cause).memWf = s.memWf := by simp [State.losePlateau]

@[simp] theorem State.showFloor_memWf (s : State) (c : CDie) : (s.showFloor c).memWf = s.memWf := by simp [State.showFloor]

@[simp] theorem State.cappedPeriod_memWf (s : State) (c : CDie) (i : LoopIn) : (s.cappedPeriod c i).memWf = s.memWf := by simp [State.cappedPeriod]

@[simp] theorem State.plateauPeriod_memWf (s : State) (c : CDie) (i : LoopIn) : (s.plateauPeriod c i).memWf = s.memWf := by simp [State.plateauPeriod]

@[simp] theorem limitLoop_memWf (c : CDie) (t : BitVec 8) (stretched : Bool) (s : State) : (limitLoop c t stretched s).memWf = s.memWf := by simp [limitLoop]

@[simp] theorem voltageSettled_memWf (c : CDie) (s : State) : (voltageSettled c s).memWf = s.memWf := by
  unfold voltageSettled
  split
  · rfl
  split <;> simp

@[simp] theorem avsRetry_memWf (c : CDie) (s : State) : (avsRetry c s).memWf = s.memWf := by simp [avsRetry]

@[simp] theorem droopTrip_memWf (c : CDie) (det : Fin 8) (s : State) : (droopTrip c det s).memWf = s.memWf := by simp [droopTrip]

@[simp] theorem droopRelease_memWf (c : CDie) (s : State) : (droopRelease c s).memWf = s.memWf := by simp [droopRelease]

@[simp] theorem deferralEnd_memWf (c : CDie) (s : State) : (deferralEnd c s).memWf = s.memWf := by
  unfold deferralEnd
  dsimp only
  split
  · rfl
  split <;> simp

@[simp] theorem droopLong_memWf (c : CDie) (s : State) : (droopLong c s).memWf = s.memWf := by simp [droopLong]

@[simp] theorem pdOver_memWf (k : PDie) (s : State) : (pdOver k s).memWf = s.memWf := by simp [pdOver]

@[simp] theorem capUnattainable_memWf (c : Option CDie) (s : State) : (capUnattainable c s).memWf = s.memWf := by
  unfold capUnattainable
  split <;> simp

@[simp] theorem thermalTrip_memWf (d : Die) (s : State) : (thermalTrip d s).memWf = s.memWf := by simp [thermalTrip]

@[simp] theorem engineTemp_memWf (j : OptPort) (t : BitVec 8) (s : State) : (engineTemp j t s).memWf = s.memWf := by simp [engineTemp]

@[simp] theorem State.clampSteps_memWf (s : State) (c : CDie) : (s.clampSteps c).memWf = s.memWf := by simp [State.clampSteps]

@[simp] theorem State.setCap_memWf (s : State) (w : Nat) : (s.setCap w).memWf = s.memWf := by simp [State.setCap]

@[simp] theorem State.clampCap_memWf (s : State) : (s.clampCap).memWf = s.memWf := by simp [State.clampCap]

@[simp] theorem State.clearPd_memWf (s : State) (p : Page) : (s.clearPd p).memWf = s.memWf := by simp [State.clearPd]

@[simp] theorem pwrSet_memWf (b : List Byte) (s : State) : (pwrSet b s).1.memWf = s.memWf := by
  unfold pwrSet
  dsimp only
  split <;> simp

@[simp] theorem wsRead_memWf (b : List Byte) (s : State) : (wsRead b s).1.memWf = s.memWf := by
  unfold wsRead
  split <;> simp

@[simp] theorem mgmtSupplySwitchover_memWf (s : State) : (mgmtSupplySwitchover s).memWf = s.memWf := by simp [mgmtSupplySwitchover]

@[simp] theorem vmgInputWindowChange_memWf (inWindow : Bool) (s : State) : (vmgInputWindowChange inWindow s).memWf = s.memWf := by simp [vmgInputWindowChange]

@[simp] theorem mgmtSupplyLoss_memWf (s : State) : (mgmtSupplyLoss s).memWf = true := by simp [mgmtSupplyLoss]

@[simp] theorem railLost_memWf (r : Rail) (s : State) : (railLost r s).memWf = s.memWf := by simp [railLost]

@[simp] theorem State.showWkey_memWf (s : State) (p : Part) : (s.showWkey p).memWf = s.memWf := by simp [State.showWkey]

@[simp] theorem State.wkeyImport_memWf (s : State) (p : Part) (devset b : List Byte) (keys : List (BitVec 128 × BitVec 256)) :
    (s.wkeyImport p devset b keys).1.memWf = s.memWf := by
  unfold State.wkeyImport
  dsimp only
  split
  · rfl
  split
  · rfl
  split
  · simp
  split <;> simp

@[simp] theorem State.wkeyRetire_memWf (s : State) (p : Part) (e : BitVec 16) : (s.wkeyRetire p e).1.memWf = s.memWf := by
  unfold State.wkeyRetire
  (repeat' split) <;> simp

@[simp] theorem State.importPage_memWf (s : State) (c : CDie) (p : Part) (src : Nat) (dst : Nat) (o : Obs) (h : s.memWf = true) :
    (s.importPage c p src dst o).1.memWf = true := by
  unfold State.importPage
  dsimp only
  (repeat' split) <;> simp [h]

@[simp] theorem State.importPages_memWf (s : State) (c : CDie) (p : Part) (src dst : Nat) (o : Obs) (n done : Nat) (h : s.memWf = true) :
    (s.importPages c p src dst o n done).1.memWf = true := by
  induction n generalizing s done with
  | zero => exact h
  | succ n ih =>
    have hpage := s.importPage_memWf c p (src + 65600 * done) (dst + 65536 * done) o h
    unfold State.importPages
    split
    next t ht => exact ih _ _ (by rw [State.memWf_of_pair ht, hpage])
    next t st _ ht => exact (State.memWf_of_pair ht).trans hpage

@[simp] theorem State.wimport_memWf (s : State) (p : Part) (x : PartSt) (c : CDie) (n : Nat) (src : Nat) (dst : Nat) (o : Obs) (h : s.memWf = true) :
    (s.wimport p x c n src dst o).1.memWf = true := by
  unfold State.wimport
  split <;> simp [h]

@[simp] theorem State.dbgToken_memWf (s : State) (b : List Byte) (opSig : Bool) (tokenSigs : Bool) : (s.dbgToken b opSig tokenSigs).1.memWf = s.memWf := by
  unfold State.dbgToken
  split <;> simp

@[simp] theorem secDbgNew_memWf (s : State) : (secDbgNew s).memWf = s.memWf := by simp [secDbgNew]

@[simp] theorem secDbgLock_memWf (s : State) : (secDbgLock s).memWf = s.memWf := by simp [secDbgLock]

@[simp] theorem State.measurement_memWf (s : State) (ix : Nat) : (s.measurement ix).1.memWf = s.memWf := by
  unfold State.measurement
  extract_lets dg
  have hdg (v : BitVec 512) : (dg v).1 = s := rfl
  clear_value dg
  split <;> simp [hdg]

@[simp] theorem State.measurements_memWf (s : State) (l : List Nat) : (s.measurements l).1.memWf = s.memWf := by
  induction l generalizing s with
  | nil => rfl
  | cons i r ih => exact (ih _).trans (s.measurement_memWf i)

@[simp] theorem State.getMeasurements_memWf (s : State) (ix : BitVec 8) (nonce : BitVec 256) (signed : Bool) :
    (s.getMeasurements ix nonce signed).1.memWf = s.memWf := by
  have hgo (l : List Nat) : (if signed then (s.measurements l).1.freeBytes 64 else ([], (s.measurements l).1)).2.memWf = s.memWf := by
    split <;> simp
  unfold State.getMeasurements
  dsimp only
  split
  · exact hgo _
  split
  · exact hgo _
  split
  · exact hgo _
  · rfl

@[simp] theorem State.spdm_memWf (s : State) (r : SpdmReq) : (s.spdm r).1.memWf = s.memWf := by
  cases r with
  | version | capabilities | algorithms | other => rfl
  | digests | certificate | challenge =>
    unfold State.spdm
    dsimp only
    split <;> simp
  | measurements ix n g => exact s.getMeasurements_memWf ix n g

@[simp] theorem State.vfMessage_memWf (s : State) (p : Part) (b : List Byte) (env : MsgEnv) (h : s.memWf = true) : (s.vfMessage p b env).1.memWf = true := by
  unfold State.vfMessage
  extract_lets body
  split
  · exact h
  next _ m _ x _ =>
  split
  · exact h
  split
  · split <;> exact h
  · have hplace := s.mdlPlace_memWf p body env.board h
    split
    · next t r ht => exact (State.memWf_of_pair ht).trans hplace
    · next t ht => exact (State.memWf_of_pair ht).trans hplace
  · split
    · exact h
    split
    · exact h
    split
    · exact h
    split
    · next t bundle ht =>
      have htm : t.memWf = true := by simp [State.memWf_of_pair ht, h]
      split
      · exact htm
      · simp [htm]
    · next t _ _ _ ht => simp [State.memWf_of_pair ht, h]
  · split
    · split
      · exact h
      split
      · exact h
      next hb _ _ =>
      have himport := s.wimport_memWf p x ⟨imgNat body 0 1, hb.2⟩ m (imgNat body 8 8) (imgNat body 16 8) env.obs h
      split
      next t r done ht =>
      have htm : t.memWf = true := (State.memWf_of_pair ht).trans himport
      split
      next free u hu =>
      rw [State.memWf_of_pair_right hu]
      split <;> simp [htm]
    · exact h
  · split
    · exact h
    · simp [h]

@[simp] theorem State.rcvMessage_memWf (s : State) (b : List Byte) (env : MsgEnv) : (s.rcvMessage b env).1.memWf = s.memWf := by
  unfold State.rcvMessage
  dsimp only
  split
  · split <;> simp
  · split
    · rfl
    split <;> simp
  · split
    · rfl
    split <;> simp

@[simp] theorem State.message_memWf (s : State) (v : Via) (b : List Byte) (env : MsgEnv) (h : s.memWf = true) : (s.message v b env).1.memWf = true := by
  unfold State.message
  dsimp only
  (repeat' split) <;> simp [h]

@[simp] theorem State.respond_memWf (s : State) (v : Via) (b : List Byte) (st : Nat) (body : List Byte) : (s.respond v b st body).memWf = s.memWf := by
  unfold State.respond
  split <;> simp

@[simp] theorem State.handle_memWf (s : State) (v : Via) (b : List Byte) (env : MsgEnv) (h : s.memWf = true) : (s.handle v b env).memWf = true := by
  simp [State.handle, h]

@[simp] theorem State.hostIrq_memWf (s : State) (k : Fin 100) (bit : Nat) : (s.hostIrq k bit).memWf = s.memWf := by
  unfold State.hostIrq
  split <;> simp

@[simp] theorem State.chanEvent_memWf (s : State) (k : Fin 100) (line : Nat) : (s.chanEvent k line).memWf = s.memWf := by
  unfold State.chanEvent
  split <;> simp

@[simp] theorem mbxH2dSend_memWf (k : Fin 100) (s : State) : (mbxH2dSend k s).memWf = s.memWf := by simp [mbxH2dSend]

@[simp] theorem mbxH2dDone_memWf (host : Bool) (k : Fin 100) (env : MsgEnv) (s : State) (h : s.memWf = true) : (mbxH2dDone host k env s).memWf = true := by
  simp [mbxH2dDone, h]

@[simp] theorem State.postD2h_memWf (s : State) (k : Fin 100) : (s.postD2h k).1.memWf = s.memWf := by simp [State.postD2h]

@[simp] theorem mbxD2hSend_memWf (k : Fin 100) (s : State) : (mbxD2hSend k s).memWf = s.memWf := by
  unfold mbxD2hSend
  split
  · rfl
  dsimp only
  split
  · rfl
  split <;> simp

@[simp] theorem State.takeD2h_memWf (s : State) (k : Fin 100) : (s.takeD2h k).1.memWf = s.memWf := by simp [State.takeD2h]

@[simp] theorem mbxD2hDone_memWf (k : Fin 100) (s : State) : (mbxD2hDone k s).memWf = s.memWf := by simp [mbxD2hDone]

@[simp] theorem msgRow_memWf (t : Nat) (v : Via) (b : List Byte) (env : MsgEnv) (s : State) (h : s.memWf = true) : (msgRow t v b env s).memWf = true := by
  unfold msgRow
  split <;> simp [h]

@[simp] theorem State.distCheck_memWf (s : State) : (s.distCheck).memWf = s.memWf := by
  unfold State.distCheck
  split <;> simp

@[simp] theorem distOpen_memWf (b : List Byte) (s : State) : (distOpen b s).1.memWf = s.memWf := by
  unfold distOpen
  extract_lets s1 t len id fresh
  have hs : s1.memWf = s.memWf := s.distCheck_memWf
  have hfresh : fresh.1.memWf = s.memWf := by
    unfold fresh
    split <;> simp [hs]
  split
  · exact hs
  split
  · split
    · exact hs
    split
    · exact hs
    · exact hfresh
  · exact hfresh

@[simp] theorem distData_memWf (b : List Byte) (s : State) (h : s.memWf = true) : (distData b s).1.memWf = true := by
  unfold distData
  dsimp only
  (repeat' split) <;> simp [h]

@[simp] theorem distStatus_memWf (b : List Byte) (s : State) : (distStatus b s).1.memWf = s.memWf := by
  unfold distStatus
  dsimp only
  split
  · simp
  split <;> simp

@[simp] theorem distVerifyDone_memWf (f : DistFind) (s : State) : (distVerifyDone f s).memWf = s.memWf := by
  unfold distVerifyDone
  dsimp only
  split <;> simp

@[simp] theorem distActivate_memWf (b : List Byte) (s : State) : (distActivate b s).1.memWf = s.memWf := by
  unfold distActivate
  (repeat' split) <;> simp

@[simp] theorem distAbort_memWf (b : List Byte) (s : State) : (distAbort b s).1.memWf = s.memWf := by
  unfold distAbort
  (repeat' split) <;> simp

end Sys2Proof.Machine
end

section
/-! The memory form under the Summit role and its manager (11 R413–R447). -/

namespace Sys2Proof.Machine

@[simp] theorem State.setDisc_memWf (s : State) (v : Nat) : (s.setDisc v).memWf = s.memWf := by simp [State.setDisc]

@[simp] theorem State.setPair_memWf (s : State) (v : Nat) : (s.setPair v).memWf = s.memWf := by simp [State.setPair]

@[simp] theorem State.sendJob_memWf (s : State) (j : Job) : (s.sendJob j).memWf = s.memWf := by
  unfold State.sendJob
  (repeat' split) <;> simp

@[simp] theorem State.pumpJobs_memWf (s : State) (done js : List Job) : (s.pumpJobs done js).memWf = s.memWf := by
  induction js generalizing s done with
  | nil => simp [State.pumpJobs]
  | cons j rest ih =>
    unfold State.pumpJobs
    split
    · exact ih s _
    · exact ih s _
    · extract_lets all op opening path steps job sent
      split
      · exact ih s _
      · simp [ih, sent]

@[simp] theorem State.smtPump_memWf (s : State) : s.smtPump.memWf = s.memWf := s.pumpJobs_memWf _ _

@[simp] theorem State.addJobs_memWf (s : State) (l : List Job) : (s.addJobs l).memWf = s.memWf := by simp [State.addJobs]

@[simp] theorem State.commit_memWf (s : State) (b : MirBody) : (s.commit b).memWf = s.memWf := by simp [State.commit]

@[simp] theorem State.admitAll_memWf (s : State) : (s.admitAll).memWf = s.memWf := by simp [State.admitAll]

@[simp] theorem State.beginChange_memWf (s : State) (n : Nat) : (s.beginChange n).memWf = s.memWf := by simp [State.beginChange]

@[simp] theorem State.appoint_memWf (s : State) : s.appoint.memWf = s.memWf := by
  refine foldl_keeps (g := State.memWf) (fun t c => ?_) _ s
  dsimp only
  split
  · rfl
  split
  all_goals
    split <;> simp

@[simp] theorem State.answerOp_memWf (s : State) (a : OpAnswer) : (s.answerOp a).memWf = s.memWf := by simp [State.answerOp]

@[simp] theorem State.startFw_memWf (s : State) (x : FwJob) : (s.startFw x).memWf = s.memWf := by
  refine (foldl_keeps (g := State.memWf) (fun t i => ?_) _ _).trans (s.updSmt_memWf _)
  split <;> simp

@[simp] theorem State.pumpPlan_memWf (s : State) : (s.pumpPlan).memWf = s.memWf := by simp [State.pumpPlan]

@[simp] theorem State.sendPlan_memWf (s : State) (ixs : List Nat) : (s.sendPlan ixs).memWf = s.memWf := by simp [State.sendPlan]

@[simp] theorem State.stopSlices_memWf (s : State) (p : SliceRec → Bool) (cause : Nat) (el : Nat) : (s.stopSlices p cause el).memWf = s.memWf := by
  simp [State.stopSlices]

@[simp] theorem State.pkgFailed_memWf (s : State) (ix : Nat) : (s.pkgFailed ix).memWf = s.memWf := by
  unfold State.pkgFailed
  split <;> simp

@[simp] theorem State.recut_memWf (s : State) : (s.recut).memWf = s.memWf := by simp [State.recut]

@[simp] theorem State.portFailed_memWf (s : State) (ser : BitVec 128) (role : Nat) (p : PortRec) : (s.portFailed ser role p).memWf = s.memWf := by
  unfold State.portFailed
  extract_lets failed a b stopped recut
  have hstopped : stopped.memWf = s.memWf := by
    unfold stopped
    clear_value a b
    split <;> simp [failed]
  have hrecut : recut.memWf = s.memWf := by simp [recut, hstopped]
  clear_value recut
  split
  · split
    · split <;> simp [hrecut]
    · split <;> simp [hrecut]
  · exact hrecut

@[simp] theorem State.find_memWf (s : State) (ser : BitVec 128) (role : Nat) (route : List Nat) : (s.find ser role route).memWf = s.memWf := by
  simp [State.find]

@[simp] theorem State.findBoth_memWf (s : State) (ser : BitVec 128) (role : Nat) (route : List Nat) : (s.findBoth ser role route).memWf = s.memWf := by
  simp [State.findBoth]

@[simp] theorem State.joinShape_memWf (s : State) (ix : Nat) : (s.joinShape ix).memWf = s.memWf := by
  unfold State.joinShape
  split <;> simp

@[simp] theorem State.joinSwitch_memWf (s : State) (w : SwRec) : (s.joinSwitch w).memWf = s.memWf := by simp [State.joinSwitch]

@[simp] theorem State.meet_memWf (s : State) (d : FoundDie) (r : PortRep) : (s.meet d r).memWf = s.memWf := by simp [State.meet]

@[simp] theorem State.portReport_memWf (s : State) (d : FoundDie) (r : PortRep) : (s.portReport d r).memWf = s.memWf := by
  unfold State.portReport
  extract_lets old met lost oldRep rep new committed logged stopped shaped planned failed
  have hmet : met.memWf = s.memWf := s.meet_memWf d r
  have hcommitted : committed.memWf = s.memWf := by simp [committed, hmet]
  have hlogged : logged.memWf = s.memWf := by
    unfold logged
    split
    · split <;> simp [hcommitted]
    · simp [hcommitted]
  have hstopped : stopped.memWf = s.memWf := by simp [stopped, hlogged]
  have hshaped : shaped.memWf = s.memWf := by
    unfold shaped
    clear_value stopped
    split
    · split
      · split <;> simp [hstopped]
      · exact hstopped
    · split
      · split <;> simp [hstopped]
      · split
        · split
          · simp [hstopped]
          · exact hstopped
        · exact hstopped
  have hplanned : planned.memWf = s.memWf := by
    unfold planned
    split <;> simp [hshaped]
  have hfailed : failed.memWf = s.memWf := by
    unfold failed
    split <;> simp [hplanned]
  split
  · simp [hmet]
  split
  · exact hmet
  · split <;> simp [hfailed]

@[simp] theorem State.exploreFrom_memWf (s : State) (d : FoundDie) (l : List PortRep) : (s.exploreFrom d l).memWf = s.memWf := by simp [State.exploreFrom]

@[simp] theorem State.releasePorts_memWf (s : State) (p : FoundDie → Bool) : (s.releasePorts p).memWf = s.memWf := by simp [State.releasePorts]

@[simp] theorem State.clearRetrains_memWf (s : State) (p : FoundDie → PortRec → Bool) : (s.clearRetrains p).memWf = s.memWf := by simp [State.clearRetrains]

@[simp] theorem State.replan_memWf (s : State) : s.replan.memWf = s.memWf := by
  unfold State.replan
  extract_lets m0 m goneP newP goneW newW shaped joined switched cleared reported
  have hcleared : cleared.memWf = s.memWf := by simp [cleared, switched, joined, shaped]
  have hreported : reported.memWf = s.memWf := by
    refine (foldl_keeps (g := State.memWf) (fun t d => foldl_keeps (g := State.memWf) (fun u p => ?_) _ t) _ cleared).trans hcleared
    split <;> simp
  simp [hreported]

@[simp] theorem State.haltDone_memWf (s : State) (id : Nat) : (s.haltDone id).memWf = s.memWf := by
  unfold State.haltDone
  split <;> simp

@[simp] theorem State.sliceAnswer_memWf (s : State) (x : SliceRec) (st : OpStatus) (data : List Byte) : (s.sliceAnswer x st data).memWf = s.memWf := by
  unfold State.sliceAnswer
  split <;> simp

theorem State.actOn_memWf (op : OpHdr → OpCmd → State → State) (s : State) (b : MirBody) (hop : ∀ h c t, (op h c t).memWf = t.memWf) :
    (State.actOn op s b).memWf = s.memWf := by
  unfold State.actOn
  split
  · extract_lets held answered planned
    have hheld : held.memWf = s.memWf := by simp [held]
    have hanswered : answered.memWf = s.memWf := by
      unfold answered
      split <;> simp [hheld]
    simp [planned, hanswered]
  · simp
  · simp
  · simp
  · simp
  · exact hop _ _ _
  · simp
  · simp
  · rfl
  · rfl
  · rfl
  · rfl
  · rfl

theorem State.runActs_memWf (op : OpHdr → OpCmd → State → State) (n : Nat) (s : State) (hop : ∀ h c t, (op h c t).memWf = t.memWf) :
    (State.runActs op n s).memWf = s.memWf := by
  induction n generalizing s with
  | zero => rfl
  | succ n ih =>
    unfold State.runActs
    split
    · rfl
    · exact (ih _).trans (foldl_keeps (g := State.memWf) (fun t r => (State.actOn_memWf op _ _ hop).trans (by simp)) _ s)

@[simp] theorem State.startExplore_memWf (s : State) : (s.startExplore).memWf = s.memWf := by simp [State.startExplore]

@[simp] theorem State.startClaim_memWf (s : State) : (s.startClaim).memWf = s.memWf := by simp [State.startClaim]

@[simp] theorem State.smtStepDown_memWf (s : State) : (s.smtStepDown).memWf = s.memWf := by simp [State.smtStepDown]

@[simp] theorem State.resumeChange_memWf (s : State) : (s.resumeChange).memWf = s.memWf := by
  unfold State.resumeChange
  split <;> simp

@[simp] theorem State.takeOver_memWf (s : State) : (s.takeOver).memWf = s.memWf := by
  unfold State.takeOver
  dsimp only
  split <;> simp

@[simp] theorem State.claimWon_memWf (s : State) (c : Claim) : (s.claimWon c).memWf = s.memWf := by simp [State.claimWon]

@[simp] theorem State.startAssign_memWf (s : State) : (s.startAssign).memWf = s.memWf := by simp [State.startAssign]

@[simp] theorem State.startInstall_memWf (s : State) : (s.startInstall).memWf = s.memWf := by simp [State.startInstall]

@[simp] theorem State.sweepStep_memWf (s : State) : (s.sweepStep).memWf = s.memWf := by simp [State.sweepStep]

@[simp] theorem State.smtAdvance_memWf (s : State) : (s.smtAdvance).memWf = s.memWf := by
  unfold State.smtAdvance
  split <;> simp

@[simp] theorem State.dropJob_memWf (s : State) (j : Job) : (s.dropJob j).memWf = s.memWf := by simp [State.dropJob]

@[simp] theorem State.putJob_memWf (s : State) (j : Job) (j' : Job) : (s.putJob j j').memWf = s.memWf := by simp [State.putJob]

@[simp] theorem State.nextStep_memWf (s : State) (j : Job) : (s.nextStep j).memWf = s.memWf := by
  unfold State.nextStep
  split <;> simp

@[simp] theorem State.opDone_memWf (s : State) (code : Nat) (ix : Nat) (ok : Bool) (data : List Byte) : (s.opDone code ix ok data).memWf = s.memWf := by
  unfold State.opDone
  dsimp only
  split <;> simp

@[simp] theorem State.opWait_memWf (s : State) (h : OpHdr) (code : Nat) (ixs : List Nat) : (s.opWait h code ixs).memWf = s.memWf := by simp [State.opWait]

@[simp] theorem State.sliceUndo_memWf (s : State) (id : Nat) : (s.sliceUndo id).memWf = s.memWf := by
  unfold State.sliceUndo
  split <;> simp

@[simp] theorem State.memberJoined_memWf (s : State) (id : Nat) (ix : Nat) : (s.memberJoined id ix).memWf = s.memWf := by
  unfold State.memberJoined
  split <;> simp

@[simp] theorem State.memberScrubbed_memWf (s : State) (ser : BitVec 128) (id : Nat) : (s.memberScrubbed ser id).memWf = s.memWf := by
  unfold State.memberScrubbed
  split <;> simp

@[simp] theorem State.partitionsGone_memWf (s : State) (ix : Nat) : (s.partitionsGone ix).memWf = s.memWf := by simp [State.partitionsGone]

@[simp] theorem State.freshPorts_memWf (s : State) (ser : BitVec 128) : (s.freshPorts ser).memWf = s.memWf := by simp [State.freshPorts]

@[simp] theorem State.readmitted_memWf (s : State) (ix : Nat) : (s.readmitted ix).memWf = s.memWf := by
  unfold State.readmitted
  split <;> simp

@[simp] theorem State.joined_memWf (s : State) (ser : BitVec 128) : (s.joined ser).memWf = s.memWf := by
  unfold State.joined
  split <;> simp

@[simp] theorem State.startReadmit_memWf (s : State) (ix : Nat) : (s.startReadmit ix).memWf = s.memWf := by simp [State.startReadmit]

@[simp] theorem State.fwResult_memWf (s : State) (ix st c : Nat) : (s.fwResult ix st c).memWf = s.memWf := by
  unfold State.fwResult
  split
  · rfl
  dsimp only
  split
  · split <;> simp
  · simp

@[simp] theorem State.fwStatus_memWf (s : State) (ix : Nat) (d : List Byte) : (s.fwStatus ix d).memWf = s.memWf := by
  unfold State.fwStatus
  split <;> simp

@[simp] theorem State.pumpActivate_memWf (s : State) : (s.pumpActivate).memWf = s.memWf := by
  unfold State.pumpActivate
  split <;> simp

@[simp] theorem State.readSlices_memWf (s : State) (ix : Nat) (d : List Byte) : (s.readSlices ix d).memWf = s.memWf := by simp [State.readSlices]

@[simp] theorem State.jobFailed_memWf (s : State) (j : Job) : (s.jobFailed j).memWf = s.memWf := by
  unfold State.jobFailed
  split <;> simp

@[simp] theorem State.mcAnswer_memWf (s : State) (j : Job) (st : Nat) (d : List Byte) : (s.mcAnswer j st d).memWf = s.memWf := by
  unfold State.mcAnswer
  (repeat' split) <;> simp

@[simp] theorem State.cmdDone_memWf (s : State) (ser : BitVec 128) (role : Nat) (port : Nat) (code : Nat) :
    (s.cmdDone ser role port code).memWf = s.memWf := by
  unfold State.cmdDone
  split <;> simp

@[simp] theorem State.beatAnswer_memWf (s : State) (fab : Bool) (term : BitVec 32) (standby : Bool) (applied : Nat) :
    (s.beatAnswer fab term standby applied).memWf = s.memWf := by
  simp [State.beatAnswer]

@[simp] theorem State.mirrorAnswer_memWf (s : State) (term : BitVec 32) (seq : Nat) (lacks : Option Nat) :
    (s.mirrorAnswer term seq lacks).memWf = s.memWf := by
  unfold State.mirrorAnswer
  split
  · simp
  dsimp only
  split <;> simp

@[simp] theorem State.applyRec_memWf (s : State) (r : MirRec) : (s.applyRec r).memWf = s.memWf := by simp [State.applyRec]

@[simp] theorem State.imageAnswer_memWf (s : State) (recs : List MirRec) (last : Bool) (off : Nat) : (s.imageAnswer recs last off).memWf = s.memWf := by
  simp [State.imageAnswer]

@[simp] theorem State.identAnswer_memWf (s : State) (tag : JobTag) (ser : BitVec 128) (role : Nat) (variant : Nat) (safe : Bool) (idle : Bool)
    (dig : BitVec 128) :
    (s.identAnswer tag ser role variant safe idle dig).memWf = s.memWf := by
  unfold State.identAnswer
  dsimp only
  split <;> simp

@[simp] theorem State.jobOk_memWf (s : State) (j : Job) (t : MgrTarget) (op : MgrOp) (b : AnsBody) : (s.jobOk j t op b).memWf = s.memWf := by
  unfold State.jobOk
  (repeat' split) <;> simp

@[simp] theorem State.jobFail_memWf (s : State) (j : Job) : (s.jobFail j).memWf = s.memWf := by
  unfold State.jobFail
  dsimp only
  (repeat' split) <;> simp

theorem State.settleSummit_memWf (op : OpHdr → OpCmd → State → State) (s : State) (hop : ∀ h c t, (op h c t).memWf = t.memWf) :
    (State.settleSummit op s).memWf = s.memWf := by
  simp [State.settleSummit, State.runActs_memWf op _ _ hop]

@[simp] theorem State.takeAnswer_memWf (s : State) (a : MgrAns) : (s.takeAnswer a).memWf = s.memWf := by
  unfold State.takeAnswer
  (repeat' split) <;> simp

@[simp] theorem State.capsReturn_memWf (s : State) (w : WsRec) : (s.capsReturn w).memWf = s.memWf := by
  unfold State.capsReturn
  split <;> simp

@[simp] theorem State.opExec_memWf (h : OpHdr) (c : OpCmd) (s : State) : (State.opExec h c s).memWf = s.memWf := by
  unfold State.opExec
  extract_lets ans
  have hans (st : OpStatus) (b : List Byte) (t : State) : (ans st b t).memWf = t.memWf := State.answerOp_memWf _ _
  clear_value ans
  cases c with
  | sliceAlloc kind count a b cmask partIdx join =>
    dsimp only
    split
    · exact hans _ _ _
    split
    · simp
    · exact hans _ _ _
  | sliceFree id =>
    dsimp only
    split <;> simp [hans]
  | shapeRead cube =>
    dsimp only
    split <;> simp [hans]
  | planUpdate img sig =>
    dsimp only
    split
    · simp [hans]
    split <;> simp [hans]
  | readmit co =>
    dsimp only
    split
    · split <;> simp [hans]
    · exact hans _ _ _
  | logRead n => simp
  | powerSet co slice body =>
    dsimp -zeta only
    extract_lets ixs waits
    split
    · exact hans _ _ _
    · simp [waits]
  | wsConfig r =>
    dsimp only
    split
    · split <;> simp [hans]
    · exact hans _ _ _
  | fwDistribute t k content =>
    dsimp only
    split
    · split
      · split <;> simp [hans]
      · exact hans _ _ _
    · exact hans _ _ _
  | fwActivate id t fl =>
    dsimp only
    split <;> simp [hans]
  | ridgeStop cube =>
    dsimp only
    split <;> simp [hans]
  | ridgeWake cube mask =>
    dsimp only
    split <;> simp [hans]
  | deviceReset co =>
    dsimp only
    split <;> simp [hans]
  | other b => exact hans _ _ _

@[simp] theorem State.summit_memWf (s : State) : (s.summit).memWf = s.memWf := by
  unfold State.summit
  split
  · exact s.settleSummit_memWf _ State.opExec_memWf
  · rfl

@[simp] theorem State.operator_memWf (s : State) (h : OpHdr) (c : OpCmd) : (s.operator h c).memWf = s.memWf := by
  unfold State.operator
  (repeat' split) <;> simp

theorem State.endpointServed_memWf {b : Bool} {s : State} (m : MgtIn) {f : State → Session → State × Nat × List Byte} (x : Session)
    (hf : ∀ t y, t.memWf = b → (f t y).1.memWf = b) (h : s.memWf = b) : (s.endpointServed m f x).1.memWf = b := by
  unfold State.endpointServed
  split
  · exact hf _ _ h
  · exact h

theorem State.endpointAuth_memWf {b : Bool} {s : State} (m : MgtIn) {f : State → Session → State × Nat × List Byte}
    (hf : ∀ t y, t.memWf = b → (f t y).1.memWf = b) (h : s.memWf = b) : (s.endpointAuth m f).memWf = b :=
  (State.mgtSend_memWf _ _ _ _).trans
    (State.authRun_memWf m 2 _ (fun _ _ _ => rfl) (fun _ _ => rfl) (fun _ y ht => State.endpointServed_memWf m y hf ht) h)

theorem State.endpointOp_memWf {b : Bool} {s : State} (m : MgtIn) (op : BitVec 8) {f : State → Session → State × Nat × List Byte}
    (hf : ∀ t y, t.memWf = b → (f t y).1.memWf = b) (h : s.memWf = b) : (s.endpointOp m op f).memWf = b := by
  unfold State.endpointOp
  split
  next t ok heq =>
  have ht : t.memWf = b := by simp [State.memWf_of_pair heq, h]
  split
  · exact ht
  · exact State.endpointAuth_memWf m hf ht

theorem State.endpointOp_memWf_eq (s : State) (m : MgtIn) (op : BitVec 8) {f : State → Session → State × Nat × List Byte}
    (hf : ∀ t y, (f t y).1.memWf = t.memWf) : (s.endpointOp m op f).memWf = s.memWf :=
  State.endpointOp_memWf m op (fun t y ht => (hf t y).trans ht) rfl

@[simp] theorem State.endpointReplies_memWf (s : State) (m : MgtIn) (st : Nat) (data : List Byte) : (s.endpointReplies m st data).memWf = s.memWf := by
  simp [State.endpointReplies]

@[simp] theorem State.pairOpenDo_memWf (s : State) (m : MgtIn) : (s.pairOpenDo m).memWf = s.memWf := by simp [State.pairOpenDo]

@[simp] theorem pairOpen_memWf (m : MgtIn) (s : State) : (pairOpen m s).memWf = s.memWf := by simp [pairOpen]

@[simp] theorem heartbeat_memWf (m : MgtIn) (s : State) : (heartbeat m s).memWf = s.memWf := by
  refine (State.summit_memWf _).trans (State.endpointOp_memWf_eq _ _ _ fun t y => ?_)
  extract_lets term isolated deposed synced seen
  have hdeposed : deposed.memWf = t.memWf := by simp [deposed]
  have hsynced : synced.memWf = t.memWf := by simp [synced, hdeposed]
  split
  · rfl
  · simp [seen, hsynced]

@[simp] theorem mirror_memWf (m : MgtIn) (recs : List MirRec) (s : State) : (mirror m recs s).memWf = s.memWf := by
  refine (State.summit_memWf _).trans (State.endpointOp_memWf_eq _ _ _ fun t y => ?_)
  split
  · rfl
  split
  · rfl
  · simp

@[simp] theorem syncRead_memWf (m : MgtIn) (s : State) : (syncRead m s).memWf = s.memWf := by
  refine State.endpointOp_memWf_eq _ _ _ fun t y => ?_
  dsimp only
  (repeat' split) <;> simp

@[simp] theorem termNotice_memWf (m : MgtIn) (s : State) : (termNotice m s).memWf = s.memWf := by
  refine (State.summit_memWf _).trans (State.endpointOp_memWf_eq _ _ _ fun t y => ?_)
  dsimp only
  split
  · rfl
  split <;> simp

@[simp] theorem State.smtWake_memWf (s : State) : (s.smtWake).memWf = s.memWf := by simp [State.smtWake]

@[simp] theorem smtEn_memWf (v : Word) (s : State) : (smtEn v s).memWf = s.memWf := by simp [smtEn]

@[simp] theorem pairWaitExpire_memWf (s : State) : (pairWaitExpire s).memWf = s.memWf := by simp [pairWaitExpire]

@[simp] theorem discoveryPoll_memWf (s : State) : (discoveryPoll s).memWf = s.memWf := by simp [discoveryPoll]

@[simp] theorem exploreEnd_memWf (settled : Bool) (s : State) : (exploreEnd settled s).memWf = s.memWf := by simp [exploreEnd]

@[simp] theorem mgrClaim_memWf (b : List Byte) (s : State) : (mgrClaim b s).1.memWf = s.memWf := by
  unfold mgrClaim
  dsimp only
  split
  · rfl
  split <;> simp

@[simp] theorem claimTimeout_memWf (s : State) : (claimTimeout s).memWf = s.memWf := by simp [claimTimeout]

@[simp] theorem smtGenGo_memWf (v : Word) (s : State) : (smtGenGo v s).memWf = s.memWf := by simp [smtGenGo]

@[simp] theorem routeGenDone_memWf (us : BitVec 32) (unreadable : Bool) (s : State) : (routeGenDone us unreadable s).memWf = s.memWf := by simp [routeGenDone]

@[simp] theorem routeChange_memWf (s : State) : (routeChange s).memWf = s.memWf := by simp [routeChange]

@[simp] theorem State.rotate_memWf (s : State) (ser : BitVec 128) (role : Nat) (port : Nat) : (s.rotate ser role port).memWf = s.memWf := by
  unfold State.rotate
  split <;> simp

@[simp] theorem keyRotation_memWf (ser : BitVec 128) (role : Nat) (port : Nat) (s : State) : (keyRotation ser role port s).memWf = s.memWf := by
  simp [keyRotation]

@[simp] theorem portRetrain_memWf (ser : BitVec 128) (role : Nat) (port : Nat) (s : State) : (portRetrain ser role port s).memWf = s.memWf := by
  unfold portRetrain
  split <;> simp

@[simp] theorem sliceJoinTimeout_memWf (id : Nat) (s : State) : (sliceJoinTimeout id s).memWf = s.memWf := by simp [sliceJoinTimeout]

@[simp] theorem State.missBeat_memWf (s : State) (seen : Bool) (f : Machine.Field) : (s.missBeat seen f).memWf = s.memWf := by simp [State.missBeat]

@[simp] theorem State.countBeats_memWf (s : State) : (s.countBeats).memWf = s.memWf := by simp [State.countBeats]

@[simp] theorem State.clearBeats_memWf (s : State) : (s.clearBeats).memWf = s.memWf := by simp [State.clearBeats]

@[simp] theorem State.claimNow_memWf (s : State) : (s.claimNow).memWf = s.memWf := by simp [State.claimNow]

@[simp] theorem State.waitClaim_memWf (s : State) : (s.waitClaim).memWf = s.memWf := by simp [State.waitClaim]

@[simp] theorem State.standbyBeat_memWf (s : State) : (s.standbyBeat).memWf = s.memWf := by simp [State.standbyBeat]

@[simp] theorem State.judgeBeats_memWf (s : State) : (s.judgeBeats).memWf = s.memWf := by simp [State.judgeBeats]

@[simp] theorem State.sendBeats_memWf (s : State) : (s.sendBeats).memWf = s.memWf := by simp [State.sendBeats]

@[simp] theorem heartbeatPeriod_memWf (s : State) : (heartbeatPeriod s).memWf = s.memWf := by simp [heartbeatPeriod]

@[simp] theorem State.managerEvent_memWf (s : State) (ser : BitVec 128) (role : Nat) (e : AgentEvent) (valid fenced : Bool) (part : Option Part) :
    (s.managerEvent ser role e valid fenced part).memWf = s.memWf := by
  unfold State.managerEvent
  split
  · rfl
  extract_lets told relist handled
  have htold : told.memWf = s.memWf := s.emit_memWf _
  have hrelist (t : State) : (relist t).memWf = t.memWf := t.addJobs_memWf _
  have hhandled : handled.memWf = s.memWf := by
    unfold handled
    clear_value relist told
    split
    · split
      · extract_lets rep seen
        have hseen : seen.memWf = s.memWf := by simp [seen, htold]
        split
        · rw [hrelist, hseen]
        · exact hseen
      · rw [hrelist, htold]
    split
    · simp [htold]
    split
    · split
      · extract_lets hurt logged shaped
        have hlogged : logged.memWf = s.memWf := by simp [logged, htold]
        have hshaped : shaped.memWf = s.memWf := by simp [shaped, hlogged]
        simp [hshaped]
      · exact htold
    · rw [hrelist, htold]
  simp [hhandled]

@[simp] theorem event_memWf (x : EventIn) (s : State) : (event x s).memWf = s.memWf := by
  unfold event
  split <;> simp

@[simp] theorem State.retryJob_memWf (s : State) (xid : Nat) : (s.retryJob xid).memWf = s.memWf := by
  unfold State.retryJob
  split <;> simp

@[simp] theorem State.wsAsk_memWf (s : State) (w : WsRec) : (s.wsAsk w).memWf = s.memWf := by simp [State.wsAsk]

@[simp] theorem State.wsSlice_memWf (s : State) (w : WsRec) (r : WsRound) (x : SliceRec) : (s.wsSlice w r x).memWf = s.memWf := by
  unfold State.wsSlice
  dsimp only
  split <;> simp

@[simp] theorem State.wsRound_memWf (s : State) (rounds : List WsRound) (w : WsRec) : (s.wsRound rounds w).memWf = s.memWf := by
  unfold State.wsRound
  split <;> simp

@[simp] theorem watershedRound_memWf (rounds : List WsRound) (s : State) : (watershedRound rounds s).memWf = s.memWf := by simp [watershedRound]

@[simp] theorem State.alignRack_memWf (s : State) (x : CubeXfer) : (s.alignRack x).memWf = s.memWf := by
  unfold State.alignRack
  dsimp only
  split
  · rfl
  split <;> simp

@[simp] theorem cubeTimeAlign_memWf (xs : List CubeXfer) (s : State) : (cubeTimeAlign xs s).memWf = s.memWf := by simp [cubeTimeAlign]

@[simp] theorem mgrAnswer_memWf (a : MgrAns) (s : State) : (mgrAnswer a s).memWf = s.memWf := by simp [mgrAnswer]

@[simp] theorem mgrScrubbed_memWf (ser : BitVec 128) (id : Nat) (s : State) : (mgrScrubbed ser id s).memWf = s.memWf := by simp [mgrScrubbed]

end Sys2Proof.Machine
end

section
/-! The memory form under the accesses from outside: cores, BAR2, register rows, the host and the operator (05 R190–R192, 16). -/

namespace Sys2Proof.Machine

@[simp] theorem State.readChan_memWf (s : State) (w : Requester) (k : Fin 100) (off : Nat) (h : s.memWf = true) : (s.readChan w k off).1.memWf = true := by
  unfold State.readChan
  (repeat' split) <;> simp [h]

@[simp] theorem State.writeChan_memWf (s : State) (w : Requester) (k : Fin 100) (off : Nat) (v : Word) : (s.writeChan w k off v).memWf = s.memWf := by
  unfold State.writeChan
  dsimp only
  split
  · split
    · split <;> simp
    · (repeat' split) <;> simp
  split
  · (repeat' split) <;> simp
  · rfl

@[simp] theorem State.door_memWf (s : State) (r : QRef) (v : Word) (h : s.memWf = true) : (s.door r v).memWf = true := by simp [State.door, h]

@[simp] theorem State.setGate_memWf (s : State) (r : QRef) (v : Word) : (s.setGate r v).memWf = s.memWf := by simp [State.setGate]

@[simp] theorem State.readReg_memWf (s : State) (w : Requester) (a : Nat) (h : s.memWf = true) : (s.readReg w a).1.memWf = true := by
  unfold State.readReg
  dsimp only
  (repeat' split) <;> simp [h]

@[simp] theorem State.hostWrite_memWf (s : State) (w : Requester) (p : Page) (off : Nat) (v : Word) (h : s.memWf = true) :
    (s.hostWrite w p off v).memWf = true := by
  unfold State.hostWrite
  (repeat' split) <;> simp [h]

@[simp] theorem State.clearCounter_memWf (s : State) (p : Page) (lo : Nat) : (s.clearCounter p lo).memWf = s.memWf := by simp [State.clearCounter]

@[simp] theorem State.plainWrite_memWf (s : State) (p : Page) (r : RegDef) (off : Nat) (v : Word) : (s.plainWrite p r off v).memWf = s.memWf := by
  simp [State.plainWrite]

@[simp] theorem State.clampCal_memWf (s : State) (p : Page) : (s.clampCal p).memWf = s.memWf := by simp [State.clampCal]

@[simp] theorem State.telSelect_memWf (s : State) (k : PDie) : (s.telSelect k).memWf = s.memWf := by simp [State.telSelect]

@[simp] theorem State.showDark_memWf (s : State) (j : OptPort) : (s.showDark j).memWf = s.memWf := by simp [State.showDark]

@[simp] theorem State.resetControl_memWf (s : State) (v : Word) (f : BootFind) (h : s.memWf = true) : (s.resetControl v f).memWf = true := by
  simp [State.resetControl, h]

theorem State.ownWrite_memWf (s : State) (p : Page) (off : Nat) (v : Word) (f : BootFind) (h : s.memWf = true) :
    (s.ownWrite p off v f).all State.memWf = true := by
  unfold State.ownWrite
  dsimp only
  (repeat' split) <;> simp [h]

@[simp] theorem State.afterWrite_memWf (s : State) (p : Page) (off : Nat) : (s.afterWrite p off).memWf = s.memWf := by
  unfold State.afterWrite
  (repeat' split) <;> simp

@[simp] theorem State.innerWrite_memWf (s : State) (w : Requester) (p : Page) (off : Nat) (v : Word) (f : BootFind) (h : s.memWf = true) :
    (s.innerWrite w p off v f).memWf = true := by
  have hown := s.ownWrite_memWf p off v f h
  unfold State.innerWrite
  split
  · simp [h]
  · exact h
  split
  · simp [h]
  split
  · simp [h]
  split
  · simp [h]
  split
  · simp [h]
  split
  · simp [h]
  split
  · simp [h]
  split
  · split <;> simp [h]
  split
  · next t ht => simpa [ht] using hown
  · simp [h]

@[simp] theorem State.writeReg_memWf (s : State) (w : Requester) (a : Nat) (v : Word) (f : BootFind) (h : s.memWf = true) :
    (s.writeReg w a v f).memWf = true := by
  unfold State.writeReg
  split <;> simp [h]

@[simp] theorem counterOvfClear_memWf (w : Requester) (p : Page) (lo : Nat) (s : State) (h : s.memWf = true) : (counterOvfClear w p lo s).memWf = true := by
  simp [counterOvfClear, h]

@[simp] theorem State.issueParts_memWf (s : State) (c : CDie) (left : Nat) (ps : List ((BitVec 32 → Packet) × Owner)) :
    (s.issueParts c left ps).memWf = s.memWf := by
  simp [State.issueParts]

@[simp] theorem State.coreRead_memWf (s : State) (c : CDie) (x : CoreSt) (d : Dispatch) (pl : CorePlace) (a : Nat) (n : Nat) (o : Obs) (wr : Bool) :
    (s.coreRead c x d pl a n o wr).1.memWf = s.memWf := by
  unfold State.coreRead
  split <;> simp

@[simp] theorem State.corePut_memWf (s : State) (c : CDie) (x : CoreSt) (d : Dispatch) (pl : CorePlace) (a : Nat) (bs : List Byte) (o : Obs)
    (h : s.memWf = true) :
    (s.corePut c x d pl a bs o).1.memWf = true := by
  unfold State.corePut
  split <;> simp [h]

@[simp] theorem State.coreNear_memWf (s : State) (c : CDie) (k : Core) (x : CoreSt) (d : Dispatch) (pl : CorePlace) (op : RemoteOp) (o : Obs)
    (h : s.memWf = true) : (s.coreNear c k x d pl op o).1.memWf = true := by
  unfold State.coreNear
  extract_lets a inScratch fits
  split
  · exact h
  split
  · split <;> next heq => simp [State.memWf_of_pair heq, h]
  · extract_lets r
    have hr : r.1.memWf = true := by
      refine foldl_fst_memWf_true (fun e p he => ?_) _ _ h
      split
      · exact he
      · exact State.corePut_memWf _ _ _ _ _ _ _ _ he
    split <;> exact hr
  · split
    next t bs ht =>
      have htm : t.memWf = true := by simp [State.memWf_of_pair ht, h]
      split <;> next heq => exact (State.memWf_of_pair heq).trans (State.corePut_memWf _ _ _ _ _ _ _ _ htm)
    next t _ _ _ ht => simp [State.memWf_of_pair ht, h]
  · split <;> exact h
  · split
    · split <;> exact h
    · exact h

@[simp] theorem State.coreRegs_memWf (s : State) (c : CDie) (x : CoreSt) (d : Dispatch) (off : Nat) (op : RemoteOp) (h : s.memWf = true) :
    (s.coreRegs c x d off op).1.memWf = true := by
  unfold State.coreRegs
  (repeat' split) <;> simp [h]

@[simp] theorem State.coreFinish_memWf (s : State) (c : CDie) (k : Core) (x : CoreSt) (d : Dispatch) (op : RemoteOp) (e : CoreEnd) :
    (s.coreFinish c k x d op e).memWf = s.memWf := by
  unfold State.coreFinish
  split <;> simp

@[simp] theorem State.coreAccess_memWf (s : State) (c : CDie) (k : Core) (x : CoreSt) (d : Dispatch) (op : RemoteOp) (o : Obs) (h : s.memWf = true) :
    (s.coreAccess c k x d op o).memWf = true := by
  unfold State.coreAccess
  extract_lets a
  split
  · simp [h]
  split
  · simp [h]
  rename_i near go _ _
  have hnear (pl : CorePlace) : (near pl).memWf = true := by simp [near, h]
  have hgo (pos : Nat) (t : CDie) : (go pos t).memWf = true := by
    unfold go
    split
    · exact hnear .board
    split <;> simp [h]
  clear_value near go
  split
  · simp [h]
  · simp [h]
  · exact hnear _
  · exact hnear _
  split
  · simp [h]
  split
  · exact hgo _ _
  · exact hgo _ _
  · exact h

@[simp] theorem coreRemoteAccess_memWf (c : CDie) (k : Core) (pre : List CoreWrite) (op : RemoteOp) (o : Obs) (s : State) (h : s.memWf = true) :
    (coreRemoteAccess c k pre op o s).memWf = true := by
  unfold coreRemoteAccess
  split <;> simp [h]

@[simp] theorem coreTrap_memWf (c : CDie) (k : Core) (pre : List CoreWrite) (t : TrapWhy) (o : Obs) (s : State) (h : s.memWf = true) :
    (coreTrap c k pre t o s).memWf = true := by
  unfold coreTrap
  (repeat' split) <;> simp [h]

@[simp] theorem State.issueBar2_memWf (s : State) (b : Bar2) : (s.issueBar2 b).memWf = s.memWf := by
  unfold State.issueBar2
  dsimp only
  split
  · simp
  split <;> simp

@[simp] theorem State.bar2Done_memWf (s : State) (b : Bar2) (bs : List Byte) : (s.bar2Done b bs).memWf = s.memWf := by simp [State.bar2Done]

@[simp] theorem State.bar2Pass_memWf (s : State) (kept bs : List Bar2) : (s.bar2Pass kept bs).1.memWf = s.memWf := by
  induction bs generalizing s kept with
  | nil => rfl
  | cons b rest ih =>
    unfold State.bar2Pass
    dsimp only
    split
    · split
      · exact ih s _
      · simp [ih]
    split
    · exact ih s _
    · simp [ih]

@[simp] theorem State.bar2Passes_memWf (s : State) (n : Nat) : (s.bar2Passes n).memWf = s.memWf := by
  induction n generalizing s with
  | zero => rfl
  | succ n ih => exact (ih _).trans (s.bar2Pass_memWf _ _)

@[simp] theorem State.bar2Fatal_memWf (s : State) : (s.bar2Fatal).memWf = s.memWf := by simp [State.bar2Fatal]

@[simp] theorem State.vfQueueWrite_memWf (s : State) (p : Part) (c : CDie) (o : Nat) (v : Word) (h : s.memWf = true) :
    (s.vfQueueWrite p c o v).memWf = true := by
  simp [State.vfQueueWrite, h]

@[simp] theorem State.msixFlush_memWf (s : State) (f : Fn) : (s.msixFlush f).memWf = s.memWf := by simp [State.msixFlush]

@[simp] theorem State.setMask_memWf (s : State) (f : Fn) (v : Nat) (on : Bool) : (s.setMask f v on).memWf = s.memWf := by simp [State.setMask]

@[simp] theorem State.windowRead_memWf (s : State) (p : Part) (off : Nat) (h : s.memWf = true) : (s.windowRead p off).1.memWf = true := by
  unfold State.windowRead
  (repeat' split) <;> simp [h]

@[simp] theorem State.windowApply_memWf (s : State) (p : Part) (off : Nat) (v : Word) (h : s.memWf = true) : (s.windowApply p off v).memWf = true := by
  unfold State.windowApply
  (repeat' split) <;> simp [h]

@[simp] theorem State.heldApply_memWf (s : State) (p : Part) (w : HostWrite) (h : s.memWf = true) : (s.heldApply p w).memWf = true := by
  unfold State.heldApply
  split <;> simp [h]

@[simp] theorem State.heldPass_memWf (s : State) (wait l : List HeldWrite) (h : s.memWf = true) : (s.heldPass wait l).1.memWf = true := by
  induction l generalizing s wait with
  | nil => exact h
  | cons w rest ih =>
    unfold State.heldPass
    split
    · exact ih _ _ h
    · exact ih _ _ (s.heldApply_memWf _ _ h)

@[simp] theorem State.settleBar2_memWf (s : State) (h : s.memWf = true) : (s.settleBar2).memWf = true := by simp [State.settleBar2, h]

@[simp] theorem State.vfWrite_memWf (s : State) (p : Part) (w : HostWrite) (h : s.memWf = true) : (s.vfWrite p w).memWf = true := by simp [State.vfWrite, h]

@[simp] theorem bar2Write_memWf (p : Part) (a : BitVec 43) (bs : List Byte) (s : State) : (bar2Write p a bs s).memWf = s.memWf := by simp [bar2Write]

@[simp] theorem bar2Read_memWf (p : Part) (a : BitVec 43) (n : Fin 4097) (s : State) : (bar2Read p a n s).memWf = s.memWf := by simp [bar2Read]

@[simp] theorem doorbellRow_memWf (src : DoorSrc) (q : QRef) (v : Word) (s : State) (h : s.memWf = true) : (doorbellRow src q v s).memWf = true := by
  unfold doorbellRow
  split <;> simp [h]

@[simp] theorem h2dSendRow_memWf (k : Fin 100) (s : State) (h : s.memWf = true) : (h2dSendRow k s).memWf = true := by
  unfold h2dSendRow
  split <;> simp [h]

@[simp] theorem State.readAt_memWf (s : State) (w : Requester) (a : RegAddr) (h : s.memWf = true) : (s.readAt w a).1.memWf = true := by
  unfold State.readAt
  (repeat' split) <;> simp [h]

@[simp] theorem State.writeAt_memWf (s : State) (w : Requester) (a : RegAddr) (v : Word) (f : BootFind) (h : s.memWf = true) :
    (s.writeAt w a v f).memWf = true := by
  unfold State.writeAt
  split <;> simp [h]

@[simp] theorem State.readWords_memWf (s : State) (w : Requester) (a : RegAddr) (n : Nat) (h : s.memWf = true) : (s.readWords w a n).1.memWf = true := by
  induction n generalizing s a with
  | zero => exact h
  | succ n ih =>
    have hread := s.readAt_memWf w a h
    exact ih _ _ hread

@[simp] theorem State.writeWords_memWf (s : State) (w : Requester) (a : RegAddr) (f : BootFind) (l : List (Word × Bool)) (h : s.memWf = true) :
    (s.writeWords w a f l).memWf = true := by
  induction l generalizing s a with
  | nil => exact h
  | cons x rest ih =>
    refine ih _ _ ?_
    split
    · exact s.writeAt_memWf _ _ _ _ h
    · exact h

@[simp] theorem State.pumpRelay_memWf (s : State) : s.pumpRelay.memWf = s.memWf := by
  unfold State.pumpRelay
  split
  · rfl
  refine foldl_keeps (g := State.memWf) (fun t p => ?_) _ s
  split
  · rfl
  · simp

@[simp] theorem State.dropRelay_memWf (s : State) (p : Nat) : (s.dropRelay p).memWf = s.memWf := by simp [State.dropRelay]

@[simp] theorem State.relayData_memWf (s : State) (r : RelayOut) (data : List Word) : (s.relayData r data).memWf = s.memWf := by simp [State.relayData]

@[simp] theorem regRead_memWf (w : Requester) (a : RegAddr) (n : Fin 1025) (s : State) (h : s.memWf = true) : (regRead w a n s).memWf = true := by
  unfold regRead
  dsimp only
  (repeat' split) <;> simp [h]

@[simp] theorem State.pciConfig_memWf (s : State) (f : Fn) (c : PciCfg) : (s.pciConfig f c).memWf = s.memWf := by
  unfold State.pciConfig
  (repeat' split) <;> simp

@[simp] theorem regWrite_memWf (w : Requester) (x : RegWrite) (f : BootFind) (s : State) (h : s.memWf = true) : (regWrite w x f s).memWf = true := by
  unfold regWrite
  (repeat' split) <;> simp [h]

@[simp] theorem State.relayAccess_memWf (s : State) (x : RelayAcc) (h : s.memWf = true) : (s.relayAccess x).1.memWf = true := by
  unfold State.relayAccess
  dsimp only
  (repeat' split) <;> simp [h]

@[simp] theorem State.relayAll_memWf (s : State) (l : List RelayAcc) (h : s.memWf = true) : (s.relayAll l).1.memWf = true := by
  induction l generalizing s with
  | nil => exact h
  | cons x rest ih => exact ih _ (s.relayAccess_memWf x h)

@[simp] theorem relay_memWf (x : RelayIn) (s : State) (h : s.memWf = true) : (relay x s).memWf = true := by
  unfold relay
  dsimp only
  (repeat' split) <;> simp [h]

@[simp] theorem mgtRequestRetry_memWf (x : RetryOf) (s : State) : (mgtRequestRetry x s).memWf = s.memWf := by
  unfold mgtRequestRetry
  (repeat' split) <;> simp

@[simp] theorem pcieLinkTrained_memWf (rate : Fin 7) (width : Fin 3) (s : State) : (pcieLinkTrained rate width s).memWf = s.memWf := by simp [pcieLinkTrained]

@[simp] theorem pfFlr_memWf (n : Fin 4) (s : State) : (pfFlr n s).memWf = s.memWf := by simp [pfFlr]

@[simp] theorem vfFlr_memWf (p : Part) (s : State) : (vfFlr p s).memWf = s.memWf := by simp [vfFlr]

@[simp] theorem doeRequest_memWf (r : DoeReq) (s : State) : (doeRequest r s).memWf = s.memWf := by
  unfold doeRequest
  split
  · rfl
  split <;> simp

@[simp] theorem i3cEntdaa_memWf (a : BitVec 7) (s : State) : (i3cEntdaa a s).memWf = s.memWf := by simp [i3cEntdaa]

@[simp] theorem pldmSensorUpdate_memWf (s : State) : (pldmSensorUpdate s).memWf = s.memWf := by simp [pldmSensorUpdate]

@[simp] theorem State.mctpAnswer_memWf (s : State) (net : Bool) (src : BitVec 8) (m : MctpMsg) (env : MsgEnv) (h : s.memWf = true) :
    (s.mctpAnswer net src m env).memWf = true := by
  unfold State.mctpAnswer
  dsimp only
  (repeat' split) <;> simp [h]

@[simp] theorem mctpPacket_memWf (net : Bool) (src : BitVec 8) (dst : BitVec 8) (m : MctpMsg) (env : MsgEnv) (s : State) (h : s.memWf = true) :
    (mctpPacket net src dst m env s).memWf = true := by
  simp [mctpPacket, h]

@[simp] theorem State.mcInner_memWf (s : State) (cmd : Nat) (b : List Byte) (h : s.memWf = true) : (s.mcInner cmd b).1.memWf = true := by
  unfold State.mcInner
  split <;> simp [h]

theorem mcRow_memWf {f : State → State × List Byte} {s : State} (hf : ∀ t, t.memWf = true → (f t).1.memWf = true) (h : s.memWf = true) :
    (mcRow f s).memWf = true := by
  unfold mcRow
  split
  · exact h
  split
  · simp [h]
  · exact (State.emit_memWf _ _).trans (hf s h)

@[simp] theorem mcCommand_memWf (m : MgtIn) (s : State) (h : s.memWf = true) : (mcCommand m s).memWf = true := by
  refine State.agentOp_memWf _ _ _ _ _ (fun t y ht => ?_) h
  extract_lets a n
  split
  · simp [ht]
  split
  · exact ht
  split
  · exact ht
  · simp [ht]

@[simp] theorem State.unsupported_memWf (s : State) (m : MgtIn) (e : Nat) : (s.unsupported m e).memWf = s.memWf := by simp [State.unsupported]

@[simp] theorem State.agentRequest_memWf (s : State) (m : MgtIn) (blobOk : Bool) (h : s.memWf = true) : (s.agentRequest m blobOk).memWf = true := by
  unfold State.agentRequest
  split
  case h_7 =>
    split
    · simp [h]
    · exact State.agentOp_memWf _ _ _ _ _ (fun _ _ ht => ht) h
  case h_19 => split <;> simp [h]
  all_goals simp [h]

@[simp] theorem State.endpointRequest_memWf (s : State) (m : MgtIn) (recs : List MirRec) : (s.endpointRequest m recs).memWf = s.memWf := by
  unfold State.endpointRequest
  split <;> simp

@[simp] theorem mgtFrame_memWf (x : MgtFrame) (s : State) (h : s.memWf = true) : (mgtFrame x s).memWf = true := by
  unfold mgtFrame
  (repeat' split) <;> simp [h]

@[simp] theorem State.after_memWf (s : State) (h : s.memWf = true) : (s.after).memWf = true := by simp [State.after, h]

@[simp] theorem operatorRow_memWf (e : OpHdr) (c : OpCmd) (f : BootFind) (s : State) (h : s.memWf = true) : (operatorRow e c f s).memWf = true := by
  simp [operatorRow, h]

@[simp] theorem spdmRow_memWf (v : Via) (r : SpdmReq) (s : State) (h : s.memWf = true) : (spdmRow v r s).memWf = true := by
  unfold spdmRow
  split <;> simp [h]

end Sys2Proof.Machine
end

section
/-! Every command and every tick keeps the memory form: the two ways a step goes. -/

namespace Sys2Proof.Machine

/-- Every command but MGMT_POWER_ON acts through `run` by a function that keeps the form. -/
theorem exec_run_keeps {c : Instr} (hc : ∀ b other f, c ≠ .mgmtPowerOn b other f) :
    ∃ f : State → State, (∀ s, exec c s = run f s) ∧ ∀ s, s.memWf = true → (f s).memWf = true := by
  cases c with
  | mgmtPowerOn b other f => exact absurd rfl (hc b other f)
  | vslyAdda128 c k pre vd vs1 vs2 => exact ⟨_, fun _ => rfl, fun s h => (s.vsly_memWf _ _ _ fun x => adda128_memWf x _ _ _ s).trans h⟩
  | vslyAdda64 c k pre vd vs1 vs2 => exact ⟨_, fun _ => rfl, fun s h => (s.vsly_memWf _ _ _ fun x => adda64_memWf x _ _ _ s).trans h⟩
  | vslyCvt c k pre vd vs1 vs2 => exact ⟨_, fun _ => rfl, fun s h => (s.vsly_memWf _ _ _ fun x => vslyConvert_memWf x _ _ _ s).trans h⟩
  | vslyUnpack c k pre vd vs1 vs2 => exact ⟨_, fun _ => rfl, fun s h => (s.vsly_memWf _ _ _ fun x => vslyUnpack_memWf x _ _ _ s).trans h⟩
  | mdlPlace v b env =>
    refine ⟨_, fun _ => rfl, fun s h => ?_⟩
    cases env.member with
    | none => simp [h]
    | some r => simp [h]
  | mgrClaim | sliceJoin | sliceLeave | sliceStop | sliceQuery | readmitMc | pwrSet | wsRead | distOpen | distData | distStatus | distActivate
  | distAbort | setMaster | readXfer | timAdj | timStop | timWake =>
    exact ⟨_, fun _ => rfl, fun s h => mcRow_memWf (fun t ht => by simp [ht]) h⟩
  | _ => exact ⟨_, fun _ => rfl, fun s h => by simp [h]⟩

theorem State.act_memWf {f : State → State} (hf : ∀ s, s.memWf = true → (f s).memWf = true) {s : State} (h : s.memWf = true) : (s.act f).memWf = true := by
  unfold State.act
  split
  · simp [hf s h]
  · exact h

theorem exec_memWf {c : Instr} {s t : State} (h : s.memWf = true) (ht : exec c s = .next t) : t.memWf = true := by
  by_cases hc : ∀ b other f, c ≠ .mgmtPowerOn b other f
  · obtain ⟨f, hrun, hf⟩ := exec_run_keeps hc
    rw [hrun] at ht
    cases ht
    exact State.act_memWf hf h
  · push Not at hc
    obtain ⟨b, other, f, rfl⟩ := hc
    cases ht
    exact mgmtPowerOn_memWf b other f s h

theorem State.memWf_countBlind : CountBlind State.memWf where
  toFatalBlind := State.memWf_blind.toFatalBlind
  fclk _ _ := rfl
  windows _ _ := rfl
  requests _ _ := rfl
  respUse _ _ := rfl

/-- A tick counts and advances the clocks: no byte of memory changes. -/
theorem State.tick_memWf (s : State) : s.tick.memWf = s.memWf := by
  cases hon : s.mgmtOn with
  | true =>
    rw [State.tick_on hon, State.tickTime_eq]
    simp [State.memWf_countBlind.counters s]
  | false => rw [State.tick_off hon]

/-- Settles O58: a step is a command of the front of the queue, which keeps the form, or a tick, which leaves the memory. -/
theorem stepsKeepTheMemoryForm : Obligations.StepsKeepTheMemoryForm := by
  intro s t h ht
  cases hp : s.pending with
  | nil =>
    rw [step_of_empty hp] at ht
    cases ht
    exact s.tick_memWf.trans h
  | cons c rest =>
    rw [step_of_front hp] at ht
    exact exec_memWf (s := { s with pending := rest }) h ht

end Sys2Proof.Machine
end
